-- ==== Sys2Proof/Word.lean ====
section
/-!
DEFINITION. The words of the WX16: 32-bit registers (R8), 64-bit queue words and times, bytes.
-/
namespace Sys2Proof

/-- A 32-bit register word. -/
abbrev Word := BitVec 32

/-- A 64-bit queue word (R480). -/
abbrev Word64 := BitVec 64

/-- A byte of memory, of a packet or of flash. -/
abbrev Byte := BitVec 8

end Sys2Proof
end

