-- ==== Sys2Proof/Syntax.lean ====
section
/-!
DEFINITION. The commands of the WX16: one constructor of `Instr` per row of the table of operations and events, with the
operands that come from outside the chip. A written register word stands as the whole word written; a measurement
(an eye scan, a temperature, a training result) and a received packet are operands, since they are inputs of the chip.
-/
namespace Sys2Proof

/-- The owner codes of R663 that have a write path, and BOOT. -/
inductive Owner where
  | boot | host | mgmt | net
deriving DecidableEq, Repr

/-- A raw step of an encoder as it is decoded before INVERT_DIR (R99, R100): A leading B, or B low at a rising edge of A,
is `fwd`; a quadrature sample in which both A and B change is `illegal`. -/
inductive EncStep where
  | fwd | rev | illegal
deriving DecidableEq, Repr

/-- A symbol of an Obver lane as 8b/10b decodes it (R126, R127): a data character, a control character of
Table — Control characters, another control character, or no character (a code violation or a running-disparity error). -/
inductive ObvSym where
  | data (b : Byte)
  /-- K28.5 -/
  | com
  /-- K28.3 -/
  | amk
  /-- K28.1 -/
  | tsk
  /-- K27.7 -/
  | sop
  /-- K29.7 -/
  | eop
  /-- K30.7 -/
  | ebp
  /-- K28.2 -/
  | trg
  | otherCtl
  | violation
deriving DecidableEq, Repr

/-- A downlink packet as the port receives it (R134, R136): the stream characters that follow SOP, up to the EOP or EBP that ends it. -/
structure DownPkt where
  syms : List ObvSym
deriving DecidableEq, Repr

/-- A training ordered set as a lane receives it (R158): its symbols 0 to 7. -/
structure TrainSet where
  syms : List ObvSym
deriving DecidableEq, Repr

/-- What the adaptation of a receiver slice has come to (R172): CTLE code, gain code and the taps of the DFE. -/
structure EqCodes where
  ctle : Fin 16 := 0
  gain : Nat := 0
  dfe  : List Int := []
deriving DecidableEq, Repr

/-- A lane of a quad that has gained symbol lock (R128): the codes that its slice has come to, and the frequency measured of the receive clock
(R44, R172). -/
structure LaneLock where
  lane  : Fin 4
  codes : EqCodes
  kHz   : Fin 1048576
deriving DecidableEq, Repr

/-- A lane of a port whose receiver has settled on a setting, with the codes that it has come to (R172, R174). -/
structure SettledLane where
  lane  : Fin 8
  codes : EqCodes
deriving DecidableEq, Repr

/-- How many consecutive symbols of a quad's Joker and of the slice that it covers have now been equal, with the codes of the slice that
adapts (R172, R187). -/
structure MatchRun where
  quad  : Fin 16
  run   : Nat
  codes : EqCodes
deriving DecidableEq, Repr

/-- A new level of DECSYNC: whether it is the high one, and in how many consecutive samples it has been shown (R419). -/
structure SyncLevel where
  rising : Bool
  stable : Nat
deriving DecidableEq, Repr

/-- What the offset sampler of a slice has counted (R181, R182): the disagreements with the data sampler at the centre, and at the points
of each direction in the order of the steps outward. A point that a list does not reach was not visited and counts as not open. -/
structure EyeScan where
  centre : Nat
  right  : List Nat
  left   : List Nat
  up     : List Nat
  down   : List Nat
  /-- The codes of the slice that was scanned. -/
  codes  : EqCodes
deriving DecidableEq, Repr

/-- The result of an eye scan: EYE_W in 1/64 UI and EYE_H in mV (R174, R183). -/
structure EyeResult where
  w : Nat
  h : Nat
deriving DecidableEq, Repr


/-- The dataset fields of a received Announce (R444): the fields that the dataset comparison of IEEE 1588 takes in turn. -/
structure AnnounceData where
  priority1  : Nat
  clockClass : Nat
  accuracy   : Nat
  variance   : Nat
  priority2  : Nat
  identity   : Nat
deriving DecidableEq, Repr

/-- An access pending at a DRAM channel's ports. -/
structure MemReq where
  port  : Nat
  addr  : Nat
  write : Bool
deriving DecidableEq, Repr

/-- What the memory reports of the read that a grant moves (R523, R525). -/
inductive MemResult where
  | good | correctedInline | correctedLink | uncorrectedInline | uncorrectedLink
deriving DecidableEq, Repr

/-- What a channel's device answers in a tracking window: its MR4 code, whether it names a temperature above 85 °C or the
high-temperature limit (R520), a reported write link error (R523), and the direction of the drift that the oscillator
count shows for the two byte lanes (R528). -/
structure TrackRead where
  mr4          : Nat
  above85      : Bool
  limit        : Bool
  writeLinkErr : Bool
  drift0       : Int
  drift1       : Int
deriving DecidableEq, Repr

/-- The quality figures of a trained channel (Table — Boot training). -/
structure MarginRead where
  readEye  : Nat
  writeEye : Nat
  vref     : Nat
deriving DecidableEq, Repr


/-- An Ethernet frame as it arrives (R552-R554): destination, VLAN ID of its tag, bytes from the destination address to the
last byte before the FCS, whether its FCS and its length are right, whether it is a PAUSE or PFC frame, its Ethertype, and for IPv4
whether it has options or is a fragment, its protocol, destination address and UDP destination port, and whether its
checksums are right. -/
structure RxFrame where
  dst      : Nat
  vid      : Option Nat
  bytes    : Nat
  fcsOk    : Bool
  lenOk    : Bool
  type     : Nat
  options  : Bool
  fragment : Bool
  proto    : Nat
  dstIp    : Nat
  dstPort  : Nat
  sumOk    : Bool
deriving DecidableEq, Repr

/-- An ARP packet (RFC 826): operation, sender and target addresses. -/
structure ArpMsg where
  op  : Nat
  sha : Nat
  spa : Nat
  tpa : Nat
deriving DecidableEq, Repr

/-- A WCP request as it arrives (R569, Table — WCP header), its CMD aside, with the port, source address and source UDP port.
Its reserved bits are 0 and RESPONSE is 0. -/
structure WcpMsg where
  port    : Fin 2
  ip      : Nat
  udp     : Nat
  magic   : Nat
  version : Nat
  keyId   : Fin 8
  len     : Nat
  nonce   : Nat
  arg0    : Nat
  arg1    : Nat
  arg2    : Nat
  mac     : Nat
  payload : List Byte
deriving DecidableEq, Repr

/-- A slot of the flash as it stands at a boot (R628, R636): its commit record, and its bytes from offset 0; flash bytes past
them are erased. -/
structure FlashSlot where
  mark  : List Byte
  image : List Byte
deriving DecidableEq, Repr

/-- What a boot finds (R631, R633): BOOTSEL and MADDR, rows repaired by the SRAM self-test and whether it repaired all, slots A and B,
the flash's JEDEC ID, the duration of step 4 in µs, the result of the boot training by channel, if it found a working setting
for each, and the tracking window of a self-refresh exit. -/
structure BootIn where
  sel      : Fin 4
  maddr    : Fin 8
  rows     : Nat
  repairOk : Bool
  slotA    : FlashSlot
  slotB    : FlashSlot
  jedec    : Nat
  tImage   : Nat
  train    : Option (List MarginRead)
  track    : List TrackRead
deriving DecidableEq, Repr

/-- The commands of the WX16, in the order of the table of operations and events. -/
inductive Instr where
  /-- MODE_REQ_IDLE (R63). -/
  | modeReqIdle (o : Owner) (w : Word)
  /-- MODE_REQ_SETUP (R63). -/
  | modeReqSetup (o : Owner) (w : Word)
  /-- MODE_REQ_RELEARN (R63). -/
  | modeReqRelearn (o : Owner) (w : Word)
  /-- MODE_REQ_INSPECT (R67). -/
  | modeReqInspect (o : Owner) (w : Word)
  /-- MODE_REQ_LEGACY (R63). -/
  | modeReqLegacy (o : Owner) (w : Word)
  /-- MODE_REQ_HOLD (R65). -/
  | modeReqHold (o : Owner) (w : Word)
  /-- JOB_END_AT_BOUNDARY (R66). -/
  | jobEndAtBoundary (v : Fin 4)
  /-- JOB_OPEN (R74). -/
  | jobOpen (o : Owner) (w : Word)
  /-- JOB_VALIDATE (R75). -/
  | jobValidate (o : Owner) (w : Word)
  /-- VALIDATION_DONE (R75). -/
  | validationDone
  /-- JOB_LOAD_NEXT (R77). -/
  | jobLoadNext (o : Owner) (w : Word)
  /-- LOAD_NEXT_DONE (R77). -/
  | loadNextDone
  /-- JOB_CANCEL_NEXT (R79). -/
  | jobCancelNext (o : Owner) (w : Word)
  /-- JOB_DELETE (R699). -/
  | jobDelete (o : Owner) (w : Word)
  /-- CHG_ARM (R82). -/
  | chgArm (o : Owner) (w : Word)
  /-- CHG_CANCEL (R83). -/
  | chgCancel (o : Owner) (w : Word)
  /-- ENTERING_VIEW_START (R85). -/
  | enteringViewStart (v : Fin 4)
  /-- CHANGEOVER_COMPLETE (R91). -/
  | changeoverComplete
  /-- ENC_COUNT (R99). -/
  | encCount (ch : Fin 2) (step : EncStep) (sample : Nat)
  /-- SSI_READ (R101). -/
  | ssiRead (ch : Fin 2) (value : Word) (sample : Nat)
  /-- ENC_INDEX (R106). -/
  | encIndex (ch : Fin 2) (sample : Nat)
  /-- STANDSTILL (R110). -/
  | standstill (ch : Fin 2) (sample : Nat)
  /-- TRIGGER_ISSUE (R118). -/
  | triggerIssue (v : Fin 4) (sample : Nat)
  /-- TG_LINE_LO_READ (R122). -/
  | tgLineLoRead (o : Owner) (v : Fin 4)
  /-- LINE_PACKET (R170). -/
  | linePacket (p : Fin 16) (pkt : DownPkt) (t : Nat)
  /-- STATUS_PACKET (R149). -/
  | statusPacket (p : Fin 16) (pkt : DownPkt) (t : Nat)
  /-- REG_RESP (R151). -/
  | regResp (p : Fin 16) (pkt : DownPkt) (t : Nat)
  /-- LANE_LOCK_GAINED (R128). -/
  | laneLockGained (q : Fin 16) (x : LaneLock)
  /-- LANE_LOCK_LOST (R128). -/
  | laneLockLost (q : Fin 16) (m : Fin 4)
  /-- ALIGN_MARKER (R132). -/
  | alignMarker (p : Fin 16) (marks : List (Option (Nat × Nat)))
  /-- HEARTBEAT (R149). -/
  | heartbeat (p : Fin 16)
  /-- STATUS_TIMEOUT (R166). -/
  | statusTimeout (p : Fin 16)
  /-- CAM_ACC_GO (R151). -/
  | camAccGo (o : Owner) (p : Fin 16) (w : Word)
  /-- CAM_REG_TIMEOUT (R151). -/
  | camRegTimeout (p : Fin 16)
  /-- NO_CAMERA_TIMEOUT (R166). -/
  | noCameraTimeout (p : Fin 16)
  /-- LINK_BASE_RESEND (R166). -/
  | linkBaseResend (p : Fin 16)
  /-- LOCK_TIMEOUT (R166). -/
  | lockTimeout (p : Fin 16)
  /-- TRAIN_TIMEOUT (R166). -/
  | trainTimeout (p : Fin 16)
  /-- ALIGN_TIMEOUT (R166). -/
  | alignTimeout (p : Fin 16)
  /-- FAILED_RETRY (R166). -/
  | failedRetry (p : Fin 16)
  /-- TRAINING_ORDERED_SET (R161). -/
  | trainingOrderedSet (p : Fin 16) (ts : TrainSet)
  /-- TRAIN_SCAN_START (R174). -/
  | trainScanStart (p : Fin 16) (x : SettledLane)
  /-- TRAIN_SCAN_DONE (R176). -/
  | trainScanDone (p : Fin 16) (m : Fin 8) (x : EyeScan)
  /-- EQ_REQ_RESEND (R162). -/
  | eqReqResend (p : Fin 16) (m : Fin 8)
  /-- EYE_SCAN_DONE (R183). -/
  | eyeScanDone (q : Fin 16) (m : Fin 4) (x : EyeScan)
  /-- RECAL_PERIOD (R189). -/
  | recalPeriod (q : Fin 16) (m : Fin 4)
  /-- JOKER_CAL_NOW (R189). -/
  | jokerCalNow (o : Owner) (q : Fin 16) (w : Word)
  /-- JOKER_MATCHED (R187): how many consecutive symbols of the Joker have now equalled those of the carrying slice, and its codes. -/
  | jokerMatched (x : MatchRun)
  /-- JOKER_MATCH_TIMEOUT (R190). -/
  | jokerMatchTimeout (q : Fin 16)
  /-- MAIN_SLICE_CAL_DONE (R189). -/
  | mainSliceCalDone (q : Fin 16) (m : Fin 4) (ok : Bool)
  /-- MAIN_SLICE_MATCHED (R189): how many consecutive symbols of the main slice have now equalled those of the Joker, and its codes. -/
  | mainSliceMatched (x : MatchRun)
  /-- JOKER_RELEASE (R195). -/
  | jokerRelease (o : Owner) (q : Fin 16) (w : Word)
  /-- JOKER_FORCE (R197). -/
  | jokerForce (o : Owner) (q : Fin 16) (w : Word)
  /-- TAP_DEADLINE (R209). -/
  | tapDeadline (p : Fin 16) (t : Nat)
  /-- FF_GO (R235). -/
  | ffGo (o : Owner) (g : Fin 8) (w : Word)
  /-- FF_ACQUIRE_DONE (R238). -/
  | ffAcquireDone (g : Fin 8)
  /-- DISPATCH_GRANT (R256). -/
  | dispatchGrant (g : Fin 8)
  /-- CONTEXT_LOAD_DONE (R249). -/
  | contextLoadDone (g : Fin 8)
  /-- PP_CORRECT_LINE (R216). -/
  | ppCorrectLine (g : Fin 8)
  /-- STITCH_VIEW_LINE (R260). -/
  | stitchViewLine (v : Fin 4)
  /-- DOT_GRID_GO (R273). -/
  | dotGridGo (o : Owner) (w : Word)
  /-- DOT_GRID_DONE (R275). -/
  | dotGridDone
  /-- TBL_DATA_ACCESS (R290). -/
  | tblDataAccess (o : Owner) (str : Bool) (w : Option Word)
  /-- REG_WINDOW_DONE (R280). -/
  | regWindowDone (v : Fin 4) (w : Fin 64)
  /-- REG_UPDATE (R281). -/
  | regUpdate (v : Fin 4)
  /-- FINE_SHIFT (R287). -/
  | fineShift (e : Fin 8)
  /-- MASTER_FETCH (R300). -/
  | masterFetch (e : Fin 8) (n : Nat) (p : Fin 3) (bx : Nat) (by_ : Nat) (err : Bool)
  /-- REDUCE_BLOCK_ROW (R314). -/
  | reduceBlockRow (v : Fin 4)
  /-- ART_PREDICT (R324). -/
  | artPredict (o : Owner) (w : Word)
  /-- ART_PREDICT_DONE (R324). -/
  | artPredictDone
  /-- TABLE_FIT (R326). -/
  | tableFit (v : Fin 4)
  /-- ADAPT_FOLD (R330). -/
  | adaptFold (v : Fin 4)
  /-- IE_COMPARE_LINE (R340). -/
  | ieCompareLine (e : Fin 8)
  /-- BAND_EMIT (R355). -/
  | bandEmit (e : Fin 8)
  /-- MRG_MERGE_BAND (R360). -/
  | mrgMergeBand (v : Fin 4) (bad : List (Fin 8 × Nat))
  /-- CROP_STORE (R378). -/
  | cropStore
  /-- RECORD_SEND (R379). -/
  | recordSend
  /-- RULE_EVALUATE (R387). -/
  | ruleEvaluate
  /-- CSCALE_STEP (R389). -/
  | cscaleStep (v : Fin 4)
  /-- CELL_VERDICT (R395). -/
  | cellVerdict
  /-- REPEAT_VERDICT (R396). -/
  | repeatVerdict
  /-- DECSYNC_EDGE (R419). -/
  | decsyncEdge (x : SyncLevel) (sample : Nat)
  /-- DEC_SYNC_WRITE (R417). -/
  | decSyncWrite (o : Owner) (w : Word)
  /-- STREAM_RESTART (R418). -/
  | streamRestart (o : Owner) (n : Fin 8) (w : Word)
  /-- STREAM_RESET_BOUNDARY (R418). -/
  | streamResetBoundary (n : Fin 7)
  /-- STREAM_OUTPUT (R412). -/
  | streamOutput (n : Fin 7)
  /-- TIME_LO_READ (R436). -/
  | timeLoRead (o : Owner)
  /-- OFFSET_HI_WRITE (R445). -/
  | offsetHiWrite (o : Owner) (w : Word)
  /-- RATE_HI_WRITE (R440). -/
  | rateHiWrite (o : Owner) (w : Word)
  /-- TOD_SEC_HI_WRITE (R439). -/
  | todSecHiWrite (o : Owner) (w : Word)
  /-- PPS_IN_EDGE (R438). -/
  | ppsInEdge (t : Nat)
  /-- PPS_MISSING (R441). -/
  | ppsMissing (t : Nat)
  /-- HOLDOVER_EXPIRY (R441). -/
  | holdoverExpiry
  /-- TBREF_LOST (R437). -/
  | tbrefLost
  /-- PPS_OUT_SECOND (R445). -/
  | ppsOutSecond (t : Nat)
  /-- PTP_SYNC_SEND (R442). -/
  | ptpSyncSend (n : Fin 2) (t : Nat)
  /-- PTP_ANNOUNCE_SEND (R445). -/
  | ptpAnnounceSend (n : Fin 2) (t : Nat)
  /-- DELAY_REQ_RX (R443). -/
  | delayReqRx (n : Fin 2) (domain : Nat) (seq : Nat) (requester : Nat) (corr : Nat) (t : Nat)
  /-- PDELAY_REQ_RX (R443). -/
  | pdelayReqRx (n : Fin 2) (domain : Nat) (seq : Nat) (requester : Nat) (corr : Nat) (t : Nat)
  /-- ANNOUNCE_RX (R444). -/
  | announceRx (n : Fin 2) (domain : Nat) (ds : AnnounceData) (t : Nat)
  /-- FOREIGN_TIMEOUT (R444). -/
  | foreignTimeout (n : Fin 2)
  /-- CRL_ENABLE (R450). -/
  | crlEnable (o : Owner) (w : Word)
  /-- SLOT_FIRE (R449). -/
  | slotFire (k : Fin 1024) (t : Nat)
  /-- PULSE_END (R447). -/
  | pulseEnd (p : Fin 24) (t : Nat)
  /-- SLOT_WRITE (R451). -/
  | slotWrite (o : Owner) (b : Fin 2) (k : Fin 1024) (j : Fin 4) (w : Word)
  /-- BANK_CYCLE_WRITE (R451). -/
  | bankCycleWrite (o : Owner) (b : Fin 2) (w : Word)
  /-- CRL_SWITCH (R452). -/
  | crlSwitch (o : Owner) (w : Word)
  /-- BANK_SWITCH_BOUNDARY (R452). -/
  | bankSwitchBoundary (t : Nat)
  /-- CAL_INSERT (R455). -/
  | calInsert (o : Owner) (w : Word)
  /-- CAL_ENTRY_FIRE (R456). -/
  | calEntryFire (num : Nat) (t : Nat)
  /-- CAL_FLUSH (R457). -/
  | calFlush (o : Owner) (w : Word)
  /-- EVIO_EDGE (R462). -/
  | evioEdge (n : Fin 16) (rising : Bool) (sample : Nat)
  /-- SW_FIRE (R462). -/
  | swFire (o : Owner) (w : Word)
  /-- CHANNEL_FIRE (R463). -/
  | channelFire (k : Nat)
  /-- TASK_DELIVER (R468). -/
  | taskDeliver
  /-- TASK_PENDING_START (R473). -/
  | taskPendingStart (t : Fin 384)
  /-- EVIO_PULSE_END (R468). -/
  | evioPulseEnd (n : Fin 16) (t : Nat)
  /-- RELAY_EMIT (R476). -/
  | relayEmit (r : Fin 32)
  /-- DATA_TASK_EFFECT (R470). -/
  | dataTaskEffect
  /-- CHANNEL_WRITE (R466). -/
  | channelWrite (o : Owner) (c : Fin 256) (j : Fin 8) (w : Word)
  /-- GROUP_STATE_WRITE (R465). -/
  | groupStateWrite (o : Owner) (w : Word)
  /-- QUEUE_CREDIT_REQUEST (R484). -/
  | queueCreditRequest (q : Fin 8192) (r : Fin 8) (n : Nat) (reserve : Bool)
  /-- QUEUE_PUSH (R485). -/
  | queuePush (q : Fin 8192) (r : Fin 8) (data : Word64) (tag : Fin 4) (sof : Bool) (eof : Bool)
  /-- QUEUE_POP (R485). -/
  | queuePop (q : Fin 8192) (flip : Word64)
  /-- QUEUE_POLL (R487). -/
  | queuePoll (q : Fin 8192) (flip : Word64)
  /-- EXT_MOVE (R491). -/
  | extMove (q : Fin 8192) (bad : Bool)
  /-- BANK_GRANT (R494). -/
  | bankGrant (b : Fin 64) (reqs : List (Fin 8))
  /-- QF_APPLY (R483). -/
  | qfApply (o : Owner) (w : Word)
  /-- HQ_CRED_REQ (R496). -/
  | hqCredReq (o : Owner) (w : Word)
  /-- HQ_PUSH (R496). -/
  | hqPush (o : Owner) (w : Word)
  /-- HQ_POP (R496). -/
  | hqPop (o : Owner) (flip : Word64)
  /-- LVL_NEXT_READ (R490). -/
  | lvlNextRead (o : Owner)
  /-- DMA_ARM (R502). -/
  | dmaArm (o : Owner) (w : Word)
  /-- DMA_PAUSE (R505). -/
  | dmaPause (o : Owner) (w : Word)
  /-- DMA_RESUME (R505). -/
  | dmaResume (o : Owner) (w : Word)
  /-- DMA_ABORT (R506). -/
  | dmaAbort (o : Owner) (w : Word)
  /-- DMA_BURST_GRANT (R501). -/
  | dmaBurstGrant
  /-- DMA_BURST_DONE (R504). -/
  | dmaBurstDone (c : Fin 32) (data : List Byte)
  /-- DMA_BURST_ERROR (R507). -/
  | dmaBurstError (c : Fin 32) (cause : Fin 8)
  /-- DRAM_ACCESS_GRANT (R515). -/
  | dramAccessGrant (c : Fin 12) (l : List MemReq) (r : MemResult)
  /-- ROW_IDLE_CLOSE (R516). -/
  | rowIdleClose (c : Fin 12) (bank : Fin 32)
  /-- REFRESH_WINDOW (R519). -/
  | refreshWindow (l : List TrackRead)
  /-- ECC_INIT (R526). -/
  | eccInit (o : Owner) (w : Word)
  /-- ECC_INIT_DONE (R526). -/
  | eccInitDone (n : Fin 8)
  /-- RETRAIN (R529). -/
  | retrain (o : Owner) (w : Word)
  /-- RETRAIN_DONE (R530). -/
  | retrainDone (l : List (Option MarginRead))
  /-- ZIP_RING_HEAD_WRITE (R546). -/
  | zipRingHeadWrite (o : Owner) (w : Word)
  /-- ZIP_CHUNK_GRANT (R543). -/
  | zipChunkGrant (reqs : List (Fin 3))
  /-- ZIP_JOB_DONE (R546). -/
  | zipJobDone
  /-- FRAME_RX (R554). -/
  | frameRx (n : Fin 2) (f : RxFrame)
  /-- ARP_PACKET (R555). -/
  | arpPacket (n : Fin 2) (m : ArpMsg)
  /-- ARP_REFRESH (R555). -/
  | arpRefresh (n : Fin 2) (ip : Nat)
  /-- ARP_RETRY (R555). -/
  | arpRetry (n : Fin 2) (ip : Nat)
  /-- ICMP_ECHO (R552). -/
  | icmpEcho (n : Fin 2) (ip : Nat) (id : Nat) (seq : Nat) (data : List Byte)
  /-- DATAGRAM_FLUSH (R562). -/
  | datagramFlush (k : Fin 1024)
  /-- WRP_NACK (R564). -/
  | wrpNack (n : Fin 2) (ip : Nat) (udp : Nat) (k : Fin 1024) (seq : Nat) (count : Nat) (t : Nat)
  /-- STATUS_DATAGRAM (R565). -/
  | statusDatagram (k : Fin 1024) (t : Nat)
  /-- SESS_APPLY (R558). -/
  | sessApply (o : Owner) (w : Word)
  /-- SESS_APPLY_REPEAT (R558). -/
  | sessApplyRepeat
  /-- WCP_HELLO (R571). -/
  | wcpHello (m : WcpMsg)
  /-- WCP_REG_READ (R572). -/
  | wcpRegRead (m : WcpMsg)
  /-- WCP_REG_WRITE (R572). -/
  | wcpRegWrite (m : WcpMsg)
  /-- WCP_JOB_CMD (R572). -/
  | wcpJobCmd (m : WcpMsg)
  /-- WCP_MODE_CMD (R572). -/
  | wcpModeCmd (m : WcpMsg)
  /-- WCP_CMD_RESPONSE (R572). -/
  | wcpCmdResponse (timeout : Bool)
  /-- WCP_BULK_WRITE (R573). -/
  | wcpBulkWrite (m : WcpMsg)
  /-- WCP_BULK_READ (R573). -/
  | wcpBulkRead (m : WcpMsg)
  /-- WCP_BULK_CRC (R573). -/
  | wcpBulkCrc (m : WcpMsg)
  /-- KEY_DATA_WRITE (R570). -/
  | keyDataWrite (o : Owner) (w : Word)
  /-- KEY_CLEAR (R618). -/
  | keyClear (o : Owner) (w : Word)
  /-- WX8_STATUS_REQUEST (R576). -/
  | wx8StatusRequest (n : Fin 2) (ip : Nat) (udp : Nat)
  /-- BAR2_WRITE (R578). -/
  | bar2Write (addr : Nat) (data : List Byte)
  /-- BAR2_READ (R578). -/
  | bar2Read (addr : Nat) (n : Nat)
  /-- PERST (R581). -/
  | perst
  /-- PCIE_LINK_DOWN (R618). -/
  | pcieLinkDown (bme : Bool)
  /-- HOST_LOAD_GO (R635). -/
  | hostLoadGo (o : Owner) (w : Word) (tImage : Nat) (train : Option (List MarginRead)) (track : List TrackRead)
  /-- TWL_GO (R592). -/
  | twlGo (o : Owner) (n : Fin 4) (w : Word)
  /-- TWL_CMD_DONE (R592). -/
  | twlCmdDone (n : Fin 4) (nack : Bool) (data : List Byte)
  /-- TWL_RETRY (R594). -/
  | twlRetry (n : Fin 4)
  /-- TWL_ABORT (R596). -/
  | twlAbort (o : Owner) (n : Fin 4) (w : Word)
  /-- TWL_RESET (R596). -/
  | twlReset (o : Owner) (n : Fin 4) (w : Word)
  /-- TWL_BUS_CLEAR (R591). -/
  | twlBusClear (n : Fin 4) (freed : Bool)
  /-- TWL_TIMING_WRITE (R585). -/
  | twlTimingWrite (o : Owner) (n : Fin 4) (k : Fin 2) (w : Word)
  /-- TWL_TARGET_XFER (R595). -/
  | twlTargetXfer (n : Fin 4) (data : List Byte) (rd : Nat)
  /-- SCL_STRETCH_TIMEOUT (R586). -/
  | sclStretchTimeout (b : Fin 5)
  /-- MTWI_ADDRESS (R588). -/
  | mtwiAddress (a : Fin 128)
  /-- MTWI_REG_CMD (R589). -/
  | mtwiRegCmd (ofs : Word) (data : List Byte) (rd : Nat)
  /-- MTWI_MBOX_CMD (R589). -/
  | mtwiMboxCmd (cmd : Fin 256) (data : List Byte) (rd : Nat)
  /-- LEASE_TIMEOUT (R611). -/
  | leaseTimeout (p : Fin 128)
  /-- HOST_LEASE_TIMEOUT (R611). -/
  | hostLeaseTimeout (q : Fin 8192) (o : Owner)
  /-- STAGE_RESET_CHECK (R612). -/
  | stageResetCheck (p : Fin 128) (alive : Bool)
  /-- LOCK_TO_EXPIRY (R619). -/
  | lockToExpiry (p : Fin 128) (t : Nat)
  /-- DRAIN_COMPLETE (R616). -/
  | drainComplete
  /-- FAULT_CLR (R608). -/
  | faultClr (o : Owner) (w : Word)
  /-- LOG_ACK_WRITE (R607). -/
  | logAckWrite (o : Owner) (w : Word)
  /-- LOG_DATA0_READ (R620). -/
  | logData0Read (o : Owner)
  /-- PORST_ASSERT (R621). -/
  | porstAssert
  /-- COLD_BOOT (R633). -/
  | coldBoot (fuses : Nat) (b : BootIn)
  /-- SRST_ASSERT (R622). -/
  | srstAssert
  /-- WARM_BOOT (R639). -/
  | warmBoot (b : BootIn)
  /-- BOOT_RELEASE (R633). -/
  | bootRelease (t : Nat) (total : Nat) (locks : Nat) (freqs : List (Fin 1048576))
  /-- FUSE_PROG (R626). -/
  | fuseProg (o : Owner) (w : Word)
  /-- QSPI_CMD (R637). -/
  | qspiCmd (o : Owner) (w : Word)
  /-- CAL_CTL_GO (R644). -/
  | calCtlGo (o : Owner) (w : Word)
  /-- PERIODIC_CAL (R641). -/
  | periodicCal (k : Fin 3)
  /-- CAL_ATTEMPT_DONE (R641). -/
  | calAttemptDone (item : Fin 10) (unit : Fin 64) (a : List Nat) (b : List Nat) (fig : Int)
  /-- TEMP_READ (R647). -/
  | tempRead (l : List (Fin 1024)) (t : Nat)
  /-- SUPPLY_READ (R648). -/
  | supplyRead (l : List (Fin 4096)) (t : Nat)
  /-- HEADROOM_SAMPLE (R650). -/
  | headroomSample (rate : Nat) (t : Nat)
  /-- AVS_PERIOD (R651). -/
  | avsPeriod (modeByte : Option (Fin 256)) (ack : Bool) (vout : Option (Fin 65536))
  /-- MBIST_GO (R653). -/
  | mbistGo (o : Owner) (w : Word)
  /-- MBIST_DONE (R653). -/
  | mbistDone (l : List Nat)
  /-- TAP_INSTRUCTION (R656). -/
  | tapInstruction (code : Fin 256)
  /-- TEST_LOGIC_RESET (R656). -/
  | testLogicReset
  /-- COMMIT_REQ (R666). -/
  | commitReq (o : Owner) (p : Fin 128) (w : Word)
  /-- COMMIT_EFFECT (R666). -/
  | commitEffect (p : Fin 128)
  /-- LOCK_ACQUIRE (R665). -/
  | lockAcquire (o : Owner) (p : Fin 128) (w : Word)
  /-- LOCK_RELEASE (R665). -/
  | lockRelease (o : Owner) (p : Fin 128) (w : Word)
  /-- PAGE_SRST (R661). -/
  | pageSrst (o : Owner) (p : Fin 128) (w : Word)
  /-- PAGE_SRST_DONE (R661). -/
  | pageSrstDone (p : Fin 128)
  /-- REGISTER_WRITE (R664). -/
  | registerWrite (o : Owner) (addr : Nat) (w : Word)
  /-- CMT_LINE_LO_READ (R670). -/
  | cmtLineLoRead (o : Owner)
  /-- MAN_EN_WRITE (R697). -/
  | manEnWrite (o : Owner) (b : Fin 2) (w : Word)
  /-- PIN_GUARD_WRITE (R696). -/
  | pinGuardWrite (o : Owner) (b : Fin 2) (w : Word)
  /-- ETH_LINK_LOST (R582). -/
  | ethLinkLost (n : Fin 2)
  /-- ETH_LINK_UP (R582). -/
  | ethLinkUp (n : Fin 2)
  /-- PCIE_LINK_UP (R577). -/
  | pcieLinkUp (link : Word) (eq : Word) (lanes : Word)
  /-- TWL_ARB_LOST (R593). -/
  | twlArbLost (n : Fin 4) (b : Fin 256)
  /-- QSPI_CMD_DONE (R640). -/
  | qspiCmdDone (data : List Byte) (timeout : Bool)
  /-- CLK_LOCK_LOST (R672). -/
  | clkLockLost (d : Fin 40)
deriving DecidableEq, Repr

end Sys2Proof
end

