-- ==== Sys2Proof/Decode.lean ====
section
/-!
DEFINITION. Words of commands. The table of operations and events gives no row any bits: a command of the WX16 is an event or an
access of a bus, not an encoded word, so no word spells one.
-/
namespace Sys2Proof

/-- The command that a word of `nbits` bits spells: none, for no row of the table has bits. -/
def decodeTableWord (_nbits _w : Nat) : Option Instr := none

end Sys2Proof
end

