-- ==== Sys2Proof/Machine/Bits.lean ====
section
/-!
DEFINITION. Bit fields, sign extension, rounding and byte order (R1, R2, R20): every named operation on numbers that the
blocks share. A structure of more than 64 bits is read as the natural number its little-endian bytes spell (R2).
-/
namespace Sys2Proof.Machine

/-- The `len` bits of `x` from bit `lo` upwards (R1). -/
def nb (x lo len : Nat) : Nat := x / 2 ^ lo % 2 ^ len

/-- `x` with the `len` bits from bit `lo` upwards replaced by those of `v`. -/
def nbSet (x lo len v : Nat) : Nat :=
  x / 2 ^ (lo + len) * 2 ^ (lo + len) + v % 2 ^ len * 2 ^ lo + x % 2 ^ lo

/-- A field of a 32-bit word. -/
def wf (w : Word) (lo len : Nat) : Nat := nb w.toNat lo len

/-- A 32-bit word with one field replaced. -/
def wfSet (w : Word) (lo len v : Nat) : Word := BitVec.ofNat 32 (nbSet w.toNat lo len v)

/-- The `len`-bit two's complement number that `x` spells. -/
def sext (len x : Nat) : Int :=
  if x % 2 ^ len < 2 ^ (len - 1) then (x % 2 ^ len : Nat) else (x % 2 ^ len : Nat) - (2 ^ len : Nat)

/-- The `len`-bit two's complement pattern of `i`. -/
def toTwos (len : Nat) (i : Int) : Nat := (i % (2 ^ len : Nat)).toNat

/-- `i` limited to the range from `lo` to `hi`. -/
def clampI (lo hi i : Int) : Int := if i < lo then lo else if hi < i then hi else i

/-- `n` saturating at the largest `bits`-bit number. -/
def satN (bits n : Nat) : Nat := if n < 2 ^ bits then n else 2 ^ bits - 1

/-- `a ÷ 2^k`, rounded to the nearest integer with halves towards positive infinity (R20). -/
def rshr (a : Int) (k : Nat) : Int := (a + (if k = 0 then 0 else (2 ^ (k - 1) : Nat))) / (2 ^ k : Nat)

/-- `a ÷ b` for positive `b`, rounded to the nearest integer with halves towards positive infinity (R20). -/
def rdiv (a : Int) (b : Nat) : Int := (2 * a + b) / (2 * b : Nat)

/-- The weights w(-1), w(0), w(1), w(2) of the Keys kernel at t = f ÷ 64, in 1/4,096 (R266). -/
def keys (f : Nat) : List Int :=
  let t : Int := f
  let a := rshr (-(t * t * t) + 128 * t * t - 4096 * t) 7
  let b := rshr (-(3 * t * t * t) + 256 * t * t + 4096 * t) 7
  let c := rshr (t * t * t - 64 * t * t) 7
  [a, 4096 - a - b - c, b, c]

/-- Clamp(x) of R217 and R259. -/
def clamp12 (x : Int) : Nat := (clampI 0 4095 x).toNat

/-- The magnitude of an integer. -/
def absI (i : Int) : Nat := i.natAbs

/-- The bits of an integer square root from bit `k - 1` down, added to `r`. -/
def isqrtFrom : Nat → Nat → Nat → Nat
  | 0, _, r => r
  | k + 1, x, r => if (r + 2 ^ k) * (r + 2 ^ k) ≤ x then isqrtFrom k x (r + 2 ^ k) else isqrtFrom k x r

/-- The integer square root, rounded down (R343, R357). -/
def isqrt (x : Nat) : Nat := isqrtFrom (x.log2 / 2 + 1) x 0

/-- One if the proposition holds, else zero. -/
def b2n (b : Bool) : Nat := if b then 1 else 0

/-- The number that little-endian bytes spell (R2). -/
def leNat : List Byte → Nat
  | [] => 0
  | b :: t => b.toNat + 256 * leNat t

/-- The `n` little-endian bytes of `x` (R2). -/
def leBytes : Nat → Nat → List Byte
  | 0, _ => []
  | n + 1, x => BitVec.ofNat 8 (x % 256) :: leBytes n (x / 256)

/-- The number that big-endian bytes spell (the network byte order of R2). -/
def beNat (l : List Byte) : Nat := leNat l.reverse

/-- The `n` big-endian bytes of `x`. -/
def beBytes (n x : Nat) : List Byte := (leBytes n x).reverse

/-- A word of a byte list, little-endian, from byte `4 k`. -/
def leWord (l : List Byte) (k : Nat) : Word := BitVec.ofNat 32 (leNat ((l.drop (4 * k)).take 4))

/-- The bytes of 32-bit words, little-endian. -/
def wordBytes (ws : List Word) : List Byte := ws.flatMap fun w => leBytes 4 w.toNat

/-- The number that 32-bit words spell, the first word lowest (R2). -/
def wordsNat : List Word → Nat
  | [] => 0
  | w :: t => w.toNat + 2 ^ 32 * wordsNat t

/-- The entry of a list at an index, or a default. -/
def nth (d : α) (l : List α) (i : Nat) : α := l[i]?.getD d

/-- A list with the entry at an index replaced; unchanged beyond its end. -/
def setNth : List α → Nat → α → List α
  | [], _, _ => []
  | _ :: t, 0, v => v :: t
  | a :: t, n + 1, v => a :: setNth t n v

/-- Whether bit `k` of `x` is 1. -/
def tbit (x k : Nat) : Bool := nb x k 1 == 1

/-- The indices below `n` at which the bits of `x` are 1, increasing. -/
def bitsOf (n x : Nat) : List Nat := (List.range n).filter fun k => tbit x k

/-- The number of 1 bits among the lowest `n` of `x`. -/
def popcount (n x : Nat) : Nat := (bitsOf n x).length

/-- The sum of a list of natural numbers. -/
def sumN : List Nat → Nat := List.foldl (· + ·) 0

/-- The sum of a list of integers. -/
def sumI : List Int → Int := List.foldl (· + ·) 0

/-- The largest of a list of natural numbers, 0 for none. -/
def maxN : List Nat → Nat := List.foldl Nat.max 0

/-- Insertion into a list kept in increasing order of a key, after entries of an equal key. -/
def insertBy (key : α → Nat) (a : α) : List α → List α
  | [] => [a]
  | b :: t => if key a < key b then a :: b :: t else b :: insertBy key a t

/-- Insertion into a list kept in increasing order of a key, before entries of an equal key. -/
def insertBefore (key : α → Nat) (a : α) : List α → List α
  | [] => [a]
  | b :: t => if key b < key a then b :: insertBefore key a t else a :: b :: t

/-- A list in increasing order of a key; entries of equal keys keep their order. -/
def sortBy (key : α → Nat) : List α → List α
  | [] => []
  | a :: t => insertBefore key a (sortBy key t)

/-- The median element of an odd number of naturals, the lower of the middle two of an even number, 0 for none. -/
def median (l : List Nat) : Nat := nth 0 (sortBy id l) ((l.length - 1) / 2)

end Sys2Proof.Machine
end

