-- ==== Sys2Proof/Machine/Crypto.lean ====
section
/-!
DEFINITION. Check values and signatures: CRC-32C (R135), CRC-8 (R152), Adler-32 (R537), SHA-256 and HMAC-SHA-256 (R570),
and ECDSA over P-256 (R629).
-/
namespace Sys2Proof.Machine

/-! ### CRCs -/

/-- One shift of the reflected CRC-32C register; 0x82F6_3B78 is 0x1EDC_6F41 reflected (R135). -/
def crc32cBit (c : Nat) : Nat := if c % 2 = 1 then (c / 2) ^^^ 0x82F63B78 else c / 2

/-- One byte through the CRC-32C register. -/
def crc32cByte (c : Nat) (b : Byte) : Nat :=
  crc32cBit (crc32cBit (crc32cBit (crc32cBit (crc32cBit (crc32cBit (crc32cBit (crc32cBit (c ^^^ b.toNat))))))))

/-- The CRC-32C of bytes (R135). -/
def crc32c (l : List Byte) : Nat := l.foldl crc32cByte 0xFFFFFFFF ^^^ 0xFFFFFFFF

/-- One shift of the CRC-8 register. -/
def crc8Bit (c : Nat) : Nat := if 128 ≤ c then (c * 2 % 256) ^^^ 7 else c * 2

/-- The CRC-8 of bytes (R152). -/
def crc8 (l : List Byte) : Nat :=
  l.foldl (fun c b => crc8Bit (crc8Bit (crc8Bit (crc8Bit (crc8Bit (crc8Bit (crc8Bit (crc8Bit (c ^^^ b.toNat))))))))) 0

/-- The Adler-32 of bytes (RFC 1950). -/
def adler32 (l : List Byte) : Nat :=
  let p := l.foldl (fun (p : Nat × Nat) b => let a := (p.1 + b.toNat) % 65521; (a, (p.2 + a) % 65521)) (1, 0)
  p.2 * 65536 + p.1

/-! ### SHA-256 (FIPS 180-4) -/

/-- The greatest `y` with `y ^ d ≤ t` that differs from `x` in its lowest `k` bits only. -/
def rootFrom (d t : Nat) : Nat → Nat → Nat
  | 0, x => x
  | k + 1, x => rootFrom d t k (if (x + 2 ^ k) ^ d ≤ t then x + 2 ^ k else x)

/-- The first 32 bits behind the point of the `d`-th root of a number below 2^12: the standard takes its constants from roots of primes. -/
def rootFraction (d n : Nat) : Nat := rootFrom d (n * 2 ^ (32 * d)) 38 0 % 2 ^ 32

/-- The first 64 primes. -/
def smallPrimes : List Nat := ((List.range 312).drop 2).filter fun n => (List.range n).all fun d => decide (d < 2) || n % d != 0

/-- A word turned `n` places to the right. -/
def turn (n x : Nat) : Nat := x / 2 ^ n + x * 2 ^ (32 - n) % 2 ^ 32

/-- The word that follows a window of sixteen words of the message schedule, oldest first. -/
def nextWord (w : List Nat) : Nat :=
  let mix (i j k x : Nat) : Nat := turn i x ^^^ (x / 2 ^ k) ^^^ turn j x
  (nth 0 w 0 + mix 7 18 3 (nth 0 w 1) + nth 0 w 9 + mix 17 19 10 (nth 0 w 14)) % 2 ^ 32

/-- What a round works on: the working variables a to d and e to h, and the window of the message schedule. -/
structure ShaState where
  front  : List Nat
  back   : List Nat
  window : List Nat

/-- One round with its constant. -/
def ShaState.round (x : ShaState) (k : Nat) : ShaState :=
  let a (i : Nat) : Nat := nth 0 x.front i
  let e (i : Nat) : Nat := nth 0 x.back i
  let chosen := e 2 ^^^ (e 0 &&& (e 1 ^^^ e 2))
  let voted := (a 0 &&& a 1) ||| (a 2 &&& (a 0 ||| a 1))
  let t := nth 0 x.window 0 + k + chosen + e 3 + (turn 25 (e 0) ^^^ turn 11 (e 0) ^^^ turn 6 (e 0))
  let u := voted + (turn 22 (a 0) ^^^ turn 13 (a 0) ^^^ turn 2 (a 0))
  { front := (t + u) % 2 ^ 32 :: x.front.take 3, back := (a 3 + t) % 2 ^ 32 :: x.back.take 3, window := x.window.drop 1 ++ [nextWord x.window] }

/-- The hash value that a block of 64 bytes makes of another one. -/
def shaAbsorb (h : List Nat) (block : List Byte) : List Nat :=
  let w := (List.range 16).map fun i => beNat ((block.drop (4 * i)).take 4)
  let x := (smallPrimes.map (rootFraction 3)).foldl ShaState.round ⟨h.take 4, h.drop 4, w⟩
  (List.range 8).map fun i => (nth 0 h i + nth 0 (x.front ++ x.back) i) % 2 ^ 32

/-- The SHA-256 of bytes: 32 bytes in the order of the standard. -/
def sha256 (l : List Byte) : List Byte :=
  let n := l.length
  let m := l ++ [0x80] ++ List.replicate ((119 - n % 64) % 64) 0 ++ beBytes 8 (8 * n)
  ((List.range (m.length / 64)).foldl (fun h i => shaAbsorb h ((m.drop (64 * i)).take 64))
    ((smallPrimes.take 8).map (rootFraction 2))).flatMap fun w => beBytes 4 w

/-- HMAC-SHA-256 under a key of at most 64 bytes (RFC 2104). -/
def hmacSha256 (key msg : List Byte) : List Byte :=
  let k := key ++ List.replicate (64 - key.length) 0
  sha256 (k.map (· ^^^ 0x5C) ++ sha256 (k.map (· ^^^ 0x36) ++ msg))

/-! ### ECDSA over P-256 (FIPS 186) -/

def p256p : Nat := 0xffffffff00000001000000000000000000000000ffffffffffffffffffffffff
def p256n : Nat := 0xffffffff00000000ffffffffffffffffbce6faada7179e84f3b9cac2fc632551
def p256b : Nat := 0x5ac635d8aa3a93e7b3ebbd55769886bc651d06b0cc53b0f63bce3c3e27d2604b
def p256gx : Nat := 0x6b17d1f2e12c4247f8bce6e563a440f277037d812deb33a0f4a13945d898c296
def p256gy : Nat := 0x4fe342e2fe1a7f9b8ee7eb4a7c0f9e162bce33576b315ececbb6406837bf51f5

/-- `x ^ e` modulo `m`, over the lowest `k` bits of `e`. -/
def powMod (m : Nat) : Nat → Nat → Nat → Nat
  | 0, _, _ => 1
  | k + 1, x, e => let r := powMod m k (x * x % m) (e / 2); if e % 2 = 1 then r * x % m else r

/-- The inverse modulo a prime of at most 256 bits. -/
def invMod (m x : Nat) : Nat := powMod m 256 (x % m) (m - 2)

/-- The sum of two points of the curve; none is the point at infinity. -/
def ecAdd : Option (Nat × Nat) → Option (Nat × Nat) → Option (Nat × Nat)
  | none, q => q
  | p, none => p
  | some (x1, y1), some (x2, y2) =>
    let m := p256p
    if x1 = x2 ∧ (y1 + y2) % m = 0 then none
    else
      let l := if x1 = x2 then (3 * x1 * x1 + (m - 3)) * invMod m (2 * y1) % m
        else (y2 + m - y1) * invMod m (x2 + m - x1) % m
      let x := (l * l + 2 * m - x1 - x2) % m
      some (x, (l * (x1 + m - x) + m - y1) % m)

/-- A multiple of a point by the lowest `k` bits of a number. -/
def ecMul : Nat → Option (Nat × Nat) → Nat → Option (Nat × Nat)
  | 0, _, _ => none
  | k + 1, p, e => let r := ecMul k (ecAdd p p) (e / 2); if e % 2 = 1 then ecAdd r p else r

/-- Whether an ECDSA P-256 signature (r, s) of a digest is valid under a public key. -/
def ecdsaOk (x y r s : Nat) (digest : List Byte) : Bool :=
  let onCurve := decide (x < p256p) && decide (y < p256p) &&
    decide (y * y % p256p = (x * x % p256p * x + (p256p - 3) * x + p256b) % p256p)
  let e := beNat digest
  let w := invMod p256n s
  match ecAdd (ecMul 256 (some (p256gx, p256gy)) (e * w % p256n)) (ecMul 256 (some (x, y)) (r * w % p256n)) with
  | none => false
  | some (vx, _) => onCurve && decide (1 ≤ r) && decide (r < p256n) && decide (1 ≤ s) && decide (s < p256n) &&
    decide (vx % p256n = r)

end Sys2Proof.Machine
end

