-- ==== Sys2Proof/Config.lean ====
section
/-!
DEFINITION. What an implementation fixes and the values the manual leaves open: opaque constants that nothing can evaluate.
-/
namespace Sys2Proof.Config

/-- The DEFLATE blocks of a job's input after the input that its stream already holds: with dynamic or static codes, ending
the final block (LAST) or at a flush point (R538-R540). The manual fixes that they depend on nothing else (R539), not
what they are. -/
opaque deflateBlocks (prior input : List Byte) (dyn last flush : Bool) : List Byte

/-- A byte that the manual leaves open, by the model's counter of free values. -/
opaque freeByte (k : Nat) : Byte

/-- A number that the manual leaves open, by the model's counter of free values. -/
opaque freeNat (k : Nat) : Nat

/-- How many symbols of the packet on a port's uplink are still to leave when the trigger of a line goes out: a matter of symbol times that no
command brings (R153). -/
opaque uplinkLeft (port line : Nat) : Nat

end Sys2Proof.Config
end

