-- ==== Sys2Proof/Machine/ErrTab.lean ====
section
/-!
DEFINITION. The error codes of every chapter with their classes (R600): 0 CORRECTED, 1 CONTAINED, 2 DEGRADED, 3 FATAL,
4 REFUSAL (a code listed with class "—", and every job error, which refuses a command, a job or a write).
-/
namespace Sys2Proof.Machine

/-- An error code and its class (R600). -/
structure ErrCode where
  code : Nat
  cls  : Nat
deriving DecidableEq, Repr

namespace Er
/-! Error codes by name. -/
/-! Table — Job errors -/
abbrev JOB_CRC : ErrCode := ⟨0x0301, 4⟩
abbrev JOB_LIMIT : ErrCode := ⟨0x0302, 4⟩
abbrev JOB_CELLMAP : ErrCode := ⟨0x0303, 4⟩
abbrev JOB_DIR : ErrCode := ⟨0x0304, 4⟩
abbrev JOB_LEGACY : ErrCode := ⟨0x0305, 4⟩
abbrev JOB_STATE : ErrCode := ⟨0x0306, 4⟩
abbrev CHG_LATE : ErrCode := ⟨0x0307, 4⟩
abbrev CHG_REPEAT_LEN : ErrCode := ⟨0x0308, 4⟩
abbrev CHG_NOT_READY : ErrCode := ⟨0x0309, 4⟩
abbrev COMMIT_DROPPED : ErrCode := ⟨0x030A, 4⟩
abbrev JOB_WRITE_PROT : ErrCode := ⟨0x030B, 4⟩
/-! Table — Lane error codes -/
abbrev LANE_SUBST : ErrCode := ⟨0x0601, 2⟩
abbrev LANE_LOST : ErrCode := ⟨0x0602, 2⟩
abbrev JOKER_FAIL : ErrCode := ⟨0x0603, 0⟩
abbrev LINK_FAILED : ErrCode := ⟨0x0604, 1⟩
abbrev GANG_CONFLICT : ErrCode := ⟨0x0605, 4⟩
/-! Table — Intake error codes -/
abbrev CTX_FORMAT : ErrCode := ⟨0x0701, 4⟩
abbrev TAPDLY_SPACE : ErrCode := ⟨0x0702, 4⟩
abbrev INTAKE_LOSS : ErrCode := ⟨0x0703, 1⟩
/-! Table — Dealer error codes -/
abbrev DLR_MAP : ErrCode := ⟨0x0801, 4⟩
abbrev DLR_NOT_IDLE : ErrCode := ⟨0x0802, 4⟩
/-! Table — Stitching and registration error codes -/
abbrev STI_TABLE : ErrCode := ⟨0x0901, 4⟩
abbrev EDGE_LOST : ErrCode := ⟨0x0902, 1⟩
abbrev REG_UNLOCKED : ErrCode := ⟨0x0903, 1⟩
abbrev REG_NO_LOCK : ErrCode := ⟨0x0904, 1⟩
/-! Table — Master error codes -/
abbrev MST_SPACE : ErrCode := ⟨0x0A01, 4⟩
abbrev MST_LEARN_SPACE : ErrCode := ⟨0x0A02, 4⟩
abbrev MST_HEADER : ErrCode := ⟨0x0A03, 4⟩
abbrev ART_FORMAT : ErrCode := ⟨0x0A04, 4⟩
abbrev ART_NOT_PREDICTED : ErrCode := ⟨0x0A05, 4⟩
abbrev MST_NOREF : ErrCode := ⟨0x0A06, 1⟩
abbrev LEARN_NO_LOCK : ErrCode := ⟨0x0A07, 1⟩
abbrev MST_ADAPT : ErrCode := ⟨0x0A08, 4⟩
abbrev MST_ONE_SLOT : ErrCode := ⟨0x0A09, 4⟩
/-! Table — Comparison error codes -/
abbrev CMP_FORMAT : ErrCode := ⟨0x0B01, 4⟩
abbrev MASK_FORMAT : ErrCode := ⟨0x0B02, 4⟩
abbrev LABEL_STORM : ErrCode := ⟨0x0B03, 1⟩
abbrev IE_NOT_IDLE : ErrCode := ⟨0x0B04, 4⟩
/-! Table — Record error codes -/
abbrev RUL_FORMAT : ErrCode := ⟨0x0C01, 4⟩
abbrev ACT_LATE : ErrCode := ⟨0x0C02, 1⟩
abbrev ACT_OVERFLOW : ErrCode := ⟨0x0C03, 1⟩
abbrev REC_RATE : ErrCode := ⟨0x0C04, 4⟩
abbrev VRD_NOT_IDLE : ErrCode := ⟨0x0C05, 4⟩
/-! Table — Stream error codes -/
abbrev DEC_ADMIT : ErrCode := ⟨0x0D01, 4⟩
abbrev DEC_SPACE : ErrCode := ⟨0x0D02, 4⟩
abbrev STR_RATE : ErrCode := ⟨0x0D03, 4⟩
abbrev STR_FORMAT : ErrCode := ⟨0x0D04, 4⟩
/-! Table — Timebase and Carillon error codes -/
abbrev TB_REF_LOST : ErrCode := ⟨0x0E01, 3⟩
abbrev STEP_REFUSED : ErrCode := ⟨0x0E02, 4⟩
abbrev PTP_FORMAT : ErrCode := ⟨0x0E03, 4⟩
abbrev CAL_FULL : ErrCode := ⟨0x0E04, 1⟩
/-! Table — Event fabric error codes -/
abbrev EVF_FORMAT : ErrCode := ⟨0x0F01, 4⟩
abbrev EVF_LOOP : ErrCode := ⟨0x0F02, 1⟩
/-! Table — Queue and DMA error codes -/
abbrev QF_ALLOC : ErrCode := ⟨0x1001, 4⟩
abbrev QF_PARITY : ErrCode := ⟨0x1002, 1⟩
abbrev QF_EXT_ERR : ErrCode := ⟨0x1003, 1⟩
abbrev DMA_FORMAT : ErrCode := ⟨0x1004, 4⟩
abbrev DMA_ERR : ErrCode := ⟨0x1005, 1⟩
/-! Table — Memory error codes -/
abbrev MEM_CE : ErrCode := ⟨0x1101, 0⟩
abbrev MEM_UE : ErrCode := ⟨0x1102, 1⟩
abbrev MEM_RANGE : ErrCode := ⟨0x1103, 1⟩
abbrev MEM_LINK_W : ErrCode := ⟨0x1104, 1⟩
abbrev MARGIN_LOST : ErrCode := ⟨0x1105, 0⟩
abbrev MEM_ESCALATE : ErrCode := ⟨0x1106, 3⟩
abbrev MEM_HOT : ErrCode := ⟨0x1107, 3⟩
abbrev MEM_TRAIN_FAIL : ErrCode := ⟨0x1108, 3⟩
abbrev MEM_CFG : ErrCode := ⟨0x1109, 4⟩
/-! Table — Compression error codes -/
abbrev ZIP_DESC : ErrCode := ⟨0x1201, 4⟩
abbrev ZIP_MEM : ErrCode := ⟨0x1202, 1⟩
/-! Table — Network and host error codes -/
abbrev ETH_LINK : ErrCode := ⟨0x1301, 1⟩
abbrev SESS_FORMAT : ErrCode := ⟨0x1302, 4⟩
abbrev WCP_AUTH : ErrCode := ⟨0x1303, 4⟩
abbrev PCIE_AER : ErrCode := ⟨0x1304, 0⟩
/-! Table — Two-wire error codes -/
abbrev TWI_TIMEOUT : ErrCode := ⟨0x1401, 1⟩
abbrev TWI_STUCK : ErrCode := ⟨0x1402, 1⟩
abbrev TWI_CFG : ErrCode := ⟨0x1403, 4⟩
/-! Table — Admission error codes -/
abbrev ADMIT_TOTAL : ErrCode := ⟨0x0201, 4⟩
abbrev ADMIT_PP : ErrCode := ⟨0x0202, 4⟩
abbrev ADMIT_IE : ErrCode := ⟨0x0203, 4⟩
/-! Table — Supervisor error codes -/
abbrev LOG_PAD : ErrCode := ⟨0x1501, 0⟩
abbrev STAGE_REVOKED : ErrCode := ⟨0x1502, 1⟩
abbrev STAGE_DEAD : ErrCode := ⟨0x1503, 3⟩
abbrev LOCK_BROKEN : ErrCode := ⟨0x1504, 0⟩
abbrev LEASE_REVOKED : ErrCode := ⟨0x1505, 0⟩
abbrev RESERVE_EXHAUSTED : ErrCode := ⟨0x1506, 3⟩
abbrev RECORD_POISONED : ErrCode := ⟨0x1507, 1⟩
/-! Table — Boot error codes -/
abbrev FUSE_CRC : ErrCode := ⟨0x1601, 3⟩
abbrev SRAM_UNREPAIRABLE : ErrCode := ⟨0x1602, 3⟩
abbrev IMG_REJECT : ErrCode := ⟨0x1603, 0⟩
abbrev NO_IMAGE : ErrCode := ⟨0x1604, 3⟩
abbrev QSPI_PROT : ErrCode := ⟨0x1605, 4⟩
abbrev FUSE_PROG : ErrCode := ⟨0x1606, 4⟩
/-! Table — Health and test error codes -/
abbrev CAL_NO_AGREE : ErrCode := ⟨0x1701, 0⟩
abbrev BG_WARN : ErrCode := ⟨0x1702, 0⟩
abbrev TEMP_WARN : ErrCode := ⟨0x1703, 0⟩
abbrev TEMP_CRIT : ErrCode := ⟨0x1704, 3⟩
abbrev SUPPLY_WARN : ErrCode := ⟨0x1705, 0⟩
abbrev SUPPLY_FAULT : ErrCode := ⟨0x1706, 3⟩
abbrev HR_LOW : ErrCode := ⟨0x1707, 0⟩
abbrev HR_CRIT : ErrCode := ⟨0x1708, 1⟩
abbrev AVS_LOST : ErrCode := ⟨0x1709, 0⟩
abbrev MBIST_FAIL : ErrCode := ⟨0x170A, 0⟩
abbrev JTAG_TAKEOVER : ErrCode := ⟨0x170B, 3⟩
end Er

end Sys2Proof.Machine
end

