-- ==== Sys2Proof/Machine/RegMap.lean ====
section
/-!
DEFINITION. The register map of BAR0 (R658-R662 and the page tables of every chapter): the pages, and for every register its
offset, its reset value and which of its bits have which access code of R4. A bit in no mask is read-only, an action
bit (W1P, WO) that is never stored, or reserved (R6).
-/
namespace Sys2Proof.Machine

/-- One register of a page: offset in the page, reset value, and the masks of the access codes of R4. -/
structure RegDef where
  off   : Nat
  reset : BitVec 32
  rw    : BitVec 32
  rws   : BitVec 32
  w1c   : BitVec 32
  roc   : BitVec 32
  wro   : BitVec 32
deriving DecidableEq, Repr

/-- A bit field of a register: the register's offset in its page, its lowest bit and its width. -/
structure Fld where
  off : Nat
  lo  : Nat
  len : Nat
deriving DecidableEq, Repr

/-- The kinds of page of Table — Page map (R658). -/
inductive PageKind where
  | sys
  | fuse
  | boot
  | clk
  | supv0
  | supv1
  | hlth
  | tst
  | cp
  | pos
  | dlr
  | pp
  | sti
  | reg
  | mrg
  | rul
  | vrd
  | mst
  | dec
  | str
  | ie
  | tb
  | crl
  | evf
  | qf
  | dma
  | zip
  | mc
  | mcg
  | eth
  | net
  | pcie
  | mtwi
  | twl
  | qspi
  | pins0
  | pins1
deriving DecidableEq, Repr

namespace Pg
/-! Page indices of Table — Page map (R658): the base offset divided by 4,096. -/
abbrev SYS : Nat := 0x00
abbrev FUSE : Nat := 0x01
abbrev BOOT : Nat := 0x02
abbrev CLK : Nat := 0x03
abbrev SUPV0 : Nat := 0x04
abbrev SUPV1 : Nat := 0x05
abbrev HLTH : Nat := 0x06
abbrev TST : Nat := 0x07
abbrev CP (n : Nat) : Nat := 0x10 + n
abbrev POS : Nat := 0x20
abbrev DLR : Nat := 0x21
abbrev PP (n : Nat) : Nat := 0x28 + n
abbrev STI : Nat := 0x30
abbrev REG : Nat := 0x31
abbrev MRG : Nat := 0x32
abbrev RUL : Nat := 0x33
abbrev VRD : Nat := 0x34
abbrev MST : Nat := 0x35
abbrev DEC : Nat := 0x36
abbrev STR : Nat := 0x37
abbrev IE (n : Nat) : Nat := 0x38 + n
abbrev TB : Nat := 0x40
abbrev CRL : Nat := 0x41
abbrev EVF : Nat := 0x42
abbrev QF : Nat := 0x43
abbrev DMA : Nat := 0x44
abbrev ZIP : Nat := 0x45
abbrev MC (n : Nat) : Nat := 0x50 + n
abbrev MCG : Nat := 0x5F
abbrev ETH (n : Nat) : Nat := 0x60 + n
abbrev NET : Nat := 0x62
abbrev PCIE : Nat := 0x63
abbrev MTWI : Nat := 0x70
abbrev TWL (n : Nat) : Nat := 0x71 + n
abbrev QSPI : Nat := 0x78
abbrev PINS0 : Nat := 0x79
abbrev PINS1 : Nat := 0x7A
end Pg

/-- The page of an index: its kind and instance (R658). -/
def pageAt (p : Nat) : Option (PageKind × Nat) :=
  if p = 0x00 then some (.sys, 0)
  else if p = 0x01 then some (.fuse, 0)
  else if p = 0x02 then some (.boot, 0)
  else if p = 0x03 then some (.clk, 0)
  else if p = 0x04 then some (.supv0, 0)
  else if p = 0x05 then some (.supv1, 0)
  else if p = 0x06 then some (.hlth, 0)
  else if p = 0x07 then some (.tst, 0)
  else if 0x10 ≤ p ∧ p < 0x20 then some (.cp, p - 0x10)
  else if p = 0x20 then some (.pos, 0)
  else if p = 0x21 then some (.dlr, 0)
  else if 0x28 ≤ p ∧ p < 0x30 then some (.pp, p - 0x28)
  else if p = 0x30 then some (.sti, 0)
  else if p = 0x31 then some (.reg, 0)
  else if p = 0x32 then some (.mrg, 0)
  else if p = 0x33 then some (.rul, 0)
  else if p = 0x34 then some (.vrd, 0)
  else if p = 0x35 then some (.mst, 0)
  else if p = 0x36 then some (.dec, 0)
  else if p = 0x37 then some (.str, 0)
  else if 0x38 ≤ p ∧ p < 0x40 then some (.ie, p - 0x38)
  else if p = 0x40 then some (.tb, 0)
  else if p = 0x41 then some (.crl, 0)
  else if p = 0x42 then some (.evf, 0)
  else if p = 0x43 then some (.qf, 0)
  else if p = 0x44 then some (.dma, 0)
  else if p = 0x45 then some (.zip, 0)
  else if 0x50 ≤ p ∧ p < 0x5C then some (.mc, p - 0x50)
  else if p = 0x5F then some (.mcg, 0)
  else if 0x60 ≤ p ∧ p < 0x62 then some (.eth, p - 0x60)
  else if p = 0x62 then some (.net, 0)
  else if p = 0x63 then some (.pcie, 0)
  else if p = 0x70 then some (.mtwi, 0)
  else if 0x71 ≤ p ∧ p < 0x75 then some (.twl, p - 0x71)
  else if p = 0x78 then some (.qspi, 0)
  else if p = 0x79 then some (.pins0, 0)
  else if p = 0x7A then some (.pins1, 0)
  else none

/-- The index of the first page of a kind, which PAGE_ID.BLOCK reports. -/
def firstPage : PageKind → Nat
  | .sys => 0x00
  | .fuse => 0x01
  | .boot => 0x02
  | .clk => 0x03
  | .supv0 => 0x04
  | .supv1 => 0x05
  | .hlth => 0x06
  | .tst => 0x07
  | .cp => 0x10
  | .pos => 0x20
  | .dlr => 0x21
  | .pp => 0x28
  | .sti => 0x30
  | .reg => 0x31
  | .mrg => 0x32
  | .rul => 0x33
  | .vrd => 0x34
  | .mst => 0x35
  | .dec => 0x36
  | .str => 0x37
  | .ie => 0x38
  | .tb => 0x40
  | .crl => 0x41
  | .evf => 0x42
  | .qf => 0x43
  | .dma => 0x44
  | .zip => 0x45
  | .mc => 0x50
  | .mcg => 0x5F
  | .eth => 0x60
  | .net => 0x62
  | .pcie => 0x63
  | .mtwi => 0x70
  | .twl => 0x71
  | .qspi => 0x78
  | .pins0 => 0x79
  | .pins1 => 0x7A

/-- The indices of the 81 pages in increasing order, as R671 numbers them. -/
def pageList : List Nat :=
  [0x00, 0x01, 0x02, 0x03, 0x04, 0x05, 0x06, 0x07, 0x10, 0x11, 0x12, 0x13, 0x14, 0x15, 0x16, 0x17, 0x18, 0x19, 0x1A, 0x1B, 0x1C, 0x1D, 0x1E, 0x1F, 0x20, 0x21, 0x28, 0x29, 0x2A, 0x2B, 0x2C, 0x2D, 0x2E, 0x2F, 0x30, 0x31, 0x32, 0x33, 0x34, 0x35, 0x36, 0x37, 0x38, 0x39, 0x3A, 0x3B, 0x3C, 0x3D, 0x3E, 0x3F, 0x40, 0x41, 0x42, 0x43, 0x44, 0x45, 0x50, 0x51, 0x52, 0x53, 0x54, 0x55, 0x56, 0x57, 0x58, 0x59, 0x5A, 0x5B, 0x5F, 0x60, 0x61, 0x62, 0x63, 0x70, 0x71, 0x72, 0x73, 0x74, 0x78, 0x79, 0x7A]

def regsSYS_0 : List RegDef := [
  ⟨0x040, 0x00000000, 0x00000000, 0x00000000, 0x00000000, 0x00000000, 0x00000000⟩,
  ⟨0x044, 0x00000000, 0x0000000F, 0x00000000, 0x00000000, 0x00000000, 0x00000000⟩,
  ⟨0x048, 0x00000000, 0x0000003F, 0x00000000, 0x00000000, 0x00000000, 0x00000000⟩,
  ⟨0x04C, 0x00000000, 0x00000000, 0x00000000, 0x00000000, 0x00000000, 0x00000000⟩,
  ⟨0x050, 0x00000000, 0xFFFFFFFF, 0x00000000, 0x00000000, 0x00000000, 0x00000000⟩,
  ⟨0x054, 0x00000000, 0xFFFFFFFF, 0x00000000, 0x00000000, 0x00000000, 0x00000000⟩,
  ⟨0x058, 0x00000000, 0x00000003, 0x00000000, 0x00001000, 0x00000000, 0x00000000⟩,
  ⟨0x05C, 0x00000000, 0xFFFFFFFF, 0x00000000, 0x00000000, 0x00000000, 0x00000000⟩,
  ⟨0x060, 0x00000000, 0x00FFFFFF, 0x00000000, 0x00000000, 0x00000000, 0x00000000⟩,
  ⟨0x064, 0x00000000, 0x00FFFFFF, 0x00000000, 0x00000000, 0x00000000, 0x00000000⟩,
  ⟨0x068, 0x00000000, 0x00FFFFFF, 0x00000000, 0x00000000, 0x00000000, 0x00000000⟩,
  ⟨0x06C, 0x00000000, 0x00FFFFFF, 0x00000000, 0x00000000, 0x00000000, 0x00000000⟩,
  ⟨0x070, 0x00000000, 0x00000000, 0x00000000, 0x00000000, 0x00000000, 0x00000000⟩,
  ⟨0x074, 0x00000000, 0x00000000, 0x00000000, 0x00000000, 0x00000000, 0x00000000⟩,
  ⟨0x078, 0x00000000, 0x00000000, 0x00000000, 0x00000000, 0x00000000, 0x00000000⟩,
  ⟨0x07C, 0x00000000, 0x00000000, 0x00000000, 0x00000000, 0x00000000, 0x00000000⟩]

def regsSYS_1 : List RegDef := [
  ⟨0x080, 0x00000000, 0x00000000, 0x00000000, 0x00000000, 0x00000000, 0x00000000⟩,
  ⟨0x084, 0x00000000, 0x00000000, 0x00000000, 0x00000000, 0x00000000, 0x00000000⟩,
  ⟨0x088, 0x00000000, 0x00000000, 0x00000000, 0x00000000, 0x00000000, 0x00000000⟩,
  ⟨0x08C, 0x00000000, 0x00000000, 0x00000000, 0x00000000, 0x00000000, 0x00000000⟩,
  ⟨0x090, 0x00000000, 0x00000000, 0x00000000, 0x00000000, 0x00000000, 0x00000000⟩,
  ⟨0x094, 0x00000000, 0x000003FF, 0x00000000, 0x00000000, 0x00000000, 0x00000000⟩,
  ⟨0x098, 0x00000000, 0x00000000, 0x00000000, 0x00000000, 0x00000000, 0x00000000⟩,
  ⟨0x09C, 0x00000000, 0x00000000, 0x00000000, 0x00000000, 0x00000000, 0x00000000⟩,
  ⟨0x0A0, 0x00000000, 0x00000000, 0x00000000, 0x00000000, 0x00000000, 0x00000000⟩,
  ⟨0x0A4, 0x00000000, 0x00000000, 0x00000000, 0x00000000, 0x00000000, 0x00000000⟩,
  ⟨0x0A8, 0x00000000, 0x00000000, 0x00000000, 0x00000000, 0x00000000, 0x00000000⟩,
  ⟨0x0AC, 0x00000000, 0x00000000, 0x00000000, 0x00000000, 0x00000000, 0x00000000⟩,
  ⟨0x0B0, 0x00000000, 0x00000000, 0x00000000, 0x00000000, 0x00000000, 0x00000000⟩,
  ⟨0x0B4, 0x00000000, 0x00000000, 0x00000000, 0x00000000, 0x00000000, 0x00000000⟩,
  ⟨0x0B8, 0x00000000, 0x00000000, 0x00000000, 0x00000000, 0x00000000, 0x00000000⟩,
  ⟨0x0BC, 0x00000000, 0x00000000, 0x00000000, 0x00000000, 0xFFFFFFFF, 0x00000000⟩]

/-- Table — SYS page. -/
def regsSYS : List RegDef := regsSYS_0 ++ regsSYS_1

def regsPOS_0 : List RegDef := [
  ⟨0x040, 0x00000000, 0x00000000, 0x000001FF, 0x00000000, 0x00000000, 0x00000000⟩,
  ⟨0x044, 0x00010000, 0x00000000, 0xFFFFFFFF, 0x00000000, 0x00000000, 0x00000000⟩,
  ⟨0x048, 0x0FA00018, 0x00000000, 0xFFFFFF7F, 0x00000000, 0x00000000, 0x00000000⟩,
  ⟨0x04C, 0x00640004, 0x00000000, 0x03FF000F, 0x00000000, 0x00000000, 0x00000000⟩,
  ⟨0x050, 0x00000000, 0x00000000, 0x00000000, 0x00000000, 0x00000000, 0x00000000⟩,
  ⟨0x054, 0x00000000, 0x00000000, 0x00000000, 0x00000000, 0x00000000, 0x00000000⟩,
  ⟨0x058, 0x00000008, 0x00000000, 0x00000000, 0x00001F00, 0x00000000, 0x00000000⟩,
  ⟨0x05C, 0x00000000, 0x00000000, 0x00000000, 0x00000000, 0x0000FFFF, 0x00000000⟩,
  ⟨0x060, 0x00000000, 0x00000000, 0x000001FF, 0x00000000, 0x00000000, 0x00000000⟩,
  ⟨0x064, 0x00010000, 0x00000000, 0xFFFFFFFF, 0x00000000, 0x00000000, 0x00000000⟩,
  ⟨0x068, 0x0FA00018, 0x00000000, 0xFFFFFF7F, 0x00000000, 0x00000000, 0x00000000⟩,
  ⟨0x06C, 0x00640004, 0x00000000, 0x03FF000F, 0x00000000, 0x00000000, 0x00000000⟩,
  ⟨0x070, 0x00000000, 0x00000000, 0x00000000, 0x00000000, 0x00000000, 0x00000000⟩,
  ⟨0x074, 0x00000000, 0x00000000, 0x00000000, 0x00000000, 0x00000000, 0x00000000⟩,
  ⟨0x078, 0x00000008, 0x00000000, 0x00000000, 0x00001F00, 0x00000000, 0x00000000⟩,
  ⟨0x07C, 0x00000000, 0x00000000, 0x00000000, 0x00000000, 0x0000FFFF, 0x00000000⟩]

def regsPOS_1 : List RegDef := [
  ⟨0x080, 0x0000FA00, 0x00000000, 0x03FFFF03, 0x00000000, 0x00000000, 0x00000000⟩,
  ⟨0x084, 0x00010000, 0x00000000, 0xFFFFFFFF, 0x00000000, 0x00000000, 0x00000000⟩,
  ⟨0x088, 0x00000000, 0x00000000, 0x00000000, 0x00000000, 0x00000000, 0x00000000⟩,
  ⟨0x08C, 0x00000000, 0x00000000, 0x00000000, 0x00000000, 0xFFFF0000, 0x00000000⟩,
  ⟨0x090, 0x0000FA00, 0x00000000, 0x03FFFF03, 0x00000000, 0x00000000, 0x00000000⟩,
  ⟨0x094, 0x00010000, 0x00000000, 0xFFFFFFFF, 0x00000000, 0x00000000, 0x00000000⟩,
  ⟨0x098, 0x00000000, 0x00000000, 0x00000000, 0x00000000, 0x00000000, 0x00000000⟩,
  ⟨0x09C, 0x00000000, 0x00000000, 0x00000000, 0x00000000, 0xFFFF0000, 0x00000000⟩,
  ⟨0x0A0, 0x0000FA00, 0x00000000, 0x03FFFF03, 0x00000000, 0x00000000, 0x00000000⟩,
  ⟨0x0A4, 0x00010000, 0x00000000, 0xFFFFFFFF, 0x00000000, 0x00000000, 0x00000000⟩,
  ⟨0x0A8, 0x00000000, 0x00000000, 0x00000000, 0x00000000, 0x00000000, 0x00000000⟩,
  ⟨0x0AC, 0x00000000, 0x00000000, 0x00000000, 0x00000000, 0xFFFF0000, 0x00000000⟩,
  ⟨0x0B0, 0x0000FA00, 0x00000000, 0x03FFFF03, 0x00000000, 0x00000000, 0x00000000⟩,
  ⟨0x0B4, 0x00010000, 0x00000000, 0xFFFFFFFF, 0x00000000, 0x00000000, 0x00000000⟩,
  ⟨0x0B8, 0x00000000, 0x00000000, 0x00000000, 0x00000000, 0x00000000, 0x00000000⟩,
  ⟨0x0BC, 0x00000000, 0x00000000, 0x00000000, 0x00000000, 0xFFFF0000, 0x00000000⟩]

/-- Table — POS page. -/
def regsPOS : List RegDef := regsPOS_0 ++ regsPOS_1

/-- Table — CP page. -/
def regsCP : List RegDef := [
  ⟨0x040, 0x00000000, 0x00000000, 0x000003FF, 0x00000000, 0x00000000, 0x00000000⟩,
  ⟨0x044, 0x00000000, 0x00000000, 0x00000000, 0x00003000, 0x00000000, 0x00000000⟩,
  ⟨0x048, 0x01428200, 0x00000000, 0x03FFFFFF, 0x00000000, 0x00000000, 0x00000000⟩,
  ⟨0x04C, 0x03C18004, 0x3FF7FFFF, 0x00000000, 0x00000000, 0x00000000, 0x00000000⟩,
  ⟨0x050, 0x00000000, 0x00000000, 0x00000000, 0x00000000, 0x00000000, 0x00000000⟩,
  ⟨0x054, 0x00000000, 0x00000000, 0x00000000, 0x00000000, 0x00000000, 0x00000000⟩,
  ⟨0x058, 0x00000000, 0x00000000, 0x00000000, 0x00000000, 0x00000000, 0x00000000⟩,
  ⟨0x05C, 0x00000000, 0x00000000, 0x00000000, 0x00000000, 0x00000000, 0x00000000⟩,
  ⟨0x060, 0x00000003, 0x0000000F, 0x00000000, 0x00000000, 0x00000000, 0x00000000⟩,
  ⟨0x064, 0x00000000, 0x00000000, 0x00000000, 0x00000C00, 0x00000000, 0x00000000⟩,
  ⟨0x068, 0x00000000, 0x00000000, 0x00000000, 0x00000000, 0xFFFFFFFF, 0x00000000⟩,
  ⟨0x06C, 0x00000000, 0x00000000, 0x00000000, 0x00000000, 0xFFFFFFFF, 0x00000000⟩,
  ⟨0x070, 0x00000000, 0x00000000, 0x00000000, 0x00000000, 0xFFFFFFFF, 0x00000000⟩,
  ⟨0x074, 0x00000000, 0x00000000, 0x00000000, 0x00000000, 0x00000000, 0x00000000⟩,
  ⟨0x078, 0x00000000, 0x01FFFFFC, 0x00000000, 0x00000000, 0x00000000, 0x00000000⟩,
  ⟨0x07C, 0x00000000, 0xFFFFFFFF, 0x00000000, 0x00000000, 0x00000000, 0x00000000⟩]

/-- Table — PP page. -/
def regsPP : List RegDef := [
  ⟨0x040, 0x00000000, 0x00000000, 0x00000001, 0x00000000, 0x00000000, 0x00000000⟩,
  ⟨0x044, 0x00000000, 0x00000000, 0x00000000, 0x00000080, 0x00000000, 0x00000000⟩,
  ⟨0x048, 0x00000000, 0x00000000, 0x00000000, 0x00000000, 0xFFFFFFFF, 0x00000000⟩,
  ⟨0x04C, 0x00E66280, 0x00FFF3FF, 0x00000000, 0x00000000, 0x00000000, 0x00000000⟩,
  ⟨0x050, 0x00000000, 0x00000000, 0x00000000, 0x00000000, 0x00000000, 0x00000000⟩,
  ⟨0x054, 0x00000000, 0x00000000, 0x00000000, 0x00000000, 0x00000000, 0x00000000⟩,
  ⟨0x058, 0x00000000, 0x00000000, 0x00000000, 0x00000000, 0x00000000, 0x00000000⟩,
  ⟨0x05C, 0x00000000, 0x0000000F, 0x00000000, 0x00000000, 0x00000000, 0x00000000⟩,
  ⟨0x060, 0x00000000, 0x00000000, 0x00000000, 0x00000000, 0xFFFFFFFF, 0x00000000⟩,
  ⟨0x064, 0x00000000, 0x00000000, 0x00000000, 0x00000000, 0xFFFFFFFF, 0x00000000⟩,
  ⟨0x068, 0x00000000, 0x00000000, 0x00000000, 0x00000000, 0xFFFFFFFF, 0x00000000⟩]

/-- Table — DLR page. -/
def regsDLR : List RegDef := [
  ⟨0x040, 0x00000000, 0x00000000, 0x00000001, 0x00000000, 0x00000000, 0x00000000⟩,
  ⟨0x044, 0x00000000, 0x00000000, 0x00000000, 0x00000300, 0x00000000, 0x00000000⟩,
  ⟨0x048, 0x01010000, 0x00000000, 0x7F7F7F7F, 0x00000000, 0x00000000, 0x00000000⟩,
  ⟨0x04C, 0x03030202, 0x00000000, 0x7F7F7F7F, 0x00000000, 0x00000000, 0x00000000⟩,
  ⟨0x050, 0x05050404, 0x00000000, 0x7F7F7F7F, 0x00000000, 0x00000000, 0x00000000⟩,
  ⟨0x054, 0x07070606, 0x00000000, 0x7F7F7F7F, 0x00000000, 0x00000000, 0x00000000⟩,
  ⟨0x058, 0x00000000, 0x00000007, 0x00000000, 0x00000000, 0x00000000, 0x00000000⟩,
  ⟨0x05C, 0x00000000, 0x00000000, 0x00000000, 0x00000000, 0xFFFF0000, 0x00000000⟩]

def regsSTI_0 : List RegDef := [
  ⟨0x040, 0x00000000, 0x00000000, 0x00000001, 0x00000000, 0x00000000, 0x00000000⟩,
  ⟨0x044, 0x00000000, 0x00000000, 0x00000000, 0x00000070, 0x00000000, 0x00000000⟩,
  ⟨0x048, 0x00000000, 0x80007FFC, 0x00000000, 0x00000000, 0x00000000, 0x00000000⟩,
  ⟨0x04C, 0x00000000, 0xFFFFFFFF, 0x00000000, 0x00000000, 0x00000000, 0x00000000⟩,
  ⟨0x050, 0x00000020, 0x0000007F, 0x00000000, 0x00000000, 0x00000000, 0x00000000⟩,
  ⟨0x054, 0x00000000, 0x00000000, 0x00000000, 0x00000000, 0x00000000, 0x00000000⟩,
  ⟨0x058, 0x00000000, 0x00000000, 0x00000007, 0x00000000, 0x00000000, 0x00000000⟩,
  ⟨0x05C, 0x00000000, 0x00000000, 0x00000007, 0x00000000, 0x00000000, 0x00000000⟩,
  ⟨0x060, 0x00000000, 0x00000000, 0x00000007, 0x00000000, 0x00000000, 0x00000000⟩,
  ⟨0x064, 0x00000000, 0x00000000, 0x00000007, 0x00000000, 0x00000000, 0x00000000⟩,
  ⟨0x068, 0x00000000, 0x00000000, 0x00000000, 0x00000000, 0x00000000, 0x00000000⟩,
  ⟨0x06C, 0x00000000, 0x00000000, 0x00000000, 0x00000000, 0x00000000, 0x00000000⟩,
  ⟨0x070, 0x00000000, 0x00000000, 0x00000000, 0x00000000, 0x00000000, 0x00000000⟩,
  ⟨0x074, 0x00000000, 0x00000000, 0x00000000, 0x00000000, 0x00000000, 0x00000000⟩,
  ⟨0x078, 0x00000000, 0x00000000, 0x00000000, 0x00000000, 0xFFFF0000, 0x00000000⟩,
  ⟨0x07C, 0x00000000, 0x00000000, 0x00000000, 0x00000000, 0xFFFF0000, 0x00000000⟩]

def regsSTI_1 : List RegDef := [
  ⟨0x080, 0x00000000, 0x00000000, 0x00000000, 0x00000000, 0xFFFF0000, 0x00000000⟩,
  ⟨0x084, 0x00000000, 0x00000000, 0x00000000, 0x00000000, 0xFFFF0000, 0x00000000⟩,
  ⟨0x088, 0x00000000, 0x00000000, 0x000000FF, 0x00000000, 0x00000000, 0x00000000⟩,
  ⟨0x08C, 0x00000000, 0x00000000, 0x000000FF, 0x00000000, 0x00000000, 0x00000000⟩,
  ⟨0x090, 0x00000000, 0x00000000, 0x000000FF, 0x00000000, 0x00000000, 0x00000000⟩,
  ⟨0x094, 0x00000000, 0x00000000, 0x000000FF, 0x00000000, 0x00000000, 0x00000000⟩,
  ⟨0x098, 0x00000000, 0x00000000, 0x000000FF, 0x00000000, 0x00000000, 0x00000000⟩,
  ⟨0x09C, 0x00000000, 0x00000000, 0x000000FF, 0x00000000, 0x00000000, 0x00000000⟩,
  ⟨0x0A0, 0x00000000, 0x00000000, 0x000000FF, 0x00000000, 0x00000000, 0x00000000⟩,
  ⟨0x0A4, 0x00000000, 0x00000000, 0x000000FF, 0x00000000, 0x00000000, 0x00000000⟩,
  ⟨0x0A8, 0x00000000, 0x00000000, 0x000000FF, 0x00000000, 0x00000000, 0x00000000⟩,
  ⟨0x0AC, 0x00000000, 0x00000000, 0x000000FF, 0x00000000, 0x00000000, 0x00000000⟩,
  ⟨0x0B0, 0x00000000, 0x00000000, 0x000000FF, 0x00000000, 0x00000000, 0x00000000⟩,
  ⟨0x0B4, 0x00000000, 0x00000000, 0x000000FF, 0x00000000, 0x00000000, 0x00000000⟩,
  ⟨0x0B8, 0x00000000, 0x00000000, 0x000000FF, 0x00000000, 0x00000000, 0x00000000⟩,
  ⟨0x0BC, 0x00000000, 0x00000000, 0x000000FF, 0x00000000, 0x00000000, 0x00000000⟩]

def regsSTI_2 : List RegDef := [
  ⟨0x0C0, 0x00000000, 0x00000000, 0x000000FF, 0x00000000, 0x00000000, 0x00000000⟩,
  ⟨0x0C4, 0x00000000, 0x00000000, 0x000000FF, 0x00000000, 0x00000000, 0x00000000⟩,
  ⟨0x0C8, 0x00000000, 0x0000003F, 0x00000000, 0x00000000, 0x00000000, 0x00000000⟩,
  ⟨0x0CC, 0x00004000, 0x00000000, 0x00000000, 0x00000000, 0x00000000, 0x00000000⟩]

/-- Table — STI page. -/
def regsSTI : List RegDef := regsSTI_0 ++ regsSTI_1 ++ regsSTI_2

def regsREG_0 : List RegDef := [
  ⟨0x040, 0x00000000, 0x00000000, 0x00000003, 0x00000000, 0x00000000, 0x00000000⟩,
  ⟨0x044, 0x00000000, 0x00000000, 0x00000000, 0x000000FF, 0x00000000, 0x00000000⟩,
  ⟨0x048, 0x10310A0F, 0x00000000, 0x3FFFFFFF, 0x00000000, 0x00000000, 0x00000000⟩,
  ⟨0x04C, 0x00000000, 0x00000000, 0xFFFFFFFF, 0x00000000, 0x00000000, 0x00000000⟩,
  ⟨0x050, 0x00000002, 0x00000000, 0x00000000, 0x00000000, 0x00000000, 0x00000000⟩,
  ⟨0x054, 0x00000000, 0x00000000, 0x00000000, 0x00000000, 0x00000000, 0x00000000⟩,
  ⟨0x058, 0x00000000, 0x00000000, 0x00000000, 0x00000000, 0x00000000, 0x00000000⟩,
  ⟨0x05C, 0x10310A0F, 0x00000000, 0x3FFFFFFF, 0x00000000, 0x00000000, 0x00000000⟩,
  ⟨0x060, 0x00000000, 0x00000000, 0xFFFFFFFF, 0x00000000, 0x00000000, 0x00000000⟩,
  ⟨0x064, 0x00000002, 0x00000000, 0x00000000, 0x00000000, 0x00000000, 0x00000000⟩,
  ⟨0x068, 0x00000000, 0x00000000, 0x00000000, 0x00000000, 0x00000000, 0x00000000⟩,
  ⟨0x06C, 0x00000000, 0x00000000, 0x00000000, 0x00000000, 0x00000000, 0x00000000⟩,
  ⟨0x070, 0x10310A0F, 0x00000000, 0x3FFFFFFF, 0x00000000, 0x00000000, 0x00000000⟩,
  ⟨0x074, 0x00000000, 0x00000000, 0xFFFFFFFF, 0x00000000, 0x00000000, 0x00000000⟩,
  ⟨0x078, 0x00000002, 0x00000000, 0x00000000, 0x00000000, 0x00000000, 0x00000000⟩,
  ⟨0x07C, 0x00000000, 0x00000000, 0x00000000, 0x00000000, 0x00000000, 0x00000000⟩]

def regsREG_1 : List RegDef := [
  ⟨0x080, 0x00000000, 0x00000000, 0x00000000, 0x00000000, 0x00000000, 0x00000000⟩,
  ⟨0x084, 0x10310A0F, 0x00000000, 0x3FFFFFFF, 0x00000000, 0x00000000, 0x00000000⟩,
  ⟨0x088, 0x00000000, 0x00000000, 0xFFFFFFFF, 0x00000000, 0x00000000, 0x00000000⟩,
  ⟨0x08C, 0x00000002, 0x00000000, 0x00000000, 0x00000000, 0x00000000, 0x00000000⟩,
  ⟨0x090, 0x00000000, 0x00000000, 0x00000000, 0x00000000, 0x00000000, 0x00000000⟩,
  ⟨0x094, 0x00000000, 0x00000000, 0x00000000, 0x00000000, 0x00000000, 0x00000000⟩,
  ⟨0x098, 0x00000000, 0x000000FF, 0x00000000, 0x00000000, 0x00000000, 0x00000000⟩,
  ⟨0x09C, 0x00000000, 0x00000000, 0x00000000, 0x00000000, 0x00000000, 0x00000000⟩]

/-- Table — REG page. -/
def regsREG : List RegDef := regsREG_0 ++ regsREG_1

def regsMST_0 : List RegDef := [
  ⟨0x040, 0x00000000, 0x00000000, 0x00000001, 0x00000000, 0x00000000, 0x00000000⟩,
  ⟨0x044, 0x00000000, 0x00000000, 0x00000000, 0x0000001F, 0x00000000, 0x00000000⟩,
  ⟨0x048, 0x00002001, 0x00000000, 0x0000FF1F, 0x00000000, 0x00000000, 0x00000000⟩,
  ⟨0x04C, 0x00011010, 0x00000000, 0x00FFFFFF, 0x00000000, 0x00000000, 0x00000000⟩,
  ⟨0x050, 0x00000800, 0x00000000, 0x0000FF03, 0x00000000, 0x00000000, 0x00000000⟩,
  ⟨0x054, 0x00000040, 0x00000000, 0x0000FFFF, 0x00000000, 0x00000000, 0x00000000⟩,
  ⟨0x058, 0x00000000, 0x0000003F, 0x00000000, 0x00000000, 0x00000000, 0x00000000⟩,
  ⟨0x05C, 0x00000000, 0x00000000, 0x00000000, 0x00000000, 0x00000000, 0x00000000⟩,
  ⟨0x060, 0x00000000, 0xFFFFFFFF, 0x00000000, 0x00000000, 0x00000000, 0x00000000⟩,
  ⟨0x064, 0x00000000, 0xFFFFFFFF, 0x00000000, 0x00000000, 0x00000000, 0x00000000⟩,
  ⟨0x068, 0x00000000, 0xFFFFFFFF, 0x00000000, 0x00000000, 0x00000000, 0x00000000⟩,
  ⟨0x06C, 0x00000000, 0xFFFFFFFF, 0x00000000, 0x00000000, 0x00000000, 0x00000000⟩,
  ⟨0x070, 0x00000000, 0x0000000F, 0x00000000, 0x00000000, 0x00000000, 0x00000000⟩,
  ⟨0x074, 0x00000000, 0x0000000F, 0x00000000, 0x00000000, 0x00000000, 0x00000000⟩,
  ⟨0x078, 0x00000000, 0x0000000F, 0x00000000, 0x00000000, 0x00000000, 0x00000000⟩,
  ⟨0x07C, 0x00000000, 0x0000000F, 0x00000000, 0x00000000, 0x00000000, 0x00000000⟩]

def regsMST_1 : List RegDef := [
  ⟨0x080, 0x00000000, 0x00000000, 0x00000000, 0x00000000, 0x00000000, 0x00000000⟩,
  ⟨0x084, 0x00000000, 0x00000000, 0x00000000, 0x00000000, 0x00000000, 0x00000000⟩,
  ⟨0x088, 0x00000000, 0x00000000, 0x00000000, 0x00000000, 0x00000000, 0x00000000⟩,
  ⟨0x08C, 0x00000000, 0x00000000, 0x00000000, 0x00000000, 0x00000000, 0x00000000⟩,
  ⟨0x090, 0x00000000, 0x00000000, 0x00000000, 0x00000000, 0x00000000, 0x00000000⟩,
  ⟨0x094, 0x00000000, 0x00000000, 0x00000000, 0x00000000, 0x00000000, 0x00000000⟩,
  ⟨0x098, 0x00000000, 0x00000000, 0x00000000, 0x00000000, 0x00000000, 0x00000000⟩,
  ⟨0x09C, 0x00000000, 0x00000000, 0x00000000, 0x00000000, 0x00000000, 0x00000000⟩,
  ⟨0x0A0, 0x00000000, 0x00000000, 0x00000000, 0x00000000, 0x00000000, 0x00000000⟩,
  ⟨0x0A4, 0x00000000, 0x00000000, 0x00000000, 0x00000000, 0xFFFFFFFF, 0x00000000⟩,
  ⟨0x0A8, 0x00000000, 0x00000000, 0x00000000, 0x00000000, 0x00000000, 0x00000000⟩,
  ⟨0x0AC, 0x00000000, 0x00000000, 0x00000000, 0x00000000, 0xFFFFFFFF, 0x00000000⟩]

/-- Table — MST page. -/
def regsMST : List RegDef := regsMST_0 ++ regsMST_1

/-- Table — IE page. -/
def regsIE : List RegDef := [
  ⟨0x040, 0x00000000, 0x00000000, 0x00000001, 0x00000000, 0x00000000, 0x00000000⟩,
  ⟨0x044, 0x00000000, 0x00000000, 0x00000000, 0x0000001E, 0x00000000, 0x00000000⟩,
  ⟨0x048, 0x00000000, 0xFFFFFFFF, 0x00000000, 0x00000000, 0x00000000, 0x00000000⟩,
  ⟨0x04C, 0x00000000, 0x00000000, 0x00000000, 0x00000000, 0x00000000, 0x00000000⟩,
  ⟨0x050, 0x00000000, 0x00000000, 0x00000000, 0x00000000, 0x00000000, 0x00000000⟩,
  ⟨0x054, 0x00000000, 0x00000000, 0x00000000, 0x00000000, 0x00000000, 0x00000000⟩,
  ⟨0x058, 0x00000000, 0x00000000, 0x00000000, 0x00000000, 0xFFFFFFFF, 0x00000000⟩,
  ⟨0x05C, 0x00000000, 0x00000000, 0x00000000, 0x00000000, 0xFFFFFFFF, 0x00000000⟩]

def regsMRG_0 : List RegDef := [
  ⟨0x040, 0x00000000, 0x00000000, 0x00000001, 0x00000000, 0x00000000, 0x00000000⟩,
  ⟨0x044, 0x00000000, 0x00000000, 0x00000000, 0x00000003, 0x00000000, 0x00000000⟩,
  ⟨0x048, 0x00000010, 0x00000000, 0x00000FFF, 0x00000000, 0x00000000, 0x00000000⟩,
  ⟨0x04C, 0x00000000, 0xFFFFFFFF, 0x00000000, 0x00000000, 0x00000000, 0x00000000⟩,
  ⟨0x050, 0x00000000, 0xFFFFFFFF, 0x00000000, 0x00000000, 0x00000000, 0x00000000⟩,
  ⟨0x054, 0x00000400, 0xFFFFFFFF, 0x00000000, 0x00000000, 0x00000000, 0x00000000⟩,
  ⟨0x058, 0x00000001, 0x00000000, 0x00000000, 0x00000000, 0x00000000, 0x00000000⟩,
  ⟨0x05C, 0x00000000, 0x00000000, 0x00000000, 0x00000000, 0xFFFFFFFF, 0x00000000⟩,
  ⟨0x060, 0x00000000, 0x00000000, 0x00000000, 0x00000000, 0xFFFFFFFF, 0x00000000⟩,
  ⟨0x064, 0x00000000, 0x00000000, 0x00000000, 0x00000000, 0xFFFFFFFF, 0x00000000⟩,
  ⟨0x068, 0x00000000, 0x00000000, 0x00000000, 0x00000000, 0xFFFFFFFF, 0x00000000⟩,
  ⟨0x06C, 0x00000000, 0x00000000, 0x00000000, 0x00000000, 0xFFFFFFFF, 0x00000000⟩,
  ⟨0x070, 0x00000001, 0x00000000, 0x00000000, 0x00000000, 0x00000000, 0x00000000⟩,
  ⟨0x074, 0x00000001, 0x00000000, 0x00000000, 0x00000000, 0x00000000, 0x00000000⟩,
  ⟨0x078, 0x00000001, 0x00000000, 0x00000000, 0x00000000, 0x00000000, 0x00000000⟩,
  ⟨0x07C, 0x00000001, 0x00000000, 0x00000000, 0x00000000, 0x00000000, 0x00000000⟩]

def regsMRG_1 : List RegDef := [
  ⟨0x080, 0x00000000, 0x00000000, 0x00000000, 0x00000000, 0x00000000, 0x00000000⟩,
  ⟨0x084, 0x00000000, 0x00000000, 0x00000000, 0x00000000, 0x00000000, 0x00000000⟩,
  ⟨0x088, 0x00000000, 0x00000000, 0x00000000, 0x00000000, 0x00000000, 0x00000000⟩,
  ⟨0x08C, 0x00000000, 0x00000000, 0x00000000, 0x00000000, 0x00000000, 0x00000000⟩,
  ⟨0x090, 0x00000000, 0x00000000, 0x00000000, 0x00000000, 0x00000000, 0x00000000⟩,
  ⟨0x094, 0x00000000, 0x00000000, 0x00000000, 0x00000000, 0x00000000, 0x00000000⟩,
  ⟨0x098, 0x00000000, 0x00000000, 0x00000000, 0x00000000, 0x00000000, 0x00000000⟩,
  ⟨0x09C, 0x00000000, 0x00000000, 0x00000000, 0x00000000, 0x00000000, 0x00000000⟩,
  ⟨0x0A0, 0x00000400, 0x00000000, 0x0000FFFF, 0x00000000, 0x00000000, 0x00000000⟩,
  ⟨0x0A4, 0x00000400, 0x00000000, 0x0000FFFF, 0x00000000, 0x00000000, 0x00000000⟩,
  ⟨0x0A8, 0x00000400, 0x00000000, 0x0000FFFF, 0x00000000, 0x00000000, 0x00000000⟩,
  ⟨0x0AC, 0x00000400, 0x00000000, 0x0000FFFF, 0x00000000, 0x00000000, 0x00000000⟩,
  ⟨0x0B0, 0x00000000, 0x00000007, 0x00000000, 0x00000000, 0x00000000, 0x00000000⟩,
  ⟨0x0B4, 0x00000000, 0x00000000, 0x00000000, 0x00000000, 0x00000000, 0x00000000⟩]

/-- Table — MRG page. -/
def regsMRG : List RegDef := regsMRG_0 ++ regsMRG_1

def regsRUL_0 : List RegDef := [
  ⟨0x040, 0x00000000, 0x00000000, 0x00000001, 0x00000000, 0x00000000, 0x00000000⟩,
  ⟨0x044, 0x00000000, 0x00000000, 0x00000000, 0x00000000, 0x00000000, 0x00000000⟩,
  ⟨0x048, 0x00000000, 0x00000000, 0x00000000, 0x00000000, 0xFFFFFFFF, 0x00000000⟩,
  ⟨0x04C, 0x00000000, 0x00000000, 0x00000000, 0x00000000, 0xFFFFFFFF, 0x00000000⟩,
  ⟨0x050, 0x00000000, 0x000000FF, 0x00000000, 0x00000000, 0x00000000, 0x00000000⟩,
  ⟨0x054, 0x00000000, 0x00000000, 0x00000000, 0x00000000, 0xFFFFFFFF, 0x00000000⟩,
  ⟨0x058, 0x00000000, 0x00000000, 0x00000000, 0x00000000, 0xFFFFFFFF, 0x00000000⟩,
  ⟨0x05C, 0x00000000, 0x00000000, 0x00000000, 0x00000000, 0xFFFFFFFF, 0x00000000⟩,
  ⟨0x060, 0x00000000, 0x00000000, 0x00000000, 0x00000000, 0xFFFFFFFF, 0x00000000⟩,
  ⟨0x064, 0x00000000, 0x00000000, 0x00000000, 0x00000000, 0xFFFFFFFF, 0x00000000⟩,
  ⟨0x068, 0x00000000, 0x00000000, 0x00000000, 0x00000000, 0xFFFFFFFF, 0x00000000⟩,
  ⟨0x06C, 0x00000000, 0x00000000, 0x00000000, 0x00000000, 0xFFFFFFFF, 0x00000000⟩,
  ⟨0x070, 0x00000000, 0x00000000, 0x00000000, 0x00000000, 0xFFFFFFFF, 0x00000000⟩,
  ⟨0x074, 0x00000000, 0x00000000, 0x00000000, 0x00000000, 0xFFFFFFFF, 0x00000000⟩,
  ⟨0x078, 0x00000000, 0x00000000, 0x00000000, 0x00000000, 0xFFFFFFFF, 0x00000000⟩,
  ⟨0x07C, 0x00000000, 0x00000000, 0x00000000, 0x00000000, 0xFFFFFFFF, 0x00000000⟩]

def regsRUL_1 : List RegDef := [
  ⟨0x080, 0x00000000, 0x00000000, 0x00000000, 0x00000000, 0xFFFFFFFF, 0x00000000⟩,
  ⟨0x084, 0x00000000, 0x00000000, 0x00000000, 0x00000000, 0xFFFFFFFF, 0x00000000⟩,
  ⟨0x088, 0x00000000, 0x00000000, 0x00000000, 0x00000000, 0xFFFFFFFF, 0x00000000⟩,
  ⟨0x08C, 0x00000000, 0x00000000, 0x00000000, 0x00000000, 0xFFFFFFFF, 0x00000000⟩,
  ⟨0x090, 0x00000000, 0x00000000, 0x00000000, 0x00000000, 0xFFFFFFFF, 0x00000000⟩,
  ⟨0x094, 0x00000000, 0x00000000, 0x00000000, 0x00000000, 0xFFFFFFFF, 0x00000000⟩,
  ⟨0x098, 0x00000000, 0x00000000, 0x00000000, 0x00000000, 0xFFFFFFFF, 0x00000000⟩,
  ⟨0x09C, 0x00000000, 0x00000000, 0x00000000, 0x00000000, 0xFFFFFFFF, 0x00000000⟩]

/-- Table — RUL page. -/
def regsRUL : List RegDef := regsRUL_0 ++ regsRUL_1

def regsVRD_0 : List RegDef := [
  ⟨0x040, 0x00000000, 0x00000000, 0x00000003, 0x00000000, 0x00000000, 0x00000000⟩,
  ⟨0x044, 0x00000000, 0x00000000, 0x00000000, 0x00000007, 0x00000000, 0x00000000⟩,
  ⟨0x048, 0x00080848, 0x00000000, 0x000F0FFF, 0x00000000, 0x00000000, 0x00000000⟩,
  ⟨0x04C, 0x0010000A, 0x00000000, 0x00FF03FF, 0x00000000, 0x00000000, 0x00000000⟩,
  ⟨0x050, 0x00000000, 0xFFFFFFFF, 0x00000000, 0x00000000, 0x00000000, 0x00000000⟩,
  ⟨0x054, 0x00000000, 0xFFFFFFFF, 0x00000000, 0x00000000, 0x00000000, 0x00000000⟩,
  ⟨0x058, 0x00001000, 0xFFFFFFFF, 0x00000000, 0x00000000, 0x00000000, 0x00000000⟩,
  ⟨0x05C, 0x00000000, 0x00000000, 0x00000000, 0x00000000, 0x00000000, 0x00000000⟩,
  ⟨0x060, 0x00000000, 0x00000000, 0xFFFFFFFF, 0x00000000, 0x00000000, 0x00000000⟩,
  ⟨0x064, 0x00010000, 0x00000000, 0xFFFFFFFF, 0x00000000, 0x00000000, 0x00000000⟩,
  ⟨0x068, 0x00000000, 0x00000000, 0x00000000, 0x00000000, 0xFFFFFFFF, 0x00000000⟩,
  ⟨0x06C, 0x00000000, 0x00000000, 0x00000000, 0x00000000, 0xFFFFFFFF, 0x00000000⟩,
  ⟨0x070, 0x00000000, 0x00000000, 0x00000000, 0x00000000, 0x00000000, 0x00000000⟩,
  ⟨0x074, 0x00010000, 0xFFFFFFFF, 0x00000000, 0x00000000, 0x00000000, 0x00000000⟩,
  ⟨0x078, 0x00010000, 0xFFFFFFFF, 0x00000000, 0x00000000, 0x00000000, 0x00000000⟩,
  ⟨0x07C, 0x00000000, 0x00000000, 0x00000000, 0x00000000, 0x00000000, 0x00000000⟩]

def regsVRD_1 : List RegDef := [
  ⟨0x080, 0x00000000, 0x00000000, 0x00000000, 0x00000000, 0xFFFFFFFF, 0x00000000⟩,
  ⟨0x084, 0x00000000, 0x00000000, 0x00000000, 0x00000000, 0x0000FFFF, 0x00000000⟩,
  ⟨0x088, 0x00000000, 0x00003FFF, 0x00000000, 0x00000000, 0x00000000, 0x00000000⟩,
  ⟨0x08C, 0x00000010, 0x00000000, 0x00000000, 0x00000000, 0x00000000, 0x00000000⟩]

/-- Table — VRD page. -/
def regsVRD : List RegDef := regsVRD_0 ++ regsVRD_1

/-- Table — DEC page. -/
def regsDEC : List RegDef := [
  ⟨0x040, 0x00000000, 0x00000000, 0x00000001, 0x00000000, 0x00000000, 0x00000000⟩,
  ⟨0x044, 0x00000000, 0x00000000, 0x00000000, 0x00000001, 0x00000000, 0x00000000⟩,
  ⟨0x048, 0x00000002, 0x0000003E, 0x00000000, 0x00000000, 0x00000000, 0x00000000⟩,
  ⟨0x04C, 0x00000000, 0x00000003, 0x00000000, 0x00000000, 0x00000000, 0x00000000⟩,
  ⟨0x050, 0x00000000, 0x00000000, 0x00000000, 0x00000000, 0x00000000, 0x00000000⟩,
  ⟨0x054, 0x00000000, 0x00000000, 0x00000000, 0x00000000, 0x00000000, 0x00000000⟩,
  ⟨0x058, 0x00000000, 0x00000000, 0x00000000, 0x00000000, 0x00000000, 0x00000000⟩,
  ⟨0x05C, 0x00000000, 0x00000000, 0x00000000, 0x00000000, 0x00000000, 0x00000000⟩,
  ⟨0x060, 0x00000000, 0x00000000, 0x00000000, 0x00000000, 0x00000000, 0x00000000⟩,
  ⟨0x064, 0x00000000, 0x00000000, 0x00000000, 0x00000000, 0x00000000, 0x00000000⟩,
  ⟨0x068, 0x00000000, 0x00000000, 0x00000000, 0x00000000, 0xFFFFFFFF, 0x00000000⟩,
  ⟨0x06C, 0x00000000, 0x00000000, 0x00000000, 0x00000000, 0xFFFFFFFF, 0x00000000⟩]

def regsSTR_0 : List RegDef := [
  ⟨0x040, 0x00000000, 0x00000000, 0x00000001, 0x00000000, 0x00000000, 0x00000000⟩,
  ⟨0x044, 0x00000000, 0x00000000, 0x00000000, 0x00000F00, 0x00000000, 0x00000000⟩,
  ⟨0x048, 0x00000000, 0x80007FFC, 0x00000000, 0x00000000, 0x00000000, 0x00000000⟩,
  ⟨0x04C, 0x00000000, 0xFFFFFFFF, 0x00000000, 0x00000000, 0x00000000, 0x00000000⟩,
  ⟨0x050, 0x00000000, 0x00000000, 0x00000003, 0x00000000, 0x00000000, 0x00000000⟩,
  ⟨0x054, 0x00000000, 0x00000000, 0x00000000, 0x00000000, 0x00000000, 0x00000000⟩,
  ⟨0x058, 0x00000000, 0x00000000, 0x00000000, 0x00000000, 0xFFFFFF00, 0x00000000⟩,
  ⟨0x05C, 0x00000000, 0x00000000, 0x00000003, 0x00000000, 0x00000000, 0x00000000⟩,
  ⟨0x060, 0x00000000, 0x00000000, 0x00000000, 0x00000000, 0x00000000, 0x00000000⟩,
  ⟨0x064, 0x00000000, 0x00000000, 0x00000000, 0x00000000, 0xFFFFFF00, 0x00000000⟩,
  ⟨0x068, 0x00000000, 0x00000000, 0x00000003, 0x00000000, 0x00000000, 0x00000000⟩,
  ⟨0x06C, 0x00000000, 0x00000000, 0x00000000, 0x00000000, 0x00000000, 0x00000000⟩,
  ⟨0x070, 0x00000000, 0x00000000, 0x00000000, 0x00000000, 0xFFFFFF00, 0x00000000⟩,
  ⟨0x074, 0x00000000, 0x00000000, 0x00000003, 0x00000000, 0x00000000, 0x00000000⟩,
  ⟨0x078, 0x00000000, 0x00000000, 0x00000000, 0x00000000, 0x00000000, 0x00000000⟩,
  ⟨0x07C, 0x00000000, 0x00000000, 0x00000000, 0x00000000, 0xFFFFFF00, 0x00000000⟩]

def regsSTR_1 : List RegDef := [
  ⟨0x080, 0x00000000, 0x00000000, 0x00000003, 0x00000000, 0x00000000, 0x00000000⟩,
  ⟨0x084, 0x00000000, 0x00000000, 0x00000000, 0x00000000, 0x00000000, 0x00000000⟩,
  ⟨0x088, 0x00000000, 0x00000000, 0x00000000, 0x00000000, 0xFFFFFF00, 0x00000000⟩,
  ⟨0x08C, 0x00000000, 0x00000000, 0x00000003, 0x00000000, 0x00000000, 0x00000000⟩,
  ⟨0x090, 0x00000000, 0x00000000, 0x00000000, 0x00000000, 0x00000000, 0x00000000⟩,
  ⟨0x094, 0x00000000, 0x00000000, 0x00000000, 0x00000000, 0xFFFFFF00, 0x00000000⟩,
  ⟨0x098, 0x00000000, 0x00000000, 0x00000003, 0x00000000, 0x00000000, 0x00000000⟩,
  ⟨0x09C, 0x00000000, 0x00000000, 0x00000000, 0x00000000, 0x00000000, 0x00000000⟩,
  ⟨0x0A0, 0x00000000, 0x00000000, 0x00000000, 0x00000000, 0xFFFFFF00, 0x00000000⟩,
  ⟨0x0A4, 0x00000000, 0x00000000, 0x00000003, 0x00000000, 0x00000000, 0x00000000⟩,
  ⟨0x0A8, 0x00000000, 0x00000000, 0x00000000, 0x00000000, 0x00000000, 0x00000000⟩,
  ⟨0x0AC, 0x00000000, 0x00000000, 0x00000000, 0x00000000, 0xFFFFFF00, 0x00000000⟩]

/-- Table — STR page. -/
def regsSTR : List RegDef := regsSTR_0 ++ regsSTR_1

def regsTB_0 : List RegDef := [
  ⟨0x040, 0x00000000, 0x0000003E, 0x00000000, 0x00000000, 0x00000000, 0x00000000⟩,
  ⟨0x044, 0x00000000, 0x00000000, 0x00000000, 0x0000F000, 0x00000000, 0x00000000⟩,
  ⟨0x048, 0x00000000, 0x00000000, 0x00000000, 0x00000000, 0x00000000, 0x00000000⟩,
  ⟨0x04C, 0x00000000, 0x00000000, 0x00000000, 0x00000000, 0x00000000, 0x00000000⟩,
  ⟨0x050, 0x00000000, 0x00000000, 0x00000000, 0x00000000, 0x00000000, 0x00000000⟩,
  ⟨0x054, 0x00000000, 0x00000000, 0x00000000, 0x00000000, 0x00000000, 0x00000000⟩,
  ⟨0x058, 0x00000000, 0x00000000, 0x00000000, 0x00000000, 0x00000000, 0x00000000⟩,
  ⟨0x05C, 0x00000000, 0x00000000, 0x00000000, 0x00000000, 0x00000000, 0xFFFFFFFF⟩,
  ⟨0x060, 0x00000000, 0x00000000, 0x00000000, 0x00000000, 0x00000000, 0xFFFFFFFF⟩,
  ⟨0x064, 0x00000000, 0xFFFFFFFF, 0x00000000, 0x00000000, 0x00000000, 0x00000000⟩,
  ⟨0x068, 0x00000000, 0x000000FF, 0x00000000, 0x00000000, 0x00000000, 0x00000000⟩,
  ⟨0x06C, 0x40286462, 0xFFFFFFFF, 0x00000000, 0x00000000, 0x00000000, 0x00000000⟩,
  ⟨0x070, 0x00000000, 0xFFFFFFFF, 0x00000000, 0x00000000, 0x00000000, 0x00000000⟩,
  ⟨0x074, 0x00000000, 0x0000FFFF, 0x00000000, 0x00000000, 0x00000000, 0x00000000⟩,
  ⟨0x078, 0x00000000, 0x00000000, 0x00000000, 0x00000000, 0x00000000, 0x00000000⟩,
  ⟨0x07C, 0x00000000, 0x0007FFFF, 0x00000000, 0x00000000, 0x00000000, 0x00000000⟩]

def regsTB_1 : List RegDef := [
  ⟨0x080, 0x00000000, 0xFFFFFFFF, 0x00000000, 0x00000000, 0x00000000, 0x00000000⟩,
  ⟨0x084, 0x00000000, 0xFFFFFFFF, 0x00000000, 0x00000000, 0x00000000, 0x00000000⟩,
  ⟨0x088, 0x03808000, 0x0FFFFFFF, 0x00000000, 0x00000000, 0x00000000, 0x00000000⟩,
  ⟨0x08C, 0x204E5D21, 0xFFFFFFFF, 0x00000000, 0x00000000, 0x00000000, 0x00000000⟩,
  ⟨0x090, 0x00001000, 0x000FFF0F, 0x00000000, 0x00000000, 0x00000000, 0x00000000⟩,
  ⟨0x094, 0x00001000, 0x000FFF0F, 0x00000000, 0x00000000, 0x00000000, 0x00000000⟩,
  ⟨0x098, 0x00000000, 0x00000000, 0x00000000, 0x00000010, 0x00000000, 0x00000000⟩,
  ⟨0x09C, 0x00000000, 0x00000000, 0x00000000, 0x00000000, 0xFFFFFFFF, 0x00000000⟩]

/-- Table — TB page. -/
def regsTB : List RegDef := regsTB_0 ++ regsTB_1

def regsCRL_0 : List RegDef := [
  ⟨0x040, 0x00000000, 0x00000001, 0x00000000, 0x00000000, 0x00000000, 0x00000000⟩,
  ⟨0x044, 0x00000000, 0x00000000, 0x00000000, 0x0000007C, 0x00000000, 0x00000000⟩,
  ⟨0x048, 0x00989680, 0xFFFFFFFF, 0x00000000, 0x00000000, 0x00000000, 0x00000000⟩,
  ⟨0x04C, 0x00989680, 0xFFFFFFFF, 0x00000000, 0x00000000, 0x00000000, 0x00000000⟩,
  ⟨0x050, 0x00000000, 0xFFFFFFFF, 0x00000000, 0x00000000, 0x00000000, 0x00000000⟩,
  ⟨0x054, 0x00000000, 0xFFFFFFFF, 0x00000000, 0x00000000, 0x00000000, 0x00000000⟩,
  ⟨0x058, 0x00000000, 0x00000000, 0x00000000, 0x00000000, 0x00000000, 0x00000000⟩,
  ⟨0x05C, 0x00000000, 0x00000000, 0x00000000, 0x00000000, 0x00000000, 0x00000000⟩,
  ⟨0x060, 0x00000000, 0x00FFFFFF, 0x00000000, 0x00000000, 0x00000000, 0x00000000⟩,
  ⟨0x064, 0x00000000, 0xFFFFFFFF, 0x00000000, 0x00000000, 0x00000000, 0x00000000⟩,
  ⟨0x068, 0x00000000, 0xFFFFFFFF, 0x00000000, 0x00000000, 0x00000000, 0x00000000⟩,
  ⟨0x06C, 0x00000000, 0x0003FFFF, 0x00000000, 0x00000000, 0x00000000, 0x00000000⟩,
  ⟨0x070, 0x00000000, 0xFFFFFFFF, 0x00000000, 0x00000000, 0x00000000, 0x00000000⟩,
  ⟨0x074, 0x00000000, 0x00000000, 0x00000000, 0x00000000, 0x00000000, 0x00000000⟩,
  ⟨0x078, 0x00000000, 0x00000000, 0x00000000, 0x00000000, 0x00000000, 0x00000000⟩,
  ⟨0x07C, 0x00000000, 0x00000000, 0x00000000, 0x00000000, 0xFFFFFFFF, 0x00000000⟩]

def regsCRL_1 : List RegDef := [
  ⟨0x080, 0x00000000, 0x00000000, 0x00000000, 0x00000000, 0xFFFFFFFF, 0x00000000⟩,
  ⟨0x084, 0x00000000, 0x00000000, 0x00000000, 0x00000000, 0xFFFFFFFF, 0x00000000⟩]

/-- Table — CRL page. -/
def regsCRL : List RegDef := regsCRL_0 ++ regsCRL_1

def regsEVF_0 : List RegDef := [
  ⟨0x040, 0x00000000, 0x00000001, 0x00000000, 0x00000000, 0x00000000, 0x00000000⟩,
  ⟨0x044, 0x00000000, 0x00000000, 0x00000000, 0x0000001F, 0x00000000, 0x00000000⟩,
  ⟨0x048, 0x0000FFFF, 0x0000FFFF, 0x00000000, 0x00000000, 0x00000000, 0x00000000⟩,
  ⟨0x04C, 0x00000000, 0x0000001F, 0x00000000, 0x00000000, 0x00000000, 0x00000000⟩,
  ⟨0x050, 0x00000000, 0x00000000, 0x00000000, 0xFFFFFFFF, 0x00000000, 0x00000000⟩,
  ⟨0x054, 0x00000000, 0x00000000, 0x00000000, 0xFFFFFFFF, 0x00000000, 0x00000000⟩,
  ⟨0x058, 0x00000000, 0x00000000, 0x00000000, 0xFFFFFFFF, 0x00000000, 0x00000000⟩,
  ⟨0x05C, 0x00000000, 0x00000000, 0x00000000, 0xFFFFFFFF, 0x00000000, 0x00000000⟩,
  ⟨0x060, 0x00000000, 0x00000000, 0x00000000, 0xFFFFFFFF, 0x00000000, 0x00000000⟩,
  ⟨0x064, 0x00000000, 0x00000000, 0x00000000, 0xFFFFFFFF, 0x00000000, 0x00000000⟩,
  ⟨0x068, 0x00000000, 0x00000000, 0x00000000, 0xFFFFFFFF, 0x00000000, 0x00000000⟩,
  ⟨0x06C, 0x00000000, 0x00000000, 0x00000000, 0xFFFFFFFF, 0x00000000, 0x00000000⟩,
  ⟨0x070, 0x00000000, 0x00000000, 0x00000000, 0xFFFFFFFF, 0x00000000, 0x00000000⟩,
  ⟨0x074, 0x00000000, 0x00000000, 0x00000000, 0xFFFFFFFF, 0x00000000, 0x00000000⟩,
  ⟨0x078, 0x00000000, 0x00000000, 0x00000000, 0xFFFFFFFF, 0x00000000, 0x00000000⟩,
  ⟨0x07C, 0x00000000, 0x00000000, 0x00000000, 0xFFFFFFFF, 0x00000000, 0x00000000⟩]

def regsEVF_1 : List RegDef := [
  ⟨0x080, 0x00000000, 0x00000000, 0x00000000, 0xFFFFFFFF, 0x00000000, 0x00000000⟩,
  ⟨0x084, 0x00000000, 0x00000000, 0x00000000, 0xFFFFFFFF, 0x00000000, 0x00000000⟩,
  ⟨0x088, 0x00000000, 0x00000000, 0x00000000, 0xFFFFFFFF, 0x00000000, 0x00000000⟩,
  ⟨0x08C, 0x00000000, 0x00000000, 0x00000000, 0xFFFFFFFF, 0x00000000, 0x00000000⟩,
  ⟨0x090, 0x00000000, 0x00000000, 0x00000000, 0x00000000, 0xFFFFFFFF, 0x00000000⟩,
  ⟨0x094, 0x00000000, 0x00000000, 0x00000000, 0x00000000, 0xFFFFFFFF, 0x00000000⟩,
  ⟨0x098, 0x00000000, 0x00000000, 0x00000000, 0x00000000, 0xFFFFFFFF, 0x00000000⟩,
  ⟨0x09C, 0x00000000, 0x00000000, 0x00000000, 0x00000000, 0xFFFFFFFF, 0x00000000⟩]

/-- Table — EVF page. -/
def regsEVF : List RegDef := regsEVF_0 ++ regsEVF_1

def regsQF_0 : List RegDef := [
  ⟨0x040, 0x00000000, 0x00000001, 0x00000000, 0x00000000, 0x00000000, 0x00000000⟩,
  ⟨0x044, 0x00000000, 0x00000000, 0x00000000, 0x0000000F, 0x00000000, 0x00000000⟩,
  ⟨0x048, 0x00000000, 0x00000000, 0x00000000, 0x00000000, 0x00000000, 0x00000000⟩,
  ⟨0x04C, 0x00000000, 0x00000000, 0x00000000, 0x00000000, 0x00000000, 0x00000000⟩,
  ⟨0x050, 0x00000000, 0x00001FFF, 0x00000000, 0x00000000, 0x00000000, 0x00000000⟩,
  ⟨0x054, 0x00000000, 0x0000FFFF, 0x00000000, 0x00000000, 0x00000000, 0x00000000⟩,
  ⟨0x058, 0x00000000, 0x00000000, 0x00000000, 0x00000000, 0x00000000, 0x00000000⟩,
  ⟨0x05C, 0x00000000, 0x00000000, 0x00000000, 0x00000000, 0x00000000, 0x00000000⟩,
  ⟨0x060, 0x00000000, 0x00000000, 0x00000000, 0x00000000, 0x00000000, 0x00000000⟩,
  ⟨0x064, 0x00000000, 0x0000000F, 0x00000000, 0x00000000, 0x00000000, 0x00000000⟩,
  ⟨0x068, 0x00000000, 0x00000000, 0x00000000, 0x00000000, 0x00000000, 0x00000000⟩,
  ⟨0x06C, 0x00000000, 0x00000000, 0x00000000, 0x00000000, 0x00000000, 0x00000000⟩,
  ⟨0x070, 0x00000001, 0x00000000, 0x00000000, 0x00000000, 0x00000000, 0x00000000⟩,
  ⟨0x074, 0x00000000, 0x00000000, 0x00000000, 0x00000000, 0x00000000, 0x00000000⟩,
  ⟨0x078, 0x00000000, 0x00000000, 0x00000000, 0x00000000, 0x00000000, 0x00000000⟩,
  ⟨0x07C, 0x00000000, 0x00000000, 0x00000000, 0x00000000, 0xFFFFFFFF, 0x00000000⟩]

def regsQF_1 : List RegDef := [
  ⟨0x080, 0x00000000, 0x00000000, 0x00000000, 0x00000000, 0xFFFFFFFF, 0x00000000⟩,
  ⟨0x084, 0x00000000, 0x00000000, 0x00000000, 0x00000000, 0xFFFFFFFF, 0x00000000⟩,
  ⟨0x088, 0x00000000, 0x00000000, 0x00000000, 0x00000000, 0x0000FFFF, 0x00000000⟩,
  ⟨0x08C, 0x00000000, 0x00000000, 0x00000000, 0x00000000, 0x00000000, 0x00000000⟩]

/-- Table — QF page. -/
def regsQF : List RegDef := regsQF_0 ++ regsQF_1

def regsDMA_0 : List RegDef := [
  ⟨0x040, 0x00000000, 0x00000001, 0x00000000, 0x00000000, 0x00000000, 0x00000000⟩,
  ⟨0x044, 0x00000000, 0x00000000, 0x00000000, 0x00000000, 0x00000000, 0x00000000⟩,
  ⟨0x048, 0x00000000, 0x0000001F, 0x00000000, 0x00000000, 0x00000000, 0x00000000⟩,
  ⟨0x04C, 0x00000000, 0x00000002, 0x00000000, 0x00000000, 0x00000000, 0x00000000⟩,
  ⟨0x050, 0x00000000, 0x00000000, 0x00000000, 0x00000030, 0x00000000, 0x00000000⟩,
  ⟨0x054, 0x00000000, 0x00000000, 0x00000000, 0x00000000, 0x00000000, 0x00000000⟩,
  ⟨0x058, 0x00000000, 0x00000000, 0x00000000, 0x00000000, 0x00000000, 0x00000000⟩,
  ⟨0x05C, 0x00000000, 0x00000000, 0x00000000, 0x00000000, 0x00000000, 0x00000000⟩,
  ⟨0x060, 0x00000000, 0x00000000, 0x00000000, 0x00000000, 0x00000000, 0x00000000⟩,
  ⟨0x064, 0x00000000, 0x00000000, 0x00000000, 0x00000000, 0x00000000, 0x00000000⟩,
  ⟨0x068, 0x00000000, 0x00000000, 0x00000000, 0xFFFFFFFF, 0x00000000, 0x00000000⟩,
  ⟨0x06C, 0x00000000, 0x00000000, 0x00000000, 0xFFFFFFFF, 0x00000000, 0x00000000⟩,
  ⟨0x070, 0x00000000, 0x00000000, 0x00000000, 0xFFFFFFFF, 0x00000000, 0x00000000⟩,
  ⟨0x074, 0x00000000, 0x00000000, 0x00000000, 0x00000000, 0x00000000, 0x00000000⟩,
  ⟨0x078, 0x00000000, 0x00000000, 0x00000000, 0x00000000, 0x00000000, 0x00000000⟩,
  ⟨0x07C, 0x00000000, 0x00000000, 0x00000000, 0x00000000, 0x00000000, 0x00000000⟩]

def regsDMA_1 : List RegDef := [
  ⟨0x080, 0x00000000, 0x00000000, 0x00000000, 0x00000000, 0xFFFFFFFF, 0x00000000⟩,
  ⟨0x084, 0x00000000, 0x00000000, 0x00000000, 0x00000000, 0xFFFFFFFF, 0x00000000⟩]

/-- Table — DMA page. -/
def regsDMA : List RegDef := regsDMA_0 ++ regsDMA_1

def regsMCG_0 : List RegDef := [
  ⟨0x040, 0x00000000, 0x00000001, 0x00000000, 0x00000000, 0x00000000, 0x00000000⟩,
  ⟨0x044, 0x00000000, 0x00000000, 0x00000000, 0x00000030, 0x00000000, 0x00000000⟩,
  ⟨0x048, 0x00000000, 0x000001FF, 0x00000000, 0x00000000, 0x00000000, 0x00000000⟩,
  ⟨0x04C, 0x00000000, 0xFFFFFFFF, 0x00000000, 0x00000000, 0x00000000, 0x00000000⟩,
  ⟨0x050, 0x00000000, 0xFFFF01FF, 0x00000000, 0x00000000, 0x00000000, 0x00000000⟩,
  ⟨0x054, 0x00000000, 0x3FFFFFFF, 0x00000000, 0x00000000, 0x00000000, 0x00000000⟩,
  ⟨0x058, 0x20000000, 0x3FFFFFFF, 0x00000000, 0x00000000, 0x00000000, 0x00000000⟩,
  ⟨0x05C, 0x00000040, 0x000007FF, 0x00000000, 0x00000000, 0x00000000, 0x00000000⟩,
  ⟨0x060, 0x00001210, 0x00001FFF, 0x00000000, 0x00000000, 0x00000000, 0x00000000⟩,
  ⟨0x064, 0x00000000, 0x00000000, 0x00000000, 0x00000000, 0x00000000, 0x00000000⟩,
  ⟨0x068, 0x00000000, 0x007FFFFF, 0x00000000, 0x00000000, 0x00000000, 0x00000000⟩,
  ⟨0x06C, 0x00000000, 0x007FFFFF, 0x00000000, 0x00000000, 0x00000000, 0x00000000⟩,
  ⟨0x070, 0x00000000, 0x007FFFFF, 0x00000000, 0x00000000, 0x00000000, 0x00000000⟩,
  ⟨0x074, 0x00000000, 0x007FFFFF, 0x00000000, 0x00000000, 0x00000000, 0x00000000⟩,
  ⟨0x078, 0x00000000, 0x007FFFFF, 0x00000000, 0x00000000, 0x00000000, 0x00000000⟩,
  ⟨0x07C, 0x00000000, 0x007FFFFF, 0x00000000, 0x00000000, 0x00000000, 0x00000000⟩]

def regsMCG_1 : List RegDef := [
  ⟨0x080, 0x00000000, 0x007FFFFF, 0x00000000, 0x00000000, 0x00000000, 0x00000000⟩,
  ⟨0x084, 0x00000000, 0x007FFFFF, 0x00000000, 0x00000000, 0x00000000, 0x00000000⟩,
  ⟨0x088, 0x00000102, 0x0000FF02, 0x00000000, 0x00000000, 0x00000000, 0x00000000⟩,
  ⟨0x08C, 0x00000000, 0x00000000, 0x00000000, 0x00000000, 0x00000000, 0x00000000⟩,
  ⟨0x090, 0x00000000, 0x00000000, 0x00000000, 0x00000000, 0xFFFFFFFF, 0x00000000⟩,
  ⟨0x094, 0x00000000, 0x00000000, 0x00000000, 0x00000000, 0x00000000, 0x00000000⟩,
  ⟨0x098, 0x00000000, 0x00000000, 0x00000000, 0x00000000, 0x00000000, 0x00000000⟩,
  ⟨0x09C, 0x00000000, 0x00000000, 0x00000000, 0x00000000, 0x00000000, 0x00000000⟩]

/-- Table — MCG page. -/
def regsMCG : List RegDef := regsMCG_0 ++ regsMCG_1

/-- Table — MC page. -/
def regsMC : List RegDef := [
  ⟨0x040, 0x00000000, 0x00000000, 0x00000000, 0x00000000, 0x00000000, 0x00000000⟩,
  ⟨0x044, 0x00000000, 0x00000000, 0x00000000, 0x00000000, 0x00000000, 0x00000000⟩,
  ⟨0x048, 0x00000000, 0x00000000, 0x00000000, 0x00000000, 0xFFFFFFFF, 0x00000000⟩,
  ⟨0x04C, 0x00000000, 0x00000000, 0x00000000, 0x00000000, 0xFFFFFFFF, 0x00000000⟩,
  ⟨0x050, 0x00000000, 0x00000000, 0x00000000, 0x00000000, 0x00000000, 0x00000000⟩]

def regsZIP_0 : List RegDef := [
  ⟨0x040, 0x00000000, 0x00000000, 0x00000003, 0x00000000, 0x00000000, 0x00000000⟩,
  ⟨0x044, 0x00000000, 0x00000000, 0x00000000, 0x00000030, 0x00000000, 0x00000000⟩,
  ⟨0x048, 0x00000000, 0xFFFFFFFF, 0x00000000, 0x00000000, 0x00000000, 0x00000000⟩,
  ⟨0x04C, 0x00000000, 0xFFFFFFFF, 0x00000000, 0x00000000, 0x00000000, 0x00000000⟩,
  ⟨0x050, 0x00000010, 0xFFFFFFFF, 0x00000000, 0x00000000, 0x00000000, 0x00000000⟩,
  ⟨0x054, 0x00000000, 0xFFFFFFFF, 0x00000000, 0x00000000, 0x00000000, 0x00000000⟩,
  ⟨0x058, 0x00000000, 0x00000000, 0x00000000, 0x00000000, 0x00000000, 0x00000000⟩,
  ⟨0x05C, 0x00000000, 0x00000000, 0x00000000, 0x00000000, 0x00000000, 0x00000000⟩,
  ⟨0x060, 0x00000000, 0x00000000, 0x00000000, 0x00000000, 0xFFFFFFFF, 0x00000000⟩,
  ⟨0x064, 0x00000000, 0x00000000, 0x00000000, 0x00000000, 0xFFFFFFFF, 0x00000000⟩,
  ⟨0x068, 0x00000000, 0x00000000, 0x00000000, 0x00000000, 0xFFFFFFFF, 0x00000000⟩,
  ⟨0x06C, 0x00000000, 0x00000000, 0x00000000, 0x00000000, 0xFFFFFFFF, 0x00000000⟩,
  ⟨0x070, 0x00000000, 0x00000000, 0x00000000, 0x00000000, 0xFFFFFFFF, 0x00000000⟩,
  ⟨0x074, 0x00000000, 0x00000000, 0x00000000, 0x00000000, 0x00000000, 0x00000000⟩,
  ⟨0x078, 0x00000000, 0x00000000, 0x00000000, 0x00000000, 0x0000FFFF, 0x00000000⟩,
  ⟨0x07C, 0x00000000, 0x00000000, 0x00000000, 0x00000000, 0x00000000, 0x00000000⟩]

def regsZIP_1 : List RegDef := [
  ⟨0x080, 0x00000000, 0x00000000, 0x00000000, 0x00000000, 0x00000000, 0x00000000⟩,
  ⟨0x084, 0x00000000, 0x00000000, 0x00000000, 0x00000000, 0xFFFFFFFF, 0x00000000⟩]

/-- Table — ZIP page. -/
def regsZIP : List RegDef := regsZIP_0 ++ regsZIP_1

def regsETH_0 : List RegDef := [
  ⟨0x040, 0x00000000, 0x00000003, 0x00000000, 0x00000000, 0x00000000, 0x00000000⟩,
  ⟨0x044, 0x00000000, 0x00000000, 0x00000000, 0x00000004, 0x00000000, 0x00000000⟩,
  ⟨0x048, 0x00000000, 0xFFFFFFFF, 0x00000000, 0x00000000, 0x00000000, 0x00000000⟩,
  ⟨0x04C, 0x00000000, 0x0000FFFF, 0x00000000, 0x00000000, 0x00000000, 0x00000000⟩,
  ⟨0x050, 0x00000000, 0xFFFFFFFF, 0x00000000, 0x00000000, 0x00000000, 0x00000000⟩,
  ⟨0x054, 0x00000000, 0xFFFFFFFF, 0x00000000, 0x00000000, 0x00000000, 0x00000000⟩,
  ⟨0x058, 0x00000000, 0xFFFFFFFF, 0x00000000, 0x00000000, 0x00000000, 0x00000000⟩,
  ⟨0x05C, 0x00000000, 0x003FFFFF, 0x00000000, 0x00000000, 0x00000000, 0x00000000⟩,
  ⟨0x060, 0x000005DC, 0x00003FFF, 0x00000000, 0x00000000, 0x00000000, 0x00000000⟩,
  ⟨0x064, 0x0000033C, 0x00000FFF, 0x00000000, 0x00000000, 0x00000000, 0x00000000⟩,
  ⟨0x068, 0x00400001, 0x00FF3F01, 0x00000000, 0x00000000, 0x00000000, 0x00000000⟩,
  ⟨0x06C, 0x00000000, 0x00000000, 0x00000000, 0x00000000, 0xFFFFFFFF, 0x00000000⟩,
  ⟨0x070, 0x00000000, 0x00000000, 0x00000000, 0x00000000, 0xFFFFFFFF, 0x00000000⟩,
  ⟨0x074, 0x00000000, 0x00000000, 0x00000000, 0x00000000, 0xFFFFFFFF, 0x00000000⟩,
  ⟨0x078, 0x00000000, 0x00000000, 0x00000000, 0x00000000, 0xFFFFFFFF, 0x00000000⟩,
  ⟨0x07C, 0x00000000, 0x00000000, 0x00000000, 0x00000000, 0xFFFFFFFF, 0x00000000⟩]

def regsETH_1 : List RegDef := [
  ⟨0x080, 0x00000000, 0x00000000, 0x00000000, 0x00000000, 0xFFFFFFFF, 0x00000000⟩,
  ⟨0x084, 0x00000000, 0x00000000, 0x00000000, 0x00000000, 0xFFFFFFFF, 0x00000000⟩,
  ⟨0x088, 0x00000000, 0x00000000, 0x00000000, 0x00000000, 0xFFFFFFFF, 0x00000000⟩,
  ⟨0x08C, 0x00000000, 0x00000000, 0x00000000, 0x00000000, 0xFFFFFFFF, 0x00000000⟩]

/-- Table — ETH page. -/
def regsETH : List RegDef := regsETH_0 ++ regsETH_1

def regsNET_0 : List RegDef := [
  ⟨0x040, 0x00000000, 0x00000003, 0x00000000, 0x00000000, 0x00000000, 0x00000000⟩,
  ⟨0x044, 0x00000000, 0x00000000, 0x00000000, 0x00000000, 0x00000000, 0x00000000⟩,
  ⟨0x048, 0x43575257, 0xFFFFFFFF, 0x00000000, 0x00000000, 0x00000000, 0x00000000⟩,
  ⟨0x04C, 0x000003E8, 0x0000FFFF, 0x00000000, 0x00000000, 0x00000000, 0x00000000⟩,
  ⟨0x050, 0x00000000, 0x000003FF, 0x00000000, 0x00000000, 0x00000000, 0x00000000⟩,
  ⟨0x054, 0x00000000, 0x00000000, 0x00000000, 0x00000002, 0x00000000, 0x00000000⟩,
  ⟨0x058, 0x00000000, 0xFFFFFFFF, 0x00000000, 0x00000000, 0x00000000, 0x00000000⟩,
  ⟨0x05C, 0x00000000, 0xFFFFFFFF, 0x00000000, 0x00000000, 0x00000000, 0x00000000⟩,
  ⟨0x060, 0x00000000, 0xFFFFFFFF, 0x00000000, 0x00000000, 0x00000000, 0x00000000⟩,
  ⟨0x064, 0x00000000, 0xFFFFFFFF, 0x00000000, 0x00000000, 0x00000000, 0x00000000⟩,
  ⟨0x068, 0x00000000, 0x00000007, 0x00000000, 0x00000000, 0x00000000, 0x00000000⟩,
  ⟨0x06C, 0x00000000, 0x00000000, 0x00000000, 0x00000000, 0x00000000, 0x00000000⟩,
  ⟨0x070, 0x00000000, 0x00000000, 0x00000000, 0x00000000, 0x00000000, 0x00000000⟩,
  ⟨0x074, 0x00000000, 0x00000000, 0x00000000, 0x00000000, 0xFFFFFFFF, 0x00000000⟩,
  ⟨0x078, 0x00000000, 0x00000000, 0x00000000, 0x00000000, 0xFFFFFFFF, 0x00000000⟩,
  ⟨0x07C, 0x00000000, 0x00000000, 0x00000000, 0x00000000, 0xFFFFFFFF, 0x00000000⟩]

def regsNET_1 : List RegDef := [
  ⟨0x080, 0x00000000, 0x00000000, 0x00000000, 0x00000000, 0xFFFFFFFF, 0x00000000⟩,
  ⟨0x084, 0x00000000, 0x00000000, 0x00000000, 0x00000000, 0xFFFFFFFF, 0x00000000⟩,
  ⟨0x088, 0x00000000, 0x00000000, 0x00000000, 0x00000000, 0xFFFFFFFF, 0x00000000⟩,
  ⟨0x08C, 0x00001700, 0x0003FFFF, 0x00000000, 0x00000000, 0x00000000, 0x00000000⟩,
  ⟨0x090, 0x00000000, 0xFFFFFFFF, 0x00000000, 0x00000000, 0x00000000, 0x00000000⟩,
  ⟨0x094, 0x00000000, 0x00000000, 0x00000000, 0x00000000, 0xFFFFFFFF, 0x00000000⟩,
  ⟨0x098, 0x00000000, 0x00000000, 0x00000000, 0x00000000, 0xFFFFFFFF, 0x00000000⟩,
  ⟨0x09C, 0x00000000, 0x00000000, 0x00000000, 0x00000000, 0xFFFFFFFF, 0x00000000⟩]

/-- Table — NET page. -/
def regsNET : List RegDef := regsNET_0 ++ regsNET_1

def regsPCIE_0 : List RegDef := [
  ⟨0x040, 0x00000000, 0x00000003, 0x00000000, 0x00000000, 0x00000000, 0x00000000⟩,
  ⟨0x044, 0x00000000, 0x00000000, 0x00000000, 0x00000000, 0x00000000, 0x00000000⟩,
  ⟨0x048, 0x00000000, 0x00000000, 0x00000000, 0x00000000, 0x00000000, 0x00000000⟩,
  ⟨0x04C, 0x00000000, 0x00000000, 0x00000000, 0x00000000, 0x00000000, 0x00000000⟩,
  ⟨0x050, 0x00000000, 0x00000000, 0x00000000, 0x00000000, 0x00000000, 0x00000000⟩,
  ⟨0x054, 0x00000000, 0x00000000, 0x00000000, 0x00000000, 0x00000000, 0x00000000⟩,
  ⟨0x058, 0x00000000, 0x00000000, 0x00000000, 0x00000000, 0xFFFFFFFF, 0x00000000⟩,
  ⟨0x05C, 0x00000000, 0xFFFFFFFF, 0x00000000, 0x00000000, 0x00000000, 0x00000000⟩,
  ⟨0x060, 0x00000000, 0x00000000, 0x00000000, 0x00000000, 0x00000000, 0x00000000⟩,
  ⟨0x064, 0x00000000, 0x00000000, 0x00000000, 0x00000000, 0x00000000, 0x00000000⟩,
  ⟨0x068, 0x00000000, 0x00000000, 0x00000000, 0x00000000, 0x00000000, 0x00000000⟩,
  ⟨0x06C, 0x00000000, 0x00000000, 0x00000000, 0x00000000, 0xFFFFFFFF, 0x00000000⟩,
  ⟨0x070, 0x0000000A, 0x0000000F, 0x00000000, 0x00000000, 0x00000000, 0x00000000⟩,
  ⟨0x074, 0x00000000, 0x00000000, 0x00000000, 0x00000000, 0xFFFFFFFF, 0x00000000⟩,
  ⟨0x078, 0x00000000, 0x00000000, 0x00000000, 0x00000000, 0xFFFFFFFF, 0x00000000⟩,
  ⟨0x07C, 0x00000000, 0x00000000, 0x00000000, 0x00000000, 0xFFFFFFFF, 0x00000000⟩]

def regsPCIE_1 : List RegDef := [
  ⟨0x080, 0x00000000, 0x00000000, 0x00000000, 0x00000000, 0xFFFFFFFF, 0x00000000⟩,
  ⟨0x084, 0x00000000, 0x00000000, 0x00000000, 0x00000000, 0xFFFFFFFF, 0x00000000⟩,
  ⟨0x088, 0x00000000, 0x00000000, 0x00000000, 0x00000000, 0x00000000, 0x00000000⟩,
  ⟨0x08C, 0x00000000, 0x00000000, 0x00000000, 0x00000000, 0x00000000, 0x00000000⟩,
  ⟨0x090, 0x00000000, 0x00000000, 0x00000000, 0x00000000, 0xFFFFFFFF, 0x00000000⟩,
  ⟨0x094, 0x00000000, 0x00FFFFFF, 0x00000000, 0x00000000, 0x00000000, 0x00000000⟩]

/-- Table — PCIE page. -/
def regsPCIE : List RegDef := regsPCIE_0 ++ regsPCIE_1

/-- Table — MTWI page. -/
def regsMTWI : List RegDef := [
  ⟨0x040, 0x00000065, 0x000003FF, 0x00000000, 0x00000000, 0x00000000, 0x00000000⟩,
  ⟨0x044, 0x0000002C, 0x00000000, 0x00000000, 0x00000000, 0x00000000, 0x00000000⟩,
  ⟨0x048, 0x00020F03, 0x0007FFFF, 0x00000000, 0x00000000, 0x00000000, 0x00000000⟩,
  ⟨0x04C, 0x00000000, 0x00000000, 0x00000000, 0x0000003E, 0x00000000, 0x00000000⟩,
  ⟨0x050, 0x00000000, 0x00000000, 0x00000000, 0x00000000, 0x00000000, 0x00000000⟩,
  ⟨0x054, 0x00000000, 0x00000000, 0x00000000, 0x00000000, 0x00000000, 0x00000000⟩,
  ⟨0x058, 0x00000000, 0x00000000, 0x00000000, 0x00000000, 0x00000000, 0x00000000⟩,
  ⟨0x05C, 0x00000000, 0x00000000, 0x00000000, 0x00000000, 0x00000000, 0x00000000⟩,
  ⟨0x060, 0x00000000, 0x00000000, 0x00000000, 0x00000000, 0xFFFFFFFF, 0x00000000⟩,
  ⟨0x064, 0x00000000, 0x00000000, 0x00000000, 0x00000000, 0xFFFFFFFF, 0x00000000⟩,
  ⟨0x068, 0x00000000, 0x00000000, 0x00000000, 0x00000000, 0x0000FFFF, 0x00000000⟩,
  ⟨0x06C, 0x00000003, 0x00000000, 0x00000000, 0x00000000, 0x00000000, 0x00000000⟩]

/-- Table — TWL page. -/
def regsTWL : List RegDef := [
  ⟨0x040, 0x00190C00, 0x00FF3FFF, 0x00000000, 0x00000000, 0x00000000, 0x00000000⟩,
  ⟨0x044, 0xC8EBC8FA, 0xFFFFFFFF, 0x00000000, 0x00000000, 0x00000000, 0x00000000⟩,
  ⟨0x048, 0x0F0DEBC8, 0xFFFFFFFF, 0x00000000, 0x00000000, 0x00000000, 0x00000000⟩,
  ⟨0x04C, 0x00000000, 0x01FFFF7F, 0x00000000, 0x00000000, 0x00000000, 0x00000000⟩,
  ⟨0x050, 0x00000000, 0x00000000, 0x00000000, 0x002000FE, 0x00000000, 0x00000000⟩,
  ⟨0x054, 0x00000000, 0x00000000, 0x00000000, 0x00000000, 0x00000000, 0x00000000⟩,
  ⟨0x058, 0x00000000, 0x00000000, 0x00000000, 0x00000000, 0x00000000, 0x00000000⟩,
  ⟨0x05C, 0x00000000, 0x00000000, 0x00000000, 0x00000000, 0x00000000, 0x00000000⟩,
  ⟨0x060, 0x00000000, 0x00000000, 0x00000000, 0x00000200, 0x00000000, 0x00000000⟩,
  ⟨0x064, 0x00000000, 0x00000000, 0x00000000, 0x00000000, 0xFFFFFFFF, 0x00000000⟩]

def regsSUPV0_0 : List RegDef := [
  ⟨0x040, 0x00000001, 0x00000001, 0x00000000, 0x00000000, 0x00000000, 0x00000000⟩,
  ⟨0x044, 0x00000000, 0x00000000, 0x00000000, 0x0000001F, 0x00000000, 0x00000000⟩,
  ⟨0x048, 0x00000003, 0x00000003, 0x00000000, 0x00000000, 0x00000000, 0x00000000⟩,
  ⟨0x04C, 0x00000000, 0x00000000, 0x00000000, 0x00000000, 0x00000000, 0x00000000⟩,
  ⟨0x050, 0x00000100, 0x00000000, 0x00000000, 0x00000000, 0x00000000, 0x00000000⟩,
  ⟨0x054, 0x00000000, 0x00000000, 0x00000000, 0x00000000, 0x00000000, 0x00000000⟩,
  ⟨0x058, 0x00000000, 0x000000FF, 0x00000000, 0x00000000, 0x00000000, 0x00000000⟩,
  ⟨0x05C, 0x00000000, 0x00000000, 0x00000000, 0x00000000, 0x00000000, 0x00000000⟩,
  ⟨0x060, 0x00000000, 0x00000000, 0x00000000, 0x00000000, 0x00000000, 0x00000000⟩,
  ⟨0x064, 0x00000000, 0x00000000, 0x00000000, 0x00000000, 0x00000000, 0x00000000⟩,
  ⟨0x068, 0x00000000, 0x00000000, 0x00000000, 0x00000000, 0x00000000, 0x00000000⟩,
  ⟨0x06C, 0x00000000, 0x00000000, 0x00000000, 0x00000000, 0x00000000, 0x00000000⟩,
  ⟨0x070, 0x00000000, 0x00000000, 0x00000000, 0x00000000, 0x00000000, 0x00000000⟩,
  ⟨0x074, 0x00000000, 0x00000000, 0x00000000, 0x00000000, 0x00000000, 0x00000000⟩,
  ⟨0x078, 0x00000000, 0x00000000, 0x00000000, 0x00000000, 0x00000000, 0x00000000⟩,
  ⟨0x07C, 0x00000000, 0xFFFFFFFF, 0x00000000, 0x00000000, 0x00000000, 0x00000000⟩]

def regsSUPV0_1 : List RegDef := [
  ⟨0x080, 0x00000000, 0x00000000, 0x00000000, 0x00000000, 0xFFFFFFFF, 0x00000000⟩,
  ⟨0x084, 0x00000000, 0x00000000, 0x00000000, 0x00000000, 0xFFFFFFFF, 0x00000000⟩,
  ⟨0x088, 0x00000000, 0x00000000, 0x00000000, 0x00000000, 0xFFFFFFFF, 0x00000000⟩]

/-- Table — SUPV0 page. -/
def regsSUPV0 : List RegDef := regsSUPV0_0 ++ regsSUPV0_1

/-- Table — SUPV1 page. -/
def regsSUPV1 : List RegDef := [
  ⟨0x040, 0x00000001, 0x00000001, 0x00000000, 0x00000000, 0x00000000, 0x00000000⟩,
  ⟨0x044, 0x00000000, 0x00000000, 0x00000000, 0x00000006, 0x00000000, 0x00000000⟩,
  ⟨0x048, 0x000A0064, 0x03FF03FF, 0x00000000, 0x00000000, 0x00000000, 0x00000000⟩,
  ⟨0x04C, 0x0000001E, 0x0000FFFF, 0x00000000, 0x00000000, 0x00000000, 0x00000000⟩,
  ⟨0x050, 0x00000007, 0x00000000, 0x00000000, 0x00000000, 0x00000000, 0x00000000⟩,
  ⟨0x054, 0x00000000, 0x00000000, 0x00000000, 0x00000000, 0xFFFFFFFF, 0x00000000⟩,
  ⟨0x058, 0x00000000, 0x00000000, 0x00000000, 0x00000000, 0x00000000, 0x00000000⟩,
  ⟨0x05C, 0x00000000, 0x00000000, 0x00000000, 0x00000000, 0x00000000, 0x00000000⟩,
  ⟨0x060, 0x00000000, 0x000000FF, 0x00000000, 0x00000000, 0x00000000, 0x00000000⟩,
  ⟨0x064, 0x00000000, 0x00000000, 0x00000000, 0x00000000, 0x00000000, 0x00000000⟩]

/-- Table — FUSE page. -/
def regsFUSE : List RegDef := [
  ⟨0x040, 0x00000000, 0x00000000, 0x00000000, 0x00000000, 0x00000000, 0x00000000⟩,
  ⟨0x044, 0x00000000, 0x00000000, 0x00000000, 0x00000000, 0x00000000, 0x00000000⟩,
  ⟨0x048, 0x00000000, 0x00000000, 0x00000000, 0x00000000, 0x00000000, 0x00000000⟩,
  ⟨0x04C, 0x00000000, 0x00000000, 0x00000000, 0x00000000, 0x00000000, 0x00000000⟩,
  ⟨0x050, 0x00000000, 0x00000000, 0x00000000, 0x00000000, 0x00000000, 0x00000000⟩,
  ⟨0x054, 0x00000000, 0x00000000, 0x00000000, 0x00000000, 0x00000000, 0x00000000⟩,
  ⟨0x058, 0x00000000, 0x00000000, 0x00000000, 0x00000000, 0x00000000, 0x00000000⟩,
  ⟨0x05C, 0x00000000, 0x00000000, 0x00000000, 0x00000000, 0x00000000, 0x00000000⟩,
  ⟨0x060, 0x00000000, 0x00000000, 0x00000000, 0x00000000, 0x00000000, 0x00000000⟩,
  ⟨0x064, 0x00000000, 0x00000000, 0x00000000, 0x00000000, 0x00000000, 0x00000000⟩,
  ⟨0x068, 0x00000000, 0x00000000, 0x00000000, 0x00000000, 0x00000000, 0x00000000⟩,
  ⟨0x06C, 0x00000000, 0x00000000, 0x00000000, 0x00000000, 0x00000000, 0x00000000⟩,
  ⟨0x070, 0x00000000, 0x00000000, 0x00000000, 0x00000000, 0x00000000, 0x00000000⟩,
  ⟨0x074, 0x00000000, 0x00000000, 0x00000000, 0x00000000, 0x00000000, 0x00000000⟩,
  ⟨0x078, 0x00000000, 0x000001FF, 0x00000000, 0x00000000, 0x00000000, 0x00000000⟩]

/-- Table — BOOT page. -/
def regsBOOT : List RegDef := [
  ⟨0x040, 0x00000000, 0x00000000, 0x00000000, 0x00000000, 0x00000000, 0x00000000⟩,
  ⟨0x044, 0x00000000, 0x00000000, 0x00000000, 0x00000000, 0x00000000, 0x00000000⟩,
  ⟨0x048, 0x00000000, 0x00000000, 0x00000000, 0x00000000, 0x00000000, 0x00000000⟩,
  ⟨0x04C, 0x00000000, 0x00000000, 0x00000000, 0x00000000, 0x00000000, 0x00000000⟩,
  ⟨0x050, 0x00000000, 0x00000000, 0x00000000, 0x00000000, 0x00000000, 0x00000000⟩,
  ⟨0x054, 0x00000000, 0x00000000, 0x00000000, 0x00000000, 0x00000000, 0x00000000⟩,
  ⟨0x058, 0x00000000, 0x00000000, 0x00000000, 0x00000000, 0x00000000, 0x00000000⟩]

/-- Table — QSPI page. -/
def regsQSPI : List RegDef := [
  ⟨0x040, 0x00000000, 0x000000F1, 0x00000000, 0x00000000, 0x00000000, 0x00000000⟩,
  ⟨0x044, 0x00000000, 0x00000000, 0x00000000, 0x0000000E, 0x00000000, 0x00000000⟩,
  ⟨0x048, 0x00000000, 0x0003FFFF, 0x00000000, 0x00000000, 0x00000000, 0x00000000⟩,
  ⟨0x04C, 0x00000000, 0xFFFFFFFF, 0x00000000, 0x00000000, 0x00000000, 0x00000000⟩,
  ⟨0x050, 0x00000000, 0x000001FF, 0x00000000, 0x00000000, 0x00000000, 0x00000000⟩,
  ⟨0x054, 0x00000000, 0x00000000, 0x00000000, 0x00000000, 0x00000000, 0x00000000⟩,
  ⟨0x058, 0x00000000, 0x00000000, 0x00000000, 0x00000000, 0x00000000, 0x00000000⟩,
  ⟨0x05C, 0x00000000, 0x00000000, 0x00000000, 0x00000000, 0x00000000, 0x00000000⟩,
  ⟨0x060, 0x00000000, 0x00000000, 0x00000000, 0x00000000, 0x00000000, 0x00000000⟩,
  ⟨0x064, 0x00000000, 0x00000000, 0x00000000, 0x00000000, 0x00000000, 0x00000000⟩,
  ⟨0x068, 0x00006401, 0x0000FF01, 0x00000000, 0x00000000, 0x00000000, 0x00000000⟩,
  ⟨0x06C, 0x00000000, 0x00000000, 0x00000000, 0x00000000, 0xFFFFFFFF, 0x00000000⟩]

def regsHLTH_0 : List RegDef := [
  ⟨0x040, 0x00000003, 0x00000003, 0x00000000, 0x00000000, 0x00000000, 0x00000000⟩,
  ⟨0x044, 0x00000000, 0x00000000, 0x00000000, 0x0000000F, 0x00000000, 0x00000000⟩,
  ⟨0x048, 0x00000000, 0x0000000F, 0x00000000, 0x00000000, 0x00000000, 0x00000000⟩,
  ⟨0x04C, 0x00000000, 0x00000000, 0x00000000, 0x00000000, 0x00000000, 0x00000000⟩,
  ⟨0x050, 0x00057364, 0x00FFFFFF, 0x00000000, 0x00000000, 0x00000000, 0x00000000⟩,
  ⟨0x054, 0x00000000, 0x00000007, 0x00000000, 0x00000000, 0x00000000, 0x00000000⟩,
  ⟨0x058, 0x00000000, 0x00000000, 0x00000000, 0x00000000, 0x00000000, 0x00000000⟩,
  ⟨0x05C, 0x00000000, 0x00000000, 0x00000000, 0x00000000, 0x00000000, 0x00000000⟩,
  ⟨0x060, 0x00000000, 0x0000000F, 0x00000000, 0x00000000, 0x00000000, 0x00000000⟩,
  ⟨0x064, 0x00000000, 0x00000000, 0x00000000, 0x00000000, 0x00000000, 0x00000000⟩,
  ⟨0x068, 0x00000000, 0x00000000, 0x00000000, 0x00000000, 0x00000000, 0x00000000⟩,
  ⟨0x06C, 0x00000580, 0x00001FFF, 0x00000000, 0x00000000, 0x00000000, 0x00000000⟩,
  ⟨0x070, 0x004B0627, 0xFFFFFFFF, 0x00000000, 0x00000000, 0x00000000, 0x00000000⟩,
  ⟨0x074, 0x0352028A, 0x03FF03FF, 0x00000000, 0x00000000, 0x00000000, 0x00000000⟩,
  ⟨0x078, 0x00000000, 0x00000000, 0x00000000, 0x00000000, 0x00000000, 0x00000000⟩,
  ⟨0x07C, 0x00000000, 0x00000006, 0x00000000, 0x00000000, 0x00000000, 0x00000000⟩]

def regsHLTH_1 : List RegDef := [
  ⟨0x080, 0x00000000, 0x07FF07FF, 0x00000000, 0x00000000, 0x00000000, 0x00000000⟩,
  ⟨0x084, 0x00000000, 0x00000000, 0x00000000, 0x00000000, 0x00000000, 0x00000000⟩,
  ⟨0x088, 0x00000000, 0x00000000, 0x00000000, 0x00000000, 0x00000000, 0x00000000⟩,
  ⟨0x08C, 0x00000000, 0x00000000, 0x00000000, 0x00000000, 0xFFFFFFFF, 0x00000000⟩]

/-- Table — HLTH page. -/
def regsHLTH : List RegDef := regsHLTH_0 ++ regsHLTH_1

/-- Table — TST page. -/
def regsTST : List RegDef := [
  ⟨0x040, 0x00000000, 0x00000000, 0x00000000, 0x00000000, 0x00000000, 0x00000000⟩,
  ⟨0x044, 0x00000001, 0x00000000, 0x00000000, 0x00000000, 0x00000000, 0x00000000⟩,
  ⟨0x048, 0x00000000, 0x00000000, 0x00000000, 0x00000001, 0x00000000, 0x00000000⟩]

/-- The common header, R660. -/
def hdrRegs : List RegDef := [
  ⟨0x000, 0x00000000, 0x00000000, 0x00000000, 0x00000000, 0x00000000, 0x00000000⟩,
  ⟨0x004, 0x00000001, 0x00000001, 0x00000000, 0x00000000, 0x00000000, 0x00000000⟩,
  ⟨0x008, 0x00000000, 0x00000000, 0x00000000, 0x00000008, 0x00000000, 0x00000000⟩,
  ⟨0x00C, 0x00000000, 0x00000000, 0x00000000, 0xFFFFFFFF, 0x00000000, 0x00000000⟩,
  ⟨0x010, 0xFFFFFFFF, 0xFFFFFFFF, 0x00000000, 0x00000000, 0x00000000, 0x00000000⟩,
  ⟨0x014, 0x00000000, 0x00000000, 0x00000000, 0x00000000, 0x00000000, 0x00000000⟩,
  ⟨0x018, 0x00000000, 0x00000000, 0x00000000, 0x00000000, 0x00000000, 0x00000000⟩,
  ⟨0x01C, 0x00000000, 0x0000000E, 0x00000000, 0x00000060, 0x00000000, 0x00000000⟩]

def regsCLK_0 : List RegDef := [
  ⟨0x040, 0x00000000, 0x00000000, 0x00000000, 0x00000000, 0x00000000, 0x00000000⟩,
  ⟨0x044, 0x00000080, 0x00000000, 0x00000000, 0x00000000, 0x00000000, 0x00000000⟩,
  ⟨0x048, 0x00000000, 0x00000000, 0x00000000, 0xFFFFFFFF, 0x00000000, 0x00000000⟩,
  ⟨0x04C, 0x00000000, 0x00000000, 0x00000000, 0x000000FF, 0x00000000, 0x00000000⟩,
  ⟨0x050, 0x00000000, 0x00000000, 0x00000000, 0x00000000, 0x00000000, 0x00000000⟩,
  ⟨0x054, 0x00000000, 0x00000000, 0x00000000, 0x00000000, 0x00000000, 0x00000000⟩,
  ⟨0x058, 0x00000000, 0x00000000, 0x00000000, 0x00000000, 0x00000000, 0x00000000⟩,
  ⟨0x05C, 0x00000000, 0x00000000, 0x00000000, 0x00000000, 0x00000000, 0x00000000⟩,
  ⟨0x060, 0x00000000, 0x00000000, 0x00000000, 0x00000000, 0x00000000, 0x00000000⟩,
  ⟨0x064, 0x00000000, 0x00000000, 0x00000000, 0x00000000, 0x00000000, 0x00000000⟩,
  ⟨0x068, 0x00000000, 0x00000000, 0x00000000, 0x00000000, 0x00000000, 0x00000000⟩,
  ⟨0x06C, 0x00000000, 0x00000000, 0x00000000, 0x00000000, 0x00000000, 0x00000000⟩,
  ⟨0x070, 0x00000000, 0x00000000, 0x00000000, 0x00000000, 0x00000000, 0x00000000⟩,
  ⟨0x074, 0x00000000, 0x00000000, 0x00000000, 0x00000000, 0x00000000, 0x00000000⟩,
  ⟨0x078, 0x00000000, 0x00000000, 0x00000000, 0x00000000, 0x00000000, 0x00000000⟩,
  ⟨0x07C, 0x00000000, 0x00000000, 0x00000000, 0x00000000, 0x00000000, 0x00000000⟩]

def regsCLK_1 : List RegDef := [
  ⟨0x080, 0x00000000, 0x00000000, 0x00000000, 0x00000000, 0x00000000, 0x00000000⟩,
  ⟨0x084, 0x00000000, 0x00000000, 0x00000000, 0x00000000, 0x00000000, 0x00000000⟩,
  ⟨0x088, 0x00000000, 0x00000000, 0x00000000, 0x00000000, 0x00000000, 0x00000000⟩,
  ⟨0x08C, 0x00000000, 0x00000000, 0x00000000, 0x00000000, 0x00000000, 0x00000000⟩,
  ⟨0x090, 0x00000000, 0x00000000, 0x00000000, 0x00000000, 0x00000000, 0x00000000⟩,
  ⟨0x094, 0x00000000, 0x00000000, 0x00000000, 0x00000000, 0x00000000, 0x00000000⟩,
  ⟨0x098, 0x00000000, 0x00000000, 0x00000000, 0x00000000, 0x00000000, 0x00000000⟩,
  ⟨0x09C, 0x00000000, 0x00000000, 0x00000000, 0x00000000, 0x00000000, 0x00000000⟩,
  ⟨0x0A0, 0x00000000, 0x00000000, 0x00000000, 0x00000000, 0x00000000, 0x00000000⟩,
  ⟨0x0A4, 0x00000000, 0x00000000, 0x00000000, 0x00000000, 0x00000000, 0x00000000⟩,
  ⟨0x0A8, 0x00000000, 0x00000000, 0x00000000, 0x00000000, 0x00000000, 0x00000000⟩,
  ⟨0x0AC, 0x00000000, 0x00000000, 0x00000000, 0x00000000, 0x00000000, 0x00000000⟩,
  ⟨0x0B0, 0x00000000, 0x00000000, 0x00000000, 0x00000000, 0x00000000, 0x00000000⟩,
  ⟨0x0B4, 0x00000000, 0x00000000, 0x00000000, 0x00000000, 0x00000000, 0x00000000⟩,
  ⟨0x0B8, 0x00000000, 0x00000000, 0x00000000, 0x00000000, 0x00000000, 0x00000000⟩,
  ⟨0x0BC, 0x00000000, 0x00000000, 0x00000000, 0x00000000, 0x00000000, 0x00000000⟩]

def regsCLK_2 : List RegDef := [
  ⟨0x0C0, 0x00000000, 0x00000000, 0x00000000, 0x00000000, 0x00000000, 0x00000000⟩,
  ⟨0x0C4, 0x00000000, 0x00000000, 0x00000000, 0x00000000, 0x00000000, 0x00000000⟩,
  ⟨0x0C8, 0x00000000, 0x00000000, 0x00000000, 0x00000000, 0x00000000, 0x00000000⟩,
  ⟨0x0CC, 0x00000000, 0x00000000, 0x00000000, 0x00000000, 0x00000000, 0x00000000⟩,
  ⟨0x0D0, 0x00000000, 0x00000000, 0x00000000, 0x00000000, 0x00000000, 0x00000000⟩,
  ⟨0x0D4, 0x00000000, 0x00000000, 0x00000000, 0x00000000, 0x00000000, 0x00000000⟩,
  ⟨0x0D8, 0x00000000, 0x00000000, 0x00000000, 0x00000000, 0x00000000, 0x00000000⟩,
  ⟨0x0DC, 0x00000000, 0x00000000, 0x00000000, 0x00000000, 0x00000000, 0x00000000⟩,
  ⟨0x0E0, 0x00000000, 0x00000000, 0x00000000, 0x00000000, 0x00000000, 0x00000000⟩,
  ⟨0x0E4, 0x00000000, 0x00000000, 0x00000000, 0x00000000, 0x00000000, 0x00000000⟩,
  ⟨0x0E8, 0x00000000, 0x00000000, 0x00000000, 0x00000000, 0x00000000, 0x00000000⟩,
  ⟨0x0EC, 0x00000000, 0x00000000, 0x00000000, 0x00000000, 0x00000000, 0x00000000⟩]

/-- Table — CLK page. -/
def regsCLK : List RegDef := regsCLK_0 ++ regsCLK_1 ++ regsCLK_2

/-- Table — PINS0 page. -/
def regsPINS0 : List RegDef := [
  ⟨0x040, 0x00000000, 0x00FFFFFF, 0x00000000, 0x00000000, 0x00000000, 0x00000000⟩,
  ⟨0x044, 0x00000000, 0x00FFFFFF, 0x00000000, 0x00000000, 0x00000000, 0x00000000⟩,
  ⟨0x048, 0x00000000, 0x00FFFFFF, 0x00000000, 0x00000000, 0x00000000, 0x00000000⟩,
  ⟨0x04C, 0x55555555, 0xFFFFFFFF, 0x00000000, 0x00000000, 0x00000000, 0x00000000⟩,
  ⟨0x050, 0x00005555, 0x0000FFFF, 0x00000000, 0x00000000, 0x00000000, 0x00000000⟩,
  ⟨0x054, 0x00000000, 0x00FFFFFF, 0x00000000, 0x00000000, 0x00000000, 0x00000000⟩,
  ⟨0x058, 0x00000000, 0x00FFFFFF, 0x00000000, 0x00000000, 0x00000000, 0x00000000⟩,
  ⟨0x05C, 0x00000000, 0x00000000, 0x00000000, 0x00000000, 0x00000000, 0x00000000⟩,
  ⟨0x060, 0x00000000, 0x00FFFFFF, 0x00000000, 0x00000000, 0x00000000, 0x00000000⟩,
  ⟨0x064, 0x00000000, 0x00FFFFFF, 0x00000000, 0x00000000, 0x00000000, 0x00000000⟩,
  ⟨0x068, 0x00000000, 0x0000003F, 0x00000000, 0x00000000, 0x00000000, 0x00000000⟩,
  ⟨0x06C, 0x00000000, 0x00000000, 0x00000000, 0x00000000, 0x00000000, 0x00000000⟩,
  ⟨0x070, 0x00000005, 0x0000000F, 0x00000000, 0x00000000, 0x00000000, 0x00000000⟩,
  ⟨0x074, 0x00000000, 0x00000000, 0x00000000, 0x00000006, 0x00000000, 0x00000000⟩]

/-- Table — PINS1 page. -/
def regsPINS1 : List RegDef := [
  ⟨0x040, 0x00000000, 0x0000FFFF, 0x00000000, 0x00000000, 0x00000000, 0x00000000⟩,
  ⟨0x044, 0x00000000, 0x0000FFFF, 0x00000000, 0x00000000, 0x00000000, 0x00000000⟩,
  ⟨0x048, 0x00000000, 0x0000FFFF, 0x00000000, 0x00000000, 0x00000000, 0x00000000⟩,
  ⟨0x04C, 0x55555555, 0xFFFFFFFF, 0x00000000, 0x00000000, 0x00000000, 0x00000000⟩,
  ⟨0x050, 0x00000000, 0x0000FFFF, 0x00000000, 0x00000000, 0x00000000, 0x00000000⟩,
  ⟨0x054, 0x00000000, 0xFFFFFFFF, 0x00000000, 0x00000000, 0x00000000, 0x00000000⟩,
  ⟨0x058, 0x00000000, 0x00000007, 0x00000000, 0x00000000, 0x00000000, 0x00000000⟩,
  ⟨0x05C, 0x00000000, 0x00000000, 0x00000000, 0x00000000, 0x00000000, 0x00000000⟩,
  ⟨0x060, 0x00000000, 0x0000FFFF, 0x00000000, 0x00000000, 0x00000000, 0x00000000⟩,
  ⟨0x064, 0x00000000, 0x0000FFFF, 0x00000000, 0x00000000, 0x00000000, 0x00000000⟩,
  ⟨0x068, 0x00000000, 0x0000001F, 0x00000000, 0x00000000, 0x00000000, 0x00000000⟩,
  ⟨0x06C, 0x00000015, 0x0000001F, 0x00000000, 0x00000000, 0x00000000, 0x00000000⟩,
  ⟨0x070, 0x00000003, 0x00000000, 0x00000000, 0x00000000, 0x00000000, 0x00000000⟩,
  ⟨0x074, 0x00000000, 0x00000000, 0x00000000, 0x00000006, 0x00000000, 0x00000000⟩]

/-- The block registers of a page kind. -/
def kindRegs : PageKind → List RegDef
  | .sys => regsSYS
  | .fuse => regsFUSE
  | .boot => regsBOOT
  | .clk => regsCLK
  | .supv0 => regsSUPV0
  | .supv1 => regsSUPV1
  | .hlth => regsHLTH
  | .tst => regsTST
  | .cp => regsCP
  | .pos => regsPOS
  | .dlr => regsDLR
  | .pp => regsPP
  | .sti => regsSTI
  | .reg => regsREG
  | .mrg => regsMRG
  | .rul => regsRUL
  | .vrd => regsVRD
  | .mst => regsMST
  | .dec => regsDEC
  | .str => regsSTR
  | .ie => regsIE
  | .tb => regsTB
  | .crl => regsCRL
  | .evf => regsEVF
  | .qf => regsQF
  | .dma => regsDMA
  | .zip => regsZIP
  | .mc => regsMC
  | .mcg => regsMCG
  | .eth => regsETH
  | .net => regsNET
  | .pcie => regsPCIE
  | .mtwi => regsMTWI
  | .twl => regsTWL
  | .qspi => regsQSPI
  | .pins0 => regsPINS0
  | .pins1 => regsPINS1

/-- The offset of the STAT register of a page kind, where it has one. -/
def statOff : PageKind → Option Nat
  | .sys => none
  | .fuse => some 0x074
  | .boot => some 0x040
  | .clk => none
  | .supv0 => some 0x044
  | .supv1 => some 0x044
  | .hlth => some 0x044
  | .tst => some 0x048
  | .cp => none
  | .pos => none
  | .dlr => some 0x044
  | .pp => some 0x044
  | .sti => some 0x044
  | .reg => some 0x044
  | .mrg => some 0x044
  | .rul => some 0x044
  | .vrd => some 0x044
  | .mst => some 0x044
  | .dec => some 0x044
  | .str => some 0x044
  | .ie => some 0x044
  | .tb => some 0x044
  | .crl => some 0x044
  | .evf => some 0x044
  | .qf => some 0x044
  | .dma => some 0x044
  | .zip => some 0x044
  | .mc => some 0x040
  | .mcg => some 0x044
  | .eth => some 0x044
  | .net => some 0x044
  | .pcie => some 0x044
  | .mtwi => some 0x04C
  | .twl => some 0x050
  | .qspi => some 0x044
  | .pins0 => none
  | .pins1 => none

namespace Rg
/-! Register offsets in their pages, by page and name. -/
abbrev SYS_MODE : Nat := 0x040
abbrev SYS_MODE_REQ : Nat := 0x044
abbrev SYS_JOB_CTL : Nat := 0x048
abbrev SYS_JOB_STAT : Nat := 0x04C
abbrev SYS_LIB_BASE_LO : Nat := 0x050
abbrev SYS_LIB_BASE_HI : Nat := 0x054
abbrev SYS_CHG_CTL : Nat := 0x058
abbrev SYS_CHG_LAST_REPEAT : Nat := 0x05C
abbrev SYS_CHG_DELAY_V (k : Nat) : Nat := 0x060 + 0x4 * k
abbrev SYS_CHG_LINE_LO (k : Nat) : Nat := 0x070 + 0x8 * k
abbrev SYS_CHG_LINE_HI (k : Nat) : Nat := 0x074 + 0x8 * k
abbrev POS_CH_CTL (k : Nat) : Nat := 0x040 + 0x20 * k
abbrev POS_CH_CPR (k : Nat) : Nat := 0x044 + 0x20 * k
abbrev POS_CH_SSI_CTL (k : Nat) : Nat := 0x048 + 0x20 * k
abbrev POS_CH_SPEED_CTL (k : Nat) : Nat := 0x04C + 0x20 * k
abbrev POS_CH_COUNT (k : Nat) : Nat := 0x050 + 0x20 * k
abbrev POS_CH_SPEED (k : Nat) : Nat := 0x054 + 0x20 * k
abbrev POS_CH_STAT (k : Nat) : Nat := 0x058 + 0x20 * k
abbrev POS_CH_ERR_CNT (k : Nat) : Nat := 0x05C + 0x20 * k
abbrev POS_TG_CTL (k : Nat) : Nat := 0x080 + 0x10 * k
abbrev POS_TG_RATIO (k : Nat) : Nat := 0x084 + 0x10 * k
abbrev POS_TG_LINE_LO (k : Nat) : Nat := 0x088 + 0x10 * k
abbrev POS_TG_LINE_HI (k : Nat) : Nat := 0x08C + 0x10 * k
abbrev CP_PORT_CTL : Nat := 0x040
abbrev CP_LINK_STAT : Nat := 0x044
abbrev CP_TRAIN_CTL : Nat := 0x048
abbrev CP_EYE_CTL : Nat := 0x04C
abbrev CP_LANE_STAT (k : Nat) : Nat := 0x050 + 0x4 * k
abbrev CP_JOKER_CTL : Nat := 0x060
abbrev CP_JOKER_STAT : Nat := 0x064
abbrev CP_ERR_CNT0 : Nat := 0x068
abbrev CP_ERR_CNT1 : Nat := 0x06C
abbrev CP_ERR_CNT2 : Nat := 0x070
abbrev CP_CAM_STAT : Nat := 0x074
abbrev CP_CAM_ACC : Nat := 0x078
abbrev CP_CAM_DATA : Nat := 0x07C
abbrev PP_CTL : Nat := 0x040
abbrev PP_STAT : Nat := 0x044
abbrev PP_SAT_CNT : Nat := 0x048
abbrev PP_FF_CTL : Nat := 0x04C
abbrev PP_FF_STAT : Nat := 0x050
abbrev PP_FF_START_LO : Nat := 0x054
abbrev PP_FF_START_HI : Nat := 0x058
abbrev PP_ICNT_SEL : Nat := 0x05C
abbrev PP_ICNT0 : Nat := 0x060
abbrev PP_ICNT1 : Nat := 0x064
abbrev PP_ICNT2 : Nat := 0x068
abbrev DLR_CTL : Nat := 0x040
abbrev DLR_STAT : Nat := 0x044
abbrev DLR_MAP0 : Nat := 0x048
abbrev DLR_MAP1 : Nat := 0x04C
abbrev DLR_MAP2 : Nat := 0x050
abbrev DLR_MAP3 : Nat := 0x054
abbrev DLR_PP_SEL : Nat := 0x058
abbrev DLR_PP_INFO : Nat := 0x05C
abbrev STI_CTL : Nat := 0x040
abbrev STI_STAT : Nat := 0x044
abbrev STI_TBL_ADDR : Nat := 0x048
abbrev STI_TBL_DATA : Nat := 0x04C
abbrev STI_CAL_CTL : Nat := 0x050
abbrev STI_CAL_STAT : Nat := 0x054
abbrev STI_VIEW_CTL (k : Nat) : Nat := 0x058 + 0x4 * k
abbrev STI_EDGE_POS (k : Nat) : Nat := 0x068 + 0x4 * k
abbrev STI_EDGE_STAT (k : Nat) : Nat := 0x078 + 0x4 * k
abbrev STI_PORT_CTL (k : Nat) : Nat := 0x088 + 0x4 * k
abbrev STI_TRIM_SEL : Nat := 0x0C8
abbrev STI_TRIM_STAT : Nat := 0x0CC
abbrev REG_CTL : Nat := 0x040
abbrev REG_STAT : Nat := 0x044
abbrev REG_VIEW_CTL (k : Nat) : Nat := 0x048 + 0x14 * k
abbrev REG_VIEW_PHASE (k : Nat) : Nat := 0x04C + 0x14 * k
abbrev REG_VIEW_STATE (k : Nat) : Nat := 0x050 + 0x14 * k
abbrev REG_VIEW_CORR_Y (k : Nat) : Nat := 0x054 + 0x14 * k
abbrev REG_VIEW_CORR_X (k : Nat) : Nat := 0x058 + 0x14 * k
abbrev REG_SEL : Nat := 0x098
abbrev REG_WIN_RES : Nat := 0x09C
abbrev MST_CTL : Nat := 0x040
abbrev MST_STAT : Nat := 0x044
abbrev MST_LEARN_CTL : Nat := 0x048
abbrev MST_TOL_CTL : Nat := 0x04C
abbrev MST_ADAPT_CTL : Nat := 0x050
abbrev MST_FIT_CTL : Nat := 0x054
abbrev MST_ART_CTL : Nat := 0x058
abbrev MST_ART_STAT : Nat := 0x05C
abbrev MST_LV_BASE (k : Nat) : Nat := 0x060 + 0x4 * k
abbrev MST_LV_CFG (k : Nat) : Nat := 0x070 + 0x4 * k
abbrev MST_VIEW_STAT (k : Nat) : Nat := 0x080 + 0x4 * k
abbrev MST_VIEW_NOREF (k : Nat) : Nat := 0x090 + 0x4 * k
abbrev MST_RED_STAT : Nat := 0x0A0
abbrev MST_WAIT_CNT : Nat := 0x0A4
abbrev MST_ADAPT_CNT : Nat := 0x0A8
abbrev MST_FETCH_ERR : Nat := 0x0AC
abbrev IE_CTL : Nat := 0x040
abbrev IE_STAT : Nat := 0x044
abbrev IE_ACC_BASE : Nat := 0x048
abbrev IE_ASSIGN : Nat := 0x04C
abbrev IE_ASSIGN_LAST : Nat := 0x050
abbrev IE_LABELS : Nat := 0x054
abbrev IE_CNT0 : Nat := 0x058
abbrev IE_CNT1 : Nat := 0x05C
abbrev MRG_CTL : Nat := 0x040
abbrev MRG_STAT : Nat := 0x044
abbrev MRG_CROP_CTL : Nat := 0x048
abbrev MRG_CROP_BASE_LO : Nat := 0x04C
abbrev MRG_CROP_BASE_HI : Nat := 0x050
abbrev MRG_CROP_SLOTS : Nat := 0x054
abbrev MRG_CROP_NEXT : Nat := 0x058
abbrev MRG_CROP_CNT : Nat := 0x05C
abbrev MRG_REC_CNT : Nat := 0x060
abbrev MRG_MERGE_CNT : Nat := 0x064
abbrev MRG_OVF_CNT : Nat := 0x068
abbrev MRG_ITEM_CNT : Nat := 0x06C
abbrev MRG_CONT_ID (k : Nat) : Nat := 0x070 + 0x4 * k
abbrev MRG_BAND_LO (k : Nat) : Nat := 0x080 + 0x4 * k
abbrev MRG_BAND_HI (k : Nat) : Nat := 0x090 + 0x4 * k
abbrev MRG_REC_LIMIT (k : Nat) : Nat := 0x0A0 + 0x4 * k
abbrev MRG_SEL : Nat := 0x0B0
abbrev MRG_ENG_STAT : Nat := 0x0B4
abbrev RUL_CTL : Nat := 0x040
abbrev RUL_STAT : Nat := 0x044
abbrev RUL_EVAL_CNT : Nat := 0x048
abbrev RUL_SUPP_CNT : Nat := 0x04C
abbrev RUL_HIT_SEL : Nat := 0x050
abbrev RUL_HIT_CNT : Nat := 0x054
abbrev RUL_CNT (k : Nat) : Nat := 0x058 + 0x4 * k
abbrev RUL_ADAPT_CNT : Nat := 0x098
abbrev RUL_EV_CNT : Nat := 0x09C
abbrev VRD_CTL : Nat := 0x040
abbrev VRD_STAT : Nat := 0x044
abbrev VRD_SEV_CTL : Nat := 0x048
abbrev VRD_UNINSP_CTL : Nat := 0x04C
abbrev VRD_RING_BASE_LO : Nat := 0x050
abbrev VRD_RING_BASE_HI : Nat := 0x054
abbrev VRD_RING_SIZE : Nat := 0x058
abbrev VRD_RING_WR : Nat := 0x05C
abbrev VRD_LANE_X0 : Nat := 0x060
abbrev VRD_LANE_W : Nat := 0x064
abbrev VRD_VCNT0 : Nat := 0x068
abbrev VRD_VCNT1 : Nat := 0x06C
abbrev VRD_LAST_REPEAT : Nat := 0x070
abbrev VRD_UM_PER_CNT0 : Nat := 0x074
abbrev VRD_UM_PER_CNT1 : Nat := 0x078
abbrev VRD_ACT_STAT : Nat := 0x07C
abbrev VRD_ACT_CNT : Nat := 0x080
abbrev VRD_ACT_OVF : Nat := 0x084
abbrev VRD_CSCALE_SEL : Nat := 0x088
abbrev VRD_CSCALE : Nat := 0x08C
abbrev DEC_CTL : Nat := 0x040
abbrev DEC_STAT : Nat := 0x044
abbrev DEC_SYNC_CTL : Nat := 0x048
abbrev DEC_SYNC_SEL : Nat := 0x04C
abbrev DEC_SYNC_LINE_LO : Nat := 0x050
abbrev DEC_SYNC_LINE_HI : Nat := 0x054
abbrev DEC_SYNC_TIME_LO : Nat := 0x058
abbrev DEC_SYNC_TIME_HI : Nat := 0x05C
abbrev DEC_POOL : Nat := 0x060
abbrev DEC_LOAD : Nat := 0x064
abbrev DEC_CNT0 : Nat := 0x068
abbrev DEC_CNT1 : Nat := 0x06C
abbrev STR_CTL : Nat := 0x040
abbrev STR_STAT : Nat := 0x044
abbrev STR_TBL_ADDR : Nat := 0x048
abbrev STR_TBL_DATA : Nat := 0x04C
abbrev STR_S_CTL (k : Nat) : Nat := 0x050 + 0xC * k
abbrev STR_S_OUT_CNT (k : Nat) : Nat := 0x054 + 0xC * k
abbrev STR_S_STAT (k : Nat) : Nat := 0x058 + 0xC * k
abbrev TB_CTL : Nat := 0x040
abbrev TB_STAT : Nat := 0x044
abbrev TB_TIME_LO : Nat := 0x048
abbrev TB_TIME_HI : Nat := 0x04C
abbrev TB_TIME_FRAC : Nat := 0x050
abbrev TB_RAW_LO : Nat := 0x054
abbrev TB_RAW_HI : Nat := 0x058
abbrev TB_OFFSET_LO : Nat := 0x05C
abbrev TB_OFFSET_HI : Nat := 0x060
abbrev TB_RATE_LO : Nat := 0x064
abbrev TB_RATE_HI : Nat := 0x068
abbrev TB_SERVO_CTL : Nat := 0x06C
abbrev TB_TOD_SEC_LO : Nat := 0x070
abbrev TB_TOD_SEC_HI : Nat := 0x074
abbrev TB_PPS_ERR : Nat := 0x078
abbrev TB_UTC_OFS : Nat := 0x07C
abbrev TB_CLOCK_ID_LO : Nat := 0x080
abbrev TB_CLOCK_ID_HI : Nat := 0x084
abbrev TB_PTP_CTL : Nat := 0x088
abbrev TB_PTP_QUAL : Nat := 0x08C
abbrev TB_PORT0_CTL : Nat := 0x090
abbrev TB_PORT1_CTL : Nat := 0x094
abbrev TB_PTP_STAT : Nat := 0x098
abbrev TB_PTP_CNT : Nat := 0x09C
abbrev CRL_CTL : Nat := 0x040
abbrev CRL_STAT : Nat := 0x044
abbrev CRL_BANK0_CYCLE : Nat := 0x048
abbrev CRL_BANK1_CYCLE : Nat := 0x04C
abbrev CRL_BASE_LO : Nat := 0x050
abbrev CRL_BASE_HI : Nat := 0x054
abbrev CRL_CUR_START_LO : Nat := 0x058
abbrev CRL_CUR_START_HI : Nat := 0x05C
abbrev CRL_PULSE_POL : Nat := 0x060
abbrev CRL_CAL_T_LO : Nat := 0x064
abbrev CRL_CAL_T_HI : Nat := 0x068
abbrev CRL_CAL_CFG : Nat := 0x06C
abbrev CRL_CAL_WIDTH : Nat := 0x070
abbrev CRL_CAL_CTL : Nat := 0x074
abbrev CRL_CAL_STAT : Nat := 0x078
abbrev CRL_FIRE_CNT : Nat := 0x07C
abbrev CRL_ERR_CNT : Nat := 0x080
abbrev CRL_CANCEL_CNT : Nat := 0x084
abbrev EVF_CTL : Nat := 0x040
abbrev EVF_STAT : Nat := 0x044
abbrev EVF_GROUP_STATE : Nat := 0x048
abbrev EVF_SW_FIRE : Nat := 0x04C
abbrev EVF_FLAG (k : Nat) : Nat := 0x050 + 0x4 * k
abbrev EVF_LOOP (k : Nat) : Nat := 0x070 + 0x4 * k
abbrev EVF_FIRE_CNT : Nat := 0x090
abbrev EVF_OVR_CNT : Nat := 0x094
abbrev EVF_COIN_CNT : Nat := 0x098
abbrev EVF_IGN_CNT : Nat := 0x09C
abbrev QF_CTL : Nat := 0x040
abbrev QF_STAT : Nat := 0x044
abbrev QF_ALLOC : Nat := 0x048
abbrev QF_ALLOC_STAT : Nat := 0x04C
abbrev QF_HQ_SEL : Nat := 0x050
abbrev QF_HQ_CRED_REQ : Nat := 0x054
abbrev QF_HQ_CRED : Nat := 0x058
abbrev QF_HQ_PUSH_LO : Nat := 0x05C
abbrev QF_HQ_PUSH_HI : Nat := 0x060
abbrev QF_HQ_PUSH_CTL : Nat := 0x064
abbrev QF_HQ_POP_LO : Nat := 0x068
abbrev QF_HQ_POP_HI : Nat := 0x06C
abbrev QF_HQ_POP_TAG : Nat := 0x070
abbrev QF_LVL_NEXT : Nat := 0x074
abbrev QF_LVL_CNT : Nat := 0x078
abbrev QF_PAR_CNT : Nat := 0x07C
abbrev QF_EXT_CNT : Nat := 0x080
abbrev QF_REFUSE_CNT : Nat := 0x084
abbrev QF_BANK_CNT : Nat := 0x088
abbrev QF_STORE_FREE : Nat := 0x08C
abbrev DMA_CTL : Nat := 0x040
abbrev DMA_STAT : Nat := 0x044
abbrev DMA_CH_SEL : Nat := 0x048
abbrev DMA_CH_CTL : Nat := 0x04C
abbrev DMA_CH_STAT : Nat := 0x050
abbrev DMA_CH_REMAIN : Nat := 0x054
abbrev DMA_CH_SRC_LO : Nat := 0x058
abbrev DMA_CH_SRC_HI : Nat := 0x05C
abbrev DMA_CH_DST_LO : Nat := 0x060
abbrev DMA_CH_DST_HI : Nat := 0x064
abbrev DMA_DONE_STAT : Nat := 0x068
abbrev DMA_HALF_STAT : Nat := 0x06C
abbrev DMA_ERR_STAT : Nat := 0x070
abbrev DMA_PAUSED_STAT : Nat := 0x074
abbrev DMA_REQ_STAT0 : Nat := 0x078
abbrev DMA_REQ_STAT1 : Nat := 0x07C
abbrev DMA_BURST_CNT : Nat := 0x080
abbrev DMA_ERR_CNT : Nat := 0x084
abbrev MCG_CTL : Nat := 0x040
abbrev MCG_STAT : Nat := 0x044
abbrev MCG_CFG : Nat := 0x048
abbrev MCG_TIMING0 : Nat := 0x04C
abbrev MCG_TIMING1 : Nat := 0x050
abbrev MCG_TIMING2 : Nat := 0x054
abbrev MCG_REF_CTL : Nat := 0x058
abbrev MCG_PAGE_CTL : Nat := 0x05C
abbrev MCG_PANIC_CTL : Nat := 0x060
abbrev MCG_ECC_CTL : Nat := 0x064
abbrev MCG_ECC_RGN (k : Nat) : Nat := 0x068 + 0x4 * k
abbrev MCG_TRAIN_CTL : Nat := 0x088
abbrev MCG_TRAIN_STAT : Nat := 0x08C
abbrev MCG_ERR_CNT : Nat := 0x090
abbrev MCG_ERR_ADDR_LO : Nat := 0x094
abbrev MCG_ERR_ADDR_HI : Nat := 0x098
abbrev MCG_BW_STAT : Nat := 0x09C
abbrev MC_STAT : Nat := 0x040
abbrev MC_MARGIN : Nat := 0x044
abbrev MC_ERR_CNT : Nat := 0x048
abbrev MC_PANIC_CNT : Nat := 0x04C
abbrev MC_BW : Nat := 0x050
abbrev ZIP_CTL : Nat := 0x040
abbrev ZIP_STAT : Nat := 0x044
abbrev ZIP_RING_BASE_LO : Nat := 0x048
abbrev ZIP_RING_BASE_HI : Nat := 0x04C
abbrev ZIP_RING_SIZE : Nat := 0x050
abbrev ZIP_RING_HEAD : Nat := 0x054
abbrev ZIP_RING_TAIL : Nat := 0x058
abbrev ZIP_LAST_STATUS : Nat := 0x05C
abbrev ZIP_IN_CNT : Nat := 0x060
abbrev ZIP_OUT_CNT : Nat := 0x064
abbrev ZIP_JOB_CNT : Nat := 0x068
abbrev ZIP_NOGAIN_CNT : Nat := 0x06C
abbrev ZIP_ERR_CNT : Nat := 0x070
abbrev ZIP_FR_ERR_MAX : Nat := 0x074
abbrev ZIP_CROP_LAT : Nat := 0x078
abbrev ZIP_SYS_STAT : Nat := 0x07C
abbrev ZIP_RATE : Nat := 0x080
abbrev ZIP_WAIT_CNT : Nat := 0x084
abbrev ETH_CTL : Nat := 0x040
abbrev ETH_STAT : Nat := 0x044
abbrev ETH_MAC_LO : Nat := 0x048
abbrev ETH_MAC_HI : Nat := 0x04C
abbrev ETH_IP_ADDR : Nat := 0x050
abbrev ETH_IP_MASK : Nat := 0x054
abbrev ETH_GATEWAY : Nat := 0x058
abbrev ETH_VLAN : Nat := 0x05C
abbrev ETH_MTU : Nat := 0x060
abbrev ETH_ARP_CTL : Nat := 0x064
abbrev ETH_IP_CTL : Nat := 0x068
abbrev ETH_TX_FRM : Nat := 0x06C
abbrev ETH_RX_FRM : Nat := 0x070
abbrev ETH_RX_DROP : Nat := 0x074
abbrev ETH_RX_ERR : Nat := 0x078
abbrev ETH_ARP_CNT : Nat := 0x07C
abbrev ETH_PCS_STAT : Nat := 0x080
abbrev ETH_TX_BYTES : Nat := 0x084
abbrev ETH_RX_BYTES : Nat := 0x088
abbrev ETH_ICMP_CNT : Nat := 0x08C
abbrev NET_CTL : Nat := 0x040
abbrev NET_STAT : Nat := 0x044
abbrev NET_PORTS : Nat := 0x048
abbrev NET_STATUS_CTL : Nat := 0x04C
abbrev NET_SESS_CTL : Nat := 0x050
abbrev NET_SESS_STAT : Nat := 0x054
abbrev NET_BULK_BASE : Nat := 0x058
abbrev NET_BULK_SIZE : Nat := 0x05C
abbrev NET_READ_BASE : Nat := 0x060
abbrev NET_READ_SIZE : Nat := 0x064
abbrev NET_KEY_SEL : Nat := 0x068
abbrev NET_KEY_DATA : Nat := 0x06C
abbrev NET_KEY_STAT : Nat := 0x070
abbrev NET_WCP_CNT : Nat := 0x074
abbrev NET_WCP_REJ : Nat := 0x078
abbrev NET_NACK_CNT : Nat := 0x07C
abbrev NET_RETX_CNT : Nat := 0x080
abbrev NET_GAP_CNT : Nat := 0x084
abbrev NET_LOSS_CNT : Nat := 0x088
abbrev NET_WX8_CTL : Nat := 0x08C
abbrev NET_WX8_DST : Nat := 0x090
abbrev NET_WX8_CNT : Nat := 0x094
abbrev NET_TX_DGRAM : Nat := 0x098
abbrev NET_RX_DGRAM : Nat := 0x09C
abbrev PCIE_CTL : Nat := 0x040
abbrev PCIE_STAT : Nat := 0x044
abbrev PCIE_LINK : Nat := 0x048
abbrev PCIE_IDS : Nat := 0x04C
abbrev PCIE_AER_UNCOR : Nat := 0x050
abbrev PCIE_AER_COR : Nat := 0x054
abbrev PCIE_ERR_CNT : Nat := 0x058
abbrev PCIE_IRQN_MASK : Nat := 0x05C
abbrev PCIE_IRQN_STAT : Nat := 0x060
abbrev PCIE_VEC_PEND0 : Nat := 0x064
abbrev PCIE_VEC_PEND1 : Nat := 0x068
abbrev PCIE_MSG_CNT : Nat := 0x06C
abbrev PCIE_CPL_CTL : Nat := 0x070
abbrev PCIE_TX_TLP : Nat := 0x074
abbrev PCIE_RX_TLP : Nat := 0x078
abbrev PCIE_POISON_CNT : Nat := 0x07C
abbrev PCIE_BAR2_CNT : Nat := 0x080
abbrev PCIE_ABORT_CNT : Nat := 0x084
abbrev PCIE_EQ_STAT : Nat := 0x088
abbrev PCIE_LANE_STAT : Nat := 0x08C
abbrev PCIE_PERST_CNT : Nat := 0x090
abbrev PCIE_HOST_LOAD : Nat := 0x094
abbrev MTWI_CTL : Nat := 0x040
abbrev MTWI_ADDR : Nat := 0x044
abbrev MTWI_TIM : Nat := 0x048
abbrev MTWI_STAT : Nat := 0x04C
abbrev MTWI_PTR : Nat := 0x050
abbrev MTWI_TXDATA : Nat := 0x054
abbrev MTWI_RXDATA : Nat := 0x058
abbrev MTWI_FIFO_STAT : Nat := 0x05C
abbrev MTWI_CNT0 : Nat := 0x060
abbrev MTWI_CNT1 : Nat := 0x064
abbrev MTWI_STRETCH_MAX : Nat := 0x068
abbrev MTWI_BUS_STAT : Nat := 0x06C
abbrev TWL_CTL : Nat := 0x040
abbrev TWL_TIM0 : Nat := 0x044
abbrev TWL_TIM1 : Nat := 0x048
abbrev TWL_CMD : Nat := 0x04C
abbrev TWL_STAT : Nat := 0x050
abbrev TWL_TXDATA : Nat := 0x054
abbrev TWL_RXDATA : Nat := 0x058
abbrev TWL_FIFO_STAT : Nat := 0x05C
abbrev TWL_TGT_STAT : Nat := 0x060
abbrev TWL_CNT : Nat := 0x064
abbrev SUPV0_CTL : Nat := 0x040
abbrev SUPV0_STAT : Nat := 0x044
abbrev SUPV0_FAULT_CTL : Nat := 0x048
abbrev SUPV0_FAULT_STAT : Nat := 0x04C
abbrev SUPV0_LOG_HEAD : Nat := 0x050
abbrev SUPV0_LOG_SEQ : Nat := 0x054
abbrev SUPV0_LOG_SEL : Nat := 0x058
abbrev SUPV0_LOG_DATA (k : Nat) : Nat := 0x05C + 0x4 * k
abbrev SUPV0_LOG_ACK : Nat := 0x07C
abbrev SUPV0_LOG_LOST : Nat := 0x080
abbrev SUPV0_CNT0 : Nat := 0x084
abbrev SUPV0_CNT1 : Nat := 0x088
abbrev SUPV1_CTL : Nat := 0x040
abbrev SUPV1_STAT : Nat := 0x044
abbrev SUPV1_LEASE_TO : Nat := 0x048
abbrev SUPV1_LOCK_TO : Nat := 0x04C
abbrev SUPV1_DRAIN_STAT : Nat := 0x050
abbrev SUPV1_REVOKE_CNT : Nat := 0x054
abbrev SUPV1_LAST_REVOKE : Nat := 0x058
abbrev SUPV1_RESERVE_STAT : Nat := 0x05C
abbrev SUPV1_LOCK_SEL : Nat := 0x060
abbrev SUPV1_LOCK_INFO : Nat := 0x064
abbrev FUSE_KEY_HASH (k : Nat) : Nat := 0x040 + 0x4 * k
abbrev FUSE_OPTIONS : Nat := 0x060
abbrev FUSE_ROLLBACK : Nat := 0x064
abbrev FUSE_PCI_IDS : Nat := 0x068
abbrev FUSE_DIE_ID_LO : Nat := 0x06C
abbrev FUSE_DIE_ID_HI : Nat := 0x070
abbrev FUSE_STAT : Nat := 0x074
abbrev FUSE_PROG_CTL : Nat := 0x078
abbrev BOOT_STAT : Nat := 0x040
abbrev BOOT_IMG_VERSION : Nat := 0x044
abbrev BOOT_IMG_GEN : Nat := 0x048
abbrev BOOT_IMG_LEN : Nat := 0x04C
abbrev BOOT_T_IMAGE : Nat := 0x050
abbrev BOOT_T_TOTAL : Nat := 0x054
abbrev BOOT_REJECT : Nat := 0x058
abbrev QSPI_CTL : Nat := 0x040
abbrev QSPI_STAT : Nat := 0x044
abbrev QSPI_CMD : Nat := 0x048
abbrev QSPI_ADDR : Nat := 0x04C
abbrev QSPI_LEN : Nat := 0x050
abbrev QSPI_DATA : Nat := 0x054
abbrev QSPI_FIFO_STAT : Nat := 0x058
abbrev QSPI_PROT_BASE : Nat := 0x05C
abbrev QSPI_PROT_LIMIT : Nat := 0x060
abbrev QSPI_FLASH_ID : Nat := 0x064
abbrev QSPI_POLL : Nat := 0x068
abbrev QSPI_CNT : Nat := 0x06C
abbrev HLTH_CTL : Nat := 0x040
abbrev HLTH_STAT : Nat := 0x044
abbrev HLTH_TEMP_SEL : Nat := 0x048
abbrev HLTH_TEMP : Nat := 0x04C
abbrev HLTH_TEMP_LIM : Nat := 0x050
abbrev HLTH_SUP_SEL : Nat := 0x054
abbrev HLTH_SUP : Nat := 0x058
abbrev HLTH_BG : Nat := 0x05C
abbrev HLTH_CAL_CTL : Nat := 0x060
abbrev HLTH_CAL_STAT : Nat := 0x064
abbrev HLTH_HR_STAT : Nat := 0x068
abbrev HLTH_AVS_CTL : Nat := 0x06C
abbrev HLTH_AVS_TGT : Nat := 0x070
abbrev HLTH_AVS_LIM : Nat := 0x074
abbrev HLTH_AVS_STAT : Nat := 0x078
abbrev HLTH_MBIST_CTL : Nat := 0x07C
abbrev HLTH_MBIST_RANGE : Nat := 0x080
abbrev HLTH_MBIST_STAT : Nat := 0x084
abbrev HLTH_MBIST_FIRST : Nat := 0x088
abbrev HLTH_CNT : Nat := 0x08C
abbrev TST_IDCODE : Nat := 0x040
abbrev TST_TAP_STAT : Nat := 0x044
abbrev TST_STAT : Nat := 0x048
abbrev HDR_PAGE_ID : Nat := 0x000
abbrev HDR_PAGE_CTL : Nat := 0x004
abbrev HDR_PAGE_STAT : Nat := 0x008
abbrev HDR_IRQ_STAT : Nat := 0x00C
abbrev HDR_IRQ_MASK : Nat := 0x010
abbrev HDR_OWNER : Nat := 0x014
abbrev HDR_LOCK : Nat := 0x018
abbrev HDR_COMMIT : Nat := 0x01C
abbrev SYS_DEV_ID : Nat := 0x090
abbrev SYS_CMT_SEL : Nat := 0x094
abbrev SYS_CMT_STAT : Nat := 0x098
abbrev SYS_CMT_LINE_LO : Nat := 0x09C
abbrev SYS_CMT_LINE_HI : Nat := 0x0A0
abbrev SYS_CMT_TIME_LO : Nat := 0x0A4
abbrev SYS_CMT_TIME_HI : Nat := 0x0A8
abbrev SYS_LOCK_MAP (k : Nat) : Nat := 0x0AC + 0x4 * k
abbrev SYS_ACC_ERR : Nat := 0x0B8
abbrev SYS_ACC_CNT : Nat := 0x0BC
abbrev CLK_LOCK0 : Nat := 0x040
abbrev CLK_LOCK1 : Nat := 0x044
abbrev CLK_LOST0 : Nat := 0x048
abbrev CLK_LOST1 : Nat := 0x04C
abbrev CLK_FREQ (k : Nat) : Nat := 0x050 + 0x4 * k
abbrev PINS0_PULSE_OE : Nat := 0x040
abbrev PINS0_PULSE_SAFE : Nat := 0x044
abbrev PINS0_PULSE_GUARD : Nat := 0x048
abbrev PINS0_PULSE_DRV0 : Nat := 0x04C
abbrev PINS0_PULSE_DRV1 : Nat := 0x050
abbrev PINS0_PULSE_SLEW : Nat := 0x054
abbrev PINS0_PULSE_OD : Nat := 0x058
abbrev PINS0_PULSE_LEVEL : Nat := 0x05C
abbrev PINS0_PULSE_MAN : Nat := 0x060
abbrev PINS0_PULSE_MAN_EN : Nat := 0x064
abbrev PINS0_ENC_CTL : Nat := 0x068
abbrev PINS0_IN_LEVEL : Nat := 0x06C
abbrev PINS0_MISC_DRV : Nat := 0x070
abbrev PINS0_PIN_STAT : Nat := 0x074
abbrev PINS1_EVIO_OE : Nat := 0x040
abbrev PINS1_EVIO_SAFE : Nat := 0x044
abbrev PINS1_EVIO_GUARD : Nat := 0x048
abbrev PINS1_EVIO_DRV : Nat := 0x04C
abbrev PINS1_EVIO_OD : Nat := 0x050
abbrev PINS1_EVIO_PULL : Nat := 0x054
abbrev PINS1_EVIO_FILT : Nat := 0x058
abbrev PINS1_EVIO_LEVEL : Nat := 0x05C
abbrev PINS1_EVIO_MAN : Nat := 0x060
abbrev PINS1_EVIO_MAN_EN : Nat := 0x064
abbrev PINS1_TWI_PULL : Nat := 0x068
abbrev PINS1_QSPI_DRV : Nat := 0x06C
abbrev PINS1_BANK_STAT : Nat := 0x070
abbrev PINS1_PIN_STAT : Nat := 0x074
end Rg

namespace Fd
/-! Register fields, by page, register and name; `_b<n>` where the manual names no field at bit n. -/
abbrev SYS_MODE_MODE : Fld := ⟨0x040, 0, 3⟩
abbrev SYS_MODE_PREV_MODE : Fld := ⟨0x040, 3, 3⟩
abbrev SYS_MODE_REQ_PENDING : Fld := ⟨0x040, 6, 1⟩
abbrev SYS_MODE_REFUSAL : Fld := ⟨0x040, 8, 4⟩
abbrev SYS_MODE_HOLD_ENTRY : Fld := ⟨0x040, 12, 8⟩
abbrev SYS_MODE_HOLD_CLEARABLE : Fld := ⟨0x040, 20, 1⟩
abbrev SYS_MODE_REQ_TARGET : Fld := ⟨0x044, 0, 3⟩
abbrev SYS_MODE_REQ_AT : Fld := ⟨0x044, 3, 1⟩
abbrev SYS_MODE_REQ_GO : Fld := ⟨0x044, 8, 1⟩
abbrev SYS_JOB_CTL_JOB_ID : Fld := ⟨0x048, 0, 6⟩
abbrev SYS_JOB_CTL_OPEN : Fld := ⟨0x048, 8, 1⟩
abbrev SYS_JOB_CTL_VALIDATE : Fld := ⟨0x048, 9, 1⟩
abbrev SYS_JOB_CTL_LOAD_NEXT : Fld := ⟨0x048, 10, 1⟩
abbrev SYS_JOB_CTL_CANCEL_NEXT : Fld := ⟨0x048, 11, 1⟩
abbrev SYS_JOB_CTL_DELETE : Fld := ⟨0x048, 12, 1⟩
abbrev SYS_JOB_STAT_ACTIVE_ID : Fld := ⟨0x04C, 0, 6⟩
abbrev SYS_JOB_STAT_ACTIVE_VALID : Fld := ⟨0x04C, 6, 1⟩
abbrev SYS_JOB_STAT_NEXT_ID : Fld := ⟨0x04C, 8, 6⟩
abbrev SYS_JOB_STAT_NEXT_VALID : Fld := ⟨0x04C, 14, 1⟩
abbrev SYS_JOB_STAT_NEXT_READY : Fld := ⟨0x04C, 15, 1⟩
abbrev SYS_JOB_STAT_VAL_BUSY : Fld := ⟨0x04C, 16, 1⟩
abbrev SYS_JOB_STAT_VAL_RESULT : Fld := ⟨0x04C, 17, 2⟩
abbrev SYS_CHG_CTL_TRIGGER : Fld := ⟨0x058, 0, 2⟩
abbrev SYS_CHG_CTL_ARM : Fld := ⟨0x058, 8, 1⟩
abbrev SYS_CHG_CTL_CANCEL : Fld := ⟨0x058, 9, 1⟩
abbrev SYS_CHG_CTL_STATE : Fld := ⟨0x058, 10, 2⟩
abbrev SYS_CHG_CTL_CANCEL_LATE : Fld := ⟨0x058, 12, 1⟩
abbrev POS_CH_CTL_MODE (k : Nat) : Fld := ⟨0x040 + 0x20 * k, 0, 2⟩
abbrev POS_CH_CTL_INVERT_DIR (k : Nat) : Fld := ⟨0x040 + 0x20 * k, 2, 1⟩
abbrev POS_CH_CTL_INDEX (k : Nat) : Fld := ⟨0x040 + 0x20 * k, 3, 2⟩
abbrev POS_CH_CTL_Z_POL (k : Nat) : Fld := ⟨0x040 + 0x20 * k, 5, 1⟩
abbrev POS_CH_CTL_FILT (k : Nat) : Fld := ⟨0x040 + 0x20 * k, 6, 3⟩
abbrev POS_CH_SSI_CTL_BITS (k : Nat) : Fld := ⟨0x048 + 0x20 * k, 0, 6⟩
abbrev POS_CH_SSI_CTL_GRAY (k : Nat) : Fld := ⟨0x048 + 0x20 * k, 6, 1⟩
abbrev POS_CH_SSI_CTL_CLK_DIV (k : Nat) : Fld := ⟨0x048 + 0x20 * k, 8, 8⟩
abbrev POS_CH_SSI_CTL_READ_PERIOD (k : Nat) : Fld := ⟨0x048 + 0x20 * k, 16, 16⟩
abbrev POS_CH_SPEED_CTL_AVG (k : Nat) : Fld := ⟨0x04C + 0x20 * k, 0, 4⟩
abbrev POS_CH_SPEED_CTL_STILL_MS (k : Nat) : Fld := ⟨0x04C + 0x20 * k, 16, 10⟩
abbrev POS_CH_STAT_DIR (k : Nat) : Fld := ⟨0x058 + 0x20 * k, 0, 1⟩
abbrev POS_CH_STAT_MOVING (k : Nat) : Fld := ⟨0x058 + 0x20 * k, 1, 1⟩
abbrev POS_CH_STAT_STARTING (k : Nat) : Fld := ⟨0x058 + 0x20 * k, 2, 1⟩
abbrev POS_CH_STAT_STANDSTILL (k : Nat) : Fld := ⟨0x058 + 0x20 * k, 3, 1⟩
abbrev POS_CH_STAT_ILLEGAL (k : Nat) : Fld := ⟨0x058 + 0x20 * k, 8, 1⟩
abbrev POS_CH_STAT_SHORT_REPEAT (k : Nat) : Fld := ⟨0x058 + 0x20 * k, 9, 1⟩
abbrev POS_CH_STAT_LONG_REPEAT (k : Nat) : Fld := ⟨0x058 + 0x20 * k, 10, 1⟩
abbrev POS_CH_STAT_WRAPPED (k : Nat) : Fld := ⟨0x058 + 0x20 * k, 11, 1⟩
abbrev POS_CH_STAT_INDEX (k : Nat) : Fld := ⟨0x058 + 0x20 * k, 12, 1⟩
abbrev POS_CH_ERR_CNT_ILLEGAL_CNT (k : Nat) : Fld := ⟨0x05C + 0x20 * k, 0, 16⟩
abbrev POS_TG_CTL_EN (k : Nat) : Fld := ⟨0x080 + 0x10 * k, 0, 1⟩
abbrev POS_TG_CTL_SRC (k : Nat) : Fld := ⟨0x080 + 0x10 * k, 1, 1⟩
abbrev POS_TG_CTL_MIN_PERIOD (k : Nat) : Fld := ⟨0x080 + 0x10 * k, 8, 18⟩
abbrev POS_TG_CTL_LAGGING (k : Nat) : Fld := ⟨0x080 + 0x10 * k, 31, 1⟩
abbrev POS_TG_LINE_HI_b0 (k : Nat) : Fld := ⟨0x08C + 0x10 * k, 0, 16⟩
abbrev POS_TG_LINE_HI_SKIP_CNT (k : Nat) : Fld := ⟨0x08C + 0x10 * k, 16, 16⟩
abbrev CP_PORT_CTL_EN : Fld := ⟨0x040, 0, 1⟩
abbrev CP_PORT_CTL_LANES : Fld := ⟨0x040, 1, 2⟩
abbrev CP_PORT_CTL_RATE : Fld := ⟨0x040, 3, 3⟩
abbrev CP_PORT_CTL_DEPTH : Fld := ⟨0x040, 6, 2⟩
abbrev CP_PORT_CTL_TAPS : Fld := ⟨0x040, 8, 2⟩
abbrev CP_LINK_STAT_STATE : Fld := ⟨0x044, 0, 3⟩
abbrev CP_LINK_STAT_CAUSE : Fld := ⟨0x044, 3, 4⟩
abbrev CP_LINK_STAT_NO_CAMERA : Fld := ⟨0x044, 7, 1⟩
abbrev CP_LINK_STAT_DESKEW_OK : Fld := ⟨0x044, 8, 1⟩
abbrev CP_LINK_STAT_CAUSE_LANE : Fld := ⟨0x044, 9, 3⟩
abbrev CP_LINK_STAT_CAM_FAULT : Fld := ⟨0x044, 12, 1⟩
abbrev CP_LINK_STAT_CAM_MISSED : Fld := ⟨0x044, 13, 1⟩
abbrev CP_TRAIN_CTL_REQ_MODE : Fld := ⟨0x048, 0, 2⟩
abbrev CP_TRAIN_CTL_PRESET : Fld := ⟨0x048, 2, 3⟩
abbrev CP_TRAIN_CTL_MIN_W : Fld := ⟨0x048, 5, 7⟩
abbrev CP_TRAIN_CTL_MIN_H : Fld := ⟨0x048, 12, 9⟩
abbrev CP_TRAIN_CTL_CAL_DT : Fld := ⟨0x048, 21, 5⟩
abbrev CP_EYE_CTL_DWELL : Fld := ⟨0x04C, 0, 4⟩
abbrev CP_EYE_CTL_ERR_LIM : Fld := ⟨0x04C, 4, 8⟩
abbrev CP_EYE_CTL_WARN_W : Fld := ⟨0x04C, 12, 7⟩
abbrev CP_EYE_CTL_CAL_PERIOD : Fld := ⟨0x04C, 20, 10⟩
abbrev CP_LANE_STAT_LOCK (k : Nat) : Fld := ⟨0x050 + 0x4 * k, 0, 1⟩
abbrev CP_LANE_STAT_SLICE (k : Nat) : Fld := ⟨0x050 + 0x4 * k, 1, 1⟩
abbrev CP_LANE_STAT_PRE (k : Nat) : Fld := ⟨0x050 + 0x4 * k, 2, 4⟩
abbrev CP_LANE_STAT_POST (k : Nat) : Fld := ⟨0x050 + 0x4 * k, 6, 5⟩
abbrev CP_LANE_STAT_CTLE (k : Nat) : Fld := ⟨0x050 + 0x4 * k, 11, 4⟩
abbrev CP_LANE_STAT_EYE_W (k : Nat) : Fld := ⟨0x050 + 0x4 * k, 15, 7⟩
abbrev CP_LANE_STAT_EYE_H (k : Nat) : Fld := ⟨0x050 + 0x4 * k, 22, 9⟩
abbrev CP_LANE_STAT_EYE_LOW (k : Nat) : Fld := ⟨0x050 + 0x4 * k, 31, 1⟩
abbrev CP_JOKER_CTL_EN : Fld := ⟨0x060, 0, 1⟩
abbrev CP_JOKER_CTL_STANDBY_EN : Fld := ⟨0x060, 1, 1⟩
abbrev CP_JOKER_CTL_FORCE_LANE : Fld := ⟨0x060, 2, 2⟩
abbrev CP_JOKER_CTL_FORCE : Fld := ⟨0x060, 4, 1⟩
abbrev CP_JOKER_CTL_RELEASE : Fld := ⟨0x060, 5, 1⟩
abbrev CP_JOKER_CTL_CAL_NOW : Fld := ⟨0x060, 8, 4⟩
abbrev CP_JOKER_STAT_LANE : Fld := ⟨0x064, 0, 2⟩
abbrev CP_JOKER_STAT_STATE : Fld := ⟨0x064, 2, 3⟩
abbrev CP_JOKER_STAT_MATCHED : Fld := ⟨0x064, 5, 1⟩
abbrev CP_JOKER_STAT_FAILED_SLICE : Fld := ⟨0x064, 6, 4⟩
abbrev CP_JOKER_STAT_CAL_ABORT : Fld := ⟨0x064, 10, 1⟩
abbrev CP_JOKER_STAT_CAL_DEFERRED : Fld := ⟨0x064, 11, 1⟩
abbrev CP_JOKER_STAT_HANDOVER_CNT : Fld := ⟨0x064, 16, 8⟩
abbrev CP_ERR_CNT0_CODE_ERR : Fld := ⟨0x068, 0, 16⟩
abbrev CP_ERR_CNT0_CRC_ERR : Fld := ⟨0x068, 16, 16⟩
abbrev CP_ERR_CNT1_ABORT : Fld := ⟨0x06C, 0, 8⟩
abbrev CP_ERR_CNT1_LEN_ERR : Fld := ⟨0x06C, 8, 8⟩
abbrev CP_ERR_CNT1_FORMAT_ERR : Fld := ⟨0x06C, 16, 8⟩
abbrev CP_ERR_CNT1_ORDER_ERR : Fld := ⟨0x06C, 24, 8⟩
abbrev CP_ERR_CNT2_AM_LOSS : Fld := ⟨0x070, 0, 8⟩
abbrev CP_ERR_CNT2_LOCK_LOSS : Fld := ⟨0x070, 8, 8⟩
abbrev CP_ERR_CNT2_REG_TIMEOUT : Fld := ⟨0x070, 16, 8⟩
abbrev CP_ERR_CNT2_HB_MISS : Fld := ⟨0x070, 24, 8⟩
abbrev CP_CAM_STAT_b0 : Fld := ⟨0x074, 0, 16⟩
abbrev CP_CAM_STAT_b16 : Fld := ⟨0x074, 16, 8⟩
abbrev CP_CAM_STAT_b24 : Fld := ⟨0x074, 24, 8⟩
abbrev CP_CAM_ACC_ADDR : Fld := ⟨0x078, 2, 22⟩
abbrev CP_CAM_ACC_WRITE : Fld := ⟨0x078, 24, 1⟩
abbrev CP_CAM_ACC_GO : Fld := ⟨0x078, 25, 1⟩
abbrev CP_CAM_ACC_BUSY : Fld := ⟨0x078, 26, 1⟩
abbrev CP_CAM_ACC_RESULT : Fld := ⟨0x078, 27, 3⟩
abbrev PP_CTL_EN : Fld := ⟨0x040, 0, 1⟩
abbrev PP_STAT_CUR_PORT : Fld := ⟨0x044, 0, 4⟩
abbrev PP_STAT_CUR_SET : Fld := ⟨0x044, 4, 1⟩
abbrev PP_STAT_BUSY : Fld := ⟨0x044, 5, 1⟩
abbrev PP_STAT_NEXT_LOADED : Fld := ⟨0x044, 6, 1⟩
abbrev PP_STAT_CTX_WR_REFUSED : Fld := ⟨0x044, 7, 1⟩
abbrev PP_SAT_CNT_FF_SAT : Fld := ⟨0x048, 0, 16⟩
abbrev PP_SAT_CNT_COL_SAT : Fld := ⟨0x048, 16, 16⟩
abbrev PP_FF_CTL_PORT : Fld := ⟨0x04C, 0, 4⟩
abbrev PP_FF_CTL_PHASE : Fld := ⟨0x04C, 4, 2⟩
abbrev PP_FF_CTL_LINES_LOG2 : Fld := ⟨0x04C, 6, 4⟩
abbrev PP_FF_CTL_GO : Fld := ⟨0x04C, 10, 1⟩
abbrev PP_FF_CTL_TARGET : Fld := ⟨0x04C, 12, 12⟩
abbrev PP_FF_STAT_STATE : Fld := ⟨0x050, 0, 2⟩
abbrev PP_FF_STAT_RESULT : Fld := ⟨0x050, 2, 3⟩
abbrev PP_FF_STAT_CLIP_CNT : Fld := ⟨0x050, 5, 16⟩
abbrev PP_FF_START_HI_b0 : Fld := ⟨0x058, 0, 16⟩
abbrev PP_ICNT_SEL_b0 : Fld := ⟨0x05C, 0, 4⟩
abbrev PP_ICNT0_SHORT : Fld := ⟨0x060, 0, 16⟩
abbrev PP_ICNT0_LONG : Fld := ⟨0x060, 16, 16⟩
abbrev PP_ICNT1_GAP : Fld := ⟨0x064, 0, 16⟩
abbrev PP_ICNT1_POISON : Fld := ⟨0x064, 16, 16⟩
abbrev PP_ICNT2_NO_CREDIT : Fld := ⟨0x068, 0, 16⟩
abbrev PP_ICNT2_LATE : Fld := ⟨0x068, 16, 8⟩
abbrev PP_ICNT2_MISS : Fld := ⟨0x068, 24, 8⟩
abbrev DLR_CTL_EN : Fld := ⟨0x040, 0, 1⟩
abbrev DLR_STAT_PP_ACTIVE : Fld := ⟨0x044, 0, 8⟩
abbrev DLR_STAT_MAP_REFUSED : Fld := ⟨0x044, 8, 1⟩
abbrev DLR_STAT_DEAD_SEEN : Fld := ⟨0x044, 9, 1⟩
abbrev DLR_PP_SEL_b0 : Fld := ⟨0x058, 0, 3⟩
abbrev DLR_PP_INFO_LOAD : Fld := ⟨0x05C, 0, 14⟩
abbrev DLR_PP_INFO_CTX_LOADS : Fld := ⟨0x05C, 16, 8⟩
abbrev DLR_PP_INFO_DEAD_ROUNDS : Fld := ⟨0x05C, 24, 8⟩
abbrev STI_CTL_EN : Fld := ⟨0x040, 0, 1⟩
abbrev STI_STAT_EDGE_LOST : Fld := ⟨0x044, 0, 4⟩
abbrev STI_STAT_TBL_REFUSED : Fld := ⟨0x044, 4, 1⟩
abbrev STI_STAT_CLAMP_SEEN : Fld := ⟨0x044, 5, 1⟩
abbrev STI_STAT_TRIM_LIMIT : Fld := ⟨0x044, 6, 1⟩
abbrev STI_TBL_ADDR_ADDR : Fld := ⟨0x048, 2, 13⟩
abbrev STI_TBL_ADDR_INC : Fld := ⟨0x048, 31, 1⟩
abbrev STI_CAL_CTL_VIEW : Fld := ⟨0x050, 0, 2⟩
abbrev STI_CAL_CTL_LINES_LOG2 : Fld := ⟨0x050, 2, 4⟩
abbrev STI_CAL_CTL_ALONG : Fld := ⟨0x050, 6, 1⟩
abbrev STI_CAL_CTL_GO : Fld := ⟨0x050, 7, 1⟩
abbrev STI_CAL_STAT_STATE : Fld := ⟨0x054, 0, 2⟩
abbrev STI_CAL_STAT_RESULT : Fld := ⟨0x054, 2, 3⟩
abbrev STI_CAL_STAT_FAIL_PORT : Fld := ⟨0x054, 5, 4⟩
abbrev STI_CAL_STAT_MAX_CORR : Fld := ⟨0x054, 9, 16⟩
abbrev STI_VIEW_CTL_EN (k : Nat) : Fld := ⟨0x058 + 0x4 * k, 0, 1⟩
abbrev STI_VIEW_CTL_TRIM_FREEZE (k : Nat) : Fld := ⟨0x058 + 0x4 * k, 1, 1⟩
abbrev STI_VIEW_CTL_EDGE_HOLD (k : Nat) : Fld := ⟨0x058 + 0x4 * k, 2, 1⟩
abbrev STI_EDGE_STAT_LOST (k : Nat) : Fld := ⟨0x078 + 0x4 * k, 0, 1⟩
abbrev STI_EDGE_STAT_NO_EDGE (k : Nat) : Fld := ⟨0x078 + 0x4 * k, 1, 1⟩
abbrev STI_EDGE_STAT_MISS_CNT (k : Nat) : Fld := ⟨0x078 + 0x4 * k, 16, 16⟩
abbrev STI_PORT_CTL_IN_VIEW (k : Nat) : Fld := ⟨0x088 + 0x4 * k, 0, 1⟩
abbrev STI_PORT_CTL_VIEW (k : Nat) : Fld := ⟨0x088 + 0x4 * k, 1, 2⟩
abbrev STI_PORT_CTL_OFS (k : Nat) : Fld := ⟨0x088 + 0x4 * k, 3, 5⟩
abbrev STI_TRIM_SEL_PORT : Fld := ⟨0x0C8, 0, 4⟩
abbrev STI_TRIM_SEL_PLANE : Fld := ⟨0x0C8, 4, 2⟩
abbrev STI_TRIM_STAT_TRIM : Fld := ⟨0x0CC, 0, 16⟩
abbrev STI_TRIM_STAT_AT_LIMIT : Fld := ⟨0x0CC, 16, 1⟩
abbrev REG_CTL_EN : Fld := ⟨0x040, 0, 1⟩
abbrev REG_CTL_FREEZE : Fld := ⟨0x040, 1, 1⟩
abbrev REG_STAT_LOCK_LOST : Fld := ⟨0x044, 0, 4⟩
abbrev REG_STAT_NO_LOCK : Fld := ⟨0x044, 4, 4⟩
abbrev REG_VIEW_CTL_ENC_EN (k : Nat) : Fld := ⟨0x048 + 0x14 * k, 0, 1⟩
abbrev REG_VIEW_CTL_FINE_EN (k : Nat) : Fld := ⟨0x048 + 0x14 * k, 1, 1⟩
abbrev REG_VIEW_CTL_FINE_PLANE (k : Nat) : Fld := ⟨0x048 + 0x14 * k, 2, 2⟩
abbrev REG_VIEW_CTL_SR_ACQ (k : Nat) : Fld := ⟨0x048 + 0x14 * k, 4, 6⟩
abbrev REG_VIEW_CTL_CORR_SHIFT (k : Nat) : Fld := ⟨0x048 + 0x14 * k, 10, 4⟩
abbrev REG_VIEW_CTL_MIN_WIN (k : Nat) : Fld := ⟨0x048 + 0x14 * k, 14, 6⟩
abbrev REG_VIEW_CTL_LOST_CNT (k : Nat) : Fld := ⟨0x048 + 0x14 * k, 20, 4⟩
abbrev REG_VIEW_CTL_STEP_MAX_64 (k : Nat) : Fld := ⟨0x048 + 0x14 * k, 24, 6⟩
abbrev REG_VIEW_STATE_LOCK (k : Nat) : Fld := ⟨0x050 + 0x14 * k, 0, 1⟩
abbrev REG_VIEW_STATE_ACQ (k : Nat) : Fld := ⟨0x050 + 0x14 * k, 1, 1⟩
abbrev REG_VIEW_STATE_VALID_WIN (k : Nat) : Fld := ⟨0x050 + 0x14 * k, 2, 7⟩
abbrev REG_VIEW_STATE_STRETCH (k : Nat) : Fld := ⟨0x050 + 0x14 * k, 9, 23⟩
abbrev REG_SEL_VIEW : Fld := ⟨0x098, 0, 2⟩
abbrev REG_SEL_WIN : Fld := ⟨0x098, 2, 6⟩
abbrev REG_WIN_RES_VALID : Fld := ⟨0x09C, 0, 1⟩
abbrev REG_WIN_RES_AT_EDGE : Fld := ⟨0x09C, 1, 1⟩
abbrev REG_WIN_RES_DX16 : Fld := ⟨0x09C, 2, 12⟩
abbrev REG_WIN_RES_DY16 : Fld := ⟨0x09C, 14, 12⟩
abbrev MST_CTL_EN : Fld := ⟨0x040, 0, 1⟩
abbrev MST_STAT_CFG_REFUSED : Fld := ⟨0x044, 0, 1⟩
abbrev MST_STAT_WAITED : Fld := ⟨0x044, 1, 4⟩
abbrev MST_LEARN_CTL_N_SEL : Fld := ⟨0x048, 0, 2⟩
abbrev MST_LEARN_CTL_LAG : Fld := ⟨0x048, 2, 2⟩
abbrev MST_LEARN_CTL_FIT : Fld := ⟨0x048, 4, 1⟩
abbrev MST_LEARN_CTL_PROV_TOL : Fld := ⟨0x048, 8, 8⟩
abbrev MST_TOL_CTL_TOL_GRAD : Fld := ⟨0x04C, 0, 8⟩
abbrev MST_TOL_CTL_ART_SPREAD : Fld := ⟨0x04C, 8, 8⟩
abbrev MST_TOL_CTL_TOL_MIN : Fld := ⟨0x04C, 16, 8⟩
abbrev MST_ADAPT_CTL_EN : Fld := ⟨0x050, 0, 1⟩
abbrev MST_ADAPT_CTL_FREEZE : Fld := ⟨0x050, 1, 1⟩
abbrev MST_ADAPT_CTL_K : Fld := ⟨0x050, 8, 8⟩
abbrev MST_FIT_CTL_FIT_MIN_W : Fld := ⟨0x054, 0, 16⟩
abbrev MST_ART_CTL_JOB_ID : Fld := ⟨0x058, 0, 6⟩
abbrev MST_ART_CTL_PREDICT : Fld := ⟨0x058, 6, 1⟩
abbrev MST_ART_STAT_STATE : Fld := ⟨0x05C, 0, 2⟩
abbrev MST_ART_STAT_RESULT : Fld := ⟨0x05C, 2, 3⟩
abbrev MST_ART_STAT_JOB : Fld := ⟨0x05C, 5, 6⟩
abbrev MST_LV_CFG_SLOTS (k : Nat) : Fld := ⟨0x070 + 0x4 * k, 0, 4⟩
abbrev MST_VIEW_STAT_STATE (k : Nat) : Fld := ⟨0x080 + 0x4 * k, 0, 3⟩
abbrev MST_VIEW_STAT_ADAPTING (k : Nat) : Fld := ⟨0x080 + 0x4 * k, 3, 1⟩
abbrev MST_VIEW_STAT_FROZEN (k : Nat) : Fld := ⟨0x080 + 0x4 * k, 4, 1⟩
abbrev MST_VIEW_STAT_CUR (k : Nat) : Fld := ⟨0x080 + 0x4 * k, 5, 1⟩
abbrev MST_VIEW_STAT_LEARNED (k : Nat) : Fld := ⟨0x080 + 0x4 * k, 8, 4⟩
abbrev MST_VIEW_STAT_SKIPPED (k : Nat) : Fld := ⟨0x080 + 0x4 * k, 16, 8⟩
abbrev MST_RED_STAT_b0 : Fld := ⟨0x0A0, 0, 24⟩
abbrev MST_WAIT_CNT_b0 : Fld := ⟨0x0A4, 0, 16⟩
abbrev MST_WAIT_CNT_b16 : Fld := ⟨0x0A4, 16, 16⟩
abbrev MST_FETCH_ERR_b0 : Fld := ⟨0x0AC, 0, 16⟩
abbrev MST_FETCH_ERR_b16 : Fld := ⟨0x0AC, 16, 16⟩
abbrev IE_CTL_EN : Fld := ⟨0x040, 0, 1⟩
abbrev IE_STAT_STORM : Fld := ⟨0x044, 0, 1⟩
abbrev IE_STAT_STORM_SEEN : Fld := ⟨0x044, 1, 1⟩
abbrev IE_STAT_POISON_SEEN : Fld := ⟨0x044, 2, 1⟩
abbrev IE_STAT_WAITED : Fld := ⟨0x044, 3, 1⟩
abbrev IE_STAT_CFG_REFUSED : Fld := ⟨0x044, 4, 1⟩
abbrev IE_ASSIGN_FIRST : Fld := ⟨0x04C, 0, 19⟩
abbrev IE_ASSIGN_VIEW : Fld := ⟨0x04C, 19, 2⟩
abbrev IE_ASSIGN_VALID : Fld := ⟨0x04C, 21, 1⟩
abbrev IE_ASSIGN_LAST_b0 : Fld := ⟨0x050, 0, 19⟩
abbrev IE_LABELS_OPEN : Fld := ⟨0x054, 0, 17⟩
abbrev IE_CNT0_PIECES : Fld := ⟨0x058, 0, 16⟩
abbrev IE_CNT0_COARSE : Fld := ⟨0x058, 16, 16⟩
abbrev IE_CNT1_STORMS : Fld := ⟨0x05C, 0, 8⟩
abbrev IE_CNT1_PRES_FAIL : Fld := ⟨0x05C, 8, 8⟩
abbrev IE_CNT1_FLAT : Fld := ⟨0x05C, 16, 16⟩
abbrev MRG_CTL_EN : Fld := ⟨0x040, 0, 1⟩
abbrev MRG_STAT_OVF_SEEN : Fld := ⟨0x044, 0, 1⟩
abbrev MRG_STAT_CROP_WRAP : Fld := ⟨0x044, 1, 1⟩
abbrev MRG_CROP_CTL_EN : Fld := ⟨0x048, 0, 4⟩
abbrev MRG_CROP_CTL_PER_BAND : Fld := ⟨0x048, 4, 8⟩
abbrev MRG_CROP_CNT_b0 : Fld := ⟨0x05C, 0, 16⟩
abbrev MRG_CROP_CNT_NO_CROP : Fld := ⟨0x05C, 16, 16⟩
abbrev MRG_ITEM_CNT_b0 : Fld := ⟨0x06C, 0, 16⟩
abbrev MRG_ITEM_CNT_b16 : Fld := ⟨0x06C, 16, 8⟩
abbrev MRG_ITEM_CNT_b24 : Fld := ⟨0x06C, 24, 8⟩
abbrev MRG_BAND_HI_b0 (k : Nat) : Fld := ⟨0x090 + 0x4 * k, 0, 16⟩
abbrev MRG_REC_LIMIT_b0 (k : Nat) : Fld := ⟨0x0A0 + 0x4 * k, 0, 16⟩
abbrev MRG_SEL_b0 : Fld := ⟨0x0B0, 0, 3⟩
abbrev MRG_ENG_STAT_b0 : Fld := ⟨0x0B4, 0, 16⟩
abbrev MRG_ENG_STAT_b16 : Fld := ⟨0x0B4, 16, 1⟩
abbrev RUL_CTL_EN : Fld := ⟨0x040, 0, 1⟩
abbrev RUL_STAT_b0 : Fld := ⟨0x044, 0, 9⟩
abbrev RUL_HIT_SEL_b0 : Fld := ⟨0x050, 0, 8⟩
abbrev VRD_CTL_EN : Fld := ⟨0x040, 0, 1⟩
abbrev VRD_CTL_ACT_EN : Fld := ⟨0x040, 1, 1⟩
abbrev VRD_STAT_RING_WRAP : Fld := ⟨0x044, 0, 1⟩
abbrev VRD_STAT_ACT_LATE : Fld := ⟨0x044, 1, 1⟩
abbrev VRD_STAT_ACT_OVERFLOW : Fld := ⟨0x044, 2, 1⟩
abbrev VRD_SEV_CTL_SEV_MARG : Fld := ⟨0x048, 0, 4⟩
abbrev VRD_SEV_CTL_SEV_FAIL : Fld := ⟨0x048, 4, 4⟩
abbrev VRD_SEV_CTL_DEF_SEV : Fld := ⟨0x048, 8, 4⟩
abbrev VRD_SEV_CTL_DEF_SEV_COARSE : Fld := ⟨0x048, 16, 4⟩
abbrev VRD_UNINSP_CTL_UNINSP_PERMIL : Fld := ⟨0x04C, 0, 10⟩
abbrev VRD_UNINSP_CTL_CSCALE_INIT : Fld := ⟨0x04C, 16, 8⟩
abbrev VRD_ACT_STAT_b0 : Fld := ⟨0x07C, 0, 11⟩
abbrev VRD_ACT_CNT_b0 : Fld := ⟨0x080, 0, 16⟩
abbrev VRD_ACT_CNT_LATE : Fld := ⟨0x080, 16, 8⟩
abbrev VRD_ACT_CNT_CANCELLED : Fld := ⟨0x080, 24, 8⟩
abbrev VRD_ACT_OVF_b0 : Fld := ⟨0x084, 0, 16⟩
abbrev VRD_CSCALE_SEL_b0 : Fld := ⟨0x088, 0, 12⟩
abbrev VRD_CSCALE_SEL_b12 : Fld := ⟨0x088, 12, 2⟩
abbrev VRD_CSCALE_CSCALE : Fld := ⟨0x08C, 0, 8⟩
abbrev DEC_CTL_EN : Fld := ⟨0x040, 0, 1⟩
abbrev DEC_STAT_SYNC_SEEN : Fld := ⟨0x044, 0, 1⟩
abbrev DEC_SYNC_CTL_SYNC : Fld := ⟨0x048, 0, 1⟩
abbrev DEC_SYNC_CTL_PIN_EN : Fld := ⟨0x048, 1, 1⟩
abbrev DEC_SYNC_CTL_PIN_POL : Fld := ⟨0x048, 2, 1⟩
abbrev DEC_SYNC_CTL_PIN_FILT : Fld := ⟨0x048, 3, 3⟩
abbrev DEC_SYNC_SEL_b0 : Fld := ⟨0x04C, 0, 2⟩
abbrev DEC_SYNC_LINE_HI_b0 : Fld := ⟨0x054, 0, 16⟩
abbrev DEC_POOL_b0 : Fld := ⟨0x060, 0, 22⟩
abbrev DEC_LOAD_b0 : Fld := ⟨0x064, 0, 16⟩
abbrev DEC_CNT0_b0 : Fld := ⟨0x068, 0, 16⟩
abbrev DEC_CNT0_b16 : Fld := ⟨0x068, 16, 16⟩
abbrev DEC_CNT1_DISCARDED : Fld := ⟨0x06C, 0, 16⟩
abbrev DEC_CNT1_b16 : Fld := ⟨0x06C, 16, 16⟩
abbrev STR_CTL_EN : Fld := ⟨0x040, 0, 1⟩
abbrev STR_STAT_b0 : Fld := ⟨0x044, 0, 7⟩
abbrev STR_STAT_S7 : Fld := ⟨0x044, 7, 1⟩
abbrev STR_STAT_TBL_REFUSED : Fld := ⟨0x044, 8, 1⟩
abbrev STR_STAT_RATE_REFUSED : Fld := ⟨0x044, 9, 1⟩
abbrev STR_STAT_FORMAT_REFUSED : Fld := ⟨0x044, 10, 1⟩
abbrev STR_STAT_ADMIT_REFUSED : Fld := ⟨0x044, 11, 1⟩
abbrev STR_TBL_ADDR_ADDR : Fld := ⟨0x048, 2, 13⟩
abbrev STR_TBL_ADDR_INC : Fld := ⟨0x048, 31, 1⟩
abbrev STR_S_CTL_EN (k : Nat) : Fld := ⟨0x050 + 0xC * k, 0, 1⟩
abbrev STR_S_CTL_AT (k : Nat) : Fld := ⟨0x050 + 0xC * k, 1, 1⟩
abbrev STR_S_CTL_RESTART (k : Nat) : Fld := ⟨0x050 + 0xC * k, 2, 1⟩
abbrev STR_S_STAT_RUNNING (k : Nat) : Fld := ⟨0x058 + 0xC * k, 0, 1⟩
abbrev STR_S_STAT_SETTLED (k : Nat) : Fld := ⟨0x058 + 0xC * k, 1, 1⟩
abbrev STR_S_STAT_RESETS (k : Nat) : Fld := ⟨0x058 + 0xC * k, 8, 8⟩
abbrev STR_S_STAT_DROP (k : Nat) : Fld := ⟨0x058 + 0xC * k, 16, 16⟩
abbrev TB_CTL_REF_25 : Fld := ⟨0x040, 0, 1⟩
abbrev TB_CTL_SERVO_EN : Fld := ⟨0x040, 1, 1⟩
abbrev TB_CTL_PPS_POL : Fld := ⟨0x040, 2, 1⟩
abbrev TB_CTL_PPS_OUT_EN : Fld := ⟨0x040, 3, 1⟩
abbrev TB_CTL_PTP_EN : Fld := ⟨0x040, 4, 1⟩
abbrev TB_CTL_FOREIGN_SILENT : Fld := ⟨0x040, 5, 1⟩
abbrev TB_STAT_STATE : Fld := ⟨0x044, 0, 3⟩
abbrev TB_STAT_CLOCK_CLASS : Fld := ⟨0x044, 3, 8⟩
abbrev TB_STAT_STEPPED : Fld := ⟨0x044, 11, 1⟩
abbrev TB_STAT_STEP_REFUSED : Fld := ⟨0x044, 12, 1⟩
abbrev TB_STAT_RATE_REFUSED : Fld := ⟨0x044, 13, 1⟩
abbrev TB_STAT_TOD_MISMATCH : Fld := ⟨0x044, 14, 1⟩
abbrev TB_STAT_PPS_BAD : Fld := ⟨0x044, 15, 1⟩
abbrev TB_STAT_REF_LOCK : Fld := ⟨0x044, 16, 1⟩
abbrev TB_TIME_FRAC_b0 : Fld := ⟨0x050, 0, 16⟩
abbrev TB_RATE_HI_RATE : Fld := ⟨0x068, 0, 8⟩
abbrev TB_SERVO_CTL_KP_SHIFT : Fld := ⟨0x06C, 0, 4⟩
abbrev TB_SERVO_CTL_KI_SHIFT : Fld := ⟨0x06C, 4, 4⟩
abbrev TB_SERVO_CTL_LOCK_NS : Fld := ⟨0x06C, 8, 10⟩
abbrev TB_SERVO_CTL_PPS_WIN : Fld := ⟨0x06C, 18, 10⟩
abbrev TB_SERVO_CTL_HOLD_LOG2 : Fld := ⟨0x06C, 28, 4⟩
abbrev TB_TOD_SEC_HI_TAI : Fld := ⟨0x074, 0, 16⟩
abbrev TB_UTC_OFS_b0 : Fld := ⟨0x07C, 0, 16⟩
abbrev TB_UTC_OFS_VALID : Fld := ⟨0x07C, 16, 1⟩
abbrev TB_UTC_OFS_LEAP61 : Fld := ⟨0x07C, 17, 1⟩
abbrev TB_UTC_OFS_LEAP59 : Fld := ⟨0x07C, 18, 1⟩
abbrev TB_PTP_CTL_DOMAIN : Fld := ⟨0x088, 0, 8⟩
abbrev TB_PTP_CTL_PRIORITY1 : Fld := ⟨0x088, 8, 8⟩
abbrev TB_PTP_CTL_PRIORITY2 : Fld := ⟨0x088, 16, 8⟩
abbrev TB_PTP_CTL_ANN_TIMEOUT : Fld := ⟨0x088, 24, 4⟩
abbrev TB_PTP_QUAL_ACCURACY : Fld := ⟨0x08C, 0, 8⟩
abbrev TB_PTP_QUAL_VARIANCE : Fld := ⟨0x08C, 8, 16⟩
abbrev TB_PTP_QUAL_TIME_SOURCE : Fld := ⟨0x08C, 24, 8⟩
abbrev TB_PORT0_CTL_EN : Fld := ⟨0x090, 0, 1⟩
abbrev TB_PORT0_CTL_TRANSPORT : Fld := ⟨0x090, 1, 1⟩
abbrev TB_PORT0_CTL_TWO_STEP : Fld := ⟨0x090, 2, 1⟩
abbrev TB_PORT0_CTL_PEER : Fld := ⟨0x090, 3, 1⟩
abbrev TB_PORT0_CTL_LOG_SYNC : Fld := ⟨0x090, 8, 4⟩
abbrev TB_PORT0_CTL_LOG_ANN : Fld := ⟨0x090, 12, 4⟩
abbrev TB_PORT0_CTL_LOG_MIN_DREQ : Fld := ⟨0x090, 16, 4⟩
abbrev TB_PORT1_CTL_EN : Fld := ⟨0x094, 0, 1⟩
abbrev TB_PORT1_CTL_TRANSPORT : Fld := ⟨0x094, 1, 1⟩
abbrev TB_PORT1_CTL_TWO_STEP : Fld := ⟨0x094, 2, 1⟩
abbrev TB_PORT1_CTL_PEER : Fld := ⟨0x094, 3, 1⟩
abbrev TB_PORT1_CTL_LOG_SYNC : Fld := ⟨0x094, 8, 4⟩
abbrev TB_PORT1_CTL_LOG_ANN : Fld := ⟨0x094, 12, 4⟩
abbrev TB_PORT1_CTL_LOG_MIN_DREQ : Fld := ⟨0x094, 16, 4⟩
abbrev TB_PTP_STAT_FOREIGN_BETTER : Fld := ⟨0x098, 0, 2⟩
abbrev TB_PTP_STAT_SILENT : Fld := ⟨0x098, 2, 2⟩
abbrev TB_PTP_STAT_FOREIGN_SEEN : Fld := ⟨0x098, 4, 1⟩
abbrev TB_PTP_CNT_b0 : Fld := ⟨0x09C, 0, 16⟩
abbrev TB_PTP_CNT_b16 : Fld := ⟨0x09C, 16, 16⟩
abbrev CRL_CTL_EN : Fld := ⟨0x040, 0, 1⟩
abbrev CRL_CTL_SWITCH : Fld := ⟨0x040, 1, 1⟩
abbrev CRL_CTL_CAL_FLUSH : Fld := ⟨0x040, 2, 1⟩
abbrev CRL_STAT_ACTIVE : Fld := ⟨0x044, 0, 1⟩
abbrev CRL_STAT_SWITCH_PENDING : Fld := ⟨0x044, 1, 1⟩
abbrev CRL_STAT_DEFERRED : Fld := ⟨0x044, 2, 1⟩
abbrev CRL_STAT_GUARD_REFUSED : Fld := ⟨0x044, 3, 1⟩
abbrev CRL_STAT_CAL_FULL : Fld := ⟨0x044, 4, 1⟩
abbrev CRL_STAT_CYCLE_REFUSED : Fld := ⟨0x044, 5, 1⟩
abbrev CRL_STAT_LAUNCH_EMPTY : Fld := ⟨0x044, 6, 1⟩
abbrev CRL_CAL_CFG_ACTION : Fld := ⟨0x06C, 0, 2⟩
abbrev CRL_CAL_CFG_PULSE : Fld := ⟨0x06C, 2, 5⟩
abbrev CRL_CAL_CFG_QIDX : Fld := ⟨0x06C, 7, 10⟩
abbrev CRL_CAL_CFG_PORT : Fld := ⟨0x06C, 17, 1⟩
abbrev CRL_CAL_CTL_INS : Fld := ⟨0x074, 0, 1⟩
abbrev CRL_CAL_CTL_RESULT : Fld := ⟨0x074, 1, 2⟩
abbrev CRL_CAL_STAT_b0 : Fld := ⟨0x078, 0, 13⟩
abbrev CRL_CAL_STAT_b16 : Fld := ⟨0x078, 16, 13⟩
abbrev CRL_FIRE_CNT_b0 : Fld := ⟨0x07C, 0, 16⟩
abbrev CRL_FIRE_CNT_b16 : Fld := ⟨0x07C, 16, 16⟩
abbrev CRL_ERR_CNT_DEFERRED : Fld := ⟨0x080, 0, 8⟩
abbrev CRL_ERR_CNT_LAUNCH_EMPTY : Fld := ⟨0x080, 8, 8⟩
abbrev CRL_ERR_CNT_LAUNCH_SLIP : Fld := ⟨0x080, 16, 8⟩
abbrev CRL_ERR_CNT_CAL_PAST : Fld := ⟨0x080, 24, 8⟩
abbrev CRL_CANCEL_CNT_b0 : Fld := ⟨0x084, 0, 16⟩
abbrev CRL_CANCEL_CNT_b16 : Fld := ⟨0x084, 16, 16⟩
abbrev EVF_CTL_EN : Fld := ⟨0x040, 0, 1⟩
abbrev EVF_STAT_OVERRUN_SEEN : Fld := ⟨0x044, 0, 1⟩
abbrev EVF_STAT_COIN_SEEN : Fld := ⟨0x044, 1, 1⟩
abbrev EVF_STAT_LOOP_SEEN : Fld := ⟨0x044, 2, 1⟩
abbrev EVF_STAT_GUARD_REFUSED : Fld := ⟨0x044, 3, 1⟩
abbrev EVF_STAT_WAITED : Fld := ⟨0x044, 4, 1⟩
abbrev EVF_GROUP_STATE_b0 : Fld := ⟨0x048, 0, 16⟩
abbrev EVF_SW_FIRE_SW : Fld := ⟨0x04C, 0, 5⟩
abbrev EVF_SW_FIRE_GO : Fld := ⟨0x04C, 5, 1⟩
abbrev QF_CTL_EN : Fld := ⟨0x040, 0, 1⟩
abbrev QF_STAT_BAD_TAG : Fld := ⟨0x044, 0, 1⟩
abbrev QF_STAT_BAD_FRAME : Fld := ⟨0x044, 1, 1⟩
abbrev QF_STAT_GUARD_REFUSED : Fld := ⟨0x044, 2, 1⟩
abbrev QF_STAT_PARITY_SEEN : Fld := ⟨0x044, 3, 1⟩
abbrev QF_ALLOC_APPLY : Fld := ⟨0x048, 0, 1⟩
abbrev QF_ALLOC_STAT_RESULT : Fld := ⟨0x04C, 0, 2⟩
abbrev QF_ALLOC_STAT_b16 : Fld := ⟨0x04C, 16, 13⟩
abbrev QF_HQ_SEL_b0 : Fld := ⟨0x050, 0, 13⟩
abbrev QF_HQ_CRED_REQ_COUNT : Fld := ⟨0x054, 0, 16⟩
abbrev QF_HQ_CRED_REQ_GO : Fld := ⟨0x054, 16, 1⟩
abbrev QF_HQ_PUSH_CTL_TAG : Fld := ⟨0x064, 0, 2⟩
abbrev QF_HQ_PUSH_CTL_SOF : Fld := ⟨0x064, 2, 1⟩
abbrev QF_HQ_PUSH_CTL_EOF : Fld := ⟨0x064, 3, 1⟩
abbrev QF_HQ_POP_TAG_TAG : Fld := ⟨0x070, 0, 2⟩
abbrev QF_HQ_POP_TAG_SOF : Fld := ⟨0x070, 2, 1⟩
abbrev QF_HQ_POP_TAG_EOF : Fld := ⟨0x070, 3, 1⟩
abbrev QF_LVL_NEXT_b0 : Fld := ⟨0x074, 0, 13⟩
abbrev QF_LVL_NEXT_VALID : Fld := ⟨0x074, 31, 1⟩
abbrev QF_LVL_CNT_b0 : Fld := ⟨0x078, 0, 14⟩
abbrev QF_EXT_CNT_b0 : Fld := ⟨0x080, 0, 24⟩
abbrev QF_EXT_CNT_b24 : Fld := ⟨0x080, 24, 8⟩
abbrev QF_REFUSE_CNT_b0 : Fld := ⟨0x084, 0, 16⟩
abbrev QF_REFUSE_CNT_b16 : Fld := ⟨0x084, 16, 16⟩
abbrev QF_BANK_CNT_b0 : Fld := ⟨0x088, 0, 16⟩
abbrev QF_STORE_FREE_b0 : Fld := ⟨0x08C, 0, 22⟩
abbrev DMA_CTL_EN : Fld := ⟨0x040, 0, 1⟩
abbrev DMA_STAT_b0 : Fld := ⟨0x044, 0, 6⟩
abbrev DMA_CH_SEL_b0 : Fld := ⟨0x048, 0, 5⟩
abbrev DMA_CH_CTL_ARM : Fld := ⟨0x04C, 0, 1⟩
abbrev DMA_CH_CTL_PAUSE : Fld := ⟨0x04C, 1, 1⟩
abbrev DMA_CH_CTL_ABORT : Fld := ⟨0x04C, 2, 1⟩
abbrev DMA_CH_STAT_STATE : Fld := ⟨0x050, 0, 2⟩
abbrev DMA_CH_STAT_ACTIVE_SET : Fld := ⟨0x050, 2, 1⟩
abbrev DMA_CH_STAT_SHADOW_ARMED : Fld := ⟨0x050, 3, 1⟩
abbrev DMA_CH_STAT_SHADOW_BUSY : Fld := ⟨0x050, 4, 1⟩
abbrev DMA_CH_STAT_ARM_REFUSED : Fld := ⟨0x050, 5, 1⟩
abbrev DMA_CH_STAT_CAUSE : Fld := ⟨0x050, 6, 3⟩
abbrev DMA_CH_STAT_OUTSTANDING : Fld := ⟨0x050, 9, 4⟩
abbrev DMA_ERR_CNT_POISON : Fld := ⟨0x084, 0, 16⟩
abbrev DMA_ERR_CNT_b16 : Fld := ⟨0x084, 16, 8⟩
abbrev DMA_ERR_CNT_b24 : Fld := ⟨0x084, 24, 8⟩
abbrev MCG_CTL_EN : Fld := ⟨0x040, 0, 1⟩
abbrev MCG_STAT_INIT_DONE : Fld := ⟨0x044, 0, 1⟩
abbrev MCG_STAT_SELF_REFRESH : Fld := ⟨0x044, 1, 1⟩
abbrev MCG_STAT_HOT : Fld := ⟨0x044, 2, 1⟩
abbrev MCG_STAT_PANIC_ANY : Fld := ⟨0x044, 3, 1⟩
abbrev MCG_STAT_RANGE_SEEN : Fld := ⟨0x044, 4, 1⟩
abbrev MCG_STAT_CFG_REFUSED : Fld := ⟨0x044, 5, 1⟩
abbrev MCG_CFG_TYPE : Fld := ⟨0x048, 0, 1⟩
abbrev MCG_CFG_RATE : Fld := ⟨0x048, 1, 3⟩
abbrev MCG_CFG_DENSITY : Fld := ⟨0x048, 4, 2⟩
abbrev MCG_CFG_RANKS2 : Fld := ⟨0x048, 6, 1⟩
abbrev MCG_CFG_LINK_ECC : Fld := ⟨0x048, 7, 1⟩
abbrev MCG_CFG_BANK_HASH : Fld := ⟨0x048, 8, 1⟩
abbrev MCG_TIMING0_b0 : Fld := ⟨0x04C, 0, 8⟩
abbrev MCG_TIMING0_b8 : Fld := ⟨0x04C, 8, 8⟩
abbrev MCG_TIMING0_b16 : Fld := ⟨0x04C, 16, 8⟩
abbrev MCG_TIMING0_b24 : Fld := ⟨0x04C, 24, 8⟩
abbrev MCG_TIMING1_b0 : Fld := ⟨0x050, 0, 9⟩
abbrev MCG_TIMING1_b16 : Fld := ⟨0x050, 16, 8⟩
abbrev MCG_TIMING1_b24 : Fld := ⟨0x050, 24, 8⟩
abbrev MCG_TIMING2_RL : Fld := ⟨0x054, 0, 6⟩
abbrev MCG_TIMING2_WL : Fld := ⟨0x054, 6, 6⟩
abbrev MCG_TIMING2_b12 : Fld := ⟨0x054, 12, 6⟩
abbrev MCG_TIMING2_b18 : Fld := ⟨0x054, 18, 6⟩
abbrev MCG_TIMING2_b24 : Fld := ⟨0x054, 24, 6⟩
abbrev MCG_REF_CTL_TREFI : Fld := ⟨0x058, 0, 12⟩
abbrev MCG_REF_CTL_HOT_AUTO : Fld := ⟨0x058, 12, 1⟩
abbrev MCG_REF_CTL_HOT_FORCE : Fld := ⟨0x058, 13, 1⟩
abbrev MCG_REF_CTL_TRACK_INTV : Fld := ⟨0x058, 14, 9⟩
abbrev MCG_REF_CTL_OSC_CYC : Fld := ⟨0x058, 23, 7⟩
abbrev MCG_PAGE_CTL_IDLE_CYC : Fld := ⟨0x05C, 0, 11⟩
abbrev MCG_PANIC_CTL_LEVEL : Fld := ⟨0x060, 0, 6⟩
abbrev MCG_PANIC_CTL_HYST : Fld := ⟨0x060, 6, 6⟩
abbrev MCG_PANIC_CTL_EN : Fld := ⟨0x060, 12, 1⟩
abbrev MCG_ECC_CTL_INIT : Fld := ⟨0x064, 0, 8⟩
abbrev MCG_ECC_CTL_INIT_BUSY : Fld := ⟨0x064, 8, 8⟩
abbrev MCG_ECC_RGN_BASE (k : Nat) : Fld := ⟨0x068 + 0x4 * k, 0, 11⟩
abbrev MCG_ECC_RGN_EN (k : Nat) : Fld := ⟨0x068 + 0x4 * k, 11, 1⟩
abbrev MCG_ECC_RGN_SIZE (k : Nat) : Fld := ⟨0x068 + 0x4 * k, 12, 11⟩
abbrev MCG_TRAIN_CTL_RETRAIN : Fld := ⟨0x088, 0, 1⟩
abbrev MCG_TRAIN_CTL_TRACK_EN : Fld := ⟨0x088, 1, 1⟩
abbrev MCG_TRAIN_CTL_ESC_UE : Fld := ⟨0x088, 8, 8⟩
abbrev MCG_TRAIN_STAT_STATE : Fld := ⟨0x08C, 0, 2⟩
abbrev MCG_TRAIN_STAT_RESULT : Fld := ⟨0x08C, 2, 1⟩
abbrev MCG_TRAIN_STAT_MARGIN_LOST : Fld := ⟨0x08C, 3, 12⟩
abbrev MCG_ERR_CNT_b0 : Fld := ⟨0x090, 0, 16⟩
abbrev MCG_ERR_CNT_b16 : Fld := ⟨0x090, 16, 16⟩
abbrev MCG_ERR_ADDR_HI_b0 : Fld := ⟨0x098, 0, 8⟩
abbrev MCG_ERR_ADDR_HI_b8 : Fld := ⟨0x098, 8, 4⟩
abbrev MCG_ERR_ADDR_HI_b12 : Fld := ⟨0x098, 12, 1⟩
abbrev MCG_BW_STAT_b0 : Fld := ⟨0x09C, 0, 16⟩
abbrev MCG_BW_STAT_b16 : Fld := ⟨0x09C, 16, 16⟩
abbrev MC_STAT_TRAINED : Fld := ⟨0x040, 0, 1⟩
abbrev MC_STAT_MARGIN_LOST : Fld := ⟨0x040, 1, 1⟩
abbrev MC_STAT_MARGIN_LOW : Fld := ⟨0x040, 2, 1⟩
abbrev MC_STAT_PANIC : Fld := ⟨0x040, 3, 1⟩
abbrev MC_STAT_MR4_RATE : Fld := ⟨0x040, 4, 3⟩
abbrev MC_STAT_SELF_REFRESH : Fld := ⟨0x040, 7, 1⟩
abbrev MC_MARGIN_b0 : Fld := ⟨0x044, 0, 8⟩
abbrev MC_MARGIN_b8 : Fld := ⟨0x044, 8, 8⟩
abbrev MC_MARGIN_b16 : Fld := ⟨0x044, 16, 8⟩
abbrev MC_MARGIN_b24 : Fld := ⟨0x044, 24, 8⟩
abbrev MC_ERR_CNT_b0 : Fld := ⟨0x048, 0, 16⟩
abbrev MC_ERR_CNT_b16 : Fld := ⟨0x048, 16, 8⟩
abbrev MC_ERR_CNT_b24 : Fld := ⟨0x048, 24, 8⟩
abbrev MC_PANIC_CNT_b0 : Fld := ⟨0x04C, 0, 16⟩
abbrev MC_PANIC_CNT_b16 : Fld := ⟨0x04C, 16, 16⟩
abbrev MC_BW_b0 : Fld := ⟨0x050, 0, 16⟩
abbrev ZIP_CTL_HOST_EN : Fld := ⟨0x040, 0, 1⟩
abbrev ZIP_CTL_CROP_DYN : Fld := ⟨0x040, 1, 1⟩
abbrev ZIP_STAT_BUSY : Fld := ⟨0x044, 0, 1⟩
abbrev ZIP_STAT_CUR_REQ : Fld := ⟨0x044, 1, 2⟩
abbrev ZIP_STAT_STREAM_OPEN : Fld := ⟨0x044, 3, 1⟩
abbrev ZIP_STAT_ERR_SEEN : Fld := ⟨0x044, 4, 1⟩
abbrev ZIP_STAT_RING_REFUSED : Fld := ⟨0x044, 5, 1⟩
abbrev ZIP_LAST_STATUS_STATUS : Fld := ⟨0x05C, 0, 8⟩
abbrev ZIP_LAST_STATUS_b16 : Fld := ⟨0x05C, 16, 16⟩
abbrev ZIP_JOB_CNT_b0 : Fld := ⟨0x068, 0, 16⟩
abbrev ZIP_JOB_CNT_b16 : Fld := ⟨0x068, 16, 16⟩
abbrev ZIP_NOGAIN_CNT_b0 : Fld := ⟨0x06C, 0, 16⟩
abbrev ZIP_NOGAIN_CNT_b16 : Fld := ⟨0x06C, 16, 16⟩
abbrev ZIP_ERR_CNT_FORMAT : Fld := ⟨0x070, 0, 8⟩
abbrev ZIP_ERR_CNT_ADLER_ERR : Fld := ⟨0x070, 8, 8⟩
abbrev ZIP_ERR_CNT_CRC_ERR : Fld := ⟨0x070, 16, 8⟩
abbrev ZIP_ERR_CNT_MEM_ERR : Fld := ⟨0x070, 24, 8⟩
abbrev ZIP_FR_ERR_MAX_b0 : Fld := ⟨0x074, 0, 10⟩
abbrev ZIP_CROP_LAT_b0 : Fld := ⟨0x078, 0, 16⟩
abbrev ZIP_SYS_STAT_SYS : Fld := ⟨0x07C, 0, 2⟩
abbrev ZIP_SYS_STAT_STATUS : Fld := ⟨0x07C, 8, 8⟩
abbrev ZIP_RATE_b0 : Fld := ⟨0x080, 0, 16⟩
abbrev ZIP_RATE_b16 : Fld := ⟨0x080, 16, 16⟩
abbrev ZIP_WAIT_CNT_b0 : Fld := ⟨0x084, 0, 16⟩
abbrev ZIP_WAIT_CNT_b16 : Fld := ⟨0x084, 16, 16⟩
abbrev ETH_CTL_EN : Fld := ⟨0x040, 0, 1⟩
abbrev ETH_CTL_SPEED : Fld := ⟨0x040, 1, 1⟩
abbrev ETH_STAT_LINK : Fld := ⟨0x044, 0, 1⟩
abbrev ETH_STAT_BLOCK_LOCK : Fld := ⟨0x044, 1, 1⟩
abbrev ETH_STAT_LINK_LOST : Fld := ⟨0x044, 2, 1⟩
abbrev ETH_MAC_HI_MAC : Fld := ⟨0x04C, 0, 16⟩
abbrev ETH_VLAN_VID : Fld := ⟨0x05C, 0, 12⟩
abbrev ETH_VLAN_TAGGED : Fld := ⟨0x05C, 12, 1⟩
abbrev ETH_VLAN_PCP_PTP : Fld := ⟨0x05C, 13, 3⟩
abbrev ETH_VLAN_PCP_WRP : Fld := ⟨0x05C, 16, 3⟩
abbrev ETH_VLAN_PCP_CTL : Fld := ⟨0x05C, 19, 3⟩
abbrev ETH_MTU_MTU : Fld := ⟨0x060, 0, 14⟩
abbrev ETH_ARP_CTL_REFRESH : Fld := ⟨0x064, 0, 8⟩
abbrev ETH_ARP_CTL_RETRY : Fld := ⟨0x064, 8, 4⟩
abbrev ETH_IP_CTL_ICMP_EN : Fld := ⟨0x068, 0, 1⟩
abbrev ETH_IP_CTL_DSCP : Fld := ⟨0x068, 8, 6⟩
abbrev ETH_IP_CTL_TTL : Fld := ⟨0x068, 16, 8⟩
abbrev ETH_RX_ERR_FCS : Fld := ⟨0x078, 0, 16⟩
abbrev ETH_RX_ERR_b16 : Fld := ⟨0x078, 16, 16⟩
abbrev ETH_ARP_CNT_b0 : Fld := ⟨0x07C, 0, 16⟩
abbrev ETH_ARP_CNT_b16 : Fld := ⟨0x07C, 16, 16⟩
abbrev ETH_PCS_STAT_b0 : Fld := ⟨0x080, 0, 16⟩
abbrev ETH_PCS_STAT_b16 : Fld := ⟨0x080, 16, 16⟩
abbrev NET_CTL_EN : Fld := ⟨0x040, 0, 1⟩
abbrev NET_CTL_WCP_EN : Fld := ⟨0x040, 1, 1⟩
abbrev NET_STAT_b0 : Fld := ⟨0x044, 0, 11⟩
abbrev NET_PORTS_WRP : Fld := ⟨0x048, 0, 16⟩
abbrev NET_PORTS_WCP : Fld := ⟨0x048, 16, 16⟩
abbrev NET_STATUS_CTL_PERIOD_MS : Fld := ⟨0x04C, 0, 16⟩
abbrev NET_SESS_CTL_SESS : Fld := ⟨0x050, 0, 10⟩
abbrev NET_SESS_CTL_APPLY : Fld := ⟨0x050, 16, 1⟩
abbrev NET_SESS_STAT_APPLY_PENDING : Fld := ⟨0x054, 0, 1⟩
abbrev NET_SESS_STAT_REFUSED : Fld := ⟨0x054, 1, 1⟩
abbrev NET_KEY_SEL_b0 : Fld := ⟨0x068, 0, 3⟩
abbrev NET_KEY_SEL_CLEAR : Fld := ⟨0x068, 8, 1⟩
abbrev NET_KEY_STAT_b0 : Fld := ⟨0x070, 0, 8⟩
abbrev NET_WCP_CNT_b0 : Fld := ⟨0x074, 0, 16⟩
abbrev NET_WCP_CNT_b16 : Fld := ⟨0x074, 16, 16⟩
abbrev NET_WCP_REJ_AUTH : Fld := ⟨0x078, 0, 16⟩
abbrev NET_WCP_REJ_REPLAY : Fld := ⟨0x078, 16, 16⟩
abbrev NET_NACK_CNT_b0 : Fld := ⟨0x07C, 0, 16⟩
abbrev NET_NACK_CNT_b16 : Fld := ⟨0x07C, 16, 16⟩
abbrev NET_LOSS_CNT_b0 : Fld := ⟨0x088, 0, 16⟩
abbrev NET_LOSS_CNT_b16 : Fld := ⟨0x088, 16, 16⟩
abbrev NET_WX8_CTL_BASE : Fld := ⟨0x08C, 0, 16⟩
abbrev NET_WX8_CTL_EN : Fld := ⟨0x08C, 16, 1⟩
abbrev NET_WX8_CTL_PORT : Fld := ⟨0x08C, 17, 1⟩
abbrev NET_WX8_CNT_b0 : Fld := ⟨0x094, 0, 16⟩
abbrev NET_WX8_CNT_b16 : Fld := ⟨0x094, 16, 16⟩
abbrev PCIE_CTL_RO_EN : Fld := ⟨0x040, 0, 1⟩
abbrev PCIE_CTL_ECRC_GEN : Fld := ⟨0x040, 1, 1⟩
abbrev PCIE_STAT_LINK_UP : Fld := ⟨0x044, 0, 1⟩
abbrev PCIE_STAT_BUS_MASTER : Fld := ⟨0x044, 1, 1⟩
abbrev PCIE_STAT_D : Fld := ⟨0x044, 2, 2⟩
abbrev PCIE_LINK_b0 : Fld := ⟨0x048, 0, 3⟩
abbrev PCIE_LINK_b3 : Fld := ⟨0x048, 3, 4⟩
abbrev PCIE_LINK_LTSSM : Fld := ⟨0x048, 7, 6⟩
abbrev PCIE_ERR_CNT_b0 : Fld := ⟨0x058, 0, 16⟩
abbrev PCIE_ERR_CNT_b16 : Fld := ⟨0x058, 16, 16⟩
abbrev PCIE_CPL_CTL_b0 : Fld := ⟨0x070, 0, 4⟩
abbrev PCIE_POISON_CNT_b0 : Fld := ⟨0x07C, 0, 16⟩
abbrev PCIE_POISON_CNT_b16 : Fld := ⟨0x07C, 16, 16⟩
abbrev PCIE_HOST_LOAD_LEN : Fld := ⟨0x094, 0, 24⟩
abbrev PCIE_HOST_LOAD_GO : Fld := ⟨0x094, 31, 1⟩
abbrev MTWI_CTL_EN : Fld := ⟨0x040, 0, 1⟩
abbrev MTWI_CTL_MBOX_EN : Fld := ⟨0x040, 1, 1⟩
abbrev MTWI_CTL_STRETCH_MS : Fld := ⟨0x040, 2, 8⟩
abbrev MTWI_ADDR_b0 : Fld := ⟨0x044, 0, 7⟩
abbrev MTWI_ADDR_MADDR : Fld := ⟨0x044, 7, 3⟩
abbrev MTWI_TIM_TSU_DAT : Fld := ⟨0x048, 0, 8⟩
abbrev MTWI_TIM_THD_DAT : Fld := ⟨0x048, 8, 8⟩
abbrev MTWI_TIM_FILT : Fld := ⟨0x048, 16, 3⟩
abbrev MTWI_STAT_BUSY : Fld := ⟨0x04C, 0, 1⟩
abbrev MTWI_STAT_REFUSED : Fld := ⟨0x04C, 1, 1⟩
abbrev MTWI_STAT_TIMEOUT : Fld := ⟨0x04C, 2, 1⟩
abbrev MTWI_STAT_BAD_CMD : Fld := ⟨0x04C, 3, 1⟩
abbrev MTWI_STAT_MBOX_OVF : Fld := ⟨0x04C, 4, 1⟩
abbrev MTWI_STAT_MBOX_UNDER : Fld := ⟨0x04C, 5, 1⟩
abbrev MTWI_TXDATA_b0 : Fld := ⟨0x054, 0, 8⟩
abbrev MTWI_RXDATA_b0 : Fld := ⟨0x058, 0, 8⟩
abbrev MTWI_RXDATA_VALID : Fld := ⟨0x058, 8, 1⟩
abbrev MTWI_FIFO_STAT_b0 : Fld := ⟨0x05C, 0, 5⟩
abbrev MTWI_FIFO_STAT_b8 : Fld := ⟨0x05C, 8, 5⟩
abbrev MTWI_CNT0_b0 : Fld := ⟨0x060, 0, 16⟩
abbrev MTWI_CNT0_b16 : Fld := ⟨0x060, 16, 16⟩
abbrev MTWI_CNT1_REFUSED : Fld := ⟨0x064, 0, 8⟩
abbrev MTWI_CNT1_TIMEOUT : Fld := ⟨0x064, 8, 8⟩
abbrev MTWI_CNT1_BAD_CMD : Fld := ⟨0x064, 16, 8⟩
abbrev MTWI_CNT1_b24 : Fld := ⟨0x064, 24, 8⟩
abbrev MTWI_STRETCH_MAX_b0 : Fld := ⟨0x068, 0, 16⟩
abbrev MTWI_BUS_STAT_SCL : Fld := ⟨0x06C, 0, 1⟩
abbrev MTWI_BUS_STAT_SDA : Fld := ⟨0x06C, 1, 1⟩
abbrev MTWI_BUS_STAT_BUS_BUSY : Fld := ⟨0x06C, 2, 1⟩
abbrev TWL_CTL_EN : Fld := ⟨0x040, 0, 1⟩
abbrev TWL_CTL_CTRL_EN : Fld := ⟨0x040, 1, 1⟩
abbrev TWL_CTL_TGT_EN : Fld := ⟨0x040, 2, 1⟩
abbrev TWL_CTL_TGT_ADDR : Fld := ⟨0x040, 3, 7⟩
abbrev TWL_CTL_RETRY : Fld := ⟨0x040, 10, 4⟩
abbrev TWL_CTL_RESET : Fld := ⟨0x040, 14, 1⟩
abbrev TWL_CTL_STRETCH_MS : Fld := ⟨0x040, 16, 8⟩
abbrev TWL_TIM0_TLOW : Fld := ⟨0x044, 0, 8⟩
abbrev TWL_TIM0_THIGH : Fld := ⟨0x044, 8, 8⟩
abbrev TWL_TIM0_TSU_STA : Fld := ⟨0x044, 16, 8⟩
abbrev TWL_TIM0_THD_STA : Fld := ⟨0x044, 24, 8⟩
abbrev TWL_TIM1_TSU_STO : Fld := ⟨0x048, 0, 8⟩
abbrev TWL_TIM1_TBUF : Fld := ⟨0x048, 8, 8⟩
abbrev TWL_TIM1_TSU_DAT : Fld := ⟨0x048, 16, 8⟩
abbrev TWL_TIM1_THD_DAT : Fld := ⟨0x048, 24, 8⟩
abbrev TWL_CMD_ADDR : Fld := ⟨0x04C, 0, 7⟩
abbrev TWL_CMD_WR_LEN : Fld := ⟨0x04C, 8, 8⟩
abbrev TWL_CMD_RD_LEN : Fld := ⟨0x04C, 16, 8⟩
abbrev TWL_CMD_STOP : Fld := ⟨0x04C, 24, 1⟩
abbrev TWL_CMD_GO : Fld := ⟨0x04C, 25, 1⟩
abbrev TWL_CMD_ABORT : Fld := ⟨0x04C, 26, 1⟩
abbrev TWL_STAT_BUSY : Fld := ⟨0x050, 0, 1⟩
abbrev TWL_STAT_DONE : Fld := ⟨0x050, 1, 1⟩
abbrev TWL_STAT_NACK : Fld := ⟨0x050, 2, 1⟩
abbrev TWL_STAT_ARB_LOST : Fld := ⟨0x050, 3, 1⟩
abbrev TWL_STAT_BUS_STUCK : Fld := ⟨0x050, 4, 1⟩
abbrev TWL_STAT_TIMEOUT : Fld := ⟨0x050, 5, 1⟩
abbrev TWL_STAT_TGT_HIT : Fld := ⟨0x050, 6, 1⟩
abbrev TWL_STAT_CMD_REFUSED : Fld := ⟨0x050, 7, 1⟩
abbrev TWL_STAT_ARB_BYTE : Fld := ⟨0x050, 8, 8⟩
abbrev TWL_STAT_RETRIES : Fld := ⟨0x050, 16, 4⟩
abbrev TWL_STAT_BUS_BUSY : Fld := ⟨0x050, 20, 1⟩
abbrev TWL_STAT_CFG_REFUSED : Fld := ⟨0x050, 21, 1⟩
abbrev TWL_TXDATA_b0 : Fld := ⟨0x054, 0, 8⟩
abbrev TWL_RXDATA_b0 : Fld := ⟨0x058, 0, 8⟩
abbrev TWL_RXDATA_VALID : Fld := ⟨0x058, 8, 1⟩
abbrev TWL_FIFO_STAT_b0 : Fld := ⟨0x05C, 0, 5⟩
abbrev TWL_FIFO_STAT_b8 : Fld := ⟨0x05C, 8, 5⟩
abbrev TWL_TGT_STAT_b0 : Fld := ⟨0x060, 0, 8⟩
abbrev TWL_TGT_STAT_READ : Fld := ⟨0x060, 8, 1⟩
abbrev TWL_TGT_STAT_TGT_UNDER : Fld := ⟨0x060, 9, 1⟩
abbrev TWL_CNT_ARB_LOST : Fld := ⟨0x064, 0, 8⟩
abbrev TWL_CNT_NACK : Fld := ⟨0x064, 8, 8⟩
abbrev TWL_CNT_TIMEOUT : Fld := ⟨0x064, 16, 8⟩
abbrev TWL_CNT_b24 : Fld := ⟨0x064, 24, 8⟩
abbrev SUPV0_CTL_MERGE_EN : Fld := ⟨0x040, 0, 1⟩
abbrev SUPV0_STAT_FATAL_SEEN : Fld := ⟨0x044, 0, 1⟩
abbrev SUPV0_STAT_DEGRADED_SEEN : Fld := ⟨0x044, 1, 1⟩
abbrev SUPV0_STAT_CONTAINED_SEEN : Fld := ⟨0x044, 2, 1⟩
abbrev SUPV0_STAT_LOG_Q_LOST : Fld := ⟨0x044, 3, 1⟩
abbrev SUPV0_STAT_LOG_WRAP : Fld := ⟨0x044, 4, 1⟩
abbrev SUPV0_FAULT_CTL_DEG_EN : Fld := ⟨0x048, 0, 1⟩
abbrev SUPV0_FAULT_CTL_FATAL_EN : Fld := ⟨0x048, 1, 1⟩
abbrev SUPV0_FAULT_CTL_FAULT_CLR : Fld := ⟨0x048, 2, 1⟩
abbrev SUPV0_FAULT_STAT_ASSERTED : Fld := ⟨0x04C, 0, 1⟩
abbrev SUPV0_FAULT_STAT_DEG_CAUSE : Fld := ⟨0x04C, 1, 1⟩
abbrev SUPV0_FAULT_STAT_FATAL_CAUSE : Fld := ⟨0x04C, 2, 1⟩
abbrev SUPV0_FAULT_STAT_REQ_HOLD_CAUSE : Fld := ⟨0x04C, 3, 1⟩
abbrev SUPV0_LOG_HEAD_b0 : Fld := ⟨0x050, 0, 8⟩
abbrev SUPV0_LOG_HEAD_EMPTY : Fld := ⟨0x050, 8, 1⟩
abbrev SUPV0_LOG_SEL_b0 : Fld := ⟨0x058, 0, 8⟩
abbrev SUPV0_CNT0_CORRECTED : Fld := ⟨0x084, 0, 16⟩
abbrev SUPV0_CNT0_CONTAINED : Fld := ⟨0x084, 16, 16⟩
abbrev SUPV0_CNT1_FATAL : Fld := ⟨0x088, 0, 8⟩
abbrev SUPV0_CNT1_DEGRADED : Fld := ⟨0x088, 8, 8⟩
abbrev SUPV0_CNT1_REFUSAL : Fld := ⟨0x088, 16, 16⟩
abbrev SUPV1_CTL_LEASE_EN : Fld := ⟨0x040, 0, 1⟩
abbrev SUPV1_STAT_DRAIN_ACTIVE : Fld := ⟨0x044, 0, 1⟩
abbrev SUPV1_STAT_REVOKED_SEEN : Fld := ⟨0x044, 1, 1⟩
abbrev SUPV1_STAT_LOCK_BROKEN_SEEN : Fld := ⟨0x044, 2, 1⟩
abbrev SUPV1_LEASE_TO_DATA_MS : Fld := ⟨0x048, 0, 10⟩
abbrev SUPV1_LEASE_TO_HOST_S : Fld := ⟨0x048, 16, 10⟩
abbrev SUPV1_LOCK_TO_b0 : Fld := ⟨0x04C, 0, 16⟩
abbrev SUPV1_DRAIN_STAT_STAGE : Fld := ⟨0x050, 0, 3⟩
abbrev SUPV1_REVOKE_CNT_b0 : Fld := ⟨0x054, 0, 16⟩
abbrev SUPV1_REVOKE_CNT_b16 : Fld := ⟨0x054, 16, 16⟩
abbrev SUPV1_LAST_REVOKE_b0 : Fld := ⟨0x058, 0, 16⟩
abbrev SUPV1_LAST_REVOKE_b16 : Fld := ⟨0x058, 16, 4⟩
abbrev SUPV1_LAST_REVOKE_b20 : Fld := ⟨0x058, 20, 3⟩
abbrev SUPV1_RESERVE_STAT_b0 : Fld := ⟨0x05C, 0, 22⟩
abbrev SUPV1_LOCK_SEL_b0 : Fld := ⟨0x060, 0, 8⟩
abbrev SUPV1_LOCK_INFO_b0 : Fld := ⟨0x064, 0, 3⟩
abbrev SUPV1_LOCK_INFO_HELD : Fld := ⟨0x064, 3, 1⟩
abbrev SUPV1_LOCK_INFO_b16 : Fld := ⟨0x064, 16, 16⟩
abbrev FUSE_OPTIONS_SIGN_REQ : Fld := ⟨0x060, 0, 1⟩
abbrev FUSE_OPTIONS_TEST_LOCK : Fld := ⟨0x060, 1, 1⟩
abbrev FUSE_PCI_IDS_b0 : Fld := ⟨0x068, 0, 16⟩
abbrev FUSE_PCI_IDS_b16 : Fld := ⟨0x068, 16, 16⟩
abbrev FUSE_DIE_ID_HI_DIE_ID : Fld := ⟨0x070, 0, 16⟩
abbrev FUSE_DIE_ID_HI_REVISION : Fld := ⟨0x070, 16, 8⟩
abbrev FUSE_STAT_CRC_OK : Fld := ⟨0x074, 0, 1⟩
abbrev FUSE_STAT_b8 : Fld := ⟨0x074, 8, 8⟩
abbrev FUSE_STAT_b16 : Fld := ⟨0x074, 16, 8⟩
abbrev FUSE_PROG_CTL_b0 : Fld := ⟨0x078, 0, 9⟩
abbrev FUSE_PROG_CTL_GO : Fld := ⟨0x078, 31, 1⟩
abbrev BOOT_STAT_STEP : Fld := ⟨0x040, 0, 3⟩
abbrev BOOT_STAT_SLOT : Fld := ⟨0x040, 3, 1⟩
abbrev BOOT_STAT_HOST_IMAGE : Fld := ⟨0x040, 4, 1⟩
abbrev BOOT_STAT_VERIFIED : Fld := ⟨0x040, 5, 1⟩
abbrev BOOT_STAT_FALLBACK : Fld := ⟨0x040, 6, 1⟩
abbrev BOOT_STAT_WARM : Fld := ⟨0x040, 7, 1⟩
abbrev BOOT_STAT_BOOTSEL : Fld := ⟨0x040, 8, 2⟩
abbrev BOOT_REJECT_b0 : Fld := ⟨0x058, 0, 8⟩
abbrev BOOT_REJECT_b8 : Fld := ⟨0x058, 8, 8⟩
abbrev BOOT_REJECT_b16 : Fld := ⟨0x058, 16, 8⟩
abbrev QSPI_CTL_EN : Fld := ⟨0x040, 0, 1⟩
abbrev QSPI_CTL_DIV : Fld := ⟨0x040, 4, 4⟩
abbrev QSPI_STAT_BUSY : Fld := ⟨0x044, 0, 1⟩
abbrev QSPI_STAT_PROT_REFUSED : Fld := ⟨0x044, 1, 1⟩
abbrev QSPI_STAT_DONE : Fld := ⟨0x044, 2, 1⟩
abbrev QSPI_STAT_POLL_TIMEOUT : Fld := ⟨0x044, 3, 1⟩
abbrev QSPI_CMD_OPCODE : Fld := ⟨0x048, 0, 8⟩
abbrev QSPI_CMD_b8 : Fld := ⟨0x048, 8, 2⟩
abbrev QSPI_CMD_b10 : Fld := ⟨0x048, 10, 5⟩
abbrev QSPI_CMD_b15 : Fld := ⟨0x048, 15, 2⟩
abbrev QSPI_CMD_WRITE_OP : Fld := ⟨0x048, 17, 1⟩
abbrev QSPI_CMD_GO : Fld := ⟨0x048, 31, 1⟩
abbrev QSPI_LEN_b0 : Fld := ⟨0x050, 0, 9⟩
abbrev QSPI_FIFO_STAT_b0 : Fld := ⟨0x058, 0, 9⟩
abbrev QSPI_FLASH_ID_JEDEC : Fld := ⟨0x064, 0, 24⟩
abbrev QSPI_POLL_EN : Fld := ⟨0x068, 0, 1⟩
abbrev QSPI_POLL_b8 : Fld := ⟨0x068, 8, 8⟩
abbrev QSPI_CNT_b0 : Fld := ⟨0x06C, 0, 16⟩
abbrev QSPI_CNT_b16 : Fld := ⟨0x06C, 16, 16⟩
abbrev HLTH_CTL_EN : Fld := ⟨0x040, 0, 1⟩
abbrev HLTH_CTL_b1 : Fld := ⟨0x040, 1, 1⟩
abbrev HLTH_STAT_CAL_FAIL : Fld := ⟨0x044, 0, 1⟩
abbrev HLTH_STAT_TEMP_WARN : Fld := ⟨0x044, 1, 1⟩
abbrev HLTH_STAT_SUPPLY_WARN : Fld := ⟨0x044, 2, 1⟩
abbrev HLTH_STAT_HR_LOW : Fld := ⟨0x044, 3, 1⟩
abbrev HLTH_STAT_HR_CRIT : Fld := ⟨0x044, 4, 1⟩
abbrev HLTH_TEMP_SEL_b0 : Fld := ⟨0x048, 0, 4⟩
abbrev HLTH_TEMP_b0 : Fld := ⟨0x04C, 0, 10⟩
abbrev HLTH_TEMP_b16 : Fld := ⟨0x04C, 16, 10⟩
abbrev HLTH_TEMP_LIM_WARN : Fld := ⟨0x050, 0, 8⟩
abbrev HLTH_TEMP_LIM_CRIT : Fld := ⟨0x050, 8, 8⟩
abbrev HLTH_TEMP_LIM_HYST : Fld := ⟨0x050, 16, 8⟩
abbrev HLTH_SUP_SEL_b0 : Fld := ⟨0x054, 0, 3⟩
abbrev HLTH_SUP_b0 : Fld := ⟨0x058, 0, 12⟩
abbrev HLTH_SUP_b16 : Fld := ⟨0x058, 16, 12⟩
abbrev HLTH_BG_b0 : Fld := ⟨0x05C, 0, 16⟩
abbrev HLTH_BG_BG_WARN : Fld := ⟨0x05C, 16, 1⟩
abbrev HLTH_CAL_CTL_ITEM : Fld := ⟨0x060, 0, 4⟩
abbrev HLTH_CAL_CTL_GO : Fld := ⟨0x060, 8, 1⟩
abbrev HLTH_CAL_CTL_RESULT : Fld := ⟨0x060, 12, 2⟩
abbrev HLTH_CAL_STAT_b0 : Fld := ⟨0x064, 0, 4⟩
abbrev HLTH_CAL_STAT_b4 : Fld := ⟨0x064, 4, 12⟩
abbrev HLTH_CAL_STAT_b16 : Fld := ⟨0x064, 16, 3⟩
abbrev HLTH_HR_STAT_RATE : Fld := ⟨0x068, 0, 16⟩
abbrev HLTH_HR_STAT_NEED : Fld := ⟨0x068, 16, 16⟩
abbrev HLTH_AVS_CTL_EN : Fld := ⟨0x06C, 0, 1⟩
abbrev HLTH_AVS_CTL_ADDR : Fld := ⟨0x06C, 1, 7⟩
abbrev HLTH_AVS_CTL_STEP_MV : Fld := ⟨0x06C, 8, 5⟩
abbrev HLTH_AVS_TGT_TARGET : Fld := ⟨0x070, 0, 16⟩
abbrev HLTH_AVS_TGT_HYST : Fld := ⟨0x070, 16, 16⟩
abbrev HLTH_AVS_LIM_VMIN : Fld := ⟨0x074, 0, 10⟩
abbrev HLTH_AVS_LIM_VMAX : Fld := ⟨0x074, 16, 10⟩
abbrev HLTH_AVS_STAT_b0 : Fld := ⟨0x078, 0, 10⟩
abbrev HLTH_AVS_STAT_READ_VOUT : Fld := ⟨0x078, 16, 10⟩
abbrev HLTH_AVS_STAT_b26 : Fld := ⟨0x078, 26, 3⟩
abbrev HLTH_AVS_STAT_LOST : Fld := ⟨0x078, 29, 1⟩
abbrev HLTH_MBIST_CTL_GO : Fld := ⟨0x07C, 0, 1⟩
abbrev HLTH_MBIST_CTL_PATTERN : Fld := ⟨0x07C, 1, 2⟩
abbrev HLTH_MBIST_RANGE_BASE : Fld := ⟨0x080, 0, 11⟩
abbrev HLTH_MBIST_RANGE_SIZE : Fld := ⟨0x080, 16, 11⟩
abbrev HLTH_MBIST_STAT_STATE : Fld := ⟨0x084, 0, 2⟩
abbrev HLTH_MBIST_STAT_RESULT : Fld := ⟨0x084, 2, 3⟩
abbrev HLTH_MBIST_STAT_b8 : Fld := ⟨0x084, 8, 24⟩
abbrev HLTH_MBIST_FIRST_b0 : Fld := ⟨0x088, 0, 31⟩
abbrev HLTH_MBIST_FIRST_VALID : Fld := ⟨0x088, 31, 1⟩
abbrev HLTH_CNT_b0 : Fld := ⟨0x08C, 0, 16⟩
abbrev HLTH_CNT_b16 : Fld := ⟨0x08C, 16, 8⟩
abbrev HLTH_CNT_NO_AGREE : Fld := ⟨0x08C, 24, 8⟩
abbrev TST_TAP_STAT_b0 : Fld := ⟨0x044, 0, 8⟩
abbrev TST_TAP_STAT_TAP : Fld := ⟨0x044, 8, 4⟩
abbrev TST_TAP_STAT_b12 : Fld := ⟨0x044, 12, 1⟩
abbrev TST_STAT_TAKEOVER_SEEN : Fld := ⟨0x048, 0, 1⟩
abbrev TST_STAT_TEST_LOCK : Fld := ⟨0x048, 1, 1⟩
abbrev TST_STAT_b2 : Fld := ⟨0x048, 2, 1⟩
abbrev HDR_PAGE_ID_BLOCK : Fld := ⟨0x000, 0, 8⟩
abbrev HDR_PAGE_ID_INSTANCE : Fld := ⟨0x000, 8, 4⟩
abbrev HDR_PAGE_ID_VERSION : Fld := ⟨0x000, 12, 8⟩
abbrev HDR_PAGE_CTL_EN : Fld := ⟨0x004, 0, 1⟩
abbrev HDR_PAGE_CTL_SRST : Fld := ⟨0x004, 1, 1⟩
abbrev HDR_PAGE_STAT_BUSY : Fld := ⟨0x008, 0, 1⟩
abbrev HDR_PAGE_STAT_ERR : Fld := ⟨0x008, 1, 1⟩
abbrev HDR_PAGE_STAT_COMMIT_PENDING : Fld := ⟨0x008, 2, 1⟩
abbrev HDR_PAGE_STAT_REFUSED : Fld := ⟨0x008, 3, 1⟩
abbrev HDR_PAGE_STAT_GEN : Fld := ⟨0x008, 16, 16⟩
abbrev HDR_COMMIT_REQ : Fld := ⟨0x01C, 0, 1⟩
abbrev HDR_COMMIT_AT : Fld := ⟨0x01C, 1, 3⟩
abbrev HDR_COMMIT_PENDING : Fld := ⟨0x01C, 4, 1⟩
abbrev HDR_COMMIT_DROPPED : Fld := ⟨0x01C, 5, 1⟩
abbrev HDR_COMMIT_REFUSED : Fld := ⟨0x01C, 6, 1⟩
abbrev SYS_DEV_ID_b0 : Fld := ⟨0x090, 0, 16⟩
abbrev SYS_DEV_ID_REVISION : Fld := ⟨0x090, 16, 8⟩
abbrev SYS_CMT_SEL_b0 : Fld := ⟨0x094, 0, 8⟩
abbrev SYS_CMT_SEL_b8 : Fld := ⟨0x094, 8, 2⟩
abbrev SYS_CMT_STAT_GEN : Fld := ⟨0x098, 0, 16⟩
abbrev SYS_CMT_STAT_AT : Fld := ⟨0x098, 16, 3⟩
abbrev SYS_CMT_STAT_LINE_VALID : Fld := ⟨0x098, 19, 1⟩
abbrev SYS_CMT_STAT_RECORDED : Fld := ⟨0x098, 20, 1⟩
abbrev SYS_CMT_LINE_HI_b0 : Fld := ⟨0x0A0, 0, 16⟩
abbrev CLK_LOCK1_b0 : Fld := ⟨0x044, 0, 8⟩
abbrev CLK_LOST1_b0 : Fld := ⟨0x04C, 0, 8⟩
abbrev CLK_FREQ_b0 (k : Nat) : Fld := ⟨0x050 + 0x4 * k, 0, 20⟩
abbrev PINS0_PULSE_OE_b0 : Fld := ⟨0x040, 0, 24⟩
abbrev PINS0_PULSE_SAFE_b0 : Fld := ⟨0x044, 0, 24⟩
abbrev PINS0_PULSE_GUARD_b0 : Fld := ⟨0x048, 0, 24⟩
abbrev PINS0_PULSE_DRV1_b0 : Fld := ⟨0x050, 0, 16⟩
abbrev PINS0_PULSE_SLEW_b0 : Fld := ⟨0x054, 0, 24⟩
abbrev PINS0_PULSE_OD_b0 : Fld := ⟨0x058, 0, 24⟩
abbrev PINS0_PULSE_LEVEL_b0 : Fld := ⟨0x05C, 0, 24⟩
abbrev PINS0_PULSE_MAN_b0 : Fld := ⟨0x060, 0, 24⟩
abbrev PINS0_PULSE_MAN_EN_b0 : Fld := ⟨0x064, 0, 24⟩
abbrev PINS0_ENC_CTL_b0 : Fld := ⟨0x068, 0, 6⟩
abbrev PINS0_IN_LEVEL_ENC : Fld := ⟨0x06C, 0, 6⟩
abbrev PINS0_IN_LEVEL_PPS_IN : Fld := ⟨0x06C, 6, 1⟩
abbrev PINS0_IN_LEVEL_DECSYNC : Fld := ⟨0x06C, 7, 1⟩
abbrev PINS0_IN_LEVEL_BOOTSEL : Fld := ⟨0x06C, 8, 2⟩
abbrev PINS0_IN_LEVEL_MADDR : Fld := ⟨0x06C, 10, 3⟩
abbrev PINS0_MISC_DRV_PPS_OUT : Fld := ⟨0x070, 0, 2⟩
abbrev PINS0_MISC_DRV_CFG_DRV : Fld := ⟨0x070, 2, 2⟩
abbrev PINS0_PIN_STAT_SAFE_ACTIVE : Fld := ⟨0x074, 0, 1⟩
abbrev PINS0_PIN_STAT_MAN_REFUSED : Fld := ⟨0x074, 1, 1⟩
abbrev PINS0_PIN_STAT_GUARD_REFUSED : Fld := ⟨0x074, 2, 1⟩
abbrev PINS1_EVIO_OE_b0 : Fld := ⟨0x040, 0, 16⟩
abbrev PINS1_EVIO_SAFE_b0 : Fld := ⟨0x044, 0, 16⟩
abbrev PINS1_EVIO_GUARD_b0 : Fld := ⟨0x048, 0, 16⟩
abbrev PINS1_EVIO_OD_b0 : Fld := ⟨0x050, 0, 16⟩
abbrev PINS1_EVIO_FILT_FILT : Fld := ⟨0x058, 0, 3⟩
abbrev PINS1_EVIO_LEVEL_b0 : Fld := ⟨0x05C, 0, 16⟩
abbrev PINS1_EVIO_MAN_b0 : Fld := ⟨0x060, 0, 16⟩
abbrev PINS1_EVIO_MAN_EN_b0 : Fld := ⟨0x064, 0, 16⟩
abbrev PINS1_TWI_PULL_b0 : Fld := ⟨0x068, 0, 5⟩
abbrev PINS1_QSPI_DRV_QSPI_CLK : Fld := ⟨0x06C, 0, 2⟩
abbrev PINS1_QSPI_DRV_IO : Fld := ⟨0x06C, 2, 2⟩
abbrev PINS1_QSPI_DRV_b4 : Fld := ⟨0x06C, 4, 1⟩
abbrev PINS1_BANK_STAT_VDD_IO33 : Fld := ⟨0x070, 0, 1⟩
abbrev PINS1_BANK_STAT_VDD_IO18 : Fld := ⟨0x070, 1, 1⟩
abbrev HDR_OWNER_CODE : Fld := ⟨0x014, 0, 3⟩
abbrev HDR_OWNER_GUARD : Fld := ⟨0x014, 3, 1⟩
abbrev HDR_OWNER_PERMIT : Fld := ⟨0x014, 8, 8⟩
abbrev HDR_LOCK_ACQUIRE : Fld := ⟨0x018, 0, 1⟩
abbrev HDR_LOCK_RELEASE : Fld := ⟨0x018, 1, 1⟩
abbrev HDR_LOCK_HOLDER : Fld := ⟨0x018, 4, 3⟩
abbrev HDR_LOCK_HELD : Fld := ⟨0x018, 7, 1⟩
end Fd

end Sys2Proof.Machine
end

