-- ==== Sys2Proof/Machine/RegView.lean ====
section
/-!
DEFINITION. What a register of BAR0 holds at reset and which of its bits carry an access code (R4, R660, R663).
-/
namespace Sys2Proof.Machine

/-- The register defined at a BAR0 offset, if any (R658, R660). -/
def regDefAt (a : Nat) : Option RegDef :=
  match pageAt (a / 4096) with
  | none => none
  | some (k, _) => (if a % 4096 < 0x40 then hdrRegs else kindRegs k).find? fun r => r.off == a % 4096

/-- PAGE_ID of a page (Table — PAGE_ID): BLOCK, INSTANCE and VERSION = 1. -/
def pageIdOf (p : Nat) : Word :=
  match pageAt p with
  | none => 0
  | some (k, n) => BitVec.ofNat 32 (firstPage k + 256 * n + 4096)

/-- What a BAR0 offset holds at reset: the value of its page's table, 0 where no register is defined (R8, R658). OWNER
reads 0 until the configuration image sets it (R663). -/
def regReset (a : Nat) : Word :=
  if a % 4096 = Rg.HDR_PAGE_ID then pageIdOf (a / 4096)
  else match regDefAt a with
    | none => 0
    | some r => r.reset

/-- W1C bits of a STAT register that report a success: DONE and TGT_HIT of TWLn, DONE of QSPI, SYNC_SEEN of DEC. -/
def benignFlags (k : PageKind) : Nat :=
  match k with
  | .twl => 0x42
  | .qspi => 0x04
  | .dec => 0x01
  | _ => 0

/-- The error flags of a page: the offset and the W1C bits of its block's STAT register (Table — PAGE_STAT, ERR). -/
def errFlags (p : Nat) : Option (Nat × Nat) :=
  match pageAt p with
  | none => none
  | some (k, _) =>
    match statOff k with
    | none => none
    | some o =>
      match regDefAt (p * 4096 + o) with
      | none => none
      | some r => some (o, r.w1c.toNat - (r.w1c.toNat &&& benignFlags k))

/-- The value of an RWS register's shadow copy at reset: its reset value (R4). -/
abbrev shadowReset : Nat → Word := regReset

end Sys2Proof.Machine
end

