-- ==== Sys2Proof/Machine/Tab.lean ====
section
/-!
DEFINITION. Sparse tables and memories: a list of (key, value) pairs in one canonical form, keys strictly rising and no
entry equal to what its key reads as when it is not listed. Equal tables are equal lists.
-/
namespace Sys2Proof.Machine

/-- A sparse table: key and value, keys strictly rising. -/
abbrev Tab (α : Type) := List (Nat × α)

/-- What a key reads as: the listed value, or the default `d` of the key. -/
def tabGet (d : Nat → α) : Tab α → Nat → α
  | [], k => d k
  | (j, v) :: t, k => if k < j then d k else if k = j then v else tabGet d t k

/-- Whether a list of entries starts past a key, as the rest of a table does behind the key's entry. -/
def tabPast (k : Nat) : Tab α → Bool
  | [] => true
  | (j, _) :: _ => decide (k < j)

/-- The table with one key written; a value equal to the key's default removes the entry. -/
def tabPut [DecidableEq α] (d : Nat → α) (k : Nat) (v : α) : Tab α → Tab α
  | [] => if v = d k then [] else [(k, v)]
  | (j, w) :: t =>
    if k < j then (if v = d k then (j, w) :: t else (k, v) :: (j, w) :: t)
    else if k = j then (if v = d k ∧ tabPast k t then t else (k, v) :: t)
    else (j, w) :: tabPut d k v t

/-- Every listed key is at least `lo`, keys rise strictly and no entry equals its key's default. -/
def tabOkFrom [DecidableEq α] (d : Nat → α) (lo : Nat) : Tab α → Bool
  | [] => true
  | (j, v) :: t => decide (lo ≤ j) && decide (v ≠ d j) && tabOkFrom d (j + 1) t

/-- The canonical form of a table. -/
def tabOk [DecidableEq α] (d : Nat → α) (t : Tab α) : Bool := tabOkFrom d 0 t

/-- The table with every listed entry of the keys from `lo` to below `hi` returned to its default. -/
def tabClear (lo hi : Nat) (t : Tab α) : Tab α := t.filter fun e => decide (e.1 < lo) || decide (hi ≤ e.1)

/-- The table with `f` done to every listed value. -/
def tabMap [DecidableEq α] (d : Nat → α) (f : α → α) (t : Tab α) : Tab α := (t.map fun e => (e.1, f e.2)).filter fun e => e.2 ≠ d e.1

/-- The table with consecutive keys from `k` written in turn. -/
def tabPutList [DecidableEq α] (d : Nat → α) (k : Nat) : List α → Tab α → Tab α
  | [], t => t
  | v :: r, t => tabPutList d (k + 1) r (tabPut d k v t)

/-- The `n` consecutive values from key `k`. -/
def tabGetList (d : Nat → α) (t : Tab α) (k : Nat) : Nat → List α
  | 0 => []
  | n + 1 => tabGet d t k :: tabGetList d t (k + 1) n

/-- A constant default. -/
abbrev dflt (a : α) : Nat → α := fun _ => a

end Sys2Proof.Machine
end

