-- ==== Sys2Proof/Machine/State.lean ====
section
/-!
DEFINITION. The state of the WX16 as plain data. Every register of BAR0 has one home in `State.regs` (values in force)
and, for RWS registers, a shadow in `State.shadow`; everything else the chapters give the blocks stands in the structures
below. Indexed state is a sparse table whose unlisted keys read as the value at reset.
-/
namespace Sys2Proof.Machine

/-- Why a command stops the machine: none does. The WX16 goes on after every error that its specification names, in HOLD if the error
is FATAL (R69), and no operand of a command names a unit that it lacks. -/
inductive Fault where
deriving DecidableEq, Repr

/-- Why a command is refused. -/
inductive Refusal where
  /-- Raised by a dispatch arm whose command has no meaning yet; every command has one, so that none raises it. Safe. -/
  | notModelled (mnemonic : String)
deriving DecidableEq, Repr

/-- The operating modes of R62. -/
inductive Mode where
  | boot | idle | setup | learn | inspect | changeover | legacy | hold
deriving DecidableEq, Repr

/-- The stamp of an event (R461): a device time in ns, with the view and line of a LINE stamp, and the hop count of R476
with its origin channel. -/
structure Stamp where
  time   : Nat
  line   : Option (Nat × Nat) := none
  hop    : Nat := 0
  origin : Option Nat := none
deriving DecidableEq, Repr

/-- An entry of the error log (R603). -/
structure LogEntry where
  seq   : Nat
  code  : Nat
  cls   : Nat
  page  : Nat
  time  : Nat
  line  : Option (Nat × Nat)
  count : Nat
  arg0  : Nat
  arg1  : Nat
deriving DecidableEq, Repr

/-- A word of the queue store: data, tag, frame marks and the stored parity bit (R479). -/
structure QWord where
  data   : Word64
  tag    : Nat
  sof    : Bool
  eof    : Bool
  parity : Bool
deriving DecidableEq, Repr

/-- What leaves the chip, newest last: the model's record of its outputs. -/
inductive Output where
  /-- A trigger on a port's uplink (R152): its symbols, and how many symbols of the port's uplink packet before it were still to leave,
which then follow it (R153). -/
  | trigger (port : Nat) (syms : List ObvSym) (rest : Nat)
  /-- An uplink packet of a port (R147): its symbols. -/
  | uplink (port : Nat) (syms : List ObvSym)
  /-- An MSI-X message of a vector (R579). -/
  | msix (vector : Nat)
  /-- A frame launched on an Ethernet port from a queue, by its words (R448). -/
  | frame (port : Nat) (words : List Word64)
  /-- PPS_OUT rises at a whole second of device time (R445). -/
  | ppsOut (second : Nat)
  /-- A PTP message of a port: messageType, sequence number and its time and dataset fields in the order of its meaning. -/
  | ptp (port type seq : Nat) (fields : List Nat)
  /-- A word delivered to the consumer of a queue (R485), or a poll's answer (R487). -/
  | word (queue : Nat) (w : QWord)
  /-- Bytes that a two-wire target sends: page of the block and data. -/
  | twoWire (page : Nat) (data : List Byte)
  /-- An ARP packet on a port: operation, target MAC and address (R555). -/
  | arp (port op mac ip : Nat)
  /-- A UDP datagram on a port to an address: source and destination port and data (R569, R574). -/
  | udp (port ip sport dport : Nat) (data : List Byte)
  /-- An ICMP echo reply on a port: address, identifier, sequence number and data (R552). -/
  | echo (port ip id seq : Nat) (data : List Byte)
  /-- The completion of a host read of BAR2: address, data and whether it is poisoned (R578). -/
  | completion (addr : Nat) (data : List Byte) (poisoned : Bool)
  /-- DMA data written to host memory at a bus address (R504). -/
  | hostWrite (addr : Nat) (data : List Byte)
  /-- A command sent to the flash (R640): opcode, address if it has one, and the bytes sent. -/
  | flash (opcode : Nat) (addr : Option Nat) (data : List Byte)
  /-- The data of a register read by an owner: BAR0 offset and value. -/
  | readData (owner addr : Nat) (value : Word)
deriving DecidableEq, Repr

/-! ### Position (R97-R122) -/

/-- A position channel's internal state. -/
structure Chan where
  /-- Net forward counts since reset, the travel count of R399. -/
  travel  : Int := 0
  /-- Sample and direction (reverse?) of the last count, none before the first since standstill (R111). -/
  last    : Option (Nat × Bool) := none
  /-- The averaging window's periods, newest first (R109). -/
  window  : List Nat := []
  /-- Whether a HOME index has been seen since reset or since HOME was selected (R106). -/
  homed   : Bool := false
  /-- Whether a wrap has occurred since that index (R106). -/
  wrapped : Bool := false
  /-- The sample of the last count that wrapped the counter (R107). -/
  wrapAt  : Option Nat := none
  /-- The last SSI reading (R103). -/
  ssi     : Option Nat := none
  /-- Counts of the last SSI read that are still to be replayed: sample and direction (reverse?) (R103). -/
  replay  : List (Nat × Bool) := []
  /-- The latest sample seen, for the travel and time of a count (R400). -/
  now     : Nat := 0
deriving DecidableEq, Repr

/-- What is kept of a web line of a view (R30, R119, R399): its position sampling cycle, its capture time in ns, the travel
count at its trigger, and whether it was skipped. -/
structure LineRec where
  cycle   : Nat
  time    : Nat
  travel  : Int
  skipped : Bool
deriving DecidableEq, Repr

/-- A trigger generator's internal state. -/
structure TrigGen where
  /-- The accumulator of R116 in units of 2^-16 counts. -/
  acc     : Int := 0
  /-- The trigger that is due and not issued: its line number, the cycle it goes out at, the travel at its due count. -/
  waiting : Option (Nat × Nat × Int) := none
  /-- Skipped triggers behind it (R119): line number, cycle, travel. -/
  skipq   : List (Nat × Nat × Int) := []
  /-- The web line number the next trigger takes (R12). -/
  next    : Nat := 0
  /-- The cycle of the last issued trigger (R119). -/
  issued  : Option Nat := none
  /-- Whether the generator is running (R116, R117). -/
  running : Bool := false
  /-- Whether a trigger has fallen due since it started (R278). -/
  anyDue  : Bool := false
  /-- The last 16,384 lines (R399). -/
  hist    : Tab (Option LineRec) := []
  /-- The line field of TGv_LINE_HI as last latched (R122). -/
  latchHi : Nat := 0
deriving DecidableEq, Repr

/-! ### Obver link and lane receivers (R123-R202) -/

/-- The outstanding camera register request of a port (R151). -/
structure CamReq where
  tag   : Nat
  addr  : Nat
  /-- Whether it is a host request through CAM_ACC, or a read of an identity register (R164). -/
  host  : Bool
  /-- The data of a REG_WRITE. -/
  write : Option Nat := none
deriving DecidableEq, Repr

/-- A port's link state beside its CP page. -/
structure Link where
  /-- Identity registers read in BASE, by index 0 to 7 (R164). -/
  ident   : Tab Nat := []
  /-- How many identity registers of this bring-up have been read. -/
  identN  : Nat := 0
  req     : Option CamReq := none
  /-- The last register request tag. -/
  tag     : Nat := 0
  hbCount : Nat := 0
  /-- Whether the last heartbeat has been answered. -/
  hbSeen  : Bool := true
  /-- Whether the camera had to answer the last heartbeat when it was sent (R149). -/
  hbDue   : Bool := false
  /-- The host's request that waits behind an outstanding one, as CAM_ACC and CAM_DATA stood at its GO (R151): address and the data to write. -/
  want    : Option (Nat × Option Nat) := none
  /-- Last accepted line number plus 1, per tap (R170). -/
  lastAcc : Tab Nat := []
  /-- The last trigger sent plus 1 (R170). -/
  lastTrig : Nat := 0
  /-- Consecutive markers aligned on all lanes (R166). -/
  goodMarks : Nat := 0
  /-- Consecutive bad marker positions of each lane (R133). -/
  badMarks : Tab Nat := []
  /-- TRAIN_CTL as it stood at the entry into TRAIN (R201). -/
  trainCtl : Word := 0
deriving DecidableEq, Repr

/-- Where the search of a lane's transmitter setting stands (R176). -/
inductive TrainPhase where
  | idle
  /-- The preset sweep: the preset under evaluation. -/
  | sweep (p : Nat)
  /-- FIXED mode: the one preset. -/
  | fixed
  /-- The best preset has been sent again. -/
  | back
  /-- The step search probes a direction, 0 POST_INC, 1 POST_DEC, 2 PRE_INC, 3 PRE_DEC. -/
  | probe (dir : Nat)
  /-- A probe of this direction is being reverted. -/
  | revert (dir : Nat)
  /-- The best setting seen has been sent for one evaluation through the Joker (R179). -/
  | joker
  /-- DONE has been sent. -/
  | finish
  /-- The lane is trained and given DONE. -/
  | trained
deriving DecidableEq, Repr

/-- A lane's training state (R160-R162, R174-R179). -/
structure Train where
  phase  : TrainPhase := .idle
  /-- The EQ_REQ outstanding: tag, request code, preset, sends so far. -/
  out    : Option (Nat × Nat × Nat × Nat) := none
  /-- The last tag used. -/
  tag    : Nat := 0
  /-- The best working preset and its merit. -/
  best   : Option (Nat × Nat) := none
  /-- The best preset seen, working or not, and its merit (R179). -/
  seen   : Option (Nat × Nat) := none
  /-- The merit of the setting in force in the step search. -/
  merit  : Nat := 0
  probes : Nat := 0
  /-- Directions that improved in this pass. -/
  better : List Nat := []
  /-- Whether a training scan of the lane is due, or running (R174). -/
  scanDue : Bool := false
  scanning : Bool := false
deriving DecidableEq, Repr

/-- Where a recalibration through the Joker of a quad stands (R189). -/
inductive Handover where
  | none
  /-- The Joker calibrates itself before it enters STANDBY (R188): for a recalibration that waits for it (t0), or only to stand by. -/
  | selfCal (recal : Bool)
  /-- t0 to t2: the Joker is connecting to the lane and matching. -/
  | matching
  /-- t2 to t3: matched, waiting for a marker. -/
  | takeover
  /-- t3 to t4: the Joker carries the lane, the main slice calibrates. -/
  | calibrating
  /-- t4 to t5: the main slice adapts and matches. -/
  | adapting
  /-- t5 to t6: the main slice matches, waiting for a marker. -/
  | handback
deriving DecidableEq, Repr

/-- The Joker of a quad beside its JOKER_STAT. -/
structure Joker where
  stage   : Handover := .none
  /-- The lane being recalibrated. -/
  lane    : Nat := 0
  /-- Whether it is a RELEASE of a substituted lane (R195), or a substitution by FORCE (R197). -/
  release : Bool := false
  force   : Bool := false
  /-- Lanes whose recalibration waits, as a mask (R191). -/
  waiting : Nat := 0
  /-- Temperature at the quad at each lane's last calibration, a 10-bit pattern in 0.25 °C (R189). -/
  calTemp : Tab Nat := []
  /-- The equaliser codes of the quad's slices (R172): the main slices by their lanes, the Joker as number 4. -/
  codes   : Tab EqCodes := []
deriving DecidableEq, Repr

/-- A calibration in progress (R641): attempts made so far, and whether a requested run waits behind it (R644). -/
structure CalRun where
  attempts  : Nat := 0
  requested : Bool := false
  waits     : Bool := false
deriving DecidableEq, Repr

/-- The health monitors beside the HLTH page (R641-R653). -/
structure Health where
  /-- Sensor readings, 10-bit patterns in 0.25 °C. -/
  temp   : Tab Nat := []
  /-- Rail readings and the lowest since SUP was read, mV. -/
  sup    : Tab (Nat × Nat) := []
  /-- Consecutive readings at or above CRIT, and outside a rail's fault window. -/
  crit   : Nat := 0
  bad    : Tab Nat := []
  /-- Raw ns of a rail's last SUPPLY_WARN, plus 1. -/
  warnAt : Tab Nat := []
  /-- Calibrations running: 0 to 2 by number, others by 64 × number + unit. -/
  cal    : Tab (Option CalRun) := []
  /-- Lowest RATE of the running 1 ms period. -/
  low    : Option Nat := none
  /-- Consecutive periods with r above TARGET + HYST. -/
  high   : Nat := 0
  /-- The regulator's VOUT_MODE exponent, once it has been read since BOOT was left, and whether v has been read since enable (R597,
  R651). -/
  expo   : Option Int := none
  known  : Bool := false
  /-- The value last commanded, mV (R648), and what is retried: 1 VOUT_COMMAND, 2 READ_VOUT (R652). -/
  vcmd   : Nat := 800
  retry  : Nat := 0
  /-- The instruction that takes the pins at the test access port (R656). -/
  tap    : Nat := 1
deriving DecidableEq, Repr

/-! ### Timebase (R431-R441) -/

/-- The timebase beside its TB page: the internal values of R432 and the servo. -/
structure Timebase where
  /-- OFFSET in force, ns. -/
  offset : Nat := 0
  /-- F of R432, units of 2^-16 ns. -/
  f16    : Int := 0
  /-- ANCHOR of R432, raw units. -/
  anchor : Nat := 0
  /-- RATE in force, units of 2^-48. -/
  rate   : Int := 0
  /-- The servo's integral term f (R440). -/
  f      : Int := 0
  /-- Whether no valid edge has arrived since the step. -/
  fresh  : Bool := true
  /-- Consecutive valid edges within LOCK_NS (R441). -/
  good   : Nat := 0
  /-- Raw ns of the last active edge, and the length of its series of edges 1 s apart (R438). -/
  lastEdge : Option Nat := none
  series : Nat := 0
  /-- Edges ignored (R438). -/
  bad    : Nat := 0
  /-- The time of day armed, in TAI seconds, and the raw ns of its arming (R439). -/
  tod    : Option (Nat × Nat) := none
  /-- Next sequence number by port × 16 + messageType. -/
  seq    : Tab Nat := []
  /-- The second in which a port last answered a delay request, and its answers in it (R443). -/
  answered : Tab (Nat × Nat) := []
deriving DecidableEq, Repr

/-! ### Carillon and pins (R446-R458, R696, R697) -/

/-- A pending entry of the dynamic calendar (R455). -/
structure CalEntry where
  num    : Nat
  t      : Nat
  action : Nat
  pulse  : Nat
  width  : Nat
  qidx   : Nat
  port   : Nat
deriving DecidableEq, Repr

/-- The Carillon beside its CRL page and its banks. -/
structure Carillon where
  /-- Device time at which the current cycle of the active bank starts, ns (CUR_START). -/
  start   : Nat := 0
  /-- Pending calendar entries in insertion order. -/
  entries : List CalEntry := []
  /-- The next insertion number. -/
  nextNum : Nat := 0
  /-- F of the last entry fired, by output: pin, or 32 + 1,024 × port + queue index (R456). -/
  lastF   : Tab Nat := []
  /-- The boundary of a pending bank switch, device ns (R452). -/
  switchAt : Nat := 0
  /-- Active pulse intervals: pin and end, device ns (R447). -/
  pulses  : List (Nat × Nat) := []
  /-- Slots of the active bank that have fired in the current cycle. -/
  fired   : List Nat := []
  /-- Deferred slot writes in arrival order: window offset and word (R451). -/
  deferred : List (Nat × Word) := []
  /-- Device time at which the launched frame in progress ends, by Ethernet port (R448). -/
  busyTo  : Tab Nat := []
deriving DecidableEq, Repr

/-- The EVIO pins: input samples, output levels set by tasks, and active task pulses with their ends (R468). -/
structure Evio where
  input  : Nat := 0
  level  : Nat := 0
  pulses : List (Nat × Nat) := []
deriving DecidableEq, Repr

/-- An occurrence at a task input: the task, the channel that delivers it and its stamp. -/
structure Occ where
  task  : Nat
  chan  : Nat
  stamp : Stamp
deriving DecidableEq, Repr

/-- The event fabric beside its page and its window (R468-R476). -/
structure Fabric where
  /-- Occurrences on their way to the tasks, a list for each fabric round, oldest first. -/
  occ   : List (List Occ) := []
  /-- The remembered occurrence of a task (R473). -/
  pend  : Tab (Option Occ) := []
  /-- Occurrences of RELAY tasks to be re-emitted, oldest first (R476). -/
  relay : List Occ := []
  /-- Occurrences of DATA tasks whose effect is still to come, oldest first (R470). -/
  data  : List Occ := []
  /-- The calendar entry that a PULSE task has inserted, and once it has fired the end of its pulse (R468). -/
  pulseNum : Tab (Option Nat) := []
  pulseEnd : Tab Nat := []
deriving DecidableEq, Repr

/-! ### External memory (R509-R532) -/

/-- A memory controller beside its MC page. -/
structure Mc where
  /-- Open rows, by bank: rank × 16 + bank × 4 + bank group (R512, R516). -/
  open_  : Tab (Option Nat) := []
  /-- Uncorrected errors since MARGIN_LOST was set (R530). -/
  ue     : Nat := 0
  /-- Raw second of the last MEM_CE logged, plus 1 (R525). -/
  ceAt   : Nat := 0
  /-- Accumulated tracking movement of the two byte lanes, in steps (R528). -/
  move0  : Int := 0
  move1  : Int := 0
  /-- Ports in panic on the channel (R517). -/
  panic  : List Nat := []
  /-- Row openings deferred for a panic, less those counted in PANIC_CNT by 1,024 (R517). -/
  defer  : Nat := 0
  /-- Dead rounds of the channel's arbiter (R255). -/
  dead   : Nat := 0
deriving DecidableEq, Repr

/-- What the memory controllers share. -/
structure Mcg where
  /-- Windows since the last tracking window (R521). -/
  windows : Nat := 0
  /-- Whether the refresh interval is halved by MR4 (R520), and consecutive cool MR4 reads. -/
  hot     : Bool := false
  cool    : Nat := 0
deriving DecidableEq, Repr

/-! ### DMA (R498-R507) -/

/-- A DMA channel beside its register sets. -/
structure DmaCh where
  /-- 0 IDLE, 1 RUNNING, 2 PAUSED, 3 ERROR. -/
  state   : Nat := 0
  /-- The set that is or was last active; none before the first (R502). -/
  active  : Option Nat := none
  armed   : Bool := false
  pause   : Bool := false
  abort   : Bool := false
  busyHit : Bool := false
  refused : Bool := false
  cause   : Nat := 0
  /-- Bursts visible since the set became active. -/
  done    : Nat := 0
  /-- Whether the set has raised its HALF bit. -/
  half    : Bool := false
  /-- Bursts read and not yet written, oldest first: the data and TAGs, none where host memory still has to answer. -/
  flying  : List (Option (List Byte × List Nat)) := []
  /-- The owner that armed it (R611). -/
  owner   : Nat := 0
deriving DecidableEq, Repr

/-! ### Compression engine (R533-R551) -/

/-- The open stream of the host ring (R540): whether it is an INFLATE stream, all its input so far and the bytes it has
put out. -/
structure ZipStream where
  inflate : Bool
  input   : List Byte
  outLen  : Nat
deriving DecidableEq, Repr

/-- How a host job ended (R548): STATUS, OUT_LEN, CHECK. -/
structure ZipEnd where
  status : Nat
  outLen : Nat
  check  : Nat
deriving DecidableEq, Repr

/-- ZIP beside its page. -/
structure Zip where
  /-- The descriptor of the running host job, as read at its start (R546). -/
  job    : Option Nat := none
  /-- Input bytes taken so far from a queue source. -/
  taken  : Nat := 0
  stream : Option ZipStream := none
  /-- The result of the running job, once it is known. -/
  result : Option ZipEnd := none
  /-- Bytes counted towards the next 4,096 of IN_CNT and OUT_CNT. -/
  inRem  : Nat := 0
  outRem : Nat := 0
deriving DecidableEq, Repr

/-! ### Two-wire buses (R583-R599) -/

/-- A TWL controller beside its page. -/
structure Twl where
  /-- The CMD word of the running command. -/
  cmd   : Option Word := none
  /-- Bytes received that wait for space in the receive FIFO, and the number received. -/
  rest  : List Byte := []
  got   : Nat := 0
  /-- Whether the command waits to be retried (R593, R594). -/
  wait  : Bool := false
  /-- Whether the block has just been enabled, reset or timed out, so that it clears a bus it finds stuck (R591). -/
  fresh : Bool := false
deriving DecidableEq, Repr

/-! ### Views (R22, R80-R91, R268-R285) -/

/-- What holds from a line of a view on (R276, R282, R283): the registration offset Zc, whether its repeats count for the job
(false before the first good update of an acquisition), O and b, lock, and whether the view is acquiring. -/
structure Frame where
  line  : Nat
  zc    : Int
  count : Bool
  o     : Int := 0
  b     : Int := 0
  lock  : Bool := false
  acq   : Bool := true
  /-- FINE_EN and FINE_PLANE (R287), as bits 0 and 2:1. -/
  fine  : Nat := 7
deriving DecidableEq, Repr

/-- A view's run of lines, its web edge and its registration. -/
structure ViewSt where
  /-- Whether the running job, or SETUP, has the view's triggers on (R117). -/
  run    : Bool := false
  /-- The first line since the generator last started, and the first line of the view's run of R270. -/
  first  : Nat := 0
  start  : Nat := 0
  /-- The first line of the running job's part in the view (R67, R84), and whether it has entered intake. -/
  part   : Option Nat := none
  begun  : Bool := false
  /-- The changeover line of the changeover that is armed or in progress, once it is fixed (R81, R85). -/
  chg    : Option Nat := none
  /-- Whether that line has entered intake (R84). -/
  past   : Bool := false
  /-- Whether only the next job enables the view (R85), and whether its generator has started. -/
  entering : Bool := false
  started  : Bool := false
  /-- Whether the view has left: only the old job enables it and its changeover line has passed. -/
  left   : Bool := false
  /-- The next frame repeat to be updated (R279). -/
  updR   : Int := 1
  /-- The line at which a requested job end or relearn takes effect in the view (R66, R312). -/
  endAt  : Option Nat := none
  ended  : Bool := false
  /-- The repeat count after whose repeat a requested job end stops the view, until its line is found (AT = 1 of R66). -/
  endRep : Option Nat := none
  /-- The filtered edge, the misses in a row and whether the edge is being reacquired (R272). -/
  ef     : Int := 0
  misses : Nat := 0
  reacq  : Bool := false
  /-- Windows measured for the next update. -/
  wins   : List Nat := []
  /-- C of R281. -/
  c      : Int := 0
  /-- Consecutive updates that were not good, and updates since acquisition began (R282, R284). -/
  bad    : Nat := 0
  acqN   : Nat := 0
  /-- The changeover line from which a wrap is awaited (R283). -/
  await  : Option Nat := none
  /-- What holds by line, newest first (R276). -/
  frames : List Frame := []
  /-- Wrap positions: n_last and ZW, newest first (R278). -/
  wraps  : List (Nat × Int) := []
deriving DecidableEq, Repr

/-! ### Jobs (R73-R92) -/

/-- A job context: the directory entry and the sections of the job as they were loaded (R77). -/
structure JobCtx where
  id        : Nat
  legacy    : Bool
  viewEn    : Nat
  masterOk  : Nat
  artwork   : Nat
  repeatLen : Nat
  sectBase  : Nat
  sectCount : Nat
  tag       : Nat
  /-- Sections by TYPE: DRAM address and bytes; MASTER, ARTWORK and PRED_TABLE keep their address and length only. -/
  sects     : List (Nat × Nat × Nat × List Byte)
deriving DecidableEq, Repr

/-- A pending local actuation request (R399, R400): its target with the values of its table entry, the travel count of its
reference line, and the cell and repeat of its record. -/
structure ActReq where
  target  : Nat
  view    : Nat
  pulse   : Nat
  station : Nat
  arm     : Nat
  lead    : Nat
  width   : Nat
  travel  : Int
  cell    : Nat
  rep     : Nat
deriving DecidableEq, Repr

/-! ### Queue fabric (R479-R497) -/

/-- A queue's contents and accounts. -/
structure Queue where
  /-- Words in the on-chip region, head first. -/
  words  : List QWord := []
  /-- Word index in the extension ring of its oldest word, and the number of words in it (R491, R492). -/
  extHead : Nat := 0
  extLen  : Nat := 0
  /-- Words at the front of the ring whose line was read back with an uncorrected error (R493). -/
  extBad  : Nat := 0
  /-- Credits granted and not yet used, by holder. -/
  creds  : List (Nat × Nat) := []
  parErr : Nat := 0
  hwm    : Nat := 0
  levelHit : Bool := false
  extUsed  : Bool := false
  /-- Whether a parity error of the queue has been logged since PAR_CNT was read (R488). -/
  parLogged : Bool := false
  /-- Whether the last word pushed left a frame open (R489). -/
  open_  : Bool := false
deriving DecidableEq, Repr

/-- An arbiter of R252 to R256: the requester granted for the next round. -/
structure Arb where
  grant : Option Nat := none
deriving DecidableEq, Repr

/-! ### Samples and lines -/

/-- A sample on its way through the data path: a value, missing, or poisoned (R60). -/
inductive Px where
  | val (x : Nat)
  | miss
  | bad
deriving DecidableEq, Repr

/-- A line of a port: a gap line, a poisoned line, or data by tap or by plane (R203, R229). -/
inductive Body where
  | gap
  | poison
  | data (rows : List (List Px))
deriving DecidableEq, Repr

/-! ### Intake (R203-R215) -/

/-- A tap of a camera line in intake (R209): open, present with its depth and samples, or closed without a packet. -/
inductive TapSt where
  | open_
  | present (depth : Nat) (samples : List Nat)
  | missing
  | poisoned
deriving DecidableEq, Repr

/-- A camera line in intake: its web line, whether the view issued a trigger to the camera, its deadline in device ns, its
taps, the bits of a sample (Table — CPn.PORT_CTL, DEPTH), and the credit asked for at its first packet: the label, the words and whether
they were granted (R206, R209). -/
structure CamLine where
  m        : Nat
  trig     : Bool
  deadline : Nat
  taps     : List TapSt
  depth    : Nat
  credit   : Option (Nat × Nat × Bool) := none
deriving DecidableEq, Repr

/-- A delivered line, or run of gap lines, that waits for dispatch (R246): its first port line, the number of lines, the
run it belongs to, its words in the intake queue, its samples normalised to 12 bits, the bits of a camera sample, and the stripes not yet
dispatched. -/
structure IUnit where
  n     : Nat
  count : Nat
  run   : Nat
  words : Nat
  body  : Body
  depth : Nat
  left  : List Nat
deriving DecidableEq, Repr

/-- A port's intake. -/
structure Intake where
  /-- Camera lines that labels still need, oldest first. -/
  lines   : List CamLine := []
  /-- The next port line to deliver, and the view of its run with the first line of the view's run it belongs to. -/
  next    : Option Nat := none
  view    : Nat := 0
  run     : Nat := 0
  /-- The first port line of the port's part in the run. -/
  start   : Nat := 0
  /-- The last port line of a run that has ended (R203). -/
  ended   : Option Nat := none
  /-- The run of gap lines not yet delivered: first line and count (R207). -/
  gap     : Option (Nat × Nat) := none
  /-- Lines at which commits to the port's context took effect, from the next line on (R214). -/
  cuts    : List Nat := []
  /-- Taps since whose last accepted packet a packet of the port was discarded, as a mask (R209). -/
  bad     : Nat := 0
  /-- The job, 64 for none, and the repeat for which INTAKE_LOSS was last logged in this run (R215). -/
  lost    : Option (Nat × Nat) := none
  units   : List IUnit := []
  /-- The intake counters of ICNT0 to ICNT2. -/
  short   : Nat := 0
  long    : Nat := 0
  gaps    : Nat := 0
  poison  : Nat := 0
  noCred  : Nat := 0
  late    : Nat := 0
  miss    : Nat := 0
deriving DecidableEq, Repr

/-- A flat-field acquisition of a pipeline (R235): port, phase, LINES_LOG2, target, first line, lines seen, whether a line was
lost, and the sums of the 12-bit samples by tap. -/
structure FfRun where
  port   : Nat
  phase  : Nat
  lg     : Nat
  target : Nat
  first  : Nat
  seen   : Nat
  lost   : Bool
  sums   : List (List Nat)
deriving DecidableEq, Repr

/-! ### Pipelines (R216-R258) -/

/-- A unit in a pipeline's dispatch queues: port, stripe, run, first line, lines, samples of the stripe with its margins, its dispatch queue
and its words there (R247). -/
structure PUnit where
  port   : Nat
  stripe : Nat
  run    : Nat
  n      : Nat
  count  : Nat
  body   : Body
  queue  : Nat
  words  : Nat
deriving DecidableEq, Repr

/-- A context register set (R248, R249): port, whether it holds the next copy, whether it is loaded, and then the port context header and
the three tone curves as numbers. -/
structure CtxSet where
  port   : Nat
  next   : Bool
  loaded : Bool
  head   : Nat := 0
  curves : List Nat := []
deriving DecidableEq, Repr

/-- A pixel pipeline. -/
structure Pipe where
  units  : List PUnit := []
  /-- The place in its ring of eight dispatch queues that a port's next unit takes (R247). -/
  ring   : Tab Nat := []
  set0   : Option CtxSet := none
  set1   : Option CtxSet := none
  /-- Whether the head unit's wait for a load has been counted. -/
  waited : Bool := false
  loads  : Nat := 0
  dead   : Nat := 0
  /-- Flat-field acquisitions, one a port (R235). -/
  ff     : List FfRun := []
deriving DecidableEq, Repr

/-- A source line in the tap-delay buffers, with the context set that its tokens name (R248). -/
structure TapLine where
  n    : Nat
  body : Body
  ctx  : CtxSet
deriving DecidableEq, Repr

/-- The tap-delay buffers of a port's stripe (R219): the run, the next corrected line, and the source lines kept. -/
structure TapBuf where
  run   : Nat := 0
  next  : Nat := 0
  lines : List TapLine := []
deriving DecidableEq, Repr

/-- A corrected line of a port's stripe in the stitch alignment window (R229, R261). -/
structure CLine where
  n      : Nat
  stripe : Nat
  body   : Body
deriving DecidableEq, Repr

/-! ### Stitching and registration (R259-R292) -/

/-- A stitched line of a view: its number, whether it is a gap line, its planes, E(n) and NO_EDGE (R262, R272). -/
structure VLine where
  n      : Nat
  gap    : Bool
  planes : List (List Px)
  edge   : Int
  noEdge : Bool
deriving DecidableEq, Repr

/-- The sums of a trim window for a seam and plane (R268). -/
structure TrimSum where
  seam  : Nat
  plane : Nat
  pairs : Nat
  left  : Nat
  right : Nat
deriving DecidableEq, Repr

/-- The stitcher of a view. -/
structure Stitch where
  /-- The next view line, the run of R270 it belongs to, and the last repeat start. -/
  next  : Nat := 0
  run   : Option Nat := none
  rep   : Nat := 0
  /-- Trims in force by port × 4 + plane, and new ones with the line from which they hold (R269). -/
  trims : Tab Nat := []
  due   : List (Nat × Nat × Nat) := []
  limit : Tab Bool := []
  sums  : List TrimSum := []
  /-- The last 16,384 stitched lines, newest first, for the engines, REG, crops and streams. -/
  lines : List VLine := []
deriving DecidableEq, Repr

/-- What a dot-grid measurement has of a port: the sums of its samples and its row profile (R273, R274). -/
structure DotPort where
  port : Nat
  sums : List Nat
  rows : List Nat
deriving DecidableEq, Repr

/-- A dot-grid measurement (R273). -/
structure DotRun where
  view  : Nat
  lg    : Nat
  along : Bool
  first : Nat
  seen  : Nat
  lost  : Bool
  ports : List DotPort
deriving DecidableEq, Repr

/-- The result of a registration window: validity, whether the best shift lies on the edge of the search, the
shifts in 1/16 coarse pixel, dx and dy, and the x of the window (R280). -/
structure WinRes where
  valid  : Bool
  atEdge : Bool
  dx16   : Int
  dy16   : Int
  dx     : Int
  dy     : Int
  x      : Int
deriving DecidableEq, Repr

/-! ### Masters (R293-R336) -/

/-- Why a master slot is being written. -/
inductive FlipKind where
  /-- A learned master (R313). -/
  | learn
  /-- The prediction with the fitted table (R327). -/
  | fit
  /-- A fold (R330). -/
  | fold
deriving DecidableEq, Repr

/-- A flip of a view (R305): its repeat, what it brings, the block rows and the coarse rows of the slot written so far, whether the slot is
whole, its NO_REF blocks, the learn slots it reads, the first learn repeat, the fit repeat or the repeat folded, and, once it has taken
place, its line and its slot. It stays until it has taken place and its slot is whole (R306). -/
structure Flip where
  rep   : Nat
  kind  : FlipKind
  rows  : Nat := 0
  crows : Nat := 0
  whole : Bool := false
  noref : Nat := 0
  slots : List Nat
  first : Nat
  taken : Option (Nat × Nat) := none
deriving DecidableEq, Repr

/-- A capture of a repeat into a learn slot (R310): the repeat, the slot, its master rows so far from row 0 on, each by plane, the first
row that a line of it wrote, and the block rows stored. -/
structure Capture where
  rep    : Nat
  slot   : Nat
  rows   : List (List (List Px)) := []
  base   : Nat := 0
  stored : Nat := 0
deriving DecidableEq, Repr

/-- The learning of a view (R311-R313): N, the repeat at which the attempt started, the accepted repeats with their slots, and
whether it is a relearn. -/
structure Learn where
  n       : Nat
  start   : Nat
  ok      : List (Nat × Nat) := []
deriving DecidableEq, Repr

/-- A master in force from a line on (R305, R317): the line, the slot, and 1 PREDICTED, 2 LEARNED, 3 PROVISIONAL (a coarse
master alone), 0 none. -/
structure InForce where
  line : Nat
  slot : Nat
  kind : Nat
deriving DecidableEq, Repr

/-- The masters of a view beside its MASTER section. -/
structure MstView where
  learn   : Option Learn := none
  /-- Whether the job learns the view from its repeat 1 on, and a relearn that starts at the next repeat start (R312). -/
  will    : Bool := false
  relearn : Bool := false
  skipped : Nat := 0
  /-- Masters in force by line, newest first, and the coarse areas of the provisional ones by their first line (R318). -/
  force   : List InForce := []
  prov    : List (Nat × List Byte) := []
  flips   : List Flip := []
  cap     : Option Capture := none
  /-- The fitted table of the view (R326). -/
  fitted  : Option (List Byte) := none
  /-- Defect-free repeats counted for folding, the last repeat judged, and the repeats captured while adapting (R328-R330). -/
  good    : Nat := 0
  judged  : Nat := 0
  capRep  : List Nat := []
  /-- The event state, and its changes to come: line and FROZEN (R331). -/
  frozen  : Bool := false
  changes : List (Nat × Bool) := []
  /-- Repeats at whose start the view was frozen, and repeats with a gap, poisoned or unlocked line (R329, R331). -/
  frozenRep : List Nat := []
  badRep  : List Nat := []
deriving DecidableEq, Repr

/-- A prediction in progress (R324): the job, and the views still to be written. -/
structure Predict where
  job   : Nat
  views : List Nat
deriving DecidableEq, Repr

/-! ### Decimation and streams (R407-R430) -/

/-- A line in a decimator: number, gap, poisoned, and its across-scaled planes. -/
structure SLine where
  n    : Nat
  gap  : Bool
  bad  : Bool
  cols : List (List (Option Nat))
deriving DecidableEq, Repr

/-- A formed output line: its bytes as they leave but for OUT_CNT (R423), and its sinks by the descriptor it was formed under: DEST, ring
base, slots and stride, session (R424). -/
structure SOut where
  settled : Bool
  bytes   : List Byte
  dest    : Nat
  base    : Nat
  slots   : Nat
  stride  : Nat
  session : Nat
deriving DecidableEq, Repr

/-- The grid of a stream from one reset to the next (R417-R421). -/
structure Grid where
  /-- The line at which the reset takes effect, its L0, and whether it is a reset of R417. -/
  g       : Nat
  l0      : Nat
  origin  : Bool
  /-- The descriptor and kernel that its outputs are formed under, as a number (R428). -/
  desc    : Nat
  /-- Whether L0 has been reached, the next output, and whether that is the first after the reset. -/
  begun   : Bool := false
  j       : Nat := 0
  restart : Bool := true
  /-- Source lines that filters still reach, newest first. -/
  lines   : List SLine := []
deriving DecidableEq, Repr

/-- A host stream (R407-R421). -/
structure Stream where
  /-- The boundary of a RESTART or a commit to come: the view, and the line from which on it is taken, with `true` at a repeat start (R418). -/
  want    : Option (Nat × Nat × Bool) := none
  /-- Whether a RESTART is part of it. -/
  ask     : Bool := false
  /-- Its grids, oldest first: a grid ends at the L0 of the one behind it (R420). -/
  grids   : List Grid := []
  /-- Formed outputs that wait to be delivered, oldest first. -/
  outs    : List SOut := []
  running : Bool := false
deriving DecidableEq, Repr

/-- A sync that still waits for its anchor line in a view (R417): the view, the stamp, and whether the view is the lowest that it
resets. -/
structure SyncWait where
  view   : Nat
  stamp  : Stamp
  lowest : Bool
deriving DecidableEq, Repr

/-- DEC beside its page: the grid origins by view (R417), and the syncs that wait for their anchors. -/
structure Dec where
  origin : Tab Nat := []
  syncs  : List SyncWait := []
deriving DecidableEq, Repr

/-! ### Inspection engines (R286-R289, R337-R366) -/

/-- A tile of an engine's tile row (R286-R288): the master sample of its first sample, its fine shift in 1/16 sample, whether that
is its own, whether the tile is FLAT. -/
structure Tile where
  k0   : Int
  i0   : Int
  sx   : Int := 0
  sy   : Int := 0
  own  : Bool := false
  flat : Bool := false
deriving DecidableEq, Repr

/-- A tile row: its first line and its tiles so far, from the left. -/
structure TileRow where
  n0    : Nat
  n1    : Nat
  tiles : List Tile
deriving DecidableEq, Repr

/-- A pixel as an engine has decided it (R340-R348): its class (0 compared), whether it is a defect pixel, light or dark, its
contrast and ΔE, whether its tile is FLAT, its cell map entry, its PRESENCE region with the two ink decisions. -/
structure Pix where
  cls    : Nat := 0
  hit    : Bool := false
  light  : Bool := false
  dark   : Bool := false
  con    : Nat := 0
  de     : Nat := 0
  flat   : Bool := false
  cell   : Option Nat := none
  region : Option Nat := none
  inkO   : Bool := false
  inkM   : Bool := false
deriving DecidableEq, Repr

/-- A decided line of an engine's stripe: its number, its repeat, the first line of its band, the first column of the stripe,
the pixels, none for a line of repeat 0, and once they are labelled the map C (R352). -/
structure PixLine where
  n    : Nat
  rep  : Nat
  band : Nat
  col0 : Nat
  px   : List Pix
  cm   : List Bool := []
deriving DecidableEq, Repr

/-- A band an engine has open (R353, R362): its first line, its last one once it is known, the labels it uses and the line at which
a storm began. -/
structure OpenBand where
  first  : Nat
  last   : Option Nat := none
  labels : Nat := 0
  storm  : Option Nat := none
deriving DecidableEq, Repr

/-- A master block in an engine's prefetch buffer (R300, R517): the line from which its slot is in force, the plane, the block row
and column, and its code word and T8; none if it came poisoned. -/
structure FetchedBlock where
  ver  : Nat
  p    : Nat
  brow : Nat
  bcol : Nat
  data : Option (Nat × Nat)
deriving DecidableEq, Repr

/-- Counts of a presence region in a repeat (R348): G, U, OI, MI. -/
structure PresAcc where
  region : Nat
  rep    : Nat
  g      : Nat := 0
  u      : Nat := 0
  oi     : Nat := 0
  mi     : Nat := 0
deriving DecidableEq, Repr

/-- Counts of a cell in a repeat (R363): the cell map entry, the pixels compared and those of classes 1 to 6. -/
structure CellAcc where
  cell : Nat
  rep  : Nat
  cnt  : List Nat := [0, 0, 0, 0, 0, 0, 0]
deriving DecidableEq, Repr

/-- A piece (R354-R358, R376): its seed (line, column), its features, its flags at their places in Table — Record flags, whether a
crop was captured, and its pixels within JOIN of the band's ends or of the core's edges (R359). -/
structure Piece where
  seed   : Nat × Nat
  area   : Nat
  cMin   : Nat
  cMax   : Nat
  nMin   : Nat
  nMax   : Nat
  sc     : Nat
  sn     : Nat
  sc2    : Nat
  sn2    : Nat
  scn    : Nat
  sumAbs : Nat
  maxAbs : Nat
  light  : Nat
  dark   : Nat
  sumDe  : Nat
  perim  : Nat
  flags  : Nat
  crop   : Bool
  stripe : Nat × Nat
  rim    : List (Nat × Nat)
deriving DecidableEq, Repr

/-- An edge run (R359): its line, its first and last columns, and the seed of its piece, none with LOOKAHEAD. -/
structure EdgeRun where
  line  : Nat
  first : Nat
  last  : Nat
  piece : Option (Nat × Nat)
deriving DecidableEq, Repr

/-- The items of a band from an engine (R359, R364): the engine, the band, e(b), the pieces in order, the pixels of C on the first JOIN
lines of the next band of the job, the edge runs, presence counts, the storm line, cell summaries, and whether the band ends a repeat. MRG
merges them once it has read all their frames; `spoilt` are the places of those that were poisoned (R610). -/
structure BandItems where
  eng    : Nat
  first  : Nat
  last   : Nat
  key    : Nat
  rep    : Nat
  pieces : List Piece
  ahead  : List (Nat × Nat)
  runs   : List EdgeRun := []
  pres   : List PresAcc
  storm  : Option Nat
  cells  : List CellAcc
  ends   : Bool
  total  : Nat := 0
  got    : Nat := 0
  spoilt : List Nat := []
deriving DecidableEq, Repr

/-- A crop that its record still waits for (R376-R378): view, seed line and column, the engine's stripe, planes. -/
structure Crop where
  view   : Nat
  seed   : Nat × Nat
  stripe : Nat × Nat
  planes : Nat
deriving DecidableEq, Repr

/-- A record (R370) with what does not stand in its 512 bits: the view, its key line and cycle (R380), the reference line (R399), the first
line of its band, whether it has been suppressed, the crop it waits for, and the ACT targets it has asked for. -/
structure Rec where
  bits  : Nat
  view  : Nat
  key   : Nat
  ref   : Option Nat := none
  band  : Nat := 0
  supp  : Bool := false
  crop  : Option Crop := none
deriving DecidableEq, Repr

/-- What the frames in an engine's item queues hold (R364): a coarse alarm, the item of a band at a place in their order, or what belongs
to no band any more. -/
inductive EngItem where
  | alarm (r : Rec)
  | band (first place : Nat)
  | gone
deriving DecidableEq, Repr

/-- An inspection engine. -/
structure Eng where
  /-- The view it serves, whether under the next job, and the next line to compare. -/
  view   : Option Nat := none
  newJob : Bool := false
  next   : Nat := 0
  /-- Whether the last line of its part in the view has been compared (R355). -/
  fin    : Bool := false
  rows   : List TileRow := []
  lines  : List PixLine := []
  bands  : List OpenBand := []
  /-- The next line whose pixels get labels. -/
  label  : Nat := 0
  blocks : List FetchedBlock := []
  cells  : List CellAcc := []
  pres   : List PresAcc := []
  /-- Last lines of the crops in capture (R376). -/
  crops  : List Nat := []
  /-- The line at which it last waited for MST to write a block row, counted once (R306). -/
  held   : Option Nat := none
  /-- Items that wait for a credit, those in its item queues, the places in the ring of the next frame written and read (R364), and poisoned
  frames of coarse alarms, which count for the next band (R610). -/
  togo   : List EngItem := []
  fifo   : List EngItem := []
  put    : Nat := 0
  got    : Nat := 0
  spoilt : Nat := 0
deriving DecidableEq, Repr

/-! ### Records, rules and verdicts (R370-R406) -/

/-- What a view hands on in the order of R380: a record, a defect beyond the record limit (R382), an engine's summary of a cell (R363), the
first line of a band in which a repeat starts, the end of a repeat in the view, a cell poisoned by R610. -/
inductive Item where
  | record (r : Rec)
  | excess (cell rep : Nat) (x : Int)
  | summary (view key : Nat) (provisional : Bool) (last : Nat) (c : CellAcc)
  | mark (view line rep : Nat)
  | repEnd (view line rep : Nat)
  | poison (cell rep : Nat)
deriving DecidableEq, Repr

/-- A counted record (R392): severity, reason, class. -/
structure Counted where
  sev    : Nat
  reason : Nat
  cls    : Nat
deriving DecidableEq, Repr

/-- A cell of a repeat on the way to its verdict (R392-R395). -/
structure CellSt where
  cell  : Nat
  rep   : Nat
  sums  : Nat := 0
  cnt   : List Nat := [0, 0, 0, 0, 0, 0, 0]
  recs  : List Counted := []
  presU : Bool := false
  pois  : Bool := false
  /-- Whether every view with class COARSE_ONLY pixels was PROVISIONAL (R393). -/
  learn : Bool := true
  /-- The view that delivered the last summary, its key line and the cell's last line. -/
  view  : Nat := 0
  key   : Nat := 0
  last  : Nat := 0
deriving DecidableEq, Repr

/-- A repeat on the way to its verdict (R396): y and capture time of its start line in the lowest view, cell verdicts (cell number, verdict, reason), counted records of no cell, counted records
with their X, suppressed records, views that have ended it, and the view and line that did last. -/
structure RepSt where
  rep   : Nat
  start : Nat × Nat := (0, 0)
  cells : List (Nat × Nat × Nat) := []
  free  : List Counted := []
  recs  : List (Counted × Int) := []
  supp  : Nat := 0
  ended : List Nat := []
  view  : Nat := 0
  key   : Nat := 0
deriving DecidableEq, Repr

/-- A defect of the last band merged in a view, for continuation (R361): its id and its pixels on the band's last JOIN lines. -/
structure Tail where
  id : Nat
  px : List (Nat × Nat)
deriving DecidableEq, Repr

/-- A step of a tolerance scale (R389): view, cell map entry, repeat of the record, STEP, CMIN, CMAX. -/
structure ScaleStep where
  view : Nat
  cell : Nat
  rep  : Nat
  step : Int
  lo   : Int
  hi   : Int
deriving DecidableEq, Repr

/-- A view's results on their way (R358-R361, R380). -/
structure ViewRes where
  /-- Coarse alarms by key line, and band items not merged. -/
  alarms : List Rec := []
  bands  : List BandItems := []
  /-- Engines that have ended their part of the job in the view, and the key of the last band merged, plus 1. -/
  doneE  : List Nat := []
  merged : Nat := 0
  /-- Items in output order, with their key line, and its cycle. -/
  items  : List (Nat × Nat × Item) := []
  tails  : List Tail := []
  /-- The last line of the last band merged, plus 1. -/
  tailAt : Nat := 0
  /-- The highest repeat of which a line has been compared. -/
  reach  : Nat := 0
  /-- Crops kept in the band of the last DEFECT record evaluated (R377). -/
  kept   : Nat × Nat := (0, 0)
  /-- Tolerance scales in force: repeats settled, newest first, each with its scales by cell map entry (R389). -/
  scales : List (Nat × Tab Nat) := []
deriving DecidableEq, Repr

/-- The results of a job. -/
structure Results where
  views : Tab ViewRes := []
  cells : List CellSt := []
  reps  : List RepSt := []
  /-- Cells whose summaries are complete, repeats that every view has ended, and cell verdicts that RUL has still to see. -/
  ready : List (Nat × Nat) := []
  whole : List Nat := []
  front : List Rec := []
  /-- Records evaluated that have still to be sent, oldest first. -/
  out   : List Rec := []
  steps : List ScaleStep := []
  init  : Option Nat := none
  /-- SEV_CTL, UNINSP_CTL, LANE_X0 and LANE_W by the repeat from which they hold, newest first (R404). -/
  vals  : List (Nat × List Word) := []
  lastRep : Nat := 0
  sent  : Nat := 0
  /-- ACTUATION records that wait for the job's JOB_START (R90). -/
  held  : List Nat := []
  /-- The changeover line of the lowest enabled view and its capture time, once it has entered intake; whether JOB_START and JOB_END have
  been sent, and whether the cells that the end cuts have their verdicts. -/
  startAt : Option (Nat × Nat) := none
  started : Bool := false
  cutDone : Bool := false
  endSent : Bool := false
  /-- The reason of the job's end, once it has one (R375), and whether its end record has been formed. -/
  ending : Option Nat := none
  ended : Bool := false
deriving DecidableEq, Repr

/-! ### Network and host (R552-R582) -/

/-- An ARP entry: port, address, the MAC once it is resolved, and the requests sent that are unanswered (R555). -/
structure ArpEntry where
  port : Nat
  ip   : Nat
  mac  : Option Nat
  sent : Option Nat
deriving DecidableEq, Repr

/-- A session beside its entry (R557-R568): epoch, count, the records of the open RECORDS datagram, whether the next datagram is the
first of its epoch, the records and lines lost since the last datagram placed if a GAP is owed for them, the TO_SEQ of a RESTART GAP
owed, NACK_CNT, the second of the last NACK and those accepted in it, LOSS_CNT, the datagrams held in the history ring (count,
place in the ring, length), newest first, and the ring's next byte. -/
structure Sess where
  epoch   : Nat := 0
  count   : Nat := 0
  fill    : List Nat := []
  first   : Bool := false
  lost    : Option (Nat × Nat) := none
  restart : Option Nat := none
  nacks   : Nat := 0
  nackAt  : Nat := 0
  nackIn  : Nat := 0
  loss    : Nat := 0
  hist    : List (Nat × Nat × Nat) := []
  histAt  : Nat := 0
deriving DecidableEq, Repr

/-- A session entry that waits for a repeat start (R558): the session, its words, the view, the first line that may be that start, and
once the start is known the job and the number of its records keyed before it. -/
structure SessApply where
  sess  : Nat
  words : List Word
  view  : Nat
  first : Nat
  at_   : Option (Nat × Nat) := none
deriving DecidableEq, Repr

/-- The network and the host link beside their pages. -/
structure Net where
  arp     : List ArpEntry := []
  sess    : Tab Sess := []
  applies : List SessApply := []
  /-- Keys by slot (R570); the slot being loaded and its words so far. -/
  keys    : Tab (List Byte) := []
  keySlot : Nat := 0
  keyLoad : List Word := []
  /-- The nonce floor, the last nonce accepted since under a key, and the response to it (R571). -/
  floor   : Nat := 0
  nonce   : Tab (Option Nat) := []
  resp    : Tab (List Byte) := []
  /-- Requests waiting, oldest first, by command, and the one that awaits the end of a job or mode command (R572). -/
  wcpQ    : List (Nat × WcpMsg) := []
  wcpBusy : Option (Nat × WcpMsg) := none
  /-- Raw second of the last WCP_AUTH logged, plus 1 (R570). -/
  authAt  : Nat := 0
  /-- WX8: sequences by service, defect reports of the job, TIME of JOB_START (R574, R575). -/
  wx8Seq  : Tab Nat := []
  wx8Ser  : Nat := 0
  wx8Start : Nat := 0
  /-- Bytes towards the next 4,096 of TX_BYTES and RX_BYTES, by port, and BAR2 accesses towards the next 1,024. -/
  txRem   : Tab Nat := []
  rxRem   : Tab Nat := []
  bar2    : Nat := 0
deriving DecidableEq, Repr

/-! ### Commits and locks (R664-R669) -/

/-- What a part of a pending commit waits for (R15, R292, R418). -/
inductive Bound where
  /-- At once (R668). -/
  | now
  /-- The line of the view. -/
  | line (view n : Nat)
  /-- The start of the repeat of the view. -/
  | repeatStart (view r : Nat)
  /-- The start of the repeat `r` of the view's old job before its changeover line `c`, else of the first repeat of the new job. -/
  | repeatOver (view r c : Nat)
  /-- The changeover line of the view. -/
  | job (view : Nat)
  /-- The next update line U(R) of the view (R292). -/
  | update (view : Nat)
  /-- The boundary of stream `n` under R418, in its view. -/
  | stream (n : Nat)
deriving DecidableEq, Repr

/-- A part of a pending commit: registers that change together, by BAR0 offset, with their snapshot values, the boundary they
wait for, and the views for which SYS records the first line (R669). -/
structure Part where
  regs  : List (Nat × Word)
  bound : Bound
  views : List Nat
deriving DecidableEq, Repr

/-- A pending commit of a page: the parts still to take effect and the first lines of those that have, by view. -/
structure Pend where
  at_   : Nat
  snap  : List (Nat × Word)
  parts : List Part
  lines : List (Nat × Option Nat)
deriving DecidableEq, Repr

/-- The record of the last commit of a page for a view (R669). -/
structure CmtRec where
  line : Option Nat
  at_  : Nat
  gen  : Nat
  time : Nat
deriving DecidableEq, Repr

/-- A range of DRAM, from address `lo` to below `hi`, whose bytes that nothing has written since are zero, or free values drawn
under `seed` (R526, R653). -/
structure Blank where
  lo   : Nat
  hi   : Nat
  seed : Option Nat
deriving DecidableEq, Repr

/-- What a byte of DRAM reads as that nothing has written: 0, or what the newest range over it says. -/
def blankByte : List Blank → Nat → Byte
  | [], _ => 0
  | x :: t, a =>
    if x.lo ≤ a ∧ a < x.hi then (match x.seed with | some k => Config.freeByte (k * 2 ^ 40 + a) | none => 0) else blankByte t a

/-- The whole machine. -/
structure State where
  /-- Commands waiting, first in first out. -/
  pending : List Instr
  /-- Registers of BAR0, values in force, by BAR0 offset. -/
  regs    : Tab Word
  /-- Shadow copies of RWS registers, by BAR0 offset (R4). -/
  shadow  : Tab Word
  /-- DRAM bytes (R510). -/
  mem     : Tab Byte
  /-- What unlisted bytes of DRAM read as, newest first. -/
  blank   : List Blank
  /-- 64-byte DRAM lines that read with an uncorrected error (R525). -/
  badLine : Tab Bool
  /-- What has left the chip, newest last. -/
  out     : List Output
  /-- MCG.CFG, TIMING0 to TIMING2 and REF_CTL as last trained (R532). -/
  trained : List Word
  /-- The model's counter of free values drawn. -/
  free    : Nat
  /-- The raw counter in units of 2^-16 ns (R431). -/
  raw     : Nat
  chan    : Tab Chan
  tg      : Tab TrigGen
  view    : Tab ViewSt
  link    : Tab Link
  train   : Tab Train
  joker   : Tab Joker
  /-- Table windows and context stores, by BAR0 offset of the word. -/
  window  : Tab Word
  /-- Whether the device waits for a host load (R634, R635). -/
  bootWait : Bool
  hlth    : Health
  tb      : Timebase
  crl     : Carillon
  evio    : Evio
  evf     : Fabric
  mc      : Tab Mc
  mcg     : Mcg
  dma     : Tab DmaCh
  zip     : Zip
  twl     : Tab Twl
  /-- Byte FIFOs: 2n and 2n + 1 TWLn receive and transmit, 8 and 9 MTWI receive and transmit, 10 QSPI, 11 and 12 the ZIP
  stream input and output. -/
  fifo    : Tab (List Byte)
  /-- Descriptor words written to the shadow table of the queues, by window offset (R482). -/
  qshadow : Tab (Option Word)
  /-- QF.HQ_PUSH_LO as last written (R496). -/
  hqLo    : Word
  /-- Jobs with an RO directory field written outside EMPTY and LOADING (R74). -/
  roWritten : List Nat
  /-- The active and the next job context (R77). -/
  jobA    : Option JobCtx
  jobN    : Option JobCtx
  /-- The job under validation (R75). -/
  valJob  : Option Nat
  /-- Pending local actuation requests in request order (R400). -/
  acts    : List ActReq
  intake  : Tab Intake
  pipe    : Tab Pipe
  /-- Tap-delay buffers by port × 8 + stripe. -/
  tapBuf  : Tab TapBuf
  /-- Corrected lines by port, in order of completion. -/
  corr    : Tab (List CLine)
  stitch_ : Tab Stitch
  dot     : Option DotRun
  /-- Registration window results by view × 64 + window. -/
  winRes  : Tab (Option WinRes)
  mst     : Tab MstView
  predict : Option Predict
  eng     : Tab Eng
  /-- Results of the active job and, during a changeover, of the next one. -/
  resA    : Results
  resN    : Results
  /-- Matches of a rule, by rule (RUL.HIT_CNT). -/
  hits    : Tab Nat
  net     : Net
  stream  : Tab Stream
  dec     : Dec
  /-- Values of job-scoped registers that take effect at a view's changeover line: view, BAR0 offset, value (R84). -/
  jobVals : List (Nat × Nat × Word)
  /-- The next line to enter the first stage of a page's block, by page × 4 + view (R15). -/
  entered : Tab Nat
  queue   : Tab Queue
  /-- Queues in the level list, oldest first (R490). -/
  levels  : List Nat
  /-- Arbiters, by number. -/
  arb     : Tab Arb
  /-- Error log slots (R602). -/
  log     : Tab (Option LogEntry)
  /-- Words 1 to 7 latched by a read of LOG_DATA0 (R620). -/
  logLatch : List Word
  /-- Events raised and not yet taken by the channels, oldest first (R463). -/
  raised  : List (Nat × Stamp)
  /-- Pending commits by page (R666). -/
  commits : Tab (Option Pend)
  /-- Commit records, by page × 4 + view (R669). -/
  cmtRec  : Tab (Option CmtRec)
  /-- WRO registers written since reset, by BAR0 offset (R4). -/
  wroDone : Tab Bool
  /-- Raw time of the lock holder's last access, by page (R619). -/
  lockAt  : Tab Nat
  /-- Key slot under which NET took a lock, by page (R618). -/
  lockKey : Tab Nat
  /-- Pages of blocks whose lease is being revoked, and of blocks that are dead (R612, R617). -/
  revoking : List Nat
  dead    : List Nat
  /-- The fuse bits known to be blown, as a 4,096-bit number (R625, R626). -/
  fuse    : Nat
deriving DecidableEq, Repr

/-- The machine right after a power-on reset (R621, R623): every register at the reset value of its page's table, in mode BOOT, no
command waiting, every table empty. DRAM holds free bytes. -/
def State.reset : State :=
  { pending := [], regs := [], shadow := [], mem := [], blank := [⟨0, 2 ^ 40, some 0⟩], badLine := [], out := [], trained := []
    free := 1, raw := 0, chan := [], tg := [], view := [], link := [], train := [], joker := [], window := [], bootWait := false
    hlth := {}, tb := {}, crl := {}, evio := {}, evf := {}, mc := [], mcg := {}, dma := [], zip := {}, twl := [], fifo := []
    qshadow := [], hqLo := 0, roWritten := [], jobA := none, jobN := none, valJob := none, acts := [], intake := [], pipe := []
    tapBuf := [], corr := [], stitch_ := [], dot := none, winRes := [], mst := [], predict := none, eng := [], resA := {}, resN := {}
    hits := [], net := {}, stream := [], dec := {}, jobVals := [], entered := [], queue := [], levels := [], arb := [], log := []
    logLatch := [], raised := [], commits := [], cmtRec := [], wroDone := [], lockAt := [], lockKey := [], revoking := [], dead := []
    fuse := 0 }

end Sys2Proof.Machine
end

