-- ==== Sys2Proof/Machine/Ops.lean ====
section
/-!
DEFINITION. The named operations over registers, table windows, DRAM, the clock and the outputs that every block shares.
-/
namespace Sys2Proof.Machine

/-! ### Registers in force and shadow copies (R4) -/

/-- The value in force of the register at offset `off` of page `p`. -/
def State.rd (s : State) (p off : Nat) : Word := tabGet regReset s.regs (p * 4096 + off)

/-- The register at offset `off` of page `p` given a value in force. -/
def State.wr (s : State) (p off : Nat) (w : Word) : State :=
  { s with regs := tabPut regReset (p * 4096 + off) w s.regs }

/-- The shadow copy of a register (R4). -/
def State.rdShadow (s : State) (p off : Nat) : Word := tabGet shadowReset s.shadow (p * 4096 + off)

/-- The shadow copy of a register written. -/
def State.wrShadow (s : State) (p off : Nat) (w : Word) : State :=
  { s with shadow := tabPut shadowReset (p * 4096 + off) w s.shadow }

/-- A field of a register in force. -/
def State.fld (s : State) (p : Nat) (f : Fld) : Nat := wf (s.rd p f.off) f.lo f.len

/-- A field of a register given a value in force. -/
def State.setFld (s : State) (p : Nat) (f : Fld) (v : Nat) : State :=
  s.wr p f.off (wfSet (s.rd p f.off) f.lo f.len v)

/-- Whether a field is not zero. -/
def State.on (s : State) (p : Nat) (f : Fld) : Bool := s.fld p f != 0

/-- A field set to 1 or 0. -/
def State.setBit (s : State) (p : Nat) (f : Fld) (b : Bool) : State := s.setFld p f (b2n b)

/-- A field as a two's complement number. -/
def State.sfld (s : State) (p : Nat) (f : Fld) : Int := sext f.len (s.fld p f)

/-- A saturating counter raised by `n`. -/
def State.bumpBy (s : State) (p : Nat) (f : Fld) (n : Nat) : State :=
  s.setFld p f (satN f.len (s.fld p f + n))

/-- A saturating counter raised by 1. -/
def State.bump (s : State) (p : Nat) (f : Fld) : State := s.bumpBy p f 1

/-- The whole register as a field. -/
abbrev whole (off : Nat) : Fld := ⟨off, 0, 32⟩

/-- Two registers read as one number, the first the lower 32 bits. -/
def State.rd64 (s : State) (p lo hi : Nat) : Nat := (s.rd p lo).toNat + 2 ^ 32 * (s.rd p hi).toNat

/-- Two registers written with the lower and the next 32 bits of a number. -/
def State.wr64 (s : State) (p lo hi x : Nat) : State :=
  (s.wr p lo (BitVec.ofNat 32 x)).wr p hi (BitVec.ofNat 32 (x / 2 ^ 32))

/-- Registers of a page written in turn. -/
def State.wrAll (s : State) (p : Nat) (l : List (Nat × Word)) : State := l.foldl (fun s e => s.wr p e.1 e.2) s

/-! ### Table windows and context stores -/

/-- The stream table as the host writes it, and the copy in force (R428), past BAR0. -/
abbrev strShadowAt : Nat := 0x3000000
abbrev strActiveAt : Nat := 0x3100000

/-- A word of a stream's 2 KiB of the stream table at reset: the descriptor's reset values, and the Keys cubic of R411. -/
def strReset (o : Nat) : Word :=
  if o = 0 then 0x40 else if o = 8 then 8 else if o = 12 then 7 else if o = 16 then 0x10000 else if o = 32 then 1024
  else if o < 0x400 then 0
  else
    let k := keys ((o - 0x400) / 16 % 64)
    let pair (a b : Nat) : Word := BitVec.ofNat 32 (toTwos 16 (nth 0 k a) + 65536 * toTwos 16 (nth 0 k b))
    if o % 16 = 4 then pair 0 1 else if o % 16 = 8 then pair 2 3 else 0

/-- The bits of the words of a table with a bit for each field, by word; the words past the list are reserved. -/
def tableMask (l : List Nat) (o : Nat) : Nat := nth 0 l (o / 4)

/-- The mask of a port's context region (Table — Port context region, Table — Port context header). -/
def portMask (o : Nat) : Nat :=
  let all := 0xFFFFFFFF
  if o < 0x100 then tableMask [0x7FFFFF, 0x3F1F1F1F, 0xFFF0FFF, 0xFFF, all, 0xFFFF, all, 0xFFFF, all, all, all, all, 0xFFFF] o
  else if 0x1900 ≤ o ∧ o < 0x8000 then 0 else all

/-- The mask of the stitch and registration table space (Table — View record, Table — Seam entry, Table — Registration window entry, Table —
Geometry entry). -/
def stitchMask (o : Nat) : Nat :=
  let all := 0xFFFFFFFF
  if o < 0x100 then tableMask [0xFFFFF, all, 0xFFFFF1F, 0x7FFFF, 0x7FFFF, all, all, all, all, all, all, all, all, 0x3FFF] (o % 0x40)
  else if o < 0x500 then (if o % 0x100 < 0xF0 then tableMask [0x1FF, 0x7FFFF, 0x7FFFF] (o % 0x10) else 0)
  else if 0x800 ≤ o ∧ o < 0x1800 then tableMask [0x3F3F7FFF, 0xBFFFFFFF, 0xFFF] (o % 0x10)
  else if 0x2000 ≤ o ∧ o < 0x6000 then tableMask [all, 0xFFFFFF] (o % 8) else 0

/-- The mask of the stream table (Table — Stream descriptor). -/
def strMask (o : Nat) : Nat :=
  let all := 0xFFFFFFFF
  if o < 0x400 then tableMask [all, 0x7FFFF, 0x7FFFF, 0x7FFF, 0xFFFFF, 0xFFFF, all, all, 0xFFFFFF] o else all

/-- The bits of a window word that are not reserved: writes to the others are ignored, and they read as 0 (R6). -/
def winMask (a : Nat) : Word :=
  BitVec.ofNat 32 (
    if 0x180000 ≤ a ∧ a < 0x182000 then tableMask [0x1F1FFFFF, 0xF7F] (a % 32)
    else if 0x1B0000 ≤ a ∧ a < 0x1B0800 then tableMask [0xFFFFFFFF, 0xFFFFFFFF, 0xFFFFFFFF, 0xFFFFFFFF, 0xFFFFFFFF, 0xFFFFF] (a % 32)
    else if 0x200000 ≤ a ∧ a < 0x400000 then portMask (a % 0x20000)
    else if 0x2000000 ≤ a ∧ a < 0x2010000 then stitchMask (a - 0x2000000)
    else if strShadowAt ≤ a ∧ a < strShadowAt + 0x3800 then strMask (a % 0x800)
    else 0xFFFFFFFF)

/-- What a window word reads as at reset: the vector mask bit of the MSI-X table is 1 (PRESUMED: the PCI Express
specification; R577, R579), the stream table holds its reset values (R411, R428), all else is 0. -/
def winReset (a : Nat) : Word :=
  if 0x0C0000 ≤ a ∧ a < 0x0C0400 ∧ a % 16 = 12 then 1
  else if (strShadowAt ≤ a ∧ a < strShadowAt + 0x3800) ∨ (strActiveAt ≤ a ∧ a < strActiveAt + 0x3800) then strReset (a % 0x800)
  else 0

/-- A word of a table window, by BAR0 offset. -/
def State.win (s : State) (a : Nat) : Word := tabGet winReset s.window a

/-- A word of a table window written. -/
def State.setWin (s : State) (a : Nat) (w : Word) : State := { s with window := tabPut winReset a w s.window }

/-- The `len` bits from bit `lo` of the structure at window offset `base` (R2). -/
def State.winBits (s : State) (base lo len : Nat) : Nat :=
  nb (wordsNat ((List.range ((lo + len - 1) / 32 - lo / 32 + 1)).map fun i => s.win (base + 4 * (lo / 32 + i))))
    (lo % 32) len

/-- Bits of a window structure replaced, word by word. -/
def State.setWinBits (s : State) (base lo len v : Nat) : State :=
  let w0 := lo / 32
  let n := (lo + len - 1) / 32 - w0 + 1
  let old := wordsNat ((List.range n).map fun i => s.win (base + 4 * (w0 + i)))
  let new := nbSet old (lo % 32) len v
  (List.range n).foldl (fun s i => s.setWin (base + 4 * (w0 + i)) (BitVec.ofNat 32 (new / 2 ^ (32 * i)))) s

/-! ### DRAM (R510, R513, R700) -/

/-- MCG.CFG as last trained (R532). -/
def State.memCfg (s : State) (f : Fld) : Nat := wf (nth 0 s.trained 0) f.lo f.len

/-- The installed capacity in bytes: 12 × ranks × rank size (R510). -/
def State.capacity (s : State) : Nat :=
  12 * (s.memCfg Fd.MCG_CFG_RANKS2 + 1) * (2 ^ 30 * 2 ^ s.memCfg Fd.MCG_CFG_DENSITY)

/-- `n` bytes of DRAM. -/
def State.dram (s : State) (a n : Nat) : List Byte := tabGetList (blankByte s.blank) s.mem a n

/-- Whether a 64-byte line of a range holds an uncorrected error (R525), or the range passes the capacity (R513). -/
def State.dramBad (s : State) (a n : Nat) : Bool :=
  decide (s.capacity < a + n) ||
  (List.range ((a + n - 1) / 64 - a / 64 + 1)).any fun i => tabGet (dflt false) s.badLine (a / 64 + i)

/-- The 64-byte lines that a write of `n` bytes at `a` covers whole (R700). -/
def wholeLines (a n : Nat) : List Nat :=
  let first := (a + 63) / 64
  (List.range ((a + n) / 64 - first)).map fun i => first + i

/-- Bytes written to DRAM; a write beyond the capacity is discarded (R513), and a line written whole is good again
(R700). -/
def State.dramPut (s : State) (a : Nat) (l : List Byte) : State :=
  if s.capacity < a + l.length then s
  else { s with
    mem := tabPutList (blankByte s.blank) a l s.mem
    badLine := (wholeLines a l.length).foldl (fun t k => tabPut (dflt false) k false t) s.badLine }

/-- Fuse bits blown, never cleared (R625). -/
def State.blowFuses (s : State) (m : Nat) : State := { s with fuse := s.fuse ||| m }

/-- A range of DRAM blanked: every byte of it zero, or free under a seed. -/
def State.blankRange (s : State) (lo hi : Nat) (seed : Option Nat) : State :=
  { s with mem := tabClear lo hi s.mem, blank := ⟨lo, hi, seed⟩ :: s.blank }

/-- The number that `n` little-endian bytes of DRAM spell (R2). -/
def State.dramNat (s : State) (a n : Nat) : Nat := leNat (s.dram a n)

/-! ### Time (R29, R431, R432) -/

/-- Device time in units of 2^-16 ns at a raw value (R432). -/
def State.timeAt (s : State) (raw : Nat) : Nat :=
  ((raw : Int) + s.tb.offset * 65536 + s.tb.f16 + (((raw : Int) - s.tb.anchor) * s.tb.rate + 2 ^ 47) / 2 ^ 48).toNat

/-- Device time in units of 2^-16 ns. -/
def State.time16 (s : State) : Nat := s.timeAt s.raw

/-- Device time in nanoseconds (R29). -/
def State.time (s : State) : Nat := s.time16 / 65536

/-- The raw counter in nanoseconds. -/
def State.rawNs (s : State) : Nat := s.raw / 65536

/-- The raw value of the start of a position sampling cycle, counted from the raw origin in cycles of 10 ns. -/
abbrev rawOfCycle (c : Nat) : Nat := c * 655360

/-- The position sampling cycle in progress. -/
def State.cycle (s : State) : Nat := s.raw / 655360

/-- The raw counter carried forward to a value; time never goes back. -/
def State.advance (s : State) (raw : Nat) : State := { s with raw := Nat.max s.raw raw }

/-- The state at the arrival of an input of a position sampling cycle. -/
def State.atCycle (s : State) (c : Nat) : State := s.advance (rawOfCycle c)

/-- The state at the arrival of an input at a raw time in nanoseconds. -/
def State.atNs (s : State) (t : Nat) : State := s.advance (t * 65536)

/-! ### Outputs and free values -/

/-- Something that leaves the chip. -/
def State.emit (s : State) (o : Output) : State := { s with out := s.out ++ [o] }

/-- The model's counter of free values advanced. -/
def State.drawn (s : State) : State := { s with free := s.free + 1 }

/-- `n` free values drawn. -/
def State.drawnN (s : State) (n : Nat) : State := { s with free := s.free + n }

/-! ### Modes (R62) -/

/-- The mode's encoding in SYS.MODE.MODE (Table — Operating modes). -/
def Mode.code : Mode → Nat
  | .boot => 0 | .idle => 1 | .setup => 2 | .learn => 3 | .inspect => 4 | .changeover => 5 | .legacy => 6 | .hold => 7

/-- The mode that an encoding names. -/
def Mode.ofCode (n : Nat) : Mode :=
  match n with
  | 0 => .boot | 1 => .idle | 2 => .setup | 3 => .learn | 4 => .inspect | 5 => .changeover | 6 => .legacy | _ => .hold

/-- The operating mode (R62). -/
def State.mode (s : State) : Mode := Mode.ofCode (s.fld Pg.SYS Fd.SYS_MODE_MODE)

/-- Whether a job runs: LEARN, INSPECT, CHANGEOVER or LEGACY (gate level 26 of R464). -/
def Mode.job : Mode → Bool
  | .learn | .inspect | .changeover | .legacy => true
  | _ => false

/-- A block is enabled: its CTL.EN, or its page's own enable (Table — PAGE_CTL, EN). -/
def State.blockOn (s : State) (p : Nat) (en : Fld) : Bool := s.on p Fd.HDR_PAGE_CTL_EN && s.on p en

/-! ### One round of an arbiter (R252-R255) -/

/-- A round: the requester granted before is served if it still requests, else the round is dead; the grant for the next
round is the highest requester present at its start, of whose requests the one in service is none: a requester is listed once for each
request it has. Answers the requester served and whether the round was dead. -/
def State.arbRound (s : State) (a : Nat) (reqs : List Nat) : State × Option Nat × Bool :=
  let g := (tabGet (dflt {}) s.arb a).grant
  let served := match g with | some r => if reqs.contains r then some r else none | none => none
  let rest := match served with | some r => reqs.erase r | none => reqs
  let next := if rest.isEmpty then none else some (maxN rest)
  ({ s with arb := tabPut (dflt {}) a ⟨next⟩ s.arb }, served, g.isSome && served.isNone)

/-! ### Byte FIFOs -/

/-- A byte FIFO's contents: 2n and 2n + 1 TWLn receive and transmit, 8 and 9 MTWI receive and transmit, 10 QSPI. -/
def State.fifoOf (s : State) (f : Nat) : List Byte := tabGet (dflt []) s.fifo f

def State.setFifo (s : State) (f : Nat) (l : List Byte) : State := { s with fifo := tabPut (dflt []) f l s.fifo }

/-- The depth of a byte FIFO (Table — TWL page, Table — MTWI page, Table — QSPI page). -/
abbrev fifoDepth (f : Nat) : Nat := if f < 10 then 16 else 256

/-- Bytes put into a FIFO as far as they fit. -/
def State.fifoPut (s : State) (f : Nat) (l : List Byte) : State :=
  s.setFifo f ((s.fifoOf f ++ l).take (Nat.max (fifoDepth f) (s.fifoOf f).length))

/-- The register data that `n` bytes of a FIFO give, bytes that an empty FIFO lacks reading as 0. -/
def State.fifoGet (s : State) (f n : Nat) : State × List Byte :=
  let l := s.fifoOf f
  (s.setFifo f (l.drop n), l.take n ++ List.replicate (n - l.length) 0)

/-- An engine whose work is over: what its item queues still hold belongs to no band. -/
def Eng.stopped (x : Eng) : Eng := { fifo := x.fifo.map fun _ => .gone, put := x.put, got := x.got }

end Sys2Proof.Machine
end

