-- ==== Sys2Proof/Machine/Flags.lean ====
section
/-!
DEFINITION. Flags and interrupts: PAGE_STAT.ERR and IRQ_STAT (R662), the MSI-X messages of R579 and IRQ_N (R581).
-/
namespace Sys2Proof.Machine

/-- The MSI-X vector of a page (Table — MSI-X vectors). -/
def vectorOf (p : Nat) : Nat :=
  match pageAt p with
  | none => 0
  | some (k, n) => match k with
    | .sys | .supv0 | .supv1 => 0
    | .fuse | .boot | .clk | .hlth | .tst => 1
    | .cp => 2 + n / 2
    | .pos | .dlr => 10
    | .pp => 11
    | .sti | .reg => 12
    | .mst => 13
    | .ie => 14
    | .mrg | .rul => 15
    | .vrd => 16
    | .dec | .str => 17
    | .tb => 18
    | .crl => 19
    | .evf => 20
    | .qf => 21
    | .dma => 22
    | .zip => 23
    | .mc | .mcg => 24
    | .eth => 25
    | .net => 26
    | .pcie => 27
    | .mtwi | .twl | .qspi | .pins0 | .pins1 => 28

/-- An MSI-X message of a vector: sent, or kept in the PBA while the vector's mask bit is 1 (R577, R579). -/
def State.msix (s : State) (v : Nat) : State :=
  if s.winBits (0x0C0000 + 16 * v) 96 1 = 1 then s.setWinBits 0x0C1000 v 1 1
  else (s.bump Pg.PCIE (whole Rg.PCIE_MSG_CNT)).emit (.msix v)

/-- A cause bit of a page's IRQ_STAT set. A bit that changes from 0 to 1 unmasked sends the page's message (R579). -/
def State.irq (s : State) (p bit : Nat) : State :=
  let f : Fld := ⟨Rg.HDR_IRQ_STAT, bit, 1⟩
  let t := s.setFld p f 1
  if s.on p f || s.on p ⟨Rg.HDR_IRQ_MASK, bit, 1⟩ then t else t.msix (vectorOf p)

/-- PAGE_STAT.ERR: at least one W1C error flag of the block's STAT is set. -/
def State.err (s : State) (p : Nat) : Bool :=
  match errFlags p with
  | none => false
  | some (o, m) => ((s.rd p o).toNat &&& m) != 0

/-- PAGE_STAT.ERR brought up to date; its change from 0 to 1 sets IRQ_STAT bit 31 (R662). -/
def State.errEdge (s : State) (p : Nat) : State :=
  let was := s.on p Fd.HDR_PAGE_STAT_ERR
  let t := s.setBit p Fd.HDR_PAGE_STAT_ERR (s.err p)
  if !was && s.err p then t.irq p 31 else t

/-- A status flag set. -/
def State.flag (s : State) (p : Nat) (f : Fld) : State := (s.setFld p f 1).errEdge p

/-- A status flag set for every index of a list, in a field with one bit per index. -/
def State.flagBit (s : State) (p : Nat) (f : Fld) (k : Nat) : State := s.flag p ⟨f.off, f.lo + k, 1⟩

end Sys2Proof.Machine
end

