-- ==== Sys2Proof/Machine/Queues.lean ====
section
/-!
DEFINITION. The queue store: words, credits, parity, levels and the DRAM extension (R479-R493), as operations that every
producer and consumer shares. One call is one round of the queue.
-/
namespace Sys2Proof.Machine

/-- TAG values of Table — Queue word tags. -/
abbrev tagValid : Nat := 0
abbrev tagNotValid : Nat := 1
abbrev tagPoisoned : Nat := 2
abbrev tagGap : Nat := 3

/-- The window offset of a queue's descriptor (R481). -/
abbrev qdesc (q : Nat) : Nat := 0x100000 + 64 * q

/-- A field of a queue's descriptor in force, by its lowest bit and width (Table — Queue descriptor). -/
def State.qd (s : State) (q lo len : Nat) : Nat := s.winBits (qdesc q) lo len

def State.qCap (s : State) (q : Nat) : Nat := s.qd q 32 22
def State.qRsv (s : State) (q : Nat) : Nat := s.qd q 64 16
def State.qEn (s : State) (q : Nat) : Bool := s.qd q 80 1 == 1 && s.on Pg.QF Fd.QF_CTL_EN
def State.qExt (s : State) (q : Nat) : Bool := s.qd q 81 1 == 1
def State.qHostEnd (s : State) (q : Nat) : Nat := s.qd q 82 2
def State.qLevel (s : State) (q : Nat) : Nat := s.qd q 96 24
def State.qExtBase (s : State) (q : Nat) : Nat := s.qd q 128 64
def State.qExtLines (s : State) (q : Nat) : Nat := s.qd q 192 32

/-- A queue's contents. -/
def State.q (s : State) (q : Nat) : Queue := tabGet (dflt {}) s.queue q

def State.setQ (s : State) (q : Nat) (v : Queue) : State := { s with queue := tabPut (dflt {}) q v s.queue }

/-- The total capacity (R481). -/
def State.qTotal (s : State) (q : Nat) : Nat := s.qCap q + if s.qExt q then 7 * s.qExtLines q else 0

/-- DEPTH: words on-chip and in DRAM. -/
def Queue.depth (v : Queue) : Nat := v.words.length + v.extLen

/-- CREDITS: credits granted and not yet used. -/
def Queue.credits (v : Queue) : Nat := sumN (v.creds.map (·.2))

/-- The credits of one holder. -/
def Queue.credOf (v : Queue) (h : Nat) : Nat := sumN ((v.creds.filter (·.1 == h)).map (·.2))

/-- The credits of one holder replaced; a holder of none is not listed. -/
def Queue.setCred (v : Queue) (h n : Nat) : Queue :=
  let rest := v.creds.filter (·.1 != h)
  { v with creds := if n = 0 then rest else insertBy (·.1) (h, n) rest }

/-- Free space of a producer (R484); one that may draw on the reserve takes free + RSV. -/
def State.qFree (s : State) (q : Nat) (reserve : Bool) : Nat :=
  s.qTotal q - (if reserve then 0 else s.qRsv q) - (s.q q).depth - (s.q q).credits

/-- A request for `n` credits, granted whole or refused in the same handshake (R484). -/
def State.qRequest (s : State) (q holder n : Nat) (reserve : Bool) : State × Bool :=
  if s.qEn q && decide (n ≤ s.qFree q reserve) then
    (s.setQ q ((s.q q).setCred holder ((s.q q).credOf holder + n)), true)
  else (s.bump Pg.QF ⟨Rg.QF_REFUSE_CNT, 0, 16⟩, false)

/-- Credits of a holder returned to free space (R497). -/
def State.qReturn (s : State) (q holder : Nat) : State := s.setQ q ((s.q q).setCred holder 0)

/-- The parity bit over the data, the tag and the two frame marks, even (R479). -/
def parityOf (d : Word64) (tag : Nat) (sof eof : Bool) : Bool :=
  (popcount 64 d.toNat + popcount 2 tag + b2n sof + b2n eof) % 2 == 1

/-- A word as the store keeps it. -/
def mkWord (d : Word64) (tag : Nat) (sof eof : Bool) : QWord :=
  ⟨d, tag, sof, eof, parityOf d tag sof eof⟩

/-- QF.LVL_CNT and IRQ_STAT.LEVEL follow the level list (R490, R508). -/
def State.showLevels (s : State) : State :=
  let t := s.setFld Pg.QF Fd.QF_LVL_CNT_b0 s.levels.length
  if s.levels.isEmpty then t.setFld Pg.QF ⟨Rg.HDR_IRQ_STAT, 0, 1⟩ 0 else t.irq Pg.QF 0

/-- The level interrupt of a queue whose DEPTH has risen to LEVEL (R490). -/
def State.qLevelCheck (s : State) (q : Nat) : State :=
  let v := s.q q
  if 0 < s.qLevel q ∧ v.depth = s.qLevel q then
    let t := s.setQ q { v with levelHit := true }
    (if t.levels.contains q then t else { t with levels := t.levels ++ [q] }).showLevels
  else s

/-- The DRAM address of a ring word's line, and the word's place in it (R492). -/
def State.ringAt (s : State) (q k : Nat) : Nat × Nat :=
  let n := k % (7 * s.qExtLines q)
  (s.qExtBase q + 64 * (n / 7), n % 7)

/-- A ring word written: data, and its TAG, SOF and EOF nibble (R492). -/
def State.ringPut (s : State) (q k : Nat) (w : QWord) : State :=
  let (a, i) := s.ringAt q k
  let s := s.dramPut (a + 8 * i) (leBytes 8 w.data.toNat)
  let meta_ := nbSet (s.dramNat (a + 56) 4) (4 * i) 4 (w.tag + 4 * b2n w.sof + 8 * b2n w.eof)
  s.dramPut (a + 56) (leBytes 4 meta_)

/-- A ring word read back; the store gives it a fresh parity bit (R492). -/
def State.ringGet (s : State) (q k : Nat) : QWord :=
  let (a, i) := s.ringAt q k
  let m := nb (s.dramNat (a + 56) 4) (4 * i) 4
  mkWord (BitVec.ofNat 64 (s.dramNat (a + 8 * i) 8)) (nb m 0 2) (tbit m 2) (tbit m 3)

/-- A word stored past the words of an extended queue, in its DRAM ring (R491). -/
def State.extPut (s : State) (q : Nat) (w : QWord) : State :=
  let v := s.q q
  ((s.ringPut q (v.extHead + v.extLen) w).setQ q { v with extLen := v.extLen + 1, extUsed := true }).bumpBy
    Pg.QF Fd.QF_EXT_CNT_b0 1

/-- One word pushed (R480, R485, R491): to the ring while it holds words or the on-chip region is full. -/
def State.qPut (s : State) (q : Nat) (d : Word64) (tag : Nat) (sof eof : Bool) : State :=
  let s := if tag = tagNotValid then s.flag Pg.QF Fd.QF_STAT_BAD_TAG else s
  let w := mkWord d (if tag = tagNotValid then tagPoisoned else tag) sof eof
  let v := s.q q
  let s :=
    if s.qExt q && (decide (0 < v.extLen) || decide (s.qCap q ≤ v.words.length)) then
      s.extPut q w
    else s.setQ q { v with words := v.words ++ [w] }
  let v := s.q q
  (s.setQ q { v with hwm := Nat.max v.hwm v.depth, open_ := !eof && (v.open_ || sof) }).qLevelCheck q

/-- A push by a holder of a credit, which the push uses. -/
def State.qPush (s : State) (q holder : Nat) (d : Word64) (tag : Nat) (sof eof : Bool) : State :=
  let v := s.q q
  (s.setQ q (v.setCred holder (v.credOf holder - 1))).qPut q d tag sof eof

/-- Words of a frame pushed in turn with one tag, SOF on the first and EOF on the last. -/
def State.qPutFrame (s : State) (q : Nat) (l : List Word64) (tag : Nat) : State :=
  (l.zipIdx.foldl (fun s (p : Word64 × Nat) => s.qPut q p.1 tag (p.2 == 0) (p.2 + 1 == l.length)) s)

end Sys2Proof.Machine
end

