-- ==== Sys2Proof/Machine/EthOps.lean ====
section
/-!
DEFINITION. Ethernet ports and frames (R552-R556): whether a port sends, the bytes of a UDP datagram's frame, and the counters
of a frame sent.
-/
namespace Sys2Proof.Machine

/-- A port's MAC address. -/
def State.ethMac (s : State) (n : Nat) : Nat :=
  (s.rd (Pg.ETH n) Rg.ETH_MAC_LO).toNat + 2 ^ 32 * s.fld (Pg.ETH n) Fd.ETH_MAC_HI_MAC

/-- Whether a port's link is up. -/
def State.ethUp (s : State) (n : Nat) : Bool := s.blockOn (Pg.ETH n) Fd.ETH_CTL_EN && s.on (Pg.ETH n) Fd.ETH_STAT_LINK

/-- Whether a port sends: its link is up and its MAC address is not 0 (R553). -/
def State.ethSends (s : State) (n : Nat) : Bool := s.ethUp n && s.ethMac n != 0

/-- Bytes sent on a port, counted in units of 4,096. -/
def State.txBytes (s : State) (n bytes : Nat) : State :=
  let r := tabGet (dflt 0) s.net.txRem n + bytes
  let s := s.bumpBy (Pg.ETH n) (whole Rg.ETH_TX_BYTES) (r / 4096)
  { s with net := { s.net with txRem := tabPut (dflt 0) n (r % 4096) s.net.txRem } }

/-- A frame of some bytes sent on a port, counted. -/
def State.countTx (s : State) (n bytes : Nat) : State := (s.bump (Pg.ETH n) (whole Rg.ETH_TX_FRM)).txBytes n bytes

/-- The entry of a session in force, past BAR0 (R557). -/
abbrev sessActiveAt (k : Nat) : Nat := 0x3200000 + 64 * k

/-- A word of a session's queue sent on the session's port: its bytes, and at the end of a frame the frame and the datagram,
counted (R556). -/
def State.countWord (s : State) (q : Nat) (w : QWord) : State :=
  if 4096 ≤ q ∧ q < 6144 then
    let n := s.winBits (sessActiveAt ((q - 4096) / 2)) 2 1
    let s := s.txBytes n 8
    if w.eof then (s.bump (Pg.ETH n) (whole Rg.ETH_TX_FRM)).bump Pg.NET (whole Rg.NET_TX_DGRAM) else s
  else s

/-- The largest IPv4 datagram of a port (R553): a value outside its range counts as the nearer bound. -/
def State.mtu (s : State) (n : Nat) : Nat := Nat.max 576 (Nat.min 9000 (s.fld (Pg.ETH n) Fd.ETH_MTU_MTU))

/-! ### Frames -/

/-- The one's complement sum of the big-endian 16-bit words of some bytes. -/
def sum16 : List Byte → Nat
  | a :: b :: t => 256 * a.toNat + b.toNat + sum16 t
  | [a] => 256 * a.toNat
  | [] => 0

/-- The Internet checksum of some bytes. -/
def checksum (l : List Byte) : Nat :=
  let x := sum16 l
  65535 - (if x = 0 then 0 else (x - 1) % 65535 + 1)

/-- An IPv4 datagram with a UDP datagram (R552): DF set, no options, the UDP checksum sent. -/
def ipUdp (src dst dscp ttl ident sport dport : Nat) (data : List Byte) : List Byte :=
  let ulen := 8 + data.length
  let head (sum : Nat) : List Byte :=
    beBytes 1 0x45 ++ beBytes 1 (4 * dscp) ++ beBytes 2 (20 + ulen) ++ beBytes 2 ident ++ beBytes 2 0x4000 ++ beBytes 1 ttl ++
      beBytes 1 17 ++ beBytes 2 sum ++ beBytes 4 src ++ beBytes 4 dst
  let udp (sum : Nat) : List Byte := beBytes 2 sport ++ beBytes 2 dport ++ beBytes 2 ulen ++ beBytes 2 sum ++ data
  let sum := checksum (beBytes 4 src ++ beBytes 4 dst ++ beBytes 2 17 ++ beBytes 2 ulen ++ udp 0)
  head (checksum (head 0)) ++ udp (if sum = 0 then 65535 else sum)

/-- An Ethernet frame without its FCS: destination, source, the tag's PCP and VID if it has one, Ethertype and payload. -/
def ethFrame (dst src : Nat) (tag : Option (Nat × Nat)) (type : Nat) (payload : List Byte) : List Byte :=
  beBytes 6 dst ++ beBytes 6 src ++
  (match tag with | some (pcp, vid) => beBytes 2 0x8100 ++ beBytes 2 (8192 * pcp + vid) | none => []) ++ beBytes 2 type ++ payload

/-- The bytes of a frame as the 64-bit words of a queue, the last padded with 0. -/
def frameWords (l : List Byte) : List Word64 :=
  (List.range ((l.length + 7) / 8)).map fun i => BitVec.ofNat 64 (leNat ((l.drop (8 * i)).take 8))

/-- The MAC address of an IPv4 group. -/
def groupMac (ip : Nat) : Nat := 0x01005E000000 + ip % 2 ^ 23

/-- Whether an IPv4 address is a group. -/
def isGroup (ip : Nat) : Bool := ip / 2 ^ 28 == 0xE

end Sys2Proof.Machine
end

