-- ==== Sys2Proof/Machine/LinkOps.lean ====
section
/-!
DEFINITION. The lanes of a port, its uplink packets and the starts and stops of its link (R123, R147, R156, R166, R198, R201):
what a change of PORT_CTL in force sets off at once.
-/
namespace Sys2Proof.Machine

/-- The port's PORT_CTL has EN and the page is enabled (Table — PAGE_CTL). -/
def State.portOn (s : State) (p : Nat) : Bool := s.blockOn (Pg.CP p) Fd.CP_PORT_CTL_EN && s.mode != .boot

/-- The lane count of a port (Table — CPn.PORT_CTL). -/
def State.lanes (s : State) (p : Nat) : Nat := 2 ^ s.fld (Pg.CP p) Fd.CP_PORT_CTL_LANES

/-- The port that a quad's lanes belong to: an odd quad of a ganged pair belongs to the even port (R123, R198). -/
def State.portOfQuad (s : State) (q : Nat) : Nat :=
  if q % 2 = 1 && s.portOn (q - 1) && s.fld (Pg.CP (q - 1)) Fd.CP_PORT_CTL_LANES == 3 then q - 1 else q

/-- The port lane that lane `m` of quad `q` is (R123, R199). -/
def State.laneOf (s : State) (q m : Nat) : Nat := (q - s.portOfQuad q) * 4 + m

/-- The link state of a port (Table — Link states). -/
abbrev lkDisabled : Nat := 0
abbrev lkBase : Nat := 1
abbrev lkRate : Nat := 2
abbrev lkTrain : Nat := 3
abbrev lkAlign : Nat := 4
abbrev lkActive : Nat := 5
abbrev lkFailed : Nat := 6
def State.linkState (s : State) (p : Nat) : Nat := s.fld (Pg.CP p) Fd.CP_LINK_STAT_STATE
def State.setLink (s : State) (p st : Nat) : State := s.setFld (Pg.CP p) Fd.CP_LINK_STAT_STATE st

def State.link_ (s : State) (p : Nat) : Link := tabGet (dflt {}) s.link p
def State.putLink (s : State) (p : Nat) (l : Link) : State := { s with link := tabPut (dflt {}) p l s.link }

/-- The training of lane `m` of a port. -/
def State.train_ (s : State) (p m : Nat) : Train := tabGet (dflt {}) s.train (8 * p + m)
def State.putTrain (s : State) (p m : Nat) (t : Train) : State :=
  { s with train := tabPut (dflt {}) (8 * p + m) t s.train }

/-- Symbol lock of lane `m` of a port (R199). -/
def State.locked (s : State) (p m : Nat) : Bool := s.on (Pg.CP (p + m / 4)) (Fd.CP_LANE_STAT_LOCK (m % 4))

/-! ### The uplink (R147, R152, R153) -/

/-- The 18 symbols of an uplink packet: SOP, its body (Table — Uplink packet body), the CRC-32C of the body, EOP (R147). -/
def uplinkSyms (type tag arg0 arg1 addr data : Nat) : List ObvSym :=
  let body := leBytes 1 type ++ leBytes 1 tag ++ leBytes 1 arg0 ++ leBytes 1 arg1 ++ leBytes 4 addr ++ leBytes 4 data
  .sop :: ((body ++ leBytes 4 (crc32c body)).map .data ++ [.eop])

/-- The 8 symbols of a trigger: TRG, the line number, and the CRC-8 of its bytes (R152). -/
def triggerSyms (line : Nat) : List ObvSym :=
  .trg :: (leBytes 6 line ++ leBytes 1 (crc8 (leBytes 6 line))).map .data

/-- An uplink packet leaves a port (R147). -/
def State.uplink (s : State) (p type tag arg0 arg1 addr data : Nat) : State := s.emit (.uplink p (uplinkSyms type tag arg0 arg1 addr data))

/-- A trigger leaves a port, ahead of what is still to leave of a packet (R153). How much that is, symbol times decide, which the model does
not have: a free value (DESIGN CHOICE, log entry 82). -/
def State.trigger (s : State) (p line : Nat) : State := s.emit (.trigger p (triggerSyms line) (Nat.min 18 (Config.uplinkLeft p line)))

/-- The symbols on a port's uplink, the COM between messages left out: each trigger stands where it interrupts the packet before it, and the
packet resumes behind it (R153). -/
def uplinkStream (p : Nat) (out : List Output) : List ObvSym :=
  let r := out.foldl (fun (a : List ObvSym × List ObvSym) o =>
    match o with
    | .uplink q l => if q = p then (a.1 ++ a.2, l) else a
    | .trigger q l k => if q = p then (a.1 ++ a.2.take (a.2.length - k) ++ l, a.2.drop (a.2.length - k)) else a
    | _ => a) ([], [])
  r.1 ++ r.2

/-- A LINK command (R156): 0 BASE, 1 SET, 2 ALIGN, 3 ACTIVE, with the lane count and the rate. -/
def State.linkCmd (s : State) (p c : Nat) : State :=
  s.uplink p 0x85 0 c (s.lanes p) (s.fld (Pg.CP p) Fd.CP_PORT_CTL_RATE) 0

/-- The next register request tag of a port. -/
def State.nextTag (s : State) (p : Nat) : Nat := ((s.link_ p).tag + 1) % 256

/-- The identity register that the bring-up needs next is requested (R164). -/
def State.readIdent (s : State) (p : Nat) : State :=
  let l := s.link_ p
  let tag := s.nextTag p
  let a := 4 * l.identN
  (s.putLink p { l with tag := tag, req := some ⟨tag, a, false, none⟩ }).uplink p 0x82 tag 0 0 a 0

/-- The host's register request sent (R147, R151): a REG_WRITE with its data, or a REG_READ. A request is sent in BASE, ALIGN and
ACTIVE only; in the other states it stays outstanding unsent until its timeout. -/
def State.hostCamReq (s : State) (p a : Nat) (data : Option Nat) : State :=
  let l := s.link_ p
  let tag := s.nextTag p
  let st := s.linkState p
  let s := s.putLink p { l with tag := tag, req := some ⟨tag, a, true, data⟩, want := none }
  if st = lkBase ∨ st = lkAlign ∨ st = lkActive then s.uplink p (if data.isSome then 0x81 else 0x82) tag 0 0 a (data.getD 0)
  else s

/-- The next register request of a port with none outstanding: an identity register in BASE with lock on lane 0, else the
host's (R151, R164). -/
def State.nextRequest (s : State) (p : Nat) : State :=
  let l := s.link_ p
  if l.req.isSome then s
  else if s.linkState p = lkBase ∧ s.locked p 0 ∧ l.identN < 8 then s.readIdent p
  else match l.want with
    | some (a, data) => s.hostCamReq p a data
    | none => s

/-! ### The receive domain of a port (R44, R672) -/

/-- A clock domain loses lock: its LOCK bit clears, its LOST bit sets, and FREQ reads 0 while it is stopped. -/
def State.clkLost (s : State) (d : Nat) : State :=
  let s := s.setFld Pg.CLK ⟨Rg.CLK_LOCK0 + 4 * (d / 32), d % 32, 1⟩ 0
  let s := s.setFld Pg.CLK ⟨Rg.CLK_LOST0 + 4 * (d / 32), d % 32, 1⟩ 1
  s.wr Pg.CLK (Rg.CLK_FREQ d) 0

/-- The receive domain of a port stops, as the port does: it is recovered from lane 0. -/
def State.clkStop (s : State) (p : Nat) : State := (s.setFld Pg.CLK ⟨Rg.CLK_LOCK0, p, 1⟩ 0).wr Pg.CLK (Rg.CLK_FREQ p) 0

/-- The receive domain of a port runs at a measured frequency, kHz. -/
def State.clkRun (s : State) (p kHz : Nat) : State :=
  (s.setFld Pg.CLK ⟨Rg.CLK_LOCK0, p, 1⟩ 1).wr Pg.CLK (Rg.CLK_FREQ p) (BitVec.ofNat 32 kHz)

/-- A port enters BASE and the WX16 sends LINK BASE (R166). -/
def State.enterBase (s : State) (p : Nat) : State :=
  let l := s.link_ p
  let s := (s.setLink p lkBase).setFld (Pg.CP p) Fd.CP_LINK_STAT_NO_CAMERA 0
  let s := s.setFld (Pg.CP p) Fd.CP_LINK_STAT_DESKEW_OK 0
  let req := l.req.filter (·.host)
  let s := s.putLink p { l with ident := [], identN := 0, req := req, goodMarks := 0, badMarks := [] }
  let s := (List.range 8).foldl (fun s m => s.putTrain p m { tag := (s.train_ p m).tag }) s
  (s.linkCmd p 0).nextRequest p

/-- A port's lanes lose their locks as its downlink is ignored (Table — Link states, DISABLED and FAILED), and its receive domain stops. -/
def State.dropLocks (s : State) (p : Nat) : State :=
  let s := s.clkStop p
  (List.range (s.lanes p)).foldl (fun s m => s.setFld (Pg.CP (p + m / 4)) (Fd.CP_LANE_STAT_LOCK (m % 4)) 0) s

/-- A port enters DISABLED (R166). -/
def State.disablePort (s : State) (p : Nat) : State :=
  let s := ((s.dropLocks p).setLink p lkDisabled).setFld (Pg.CP p) Fd.CP_LINK_STAT_DESKEW_OK 0
  s.setFld (Pg.CP p) Fd.CP_LINK_STAT_NO_CAMERA 0

/-- The link follows the port's enable: DISABLED while it is off, BASE when it turns on (R166). -/
def State.portSync (s : State) (p : Nat) : State :=
  if !s.portOn p then (if s.linkState p = lkDisabled then s else s.disablePort p)
  else if s.linkState p = lkDisabled then s.enterBase p
  else s

/-- The view's next line is a context boundary of a port (R214). -/
def State.cutPort (s : State) (p : Nat) : State :=
  let x := tabGet (dflt {}) s.intake p
  match x.next with
  | none => s
  | some _ => { s with intake := tabPut (dflt {}) p { x with cuts := x.cuts ++ [(tabGet (dflt {}) s.tg x.view).next] } s.intake }

/-- PORT_CTL of a port has changed in force: an enabled port restarts from BASE (R201), and the intake has a context boundary (R214). -/
def State.portChanged (s : State) (p : Nat) : State :=
  let s := s.cutPort p
  if s.portOn p then s.enterBase p else s.portSync p

end Sys2Proof.Machine
end

