-- ==== Sys2Proof/Machine/Commit.lean ====
section
/-!
DEFINITION. Commits of shadowed registers (R666-R669): a commit in parts, each with its boundary, and what a boundary applies.
-/
namespace Sys2Proof.Machine

/-- The pending commit of a page. -/
def State.pend (s : State) (p : Nat) : Option Pend := tabGet (dflt none) s.commits p

/-- The pending commit of a page replaced; COMMIT.PENDING and PAGE_STAT.COMMIT_PENDING follow. -/
def State.setPend (s : State) (p : Nat) (v : Option Pend) : State :=
  let s := { s with commits := tabPut (dflt none) p v s.commits }
  (s.setBit p Fd.HDR_COMMIT_PENDING v.isSome).setBit p Fd.HDR_PAGE_STAT_COMMIT_PENDING v.isSome

/-- The address, outside BAR0, of a view's own copy of a register that takes effect for each view separately (R292,
R429). -/
abbrev viewKey (p off v : Nat) : Nat := 2 ^ 24 + (p * 4096 + off) * 4 + v

/-- A view's own copy of a register (R292, R429). -/
def State.rdView (s : State) (p off v : Nat) : Word := tabGet regReset s.regs (viewKey p off v)

/-- The offsets of the RWS registers of a page. -/
def rwsOffsets (p : Nat) : List Nat :=
  match pageAt p with
  | none => []
  | some (k, _) => ((kindRegs k).filter fun r => r.rws != 0).map (·.off)

/-- The RWS bits of a register. -/
def rwsMask (a : Nat) : Nat := match regDefAt a with | some r => r.rws.toNat | none => 0

/-- A register word in which the RWS bits are those of a snapshot. -/
def mergeRws (a : Nat) (old new : Word) : Word :=
  let m : Word := BitVec.ofNat 32 (rwsMask a)
  (old &&& ~~~ m) ||| (new &&& m)

/-- The snapshot of every RWS register of a page (R666). -/
def State.snapshot (s : State) (p : Nat) : List (Nat × Word) :=
  (rwsOffsets p).map fun o => (p * 4096 + o, s.rdShadow p o)

/-- The registers of which every view holds a copy of its own (R292, R335, R429): REG.CTL, DEC.CTL and MST.ADAPT_CTL. -/
abbrev perView (p off : Nat) : Bool :=
  (p == Pg.REG && off == Rg.REG_CTL) || (p == Pg.DEC && off == Rg.DEC_CTL) || (p == Pg.MST && off == Rg.MST_ADAPT_CTL)

/-- What a change in force of a register sets off at once: a port's link (R201), a position channel's HOME index and
counter (R105, R106), and the views' copies of a register that each of them takes separately. -/
def State.regHook (s : State) (a : Nat) (old new : Word) : State :=
  let p := a / 4096
  let o := a % 4096
  if a < 2 ^ 24 ∧ perView p o then
    (List.range 4).foldl (fun (s : State) v => { s with regs := tabPut regReset (viewKey p o v) new s.regs }) s
  else if old = new then s
  else if Pg.CP 0 ≤ p ∧ p < Pg.CP 16 ∧ o = Rg.CP_PORT_CTL then s.portChanged (p - Pg.CP 0)
  else if p = Pg.POS then
    (List.range 2).foldl (fun s c =>
      let x := tabGet (dflt {}) s.chan c
      let index (w : Word) : Nat := wf w 3 2
      if o = Rg.POS_CH_CTL c ∧ index new = 1 ∧ index old ≠ 1 then { s with chan := tabPut (dflt {}) c { x with homed := false } s.chan }
      else if o = Rg.POS_CH_CPR c then
        s.wr p (Rg.POS_CH_COUNT c) (BitVec.ofNat 32 ((s.rd p (Rg.POS_CH_COUNT c)).toNat % Nat.max 1 new.toNat))
      else s) s
  else s

/-- Registers of a part in force; addresses from 0x200_0000 upwards are words of table spaces past BAR0 (R428). -/
def State.putRegs (s : State) (l : List (Nat × Word)) : State :=
  l.foldl (fun s e =>
    if 0x2000000 ≤ e.1 then s.setWin e.1 e.2 else
    let old := tabGet regReset s.regs e.1
    let new := if e.1 < 2 ^ 24 then mergeRws e.1 old e.2 else e.2
    { s with regs := tabPut regReset e.1 new s.regs }.regHook e.1 old new) s

/-- The commit record of a page and view (R669). -/
def State.cmt (s : State) (p v : Nat) : Option CmtRec := tabGet (dflt none) s.cmtRec (4 * p + v)

/-- A commit of a page completes: a register that the views have taken one by one holds its new value, GEN increments, PENDING clears
and SYS keeps the first line of every view (R57, R666, R669). -/
def State.commitDone (s : State) (p : Nat) (c : Pend) : State :=
  let taken := [Rg.REG_CTL, Rg.MST_ADAPT_CTL].filter fun o => perView p o && (List.range 4).any fun v => s.rdView p o v != s.rd p o
  let s := taken.foldl (fun (s : State) o => s.putRegs (c.snap.filter fun e => e.1 == p * 4096 + o)) s
  let g := (s.fld p Fd.HDR_PAGE_STAT_GEN + 1) % 65536
  let s := (s.setPend p none).setFld p Fd.HDR_PAGE_STAT_GEN g
  c.lines.foldl (fun s l =>
    { s with cmtRec := tabPut (dflt none) (4 * p + l.1) (some ⟨l.2, c.at_, g, s.time⟩) s.cmtRec }) s

/-- The parts of a page's pending commit that a test selects take effect, in order, with the first line recorded. -/
def State.applyParts (s : State) (p : Nat) (due : Bound → Bool) (line : Option Nat) : State :=
  match s.pend p with
  | none => s
  | some c =>
    let now := c.parts.filter fun x => due x.bound
    if now.isEmpty then s
    else
      let s := now.foldl (fun s x => s.putRegs x.regs) s
      let c := { c with
        parts := c.parts.filter fun x => !due x.bound
        lines := now.foldl (fun l x => x.views.foldl (fun l v => if l.any (·.1 == v) then l else l ++ [(v, line)]) l) c.lines }
      if c.parts.isEmpty then s.commitDone p c else s.setPend p (some c)

/-- Whether a boundary is reached at line `n` of a view, which lies in repeat `r`, before or past the view's changeover
line. -/
def Bound.reached (b : Bound) (v n r : Nat) (past : Bool) : Bool :=
  match b with
  | .now => true
  | .line w m => w == v && decide (m ≤ n)
  | .repeatStart w q => w == v && decide (q ≤ r)
  | .repeatOver w q c => w == v && (if n < c then decide (q ≤ r) else decide (1 ≤ r))
  | .job w => w == v && past
  | .update _ => false
  | .stream _ => false

/-- The boundaries of a page at line `n` of a view (R15, R666). -/
def State.boundary (s : State) (p v n r : Nat) (past : Bool) : State :=
  s.applyParts p (fun b => b.reached v n r past) (some n)

/-- The pages whose RWS registers belong to a job (DEDUCED: the blocks whose settings the job library holds, R73). -/
def jobPages : List Nat :=
  [Pg.STI, Pg.REG, Pg.MRG, Pg.RUL, Pg.VRD, Pg.MST] ++ (List.range 8).map Pg.IE ++ [Pg.ZIP]

/-- What the pending commits of pages hold for a view takes effect as that view stops receiving line triggers (R668). -/
def State.viewStopped (s : State) (v : Nat) (pages : List Nat) : State :=
  pages.foldl (fun s p => s.applyParts p (fun b => match b with
    | .line w _ | .repeatStart w _ | .repeatOver w _ _ | .update w | .job w => w == v
    | _ => false) none) s

/-- An uncommitted shadow discarded whole: every RWS register of the page reads the last accepted values again (R619). -/
def State.discardShadow (s : State) (p : Nat) : State :=
  (rwsOffsets p).foldl (fun s o =>
    let v := match s.pend p with
      | some c => ((c.snap.find? (·.1 == p * 4096 + o)).map (·.2)).getD (s.rd p o)
      | none => s.rd p o
    s.wrShadow p o v) s

end Sys2Proof.Machine
end

