-- ==== Sys2Proof/Machine/StreamOps.lean ====
section
/-!
DEFINITION. What every block may do with a host stream: read its descriptor in force (R428) and stop it (R422).
-/
namespace Sys2Proof.Machine

def State.str_ (s : State) (n : Nat) : Stream := tabGet (dflt {}) s.stream n
def State.putStr (s : State) (n : Nat) (x : Stream) : State := { s with stream := tabPut (dflt {}) n x s.stream }

/-- A field of a stream's descriptor in force (R428). -/
def State.strD (s : State) (n lo len : Nat) : Nat := s.winBits (strActiveAt + 0x800 * n) lo len

/-- D of a stream (Table — Stream descriptor). -/
def State.strStep (s : State) (n : Nat) : Nat := 2 ^ s.strD n 9 3

/-- The view of a stream: its source, or its port's view. -/
def State.strView (s : State) (n : Nat) : Nat :=
  if s.strD n 0 2 = 1 then s.fld Pg.STI (Fd.STI_PORT_CTL_VIEW (s.strD n 2 4)) else s.strD n 2 4

/-- A stream's descriptor and kernel in force, as a number. -/
def State.strDesc (s : State) (n : Nat) : Nat := wordsNat ((List.range 512).map fun i => s.win (strActiveAt + 0x800 * n + 4 * i))

/-- A field of the descriptor of a grid, and a tap of its kernel. -/
def Grid.d (x : Grid) (lo len : Nat) : Nat := nb x.desc lo len
def Grid.k (x : Grid) (ph t : Nat) : Int := sext 16 (nb x.desc (8 * 0x400 + 128 * ph + 16 * t) 16)

/-- The planes that a grid selects, its D and its OW. -/
def Grid.planes (x : Grid) : List Nat := bitsOf 3 (x.d 6 3)
def Grid.step (x : Grid) : Nat := 2 ^ x.d 9 3
def Grid.ow (x : Grid) : Nat := x.d 96 15 + 1

/-- Whether a grid's source is the given one, kind 0 a view or 1 a port. -/
def Grid.takes (x : Grid) (kind src : Nat) : Bool := x.d 0 2 == kind && x.d 2 4 == src

/-- The output in progress of a grid discarded and counted (R420, R422). -/
def State.discardPartial (s : State) (x : Grid) : State :=
  if x.lines.any fun l => decide (x.l0 + x.j * x.step ≤ l.n) then s.bump Pg.DEC Fd.DEC_CNT1_DISCARDED else s

/-- A stream's grids end where they stand: it runs no more (R422). -/
def State.stopGrids (s : State) (n : Nat) : State :=
  let s := (s.str_ n).grids.foldl (fun (s : State) x => s.discardPartial x) s
  (s.putStr n { s.str_ n with grids := [], running := false }).setFld Pg.STR (Fd.STR_S_STAT_RUNNING n) 0

/-- The streams on a view or on a port of it. -/
def State.strsOf (s : State) (v : Nat) : List Nat :=
  (List.range 7).filter fun n => s.on Pg.STR (Fd.STR_S_CTL_EN n) && s.strView n == v

/-- What a commit brings to a stream (R418, R430): a stream that it enables counts its outputs from 0 (Table — Stream line header). -/
def State.takeStream (s : State) (n : Nat) (line : Option Nat) : State :=
  let was := s.on Pg.STR (Fd.STR_S_CTL_EN n)
  let s := s.applyParts Pg.STR (fun x => x == .stream n) line
  let s := s.putStr n { s.str_ n with want := none, ask := false }
  if s.on Pg.STR (Fd.STR_S_CTL_EN n) && !was then s.wr Pg.STR (Rg.STR_S_OUT_CNT n) 0 else s

/-- The streams of a view stop (R422); a commit that waits for a boundary in the view takes effect (R668). -/
def State.stopStreams (s : State) (v : Nat) : State :=
  let s := (List.range 7).foldl (fun (s : State) (n : Nat) => match (s.str_ n).want with
    | some (w, _) => if w = v then s.takeStream n none else s
    | none => s) s
  (s.strsOf v).foldl (fun s n => s.stopGrids n) s

end Sys2Proof.Machine
end

