-- ==== Sys2Proof/Machine/Faults.lean ====
section
/-!
DEFINITION. Events raised to the fabric (R461, R463), changes of mode, entry into HOLD (R69) and the error log with
FAULT_N (R600-R608).
-/
namespace Sys2Proof.Machine

/-! ### Events -/

/-- Event source numbers of Table — Event sources. -/
abbrev evPos (ch k : Nat) : Nat := 32 + 16 * ch + k
abbrev evOverspeed (v : Nat) : Nat := 64 + v
abbrev evCp (p k : Nat) : Nat := 128 + 4 * p + k
abbrev evRegLock (v : Nat) : Nat := 192 + v
abbrev evEdgeLost (v : Nat) : Nat := 196 + v
abbrev evLearnDone (v : Nat) : Nat := 200 + v
abbrev evAdaptFold (v : Nat) : Nat := 204 + v
abbrev evStorm (e : Nat) : Nat := 208 + 2 * e
abbrev evCoarse (e : Nat) : Nat := 209 + 2 * e
abbrev evRule (i : Nat) : Nat := 224 + i
abbrev evActLate : Nat := 240
abbrev evCellFail : Nat := 241
abbrev evRepeatDone : Nat := 242
abbrev evDecSync : Nat := 243
abbrev evPpsIn : Nat := 244
abbrev evLocked : Nat := 245
abbrev evHoldover : Nat := 246
abbrev evPtpForeign : Nat := 247
abbrev evCalFull : Nat := 248
abbrev evLaunchEmpty : Nat := 249
abbrev evModeChange : Nat := 250
abbrev evHoldEntered : Nat := 251
abbrev evJobStart : Nat := 252
abbrev evJobEnd : Nat := 253
abbrev evRelay (r : Nat) : Nat := 256 + r
abbrev evSw (n : Nat) : Nat := 288 + n

/-- An event raised with a stamp, on its way to the channels. The fabric runs in every mode except BOOT (R460). -/
def State.raise (s : State) (src : Nat) (st : Stamp) : State :=
  if s.mode = .boot then s else { s with raised := s.raised ++ [(src, st)] }

/-- An event with a TIME stamp of the present (R461). -/
def State.raiseNow (s : State) (src : Nat) : State := s.raise src { time := s.time }

/-- An event with a LINE stamp: view, line and the line's capture time (R461). -/
def State.raiseLine (s : State) (src v n t : Nat) : State := s.raise src { time := t, line := some (v, n) }

/-! ### Changes of mode -/

/-- Every manual override cleared (R697). -/
def State.clearMan (s : State) : State :=
  (s.wr Pg.PINS0 Rg.PINS0_PULSE_MAN_EN 0).wr Pg.PINS1 Rg.PINS1_EVIO_MAN_EN 0

/-- The mode changes: PREV_MODE, the manual overrides on leaving IDLE or SETUP (R697), and MODE_CHANGE. -/
def State.enter (s : State) (m : Mode) : State :=
  let old := s.mode
  let s := (s.setFld Pg.SYS Fd.SYS_MODE_PREV_MODE old.code).setFld Pg.SYS Fd.SYS_MODE_MODE m.code
  let s := if old = .idle ∨ old = .setup then s.clearMan else s
  s.raiseNow evModeChange

/-! ### HOLD (R69) -/

/-- The first line of a generator that has no cycle yet: lines that are due and wait have none (R119). -/
def TrigGen.ahead (g : TrigGen) : Nat := match g.waiting with | some w => w.1 | none => g.next

/-- A generator stopped at line `c`: lines below it that are due are still issued; from `c` on none is, and their numbers go to the
triggers that come next (R12). -/
def TrigGen.cut (g : TrigGen) (c : Nat) : TrigGen :=
  { g with
    acc := 0, running := false, anyDue := false, next := Nat.min g.next (Nat.max c g.ahead)
    waiting := g.waiting.filter fun w => decide (w.1 < c), skipq := g.skipq.filter fun w => decide (w.1 < c) }

/-- A view's trigger generator stops at line `c` (R116, R117); what commits of the pages hold for the view takes effect (R668). -/
def State.stopAt (s : State) (v c : Nat) (pages : List Nat) : State :=
  let g := tabGet (dflt {}) s.tg v
  let s := { s with tg := tabPut (dflt {}) v (g.cut c) s.tg }
  let s := if (g.cut c).waiting.isSome then s else s.setFld Pg.POS (Fd.POS_TG_CTL_LAGGING v) 0
  if g.running then s.viewStopped v pages else s

/-- A view's trigger generator stops at once: a trigger that is due and not issued is not issued any more, and gives its number back
(DESIGN CHOICE, log entry 74). -/
def State.stopTriggers (s : State) (v : Nat) : State := s.stopAt v 0 pageList

/-- The pending calendar entries cancelled and counted (R457). -/
def State.cancelCalendar (s : State) : State :=
  let n := s.crl.entries.length
  let s := { s with crl := { s.crl with entries := [] } }
  (s.bumpBy Pg.CRL Fd.CRL_CANCEL_CNT_b0 n).setFld Pg.CRL Fd.CRL_CAL_STAT_b0 0

/-- Static slots stop: CRL.CTL.EN clears (R450). -/
def State.stopSlots (s : State) : State := s.setFld Pg.CRL Fd.CRL_CTL_EN 0

/-- The pulse and EVIO outputs go to their safe levels: active intervals end, and SAFE_ACTIVE shows (R69, R697). -/
def State.safePins (s : State) : State :=
  let s := { s with crl := { s.crl with pulses := [] }, evio := { s.evio with pulses := [] } }
  (s.setFld Pg.PINS0 Fd.PINS0_PIN_STAT_SAFE_ACTIVE 1).setFld Pg.PINS1 ⟨Rg.PINS1_PIN_STAT, 0, 1⟩ 1

/-- The safe levels end: the PINS registers govern the outputs again (R72, R686). -/
def State.releasePins (s : State) : State :=
  (s.setFld Pg.PINS0 Fd.PINS0_PIN_STAT_SAFE_ACTIVE 0).setFld Pg.PINS1 ⟨Rg.PINS1_PIN_STAT, 0, 1⟩ 0

/-- Pending local actuation requests discarded and counted (R403). -/
def State.cancelActs (s : State) : State :=
  let n := s.acts.length
  (({ s with acts := [] }).bumpBy Pg.VRD Fd.VRD_ACT_CNT_CANCELLED n).setFld Pg.VRD Fd.VRD_ACT_STAT_b0 0

/-- A job whose bands are cut where they stand: bands not yet merged form no records (R70), and its end record has its reason
(R375). -/
def Results.cut (r : Results) (reason : Nat) : Results :=
  { r with
    views := r.views.foldl (fun (t : Tab ViewRes) (e : Nat × ViewRes) => tabPut (dflt {}) e.1 { e.2 with bands := [] } t) []
    ending := some reason }

/-- The blocks behind the triggers stop as HOLD is entered: views, streams (R422), engines, pending flips (R308) and the forming
of records (R70). -/
def State.stopBlocks (s : State) : State :=
  let s := (List.range 4).foldl (fun (s : State) (v : Nat) =>
    let s := s.stopStreams v
    let m := tabGet (dflt {}) s.mst v
    { s with
      view := tabPut (dflt {}) v { tabGet (dflt {}) s.view v with run := false } s.view
      mst := tabPut (dflt {}) v { m with flips := [], cap := none, learn := none, relearn := false } s.mst }) s
  { s with
    eng := tabMap (dflt {}) Eng.stopped s.eng
    resA := if s.jobA.isSome then s.resA.cut 10 else s.resA
    resN := if s.jobN.isSome ∧ s.mode = .changeover then s.resN.cut 10 else s.resN }

/-- FAULT_N asserted with a cause bit, if the fault configuration selects it (R608). -/
def State.faultN (s : State) (enable cause : Fld) : State :=
  if s.on Pg.SUPV0 enable then (s.setFld Pg.SUPV0 Fd.SUPV0_FAULT_STAT_ASSERTED 1).setFld Pg.SUPV0 cause 1 else s

/-- Entry into HOLD (R69, R71): `entry` is the log slot of the cause, 0xFF for a requested HOLD. -/
def State.enterHold (s : State) (entry : Nat) : State :=
  if s.mode = .boot ∨ s.mode = .hold then s
  else
    let s := (s.setFld Pg.SYS Fd.SYS_MODE_REQ_PENDING 0).setFld Pg.SYS Fd.SYS_MODE_HOLD_ENTRY entry
    let s := s.setBit Pg.SYS Fd.SYS_MODE_HOLD_CLEARABLE (entry == 0xFF)
    let s := if entry = 0xFF then s.faultN Fd.SUPV0_FAULT_CTL_FATAL_EN Fd.SUPV0_FAULT_STAT_REQ_HOLD_CAUSE else s
    let s := s.safePins.cancelCalendar.stopSlots.cancelActs
    let s := (List.range 4).foldl (fun s v => s.stopTriggers v) s
    let s := (s.stopBlocks.enter .hold).raiseNow evHoldEntered
    s.setFld Pg.SUPV1 Fd.SUPV1_STAT_DRAIN_ACTIVE 1

/-! ### The error log (R600-R608) -/

/-- The class counters and flags of SUPV0, with its interrupts (R601, R620). -/
def State.countClass (s : State) (cls : Nat) : State :=
  match cls with
  | 0 => s.bump Pg.SUPV0 Fd.SUPV0_CNT0_CORRECTED
  | 1 => ((s.bump Pg.SUPV0 Fd.SUPV0_CNT0_CONTAINED).flag Pg.SUPV0 Fd.SUPV0_STAT_CONTAINED_SEEN).irq Pg.SUPV0 2
  | 2 => ((s.bump Pg.SUPV0 Fd.SUPV0_CNT1_DEGRADED).flag Pg.SUPV0 Fd.SUPV0_STAT_DEGRADED_SEEN).irq Pg.SUPV0 1
  | 3 => ((s.bump Pg.SUPV0 Fd.SUPV0_CNT1_FATAL).flag Pg.SUPV0 Fd.SUPV0_STAT_FATAL_SEEN).irq Pg.SUPV0 0
  | _ => s.bump Pg.SUPV0 Fd.SUPV0_CNT1_REFUSAL

/-- The newest entry of the ring, if it holds one. -/
def State.newest (s : State) : Option LogEntry :=
  if s.on Pg.SUPV0 Fd.SUPV0_LOG_HEAD_EMPTY then none
  else tabGet (dflt none) s.log (s.fld Pg.SUPV0 Fd.SUPV0_LOG_HEAD_b0)

/-- The slot of the next entry (R602): the one after the newest, skipping HOLD_ENTRY's slot while in HOLD; slot 0 in an
empty ring (R607). -/
def State.nextSlot (s : State) : Nat :=
  if s.on Pg.SUPV0 Fd.SUPV0_LOG_HEAD_EMPTY then 0
  else
    let n := (s.fld Pg.SUPV0 Fd.SUPV0_LOG_HEAD_b0 + 1) % 256
    if s.mode = .hold ∧ n = s.fld Pg.SYS Fd.SYS_MODE_HOLD_ENTRY then (n + 1) % 256 else n

/-- An entry as a 256-bit number (Table — Error log entry). -/
def LogEntry.bits (e : LogEntry) : Nat :=
  e.seq + 2 ^ 32 * e.code + 2 ^ 48 * e.cls + 2 ^ 52 * e.page + 2 ^ 64 * e.time +
  (match e.line with | some (v, n) => 2 ^ 128 * (n % 2 ^ 48) + 2 ^ 176 * v + 2 ^ 178 | none => 0) +
  2 ^ 180 * e.count + 2 ^ 192 * (e.arg0 % 2 ^ 32) + 2 ^ 224 * (e.arg1 % 2 ^ 32)

/-- The entry as one frame of four words in queue 7,936, or counted as lost (R606). -/
def State.logFrame (s : State) (e : LogEntry) : State :=
  if s.qEn 7936 && decide (4 ≤ s.qFree 7936 true) then
    s.qPutFrame 7936 ((List.range 4).map fun i => BitVec.ofNat 64 (e.bits / 2 ^ (64 * i))) tagValid
  else s.flag Pg.SUPV0 Fd.SUPV0_STAT_LOG_Q_LOST

/-- An entry that no host has acknowledged counted as lost, where the next entry takes its slot (R607). -/
def State.logOver (s : State) : State :=
  match tabGet (dflt none) s.log s.nextSlot with
  | some o =>
    if (s.rd Pg.SUPV0 Rg.SUPV0_LOG_ACK).toNat < o.seq then
      ((s.bump Pg.SUPV0 (whole Rg.SUPV0_LOG_LOST)).flag Pg.SUPV0 Fd.SUPV0_STAT_LOG_WRAP).irq Pg.SUPV0 3
    else s
  | none => s

/-- An entry written into the ring and pushed (R602, R606, R607). -/
def State.putEntry (s : State) (e : LogEntry) : State :=
  let slot := s.nextSlot
  let s := s.logOver
  let e := { e with seq := (s.rd Pg.SUPV0 Rg.SUPV0_LOG_SEQ).toNat + 1 }
  let s := { s with log := tabPut (dflt none) slot (some e) s.log }
  let s := (s.setFld Pg.SUPV0 Fd.SUPV0_LOG_HEAD_b0 slot).setFld Pg.SUPV0 Fd.SUPV0_LOG_HEAD_EMPTY 0
  (s.wr Pg.SUPV0 Rg.SUPV0_LOG_SEQ (BitVec.ofNat 32 e.seq)).logFrame e

/-- Whether an occurrence merges with the newest entry (R604). -/
def State.merges (s : State) (c : ErrCode) (page arg0 : Nat) : Bool :=
  s.on Pg.SUPV0 Fd.SUPV0_CTL_MERGE_EN && c.cls != 3 &&
  match s.newest with
  | some e => e.code == c.code && e.page == page && e.arg0 == arg0 && decide (s.time ≤ e.time + 1000000)
  | none => false

/-- A fault found: counted and logged in the same round (R601); DEGRADED and FATAL entries drive FAULT_N (R608), and a
FATAL entry leads to HOLD (R69). -/
def State.logErr (s : State) (c : ErrCode) (page : Nat) (arg0 : Nat := 0) (arg1 : Nat := 0)
    (line : Option (Nat × Nat) := none) : State :=
  let s := s.countClass c.cls
  if s.merges c page arg0 then
    let slot := s.fld Pg.SUPV0 Fd.SUPV0_LOG_HEAD_b0
    match s.newest with
    | some e => { s with log := tabPut (dflt none) slot (some { e with count := Nat.min 4095 (e.count + 1) }) s.log }
    | none => s
  else
    let e : LogEntry := ⟨0, c.code, c.cls, page, s.time, line, 0, arg0, arg1⟩
    let s := if c.cls = 3 ∧ s.nextSlot = 255 then
        (s.countClass 0).putEntry ⟨0, Er.LOG_PAD.code, 0, Pg.SUPV0, s.time, none, 0, 0, 0⟩
      else s
    let s := s.putEntry e
    match c.cls with
    | 2 => s.faultN Fd.SUPV0_FAULT_CTL_DEG_EN Fd.SUPV0_FAULT_STAT_DEG_CAUSE
    | 3 => (s.faultN Fd.SUPV0_FAULT_CTL_FATAL_EN Fd.SUPV0_FAULT_STAT_FATAL_CAUSE).enterHold
        (s.fld Pg.SUPV0 Fd.SUPV0_LOG_HEAD_b0)
    | _ => s

/-- A fault that concerns a line of a view. -/
def State.logLine (s : State) (c : ErrCode) (page v n : Nat) (arg0 : Nat := 0) (arg1 : Nat := 0) : State :=
  s.logErr c page arg0 arg1 (some (v, n))

end Sys2Proof.Machine
end

