-- ==== Sys2Proof/Machine/Operands.lean ====
section
/-!
DEFINITION. How a command's owner, address and written word reach a register: owner codes, guards and locks (R663-R665),
and what each access code of R4 does with the word.
-/
namespace Sys2Proof.Machine

/-- The owner code of a write path (Table — Owner codes). -/
def ownerCode : Owner → Nat
  | .boot => 1 | .host => 2 | .mgmt => 3 | .net => 4

/-- Whether a path reaches the pages: BOOT writes as it boots; the other paths are inactive in BOOT (Table — Blocks active
by mode), but for the pages that answer the host while it is waited for (R635). -/
def State.reaches (s : State) (o : Owner) (p : Nat) : Bool :=
  match o with
  | .boot => true
  | .host => decide (s.mode ≠ .boot) || (s.bootWait && (p == Pg.BOOT || p == Pg.FUSE || p == Pg.PCIE))
  | _ => decide (s.mode ≠ .boot)

/-- The decision on a write (R664). -/
inductive Access where
  | granted
  /-- Refused by the page's guard. -/
  | guard
  /-- Refused by a lock that another owner holds. -/
  | lock
  /-- The path does not reach the page. -/
  | absent
deriving DecidableEq, Repr

/-- Whether an owner may change a page under its guard (R663, R664). -/
def State.permits (s : State) (code p : Nat) : Bool :=
  !s.on p Fd.HDR_OWNER_GUARD || code == 1 || s.on p ⟨Rg.HDR_OWNER, 8 + code, 1⟩

/-- The holder of a page's lock, 0 while it is free (R665). -/
def State.lockHolder (s : State) (p : Nat) : Nat := s.fld p Fd.HDR_LOCK_HOLDER

/-- The decision on a write by an owner to a page (R664). -/
def State.access (s : State) (o : Owner) (p : Nat) : Access :=
  if !s.reaches o p then .absent
  else if !s.permits (ownerCode o) p then .guard
  else if s.lockHolder p ≠ 0 ∧ s.lockHolder p ≠ ownerCode o then .lock
  else .granted

/-- A refused write recorded (R664). -/
def State.refuse (s : State) (o : Owner) (p off : Nat) (lock : Bool) : State :=
  let s := s.setFld p Fd.HDR_PAGE_STAT_REFUSED 1
  let s := s.wr Pg.SYS Rg.SYS_ACC_ERR (BitVec.ofNat 32 (p + 256 * off + 2 ^ 20 * ownerCode o + 2 ^ 23 * b2n lock))
  s.bump Pg.SYS (whole Rg.SYS_ACC_CNT)

/-- An access by the holder of a page's lock restarts its time (R619). -/
def State.touch (s : State) (o : Owner) (p : Nat) : State :=
  if s.lockHolder p = ownerCode o then { s with lockAt := tabPut (dflt 0) p s.raw s.lockAt } else s

/-- A write under the guard and the lock of its page: what it does where it is granted, the record of its refusal
elsewhere (R664). -/
def State.guarded (s : State) (o : Owner) (p off : Nat) (f : State → State) : State :=
  match s.access o p with
  | .granted => f (s.touch o p)
  | .guard => s.refuse o p off false
  | .lock => s.refuse o p off true
  | .absent => s

/-- The word written to a register of a page, by the access codes of its bits (R4, R6): RW bits take it, RWS bits go to
the shadow copy, ones clear W1C bits, and WRO bits take the first write after reset. Other bits ignore it. -/
def State.writeReg (s : State) (p off : Nat) (w : Word) : State :=
  let a := p * 4096 + off
  match regDefAt a with
  | none => s
  | some r =>
    let old := s.rd p off
    let wro := if tabGet (dflt false) s.wroDone a then 0 else r.wro
    let new := (old &&& ~~~(r.rw ||| wro) &&& ~~~(r.w1c &&& w)) ||| (w &&& (r.rw ||| wro))
    let s := s.wr p off new
    let s := if r.wro = 0 then s else { s with wroDone := tabPut (dflt false) a true s.wroDone }
    if r.rws = 0 then s else s.wrShadow p off ((s.rdShadow p off &&& ~~~r.rws) ||| (w &&& r.rws))

/-- The fields of a written word that a register stores as RW (the W1P and reserved bits of it are not stored). -/
def State.storeRw (s : State) (p off : Nat) (w : Word) : State := s.writeReg p off w

/-- What a stored register reads as: the shadow copy of RWS bits, the value in force of the others (R4) (DEDUCED, log entry 84). -/
def State.viewReg (s : State) (p off : Nat) : Word :=
  match regDefAt (p * 4096 + off) with
  | none => 0
  | some r => (s.rd p off &&& ~~~r.rws) ||| (s.rdShadow p off &&& r.rws)

/-- The ROC bits of a register cleared, as a read of it does (R4). -/
def State.clearRoc (s : State) (p off : Nat) : State :=
  match regDefAt (p * 4096 + off) with
  | none => s
  | some r => if r.roc = 0 then s else s.wr p off (s.rd p off &&& ~~~r.roc)

end Sys2Proof.Machine
end

