-- ==== Sys2Proof/Machine/QueuePop.lean ====
section
/-!
DEFINITION. Pops of the queue store: the parity check of every pop (R488), polls (R487), and frames (R489).
-/
namespace Sys2Proof.Machine

/-- A parity error of a queue's pop: counted, flagged and logged once until PAR_CNT is read (R488). -/
def State.parityError (s : State) (q : Nat) : State :=
  let v := s.q q
  let logged := v.parLogged
  let s := s.setQ q { v with parErr := satN 16 (v.parErr + 1), parLogged := true }
  let s := (s.bump Pg.QF (whole Rg.QF_PAR_CNT)).flag Pg.QF Fd.QF_STAT_PARITY_SEEN
  if logged then s else s.logErr Er.QF_PARITY Pg.QF q

/-- The head word popped, its data as read differing from the stored bits by `flip`: it is delivered POISONED, with its
frame marks as stored, where parity fails (R485, R488). -/
def State.qPopFlip (s : State) (q : Nat) (flip : Word64) : State × Option QWord :=
  let v := s.q q
  match v.words with
  | [] => (s, none)
  | w :: rest =>
    let s := s.setQ q { v with words := rest }
    let d := w.data ^^^ flip
    if parityOf d w.tag w.sof w.eof = w.parity then ((s.qLevelCheck q), some { w with data := d })
    else ((s.parityError q).qLevelCheck q, some { w with data := d, tag := tagPoisoned })

/-- The head word popped by a consumer (R485). -/
def State.qPop (s : State) (q : Nat) : State × Option QWord := s.qPopFlip q 0

/-- The words of the head frame, from the head word to the first EOF; none while the EOF word has not been pushed (R489). -/
def frameOf : List QWord → Option (List QWord)
  | [] => none
  | w :: t => if w.eof then some [w] else (frameOf t).map (w :: ·)

/-- Words without SOF ahead of a frame discarded by a frame consumer and counted (R489). -/
def State.qSkipBad (s : State) (q : Nat) : State :=
  let v := s.q q
  let bad := v.words.takeWhile fun w => !w.sof
  if bad.isEmpty then s
  else (s.setQ q { v with words := v.words.drop bad.length }).flag Pg.QF Fd.QF_STAT_BAD_FRAME

/-- `n` words popped in turn. -/
def State.qPopN (s : State) (q : Nat) : Nat → State × List QWord
  | 0 => (s, [])
  | n + 1 =>
    let (s, w) := s.qPop q
    let (s, l) := s.qPopN q n
    (s, w.toList ++ l)

/-- The head frame taken by a frame consumer, if it is whole (R489). -/
def State.qTakeFrame (s : State) (q : Nat) : State × Option (List QWord) :=
  let s := s.qSkipBad q
  match frameOf (s.q q).words with
  | none => (s, none)
  | some f =>
    let (s, l) := s.qPopN q f.length
    (s, some l)

/-- A frame that holds a POISONED word (R489). -/
def frameBad (l : List QWord) : Bool := l.any (·.tag == tagPoisoned)

end Sys2Proof.Machine
end

