-- ==== Sys2Proof/Machine/Carillon.lean ====
section
/-!
DEFINITION. The Carillon (R446-R458): static slots and their banks, the dynamic calendar, pulses and timed launches, and
the levels of the pulse pins (R686, R697).
-/
namespace Sys2Proof.Machine

/-! ### Pulses and launches -/

/-- The level of a pulse pin that a pin's drive shows: safe, manual, or the active intervals with the polarity (R446, R447,
R697); 0 while it does not drive. -/
def State.pulseLevel (s : State) (p : Nat) : Bool :=
  let at_ (o : Nat) : Bool := tbit (s.rd Pg.PINS0 o).toNat p
  if !at_ Rg.PINS0_PULSE_OE then false
  else if s.on Pg.PINS0 Fd.PINS0_PIN_STAT_SAFE_ACTIVE then at_ Rg.PINS0_PULSE_SAFE
  else if at_ Rg.PINS0_PULSE_MAN_EN then at_ Rg.PINS0_PULSE_MAN
  else (s.crl.pulses.any (·.1 == p)) != tbit (s.rd Pg.CRL Rg.CRL_PULSE_POL).toNat p

/-- An active interval on a pulse pin that ends at a device time; a WIDTH below 8 ns produces no pulse (R447). -/
def State.startPulse (s : State) (p at_ width : Nat) : State :=
  if width < 8 then s else { s with crl := { s.crl with pulses := s.crl.pulses ++ [(p, at_ + width)] } }

/-- The data rate of an Ethernet port in Gbit/s: ETHn.CTL selects it (R552). -/
def State.ethRate (s : State) (port : Nat) : Nat := if s.on (Pg.ETH port) Fd.ETH_CTL_SPEED then 10 else 25

/-- When a port ends the launched frame in progress. -/
def State.setBusyTo (s : State) (port t : Nat) : State :=
  { s with crl := { s.crl with busyTo := tabPut (dflt 0) port t s.crl.busyTo } }

/-- A frame launched on a port at `t`, or after the launched frame in progress (R448). -/
def State.launchFrame (s : State) (port qidx t : Nat) (l : List QWord) : State :=
  let busy := tabGet (dflt 0) s.crl.busyTo port
  let s := if t < busy then s.bump Pg.CRL Fd.CRL_ERR_CNT_LAUNCH_SLIP else s
  let done := Nat.max t busy + l.length * 64 / s.ethRate port
  let s := s.setBusyTo port done
  let s := if s.winBits (sessActiveAt qidx) 0 2 = 3 then s.bump Pg.NET (whole Rg.NET_TX_DGRAM) else s
  if s.ethSends port then (s.emit (.frame port (l.map (·.data)))).countTx port (8 * l.length) else s

/-- The head frame of a launch queue starts on its port at `t`, or after the launched frame in progress (R448); a port that
does not send loses it (R553). -/
def State.launch (s : State) (port qidx t : Nat) : State :=
  let q := 6144 + qidx
  let empty (s : State) : State :=
    ((s.bump Pg.CRL Fd.CRL_ERR_CNT_LAUNCH_EMPTY).flag Pg.CRL Fd.CRL_STAT_LAUNCH_EMPTY).raiseNow evLaunchEmpty
  match s.qTakeFrame q with
  | (s, none) => empty s
  | (s, some l) =>
    if frameBad l then empty s else s.launchFrame port qidx t l

/-- An action at device time `t` (Table — Carillon actions). -/
def State.act (s : State) (action pulse width qidx port t : Nat) : State :=
  let s := if action = 1 ∨ action = 3 then s.startPulse pulse t width else s
  if action = 2 ∨ action = 3 then s.launch port qidx t else s

/-! ### Static slots -/

/-- The window offset of slot `k` of bank `b` (R449). -/
abbrev slotAt (b k : Nat) : Nat := 0x190000 + b * 0x4000 + k * 0x10

def State.slot (s : State) (b k lo len : Nat) : Nat := s.winBits (slotAt b k) lo len

/-- The active bank. -/
def State.bank (s : State) : Nat := s.fld Pg.CRL Fd.CRL_STAT_ACTIVE

/-- The cycle of a bank, ns. -/
def State.bankCycle (s : State) (b : Nat) : Nat := (s.rd Pg.CRL (Rg.CRL_BANK0_CYCLE + 4 * b)).toNat

/-- The start of the current cycle set and shown. -/
def State.setStart (s : State) (t : Nat) : State :=
  ({ s with crl := { s.crl with start := t, fired := [] } }).wr64 Pg.CRL Rg.CRL_CUR_START_LO Rg.CRL_CUR_START_HI t

/-- The cycles that have ended since the current one started are rolled over (R449), up to a pending switch. -/
def State.rollCycle (s : State) : State :=
  let c := s.bankCycle s.bank
  if s.on Pg.CRL Fd.CRL_CTL_EN && !s.on Pg.CRL Fd.CRL_STAT_SWITCH_PENDING && decide (0 < c) &&
      decide (s.crl.start + c ≤ s.time) then
    s.setStart (s.crl.start + (s.time - s.crl.start) / c * c)
  else s

/-- Whether a slot of the active bank is armed: from 2 µs before its next occurrence until that has fired (R451). -/
def State.slotArmed (s : State) (k : Nat) : Bool :=
  let b := s.bank
  let c := s.bankCycle b
  let o := s.slot b k 0 32
  s.on Pg.CRL Fd.CRL_CTL_EN && s.slot b k 32 1 == 1 && decide (o < c) &&
  (if s.crl.fired.contains k then decide (s.crl.start + c + o ≤ s.time + 2000) else decide (s.crl.start + o ≤ s.time + 2000))

/-- The deferred writes of a slot applied (R451). -/
def State.applyDeferred (s : State) (b k : Nat) : State :=
  let mine (e : Nat × Word) : Bool := decide (slotAt b k ≤ e.1) && decide (e.1 < slotAt b k + 16)
  let s' := { s with crl := { s.crl with deferred := s.crl.deferred.filter fun e => !mine e } }
  (s.crl.deferred.filter mine).foldl (fun s e => s.setWin e.1 e.2) s'

/-- SLOT_FIRE: a static slot reaches its occurrence at raw ns `t` (R446, R449). -/
def State.slotFire (s : State) (k : Nat) : State :=
  let s := s.rollCycle
  let b := s.bank
  let o := s.slot b k 0 32
  if s.on Pg.CRL Fd.CRL_CTL_EN && decide (s.mode ≠ .hold) && decide (s.mode ≠ .boot) && s.slot b k 32 1 == 1 &&
      decide (o < s.bankCycle b) && !s.crl.fired.contains k && decide (s.crl.start + o ≤ s.time) then
    let at_ := s.crl.start + o
    let f (lo len : Nat) : Nat := s.slot b k lo len
    let t := s.act (f 34 2) (f 36 5) (f 64 32) (f 41 10) (f 51 1) at_
    let t := { t with crl := { t.crl with fired := t.crl.fired ++ [k] } }
    let t := t.setWinBits (slotAt b k) 96 16 (satN 16 (f 96 16 + 1))
    let t := if f 33 1 = 1 then t.setWinBits (slotAt b k) 32 1 0 else t
    (t.bump Pg.CRL Fd.CRL_FIRE_CNT_b0).applyDeferred b k
  else s

def execSlotFire (k : Fin 1024) (t : Nat) (s : State) : Host.Outcome State Fault Refusal := .next ((s.atNs t).slotFire k)

/-- PULSE_END: the intervals of a pulse pin that have ended leave it; with the last one the pin returns to its inactive
level (R447). -/
def execPulseEnd (p : Fin 24) (t : Nat) (s : State) : Host.Outcome State Fault Refusal :=
  let s := s.atNs t
  .next { s with crl := { s.crl with pulses := s.crl.pulses.filter fun e => !(e.1 == p.val && decide (e.2 ≤ s.time)) } }

/-- Whether an owner may command a pulse pin (R454, R696). -/
def State.mayPulse (s : State) (code p : Nat) : Bool :=
  !tbit (s.rd Pg.PINS0 Rg.PINS0_PULSE_GUARD).toNat p || code == 1 || s.on Pg.PINS0 ⟨Rg.HDR_OWNER, 8 + code, 1⟩

/-- A write of word `i` of a slot (R451, R454): refused for a guarded pin, deferred while the slot is armed. -/
def State.slotWrite (s : State) (code b k i : Nat) (w : Word) : State :=
  let a := slotAt b k + 4 * i
  let w := if i = 1 then w &&& 0x000FFFFF else if i = 3 then s.win a else w
  let one := if i = 1 then w else s.win (slotAt b k + 4)
  if (nb one.toNat 2 1 = 1) && !s.mayPulse code (nb one.toNat 4 5) then s.flag Pg.CRL Fd.CRL_STAT_GUARD_REFUSED
  else if b = s.bank ∧ s.rollCycle.slotArmed k then
    let s := s.rollCycle
    ({ s with crl := { s.crl with deferred := s.crl.deferred ++ [(a, w)] } }.flag Pg.CRL Fd.CRL_STAT_DEFERRED).bump
      Pg.CRL Fd.CRL_ERR_CNT_DEFERRED
  else s.setWin a w

/-- SLOT_WRITE: word `i` of slot `k` of bank `b`. -/
def execSlotWrite (o : Owner) (b : Fin 2) (k : Fin 1024) (i : Fin 4) (w : Word) (s : State) :
    Host.Outcome State Fault Refusal :=
  .next (if s.reaches o Pg.CRL then s.slotWrite (ownerCode o) b k i w else s)

/-- A write of BANKb_CYCLE: applied to the shadow bank, refused for the active bank (R451) and out of range (R10). -/
def State.cycleWrite (s : State) (b : Nat) (w : Word) : State :=
  if b = s.bank ∨ w.toNat < 1000 ∨ 4000000000 < w.toNat then s.flag Pg.CRL Fd.CRL_STAT_CYCLE_REFUSED
  else s.wr Pg.CRL (Rg.CRL_BANK0_CYCLE + 4 * b) w

def execBankCycleWrite (o : Owner) (b : Fin 2) (w : Word) (s : State) : Host.Outcome State Fault Refusal :=
  .next (s.guarded o Pg.CRL (Rg.CRL_BANK0_CYCLE + 4 * b) (·.cycleWrite b w))

/-- Static slots start: the first cycle starts at the first BASE + k × CYCLE at least 2 µs in the future (R450). -/
def State.enableSlots (s : State) : State :=
  let c := s.bankCycle s.bank
  let base := s.rd64 Pg.CRL Rg.CRL_BASE_LO Rg.CRL_BASE_HI
  let t := s.time + 2000
  let first := if t ≤ base then base - (base - t) / c * c else base + (t - base + c - 1) / c * c
  (s.setFld Pg.CRL Fd.CRL_CTL_EN 1).setStart first

/-- A switch of banks scheduled for the next cycle boundary, or the one after it if that is less than 2 µs away (R452). -/
def State.switchBanks (s : State) : State :=
  if s.on Pg.CRL Fd.CRL_STAT_SWITCH_PENDING then s
  else
    let s := s.rollCycle
    let c := s.bankCycle s.bank
    let next := s.crl.start + c
    let at_ := if next < s.time + 2000 then next + c else next
    ({ s with crl := { s.crl with switchAt := at_ } }).setFld Pg.CRL Fd.CRL_STAT_SWITCH_PENDING 1

/-- A write of CRL.CTL: EN, then CAL_FLUSH, then SWITCH, as the word names them. -/
def State.crlCtl (s : State) (w : Word) : State :=
  let en := wf w 0 1 == 1
  let s := if en && !s.on Pg.CRL Fd.CRL_CTL_EN then s.enableSlots else if en then s else s.stopSlots
  let s := if wf w 2 1 = 1 then s.cancelCalendar else s
  if wf w 1 1 = 1 then s.switchBanks else s

/-- CRL_ENABLE (R450). -/
def execCrlEnable (o : Owner) (w : Word) (s : State) : Host.Outcome State Fault Refusal :=
  .next (s.guarded o Pg.CRL Rg.CRL_CTL (·.crlCtl w))

/-- CRL_SWITCH (R452). -/
def execCrlSwitch (o : Owner) (w : Word) (s : State) : Host.Outcome State Fault Refusal :=
  .next (s.guarded o Pg.CRL Rg.CRL_CTL (·.crlCtl w))

/-- CAL_FLUSH (R457). -/
def execCalFlush (o : Owner) (w : Word) (s : State) : Host.Outcome State Fault Refusal :=
  .next (s.guarded o Pg.CRL Rg.CRL_CTL (·.crlCtl w))

/-- BANK_SWITCH_BOUNDARY: the boundary of a pending switch is reached; the new bank's cycles start at it (R452). -/
def State.bankSwitch (s : State) : State :=
  if s.on Pg.CRL Fd.CRL_STAT_SWITCH_PENDING && decide (s.crl.switchAt ≤ s.time) then
    let b := s.bank
    let s := (s.setFld Pg.CRL Fd.CRL_STAT_ACTIVE (1 - b)).setFld Pg.CRL Fd.CRL_STAT_SWITCH_PENDING 0
    let s := s.crl.deferred.foldl (fun s e => s.setWin e.1 e.2) s
    ({ s with crl := { s.crl with deferred := [] } }).setStart s.crl.switchAt
  else s

def execBankSwitchBoundary (t : Nat) (s : State) : Host.Outcome State Fault Refusal := .next (s.atNs t).bankSwitch

/-! ### The dynamic calendar -/

/-- The outputs of an entry: its pin, its port and queue, or both (R456). -/
def CalEntry.outputs (e : CalEntry) : List Nat :=
  (if e.action = 1 ∨ e.action = 3 then [e.pulse] else []) ++
  (if e.action = 2 ∨ e.action = 3 then [32 + 1024 * e.port + e.qidx] else [])

/-- F of the entries of a list, in insertion order, from the F of those fired before, by output (R456). -/
def calTimes (lastF : Tab Nat) : List CalEntry → List (CalEntry × Nat)
  | [] => []
  | e :: t =>
    let f := e.outputs.foldl (fun m o => Nat.max m (tabGet (dflt 0) lastF o)) e.t
    (e, f) :: calTimes (e.outputs.foldl (fun l o => tabPut (dflt 0) o f l) lastF) t

/-- One entry inserted under the next insertion number, or refused with CAL_FULL at 4,096 pending (R455, R456). -/
def State.calInsert (s : State) (t action pulse width qidx port : Nat) : State × Bool :=
  if 4096 ≤ s.crl.entries.length then
    let s := (s.bump Pg.CRL Fd.CRL_CANCEL_CNT_b16).flag Pg.CRL Fd.CRL_STAT_CAL_FULL
    ((s.logErr Er.CAL_FULL Pg.CRL).raiseNow evCalFull, false)
  else
    let e : CalEntry := ⟨s.crl.nextNum, t, action, pulse, width, qidx, port⟩
    let s := { s with crl := { s.crl with entries := s.crl.entries ++ [e], nextNum := s.crl.nextNum + 1 } }
    let n := s.crl.entries.length
    let s := (s.setFld Pg.CRL Fd.CRL_CAL_STAT_b0 n).setFld Pg.CRL Fd.CRL_CAL_STAT_b16
      (Nat.max n (s.fld Pg.CRL Fd.CRL_CAL_STAT_b16))
    let f : Option Nat := ((calTimes s.crl.lastF s.crl.entries).find? (·.1.num == e.num)).map (·.2)
    (if f.getD 0 < s.time then s.bump Pg.CRL Fd.CRL_ERR_CNT_CAL_PAST else s, true)

/-- The host's insertion from CAL_T, CAL_CFG and CAL_WIDTH (R454, R455). -/
def State.calIns (s : State) (code : Nat) : State :=
  let cfg (f : Fld) : Nat := s.fld Pg.CRL f
  let pulse := cfg Fd.CRL_CAL_CFG_PULSE
  let action := cfg Fd.CRL_CAL_CFG_ACTION
  let result (s : State) (r : Nat) : State := s.setFld Pg.CRL Fd.CRL_CAL_CTL_RESULT r
  if (action = 1 ∨ action = 3) && !s.mayPulse code pulse then result (s.flag Pg.CRL Fd.CRL_STAT_GUARD_REFUSED) 3
  else if !s.mode.job then result s 3
  else
    let (s, ok) := s.calInsert (s.rd64 Pg.CRL Rg.CRL_CAL_T_LO Rg.CRL_CAL_T_HI) action pulse
      (s.rd Pg.CRL Rg.CRL_CAL_WIDTH).toNat (cfg Fd.CRL_CAL_CFG_QIDX) (cfg Fd.CRL_CAL_CFG_PORT)
    result s (if ok then 1 else 2)

/-- CAL_INSERT: a write of CAL_CTL with INS. -/
def execCalInsert (o : Owner) (w : Word) (s : State) : Host.Outcome State Fault Refusal :=
  .next (s.guarded o Pg.CRL Rg.CRL_CAL_CTL fun s => if wf w 0 1 = 1 then s.calIns (ownerCode o) else s)

/-- CAL_ENTRY_FIRE: the pending entry with an insertion number fires at its F, reached at raw ns `t` (R446, R456). -/
def State.calFire (s : State) (num : Nat) : State :=
  match (calTimes s.crl.lastF s.crl.entries).find? (·.1.num == num) with
  | none => s
  | some (e, f) =>
    if s.time < f then s
    else
      let s := { s with crl := { s.crl with
        entries := s.crl.entries.filter fun (x : CalEntry) => x.num != num
        lastF := e.outputs.foldl (fun l o => tabPut (dflt 0) o f l) s.crl.lastF } }
      let s := if tabGet (dflt none) s.evf.pulseNum e.pulse = some num then
          { s with evf := { s.evf with
              pulseNum := tabPut (dflt none) e.pulse none s.evf.pulseNum
              pulseEnd := tabPut (dflt 0) e.pulse (f + e.width) s.evf.pulseEnd } }
        else s
      let s := (s.setFld Pg.CRL Fd.CRL_CAL_STAT_b0 s.crl.entries.length).bump Pg.CRL Fd.CRL_FIRE_CNT_b16
      s.act e.action e.pulse e.width e.qidx e.port f

def execCalEntryFire (num t : Nat) (s : State) : Host.Outcome State Fault Refusal := .next ((s.atNs t).calFire num)

end Sys2Proof.Machine
end

