-- ==== Sys2Proof/Machine/Dram.lean ====
section
/-!
DEFINITION. External memory (R509-R532, R700): addresses, inline regions, accesses out of range, errors, refresh windows and
training.
-/
namespace Sys2Proof.Machine

/-! ### Addresses -/

/-- The channel of a DRAM address (R511). -/
def chanOf (a : Nat) : Nat := a / 256 % 12

/-- The offset of a DRAM address in its channel (R511). -/
def chanOff (a : Nat) : Nat := a / 256 / 12 * 256 + a % 256

/-- The bytes of one rank of one channel. -/
def State.rankSize (s : State) : Nat := 2 ^ 30 * 2 ^ s.memCfg Fd.MCG_CFG_DENSITY

/-- The row of a DRAM address in its bank (R512). -/
def State.rowOf (s : State) (a : Nat) : Nat := chanOff a % s.rankSize / 2 ^ 15

/-- The bank of a DRAM address: rank × 16 + bank × 4 + bank group, the group hashed with the row under BANK_HASH (R512). -/
def State.bankOf (s : State) (a : Nat) : Nat :=
  let c := chanOff a
  let g := nb c 11 2
  let g := if s.memCfg Fd.MCG_CFG_BANK_HASH = 1 then (g ^^^ nb (s.rowOf a) 0 2) else g
  c / s.rankSize * 16 + nb c 13 2 * 4 + g

/-- The enabled inline regions: base and size in bytes (R524). -/
def State.eccRegions (s : State) : List (Nat × Nat) :=
  ((List.range 8).filter fun n => s.on Pg.MCG (Fd.MCG_ECC_RGN_EN n)).map fun n =>
    (s.fld Pg.MCG (Fd.MCG_ECC_RGN_BASE n) * 2 ^ 26, s.fld Pg.MCG (Fd.MCG_ECC_RGN_SIZE n) * 2 ^ 26)

/-- Whether an address lies in an inline region. -/
def State.inlineAt (s : State) (a : Nat) : Bool := s.eccRegions.any fun r => decide (r.1 ≤ a) && decide (a < r.1 + r.2)

/-- Whether a range is outside the installed capacity or meets a region's check area (R513, R524). -/
def State.outOfRange (s : State) (a n : Nat) : Bool :=
  decide (s.capacity < a + n) ||
  s.eccRegions.any fun r => decide (r.1 + r.2 / 8 * 7 < a + n) && decide (a < r.1 + r.2)

/-- An access out of range: it moves nothing, is logged with its requester and flagged (R513). -/
def State.memRange (s : State) (port : Nat) : State :=
  (s.logErr Er.MEM_RANGE Pg.MCG port).flag Pg.MCG Fd.MCG_STAT_RANGE_SEEN

/-- A write by a port, discarded where it is out of range (R513). -/
def State.memWrite (s : State) (port a : Nat) (l : List Byte) : State :=
  if l.isEmpty then s else if s.outOfRange a l.length then s.memRange port else s.dramPut a l

/-- A read by a port: the bytes, none where they are poisoned (R513, R525). -/
def State.memRead (s : State) (port a n : Nat) : State × Option (List Byte) :=
  if s.outOfRange a n then (s.memRange port, none)
  else if s.dramBad a n then (s, none)
  else (s, some (s.dram a n))

/-! ### Errors -/

def State.mcOf (s : State) (c : Nat) : Mc := tabGet (dflt {}) s.mc c
def State.setMc (s : State) (c : Nat) (m : Mc) : State := { s with mc := tabPut (dflt {}) c m s.mc }

/-- An uncorrected error of a read at an address (R525), and its escalation while MARGIN_LOST is set (R530). -/
def State.uncorrected (s : State) (a : Nat) (isInline : Bool) : State :=
  let c := chanOf a
  let s := s.logErr Er.MEM_UE Pg.MCG c (a % 2 ^ 32)
  let s := s.wr Pg.MCG Rg.MCG_ERR_ADDR_LO (BitVec.ofNat 32 a)
  let s := s.wr Pg.MCG Rg.MCG_ERR_ADDR_HI (BitVec.ofNat 32 (a / 2 ^ 32 % 256 + 256 * c + 4096 * b2n isInline))
  let s := (s.bump Pg.MCG ⟨Rg.MCG_ERR_CNT, 16, 16⟩).bump (Pg.MC c) ⟨Rg.MC_ERR_CNT, 16, 8⟩
  let s := if isInline then { s with badLine := tabPut (dflt false) (a / 64) true s.badLine } else s
  if s.on (Pg.MC c) Fd.MC_STAT_MARGIN_LOST then
    let n := (s.mcOf c).ue + 1
    let s := s.setMc c { s.mcOf c with ue := n }
    if n = s.fld Pg.MCG Fd.MCG_TRAIN_CTL_ESC_UE then s.logErr Er.MEM_ESCALATE Pg.MCG c else s
  else s

/-- A corrected error of a channel: every one counted, MEM_CE logged at most once per second (R525). -/
def State.corrected (s : State) (c : Nat) (link : Bool) : State :=
  let s := (s.bump Pg.MCG ⟨Rg.MCG_ERR_CNT, 0, 16⟩).bump (Pg.MC c) (if link then ⟨Rg.MC_ERR_CNT, 24, 8⟩ else ⟨Rg.MC_ERR_CNT, 0, 16⟩)
  let sec := s.rawNs / 10 ^ 9 + 1
  if link ∨ (s.mcOf c).ceAt = sec then s
  else (s.setMc c { s.mcOf c with ceAt := sec }).logErr Er.MEM_CE Pg.MCG c

/-! ### Commands -/

/-- The access that a port's queue serves next, of its accesses oldest first: row hits first, but strictly the oldest while
the port is in panic (R516, R517). -/
def State.nextAccess (s : State) (c port : Nat) (l : List MemReq) : Option MemReq :=
  let mine := l.filter (·.port == port)
  let hit (r : MemReq) : Bool := tabGet (dflt none) (s.mcOf c).open_ (s.bankOf r.addr) == some (s.rowOf r.addr)
  if (s.mcOf c).panic.contains port then mine.head?
  else match mine.find? hit with
    | some r => some r
    | none => mine.head?

/-- The accesses that request: below a port in panic, only row hits (R517). -/
def State.requesting (s : State) (c : Nat) (l : List MemReq) : List MemReq :=
  let hit (r : MemReq) : Bool := tabGet (dflt none) (s.mcOf c).open_ (s.bankOf r.addr) == some (s.rowOf r.addr)
  l.filter fun r => hit r || !(s.mcOf c).panic.any fun p => decide (r.port < p)

/-- DRAM_ACCESS_GRANT: one round of a channel's port arbiter over the accesses pending at its start, oldest first, and the
error report of the access it moves (R513-R517, R525). -/
def State.dramGrant (s : State) (c : Nat) (l : List MemReq) (r : MemResult) : State :=
  let act := s.requesting c l
  let (s, served, dead) := s.arbRound (100 + c) (act.map (·.port))
  let s := if dead then s.setMc c { s.mcOf c with dead := (s.mcOf c).dead + 1 } else s
  let d := (s.mcOf c).defer + (l.length - act.length)
  let s := (s.setMc c { s.mcOf c with defer := d % 1024 }).bumpBy (Pg.MC c) Fd.MC_PANIC_CNT_b16 (d / 1024)
  match served with
  | none => s
  | some p =>
    match s.nextAccess c p act with
    | none => s
    | some x =>
      if s.outOfRange x.addr 64 then s.memRange p
      else
        let m := s.mcOf c
        let s := s.setMc c { m with open_ := tabPut (dflt none) (s.bankOf x.addr) (some (s.rowOf x.addr)) m.open_ }
        if x.write then s
        else if s.dramBad (x.addr / 64 * 64) 64 then s.uncorrected x.addr true
        else match r with
          | .good => s
          | .correctedInline => if s.inlineAt x.addr then s.corrected c false else s
          | .correctedLink => s.corrected c true
          | .uncorrectedInline => if s.inlineAt x.addr then s.uncorrected x.addr true else s
          | .uncorrectedLink => s.uncorrected x.addr false

def execDramAccessGrant (c : Fin 12) (l : List MemReq) (r : MemResult) (s : State) : Host.Outcome State Fault Refusal :=
  .next (s.dramGrant c (l.filter fun x => chanOf x.addr == c.val) r)

/-- ROW_IDLE_CLOSE: a bank idle for IDLE_CYC cycles is precharged (R516). -/
def execRowIdleClose (c : Fin 12) (bank : Fin 32) (s : State) : Host.Outcome State Fault Refusal :=
  let m := s.mcOf c
  .next (s.setMc c { m with open_ := tabPut (dflt none) bank none m.open_ })

/-- The tracking update of one byte lane: at most one step, holding at 16 (R528). -/
def trackStep (m d : Int) : Int := clampI (-16) 16 (m + clampI (-1) 1 d)

/-- A channel in a tracking window: MR4, the write link errors it reports, and the delay tracking (R520, R523, R528). -/
def State.trackChannel (s : State) (c : Nat) (x : TrackRead) : State :=
  let s := s.setFld (Pg.MC c) Fd.MC_STAT_MR4_RATE x.mr4
  let s := if x.writeLinkErr && s.memCfg Fd.MCG_CFG_LINK_ECC == 1 then s.logErr Er.MEM_LINK_W Pg.MCG c else s
  let s :=
    if s.on Pg.MCG Fd.MCG_TRAIN_CTL_TRACK_EN then
      let m := s.mcOf c
      let a := trackStep m.move0 x.drift0
      let b := trackStep m.move1 x.drift1
      let s := s.setMc c { m with move0 := a, move1 := b }
      let n := Nat.max a.natAbs b.natAbs
      let s := s.setFld (Pg.MC c) Fd.MC_MARGIN_b24 n
      if 12 ≤ n then s.setFld (Pg.MC c) Fd.MC_STAT_MARGIN_LOW 1 else s
    else s
  if x.limit then s.logErr Er.MEM_HOT Pg.MCG c else s

/-- Whether the refresh interval is halved after a set of MR4 reads (R520). -/
def State.hotUpdate (s : State) (l : List TrackRead) : State :=
  let any := l.any (·.above85)
  let cool := if any then 0 else s.mcg.cool + 1
  let hot := s.on Pg.MCG Fd.MCG_REF_CTL_HOT_AUTO && (any || (s.mcg.hot && decide (cool < 8)))
  let s := { s with mcg := { s.mcg with hot := hot, cool := cool } }
  s.setBit Pg.MCG Fd.MCG_STAT_HOT (hot || s.on Pg.MCG Fd.MCG_REF_CTL_HOT_FORCE)

/-- REFRESH_WINDOW: every row of every channel closes; every TRACK_INTV-th window is a tracking window, whose reads the
operand holds by channel (R519-R521). -/
def State.refresh (s : State) (l : List TrackRead) : State :=
  let s := (List.range 12).foldl (fun s c => s.setMc c { s.mcOf c with open_ := [] }) s
  let n := s.mcg.windows + 1
  if n < s.fld Pg.MCG Fd.MCG_REF_CTL_TRACK_INTV then { s with mcg := { s.mcg with windows := n } }
  else
    let s := { s with mcg := { s.mcg with windows := 0 } }
    (l.zipIdx.foldl (fun s (x : TrackRead × Nat) => s.trackChannel x.2 x.1) s).hotUpdate l

def execRefreshWindow (l : List TrackRead) (s : State) : Host.Outcome State Fault Refusal := .next (s.refresh (l.take 12))

/-- ECC_INIT: a write of ECC_CTL starts the fill of the named enabled regions, in IDLE or SETUP only (R526). -/
def State.eccInit (s : State) (w : Word) : State :=
  if s.mode = .idle ∨ s.mode = .setup then
    (bitsOf 8 w.toNat).foldl (fun s n =>
      if s.on Pg.MCG (Fd.MCG_ECC_RGN_EN n) then s.setFld Pg.MCG ⟨Rg.MCG_ECC_CTL, 8 + n, 1⟩ 1 else s) s
  else s

def execEccInit (o : Owner) (w : Word) (s : State) : Host.Outcome State Fault Refusal :=
  .next (s.guarded o Pg.MCG Rg.MCG_ECC_CTL (·.eccInit w))

/-- ECC_INIT_DONE: the region holds zero data with valid check bytes, and INIT_BUSY clears (R526). -/
def execEccInitDone (n : Fin 8) (s : State) : Host.Outcome State Fault Refusal :=
  if s.on Pg.MCG ⟨Rg.MCG_ECC_CTL, 8 + n, 1⟩ then
    let b := s.fld Pg.MCG (Fd.MCG_ECC_RGN_BASE n) * 2 ^ 26
    let e := b + s.fld Pg.MCG (Fd.MCG_ECC_RGN_SIZE n) * 2 ^ 26
    let s := { s.blankRange b e none with badLine := tabClear (b / 64) (e / 64) s.badLine }
    .next (s.setFld Pg.MCG ⟨Rg.MCG_ECC_CTL, 8 + n, 1⟩ 0)
  else .next s

/-- Whether the values that training takes pass R532. -/
def State.trainCfgOk (s : State) : Bool :=
  let t0 := (s.rd Pg.MCG Rg.MCG_TIMING0).toNat
  let t1 := (s.rd Pg.MCG Rg.MCG_TIMING1).toNat
  let t2 := (s.rd Pg.MCG Rg.MCG_TIMING2).toNat
  let timings := [nb t0 0 8, nb t0 8 8, nb t0 16 8, nb t0 24 8, nb t1 0 9, nb t1 16 8, nb t1 24 8,
    nb t2 0 6, nb t2 6 6, nb t2 12 6, nb t2 18 6, nb t2 24 6]
  let rate := s.fld Pg.MCG Fd.MCG_CFG_RATE
  let trefi := s.fld Pg.MCG Fd.MCG_REF_CTL_TREFI
  let intv := s.fld Pg.MCG Fd.MCG_REF_CTL_TRACK_INTV
  timings.all (· != 0) && s.fld Pg.MCG Fd.MCG_CFG_DENSITY != 3 && decide (rate < 6) &&
  !(decide (4 ≤ rate) && s.fld Pg.MCG Fd.MCG_CFG_TYPE == 0) && decide (64 ≤ trefi) && decide (1 ≤ intv) &&
  decide (intv ≤ 256) && decide (16 ≤ s.fld Pg.MCG Fd.MCG_REF_CTL_OSC_CYC)

/-- The configuration that a full training takes into force (R532). -/
def State.takeTraining (s : State) : State :=
  { s with trained := [Rg.MCG_CFG, Rg.MCG_TIMING0, Rg.MCG_TIMING1, Rg.MCG_TIMING2, Rg.MCG_REF_CTL].map fun o => s.rd Pg.MCG o }

/-- A channel trained: its quality figures, with MARGIN_LOW and MARGIN_LOST clear (R527, R529). -/
def State.channelTrained (s : State) (c : Nat) (m : MarginRead) : State :=
  let s := s.wr (Pg.MC c) Rg.MC_MARGIN (BitVec.ofNat 32 (m.readEye % 256 + 256 * (m.writeEye % 256) + 65536 * (m.vref % 256)))
  let s := (s.setFld (Pg.MC c) Fd.MC_STAT_MARGIN_LOW 0).setFld (Pg.MC c) Fd.MC_STAT_MARGIN_LOST 0
  let s := s.setFld Pg.MCG ⟨Rg.MCG_TRAIN_STAT, 3 + c, 1⟩ 0
  let s := s.setMc c { s.mcOf c with move0 := 0, move1 := 0, ue := 0 }
  s.setFld (Pg.MC c) Fd.MC_STAT_TRAINED 1

/-- RETRAIN: a write of TRAIN_CTL with RETRAIN (R529, R532). -/
def State.retrain (s : State) (w : Word) : State :=
  let s := s.writeReg Pg.MCG Rg.MCG_TRAIN_CTL w
  if wf w 0 1 = 0 then s
  else if s.mode = .idle ∨ s.mode = .setup then
    let s := s.setFld Pg.MCG Fd.MCG_TRAIN_STAT_RESULT 0
    if s.trainCfgOk then s.setFld Pg.MCG Fd.MCG_TRAIN_STAT_STATE 1
    else (s.setFld Pg.MCG Fd.MCG_TRAIN_STAT_STATE 3).logErr Er.MEM_CFG Pg.MCG
  else s.setFld Pg.MCG Fd.MCG_TRAIN_STAT_RESULT 1

def execRetrain (o : Owner) (w : Word) (s : State) : Host.Outcome State Fault Refusal :=
  .next (s.guarded o Pg.MCG Rg.MCG_TRAIN_CTL (·.retrain w))

/-- RETRAIN_DONE: by channel, the quality figures of a working setting, or none (R529, R530). -/
def State.retrainDone (s : State) (l : List (Option MarginRead)) : State :=
  if s.fld Pg.MCG Fd.MCG_TRAIN_STAT_STATE = 1 then
    let s := s.takeTraining
    let s := l.zipIdx.foldl (fun s (x : Option MarginRead × Nat) => match x.1 with
      | some m => s.channelTrained x.2 m
      | none =>
        let s := (s.setFld (Pg.MC x.2) Fd.MC_STAT_MARGIN_LOST 1).setFld Pg.MCG ⟨Rg.MCG_TRAIN_STAT, 3 + x.2, 1⟩ 1
        (s.setMc x.2 { s.mcOf x.2 with ue := 0 }).logErr Er.MARGIN_LOST Pg.MCG x.2) s
    s.setFld Pg.MCG Fd.MCG_TRAIN_STAT_STATE 2
  else s

def execRetrainDone (l : List (Option MarginRead)) (s : State) : Host.Outcome State Fault Refusal :=
  .next (s.retrainDone (l.take 12))

end Sys2Proof.Machine
end

