-- ==== Sys2Proof/Machine/Jobs.lean ====
section
/-!
DEFINITION. The job library in DRAM (R73-R76): directory entries, section tables, job states, and the watch over host
writes into it.
-/
namespace Sys2Proof.Machine

/-- States of Table — Job states. -/
abbrev jobEmpty : Nat := 0
abbrev jobLoading : Nat := 1
abbrev jobReady : Nat := 2
abbrev jobNext : Nat := 3
abbrev jobActive : Nat := 4
abbrev jobRefused : Nat := 5

/-- The DRAM address of a directory entry (R73). -/
def State.dirAddr (s : State) (j : Nat) : Nat := s.rd64 Pg.SYS Rg.SYS_LIB_BASE_LO Rg.SYS_LIB_BASE_HI + 64 * j

/-- A field of a directory entry (Table — Job directory entry). -/
def State.dir (s : State) (j lo len : Nat) : Nat :=
  nb (s.dramNat (s.dirAddr j + lo / 8) ((lo % 8 + len + 7) / 8)) (lo % 8) len

/-- A field of a directory entry written by the WX16. -/
def State.setDir (s : State) (j lo len v : Nat) : State :=
  let a := s.dirAddr j + lo / 8
  let n := (lo % 8 + len + 7) / 8
  s.dramPut a (leBytes n (nbSet (s.dramNat a n) (lo % 8) len v))

def State.jobState (s : State) (j : Nat) : Nat := s.dir j 0 3
def State.setJobState (s : State) (j st : Nat) : State := s.setDir j 0 3 st
def State.jobSectBase (s : State) (j : Nat) : Nat := s.dir j 96 64
def State.jobSectCount (s : State) (j : Nat) : Nat := s.dir j 160 32

/-- A section entry (Table — Section entry). -/
structure Sect where
  type       : Nat
  compressed : Bool
  len        : Nat
  outLen     : Nat
  crc        : Nat
  addr       : Nat
  dest       : Nat
deriving DecidableEq, Repr

/-- The section entry that a 256-bit number spells. -/
def sectOf (x : Nat) : Sect :=
  ⟨nb x 0 16, tbit x 16, nb x 32 32, nb x 64 32, nb x 96 32, nb x 128 64, nb x 192 32⟩

/-- The section table of a job, at most its limit of 4,096 entries (R698). -/
def State.jobSects (s : State) (j : Nat) : List Sect :=
  (List.range (Nat.min (s.jobSectCount j) 4096)).map fun i => sectOf (s.dramNat (s.jobSectBase j + 32 * i) 32)

/-- The DRAM ranges that belong to a job (R76): address and bytes. -/
def State.jobRanges (s : State) (j : Nat) : List (Nat × Nat) :=
  (s.dirAddr j, 64) :: (s.jobSectBase j, 32 * Nat.min (s.jobSectCount j) 4096) ::
    (s.jobSects j).map fun x => (x.addr, x.len)

/-- Whether a range meets the library data of a job. -/
def State.inJob (s : State) (j a n : Nat) : Bool :=
  (s.jobRanges j).any fun r => decide (r.1 < a + n) && decide (a < r.1 + r.2)

/-- The RO bits of a directory entry: STATE, MASTER_VALID and GENERATION. -/
def dirRo : Nat := 0x7 + 0xF * 2 ^ 8 + (2 ^ 32 - 1) * 2 ^ 192

/-- The RO bits of a master header (Table — Master header). -/
def headRo : Nat := 0x1F + 0xF * 2 ^ 8 + (2 ^ 128 - 1) * 2 ^ 32

/-- The places of 64 bytes whose RO fields only the WX16 writes (R74, R301), by job, address and RO bits: every directory entry, and the
master headers of a job that is neither EMPTY nor LOADING. -/
def State.roPlaces (s : State) : List (Nat × Nat × Nat) :=
  (List.range 64).flatMap fun j =>
    (j, s.dirAddr j, dirRo) :: (if s.jobState j ≤ jobLoading then [] else
      ((s.jobSects j).filter fun x => decide (0x120 ≤ x.type) && decide (x.type < 0x124)).map fun x => (j, x.addr, headRo))

/-- A host write stored, but for the RO bits of directory entries and master headers; an RO bit that it would change in a job that is
neither EMPTY nor LOADING is remembered for validation (R74, R301) (DEDUCED, log entry 85). -/
def State.storeHost (s : State) (a : Nat) (l : List Byte) : State :=
  (s.roPlaces.filter fun x => decide (x.2.1 < a + l.length) && decide (a < x.2.1 + 64)).foldl (fun (t : State) (x : Nat × Nat × Nat) =>
    let old := s.dramNat x.2.1 64 &&& x.2.2
    let new := t.dramNat x.2.1 64
    let changed := decide (new &&& x.2.2 ≠ old)
    let t := if changed then t.dramPut x.2.1 (leBytes 64 (new - (new &&& x.2.2) + old)) else t
    if changed && decide (jobLoading < s.jobState x.1) && !t.roWritten.contains x.1 then
      { t with roWritten := insertBy id x.1 t.roWritten } else t) (s.dramPut a l)

/-- A running prediction of a job ends with RESULT = ABORTED as the job returns to LOADING (R324). -/
def State.abortPredict (s : State) (j : Nat) : State :=
  match s.predict with
  | some x => if x.job = j then
      ({ s with predict := none }.setFld Pg.MST Fd.MST_ART_STAT_STATE 2).setFld Pg.MST Fd.MST_ART_STAT_RESULT 3 else s
  | none => s

/-- A host write into DRAM by BAR2, WCP or DMA (R76, R513). The entry of a write that is discarded holds bits [31:0] of the DRAM address in
ARG1, which has no more bits (DESIGN CHOICE, log entry 64). -/
def State.hostWrite (s : State) (port a : Nat) (l : List Byte) : State :=
  if l.isEmpty then s
  else if s.outOfRange a l.length then s.memRange port
  else
    let of (st : Nat) : List Nat := (List.range 64).filter fun j => decide (s.jobState j = st) && s.inJob j a l.length
    match of jobNext ++ of jobActive with
    | j :: _ => s.logErr Er.JOB_WRITE_PROT Pg.SYS j (a % 2 ^ 32)
    | [] => (of jobReady).foldl (fun s j => (s.setJobState j jobLoading).abortPredict j) (s.storeHost a l)

/-- The run record rewritten in one access, beyond the job directory (R638). -/
def State.runRecord (s : State) : State :=
  let id (j : Option JobCtx) : Nat := match j with | some j => j.id | none => 0
  let tag (j : Option JobCtx) : Nat := match j with | some j => j.tag % 2 ^ 32 | none => 0
  let x := id s.jobA + 2 ^ 6 * b2n s.mode.job + 2 ^ 8 * id s.jobN + 2 ^ 14 * b2n (s.mode == .changeover) +
    2 ^ 32 * tag s.jobA + 2 ^ 64 * (s.resA.lastRep % 2 ^ 32) + 2 ^ 96 * tag s.jobN
  s.dramPut (s.dirAddr 64) (leBytes 64 x)

/-- A pixel or table of a job's section in a loaded context: its DRAM address and bytes. -/
def JobCtx.sect (c : JobCtx) (type : Nat) : Option (Nat × Nat × List Byte) :=
  (c.sects.find? (·.1 == type)).map (·.2)

/-- The bytes of a section, none for an absent one. -/
def JobCtx.bytes (c : JobCtx) (type : Nat) : List Byte :=
  match c.sect type with | some (_, _, l) => l | none => []

/-- A field of a section of a loaded context: bits counted from byte `base` (R2). -/
def JobCtx.bits (c : JobCtx) (type base lo len : Nat) : Nat :=
  nb (leNat (((c.bytes type).drop (base + lo / 8)).take ((lo % 8 + len + 7) / 8))) (lo % 8) len

end Sys2Proof.Machine
end

