-- ==== Sys2Proof/Machine/Contexts.lean ====
section
/-!
DEFINITION. Job contexts (R77, R231, R290): the active copy in the context store, the next copy as it was loaded, and which
copy a line of a view runs under (R80, R84).
-/
namespace Sys2Proof.Machine

/-- The copy of a context: the active job's or the next job's. -/
inductive Copy where
  | active | next
deriving DecidableEq, Repr

/-- Section types of Table — Section types. -/
abbrev sectPort (n : Nat) : Nat := 0x100 + n
abbrev sectStitch : Nat := 0x110
abbrev sectCmp : Nat := 0x111
abbrev sectMasks : Nat := 0x112
abbrev sectCells : Nat := 0x113
abbrev sectRules : Nat := 0x114
abbrev sectRegs : Nat := 0x115
abbrev sectMaster (v : Nat) : Nat := 0x120 + v
abbrev sectArt : Nat := 0x124
abbrev sectPred (v : Nat) : Nat := 0x128 + v

/-- The window of the active port contexts (R231), and, past BAR0, the active copies that the host reaches through table
registers: the stitch and registration table space (R290). -/
abbrev portCtxAt (n : Nat) : Nat := 0x200000 + n * 0x20000
abbrev stitchAt : Nat := 0x2000000

def State.view_ (s : State) (v : Nat) : ViewSt := tabGet (dflt {}) s.view v
def State.setView (s : State) (v : Nat) (x : ViewSt) : State := { s with view := tabPut (dflt {}) v x s.view }

/-- Whether a view's changeover line is in force for a line: the view's line `n` belongs to the new job (R80). -/
def State.newAt (s : State) (v n : Nat) : Bool :=
  s.mode == .changeover && (match (s.view_ v).chg with | some c => decide (c ≤ n) | none => false)

/-- The copy that governs a line of a view. -/
def State.copyAt (s : State) (v n : Nat) : Copy := if s.newAt v n then .next else .active

/-- The job of a copy. -/
def State.jobOf (s : State) (c : Copy) : Option JobCtx := match c with | .active => s.jobA | .next => s.jobN

/-- Bits of a job's section, 0 without a job (R2). -/
def State.jobBits (s : State) (c : Copy) (type base lo len : Nat) : Nat :=
  match s.jobOf c with | none => 0 | some j => j.bits type base lo len

/-- A field of a port context, from its region's start (R231, R232); a job without a section for the port leaves it as it is. -/
def State.portCtx (s : State) (c : Copy) (p base lo len : Nat) : Nat :=
  match c with
  | .active => s.winBits (portCtxAt p + base) lo len
  | .next => match s.jobN.bind (·.sect (sectPort p)) with
    | some _ => s.jobBits .next (sectPort p) base lo len
    | none => s.winBits (portCtxAt p + base) lo len

/-- A field of the stitch and registration table space (R290). -/
def State.stitch (s : State) (c : Copy) (base lo len : Nat) : Nat :=
  match c with
  | .active => s.winBits (stitchAt + base) lo len
  | .next => s.jobBits .next sectStitch base lo len

/-- A field of the view record (Table — View record), unsigned and signed. -/
def State.vrec (s : State) (c : Copy) (v lo len : Nat) : Nat := s.stitch c (v * 0x40) lo len
def State.vrecI (s : State) (c : Copy) (v lo len : Nat) : Int := sext len (s.vrec c v lo len)

def State.vWidth (s : State) (c : Copy) (v : Nat) : Nat := s.vrec c v 0 19
def State.vPlanes (s : State) (c : Copy) (v : Nat) : Nat := if s.vrec c v 19 1 = 1 then 3 else 1
def State.pitchX (s : State) (c : Copy) (v : Nat) : Nat := s.vrec c v 32 16
def State.pitchY (s : State) (c : Copy) (v : Nat) : Nat := s.vrec c v 48 16
def State.mx0 (s : State) (c : Copy) (v : Nat) : Int := s.vrecI c v 288 32

/-- REPEAT_LEN of a copy's job (R21). -/
def State.repeatLen (s : State) (c : Copy) : Nat := match s.jobOf c with | none => 0 | some j => j.repeatLen

/-- Whether a copy's job enables a view. -/
def State.enables (s : State) (c : Copy) (v : Nat) : Bool := match s.jobOf c with | none => false | some j => tbit j.viewEn v

/-- The ports of a view: those whose PORTp_CTL has IN_VIEW and VIEW, in order (R260). -/
def State.portsOf (s : State) (v : Nat) : List Nat :=
  (List.range 16).filter fun p => s.on Pg.STI (Fd.STI_PORT_CTL_IN_VIEW p) && s.fld Pg.STI (Fd.STI_PORT_CTL_VIEW p) == v

/-! ### The repeat frame (R22-R26, R276) -/

/-- The frame in force at a line. -/
def State.frameAt (s : State) (v n : Nat) : Frame :=
  ((s.view_ v).frames.find? fun f => decide (f.line ≤ n)).getD { line := 0, zc := 0, count := false }

/-- A(n) of R276. -/
def State.aOf (s : State) (v n : Nat) : Int := n * s.pitchY (s.copyAt v n) v - (s.frameAt v n).zc

/-- The frame repeat of a line, by R276; lines before A = 0 have none. -/
def State.frameRep (s : State) (v n : Nat) : Int :=
  let r := s.repeatLen (s.copyAt v n)
  if r = 0 then 0 else s.aOf v n / (r : Int) + 1

/-- The repeat count of a line in its job: 0 before the job's first repeat start (R24, R25, R283), saturating. -/
def State.repOf (s : State) (v n : Nat) : Nat :=
  if !(s.frameAt v n).count then 0 else Nat.min (s.frameRep v n).toNat 0xFFFFFFFF

/-- y of a line (R22, R276). -/
def State.yOf (s : State) (v n : Nat) : Nat :=
  let r := s.repeatLen (s.copyAt v n)
  if r = 0 then 0 else (s.aOf v n % (r : Int)).toNat

/-- The web distance of a point (R26), µm, 48 bits. -/
def webDistance (rep len y : Nat) : Nat := if rep = 0 then 0 else ((rep - 1) * len + y) / 16 % 2 ^ 48

/-- Whether a line is the repeat start of its repeat in its job (R22). -/
def State.repeatStartAt (s : State) (v n : Nat) : Bool :=
  decide (0 < s.repOf v n) && (n == 0 || decide (s.repOf v (n - 1) ≠ s.repOf v n) || s.copyAt v (n - 1) != s.copyAt v n)

/-- The next web line of a view: the number after the last one given (R12). -/
def State.nextLine (s : State) (v : Nat) : Nat := (tabGet (dflt {}) s.tg v).next

/-- The device time of a line's capture (R30), 0 for a line that is not kept. -/
def State.lineRec (s : State) (v n : Nat) : Option LineRec := tabGet (dflt none) (tabGet (dflt {}) s.tg v).hist n
def State.lineTime (s : State) (v n : Nat) : Nat := match s.lineRec v n with | some r => r.time | none => 0

/-! ### DATA tasks and their anchors (R59, R470) -/

/-- Task numbers of Table — Task inputs. -/
abbrev taskChangeover : Nat := 40
abbrev taskHold : Nat := 41
abbrev taskDecSync : Nat := 42

/-- Whether a task is of kind DATA. -/
def taskData (t : Nat) : Bool := t == 40 || t == 42 || (decide (48 ≤ t) && decide (t < 63))

/-- Whether the anchor of an occurrence in view `v` is line `n` or earlier (R59, R470). -/
def State.anchored (s : State) (st : Stamp) (v n : Nat) : Bool :=
  match st.line with
  | none => decide (st.time < s.lineTime v n)
  | some (w, l) =>
    if w = v then decide (l + 8192 ≤ n)
    else match s.lineRec w (l + 8192), s.lineRec v n with
      | some a, some b => decide (a.cycle < b.cycle)
      | _, _ => false

/-- Whether a block has to wait with line `n` of a view for an event whose anchor could be that line or an earlier one (R470). -/
def State.eventWait (s : State) (v n : Nat) : Bool :=
  s.evf.data.any (fun o => s.anchored o.stamp v n) ||
  s.raised.any (fun e => e.2.line.isSome && s.anchored e.2 v n) ||
  s.evf.occ.any fun l => l.any fun o => o.stamp.line.isSome && taskData o.task && s.anchored o.stamp v n

/-- The anchor line of a stamp in a view, once it is known. -/
def State.anchorOf (s : State) (st : Stamp) (v : Nat) : Option Nat :=
  match st.line with
  | some (w, l) => if w = v then some (l + 8192)
    else ((tabGet (dflt {}) s.tg v).hist.find? fun e => s.anchored st v e.1).map (·.1)
  | none => ((tabGet (dflt {}) s.tg v).hist.find? fun e => s.anchored st v e.1).map (·.1)

/-! ### Loading (R77) -/

/-- Whether a section is used where it lies in DRAM (R301, R319, R321). -/
def sectStays (type : Nat) : Bool := (0x120 ≤ type && type < 0x124) || type == sectArt || (0x128 ≤ type && type < 0x12C)

/-- The context that a job of the library loads (R77). -/
def State.jobCtx (s : State) (j : Nat) : JobCtx := {
  id := j, legacy := s.dir j 3 1 == 1, viewEn := s.dir j 4 4, masterOk := s.dir j 8 4, artwork := s.dir j 12 4
  repeatLen := s.dir j 32 40, sectBase := s.jobSectBase j, sectCount := s.jobSectCount j, tag := s.dir j 224 32
  sects := (s.jobSects j).map fun x => (x.type, x.addr, x.len, if sectStays x.type then [] else s.dram x.addr x.len) }

/-! ### Register values of the new job (R84, R205) -/

/-- The pairs of a JOB_REGS section (Table — Section types). -/
def State.jobRegs (s : State) (c : Copy) : List (Nat × Word) :=
  match s.jobOf c with
  | none => []
  | some j =>
    let l := j.bytes sectRegs
    (List.range (l.length / 8)).map fun i => ((leWord l (2 * i)).toNat, leWord l (2 * i + 1))

/-- The value that a register takes with the next job (R205): a pending commit for the next job, else JOB_REGS, else the value
in force. -/
def State.nextVal (s : State) (p off : Nat) : Word :=
  let a := p * 4096 + off
  let fromCommit : Option Word := match s.pend p with
    | some c => (c.parts.filter fun (x : Part) => match x.bound with | .job _ => true | _ => false).findSome? fun (x : Part) =>
        (x.regs.find? (·.1 == a)).map (·.2)
    | none => none
  match fromCommit with
  | some w => w
  | none => (((s.jobRegs .next).reverse.find? (·.1 == a)).map (·.2)).getD (s.rd p off)

/-- A register of a page that serves every view, as it holds for the lines of a copy's job (R84): in a changeover the register in force
stays the old job's until the changeover ends. -/
def State.jobRd (s : State) (c : Copy) (p off : Nat) : Word := match c with | .active => s.rd p off | .next => s.nextVal p off

/-- A field of such a register. -/
def State.jobFld (s : State) (c : Copy) (p : Nat) (f : Fld) : Nat := wf (s.jobRd c p f.off) f.lo f.len

/-- A register of a view's own as it holds at the view's changeover line and after it (R84, R285): the new job's value until
the stage has taken it over. -/
def State.newReg (s : State) (v p off : Nat) : Word :=
  let x := s.view_ v
  match x.chg with
  | some c => if x.past && decide (tabGet (dflt 0) s.entered (4 * p + v) ≤ c) then s.nextVal p off else s.rd p off
  | none => s.rd p off

end Sys2Proof.Machine
end

