-- ==== Sys2Proof/Machine/Position.lean ====
section
/-!
DEFINITION. Position channels and trigger generators (R97-R122) as operations: counts, speed, wraps, accumulators, triggers due,
skipped and issued. The commands that use them stand where what they set off is defined.
-/
namespace Sys2Proof.Machine

def State.chanOf (s : State) (ch : Nat) : Chan := tabGet (dflt {}) s.chan ch
def State.setChan (s : State) (ch : Nat) (v : Chan) : State := { s with chan := tabPut (dflt {}) ch v s.chan }
def State.tgOf (s : State) (v : Nat) : TrigGen := tabGet (dflt {}) s.tg v
def State.setTg (s : State) (v : Nat) (g : TrigGen) : State := { s with tg := tabPut (dflt {}) v g s.tg }

/-- An event of a position channel in a sample (Table — Event sources): the time of the sample's cycle. -/
def State.posEvent (s : State) (ch k sample : Nat) : State :=
  s.raise (evPos ch k) { time := s.timeAt (rawOfCycle sample) / 65536 }

/-! ### Generators (R116-R119) -/

/-- Whether view `v` is enabled for its generator (R117). -/
def State.viewOn (s : State) (v : Nat) : Bool :=
  match s.mode with
  | .setup => s.on Pg.STI ⟨Rg.STI_VIEW_CTL v, 0, 1⟩
  | .learn | .inspect | .changeover | .legacy => (s.view_ v).run
  | _ => false

/-- Whether generator `v` runs (R117); none does while POS is disabled (DESIGN CHOICE, log entry 75). -/
def State.tgRuns (s : State) (v : Nat) : Bool :=
  s.on Pg.POS Fd.HDR_PAGE_CTL_EN && s.on Pg.POS (Fd.POS_TG_CTL_EN v) && s.viewOn v

/-- A generator starts with an empty accumulator, or stops (R116, R117). A start begins a run of lines. A generator that a commit disables
stops at the line of the commit's boundary, so that the line before it is still issued (R120); else it stops at once. -/
def State.tgSync (s : State) (v : Nat) : State :=
  let g := s.tgOf v
  if s.tgRuns v && !g.running then
    let s := s.setTg v { g with acc := 0, running := true, anyDue := false }
    s.setView v { s.view_ v with first := g.next }
  else if !s.tgRuns v && g.running then
    s.stopAt v (if s.on Pg.POS Fd.HDR_PAGE_CTL_EN && s.viewOn v then g.next else 0) pageList
  else s

/-- Every generator brought up to date with the mode, the views and its registers. -/
def State.tgSyncAll (s : State) : State := (List.range 4).foldl (fun s v => s.tgSync v) s

/-- The cycle a due trigger is issued in: the next one, or once MIN_PERIOD has elapsed (R118, R119). -/
def State.issueCycle (s : State) (v due : Nat) : Nat :=
  match (s.tgOf v).issued with
  | none => due + 1
  | some c => Nat.max (due + 1) (c + s.fld Pg.POS (Fd.POS_TG_CTL_MIN_PERIOD v))

/-- The last line number shown (Table — POS page). -/
def State.showLine (s : State) (v n : Nat) : State :=
  (s.wr Pg.POS (Rg.POS_TG_LINE_LO v) (BitVec.ofNat 32 n)).setFld Pg.POS (Fd.POS_TG_LINE_HI_b0 v) (n / 2 ^ 32)

/-- A trigger falls due in a sample: it waits to be issued, or is skipped behind one that waits (R119). Its cycle is known from here on,
by the values in force for its line (R120); OVERSPEED carries the skipped line and its capture time (DESIGN CHOICE, log entry 77). -/
def State.due (s : State) (v sample : Nat) (travel : Int) : State :=
  let g := s.tgOf v
  let n := g.next
  match g.waiting with
  | none =>
    let c := s.issueCycle v sample
    let s := s.setTg v { g with waiting := some (n, c, travel), next := n + 1, anyDue := true }
    s.setBit Pg.POS (Fd.POS_TG_CTL_LAGGING v) (decide (sample + 1 < c))
  | some w =>
    let c := Nat.max sample ((g.skipq.getLast?.getD w).2.1)
    let s := s.setTg v { g with skipq := g.skipq ++ [(n, c, travel)], next := n + 1, anyDue := true }
    let s := s.bump Pg.POS (Fd.POS_TG_LINE_HI_SKIP_CNT v)
    s.raiseLine (evOverspeed v) v n (s.timeAt (rawOfCycle c) / 65536)

/-! ### Lines at which triggers stop (R81, R84) -/

/-- Whether line `n` of a view brings its changeover line, and which it is (R81, R84). -/
def State.chgDue (s : State) (v n : Nat) : Option Nat :=
  let x := s.view_ v
  if x.past then none
  else match x.chg with
    | some c => if c ≤ n then some c else none
    | none =>
      let st := s.fld Pg.SYS Fd.SYS_CHG_CTL_STATE
      let last := (s.rd Pg.SYS Rg.SYS_CHG_LAST_REPEAT).toNat
      if (st = 1 ∨ st = 2) ∧ s.fld Pg.SYS Fd.SYS_CHG_CTL_TRIGGER = 0 ∧ s.enables .active v ∧ last < s.repOf v n then some n
      else none

/-- Whether line `n` of a view belongs to the new job of a changeover that is armed or in progress (R80, R84), as the triggers and the
intake see it. -/
def State.isNew (s : State) (v n : Nat) : Bool :=
  s.fld Pg.SYS Fd.SYS_CHG_CTL_STATE != 0 && match (s.view_ v).chg with | some c => decide (c ≤ n) | none => (s.chgDue v n).isSome

/-- STI.PORTp_CTL as it holds for line `n` of a view (R205, R292): the new job's value from the changeover line on, also before the stitcher
has taken it over. -/
def State.portWord (s : State) (p v n : Nat) : Word :=
  let o := Rg.STI_PORT_CTL p
  let taken := match (s.view_ v).chg with | some c => decide (c < tabGet (dflt 0) s.entered (4 * Pg.STI + v)) | none => false
  if s.isNew v n && !taken then s.nextVal Pg.STI o else s.rd Pg.STI o

/-- The ports of a view at line `n`: those whose PORTp_CTL has IN_VIEW and VIEW (R260). -/
def State.portsAt (s : State) (v n : Nat) : List Nat :=
  (List.range 16).filter fun p => let w := s.portWord p v n; wf w 0 1 == 1 && wf w 1 2 == v

/-- The triggers of a view that leaves stop at its changeover line. Commits of job-scoped pages that wait in the view are left to be
discarded as the first changeover line enters intake (R88). -/
def State.endTriggers (s : State) (v c : Nat) : State :=
  let keep (p : Nat) : Bool := s.mode == .changeover || !jobPages.contains p
  (s.setView v { s.view_ v with run := false }).stopAt v c (pageList.filter keep)

/-- The generator of a view that leaves stops before the trigger of its changeover line falls due (R84). -/
def State.lastLine (s : State) (v : Nat) : State :=
  if s.fld Pg.SYS Fd.SYS_CHG_CTL_STATE = 0 ∨ s.enables .next v then s
  else match s.chgDue v (s.tgOf v).next with
    | some c => (s.setView v { s.view_ v with chg := some c }).endTriggers v c
    | none => s

/-- The next trigger of a view will be line `n`: commits of POS and of ports whose boundary that is (R120, R121, R201). -/
def State.dueBoundary (s : State) (v : Nat) : State :=
  let n := (s.tgOf v).next
  let past : Bool := s.fld Pg.SYS Fd.SYS_CHG_CTL_STATE != 0 && (s.chgDue v n).isSome
  (Pg.POS :: (List.range 16).map Pg.CP).foldl (fun (s : State) p => s.boundary p v n (s.repOf v n) past) s

/-- Triggers fall due one after the other while the accumulator is at least RATIO, at most `fuel` of them. -/
def State.dueLoop (s : State) (v sample : Nat) (travel : Int) : Nat → State
  | 0 => s
  | fuel + 1 =>
    let g := s.tgOf v
    let ratio : Int := (s.rd Pg.POS (Rg.POS_TG_RATIO v)).toNat
    if !g.running ∨ ratio ≤ 0 ∨ g.acc < ratio then s
    else
      let s := s.lastLine v
      if !(s.tgOf v).running then s
      else ((((s.setTg v { g with acc := g.acc - ratio }).due v sample travel).dueBoundary v).tgSync v).dueLoop v sample travel fuel

/-- A count reaches generator `v`, in units of 2^-16 counts (R116). -/
def State.tgCount (s : State) (v sample : Nat) (rev : Bool) (travel : Int) : State :=
  let s := s.tgSync v
  let g := s.tgOf v
  if !g.running then s
  else
    let acc := g.acc + (if rev then -65536 else 65536)
    let s := s.setTg v { g with acc := acc }
    if rev then s else s.dueLoop v sample travel ((acc / 65536).toNat + 1)

/-- The generators that count from a channel. -/
def State.tgsOf (s : State) (ch : Nat) : List Nat :=
  (List.range 4).filter fun v => s.fld Pg.POS (Fd.POS_TG_CTL_SRC v) == ch

/-! ### Wraps for registration (R278, R283) -/

/-- round(a ÷ b) of R259. -/
abbrev rnd (a : Int) (b : Nat) : Int := rdiv a b

/-- The least whole number k such that ⌈(z + k × len) ÷ pitch⌉ is at least m (R283). -/
def leastK (z : Int) (len pitch : Nat) (m : Int) : Int :=
  let need : Int := (m - 1) * pitch + 1 - z
  (need + len - 1) / (len : Int)

/-- The encoder target of a wrap position: ZW + PHASE (R278). -/
def State.zenc (s : State) (v : Nat) (zw : Int) : Int := zw + (s.newReg v Pg.REG (Rg.REG_VIEW_PHASE v)).toNat

/-- An acquiring view takes its Zc from the first wrap at or after its changeover line (R283). -/
def State.regWrap (s : State) (v nLast : Nat) (zw : Int) : State :=
  let x := s.view_ v
  match x.await with
  | none => s
  | some c =>
    if nLast < c then s
    else
      let cp := s.copyAt v c
      let z := s.zenc v zw
      let k := leastK z (s.repeatLen cp) (s.pitchY cp v) ((nLast : Int) + 64)
      s.setView v { x with await := none, frames := { s.frameAt v (nLast + 1) with line := nLast + 1, zc := z + k * s.repeatLen cp } :: x.frames }

/-- A forward wrap reported by generator `v` (R278): the last 64 are kept for R281. -/
def State.wrapFor (s : State) (v : Nat) : State :=
  let g := s.tgOf v
  if !g.running || !g.anyDue || g.next == 0 then s
  else
    let n := g.next - 1
    let py := s.pitchY (s.copyAt v n) v
    let zw : Int := n * py + rnd (g.acc * py) (s.rd Pg.POS (Rg.POS_TG_RATIO v)).toNat
    let x := s.view_ v
    (s.setView v { x with wraps := ((n, zw) :: x.wraps).take 64 }).regWrap v n zw

/-! ### Counts and speed (R99-R113) -/

/-- SPEED of a window of periods (R109). -/
def speedOf (l : List Nat) : Nat := 10 ^ 8 * l.length / sumN l

/-- The speed, the direction and the state flags after a count (R109-R113). -/
def State.speedCount (s : State) (ch sample : Nat) (rev : Bool) : State :=
  let x := s.chanOf ch
  let p := Pg.POS
  let dirWas := s.on p (Fd.POS_CH_STAT_DIR ch)
  let turn (s : State) : State :=
    if rev != dirWas then (s.setBit p (Fd.POS_CH_STAT_DIR ch) rev).posEvent ch 5 sample else s
  if s.on p (Fd.POS_CH_STAT_STANDSTILL ch) then
    let s := (s.setFld p (Fd.POS_CH_STAT_STANDSTILL ch) 0).setFld p (Fd.POS_CH_STAT_STARTING ch) 1
    turn ((s.setChan ch { x with last := some (sample, rev), window := [] }).posEvent ch 4 sample)
  else
    match x.last with
    | some (t, d) =>
      if d = rev then
        let w := ((sample - t) :: x.window).take (2 ^ s.fld p (Fd.POS_CH_SPEED_CTL_AVG ch))
        let s := s.setChan ch { x with last := some (sample, rev), window := w }
        let s := s.wr p (Rg.POS_CH_SPEED ch) (BitVec.ofNat 32 (speedOf w))
        (s.setFld p (Fd.POS_CH_STAT_STARTING ch) 0).setBit p (Fd.POS_CH_STAT_MOVING ch) (!rev)
      else
        let s := turn (s.setChan ch { x with last := some (sample, rev), window := [] })
        let s := (s.wr p (Rg.POS_CH_SPEED ch) 0).setFld p (Fd.POS_CH_STAT_STARTING ch) 1
        s.setFld p (Fd.POS_CH_STAT_MOVING ch) 0
    | none => turn (s.setChan ch { x with last := some (sample, rev), window := [] })

/-- The position counter after a count; answers whether a forward count wrapped it (R105). -/
def State.countPos (s : State) (ch : Nat) (rev : Bool) : State × Bool :=
  let cpr := (s.rd Pg.POS (Rg.POS_CH_CPR ch)).toNat
  let c := (s.rd Pg.POS (Rg.POS_CH_COUNT ch)).toNat
  let put (n : Nat) : State := s.wr Pg.POS (Rg.POS_CH_COUNT ch) (BitVec.ofNat 32 n)
  if rev then (put (if c = 0 then cpr - 1 else c - 1), false)
  else if cpr ≤ c + 1 then (put 0, true)
  else (put (c + 1), false)

/-- A count of a channel: the counter, the speed, the generators and the wrap (R99, R105, R109, R116, R278). -/
def State.count (s : State) (ch sample : Nat) (rev : Bool) : State :=
  let (s, wrap) := s.countPos ch rev
  let s := s.speedCount ch sample rev
  let x := s.chanOf ch
  let s := s.setChan ch { x with
    travel := x.travel + (if rev then -1 else 1), now := sample,
    wrapped := x.wrapped || wrap, wrapAt := if wrap then some sample else x.wrapAt }
  let s := (s.tgsOf ch).foldl (fun s v => s.tgCount v sample rev (s.chanOf ch).travel) s
  if wrap then
    let s := (s.setFld Pg.POS (Fd.POS_CH_STAT_WRAPPED ch) 1).posEvent ch 0 sample
    (s.tgsOf ch).foldl (fun s v => s.wrapFor v) s
  else s

/-- An illegal transition (R100, R104). -/
def State.illegal (s : State) (ch sample : Nat) : State :=
  ((s.setFld Pg.POS (Fd.POS_CH_STAT_ILLEGAL ch) 1).bump Pg.POS (Fd.POS_CH_ERR_CNT_ILLEGAL_CNT ch)).posEvent ch 7 sample

/-- An input step of a channel in a sample, by its mode (R99, R100, R103). In SSI mode the step is the next replayed count. -/
def State.encStep (s : State) (ch sample : Nat) (step : EncStep) : State :=
  let s := s.atCycle sample
  let inv := s.on Pg.POS (Fd.POS_CH_CTL_INVERT_DIR ch)
  match s.fld Pg.POS (Fd.POS_CH_CTL_MODE ch) with
  | 0 => s
  | 3 =>
    match (s.chanOf ch).replay with
    | [] => s
    | (t, rev) :: rest => (s.setChan ch { s.chanOf ch with replay := rest }).count ch t rev
  | m =>
    match step with
    | .illegal => if m = 1 then s.illegal ch sample else s
    | .fwd => s.count ch sample inv
    | .rev => s.count ch sample (!inv)

/-! ### Index, standstill, SSI (R101-R107, R110) -/

/-- ENC_INDEX: an active edge of Z (R106, R107). -/
def State.index (s : State) (ch sample : Nat) : State :=
  let s := s.atCycle sample
  let p := Pg.POS
  let s := (s.setFld p (Fd.POS_CH_STAT_INDEX ch) 1).posEvent ch 1 sample
  if s.fld p (Fd.POS_CH_CTL_INDEX ch) ≠ 1 ∨ s.on p (Fd.POS_CH_STAT_DIR ch) then s
  else
    let x := s.chanOf ch
    let s := (s.wr p (Rg.POS_CH_COUNT ch) 0).setChan ch { x with homed := true, wrapped := false, wrapAt := none }
    if !x.homed ∨ x.wrapAt = some sample then s
    else if x.wrapped then (s.setFld p (Fd.POS_CH_STAT_LONG_REPEAT ch) 1).posEvent ch 3 sample
    else (s.setFld p (Fd.POS_CH_STAT_SHORT_REPEAT ch) 1).posEvent ch 2 sample

/-- ENC_INDEX: an active edge of Z (R106); none is seen while the channel is off (DESIGN CHOICE, log entry 73). -/
def execEncIndex (ch : Fin 2) (sample : Nat) (s : State) : Host.Outcome State Fault Refusal :=
  .next (if s.mode = .boot ∨ s.fld Pg.POS (Fd.POS_CH_CTL_MODE ch) = 0 then s.atCycle sample else s.index ch sample)

/-- STANDSTILL: no count for STILL_MS (R110); a count in the sample of the expiry prevents it, and the time does not expire before
STILL_MS milliseconds have passed since the last count. -/
def State.standstill (s : State) (ch sample : Nat) : State :=
  let s := s.atCycle sample
  let p := Pg.POS
  match (s.chanOf ch).last with
  | none => s
  | some (t, _) =>
    if s.on p (Fd.POS_CH_STAT_STANDSTILL ch) || decide (sample < t + 100000 * s.fld p (Fd.POS_CH_SPEED_CTL_STILL_MS ch)) then s
    else
      let s := s.setChan ch { s.chanOf ch with window := [] }
      let s := (s.wr p (Rg.POS_CH_SPEED ch) 0).setFld p (Fd.POS_CH_STAT_STANDSTILL ch) 1
      (s.setFld p (Fd.POS_CH_STAT_MOVING ch) 0).posEvent ch 6 sample

def execStandstill (ch : Fin 2) (sample : Nat) (s : State) : Host.Outcome State Fault Refusal := .next (s.standstill ch sample)

/-- The binary number of a Gray-coded one of `n` bits (R101). -/
def grayToBin : Nat → Nat → Nat
  | 0, _ => 0
  | n + 1, g => let hi := grayToBin n (g / 2); 2 * hi + (g + hi) % 2

/-- SSI_READ: a read of the encoder becomes counts replayed over the following read period, the first in the
read's own sample; the first read after reset gives none (R101, R103, R104; DESIGN CHOICE, log entry 72). -/
def State.ssiRead (s : State) (ch sample : Nat) (value : Word) : State :=
  let s := s.atCycle sample
  let p := Pg.POS
  let bits := s.fld p (Fd.POS_CH_SSI_CTL_BITS ch)
  let raw := value.toNat % 2 ^ bits
  let new := if s.on p (Fd.POS_CH_SSI_CTL_GRAY ch) then grayToBin bits raw else raw
  let period := s.fld p (Fd.POS_CH_SSI_CTL_READ_PERIOD ch)
  let x := s.chanOf ch
  if s.mode = .boot ∨ s.fld p (Fd.POS_CH_CTL_MODE ch) ≠ 3 ∨ bits = 0 then s
  else match x.ssi with
    | none => s.setChan ch { x with ssi := some new }
    | some old =>
      let m := (new + 2 ^ bits - old) % 2 ^ bits
      let d : Int := if m ≤ 2 ^ (bits - 1) then m else (m : Int) - (2 ^ bits : Nat)
      if period < 4 * d.natAbs then s.illegal ch sample
      else
        let rev := decide (d < 0) != s.on p (Fd.POS_CH_CTL_INVERT_DIR ch)
        let l := (List.range d.natAbs).map fun i => (sample + i * period / d.natAbs, rev)
        s.setChan ch { x with ssi := some new, replay := x.replay ++ l }

def execSsiRead (ch : Fin 2) (value : Word) (sample : Nat) (s : State) : Host.Outcome State Fault Refusal :=
  .next (s.ssiRead ch sample value)

/-! ### Issue (R118, R119) -/

/-- A line's record kept: the travel store holds a view's last 16,384 lines (R30, R399). -/
def State.keepLine (s : State) (v n : Nat) (r : LineRec) : State :=
  let g := s.tgOf v
  let h := tabPut (dflt none) n (some r) g.hist
  s.setTg v { g with hist := tabClear 0 (n + 1 - 16384) h }

/-- The skipped triggers behind an issued line are kept with their cycles (R119). -/
def State.settleSkips (s : State) (v : Nat) : List (Nat × Nat × Int) → State
  | [] => s
  | (n, c, tr) :: t =>
    ((s.keepLine v n ⟨c, s.timeAt (rawOfCycle c) / 65536, tr, true⟩).showLine v n).settleSkips v t

/-- The due trigger of a view issued. Answers the lines that now have their cycle: the issued one first, then the skipped
ones behind it. -/
def State.issue (s : State) (v : Nat) : State × List Nat :=
  let g := s.tgOf v
  match g.waiting with
  | none => (s, [])
  | some (n, c, tr) =>
    let s := (s.setTg v { g with waiting := none, skipq := [], issued := some c }).setFld Pg.POS (Fd.POS_TG_CTL_LAGGING v) 0
    let s := (s.keepLine v n ⟨c, s.timeAt (rawOfCycle c) / 65536, tr, false⟩).showLine v n
    (s.settleSkips v g.skipq, n :: g.skipq.map (·.1))

/-- TG_LINE_LO_READ: a read of TGv_LINE_LO latches the line field of TGv_LINE_HI (R122). -/
def State.lineLo (s : State) (v : Nat) : State × Word :=
  (s.setTg v { s.tgOf v with latchHi := s.fld Pg.POS (Fd.POS_TG_LINE_HI_b0 v) }, s.rd Pg.POS (Rg.POS_TG_LINE_LO v))

def execTgLineLoRead (o : Owner) (v : Fin 4) (s : State) : Host.Outcome State Fault Refusal :=
  if s.reaches o Pg.POS then
    let (t, w) := (s.touch o Pg.POS).lineLo v
    .next (t.emit (.readData (ownerCode o) (Pg.POS * 4096 + Rg.POS_TG_LINE_LO v) w))
  else .next s

end Sys2Proof.Machine
end

