-- ==== Sys2Proof/Machine/Events.lean ====
section
/-!
DEFINITION. The event fabric (R460-R478): pins and software sources, channels, task inputs and relays. What a DATA task does
at its anchor stands with the blocks that own the tasks.
-/
namespace Sys2Proof.Machine

/-! ### Channels and gates -/

/-- The window offsets of a channel entry and of a task entry (R463, R468). -/
abbrev chanAt (c : Nat) : Nat := 0x180000 + 32 * c
abbrev taskAt (t : Nat) : Nat := 0x182000 + 16 * t

/-- A field of a channel entry (Table — Channel entry) and of a task entry (Table — Task entry). -/
def State.evc (s : State) (c lo len : Nat) : Nat := s.winBits (chanAt c) lo len
def State.evt (s : State) (t lo len : Nat) : Nat := s.winBits (taskAt t) lo len

/-- The level of EVIOn (R446, R468, R696, R697): the input of a pin that is not an output; else safe, manual, or the level
set by tasks, complemented while a task pulse is active. -/
def State.evioLevel (s : State) (n : Nat) : Bool :=
  let at_ (o : Nat) : Bool := tbit (s.rd Pg.PINS1 o).toNat n
  if !at_ Rg.PINS1_EVIO_OE then tbit s.evio.input n
  else if s.on Pg.PINS1 ⟨Rg.PINS1_PIN_STAT, 0, 1⟩ then at_ Rg.PINS1_EVIO_SAFE
  else if at_ Rg.PINS1_EVIO_MAN_EN then at_ Rg.PINS1_EVIO_MAN
  else tbit s.evio.level n != s.evio.pulses.any (·.1 == n)

/-- A gate level (Table — Gate levels). -/
def State.gate (s : State) (g : Nat) : Bool :=
  if g < 16 then s.evioLevel g
  else if g < 18 then s.on Pg.POS (Fd.POS_CH_STAT_MOVING (g - 16))
  else if g < 20 then s.on Pg.POS (Fd.POS_CH_STAT_STANDSTILL (g - 18))
  else if g < 24 then s.on Pg.REG (Fd.REG_VIEW_STATE_LOCK (g - 20))
  else if g = 24 then s.fld Pg.TB Fd.TB_STAT_STATE == 2
  else if g = 25 then s.mode == .inspect
  else s.mode.job

/-- Whether a channel fires on a source (R463). -/
def State.fires (s : State) (src c : Nat) : Bool :=
  s.evc c 0 9 == src && s.evc c 9 1 == 1 &&
  (s.evc c 28 1 == 0 || tbit (s.rd Pg.EVF Rg.EVF_GROUP_STATE).toNat (s.evc c 24 4)) &&
  (s.evc c 37 1 == 0 || (s.gate (s.evc c 32 5)) != (s.evc c 38 1 == 1))

/-- IRQ_STAT.FLAG follows the set flags of channels with IRQ = 1 (R467). -/
def State.flagIrq (s : State) : State :=
  let any := (List.range 256).any fun c => s.evc c 11 1 == 1 && tbit (s.rd Pg.EVF (Rg.EVF_FLAG (c / 32))).toNat (c % 32)
  if any then s.irq Pg.EVF 0 else s.setFld Pg.EVF ⟨Rg.HDR_IRQ_STAT, 0, 1⟩ 0

/-- A channel fires: its flag, its LAST fields and its counts (R463, R467). -/
def State.fireChannel (s : State) (c : Nat) (st : Stamp) : State :=
  let (v, n) := st.line.getD (0, 0)
  let s := s.setFld Pg.EVF ⟨Rg.EVF_FLAG (c / 32), c % 32, 1⟩ 1
  let s := s.setWinBits (chanAt c) 64 64 st.time
  let s := s.setWinBits (chanAt c) 128 64
    (n % 2 ^ 48 + 2 ^ 48 * v + 2 ^ 50 * b2n st.line.isSome + 2 ^ 51 * st.hop)
  let s := s.setWinBits (chanAt c) 192 16 (satN 16 (s.evc c 192 16 + 1))
  s.bump Pg.EVF (whole Rg.EVF_FIRE_CNT)

/-- One event reaches every channel; answers the occurrences it delivers, by channel. -/
def State.fireEvent (s : State) (e : Nat × Stamp) : State × List Occ :=
  let hits := (List.range 256).filter fun c => s.fires e.1 c
  let t := hits.foldl (fun s c => s.fireChannel c e.2) s
  let del := hits.filter fun c => s.evc c 10 1 == 1
  let origin (c : Nat) : Option Nat := match e.2.origin with
    | some o => some o
    | none => some (del.headD c)
  (t, del.map fun c => ⟨s.evc c 12 9, c, { e.2 with origin := origin c }⟩)

/-- One fabric round: the `k` oldest events reach the channels, which see the tables as they stand (R463-R466). -/
def State.channelRound (s : State) (k : Nat) : State :=
  let now := s.raised.take k
  let s := { s with raised := s.raised.drop k }
  if s.mode = .boot ∨ !s.blockOn Pg.EVF Fd.EVF_CTL_EN then s
  else
    let (s, l) := now.foldl (fun (a : State × List Occ) e =>
      let (t, m) := a.1.fireEvent e
      (t, a.2 ++ m)) (s, [])
    let s := if l.isEmpty then s else { s with evf := { s.evf with occ := s.evf.occ ++ [l] } }
    s.flagIrq

/-- CHANNEL_FIRE: `k` is the number of events that reach the channels in the round. -/
def execChannelFire (k : Nat) (s : State) : Host.Outcome State Fault Refusal := .next (s.channelRound k)

/-! ### Sources -/

/-- EVIO_EDGE: a filtered edge of EVIOn (R461, R462). -/
def State.evioEdge (s : State) (n : Nat) (rising : Bool) : State :=
  let s := { s with evio := { s.evio with input := nbSet s.evio.input n 1 (b2n rising) } }
  if tbit (s.rd Pg.PINS1 Rg.PINS1_EVIO_OE).toNat n then s else s.raiseNow (2 * n + b2n (!rising))

def execEvioEdge (n : Fin 16) (rising : Bool) (sample : Nat) (s : State) : Host.Outcome State Fault Refusal :=
  .next ((s.atCycle sample).evioEdge n rising)

/-- SW_FIRE: a write of SW_FIRE; GO fires SWn, stamped at acceptance (Table — EVF.SW_FIRE). -/
def State.swFire (s : State) (w : Word) : State :=
  let s := s.writeReg Pg.EVF Rg.EVF_SW_FIRE w
  if wf w 5 1 = 1 then s.raiseNow (evSw (wf w 0 5)) else s

def execSwFire (o : Owner) (w : Word) (s : State) : Host.Outcome State Fault Refusal :=
  .next (s.guarded o Pg.EVF Rg.EVF_SW_FIRE (·.swFire w))

/-! ### Task inputs -/

/-- Whether a number is a task of Table — Task inputs. -/
def taskOk (t : Nat) : Bool :=
  decide (t < 45) || (decide (48 ≤ t) && decide (t < 63)) || (decide (64 ≤ t) && decide (t < 128))

/-- Whether a task is busy (R473, Table — Task inputs). -/
def State.taskBusy (s : State) (t : Nat) : Bool :=
  if t < 16 then s.evio.pulses.any (·.1 == t)
  else if t < 40 then
    let p := t - 16
    (match tabGet (dflt none) s.evf.pulseNum p with
      | some n => s.crl.entries.any (·.num == n)
      | none => s.crl.pulses.any fun e => e.1 == p && e.2 == tabGet (dflt 0) s.evf.pulseEnd p)
  else t == 44 && s.on Pg.CRL Fd.CRL_STAT_SWITCH_PENDING

/-- Whether an owner code is permitted for a GUARDED resource of a page: BOOT, or listed in its PERMIT (R475, R663). -/
def State.listed (s : State) (code p : Nat) : Bool := code == 1 || s.on p ⟨Rg.HDR_OWNER, 8 + code, 1⟩

/-- Whether the owner of the delivering channel may have the task act (R475). -/
def State.taskPermitted (s : State) (t code : Nat) : Bool :=
  if t < 16 then !tbit (s.rd Pg.PINS1 Rg.PINS1_EVIO_GUARD).toNat t || s.listed code Pg.PINS1
  else if t < 40 then s.mayPulse code (t - 16)
  else if t = 40 ∨ t = 41 then s.permits code Pg.SYS
  else if t = 43 ∨ t = 44 then s.permits code Pg.CRL
  else true

/-- An occurrence ignored. -/
def State.ignoreOcc (s : State) : State := s.bump Pg.EVF (whole Rg.EVF_IGN_CNT)

/-- An EVIO task's action on its pin (Table — Task inputs). -/
def State.evioAct (s : State) (n : Nat) : State :=
  let lvl := s.evio.level
  let put (b : Nat) : State := { s with evio := { s.evio with level := nbSet lvl n 1 b } }
  match s.evt n 0 2 with
  | 0 => { s with evio := { s.evio with pulses := s.evio.pulses ++ [(n, s.rawNs + 10 * s.evt n 32 32)] } }
  | 1 => put 1
  | 2 => put 0
  | _ => put (1 - nb lvl n 1)

/-- A PULSE task's calendar entry (R469). -/
def State.pulseTask (s : State) (p : Nat) (st : Stamp) : State :=
  let t := 16 + p
  let num := s.crl.nextNum
  let (s, ok) := s.calInsert (st.time + s.evt t 0 32) 1 p (s.evt t 32 32) 0 0
  if ok then { s with evf := { s.evf with pulseNum := tabPut (dflt none) p (some num) s.evf.pulseNum } } else s

/-- Whether the CHANGEOVER task accepts an occurrence (R472): a changeover is armed with TRIGGER = EVENT and no occurrence
has been accepted since. -/
def State.chgAccepts (s : State) : Bool :=
  s.fld Pg.SYS Fd.SYS_CHG_CTL_STATE == 1 && s.fld Pg.SYS Fd.SYS_CHG_CTL_TRIGGER == 1 &&
  !s.evf.data.any (·.task == taskChangeover) && (List.range 4).all fun v => (s.view_ v).chg.isNone

/-- An occurrence acted on (R468). -/
def State.taskAct (s : State) (o : Occ) : State :=
  let t := o.task
  let s := s.setWinBits (taskAt t) 112 16 (satN 16 (s.evt t 112 16 + 1))
  if t < 16 then s.evioAct t
  else if t < 40 then s.pulseTask (t - 16) o.stamp
  else if t = 41 then s.enterHold 0xFF
  else if t = 43 then s.cancelCalendar
  else if t = 44 then s.switchBanks
  else if taskData t then { s with evf := { s.evf with data := s.evf.data ++ [o] } }
  else if t < 96 then { s with evf := { s.evf with relay := s.evf.relay ++ [o] } }
  else s.setFld Pg.EVF ⟨Rg.EVF_GROUP_STATE, (t - 96) % 16, 1⟩ (b2n (t < 112))

/-- An occurrence remembered or dropped by a busy task (R473). -/
def State.taskWait (s : State) (o : Occ) : State :=
  match tabGet (dflt none) s.evf.pend o.task with
  | none => ({ s with evf := { s.evf with pend := tabPut (dflt none) o.task (some o) s.evf.pend } }).setWinBits
      (taskAt o.task) 97 1 1
  | some _ =>
    let s := (s.setWinBits (taskAt o.task) 98 1 1).flag Pg.EVF Fd.EVF_STAT_OVERRUN_SEEN
    (s.bump Pg.EVF (whole Rg.EVF_OVR_CNT)).irq Pg.EVF 2

/-- An occurrence at its task input: the enable (R468), HOLD (R477), the guard (R475), the pin's direction (R696), R472, then
busy (R473) or the action. -/
def State.taskTake (s : State) (o : Occ) : State :=
  let t := o.task
  if s.evt t 64 1 = 0 then s.ignoreOcc
  else if s.mode = .hold ∧ t < 40 then s.ignoreOcc
  else if !s.taskPermitted t (s.evc o.chan 40 3) then (s.ignoreOcc.flag Pg.EVF Fd.EVF_STAT_GUARD_REFUSED).irq Pg.EVF 4
  else if t < 16 ∧ !tbit (s.rd Pg.PINS1 Rg.PINS1_EVIO_OE).toNat t then s.ignoreOcc
  else if t = taskChangeover ∧ !s.chgAccepts then s.ignoreOcc
  else if s.taskBusy t then s.taskWait o
  else s.taskAct o

/-- Two occurrences of one round merged (R474): the earlier time, and on equal times the lower channel. -/
def mergeOcc (a b : Occ) : Occ :=
  let first := if b.stamp.time < a.stamp.time ∨ (b.stamp.time = a.stamp.time ∧ b.chan < a.chan) then b else a
  { first with stamp := { first.stamp with hop := Nat.max a.stamp.hop b.stamp.hop } }

/-- The occurrences of a round by task, LINE events to DATA tasks apart; each merged one is counted (R472, R474). -/
def State.mergeRound (s : State) : List Occ → State × List Occ
  | [] => (s, [])
  | o :: l =>
    let (s, m) := s.mergeRound l
    if taskData o.task && o.stamp.line.isSome then (s, o :: m)
    else match m.find? fun x => x.task == o.task && !(taskData x.task && x.stamp.line.isSome) with
      | none => (s, o :: m)
      | some x =>
        let s := (s.setWinBits (taskAt o.task) 99 1 1).flag Pg.EVF Fd.EVF_STAT_COIN_SEEN
        ((s.bump Pg.EVF (whole Rg.EVF_COIN_CNT)).irq Pg.EVF 3, mergeOcc o x :: m.erase x)

/-- The oldest round's occurrences delivered to their task inputs. -/
def State.taskRound (s : State) : State :=
  match s.evf.occ with
  | [] => s
  | l :: rest =>
    let (s, m) := { s with evf := { s.evf with occ := rest } }.mergeRound l
    m.foldl (fun s o => s.taskTake o) s

/-- TASK_DELIVER: the occurrences of the oldest round in which channels fired are delivered (R463, R468-R477). -/
def execTaskDeliver (s : State) : Host.Outcome State Fault Refusal := .next s.taskRound

/-- TASK_PENDING_START: the remembered occurrence of a task that is no longer busy starts (R473). -/
def State.pendingStart (s : State) (t : Nat) : State :=
  match tabGet (dflt none) s.evf.pend t with
  | none => s
  | some o =>
    if s.taskBusy t then s
    else (({ s with evf := { s.evf with pend := tabPut (dflt none) t none s.evf.pend } }).setWinBits
      (taskAt t) 97 1 0).taskTake o

def execTaskPendingStart (t : Fin 384) (s : State) : Host.Outcome State Fault Refusal := .next (s.pendingStart t)

/-- EVIO_PULSE_END: a task pulse ends at raw ns `t`; the pin returns to its level (R468). -/
def execEvioPulseEnd (n : Fin 16) (t : Nat) (s : State) : Host.Outcome State Fault Refusal :=
  let s := s.atNs t
  .next { s with evio := { s.evio with pulses := s.evio.pulses.filter fun e => !(e.1 == n.val && decide (e.2 ≤ s.rawNs)) } }

/-- RELAY_EMIT: the oldest occurrence of RELAYr re-emitted, or dropped at hop count 5 (R476). -/
def State.relayEmit (s : State) (r : Nat) : State :=
  match s.evf.relay.find? (·.task == 64 + r) with
  | none => s
  | some o =>
    let s := { s with evf := { s.evf with relay := s.evf.relay.erase o } }
    if o.stamp.hop < 4 then s.raise (evRelay r) { o.stamp with hop := o.stamp.hop + 1 }
    else
      let c := o.stamp.origin.getD o.chan
      let s := (s.setFld Pg.EVF ⟨Rg.EVF_LOOP (c / 32), c % 32, 1⟩ 1).setWinBits (chanAt c) 9 1 0
      ((s.flag Pg.EVF Fd.EVF_STAT_LOOP_SEEN).irq Pg.EVF 1).logErr Er.EVF_LOOP Pg.EVF c r

def execRelayEmit (r : Fin 32) (s : State) : Host.Outcome State Fault Refusal := .next (s.relayEmit r)

/-! ### Writes of channels and groups -/

/-- Whether a source number is listed in Table — Event sources. -/
def srcOk (n : Nat) : Bool :=
  decide (n < 68) || (decide (128 ≤ n) && decide (n < 254)) || (decide (256 ≤ n) && decide (n < 320))

/-- Whether a source carries a LINE stamp; a RELAY inherits its stamp and may carry either. -/
def srcLine (n : Nat) : Bool :=
  (decide (64 ≤ n) && decide (n < 68)) || (decide (192 ≤ n) && decide (n < 240)) ||
  (decide (241 ≤ n) && decide (n < 244)) || n == 252 || n == 253

/-- Whether a channel entry, as its first 64 bits, names what exists and keeps R471. -/
def channelOk (e : Nat) : Bool :=
  let src := nb e 0 9
  let task := nb e 12 9
  let tied := !tbit e 37 && !tbit e 28
  srcOk src && taskOk task && decide (nb e 32 5 < 27) &&
  (!(tbit e 10 && taskData task && srcLine src) || tied) &&
  !(tbit e 10 && task == taskChangeover && srcLine src)

/-- A write of word `i` of a channel entry (R466). -/
def State.channelWrite (s : State) (code c i : Nat) (w : Word) : State :=
  if 2 ≤ i then s
  else
    let refuse : State := (s.flag Pg.EVF Fd.EVF_STAT_GUARD_REFUSED).irq Pg.EVF 4
    let old := s.evc c 0 64
    let new := nbSet old (32 * i) 32 w.toNat
    if tbit old 43 && !s.listed code Pg.EVF then refuse
    else if tbit old 43 && code != 1 && nb old 40 4 != nb new 40 4 then refuse
    else if !channelOk new then s.logErr Er.EVF_FORMAT Pg.EVF (32 * c + 4 * i)
    else (s.setWin (chanAt c + 4 * i) (w &&& winMask (chanAt c + 4 * i))).flagIrq

/-- CHANNEL_WRITE. -/
def execChannelWrite (o : Owner) (c : Fin 256) (i : Fin 8) (w : Word) (s : State) : Host.Outcome State Fault Refusal :=
  .next (if s.reaches o Pg.EVF then s.channelWrite (ownerCode o) c i w else s)

/-- GROUP_STATE_WRITE (R465). -/
def execGroupStateWrite (o : Owner) (w : Word) (s : State) : Host.Outcome State Fault Refusal :=
  .next (s.guarded o Pg.EVF Rg.EVF_GROUP_STATE (·.writeReg Pg.EVF Rg.EVF_GROUP_STATE w))

end Sys2Proof.Machine
end

