-- ==== Sys2Proof/Machine/Link.lean ====
section
/-!
DEFINITION. The Obver link of a port (R123-R171) and its lane receivers (R172-R202): bring-up, training, deskew, eye scans and
the Joker. Downlink packets are parsed here as far as the line they carry; intake takes the line.
-/
namespace Sys2Proof.Machine

/-! ### Failures and transitions -/

/-- Link failure causes (Table — CPn.LINK_STAT). -/
abbrev causeCaps : Nat := 1
abbrev causeLock : Nat := 2
abbrev causeTrain : Nat := 3
abbrev causeNoEye : Nat := 4
abbrev causeEqNoAck : Nat := 5
abbrev causeAlign : Nat := 6

/-- A port enters FAILED with a cause and a lane, and logs LINK_FAILED (R166). -/
def State.failLink (s : State) (p cause lane : Nat) : State :=
  let g := Pg.CP p
  let s := ((s.dropLocks p).setLink p lkFailed).setFld g Fd.CP_LINK_STAT_CAUSE cause
  let s := (s.setFld g Fd.CP_LINK_STAT_CAUSE_LANE lane).setFld g Fd.CP_LINK_STAT_DESKEW_OK 0
  s.logErr Er.LINK_FAILED g cause lane

/-- The Joker's lane, state and availability in a quad (Table — CPn.JOKER_STAT). -/
abbrev jkIdle : Nat := 0
abbrev jkStandby : Nat := 1
abbrev jkCarrying : Nat := 2
abbrev jkSubst : Nat := 3
abbrev jkFailed : Nat := 4
def State.jkState (s : State) (q : Nat) : Nat := s.fld (Pg.CP q) Fd.CP_JOKER_STAT_STATE
def State.jkLane (s : State) (q : Nat) : Nat := s.fld (Pg.CP q) Fd.CP_JOKER_STAT_LANE
def State.jk (s : State) (q : Nat) : Joker := tabGet (dflt {}) s.joker q
def State.putJk (s : State) (q : Nat) (j : Joker) : State := { s with joker := tabPut (dflt {}) q j s.joker }

/-- Whether the Joker of a quad can be used for a lane at once. -/
def State.jkAvailable (s : State) (q : Nat) : Bool :=
  s.on (Pg.CP q) Fd.CP_JOKER_CTL_EN && (s.jkState q == jkIdle || s.jkState q == jkStandby) &&
    ((s.jk q).stage == .none || (s.jk q).stage == .selfCal false)

/-- Whether the Joker covers a lane (R186). -/
def State.jkCovers (s : State) (q m : Nat) : Bool :=
  s.jkLane q == m &&
  ((s.jkState q == jkStandby && s.on (Pg.CP q) Fd.CP_JOKER_STAT_MATCHED) || s.jkState q == jkCarrying || s.jkState q == jkSubst)

/-- The temperature at a quad: the last reading of its group's sensor, a 10-bit pattern in 0.25 °C (R189, R646). -/
def State.quadTemp (s : State) (q : Nat) : Nat := tabGet (dflt 0) s.hlth.temp (q / 4)

/-- The codes of a slice of a quad (R172), the Joker's as number 4, shown in LANE_STAT.CTLE of the lane that the slice carries
(DESIGN CHOICE, log entry 79). -/
def State.putCodes (s : State) (q k : Nat) (c : EqCodes) : State :=
  let g := Pg.CP q
  let s := s.putJk q { s.jk q with codes := tabPut (dflt {}) k c (s.jk q).codes }
  if k < 4 then (if s.on g (Fd.CP_LANE_STAT_SLICE k) then s else s.setFld g (Fd.CP_LANE_STAT_CTLE k) c.ctle)
  else if s.on g (Fd.CP_LANE_STAT_SLICE (s.jkLane q)) then s.setFld g (Fd.CP_LANE_STAT_CTLE (s.jkLane q)) c.ctle
  else s

/-- The slice that carries lane `m` of a quad. -/
def State.sliceOf (s : State) (q m : Nat) : Nat := if s.on (Pg.CP q) (Fd.CP_LANE_STAT_SLICE m) then 4 else m

/-- Requests that wait as the Joker becomes SUBSTITUTED or FAILED are not carried out (R191): their lanes are recalibrated through BASE in
IDLE and SETUP, where their link runs, else CAL_DEFERRED tells of them (DEDUCED, log entry 87). -/
def State.dropWaiting (s : State) (q : Nat) : State :=
  let p := s.portOfQuad q
  if (s.jk q).waiting = 0 then s
  else
    let s := s.putJk q { s.jk q with waiting := 0 }
    if s.mode = .idle ∨ s.mode = .setup then (if s.linkState p = lkAlign ∨ s.linkState p = lkActive then s.enterBase p else s)
    else s.setFld (Pg.CP q) Fd.CP_JOKER_STAT_CAL_DEFERRED 1

/-- The permanent substitution of a lane's slice by the Joker (R194). -/
def State.substitute (s : State) (q m : Nat) : State :=
  let g := Pg.CP q
  let s := (s.setFld g ⟨Rg.CP_JOKER_STAT, 6 + m, 1⟩ 1).setFld g Fd.CP_JOKER_STAT_STATE jkSubst
  let s := (s.setFld g Fd.CP_JOKER_STAT_LANE m).setFld g (Fd.CP_LANE_STAT_SLICE m) 1
  let s := s.setFld g (Fd.CP_LANE_STAT_CTLE m) (tabGet (dflt {}) (s.jk q).codes 4).ctle
  let s := s.putJk q { s.jk q with stage := .none, release := false, force := false }
  ((s.logErr Er.LANE_SUBST g (s.portOfQuad q) (s.laneOf q m)).raiseNow (evCp (s.portOfQuad q) 3)).dropWaiting q

/-- A main slice fails: substituted while the Joker can be used, else the lane is lost and the port fails (R194, R196). -/
def State.sliceFailed (s : State) (q m : Nat) : State :=
  let st := s.jkState q
  if s.on (Pg.CP q) Fd.CP_JOKER_CTL_EN && (st == jkIdle || st == jkStandby || (st == jkCarrying && s.jkLane q == m)) then
    s.substitute q m
  else
    let p := s.portOfQuad q
    let s := (s.setFld (Pg.CP q) ⟨Rg.CP_JOKER_STAT, 6 + m, 1⟩ 1).logErr Er.LANE_LOST (Pg.CP q) p (s.laneOf q m)
    if s.linkState p = lkDisabled then s else s.failLink p causeNoEye (s.laneOf q m)

/-! ### Training (R174-R180) -/

/-- A field of TRAIN_CTL as it stood at the entry into TRAIN (R201). -/
def State.trainFld (s : State) (p : Nat) (f : Fld) : Nat := wf (s.link_ p).trainCtl f.lo f.len

/-- An EQ_REQ with a new TAG, from 1 to 255 and then 1 again (R147, R162). -/
def State.eqReq (s : State) (p m code preset : Nat) (ph : TrainPhase) : State :=
  let t := s.train_ p m
  let tag := t.tag % 255 + 1
  (s.putTrain p m { t with phase := ph, tag := tag, out := some (tag, code, preset, 1), scanDue := false, scanning := false }).uplink
    p 0x84 tag m code preset 0

/-- EQ_REQ codes (Table — Equaliser requests) of the directions POST_INC, POST_DEC, PRE_INC, PRE_DEC. -/
def dirCode (d : Nat) : Nat := match d with | 0 => 4 | 1 => 5 | 2 => 2 | _ => 3

/-- The direction that reverses another. -/
def dirBack (d : Nat) : Nat := match d with | 0 => 1 | 1 => 0 | 2 => 3 | _ => 2

/-- DONE is sent: the camera holds the best setting found (R177). -/
def State.sendDone (s : State) (p m : Nat) : State := s.eqReq p m 6 0 .finish

/-- The step search goes on at direction `d` of its pass, or ends (R176). `fuel` bounds the directions looked at. -/
def State.stepFrom (s : State) (p m d : Nat) : Nat → State
  | 0 => s.sendDone p m
  | fuel + 1 =>
    let t := s.train_ p m
    if d < 4 then
      if t.better.contains (dirBack d) ∨ 16 ≤ t.probes then s.stepFrom p m (d + 1) fuel
      else (s.putTrain p m { t with probes := t.probes + 1 }).eqReq p m (dirCode d) 0 (.probe d)
    else if t.better.isEmpty ∨ 16 ≤ t.probes then s.sendDone p m
    else (s.putTrain p m { t with better := [] }).stepFrom p m 0 fuel

/-- The setting at the camera is the best preset: the step search starts in SEARCH above 3.125 Gbaud, else training ends
(R176). -/
def State.afterBest (s : State) (p m merit : Nat) : State :=
  let t := s.train_ p m
  if s.trainFld p Fd.CP_TRAIN_CTL_REQ_MODE = 0 ∧ 2 < s.fld (Pg.CP p) Fd.CP_PORT_CTL_RATE then
    (s.putTrain p m { t with merit := merit, probes := 0, better := [] }).stepFrom p m 0 16
  else s.sendDone p m

/-- A lane has no working setting: its main slice has failed where the Joker is SUBSTITUTED or FAILED (R196), and the port fails (R179). -/
def State.laneFails (s : State) (p m : Nat) : State :=
  let q := p + m / 4
  if !s.on (Pg.CP q) (Fd.CP_LANE_STAT_SLICE (m % 4)) && (s.jkState q == jkSubst || s.jkState q == jkFailed) then s.sliceFailed q (m % 4)
  else s.failLink p causeNoEye m

/-- No setting works (R179): the best setting seen goes to the Joker, if the lane is on its main slice and the Joker can be
used, else the port fails. -/
def State.noSetting (s : State) (p m : Nat) : State :=
  let q := p + m / 4
  match (s.train_ p m).seen with
  | some (pre, _) =>
    if !s.on (Pg.CP q) (Fd.CP_LANE_STAT_SLICE (m % 4)) && s.jkAvailable q then s.eqReq p m 1 pre .joker else s.laneFails p m
  | none => s.laneFails p m

/-- The sweep goes on with preset `k`, or ends (R176). -/
def State.sweepFrom (s : State) (p m k : Nat) : State :=
  if k < 8 then s.eqReq p m 1 k (.sweep k)
  else match (s.train_ p m).best with
    | none => s.noSetting p m
    | some (b, _) => s.eqReq p m 1 b .back

/-- Training of a lane starts with the mode of TRAIN_CTL (Table — Training modes). -/
def State.startTrain (s : State) (p m : Nat) : State :=
  let s := s.putTrain p m { tag := (s.train_ p m).tag }
  if s.trainFld p Fd.CP_TRAIN_CTL_REQ_MODE = 2 then s.eqReq p m 1 (s.trainFld p Fd.CP_TRAIN_CTL_PRESET) .fixed
  else s.sweepFrom p m 0

/-- Lock on every lane in RATE moves the link to TRAIN (R166). -/
def State.rateLockAll (s : State) (p : Nat) : State :=
  if s.linkState p = lkRate ∧ (List.range (s.lanes p)).all (fun m => s.locked p m) then
    let s := (s.setLink p lkTrain).putLink p { s.link_ p with trainCtl := s.rd (Pg.CP p) Rg.CP_TRAIN_CTL }
    (List.range (s.lanes p)).foldl (fun s m => s.startTrain p m) s
  else s

/-- All lanes trained and given DONE move the link to ALIGN (R166). -/
def State.trainedAll (s : State) (p : Nat) : State :=
  if s.linkState p = lkTrain ∧ (List.range (s.lanes p)).all (fun m => (s.train_ p m).phase == .trained) then
    let s := (List.range (s.lanes p)).foldl (fun (s : State) m =>
      let q := p + m / 4
      s.putJk q { s.jk q with calTemp := tabPut (dflt 0) (m % 4) (s.quadTemp q) (s.jk q).calTemp }) s
    ((s.setLink p lkAlign).putLink p { s.link_ p with goodMarks := 0, badMarks := [] }).linkCmd p 2
  else s

/-- The fields of a training ordered set (Table — Training ordered set). -/
structure SetFields where
  lane   : Nat
  state  : Nat
  tag    : Nat
  status : Nat
  pre    : Nat
  post   : Nat
deriving DecidableEq, Repr

/-- A training ordered set read: TSK, six data characters and their CRC-8 (R158) (DEDUCED, log entry 93). -/
def readSet (x : TrainSet) : Option SetFields :=
  match x.syms with
  | [.tsk, .data a, .data b, .data c, .data d, .data e, .data f, .data g] =>
    if crc8 [a, b, c, d, e, f] = g.toNat then some ⟨a.toNat, b.toNat, c.toNat, d.toNat, e.toNat, f.toNat⟩ else none
  | _ => none

/-- The camera has acknowledged a lane's EQ_REQ with a status: 2 AT_LIMIT, 3 REFUSED, else the setting is in force (R161,
R176). -/
def State.eqAck (s : State) (p m : Nat) (ts : SetFields) : State :=
  let t := { s.train_ p m with out := none }
  let s := s.putTrain p m t
  let scan : State := s.putTrain p m { t with scanDue := true }
  let refused := ts.status == 2 || ts.status == 3
  match t.phase with
  | .sweep k => if refused then s.sweepFrom p m (k + 1) else scan
  | .fixed => if refused then s.noSetting p m else scan
  | .back => s.afterBest p m (match t.best with | some (_, x) => x | none => 0)
  | .probe d => if refused then s.stepFrom p m (d + 1) 16 else scan
  | .revert d => s.stepFrom p m (d + 1) 16
  | .joker => scan
  | .finish =>
    let g := Pg.CP (p + m / 4)
    let s := (s.setFld g (Fd.CP_LANE_STAT_PRE (m % 4)) ts.pre).setFld g (Fd.CP_LANE_STAT_POST (m % 4)) ts.post
    (s.putTrain p m { t with phase := .trained }).trainedAll p
  | _ => s

/-- TRAINING_ORDERED_SET: a camera's training ordered set on a lane (R158, R161). -/
def State.trainingSet (s : State) (p : Nat) (x : TrainSet) : State :=
  match readSet x with
  | none => s
  | some a =>
    match (s.train_ p a.lane).out with
    | some (tag, _, _, _) => if s.linkState p = lkTrain ∧ a.lane < s.lanes p ∧ a.tag = tag then s.eqAck p a.lane a else s
    | none => s

def execTrainingOrderedSet (p : Fin 16) (ts : TrainSet) (s : State) : Host.Outcome State Fault Refusal :=
  .next (s.trainingSet p ts)

/-- TRAIN_SCAN_START: the receiver of a lane has settled on the acknowledged setting (R174). -/
def execTrainScanStart (p : Fin 16) (x : SettledLane) (s : State) : Host.Outcome State Fault Refusal :=
  let t := s.train_ p x.lane
  let q := p.val + x.lane.val / 4
  .next (if s.linkState p = lkTrain && t.scanDue then
    (s.putTrain p x.lane { t with scanDue := false, scanning := true }).putCodes q
      (if t.phase == .joker then 4 else s.sliceOf q (x.lane.val % 4)) x.codes
  else s)

/-- How many points of a direction are open, up to the first that is not or the end of its range (R182, R183): a point of `ui` unit intervals is
open if it has at most `lim` disagreements. -/
def openRun (ui lim range : Nat) (l : List Nat) : Nat := ((l.take range).takeWhile fun n => decide (Nat.min n ui ≤ lim)).length

/-- The result of a scan whose phase steps are `a` sixty-fourths of a unit interval and whose voltage steps are `b` codes of 2 mV, over
the sampler's range of −32 to +31 and −127 to +127 (R181-R183): both 0 where the centre is not open (DEDUCED, log entry 78). -/
def eyeOf (a b ui lim : Nat) (x : EyeScan) : EyeResult :=
  if lim < Nat.min x.centre ui then ⟨0, 0⟩
  else ⟨a * (1 + openRun ui lim (31 / a) x.right + openRun ui lim (32 / a) x.left),
    2 * b * (openRun ui lim (127 / b) x.up + openRun ui lim (127 / b) x.down)⟩

/-- A training scan (R174): steps of 2/64 UI and 8 mV, 2^16 unit intervals a point; at most 94 points. -/
def State.trainEye (s : State) (p : Nat) (x : EyeScan) : EyeResult := eyeOf 2 4 (2 ^ 16) (s.fld (Pg.CP p) Fd.CP_EYE_CTL_ERR_LIM) x

/-- A continuous scan (R182, R183): steps of 1/64 UI and 2 mV, 2^(16 + DWELL) unit intervals a point. -/
def State.contEye (s : State) (p : Nat) (x : EyeScan) : EyeResult :=
  eyeOf 1 1 (2 ^ (16 + s.fld (Pg.CP p) Fd.CP_EYE_CTL_DWELL)) (s.fld (Pg.CP p) Fd.CP_EYE_CTL_ERR_LIM) x

/-- A training scan's result decides the next request (R175-R179). -/
def State.trainScan (s : State) (p m : Nat) (r : EyeResult) : State :=
  let t := { s.train_ p m with scanning := false }
  let s := s.putTrain p m t
  let works := decide (s.trainFld p Fd.CP_TRAIN_CTL_MIN_W ≤ r.w) && decide (s.trainFld p Fd.CP_TRAIN_CTL_MIN_H ≤ r.h)
  let merit := r.w * r.h
  let see (k : Nat) (o : Option (Nat × Nat)) : Option (Nat × Nat) :=
    match o with | some (_, x) => if x < merit then some (k, merit) else o | none => some (k, merit)
  match t.phase with
  | .sweep k =>
    (s.putTrain p m { t with best := if works then see k t.best else t.best, seen := see k t.seen }).sweepFrom p m (k + 1)
  | .fixed =>
    if works then s.sendDone p m
    else (s.putTrain p m { t with seen := some (s.trainFld p Fd.CP_TRAIN_CTL_PRESET, merit) }).noSetting p m
  | .probe d =>
    if works && decide (t.merit < merit) then
      let s := s.putTrain p m { t with merit := merit, better := if t.better.contains d then t.better else t.better ++ [d] }
      if t.probes < 16 then (s.putTrain p m { s.train_ p m with probes := t.probes + 1 }).eqReq p m (dirCode d) 0 (.probe d)
      else s.stepFrom p m (d + 1) 16
    else s.eqReq p m (dirCode (dirBack d)) 0 (.revert d)
  | .joker =>
    if works && s.jkAvailable (p + m / 4) then (s.substitute (p + m / 4) (m % 4)).afterBest p m merit
    else s.laneFails p m
  | _ => s

/-- TRAIN_SCAN_DONE. -/
def execTrainScanDone (p : Fin 16) (m : Fin 8) (x : EyeScan) (s : State) : Host.Outcome State Fault Refusal :=
  let q := p.val + m.val / 4
  .next (if s.linkState p = lkTrain && (s.train_ p m).scanning then
    (s.putCodes q (if (s.train_ p m).phase == .joker then 4 else s.sliceOf q (m.val % 4)) x.codes).trainScan p m (s.trainEye p x) else s)

/-- EQ_REQ_RESEND: no acknowledgement within 500 µs: the request is resent at most twice, then the port fails (R162, R180). -/
def State.eqResend (s : State) (p m : Nat) : State :=
  let t := s.train_ p m
  match t.out with
  | none => s
  | some (tag, code, pre, n) =>
    if s.linkState p ≠ lkTrain then s
    else if n < 3 then (s.putTrain p m { t with out := some (tag, code, pre, n + 1) }).uplink p 0x84 tag m code pre 0
    else s.failLink p causeEqNoAck m

def execEqReqResend (p : Fin 16) (m : Fin 8) (s : State) : Host.Outcome State Fault Refusal := .next (s.eqResend p m)

/-! ### Bring-up (R164-R167) -/

/-- An identity register as read (R164). -/
def State.identReg (s : State) (p k : Nat) : Nat := tabGet (dflt 0) (s.link_ p).ident k

/-- Whether the camera's capabilities break R165. -/
def State.capsBad (s : State) (p : Nat) : Bool :=
  let g := Pg.CP p
  let caps := s.identReg p 1
  let len := nb (s.identReg p 2) 0 16
  let taps := nb caps 16 2
  let rateMax := Nat.min (s.identReg p 3) 400000
  let v := s.fld Pg.STI (Fd.STI_PORT_CTL_VIEW p)
  nb caps 0 4 != s.lanes p || !tbit caps (8 + s.fld g Fd.CP_PORT_CTL_RATE) ||
  !(s.fld g Fd.CP_PORT_CTL_DEPTH < 3 && tbit caps (18 + s.fld g Fd.CP_PORT_CTL_DEPTH)) ||
  taps != s.fld g Fd.CP_PORT_CTL_TAPS || decide (32768 < len) || decide (49152 < len * taps) ||
  (s.on Pg.STI (Fd.STI_PORT_CTL_IN_VIEW p) && decide (rateMax * s.fld Pg.POS (Fd.POS_TG_CTL_MIN_PERIOD v) < 10 ^ 8))

/-- The identity registers have been read: the link moves to RATE, or fails (R165, R166). -/
def State.capsCheck (s : State) (p : Nat) : State :=
  if s.capsBad p then s.failLink p causeCaps 0 else ((s.setLink p lkRate).linkCmd p 1).rateLockAll p

/-- LANE_LOCK_GAINED: a lane has symbol lock (R128), with the codes that its slice has come to (R172); lane 0 gives the port its receive
clock, whose frequency is measured (R44). -/
def State.lockGained (s : State) (q m : Nat) (c : EqCodes) (kHz : Nat) : State :=
  let p := s.portOfQuad q
  let st := s.linkState p
  if st = lkDisabled ∨ st = lkFailed then s
  else
    let s := (s.setFld (Pg.CP q) (Fd.CP_LANE_STAT_LOCK m) 1).putCodes q (s.sliceOf q m) c
    let s := if s.laneOf q m = 0 then s.clkRun p kHz else s
    if st = lkBase then
      if s.laneOf q m = 0 then (s.setFld (Pg.CP p) Fd.CP_LINK_STAT_NO_CAMERA 0).nextRequest p else s
    else s.rateLockAll p

def execLaneLockGained (q : Fin 16) (x : LaneLock) (s : State) : Host.Outcome State Fault Refusal :=
  .next (s.lockGained q x.lane x.codes x.kHz)

/-- LANE_LOCK_LOST: a lane of the port in use loses lock; a covering Joker takes it at the next marker, else the port goes
to BASE (R128, R166, R192, R193). -/
def State.lockLost (s : State) (q m : Nat) : State :=
  let p := s.portOfQuad q
  let st := s.linkState p
  let used := decide (s.laneOf q m < s.lanes p)
  if st = lkDisabled ∨ st = lkFailed then s
  else
    let s := s.setFld (Pg.CP q) (Fd.CP_LANE_STAT_LOCK m) 0
    if !used then s
    else
      let s := s.bump (Pg.CP p) Fd.CP_ERR_CNT2_LOCK_LOSS
      let covered := (st == lkAlign || st == lkActive) && s.jkCovers q m
      let s := if s.laneOf q m = 0 ∧ !covered then s.clkLost p else s
      if st = lkAlign ∨ st = lkActive then
        if covered then
          if s.jkState q = jkStandby then s.putJk q { s.jk q with stage := .takeover, lane := m } else s
        else s.enterBase p
      else s

def execLaneLockLost (q : Fin 16) (m : Fin 4) (s : State) : Host.Outcome State Fault Refusal := .next (s.lockLost q m)

/-- HEARTBEAT (R149): sent in every state but DISABLED; the one before it, if it had to be echoed and was not, is a miss. -/
def State.heartbeat (s : State) (p : Nat) : State :=
  let st := s.linkState p
  let l := s.link_ p
  if st = lkDisabled then s
  else
    let s := if !l.hbSeen && l.hbDue then s.bump (Pg.CP p) Fd.CP_ERR_CNT2_HB_MISS else s
    let n := (l.hbCount + 1) % 2 ^ 32
    (s.putLink p { l with hbCount := n, hbSeen := false, hbDue := st == lkBase || st == lkAlign || st == lkActive }).uplink p 0x83 0 0 0 0 n

def execHeartbeat (p : Fin 16) (s : State) : Host.Outcome State Fault Refusal := .next (s.heartbeat p)

/-- STATUS_TIMEOUT: 10 ms without a valid STATUS in ALIGN or ACTIVE (R166). -/
def execStatusTimeout (p : Fin 16) (s : State) : Host.Outcome State Fault Refusal :=
  .next (if s.linkState p = lkAlign ∨ s.linkState p = lkActive then s.enterBase p else s)

/-- NO_CAMERA_TIMEOUT: no lock on lane 0 after 50 ms in BASE (R166). -/
def execNoCameraTimeout (p : Fin 16) (s : State) : Host.Outcome State Fault Refusal :=
  .next (if s.linkState p = lkBase && !s.locked p 0 then
    (s.setFld (Pg.CP p) Fd.CP_LINK_STAT_NO_CAMERA 1).linkCmd p 0 else s)

/-- LINK_BASE_RESEND: LINK BASE every 10 ms in FAILED, and in BASE with NO_CAMERA (R166). -/
def execLinkBaseResend (p : Fin 16) (s : State) : Host.Outcome State Fault Refusal :=
  .next (if s.linkState p = lkFailed || (s.linkState p == lkBase && s.on (Pg.CP p) Fd.CP_LINK_STAT_NO_CAMERA) then
    s.linkCmd p 0 else s)

/-- LOCK_TIMEOUT: RATE without lock on every lane 5 ms after SET (R166). -/
def execLockTimeout (p : Fin 16) (s : State) : Host.Outcome State Fault Refusal :=
  .next (if s.linkState p = lkRate then s.failLink p causeLock 0 else s)

/-- TRAIN_TIMEOUT: TRAIN not finished 50 ms after entry (R166). -/
def execTrainTimeout (p : Fin 16) (s : State) : Host.Outcome State Fault Refusal :=
  .next (if s.linkState p = lkTrain then s.failLink p causeTrain 0 else s)

/-- ALIGN_TIMEOUT: ALIGN not left 2 ms after entry (R166). -/
def execAlignTimeout (p : Fin 16) (s : State) : Host.Outcome State Fault Refusal :=
  .next (if s.linkState p = lkAlign then s.failLink p causeAlign 0 else s)

/-- FAILED_RETRY: 100 ms after entry into FAILED (R166). -/
def execFailedRetry (p : Fin 16) (s : State) : Host.Outcome State Fault Refusal :=
  .next (if s.linkState p = lkFailed then s.enterBase p else s)

/-! ### Camera registers (R151, R202) -/

/-- A write of CAM_ACC (R151, R202): GO while BUSY is ignored; a GO takes the request as CAM_ACC and CAM_DATA then stand
(DEDUCED, log entry 83). -/
def State.camAcc (s : State) (p : Nat) (w : Word) : State :=
  let g := Pg.CP p
  let busy := s.on g Fd.CP_CAM_ACC_BUSY
  let s := s.writeReg g Rg.CP_CAM_ACC w
  if wf w 25 1 = 0 ∨ busy then s
  else
    let a := 4 * s.fld g Fd.CP_CAM_ACC_ADDR
    let data := if s.on g Fd.CP_CAM_ACC_WRITE then some (s.rd g Rg.CP_CAM_DATA).toNat else none
    let s := (s.setFld g Fd.CP_CAM_ACC_BUSY 1).setFld g Fd.CP_CAM_ACC_RESULT 0
    (s.putLink p { s.link_ p with want := some (a, data) }).nextRequest p

/-- CAM_ACC_GO. -/
def execCamAccGo (o : Owner) (p : Fin 16) (w : Word) (s : State) : Host.Outcome State Fault Refusal :=
  .next (s.guarded o (Pg.CP p) Rg.CP_CAM_ACC (·.camAcc p w))

/-- The host's request ends with a RESULT. -/
def State.camEnd (s : State) (p result : Nat) : State :=
  (s.setFld (Pg.CP p) Fd.CP_CAM_ACC_BUSY 0).setFld (Pg.CP p) Fd.CP_CAM_ACC_RESULT result

/-- CAM_REG_TIMEOUT: the outstanding request is abandoned after 2 ms (R151). -/
def State.camTimeout (s : State) (p : Nat) : State :=
  match (s.link_ p).req with
  | none => s
  | some r =>
    let s := (s.putLink p { s.link_ p with req := none }).bump (Pg.CP p) Fd.CP_ERR_CNT2_REG_TIMEOUT
    (if r.host then s.camEnd p 4 else s).nextRequest p

def execCamRegTimeout (p : Fin 16) (s : State) : Host.Outcome State Fault Refusal := .next (s.camTimeout p)

/-- An answer to the outstanding request (R151); an identity register that is not answered OK is requested again. -/
def State.regResp (s : State) (p tag result data : Nat) : State :=
  let l := s.link_ p
  match l.req with
  | none => s
  | some r =>
    if r.tag ≠ tag then s
    else if r.host then
      let s := s.putLink p { l with req := none }
      let s := if r.write.isNone && result == 0 then s.wr (Pg.CP p) Rg.CP_CAM_DATA (BitVec.ofNat 32 data) else s
      (s.camEnd p result).nextRequest p
    else if result = 0 then
      let l := { l with req := none, ident := tabPut (dflt 0) (r.addr / 4) data l.ident, identN := l.identN + 1 }
      let s := s.putLink p l
      if s.linkState p = lkBase ∧ l.identN = 8 then (s.capsCheck p).nextRequest p else s.nextRequest p
    else (s.putLink p { l with req := none }).nextRequest p

/-! ### Downlink packets (R134-R144, R170) -/

/-- What a downlink packet is, once it has passed the checks of R170 but for the order of lines. -/
inductive Packet where
  /-- Discarded: which counter of ERR_CNT0 and ERR_CNT1 counts it. -/
  | bad (counter : Fld)
  /-- LINE: tap, line, CAM_STATUS and samples. -/
  | line (tap n status : Nat) (samples : List Nat)
  /-- STATUS: CAM_STATUS, temperature, UL_ERR, echoed count. -/
  | status (flags temp ulErr count : Nat)
  /-- REG_RESP: TAG, RESULT, DATA. -/
  | resp (tag result data : Nat)
deriving DecidableEq, Repr

/-- The samples of a LINE payload of depth `d` (R139). -/
def samplesOf (l : List Byte) (d count : Nat) : List Nat :=
  let x := leNat l
  (List.range count).map fun k => nb x (k * d) d

/-- The depth in bits of a DEPTH code. -/
def depthBits (c : Nat) : Nat := 8 + 2 * c

/-- The counters of Table — Downlink faults. -/
abbrev cntCode : Fld := Fd.CP_ERR_CNT0_CODE_ERR
abbrev cntCrc : Fld := Fd.CP_ERR_CNT0_CRC_ERR
abbrev cntAbort : Fld := Fd.CP_ERR_CNT1_ABORT
abbrev cntLen : Fld := Fd.CP_ERR_CNT1_LEN_ERR
abbrev cntFormat : Fld := Fd.CP_ERR_CNT1_FORMAT_ERR
abbrev cntOrder : Fld := Fd.CP_ERR_CNT1_ORDER_ERR

/-- Whether a symbol inside a packet is a symbol error (R127): any but a data character (DEDUCED, log entry 80). -/
def ObvSym.bad : ObvSym → Bool
  | .data _ => false
  | _ => true

/-- A downlink packet read and checked in the order of Table — Downlink faults, at a port in link state `st` with the given
DEPTH and TAPS (R134-R144, R170, R213). -/
def readPacket (pkt : DownPkt) (st depth taps : Nat) : Packet :=
  let inside := pkt.syms.dropLast
  let last := pkt.syms.getLast?
  let l := inside.filterMap fun x => match x with | .data b => some b | _ => none
  let h := leNat (l.take 16)
  let type := nb h 0 8
  let body := l.take (l.length - 4)
  let d := depthBits (nb h 10 2)
  let count := nb h 16 16
  let payload := (l.drop 16).take (l.length - 20)
  let want := if type = 1 then count * d else 0
  if inside.any ObvSym.bad ∨ (last ≠ some .eop ∧ last ≠ some .ebp ∧ (last.map ObvSym.bad).getD false) then .bad cntCode
  else if last = some .ebp then .bad cntAbort
  else if last ≠ some .eop ∨ 49174 < l.length + 1 then .bad cntLen
  else if crc32c body ≠ leNat (l.drop (l.length - 4)) then .bad cntCrc
  else if l.length < 20 then .bad cntLen
  else if 8 * payload.length ≠ want ∧ ((type = 1 ∧ nb h 10 2 < 3) ∨ type = 2 ∨ type = 3) then .bad cntLen
  else if type = 1 then
    if nb h 10 2 = 3 ∨ nb h 8 2 = 3 ∨ count % 8 ≠ 0 ∨ count < 8 ∨ 32768 < count ∨ nb h 12 4 ≠ 0 ∨ nb h 96 32 ≠ 0 ∨ nb h 85 3 ≠ 0
    then .bad cntFormat
    else if st ≠ lkActive then .bad cntFormat
    else if nb h 10 2 ≠ depth ∨ taps ≤ nb h 8 2 then .bad cntFormat
    else .line (nb h 8 2) (nb h 32 48) (nb h 80 16) (samplesOf payload d count)
  else if type = 2 then
    if nb h 56 8 ≠ 0 ∨ nb h 96 32 ≠ 0 ∨ nb h 37 3 ≠ 0 then .bad cntFormat
    else .status (nb h 32 16) (nb h 48 8) (nb h 24 8) (nb h 64 32)
  else if type = 3 then
    if nb h 96 32 ≠ 0 then .bad cntFormat else .resp (nb h 8 8) (nb h 16 8) (nb h 64 32)
  else .bad cntFormat

/-- The CAM_STATUS flags of a packet recorded, with their events (R143). -/
def State.camStatus (s : State) (p flags : Nat) : State :=
  let g := Pg.CP p
  let s := s.setFld g Fd.CP_CAM_STAT_b0 flags
  let s := if tbit flags 2 then (s.setFld g Fd.CP_LINK_STAT_CAM_FAULT 1).raiseNow (evCp p 0) else s
  if tbit flags 0 then (s.setFld g Fd.CP_LINK_STAT_CAM_MISSED 1).raiseNow (evCp p 1) else s

/-- A STATUS packet (R144, R149). -/
def State.statusIn (s : State) (p flags temp ulErr count : Nat) : State :=
  let g := Pg.CP p
  let s := (s.setFld g Fd.CP_CAM_STAT_b16 temp).setFld g Fd.CP_CAM_STAT_b24 ulErr
  let l := s.link_ p
  (s.putLink p { l with hbSeen := l.hbSeen || count == l.hbCount }).camStatus p flags

/-! ### Alignment markers, deskew and handover (R130-R133, R166, R167, R189) -/

/-- Whether a marker list shows lane `m` good: its own number, and S equal to that of some other lane, or no other. -/
def markGood (marks : List (Option (Nat × Nat))) (m : Nat) : Bool :=
  match nth none marks m with
  | none => false
  | some (k, x) =>
    let others := (marks.zipIdx.filter (·.2 != m)).filterMap fun e => e.1.map (·.2)
    k == m && (others.isEmpty || others.contains x)

/-- Whether every lane is aligned (R132). -/
def marksAligned (marks : List (Option (Nat × Nat))) (n : Nat) : Bool :=
  let l := (List.range n).map fun m => nth none marks m
  (List.range n).all (fun m => match nth none l m with | some (k, _) => k == m | none => false) &&
  l.all fun x => x.map (·.2) == (nth none l 0).map (·.2)

/-- A main slice takes its lane back from the Joker (t6 of R189), which calibrates itself before it is in STANDBY again (R188), or stays
IDLE where EN is 0. -/
def State.handback (s : State) (q : Nat) : State :=
  let j := s.jk q
  let g := Pg.CP q
  let s := ((s.setFld g (Fd.CP_LANE_STAT_SLICE j.lane) 0).setFld g Fd.CP_JOKER_STAT_STATE jkIdle).setFld g Fd.CP_JOKER_STAT_MATCHED 0
  let s := s.setFld g (Fd.CP_LANE_STAT_CTLE j.lane) (tabGet (dflt {}) j.codes j.lane).ctle
  let s := if j.release then s.setFld g ⟨Rg.CP_JOKER_STAT, 6 + j.lane, 1⟩ 0 else s
  s.putJk q { j with
    stage := .none, release := false, calTemp := tabPut (dflt 0) j.lane (s.quadTemp q) j.calTemp }

/-- The Joker takes over its lane (t3 of R189), for a recalibration or for good (R197). -/
def State.takeover (s : State) (q : Nat) : State :=
  let j := s.jk q
  let g := Pg.CP q
  let s := s.bump g Fd.CP_JOKER_STAT_HANDOVER_CNT
  if j.force then s.substitute q j.lane
  else
    let s := (s.setFld g (Fd.CP_LANE_STAT_SLICE j.lane) 1).setFld g Fd.CP_JOKER_STAT_STATE jkCarrying
    let s := s.setFld g (Fd.CP_LANE_STAT_CTLE j.lane) (tabGet (dflt {}) j.codes 4).ctle
    (s.setFld g Fd.CP_JOKER_STAT_MATCHED 0).putJk q { j with stage := .calibrating }

/-- The lane where a Joker stands by: the active lane of the quad with the smallest EYE_W, the higher lane number on a tie (R188). -/
def State.jkBest (s : State) (q : Nat) : Option Nat :=
  let g := Pg.CP q
  let p := s.portOfQuad q
  let lanes := (List.range 4).filter fun m => decide (s.laneOf q m < s.lanes p) && s.on g (Fd.CP_LANE_STAT_LOCK m)
  (lanes.foldl (fun (b : Option (Nat × Nat)) m =>
    let w := s.fld g (Fd.CP_LANE_STAT_EYE_W m)
    match b with | some (_, x) => if w ≤ x then some (m, w) else b | none => some (m, w)) none).map (·.1)

/-- An idle Joker with STANDBY_EN calibrates itself, to stand by on an active lane of the quad (R188) (DEDUCED, log entry 81). -/
def State.jkSettle (s : State) (q : Nat) : State :=
  let g := Pg.CP q
  if s.on g Fd.CP_JOKER_CTL_EN && s.on g Fd.CP_JOKER_CTL_STANDBY_EN && s.jkState q == jkIdle && (s.jk q).stage == .none &&
      s.linkState (s.portOfQuad q) != lkDisabled && (s.jkBest q).isSome then
    s.putJk q { s.jk q with stage := .selfCal false }
  else s

/-- The Joker connects to a lane in STANDBY, and starts from the codes of the lane's slice (t0 of R189). -/
def State.jkConnect (s : State) (q m : Nat) : State :=
  let g := Pg.CP q
  let s := ((s.setFld g Fd.CP_JOKER_STAT_STATE jkStandby).setFld g Fd.CP_JOKER_STAT_LANE m).setFld g Fd.CP_JOKER_STAT_MATCHED 0
  s.putCodes q 4 (tabGet (dflt {}) (s.jk q).codes m)

/-- A recalibration of a lane starts (t0 of R189). -/
def State.startRecal (s : State) (q m : Nat) (force : Bool) : State :=
  let g := Pg.CP q
  let j := s.jk q
  if s.jkState q = jkStandby ∧ s.jkLane q = m ∧ s.on g Fd.CP_JOKER_STAT_MATCHED then
    s.putJk q { j with stage := .takeover, lane := m, force := force, release := false }
  else if s.jkState q = jkIdle then s.putJk q { j with stage := .selfCal true, lane := m, force := force, release := false }
  else (s.putJk q { j with stage := .matching, lane := m, force := force, release := false }).jkConnect q m

/-- The request of the highest waiting lane is served once the Joker is free (R191). -/
def State.nextRecal (s : State) (q : Nat) : State :=
  let j := s.jk q
  if j.stage ≠ .none then s
  else match (bitsOf 4 j.waiting).getLast? with
    | none => s.jkSettle q
    | some m =>
      if s.jkAvailable q then (s.putJk q { j with waiting := nbSet j.waiting m 1 0 }).startRecal q m false else s

/-- A recalibration of a lane is requested (R189, R191). -/
def State.requestRecal (s : State) (q m : Nat) : State :=
  let g := Pg.CP q
  let p := s.portOfQuad q
  let st := s.jkState q
  if st = jkSubst ∨ st = jkFailed then
    if s.mode = .idle ∨ s.mode = .setup then (if s.linkState p = lkDisabled then s else s.enterBase p)
    else s.setFld g Fd.CP_JOKER_STAT_CAL_DEFERRED 1
  else if !s.on g Fd.CP_JOKER_CTL_EN then s.setFld g Fd.CP_JOKER_STAT_CAL_ABORT 1
  else
    let j := s.jk q
    (s.putJk q { j with waiting := nbSet j.waiting m 1 1 }).nextRecal q

/-- The Joker has calibrated itself (R188): it goes to the lane of the recalibration that waits for it, or stands by. -/
def State.jkReady (s : State) (q : Nat) : State :=
  let j := s.jk q
  match j.stage with
  | .selfCal true => (s.putJk q { j with stage := .matching }).jkConnect q j.lane
  | .selfCal false =>
    let s := s.putJk q { j with stage := .none }
    (match s.jkBest q with
      | some m => if s.on (Pg.CP q) Fd.CP_JOKER_CTL_STANDBY_EN then s.jkConnect q m else s
      | none => s).nextRecal q
  | _ => s

/-- The Joker fails its own calibration (R188, R191). -/
def State.jkFail (s : State) (q : Nat) : State :=
  let s := (s.setFld (Pg.CP q) Fd.CP_JOKER_STAT_STATE jkFailed).putJk q { s.jk q with stage := .none, release := false, force := false }
  (s.logErr Er.JOKER_FAIL (Pg.CP q) q).dropWaiting q

/-- A Joker in its quad at an alignment marker position (R189, R192). -/
def State.jokerMarker (s : State) (q : Nat) : State :=
  match (s.jk q).stage with
  | .takeover => s.takeover q
  | .handback => (s.handback q).nextRecal q
  | _ => s

/-- ALIGN_MARKER: a marker position of a port, by what each lane carried there: its lane number and S (R130-R133) (DEDUCED, log entry 92). -/
def State.alignMarker (s : State) (p : Nat) (marks : List (Option (Nat × Nat))) : State :=
  let st := s.linkState p
  let n := s.lanes p
  let l := s.link_ p
  let g := Pg.CP p
  if st ≠ lkAlign ∧ st ≠ lkActive then s
  else
    let bad := (List.range n).foldl (fun (t : Tab Nat) m =>
      tabPut (dflt 0) m (if markGood (marks.take n) m then 0 else tabGet (dflt 0) l.badMarks m + 1) t) []
    let s :=
      if s.on g Fd.CP_LINK_STAT_DESKEW_OK && (List.range n).any fun m => decide (2 ≤ tabGet (dflt 0) bad m) then
        let s := (s.setLink p lkAlign).setFld g Fd.CP_LINK_STAT_DESKEW_OK 0
        (s.putLink p { l with goodMarks := 0, badMarks := [] }).bump g Fd.CP_ERR_CNT2_AM_LOSS
      else if st = lkAlign then
        let ok := marksAligned marks n
        let good := if ok then l.goodMarks + 1 else 0
        let s := s.putLink p { l with goodMarks := good, badMarks := bad }
        let s := if ok then s.setFld g Fd.CP_LINK_STAT_DESKEW_OK 1 else s
        if 2 ≤ good then (s.setLink p lkActive).linkCmd p 3 else s
      else s.putLink p { l with badMarks := bad }
    (List.range ((n + 3) / 4)).foldl (fun s k => s.jokerMarker (p + k)) s

def execAlignMarker (p : Fin 16) (marks : List (Option (Nat × Nat))) (s : State) : Host.Outcome State Fault Refusal :=
  .next (s.alignMarker p marks)

/-! ### Eye scans and the Joker's commands (R183-R197) -/

/-- EYE_SCAN_DONE: a continuous scan of a lane completes (R183-R185, R188). -/
def State.eyeScan (s : State) (q m : Nat) (r : EyeResult) (codes : EqCodes) : State :=
  let p := s.portOfQuad q
  let g := Pg.CP q
  let st := s.linkState p
  if !(st == lkBase || st == lkAlign || st == lkActive) || decide (s.lanes p ≤ s.laneOf q m) then s
  else
    let s := (s.setFld g (Fd.CP_LANE_STAT_EYE_W m) r.w).setFld g (Fd.CP_LANE_STAT_EYE_H m) r.h
    let s := s.putCodes q (s.sliceOf q m) codes
    let low := decide (r.w < s.fld (Pg.CP p) Fd.CP_EYE_CTL_WARN_W)
    let s := s.setBit g (Fd.CP_LANE_STAT_EYE_LOW m) low
    let s := if low then (s.raiseNow (evCp p 2)).requestRecal q m else s
    let c := s.jkLane q
    if s.jkState q = jkStandby ∧ (s.jk q).stage = .none ∧ c ≠ m ∧ r.w + 4 ≤ s.fld g (Fd.CP_LANE_STAT_EYE_W c) then
      s.jkConnect q m
    else s.jkSettle q

def execEyeScanDone (q : Fin 16) (m : Fin 4) (x : EyeScan) (s : State) : Host.Outcome State Fault Refusal :=
  .next (s.eyeScan q m (s.contEye (s.portOfQuad q) x) x.codes)

/-- RECAL_PERIOD: CAL_PERIOD has elapsed since a lane's last calibration (R189). -/
def execRecalPeriod (q : Fin 16) (m : Fin 4) (s : State) : Host.Outcome State Fault Refusal :=
  .next (if s.fld (Pg.CP (s.portOfQuad q)) Fd.CP_EYE_CTL_CAL_PERIOD = 0 then s else s.requestRecal q m)

/-- RELEASE: the failed slice is recalibrated while the Joker carries the lane (R195). -/
def State.jkRelease (s : State) (q : Nat) : State :=
  if s.jkState q = jkSubst ∧ (s.jk q).stage = .none then
    s.putJk q { s.jk q with stage := .calibrating, lane := s.jkLane q, release := true, force := false }
  else s

/-- FORCE: the substitution of R194 without a failure, at the next marker of a running link, else at once (R197). -/
def State.jkForce (s : State) (q m : Nat) : State :=
  let st := s.linkState (s.portOfQuad q)
  if !s.jkAvailable q then s
  else if st = lkAlign ∨ st = lkActive then s.startRecal q m true
  else s.substitute q m

/-- A write of JOKER_CTL: its RW bits, then RELEASE, FORCE and CAL_NOW (R189, R195, R197). -/
def State.jokerCtl (s : State) (q : Nat) (w : Word) : State :=
  let g := Pg.CP q
  let s := s.writeReg g Rg.CP_JOKER_CTL w
  let s :=
    if wf w 0 1 = 0 ∧ (s.jkState q = jkStandby ∨ s.jkState q = jkIdle) then
      ((s.setFld g Fd.CP_JOKER_STAT_STATE jkIdle).setFld g Fd.CP_JOKER_STAT_MATCHED 0).putJk q
        { s.jk q with stage := .none, waiting := 0, force := false }
    else s
  let s := if wf w 5 1 = 1 then s.jkRelease q else s
  let s := if wf w 4 1 = 1 then s.jkForce q (wf w 2 2) else s
  ((bitsOf 4 (wf w 8 4)).reverse.foldl (fun s m => s.requestRecal q m) s).jkSettle q

/-- JOKER_CAL_NOW. -/
def execJokerCalNow (o : Owner) (q : Fin 16) (w : Word) (s : State) : Host.Outcome State Fault Refusal :=
  .next (s.guarded o (Pg.CP q) Rg.CP_JOKER_CTL (·.jokerCtl q w))

/-- JOKER_RELEASE. -/
def execJokerRelease (o : Owner) (q : Fin 16) (w : Word) (s : State) : Host.Outcome State Fault Refusal :=
  .next (s.guarded o (Pg.CP q) Rg.CP_JOKER_CTL (·.jokerCtl q w))

/-- JOKER_FORCE. -/
def execJokerForce (o : Owner) (q : Fin 16) (w : Word) (s : State) : Host.Outcome State Fault Refusal :=
  .next (s.guarded o (Pg.CP q) Rg.CP_JOKER_CTL (·.jokerCtl q w))

/-- JOKER_MATCHED (R187): so many consecutive symbols of the Joker have equalled those of the carrying slice. 4,096 make it matched; fewer
follow a difference, which clears the match and, while the lane's own slice has lock, takes a handover back to matching. -/
def State.jokerRun (s : State) (q run : Nat) (c : EqCodes) : State :=
  if s.jkState q ≠ jkStandby then s
  else
    let s := (s.setBit (Pg.CP q) Fd.CP_JOKER_STAT_MATCHED (decide (4096 ≤ run))).putCodes q 4 c
    let j := s.jk q
    if 4096 ≤ run then (if j.stage = .matching then s.putJk q { j with stage := .takeover } else s)
    else if j.stage = .takeover ∧ s.on (Pg.CP q) (Fd.CP_LANE_STAT_LOCK j.lane) then s.putJk q { j with stage := .matching }
    else s

def execJokerMatched (x : MatchRun) (s : State) : Host.Outcome State Fault Refusal := .next (s.jokerRun x.quad x.run x.codes)

/-- JOKER_MATCH_TIMEOUT: not matched within 2 ms of t0, the handover is abandoned (R190). -/
def execJokerMatchTimeout (q : Fin 16) (s : State) : Host.Outcome State Fault Refusal :=
  let j := s.jk q
  .next (if j.stage = .matching ∨ j.stage = .selfCal true then
    ((s.setFld (Pg.CP q) Fd.CP_JOKER_STAT_CAL_ABORT 1).putJk q { j with stage := .none, force := false }).nextRecal q else s)

/-- MAIN_SLICE_CAL_DONE: a main slice's calibration ends (t4 of R189): good, or failed after its retries (R194, R195). -/
def State.sliceCalDone (s : State) (q m : Nat) (ok : Bool) : State :=
  let j := s.jk q
  if j.stage = .calibrating ∧ j.lane = m then
    if ok then s.putJk q { j with stage := .adapting }
    else if j.release then (s.putJk q { j with stage := .none, release := false }).nextRecal q
    else s.sliceFailed q m
  else if ok then s
  else s.sliceFailed q m

def execMainSliceCalDone (q : Fin 16) (m : Fin 4) (ok : Bool) (s : State) : Host.Outcome State Fault Refusal :=
  .next (s.sliceCalDone q m ok)

/-- MAIN_SLICE_MATCHED: so many consecutive symbols of the main slice have equalled those of the Joker (t5 of R189, R187). -/
def State.mainRun (s : State) (q run : Nat) (c : EqCodes) : State :=
  let j := s.jk q
  if j.stage = .adapting ∨ j.stage = .handback then
    let s := (s.setBit (Pg.CP q) Fd.CP_JOKER_STAT_MATCHED (decide (4096 ≤ run))).putCodes q j.lane c
    s.putJk q { s.jk q with stage := if 4096 ≤ run then .handback else .adapting }
  else s

def execMainSliceMatched (x : MatchRun) (s : State) : Host.Outcome State Fault Refusal := .next (s.mainRun x.quad x.run x.codes)

end Sys2Proof.Machine
end

