-- ==== Sys2Proof/Machine/QueueCmds.lean ====
section
/-!
DEFINITION. The commands of the queue fabric (R479-R497): producers and consumers, the extension mover, bank rounds,
allocation and host access.
-/
namespace Sys2Proof.Machine

/-! ### Producers and consumers -/

def execQueueCreditRequest (q : Fin 8192) (r : Fin 8) (n : Nat) (reserve : Bool) (s : State) :
    Host.Outcome State Fault Refusal := .next (s.qRequest q r n reserve).1

/-- QUEUE_PUSH: a requester uses one of its credits (R484, R485); without one there is no push. -/
def execQueuePush (q : Fin 8192) (r : Fin 8) (data : Word64) (tag : Fin 4) (sof eof : Bool) (s : State) :
    Host.Outcome State Fault Refusal :=
  .next (if 0 < (s.q q).credOf r then s.qPush q r data tag sof eof else s)

/-- QUEUE_POP: the head word, delivered to its consumer; a handshake consumer of an empty queue takes nothing (R486). The
consumer of a session's queues is its Ethernet port (R556). -/
def execQueuePop (q : Fin 8192) (flip : Word64) (s : State) : Host.Outcome State Fault Refusal :=
  match s.qPopFlip q flip with
  | (t, some w) => .next ((t.countWord q w).emit (.word q w))
  | (t, none) => .next t

/-- The answer of a poll that finds no word on-chip (R487). -/
abbrev emptyPoll : QWord := ⟨0, tagNotValid, false, false, parityOf 0 tagNotValid false false⟩

/-- A poll read: a pop of the head word, or the empty answer, which changes nothing (R487). -/
def State.poll (s : State) (q : Nat) (flip : Word64) : State × QWord :=
  match s.qPopFlip q flip with
  | (t, some w) => (t, w)
  | (_, none) => (s, emptyPoll)

def execQueuePoll (q : Fin 8192) (flip : Word64) (s : State) : Host.Outcome State Fault Refusal :=
  let (t, w) := s.poll q flip
  .next (t.emit (.word q w))

/-! ### Extension mover (R491-R493) -/

/-- The words of the head line of a queue's ring. -/
def headLine (v : Queue) : Nat := Nat.min (7 - v.extHead % 7) v.extLen

/-- A ring line read back with an uncorrected error: its words will enter POISONED (R493). -/
def State.extError (s : State) (q : Nat) : State :=
  let v := s.q q
  let s := s.setQ q { v with extBad := headLine v }
  (s.bump Pg.QF Fd.QF_EXT_CNT_b24).logErr Er.QF_EXT_ERR Pg.QF q

/-- One ring word moved on-chip (R491). -/
def State.extWord (s : State) (q : Nat) : State :=
  let v := s.q q
  if v.extLen = 0 ∨ s.qCap q ≤ v.words.length then s
  else
    let w := s.ringGet q v.extHead
    let w := if v.extBad = 0 then w else mkWord w.data tagPoisoned w.sof w.eof
    (s.setQ q { v with
      words := v.words ++ [w], extHead := (v.extHead + 1) % (7 * s.qExtLines q), extLen := v.extLen - 1,
      extBad := v.extBad - 1 }).bump Pg.QF Fd.QF_EXT_CNT_b0

/-- The mover takes words of the head ring line while space is free. -/
def State.extMoveN (s : State) (q : Nat) : Nat → State
  | 0 => s
  | n + 1 => (s.extWord q).extMoveN q n

def State.extMove (s : State) (q : Nat) (bad : Bool) : State :=
  let v := s.q q
  if v.extLen = 0 ∨ s.qCap q ≤ v.words.length then s
  else
    let n := headLine v
    let s := if v.extBad = 0 && (bad || s.dramBad (s.ringAt q v.extHead).1 64) then s.extError q else s
    s.extMoveN q n

def execExtMove (q : Fin 8192) (bad : Bool) (s : State) : Host.Outcome State Fault Refusal := .next (s.extMove q bad)

/-- BANK_GRANT: one round of a store bank's arbiter (R494, R495). -/
def execBankGrant (b : Fin 64) (reqs : List (Fin 8)) (s : State) : Host.Outcome State Fault Refusal :=
  let (t, _, dead) := s.arbRound (16 + b) (reqs.map (·.val))
  .next (if dead then t.bump Pg.QF Fd.QF_BANK_CNT_b0 else t)

/-! ### Allocation (R482, R483) -/

/-- A descriptor word after APPLY: the shadow's where one was written. -/
def State.shadowDesc (s : State) (q i : Nat) : Word :=
  match tabGet (dflt none) s.qshadow (qdesc q + 4 * i) with
  | some w => w
  | none => s.win (qdesc q + 4 * i)

/-- The descriptor of a queue as APPLY would make it: its first seven words as a number. -/
def State.descNew (s : State) (q : Nat) : Nat := wordsNat ((List.range 7).map fun i => s.shadowDesc q i)

/-- An enabled queue's numbers in the checks of R483. -/
structure QAlloc where
  q     : Nat
  base  : Nat
  cap   : Nat
  rsv   : Nat
  ext   : Bool
  extBase  : Nat
  extLines : Nat
deriving DecidableEq, Repr

/-- The enabled queues, in order, as APPLY would make them. -/
def State.enabledNew (s : State) : List QAlloc :=
  ((List.range 8192).map fun q => (q, s.descNew q)).filterMap fun (p : Nat × Nat) =>
    if nb p.2 80 1 = 1 then
      some ⟨p.1, nb p.2 0 21, nb p.2 32 22, nb p.2 64 16, tbit p.2 81, nb p.2 128 64, nb p.2 192 32⟩
    else none

/-- Whether an enabled queue breaks a rule of R483. -/
def QAlloc.bad (a : QAlloc) (l : List QAlloc) : Bool :=
  decide (2097152 < a.base + a.cap) ||
  l.any (fun b => b.q != a.q && decide (a.base < b.base + b.cap) && decide (b.base < a.base + a.cap)) ||
  decide (a.cap + (if a.ext then 7 * a.extLines else 0) ≤ a.rsv) ||
  (a.ext && (decide (a.extBase % 4096 ≠ 0) || a.extLines == 0))

/-- The descriptor words of a queue replaced by the shadow's; HWM restarts where EN rises (R481). -/
def State.takeDesc (s : State) (e : Nat × Option Word) : State :=
  match e.2 with
  | none => s
  | some w =>
    let q := (e.1 - 0x100000) / 64
    let was := s.qd q 80 1
    let s := s.setWin e.1 w
    if was = 0 ∧ s.qd q 80 1 = 1 then s.setQ q { s.q q with hwm := (s.q q).depth } else s

/-- QF_APPLY: a write of ALLOC with APPLY, in IDLE or SETUP (R482, R483). -/
def State.qfApply (s : State) (w : Word) : State :=
  if wf w 0 1 = 1 ∧ (s.mode = .idle ∨ s.mode = .setup) then
    let l := s.enabledNew
    match l.find? (·.bad l) with
    | some a =>
      ((s.setFld Pg.QF Fd.QF_ALLOC_STAT_RESULT 2).setFld Pg.QF Fd.QF_ALLOC_STAT_b16 a.q).logErr Er.QF_ALLOC Pg.QF a.q
    | none => { (s.qshadow.foldl (fun s e => s.takeDesc e) s).setFld Pg.QF Fd.QF_ALLOC_STAT_RESULT 1 with qshadow := [] }
  else s

def execQfApply (o : Owner) (w : Word) (s : State) : Host.Outcome State Fault Refusal :=
  .next (s.guarded o Pg.QF Rg.QF_ALLOC (·.qfApply w))

/-! ### Host access (R496) -/

/-- The credit holder that an owner's queue end is. -/
abbrev hostHolder (o : Owner) : Nat := 8 + ownerCode o

/-- The queue named in HQ_SEL. -/
def State.hqSel (s : State) : Nat := s.fld Pg.QF Fd.QF_HQ_SEL_b0

/-- An access to a queue whose HOST_END forbids it (R496). -/
def State.hqForbidden (s : State) : State := s.flag Pg.QF Fd.QF_STAT_GUARD_REFUSED

/-- Whether HOST_END lets the host push, or pop. -/
def State.hostPushes (s : State) (q : Nat) : Bool := tbit (s.qHostEnd q) 0
def State.hostPops (s : State) (q : Nat) : Bool := tbit (s.qHostEnd q) 1

/-- HQ_CRED_REQ: a write of HQ_CRED_REQ; GO requests COUNT credits (R484, R496). -/
def State.hqCredReq (s : State) (o : Owner) (w : Word) : State :=
  let s := s.writeReg Pg.QF Rg.QF_HQ_CRED_REQ w
  if wf w 16 1 = 0 then s
  else if s.hostPushes s.hqSel then (s.qRequest s.hqSel (hostHolder o) (wf w 0 16) false).1
  else s.hqForbidden

def execHqCredReq (o : Owner) (w : Word) (s : State) : Host.Outcome State Fault Refusal :=
  .next (s.guarded o Pg.QF Rg.QF_HQ_CRED_REQ (·.hqCredReq o w))

/-- HQ_PUSH: a write of HQ_PUSH_HI pushes one word (R496). -/
def State.hqPush (s : State) (o : Owner) (w : Word) : State :=
  let q := s.hqSel
  if !s.hostPushes q then s.hqForbidden
  else if (s.q q).credOf (hostHolder o) = 0 then s.bump Pg.QF Fd.QF_REFUSE_CNT_b16
  else s.qPush q (hostHolder o) (w ++ s.hqLo) (s.fld Pg.QF Fd.QF_HQ_PUSH_CTL_TAG)
    (s.on Pg.QF Fd.QF_HQ_PUSH_CTL_SOF) (s.on Pg.QF Fd.QF_HQ_PUSH_CTL_EOF)

def execHqPush (o : Owner) (w : Word) (s : State) : Host.Outcome State Fault Refusal :=
  .next (s.guarded o Pg.QF Rg.QF_HQ_PUSH_HI (·.hqPush o w))

/-- HQ_POP: a read of HQ_POP_LO pops one word and latches the rest of it (R487, R496). Answers the data read. -/
def State.hqPop (s : State) (flip : Word64) : State × Word :=
  if s.hostPops s.hqSel then
    let (s, w) := s.poll s.hqSel flip
    let s := s.wr Pg.QF Rg.QF_HQ_POP_HI (BitVec.ofNat 32 (w.data.toNat / 2 ^ 32))
    (s.wr Pg.QF Rg.QF_HQ_POP_TAG (BitVec.ofNat 32 (w.tag + 4 * b2n w.sof + 8 * b2n w.eof)), BitVec.ofNat 32 w.data.toNat)
  else (s.hqForbidden, 0)

def execHqPop (o : Owner) (flip : Word64) (s : State) : Host.Outcome State Fault Refusal :=
  if s.reaches o Pg.QF then
    let (t, w) := (s.touch o Pg.QF).hqPop flip
    .next (t.emit (.readData (ownerCode o) (Pg.QF * 4096 + Rg.QF_HQ_POP_LO) w))
  else .next s

/-- LVL_NEXT_READ: the oldest entry of the level list, removed (R490). Answers the data read. -/
def State.lvlNext (s : State) : State × Word :=
  match s.levels with
  | [] => (s, 0)
  | q :: rest => ({ s with levels := rest }.showLevels, BitVec.ofNat 32 (q + 2 ^ 31))

def execLvlNextRead (o : Owner) (s : State) : Host.Outcome State Fault Refusal :=
  if s.reaches o Pg.QF then
    let (t, w) := (s.touch o Pg.QF).lvlNext
    .next (t.emit (.readData (ownerCode o) (Pg.QF * 4096 + Rg.QF_LVL_NEXT) w))
  else .next s

end Sys2Proof.Machine
end

