-- ==== Sys2Proof/Machine/Dma.lean ====
section
/-!
DEFINITION. The DMA engine (R498-R507): register sets, request lines, bursts, pause, abort and errors.
-/
namespace Sys2Proof.Machine

/-! ### Register sets and channels -/

/-- The window offset of a register set (R498). -/
abbrev dmaSetAt (c k : Nat) : Nat := 0x1B0000 + 64 * c + 32 * k

/-- A register set's fields (Table — DMA register set). -/
structure DmaSet where
  src      : Nat
  dst      : Nat
  count    : Nat
  srcSpace : Nat
  dstSpace : Nat
  srcInc   : Bool
  dstInc   : Bool
  log2     : Nat
  req      : Nat
  reqEn    : Bool
  halfIrq  : Bool
  fullIrq  : Bool
  circ     : Bool
deriving DecidableEq, Repr

def State.dmaSet (s : State) (c k : Nat) : DmaSet :=
  let f := s.winBits (dmaSetAt c k)
  { src := f 0 64, dst := f 64 64, count := f 128 32, srcSpace := f 160 2, dstSpace := f 162 2,
    srcInc := f 164 1 == 1, dstInc := f 165 1 == 1, log2 := f 166 4, req := f 170 6, reqEn := f 176 1 == 1,
    halfIrq := f 177 1 == 1, fullIrq := f 178 1 == 1, circ := f 179 1 == 1 }

/-- The bytes of a burst, and its queue words. -/
def DmaSet.bytes (d : DmaSet) : Nat := 2 ^ d.log2
def DmaSet.words (d : DmaSet) : Nat := d.bytes / 8

def State.ch (s : State) (c : Nat) : DmaCh := tabGet (dflt {}) s.dma c

/-- A channel replaced; STAT and PAUSED_STAT follow. -/
def State.setCh (s : State) (c : Nat) (v : DmaCh) : State :=
  let s := { s with dma := tabPut (dflt {}) c v s.dma }
  let s := s.setFld Pg.DMA ⟨Rg.DMA_PAUSED_STAT, c, 1⟩ (b2n (v.state == 2))
  s.setFld Pg.DMA Fd.DMA_STAT_b0 ((List.range 32).filter fun k => (s.ch k).state != 0).length

/-- The active set of a channel. -/
def State.chSet (s : State) (c : Nat) : DmaSet := s.dmaSet c ((s.ch c).active.getD 0)

/-- The address of burst `i` of the active set (R505). -/
def DmaSet.srcAt (d : DmaSet) (i : Nat) : Nat := d.src + if d.srcInc then i * d.bytes else 0
def DmaSet.dstAt (d : DmaSet) (i : Nat) : Nat := d.dst + if d.dstInc then i * d.bytes else 0

/-! ### Data registers and request lines (R498, R499) -/

/-- The FIFO behind a data register, by its BAR0 offset: QSPI.DATA, RXDATA and TXDATA of MTWI and TWL0 to TWL3. -/
def dataFifo (a : Nat) : Option Nat :=
  if a = Pg.QSPI * 4096 + Rg.QSPI_DATA then some 10
  else if a = Pg.MTWI * 4096 + Rg.MTWI_RXDATA then some 8
  else if a = Pg.MTWI * 4096 + Rg.MTWI_TXDATA then some 9
  else ((List.range 4).findSome? fun n =>
    if a = Pg.TWL n * 4096 + Rg.TWL_RXDATA then some (2 * n)
    else if a = Pg.TWL n * 4096 + Rg.TWL_TXDATA then some (2 * n + 1) else none)

/-- A listed request line (Table — DMA request lines). -/
def lineListed (l : Nat) : Bool := decide (l < 14) || (decide (16 ≤ l) && decide (l < 48))

/-- A field of the running host job's descriptor. -/
def State.zipF (s : State) (lo len : Nat) : Nat := nb (s.zip.job.getD 0) lo len

/-- The level of a request line for a burst, for a channel that reads (`rd`) its queue or writes it (R499, R550). -/
def State.reqLine (s : State) (l n : Nat) (rd : Bool) : Bool :=
  if l = 0 then s.zip.job.isSome && s.zipF 10 1 == 1 && decide (n / 8 ≤ s.qFree (s.zipF 64 13) false)
  else if l = 1 then s.zip.job.isSome && s.zipF 11 1 == 1 && decide (n / 8 ≤ (s.q (s.zipF 128 13)).words.length)
  else if l = 2 then decide (n ≤ (s.fifoOf 10).length)
  else if l = 3 then decide ((s.fifoOf 10).length + n ≤ fifoDepth 10)
  else if l < 14 then
    let f := l - 4
    if f % 2 = 0 then decide (n ≤ (s.fifoOf f).length) else decide ((s.fifoOf f).length + n ≤ fifoDepth f)
  else if 16 ≤ l ∧ l < 48 then
    let q := 7168 + (l - 16)
    if rd then decide (n / 8 ≤ (s.q q).words.length) else decide (n / 8 ≤ s.qFree q false)
  else false

/-! ### Arming (R502, R503) -/

/-- Whether a set breaks a rule of R503. -/
def DmaSet.bad (d : DmaSet) : Bool :=
  let side (space a : Nat) (inc : Bool) : Bool :=
    if space ≤ 1 then decide (a % 8 ≠ 0)
    else if space = 2 then inc || decide (8192 ≤ a)
    else inc || (dataFifo a).isNone
  d.count == 0 || decide (d.log2 < 3) || decide (12 < d.log2) || side d.srcSpace d.src d.srcInc ||
  side d.dstSpace d.dst d.dstInc || (d.reqEn && !lineListed d.req)

/-- The set that ARM arms: the one that is not active, set 0 before the first (R502). -/
def DmaCh.shadowSet (v : DmaCh) : Nat := match v.active with | none => 0 | some k => 1 - k

/-- A set becomes active and starts; with PAUSE set it enters PAUSED without moving data (R502, R505). -/
def State.startSet (s : State) (c k : Nat) : State :=
  let v := s.ch c
  s.setCh c { v with
    active := some k, armed := false, done := 0, half := false, flying := [], state := if v.pause then 2 else 1 }

/-- ARM of a channel by an owner (R502, R503, R611). -/
def State.dmaArm (s : State) (o : Owner) (c : Nat) : State :=
  let v := s.ch c
  if (s.dmaSet c v.shadowSet).bad then
    (s.setCh c { v with refused := true }).logErr Er.DMA_FORMAT Pg.DMA c v.shadowSet
  else
    let s := s.setCh c { v with armed := true, owner := ownerCode o }
    if v.state = 0 then s.startSet c v.shadowSet else s

/-! ### Draining (R505, R506) -/

/-- The header's cause bits follow the status registers. -/
def State.dmaIrq (s : State) : State :=
  [(Rg.DMA_DONE_STAT, 0), (Rg.DMA_HALF_STAT, 1), (Rg.DMA_ERR_STAT, 2)].foldl (fun s (p : Nat × Nat) =>
    if s.rd Pg.DMA p.1 = 0 then s.setFld Pg.DMA ⟨Rg.HDR_IRQ_STAT, p.2, 1⟩ 0
    else if p.2 = 2 then s.irq Pg.DMA 2 else s.setFld Pg.DMA ⟨Rg.HDR_IRQ_STAT, p.2, 1⟩ 1) s

/-- A bit of DONE_STAT or HALF_STAT set; its channel's own message is sent (Table — MSI-X vectors). -/
def State.dmaBit (s : State) (reg c : Nat) : State :=
  let was := s.on Pg.DMA ⟨reg, c, 1⟩
  let s := (s.setFld Pg.DMA ⟨reg, c, 1⟩ 1).dmaIrq
  if was then s else s.msix (32 + c)

/-- The credits a channel holds return (R497). -/
def State.dmaCredits (s : State) (c : Nat) : State :=
  let d := s.chSet c
  if d.dstSpace = 2 then s.qReturn (d.dst % 8192) (16 + c) else s

/-- A channel with nothing in flight acts on ABORT and PAUSE (R505, R506). -/
def State.dmaSettle (s : State) (c : Nat) : State :=
  let v := s.ch c
  if !v.flying.isEmpty ∨ v.state = 0 ∨ v.state = 3 then s
  else if v.abort then
    let s := (s.dmaCredits c).setCh c { v with state := 0, armed := false, abort := false, cause := 1 }
    (s.setFld Pg.DMA ⟨Rg.DMA_ERR_STAT, c, 1⟩ 1).dmaIrq
  else if v.pause then s.setCh c { v with state := 2 }
  else s.setCh c { v with state := 1 }

/-- ABORT: from ERROR to IDLE at once, else a drain (R506, R507). -/
def State.dmaAbort (s : State) (c : Nat) : State :=
  let v := s.ch c
  if v.state = 3 then s.setCh c { v with state := 0, armed := false }
  else if v.state = 0 then s
  else (s.setCh c { v with abort := true }).dmaSettle c

/-- A write of CH_CTL for the channel in CH_SEL (R502, R505, R506). -/
def State.chCtl (s : State) (o : Owner) (w : Word) : State :=
  let c := s.fld Pg.DMA Fd.DMA_CH_SEL_b0
  let s := (s.setCh c { s.ch c with pause := tbit w.toNat 1 }).dmaSettle c
  let s := if tbit w.toNat 0 then s.dmaArm o c else s
  if tbit w.toNat 2 then s.dmaAbort c else s

def execDmaArm (o : Owner) (w : Word) (s : State) : Host.Outcome State Fault Refusal :=
  .next (s.guarded o Pg.DMA Rg.DMA_CH_CTL (·.chCtl o w))

def execDmaPause (o : Owner) (w : Word) (s : State) : Host.Outcome State Fault Refusal :=
  .next (s.guarded o Pg.DMA Rg.DMA_CH_CTL (·.chCtl o w))

def execDmaResume (o : Owner) (w : Word) (s : State) : Host.Outcome State Fault Refusal :=
  .next (s.guarded o Pg.DMA Rg.DMA_CH_CTL (·.chCtl o w))

def execDmaAbort (o : Owner) (w : Word) (s : State) : Host.Outcome State Fault Refusal :=
  .next (s.guarded o Pg.DMA Rg.DMA_CH_CTL (·.chCtl o w))

/-! ### Bursts -/

/-- Bursts of the active set that have been read. -/
def DmaCh.issued (v : DmaCh) : Nat := v.done + v.flying.length

/-- Whether a channel requests a burst, but for the credit of a queue destination (R500). -/
def State.dmaWants (s : State) (c : Nat) : Bool :=
  let v := s.ch c
  let d := s.chSet c
  v.state == 1 && !v.pause && !v.abort && decide (v.issued < d.count) && decide (v.flying.length < 8) &&
  (!d.reqEn || s.reqLine d.req d.bytes (d.srcSpace == 2)) &&
  (d.srcSpace != 2 || decide (d.words ≤ (s.q (d.src % 8192)).words.length)) &&
  (d.dstSpace != 2 || decide (d.words ≤ s.qFree (d.dst % 8192) false) && s.qEn (d.dst % 8192))

/-- Whether a channel requests a second burst beside the one it requests (R253). -/
def State.dmaMore (s : State) (c : Nat) : Bool :=
  let v := s.ch c
  let d := s.chSet c
  s.dmaWants c && decide (v.issued + 1 < d.count) && decide (v.flying.length + 1 < 8) &&
  (!d.reqEn || s.reqLine d.req (2 * d.bytes) (d.srcSpace == 2)) &&
  (d.srcSpace != 2 || decide (2 * d.words ≤ (s.q (d.src % 8192)).words.length)) &&
  (d.dstSpace != 2 || decide (2 * d.words ≤ s.qFree (d.dst % 8192) false))

/-- A channel whose only want is credit asks for it and is refused (R500). -/
def State.dmaAsks (s : State) (c : Nat) : State :=
  let d := s.chSet c
  if (s.ch c).state == 1 && d.dstSpace == 2 && !s.dmaWants c && !(s.ch c).pause && !(s.ch c).abort &&
      decide ((s.ch c).issued < d.count) && decide ((s.ch c).flying.length < 8) &&
      (!d.reqEn || s.reqLine d.req d.bytes (d.srcSpace == 2)) &&
      (d.srcSpace != 2 || decide (d.words ≤ (s.q (d.src % 8192)).words.length)) then
    (s.qRequest (d.dst % 8192) (16 + c) d.words false).1
  else s

/-- The data of a burst at its source: the bytes and a TAG per word, none while host memory has to answer or DRAM cannot
(R500, R507). -/
def State.dmaRead (s : State) (c : Nat) : State × Option (List Byte × List Nat) :=
  let v := s.ch c
  let d := s.chSet c
  let a := d.srcAt v.issued
  let valid : List Nat := List.replicate d.words tagValid
  if d.srcSpace = 0 then
    let (s, l) := s.memRead 4 a d.bytes
    (s, l.map fun l => (l, valid))
  else if d.srcSpace = 1 then (s, none)
  else if d.srcSpace = 2 then
    let (s, l) := s.qPopN (d.src % 8192) d.words
    (s, some (l.flatMap (fun w => leBytes 8 w.data.toNat), l.map (·.tag)))
  else match dataFifo d.src with
    | none => (s, none)
    | some f => let (s, l) := s.fifoGet f d.bytes; (s, some (l, valid))

/-- DMA_BURST_GRANT: one round of the engine's arbiter; the channel granted reads a burst (R500, R501). -/
def State.dmaGrant (s : State) : State :=
  if !s.blockOn Pg.DMA Fd.DMA_CTL_EN then s
  else
    let s := (List.range 32).foldl (fun s c => s.dmaAsks c) s
    let (s, served, dead) := s.arbRound 120
      ((List.range 32).flatMap fun c => if s.dmaMore c then [c, c] else if s.dmaWants c then [c] else [])
    let s := if dead then s.bump Pg.DMA Fd.DMA_ERR_CNT_b24 else s
    match served with
    | none => s
    | some c =>
      let d := s.chSet c
      let s := if d.dstSpace = 2 then (s.qRequest (d.dst % 8192) (16 + c) d.words false).1 else s
      let (s, l) := s.dmaRead c
      s.setCh c { s.ch c with flying := (s.ch c).flying ++ [l] }

def execDmaBurstGrant (s : State) : Host.Outcome State Fault Refusal := .next s.dmaGrant

/-- A burst written at its destination (R504). POISONED words that do not go to a queue are counted (R507). -/
def State.dmaWrite (s : State) (c : Nat) (l : List Byte) (tags : List Nat) : State :=
  let v := s.ch c
  let d := s.chSet c
  let a := d.dstAt v.done
  let poison := (tags.filter (· == tagPoisoned)).length
  if d.dstSpace = 0 then (s.hostWrite 4 a l).bumpBy Pg.DMA Fd.DMA_ERR_CNT_POISON poison
  else if d.dstSpace = 1 then (s.emit (.hostWrite a l)).bumpBy Pg.DMA Fd.DMA_ERR_CNT_POISON poison
  else if d.dstSpace = 2 then
    tags.zipIdx.foldl (fun s (p : Nat × Nat) =>
      s.qPush (d.dst % 8192) (16 + c) (BitVec.ofNat 64 (leNat ((l.drop (8 * p.2)).take 8))) p.1 false false) s
  else match dataFifo d.dst with
    | none => s
    | some f => s.fifoPut f l

/-- The set has completed: the armed shadow, the same set under CIRC, or IDLE (R504). -/
def State.dmaComplete (s : State) (c : Nat) : State :=
  let v := s.ch c
  let d := s.chSet c
  let s := if d.fullIrq then s.dmaBit Rg.DMA_DONE_STAT c else s
  if v.armed ∧ !v.abort then s.startSet c v.shadowSet
  else if d.circ ∧ !v.abort then s.startSet c (v.active.getD 0)
  else s.setCh c { v with state := 0, armed := false, abort := false }

/-- A burst of a channel has become visible: the counts, the half point, the end of the set and a drain (R504-R506). -/
def State.dmaMoved (s : State) (c : Nat) : State :=
  let v := s.ch c
  let d := s.chSet c
  let s := (s.setCh c { v with done := v.done + 1, flying := v.flying.drop 1 }).bump Pg.DMA (whole Rg.DMA_BURST_CNT)
  let v := s.ch c
  let s := if d.halfIrq ∧ !v.half ∧ (d.count + 1) / 2 ≤ v.done then
      (s.setCh c { v with half := true }).dmaBit Rg.DMA_HALF_STAT c else s
  if d.count ≤ (s.ch c).done then s.dmaComplete c else s.dmaSettle c

/-- The oldest burst in flight ends in an error: the channel stops in ERROR; a queue destination receives its words
POISONED (R507). -/
def State.dmaFail (s : State) (c cause : Nat) : State :=
  let d := s.chSet c
  let s := if d.dstSpace = 2 then
      let s := s.dmaWrite c (List.replicate d.bytes 0) (List.replicate d.words tagPoisoned)
      s.setCh c { s.ch c with done := (s.ch c).done + 1 }
    else s
  let s := s.dmaCredits c
  let v := s.ch c
  let s := s.setCh c { v with state := 3, cause := cause, flying := [], abort := false }
  let s := ((s.setFld Pg.DMA ⟨Rg.DMA_ERR_STAT, c, 1⟩ 1).dmaIrq).bump Pg.DMA Fd.DMA_ERR_CNT_b16
  s.logErr Er.DMA_ERR Pg.DMA c cause

/-- DMA_BURST_DONE: the oldest burst of a channel is written; `data` is what host memory answered to its read. -/
def State.dmaDone (s : State) (c : Nat) (data : List Byte) : State :=
  let d := s.chSet c
  match (s.ch c).flying with
  | [] => s
  | some (l, tags) :: _ => (s.dmaWrite c l tags).dmaMoved c
  | none :: _ =>
    if d.srcSpace = 1 then
      let l := (data ++ List.replicate (d.bytes - data.length) 0).take d.bytes
      (s.dmaWrite c l (List.replicate d.words tagValid)).dmaMoved c
    else s.dmaFail c 2

def execDmaBurstDone (c : Fin 32) (data : List Byte) (s : State) : Host.Outcome State Fault Refusal :=
  .next (s.dmaDone c data)

/-- DMA_BURST_ERROR: the read of the oldest burst ends in an uncorrected DRAM error or a failed completion (R507). -/
def execDmaBurstError (c : Fin 32) (cause : Fin 8) (s : State) : Host.Outcome State Fault Refusal :=
  let space := (s.chSet c).srcSpace
  .next (if (s.ch c).flying.isEmpty ∨ 2 ≤ space ∨ (space = 0 ∧ cause ≠ 2) ∨ (space = 1 ∧ cause ≤ 2) then s
    else s.dmaFail c cause)

/-! ### Views of the selected channel -/

/-- CH_STAT of a channel. -/
def State.chStat (s : State) (c : Nat) : Word :=
  let v := s.ch c
  BitVec.ofNat 32 (v.state + 4 * v.active.getD 0 + 8 * b2n v.armed + 16 * b2n v.busyHit + 32 * b2n v.refused +
    64 * v.cause + 512 * v.flying.length)

/-- Bursts still to move (R505). -/
def State.chRemain (s : State) (c : Nat) : Nat :=
  if (s.ch c).state = 0 then 0 else (s.chSet c).count - (s.ch c).done

/-- A write to a word of a register set: an armed or an active set ignores it (R502). -/
def State.dmaSetWrite (s : State) (a : Nat) (w : Word) : State :=
  let c := (a - 0x1B0000) / 64
  let k := a / 32 % 2
  let v := s.ch c
  if (v.armed ∧ k = v.shadowSet) then s.setCh c { v with busyHit := true }
  else if v.state ≠ 0 ∧ v.active = some k then s
  else s.setWin a (w &&& winMask a)

end Sys2Proof.Machine
end

