-- ==== Sys2Proof/Machine/TwoWire.lean ====
section
/-!
DEFINITION. The TWL controllers and targets (R583-R596): commands, arbitration, bus clears, timing and timeouts.
-/
namespace Sys2Proof.Machine

def State.twlOf (s : State) (n : Nat) : Twl := tabGet (dflt {}) s.twl n
def State.setTwl (s : State) (n : Nat) (v : Twl) : State := { s with twl := tabPut (dflt {}) n v s.twl }

/-- Addresses that no target of the WX16 acknowledges and no command may name (R583, R592). -/
def twlNoAddr (a : Nat) : Bool := a == 0 || (decide (4 ≤ a) && decide (a ≤ 7)) || decide (0x78 ≤ a)

/-- Whether a GO with a command word is refused (R591, R592). -/
def State.twlRefuses (s : State) (n : Nat) (w : Word) : Bool :=
  let p := Pg.TWL n
  !s.blockOn p Fd.TWL_CTL_EN || !s.on p Fd.TWL_CTL_CTRL_EN || s.on p Fd.TWL_STAT_BUSY || s.on p Fd.TWL_STAT_BUS_STUCK ||
  (wf w 8 8 == 0 && wf w 16 8 == 0) || decide ((s.fifoOf (2 * n + 1)).length < wf w 8 8) || twlNoAddr (wf w 0 7)

/-- The running command ends: its transmit bytes leave the FIFO, BUSY clears and DONE sets (R592, R594). -/
def State.twlEnd (s : State) (n : Nat) : State :=
  let p := Pg.TWL n
  match (s.twlOf n).cmd with
  | none => s
  | some w =>
    let s := (s.fifoGet (2 * n + 1) (wf w 8 8)).1
    let s := s.setTwl n { s.twlOf n with cmd := none, rest := [], got := 0, wait := false }
    ((s.setFld p Fd.TWL_STAT_BUSY 0).flag p Fd.TWL_STAT_DONE).irq p 0

/-- A write of CMD: GO starts a command or is refused; ABORT ends the running one (R592, R596). -/
def State.twlCmd (s : State) (n : Nat) (w : Word) : State :=
  let p := Pg.TWL n
  let was := s.on p Fd.TWL_STAT_BUSY
  let s := s.writeReg p Rg.TWL_CMD w
  let s :=
    if wf w 25 1 = 0 then s
    else if s.twlRefuses n w then s.flag p Fd.TWL_STAT_CMD_REFUSED
    else
      let s := s.setTwl n { s.twlOf n with cmd := some w, rest := [], got := 0, wait := false, fresh := false }
      ((s.setFld p Fd.TWL_STAT_BUSY 1).setFld p Fd.TWL_STAT_RETRIES 0).setFld p Fd.TWL_STAT_BUS_BUSY 1
  if wf w 26 1 = 1 ∧ was then (s.twlEnd n).setFld p Fd.TWL_STAT_BUS_BUSY 0 else s

def execTwlGo (o : Owner) (n : Fin 4) (w : Word) (s : State) : Host.Outcome State Fault Refusal :=
  .next (s.guarded o (Pg.TWL n) Rg.TWL_CMD (·.twlCmd n w))

def execTwlAbort (o : Owner) (n : Fin 4) (w : Word) (s : State) : Host.Outcome State Fault Refusal :=
  .next (s.guarded o (Pg.TWL n) Rg.TWL_CMD (·.twlCmd n w))

/-- Bytes received move into the receive FIFO as space allows. -/
def State.twlFill (s : State) (n : Nat) : State :=
  let v := s.twlOf n
  let k := fifoDepth (2 * n) - (s.fifoOf (2 * n)).length
  (s.fifoPut (2 * n) (v.rest.take k)).setTwl n { v with rest := v.rest.drop k }

/-- TWL_CMD_DONE: the bus reports the end of the command, with a NACK or with the bytes read. A command whose last bytes
find no space in the receive FIFO has not ended: the controller holds SCL low (R592 and the note after Table — TWLn.STAT). -/
def State.twlDone (s : State) (n : Nat) (nack : Bool) (data : List Byte) : State :=
  let p := Pg.TWL n
  match (s.twlOf n).cmd with
  | none => s
  | some w =>
    let v := s.twlOf n
    if v.wait then s
    else if nack then
      let s := ((s.flag p Fd.TWL_STAT_NACK).bump p ⟨Rg.TWL_CNT, 8, 8⟩).setFld p Fd.TWL_STAT_BUS_BUSY 0
      s.twlEnd n
    else
      let l := data.take (wf w 16 8 - v.got)
      let s := (s.setTwl n { v with rest := v.rest ++ l, got := v.got + l.length }).twlFill n
      let v := s.twlOf n
      if v.rest.isEmpty && v.got == wf w 16 8 then
        let s := if wf w 24 1 = 1 then s.setFld p Fd.TWL_STAT_BUS_BUSY 0 else s
        s.twlEnd n
      else s

def execTwlCmdDone (n : Fin 4) (nack : Bool) (data : List Byte) (s : State) : Host.Outcome State Fault Refusal :=
  .next (s.twlDone n nack data)

/-- TWL_ARB_LOST: another controller wins a bit of byte `b`; the command waits to be retried (R593, R594). -/
def State.twlLost (s : State) (n b : Nat) : State :=
  let p := Pg.TWL n
  if (s.twlOf n).cmd.isNone ∨ (s.twlOf n).wait then s
  else
    let s := ((s.flag p Fd.TWL_STAT_ARB_LOST).setFld p Fd.TWL_STAT_ARB_BYTE b).bump p ⟨Rg.TWL_CNT, 0, 8⟩
    (s.setTwl n { s.twlOf n with wait := true, rest := [], got := 0 }).irq p 1

def execTwlArbLost (n : Fin 4) (b : Fin 256) (s : State) : Host.Outcome State Fault Refusal := .next (s.twlLost n b)

/-- TWL_RETRY: after a STOP and TBUF the command starts again, or ends once RETRIES would exceed RETRY (R594). -/
def State.twlAgain (s : State) (n : Nat) : State :=
  let p := Pg.TWL n
  if !(s.twlOf n).wait then s
  else
    let r := s.fld p Fd.TWL_STAT_RETRIES
    if s.fld p Fd.TWL_CTL_RETRY < r + 1 then (s.twlEnd n).setFld p Fd.TWL_STAT_BUS_BUSY 0
    else (s.setTwl n { s.twlOf n with wait := false }).setFld p Fd.TWL_STAT_RETRIES (r + 1)

def execTwlRetry (n : Fin 4) (s : State) : Host.Outcome State Fault Refusal := .next (s.twlAgain n)

/-! ### Enable, reset, bus clear, timing -/

/-- The block's engine back to idle with empty FIFOs, ready to clear a stuck bus (R586, R591, R596). -/
def State.twlIdle (s : State) (n : Nat) : State :=
  let p := Pg.TWL n
  let s := (s.setFifo (2 * n) []).setFifo (2 * n + 1) []
  ((s.setTwl n { fresh := true }).setFld p Fd.TWL_STAT_BUSY 0).setFld p Fd.TWL_STAT_BUS_BUSY 0

/-- A write of CTL (R585, R591, R596): RESET resets the block, whose flags clear; a block that becomes enabled samples SDA;
one that is disabled releases the pins. -/
def State.twlCtl (s : State) (n : Nat) (w : Word) : State :=
  let p := Pg.TWL n
  let was := s.on p Fd.TWL_CTL_EN
  let s := s.writeReg p Rg.TWL_CTL w
  let s := if wf w 14 1 = 1 then ((s.twlIdle n).wr p Rg.TWL_STAT 0).errEdge p else s
  let is := s.on p Fd.TWL_CTL_EN
  if is != was then s.twlIdle n else s

def execTwlReset (o : Owner) (n : Fin 4) (w : Word) (s : State) : Host.Outcome State Fault Refusal :=
  .next (s.guarded o (Pg.TWL n) Rg.TWL_CTL (·.twlCtl n w))

/-- TWL_BUS_CLEAR: up to 9 pulses on a bus whose SDA was low; `freed` says whether SDA went high (R591). -/
def State.twlClear (s : State) (n : Nat) (freed : Bool) : State :=
  let p := Pg.TWL n
  if !s.on p Fd.TWL_CTL_EN || !(s.twlOf n).fresh then s
  else
    let s := (s.setTwl n { s.twlOf n with fresh := false }).bump p ⟨Rg.TWL_CNT, 24, 8⟩
    if freed then s else ((s.flag p Fd.TWL_STAT_BUS_STUCK).irq p 3).logErr Er.TWI_STUCK p

def execTwlBusClear (n : Fin 4) (freed : Bool) (s : State) : Host.Outcome State Fault Refusal := .next (s.twlClear n freed)

/-- Whether a timing word holds a field of 0. -/
def zeroTiming (w : Word) : Bool := (List.range 4).any fun i => wf w (8 * i) 8 == 0

/-- TWL_TIMING_WRITE: a write of TIM0 or TIM1 (R585). -/
def State.twlTiming (s : State) (n k : Nat) (w : Word) : State :=
  let p := Pg.TWL n
  if s.on p Fd.TWL_CTL_EN || zeroTiming w then (s.flag p Fd.TWL_STAT_CFG_REFUSED).logErr Er.TWI_CFG p
  else s.wr p (Rg.TWL_TIM0 + 4 * k) w

def execTwlTimingWrite (o : Owner) (n : Fin 4) (k : Fin 2) (w : Word) (s : State) : Host.Outcome State Fault Refusal :=
  .next (s.guarded o (Pg.TWL n) (Rg.TWL_TIM0 + 4 * k) (·.twlTiming n k w))

/-! ### Target and timeout -/

/-- TWL_TARGET_XFER: a transaction addressed to TGT_ADDR: the bytes written to it, or a read of `rd` bytes (R595). -/
def State.twlTarget (s : State) (n : Nat) (data : List Byte) (rd : Nat) : State :=
  let p := Pg.TWL n
  if !s.blockOn p Fd.TWL_CTL_EN || !s.on p Fd.TWL_CTL_TGT_EN || twlNoAddr (s.fld p Fd.TWL_CTL_TGT_ADDR) then s
  else
    let s := (s.flag p Fd.TWL_STAT_TGT_HIT).irq p 4
    if rd = 0 then
      let k := Nat.min data.length (fifoDepth (2 * n) - (s.fifoOf (2 * n)).length)
      let s := s.fifoPut (2 * n) data
      (s.setFld p ⟨Rg.TWL_TGT_STAT, 0, 8⟩ k).setFld p ⟨Rg.TWL_TGT_STAT, 8, 1⟩ 0
    else
      let l := s.fifoOf (2 * n + 1)
      let s := s.setFifo (2 * n + 1) (l.drop rd)
      let s := if l.length < rd then s.setFld p ⟨Rg.TWL_TGT_STAT, 9, 1⟩ 1 else s
      let s := s.emit (.twoWire p (l.take rd ++ List.replicate (rd - l.length) 0xFF))
      (s.setFld p ⟨Rg.TWL_TGT_STAT, 0, 8⟩ (rd % 256)).setFld p ⟨Rg.TWL_TGT_STAT, 8, 1⟩ 1

def execTwlTargetXfer (n : Fin 4) (data : List Byte) (rd : Nat) (s : State) : Host.Outcome State Fault Refusal :=
  .next (s.twlTarget n data rd)

/-- SCL_STRETCH_TIMEOUT: SCL held low for STRETCH_MS; block 0 to 3 is TWLn, 4 is MTWI (R586). -/
def State.sclTimeout (s : State) (b : Nat) : State :=
  if b = 4 then
    let p := Pg.MTWI
    let s := (((s.setFifo 8 []).setFifo 9 []).setFld p Fd.MTWI_STAT_BUSY 0).flag p Fd.MTWI_STAT_TIMEOUT
    ((s.bump p ⟨Rg.MTWI_CNT1, 8, 8⟩).irq p 2).logErr Er.TWI_TIMEOUT p p
  else
    let p := Pg.TWL b
    let s := (s.twlEnd b).twlIdle b
    (((s.flag p Fd.TWL_STAT_TIMEOUT).bump p ⟨Rg.TWL_CNT, 16, 8⟩).irq p 2).logErr Er.TWI_TIMEOUT p p

def execSclStretchTimeout (b : Fin 5) (s : State) : Host.Outcome State Fault Refusal :=
  let on := if b = 4 then s.blockOn Pg.MTWI Fd.MTWI_CTL_EN else s.blockOn (Pg.TWL b) Fd.TWL_CTL_EN
  .next (if on && decide (s.mode ≠ .boot) then s.sclTimeout b else s)

/-- A read of RXDATA: one byte with VALID, 0 from an empty FIFO; bytes that waited for space follow. Answers the data. -/
def State.twlRx (s : State) (n : Nat) : State × Word :=
  match s.fifoOf (2 * n) with
  | [] => (s, 0)
  | b :: t => ((s.setFifo (2 * n) t).twlFill n, BitVec.ofNat 32 (b.toNat + 256))

end Sys2Proof.Machine
end

