-- ==== Sys2Proof/Machine/BlockCode.lean ====
section
/-!
DEFINITION. The fixed-ratio block code (R294-R296, R533-R535): 16 samples of 12 bits in a 64-bit code word.
-/
namespace Sys2Proof.Machine

/-- Δ of a scale code (R295). -/
def frDelta (s : Nat) : Nat := nth 585 [1, 2, 3, 4, 6, 8, 11, 16, 23, 32, 45, 64, 91, 128, 256, 585] s

/-- The code word that means MISSING (R296). -/
def frMissing : Nat := 2 ^ 64 - 1

/-- The 16 samples that a code word decodes to (R295). -/
def frDecode (w : Nat) : List Nat :=
  (List.range 16).map fun i => Nat.min 4095 (nb w 0 12 + nb w (16 + 3 * i) 3 * frDelta (nb w 12 4))

/-- The code word of 16 samples, in the order 4r + c, and its coding error (R533, R534). -/
def frEncode (v : List Nat) : Nat × Nat :=
  let hi := maxN v
  let lo := v.foldl Nat.min 4095
  let s := ((List.range 16).find? fun s => decide (hi - lo ≤ 7 * frDelta s)).getD 15
  let d := frDelta s
  let idx := v.map fun x => Nat.min 7 ((2 * (x - lo) + d) / (2 * d))
  let e := maxN (List.zipWith (fun x i =>
    let y := Nat.min 4095 (lo + i * d)
    if x ≤ y then y - x else x - y) v idx)
  (lo + 4096 * s + sumN (idx.zipIdx.map fun (p : Nat × Nat) => p.1 * 2 ^ (16 + 3 * p.2)), e)

/-- The code word of 16 samples of which one may be missing (R535). -/
def frEncodeOpt (v : List (Option Nat)) : Nat × Nat :=
  if v.all (·.isSome) then frEncode (v.map fun x => x.getD 0) else (frMissing, 0)

end Sys2Proof.Machine
end

