-- ==== Sys2Proof/Machine/Streams.lean ====
section
/-!
DEFINITION. Decimation (R407-R422): the streams' filters, grids and resets, as what happens to a stream when a line of its source
arrives. The stitcher and the pipelines feed them; delivery stands with the network.
-/
namespace Sys2Proof.Machine

/-- Whether a stream forms outputs (R429, R430). -/
def State.strLive (s : State) (n : Nat) : Bool :=
  s.on Pg.DEC Fd.HDR_PAGE_CTL_EN && wf (s.rdView Pg.DEC Rg.DEC_CTL (s.strView n)) 0 1 == 1 &&
  s.blockOn Pg.STR Fd.STR_CTL_EN && s.on Pg.STR (Fd.STR_S_CTL_EN n)

/-- Whether a stream that forms outputs takes the lines of a source by its descriptor in force (R428). -/
def State.strTakes (s : State) (n kind src : Nat) : Bool := s.strLive n && s.strD n 0 2 == kind && s.strD n 2 4 == src

/-! ### Filters (R411, R413) -/

/-- The convolution of two tap lists. -/
def convN (a b : List Nat) : List Nat :=
  (List.range (a.length + b.length - 1)).map fun k =>
    sumN ((List.range (k + 1)).map fun i => nth 0 a i * nth 0 b (k - i))

/-- The filter h of FILT and D (R413). -/
def filterOf (filt d : Nat) : List Nat :=
  if d = 1 then [1]
  else if filt = 0 then
    let b := List.replicate d 1
    convN (convN b b) (convN b b)
  else (List.range (2 * d)).map fun t => 2 * d - t

/-- The group delay rounded to whole lines (R423). -/
def filterDelay (filt code : Nat) : Nat :=
  if filt = 0 then 2 * (2 ^ code - 1) else nth 0 [0, 1, 2, 5, 10, 21, 42] code

/-- One output column of a plane across the web (R411); none where a sample it uses is missing. -/
def Grid.acrossCol (g : Grid) (x : List Px) (m : Nat) : Option Nat :=
  let iw := x.length
  let p := g.d 160 16 + m * g.d 128 20
  let i := p / 65536
  let ph := p / 1024 % 64
  let at_ (t : Nat) : Px := nth Px.miss x (Nat.min (iw - 1) (i + t - 3))
  let used := (List.range 8).filter fun t => g.k ph t ≠ 0
  if used.any fun t => match at_ t with | .val _ => false | _ => true then none
  else some (clamp12 (rshr (sumI (used.map fun t => g.k ph t * (match at_ t with | .val v => (v : Int) | _ => 0))) 12))

/-- A source line cropped and scaled for a grid (R409, R411, R416). -/
def Grid.across (g : Grid) (line : Nat) (gap bad : Bool) (planes : List (List Px)) : SLine :=
  let crop := g.planes.map fun p => ((nth [] planes p).drop (g.d 32 19)).take (g.d 64 19)
  if gap ∨ bad then ⟨line, gap, bad, []⟩
  else if crop.any fun l => l.contains Px.bad then ⟨line, false, true, []⟩
  else ⟨line, false, false, crop.map fun l => (List.range g.ow).map fun m => g.acrossCol l m⟩

/-! ### Outputs (R412-R416, R423) -/

/-- The line that stands for line `k` in a stream's filters: lines below L0 are copies of line L0 (R414). -/
def sourceLine (l : List SLine) (l0 k : Nat) : SLine :=
  (l.find? fun x => x.n == Nat.max l0 k).getD ⟨k, true, false, []⟩

/-- A weighted mean over lines for column `m` of selected plane `p`: none where a sample it uses is missing, 0 where every
weight is 0 (R412, R416). -/
def meanOf (ls : List (Nat × SLine)) (p m : Nat) : Option Nat :=
  let use := ls.filter fun e => e.1 ≠ 0 && !e.2.gap && !e.2.bad
  let v := use.map fun e => (nth none (nth [] e.2.cols p) m).map (e.1 * ·)
  if v.any (·.isNone) then none
  else
    let w := sumN (use.map (·.1))
    if w = 0 then some 0 else some (rdiv (sumN (v.map fun x => x.getD 0) : Nat) w).toNat

/-- The bytes of a value in a stream's format; the value bits of a missing sample in the 16-bit format are free (R423). -/
def sampleBytes (form : Nat) (free : Nat) (v : Option Nat) : List Byte :=
  match v with
  | some x => if form = 0 then leBytes 2 x else [BitVec.ofNat 8 ((clampI 0 4095 x).toNat / 16)]
  | none => if form = 0 then leBytes 2 (0x8000 + Config.freeNat free % 4096) else [0]

/-- The next output of a grid formed, its newest line just received (R412-R416, R423). -/
def State.formOut (s : State) (n : Nat) (g : Grid) : State :=
  let d := g.step
  let filt := g.d 12 1
  let form := g.d 13 1
  let last := g.l0 + (g.j + 1) * d - 1
  let h := filterOf filt d
  let src := h.zipIdx.map fun (e : Nat × Nat) => (e.1, sourceLine g.lines g.l0 (last - e.2))
  let unsettled := decide (last + 1 < g.l0 + h.length)
  let coarse := unsettled && decide (16 ≤ d)
  let box := if coarse then (List.range d).map fun t => (1, sourceLine g.lines g.l0 (last - t)) else []
  let dead (l : List (Nat × SLine)) : Bool := l.all fun e => e.2.gap || e.2.bad
  let isGap := dead src || (coarse && dead box)
  let np := g.planes.length
  let vals (l : List (Nat × SLine)) : List (Option Nat) :=
    (List.range np).flatMap fun p => (List.range g.ow).map fun m => if isGap then some 0 else meanOf l p m
  let body := (if coarse then vals box else []) ++ vals src
  let v := if g.d 0 2 = 1 then s.fld Pg.STI (Fd.STI_PORT_CTL_VIEW (g.d 2 4)) else g.d 2 4
  let delay := filterDelay filt (g.d 9 3)
  let c := last - delay
  let setup := s.mode == .setup
  let rep := if setup then 0 else s.repOf v c
  let y := if setup ∨ rep = 0 then 0 else s.yOf v c
  let job := match s.jobOf (s.copyAt v c) with | some j => j.id | none => 0
  let header := n + 2 ^ 8 * b2n unsettled + 2 ^ 9 * b2n coarse + 2 ^ 10 * b2n (src.any (·.2.gap)) +
    2 ^ 11 * b2n ((src ++ box).any (·.2.bad)) + 2 ^ 12 * b2n isGap +
    2 ^ 13 * b2n (body.any (·.isNone)) + 2 ^ 14 * b2n g.restart + 2 ^ 16 * g.d 6 3 + 2 ^ 19 * form +
    2 ^ 20 * g.d 9 3 + 2 ^ 23 * filt + 2 ^ 64 * (last % 2 ^ 48) + 2 ^ 128 * rep + 2 ^ 160 * (y % 2 ^ 40) + 2 ^ 200 * job
  let bytes := leBytes 32 header ++ body.zipIdx.flatMap fun (e : Option Nat × Nat) => sampleBytes form (s.free + e.2) e.1
  let full := 32 + (if 16 ≤ d then 2 else 1) * g.ow * np * (if form = 0 then 2 else 1)
  let o : SOut := ⟨!unsettled, bytes, g.d 14 2, g.d 192 64, g.d 256 24, 64 * ((full + 63) / 64), g.d 22 10⟩
  let x := s.str_ n
  (s.putStr n { x with outs := x.outs ++ [o] }).drawnN body.length

/-! ### Resets (R417-R422) -/

/-- A reset of a stream under its descriptor in force: it takes effect at line `g` and starts a grid at `l0`; an earlier one whose L0 has
not been reached by then is replaced, and nothing is delivered under it (R421). -/
def State.askReset (s : State) (n g l0 : Nat) (origin : Bool) : State :=
  let x := s.str_ n
  s.putStr n { x with grids := (x.grids.filter fun r => decide (r.l0 ≤ g)) ++ [{ g := g, l0 := l0, origin := origin, desc := s.strDesc n }] }

/-- G_v, the grid origin of a view (R417). -/
def State.origin (s : State) (v : Nat) : Nat := tabGet (dflt 0) s.dec.origin v

/-- The grid origin of a view set to a line, with a reset of its streams at L0 = G + PHASE (R417). -/
def State.setOrigin (s : State) (v g : Nat) : State :=
  let s := { s with dec := { s.dec with origin := tabPut (dflt 0) v g s.dec.origin } }
  (s.strsOf v).foldl (fun s n => s.askReset n g (g + s.strD n 16 6) true) s

/-- A view start at line `g` (R417): the origin, the streams and the DEC_SYNC event. -/
def State.viewStart (s : State) (v g : Nat) : State :=
  (s.setOrigin v g).raiseLine evDecSync v g (s.lineTime v g)

/-- A sync reaches its anchor line in a view (R417, R421). -/
def State.syncAt (s : State) (v line : Nat) (lowest : Bool) : State :=
  if s.origin v = line then (if lowest then s.bump Pg.DEC Fd.DEC_CNT0_b16 else s)
  else
    let s := s.setOrigin v line
    if lowest then s.raiseLine evDecSync v line (s.lineTime v line) else s

/-- A sync (R417): in every running view it takes effect at its anchor line, at once where that line has been triggered. -/
def State.sync (s : State) (st : Stamp) : State :=
  let s := (s.bump Pg.DEC Fd.DEC_CNT0_b0).flag Pg.DEC Fd.DEC_STAT_SYNC_SEEN
  let s := s.wr64 Pg.DEC Rg.DEC_SYNC_TIME_LO Rg.DEC_SYNC_TIME_HI st.time
  let vs := (List.range 4).filter fun v => (tabGet (dflt {}) s.tg v).running
  vs.zipIdx.foldl (fun (s : State) (e : Nat × Nat) => match s.anchorOf st e.1 with
    | some n => s.syncAt e.1 n (e.2 == 0)
    | none => { s with dec := { s.dec with syncs := s.dec.syncs ++ [⟨e.1, st, e.2 == 0⟩] } }) s

/-- The syncs whose anchor in a view is a line just triggered or skipped (R59, R417, R421, R470). -/
def State.anchorSyncs (s : State) (v line : Nat) : State :=
  let due (w : SyncWait) : Bool := w.view == v && s.anchored w.stamp v line
  let now := s.dec.syncs.filter due
  let s := { s with dec := { s.dec with syncs := s.dec.syncs.filter fun w => !due w } }
  now.foldl (fun s w => s.syncAt v line w.lowest) s

/-- The boundary of a stream under R418 taken at a line: its commit takes effect. Where the descriptor changes, the stream is enabled or a
RESTART is asked for, its grid starts anew at the smallest line of the view's grid at or above the boundary; a reset of R417 whose L0 is
that line absorbs it and takes the new descriptor, with L0 = G_v + PHASE where that line is still to come (R421; log entry 71). -/
def State.streamBoundary (s : State) (n b : Nat) : State :=
  let was := s.on Pg.STR (Fd.STR_S_CTL_EN n)
  let old := s.strDesc n
  let ask := (s.str_ n).ask
  let s := s.takeStream n (some b)
  let new := s.strDesc n
  if !s.on Pg.STR (Fd.STR_S_CTL_EN n) then s.stopGrids n
  else if was && !ask && new == old then s
  else
    let x := s.str_ n
    let g := s.origin (s.strView n) + s.strD n 16 6
    let d := s.strStep n
    let l0 := if b ≤ g then g else g + (b - g + d - 1) / d * d
    if x.grids.any fun r => r.origin && r.l0 == b && !r.begun then
      s.putStr n { x with grids := x.grids.map fun r => if r.origin && r.l0 == b && !r.begun then { r with l0 := l0, desc := new } else r }
    else s.askReset n b l0 false

/-- Whether a line of a source brings a stream's awaited boundary (R418): a stream that runs takes it from its own source. -/
def State.wantDue (s : State) (n kind src v line : Nat) : Bool :=
  match (s.str_ n).want with
  | none => false
  | some (w, k, rep) => w == v && decide (k ≤ line) && (!rep || s.repeatStartAt v line) &&
    (!s.on Pg.STR (Fd.STR_S_CTL_EN n) || (s.strD n 0 2 == kind && s.strD n 2 4 == src))

/-- L0 of a grid reached by a line of its source (R420). -/
def State.beginGrid (s : State) (n : Nat) (x : Grid) : State × Grid :=
  if x.begun then (s, x)
  else (s.bump Pg.STR (Fd.STR_S_STAT_RESETS n), { x with begun := true })

/-- A line of its source reaches a grid of a stream: below L0 it is not of the grid, and from the L0 of the next grid on this one is over,
its output in progress discarded (R420). A line that a stream has not taken, as one that its source delivered before the reset came about,
counts as a gap line in the filters (DEDUCED, log entry 98). -/
def State.gridLine (s : State) (n : Nat) (cap : Option Nat) (line : Nat) (gap bad : Bool) (planes : List (List Px)) (x : Grid) :
    State × Option Grid :=
  if match cap with | some c => decide (c ≤ line) | none => false then (s.discardPartial x, none)
  else if line < x.l0 then (s, some x)
  else
    let (s, x) := s.beginGrid n x
    let x := { x with j := (line - x.l0) / x.step, lines := (x.across line gap bad planes :: x.lines).take (4 * x.step) }
    if line + 1 = x.l0 + (x.j + 1) * x.step then (s.formOut n x, some { x with j := x.j + 1, restart := false }) else (s, some x)

/-- A line of a source reaches the grids of a stream that take it, oldest first. -/
def State.gridsLine (s : State) (n kind src line : Nat) (gap bad : Bool) (planes : List (List Px)) : List Grid → State × List Grid
  | [] => (s, [])
  | x :: t =>
    let (s, y) := if x.takes kind src then s.gridLine n (t.head?.map (·.l0)) line gap bad planes x else (s, some x)
    let (s, t) := s.gridsLine n kind src line gap bad planes t
    (s, y.toList ++ t)

/-- A line of a source reaches a stream. -/
def State.streamLine (s : State) (n kind src line : Nat) (gap bad : Bool) (planes : List (List Px)) : State :=
  let s := if s.strTakes n kind src then
      (s.putStr n { s.str_ n with running := true }).setFld Pg.STR (Fd.STR_S_STAT_RUNNING n) 1
    else s
  let (s, l) := s.gridsLine n kind src line gap bad planes (s.str_ n).grids
  s.putStr n { s.str_ n with grids := l }

/-- A line of a source, kind 0 a view or 1 a port, reaches every stream that takes it (R408); DEC runs in no mode below SETUP nor in HOLD (Table — Blocks
active by mode). -/
def State.feedStreams (s : State) (kind src line : Nat) (gap bad : Bool) (planes : List (List Px)) : State :=
  let v := if kind = 0 then src else s.fld Pg.STI (Fd.STI_PORT_CTL_VIEW src)
  if s.mode = .boot ∨ s.mode = .idle ∨ s.mode = .hold then s else
  (List.range 7).foldl (fun s n =>
    let s := if s.wantDue n kind src v line then s.streamBoundary n line else s
    if s.strLive n then s.streamLine n kind src line gap bad planes else s) s

end Sys2Proof.Machine
end

