-- ==== Sys2Proof/Machine/Changeover.lean ====
section
/-!
DEFINITION. A view's changeover line at intake (R80-R92): the next context from that line on, dropped commits (R88), registration
(R283, R285), pending flips (R308) and the streams' view start (R417).
-/
namespace Sys2Proof.Machine

def State.mstV (s : State) (v : Nat) : MstView := tabGet (dflt {}) s.mst v
def State.putMst (s : State) (v : Nat) (x : MstView) : State := { s with mst := tabPut (dflt {}) v x s.mst }

/-- The line-anchored parts of a job-scoped page's pending commit discarded (R88). -/
def State.dropCommit (s : State) (p : Nat) : State :=
  match s.pend p with
  | none => s
  | some c =>
    let keep (x : Part) : Bool := match x.bound with | .job _ => true | _ => false
    if c.parts.all keep then s
    else
      let rest := c.parts.filter keep
      let s := (s.logErr Er.COMMIT_DROPPED p).setFld p Fd.HDR_COMMIT_DROPPED 1
      s.setPend p (if rest.isEmpty then none else some { c with parts := rest })

/-! ### Register values of the new job (R84, R205) -/

/-- The view at whose changeover line a job-scoped register takes its new value `w`, none for one of all views (R292, R205). A PORTp_CTL
belongs to the port's view in the old job, else to its view in the new one (DESIGN CHOICE, log entry 76). -/
def State.regView (s : State) (a : Nat) (w : Word) : Option Nat :=
  let o := a % 4096
  let own (old : Word) : Option Nat :=
    if wf old 0 1 = 1 ∧ s.enables .active (wf old 1 2) then some (wf old 1 2)
    else if wf w 0 1 = 1 ∧ s.enables .next (wf w 1 2) then some (wf w 1 2) else none
  if a / 4096 = Pg.STI then
    if Rg.STI_VIEW_CTL 0 ≤ o ∧ o < Rg.STI_VIEW_CTL 4 then some ((o - Rg.STI_VIEW_CTL 0) / 4)
    else if Rg.STI_PORT_CTL 0 ≤ o ∧ o < Rg.STI_PORT_CTL 16 then own (s.rd Pg.STI o)
    else none
  else if a / 4096 = Pg.REG ∧ 0x48 ≤ o ∧ o < 0x98 then some ((o - 0x48) / 0x14)
  else none

/-- Values of job-scoped registers in force, in the shadow copies as well. -/
def State.takeVals (s : State) (l : List (Nat × Word)) : State :=
  l.foldl (fun s e => (s.putRegs [e]).wrShadow (e.1 / 4096) (e.1 % 4096)
    (mergeRws e.1 (s.rdShadow (e.1 / 4096) (e.1 % 4096)) e.2)) s

/-- The values of JOB_REGS that wait for a stage of a page to reach a view's changeover line. -/
def State.waitVals (s : State) (v : Nat) (first : Bool) : State :=
  let l := (s.jobRegs .next).filter fun e => match s.regView e.1 e.2 with | some w => w == v | none => first
  { s with jobVals := s.jobVals ++ l.map fun e => (v, e.1, e.2) }

/-- Line `n` of a view enters the first stage of a page's block: what waits for it takes effect (R15, R84, R666). What a new job
brings to a page whose registers serve every view stays apart until the changeover ends (`State.jobRd`). -/
def State.stageLine (s : State) (p v n : Nat) : State :=
  let x := s.view_ v
  let past := (p == Pg.STI || p == Pg.REG || p == Pg.DEC || p == Pg.STR || (decide (Pg.PP 0 ≤ p) && decide (p < Pg.PP 8))) && x.past && (match x.chg with | some c => decide (c ≤ n) | none => false)
  let mine (e : Nat × Nat × Word) : Bool := past && e.1 == v && e.2.1 / 4096 == p
  let now := (s.jobVals.filter mine).map (·.2)
  let s := if now.isEmpty then s else { s.takeVals now with jobVals := s.jobVals.filter fun e => !mine e }
  let s := s.boundary p v n (s.repOf v n) past
  { s with entered := tabPut (dflt 0) (4 * p + v) (n + 1) s.entered }

/-! ### The changeover line -/

/-- FINE_EN and FINE_PLANE of a view from its changeover line on (R285, R287). -/
def State.fineNew (s : State) (v : Nat) : Nat := wf (s.newReg v Pg.REG (Rg.REG_VIEW_CTL v)) 1 3

/-- Registration of a view acquired anew from line `c`, with ENC_EN as it is from there on (R283). -/
def State.acquire (s : State) (v c : Nat) (enc : Bool) (cp : Copy) : State :=
  let x := s.view_ v
  let zc : Int := if enc then (s.frameAt v c).zc else c * s.pitchY cp v
  let s := s.setView v { x with
    c := 0, bad := 0, acqN := 0, updR := 1, wins := [], await := if enc then some c else none
    frames := { line := c, zc := zc, count := false, fine := s.fineNew v } :: x.frames }
  let s := match enc, x.wraps.reverse.find? fun w => decide (c ≤ w.1) with
    | true, some w => s.regWrap v w.1 w.2
    | _, _ => s
  let g := Pg.REG
  let lock := s.on g (Fd.REG_VIEW_STATE_LOCK v)
  let s := (s.wr g (Rg.REG_VIEW_STATE v) 2).wr g (Rg.REG_VIEW_CORR_Y v) 0
  let s := s.wr g (Rg.REG_VIEW_CORR_X v) 0
  if lock then s.raiseLine (evRegLock v) v c (s.lineTime v c) else s

/-- Registration of a view carried over a REPEAT changeover at line `c` after `last` repeats (R285). -/
def State.carry (s : State) (v c last : Nat) : State :=
  let x := s.view_ v
  let f := s.frameAt v c
  s.setView v { x with
    updR := x.updR - last
    frames := { f with line := c, zc := f.zc + last * s.repeatLen .active, fine := s.fineNew v } :: x.frames }

/-- Pending flips of a view at or past its changeover line or its end do not take place (R308): those for repeats after the
one that line `c` - 1 belongs to. -/
def State.cancelFlips (s : State) (v c : Nat) : State :=
  let r := s.repOf v (c - 1)
  let x := s.mstV v
  s.putMst v { x with flips := x.flips.filter fun f => decide (f.rep ≤ r) }

/-- The lowest view that a copy's job enables. -/
def State.lowView (s : State) (c : Copy) : Nat := ((List.range 4).find? fun v => s.enables c v).getD 0

/-- The changeover line of a job's lowest enabled view: the JOB_START event, and the line that its JOB_START record names (R375). -/
def State.startJobAt (s : State) (cp : Copy) (v c t : Nat) : State :=
  let s := match cp with
    | .active => { s with resA := { s.resA with startAt := some (c, t) } }
    | .next => { s with resN := { s.resN with startAt := some (c, t) } }
  s.raiseLine evJobStart v c t

/-- Commits of blocks that belong to no job, as a view's changeover line enters intake: those of the blocks up to intake for the next
job take effect at it, those of the pipelines once it reaches them (`State.stageLine`), and those for the next repeat wait for the first
repeat of the new job where no earlier repeat starts before the changeover line. -/
def State.chgParts (s : State) (v c : Nat) : State :=
  let s := (Pg.POS :: Pg.DLR :: (List.range 16).map Pg.CP).foldl
    (fun (s : State) p => s.applyParts p (fun b => b == .job v) (some c)) s
  pageList.foldl (fun (s : State) p => match s.pend p with
    | some q => if jobPages.contains p then s else
        { s with commits := tabPut (dflt none) p (some { q with parts := q.parts.map fun x => match x.bound with
          | .repeatStart w q => if w = v then { x with bound := .repeatOver v q c } else x
          | _ => x }) s.commits }
    | none => s) s

/-- The changeover has begun before a requested end of the job has reached its boundary in any view: the request is dropped (DESIGN CHOICE,
log entry 62). -/
def State.dropEnd (s : State) : State :=
  (List.range 4).foldl (fun (s : State) v => s.setView v { s.view_ v with endAt := none, endRep := none })
    (s.setFld Pg.SYS Fd.SYS_MODE_REQ_PENDING 0)

/-- A view's changeover line enters intake (R84): from IDLE (`start`), or out of a running job. -/
def State.changeoverLine (s : State) (v c : Nat) (start : Bool) : State :=
  let s := s.chgParts v c
  let s := s.setView v (if start then { s.view_ v with part := some c, begun := true } else { s.view_ v with begun := true, chg := some c, past := true })
  let s := s.wr64 Pg.SYS (Rg.SYS_CHG_LINE_LO v) (Rg.SYS_CHG_LINE_HI v) (c % 2 ^ 48)
  let cp := if start then Copy.active else Copy.next
  let t := s.lineTime v c
  if start then
    let s := s.acquire v c (s.on Pg.REG (Fd.REG_VIEW_CTL_ENC_EN v)) cp
    let s := (s.setView v { s.view_ v with start := c }).viewStart v c
    (if v = s.lowView cp then s.startJobAt cp v c t else s).runRecord
  else
    let first := s.mode != .changeover
    let s := if first then (s.dropEnd.enter .changeover).setFld Pg.SYS Fd.SYS_CHG_CTL_STATE 2 else s
    let s := if first then jobPages.foldl (fun s p => s.dropCommit p) s else s
    let s := s.waitVals v first
    let s := s.cancelFlips v c
    if !s.enables cp v then
      ((s.setView v { s.view_ v with left := true, run := false }).stopAt v c pageList).runRecord
    else
      let entering := !s.enables .active v
      let repeat_ := s.fld Pg.SYS Fd.SYS_CHG_CTL_TRIGGER == 0 && !entering
      let s := if repeat_ then s.carry v c (s.rd Pg.SYS Rg.SYS_CHG_LAST_REPEAT).toNat
        else s.acquire v c (wf (s.nextVal Pg.REG (Rg.REG_VIEW_CTL v)) 0 1 == 1) cp
      let s := if entering then s.setView v { s.view_ v with start := c } else s
      let s := s.viewStart v c
      (if v = s.lowView cp then s.startJobAt cp v c t else s).runRecord

/-- Whether line `n` of a view has to wait for the changeover lines that an accepted CHANGEOVER occurrence fixes (R81, R470). -/
def State.chgWait (s : State) (v n : Nat) : Bool :=
  s.evf.data.any fun o => o.task == taskChangeover && s.anchored o.stamp v n

/-- Line `n` of a view enters intake: the first line of the running job's part in the view (R67), then its changeover line, if they are
due. -/
def State.enterLine (s : State) (v n : Nat) : State :=
  let x := s.view_ v
  let s := match x.begun, x.part with
    | false, some c => if c ≤ n then s.changeoverLine v c true else s
    | _, _ => s
  match s.chgDue v n with
  | none => s
  | some c => s.changeoverLine v c false

end Sys2Proof.Machine
end

