-- ==== Sys2Proof/Machine/RegLines.lean ====
section
/-!
DEFINITION. The repeats that registration works on, its windows and its update lines (R276, R279, R280).
-/
namespace Sys2Proof.Machine

/-! ### Repeats and update lines (R276, R279) -/

/-- Whether registration runs in a view: a job that enables the view, from its changeover line on, with Zc set (R283). -/
def State.regRuns (s : State) (v : Nat) : Bool :=
  let x := s.view_ v
  s.mode.job && s.on Pg.REG Fd.HDR_PAGE_CTL_EN && x.await.isNone && !x.left && !x.frames.isEmpty

/-- The copy of the job that a frame repeat belongs to: repeats carried over a changeover are the old job's. -/
def State.repCopy (s : State) (v : Nat) (r : Int) : Copy :=
  if r ≤ 0 then .active else s.copyAt v (((s.view_ v).frames.map (·.line)).headD 0)

/-- A field of a registration window entry (Table — Registration window entry). -/
def State.winF (s : State) (c : Copy) (v w lo len : Nat) : Nat := s.stitch c (0x800 + v * 0x400 + w * 0x10) lo len

/-- The enabled windows of a view. -/
def State.winsOn (s : State) (c : Copy) (v : Nat) : List Nat := (List.range 64).filter fun w => s.winF c v w 63 1 == 1

/-- SR of a window: its own, or SR_ACQ while the view is acquiring (R280). -/
def State.winSr (s : State) (c : Copy) (v w : Nat) : Nat :=
  if (((s.view_ v).frames.map (·.acq)).headD true) then s.fld Pg.REG (Fd.REG_VIEW_CTL_SR_ACQ v) else s.winF c v w 56 4

/-- Ymax (R279). -/
def State.yMax (s : State) (c : Copy) (v : Nat) : Nat :=
  maxN ((s.winsOn c v).map fun w => s.winF c v w 32 24 + s.winF c v w 24 6 + 1 + s.winSr c v w)

/-- The value congruent to `z` modulo `len` that is nearest to `near`. -/
def nearZ (near z : Int) (len : Nat) : Int := z + rdiv (near - z) (Nat.max 1 len) * len

/-- The first line at which A(n) reaches `t` (R276), through the offsets that held before: `near` is the present one. -/
def firstAt (py len : Nat) (near t : Int) : List Frame → Nat → Nat
  | [], hi => hi
  | f :: l, hi =>
    let z := nearZ near f.zc len
    let n := Nat.max f.line ((z + t + py - 1) / (Nat.max 1 py : Nat)).toNat
    if n < hi then (if f.line < n then n else firstAt py len near t l n) else hi

/-- The first line of frame repeat `r` at or past which y reaches `y`. -/
def State.repLine (s : State) (v : Nat) (r : Int) (y : Nat) : Nat :=
  let c := s.repCopy v r
  let fs := (s.view_ v).frames
  let near := (fs.map (·.zc)).headD 0
  let t := (r - 1) * s.repeatLen c + y
  let top := ((near + t).toNat + s.pitchY c v) / Nat.max 1 (s.pitchY c v) + 1
  firstAt (s.pitchY c v) (s.repeatLen c) near t fs (Nat.max top ((fs.map (·.line)).headD 0 + 1))

/-- U(R) (R279). -/
def State.updLine (s : State) (v : Nat) (r : Int) : Nat :=
  let c := s.repCopy v r
  (s.repLine v r (8 * s.pitchY c v * s.yMax c v) + 256 + 63) / 64 * 64

/-- Whether line `n` of a view waits for the update that comes before it (R281, R282, R310). -/
def State.updWait (s : State) (v n : Nat) : Bool := s.regRuns v && decide (s.updLine v (s.view_ v).updR ≤ n)

end Sys2Proof.Machine
end

