-- ==== Sys2Proof/Machine/MstOps.lean ====
section
/-!
DEFINITION. Masters (R293-R336) as operations: where a master lies, its header, blocks and coarse master, capture into the learn
store, learning, flips and what is in force at a line.
-/
namespace Sys2Proof.Machine

/-! ### Where a master lies (R293, R301-R304, R309) -/

/-- A quotient rounded up. -/
def cdiv (a b : Nat) : Nat := (a + b - 1) / b

/-- A number rounded up to a multiple of 4,096. -/
def r4k (a : Nat) : Nat := cdiv a 4096 * 4096

/-- A view's master: its section and its measures (R293). -/
structure Geo where
  addr : Nat
  len  : Nat
  mw   : Nat
  mr   : Nat
  p    : Nat
deriving DecidableEq, Repr

def Geo.fs (g : Geo) : Nat := 64 * cdiv (72 * cdiv g.mw 32) 64
def Geo.cs (g : Geo) : Nat := 64 * cdiv (4 * cdiv g.mw 8) 64
def Geo.ls (g : Geo) : Nat := 64 * cdiv (8 * cdiv g.mw 4) 64
def Geo.fine (g : Geo) : Nat := cdiv g.mr 4 * g.p * g.fs
def Geo.coarseOfs (g : Geo) : Nat := r4k g.fine
def Geo.coarse (g : Geo) : Nat := cdiv g.mr 8 * g.p * g.cs
def Geo.crcOfs (g : Geo) : Nat := g.coarseOfs + r4k g.coarse
def Geo.slotSize (g : Geo) : Nat := g.crcOfs + r4k (4 * (g.crcOfs / 4096))
def Geo.lsSize (g : Geo) : Nat := r4k (g.ls * g.p * cdiv g.mr 4)
def Geo.slot (g : Geo) (k : Nat) : Nat := g.addr + 4096 + k * g.slotSize

/-- The master of view `v` of a copy's job; none without a MASTER section. -/
def State.geo (s : State) (c : Copy) (v : Nat) : Option Geo :=
  match s.jobOf c with
  | none => none
  | some j => (j.sect (sectMaster v)).map fun e =>
    ⟨e.1, e.2.1, s.vWidth c v, cdiv (s.repeatLen c) (Nat.max 1 (s.pitchY c v)), s.vPlanes c v⟩

/-! ### The header (R301) -/

/-- A field of a master header. -/
def State.mh (s : State) (g : Geo) (lo len : Nat) : Nat := nb (s.dramNat g.addr 64) lo len

/-- The CRC of a MASTER section in its job's section table made that of its first 4,096 bytes (R301). -/
def State.fixCrc (s : State) (base count v : Nat) (g : Geo) : State :=
  match (List.range (Nat.min count 4096)).find? fun i => s.dramNat (base + 32 * i) 2 == sectMaster v with
  | none => s
  | some i => s.dramPut (base + 32 * i + 12) (leBytes 4 (crc32c (s.dram g.addr 4096)))

/-- Fields of a master header written: lowest bit, width, value. -/
def State.setMh (s : State) (base count v : Nat) (g : Geo) (l : List (Nat × Nat × Nat)) : State :=
  let x := l.foldl (fun x e => nbSet x e.1 e.2.1 e.2.2) (s.dramNat g.addr 64)
  (s.dramPut g.addr (leBytes 64 x)).fixCrc base count v g

/-- CUR, and the KIND of a slot. -/
def State.mCur (s : State) (g : Geo) : Nat := s.mh g 4 1
def State.mKind (s : State) (g : Geo) (k : Nat) : Nat := s.mh g (2 * k) 2

/-- The header fields of a running job's view written; the directory's MASTER_VALID follows the current slot (R301). -/
def State.runMh (s : State) (c : Copy) (v : Nat) (g : Geo) (l : List (Nat × Nat × Nat)) : State :=
  match s.jobOf c with
  | none => s
  | some j =>
    let s := s.setMh j.sectBase j.sectCount v g l
    s.setDir j.id (8 + v) 1 (b2n (s.mKind g (s.mCur g) == 2))

/-! ### Blocks (R294-R299, R302, R303) -/

/-- The offset in a slot of the group of a block (R302). -/
def Geo.group (g : Geo) (bx by_ p : Nat) : Nat := (g.p * by_ + p) * g.fs + 72 * (bx / 8)

/-- A block of a slot as MST fetches it: code word and T8, none after an uncorrected read (R300). -/
def State.block (s : State) (g : Geo) (k bx by_ p : Nat) : Option (Nat × Nat) :=
  let a := g.slot k + g.group bx by_ p
  if s.dramBad (a + 8 * (bx % 8)) 8 || s.dramBad (a + 64 + bx % 8) 1 then none
  else some (s.dramNat (a + 8 * (bx % 8)) 8, s.dramNat (a + 64 + bx % 8) 1)

/-- A block written into a slot. -/
def State.putBlock (s : State) (g : Geo) (k bx by_ p code t8 : Nat) : State :=
  let a := g.slot k + g.group bx by_ p
  (s.dramPut (a + 8 * (bx % 8)) (leBytes 8 code)).dramPut (a + 64 + bx % 8) (leBytes 1 t8)

/-- A row and a column as R299 reads them. -/
def Geo.row (g : Geo) (i : Int) : Nat := (i % (Nat.max 1 g.mr : Nat)).toNat
def Geo.col (g : Geo) (k : Int) : Nat := (clampI 0 ((g.mw : Int) - 1) k).toNat

/-- A coarse row as R299 reads it. -/
def Geo.coarseRow (g : Geo) (i : Int) : Nat := (i % (Nat.max 1 (cdiv g.mr 8) : Nat)).toNat

/-- Whether a block row lies behind master row `row` for the lines to come, by less than half of a repeat. -/
def Geo.behind (g : Geo) (row : Int) (by_ : Nat) : Bool :=
  let d := ((row - (4 * by_ + 3 : Nat)) % (Nat.max 1 g.mr : Nat)).toNat
  decide (16 < d) && decide (2 * d < g.mr)

/-- Sample (r, c) of a code word (R294, R295). -/
def codeSample (w r c : Nat) : Nat := Nat.min 4095 (nb w 0 12 + nb w (16 + 12 * r + 3 * c) 3 * frDelta (nb w 12 4))

/-- A coarse entry: VALUE and T8 (R303), at coarse scale outside the master as R299 states; none after an uncorrected read. -/
def State.coarseAt (s : State) (g : Geo) (k : Nat) (j i : Int) (p : Nat) : Option (Nat × Nat) :=
  let jj := (clampI 0 ((cdiv g.mw 8 : Int) - 1) j).toNat
  let a := g.slot k + g.coarseOfs + (g.p * g.coarseRow i + p) * g.cs + 4 * jj
  if s.dramBad a 4 then none
  else
    let w := s.dramNat a 4
    some (nb w 0 12, nb w 16 8)

/-- A coarse entry formed from the fine blocks that a reader gives (R298). -/
def coarseOf (g : Geo) (blk : Nat → Nat → Nat × Nat) (j k : Nat) : Nat × Nat :=
  let cols := (List.range 8).filterMap fun c => if 8 * j + c < g.mw then some (8 * j + c) else none
  let rows := (List.range 8).filterMap fun r => if 8 * k + r < g.mr then some (8 * k + r) else none
  let vals := rows.flatMap fun i => cols.map fun c => codeSample (blk (c / 4) (i / 4)).1 (i % 4) (c % 4)
  let n := vals.length
  let t8 := maxN (rows.flatMap fun i => cols.map fun c => (blk (c / 4) (i / 4)).2)
  ((sumN vals + n / 2) / Nat.max 1 n, t8)

/-- The CRCs of the segments of a slot that writing from byte `a` to below byte `b` completes (R304). -/
def State.segCrcs (s : State) (g : Geo) (k a b : Nat) : State :=
  (List.range (b / 4096 - a / 4096)).foldl (fun (s : State) i =>
    let j := a / 4096 + i
    s.dramPut (g.slot k + g.crcOfs + 4 * j) (leBytes 4 (crc32c (s.dram (g.slot k + 4096 * j) 4096)))) s

/-- Where block row `by_` of a slot ends, and coarse row `kk`, the last one of an area with its padding (R302-R304). -/
def Geo.fineEnd (g : Geo) (by_ : Nat) : Nat := if cdiv g.mr 4 ≤ by_ + 1 then g.coarseOfs else g.p * (by_ + 1) * g.fs
def Geo.coarseEnd (g : Geo) (kk : Nat) : Nat := if cdiv g.mr 8 ≤ kk + 1 then g.crcOfs else g.coarseOfs + g.p * (kk + 1) * g.cs

/-- The bytes of coarse row `kk` of a plane formed from a reader of its blocks (R298, R303). -/
def coarseBytes (g : Geo) (blk : Nat → Nat → Nat × Nat) (kk : Nat) : List Byte :=
  (List.range (cdiv g.mw 8)).flatMap fun j =>
    let (v, t) := coarseOf g blk j kk
    leBytes 4 (v + 65536 * t)

/-- A row of the coarse master of a slot formed from its fine master, and the CRCs of the segments that it completes (R298, R304). -/
def State.putCoarse (s : State) (g : Geo) (k kk : Nat) : State :=
  let blk (p bx by_ : Nat) : Nat × Nat := (s.block g k bx by_ p).getD (0, 255)
  let t := (List.range g.p).foldl (fun (t : State) p =>
    t.dramPut (g.slot k + g.coarseOfs + (g.p * kk + p) * g.cs) (coarseBytes g (blk p) kk)) s
  t.segCrcs g k (g.coarseOfs + g.p * kk * g.cs) (g.coarseEnd kk)

/-- The coarse master of a slot whose fine master is written (R298, R304). -/
def State.finishSlot (s : State) (g : Geo) (k : Nat) : State :=
  (List.range (cdiv g.mr 8)).foldl (fun (s : State) kk => s.putCoarse g k kk) s

/-! ### The learn store (R309, R310) -/

/-- The address of block row `by_`, plane `p` of a learn slot. -/
def State.learnAt (s : State) (v : Nat) (g : Geo) (slot by_ p : Nat) : Nat :=
  wf (s.rd Pg.MST (Rg.MST_LV_BASE v)) 0 32 * 4096 + slot * g.lsSize + (g.p * by_ + p) * g.ls

/-- A block of the learn store: none if it is MISSING or its read ends in an uncorrected error; the flag tells the latter
(R314). -/
def State.learnBlock (s : State) (v : Nat) (g : Geo) (slot bx by_ p : Nat) : Option Nat × Bool :=
  let a := s.learnAt v g slot by_ p + 8 * bx
  if s.dramBad a 8 then (none, true)
  else
    let w := s.dramNat a 8
    (if w = frMissing then none else some w, false)

/-- x of master column `k`, and XC (R280, R293). -/
def State.xOfCol (s : State) (c : Copy) (v : Nat) (k : Int) : Int := s.mx0 c v + k * s.pitchX c v
def State.xc (s : State) (c : Copy) (v : Nat) : Int := s.xOfCol c v (s.vWidth c v / 2 : Nat)

/-- O + ((b × (x - XC)) >> 24), the across correction at x from line `n` on (R286, R310). -/
def State.across_ (s : State) (v n : Nat) (x : Int) : Int :=
  let f := s.frameAt v n
  f.o + rshr (f.b * (x - s.xc (s.copyAt v n) v)) 24

/-- A line as a master row (R310), by plane. -/
def State.captureRow (s : State) (v : Nat) (g : Geo) (l : VLine) : List (List Px) :=
  let c := s.copyAt v l.n
  (List.range g.p).map fun p => (List.range g.mw).map fun (k : Nat) =>
    let x := s.xOfCol c v k
    let col := rdiv (x + s.across_ v l.n x + l.edge) (s.pitchX c v)
    if l.gap ∨ col < 0 then .miss else nth .miss (nth [] l.planes p) col.toNat

/-- Block row `by_` of captured rows stored in a learn slot; padded with the nearest sample (R299, R310). -/
def State.storeRow (s : State) (v : Nat) (g : Geo) (x : Capture) (by_ : Nat) : State :=
  (List.range g.p).foldl (fun s p =>
    let code (bx : Nat) : Nat :=
      (frEncodeOpt ((List.range 16).map fun i =>
        match nth .miss (nth [] (nth [] x.rows (Nat.min (4 * by_ + i / 4) (x.rows.length - 1))) p)
          (Nat.min (4 * bx + i % 4) (g.mw - 1)) with
        | .val y => some y
        | _ => none)).1
    s.dramPut (s.learnAt v g x.slot by_ p) ((List.range (cdiv g.mw 4)).flatMap fun bx => leBytes 8 (code bx))) s

/-- Block rows stored as far as the captured rows are final: all of them with `last`. The rows up to the first one that a line wrote are not
final before a later line writes another (R310). -/
def State.storeRows (s : State) (v : Nat) (g : Geo) (last : Bool) : State :=
  match (s.mstV v).cap with
  | none => s
  | some x =>
    if x.rows.isEmpty then s
    else
      let done := if last then cdiv g.mr 4 else if x.rows.length ≤ x.base + 1 then 0 else (x.rows.length - 1) / 4
      let s := (List.range (done - x.stored)).foldl (fun s i => s.storeRow v g x (x.stored + i)) s
      s.putMst v { s.mstV v with cap := some { x with stored := Nat.max x.stored done } }

/-- A row put at index `i` of captured rows: rows in between take the row before, rows below the first one that a line wrote that one
(R310). -/
def Capture.putRow (x : Capture) (i : Nat) (r : List (List Px)) : Capture :=
  if x.rows.isEmpty ∨ i ≤ x.base then { x with rows := List.replicate (i + 1) r ++ x.rows.drop (i + 1), base := i }
  else if i < x.rows.length then { x with rows := setNth x.rows i r }
  else { x with rows := x.rows ++ List.replicate (i - x.rows.length) (x.rows.getLast?.getD r) ++ [r] }

/-- LEARN_CAPTURE: a stitched line of a capturing view (R310). -/
def State.captureLine (s : State) (v : Nat) (l : VLine) : State :=
  let c := s.copyAt v l.n
  match (s.mstV v).cap, s.geo c v with
  | some x, some g =>
    let i := (rdiv (s.yOf v l.n) (s.pitchY c v)).toNat
    if s.repOf v l.n ≠ x.rep ∨ g.mr ≤ i then s
    else
      let s := s.putMst v { s.mstV v with cap := some (x.putRow i (s.captureRow v g l)) }
      s.storeRows v g false
  | _, _ => s

/-! ### What is in force (R305, R317) -/

/-- The master in force at a line of a view. -/
def State.inForce (s : State) (v n : Nat) : InForce :=
  ((s.mstV v).force.find? fun f => decide (f.line ≤ n)).getD ⟨0, 0, 0⟩

/-- A master in force from a line on. -/
def State.putForce (s : State) (v : Nat) (f : InForce) : State :=
  let x := s.mstV v
  s.putMst v { x with force := (f :: x.force).take 16 }

/-- LEARN_CTL, TOL_CTL and ADAPT_CTL fields in force. -/
def State.mstF (s : State) (c : Copy) (f : Fld) : Nat := s.jobFld c Pg.MST f

/-- N of R311. -/
def State.learnN (s : State) (c : Copy) : Nat := 2 * s.mstF c Fd.MST_LEARN_CTL_N_SEL + 3

/-- Whether a view is learning: it will learn, or learns (Table — Operating modes, LEARN). -/
def State.isLearning (s : State) (v : Nat) : Bool :=
  let x := s.mstV v
  x.will || x.relearn || x.learn.isSome

/-- ONE_SLOT of a view's master (R334). -/
def State.oneSlot (s : State) (c : Copy) (v : Nat) : Bool := match s.geo c v with | some g => s.mh g 5 1 == 1 | none => false

/-- Whether a view whose slot in force is not LEARNED will learn: with ONE_SLOT it cannot (R312, R334). -/
def State.toLearn (s : State) (g : Geo) : Bool := s.mKind g (s.mCur g) != 2 && s.mh g 5 1 == 0

/-- Whether a view is frozen (R331). -/
def State.frozenNow (s : State) (c : Copy) (v : Nat) : Bool :=
  (match c with
   | .active => wf (s.rdView Pg.MST Rg.MST_ADAPT_CTL v) 1 1 == 1
   | .next => s.mstF .next Fd.MST_ADAPT_CTL_FREEZE == 1) || (s.mstV v).frozen

/-- Whether a view adapts at a line (R328). -/
def State.adapts (s : State) (v n : Nat) : Bool :=
  let c := s.copyAt v n
  s.mstF c Fd.MST_ADAPT_CTL_EN == 1 && (s.inForce v n).kind == 2 && !s.isLearning v && !s.frozenNow c v && !s.oneSlot c v

/-! ### Learning (R311-R318) -/

/-- The flip of a learned master, expected once the repeat in progress has been accepted as the last of N (R313). -/
def State.learnFlip (s : State) (c : Copy) (v : Nat) (l : Learn) (rep slot : Nat) : State :=
  let x := s.mstV v
  let f : Flip := { rep := rep + 1 + s.mstF c Fd.MST_LEARN_CTL_LAG, kind := .learn, slots := l.ok.map (·.2) ++ [slot], first := (l.ok.headD (rep, slot)).1 }
  s.putMst v { x with flips := x.flips ++ [f] }

/-- A candidate repeat begins: it is captured into the next learn slot. -/
def State.candidate (s : State) (c : Copy) (v rep : Nat) : State :=
  match (s.mstV v).learn with
  | none => s
  | some l =>
    let slot := l.ok.length
    let s := s.putMst v { s.mstV v with cap := some { rep := rep, slot := slot } }
    if l.ok.length + 1 = l.n then s.learnFlip c v l rep slot else s

/-- The provisional coarse master built from a captured repeat (R318), into the coarse area of the slot that is not CUR. Lines before it keep
the coarse area that they had (R306). -/
def State.provisional (s : State) (v : Nat) (g : Geo) (c : Copy) (slot line : Nat) : State :=
  let tol := s.mstF c Fd.MST_LEARN_CTL_PROV_TOL
  let k := 1 - s.mCur g
  let s := s.runMh c v g [(2 * k, 2, 0)]
  let blk (p bx by_ : Nat) : Nat × Nat := match (s.learnBlock v g slot bx by_ p).1 with | some w => (w, tol) | none => (0, 255)
  let rows := (List.range (cdiv g.mr 8 * g.p)).flatMap fun r =>
    let row := coarseBytes g (blk (r % g.p)) (r / g.p)
    row ++ List.replicate (g.cs - row.length) 0
  let s := (s.dramPut (g.slot k + g.coarseOfs) rows).segCrcs g k g.coarseOfs g.crcOfs
  let x := s.mstV v
  (s.putMst v { x with prov := ((line, rows) :: x.prov).take 16 }).putForce v ⟨line, k, 3⟩

/-- Whether the view held lock at every line of the repeat whose lines lie from `a` to below `b`. -/
def State.lockedOver (s : State) (v a b : Nat) : Bool :=
  (s.frameAt v a).lock && (s.view_ v).frames.all fun f => !(decide (a < f.line) && decide (f.line < b)) || f.lock

/-- The end of a candidate repeat, at the repeat start `n` after it: acceptance, the provisional master, fitting, or a restart
(R311, R318, R326). -/
def State.judgeCandidate (s : State) (v n first : Nat) (c : Copy) : State :=
  match (s.mstV v).learn, (s.mstV v).cap, s.geo c v with
  | some l, some x, some g =>
    let s := s.storeRows v g true
    let ok := s.lockedOver v first n
    let y := { s.mstV v with cap := none }
    let l' := if ok then { l with ok := l.ok ++ [(x.rep, x.slot)] } else l
    let flips := if ok then y.flips else y.flips.filter fun f => !(f.kind == .learn && f.rep == x.rep + 1 + s.mstF c Fd.MST_LEARN_CTL_LAG)
    let s := s.putMst v { y with learn := some l', flips := flips, skipped := if ok then y.skipped else satN 8 (y.skipped + 1) }
    let s := if ok ∧ l.ok.isEmpty ∧ ((s.inForce v n).kind = 0 ∨ (s.inForce v n).kind = 3) then s.provisional v g c x.slot n else s
    let art : Bool := match s.jobOf c with | some j => tbit j.artwork v | none => false
    let s := if ok ∧ l.ok.isEmpty ∧ art ∧ s.mstF c Fd.MST_LEARN_CTL_FIT = 1 then
        let z := s.mstV v
        s.putMst v { z with flips := z.flips ++ [{ rep := x.rep + 1 + s.mstF c Fd.MST_LEARN_CTL_LAG, kind := .fit, slots := [x.slot], first := x.rep }] }
      else s
    if l'.ok.length = l.n then s.putMst v { s.mstV v with learn := some l' }
    else if 2 * l.n ≤ x.rep + 1 - l.start then
      (s.putMst v { s.mstV v with learn := some { l with start := x.rep + 1, ok := [] } }).logLine Er.LEARN_NO_LOCK Pg.MST v n v
    else s
  | _, _, _ => s

/-! ### Flips (R305-R308, R313, R316, R330) -/

/-- LEARN_COMPLETE: every view the job enables has its learned master: LEARN becomes INSPECT (R68). -/
def State.learnComplete (s : State) : State :=
  if s.mode = .learn ∧ (List.range 4).all (fun v => !s.enables .active v || !s.isLearning v) then s.enter .inspect else s

/-- The number of NO_REF blocks of a slot that is whole, once its flip has taken place at line `n` (R301, R316). -/
def State.noteNoref (s : State) (v n : Nat) (c : Copy) (g : Geo) (f : Flip) : State :=
  let s := (s.runMh c v g [(128, 32, f.noref)]).wr Pg.MST (Rg.MST_VIEW_NOREF v) (BitVec.ofNat 32 f.noref)
  if f.kind = .learn ∧ f.noref ≠ 0 then s.logLine Er.MST_NOREF Pg.MST v n v f.noref else s

/-- MASTER_FLIP: the flip of a view at repeat start `n` of its repeat (R305). A slot that is not whole by then goes on being written, and its
readers wait (R306). -/
def State.flip (s : State) (v n : Nat) (c : Copy) (f : Flip) : State :=
  match s.geo c v with
  | none => s
  | some g =>
    let k := 1 - s.mCur g
    let kind := if f.kind = .fit then 1 else 2
    let gen := (s.mh g 32 32 + 1) % 2 ^ 32
    let more := match f.kind with
      | .learn => [(8, 4, f.slots.length), (64, 32, f.first), (96, 32, 0)]
      | .fit => []
      | .fold => [(96, 32, s.mh g 96 32 + 1)]
    let s := s.runMh c v g ([(4, 1, k), (2 * k, 2, kind), (32, 32, gen)] ++ more)
    let s := if f.whole then s.noteNoref v n c g f else s
    let rest := (s.mstV v).flips.map fun x => if x = f then { x with taken := some (n, k) } else x
    let s := (s.putMst v { s.mstV v with flips := rest.filter fun x => !(x.whole && x.taken.isSome) }).putForce v ⟨n, k, kind⟩
    let t := s.lineTime v n
    match f.kind with
    | .learn => ((s.putMst v { s.mstV v with learn := none, will := false }).raiseLine (evLearnDone v) v n t).learnComplete
    | .fit => s
    | .fold => (s.bump Pg.MST (whole Rg.MST_ADAPT_CNT)).raiseLine (evAdaptFold v) v n t

/-- The flip due at the start of repeat `rep` of a view, if any. -/
def State.flipDue (s : State) (v rep : Nat) : Option Flip :=
  match (s.mstV v).flips.find? (·.taken.isNone) with
  | some f => if f.rep ≤ rep then some f else none
  | none => none

/-- The flip at line `n`'s master in force whose slot is still being written, if any. -/
def State.writing (s : State) (v n : Nat) : Option Flip :=
  let e := s.inForce v n
  (s.mstV v).flips.find? fun f => f.taken == some (e.line, e.slot) && !f.whole

/-- Whether MST has written block row `by_`, or coarse row `kk`, of the master in force at line `n` (R306). -/
def State.rowReady (s : State) (v n by_ : Nat) : Bool := match s.writing v n with | some f => decide (by_ < f.rows) | none => true
def State.coarseReady (s : State) (v n kk : Nat) : Bool := match s.writing v n with | some f => decide (kk < f.crows) | none => true


/-! ### The view's changeover line at the stitcher (R312, R317, R331) -/

/-- The masters of a view as its job begins at line `c`: the slot in force, and whether the view will learn. Flips of the job before that
have taken place are still written to their end (R306), and changes of the event state at or past `c` stay due (R331) (DEDUCED, log entry 95). -/
def State.startMasters (s : State) (v c : Nat) (relearn : Bool) : State :=
  let cp := s.copyAt v c
  match s.geo cp v with
  | none => s.putMst v {}
  | some g =>
    let kind := s.mKind g (s.mCur g)
    let x := s.mstV v
    let s := s.putMst v {
      will := relearn || s.toLearn g, force := ⟨c, s.mCur g, kind⟩ :: x.force.take 15, prov := x.prov
      flips := x.flips.filter (·.taken.isSome), changes := x.changes.filter fun e => decide (c ≤ e.1) }
    s.wr Pg.MST (Rg.MST_VIEW_NOREF v) (BitVec.ofNat 32 (s.mh g 128 32))

end Sys2Proof.Machine
end

