-- ==== Sys2Proof/Machine/Intake.lean ====
section
/-!
DEFINITION. Intake (R203-R215): camera lines, taps, labels and the lines delivered to the intake queues; the issue of triggers
(R118, R153) and the downlink packets that carry lines (R170).
-/
namespace Sys2Proof.Machine

def State.intk (s : State) (p : Nat) : Intake := tabGet (dflt {}) s.intake p
def State.putIntk (s : State) (p : Nat) (x : Intake) : State := { s with intake := tabPut (dflt {}) p x s.intake }

/-- The view of a port, that of its run while it delivers lines; TAPS, the bits of its DEPTH, and TAP_LEN for a port line. -/
def State.pView (s : State) (p : Nat) : Nat :=
  let x := s.intk p
  if x.next.isSome || !x.units.isEmpty then x.view else s.fld Pg.STI (Fd.STI_PORT_CTL_VIEW p)
def State.pTaps (s : State) (p : Nat) : Nat := s.fld (Pg.CP p) Fd.CP_PORT_CTL_TAPS
def State.pDepth (s : State) (p : Nat) : Nat := depthBits (s.fld (Pg.CP p) Fd.CP_PORT_CTL_DEPTH)
def State.tapLen (s : State) (p n : Nat) : Nat := s.portCtx (s.copyAt (s.pView p) n) p 0 0 16

/-- LINE_WORDS of a port line that a camera line brings (R206), and its intake queue (R205). -/
def State.lineWords (s : State) (p n : Nat) (l : CamLine) : Nat := l.taps.length * (2 + (s.tapLen p n * l.depth + 63) / 64)
def intakeQueue (p n : Nat) : Nat := 64 * p + n / 64 % 64

/-- OFS for a port line (R204, R205): that of the new job from the changeover line on. -/
def State.ofsAt (s : State) (p n : Nat) : Nat := wf (s.portWord p (s.pView p) n) 3 5

/-! ### Credits (R206-R208) -/

/-- The holder number of intake at a queue. -/
abbrev intakeHolder : Nat := 1

/-- Credits of intake returned. -/
def State.giveBack (s : State) (q n : Nat) : State :=
  s.setQ q ((s.q q).setCred intakeHolder ((s.q q).credOf intakeHolder - n))

/-- A camera line's credit released. -/
def State.dropCredit (s : State) (p : Nat) (l : CamLine) : State :=
  match l.credit with | some (n, w, true) => s.giveBack (intakeQueue p n) w | _ => s

/-- Credit for `w` words at port line `n`, out of what the camera line already holds for it. -/
def State.needCredit (s : State) (p n w : Nat) (l : Option CamLine) : State × Bool :=
  match l.bind (·.credit) with
  | some (k, have_, true) =>
    if k = n ∧ w ≤ have_ then (s.giveBack (intakeQueue p n) (have_ - w), true)
    else (s.giveBack (intakeQueue p k) have_).qRequest (intakeQueue p n) intakeHolder w false
  | some (_, _, false) => (s, false)
  | none => s.qRequest (intakeQueue p n) intakeHolder w false

/-- Words pushed for a port line in turn, SOF on the first and EOF on the last. -/
def State.pushLine (s : State) (q : Nat) (l : List Nat) (tag : Nat) : State :=
  l.zipIdx.foldl (fun s (e : Nat × Nat) =>
    s.qPush q intakeHolder (BitVec.ofNat 64 e.1) tag (e.2 == 0) (e.2 + 1 == l.length)) s

/-! ### Delivery (R203, R207-R212) -/

/-- Stripes of a port line, each with its pipeline (R243, R244). -/
def State.dlrMap (s : State) (p lo len : Nat) : Nat := wf (s.rd Pg.DLR (Rg.DLR_MAP0 + 4 * (p / 4))) (8 * (p % 4) + lo) len
def State.stripes (s : State) (p n : Nat) : List Nat :=
  if s.dlrMap p 3 1 = 1 then List.range (Nat.max 1 (Nat.min 8 ((s.tapLen p n + 4095) / 4096))) else [0]
def State.pipeOf (s : State) (p stripe : Nat) : Nat :=
  if s.dlrMap p 3 1 = 1 then (s.dlrMap p 0 3 + stripe % (s.dlrMap p 4 3 + 1)) % 8 else s.dlrMap p 0 3

/-- A delivered unit waits for dispatch. -/
def State.putUnit (s : State) (p n count words depth : Nat) (b : Body) : State :=
  let x := s.intk p
  s.putIntk p { x with units := x.units ++ [⟨n, count, x.run, words, b, depth, s.stripes p n⟩] }

/-- The run of gap lines delivered as one placeholder word, which may draw on the queue's reserve (R207). -/
def State.flushGap (s : State) (p : Nat) : State :=
  let x := s.intk p
  match x.gap with
  | none => s
  | some (n, k) =>
    let s := s.putIntk p { x with gap := none }
    let q := intakeQueue p n
    let (s, ok) := s.qRequest q intakeHolder 1 true
    let s := if ok then s.pushLine q [n % 2 ^ 48 + 2 ^ 48 * k] tagGap
      else if s.revoking.isEmpty && s.dead.isEmpty then s else s.logErr Er.RESERVE_EXHAUSTED Pg.SUPV1
    s.putUnit p n k (b2n ok) 0 .gap

/-- A lost line of a port: INTAKE_LOSS once for each repeat of its view (R215). -/
def State.lineLost (s : State) (p n : Nat) : State :=
  let v := s.pView p
  let rep := s.repOf v n
  let x := s.intk p
  let key := (match s.jobOf (s.copyAt v n) with | some j => j.id | none => 64, rep)
  if x.lost = some key then s
  else (s.putIntk p { x with lost := some key }).logLine Er.INTAKE_LOSS (Pg.CP p) v n p rep

/-- A tap of a line of TAP_LEN samples in 12-bit form, with its packed word (R212, R218): short taps are padded with
missing samples, long ones cut. -/
def tapRow (len : Nat) (t : TapSt) : List Px :=
  match t with
  | .present d l => ((l.take len).map fun x => Px.val (x * 2 ^ (12 - d))) ++ List.replicate (len - l.length) Px.miss
  | _ => List.replicate len Px.miss

/-- The queue words of a tap: two header words and the payload packed at the camera's depth. The manual states no layout of the
headers, nor the payload of a missing tap: they are free. -/
def State.tapWords (s : State) (len d k : Nat) (t : TapSt) : List Nat :=
  let words := (len * d + 63) / 64
  let free (i : Nat) : Nat := Config.freeNat (s.free + k + i) % 2 ^ 64
  match t with
  | .present _ l =>
    let x := sumN ((l.take len).zipIdx.map fun (e : Nat × Nat) => e.1 * 2 ^ (d * e.2))
    [free 0, free 1] ++ (List.range words).map fun i => nb x (64 * i) 64
  | _ => (List.range (words + 2)).map free

/-- Whether a tap is short, or long (R212). -/
def tapShort (len : Nat) (t : TapSt) : Bool := match t with | .present _ l => decide (l.length < len) | _ => false
def tapLong (len : Nat) (t : TapSt) : Bool := match t with | .present _ l => decide (len < l.length) | _ => false

/-- A flat-field acquisition takes a port line (R235-R238). -/
def State.ffLine (s : State) (p n : Nat) (b : Body) : State :=
  (List.range 8).foldl (fun s g =>
    let pp := tabGet (dflt {}) s.pipe g
    match pp.ff.find? (·.port == p) with
    | none => s
    | some f =>
      if n < f.first ∨ f.first + 2 ^ f.lg ≤ n then s
      else
        let put (f : FfRun) : State :=
          ({ s with pipe := tabPut (dflt {}) g { pp with ff := pp.ff.map fun (e : FfRun) => if e.port = p then f else e } s.pipe }).setFld (Pg.PP g) Fd.PP_FF_STAT_STATE 2
        match b with
        | .data rows =>
          if rows.any (·.contains Px.miss) then put { f with seen := f.seen + 1, lost := true }
          else
            let num (x : Px) : Nat := match x with | .val v => v | _ => 0
            let sums := if f.sums.isEmpty then rows.map (·.map num)
              else List.zipWith (fun a r => List.zipWith (fun y x => y + num x) a r) f.sums rows
            put { f with seen := f.seen + 1, sums := sums }
        | _ => put { f with seen := f.seen + 1, lost := true }) s

/-- What a closed camera line is for a port line (R211), before its credit. -/
def CamLine.kind (l : CamLine) : Nat :=
  if !l.trig then 0
  else if (match l.credit with | some (_, _, false) => true | _ => false) then 0
  else if l.taps.contains .poisoned then 1
  else if l.taps.all (· == .missing) then 0
  else 2

/-- Whether a pipeline that port line `n` goes to is being reset, or dead (R611, R617). -/
def State.pipeGone (s : State) (p n : Nat) : Bool :=
  (s.stripes p n).any fun k => let g := Pg.PP (s.pipeOf p k); s.on g Fd.HDR_PAGE_STAT_BUSY || s.dead.contains g

/-- Port line `n` delivered from camera line `l`, none for a line that no camera was asked for (R203). Lines for a pipeline whose
lease has been revoked become gap lines (R611). -/
def State.deliver (s : State) (p n : Nat) (l : Option CamLine) : State :=
  let len := s.tapLen p n
  let d := match l with | some c => c.depth | none => 0
  let q := intakeQueue p n
  let kind := if s.pipeGone p n then 0 else match l with | none => 0 | some c => c.kind
  let words := match kind, l with | 2, some c => s.lineWords p n c | _, _ => 1
  let (s, ok) := if kind = 0 then (match l with | some c => s.dropCredit p c | none => s, false) else s.needCredit p n words l
  let kind := if ok then kind else 0
  let taps := match l with | some c => c.taps | none => []
  let s := if kind = 0 then s else s.flushGap p
  let body : Body := match kind with | 0 => .gap | 1 => .poison | _ => .data (taps.map (tapRow len))
  let s := match kind with
    | 0 =>
      let x := s.intk p
      s.putIntk p { x with gaps := satN 16 (x.gaps + 1), gap := some (match x.gap with | some (a, k) => (a, k + 1) | none => (n, 1)) }
    | 1 =>
      let s := (s.pushLine q [n % 2 ^ 48] tagPoisoned).putUnit p n 1 1 0 .poison
      let x := s.intk p
      s.putIntk p { x with poison := satN 16 (x.poison + 1) }
    | _ =>
      let per := words / Nat.max 1 taps.length
      let l := (taps.zipIdx.map fun (e : TapSt × Nat) => s.tapWords len d (e.2 * per) e.1).flatten
      ({ s with free := s.free + words }.pushLine q l tagValid).putUnit p n 1 words d body
  let s := if kind = 2 then s else s.lineLost p n
  let s := s.ffLine p n body
  let s := if n % 64 = 63 then s.flushGap p else s
  let x := s.intk p
  s.putIntk p { x with
    next := some (n + 1), lines := x.lines.filter fun c => decide (n + 1 ≤ c.m), cuts := x.cuts.filter fun c => decide (n < c) }

/-- The run of a port ends at its last delivered line. -/
def State.endRun (s : State) (p : Nat) : State :=
  let s := s.flushGap p
  let x := s.intk p
  let s := x.lines.foldl (fun s l => s.dropCredit p l) s
  let x := s.intk p
  s.putIntk p { x with next := none, ended := x.next.map (· - 1), lines := [], cuts := [] }

/-- A requested job end at the next repeat start: the first line of a view past the repeat it was requested in is its boundary (R66). -/
def State.endFound (s : State) (v n : Nat) : State :=
  let x := s.view_ v
  match x.endRep, x.endAt with
  | some r, none => if r < s.repOf v n then s.setView v { x with endAt := some n } else s
  | _, _ => s

/-- Every port line that is complete delivered, at most `fuel` of them; the run ends once its view has stopped and its last line
has been delivered, or where the new job takes the port out of the view (R203). A line whose trigger waits to be issued is not complete
(R119). A context boundary of the port ends a run of gap lines (R214). -/
def State.deliverAll (s : State) (p : Nat) : Nat → State
  | 0 => s
  | fuel + 1 =>
    let x := s.intk p
    let v := s.pView p
    let g := s.tgOf v
    match x.next with
    | none => s
    | some n =>
      let going := g.running || g.waiting.isSome
      if g.ahead ≤ n then (if going then s else s.endRun p)
      else
        let m := n + s.ofsAt p n
        let l := x.lines.find? (·.m == m)
        let ready := match l with | some c => !c.taps.contains .open_ | none => decide (m < g.ahead) || !going
        if !ready || s.chgWait v n then s
        else
          let s := (s.enterLine v n).endFound v n
          let past := match (s.view_ v).endAt with | some e => decide (e ≤ n) | none => false
          if (s.view_ v).left || past || !(s.portsAt v n).contains p then s.endRun p
          else
            let s := if (s.view_ v).chg = some n || x.cuts.contains n then s.flushGap p else s
            let s := s.boundary Pg.DLR v n (s.repOf v n) false
            (s.deliver p n l).deliverAll p fuel

/-- A leaving view whose triggers have stopped at its changeover line has passed it once its ports are done (R84, R91). -/
def State.leaveCheck (s : State) (v : Nat) : State :=
  let x := s.view_ v
  match x.chg with
  | none => s
  | some c =>
    if !x.past && s.fld Pg.SYS Fd.SYS_CHG_CTL_STATE != 0 && !s.enables .next v && !(s.tgOf v).running &&
        (s.tgOf v).waiting.isNone && decide (c ≤ (s.tgOf v).next) && (s.portsOf v).all (fun p => (s.intk p).next.isNone) then s.changeoverLine v c false
    else s

/-- The complete lines of a port delivered. -/
def State.deliverPort (s : State) (p : Nat) : State :=
  (s.deliverAll p ((s.tgOf (s.pView p)).next + 1 - (s.intk p).next.getD 0)).leaveCheck (s.pView p)

/-! ### Taps (R209, R210) -/

/-- Tap `t` of a line closed without a packet: POISONED after a discard, else MISSING, which is counted. -/
def State.closeTap (s : State) (p m t : Nat) : State :=
  let x := s.intk p
  let st := if tbit x.bad t then TapSt.poisoned else .missing
  let x := { x with
    lines := x.lines.map fun l => if l.m = m then { l with taps := setNth l.taps t st } else l
    miss := if st = .missing then satN 8 (x.miss + 1) else x.miss }
  s.putIntk p x

/-- Every open tap that a test selects closed, oldest line first. -/
def State.closeTaps (s : State) (p : Nat) (sel : CamLine → Nat → Bool) : State :=
  ((s.intk p).lines.flatMap fun l =>
    ((List.range l.taps.length).filter fun t => nth .missing l.taps t == .open_ && sel l t).map fun t => (l.m, t)).foldl
    (fun s e => s.closeTap p e.1 e.2) s

/-- TAP_DEADLINE: the device time has reached the deadlines of lines of port `p` (R209). -/
def execTapDeadline (p : Fin 16) (t : Nat) (s : State) : Host.Outcome State Fault Refusal :=
  let s := s.atNs t
  .next ((s.closeTaps p fun l _ => decide (l.deadline ≤ s.time)).deliverPort p)

/-- A LINE packet that intake takes: credit at the first packet of a line, whose other packets are counted where it is refused, earlier
lines of the tap closed (R206, R209, R210), and the line counted once in SHORT and in LONG (R212). -/
def State.takeTap (s : State) (p tap m : Nat) (samples : List Nat) : State :=
  let x := s.intk p
  match x.lines.find? (·.m == m) with
  | none => if x.next.isSome then s.putIntk p { x with late := satN 8 (x.late + 1) } else s
  | some l =>
    if nth .missing l.taps tap ≠ .open_ then s.putIntk p { x with late := satN 8 (x.late + 1) }
    else
      let s := s.closeTaps p fun c t => decide (c.m < m) && t == tap
      let x := s.intk p
      let s := s.putIntk p { x with bad := nbSet x.bad tap 1 0 }
      let n0 := x.next.getD 0
      let label := ((List.range 32).map fun o => m - o).find? fun n => decide (n0 ≤ n) && n + s.ofsAt p n == m
      let (s, credit) := match l.credit, label with
        | none, some n =>
          let (t, ok) := s.qRequest (intakeQueue p n) intakeHolder (s.lineWords p n l) false
          (t, some (n, s.lineWords p n l, ok))
        | c, _ => (s, c)
      let x := s.intk p
      let refused := match l.credit with | some (_, _, false) => true | _ => false
      let got := TapSt.present l.depth samples
      let len := s.tapLen p (label.getD (m - s.ofsAt p m))
      let first (f : TapSt → Bool) : Nat := b2n (f got && !l.taps.any f)
      s.putIntk p { x with
        noCred := satN 16 (x.noCred + b2n refused)
        short := satN 16 (x.short + first (tapShort len))
        long := satN 16 (x.long + first (tapLong len))
        lines := x.lines.map fun c => if c.m = m then { c with credit := credit, taps := setNth c.taps tap got } else c }

/-- A downlink packet that no check refuses, or a discarded one counted (R170, R171). -/
def State.downPacket (s : State) (p : Nat) (pkt : DownPkt) : State :=
  let g := Pg.CP p
  let st := s.linkState p
  let discard (s : State) (c : Fld) : State :=
    let s := s.bump g c
    s.putIntk p { s.intk p with bad := 7 }
  if st ≠ lkBase ∧ st ≠ lkAlign ∧ st ≠ lkActive then s
  else match readPacket pkt st (s.fld g Fd.CP_PORT_CTL_DEPTH) (s.pTaps p) with
    | .bad c => discard s c
    | .status flags temp ulErr count => s.statusIn p flags temp ulErr count
    | .resp tag result data => s.regResp p tag result data
    | .line tap m flags samples =>
      let l := s.link_ p
      if m < tabGet (dflt 0) l.lastAcc tap ∨ l.lastTrig ≤ m then discard s cntOrder
      else
        let s := (s.putLink p { l with lastAcc := tabPut (dflt 0) tap (m + 1) l.lastAcc }).camStatus p flags
        ((s.closeTaps p fun c _ => decide (c.deadline < s.time)).takeTap p tap m samples).deliverPort p

/-- LINE_PACKET. -/
def execLinePacket (p : Fin 16) (pkt : DownPkt) (t : Nat) (s : State) : Host.Outcome State Fault Refusal :=
  .next ((s.atNs t).downPacket p pkt)

/-- STATUS_PACKET. -/
def execStatusPacket (p : Fin 16) (pkt : DownPkt) (t : Nat) (s : State) : Host.Outcome State Fault Refusal :=
  .next ((s.atNs t).downPacket p pkt)

/-- REG_RESP. -/
def execRegResp (p : Fin 16) (pkt : DownPkt) (t : Nat) (s : State) : Host.Outcome State Fault Refusal :=
  .next ((s.atNs t).downPacket p pkt)

/-! ### Triggers (R118, R119, R153, R169) -/

/-- A new line of view `v` at a port: a camera line, open where its camera gets the trigger. A port that begins starts with the
first line of the running configuration (R203). -/
def State.addLine (s : State) (v p m : Nat) (trig : Bool) : State :=
  let w := s.view_ v
  let s := if (s.intk p).next.isSome && ((s.intk p).view != v || ((s.intk p).run != w.first && decide (w.first ≤ m))) then
      ((s.closeTaps p fun _ _ => true).deliverAll p (m + 1 - (s.intk p).next.getD 0)).endRun p else s
  let x := s.intk p
  let x := if x.next.isSome then x
    else
      let a := if w.begun then m else Nat.max m (w.part.getD 0)
      { x with next := some a, view := v, run := w.first, start := a, ended := none, lost := none, cuts := [] }
  let st := if trig then TapSt.open_ else .missing
  let dl := s.lineTime v m + 20 * s.fld Pg.POS (Fd.POS_TG_CTL_MIN_PERIOD v) + 25000
  let first := x.next.getD 0
  let s := s.putIntk p (if m < first then x else { x with lines := x.lines ++ [⟨m, trig, dl, List.replicate (s.pTaps p) st, s.pDepth p, none⟩] })
  s

/-- A line that has its cycle: uplink triggers for an issued one, camera lines at every port of the view, whether ACTIVE or not (R169), and
syncs anchored at it. -/
def State.lineIssued (s : State) (v m : Nat) (issued : Bool) : State :=
  let s := (s.portsAt v m).foldl (fun s p =>
    let act := issued && s.linkState p == lkActive
    let s := if act then (s.putLink p { s.link_ p with lastTrig := m + 1 }).trigger p m else s
    s.addLine v p m act) s
  let s := if issued && s.mode == .setup && m == (s.view_ v).start then s.viewStart v m else s
  s.anchorSyncs v m

/-- Triggers of a leaving view stop at its changeover line (R84). -/
def State.leaveStop (s : State) (v : Nat) : State :=
  match (s.view_ v).chg with
  | some c =>
    if s.fld Pg.SYS Fd.SYS_CHG_CTL_STATE ≠ 0 ∧ !(s.view_ v).past ∧ !s.enables .next v ∧ c ≤ (s.tgOf v).next then
      s.endTriggers v c
    else s
  | none => s

/-- TRIGGER_ISSUE: the waiting trigger of view `v` goes out, and the skipped lines behind it take their cycles. -/
def execTriggerIssue (v : Fin 4) (sample : Nat) (s : State) : Host.Outcome State Fault Refusal :=
  let s := s.atCycle sample
  let (s, l) := s.issue v
  let s := l.zipIdx.foldl (fun s (e : Nat × Nat) => s.lineIssued v e.1 (e.2 == 0)) s
  let s := s.leaveStop v
  .next (((List.range 16).filter fun p => s.pView p == v).foldl (fun s p => s.deliverPort p) s)

end Sys2Proof.Machine
end

