-- ==== Sys2Proof/Machine/Pipes.lean ====
section
/-!
DEFINITION. The Dealer and the pixel pipelines (R216-R258): flat-field acquisition, dispatch, context sets, tap delays and the
correction arithmetic.
-/
namespace Sys2Proof.Machine

def State.pipe_ (s : State) (g : Nat) : Pipe := tabGet (dflt {}) s.pipe g
def State.putPipe (s : State) (g : Nat) (x : Pipe) : State := { s with pipe := tabPut (dflt {}) g x s.pipe }

/-! ### Arithmetic (R217-R228) -/

/-- A value with the number of clamps that changed it (R217). -/
def clampSat (x : Int) : Px × Nat := (.val (clamp12 x), b2n (decide (x < 0) || decide (4095 < x)))

/-- A function of a sample's value; a sample that is not present stays missing and counts no clamp (R217, R228). -/
def onVal (f : Nat → Px × Nat) (x : Px) : Px × Nat := match x with | .val v => f v | _ => (.miss, 0)

/-- The flat field of a sample with its coefficient word (R222). -/
def flatField (base scale w s12 : Nat) : Px × Nat :=
  let v1 : Int := (s12 : Int) - base - nb w 10 6
  let v2 := rshr (v1 * (1024 + nb w 0 10)) 10
  clampSat (rshr (v2 * scale) 14)

/-- White balance of a sample (R224). -/
def whiteBalance (gain x : Nat) : Px × Nat := clampSat (rshr ((x : Int) * gain) 14)

/-- A tone curve at a value (R227). -/
def toneCurve (tc : Nat → Nat) (x : Nat) : Px × Nat :=
  let i := x / 4
  let a : Int := tc i
  let b : Int := tc (Nat.min 1023 (i + 1))
  clampSat (rshr (a + rshr ((b - a) * (x % 4 : Nat)) 2) 4)

/-- The mean of two neighbours, or the one that exists (R223). -/
def neighbour (a b : Option Px) : Px :=
  match a, b with
  | some (.val x), some (.val y) => .val (rshr ((x : Int) + y) 1).toNat
  | some x, none => x
  | none, some y => y
  | _, _ => .miss

/-- A colour of a bilinear camera from its tap 1 samples at positions `lo` onwards of a line of `len` (R223): its own positions
have the parity `par`. -/
def bilinear (row : List Px) (lo len par : Nat) : List Px :=
  row.zipIdx.map fun (e : Px × Nat) =>
    let k := lo + e.2
    if k % 2 = par then e.1
    else neighbour (if k = 0 then none else if e.2 = 0 then some .miss else row[e.2 - 1]?)
      (if k + 1 = len then none else some (nth .miss row (e.2 + 1)))

/-- A row of the colour matrix over the three channels of a pixel (R225). -/
def matrixRow (m0 m1 m2 : Int) (r g b : Px) : Px × Nat :=
  match r, g, b with
  | .val x, .val y, .val z => clampSat (rshr (m0 * x + m1 * y + m2 * z) 12)
  | _, _, _ => (.miss, 0)

/-- Three lists taken together. -/
def zip3 (f : Px → Px → Px → α) : List Px → List Px → List Px → List α
  | a :: l, b :: m, c :: n => f a b c :: zip3 f l m n
  | _, _, _ => []

/-- The sum of the clamps of results. -/
def satOf (l : List (Px × Nat)) : Nat := sumN (l.map (·.2))

/-- A stage applied to planes unless it is bypassed: the planes and the clamps counted. -/
def stage (byp : Bool) (f : Nat → Nat → Px × Nat) (planes : List (List Px)) : List (List Px) × Nat :=
  if byp then (planes, 0)
  else
    let l := planes.zipIdx.map fun (e : List Px × Nat) => e.1.map fun x => onVal (f e.2) x
    (l.map (·.map (·.1)), sumN (l.map satOf))

/-! ### Context sets (R248, R249) -/

/-- A field of the header that a set holds, and an entry of a tone curve. -/
def CtxSet.h (c : CtxSet) (lo len : Nat) : Nat := nb c.head lo len
def CtxSet.tone (c : CtxSet) (i k : Nat) : Nat := nb (nth 0 c.curves i) (16 * k) 16

/-- TAP_DELAY of a tap under a set (R219). -/
def CtxSet.delay (c : CtxSet) (t : Nat) : Nat := c.h (32 + 8 * t) 5

/-- A set filled from its port's copy. -/
def State.fillSet (s : State) (c : CtxSet) : CtxSet :=
  let cp : Copy := if c.next then .next else .active
  { c with loaded := true, head := s.portCtx cp c.port 0 0 2048, curves := (List.range 3).map fun i => s.portCtx cp c.port (0x100 + 0x800 * i) 0 16384 }

/-- Whether a set holds a port's copy. -/
def CtxSet.holds (c : CtxSet) (p : Nat) (nxt : Bool) : Bool := c.port == p && c.next == nxt

/-- The set of a pipeline by its number. -/
def Pipe.set (x : Pipe) (k : Nat) : Option CtxSet := if k = 0 then x.set0 else x.set1

/-- The set of a pipeline that holds a port's copy: its number, and whether it is loaded. -/
def Pipe.setOf (x : Pipe) (p : Nat) (nxt : Bool) : Option (Nat × Bool) :=
  match x.set0, x.set1 with
  | some c, d => if c.holds p nxt then some (0, c.loaded)
    else match d with | some e => if e.holds p nxt then some (1, e.loaded) else none | none => none
  | none, some e => if e.holds p nxt then some (1, e.loaded) else none
  | none, none => none

/-- PP_STAT.NEXT_LOADED follows the set that is not in use. -/
def State.showSets (s : State) (g : Nat) : State :=
  s.setBit (Pg.PP g) Fd.PP_STAT_NEXT_LOADED
    (match (s.pipe_ g).set (1 - s.fld (Pg.PP g) Fd.PP_STAT_CUR_SET) with | some c => c.loaded | none => false)

/-- Both sets of a pipeline changed. -/
def State.mapSets (s : State) (g : Nat) (f : CtxSet → Option CtxSet) : State :=
  let x := s.pipe_ g
  (s.putPipe g { x with set0 := x.set0.bind f, set1 := x.set1.bind f }).showSets g

/-- As the next copies become the active ones, a set that holds a next copy holds the active one, and the others are free (R251). -/
def CtxSet.promote (c : CtxSet) : Option CtxSet := if c.next then some { c with next := false } else none

/-- A port's active context has been written: no set holds it any more (DESIGN CHOICE, log entry 66). -/
def State.dropSets (s : State) (p : Nat) : State :=
  (List.range 8).foldl (fun (s : State) g =>
    if ((s.pipe_ g).setOf p false).isSome then s.mapSets g fun c => if c.holds p false then none else some c else s) s

/-! ### A corrected line (R216, R219) -/

/-- The positions of a stripe of a line: own first and end, and first and end with margins (R244). -/
def State.span (s : State) (p n stripe : Nat) : Nat × Nat × Nat × Nat :=
  let len := s.tapLen p n
  if s.dlrMap p 3 1 = 0 then (0, len, 0, len)
  else
    let a := 4096 * stripe
    let b := Nat.min (a + 4096) len
    let col := s.portCtx (s.copyAt (s.pView p) n) p 0 16 2
    if col = 1 ∨ col = 2 then (a, b, a - 8, Nat.min (b + 8) len) else (a, b, a, b)

/-- The rows of a corrected line's taps (12-bit) through the stages after tap alignment, under the context set of the line: planes, and the
clamps of R222 and of R224, R225 and R227. The coefficient words come from the context store (R250). -/
def State.correct (s : State) (c : CtxSet) (p n stripe : Nat) (rows : List (List Px)) : List (List Px) × Nat × Nat :=
  let cp := s.copyAt (s.pView p) n
  let h (lo len : Nat) : Nat := c.h lo len
  let (a, b, ma, _) := s.span p n stripe
  let len := h 0 16
  let col := h 16 2
  let own {α : Type} (l : List α) : List α := (l.drop (a - ma)).take (b - a)
  let ff := rows.zipIdx.map fun (e : List Px × Nat) => e.1.zipIdx.map fun (x : Px × Nat) =>
    if h 20 1 = 1 then (x.1, 0)
    else onVal (flatField (h (64 + 16 * e.2) 12) (h (128 + 16 * e.2) 16)
      (s.portCtx cp p 0x8000 (16 * (e.2 * len + ma + x.2)) 16)) x.1
  let ffSat := sumN (ff.map fun l => satOf (own l))
  let rows := ff.map (·.map (·.1))
  let planes := match col with
    | 0 => [own (nth [] rows 0)]
    | 3 => (List.range 3).map fun c => own (nth [] rows (((List.range 3).find? fun t => h (56 + 2 * t) 2 == c).getD 0))
    | k => [own (bilinear (nth [] rows 1) ma len (k - 1)), own (nth [] rows 0), own (bilinear (nth [] rows 1) ma len (2 - k))]
  let (planes, s1) := stage (h 21 1 == 1) (fun i x => whiteBalance (h (if col = 0 then 208 else 192 + 16 * i) 16) x) planes
  let m (i j : Nat) : Int := sext 16 (h (256 + 16 * (3 * i + j)) 16)
  let mat := if col = 0 ∨ h 22 1 = 1 then planes.map (·.map fun x => (x, 0))
    else (List.range 3).map fun i =>
      zip3 (matrixRow (m i 0) (m i 1) (m i 2)) (nth [] planes 0) (nth [] planes 1) (nth [] planes 2)
  let s2 := sumN (mat.map satOf)
  let (planes, s3) := stage (h 18 2 != 1)
    (fun i x => toneCurve (c.tone i) x) (mat.map (·.map (·.1)))
  (planes, ffSat, s1 + s2 + s3)

/-! ### Tap delays (R219-R221) -/

def State.tapB (s : State) (p stripe : Nat) : TapBuf := tabGet (dflt {}) s.tapBuf (8 * p + stripe)
def State.putTapB (s : State) (p stripe : Nat) (b : TapBuf) : State :=
  { s with tapBuf := tabPut (dflt {}) (8 * p + stripe) b s.tapBuf }

/-- The corrected lines of a port that wait for the stitcher. -/
def State.corr_ (s : State) (p : Nat) : List CLine := tabGet (dflt []) s.corr p

/-- A port line assembled from its stripes by column (R40, R244), once all of them are there. -/
def State.assembled (s : State) (p n : Nat) : Option Body :=
  let parts := (s.stripes p n).map fun k => ((s.corr_ p).find? fun c => c.n == n && c.stripe == k).map (·.body)
  if parts.any (·.isNone) then none
  else
    let l : List Body := parts.map fun b => b.getD .gap
    if l.contains Body.poison then some .poison
    else if l.all (· == Body.gap) then some .gap
    else
      let rows (b : Body) : List (List Px) := match b with | .data r => r | _ => []
      let np := maxN (l.map fun b => (rows b).length)
      some (.data ((List.range np).map fun i => l.flatMap fun b => nth [] (rows b) i))

/-- A corrected line of a stripe goes to the stitch alignment window and, once its line is whole, to the streams on the port. -/
def State.putCorr (s : State) (p n stripe : Nat) (b : Body) : State :=
  let s := { s with corr := tabPut (dflt []) p (s.corr_ p ++ [(⟨n, stripe, b⟩ : CLine)]) s.corr }
  match s.assembled p n with
  | none => s
  | some x =>
    let planes := match x with | .data r => r | _ => []
    s.feedStreams 1 p n (x == .gap) (x == .poison) planes

/-- The set that the tokens of a line in the tap-delay buffers name. -/
def TapBuf.ctx (b : TapBuf) (n : Nat) : CtxSet := ((b.lines.find? (·.n == n)).map (·.ctx)).getD ⟨0, false, false, 0, []⟩

/-- The next corrected line of a stripe formed on pipeline `g`. -/
def State.formLine (s : State) (g p stripe : Nat) : State :=
  let b := s.tapB p stripe
  let n := b.next
  let s := s.stageLine (Pg.PP g) (s.pView p) n
  let (_, _, ma, mb) := s.span p n stripe
  let none_ : List Px := List.replicate (mb - ma) .miss
  let c := b.ctx n
  let src := (List.range (s.pTaps p)).map fun t => (b.lines.find? (·.n == n + c.delay t)).map (·.body)
  let row (e : Option Body × Nat) : List Px := match e.1 with | some (.data r) => nth none_ r e.2 | _ => none_
  let s := s.putTapB p stripe { b with next := n + 1, lines := b.lines.filter fun l => decide (n < l.n) }
  if src.contains (some .poison) then s.putCorr p n stripe .poison
  else if src.all (· == some .gap) then s.putCorr p n stripe .gap
  else
    let (planes, ff, col) := s.correct c p n stripe (src.zipIdx.map row)
    ((s.bumpBy (Pg.PP g) Fd.PP_SAT_CNT_FF_SAT ff).bumpBy (Pg.PP g) Fd.PP_SAT_CNT_COL_SAT col).putCorr p n stripe (.data planes)

/-- Whether a port's region of the stitch alignment window has no room for a line: it holds 32 others (R261). -/
def State.regionFull (s : State) (p n : Nat) : Bool :=
  let l := (s.corr_ p).foldl (fun (l : List Nat) c => if l.contains c.n then l else c.n :: l) []
  !l.contains n && decide (32 ≤ l.length)

/-- Whether the next corrected line of a stripe has its sources, or with `last` is due without them (R221). -/
def State.formable (s : State) (p stripe : Nat) (last : Bool) : Bool :=
  let b := s.tapB p stripe
  let top := maxN (b.lines.map (·.n))
  let need := b.next + maxN ((List.range (s.pTaps p)).map fun t => (b.ctx b.next).delay t)
  !b.lines.isEmpty && decide (b.next ≤ top) && (last || decide (need ≤ top))

/-- Every corrected line whose sources are there formed, or with `last` every line up to the last one kept (R221), as far as the port's
region of the alignment window has room (R261). -/
def State.formLines (s : State) (g p stripe : Nat) (last : Bool) : Nat → State
  | 0 => s
  | fuel + 1 =>
    if !s.formable p stripe last || s.regionFull p (s.tapB p stripe).next then s
    else (s.formLine g p stripe).formLines g p stripe last fuel

/-- The rest of a run formed once all of it has passed the pipeline (R221). -/
def State.flushTaps (s : State) (g p stripe : Nat) : State := s.formLines g p stripe true 128

/-- The stripes of ended runs of pipeline `g` whose last line has arrived formed to their end. -/
def State.flushEnded (s : State) (g : Nat) : State :=
  (List.range 128).foldl (fun s k =>
    let p := k / 8
    let b := s.tapB p (k % 8)
    let x := s.intk p
    if s.pipeOf p (k % 8) = g ∧ b.run = x.run ∧ x.ended.isSome ∧ x.ended = some (maxN (b.lines.map (·.n)))
    then s.flushTaps g p (k % 8) else s) s

/-! ### Dispatch (R241-R258, R701) -/

/-- The units of a port that wait for a pipeline, in order, each with its stripe (R246). -/
def State.waitingUnits (s : State) (p g : Nat) : List (IUnit × Nat) :=
  (s.intk p).units.flatMap fun u => (u.left.filter fun k => s.pipeOf p k == g).map fun k => (u, k)

/-- The next unit of a port for a pipeline, and its stripe. -/
def State.nextUnit (s : State) (p g : Nat) : Option (IUnit × Nat) := (s.waitingUnits p g).head?

/-- A unit's words in its intake queue, which hold back until all stripes of it and of the lines before it in the queue have left. -/
def State.unitWords (s : State) (p : Nat) (u : IUnit) : List QWord :=
  let q := intakeQueue p u.n
  let before := sumN (((s.intk p).units.takeWhile fun w => !(w.n == u.n && w.run == u.run)).map fun w =>
    if intakeQueue p w.n = q then w.words else 0)
  ((s.q q).words.drop before).take u.words

/-- The words of a unit's stripe in its dispatch queue: all of the unit's, but of a line in stripe mode the two header words of each tap and
the samples of the stripe, packed anew (R244) (DEDUCED, log entry 89). -/
def State.stripeWords (s : State) (p : Nat) (u : IUnit) (k : Nat) (l : List QWord) : List QWord :=
  let (_, _, ma, mb) := s.span p u.n k
  match u.body with
  | .data rows =>
    if s.dlrMap p 3 1 = 0 then l
    else
      let per := l.length / Nat.max 1 rows.length
      let pack (t : Nat) : List QWord :=
        let x := sumN ((((l.drop (t * per)).drop 2).take (per - 2)).zipIdx.map fun (e : QWord × Nat) => e.1.data.toNat * 2 ^ (64 * e.2))
        (((l.drop (t * per)).take 2)) ++ (List.range (((mb - ma) * u.depth + 63) / 64)).map fun i =>
          mkWord (BitVec.ofNat 64 (nb x (u.depth * ma) ((mb - ma) * u.depth) / 2 ^ (64 * i))) tagValid false false
      (List.range rows.length).flatMap pack
  | _ => l

/-- A word of the store that a pop delivers POISONED (R488). -/
def QWord.spoilt (w : QWord) : Bool := w.tag == tagPoisoned || parityOf w.data w.tag w.sof w.eof != w.parity

/-- The dispatch queue that a port's unit takes at a pipeline, `i` places on in its ring (R247). -/
def State.ringQueue (s : State) (g p i : Nat) : Nat := 1024 + 128 * g + 8 * p + (tabGet (dflt 0) (s.pipe_ g).ring p + i) % 8

/-- Whether the unit of a port that is `i` units on can move to its dispatch queue: its words are in the store, and the queue holds no unit
and has space for them, which a placeholder may take from the reserve (R207, R247, R484). -/
def State.canMove (s : State) (g p i : Nat) (e : IUnit × Nat) : Bool :=
  let l := s.unitWords p e.1
  let n := (s.stripeWords p e.1 e.2 l).length
  let q := s.ringQueue g p i
  decide ((((s.pipe_ g).units.filter fun (u : PUnit) => u.port == p).length) + i < 8) && l.length == e.1.words &&
    (n == 0 || (s.qEn q && decide (n ≤ s.qFree q (e.1.body == .gap))))

/-- The requests at a pipeline's dispatch arbiter, a port once for each of its next two units that can move (R253, R256). Only a revoked
lease of its intake withdraws a port's request (R255). -/
def State.dispatchReqs (s : State) (g : Nat) : List Nat :=
  (List.range 16).flatMap fun p =>
    if s.revoking.contains (Pg.CP p) then []
    else match s.waitingUnits p g with
      | [] => []
      | [a] => if s.canMove g p 0 a then [p] else []
      | a :: b :: _ => if s.canMove g p 0 a then (if s.canMove g p 1 b then [p, p] else [p]) else []

/-- The samples of a unit's stripe, with its margins (R244). -/
def State.stripeBody (s : State) (p n stripe : Nat) (b : Body) : Body :=
  let (_, _, ma, mb) := s.span p n stripe
  match b with | .data r => .data (r.map fun l => (l.drop ma).take (mb - ma)) | x => x

/-- The words of the oldest units of an intake queue whose stripes have all left are popped. -/
def State.retire (s : State) (p q : Nat) : Nat → State
  | 0 => s
  | fuel + 1 =>
    let x := s.intk p
    match x.units.find? fun u => intakeQueue p u.n == q with
    | some u =>
      if u.left.isEmpty then
        ((s.qPopN q u.words).1.putIntk p { x with units := x.units.filter fun w => !(w.n == u.n && w.run == u.run) }).retire p q fuel
      else s
    | none => s

/-- A unit moves to its dispatch queue; a word of it that comes back POISONED poisons the line (R488, R60). Its words leave the intake queue
once all stripes before them have. -/
def State.dispatch (s : State) (g p : Nat) : State :=
  match s.nextUnit p g with
  | none => s
  | some (u, k) =>
    let l := s.unitWords p u
    let out := s.stripeWords p u k l
    let body := match u.body with | .data r => if l.any QWord.spoilt then Body.poison else .data r | x => x
    let q := s.ringQueue g p 0
    let s := out.foldl (fun (s : State) w => s.qPut q w.data w.tag w.sof w.eof) s
    let x := s.intk p
    let s := s.putIntk p { x with units := x.units.map fun w => if w.n = u.n ∧ w.run = u.run then { w with left := w.left.erase k } else w }
    let s := s.retire p (intakeQueue p u.n) x.units.length
    let y := s.pipe_ g
    s.putPipe g { y with
      units := y.units ++ [⟨p, k, u.run, u.n, u.count, s.stripeBody p u.n k body, q, out.length⟩]
      ring := tabPut (dflt 0) p ((tabGet (dflt 0) y.ring p + 1) % 8) y.ring }

/-- Whether the next copy governs a port line. -/
def State.nextCopy (s : State) (p n : Nat) : Bool := s.newAt (s.pView p) n

/-- The contexts that a pipeline needs, in order: that of the unit in progress, of the units in its dispatch queues, and of the unit that the
arbiter has decided on (DEDUCED, log entry 90). -/
def State.ctxNeeds (s : State) (g : Nat) : List (Nat × Bool) :=
  let x := s.pipe_ g
  let cur := match x.set (s.fld (Pg.PP g) Fd.PP_STAT_CUR_SET) with
    | some c => if s.on (Pg.PP g) Fd.PP_STAT_BUSY then [(c.port, c.next)] else []
    | none => []
  let granted := match (tabGet (dflt ({} : Arb)) s.arb g).grant with
    | some p => match s.nextUnit p g with | some (u, _) => [(p, s.nextCopy p u.n)] | none => []
    | none => []
  cur ++ (x.units.map fun u => (u.port, s.nextCopy u.port u.n)) ++ granted

/-- A context load starts for the first unit whose port and copy neither set holds, in a set that no unit before it uses, first in the one
that the unit in progress does not use (R249). -/
def State.prefetch (s : State) (g : Nat) : State :=
  let x := s.pipe_ g
  let needs := s.ctxNeeds g
  let held (k : Nat × Bool) : Bool := (x.setOf k.1 k.2).isSome
  let before := needs.takeWhile held
  match needs.find? fun k => !held k with
  | none => s
  | some k =>
    let other := 1 - s.fld (Pg.PP g) Fd.PP_STAT_CUR_SET
    let free (i : Nat) : Bool := match x.set i with | none => true | some c => !before.contains (c.port, c.next)
    let c : CtxSet := ⟨k.1, k.2, false, 0, []⟩
    match [other, 1 - other].find? free with
    | none => s
    | some i => (s.putPipe g (if i = 0 then { x with set0 := some c } else { x with set1 := some c })).showSets g

/-- DISPATCH_GRANT: a round of the dispatch arbiter of pipeline `g` (R252-R256), and the load that its decision calls for. While the Dealer or
the pipeline is off no round begins (R701). -/
def State.dispatchGrant (s : State) (g : Nat) : State :=
  if !s.blockOn Pg.DLR Fd.DLR_CTL_EN || !s.blockOn (Pg.PP g) Fd.PP_CTL_EN then s
  else
    let (s, served, dead) := s.arbRound g (s.dispatchReqs g)
    let s := if dead then
        (s.putPipe g { s.pipe_ g with dead := satN 8 ((s.pipe_ g).dead + 1) }).flag Pg.DLR Fd.DLR_STAT_DEAD_SEEN
      else s
    (match served with | some p => s.dispatch g p | none => s).prefetch g

def execDispatchGrant (g : Fin 8) (s : State) : Host.Outcome State Fault Refusal := .next (s.dispatchGrant g)

/-- CONTEXT_LOAD_DONE: the load of pipeline `g` ends (R249). -/
def State.ctxLoaded (s : State) (g : Nat) : State :=
  let t := s.mapSets g fun c => some (if c.loaded then c else s.fillSet c)
  t.prefetch g

def execContextLoadDone (g : Fin 8) (s : State) : Host.Outcome State Fault Refusal := .next (s.ctxLoaded g)

/-- Lines of a unit in its pipeline: they go to the tap-delay buffers under their set, and the corrected lines they complete leave. -/
def State.runUnit (s : State) (g : Nat) (u : PUnit) (c : CtxSet) : State :=
  let b := s.tapB u.port u.stripe
  let b := if b.run = u.run then b else { run := u.run, next := u.n, lines := [] }
  let b := if b.lines.isEmpty ∧ b.next = 0 then { b with next := u.n } else b
  let s := s.putTapB u.port u.stripe { b with lines := b.lines ++ (List.range u.count).map fun i => ⟨u.n + i, u.body, c⟩ }
  s.formLines g u.port u.stripe false 256

/-- The lines of a unit that its pipeline can take: the alignment window has room for the corrected lines (R261). Lines of the stripe that
wait for room come first, as does the rest of an ended run. -/
def State.unitRoom (s : State) (u : PUnit) : Nat :=
  let b := s.tapB u.port u.stripe
  if s.formable u.port u.stripe (b.run != u.run) then 0
  else
    let first := if b.lines.isEmpty then u.n else b.next
    ((List.range u.count).takeWhile fun i => !s.regionFull u.port (first + i) && decide (i < 32)).length

/-- PP_CORRECT_LINE: pipeline `g` takes its next unit under the context set that holds its copy, or waits for the load (R249,
R251), for space in the alignment window (R261), for an event whose anchor may lie in it (R470), or for its enable. Of a run of gap lines
it takes as many as there is space for. -/
def State.correctLine (s : State) (g : Nat) : State :=
  if !s.blockOn (Pg.PP g) Fd.PP_CTL_EN then s
  else match (s.pipe_ g).units with
  | [] => (s.flushEnded g).setFld (Pg.PP g) Fd.PP_STAT_BUSY 0
  | u :: rest =>
    let nxt := s.nextCopy u.port u.n
    let b := s.tapB u.port u.stripe
    let s := if s.formable u.port u.stripe (b.run != u.run) then s.formLines g u.port u.stripe (b.run != u.run) 128 else s
    let n := s.unitRoom u
    let x := s.pipe_ g
    if n = 0 then s
    else if s.eventWait (s.pView u.port) (u.n + n - 1) then s.flag Pg.EVF Fd.EVF_STAT_WAITED
    else match x.setOf u.port nxt with
    | some (k, true) =>
      let whole := decide (u.count ≤ n)
      let (s, l) := if whole then s.qPopN u.queue u.words else (s, [])
      let body := match u.body with | .data r => if l.any (·.tag == tagPoisoned) then Body.poison else .data r | y => y
      let left := if whole then rest else { u with n := u.n + n, count := u.count - n } :: rest
      let s := s.putPipe g { x with units := left, waited := false }
      let s := (s.setFld (Pg.PP g) Fd.PP_STAT_CUR_PORT u.port).setFld (Pg.PP g) Fd.PP_STAT_CUR_SET k
      let s := (s.setFld (Pg.PP g) Fd.PP_STAT_BUSY 1).showSets g
      ((s.runUnit g { u with count := n, body := body } ((x.set k).getD ⟨u.port, nxt, true, 0, []⟩)).flushEnded g).prefetch g
    | _ =>
      let s := if x.waited then s else s.putPipe g { x with waited := true, loads := satN 8 (x.loads + 1) }
      s.prefetch g

def execPpCorrectLine (g : Fin 8) (s : State) : Host.Outcome State Fault Refusal := .next (s.correctLine g)

/-! ### Flat-field acquisition (R235-R238) -/

/-- Whether an acquisition of a port runs. -/
def State.ffBusy (s : State) (p : Nat) : Bool := (List.range 8).any fun k => (s.pipe_ k).ff.any (·.port == p)

/-- A write of FF_CTL. -/
def State.ffCtl (s : State) (g : Nat) (w : Word) : State :=
  let a := Pg.PP g
  let s := s.writeReg a Rg.PP_FF_CTL w
  let p := wf w 0 4
  if wf w 10 1 = 0 then s
  else if s.mode ≠ .setup ∨ s.ffBusy p ∨ !((s.stripes p 0).map (s.pipeOf p)).contains g then s.setFld a Fd.PP_FF_STAT_RESULT 2
  else
    let n := (s.intk p).next.getD (s.nextLine (s.pView p))
    let first := (n + 63) / 64 * 64
    let s := s.putPipe g { s.pipe_ g with ff := (s.pipe_ g).ff ++ [⟨p, wf w 4 2, wf w 6 4, wf w 12 12, first, 0, false, []⟩] }
    (s.wr a Rg.PP_FF_STAT 1).wr64 a Rg.PP_FF_START_LO Rg.PP_FF_START_HI (first % 2 ^ 48)

/-- FF_GO. -/
def execFfGo (o : Owner) (g : Fin 8) (w : Word) (s : State) : Host.Outcome State Fault Refusal :=
  .next (s.guarded o (Pg.PP g) Rg.PP_FF_CTL (·.ffCtl g w))

/-- The coefficient word of sample `k` of tap `t` in a port's active context (R231), and its replacement. -/
def State.coef (s : State) (p len t k lo n : Nat) : Nat := s.winBits (portCtxAt p + 0x8000) (16 * (t * len + k) + lo) n
def State.setCoef (s : State) (p len t k lo n v : Nat) : State :=
  s.setWinBits (portCtxAt p + 0x8000) (16 * (t * len + k) + lo) n v

/-- The DARK phase's results (R236). -/
def State.ffDark (s : State) (g : Nat) (f : FfRun) : State :=
  f.sums.zipIdx.foldl (fun s (e : List Nat × Nat) =>
    let mean := e.1.map fun (x : Nat) => (rshr x f.lg).toNat
    let base := mean.foldl Nat.min (mean.headD 0)
    let s := s.setWinBits (portCtxAt f.port) (64 + 16 * e.2) 12 base
    mean.zipIdx.foldl (fun s (m : Nat × Nat) =>
      let s := if 63 < m.1 - base then s.bump (Pg.PP g) Fd.PP_FF_STAT_CLIP_CNT else s
      s.setCoef f.port e.1.length e.2 m.2 10 6 (Nat.min 63 (m.1 - base))) s) s

/-- r(k) of the WHITE phase by tap (R237). -/
def State.ffR (s : State) (f : FfRun) : List (List Int) :=
  f.sums.zipIdx.map fun (e : List Nat × Nat) => e.1.zipIdx.map fun (x : Nat × Nat) =>
    rshr x.1 f.lg - s.winBits (portCtxAt f.port) (64 + 16 * e.2) 12 - s.coef f.port e.1.length e.2 x.2 10 6

/-- G(k) of a position and whether it is counted in CLIP_CNT (R237); with FF_SCALE = 0 the manual states no value. -/
def ffGain (free target scale : Nat) (r : Int) : Nat × Bool :=
  if r ≤ 0 then (1023, true)
  else if scale = 0 then (Config.freeNat free % 1024, false)
  else
    let x := rdiv ((2 ^ 24 * target : Nat) : Int) (scale * r.toNat) - 1024
    ((clampI 0 1023 x).toNat, decide (x < 0) || decide (1023 < x))

/-- The WHITE phase's results (R237). -/
def State.ffWhite (s : State) (g : Nat) (f : FfRun) (r : List (List Int)) : State :=
  r.zipIdx.foldl (fun s (e : List Int × Nat) =>
    let rmax := e.1.foldl max 0
    let scale := 16384 * f.target / rmax.toNat
    let s := s.setWinBits (portCtxAt f.port) (128 + 16 * e.2) 16 scale
    e.1.zipIdx.foldl (fun s (x : Int × Nat) =>
      let (v, clip) := ffGain s.free f.target scale x.1
      let s := if scale = 0 ∧ 0 < x.1 then s.drawn else s
      let s := if clip then s.bump (Pg.PP g) Fd.PP_FF_STAT_CLIP_CNT else s
      s.setCoef f.port e.1.length e.2 x.2 0 10 v) s) s

/-- FF_ACQUIRE_DONE: the oldest acquisition of pipeline `g` that has seen its lines ends (R236-R238). -/
def State.ffDone (s : State) (g : Nat) : State :=
  let a := Pg.PP g
  match (s.pipe_ g).ff.find? fun f => decide (2 ^ f.lg ≤ f.seen) with
  | none => s
  | some f =>
      let s := (s.putPipe g { s.pipe_ g with ff := (s.pipe_ g).ff.filter fun e => e.port != f.port }).setFld a Fd.PP_FF_STAT_STATE 3
      let r := s.ffR f
      if f.lost then s.setFld a Fd.PP_FF_STAT_RESULT 3
      else if f.phase = 0 then ((s.ffDark g f).dropSets f.port).setFld a Fd.PP_FF_STAT_RESULT 1
      else if r.any fun l => decide (16384 * (f.target : Int) ≥ 65536 * l.foldl max 0) then s.setFld a Fd.PP_FF_STAT_RESULT 4
      else ((s.ffWhite g f r).dropSets f.port).setFld a Fd.PP_FF_STAT_RESULT 1

def execFfAcquireDone (g : Fin 8) (s : State) : Host.Outcome State Fault Refusal := .next (s.ffDone g)

end Sys2Proof.Machine
end

