-- ==== Sys2Proof/Machine/Stitch.lean ====
section
/-!
DEFINITION. The stitcher (R259-R275, R290-R292): geometry, resampling, seams, trims, the web edge, the view lines it delivers with
what a repeat start brings (R22, R305, R311, R331), and the dot-grid measurement.
-/
namespace Sys2Proof.Machine

def State.sti (s : State) (v : Nat) : Stitch := tabGet (dflt {}) s.stitch_ v
def State.putSti (s : State) (v : Nat) (x : Stitch) : State := { s with stitch_ := tabPut (dflt {}) v x s.stitch_ }

/-! ### Geometry and resampling (R264-R266) -/

/-- OFFSET and SPAN of a geometry entry (Table — Geometry entry). -/
def State.geoOffset (s : State) (c : Copy) (p k : Nat) : Int := sext 32 (s.stitch c (0x2000 + p * 0x400 + 8 * k) 0 32)
def State.geoSpan (s : State) (c : Copy) (p k : Nat) : Int := sext 24 (s.stitch c (0x2000 + p * 0x400 + 8 * k) 32 24)

/-- u of sample `k` of a port (R264). -/
def State.uOf (s : State) (c : Copy) (p k : Nat) : Int :=
  s.geoOffset c p (k / 256) + rdiv (s.geoSpan c p (k / 256) * (k % 256 : Nat)) 256

/-- Whether a port covers the coordinate `u` (R265). -/
def State.covers (s : State) (c : Copy) (p len : Nat) (u : Int) : Bool :=
  let a := s.uOf c p 0
  let b := s.uOf c p (len - 1)
  if 0 < s.geoSpan c p 0 then decide (a ≤ u) && decide (u ≤ b) else decide (b ≤ u) && decide (u ≤ a)

/-- The source coordinate of `u` in a port, in 1/64 sample (R265); none where no segment reaches it. -/
def State.srcCoord (s : State) (c : Copy) (p len : Nat) (u : Int) : Option Nat :=
  let up := decide (0 < s.geoSpan c p 0)
  let hit (k : Nat) : Bool := if up then decide (s.geoOffset c p k ≤ u) else decide (u ≤ s.geoOffset c p k)
  match ((List.range ((len + 255) / 256)).filter hit).getLast? with
  | none => none
  | some k =>
    let d := (u - s.geoOffset c p k).natAbs
    some (16384 * k + (rdiv (d * 16384 : Nat) (s.geoSpan c p k).natAbs).toNat)

/-- A resampled value of a plane at a source coordinate, and whether the clamp changed it (R266). -/
def resample (row : List Px) (q : Nat) : Px × Bool :=
  let i : Int := (q / 64 : Nat)
  let w := keys (q % 64)
  let last : Int := (row.length : Int) - 1
  let tap (t : Nat) : Px := nth .miss row (clampI 0 last (i - 1 + t)).toNat
  let used := (List.range 4).filter fun t => nth 0 w t ≠ 0
  if used.any fun t => tap t == .miss then (.miss, false)
  else
    let x := rshr (sumI (used.map fun t => nth 0 w t * (match tap t with | .val v => (v : Int) | _ => 0))) 12
    (.val (clamp12 x), decide (x < 0) || decide (4095 < x))

/-- A port's line at the stitcher: its planes, a gap line or a poisoned line. -/
structure PLine where
  port : Nat
  len  : Nat
  body : Body
deriving DecidableEq, Repr

/-- A port's untrimmed value at a column, where it covers it (R262, R265, R266). -/
def State.portCol (s : State) (c : Copy) (v : Nat) (l : PLine) (plane col : Nat) : Option (Px × Bool) :=
  let u : Int := col * s.pitchX c v
  if !s.covers c l.port l.len u then none
  else match s.srcCoord c l.port l.len u with
    | none => none
    | some q => match l.body with
      | .gap => some (.miss, false)
      | .poison => some (.bad, false)
      | .data rows => some (resample (nth [] rows plane) q)

/-! ### Trims and seams (R267-R269) -/

/-- A trim in force. -/
def State.trim (s : State) (v p plane : Nat) : Nat := tabGet (dflt 16384) (s.sti v).trims (4 * p + plane)

/-- A trimmed value (R267). -/
def State.trimmed (s : State) (v p plane : Nat) (x : Px) : Px :=
  match x with | .val r => .val (clamp12 (rshr ((r : Int) * s.trim v p plane) 14)) | y => y

/-- Seam `i` of a view (Table — Seam entry): the left and right port, HARD, COL_A and COL_B. -/
def State.seam (s : State) (c : Copy) (v i lo len : Nat) : Nat := s.stitch c (0x100 + v * 0x100 + i * 0x10) lo len
def State.seams (s : State) (c : Copy) (v : Nat) : List (Nat × Nat × Bool × Nat × Nat) :=
  (List.range (s.vrec c v 252 4)).map fun i =>
    (s.seam c v i 0 4, s.seam c v i 4 4, s.seam c v i 8 1 == 1, s.seam c v i 32 19, s.seam c v i 64 19)

/-- The value of a column that a left and a right port cover (R267). -/
def seamCol (hard : Bool) (a b col : Nat) (l r : Px) : Px :=
  if col < a then l
  else if hard ∨ b < col then r
  else
    let wr : Int := ((col - a + 1) * 4096 / (b - a + 2) : Nat)
    match l, r with
    | .miss, x => x
    | x, .miss => x
    | .val x, .val y => .val (rshr ((4096 - wr) * x + wr * y) 12).toNat
    | _, _ => .bad

/-- A column of the stitched image from the trimmed values of the ports that cover it. -/
def seamed (sm : List (Nat × Nat × Bool × Nat × Nat)) (col : Nat) : List (Nat × Px) → Px
  | [] => .miss
  | [e] => e.2
  | (p, x) :: (q, y) :: _ =>
    match sm.find? fun e => (e.1 == p && e.2.1 == q) || (e.1 == q && e.2.1 == p) with
    | none => x
    | some e => if e.1 = p then seamCol e.2.2.1 e.2.2.2.1 e.2.2.2.2 col x y else seamCol e.2.2.1 e.2.2.2.1 e.2.2.2.2 col y x

/-- Tokens of 48 columns: one poisoned sample poisons its token (R262). -/
def tokens (l : List Px) : Nat → List Px
  | 0 => []
  | k + 1 =>
    let t := l.take 48
    (if t.contains .bad then t.map fun _ => Px.bad else t) ++ tokens (l.drop 48) k

/-- The sums of a line for a seam and plane (R268): pairs, left, right. -/
def pairSums (lo : Nat) (l r : List (Option (Px × Bool))) : Nat × Nat × Nat :=
  (List.zip l r).foldl (fun a e => match e with
    | (some (.val x, _), some (.val y, _)) =>
      if lo ≤ x ∧ x ≤ 4094 ∧ lo ≤ y ∧ y ≤ 4094 then (a.1 + 1, a.2.1 + x, a.2.2 + y) else a
    | _ => a) (0, 0, 0)

/-- Sums added to a trim window's. -/
def addSums (l : List TrimSum) (seam plane : Nat) (x : Nat × Nat × Nat) : List TrimSum :=
  if l.any fun t => t.seam == seam && t.plane == plane then
    l.map fun t => if t.seam = seam ∧ t.plane = plane then ⟨seam, plane, t.pairs + x.1, t.left + x.2.1, t.right + x.2.2⟩ else t
  else l ++ [⟨seam, plane, x.1, x.2.1, x.2.2⟩]

/-- The new trims of one side of TRIM_REF, outwards (R269): port and trim target, until a seam holds. -/
def State.trimSide (s : State) (c : Copy) (v plane near : Nat) (right : Bool) : Nat → List (Nat × Int)
  | 0 => []
  | fuel + 1 =>
    match (s.seams c v).zipIdx.find? fun e => if right then e.1.1 == near else e.1.2.1 == near with
    | none => []
    | some (e, i) =>
      let port := if right then e.2.1 else e.1
      match (s.sti v).sums.find? fun t => t.seam == i && t.plane == plane with
      | none => []
      | some t =>
        let (num, den) := if right then (t.left, t.right) else (t.right, t.left)
        if t.pairs < 65536 ∨ den = 0 then []
        else (port, rshr ((s.trim v near plane : Int) * rdiv (16384 * num : Nat) den) 14) :: s.trimSide c v plane port right fuel

/-- TRIM_UPDATE: the end of a trim window at line `n`; the new trims hold from the first line of window j + 2 (R269). -/
def State.trimUpdate (s : State) (c : Copy) (v n : Nat) : State :=
  let per := 64 * s.vrec c v 224 8
  if per = 0 ∨ n % per ≠ per - 1 then s
  else
    let x := s.sti v
    if s.on Pg.STI (Fd.STI_VIEW_CTL_TRIM_FREEZE v) then s.putSti v { x with sums := [] }
    else
      let lim : Int := s.vrec c v 256 16
      let ref := s.vrec c v 236 4
      let line := (n / per + 2) * per
      let l := (List.range (s.vPlanes c v)).flatMap fun plane =>
        (s.trimSide c v plane ref true 15 ++ s.trimSide c v plane ref false 15).map fun e => (plane, e.1, e.2)
      let s := s.putSti v { x with sums := [] }
      l.foldl (fun s e =>
        let t := clampI (16384 - lim) (16384 + lim) e.2.2
        let at_ := decide (t ≠ e.2.2)
        let old : Int := s.trim v e.2.1 e.1
        let y := s.sti v
        let s := s.putSti v { y with
          due := y.due ++ [(line, 4 * e.2.1 + e.1, (old + rshr (t - old) (s.vrec c v 232 4)).toNat)]
          limit := tabPut (dflt false) (4 * e.2.1 + e.1) at_ y.limit }
        if at_ then s.flag Pg.STI Fd.STI_STAT_TRIM_LIMIT else s) s

/-- Trims that hold from line `n` on; while trims are frozen they do not change (R270). -/
def State.trimsDue (s : State) (c : Copy) (v n : Nat) : State :=
  let x := s.sti v
  let hold := s.on Pg.STI (Fd.STI_VIEW_CTL_TRIM_FREEZE v) || s.vrec c v 224 8 == 0
  let now := if hold then [] else x.due.filter fun e => decide (e.1 ≤ n)
  s.putSti v { x with
    due := x.due.filter fun e => decide (n < e.1)
    trims := now.foldl (fun t e => tabPut (dflt 16384) e.2.1 e.2.2 t) x.trims }

/-! ### The web edge (R271, R272) -/

/-- The scan for the edge over (column, value) pairs in scan order; `step` is the signed distance of two columns. -/
def edgeScan (thr : Nat) (px : Nat) (right : Bool) : List (Nat × Option Nat) → Option Int
  | (c0, some a) :: (c1, some b) :: t =>
    if a < thr ∧ thr ≤ b then
      let d : Int := if right then rdiv ((px * (b - thr) : Nat) : Int) (b - a) else rdiv ((px * (thr - a) : Nat) : Int) (b - a)
      some (if right then (c1 * px : Nat) + d else (c0 * px : Nat) + d)
    else edgeScan thr px right ((c1, some b) :: t)
  | _ :: t => edgeScan thr px right t
  | [] => none

/-- The raw edge of a line (R271): `vals` gives the trimmed value of EDGE_PORT at a column. -/
def State.rawEdge (s : State) (c : Copy) (v : Nat) (vals : Nat → Option Nat) : Option Int :=
  let lo := s.vrec c v 96 19
  let hi := s.vrec c v 128 19
  let right := s.vrec c v 65 1 == 1
  let inv := s.vrec c v 66 1 == 1
  let f (col : Nat) : Nat × Option Nat := (col, (vals col).map fun x => if inv then 4095 - x else x)
  let cols := if right then (List.range (hi + 2 - lo)).map fun i => hi + 1 - i
    else (List.range (hi + 2 - lo)).map fun i => lo + i - 1
  let cols := if !right && lo == 0 then cols.drop 1 else cols
  edgeScan (s.vrec c v 80 12) (s.pitchX c v) right (cols.map f)

/-- E(n), the edge state and whether the line is flagged NO_EDGE (R272). -/
def State.edgeLine (s : State) (c : Copy) (v n : Nat) (lost : Bool) (raw : Option Int) : State × Int × Bool :=
  let fix := s.vrecI c v 160 32
  let g := Pg.STI
  let show_ (s : State) (e : Int) (no : Bool) : State × Int × Bool :=
    ((s.wr g (Rg.STI_EDGE_POS v) (BitVec.ofInt 32 e)).setBit g (Fd.STI_EDGE_STAT_NO_EDGE v) no, e, no)
  if s.vrec c v 64 1 = 0 ∨ s.on g (Fd.STI_VIEW_CTL_EDGE_HOLD v) then show_ s fix false
  else
    let x := s.view_ v
    let raw := if lost then none else raw
    match raw.filter fun u => x.reacq || decide ((u - x.ef).natAbs ≤ s.vrec c v 192 16) with
    | some u =>
      let e := if x.reacq then u else x.ef + rshr (u - x.ef) (s.vrec c v 76 4)
      let s := s.setView v { x with ef := e, misses := 0, reacq := false }
      let s := (s.setFld g (Fd.STI_EDGE_STAT_LOST v) 0).setFld g ⟨Rg.STI_STAT, v, 1⟩ 0
      show_ s e false
    | none =>
      let m := x.misses + 1
      let gone := decide (m = s.vrec c v 208 16)
      let s := s.setView v { x with misses := m, reacq := x.reacq || gone }
      let s := s.bump g (Fd.STI_EDGE_STAT_MISS_CNT v)
      let s := if gone then
          let s := (s.setFld g (Fd.STI_EDGE_STAT_LOST v) 1).setFld g ⟨Rg.STI_STAT, v, 1⟩ 1
          (s.logLine Er.EDGE_LOST g v n v).raiseLine (evEdgeLost v) v n (s.lineTime v n)
        else s
      show_ s x.ef true

/-! ### Repeat starts (R22, R305-R312, R331) -/

/-- ADAPT_FREEZE_EFFECT: the changes of the event state that anchor at or before line `n`; FREEZE wins on one line (R331). -/
def State.freezeDue (s : State) (v n rep : Nat) : State :=
  let x := s.mstV v
  let now := x.changes.filter fun e => decide (e.1 ≤ n)
  let last := maxN (now.map (·.1))
  let st := if now.isEmpty then x.frozen else now.any fun e => e.1 == last && e.2
  let st := if rep = 1 ∧ now.isEmpty then false else st
  s.putMst v { x with frozen := st, changes := x.changes.filter fun e => decide (n < e.1) }

/-- What a repeat start of a running job brings to its masters. As learning starts, the repeats captured for folding are lost: their folds do
not take place (R328). -/
def State.repeatMasters (s : State) (v n rep : Nat) (c : Copy) : State :=
  let s := match s.flipDue v rep with | some f => s.flip v n c f | none => s
  let s := s.freezeDue v n rep
  let s := if s.frozenNow c v then
      let x := s.mstV v
      s.putMst v { x with frozenRep := (rep :: x.frozenRep).take 64 }
    else s
  let x := s.mstV v
  let s := if x.learn.isNone && (x.will || x.relearn) then
      s.putMst v { x with
        learn := some { n := s.learnN c, start := rep }, relearn := false, will := true, skipped := 0, capRep := []
        flips := x.flips.filter fun f => f.kind != .fold || f.taken.isSome }
    else s
  let x := s.mstV v
  match x.learn with
  | some l => if l.ok.length < l.n then s.candidate c v rep else s.putMst v { x with cap := none }
  | none =>
    if s.adapts v n then s.putMst v { x with cap := some { rep := rep, slot := rep % 3 }, capRep := (rep :: x.capRep).take 64 }
    else s.putMst v { x with cap := none }

/-- A repeat start before its line is taken: the repeat that ends there is judged, and its capture is stored to the end. -/
def State.repeatEnd (s : State) (v n : Nat) (c : Copy) : State :=
  if (s.mstV v).learn.isSome then s.judgeCandidate v n (s.sti v).rep c
  else match s.geo c v with
    | some g => s.storeRows v g true
    | none => s

/-- Whether a repeat's capture would write a learn slot that a flip still reads; `t` is the state with the capture begun. Its repeat waits
(DESIGN CHOICE, log entry 67). -/
def State.capWait (s t : State) (v : Nat) : Bool :=
  match (t.mstV v).cap with
  | some x => (s.mstV v).flips.any fun f => !f.whole && f.slots.contains x.slot
  | none => false

/-- Whether the repeat start of `rep` waits for the verdict of the repeat that a fold flipped in there would take: a repeat captured for
folding whose REPEAT_VERDICT is still to come (R38, R54, R329, R330; DESIGN CHOICE, log entry 68). -/
def State.verdictWait (s : State) (v rep : Nat) : Bool :=
  let x := s.mstV v
  s.blockOn Pg.MRG Fd.MRG_CTL_EN && s.blockOn Pg.VRD Fd.VRD_CTL_EN && x.capRep.contains (rep - 2) && decide (x.judged < rep - 2)

/-! ### A view line (R260-R263) -/

/-- Port line `n` of a port of a view, once it is there: a port that takes no part in the run, or no longer, gives a gap line. -/
def State.portLine (s : State) (p n : Nat) : Option Body :=
  match s.assembled p n with
  | some b => some b
  | none =>
    let x := s.intk p
    let gone := match x.ended with | some e => decide (e < n) && x.next.isNone | none => false
    if (x.next.isSome && decide (n < x.start)) || gone || (!s.portOn p && x.next.isNone && x.units.isEmpty) then some .gap else none

/-- The dot-grid measurement takes a line of a port: the sums of its plane and the row mean (R273, R274). -/
def dotPort (plane : Nat) (l : List PLine) (d : DotPort) : DotPort :=
  match (l.find? (·.port == d.port)).map (fun (x : PLine) => x.body) with
  | some (Body.data rows) =>
    let r := (nth [] rows plane).map fun x => match x with | .val v => v | _ => 0
    { d with
      sums := if d.sums.isEmpty then r else List.zipWith (· + ·) d.sums r
      rows := d.rows ++ [(rdiv (sumN r : Nat) (Nat.max 1 r.length)).toNat] }
  | _ => d

/-- Whether a line of a measurement is lost (R275). -/
def dotLost (plane : Nat) (l : List PLine) : Bool :=
  l.any fun x => match x.body with | .data rows => (nth [] rows plane).contains .miss | _ => true

/-- The dot-grid measurement takes a line of its view. -/
def State.dotLine (s : State) (v n : Nat) (l : List PLine) : State :=
  match s.dot with
  | none => s
  | some d =>
    if d.view ≠ v ∨ n < d.first ∨ d.first + 2 ^ d.lg ≤ n then s
    else
      let plane := s.vrec .active v 428 2
      ({ s with dot := some { d with
        seen := d.seen + 1
        lost := d.lost || dotLost plane l
        ports := d.ports.map (dotPort plane l) } }).setFld Pg.STI Fd.STI_CAL_STAT_STATE 2

/-- The stitched planes of a line and what the ports gave (R262-R267). -/
def State.stitchPlanes (s : State) (c : Copy) (v : Nat) (l : List PLine) : List (List Px) × Bool :=
  let w := s.vWidth c v
  let sm := s.seams c v
  let r := (List.range (s.vPlanes c v)).map fun plane =>
    (List.range w).map fun col =>
      let hits := l.filterMap fun x => (s.portCol c v x plane col).map fun y => (x.port, s.trimmed v x.port plane y.1, y.2)
      (seamed sm col (hits.map fun h => (h.1, h.2.1)), hits.any (·.2.2))
  (r.map fun row => tokens (row.map (·.1)) (w / 48 + 1), r.any fun row => row.any (·.2))

/-- The trim sums of a line added (R268). -/
def State.sumTrims (s : State) (c : Copy) (v : Nat) (l : List PLine) : State :=
  let w := s.vWidth c v
  let lo := s.vrec c v 240 12
  if s.vrec c v 224 8 = 0 then s
  else
    let cols (p plane : Nat) : List (Option (Px × Bool)) := match l.find? (·.port == p) with
      | some x => (List.range w).map fun col => s.portCol c v x plane col
      | none => []
    let sums := (s.seams c v).zipIdx.flatMap fun e => (List.range (s.vPlanes c v)).map fun plane =>
      (e.2, plane, pairSums lo (cols e.1.1 plane) (cols e.1.2.1 plane))
    let x := s.sti v
    s.putSti v { x with sums := sums.foldl (fun a e => addSums a e.1 e.2.1 e.2.2) x.sums }

/-- Streams that line `n` of a view has moved to a port of it take the lines that the port has already delivered from there on. -/
def State.catchUp (s old : State) (v n : Nat) : State :=
  (List.range 7).foldl (fun (s : State) (k : Nat) =>
    let p := s.strD k 2 4
    if old.strD k 0 2 = 1 ∨ !s.strTakes k 1 p ∨ s.strView k ≠ v then s
    else
      let l := ((s.corr_ p).map fun x => x.n).eraseDups.filter fun m => decide (n ≤ m)
      l.foldl (fun (s : State) (m : Nat) => match s.assembled p m with
        | some b => s.streamLine k 1 p m (b == .gap) (b == .poison) (match b with | .data r => r | _ => [])
        | none => s) s) s

/-- A view line stitched and delivered. -/
def State.stitchLine (s : State) (v n : Nat) (l : List PLine) : State :=
  let c := s.copyAt v n
  let gap := l.all fun x => x.body == .gap
  let (planes, clamped) := s.stitchPlanes c v l
  let s := if clamped then s.flag Pg.STI Fd.STI_STAT_CLAMP_SEEN else s
  let s := s.sumTrims c v l
  let port := s.vrec c v 72 4
  let plane := s.vrec c v 67 2
  let edgeVal (col : Nat) : Option Nat := match l.find? (·.port == port) with
    | some x => match s.portCol c v x plane col with
      | some (y, _) => match s.trimmed v port plane y with | .val z => some z | _ => none
      | none => none
    | none => none
  let bad := gap || l.any fun x => x.port == port && (x.body == .gap || x.body == .poison)
  let (s, e, no) := s.edgeLine c v n bad (s.rawEdge c v edgeVal)
  let line : VLine := ⟨n, gap, planes, e, no⟩
  let x := s.sti v
  let s := s.putSti v { x with next := n + 1, lines := (line :: x.lines).take 16384 }
  let s := s.trimUpdate c v n
  let s := s.dotLine v n l
  let s := if s.mode = .setup ∨ s.mode = .hold then s
    else
      let s := s.captureLine v line
      let unlocked := !(s.frameAt v n).lock
      if gap ∨ unlocked ∨ planes.any (·.contains .bad) then
        let y := s.mstV v
        s.putMst v { y with badRep := if y.badRep.contains (s.repOf v n) then y.badRep else (s.repOf v n :: y.badRep).take 64 }
      else s
  let s := (s.feedStreams 0 v n gap false planes).catchUp s v n
  (s.portsOf v).foldl (fun s p => { s with corr := tabPut (dflt []) p ((s.corr_ p).filter fun x => decide (n < x.n)) s.corr }) s

/-- The first line of a run of a view (R270, R272). -/
def State.startRun (s : State) (v n : Nat) : State :=
  let c := s.copyAt v n
  let x := s.sti v
  let s := s.putSti v { x with run := some n, next := n, trims := [], due := [], limit := [], sums := [] }
  s.setView v { s.view_ v with ef := s.vrecI c v 160 32, misses := 0, reacq := false }

/-- The next view line of a view. -/
def State.nextStitch (s : State) (v : Nat) : Nat :=
  let x := s.sti v
  if x.run = some (s.view_ v).start then x.next else (s.view_ v).start

/-- Whether line `n` of a view belongs to no job: the running job has ended in the view, or the view has left it (R66, R84). -/
def State.partOver (s : State) (v n : Nat) : Bool :=
  let x := s.view_ v
  s.mode != .setup && ((match x.endAt with | some e => decide (e ≤ n) | none => false) ||
    (x.left && match x.chg with | some c => decide (c ≤ n) | none => false))

/-- Whether line `n` is where the new job begins in a view, its masters not yet taken. -/
def State.newPart (s : State) (v n : Nat) : Bool :=
  ((s.view_ v).chg == some n || (s.view_ v).part == some n) && (s.inForce v n).line != n

/-- The masters of a job as it begins in a view; folds are counted anew as it begins in its first one (R335). -/
def State.beginMasters (s : State) (v n : Nat) : State :=
  let others := (List.range 4).any fun w => w != v && s.copyAt w ((s.sti w).next - 1) == .next && decide (0 < (s.sti w).next)
  let s := if s.mode == .changeover && !others then s.wr Pg.MST Rg.MST_ADAPT_CNT 0 else s
  s.startMasters v n (s.mstV v).relearn

/-- A line of a running job at the stitcher: where it starts a repeat, with what the start brings. -/
def State.stitchJob (s : State) (v n : Nat) (l : List PLine) : State :=
  let c := s.copyAt v n
  let s := if s.newPart v n then s.beginMasters v n else s
  if !s.repeatStartAt v n then s.stitchLine v n l
  else
    let rep := s.repOf v n
    let s := s.repeatEnd v n c
    let t := s.repeatMasters v n rep c
    if s.verdictWait v rep || s.capWait t v then s else (t.putSti v { t.sti v with rep := n }).stitchLine v n l

/-- STITCH_VIEW_LINE: view line n is assembled once line n of every port has arrived (R260); it waits for events whose anchor
may be that line (R470) and, while a job runs, for the registration update of an earlier line (R282, R310). -/
def State.stitchView (s : State) (v : Nat) : State :=
  let n := s.nextStitch v
  let ps := s.portsAt v n
  let got := ps.map fun p => (s.portLine p n).map fun b => (⟨p, s.tapLen p n, b⟩ : PLine)
  if !s.on Pg.STI Fd.HDR_PAGE_CTL_EN || s.mode == .boot || s.mode == .idle || s.partOver v n || ps.isEmpty || decide (s.nextLine v ≤ n) || got.any (·.isNone) then s
  else if s.eventWait v n then s.flag Pg.EVF Fd.EVF_STAT_WAITED
  else
    let s := if (s.sti v).run = some (s.view_ v).start then s else s.startRun v n
    let s := [Pg.STI, Pg.REG, Pg.MST, Pg.DEC, Pg.STR].foldl (fun (s : State) p => s.stageLine p v n) s
    if !s.on Pg.STI Fd.STI_CTL_EN then s
    else
      let l := got.filterMap id
      let s := s.trimsDue (s.copyAt v n) v n
      if s.mode = .setup ∨ s.mode = .hold then s.stitchLine v n l
      else if s.updWait v n then s
      else s.stitchJob v n l

def execStitchViewLine (v : Fin 4) (s : State) : Host.Outcome State Fault Refusal := .next (s.stitchView v)

/-! ### Dot grid (R273-R275) -/

/-- A write of CAL_CTL. -/
def State.calCtl (s : State) (w : Word) : State :=
  let s := s.writeReg Pg.STI Rg.STI_CAL_CTL w
  if wf w 7 1 = 0 then s
  else if s.mode ≠ .setup ∨ s.dot.isSome then s.setFld Pg.STI Fd.STI_CAL_STAT_RESULT 2
  else
    let v := wf w 0 2
    let first := (Nat.max (s.nextStitch v) (s.nextLine v) + 63) / 64 * 64
    let ports := (s.portsOf v).map fun p => (⟨p, [], []⟩ : DotPort)
    { s with dot := some ⟨v, wf w 2 4, wf w 6 1 == 1, first, 0, false, ports⟩ }.wr Pg.STI Rg.STI_CAL_STAT 1

/-- DOT_GRID_GO. -/
def execDotGridGo (o : Owner) (w : Word) (s : State) : Host.Outcome State Fault Refusal :=
  .next (s.guarded o Pg.STI Rg.STI_CAL_CTL (·.calCtl w))

/-- The maximal runs of positions below a threshold, as lists of positions. -/
def darkRuns (thr : Nat) : List (Nat × Nat) → List Nat → List (List Nat)
  | [], cur => if cur.isEmpty then [] else [cur]
  | (k, x) :: t, cur =>
    if x < thr then darkRuns thr t (cur ++ [k])
    else (if cur.isEmpty then [] else [cur]) ++ darkRuns thr t []

/-- The accepted dots of a port: centre in 1/16 sample and grid position (R273). -/
def State.dotsOf (s : State) (v port : Nat) (prof : List Nat) : List (Int × Int) :=
  let thr := s.vrec .active v 416 12
  let pitch := s.vrec .active v 352 32
  let u0 := s.vrecI .active v 384 32
  let runs := (darkRuns thr (prof.zipIdx.map fun e => (e.2, e.1)) []).filter fun r => decide (2 ≤ r.length) && decide (r.length ≤ 64)
  let dots := runs.map fun r =>
    let wsum := sumN (r.map fun k => thr - nth 0 prof k)
    let kc := rdiv (16 * sumN (r.map fun k => k * (thr - nth 0 prof k)) : Nat) wsum
    let seg := kc.toNat / 4096
    let u := s.geoOffset .active port seg + rdiv (s.geoSpan .active port seg * (kc.toNat % 4096 : Nat)) 4096
    let d := if pitch = 0 then 0 else rdiv (u - u0) pitch
    (kc, d, u)
  (dots.filter fun e => decide (4 * (e.2.2 - u0 - e.2.1 * pitch).natAbs ≤ pitch) &&
    (dots.filter fun f => f.2.1 == e.2.1).length == 1).map fun e => (e.1, u0 + e.2.1 * pitch)

/-- The interpolated grid position at `x` in 1/16 sample between the two dots that bracket it, or the two nearest (R273). -/
def dotInterp (dots : List (Int × Int)) (x : Int) : Int :=
  let below := dots.filter fun d => decide (d.1 ≤ x)
  let above := dots.filter fun d => decide (x < d.1)
  let pick (a b : Int × Int) : Int := a.2 + rdiv ((b.2 - a.2) * (x - a.1)) (b.1 - a.1).natAbs
  match below.reverse, above with
  | a :: _, b :: _ => pick a b
  | b :: a :: _, [] => pick a b
  | [], a :: b :: _ => pick a b
  | _, _ => 0

/-- The row shift of a port against the reference (R274). -/
def rowShift (ref row : List Nat) : Int :=
  let cost (d : Int) : Nat :=
    sumN ((List.range ref.length).filterMap fun (n : Nat) =>
      let k : Int := (n : Int) + d
      if k < 0 ∨ (row.length : Int) ≤ k then none
      else some (((nth 0 row k.toNat : Nat) : Int) - (nth 0 ref n : Nat)).natAbs)
  let cands : List Int := (List.range 63).map fun (i : Nat) => (i : Int) - 31
  cands.foldl (fun best d =>
    if cost d < cost best ∨ (cost d = cost best ∧ (d.natAbs < best.natAbs ∨ (d.natAbs = best.natAbs ∧ d < best))) then d else best) 0

/-- The new geometry entries of a port: OFFSET and SPAN by segment. -/
def State.newGeo (len : Nat) (dots : List (Int × Int)) : List (Int × Int) :=
  (List.range ((len + 255) / 256)).map fun k =>
    let u := dotInterp dots (16 * 256 * k : Nat)
    (u, dotInterp dots (16 * 256 * (k + 1) : Nat) - u)

/-- The results of a measurement written (R275). -/
def State.dotWrite (s : State) (d : DotRun) (geo : List (Nat × List (Int × Int))) (ofs : List (Nat × Int)) : State :=
  let old (p k : Nat) : Int := s.geoOffset .active p k
  let corr := maxN (geo.flatMap fun e => e.2.zipIdx.flatMap fun (g : (Int × Int) × Nat) =>
    (g.1.1 - old e.1 g.2).natAbs ::
      if g.2 + 1 = e.2.length then [(g.1.1 + g.1.2 - old e.1 g.2 - s.geoSpan .active e.1 g.2).natAbs] else [])
  let s := geo.foldl (fun (s : State) (e : Nat × List (Int × Int)) => e.2.zipIdx.foldl (fun (s : State) (g : (Int × Int) × Nat) =>
    let a := stitchAt + 0x2000 + e.1 * 0x400 + 8 * g.2
    (s.setWinBits a 0 32 (toTwos 32 g.1.1)).setWinBits a 32 24 (toTwos 24 g.1.2)) s) s
  let s := if d.along then ofs.foldl (fun (s : State) (e : Nat × Int) =>
      let f := Fd.STI_PORT_CTL_OFS e.1
      (s.setFld Pg.STI f e.2.toNat).wrShadow Pg.STI f.off (wfSet (s.rdShadow Pg.STI f.off) f.lo f.len e.2.toNat)) s
    else s
  (s.setFld Pg.STI Fd.STI_CAL_STAT_RESULT 1).setFld Pg.STI Fd.STI_CAL_STAT_MAX_CORR (satN 16 (corr / 16))

/-- DOT_GRID_DONE: the measurement has seen its lines (R273-R275). -/
def State.dotDone (s : State) : State :=
  match s.dot with
  | none => s
  | some d =>
    if d.seen < 2 ^ d.lg then s
    else
      let s := { s with dot := none }.setFld Pg.STI Fd.STI_CAL_STAT_STATE 3
      let fin (r : Nat) : State := s.setFld Pg.STI Fd.STI_CAL_STAT_RESULT r
      if d.lost then fin 3
      else
        let dots := d.ports.map fun p => (p.port, p.sums.length, s.dotsOf d.view p.port (p.sums.map fun x => (rdiv (x : Nat) (2 ^ d.lg)).toNat))
        match dots.find? fun e => decide (e.2.2.length < 2) with
        | some e => (fin 4).setFld Pg.STI Fd.STI_CAL_STAT_FAIL_PORT e.1
        | none =>
          let ref := match d.ports with | p :: _ => p.rows | [] => []
          let raw := d.ports.map fun p => (p.port, (s.fld Pg.STI (Fd.STI_PORT_CTL_OFS p.port) : Int) + rowShift ref p.rows)
          let least := raw.foldl (fun m e => min m e.2) ((raw.headD (0, 0)).2)
          let ofs := raw.map fun e => (e.1, e.2 - least)
          if d.along ∧ ofs.any (fun e => decide (31 < e.2)) then fin 5
          else s.dotWrite d (dots.map fun e => (e.1, State.newGeo e.2.1 e.2.2)) ofs

def execDotGridDone (s : State) : Host.Outcome State Fault Refusal := .next s.dotDone

/-! ### The table registers (R290, R428) -/

/-- Whether the host may write the active copy for a port or a view (R233, R290): no running job enables the view, neither the active one nor,
in a changeover, the next one. -/
def State.viewFree (s : State) (v : Nat) : Bool :=
  !s.mode.job || !(s.enables .active v || (s.mode == .changeover && s.enables .next v))

/-- Whether a word of the stitch table space may be written (R290): its view, or its port's view, is free. -/
def State.tblFree (s : State) (o : Nat) : Bool :=
  if o < 0x100 then s.viewFree (o / 0x40)
  else if o < 0x800 then s.viewFree ((o - 0x100) / 0x100 % 4)
  else if o < 0x1800 then s.viewFree ((o - 0x800) / 0x400)
  else if o < 0x2000 then !s.mode.job
  else if o < 0x6000 then
    let p := (o - 0x2000) / 0x400
    !s.on Pg.STI (Fd.STI_PORT_CTL_IN_VIEW p) || s.viewFree (s.pView p)
  else false

/-- TBL_ADDR stepped after an access with INC (Table — STI.TBL_ADDR); STR's register has the same layout. -/
def State.tblStep (s : State) (p : Nat) : State :=
  if s.on p Fd.STI_TBL_ADDR_INC then s.setFld p Fd.STI_TBL_ADDR_ADDR ((s.fld p Fd.STI_TBL_ADDR_ADDR + 1) % 8192) else s

/-- The word that TBL_DATA reaches: STI's active table, or the stream table's shadow (R290, R428). -/
def State.tblWord (s : State) (str : Bool) : Nat :=
  if str then strShadowAt + 4 * s.fld Pg.STR Fd.STI_TBL_ADDR_ADDR else stitchAt + 4 * s.fld Pg.STI Fd.STI_TBL_ADDR_ADDR

/-- A read of TBL_DATA. -/
def State.tblRead (s : State) (str : Bool) : State × Word :=
  let w := s.win (s.tblWord str)
  (s.tblStep (if str then Pg.STR else Pg.STI), w)

/-- A write of TBL_DATA. -/
def State.tblWrite (s : State) (str : Bool) (w : Word) : State :=
  let a := s.tblWord str
  if str then
    let ok := decide (a < strShadowAt + 0x3800)
    (if ok then s.setWin a (w &&& winMask a) else s.flag Pg.STR Fd.STR_STAT_TBL_REFUSED).tblStep Pg.STR
  else
    (if s.tblFree (a - stitchAt) then s.setWin a (w &&& winMask a) else s.flag Pg.STI Fd.STI_STAT_TBL_REFUSED).tblStep Pg.STI

/-- TBL_DATA_ACCESS: an owner writes (`w`) or reads (none) TBL_DATA of STI or, with `str`, of STR. -/
def execTblDataAccess (o : Owner) (str : Bool) (w : Option Word) (s : State) : Host.Outcome State Fault Refusal :=
  let p := if str then Pg.STR else Pg.STI
  match w with
  | some x => .next (s.guarded o p Rg.STI_TBL_DATA (·.tblWrite str x))
  | none =>
    if s.reaches o p then
      let (t, x) := (s.touch o p).tblRead str
      .next (t.emit (.readData (ownerCode o) (p * 4096 + Rg.STI_TBL_DATA) x))
    else .next s

end Sys2Proof.Machine
end

