-- ==== Sys2Proof/Machine/Reg.lean ====
section
/-!
DEFINITION. Registration (R280-R285, R292): windows, updates, lock.
-/
namespace Sys2Proof.Machine

/-! ### Windows (R280) -/

/-- A stitched line that is kept. -/
def State.vline (s : State) (v n : Nat) : Option VLine := (s.sti v).lines.find? (·.n == n)

/-- O(J, K): none where a sample is missing, poisoned, from a gap line or outside the view. -/
def State.obsCoarse (s : State) (c : Copy) (v plane : Nat) (j k : Int) : Option Nat :=
  if j < 0 ∨ k < 0 ∨ (s.vWidth c v : Int) < 8 * j + 8 then none
  else
    let rows := (List.range 8).map fun i => match s.vline v (8 * k.toNat + i) with
      | some l => if l.gap then none else some (((nth [] l.planes plane).drop (8 * j.toNat)).take 8)
      | none => none
    if rows.any (·.isNone) then none
    else
      let px := (rows.map (·.getD [])).flatten
      if px.length ≠ 64 ∨ px.any (fun x => match x with | .val _ => false | _ => true) then none
      else some ((sumN (px.map fun x => match x with | .val y => y | _ => 0) + 32) / 64)

/-- A coarse entry of the master in force at a line (R298, R303, R317): VALUE and T8; none without a master or after an
uncorrected read. -/
def State.coarseRef (s : State) (v n : Nat) (j i : Int) (p : Nat) : Option (Nat × Nat) :=
  let f := s.inForce v n
  match s.geo (s.copyAt v n) v with
  | none => none
  | some g =>
    if f.kind = 0 then none
    else if f.kind = 3 then
      let jj := (clampI 0 ((cdiv g.mw 8 : Int) - 1) j).toNat
      let a := (g.p * g.coarseRow i + p) * g.cs + 4 * jj
      let w := leNat ((((((s.mstV v).prov.find? (·.1 == f.line)).map (·.2)).getD []).drop a).take 4)
      if s.dramBad (g.slot f.slot + g.coarseOfs + a) 4 then none else some (nb w 0 12, nb w 16 8)
    else s.coarseAt g f.slot j i p

/-- The sub-step of a best shift from the sums before, at and after it, limited to ±8 (R280). -/
def subStep (a m b : Int) : Int :=
  let d := a - 2 * m + b
  if d = 0 then 0
  else clampI (-8) 8 (if 0 < d then rdiv (8 * (a - b)) d.toNat else rdiv (-(8 * (a - b))) (-d).toNat)

/-- The best shift of a search from its sums: the minimum; ties go to the smallest |sx| + |sy|, then lower sy, then lower sx. -/
def bestShift (l : List (Int × Int × Nat)) : Int × Int × Nat :=
  let rank (e : Int × Int × Nat) : Nat := e.1.natAbs + e.2.1.natAbs
  l.foldl (fun b e =>
    if e.2.2 < b.2.2 ∨ (e.2.2 = b.2.2 ∧ (rank e < rank b ∨
        (rank e = rank b ∧ (e.2.1 < b.2.1 ∨ (e.2.1 = b.2.1 ∧ e.1 < b.1))))) then e else b) (l.headD (0, 0, 0))

/-- The shifts of a search range, in order. -/
def shifts (sr : Nat) : List (Int × Int) :=
  (List.range (2 * sr + 1)).flatMap fun (i : Nat) => (List.range (2 * sr + 1)).map fun (j : Nat) => ((j : Int) - sr, (i : Int) - sr)

/-- The sum of a search at a shift. -/
def sumAt (l : List (Int × Int × Nat)) (sx sy : Int) : Int :=
  match l.find? fun e => e.1 == sx && e.2.1 == sy with | some e => e.2.2 | none => 0

/-- A window of the next update measured (R280). A fraction that the manual leaves open, beside the edge of the search or over no
curvature, is free. -/
def State.measure (s : State) (v w : Nat) : State :=
  let r := (s.view_ v).updR
  let c := s.repCopy v r
  let px := s.pitchX c v
  let py := s.pitchY c v
  let f := s.frameAt v (s.updLine v r - 1)
  let sr := s.winSr c v w
  let (x0, y0) := (s.winF c v w 0 15, s.winF c v w 32 24)
  let (wd, hg) := (s.winF c v w 16 6 + 1, s.winF c v w 24 6 + 1)
  let plane := s.winF c v w 60 2
  let x := s.mx0 c v + 8 * x0 * px
  let yobs : Int := (8 * y0 * py : Nat) + (r - 1) * s.repeatLen c + f.zc
  let k0 := rdiv yobs (8 * py)
  let line := (8 * (k0 - sr)).toNat
  let e := match s.vline v line with | some l => l.edge | none => s.vrecI c v 160 32
  let uobs := x + e + f.o + rshr (f.b * (x - s.xc c v)) 24
  let j0 := rdiv uobs (8 * px)
  let obs (a b : Int) : Option Nat := s.obsCoarse c v plane (j0 + a) (k0 + b)
  let start := s.repLine v r 0
  let ref (a b : Nat) : Option Nat := (s.coarseRef v start (x0 + a : Nat) (y0 + b : Nat) plane).map (·.1)
  let cells := (List.range hg).flatMap fun b => (List.range wd).map fun a => (a, b)
  let whole := ((List.range (wd + 2 * sr)).all fun a => (List.range (hg + 2 * sr)).all fun b =>
      (obs ((a : Int) - sr) ((b : Int) - sr)).isSome) && cells.all fun q => (ref q.1 q.2).isSome
  let put (s : State) (res : WinRes) : State :=
    let y := s.view_ v
    { s with winRes := tabPut (dflt none) (64 * v + w) (some res) s.winRes }.setView v { y with wins := w :: y.wins }
  if !whole then
    let y : Int := Config.freeNat s.free % 4096
    put s.drawn ⟨false, tbit (Config.freeNat s.free) 12, y, y, 0, 0, x⟩
  else
    let sums := (shifts sr).map fun q => (q.1, q.2, sumN (cells.map fun k =>
      (((obs (k.1 + q.1) (k.2 + q.2)).getD 0 : Int) - ((ref k.1 k.2).getD 0 : Nat)).natAbs))
    let best := bestShift sums
    let (sx, sy, m) := best
    let edge := decide ((sr : Int) ≤ sx.natAbs) || decide ((sr : Int) ≤ sy.natAbs)
    let (l, r', u, d) := (sumAt sums (sx - 1) sy, sumAt sums (sx + 1) sy, sumAt sums sx (sy - 1), sumAt sums sx (sy + 1))
    let cx := l - 2 * m + r'
    let cy := u - 2 * m + d
    let free (k : Nat) : Int := (Config.freeNat (s.free + k) % 17 : Nat) - 8
    let fx := if edge || cx == 0 then free 0 else subStep l m r'
    let fy := if edge || cy == 0 then free 1 else subStep u m d
    let dx := rdiv (8 * px * (16 * (j0 + sx) + fx)) 16 - uobs
    let dy := rdiv (8 * py * (16 * (k0 + sy) + fy)) 16 - yobs
    let ok := !edge && decide (0 < cx) && decide (0 < cy) && decide (m ≤ s.winF c v w 64 12 * wd * hg)
    put s.drawn.drawn ⟨ok, edge, 16 * sx + fx, 16 * sy + fy, dx, dy, x⟩

/-- Whether the lines of a window have been stitched, and MST has written the coarse rows that it reads (R306). -/
def State.winReady (s : State) (v w : Nat) : Bool :=
  let r := (s.view_ v).updR
  let c := s.repCopy v r
  let y0 := s.winF c v w 32 24
  let hg := s.winF c v w 24 6 + 1
  let last := s.repLine v r (8 * s.pitchY c v * (y0 + hg + s.winSr c v w))
  decide (last + 4 ≤ (s.sti v).next) && (match s.geo c v with
    | some g => (List.range hg).all fun (b : Nat) => s.coarseReady v (s.repLine v r 0) (g.coarseRow (y0 + b : Nat))
    | none => true)

/-- REG_WINDOW_DONE: window `w` of view `v` is measured for the repeat of the next update (R280). -/
def State.regWindow (s : State) (v w : Nat) : State :=
  let x := s.view_ v
  if s.regRuns v && (s.winsOn (s.repCopy v x.updR) v).contains w && !x.wins.contains w && s.winReady v w then s.measure v w else s

def execRegWindowDone (v : Fin 4) (w : Fin 64) (s : State) : Host.Outcome State Fault Refusal := .next (s.regWindow v w)

/-! ### Updates (R277, R281-R284) -/

/-- bfit of R281. -/
def fitB (l : List WinRes) (ofit : Int) : Int :=
  let n : Int := l.length
  let sx := sumI (l.map (·.x))
  let den := sumI (l.map fun r => (n * r.x - sx) * (n * r.x - sx))
  if den ≤ 0 then 0 else rdiv (2 ^ 24 * n * sumI (l.map fun r => (n * r.x - sx) * (r.dx - ofit))) den.toNat

/-- Zc changed from a line on: the lines of later entries move with it. -/
def addFrame (l : List Frame) (f : Frame) (dz : Int) : List Frame :=
  (l.filter fun g => decide (f.line < g.line)).map (fun g => { g with zc := g.zc + dz, o := f.o, b := f.b, lock := f.lock, acq := f.acq })
    ++ f :: l.filter fun g => decide (g.line ≤ f.line)

/-- The effect of an update on a view's registration (R281-R284): `e`, `Ofit`, `bfit` and whether its windows are good. -/
def State.applyUpd (s : State) (v u : Nat) (c : Copy) (e ofit bfit : Int) (n : Nat) (winsGood : Bool) : State :=
  let g := Pg.REG
  let x := s.view_ v
  let f := s.frameAt v u
  let len := s.repeatLen c
  let sh := s.fld g (Fd.REG_VIEW_CTL_CORR_SHIFT v)
  let frozen := tbit (s.rdView g Rg.REG_CTL v).toNat 1
  let c' := x.c + rshr e sh
  let lim : Int := (s.vrec c v 336 16 * 2 ^ 24 / 1000000 : Nat)
  let wrap := x.wraps.find? fun w => decide (x.start ≤ w.1) && decide (w.1 + 64 ≤ u)
  let zt := match s.on g (Fd.REG_VIEW_CTL_ENC_EN v), wrap with
    | true, some w =>
      let z := s.zenc v w.2 + c' - f.zc
      f.zc + ((z + (len / 2 : Nat)) % (Nat.max 1 len : Nat) - (len / 2 : Nat))
    | _, _ => f.zc + rshr e sh
  let step : Int := (s.fld g (Fd.REG_VIEW_CTL_STEP_MAX_64 v) * s.pitchY c v / 64 : Nat)
  let dz := if frozen then 0 else clampI (-step) step (zt - f.zc)
  let kind := (s.inForce v u).kind
  let good := kind == 0 || kind == 3 || (winsGood && decide ((zt - f.zc - dz).natAbs ≤ s.vrec c v 272 16))
  let bad := if good then 0 else x.bad + 1
  let lock := good || (f.lock && decide (bad < s.fld g (Fd.REG_VIEW_CTL_LOST_CNT v)))
  let acqN := if f.acq then x.acqN + 1 else x.acqN
  let f' : Frame := { f with
    line := u, zc := f.zc + dz, lock := lock, acq := f.acq && !good
    o := if frozen then f.o else f.o + rshr ofit sh
    b := if frozen then f.b else clampI (-lim) lim (f.b + rshr bfit sh) }
  let k : Int := if good && !f.count && 0 < len then ((u : Int) * s.pitchY c v - f'.zc) / (len : Int) + 1 else 0
  let s := s.setView v { x with
    c := if frozen then x.c else c', bad := bad, acqN := acqN, updR := x.updR + 1 - k, wins := []
    frames := addFrame x.frames { f' with zc := f'.zc + k * len, count := f.count || good } (dz + k * len) }
  let s := s.wr g (Rg.REG_VIEW_STATE v)
    (BitVec.ofNat 32 (b2n lock + 2 * b2n f'.acq + 4 * n + 2 ^ 9 * toTwos 23 f'.b))
  let s := s.wr g (Rg.REG_VIEW_CORR_Y v) (BitVec.ofInt 32 (s.view_ v).c)
  let s := s.wr g (Rg.REG_VIEW_CORR_X v) (BitVec.ofInt 32 f'.o)
  let s := if f.lock && !lock then (s.flagBit g Fd.REG_STAT_LOCK_LOST v).logLine Er.REG_UNLOCKED g v u v else s
  let s := if f.lock != lock then s.raiseLine (evRegLock v) v u (s.lineTime v u) else s
  if f'.acq ∧ acqN = 8 then (s.flagBit g Fd.REG_STAT_NO_LOCK v).logLine Er.REG_NO_LOCK g v u v else s

/-- FINE_EN and FINE_PLANE from a line on, up to the next entry. -/
def setFine (l : List Frame) (u fine : Nat) : List Frame :=
  let f := (l.find? fun f => decide (f.line ≤ u)).getD { line := u, zc := 0, count := false }
  (l.filter fun g => decide (u < g.line)) ++ { f with line := u, fine := fine } :: l.filter fun g => decide (g.line < u)

/-- FINE_EN and FINE_PLANE follow a commit of the view's settings at its update line (R292). -/
def State.fineUpd (s : State) (v u : Nat) : State :=
  let x := s.view_ v
  let fine := wf (s.rd Pg.REG (Rg.REG_VIEW_CTL v)) 1 3
  if (s.frameAt v u).fine = fine then s else s.setView v { x with frames := setFine x.frames u fine }

/-- The update of a view at its line U(R), once every window of the repeat is measured and every wrap it may use is known. -/
def State.regUpd (s : State) (v : Nat) : State :=
  let x := s.view_ v
  let c := s.repCopy v x.updR
  let u := s.updLine v x.updR
  if !s.regRuns v || decide (s.nextLine v + 62 < u) || (s.winsOn c v).any (fun w => !x.wins.contains w) then s
  else
    let s := (s.applyParts Pg.REG (fun b => b == .update v) (some u)).fineUpd v u
    if !tbit (s.rdView Pg.REG Rg.REG_CTL v).toNat 0 then s.setView v { s.view_ v with updR := x.updR + 1, wins := [] }
    else
      let l := (x.wins.filterMap fun w => tabGet (dflt none) s.winRes (64 * v + w)).filter (·.valid)
      let n := l.length
      let e := if n = 0 then 0 else rdiv (sumI (l.map (·.dy))) n
      let ofit := if n = 0 then 0 else rdiv (sumI (l.map (·.dx))) n
      let bfit := fitB l ofit
      let tol := s.vrec c v 272 16
      let good := decide (s.fld Pg.REG (Fd.REG_VIEW_CTL_MIN_WIN v) ≤ n) && l.all fun r =>
        decide ((r.dy - e).natAbs ≤ tol) && decide (((r.dx - ofit) * 2 ^ 24 - bfit * (r.x - s.xc c v)).natAbs ≤ tol * 2 ^ 24)
      s.applyUpd v u c e ofit bfit n good

/-- REG_UPDATE of view `v`. -/
def execRegUpdate (v : Fin 4) (s : State) : Host.Outcome State Fault Refusal := .next (s.regUpd v)

/-- WIN_RES of the selected window (Table — REG.WIN_RES). -/
def State.winResWord (s : State) : Word :=
  let v := s.fld Pg.REG Fd.REG_SEL_VIEW
  let w := s.fld Pg.REG Fd.REG_SEL_WIN
  match tabGet (dflt none) s.winRes (64 * v + w) with
  | none => 0
  | some r => BitVec.ofNat 32 (b2n r.valid + 2 * b2n r.atEdge + 4 * toTwos 12 r.dx16 + 2 ^ 14 * toTwos 12 r.dy16)

end Sys2Proof.Machine
end

