-- ==== Sys2Proof/Machine/Records.lean ====
section
/-!
DEFINITION. The 512-bit record (R370-R375) and where a point of a view lies: position, repeat, cell (R17, R22, R26, R34).
-/
namespace Sys2Proof.Machine

/-- A number with the named fields, all other bits 0: lowest bit, width, value. -/
def mkBits (l : List (Nat × Nat × Nat)) : Nat := l.foldl (fun (x : Nat) (e : Nat × Nat × Nat) => nbSet x e.1 e.2.1 e.2.2) 0

/-- Record types (Table — Record types). -/
abbrev recDefect : Nat := 0x01
abbrev recCoarse : Nat := 0x02
abbrev recStorm : Nat := 0x03
abbrev recPresence : Nat := 0x04
abbrev recOverflow : Nat := 0x05
abbrev recCell : Nat := 0x10
abbrev recRepeat : Nat := 0x11
abbrev recStart : Nat := 0x20
abbrev recEnd : Nat := 0x21
abbrev recAct : Nat := 0x22
abbrev recGap : Nat := 0x30

/-- Record flags (Table — Record flags), by bit. -/
abbrev rfCoarse : Nat := 0
abbrev rfFlat : Nat := 1
abbrev rfNear : Nat := 2
abbrev rfPoison : Nat := 3
abbrev rfStormCut : Nat := 4
abbrev rfPrev : Nat := 5
abbrev rfNext : Nat := 6
abbrev rfNoCrop : Nat := 7
abbrev rfSat : Nat := 8
abbrev rfActReq : Nat := 9
abbrev rfCpath : Nat := 10
abbrev rfTrunc : Nat := 11

/-- The SAT flag of a record with the given counts, each with the width of its field (Table — Record flags). -/
def satFlag (l : List (Nat × Nat)) : Nat := if l.any fun e => decide (2 ^ e.1 ≤ e.2) then 2 ^ rfSat else 0

/-- Fields of a record. -/
def Rec.get (r : Rec) (lo len : Nat) : Nat := nb r.bits lo len
def Rec.put (r : Rec) (lo len v : Nat) : Rec := { r with bits := nbSet r.bits lo len v }
def Rec.type (r : Rec) : Nat := r.get 0 8
def Rec.sev (r : Rec) : Nat := r.get 22 4
def Rec.cls (r : Rec) : Nat := r.get 16 6
def Rec.cellNum (r : Rec) : Nat := r.get 32 16
def Rec.flag (r : Rec) (k : Nat) : Bool := tbit r.bits (48 + k)
def Rec.setFlag (r : Rec) (k : Nat) : Rec := r.put (48 + k) 1 1
def Rec.rep (r : Rec) : Nat := r.get 64 32
def Rec.x (r : Rec) : Int := sext 32 (r.get 96 32)
def Rec.webDist (r : Rec) : Nat := r.get 192 48

/-- Word 0 and word 1 fields that records of a place share (Table — Defect record). -/
def recHead (type job view pol cell flags rep : Nat) (x : Int) (y wd : Nat) : List (Nat × Nat × Nat) :=
  [(0, 8, type), (8, 6, job), (14, 2, view), (26, 2, pol), (32, 16, cell), (48, 16, flags), (64, 32, rep), (96, 32, toTwos 32 x),
    (128, 40, y), (192, 48, wd)]

/-- The number of a copy's job. -/
def State.jobId (s : State) (c : Copy) : Nat := match s.jobOf c with | some j => j.id | none => 0

/-! ### Cells (R31, R34) -/

/-- A field of a cell map entry. -/
def State.cellF (s : State) (c : Copy) (i lo len : Nat) : Nat := s.jobBits c sectCells (32 * i) lo len

/-- The number of cell map entries that a job holds (R31): of a longer section, the entries from index 4,096 on are ignored (DESIGN CHOICE,
log entry 65). -/
def State.cellCount (s : State) (c : Copy) : Nat :=
  match s.jobOf c with | some j => Nat.min 4096 ((j.bytes sectCells).length / 32) | none => 0

/-- The enabled entries of a copy's job, and those of a view. -/
def State.cellsOn (s : State) (c : Copy) : List Nat := (List.range (s.cellCount c)).filter fun i => s.cellF c i 216 1 == 1
def State.cellsOf (s : State) (c : Copy) (v : Nat) : List Nat := (s.cellsOn c).filter fun i => tbit (s.cellF c i 208 4) v

/-- Whether an entry's rectangle contains a point. -/
def State.cellHas (s : State) (c : Copy) (i : Nat) (x : Int) (y : Nat) : Bool :=
  decide (sext 32 (s.cellF c i 0 32) ≤ x) && decide (x < sext 32 (s.cellF c i 32 32)) &&
  decide (s.cellF c i 64 40 ≤ y) && decide (y < s.cellF c i 128 40)

/-- The cell map entry that a point of a view belongs to (R34). -/
def State.cellAt (s : State) (c : Copy) (v : Nat) (x : Int) (y : Nat) : Option Nat :=
  (s.cellsOf c v).find? fun i => s.cellHas c i x y

/-- The cell number of a point, 0xFFFF for no cell (R34). -/
def State.cellNumAt (s : State) (c : Copy) (v : Nat) (x : Int) (y : Nat) : Nat :=
  match s.cellAt c v x y with | some i => s.cellF c i 192 12 | none => 0xFFFF

/-- The enabled entry of a cell number. -/
def State.cellEntry (s : State) (c : Copy) (num : Nat) : Option Nat := (s.cellsOn c).find? fun i => s.cellF c i 192 12 == num

/-! ### Places -/

/-- E(n) of a line (R18, R272). -/
def State.edgeAt (s : State) (v n : Nat) : Int :=
  match s.vline v n with | some l => l.edge | none => s.vrecI (s.copyAt v n) v 160 32

/-- x of a column on a line (R17). -/
def State.xAt (s : State) (v n col : Nat) : Int := (col * s.pitchX (s.copyAt v n) v : Nat) - s.edgeAt v n

/-- The web distance of a line's position (R26). -/
def State.webAt (s : State) (v n y : Nat) : Nat := webDistance (s.repOf v n) (s.repeatLen (s.copyAt v n)) y

/-! ### Results of a job -/

def State.res (s : State) (c : Copy) : Results := match c with | .active => s.resA | .next => s.resN
def State.setRes (s : State) (c : Copy) (r : Results) : State :=
  match c with | .active => { s with resA := r } | .next => { s with resN := r }
def State.vres (s : State) (c : Copy) (v : Nat) : ViewRes := tabGet (dflt {}) (s.res c).views v
def State.setVres (s : State) (c : Copy) (v : Nat) (x : ViewRes) : State :=
  let r := s.res c
  s.setRes c { r with views := tabPut (dflt {}) v x r.views }

/-- The place of a VRD register in the values kept by repeat. -/
def vrdIdx (off : Nat) : Nat :=
  if off = Rg.VRD_SEV_CTL then 0 else if off = Rg.VRD_UNINSP_CTL then 1 else if off = Rg.VRD_LANE_X0 then 2 else 3

/-- SEV_CTL, UNINSP_CTL, LANE_X0 or LANE_W as it holds for a repeat of a job (R404): a next-repeat commit holds from its repeat on. -/
def State.vrdVal (s : State) (c : Copy) (rep off : Nat) : Word :=
  let early : Option Word := match c, s.pend Pg.VRD with
    | .active, some pd => pd.parts.findSome? fun (x : Part) => match x.bound with
      | .repeatStart _ q => if q ≤ rep then (x.regs.find? (·.1 == Pg.VRD * 4096 + off)).map (·.2) else none
      | _ => none
    | _, _ => none
  match early with
  | some w => w
  | none => match (s.res c).vals.find? fun e => decide (e.1 ≤ rep) with
    | some e => nth 0 e.2 (vrdIdx off)
    | none => s.jobRd c Pg.VRD off

def State.vrdFld (s : State) (c : Copy) (rep : Nat) (f : Fld) : Nat := wf (s.vrdVal c rep f.off) f.lo f.len

/-- CSCALE_INIT of a job: as it is when its repeat 1 first needs it (R389). -/
def State.scaleInit (s : State) (c : Copy) : Nat := (s.res c).init.getD (s.vrdFld c 1 Fd.VRD_UNINSP_CTL_CSCALE_INIT)

/-- Whether the tolerance scales of a repeat of a view are settled (R389). -/
def State.scaleKnown (s : State) (c : Copy) (v rep : Nat) : Bool :=
  decide (rep ≤ 2) || (s.vres c v).scales.any (·.1 == rep)

/-- CSCALE of a cell map entry in a repeat of a view (R389): 16 in no cell (R341). -/
def State.scaleAt (s : State) (c : Copy) (v rep : Nat) (cell : Option Nat) : Nat :=
  match cell with
  | none => 16
  | some i => match (s.vres c v).scales.find? fun e => decide (e.1 ≤ rep) with
    | some e => tabGet (dflt (s.scaleInit c)) e.2 i
    | none => s.scaleInit c

end Sys2Proof.Machine
end

