-- ==== Sys2Proof/Machine/Compare.lean ====
section
/-!
DEFINITION. The inspection engines (R286-R289, R337-R366): tiles and fine shifts, the difference test, masks, the coarse path,
closing, labels and pieces.
-/
namespace Sys2Proof.Machine

/-! ### The compare space (R338, R346, R367) -/

def State.engOf (s : State) (e : Nat) : Eng := tabGet (dflt {}) s.eng e
def State.putEng (s : State) (e : Nat) (x : Eng) : State := { s with eng := tabPut (dflt {}) e x s.eng }

/-- A field of a view compare record (Table — View compare record). -/
def State.cmpF (s : State) (c : Copy) (v lo len : Nat) : Nat := s.jobBits c sectCmp (0x40 * v) lo len

/-- JOIN of a view (R354). -/
def State.join (s : State) (c : Copy) (v : Nat) : Nat := s.cmpF c v 28 4

/-- A field of an engine entry (Table — Engine entry). -/
def State.engF (s : State) (c : Copy) (e lo len : Nat) : Nat := s.jobBits c sectCmp (0x100 + 8 * e) lo len

/-- The first and last columns of an engine's core, and of its stripe (R338). -/
def State.coreLo (s : State) (c : Copy) (e : Nat) : Nat := s.engF c e 0 19
def State.coreHi (s : State) (c : Copy) (e : Nat) : Nat := s.engF c e 24 19
def State.stripeLo (s : State) (c : Copy) (e : Nat) : Nat := s.coreLo c e - 16
def State.stripeHi (s : State) (c : Copy) (v e : Nat) : Nat := Nat.min (s.coreHi c e + 16) (s.vWidth c v - 1)

/-- The view that an engine serves in a copy's job (R338). -/
def State.engView (s : State) (c : Copy) (e : Nat) : Option Nat :=
  let v := s.engF c e 48 2
  if s.engF c e 56 1 = 1 ∧ s.enables c v then some v else none

/-- The engines of a view in a copy's job. -/
def State.enginesOf (s : State) (c : Copy) (v : Nat) : List Nat := (List.range 8).filter fun e => s.engView c e == some v

/-- A field of a mask region entry (Table — Mask region entry). -/
def State.maskF (s : State) (c : Copy) (r lo len : Nat) : Nat := s.jobBits c sectMasks (32 * r) lo len

/-- The enabled mask regions of a view. -/
def State.masksOf (s : State) (c : Copy) (v : Nat) : List Nat :=
  let n := match s.jobOf c with | some j => Nat.min 1024 ((j.bytes sectMasks).length / 32) | none => 0
  (List.range n).filter fun r => s.maskF c r 195 1 == 1 && tbit (s.maskF c r 196 4) v

/-- Mask modes (Table — Mask modes). -/
abbrev maskIgnore : Nat := 0
abbrev maskRelaxed : Nat := 1
abbrev maskPresence : Nat := 2
abbrev maskColour : Nat := 3

/-- The place of a mode in the order of R347. -/
def maskRank (mode : Nat) : Nat := if mode = maskIgnore then 0 else if mode = maskPresence then 1 else if mode = maskColour then 2 else 3

/-- The mask region that governs a point of a view (R346, R347). -/
def State.maskAt (s : State) (c : Copy) (v : Nat) (x : Int) (y : Nat) : Option Nat :=
  let l := (s.masksOf c v).filter fun r =>
    decide (sext 32 (s.maskF c r 0 32) ≤ x) && decide (x < sext 32 (s.maskF c r 32 32)) &&
    decide (s.maskF c r 64 40 ≤ y) && decide (y < s.maskF c r 128 40)
  (sortBy (fun r => maskRank (s.maskF c r 192 3)) l).head?

/-! ### The engine's part of a view (R339) -/

/-- The copy of the job that an engine works for. -/
def Eng.copy (x : Eng) : Copy := if x.newJob then .next else .active

/-- The first line of a job's part in a view, once it is known. -/
def State.partStart (s : State) (v : Nat) (newJob : Bool) : Option Nat :=
  let x := s.view_ v
  if newJob then (if s.mode == .changeover && x.past then x.chg else none)
  else if x.begun then x.part else none

/-- The line after the last one of a job's part in a view, once it is known. -/
def State.partEnd (s : State) (v : Nat) (newJob : Bool) : Option Nat :=
  let x := s.view_ v
  if !newJob && s.mode == .changeover then (if x.past then x.chg else none) else x.endAt

/-- What ASSIGN and ASSIGN_LAST show of an engine. -/
def State.showAssign (s : State) (e : Nat) : State :=
  let x := s.engOf e
  let p := Pg.IE e
  match x.view with
  | none => s.setFld p Fd.IE_ASSIGN_VALID 0
  | some v =>
    let s := (s.setFld p Fd.IE_ASSIGN_FIRST (s.coreLo x.copy e)).setFld p Fd.IE_ASSIGN_VIEW v
    (s.setFld p Fd.IE_ASSIGN_VALID 1).setFld p Fd.IE_ASSIGN_LAST_b0 (s.coreHi x.copy e)

/-- An engine without a part: its item queues stay as they are. -/
def Eng.idle (x : Eng) : Eng := { fifo := x.fifo, put := x.put, got := x.got }

/-- The view whose part an engine can take up of a job, and the line it starts from (R339, R84). -/
def State.engStart (s : State) (e : Nat) (newJob : Bool) : Option (Nat × Nat) :=
  let c := if newJob then Copy.next else Copy.active
  match s.engView c e with
  | none => none
  | some v => if (s.vres c v).doneE.contains e then none else (s.partStart v newJob).map fun n => (v, n)

/-- An engine set to its part of a view. -/
def State.engTake (s : State) (e v n : Nat) (newJob : Bool) : State :=
  (s.putEng e { (s.engOf e).idle with view := some v, newJob := newJob, next := n, label := n }).showAssign e

/-- An engine takes up its part of a view: the running job's, or in a changeover the next job's once it has none or has finished
that of the old job (R339, R84). -/
def State.assign (s : State) (e : Nat) : State :=
  if (s.engOf e).view.isSome || !s.mode.job then s
  else match s.engStart e false with
    | some (v, n) => s.engTake e v n false
    | none =>
      if (match s.engView .active e with | some v => (s.vres .active v).doneE.contains e | none => true) then
        match s.engStart e true with
        | some (v, n) => s.engTake e v n true
        | none => s
      else s

/-! ### The master (R299, R300, R340) -/

/-- A master read: not yet fetched, delivered poisoned, or a value with its T8. -/
inductive MRead where
  | absent
  | bad
  | val (m t8 : Nat)
deriving DecidableEq, Repr

/-- Sample (k, r) of plane `p` as the engine's buffer holds it (R299, R300). -/
def Eng.sample (x : Eng) (g : Geo) (ver p : Nat) (k r : Int) : MRead :=
  let kk := g.col k
  let rr := g.row r
  match x.blocks.find? fun b => b.ver == ver && b.p == p && b.brow == rr / 4 && b.bcol == kk / 4 with
  | none => .absent
  | some b => match b.data with
    | none => .bad
    | some d => .val (codeSample d.1 (rr % 4) (kk % 4)) d.2

/-- The four samples around a place that lies at offset (a, b) of a tile, and the fractions (R340). -/
def Eng.four (x : Eng) (g : Geo) (ver p : Nat) (t : Tile) (a b : Int) : List MRead :=
  let k := t.k0 + a + t.sx / 16
  let r := t.i0 + b + t.sy / 16
  [x.sample g ver p k r, x.sample g ver p (k + 1) r, x.sample g ver p k (r + 1), x.sample g ver p (k + 1) (r + 1)]

/-- The interpolated master value with the largest T8 (R340). -/
def Eng.master (x : Eng) (g : Geo) (ver p : Nat) (t : Tile) (a b : Int) : MRead :=
  let l := x.four g ver p t a b
  let fx := (t.sx % 16).toNat
  let fy := (t.sy % 16).toNat
  if l.contains .absent then .absent
  else if l.contains .bad then .bad
  else
    let m (i : Nat) : Nat := match nth MRead.bad l i with | .val m _ => m | _ => 0
    .val (((16 - fx) * (16 - fy) * m 0 + fx * (16 - fy) * m 1 + (16 - fx) * fy * m 2 + fx * fy * m 3 + 128) / 256)
      (maxN (l.map fun q => match q with | .val _ t8 => t8 | _ => 0))

/-! ### Panic (R517) -/

/-- The bytes in an engine's prefetch buffer: a code word and a T8 for each block. -/
def Eng.fill (x : Eng) : Nat := 9 * x.blocks.length

/-- An engine's port raises or clears panic in every channel (R517). -/
def State.panicCheck (s : State) (e : Nat) : State :=
  let g := Pg.MCG
  let x := s.engOf e
  let port := 11 + e
  let level := 512 * s.fld g Fd.MCG_PANIC_CTL_LEVEL
  let on := s.on g Fd.MCG_PANIC_CTL_EN && x.view.isSome && !x.fin
  let raise := on && decide (x.fill < level)
  let clear := !on || decide (level + 512 * s.fld g Fd.MCG_PANIC_CTL_HYST < x.fill)
  let s := (List.range 12).foldl (fun (s : State) (c : Nat) =>
    let m := s.mcOf c
    if raise && !m.panic.contains port then (s.setMc c { m with panic := insertBy id port m.panic }).bump (Pg.MC c) Fd.MC_PANIC_CNT_b0
    else if clear && m.panic.contains port then s.setMc c { m with panic := m.panic.erase port }
    else s) s
  let s := (List.range 12).foldl (fun (s : State) (c : Nat) => s.setBit (Pg.MC c) Fd.MC_STAT_PANIC (!(s.mcOf c).panic.isEmpty)) s
  s.setBit g Fd.MCG_STAT_PANIC_ANY ((List.range 12).any fun c => !(s.mcOf c).panic.isEmpty)

/-! ### MASTER_FETCH (R300) -/

/-- An engine waits for MST to write what it reads of the master in force at line `n` (R306): counted once for each line that it stands at
(Table — MST page) (DEDUCED, log entry 94). -/
def State.engHeld (s : State) (e v n : Nat) : State :=
  let x := s.engOf e
  let s := s.flagBit Pg.MST Fd.MST_STAT_WAITED v
  if x.held = some x.next then s
  else
    let fold : Bool := match s.writing v n with | some f => f.kind == FlipKind.fold | none => false
    (s.putEng e { x with held := some x.next }).bump Pg.MST (if fold then Fd.MST_WAIT_CNT_b16 else Fd.MST_WAIT_CNT_b0)

/-- The block of plane `p`, block column `bx` and block row `by_` of the master in force at line `n` arrives in an engine's buffer. -/
def State.fetch (s : State) (e n p bx by_ : Nat) (err : Bool) : State :=
  let s := s.assign e
  let x := s.engOf e
  match x.view with
  | none => s
  | some v =>
    match s.geo x.copy v with
    | none => s
    | some g =>
      let f := s.inForce v n
      if n < x.next ∨ (s.sti v).next ≤ n ∨ f.kind = 0 ∨ f.kind = 3 ∨ g.p ≤ p ∨ cdiv g.mw 4 ≤ bx ∨ cdiv g.mr 4 ≤ by_ ∨
          x.blocks.any (fun b => b.ver == f.line && b.p == p && b.brow == by_ && b.bcol == bx) then s
      else if !s.rowReady v n by_ then s.engHeld e v n
      else
        let d := if err then none else s.block g f.slot bx by_ p
        let s := if d.isNone then s.bump Pg.MST ⟨Rg.MST_FETCH_ERR, 0, 16⟩ else s
        (s.putEng e { x with blocks := x.blocks ++ [⟨f.line, p, by_, bx, d⟩] }).panicCheck e

/-- MASTER_FETCH: `err` is an uncorrected error of the read. -/
def execMasterFetch (e : Fin 8) (n : Nat) (p : Fin 3) (bx by_ : Nat) (err : Bool) (s : State) : Host.Outcome State Fault Refusal :=
  .next (s.fetch e n p bx by_ err)

/-! ### Tiles and fine shifts (R286-R288) -/

/-- Whether a line is compared on the coarse path only (R282, R317). -/
def State.coarseOnly (s : State) (v n : Nat) : Bool :=
  let k := (s.inForce v n).kind
  !(s.frameAt v n).lock || k == 0 || k == 3

/-- The tile row that holds a line of a part: its first line, and the line after its last. -/
def State.tileRowAt (s : State) (v : Nat) (newJob : Bool) (n : Nat) : Nat × Nat :=
  let a := n / 16 * 16
  (match s.partStart v newJob with | some b => Nat.max a b | none => a,
   match s.partEnd v newJob with | some b => Nat.min (a + 16) b | none => a + 16)

/-- The first columns of the tiles of an engine's core, with the number of columns (R286). -/
def State.tileCols (s : State) (c : Copy) (e : Nat) : List (Nat × Nat) :=
  let lo := s.coreLo c e
  let w := s.coreHi c e + 1 - lo
  (List.range (cdiv w 64)).map fun t => (lo + 64 * t, Nat.min 64 (w - 64 * t))

/-- The master sample of a tile's first sample (R286). -/
def State.tileAt (s : State) (c : Copy) (v n col : Nat) : Tile :=
  let x := s.xAt v n col
  { k0 := rdiv (x - s.across_ v n x - s.mx0 c v) (s.pitchX c v), i0 := rdiv (s.yOf v n : Nat) (s.pitchY c v) }

/-- Observed sample of a plane: missing on a gap line. -/
def VLine.obs (l : VLine) (p col : Nat) : Px := if l.gap then .miss else nth .miss (nth [] l.planes p) col

/-- The lines of a tile row that are compared on the fine path. -/
def State.fineLines (s : State) (v n0 n1 : Nat) : List VLine :=
  ((List.range (n1 - n0)).filterMap fun i => s.vline v (n0 + i)).filter fun l => decide (0 < s.repOf v l.n) && !s.coarseOnly v l.n

/-- The planes that a tile's sums use (R287). -/
def State.finePlanes (s : State) (c : Copy) (v n : Nat) : List Nat :=
  let p := (s.frameAt v n).fine / 2
  if s.vPlanes c v = 1 then [0] else if p = 3 then [0, 1, 2] else [p]

/-- The tile of `w` columns from `col` of the tile row from `n0` to below `n1`, with its shift (R286-R288); none while a master
block it needs has not been fetched. -/
def State.tile (s : State) (x : Eng) (v n0 n1 col w : Nat) (left above : Option Tile) : Option Tile :=
  let c := x.copy
  let t := s.tileAt c v n0 col
  let ls := s.fineLines v n0 n1
  match s.geo c v with
  | none => some t
  | some g =>
    if (s.frameAt v n0).fine % 2 = 0 ∨ ls.isEmpty then some t
    else
      let planes := s.finePlanes c v n0
      let cells := ls.flatMap fun l => (List.range w).map fun i => (l, i)
      let obs (l : VLine) (i p : Nat) : Px := l.obs p (col + i)
      let use := cells.filter fun q => planes.all fun p => match obs q.1 q.2 p with | .val _ => true | _ => false
      let ref (l : VLine) (i p : Nat) (d : Int × Int) : MRead :=
        x.sample g (s.inForce v l.n).line p (t.k0 + i + d.1) (t.i0 + ((l.n - n0 : Nat) : Int) + d.2)
      let reads := (shifts 2).flatMap fun d => cells.flatMap fun q => planes.map fun p => ref q.1 q.2 p d
      if reads.contains .absent then none
      else if reads.contains .bad || cells.any (fun q => (List.range (s.vPlanes c v)).any fun p => obs q.1 q.2 p == .bad) then some t
      else
        let sums := (shifts 2).map fun d => (d.1, d.2, sumN (use.flatMap fun q => planes.map fun p =>
          (((match obs q.1 q.2 p with | .val o => o | _ => 0) : Int) -
            ((match ref q.1 q.2 p d with | .val m _ => m | _ => 0 : Nat) : Int)).natAbs))
        let (sx, sy, m) := bestShift sums
        let (l, r, u, d) := (sumAt sums (sx - 1) sy, sumAt sums (sx + 1) sy, sumAt sums sx (sy - 1), sumAt sums sx (sy + 1))
        let cx := l - 2 * m + r
        let cy := u - 2 * m + d
        let least : Int := s.vrec c v 320 16
        if sx.natAbs = 2 ∨ sy.natAbs = 2 ∨ cx ≤ 0 ∨ cy ≤ 0 ∨ cx < least ∨ cy < least ∨ cells.length < 2 * (cells.length - use.length) then
          let back (o : Option Tile) : Option (Int × Int) := match o with | some b => if b.own then some (b.sx, b.sy) else none | none => none
          let f := ((back left).orElse fun _ => back above).getD (0, 0)
          some { t with sx := f.1, sy := f.2, flat := true }
        else some { t with sx := 16 * sx + subStep l m r, sy := 16 * sy + subStep u m d, own := true }

/-- FINE_SHIFT: the next tile of an engine's tile rows, in order (R286-R288). -/
def State.fineShift (s : State) (e : Nat) : State :=
  let s := s.assign e
  let x := s.engOf e
  match x.view with
  | none => s
  | some v =>
    let c := x.copy
    let cols := s.tileCols c e
    let part : Option TileRow := match x.rows.getLast? with
      | some r => if r.tiles.length < cols.length && decide (x.next < r.n1) then some r else none
      | none => none
    let n := match part, x.rows.getLast? with | some r, _ => r.n0 | none, some r => Nat.max r.n1 x.next | none, none => x.next
    let (n0, n1) := match part with | some r => (r.n0, r.n1) | none => s.tileRowAt v x.newJob n
    if n1 ≤ n0 ∨ (s.sti v).next < n1 ∨ (s.regRuns v ∧ s.updLine v (s.view_ v).updR < n1) then s
    else
      let done := match part with | some r => r.tiles | none => []
      let rows := match part with | some _ => x.rows.dropLast | none => x.rows
      match cols[done.length]? with
      | none => s
      | some (col, w) =>
        let above := match rows.getLast? with
          | some r => if r.n1 = n0 ∧ n0 % 16 = 0 then r.tiles[done.length]? else none
          | none => none
        match s.tile x v n0 n1 col w done.getLast? above with
        | none => s.flag (Pg.IE e) Fd.IE_STAT_WAITED
        | some t =>
          let s := if t.flat then s.bump (Pg.IE e) Fd.IE_CNT1_FLAT else s
          s.putEng e { x with rows := rows ++ [⟨n0, n1, done ++ [t]⟩] }

def execFineShift (e : Fin 8) (s : State) : Host.Outcome State Fault Refusal := .next (s.fineShift e)

/-! ### The difference test (R340-R345) -/

/-- A vector in device colour: Lq, Aq, Bq (R343). -/
def State.deviceColour (s : State) (c : Copy) (v : Nat) (x : List Nat) : List Int :=
  let m (i j : Nat) : Int := sext 16 (s.cmpF c v (128 + 16 * (3 * i + j)) 16)
  let q (i : Nat) : Int :=
    s.jobBits c sectCmp (0x1000 + 0x2000 * v) (16 * clamp12 (rshr (sumI ((List.range 3).map fun j => m i j * (nth 0 x j : Nat))) 12)) 12
  [q 1, rshr ((q 0 - q 1) * s.cmpF c v 80 16) 8, rshr ((q 1 - q 2) * s.cmpF c v 96 16) 8]

/-- ΔE of two vectors (R343). -/
def State.deltaE (s : State) (c : Copy) (v : Nat) (o m : List Nat) : Nat :=
  isqrt (sumN ((List.zip (s.deviceColour c v o) (s.deviceColour c v m)).map fun (e : Int × Int) => (e.1 - e.2).natAbs ^ 2))

/-- The tolerance of a plane beside its floors (R341, R350): MSCALE and FLOOR_ADD of the governing region, CSCALE. -/
def State.tolOf (s : State) (c : Copy) (v rep : Nat) (cell mask : Option Nat) (t8 : Nat) : Int :=
  let relaxed := match mask with | some r => s.maskF c r 192 3 == maskRelaxed | none => false
  let (ms, add) := match mask, relaxed with | some r, true => (s.maskF c r 208 8, s.maskF c r 216 12) | _, _ => (16, 0)
  let scale := rshr (s.scaleAt c v rep cell * ms : Nat) 4
  rshr (4 * t8 * scale) 4 + (add : Nat)

/-- A pixel decided (R340-R348): `tl` is its tile and its offset in it, none on a line compared on the coarse path only. Answers
none while a master block has not been fetched. -/
def State.pixel (s : State) (x : Eng) (v : Nat) (l : VLine) (col : Nat) (tl : Option (Tile × Int × Int)) : Option Pix :=
  let c := x.copy
  let np := s.vPlanes c v
  let rep := s.repOf v l.n
  let px := s.xAt v l.n col
  let y := s.yOf v l.n
  let cell := s.cellAt c v px y
  let mask := s.maskAt c v px y
  let mode := mask.map fun r => s.maskF c r 192 3
  let obs := (List.range np).map fun p => l.obs p col
  let ms : List MRead := match tl, s.geo c v with
    | some (t, a, b), some g => (List.range np).map fun p => x.master g (s.inForce v l.n).line p t a b
    | _, _ => []
  if ms.contains .absent then none
  else
    let noref := ms.any fun m => match m with | .val _ t8 => t8 == 255 | _ => false
    let cls := if obs.contains .bad || ms.contains .bad then 1 else if obs.contains .miss then 2
      else if tl.isNone then 4 else if noref then 3
      else if mode = some maskIgnore ∨ (mode = some maskColour ∧ np = 1) then 6 else 0
    let o := obs.map fun q => match q with | .val z => z | _ => 0
    let m := ms.map fun q => match q with | .val z _ => z | _ => 0
    let base : Pix := {
      cls := cls, cell := cell, region := if mode = some maskPresence then mask else none
      flat := match tl with | some (t, _, _) => t.flat | none => false }
    if cls ≠ 0 then some base
    else if mode = some maskPresence then
      let r := mask.getD 0
      let p := if np = 1 then 0 else s.maskF c r 220 2
      let thr := s.maskF c r 208 12
      some { base with inkO := decide (nth 0 o p < thr), inkM := decide (nth 0 m p < thr) }
    else
      let d := List.zipWith (fun (a b : Nat) => (a : Int) - b) o m
      let tols := ms.map fun q => match q with | .val _ t8 => s.tolOf c v rep cell mask t8 | _ => 0
      let tested := mode ≠ some maskColour
      let floorL : Int := s.cmpF c v 0 12
      let floorD : Int := s.cmpF c v 16 12
      let light := tested && s.cmpF c v 12 1 == 1 && (List.zip d tols).any fun (e : Int × Int) => decide (e.2 + floorL < e.1)
      let dark := tested && s.cmpF c v 13 1 == 1 && (List.zip d tols).any fun (e : Int × Int) => decide (e.2 + floorD < -e.1)
      let de := if np = 3 ∧ s.cmpF c v 14 1 = 1 then s.deltaE c v o m else 0
      let colour := decide (np = 3) && s.cmpF c v 14 1 == 1 && decide (s.cmpF c v 32 12 < de)
      some { base with hit := light || dark || colour, light := light, dark := dark, con := maxN (d.map absI), de := de }

/-- The pixels of an engine's stripe on a line (R339); none while a tile or a master block is lacking. -/
def State.pixels (s : State) (e : Nat) (x : Eng) (v : Nat) (l : VLine) : Option (List Pix) :=
  let c := x.copy
  let lo := s.stripeLo c e
  let cols := (List.range (s.stripeHi c v e + 1 - lo)).map (lo + ·)
  let row := x.rows.find? fun r => decide (r.n0 ≤ l.n) && decide (l.n < r.n1)
  let tiles := match row with | some r => r.tiles | none => []
  let n0 := match row with | some r => r.n0 | none => l.n
  let coarse := s.coarseOnly v l.n
  if !coarse && decide (tiles.length < (s.tileCols c e).length) then none
  else
    let first := s.coreLo c e
    let pick (col : Nat) : Option (Tile × Int × Int) :=
      let t := Nat.min ((Nat.max col first - first) / 64) (tiles.length - 1)
      (tiles[t]?).map fun q => (q, (col : Int) - (first + 64 * t : Nat), ((l.n - n0 : Nat) : Int))
    let px := cols.map fun col => s.pixel x v l col (if coarse then none else pick col)
    if px.contains none then none else some (px.filterMap id)

/-! ### The item queues (R364) -/

/-- The words of an item's frame, and what engines are called as holders of credits. The manual states no form of the frames (DESIGN CHOICE,
log entry 69). -/
abbrev itemWords : Nat := 8
abbrev engHolder : Nat := 2

/-- The item queue of an engine at a place of its ring (R364). -/
def itemQueue (e k : Nat) : Nat := 3072 + 16 * e + k % 16

/-- The first item that waits written as a frame to the ring's next queue, its words free. -/
def State.putItem (s : State) (e : Nat) : State :=
  let x := s.engOf e
  let q := itemQueue e x.put
  let s := (List.range itemWords).foldl (fun (s : State) k =>
    s.qPush q engHolder (BitVec.ofNat 64 (Config.freeNat (s.free + k))) tagValid (k == 0) (k + 1 == itemWords)) s
  (s.drawnN itemWords).putEng e { x with put := (x.put + 1) % 16, togo := x.togo.drop 1, fifo := x.fifo ++ x.togo.take 1 }

/-- Items that wait written as far as their queues give credit (R484); an engine that is refused waits (Table — IEe.STAT). -/
def State.putItems (s : State) (e : Nat) : Nat → State
  | 0 => s
  | k + 1 =>
    if (s.engOf e).togo.isEmpty then s
    else
      let (s, ok) := s.qRequest (itemQueue e (s.engOf e).put) engHolder itemWords false
      if ok then (s.putItem e).putItems e k else s.flag (Pg.IE e) Fd.IE_STAT_WAITED

/-- Items of an engine emitted, behind those that wait. -/
def State.sendItems (s : State) (e : Nat) (l : List EngItem) : State :=
  let x := s.engOf e
  (s.putEng e { x with togo := x.togo ++ l }).putItems e (x.togo ++ l).length

/-! ### The coarse path (R349-R351) -/

/-- A coarse pixel of a row: light, dark and contrast; none where it is not tested (R350). -/
def State.coarsePixel (s : State) (x : Eng) (v k j : Nat) : Option (Bool × Bool × Nat) :=
  let c := x.copy
  let n := 8 * k + 4
  let col := 8 * j + 4
  let px := s.xAt v n col
  let y := s.yOf v n
  let xm := px - s.across_ v n px
  let jm := rdiv (xm - s.mx0 c v) (8 * s.pitchX c v)
  let km := rdiv (y : Nat) (8 * s.pitchY c v)
  let mask := s.maskAt c v px y
  let cell := s.cellAt c v px y
  let off : Bool := match mask with | some r => s.maskF c r 192 3 != maskRelaxed | none => false
  let planes := List.range (s.vPlanes c v)
  let obs := planes.map fun p => s.obsCoarse c v p j k
  let lost := x.lines.any fun l => l.n / 8 == k && ((l.px.drop (8 * j - l.col0)).take 8).any fun p => p.cls == 1 || p.cls == 2
  let ref := planes.map fun p => s.coarseRef v n jm km p
  if off ∨ lost ∨ obs.contains none ∨ ref.contains none ∨ ref.any (fun r => match r with | some e => e.2 == 255 | none => true) then none
  else
    let z := (List.zip obs ref).map fun (e : Option Nat × Option (Nat × Nat)) =>
      let r := e.2.getD (0, 0)
      (((e.1.getD 0 : Nat) : Int) - r.1, s.tolOf c v (s.repOf v n) cell mask r.2 + (s.cmpF c v 48 12 : Nat))
    let light := s.cmpF c v 12 1 == 1 && z.any fun (e : Int × Int) => decide (e.2 < e.1)
    let dark := s.cmpF c v 13 1 == 1 && z.any fun (e : Int × Int) => decide (e.2 < -e.1)
    some (light, dark, maxN (z.map fun e => absI e.1))

/-- A coarse alarm's record (R351; Table — Other record types): the failing coarse pixels by column. -/
def State.alarmRec (s : State) (e : Nat) (x : Eng) (v k : Nat) (f : List (Nat × Bool × Bool × Nat)) : Rec :=
  let n := 8 * k + 4
  let lo := 8 * (f.map (·.1)).headD 0
  let hi := 8 * ((f.map (·.1)).getLast?.getD 0) + 7
  let col := (lo + hi + 1) / 2
  let px := s.xAt v n col
  let y := s.yOf v n
  let light := (f.filter fun q => q.2.1).length
  let dark := (f.filter fun q => q.2.2.1).length
  let pol := if dark = 0 then (if light = 0 then 0 else 1) else if light = 0 then 2 else 3
  let cpath := (List.range 8).any fun i => s.coarseOnly v (8 * k + i)
  { bits := mkBits (recHead recCoarse (s.jobId x.copy) v pol (s.cellNumAt x.copy v px y) (1 + 2 ^ rfCpath * b2n cpath) (s.repOf v n) px y
      (s.webAt v n y) ++ [(256, 64, s.lineTime v n), (320, 19, lo), (339, 19, hi), (358, 12, 4), (370, 12, 3), (384, 32, f.length),
      (416, 12, maxN (f.map fun q => q.2.2.2)), (432, 16, light), (448, 16, dark), (464, 3, e)])
    view := v, key := 8 * k + 7, ref := some n }

/-- COARSE_ALARM: coarse row K of an engine's core tested once its last line has been decided (R349-R351, R364). -/
def State.coarseRow (s : State) (e v n : Nat) : State :=
  let x := s.engOf e
  let c := x.copy
  let k := n / 8
  let whole := match s.partStart v x.newJob with | some a => decide (a ≤ 8 * k) | none => false
  if n % 8 ≠ 7 ∨ !whole ∨ (List.range 8).any (fun i => s.repOf v (8 * k + i) == 0) then s
  else
    let js := (List.range (s.coreHi c e / 8 + 1)).filter fun j => decide (s.coreLo c e ≤ 8 * j)
    let f := js.filterMap fun j => match s.coarsePixel x v k j with
      | some (light, dark, con) => if light || dark then some (j, light, dark, con) else none
      | none => none
    if f.length < s.cmpF c v 64 8 ∨ f.isEmpty then s
    else
      let s := s.bump (Pg.IE e) Fd.IE_CNT0_COARSE
      if s.cmpF c v 60 1 = 0 then s
      else
        (s.sendItems e [.alarm (s.alarmRec e x v k f)]).raiseLine (evCoarse e) v n (s.lineTime v n)

/-- Whether the coarse row that line `n` completes waits for MST to write what it is tested against (R306). -/
def State.coarseWait (s : State) (x : Eng) (v n : Nat) : Bool :=
  n % 8 == 7 && match s.geo x.copy v with
    | some g => !s.coarseReady v (n - 3) (g.coarseRow (rdiv (s.yOf v (n - 3) : Nat) (8 * s.pitchY x.copy v)))
    | none => false

/-! ### Closing and labels (R352-R354, R362) -/

/-- The defect pixels of a line over the stripe, none for a line outside the part (R352). -/
def Eng.dRow (x : Eng) (w n : Nat) : List Bool :=
  match x.lines.find? (·.n == n) with
  | some l => if l.px.isEmpty then List.replicate w false else l.px.map (·.hit)
  | none => List.replicate w false

/-- A row with every position joined to its two neighbours by a function; `edge` stands outside the stripe. -/
def neighbours (f : Bool → Bool → Bool) (edge : Bool) (r : List Bool) : List Bool :=
  List.zipWith f (List.zipWith f (edge :: r) r) (r.drop 1 ++ [edge])

/-- The 3 × 3 dilation at a line. -/
def Eng.dilated (x : Eng) (w n : Nat) : List Bool :=
  neighbours or false (List.zipWith or (List.zipWith or (if n = 0 then List.replicate w false else x.dRow w (n - 1)) (x.dRow w n)) (x.dRow w (n + 1)))

/-- The map C of a line (R352). -/
def Eng.cRow (x : Eng) (close : Bool) (l : PixLine) : List Bool :=
  let w := l.px.length
  let m := if close then
      neighbours and true (List.zipWith and (List.zipWith and (if l.n = 0 then x.dilated w 0 else x.dilated w (l.n - 1)) (x.dilated w l.n))
        (x.dilated w (l.n + 1)))
    else l.px.map (·.hit)
  List.zipWith (fun (b : Bool) (p : Pix) => b && p.cls == 0) m l.px

/-- The columns of a line's map C that lie in the core. -/
def PixLine.core (l : PixLine) (lo hi : Nat) : List Nat :=
  (List.zip (List.range l.cm.length) l.cm).filterMap fun (e : Nat × Bool) =>
    if e.2 && decide (lo ≤ l.col0 + e.1) && decide (l.col0 + e.1 ≤ hi) then some (l.col0 + e.1) else none

/-- The core pixels of a line in class STORM, but for those of an earlier class (R345, R362). -/
def PixLine.storm (l : PixLine) (lo hi : Nat) : PixLine :=
  { l with px := l.px.zipIdx.map fun (e : Pix × Nat) =>
      if (e.1.cls = 0 ∨ e.1.cls = 6) ∧ lo ≤ l.col0 + e.2 ∧ l.col0 + e.2 ≤ hi then { e.1 with cls := 5, hit := false, light := false, dark := false, inkO := false, inkM := false }
      else e.1 }

/-- The labels that a line needs: its core pixels of C without a linked pixel of the band before them (R354, R362). -/
def Eng.needs (x : Eng) (join lo hi : Nat) (l : PixLine) : Nat :=
  let here := l.core lo hi
  let above := (x.lines.filter fun q => q.band == l.band && decide (q.n < l.n) && decide (l.n ≤ q.n + join)).flatMap fun q => q.core lo hi
  let linked (c : Nat) : Bool :=
    above.any (fun a => decide (a ≤ c + join) && decide (c ≤ a + join)) || here.any fun a => decide (a < c) && decide (c ≤ a + join)
  (here.filter fun c => !linked c).length

/-- Core pixels counted for their cells and presence regions (R348, R363). -/
def Eng.count (x : Eng) (lo hi : Nat) (l : PixLine) : Eng :=
  let core := (l.px.zipIdx.filter fun (e : Pix × Nat) => decide (lo ≤ l.col0 + e.2) && decide (l.col0 + e.2 ≤ hi)).map (·.1)
  core.foldl (fun (x : Eng) (p : Pix) =>
    let x := match p.cell with
      | none => x
      | some i =>
        let a := (x.cells.find? fun a => a.cell == i && a.rep == l.rep).getD { cell := i, rep := l.rep }
        { x with cells := { a with cnt := setNth a.cnt p.cls (nth 0 a.cnt p.cls + 1) } :: x.cells.filter fun b => !(b.cell == i && b.rep == l.rep) }
    match p.region with
    | none => x
    | some r =>
      let a := (x.pres.find? fun a => a.region == r && a.rep == l.rep).getD { region := r, rep := l.rep }
      let a := { a with g := a.g + 1, u := a.u + b2n (p.cls != 0), oi := a.oi + b2n p.inkO, mi := a.mi + b2n p.inkM }
      { x with pres := a :: x.pres.filter fun b => !(b.region == r && b.rep == l.rep) }) x

/-- The labels an engine has in use (R362). -/
def Eng.labels (x : Eng) : Nat := sumN (x.bands.map (·.labels))

/-- A band of an engine changed. -/
def Eng.mapBand (x : Eng) (first : Nat) (f : OpenBand → OpenBand) : Eng :=
  { x with bands := x.bands.map fun b => if b.first = first then f b else b }

/-- A line of an engine replaced. -/
def Eng.putLine (x : Eng) (l : PixLine) : Eng := { x with lines := x.lines.map fun q => if q.n = l.n then l else q }

/-- LABEL_STORM at line `l` (R362). -/
def State.labelStorm (s : State) (e v : Nat) (l : PixLine) : State :=
  let p := Pg.IE e
  let s := (s.bump p Fd.IE_CNT1_STORMS).flag p Fd.IE_STAT_STORM_SEEN
  (s.logLine Er.LABEL_STORM p v l.n e (l.n % 2 ^ 32)).raiseLine (evStorm e) v l.n (s.lineTime v l.n)

/-- The line at `x.label` labelled: its map C, its labels, a storm, and its counts (R352, R354, R362). -/
def State.labelLine (s : State) (e v : Nat) : State :=
  let x := s.engOf e
  let c := x.copy
  let (lo, hi) := (s.coreLo c e, s.coreHi c e)
  match x.lines.find? (·.n == x.label) with
  | none => s.putEng e { x with label := x.label + 1 }
  | some l =>
    let band := x.bands.find? (·.first == l.band)
    let l := { l with cm := x.cRow (s.cmpF c v 15 1 == 1) l }
    let x := x.putLine l
    let need := x.needs (s.join c v) lo hi l
    let was := match band with | some b => b.storm.isSome | none => false
    let now := !was && decide (65536 < x.labels + need)
    let s := if now then s.labelStorm e v l else s
    let x := if now then x.mapBand l.band fun b => { b with storm := some l.n } else x
    let x := if was || now then
        { x with lines := x.lines.map fun q =>
            if q.band = l.band ∧ l.n ≤ q.n then
              let q := q.storm lo hi
              { q with cm := q.cm.zipIdx.map fun (b : Bool × Nat) => b.1 && !(decide (lo ≤ q.col0 + b.2) && decide (q.col0 + b.2 ≤ hi)) }
            else q }
      else x.mapBand l.band fun b => { b with labels := b.labels + need }
    let x := match x.lines.find? (·.n == l.n) with | some q => x.count lo hi q | none => x
    let s := s.putEng e { x with label := x.label + 1 }
    (s.setFld (Pg.IE e) Fd.IE_LABELS_OPEN x.labels).setBit (Pg.IE e) Fd.IE_STAT_STORM (was || now)

/-! ### IE_COMPARE_LINE (R340-R355) -/

/-- The end of an engine's part: its open band ends, and the lines still to be labelled are (R355). -/
def State.closePart (s : State) (e : Nat) : State :=
  let x := s.engOf e
  match x.view with
  | none => s
  | some v =>
    match s.partEnd v x.newJob with
    | none => s
    | some n =>
      if x.fin ∨ x.next < n then s
      else
        let s := s.putEng e { x with fin := true, bands := x.bands.map fun b => if b.last.isNone then { b with last := some (x.next - 1) } else b }
        let s := (List.range (x.next - x.label)).foldl (fun (s : State) (_ : Nat) => s.labelLine e v) s
        s.panicCheck e

/-- An engine whose part has ended and whose items have all been read is free; no storm goes on. -/
def State.freeEngine (s : State) (e : Nat) : State :=
  let x := s.engOf e
  match x.view with
  | none => s
  | some v =>
    if !x.fin || !x.bands.isEmpty || !x.togo.isEmpty || !x.fifo.isEmpty then s
    else
      let y := s.vres x.copy v
      (((s.setVres x.copy v { y with doneE := y.doneE ++ [e] }).putEng e x.idle).setFld (Pg.IE e) Fd.IE_STAT_STORM 0).showAssign e

/-- Whether a line of a view waits for registration or a tolerance scale (R43, R279, R389): no wait that IEe.STAT shows. -/
def State.lineWaits (s : State) (c : Copy) (v n : Nat) : Bool :=
  s.updWait v n || !s.scaleKnown c v (s.repOf v n)

/-- A band opened at a cut line (R353). -/
def State.cutLine (s : State) (x : Eng) (v n : Nat) : Eng :=
  if x.bands.isEmpty || n % 2 ^ s.cmpF x.copy v 44 4 == 0 || s.repeatStartAt v n then
    { x with bands := (x.bands.map fun b => if b.last.isNone then { b with last := some (n - 1) } else b) ++ [{ first := n }] }
  else x

/-- Blocks that no later line reads leave the buffer: those of a master no longer in force, and those whose rows lie behind. -/
def State.evict (s : State) (x : Eng) (v n : Nat) : List FetchedBlock :=
  match s.geo x.copy v with
  | none => []
  | some g =>
    let f := s.inForce v n
    let row : Int := rdiv (s.yOf v n : Nat) (s.pitchY x.copy v)
    x.blocks.filter fun b => decide (f.line ≤ b.ver) && !g.behind row b.brow

/-- An engine compares the next line of its stripe. -/
def State.compareLine (s : State) (e : Nat) : State :=
  let s := (((s.assign e).closePart e).sendItems e []).freeEngine e
  let x := s.engOf e
  match x.view with
  | none => s
  | some v =>
    let c := x.copy
    let n := x.next
    match s.vline v n with
    | none => s
    | some l =>
      if x.fin || !s.blockOn (Pg.IE e) Fd.IE_CTL_EN || !x.togo.isEmpty || s.lineWaits c v n then s
      else if s.coarseWait x v n then s.engHeld e v (n - 3)
      else
        let rep := s.repOf v n
        match if rep = 0 then some [] else s.pixels e x v l with
        | none => s.flag (Pg.IE e) Fd.IE_STAT_WAITED
        | some px =>
          let r := s.res c
          let s := if rep = 0 ∨ r.init.isSome then s else s.setRes c { r with init := some (s.scaleInit c) }
          let y := s.vres c v
          let s := if y.reach < rep then s.setVres c v { y with reach := rep } else s
          let x := s.cutLine x v n
          let band := (x.bands.getLast?.map (·.first)).getD n
          let q : PixLine := { n := n, rep := rep, band := band, col0 := s.stripeLo c e, px := px }
          let storm := match x.bands.getLast? with | some b => b.storm.isSome | none => false
          let q := if storm then q.storm (s.coreLo c e) (s.coreHi c e) else q
          let x := { x with next := n + 1, lines := x.lines ++ [q], rows := x.rows.filter fun t => decide (n + 1 < t.n1 + 16) }
          let s := s.putEng e { x with blocks := s.evict x v (n + 1) }
          let s := if px.any fun p => p.cls == 1 then s.flag (Pg.IE e) Fd.IE_STAT_POISON_SEEN else s
          let s := if x.label + 2 ≤ n then s.labelLine e v else s
          ((s.coarseRow e v n).closePart e).panicCheck e

def execIeCompareLine (e : Fin 8) (s : State) : Host.Outcome State Fault Refusal := .next (s.compareLine e)

/-! ### Pieces (R354-R358) and BAND_EMIT (R355, R359, R363, R364) -/

/-- Things grouped transitively by a relation, in order. -/
def groupRel (rel : α → α → Bool) (l : List α) : List (List α) :=
  l.foldl (fun (gs : List (List α)) (a : α) =>
    let hit := gs.filter fun g => g.any (rel a)
    let miss := gs.filter fun g => !g.any (rel a)
    miss ++ [hit.flatten ++ [a]]) []

/-- Whether two places lie within JOIN lines and JOIN columns of each other. -/
def within (join : Nat) (a b : Nat × Nat) : Bool :=
  decide (a.1 ≤ b.1 + join) && decide (b.1 ≤ a.1 + join) && decide (a.2 ≤ b.2 + join) && decide (b.2 ≤ a.2 + join)

/-- The lower of two places, by line and then by column. -/
def placeKey (p : Nat × Nat) : Nat := p.1 * 2 ^ 19 + p.2

/-- Whether a place lies in C, and its pixel, as an engine has them. -/
def Eng.inC (x : Eng) (n : Nat) (col : Int) : Bool :=
  match x.lines.find? (·.n == n) with
  | some l => decide ((l.col0 : Int) ≤ col) && nth false l.cm (col - l.col0).toNat
  | none => false

def Eng.clsAt (x : Eng) (n : Nat) (col : Int) : Nat :=
  match x.lines.find? (·.n == n) with
  | some l => if (l.col0 : Int) ≤ col then (nth ({} : Pix) l.px (col - l.col0).toNat).cls else 0
  | none => 0

/-- The eight places around a place, and the four direct ones. -/
def around (n c : Nat) : List (Nat × Int) :=
  (if n = 0 then [] else [(n - 1, (c : Int) - 1), (n - 1, (c : Int)), (n - 1, (c : Int) + 1)]) ++
    [(n, (c : Int) - 1), (n, (c : Int) + 1), (n + 1, (c : Int) - 1), (n + 1, (c : Int)), (n + 1, (c : Int) + 1)]
def direct (n c : Nat) : List (Nat × Int) :=
  (if n = 0 then [] else [(n - 1, (c : Int))]) ++ [(n, (c : Int) - 1), (n, (c : Int) + 1), (n + 1, (c : Int))]

/-- A piece from its pixels (R356-R358). -/
def Eng.piece (x : Eng) (join lo hi first last : Nat) (storm : Option Nat) (stripe : Nat × Nat) (l : List ((Nat × Nat) × Pix)) : Piece :=
  let at_ := l.map (·.1)
  let ns := at_.map (·.1)
  let cs := at_.map (·.2)
  let seed := (sortBy placeKey at_).headD (0, 0)
  let hits := (l.map (·.2)).filter (·.hit)
  let nMax := maxN ns
  let near (f : Nat → Bool) : Bool := at_.any fun p => (around p.1 p.2).any fun q => f (x.clsAt q.1 q.2)
  let flags := 2 ^ rfFlat * b2n (l.any fun e => e.2.flat) + 2 ^ rfNear * b2n (near fun k => decide (2 ≤ k) && decide (k ≤ 5)) +
    2 ^ rfPoison * b2n (near (· == 1)) + 2 ^ rfStormCut * b2n (match storm with | some t => nMax + 1 == t | none => false)
  { seed := seed, area := l.length, cMin := cs.foldl Nat.min seed.2, cMax := maxN cs, nMin := seed.1, nMax := nMax
    sc := sumN cs, sn := sumN ns, sc2 := sumN (cs.map fun c => c * c), sn2 := sumN (ns.map fun n => n * n)
    scn := sumN (at_.map fun p => p.1 * p.2), sumAbs := sumN (hits.map (·.con)), maxAbs := maxN (hits.map (·.con))
    light := (hits.filter (·.light)).length, dark := (hits.filter (·.dark)).length, sumDe := sumN (hits.map (·.de))
    perim := (at_.filter fun p => (direct p.1 p.2).any fun q => !x.inC q.1 q.2).length, flags := flags, crop := false, stripe := stripe
    rim := at_.filter fun p => decide (p.1 < first + join) || decide (last < p.1 + join) || decide (p.2 < lo + join) || decide (hi < p.2 + join) }

/-- The runs of a line's pixels of C over a range of columns. -/
def runsOf : List Nat → List (Nat × Nat)
  | [] => []
  | c :: t => match runsOf t with
    | (a, b) :: l => if a = c + 1 then (c, b) :: l else (c, c) :: (a, b) :: l
    | [] => [(c, c)]

/-- The columns of a core within JOIN of an edge that borders another engine's core (R359). -/
def atEdge (join lo hi width c : Nat) : Bool :=
  (decide (0 < lo) && decide (c < lo + join)) || (decide (hi + 1 < width) && decide (hi < c + join))

/-- The edge runs of lines, by line and then by column (R359, R364); `of` gives the seed of the piece that holds a pixel. -/
def edgeRuns (join lo hi width : Nat) (of : Nat → Nat → Option (Nat × Nat)) (l : List PixLine) : List EdgeRun :=
  l.flatMap fun q => (runsOf ((q.core lo hi).filter (atEdge join lo hi width))).map fun r => ⟨q.n, r.1, r.2, of q.n r.1⟩

/-- Whether a line is the last one of its repeat that lies below `yMax` (R363); a repeat that starts at or past it counts at its start. -/
def State.lastBelow (s : State) (x : Eng) (v yMax n : Nat) : Bool :=
  let c := x.copy
  let y := s.yOf v n
  let same := (match s.partEnd v x.newJob with | some z => decide (n + 1 < z) | none => true) && s.repOf v (n + 1) == s.repOf v n
  let more := match s.partEnd v x.newJob with
    | some z => if n + 1 < z then same && decide (s.yOf v (n + 1) < yMax) else decide (y + s.pitchY c v < yMax)
    | none => same && decide (s.yOf v (n + 1) < yMax)
  if y < yMax then !more else s.repeatStartAt v n

/-- Whether the part's last line ends a repeat of the view (R66, R85). -/
def State.endsRepeat (s : State) (x : Eng) (v last : Nat) : Bool :=
  let rep := s.repOf v last
  let atEnd := match s.partEnd v x.newJob with | some z => decide (z ≤ last + 1) | none => false
  decide (0 < rep) &&
    if atEnd then
      (s.mode == .changeover && !x.newJob && s.fld Pg.SYS Fd.SYS_CHG_CTL_TRIGGER == 0 && s.enables .next v) ||
        decide (s.repeatLen x.copy ≤ s.yOf v last + s.pitchY x.copy v)
    else s.repOf v (last + 1) != rep

/-- The number of a band's items (R364). -/
def BandItems.count (b : BandItems) : Nat := b.pieces.length + b.runs.length + b.pres.length + b2n b.storm.isSome + b.cells.length

/-- Pieces in order of their seeds, each with whether its crop could be captured (R364, R376); answers the crops in capture. -/
def giveCrops (crops : List Nat) : List Piece → List Nat × List Piece
  | [] => (crops, [])
  | p :: t =>
    let open_ := crops.filter fun z => decide (p.seed.1 ≤ z)
    let ok := decide (open_.length < 64)
    let (c, r) := giveCrops (if ok then (p.seed.1 + 47) :: open_ else open_) t
    (c, { p with crop := ok } :: r)

/-- BAND_EMIT: the items of an engine's oldest band, once line e(b) has been decided (R355). Items before them that still wait for credit go
first. -/
def State.bandEmit (s : State) (e : Nat) : State :=
  let s := (s.closePart e).sendItems e []
  let x := s.engOf e
  match x.view, x.bands with
  | some v, b :: rest =>
    match b.last with
    | none => s
    | some last =>
      let c := x.copy
      let j := s.join c v
      let key := last + j + 2
      if !(x.fin || decide (key < x.next)) || !x.togo.isEmpty then s
      else
        let (lo, hi) := (s.coreLo c e, s.coreHi c e)
        let mine := x.lines.filter (·.band == b.first)
        let px := mine.flatMap fun l => (l.core lo hi).map fun col => ((l.n, col), nth ({} : Pix) l.px (col - l.col0))
        let groups := groupRel (fun (p q : (Nat × Nat) × Pix) => within j p.1 q.1) px
        let stripe := (s.stripeLo c e, s.stripeHi c v e)
        let pieces := sortBy (fun p => placeKey p.seed) (groups.map fun g => x.piece j lo hi b.first last b.storm stripe g)
        let (crops, pieces) := giveCrops x.crops pieces
        let after := match rest with | b' :: _ => some b'.first | [] => none
        let next := x.lines.filter fun l => some l.band == after && decide (l.n ≤ last + j)
        let ahead := next.flatMap fun l => (l.core lo hi).map fun col => (l.n, col)
        let seed (n col : Nat) : Option (Nat × Nat) := (groups.find? fun g => g.any fun p => p.1 == (n, col)).map fun g =>
          (sortBy placeKey (g.map (·.1))).headD (0, 0)
        let w := s.vWidth c v
        let runs := edgeRuns j lo hi w seed mine ++ edgeRuns j lo hi w (fun _ _ => none) next
        let lines := (mine.filter fun l => decide (0 < l.rep)).map fun l => (l.n, l.rep)
        let pres := ((s.masksOf c v).filter fun r => s.maskF c r 192 3 == maskPresence).flatMap fun r =>
          (lines.filter fun l => s.lastBelow x v (s.maskF c r 128 40) l.1).map fun l =>
            (x.pres.find? fun a => a.region == r && a.rep == l.2).getD { region := r, rep := l.2 }
        let cells := (s.cellsOf c v).flatMap fun i =>
          (lines.filter fun l => s.lastBelow x v (s.cellF c i 128 40) l.1).map fun l =>
            (x.cells.find? fun a => a.cell == i && a.rep == l.2).getD { cell := i, rep := l.2 }
        let cells := sortBy (fun a => s.cellF c a.cell 192 12) cells
        let items : BandItems := {
          eng := e, first := b.first, last := last, key := key, rep := s.repOf v last, pieces := pieces, ahead := ahead, runs := runs, pres := pres
          storm := b.storm, cells := cells, ends := s.endsRepeat x v last, spoilt := List.replicate x.spoilt 0xFFFFFFFF }
        let items := { items with total := items.count }
        let keep := Nat.min ((after.getD x.next) - 3) (x.next / 8 * 8)
        let x' := { x with
          bands := rest, spoilt := 0, crops := crops, lines := x.lines.filter fun l => decide (keep ≤ l.n)
          cells := x.cells.filter fun a => !cells.contains a, pres := x.pres.filter fun a => !pres.contains a }
        let y := s.vres c v
        let s := (s.putEng e x').setVres c v { y with bands := y.bands ++ [items] }
        let s := (s.bumpBy (Pg.IE e) Fd.IE_CNT0_PIECES pieces.length).setFld (Pg.IE e) Fd.IE_LABELS_OPEN x'.labels
        let s := s.setBit (Pg.IE e) Fd.IE_STAT_STORM (rest.any (·.storm.isSome))
        (s.sendItems e ((List.range items.total).map fun k => .band b.first k)).freeEngine e
  | _, _ => s.freeEngine e

def execBandEmit (e : Fin 8) (s : State) : Host.Outcome State Fault Refusal := .next (s.bandEmit e)

end Sys2Proof.Machine
end

