-- ==== Sys2Proof/Machine/Merge.lean ====
section
/-!
DEFINITION. Merging across stripes (R357-R361, R610), records (R370-R375, R382), and the order in which they go on (R380).
-/
namespace Sys2Proof.Machine

/-! ### Lines -/

/-- The position sampling cycle of a line's trigger (R380); a line past the view's last one counts with that one. -/
def State.cycleOf (s : State) (v n last : Nat) : Nat :=
  match s.lineRec v n with
  | some r => r.cycle
  | none => match s.lineRec v last with | some r => r.cycle | none => 0

/-- The last line at or before `n` that a test holds for, `k` lines back at most. -/
def lineBack (f : Nat → Bool) : Nat → Nat → Option Nat
  | 0, _ => none
  | k + 1, n => if f n then some n else if n = 0 then none else lineBack f k (n - 1)

/-- The last line of a repeat at or before `n` that lies below `yMax`. -/
def State.lineBelow (s : State) (v rep yMax n : Nat) : Nat :=
  (lineBack (fun m => s.repOf v m == rep && decide (s.yOf v m < yMax)) 16384 n).getD n

/-- The first line of a repeat whose y is at or past `y`, from `n` back (R399). -/
def State.lineAtY (s : State) (v rep y n : Nat) : Option Nat :=
  match lineBack (fun m => s.repOf v m == rep && decide (s.yOf v m < y)) 16384 n with
  | some m => if s.repOf v (m + 1) = rep then some (m + 1) else none
  | none => match lineBack (fun m => s.repOf v m != rep) 16384 n with
    | some m => if s.repOf v (m + 1) = rep then some (m + 1) else none
    | none => none

/-! ### Defects (R357, R360, R361) -/

/-- The first continuation id of a view not yet given, and the one after it (R361). -/
def State.nextId (s : State) (v : Nat) : State × Nat :=
  let n := (s.rd Pg.MRG (Rg.MRG_CONT_ID v)).toNat
  (s.wr Pg.MRG (Rg.MRG_CONT_ID v) (BitVec.ofNat 32 (if n + 1 = 2 ^ 32 then 1 else n + 1)), n)

/-- The continuation id and flags of a merged defect, given the pixels of the bands before and after (R358, R361). -/
def State.contOf (s : State) (v join : Nat) (rim : List (Nat × Nat)) (tails : List Tail) (ahead : List (Nat × Nat)) : State × Nat × Nat :=
  let hit := tails.filter fun t => t.px.any fun q => rim.any fun p => within join p q
  let next := ahead.any fun q => rim.any fun p => within join p q
  let ids := (hit.map (·.id)).filter (· != 0)
  let flags := 2 ^ rfPrev * b2n (!hit.isEmpty) + 2 ^ rfNext * b2n next
  if !ids.isEmpty then (s, ids.foldl Nat.min (ids.headD 0), flags)
  else if !hit.isEmpty || next then
    let (s, n) := s.nextId v
    (s, n, flags)
  else (s, 0, flags)

/-- λ-based elongation (R357). -/
def elong (p q sxy : Int) : Nat :=
  let dq := isqrt ((p - q).natAbs ^ 2 + 4 * sxy.natAbs ^ 2)
  let l1 := (p + q + dq).toNat
  let l2 := (p + q - dq).toNat
  if l1 = 0 then 256 else if l2 = 0 then 65535 else Nat.min 65535 (256 * l1 / l2)

/-- The record of a merged defect from its pieces, lowest seed first (R357, R371, R372, R377). -/
def State.defectRec (s : State) (c : Copy) (v band : Nat) (l : List Piece) (id flags : Nat) : Rec :=
  let sum (f : Piece → Nat) : Nat := sumN (l.map f)
  let a := Nat.max 1 (sum (·.area))
  let px := s.pitchX c v
  let py := s.pitchY c v
  let cx := rdiv (16 * sum (·.sc) : Nat) a
  let cn := (rdiv (16 * sum (·.sn) : Nat) a).toNat
  let nc := cn / 16
  let x := rdiv (cx * px) 16 - s.edgeAt v nc
  let y := Nat.min (s.yOf v nc + (rdiv (cn % 16 * py : Nat) 16).toNat) (s.repeatLen c - 1)
  let p : Int := (a * sum (·.sc2) : Nat) - (sum (·.sc) ^ 2 : Nat)
  let q : Int := (a * sum (·.sn2) : Nat) - (sum (·.sn) ^ 2 : Nat)
  let r : Int := (a * sum (·.scn) : Nat) - (sum (·.sc) * sum (·.sn) : Nat)
  let light := sum (·.light)
  let dark := sum (·.dark)
  let pol := if dark = 0 then (if light = 0 then 0 else 1) else if light = 0 then 2 else 3
  let perim := sum (·.perim)
  let fl := l.foldl (fun (f : Nat) (p : Piece) => f ||| p.flags) flags
  let crops := (l.filter (·.crop)).map fun p => ({ view := v, seed := p.seed, stripe := p.stripe, planes := s.vPlanes c v } : Crop)
  let crop := if tbit (s.jobFld c Pg.MRG Fd.MRG_CROP_CTL_EN) v then crops.head? else none
  let fl := fl + 2 ^ rfNoCrop * b2n crop.isNone + 2 ^ rfSat * b2n (decide (65535 < perim))
  let lo := (l.map (·.nMin)).foldl Nat.min nc
  let hi := maxN (l.map (·.nMax))
  let cMin := (l.map (·.cMin)).foldl Nat.min (maxN (l.map (·.cMax)))
  { bits := mkBits (recHead recDefect (s.jobId c) v pol (s.cellNumAt c v x y) fl (s.repOf v nc) x y (s.webAt v nc y) ++
      [(168, 13, (rdiv (sum (·.sumDe) : Nat) a).toNat), (240, 16, elong p q r), (256, 64, s.lineTime v nc), (320, 19, cMin),
       (339, 19, maxN (l.map (·.cMax))), (358, 12, nc - lo), (370, 12, hi - nc), (384, 32, sum (·.area)), (416, 12, maxN (l.map (·.maxAbs))),
       (432, 16, satN 16 perim), (480, 32, id)])
    view := v, key := 0, ref := some nc, band := band, crop := crop }

/-- Whether two edge runs lie within JOIN lines and JOIN columns of each other (R360). -/
def runsNear (join : Nat) (a b : EdgeRun) : Bool :=
  decide (a.line ≤ b.line + join) && decide (b.line ≤ a.line + join) && decide (a.first ≤ b.last + join) && decide (b.first ≤ a.last + join)

/-- The merged defects of a band from its pieces and the edge runs of its engines, by their seeds (R360, R364). -/
def mergePieces (join : Nat) (l : List Piece) (runs : List EdgeRun) : List (List Piece) :=
  let of (p : Piece) : List EdgeRun := runs.filter fun r => r.piece == some p.seed
  let rel (p q : Piece) : Bool := p.stripe != q.stripe && (of p).any fun a => (of q).any fun b => runsNear join a b
  let key (p : Piece) : Nat := placeKey p.seed
  sortBy (fun g => (g.map key).headD 0) ((groupRel rel l).map fun g => sortBy key g)

/-! ### Presence, storms, poisoned frames (R348, R362, R610) -/

/-- A record as an item with the line of its key. -/
def Rec.at_ (r : Rec) (key : Nat) : Rec := { r with key := key }

/-- PRESENCE_RESULT: the counts of a region in a repeat over the engines, and the record of a FAIL or UNINSPECTED result (R348). -/
def State.presence (s : State) (c : Copy) (v : Nat) (bands : List BandItems) (region rep : Nat) : State × List Rec :=
  let mine := bands.flatMap fun b => (b.pres.filter fun a => a.region == region && a.rep == rep).map fun a => (b.eng, a)
  let sum (f : PresAcc → Nat) : Nat := sumN (mine.map fun e => f e.2)
  let (g, u, oi, mi) := (sum (·.g), sum (·.u), sum (·.oi), sum (·.mi))
  let result := if g < 16 * u then 3
    else if 128 * oi < s.maskF c region 224 8 * mi ∨ s.maskF c region 232 8 * mi < 128 * oi then 2 else 0
  if result = 0 then (s, [])
  else
    let s := if result = 2 then
        (mine.filter fun e => decide (0 < e.2.g)).foldl (fun (s : State) (e : Nat × PresAcc) => s.bump (Pg.IE e.1) Fd.IE_CNT1_PRES_FAIL) s
      else s
    let last := (bands.map (·.last)).headD 0
    let x := rdiv (sext 32 (s.maskF c region 0 32) + sext 32 (s.maskF c region 32 32)) 2
    let y := (rdiv (s.maskF c region 64 40 + s.maskF c region 128 40 : Nat) 2).toNat
    let n := s.lineBelow v rep (s.maskF c region 128 40) last
    (s.bump Pg.MRG Fd.MRG_ITEM_CNT_b24,
     [{ bits := mkBits (recHead recPresence (s.jobId c) v 0 (s.cellNumAt c v x y) 0 rep x y (webDistance rep (s.repeatLen c) y) ++
          [(256, 64, s.lineTime v n), (320, 32, g), (352, 32, u), (384, 32, oi), (416, 32, mi), (448, 10, region), (464, 2, result)])
        view := v, key := 0, ref := s.lineAtY v rep y last }])

/-- A storm item's record (R362). -/
def State.stormRec (s : State) (c : Copy) (v : Nat) (b : BandItems) : List Rec :=
  match b.storm with
  | none => []
  | some n =>
    let head := [(0, 8, recStorm), (8, 6, s.jobId c), (14, 2, v), (32, 16, 0xFFFF), (64, 32, s.repOf v n), (128, 40, s.yOf v n)]
    [{ bits := mkBits (head ++ [(256, 64, s.lineTime v n), (320, 19, s.coreLo c b.eng), (339, 19, s.coreHi c b.eng), (384, 48, n), (448, 48, b.last)])
       view := v, key := 0 }]

/-- What is left of an engine's items after the frames of some have been discarded as poisoned, by their places in the order of R364; the
summary of a cell still comes, with nothing counted. -/
def BandItems.lose (b : BandItems) (k : List Nat) : BandItems :=
  let keep {α : Type} (base : Nat) (l : List α) : List α := (l.zipIdx.filter fun (e : α × Nat) => !k.contains (base + e.2)).map (·.1)
  let np := b.pieces.length
  let ne := np + b.runs.length
  let nr := b.pres.length
  let ns := if b.storm.isSome then 1 else 0
  { b with
    pieces := keep 0 b.pieces, runs := keep np b.runs, pres := keep ne b.pres, storm := if k.contains (ne + nr) then none else b.storm
    cells := b.cells.zipIdx.map fun (e : CellAcc × Nat) =>
      if k.contains (ne + nr + ns + e.2) then { cell := e.1.cell, rep := e.1.rep } else e.1 }

/-- The cells of a view that a band meets (R610). -/
def State.cellsMet (s : State) (c : Copy) (v first last : Nat) : List (Nat × Nat) :=
  let lines := ((List.range (last + 1 - first)).map (first + ·)).filter fun n => decide (0 < s.repOf v n)
  match lines.head? with
  | none => []
  | some n => ((s.cellsOf c v).filter fun i => lines.any fun m =>
      decide (s.cellF c i 64 40 ≤ s.yOf v m) && decide (s.yOf v m < s.cellF c i 128 40)).map fun i => (i, s.repOf v n)

/-! ### MRG_MERGE_BAND (R360, R364, R382) -/

/-- The lowest view of a copy's job is the one whose repeat starts bound commits of MRG, RUL and VRD (R16, R404). -/
def State.markOf (s : State) (c : Copy) (v first rep : Nat) : List (Nat × Nat × Item) :=
  if v = s.lowView c ∧ 0 < rep ∧ s.repeatStartAt v first then [(first, s.cycleOf v first first, .mark v first rep)] else []

/-- What merging a band gives: the rims carried to the next one and its items. -/
def State.bandItems (s : State) (c : Copy) (v : Nat) (b : BandItems) (l : List BandItems) (bad : List (Nat × Nat)) : State × List Tail × List Item :=
  let y := s.vres c v
  let s := if y.merged = 0 then s.wr Pg.MRG (Rg.MRG_CONT_ID v) 1 else s
  let s := bad.foldl (fun (s : State) (e : Nat × Nat) => s.logErr Er.RECORD_POISONED Pg.MRG e.1) s
  let met := if bad.isEmpty then [] else s.cellsMet c v b.first b.last
  let l := l.map fun x => x.lose ((bad.filter fun e => e.1 == x.eng).map (·.2))
  let j := s.join c v
  let tails := if y.tailAt = b.first then y.tails else []
  let ahead := l.flatMap (·.ahead)
  let groups := mergePieces j (l.flatMap (·.pieces)) (l.flatMap (·.runs))
  let joined := sumN ((groups.filter fun g => decide (1 < g.length)).map (·.length))
  let s := s.bumpBy Pg.MRG (whole Rg.MRG_MERGE_CNT) joined
  let (s, defects, newTails) := groups.foldl (fun (a : State × List Rec × List Tail) (g : List Piece) =>
    let rim := g.flatMap (·.rim)
    let (s, id, flags) := a.1.contOf v j rim tails ahead
    (s, a.2.1 ++ [s.defectRec c v b.first g id flags],
     a.2.2 ++ [⟨id, rim.filter fun p => decide (b.last < p.1 + j)⟩])) (s, [], [])
  let limit := s.jobFld c Pg.MRG (Fd.MRG_REC_LIMIT_b0 v)
  let sent := defects.take limit
  let excess := defects.drop limit
  let s := if excess.isEmpty then s else (s.bumpBy Pg.MRG (whole Rg.MRG_OVF_CNT) excess.length).flag Pg.MRG Fd.MRG_STAT_OVF_SEEN
  let ovf : List Rec := if excess.isEmpty then [] else
    [{ bits := mkBits [(0, 8, recOverflow), (8, 6, s.jobId c), (14, 2, v), (32, 16, 0xFFFF), (64, 32, s.repOf v b.first),
         (256, 64, s.lineTime v b.first), (320, 48, b.first), (384, 32, excess.length)]
       view := v, key := 0 }]
  let regions := ((l.flatMap (·.pres)).map fun a => (a.region, a.rep)).eraseDups
  let (s, pres) := (sortBy (·.1) regions).foldl (fun (a : State × List Rec) (e : Nat × Nat) =>
    let (s, r) := a.1.presence c v l e.1 e.2
    (s, a.2 ++ r)) (s, [])
  let storms := l.flatMap fun x => s.stormRec c v x
  let s := s.bumpBy Pg.MRG Fd.MRG_ITEM_CNT_b16 storms.length
  let accs := sortBy (fun a => s.cellF c a.cell 192 12) (l.flatMap (·.cells))
  let sums := accs.map fun a =>
    let n := s.lineBelow v a.rep (s.cellF c a.cell 128 40) b.last
    let k := (s.inForce v n).kind
    Item.summary v b.key (k == 0 || k == 3) n a
  let items := met.map (fun (e : Nat × Nat) => Item.poison e.1 e.2) ++ (sent.map fun r => Item.record (r.at_ b.key)) ++
    (excess.map fun r => Item.excess r.cellNum r.rep r.x) ++ ((ovf ++ pres ++ storms).map fun r => Item.record (r.at_ b.key)) ++ sums ++
    (if l.any (·.ends) then [Item.repEnd v b.last b.rep] else [])
  (s, newTails, items)

/-- The items of a band merged (DEDUCED, log entry 96). -/
def State.mergeBand (s : State) (c : Copy) (v : Nat) (l : List BandItems) (bad : List (Nat × Nat)) : State :=
  match l with
  | [] => s
  | b :: _ =>
    let (s, tails, items) := s.bandItems c v b l bad
    let cyc := s.cycleOf v b.key b.last
    let rep0 := s.repOf v b.first
    let y := s.vres c v
    let s := s.setVres c v { y with
      bands := y.bands.filter fun x => x.first != b.first
      merged := b.key + 1, tails := tails, tailAt := b.last + 1
      items := (s.markOf c v b.first rep0 ++ items.map fun i => (b.key, cyc, i)).foldl (fun (l : List (Nat × Nat × Item)) (i : Nat × Nat × Item) =>
        insertBy (·.1) i l) y.items }
    (s.wr Pg.MRG (Rg.MRG_BAND_LO v) (BitVec.ofNat 32 b.key)).setFld Pg.MRG (Fd.MRG_BAND_HI_b0 v) (b.key / 2 ^ 32)

/-! ### Reading the item queues (R364, R489, R610) -/

/-- An item of an engine read: a coarse alarm joins its view's, and an item of a band is noted with its band. A poisoned frame is lost, and
its band is marked (R610). -/
def State.takeItem1 (s : State) (e : Nat) (i : EngItem) (bad : Bool) : State :=
  let x := s.engOf e
  match x.view with
  | none => s
  | some v =>
    let y := s.vres x.copy v
    match i with
    | .gone => s
    | .alarm r =>
      let place (q : Rec) : Nat := q.key * 2 ^ 19 + q.get 320 19
      if !bad then s.setVres x.copy v { y with alarms := insertBy place r y.alarms }
      else match y.bands.find? fun b => b.eng == e && decide (b.got < b.total) with
        | some b => s.setVres x.copy v { y with bands := y.bands.map fun z => if z.eng = e ∧ z.first = b.first then { z with spoilt := z.spoilt ++ [0xFFFFFFFF] } else z }
        | none => s.putEng e { x with spoilt := x.spoilt + 1 }
    | .band first place =>
      s.setVres x.copy v { y with bands := y.bands.map fun z =>
        if z.eng = e ∧ z.first = first then { z with got := z.got + 1, spoilt := if bad then z.spoilt ++ [place] else z.spoilt } else z }

/-- The frames in an engine's item queues read in turn. -/
def State.takeItems (s : State) (e : Nat) : Nat → State
  | 0 => s
  | k + 1 =>
    let x := s.engOf e
    match x.fifo with
    | [] => s
    | i :: t => match s.qTakeFrame (itemQueue e x.got) with
      | (s, none) => s
      | (s, some l) => ((s.putEng e { x with fifo := t, got := (x.got + 1) % 16 }).takeItem1 e i (frameBad l)).takeItems e k

/-- MRG reads what the engines of a view have written, and writes on as far as that frees credit. -/
def State.readItems (s : State) (v : Nat) : State :=
  (List.range 8).foldl (fun (s : State) e =>
    if (s.engOf e).view ≠ some v then s
    else (((s.takeItems e (s.engOf e).fifo.length).sendItems e []).freeEngine e)) s

/-- The band of a view that comes next, with its items in the order of the cores, once every engine has delivered them all. -/
def State.nextBand (s : State) (c : Copy) (v : Nat) : Option (List BandItems) :=
  let l := (s.vres c v).bands
  match (sortBy (·.first) l).head? with
  | none => none
  | some b =>
    let mine := sortBy (fun x => s.coreLo c x.eng) (l.filter fun x => x.first == b.first)
    if mine.length = (s.enginesOf c v).length && mine.all (fun x => decide (x.total ≤ x.got)) then some mine else none

/-- The places of the frames of bands that were poisoned when they were read. -/
def lostOf (l : List BandItems) : List (Nat × Nat) := l.flatMap fun b => b.spoilt.map fun k => (b.eng, k)

/-- The earliest band of a view merged, the old job's bands first; the frames in `bad`, by engine and place, are poisoned beside those that
were when they were read. -/
def State.merge (s : State) (v : Nat) (bad : List (Nat × Nat)) : State :=
  if !s.blockOn Pg.MRG Fd.MRG_CTL_EN then s
  else
    let s := s.readItems v
    match s.nextBand .active v with
    | some l => s.mergeBand .active v l (bad ++ lostOf l)
    | none =>
      let open_ := s.enables .active v && decide ((s.vres .active v).doneE.length < (s.enginesOf .active v).length)
      if open_ || !(s.vres .active v).bands.isEmpty then s
      else match s.nextBand .next v with
        | some l => s.mergeBand .next v l (bad ++ lostOf l)
        | none => s

/-- MRG_MERGE_BAND of view `v`. -/
def execMrgMergeBand (v : Fin 4) (bad : List (Fin 8 × Nat)) (s : State) : Host.Outcome State Fault Refusal :=
  .next (s.merge v (bad.map fun e => (e.1.val, e.2)))

/-! ### The order of R380 -/

/-- The first line in a view at which an item can still appear; none once the view's part of the job has given all its
items; in HOLD the engines give no more (R70). -/
def State.frontier (s : State) (c : Copy) (v : Nat) : Option Nat :=
  let y := s.vres c v
  let live := if s.mode = .hold then [] else (s.enginesOf c v).filter fun e => !y.doneE.contains e
  let ofEng (e : Nat) : List Nat :=
    let x := s.engOf e
    if x.view = some v ∧ x.copy = c then
      (if x.fin then [] else [x.next]) ++ ((x.togo ++ x.fifo).filterMap fun i => match i with | .alarm r => some r.key | _ => none) ++ x.bands.filterMap fun b => b.last.map (· + s.join c v + 2)
    else [0]
  let l := live.flatMap ofEng ++ y.bands.map (·.key)
  l.head?.map fun h => l.foldl Nat.min h

/-- The first item of a view: a coarse alarm before what has the same key. -/
def State.headItem (s : State) (c : Copy) (v : Nat) : Option (Nat × Nat × Item) :=
  let y := s.vres c v
  match y.alarms, y.items with
  | [], [] => none
  | [], i :: _ => some i
  | a :: _, [] => some (a.key, s.cycleOf v a.key a.key, .record a)
  | a :: _, i :: _ =>
    let first := match i.2.2 with | .mark _ _ _ => false | _ => true
    if a.key < i.1 || (a.key == i.1 && first) then
      some (a.key, s.cycleOf v a.key a.key, .record a) else some i

/-- Whether a view has passed a cycle for an item of view `v` (R380). -/
def State.passed (s : State) (c : Copy) (w cyc v : Nat) : Bool :=
  match s.frontier c w with
  | none => true
  | some n => match s.lineRec w n with
    | some r => decide (cyc < r.cycle) || (cyc == r.cycle && decide (v < w))
    | none => decide (s.nextLine w ≤ n) && decide (cyc < s.cycle)

/-- The next item of a job in the order of R380, with its view, once every view has passed its key. -/
def State.nextItem (s : State) (c : Copy) : Option (Nat × Nat × Nat × Item) :=
  let views := (List.range 4).filter fun v => s.enables c v
  let heads := views.filterMap fun v => (s.headItem c v).map fun i => (v, i)
  match (sortBy (fun (e : Nat × Nat × Nat × Item) => e.2.2.1 * 4 + e.1) heads).head? with
  | none => none
  | some (v, k, cyc, i) =>
    let own := match s.frontier c v with | some n => decide (k < n) | none => true
    if own && views.all (fun w => w == v || s.passed c w cyc v) then some (v, k, cyc, i) else none

/-- The first item of a view taken away. -/
def State.dropItem (s : State) (c : Copy) (v : Nat) : State :=
  let y := s.vres c v
  match s.headItem c v, y.alarms with
  | some (_, _, .record r), a :: t => if r = a then s.setVres c v { y with alarms := t } else s.setVres c v { y with items := y.items.drop 1 }
  | _, _ => s.setVres c v { y with items := y.items.drop 1 }

/-- ENG_STAT of the selected engine: its items waiting, and whether one waits for other views. -/
def State.engStatWord (s : State) : Word :=
  let e := s.fld Pg.MRG Fd.MRG_SEL_b0
  let count (c : Copy) (v : Nat) : Nat :=
    let y := s.vres c v
    sumN ((y.bands.filter fun b => b.eng == e).map (·.got)) + (y.alarms.filter fun r => r.get 464 3 == e).length
  let n := (s.engOf e).fifo.length + sumN ([Copy.active, .next].flatMap fun c => (List.range 4).map fun v => count c v)
  let waits := [Copy.active, .next].any fun c => (List.range 4).any fun v =>
    (s.enginesOf c v).contains e && (s.headItem c v).isSome && (s.nextItem c).isNone
  BitVec.ofNat 32 (satN 16 n + 2 ^ 16 * b2n waits)

end Sys2Proof.Machine
end

