-- ==== Sys2Proof/Machine/Masters.lean ====
section
/-!
DEFINITION. What MST writes into master slots (R305-R307, R313-R315, R319-R330): reduction, prediction, fitting and folds.
-/
namespace Sys2Proof.Machine

/-! ### When a slot may be written (R306, R307) -/

/-- The slot that a flip writes: its own once it has taken place, else the one that is not in force. -/
def State.flipSlot (s : State) (g : Geo) (f : Flip) : Nat := match f.taken with | some t => t.2 | none => 1 - s.mCur g

/-- Where the lines end that the newest master a test holds for was in force at: `stop` is where those of the first of the list end. -/
def usedTo (hit : InForce → Bool) : Option Nat → List InForce → Option (Option Nat)
  | _, [] => none
  | stop, f :: l => if hit f then some stop else usedTo hit (some f.line) l

/-- Where the lines end at which the slot of a flip is read before the flip: none where no line reads it, `some none` where its lines go
on. -/
def State.readersEnd (s : State) (v : Nat) (f : Flip) (k : Nat) (coarse : Bool) : Option (Option Nat) :=
  let l := match f.taken with | some t => (s.mstV v).force.dropWhile fun e => decide (t.1 ≤ e.line) | none => (s.mstV v).force
  usedTo (fun e => e.slot == k && (e.kind == 1 || e.kind == 2 || (coarse && e.kind == 3))) (f.taken.map (·.1)) l

/-- Whether an engine fetches nothing more of a block row below line `stop` (R306): it has come that far, or it is in the last repeat before
it and has left the row behind. -/
def State.rowPast (s : State) (v : Nat) (c : Copy) (g : Geo) (stop by_ e : Nat) : Bool :=
  let x := s.engOf e
  let mine := x.view == some v && x.copy == c
  let row : Int := rdiv (s.yOf v x.next : Nat) (s.pitchY c v)
  (s.vres c v).doneE.contains e || (match s.partStart v (c == .next) with | some b => decide (stop ≤ b) | none => false) ||
  (mine && (x.fin || decide (stop ≤ x.next) || (s.repOf v x.next == s.repOf v (stop - 1) && g.behind row by_)))

/-- Whether an engine tests no more coarse pixels at lines below `stop`, and whether REG measures no more against the masters in force
there (R306). -/
def State.coarsePast (s : State) (v : Nat) (c : Copy) (stop e : Nat) : Bool :=
  let x := s.engOf e
  (s.vres c v).doneE.contains e || (match s.partStart v (c == .next) with | some b => decide (stop ≤ b) | none => false) ||
  (x.view == some v && x.copy == c && (x.fin || decide (stop ≤ 8 * (x.next / 8) + 4)))
def State.regPast (s : State) (v stop : Nat) : Bool := !s.regRuns v || decide (stop ≤ s.repLine v (s.view_ v).updR 0)

/-- Whether block row `by_` of the slot of a flip may be written, and its coarse rows (R306). -/
def State.rowFree (s : State) (v : Nat) (g : Geo) (f : Flip) (by_ : Nat) : Bool :=
  match s.readersEnd v f (s.flipSlot g f) false with
  | none => true
  | some none => false
  | some (some n) => (s.enginesOf (s.copyAt v (n - 1)) v).all (s.rowPast v (s.copyAt v (n - 1)) g n by_)
def State.coarseFree (s : State) (v : Nat) (g : Geo) (f : Flip) : Bool :=
  match s.readersEnd v f (s.flipSlot g f) true with
  | none => true
  | some none => false
  | some (some n) => (s.enginesOf (s.copyAt v (n - 1)) v).all (s.coarsePast v (s.copyAt v (n - 1)) n) && s.regPast v n

/-- Whether the whole slot of a flip may be written. -/
def State.slotFree (s : State) (v : Nat) (g : Geo) (f : Flip) : Bool :=
  (List.range (cdiv g.mr 4)).all (s.rowFree v g f) && s.coarseFree v g f

/-- The copy of the job whose masters a view's stitcher is at. -/
def State.mstCopy (s : State) (v : Nat) : Copy := s.copyAt v ((s.sti v).next - 1)

/-- The copy of the job that a flip belongs to. -/
def State.flipCopy (s : State) (v : Nat) (f : Flip) : Copy := match f.taken with | some t => s.copyAt v t.1 | none => s.mstCopy v

/-- The flip of a view that is worked on: the first one (R307), if it is of a kind; with its job and its master. -/
def State.workFlip (s : State) (v : Nat) (kind : FlipKind) : Option (Flip × Copy × Geo) :=
  match (s.mstV v).flips with
  | f :: _ => if f.kind = kind ∧ !f.whole then (s.geo (s.flipCopy v f) v).map fun g => (f, s.flipCopy v f, g) else none
  | [] => none

/-- The first flip of a view changed; it goes once it has taken place and its slot is whole. -/
def State.putFlip (s : State) (v : Nat) (c : Copy) (g : Geo) (f : Flip) : State :=
  let x := s.mstV v
  match f.whole, f.taken with
  | true, some t => (s.putMst v { x with flips := x.flips.drop 1 }).noteNoref v t.1 c g f
  | _, _ => s.putMst v { x with flips := f :: x.flips.drop 1 }

/-- KIND of the slot about to be written goes to NONE (R305), unless its flip has set it already. -/
def State.openSlot (s : State) (v : Nat) (c : Copy) (g : Geo) (f : Flip) : State :=
  if f.taken.isSome then s else s.runMh c v g [(2 * s.flipSlot g f, 2, 0)]

/-! ### Reduction (R314, R315) -/

/-- Median and spread of the values of the learn repeats at a sample; none without a reference (R314). -/
def medSpread (n : Nat) (vals : List Nat) : Option (Nat × Nat) :=
  let l := sortBy id vals
  let m := l.length
  let d := if 5 ≤ m then 1 else 0
  let v (i : Nat) : Nat := nth 0 l (i - 1)
  if m < (n + 1) / 2 then none else some (v ((m + 1) / 2), (v (m - d) - v (1 + d) + 1) / 2)

/-- Median and spread of master sample (k, i) of plane `p` over learn slots. -/
def State.medAt (s : State) (v : Nat) (g : Geo) (slots : List Nat) (k i p : Nat) : Option (Nat × Nat) :=
  medSpread slots.length (slots.filterMap fun j => ((s.learnBlock v g j (k / 4) (i / 4) p).1).map fun w => codeSample w (i % 4) (k % 4))

/-- T8 of a block from its spread, coding error and gradient (R315). -/
def t8Of (grad least smax e g : Nat) : Nat := Nat.min 254 (Nat.max least (cdiv (smax + e + (g * grad + 8) / 16) 4))

/-- The largest difference of a block's samples to their right and lower neighbours in the master (R315). -/
def gradOf (g : Geo) (val : Nat → Nat → Nat) (bx by_ : Nat) : Nat :=
  let cells := (List.range 16).filterMap fun t =>
    let k := 4 * bx + t % 4
    let i := 4 * by_ + t / 4
    if k < g.mw ∧ i < g.mr then some (k, i) else none
  maxN (cells.flatMap fun q =>
    (if q.1 + 1 < g.mw then [((val q.1 q.2 : Int) - val (q.1 + 1) q.2).natAbs] else []) ++
    (if q.2 + 1 < g.mr then [((val q.1 q.2 : Int) - val q.1 (q.2 + 1)).natAbs] else []))

/-- The 16 samples of a block, padded with the nearest existing ones (R299). -/
def blockVals (g : Geo) (val : Nat → Nat → Nat) (bx by_ : Nat) : List Nat :=
  (List.range 16).map fun t => val (Nat.min (4 * bx + t % 4) (g.mw - 1)) (Nat.min (4 * by_ + t / 4) (g.mr - 1))

/-- The blocks of a block row of a slot written from its samples; answers the number of NO_REF blocks. `spread` gives the largest spread
of a block, none for a block without reference. -/
def State.writeRow (s : State) (g : Geo) (k by_ grad least : Nat) (val : Nat → Nat → Nat → Nat) (spread : Nat → Nat → Option Nat) : State × Nat :=
  (List.range g.p).foldl (fun (a : State × Nat) (p : Nat) => (List.range (cdiv g.mw 4)).foldl (fun (a : State × Nat) (bx : Nat) =>
    let (code, e) := frEncode (blockVals g (val p) bx by_)
    match spread p bx with
    | some sp => (a.1.putBlock g k bx by_ p code (t8Of grad least sp e (gradOf g (val p) bx by_)), a.2)
    | none => (a.1.putBlock g k bx by_ p code 255, a.2 + 1)) a) (s, 0)

/-- Whether a learn slot holds a block row: a slot whose capture still runs holds the rows that are stored. -/
def State.slotHolds (s : State) (v slot by_ : Nat) : Bool :=
  match (s.mstV v).cap with
  | some x => x.slot != slot || decide (by_ < x.stored)
  | none => true

/-- A block row of a slot written, with the CRCs of the segments that it completes (R304). -/
def State.putRow (s : State) (g : Geo) (k by_ grad least : Nat) (val : Nat → Nat → Nat → Nat) (spread : Nat → Nat → Option Nat) : State × Nat :=
  let (t, n) := s.writeRow g k by_ grad least val spread
  (t.segCrcs g k (g.p * by_ * g.fs) (g.fineEnd by_), n)

/-- The coarse rows of a learned master, once its fine rows are written, as far as they are free: the slot is whole with the last one. -/
def State.reduceCoarse (s : State) (v : Nat) (c : Copy) (g : Geo) (f : Flip) : State :=
  if f.rows < cdiv g.mr 4 ∨ !s.coarseFree v g f then s.putFlip v c g f
  else (s.finishSlot g (s.flipSlot g f)).putFlip v c g { f with crows := cdiv g.mr 8, whole := true }

/-- The next block row of a learned master reduced (R313-R315), its coarse rows behind the last one. -/
def State.reduceRow (s : State) (v : Nat) : State :=
  match s.workFlip v .learn with
  | some (f, c, g) =>
    let rows := cdiv g.mr 4
    let by_ := f.rows
    let need := Nat.min (by_ + 1) (rows - 1)
    if rows ≤ by_ then s.reduceCoarse v c g f
    else if !f.slots.all (fun j => s.slotHolds v j by_ && s.slotHolds v j need) || !s.rowFree v g f by_ then s
    else
      let s := if by_ = 0 then s.openSlot v c g f else s
      let bad := sumN ((List.range g.p).map fun p => sumN (f.slots.map fun j =>
        ((List.range (cdiv g.mw 4)).filter fun bx => (s.learnBlock v g j bx by_ p).2).length))
      let s := s.bumpBy Pg.MST ⟨Rg.MST_FETCH_ERR, 16, 16⟩ bad
      let t := s
      let val (p k i : Nat) : Nat := match t.medAt v g f.slots k i p with | some e => e.1 | none => 0
      let spread (p bx : Nat) : Option Nat :=
        let l := (List.range 16).map fun q =>
          t.medAt v g f.slots (Nat.min (4 * bx + q % 4) (g.mw - 1)) (Nat.min (4 * by_ + q / 4) (g.mr - 1)) p
        if l.contains none then none else some (maxN (l.map fun e => (e.getD (0, 0)).2))
      let (s, nr) := s.putRow g (s.flipSlot g f) by_ (s.mstF c Fd.MST_TOL_CTL_TOL_GRAD) (s.mstF c Fd.MST_TOL_CTL_TOL_MIN) val spread
      s.reduceCoarse v c g { f with rows := by_ + 1, noref := f.noref + nr }
  | none => s

/-- REDUCE_BLOCK_ROW of view `v`. -/
def execReduceBlockRow (v : Fin 4) (s : State) : Host.Outcome State Fault Refusal := .next (s.reduceRow v)

/-! ### Prediction (R319-R324) -/

/-- An artwork: its address in DRAM and its header (R319). -/
structure Art where
  addr  : Nat
  proc  : Nat
  spots : Nat
  w     : Nat
  h     : Nat
  apx   : Nat
  apy   : Nat
  ax0   : Int
  ay0   : Int
deriving DecidableEq, Repr

def State.artAt (s : State) (addr : Nat) : Art :=
  let x := s.dramNat addr 64
  ⟨addr, nb x 0 3, nb x 3 2, nb x 32 32, nb x 64 32, nb x 96 32, nb x 128 32, sext 32 (nb x 160 32), sext 32 (nb x 192 32)⟩

/-- The bytes that an artwork's header and separations take. -/
def Art.size (a : Art) : Nat := 64 + (a.proc + a.spots) * (a.h * (64 * cdiv a.w 64))

/-- Whether an artwork header breaks its table (R325). -/
def Art.bad (a : Art) (len : Nat) : Bool :=
  decide (4 < a.proc) || decide (2 < a.spots) || a.w == 0 || decide (1048576 < a.w) || a.h == 0 || decide (1048576 < a.h) ||
  decide (a.apx < 16) || decide (a.apy < 16) || decide (len < a.size)

/-- A raster pixel of a separation, 0 outside the raster. -/
def State.artPix (s : State) (a : Art) (sep : Nat) (x y : Int) : Nat :=
  if x < 0 ∨ y < 0 ∨ (a.w : Int) ≤ x ∨ (a.h : Int) ≤ y then 0
  else s.dramNat (a.addr + 64 + sep * (a.h * (64 * cdiv a.w 64)) + y.toNat * (64 * cdiv a.w 64) + x.toNat) 1

/-- The smallest integer j with c0 + j × step ≥ at ÷ 2, for twice-scaled values. -/
def firstPix (c0 : Int) (step : Nat) (at2 : Int) : Int := -((2 * c0 - at2) / (2 * step : Nat))

/-- A separation's value at a master sample at (x, y) (R320). -/
def State.sepVal (s : State) (a : Art) (px py sep : Nat) (x y : Int) : Nat :=
  let x0 := firstPix a.ax0 a.apx (2 * x - px)
  let x1 := firstPix a.ax0 a.apx (2 * x + px)
  let y0 := firstPix a.ay0 a.apy (2 * y - py)
  let y1 := firstPix a.ay0 a.apy (2 * y + py)
  let n := (x1 - x0).toNat * (y1 - y0).toNat
  if 0 < n then
    let l := (List.range (y1 - y0).toNat).flatMap fun (j : Nat) => (List.range (x1 - x0).toNat).map fun (i : Nat) => s.artPix a sep (x0 + i) (y0 + j)
    (sumN l + n / 2) / n
  else
    let tx := (x - a.ax0) * 256 / (a.apx : Int)
    let ty := (y - a.ay0) * 256 / (a.apy : Int)
    let (jx, fx) := (tx / 256, (tx % 256).toNat)
    let (jy, fy) := (ty / 256, (ty % 256).toNat)
    ((256 - fx) * (256 - fy) * s.artPix a sep jx jy + fx * (256 - fy) * s.artPix a sep (jx + 1) jy +
      (256 - fx) * fy * s.artPix a sep jx (jy + 1) + fx * fy * s.artPix a sep (jx + 1) (jy + 1) + 2 ^ 15) / 2 ^ 16

/-- The nodes around a list of process values with their weights (R322): node number and weight. -/
def nodeWeights (vals : List Nat) : List (Nat × Nat) :=
  vals.foldl (fun (l : List (Nat × Nat)) (a : Nat) =>
    let q := (a * 2048 + 127) / 255
    let n := Nat.min (q / 256) 7
    let f := q - 256 * n
    l.flatMap fun e => [(9 * e.1 + n, e.2 * (256 - f)), (9 * e.1 + n + 1, e.2 * f)]) [(0, 1)]

/-- The process values C, M, Y, K and the spot values of a master sample. -/
def State.inks (s : State) (a : Art) (px py : Nat) (x y : Int) : List Nat × List Nat :=
  ((List.range 4).map fun i => if i < a.proc then s.sepVal a px py i x y else 0,
   (List.range a.spots).map fun i => s.sepVal a px py (a.proc + i) x y)

/-- The contributions of the spots to a plane (R321). -/
def spotSum (table : List Byte) (plane : Nat) (spots : List Nat) : Int :=
  sumI (spots.zipIdx.map fun (e : Nat × Nat) => sext 16 (leNat ((table.drop (0xD000 + 8 * (256 * e.2 + e.1) + 2 * plane)).take 2)))

/-- A predicted plane value (R322). -/
def predVal (table : List Byte) (plane : Nat) (inks : List Nat × List Nat) : Nat :=
  let sum := sumN ((nodeWeights inks.1).map fun e => e.2 * (leNat ((table.drop (8 * e.1 + 2 * plane)).take 2) % 4096))
  clamp12 (((sum + 2 ^ 31) / 2 ^ 32 : Nat) + spotSum table plane inks.2)

/-- The scale of a view: pitches and MX0. -/
structure Scale where
  px  : Nat
  py  : Nat
  mx0 : Int
deriving DecidableEq, Repr

/-- A whole predicted slot written (R320-R323). -/
def State.predictSlot (s : State) (g : Geo) (z : Scale) (a : Art) (table : List Byte) (k grad least spread : Nat) : State :=
  let t := s
  let val (p i j : Nat) : Nat := predVal table p (t.inks a z.px z.py (z.mx0 + (i * z.px : Nat)) (j * z.py : Nat))
  let s := (List.range (cdiv g.mr 4)).foldl (fun (s : State) (by_ : Nat) => (s.putRow g k by_ grad least val fun _ _ => some spread).1) s
  s.finishSlot g k

/-- The views that a prediction of a job writes. -/
def JobCtx.artViews (j : JobCtx) : List Nat := bitsOf 4 j.artwork

/-- Whether a job's artwork or table sections are not as R325 wants them. -/
def State.artBad (s : State) (j : JobCtx) : Bool :=
  match j.sect sectArt with
  | none => true
  | some e => (s.artAt e.1).bad e.2.1 || j.artViews.any fun v =>
      match j.sect (sectPred v) with | some t => decide (t.2.1 < 0xE000) | none => true

/-- A write of ART_CTL (R324). -/
def State.artCtl (s : State) (w : Word) : State :=
  let m := Pg.MST
  let s := s.storeRw m Rg.MST_ART_CTL w
  if wf w 6 1 = 0 then s
  else
    let j := wf w 0 6
    if s.jobState j ≠ jobReady ∨ s.predict.isSome then s.setFld m Fd.MST_ART_STAT_RESULT 2
    else
      let s := s.setFld m Fd.MST_ART_STAT_JOB j
      let c := s.jobCtx j
      if s.artBad c then (s.setFld m Fd.MST_ART_STAT_STATE 2).setFld m Fd.MST_ART_STAT_RESULT 4
      else
        let s := (s.setFld m Fd.MST_ART_STAT_STATE 1).setFld m Fd.MST_ART_STAT_RESULT 0
        { s with predict := some ⟨j, c.artViews.filter fun v => (c.sect (sectMaster v)).isSome⟩ }

/-- ART_PREDICT. -/
def execArtPredict (o : Owner) (w : Word) (s : State) : Host.Outcome State Fault Refusal :=
  .next (s.guarded o Pg.MST Rg.MST_ART_CTL (·.artCtl w))

/-- The predicted master of a view of a job in the library written and flipped (R324). -/
def State.predictView (s : State) (j : JobCtx) (v : Nat) : State :=
  match j.sect (sectMaster v), j.sect sectArt, j.sect (sectPred v) with
  | some m, some a, some t =>
    let bits (lo len : Nat) : Nat := j.bits sectStitch (0x40 * v) lo len
    let z : Scale := ⟨bits 32 16, bits 48 16, sext 32 (bits 288 32)⟩
    let g : Geo := ⟨m.1, m.2.1, bits 0 19, cdiv j.repeatLen (Nat.max 1 z.py), if bits 19 1 = 1 then 3 else 1⟩
    let k := if s.mh g 5 1 = 1 ∨ (s.mKind g 0 = 0 ∧ s.mKind g 1 = 0) then 0 else 1 - s.mCur g
    let s := s.setMh j.sectBase j.sectCount v g [(2 * k, 2, 0)]
    let s := s.predictSlot g z (s.artAt a.1) (s.dram t.1 t.2.1) k (s.fld Pg.MST Fd.MST_TOL_CTL_TOL_GRAD)
      (s.fld Pg.MST Fd.MST_TOL_CTL_TOL_MIN) (s.fld Pg.MST Fd.MST_TOL_CTL_ART_SPREAD)
    let s := s.setMh j.sectBase j.sectCount v g [(4, 1, k), (2 * k, 2, 1), (32, 32, (s.mh g 32 32 + 1) % 2 ^ 32), (128, 32, 0)]
    s.setDir j.id (8 + v) 1 0
  | _, _, _ => s

/-- ART_PREDICT_DONE: the prediction in progress completes (R324). -/
def State.predictDone (s : State) : State :=
  match s.predict with
  | none => s
  | some p =>
    let j := s.jobCtx p.job
    let s := p.views.foldl (fun (s : State) (v : Nat) => s.predictView j v) { s with predict := none }
    (s.setFld Pg.MST Fd.MST_ART_STAT_STATE 2).setFld Pg.MST Fd.MST_ART_STAT_RESULT 1

def execArtPredictDone (s : State) : Host.Outcome State Fault Refusal := .next s.predictDone

/-! ### Fitting (R326, R327) -/

/-- The refitted table of a view from a captured repeat (R326). -/
def State.fitTable (s : State) (c : Copy) (v : Nat) (g : Geo) (a : Art) (table : List Byte) (slot : Nat) : List Byte :=
  let px := s.pitchX c v
  let py := s.pitchY c v
  let cells := (List.range g.mr).flatMap fun (i : Nat) => (List.range g.mw).map fun (k : Nat) => (k, i)
  let acc := cells.foldl (fun (t : Tab (Nat × Int)) (q : Nat × Nat) =>
    let inks := s.inks a px py (s.mx0 c v + (q.1 * px : Nat)) (q.2 * py : Nat)
    (List.range g.p).foldl (fun (t : Tab (Nat × Int)) (p : Nat) =>
      match (s.learnBlock v g slot (q.1 / 4) (q.2 / 4) p).1 with
      | none => t
      | some w =>
        let o : Int := (codeSample w (q.2 % 4) (q.1 % 4) : Nat) - spotSum table p inks.2
        (nodeWeights inks.1).foldl (fun (t : Tab (Nat × Int)) (e : Nat × Nat) =>
          let b := tabGet (dflt (0, 0)) t (4 * e.1 + p)
          tabPut (dflt (0, 0)) (4 * e.1 + p) (b.1 + e.2, b.2 + e.2 * o) t) t) t) []
  let least := s.mstF c ⟨Rg.MST_FIT_CTL, 0, 16⟩ * 2 ^ 32
  let node (n : Nat) : List Byte :=
    let old := (table.drop (8 * n)).take 8
    leBytes 8 ((List.range g.p).foldl (fun (x : Nat) (p : Nat) =>
      let b := tabGet (dflt (0, 0)) acc (4 * n + p)
      if b.1 = 0 ∨ b.1 < least then x else nbSet x (16 * p) 12 (clamp12 (rdiv b.2 b.1))) (leNat old))
  (List.range 6561).flatMap node ++ table.drop (8 * 6561)

/-- The prediction with the fitted table of a view written, which takes the place of the job's table (R326, R327). -/
def State.tableFit (s : State) (v : Nat) : State :=
  match s.workFlip v .fit with
  | some (f, c, g) =>
    match (s.jobOf c).bind (·.sect sectArt), (s.jobOf c).bind (·.sect (sectPred v)) with
    | some a, some t =>
      if !s.slotFree v g f || !f.slots.all (fun j => s.slotHolds v j (cdiv g.mr 4 - 1)) then s
      else
      let slot := f.slots.headD 0
      let bad := sumN ((List.range g.p).map fun p => sumN ((List.range (cdiv g.mr 4)).map fun by_ =>
        ((List.range (cdiv g.mw 4)).filter fun bx => (s.learnBlock v g slot bx by_ p).2).length))
      let s := s.bumpBy Pg.MST ⟨Rg.MST_FETCH_ERR, 16, 16⟩ bad
      let art := s.artAt a.1
      let table := s.fitTable c v g art ((s.mstV v).fitted.getD (s.dram t.1 t.2.1)) slot
      let s := s.openSlot v c g f
      let z : Scale := ⟨s.pitchX c v, s.pitchY c v, s.mx0 c v⟩
      let s := s.predictSlot g z art table (s.flipSlot g f) (s.mstF c Fd.MST_TOL_CTL_TOL_GRAD) (s.mstF c Fd.MST_TOL_CTL_TOL_MIN)
        (s.mstF c Fd.MST_TOL_CTL_ART_SPREAD)
      let s := s.putFlip v c g { f with rows := cdiv g.mr 4, crows := cdiv g.mr 8, whole := true }
      s.putMst v { s.mstV v with fitted := some table }
    | _, _ => s
  | none => s

/-- TABLE_FIT of view `v`. -/
def execTableFit (v : Fin 4) (s : State) : Host.Outcome State Fault Refusal := .next (s.tableFit v)

/-! ### Folds (R330) -/

/-- A block of a master with a share of a captured block folded in: code word and T8 (R330). -/
def foldBlock (m : Option (Nat × Nat)) (o : Option Nat) : Nat × Nat :=
  match m with
  | none => (0, 255)
  | some (w, t8) => match o with
    | none => (w, t8)
    | some x =>
      let y := List.zipWith (fun (a b : Nat) => clamp12 ((a : Int) + rshr ((b : Int) - a) 4)) (frDecode w) (frDecode x)
      ((frEncode y).1, t8)

/-- A fold of a view written whole (R330). -/
def State.adaptFold (s : State) (v : Nat) : State :=
  match s.workFlip v .fold with
  | some (f, c, g) =>
    if !s.slotFree v g f || !f.slots.all (fun j => s.slotHolds v j (cdiv g.mr 4 - 1)) then s
    else
    let slot := f.slots.headD 0
    let s := s.openSlot v c g f
    let k := s.flipSlot g f
    let t := s
    let cells := (List.range (cdiv g.mr 4)).flatMap fun by_ => (List.range g.p).flatMap fun p => (List.range (cdiv g.mw 4)).map fun bx => (by_, p, bx)
    let s := cells.foldl (fun (s : State) (q : Nat × Nat × Nat) =>
      let o := t.learnBlock v g slot q.2.2 q.1 q.2.1
      let s := if o.2 then s.bump Pg.MST ⟨Rg.MST_FETCH_ERR, 16, 16⟩ else s
      let r := foldBlock (t.block g (1 - k) q.2.2 q.1 q.2.1) o.1
      s.putBlock g k q.2.2 q.1 q.2.1 r.1 r.2) s
    let s := (s.segCrcs g k 0 g.coarseOfs).finishSlot g k
    s.putFlip v c g { f with rows := cdiv g.mr 4, crows := cdiv g.mr 8, whole := true, noref := s.mh g 128 32 }
  | none => s

/-- ADAPT_FOLD of view `v`. -/
def execAdaptFold (v : Fin 4) (s : State) : Host.Outcome State Fault Refusal := .next (s.adaptFold v)

/-! ### Register views (R335) -/

/-- VIEWv_STAT of a view (Table — MST.VIEWv_STAT). -/
def State.mstViewStat (s : State) (v : Nat) : Word :=
  let x := s.mstV v
  let n := (s.sti v).next - 1
  let c := s.copyAt v n
  let f := s.inForce v n
  let runs := s.mode.job && s.enables c v && !x.force.isEmpty
  let learning := s.isLearning v
  let st := if !runs then 0 else if learning then (if f.kind = 2 then 3 else if f.kind = 1 then 2 else 1)
    else if f.kind = 2 then 4 else if f.kind = 1 then 2 else if f.kind = 3 then 1 else 0
  let ok := match x.learn with | some l => l.ok.length | none => 0
  BitVec.ofNat 32 (st + 8 * b2n (runs && s.adapts v n) + 16 * b2n (runs && s.frozenNow c v) + 32 * b2n (runs && f.slot == 1) +
    256 * (ok % 16) + 2 ^ 16 * x.skipped)

/-- RED_STAT: block rows awaiting reduction or fold (Table — MST page). -/
def State.redStat (s : State) : Word :=
  BitVec.ofNat 32 (satN 24 (sumN ((List.range 4).map fun v => sumN ((s.mstV v).flips.map fun f =>
    if f.whole then 0 else match s.geo (s.flipCopy v f) v with | some g => cdiv g.mr 4 - f.rows | none => 0))))

end Sys2Proof.Machine
end

