-- ==== Sys2Proof/Machine/Validate.lean ====
section
/-!
DEFINITION. What a job is refused for (R32, R75, R93, R220, R234, R291, R325, R332-R334, R368, R382, R390, R698) and admission (R48-R51,
R78, R245). A fault is an error code with ARG0 and ARG1.
-/
namespace Sys2Proof.Machine

/-- A fault found by a check: its code, ARG0 and ARG1. -/
abbrev Flt := ErrCode × Nat × Nat

/-- The state in which a job of the library stands in the next context, so that a check reads it there. -/
def State.asNext (s : State) (j : JobCtx) : State := { s with jobN := some j }

/-! ### Ports and rates (R48-R51, R245) -/

/-- Whether a port is enabled; the odd port of a ganged pair is not (R198). -/
def State.portUsed (s : State) (p : Nat) : Bool :=
  s.portOn p && !(p % 2 == 1 && s.portOn (p - 1) && s.fld (Pg.CP (p - 1)) Fd.CP_PORT_CTL_LANES == 3)

/-- A field of STI.PORTp_CTL as it holds for a copy's job. -/
def State.portCtl (s : State) (c : Copy) (f : Fld) : Nat := s.jobFld c Pg.STI f

/-- The view of an enabled port for a copy's job, none for a port in no view. -/
def State.viewOfPort (s : State) (c : Copy) (p : Nat) : Option Nat :=
  if s.portUsed p && s.portCtl c (Fd.STI_PORT_CTL_IN_VIEW p) == 1 then some (s.portCtl c (Fd.STI_PORT_CTL_VIEW p)) else none

/-- The ports of a view for a copy's job, enabled or not (R260). -/
def State.viewPorts (s : State) (c : Copy) (v : Nat) : List Nat :=
  (List.range 16).filter fun p => s.portCtl c (Fd.STI_PORT_CTL_IN_VIEW p) == 1 && s.portCtl c (Fd.STI_PORT_CTL_VIEW p) == v

/-- The enabled ports of a view for a copy's job. -/
def State.portsIn (s : State) (c : Copy) (v : Nat) : List Nat := (List.range 16).filter fun p => s.viewOfPort c p == some v

/-- TAPS of a port. -/
def State.tapsOf (s : State) (p : Nat) : Nat := s.fld (Pg.CP p) Fd.CP_PORT_CTL_TAPS

/-- MIN_PERIOD of a view's generator, at least 1 (R119). -/
def State.minPeriod (s : State) (v : Nat) : Nat := Nat.max 1 (s.fld Pg.POS (Fd.POS_TG_CTL_MIN_PERIOD v))

/-- Rates are counted in units of 1 ÷ `rateDen`: the product of the views' periods, so that every maximum line rate is whole. -/
def State.rateDen (s : State) : Nat := s.minPeriod 0 * s.minPeriod 1 * s.minPeriod 2 * s.minPeriod 3
def State.lineRate (s : State) (v : Nat) : Nat := 10 ^ 8 * (s.rateDen / s.minPeriod v)

/-- The admitted rate of a port (R48). -/
def State.portRate (s : State) (c : Copy) (p : Nat) : Nat :=
  match s.viewOfPort c p with
  | none => 0
  | some v => s.portCtx c p 0 0 16 * s.tapsOf p * s.lineRate v

/-- The load that a port puts on pipeline `g` (R51, R243-R245). -/
def State.portLoad (s : State) (c : Copy) (p g : Nat) : Nat :=
  match s.viewOfPort c p with
  | none => 0
  | some v =>
    let len := s.portCtx c p 0 0 16
    if s.dlrMap p 3 1 = 0 then (if s.dlrMap p 0 3 = g then s.portRate c p else 0)
    else
      let col := s.portCtx c p 0 16 2
      let m := if col = 1 ∨ col = 2 then 8 else 0
      let mine := (List.range (Nat.min 8 (cdiv len 4096))).filter fun k => s.pipeOf p k == g
      sumN (mine.map fun k => (Nat.min (4096 * k + 4096 + m) len - (4096 * k - m))) * s.tapsOf p * s.lineRate v

/-- The stripe rate of an engine in a copy's job (R51). -/
def State.engRate (s : State) (c : Copy) (e : Nat) : Nat :=
  match s.engView c e with
  | none => 0
  | some v => (s.stripeHi c v e + 1 - s.stripeLo c e) * s.vPlanes c v * s.lineRate v

/-- The greatest of a rate over copies (R78). -/
def most (cs : List Copy) (f : Copy → Nat) : Nat := maxN (cs.map f)

/-- The load of pipeline `g` under a copy (R51). -/
def State.pipeLoad (s : State) (c : Copy) (g : Nat) : Nat := sumN ((List.range 16).map fun p => s.portLoad c p g)

/-- What admission refuses (R50, R78) of configurations that hold side by side, each a copy of a state: ADMIT_TOTAL, ADMIT_PP and ADMIT_IE
with the unit in ARG0, each unit at the greatest of its rates. Rates are brought to the product of the states' units. -/
def admitOver (l : List (State × Copy)) (job : Nat) : List Flt :=
  let den := l.foldl (fun n x => n * x.1.rateDen) 1
  let top (f : State × Copy → Nat) : Nat := maxN (l.map fun x => f x * (den / x.1.rateDen))
  let lim := 9600000000 * den
  let total := sumN ((List.range 16).map fun p => top fun x => x.1.portRate x.2 p)
  (if 64000000000 * den < total then [(Er.ADMIT_TOTAL, 0, job)] else []) ++
  ((List.range 8).filter fun g => decide (lim < top fun x => x.1.pipeLoad x.2 g)).map (fun g => (Er.ADMIT_PP, g, job)) ++
  ((List.range 8).filter fun e => decide (lim < top fun x => x.1.engRate x.2 e)).map (fun e => (Er.ADMIT_IE, e, job))

/-- What admission refuses of copies in one state. -/
def State.admitFaults (s : State) (cs : List Copy) (job : Nat) : List Flt := admitOver (cs.map fun c => (s, c)) job

/-! ### Port contexts (R220, R234) -/

/-- The field of a port's context at fault (R234), by its place in the list of R234; TAPS and DEPTH of PORT_CTL are named 16 and 17. -/
def State.ctxFault (s : State) (c : Copy) (p : Nat) : Option Nat :=
  let taps := s.tapsOf p
  let len := s.portCtx c p 0 0 16
  let col := s.portCtx c p 0 16 2
  let need := if col = 0 then 1 else if col = 3 then 3 else 2
  let ch (t : Nat) : Nat := s.portCtx c p 0 (56 + 2 * t) 2
  if taps = 0 then some 16
  else if s.fld (Pg.CP p) Fd.CP_PORT_CTL_DEPTH = 3 then some 17
  else if len % 8 ≠ 0 ∨ len < 8 ∨ 32768 < len then some 0
  else if 49152 < len * taps then some 1
  else if need ≠ taps then some 2
  else if (List.range taps).any fun t => decide (16 < s.portCtx c p 0 (32 + 8 * t) 5) then some 3
  else if col = 3 ∧ sortBy id [ch 0, ch 1, ch 2] ≠ [0, 1, 2] then some 4
  else if 1 < s.portCtx c p 0 18 2 then some 5
  else none

/-- CTX_FORMAT of every enabled port: port and field. -/
def State.ctxFaults (s : State) (c : Copy) : List Flt :=
  ((List.range 16).filter fun p => s.portUsed p).filterMap fun p => (s.ctxFault c p).map fun f => (Er.CTX_FORMAT, p, f)

/-- TAPDLY_SPACE (R220): the sample-lines that the tap-delay buffers need under copies. -/
def State.tapFaults (s : State) (cs : List Copy) (job : Nat) : List Flt :=
  let n := sumN (((List.range 16).filter fun p => s.portUsed p).map fun p =>
    sumN ((List.range (s.tapsOf p)).map fun t =>
      most cs (fun c => s.portCtx c p 0 (32 + 8 * t) 5) * most cs (fun c => s.portCtx c p 0 0 16)))
  if 4194304 < n then [(Er.TAPDLY_SPACE, n / 256, job)] else []

/-! ### Stitch and registration table (R291) -/

/-- The columns that a port covers (R265), first and last; none where it covers none. -/
def State.portCols (s : State) (c : Copy) (v p : Nat) : Option (Nat × Nat) :=
  let len := Nat.max 1 (s.portCtx c p 0 0 16)
  let px := Nat.max 1 (s.pitchX c v)
  let a := s.uOf c p 0
  let b := s.uOf c p (len - 1)
  let lo := if a < b then a else b
  let hi := if a < b then b else a
  let first := ((lo + px - 1) / (px : Int)).toNat
  let last := hi / (px : Int)
  let w : Int := s.vWidth c v
  let last := if w - 1 < last then w - 1 else last
  if last < first then none else some (first, last.toNat)

/-- The lowest u of a port (R291). -/
def State.lowU (s : State) (c : Copy) (p : Nat) : Int :=
  let a := s.uOf c p 0
  let b := s.uOf c p (Nat.max 1 (s.portCtx c p 0 0 16) - 1)
  if a < b then a else b

/-- Whether a port's geometry breaks R291: a SPAN of 0, SPANs of different sign, or a step between entries. -/
def State.geoBad (s : State) (c : Copy) (p : Nat) : Bool :=
  let n := Nat.min 128 (cdiv (Nat.max 1 (s.portCtx c p 0 0 16)) 256)
  let span (k : Nat) : Int := s.geoSpan c p k
  (List.range n).any (fun k => span k == 0 || (decide (0 < span k) != decide (0 < span 0))) ||
  (List.range (n - 1)).any fun k => decide (16 < (s.geoOffset c p (k + 1) - s.geoOffset c p k - span k).natAbs)

/-- The offsets of the stitch and registration table space, and the registers, at fault in a view (R291). What is compared with REPEAT_LEN is
compared where a job gives it. -/
def State.viewFaults (s : State) (c : Copy) (v : Nat) : List Nat :=
  let f (lo len : Nat) : Nat := s.vrec c v lo len
  let ps := s.viewPorts c v
  let rep := s.repeatLen c
  let job := (s.jobOf c).isSome
  let at_ := 0x40 * v
  let pitch := decide (f 32 16 < 16) || decide (f 48 16 < 16) || f 0 19 == 0 || decide (262144 < f 0 19)
  let edge := f 64 1 == 1 && (decide (f 128 19 ≤ f 96 19) || !ps.contains (f 72 4) || decide (2 < f 67 2) || decide (8 < f 76 4) || f 208 16 == 0)
  let trim := f 224 8 != 0 && (!ps.contains (f 236 4) || decide (8192 < f 256 16) || decide (8 < f 232 4))
  let rng := decide (10000 < f 336 16) || decide (2 < f 428 2)
  let geo := ps.filter fun p => s.geoBad c p || ((s.portCtx c p 0 16 2 == 0) != (s.vPlanes c v == 1))
  let cols := ps.filterMap fun p => (s.portCols c v p).map fun e => (p, e)
  let sm := (List.range (f 252 4)).map fun i => i
  let sf (i lo len : Nat) : Nat := s.stitch c (0x100 + 0x100 * v + 0x10 * i) lo len
  let joined (p q : Nat) : Bool := sm.any fun i => (sf i 0 4 == p && sf i 4 4 == q) || (sf i 0 4 == q && sf i 4 4 == p)
  let cover := cols.any (fun x => decide (2 < (cols.filter fun y => decide (y.2.1 ≤ x.2.1) && decide (x.2.1 ≤ y.2.2)).length)) ||
    cols.any fun x => cols.any fun y => decide (x.1 < y.1) && decide (Nat.max x.2.1 y.2.1 ≤ Nat.min x.2.2 y.2.2) && !joined x.1 y.1
  let seamBad (i : Nat) : Bool :=
    let l := sf i 0 4
    let r := sf i 4 4
    let a := sf i 32 19
    let b := sf i 64 19
    !ps.contains l || !ps.contains r || decide (b < a) || decide (a + 1024 ≤ b) || (sf i 8 1 == 1 && a != b) ||
    decide (s.lowU c r ≤ s.lowU c l) || (decide (0 < i) && decide (s.lowU c l ≤ s.lowU c (sf (i - 1) 0 4)))
  let mr := cdiv rep (Nat.max 1 (f 48 16))
  let winBad (w : Nat) : Bool :=
    let g (lo len : Nat) : Nat := s.winF c v w lo len
    g 56 4 == 0 || decide (2 < g 60 2) ||
    (job && (decide (cdiv (f 0 19) 8 < g 0 15 + g 16 6 + 1) || decide (cdiv mr 8 < g 32 24 + g 24 6 + 1)))
  let rg (x : Fld) : Nat := s.jobFld c Pg.REG x
  let ctl := rg (Fd.REG_VIEW_CTL_SR_ACQ v) == 0 || decide (8 < rg (Fd.REG_VIEW_CTL_CORR_SHIFT v)) || rg (Fd.REG_VIEW_CTL_MIN_WIN v) == 0 ||
    rg (Fd.REG_VIEW_CTL_LOST_CNT v) == 0 || rg (Fd.REG_VIEW_CTL_STEP_MAX_64 v) == 0 || decide (32 < rg (Fd.REG_VIEW_CTL_STEP_MAX_64 v))
  let phase := job && decide (rep ≤ (s.jobRd c Pg.REG (Rg.REG_VIEW_PHASE v)).toNat)
  (if pitch || edge || trim || rng then [at_] else []) ++ geo.map (fun p => 0x2000 + 0x400 * p) ++
  (if cover then [0x100 + 0x100 * v] else []) ++ (sm.filter seamBad).map (fun i => 0x100 + 0x100 * v + 0x10 * i) ++
  ((s.winsOn c v).filter winBad).map (fun w => 0x800 + 0x400 * v + 0x10 * w) ++
  (if ctl then [Pg.REG * 4096 + Rg.REG_VIEW_CTL v] else []) ++ (if phase then [Pg.REG * 4096 + Rg.REG_VIEW_PHASE v] else [])

/-- STI_TABLE of views (R291). -/
def State.stiFaults (s : State) (c : Copy) (vs : List Nat) (job : Nat) : List Flt :=
  vs.flatMap fun v => (s.viewFaults c v).eraseDups.map fun o => (Er.STI_TABLE, o, job)

/-! ### Compare space (R368) -/

/-- CMP_FORMAT of a view: offsets of the compare space at fault. -/
def State.cmpFaults (s : State) (c : Copy) (v : Nat) : List Nat :=
  let w := s.vWidth c v
  let es := sortBy (fun e => s.coreLo c e) (s.enginesOf c v)
  let bad (e : Nat) : Bool :=
    let a := s.coreLo c e
    let b := s.coreHi c e
    a % 8 != 0 || decide (b + 1 < a + 64) || decide (98304 < (s.stripeHi c v e + 1 - s.stripeLo c e) * s.vPlanes c v) ||
    wf (s.jobRd c (Pg.IE e) Rg.IE_CTL) 0 1 == 0
  let cover := es.foldl (fun (n : Option Nat) e => match n with
    | some k => if s.coreLo c e = k then some (s.coreHi c e + 1) else none
    | none => none) (some 0)
  let rec_ := decide (s.join c v < 1) || decide (8 < s.join c v) || decide (s.cmpF c v 44 4 < 8) || decide (11 < s.cmpF c v 44 4) ||
    s.cmpF c v 64 8 == 0
  (if rec_ then [0x40 * v] else []) ++ (if cover ≠ some w then [0x100] else []) ++ (es.filter bad).map fun e => 0x100 + 8 * e

/-- The enabled regions of a job's MASKS section, however many. -/
def State.maskList (s : State) (c : Copy) : List Nat :=
  let n := match s.jobOf c with | some j => (j.bytes sectMasks).length / 32 | none => 0
  (List.range n).filter fun r => s.maskF c r 195 1 == 1

/-- MASK_FORMAT: offsets of the regions at fault. -/
def State.maskFaults (s : State) (c : Copy) : List Nat :=
  let bad (r : Nat) : Bool :=
    let f (lo len : Nat) : Nat := s.maskF c r lo len
    decide (sext 32 (f 32 32) ≤ sext 32 (f 0 32)) || decide (f 128 40 ≤ f 64 40) || decide (s.repeatLen c < f 128 40) || f 196 4 == 0 ||
    decide (3 < f 192 3) || (f 192 3 == maskPresence && decide (f 232 8 < f 224 8))
  ((s.maskList c).filter bad).map fun r => 0x9000 + 32 * r

/-! ### Cell map, rules, records (R32, R382, R390) -/

/-- Entries of the cell map at fault (R32). -/
def State.cellFaults (s : State) (c : Copy) : List Nat :=
  let on := s.cellsOn c
  let f (i lo len : Nat) : Nat := s.cellF c i lo len
  let bad (i : Nat) : Bool :=
    decide (sext 32 (f i 32 32) ≤ sext 32 (f i 0 32)) || decide (f i 128 40 ≤ f i 64 40) || decide (s.repeatLen c < f i 128 40) ||
    f i 208 4 == 0 ||
    on.any fun k => decide (k < i) && (f k 192 12 == f i 192 12 ||
      ((f k 208 4 &&& f i 208 4) != 0 && decide (sext 32 (f k 0 32) < sext 32 (f i 32 32)) && decide (sext 32 (f i 0 32) < sext 32 (f k 32 32)) &&
        decide (f k 64 40 < f i 128 40) && decide (f i 64 40 < f k 128 40)))
  on.filter bad

/-- Rules at fault (R390). -/
def State.ruleFaults (s : State) (c : Copy) : List Nat :=
  let bad (i : Nat) : Bool :=
    let f (lo len : Nat) : Nat := s.jobBits c sectRules (64 * i) lo len
    (List.range 3).any (fun k =>
      let field := f (128 * k) 6
      let op := f (128 * k + 8) 3
      let lo := f (128 * k + 16) 48
      let hi := f (128 * k + 64) 48
      let swapped : Bool := if field = 8 then decide (sext 48 hi < sext 48 lo) else decide (hi < lo)
      decide (21 < field) || decide (5 < op) || ((op == 1 || op == 2) && swapped)) ||
    decide (f 433 8 < f 425 8) || (f 410 1 == 1 && s.jobBits c sectRules (0x4000 + 32 * f 411 4) 0 1 == 0)
  (List.range 256).filter fun i => s.jobBits c sectRules (64 * i) 384 1 == 1 && bad i

/-- Whether a job's records or crops could come too fast (R382). -/
def State.recRate (s : State) (c : Copy) (vs : List Nat) : Bool :=
  let per (v : Nat) (x : Nat) : Nat := x * s.lineRate v * 2 ^ (15 - s.cmpF c v 44 4)
  let recs := sumN (vs.map fun v => per v (s.jobFld c Pg.MRG (Fd.MRG_REC_LIMIT_b0 v)))
  let crops := sumN (vs.map fun v => per v (s.jobFld c Pg.MRG Fd.MRG_CROP_CTL_PER_BAND * 8192 * s.vPlanes c v))
  decide (2000000 * s.rateDen * 2 ^ 15 < recs) || decide (4 * 10 ^ 9 * s.rateDen * 2 ^ 15 < crops)

/-! ### Masters (R325, R332-R334) -/

/-- What a view's master is refused for. -/
def State.mstFaults (s : State) (c : Copy) (v : Nat) : List ErrCode :=
  match s.geo c v with
  | none => [Er.MST_SPACE]
  | some g =>
    let one := s.mh g 5 1 == 1
    let k0 := s.mKind g 0
    let k1 := s.mKind g 1
    let cur := s.mCur g
    let here := if cur = 0 then k0 else k1
    let other := if cur = 0 then k1 else k0
    let adapt := s.mstF c Fd.MST_ADAPT_CTL_EN == 1
    let fit := s.mstF c Fd.MST_LEARN_CTL_FIT == 1
    (if g.len < 4096 + (if one then 1 else 2) * g.slotSize then [Er.MST_SPACE] else []) ++
    (if k0 = 3 ∨ k1 = 3 ∨ (here = 0 ∧ other ≠ 0) ∨ (one ∧ (k1 ≠ 0 ∨ cur = 1)) then [Er.MST_HEADER] else []) ++
    (if adapt ∧ g.mr < 8192 then [Er.MST_ADAPT] else []) ++
    (if one ∧ (k0 = 0 ∨ k0 = 3 ∨ fit ∨ adapt) then [Er.MST_ONE_SLOT] else [])

/-- Whether a view of a job will learn as the job starts (R312, R334): its current slot holds no learned master. -/
def State.willLearn (s : State) (c : Copy) (v : Nat) : Bool :=
  match s.geo c v with | some g => s.toLearn g | none => false

/-- Views that would learn with fewer learn slots than `n` (R333). -/
def State.learnShort (s : State) (vs : List Nat) (n : Nat) : List Nat := vs.filter fun v => decide (s.fld Pg.MST (Fd.MST_LV_CFG_SLOTS v) < n)

/-! ### The whole job -/

/-- The checks that validation and LOAD_NEXT share (R220, R234, R291, R333, R368, R382, R390), for the job in the next context. -/
def State.formFaults (s : State) (cs : List Copy) (job : Nat) : List Flt :=
  let c := Copy.next
  let vs := (List.range 4).filter fun v => s.enables c v
  s.ctxFaults c ++ s.tapFaults cs job ++ s.stiFaults c vs job ++
  vs.flatMap (fun v => (s.cmpFaults c v).map fun o => (Er.CMP_FORMAT, o, job)) ++
  (s.maskFaults c).map (fun o => (Er.MASK_FORMAT, o, job)) ++ (s.ruleFaults c).map (fun i => (Er.RUL_FORMAT, i, job)) ++
  (if s.recRate c vs then [(Er.REC_RATE, job, 0)] else []) ++
  vs.flatMap (fun v => (s.mstFaults c v).map fun e => (e, v, job))

/-- The checks of a LEGACY job (R93). -/
def State.legacyFaults (s : State) (j : JobCtx) : List Flt :=
  let ports := ((List.range 16).filter fun p => (s.viewOfPort .next p).isSome && s.viewOfPort .next p == some 0).length
  if !j.legacy then []
  else (if decide (1 < popcount 4 j.viewEn) || decide (8 < ports) then [(Er.JOB_LIMIT, j.id, 0)] else []) ++
    (if j.artwork != 0 || j.viewEn != 1 || decide (8 < ports) || s.cmpF .next 0 60 1 == 1 then [(Er.JOB_LEGACY, j.id, 0)] else [])

/-- The limits of Table — Job limits on tables. -/
def State.limitFaults (s : State) (j : JobCtx) : List Flt :=
  let cells := ((List.range ((j.bytes sectCells).length / 32)).filter fun i => s.cellF .next i 216 1 == 1).length
  if 4096 < cells ∨ 1024 < (s.maskList .next).length then [(Er.JOB_LIMIT, j.id, 0)] else []

/-- What validation finds in the sections of a job (R75). -/
def State.jobFaults (s : State) (j : JobCtx) : List Flt :=
  let t := s.asNext j
  t.limitFaults j ++ (t.cellFaults .next).map (fun i => (Er.JOB_CELLMAP, i, j.id)) ++ t.legacyFaults j ++ t.formFaults [.next] j.id ++
  (if j.artViews.isEmpty then [] else if t.artBad j then [(Er.ART_FORMAT, j.id, 0)] else []) ++ t.admitFaults [.next] j.id

/-- What LOAD_NEXT finds (R77, R78, R325, R332, R333). -/
def State.loadFaults (s : State) (j : JobCtx) : List Flt :=
  let t := s.asNext j
  let cs : List Copy := if s.jobA.isSome then [.active, .next] else [.next]
  let vs := (List.range 4).filter fun v => t.enables .next v
  let slot (v : Nat) : Bool := match t.geo .next v with | some g => t.mKind g (t.mCur g) == 0 | none => true
  t.formFaults cs j.id ++
  (vs.filter fun v => t.mstF .next Fd.MST_ADAPT_CTL_EN == 1 && decide (t.fld Pg.MST (Fd.MST_LV_CFG_SLOTS v) < 3)).map
    (fun v => (Er.MST_ADAPT, v, j.id)) ++
  (t.learnShort (vs.filter fun v => t.willLearn .next v) (t.learnN .next)).map (fun v => (Er.MST_LEARN_SPACE, v, j.id)) ++
  (if (match s.predict with | some x => x.job == j.id | none => false) || j.artViews.any slot then [(Er.ART_NOT_PREDICTED, j.id, 0)] else []) ++
  t.admitFaults cs j.id

/-! ### The directory entry and the sections (R74, R75, R304, R698) -/

/-- Whether a section type is that of a job section (Table — Section types). -/
def sectKnown (t : Nat) : Bool := (decide (0x100 ≤ t) && decide (t ≤ 0x115)) || (decide (0x120 ≤ t) && decide (t ≤ 0x124)) ||
  (decide (0x128 ≤ t) && decide (t ≤ 0x12B))

/-- The index of the first section entry that breaks R698. Of two entries of one TYPE it is the later that is at fault (DESIGN CHOICE, log
entry 60). -/
def badSect (l : List Sect) : Option Nat :=
  (List.range l.length).find? fun i => match l[i]? with
    | some x => x.compressed || x.dest != 0 || !sectKnown x.type || (l.take i).any fun y => y.type == x.type
    | none => false

/-- A read of library data for validation or loading, by port 1 (R514): none where it is poisoned, which R525 logs. -/
def State.jobRead (s : State) (a n : Nat) : State × Option (List Byte) :=
  if n = 0 then (s, some [])
  else match s.memRead 1 a n with
    | (t, none) =>
      match (List.range ((a + n - 1) / 64 - a / 64 + 1)).find? fun i => tabGet (dflt false) s.badLine (a / 64 + i) with
      | some i => (t.uncorrected (64 * (a / 64 + i)) true, none)
      | none => (t, none)
    | r => r

/-- Whether the segment CRCs of a view's slots hold (R304). -/
def State.segsOk (s : State) (g : Geo) : Bool :=
  (List.range 2).all fun k =>
    s.mKind g k == 0 || decide (g.len < 4096 + (k + 1) * g.slotSize) ||
    (List.range (g.crcOfs / 4096)).all fun i =>
      !s.dramBad (g.slot k + 4096 * i) 4096 && !s.dramBad (g.slot k + g.crcOfs + 4 * i) 4 &&
      crc32c (s.dram (g.slot k + 4096 * i) 4096) == s.dramNat (g.slot k + g.crcOfs + 4 * i) 4

/-- JOB_CRC of the sections of a job, by section index. -/
def State.crcFaults (s : State) (j : JobCtx) (l : List Sect) : State × List Flt :=
  l.zipIdx.foldl (fun (a : State × List Flt) (e : Sect × Nat) =>
    let x := e.1
    let master := decide (0x120 ≤ x.type) && decide (x.type < 0x124)
    let (t, d) := a.1.jobRead x.addr (if master then 4096 else x.len)
    let ok : Bool := match d with | some b => crc32c b == x.crc | none => false
    let segs : Bool := match master, (s.asNext j).geo .next (x.type - 0x120) with
      | true, some g => (s.asNext j).segsOk g
      | _, _ => true
    (t, if ok && segs then a.2 else a.2 ++ [(Er.JOB_CRC, j.id, e.2)])) (s, [])

/-- All that validation finds in job `j` (R75). -/
def State.validate (s : State) (j : Nat) : State × List Flt :=
  let (s, d) := s.jobRead (s.dirAddr j) 64
  if d.isNone then (s, [(Er.JOB_CRC, j, 0xFFFF)])
  else
    let base := s.jobSectBase j
    let n := s.jobSectCount j
    let table := base % 4096 == 0 && decide (1 ≤ n) && decide (n ≤ 4096)
    let entry := s.dir j 4 4 == 0 || s.dir j 32 40 == 0 || !table || s.roWritten.contains j
    let dirF : List Flt := if entry then [(Er.JOB_DIR, j, 0xFFFF)] else []
    if !table then (s, dirF)
    else
      let (s, d) := s.jobRead base (32 * n)
      if d.isNone then (s, dirF ++ [(Er.JOB_CRC, j, 0xFFFF)])
      else
        let l := s.jobSects j
        let c := s.jobCtx j
        let sectF : List Flt := match badSect l with | some i => [(Er.JOB_DIR, j, i)] | none => []
        let (s, crcF) := s.crcFaults c l
        (s, dirF ++ sectF ++ crcF ++ s.jobFaults c)

/-- Faults logged in the order of their codes (R605). -/
def State.logFaults (s : State) (l : List Flt) : State :=
  (sortBy (fun (f : Flt) => f.1.code) l).foldl (fun (s : State) (f : Flt) => s.logErr f.1 Pg.SYS f.2.1 f.2.2) s

end Sys2Proof.Machine
end

