-- ==== Sys2Proof/Machine/Health.lean ====
section
/-!
DEFINITION. Self-calibration, temperature and supply monitors, the headroom gauge and the adaptive voltage service, the memory
BIST and the test access port (R641-R657). What sensors, monitors, replicas and the regulator give are operands.
-/
namespace Sys2Proof.Machine

/-- A monitor of the HLTH page runs: the page is enabled, and BOOT has been left. -/
def State.hlthOn (s : State) : Bool := s.blockOn Pg.HLTH Fd.HLTH_CTL_EN && s.mode != .boot

/-! ### Calibrations (R641-R645) -/

/-- The key of a calibration of a unit: items 0 to 2 have one unit. -/
def calKey (item unit : Nat) : Nat := if item < 3 then item else 64 * item + unit

def State.calOf (s : State) (k : Nat) : Option CalRun := tabGet (dflt none) s.hlth.cal k
def State.setCal (s : State) (k : Nat) (x : Option CalRun) : State :=
  { s with hlth := { s.hlth with cal := tabPut (dflt none) k x s.hlth.cal } }

/-- A run of calibration 0, 1 or 2 starts; a request waits behind a run, and a periodic run that falls due in one is absorbed (R644). -/
def State.startCal (s : State) (k : Nat) (requested : Bool) : State :=
  match s.calOf k with
  | none => s.setCal k (some { requested := requested })
  | some x => if requested then s.setCal k (some { x with waits := true }) else s

/-- A write of CAL_CTL (R644). -/
def State.calGo (s : State) (w : Word) : State :=
  let s := s.writeReg Pg.HLTH Rg.HLTH_CAL_CTL w
  if wf w 8 1 = 0 then s
  else if 2 < wf w 0 4 then s.setFld Pg.HLTH Fd.HLTH_CAL_CTL_RESULT 3
  else if s.hlthOn then s.startCal (wf w 0 4) true else s

/-- CAL_CTL_GO. -/
def execCalCtlGo (o : Owner) (w : Word) (s : State) : Host.Outcome State Fault Refusal :=
  .next (s.guarded o Pg.HLTH Rg.HLTH_CAL_CTL (·.calGo w))

/-- PERIODIC_CAL of calibration 0, 1 or 2. -/
def execPeriodicCal (k : Fin 3) (s : State) : Host.Outcome State Fault Refusal :=
  .next (if s.hlthOn && s.on Pg.HLTH Fd.HLTH_CTL_b1 then s.startCal k false else s)

/-- The two measurements of every code agree (R641). -/
def codesAgree (a b : List Nat) : Bool := a.length == b.length && (List.zip a b).all fun e => decide (e.1 ≤ e.2 + 1) && decide (e.2 ≤ e.1 + 1)

/-- Whether a calibration of a unit is in progress: of items 0 to 2 as they were started, of the Joker before STANDBY, of an uplink
transmitter in BASE (Table — Calibrations); of items 3, 6 and 7 their own chapters say when. -/
def State.calRuns (s : State) (item unit : Nat) : Bool :=
  if item < 3 then (s.calOf item).isSome
  else if item = 4 then decide (unit < 16) && ((s.jk unit).stage == .selfCal true || (s.jk unit).stage == .selfCal false)
  else if item = 5 then decide (unit < 16) && s.linkState unit == lkBase
  else item == 3 || item == 6 || item == 7

/-- The figure of the band-gap check: 0.1 mV, signed (R645). -/
def State.bandGap (s : State) (dev : Int) : State :=
  let s := s.setFld Pg.HLTH Fd.HLTH_BG_b0 (toTwos 16 dev)
  let far := decide (60 < dev.natAbs)
  let s := s.setBit Pg.HLTH Fd.HLTH_BG_BG_WARN far
  if far then s.logErr Er.BG_WARN Pg.HLTH else s

/-- The end of a run: one that waits behind it starts (R644). -/
def State.calEnd (s : State) (k : Nat) (x : CalRun) (result : Nat) : State :=
  let s := s.bump Pg.HLTH Fd.HLTH_CNT_b0
  let s := if x.requested then s.setFld Pg.HLTH Fd.HLTH_CAL_CTL_RESULT result else s
  s.setCal k (if x.waits then some { requested := true } else none)

/-- A calibration fails after 4 attempts (R642); a Joker that fails its own enters FAILED (R188). -/
def State.calFailed (s : State) (item unit : Nat) : State :=
  let s := s.bump Pg.HLTH Fd.HLTH_CNT_NO_AGREE
  if item = 3 ∨ item = 6 ∨ item = 7 then s
  else
    let s := (s.flag Pg.HLTH Fd.HLTH_STAT_CAL_FAIL).logErr Er.CAL_NO_AGREE Pg.HLTH item unit
    if item = 4 then s.jkFail unit else s

/-- CAL_ATTEMPT_DONE: a pair of measurements of every code, with the quality figure of the second (R641-R643). -/
def State.calAttempt (s : State) (item unit : Nat) (a b : List Nat) (fig : Int) : State :=
  let k := calKey item unit
  if !s.calRuns item unit then s
  else
    let x := (s.calOf k).getD {}
    let n := x.attempts + 1
    if codesAgree a b then
      let s := s.wr Pg.HLTH Rg.HLTH_CAL_STAT (BitVec.ofNat 32 (item + 16 * toTwos 12 fig + 2 ^ 16 * n))
      let s := (if item = 0 then s.bandGap fig else s).calEnd k x 1
      if item = 4 then s.jkReady unit else s
    else if n < 4 then (s.setCal k (some { x with attempts := n })).bump Pg.HLTH Fd.HLTH_CNT_b16
    else (s.calEnd k x 2).calFailed item unit

def execCalAttemptDone (item : Fin 10) (unit : Fin 64) (a b : List Nat) (fig : Int) (s : State) : Host.Outcome State Fault Refusal :=
  .next (s.calAttempt item unit a b fig)

/-! ### Temperature (R189, R646, R647) -/

/-- A sensor's last reading, signed, 0.25 °C. -/
def State.tempOf (s : State) (k : Nat) : Int := sext 10 (tabGet (dflt 0) s.hlth.temp k)

/-- Tj and the lowest sensor that shows it. -/
def State.tj (s : State) : Int × Nat :=
  (List.range 16).foldl (fun (b : Int × Nat) k => if b.1 < s.tempOf k then (s.tempOf k, k) else b) (s.tempOf 0, 0)

/-- HLTH.TEMP (Table — HLTH page). -/
def State.tempWord (s : State) : Word :=
  BitVec.ofNat 32 (toTwos 10 (s.tempOf (s.fld Pg.HLTH Fd.HLTH_TEMP_SEL_b0)) + 2 ^ 16 * toTwos 10 s.tj.1)

/-- Recalibrations that a change of temperature by CAL_DT asks for, on lanes of active links (R189). -/
def State.tempRecal (s : State) : State :=
  (List.range 16).foldl (fun (s : State) q =>
    let p := s.portOfQuad q
    let dt := s.trainFld p Fd.CP_TRAIN_CTL_CAL_DT
    if dt = 0 ∨ s.linkState p ≠ lkActive then s
    else (List.range 4).reverse.foldl (fun (s : State) m =>
      let j := s.jk q
      let moved := (sext 10 (s.quadTemp q) - sext 10 (tabGet (dflt 0) j.calTemp m)).natAbs
      let asked := tbit j.waiting m || (j.stage != .none && j.lane == m)
      if s.lanes p ≤ s.laneOf q m ∨ moved < 4 * dt ∨ asked then s else s.requestRecal q m) s) s

/-- TEMP_READ: the sixteen sensors are read, as 10-bit patterns (R646, R647); while the sensors are being calibrated they keep their last
values (R644). -/
def State.tempRead (s : State) (l : List Nat) (t : Nat) : State :=
  let s := s.atNs t
  if !s.hlthOn || (s.calOf 1).isSome then s
  else
    let s := { s with hlth := { s.hlth with
      temp := (l.take 16).zipIdx.foldl (fun (x : Tab Nat) (e : Nat × Nat) => tabPut (dflt 0) e.2 (e.1 % 1024) x) s.hlth.temp } }
    let g := Pg.HLTH
    let (tj, k) := s.tj
    let warn : Int := 4 * s.fld g Fd.HLTH_TEMP_LIM_WARN
    let s := if warn ≤ tj then
        (if s.on g Fd.HLTH_STAT_TEMP_WARN then s else (s.flag g Fd.HLTH_STAT_TEMP_WARN).logErr Er.TEMP_WARN g k)
      else if tj < warn - 4 * s.fld g Fd.HLTH_TEMP_LIM_HYST then (s.setFld g Fd.HLTH_STAT_TEMP_WARN 0).errEdge g
      else s
    let n := if 4 * (s.fld g Fd.HLTH_TEMP_LIM_CRIT : Int) ≤ tj then s.hlth.crit + 1 else 0
    let s := { s with hlth := { s.hlth with crit := n } }
    (if n = 2 then s.logErr Er.TEMP_CRIT g k else s).tempRecal

def execTempRead (l : List (Fin 1024)) (t : Nat) (s : State) : Host.Outcome State Fault Refusal :=
  .next (s.tempRead (l.map (·.val)) t)

/-! ### Supplies (R648) -/

/-- Nominal voltage, mV, and the warning and fault windows in permille of it (Table — Supply monitor windows); VDD_CORE apart. -/
def railNominal : List (Nat × Nat × Nat) :=
  [(800, 0, 0), (800, 30, 60), (850, 30, 60), (1200, 30, 60), (1050, 30, 60), (500, 30, 60), (1800, 50, 100), (3300, 50, 100)]

/-- Whether a rail's voltage lies outside its warning window, and outside its fault window. -/
def State.railOut (s : State) (k v : Nat) : Bool × Bool :=
  if k = 0 then
    let d := ((v : Int) - s.hlth.vcmd).natAbs
    (decide (15 < d), decide (30 < d) || decide (v < 620) || decide (880 < v))
  else
    let (nom, a, b) := nth (0, 0, 0) railNominal k
    let d := 1000 * ((v : Int) - nom).natAbs
    (decide (nom * a < d), decide (nom * b < d))

/-- A reading of one rail. -/
def State.railRead (s : State) (k v : Nat) : State :=
  let h := s.hlth
  let low := (tabGet (dflt (0, 0)) h.sup k).2
  let h := { h with sup := tabPut (dflt (0, 0)) k (v, if low = 0 then v else Nat.min low v) h.sup }
  let (warn, fault) := s.railOut k v
  let n := if fault then tabGet (dflt 0) h.bad k + 1 else 0
  let last := tabGet (dflt 0) h.warnAt k
  let say := warn && (last == 0 || decide (last + 10 ^ 9 ≤ s.rawNs + 1))
  let h := { h with bad := tabPut (dflt 0) k n h.bad, warnAt := if say then tabPut (dflt 0) k (s.rawNs + 1) h.warnAt else h.warnAt }
  let s := { s with hlth := h }
  let s := if warn then s.flag Pg.HLTH Fd.HLTH_STAT_SUPPLY_WARN else s
  let s := if say then s.logErr Er.SUPPLY_WARN Pg.HLTH k else s
  let s := if k = 6 then s.setBit Pg.PINS1 Fd.PINS1_BANK_STAT_VDD_IO18 (!warn)
    else if k = 7 then s.setBit Pg.PINS1 Fd.PINS1_BANK_STAT_VDD_IO33 (!warn) else s
  if n = 3 then s.logErr Er.SUPPLY_FAULT Pg.HLTH k else s

/-- SUPPLY_READ: the eight rails in mV, in the order of the table; none while the monitors are being calibrated (R644). -/
def State.supplyRead (s : State) (l : List Nat) (t : Nat) : State :=
  let s := s.atNs t
  if !s.hlthOn || (s.calOf 2).isSome then s
  else (l.take 8).zipIdx.foldl (fun (s : State) (e : Nat × Nat) => s.railRead e.2 e.1) s

def execSupplyRead (l : List (Fin 4096)) (t : Nat) (s : State) : Host.Outcome State Fault Refusal :=
  .next (s.supplyRead (l.map (·.val)) t)

/-- HLTH.SUP of the selected rail. -/
def State.supWord (s : State) : Word :=
  let e := tabGet (dflt (0, 0)) s.hlth.sup (s.fld Pg.HLTH Fd.HLTH_SUP_SEL_b0)
  BitVec.ofNat 32 (e.1 + 2 ^ 16 * e.2)

/-- A read of HLTH.SUP: the lowest reading starts anew. -/
def State.supRead (s : State) : State × Word :=
  let k := s.fld Pg.HLTH Fd.HLTH_SUP_SEL_b0
  let e := tabGet (dflt (0, 0)) s.hlth.sup k
  ({ s with hlth := { s.hlth with sup := tabPut (dflt (0, 0)) k (e.1, e.1) s.hlth.sup } }, s.supWord)

/-! ### Headroom and adaptive voltage (R649-R652) -/

/-- NEED of R649, Mtok/s: the largest admitted load of a pipeline or engine in Msample/s, divided by 6.4. -/
def State.need (s : State) : Nat :=
  let cs : List Copy := if s.jobN.isSome then [.active, .next] else [.active]
  let load := maxN ((List.range 8).flatMap fun g => [most cs (fun c => s.pipeLoad c g), most cs fun c => s.engRate c g])
  (rdiv load (6400000 * s.rateDen)).toNat

/-- HEADROOM_SAMPLE: the lowest replica rate, Mtok/s (R649, R650). -/
def State.headroom (s : State) (rate t : Nat) : State :=
  let s := s.atNs t
  let g := Pg.HLTH
  if !s.hlthOn then s
  else
    let need := s.need
    let s := (s.setFld g Fd.HLTH_HR_STAT_RATE (satN 16 rate)).setFld g Fd.HLTH_HR_STAT_NEED (satN 16 need)
    let s := { s with hlth := { s.hlth with low := some (match s.hlth.low with | some x => Nat.min x rate | none => rate) } }
    let s := if rate < 1500 ∧ !s.on g Fd.HLTH_STAT_HR_LOW then (s.flag g Fd.HLTH_STAT_HR_LOW).logErr Er.HR_LOW g else s
    let was := s.on g Fd.HLTH_STAT_HR_CRIT
    let s := s.setBit g Fd.HLTH_STAT_HR_CRIT (decide (rate < need))
    if rate < need ∧ !was then s.logErr Er.HR_CRIT g else s

def execHeadroomSample (rate : Nat) (t : Nat) (s : State) : Host.Outcome State Fault Refusal := .next (s.headroom rate t)

/-- A voltage in mV as a LINEAR16 word, and back (R597, R651). -/
def toLinear (expo : Int) (mv : Nat) : Nat :=
  (if expo < 0 then rdiv (mv * 2 ^ expo.natAbs : Nat) 1000 else rdiv mv (1000 * 2 ^ expo.natAbs)).toNat
def ofLinear (expo : Int) (w : Nat) : Nat :=
  (if expo < 0 then rdiv (w * 1000 : Nat) (2 ^ expo.natAbs) else ((w * 1000 * 2 ^ expo.natAbs : Nat) : Int)).toNat

/-- An agent command that failed: what is retried in the next period, and AVS_LOST after 3 in a row (R652). -/
def State.avsFail (s : State) (retry : Nat) : State :=
  let g := Pg.HLTH
  let n := s.fld g Fd.HLTH_AVS_STAT_b26 + 1
  let s := { (s.setFld g Fd.HLTH_AVS_STAT_b26 n) with hlth := { s.hlth with retry := retry } }
  if n = 3 then (s.setFld g Fd.HLTH_AVS_STAT_LOST 1).logErr Er.AVS_LOST g else s

/-- READ_VOUT answers the raw word, or fails; a reading more than 10 mV from v is a failure (R652). -/
def State.avsRead (s : State) (expo : Int) (ans : Option Nat) : State :=
  let g := Pg.HLTH
  match ans with
  | none => s.avsFail 2
  | some w =>
    let mv := ofLinear expo w
    let s := s.setFld g Fd.HLTH_AVS_STAT_READ_VOUT mv
    if 10 < ((mv : Int) - s.fld g Fd.HLTH_AVS_STAT_b0).natAbs then s.avsFail 2
    else { (s.setFld g Fd.HLTH_AVS_STAT_b26 0) with hlth := { s.hlth with retry := 0 } }

/-- What the agent puts on TWL0 to write a command. -/
def State.agentWrite (s : State) (code : Nat) (data : List Byte) : State :=
  s.emit (.twoWire (Pg.TWL 0) (BitVec.ofNat 8 (2 * s.fld Pg.HLTH Fd.HLTH_AVS_CTL_ADDR) :: BitVec.ofNat 8 code :: data))

/-- v of R651 for the next period. -/
def State.avsNext (s : State) (v r high : Nat) : Nat :=
  let g := Pg.HLTH
  let step := s.fld g Fd.HLTH_AVS_CTL_STEP_MV
  let vmax := s.fld g Fd.HLTH_AVS_LIM_VMAX
  if r < 1500 then Nat.min vmax (v + 4 * step)
  else if r < s.fld g Fd.HLTH_AVS_TGT_TARGET then Nat.min vmax (v + step)
  else if 10 ≤ high then Nat.max (s.fld g Fd.HLTH_AVS_LIM_VMIN) (v - step)
  else v

/-- AVS_PERIOD: the regulator's answers in the order they are asked for: VOUT_MODE (a byte), whether VOUT_COMMAND was acknowledged, READ_VOUT
(a word); none or false where the bus ends a command with NACK, TIMEOUT or ARB_LOST (R597, R651, R652). -/
def State.avsPeriod (s : State) (modeByte : Option Nat) (ack : Bool) (vout : Option Nat) : State :=
  let g := Pg.HLTH
  let r := s.hlth.low.getD (s.fld g Fd.HLTH_HR_STAT_RATE)
  let s := { s with hlth := { s.hlth with low := none } }
  if !s.hlthOn || !s.on g Fd.HLTH_AVS_CTL_EN || s.on g Fd.HLTH_AVS_STAT_LOST then s
  else
    match s.hlth.expo.or (modeByte.map fun b => sext 5 b) with
    | none => s.avsFail 0
    | some expo =>
      let s := { s with hlth := { s.hlth with expo := some expo } }
      if !s.hlth.known then
        match vout with
        | none => s.avsFail 0
        | some w =>
          let mv := ofLinear expo w
          let s := (s.setFld g Fd.HLTH_AVS_STAT_b0 mv).setFld g Fd.HLTH_AVS_STAT_READ_VOUT mv
          { (s.setFld g Fd.HLTH_AVS_STAT_b26 0) with hlth := { s.hlth with known := true } }
      else
        let above := decide (s.fld g Fd.HLTH_AVS_TGT_TARGET + s.fld g Fd.HLTH_AVS_TGT_HYST < r)
        let high := if above then Nat.min 10 (s.hlth.high + 1) else 0
        let v := s.fld g Fd.HLTH_AVS_STAT_b0
        let v' := s.avsNext v r high
        let s : State := { (s.setFld g Fd.HLTH_AVS_STAT_b0 v') with hlth := { s.hlth with high := high } }
        if v' != v || s.hlth.retry == 1 then
          let s := s.agentWrite 0x21 (leBytes 2 (toLinear expo v'))
          if ack then ({ s with hlth := { s.hlth with vcmd := v' } }).avsRead expo vout else s.avsFail 1
        else if s.hlth.retry == 2 then s.avsRead expo vout
        else s

def execAvsPeriod (modeByte : Option (Fin 256)) (ack : Bool) (vout : Option (Fin 65536)) (s : State) : Host.Outcome State Fault Refusal :=
  .next (s.avsPeriod (modeByte.map (·.val)) ack (vout.map (·.val)))

/-- A write of AVS_CTL: the service starts anew as EN rises (R651, R652). -/
def State.avsCtl (s : State) (w : Word) : State :=
  let was := s.on Pg.HLTH Fd.HLTH_AVS_CTL_EN
  let s := s.writeReg Pg.HLTH Rg.HLTH_AVS_CTL w
  if s.on Pg.HLTH Fd.HLTH_AVS_CTL_EN && !was then
    let s := { s with hlth := { s.hlth with known := false, retry := 0, high := 0 } }
    (s.setFld Pg.HLTH Fd.HLTH_AVS_STAT_LOST 0).setFld Pg.HLTH Fd.HLTH_AVS_STAT_b26 0
  else s

/-- Writes of TEMP_LIM, AVS_TGT and AVS_LIM that break R647 or R651 are ignored. -/
def State.tempLim (s : State) (w : Word) : State :=
  if wf w 0 8 < wf w 8 8 ∧ wf w 8 8 ≤ 125 then s.writeReg Pg.HLTH Rg.HLTH_TEMP_LIM w else s
def State.avsTgt (s : State) (w : Word) : State := if 1500 ≤ wf w 0 16 then s.writeReg Pg.HLTH Rg.HLTH_AVS_TGT w else s
def State.avsLim (s : State) (w : Word) : State :=
  if 650 ≤ wf w 0 10 ∧ wf w 0 10 ≤ wf w 16 10 ∧ wf w 16 10 ≤ 850 then s.writeReg Pg.HLTH Rg.HLTH_AVS_LIM w else s

/-! ### Memory BIST (R653) -/

/-- The range of MBIST_RANGE in bytes: its start and its end. -/
def State.mbistRange (s : State) : Nat × Nat :=
  let b := s.fld Pg.HLTH Fd.HLTH_MBIST_RANGE_BASE
  (2 ^ 26 * b, 2 ^ 26 * (b + s.fld Pg.HLTH Fd.HLTH_MBIST_RANGE_SIZE))

/-- A write of MBIST_CTL. -/
def State.mbistGo (s : State) (w : Word) : State :=
  let g := Pg.HLTH
  let s := s.writeReg g Rg.HLTH_MBIST_CTL w
  if wf w 0 1 = 0 then s
  else if s.mode.job then s.setFld g Fd.HLTH_MBIST_STAT_RESULT 3
  else if s.mode ≠ .setup ∨ s.fld g Fd.HLTH_MBIST_STAT_STATE = 1 ∨ s.capacity < s.mbistRange.2 then s.setFld g Fd.HLTH_MBIST_STAT_RESULT 4
  else (s.wr g Rg.HLTH_MBIST_STAT 1).wr g Rg.HLTH_MBIST_FIRST 0

/-- MBIST_GO. -/
def execMbistGo (o : Owner) (w : Word) (s : State) : Host.Outcome State Fault Refusal :=
  .next (s.guarded o Pg.HLTH Rg.HLTH_MBIST_CTL (·.mbistGo w))

/-- MBIST_DONE: the test ends with its failing 64-byte lines in the order they were found; the contents of the range are free. -/
def State.mbistDone (s : State) (l : List Nat) : State :=
  let g := Pg.HLTH
  if s.fld g Fd.HLTH_MBIST_STAT_STATE ≠ 1 then s
  else
    let (a, b) := s.mbistRange
    let s := (s.blankRange a b (some s.free)).drawn
    let s := s.wr g Rg.HLTH_MBIST_STAT (BitVec.ofNat 32 (2 + 4 * (if l.isEmpty then 1 else 2) + 256 * satN 24 l.length))
    match l with
    | [] => s
    | k :: _ => (s.wr g Rg.HLTH_MBIST_FIRST (BitVec.ofNat 32 (k % 2 ^ 31 + 2 ^ 31))).logErr Er.MBIST_FAIL g k

def execMbistDone (l : List Nat) (s : State) : Host.Outcome State Fault Refusal := .next (s.mbistDone l)

/-! ### Test access port (R654-R656) -/

/-- The instructions that take the pins (R656). -/
def tapTakes (i : Nat) : Bool := i == 0 || i == 3 || i == 4 || i == 5 || i == 6

/-- TAP_INSTRUCTION. The manual does not give the encoding of the controller's state. -/
def State.tapLoad (s : State) (i : Nat) : State :=
  let s := if tapTakes i && s.mode.job then (s.logErr Er.JTAG_TAKEOVER Pg.TST).flag Pg.TST Fd.TST_STAT_TAKEOVER_SEEN else s
  let s := { s with hlth := { s.hlth with tap := i } }
  let s := s.setFld Pg.TST Fd.TST_TAP_STAT_TAP (Config.freeNat s.free)
  ((s.setFld Pg.TST Fd.TST_TAP_STAT_b0 i).setBit Pg.TST Fd.TST_TAP_STAT_b12 (tapTakes i)).drawn

def execTapInstruction (i : Fin 256) (s : State) : Host.Outcome State Fault Refusal := .next (s.tapLoad i)

/-- TEST_LOGIC_RESET: IDCODE, the state after reset, and the pins returned. -/
def execTestLogicReset (s : State) : Host.Outcome State Fault Refusal :=
  .next (({ s with hlth := { s.hlth with tap := 1 } }).wr Pg.TST Rg.TST_TAP_STAT 1)

end Sys2Proof.Machine
end

