-- ==== Sys2Proof/Machine/Session.lean ====
section
/-!
DEFINITION. Sessions (R556-R568): next hops and ARP requests, datagrams with their SEQ, egress losses and GAP records, the history
ring, session entries, and how a record or an image line reaches the sessions.
-/
namespace Sys2Proof.Machine

/-! ### Next hops (R555) -/

/-- Whether the network block runs; it is inactive in BOOT (Table — Blocks active by mode). -/
def State.netOn (s : State) : Bool := s.blockOn Pg.NET Fd.NET_CTL_EN && s.mode != .boot

/-- A port's IPv4 address, and whether an address lies in its subnet. -/
def State.ownIp (s : State) (n : Nat) : Nat := (s.rd (Pg.ETH n) Rg.ETH_IP_ADDR).toNat
def State.inSubnet (s : State) (n ip : Nat) : Bool :=
  let m := (s.rd (Pg.ETH n) Rg.ETH_IP_MASK).toNat
  (ip &&& m) == (s.ownIp n &&& m)

/-- The next hop of an address. -/
def State.nextHop (s : State) (n ip : Nat) : Nat := if s.inSubnet n ip then ip else (s.rd (Pg.ETH n) Rg.ETH_GATEWAY).toNat

/-- The ARP entry of an address. -/
def State.arpOf (s : State) (n ip : Nat) : Option ArpEntry := s.net.arp.find? fun e => e.port == n && e.ip == ip

/-- An entry put in the place of the one of its port and address, or removed. -/
def State.setArp (s : State) (n ip : Nat) (e : Option ArpEntry) : State :=
  let l := s.net.arp
  let l := match e with
    | none => l.filter fun x => !(x.port == n && x.ip == ip)
    | some e => if l.any fun x => x.port == n && x.ip == ip then
        l.map fun x => if x.port == n && x.ip == ip then e else x
      else l ++ [e]
  { s with net := { s.net with arp := l } }

/-- An ARP request for an address, sent and counted. -/
def State.arpRequest (s : State) (n ip : Nat) : State :=
  if s.ethSends n then
    (((s.emit (.arp n 1 0 ip)).countTx n 42).bump (Pg.ETH n) Fd.ETH_ARP_CNT_b0)
  else s

/-- The MAC address that a destination is sent to: a group's own, or the resolved next hop's. An unresolved hop starts its
resolution while one of the 1,088 entries is free. -/
def State.hopMac (s : State) (n ip : Nat) : State × Option Nat :=
  if isGroup ip then (s, some (groupMac ip))
  else
    let h := s.nextHop n ip
    match s.arpOf n h with
    | some e => (s, e.mac)
    | none =>
      if s.net.arp.length < 1088 then ((s.arpRequest n h).setArp n h (some ⟨n, h, none, some 1⟩), none) else (s, none)

/-- A UDP datagram of the WX16 itself, which leaves at once if its next hop is resolved and the port sends (R553, R555). -/
def State.udpSend (s : State) (n ip sport dport : Nat) (data : List Byte) : State :=
  if s.netOn && s.ethSends n then
    match s.hopMac n ip with
    | (s, some _) => (s.emit (.udp n ip sport dport data)).countTx n (42 + data.length)
    | (s, none) => s
  else s

/-! ### Session entries (R557) -/

/-- The session table as the host writes it. -/
abbrev sessShadowAt (k : Nat) : Nat := 0x1A0000 + 64 * k

/-- A field of a session's entry in force. -/
def State.se (s : State) (k lo len : Nat) : Nat := s.winBits (sessActiveAt k) lo len
def State.seOpen (s : State) (k : Nat) : Bool := s.se k 0 1 == 1
def State.seAct (s : State) (k : Nat) : Bool := s.se k 1 1 == 1
def State.sePort (s : State) (k : Nat) : Nat := s.se k 2 1
def State.seIp (s : State) (k : Nat) : Nat := s.se k 32 32

def State.sess (s : State) (k : Nat) : Sess := tabGet (dflt {}) s.net.sess k
def State.putSess (s : State) (k : Nat) (x : Sess) : State := { s with net := { s.net with sess := tabPut (dflt {}) k x s.net.sess } }

/-- The sessions in force, in order. -/
def State.sessions (s : State) : List Nat := (List.range 1024).filter fun k => s.seOpen k

/-- The next SEQ of a session (R561). -/
def Sess.seq (x : Sess) : Nat := 2 ^ 48 * x.epoch + x.count % 2 ^ 48

/-! ### Datagrams (R560-R564) -/

/-- KIND values of Table — WRP header. -/
abbrev kRecords : Nat := 0
abbrev kImage : Nat := 1
abbrev kStatus : Nat := 2
abbrev kNack : Nat := 3

/-- A WRP header (Table — WRP header). -/
def wrpHeader (kind k seq sent count ofs : Nat) (retx restart last : Bool) : Nat :=
  mkBits [(0, 16, 0x5257), (16, 4, 1), (20, 4, kind), (24, 1, b2n retx), (25, 1, b2n restart), (26, 1, b2n last), (32, 10, k),
    (64, 64, seq), (128, 64, sent), (192, 16, count), (224, 32, ofs)]

/-- CAUSE values of a GAP record. -/
abbrev gapEgress : Nat := 1
abbrev gapHistory : Nat := 2
abbrev gapRestart : Nat := 3

/-- A GAP record (Table — GAP record). -/
def State.gapRec (s : State) (cause from_ to_ recs lines : Nat) : Nat :=
  mkBits [(0, 8, recGap), (8, 6, s.jobId .active), (32, 16, 0xFFFF), (64, 64, from_), (128, 64, to_), (192, 32, satN 32 recs),
    (224, 32, satN 32 lines), (256, 64, s.time), (320, 8, cause)]

/-- The frame of a datagram of a session: its tag is the session's or the port's (R552, R557); the IPv4 identification is free. -/
def State.sessFrame (s : State) (k mac : Nat) (data : List Byte) : List Byte :=
  let n := s.sePort k
  let g := Pg.ETH n
  let tag : Option (Nat × Nat) :=
    if s.se k 95 1 = 1 then some (s.se k 92 3, s.se k 80 12)
    else if s.on g Fd.ETH_VLAN_TAGGED then some (s.fld g Fd.ETH_VLAN_PCP_WRP, s.fld g Fd.ETH_VLAN_VID) else none
  ethFrame mac (s.ethMac n) tag 0x0800 (ipUdp (s.ownIp n) (s.seIp k) (s.fld g Fd.ETH_IP_CTL_DSCP) (s.fld g Fd.ETH_IP_CTL_TTL)
    (Config.freeNat s.free % 65536) (s.fld Pg.NET Fd.NET_PORTS_WRP) (s.se k 64 16) data)

/-- The words that a datagram of some bytes takes in a queue of the session. -/
def State.sessWords (s : State) (k len : Nat) : Nat :=
  let tag := decide (s.se k 95 1 = 1) || s.on (Pg.ETH (s.sePort k)) Fd.ETH_VLAN_TAGGED
  (42 + 4 * b2n tag + len + 7) / 8

/-- A frame pushed into a queue of the session, whole or not at all (R561): it needs its port, its next hop and credit for
every word. -/
def State.pushFrame (s : State) (k queue : Nat) (data : List Byte) : State × Bool :=
  if !(s.netOn && s.ethSends (s.sePort k)) then (s, false)
  else
    match s.hopMac (s.sePort k) (s.seIp k) with
    | (s, none) => (s, false)
    | (s, some mac) =>
      let ws := frameWords (s.sessFrame k mac data)
      let (s, ok) := s.qRequest queue 2 ws.length false
      if ok then
        let s := s.drawn
        (ws.zipIdx.foldl (fun (s : State) (e : Word64 × Nat) =>
          s.qPush queue 2 e.1 tagValid (e.2 == 0) (e.2 + 1 == ws.length)) s, true)
      else (s, false)

/-- The queue a session's new datagrams go to (R556, R567). -/
def State.sessQueue (s : State) (k : Nat) : Nat := if s.seAct k then 6144 + k else 4096 + 2 * k

/-- The bytes that a copy takes in the history ring (R564). -/
def histSize (len : Nat) : Nat := 64 * ((16 + len + 63) / 64)

/-- The copies that the ring still holds, newest first. -/
def histKeep (ring : Nat) : List (Nat × Nat × Nat) → List (Nat × Nat × Nat)
  | [] => []
  | e :: t => if histSize e.2.2 ≤ ring then e :: histKeep (ring - histSize e.2.2) t else []

/-- A datagram copied into the session's history ring (R564). -/
def State.histPut (s : State) (k count : Nat) (data : List Byte) : State :=
  let ring := 2 ^ s.se k 256 5
  let base := s.se k 192 64
  let x := s.sess k
  let at_ := (x.histAt + 16) % ring
  let n := Nat.min data.length (ring - at_)
  let s := (s.dramPut (base + at_) (data.take n)).dramPut base (data.drop n)
  s.putSess k { x with
    hist := histKeep ring ((count, x.histAt, data.length) :: x.hist)
    histAt := (x.histAt + histSize data.length) % ring }

/-- The stored copy of a count, if the ring holds it and it reads well. -/
def State.histGet (s : State) (k count : Nat) : Option (List Byte) :=
  match (s.sess k).hist.find? (·.1 == count) with
  | none => none
  | some (_, p, len) =>
    let ring := 2 ^ s.se k 256 5
    let base := s.se k 192 64
    let at_ := (p + 16) % ring
    let n := Nat.min len (ring - at_)
    if s.dramBad (base + at_) n || s.dramBad base (len - n) then none
    else some (s.dram (base + at_) n ++ s.dram base (len - n))

/-- A datagram with the session's next SEQ placed, with the copy of R564; false if it cannot be. -/
def State.placeDgram (s : State) (k kind count ofs : Nat) (last : Bool) (payload : List Byte) : State × Bool :=
  let x := s.sess k
  let data := leBytes 32 (wrpHeader kind k x.seq s.time count ofs false x.first last) ++ payload
  let (s, ok) := s.pushFrame k (s.sessQueue k) data
  if ok then
    let s := s.histPut k x.count data
    (s.putSess k { s.sess k with count := x.count + 1, first := false }, true)
  else (s, false)

/-- Records and image lines of a session lost (R563). -/
def State.sessLose (s : State) (k recs lines : Nat) : State :=
  let x := s.sess k
  let (a, b) := x.lost.getD (0, 0)
  let s := s.putSess k { x with lost := some (a + recs, b + lines), loss := satN 16 (x.loss + recs + lines) }
  (s.bumpBy Pg.NET Fd.NET_LOSS_CNT_b0 recs).bumpBy Pg.NET Fd.NET_LOSS_CNT_b16 lines

/-- The GAP records that the next datagram of a session begins with (R563, R568). -/
def State.owedGaps (s : State) (k : Nat) : List Nat :=
  let x := s.sess k
  (match x.restart with | some seq => [s.gapRec gapRestart 0 seq 0 0] | none => []) ++
  (match x.lost with | some (a, b) => [s.gapRec gapEgress x.seq x.seq a b] | none => [])

/-- Records as the payload bytes of a datagram. -/
def recBytes (l : List Nat) : List Byte := l.flatMap fun r => leBytes 64 r

/-- A RECORDS datagram with the owed GAP records and some records: placed, or lost. -/
def State.placeRecords (s : State) (k : Nat) (l : List Nat) : State × Bool :=
  let g := s.owedGaps k
  let (s, ok) := s.placeDgram k kRecords (g.length + l.length) 0 false (recBytes (g ++ l))
  if ok then
    ((s.putSess k { s.sess k with lost := none, restart := none }).bumpBy Pg.NET (whole Rg.NET_GAP_CNT) g.length, true)
  else (s.sessLose k l.length 0, false)

/-- The records that a datagram of a session holds at most (R562). -/
def State.recLimit (s : State) (k : Nat) : Nat := (s.mtu (s.sePort k) - 60) / 64

/-- The open RECORDS datagram of a session closed and placed (R562); owed GAP records that do not fit go ahead of it. -/
def State.closeFill (s : State) (k : Nat) : State :=
  let l := (s.sess k).fill
  if l.isEmpty then s
  else
    let s := s.putSess k { s.sess k with fill := [] }
    let s := if s.recLimit k < l.length + (s.owedGaps k).length then (s.placeRecords k []).1 else s
    (s.placeRecords k l).1

/-- Owed GAP records placed in a datagram of their own, ahead of one that holds no records. -/
def State.settleGaps (s : State) (k : Nat) : State × Bool :=
  if (s.owedGaps k).isEmpty then (s, true) else s.placeRecords k []

/-! ### Records to sessions (R559, R562) -/

/-- The group of a record type (Table — Session record groups). -/
def recGroup (type : Nat) : Option Nat :=
  if type = recDefect ∨ type = recOverflow then some 0 else if type = recCoarse then some 1 else if type = recStorm then some 2
  else if type = recPresence then some 3 else if type = recCell then some 4 else if type = recRepeat then some 5
  else if type = recStart ∨ type = recEnd then some 6 else if type = recAct then some 8 else none

/-- Whether a record passes a session's filter (R559). -/
def State.sessPasses (s : State) (k bits : Nat) : Bool :=
  let cell := nb bits 32 16
  let inRange := decide (s.se k 96 12 ≤ cell) && decide (cell ≤ s.se k 112 12)
  let view := tbit (s.se k 4 4) (nb bits 14 2)
  match recGroup (nb bits 0 8) with
  | none => false
  | some g =>
    tbit (s.se k 16 9) g &&
    (if g = 0 ∨ g = 1 ∨ g = 3 then
      view && (inRange || cell == 0xFFFF) && tbit (s.se k 128 64) (nb bits 16 6) && decide (s.se k 8 4 ≤ nb bits 22 4)
    else if g = 2 ∨ g = 8 then view
    else if g = 4 then (nb bits 448 4 &&& s.se k 4 4) != 0 && inRange
    else true)

/-- A record enters the open datagram of a session, which closes first if it is full (R562). -/
def State.fillRecord (s : State) (k bits : Nat) : State :=
  let x := s.sess k
  let s := if !x.fill.isEmpty && decide (s.recLimit k < x.fill.length + (s.owedGaps k).length + 1) then s.closeFill k else s
  let x := s.sess k
  s.putSess k { x with fill := x.fill ++ [bits] }

/-- A record sent to every DATA session whose filter it passes; in LEGACY sessions receive STATUS only (R94). -/
def State.sendRecord (s : State) (bits : Nat) : State :=
  if s.mode = .legacy ∨ !s.netOn then s
  else (s.sessions.filter fun k => !s.seAct k && s.sessPasses k bits).foldl (fun s k => s.fillRecord k bits) s

/-- Whether WRP carries more than status in the mode (Table — Blocks active by mode); in HOLD it flushes (DEDUCED, log entry 86). -/
def State.wrpFull (s : State) : Bool := s.mode == .learn || s.mode == .inspect || s.mode == .changeover || s.mode == .hold

/-- An image line for a session: its fragments placed, or the line lost (R566). Answers whether it found credit, true where the
session does not take it. -/
def State.sendImage (s : State) (k : Nat) (line : List Byte) : State × Bool :=
  if !(s.netOn && s.seOpen k && !s.seAct k && tbit (s.se k 16 9) 7) || !s.wrpFull then (s, true)
  else
    let size := s.mtu (s.sePort k) - 60
    let n := (line.length + size - 1) / size
    let words := sumN ((List.range n).map fun i => s.sessWords k (32 + Nat.min size (line.length - i * size)))
    let (s, ready) := s.settleGaps k
    let room := ready && s.qEn (s.sessQueue k) && decide (words ≤ s.qFree (s.sessQueue k) false) && s.ethSends (s.sePort k) &&
      (s.hopMac (s.sePort k) (s.seIp k)).2.isSome
    if room then
      ((List.range n).foldl (fun (s : State) (i : Nat) =>
        (s.placeDgram k kImage i (i * size) (i + 1 == n) ((line.drop (i * size)).take size)).1) s, true)
    else
      let s := if s.ethSends (s.sePort k) then (s.hopMac (s.sePort k) (s.seIp k)).1 else s
      (s.sessLose k 0 1, false)

/-- An ACTUATION record of a target on its session, launched at a device time (R567). Answers whether it was placed: its copies then go to
the DATA sessions that take them (R559). -/
def State.sendActuation (s : State) (k bits at_ : Nat) : State × Bool :=
  if s.mode = .legacy ∨ !(s.netOn && s.seOpen k && s.seAct k) then (s, false)
  else
    let (s, ok) := s.placeRecords k [bits]
    (if ok then (s.calInsert at_ 2 0 0 k (s.sePort k)).1 else s, ok)

/-! ### Entries taken (R558, R561) -/

/-- The words of a session's shadow entry. -/
def State.sessShadow (s : State) (k : Nat) : List Word := (List.range 16).map fun i => s.win (sessShadowAt k + 4 * i)

/-- Whether an entry is refused with SESS_FORMAT. -/
def sessBad (l : List Word) : Bool :=
  let f (lo len : Nat) : Nat := nb (wordsNat l) lo len
  decide (f 256 5 < 16) || decide (30 < f 256 5) || decide (f 264 10 = 0) || decide (1000 < f 264 10) ||
  (f 3 1 == 1) != isGroup (f 32 32) || decide (f 192 64 % 4096 ≠ 0) || decide (f 112 12 < f 96 12) ||
  (f 1 1 == 1 && f 16 9 != 0)

/-- NET.STAT follows the number of open sessions. -/
def State.showSessions (s : State) : State := s.setFld Pg.NET Fd.NET_STAT_b0 s.sessions.length

/-- A new epoch of a session (R561): the history of earlier ones is not served (R568). -/
def Sess.newEpoch (x : Sess) (restart : Option Nat) : Sess :=
  { x with epoch := (x.epoch + 1) % 65536, count := 0, fill := [], first := true, lost := none, restart := restart, hist := [] }

/-- An entry made active: a session that closes places its open datagram first; one that opens starts a new epoch, with a RESTART GAP
where the image opens it (R558, R561, R568). -/
def State.takeEntry (s : State) (k : Nat) (l : List Word) (boot : Bool) : State :=
  let was := s.seOpen k
  let s := if was && nb (wordsNat l) 0 1 == 0 then s.closeFill k else s
  let ring (s : State) : Nat × Nat := (s.se k 192 64, s.se k 256 5)
  let old := ring s
  let s := l.zipIdx.foldl (fun (s : State) (e : Word × Nat) => s.setWin (sessActiveAt k + 4 * e.2) e.1) s
  let s := if ring s = old then s else s.putSess k { s.sess k with hist := [], histAt := 0 }
  let s := if s.seOpen k && !was then s.putSess k ((s.sess k).newEpoch (if boot then some 0 else none)) else s
  s.showSessions

/-- APPLY_PENDING follows the entries that wait. -/
def State.showApplies (s : State) : State := s.setBit Pg.NET Fd.NET_SESS_STAT_APPLY_PENDING (!s.net.applies.isEmpty)

/-- The start of a repeat of a view has been reached in output order: entries that wait for it know the records keyed before it
(R558). -/
def State.markApplies (s : State) (job idx v line : Nat) : State :=
  { s with net := { s.net with applies := s.net.applies.map fun a =>
      if a.at_.isNone && a.view == v && decide (a.first ≤ line) then { a with at_ := some (job, idx) } else a } }

/-- The first waiting entry that may be taken: its repeat start is reached and every record before it is sent, or no job runs. -/
def State.dueApply (s : State) : Option SessApply :=
  if !s.mode.job then s.net.applies.head?
  else s.net.applies.find? fun a => match a.at_ with
    | some (j, i) => match s.jobA with
      | some x => x.id == j && decide (i ≤ s.resA.sent)
      | none => false
    | none => false

/-- The waiting entry that is due taken (R558). -/
def State.applyDue (s : State) : State :=
  match s.dueApply with
  | none => s
  | some a =>
    let s := { s with net := { s.net with applies := s.net.applies.erase a } }
    (s.takeEntry a.sess a.words false).showApplies

end Sys2Proof.Machine
end

