-- ==== Sys2Proof/Machine/Supervisor.lean ====
section
/-!
DEFINITION. The supervisor's locks and leases of owners (R611-R619, R665), the error log's registers (R607, R620), FAULT_CLR
(R608), the pin guards and manual overrides (R696, R697) and the commit record (R669, R670).
-/
namespace Sys2Proof.Machine

/-! ### Locks (R619, R665) -/

/-- The holder of a page's lock replaced: LOCK, and the page's bit of LOCK_MAP by ordinal (R665, R671). -/
def State.setLock (s : State) (p code : Nat) : State :=
  let s := (s.setFld p Fd.HDR_LOCK_HOLDER code).setBit p Fd.HDR_LOCK_HELD (code != 0)
  match pageList.findIdx? (· == p) with
  | none => s
  | some i => s.setBit Pg.SYS ⟨Rg.SYS_LOCK_MAP (i / 32), i % 32, 1⟩ (code != 0)

/-- A write of LOCK: ACQUIRE, then RELEASE, as the word names them (R665); `slot` is the key slot of a NET writer. -/
def State.lockWrite (s : State) (o : Owner) (slot p : Nat) (w : Word) : State :=
  let code := ownerCode o
  let s := s.touch o p
  let s :=
    if wf w 0 1 = 0 then s
    else if !s.permits code p then s.refuse o p Rg.HDR_LOCK false
    else if s.lockHolder p ≠ 0 then s
    else { s.setLock p code with
      lockAt := tabPut (dflt 0) p s.raw s.lockAt
      lockKey := tabPut (dflt 0) p (if o = .net then slot else 0) s.lockKey }
  if wf w 1 1 = 1 ∧ s.lockHolder p = code then s.setLock p 0 else s

/-- A write of LOCK over a path that reaches the page. -/
def State.lockCmd (s : State) (o : Owner) (p : Nat) (w : Word) : State :=
  if s.reaches o p && (pageAt p).isSome then s.lockWrite o 0 p w else s

/-- LOCK_ACQUIRE. -/
def execLockAcquire (o : Owner) (p : Fin 128) (w : Word) (s : State) : Host.Outcome State Fault Refusal :=
  .next (s.lockCmd o p w)

/-- LOCK_RELEASE. -/
def execLockRelease (o : Owner) (p : Fin 128) (w : Word) (s : State) : Host.Outcome State Fault Refusal :=
  .next (s.lockCmd o p w)

/-- The last revocation: its index, row of Table — Leases and owner. -/
def State.lastRevoke (s : State) (index row owner : Nat) : State :=
  s.wr Pg.SUPV1 Rg.SUPV1_LAST_REVOKE (BitVec.ofNat 32 (index % 65536 + 65536 * row + 2 ^ 20 * owner))

/-- A page's lock broken (R619). -/
def State.breakLock (s : State) (p : Nat) : State :=
  let code := s.lockHolder p
  if code = 0 then s
  else
    let s := (s.discardShadow p).setLock p 0
    let s := (s.logErr Er.LOCK_BROKEN p p code).flag Pg.SUPV1 Fd.SUPV1_STAT_LOCK_BROKEN_SEEN
    ((s.irq Pg.SUPV1 1).bump Pg.SUPV1 Fd.SUPV1_REVOKE_CNT_b16).lastRevoke p 7 code

/-- LOCK_TO_EXPIRY: no access by the holder for LOCK_TO seconds, as raw ns `t` finds (R619). -/
def State.lockExpiry (s : State) (p : Nat) : State :=
  let lim := s.fld Pg.SUPV1 Fd.SUPV1_LOCK_TO_b0
  if lim = 0 ∨ s.raw < tabGet (dflt 0) s.lockAt p + lim * 10 ^ 9 * 65536 then s else s.breakLock p

def execLockToExpiry (p : Fin 128) (t : Nat) (s : State) : Host.Outcome State Fault Refusal :=
  .next ((s.atNs t).lockExpiry p)

/-! ### Leases of owners (R611, R613, R618) -/

/-- A revoked lease counted and shown (R611, R620). -/
def State.revoked (s : State) (index row owner : Nat) : State :=
  let s := (s.flag Pg.SUPV1 Fd.SUPV1_STAT_REVOKED_SEEN).irq Pg.SUPV1 0
  (s.bump Pg.SUPV1 Fd.SUPV1_REVOKE_CNT_b0).lastRevoke index row owner

/-- The credits that an owner holds at a queue returned; words already pushed stay (R497, R611). -/
def State.revokeHost (s : State) (q code : Nat) : State :=
  if (s.q q).credOf (8 + code) = 0 then s
  else ((s.qReturn q (8 + code)).revoked q 3 code).logErr Er.LEASE_REVOKED Pg.SUPV1 q

/-- HOST_LEASE_TIMEOUT: no push or pop by an owner on a queue for HOST_S seconds (R611). -/
def execHostLeaseTimeout (q : Fin 8192) (o : Owner) (s : State) : Host.Outcome State Fault Refusal :=
  .next (if s.on Pg.SUPV1 Fd.SUPV1_CTL_LEASE_EN then s.revokeHost q (ownerCode o) else s)

/-- A DMA channel programmed by an owner that is reset: ABORT under R506 (R611). -/
def State.revokeDma (s : State) (code c : Nat) : State :=
  let v := s.ch c
  if v.owner = code ∧ (v.state = 1 ∨ v.state = 2) then
    ((s.dmaAbort c).revoked c 6 code).logErr Er.LEASE_REVOKED Pg.SUPV1 c
  else s

/-- An owner counts as reset (R618): its locks are broken, its credits return and its DMA channels abort. -/
def State.ownerReset (s : State) (code : Nat) : State :=
  let s := pageList.foldl (fun s p => if s.lockHolder p = code then s.breakLock p else s) s
  let s := (s.queue.filter fun e => decide (0 < e.2.credOf (8 + code))).foldl (fun s e => s.revokeHost e.1 code) s
  (List.range 32).foldl (fun s c => s.revokeDma code c) s

/-- The locks that NET took under a key slot broken, as the slot is cleared (R618). -/
def State.keySlotReset (s : State) (slot : Nat) : State :=
  pageList.foldl (fun s p =>
    if s.lockHolder p = 4 ∧ tabGet (dflt 0) s.lockKey p = slot then s.breakLock p else s) s

/-! ### FAULT_N and the log -/

/-- A write of FAULT_CTL; FAULT_CLR is ignored in HOLD with a FATAL cause (R608). -/
def State.faultCtl (s : State) (w : Word) : State :=
  let s := s.writeReg Pg.SUPV0 Rg.SUPV0_FAULT_CTL w
  if wf w 2 1 = 0 ∨ (s.mode = .hold ∧ s.fld Pg.SYS Fd.SYS_MODE_HOLD_ENTRY ≠ 0xFF) then s
  else s.wr Pg.SUPV0 Rg.SUPV0_FAULT_STAT 0

/-- FAULT_CLR. -/
def execFaultClr (o : Owner) (w : Word) (s : State) : Host.Outcome State Fault Refusal :=
  .next (s.guarded o Pg.SUPV0 Rg.SUPV0_FAULT_CTL (·.faultCtl w))

/-- LOG_ACK_WRITE (R607). -/
def execLogAckWrite (o : Owner) (w : Word) (s : State) : Host.Outcome State Fault Refusal :=
  .next (s.guarded o Pg.SUPV0 Rg.SUPV0_LOG_ACK (·.writeReg Pg.SUPV0 Rg.SUPV0_LOG_ACK w))

/-- A word of the selected slot of the log, 0 while it holds no entry (R603). -/
def State.logWord (s : State) (i : Nat) : Word :=
  match tabGet (dflt none) s.log (s.fld Pg.SUPV0 Fd.SUPV0_LOG_SEL_b0) with
  | none => 0
  | some e => BitVec.ofNat 32 (e.bits / 2 ^ (32 * i))

/-- A read of LOG_DATA0: its word, with words 1 to 7 of the slot latched (R620). -/
def State.logData0 (s : State) : State × Word :=
  ({ s with logLatch := (List.range 7).map fun i => s.logWord (i + 1) }, s.logWord 0)

/-- LOG_DATA0_READ. -/
def execLogData0Read (o : Owner) (s : State) : Host.Outcome State Fault Refusal :=
  if s.reaches o Pg.SUPV0 then
    let (t, w) := (s.touch o Pg.SUPV0).logData0
    .next (t.emit (.readData (ownerCode o) (Pg.SUPV0 * 4096 + Rg.SUPV0_LOG_DATA 0) w))
  else .next s

/-! ### Commit records (R669, R670) -/

/-- The record that CMT_SEL selects. -/
def State.cmtSel (s : State) : Option CmtRec := s.cmt (s.fld Pg.SYS Fd.SYS_CMT_SEL_b0) (s.fld Pg.SYS Fd.SYS_CMT_SEL_b8)

/-- CMT_STAT of the selected record. -/
def cmtStat : Option CmtRec → Word
  | none => 0
  | some r => BitVec.ofNat 32 (r.gen + 2 ^ 16 * r.at_ + 2 ^ 19 * b2n r.line.isSome + 2 ^ 20)

/-- A read of CMT_LINE_LO latches CMT_LINE_HI and CMT_STAT (R670). -/
def State.cmtLineLo (s : State) : State × Word :=
  let n := (s.cmtSel.bind (·.line)).getD 0
  let s' := s.wr Pg.SYS Rg.SYS_CMT_LINE_HI (BitVec.ofNat 32 (n / 2 ^ 32))
  (s'.wr Pg.SYS Rg.SYS_CMT_STAT (cmtStat s.cmtSel), BitVec.ofNat 32 n)

/-- CMT_LINE_LO_READ. -/
def execCmtLineLoRead (o : Owner) (s : State) : Host.Outcome State Fault Refusal :=
  if s.reaches o Pg.SYS then
    let (t, w) := (s.touch o Pg.SYS).cmtLineLo
    .next (t.emit (.readData (ownerCode o) (Pg.SYS * 4096 + Rg.SYS_CMT_LINE_LO) w))
  else .next s

/-! ### Pins (R696, R697) -/

/-- The page, MAN_EN, GUARD and PIN_STAT registers of a pin bank: PULSE (0) or EVIO (1). -/
def pinPage (b : Nat) : Nat := if b = 0 then Pg.PINS0 else Pg.PINS1
def pinMan (b : Nat) : Nat := if b = 0 then Rg.PINS0_PULSE_MAN_EN else Rg.PINS1_EVIO_MAN_EN
def pinGuard (b : Nat) : Nat := if b = 0 then Rg.PINS0_PULSE_GUARD else Rg.PINS1_EVIO_GUARD

/-- A flag of PIN_STAT: 1 MAN_REFUSED, 2 GUARD_REFUSED. -/
def State.pinFlag (s : State) (b k : Nat) : State := s.flag (pinPage b) ⟨Rg.PINS0_PIN_STAT, k, 1⟩

/-- A write of MAN_EN: accepted in IDLE and SETUP only (R697). -/
def State.manEn (s : State) (b : Nat) (w : Word) : State :=
  if s.mode = .idle ∨ s.mode = .setup then s.writeReg (pinPage b) (pinMan b) w else s.pinFlag b 1

/-- MAN_EN_WRITE. -/
def execManEnWrite (o : Owner) (b : Fin 2) (w : Word) (s : State) : Host.Outcome State Fault Refusal :=
  .next (s.guarded o (pinPage b) (pinMan b) (·.manEn b w))

/-- A write of PULSE_GUARD or EVIO_GUARD: from BOOT only (R696). -/
def State.guardWrite (s : State) (o : Owner) (b : Nat) (w : Word) : State :=
  if o = .boot then s.writeReg (pinPage b) (pinGuard b) w else s.pinFlag b 2

/-- PIN_GUARD_WRITE. -/
def execPinGuardWrite (o : Owner) (b : Fin 2) (w : Word) (s : State) : Host.Outcome State Fault Refusal :=
  .next (s.guarded o (pinPage b) (pinGuard b) (·.guardWrite o b w))

end Sys2Proof.Machine
end

