-- ==== Sys2Proof/Machine/Timebase.lean ====
section
/-!
DEFINITION. The timebase and the grandmaster (R431-R445): reads of time, the step, the rate and its servo, PPS_IN and
PPS_OUT, and the PTP messages of the two ports.
-/
namespace Sys2Proof.Machine

/-! ### The timebase -/

/-- The limit of RATE, ±1,000 ppm (R433). -/
abbrev rateLimit : Int := 281474976711

/-- A new RATE takes effect: the old rate is folded into F, so that device time is continuous (R433). -/
def State.setRate (s : State) (r : Int) : State :=
  let f := s.tb.f16 + (((s.raw : Int) - s.tb.anchor) * s.tb.rate + 2 ^ 47) / 2 ^ 48
  let s := { s with tb := { s.tb with f16 := f, anchor := s.raw, rate := r } }
  s.wr64 Pg.TB Rg.TB_RATE_LO Rg.TB_RATE_HI (toTwos 40 r)

/-- The clockClass that a timebase state announces (R441). -/
def clockClassOf (state : Nat) : Nat := if state = 2 then 6 else if state = 3 then 7 else 248

/-- The timebase enters a state of R441; LOCKED and HOLDOVER are event sources. -/
def State.setTbState (s : State) (st : Nat) : State :=
  let old := s.fld Pg.TB Fd.TB_STAT_STATE
  let s := (s.setFld Pg.TB Fd.TB_STAT_STATE st).setFld Pg.TB Fd.TB_STAT_CLOCK_CLASS (clockClassOf st)
  if st = old then s
  else if st = 2 then s.raiseNow evLocked
  else if st = 3 then s.raiseNow evHoldover
  else s

/-- The one step of OFFSET (R434): pending calendar entries, pulse ends and the cycle start move with it (R435). -/
def State.stepTime (s : State) (offset : Nat) : State :=
  let d := offset - s.tb.offset
  let s := { s with
    tb := { s.tb with offset := offset, fresh := true, good := 0 }
    crl := { s.crl with
      start := s.crl.start + d
      entries := s.crl.entries.map fun (e : CalEntry) => { e with t := e.t + d }
      lastF := s.crl.lastF.map fun (e : Nat × Nat) => (e.1, e.2 + d)
      pulses := s.crl.pulses.map fun (e : Nat × Nat) => (e.1, e.2 + d)
      busyTo := s.crl.busyTo.map fun (e : Nat × Nat) => (e.1, e.2 + d) }
    evf := { s.evf with pulseEnd := s.evf.pulseEnd.map fun (e : Nat × Nat) => (e.1, e.2 + d) } }
  let s := s.wr64 Pg.TB Rg.TB_OFFSET_LO Rg.TB_OFFSET_HI offset
  let s := s.wr64 Pg.CRL Rg.CRL_CUR_START_LO Rg.CRL_CUR_START_HI s.crl.start
  let s := s.setFld Pg.TB Fd.TB_STAT_STEPPED 1
  s.setTbState (if s.on Pg.TB Fd.TB_CTL_SERVO_EN then 1 else 4)

/-- TIME_LO_READ (R436). -/
def execTimeLoRead (o : Owner) (s : State) : Host.Outcome State Fault Refusal :=
  if !s.reaches o Pg.TB then .next s
  else
    let d := s.time16
    let s := (s.touch o Pg.TB).wr64 Pg.TB Rg.TB_TIME_LO Rg.TB_TIME_HI (d / 65536)
    let s := s.wr Pg.TB Rg.TB_TIME_FRAC (BitVec.ofNat 32 (d % 65536))
    let s := s.wr64 Pg.TB Rg.TB_RAW_LO Rg.TB_RAW_HI s.rawNs
    .next (s.emit (.readData (ownerCode o) (Pg.TB * 4096 + Rg.TB_TIME_LO) (s.rd Pg.TB Rg.TB_TIME_LO)))

/-- OFFSET_HI_WRITE: the host's step, or PTP_FORMAT once the step is made (R434, R445). -/
def State.offsetHi (s : State) (w : Word) : State :=
  if s.on Pg.TB Fd.TB_STAT_STEPPED then s.logErr Er.PTP_FORMAT Pg.TB Rg.TB_OFFSET_HI
  else s.stepTime (w.toNat * 2 ^ 32 + (s.rd Pg.TB Rg.TB_OFFSET_LO).toNat)

def execOffsetHiWrite (o : Owner) (w : Word) (s : State) : Host.Outcome State Fault Refusal :=
  .next (s.guarded o Pg.TB Rg.TB_OFFSET_HI (·.offsetHi w))

/-- A write of RATE_HI: the host's rate while the servo is off (R440). -/
def State.rateHi (s : State) (w : Word) : State :=
  let r := sext 40 (w.toNat % 256 * 2 ^ 32 + (s.rd Pg.TB Rg.TB_RATE_LO).toNat)
  if s.on Pg.TB Fd.TB_CTL_SERVO_EN then s.flag Pg.TB Fd.TB_STAT_RATE_REFUSED
  else if r < -rateLimit ∨ rateLimit < r then
    (s.flag Pg.TB Fd.TB_STAT_RATE_REFUSED).logErr Er.PTP_FORMAT Pg.TB Rg.TB_RATE_HI
  else s.setRate r

def execRateHiWrite (o : Owner) (w : Word) (s : State) : Host.Outcome State Fault Refusal :=
  .next (s.guarded o Pg.TB Rg.TB_RATE_HI (·.rateHi w))

/-- A write of TOD_SEC_HI arms the time of day (R439). -/
def State.todHi (s : State) (w : Word) : State :=
  let s := s.writeReg Pg.TB Rg.TB_TOD_SEC_HI w
  let v := w.toNat % 65536 * 2 ^ 32 + (s.rd Pg.TB Rg.TB_TOD_SEC_LO).toNat
  { s with tb := { s.tb with tod := some (v, s.rawNs) } }

def execTodSecHiWrite (o : Owner) (w : Word) (s : State) : Host.Outcome State Fault Refusal :=
  .next (s.guarded o Pg.TB Rg.TB_TOD_SEC_HI (·.todHi w))

/-- The whole second of device time nearest to a time in 2^-16 ns. -/
def nearestSecond (d : Nat) : Nat := (d + 2 ^ 15 * 10 ^ 9) / (2 ^ 16 * 10 ^ 9)

/-- The phase error of an edge stamped `d`, in 2^-16 ns. -/
def phaseError (d : Nat) : Int := (d : Int) - (nearestSecond d : Nat) * 2 ^ 16 * 10 ^ 9

/-- The TOD that is due at a valid edge: the step, the check of the count, or neither (R439). -/
def State.todAtEdge (s : State) (d : Nat) : State :=
  match s.tb.tod with
  | none => s
  | some (v, armed) =>
    if s.rawNs < armed + 10000000 then s
    else
      let s := { s with tb := { s.tb with tod := none } }
      if s.on Pg.TB Fd.TB_STAT_STEPPED then
        if nearestSecond d = v then s else s.flag Pg.TB Fd.TB_STAT_TOD_MISMATCH
      else if s.on Pg.TB Fd.TB_CTL_SERVO_EN then
        let x : Int := (v : Int) * 10 ^ 9 - (d + 2 ^ 15) / 2 ^ 16
        if x < 0 then (s.logErr Er.STEP_REFUSED Pg.TB).flag Pg.TB Fd.TB_STAT_STEP_REFUSED
        else s.stepTime x.toNat
      else s

/-- The phase error of an edge as a rate, in units of 2^-32 (R440). -/
def servoErr (e : Int) : Int := rdiv (e * 4294967296) 1000000000

/-- A number shifted right, rounded down (R440). -/
def shrI (g : Int) (k : Nat) : Int := g / (2 ^ k : Nat)

/-- The servo at a valid edge after the step (R440). -/
def State.servo (s : State) (e : Int) : State :=
  let lim := clampI (-rateLimit) rateLimit
  let g := servoErr e
  let kp := s.fld Pg.TB Fd.TB_SERVO_CTL_KP_SHIFT
  let ki := s.fld Pg.TB Fd.TB_SERVO_CTL_KI_SHIFT
  let f := if s.tb.fresh then lim (-g) else lim (s.tb.f - shrI g ki)
  let r := if s.tb.fresh then f else lim (f - shrI g kp)
  ({ s with tb := { s.tb with f := f, fresh := false } }).setRate r

/-- The state of the timebase after a valid edge with phase error `e` (R441). -/
def State.lockState (s : State) (e : Int) : State :=
  let near := decide (e.natAbs ≤ s.fld Pg.TB Fd.TB_SERVO_CTL_LOCK_NS * 65536)
  let st := s.fld Pg.TB Fd.TB_STAT_STATE
  let good := if near then (if st = 3 ∨ st = 4 then 1 else s.tb.good + 1) else 0
  let s := { s with tb := { s.tb with good := good } }
  if st = 2 then (if near then s else s.setTbState 1)
  else if good ≥ 16 then s.setTbState 2
  else s.setTbState 1

/-- A good edge of PPS_IN: the time of day, and the servo with its lock state (R438-R441). -/
def State.ppsGood (s : State) (d : Nat) : State :=
  let e := phaseError d
  let was := s.on Pg.TB Fd.TB_STAT_STEPPED
  let s := s.todAtEdge d
  if was ∧ s.on Pg.TB Fd.TB_CTL_SERVO_EN then
    let s := s.wr Pg.TB Rg.TB_PPS_ERR (BitVec.ofInt 32 (clampI (-2 ^ 31) (2 ^ 31 - 1) (e / 65536)))
    (s.servo e).lockState e
  else s

/-- How many edges in a row came a second apart, with this one (R439). -/
def State.ppsSeries (s : State) : Nat :=
  match s.tb.lastEdge with
  | some l => if ((s.rawNs : Int) - l - 10 ^ 9).natAbs ≤ s.fld Pg.TB Fd.TB_SERVO_CTL_PPS_WIN * 1000 then s.tb.series + 1 else 1
  | none => 1

/-- PPS_IN_EDGE: an active edge of PPS_IN at raw ns `t` (R438-R441). -/
def State.ppsEdge (s : State) : State :=
  let d := s.time16
  let win := s.fld Pg.TB Fd.TB_SERVO_CTL_PPS_WIN * 1000
  let series := s.ppsSeries
  let s := { s with tb := { s.tb with lastEdge := some s.rawNs, series := series } }
  let s := s.raiseNow evPpsIn
  if (phaseError d).natAbs ≤ win * 65536 ∨ 4 ≤ series then s.ppsGood d
  else ({ s with tb := { s.tb with bad := s.tb.bad + 1 } }).flag Pg.TB Fd.TB_STAT_PPS_BAD

def execPpsInEdge (t : Nat) (s : State) : Host.Outcome State Fault Refusal := .next (s.atNs t).ppsEdge

/-- PPS_MISSING: 2.5 s without a valid edge (R441). -/
def execPpsMissing (t : Nat) (s : State) : Host.Outcome State Fault Refusal :=
  let s := s.atNs t
  if s.fld Pg.TB Fd.TB_STAT_STATE = 2 then
    .next ((s.setRate s.tb.f).setTbState 3)
  else if s.fld Pg.TB Fd.TB_STAT_STATE = 1 then .next (s.setRate s.tb.f)
  else .next s

/-- HOLDOVER_EXPIRY: holdover beyond 2^HOLD_LOG2 minutes (R441). -/
def execHoldoverExpiry (s : State) : Host.Outcome State Fault Refusal :=
  .next (if s.fld Pg.TB Fd.TB_STAT_STATE = 3 then s.setTbState 4 else s)

/-- TBREF_LOST: the timebase PLL loses lock on TBREF (R437). -/
def execTbrefLost (s : State) : Host.Outcome State Fault Refusal :=
  .next ((s.setFld Pg.TB Fd.TB_STAT_REF_LOCK 0).logErr Er.TB_REF_LOST Pg.TB)

/-- PPS_OUT_SECOND: PPS_OUT rises at a whole second of device time and stays high for 1,000,000 ns (R445). -/
def execPpsOutSecond (t : Nat) (s : State) : Host.Outcome State Fault Refusal :=
  let s := s.atNs t
  .next (if s.on Pg.TB Fd.TB_CTL_PPS_OUT_EN then s.emit (.ppsOut (s.time / 10 ^ 9)) else s)

/-! ### The grandmaster -/

/-- The EN, TWO_STEP, PEER and interval fields of a PTP port are those of its PORTn_CTL. -/
def portFld (n : Nat) (f : Fld) : Fld := ⟨f.off + 4 * n, f.lo, f.len⟩

/-- A PTP port sends and answers: the grandmaster and the port are enabled, the port is not silent and its Ethernet port sends
(R442, R444, R553). -/
def State.ptpOn (s : State) (n : Nat) : Bool :=
  s.ethSends n &&
  s.on Pg.TB Fd.TB_CTL_PTP_EN && s.on Pg.TB (portFld n Fd.TB_PORT0_CTL_EN) &&
  !s.on Pg.TB ⟨Rg.TB_PTP_STAT, 2 + n, 1⟩

/-- PTP messageType values that the WX16 sends (R442). -/
abbrev ptpSync : Nat := 0
abbrev ptpPdelayResp : Nat := 3
abbrev ptpFollowUp : Nat := 8
abbrev ptpDelayResp : Nat := 9
abbrev ptpPdelayRespFollowUp : Nat := 10
abbrev ptpAnnounce : Nat := 11

/-- The bytes of a PTP message's frame: Ethernet and PTP headers and the body of its type (IEEE 1588-2019; a UDP transport's headers
are not counted). -/
def ptpBytes (type : Nat) : Nat := if type = ptpAnnounce then 78 else if type = ptpSync ∨ type = ptpFollowUp then 58 else 68

/-- A PTP message leaves a port. -/
def State.ptpOut (s : State) (n type seq : Nat) (fields : List Nat) : State :=
  (s.emit (.ptp n type seq fields)).countTx n (ptpBytes type)

/-- A message sent under the next sequence number of its port and type. -/
def State.ptpSend (s : State) (n type : Nat) (fields : List Nat) : State :=
  let k := 16 * n + type
  let q := tabGet (dflt 0) s.tb.seq k
  ({ s with tb := { s.tb with seq := tabPut (dflt 0) k ((q + 1) % 65536) s.tb.seq } }).ptpOut n type q fields

/-- The dataset of the WX16: priority1, clockClass, clockAccuracy, offsetScaledLogVariance, priority2,
grandmasterIdentity (Table — Announce content). -/
def State.dataset (s : State) : List Nat :=
  let st := s.fld Pg.TB Fd.TB_STAT_STATE
  let known := st == 2 || st == 3
  [s.fld Pg.TB Fd.TB_PTP_CTL_PRIORITY1, clockClassOf st,
   if known then s.fld Pg.TB Fd.TB_PTP_QUAL_ACCURACY else 0xFE,
   if known then s.fld Pg.TB Fd.TB_PTP_QUAL_VARIANCE else 0xFFFF,
   s.fld Pg.TB Fd.TB_PTP_CTL_PRIORITY2, s.rd64 Pg.TB Rg.TB_CLOCK_ID_LO Rg.TB_CLOCK_ID_HI]

/-- The Announce fields after the dataset: stepsRemoved, timeSource, timeTraceable, frequencyTraceable, ptpTimescale,
currentUtcOffset with its valid flag, leap61, leap59, and the domain (Table — Announce content). -/
def State.announceRest (s : State) : List Nat :=
  let st := s.fld Pg.TB Fd.TB_STAT_STATE
  [0, if st = 2 ∨ st = 3 then s.fld Pg.TB Fd.TB_PTP_QUAL_TIME_SOURCE else 0xA0,
   if st = 2 then 1 else 0, if st = 2 ∨ st = 3 then 1 else 0, 1,
   s.fld Pg.TB Fd.TB_UTC_OFS_b0, s.fld Pg.TB Fd.TB_UTC_OFS_VALID, s.fld Pg.TB Fd.TB_UTC_OFS_LEAP61,
   s.fld Pg.TB Fd.TB_UTC_OFS_LEAP59, s.fld Pg.TB Fd.TB_PTP_CTL_DOMAIN]

/-- A timestamp as a message carries it: whole nanoseconds, and the fraction of the correctionField (R443). -/
def State.stamp16 (s : State) : List Nat := [s.time16 / 65536, s.time16 % 65536]

/-- PTP_SYNC_SEND: Sync, and Follow_Up on a two-step port, with the originTimestamp of the Sync (R442, R443). -/
def execPtpSyncSend (n : Fin 2) (t : Nat) (s : State) : Host.Outcome State Fault Refusal :=
  let s := s.atNs t
  .next (
    if !s.ptpOn n then s
    else if s.on Pg.TB (portFld n Fd.TB_PORT0_CTL_TWO_STEP) then (s.ptpSend n ptpSync [0, 0]).ptpSend n ptpFollowUp s.stamp16
    else s.ptpSend n ptpSync s.stamp16)

/-- PTP_ANNOUNCE_SEND (R445). -/
def execPtpAnnounceSend (n : Fin 2) (t : Nat) (s : State) : Host.Outcome State Fault Refusal :=
  let s := s.atNs t
  .next (if s.ptpOn n then s.ptpSend n ptpAnnounce (s.dataset ++ s.announceRest) else s)

/-- The answer to a delay request counted: whether it is sent; beyond 8,192 answers in one second it is dropped (R443). -/
def State.ptpSlot (s : State) (n : Nat) : State × Bool :=
  let sec := s.rawNs / 10 ^ 9
  let was := tabGet (dflt (0, 0)) s.tb.answered n
  let k := if was.1 = sec then was.2 else 0
  if k < 8192 then
    ({ s with tb := { s.tb with answered := tabPut (dflt (0, 0)) n (sec, k + 1) s.tb.answered } }.bump Pg.TB Fd.TB_PTP_CNT_b0, true)
  else (s.bump Pg.TB Fd.TB_PTP_CNT_b16, false)

/-- DELAY_REQ_RX: Delay_Resp with the receive timestamp, the requester and the request's correction (R442, R443). -/
def execDelayReqRx (n : Fin 2) (domain seq requester corr t : Nat) (s : State) : Host.Outcome State Fault Refusal :=
  let s := s.atNs t
  .next (
    if s.ptpOn n && !s.on Pg.TB (portFld n Fd.TB_PORT0_CTL_PEER) && s.fld Pg.TB Fd.TB_PTP_CTL_DOMAIN == domain then
      match s.ptpSlot n with
      | (s, false) => s
      | (s, true) => s.ptpOut n ptpDelayResp seq (s.stamp16 ++ [requester, corr])
    else s)

/-- PDELAY_REQ_RX: Pdelay_Resp with the request's receipt timestamp, and Pdelay_Resp_Follow_Up on a two-step port (R442,
R443). -/
def execPdelayReqRx (n : Fin 2) (domain seq requester corr t : Nat) (s : State) : Host.Outcome State Fault Refusal :=
  let s := s.atNs t
  .next (
    if s.ptpOn n && s.on Pg.TB (portFld n Fd.TB_PORT0_CTL_PEER) && s.fld Pg.TB Fd.TB_PTP_CTL_DOMAIN == domain then
      match s.ptpSlot n with
      | (s, false) => s
      | (s, true) =>
        let s' := s.ptpOut n ptpPdelayResp seq (s.stamp16 ++ [requester, corr])
        if s.on Pg.TB (portFld n Fd.TB_PORT0_CTL_TWO_STEP) then
          s'.ptpOut n ptpPdelayRespFollowUp seq (s.stamp16 ++ [requester, corr])
        else s'
    else s)

/-- The first difference of two datasets of equal length: whether the first is the better, the smaller. -/
def dsLess : List Nat → List Nat → Bool
  | a :: l, b :: m => decide (a < b) || (a == b && dsLess l m)
  | _, _ => false

/-- ANNOUNCE_RX: an Announce in the domain is compared with the own dataset (R444). -/
def execAnnounceRx (n : Fin 2) (domain : Nat) (ds : AnnounceData) (t : Nat) (s : State) :
    Host.Outcome State Fault Refusal :=
  let s := s.atNs t
  let theirs := [ds.priority1, ds.clockClass, ds.accuracy, ds.variance, ds.priority2, ds.identity]
  .next (
    if s.on Pg.TB Fd.TB_CTL_PTP_EN && s.on Pg.TB (portFld n Fd.TB_PORT0_CTL_EN) &&
        s.fld Pg.TB Fd.TB_PTP_CTL_DOMAIN == domain && dsLess theirs s.dataset then
      let s := (s.setFld Pg.TB ⟨Rg.TB_PTP_STAT, n, 1⟩ 1).flag Pg.TB Fd.TB_PTP_STAT_FOREIGN_SEEN
      let s := if s.on Pg.TB Fd.TB_CTL_FOREIGN_SILENT then s.setFld Pg.TB ⟨Rg.TB_PTP_STAT, 2 + n, 1⟩ 1 else s
      s.raiseNow evPtpForeign
    else s)

/-- FOREIGN_TIMEOUT: no better Announce for ANN_TIMEOUT of the foreign master's intervals (R444). -/
def execForeignTimeout (n : Fin 2) (s : State) : Host.Outcome State Fault Refusal :=
  .next ((s.setFld Pg.TB ⟨Rg.TB_PTP_STAT, n, 1⟩ 0).setFld Pg.TB ⟨Rg.TB_PTP_STAT, 2 + n, 1⟩ 0)

end Sys2Proof.Machine
end

