-- ==== Sys2Proof/Machine/Net.lean ====
section
/-!
DEFINITION. The commands of the network and the host link (R552-R582), but for the Web Command Protocol: frames, ARP, ICMP, sessions,
NACKs, STATUS, keys, the WX8 services, BAR2 and the links.
-/
namespace Sys2Proof.Machine

/-! ### Ethernet ports (R552-R554, R582) -/

/-- MAC addresses of Table — IEEE 1588 support, and the IPv4 groups. -/
def ptpMacs : List Nat := [0x011B19000000, 0x0180C200000E, 0x01005E000181, 0x01005E00006B]
def ptpGroups : List Nat := [0xE0000181, 0xE000006B]

/-- Whether a UDP datagram's destination is one that a port accepts (R554). -/
def State.rxUdp (s : State) (n : Nat) (f : RxFrame) : Bool :=
  let base := s.fld Pg.NET Fd.NET_WX8_CTL_BASE
  (f.dstIp == s.ownIp n || ptpGroups.contains f.dstIp) &&
  ([s.fld Pg.NET Fd.NET_PORTS_WRP, s.fld Pg.NET Fd.NET_PORTS_WCP, 319, 320].contains f.dstPort ||
    (s.mode == .legacy && s.on Pg.NET Fd.NET_WX8_CTL_EN && s.fld Pg.NET Fd.NET_WX8_CTL_PORT == n && f.dstPort == (base + 2) % 65536))

/-- Whether a port accepts a frame (R552-R554). -/
def State.rxTakes (s : State) (n : Nat) (f : RxFrame) : Bool :=
  let mcast := ptpMacs.contains f.dst
  let own := f.dst == s.ethMac n && f.dst != 0
  decide (f.bytes + 4 ≤ s.mtu n + 22) &&
  (match f.vid with | none => true | some v => s.fld (Pg.ETH n) Fd.ETH_VLAN_VID == v) &&
  (if f.type = 0x0806 then own || f.dst == 0xFFFFFFFFFFFF
  else if f.type = 0x88F7 then own || mcast
  else f.type == 0x0800 && (own || mcast) && !f.options && !f.fragment && f.sumOk &&
    (f.proto == 1 && f.dstIp == s.ownIp n || f.proto == 17 && s.rxUdp n f))

/-- FRAME_RX: a frame is accepted or dropped, and counted. -/
def State.frameRx (s : State) (n : Nat) (f : RxFrame) : State :=
  let g := Pg.ETH n
  if !s.ethUp n then s
  else if !f.fcsOk then s.bump g Fd.ETH_RX_ERR_FCS
  else if !f.lenOk then s.bump g Fd.ETH_RX_ERR_b16
  else if s.rxTakes n f then
    let r := tabGet (dflt 0) s.net.rxRem n + f.bytes
    let s := (s.bump g (whole Rg.ETH_RX_FRM)).bumpBy g (whole Rg.ETH_RX_BYTES) (r / 4096)
    let s := { s with net := { s.net with rxRem := tabPut (dflt 0) n (r % 4096) s.net.rxRem } }
    if f.type = 0x0800 ∧ f.proto = 17 then s.bump Pg.NET (whole Rg.NET_RX_DGRAM) else s
  else s.bump g (whole Rg.ETH_RX_DROP)

def execFrameRx (n : Fin 2) (f : RxFrame) (s : State) : Host.Outcome State Fault Refusal := .next (s.frameRx n f)

/-- ETH_LINK_LOST: block lock or link lost (R582, Table — Network and host error codes). -/
def execEthLinkLost (n : Fin 2) (s : State) : Host.Outcome State Fault Refusal :=
  let g := Pg.ETH n
  .next (
    if s.on g Fd.ETH_STAT_LINK then
      let s := ((s.setFld g Fd.ETH_STAT_LINK 0).setFld g Fd.ETH_STAT_BLOCK_LOCK 0).flag g Fd.ETH_STAT_LINK_LOST
      (s.bump g Fd.ETH_PCS_STAT_b16).logErr Er.ETH_LINK g n
    else s)

/-- ETH_LINK_UP: an enabled port gains block lock and link. -/
def execEthLinkUp (n : Fin 2) (s : State) : Host.Outcome State Fault Refusal :=
  let g := Pg.ETH n
  .next (if s.blockOn g Fd.ETH_CTL_EN then (s.setFld g Fd.ETH_STAT_LINK 1).setFld g Fd.ETH_STAT_BLOCK_LOCK 1 else s)

/-! ### ARP and ICMP (R552, R555) -/

/-- An accepted ARP packet (RFC 826): a known sender's address is brought up to date, a packet for the port makes its sender known, and
a request for the port is answered. -/
def State.arpIn (s : State) (n : Nat) (m : ArpMsg) : State :=
  if !s.ethUp n then s
  else
    let known := (s.arpOf n m.spa).isSome
    let mine := m.tpa == s.ownIp n
    let s := if known || (mine && decide (s.net.arp.length < 1088)) then s.setArp n m.spa (some ⟨n, m.spa, some m.sha, none⟩) else s
    if m.op = 1 ∧ mine ∧ s.ethSends n then (s.emit (.arp n 2 m.sha m.spa)).countTx n 42 else s

/-- ARP_PACKET. -/
def execArpPacket (n : Fin 2) (m : ArpMsg) (s : State) : Host.Outcome State Fault Refusal := .next (s.arpIn n m)

/-- ARP_REFRESH: a resolved entry is asked for again; it serves until the request stays unanswered. -/
def execArpRefresh (n : Fin 2) (ip : Nat) (s : State) : Host.Outcome State Fault Refusal :=
  .next (match s.arpOf n ip with
    | some e => if e.mac.isSome && e.sent.isNone then (s.arpRequest n ip).setArp n ip (some { e with sent := some 1 }) else s
    | none => s)

/-- ARP_RETRY: a second without an answer: another request, or after RETRY of them the entry is given up. -/
def execArpRetry (n : Fin 2) (ip : Nat) (s : State) : Host.Outcome State Fault Refusal :=
  .next (match s.arpOf n ip with
    | some e => match e.sent with
      | some k =>
        if k ≤ s.fld (Pg.ETH n) Fd.ETH_ARP_CTL_RETRY then (s.arpRequest n ip).setArp n ip (some { e with sent := some (k + 1) })
        else (s.setArp n ip none).bump (Pg.ETH n) Fd.ETH_ARP_CNT_b16
      | none => s
    | none => s)

/-- ICMP_ECHO: an accepted echo request for the port's address is answered (RFC 792). -/
def State.echoIn (s : State) (n ip id seq : Nat) (data : List Byte) : State :=
  if s.ethSends n && s.on (Pg.ETH n) Fd.ETH_IP_CTL_ICMP_EN then
    match s.hopMac n ip with
    | (s, some _) => ((s.emit (.echo n ip id seq data)).countTx n (42 + data.length)).bump (Pg.ETH n) (whole Rg.ETH_ICMP_CNT)
    | (s, none) => s
  else s

def execIcmpEcho (n : Fin 2) (ip id seq : Nat) (data : List Byte) (s : State) : Host.Outcome State Fault Refusal :=
  .next (s.echoIn n ip id seq data)

/-! ### Sessions -/

/-- DATAGRAM_FLUSH: the first record of a session's open datagram has waited FLUSH_US (R562). -/
def execDatagramFlush (k : Fin 1024) (s : State) : Host.Outcome State Fault Refusal := .next (s.closeFill k)

/-- One retransmission through the priority queue (R564); one that finds no credit is skipped. -/
def State.resend (s : State) (k : Nat) (data : List Byte) : State :=
  let (s, ok) := s.pushFrame k (4097 + 2 * k) data
  if ok then s.bump Pg.NET (whole Rg.NET_RETX_CNT) else s

/-- The datagram of a run of SEQs no longer held, from `gap` to below `c` (R564). -/
def State.historyGap (s : State) (k : Nat) (gap : Option Nat) (c : Nat) : State :=
  match gap with
  | none => s
  | some g =>
    let e := 2 ^ 48 * (s.sess k).epoch
    let head := wrpHeader kRecords k (e + g) s.time 1 0 true false false
    let (s, ok) := s.pushFrame k (4097 + 2 * k) (leBytes 32 head ++ leBytes 64 (s.gapRec gapHistory (e + g) (e + c - 1) 0 0))
    if ok then (s.bump Pg.NET (whole Rg.NET_RETX_CNT)).bump Pg.NET (whole Rg.NET_GAP_CNT) else s

/-- The SEQs asked for, in order, from `c` to below `hi`: stored datagrams with RETX set, and a HISTORY gap for each run of
others, of which `gap` is the first of one not yet answered. -/
def State.resendRange (s : State) (k hi : Nat) : Nat → Nat → Option Nat → State
  | 0, _, gap => s.historyGap k gap hi
  | f + 1, c, gap =>
    match s.histGet k c with
    | some d =>
      let d := d.take 3 ++ [nth 0 d 3 ||| 1] ++ d.drop 4
      ((s.historyGap k gap c).resend k d).resendRange k hi f (c + 1) none
    | none => s.resendRange k hi f (c + 1) (some (gap.getD c))

/-- A NACK that arrived on a port: source, session, first SEQ and COUNT (R564). -/
def State.nackIn (s : State) (n ip udp k seq count : Nat) : State :=
  let x := s.sess k
  let sec := s.rawNs / 10 ^ 9
  let inSec := if x.nackAt = sec then x.nackIn else 0
  let from_ := if s.se k 3 1 = 1 then s.inSubnet (s.sePort k) ip else s.seIp k == ip && s.se k 64 16 == udp
  if !(s.netOn && s.ethUp n) then s
  else if s.seOpen k && from_ && seq / 2 ^ 48 == x.epoch && decide (inSec < 1000) && decide (1 ≤ count) && decide (count ≤ 64) then
    let s := s.putSess k { x with nackAt := sec, nackIn := inSec + 1, nacks := satN 16 (x.nacks + 1) }
    let s := s.bump Pg.NET Fd.NET_NACK_CNT_b0
    let lo := seq % 2 ^ 48
    let hi := Nat.min (lo + count) x.count
    s.resendRange k hi (hi - lo) lo none
  else s.bump Pg.NET Fd.NET_NACK_CNT_b16

/-- WRP_NACK. -/
def execWrpNack (n : Fin 2) (ip udp : Nat) (k : Fin 1024) (seq count t : Nat) (s : State) : Host.Outcome State Fault Refusal :=
  .next ((s.atNs t).nackIn n ip udp k seq count)

/-- The payload of a STATUS datagram (R565). -/
def State.statusBits (s : State) : Nat :=
  mkBits [(0, 3, s.mode.code), (3, 3, s.fld Pg.TB Fd.TB_STAT_STATE), (6, 8, clockClassOf (s.fld Pg.TB Fd.TB_STAT_STATE)),
    (14, 6, s.fld Pg.SYS Fd.SYS_JOB_STAT_ACTIVE_ID), (20, 1, s.fld Pg.SYS Fd.SYS_JOB_STAT_ACTIVE_VALID),
    (21, 1, s.fld Pg.SUPV0 Fd.SUPV0_FAULT_STAT_ASSERTED), (32, 32, (s.rd Pg.VRD Rg.VRD_LAST_REPEAT).toNat), (64, 64, s.time),
    (128, 32, (s.rd Pg.SUPV0 Rg.SUPV0_LOG_SEQ).toNat)]

/-- STATUS_DATAGRAM: a period of an open DATA session ends (R565); owed GAP records go ahead in a datagram of their own. -/
def State.statusOut (s : State) (k : Nat) : State :=
  if s.netOn && s.seOpen k && !s.seAct k then
    let (s, ready) := s.settleGaps k
    if ready then
      let (s, ok) := s.placeDgram k kStatus 0 0 false (leBytes 64 s.statusBits)
      if ok then s else s.sessLose k 0 0
    else s
  else s

def execStatusDatagram (k : Fin 1024) (t : Nat) (s : State) : Host.Outcome State Fault Refusal := .next ((s.atNs t).statusOut k)

/-- A write of SESS_CTL (R558). -/
def State.sessCtl (s : State) (o : Owner) (w : Word) : State :=
  let s := s.writeReg Pg.NET Rg.NET_SESS_CTL w
  let k := wf w 0 10
  let l := s.sessShadow k
  if wf w 16 1 = 0 then s
  else if sessBad l then (s.flag Pg.NET Fd.NET_SESS_STAT_REFUSED).logErr Er.SESS_FORMAT Pg.NET k
  else if s.mode.job then
    let v := s.lowView .active
    ({ s with net := { s.net with applies := s.net.applies ++ [(⟨k, l, v, s.nextLine v, none⟩ : SessApply)] } } : State).showApplies
  else s.takeEntry k l (o == .boot)

/-- SESS_APPLY. -/
def execSessApply (o : Owner) (w : Word) (s : State) : Host.Outcome State Fault Refusal :=
  .next (s.guarded o Pg.NET Rg.NET_SESS_CTL (·.sessCtl o w))

/-- SESS_APPLY_REPEAT: a scheduled entry becomes active once every record keyed before its repeat start is sent (R558). -/
def execSessApplyRepeat (s : State) : Host.Outcome State Fault Refusal := .next s.applyDue

/-! ### Keys (R570, R618) -/

/-- A write of KEY_DATA: a word of the key of the slot in KEY_SEL; the eighth loads the key. -/
def State.keyData (s : State) (w : Word) : State :=
  let k := s.fld Pg.NET Fd.NET_KEY_SEL_b0
  let l := (if s.net.keySlot = k then s.net.keyLoad else []) ++ [w]
  if l.length < 8 then { s with net := { s.net with keySlot := k, keyLoad := l } }
  else
    let s := { s with net := { s.net with keySlot := k, keyLoad := [], keys := tabPut (dflt []) k (wordBytes l) s.net.keys } }
    s.setFld Pg.NET ⟨Rg.NET_KEY_STAT, k, 1⟩ 1

def execKeyDataWrite (o : Owner) (w : Word) (s : State) : Host.Outcome State Fault Refusal :=
  .next (s.guarded o Pg.NET Rg.NET_KEY_DATA (·.keyData w))

/-- A write of KEY_SEL: CLEAR empties the slot it names and breaks the locks taken under it (R618). -/
def State.keySel (s : State) (w : Word) : State :=
  let s := s.writeReg Pg.NET Rg.NET_KEY_SEL w
  let k := wf w 0 3
  if wf w 8 1 = 0 then s
  else
    let s := { s with net := { s.net with
      keys := tabPut (dflt []) k [] s.net.keys
      keyLoad := if s.net.keySlot = k then [] else s.net.keyLoad } }
    (s.setFld Pg.NET ⟨Rg.NET_KEY_STAT, k, 1⟩ 0).keySlotReset k

/-- KEY_CLEAR. -/
def execKeyClear (o : Owner) (w : Word) (s : State) : Host.Outcome State Fault Refusal :=
  .next (s.guarded o Pg.NET Rg.NET_KEY_SEL (·.keySel w))

/-! ### The WX8 services (R574-R576) -/

/-- Whether the WX8 services run. -/
def State.wx8On (s : State) : Bool := s.mode == .legacy && s.on Pg.NET Fd.NET_WX8_CTL_EN

/-- A WX8 datagram of one 48-byte item to an address and port; the sequence of its service goes on whether it leaves or not. -/
def State.wx8Send (s : State) (service ip dport item : Nat) : State :=
  let q := tabGet (dflt 0) s.net.wx8Seq service
  let s := { s with net := { s.net with wx8Seq := tabPut (dflt 0) service ((q + 1) % 2 ^ 32) s.net.wx8Seq } }
  let base := s.fld Pg.NET Fd.NET_WX8_CTL_BASE
  s.udpSend (s.fld Pg.NET Fd.NET_WX8_CTL_PORT) ip (base + service - 1) dport
    (leBytes 8 (q + 2 ^ 32 * service + 2 ^ 40) ++ leBytes 48 item)

/-- A value limited to an unsigned field. -/
def satI (bits : Nat) (i : Int) : Nat := satN bits i.toNat

/-- A signed value limited to a signed field, as its pattern. -/
def satS (bits : Nat) (i : Int) : Nat := toTwos bits (clampI (-(2 ^ (bits - 1) : Nat)) ((2 ^ (bits - 1) : Nat) - 1) i)

/-- A DEFECT record as a WX8 defect report (R575); `fail` and `marg` are the thresholds in force. -/
def wx8Defect (r : Rec) (serial start fail marg : Nat) : Nat :=
  let f (lo len : Nat) : Nat := r.get lo len
  let pol := f 26 2
  mkBits [(0, 32, serial), (32, 32, r.rep), (64, 16, r.cellNum), (80, 6, r.cls),
    (86, 2, if fail ≤ r.sev then 3 else if marg ≤ r.sev then 2 else if 0 < r.sev then 1 else 0),
    (88, 32, satS 32 (Int.tdiv r.x 16)), (120, 32, satI 32 (f 128 40 / 16)), (152, 32, f 384 32),
    (184, 16, satI 16 ((f 339 19 : Int) - f 320 19 + 1)), (200, 16, satN 16 (f 358 12 + f 370 12 + 1)), (216, 12, f 416 12),
    (228, 2, if pol = 1 then 1 else if pol = 2 then 2 else 3),
    (232, 16, b2n (r.flag rfNear || r.flag rfPoison) + 2 * b2n (r.flag rfPrev || r.flag rfNext) + 4 * b2n (r.flag rfNoCrop)),
    (248, 32, satN 32 (r.webDist / 1000)), (280, 32, satN 32 ((f 256 64 - start) / 10 ^ 6)), (312, 32, f 480 32), (344, 32, f 448 32)]

/-- A REPEAT_VERDICT record as a WX8 roll-map record (R576). -/
def wx8Roll (r : Rec) : Nat :=
  let f (lo len : Nat) : Nat := r.get lo len
  let v := f 168 2
  let lanes := sumN ((List.range 32).map fun j => if f (448 + 2 * j) 2 = 0 then 0 else 2 ^ j)
  mkBits [(0, 32, r.rep), (32, 2, if v = 2 then 1 else if v = 3 then 2 else 0), (34, 1, b2n (f 336 16 != 0)),
    (40, 32, satN 32 (r.webDist / 1000)), (72, 16, f 352 16), (88, 16, f 368 16), (104, 16, satN 16 (f 320 16 + f 336 16)),
    (120, 32, lanes), (152, 32, f 384 32)]

/-- WX8_STATUS_REQUEST: a status request is answered to its source (R576). -/
def State.wx8Status (s : State) (n ip udp : Nat) : State :=
  if s.wx8On && s.fld Pg.NET Fd.NET_WX8_CTL_PORT == n && s.ethUp n then
    let learning := wf (s.mstViewStat 0) 0 3
    let st := if learning = 1 ∨ learning = 3 then 2 else if s.mode == .hold then 3 else if s.jobA.isSome then 1 else 0
    let item := mkBits [(0, 3, st), (3, 6, s.fld Pg.SYS Fd.SYS_JOB_STAT_ACTIVE_ID),
      (32, 32, (s.rd Pg.VRD Rg.VRD_LAST_REPEAT).toNat), (64, 32, (s.rd Pg.SUPV0 Rg.SUPV0_LOG_SEQ).toNat)]
    (s.wx8Send 3 ip udp item).bump Pg.NET Fd.NET_WX8_CNT_b16
  else s

def execWx8StatusRequest (n : Fin 2) (ip udp : Nat) (s : State) : Host.Outcome State Fault Refusal := .next (s.wx8Status n ip udp)

/-! ### BAR2 and the PCI Express link (R577-R581, R618) -/

/-- Whether host accesses reach the chip: the link is up. -/
def State.hostLink (s : State) : Bool := s.on Pg.PCIE Fd.PCIE_STAT_LINK_UP

/-- A BAR2 access counted, in units of 1,024. -/
def State.countBar2 (s : State) : State :=
  let k := s.net.bar2 + 1
  let s := s.bumpBy Pg.PCIE (whole Rg.PCIE_BAR2_CNT) (k / 1024)
  { s with net := { s.net with bar2 := k % 1024 } }

/-- BAR2_WRITE: a host write to DRAM through background port 3 (R76, R513, R578). -/
def execBar2Write (addr : Nat) (data : List Byte) (s : State) : Host.Outcome State Fault Refusal :=
  .next (if s.hostLink && s.mode != .boot then s.countBar2.hostWrite 3 addr data else s)

/-- PCIE_AER of an uncorrectable error, class CONTAINED (0x1304 of the event log). -/
abbrev aerPoison : ErrCode := ⟨Er.PCIE_AER.code, 1⟩

/-- BAR2_READ: DRAM data, or a poisoned completion beyond the capacity or from a line with an uncorrected error (R60, R578). -/
def State.bar2Read (s : State) (addr n : Nat) : State :=
  let s := s.countBar2
  if s.dramBad addr n then
    let s := (s.bump Pg.PCIE Fd.PCIE_POISON_CNT_b0).bump Pg.PCIE Fd.PCIE_ERR_CNT_b16
    let s := s.logErr aerPoison Pg.PCIE
    let s := if s.outOfRange addr n then s.memRange 3 else s
    s.emit (.completion addr [] true)
  else s.emit (.completion addr (s.dram addr n) false)

def execBar2Read (addr n : Nat) (s : State) : Host.Outcome State Fault Refusal :=
  .next (if s.hostLink && s.mode != .boot then s.bar2Read addr n else s)

/-- DMA channels with host reads outstanding stop in ERROR with cause PCIE_TIMEOUT (R581). -/
def State.dmaHostLost (s : State) : State :=
  (List.range 32).foldl (fun (s : State) (c : Nat) =>
    if (s.chSet c).srcSpace = 1 ∧ !(s.ch c).flying.isEmpty then s.dmaFail c 5 else s) s

/-- PERST_N asserted: the endpoint is reset, its MSI-X table and PBA with it, and HOST counts as reset (R581, R618). -/
def State.perst (s : State) : State :=
  let s := s.bump Pg.PCIE (whole Rg.PCIE_PERST_CNT)
  let s := (s.wr Pg.PCIE Rg.PCIE_STAT 0).wr Pg.PCIE Rg.PCIE_LINK 0
  let s := ((s.wr Pg.PCIE Rg.PCIE_AER_UNCOR 0).wr Pg.PCIE Rg.PCIE_AER_COR 0)
  let s := { s with window := tabClear 0x0C0000 0x0C1008 s.window }
  s.dmaHostLost.ownerReset 2

def execPerst (s : State) : Host.Outcome State Fault Refusal := .next s.perst

/-- PCIE_LINK_DOWN: the link goes down, or with `bme` Bus Master Enable is cleared; HOST counts as reset (R618). -/
def execPcieLinkDown (bme : Bool) (s : State) : Host.Outcome State Fault Refusal :=
  let s := if bme then s else (s.setFld Pg.PCIE Fd.PCIE_STAT_LINK_UP 0).wr Pg.PCIE Rg.PCIE_LINK 0
  let s := s.setFld Pg.PCIE Fd.PCIE_STAT_BUS_MASTER 0
  .next ((if bme then s else s.dmaHostLost).ownerReset 2)

/-- PCIE_LINK_UP: the link finishes training; `link`, `eq` and `lanes` are what LINK, EQ_STAT and LANE_STAT then show (R577). -/
def execPcieLinkUp (link eq lanes : Word) (s : State) : Host.Outcome State Fault Refusal :=
  let s := (s.setFld Pg.PCIE Fd.PCIE_STAT_LINK_UP 1).setFld Pg.PCIE Fd.PCIE_STAT_BUS_MASTER 1
  .next (((s.wr Pg.PCIE Rg.PCIE_LINK (link &&& 0x1FFF)).wr Pg.PCIE Rg.PCIE_EQ_STAT eq).wr Pg.PCIE Rg.PCIE_LANE_STAT lanes)

end Sys2Proof.Machine
end

