-- ==== Sys2Proof/Machine/Inflate.lean ====
section
/-!
DEFINITION. The decompressor of ZIP (R542): the zlib format of RFC 1950 with DEFLATE data of RFC 1951, as a function of all
input bytes of a stream so far.
-/
namespace Sys2Proof.Machine

/-- Bits of a byte list in the order of RFC 1951, as one number with the first bit lowest. -/
structure BitIn where
  /-- The bits not yet taken. -/
  bits : Nat
  /-- How many. -/
  left : Nat
deriving DecidableEq, Repr

/-- How a step of the decompressor ends. -/
inductive Infl (α : Type) where
  | ok (a : α)
  /-- The input ends before the step does. -/
  | more
  /-- The input breaks the format. -/
  | bad
deriving DecidableEq, Repr

/-- `n` bits taken, least significant first. -/
def BitIn.take (b : BitIn) (n : Nat) : Infl (Nat × BitIn) :=
  if b.left < n then .more else .ok (b.bits % 2 ^ n, ⟨b.bits / 2 ^ n, b.left - n⟩)

/-- The rest of the current byte dropped, for input that began at a byte boundary. -/
def BitIn.align (b : BitIn) : BitIn := ⟨b.bits / 2 ^ (b.left % 8), b.left - b.left % 8⟩

/-- A prefix code by its code lengths per symbol: the canonical codes of RFC 1951 are read bit by bit. -/
def decodeSym (lens : List Nat) : Nat → Nat → Nat → Nat → Nat → BitIn → Infl (Nat × BitIn)
  | 0, _, _, _, _, _ => .bad
  | fuel + 1, len, code, first, index, b =>
    match b.take 1 with
    | .more => .more
    | .bad => .bad
    | .ok (x, b) =>
      let code := code + x
      let syms := (List.range lens.length).filter fun i => nth 0 lens i == len
      let count := syms.length
      if code < first + count then .ok (nth 0 syms (code - first), b)
      else decodeSym lens fuel (len + 1) (2 * code) (2 * (first + count)) (index + count) b

/-- The next symbol of a code. -/
def BitIn.sym (b : BitIn) (lens : List Nat) : Infl (Nat × BitIn) := decodeSym lens 15 1 0 0 0 b

/-- Whether code lengths oversubscribe a code of at most 15 bits. -/
def overSubscribed (lens : List Nat) : Bool :=
  decide (2 ^ 15 < sumN (lens.map fun l => if l = 0 then 0 else 2 ^ (15 - l)))

/-- Whether code lengths leave a code incomplete. -/
def incomplete (lens : List Nat) : Bool :=
  decide (sumN (lens.map fun l => if l = 0 then 0 else 2 ^ (15 - l)) < 2 ^ 15)

/-- The static literal and length code of RFC 1951. -/
def staticLit : List Nat :=
  List.replicate 144 8 ++ List.replicate 112 9 ++ List.replicate 24 7 ++ List.replicate 8 8

def lenBase : List Nat := [3, 4, 5, 6, 7, 8, 9, 10, 11, 13, 15, 17, 19, 23, 27, 31, 35, 43, 51, 59, 67, 83, 99, 115, 131, 163, 195, 227, 258]
def lenExtra : List Nat := [0, 0, 0, 0, 0, 0, 0, 0, 1, 1, 1, 1, 2, 2, 2, 2, 3, 3, 3, 3, 4, 4, 4, 4, 5, 5, 5, 5, 0]
def distBase : List Nat := [1, 2, 3, 4, 5, 7, 9, 13, 17, 25, 33, 49, 65, 97, 129, 193, 257, 385, 513, 769, 1025, 1537, 2049, 3073, 4097, 6145, 8193, 12289, 16385, 24577]
def distExtra : List Nat := [0, 0, 0, 0, 1, 1, 2, 2, 3, 3, 4, 4, 5, 5, 6, 6, 7, 7, 8, 8, 9, 9, 10, 10, 11, 11, 12, 12, 13, 13]
def clOrder : List Nat := [16, 17, 18, 0, 8, 7, 9, 6, 10, 5, 11, 4, 12, 3, 13, 2, 14, 1, 15]

/-- A copy of `n` bytes from `d` back, output newest first. -/
def copyBack : Nat → Nat → List Byte → List Byte
  | 0, _, out => out
  | n + 1, d, out => copyBack n d (nth 0 out (d - 1) :: out)

/-- Where a decompressor stands: the bits left, the output newest first, and whether it stopped. -/
structure InflSt where
  b   : BitIn
  out : List Byte
deriving DecidableEq, Repr

/-- The data of a block with codes: symbols until the end of the block. `window` is the reach of distances. -/
def inflCodes (lit dist : List Nat) (window : Nat) : Nat → InflSt → InflSt × Infl Unit
  | 0, s => (s, .more)
  | fuel + 1, s =>
    match s.b.sym lit with
    | .more => (s, .more)
    | .bad => (s, .bad)
    | .ok (x, b) =>
      if x < 256 then inflCodes lit dist window fuel ⟨b, BitVec.ofNat 8 x :: s.out⟩
      else if x = 256 then (⟨b, s.out⟩, .ok ())
      else if 285 < x then (s, .bad)
      else
        match b.take (nth 0 lenExtra (x - 257)) with
        | .more => (s, .more)
        | .bad => (s, .bad)
        | .ok (e, b) =>
          match b.sym dist with
          | .more => (s, .more)
          | .bad => (s, .bad)
          | .ok (y, b) =>
            if 29 < y then (s, .bad)
            else match b.take (nth 0 distExtra y) with
              | .more => (s, .more)
              | .bad => (s, .bad)
              | .ok (f, b) =>
                let d := nth 0 distBase y + f
                if s.out.length < d ∨ window < d then (s, .bad)
                else inflCodes lit dist window fuel ⟨b, copyBack (nth 0 lenBase (x - 257) + e) d s.out⟩

/-- Stored bytes. -/
def inflStored : Nat → InflSt → InflSt × Infl Unit
  | 0, s => (s, .ok ())
  | n + 1, s =>
    match s.b.take 8 with
    | .more => (s, .more)
    | .bad => (s, .bad)
    | .ok (x, b) => inflStored n ⟨b, BitVec.ofNat 8 x :: s.out⟩

/-- The code lengths of a dynamic block, newest first, from its code length code. -/
def inflLens (cl : List Nat) (total : Nat) : Nat → BitIn → List Nat → Infl (List Nat × BitIn)
  | 0, _, _ => .bad
  | fuel + 1, b, acc =>
    if total ≤ acc.length then (if acc.length = total then .ok (acc.reverse, b) else .bad)
    else
      let rep (bits base v : Nat) (b : BitIn) : Infl (List Nat × BitIn) :=
        match b.take bits with
        | .more => .more
        | .bad => .bad
        | .ok (n, b) => inflLens cl total fuel b (List.replicate (base + n) v ++ acc)
      match b.sym cl with
      | .more => .more
      | .bad => .bad
      | .ok (x, b) =>
        if x < 16 then inflLens cl total fuel b (x :: acc)
        else if x = 16 then (match acc with | [] => .bad | v :: _ => rep 2 3 v b)
        else if x = 17 then rep 3 3 0 b
        else rep 7 11 0 b

/-- The two codes of a dynamic block. -/
def inflDyn (b : BitIn) : Infl (List Nat × List Nat × BitIn) :=
  match b.take 14 with
  | .more => .more
  | .bad => .bad
  | .ok (h, b) =>
    let hlit := h % 32 + 257
    let hdist := h / 32 % 32 + 1
    let hclen := h / 1024 + 4
    match b.take (3 * hclen) with
    | .more => .more
    | .bad => .bad
    | .ok (c, b) =>
      let cl := (List.range 19).map fun s =>
        match (clOrder.take hclen).findIdx? (· == s) with | some i => nb c (3 * i) 3 | none => 0
      if 286 < hlit ∨ 30 < hdist ∨ overSubscribed cl ∨ incomplete cl then .bad
      else match inflLens cl (hlit + hdist) 320 b [] with
        | .more => .more
        | .bad => .bad
        | .ok (l, b) =>
          let lit := l.take hlit
          let dist := l.drop hlit
          if overSubscribed lit ∨ overSubscribed dist ∨ nth 0 lit 256 = 0 ∨
              (incomplete lit ∧ 1 < (lit.filter (· != 0)).length) ∨
              (incomplete dist ∧ 1 < (dist.filter (· != 0)).length) then .bad
          else .ok (lit, dist, b)

/-- Blocks until the final one (RFC 1951). -/
def inflBlocks (window : Nat) : Nat → InflSt → InflSt × Infl Unit
  | 0, s => (s, .more)
  | fuel + 1, s =>
    match s.b.take 3 with
    | .more => (s, .more)
    | .bad => (s, .bad)
    | .ok (h, b) =>
      let n := b.left
      let r : InflSt × Infl Unit :=
        if h / 2 = 0 then
          match b.align.take 32 with
          | .more => (s, .more)
          | .bad => (s, .bad)
          | .ok (w, b) =>
            if w % 65536 + w / 65536 = 65535 then inflStored (w % 65536) ⟨b, s.out⟩ else (s, .bad)
        else if h / 2 = 1 then inflCodes staticLit (List.replicate 32 5) window (n + 1) ⟨b, s.out⟩
        else if h / 2 = 2 then
          match inflDyn b with
          | .more => (s, .more)
          | .bad => (s, .bad)
          | .ok (lit, dist, b) => inflCodes lit dist window (n + 1) ⟨b, s.out⟩
        else (s, .bad)
      match r.2 with
      | .ok () => if h % 2 = 1 then (r.1, .ok ()) else inflBlocks window fuel r.1
      | .more => (r.1, .more)
      | .bad => (r.1, .bad)

/-- What the decompressor makes of all input of a stream so far: its output, and how it ends. -/
inductive InflEnd where
  /-- The input ends inside the stream. -/
  | more
  /-- R542, FORMAT. -/
  | format
  /-- The trailer does not match. -/
  | adler
  /-- The stream has ended with its trailer, and this many bytes are left. -/
  | done (left : Nat)
deriving DecidableEq, Repr

/-- The zlib stream that bytes spell so far (R542). -/
def zlibInflate (l : List Byte) : List Byte × InflEnd :=
  match l with
  | cmf :: flg :: rest =>
    let c := cmf.toNat
    let f := flg.toNat
    if c % 16 ≠ 8 ∨ 7 < c / 16 ∨ (c * 256 + f) % 31 ≠ 0 ∨ nb f 5 1 = 1 then ([], .format)
    else
      let b : BitIn := ⟨leNat rest, 8 * rest.length⟩
      let r := inflBlocks (2 ^ (8 + c / 16)) (8 * rest.length + 1) ⟨b, []⟩
      let out := r.1.out.reverse
      match r.2 with
      | .more => (out, .more)
      | .bad => (out, .format)
      | .ok () =>
        let left := r.1.b.align.left / 8
        if left < 4 then (out, .more)
        else
          let t := (rest.drop (rest.length - left)).take 4
          (out, if beNat t = adler32 out then .done (left - 4) else .adler)
  | _ => ([], .more)

end Sys2Proof.Machine
end

