-- ==== Sys2Proof/Machine/Zip.lean ====
section
/-!
DEFINITION. The compression engine's host jobs (R537-R551): the descriptor ring, lossless and fixed-ratio jobs, chunks and
the end of a job.
-/
namespace Sys2Proof.Machine

/-! ### Descriptors (R547) -/

/-- STATUS values of Table — ZIP status. -/
abbrev zipOk : Nat := 0
abbrev zipNoGain : Nat := 1
abbrev zipOverflow : Nat := 2
abbrev zipFormat : Nat := 3
abbrev zipAdler : Nat := 4
abbrev zipCrc : Nat := 5
abbrev zipMem : Nat := 6
abbrev zipStream : Nat := 7
abbrev zipBadDesc : Nat := 8

/-- The ring's descriptor count and the address of descriptor `n` (R546). -/
def State.zipSize (s : State) : Nat := (s.rd Pg.ZIP Rg.ZIP_RING_SIZE).toNat
def State.zipDescAt (s : State) (n : Nat) : Nat :=
  s.rd64 Pg.ZIP Rg.ZIP_RING_BASE_LO Rg.ZIP_RING_BASE_HI + 64 * (n % s.zipSize)

/-- A queue that a job may name (R550). -/
def State.zipQueueOk (s : State) (q : Nat) : Bool := decide (7168 ≤ q) && decide (q ≤ 7935) && s.qEn q

/-- The blocks across and along of a fixed-ratio job (R549). -/
def zipBw (d : Nat) : Nat := (nb d 224 19 + 3) / 4
def zipBh (d : Nat) : Nat := (nb d 256 32 + 3) / 4

/-- Whether a descriptor breaks a stated range (R547, R549, R550). -/
def State.zipBad (s : State) (d : Nat) : Bool :=
  let op := nb d 0 4
  decide (3 < op) || nb d 32 32 == 0 || (tbit d 10 && decide (nb d 32 32 % 8 ≠ 0)) ||
  (tbit d 10 && !s.zipQueueOk (nb d 64 13)) || (tbit d 11 && !s.zipQueueOk (nb d 128 13)) ||
  (decide (2 ≤ op) &&
    (nb d 224 19 == 0 || decide (262144 < nb d 224 19) || nb d 256 32 == 0 ||
     decide (nb d 288 32 < 2 * nb d 224 19) || decide (nb d 320 64 % 4096 ≠ 0))) ||
  (op == 2 && decide (nb d 192 32 < 8 * zipBw d * zipBh d))

/-- A host job starts: its descriptor is read once (R546). -/
def State.zipStart (s : State) : State :=
  if s.zip.job.isNone && s.blockOn Pg.ZIP Fd.ZIP_CTL_HOST_EN &&
      decide (s.rd Pg.ZIP Rg.ZIP_RING_HEAD ≠ s.rd Pg.ZIP Rg.ZIP_RING_TAIL) then
    let d := s.dramNat (s.zipDescAt (s.rd Pg.ZIP Rg.ZIP_RING_TAIL).toNat) 64
    let r := if s.zipBad d then some ⟨zipBadDesc, 0, 0⟩ else none
    { s.setFifo 11 [] |>.setFifo 12 [] with zip := { s.zip with job := some d, taken := 0, result := r } }
  else s

/-- ZIP_RING_HEAD_WRITE: a head more than RING_SIZE ahead of the tail, or behind it, is ignored (R546). -/
def State.zipHead (s : State) (w : Word) : State :=
  if s.zipSize < (w - s.rd Pg.ZIP Rg.ZIP_RING_TAIL).toNat then s.flag Pg.ZIP Fd.ZIP_STAT_RING_REFUSED
  else (s.wr Pg.ZIP Rg.ZIP_RING_HEAD w).zipStart

def execZipRingHeadWrite (o : Owner) (w : Word) (s : State) : Host.Outcome State Fault Refusal :=
  .next (s.guarded o Pg.ZIP Rg.ZIP_RING_HEAD (·.zipHead w))

/-! ### What a job puts out -/

/-- The output and end of a DEFLATE job for its input, and the stream left open (R537-R541). -/
def zipDeflate (st : Option ZipStream) (d : Nat) (inp : List Byte) : List Byte × ZipEnd × Option ZipStream :=
  let first := tbit d 5
  let last := tbit d 6
  match first, st with
  | true, some _ => ([], ⟨zipStream, 0, 0⟩, none)
  | false, none => ([], ⟨zipStream, 0, 0⟩, none)
  | false, some ⟨true, _, _⟩ => ([], ⟨zipStream, 0, 0⟩, none)
  | _, _ =>
    let prior := match st with | some x => x.input | none => []
    let body := Config.deflateBlocks prior inp (tbit d 4) last (tbit d 7)
    let flush : List Byte := if tbit d 7 && !last then [0x00, 0x00, 0xFF, 0xFF] else []
    let check := adler32 (prior ++ inp)
    let out := (if first then [0x78, 0x9C] else []) ++ body ++ flush ++ (if last then beBytes 4 check else [])
    let open_ := if last then none else some ⟨false, prior ++ inp, 0⟩
    if first ∧ last ∧ inp.length ≤ out.length then ([], ⟨zipNoGain, 0, check⟩, none)
    else if nb d 192 32 < out.length then (out.take (nb d 192 32), ⟨zipOverflow, nb d 192 32, check⟩, none)
    else (out, ⟨zipOk, out.length, check⟩, open_)

/-- The output and end of an INFLATE job (R540, R542). -/
def zipInflate (st : Option ZipStream) (d : Nat) (inp : List Byte) : List Byte × ZipEnd × Option ZipStream :=
  let first := tbit d 5
  let last := tbit d 6
  match first, st with
  | true, some _ => ([], ⟨zipStream, 0, 0⟩, none)
  | false, none => ([], ⟨zipStream, 0, 0⟩, none)
  | false, some ⟨false, _, _⟩ => ([], ⟨zipStream, 0, 0⟩, none)
  | _, _ =>
    let prior := match st with | some x => x.input | none => []
    let before := match st with | some x => x.outLen | none => 0
    let r := zlibInflate (prior ++ inp)
    let out := r.1.drop before
    let space := nb d 192 32
    let check := adler32 r.1
    let fin (st : Nat) : List Byte × ZipEnd × Option ZipStream := (out, ⟨st, out.length, check⟩, none)
    if space < out.length then (out.take space, ⟨zipOverflow, space, check⟩, none)
    else match r.2 with
      | .format => fin zipFormat
      | .adler => fin zipAdler
      | .done 0 => fin zipOk
      | .done _ => fin zipFormat
      | .more => if last then fin zipFormat else (out, ⟨zipOk, out.length, check⟩, some ⟨true, prior ++ inp, r.1.length⟩)

/-- A sample word of a fixed-ratio job: the value, none for a missing sample (R549). -/
def zipSample (w : Nat) : Option Nat := if tbit w 15 then none else some (w % 4096)

/-- The 16 samples of a block of an image given by its sample function, padded with the nearest (R549). -/
def blockSamples (width height : Nat) (f : Nat → Nat → Option Nat) (bx by_ : Nat) : List (Option Nat) :=
  (List.range 16).map fun i => f (Nat.min (4 * by_ + i / 4) (height - 1)) (Nat.min (4 * bx + i % 4) (width - 1))

/-- The CRC words of a stream of code words, by segment of 4,096 bytes (R536). -/
def segmentCrcs : Nat → List Byte → List Nat
  | 0, _ => []
  | n + 1, l => if l.isEmpty then [] else crc32c (l.take 4096) :: segmentCrcs n (l.drop 4096)

/-- What an FR_ENC job makes of its image: code words, error bytes and the largest error (R549). -/
def zipEncode (d : Nat) (f : Nat → Nat → Option Nat) : List Byte × List Byte × Nat :=
  let l := (List.range (zipBw d * zipBh d)).map fun i =>
    frEncodeOpt (blockSamples (nb d 224 19) (nb d 256 32) f (i % zipBw d) (i / zipBw d))
  (l.flatMap fun p => leBytes 8 p.1, l.map fun p => BitVec.ofNat 8 (Nat.min 255 p.2), maxN (l.map (·.2)))

/-- A sample of an image of code words: row and column. -/
def zipDecoded (d : Nat) (codes : List Byte) (r c : Nat) : Nat :=
  let w := leNat ((codes.drop (8 * (r / 4 * zipBw d + c / 4))).take 8)
  if w = frMissing then 0x8000 else nth 0 (frDecode w) (4 * (r % 4) + c % 4)

/-- The address of the CRC words of a fixed-ratio job (R549). -/
def zipCrcAt (d : Nat) : Nat := nb d 320 64 + 4096 * ((zipBw d * zipBh d + 4095) / 4096)

/-- Bytes counted in IN_CNT or OUT_CNT, in units of 4,096. -/
def State.zipCount (s : State) (input : Bool) (n : Nat) : State :=
  if input then
    let x := s.zip.inRem + n
    ({ s with zip := { s.zip with inRem := x % 4096 } }).bumpBy Pg.ZIP (whole Rg.ZIP_IN_CNT) (x / 4096)
  else
    let x := s.zip.outRem + n
    ({ s with zip := { s.zip with outRem := x % 4096 } }).bumpBy Pg.ZIP (whole Rg.ZIP_OUT_CNT) (x / 4096)

/-- The result of the running job known. -/
def State.zipEnds (s : State) (r : ZipEnd) (st : Option ZipStream) : State :=
  ({ s with zip := { s.zip with result := some r, stream := st } }).setBit Pg.ZIP Fd.ZIP_STAT_STREAM_OPEN st.isSome

/-- The output of the running job, at its destination address or on its way to its queue (R550). -/
def State.zipOut (s : State) (d : Nat) (out : List Byte) : State :=
  let s := s.zipCount false out.length
  if tbit d 11 then s.setFifo 12 out else s.memWrite 0 (nb d 128 64) out

/-- The bytes of a range for a job, none where they cannot be read. -/
def State.zipRead (s : State) (a n : Nat) : State × Option (List Byte) :=
  if n = 0 then (s, some []) else s.memRead 0 a n

/-- A lossless job run on all its input. -/
def State.zipLossless (s : State) (d : Nat) (inp : List Byte) : State :=
  let (out, e, st) := if nb d 0 4 = 0 then zipDeflate s.zip.stream d inp else zipInflate s.zip.stream d inp
  let s := if e.status = zipNoGain then
      let n := Nat.min (inp.length - 1) (nb d 192 32)
      let junk := (List.range n).map fun i => Config.freeByte (s.free + i)
      if tbit d 11 then s else (s.memWrite 0 (nb d 128 64) junk).drawnN n
    else s.zipOut d out
  (s.zipCount true inp.length).zipEnds e st

/-- An FR_ENC job (R549). -/
def State.zipFrEnc (s : State) (d : Nat) (img : List Byte) : State :=
  let f (r c : Nat) : Option Nat := zipSample (leNat ((img.drop (nb d 288 32 * r + 2 * c)).take 2))
  let (codes, errs, e) := zipEncode d f
  let crcs := (segmentCrcs codes.length codes).flatMap fun c => leBytes 4 c
  let s := ((s.zipOut d codes).memWrite 0 (nb d 320 64) errs).memWrite 0 (zipCrcAt d) crcs
  let s := s.wr Pg.ZIP Rg.ZIP_FR_ERR_MAX (BitVec.ofNat 32 e)
  (s.zipCount true img.length).zipEnds ⟨zipOk, codes.length, 0⟩ s.zip.stream

/-- The rows of an FR_DEC job's output (R549). -/
def State.zipRows (s : State) (d : Nat) (codes : List Byte) : State :=
  let row (r : Nat) : List Byte := (List.range (nb d 224 19)).flatMap fun c => leBytes 2 (zipDecoded d codes r c)
  if tbit d 11 then s.zipOut d ((List.range (nb d 256 32)).flatMap row)
  else (List.range (nb d 256 32)).foldl (fun s r =>
    (s.memWrite 0 (nb d 128 64 + nb d 288 32 * r) (row r)).zipCount false (2 * nb d 224 19)) s

/-- An FR_DEC job (R549). -/
def State.zipFrDec (s : State) (d : Nat) (codes : List Byte) : State :=
  let n := (codes.length + 4095) / 4096
  let (s, crcs) := s.zipRead (zipCrcAt d) (4 * n)
  let s := s.zipCount true codes.length
  let want := segmentCrcs codes.length codes
  match crcs with
  | none => if tbit d 9 then s.zipEnds ⟨zipMem, 0, 0⟩ s.zip.stream
      else (s.zipRows d codes).zipEnds ⟨zipOk, 2 * nb d 224 19 * nb d 256 32, 0⟩ s.zip.stream
  | some l =>
    match if tbit d 9 then want.zipIdx.find? (fun (p : Nat × Nat) => p.1 != leNat ((l.drop (4 * p.2)).take 4)) else none with
    | some (_, i) => s.zipEnds ⟨zipCrc, i, 0⟩ s.zip.stream
    | none => (s.zipRows d codes).zipEnds ⟨zipOk, 2 * nb d 224 19 * nb d 256 32, 0⟩ s.zip.stream

/-- How many input bytes a job takes (R547, R549). -/
def zipNeeds (d : Nat) : Nat :=
  if nb d 0 4 = 2 ∧ !tbit d 10 then nb d 288 32 * (nb d 256 32 - 1) + 2 * nb d 224 19
  else if nb d 0 4 = 3 ∧ !tbit d 10 then 8 * zipBw d * zipBh d
  else nb d 32 32

/-- A job run on its whole input. -/
def State.zipRun (s : State) (d : Nat) (inp : List Byte) : State :=
  if nb d 0 4 ≤ 1 then s.zipLossless d inp else if nb d 0 4 = 2 then s.zipFrEnc d inp else s.zipFrDec d inp

/-! ### Chunks (R543) -/

/-- A chunk of the host job: up to 2,048 bytes from its source queue, the run once its input is there, or up to 2,048 bytes
to its destination queue (R543, R550). -/
def State.zipChunk (s : State) : State :=
  match s.zip.job with
  | none => s
  | some d =>
    match s.zip.result with
    | none =>
      if tbit d 10 then
        let q := nb d 64 13
        let n := Nat.min (Nat.min 256 ((nb d 32 32 - s.zip.taken) / 8)) (s.q q).words.length
        let (s, l) := s.qPopN q n
        let s := { s with zip := { s.zip with taken := s.zip.taken + 8 * l.length } }
        if l.any (fun w => w.tag != tagValid) then s.zipEnds ⟨zipMem, 0, 0⟩ none
        else
          let inp := s.fifoOf 11 ++ l.flatMap fun w => leBytes 8 w.data.toNat
          let s := s.setFifo 11 inp
          if nb d 32 32 ≤ s.zip.taken then (s.zipRun d inp).setFifo 11 [] else s
      else
        let (s, inp) := s.zipRead (nb d 64 64) (zipNeeds d)
        match inp with
        | none => s.zipEnds ⟨zipMem, 0, 0⟩ none
        | some l => s.zipRun d l
    | some _ =>
      let out := s.fifoOf 12
      let q := nb d 128 13
      let n := Nat.min (Nat.min 256 ((out.length + 7) / 8)) (s.qFree q false)
      let w (i : Nat) : Word64 := BitVec.ofNat 64 (leNat ((out.drop (8 * i)).take 8))
      let s := if s.qEn q then
          ((List.range n).foldl (fun s i => s.qPut q (w i) tagValid false false) s).setFifo 12 (out.drop (8 * n))
        else s
      s

/-- ZIP_CHUNK_GRANT: one round of ZIP's arbiter; the host ring requests while its job runs (R543). -/
def State.zipGrant (s : State) (reqs : List (Fin 3)) : State :=
  let s := s.zipStart
  let l := (reqs.map (·.val)).filter fun r => r != 0 || s.zip.job.isSome
  let (s, served, dead) := s.arbRound 121 l
  let s := if dead then s.bump Pg.ZIP ⟨Rg.ZIP_WAIT_CNT, 16, 16⟩ else s
  match served with
  | none => s.setFld Pg.ZIP Fd.ZIP_STAT_BUSY 0
  | some r =>
    let s := (s.setFld Pg.ZIP Fd.ZIP_STAT_BUSY 1).setFld Pg.ZIP Fd.ZIP_STAT_CUR_REQ r
    if r = 0 then s.zipChunk else s

def execZipChunkGrant (reqs : List (Fin 3)) (s : State) : Host.Outcome State Fault Refusal := .next (s.zipGrant reqs)

/-! ### The end of a job (R546, R548) -/

/-- The counters, flags and log entries of a job's end (Table — ZIP page). -/
def State.zipTally (s : State) (status idx : Nat) : State :=
  let s := s.bump Pg.ZIP ⟨Rg.ZIP_JOB_CNT, 0, 16⟩
  let s := s.wr Pg.ZIP Rg.ZIP_LAST_STATUS (BitVec.ofNat 32 (status + 65536 * (idx % 65536)))
  let s := if status = zipNoGain then s.bump Pg.ZIP ⟨Rg.ZIP_NOGAIN_CNT, 0, 16⟩
    else if status = zipFormat then s.bump Pg.ZIP ⟨Rg.ZIP_ERR_CNT, 0, 8⟩
    else if status = zipAdler then s.bump Pg.ZIP ⟨Rg.ZIP_ERR_CNT, 8, 8⟩
    else if status = zipCrc then s.bump Pg.ZIP ⟨Rg.ZIP_ERR_CNT, 16, 8⟩
    else if status = zipMem then s.bump Pg.ZIP ⟨Rg.ZIP_ERR_CNT, 24, 8⟩ else s
  let s := if status = zipBadDesc ∨ status = zipStream then s.logErr Er.ZIP_DESC Pg.ZIP idx
    else if status = zipMem then s.logErr Er.ZIP_MEM Pg.ZIP 0 idx else s
  if 2 ≤ status then (s.flag Pg.ZIP Fd.ZIP_STAT_ERR_SEEN).irq Pg.ZIP 1 else s

/-- ZIP_JOB_DONE: the result fields are written, then RING_TAIL advances, then DONE (R546). A job whose input or output
still waits on a queue has not ended. -/
def State.zipDone (s : State) : State :=
  let s := s.zipStart
  match s.zip.job with
  | none => s
  | some d =>
    let s := if s.zip.result.isNone && !tbit d 10 then s.zipChunk else s
    match s.zip.result with
    | none => s
    | some r =>
      if !(s.fifoOf 12).isEmpty then s
      else
        let tail := (s.rd Pg.ZIP Rg.ZIP_RING_TAIL).toNat
        let a := s.zipDescAt tail
        let s := s.dramPut (a + 52) (leBytes 4 r.outLen ++ [BitVec.ofNat 8 r.status, 1])
        let s := s.dramPut (a + 60) (leBytes 4 r.check)
        let s := { s with zip := { s.zip with job := none, result := none, taken := 0 } }
        let s := s.wr Pg.ZIP Rg.ZIP_RING_TAIL (BitVec.ofNat 32 (tail + 1))
        let s := s.zipTally r.status (tail % s.zipSize)
        let s := if tbit d 8 then s.irq Pg.ZIP 0 else s
        s.zipStart

def execZipJobDone (s : State) : Host.Outcome State Fault Refusal := .next s.zipDone

/-! ### Requests of the WX16's own blocks -/

/-- A whole compression of one payload, as MRG asks for it: none where it is refused with NO_GAIN (R378, R541). -/
def zipWhole (inp : List Byte) (dyn : Bool) : Option (List Byte) :=
  let out := [0x78, 0x9C] ++ Config.deflateBlocks [] inp dyn true false ++ beBytes 4 (adler32 inp)
  if inp.length ≤ out.length then none else some out

end Sys2Proof.Machine
end

