-- ==== Sys2Proof/Machine/Rules.lean ====
section
/-!
DEFINITION. Rules (R384-R390), actuation (R398-R403), verdicts (R391-R397), crops (R376-R379) and the order in which records leave
(R380, R381).
-/
namespace Sys2Proof.Machine

/-! ### Actuation (R398-R402, R567) -/

/-- A field of an actuation target of a copy's job (Table — Actuation target). -/
def State.target (s : State) (c : Copy) (t lo len : Nat) : Nat := s.jobBits c sectRules (0x4000 + 32 * t) lo len

/-- The channel that a view's lines count from. -/
def State.viewChan (s : State) (v : Nat) : Nat := s.fld Pg.POS (Fd.POS_TG_CTL_SRC v)

/-- UM_PER_CNT of a channel, U16.16. -/
def State.umPerCnt (s : State) (ch : Nat) : Nat :=
  (s.rd Pg.VRD (if ch = 0 then Rg.VRD_UM_PER_CNT0 else Rg.VRD_UM_PER_CNT1)).toNat

/-- REMAIN at the channel's latest count, from the travel count of the reference line (R399). -/
def State.remain (s : State) (ch station : Nat) (travel : Int) : Int :=
  (station : Int) - ((s.chanOf ch).travel - travel) * s.umPerCnt ch / 65536

/-- ACT_LATE: a request that is not fired (R400). -/
def State.actLate (s : State) (target cell rep : Nat) : State :=
  let s := (s.bump Pg.VRD Fd.VRD_ACT_CNT_LATE).flag Pg.VRD Fd.VRD_STAT_ACT_LATE
  (s.logErr Er.ACT_LATE Pg.VRD (target + 65536 * cell) rep).raiseNow evActLate

/-- ACT_STAT follows the pending requests. -/
def State.showActs (s : State) : State := s.setFld Pg.VRD Fd.VRD_ACT_STAT_b0 s.acts.length

/-- The reference line of a record for a target, with the view that it lies in (R399). -/
def State.refLine (s : State) (c : Copy) (r : Rec) (tv : Nat) : Nat × Option Nat :=
  if r.type = recCell then
    match s.cellEntry c r.cellNum with
    | some i => (tv, s.lineAtY tv r.rep ((s.cellF c i 64 40 + s.cellF c i 128 40 + 1) / 2) (s.nextLine tv - 1))
    | none => (tv, none)
  else (r.view, r.ref)

/-- NET_ACTUATION: the ACTUATION record of a request on its session (R375, R402, R567). Its launch is not held; the copies that DATA sessions
take are records of the job, and leave after its JOB_START (R90, R381; log entry 70). -/
def State.netAct (s : State) (c : Copy) (r : Rec) (t : Nat) (remain : Int) : State :=
  let ch := s.viewChan (s.target c t 3 2)
  let at_ := s.timeAt (rawOfCycle (s.chanOf ch).now) / 65536
  let bits := nbSet (r.get 0 64) 0 8 recAct + 2 ^ 64 * r.get 64 104 + 2 ^ 192 * r.get 192 48 + 2 ^ 256 * (at_ % 2 ^ 64) +
    2 ^ 320 * (remain.toNat % 2 ^ 32) + 2 ^ 352 * s.target c t 192 32 + 2 ^ 384 * r.type + 2 ^ 448 * s.target c t 160 8 + 2 ^ 456 * t
  let (s, ok) := s.sendActuation (s.target c t 16 10) bits (at_ + 2000)
  let x := s.res c
  let s := if !ok then s else if x.started then s.sendRecord bits else s.setRes c { x with held := x.held ++ [bits] }
  s.bump Pg.VRD Fd.VRD_ACT_CNT_b0

/-- ACT_REQUEST: a rule asks for actuation of a target for a record (R399, R400, R402); ACT_EN allows it. In HOLD a
request that would be pending is discarded and counted (R403). -/
def State.actRequest (s : State) (c : Copy) (r : Rec) (t : Nat) : State :=
  let f (lo len : Nat) : Nat := s.target c t lo len
  if !s.on Pg.VRD Fd.VRD_CTL_ACT_EN || f 0 1 == 0 then s
  else
    let tv := f 3 2
    let (v, ref) := s.refLine c r tv
    let travel : Option Int := match ref with
      | some n => if n + 16384 < s.nextLine v then none else (s.lineRec v n).map (·.travel)
      | none => none
    match travel with
    | none => s.actLate t r.cellNum r.rep
    | some x =>
      let rem := s.remain (s.viewChan tv) (f 32 32) x
      if rem < 0 then s.actLate t r.cellNum r.rep
      else if f 1 1 = 1 then s.netAct c r t rem
      else if s.mode = .hold then s.bump Pg.VRD Fd.VRD_ACT_CNT_CANCELLED
      else if 1024 ≤ s.acts.length then
        ((s.bump Pg.VRD Fd.VRD_ACT_OVF_b0).flag Pg.VRD Fd.VRD_STAT_ACT_OVERFLOW).logErr Er.ACT_OVERFLOW Pg.VRD t
      else
        let q : ActReq := ⟨t, tv, f 5 5, f 32 32, f 64 32, f 96 32, f 128 32, x, r.cellNum, r.rep⟩
        { s with acts := s.acts ++ [q] }.showActs

/-- A pending request armed at the latest count of its channel: its pulse goes into the calendar (R400), unless the pin's guard does not
permit RULE (R454). -/
def State.arm (s : State) (q : ActReq) (rem : Int) : State :=
  let ch := s.viewChan q.view
  let s := { s with acts := s.acts.erase q }.showActs
  if rem < 0 then s.actLate q.target q.cell q.rep
  else if !s.mayPulse 5 q.pulse then s.flag Pg.CRL Fd.CRL_STAT_GUARD_REFUSED
  else
    let tc : Int := s.timeAt (rawOfCycle (s.chanOf ch).now) / 65536
    let v := (s.rd Pg.POS (Rg.POS_CH_SPEED ch)).toNat * s.umPerCnt ch / 65536
    let t := tc + rdiv (10 ^ 9 * rem) v - q.lead
    let (s, ok) := s.calInsert (if t < tc + 2000 then tc + 2000 else t).toNat 1 q.pulse q.width 0 0
    if ok then s.bump Pg.VRD Fd.VRD_ACT_CNT_b0 else s

/-- ACT_ARM: a count of a channel arms the requests that have come within ARM_DIST, in order of REMAIN (R400). -/
def State.armAll (s : State) (ch : Nat) : State :=
  let speed := (s.rd Pg.POS (Rg.POS_CH_SPEED ch)).toNat * s.umPerCnt ch / 65536
  if !s.on Pg.POS (Fd.POS_CH_STAT_MOVING ch) || speed == 0 then s
  else
    let due := s.acts.filterMap fun q =>
      let rem := s.remain ch q.station q.travel
      if s.viewChan q.view = ch ∧ rem ≤ (q.arm : Int) then some (q, rem) else none
    let due := sortBy (fun (e : ActReq × Int) => (e.2 + 2 ^ 64).toNat) due
    due.foldl (fun (s : State) (e : ActReq × Int) => s.arm e.1 e.2) s

/-- ENC_COUNT: a count of a channel (R99), with the requests it arms (R400); none while POS is disabled (DESIGN CHOICE, log entry 75). -/
def execEncCount (ch : Fin 2) (step : EncStep) (sample : Nat) (s : State) : Host.Outcome State Fault Refusal :=
  .next (
    if s.mode = .boot ∨ !s.on Pg.POS Fd.HDR_PAGE_CTL_EN then s.atCycle sample
    else
      let t := s.encStep ch sample step
      if (t.chanOf ch).travel = (s.chanOf ch).travel then t else t.armAll ch)

/-! ### Rules (R385-R389) -/

/-- A field of a rule of a copy's job (Table — Rule entry). -/
def State.ruleF (s : State) (c : Copy) (i lo len : Nat) : Nat := s.jobBits c sectRules (64 * i) lo len

/-- The record types that define a field (Table — Rule fields). -/
def fieldTypes (f : Nat) : List Nat :=
  if f = 0 ∨ f = 1 ∨ f = 6 ∨ f = 7 then [recDefect, recCoarse, recStorm, recPresence, recCell]
  else if f = 2 ∨ f = 8 ∨ f = 11 then [recDefect, recCoarse, recPresence, recCell]
  else if f = 3 ∨ f = 4 then [recDefect, recCoarse, recStorm, recPresence]
  else if f = 9 then [recDefect, recCoarse, recStorm, recPresence, recCell]
  else if f = 5 ∨ f = 13 ∨ f = 14 ∨ f = 16 ∨ f = 17 then [recDefect, recCoarse]
  else if f = 19 ∨ f = 20 then [recCell]
  else if f = 21 then [recPresence]
  else [recDefect]

/-- A field of a record as rules see it (Table — Rule fields): 0 where its type does not define it. -/
def Rec.field (r : Rec) (f : Nat) : Int :=
  let g (lo len : Nat) : Int := r.get lo len
  if !(fieldTypes f).contains r.type then 0
  else match f with
    | 0 => g 0 8 | 1 => g 14 2 | 2 => g 32 16 | 3 => g 16 6 | 4 => g 22 4 | 5 => g 26 2 | 6 => g 48 16 | 7 => g 64 32
    | 8 => r.x | 9 => g 128 40 | 10 => g 168 13 | 11 => g 192 48 | 12 => g 240 16 | 13 => g 384 32 | 14 => g 416 12
    | 15 => g 432 16 | 16 => g 339 19 - g 320 19 + 1 | 17 => g 358 12 + g 370 12 + 1 | 18 => g 480 32 | 19 => g 168 2
    | 20 => g 170 6 | 21 => g 464 2 | _ => 0

/-- Whether a condition holds (Table — Rule operators): X is compared signed, in 48-bit two's complement. -/
def condHolds (f op low high : Nat) (v : Int) : Bool :=
  let lo : Int := if f = 8 then sext 48 low else low
  let hi : Int := if f = 8 then sext 48 high else high
  let b := toTwos 48 v
  match op with
  | 0 => true
  | 1 => decide (lo ≤ v) && decide (v ≤ hi)
  | 2 => decide (v < lo) || decide (hi < v)
  | 3 => (b &&& low) != 0
  | 4 => (b &&& low) == low
  | 5 => (b &&& low) == 0
  | _ => false

/-- Whether a rule matches a record. -/
def State.ruleMatch (s : State) (c : Copy) (i : Nat) (r : Rec) : Bool :=
  (List.range 3).all fun k =>
    let f := s.ruleF c i (128 * k) 6
    condHolds f (s.ruleF c i (128 * k + 8) 3) (s.ruleF c i (128 * k + 16) 48) (s.ruleF c i (128 * k + 64) 48) (r.field f)

/-- The enabled rules of a copy's job, in order. -/
def State.rulesOn (s : State) (c : Copy) : List Nat := (List.range 256).filter fun i => s.ruleF c i 384 1 == 1

/-- The tolerance scales that a record's ADAPT steps: views and cell map entry (R389). -/
def State.adaptViews (s : State) (c : Copy) (r : Rec) : List (Nat × Nat) :=
  match s.cellEntry c r.cellNum with
  | none => []
  | some i => if r.type = recCell then (bitsOf 4 (s.cellF c i 208 4)).map fun v => (v, i) else [(r.view, i)]

/-- The actions of a matching rule, in the order of Table — Rule entry; `done` are the targets already asked for. -/
def State.ruleActs (s : State) (c : Copy) (i : Nat) (r : Rec) (done : List Nat) : State × Rec × List Nat :=
  let f (lo len : Nat) : Nat := s.ruleF c i lo len
  let on (k : Nat) : Bool := f k 1 == 1
  let cell := r.type == recCell
  let hits := tabGet (dflt 0) s.hits i
  let s := { s with hits := tabPut (dflt 0) i (satN 32 (hits + 1)) s.hits }
  let r := if r.type = recDefect ∨ cell then r.put 181 9 (i + 1) else r
  let r := if on 386 && !cell then { r with supp := true } else r
  let r := if on 387 && !cell then r.put 16 6 (f 388 6) else r
  let r := if on 394 && !cell then r.put 22 4 (f 395 4) else r
  let s := if on 400 then s.bump Pg.RUL (whole (Rg.RUL_CNT (f 401 4))) else s
  let s := if on 405 then
      (s.raiseLine (evRule (f 406 4)) r.view r.key (s.lineTime r.view r.key)).bump Pg.RUL (whole Rg.RUL_EV_CNT)
    else s
  let t := f 411 4
  let r := if on 410 then r.setFlag rfActReq else r
  let s := if on 410 && !done.contains t then s.actRequest c r t else s
  let done := if on 410 then t :: done else done
  let s := if on 416 then
      let steps := (s.adaptViews c r).map fun (e : Nat × Nat) =>
        (⟨e.1, e.2, r.rep, sext 8 (f 417 8), f 425 8, f 433 8⟩ : ScaleStep)
      s.setRes c { s.res c with steps := (s.res c).steps ++ steps }
    else s
  (s, r, done)

/-- The enabled rules tested in turn; a matching rule with STOP ends the evaluation (R387). -/
def State.runRules (s : State) (c : Copy) : List Nat → Rec → List Nat → State × Rec
  | [], r, _ => (s, r)
  | i :: t, r, done =>
    if s.ruleMatch c i r then
      let (s, r, done) := s.ruleActs c i r done
      if s.ruleF c i 385 1 = 1 then (s, r) else s.runRules c t r done
    else s.runRules c t r done

/-- A record evaluated: OVERFLOW records and records of a job whose RUL is off pass unchanged (R387, R405). -/
def State.evalRules (s : State) (c : Copy) (r : Rec) : State × Rec :=
  if r.type = recOverflow ∨ wf (s.jobRd c Pg.RUL Rg.RUL_CTL) 0 1 = 0 ∨ !s.on Pg.RUL Fd.HDR_PAGE_CTL_EN then (s, r)
  else
    let (s, r) := s.runRules c (s.rulesOn c) r []
    let s := s.bump Pg.RUL (whole Rg.RUL_EVAL_CNT)
    (if r.supp then s.bump Pg.RUL (whole Rg.RUL_SUPP_CNT) else s, r)

/-! ### What VRD keeps of a job (R392-R396) -/

/-- A repeat on its way, a cell on its way. -/
def Results.rep (x : Results) (n : Nat) : RepSt := (x.reps.find? (·.rep == n)).getD { rep := n }
def Results.putRep (x : Results) (y : RepSt) : Results :=
  { x with reps := insertBy (·.rep) y (x.reps.filter fun z => z.rep != y.rep) }
def Results.cell (x : Results) (i n : Nat) : CellSt := (x.cells.find? fun z => z.cell == i && z.rep == n).getD { cell := i, rep := n }
def Results.putCell (x : Results) (y : CellSt) : Results :=
  { x with cells := insertBy (fun z => z.rep * 4096 + z.cell) y (x.cells.filter fun z => !(z.cell == y.cell && z.rep == y.rep)) }

/-- The reason of a record's type (R393). -/
def recReason (type : Nat) : Nat := if type = recPresence then 2 else if type = recCoarse then 3 else 1

/-- Whether a record counts towards verdicts (R392). -/
def Rec.counts (r : Rec) : Bool :=
  !r.supp && (r.type == recDefect || (r.type == recPresence && r.get 464 2 == 2) || (r.type == recCoarse && r.flag rfCpath))

/-- A counted record added to its cell and its repeat. -/
def State.countRec (s : State) (c : Copy) (num rep : Nat) (x : Int) (k : Counted) : State :=
  let r := s.res c
  let y := r.rep rep
  let r := r.putRep { y with recs := y.recs ++ [(k, x)], free := if num = 0xFFFF then y.free ++ [k] else y.free }
  let r := match s.cellEntry c num with
    | some i => if num = 0xFFFF then r else r.putCell { r.cell i rep with recs := (r.cell i rep).recs ++ [k] }
    | none => r
  s.setRes c r

/-- What VRD notes of an evaluated record (R388, R392, R393). -/
def State.noteRec (s : State) (c : Copy) (r : Rec) : State :=
  let s := if r.supp then
      let y := (s.res c).rep r.rep
      s.setRes c ((s.res c).putRep { y with supp := y.supp + 1 })
    else s
  let s := if r.counts then s.countRec c r.cellNum r.rep r.x ⟨r.sev, recReason r.type, r.cls⟩ else s
  if r.type = recPresence ∧ r.get 464 2 = 3 ∧ !r.supp then
    match s.cellEntry c r.cellNum with
    | some i => s.setRes c ((s.res c).putCell { (s.res c).cell i r.rep with presU := true })
    | none => s
  else s

/-- The initial SEVERITY of a record (Table — VRD.SEV_CTL). -/
def State.initSev (s : State) (c : Copy) (r : Rec) : Rec :=
  if r.type = recDefect ∨ r.type = recPresence then r.put 22 4 (s.vrdFld c r.rep Fd.VRD_SEV_CTL_DEF_SEV)
  else if r.type = recCoarse then r.put 22 4 (s.vrdFld c r.rep Fd.VRD_SEV_CTL_DEF_SEV_COARSE)
  else r

/-- The crop of an evaluated DEFECT record: the first PER_BAND records of a view and band keep theirs (R377). -/
def State.keepCrop (s : State) (c : Copy) (r : Rec) : State × Rec :=
  if r.type ≠ recDefect ∨ r.supp then (s, { r with crop := none })
  else
    let y := s.vres c r.view
    let n := if y.kept.1 = r.band + 1 then y.kept.2 else 0
    let s := s.setVres c r.view { y with kept := (r.band + 1, n + 1) }
    if r.crop.isSome && decide (n < s.jobFld c Pg.MRG Fd.MRG_CROP_CTL_PER_BAND) then (s, r)
    else (s.bump Pg.MRG Fd.MRG_CROP_CNT_NO_CROP, { r with crop := none }.setFlag rfNoCrop)

/-- A record evaluated and handed on (R387, R388, R392). -/
def State.evalRec (s : State) (c : Copy) (r : Rec) : State :=
  let s := if r.type = recCoarse then s.bump Pg.MRG Fd.MRG_ITEM_CNT_b0 else s
  let (s, r) := s.evalRules c (s.initSev c r)
  let s := s.noteRec c r
  let (s, r) := s.keepCrop c r
  if r.supp then s else s.setRes c { s.res c with out := (s.res c).out ++ [r] }

/-! ### Items that are no records -/

/-- The engines whose summaries a cell awaits (R395). -/
def State.cellEngines (s : State) (c : Copy) (i : Nat) : Nat :=
  sumN (((bitsOf 4 (s.cellF c i 208 4)).filter fun v => s.enables c v).map fun v => (s.enginesOf c v).length)

/-- An engine's summary of a cell (R363, R392, R393). -/
def State.takeSummary (s : State) (c : Copy) (view key : Nat) (prov : Bool) (last : Nat) (a : CellAcc) : State :=
  let r := s.res c
  let y := r.cell a.cell a.rep
  let y := { y with
    sums := y.sums + 1
    cnt := (List.range 7).map fun k => nth 0 y.cnt k + nth 0 a.cnt k
    learn := y.learn && (prov || nth 0 a.cnt 4 == 0)
    view := view, key := key, last := last }
  let r := r.putCell y
  s.setRes c (if y.sums = s.cellEngines c a.cell then { r with ready := r.ready ++ [(a.cell, a.rep)] } else r)

/-- The values of VRD that hold from a repeat on (R404). -/
def State.vrdVals (s : State) (c : Copy) : List Word :=
  [Rg.VRD_SEV_CTL, Rg.VRD_UNINSP_CTL, Rg.VRD_LANE_X0, Rg.VRD_LANE_W].map fun o => s.jobRd c Pg.VRD o

/-- The start of a repeat in the lowest view reached in output order: commits of MRG, RUL and VRD (R404) and session entries
(R558). -/
def State.takeMark (s : State) (c : Copy) (view line rep : Nat) : State :=
  let old := s.vrdVals c
  let s := if c = .active then [Pg.MRG, Pg.RUL, Pg.VRD].foldl (fun (s : State) p => s.boundary p view line rep false) s else s
  let new := s.vrdVals c
  let r := s.res c
  let s := if new = old then s
    else s.setRes c { r with vals := (rep, new) :: (if r.vals.isEmpty then [(0, old)] else r.vals) }
  let x := (s.res c).rep rep
  let s := s.setRes c ((s.res c).putRep { x with start := (s.yOf view line, s.lineTime view line) })
  s.markApplies (s.jobId c) ((s.res c).sent + (s.res c).out.length) view line

/-- The views of a copy's job. -/
def State.jobViews (s : State) (c : Copy) : List Nat := (List.range 4).filter fun v => s.enables c v

/-- The end of a repeat in a view (R396). -/
def State.takeRepEnd (s : State) (c : Copy) (view line rep : Nat) : State :=
  let r := s.res c
  let y := r.rep rep
  let y := { y with ended := if y.ended.contains view then y.ended else y.ended ++ [view], view := view, key := line }
  let r := r.putRep y
  s.setRes c (if rep ≠ 0 ∧ (s.jobViews c).all y.ended.contains ∧ !r.whole.contains rep then
    { r with whole := insertBy id rep r.whole } else r)

/-- An item that is no record taken by VRD. -/
def State.takeItem (s : State) (c : Copy) : Item → State
  | .record _ => s
  | .excess cell rep x => s.countRec c cell rep x ⟨s.vrdFld c rep Fd.VRD_SEV_CTL_DEF_SEV, 1, 0⟩
  | .summary view key prov last a => s.takeSummary c view key prov last a
  | .mark view line rep => s.takeMark c view line rep
  | .repEnd view line rep => s.takeRepEnd c view line rep
  | .poison cell rep => s.setRes c ((s.res c).putCell { (s.res c).cell cell rep with pois := true })

/-! ### The end of a job (R66, R70, R87, R90, R92) -/

/-- Whether a view's part of a copy's job is over. -/
def State.viewOver (s : State) (c : Copy) (v : Nat) : Bool :=
  s.mode == .hold || (match c with
    | .active => if s.mode == .changeover then (s.view_ v).past else (s.view_ v).ended
    | .next => false)

/-- Whether every item of a copy's job has been taken and no more can come. -/
def State.drained (s : State) (c : Copy) : Bool :=
  (s.res c).front.isEmpty && (s.res c).ready.isEmpty && (s.res c).whole.isEmpty && (s.jobViews c).all fun v =>
    let y := s.vres c v
    s.viewOver c v && y.alarms.isEmpty && y.items.isEmpty && y.bands.isEmpty && (s.frontier c v).isNone

/-- The reason of a job's end (R375). -/
def State.endReason (s : State) (c : Copy) : Nat := (s.res c).ending.getD (if s.mode = .changeover then 8 else 9)

/-- A CELL_VERDICT record (R375, R391-R394); `cut` is the reason of a cell that has been cut. -/
def State.cellRec (s : State) (c : Copy) (y : CellSt) (cut : Option Nat) : Rec × Nat :=
  let f (lo len : Nat) : Nat := s.cellF c y.cell lo len
  let marg := s.vrdFld c y.rep Fd.VRD_SEV_CTL_SEV_MARG
  let fail := Nat.max marg (s.vrdFld c y.rep Fd.VRD_SEV_CTL_SEV_FAIL)
  let comp := nth 0 y.cnt 0
  let u := sumN ((List.range 5).map fun k => nth 0 y.cnt (k + 1))
  let top := maxN ((List.range 5).map fun k => nth 0 y.cnt (k + 1))
  let cls := ((List.range 5).find? fun k => nth 0 y.cnt (k + 1) == top).getD 0 + 1
  let classReason := if cls = 1 then 13 else if cls = 2 then 14 else if cls = 3 then 15
    else if cls = 5 then 16 else if y.learn then 11 else 12
  let firstOf (t : Nat) : Option Nat := (y.recs.find? fun k => decide (t ≤ k.sev)).map (·.reason)
  let permil := s.vrdFld c y.rep Fd.VRD_UNINSP_CTL_UNINSP_PERMIL
  let (vd, reason) := match cut with
    | some r => (3, r)
    | none => match firstOf fail with
      | some r => (2, r)
      | none =>
        if y.pois then (3, 13)
        else if y.presU then (3, 17)
        else if permil * (comp + u) < 1000 * u then (3, classReason)
        else match firstOf marg with
          | some r => (1, r)
          | none => if comp + u = 0 then (0, 6) else if 0 < u then (0, 5) else (0, 0)
  let worst := maxN (y.recs.map (·.sev))
  let wcls := ((y.recs.find? fun k => k.sev == worst).map (·.cls)).getD 0
  let mask := f 208 4
  let low := ((List.range 4).find? fun v => tbit mask v).getD 0
  let x := sext 32 (f 0 32)
  let y0 := f 64 40
  let masked := nth 0 y.cnt 6
  let fails := (y.recs.filter fun k => decide (fail ≤ k.sev)).length
  let margs := (y.recs.filter fun k => decide (marg ≤ k.sev) && decide (k.sev < fail)).length
  let flags := (if cut = some 10 then 2 ^ rfTrunc else 0) +
    satFlag [(16, y.recs.length), (32, comp), (32, u), (32, masked), (16, fails), (16, margs)]
  let time := match cut with | some _ => Config.freeNat s.free | none => s.lineTime y.view y.last
  let scale := s.scaleAt c low y.rep (some y.cell)
  let bits := mkBits (recHead recCell (s.jobId c) low 0 (f 192 12) flags y.rep x y0 (webDistance y.rep (s.repeatLen c) y0) ++
    [(16, 6, wcls), (22, 4, worst), (168, 2, vd), (170, 6, reason), (240, 16, satN 16 y.recs.length), (256, 64, time), (320, 32, satN 32 comp),
     (352, 32, satN 32 u), (384, 32, satN 32 masked), (416, 16, satN 16 fails), (432, 16, satN 16 margs), (448, 4, mask), (456, 8, scale)])
  ({ bits := bits, view := y.view, key := y.key }, vd)

/-- A cell's verdict formed: it goes to RUL, and into its repeat's verdict (R395, R396). -/
def State.cellVerdict (s : State) (c : Copy) (cell rep : Nat) (cut : Option Nat) : State :=
  let y := (s.res c).cell cell rep
  let (r, vd) := s.cellRec c y cut
  let s := if cut.isSome then s.drawn else s
  let z := (s.res c).rep rep
  let x := (s.res c).putRep { z with cells := z.cells ++ [(s.cellF c cell 192 12, vd, r.get 170 6)] }
  let s := s.setRes c { x with
    cells := x.cells.filter fun q => !(q.cell == cell && q.rep == rep)
    front := x.front ++ [r] }
  let f : Fld := if vd = 0 then ⟨Rg.VRD_VCNT0, 0, 16⟩ else if vd = 1 then ⟨Rg.VRD_VCNT0, 16, 16⟩ else if vd = 2 then ⟨Rg.VRD_VCNT1, 0, 16⟩
    else ⟨Rg.VRD_VCNT1, 16, 16⟩
  let s := s.bump Pg.VRD f
  if vd = 2 then s.raiseLine evCellFail r.view r.key (s.lineTime r.view r.key) else s

/-- The cells of a copy's job that its end cuts: enabled cells without a verdict of repeats that a view of theirs has reached. -/
def State.cutCells (s : State) (c : Copy) : List (Nat × Nat) :=
  let r := s.res c
  let reach (v : Nat) : Nat := if s.enables c v then (s.vres c v).reach else 0
  let top := maxN ((s.jobViews c).map reach)
  (List.range (top - r.lastRep)).flatMap fun k =>
    let rep := r.lastRep + 1 + k
    let z := r.rep rep
    ((s.cellsOn c).filter fun i => (List.range 4).any (fun v => tbit (s.cellF c i 208 4) v && decide (rep ≤ reach v)) &&
      !z.cells.any fun e => e.1 == s.cellF c i 192 12).map fun i => (i, rep)

/-- The first line that is not of a copy's job in its lowest view (R375). -/
def State.endLine (s : State) (c : Copy) : Nat :=
  let v := s.lowView c
  let x := s.view_ v
  if s.mode = .changeover then x.chg.getD (s.nextLine v) else x.endAt.getD (s.nextLine v)

/-- A JOB_END record (R375); the capture time of a line that is never captured is free. -/
def State.endRec (s : State) (c : Copy) : Rec :=
  let r := s.res c
  let v := s.lowView c
  let n := s.endLine c
  let reason := s.endReason c
  let tag := match s.jobOf c with | some j => j.tag | none => 0
  let time := match s.lineRec v n with | some x => x.time | none => Config.freeNat s.free
  { bits := mkBits [(0, 8, recEnd), (8, 6, s.jobId c), 
      (48, 16, (if reason = 10 then 2 ^ rfTrunc else 0) + satFlag [(32, r.sent + r.out.length)]), (64, 32, r.lastRep), (96, 32, tag),
      (170, 6, reason), (256, 64, time), (384, 32, satN 32 (r.sent + r.out.length))]
    view := v, key := n }

/-- A drained job: the verdicts of its cut cells are formed, and once RUL has passed them its end record. -/
def State.finishJob (s : State) (c : Copy) : State :=
  let r := s.res c
  if r.ended then s
  else if !r.cutDone then
    let s := (s.cutCells c).foldl (fun (s : State) (e : Nat × Nat) => s.cellVerdict c e.1 e.2 (some (s.endReason c))) s
    s.setRes c { s.res c with cutDone := true }
  else s.drawn.setRes c { r with out := r.out ++ [s.endRec c], ended := true, reps := [], cells := [] }

/-! ### RULE_EVALUATE (R387) -/


/-- An item of a key line reaches RUL and VRD: commits of theirs whose boundary has come (R15). -/
def State.rulStage (s : State) (c : Copy) (v key : Nat) : State :=
  if c != .active then s
  else [Pg.RUL, Pg.VRD].foldl (fun (s : State) p =>
    { s.applyParts p (fun b => match b with | .line w m => w == v && decide (m ≤ key) | _ => false) (some key) with
      entered := tabPut (dflt 0) (4 * p + v) (key + 1) s.entered }) s

/-- Items taken in the order of R380 up to the next record, which is evaluated; cells and repeats that await their verdicts go
first. -/
def State.evalNext (s : State) (c : Copy) : Nat → State
  | 0 => s
  | k + 1 =>
    match (s.res c).front with
    | r :: t => (s.setRes c { s.res c with front := t }).evalRec c r
    | [] =>
      if !(s.res c).ready.isEmpty || !(s.res c).whole.isEmpty then s
      else match s.nextItem c with
        | some (v, key, _, .record r) => ((s.dropItem c v).rulStage c v key).evalRec c r
        | some (v, key, _, i) => (((s.dropItem c v).rulStage c v key).takeItem c i).evalNext c k
        | none => if s.drained c then s.finishJob c else s

/-- Whether RUL has something to take of a job: a cell verdict, an item, or the job's end. -/
def State.canEval (s : State) (c : Copy) : Bool :=
  let r := s.res c
  !r.front.isEmpty || (r.ready.isEmpty && r.whole.isEmpty && ((s.nextItem c).isSome || (s.drained c && !r.ended)))

/-- The job that RUL takes its next record from: the active one while it has something, else the next, whose records are evaluated though
they are sent only after the active job's end record (R90). -/
def State.rulCopy (s : State) : Copy := if s.jobN.isSome && !s.canEval .active then .next else .active

/-- The job that VRD takes its next cell or repeat from: the active one while it has one that awaits its verdict (R90). -/
def State.vrdCopy (s : State) (has : Results → Bool) : Copy := if s.jobN.isSome && !has s.resA then .next else .active

/-- The number of items that a job's views hold. -/
def State.itemCount (s : State) (c : Copy) : Nat := sumN ((List.range 4).map fun v => (s.vres c v).items.length)

def State.ruleEvaluate (s : State) : State :=
  let c := s.rulCopy
  if (s.jobOf c).isNone || (c == .next && s.mode == .hold && s.resN.ending.isNone) then s else s.evalNext c (s.itemCount c + 1)

/-- RULE_EVALUATE. -/
def execRuleEvaluate (s : State) : Host.Outcome State Fault Refusal := .next s.ruleEvaluate

/-! ### CELL_VERDICT and REPEAT_VERDICT -/

/-- The block that decides verdicts runs. -/
def State.vrdOn (s : State) : Bool := s.blockOn Pg.VRD Fd.VRD_CTL_EN

/-- CELL_VERDICT: the first cell whose summaries and counted records are all in (R395). -/
def State.cellVerdictNext (s : State) : State :=
  let c := s.vrdCopy fun r => !r.ready.isEmpty
  match (s.res c).ready with
  | [] => s
  | (i, rep) :: t => if s.vrdOn then (s.setRes c { s.res c with ready := t }).cellVerdict c i rep none else s

def execCellVerdict (s : State) : Host.Outcome State Fault Refusal := .next s.cellVerdictNext

/-- A REPEAT_VERDICT record (R375, R396). -/
def State.repRec (s : State) (c : Copy) (y : RepSt) : Rec :=
  let v := s.lowView c
  let marg := s.vrdFld c y.rep Fd.VRD_SEV_CTL_SEV_MARG
  let fail := Nat.max marg (s.vrdFld c y.rep Fd.VRD_SEV_CTL_SEV_FAIL)
  let cells := sortBy (·.1) y.cells
  let count (vd : Nat) : Nat := (cells.filter fun e => e.2.1 == vd).length
  let free := y.free.filterMap fun k => if fail ≤ k.sev then some (2, k.reason) else if marg ≤ k.sev then some (1, k.reason) else none
  let all := cells.map (·.2) ++ free
  let has (vd : Nat) : Bool := all.any fun e => e.1 == vd
  let vd := if has 2 then 2 else if has 3 then 3 else if has 1 then 1 else 0
  let reason := ((all.find? fun e => e.1 == vd).map (·.2)).getD 0
  let x0 := sext 32 (s.vrdVal c y.rep Rg.VRD_LANE_X0).toNat
  let w := Nat.max 1 (s.vrdVal c y.rep Rg.VRD_LANE_W).toNat
  let lanes := (y.recs.filter fun e => decide (fail ≤ e.1.sev)).foldl (fun (m : Nat) (e : Counted × Int) =>
    m ||| 2 ^ (clampI 0 63 ((e.2 - x0) / (w : Int))).toNat) 0
  let worst := maxN (y.recs.map (·.1.sev))
  let wcls := ((y.recs.find? fun e => e.1.sev == worst).map (·.1.cls)).getD 0
  let (y0, time) := y.start
  { bits := mkBits [(0, 8, recRepeat), (8, 6, s.jobId c), (14, 2, v), (16, 6, wcls), (22, 4, worst), (32, 16, 0xFFFF),
      (48, 16, satFlag [(32, y.recs.length), (32, y.supp)]), (64, 32, y.rep), (168, 2, vd), (170, 6, reason), (192, 48, webDistance y.rep (s.repeatLen c) y0), (256, 64, time), (320, 16, count 0), (336, 16, count 1),
      (352, 16, count 2), (368, 16, count 3), (384, 32, satN 32 y.recs.length), (416, 32, satN 32 y.supp), (448, 64, lanes)]
    view := y.view, key := y.key }

/-- A repeat's record in the roll-map ring (R397). -/
def State.rollMap (s : State) (bits : Nat) : State :=
  let size := Nat.max 1 (s.rd Pg.VRD Rg.VRD_RING_SIZE).toNat
  let n := (s.rd Pg.VRD Rg.VRD_RING_WR).toNat
  let s := s.dramPut (s.rd64 Pg.VRD Rg.VRD_RING_BASE_LO Rg.VRD_RING_BASE_HI + 64 * (n % size)) (leBytes 64 bits)
  let s := if size ≤ n then s.flag Pg.VRD Fd.VRD_STAT_RING_WRAP else s
  s.wr Pg.VRD Rg.VRD_RING_WR (BitVec.ofNat 32 (n + 1))

/-- The decision of R329 for a view: a defect-free repeat that is not frozen counts, and every K-th is folded if it was captured while the
view adapted (R328). A verdict of a job that the view has left decides nothing, nor one that comes too late for its flip, as it can where
MRG or VRD was off (R308; log entry 68). -/
def State.defectFree (s : State) (c : Copy) (y : RepSt) (v : Nat) : State :=
  let x := s.mstV v
  let mine := (s.cellsOf c v).map fun i => s.cellF c i 192 12
  let pass := mine.all fun n => y.cells.any fun e => e.1 == n && e.2.1 == 0
  if s.mstCopy v ≠ c then s
  else if !pass || x.badRep.contains y.rep || x.frozenRep.contains y.rep then s.putMst v { x with judged := y.rep }
  else
    let good := x.good + 1
    let k := s.mstF c Fd.MST_ADAPT_CTL_K
    let n := (s.sti v).next - 1
    let x := { x with good := good, judged := y.rep }
    let fold := good % k == 0 && x.capRep.contains y.rep && decide (s.repOf v n < y.rep + 2)
    s.putMst v (if fold then
      { x with flips := x.flips ++ [{ rep := y.rep + 2, kind := .fold, slots := [y.rep % 3], first := y.rep }] } else x)

/-- REPEAT_VERDICT: the first repeat that every view has ended, once none of its records waits to be sent (R396, R397). -/
def State.repeatVerdict (s : State) : State :=
  let c := s.vrdCopy fun r => !r.whole.isEmpty
  let r := s.res c
  match r.whole with
  | [] => s
  | n :: t =>
    if !s.vrdOn || !r.front.isEmpty || !r.ready.isEmpty || r.out.any (fun q => q.rep == n && q.type != recStart) then s
    else
      let y := r.rep n
      let q := s.repRec c y
      let s := s.setRes c { r with
        whole := t, reps := r.reps.filter fun z => z.rep != n, lastRep := n, out := r.out ++ [q] }
      let s := (s.rollMap q.bits).wr Pg.VRD Rg.VRD_LAST_REPEAT (BitVec.ofNat 32 n)
      let s := if c = .active then s.runRecord else s
      let s := s.raiseLine evRepeatDone y.view y.key (s.lineTime y.view y.key)
      (s.jobViews c).foldl (fun (s : State) v => s.defectFree c y v) s

def execRepeatVerdict (s : State) : Host.Outcome State Fault Refusal := .next s.repeatVerdict

/-! ### CSCALE_STEP (R389) -/

/-- The tolerance scales of a view's next repeat settled: steps of the records of the repeat two before apply in record order. -/
def State.settleScale (s : State) (c : Copy) (v : Nat) : State :=
  let y := s.vres c v
  let last := match y.scales with | e :: _ => e.1 | [] => 2
  let rep := last + 1
  let r := s.res c
  if r.lastRep + 2 < rep then s
  else
    let init := s.scaleInit c
    let r := { r with init := some init }
    let old := match y.scales with | e :: _ => e.2 | [] => []
    let mine := r.steps.filter fun e => e.view == v && e.rep + 2 == rep
    let new := mine.foldl (fun (t : Tab Nat) (e : ScaleStep) =>
      let x : Int := tabGet (dflt init) t e.cell + e.step
      let x := if x < (e.lo : Int) then (e.lo : Int) else x
      tabPut (dflt init) e.cell (if (e.hi : Int) < x then (e.hi : Int) else x).toNat t) old
    let s := (s.setRes c { r with steps := r.steps.filter fun e => !(e.view == v && e.rep + 2 == rep) })
    (s.setVres c v { s.vres c v with scales := ((rep, new) :: (s.vres c v).scales).take 4 }).bumpBy Pg.RUL (whole Rg.RUL_ADAPT_CNT) mine.length

/-- CSCALE_STEP of view `v`: in the active job while it has a repeat to settle, else in the next. -/
def execCscaleStep (v : Fin 4) (s : State) : Host.Outcome State Fault Refusal :=
  let t := if s.enables .active v then s.settleScale .active v else s
  .next (if t = s then (if s.enables .next v && s.mode == .changeover then s.settleScale .next v else s) else t)

/-! ### CROP_STORE (R376-R379) -/

/-- The samples of a crop on its line `i` and a plane, two bytes each; a sample that is missing, or on a line that the view never had, is
free. -/
def State.cropRow (s : State) (k : Crop) (i : Nat) (line : Option Nat) (p : Nat) : List Byte :=
  let l := match line with | some n => s.vline k.view n | none => none
  (List.range 64).flatMap fun (j : Nat) =>
    let col : Int := (k.seed.2 : Int) - 32 + j
    let free := Config.freeNat (s.free + (4 * i + p) * 64 + j) % 4096
    let v := if col < k.stripe.1 ∨ (k.stripe.2 : Int) < col then 0
      else match l with
        | some x => match (nth [] x.planes p)[col.toNat]? with
          | some (.val y) => y
          | some _ => free
          | none => 0
        | none => free
    leBytes 2 v

/-- Whether a view has delivered a line, or never will. -/
def State.lineDone (s : State) (v n : Nat) : Bool := decide (n < (s.sti v).next) || (!(s.tgOf v).running && decide (s.nextLine v ≤ n))

/-- The payload of a crop. -/
def State.cropBytes (s : State) (k : Crop) : List Byte :=
  (List.range 64).flatMap fun i =>
    let line : Option Nat := if k.seed.1 + i < 16 then none else some (k.seed.1 + i - 16)
    (List.range k.planes).flatMap fun p => s.cropRow k i line p

/-- A crop stored under the next reference: the record's reference is written, and it waits no more (R378). -/
def State.storeCrop (s : State) (c : Copy) (i : Nat) (r : Rec) (k : Crop) : State :=
  let ref := (s.rd Pg.MRG Rg.MRG_CROP_NEXT).toNat
  let slots := Nat.max 1 (s.rd Pg.MRG Rg.MRG_CROP_SLOTS).toNat
  let raw := s.cropBytes k
  let packed := zipWhole raw (s.on Pg.ZIP Fd.ZIP_CTL_CROP_DYN)
  let data := packed.getD raw
  let first : Int := (k.seed.2 : Int) - 32
  let mask := sumN ((List.range 64).map fun (j : Nat) =>
    if (k.stripe.1 : Int) ≤ first + j ∧ first + j ≤ (k.stripe.2 : Int) then 2 ^ j else 0)
  let head := mkBits [(0, 32, ref), (32, 2, k.view), (34, 2, k.planes), (36, 20, toTwos 20 first), (64, 48, toTwos 48 ((k.seed.1 : Int) - 16)),
    (112, 16, data.length), (128, 1, b2n packed.isNone), (192, 64, mask)]
  let a := s.rd64 Pg.MRG Rg.MRG_CROP_BASE_LO Rg.MRG_CROP_BASE_HI + 32768 * (ref % slots)
  let s := (s.dramPut a (leBytes 64 head ++ data)).drawnN 16384
  let s := s.wr Pg.MRG Rg.MRG_CROP_NEXT (BitVec.ofNat 32 (if ref + 1 = 2 ^ 32 then 1 else ref + 1))
  let s := if slots < ref then s.flag Pg.MRG Fd.MRG_STAT_CROP_WRAP else s
  let s := s.bump Pg.MRG Fd.MRG_CROP_CNT_b0
  s.setRes c { s.res c with out := setNth (s.res c).out i ({ r with crop := none }.put 448 32 ref) }

/-- The first record of a job that waits for its crop. -/
def Results.cropWait (r : Results) : Option (Nat × Rec × Crop) :=
  (r.out.zipIdx.findSome? fun (e : Rec × Nat) => e.1.crop.map fun k => (e.2, e.1, k))

/-- CROP_STORE. -/
def State.cropStore (s : State) : State :=
  let c : Copy := if s.resA.cropWait.isSome then .active else .next
  match (s.res c).cropWait with
  | none => s
  | some (i, r, k) =>
    let lines := (List.range 64).filter fun j => decide (16 ≤ k.seed.1 + j)
    if lines.all fun j => s.lineDone k.view (k.seed.1 + j - 16) then s.storeCrop c i r k else s

def execCropStore (s : State) : Host.Outcome State Fault Refusal := .next s.cropStore

/-! ### RECORD_SEND (R379-R381) -/

/-- A job's context leaves with its results: the engines are free again. -/
def State.clearActive (s : State) : State :=
  let s := (s.setFld Pg.SYS Fd.SYS_JOB_STAT_ACTIVE_VALID 0)
  let s := { s with jobA := none, resA := {}, eng := tabMap (dflt {}) Eng.stopped s.eng }
  (List.range 8).foldl (fun (s : State) e => s.showAssign e) s

/-- The end record of a job that ended on request has been sent: the job returns to READY and the WX16 enters IDLE (R66). -/
def State.jobOver (s : State) : State :=
  match s.jobA with
  | none => s
  | some j =>
    let s := (s.setJobState j.id jobReady).clearActive
    let s := (List.range 4).foldl (fun (s : State) v =>
      let s := (s.stopStreams v).putMst v {}
      s.setView v { s.view_ v with
        run := false, part := none, begun := false, chg := none, past := false, endAt := none, ended := false, endRep := none }) s
    let s := s.setFld Pg.SYS Fd.SYS_CHG_CTL_STATE 0
    let s := (s.setFld Pg.SYS Fd.SYS_MODE_REQ_PENDING 0).enter .idle
    s.runRecord

/-- A record leaves for session egress, or in LEGACY for the WX8 services (R94, R379, R574-R576). -/
def State.sendOut (s : State) (c : Copy) (r : Rec) : State :=
  let s := if r.type = recDefect then s.bump Pg.MRG (whole Rg.MRG_REC_CNT) else s
  let s := if r.type = recEnd then s.raiseLine evJobEnd r.view r.key (r.get 256 64) else s
  if s.mode = .legacy then
    let s := if r.type = recStart then { s with net := { s.net with wx8Ser := 0, wx8Start := r.get 256 64 } } else s
    let base := s.fld Pg.NET Fd.NET_WX8_CTL_BASE
    let ip := (s.rd Pg.NET Rg.NET_WX8_DST).toNat
    if r.type = recDefect then
      let marg := s.vrdFld c r.rep Fd.VRD_SEV_CTL_SEV_MARG
      let fail := Nat.max marg (s.vrdFld c r.rep Fd.VRD_SEV_CTL_SEV_FAIL)
      let n := s.net.wx8Ser
      let s := { s with net := { s.net with wx8Ser := n + 1 } }
      if s.wx8On then (s.wx8Send 1 ip base (wx8Defect r n s.net.wx8Start fail marg)).bump Pg.NET Fd.NET_WX8_CNT_b0 else s
    else if r.type = recRepeat ∧ s.wx8On then s.wx8Send 2 ip ((base + 1) % 65536) (wx8Roll r)
    else s
  else s.sendRecord r.bits

/-- The JOB_START record of a copy's job (R375). -/
def State.startRec (s : State) (c : Copy) (line time : Nat) : Rec :=
  let (tag, gen) := match s.jobOf c with | some j => (j.tag, s.dir j.id 192 32) | none => (0, 0)
  { bits := mkBits [(0, 8, recStart), (8, 6, s.jobId c), (96, 32, tag), (256, 64, time), (320, 48, line), (448, 32, gen)]
    view := s.lowView c, key := line }

/-- The ACTUATION records formed before a job's JOB_START leave behind it (R90). -/
def State.sendHeld (s : State) (c : Copy) : State :=
  (s.res c).held.foldl (fun (s : State) b => s.sendRecord b) (s.setRes c { s.res c with held := [] })

/-- The next record of a job that may leave: JOB_START first (R381), then the evaluated records in order, each once its crop is
stored (R379). -/
def State.sendNext (s : State) (c : Copy) : State :=
  let r := s.res c
  match r.started, r.startAt with
  | false, some (n, t) => ((s.setRes c { r with started := true, sent := r.sent + 1 }).sendOut c (s.startRec c n t)).sendHeld c
  | false, none => if s.mode = .hold then (s.setRes c { r with started := true }).sendHeld c else s
  | true, _ => match r.out with
    | [] => s
    | q :: t =>
      if q.crop.isSome then s
      else
        let fin := q.type == recEnd
        let s := (s.setRes c { r with out := t, sent := r.sent + 1, endSent := fin }).sendOut c q
        if fin && c == .active && s.mode != .hold && s.mode != .changeover then s.jobOver else s

/-- RECORD_SEND: the active job's next record, or after its end record the next job's (R90); a session entry that is due goes first
(R558). -/
def State.recordSend (s : State) : State :=
  if s.mode.job && s.dueApply.isSome then s
  else
    let c : Copy := if s.resA.endSent && s.jobN.isSome then .next else .active
    if (s.jobOf c).isNone then s else s.sendNext c

def execRecordSend (s : State) : Host.Outcome State Fault Refusal := .next s.recordSend

end Sys2Proof.Machine
end

