-- ==== Sys2Proof/Machine/StreamCmds.lean ====
section
/-!
DEFINITION. Syncs, restarts and outputs of the streams (R412-R425), and what a DATA task does at its anchor (R470).
-/
namespace Sys2Proof.Machine

/-- The first multiple of 64 at or above a line (R15, R81). -/
def blockLine (n : Nat) : Nat := (n + 63) / 64 * 64

/-! ### Syncs (R417, R419) -/

/-- Whether DEC runs (Table — Blocks active by mode). -/
def State.decRuns (s : State) : Bool :=
  s.on Pg.DEC Fd.HDR_PAGE_CTL_EN && s.mode != .boot && s.mode != .idle && s.mode != .hold

/-- DECSYNC_EDGE: DECSYNC has shown its new level in `stable` consecutive samples up to `sample`; the level counts as changed from
PIN_FILT + 1 of them on (R417, R419) (DESIGN CHOICE, log entry 97). -/
def State.decEdge (s : State) (rising : Bool) (stable sample : Nat) : State :=
  let s := s.atCycle sample
  if s.decRuns && decide (s.fld Pg.DEC Fd.DEC_SYNC_CTL_PIN_FILT < stable) && s.on Pg.DEC Fd.DEC_SYNC_CTL_PIN_EN && s.on Pg.DEC Fd.DEC_SYNC_CTL_PIN_POL != rising then
    s.sync { time := s.timeAt (rawOfCycle sample) / 65536 }
  else s

def execDecsyncEdge (x : SyncLevel) (sample : Nat) (s : State) : Host.Outcome State Fault Refusal :=
  .next (s.decEdge x.rising x.stable sample)

/-- A write of DEC.SYNC_CTL (R417). -/
def State.decSyncWrite (s : State) (w : Word) : State :=
  let s := s.storeRw Pg.DEC Rg.DEC_SYNC_CTL w
  if s.decRuns && wf w 0 1 == 1 then s.sync { time := s.time } else s

/-- DEC_SYNC_WRITE. -/
def execDecSyncWrite (o : Owner) (w : Word) (s : State) : Host.Outcome State Fault Refusal :=
  .next (s.guarded o Pg.DEC Rg.DEC_SYNC_CTL (·.decSyncWrite w))

/-! ### Resets of one stream (R418) -/

/-- The line after the last one that a source of a view has given to DEC. -/
def State.strNext (s : State) (v : Nat) : Nat :=
  maxN ((s.sti v).next :: (s.portsOf v).flatMap fun p =>
    ((s.corr_ p).filter fun x => (s.assembled p x.n).isSome).map fun x => x.n + 1)

/-- A stream's boundary awaited from a line on, as AT selects; one that is awaited already stays. There the
stream is reset. -/
def State.awaitStream (s : State) (n line at_ : Nat) : State :=
  let x := s.str_ n
  s.putStr n { x with ask := true, want := some (x.want.getD (s.strView n, if at_ = 0 then blockLine line else line, at_ == 1)) }

/-- RESTART of a stream that runs in a view with triggers, from a line on. -/
def State.restartStream (s : State) (n line : Nat) : State :=
  if s.on Pg.STR (Fd.STR_S_CTL_EN n) && (s.tgOf (s.strView n)).running then
    s.awaitStream n line (s.fld Pg.STR (Fd.STR_S_CTL_AT n))
  else s

/-- A write of Sn_CTL; writes of S7 are ignored (Table — STR.Sn_CTL). -/
def State.strCtl (s : State) (n : Nat) (w : Word) : State :=
  if 7 ≤ n then s
  else
    let s := s.writeReg Pg.STR (Rg.STR_S_CTL n) w
    if wf w 2 1 = 1 then s.restartStream n (s.strNext (s.strView n)) else s

/-- STREAM_RESTART. -/
def execStreamRestart (o : Owner) (n : Fin 8) (w : Word) (s : State) : Host.Outcome State Fault Refusal :=
  .next (s.guarded o Pg.STR (Rg.STR_S_CTL n) (·.strCtl n w))

/-- The line after the last one that a stream's source has given to DEC. -/
def State.srcNext (s : State) (n : Nat) : Nat :=
  let v := s.strView n
  if s.strD n 0 2 = 1 then
    let p := s.strD n 2 4
    maxN ((s.sti v).next :: ((s.corr_ p).filter fun x => (s.assembled p x.n).isSome).map fun x => x.n + 1)
  else (s.sti v).next

/-- STREAM_RESET_BOUNDARY: the next line of a stream's source is its awaited boundary, or lies past it (R418, R420, R421). -/
def State.resetBoundary (s : State) (n : Nat) : State :=
  let m := s.srcNext n
  match (s.str_ n).want with
  | none => s
  | some (w, k, rep) => if w = s.strView n ∧ k ≤ m ∧ (rep → s.repeatStartAt w m) then s.streamBoundary n m else s

def execStreamResetBoundary (n : Fin 7) (s : State) : Host.Outcome State Fault Refusal := .next (s.resetBoundary n)

/-! ### Delivery (R423-R425) -/

/-- The oldest formed output of a stream delivered to its sinks: OUT_CNT stands at bytes 4 to 7 of its header. -/
def State.streamOutput (s : State) (n : Nat) : State :=
  let x := s.str_ n
  match x.outs with
  | [] => s
  | o :: rest =>
    let cnt := (s.rd Pg.STR (Rg.STR_S_OUT_CNT n)).toNat
    let line := o.bytes.take 4 ++ leBytes 4 cnt ++ o.bytes.drop 8
    let s := s.putStr n { x with outs := rest }
    let s := if o.dest = 1 then s else s.dramPut (o.base + cnt % Nat.max 1 o.slots * o.stride) line
    let s := if o.dest = 0 then s
      else
        let (s, ok) := s.sendImage o.session line
        if ok then s else s.bump Pg.STR (Fd.STR_S_STAT_DROP n)
    let s := if o.settled then s else s.bump Pg.DEC Fd.DEC_CNT1_b16
    (s.wr Pg.STR (Rg.STR_S_OUT_CNT n) (BitVec.ofNat 32 (cnt + 1))).setBit Pg.STR (Fd.STR_S_STAT_SETTLED n) o.settled

/-- STREAM_OUTPUT. -/
def execStreamOutput (n : Fin 7) (s : State) : Host.Outcome State Fault Refusal := .next (s.streamOutput n)

/-! ### DATA tasks (R470-R472) -/

/-- CHG_DELAY_Vv (R96). -/
def State.chgDelay (s : State) (v : Nat) : Nat := (s.rd Pg.SYS (Rg.SYS_CHG_DELAY_V v)).toNat % 2 ^ 24

/-- The changeover line of a view fixed from an anchor line (R81). -/
def State.fixChg (s : State) (v a : Nat) : State :=
  (s.setView v { s.view_ v with chg := some (blockLine (a + s.chgDelay v)) }).leaveStop v

/-- The CHANGEOVER occurrence in the views whose anchor is known: answers the state and whether every view has its line. -/
def State.chgEvent (s : State) (st : Stamp) : State × Bool :=
  let open_ (s : State) : List Nat := (List.range 4).filter fun v => s.enables .active v && (s.view_ v).chg.isNone
  if s.fld Pg.SYS Fd.SYS_CHG_CTL_STATE = 0 then (s, true)
  else
    let s := (open_ s).foldl (fun (s : State) v => match s.anchorOf st v with | some a => s.fixChg v a | none => s) s
    (s, (open_ s).isEmpty)

/-- The line that anchors an occurrence of a DATA task other than CHANGEOVER and DECSYNC, where it is known (R470). -/
def State.dataAnchor (s : State) (o : Occ) : Option Nat :=
  s.anchorOf o.stamp (if o.task < 56 then (o.task - 48) % 4 else s.strView (o.task - 56))

/-- An ADAPT_FREEZE or ADAPT_THAW task noted with its anchor line (R331). -/
def State.mstChange (s : State) (v a : Nat) (freeze : Bool) : State :=
  let x := s.mstV v
  s.putMst v { x with changes := x.changes ++ [(a, freeze)] }

/-- What an occurrence of a DATA task does now, and whether that is all. -/
def State.dataEffect (s : State) (o : Occ) : State × Bool :=
  if o.task = taskChangeover then s.chgEvent o.stamp
  else if o.task = taskDecSync then (if s.decRuns then s.sync o.stamp else s, true)
  else match s.dataAnchor o with
    | none => (s, false)
    | some a =>
      if o.task < 56 then (s.mstChange ((o.task - 48) % 4) a (decide (o.task < 52)), true)
      else (s.restartStream (o.task - 56) a, true)

/-- Whether an occurrence can act now: it is done by it, or changes something. -/
def State.dataReady (s : State) (o : Occ) : Bool :=
  (s.dataEffect o).2 || decide ((s.dataEffect o).1 ≠ s)

/-- An occurrence taken out of the list that waits. -/
def State.dropOcc (s : State) (o : Occ) : State := { s with evf := { s.evf with data := s.evf.data.erase o } }

/-- DATA_TASK_EFFECT: the oldest occurrence whose anchor is known takes effect; lines that waited at intake for a changeover line go
on. -/
def State.dataTask (s : State) : State :=
  match s.evf.data.find? s.dataReady with
  | none => s
  | some o =>
    match s.dataEffect o with
    | (t, fin) =>
      let t := if fin then t.dropOcc o else t
      if o.task = taskChangeover then (List.range 16).foldl (fun (s : State) p => s.deliverPort p) t else t

def execDataTaskEffect (s : State) : Host.Outcome State Fault Refusal := .next s.dataTask

end Sys2Proof.Machine
end

