-- ==== Sys2Proof/Machine/Modes.lean ====
section
/-!
DEFINITION. Mode requests (R62-R72), the job commands (R73-R79, R699) and the arming, the entering views and the end of a
changeover (R80-R92).
-/
namespace Sys2Proof.Machine

/-! ### Refusals -/

/-- SYS.MODE.REFUSAL: 1 ILLEGAL_TRANSITION, 2 NO_JOB, 3 BUSY, 4 HOLD_NOT_CLEARABLE, 5 GUARDED. -/
def State.refusal (s : State) (k : Nat) : State := s.setFld Pg.SYS Fd.SYS_MODE_REFUSAL k

/-- JOB_STATE of a job. -/
def State.jobWrong (s : State) (j : Nat) : State := s.logErr Er.JOB_STATE Pg.SYS j

/-- A write of a mode, job or changeover register under the guard of SYS, with what a refusal by the guard adds (R96). -/
def State.sysWrite (s : State) (o : Owner) (off : Nat) (add f : State → State) : State :=
  match s.access o Pg.SYS with
  | .granted => f (s.touch o Pg.SYS)
  | .guard => add (s.refuse o Pg.SYS off false)
  | .lock => s.refuse o Pg.SYS off true
  | .absent => s

/-! ### A job's context as the active one (R67, R84, R91) -/

/-- The words of a section put into a window region of `size` bytes, whose other words become 0, as do reserved bits (R6). -/
def State.fillWindow (s : State) (base size : Nat) (l : List Byte) : State :=
  let s := { s with window := tabClear base (base + size) s.window }
  (List.range (Nat.min size (l.length + 3) / 4)).foldl (fun (s : State) i => s.setWin (base + 4 * i) (leWord l i &&& winMask (base + 4 * i))) s

/-- The contexts of a job that the host reaches as the active copy (R231, R290). -/
def State.fillContexts (s : State) (j : JobCtx) : State :=
  let s := (List.range 16).foldl (fun (s : State) p => match j.sect (sectPort p) with
    | some (_, _, l) => s.fillWindow (portCtxAt p) 0x20000 l
    | none => s) s
  s.fillWindow stitchAt 0x10000 (j.bytes sectStitch)

/-- What commits of a page hold for the job of a view takes effect. -/
def State.jobParts (s : State) (line : Nat → Option Nat) : State :=
  pageList.foldl (fun (s : State) p => (List.range 4).foldl (fun (s : State) v => s.applyParts p (fun b => b == .job v) (line v)) s) s

/-- The next job becomes the active one: its state, its contexts and SYS.JOB_STAT. -/
def State.promote (s : State) (j : JobCtx) : State :=
  let s := ({ s with jobA := some j, jobN := none }).setJobState j.id jobActive
  let s := (s.setFld Pg.SYS Fd.SYS_JOB_STAT_ACTIVE_ID j.id).setFld Pg.SYS Fd.SYS_JOB_STAT_ACTIVE_VALID 1
  let s := ((s.setFld Pg.SYS Fd.SYS_JOB_STAT_NEXT_VALID 0).setFld Pg.SYS Fd.SYS_JOB_STAT_NEXT_READY 0).fillContexts j
  (List.range 8).foldl (fun (s : State) g => s.mapSets g CtxSet.promote) s

/-- Whether a view of the active job lacks a learned master and will learn one (R68, R312, R334). -/
def State.lacksMaster (s : State) (v : Nat) : Bool := match s.geo .active v with | some g => s.toLearn g | none => true

/-- A start from IDLE (R67): a changeover from no job, each view from its next line block on. -/
def State.startJob (s : State) (j : JobCtx) (relearn legacy : Bool) : State :=
  let vals := s.jobRegs .next
  let line (v : Nat) : Nat := blockLine (s.nextLine v)
  let s := ({ s with resA := {}, eng := tabMap (dflt {}) Eng.stopped s.eng }).takeVals vals
  let s := ((s.jobParts fun v => some (line v)).promote j).wr Pg.MST Rg.MST_ADAPT_CNT 0
  let vs := (List.range 4).filter fun v => tbit j.viewEn v
  let s := vs.foldl (fun (s : State) v =>
    let learn := relearn || s.lacksMaster v
    let s := s.setView v { s.view_ v with
      run := true, start := line v, part := some (line v), begun := false, chg := none, past := false, entering := false, started := false, left := false
      endAt := none, ended := false, endRep := none, frames := [], wraps := [] }
    s.putMst v { relearn := relearn, will := learn }) s
  let m : Mode := if legacy then .legacy else if vs.any (fun v => s.isLearning v) then .learn else .inspect
  ((s.enter m).tgSyncAll).runRecord

/-! ### Leaving HOLD (R70, R72) -/

/-- The record that a crop holds back is given its crop; lines that never came are left out of it. -/
def State.flushCrop (s : State) : State :=
  let c : Copy := if s.resA.cropWait.isSome then .active else .next
  match (s.res c).cropWait with
  | none => s
  | some (i, r, k) => s.storeCrop c i r k

/-- Records already formed and the end records of the cut jobs sent, at most `fuel` steps. -/
def State.flush (s : State) : Nat → State
  | 0 => s
  | k + 1 => (s.ruleEvaluate.cellVerdictNext.repeatVerdict.flushCrop.recordSend).flush k

/-- A bound on the records that a copy's job still gives. -/
def State.toSend (s : State) (c : Copy) : Nat :=
  let r := s.res c
  if (s.jobOf c).isNone || r.ending.isNone then 0
  else 2 * (s.itemCount c + sumN ((List.range 4).map fun v => (s.vres c v).alarms.length) + r.front.length + r.ready.length + r.whole.length +
    r.out.length + (s.cutCells c).length + 4)

/-- HOLD is left for IDLE: what has been formed is sent first, then the job contexts are emptied (R70, R72). -/
def State.leaveHold (s : State) : State :=
  let s := s.flush (s.toSend .active + s.toSend .next)
  let back (s : State) (j : Option JobCtx) : State := match j with | some j => s.setJobState j.id jobReady | none => s
  let s := back s s.jobA
  let s := if s.on Pg.SYS Fd.SYS_JOB_STAT_NEXT_VALID then s.setJobState (s.fld Pg.SYS Fd.SYS_JOB_STAT_NEXT_ID) jobReady else s
  let s := ((s.setFld Pg.SYS Fd.SYS_JOB_STAT_ACTIVE_VALID 0).setFld Pg.SYS Fd.SYS_JOB_STAT_NEXT_VALID 0).setFld
    Pg.SYS Fd.SYS_JOB_STAT_NEXT_READY 0
  let s := { s with jobA := none, jobN := none, resA := {}, resN := {}, eng := tabMap (dflt {}) Eng.stopped s.eng, jobVals := [] }
  let s := (List.range 8).foldl (fun (s : State) e => s.showAssign e) s
  let s := (List.range 4).foldl (fun (s : State) v =>
    (s.putMst v {}).setView v { s.view_ v with
      run := false, part := none, begun := false, chg := none, past := false, entering := false, started := false, left := false
      endAt := none, ended := false, endRep := none }) s
  let s := (s.setFld Pg.SYS Fd.SYS_CHG_CTL_STATE 0).setFld Pg.SYS Fd.SYS_MODE_HOLD_CLEARABLE 0
  let s := if s.revoking.isEmpty then s.setFld Pg.SUPV1 Fd.SUPV1_STAT_DRAIN_ACTIVE 0 else s
  (s.releasePins.enter .idle).runRecord

/-! ### Ending a job on request (R66) -/

/-- An armed changeover withdrawn (R83); an entering view stops. -/
def State.disarm (s : State) : State :=
  let s := s.setFld Pg.SYS Fd.SYS_CHG_CTL_STATE 0
  (List.range 4).foldl (fun (s : State) v =>
    let x := s.view_ v
    if s.enables .active v then s.setView v { x with chg := none, past := false }
    else if x.entering then
      (s.setView v { x with run := false, entering := false, started := false, chg := none, past := false }).stopTriggers v
    else s) s

/-- The last line of a view that its ports' intake has delivered, plus 1. -/
def State.taken (s : State) (v : Nat) : Nat := maxN ((s.portsOf v).map fun p => ((s.intk p).next).getD 0)

/-- A requested job end accepted: each view's boundary is the next line block (AT = 0) or its next repeat start. An armed changeover that no
view has reached is withdrawn (DESIGN CHOICE, log entry 62). -/
def State.requestEnd (s : State) (at_ : Nat) : State :=
  let s := if s.fld Pg.SYS Fd.SYS_CHG_CTL_STATE = 1 then s.disarm else s
  let s := s.setFld Pg.SYS Fd.SYS_MODE_REQ_PENDING 1
  (s.jobViews .active).foldl (fun (s : State) v =>
    let x := s.view_ v
    s.setView v (if at_ = 0 then { x with endAt := some (blockLine (Nat.max (s.taken v) (x.part.getD 0))) }
      else { x with endRep := some (if x.begun then s.repOf v (s.taken v - 1) else 0) })) s

/-- A requested job end reaches its boundary in a view: its triggers stop, and pending flips of later repeats are cancelled
(R66, R308). A view without triggers ends behind the lines it has. A changeover that is still armed is withdrawn (DESIGN CHOICE, log entry
62). -/
def State.endView (s : State) (v : Nat) : State :=
  let x := s.view_ v
  let quiet := !(s.tgOf v).running
  let due : Bool := match x.endAt with | some e => quiet || decide (e ≤ s.nextLine v) | none => quiet && x.endRep.isSome
  if !s.mode.job || x.ended || !due then s
  else
    let s := if s.fld Pg.SYS Fd.SYS_CHG_CTL_STATE = 1 then s.disarm else s
    let x := s.view_ v
    let stop := Nat.max (s.nextLine v) x.start
    let e := match x.endAt with | some e => if quiet then Nat.min e stop else e | none => stop
    let s := (s.setView v { x with run := false, endAt := some e, ended := true }).stopAt v e pageList
    let s := (s.portsOf v).foldl (fun (s : State) p => s.deliverPort p) (s.cancelFlips v e)
    if (s.view_ v).begun then s
    else (s.enginesOf .active v).foldl (fun (s : State) k =>
      let y := s.vres .active v
      if y.doneE.contains k then s else s.setVres .active v { y with doneE := y.doneE ++ [k] }) s

/-- JOB_END_AT_BOUNDARY. -/
def execJobEndAtBoundary (v : Fin 4) (s : State) : Host.Outcome State Fault Refusal := .next (s.endView v)

/-! ### Mode requests (R63-R65) -/

/-- Whether a SETUP task runs (R63): an acquisition, a dot-grid measurement, a memory BIST, a full retraining. -/
def State.setupBusy (s : State) : Bool :=
  (List.range 8).any (fun g => !(tabGet (dflt {}) s.pipe g).ff.isEmpty) || s.dot.isSome ||
  s.fld Pg.HLTH ⟨Rg.HLTH_MBIST_STAT, 0, 2⟩ == 1 || s.fld Pg.MCG Fd.MCG_TRAIN_STAT_STATE == 1

/-- SETUP entered: every view's lines belong to a run of their own. -/
def State.enterSetup (s : State) : State :=
  let s := (List.range 4).foldl (fun (s : State) v =>
    s.setView v { s.view_ v with start := s.nextLine v, part := none, begun := false, chg := none, past := false, frames := [], endAt := none, ended := false, endRep := none }) s
  (s.enter .setup).tgSyncAll

/-- SETUP left for IDLE. -/
def State.leaveSetup (s : State) : State :=
  let s := (List.range 4).foldl (fun (s : State) v => (s.stopTriggers v).stopStreams v) s
  ((List.range 16).foldl (fun (s : State) p => s.deliverPort p) s).enter .idle

/-- Why the views of a copy's job cannot be relearned (R333, R334). -/
def State.relearnFaults (s : State) (c : Copy) (j : JobCtx) : List Flt :=
  let vs := (List.range 4).filter fun v => tbit j.viewEn v
  ((vs.filter fun v => s.oneSlot c v).map fun v => (Er.MST_ONE_SLOT, v, j.id)) ++
  (s.learnShort vs (s.learnN c)).map fun v => (Er.MST_LEARN_SPACE, v, j.id)

/-- A request to start the next job from IDLE. -/
def State.requestStart (s : State) (target : Nat) : State :=
  match s.on Pg.SYS Fd.SYS_JOB_STAT_NEXT_READY, s.jobN with
  | true, some j =>
    let l := if target = 3 then s.relearnFaults .next j else []
    if target = 6 ∧ !j.legacy then s.refusal 1
    else if !l.isEmpty then (s.logFaults l).refusal 1
    else s.startJob j (target == 3) (target == 6)
  | _, _ => s.refusal 2

/-- A relearn of the running job's masters (R63, R312). -/
def State.requestRelearn (s : State) : State :=
  match s.jobA with
  | none => s.refusal 1
  | some j =>
    let l := s.relearnFaults .active j
    if !l.isEmpty then (s.logFaults l).refusal 1
    else ((s.jobViews .active).foldl (fun (s : State) v => s.putMst v { s.mstV v with relearn := true }) s).enter .learn

/-- A request for a mode along Table — Mode transitions, or its refusal (R63-R65). -/
def State.modeRequest (s : State) (target at_ : Nat) : State :=
  if target = 7 then (if s.mode = .boot then s.refusal 1 else s.enterHold 0xFF)
  else if s.mode = .changeover ∨ s.on Pg.SYS Fd.SYS_MODE_REQ_PENDING then s.refusal 3
  else match s.mode, target with
    | .idle, 2 => s.enterSetup
    | .setup, 1 => if s.setupBusy then s.refusal 3 else s.leaveSetup
    | .idle, 3 => s.requestStart 3
    | .idle, 4 => s.requestStart 4
    | .idle, 6 => s.requestStart 6
    | .inspect, 3 => s.requestRelearn
    | .learn, 1 => s.requestEnd at_
    | .inspect, 1 => s.requestEnd at_
    | .legacy, 1 => s.requestEnd at_
    | .hold, 1 => if s.on Pg.SYS Fd.SYS_MODE_HOLD_CLEARABLE then s.leaveHold else s.refusal 4
    | _, _ => s.refusal 1

/-- A write of MODE_REQ. -/
def State.modeReq (s : State) (o : Owner) (w : Word) : State :=
  s.sysWrite o Rg.SYS_MODE_REQ (·.refusal 5) fun s =>
    let s := s.writeReg Pg.SYS Rg.SYS_MODE_REQ w
    if wf w 8 1 = 1 then s.modeRequest (wf w 0 3) (wf w 3 1) else s

/-- MODE_REQ_IDLE: TARGET = 1. -/
def execModeReqIdle (o : Owner) (w : Word) (s : State) : Host.Outcome State Fault Refusal := .next (s.modeReq o w)

/-- MODE_REQ_SETUP: TARGET = 2. -/
def execModeReqSetup (o : Owner) (w : Word) (s : State) : Host.Outcome State Fault Refusal := .next (s.modeReq o w)

/-- MODE_REQ_RELEARN: TARGET = 3. -/
def execModeReqRelearn (o : Owner) (w : Word) (s : State) : Host.Outcome State Fault Refusal := .next (s.modeReq o w)

/-- MODE_REQ_INSPECT: TARGET = 4. -/
def execModeReqInspect (o : Owner) (w : Word) (s : State) : Host.Outcome State Fault Refusal := .next (s.modeReq o w)

/-- MODE_REQ_LEGACY: TARGET = 6. -/
def execModeReqLegacy (o : Owner) (w : Word) (s : State) : Host.Outcome State Fault Refusal := .next (s.modeReq o w)

/-- MODE_REQ_HOLD: TARGET = 7. -/
def execModeReqHold (o : Owner) (w : Word) (s : State) : Host.Outcome State Fault Refusal := .next (s.modeReq o w)

/-! ### Job commands (R74-R79, R699) -/

def State.jobOpen (s : State) (j : Nat) : State :=
  let st := s.jobState j
  if st = jobNext ∨ st = jobActive then s.jobWrong j else (s.setJobState j jobLoading).abortPredict j

/-- VALIDATE (R75); one while another validation runs is refused with JOB_STATE (DESIGN CHOICE, log entry 63). -/
def State.jobValidate (s : State) (j : Nat) : State :=
  let st := s.jobState j
  if (st = jobLoading ∨ st = jobReady ∨ st = jobRefused) ∧ s.valJob.isNone then
    ({ s with valJob := some j }).setFld Pg.SYS Fd.SYS_JOB_STAT_VAL_BUSY 1
  else s.jobWrong j

def State.jobLoadNext (s : State) (j : Nat) : State :=
  if s.jobState j ≠ jobReady ∨ s.on Pg.SYS Fd.SYS_JOB_STAT_NEXT_VALID then s.jobWrong j
  else
    let l := s.loadFaults (s.jobCtx j)
    if !l.isEmpty then s.logFaults l
    else ((s.setJobState j jobNext).setFld Pg.SYS Fd.SYS_JOB_STAT_NEXT_ID j).setFld Pg.SYS Fd.SYS_JOB_STAT_NEXT_VALID 1

def State.jobCancelNext (s : State) (j : Nat) : State :=
  if s.fld Pg.SYS Fd.SYS_CHG_CTL_STATE ≠ 0 then s.jobWrong j
  else if !s.on Pg.SYS Fd.SYS_JOB_STAT_NEXT_VALID then s
  else
    let s := ({ s with jobN := none }).setJobState (s.fld Pg.SYS Fd.SYS_JOB_STAT_NEXT_ID) jobReady
    (s.setFld Pg.SYS Fd.SYS_JOB_STAT_NEXT_VALID 0).setFld Pg.SYS Fd.SYS_JOB_STAT_NEXT_READY 0

def State.jobDelete (s : State) (j : Nat) : State :=
  let st := s.jobState j
  if st = jobReady ∨ st = jobLoading ∨ st = jobRefused then (s.setJobState j jobEmpty).abortPredict j else s.jobWrong j

/-- A write of JOB_CTL: JOB_ID, and at most one command (R699). -/
def State.jobCtl (s : State) (o : Owner) (w : Word) : State :=
  let j := wf w 0 6
  s.sysWrite o Rg.SYS_JOB_CTL (·.jobWrong j) fun s =>
    let s := s.writeReg Pg.SYS Rg.SYS_JOB_CTL w
    match wf w 8 5 with
    | 0 => s
    | 1 => s.jobOpen j
    | 2 => s.jobValidate j
    | 4 => s.jobLoadNext j
    | 8 => s.jobCancelNext j
    | 16 => s.jobDelete j
    | _ => s.jobWrong j

/-- JOB_OPEN. -/
def execJobOpen (o : Owner) (w : Word) (s : State) : Host.Outcome State Fault Refusal := .next (s.jobCtl o w)

/-- JOB_VALIDATE. -/
def execJobValidate (o : Owner) (w : Word) (s : State) : Host.Outcome State Fault Refusal := .next (s.jobCtl o w)

/-- JOB_LOAD_NEXT. -/
def execJobLoadNext (o : Owner) (w : Word) (s : State) : Host.Outcome State Fault Refusal := .next (s.jobCtl o w)

/-- JOB_CANCEL_NEXT. -/
def execJobCancelNext (o : Owner) (w : Word) (s : State) : Host.Outcome State Fault Refusal := .next (s.jobCtl o w)

/-- JOB_DELETE. -/
def execJobDelete (o : Owner) (w : Word) (s : State) : Host.Outcome State Fault Refusal := .next (s.jobCtl o w)

/-- The views of a job of the library whose current slot is LEARNED: MASTER_VALID (R304). -/
def State.learnedViews (s : State) (j : JobCtx) : Nat :=
  let t := s.asNext j
  sumN ((List.range 4).map fun v => match t.geo .next v with
    | some g => if t.mKind g (t.mCur g) = 2 then 2 ^ v else 0
    | none => 0)

/-- The running validation completes (R75). -/
def State.validationDone (s : State) : State :=
  match s.valJob with
  | none => s
  | some j =>
    let s := ({ s with valJob := none }).setFld Pg.SYS Fd.SYS_JOB_STAT_VAL_BUSY 0
    let st := s.jobState j
    if st = jobEmpty ∨ st = jobNext ∨ st = jobActive then s
    else
      let (s, l) := s.validate j
      let s := { s.logFaults l with roWritten := s.roWritten.filter (· != j) }
      if l.isEmpty then
        let s := (s.setJobState j jobReady).setDir j 8 4 (s.learnedViews (s.jobCtx j))
        (s.setDir j 192 32 (s.dir j 192 32 + 1)).setFld Pg.SYS Fd.SYS_JOB_STAT_VAL_RESULT 1
      else (s.setJobState j jobRefused).setFld Pg.SYS Fd.SYS_JOB_STAT_VAL_RESULT 2

/-- VALIDATION_DONE. -/
def execValidationDone (s : State) : Host.Outcome State Fault Refusal := .next s.validationDone

/-- LOAD_NEXT_DONE: the next context holds the job, and NEXT_READY rises (R77). -/
def execLoadNextDone (s : State) : Host.Outcome State Fault Refusal :=
  .next (if s.on Pg.SYS Fd.SYS_JOB_STAT_NEXT_VALID && !s.on Pg.SYS Fd.SYS_JOB_STAT_NEXT_READY then
    ({ s with jobN := some (s.jobCtx (s.fld Pg.SYS Fd.SYS_JOB_STAT_NEXT_ID)) }).setFld Pg.SYS Fd.SYS_JOB_STAT_NEXT_READY 1
  else s)

/-! ### Changeover (R80-R92) -/

/-- Why an arming is refused, none where it is accepted (R82); the reserved TRIGGER = 3 of R81 with JOB_STATE (DESIGN CHOICE, log entry
61). -/
def State.armFault (s : State) : Option ErrCode :=
  let trigger := s.fld Pg.SYS Fd.SYS_CHG_CTL_TRIGGER
  let last := (s.rd Pg.SYS Rg.SYS_CHG_LAST_REPEAT).toNat
  let vs := s.jobViews .active
  if s.mode ≠ .learn ∧ s.mode ≠ .inspect then some Er.JOB_STATE
  else if !s.on Pg.SYS Fd.SYS_JOB_STAT_NEXT_READY then some Er.CHG_NOT_READY
  else if s.fld Pg.SYS Fd.SYS_CHG_CTL_STATE ≠ 0 then some Er.JOB_STATE
  else if trigger = 3 then some Er.JOB_STATE
  else if trigger = 0 ∧ s.repeatLen .next ≠ s.repeatLen .active then some Er.CHG_REPEAT_LEN
  else if trigger = 0 ∧ vs.any (fun v => decide (last < s.repOf v (s.taken v - 1))) then some Er.CHG_LATE
  else none

/-- A changeover armed (R82). -/
def State.armChg (s : State) : State :=
  match s.armFault with
  | some e => s.logErr e Pg.SYS (s.fld Pg.SYS Fd.SYS_JOB_STAT_NEXT_ID)
  | none =>
    let s := (List.range 8).foldl (fun (s : State) e => s.assign e) s
    let s := s.setFld Pg.SYS Fd.SYS_CHG_CTL_STATE 1
    let s := (List.range 4).foldl (fun (s : State) v =>
      s.setView v { s.view_ v with
        chg := none, past := false, entering := s.enables .next v && !s.enables .active v, started := false, left := false }) s
    if s.fld Pg.SYS Fd.SYS_CHG_CTL_TRIGGER = 2 then
      (s.jobViews .active).foldl (fun (s : State) v => s.fixChg v (s.taken v)) s
    else s

/-- CANCEL of an armed changeover (R83). -/
def State.chgCancel (s : State) : State :=
  match s.fld Pg.SYS Fd.SYS_CHG_CTL_STATE with
  | 1 => s.disarm
  | 2 => s.setFld Pg.SYS Fd.SYS_CHG_CTL_CANCEL_LATE 1
  | _ => s

/-- A write of CHG_CTL: CANCEL, then ARM. -/
def State.chgCtl (s : State) (o : Owner) (w : Word) : State :=
  s.sysWrite o Rg.SYS_CHG_CTL (·.refusal 5) fun s =>
    let s := s.writeReg Pg.SYS Rg.SYS_CHG_CTL w
    let s := if wf w 9 1 = 1 then s.chgCancel else s
    if wf w 8 1 = 1 then s.armChg else s

/-- CHG_ARM. -/
def execChgArm (o : Owner) (w : Word) (s : State) : Host.Outcome State Fault Refusal := .next (s.chgCtl o w)

/-- CHG_CANCEL. -/
def execChgCancel (o : Owner) (w : Word) (s : State) : Host.Outcome State Fault Refusal := .next (s.chgCtl o w)

/-- ENTERING_VIEW_START: the generator of an entering view starts once the lead view's line Ld + CHG_DELAY has its cycle (R85), or the
lead view, leaving, has stopped at Ld. -/
def State.enteringStart (s : State) (v : Nat) : State :=
  let x := s.view_ v
  let lead := s.lowView .active
  match (s.view_ lead).chg with
  | none => s
  | some ld =>
    let due := (s.lineRec lead (ld + s.chgDelay v)).isSome || (!s.enables .next lead && !(s.tgOf lead).running && decide (ld ≤ s.nextLine lead))
    if s.fld Pg.SYS Fd.SYS_CHG_CTL_STATE = 0 ∨ !x.entering ∨ x.started ∨ !due then s
    else ((s.setView v { x with run := true, started := true, chg := some (s.nextLine v) }).tgSync v).dueBoundary v

def execEnteringViewStart (v : Fin 4) (s : State) : Host.Outcome State Fault Refusal := .next (s.enteringStart v)

/-- A view only the old job enabled leaves with it; the others go on under the new job. -/
def State.viewChanged (s : State) (new : JobCtx) (v : Nat) : State :=
  let x := s.view_ v
  if tbit new.viewEn v then
    let s := s.setView v { x with
      part := x.chg, begun := true, chg := none, past := false, entering := false, started := false, left := false, endAt := none
      ended := false, endRep := none }
    match x.chg with
    | some c => if (s.inForce v c).line = c then s else s.putMst v { s.mstV v with will := s.lacksMaster v }
    | none => s
  else if x.left then
    ((s.stopStreams v).putMst v {}).setView v { x with
      run := false, left := false, part := none, begun := false, chg := none, past := false, endAt := none, ended := false }
  else s

/-- The changeover ends (R91). -/
def State.chgComplete (s : State) : State :=
  match s.jobA, s.jobN with
  | some old, some new =>
    let vs := (List.range 4).filter fun v => tbit old.viewEn v || tbit new.viewEn v
    if s.mode ≠ .changeover ∨ !s.resA.endSent ∨ !vs.all (fun v => (s.view_ v).past) then s
    else
      let s := (List.range 8).foldl (fun (s : State) e => s.assign e) s
      let vals := s.jobVals.map (·.2)
      let s := ({ s with jobVals := [] }).takeVals vals
      let s := s.jobParts fun v => (s.view_ v).chg
      let s := (s.setJobState old.id jobReady).promote new
      let s := { s with resA := s.resN, resN := {} }
      let s := (List.range 8).foldl (fun (s : State) e =>
        if (s.engOf e).view.isSome then s.putEng e { s.engOf e with newJob := false } else s) s
      let s := (List.range 4).foldl (fun (s : State) v => s.viewChanged new v) (s.setFld Pg.SYS Fd.SYS_CHG_CTL_STATE 0)
      let m : Mode := if (s.jobViews .active).any (fun v => s.isLearning v) then .learn else .inspect
      (s.enter m).runRecord
  | _, _ => s

/-- CHANGEOVER_COMPLETE. -/
def execChangeoverComplete (s : State) : Host.Outcome State Fault Refusal := .next s.chgComplete

end Sys2Proof.Machine
end

