-- ==== Sys2Proof/Machine/Resets.lean ====
section
/-!
DEFINITION. Soft resets of blocks (R661), the leases of the data-path stages (R611-R614) and the drain (R615-R617).
-/
namespace Sys2Proof.Machine

/-! ### What a soft reset does to the registers of a page (R661) -/

/-- Pages whose RO registers show what the soft reset does not take: the mode, fuses and image, clocks, pins, the memory, the link to
the host, the sessions and keys, the descriptors. -/
def keepsRo : PageKind → Bool
  | .sys | .fuse | .boot | .clk | .supv0 | .supv1 | .tst | .mc | .mcg | .pcie | .net | .qf | .pins0 | .pins1 => true
  | _ => false

/-- RO registers that a soft reset leaves: line numbers (R12), ring positions (R611), continuation ids of a job. -/
def keepsReg (k : PageKind) (off : Nat) : Bool :=
  match k with
  | .pos => (List.range 4).any fun v => off == Rg.POS_TG_LINE_LO v || off == Rg.POS_TG_LINE_HI v
  | .mrg => off == Rg.MRG_CROP_NEXT || (List.range 4).any fun v => off == Rg.MRG_CONT_ID v
  | .vrd => off == Rg.VRD_RING_WR
  | .hlth => off == Rg.HLTH_CAL_STAT
  | _ => false

/-- RO bits of a port's page that a soft reset leaves: the marks of failed slices, and what says that the Joker carries one's lane (R195). -/
def keepsBits (k : PageKind) (off : Nat) : Word :=
  match k with
  | .cp => if off = Rg.CP_JOKER_STAT then 0x3DF else if (List.range 4).any fun m => off == Rg.CP_LANE_STAT m then 2 else 0
  | _ => 0

/-- The registers of a page after a soft reset: RW, RWS and WRO bits keep their values, the others return to their reset values. -/
def State.resetRegs (s : State) (p : Nat) : State :=
  match pageAt p with
  | none => s
  | some (k, _) =>
    let s := (kindRegs k).foldl (fun (s : State) r =>
      let keep : Word := if keepsRo k || keepsReg k r.off then ~~~(r.w1c ||| r.roc) else r.rw ||| r.rws ||| r.wro ||| keepsBits k r.off
      s.wr p r.off ((s.rd p r.off &&& keep) ||| (r.reset &&& ~~~keep))) s
    let s := (s.wr p Rg.HDR_IRQ_STAT 0).setFld p Fd.HDR_PAGE_STAT_REFUSED 0
    s.setBit p Fd.HDR_PAGE_STAT_ERR (s.err p)

/-! ### What it does to the block (R612, R661) -/

/-- A body whose samples are lost: gap lines stay gap lines. -/
def Body.lost (b : Body) : Body := match b with | .gap => .gap | _ => .poison

/-- A port's receiver: the link starts again, and the lines intake holds are poisoned (DEDUCED, log entry 91). -/
def State.resetCp (s : State) (p : Nat) : State :=
  let tag := (s.link_ p).tag
  let s := (List.range 8).foldl (fun (s : State) m => s.putTrain p m {}) (s.putLink p { tag := tag })
  let s := { s with joker := tabPut (dflt {}) p {} s.joker }
  let g := Pg.CP p
  let s := if s.jkState p = jkSubst then s
    else
      let s := (s.setFld g Fd.CP_JOKER_STAT_STATE jkIdle).setFld g Fd.CP_JOKER_STAT_LANE 0
      (List.range 4).foldl (fun (s : State) m => s.setFld g (Fd.CP_LANE_STAT_SLICE m) 0) s
  let x := s.intk p
  let lines := x.lines.map fun l => { l with taps := l.taps.map fun t => match t with | .missing => TapSt.missing | _ => .poisoned }
  let units := x.units.map fun u => { u with body := u.body.lost }
  let s := s.putIntk p { next := x.next, run := x.run, start := x.start, ended := x.ended, gap := x.gap, lost := x.lost, lines := lines, units := units }
  (s.setLink p lkDisabled).portSync p

/-- A pipeline: the units and the lines behind the tap delays are poisoned, and both context sets are empty (R611). -/
def State.resetPp (s : State) (g : Nat) : State :=
  let x := s.pipe_ g
  let s := x.units.foldl (fun (s : State) u => (s.qPopN u.queue u.words).1) s
  let s := s.putPipe g { units := x.units.map fun u => { u with body := u.body.lost, words := 0 }, ring := x.ring }
  (List.range 128).foldl (fun (s : State) (k : Nat) =>
    let b := tabGet (dflt {}) s.tapBuf k
    if b.lines.isEmpty || s.pipeOf (k / 8) (k % 8) != g then s
    else { s with tapBuf := tabPut (dflt {}) k { b with lines := b.lines.map fun l => { l with body := l.body.lost } } s.tapBuf }) s

/-- The stitcher: lines in the alignment window are poisoned, trims and the dot-grid measurement are gone. -/
def State.resetSti (s : State) : State :=
  let s := { s with dot := none }
  let s := (List.range 16).foldl (fun (s : State) p =>
    { s with corr := tabPut (dflt []) p ((s.corr_ p).map fun c => { c with body := c.body.lost }) s.corr }) s
  (List.range 4).foldl (fun (s : State) v => s.putSti v { s.sti v with trims := [], due := [], limit := [], sums := [] }) s

/-- Registration: windows are discarded, and the views acquire anew from their next line (R283). -/
def State.resetReg (s : State) : State :=
  (List.range 4).foldl (fun (s : State) v =>
    let x := s.view_ v
    let s := s.setView v { x with wins := [], bad := 0, acqN := 0 }
    if s.mode.job && x.begun && x.run then
      s.acquire v (Nat.max (s.sti v).next x.start) (s.on Pg.REG (Fd.REG_VIEW_CTL_ENC_EN v)) (s.copyAt v (s.sti v).next) else s)
    { s with winRes := [] }

/-- Masters: pending flips, captures and predictions end; a learning starts again (R308, R312). -/
def State.resetMst (s : State) : State :=
  (List.range 4).foldl (fun (s : State) v =>
    let m := s.mstV v
    s.putMst v { m with flips := [], cap := none, learn := none, relearn := m.relearn || m.learn.isSome, skipped := 0, good := 0 })
    { s with predict := none }

/-- The pixels compared in a cell so far become poisoned ones (class 1 of Table — Pixel classes). -/
def lostCounts (l : List Nat) : List Nat :=
  (l.zipIdx.map fun (e : Nat × Nat) => if e.2 = 0 then 0 else if e.2 = 1 then e.1 + l.headD 0 else e.1)

/-- The presence positions compared so far become uncompared ones. -/
def PresAcc.lost (a : PresAcc) : PresAcc := { a with g := 0, u := a.g + a.u, oi := 0, mi := 0 }

/-- An engine: its lines are poisoned, and the items that it has not written are lost (R610). -/
def State.resetIe (s : State) (e : Nat) : State :=
  let s := (s.engOf e).togo.foldl (fun (s : State) i => s.takeItem1 e i true) s
  let x := s.engOf e
  s.putEng e { x with
    togo := []
    lines := x.lines.map fun l => { l with px := l.px.map fun (_ : Pix) => ({ cls := 1 } : Pix), cm := l.cm.map fun _ => false }
    cells := x.cells.map fun a => { a with cnt := lostCounts a.cnt }
    pres := x.pres.map (·.lost), blocks := [], crops := []
    bands := x.bands.map fun b => { b with labels := 0, storm := none } }

/-- What a band brings after its items have been lost. -/
def BandItems.lost (b : BandItems) : BandItems :=
  { b with pieces := [], ahead := [], runs := [], storm := none, pres := b.pres.map (·.lost)
           cells := b.cells.map fun a => { a with cnt := lostCounts a.cnt } }

/-- The results of every view and of the job changed. -/
def State.mapRes (s : State) (f : Results → Results) : State := { s with resA := f s.resA, resN := f s.resN }
def Results.mapViews (r : Results) (f : ViewRes → ViewRes) : Results :=
  { r with views := (List.range 4).foldl (fun (t : Tab ViewRes) v => tabPut (dflt {}) v (f (tabGet (dflt {}) t v)) t) r.views }

/-- The merge: band items lose their pieces, and records on their way leave the cells they could belong to poisoned (R610). -/
def State.resetMrg (s : State) : State :=
  s.mapRes fun r => r.mapViews fun y =>
    { y with alarms := [], tails := [], bands := y.bands.map (·.lost)
             items := y.items.map fun (e : Nat × Nat × Item) => match e.2.2 with
               | .record x => (e.1, e.2.1, .poison x.cellNum x.rep)
               | _ => e }

/-- Verdicts: requests are cancelled (R403), and the records counted so far leave their cells poisoned (R610). -/
def State.resetVrd (s : State) : State :=
  (s.mapRes fun r => { r with
    cells := r.cells.map fun c => { c with recs := [], pois := true }
    reps := r.reps.map fun x => { x with free := [], recs := [], supp := 0 } }).cancelActs

/-- The queues: what they hold is lost, so the units of intake and of the pipelines and the engines' items are (R610). -/
def State.resetQf (s : State) : State :=
  let s := { s with queue := [], levels := [] }.showLevels
  let s := (List.range 16).foldl (fun (s : State) p =>
    let x := s.intk p
    s.putIntk p { x with units := x.units.map fun u => { u with body := u.body.lost, words := 0 } }) s
  let s := (List.range 8).foldl (fun (s : State) g =>
    let x := s.pipe_ g
    s.putPipe g { x with units := x.units.map fun u => { u with body := u.body.lost, words := 0 } }) s
  (List.range 8).foldl (fun (s : State) e =>
    let s := (s.engOf e).fifo.foldl (fun (s : State) i => s.takeItem1 e i true) s
    s.putEng e { s.engOf e with fifo := [], got := (s.engOf e).put }) s

/-- The streams: outputs and lines are discarded, and each waits for its next line block (R418, R422). -/
def State.resetStr (s : State) : State :=
  (List.range 7).foldl (fun (s : State) n =>
    let v := s.strView n
    let s := (s.str_ n).grids.foldl (fun (s : State) x => s.discardPartial x) s
    let x := s.str_ n
    let s := s.putStr n { want := x.want, ask := x.ask }
    if s.on Pg.STR (Fd.STR_S_CTL_EN n) && (s.tgOf v).running then s.awaitStream n (s.strNext v) 0 else s) s

/-- Sessions: records of open datagrams are lost and owed a GAP (R563); entries that wait and messages are discarded. -/
def State.resetNet (s : State) : State :=
  let s := s.sessions.foldl (fun (s : State) k =>
    let n := (s.sess k).fill.length
    if n = 0 then s else (s.putSess k { s.sess k with fill := [] }).sessLose k n 0) s
  { s with net := { s.net with arp := [], applies := [], keyLoad := [], wcpQ := [], wcpBusy := none } }.showApplies

/-- The block of a page loses every token and item it holds (R661). -/
def State.resetBlock (s : State) (p : Nat) : State :=
  match pageAt p with
  | none => s
  | some (k, n) => match k with
    | .cp => s.resetCp n
    | .pos =>
      let s := (List.range 4).foldl (fun (s : State) v => s.stopTriggers v) s
      let s := (List.range 2).foldl (fun (s : State) c => s.setChan c { travel := (s.chanOf c).travel }) s
      s.tgSyncAll
    | .dlr => { s with arb := tabClear 0 8 s.arb }
    | .pp => s.resetPp n
    | .sti => s.resetSti
    | .reg => s.resetReg
    | .mst => s.resetMst
    | .ie => s.resetIe n
    | .mrg => s.resetMrg
    | .rul => { s with hits := [] }
    | .vrd => s.resetVrd
    | .dec => { s.resetStr with dec := {} }
    | .str => s.resetStr
    | .tb => { s with tb := { s.tb with f := 0, fresh := true, good := 0, lastEdge := none, series := 0, bad := 0, tod := none, answered := [] } }
    | .crl => { s.cancelCalendar with crl := { s.cancelCalendar.crl with pulses := [], deferred := [], fired := [], switchAt := 0 } }
    | .evf => { s with evf := {}, raised := [] }
    | .qf => s.resetQf
    | .dma => { s with dma := [] }
    | .zip => ({ s with zip := {} }.setFifo 11 []).setFifo 12 []
    | .mc => { s with mc := tabPut (dflt {}) n {} s.mc }
    | .mcg => { s with mcg := {} }
    | .net => s.resetNet
    | .mtwi => (s.setFifo 8 []).setFifo 9 []
    | .twl => (({ s with twl := tabPut (dflt {}) n {} s.twl }).setFifo (2 * n) []).setFifo (2 * n + 1) []
    | .qspi => s.setFifo 10 []
    | .hlth => { s with hlth := { s.hlth with cal := [], crit := 0, bad := [], warnAt := [], low := none, high := 0 } }
    | .sys | .fuse | .boot | .clk | .supv0 | .supv1 | .tst | .eth | .pcie | .pins0 | .pins1 => s

/-- A soft reset of the block of a page (R661); one written while it is in progress is ignored. -/
def State.softReset (s : State) (p : Nat) : State :=
  if (pageAt p).isNone || s.on p Fd.HDR_PAGE_STAT_BUSY then s
  else ((s.resetRegs p).resetBlock p).setFld p Fd.HDR_PAGE_STAT_BUSY 1

/-- What follows from PAGE_CTL.EN at once: ports (R166), generators (R117), Ethernet links (R582). -/
def State.enChanged (s : State) (p : Nat) : State :=
  match pageAt p with
  | some (.cp, n) => s.portSync n
  | some (.pos, _) => s.tgSyncAll
  | some (.mtwi, _) => if s.blockOn p Fd.MTWI_CTL_EN then s else s.ownerReset 3
  | some (.eth, n) => if s.blockOn p Fd.ETH_CTL_EN then s else s.setFld (Pg.ETH n) Fd.ETH_STAT_LINK 0
  | _ => s

/-- A write of PAGE_CTL: EN, then SRST. -/
def State.pageCtl (s : State) (p : Nat) (w : Word) : State :=
  let s := (s.writeReg p Rg.HDR_PAGE_CTL w).enChanged p
  if wf w 1 1 = 1 then s.softReset p else s

/-- PAGE_SRST; PAGE_CTL is neither a block register nor COMMIT, so that no guard or lock refuses it (R664). -/
def execPageSrst (o : Owner) (p : Fin 128) (w : Word) (s : State) : Host.Outcome State Fault Refusal :=
  .next (if s.reaches o p && (pageAt p).isSome then (s.touch o p).pageCtl p w else s)

/-- PAGE_SRST_DONE. -/
def execPageSrstDone (p : Fin 128) (s : State) : Host.Outcome State Fault Refusal :=
  .next (if (pageAt p).isSome then s.setFld p Fd.HDR_PAGE_STAT_BUSY 0 else s)

/-! ### Leases of stages (R611, R612) -/

/-- The blocks of the data path (R615). -/
def stagePages : List Nat := (List.range 16).map Pg.CP ++ (List.range 8).map Pg.PP ++
  [Pg.STI, Pg.REG, Pg.MST] ++ (List.range 8).map Pg.IE ++ [Pg.MRG, Pg.RUL, Pg.VRD, Pg.DEC, Pg.STR, Pg.NET]

/-- The last pushed word of a queue that has a frame open ends the frame, poisoned (R611). -/
def State.closeFrame (s : State) (q : Nat) : State :=
  let v := s.q q
  if !v.open_ then s
  else match v.words.reverse with
    | [] => s.setQ q { v with open_ := false }
    | w :: rest => s.setQ q { v with words := (mkWord w.data tagPoisoned w.sof true :: rest).reverse, open_ := false }

/-- The queues that a stage fills, with its number as a holder of credits. -/
def State.stageQueues (s : State) (p : Nat) : List (Nat × Nat) :=
  if Pg.CP 0 ≤ p ∧ p < Pg.CP 16 then
    (s.queue.filter fun e => e.1 / 64 == p - Pg.CP 0).map fun e => (e.1, intakeHolder)
  else if p = Pg.NET then (s.queue.filter fun e => decide (4096 ≤ e.1) && decide (e.1 < 7936)).map fun e => (e.1, 2)
  else []

/-- LEASE_TIMEOUT: the stage of a page has completed no handshake for DATA_MS while it holds credits and has input waiting. -/
def State.leaseTimeout (s : State) (p : Nat) : State :=
  if !s.on Pg.SUPV1 Fd.SUPV1_CTL_LEASE_EN || !stagePages.contains p || s.on p Fd.HDR_PAGE_STAT_BUSY then s
  else
    let s := (s.stageQueues p).foldl (fun (s : State) e => (s.closeFrame e.1).qReturn e.1 e.2) s
    let s := if Pg.CP 0 ≤ p ∧ p < Pg.CP 16 then
        let x := s.intk (p - Pg.CP 0)
        s.putIntk (p - Pg.CP 0) { x with lines := x.lines.map fun l => { l with credit := l.credit.map fun c => (c.1, c.2.1, false) } }
      else s
    let s := (s.revoked p 0 0).softReset p
    { s with revoking := insertBy id p s.revoking }.setFld Pg.SUPV1 Fd.SUPV1_STAT_DRAIN_ACTIVE 1

def execLeaseTimeout (p : Fin 128) (s : State) : Host.Outcome State Fault Refusal := .next (s.leaseTimeout p)

/-- STAGE_RESET_CHECK: DATA_MS after a revocation the block has completed a handshake, or it is dead (R612, R617). -/
def State.stageCheck (s : State) (p : Nat) (alive : Bool) : State :=
  if !s.revoking.contains p then s
  else
    let s := { s with revoking := s.revoking.filter (· != p) }
    if alive then s.logErr Er.STAGE_REVOKED Pg.SUPV1 p
    else { s with dead := insertBy id p s.dead }.logErr Er.STAGE_DEAD Pg.SUPV1 p

def execStageResetCheck (p : Fin 128) (alive : Bool) (s : State) : Host.Outcome State Fault Refusal := .next (s.stageCheck p alive)

/-! ### Draining (R615-R617) -/

/-- Whether a copy's job has results that have still to leave. -/
def State.recordsHeld (s : State) (c : Copy) : Bool :=
  let r := s.res c
  (s.jobOf c).isSome && (decide (0 < s.itemCount c) || (List.range 4).any (fun v => !(s.vres c v).alarms.isEmpty) || !r.front.isEmpty ||
    !r.ready.isEmpty || !r.whole.isEmpty || !r.out.isEmpty || (r.ending.isSome && !r.endSent))

/-- Whether a stage of Table — SUPV1 page, DRAIN_STAT, holds data; a dead stage counts as empty (R617). -/
def State.stageHolds (s : State) (k : Nat) : Bool :=
  let live (p : Nat) : Bool := !s.dead.contains p
  match k with
  | 6 => (List.range 16).any fun p => live (Pg.CP p) && (let x := s.intk p; !x.lines.isEmpty || !x.units.isEmpty || x.gap.isSome)
  | 5 => (List.range 8).any fun g => live (Pg.PP g) && !(s.pipe_ g).units.isEmpty
  | 4 => live Pg.STI && (List.range 16).any fun p => !(s.corr_ p).isEmpty
  | 3 => (List.range 8).any fun e => live (Pg.IE e) && !(s.engOf e).lines.isEmpty
  | 2 => live Pg.MRG && live Pg.RUL && live Pg.VRD && (s.recordsHeld .active || s.recordsHeld .next)
  | 1 => live Pg.NET && (s.sessions.any (fun k => !(s.sess k).fill.isEmpty) ||
      s.queue.any fun e => decide (4096 ≤ e.1) && decide (e.1 < 6144) && decide (0 < e.2.depth))
  | _ => false

/-- The earliest stage, counting from intake, that holds data; 7 for none (R616). -/
def State.earliest (s : State) : Nat := ([6, 5, 4, 3, 2, 1].find? fun k => s.stageHolds k).getD 7

/-- DRAIN_STAT: EMPTY while nothing drains (R616). -/
def State.drainStat (s : State) : Word :=
  BitVec.ofNat 32 (if s.on Pg.SUPV1 Fd.SUPV1_STAT_DRAIN_ACTIVE then s.earliest else 7)

/-- DRAIN_COMPLETE: in HOLD what the records stage still holds leaves first (R70); with every stage empty and no revocation in progress
the drain is over. -/
def State.drainComplete (s : State) : State :=
  if !s.on Pg.SUPV1 Fd.SUPV1_STAT_DRAIN_ACTIVE then s
  else
    let s := if s.mode = .hold then s.flush (s.toSend .active + s.toSend .next) else s
    if s.earliest ≠ 7 ∨ !s.revoking.isEmpty then s
    else
      let s := s.setFld Pg.SUPV1 Fd.SUPV1_STAT_DRAIN_ACTIVE 0
      if s.mode = .hold then s.setFld Pg.SYS Fd.SYS_MODE_HOLD_CLEARABLE 1 else s

def execDrainComplete (s : State) : Host.Outcome State Fault Refusal := .next s.drainComplete

end Sys2Proof.Machine
end

