-- ==== Sys2Proof/Machine/Commits.lean ====
section
/-!
DEFINITION. COMMIT_REQ and COMMIT_EFFECT (R666-R669): which boundaries and values each page accepts, in which parts a commit takes
effect, and when a boundary is reached (R10, R15, R16).
-/
namespace Sys2Proof.Machine

/-! ### What a commit would change -/

/-- A register of a page as a commit of its shadow would leave it. -/
def State.newWord (s : State) (p off : Nat) : Word := mergeRws (p * 4096 + off) (s.rd p off) (s.rdShadow p off)

/-- The registers of a page that a commit would change. -/
def State.changed (s : State) (p : Nat) : List Nat := (rwsOffsets p).filter fun o => s.newWord p o != s.rd p o

/-- The state in which a page's shadow is in force, for the checks of its chapter. -/
def State.committed (s : State) (p : Nat) : State := (rwsOffsets p).foldl (fun (s : State) o => s.wr p o (s.newWord p o)) s

/-- Registers of a page with the values a commit gives them. -/
def State.newVals (s : State) (p : Nat) (l : List Nat) : List (Nat × Word) := l.map fun o => (p * 4096 + o, s.newWord p o)

/-! ### What would hold afterwards (R50, R291) -/

/-- The job in the next context, with the one that is still being loaded into it (R77). -/
def State.nextJob (s : State) : Option JobCtx :=
  match s.jobN with
  | some j => some j
  | none => if s.on Pg.SYS Fd.SYS_JOB_STAT_NEXT_VALID then some (s.jobCtx (s.fld Pg.SYS Fd.SYS_JOB_STAT_NEXT_ID)) else none

/-- The state in which every pending commit is in force: for the active copy, those that wait for a line or a repeat; for the next copy,
those for the next job as well. -/
def State.settled (s : State) (c : Copy) : State :=
  let takes (b : Bound) : Bool := match b with | .job _ => c == .next | _ => true
  pageList.foldl (fun (t : State) p => match s.pend p with
    | none => t
    | some k => (k.parts.filter fun (x : Part) => takes x.bound).foldl (fun (t : State) (x : Part) =>
        (x.regs.filter fun e => decide (e.1 < 2 ^ 24)).foldl (fun (t : State) e =>
          t.wr p (e.1 % 4096) (mergeRws e.1 (t.rd p (e.1 % 4096)) e.2)) t) t) s

/-- The state that a commit of a page leads to for a copy: for the active copy a commit for the next job changes nothing, and for the next
copy it goes before JOB_REGS (R205). -/
def State.afterCommit (s : State) (p at_ : Nat) (c : Copy) : State :=
  let t := s.settled c
  let t := match s.nextJob with | some j => t.asNext j | none => t
  match at_, c with
  | 4, .active => t
  | 4, .next =>
    let vals := (rwsOffsets p).map fun o => (p * 4096 + o, s.newWord p o)
    { (t.committed p) with commits := tabPut (dflt none) p (some ⟨4, vals, [⟨vals, .job 0, []⟩], []⟩) t.commits }
  | _, _ => t.committed p

/-- The configurations that a commit leads to: the active job's, and beside it that of a next job (R50, R78). -/
def State.configs (s : State) (p at_ : Nat) : List (State × Copy) :=
  (s.afterCommit p at_ .active, Copy.active) :: (if s.nextJob.isSome then [(s.afterCommit p at_ .next, Copy.next)] else [])

/-- What admission refuses of a commit (R50). -/
def State.admitCommit (s : State) (p at_ : Nat) : List Flt := admitOver (s.configs p at_) 0

/-- The configurations whose tables a commit is checked against: the active copy, or the next job's for a commit to it. -/
def State.checked (s : State) (p at_ : Nat) : List (State × Copy) :=
  (s.configs p at_).filter fun x => (x.2 == .next) == (at_ == 4)

/-! ### Boundaries (R15, R16) -/

/-- Whether a view receives line triggers. -/
def State.running (s : State) (v : Nat) : Bool := (s.tgOf v).running

/-- Whether a page serves a view that receives line triggers (R16, R668). In SETUP the blocks behind registration take no lines. -/
def State.serves (s : State) (p v : Nat) : Bool :=
  s.running v && match pageAt p with
    | some (.cp, n) => s.on Pg.STI (Fd.STI_PORT_CTL_IN_VIEW n) && s.pView n == v
    | some (.pp, g) => (List.range 16).any fun n =>
        s.on Pg.STI (Fd.STI_PORT_CTL_IN_VIEW n) && s.pView n == v && (s.stripes n (s.nextLine v)).any fun k => s.pipeOf n k == g
    | some (.mrg, _) | some (.rul, _) | some (.vrd, _) | some (.ie, _) | some (.zip, _) | some (.reg, _) | some (.mst, _) => s.mode != .setup
    | _ => true

/-- The line of a view after the last one that has entered the first stage of a page's block (R15). -/
def State.stageNext (s : State) (p v : Nat) : Nat :=
  match pageAt p with
  | some (.pos, _) | some (.cp, _) => s.nextLine v
  | some (.dlr, _) => s.taken v
  | _ => tabGet (dflt 0) s.entered (4 * p + v)

/-- The boundary that AT names in a view (R15). The lines that have entered the first stage of VRD are those that have been compared, so that
a next-repeat commit of VRD holds from the first repeat of the view on of which no line has been (R404). -/
def State.boundOf (s : State) (p v at_ : Nat) : Bound :=
  let k := s.stageNext p v
  match at_ with
  | 0 => .now
  | 1 => .line v k
  | 2 => .line v (blockLine k)
  | 3 =>
    if p = Pg.VRD then .repeatStart v ((s.vres .active v).reach + 1)
    else .repeatStart v ((if k = 0 then 0 else s.repOf v (k - 1)) + 1)
  | _ => .job v

/-- A part that waits in one view. -/
def State.viewPart (s : State) (p v at_ : Nat) (l : List (Nat × Word)) : Part :=
  ⟨l, if s.serves p v then s.boundOf p v at_ else .now, [v]⟩

/-- A part of a page whose boundaries lie in the lowest view it serves (R16). -/
def State.pagePart (s : State) (p at_ : Nat) (l : List (Nat × Word)) : Part :=
  match (List.range 4).find? fun v => s.serves p v with
  | some v => if at_ = 0 then ⟨l, .now, List.range 4⟩ else ⟨l, s.boundOf p v at_, [v]⟩
  | none => ⟨l, .now, List.range 4⟩

/-- A part for each view, with the view's own copy of a register (R292, R429). -/
def State.copyParts (s : State) (p off : Nat) (bound : Nat → Bound) : List Part :=
  let w := s.newWord p off
  (List.range 4).map fun v => ⟨[(viewKey p off v, w)], if s.serves p v then bound v else .now, [v]⟩

/-! ### The pages' own rules -/

/-- What a commit request comes to: the state with what a refusal records, and the parts if it is accepted. -/
abbrev Plan := State × Option (List Part)

/-- A refusal with nothing to record but COMMIT.REFUSED, and one that logs faults under the page. -/
def State.turnDown (s : State) : Plan := (s, none)
def State.turnDownFor (s : State) (p : Nat) (l : List Flt) : Plan :=
  ((sortBy (fun (f : Flt) => f.1.code) l).foldl (fun (s : State) (f : Flt) => s.logErr f.1 p f.2.1 f.2.2) s, none)

/-- Parts accepted where no fault is found. -/
def State.planIf (s : State) (p : Nat) (l : List Flt) (parts : List Part) : Plan :=
  if l.isEmpty then (s, some parts) else s.turnDownFor p l

/-- The views whose enabled generator counts from a channel (R121). -/
def State.sourced (s : State) (ch : Nat) : List Nat :=
  (List.range 4).filter fun v => s.on Pg.POS (Fd.POS_TG_CTL_EN v) && s.fld Pg.POS (Fd.POS_TG_CTL_SRC v) == ch

/-- Whether POS values break R10, R102, R105 or R116. -/
def State.posBad (t : State) : Bool :=
  ((List.range 2).any fun c =>
    let f (x : Fld) : Nat := t.fld Pg.POS x
    let bits := f (Fd.POS_CH_SSI_CTL_BITS c)
    let div := f (Fd.POS_CH_SSI_CTL_CLK_DIV c)
    decide (1 < f (Fd.POS_CH_CTL_INDEX c)) || decide ((t.rd Pg.POS (Rg.POS_CH_CPR c)).toNat < 2) || bits == 0 || decide (32 < bits) ||
    (if div = 0 then f (Fd.POS_CH_CTL_MODE c) == 3 else decide (div < 24) || decide (249 < div)) ||
    decide (f (Fd.POS_CH_SSI_CTL_READ_PERIOD c) < (bits + 1) * 2 * (div + 1) + 2000) ||
    decide (8 < f (Fd.POS_CH_SPEED_CTL_AVG c)) || f (Fd.POS_CH_SPEED_CTL_STILL_MS c) == 0 || decide (1000 < f (Fd.POS_CH_SPEED_CTL_STILL_MS c))) ||
  (List.range 4).any fun v =>
    decide (t.fld Pg.POS (Fd.POS_TG_CTL_MIN_PERIOD v) < 250) || decide ((t.rd Pg.POS (Rg.POS_TG_RATIO v)).toNat < 65536)

/-- The boundary for the checks of a commit: a page none of whose views receives line triggers takes its commit at once (R668). -/
def State.atOf (s : State) (p at_ : Nat) : Nat := if (List.range 4).any fun v => s.serves p v then at_ else 0

/-- POS: each generator at its own view's boundary (R120), the channels at once or with the next job (R121): at the changeover line of the
lowest view that a generator counts for and that has one, while any of these views receives triggers (R668). -/
def State.planPos (s : State) (at_ : Nat) : Plan :=
  let p := Pg.POS
  let t := s.committed p
  let ch := s.changed p
  let chanRegs (c : Nat) : List Nat := ch.filter [Rg.POS_CH_CTL c, Rg.POS_CH_CPR c, Rg.POS_CH_SSI_CTL c, Rg.POS_CH_SPEED_CTL c].contains
  let genRegs (v : Nat) : List Nat := ch.filter [Rg.POS_TG_CTL v, Rg.POS_TG_RATIO v].contains
  let chans := (List.range 2).filter fun c => !(chanRegs c).isEmpty
  let gens := (List.range 4).filter fun v => !(genRegs v).isEmpty
  if t.posBad || chans.any (fun c => !(s.sourced c).isEmpty && at_ != 4) then s.turnDown
  else
    let rate := (List.range 4).any fun v => t.minPeriod v != s.minPeriod v
    let views := if gens.isEmpty then List.range 4 else []
    let at_ := s.atOf p at_
    s.planIf p (if rate then s.admitCommit p at_ else []) (
      (gens.map fun v => s.viewPart p v at_ (s.newVals p (genRegs v))) ++
      chans.map fun c => match (s.sourced c).any s.running, (s.sourced c).find? fun v => s.running v || s.enables .next v with
        | true, some v => ⟨s.newVals p (chanRegs c), .job v, views⟩
        | _, _ => ⟨s.newVals p (chanRegs c), .now, views⟩)

/-- CP (R198, R201, R234). -/
def State.planCp (s : State) (n at_ : Nat) : Plan :=
  let p := Pg.CP n
  let t := s.committed p
  let on (q : Nat) : Bool := t.on (Pg.CP q) Fd.CP_PORT_CTL_EN
  let gang (q : Nat) : Bool := t.fld (Pg.CP q) Fd.CP_PORT_CTL_LANES == 3
  let port := (s.changed p).contains Rg.CP_PORT_CTL
  let at_ := s.atOf p at_
  let gangF : List Flt := if (n % 2 == 1 && gang n) || (on (n / 2 * 2 + 1) && gang (n / 2 * 2)) then [(Er.GANG_CONFLICT, n, 0)] else []
  let l := if port then gangF ++ (s.checked p at_).flatMap (fun x => x.1.ctxFaults x.2) ++ s.admitCommit p at_ else []
  if l.isEmpty ∧ (t.fld p Fd.CP_TRAIN_CTL_REQ_MODE = 3 ∨ t.fld p Fd.CP_PORT_CTL_DEPTH = 3) then s.turnDown
  else s.planIf p l [s.pagePart p at_ (s.newVals p (s.changed p))]

/-- DLR: device configuration (R241, R242). -/
def State.planDlr (s : State) (at_ : Nat) : Plan :=
  let p := Pg.DLR
  let t := s.committed p
  let ch := s.changed p
  let pipesOf (q : Nat) : List Nat :=
    if t.dlrMap q 3 1 = 1 then (List.range (t.dlrMap q 4 3 + 1)).map fun k => t.dlrMap q 0 3 + k else [t.dlrMap q 0 3]
  let bad (q : Nat) : Bool := t.portUsed q &&
    ((pipesOf q).any (fun g => decide (7 < g) || !t.blockOn (Pg.PP g) Fd.PP_CTL_EN) || (t.dlrMap q 3 1 == 0 && t.dlrMap q 4 3 != 0))
  let map := ch.any fun o => o != Rg.DLR_CTL
  let flag (x : Plan) : Plan := match x with | (s, none) => (s.flag p Fd.DLR_STAT_MAP_REFUSED, none) | x => x
  match ch with
  | [] => (s, some [s.pagePart p at_ []])
  | o :: _ =>
    if s.mode ≠ .idle ∧ s.mode ≠ .setup then flag (s.turnDownFor p [(Er.DLR_NOT_IDLE, o, 0)])
    else
      let l : List Flt := match map, (List.range 16).find? bad with
        | false, _ => []
        | true, some q => (Er.DLR_MAP, q, 0) :: s.admitCommit p (s.atOf p at_)
        | true, none => s.admitCommit p (s.atOf p at_)
      flag (s.planIf p l [s.pagePart p at_ (s.newVals p ch)])

/-- The views whose tables a commit of STI or REG is checked for (R291): those of the copy's job, or those that SETUP enables. -/
def State.checkViews (t : State) (c : Copy) : List Nat :=
  (List.range 4).filter fun v => if t.mode.job then t.enables c v else t.on Pg.STI ⟨Rg.STI_VIEW_CTL v, 0, 1⟩

/-- What R291 refuses of a commit of STI or REG. -/
def State.stiCommit (s : State) (p at_ : Nat) : List Flt := (s.checked p at_).flatMap fun x => x.1.stiFaults x.2 (x.1.checkViews x.2) 0

/-- Whether a view runs a job: the active one, or in a changeover, from its changeover line on, the next one. -/
def State.runsJob (s : State) (v : Nat) : Bool :=
  s.mode.job && (s.enables .active v || (s.mode == .changeover && s.enables .next v && (s.view_ v).started))

/-- STI: each view's registers at its own boundary (R292). A port that moves to another view waits for its present view while that view
receives triggers. -/
def State.planSti (s : State) (at_ : Nat) : Plan :=
  let p := Pg.STI
  let t := s.committed p
  let ch := s.changed p
  let port := (List.range 16).filter fun q => ch.contains (Rg.STI_PORT_CTL q)
  let viewsOf (q : Nat) : List Nat := (if s.on p (Fd.STI_PORT_CTL_IN_VIEW q) then [s.fld p (Fd.STI_PORT_CTL_VIEW q)] else []) ++
    (if t.on p (Fd.STI_PORT_CTL_IN_VIEW q) then [t.fld p (Fd.STI_PORT_CTL_VIEW q)] else [])
  let own (q : Nat) : Option Nat := match (viewsOf q).find? s.running with | some v => some v | none => (viewsOf q).head?
  let view := (List.range 4).filter fun v => ch.contains (Rg.STI_VIEW_CTL v)
  if port.any (fun q => (viewsOf q).any s.runsJob && at_ != 4) || view.any (fun v => s.runsJob v && at_ != 2) then s.turnDown
  else
    let mine (v : Nat) : List Nat := ((port.filter fun q => own q == some v).map Rg.STI_PORT_CTL) ++
      if view.contains v then [Rg.STI_VIEW_CTL v] else []
    let none_ := (port.filter fun q => (viewsOf q).isEmpty).map Rg.STI_PORT_CTL
    let vs := (List.range 4).filter fun v => !(mine v).isEmpty
    let k := s.atOf p at_
    s.planIf p (if port.isEmpty then [] else s.stiCommit p k ++ s.admitCommit p k) (
      (vs.map fun v => s.viewPart p v at_ (s.newVals p (mine v))) ++ (if none_.isEmpty then [] else [⟨s.newVals p none_, .now, []⟩]) ++
      if ch.contains Rg.STI_CTL then [s.pagePart p at_ (s.newVals p [Rg.STI_CTL])] else [])

/-- REG: as STI, and REG.CTL at each view's next update line (R292). -/
def State.planReg (s : State) (at_ : Nat) : Plan :=
  let p := Pg.REG
  let ch := s.changed p
  let mine (v : Nat) : List Nat := ch.filter [Rg.REG_VIEW_CTL v, Rg.REG_VIEW_PHASE v].contains
  let vs := (List.range 4).filter fun v => !(mine v).isEmpty
  if vs.any fun v => s.runsJob v && at_ != 4 then s.turnDown
  else s.planIf p (if vs.isEmpty then [] else s.stiCommit p (s.atOf p at_)) (
    (vs.map fun v => s.viewPart p v at_ (s.newVals p (mine v))) ++
    if ch.contains Rg.REG_CTL then s.copyParts p Rg.REG_CTL .update else [])

/-- Whether MST values lie outside their tables (R10): TOL_MIN up to 254, K from 1. -/
def State.mstBad (t : State) : Bool := t.fld Pg.MST Fd.MST_TOL_CTL_TOL_MIN == 255 || t.fld Pg.MST Fd.MST_ADAPT_CTL_K == 0

/-- MST: job-scoped registers only with the next job, FREEZE also at each view's next repeat (R333, R335). -/
def State.planMst (s : State) (at_ : Nat) : Plan :=
  let p := Pg.MST
  let t := s.committed p
  let ch := s.changed p
  let old := s.rd p Rg.MST_ADAPT_CTL
  let new := t.rd p Rg.MST_ADAPT_CTL
  let freeze := decide (old ≠ new) && wfSet old 1 1 (wf new 1 1) == new
  let jobReg := ch.any fun o => o == Rg.MST_LEARN_CTL || o == Rg.MST_TOL_CTL || o == Rg.MST_FIT_CTL || (o == Rg.MST_ADAPT_CTL && !freeze)
  if s.mode.job && ((jobReg && at_ != 4) || (freeze && at_ != 3 && at_ != 4)) || t.mstBad then s.turnDown
  else
    let short : List Flt := match at_, s.nextJob with
      | 4, some j =>
        let u := s.asNext j
        if ch.contains Rg.MST_LEARN_CTL then
          (u.learnShort ((List.range 4).filter fun v => u.enables .next v && u.willLearn .next v) (3 + 2 * wf (t.rd p Rg.MST_LEARN_CTL) 0 2)).map fun v =>
            (Er.MST_LEARN_SPACE, v, 0)
        else []
      | _, _ => []
    let byView := s.mode.job && freeze && at_ == 3
    let rest := if byView then ch.filter (· != Rg.MST_ADAPT_CTL) else ch
    s.planIf p short (
      (if byView then s.copyParts p Rg.MST_ADAPT_CTL (fun v => s.boundOf p v 3) else []) ++
      if rest.isEmpty then [] else [s.pagePart p at_ (s.newVals p rest)])

/-- Whether values of VRD lie outside their tables (R10, R405): UNINSP_PERMIL up to 1,000, LANE_W at least 1. -/
def State.vrdBad (t : State) : Bool :=
  decide (1000 < t.fld Pg.VRD Fd.VRD_UNINSP_CTL_UNINSP_PERMIL) || t.rd Pg.VRD Rg.VRD_LANE_W == 0

/-- Whether values of MRG lie outside their tables (R10, R405): REC_LIMITv from 1. -/
def State.mrgBad (t : State) : Bool := (List.range 4).any fun v => t.fld Pg.MRG (Fd.MRG_REC_LIMIT_b0 v) == 0

/-- A page whose registers change together, with the boundaries it accepts while a job runs. -/
def State.planPage (s : State) (p at_ : Nat) (ok : Nat → Bool) : Plan :=
  let ch := s.changed p
  if s.mode.job && !ch.all ok then s.turnDown else (s, some [s.pagePart p at_ (s.newVals p ch)])

/-- IE: device configuration (R369). -/
def State.planIe (s : State) (p : Nat) : Plan :=
  if s.mode = .idle ∨ s.mode = .setup then (s, some [⟨s.newVals p (s.changed p), .now, List.range 4⟩])
  else
    let (t, r) := s.turnDownFor p [(Er.IE_NOT_IDLE, 0, 0)]
    (t.flag p Fd.IE_STAT_CFG_REFUSED, r)

/-! ### Streams (R427, R428, R430) -/

/-- A field of a stream's descriptor in the shadow of the stream table. -/
def State.strAt (s : State) (base n lo len : Nat) : Nat := s.winBits (base + 0x800 * n) lo len
def State.strS (s : State) (n lo len : Nat) : Nat := s.strAt strShadowAt n lo len

/-- The view and the columns and planes of a shadow descriptor's source. -/
def State.strSrcAt (s : State) (base n : Nat) : Nat × Nat × Nat :=
  let k := s.strAt base n 2 4
  if s.strAt base n 0 2 = 1 then
    (s.pView k, s.portCtx .active k 0 0 16, if s.portCtx .active k 0 16 2 = 0 then 1 else 3)
  else (k % 4, s.vWidth .active k, s.vPlanes .active k)

def State.strSrc (s : State) (n : Nat) : Nat × Nat × Nat := s.strSrcAt strShadowAt n

/-- The offset in the stream table of what a shadow descriptor or its kernel breaks, if anything (STR_FORMAT). -/
def State.strFault (s : State) (n : Nat) : Option Nat :=
  let d (lo len : Nat) : Nat := s.strS n lo len
  let (_, width, planes) := s.strSrc n
  let tap (ph t : Nat) : Int := sext 16 (s.winBits (strShadowAt + 0x800 * n + 0x400) (128 * ph + 16 * t) 16)
  let base := 0x800 * n
  if 1 < d 0 2 ∨ (d 0 2 = 0 ∧ 3 < d 2 4) ∨ d 6 3 = 0 ∨ 2 ^ planes ≤ d 6 3 ∨ 6 < d 9 3 ∨ d 14 2 = 3 then some base
  else if width < d 32 19 + d 64 19 then some (base + 4)
  else if d 64 19 = 0 ∨ 262144 < d 64 19 then some (base + 8)
  else if d 128 20 < 0x4000 ∨ 0x80000 < d 128 20 then some (base + 16)
  else if d 64 19 * 65536 ≤ d 160 16 + d 96 15 * d 128 20 then some (base + 20)
  else if d 192 64 % 4096 ≠ 0 then some (base + 24)
  else if d 256 24 = 0 then some (base + 32)
  else ((List.range 64).find? fun ph => sumI ((List.range 8).map fun t => tap ph t) != 4096).map fun ph => base + 0x400 + 16 * ph

/-- What a stream asks of DEC in samples per second, of the decimation buffers in bytes, and of DRAM in bytes per second, in units of
1 ÷ `rateDen` where rates are concerned. -/
def State.strAskAt (s : State) (base n : Nat) : Nat × Nat × Nat :=
  let d (lo len : Nat) : Nat := s.strAt base n lo len
  let (v, _, _) := s.strSrcAt base n
  let np := popcount 3 (d 6 3)
  let step := 2 ^ d 9 3
  let ow := d 96 15 + 1
  let b := if step = 1 then 0 else (if d 12 1 = 0 then 24 else 12) + if 16 ≤ step then 4 else 0
  let c := if 16 ≤ step then 2 else 1
  let stride := 64 * cdiv (32 + c * ow * np * (if d 13 1 = 0 then 2 else 1)) 64
  (d 64 19 * np * s.lineRate v, ow * np * b, if d 14 2 = 1 then 0 else stride * s.lineRate v / step)

def State.strAsk (s : State) (n : Nat) : Nat × Nat × Nat := s.strAskAt strShadowAt n

/-- The first stream with which a sum passes its limit. -/
def firstOver (l : List (Nat × Nat)) (lim : Nat) : Option Nat :=
  (l.foldl (fun (a : Nat × Option Nat) (e : Nat × Nat) =>
    let t := a.1 + e.2
    (t, match a.2 with | some n => some n | none => if lim < t then some e.1 else none)) (0, none)).2

/-- The faults of a stream configuration with their flags in STR.STAT (R427). -/
def State.strFaults (s : State) : List (Flt × Fld) :=
  let on := (List.range 7).filter fun n => wf (s.newWord Pg.STR (Rg.STR_S_CTL n)) 0 1 == 1
  let ask := on.map fun n => (n, s.strAsk n)
  let sum (f : Nat × Nat × Nat → Nat) (lim : Nat) : Option Nat := firstOver (ask.map fun e => (e.1, f e.2)) lim
  let one (e : ErrCode) (f : Fld) (n : Option Nat) : List (Flt × Fld) := match n with | some n => [((e, n, 0), f)] | none => []
  one Er.DEC_ADMIT Fd.STR_STAT_ADMIT_REFUSED (sum (·.1) (38400000000 * s.rateDen)) ++
  one Er.DEC_SPACE Fd.STR_STAT_ADMIT_REFUSED (sum (·.2.1) 2097152) ++
  one Er.STR_RATE Fd.STR_STAT_RATE_REFUSED (sum (·.2.2) (16000000000 * s.rateDen)) ++
  on.filterMap fun n => (s.strFault n).map fun o => ((Er.STR_FORMAT, n, o), Fd.STR_STAT_FORMAT_REFUSED)

/-- The words of a stream's table that a commit brings. -/
def State.strWords (s : State) (n : Nat) : List (Nat × Word) :=
  ((List.range 512).filter fun i => s.win (strShadowAt + 0x800 * n + 4 * i) != s.win (strActiveAt + 0x800 * n + 4 * i)).map fun i =>
    (strActiveAt + 0x800 * n + 4 * i, s.win (strShadowAt + 0x800 * n + 4 * i))

/-- The view in which a stream's boundary lies: its present view if it is enabled, else its new one; none if that receives no
triggers. -/
def State.strBoundView (s : State) (n : Nat) : Option Nat :=
  let now := s.strView n
  let new := (s.strSrc n).1
  if s.on Pg.STR (Fd.STR_S_CTL_EN n) && s.running now then some now else if s.running new then some new else none

/-- STR: each stream at its own boundary (R418, R430). -/
def State.planStr (s : State) (at_ : Nat) : Plan :=
  let p := Pg.STR
  let faults := s.strFaults
  if !faults.isEmpty then
    let s := faults.foldl (fun (s : State) (f : Flt × Fld) => s.flag p f.2) s
    s.turnDownFor p (faults.map (·.1))
  else
    let ch := s.changed p
    let regs (n : Nat) : List (Nat × Word) := s.newVals p (ch.filter (· == Rg.STR_S_CTL n)) ++ s.strWords n
    (s, some (
      (((List.range 7).filter fun n => !(regs n).isEmpty).map fun n => ⟨regs n, .stream n, match s.strBoundView n with | some v => [v] | none => List.range 4⟩) ++
      if ch.contains Rg.STR_CTL then [s.pagePart p at_ (s.newVals p [Rg.STR_CTL])] else []))

/-- The plan of a page for a boundary (R666). -/
def State.plan (s : State) (p at_ : Nat) : Plan :=
  match pageAt p with
  | some (.pos, _) => s.planPos at_
  | some (.cp, n) => s.planCp n at_
  | some (.dlr, _) => s.planDlr at_
  | some (.sti, _) => s.planSti at_
  | some (.reg, _) => s.planReg at_
  | some (.mst, _) => s.planMst at_
  | some (.ie, _) => s.planIe p
  | some (.mrg, _) => if (s.committed p).mrgBad then s.turnDown else s.planPage p at_ fun _ => at_ == 4
  | some (.vrd, _) => if (s.committed p).vrdBad then s.turnDown else s.planPage p at_ fun o => o == Rg.VRD_CTL || at_ == 3 || at_ == 4
  | some (.dec, _) => (s, some (if (s.changed p).isEmpty then [] else s.copyParts p Rg.DEC_CTL fun v => .line v (blockLine (s.stageNext p v))))
  | some (.str, _) => s.planStr at_
  | some (.zip, _) =>
    let crop := (s.committed p).fld p Fd.ZIP_CTL_CROP_DYN != s.fld p Fd.ZIP_CTL_CROP_DYN
    if s.mode.job && crop then s.planPage p at_ fun _ => at_ == 4 else (s, some [⟨s.newVals p (s.changed p), .now, List.range 4⟩])
  | _ => s.planPage p at_ fun _ => true

/-! ### A boundary is reached -/

/-- Every part of a page's pending commit whose boundary the next line of its view is, or lies before. -/
def State.commitEffect (s : State) (p : Nat) : State :=
  let s := s.applyParts p (· == .now) none
  let s := ((List.range 4).filter fun v => s.running v).foldl (fun (s : State) v =>
    let k := s.stageNext p v
    let x := s.view_ v
    let past : Bool := s.fld Pg.SYS Fd.SYS_CHG_CTL_STATE != 0 && x.past && (p == Pg.STI || p == Pg.REG) &&
      (match x.chg with | some c => decide (c ≤ k) | none => false)
    s.boundary p v k (s.repOf v k) past) s
  let s := if p = Pg.STR then (List.range 7).foldl (fun (s : State) n => s.resetBoundary n) s else s
  if p = Pg.POS ∨ p = Pg.STI then s.tgSyncAll else s

/-- COMMIT_EFFECT. -/
def execCommitEffect (p : Fin 128) (s : State) : Host.Outcome State Fault Refusal := .next (s.commitEffect p)

/-- An accepted commit pends until its last boundary; streams await theirs. -/
def State.accept (s : State) (p at_ : Nat) (parts : List Part) : State :=
  let parts := if parts.isEmpty then [s.pagePart p at_ []] else parts
  let ask (n : Nat) : Nat := wf (s.newWord Pg.STR (Rg.STR_S_CTL n)) 1 1
  let views := (List.range 7).map fun n => s.strBoundView n
  let s := (s.setFld p Fd.HDR_COMMIT_REFUSED 0).setPend p (some ⟨at_, s.snapshot p, parts, []⟩)
  let s := parts.foldl (fun (s : State) (x : Part) => match x.bound with
    | .stream n => match nth none views n with
      | none => s.takeStream n none
      | some v =>
        let y := s.str_ n
        let k := s.strNext v
        s.putStr n { y with want := some (v, if ask n = 0 then blockLine k else k, ask n == 1) }
    | _ => s) s
  s.commitEffect p

/-- REQ of a page's COMMIT (R666, R667): refused while a commit pends, for a reserved AT and by the page's chapter. -/
def State.commitReq (s : State) (p at_ : Nat) : State :=
  let no (s : State) : State := s.setFld p Fd.HDR_COMMIT_REFUSED 1
  if (s.pend p).isSome ∨ 4 < at_ then no s
  else match s.plan p at_ with
    | (s, none) => no s
    | (s, some parts) => s.accept p at_ parts

/-- A write of COMMIT. -/
def State.commitWrite (s : State) (p : Nat) (w : Word) : State :=
  let s := s.writeReg p Rg.HDR_COMMIT w
  if wf w 0 1 = 1 then s.commitReq p (wf w 1 3) else s

/-- COMMIT_REQ. -/
def execCommitReq (o : Owner) (p : Fin 128) (w : Word) (s : State) : Host.Outcome State Fault Refusal :=
  .next (if (pageAt p).isSome then s.guarded o p Rg.HDR_COMMIT (·.commitWrite p w) else s)

end Sys2Proof.Machine
end

