-- ==== Sys2Proof/Machine/Flash.lean ====
section
/-!
DEFINITION. The customer fuses (R625, R626) and the commands to the flash (R637, R640).
-/
namespace Sys2Proof.Machine

/-- FUSE_PROG: a write of PROG_CTL; GO blows one bit of the customer area, in IDLE; a bit past it is refused in every mode (R626). -/
def State.fuseProg (s : State) (w : Word) : State :=
  let s := s.writeReg Pg.FUSE Rg.FUSE_PROG_CTL w
  if wf w 31 1 = 0 then s
  else if 512 ≤ wf w 0 31 then s.logErr Er.FUSE_PROG Pg.FUSE (wf w 0 31)
  else if s.mode ≠ .idle then s
  else s.blowFuses (2 ^ wf w 0 9)

def execFuseProg (o : Owner) (w : Word) (s : State) : Host.Outcome State Fault Refusal :=
  .next (s.guarded o Pg.FUSE Rg.FUSE_PROG_CTL (·.fuseProg w))

/-- The address of the flash command that CMD holds: none, three bytes or four bytes. -/
def State.flashAddr (s : State) : Option Nat :=
  let a := (s.rd Pg.QSPI Rg.QSPI_ADDR).toNat
  match s.fld Pg.QSPI Fd.QSPI_CMD_b8 with
  | 1 => some (a % 2 ^ 24)
  | 2 => some a
  | _ => none

/-- Whether an address lies in the slot that booted (R637). -/
def State.flashProtected (s : State) (a : Nat) : Bool :=
  decide ((s.rd Pg.QSPI Rg.QSPI_PROT_BASE).toNat ≤ a) && decide (a ≤ (s.rd Pg.QSPI Rg.QSPI_PROT_LIMIT).toNat)

/-- A write of CMD; GO sends the command unless it would write to the slot that booted (R637). -/
def State.qspiCmd (s : State) (w : Word) : State :=
  let p := Pg.QSPI
  let s := s.writeReg p Rg.QSPI_CMD w
  if wf w 31 1 = 0 || !s.blockOn p Fd.QSPI_CTL_EN || s.on p Fd.QSPI_STAT_BUSY then s
  else if s.on p Fd.QSPI_CMD_WRITE_OP && (s.flashAddr.map s.flashProtected).getD false then
    ((s.flag p Fd.QSPI_STAT_PROT_REFUSED).bump p Fd.QSPI_CNT_b16).logErr Er.QSPI_PROT p
  else
    let n := if s.fld p Fd.QSPI_CMD_b15 = 2 then Nat.min 256 (s.fld p Fd.QSPI_LEN_b0) else 0
    let data := (s.fifoOf 10).take n
    let s := ((s.setFifo 10 ((s.fifoOf 10).drop n)).setFld p Fd.QSPI_STAT_BUSY 1).bump p Fd.QSPI_CNT_b0
    s.emit (.flash (s.fld p Fd.QSPI_CMD_OPCODE) s.flashAddr data)

def execQspiCmd (o : Owner) (w : Word) (s : State) : Host.Outcome State Fault Refusal :=
  .next (s.guarded o Pg.QSPI Rg.QSPI_CMD (·.qspiCmd w))

/-- QSPI_CMD_DONE: the command ends with the bytes read; `timeout` says that the status poll after a write found bit 0 still 1 at
its limit (R640). -/
def State.qspiDone (s : State) (data : List Byte) (timeout : Bool) : State :=
  let p := Pg.QSPI
  if !s.on p Fd.QSPI_STAT_BUSY then s
  else
    let mode := s.fld p Fd.QSPI_CMD_b15
    let s := s.setFld p Fd.QSPI_STAT_BUSY 0
    let s := if mode = 1 ∨ mode = 3 then s.fifoPut 10 (data.take (s.fld p Fd.QSPI_LEN_b0)) else s
    if timeout && s.on p Fd.QSPI_POLL_EN && s.on p Fd.QSPI_CMD_WRITE_OP then s.flag p Fd.QSPI_STAT_POLL_TIMEOUT
    else s.flag p Fd.QSPI_STAT_DONE

def execQspiCmdDone (data : List Byte) (timeout : Bool) (s : State) : Host.Outcome State Fault Refusal :=
  .next (s.qspiDone data timeout)

end Sys2Proof.Machine
end

