-- ==== Sys2Proof/Machine/Access.lean ====
section
/-!
DEFINITION. Accesses to BAR0 (R4-R8, R658-R664, R672): where a write of any offset goes, by page or table window, what a read of
it gives, and CLK_LOCK_LOST.
-/
namespace Sys2Proof.Machine

/-! ### Block registers with conditions or effects of their own -/

/-- Whether device configuration may be written: IDLE and SETUP, and as the image is applied (R336, R369, R404, R524, R532). -/
def State.configOpen (s : State) (o : Owner) : Bool := s.mode == .idle || s.mode == .setup || o == .boot

/-- A write by the access codes of the register's bits, with PAGE_STAT.ERR brought up to date. -/
def State.plain (s : State) (p off : Nat) (w : Word) : State := (s.writeReg p off w).errEdge p

/-- A write in which PTP_CTL or PORTn_CTL keeps its ranges (Table — TB.PTP_CTL, Table — TB.PORTn_CTL). -/
def ptpInRange (off : Nat) (w : Word) : Bool :=
  let sgn (lo : Nat) : Int := sext 4 (wf w lo 4)
  if off = Rg.TB_PTP_CTL then decide (wf w 0 8 ≤ 127) && decide (2 ≤ wf w 24 4) && decide (wf w 24 4 ≤ 10)
  else decide (-7 ≤ sgn 8) && decide (sgn 8 ≤ 1) && decide (-3 ≤ sgn 12) && decide (sgn 12 ≤ 4) &&
    decide (-7 ≤ sgn 16) && decide (sgn 16 ≤ 5)

/-- TB: the PTP ranges, PTP_EN without a clock identity, OFFSET after the step (R445), and the servo turned off after the step
(R441). -/
def State.writeTb (s : State) (off : Nat) (w : Word) : State :=
  let p := Pg.TB
  let refuse : State := s.logErr Er.PTP_FORMAT p off
  if off = Rg.TB_OFFSET_HI then s.offsetHi w
  else if off = Rg.TB_RATE_HI then s.rateHi w
  else if off = Rg.TB_TOD_SEC_HI then s.todHi w
  else if off = Rg.TB_OFFSET_LO ∧ s.on p Fd.TB_STAT_STEPPED then refuse
  else if off = Rg.TB_PTP_CTL ∨ off = Rg.TB_PORT0_CTL ∨ off = Rg.TB_PORT1_CTL then
    (if ptpInRange off w then s.plain p off w else refuse)
  else if off = Rg.TB_CTL then
    if wf w 4 1 = 1 ∧ s.rd64 p Rg.TB_CLOCK_ID_LO Rg.TB_CLOCK_ID_HI = 0 then refuse
    else
      let was := s.on p Fd.TB_CTL_SERVO_EN
      let s := s.plain p off w
      if was && !s.on p Fd.TB_CTL_SERVO_EN && s.on p Fd.TB_STAT_STEPPED then s.setTbState 4 else s
  else s.plain p off w

/-- Whether the inline regions would break R524: a size that is no multiple of 8, an overlap, or an end beyond the capacity. -/
def State.eccBad (s : State) (n : Nat) (w : Word) : Bool :=
  let base := wf w 0 11
  let size := wf w 12 11
  wf w 11 1 == 1 &&
    (size % 8 != 0 || decide (s.capacity < (base + size) * 2 ^ 26) ||
      (List.range 8).any fun k => k != n && s.on Pg.MCG (Fd.MCG_ECC_RGN_EN k) &&
        (let b := s.fld Pg.MCG (Fd.MCG_ECC_RGN_BASE k)
         let z := s.fld Pg.MCG (Fd.MCG_ECC_RGN_SIZE k)
         decide (b < base + size) && decide (base < b + z)))

/-- MCG: what training takes (R532), inline regions (R524; the image's are set before the capacity is known), panic (R517). -/
def State.writeMcg (s : State) (o : Owner) (off : Nat) (w : Word) : State :=
  let p := Pg.MCG
  if off = Rg.MCG_ECC_CTL then s.eccInit w
  else if off = Rg.MCG_TRAIN_CTL then s.retrain w
  else if off = Rg.MCG_CFG ∨ off = Rg.MCG_TIMING0 ∨ off = Rg.MCG_TIMING1 ∨ off = Rg.MCG_TIMING2 ∨ off = Rg.MCG_REF_CTL then
    (if s.configOpen o then s.plain p off w else s.flag p Fd.MCG_STAT_CFG_REFUSED)
  else if Rg.MCG_ECC_RGN 0 ≤ off ∧ off < Rg.MCG_ECC_RGN 8 then
    (if !s.configOpen o then s
    else if o != .boot && s.eccBad ((off - Rg.MCG_ECC_RGN 0) / 4) w then s.logErr Er.MEM_CFG p
    else s.plain p off w)
  else if off = Rg.MCG_PANIC_CTL then
    (if wf w 0 6 < 8 then s.logErr Er.MEM_CFG p
    else (List.range 8).foldl (fun (s : State) (e : Nat) => s.panicCheck e) (s.plain p off w))
  else s.plain p off w

/-- Whether a word keeps a ring or crop register's stated values (R404). -/
def ringOk (lowBits : Bool) (size : Option (Nat × Nat)) (w : Word) : Bool :=
  let x := w.toNat
  (!lowBits || x % 4096 == 0) &&
  match size with
  | none => true
  | some (a, b) => decide (a ≤ x) && decide (x ≤ b) && decide (2 ^ x.log2 = x)

/-- Device configuration of MRG and VRD (R404). -/
def State.writeRing (s : State) (o : Owner) (p off : Nat) (lowBits : Bool) (size : Option (Nat × Nat)) (w : Word) : State :=
  if !s.configOpen o then s.logErr Er.VRD_NOT_IDLE p off
  else if ringOk lowBits size w then s.plain p off w else s

def State.writeMrg (s : State) (o : Owner) (off : Nat) (w : Word) : State :=
  if off = Rg.MRG_CROP_BASE_LO then s.writeRing o Pg.MRG off true none w
  else if off = Rg.MRG_CROP_BASE_HI then s.writeRing o Pg.MRG off false none w
  else if off = Rg.MRG_CROP_SLOTS then s.writeRing o Pg.MRG off false (some (1024, 1048576)) w
  else s.plain Pg.MRG off w

def State.writeVrd (s : State) (o : Owner) (off : Nat) (w : Word) : State :=
  if off = Rg.VRD_RING_BASE_LO then s.writeRing o Pg.VRD off true none w
  else if off = Rg.VRD_RING_SIZE then s.writeRing o Pg.VRD off false (some (256, 16777216)) w
  else if off = Rg.VRD_RING_BASE_HI ∨ off = Rg.VRD_UM_PER_CNT0 ∨ off = Rg.VRD_UM_PER_CNT1 then s.writeRing o Pg.VRD off false none w
  else s.plain Pg.VRD off w

/-- IE: ACC_BASE, an address in bits 43 to 12, is device configuration and a multiple of 4 MiB (R369). -/
def State.writeIe (s : State) (o : Owner) (p off : Nat) (w : Word) : State :=
  if off ≠ Rg.IE_ACC_BASE ∧ off ≠ Rg.IE_CTL then s.plain p off w
  else if !s.configOpen o then (s.flag p Fd.IE_STAT_CFG_REFUSED).logErr Er.IE_NOT_IDLE p off
  else if off = Rg.IE_CTL ∨ w.toNat % 1024 = 0 then s.plain p off w else s

/-- MST: the learn stores are device configuration (R336). -/
def State.writeMst (s : State) (o : Owner) (off : Nat) (w : Word) : State :=
  if off = Rg.MST_ART_CTL then s.artCtl w
  else if Rg.MST_LV_BASE 0 ≤ off ∧ off < Rg.MST_LV_CFG 4 then
    (if s.configOpen o then s.plain Pg.MST off w else s.flag Pg.MST Fd.MST_STAT_CFG_REFUSED)
  else s.plain Pg.MST off w

/-- HLTH (R641-R653). -/
def State.writeHlth (s : State) (off : Nat) (w : Word) : State :=
  if off = Rg.HLTH_CAL_CTL then s.calGo w
  else if off = Rg.HLTH_MBIST_CTL then s.mbistGo w
  else if off = Rg.HLTH_AVS_CTL then s.avsCtl w
  else if off = Rg.HLTH_TEMP_LIM then s.tempLim w
  else if off = Rg.HLTH_AVS_TGT then s.avsTgt w
  else if off = Rg.HLTH_AVS_LIM then s.avsLim w
  else s.plain Pg.HLTH off w

/-- DMA: CH_CTL, and the W1C bits of the selected channel's CH_STAT. -/
def State.writeDma (s : State) (o : Owner) (off : Nat) (w : Word) : State :=
  if off = Rg.DMA_CH_CTL then s.chCtl o w
  else if off = Rg.DMA_CH_STAT then
    let c := s.fld Pg.DMA Fd.DMA_CH_SEL_b0
    let v := s.ch c
    s.setCh c { v with busyHit := v.busyHit && wf w 4 1 == 0, refused := v.refused && wf w 5 1 == 0 }
  else s.plain Pg.DMA off w

/-- QF (R482, R496). -/
def State.writeQf (s : State) (o : Owner) (off : Nat) (w : Word) : State :=
  if off = Rg.QF_ALLOC then s.qfApply w
  else if off = Rg.QF_HQ_CRED_REQ then s.hqCredReq o w
  else if off = Rg.QF_HQ_PUSH_LO then { s with hqLo := w }
  else if off = Rg.QF_HQ_PUSH_HI then s.hqPush o w
  else s.plain Pg.QF off w

/-- ZIP: the ring's place changes only while it is empty and no host job runs (R546). -/
def State.writeZip (s : State) (off : Nat) (w : Word) : State :=
  let p := Pg.ZIP
  if off = Rg.ZIP_RING_HEAD then s.zipHead w
  else if off = Rg.ZIP_RING_BASE_LO ∨ off = Rg.ZIP_RING_BASE_HI ∨ off = Rg.ZIP_RING_SIZE then
    (if s.rd p Rg.ZIP_RING_TAIL = s.rd p Rg.ZIP_RING_HEAD ∧ s.zip.job.isNone then s.plain p off w
    else s.flag p Fd.ZIP_STAT_RING_REFUSED)
  else s.plain p off w

/-- ETH: addresses and speed change only at a link start (R582); a port turned off drops its link; a TTL of 0 is ignored. -/
def State.writeEth (s : State) (n off : Nat) (w : Word) : State :=
  let p := Pg.ETH n
  if off = Rg.ETH_CTL ∨ off = Rg.ETH_MAC_LO ∨ off = Rg.ETH_MAC_HI ∨ off = Rg.ETH_IP_ADDR ∨ off = Rg.ETH_IP_MASK ∨ off = Rg.ETH_GATEWAY then
    (if s.blockOn p Fd.ETH_CTL_EN then s else (s.plain p off w).enChanged p)
  else if off = Rg.ETH_IP_CTL ∧ wf w 16 8 = 0 then s.plain p off (wfSet w 16 8 (s.fld p Fd.ETH_IP_CTL_TTL))
  else s.plain p off w

/-- NET (R558, R570, R618). -/
def State.writeNet (s : State) (o : Owner) (off : Nat) (w : Word) : State :=
  if off = Rg.NET_SESS_CTL then s.sessCtl o w
  else if off = Rg.NET_KEY_DATA then s.keyData w
  else if off = Rg.NET_KEY_SEL then s.keySel w
  else if off = Rg.NET_CTL then
    let was := s.on Pg.NET Fd.NET_CTL_WCP_EN
    let s := s.plain Pg.NET off w
    if was && !s.on Pg.NET Fd.NET_CTL_WCP_EN then s.ownerReset 4 else s
  else s.plain Pg.NET off w

/-- MTWI: CTL (R618), TIM (R585) and the mailbox. -/
def State.writeMtwi (s : State) (off : Nat) (w : Word) : State :=
  let p := Pg.MTWI
  if off = Rg.MTWI_CTL then (s.plain p off w).enChanged p
  else if off = Rg.MTWI_TIM then
    (if s.on p Fd.MTWI_CTL_EN || wf w 0 8 == 0 || wf w 8 8 == 0 then s.logErr Er.TWI_CFG p else s.plain p off w)
  else if off = Rg.MTWI_TXDATA then s.fifoPut 9 [BitVec.ofNat 8 (wf w 0 8)]
  else s.plain p off w

/-- TWLn (R585, R591-R596). -/
def State.writeTwl (s : State) (n off : Nat) (w : Word) : State :=
  if off = Rg.TWL_CTL then s.twlCtl n w
  else if off = Rg.TWL_CMD then s.twlCmd n w
  else if off = Rg.TWL_TIM0 then s.twlTiming n 0 w
  else if off = Rg.TWL_TIM1 then s.twlTiming n 1 w
  else if off = Rg.TWL_TXDATA then s.fifoPut (2 * n + 1) [BitVec.ofNat 8 (wf w 0 8)]
  else s.plain (Pg.TWL n) off w

/-- CRL (R446-R457). -/
def State.writeCrl (s : State) (o : Owner) (off : Nat) (w : Word) : State :=
  if off = Rg.CRL_CTL then s.crlCtl w
  else if off = Rg.CRL_BANK0_CYCLE then s.cycleWrite 0 w
  else if off = Rg.CRL_BANK1_CYCLE then s.cycleWrite 1 w
  else if off = Rg.CRL_CAL_CTL then (if wf w 0 1 = 1 then s.calIns (ownerCode o) else s)
  else s.plain Pg.CRL off w

/-- A write of a block register that guard and lock let through, to the page of a kind. -/
def State.writeBlock (s : State) (o : Owner) (k : PageKind) (n p off : Nat) (w : Word) : State :=
  match k with
  | .fuse => if off = Rg.FUSE_PROG_CTL then s.fuseProg w else s.plain p off w
  | .supv0 => if off = Rg.SUPV0_FAULT_CTL then s.faultCtl w else s.plain p off w
  | .hlth => s.writeHlth off w
  | .cp => if off = Rg.CP_CAM_ACC then s.camAcc n w else if off = Rg.CP_JOKER_CTL then s.jokerCtl n w else s.plain p off w
  | .pp => if off = Rg.PP_FF_CTL then s.ffCtl n w else s.plain p off w
  | .sti => if off = Rg.STI_CAL_CTL then s.calCtl w else if off = Rg.STI_TBL_DATA then s.tblWrite false w else s.plain p off w
  | .mrg => s.writeMrg o off w
  | .vrd => s.writeVrd o off w
  | .mst => s.writeMst o off w
  | .dec => if off = Rg.DEC_SYNC_CTL then s.decSyncWrite w else s.plain p off w
  | .str =>
    if off = Rg.STR_TBL_DATA then s.tblWrite true w
    else match (List.range 8).find? fun i => off == Rg.STR_S_CTL i with
      | some 7 => s
      | some i => s.strCtl i w
      | none => s.plain p off w
  | .ie => s.writeIe o p off w
  | .tb => s.writeTb off w
  | .crl => s.writeCrl o off w
  | .evf => if off = Rg.EVF_SW_FIRE then s.swFire w else s.plain p off w
  | .qf => s.writeQf o off w
  | .dma => s.writeDma o off w
  | .zip => s.writeZip off w
  | .mcg => s.writeMcg o off w
  | .eth => s.writeEth n off w
  | .net => s.writeNet o off w
  | .mtwi => s.writeMtwi off w
  | .twl => s.writeTwl n off w
  | .qspi =>
    if off = Rg.QSPI_CMD then s.qspiCmd w
    else if off = Rg.QSPI_DATA then s.fifoPut 10 (leBytes 4 w.toNat)
    else s.plain p off w
  | .pins0 =>
    if off = Rg.PINS0_PULSE_MAN_EN then s.manEn 0 w
    else if off = Rg.PINS0_PULSE_GUARD then s.guardWrite o 0 w else s.plain p off w
  | .pins1 =>
    if off = Rg.PINS1_EVIO_MAN_EN then s.manEn 1 w
    else if off = Rg.PINS1_EVIO_GUARD then s.guardWrite o 1 w else s.plain p off w
  | _ => s.plain p off w

/-- OWNER set by the image: PERMIT only if the image is verified (R630, R663). -/
def State.setOwner (s : State) (p : Nat) (w : Word) : State :=
  s.wr p Rg.HDR_OWNER (w &&& if s.on Pg.BOOT Fd.BOOT_STAT_VERIFIED then 0x7F0F else 0x000F)

/-- A write to an offset of a page (R658-R667): the header's registers each in its own way, a block register and COMMIT under guard and
lock. -/
def State.writePage (s : State) (o : Owner) (slot p off : Nat) (w : Word) : State :=
  match pageAt p with
  | none => s
  | some (k, n) =>
    if !s.reaches o p then s
    else if off < 0x40 then
      let s := s.touch o p
      if off = Rg.HDR_PAGE_CTL then s.pageCtl p w
      else if off = Rg.HDR_OWNER then (if o = .boot then s.setOwner p w else s)
      else if off = Rg.HDR_LOCK then s.lockWrite o slot p w
      else if off = Rg.HDR_COMMIT then s.guarded o p off (·.commitWrite p w)
      else s.writeReg p off w
    else if p = Pg.SYS ∧ off = Rg.SYS_MODE then s.sysWrite o off (·.refusal 5) fun s => s.writeBlock o k n p off w
    else if p = Pg.SYS ∧ off = Rg.SYS_MODE_REQ then s.modeReq o w
    else if p = Pg.SYS ∧ off = Rg.SYS_JOB_CTL then s.jobCtl o w
    else if p = Pg.SYS ∧ off = Rg.SYS_CHG_CTL then s.chgCtl o w
    else if (regDefAt (p * 4096 + off)).isNone then s.touch o p
    else s.guarded o p off fun s => s.writeBlock o k n p off w

/-! ### Table windows -/

/-- A write of a word of a vector's entry in the MSI-X table; a vector unmasked with a message pending sends it (R577, R579). -/
def State.msixWrite (s : State) (a : Nat) (w : Word) : State :=
  let v := (a - 0x0C0000) / 16
  let s := s.setWin a (if a % 16 = 12 then w &&& 1 else w)
  if s.winBits (0x0C0000 + 16 * v) 96 1 = 0 ∧ s.winBits 0x0C1000 v 1 = 1 then (s.setWinBits 0x0C1000 v 1 0).msix v else s

/-- The stored bits of a word of a queue descriptor (Table — Queue descriptor). -/
def descMask (i : Nat) : Word :=
  if i = 0 then 0x001FFFFF else if i = 1 then 0x003FFFFF else if i = 2 then 0x000FFFFF else if i = 3 then 0x00FFFFFF
  else if i < 7 then 0xFFFFFFFF else 0

/-- A write of word `i` of the descriptor of queue `q` (R482). -/
def State.descWrite (s : State) (o : Owner) (q i : Nat) (w : Word) : State :=
  let a := qdesc q + 4 * i
  let v := w &&& descMask i
  if o ≠ .boot ∧ 7936 ≤ q then s.flag Pg.QF Fd.QF_STAT_GUARD_REFUSED
  else if i = 11 then
    let x := s.q q
    s.setQ q { x with levelHit := x.levelHit && wf w 16 1 == 0, extUsed := x.extUsed && wf w 17 1 == 0 }
  else if 7 ≤ i then s
  else if o = .boot ∨ i = 3 ∨ (7168 ≤ q ∧ s.qd q 80 1 = 0) then s.takeDesc (a, some v)
  else { s with qshadow := tabPut (dflt none) a (some v) s.qshadow }

/-- A write of word `i` of task `t` (Table — Task entry). -/
def State.taskWrite (s : State) (t i : Nat) (w : Word) : State :=
  let a := taskAt t + 4 * i
  if i < 2 then s.setWin a w
  else if i = 2 then s.setWin a (w &&& 1)
  else s.setWin a (s.win a &&& ~~~(w &&& 0xC))

/-- The stored bits of a word of a session entry (Table — Session entry). -/
def sessMask (i : Nat) : Word :=
  if i = 0 then 0x01FF0FFF else if i = 3 then 0x0FFF0FFF else if i = 8 then 0x0003FF1F else if i < 8 then 0xFFFFFFFF else 0

/-- The pipelines that a port is mapped to (R243, R244). -/
def State.portPipes (s : State) (p : Nat) : List Nat :=
  if s.dlrMap p 3 1 = 1 then (List.range (s.dlrMap p 4 3 + 1)).map fun k => s.pipeOf p k else [s.pipeOf p 0]

/-- A write of a port's context window (R233). -/
def State.ctxWrite (s : State) (a : Nat) (w : Word) : State :=
  let p := (a - 0x200000) / 0x20000
  if !s.on Pg.STI (Fd.STI_PORT_CTL_IN_VIEW p) || s.viewFree (s.pView p) then (s.setWin a (w &&& winMask a)).dropSets p
  else (s.portPipes p).foldl (fun (s : State) g => s.flag (Pg.PP g) Fd.PP_STAT_CTX_WR_REFUSED) s

/-- A write to a table window (Table — Table windows). -/
def State.writeWindow (s : State) (o : Owner) (a : Nat) (w : Word) : State :=
  if 0x800000 ≤ a ∧ a < 0x1000000 then (if s.bootWait && o == .host then s.setWin a w else s)
  else if s.mode = .boot ∧ o ≠ .boot then s
  else if 0x0C0000 ≤ a ∧ a < 0x0C0400 then s.msixWrite a w
  else if 0x100000 ≤ a ∧ a < 0x180000 then s.descWrite o ((a - 0x100000) / 64) (a / 4 % 16) w
  else if 0x180000 ≤ a ∧ a < 0x182000 then s.channelWrite (ownerCode o) ((a - 0x180000) / 32) (a / 4 % 8) w
  else if 0x182000 ≤ a ∧ a < 0x183800 then s.taskWrite ((a - 0x182000) / 16) (a / 4 % 4) w
  else if 0x190000 ≤ a ∧ a < 0x198000 then
    s.slotWrite (ownerCode o) ((a - 0x190000) / 0x4000) (a / 16 % 1024) (a / 4 % 4) w
  else if 0x1A0000 ≤ a ∧ a < 0x1B0000 then s.setWin a (w &&& sessMask (a / 4 % 16))
  else if 0x1B0000 ≤ a ∧ a < 0x1B0800 then s.dmaSetWrite a w
  else if 0x200000 ≤ a ∧ a < 0x400000 then s.ctxWrite a w
  else s

/-- A write of a word at a BAR0 offset; `slot` is the key slot of a NET writer. An offset outside every page and window ignores it
(R658). -/
def State.writeAny (s : State) (o : Owner) (slot a : Nat) (w : Word) : State :=
  if a % 4 ≠ 0 then s
  else if (pageAt (a / 4096)).isSome then s.writePage o slot (a / 4096) (a % 4096) w
  else s.writeWindow o a w

/-- Whether guard or lock refuses a write at a BAR0 offset (R664, R665): the answer that WCP and MTWI give. -/
def State.refuses (s : State) (o : Owner) (a : Nat) (w : Word) : Bool :=
  let p := a / 4096
  let off := a % 4096
  (pageAt p).isSome &&
  (if off = Rg.HDR_LOCK then wf w 0 1 == 1 && !s.permits (ownerCode o) p
  else if off = Rg.HDR_COMMIT ∨ (0x40 ≤ off ∧ (regDefAt a).isSome) then s.access o p == .guard || s.access o p == .lock
  else false)

/-- CLK_LOCK_LOST: domain `d` loses lock; the timebase's is TBREF_LOST (R672). -/
def execClkLockLost (d : Fin 40) (s : State) : Host.Outcome State Fault Refusal :=
  .next (if d.val = 34 then s else s.clkLost d)

/-! ### Reads -/

/-- DLR.PP_INFO of the selected pipeline, and its counters cleared (R258). -/
def State.ppInfo (s : State) : State × Word :=
  let g := s.fld Pg.DLR Fd.DLR_PP_SEL_b0
  let x := s.pipe_ g
  let w := BitVec.ofNat 32 (satN 14 (s.pipeLoad .active g / (1000000 * s.rateDen)) + 2 ^ 16 * satN 8 x.loads + 2 ^ 24 * satN 8 x.dead)
  (s.putPipe g { x with loads := 0, dead := 0 }, w)

/-- The pipelines with an enabled port (DLR.STAT.PP_ACTIVE). -/
def State.ppActive (s : State) : Nat :=
  sumN ((List.range 8).map fun g => if (List.range 16).any fun p => s.portOn p && (s.portPipes p).contains g then 2 ^ g else 0)

/-- ICNT0 to ICNT2 of the port that a pipeline's ICNT_SEL selects, cleared by the read (R206, R209-R212). -/
def State.icnt (s : State) (g k : Nat) : State × Word :=
  let p := s.fld (Pg.PP g) Fd.PP_ICNT_SEL_b0
  let x := s.intk p
  match k with
  | 0 => (s.putIntk p { x with short := 0, long := 0 }, BitVec.ofNat 32 (satN 16 x.short + 2 ^ 16 * satN 16 x.long))
  | 1 => (s.putIntk p { x with gaps := 0, poison := 0 }, BitVec.ofNat 32 (satN 16 x.gaps + 2 ^ 16 * satN 16 x.poison))
  | _ => (s.putIntk p { x with noCred := 0, late := 0, miss := 0 },
      BitVec.ofNat 32 (satN 16 x.noCred + 2 ^ 16 * satN 8 x.late + 2 ^ 24 * satN 8 x.miss))

/-- TRIM_STAT of the selected port and plane (R269). -/
def State.trimStat (s : State) : Word :=
  let p := wf (s.rd Pg.STI Rg.STI_TRIM_SEL) 0 4
  let plane := wf (s.rd Pg.STI Rg.STI_TRIM_SEL) 4 2
  let v := s.pView p
  BitVec.ofNat 32 (s.trim v p plane + 2 ^ 16 * b2n (tabGet (dflt false) (s.sti v).limit (4 * p + plane)))

/-- What DEC's streams in force take of its buffers in bytes, and of its load in Msample/s (R429). -/
def State.decUse (s : State) : Nat × Nat :=
  let l := ((List.range 7).filter fun n => s.on Pg.STR (Fd.STR_S_CTL_EN n)).map fun n => s.strAskAt strActiveAt n
  (sumN (l.map (·.2.1)), sumN (l.map (·.1)) / (1000000 * s.rateDen))

/-- The views that MST is capturing (R408), and the running host streams. -/
def State.s7Views (s : State) : Nat := sumN ((List.range 4).map fun v => if (s.mstV v).cap.isSome then 2 ^ v else 0)
def State.strRunning (s : State) : Nat := sumN ((List.range 7).map fun n => if (s.str_ n).running then 2 ^ n else 0)

/-- The words of a FIFO_STAT register: transmit and receive levels. -/
def State.fifoStat (s : State) (rx : Nat) : Word :=
  BitVec.ofNat 32 ((s.fifoOf (rx + 1)).length + 2 ^ 8 * (s.fifoOf rx).length)

/-- Words of the queue store in no enabled region, and reserve words free (R481, R484). -/
def State.storeFree (s : State) : Nat :=
  2097152 - sumN ((List.range 8192).map fun q => if s.qd q 80 1 = 1 then s.qCap q else 0)
def State.reserveFree (s : State) : Nat :=
  sumN ((List.range 8192).map fun q => if s.qd q 80 1 = 1 then Nat.min (s.qRsv q) (s.qFree q true) else 0)

/-- The levels of 32 request lines (R499); a line of a queue is high while the queue can take or give one word. -/
def State.reqStat (s : State) (k : Nat) : Word :=
  BitVec.ofNat 32 (sumN ((List.range 32).map fun i =>
    let l := 32 * k + i
    if lineListed l && (s.reqLine l 8 true || s.reqLine l 8 false) then 2 ^ i else 0))

/-- LOCK_INFO of the selected page (R620). -/
def State.lockInfo (s : State) : Word :=
  let p := s.fld Pg.SUPV1 Fd.SUPV1_LOCK_SEL_b0
  if (pageAt p).isNone || s.lockHolder p == 0 then 0
  else BitVec.ofNat 32 (s.lockHolder p + 8 + 2 ^ 16 * satN 16 ((s.raw - tabGet (dflt 0) s.lockAt p) / (65536 * 10 ^ 9)))

/-- The levels of a bank of pins. -/
def levelWord (n : Nat) (f : Nat → Bool) : Word := BitVec.ofNat 32 (sumN ((List.range n).map fun i => if f i then 2 ^ i else 0))

/-- A register word in which a field is replaced by what the block computes. -/
def State.withField (s : State) (p off lo len v : Nat) : Word := wfSet (s.viewReg p off) lo len v

/-- Registers that show what the block holds elsewhere, and read nothing away. -/
def State.shown (s : State) (k : PageKind) (p off : Nat) : Option Word :=
  let one (o : Nat) (w : Word) : Option Word := if off = o then some w else none
  match k with
  | .sys => (one Rg.SYS_CMT_TIME_LO (match s.cmtSel with | some r => BitVec.ofNat 32 r.time | none => 0)).orElse fun _ =>
      one Rg.SYS_CMT_TIME_HI (match s.cmtSel with | some r => BitVec.ofNat 32 (r.time / 2 ^ 32) | none => 0)
  | .supv0 =>
    if Rg.SUPV0_LOG_DATA 1 ≤ off ∧ off < Rg.SUPV0_LOG_DATA 8 then some (nth 0 s.logLatch ((off - Rg.SUPV0_LOG_DATA 1) / 4)) else none
  | .supv1 => (one Rg.SUPV1_DRAIN_STAT s.drainStat).orElse fun _ => (one Rg.SUPV1_RESERVE_STAT (BitVec.ofNat 32 s.reserveFree)).orElse fun _ =>
      one Rg.SUPV1_LOCK_INFO s.lockInfo
  | .cp =>
    if s.portOfQuad (p - 0x10) ≠ p - 0x10 ∧ off ≠ Rg.CP_JOKER_STAT ∧ !((List.range 4).any fun m => off == Rg.CP_LANE_STAT m) then
      (regDefAt (p * 4096 + off)).map (·.reset)
    else none
  | .hlth => one Rg.HLTH_TEMP s.tempWord
  | .dlr => one Rg.DLR_STAT (s.withField p off 0 8 s.ppActive)
  | .sti => one Rg.STI_TRIM_STAT s.trimStat
  | .reg => one Rg.REG_WIN_RES s.winResWord
  | .mrg => one Rg.MRG_ENG_STAT s.engStatWord
  | .rul => one Rg.RUL_STAT (BitVec.ofNat 32 (s.rulesOn .active).length)
  | .vrd =>
    let cell := wf (s.rd Pg.VRD Rg.VRD_CSCALE_SEL) 0 12
    let v := wf (s.rd Pg.VRD Rg.VRD_CSCALE_SEL) 12 2
    let entry := (s.cellsOn .active).find? fun i => s.cellF .active i 192 12 == cell
    one Rg.VRD_CSCALE (BitVec.ofNat 32 (s.scaleAt .active v (s.vres .active v).reach entry))
  | .mst => match (List.range 4).find? fun v => off == Rg.MST_VIEW_STAT v with
    | some v => some (s.mstViewStat v)
    | none => one Rg.MST_RED_STAT s.redStat
  | .dec =>
    let g := tabGet (dflt 0) s.dec.origin (s.fld Pg.DEC ⟨Rg.DEC_SYNC_SEL, 0, 2⟩)
    (one Rg.DEC_SYNC_LINE_LO (BitVec.ofNat 32 g)).orElse fun _ => (one Rg.DEC_SYNC_LINE_HI (BitVec.ofNat 32 (g / 2 ^ 32))).orElse fun _ =>
    (one Rg.DEC_POOL (BitVec.ofNat 32 (satN 22 s.decUse.1))).orElse fun _ => one Rg.DEC_LOAD (BitVec.ofNat 32 (satN 16 s.decUse.2))
  | .str => (one Rg.STR_STAT (s.withField p off 0 8 (s.strRunning + 128 * b2n (s.s7Views != 0)))).orElse fun _ =>
      one (Rg.STR_S_CTL 7) (BitVec.ofNat 32 s.s7Views)
  | .qf => (one Rg.QF_HQ_CRED (BitVec.ofNat 32 (sumN ((s.q s.hqSel).creds.map fun e => if 9 < e.1 ∧ e.1 < 13 then e.2 else 0)))).orElse fun _ =>
      one Rg.QF_STORE_FREE (BitVec.ofNat 32 s.storeFree)
  | .dma =>
    let c := s.fld Pg.DMA Fd.DMA_CH_SEL_b0
    let d := s.chSet c
    let src := d.srcAt (s.ch c).done
    let dst := d.dstAt (s.ch c).done
    (one Rg.DMA_CH_CTL (BitVec.ofNat 32 (2 * b2n (s.ch c).pause))).orElse fun _ => (one Rg.DMA_CH_STAT (s.chStat c)).orElse fun _ => (one Rg.DMA_CH_REMAIN (BitVec.ofNat 32 (s.chRemain c))).orElse fun _ =>
    (one Rg.DMA_CH_SRC_LO (BitVec.ofNat 32 src)).orElse fun _ => (one Rg.DMA_CH_SRC_HI (BitVec.ofNat 32 (src / 2 ^ 32))).orElse fun _ =>
    (one Rg.DMA_CH_DST_LO (BitVec.ofNat 32 dst)).orElse fun _ => (one Rg.DMA_CH_DST_HI (BitVec.ofNat 32 (dst / 2 ^ 32))).orElse fun _ =>
    (one Rg.DMA_REQ_STAT0 (s.reqStat 0)).orElse fun _ => one Rg.DMA_REQ_STAT1 (s.reqStat 1)
  | .pcie =>
    (one Rg.PCIE_IRQN_STAT (s.win 0x0C1000)).orElse fun _ => (one Rg.PCIE_VEC_PEND0 (s.win 0x0C1000)).orElse fun _ =>
      one Rg.PCIE_VEC_PEND1 (s.win 0x0C1004)
  | .mtwi => one Rg.MTWI_FIFO_STAT (s.fifoStat 8)
  | .twl => one Rg.TWL_FIFO_STAT (s.fifoStat (2 * (p - Pg.TWL 0)))
  | .qspi => one Rg.QSPI_FIFO_STAT (BitVec.ofNat 32 (s.fifoOf 10).length)
  | .pins0 => one Rg.PINS0_PULSE_LEVEL (levelWord 24 s.pulseLevel)
  | .pins1 => one Rg.PINS1_EVIO_LEVEL (levelWord 16 s.evioLevel)
  | _ => none

/-- The levels of the input pins: those sampled at boot, and the encoder, PPS and DECSYNC inputs, which are free. -/
def State.inLevel (s : State) : State × Word :=
  (s.drawn, BitVec.ofNat 32 (s.fld Pg.PINS0 Fd.PINS0_IN_LEVEL_BOOTSEL * 2 ^ 8 + s.fld Pg.PINS0 Fd.PINS0_IN_LEVEL_MADDR * 2 ^ 10 +
    Config.freeNat s.free % 256))

/-- HIT_CNT: the count of the selected rule, which the read clears (RUL page). -/
def State.hitRead (s : State) : State × Word :=
  let i := s.fld Pg.RUL Fd.RUL_HIT_SEL_b0
  ({ s with hits := tabPut (dflt 0) i 0 s.hits }, BitVec.ofNat 32 (tabGet (dflt 0) s.hits i))

/-- TIME_LO: latches device time and the raw counter (R432). -/
def State.timeRead (s : State) : State × Word :=
  let d := s.time16
  let t := (s.wr64 Pg.TB Rg.TB_TIME_LO Rg.TB_TIME_HI (d / 65536)).wr Pg.TB Rg.TB_TIME_FRAC (BitVec.ofNat 32 (d % 65536))
  (t.wr64 Pg.TB Rg.TB_RAW_LO Rg.TB_RAW_HI s.rawNs, BitVec.ofNat 32 (d / 65536))

/-- MTWI.RXDATA: the next received byte, with its VALID bit (MTWI page). -/
def State.mtwiRx (s : State) : State × Word :=
  match s.fifoOf 8 with
  | [] => (s, 0)
  | b :: t => (s.setFifo 8 t, BitVec.ofNat 32 (b.toNat + 256))

/-- QSPI.DATA: four bytes of the flash buffer (R640). -/
def State.qspiRead (s : State) : State × Word :=
  let (t, l) := s.fifoGet 10 4
  (t, BitVec.ofNat 32 (leNat l))

/-- TGv_LINE_HI: the line field as last latched, and SKIP_CNT, which the read clears (R122). -/
def State.lineHi (s : State) (v : Nat) : State × Word :=
  let off := Rg.POS_TG_LINE_HI v
  (s.clearRoc Pg.POS off, wfSet (s.viewReg Pg.POS off) 0 16 (s.tgOf v).latchHi)

/-- The value of a read that took something away. -/
def got (r : State × Word) : State × Option Word := (r.1, some r.2)

/-- Registers whose read takes something away or latches; no value for any other. -/
def State.readActs (s : State) (k : PageKind) (n off : Nat) : State × Option Word :=
  match k with
  | .sys => if off = Rg.SYS_CMT_LINE_LO then got s.cmtLineLo else (s, none)
  | .supv0 => if off = Rg.SUPV0_LOG_DATA 0 then got s.logData0 else (s, none)
  | .hlth => if off = Rg.HLTH_SUP then got s.supRead else (s, none)
  | .pos =>
    match (List.range 4).find? fun v => off == Rg.POS_TG_LINE_LO v with
    | some v => got (s.lineLo v)
    | none =>
      match (List.range 4).find? fun v => off == Rg.POS_TG_LINE_HI v with
      | some v => got (s.lineHi v)
      | none => (s, none)
  | .dlr => if off = Rg.DLR_PP_INFO then got s.ppInfo else (s, none)
  | .pp =>
    if off = Rg.PP_ICNT0 then got (s.icnt n 0) else if off = Rg.PP_ICNT1 then got (s.icnt n 1)
    else if off = Rg.PP_ICNT2 then got (s.icnt n 2) else (s, none)
  | .sti => if off = Rg.STI_TBL_DATA then got (s.tblRead false) else (s, none)
  | .str => if off = Rg.STR_TBL_DATA then got (s.tblRead true) else (s, none)
  | .rul => if off = Rg.RUL_HIT_CNT then got s.hitRead else (s, none)
  | .tb => if off = Rg.TB_TIME_LO then got s.timeRead else (s, none)
  | .qf => if off = Rg.QF_HQ_POP_LO then got (s.hqPop 0) else if off = Rg.QF_LVL_NEXT then got s.lvlNext else (s, none)
  | .mtwi => if off = Rg.MTWI_RXDATA then got s.mtwiRx else (s, none)
  | .twl => if off = Rg.TWL_RXDATA then got (s.twlRx n) else (s, none)
  | .qspi => if off = Rg.QSPI_DATA then got s.qspiRead else (s, none)
  | .pins0 => if off = Rg.PINS0_IN_LEVEL then got s.inLevel else (s, none)
  | _ => (s, none)

/-- A read of PAR_CNT: every queue logs its next parity error again (R488). -/
def State.parRead (s : State) : State :=
  (s.queue.filter fun e => e.2.parLogged).foldl (fun (s : State) (e : Nat × Queue) => s.setQ e.1 { e.2 with parLogged := false }) s

/-- A read of an offset of a page (R4, R6, R8): the value, with what the read takes away. -/
def State.readPage (s : State) (p off : Nat) : State × Word :=
  match pageAt p with
  | none => (s, 0)
  | some (k, n) =>
    if off < 0x40 then (s, s.viewReg p off)
    else match s.readActs k n off with
      | (t, some w) => (t, w)
      | (t, none) =>
        let w := (t.shown k p off).getD (t.viewReg p off)
        let t := t.clearRoc p off
        (if p = Pg.QF ∧ off = Rg.QF_PAR_CNT then t.parRead else t, w)

/-- A word of a queue's descriptor as it reads: the shadow where one was written, and the queue's state (R481, R482). -/
def State.descWord (s : State) (q i : Nat) : Word :=
  let v := s.q q
  if i < 7 then s.shadowDesc q i
  else if i = 7 then BitVec.ofNat 32 v.depth
  else if i = 8 then BitVec.ofNat 32 v.credits
  else if i = 9 then BitVec.ofNat 32 v.extLen
  else if i = 10 then BitVec.ofNat 32 (satN 16 v.parErr + 2 ^ 16 * (v.hwm % 2 ^ 16))
  else if i = 11 then BitVec.ofNat 32 (v.hwm / 2 ^ 16 % 2 ^ 16 + 2 ^ 16 * b2n v.levelHit + 2 ^ 17 * b2n v.extUsed)
  else 0

/-- A word of a session's entry as it reads. -/
def State.sessWord (s : State) (k i : Nat) : Word :=
  let x := s.sess k
  if i = 9 then BitVec.ofNat 32 x.seq
  else if i = 10 then BitVec.ofNat 32 (x.seq / 2 ^ 32)
  else if i = 11 then BitVec.ofNat 32 (satN 16 x.nacks + 2 ^ 16 * satN 16 x.loss)
  else s.win (sessShadowAt k + 4 * i)

/-- A read of a table window. -/
def State.readWindow (s : State) (o : Owner) (a : Nat) : Word :=
  if 0x800000 ≤ a ∧ a < 0x1000000 then (if s.bootWait && o == .host then s.win a else 0)
  else if s.mode = .boot ∧ o ≠ .boot then 0
  else if 0x100000 ≤ a ∧ a < 0x180000 then s.descWord ((a - 0x100000) / 64) (a / 4 % 16)
  else if 0x182000 ≤ a ∧ a < 0x183800 ∧ a % 16 = 12 then wfSet (s.win a) 0 1 (b2n (s.taskBusy ((a - 0x182000) / 16)))
  else if 0x1A0000 ≤ a ∧ a < 0x1B0000 then s.sessWord ((a - 0x1A0000) / 64) (a / 4 % 16)
  else if 0x1C0000 ≤ a ∧ a < 0x1C4200 then BitVec.ofNat 32 (s.jobBits .active sectRules (a - 0x1C0000) 0 32)
  else if (0x0C0000 ≤ a ∧ a < 0x0C0400) ∨ (0x0C1000 ≤ a ∧ a < 0x0C1008) ∨ (0x180000 ≤ a ∧ a < 0x183800) ∨ (0x190000 ≤ a ∧ a < 0x198000) ∨
      (0x1B0000 ≤ a ∧ a < 0x1B0800) ∨ (0x200000 ≤ a ∧ a < 0x400000) then s.win a
  else 0

/-- A read of the word at a BAR0 offset: 0 outside every page and window, and over a path that does not reach it (R635, R658). -/
def State.readAny (s : State) (o : Owner) (a : Nat) : State × Word :=
  if a % 4 ≠ 0 then (s, 0)
  else if (pageAt (a / 4096)).isSome then
    (if s.reaches o (a / 4096) then (s.touch o (a / 4096)).readPage (a / 4096) (a % 4096) else (s, 0))
  else (s, s.readWindow o a)

end Sys2Proof.Machine
end

