-- ==== Sys2Proof/Machine/Image.lean ====
section
/-!
DEFINITION. The configuration image (R624-R632, R636): commit records, the header, the sections and the signature, and the checks that
reject an image.
-/
namespace Sys2Proof.Machine

/-- The bytes of a slot's flash from an offset on: an erased byte is 0xFF. -/
def flashBytes (l : List Byte) (ofs n : Nat) : List Byte :=
  let x := (l.drop ofs).take n
  x ++ List.replicate (n - x.length) 0xFF

/-- Causes of Table — Image reject causes. -/
abbrev imgCrc : Nat := 1
abbrev imgFormat : Nat := 2
abbrev imgSignature : Nat := 3
abbrev imgUnsigned : Nat := 4
abbrev imgRollback : Nat := 5
abbrev imgNoRecord : Nat := 6

/-- The largest image of a slot (R628) and of the load window (R635), in bytes. -/
abbrev slotLimit : Nat := 67104768
abbrev loadLimit : Nat := 8388608

/-- GEN of a slot's commit record if the record is valid (R636). -/
def recordGen (slot : Nat) (f : FlashSlot) : Option Nat :=
  let b := flashBytes f.mark 0 24
  let r := leNat b
  if nb r 0 32 = 0x544D4F43 && nb r 32 1 == slot && nb r 160 32 == crc32c (b.take 20) &&
      nb r 128 32 == crc32c (flashBytes f.image 0 (nb r 96 32)) then some (nb r 64 32)
  else none

/-- A section as it is staged: TYPE, DEST and its bytes. -/
structure Staged where
  type : Nat
  dest : Nat
  data : List Byte
deriving DecidableEq, Repr

/-- What the checks make of an image: rejected with a cause and a section index, or VERSION, IMG_LEN, whether it is verified, and its
staged sections. -/
inductive ImgCheck where
  | reject (cause sect : Nat)
  | pass (version len : Nat) (verified : Bool) (sects : List Staged)
deriving DecidableEq, Repr

/-- The table windows and the context store window: base and end (Table — Table windows). -/
def imgWindows : List (Nat × Nat) :=
  [(0x0C0000, 0x0C2000), (0x100000, 0x180000), (0x180000, 0x183800), (0x190000, 0x198000), (0x1A0000, 0x1B0000),
    (0x1B0000, 0x1B0800), (0x1C0000, 0x1C4200), (0x200000, 0x400000)]

/-- The pairs of BAR0 offset and value of a REGS section. -/
def regsPairs (l : List Byte) : List (Nat × Word) :=
  (List.range (l.length / 8)).map fun i => ((leWord l (2 * i)).toNat, leWord l (2 * i + 1))

/-- Whether a section's data fit its destination (R632). -/
def sectFits (x : Sect) (l : List Byte) : Bool :=
  if x.type = 1 then l.length % 8 == 0 && (regsPairs l).all fun e => (regDefAt e.1).isSome
  else imgWindows.any fun w => decide (w.1 ≤ x.dest) && decide (x.dest + l.length ≤ w.2)

/-- A section's bytes as they are staged, or the cause of its rejection. -/
def stageSect (img : List Byte) (limit : Nat) (x : Sect) : Nat ⊕ Staged :=
  if x.type ≠ 1 ∧ x.type ≠ 2 then .inl imgFormat
  else if limit < x.addr + x.len then .inl imgFormat
  else
    let l := flashBytes img x.addr x.len
    if x.crc ≠ crc32c l then .inl imgCrc
    else
      let (l, bad) := if x.compressed then
          (match zlibInflate l with
          | (l, .done _) => (l, none)
          | (l, .adler) => (l, some imgCrc)
          | (l, _) => (l, some imgFormat))
        else (l, none)
      match bad with
      | some c => .inl c
      | none => if l.length ≠ x.outLen || !sectFits x l then .inl imgFormat else .inr ⟨x.type, x.dest, l⟩

/-- The sections in turn, with their index. -/
def stageAll (img : List Byte) (limit : Nat) : Nat → List Sect → (Nat × Nat) ⊕ List Staged
  | _, [] => .inr []
  | i, x :: t =>
    match stageSect img limit x with
    | .inl c => .inl (c, i)
    | .inr y => match stageAll img limit (i + 1) t with
      | .inl e => .inl e
      | .inr l => .inr (y :: l)

/-- Whether a signature block proves an image (R629). -/
def imgVerified (key : Nat) (img : List Byte) (ofs : Nat) : Bool :=
  let b := flashBytes img ofs 128
  let part (k : Nat) : List Byte := (b.drop (32 * k)).take 32
  key != 0 && leNat (sha256 (part 0 ++ part 1)) == key &&
    ecdsaOk (beNat (part 0)) (beNat (part 1)) (beNat (part 2)) (beNat (part 3)) (sha256 (flashBytes img 0 ofs))

/-- The checks of R632, for an image of at most `limit` bytes, under the fuses. -/
def checkImage (fuse : Nat) (img : List Byte) (limit : Nat) : ImgCheck :=
  let head := flashBytes img 0 256
  let h := leNat head
  let len := nb h 96 32
  let count := nb h 128 16
  let signed := tbit h 40
  let sig := nb h 160 32
  let body := if signed then sig else len
  if nb h 2016 32 ≠ crc32c (head.take 252) then .reject imgCrc 0
  else if nb h 0 32 ≠ 0x36315857 ∨ nb h 32 8 ≠ 1 ∨ limit < len ∨ count = 0 ∨ 4096 < count ∨ body < 256 + 32 * count ∨
      (signed ∧ (sig % 64 ≠ 0 ∨ len < sig + 128)) then .reject imgFormat 0
  else
    let table := flashBytes img 256 (32 * count)
    if nb h 192 32 ≠ crc32c table then .reject imgCrc 0
    else
      let sects := (List.range count).map fun i => sectOf (leNat ((table.drop (32 * i)).take 32))
      match stageAll img body 0 sects with
      | .inl (c, i) => .reject c i
      | .inr l =>
        let verified := signed && imgVerified (nb fuse 0 256) img sig
        if 16777216 < sumN (sects.map (·.outLen)) then .reject imgFormat 0
        else if nb h 64 32 < popcount 32 (nb fuse 264 32) then .reject imgRollback 0
        else if signed && nb fuse 0 256 != 0 && !verified then .reject imgSignature 0
        else if tbit fuse 256 && !verified then .reject imgUnsigned 0
        else .pass (nb h 64 32) len verified l

end Sys2Proof.Machine
end

