-- ==== Sys2Proof/Machine/Wcp.lean ====
section
/-!
DEFINITION. The Web Command Protocol (R569-R573): authentication and nonces, register access with owner NET, job and mode commands, and
bulk transfers.
-/
namespace Sys2Proof.Machine

/-- CMD values of Table — WCP commands. -/
abbrev wcpHello : Nat := 0x00
abbrev wcpRegRead : Nat := 0x01
abbrev wcpRegWrite : Nat := 0x02
abbrev wcpJobCmd : Nat := 0x10
abbrev wcpModeCmd : Nat := 0x11
abbrev wcpBulkWrite : Nat := 0x20
abbrev wcpBulkRead : Nat := 0x21
abbrev wcpBulkCrc : Nat := 0x22

/-- A response: STATUS, ARG0 to ARG2, payload. -/
structure WcpAns where
  status  : Nat
  arg0    : Nat := 0
  arg1    : Nat := 0
  arg2    : Nat := 0
  payload : List Byte := []
deriving DecidableEq, Repr

/-- STATUS values of Table — WCP status. -/
def wcpOk : WcpAns := ⟨0, 0, 0, 0, []⟩
def wcpFormat : WcpAns := ⟨1, 0, 0, 0, []⟩
def wcpGuarded : WcpAns := ⟨2, 0, 0, 0, []⟩
def wcpRange : WcpAns := ⟨3, 0, 0, 0, []⟩
def wcpIsBusy : WcpAns := ⟨4, 0, 0, 0, []⟩
def wcpRefused : WcpAns := ⟨5, 0, 0, 0, []⟩
def wcpReplay : WcpAns := ⟨6, 0, 0, 0, []⟩

/-- The 48-byte header with MAC `mac` (Table — WCP header). -/
def wcpHeader (cmd : Nat) (m : WcpMsg) (resp status len arg0 arg1 arg2 mac : Nat) : List Byte :=
  leBytes 32 (m.magic % 2 ^ 16 + 2 ^ 16 * (m.version % 16) + 2 ^ 20 * resp + 2 ^ 24 * cmd + 2 ^ 32 * m.keyId.val + 2 ^ 40 * status +
    2 ^ 48 * (len % 2 ^ 16) + 2 ^ 64 * (m.nonce % 2 ^ 64) + 2 ^ 128 * (arg0 % 2 ^ 32) + 2 ^ 160 * (arg1 % 2 ^ 32) + 2 ^ 192 * (arg2 % 2 ^ 64)) ++
  leBytes 16 mac

/-- The key of a slot, empty while none is loaded. -/
def State.wcpKey (s : State) (k : Nat) : List Byte := tabGet (dflt []) s.net.keys k

/-- Whether MAGIC, VERSION and LEN are right (R570). -/
def State.wcpFramed (s : State) (m : WcpMsg) : Bool :=
  m.magic == 0x4357 && m.version == 1 && m.len == m.payload.length && decide (m.len ≤ s.mtu m.port - 76)

/-- Whether a request's MAC is valid under the key of its slot (R570). -/
def State.wcpMacOk (s : State) (cmd : Nat) (m : WcpMsg) : Bool :=
  let key := s.wcpKey m.keyId
  !key.isEmpty &&
  (hmacSha256 key (wcpHeader cmd m 0 0 m.len m.arg0 m.arg1 m.arg2 0 ++ m.payload)).take 16 == leBytes 16 m.mac

/-- The bytes of a response; under an empty slot, which only HELLO can name, its MAC is free. -/
def State.wcpBytes (s : State) (cmd : Nat) (m : WcpMsg) (a : WcpAns) : List Byte :=
  let head (mac : Nat) : List Byte := wcpHeader cmd m 1 a.status a.payload.length a.arg0 a.arg1 a.arg2 mac
  let key := s.wcpKey m.keyId
  let mac := if key.isEmpty then Config.freeNat s.free % 2 ^ 128 else leNat ((hmacSha256 key (head 0 ++ a.payload)).take 16)
  head mac ++ a.payload

/-- Bytes sent to the source of a request (R569). -/
def State.wcpReply (s : State) (m : WcpMsg) (l : List Byte) : State :=
  s.udpSend m.port m.ip (s.fld Pg.NET Fd.NET_PORTS_WCP) m.udp l

/-- A request answered; the response is stored for its key (R571). -/
def State.wcpAnswer (s : State) (cmd : Nat) (m : WcpMsg) (a : WcpAns) : State :=
  let l := s.wcpBytes cmd m a
  let s := if cmd = wcpHello then s.drawn else { s with net := { s.net with resp := tabPut (dflt []) m.keyId.val l s.net.resp } }
  s.wcpReply m l

/-- Whether an offset lies in a page or a table window (Table — WCP status, RANGE). -/
def inBar0 (a : Nat) : Bool :=
  (pageAt (a / 4096)).isSome || (decide (0x0C0000 ≤ a) && decide (a < 0x0C2000)) || (decide (0x100000 ≤ a) && decide (a < 0x183800)) ||
  (decide (0x190000 ≤ a) && decide (a < 0x198000)) || (decide (0x1A0000 ≤ a) && decide (a < 0x1B0800)) ||
  (decide (0x1C0000 ≤ a) && decide (a < 0x1C4200)) || (decide (0x200000 ≤ a) && decide (a < 0x400000))

/-- Words read in turn from an offset on. -/
def State.readWords (s : State) (o : Owner) (a : Nat) : Nat → State × List Word
  | 0 => (s, [])
  | n + 1 =>
    let (s, w) := s.readAny o a
    let (s, l) := s.readWords o (a + 4) n
    (s, w :: l)

/-- Words written in turn from an offset on, until the first refused one; answers how many were written. -/
def State.writeWords (s : State) (o : Owner) (slot a : Nat) : List Word → State × Nat
  | [] => (s, 0)
  | w :: l =>
    let no := s.refuses o a w
    let s := s.writeAny o slot a w
    if no then (s, 0)
    else
      let (s, n) := s.writeWords o slot (a + 4) l
      (s, n + 1)

/-- REG_READ and REG_WRITE (R572). -/
def State.wcpRead (s : State) (m : WcpMsg) : State × WcpAns :=
  if m.arg0 % 4 ≠ 0 ∨ m.arg1 = 0 ∨ 256 < m.arg1 ∨ s.mtu m.port - 76 < 4 * m.arg1 then (s, wcpFormat)
  else if !(inBar0 m.arg0 && inBar0 (m.arg0 + 4 * m.arg1 - 4)) then (s, wcpRange)
  else
    let (s, l) := s.readWords .net m.arg0 m.arg1
    (s, { wcpOk with payload := wordBytes l })

def State.wcpWrite (s : State) (m : WcpMsg) : State × WcpAns :=
  if m.arg0 % 4 ≠ 0 ∨ m.arg1 = 0 ∨ 256 < m.arg1 ∨ m.payload.length ≠ 4 * m.arg1 then (s, wcpFormat)
  else if !(inBar0 m.arg0 && inBar0 (m.arg0 + 4 * m.arg1 - 4)) then (s, wcpRange)
  else
    let (s, n) := s.writeWords .net m.keyId m.arg0 ((List.range m.arg1).map fun i => leWord m.payload i)
    (s, { (if n = m.arg1 then wcpOk else wcpGuarded) with arg1 := n })

/-- Whether a JOB_CTL word names a command that is not refused (R74-R79, R699). -/
def State.jobCmdOk (s : State) (w : Word) : Bool :=
  let j := wf w 0 6
  let st := s.jobState j
  match wf w 8 5 with
  | 0 => true
  | 1 => st != jobNext && st != jobActive
  | 2 => (st == jobLoading || st == jobReady || st == jobRefused) && s.valJob.isNone
  | 4 => st == jobReady && !s.on Pg.SYS Fd.SYS_JOB_STAT_NEXT_VALID && (s.loadFaults (s.jobCtx j)).isEmpty
  | 8 => s.fld Pg.SYS Fd.SYS_CHG_CTL_STATE == 0
  | 16 => st == jobReady || st == jobLoading || st == jobRefused
  | _ => false

/-- The registers that JOB_CMD and MODE_CMD answer with. -/
def State.wcpShows (s : State) (cmd : Nat) : Nat :=
  (s.rd Pg.SYS (if cmd = wcpJobCmd then Rg.SYS_JOB_STAT else Rg.SYS_MODE)).toNat

/-- JOB_CMD and MODE_CMD write their register; the answer to a refusal, or none while the command is to finish (R572). -/
def State.wcpStart (s : State) (cmd : Nat) (m : WcpMsg) : State × Option WcpAns :=
  let w : Word := BitVec.ofNat 32 m.arg0
  let barred := s.access .net Pg.SYS == .guard || s.access .net Pg.SYS == .lock
  if cmd = wcpJobCmd then
    let ok := s.jobCmdOk w
    let t := s.jobCtl .net w
    (t, if barred then some wcpGuarded else if ok then none else some { wcpRefused with arg0 := t.wcpShows cmd })
  else
    let old := s.fld Pg.SYS Fd.SYS_MODE_REFUSAL
    let t := (s.refusal 0).modeReq .net (wfSet w 8 1 1)
    if barred then (t, some wcpGuarded)
    else if t.fld Pg.SYS Fd.SYS_MODE_REFUSAL = 0 then (t.refusal old, none)
    else (t, some { wcpRefused with arg0 := t.wcpShows cmd })

/-- Whether the command in progress has finished. -/
def State.wcpFinished (s : State) (cmd : Nat) (m : WcpMsg) : Bool :=
  if cmd = wcpModeCmd then !s.on Pg.SYS Fd.SYS_MODE_REQ_PENDING
  else match nb m.arg0 8 5 with
    | 2 => !s.on Pg.SYS Fd.SYS_JOB_STAT_VAL_BUSY
    | 4 => !s.on Pg.SYS Fd.SYS_JOB_STAT_NEXT_VALID || s.on Pg.SYS Fd.SYS_JOB_STAT_NEXT_READY
    | _ => true

/-- Whether a DRAM range lies in a window of 64 MiB units (R573). -/
def inUnits (base size a n : Nat) : Bool := decide (base * 2 ^ 26 ≤ a) && decide (a + n ≤ (base + size) * 2 ^ 26)

def State.inReadWindow (s : State) (a n : Nat) : Bool :=
  inUnits (s.rd Pg.NET Rg.NET_READ_BASE).toNat (s.rd Pg.NET Rg.NET_READ_SIZE).toNat a n

/-- DRAM bytes for a bulk request; where the read comes poisoned, free bytes. -/
def State.bulkBytes (s : State) (a n : Nat) : State × List Byte :=
  match s.memRead 3 a n with
  | (s, some l) => (s, l)
  | (s, none) => (s.drawn, (List.range n).map fun i => Config.freeByte (s.free * 2 ^ 40 + i))

/-- The bulk commands (R573). -/
def State.wcpBulk (s : State) (cmd : Nat) (m : WcpMsg) : State × WcpAns :=
  if cmd = wcpBulkWrite then
    if m.payload.length % 8 ≠ 0 then (s, wcpFormat)
    else if inUnits (s.rd Pg.NET Rg.NET_BULK_BASE).toNat (s.rd Pg.NET Rg.NET_BULK_SIZE).toNat m.arg2 m.payload.length then
      (s.hostWrite 3 m.arg2 m.payload, wcpOk)
    else (s, wcpRange)
  else if cmd = wcpBulkRead then
    if s.mtu m.port - 76 < m.arg1 then (s, wcpFormat)
    else if s.inReadWindow m.arg2 m.arg1 then
      let (s, l) := s.bulkBytes m.arg2 m.arg1
      (s, { wcpOk with payload := l })
    else (s, wcpRange)
  else if s.inReadWindow m.arg2 m.arg1 then
    let (s, l) := s.bulkBytes m.arg2 m.arg1
    (s, { wcpOk with arg0 := crc32c l })
  else (s, wcpRange)

/-- A request executed: its nonce (R571), then the command. -/
def State.wcpRun (s : State) (cmd : Nat) (m : WcpMsg) : State :=
  if cmd = wcpHello then
    (s.bump Pg.NET Fd.NET_WCP_CNT_b0).wcpAnswer cmd m
      { wcpOk with arg0 := 0x5716, arg1 := wf (s.rd Pg.SYS Rg.SYS_DEV_ID) 16 8, arg2 := s.net.floor }
  else
    let k := m.keyId.val
    let seen := tabGet (dflt none) s.net.nonce k
    let last := seen.getD s.net.floor
    let stored := tabGet (dflt []) s.net.resp k
    if m.nonce = last ∧ seen.isSome ∧ !stored.isEmpty then s.wcpReply m stored
    else if m.nonce ≤ last then
      let s := s.bump Pg.NET Fd.NET_WCP_REJ_REPLAY
      s.wcpReply m (s.wcpBytes cmd m wcpReplay)
    else
      let s := { s with net := { s.net with nonce := tabPut (dflt none) k (some m.nonce) s.net.nonce, resp := tabPut (dflt []) k [] s.net.resp } }
      let s := s.bump Pg.NET Fd.NET_WCP_CNT_b0
      if cmd = wcpRegRead then
        let (s, a) := s.wcpRead m
        s.wcpAnswer cmd m a
      else if cmd = wcpRegWrite then
        let (s, a) := s.wcpWrite m
        s.wcpAnswer cmd m a
      else if cmd = wcpJobCmd ∨ cmd = wcpModeCmd then
        let (s, a) := s.wcpStart cmd m
        match a with
        | some a => s.wcpAnswer cmd m a
        | none => { s with net := { s.net with wcpBusy := some (cmd, m) } }
      else
        let (s, a) := s.wcpBulk cmd m
        s.wcpAnswer cmd m a

/-- A request as it arrives: unanswered where it fails its checks (R570), executed, or held behind the command in progress (R572). -/
def State.wcpTake (s : State) (cmd : Nat) (m : WcpMsg) : State :=
  if !(s.netOn && s.on Pg.NET Fd.NET_CTL_WCP_EN && s.ethUp m.port) then s
  else if !(s.wcpFramed m && (cmd == wcpHello || s.wcpMacOk cmd m)) then
    let s := s.bump Pg.NET Fd.NET_WCP_REJ_AUTH
    let sec := s.rawNs / 10 ^ 9 + 1
    if s.net.authAt = sec then s else { s with net := { s.net with authAt := sec } }.logErr Er.WCP_AUTH Pg.NET
  else if s.net.wcpBusy.isSome then
    (if s.net.wcpQ.length < 16 then { s with net := { s.net with wcpQ := s.net.wcpQ ++ [(cmd, m)] } }
    else s.bump Pg.NET Fd.NET_WCP_CNT_b16)
  else s.wcpRun cmd m

/-- Requests held are executed in order until one of them is to finish. -/
def State.wcpDrain (s : State) : Nat → State
  | 0 => s
  | n + 1 =>
    if s.net.wcpBusy.isSome then s
    else match s.net.wcpQ with
      | [] => s
      | (cmd, m) :: t => ({ s with net := { s.net with wcpQ := t } }.wcpRun cmd m).wcpDrain n

/-- The command in progress is answered once it has finished, or with BUSY at 100 ms (R572). -/
def State.wcpFinish (s : State) (timeout : Bool) : State :=
  match s.net.wcpBusy with
  | none => s
  | some (cmd, m) =>
    let go (a : WcpAns) : State :=
      (({ s with net := { s.net with wcpBusy := none } }.wcpAnswer cmd m a).wcpDrain 16)
    if s.wcpFinished cmd m then go { wcpOk with arg0 := s.wcpShows cmd }
    else if timeout then go { wcpIsBusy with arg0 := s.wcpShows cmd }
    else s

/-- WCP_HELLO. -/
def execWcpHello (m : WcpMsg) (s : State) : Host.Outcome State Fault Refusal := .next (s.wcpTake wcpHello m)

/-- WCP_REG_READ. -/
def execWcpRegRead (m : WcpMsg) (s : State) : Host.Outcome State Fault Refusal := .next (s.wcpTake wcpRegRead m)

/-- WCP_REG_WRITE. -/
def execWcpRegWrite (m : WcpMsg) (s : State) : Host.Outcome State Fault Refusal := .next (s.wcpTake wcpRegWrite m)

/-- WCP_JOB_CMD. -/
def execWcpJobCmd (m : WcpMsg) (s : State) : Host.Outcome State Fault Refusal := .next (s.wcpTake wcpJobCmd m)

/-- WCP_MODE_CMD. -/
def execWcpModeCmd (m : WcpMsg) (s : State) : Host.Outcome State Fault Refusal := .next (s.wcpTake wcpModeCmd m)

/-- WCP_CMD_RESPONSE: the job or mode command in progress has finished, or with `timeout` 100 ms have passed. -/
def execWcpCmdResponse (timeout : Bool) (s : State) : Host.Outcome State Fault Refusal := .next (s.wcpFinish timeout)

/-- WCP_BULK_WRITE. -/
def execWcpBulkWrite (m : WcpMsg) (s : State) : Host.Outcome State Fault Refusal := .next (s.wcpTake wcpBulkWrite m)

/-- WCP_BULK_READ. -/
def execWcpBulkRead (m : WcpMsg) (s : State) : Host.Outcome State Fault Refusal := .next (s.wcpTake wcpBulkRead m)

/-- WCP_BULK_CRC. -/
def execWcpBulkCrc (m : WcpMsg) (s : State) : Host.Outcome State Fault Refusal := .next (s.wcpTake wcpBulkCrc m)

end Sys2Proof.Machine
end

