-- ==== Sys2Proof/Machine/Mtwi.lean ====
section
/-!
DEFINITION. MTWI, the management target (R588-R590): a transaction by its address, then a register or a mailbox command.
-/
namespace Sys2Proof.Machine

/-- The address that MTWI answers: 0x2C + MADDR (R588). -/
def State.mtwiAddr (s : State) : Nat := s.fld Pg.MTWI Fd.MTWI_ADDR_b0

/-- MTWI_ADDRESS: a transaction addresses the target, which acknowledges once BOOT has been left (R588). -/
def State.mtwiStart (s : State) (a : Nat) : State :=
  if s.mode = .boot ∨ !s.blockOn Pg.MTWI Fd.MTWI_CTL_EN ∨ a ≠ s.mtwiAddr then s
  else (s.setFld Pg.MTWI Fd.MTWI_STAT_BUSY 1).setFld Pg.MTWI Fd.MTWI_BUS_STAT_BUS_BUSY 1

def execMtwiAddress (a : Fin 128) (s : State) : Host.Outcome State Fault Refusal := .next (s.mtwiStart a)

/-- The transaction ends. -/
def State.mtwiStop (s : State) : State :=
  (s.setFld Pg.MTWI Fd.MTWI_STAT_BUSY 0).setFld Pg.MTWI Fd.MTWI_BUS_STAT_BUS_BUSY 0

/-- A fault of Table — MTWI faults: its flag and its count in CNT1. -/
def State.mtwiFault (s : State) (flag cnt : Fld) : State := (s.flag Pg.MTWI flag).bump Pg.MTWI cnt
def State.mtwiBad (s : State) : State := s.mtwiFault Fd.MTWI_STAT_BAD_CMD Fd.MTWI_CNT1_BAD_CMD
def State.mtwiRefused (s : State) : State := s.mtwiFault Fd.MTWI_STAT_REFUSED Fd.MTWI_CNT1_REFUSED

/-- PTR shows the offset of the register access. -/
def State.mtwiPtr (s : State) (a : Nat) : State := s.wr Pg.MTWI Rg.MTWI_PTR (BitVec.ofNat 32 a)

/-- The whole words among written bytes, written in turn until one is refused or lies outside a page (R589, R590); a partial word is
discarded. Answers the offset that follows and whether every word was written. -/
def State.mtwiWrite (s : State) (a : Nat) : List Byte → State × Nat × Bool
  | b0 :: b1 :: b2 :: b3 :: t =>
    let w : Word := BitVec.ofNat 32 (leNat [b0, b1, b2, b3])
    if (pageAt (a / 4096)).isNone then (s.mtwiRefused, a, false)
    else if s.refuses .mgmt a w then ((s.writeAny .mgmt 0 a w).mtwiRefused, a, false)
    else (((s.writeAny .mgmt 0 a w).bump Pg.MTWI Fd.MTWI_CNT0_b16).mtwiPtr (a + 4)).mtwiWrite (a + 4) t
  | _ => (s, a, true)

/-- Words read in turn; one outside a page reads as all ones with REFUSED (R590). -/
def State.mtwiRead (s : State) (a : Nat) : Nat → State × List Word
  | 0 => (s, [])
  | n + 1 =>
    let (s, w) := if (pageAt (a / 4096)).isNone then (s.mtwiRefused, 0xFFFFFFFF)
      else
        let (s, w) := s.readAny .mgmt a
        (s.bump Pg.MTWI Fd.MTWI_CNT0_b0, w)
    let (s, l) := (s.mtwiPtr (a + 4)).mtwiRead (a + 4) n
    (s, w :: l)

/-- MTWI_REG_CMD: command 0x01 with an offset, the bytes written after it, and the bytes read after a repeated START, which follow in
words of the offset reached (R589). -/
def State.mtwiReg (s : State) (ofs : Nat) (data : List Byte) (rd : Nat) : State :=
  if !s.on Pg.MTWI Fd.MTWI_STAT_BUSY then s
  else
    let s := if ofs % 4 ≠ 0 then s.mtwiBad
      else
        let (s, a, ok) := (s.mtwiPtr ofs).mtwiWrite ofs data
        if rd = 0 || !ok then s
        else
          let (s, l) := s.mtwiRead a ((rd + 3) / 4)
          s.emit (.twoWire Pg.MTWI ((wordBytes l).take rd))
    s.mtwiStop

def execMtwiRegCmd (ofs : Word) (data : List Byte) (rd : Nat) (s : State) : Host.Outcome State Fault Refusal :=
  .next (s.mtwiReg ofs.toNat data rd)

/-- Mailbox bytes written: each that the receive FIFO has no space for is not acknowledged (R590). -/
def State.mboxIn (s : State) (data : List Byte) : State :=
  data.foldl (fun (s : State) b =>
    if (s.fifoOf 8).length < fifoDepth 8 then s.fifoPut 8 [b] else s.mtwiFault Fd.MTWI_STAT_MBOX_OVF Fd.MTWI_CNT1_b24) s

/-- Mailbox bytes read: 0xFF for each that the transmit FIFO has not after 50 µs (R590). -/
def State.mboxOut (s : State) : Nat → State × List Byte
  | 0 => (s, [])
  | n + 1 =>
    let (s, b) := match s.fifoOf 9 with
      | [] => (s.mtwiFault Fd.MTWI_STAT_MBOX_UNDER Fd.MTWI_CNT1_b24, (0xFF : Byte))
      | b :: t => (s.setFifo 9 t, b)
    let (s, l) := s.mboxOut n
    (s, b :: l)

/-- MTWI_MBOX_CMD: a command byte other than 0x01, with the bytes written after it and the number of bytes read (R589, R590). -/
def State.mtwiMbox (s : State) (cmd : Nat) (data : List Byte) (rd : Nat) : State :=
  if !s.on Pg.MTWI Fd.MTWI_STAT_BUSY then s
  else
    let s := if cmd ≠ 2 || !s.on Pg.MTWI Fd.MTWI_CTL_MBOX_EN then s.mtwiBad
      else
        let s := s.mboxIn data
        if rd = 0 then s
        else
          let (s, l) := s.mboxOut rd
          s.emit (.twoWire Pg.MTWI l)
    s.mtwiStop

def execMtwiMboxCmd (cmd : Fin 256) (data : List Byte) (rd : Nat) (s : State) : Host.Outcome State Fault Refusal :=
  .next (s.mtwiMbox cmd data rd)

end Sys2Proof.Machine
end

