-- ==== Sys2Proof/Machine/Boot.lean ====
section
/-!
DEFINITION. Resets and boot (R621-R639, R686): what PORST_N and SRST_N leave, the boot sequence with its image and training, a host load,
the release into IDLE, and REGISTER_WRITE.
-/
namespace Sys2Proof.Machine

/-! ### Resets (R621-R623) -/

/-- PORST_N low: the machine of the power-on reset; fuses, the record of outputs and the levels at the input pins are what a reset
does not take, and DRAM holds free bytes. -/
def State.powerOn (s : State) : State :=
  { State.reset with
    pending := s.pending, out := s.out, free := s.free + 1, fuse := s.fuse, blank := [⟨0, 2 ^ 40, some s.free⟩]
    evio := { input := s.evio.input } }

def execPorstAssert (s : State) : Host.Outcome State Fault Refusal := .next s.powerOn

/-- The registers that a warm reset keeps of a page, by mask: PCI Express link and configuration space, the pins until the image
applies (R686), TB's OFFSET, RATE, STEPPED and state (R434, R441), and the training results of the memory (R531). Locks are broken. -/
def warmMask (a : Nat) : Word :=
  let p := a / 4096
  let o := a % 4096
  if o = Rg.HDR_LOCK then 0
  else if p = Pg.PINS0 ∨ p = Pg.PINS1 then 0xFFFFFFFF
  else if p = Pg.PCIE ∧ 0x40 ≤ o then (match regDefAt a with | some r => ~~~(r.rw ||| r.rws ||| r.w1c ||| r.roc ||| r.wro) | none => 0)
  else if p = Pg.TB then
    (if o = Rg.TB_STAT then 0x00000FFF
    else if o = Rg.TB_OFFSET_LO ∨ o = Rg.TB_OFFSET_HI ∨ o = Rg.TB_RATE_LO ∨ o = Rg.TB_RATE_HI then 0xFFFFFFFF else 0)
  else if Pg.MC 0 ≤ p ∧ p < Pg.MC 12 ∧ (o = Rg.MC_STAT ∨ o = Rg.MC_MARGIN) then 0xFFFFFFFF
  else 0

/-- Registers after a warm reset. -/
def warmRegs (t : Tab Word) : Tab Word :=
  t.foldl (fun (n : Tab Word) (e : Nat × Word) =>
    let m := warmMask e.1
    if e.1 < 2 ^ 24 then tabPut regReset e.1 ((e.2 &&& m) ||| (regReset e.1 &&& ~~~m)) n else n) []

/-- The windows that a warm reset keeps: the session table, as written and in force (R568, R623). -/
def warmWindow (t : Tab Word) : Tab Word :=
  t.filter fun e => (decide (0x1A0000 ≤ e.1) && decide (e.1 < 0x1B0000)) ||
    (decide (sessActiveAt 0 ≤ e.1) && decide (e.1 < sessActiveAt 1024))

/-- What a warm reset keeps of the machine (Table — What a reset keeps). -/
def State.warmKept (s : State) : State :=
  { State.reset with
    pending := s.pending, out := s.out, free := s.free, raw := s.raw, fuse := s.fuse
    regs := warmRegs s.regs, window := warmWindow s.window
    mem := s.mem, blank := s.blank, badLine := s.badLine, trained := s.trained
    tb := { offset := s.tb.offset, f16 := s.tb.f16, anchor := s.tb.anchor, rate := s.tb.rate, f := s.tb.f }
    mc := s.mc.foldl (fun (n : Tab Mc) (e : Nat × Mc) => tabPut (dflt {}) e.1 { e.2 with open_ := [], panic := [], defer := 0, dead := 0 } n) []
    evio := { input := s.evio.input, level := s.evio.level }
    hlth := { tap := s.hlth.tap }
    net := { sess := s.net.sess }
    wroDone := if s.on Pg.TB Fd.TB_STAT_STEPPED then
        s.wroDone.filter fun e => e.1 == Pg.TB * 4096 + Rg.TB_OFFSET_LO || e.1 == Pg.TB * 4096 + Rg.TB_OFFSET_HI
      else [] }

/-- SRST_N low: the steps of R69 without HOLD, then the reset with what it keeps. -/
def State.warmReset (s : State) : State :=
  let s := (List.range 4).foldl (fun (s : State) v => s.stopTriggers v) s
  let s := s.cancelCalendar.stopSlots.safePins
  let trained := !s.trained.isEmpty
  let t := s.warmKept.setFld Pg.BOOT Fd.BOOT_STAT_WARM 1
  if trained then
    (List.range 12).foldl (fun (t : State) c => t.setFld (Pg.MC c) Fd.MC_STAT_SELF_REFRESH 1) (t.setFld Pg.MCG Fd.MCG_STAT_SELF_REFRESH 1)
  else t

def execSrstAssert (s : State) : Host.Outcome State Fault Refusal := .next s.warmReset

/-! ### Boot (R625-R634) -/

/-- BOOT.STAT.STEP. -/
def State.bootStep (s : State) (k : Nat) : State := s.setFld Pg.BOOT Fd.BOOT_STAT_STEP k

/-- Boot stays in BOOT after a FATAL error (R634). -/
def State.bootFail (s : State) (e : ErrCode) (p : Nat) : State := (s.logErr e p).bootStep 6

/-- The registers that show fuses (R640, R654): FUSE, the identities of SYS and PCIE, and TST. -/
def State.loadFuses (s : State) : State :=
  let f (lo len : Nat) : Nat := nb s.fuse lo len
  let put (s : State) (p o x : Nat) : State := s.wr p o (BitVec.ofNat 32 x)
  let s := (List.range 8).foldl (fun (s : State) k => put s Pg.FUSE (Rg.FUSE_KEY_HASH k) (f (32 * k) 32)) s
  let s := put s Pg.FUSE Rg.FUSE_OPTIONS (f 256 2)
  let s := put s Pg.FUSE Rg.FUSE_ROLLBACK (f 264 32)
  let s := put s Pg.FUSE Rg.FUSE_PCI_IDS (f 512 32)
  let s := put s Pg.FUSE Rg.FUSE_DIE_ID_LO (f 552 32)
  let s := put s Pg.FUSE Rg.FUSE_DIE_ID_HI (f 584 16 + 2 ^ 16 * f 544 8)
  let s := put s Pg.SYS Rg.SYS_DEV_ID (0x5716 + 2 ^ 16 * f 544 8)
  let s := put s Pg.PCIE Rg.PCIE_IDS (f 512 32)
  let s := put s Pg.TST Rg.TST_IDCODE (1 + 2 * 0x4E9 + 2 ^ 12 * 0x5716 + 2 ^ 28 * f 544 4)
  s.setFld Pg.TST Fd.TST_STAT_TEST_LOCK (f 257 1)

/-- Whether FUSE_CRC matches (R625). -/
def fuseCrcOk (fuse : Nat) : Bool := nb fuse 4064 32 == crc32c (leBytes 444 (nb fuse 512 3552))

/-- REPAIR entries in use: those that are not zero (R625, R627). -/
def repairUsed (fuse : Nat) : Nat := ((List.range 128).filter fun i => nb fuse (1536 + 16 * i) 16 != 0).length

/-- Bytes copied into a table window or the context store window (R628). -/
def State.copyWindow (s : State) (dest : Nat) (l : List Byte) : State :=
  let a := dest / 4 * 4
  let head := (leBytes 4 (s.win a).toNat).take (dest % 4)
  let n := head.length + l.length
  let last := a + n / 4 * 4
  let tail := if n % 4 = 0 then [] else (leBytes 4 (s.win last).toNat).drop (n % 4)
  let all := head ++ l ++ tail
  (List.range (all.length / 4)).foldl (fun (s : State) i => s.writeWindow .boot (a + 4 * i) (leWord all i)) s

/-- A staged section applied (R633): REGS in order, as BOOT writes them, or a window. A warm boot leaves the session table (R624) and
the kept registers of TB (R434) as they are. -/
def State.applySect (s : State) (warm : Bool) (x : Staged) : State :=
  if x.type = 1 then
    (regsPairs x.data).foldl (fun (s : State) (e : Nat × Word) =>
      if warm && warmMask e.1 == 0xFFFFFFFF && e.1 / 4096 == Pg.TB then s else s.writeAny .boot 0 e.1 e.2) s
  else if 0x1A0000 ≤ x.dest ∧ x.dest < 0x1B0000 then
    (if warm then s
    else
      let s := s.copyWindow x.dest x.data
      let lo := (x.dest - 0x1A0000) / 64
      let hi := (x.dest + x.data.length + 63 - 0x1A0000) / 64
      (List.range (hi - lo)).foldl (fun (s : State) i => s.takeEntry (lo + i) (s.sessShadow (lo + i)) true) s)
  else s.copyWindow x.dest x.data

/-- The values that the image gave RWS registers come into force, with the stream table (R633). -/
def State.imageInForce (s : State) : State :=
  let s := pageList.foldl (fun (s : State) p => s.putRegs (s.snapshot p)) s
  (List.range 7).foldl (fun (s : State) n => s.putRegs (s.strWords n)) s

/-- An image applied in one step (R633): the pins' registers return to their reset values as the image's take their place. -/
def State.applyImage (s : State) (verified : Bool) (l : List Staged) : State :=
  let warm := s.on Pg.BOOT Fd.BOOT_STAT_WARM
  let pins (p : Nat) : Bool := p == Pg.PINS0 || p == Pg.PINS1
  let held := s.fld Pg.PINS0 Fd.PINS0_PIN_STAT_SAFE_ACTIVE
  let level := s.rd Pg.PINS0 Rg.PINS0_IN_LEVEL
  let s := { s with regs := s.regs.filter fun e => !pins (e.1 / 4096), shadow := s.shadow.filter fun e => !pins (e.1 / 4096) }
  let s := s.wr Pg.PINS0 Rg.PINS0_IN_LEVEL level
  let s := if held = 1 then s.safePins else s
  let s := s.setBit Pg.BOOT Fd.BOOT_STAT_VERIFIED verified
  (l.foldl (fun (s : State) x => s.applySect warm x) s).imageInForce

/-- An image rejected (R632): slot 0 A, 1 B, 2 a host load. -/
def State.rejectImage (s : State) (slot cause sect : Nat) : State :=
  let s := s.setFld Pg.BOOT ⟨Rg.BOOT_REJECT, 8 * slot, 8⟩ cause
  (if slot < 2 then s.setFld Pg.BOOT Fd.BOOT_STAT_FALLBACK 1 else s).logErr Er.IMG_REJECT Pg.BOOT slot sect

/-- The boot training: what it takes, its result by channel, or MEM_TRAIN_FAIL (R527, R532). -/
def State.bootTrain (s : State) (train : Option (List MarginRead)) : State :=
  if !s.trainCfgOk then (s.logErr Er.MEM_CFG Pg.MCG).bootFail Er.MEM_TRAIN_FAIL Pg.MCG
  else match train with
    | none => s.bootFail Er.MEM_TRAIN_FAIL Pg.MCG
    | some l =>
      let s := (l.take 12).zipIdx.foldl (fun (s : State) (x : MarginRead × Nat) => s.channelTrained x.2 x.1) s.takeTraining
      (s.setFld Pg.MCG Fd.MCG_STAT_INIT_DONE 1).bootStep 3

/-- Self-refresh left, with one tracking window (R531). -/
def State.selfRefreshExit (s : State) (track : List TrackRead) : State :=
  let s := (List.range 12).foldl (fun (s : State) c => s.setFld (Pg.MC c) Fd.MC_STAT_SELF_REFRESH 0) (s.setFld Pg.MCG Fd.MCG_STAT_SELF_REFRESH 0)
  let l := track.take 12
  let s := (l.zipIdx.foldl (fun (s : State) (x : TrackRead × Nat) => s.trackChannel x.2 x.1) s).hotUpdate l
  (s.setFld Pg.MCG Fd.MCG_STAT_INIT_DONE 1).bootStep 3

/-- Step 5: training, or the exit from self-refresh where the memory is trained. -/
def State.bootMemory (s : State) (train : Option (List MarginRead)) (track : List TrackRead) : State :=
  if s.trained.isEmpty then s.bootTrain train else s.selfRefreshExit track

/-- A slot tried: false where it is rejected (R632, R633, R637). -/
def State.trySlot (s : State) (slot : Nat) (gen : Option Nat) (f : FlashSlot) (tImage : Nat) : State × Bool :=
  match gen with
  | none => (s.rejectImage slot imgNoRecord 0, false)
  | some g =>
    match checkImage s.fuse f.image slotLimit with
    | .reject c i => (s.rejectImage slot c i, false)
    | .pass ver len ok l =>
      let s := s.applyImage ok l
      let s := s.setFld Pg.BOOT Fd.BOOT_STAT_SLOT slot
      let s := s.wr Pg.BOOT Rg.BOOT_IMG_VERSION (BitVec.ofNat 32 ver)
      let s := s.wr Pg.BOOT Rg.BOOT_IMG_GEN (BitVec.ofNat 32 g)
      let s := s.wr Pg.BOOT Rg.BOOT_IMG_LEN (BitVec.ofNat 32 len)
      let s := s.wr Pg.BOOT Rg.BOOT_T_IMAGE (BitVec.ofNat 32 tImage)
      let s := s.wr Pg.QSPI Rg.QSPI_PROT_BASE (BitVec.ofNat 32 (slot * 0x4000000))
      (s.wr Pg.QSPI Rg.QSPI_PROT_LIMIT (BitVec.ofNat 32 (slot * 0x4000000 + 0x3FFFFFF)), true)

/-- The slots to try in their order (Table — Boot sources): the valid ones by GEN, then those without a valid record. -/
def bootOrder (sel : Nat) (a b : Option Nat) : List (Nat × Option Nat) :=
  if sel = 1 then [(1, b)]
  else if sel = 2 then []
  else match a, b with
    | some x, some y => if x < y then [(1, b), (0, a)] else [(0, a), (1, b)]
    | none, some _ => [(1, b), (0, a)]
    | _, _ => [(0, a), (1, b)]

/-- The device waits for a host load (R634, R635). -/
def State.waitHost (s : State) : State := { s.bootStep 5 with bootWait := true }

/-- Steps 4 and 5 of Table — Boot sequence. -/
def State.bootImage (s : State) (sel : Nat) (b : BootIn) : State :=
  let s := (s.bootStep 2).wr Pg.QSPI Rg.QSPI_FLASH_ID (BitVec.ofNat 32 (b.jedec % 2 ^ 24))
  let s := s.wr Pg.QSPI Rg.QSPI_PROT_BASE 1
  let order := bootOrder sel (recordGen 0 b.slotA) (recordGen 1 b.slotB)
  let r := order.foldl (fun (r : State × Bool) (e : Nat × Option Nat) =>
    if r.2 then r else r.1.trySlot e.1 e.2 (if e.1 = 0 then b.slotA else b.slotB) b.tImage) (s, false)
  if r.2 then r.1.bootMemory b.train b.track
  else if sel = 2 then r.1.waitHost
  else (r.1.logErr Er.NO_IMAGE Pg.BOOT).waitHost

/-- Steps 2 to 5 of Table — Boot sequence: fuses, SRAM, the straps sampled at the release, image and memory. -/
def State.boot (s : State) (b : BootIn) : State :=
  let s := s.loadFuses
  let s := s.setFld Pg.BOOT Fd.BOOT_STAT_BOOTSEL b.sel
  let s := (s.setFld Pg.PINS0 Fd.PINS0_IN_LEVEL_BOOTSEL b.sel).setFld Pg.PINS0 Fd.PINS0_IN_LEVEL_MADDR b.maddr
  let s := (s.setFld Pg.MTWI Fd.MTWI_ADDR_b0 (0x2C + b.maddr)).setFld Pg.MTWI Fd.MTWI_ADDR_MADDR b.maddr
  if !fuseCrcOk s.fuse then s.bootFail Er.FUSE_CRC Pg.FUSE
  else
    let s := ((s.setFld Pg.FUSE Fd.FUSE_STAT_CRC_OK 1).setFld Pg.FUSE Fd.FUSE_STAT_b8 (repairUsed s.fuse)).setFld Pg.FUSE
      Fd.FUSE_STAT_b16 (satN 8 b.rows)
    let s := s.bootStep 1
    if !b.repairOk then s.bootFail Er.SRAM_UNREPAIRABLE Pg.BOOT
    else
      let sel := if b.sel.val = 3 ∧ tbit s.fuse 257 then 0 else b.sel.val
      if sel = 3 then s.setFld Pg.TST Fd.TST_STAT_b2 1 else s.bootImage sel b

/-- COLD_BOOT: PORST_N is released; the fuses hold what the array was found to hold besides what PROG_CTL has blown. Only
a machine in step 0 of a cold boot takes it. -/
def execColdBoot (fuses : Nat) (b : BootIn) (s : State) : Host.Outcome State Fault Refusal :=
  .next (if s.mode = .boot ∧ s.fld Pg.BOOT Fd.BOOT_STAT_STEP = 0 ∧ s.fld Pg.BOOT Fd.BOOT_STAT_WARM = 0 then
    (s.blowFuses fuses).boot b else s)

/-- The TO_SEQ of a session's RESTART GAP after a warm reset: the last SEQ of the previous epoch, free where it placed none (R568). -/
def State.lastSeq (s : State) (k : Nat) : Nat :=
  let x := s.sess k
  if x.count = 0 then Config.freeNat s.free % 2 ^ 64 else x.seq - 1

/-- Every open session starts a new epoch after a warm reset (R568). -/
def State.warmSessions (s : State) : State :=
  (s.sessions.foldl (fun (s : State) k => (s.putSess k ((s.sess k).newEpoch (some (s.lastSeq k)))).drawn) s).showSessions

/-- WARM_BOOT: SRST_N is released. -/
def execWarmBoot (b : BootIn) (s : State) : Host.Outcome State Fault Refusal :=
  .next (if s.mode = .boot ∧ s.fld Pg.BOOT Fd.BOOT_STAT_STEP = 0 ∧ s.fld Pg.BOOT Fd.BOOT_STAT_WARM = 1 then s.warmSessions.boot b else s)

/-! ### A host load (R635) -/

/-- A write of HOST_LOAD; GO checks the image in the window and applies it, while the device waits for one. -/
def State.hostLoad (s : State) (w : Word) (tImage : Nat) (train : Option (List MarginRead)) (track : List TrackRead) : State :=
  let s := s.writeReg Pg.PCIE Rg.PCIE_HOST_LOAD w
  if wf w 31 1 = 0 || !s.bootWait then s
  else
    let n := wf w 0 24
    let img := (wordBytes ((List.range ((n + 3) / 4)).map fun i => s.win (0x800000 + 4 * i))).take n
    match (if loadLimit < n then ImgCheck.reject imgFormat 0 else checkImage s.fuse img n) with
    | .reject c i => s.rejectImage 2 c i
    | .pass ver len ok l =>
      let s := { s with window := tabClear 0x800000 0x1000000 s.window, bootWait := false }.applyImage ok l
      let s := (s.setFld Pg.BOOT Fd.BOOT_STAT_HOST_IMAGE 1).wr Pg.BOOT Rg.BOOT_IMG_VERSION (BitVec.ofNat 32 ver)
      let s := (s.wr Pg.BOOT Rg.BOOT_IMG_GEN 0).wr Pg.BOOT Rg.BOOT_IMG_LEN (BitVec.ofNat 32 len)
      (s.wr Pg.BOOT Rg.BOOT_T_IMAGE (BitVec.ofNat 32 tImage)).bootMemory train track

/-- HOST_LOAD_GO. -/
def execHostLoadGo (o : Owner) (w : Word) (tImage : Nat) (train : Option (List MarginRead)) (track : List TrackRead) (s : State) :
    Host.Outcome State Fault Refusal :=
  .next (s.guarded o Pg.PCIE Rg.PCIE_HOST_LOAD fun s => s.hostLoad w tImage train track)

/-! ### Release (R633, R639) -/

/-- CFG_DONE is high once BOOT has been left (R633, R686). -/
def State.cfgDone (s : State) : Bool := s.mode != .boot

/-- A JOB_END record of a job that a warm reset ended; the capture time and the number of records sent are lost with it, and free. -/
def resetEnd (free job tag lastRep : Nat) : Nat :=
  mkBits [(0, 8, recEnd), (8, 6, job), (48, 16, 2 ^ rfTrunc), (64, 32, lastRep), (96, 32, tag), (170, 6, 7),
    (256, 64, Config.freeNat free), (384, 32, Config.freeNat (free + 1))]

/-- A record sent to each open DATA session (R639). -/
def State.sendAll (s : State) (bits : Nat) : State :=
  (s.sessions.filter fun k => !s.seAct k).foldl (fun (s : State) k => s.fillRecord k bits) s

/-- The job library after a warm reset (R639): jobs return to READY, and the run record's jobs get their end records. -/
def State.warmJobs (s : State) : State :=
  let s := (List.range 64).foldl (fun (s : State) j =>
    if s.jobState j = jobActive ∨ s.jobState j = jobNext then s.setJobState j jobReady else s) s
  let a := s.dirAddr 64
  let r := s.dramNat a 64
  if !tbit r 6 then s
  else
    let s := s.drawn.drawn.sendAll (resetEnd s.free (nb r 0 6) (nb r 32 32) (nb r 64 32))
    let s := if tbit r 14 then s.drawn.drawn.sendAll (resetEnd s.free (nb r 8 6) (nb r 96 32) (nb r 64 32)) else s
    s.dramPut a (leBytes 64 (nbSet (nbSet r 6 1 0) 14 1 0))

/-- Step 6: mode IDLE, with the clocks as `locks` and `freqs` find them, and the ports and generators that the image enables. -/
def State.release (s : State) (total locks : Nat) (freqs : List Nat) : State :=
  let s := (s.bootStep 4).wr Pg.BOOT Rg.BOOT_T_TOTAL (BitVec.ofNat 32 total)
  let s := { s with bootWait := false, net := { s.net with floor := s.time, nonce := [], resp := [] } }
  let s := (s.wr Pg.CLK Rg.CLK_LOCK0 (BitVec.ofNat 32 locks)).wr Pg.CLK Rg.CLK_LOCK1 (BitVec.ofNat 32 (locks / 2 ^ 32 % 256))
  let s := ((freqs.take 40).zipIdx).foldl (fun (s : State) (e : Nat × Nat) => s.wr Pg.CLK (Rg.CLK_FREQ e.2) (BitVec.ofNat 32 e.1)) s
  let s := s.setFld Pg.TB Fd.TB_STAT_REF_LOCK (nb locks 34 1)
  let s := (s.ownerReset 1).releasePins.enter .idle
  let s := ((List.range 16).foldl (fun (s : State) p => s.portSync p) s).tgSyncAll
  if s.on Pg.BOOT Fd.BOOT_STAT_WARM then s.warmJobs else s

/-- BOOT_RELEASE at raw ns `t`: memory is ready. -/
def execBootRelease (t total locks : Nat) (freqs : List (Fin 1048576)) (s : State) : Host.Outcome State Fault Refusal :=
  .next (if s.mode = .boot ∧ s.fld Pg.BOOT Fd.BOOT_STAT_STEP = 3 then
    (s.atNs t).release total locks (freqs.map (·.val)) else s)

/-! ### A write of any register -/

/-- REGISTER_WRITE: a word written at a BAR0 offset, to a register or a table window, applied or refused (R664). -/
def execRegisterWrite (o : Owner) (addr : Nat) (w : Word) (s : State) : Host.Outcome State Fault Refusal :=
  .next (s.writeAny o 0 addr w)

end Sys2Proof.Machine
end

