-- ==== Sys2Proof/Machine/Dispatch.lean ====
section
/-!
DEFINITION. The dispatch of a command to its meaning: one arm per constructor of `Instr`, each a direct call.
-/
namespace Sys2Proof.Machine

def exec (i : Instr) (s : State) : Host.Outcome State Fault Refusal :=
  match i with
  | .modeReqIdle o w => Sys2Proof.Machine.execModeReqIdle o w s
  | .modeReqSetup o w => Sys2Proof.Machine.execModeReqSetup o w s
  | .modeReqRelearn o w => Sys2Proof.Machine.execModeReqRelearn o w s
  | .modeReqInspect o w => Sys2Proof.Machine.execModeReqInspect o w s
  | .modeReqLegacy o w => Sys2Proof.Machine.execModeReqLegacy o w s
  | .modeReqHold o w => Sys2Proof.Machine.execModeReqHold o w s
  | .jobEndAtBoundary v => Sys2Proof.Machine.execJobEndAtBoundary v s
  | .jobOpen o w => Sys2Proof.Machine.execJobOpen o w s
  | .jobValidate o w => Sys2Proof.Machine.execJobValidate o w s
  | .validationDone => Sys2Proof.Machine.execValidationDone s
  | .jobLoadNext o w => Sys2Proof.Machine.execJobLoadNext o w s
  | .loadNextDone => Sys2Proof.Machine.execLoadNextDone s
  | .jobCancelNext o w => Sys2Proof.Machine.execJobCancelNext o w s
  | .jobDelete o w => Sys2Proof.Machine.execJobDelete o w s
  | .chgArm o w => Sys2Proof.Machine.execChgArm o w s
  | .chgCancel o w => Sys2Proof.Machine.execChgCancel o w s
  | .enteringViewStart v => Sys2Proof.Machine.execEnteringViewStart v s
  | .changeoverComplete => Sys2Proof.Machine.execChangeoverComplete s
  | .encCount ch step sample => Sys2Proof.Machine.execEncCount ch step sample s
  | .ssiRead ch value sample => Sys2Proof.Machine.execSsiRead ch value sample s
  | .encIndex ch sample => Sys2Proof.Machine.execEncIndex ch sample s
  | .standstill ch sample => Sys2Proof.Machine.execStandstill ch sample s
  | .triggerIssue v sample => Sys2Proof.Machine.execTriggerIssue v sample s
  | .tgLineLoRead o v => Sys2Proof.Machine.execTgLineLoRead o v s
  | .linePacket p pkt t => Sys2Proof.Machine.execLinePacket p pkt t s
  | .statusPacket p pkt t => Sys2Proof.Machine.execStatusPacket p pkt t s
  | .regResp p pkt t => Sys2Proof.Machine.execRegResp p pkt t s
  | .laneLockGained q x => Sys2Proof.Machine.execLaneLockGained q x s
  | .laneLockLost q m => Sys2Proof.Machine.execLaneLockLost q m s
  | .alignMarker p marks => Sys2Proof.Machine.execAlignMarker p marks s
  | .heartbeat p => Sys2Proof.Machine.execHeartbeat p s
  | .statusTimeout p => Sys2Proof.Machine.execStatusTimeout p s
  | .camAccGo o p w => Sys2Proof.Machine.execCamAccGo o p w s
  | .camRegTimeout p => Sys2Proof.Machine.execCamRegTimeout p s
  | .noCameraTimeout p => Sys2Proof.Machine.execNoCameraTimeout p s
  | .linkBaseResend p => Sys2Proof.Machine.execLinkBaseResend p s
  | .lockTimeout p => Sys2Proof.Machine.execLockTimeout p s
  | .trainTimeout p => Sys2Proof.Machine.execTrainTimeout p s
  | .alignTimeout p => Sys2Proof.Machine.execAlignTimeout p s
  | .failedRetry p => Sys2Proof.Machine.execFailedRetry p s
  | .trainingOrderedSet p ts => Sys2Proof.Machine.execTrainingOrderedSet p ts s
  | .trainScanStart p x => Sys2Proof.Machine.execTrainScanStart p x s
  | .trainScanDone p m x => Sys2Proof.Machine.execTrainScanDone p m x s
  | .eqReqResend p m => Sys2Proof.Machine.execEqReqResend p m s
  | .eyeScanDone q m x => Sys2Proof.Machine.execEyeScanDone q m x s
  | .recalPeriod q m => Sys2Proof.Machine.execRecalPeriod q m s
  | .jokerCalNow o q w => Sys2Proof.Machine.execJokerCalNow o q w s
  | .jokerMatched x => Sys2Proof.Machine.execJokerMatched x s
  | .jokerMatchTimeout q => Sys2Proof.Machine.execJokerMatchTimeout q s
  | .mainSliceCalDone q m ok => Sys2Proof.Machine.execMainSliceCalDone q m ok s
  | .mainSliceMatched x => Sys2Proof.Machine.execMainSliceMatched x s
  | .jokerRelease o q w => Sys2Proof.Machine.execJokerRelease o q w s
  | .jokerForce o q w => Sys2Proof.Machine.execJokerForce o q w s
  | .tapDeadline p t => Sys2Proof.Machine.execTapDeadline p t s
  | .ffGo o g w => Sys2Proof.Machine.execFfGo o g w s
  | .ffAcquireDone g => Sys2Proof.Machine.execFfAcquireDone g s
  | .dispatchGrant g => Sys2Proof.Machine.execDispatchGrant g s
  | .contextLoadDone g => Sys2Proof.Machine.execContextLoadDone g s
  | .ppCorrectLine g => Sys2Proof.Machine.execPpCorrectLine g s
  | .stitchViewLine v => Sys2Proof.Machine.execStitchViewLine v s
  | .dotGridGo o w => Sys2Proof.Machine.execDotGridGo o w s
  | .dotGridDone => Sys2Proof.Machine.execDotGridDone s
  | .tblDataAccess o str w => Sys2Proof.Machine.execTblDataAccess o str w s
  | .regWindowDone v w => Sys2Proof.Machine.execRegWindowDone v w s
  | .regUpdate v => Sys2Proof.Machine.execRegUpdate v s
  | .fineShift e => Sys2Proof.Machine.execFineShift e s
  | .masterFetch e n p bx by_ err => Sys2Proof.Machine.execMasterFetch e n p bx by_ err s
  | .reduceBlockRow v => Sys2Proof.Machine.execReduceBlockRow v s
  | .artPredict o w => Sys2Proof.Machine.execArtPredict o w s
  | .artPredictDone => Sys2Proof.Machine.execArtPredictDone s
  | .tableFit v => Sys2Proof.Machine.execTableFit v s
  | .adaptFold v => Sys2Proof.Machine.execAdaptFold v s
  | .ieCompareLine e => Sys2Proof.Machine.execIeCompareLine e s
  | .bandEmit e => Sys2Proof.Machine.execBandEmit e s
  | .mrgMergeBand v bad => Sys2Proof.Machine.execMrgMergeBand v bad s
  | .cropStore => Sys2Proof.Machine.execCropStore s
  | .recordSend => Sys2Proof.Machine.execRecordSend s
  | .ruleEvaluate => Sys2Proof.Machine.execRuleEvaluate s
  | .cscaleStep v => Sys2Proof.Machine.execCscaleStep v s
  | .cellVerdict => Sys2Proof.Machine.execCellVerdict s
  | .repeatVerdict => Sys2Proof.Machine.execRepeatVerdict s
  | .decsyncEdge x sample => Sys2Proof.Machine.execDecsyncEdge x sample s
  | .decSyncWrite o w => Sys2Proof.Machine.execDecSyncWrite o w s
  | .streamRestart o n w => Sys2Proof.Machine.execStreamRestart o n w s
  | .streamResetBoundary n => Sys2Proof.Machine.execStreamResetBoundary n s
  | .streamOutput n => Sys2Proof.Machine.execStreamOutput n s
  | .timeLoRead o => Sys2Proof.Machine.execTimeLoRead o s
  | .offsetHiWrite o w => Sys2Proof.Machine.execOffsetHiWrite o w s
  | .rateHiWrite o w => Sys2Proof.Machine.execRateHiWrite o w s
  | .todSecHiWrite o w => Sys2Proof.Machine.execTodSecHiWrite o w s
  | .ppsInEdge t => Sys2Proof.Machine.execPpsInEdge t s
  | .ppsMissing t => Sys2Proof.Machine.execPpsMissing t s
  | .holdoverExpiry => Sys2Proof.Machine.execHoldoverExpiry s
  | .tbrefLost => Sys2Proof.Machine.execTbrefLost s
  | .ppsOutSecond t => Sys2Proof.Machine.execPpsOutSecond t s
  | .ptpSyncSend n t => Sys2Proof.Machine.execPtpSyncSend n t s
  | .ptpAnnounceSend n t => Sys2Proof.Machine.execPtpAnnounceSend n t s
  | .delayReqRx n domain seq requester corr t => Sys2Proof.Machine.execDelayReqRx n domain seq requester corr t s
  | .pdelayReqRx n domain seq requester corr t => Sys2Proof.Machine.execPdelayReqRx n domain seq requester corr t s
  | .announceRx n domain ds t => Sys2Proof.Machine.execAnnounceRx n domain ds t s
  | .foreignTimeout n => Sys2Proof.Machine.execForeignTimeout n s
  | .crlEnable o w => Sys2Proof.Machine.execCrlEnable o w s
  | .slotFire k t => Sys2Proof.Machine.execSlotFire k t s
  | .pulseEnd p t => Sys2Proof.Machine.execPulseEnd p t s
  | .slotWrite o b k j w => Sys2Proof.Machine.execSlotWrite o b k j w s
  | .bankCycleWrite o b w => Sys2Proof.Machine.execBankCycleWrite o b w s
  | .crlSwitch o w => Sys2Proof.Machine.execCrlSwitch o w s
  | .bankSwitchBoundary t => Sys2Proof.Machine.execBankSwitchBoundary t s
  | .calInsert o w => Sys2Proof.Machine.execCalInsert o w s
  | .calEntryFire num t => Sys2Proof.Machine.execCalEntryFire num t s
  | .calFlush o w => Sys2Proof.Machine.execCalFlush o w s
  | .evioEdge n rising sample => Sys2Proof.Machine.execEvioEdge n rising sample s
  | .swFire o w => Sys2Proof.Machine.execSwFire o w s
  | .channelFire k => Sys2Proof.Machine.execChannelFire k s
  | .taskDeliver => Sys2Proof.Machine.execTaskDeliver s
  | .taskPendingStart t => Sys2Proof.Machine.execTaskPendingStart t s
  | .evioPulseEnd n t => Sys2Proof.Machine.execEvioPulseEnd n t s
  | .relayEmit r => Sys2Proof.Machine.execRelayEmit r s
  | .dataTaskEffect => Sys2Proof.Machine.execDataTaskEffect s
  | .channelWrite o c j w => Sys2Proof.Machine.execChannelWrite o c j w s
  | .groupStateWrite o w => Sys2Proof.Machine.execGroupStateWrite o w s
  | .queueCreditRequest q r n reserve => Sys2Proof.Machine.execQueueCreditRequest q r n reserve s
  | .queuePush q r data tag sof eof => Sys2Proof.Machine.execQueuePush q r data tag sof eof s
  | .queuePop q flip => Sys2Proof.Machine.execQueuePop q flip s
  | .queuePoll q flip => Sys2Proof.Machine.execQueuePoll q flip s
  | .extMove q bad => Sys2Proof.Machine.execExtMove q bad s
  | .bankGrant b reqs => Sys2Proof.Machine.execBankGrant b reqs s
  | .qfApply o w => Sys2Proof.Machine.execQfApply o w s
  | .hqCredReq o w => Sys2Proof.Machine.execHqCredReq o w s
  | .hqPush o w => Sys2Proof.Machine.execHqPush o w s
  | .hqPop o flip => Sys2Proof.Machine.execHqPop o flip s
  | .lvlNextRead o => Sys2Proof.Machine.execLvlNextRead o s
  | .dmaArm o w => Sys2Proof.Machine.execDmaArm o w s
  | .dmaPause o w => Sys2Proof.Machine.execDmaPause o w s
  | .dmaResume o w => Sys2Proof.Machine.execDmaResume o w s
  | .dmaAbort o w => Sys2Proof.Machine.execDmaAbort o w s
  | .dmaBurstGrant => Sys2Proof.Machine.execDmaBurstGrant s
  | .dmaBurstDone c data => Sys2Proof.Machine.execDmaBurstDone c data s
  | .dmaBurstError c cause => Sys2Proof.Machine.execDmaBurstError c cause s
  | .dramAccessGrant c l r => Sys2Proof.Machine.execDramAccessGrant c l r s
  | .rowIdleClose c bank => Sys2Proof.Machine.execRowIdleClose c bank s
  | .refreshWindow l => Sys2Proof.Machine.execRefreshWindow l s
  | .eccInit o w => Sys2Proof.Machine.execEccInit o w s
  | .eccInitDone n => Sys2Proof.Machine.execEccInitDone n s
  | .retrain o w => Sys2Proof.Machine.execRetrain o w s
  | .retrainDone l => Sys2Proof.Machine.execRetrainDone l s
  | .zipRingHeadWrite o w => Sys2Proof.Machine.execZipRingHeadWrite o w s
  | .zipChunkGrant reqs => Sys2Proof.Machine.execZipChunkGrant reqs s
  | .zipJobDone => Sys2Proof.Machine.execZipJobDone s
  | .frameRx n f => Sys2Proof.Machine.execFrameRx n f s
  | .arpPacket n m => Sys2Proof.Machine.execArpPacket n m s
  | .arpRefresh n ip => Sys2Proof.Machine.execArpRefresh n ip s
  | .arpRetry n ip => Sys2Proof.Machine.execArpRetry n ip s
  | .icmpEcho n ip id seq data => Sys2Proof.Machine.execIcmpEcho n ip id seq data s
  | .datagramFlush k => Sys2Proof.Machine.execDatagramFlush k s
  | .wrpNack n ip udp k seq count t => Sys2Proof.Machine.execWrpNack n ip udp k seq count t s
  | .statusDatagram k t => Sys2Proof.Machine.execStatusDatagram k t s
  | .sessApply o w => Sys2Proof.Machine.execSessApply o w s
  | .sessApplyRepeat => Sys2Proof.Machine.execSessApplyRepeat s
  | .wcpHello m => Sys2Proof.Machine.execWcpHello m s
  | .wcpRegRead m => Sys2Proof.Machine.execWcpRegRead m s
  | .wcpRegWrite m => Sys2Proof.Machine.execWcpRegWrite m s
  | .wcpJobCmd m => Sys2Proof.Machine.execWcpJobCmd m s
  | .wcpModeCmd m => Sys2Proof.Machine.execWcpModeCmd m s
  | .wcpCmdResponse timeout => Sys2Proof.Machine.execWcpCmdResponse timeout s
  | .wcpBulkWrite m => Sys2Proof.Machine.execWcpBulkWrite m s
  | .wcpBulkRead m => Sys2Proof.Machine.execWcpBulkRead m s
  | .wcpBulkCrc m => Sys2Proof.Machine.execWcpBulkCrc m s
  | .keyDataWrite o w => Sys2Proof.Machine.execKeyDataWrite o w s
  | .keyClear o w => Sys2Proof.Machine.execKeyClear o w s
  | .wx8StatusRequest n ip udp => Sys2Proof.Machine.execWx8StatusRequest n ip udp s
  | .bar2Write addr data => Sys2Proof.Machine.execBar2Write addr data s
  | .bar2Read addr n => Sys2Proof.Machine.execBar2Read addr n s
  | .perst => Sys2Proof.Machine.execPerst s
  | .pcieLinkDown bme => Sys2Proof.Machine.execPcieLinkDown bme s
  | .hostLoadGo o w tImage train track => Sys2Proof.Machine.execHostLoadGo o w tImage train track s
  | .twlGo o n w => Sys2Proof.Machine.execTwlGo o n w s
  | .twlCmdDone n nack data => Sys2Proof.Machine.execTwlCmdDone n nack data s
  | .twlRetry n => Sys2Proof.Machine.execTwlRetry n s
  | .twlAbort o n w => Sys2Proof.Machine.execTwlAbort o n w s
  | .twlReset o n w => Sys2Proof.Machine.execTwlReset o n w s
  | .twlBusClear n freed => Sys2Proof.Machine.execTwlBusClear n freed s
  | .twlTimingWrite o n k w => Sys2Proof.Machine.execTwlTimingWrite o n k w s
  | .twlTargetXfer n data rd => Sys2Proof.Machine.execTwlTargetXfer n data rd s
  | .sclStretchTimeout b => Sys2Proof.Machine.execSclStretchTimeout b s
  | .mtwiAddress a => Sys2Proof.Machine.execMtwiAddress a s
  | .mtwiRegCmd ofs data rd => Sys2Proof.Machine.execMtwiRegCmd ofs data rd s
  | .mtwiMboxCmd cmd data rd => Sys2Proof.Machine.execMtwiMboxCmd cmd data rd s
  | .leaseTimeout p => Sys2Proof.Machine.execLeaseTimeout p s
  | .hostLeaseTimeout q o => Sys2Proof.Machine.execHostLeaseTimeout q o s
  | .stageResetCheck p alive => Sys2Proof.Machine.execStageResetCheck p alive s
  | .lockToExpiry p t => Sys2Proof.Machine.execLockToExpiry p t s
  | .drainComplete => Sys2Proof.Machine.execDrainComplete s
  | .faultClr o w => Sys2Proof.Machine.execFaultClr o w s
  | .logAckWrite o w => Sys2Proof.Machine.execLogAckWrite o w s
  | .logData0Read o => Sys2Proof.Machine.execLogData0Read o s
  | .porstAssert => Sys2Proof.Machine.execPorstAssert s
  | .coldBoot fuses b => Sys2Proof.Machine.execColdBoot fuses b s
  | .srstAssert => Sys2Proof.Machine.execSrstAssert s
  | .warmBoot b => Sys2Proof.Machine.execWarmBoot b s
  | .bootRelease t total locks freqs => Sys2Proof.Machine.execBootRelease t total locks freqs s
  | .fuseProg o w => Sys2Proof.Machine.execFuseProg o w s
  | .qspiCmd o w => Sys2Proof.Machine.execQspiCmd o w s
  | .calCtlGo o w => Sys2Proof.Machine.execCalCtlGo o w s
  | .periodicCal k => Sys2Proof.Machine.execPeriodicCal k s
  | .calAttemptDone item unit a b fig => Sys2Proof.Machine.execCalAttemptDone item unit a b fig s
  | .tempRead l t => Sys2Proof.Machine.execTempRead l t s
  | .supplyRead l t => Sys2Proof.Machine.execSupplyRead l t s
  | .headroomSample rate t => Sys2Proof.Machine.execHeadroomSample rate t s
  | .avsPeriod modeByte ack vout => Sys2Proof.Machine.execAvsPeriod modeByte ack vout s
  | .mbistGo o w => Sys2Proof.Machine.execMbistGo o w s
  | .mbistDone l => Sys2Proof.Machine.execMbistDone l s
  | .tapInstruction code => Sys2Proof.Machine.execTapInstruction code s
  | .testLogicReset => Sys2Proof.Machine.execTestLogicReset s
  | .commitReq o p w => Sys2Proof.Machine.execCommitReq o p w s
  | .commitEffect p => Sys2Proof.Machine.execCommitEffect p s
  | .lockAcquire o p w => Sys2Proof.Machine.execLockAcquire o p w s
  | .lockRelease o p w => Sys2Proof.Machine.execLockRelease o p w s
  | .pageSrst o p w => Sys2Proof.Machine.execPageSrst o p w s
  | .pageSrstDone p => Sys2Proof.Machine.execPageSrstDone p s
  | .registerWrite o addr w => Sys2Proof.Machine.execRegisterWrite o addr w s
  | .cmtLineLoRead o => Sys2Proof.Machine.execCmtLineLoRead o s
  | .manEnWrite o b w => Sys2Proof.Machine.execManEnWrite o b w s
  | .pinGuardWrite o b w => Sys2Proof.Machine.execPinGuardWrite o b w s
  | .ethLinkLost n => Sys2Proof.Machine.execEthLinkLost n s
  | .ethLinkUp n => Sys2Proof.Machine.execEthLinkUp n s
  | .pcieLinkUp link eq lanes => Sys2Proof.Machine.execPcieLinkUp link eq lanes s
  | .twlArbLost n b => Sys2Proof.Machine.execTwlArbLost n b s
  | .qspiCmdDone data timeout => Sys2Proof.Machine.execQspiCmdDone data timeout s
  | .clkLockLost d => Sys2Proof.Machine.execClkLockLost d s

end Sys2Proof.Machine
end

