-- ==== Sys2Proof/Safety.lean ====
section
/-!
DEFINITION. What a run of the WX16 keeps: DRAM in its canonical form, the record of outputs, blown fuses and drawn free values
growing only, time not running back but at a power-on reset, and no command lost.
-/
namespace Sys2Proof.Machine

/-- DRAM is in its canonical form: addresses rise strictly, and no listed byte equals what it would read as unlisted. -/
abbrev Memory.wf (blank : List Blank) (mem : Tab Byte) : Bool := tabOk (blankByte blank) mem

/-- The canonical form of a state's DRAM. -/
def State.memOk (s : State) : Bool := Memory.wf s.blank s.mem

/-- What every command keeps: the commands that wait, the outputs made so far, blown fuses, drawn free values, DRAM's form. -/
structure Kept (s t : State) : Prop where
  pending : t.pending = s.pending
  out     : s.out <+: t.out
  free    : s.free ≤ t.free
  fuse    : s.fuse ||| t.fuse = t.fuse
  mem     : s.memOk = true → t.memOk = true

/-- Outside the listed addresses every register of BAR0 is the same in two states. -/
def regsKept (l : List Nat) (s t : State) : Prop := ∀ a, a ∉ l → tabGet regReset t.regs a = tabGet regReset s.regs a

/-- Outside the listed pages every register of BAR0 is the same in two states. -/
def pagesKept (l : List Nat) (s t : State) : Prop := ∀ a, a / 4096 ∉ l → tabGet regReset t.regs a = tabGet regReset s.regs a

/-! ### What a command may change -/

/-- The parts of the machine's state. -/
inductive Area where
  /-- DRAM: its bytes, what unlisted bytes read as, and its lines with uncorrected errors. -/
  | dram
  /-- The registers in force. -/
  | regs
  /-- The shadow copies of registers. -/
  | shadow
  /-- The write-once registers already written. -/
  | once
  /-- The table windows. -/
  | window
  /-- The record of outputs. -/
  | outputs
  /-- The raw counter. -/
  | clock
  /-- The count of free values drawn. -/
  | freeValues
  /-- The fuses. -/
  | fuse
  /-- The memory configuration as trained, and a boot that waits. -/
  | boot
  /-- The timebase. -/
  | timebase
  /-- The Carillon. -/
  | calendar
  /-- The event inputs and outputs at the pins. -/
  | pins
  /-- The event fabric. -/
  | events
  /-- The events raised. -/
  | raised
  /-- The encoder channels. -/
  | encoder
  /-- The trigger generators. -/
  | trigger
  /-- The views. -/
  | view
  /-- The camera links, lane training and the joker lanes. -/
  | link
  /-- The job contexts. -/
  | jobs
  /-- The intake, the pipelines, the taps and the correction. -/
  | path
  /-- The stitcher and registration. -/
  | stitch
  /-- The masters and the prediction. -/
  | master
  /-- The comparison engines. -/
  | engines
  /-- Records, verdicts and actions. -/
  | results
  /-- The network. -/
  | net
  /-- The output streams. -/
  | stream
  /-- The decimation chain. -/
  | decimation
  /-- The queue fabric and the arbiters. -/
  | queue
  /-- The DMA channels. -/
  | dma
  /-- The compression engine. -/
  | compression
  /-- The two-wire controllers and the byte buffers. -/
  | twoWire
  /-- The memory controllers. -/
  | memoryControl
  /-- Health monitoring and calibration. -/
  | health
  /-- The event log. -/
  | log
  /-- Commits that pend. -/
  | commit
  /-- Leases, locks and revocation. -/
  | lock
deriving DecidableEq, Repr

/-- A part is the same in two states. -/
def Area.same (s t : State) : Area → Prop
  | .dram => t.mem = s.mem ∧ t.blank = s.blank ∧ t.badLine = s.badLine
  | .regs => t.regs = s.regs
  | .shadow => t.shadow = s.shadow
  | .once => t.wroDone = s.wroDone
  | .window => t.window = s.window
  | .outputs => t.out = s.out
  | .clock => t.raw = s.raw
  | .freeValues => t.free = s.free
  | .fuse => t.fuse = s.fuse
  | .boot => t.trained = s.trained ∧ t.bootWait = s.bootWait
  | .timebase => t.tb = s.tb
  | .calendar => t.crl = s.crl
  | .pins => t.evio = s.evio
  | .events => t.evf = s.evf
  | .raised => t.raised = s.raised
  | .encoder => t.chan = s.chan
  | .trigger => t.tg = s.tg
  | .view => t.view = s.view
  | .link => t.link = s.link ∧ t.train = s.train ∧ t.joker = s.joker
  | .jobs => t.roWritten = s.roWritten ∧ t.jobA = s.jobA ∧ t.jobN = s.jobN ∧ t.valJob = s.valJob ∧ t.jobVals = s.jobVals
  | .path => t.intake = s.intake ∧ t.pipe = s.pipe ∧ t.tapBuf = s.tapBuf ∧ t.corr = s.corr
  | .stitch => t.stitch_ = s.stitch_ ∧ t.dot = s.dot ∧ t.winRes = s.winRes
  | .master => t.mst = s.mst ∧ t.predict = s.predict
  | .engines => t.eng = s.eng
  | .results => t.resA = s.resA ∧ t.resN = s.resN ∧ t.acts = s.acts ∧ t.hits = s.hits
  | .net => t.net = s.net
  | .stream => t.stream = s.stream
  | .decimation => t.dec = s.dec
  | .queue => t.queue = s.queue ∧ t.levels = s.levels ∧ t.arb = s.arb ∧ t.qshadow = s.qshadow ∧ t.hqLo = s.hqLo
  | .dma => t.dma = s.dma
  | .compression => t.zip = s.zip
  | .twoWire => t.twl = s.twl ∧ t.fifo = s.fifo
  | .memoryControl => t.mc = s.mc ∧ t.mcg = s.mcg
  | .health => t.hlth = s.hlth
  | .log => t.log = s.log ∧ t.logLatch = s.logLatch
  | .commit => t.commits = s.commits ∧ t.cmtRec = s.cmtRec ∧ t.entered = s.entered
  | .lock => t.lockAt = s.lockAt ∧ t.lockKey = s.lockKey ∧ t.revoking = s.revoking ∧ t.dead = s.dead

/-- The parts that a command may change; every other part stays as it was. -/
def mayChange : Instr → List Area
  | .modeReqIdle _ _ => [.dram, .regs, .shadow, .once, .window, .outputs, .freeValues, .calendar, .pins, .raised, .encoder, .trigger,
      .view, .link, .jobs, .path, .master, .engines, .results, .net, .stream, .decimation, .queue, .log, .commit, .lock]
  | .modeReqSetup _ _ => [.dram, .regs, .shadow, .once, .window, .outputs, .freeValues, .calendar, .pins, .raised, .encoder, .trigger,
      .view, .link, .jobs, .path, .master, .engines, .results, .net, .stream, .decimation, .queue, .log, .commit, .lock]
  | .modeReqRelearn _ _ => [.dram, .regs, .shadow, .once, .window, .outputs, .freeValues, .calendar, .pins, .raised, .encoder, .trigger,
      .view, .link, .jobs, .path, .master, .engines, .results, .net, .stream, .decimation, .queue, .log, .commit, .lock]
  | .modeReqInspect _ _ => [.dram, .regs, .shadow, .once, .window, .outputs, .freeValues, .calendar, .pins, .raised, .encoder, .trigger,
      .view, .link, .jobs, .path, .master, .engines, .results, .net, .stream, .decimation, .queue, .log, .commit, .lock]
  | .modeReqLegacy _ _ => [.dram, .regs, .shadow, .once, .window, .outputs, .freeValues, .calendar, .pins, .raised, .encoder, .trigger,
      .view, .link, .jobs, .path, .master, .engines, .results, .net, .stream, .decimation, .queue, .log, .commit, .lock]
  | .modeReqHold _ _ => [.dram, .regs, .shadow, .once, .window, .outputs, .freeValues, .calendar, .pins, .raised, .encoder, .trigger,
      .view, .link, .jobs, .path, .master, .engines, .results, .net, .stream, .decimation, .queue, .log, .commit, .lock]
  | .jobEndAtBoundary _ => [.dram, .regs, .window, .outputs, .freeValues, .calendar, .pins, .raised, .encoder, .trigger, .view, .link,
      .jobs, .path, .master, .engines, .results, .stream, .decimation, .queue, .log, .commit]
  | .jobOpen _ _ => [.dram, .regs, .shadow, .once, .window, .outputs, .calendar, .pins, .raised, .encoder, .trigger, .view, .link, .jobs,
      .path, .master, .engines, .results, .stream, .queue, .log, .commit, .lock]
  | .jobValidate _ _ => [.dram, .regs, .shadow, .once, .window, .outputs, .calendar, .pins, .raised, .encoder, .trigger, .view, .link,
      .jobs, .path, .master, .engines, .results, .stream, .queue, .log, .commit, .lock]
  | .validationDone => [.dram, .regs, .window, .outputs, .calendar, .pins, .raised, .encoder, .trigger, .view, .link, .jobs, .path,
      .master, .engines, .results, .stream, .queue, .memoryControl, .log, .commit]
  | .jobLoadNext _ _ => [.dram, .regs, .shadow, .once, .window, .outputs, .calendar, .pins, .raised, .encoder, .trigger, .view, .link,
      .jobs, .path, .master, .engines, .results, .stream, .queue, .log, .commit, .lock]
  | .loadNextDone => [.regs, .jobs]
  | .jobCancelNext _ _ => [.dram, .regs, .shadow, .once, .window, .outputs, .calendar, .pins, .raised, .encoder, .trigger, .view, .link,
      .jobs, .path, .master, .engines, .results, .stream, .queue, .log, .commit, .lock]
  | .jobDelete _ _ => [.dram, .regs, .shadow, .once, .window, .outputs, .calendar, .pins, .raised, .encoder, .trigger, .view, .link, .jobs,
      .path, .master, .engines, .results, .stream, .queue, .log, .commit, .lock]
  | .chgArm _ _ => [.dram, .regs, .shadow, .once, .window, .outputs, .calendar, .pins, .raised, .encoder, .trigger, .view, .link, .path,
      .master, .engines, .results, .stream, .queue, .log, .commit, .lock]
  | .chgCancel _ _ => [.dram, .regs, .shadow, .once, .window, .outputs, .calendar, .pins, .raised, .encoder, .trigger, .view, .link, .path,
      .master, .engines, .results, .stream, .queue, .log, .commit, .lock]
  | .enteringViewStart _ => [.regs, .window, .outputs, .encoder, .trigger, .view, .link, .path, .commit]
  | .changeoverComplete => [.dram, .regs, .shadow, .window, .outputs, .raised, .encoder, .view, .link, .jobs, .path, .master, .engines,
      .results, .stream, .commit]
  | .encCount _ _ _ => [.dram, .regs, .window, .outputs, .clock, .calendar, .raised, .encoder, .trigger, .view, .link, .path, .results,
      .queue, .log, .commit]
  | .ssiRead _ _ _ => [.regs, .clock, .raised, .encoder]
  | .encIndex _ _ => [.regs, .clock, .raised, .encoder]
  | .standstill _ _ => [.regs, .clock, .raised, .encoder]
  | .triggerIssue _ _ => [.dram, .regs, .window, .outputs, .clock, .freeValues, .calendar, .pins, .raised, .encoder, .trigger, .view,
      .link, .jobs, .path, .master, .engines, .results, .stream, .decimation, .queue, .log, .commit]
  | .tgLineLoRead _ _ => [.outputs, .trigger, .lock]
  | .linePacket _ _ _ => [.dram, .regs, .window, .outputs, .clock, .freeValues, .calendar, .pins, .raised, .encoder, .trigger, .view,
      .link, .jobs, .path, .master, .engines, .results, .stream, .decimation, .queue, .log, .commit]
  | .statusPacket _ _ _ => [.dram, .regs, .window, .outputs, .clock, .freeValues, .calendar, .pins, .raised, .encoder, .trigger, .view,
      .link, .jobs, .path, .master, .engines, .results, .stream, .decimation, .queue, .log, .commit]
  | .regResp _ _ _ => [.dram, .regs, .window, .outputs, .clock, .freeValues, .calendar, .pins, .raised, .encoder, .trigger, .view, .link,
      .jobs, .path, .master, .engines, .results, .stream, .decimation, .queue, .log, .commit]
  | .laneLockGained _ _ => [.dram, .regs, .window, .outputs, .raised, .link, .queue, .log]
  | .laneLockLost _ _ => [.regs, .outputs, .link]
  | .alignMarker _ _ => [.dram, .regs, .window, .outputs, .raised, .link, .queue, .log]
  | .heartbeat _ => [.regs, .outputs, .link]
  | .statusTimeout _ => [.regs, .outputs, .link]
  | .camAccGo _ _ _ => [.regs, .shadow, .once, .outputs, .link, .lock]
  | .camRegTimeout _ => [.regs, .outputs, .link]
  | .noCameraTimeout _ => [.regs, .outputs]
  | .linkBaseResend _ => [.outputs]
  | .lockTimeout _ => [.dram, .regs, .window, .outputs, .queue, .log]
  | .trainTimeout _ => [.dram, .regs, .window, .outputs, .queue, .log]
  | .alignTimeout _ => [.dram, .regs, .window, .outputs, .queue, .log]
  | .failedRetry _ => [.regs, .outputs, .link]
  | .trainingOrderedSet _ _ => [.dram, .regs, .window, .outputs, .raised, .link, .queue, .log]
  | .trainScanStart _ _ => [.regs, .link]
  | .trainScanDone _ _ _ => [.dram, .regs, .window, .outputs, .raised, .link, .queue, .log]
  | .eqReqResend _ _ => [.dram, .regs, .window, .outputs, .link, .queue, .log]
  | .eyeScanDone _ _ _ => [.regs, .outputs, .raised, .link]
  | .recalPeriod _ _ => [.regs, .outputs, .link]
  | .jokerCalNow _ _ _ => [.dram, .regs, .shadow, .once, .window, .outputs, .raised, .link, .queue, .log, .lock]
  | .jokerMatched _ => [.regs, .link]
  | .jokerMatchTimeout _ => [.regs, .link]
  | .mainSliceCalDone _ _ _ => [.dram, .regs, .window, .outputs, .raised, .link, .queue, .log]
  | .mainSliceMatched _ => [.regs, .link]
  | .jokerRelease _ _ _ => [.dram, .regs, .shadow, .once, .window, .outputs, .raised, .link, .queue, .log, .lock]
  | .jokerForce _ _ _ => [.dram, .regs, .shadow, .once, .window, .outputs, .raised, .link, .queue, .log, .lock]
  | .tapDeadline _ _ => [.dram, .regs, .window, .outputs, .clock, .freeValues, .calendar, .pins, .raised, .encoder, .trigger, .view, .link,
      .jobs, .path, .master, .engines, .results, .stream, .decimation, .queue, .log, .commit]
  | .ffGo _ _ _ => [.regs, .shadow, .once, .path, .lock]
  | .ffAcquireDone _ => [.regs, .window, .freeValues, .path]
  | .dispatchGrant _ => [.dram, .regs, .window, .outputs, .path, .queue, .log]
  | .contextLoadDone _ => [.regs, .path]
  | .ppCorrectLine _ => [.dram, .regs, .shadow, .window, .outputs, .freeValues, .encoder, .link, .jobs, .path, .stream, .queue, .log,
      .commit]
  | .stitchViewLine _ => [.dram, .regs, .shadow, .window, .outputs, .freeValues, .raised, .encoder, .view, .link, .jobs, .path, .stitch,
      .master, .stream, .queue, .log, .commit]
  | .dotGridGo _ _ => [.regs, .shadow, .once, .stitch, .lock]
  | .dotGridDone => [.regs, .shadow, .window, .stitch]
  | .tblDataAccess _ _ _ => [.regs, .window, .outputs, .lock]
  | .regWindowDone _ _ => [.freeValues, .view, .stitch]
  | .regUpdate _ => [.dram, .regs, .window, .outputs, .raised, .encoder, .view, .link, .path, .queue, .log, .commit]
  | .fineShift _ => [.regs, .window, .outputs, .engines]
  | .masterFetch _ _ _ _ _ _ => [.regs, .window, .outputs, .engines, .memoryControl]
  | .reduceBlockRow _ => [.dram, .regs, .window, .outputs, .master, .queue, .log]
  | .artPredict _ _ => [.regs, .shadow, .once, .master, .lock]
  | .artPredictDone => [.dram, .regs, .master]
  | .tableFit _ => [.dram, .regs, .window, .outputs, .master, .queue, .log]
  | .adaptFold _ => [.dram, .regs, .window, .outputs, .master, .queue, .log]
  | .ieCompareLine _ => [.dram, .regs, .window, .outputs, .freeValues, .raised, .engines, .results, .queue, .memoryControl, .log]
  | .bandEmit _ => [.dram, .regs, .window, .outputs, .freeValues, .raised, .engines, .results, .queue, .memoryControl, .log]
  | .mrgMergeBand _ _ => [.dram, .regs, .window, .outputs, .freeValues, .engines, .results, .queue, .log]
  | .cropStore => [.dram, .regs, .window, .outputs, .freeValues, .results]
  | .recordSend => [.dram, .regs, .window, .outputs, .freeValues, .raised, .encoder, .view, .link, .jobs, .path, .master, .engines,
      .results, .net, .stream, .queue, .commit]
  | .ruleEvaluate => [.dram, .regs, .window, .outputs, .freeValues, .calendar, .raised, .encoder, .link, .path, .results, .net, .queue,
      .log, .commit]
  | .cscaleStep _ => [.regs, .results]
  | .cellVerdict => [.regs, .freeValues, .raised, .results]
  | .repeatVerdict => [.dram, .regs, .window, .outputs, .raised, .master, .results]
  | .decsyncEdge _ _ => [.regs, .window, .outputs, .clock, .raised, .stream, .decimation]
  | .decSyncWrite _ _ => [.regs, .shadow, .once, .window, .outputs, .raised, .stream, .decimation, .lock]
  | .streamRestart _ _ _ => [.regs, .shadow, .once, .stream, .lock]
  | .streamResetBoundary _ => [.regs, .window, .outputs, .encoder, .link, .path, .stream, .commit]
  | .streamOutput _ => [.dram, .regs, .window, .outputs, .freeValues, .net, .stream, .queue]
  | .timeLoRead _ => [.regs, .outputs, .lock]
  | .offsetHiWrite _ _ => [.dram, .regs, .window, .outputs, .timebase, .calendar, .events, .raised, .queue, .log, .lock]
  | .rateHiWrite _ _ => [.dram, .regs, .window, .outputs, .timebase, .queue, .log, .lock]
  | .todSecHiWrite _ _ => [.regs, .shadow, .once, .timebase, .lock]
  | .ppsInEdge _ => [.dram, .regs, .window, .outputs, .clock, .timebase, .calendar, .events, .raised, .queue, .log]
  | .ppsMissing _ => [.regs, .clock, .timebase, .raised]
  | .holdoverExpiry => [.regs, .raised]
  | .tbrefLost => [.dram, .regs, .window, .outputs, .calendar, .pins, .raised, .encoder, .trigger, .view, .link, .path, .master, .engines,
      .results, .stream, .queue, .log, .commit]
  | .ppsOutSecond _ => [.outputs, .clock]
  | .ptpSyncSend _ _ => [.regs, .outputs, .clock, .timebase, .net]
  | .ptpAnnounceSend _ _ => [.regs, .outputs, .clock, .timebase, .net]
  | .delayReqRx _ _ _ _ _ _ => [.regs, .outputs, .clock, .timebase, .net]
  | .pdelayReqRx _ _ _ _ _ _ => [.regs, .outputs, .clock, .timebase, .net]
  | .announceRx _ _ _ _ => [.regs, .window, .outputs, .clock, .raised]
  | .foreignTimeout _ => [.regs]
  | .crlEnable _ _ => [.regs, .calendar, .lock]
  | .slotFire _ _ => [.dram, .regs, .window, .outputs, .clock, .calendar, .raised, .net, .queue, .log]
  | .pulseEnd _ _ => [.clock, .calendar]
  | .slotWrite _ _ _ _ _ => [.regs, .window, .outputs, .calendar]
  | .bankCycleWrite _ _ _ => [.regs, .window, .outputs, .lock]
  | .crlSwitch _ _ => [.regs, .calendar, .lock]
  | .bankSwitchBoundary _ => [.regs, .window, .clock, .calendar]
  | .calInsert _ _ => [.dram, .regs, .window, .outputs, .calendar, .raised, .queue, .log, .lock]
  | .calEntryFire _ _ => [.dram, .regs, .window, .outputs, .clock, .calendar, .events, .raised, .net, .queue, .log]
  | .calFlush _ _ => [.regs, .calendar, .lock]
  | .evioEdge _ _ _ => [.clock, .pins, .raised]
  | .swFire _ _ => [.regs, .shadow, .once, .raised, .lock]
  | .channelFire _ => [.regs, .window, .outputs, .events, .raised]
  | .taskDeliver => [.dram, .regs, .window, .outputs, .calendar, .pins, .events, .raised, .encoder, .trigger, .view, .link, .path, .master,
      .engines, .results, .stream, .queue, .log, .commit]
  | .taskPendingStart _ => [.dram, .regs, .window, .outputs, .calendar, .pins, .events, .raised, .encoder, .trigger, .view, .link, .path,
      .master, .engines, .results, .stream, .queue, .log, .commit]
  | .evioPulseEnd _ _ => [.clock, .pins]
  | .relayEmit _ => [.dram, .regs, .window, .outputs, .events, .raised, .queue, .log]
  | .dataTaskEffect => [.dram, .regs, .window, .outputs, .freeValues, .calendar, .pins, .events, .raised, .encoder, .trigger, .view, .link,
      .jobs, .path, .master, .engines, .results, .stream, .decimation, .queue, .log, .commit]
  | .channelWrite _ _ _ _ => [.dram, .regs, .window, .outputs, .queue, .log]
  | .groupStateWrite _ _ => [.regs, .shadow, .once, .lock]
  | .queueCreditRequest _ _ _ _ => [.regs, .queue]
  | .queuePush _ _ _ _ _ _ => [.dram, .regs, .window, .outputs, .queue]
  | .queuePop _ _ => [.dram, .regs, .window, .outputs, .net, .queue, .log]
  | .queuePoll _ _ => [.dram, .regs, .window, .outputs, .queue, .log]
  | .extMove _ _ => [.dram, .regs, .window, .outputs, .queue, .log]
  | .bankGrant _ _ => [.regs, .queue]
  | .qfApply _ _ => [.dram, .regs, .window, .outputs, .queue, .log, .lock]
  | .hqCredReq _ _ => [.regs, .shadow, .once, .window, .outputs, .queue, .lock]
  | .hqPush _ _ => [.dram, .regs, .window, .outputs, .queue, .lock]
  | .hqPop _ _ => [.dram, .regs, .window, .outputs, .queue, .log, .lock]
  | .lvlNextRead _ => [.regs, .window, .outputs, .queue, .lock]
  | .dmaArm _ _ => [.dram, .regs, .window, .outputs, .queue, .dma, .log, .lock]
  | .dmaPause _ _ => [.dram, .regs, .window, .outputs, .queue, .dma, .log, .lock]
  | .dmaResume _ _ => [.dram, .regs, .window, .outputs, .queue, .dma, .log, .lock]
  | .dmaAbort _ _ => [.dram, .regs, .window, .outputs, .queue, .dma, .log, .lock]
  | .dmaBurstGrant => [.dram, .regs, .window, .outputs, .queue, .dma, .twoWire, .log]
  | .dmaBurstDone _ _ => [.dram, .regs, .window, .outputs, .jobs, .master, .queue, .dma, .twoWire, .log]
  | .dmaBurstError _ _ => [.dram, .regs, .window, .outputs, .jobs, .master, .queue, .dma, .twoWire, .log]
  | .dramAccessGrant _ _ _ => [.dram, .regs, .window, .outputs, .calendar, .pins, .raised, .encoder, .trigger, .view, .link, .path,
      .master, .engines, .results, .stream, .queue, .memoryControl, .log, .commit]
  | .rowIdleClose _ _ => [.memoryControl]
  | .refreshWindow _ => [.dram, .regs, .window, .outputs, .calendar, .pins, .raised, .encoder, .trigger, .view, .link, .path, .master,
      .engines, .results, .stream, .queue, .memoryControl, .log, .commit]
  | .eccInit _ _ => [.regs, .lock]
  | .eccInitDone _ => [.dram, .regs]
  | .retrain _ _ => [.dram, .regs, .shadow, .once, .window, .outputs, .queue, .log, .lock]
  | .retrainDone _ => [.dram, .regs, .window, .outputs, .boot, .queue, .memoryControl, .log]
  | .zipRingHeadWrite _ _ => [.regs, .window, .outputs, .compression, .twoWire, .lock]
  | .zipChunkGrant _ => [.dram, .regs, .window, .outputs, .freeValues, .queue, .compression, .twoWire, .log]
  | .zipJobDone => [.dram, .regs, .window, .outputs, .freeValues, .queue, .compression, .twoWire, .log]
  | .frameRx _ _ => [.regs, .net]
  | .arpPacket _ _ => [.regs, .outputs, .net]
  | .arpRefresh _ _ => [.regs, .outputs, .net]
  | .arpRetry _ _ => [.regs, .outputs, .net]
  | .icmpEcho _ _ _ _ _ => [.regs, .outputs, .net]
  | .datagramFlush _ => [.dram, .regs, .window, .outputs, .freeValues, .net, .queue]
  | .wrpNack _ _ _ _ _ _ _ => [.dram, .regs, .window, .outputs, .clock, .freeValues, .net, .queue]
  | .statusDatagram _ _ => [.dram, .regs, .window, .outputs, .clock, .freeValues, .net, .queue]
  | .sessApply _ _ => [.dram, .regs, .shadow, .once, .window, .outputs, .freeValues, .net, .queue, .log, .lock]
  | .sessApplyRepeat => [.dram, .regs, .window, .outputs, .freeValues, .net, .queue]
  | .wcpHello _ => [.dram, .regs, .shadow, .once, .window, .outputs, .freeValues, .fuse, .timebase, .calendar, .pins, .events, .raised,
      .encoder, .trigger, .view, .link, .jobs, .path, .stitch, .master, .engines, .results, .net, .stream, .decimation, .queue, .dma,
      .compression, .twoWire, .memoryControl, .health, .log, .commit, .lock]
  | .wcpRegRead _ => [.dram, .regs, .shadow, .once, .window, .outputs, .freeValues, .fuse, .timebase, .calendar, .pins, .events, .raised,
      .encoder, .trigger, .view, .link, .jobs, .path, .stitch, .master, .engines, .results, .net, .stream, .decimation, .queue, .dma,
      .compression, .twoWire, .memoryControl, .health, .log, .commit, .lock]
  | .wcpRegWrite _ => [.dram, .regs, .shadow, .once, .window, .outputs, .freeValues, .fuse, .timebase, .calendar, .pins, .events, .raised,
      .encoder, .trigger, .view, .link, .jobs, .path, .stitch, .master, .engines, .results, .net, .stream, .decimation, .queue, .dma,
      .compression, .twoWire, .memoryControl, .health, .log, .commit, .lock]
  | .wcpJobCmd _ => [.dram, .regs, .shadow, .once, .window, .outputs, .freeValues, .fuse, .timebase, .calendar, .pins, .events, .raised,
      .encoder, .trigger, .view, .link, .jobs, .path, .stitch, .master, .engines, .results, .net, .stream, .decimation, .queue, .dma,
      .compression, .twoWire, .memoryControl, .health, .log, .commit, .lock]
  | .wcpModeCmd _ => [.dram, .regs, .shadow, .once, .window, .outputs, .freeValues, .fuse, .timebase, .calendar, .pins, .events, .raised,
      .encoder, .trigger, .view, .link, .jobs, .path, .stitch, .master, .engines, .results, .net, .stream, .decimation, .queue, .dma,
      .compression, .twoWire, .memoryControl, .health, .log, .commit, .lock]
  | .wcpCmdResponse _ => [.dram, .regs, .shadow, .once, .window, .outputs, .freeValues, .fuse, .timebase, .calendar, .pins, .events,
      .raised, .encoder, .trigger, .view, .link, .jobs, .path, .stitch, .master, .engines, .results, .net, .stream, .decimation, .queue,
      .dma, .compression, .twoWire, .memoryControl, .health, .log, .commit, .lock]
  | .wcpBulkWrite _ => [.dram, .regs, .shadow, .once, .window, .outputs, .freeValues, .fuse, .timebase, .calendar, .pins, .events, .raised,
      .encoder, .trigger, .view, .link, .jobs, .path, .stitch, .master, .engines, .results, .net, .stream, .decimation, .queue, .dma,
      .compression, .twoWire, .memoryControl, .health, .log, .commit, .lock]
  | .wcpBulkRead _ => [.dram, .regs, .shadow, .once, .window, .outputs, .freeValues, .fuse, .timebase, .calendar, .pins, .events, .raised,
      .encoder, .trigger, .view, .link, .jobs, .path, .stitch, .master, .engines, .results, .net, .stream, .decimation, .queue, .dma,
      .compression, .twoWire, .memoryControl, .health, .log, .commit, .lock]
  | .wcpBulkCrc _ => [.dram, .regs, .shadow, .once, .window, .outputs, .freeValues, .fuse, .timebase, .calendar, .pins, .events, .raised,
      .encoder, .trigger, .view, .link, .jobs, .path, .stitch, .master, .engines, .results, .net, .stream, .decimation, .queue, .dma,
      .compression, .twoWire, .memoryControl, .health, .log, .commit, .lock]
  | .keyDataWrite _ _ => [.regs, .net, .lock]
  | .keyClear _ _ => [.dram, .regs, .shadow, .once, .window, .outputs, .net, .queue, .log, .lock]
  | .wx8StatusRequest _ _ _ => [.regs, .outputs, .net]
  | .bar2Write _ _ => [.dram, .regs, .window, .outputs, .jobs, .master, .net, .queue, .log]
  | .bar2Read _ _ => [.dram, .regs, .window, .outputs, .calendar, .pins, .raised, .encoder, .trigger, .view, .link, .path, .master,
      .engines, .results, .net, .stream, .queue, .log, .commit]
  | .perst => [.dram, .regs, .shadow, .window, .outputs, .jobs, .master, .queue, .dma, .twoWire, .log]
  | .pcieLinkDown _ => [.dram, .regs, .shadow, .window, .outputs, .jobs, .master, .queue, .dma, .twoWire, .log]
  | .hostLoadGo _ _ _ _ _ => [.dram, .regs, .shadow, .once, .window, .outputs, .freeValues, .fuse, .boot, .timebase, .calendar, .pins,
      .events, .raised, .encoder, .trigger, .view, .link, .jobs, .path, .stitch, .master, .engines, .results, .net, .stream, .decimation,
      .queue, .dma, .compression, .twoWire, .memoryControl, .health, .log, .commit, .lock]
  | .twlGo _ _ _ => [.regs, .shadow, .once, .window, .outputs, .twoWire, .lock]
  | .twlCmdDone _ _ _ => [.regs, .window, .outputs, .twoWire]
  | .twlRetry _ => [.regs, .window, .outputs, .twoWire]
  | .twlAbort _ _ _ => [.regs, .shadow, .once, .window, .outputs, .twoWire, .lock]
  | .twlReset _ _ _ => [.regs, .shadow, .once, .window, .outputs, .twoWire, .lock]
  | .twlBusClear _ _ => [.dram, .regs, .window, .outputs, .queue, .twoWire, .log]
  | .twlTimingWrite _ _ _ _ => [.dram, .regs, .window, .outputs, .queue, .log, .lock]
  | .twlTargetXfer _ _ _ => [.regs, .window, .outputs, .twoWire]
  | .sclStretchTimeout _ => [.dram, .regs, .window, .outputs, .queue, .twoWire, .log]
  | .mtwiAddress _ => [.regs]
  | .mtwiRegCmd _ _ _ => [.dram, .regs, .shadow, .once, .window, .outputs, .freeValues, .fuse, .timebase, .calendar, .pins, .events,
      .raised, .encoder, .trigger, .view, .link, .jobs, .path, .stitch, .master, .engines, .results, .net, .stream, .decimation, .queue,
      .dma, .compression, .twoWire, .memoryControl, .health, .log, .commit, .lock]
  | .mtwiMboxCmd _ _ _ => [.regs, .window, .outputs, .twoWire]
  | .leaseTimeout _ => [.dram, .regs, .window, .outputs, .timebase, .calendar, .events, .raised, .encoder, .trigger, .view, .link, .path,
      .stitch, .master, .engines, .results, .net, .stream, .decimation, .queue, .dma, .compression, .twoWire, .memoryControl, .health,
      .log, .commit, .lock]
  | .hostLeaseTimeout _ _ => [.dram, .regs, .window, .outputs, .queue, .log]
  | .stageResetCheck _ _ => [.dram, .regs, .window, .outputs, .calendar, .pins, .raised, .encoder, .trigger, .view, .link, .path, .master,
      .engines, .results, .stream, .queue, .log, .commit, .lock]
  | .lockToExpiry _ _ => [.dram, .regs, .shadow, .window, .outputs, .clock, .queue, .log]
  | .drainComplete => [.dram, .regs, .window, .outputs, .freeValues, .calendar, .raised, .encoder, .view, .link, .jobs, .path, .master,
      .engines, .results, .net, .stream, .queue, .log, .commit]
  | .faultClr _ _ => [.regs, .shadow, .once, .lock]
  | .logAckWrite _ _ => [.regs, .shadow, .once, .lock]
  | .logData0Read _ => [.outputs, .log, .lock]
  | .porstAssert => [.dram, .regs, .shadow, .once, .window, .clock, .freeValues, .boot, .timebase, .calendar, .pins, .events, .raised,
      .encoder, .trigger, .view, .link, .jobs, .path, .stitch, .master, .engines, .results, .net, .stream, .decimation, .queue, .dma,
      .compression, .twoWire, .memoryControl, .health, .log, .commit, .lock]
  | .coldBoot _ _ => [.dram, .regs, .shadow, .once, .window, .outputs, .freeValues, .fuse, .boot, .timebase, .calendar, .pins, .events,
      .raised, .encoder, .trigger, .view, .link, .jobs, .path, .stitch, .master, .engines, .results, .net, .stream, .decimation, .queue,
      .dma, .compression, .twoWire, .memoryControl, .health, .log, .commit, .lock]
  | .srstAssert => [.dram, .regs, .shadow, .once, .window, .outputs, .clock, .freeValues, .fuse, .boot, .timebase, .calendar, .pins,
      .events, .raised, .encoder, .trigger, .view, .link, .jobs, .path, .stitch, .master, .engines, .results, .net, .stream, .decimation,
      .queue, .dma, .compression, .twoWire, .memoryControl, .health, .log, .commit, .lock]
  | .warmBoot _ => [.dram, .regs, .shadow, .once, .window, .outputs, .freeValues, .fuse, .boot, .timebase, .calendar, .pins, .events,
      .raised, .encoder, .trigger, .view, .link, .jobs, .path, .stitch, .master, .engines, .results, .net, .stream, .decimation, .queue,
      .dma, .compression, .twoWire, .memoryControl, .health, .log, .commit, .lock]
  | .bootRelease _ _ _ _ => [.dram, .regs, .shadow, .window, .outputs, .clock, .freeValues, .boot, .raised, .encoder, .trigger, .view,
      .link, .path, .net, .queue, .dma, .log, .commit]
  | .fuseProg _ _ => [.dram, .regs, .shadow, .once, .window, .outputs, .fuse, .queue, .log, .lock]
  | .qspiCmd _ _ => [.dram, .regs, .shadow, .once, .window, .outputs, .queue, .twoWire, .log, .lock]
  | .calCtlGo _ _ => [.regs, .shadow, .once, .health, .lock]
  | .periodicCal _ => [.health]
  | .calAttemptDone _ _ _ _ _ => [.dram, .regs, .window, .outputs, .link, .queue, .health, .log]
  | .tempRead _ _ => [.dram, .regs, .window, .outputs, .clock, .calendar, .pins, .raised, .encoder, .trigger, .view, .link, .path, .master,
      .engines, .results, .stream, .queue, .health, .log, .commit]
  | .supplyRead _ _ => [.dram, .regs, .window, .outputs, .clock, .calendar, .pins, .raised, .encoder, .trigger, .view, .link, .path,
      .master, .engines, .results, .stream, .queue, .health, .log, .commit]
  | .headroomSample _ _ => [.dram, .regs, .window, .outputs, .clock, .queue, .health, .log]
  | .avsPeriod _ _ _ => [.dram, .regs, .window, .outputs, .queue, .health, .log]
  | .mbistGo _ _ => [.regs, .shadow, .once, .lock]
  | .mbistDone _ => [.dram, .regs, .window, .outputs, .freeValues, .queue, .log]
  | .tapInstruction _ => [.dram, .regs, .window, .outputs, .freeValues, .calendar, .pins, .raised, .encoder, .trigger, .view, .link, .path,
      .master, .engines, .results, .stream, .queue, .health, .log, .commit]
  | .testLogicReset => [.regs, .health]
  | .commitReq _ _ _ => [.dram, .regs, .shadow, .once, .window, .outputs, .calendar, .pins, .raised, .encoder, .trigger, .view, .link,
      .jobs, .path, .master, .engines, .results, .stream, .queue, .log, .commit, .lock]
  | .commitEffect _ => [.regs, .window, .outputs, .encoder, .trigger, .view, .link, .path, .stream, .commit]
  | .lockAcquire _ _ _ => [.regs, .lock]
  | .lockRelease _ _ _ => [.regs, .lock]
  | .pageSrst _ _ _ => [.dram, .regs, .shadow, .once, .window, .outputs, .timebase, .calendar, .events, .raised, .encoder, .trigger, .view,
      .link, .path, .stitch, .master, .engines, .results, .net, .stream, .decimation, .queue, .dma, .compression, .twoWire, .memoryControl,
      .health, .log, .commit, .lock]
  | .pageSrstDone _ => [.regs]
  | .registerWrite _ _ _ => [.dram, .regs, .shadow, .once, .window, .outputs, .freeValues, .fuse, .timebase, .calendar, .pins, .events,
      .raised, .encoder, .trigger, .view, .link, .jobs, .path, .stitch, .master, .engines, .results, .net, .stream, .decimation, .queue,
      .dma, .compression, .twoWire, .memoryControl, .health, .log, .commit, .lock]
  | .cmtLineLoRead _ => [.regs, .outputs, .lock]
  | .manEnWrite _ _ _ => [.regs, .shadow, .once, .window, .outputs, .lock]
  | .pinGuardWrite _ _ _ => [.regs, .shadow, .once, .window, .outputs, .lock]
  | .ethLinkLost _ => [.dram, .regs, .window, .outputs, .queue, .log]
  | .ethLinkUp _ => [.regs]
  | .pcieLinkUp _ _ _ => [.regs]
  | .twlArbLost _ _ => [.regs, .window, .outputs, .twoWire]
  | .qspiCmdDone _ _ => [.regs, .window, .outputs, .twoWire]
  | .clkLockLost _ => [.regs]

end Sys2Proof.Machine
end

