-- ==== Sys2Proof/Certificates/Slice0/Obligations.lean ====
section
/-!
DEFINITION. The statements about the WX16 that the provers settle: what each command does where the specification says that it runs,
what it leaves alone, and what every step keeps. A number R<n> names a rule of spec/.
-/
open Sys2Proof Sys2Proof.Machine

/-- A count moves a channel's travel by one, in the direction that INVERT_DIR gives (R99, R100, R103). -/
def Obligations.EncoderCountMovesTravelByOne : Prop :=
  ∀ (ch : Fin 2) (sample : Nat) (s : State), s.mode ≠ .boot → s.on Pg.POS Fd.HDR_PAGE_CTL_EN = true →
    (∀ rev : Bool, s.fld Pg.POS (Fd.POS_CH_CTL_MODE ch) = 1 ∨ s.fld Pg.POS (Fd.POS_CH_CTL_MODE ch) = 2 →
      ∃ t, exec (.encCount ch (if rev then .rev else .fwd) sample) s = .next t ∧ (t.chanOf ch).now = sample ∧
        (t.chanOf ch).travel = (s.chanOf ch).travel + (if rev != s.on Pg.POS (Fd.POS_CH_CTL_INVERT_DIR ch) then -1 else 1)) ∧
    (∀ (step : EncStep) (at_ : Nat) (rev : Bool) (rest : List (Nat × Bool)), s.fld Pg.POS (Fd.POS_CH_CTL_MODE ch) = 3 →
      (s.chanOf ch).replay = (at_, rev) :: rest →
      ∃ t, exec (.encCount ch step sample) s = .next t ∧ (t.chanOf ch).now = at_ ∧
        (t.chanOf ch).travel = (s.chanOf ch).travel + (if rev then -1 else 1)) ∧
    (s.fld Pg.POS (Fd.POS_CH_CTL_MODE ch) = 1 →
      ∃ t, exec (.encCount ch .illegal sample) s = .next t ∧ (t.chanOf ch).travel = (s.chanOf ch).travel ∧
        t.rd Pg.POS (Rg.POS_CH_COUNT ch) = s.rd Pg.POS (Rg.POS_CH_COUNT ch) ∧
        t.on Pg.POS (Fd.POS_CH_STAT_ILLEGAL ch) = true ∧
        t.fld Pg.POS (Fd.POS_CH_ERR_CNT_ILLEGAL_CNT ch) = satN 16 (s.fld Pg.POS (Fd.POS_CH_ERR_CNT_ILLEGAL_CNT ch) + 1) ∧
        t.raised = s.raised ++ [(evPos ch 7, { time := s.timeAt (rawOfCycle sample) / 65536 })] ∧
        regsKept [Pg.POS * 4096 + Rg.POS_CH_STAT ch, Pg.POS * 4096 + Rg.POS_CH_ERR_CNT ch] s t)

/-- The position counter wraps at CPR (R105). -/
def Obligations.PositionCounterWrapsAtCpr : Prop :=
  ∀ (ch : Fin 2) (sample : Nat) (rev : Bool) (s : State), s.mode ≠ .boot → s.on Pg.POS Fd.HDR_PAGE_CTL_EN = true →
    s.fld Pg.POS (Fd.POS_CH_CTL_MODE ch) = 1 ∨ s.fld Pg.POS (Fd.POS_CH_CTL_MODE ch) = 2 →
    s.on Pg.POS (Fd.POS_CH_CTL_INVERT_DIR ch) = false → s.tgsOf ch = [] → s.acts = [] →
    2 ≤ (s.rd Pg.POS (Rg.POS_CH_CPR ch)).toNat → (s.rd Pg.POS (Rg.POS_CH_COUNT ch)).toNat < (s.rd Pg.POS (Rg.POS_CH_CPR ch)).toNat →
    ∃ t, exec (.encCount ch (if rev then .rev else .fwd) sample) s = .next t ∧
      (t.rd Pg.POS (Rg.POS_CH_COUNT ch)).toNat =
        (if rev then (if (s.rd Pg.POS (Rg.POS_CH_COUNT ch)).toNat = 0 then (s.rd Pg.POS (Rg.POS_CH_CPR ch)).toNat - 1
            else (s.rd Pg.POS (Rg.POS_CH_COUNT ch)).toNat - 1)
          else if (s.rd Pg.POS (Rg.POS_CH_COUNT ch)).toNat = (s.rd Pg.POS (Rg.POS_CH_CPR ch)).toNat - 1 then 0
          else (s.rd Pg.POS (Rg.POS_CH_COUNT ch)).toNat + 1) ∧
      ∃ l, t.raised = s.raised ++ l ∧
        ((evPos ch 0, { time := s.timeAt (rawOfCycle sample) / 65536 }) ∈ l ↔
          rev = false ∧ (s.rd Pg.POS (Rg.POS_CH_COUNT ch)).toNat = (s.rd Pg.POS (Rg.POS_CH_CPR ch)).toNat - 1)

/-- SSI reads, index edges, standstill and the read of TGv_LINE_LO (R101, R103, R104, R106, R107, R108, R110, R122). -/
def Obligations.SsiIndexStandstillAndLineRead : Prop :=
  (∀ (ch : Fin 2) (value : Word) (sample : Nat) (s : State), s.mode ≠ .boot → s.fld Pg.POS (Fd.POS_CH_CTL_MODE ch) = 3 →
    s.fld Pg.POS (Fd.POS_CH_SSI_CTL_BITS ch) ≠ 0 →
    let bits := s.fld Pg.POS (Fd.POS_CH_SSI_CTL_BITS ch)
    let new := if s.on Pg.POS (Fd.POS_CH_SSI_CTL_GRAY ch) then grayToBin bits (value.toNat % 2 ^ bits) else value.toNat % 2 ^ bits
    let period := s.fld Pg.POS (Fd.POS_CH_SSI_CTL_READ_PERIOD ch)
    ∃ t, exec (.ssiRead ch value sample) s = .next t ∧
      ((s.chanOf ch).ssi = none → t.chanOf ch = { s.chanOf ch with ssi := some new } ∧ t.regs = s.regs) ∧
      (∀ (old : Nat) (d : Int), (s.chanOf ch).ssi = some old → (2 ^ bits : Int) ∣ (new - old - d) → -(2 ^ (bits - 1) : Int) < d → d ≤ 2 ^ (bits - 1) →
        new < 2 ^ bits → old < 2 ^ bits →
        (4 * d.natAbs ≤ period → t.regs = s.regs ∧ t.chanOf ch = { s.chanOf ch with
            ssi := some new
            replay := (s.chanOf ch).replay ++ (List.range d.natAbs).map fun i =>
              (sample + i * period / d.natAbs, decide (d < 0) != s.on Pg.POS (Fd.POS_CH_CTL_INVERT_DIR ch)) }) ∧
        (period < 4 * d.natAbs → t.chanOf ch = s.chanOf ch ∧ t.on Pg.POS (Fd.POS_CH_STAT_ILLEGAL ch) = true ∧
          t.fld Pg.POS (Fd.POS_CH_ERR_CNT_ILLEGAL_CNT ch) = satN 16 (s.fld Pg.POS (Fd.POS_CH_ERR_CNT_ILLEGAL_CNT ch) + 1)))) ∧
  (∀ (ch : Fin 2) (sample : Nat) (s : State), s.mode ≠ .boot → s.fld Pg.POS (Fd.POS_CH_CTL_MODE ch) ≠ 0 →
    let e (k : Nat) : Nat × Stamp := (evPos ch k, { time := s.timeAt (rawOfCycle sample) / 65536 })
    let x := s.chanOf ch
    ∃ t, exec (.encIndex ch sample) s = .next t ∧ t.on Pg.POS (Fd.POS_CH_STAT_INDEX ch) = true ∧
      (s.fld Pg.POS (Fd.POS_CH_CTL_INDEX ch) ≠ 1 ∨ s.on Pg.POS (Fd.POS_CH_STAT_DIR ch) = true →
        t.raised = s.raised ++ [e 1] ∧ t.chan = s.chan ∧ regsKept [Pg.POS * 4096 + Rg.POS_CH_STAT ch] s t) ∧
      (s.fld Pg.POS (Fd.POS_CH_CTL_INDEX ch) = 1 ∧ s.on Pg.POS (Fd.POS_CH_STAT_DIR ch) = false →
        t.rd Pg.POS (Rg.POS_CH_COUNT ch) = 0 ∧ t.chanOf ch = { x with homed := true, wrapped := false, wrapAt := none } ∧
        regsKept [Pg.POS * 4096 + Rg.POS_CH_STAT ch, Pg.POS * 4096 + Rg.POS_CH_COUNT ch] s t ∧
        (x.homed = false ∨ x.wrapAt = some sample → t.raised = s.raised ++ [e 1]) ∧
        (x.homed = true ∧ x.wrapAt ≠ some sample ∧ x.wrapped = true →
          t.raised = s.raised ++ [e 1, e 3] ∧ t.on Pg.POS (Fd.POS_CH_STAT_LONG_REPEAT ch) = true) ∧
        (x.homed = true ∧ x.wrapAt ≠ some sample ∧ x.wrapped = false →
          t.raised = s.raised ++ [e 1, e 2] ∧ t.on Pg.POS (Fd.POS_CH_STAT_SHORT_REPEAT ch) = true))) ∧
  (∀ (ch : Fin 2) (sample at_ : Nat) (rev : Bool) (s : State), s.mode ≠ .boot → (s.chanOf ch).last = some (at_, rev) →
    ∃ t, exec (.standstill ch sample) s = .next t ∧
      (at_ + 100000 * s.fld Pg.POS (Fd.POS_CH_SPEED_CTL_STILL_MS ch) ≤ sample ∧ s.on Pg.POS (Fd.POS_CH_STAT_STANDSTILL ch) = false →
        t.rd Pg.POS (Rg.POS_CH_SPEED ch) = 0 ∧ t.on Pg.POS (Fd.POS_CH_STAT_STANDSTILL ch) = true ∧
        t.on Pg.POS (Fd.POS_CH_STAT_MOVING ch) = false ∧ (t.chanOf ch).travel = (s.chanOf ch).travel ∧
        t.raised = s.raised ++ [(evPos ch 6, { time := s.timeAt (rawOfCycle sample) / 65536 })] ∧
        regsKept [Pg.POS * 4096 + Rg.POS_CH_STAT ch, Pg.POS * 4096 + Rg.POS_CH_SPEED ch] s t) ∧
      (sample < at_ + 100000 * s.fld Pg.POS (Fd.POS_CH_SPEED_CTL_STILL_MS ch) ∨ s.on Pg.POS (Fd.POS_CH_STAT_STANDSTILL ch) = true →
        t = s.atCycle sample)) ∧
  (∀ (o : Owner) (v : Fin 4) (s : State), s.reaches o Pg.POS = true →
    ∃ t, exec (.tgLineLoRead o v) s = .next t ∧ t.regs = s.regs ∧
      (t.tgOf v).latchHi = s.fld Pg.POS (Fd.POS_TG_LINE_HI_b0 v) ∧
      t.out = s.out ++ [.readData (ownerCode o) (Pg.POS * 4096 + Rg.POS_TG_LINE_LO v) (s.rd Pg.POS (Rg.POS_TG_LINE_LO v))])

/-- A due trigger is issued to every ACTIVE port of its view (R118, R119, R120, R152, R153). -/
def Obligations.DueTriggerIsIssuedToActivePorts : Prop :=
  (∀ (v : Fin 4) (sample n c : Nat) (tr : Int) (s : State), (s.tgOf v).waiting = some (n, c, tr) →
    (∀ p, (s.intk p).next = none ∨ ((s.intk p).view = v ∧ (s.intk p).run = (s.view_ v).first)) →
    ∃ t l, exec (.triggerIssue v sample) s = .next t ∧
      t.out = s.out ++ ((s.portsAt v n).filter fun p => s.linkState p == lkActive).map
        (fun p => Output.trigger p (triggerSyms n) (Nat.min 18 (Config.uplinkLeft p n))) ++ l) ∧
  (∀ (v : Fin 4) (n c : Nat) (tr : Int) (s : State), (s.tgOf v).waiting = some (n, c, tr) →
    ((s.issue v).1.tgOf v).waiting = none ∧ ((s.issue v).1.tgOf v).skipq = [] ∧
    ((s.issue v).1.tgOf v).issued = some c ∧ (s.issue v).2 = n :: (s.tgOf v).skipq.map (·.1)) ∧
  (∀ (v : Fin 4) (sample : Nat) (travel : Int) (s : State), (s.tgOf v).waiting = none →
    ((s.due v sample travel).tgOf v) = { s.tgOf v with
      waiting := some ((s.tgOf v).next, (match (s.tgOf v).issued with
        | none => sample + 1
        | some c => Nat.max (sample + 1) (c + s.fld Pg.POS (Fd.POS_TG_CTL_MIN_PERIOD v))), travel)
      next := (s.tgOf v).next + 1, anyDue := true }) ∧
  (∀ (v : Fin 4) (sample : Nat) (travel : Int) (w : Nat × Nat × Int) (s : State), s.mode ≠ .boot → (s.tgOf v).waiting = some w →
    let c := Nat.max sample (((s.tgOf v).skipq.getLast?.getD w).2.1)
    ((s.due v sample travel).tgOf v) = { s.tgOf v with
      skipq := (s.tgOf v).skipq ++ [((s.tgOf v).next, c, travel)], next := (s.tgOf v).next + 1, anyDue := true } ∧
    (s.due v sample travel).fld Pg.POS (Fd.POS_TG_LINE_HI_SKIP_CNT v) = satN 16 (s.fld Pg.POS (Fd.POS_TG_LINE_HI_SKIP_CNT v) + 1) ∧
    ∃ st, (s.due v sample travel).raised = s.raised ++ [(evOverspeed v, st)] ∧
      st.time = s.timeAt (rawOfCycle c) / 65536 ∧ st.line = some (v.val, (s.tgOf v).next))

/-- Reads of time, the one step, the host's rate and the arming of the time of day (R431, R433, R434, R435, R436, R439, R440, R445).
-/
def Obligations.TimeIsReadSteppedAndSteered : Prop :=
  (∀ (o : Owner) (s : State), s.reaches o Pg.TB = true →
    ∃ t, exec (.timeLoRead o) s = .next t ∧
      t.out = s.out ++ [.readData (ownerCode o) (Pg.TB * 4096 + Rg.TB_TIME_LO) (BitVec.ofNat 32 s.time)] ∧
      t.rd64 Pg.TB Rg.TB_TIME_LO Rg.TB_TIME_HI = s.time % 2 ^ 64 ∧
      (t.rd Pg.TB Rg.TB_TIME_FRAC).toNat = s.time16 % 65536 ∧ t.rd64 Pg.TB Rg.TB_RAW_LO Rg.TB_RAW_HI = s.rawNs % 2 ^ 64 ∧
      regsKept ([Rg.TB_TIME_LO, Rg.TB_TIME_HI, Rg.TB_TIME_FRAC, Rg.TB_RAW_LO, Rg.TB_RAW_HI].map (Pg.TB * 4096 + ·)) s t) ∧
  (∀ (o : Owner) (w : Word) (s : State), s.access o Pg.TB = .granted →
    ∃ t, exec (.offsetHiWrite o w) s = .next t ∧
      (s.on Pg.TB Fd.TB_STAT_STEPPED = false →
        let ofs := w.toNat * 2 ^ 32 + (s.rd Pg.TB Rg.TB_OFFSET_LO).toNat
        t.tb.offset = ofs ∧ t.tb.fresh = true ∧ t.on Pg.TB Fd.TB_STAT_STEPPED = true ∧
        t.fld Pg.TB Fd.TB_STAT_STATE = (if s.on Pg.TB Fd.TB_CTL_SERVO_EN then 1 else 4) ∧
        t.rd64 Pg.TB Rg.TB_OFFSET_LO Rg.TB_OFFSET_HI = ofs ∧
        t.crl.entries = s.crl.entries.map fun e => { e with t := e.t + (ofs - s.tb.offset) }) ∧
      (s.on Pg.TB Fd.TB_STAT_STEPPED = true → t.tb = s.tb)) ∧
  (∀ (o : Owner) (w : Word) (s : State), s.access o Pg.TB = .granted →
    let r := sext 40 (w.toNat % 256 * 2 ^ 32 + (s.rd Pg.TB Rg.TB_RATE_LO).toNat)
    ∃ t, exec (.rateHiWrite o w) s = .next t ∧
      (s.on Pg.TB Fd.TB_CTL_SERVO_EN = false ∧ -rateLimit ≤ r ∧ r ≤ rateLimit →
        t.tb.rate = r ∧ t.time16 = s.time16 ∧ regsKept [Pg.TB * 4096 + Rg.TB_RATE_LO, Pg.TB * 4096 + Rg.TB_RATE_HI] s t) ∧
      (s.on Pg.TB Fd.TB_CTL_SERVO_EN = true ∨ r < -rateLimit ∨ rateLimit < r →
        t.tb = s.tb ∧ t.on Pg.TB Fd.TB_STAT_RATE_REFUSED = true)) ∧
  (∀ (o : Owner) (w : Word) (s : State), s.access o Pg.TB = .granted →
    ∃ t, exec (.todSecHiWrite o w) s = .next t ∧
      t.tb = { s.tb with tod := some (w.toNat % 65536 * 2 ^ 32 + (s.rd Pg.TB Rg.TB_TOD_SEC_LO).toNat, s.rawNs) } ∧
      regsKept [Pg.TB * 4096 + Rg.TB_TOD_SEC_HI] s t)

/-- PPS edges steer the rate, and the timebase's losses change its state (R437, R438, R439, R440, R441, R445). -/
def Obligations.PpsSteersAndLossesChangeTheState : Prop :=
  (∀ (t0 : Nat) (s x : State), x = s.atNs t0 → s.on Pg.TB Fd.TB_CTL_SERVO_EN = true → s.on Pg.TB Fd.TB_STAT_STEPPED = true → s.tb.tod = none →
    let g := servoErr (phaseError x.time16)
    ∃ t, exec (.ppsInEdge t0) s = .next t ∧ t.tb.lastEdge = some x.rawNs ∧
      ((phaseError x.time16).natAbs ≤ s.fld Pg.TB Fd.TB_SERVO_CTL_PPS_WIN * 1000 * 65536 ∨ 4 ≤ x.ppsSeries →
        t.tb.fresh = false ∧
        t.tb.f = clampI (-rateLimit) rateLimit (if s.tb.fresh then -g else s.tb.f - g / (2 ^ s.fld Pg.TB Fd.TB_SERVO_CTL_KI_SHIFT : Nat)) ∧
        t.tb.rate = (if s.tb.fresh then t.tb.f
          else clampI (-rateLimit) rateLimit (t.tb.f - g / (2 ^ s.fld Pg.TB Fd.TB_SERVO_CTL_KP_SHIFT : Nat)))) ∧
      (s.fld Pg.TB Fd.TB_SERVO_CTL_PPS_WIN * 1000 * 65536 < (phaseError x.time16).natAbs ∧ x.ppsSeries < 4 →
        t.tb.rate = s.tb.rate ∧ t.tb.bad = s.tb.bad + 1 ∧ t.on Pg.TB Fd.TB_STAT_PPS_BAD = true)) ∧
  (∀ (t0 v armed : Nat) (s x : State), x = s.atNs t0 → s.on Pg.TB Fd.TB_CTL_SERVO_EN = true → s.on Pg.TB Fd.TB_STAT_STEPPED = false →
    s.tb.tod = some (v, armed) → armed + 10000000 ≤ x.rawNs →
    (phaseError x.time16).natAbs ≤ s.fld Pg.TB Fd.TB_SERVO_CTL_PPS_WIN * 1000 * 65536 ∨ 4 ≤ x.ppsSeries →
    (x.time16 + 2 ^ 15) / 2 ^ 16 ≤ v * 10 ^ 9 →
    ∃ t, exec (.ppsInEdge t0) s = .next t ∧ t.tb.offset = v * 10 ^ 9 - (x.time16 + 2 ^ 15) / 2 ^ 16 ∧ t.tb.tod = none ∧
      t.on Pg.TB Fd.TB_STAT_STEPPED = true ∧ t.fld Pg.TB Fd.TB_STAT_STATE = 1) ∧
  (∀ (t0 : Nat) (s : State),
    ∃ t, exec (.ppsMissing t0) s = .next t ∧
      (s.fld Pg.TB Fd.TB_STAT_STATE = 2 → t.fld Pg.TB Fd.TB_STAT_STATE = 3 ∧ t.fld Pg.TB Fd.TB_STAT_CLOCK_CLASS = 7 ∧
        t.tb.rate = s.tb.f ∧ t.time16 = (s.atNs t0).time16) ∧
      (s.fld Pg.TB Fd.TB_STAT_STATE = 1 → t.fld Pg.TB Fd.TB_STAT_STATE = 1 ∧ t.tb.rate = s.tb.f ∧ t.time16 = (s.atNs t0).time16) ∧
      (s.fld Pg.TB Fd.TB_STAT_STATE ≠ 1 ∧ s.fld Pg.TB Fd.TB_STAT_STATE ≠ 2 → t = s.atNs t0)) ∧
  (∀ s : State, ∃ t, exec .holdoverExpiry s = .next t ∧
    (s.fld Pg.TB Fd.TB_STAT_STATE = 3 → t.fld Pg.TB Fd.TB_STAT_STATE = 4 ∧ t.fld Pg.TB Fd.TB_STAT_CLOCK_CLASS = 248) ∧
    (s.fld Pg.TB Fd.TB_STAT_STATE ≠ 3 → t = s)) ∧
  (∀ s : State, s.mode ≠ .boot → ∃ t, exec .tbrefLost s = .next t ∧ t.on Pg.TB Fd.TB_STAT_REF_LOCK = false ∧ t.mode = .hold) ∧
  (∀ (t0 : Nat) (s : State), s.on Pg.TB Fd.TB_CTL_PPS_OUT_EN = true →
    exec (.ppsOutSecond t0) s = .next ((s.atNs t0).emit (.ppsOut ((s.atNs t0).time / 10 ^ 9))))

/-- The PTP messages of a port that sends, and how it answers requests (R442, R443, R444, R445). -/
def Obligations.PtpPortsSendAndAnswer : Prop :=
  (∀ (n : Fin 2) (t0 : Nat) (s : State), s.ptpOn n = true →
    let q (type : Nat) : Nat := tabGet (dflt 0) s.tb.seq (16 * n + type)
    ∃ t, exec (.ptpSyncSend n t0) s = .next t ∧
      t.out = s.out ++ (if s.on Pg.TB (portFld n Fd.TB_PORT0_CTL_TWO_STEP)
        then [.ptp n ptpSync (q ptpSync) [0, 0], .ptp n ptpFollowUp (q ptpFollowUp) (s.atNs t0).stamp16]
        else [.ptp n ptpSync (q ptpSync) (s.atNs t0).stamp16]) ∧
      tabGet (dflt 0) t.tb.seq (16 * n + ptpSync) = (q ptpSync + 1) % 65536) ∧
  (∀ (n : Fin 2) (t0 : Nat) (s : State), s.ptpOn n = true →
    ∃ t, exec (.ptpAnnounceSend n t0) s = .next t ∧
      t.out = s.out ++ [.ptp n ptpAnnounce (tabGet (dflt 0) s.tb.seq (16 * n + ptpAnnounce)) (s.dataset ++ s.announceRest)]) ∧
  (∀ (n : Fin 2) (domain seq requester corr t0 : Nat) (s : State), s.ptpOn n = true → s.fld Pg.TB Fd.TB_PTP_CTL_DOMAIN = domain →
    let x := s.atNs t0
    let was := tabGet (dflt (0, 0)) s.tb.answered n
    let full : Prop := was.1 = x.rawNs / 10 ^ 9 ∧ 8192 ≤ was.2
    (s.on Pg.TB (portFld n Fd.TB_PORT0_CTL_PEER) = false →
      ∃ t, exec (.delayReqRx n domain seq requester corr t0) s = .next t ∧
        (¬full → t.out = s.out ++ [.ptp n ptpDelayResp seq (x.stamp16 ++ [requester, corr])]) ∧
        (full → t.out = s.out ∧ t.fld Pg.TB Fd.TB_PTP_CNT_b16 = satN 16 (s.fld Pg.TB Fd.TB_PTP_CNT_b16 + 1))) ∧
    (s.on Pg.TB (portFld n Fd.TB_PORT0_CTL_PEER) = true →
      ∃ t, exec (.pdelayReqRx n domain seq requester corr t0) s = .next t ∧
        (¬full → t.out = s.out ++ [.ptp n ptpPdelayResp seq (x.stamp16 ++ [requester, corr])] ++
          (if s.on Pg.TB (portFld n Fd.TB_PORT0_CTL_TWO_STEP) then [.ptp n ptpPdelayRespFollowUp seq (x.stamp16 ++ [requester, corr])] else [])) ∧
        (full → t.out = s.out))) ∧
  (∀ (n : Fin 2) (ds : AnnounceData) (t0 : Nat) (s : State), s.mode ≠ .boot → s.on Pg.TB Fd.TB_CTL_PTP_EN = true →
    s.on Pg.TB (portFld n Fd.TB_PORT0_CTL_EN) = true →
    dsLess [ds.priority1, ds.clockClass, ds.accuracy, ds.variance, ds.priority2, ds.identity] s.dataset = true →
    ∃ t, exec (.announceRx n (s.fld Pg.TB Fd.TB_PTP_CTL_DOMAIN) ds t0) s = .next t ∧
      t.on Pg.TB ⟨Rg.TB_PTP_STAT, n, 1⟩ = true ∧ t.raised = s.raised ++ [(evPtpForeign, { time := (s.atNs t0).time })] ∧
      (s.on Pg.TB Fd.TB_CTL_FOREIGN_SILENT = true → t.on Pg.TB ⟨Rg.TB_PTP_STAT, 2 + n, 1⟩ = true)) ∧
  (∀ (n : Fin 2) (s : State),
    ∃ t, exec (.foreignTimeout n) s = .next t ∧ t.on Pg.TB ⟨Rg.TB_PTP_STAT, n, 1⟩ = false ∧
      t.on Pg.TB ⟨Rg.TB_PTP_STAT, 2 + n, 1⟩ = false ∧ regsKept [Pg.TB * 4096 + Rg.TB_PTP_STAT] s t)

/-- Static slots start, fire, are written and switch banks (R446, R447, R449, R450, R451, R452). -/
def Obligations.StaticSlotsStartFireAndSwitch : Prop :=
  (∀ (o : Owner) (w : Word) (s : State), s.access o Pg.CRL = .granted → wf w 0 3 = 1 → s.on Pg.CRL Fd.CRL_CTL_EN = false →
    0 < s.bankCycle s.bank →
    ∃ t, exec (.crlEnable o w) s = .next t ∧ t.on Pg.CRL Fd.CRL_CTL_EN = true ∧ t.crl.fired = [] ∧ s.time + 2000 ≤ t.crl.start ∧
      t.crl.start < s.time + 2000 + s.bankCycle s.bank ∧
      (s.bankCycle s.bank : Int) ∣ (t.crl.start : Int) - s.rd64 Pg.CRL Rg.CRL_BASE_LO Rg.CRL_BASE_HI) ∧
  (∀ (k : Fin 1024) (t0 : Nat) (s x : State), x = (s.atNs t0).rollCycle → s.mode ≠ .hold → s.mode ≠ .boot →
    s.on Pg.CRL Fd.CRL_CTL_EN = true → x.slot x.bank k 32 1 = 1 → x.slot x.bank k 0 32 < x.bankCycle x.bank → k.val ∉ x.crl.fired →
    x.crl.start + x.slot x.bank k 0 32 ≤ x.time → x.slot x.bank k 34 2 = 1 → 8 ≤ x.slot x.bank k 64 32 →
    ∃ t, exec (.slotFire k t0) s = .next t ∧ t.crl.fired = x.crl.fired ++ [k.val] ∧
      t.crl.pulses = x.crl.pulses ++ [(x.slot x.bank k 36 5, x.crl.start + x.slot x.bank k 0 32 + x.slot x.bank k 64 32)] ∧
      t.fld Pg.CRL Fd.CRL_FIRE_CNT_b0 = satN 16 (x.fld Pg.CRL Fd.CRL_FIRE_CNT_b0 + 1)) ∧
  (∀ (p : Fin 24) (t0 : Nat) (s : State), exec (.pulseEnd p t0) s =
    .next { s.atNs t0 with crl := { s.crl with pulses := s.crl.pulses.filter fun e => !(e.1 == p.val && decide (e.2 ≤ (s.atNs t0).time)) } }) ∧
  (∀ (o : Owner) (b : Fin 2) (k : Fin 1024) (i : Fin 4) (w : Word) (s : State), s.reaches o Pg.CRL = true →
    let w' := if i.val = 1 then w &&& 0x000FFFFF else if i.val = 3 then s.win (slotAt b k + 4 * i) else w
    let one := if i.val = 1 then w' else s.win (slotAt b k + 4)
    wf one 2 1 = 0 ∨ s.mayPulse (ownerCode o) (wf one 4 5) = true →
    ∃ t, exec (.slotWrite o b k i w) s = .next t ∧
      (¬(b.val = s.bank ∧ s.rollCycle.slotArmed k = true) → t = s.setWin (slotAt b k + 4 * i) w') ∧
      (b.val = s.bank ∧ s.rollCycle.slotArmed k = true →
        t.crl.deferred = s.crl.deferred ++ [(slotAt b k + 4 * i, w')] ∧ t.on Pg.CRL Fd.CRL_STAT_DEFERRED = true ∧
        t.win (slotAt b k + 4 * i) = s.win (slotAt b k + 4 * i))) ∧
  (∀ (o : Owner) (b : Fin 2) (w : Word) (s : State), s.access o Pg.CRL = .granted →
    ∃ t, exec (.bankCycleWrite o b w) s = .next t ∧
      (b.val ≠ s.bank ∧ 1000 ≤ w.toNat ∧ w.toNat ≤ 4000000000 →
        t.rd Pg.CRL (Rg.CRL_BANK0_CYCLE + 4 * b) = w ∧ regsKept [Pg.CRL * 4096 + (Rg.CRL_BANK0_CYCLE + 4 * b)] s t) ∧
      (b.val = s.bank ∨ w.toNat < 1000 ∨ 4000000000 < w.toNat →
        t.rd Pg.CRL (Rg.CRL_BANK0_CYCLE + 4 * b) = s.rd Pg.CRL (Rg.CRL_BANK0_CYCLE + 4 * b) ∧
        t.on Pg.CRL Fd.CRL_STAT_CYCLE_REFUSED = true)) ∧
  (∀ (o : Owner) (w : Word) (s x : State), s.access o Pg.CRL = .granted → wf w 0 3 = 3 → s.on Pg.CRL Fd.CRL_CTL_EN = true →
    s.on Pg.CRL Fd.CRL_STAT_SWITCH_PENDING = false → x = s.rollCycle →
    ∃ t, exec (.crlSwitch o w) s = .next t ∧ t.on Pg.CRL Fd.CRL_STAT_SWITCH_PENDING = true ∧ t.bank = s.bank ∧
      t.crl.switchAt = (if x.crl.start + s.bankCycle s.bank < s.time + 2000 then x.crl.start + s.bankCycle s.bank + s.bankCycle s.bank
        else x.crl.start + s.bankCycle s.bank)) ∧
  (∀ (t0 : Nat) (s : State), s.on Pg.CRL Fd.CRL_STAT_SWITCH_PENDING = true → s.crl.switchAt ≤ (s.atNs t0).time →
    ∃ t, exec (.bankSwitchBoundary t0) s = .next t ∧ t.bank = 1 - s.bank ∧ t.on Pg.CRL Fd.CRL_STAT_SWITCH_PENDING = false ∧
      t.crl.start = s.crl.switchAt ∧ t.crl.fired = [] ∧ t.crl.deferred = [])

/-- Calendar entries are inserted, fire and are flushed (R446, R454, R455, R456, R457). -/
def Obligations.CalendarEntriesAreInsertedFiredAndFlushed : Prop :=
  (∀ (o : Owner) (w : Word) (s : State), s.access o Pg.CRL = .granted → wf w 0 1 = 1 →
    (s.fld Pg.CRL Fd.CRL_CAL_CFG_ACTION ≠ 1 ∧ s.fld Pg.CRL Fd.CRL_CAL_CFG_ACTION ≠ 3) ∨
      s.mayPulse (ownerCode o) (s.fld Pg.CRL Fd.CRL_CAL_CFG_PULSE) = true →
    ∃ t, exec (.calInsert o w) s = .next t ∧
      (s.mode.job = true ∧ s.crl.entries.length < 4096 →
        t.crl.entries = s.crl.entries ++ [⟨s.crl.nextNum, s.rd64 Pg.CRL Rg.CRL_CAL_T_LO Rg.CRL_CAL_T_HI, s.fld Pg.CRL Fd.CRL_CAL_CFG_ACTION,
          s.fld Pg.CRL Fd.CRL_CAL_CFG_PULSE, (s.rd Pg.CRL Rg.CRL_CAL_WIDTH).toNat, s.fld Pg.CRL Fd.CRL_CAL_CFG_QIDX,
          s.fld Pg.CRL Fd.CRL_CAL_CFG_PORT⟩] ∧
        t.crl.nextNum = s.crl.nextNum + 1 ∧ t.fld Pg.CRL Fd.CRL_CAL_CTL_RESULT = 1) ∧
      (s.mode.job = true ∧ 4096 ≤ s.crl.entries.length →
        t.crl.entries = s.crl.entries ∧ t.on Pg.CRL Fd.CRL_STAT_CAL_FULL = true ∧ t.fld Pg.CRL Fd.CRL_CAL_CTL_RESULT = 2) ∧
      (s.mode.job = false → t.crl = s.crl ∧ t.fld Pg.CRL Fd.CRL_CAL_CTL_RESULT = 3)) ∧
  (∀ (num t0 f : Nat) (e : CalEntry) (s : State), (calTimes s.crl.lastF s.crl.entries).find? (·.1.num == num) = some (e, f) →
    ∃ t, exec (.calEntryFire num t0) s = .next t ∧
      ((s.atNs t0).time < f → t = s.atNs t0) ∧
      (f ≤ (s.atNs t0).time ∧ e.action = 1 ∧ 8 ≤ e.width →
        t.crl.entries = s.crl.entries.filter (fun x => x.num != num) ∧ t.crl.pulses = s.crl.pulses ++ [(e.pulse, f + e.width)] ∧
        tabGet (dflt 0) t.crl.lastF e.pulse = f)) ∧
  (∀ (o : Owner) (w : Word) (s : State), s.access o Pg.CRL = .granted → wf w 1 2 = 2 →
    ∃ t, exec (.calFlush o w) s = .next t ∧ t.crl.entries = [] ∧ t.fld Pg.CRL Fd.CRL_CAL_STAT_b0 = 0 ∧
      t.fld Pg.CRL Fd.CRL_CANCEL_CNT_b0 = satN 16 (s.fld Pg.CRL Fd.CRL_CANCEL_CNT_b0 + s.crl.entries.length))

/-- Sources raise events, a round fires the channels that take them, and tables are written (R461, R462, R463, R465, R466, R467). -/
def Obligations.SourcesFireChannels : Prop :=
  (∀ (n : Fin 16) (rising : Bool) (sample : Nat) (s : State), s.mode ≠ .boot →
    ∃ t, exec (.evioEdge n rising sample) s = .next t ∧ t.evio = { s.evio with input := nbSet s.evio.input n 1 (b2n rising) } ∧
      t.regs = s.regs ∧
      t.raised = s.raised ++ (if tbit (s.rd Pg.PINS1 Rg.PINS1_EVIO_OE).toNat n then []
        else [(2 * n + b2n (!rising), { time := (s.atCycle sample).time })])) ∧
  (∀ (o : Owner) (w : Word) (s : State), s.mode ≠ .boot → s.access o Pg.EVF = .granted → wf w 5 1 = 1 →
    ∃ t, exec (.swFire o w) s = .next t ∧ t.raised = s.raised ++ [(evSw (wf w 0 5), { time := s.time })]) ∧
  (∀ (e : Nat × Stamp) (rest : List (Nat × Stamp)) (s : State), s.mode ≠ .boot → s.blockOn Pg.EVF Fd.EVF_CTL_EN = true → s.raised = e :: rest →
    let hits := (List.range 256).filter fun c => s.fires e.1 c
    let del := (hits.filter fun c => s.evc c 10 1 == 1).map fun c => (s.evc c 12 9, c)
    ∃ t, exec (.channelFire 1) s = .next t ∧ t.raised = rest ∧
      (∀ c ∈ hits, t.on Pg.EVF ⟨Rg.EVF_FLAG (c / 32), c % 32, 1⟩ = true) ∧
      t.evf.occ.map (·.map fun o => (o.task, o.chan)) =
        s.evf.occ.map (·.map fun o => (o.task, o.chan)) ++ (if del = [] then [] else [del])) ∧
  (∀ (o : Owner) (c : Fin 256) (i : Fin 8) (w : Word) (s : State), s.reaches o Pg.EVF = true → i.val < 2 → tbit (s.evc c 0 64) 43 = false →
    ∃ t, exec (.channelWrite o c i w) s = .next t ∧
      (channelOk (nbSet (s.evc c 0 64) (32 * i) 32 w.toNat) = true → t.win (chanAt c + 4 * i) = w &&& winMask (chanAt c + 4 * i)) ∧
      (channelOk (nbSet (s.evc c 0 64) (32 * i) 32 w.toNat) = false → t.win (chanAt c + 4 * i) = s.win (chanAt c + 4 * i))) ∧
  (∀ (o : Owner) (w : Word) (s : State), s.access o Pg.EVF = .granted →
    ∃ t, exec (.groupStateWrite o w) s = .next t ∧ wf (t.rd Pg.EVF Rg.EVF_GROUP_STATE) 0 16 = wf w 0 16 ∧
      regsKept [Pg.EVF * 4096 + Rg.EVF_GROUP_STATE] s t)

/-- Tasks take their occurrences, remembered ones start, and relays are re-emitted (R468, R469, R473, R476, R477). -/
def Obligations.TasksTakeTheirOccurrences : Prop :=
  (∀ (o : Occ) (rest : List (List Occ)) (s : State), s.mode ≠ .boot → s.evf.occ = [o] :: rest →
    ∃ t, exec .taskDeliver s = .next t ∧ t.evf.occ = rest ∧
      (o.task < 16 ∧ s.evt o.task 64 1 = 1 ∧ s.mode ≠ .hold ∧ s.taskPermitted o.task (s.evc o.chan 40 3) = true ∧
          tbit (s.rd Pg.PINS1 Rg.PINS1_EVIO_OE).toNat o.task = true ∧ s.taskBusy o.task = false ∧ s.evt o.task 0 2 = 1 →
        tbit t.evio.level o.task = true) ∧
      (o.task = 41 ∧ s.evt 41 64 1 = 1 ∧ s.taskPermitted 41 (s.evc o.chan 40 3) = true → t.mode = .hold) ∧
      (s.evt o.task 64 1 = 0 → t.rd Pg.EVF Rg.EVF_IGN_CNT = BitVec.ofNat 32 (satN 32 ((s.rd Pg.EVF Rg.EVF_IGN_CNT).toNat + 1)) ∧
        t.window = s.window ∧ t.evio = s.evio)) ∧
  (∀ (k : Fin 384) (o : Occ) (s : State), tabGet (dflt none) s.evf.pend k = some o → o.task = k.val → s.taskBusy k = false →
    ∃ t, exec (.taskPendingStart k) s = .next t ∧ tabGet (dflt none) t.evf.pend k = none ∧
      (o.task < 16 ∧ s.mode ≠ .hold ∧ s.taskPermitted o.task (s.evc o.chan 40 3) = true ∧
          tbit (s.rd Pg.PINS1 Rg.PINS1_EVIO_OE).toNat o.task = true ∧ s.evt o.task 64 1 = 1 ∧ s.evt o.task 0 2 = 0 →
        t.evio.pulses = s.evio.pulses ++ [(o.task, s.rawNs + 10 * s.evt o.task 32 32)])) ∧
  (∀ (n : Fin 16) (t0 : Nat) (s : State), exec (.evioPulseEnd n t0) s =
    .next { s.atNs t0 with evio := { s.evio with
      pulses := s.evio.pulses.filter fun e => !(e.1 == n.val && decide (e.2 ≤ (s.atNs t0).rawNs)) } }) ∧
  (∀ (r : Fin 32) (o : Occ) (s : State), s.mode ≠ .boot → s.evf.relay.find? (·.task == 64 + r.val) = some o →
    ∃ t, exec (.relayEmit r) s = .next t ∧ t.evf.relay = s.evf.relay.erase o ∧
      (o.stamp.hop < 4 → t.raised = s.raised ++ [(evRelay r, { o.stamp with hop := o.stamp.hop + 1 })]) ∧
      (4 ≤ o.stamp.hop → o.stamp.origin.getD o.chan < 256 →
        t.raised = s.raised ∧ t.evc (o.stamp.origin.getD o.chan) 9 1 = 0 ∧
        t.on Pg.EVF ⟨Rg.EVF_LOOP (o.stamp.origin.getD o.chan / 32), o.stamp.origin.getD o.chan % 32, 1⟩ = true))

/-- Credits, pushes, pops and polls of a queue, and its mover and bank arbiter (R479, R480, R484, R485, R486, R487, R488, R491,
R494). -/
def Obligations.QueueWordsEnterAndLeaveInOrder : Prop :=
  (∀ (q : Fin 8192) (r : Fin 8) (n : Nat) (reserve : Bool) (s : State),
    ∃ t, exec (.queueCreditRequest q r n reserve) s = .next t ∧
      (s.qEn q = true ∧ n ≤ s.qFree q reserve → (t.q q).credOf r = (s.q q).credOf r + n ∧ (t.q q).words = (s.q q).words ∧ t.regs = s.regs) ∧
      (s.qEn q = false ∨ s.qFree q reserve < n → t.queue = s.queue ∧
        t.fld Pg.QF ⟨Rg.QF_REFUSE_CNT, 0, 16⟩ = satN 16 (s.fld Pg.QF ⟨Rg.QF_REFUSE_CNT, 0, 16⟩ + 1))) ∧
  (∀ (q : Fin 8192) (r : Fin 8) (data : Word64) (tag : Fin 4) (sof eof : Bool) (s : State), 0 < (s.q q).credOf r → s.qExt q = false →
    ∃ t, exec (.queuePush q r data tag sof eof) s = .next t ∧
      (t.q q).words = (s.q q).words ++ [mkWord data (if tag.val = tagNotValid then tagPoisoned else tag) sof eof] ∧
      (t.q q).credOf r = (s.q q).credOf r - 1) ∧
  (∀ (q : Fin 8192) (flip : Word64) (w : QWord) (rest : List QWord) (s : State), (s.q q).words = w :: rest →
    parityOf (w.data ^^^ flip) w.tag w.sof w.eof = w.parity ∨ (s.q q).parLogged = true →
    let ok := parityOf (w.data ^^^ flip) w.tag w.sof w.eof = w.parity
    let got : QWord := { w with data := w.data ^^^ flip, tag := if ok then w.tag else tagPoisoned }
    (∃ t l, exec (.queuePop q flip) s = .next t ∧ (t.q q).words = rest ∧ t.out = s.out ++ l ++ [.word q got] ∧
      (¬ok → (t.q q).parErr = satN 16 ((s.q q).parErr + 1))) ∧
    (∃ t l, exec (.queuePoll q flip) s = .next t ∧ (t.q q).words = rest ∧ t.out = s.out ++ l ++ [.word q got])) ∧
  (∀ (q : Fin 8192) (flip : Word64) (s : State), (s.q q).words = [] →
    exec (.queuePop q flip) s = .next s ∧ exec (.queuePoll q flip) s = .next (s.emit (.word q emptyPoll))) ∧
  (∀ (q : Fin 8192) (s : State), 0 < (s.q q).extLen → (s.q q).words.length < s.qCap q →
    s.dramBad (s.ringAt q (s.q q).extHead).1 64 = false →
    ∃ t l, exec (.extMove q false) s = .next t ∧ l ≠ [] ∧ (t.q q).words = (s.q q).words ++ l ∧ (t.q q).depth = (s.q q).depth) ∧
  (∀ (b : Fin 64) (reqs : List (Fin 8)) (s : State),
    ∃ t, exec (.bankGrant b reqs) s = .next t ∧ t.queue = s.queue ∧
      ((tabGet (dflt {}) s.arb (16 + b)).grant = none → (tabGet (dflt {}) t.arb (16 + b)).grant =
        (if reqs = [] then none else some (maxN (reqs.map (·.val)))) ∧ t.regs = s.regs) ∧
      (∀ r, (tabGet (dflt {}) s.arb (16 + b)).grant = some r → r ∉ reqs.map (·.val) →
        t.fld Pg.QF Fd.QF_BANK_CNT_b0 = satN Fd.QF_BANK_CNT_b0.len (s.fld Pg.QF Fd.QF_BANK_CNT_b0 + 1)))

/-- Queue allocation and the host's end of a queue (R482, R483, R487, R490, R496). -/
def Obligations.QueuesAreAllocatedAndReachedByTheHost : Prop :=
  (∀ (o : Owner) (w : Word) (s : State), s.access o Pg.QF = .granted → wf w 0 1 = 1 → s.mode = .idle ∨ s.mode = .setup →
    ∃ t, exec (.qfApply o w) s = .next t ∧
      (s.enabledNew.find? (·.bad s.enabledNew) = none → t.qshadow = [] ∧ t.fld Pg.QF Fd.QF_ALLOC_STAT_RESULT = 1) ∧
      (∀ a, s.enabledNew.find? (·.bad s.enabledNew) = some a → a.q < 8192 → t.qshadow = s.qshadow ∧
        (∀ k, qdesc 0 ≤ k → t.win k = s.win k) ∧ t.fld Pg.QF Fd.QF_ALLOC_STAT_RESULT = 2 ∧ t.fld Pg.QF Fd.QF_ALLOC_STAT_b16 = a.q)) ∧
  (∀ (o : Owner) (w : Word) (s : State), s.access o Pg.QF = .granted → wf w 16 1 = 1 →
    let q := s.hqSel
    ∃ t, exec (.hqCredReq o w) s = .next t ∧
      (s.hostPushes q = true ∧ s.qEn q = true ∧ wf w 0 16 ≤ s.qFree q false →
        (t.q q).credOf (hostHolder o) = (s.q q).credOf (hostHolder o) + wf w 0 16 ∧ (t.q q).words = (s.q q).words) ∧
      (s.hostPushes q = false → t.queue = s.queue ∧ t.on Pg.QF Fd.QF_STAT_GUARD_REFUSED = true)) ∧
  (∀ (o : Owner) (w : Word) (s : State), s.access o Pg.QF = .granted →
    let q := s.hqSel
    ∃ t, exec (.hqPush o w) s = .next t ∧
      (s.hostPushes q = true ∧ 0 < (s.q q).credOf (hostHolder o) ∧ s.qExt q = false →
        (t.q q).words = (s.q q).words ++ [mkWord (w ++ s.hqLo)
          (if s.fld Pg.QF Fd.QF_HQ_PUSH_CTL_TAG = tagNotValid then tagPoisoned else s.fld Pg.QF Fd.QF_HQ_PUSH_CTL_TAG)
          (s.on Pg.QF Fd.QF_HQ_PUSH_CTL_SOF) (s.on Pg.QF Fd.QF_HQ_PUSH_CTL_EOF)] ∧
        (t.q q).credOf (hostHolder o) = (s.q q).credOf (hostHolder o) - 1) ∧
      (s.hostPushes q = true ∧ (s.q q).credOf (hostHolder o) = 0 → t.queue = s.queue) ∧
      (s.hostPushes q = false → t.queue = s.queue ∧ t.on Pg.QF Fd.QF_STAT_GUARD_REFUSED = true)) ∧
  (∀ (o : Owner) (w : QWord) (rest : List QWord) (s : State), s.reaches o Pg.QF = true → s.hostPops s.hqSel = true →
    (s.q s.hqSel).words = w :: rest → parityOf w.data w.tag w.sof w.eof = w.parity →
    ∃ t l, exec (.hqPop o 0) s = .next t ∧ (t.q s.hqSel).words = rest ∧
      t.out = s.out ++ l ++ [.readData (ownerCode o) (Pg.QF * 4096 + Rg.QF_HQ_POP_LO) (BitVec.ofNat 32 w.data.toNat)] ∧
      t.rd Pg.QF Rg.QF_HQ_POP_HI = BitVec.ofNat 32 (w.data.toNat / 2 ^ 32) ∧
      t.rd Pg.QF Rg.QF_HQ_POP_TAG = BitVec.ofNat 32 (w.tag + 4 * b2n w.sof + 8 * b2n w.eof)) ∧
  (∀ (o : Owner) (s : State), s.reaches o Pg.QF = true →
    ∃ t, exec (.lvlNextRead o) s = .next t ∧ t.levels = s.levels.drop 1 ∧ t.queue = s.queue ∧
      ∃ l, t.out = s.out ++ l ++ [.readData (ownerCode o) (Pg.QF * 4096 + Rg.QF_LVL_NEXT)
        (match s.levels with | [] => 0 | q :: _ => BitVec.ofNat 32 (q + 2 ^ 31))])

/-- DMA channels are armed, paused, resumed, aborted, and move their bursts (R498, R500, R501, R502, R503, R504, R505, R506, R507).
-/
def Obligations.DmaChannelsRunTheirSets : Prop :=
  (∀ (o : Owner) (w : Word) (s : State), s.access o Pg.DMA = .granted → wf w 0 3 = 1 →
    let c := s.fld Pg.DMA Fd.DMA_CH_SEL_b0
    ∃ t, exec (.dmaArm o w) s = .next t ∧
      ((s.ch c).state = 0 ∧ (s.dmaSet c (s.ch c).shadowSet).bad = false → (t.ch c).state = 1 ∧
        (t.ch c).active = some (s.ch c).shadowSet ∧ (t.ch c).armed = false ∧ (t.ch c).done = 0 ∧ (t.ch c).flying = []) ∧
      ((s.ch c).state = 0 ∧ (s.dmaSet c (s.ch c).shadowSet).bad = true →
        (t.ch c).refused = true ∧ (t.ch c).state = 0 ∧ (t.ch c).active = (s.ch c).active)) ∧
  (∀ (o : Owner) (w : Word) (s : State), s.access o Pg.DMA = .granted → wf w 0 3 = 2 →
    let c := s.fld Pg.DMA Fd.DMA_CH_SEL_b0
    (s.ch c).state = 1 → (s.ch c).abort = false →
    ∃ t, exec (.dmaPause o w) s = .next t ∧ (t.ch c).pause = true ∧ (t.ch c).done = (s.ch c).done ∧
      (t.ch c).state = if (s.ch c).flying = [] then 2 else 1) ∧
  (∀ (o : Owner) (w : Word) (s : State), s.access o Pg.DMA = .granted → wf w 0 3 = 0 →
    let c := s.fld Pg.DMA Fd.DMA_CH_SEL_b0
    (s.ch c).state = 2 → (s.ch c).abort = false → (s.ch c).flying = [] →
    ∃ t, exec (.dmaResume o w) s = .next t ∧ (t.ch c).pause = false ∧ (t.ch c).done = (s.ch c).done ∧ (t.ch c).state = 1) ∧
  (∀ (o : Owner) (w : Word) (s : State), s.access o Pg.DMA = .granted → wf w 0 1 = 0 → wf w 2 1 = 1 →
    let c := s.fld Pg.DMA Fd.DMA_CH_SEL_b0
    c < 32 → (s.ch c).abort = false →
    ∃ t, exec (.dmaAbort o w) s = .next t ∧
      ((s.ch c).state = 1 ∧ (s.ch c).flying = [] → (t.ch c).state = 0 ∧ (t.ch c).cause = 1 ∧ t.on Pg.DMA ⟨Rg.DMA_ERR_STAT, c, 1⟩ = true) ∧
      ((s.ch c).state = 1 ∧ (s.ch c).flying ≠ [] → (t.ch c).state = 1 ∧ (t.ch c).abort = true) ∧
      ((s.ch c).state = 3 → (t.ch c).state = 0)) ∧
  (∀ (c : Fin 32) (s : State), s.blockOn Pg.DMA Fd.DMA_CTL_EN = true → (∀ k, k ≠ c.val → (s.ch k).state ≠ 1) → s.dmaWants c = true →
    (tabGet (dflt {}) s.arb 120).grant = some c.val → (s.chSet c).dstSpace ≠ 2 →
    let a := (s.chSet c).srcAt (s.ch c).issued
    ∃ t, exec .dmaBurstGrant s = .next t ∧
      ((s.chSet c).srcSpace = 1 → (t.ch c).flying = (s.ch c).flying ++ [none]) ∧
      ((s.chSet c).srcSpace = 0 ∧ s.outOfRange a (s.chSet c).bytes = false ∧ s.dramBad a (s.chSet c).bytes = false →
        (t.ch c).flying = (s.ch c).flying ++ [some (s.dram a (s.chSet c).bytes, List.replicate (s.chSet c).words tagValid)])) ∧
  (∀ (c : Fin 32) (data l : List Byte) (tags : List Nat) (rest : List (Option (List Byte × List Nat))) (s : State),
    (s.ch c).flying = some (l, tags) :: rest → (s.ch c).state = 1 → (s.ch c).pause = false → (s.ch c).abort = false → l ≠ [] →
    let a := (s.chSet c).dstAt (s.ch c).done
    ∃ t, exec (.dmaBurstDone c data) s = .next t ∧
      ((s.chSet c).dstSpace = 0 ∧ s.outOfRange a l.length = false ∧ (∀ j, j < 64 → s.inJob j a l.length = false) ∧
          (∀ j, j < 64 → s.dirAddr j + 64 ≤ a ∨ a + l.length ≤ s.dirAddr j) → t.dram a l.length = l) ∧
      ((s.chSet c).dstSpace = 1 → t.mem = s.mem ∧ ∃ m, t.out = s.out ++ .hostWrite a l :: m) ∧
      ((s.chSet c).dstSpace ≤ 1 ∧ (s.ch c).done + 1 < (s.chSet c).count →
        (t.ch c).done = (s.ch c).done + 1 ∧ (t.ch c).flying = rest ∧ (t.ch c).state = 1) ∧
      ((s.chSet c).dstSpace ≤ 1 ∧ (s.chSet c).count ≤ (s.ch c).done + 1 ∧ (s.chSet c).fullIrq = true ∧ (s.chSet c).circ = false ∧
          (s.ch c).armed = false →
        (t.ch c).state = 0 ∧ t.on Pg.DMA ⟨Rg.DMA_DONE_STAT, c, 1⟩ = true)) ∧
  (∀ (c : Fin 32) (cause : Fin 8) (s : State), (s.ch c).flying ≠ [] → (s.chSet c).dstSpace ≠ 2 →
    ((s.chSet c).srcSpace = 0 ∧ cause.val = 2) ∨ ((s.chSet c).srcSpace = 1 ∧ 2 < cause.val) →
    ∃ t, exec (.dmaBurstError c cause) s = .next t ∧ (t.ch c).state = 3 ∧ (t.ch c).cause = cause.val ∧ (t.ch c).flying = [] ∧
      (t.ch c).done = (s.ch c).done ∧ t.on Pg.DMA ⟨Rg.DMA_ERR_STAT, c, 1⟩ = true)

/-- The compression ring takes jobs in order, runs them by chunks and reports their end (R543, R546, R547, R548). -/
def Obligations.ZipRunsTheRing : Prop :=
  (∀ (o : Owner) (w : Word) (s : State), s.access o Pg.ZIP = .granted →
    let tail := s.rd Pg.ZIP Rg.ZIP_RING_TAIL
    ∃ t, exec (.zipRingHeadWrite o w) s = .next t ∧
      ((w - tail).toNat ≤ s.zipSize → t.rd Pg.ZIP Rg.ZIP_RING_HEAD = w ∧
        (s.zip.job = none ∧ s.blockOn Pg.ZIP Fd.ZIP_CTL_HOST_EN = true ∧ w ≠ tail →
          t.zip.job = some (s.dramNat (s.zipDescAt tail.toNat) 64) ∧
          t.zip.result = if s.zipBad (s.dramNat (s.zipDescAt tail.toNat) 64) then some ⟨zipBadDesc, 0, 0⟩ else none)) ∧
      (s.zipSize < (w - tail).toNat → t.rd Pg.ZIP Rg.ZIP_RING_HEAD = s.rd Pg.ZIP Rg.ZIP_RING_HEAD ∧ t.zip = s.zip ∧
        t.on Pg.ZIP Fd.ZIP_STAT_RING_REFUSED = true)) ∧
  (∀ (reqs : List (Fin 3)) (d : Nat) (s : State), s.zip.job = some d →
    let inp := s.dram (nb d 64 64) (nb d 32 32)
    ∃ t, exec (.zipChunkGrant reqs) s = .next t ∧
      ((0 : Fin 3) ∈ reqs ∧ (tabGet (dflt {}) s.arb 121).grant = some 0 ∧ s.zip.result = none ∧ tbit d 10 = false ∧ nb d 0 4 ≤ 1 ∧
          nb d 32 32 ≠ 0 ∧ s.outOfRange (nb d 64 64) (nb d 32 32) = false ∧ s.dramBad (nb d 64 64) (nb d 32 32) = false →
        let r := if nb d 0 4 = 0 then zipDeflate s.zip.stream d inp else zipInflate s.zip.stream d inp
        t.zip.result = some r.2.1 ∧ t.zip.stream = r.2.2 ∧ t.on Pg.ZIP Fd.ZIP_STAT_BUSY = true ∧ t.fld Pg.ZIP Fd.ZIP_STAT_CUR_REQ = 0) ∧
      ((tabGet (dflt {}) s.arb 121).grant = none → t.zip = s.zip ∧ t.on Pg.ZIP Fd.ZIP_STAT_BUSY = false)) ∧
  (∀ (d : Nat) (r : ZipEnd) (s : State), s.zip.job = some d → s.zip.result = some r → s.fifoOf 12 = [] → r.status = zipOk →
    let tail := s.rd Pg.ZIP Rg.ZIP_RING_TAIL
    s.zipDescAt tail.toNat + 64 ≤ s.capacity →
    ∃ t, exec .zipJobDone s = .next t ∧
      t.dram (s.zipDescAt tail.toNat + 52) 6 = leBytes 4 r.outLen ++ [0, 1] ∧
      t.dram (s.zipDescAt tail.toNat + 60) 4 = leBytes 4 r.check ∧
      t.rd Pg.ZIP Rg.ZIP_RING_TAIL = tail + 1 ∧
      t.fld Pg.ZIP ⟨Rg.ZIP_JOB_CNT, 0, 16⟩ = satN 16 (s.fld Pg.ZIP ⟨Rg.ZIP_JOB_CNT, 0, 16⟩ + 1) ∧
      (s.rd Pg.ZIP Rg.ZIP_RING_HEAD = tail + 1 → t.zip.job = none ∧ t.zip.result = none))

/-- Memory accesses open rows and report errors, windows refresh, regions are filled, channels are trained (R512, R513, R516, R520,
R521, R525, R526, R527, R528, R529, R532). -/
def Obligations.MemoryIsAccessedRefreshedFilledAndTrained : Prop :=
  (∀ (c : Fin 12) (x : MemReq) (r : MemResult) (s : State), chanOf x.addr = c.val → (s.mcOf c).panic = [] →
    (tabGet (dflt {}) s.arb (100 + c)).grant = some x.port →
    ∃ t, exec (.dramAccessGrant c [x] r) s = .next t ∧
      (s.outOfRange x.addr 64 = false ∧ (x.write = true ∨ s.dramBad (x.addr / 64 * 64) 64 = false ∧ r = .good) →
        tabGet (dflt none) (t.mcOf c).open_ (s.bankOf x.addr) = some (s.rowOf x.addr) ∧ t.mem = s.mem ∧ t.badLine = s.badLine) ∧
      (s.outOfRange x.addr 64 = false ∧ x.write = false ∧ s.dramBad (x.addr / 64 * 64) 64 = false ∧ r = .uncorrectedInline ∧
          s.inlineAt x.addr = true ∧ s.on (Pg.MC c) Fd.MC_STAT_MARGIN_LOST = false →
        tabGet (dflt false) t.badLine (x.addr / 64) = true ∧ t.rd Pg.MCG Rg.MCG_ERR_ADDR_LO = BitVec.ofNat 32 x.addr) ∧
      (s.outOfRange x.addr 64 = true → (t.mcOf c).open_ = (s.mcOf c).open_ ∧ t.on Pg.MCG Fd.MCG_STAT_RANGE_SEEN = true)) ∧
  (∀ (c : Fin 12) (b : Fin 32) (s : State), ∃ t, exec (.rowIdleClose c b) s = .next t ∧ { t with mc := s.mc } = s ∧
    tabGet (dflt none) (t.mcOf c).open_ b = none ∧
    (∀ k, k ≠ b.val → tabGet (dflt none) (t.mcOf c).open_ k = tabGet (dflt none) (s.mcOf c).open_ k) ∧
    (∀ k, k ≠ c.val → t.mcOf k = s.mcOf k)) ∧
  (∀ (l : List TrackRead) (s : State), l.length ≤ 12 → (∀ x ∈ l, x.limit = false ∧ x.writeLinkErr = false) →
    ∃ t, exec (.refreshWindow l) s = .next t ∧ (∀ c, c < 12 → (t.mcOf c).open_ = []) ∧
      (s.mcg.windows + 1 < s.fld Pg.MCG Fd.MCG_REF_CTL_TRACK_INTV → t.mcg.windows = s.mcg.windows + 1 ∧ t.regs = s.regs) ∧
      (s.fld Pg.MCG Fd.MCG_REF_CTL_TRACK_INTV ≤ s.mcg.windows + 1 → t.mcg.windows = 0 ∧
        ∀ c x, l[c]? = some x → t.fld (Pg.MC c) Fd.MC_STAT_MR4_RATE = x.mr4 % 2 ^ Fd.MC_STAT_MR4_RATE.len ∧
          (s.on Pg.MCG Fd.MCG_TRAIN_CTL_TRACK_EN = true →
            (t.mcOf c).move0 = trackStep (s.mcOf c).move0 x.drift0 ∧ (t.mcOf c).move1 = trackStep (s.mcOf c).move1 x.drift1))) ∧
  (∀ (o : Owner) (w : Word) (s : State), s.access o Pg.MCG = .granted → s.mode = .idle ∨ s.mode = .setup →
    ∃ t, exec (.eccInit o w) s = .next t ∧ ∀ n, n < 8 →
      t.on Pg.MCG ⟨Rg.MCG_ECC_CTL, 8 + n, 1⟩ =
        (s.on Pg.MCG ⟨Rg.MCG_ECC_CTL, 8 + n, 1⟩ || (tbit w.toNat n && s.on Pg.MCG (Fd.MCG_ECC_RGN_EN n)))) ∧
  (∀ (n : Fin 8) (s : State), s.memOk = true → s.on Pg.MCG ⟨Rg.MCG_ECC_CTL, 8 + n, 1⟩ = true →
    let lo := s.fld Pg.MCG (Fd.MCG_ECC_RGN_BASE n) * 2 ^ 26
    let hi := lo + s.fld Pg.MCG (Fd.MCG_ECC_RGN_SIZE n) * 2 ^ 26
    ∃ t, exec (.eccInitDone n) s = .next t ∧ t.on Pg.MCG ⟨Rg.MCG_ECC_CTL, 8 + n, 1⟩ = false ∧
      ∀ a, t.dram a 1 = if lo ≤ a ∧ a < hi then [0] else s.dram a 1) ∧
  (∀ (o : Owner) (w : Word) (s : State), s.access o Pg.MCG = .granted → wf w 0 1 = 1 →
    ∃ t, exec (.retrain o w) s = .next t ∧
      ((s.mode = .idle ∨ s.mode = .setup) ∧ s.trainCfgOk = true →
        t.fld Pg.MCG Fd.MCG_TRAIN_STAT_STATE = 1 ∧ t.fld Pg.MCG Fd.MCG_TRAIN_STAT_RESULT = 0) ∧
      (s.mode ≠ .idle ∧ s.mode ≠ .setup → t.fld Pg.MCG Fd.MCG_TRAIN_STAT_RESULT = 1 ∧
        t.fld Pg.MCG Fd.MCG_TRAIN_STAT_STATE = s.fld Pg.MCG Fd.MCG_TRAIN_STAT_STATE)) ∧
  (∀ (l : List (Option MarginRead)) (s : State), l.length ≤ 12 → s.fld Pg.MCG Fd.MCG_TRAIN_STAT_STATE = 1 →
    ∃ t, exec (.retrainDone l) s = .next t ∧
      t.trained = [Rg.MCG_CFG, Rg.MCG_TIMING0, Rg.MCG_TIMING1, Rg.MCG_TIMING2, Rg.MCG_REF_CTL].map (fun o => s.rd Pg.MCG o) ∧
      t.fld Pg.MCG Fd.MCG_TRAIN_STAT_STATE = 2 ∧
      (none ∉ l → ∀ c, c < l.length → t.on (Pg.MC c) Fd.MC_STAT_TRAINED = true ∧ t.on (Pg.MC c) Fd.MC_STAT_MARGIN_LOST = false))

/-- A two-wire controller runs a command to its end, its abort or its retry (R585, R586, R591, R592, R593, R594, R595, R596). -/
def Obligations.TwoWireControllersRunTheirCommands : Prop :=
  (∀ (o : Owner) (n : Fin 4) (w : Word) (s : State), s.access o (Pg.TWL n) = .granted → wf w 25 2 = 1 →
    ∃ t, exec (.twlGo o n w) s = .next t ∧
      (s.twlRefuses n w = false → (t.twlOf n).cmd = some w ∧ (t.twlOf n).wait = false ∧ t.on (Pg.TWL n) Fd.TWL_STAT_BUSY = true) ∧
      (s.twlRefuses n w = true → t.twlOf n = s.twlOf n ∧ t.on (Pg.TWL n) Fd.TWL_STAT_CMD_REFUSED = true)) ∧
  (∀ (o : Owner) (n : Fin 4) (w c : Word) (s : State), s.access o (Pg.TWL n) = .granted → wf w 25 2 = 2 →
    s.on (Pg.TWL n) Fd.TWL_STAT_BUSY = true → (s.twlOf n).cmd = some c →
    ∃ t, exec (.twlAbort o n w) s = .next t ∧ (t.twlOf n).cmd = none ∧ t.on (Pg.TWL n) Fd.TWL_STAT_BUSY = false ∧
      t.on (Pg.TWL n) Fd.TWL_STAT_DONE = true ∧ t.fifoOf (2 * n + 1) = (s.fifoOf (2 * n + 1)).drop (wf c 8 8)) ∧
  (∀ (n : Fin 4) (nack : Bool) (data : List Byte) (c : Word) (s : State), (s.twlOf n).cmd = some c → (s.twlOf n).wait = false →
    (s.twlOf n).got = 0 → (s.twlOf n).rest = [] → nack = true ∨ (data.length = wf c 16 8 ∧ (s.fifoOf (2 * n)).length + data.length ≤ 16) →
    ∃ t, exec (.twlCmdDone n nack data) s = .next t ∧ (t.twlOf n).cmd = none ∧ t.on (Pg.TWL n) Fd.TWL_STAT_BUSY = false ∧
      t.on (Pg.TWL n) Fd.TWL_STAT_DONE = true ∧ (nack = true → t.on (Pg.TWL n) Fd.TWL_STAT_NACK = true) ∧
      t.fifoOf (2 * n) = s.fifoOf (2 * n) ++ (if nack then [] else data)) ∧
  (∀ (n : Fin 4) (b : Fin 256) (c : Word) (s : State), (s.twlOf n).cmd = some c → (s.twlOf n).wait = false →
    ∃ t, exec (.twlArbLost n b) s = .next t ∧ (t.twlOf n).cmd = some c ∧ (t.twlOf n).wait = true ∧
      t.on (Pg.TWL n) Fd.TWL_STAT_ARB_LOST = true ∧ t.fld (Pg.TWL n) Fd.TWL_STAT_ARB_BYTE = b) ∧
  (∀ (n : Fin 4) (c : Word) (s : State), (s.twlOf n).cmd = some c → (s.twlOf n).wait = true →
    let r := s.fld (Pg.TWL n) Fd.TWL_STAT_RETRIES
    ∃ t, exec (.twlRetry n) s = .next t ∧
      (r < s.fld (Pg.TWL n) Fd.TWL_CTL_RETRY → (t.twlOf n).cmd = some c ∧ (t.twlOf n).wait = false ∧
        t.fld (Pg.TWL n) Fd.TWL_STAT_RETRIES = r + 1) ∧
      (s.fld (Pg.TWL n) Fd.TWL_CTL_RETRY ≤ r → (t.twlOf n).cmd = none ∧ t.on (Pg.TWL n) Fd.TWL_STAT_BUSY = false)) ∧
  (∀ (o : Owner) (n : Fin 4) (w : Word) (s : State), s.access o (Pg.TWL n) = .granted → wf w 14 1 = 1 →
    ∃ t, exec (.twlReset o n w) s = .next t ∧ t.fifoOf (2 * n) = [] ∧ t.fifoOf (2 * n + 1) = [] ∧ (t.twlOf n).cmd = none ∧
      t.rd (Pg.TWL n) Rg.TWL_STAT = 0) ∧
  (∀ (n : Fin 4) (freed : Bool) (s : State), s.on (Pg.TWL n) Fd.TWL_CTL_EN = true → (s.twlOf n).fresh = true →
    ∃ t, exec (.twlBusClear n freed) s = .next t ∧ (t.twlOf n).fresh = false ∧
      t.fld (Pg.TWL n) ⟨Rg.TWL_CNT, 24, 8⟩ = satN 8 (s.fld (Pg.TWL n) ⟨Rg.TWL_CNT, 24, 8⟩ + 1) ∧
      t.on (Pg.TWL n) Fd.TWL_STAT_BUS_STUCK = (!freed || s.on (Pg.TWL n) Fd.TWL_STAT_BUS_STUCK)) ∧
  (∀ (o : Owner) (n : Fin 4) (k : Fin 2) (w : Word) (s : State), s.access o (Pg.TWL n) = .granted →
    ∃ t, exec (.twlTimingWrite o n k w) s = .next t ∧
      (s.on (Pg.TWL n) Fd.TWL_CTL_EN = false ∧ zeroTiming w = false → t.rd (Pg.TWL n) (Rg.TWL_TIM0 + 4 * k) = w ∧
        regsKept [Pg.TWL n * 4096 + (Rg.TWL_TIM0 + 4 * k)] s t) ∧
      (s.on (Pg.TWL n) Fd.TWL_CTL_EN = true ∨ zeroTiming w = true → t.on (Pg.TWL n) Fd.TWL_STAT_CFG_REFUSED = true ∧
        t.rd (Pg.TWL n) (Rg.TWL_TIM0 + 4 * k) = s.rd (Pg.TWL n) (Rg.TWL_TIM0 + 4 * k))) ∧
  (∀ (n : Fin 4) (data : List Byte) (rd : Nat) (s : State), s.blockOn (Pg.TWL n) Fd.TWL_CTL_EN = true →
    s.on (Pg.TWL n) Fd.TWL_CTL_TGT_EN = true → twlNoAddr (s.fld (Pg.TWL n) Fd.TWL_CTL_TGT_ADDR) = false → (s.fifoOf (2 * n)).length ≤ 16 →
    ∃ t, exec (.twlTargetXfer n data rd) s = .next t ∧ t.on (Pg.TWL n) Fd.TWL_STAT_TGT_HIT = true ∧
      (rd = 0 → t.fifoOf (2 * n) = (s.fifoOf (2 * n) ++ data).take 16) ∧
      (0 < rd → t.fifoOf (2 * n + 1) = (s.fifoOf (2 * n + 1)).drop rd ∧ ∃ m, t.out = s.out ++ m ++ [.twoWire (Pg.TWL n)
        ((s.fifoOf (2 * n + 1)).take rd ++ List.replicate (rd - (s.fifoOf (2 * n + 1)).length) 0xFF)])) ∧
  (∀ (b : Fin 4) (s : State), s.mode ≠ .boot → s.blockOn (Pg.TWL b) Fd.TWL_CTL_EN = true →
    ∃ t, exec (.sclStretchTimeout b.castSucc) s = .next t ∧ (t.twlOf b).cmd = none ∧ t.fifoOf (2 * b) = [] ∧ t.fifoOf (2 * b + 1) = [] ∧
      t.on (Pg.TWL b) Fd.TWL_STAT_TIMEOUT = true ∧ t.on (Pg.TWL b) Fd.TWL_STAT_BUSY = false)

/-- The management target answers its address, register commands and mailbox commands (R586, R588, R589, R590). -/
def Obligations.ManagementTargetAnswers : Prop :=
  (∀ (a : Fin 128) (s : State), ∃ t, exec (.mtwiAddress a) s = .next t ∧
    (s.mode ≠ .boot ∧ s.blockOn Pg.MTWI Fd.MTWI_CTL_EN = true ∧ a.val = s.mtwiAddr → t.on Pg.MTWI Fd.MTWI_STAT_BUSY = true ∧
      t.on Pg.MTWI Fd.MTWI_BUS_STAT_BUS_BUSY = true ∧ { t with regs := s.regs } = s ∧
      regsKept [Pg.MTWI * 4096 + Rg.MTWI_STAT, Pg.MTWI * 4096 + Rg.MTWI_BUS_STAT] s t) ∧
    (a.val ≠ s.mtwiAddr → t = s)) ∧
  (∀ (ofs : Word) (data : List Byte) (rd : Nat) (s : State), s.on Pg.MTWI Fd.MTWI_STAT_BUSY = true →
    ∃ t, exec (.mtwiRegCmd ofs data rd) s = .next t ∧
      (ofs.toNat % 4 ≠ 0 → t.on Pg.MTWI Fd.MTWI_STAT_BAD_CMD = true ∧ t.on Pg.MTWI Fd.MTWI_STAT_BUSY = false ∧ t.mem = s.mem ∧
        t.fifo = s.fifo ∧ pagesKept [Pg.MTWI, Pg.PCIE] s t) ∧
      (ofs.toNat % 4 = 0 ∧ s.mode ≠ .boot ∧ (pageAt (ofs.toNat / 4096)).isSome = true ∧ ofs.toNat % 4096 < 0x40 ∧ data = [] ∧ rd = 4 →
        t.out = s.out ++ [.twoWire Pg.MTWI (leBytes 4 (s.viewReg (ofs.toNat / 4096) (ofs.toNat % 4096)).toNat)] ∧
        t.on Pg.MTWI Fd.MTWI_STAT_BUSY = false) ∧
      (∀ b0 b1 b2 b3 : Byte, data = [b0, b1, b2, b3] → rd = 0 → s.mode ≠ .boot → (pageAt (ofs.toNat / 4096)).isSome = true →
        let p := ofs.toNat / 4096
        let v : Word := BitVec.ofNat 32 (leNat data)
        (ofs.toNat % 4096 = Rg.HDR_IRQ_MASK → t.rd p Rg.HDR_IRQ_MASK = (s.writeReg p Rg.HDR_IRQ_MASK v).rd p Rg.HDR_IRQ_MASK ∧
          t.on Pg.MTWI Fd.MTWI_STAT_BUSY = false) ∧
        (ofs.toNat % 4 = 0 ∧ s.refuses .mgmt ofs.toNat v = true → t.on Pg.MTWI Fd.MTWI_STAT_REFUSED = true))) ∧
  (∀ (cmd : Fin 256) (data : List Byte) (rd : Nat) (s : State), s.on Pg.MTWI Fd.MTWI_STAT_BUSY = true →
    ∃ t, exec (.mtwiMboxCmd cmd data rd) s = .next t ∧ t.on Pg.MTWI Fd.MTWI_STAT_BUSY = false ∧
      (cmd.val = 2 ∧ s.on Pg.MTWI Fd.MTWI_CTL_MBOX_EN = true ∧ (s.fifoOf 8).length + data.length ≤ 16 ∧ rd ≤ (s.fifoOf 9).length →
        t.fifoOf 8 = s.fifoOf 8 ++ data ∧ t.fifoOf 9 = (s.fifoOf 9).drop rd ∧
        t.out = s.out ++ (if rd = 0 then [] else [.twoWire Pg.MTWI ((s.fifoOf 9).take rd)])) ∧
      (cmd.val ≠ 2 ∨ s.on Pg.MTWI Fd.MTWI_CTL_MBOX_EN = false → t.fifo = s.fifo ∧ t.on Pg.MTWI Fd.MTWI_STAT_BAD_CMD = true)) ∧
  (∀ (s : State), s.mode ≠ .boot → s.blockOn Pg.MTWI Fd.MTWI_CTL_EN = true →
    ∃ t, exec (.sclStretchTimeout 4) s = .next t ∧ t.fifoOf 8 = [] ∧ t.fifoOf 9 = [] ∧ t.on Pg.MTWI Fd.MTWI_STAT_TIMEOUT = true)

/-- A link is brought up by its locks and markers, and its timers fail it or restart it (R128, R130, R131, R132, R133, R149, R164,
R166, R192, R193). -/
def Obligations.LinksComeUpAndTimeOut : Prop :=
  (∀ (q : Fin 16) (m : Fin 4) (c : EqCodes) (kHz : Fin 1048576) (s : State),
    let p := s.portOfQuad q
    ∃ t, exec (.laneLockGained q ⟨m, c, kHz⟩) s = .next t ∧
      (s.linkState p ≠ lkDisabled ∧ s.linkState p ≠ lkFailed → t.on (Pg.CP q) (Fd.CP_LANE_STAT_LOCK m) = true ∧
        (s.laneOf q m = 0 → p < 16 → t.on Pg.CLK ⟨Rg.CLK_LOCK0, p, 1⟩ = true ∧ t.rd Pg.CLK (Rg.CLK_FREQ p) = BitVec.ofNat 32 kHz)) ∧
      (s.linkState p = lkBase ∧ s.laneOf q m = 0 ∧ (s.link_ p).req = none ∧ (s.link_ p).identN < 8 →
        (t.link_ p).req = some ⟨s.nextTag p, 4 * (s.link_ p).identN, false, none⟩ ∧
        t.out = s.out ++ [.uplink p (uplinkSyms 0x82 (s.nextTag p) 0 0 (4 * (s.link_ p).identN) 0)]) ∧
      (s.linkState p = lkRate ∧ s.laneOf q m < s.lanes p ∧ (∀ k, k < s.lanes p → k ≠ s.laneOf q m → s.locked p k = true) →
        t.linkState p = lkTrain ∧ (t.link_ p).trainCtl = s.rd (Pg.CP p) Rg.CP_TRAIN_CTL)) ∧
  (∀ (q : Fin 16) (m : Fin 4) (s : State),
    let p := s.portOfQuad q
    s.linkState p = lkAlign ∨ s.linkState p = lkActive → s.laneOf q m < s.lanes p →
    ∃ t, exec (.laneLockLost q m) s = .next t ∧ t.on (Pg.CP q) (Fd.CP_LANE_STAT_LOCK m) = false ∧
      t.fld (Pg.CP p) Fd.CP_ERR_CNT2_LOCK_LOSS = satN 8 (s.fld (Pg.CP p) Fd.CP_ERR_CNT2_LOCK_LOSS + 1) ∧
      (s.jkCovers q m = false → t.linkState p = lkBase) ∧
      (s.jkCovers q m = true → t.linkState p = s.linkState p ∧
        (s.jkState q = jkStandby → (t.jk q).stage = .takeover ∧ (t.jk q).lane = m))) ∧
  (∀ (p : Fin 16) (marks : List (Option (Nat × Nat))) (s : State), (∀ k, k < 2 → (s.jk (p + k)).stage = .none) →
    let n := s.lanes p
    let lost : Prop := s.on (Pg.CP p) Fd.CP_LINK_STAT_DESKEW_OK = true ∧
      ∃ k, k < n ∧ markGood (marks.take n) k = false ∧ 1 ≤ tabGet (dflt 0) (s.link_ p).badMarks k
    ∃ t, exec (.alignMarker p marks) s = .next t ∧
      (s.linkState p = lkAlign → ¬lost →
        t.on (Pg.CP p) Fd.CP_LINK_STAT_DESKEW_OK = (marksAligned marks n || s.on (Pg.CP p) Fd.CP_LINK_STAT_DESKEW_OK) ∧
        (marksAligned marks n = true ∧ 1 ≤ (s.link_ p).goodMarks → t.linkState p = lkActive ∧
          t.out = s.out ++ [.uplink p (uplinkSyms 0x85 0 3 n (s.fld (Pg.CP p) Fd.CP_PORT_CTL_RATE) 0)]) ∧
        (marksAligned marks n = false ∨ (s.link_ p).goodMarks = 0 → t.linkState p = lkAlign ∧ t.out = s.out)) ∧
      (s.linkState p = lkAlign ∨ s.linkState p = lkActive → lost →
        t.linkState p = lkAlign ∧ t.on (Pg.CP p) Fd.CP_LINK_STAT_DESKEW_OK = false ∧ (t.link_ p).goodMarks = 0 ∧
        t.fld (Pg.CP p) Fd.CP_ERR_CNT2_AM_LOSS = satN 8 (s.fld (Pg.CP p) Fd.CP_ERR_CNT2_AM_LOSS + 1))) ∧
  (∀ (p : Fin 16) (s : State), s.linkState p ≠ lkDisabled →
    let n := ((s.link_ p).hbCount + 1) % 2 ^ 32
    let st := s.linkState p
    ∃ t, exec (.heartbeat p) s = .next t ∧ (t.link_ p).hbCount = n ∧ (t.link_ p).hbSeen = false ∧
      (t.link_ p).hbDue = (st == lkBase || st == lkAlign || st == lkActive) ∧
      t.fld (Pg.CP p) Fd.CP_ERR_CNT2_HB_MISS = (if (s.link_ p).hbDue && !(s.link_ p).hbSeen
        then satN Fd.CP_ERR_CNT2_HB_MISS.len (s.fld (Pg.CP p) Fd.CP_ERR_CNT2_HB_MISS + 1) else s.fld (Pg.CP p) Fd.CP_ERR_CNT2_HB_MISS) ∧
      t.out = s.out ++ [.uplink p (uplinkSyms 0x83 0 0 0 0 n)]) ∧
  (∀ (p : Fin 16) (s : State),
    let base := Output.uplink p (uplinkSyms 0x85 0 0 (s.lanes p) (s.fld (Pg.CP p) Fd.CP_PORT_CTL_RATE) 0)
    (s.linkState p = lkAlign ∨ s.linkState p = lkActive →
      ∃ t, exec (.statusTimeout p) s = .next t ∧ t.linkState p = lkBase ∧ (s.out ++ [base]) <+: t.out) ∧
    (s.linkState p = lkFailed → ∃ t, exec (.failedRetry p) s = .next t ∧ t.linkState p = lkBase ∧ (s.out ++ [base]) <+: t.out) ∧
    (s.linkState p = lkBase → s.locked p 0 = false → ∃ t, exec (.noCameraTimeout p) s = .next t ∧
      t.on (Pg.CP p) Fd.CP_LINK_STAT_NO_CAMERA = true ∧ t.out = s.out ++ [base] ∧ regsKept [Pg.CP p * 4096 + Rg.CP_LINK_STAT] s t) ∧
    (s.linkState p = lkFailed ∨ (s.linkState p = lkBase ∧ s.on (Pg.CP p) Fd.CP_LINK_STAT_NO_CAMERA = true) →
      exec (.linkBaseResend p) s = .next (s.emit base)) ∧
    (s.linkState p = lkRate → ∃ t, exec (.lockTimeout p) s = .next t ∧ t.linkState p = lkFailed ∧
      t.fld (Pg.CP p) Fd.CP_LINK_STAT_CAUSE = causeLock) ∧
    (s.linkState p = lkTrain → ∃ t, exec (.trainTimeout p) s = .next t ∧ t.linkState p = lkFailed ∧
      t.fld (Pg.CP p) Fd.CP_LINK_STAT_CAUSE = causeTrain) ∧
    (s.linkState p = lkAlign → ∃ t, exec (.alignTimeout p) s = .next t ∧ t.linkState p = lkFailed ∧
      t.fld (Pg.CP p) Fd.CP_LINK_STAT_CAUSE = causeAlign))

/-- A lane is trained by requests, acknowledgements and scans (R158, R161, R162, R172, R174, R175, R176, R180, R183). -/
def Obligations.LanesAreTrained : Prop :=
  (∀ (p : Fin 16) (m8 state tg status pre8 post8 crc : Byte) (code pre n : Nat) (s : State), s.linkState p = lkTrain →
    let ts : TrainSet := ⟨[.tsk, .data m8, .data state, .data tg, .data status, .data pre8, .data post8, .data crc]⟩
    let m := m8.toNat
    let tag := (s.train_ p m).tag % 255 + 1
    m < s.lanes p → (s.train_ p m).out = some (tg.toNat, code, pre, n) →
    (crc.toNat ≠ crc8 [m8, state, tg, status, pre8, post8] → exec (.trainingOrderedSet p ts) s = .next s) ∧
    (crc.toNat = crc8 [m8, state, tg, status, pre8, post8] → ∃ t, exec (.trainingOrderedSet p ts) s = .next t ∧
      (∀ k, (s.train_ p m).phase = .sweep k → status.toNat ≠ 2 → status.toNat ≠ 3 → (t.train_ p m).scanDue = true ∧
        (t.train_ p m).out = none ∧ (t.train_ p m).phase = .sweep k ∧ t.out = s.out) ∧
      (∀ k, (s.train_ p m).phase = .sweep k → k < 7 → status.toNat = 2 ∨ status.toNat = 3 → (t.train_ p m).phase = .sweep (k + 1) ∧
        (t.train_ p m).out = some (tag, 1, k + 1, 1) ∧ t.out = s.out ++ [.uplink p (uplinkSyms 0x84 tag m 1 (k + 1) 0)]) ∧
      ((s.train_ p m).phase = .finish → (t.train_ p m).phase = .trained ∧
        t.fld (Pg.CP (p + m / 4)) (Fd.CP_LANE_STAT_PRE (m % 4)) = pre8.toNat % 16 ∧
        t.fld (Pg.CP (p + m / 4)) (Fd.CP_LANE_STAT_POST (m % 4)) = post8.toNat % 32 ∧
        ((∀ k, k < s.lanes p → k ≠ m → (s.train_ p k).phase = .trained) → t.linkState p = lkAlign)))) ∧
  (∀ (p : Fin 16) (m : Fin 8) (c : EqCodes) (s : State), s.linkState p = lkTrain → (s.train_ p m).scanDue = true →
    let q := p.val + m.val / 4
    ∃ t, exec (.trainScanStart p ⟨m, c⟩) s = .next t ∧ (t.train_ p m).scanDue = false ∧ (t.train_ p m).scanning = true ∧
      (t.train_ p m).phase = (s.train_ p m).phase ∧ t.out = s.out ∧
      regsKept ((List.range 4).map fun k => Pg.CP q * 4096 + Rg.CP_LANE_STAT k) s t ∧
      ((s.train_ p m).phase ≠ .joker → s.on (Pg.CP q) (Fd.CP_LANE_STAT_SLICE (m.val % 4)) = false →
        t.fld (Pg.CP q) (Fd.CP_LANE_STAT_CTLE (m.val % 4)) = c.ctle)) ∧
  (∀ (p : Fin 16) (m : Fin 8) (x : EyeScan) (s : State), s.linkState p = lkTrain → (s.train_ p m).scanning = true →
    let r := eyeOf 2 4 (2 ^ 16) (s.fld (Pg.CP p) Fd.CP_EYE_CTL_ERR_LIM) x
    let works := s.trainFld p Fd.CP_TRAIN_CTL_MIN_W ≤ r.w ∧ s.trainFld p Fd.CP_TRAIN_CTL_MIN_H ≤ r.h
    let tag := (s.train_ p m).tag % 255 + 1
    ∃ t, exec (.trainScanDone p m x) s = .next t ∧
      (∀ k, (s.train_ p m).phase = .sweep k → k < 7 → (t.train_ p m).phase = .sweep (k + 1) ∧ (t.train_ p m).out = some (tag, 1, k + 1, 1) ∧
        t.out = s.out ++ [.uplink p (uplinkSyms 0x84 tag m 1 (k + 1) 0)] ∧
        (works ∧ (∀ b y, (s.train_ p m).best = some (b, y) → y < r.w * r.h) → (t.train_ p m).best = some (k, r.w * r.h)) ∧
        (¬works → (t.train_ p m).best = (s.train_ p m).best)) ∧
      ((s.train_ p m).phase = .fixed ∧ works → (t.train_ p m).phase = .finish ∧ (t.train_ p m).out = some (tag, 6, 0, 1))) ∧
  (∀ (p : Fin 16) (m : Fin 8) (tag code pre n : Nat) (s : State), s.linkState p = lkTrain → (s.train_ p m).out = some (tag, code, pre, n) →
    ∃ t, exec (.eqReqResend p m) s = .next t ∧
      (n < 3 → (t.train_ p m).out = some (tag, code, pre, n + 1) ∧ t.out = s.out ++ [.uplink p (uplinkSyms 0x84 tag m code pre 0)] ∧ t.regs = s.regs) ∧
      (3 ≤ n → t.linkState p = lkFailed ∧ t.fld (Pg.CP p) Fd.CP_LINK_STAT_CAUSE = causeEqNoAck ∧
        t.fld (Pg.CP p) Fd.CP_LINK_STAT_CAUSE_LANE = m))

/-- Eye scans, recalibrations through the Joker, and substitution (R182, R183, R184, R187, R188, R189, R190, R191, R194, R195,
R197). -/
def Obligations.JokersCarryAndReplaceLanes : Prop :=
  (∀ (q : Fin 16) (m : Fin 4) (x : EyeScan) (s : State), s.mode ≠ .boot →
    let p := s.portOfQuad q
    s.linkState p = lkBase ∨ s.linkState p = lkAlign ∨ s.linkState p = lkActive → s.laneOf q m < s.lanes p →
    let ui := 2 ^ (16 + s.fld (Pg.CP p) Fd.CP_EYE_CTL_DWELL)
    let lim := s.fld (Pg.CP p) Fd.CP_EYE_CTL_ERR_LIM
    let w := if lim < Nat.min x.centre ui then 0 else 1 + openRun ui lim 31 x.right + openRun ui lim 32 x.left
    let low := decide (w < s.fld (Pg.CP p) Fd.CP_EYE_CTL_WARN_W)
    ∃ t, exec (.eyeScanDone q m x) s = .next t ∧ t.fld (Pg.CP q) (Fd.CP_LANE_STAT_EYE_W m) = w ∧
      t.fld (Pg.CP q) (Fd.CP_LANE_STAT_EYE_H m) =
        (if lim < Nat.min x.centre ui then 0 else 2 * (openRun ui lim 127 x.up + openRun ui lim 127 x.down)) ∧
      t.on (Pg.CP q) (Fd.CP_LANE_STAT_EYE_LOW m) = low ∧
      t.raised = s.raised ++ (if low then [(evCp p 2, { time := s.time })] else [])) ∧
  (∀ (q : Fin 16) (m : Fin 4) (s : State), s.jkState q = jkIdle → (s.jk q).stage = .none → (s.jk q).waiting = 0 →
    (s.fld (Pg.CP (s.portOfQuad q)) Fd.CP_EYE_CTL_CAL_PERIOD ≠ 0 → s.on (Pg.CP q) Fd.CP_JOKER_CTL_EN = true →
      ∃ t, exec (.recalPeriod q m) s = .next t ∧ (t.jk q).stage = .selfCal true ∧ (t.jk q).lane = m ∧ t.jkState q = jkIdle) ∧
    (∀ (o : Owner) (w : Word), s.access o (Pg.CP q) = .granted → wf w 0 1 = 1 → wf w 4 2 = 0 → wf w 8 4 = 2 ^ m.val →
      ∃ t, exec (.jokerCalNow o q w) s = .next t ∧ (t.jk q).stage = .selfCal true ∧ (t.jk q).lane = m ∧ t.jkState q = jkIdle)) ∧
  (∀ (q : Fin 16) (u : Fin 64) (a b : List Nat) (fig : Int) (s : State), u.val = q.val → (s.jk q).stage = .selfCal true →
    (s.jk q).lane < 4 → codesAgree a b = true →
    ∃ t, exec (.calAttemptDone 4 u a b fig) s = .next t ∧ (t.jk q).stage = .matching ∧ t.jkState q = jkStandby ∧
      t.jkLane q = (s.jk q).lane ∧ t.on (Pg.CP q) Fd.CP_JOKER_STAT_MATCHED = false) ∧
  (∀ (q : Fin 16) (run : Nat) (c : EqCodes) (s : State),
    (s.jkState q = jkStandby → ∃ t, exec (.jokerMatched ⟨q, run, c⟩) s = .next t ∧
      t.on (Pg.CP q) Fd.CP_JOKER_STAT_MATCHED = decide (4096 ≤ run) ∧
      (t.jk q).stage = if (s.jk q).stage = .matching ∧ 4096 ≤ run then .takeover
        else if (s.jk q).stage = .takeover ∧ run < 4096 ∧ s.on (Pg.CP q) (Fd.CP_LANE_STAT_LOCK (s.jk q).lane) = true then .matching
        else (s.jk q).stage) ∧
    ((s.jk q).stage = .matching ∧ s.jkState q ≠ jkIdle ∨ (s.jk q).stage = .selfCal true ∧ s.on (Pg.CP q) Fd.CP_JOKER_CTL_STANDBY_EN = false →
      (s.jk q).waiting = 0 → ∃ t, exec (.jokerMatchTimeout q) s = .next t ∧ (t.jk q).stage = .none ∧
      t.on (Pg.CP q) Fd.CP_JOKER_STAT_CAL_ABORT = true) ∧
    ((s.jk q).stage = .adapting → ∃ t, exec (.mainSliceMatched ⟨q, run, c⟩) s = .next t ∧
      (t.jk q).stage = (if 4096 ≤ run then .handback else .adapting) ∧
      t.on (Pg.CP q) Fd.CP_JOKER_STAT_MATCHED = decide (4096 ≤ run))) ∧
  (∀ (q : Fin 16) (m : Fin 4) (ok : Bool) (s : State), (s.jk q).stage = .calibrating → (s.jk q).lane = m →
    ∃ t, exec (.mainSliceCalDone q m ok) s = .next t ∧
      (ok = true → (t.jk q).stage = .adapting ∧ t.regs = s.regs) ∧
      (ok = false ∧ (s.jk q).release = false ∧ s.on (Pg.CP q) Fd.CP_JOKER_CTL_EN = true ∧ s.jkState q = jkCarrying ∧ s.jkLane q = m →
        t.jkState q = jkSubst ∧ t.jkLane q = m ∧ t.on (Pg.CP q) ⟨Rg.CP_JOKER_STAT, 6 + m, 1⟩ = true ∧ (t.jk q).stage = .none)) ∧
  (∀ (o : Owner) (q : Fin 16) (w : Word) (s : State), s.access o (Pg.CP q) = .granted → wf w 0 1 = 1 → wf w 4 2 = 2 → wf w 8 4 = 0 →
    s.jkState q = jkSubst → (s.jk q).stage = .none →
    ∃ t, exec (.jokerRelease o q w) s = .next t ∧ (t.jk q).stage = .calibrating ∧ (t.jk q).release = true ∧ (t.jk q).lane = s.jkLane q) ∧
  (∀ (o : Owner) (q : Fin 16) (w : Word) (s : State), s.access o (Pg.CP q) = .granted → wf w 0 1 = 1 → wf w 4 2 = 1 → wf w 8 4 = 0 →
    s.jkState q = jkIdle → (s.jk q).stage = .none →
    let st := s.linkState (s.portOfQuad q)
    ∃ t, exec (.jokerForce o q w) s = .next t ∧
      (st ≠ lkAlign ∧ st ≠ lkActive → t.jkState q = jkSubst ∧ t.jkLane q = wf w 2 2) ∧
      (st = lkAlign ∨ st = lkActive → (t.jk q).stage = .selfCal true ∧ (t.jk q).force = true ∧ (t.jk q).lane = wf w 2 2))

/-- Camera register requests, and what a port's packets and deadlines bring (R143, R144, R149, R151, R170, R202, R206, R207,
R209, R211). -/
def Obligations.PortsTakeAnswersStatusAndLines : Prop :=
  (∀ (o : Owner) (p : Fin 16) (w : Word) (s : State), s.access o (Pg.CP p) = .granted → wf w 25 1 = 1 →
    s.on (Pg.CP p) Fd.CP_CAM_ACC_BUSY = false → (s.link_ p).req = none → s.linkState p = lkAlign ∨ s.linkState p = lkActive →
    ∃ t, exec (.camAccGo o p w) s = .next t ∧ t.on (Pg.CP p) Fd.CP_CAM_ACC_BUSY = true ∧
      (t.link_ p).req = some ⟨s.nextTag p, 4 * wf w 2 22, true, if wf w 24 1 = 1 then some (s.rd (Pg.CP p) Rg.CP_CAM_DATA).toNat else none⟩ ∧
      t.out = s.out ++ [.uplink p (uplinkSyms (if wf w 24 1 = 1 then 0x81 else 0x82) (s.nextTag p) 0 0 (4 * wf w 2 22)
        (if wf w 24 1 = 1 then (s.rd (Pg.CP p) Rg.CP_CAM_DATA).toNat else 0))]) ∧
  (∀ (p : Fin 16) (r : CamReq) (s : State), (s.link_ p).req = some r → r.host = true → s.linkState p ≠ lkBase →
    ∃ t, exec (.camRegTimeout p) s = .next t ∧ (t.link_ p).req = none ∧ t.on (Pg.CP p) Fd.CP_CAM_ACC_BUSY = false ∧
      t.fld (Pg.CP p) Fd.CP_CAM_ACC_RESULT = 4 ∧
      t.fld (Pg.CP p) Fd.CP_ERR_CNT2_REG_TIMEOUT = satN 8 (s.fld (Pg.CP p) Fd.CP_ERR_CNT2_REG_TIMEOUT + 1)) ∧
  (∀ (p : Fin 16) (pkt : DownPkt) (at_ tag result data : Nat) (r : CamReq) (s : State), s.linkState p = lkAlign ∨ s.linkState p = lkActive →
    readPacket pkt (s.linkState p) (s.fld (Pg.CP p) Fd.CP_PORT_CTL_DEPTH) (s.pTaps p) = .resp tag result data →
    (s.link_ p).req = some r → r.tag = tag → r.host = true →
    ∃ t, exec (.regResp p pkt at_) s = .next t ∧ (t.link_ p).req = none ∧ t.on (Pg.CP p) Fd.CP_CAM_ACC_BUSY = false ∧
      t.fld (Pg.CP p) Fd.CP_CAM_ACC_RESULT = result % 8 ∧
      (r.write = none ∧ result = 0 → t.rd (Pg.CP p) Rg.CP_CAM_DATA = BitVec.ofNat 32 data)) ∧
  (∀ (p : Fin 16) (pkt : DownPkt) (at_ : Nat) (c : Fld) (s : State),
    s.linkState p = lkBase ∨ s.linkState p = lkAlign ∨ s.linkState p = lkActive →
    readPacket pkt (s.linkState p) (s.fld (Pg.CP p) Fd.CP_PORT_CTL_DEPTH) (s.pTaps p) = .bad c →
    ∃ t, exec (.linePacket p pkt at_) s = .next t ∧ exec (.statusPacket p pkt at_) s = .next t ∧ exec (.regResp p pkt at_) s = .next t ∧
      t.fld (Pg.CP p) c = satN c.len (s.fld (Pg.CP p) c + 1) ∧ (t.intk p).bad = 7 ∧ (t.intk p).lines = (s.intk p).lines ∧
      regsKept [Pg.CP p * 4096 + c.off] s t) ∧
  (∀ (p : Fin 16) (pkt : DownPkt) (at_ flags temp ulErr count : Nat) (s : State),
    s.linkState p = lkBase ∨ s.linkState p = lkAlign ∨ s.linkState p = lkActive →
    readPacket pkt (s.linkState p) (s.fld (Pg.CP p) Fd.CP_PORT_CTL_DEPTH) (s.pTaps p) = .status flags temp ulErr count →
    ∃ t, exec (.statusPacket p pkt at_) s = .next t ∧ t.fld (Pg.CP p) Fd.CP_CAM_STAT_b16 = temp % 2 ^ Fd.CP_CAM_STAT_b16.len ∧
      t.fld (Pg.CP p) Fd.CP_CAM_STAT_b24 = ulErr % 2 ^ Fd.CP_CAM_STAT_b24.len ∧
      t.fld (Pg.CP p) Fd.CP_CAM_STAT_b0 = flags % 2 ^ Fd.CP_CAM_STAT_b0.len ∧
      (count = (s.link_ p).hbCount → (t.link_ p).hbSeen = true) ∧
      (tbit flags 2 = true → t.on (Pg.CP p) Fd.CP_LINK_STAT_CAM_FAULT = true)) ∧
  (∀ (p : Fin 16) (pkt : DownPkt) (at_ m n flags : Nat) (samples : List Nat) (l : CamLine) (c : Nat × Nat × Bool) (s : State),
    s.linkState p = lkActive →
    readPacket pkt (s.linkState p) (s.fld (Pg.CP p) Fd.CP_PORT_CTL_DEPTH) (s.pTaps p) = .line 0 m flags samples →
    tabGet (dflt 0) (s.link_ p).lastAcc 0 ≤ m → m < (s.link_ p).lastTrig →
    (s.intk p).next = some n → (s.intk p).lines = [l] → l.m = m → l.m = n + s.ofsAt p n → l.taps = [.open_, .open_] → l.credit = some c →
    (s.atNs at_).time ≤ l.deadline → n < (s.tgOf (s.pView p)).next → (s.view_ (s.pView p)).chg = none →
    ∃ t, exec (.linePacket p pkt at_) s = .next t ∧ (t.intk p).lines = [{ l with taps := [.present l.depth samples, .open_] }] ∧
      (t.intk p).next = some n ∧ tabGet (dflt 0) (t.link_ p).lastAcc 0 = m + 1) ∧
  (∀ (p : Fin 16) (at_ n : Nat) (l : CamLine) (s : State), (s.intk p).next = some n → (s.intk p).lines = [l] → l.m = n + s.ofsAt p n →
    l.taps = [.open_] → (s.view_ (s.pView p)).chg = none →
    ∃ t, exec (.tapDeadline p at_) s = .next t ∧
      ((s.atNs at_).time < l.deadline ∧ n < (s.tgOf (s.pView p)).next → t = s.atNs at_) ∧
      (l.deadline ≤ (s.atNs at_).time ∧ (s.tgOf (s.pView p)).next = n + 1 ∧ (s.tgOf (s.pView p)).running = true ∧ (s.tgOf (s.pView p)).waiting = none ∧
          p.val ∈ s.portsAt (s.pView p) n ∧ (s.intk p).bad = 0 ∧
          (s.intk p).gap = none ∧ n % 64 ≠ 63 ∧ l.credit = none ∧ s.commits = [] ∧ s.evf.data = [] ∧
          (s.view_ (s.pView p)).past = true ∧ (s.view_ (s.pView p)).begun = true ∧ (s.view_ (s.pView p)).endAt = none ∧ (s.view_ (s.pView p)).endRep = none ∧
          (s.view_ (s.pView p)).left = false →
        (t.intk p).next = some (n + 1) ∧ (t.intk p).gap = some (n, 1) ∧ (l.m = n → (t.intk p).lines = []) ∧
        (t.intk p).gaps = satN 16 ((s.intk p).gaps + 1) ∧ (t.intk p).miss = satN 8 ((s.intk p).miss + 1)))

/-- Dispatch, context loads, corrected lines and flat-field acquisitions of a pipeline (R219, R235, R236, R246, R248, R249,
R251, R252, R253, R255). -/
def Obligations.PipelinesDispatchLoadAndCorrect : Prop :=
  (∀ (g : Fin 8) (p : Nat) (u : IUnit) (k : Nat) (s : State), s.blockOn Pg.DLR Fd.DLR_CTL_EN = true → s.blockOn (Pg.PP g) Fd.PP_CTL_EN = true →
    s.dispatchReqs g = [p] → s.nextUnit p g = some (u, k) →
    let l := s.unitWords p u
    ∃ t, exec (.dispatchGrant g) s = .next t ∧
      ((tabGet (dflt {}) s.arb g).grant = none → (tabGet (dflt {}) t.arb g).grant = some p ∧ (t.pipe_ g).units = (s.pipe_ g).units ∧
        ((s.pipe_ g).set0 = none ∧ (s.pipe_ g).set1 = none ∧ (s.pipe_ g).units = [] →
          (if s.fld (Pg.PP g) Fd.PP_STAT_CUR_SET = 0 then (t.pipe_ g).set1 else (t.pipe_ g).set0) =
            some ⟨p, s.nextCopy p u.n, false, 0, []⟩)) ∧
      ((tabGet (dflt {}) s.arb g).grant = some p ∧ (∀ w ∈ l, w.spoilt = false) ∧ (s.intk p).next.isSome = true →
        (tabGet (dflt {}) t.arb g).grant = none ∧
        (t.pipe_ g).units = (s.pipe_ g).units ++
          [⟨p, k, u.run, u.n, u.count, s.stripeBody p u.n k u.body, s.ringQueue g p 0, (s.stripeWords p u k l).length⟩])) ∧
  (∀ (g : Fin 8) (s : State), s.blockOn Pg.DLR Fd.DLR_CTL_EN = false ∨ s.blockOn (Pg.PP g) Fd.PP_CTL_EN = false →
    exec (.dispatchGrant g) s = .next s) ∧
  (∀ (g : Fin 8) (r : Nat) (s : State), s.blockOn Pg.DLR Fd.DLR_CTL_EN = true → s.blockOn (Pg.PP g) Fd.PP_CTL_EN = true →
    s.dispatchReqs g = [] → (tabGet (dflt {}) s.arb g).grant = some r →
    ∃ t, exec (.dispatchGrant g) s = .next t ∧ (t.pipe_ g).dead = satN 8 ((s.pipe_ g).dead + 1) ∧ (t.pipe_ g).units = (s.pipe_ g).units ∧
      t.on Pg.DLR Fd.DLR_STAT_DEAD_SEEN = true) ∧
  (∀ (g : Fin 8) (s : State),
    let full (c : CtxSet) : CtxSet := if c.loaded then c else s.fillSet c
    ∃ t, exec (.contextLoadDone g) s = .next t ∧
      ((∀ k ∈ s.ctxNeeds g, ((s.pipe_ g).setOf k.1 k.2).isSome = true) →
        (t.pipe_ g).set0 = (s.pipe_ g).set0.map full ∧ (t.pipe_ g).set1 = (s.pipe_ g).set1.map full) ∧
      (t.pipe_ g).units = (s.pipe_ g).units ∧
      regsKept [Pg.PP g * 4096 + Rg.PP_STAT] s t) ∧
  (∀ (g : Fin 8) (u : Machine.PUnit) (rest : List Machine.PUnit) (s : State), s.blockOn (Pg.PP g) Fd.PP_CTL_EN = true → (s.pipe_ g).units = u :: rest →
    s.formable u.port u.stripe ((s.tapB u.port u.stripe).run != u.run) = false →
    0 < s.unitRoom u → s.eventWait (s.pView u.port) (u.n + s.unitRoom u - 1) = false →
    ∃ t, exec (.ppCorrectLine g) s = .next t ∧
      ((s.pipe_ g).setOf u.port (s.nextCopy u.port u.n) = none → (t.pipe_ g).units = u :: rest ∧ (t.pipe_ g).waited = true ∧ t.corr = s.corr ∧
        (t.pipe_ g).loads = if (s.pipe_ g).waited then (s.pipe_ g).loads else satN 8 ((s.pipe_ g).loads + 1)) ∧
      (∀ k c, (s.pipe_ g).setOf u.port (s.nextCopy u.port u.n) = some (k, true) → (s.pipe_ g).set k = some c →
        u.port < 16 → u.stripe < 8 → u.count = 1 → u.body = .gap → u.words = 0 →
        (s.tapB u.port u.stripe).run = u.run → (s.tapB u.port u.stripe).next = u.n → (s.tapB u.port u.stripe).lines = [] →
        s.pTaps u.port = 1 → c.delay 0 = 0 → (s.intk u.port).ended = none → s.commits = [] → s.jobVals = [] →
        (t.pipe_ g).units = rest ∧ t.corr_ u.port = s.corr_ u.port ++ [⟨u.n, u.stripe, Body.gap⟩])) ∧
  (∀ (o : Owner) (g : Fin 8) (w : Word) (s : State), s.access o (Pg.PP g) = .granted → wf w 10 1 = 1 →
    let p := wf w 0 4
    ∃ t, exec (.ffGo o g w) s = .next t ∧
      (∀ n, s.mode = .setup → s.ffBusy p = false → g.val ∈ (s.stripes p 0).map (s.pipeOf p) → (s.intk p).next = some n →
        (t.pipe_ g).ff = (s.pipe_ g).ff ++ [⟨p, wf w 4 2, wf w 6 4, wf w 12 12, (n + 63) / 64 * 64, 0, false, []⟩] ∧
        t.rd (Pg.PP g) Rg.PP_FF_STAT = 1) ∧
      (s.mode ≠ .setup ∨ s.ffBusy p = true ∨ g.val ∉ (s.stripes p 0).map (s.pipeOf p) →
        t.pipe = s.pipe ∧ t.fld (Pg.PP g) Fd.PP_FF_STAT_RESULT = 2)) ∧
  (∀ (g : Fin 8) (s : State),
    let seen (f : FfRun) : Bool := decide (2 ^ f.lg ≤ f.seen)
    ((s.pipe_ g).ff.find? seen = none → exec (.ffAcquireDone g) s = .next s) ∧
    (∀ f, (s.pipe_ g).ff.find? seen = some f → ∃ t, exec (.ffAcquireDone g) s = .next t ∧
      (t.pipe_ g).ff = (s.pipe_ g).ff.filter (fun e => e.port != f.port) ∧ t.fld (Pg.PP g) Fd.PP_FF_STAT_STATE = 3 ∧
      (f.lost = true → t.fld (Pg.PP g) Fd.PP_FF_STAT_RESULT = 3 ∧ t.window = s.window) ∧
      (f.lost = false ∧ f.phase = 0 → t.fld (Pg.PP g) Fd.PP_FF_STAT_RESULT = 1)))

/-- View lines are stitched, dot grids measured, tables accessed, registration windows measured and updated (R260, R262, R273, R275,
R280, R281, R290, R428). -/
def Obligations.ViewsAreStitchedAndRegistered : Prop :=
  (∀ (v : Fin 4) (s : State), s.mode = .setup → s.on Pg.STI Fd.HDR_PAGE_CTL_EN = true → s.on Pg.STI Fd.STI_CTL_EN = true →
    (s.sti v).run = some (s.view_ v).start → s.portsAt v (s.sti v).next ≠ [] → (s.sti v).next < s.nextLine v →
    (∀ p ∈ s.portsAt v (s.sti v).next, (s.portLine p (s.sti v).next).isSome = true) → s.eventWait v (s.sti v).next = false →
    s.commits = [] → s.jobVals = [] →
    ∃ t l, exec (.stitchViewLine v) s = .next t ∧ (t.sti v).next = (s.sti v).next + 1 ∧ (t.sti v).lines.head? = some l ∧
      l.n = (s.sti v).next ∧ l.gap = (s.portsAt v (s.sti v).next).all (fun p => s.portLine p (s.sti v).next == some .gap)) ∧
  (∀ (o : Owner) (w : Word) (s : State), s.access o Pg.STI = .granted → wf w 7 1 = 1 →
    ∃ t, exec (.dotGridGo o w) s = .next t ∧
      (s.mode = .setup ∧ s.dot = none → t.rd Pg.STI Rg.STI_CAL_STAT = 1 ∧ ∃ d, t.dot = some d ∧ d.view = wf w 0 2 ∧ d.lg = wf w 2 4 ∧
        d.along = (wf w 6 1 == 1) ∧ d.seen = 0 ∧ d.lost = false ∧ d.first % 64 = 0) ∧
      (s.mode ≠ .setup ∨ s.dot.isSome = true → t.dot = s.dot ∧ t.fld Pg.STI Fd.STI_CAL_STAT_RESULT = 2)) ∧
  (∀ (d : DotRun) (s : State), s.dot = some d →
    ∃ t, exec .dotGridDone s = .next t ∧
      (d.seen < 2 ^ d.lg → t = s) ∧
      (2 ^ d.lg ≤ d.seen ∧ d.lost = true → t.dot = none ∧ t.fld Pg.STI Fd.STI_CAL_STAT_STATE = 3 ∧
        t.fld Pg.STI Fd.STI_CAL_STAT_RESULT = 3 ∧ t.window = s.window) ∧
      (2 ^ d.lg ≤ d.seen ∧ d.lost = false ∧ d.along = false ∧ (∀ p ∈ d.ports, 2 ≤ (s.dotsOf d.view p.port
          (p.sums.map fun x => (rdiv (x : Nat) (2 ^ d.lg)).toNat)).length) →
        t.dot = none ∧ t.fld Pg.STI Fd.STI_CAL_STAT_STATE = 3 ∧ t.fld Pg.STI Fd.STI_CAL_STAT_RESULT = 1)) ∧
  (∀ (o : Owner) (str : Bool) (x : Word) (s : State),
    let p := if str then Pg.STR else Pg.STI
    let a := s.tblWord str
    let next := if s.on p Fd.STI_TBL_ADDR_INC then (s.fld p Fd.STI_TBL_ADDR_ADDR + 1) % 8192 else s.fld p Fd.STI_TBL_ADDR_ADDR
    (s.access o p = .granted →
      ∃ t, exec (.tblDataAccess o str (some x)) s = .next t ∧ t.fld p Fd.STI_TBL_ADDR_ADDR = next ∧
        ((if str then decide (a < strShadowAt + 0x3800) else s.tblFree (a - stitchAt)) = true → t.window = (s.setWin a (x &&& winMask a)).window) ∧
        (str = false ∧ s.tblFree (a - stitchAt) = false → t.win a = s.win a ∧ t.on Pg.STI Fd.STI_STAT_TBL_REFUSED = true)) ∧
    (s.reaches o p = true →
      ∃ t, exec (.tblDataAccess o str none) s = .next t ∧ t.fld p Fd.STI_TBL_ADDR_ADDR = next ∧ t.window = s.window ∧
        t.out = s.out ++ [.readData (ownerCode o) (p * 4096 + Rg.STI_TBL_DATA) (s.win a)])) ∧
  (∀ (v : Fin 4) (w : Fin 64) (s : State), s.regRuns v = true → w.val ∈ s.winsOn (s.repCopy v (s.view_ v).updR) v →
    w.val ∉ (s.view_ v).wins → s.winReady v w = true →
    ∃ t r, exec (.regWindowDone v w) s = .next t ∧ (t.view_ v).wins = w.val :: (s.view_ v).wins ∧
      tabGet (dflt none) t.winRes (64 * v + w) = some r ∧ t.regs = s.regs ∧
      (∀ k, k ≠ 64 * v.val + w.val → tabGet (dflt none) t.winRes k = tabGet (dflt none) s.winRes k)) ∧
  (∀ (v : Fin 4) (s : State), s.regRuns v = true →
    s.updLine v (s.view_ v).updR ≤ s.nextLine v + 62 → s.commits = [] →
    (∀ w ∈ s.winsOn (s.repCopy v (s.view_ v).updR) v, w ∈ (s.view_ v).wins) →
    ∃ t, exec (.regUpdate v) s = .next t ∧ (t.view_ v).wins = [] ∧
      (tbit (s.rdView Pg.REG Rg.REG_CTL v).toNat 0 = false → (t.view_ v).updR = (s.view_ v).updR + 1 ∧ t.regs = s.regs) ∧
      (tbit (s.rdView Pg.REG Rg.REG_CTL v).toNat 0 = true → t.rd Pg.REG (Rg.REG_VIEW_CORR_Y v) = BitVec.ofInt 32 (t.view_ v).c))

/-- Learned masters are reduced, predicted masters formed and fitted, and folds written (R306, R307, R313, R319, R324, R325, R326,
R327, R330). -/
def Obligations.MastersAreReducedPredictedFittedAndFolded : Prop :=
  (∀ (v : Fin 4) (f : Flip) (c : Copy) (g : Geo) (s : State), s.workFlip v .learn = some (f, c, g) →
    let rows := cdiv g.mr 4
    let after (x : Flip) : List Flip := if x.whole && x.taken.isSome then (s.mstV v).flips.drop 1 else x :: (s.mstV v).flips.drop 1
    let free := f.slots.all (fun j => s.slotHolds v j f.rows && s.slotHolds v j (Nat.min (f.rows + 1) (rows - 1))) && s.rowFree v g f f.rows
    ∃ t, exec (.reduceBlockRow v) s = .next t ∧ t.eng = s.eng ∧
      (f.rows < rows ∧ free = true → ∃ x, (t.mstV v).flips = after x ∧ x.rows = f.rows + 1 ∧ x.rep = f.rep ∧ x.slots = f.slots ∧
        x.taken = f.taken ∧ f.noref ≤ x.noref ∧ (f.rows + 1 < rows → x.whole = false)) ∧
      (f.rows < rows ∧ free = false → t = s) ∧
      (rows ≤ f.rows ∧ s.coarseFree v g f = true → (t.mstV v).flips = after { f with crows := cdiv g.mr 8, whole := true }) ∧
      (rows ≤ f.rows ∧ s.coarseFree v g f = false → (t.mstV v).flips = (s.mstV v).flips ∧ t.mem = s.mem)) ∧
  (∀ (o : Owner) (w : Word) (s : State), s.access o Pg.MST = .granted → wf w 6 1 = 1 →
    let j := wf w 0 6
    ∃ t, exec (.artPredict o w) s = .next t ∧ t.mem = s.mem ∧
      (s.jobState j ≠ jobReady ∨ s.predict.isSome = true → t.predict = s.predict ∧ t.fld Pg.MST Fd.MST_ART_STAT_RESULT = 2) ∧
      (s.jobState j = jobReady ∧ s.predict = none ∧ s.artBad (s.jobCtx j) = true → t.predict = none ∧
        t.fld Pg.MST Fd.MST_ART_STAT_STATE = 2 ∧ t.fld Pg.MST Fd.MST_ART_STAT_RESULT = 4) ∧
      (s.jobState j = jobReady ∧ s.predict = none ∧ s.artBad (s.jobCtx j) = false → t.predict = some ⟨j, (s.jobCtx j).artViews.filter fun v => ((s.jobCtx j).sect (sectMaster v)).isSome⟩ ∧
        t.fld Pg.MST Fd.MST_ART_STAT_JOB = j ∧ t.fld Pg.MST Fd.MST_ART_STAT_STATE = 1 ∧ t.fld Pg.MST Fd.MST_ART_STAT_RESULT = 0)) ∧
  (∀ (p : Predict) (s : State), s.predict = some p →
    ∃ t, exec .artPredictDone s = .next t ∧ t.predict = none ∧ t.fld Pg.MST Fd.MST_ART_STAT_STATE = 2 ∧
      t.fld Pg.MST Fd.MST_ART_STAT_RESULT = 1 ∧ t.mst = s.mst) ∧
  (∀ (v : Fin 4) (f : Flip) (c : Copy) (g : Geo) (j : JobCtx) (a b : Nat × Nat × List Byte) (s : State), s.workFlip v .fit = some (f, c, g) →
    s.jobOf c = some j → j.sect sectArt = some a → j.sect (sectPred v) = some b →
    let free := s.slotFree v g f && f.slots.all (fun k => s.slotHolds v k (cdiv g.mr 4 - 1))
    let x : Flip := { f with rows := cdiv g.mr 4, crows := cdiv g.mr 8, whole := true }
    ∃ t, exec (.tableFit v) s = .next t ∧ (free = false → t = s) ∧
      (free = true → (t.mstV v).flips = (if f.taken.isSome then (s.mstV v).flips.drop 1 else x :: (s.mstV v).flips.drop 1) ∧
        (∃ table, (t.mstV v).fitted = some table) ∧ (t.mstV v).force = (s.mstV v).force)) ∧
  (∀ (v : Fin 4) (f : Flip) (c : Copy) (g : Geo) (s : State), s.workFlip v .fold = some (f, c, g) →
    let free := s.slotFree v g f && f.slots.all (fun k => s.slotHolds v k (cdiv g.mr 4 - 1))
    ∃ t n, exec (.adaptFold v) s = .next t ∧ (free = false → t = s) ∧
      (free = true → (t.mstV v).flips = (if f.taken.isSome then (s.mstV v).flips.drop 1
          else { f with rows := cdiv g.mr 4, crows := cdiv g.mr 8, whole := true, noref := n } :: (s.mstV v).flips.drop 1) ∧
        (t.mstV v).force = (s.mstV v).force))

/-- Engines fetch their master, shift tiles, compare lines, emit bands, and MRG merges them (R286, R300, R337, R338, R353, R355,
R360, R364). -/
def Obligations.EnginesFetchShiftCompareAndDeliverBands : Prop :=
  (∀ (e : Fin 8) (n : Nat) (p : Fin 3) (bx by_ : Nat) (err : Bool) (v : Nat) (g : Geo) (s : State),
    let x := s.engOf e
    let f := s.inForce v n
    let d := if err then none else s.block g f.slot bx by_ p
    x.view = some v → s.geo x.copy v = some g → x.next ≤ n → n < (s.sti v).next → f.kind = 1 ∨ f.kind = 2 → p.val < g.p →
    bx < cdiv g.mw 4 → by_ < cdiv g.mr 4 → (∀ b ∈ x.blocks, ¬(b.ver = f.line ∧ b.p = p.val ∧ b.brow = by_ ∧ b.bcol = bx)) →
    ∃ t, exec (.masterFetch e n p bx by_ err) s = .next t ∧ (t.engOf e).next = x.next ∧ t.mem = s.mem ∧
      (s.rowReady v n by_ = false → (t.engOf e).blocks = x.blocks) ∧
      (s.rowReady v n by_ = true → (t.engOf e).blocks = x.blocks ++ [⟨f.line, p, by_, bx, d⟩] ∧
        (d = none → t.fld Pg.MST ⟨Rg.MST_FETCH_ERR, 0, 16⟩ = satN 16 (s.fld Pg.MST ⟨Rg.MST_FETCH_ERR, 0, 16⟩ + 1)) ∧
        (d.isSome = true → t.rd Pg.MST Rg.MST_FETCH_ERR = s.rd Pg.MST Rg.MST_FETCH_ERR))) ∧
  (∀ (e : Fin 8) (v n0 n1 col w : Nat) (done : List Tile) (s : State),
    let x := s.engOf e
    x.view = some v → (x.rows = [] ∧ done = [] ∧ s.tileRowAt v x.newJob x.next = (n0, n1)) ∨ (x.rows = [⟨n0, n1, done⟩] ∧ x.next < n1) →
    n0 < n1 → n1 ≤ (s.sti v).next → (s.regRuns v = true → n1 ≤ s.updLine v (s.view_ v).updR) →
    (s.tileCols x.copy e)[done.length]? = some (col, w) →
    ∃ t, exec (.fineShift e) s = .next t ∧
      (s.tile x v n0 n1 col w done.getLast? none = none → t.eng = s.eng ∧ t.on (Pg.IE e) Fd.IE_STAT_WAITED = true) ∧
      (∀ y, s.tile x v n0 n1 col w done.getLast? none = some y → (t.engOf e).rows = [⟨n0, n1, done ++ [y]⟩] ∧ (t.engOf e).next = x.next)) ∧
  (∀ (e : Fin 8) (v : Nat) (l : VLine) (s : State),
    let x := s.engOf e
    let ok := s.repOf v x.next = 0 ∨ (s.pixels e x v l).isSome = true
    x.view = some v → x.fin = false → (∀ z, s.partEnd v x.newJob = some z → x.next < z) → s.vline v x.next = some l →
    s.blockOn (Pg.IE e) Fd.IE_CTL_EN = true → x.togo = [] →
    ∃ t, exec (.ieCompareLine e) s = .next t ∧ (t.engOf e).view = some v ∧
      (s.lineWaits x.copy v x.next = false ∧ s.coarseWait x v x.next = false ∧ ok → (t.engOf e).next = x.next + 1) ∧
      (s.lineWaits x.copy v x.next = true → (∀ k, t.engOf k = s.engOf k) ∧ t.regs = s.regs) ∧
      (s.lineWaits x.copy v x.next = false ∧ s.coarseWait x v x.next = true → (t.engOf e).next = x.next ∧ (t.engOf e).lines = x.lines) ∧
      (s.lineWaits x.copy v x.next = false ∧ s.coarseWait x v x.next = false ∧ ¬ok →
        (∀ k, t.engOf k = s.engOf k) ∧ t.on (Pg.IE e) Fd.IE_STAT_WAITED = true)) ∧
  (∀ (e : Fin 8) (v last : Nat) (b : OpenBand) (rest : List OpenBand) (s : State),
    let x := s.engOf e
    let key := last + s.join x.copy v + 2
    x.view = some v → (∀ z, s.partEnd v x.newJob = some z → x.fin = true ∨ x.next < z) → x.bands = b :: rest → b.last = some last →
    x.fin = true ∨ key < x.next → x.togo = [] →
    ∃ t i, exec (.bandEmit e) s = .next t ∧ (t.vres x.copy v).bands = (s.vres x.copy v).bands ++ [i] ∧ i.eng = e.val ∧ i.first = b.first ∧
      i.last = last ∧ i.key = key ∧ i.rep = s.repOf v last ∧ i.storm = b.storm ∧ i.ends = s.endsRepeat x v last ∧ i.got = 0 ∧
      i.total = i.pieces.length + i.runs.length + i.pres.length + b2n b.storm.isSome + i.cells.length) ∧
  (∀ (v : Fin 4) (bad : List (Fin 8 × Nat)) (s : State),
    (s.blockOn Pg.MRG Fd.MRG_CTL_EN = false → exec (.mrgMergeBand v bad) s = .next s) ∧
    (∀ b l, s.blockOn Pg.MRG Fd.MRG_CTL_EN = true → s.nextBand .active v = some (b :: l) →
      (∀ e, e < 8 → (s.engOf e).view = some v.val → (s.engOf e).fin = false ∧ (s.engOf e).togo = [] ∧ (s.engOf e).fifo = []) →
      ∃ t, exec (.mrgMergeBand v bad) s = .next t ∧ (t.vres .active v).bands = (s.vres .active v).bands.filter (fun x => x.first != b.first) ∧
        (t.vres .active v).merged = b.key + 1 ∧ (t.vres .active v).tailAt = b.last + 1 ∧
        t.rd Pg.MRG (Rg.MRG_BAND_LO v) = BitVec.ofNat 32 b.key ∧ t.fld Pg.MRG (Fd.MRG_BAND_HI_b0 v) = b.key / 2 ^ 32 % 2 ^ 16))

/-- Rules are evaluated, verdicts decided and tolerance scales settled (R380, R381, R387, R389, R391, R395, R396). -/
def Obligations.RulesVerdictsAndScalesAreDecided : Prop :=
  (∀ (s : State),
    let c := s.rulCopy
    s.jobOf c ≠ none → c = .active ∨ s.mode ≠ .hold →
    ∃ t, exec .ruleEvaluate s = .next t ∧
      (∀ r rest, (s.res c).front = r :: rest → r.type = recCell → r.supp = false →
        wf (s.jobRd c Pg.RUL Rg.RUL_CTL) 0 1 = 0 ∨ s.on Pg.RUL Fd.HDR_PAGE_CTL_EN = false →
        (t.res c).front = rest ∧ (t.res c).out = (s.res c).out ++ [{ r with crop := none }] ∧ t.hits = s.hits ∧ t.regs = s.regs) ∧
      (∀ r rest i, (s.res c).front = r :: rest → r.type = recCell → r.supp = false →
        wf (s.jobRd c Pg.RUL Rg.RUL_CTL) 0 1 = 1 → s.on Pg.RUL Fd.HDR_PAGE_CTL_EN = true →
        s.rulesOn c = [i] → s.ruleMatch c i r = true → s.ruleF c i 400 1 = 1 → s.ruleF c i 405 1 = 0 → s.ruleF c i 410 1 = 0 →
        s.ruleF c i 416 1 = 0 →
        (t.res c).front = rest ∧ (t.res c).out = (s.res c).out ++ [{ r.put 181 9 (i + 1) with crop := none }] ∧
          tabGet (dflt 0) t.hits i = satN 32 (tabGet (dflt 0) s.hits i + 1) ∧
          t.fld Pg.RUL (whole (Rg.RUL_CNT (s.ruleF c i 401 4))) = satN 32 (s.fld Pg.RUL (whole (Rg.RUL_CNT (s.ruleF c i 401 4))) + 1) ∧
          t.fld Pg.RUL (whole Rg.RUL_EVAL_CNT) = satN 32 (s.fld Pg.RUL (whole Rg.RUL_EVAL_CNT) + 1)) ∧
      ((s.res c).front = [] ∧ ((s.res c).ready ≠ [] ∨ (s.res c).whole ≠ [] ∨ (s.nextItem c = none ∧ s.drained c = false)) → t = s)) ∧
  (∀ (i n : Nat) (rest : List (Nat × Nat)) (s : State),
    let c := s.vrdCopy fun r => !r.ready.isEmpty
    let q := s.cellRec c ((s.res c).cell i n) none
    let f : Fld := if q.2 = 0 then ⟨Rg.VRD_VCNT0, 0, 16⟩ else if q.2 = 1 then ⟨Rg.VRD_VCNT0, 16, 16⟩ else if q.2 = 2 then ⟨Rg.VRD_VCNT1, 0, 16⟩
      else ⟨Rg.VRD_VCNT1, 16, 16⟩
    (s.res c).ready = (i, n) :: rest →
    ∃ t, exec .cellVerdict s = .next t ∧
      (s.vrdOn = false → t = s) ∧
      (s.vrdOn = true → (t.res c).ready = rest ∧ (t.res c).front = (s.res c).front ++ [q.1] ∧ (t.res c).out = (s.res c).out ∧
        t.fld Pg.VRD f = satN 16 (s.fld Pg.VRD f + 1) ∧
        (q.2 ≠ 2 → t.raised = s.raised) ∧ (q.2 = 2 → s.mode ≠ .boot → ∃ st, t.raised = s.raised ++ [(evCellFail, st)]))) ∧
  (∀ (n : Nat) (rest : List Nat) (s : State),
    let c := s.vrdCopy fun r => !r.whole.isEmpty
    (s.res c).whole = n :: rest → s.vrdOn = true → (s.res c).front = [] → (s.res c).ready = [] →
    (∀ q ∈ (s.res c).out, q.rep = n → q.type = recStart) →
    ∃ t, exec .repeatVerdict s = .next t ∧ (t.res c).whole = rest ∧ (t.res c).lastRep = n ∧
      (t.res c).out = (s.res c).out ++ [s.repRec c ((s.res c).rep n)] ∧ t.rd Pg.VRD Rg.VRD_LAST_REPEAT = BitVec.ofNat 32 n ∧
      t.rd Pg.VRD Rg.VRD_RING_WR = s.rd Pg.VRD Rg.VRD_RING_WR + 1) ∧
  (∀ (v : Fin 4) (n : Nat) (a : Tab Nat) (l : List (Nat × Tab Nat)) (s : State), s.enables .active v = true →
    (s.vres .active v).scales = (n, a) :: l →
    ∃ t, exec (.cscaleStep v) s = .next t ∧
      (n + 1 ≤ s.resA.lastRep + 2 → ∃ b, (t.vres .active v).scales = ((n + 1, b) :: (n, a) :: l).take 4 ∧
        ((∀ e ∈ s.resA.steps, ¬(e.view = v.val ∧ e.rep + 2 = n + 1)) → b = a)) ∧
      (s.resA.lastRep + 2 < n + 1 → s.mode ≠ .changeover → t = s))

/-- Crops are stored and records sent in their order (R66, R376, R378, R379, R381). -/
def Obligations.CropsAreStoredAndRecordsSent : Prop :=
  (∀ (i : Nat) (r : Rec) (k : Crop) (s : State), s.resA.cropWait = some (i, r, k) →
    let ref := (s.rd Pg.MRG Rg.MRG_CROP_NEXT).toNat
    let whole_ := ((List.range 64).filter fun j => decide (16 ≤ k.seed.1 + j)).all fun j => s.lineDone k.view (k.seed.1 + j - 16)
    ∃ t, exec .cropStore s = .next t ∧
      (whole_ = true → t.resA.out = setNth s.resA.out i ({ r with crop := none }.put 448 32 ref) ∧
        t.rd Pg.MRG Rg.MRG_CROP_NEXT = BitVec.ofNat 32 (if ref + 1 = 2 ^ 32 then 1 else ref + 1)) ∧
      (whole_ = false → t = s)) ∧
  (∀ (j : JobCtx) (s : State), ¬(s.mode.job = true ∧ s.dueApply.isSome = true) → ¬(s.resA.endSent = true ∧ s.jobN.isSome = true) →
    s.jobA = some j →
    ∃ t, exec .recordSend s = .next t ∧
      (∀ n k, s.resA.started = false → s.resA.startAt = some (n, k) → t.resA = { s.resA with started := true, sent := s.resA.sent + 1, held := [] }) ∧
      (∀ q rest, s.resA.started = true → s.resA.out = q :: rest → q.crop = none → q.type ≠ recEnd →
        t.resA = { s.resA with out := rest, sent := s.resA.sent + 1, endSent := false }) ∧
      (∀ q rest, s.resA.started = true → s.resA.out = q :: rest → q.crop = none → q.type = recEnd → s.mode ≠ .hold → s.mode ≠ .changeover →
        t.mode = .idle ∧ t.jobA = none ∧ t.resA = {} ∧ ∀ e, (t.engOf e).view = none) ∧
      (s.resA.started = true ∧ s.resA.out = [] → t = s) ∧
      (∀ q rest, s.resA.started = true → s.resA.out = q :: rest → q.crop.isSome = true → t = s))

/-- Streams are synchronised, restarted, stopped at boundaries and delivered; DATA tasks act at their anchors (R331, R417, R418,
R419, R422, R423, R470). -/
def Obligations.StreamsSyncRestartAndDeliver : Prop :=
  (∀ (up : Bool) (stable n : Nat) (s : State),
    let x := s.atCycle n
    let st : Stamp := { time := x.timeAt (rawOfCycle n) / 65536 }
    let vs := (List.range 4).filter fun v => (x.tgOf v).running
    let on := x.decRuns = true ∧ x.on Pg.DEC Fd.DEC_SYNC_CTL_PIN_EN = true ∧ x.on Pg.DEC Fd.DEC_SYNC_CTL_PIN_POL ≠ up ∧
      x.fld Pg.DEC Fd.DEC_SYNC_CTL_PIN_FILT + 1 ≤ stable
    ∃ t, exec (.decsyncEdge ⟨up, stable⟩ n) s = .next t ∧
      (¬on → t = x) ∧
      (on → (∀ v ∈ vs, x.anchorOf st v = none) →
        t.fld Pg.DEC Fd.DEC_CNT0_b0 = satN 16 (s.fld Pg.DEC Fd.DEC_CNT0_b0 + 1) ∧ t.on Pg.DEC Fd.DEC_STAT_SYNC_SEEN = true ∧
        t.rd64 Pg.DEC Rg.DEC_SYNC_TIME_LO Rg.DEC_SYNC_TIME_HI = st.time % 2 ^ 64 ∧
        t.dec.syncs = s.dec.syncs ++ vs.zipIdx.map fun e => ⟨e.1, st, e.2 == 0⟩)) ∧
  (∀ (o : Owner) (w : Word) (s : State), s.access o Pg.DEC = .granted → s.decRuns = true → wf w 0 1 = 1 →
    (∀ v, v < 4 → (s.tgOf v).running = true → s.anchorOf { time := s.time } v = none) →
    ∃ t, exec (.decSyncWrite o w) s = .next t ∧ t.fld Pg.DEC Fd.DEC_CNT0_b0 = satN 16 (s.fld Pg.DEC Fd.DEC_CNT0_b0 + 1) ∧
      t.rd64 Pg.DEC Rg.DEC_SYNC_TIME_LO Rg.DEC_SYNC_TIME_HI = s.time % 2 ^ 64 ∧
      t.dec.syncs = s.dec.syncs ++ (((List.range 4).filter fun v => (s.tgOf v).running).zipIdx.map fun e => ⟨e.1, { time := s.time }, e.2 == 0⟩)) ∧
  (∀ (o : Owner) (n : Fin 8) (w : Word) (s : State), s.access o Pg.STR = .granted →
    let y := (s.touch o Pg.STR).writeReg Pg.STR (Rg.STR_S_CTL n) w
    ∃ t, exec (.streamRestart o n w) s = .next t ∧
      (n.val = 7 → t = s.touch o Pg.STR) ∧
      (n.val < 7 → wf w 2 1 = 0 → t = y) ∧
      (n.val < 7 → wf w 2 1 = 1 → y.on Pg.STR (Fd.STR_S_CTL_EN n) = true → (y.tgOf (y.strView n)).running = true → (y.str_ n).want = none →
        (t.str_ n).want = some (y.strView n, if y.fld Pg.STR (Fd.STR_S_CTL_AT n) = 0 then blockLine (y.strNext (y.strView n))
          else y.strNext (y.strView n), y.fld Pg.STR (Fd.STR_S_CTL_AT n) == 1) ∧ t.regs = y.regs)) ∧
  (∀ (n : Fin 7) (w k : Nat) (rep : Bool) (s : State), (s.str_ n).want = some (w, k, rep) → s.commits = [] →
    let m := s.srcNext n
    let due := w = s.strView n ∧ k ≤ m ∧ (rep = true → s.repeatStartAt w m = true)
    ∃ t, exec (.streamResetBoundary n) s = .next t ∧ (¬due → t = s) ∧
      (due → (t.str_ n).want = none ∧ (s.on Pg.STR (Fd.STR_S_CTL_EN n) = false → (t.str_ n).grids = [] ∧ (t.str_ n).running = false ∧
        t.fld Pg.STR (Fd.STR_S_STAT_RUNNING n) = 0) ∧
        (s.on Pg.STR (Fd.STR_S_CTL_EN n) = true ∧ (s.str_ n).ask = true ∧ (∀ r ∈ (s.str_ n).grids, r.origin = false) →
          let g := s.origin (s.strView n) + s.strD n 16 6
          (t.str_ n).grids = (s.str_ n).grids.filter (fun r => decide (r.l0 ≤ m)) ++
            [{ g := m, l0 := if m ≤ g then g else g + (m - g + s.strStep n - 1) / s.strStep n * s.strStep n, origin := false, desc := s.strDesc n }]))) ∧
  (∀ (n : Fin 7) (o : SOut) (l : List SOut) (s : State), (s.str_ n).outs = o :: l →
    let c := (s.rd Pg.STR (Rg.STR_S_OUT_CNT n)).toNat
    ∃ t, exec (.streamOutput n) s = .next t ∧ (t.str_ n).outs = l ∧ t.rd Pg.STR (Rg.STR_S_OUT_CNT n) = BitVec.ofNat 32 (c + 1) ∧
      t.on Pg.STR (Fd.STR_S_STAT_SETTLED n) = o.settled ∧
      (o.dest = 0 → t.mem = (s.dramPut (o.base + c % Nat.max 1 o.slots * o.stride) (o.bytes.take 4 ++ leBytes 4 c ++ o.bytes.drop 8)).mem ∧
        t.net = s.net)) ∧
  (∀ (s : State),
    (s.evf.data.find? s.dataReady = none → exec .dataTaskEffect s = .next s) ∧
    (∀ o a, s.evf.data.find? s.dataReady = some o → 48 ≤ o.task → o.task < 56 → s.dataAnchor o = some a →
      ∃ t, exec .dataTaskEffect s = .next t ∧ t.evf.data = s.evf.data.erase o ∧
        (t.mstV ((o.task - 48) % 4)).changes = (s.mstV ((o.task - 48) % 4)).changes ++ [(a, decide (o.task < 52))] ∧ t.regs = s.regs))

/-- Mode requests are carried out or refused (R62, R63, R65, R66, R67, R69, R70, R72). -/
def Obligations.ModeRequestsAreCarriedOutOrRefused : Prop :=
  (∀ (o : Owner) (w : Word) (k : Nat) (c : Instr) (s : State), s.access o Pg.SYS = .granted → wf w 8 1 = 1 → wf w 0 3 = k →
    (k, c) ∈ [(1, Instr.modeReqIdle o w), (2, .modeReqSetup o w), (3, .modeReqRelearn o w), (4, .modeReqInspect o w), (6, .modeReqLegacy o w)] →
    ∃ t, exec c s = .next t ∧
      (s.mode = .changeover ∨ s.on Pg.SYS Fd.SYS_MODE_REQ_PENDING = true → t.mode = s.mode ∧ t.fld Pg.SYS Fd.SYS_MODE_REFUSAL = 3) ∧
      (s.mode ≠ .changeover → s.on Pg.SYS Fd.SYS_MODE_REQ_PENDING = false →
        (s.mode, k) ∉ [(Mode.idle, 2), (.setup, 1), (.idle, 3), (.idle, 4), (.idle, 6), (.inspect, 3), (.learn, 1), (.inspect, 1), (.legacy, 1), (.hold, 1)] →
        t.mode = s.mode ∧ t.fld Pg.SYS Fd.SYS_MODE_REFUSAL = 1)) ∧
  (∀ (o : Owner) (w : Word) (s : State), s.access o Pg.SYS = .granted → wf w 8 1 = 1 → wf w 0 3 = 2 → s.mode = .idle →
    s.on Pg.SYS Fd.SYS_MODE_REQ_PENDING = false → s.commits = [] →
    ∃ t, exec (.modeReqSetup o w) s = .next t ∧ t.mode = .setup ∧ t.fld Pg.SYS Fd.SYS_MODE_PREV_MODE = Mode.idle.code ∧ t.jobA = s.jobA) ∧
  (∀ (o : Owner) (w : Word) (s : State), s.access o Pg.SYS = .granted → wf w 8 1 = 1 → wf w 0 3 = 1 → s.on Pg.SYS Fd.SYS_MODE_REQ_PENDING = false →
    ∃ t, exec (.modeReqIdle o w) s = .next t ∧
      (s.mode = .setup → s.setupBusy = true → t.mode = .setup ∧ t.fld Pg.SYS Fd.SYS_MODE_REFUSAL = 3) ∧
      (s.mode = .setup → s.setupBusy = false → t.mode = .idle) ∧
      (s.mode = .learn ∨ s.mode = .inspect ∨ s.mode = .legacy → s.fld Pg.SYS Fd.SYS_CHG_CTL_STATE ≠ 1 → t.mode = s.mode ∧
        t.on Pg.SYS Fd.SYS_MODE_REQ_PENDING = true ∧
        (wf w 3 1 = 0 → ∀ v ∈ s.jobViews .active, (t.view_ v).endAt = some (blockLine (Nat.max (s.taken v) ((s.view_ v).part.getD 0))))) ∧
      (s.mode = .hold → s.on Pg.SYS Fd.SYS_MODE_HOLD_CLEARABLE = true → t.mode = .idle ∧ t.jobA = none ∧ t.jobN = none ∧
        ∀ e, (t.engOf e).view = none) ∧
      (s.mode = .hold → s.on Pg.SYS Fd.SYS_MODE_HOLD_CLEARABLE = false → t.mode = .hold ∧ t.fld Pg.SYS Fd.SYS_MODE_REFUSAL = 4)) ∧
  (∀ (o : Owner) (w : Word) (s : State), s.access o Pg.SYS = .granted → wf w 8 1 = 1 → wf w 0 3 = 3 → s.mode = .inspect →
    s.on Pg.SYS Fd.SYS_MODE_REQ_PENDING = false →
    let x := (s.touch o Pg.SYS).writeReg Pg.SYS Rg.SYS_MODE_REQ w
    ∃ t, exec (.modeReqRelearn o w) s = .next t ∧
      (s.jobA = none → t.mode = .inspect ∧ t.fld Pg.SYS Fd.SYS_MODE_REFUSAL = 1) ∧
      (∀ j, s.jobA = some j → (x.relearnFaults .active j).isEmpty = true → t.mode = .learn ∧ t.jobA = some j ∧
        ∀ v ∈ s.jobViews .active, (t.mstV v).relearn = true)) ∧
  (∀ (o : Owner) (w : Word) (k : Nat) (c : Instr) (s : State), s.access o Pg.SYS = .granted → wf w 8 1 = 1 → wf w 0 3 = k →
    s.mode = .idle → s.on Pg.SYS Fd.SYS_MODE_REQ_PENDING = false → s.commits = [] →
    (k, c) ∈ [(3, Instr.modeReqRelearn o w), (4, .modeReqInspect o w), (6, .modeReqLegacy o w)] →
    let x := (s.touch o Pg.SYS).writeReg Pg.SYS Rg.SYS_MODE_REQ w
    ∃ t, exec c s = .next t ∧
      (s.on Pg.SYS Fd.SYS_JOB_STAT_NEXT_READY = false ∨ s.jobN = none → t.mode = .idle ∧ t.fld Pg.SYS Fd.SYS_MODE_REFUSAL = 2) ∧
      (∀ j, s.on Pg.SYS Fd.SYS_JOB_STAT_NEXT_READY = true → s.jobN = some j →
        (k = 6 → j.legacy = false → t.mode = .idle ∧ t.fld Pg.SYS Fd.SYS_MODE_REFUSAL = 1) ∧
        ((k = 6 → j.legacy = true) → (k = 3 → (x.relearnFaults .next j).isEmpty = true) →
          t.jobA = some j ∧ t.jobN = none ∧ (k = 6 → t.mode = .legacy) ∧ (k ≠ 6 → t.mode = .learn ∨ t.mode = .inspect)))) ∧
  (∀ (o : Owner) (w : Word) (s : State), s.access o Pg.SYS = .granted → wf w 8 1 = 1 → wf w 0 3 = 7 → s.mode = .boot →
    ∃ t, exec (.modeReqHold o w) s = .next t ∧ t.mode = .boot ∧ t.fld Pg.SYS Fd.SYS_MODE_REFUSAL = 1) ∧
  (∀ (o : Owner) (w : Word) (s : State), s.access o Pg.SYS = .granted → wf w 8 1 = 1 → wf w 0 3 = 7 → s.mode ≠ .boot → s.mode ≠ .hold →
    s.commits = [] →
    ∃ t, exec (.modeReqHold o w) s = .next t ∧ t.mode = .hold ∧ t.fld Pg.SYS Fd.SYS_MODE_HOLD_ENTRY = 0xFF ∧
      t.on Pg.SYS Fd.SYS_MODE_HOLD_CLEARABLE = true ∧ t.crl.entries = [] ∧ t.crl.pulses = [] ∧ t.acts = [] ∧
      (∀ e, (t.engOf e).view = none) ∧ t.mem = s.mem)

/-- Jobs are opened, validated, loaded, withdrawn and deleted (R73, R74, R75, R76, R77, R79, R699). -/
def Obligations.JobsAreOpenedValidatedLoadedAndDeleted : Prop :=
  (∀ (o : Owner) (w : Word) (s : State), s.access o Pg.SYS = .granted →
    let j := wf w 0 6
    let st := s.jobState j
    let fits := s.dirAddr j + 64 ≤ s.capacity
    (wf w 8 5 = 1 → ∃ t, exec (.jobOpen o w) s = .next t ∧
      (st = jobNext ∨ st = jobActive → t.predict = s.predict ∧ t.jobN = s.jobN ∧ t.jobA = s.jobA) ∧
      (st ≠ jobNext → st ≠ jobActive → (fits → t.jobState j = jobLoading) ∧ ∀ p, t.predict = some p → p.job ≠ j)) ∧
    (wf w 8 5 = 2 → ∃ t, exec (.jobValidate o w) s = .next t ∧
      ((st = jobLoading ∨ st = jobReady ∨ st = jobRefused) → s.valJob = none →
        t.valJob = some j ∧ t.on Pg.SYS Fd.SYS_JOB_STAT_VAL_BUSY = true ∧ t.mem = s.mem) ∧
      (¬(st = jobLoading ∨ st = jobReady ∨ st = jobRefused) ∨ s.valJob.isSome = true → t.valJob = s.valJob)) ∧
    (wf w 8 5 = 4 → ∃ t, exec (.jobLoadNext o w) s = .next t ∧
      (st ≠ jobReady ∨ s.on Pg.SYS Fd.SYS_JOB_STAT_NEXT_VALID = true → t.jobN = s.jobN ∧
        t.rd Pg.SYS Rg.SYS_JOB_STAT = s.rd Pg.SYS Rg.SYS_JOB_STAT) ∧
      (st = jobReady → s.on Pg.SYS Fd.SYS_JOB_STAT_NEXT_VALID = false →
        (((s.touch o Pg.SYS).writeReg Pg.SYS Rg.SYS_JOB_CTL w).loadFaults (s.jobCtx j)).isEmpty = true →
        t.on Pg.SYS Fd.SYS_JOB_STAT_NEXT_VALID = true ∧ t.fld Pg.SYS Fd.SYS_JOB_STAT_NEXT_ID = j ∧ (fits → t.jobState j = jobNext))) ∧
    (wf w 8 5 = 16 → ∃ t, exec (.jobDelete o w) s = .next t ∧
      (st = jobReady ∨ st = jobLoading ∨ st = jobRefused → (fits → t.jobState j = jobEmpty) ∧ ∀ p, t.predict = some p → p.job ≠ j) ∧
      (¬(st = jobReady ∨ st = jobLoading ∨ st = jobRefused) → t.predict = s.predict ∧ t.jobN = s.jobN ∧ t.jobA = s.jobA))) ∧
  (∀ (o : Owner) (w : Word) (s : State), s.access o Pg.SYS = .granted → wf w 8 5 = 8 → s.fld Pg.SYS Fd.SYS_CHG_CTL_STATE = 0 →
    s.on Pg.SYS Fd.SYS_JOB_STAT_NEXT_VALID = true →
    let j := s.fld Pg.SYS Fd.SYS_JOB_STAT_NEXT_ID
    ∃ t, exec (.jobCancelNext o w) s = .next t ∧ t.jobN = none ∧ t.on Pg.SYS Fd.SYS_JOB_STAT_NEXT_VALID = false ∧
      t.on Pg.SYS Fd.SYS_JOB_STAT_NEXT_READY = false ∧ (s.dirAddr j + 64 ≤ s.capacity → t.jobState j = jobReady) ∧ t.jobA = s.jobA) ∧
  (∀ (j : Nat) (s : State), s.valJob = some j →
    let x := ({ s with valJob := none }).setFld Pg.SYS Fd.SYS_JOB_STAT_VAL_BUSY 0
    ∃ t, exec .validationDone s = .next t ∧ t.valJob = none ∧
      (s.jobState j ≠ jobEmpty → s.jobState j ≠ jobNext → s.jobState j ≠ jobActive → j ∉ t.roWritten ∧
        t.fld Pg.SYS Fd.SYS_JOB_STAT_VAL_RESULT = if (x.validate j).2.isEmpty then 1 else 2)) ∧
  (∀ (s : State),
    (s.on Pg.SYS Fd.SYS_JOB_STAT_NEXT_VALID = true → s.on Pg.SYS Fd.SYS_JOB_STAT_NEXT_READY = false →
      ∃ t, exec .loadNextDone s = .next t ∧ t.jobN = some (s.jobCtx (s.fld Pg.SYS Fd.SYS_JOB_STAT_NEXT_ID)) ∧
        t.on Pg.SYS Fd.SYS_JOB_STAT_NEXT_READY = true ∧ regsKept [Pg.SYS * 4096 + Rg.SYS_JOB_STAT] s t ∧ t.mem = s.mem) ∧
    (s.on Pg.SYS Fd.SYS_JOB_STAT_NEXT_VALID = false ∨ s.on Pg.SYS Fd.SYS_JOB_STAT_NEXT_READY = true → exec .loadNextDone s = .next s))

/-- A changeover is armed, withdrawn, entered and completed; a requested job end takes effect (R66, R80, R82, R83, R85, R91). -/
def Obligations.ChangeoversAreArmedWithdrawnAndCompleted : Prop :=
  (∀ (o : Owner) (w : Word) (s : State), s.access o Pg.SYS = .granted →
    let x := (s.touch o Pg.SYS).writeReg Pg.SYS Rg.SYS_CHG_CTL w
    (wf w 8 1 = 1 → wf w 9 1 = 0 → ∃ t, exec (.chgArm o w) s = .next t ∧
      (x.armFault = none → x.fld Pg.SYS Fd.SYS_CHG_CTL_TRIGGER ≠ 2 → t.fld Pg.SYS Fd.SYS_CHG_CTL_STATE = 1 ∧
        ∀ v, v < 4 → (t.view_ v).chg = none ∧ (t.view_ v).past = false) ∧
      (x.armFault.isSome = true → t.fld Pg.SYS Fd.SYS_CHG_CTL_STATE = x.fld Pg.SYS Fd.SYS_CHG_CTL_STATE ∧ t.view = s.view)) ∧
    (wf w 8 1 = 0 → wf w 9 1 = 1 → s.commits = [] → ∃ t, exec (.chgCancel o w) s = .next t ∧
      (x.fld Pg.SYS Fd.SYS_CHG_CTL_STATE = 1 → t.fld Pg.SYS Fd.SYS_CHG_CTL_STATE = 0 ∧
        ∀ v, v < 4 → s.enables .active v = true → (t.view_ v).chg = none ∧ (t.view_ v).past = false) ∧
      (x.fld Pg.SYS Fd.SYS_CHG_CTL_STATE = 2 → t.on Pg.SYS Fd.SYS_CHG_CTL_CANCEL_LATE = true ∧ t.view = s.view) ∧
      (x.fld Pg.SYS Fd.SYS_CHG_CTL_STATE = 0 → t = x))) ∧
  (∀ (v : Fin 4) (ld : Nat) (s : State), (s.view_ (s.lowView .active)).chg = some ld → s.commits = [] →
    let lead := s.lowView .active
    let due := (s.lineRec lead (ld + s.chgDelay v)).isSome = true ∨ (s.enables .next lead = false ∧ (s.tgOf lead).running = false ∧ ld ≤ s.nextLine lead)
    let go := s.fld Pg.SYS Fd.SYS_CHG_CTL_STATE ≠ 0 ∧ (s.view_ v).entering = true ∧ (s.view_ v).started = false ∧ due
    ∃ t, exec (.enteringViewStart v) s = .next t ∧ (¬go → t = s) ∧
      (go → (t.view_ v).run = true ∧ (t.view_ v).started = true ∧ (t.view_ v).chg = some (s.nextLine v))) ∧
  (∀ (old new : JobCtx) (s : State), s.jobA = some old → s.jobN = some new →
    let go := s.mode = .changeover ∧ s.resA.endSent = true ∧
      (∀ v, v < 4 → tbit old.viewEn v = true ∨ tbit new.viewEn v = true → (s.view_ v).past = true)
    ∃ t, exec .changeoverComplete s = .next t ∧ (¬go → t = s) ∧
      (go → t.jobA = some new ∧ t.jobN = none ∧ t.jobVals = [] ∧ t.resA = s.resN ∧ t.resN = {} ∧ (t.mode = .learn ∨ t.mode = .inspect))) ∧
  (∀ (v : Fin 4) (e : Nat) (s : State), (s.view_ v).endAt = some e → s.commits = [] →
    ∃ t, exec (.jobEndAtBoundary v) s = .next t ∧
      (s.mode.job = false ∨ (s.view_ v).ended = true ∨ ((s.tgOf v).running = true ∧ s.nextLine v < e) → t = s) ∧
      (s.mode.job = true → s.enables .active v = true → (s.view_ v).ended = false → ((s.tgOf v).running = true → e ≤ s.nextLine v) →
        s.fld Pg.SYS Fd.SYS_CHG_CTL_STATE ≤ 1 ∨ (s.view_ v).past = true → (∀ p ∈ s.portsOf v, (s.intk p).next = none) →
        (t.view_ v).ended = true ∧ (t.view_ v).run = false ∧ (t.tgOf v).running = false ∧
        (t.view_ v).endAt = some (if (s.tgOf v).running = true then e else Nat.min e (Nat.max (s.nextLine v) (s.view_ v).start))))

/-- Ethernet frames are taken or dropped, links come and go, addresses are resolved, echoes answered (R552, R553, R554, R555, R582).
-/
def Obligations.EthernetPortsTakeFramesAndResolve : Prop :=
  (∀ (n : Fin 2) (f : RxFrame) (s : State),
    ∃ t, exec (.frameRx n f) s = .next t ∧
      (s.ethUp n = false → t = s) ∧
      (s.ethUp n = true → f.fcsOk = false → t = s.bump (Pg.ETH n) Fd.ETH_RX_ERR_FCS) ∧
      (s.ethUp n = true → f.fcsOk = true → f.lenOk = false → t = s.bump (Pg.ETH n) Fd.ETH_RX_ERR_b16) ∧
      (s.ethUp n = true → f.fcsOk = true → f.lenOk = true → s.rxTakes n f = false → t = s.bump (Pg.ETH n) (whole Rg.ETH_RX_DROP)) ∧
      (s.ethUp n = true → f.fcsOk = true → f.lenOk = true → s.rxTakes n f = true →
        t.fld (Pg.ETH n) (whole Rg.ETH_RX_FRM) = satN 32 (s.fld (Pg.ETH n) (whole Rg.ETH_RX_FRM) + 1) ∧
        t.rd (Pg.ETH n) Rg.ETH_RX_DROP = s.rd (Pg.ETH n) Rg.ETH_RX_DROP ∧
        (f.type = 0x0800 ∧ f.proto = 17 → t.fld Pg.NET (whole Rg.NET_RX_DGRAM) = satN 32 (s.fld Pg.NET (whole Rg.NET_RX_DGRAM) + 1)))) ∧
  (∀ (n : Fin 2) (s : State),
    ∃ t, exec (.ethLinkLost n) s = .next t ∧
      (s.on (Pg.ETH n) Fd.ETH_STAT_LINK = false → t = s) ∧
      (s.on (Pg.ETH n) Fd.ETH_STAT_LINK = true → t.on (Pg.ETH n) Fd.ETH_STAT_LINK = false ∧ t.on (Pg.ETH n) Fd.ETH_STAT_BLOCK_LOCK = false ∧
        t.on (Pg.ETH n) Fd.ETH_STAT_LINK_LOST = true)) ∧
  (∀ (n : Fin 2) (s : State),
    ∃ t, exec (.ethLinkUp n) s = .next t ∧
      (s.blockOn (Pg.ETH n) Fd.ETH_CTL_EN = false → t = s) ∧
      (s.blockOn (Pg.ETH n) Fd.ETH_CTL_EN = true → t.on (Pg.ETH n) Fd.ETH_STAT_LINK = true ∧ t.on (Pg.ETH n) Fd.ETH_STAT_BLOCK_LOCK = true ∧
        regsKept [Pg.ETH n * 4096 + Rg.ETH_STAT] s t)) ∧
  (∀ (n : Fin 2) (m : ArpMsg) (s : State),
    ∃ t, exec (.arpPacket n m) s = .next t ∧
      (s.ethUp n = true → m.tpa = s.ownIp n → s.net.arp.length < 1088 → t.arpOf n m.spa = some ⟨n, m.spa, some m.sha, none⟩ ∧
        (m.op = 1 → s.ethSends n = true → t.out = s.out ++ [.arp n 2 m.sha m.spa])) ∧
      (s.ethUp n = false ∨ (m.tpa ≠ s.ownIp n ∧ s.arpOf n m.spa = none) → t = s)) ∧
  (∀ (n : Fin 2) (ip : Nat) (e : ArpEntry) (s : State), s.arpOf n ip = some e →
    (∃ t, exec (.arpRefresh n ip) s = .next t ∧
      (e.mac.isSome = true → e.sent = none → t.arpOf n ip = some { e with sent := some 1 } ∧
        (s.ethSends n = true → t.out = s.out ++ [.arp n 1 0 ip])) ∧
      (e.mac = none ∨ e.sent.isSome = true → t = s)) ∧
    (∀ k, e.sent = some k → ∃ t, exec (.arpRetry n ip) s = .next t ∧
      (k ≤ s.fld (Pg.ETH n) Fd.ETH_ARP_CTL_RETRY → t.arpOf n ip = some { e with sent := some (k + 1) } ∧
        (s.ethSends n = true → t.out = s.out ++ [.arp n 1 0 ip])) ∧
      (s.fld (Pg.ETH n) Fd.ETH_ARP_CTL_RETRY < k → t.arpOf n ip = none ∧ t.out = s.out ∧
        t.fld (Pg.ETH n) Fd.ETH_ARP_CNT_b16 = satN 16 (s.fld (Pg.ETH n) Fd.ETH_ARP_CNT_b16 + 1)))) ∧
  (∀ (n : Fin 2) (ip id seq : Nat) (data : List Byte) (s : State), isGroup ip = false →
    ∃ t, exec (.icmpEcho n ip id seq data) s = .next t ∧
      (s.ethSends n = false ∨ s.on (Pg.ETH n) Fd.ETH_IP_CTL_ICMP_EN = false → t = s) ∧
      (s.ethSends n = true → s.on (Pg.ETH n) Fd.ETH_IP_CTL_ICMP_EN = true →
        (∀ e mac, s.arpOf n (s.nextHop n ip) = some e → e.mac = some mac → t.out = s.out ++ [.echo n ip id seq data] ∧
          t.fld (Pg.ETH n) (whole Rg.ETH_ICMP_CNT) = satN 32 (s.fld (Pg.ETH n) (whole Rg.ETH_ICMP_CNT) + 1)) ∧
        (s.arpOf n (s.nextHop n ip) = none → s.net.arp.length < 1088 → t.out = s.out ++ [.arp n 1 0 (s.nextHop n ip)] ∧
          t.rd (Pg.ETH n) Rg.ETH_ICMP_CNT = s.rd (Pg.ETH n) Rg.ETH_ICMP_CNT)))

/-- Sessions open and change, and their datagrams are placed or lost (R557, R558, R561, R562, R563, R564, R565). -/
def Obligations.SessionsAreAppliedFlushedAndServed : Prop :=
  (∀ (o : Owner) (w : Word) (s : State), s.access o Pg.NET = .granted → wf w 16 1 = 1 →
    let k := wf w 0 10
    ∃ t, exec (.sessApply o w) s = .next t ∧
      (sessBad (s.sessShadow k) = true → t.on Pg.NET Fd.NET_SESS_STAT_REFUSED = true ∧
        ∀ i, i < 16 → t.win (sessActiveAt k + 4 * i) = s.win (sessActiveAt k + 4 * i)) ∧
      (sessBad (s.sessShadow k) = false → s.mode.job = false → ∀ i, i < 16 → t.win (sessActiveAt k + 4 * i) = s.win (sessShadowAt k + 4 * i)) ∧
      (sessBad (s.sessShadow k) = false → s.mode.job = true →
        t.net.applies = s.net.applies ++ [⟨k, s.sessShadow k, s.lowView .active, s.nextLine (s.lowView .active), none⟩] ∧
        t.on Pg.NET Fd.NET_SESS_STAT_APPLY_PENDING = true ∧ t.window = s.window)) ∧
  (∀ (s : State),
    (s.dueApply = none → exec .sessApplyRepeat s = .next s) ∧
    (∀ a, s.dueApply = some a → ∃ t, exec .sessApplyRepeat s = .next t ∧ t.net.applies = s.net.applies.erase a ∧
      ∀ i (h : i < a.words.length), t.win (sessActiveAt a.sess + 4 * i) = a.words[i])) ∧
  (∀ (k : Fin 1024) (s : State),
    let x := s.sess k
    ∃ t, exec (.datagramFlush k) s = .next t ∧ (x.fill = [] → t = s) ∧
      (x.fill ≠ [] → (t.sess k).fill = [] ∧
        (x.fill.length + (s.owedGaps k).length ≤ s.recLimit k →
          ((t.sess k).count = x.count + 1 ∧ (t.sess k).lost = none ∧ (t.sess k).loss = x.loss) ∨
          ((t.sess k).count = x.count ∧ (t.sess k).loss = satN 16 (x.loss + x.fill.length))))) ∧
  (∀ (k : Fin 1024) (n : Nat) (s : State),
    let x := s.sess k
    ∃ t, exec (.statusDatagram k n) s = .next t ∧
      (s.netOn = false ∨ s.seOpen k = false ∨ s.seAct k = true → t = s.atNs n) ∧
      (s.netOn = true → s.seOpen k = true → s.seAct k = false → s.owedGaps k = [] → (t.sess k).fill = x.fill ∧
        (((t.sess k).count = x.count + 1 ∧ (t.sess k).lost = none) ∨ ((t.sess k).count = x.count ∧ (t.sess k).lost = some (0, 0))))) ∧
  (∀ (n : Fin 2) (ip udp : Nat) (k : Fin 1024) (seq count at_ : Nat) (s : State),
    let y := s.atNs at_
    let x := s.sess k
    let sec := y.rawNs / 10 ^ 9
    let inSec := if x.nackAt = sec then x.nackIn else 0
    let from_ := if s.se k 3 1 = 1 then s.inSubnet (s.sePort k) ip = true else s.seIp k = ip ∧ s.se k 64 16 = udp
    let good := s.seOpen k = true ∧ from_ ∧ seq / 2 ^ 48 = x.epoch ∧ inSec < 1000 ∧ 1 ≤ count ∧ count ≤ 64
    ∃ t, exec (.wrpNack n ip udp k seq count at_) s = .next t ∧
      (s.netOn = false ∨ s.ethUp n = false → t = y) ∧
      (s.netOn = true → s.ethUp n = true → good → (t.sess k).nacks = satN 16 (x.nacks + 1) ∧ (t.sess k).nackAt = sec ∧
        (t.sess k).nackIn = inSec + 1 ∧ (t.sess k).count = x.count) ∧
      (s.netOn = true → s.ethUp n = true → ¬good → t = y.bump Pg.NET Fd.NET_NACK_CNT_b16))

/-- Keys are loaded and cleared, the WX8 status and BAR2 served, and the host link goes and comes (R76, R570, R576, R577, R578,
R581, R618). -/
def Obligations.KeysWx8Bar2AndHostLink : Prop :=
  (∀ (o : Owner) (w : Word) (s : State), s.access o Pg.NET = .granted →
    let k := s.fld Pg.NET Fd.NET_KEY_SEL_b0
    let l := (if s.net.keySlot = k then s.net.keyLoad else []) ++ [w]
    ∃ t, exec (.keyDataWrite o w) s = .next t ∧ t.net.keySlot = k ∧
      (l.length < 8 → t.net.keyLoad = l ∧ t.net.keys = s.net.keys ∧ t.regs = s.regs) ∧
      (8 ≤ l.length → t.net.keyLoad = [] ∧ tabGet (dflt []) t.net.keys k = wordBytes l ∧ t.fld Pg.NET ⟨Rg.NET_KEY_STAT, k, 1⟩ = 1)) ∧
  (∀ (o : Owner) (w : Word) (s : State), s.access o Pg.NET = .granted → wf w 8 1 = 1 →
    ∃ t, exec (.keyClear o w) s = .next t ∧ tabGet (dflt []) t.net.keys (wf w 0 3) = [] ∧ t.fld Pg.NET ⟨Rg.NET_KEY_STAT, wf w 0 3, 1⟩ = 0 ∧
      (∀ k, k ≠ wf w 0 3 → tabGet (dflt []) t.net.keys k = tabGet (dflt []) s.net.keys k)) ∧
  (∀ (n : Fin 2) (ip udp : Nat) (s : State),
    let on := s.wx8On = true ∧ s.fld Pg.NET Fd.NET_WX8_CTL_PORT = n.val ∧ s.ethUp n = true
    ∃ t, exec (.wx8StatusRequest n ip udp) s = .next t ∧ (¬on → t = s) ∧
      (on → t.fld Pg.NET Fd.NET_WX8_CNT_b16 = satN 16 (s.fld Pg.NET Fd.NET_WX8_CNT_b16 + 1) ∧
        tabGet (dflt 0) t.net.wx8Seq 3 = (tabGet (dflt 0) s.net.wx8Seq 3 + 1) % 2 ^ 32 ∧ t.mem = s.mem)) ∧
  (∀ (a : Nat) (data : List Byte) (s : State),
    let live := s.on Pg.PCIE Fd.PCIE_STAT_LINK_UP = true ∧ s.mode ≠ .boot
    ∃ t, exec (.bar2Write a data) s = .next t ∧ (¬live → t = s) ∧
      (live → data ≠ [] → s.outOfRange a data.length = false → (∀ j, j < 64 → s.inJob j a data.length = false) →
        t.mem = (s.storeHost a data).mem)) ∧
  (∀ (a n : Nat) (s : State),
    let live := s.on Pg.PCIE Fd.PCIE_STAT_LINK_UP = true ∧ s.mode ≠ .boot
    ∃ t, exec (.bar2Read a n) s = .next t ∧ (¬live → t = s) ∧
      (live → s.dramBad a n = false → t.out = s.out ++ [.completion a (s.dram a n) false] ∧ t.mem = s.mem) ∧
      (live → s.dramBad a n = true → t.out.getLast? = some (.completion a [] true))) ∧
  (∀ (s : State),
    (∃ t, exec .perst s = .next t ∧ t.rd Pg.PCIE Rg.PCIE_STAT = 0 ∧ t.rd Pg.PCIE Rg.PCIE_LINK = 0 ∧ (∀ p ∈ pageList, t.lockHolder p ≠ 2) ∧
      ∀ a, 0x0C0000 ≤ a → a < 0x0C1000 → t.win a = winReset a) ∧
    (∀ bme, ∃ t, exec (.pcieLinkDown bme) s = .next t ∧ t.on Pg.PCIE Fd.PCIE_STAT_BUS_MASTER = false ∧
      (bme = false → t.on Pg.PCIE Fd.PCIE_STAT_LINK_UP = false ∧ t.rd Pg.PCIE Rg.PCIE_LINK = 0) ∧
      (bme = true → t.on Pg.PCIE Fd.PCIE_STAT_LINK_UP = s.on Pg.PCIE Fd.PCIE_STAT_LINK_UP) ∧ ∀ p ∈ pageList, t.lockHolder p ≠ 2) ∧
    (∀ link eq lanes, ∃ t, exec (.pcieLinkUp link eq lanes) s = .next t ∧ t.on Pg.PCIE Fd.PCIE_STAT_LINK_UP = true ∧
      t.on Pg.PCIE Fd.PCIE_STAT_BUS_MASTER = true ∧ t.rd Pg.PCIE Rg.PCIE_LINK = link &&& 0x1FFF ∧ t.rd Pg.PCIE Rg.PCIE_EQ_STAT = eq ∧
      t.rd Pg.PCIE Rg.PCIE_LANE_STAT = lanes))

/-- WCP requests are checked, executed once, and answered (R569, R570, R571, R572, R573). -/
def Obligations.WcpRequestsAreCheckedExecutedAndAnswered : Prop :=
  let ready (c : Nat) (m : WcpMsg) (s : State) : Prop := s.netOn = true ∧ s.on Pg.NET Fd.NET_CTL_WCP_EN = true ∧ s.ethUp m.port = true ∧
    s.wcpFramed m = true ∧ (c = wcpHello ∨ s.wcpMacOk c m = true)
  let last (m : WcpMsg) (s : State) : Nat := (tabGet (dflt none) s.net.nonce m.keyId.val).getD s.net.floor
  let taken (m : WcpMsg) (s : State) : State := State.bump { s with net := { s.net with
    nonce := tabPut (dflt none) m.keyId.val (some m.nonce) s.net.nonce, resp := tabPut (dflt []) m.keyId.val [] s.net.resp } } Pg.NET Fd.NET_WCP_CNT_b0
  let resp (m : WcpMsg) (t : State) : List Byte := tabGet (dflt []) t.net.resp m.keyId.val
  (∀ (m : WcpMsg) (c : Nat) (i : Instr) (s : State),
    (c, i) ∈ [(wcpHello, Instr.wcpHello m), (wcpRegRead, .wcpRegRead m), (wcpRegWrite, .wcpRegWrite m), (wcpJobCmd, .wcpJobCmd m),
      (wcpModeCmd, .wcpModeCmd m), (wcpBulkWrite, .wcpBulkWrite m), (wcpBulkRead, .wcpBulkRead m), (wcpBulkCrc, .wcpBulkCrc m)] →
    ∃ t, exec i s = .next t ∧
      (s.netOn = false ∨ s.on Pg.NET Fd.NET_CTL_WCP_EN = false ∨ s.ethUp m.port = false → t = s) ∧
      (s.netOn = true → s.on Pg.NET Fd.NET_CTL_WCP_EN = true → s.ethUp m.port = true →
        s.wcpFramed m = false ∨ (c ≠ wcpHello ∧ s.wcpMacOk c m = false) → t.net.nonce = s.net.nonce ∧ t.net.wcpQ = s.net.wcpQ ∧
          t.fld Pg.NET Fd.NET_WCP_REJ_AUTH = satN Fd.NET_WCP_REJ_AUTH.len (s.fld Pg.NET Fd.NET_WCP_REJ_AUTH + 1)) ∧
      (ready c m s → s.net.wcpBusy.isSome = true → t.net.nonce = s.net.nonce ∧
        (s.net.wcpQ.length < 16 → t.net.wcpQ = s.net.wcpQ ++ [(c, m)]) ∧
        (16 ≤ s.net.wcpQ.length → t = s.bump Pg.NET Fd.NET_WCP_CNT_b16)) ∧
      (ready c m s → s.net.wcpBusy = none → c ≠ wcpHello → m.nonce < last m s → t.net.nonce = s.net.nonce ∧ t.net.resp = s.net.resp ∧
        t.fld Pg.NET Fd.NET_WCP_REJ_REPLAY = satN Fd.NET_WCP_REJ_REPLAY.len (s.fld Pg.NET Fd.NET_WCP_REJ_REPLAY + 1))) ∧
  (∀ (m : WcpMsg) (s : State), ready wcpHello m s → s.net.wcpBusy = none →
    ∃ t, exec (.wcpHello m) s = .next t ∧ t.net.nonce = s.net.nonce ∧ t.free = s.free + 1 ∧
      t.fld Pg.NET Fd.NET_WCP_CNT_b0 = satN 16 (s.fld Pg.NET Fd.NET_WCP_CNT_b0 + 1)) ∧
  (∀ (m : WcpMsg) (s : State), ready wcpRegRead m s → s.net.wcpBusy = none → last m s < m.nonce →
    let x := taken m s
    let r := x.readWords .net m.arg0 m.arg1
    let form := m.arg0 % 4 = 0 ∧ 1 ≤ m.arg1 ∧ m.arg1 ≤ 256 ∧ 4 * m.arg1 ≤ s.mtu m.port - 76
    ∃ t, exec (.wcpRegRead m) s = .next t ∧
      (¬form → resp m t = s.wcpBytes wcpRegRead m wcpFormat ∧ t.mem = s.mem) ∧
      (form → (inBar0 m.arg0 && inBar0 (m.arg0 + 4 * m.arg1 - 4)) = false → resp m t = s.wcpBytes wcpRegRead m wcpRange ∧ t.mem = s.mem) ∧
      (form → (inBar0 m.arg0 && inBar0 (m.arg0 + 4 * m.arg1 - 4)) = true →
        resp m t = r.1.wcpBytes wcpRegRead m { wcpOk with payload := wordBytes r.2 } ∧ t.mem = r.1.mem)) ∧
  (∀ (m : WcpMsg) (s : State), ready wcpRegWrite m s → s.net.wcpBusy = none → last m s < m.nonce →
    let x := taken m s
    let r := x.writeWords .net m.keyId m.arg0 ((List.range m.arg1).map fun i => leWord m.payload i)
    let form := m.arg0 % 4 = 0 ∧ 1 ≤ m.arg1 ∧ m.arg1 ≤ 256 ∧ m.payload.length = 4 * m.arg1
    ∃ t, exec (.wcpRegWrite m) s = .next t ∧
      (¬form → resp m t = s.wcpBytes wcpRegWrite m wcpFormat ∧ t.mem = s.mem) ∧
      (form → (inBar0 m.arg0 && inBar0 (m.arg0 + 4 * m.arg1 - 4)) = true →
        resp m t = r.1.wcpBytes wcpRegWrite m { (if r.2 = m.arg1 then wcpOk else wcpGuarded) with arg1 := r.2 } ∧ t.mem = r.1.mem)) ∧
  (∀ (m : WcpMsg) (s : State), ready wcpJobCmd m s → s.net.wcpBusy = none → last m s < m.nonce → s.access .net Pg.SYS = .granted →
    let x := taken m s
    let w : Word := BitVec.ofNat 32 m.arg0
    let y := x.jobCtl .net w
    ∃ t, exec (.wcpJobCmd m) s = .next t ∧ t.mem = y.mem ∧ t.jobN = y.jobN ∧ t.valJob = y.valJob ∧
      (x.jobCmdOk w = true → t.net.wcpBusy = some (wcpJobCmd, m)) ∧
      (x.jobCmdOk w = false → resp m t = y.wcpBytes wcpJobCmd m { wcpRefused with arg0 := y.wcpShows wcpJobCmd })) ∧
  (∀ (m : WcpMsg) (s : State), ready wcpModeCmd m s → s.net.wcpBusy = none → last m s < m.nonce → s.access .net Pg.SYS = .granted →
    let y := ((taken m s).refusal 0).modeReq .net (wfSet (BitVec.ofNat 32 m.arg0) 8 1 1)
    ∃ t, exec (.wcpModeCmd m) s = .next t ∧ t.mode = y.mode ∧
      (y.fld Pg.SYS Fd.SYS_MODE_REFUSAL = 0 → t.net.wcpBusy = some (wcpModeCmd, m)) ∧
      (y.fld Pg.SYS Fd.SYS_MODE_REFUSAL ≠ 0 → resp m t = y.wcpBytes wcpModeCmd m { wcpRefused with arg0 := y.wcpShows wcpModeCmd })) ∧
  (∀ (c : Nat) (m : WcpMsg) (late : Bool) (s : State), s.net.wcpBusy = some (c, m) → s.net.wcpQ = [] → c ≠ wcpHello →
    ∃ t, exec (.wcpCmdResponse late) s = .next t ∧
      (s.wcpFinished c m = true → t.net.wcpBusy = none ∧ resp m t = s.wcpBytes c m { wcpOk with arg0 := s.wcpShows c }) ∧
      (s.wcpFinished c m = false → late = true → t.net.wcpBusy = none ∧ resp m t = s.wcpBytes c m { wcpIsBusy with arg0 := s.wcpShows c }) ∧
      (s.wcpFinished c m = false → late = false → t = s)) ∧
  (∀ (m : WcpMsg) (s : State), s.net.wcpBusy = none → last m s < m.nonce →
    let x := taken m s
    (ready wcpBulkWrite m s → ∃ t, exec (.wcpBulkWrite m) s = .next t ∧
      (m.payload.length % 8 ≠ 0 → resp m t = s.wcpBytes wcpBulkWrite m wcpFormat ∧ t.mem = s.mem) ∧
      (m.payload.length % 8 = 0 →
        inUnits (s.rd Pg.NET Rg.NET_BULK_BASE).toNat (s.rd Pg.NET Rg.NET_BULK_SIZE).toNat m.arg2 m.payload.length = true →
        t.mem = (x.hostWrite 3 m.arg2 m.payload).mem ∧ resp m t = s.wcpBytes wcpBulkWrite m wcpOk) ∧
      (m.payload.length % 8 = 0 →
        inUnits (s.rd Pg.NET Rg.NET_BULK_BASE).toNat (s.rd Pg.NET Rg.NET_BULK_SIZE).toNat m.arg2 m.payload.length = false →
        t.mem = s.mem ∧ resp m t = s.wcpBytes wcpBulkWrite m wcpRange)) ∧
    (ready wcpBulkRead m s → ∃ t, exec (.wcpBulkRead m) s = .next t ∧
      (s.mtu m.port - 76 < m.arg1 → resp m t = s.wcpBytes wcpBulkRead m wcpFormat) ∧
      (m.arg1 ≤ s.mtu m.port - 76 → s.inReadWindow m.arg2 m.arg1 = false → resp m t = s.wcpBytes wcpBulkRead m wcpRange) ∧
      (∀ l, m.arg1 ≤ s.mtu m.port - 76 → s.inReadWindow m.arg2 m.arg1 = true → (x.memRead 3 m.arg2 m.arg1).2 = some l →
        resp m t = s.wcpBytes wcpBulkRead m { wcpOk with payload := l })) ∧
    (ready wcpBulkCrc m s → ∃ t, exec (.wcpBulkCrc m) s = .next t ∧
      (s.inReadWindow m.arg2 m.arg1 = false → resp m t = s.wcpBytes wcpBulkCrc m wcpRange) ∧
      (∀ l, s.inReadWindow m.arg2 m.arg1 = true → (x.memRead 3 m.arg2 m.arg1).2 = some l →
        resp m t = s.wcpBytes wcpBulkCrc m { wcpOk with arg0 := crc32c l })))

/-- Locks are taken, freed and broken; leases of stages and owners revoked; drains completed (R611, R612, R615, R616, R619, R620,
R664, R665). -/
def Obligations.LocksAndLeasesAreKept : Prop :=
  (∀ (o : Owner) (p : Fin 128) (w : Word) (s : State), s.reaches o p = true → (pageAt p).isSome = true → wf w 0 1 = 1 → wf w 1 1 = 0 →
    ∃ t, exec (.lockAcquire o p w) s = .next t ∧
      (s.permits (ownerCode o) p = true → s.lockHolder p = 0 → t.lockHolder p = ownerCode o ∧ t.on p Fd.HDR_LOCK_HELD = true ∧
        tabGet (dflt 0) t.lockAt p = s.raw ∧ pagesKept [p.val, Pg.SYS] s t) ∧
      (s.permits (ownerCode o) p = false → t.lockHolder p = s.lockHolder p ∧ t.on p Fd.HDR_PAGE_STAT_REFUSED = true ∧
        t.fld Pg.SYS (whole Rg.SYS_ACC_CNT) = satN 32 (s.fld Pg.SYS (whole Rg.SYS_ACC_CNT) + 1)) ∧
      (s.permits (ownerCode o) p = true → s.lockHolder p ≠ 0 → t.regs = s.regs)) ∧
  (∀ (o : Owner) (p : Fin 128) (w : Word) (s : State), s.reaches o p = true → (pageAt p).isSome = true → wf w 0 1 = 0 → wf w 1 1 = 1 →
    ∃ t, exec (.lockRelease o p w) s = .next t ∧
      (s.lockHolder p = ownerCode o → t.lockHolder p = 0 ∧ t.on p Fd.HDR_LOCK_HELD = false ∧ pagesKept [p.val, Pg.SYS] s t) ∧
      (s.lockHolder p ≠ ownerCode o → t = s)) ∧
  (∀ (o : Owner) (p : Fin 128) (w : Word) (s : State), s.reaches o p = false ∨ pageAt p = none →
    exec (.lockAcquire o p w) s = .next s ∧ exec (.lockRelease o p w) s = .next s) ∧
  (∀ (p : Fin 128) (n : Nat) (s : State),
    let lim := s.fld Pg.SUPV1 Fd.SUPV1_LOCK_TO_b0
    let due := tabGet (dflt 0) s.lockAt p + lim * 10 ^ 9 * 65536
    ∃ t, exec (.lockToExpiry p n) s = .next t ∧
      (lim = 0 ∨ (s.atNs n).raw < due ∨ s.lockHolder p = 0 → t = s.atNs n) ∧
      (lim ≠ 0 → due ≤ (s.atNs n).raw → s.lockHolder p ≠ 0 → t.lockHolder p = 0 ∧
        t.rd Pg.SUPV1 Rg.SUPV1_LAST_REVOKE = BitVec.ofNat 32 (p % 65536 + 65536 * 7 + 2 ^ 20 * s.lockHolder p))) ∧
  (∀ (p : Fin 128) (s : State),
    let idle := s.on Pg.SUPV1 Fd.SUPV1_CTL_LEASE_EN = false ∨ p.val ∉ stagePages ∨ s.on p Fd.HDR_PAGE_STAT_BUSY = true
    ∃ t, exec (.leaseTimeout p) s = .next t ∧ (idle → t = s) ∧
      (¬idle → p.val ∈ t.revoking ∧ t.on p Fd.HDR_PAGE_STAT_BUSY = true ∧ t.on Pg.SUPV1 Fd.SUPV1_STAT_DRAIN_ACTIVE = true)) ∧
  (∀ (q : Fin 8192) (o : Owner) (s : State),
    let idle := s.on Pg.SUPV1 Fd.SUPV1_CTL_LEASE_EN = false ∨ (s.q q).credOf (8 + ownerCode o) = 0
    ∃ t, exec (.hostLeaseTimeout q o) s = .next t ∧ (idle → t = s) ∧
      (¬idle → (t.q q).credOf (8 + ownerCode o) = 0 ∧
        t.rd Pg.SUPV1 Rg.SUPV1_LAST_REVOKE = BitVec.ofNat 32 (q % 65536 + 65536 * 3 + 2 ^ 20 * ownerCode o))) ∧
  (∀ (p : Fin 128) (alive : Bool) (s : State),
    ∃ t, exec (.stageResetCheck p alive) s = .next t ∧ (p.val ∉ s.revoking → t = s) ∧
      (p.val ∈ s.revoking → t.revoking = s.revoking.filter (· != p.val) ∧ t.dead = if alive then s.dead else insertBy id p.val s.dead)) ∧
  (∀ (s : State),
    let active := s.on Pg.SUPV1 Fd.SUPV1_STAT_DRAIN_ACTIVE = true
    ∃ t, exec .drainComplete s = .next t ∧ (¬active → t = s) ∧
      (active → s.mode ≠ .hold → s.earliest ≠ 7 ∨ s.revoking ≠ [] → t = s) ∧
      (active → s.mode ≠ .hold → s.earliest = 7 → s.revoking = [] → t.on Pg.SUPV1 Fd.SUPV1_STAT_DRAIN_ACTIVE = false ∧
        regsKept [Pg.SUPV1 * 4096 + Rg.SUPV1_STAT] s t) ∧
      (active → s.mode = .hold → s.toSend .active + s.toSend .next = 0 → s.earliest = 7 → s.revoking = [] →
        t.on Pg.SUPV1 Fd.SUPV1_STAT_DRAIN_ACTIVE = false ∧ t.on Pg.SYS Fd.SYS_MODE_HOLD_CLEARABLE = true))

/-- FAULT_N cleared, the log and commit records read, pins overridden and guarded, clock locks lost (R603, R607, R608, R620, R669,
R670, R672, R696, R697). -/
def Obligations.FaultLogCommitAndPinRegistersAct : Prop :=
  (∀ (o : Owner) (w : Word) (s : State), s.access o Pg.SUPV0 = .granted → wf w 2 1 = 1 →
    let fatal := s.mode = .hold ∧ s.fld Pg.SYS Fd.SYS_MODE_HOLD_ENTRY ≠ 0xFF
    ∃ t, exec (.faultClr o w) s = .next t ∧ t.fld Pg.SUPV0 Fd.SUPV0_FAULT_CTL_FATAL_EN = wf w 1 1 ∧
      (¬fatal → t.rd Pg.SUPV0 Rg.SUPV0_FAULT_STAT = 0) ∧ (fatal → t.rd Pg.SUPV0 Rg.SUPV0_FAULT_STAT = s.rd Pg.SUPV0 Rg.SUPV0_FAULT_STAT) ∧
      regsKept [Pg.SUPV0 * 4096 + Rg.SUPV0_FAULT_CTL, Pg.SUPV0 * 4096 + Rg.SUPV0_FAULT_STAT] s t) ∧
  (∀ (o : Owner) (w : Word) (s : State), s.access o Pg.SUPV0 = .granted →
    ∃ t, exec (.logAckWrite o w) s = .next t ∧ t.rd Pg.SUPV0 Rg.SUPV0_LOG_ACK = w ∧ regsKept [Pg.SUPV0 * 4096 + Rg.SUPV0_LOG_ACK] s t) ∧
  (∀ (o : Owner) (s : State),
    ∃ t, exec (.logData0Read o) s = .next t ∧ (s.reaches o Pg.SUPV0 = false → t = s) ∧
      (s.reaches o Pg.SUPV0 = true → t.logLatch = (List.range 7).map (fun i => s.logWord (i + 1)) ∧ t.regs = s.regs ∧
        t.out = s.out ++ [.readData (ownerCode o) (Pg.SUPV0 * 4096 + Rg.SUPV0_LOG_DATA 0) (s.logWord 0)])) ∧
  (∀ (o : Owner) (s : State),
    let n := (s.cmtSel.bind (·.line)).getD 0
    ∃ t, exec (.cmtLineLoRead o) s = .next t ∧ (s.reaches o Pg.SYS = false → t = s) ∧
      (s.reaches o Pg.SYS = true → t.rd Pg.SYS Rg.SYS_CMT_LINE_HI = BitVec.ofNat 32 (n / 2 ^ 32) ∧ t.rd Pg.SYS Rg.SYS_CMT_STAT = cmtStat s.cmtSel ∧
        t.out = s.out ++ [.readData (ownerCode o) (Pg.SYS * 4096 + Rg.SYS_CMT_LINE_LO) (BitVec.ofNat 32 n)] ∧
        regsKept [Pg.SYS * 4096 + Rg.SYS_CMT_LINE_HI, Pg.SYS * 4096 + Rg.SYS_CMT_STAT] s t)) ∧
  (∀ (o : Owner) (b : Fin 2) (w : Word) (s : State), s.access o (pinPage b) = .granted →
    ∃ t, exec (.manEnWrite o b w) s = .next t ∧
      (s.mode = .idle ∨ s.mode = .setup → t.fld (pinPage b) ⟨pinMan b, 0, 16⟩ = wf w 0 16 ∧ regsKept [pinPage b * 4096 + pinMan b] s t) ∧
      (s.mode ≠ .idle ∧ s.mode ≠ .setup → t.rd (pinPage b) (pinMan b) = s.rd (pinPage b) (pinMan b) ∧
        t.on (pinPage b) ⟨Rg.PINS0_PIN_STAT, 1, 1⟩ = true)) ∧
  (∀ (o : Owner) (b : Fin 2) (w : Word) (s : State), s.access o (pinPage b) = .granted →
    ∃ t, exec (.pinGuardWrite o b w) s = .next t ∧
      (o = .boot → t.fld (pinPage b) ⟨pinGuard b, 0, 16⟩ = wf w 0 16 ∧ regsKept [pinPage b * 4096 + pinGuard b] s t) ∧
      (o ≠ .boot → t.rd (pinPage b) (pinGuard b) = s.rd (pinPage b) (pinGuard b) ∧ t.on (pinPage b) ⟨Rg.PINS0_PIN_STAT, 2, 1⟩ = true)) ∧
  (∀ (d : Fin 40) (s : State),
    ∃ t, exec (.clkLockLost d) s = .next t ∧ (d.val = 34 → t = s) ∧
      (d.val ≠ 34 → t.on Pg.CLK ⟨Rg.CLK_LOCK0 + 4 * (d / 32), d % 32, 1⟩ = false ∧ t.on Pg.CLK ⟨Rg.CLK_LOST0 + 4 * (d / 32), d % 32, 1⟩ = true ∧
        t.rd Pg.CLK (Rg.CLK_FREQ d) = 0 ∧
        regsKept [Pg.CLK * 4096 + Rg.CLK_LOCK0 + 4 * (d / 32), Pg.CLK * 4096 + Rg.CLK_LOST0 + 4 * (d / 32), Pg.CLK * 4096 + Rg.CLK_FREQ d] s t))

/-- Commits are refused, taken at once or at their boundary (R10, R15, R16, R57, R369, R404, R666, R667, R668, R669). -/
def Obligations.CommitsTakeEffectAtTheirBoundary : Prop :=
  (∀ (o : Owner) (p : Fin 128) (w : Word) (s : State), s.access o p = .granted → (pageAt p).isSome = true → wf w 0 1 = 1 →
    ∃ t, exec (.commitReq o p w) s = .next t ∧
      ((s.pend p).isSome = true ∨ 4 < wf w 1 3 → t.on p Fd.HDR_COMMIT_REFUSED = true ∧ t.pend p = s.pend p ∧ t.shadow = s.shadow ∧
        regsKept [p * 4096 + Rg.HDR_COMMIT] s t) ∧
      ((p.val = Pg.MRG ∧ (s.committed p).mrgBad = false) ∨ (∃ e, e < 8 ∧ p.val = Pg.IE e) → s.mode = .idle ∨ s.mode = .setup → (∀ v, v < 4 → s.running v = false) →
        s.pend p = none → wf w 1 3 ≤ 4 → t.pend p = none ∧ t.on p Fd.HDR_COMMIT_PENDING = false ∧ t.on p Fd.HDR_COMMIT_REFUSED = false ∧
          t.fld p Fd.HDR_PAGE_STAT_GEN = (s.fld p Fd.HDR_PAGE_STAT_GEN + 1) % 65536 ∧
          (∀ off, off ∈ rwsOffsets p → t.rd p off = s.newWord p off) ∧ pagesKept [p.val] s t) ∧
      (p.val = Pg.MRG → (s.committed p).mrgBad = true → t.on p Fd.HDR_COMMIT_REFUSED = true ∧ t.pend p = s.pend p ∧
        regsKept [p * 4096 + Rg.HDR_COMMIT] s t) ∧
      (p.val = Pg.MRG → (s.committed p).mrgBad = false → s.mode.job = true → s.running 0 = true → s.pend p = none → wf w 1 3 = 4 →
        (t.pend p).isSome = true ∧ t.on p Fd.HDR_COMMIT_PENDING = true ∧ t.on p Fd.HDR_COMMIT_REFUSED = false ∧ ∀ off, 0x40 ≤ off → off < 4096 → t.rd p off = s.rd p off) ∧
      ((∃ e, e < 8 ∧ p.val = Pg.IE e) → s.mode.job = true → s.pend p = none → wf w 1 3 ≤ 4 →
        t.on p Fd.HDR_COMMIT_REFUSED = true ∧ t.on p Fd.IE_STAT_CFG_REFUSED = true ∧ t.pend p = none)) ∧
  (∀ (p : Fin 128) (s : State), p.val ∈ [Pg.MRG, Pg.VRD, Pg.ZIP] →
    ∃ t, exec (.commitEffect p) s = .next t ∧
      (s.pend p = none → t = s) ∧
      (∀ c v m off w, s.pend p = some c → c.parts = [⟨[(p * 4096 + off, w)], .line v m, [v]⟩] → v < 4 → 0x40 ≤ off → off < 4096 →
        (s.running v = false ∨ s.stageNext p v < m → t = s) ∧
        (s.running v = true → m ≤ s.stageNext p v → t.pend p = none ∧ t.rd p off = mergeRws (p * 4096 + off) (s.rd p off) w ∧
          t.fld p Fd.HDR_PAGE_STAT_GEN = (s.fld p Fd.HDR_PAGE_STAT_GEN + 1) % 65536 ∧
          (c.lines = [] → t.cmt p v = some ⟨some (s.stageNext p v), c.at_, (s.fld p Fd.HDR_PAGE_STAT_GEN + 1) % 65536, s.time⟩))))

/-- Registers and windows are written by their access codes, refused by guard and lock, blocks soft-reset (R4, R6, R568, R658, R661,
R664). -/
def Obligations.RegisterWritesAndSoftResets : Prop :=
  (∀ (o : Owner) (p off : Nat) (w : Word) (r : RegDef) (s : State), off < 4096 → off % 4 = 0 → 0x40 ≤ off → (pageAt p).isSome = true →
    regDefAt (p * 4096 + off) = some r →
    ∃ t, exec (.registerWrite o (p * 4096 + off) w) s = .next t ∧
      (s.access o p = .granted → p ∈ [Pg.SUPV1, Pg.POS, Pg.DLR, Pg.REG, Pg.RUL] → r.wro = 0 →
        t.rd p off = (s.rd p off &&& ~~~r.rw &&& ~~~(r.w1c &&& w)) ||| (w &&& r.rw) ∧
        t.rdShadow p off = (s.rdShadow p off &&& ~~~r.rws) ||| (w &&& r.rws)) ∧
      (s.access o p = .guard → p ≠ Pg.SYS → t.rd p off = s.rd p off ∧ t.on p Fd.HDR_PAGE_STAT_REFUSED = true ∧
        t.rd Pg.SYS Rg.SYS_ACC_ERR = BitVec.ofNat 32 (p + 256 * off + 2 ^ 20 * ownerCode o) ∧
        t.fld Pg.SYS (whole Rg.SYS_ACC_CNT) = satN 32 (s.fld Pg.SYS (whole Rg.SYS_ACC_CNT) + 1)) ∧
      (s.access o p = .lock → p ≠ Pg.SYS → t.rd p off = s.rd p off ∧ t.on p Fd.HDR_PAGE_STAT_REFUSED = true ∧
        t.rd Pg.SYS Rg.SYS_ACC_ERR = BitVec.ofNat 32 (p + 256 * off + 2 ^ 20 * ownerCode o + 2 ^ 23) ∧
        t.fld Pg.SYS (whole Rg.SYS_ACC_CNT) = satN 32 (s.fld Pg.SYS (whole Rg.SYS_ACC_CNT) + 1)) ∧
      (s.access o p = .absent → t = s)) ∧
  (∀ (o : Owner) (a : Nat) (w : Word) (s : State),
    ∃ t, exec (.registerWrite o a w) s = .next t ∧
      (a % 4 ≠ 0 → t = s) ∧
      (pageAt (a / 4096) = none → (0x400000 ≤ a ∧ a < 0x800000) ∨ 0x1000000 ≤ a → t = s) ∧
      (a % 4 = 0 → 0x1A0000 ≤ a → a < 0x1B0000 → s.mode ≠ .boot → t.win a = w &&& sessMask (a / 4 % 16) ∧ t.regs = s.regs)) ∧
  (∀ (o : Owner) (p : Fin 128) (w : Word) (s : State), s.reaches o p = true → p.val ∈ [Pg.DMA, Pg.QF, Pg.ZIP] →
    ∃ t, exec (.pageSrst o p w) s = .next t ∧
      (s.on p Fd.HDR_PAGE_STAT_BUSY = true ∨ wf w 1 1 = 0 → t.dma = s.dma ∧ t.queue = s.queue ∧ t.zip = s.zip ∧
        regsKept [p * 4096 + Rg.HDR_PAGE_CTL] s t ∧ t.fld p Fd.HDR_PAGE_CTL_EN = wf w 0 1) ∧
      (s.on p Fd.HDR_PAGE_STAT_BUSY = false → wf w 1 1 = 1 → t.on p Fd.HDR_PAGE_STAT_BUSY = true ∧
        (p.val = Pg.DMA → t.dma = [] ∧ t.queue = s.queue ∧ pagesKept [p.val] s t) ∧ (p.val = Pg.QF → t.queue = [] ∧ t.levels = []) ∧
        (p.val = Pg.ZIP → t.zip = {} ∧ t.queue = s.queue))) ∧
  (∀ (o : Owner) (p : Fin 128) (w : Word) (s : State), s.reaches o p = false ∨ pageAt p = none → exec (.pageSrst o p w) s = .next s) ∧
  (∀ (p : Fin 128) (s : State),
    ∃ t, exec (.pageSrstDone p) s = .next t ∧ (pageAt p = none → t = s) ∧
      ((pageAt p).isSome = true → t.on p Fd.HDR_PAGE_STAT_BUSY = false ∧ regsKept [p * 4096 + Rg.HDR_PAGE_STAT] s t))

/-- Resets keep what they keep; a boot runs to its image or its stop; a host load and the release follow (R69, R434, R621, R622,
R623, R625, R632, R633, R634, R635, R639). -/
def Obligations.ResetsBootAndRelease : Prop :=
  (∀ (s : State), ∃ t, exec .porstAssert s = .next t ∧ (∀ p off, t.rd p off = regReset (p * 4096 + off)) ∧ t.mode = .boot ∧ t.fuse = s.fuse ∧
    t.raw = 0 ∧ t.mem = [] ∧ t.trained = []) ∧
  (∀ (s : State), ∃ t, exec .srstAssert s = .next t ∧ t.mode = .boot ∧ t.on Pg.BOOT Fd.BOOT_STAT_WARM = true ∧ t.fuse = s.fuse ∧ t.mem = s.mem ∧
    t.blank = s.blank ∧ t.trained = s.trained ∧ t.raw = s.raw ∧ t.tb.offset = s.tb.offset ∧ t.tb.rate = s.tb.rate ∧
    (∀ p ∈ pageList, t.lockHolder p = 0) ∧ (s.trained ≠ [] → t.on Pg.MCG Fd.MCG_STAT_SELF_REFRESH = true)) ∧
  (∀ (fuses : Nat) (b : BootIn) (s : State),
    let ready := s.mode = .boot ∧ s.fld Pg.BOOT Fd.BOOT_STAT_STEP = 0 ∧ s.fld Pg.BOOT Fd.BOOT_STAT_WARM = 0
    let fuse := s.fuse ||| fuses
    let good := ready ∧ fuseCrcOk fuse = true
    ∃ t, exec (.coldBoot fuses b) s = .next t ∧ (¬ready → t = s) ∧
      (ready → fuseCrcOk fuse = false → t.fld Pg.BOOT Fd.BOOT_STAT_STEP = 6 ∧ t.fuse = fuse) ∧
      (good → b.repairOk = false → t.fld Pg.BOOT Fd.BOOT_STAT_STEP = 6 ∧ t.fuse = fuse) ∧
      (good → b.repairOk = true → b.sel = 2 → t.fld Pg.BOOT Fd.BOOT_STAT_STEP = 5 ∧ t.bootWait = true ∧ t.fuse = fuse) ∧
      (good → b.repairOk = true → b.sel = 3 → tbit fuse 257 = false → t.fld Pg.BOOT Fd.BOOT_STAT_STEP = 1 ∧ t.on Pg.TST Fd.TST_STAT_b2 = true) ∧
      (good → b.repairOk = true → b.sel = 0 → recordGen 0 b.slotA = none → recordGen 1 b.slotB = none →
        t.fld Pg.BOOT Fd.BOOT_STAT_STEP = 5 ∧ t.bootWait = true) ∧
      (∀ g ver len ok l, good → b.repairOk = true → b.sel = 0 → recordGen 0 b.slotA = some g → recordGen 1 b.slotB = none →
        checkImage fuse b.slotA.image slotLimit = .pass ver len ok l →
        t.fld Pg.BOOT Fd.BOOT_STAT_STEP = 3 ∨ t.fld Pg.BOOT Fd.BOOT_STAT_STEP = 6)) ∧
  (∀ (b : BootIn) (s : State),
    let ready := s.mode = .boot ∧ s.fld Pg.BOOT Fd.BOOT_STAT_STEP = 0 ∧ s.fld Pg.BOOT Fd.BOOT_STAT_WARM = 1
    let good := ready ∧ fuseCrcOk s.fuse = true
    ∃ t, exec (.warmBoot b) s = .next t ∧ (¬ready → t = s) ∧
      (ready → fuseCrcOk s.fuse = false → t.fld Pg.BOOT Fd.BOOT_STAT_STEP = 6) ∧
      (good → b.repairOk = false → t.fld Pg.BOOT Fd.BOOT_STAT_STEP = 6) ∧
      (good → b.repairOk = true → b.sel = 2 → t.fld Pg.BOOT Fd.BOOT_STAT_STEP = 5 ∧ t.bootWait = true) ∧
      (∀ g ver len ok l, good → b.repairOk = true → b.sel = 0 → recordGen 0 b.slotA = some g → recordGen 1 b.slotB = none →
        checkImage s.fuse b.slotA.image slotLimit = .pass ver len ok l →
        t.fld Pg.BOOT Fd.BOOT_STAT_STEP = 3 ∨ t.fld Pg.BOOT Fd.BOOT_STAT_STEP = 6)) ∧
  (∀ (o : Owner) (w : Word) (n : Nat) (train : Option (List MarginRead)) (track : List TrackRead) (s : State), s.access o Pg.PCIE = .granted →
    let img := (wordBytes ((List.range ((wf w 0 24 + 3) / 4)).map fun i => s.win (0x800000 + 4 * i))).take (wf w 0 24)
    ∃ t, exec (.hostLoadGo o w n train track) s = .next t ∧
      (wf w 31 1 = 0 ∨ s.bootWait = false → t.window = s.window ∧ regsKept [Pg.PCIE * 4096 + Rg.PCIE_HOST_LOAD] s t) ∧
      (∀ c i, wf w 31 1 = 1 → s.bootWait = true → wf w 0 24 ≤ loadLimit → checkImage s.fuse img (wf w 0 24) = .reject c i → c < 256 →
        t.fld Pg.BOOT Fd.BOOT_REJECT_b16 = c ∧ t.bootWait = true) ∧
      (∀ ver len ok l, wf w 31 1 = 1 → s.bootWait = true → wf w 0 24 ≤ loadLimit → checkImage s.fuse img (wf w 0 24) = .pass ver len ok l →
        t.fld Pg.BOOT Fd.BOOT_STAT_STEP = 3 ∨ t.fld Pg.BOOT Fd.BOOT_STAT_STEP = 6)) ∧
  (∀ (n total locks : Nat) (freqs : List (Fin 1048576)) (s : State),
    let ready := s.mode = .boot ∧ s.fld Pg.BOOT Fd.BOOT_STAT_STEP = 3
    ∃ t, exec (.bootRelease n total locks freqs) s = .next t ∧ (¬ready → t = s) ∧
      (ready → s.commits = [] → t.mode = .idle ∧ t.fld Pg.SYS Fd.SYS_MODE_PREV_MODE = 0 ∧ t.fld Pg.BOOT Fd.BOOT_STAT_STEP = 4 ∧
        t.rd Pg.BOOT Rg.BOOT_T_TOTAL = BitVec.ofNat 32 total))

/-- Customer fuses are blown in IDLE alone, and the flash is sent its commands (R626, R637, R640). -/
def Obligations.FusesAreBlownAndFlashCommandsSent : Prop :=
  (∀ (o : Owner) (w : Word) (s : State), s.access o Pg.FUSE = .granted → wf w 31 1 = 1 →
    ∃ t, exec (.fuseProg o w) s = .next t ∧
      (s.mode = .idle → wf w 0 31 < 512 → t.fuse = s.fuse ||| 2 ^ wf w 0 31 ∧ regsKept [Pg.FUSE * 4096 + Rg.FUSE_PROG_CTL] s t) ∧
      (s.mode ≠ .idle → wf w 0 31 < 512 → t.fuse = s.fuse ∧ regsKept [Pg.FUSE * 4096 + Rg.FUSE_PROG_CTL] s t) ∧
      (512 ≤ wf w 0 31 → t.fuse = s.fuse)) ∧
  (∀ (o : Owner) (w : Word) (s : State), s.access o Pg.QSPI = .granted → wf w 31 1 = 1 →
    let live := s.blockOn Pg.QSPI Fd.QSPI_CTL_EN = true ∧ s.on Pg.QSPI Fd.QSPI_STAT_BUSY = false
    let a := (s.rd Pg.QSPI Rg.QSPI_ADDR).toNat
    let addr := if wf w 8 2 = 1 then some (a % 2 ^ 24) else if wf w 8 2 = 2 then some a else none
    let prot := wf w 17 1 = 1 ∧ (addr.map s.flashProtected).getD false = true
    let n := if wf w 15 2 = 2 then Nat.min 256 (s.fld Pg.QSPI Fd.QSPI_LEN_b0) else 0
    ∃ t, exec (.qspiCmd o w) s = .next t ∧
      (¬live → t.out = s.out ∧ t.fifo = s.fifo ∧ regsKept [Pg.QSPI * 4096 + Rg.QSPI_CMD] s t) ∧
      (live → ¬prot → t.out = s.out ++ [.flash (wf w 0 8) addr ((s.fifoOf 10).take n)] ∧ t.fifoOf 10 = (s.fifoOf 10).drop n ∧
        t.on Pg.QSPI Fd.QSPI_STAT_BUSY = true ∧ t.fld Pg.QSPI Fd.QSPI_CNT_b0 = satN 16 (s.fld Pg.QSPI Fd.QSPI_CNT_b0 + 1)) ∧
      (live → prot → t.on Pg.QSPI Fd.QSPI_STAT_PROT_REFUSED = true ∧ t.on Pg.QSPI Fd.QSPI_STAT_BUSY = false ∧ t.fifo = s.fifo ∧
        t.fld Pg.QSPI Fd.QSPI_CNT_b16 = satN 16 (s.fld Pg.QSPI Fd.QSPI_CNT_b16 + 1))) ∧
  (∀ (data : List Byte) (timeout : Bool) (s : State),
    let busy := s.on Pg.QSPI Fd.QSPI_STAT_BUSY = true
    let mode := s.fld Pg.QSPI Fd.QSPI_CMD_b15
    let late := timeout = true ∧ s.on Pg.QSPI Fd.QSPI_POLL_EN = true ∧ s.on Pg.QSPI Fd.QSPI_CMD_WRITE_OP = true
    ∃ t, exec (.qspiCmdDone data timeout) s = .next t ∧ (¬busy → t = s) ∧
      (busy → t.on Pg.QSPI Fd.QSPI_STAT_BUSY = false ∧
        (late → t.on Pg.QSPI Fd.QSPI_STAT_POLL_TIMEOUT = true) ∧ (¬late → t.on Pg.QSPI Fd.QSPI_STAT_DONE = true) ∧
        (mode = 1 ∨ mode = 3 → t.fifoOf 10 = (s.fifoOf 10 ++ data.take (s.fld Pg.QSPI Fd.QSPI_LEN_b0)).take (Nat.max 256 (s.fifoOf 10).length)) ∧
        (mode ≠ 1 ∧ mode ≠ 3 → t.fifo = s.fifo)))

/-- Calibrations start, agree or give up; the memory is tested; the test access port is loaded and reset (R641, R642, R643, R644,
R645, R653, R654, R656). -/
def Obligations.CalibrationsMemoryTestAndTapRun : Prop :=
  (∀ (o : Owner) (w : Word) (s : State), s.access o Pg.HLTH = .granted → wf w 8 1 = 1 →
    ∃ t, exec (.calCtlGo o w) s = .next t ∧
      (2 < wf w 0 4 → t.fld Pg.HLTH Fd.HLTH_CAL_CTL_RESULT = 3 ∧ t.hlth = s.hlth) ∧
      (s.hlthOn = false → t.hlth = s.hlth) ∧
      (wf w 0 4 ≤ 2 → s.hlthOn = true → (s.calOf (wf w 0 4) = none → t.calOf (wf w 0 4) = some { requested := true }) ∧
        ∀ x, s.calOf (wf w 0 4) = some x → t.calOf (wf w 0 4) = some { x with waits := true })) ∧
  (∀ (k : Fin 3) (s : State),
    let due := s.hlthOn = true ∧ s.on Pg.HLTH Fd.HLTH_CTL_b1 = true
    ∃ t, exec (.periodicCal k) s = .next t ∧ (¬due ∨ (s.calOf k).isSome = true → t = s) ∧
      (due → s.calOf k = none → t.calOf k = some { requested := false } ∧ t.regs = s.regs)) ∧
  (∀ (item : Fin 10) (unit : Fin 64) (a b : List Nat) (fig : Int) (s : State),
    let runs := s.calRuns item unit = true
    let x := (s.calOf (calKey item unit)).getD {}
    let after : Option CalRun := if x.waits then some { requested := true } else none
    ∃ t, exec (.calAttemptDone item unit a b fig) s = .next t ∧ (¬runs → t = s) ∧
      (runs → codesAgree a b = true → t.calOf (calKey item unit) = after ∧
        t.rd Pg.HLTH Rg.HLTH_CAL_STAT = BitVec.ofNat 32 (item + 16 * toTwos 12 fig + 2 ^ 16 * (x.attempts + 1)) ∧
        t.fld Pg.HLTH Fd.HLTH_CNT_b0 = satN 16 (s.fld Pg.HLTH Fd.HLTH_CNT_b0 + 1)) ∧
      (runs → codesAgree a b = false → x.attempts + 1 < 4 → t.calOf (calKey item unit) = some { x with attempts := x.attempts + 1 } ∧
        t.fld Pg.HLTH Fd.HLTH_CNT_b16 = satN 8 (s.fld Pg.HLTH Fd.HLTH_CNT_b16 + 1)) ∧
      (runs → codesAgree a b = false → 4 ≤ x.attempts + 1 → t.calOf (calKey item unit) = after ∧
        t.fld Pg.HLTH Fd.HLTH_CNT_NO_AGREE = satN 8 (s.fld Pg.HLTH Fd.HLTH_CNT_NO_AGREE + 1))) ∧
  (∀ (o : Owner) (w : Word) (s : State), s.access o Pg.HLTH = .granted → wf w 0 1 = 1 →
    let able := s.mode = .setup ∧ s.fld Pg.HLTH Fd.HLTH_MBIST_STAT_STATE ≠ 1 ∧ s.mbistRange.2 ≤ s.capacity
    ∃ t, exec (.mbistGo o w) s = .next t ∧ (able → t.rd Pg.HLTH Rg.HLTH_MBIST_STAT = 1 ∧ t.rd Pg.HLTH Rg.HLTH_MBIST_FIRST = 0) ∧
      (s.mode.job = true → t.fld Pg.HLTH Fd.HLTH_MBIST_STAT_RESULT = 3 ∧ t.fld Pg.HLTH Fd.HLTH_MBIST_STAT_STATE = s.fld Pg.HLTH Fd.HLTH_MBIST_STAT_STATE) ∧
      (s.mode.job = false → ¬able → t.fld Pg.HLTH Fd.HLTH_MBIST_STAT_RESULT = 4 ∧
        t.fld Pg.HLTH Fd.HLTH_MBIST_STAT_STATE = s.fld Pg.HLTH Fd.HLTH_MBIST_STAT_STATE)) ∧
  (∀ (l : List Nat) (s : State),
    let runs := s.fld Pg.HLTH Fd.HLTH_MBIST_STAT_STATE = 1
    ∃ t, exec (.mbistDone l) s = .next t ∧ (¬runs → t = s) ∧
      (runs → l = [] → s.memOk = true → t.fld Pg.HLTH Fd.HLTH_MBIST_STAT_STATE = 2 ∧ t.fld Pg.HLTH Fd.HLTH_MBIST_STAT_RESULT = 1 ∧
        ∀ a, a < s.mbistRange.1 ∨ s.mbistRange.2 ≤ a → t.dram a 1 = s.dram a 1) ∧
      (∀ k r, runs → l = k :: r → t.fld Pg.HLTH Fd.HLTH_MBIST_STAT_STATE = 2 ∧ t.fld Pg.HLTH Fd.HLTH_MBIST_STAT_RESULT = 2 ∧
        t.fld Pg.HLTH Fd.HLTH_MBIST_FIRST_VALID = 1 ∧ t.fld Pg.HLTH Fd.HLTH_MBIST_FIRST_b0 = k % 2 ^ 31)) ∧
  (∀ (i : Fin 256) (s : State),
    ∃ t, exec (.tapInstruction i) s = .next t ∧ t.hlth.tap = i.val ∧ t.fld Pg.TST Fd.TST_TAP_STAT_b0 = i.val ∧
      t.on Pg.TST Fd.TST_TAP_STAT_b12 = tapTakes i ∧ (tapTakes i = true → s.mode.job = true → t.on Pg.TST Fd.TST_STAT_TAKEOVER_SEEN = true) ∧
      (tapTakes i = false ∨ s.mode.job = false → regsKept [Pg.TST * 4096 + Rg.TST_TAP_STAT] s t)) ∧
  (∀ (s : State), ∃ t, exec .testLogicReset s = .next t ∧ t.hlth.tap = 1 ∧ t.rd Pg.TST Rg.TST_TAP_STAT = 1 ∧
    regsKept [Pg.TST * 4096 + Rg.TST_TAP_STAT] s t)

/-- Temperatures, supplies and headroom are read, and the adaptive voltage follows (R644, R646, R647, R648, R649, R650, R651, R652).
-/
def Obligations.MonitorsAreReadAndVoltageFollows : Prop :=
  (∀ (l : List (Fin 1024)) (n : Nat) (s : State),
    let y := s.atNs n
    let off := s.hlthOn = false ∨ (s.calOf 1).isSome = true
    ∃ t, exec (.tempRead l n) s = .next t ∧ (off → t = y) ∧
      (¬off → (∀ i (h : i < l.length), i < 16 → tabGet (dflt 0) t.hlth.temp i = l[i].val) ∧
        t.hlth.crit = if 4 * (s.fld Pg.HLTH Fd.HLTH_TEMP_LIM_CRIT : Int) ≤ t.tj.1 then s.hlth.crit + 1 else 0)) ∧
  (∀ (l : List (Fin 4096)) (n : Nat) (s : State),
    let off := s.hlthOn = false ∨ (s.calOf 2).isSome = true
    ∃ t, exec (.supplyRead l n) s = .next t ∧ (off → t = s.atNs n) ∧
      (¬off → ∀ i (h : i < l.length), i < 8 → (tabGet (dflt (0, 0)) t.hlth.sup i).1 = l[i].val)) ∧
  (∀ (rate n : Nat) (s : State),
    let y := s.atNs n
    ∃ t, exec (.headroomSample rate n) s = .next t ∧ (s.hlthOn = false → t = y) ∧
      (s.hlthOn = true → t.fld Pg.HLTH Fd.HLTH_HR_STAT_RATE = satN 16 rate ∧ t.fld Pg.HLTH Fd.HLTH_HR_STAT_NEED = satN 16 y.need ∧
        t.on Pg.HLTH Fd.HLTH_STAT_HR_CRIT = decide (rate < y.need) ∧
        t.hlth.low = some (match s.hlth.low with | some x => Nat.min x rate | none => rate))) ∧
  (∀ (m : Option (Fin 256)) (ack : Bool) (vout : Option (Fin 65536)) (s : State),
    let g := Pg.HLTH
    let off := s.hlthOn = false ∨ s.on g Fd.HLTH_AVS_CTL_EN = false ∨ s.on g Fd.HLTH_AVS_STAT_LOST = true
    let r := s.hlth.low.getD (s.fld g Fd.HLTH_HR_STAT_RATE)
    let v := s.fld g Fd.HLTH_AVS_STAT_b0
    let above := s.fld g Fd.HLTH_AVS_TGT_TARGET + s.fld g Fd.HLTH_AVS_TGT_HYST < r
    let high := if above then Nat.min 10 (s.hlth.high + 1) else 0
    let v' := s.avsNext v r high
    ∃ t, exec (.avsPeriod m ack vout) s = .next t ∧ t.hlth.low = none ∧ (off → t.regs = s.regs ∧ t.out = s.out) ∧
      (¬off → s.hlth.expo = none → m = none → t.fld g Fd.HLTH_AVS_STAT_b26 = (s.fld g Fd.HLTH_AVS_STAT_b26 + 1) % 8 ∧ t.hlth.expo = none) ∧
      (∀ x w, ¬off → s.hlth.expo = some x → s.hlth.known = false → vout = some w → t.hlth.known = true ∧
        t.fld g Fd.HLTH_AVS_STAT_b0 = ofLinear x w % 1024 ∧ t.fld g Fd.HLTH_AVS_STAT_b26 = 0) ∧
      (∀ x, ¬off → s.hlth.expo = some x → s.hlth.known = true → t.fld g Fd.HLTH_AVS_STAT_b0 = v' % 1024 ∧ t.hlth.high = high ∧
        (v' = v → s.hlth.retry = 0 → t.out = s.out) ∧
        (v' ≠ v → ack = true → t.hlth.vcmd = v') ∧
        (v' ≠ v → ack = false → t.hlth.retry = 1 ∧ t.hlth.vcmd = s.hlth.vcmd)))

/-- A step runs the command at the front of the queue; with none waiting a timebase cycle passes. That a step on an empty queue is a
cycle of the timebase clock is the model's choice (log entry 4). -/
def Obligations.StepRunsTheFrontCommand : Prop :=
  (∀ (c : Instr) (rest : List Instr) (s : State), step { s with pending := c :: rest } = exec c { s with pending := rest }) ∧
  (∀ (s : State), step { s with pending := [] } = .next { s with pending := [], raw := s.raw + 0x20000 })

/-- Reset leaves BOOT, every register at its stated value, an empty queue, no job and no lock (R12, R621, R623). -/
def Obligations.ResetLeavesTheStatedValues : Prop :=
  State.reset.mode = .boot ∧ State.reset.fld Pg.BOOT Fd.BOOT_STAT_STEP = 0 ∧ State.reset.fld Pg.BOOT Fd.BOOT_STAT_WARM = 0 ∧
  (∀ p off, State.reset.rd p off = regReset (p * 4096 + off) ∧ State.reset.rdShadow p off = regReset (p * 4096 + off)) ∧
  (∀ a, State.reset.win a = winReset a) ∧ State.reset.pending = [] ∧ State.reset.jobA = none ∧ State.reset.jobN = none ∧
  (∀ p ∈ pageList, State.reset.lockHolder p = 0) ∧ (∀ v, (State.reset.tgOf v).next = 0) ∧
  State.reset.fld Pg.SUPV1 Fd.SUPV1_LOCK_TO_b0 = 30 ∧ State.reset.on Pg.SUPV1 Fd.SUPV1_CTL_LEASE_EN = true ∧
  State.reset.rd Pg.SUPV0 Rg.SUPV0_LOG_HEAD = 0x100 ∧ State.reset.rd Pg.HLTH Rg.HLTH_TEMP_LIM = 0x00057364 ∧
  (∀ v < 4, State.reset.rd Pg.POS (Rg.POS_TG_RATIO v) = 0x00010000)

/-- DRAM is in its canonical form at reset. The canonical form is the model's own. -/
def Obligations.ResetMemoryIsCanonical : Prop :=
  State.reset.memOk = true ∧ State.reset.mem = []

/-- Every step keeps DRAM canonical, the record of outputs, blown fuses, and time but at a power-on reset. The canonical form and
the record of outputs are the model's own (R432, R513, R525, R526, R626, R653). -/
def Obligations.EveryStepKeepsMemoryOutputsFusesAndTime : Prop :=
  ∀ (s t : State), step s = .next t →
    (s.memOk = true → t.memOk = true) ∧ s.out <+: t.out ∧ s.fuse ||| t.fuse = t.fuse ∧ s.free ≤ t.free ∧ t.pending = s.pending.tail ∧
    (s.pending.head? ≠ some .porstAssert → s.raw ≤ t.raw)

/-- Every command answers a next state in every state. -/
def Obligations.EveryCommandAnswersNext : Prop :=
  ∀ (i : Instr) (s : State), ∃ t, exec i s = .next t

/-- No command changes a part of the machine beside those listed for it. -/
def Obligations.CommandsChangeOnlyTheirParts : Prop :=
  ∀ (i : Instr) (s t : State), exec i s = .next t → ∀ a, a ∉ mayChange i → Area.same s t a

/-- A mode request in CHANGEOVER or behind a pending one is refused as BUSY, but for HOLD (R64, R65). -/
def Obligations.RequestsAreBusyInChangeoverOrBehindAnother : Prop :=
  ∀ (o : Owner) (w : Word) (s : State), s.access o Pg.SYS = .granted → wf w 8 1 = 1 →
    s.mode = .changeover ∨ s.on Pg.SYS Fd.SYS_MODE_REQ_PENDING = true →
    ∀ i ∈ [Instr.modeReqIdle o w, .modeReqSetup o w, .modeReqRelearn o w, .modeReqInspect o w, .modeReqLegacy o w, .modeReqHold o w],
      ∃ t, exec i s = .next t ∧
        (wf w 0 3 ≠ 7 → t.fld Pg.SYS Fd.SYS_MODE_REFUSAL = 3 ∧ t.mode = s.mode ∧
          t.on Pg.SYS Fd.SYS_MODE_REQ_PENDING = s.on Pg.SYS Fd.SYS_MODE_REQ_PENDING ∧
          regsKept [Pg.SYS * 4096 + Rg.SYS_MODE, Pg.SYS * 4096 + Rg.SYS_MODE_REQ] s t) ∧
        (wf w 0 3 = 7 → s.mode ≠ .boot → s.mode ≠ .hold → t.mode = .hold ∧
          (s.commits = [] → t.on Pg.SYS Fd.SYS_MODE_REQ_PENDING = false))

/-- Customer fuses: programmed in IDLE, under the page's guard, and never erased (R626). -/
def Obligations.CustomerFusesAreProgrammedAndNeverErased : Prop :=
  (∀ (o : Owner) (w : Word) (s : State), wf w 31 1 = 1 → s.access o Pg.FUSE = .granted →
    ∃ t, exec (.fuseProg o w) s = .next t ∧
      (wf w 0 31 < 512 → s.mode = .idle → t.fuse = s.fuse ||| 2 ^ wf w 0 31) ∧
      (wf w 0 31 < 512 → s.mode ≠ .idle → t.fuse = s.fuse) ∧
      (512 ≤ wf w 0 31 → t.fuse = s.fuse ∧ ∃ x : State, x.fuse = s.fuse ∧ x.log = s.log ∧ t = x.logErr Er.FUSE_PROG Pg.FUSE (wf w 0 31))) ∧
  (∀ (o : Owner) (w : Word) (s : State), s.access o Pg.FUSE ≠ .granted → ∃ t, exec (.fuseProg o w) s = .next t ∧ t.fuse = s.fuse) ∧
  (∀ (i : Instr) (s t : State), exec i s = .next t → s.fuse ||| t.fuse = t.fuse)

/-- A poll of a queue with no word on chip answers NOT_VALID and changes nothing; a handshake consumer waits (R487). -/
def Obligations.PollOfAnEmptyQueueIsNotValid : Prop :=
  ∀ (q : Fin 8192) (flip : Word64) (s : State), (s.q q).words = [] →
    exec (.queuePoll q flip) s = .next { s with out := s.out ++ [.word q ⟨0, tagNotValid, false, false, parityOf 0 tagNotValid false false⟩] } ∧
    exec (.queuePop q flip) s = .next s

/-- A store to DRAM changes its bytes and no other; one past the capacity stores nothing (R513, R578, R700). -/
def Obligations.StoresChangeTheirBytesAlone : Prop :=
  (∀ (s : State) (a : Nat) (l : List Byte),
    (a + l.length ≤ s.capacity → (s.dramPut a l).dram a l.length = l ∧ ∀ b, b < a ∨ a + l.length ≤ b → (s.dramPut a l).dram b 1 = s.dram b 1) ∧
    (s.capacity < a + l.length → s.dramPut a l = s)) ∧
  (∀ (a : Nat) (data : List Byte) (s : State),
    ∃ t, exec (.bar2Write a data) s = .next t ∧
      (s.on Pg.PCIE Fd.PCIE_STAT_LINK_UP = true → s.mode ≠ .boot → data ≠ [] → s.outOfRange a data.length = false →
        (∀ j, j < 64 → s.inJob j a data.length = false) → ∀ b, b < a ∨ a + data.length ≤ b → t.dram b 1 = s.dram b 1))

/-- A job starts in each view at its next line block, and a requested end is noted where it was asked for (R63, R66, R67, R312). -/
def Obligations.JobsStartAtTheNextBlockAndEndWhereAsked : Prop :=
  (∀ (o : Owner) (w : Word) (j : JobCtx) (s : State), s.access o Pg.SYS = .granted → wf w 8 1 = 1 → s.mode = .idle →
    s.on Pg.SYS Fd.SYS_MODE_REQ_PENDING = false → s.commits = [] → s.on Pg.SYS Fd.SYS_JOB_STAT_NEXT_READY = true → s.jobN = some j →
    let started (t : State) : Prop := t.jobA = some j ∧ t.jobN = none ∧ t.fld Pg.SYS Fd.SYS_JOB_STAT_ACTIVE_ID = j.id % 64 ∧
      t.on Pg.SYS Fd.SYS_JOB_STAT_ACTIVE_VALID = true ∧ t.on Pg.SYS Fd.SYS_JOB_STAT_NEXT_VALID = false ∧
      ∀ v, v < 4 → tbit j.viewEn v = true → (t.view_ v).part = some (blockLine (s.nextLine v)) ∧ (t.view_ v).begun = false ∧
        (t.view_ v).run = true ∧ (t.view_ v).endAt = none
    (wf w 0 3 = 3 → (((s.touch o Pg.SYS).writeReg Pg.SYS Rg.SYS_MODE_REQ w).relearnFaults .next j).isEmpty = true →
      ∃ t, exec (.modeReqRelearn o w) s = .next t ∧ started t ∧ ∀ v, v < 4 → tbit j.viewEn v = true → t.isLearning v = true ∧ t.mode = .learn) ∧
    (wf w 0 3 = 4 → ∃ t, exec (.modeReqInspect o w) s = .next t ∧ started t ∧ (t.mode = .learn ∨ t.mode = .inspect)) ∧
    (wf w 0 3 = 6 → j.legacy = true → ∃ t, exec (.modeReqLegacy o w) s = .next t ∧ started t ∧ t.mode = .legacy)) ∧
  (∀ (o : Owner) (w : Word) (s : State), s.access o Pg.SYS = .granted → wf w 8 1 = 1 → wf w 0 3 = 2 → s.mode = .idle →
    s.on Pg.SYS Fd.SYS_MODE_REQ_PENDING = false → s.commits = [] →
    ∃ t, exec (.modeReqSetup o w) s = .next t ∧ t.mode = .setup ∧ ∀ v, v < 4 → (t.view_ v).part = none ∧ (t.view_ v).start = s.nextLine v) ∧
  (∀ (o : Owner) (w : Word) (s : State), s.access o Pg.SYS = .granted → wf w 8 1 = 1 → wf w 0 3 = 1 → wf w 3 1 = 1 →
    s.on Pg.SYS Fd.SYS_MODE_REQ_PENDING = false → s.fld Pg.SYS Fd.SYS_CHG_CTL_STATE ≠ 1 → s.mode = .learn ∨ s.mode = .inspect ∨ s.mode = .legacy →
    ∃ t, exec (.modeReqIdle o w) s = .next t ∧ t.mode = s.mode ∧ t.on Pg.SYS Fd.SYS_MODE_REQ_PENDING = true ∧
      ∀ v ∈ s.jobViews .active, (t.view_ v).endAt = (s.view_ v).endAt ∧
        (t.view_ v).endRep = some (if (s.view_ v).begun = true then s.repOf v (s.taken v - 1) else 0))

/-- An uplink packet and a trigger have their symbols, and a trigger that interrupts a packet is followed by the rest of it (R147, R152,
R153). -/
def Obligations.UplinkPacketsAndTriggersHaveTheirSymbols : Prop :=
  (∀ type tag arg0 arg1 addr data : Nat,
    let l := uplinkSyms type tag arg0 arg1 addr data
    let body := leBytes 4 (type % 256 + 256 * (tag % 256) + 65536 * (arg0 % 256) + 2 ^ 24 * (arg1 % 256)) ++ leBytes 4 addr ++ leBytes 4 data
    l.length = 18 ∧ l.head? = some .sop ∧ l.getLast? = some .eop ∧ (l.drop 1).take 16 = (body ++ leBytes 4 (crc32c body)).map .data) ∧
  (∀ n : Nat,
    let l := triggerSyms n
    l.length = 8 ∧ l.head? = some .trg ∧ (l.drop 1).take 6 = (leBytes 6 n).map .data ∧ l.getLast? = some (.data (BitVec.ofNat 8 (crc8 (leBytes 6 n))))) ∧
  crc8 ((List.range 9).map fun i => BitVec.ofNat 8 (0x31 + i)) = 0xF4 ∧
  (∀ (p n k : Nat) (type tag arg0 arg1 addr data : Nat), k ≤ 18 →
    let l := uplinkSyms type tag arg0 arg1 addr data
    uplinkStream p [.uplink p l, .trigger p (triggerSyms n) k] = l.take (18 - k) ++ triggerSyms n ++ l.drop (18 - k))
end

