-- ==== Sys2Proof/Laws/Bits.lean ====
section
/-!
SUPPORT. Bit fields: what a field reads after it, or another field, was written.
-/
namespace Sys2Proof.Machine

theorem nb_lt (x lo len : Nat) : nb x lo len < 2 ^ len := Nat.mod_lt _ (Nat.two_pow_pos _)

theorem field_lt {a b lo len : Nat} (ha : a < 2 ^ lo) (hb : b < 2 ^ len) : b * 2 ^ lo + a < 2 ^ (lo + len) := by
  have : (b + 1) * 2 ^ lo ≤ 2 ^ len * 2 ^ lo := Nat.mul_le_mul_right _ hb
  rw [Nat.pow_add, Nat.mul_comm (2 ^ lo)]
  linarith [Nat.succ_mul b (2 ^ lo)]

/-- A field reads back what was written to it, as far as it is wide. -/
theorem nb_nbSet_same (x lo len v : Nat) : nb (nbSet x lo len v) lo len = v % 2 ^ len := by
  have h1 : x % 2 ^ lo < 2 ^ lo := Nat.mod_lt _ (Nat.two_pow_pos _)
  have e : nbSet x lo len v = (x / 2 ^ (lo + len) * 2 ^ len + v % 2 ^ len) * 2 ^ lo + x % 2 ^ lo := by
    unfold nbSet; rw [Nat.pow_add]; ring
  unfold nb
  rw [e, Nat.add_comm, Nat.add_mul_div_right _ _ (Nat.two_pow_pos _), Nat.div_eq_of_lt h1, Nat.zero_add, Nat.add_comm,
    Nat.add_mul_mod_self_right, Nat.mod_mod]

/-- A field below the one written is unchanged. -/
theorem nb_nbSet_below (x v : Nat) {lo len a n : Nat} (h : a + n ≤ lo) : nb (nbSet x lo len v) a n = nb x a n := by
  obtain ⟨k, rfl⟩ : ∃ k, lo = a + n + k := ⟨lo - (a + n), by omega⟩
  have e : nbSet x (a + n + k) len v =
      (x / 2 ^ (a + n + k + len) * 2 ^ len + v % 2 ^ len) * 2 ^ k * 2 ^ (a + n) + x % 2 ^ (a + n + k) := by
    unfold nbSet; rw [Nat.pow_add (m := a + n + k), Nat.pow_add (m := a + n) (n := k)]; ring
  unfold nb
  rw [e, ← Nat.mod_mul_right_div_self, ← Nat.mod_mul_right_div_self, ← Nat.pow_add, Nat.add_comm, Nat.add_mul_mod_self_right,
    Nat.mod_mod_of_dvd _ (Nat.pow_dvd_pow 2 (by omega))]

/-- A field above the one written is unchanged. -/
theorem nb_nbSet_above (x v : Nat) {lo len a : Nat} (n : Nat) (h : lo + len ≤ a) : nb (nbSet x lo len v) a n = nb x a n := by
  obtain ⟨k, rfl⟩ : ∃ k, a = lo + len + k := ⟨a - (lo + len), by omega⟩
  have h1 : x % 2 ^ lo < 2 ^ lo := Nat.mod_lt _ (Nat.two_pow_pos _)
  have h2 : v % 2 ^ len < 2 ^ len := Nat.mod_lt _ (Nat.two_pow_pos _)
  have h3 : v % 2 ^ len * 2 ^ lo + x % 2 ^ lo < 2 ^ (lo + len) := field_lt h1 h2
  have e : nbSet x lo len v / 2 ^ (lo + len) = x / 2 ^ (lo + len) := by
    unfold nbSet
    rw [Nat.add_assoc, Nat.add_comm, Nat.add_mul_div_right _ _ (Nat.two_pow_pos _), Nat.div_eq_of_lt h3, Nat.zero_add]
  unfold nb
  rw [Nat.pow_add (m := lo + len), ← Nat.div_div_eq_div_mul, ← Nat.div_div_eq_div_mul, e]

theorem nbSet_lt {x lo len v : Nat} (hx : x < 2 ^ 32) (h : lo + len ≤ 32) : nbSet x lo len v < 2 ^ 32 := by
  obtain ⟨k, hk⟩ : ∃ k, 32 = lo + len + k := ⟨32 - (lo + len), by omega⟩
  have h1 : x % 2 ^ lo < 2 ^ lo := Nat.mod_lt _ (Nat.two_pow_pos _)
  have h2 : v % 2 ^ len < 2 ^ len := Nat.mod_lt _ (Nat.two_pow_pos _)
  have h3 : v % 2 ^ len * 2 ^ lo + x % 2 ^ lo < 2 ^ (lo + len) := field_lt h1 h2
  have h4 : x / 2 ^ (lo + len) < 2 ^ k := by
    rw [Nat.div_lt_iff_lt_mul (Nat.two_pow_pos _), ← Nat.pow_add, Nat.add_comm k, ← hk]; exact hx
  unfold nbSet
  have : (x / 2 ^ (lo + len) + 1) * 2 ^ (lo + len) ≤ 2 ^ k * 2 ^ (lo + len) := Nat.mul_le_mul_right _ h4
  rw [← Nat.pow_add, Nat.add_comm k, ← hk] at this
  nlinarith

/-- A field of a word reads back what was written to it. -/
theorem wf_wfSet_same (w : Word) {lo len : Nat} (v : Nat) (h : lo + len ≤ 32) : wf (wfSet w lo len v) lo len = v % 2 ^ len := by
  unfold wf wfSet
  rw [BitVec.toNat_ofNat, Nat.mod_eq_of_lt (nbSet_lt w.isLt h), nb_nbSet_same]

/-- Another field of a word is unchanged. -/
theorem wf_wfSet_of_apart (w : Word) {lo len a n : Nat} (v : Nat) (h : lo + len ≤ 32) (ha : a + n ≤ lo ∨ lo + len ≤ a) :
    wf (wfSet w lo len v) a n = wf w a n := by
  unfold wf wfSet
  rw [BitVec.toNat_ofNat, Nat.mod_eq_of_lt (nbSet_lt w.isLt h)]
  rcases ha with ha | ha
  · exact nb_nbSet_below _ _ ha
  · exact nb_nbSet_above _ _ _ ha

theorem wf_lt (w : Word) (lo len : Nat) : wf w lo len < 2 ^ len := nb_lt _ _ _

end Sys2Proof.Machine
end

