-- ==== Sys2Proof/Laws/Frame.lean ====
section
/-!
SUPPORT. `Within`: what a function on states keeps, said once. A bit of the mask names a group of state components that the function
may change; every other group stays as it was. What `Kept` says, and that time does not run back, holds besides.
-/
namespace Sys2Proof.Machine

/-- Whether a mask lets a group change. -/
abbrev may (m k : Nat) : Prop := m / 2 ^ k % 2 = 1

/-- From `s` to `t` only the groups of the mask change. -/
structure Within (m : Nat) (s t : State) : Prop where
  kept : Kept s t
  time : s.raw ≤ t.raw
  dram : may m 0 ∨ (t.mem = s.mem ∧ t.blank = s.blank ∧ t.badLine = s.badLine)
  regs : may m 1 ∨ (t.regs = s.regs)
  shadow : may m 2 ∨ (t.shadow = s.shadow)
  once : may m 3 ∨ (t.wroDone = s.wroDone)
  window : may m 4 ∨ (t.window = s.window)
  out : may m 5 ∨ (t.out = s.out)
  clock : may m 6 ∨ (t.raw = s.raw)
  free : may m 7 ∨ (t.free = s.free)
  fuse : may m 8 ∨ (t.fuse = s.fuse)
  boot : may m 9 ∨ (t.trained = s.trained ∧ t.bootWait = s.bootWait)
  tb : may m 10 ∨ (t.tb = s.tb)
  calendar : may m 11 ∨ (t.crl = s.crl)
  pins : may m 12 ∨ (t.evio = s.evio)
  events : may m 13 ∨ (t.evf = s.evf)
  raised : may m 14 ∨ (t.raised = s.raised)
  encoder : may m 15 ∨ (t.chan = s.chan)
  trigger : may m 16 ∨ (t.tg = s.tg)
  view : may m 17 ∨ (t.view = s.view)
  link : may m 18 ∨ (t.link = s.link ∧ t.train = s.train ∧ t.joker = s.joker)
  jobs : may m 19 ∨ (t.roWritten = s.roWritten ∧ t.jobA = s.jobA ∧ t.jobN = s.jobN ∧ t.valJob = s.valJob ∧ t.jobVals = s.jobVals)
  path : may m 20 ∨ (t.intake = s.intake ∧ t.pipe = s.pipe ∧ t.tapBuf = s.tapBuf ∧ t.corr = s.corr)
  stitch : may m 21 ∨ (t.stitch_ = s.stitch_ ∧ t.dot = s.dot ∧ t.winRes = s.winRes)
  master : may m 22 ∨ (t.mst = s.mst ∧ t.predict = s.predict)
  eng : may m 23 ∨ (t.eng = s.eng)
  res : may m 24 ∨ (t.resA = s.resA ∧ t.resN = s.resN ∧ t.acts = s.acts ∧ t.hits = s.hits)
  net : may m 25 ∨ (t.net = s.net)
  stream : may m 26 ∨ (t.stream = s.stream)
  dec : may m 27 ∨ (t.dec = s.dec)
  queue : may m 28 ∨ (t.queue = s.queue ∧ t.levels = s.levels ∧ t.arb = s.arb ∧ t.qshadow = s.qshadow ∧ t.hqLo = s.hqLo)
  dma : may m 29 ∨ (t.dma = s.dma)
  zip : may m 30 ∨ (t.zip = s.zip)
  twl : may m 31 ∨ (t.twl = s.twl ∧ t.fifo = s.fifo)
  mc : may m 32 ∨ (t.mc = s.mc ∧ t.mcg = s.mcg)
  hlth : may m 33 ∨ (t.hlth = s.hlth)
  log : may m 34 ∨ (t.log = s.log ∧ t.logLatch = s.logLatch)
  commit : may m 35 ∨ (t.commits = s.commits ∧ t.cmtRec = s.cmtRec ∧ t.entered = s.entered)
  lock : may m 36 ∨ (t.lockAt = s.lockAt ∧ t.lockKey = s.lockKey ∧ t.revoking = s.revoking ∧ t.dead = s.dead)

theorem Kept.refl (s : State) : Kept s s := ⟨rfl, List.prefix_refl _, Nat.le_refl _, Nat.or_self _, id⟩

theorem Kept.trans {s t u : State} (h : Kept s t) (k : Kept t u) : Kept s u :=
  ⟨k.pending.trans h.pending, h.out.trans k.out, Nat.le_trans h.free k.free, by
    have a := h.fuse; have b := k.fuse
    rw [← b, ← Nat.or_assoc, a], fun x => k.mem (h.mem x)⟩

theorem Within.refl (m : Nat) (s : State) : Within m s s :=
  ⟨Kept.refl s, Nat.le_refl _, .inr ⟨rfl, rfl, rfl⟩, .inr rfl, .inr rfl, .inr rfl, .inr rfl, .inr rfl, .inr rfl, .inr rfl, .inr rfl, .inr ⟨rfl, rfl⟩, .inr rfl, .inr rfl, .inr rfl, .inr rfl, .inr rfl, .inr rfl, .inr rfl, .inr rfl, .inr ⟨rfl, rfl, rfl⟩, .inr ⟨rfl, rfl, rfl, rfl, rfl⟩, .inr ⟨rfl, rfl, rfl, rfl⟩, .inr ⟨rfl, rfl, rfl⟩, .inr ⟨rfl, rfl⟩, .inr rfl, .inr ⟨rfl, rfl, rfl, rfl⟩, .inr rfl, .inr rfl, .inr rfl, .inr ⟨rfl, rfl, rfl, rfl, rfl⟩, .inr rfl, .inr rfl, .inr ⟨rfl, rfl⟩, .inr ⟨rfl, rfl⟩, .inr rfl, .inr ⟨rfl, rfl⟩, .inr ⟨rfl, rfl, rfl⟩, .inr ⟨rfl, rfl, rfl, rfl⟩⟩

/-- A bit of a mask is a bit of every mask over it. -/
theorem may_mono {m n : Nat} (h : n &&& m = m) {k : Nat} (hk : may m k) : may n k := by
  have h1 : m.testBit k = true := by rw [Nat.testBit_eq_decide_div_mod_eq]; simpa using hk
  have h2 : n.testBit k = true := by
    have := congrArg (Nat.testBit · k) h
    simp only [Nat.testBit_and, h1, Bool.and_true] at this
    exact this
  rw [Nat.testBit_eq_decide_div_mod_eq] at h2
  simpa using h2

/-- A function's frame after a frame: the next state is framed by the mask that covers both. -/
theorem Within.step {m n : Nat} {s t u : State} (k : Within m t u) (hm : n &&& m = m) (h : Within n s t) : Within n s u where
  kept := h.kept.trans k.kept
  time := Nat.le_trans h.time k.time
  dram := k.dram.elim (fun x => .inl (may_mono hm x)) fun b => h.dram.elim .inl fun a => .inr ⟨(b.1).trans (a.1), (b.2.1).trans (a.2.1), (b.2.2).trans (a.2.2)⟩
  regs := k.regs.elim (fun x => .inl (may_mono hm x)) fun b => h.regs.elim .inl fun a => .inr (b.trans a)
  shadow := k.shadow.elim (fun x => .inl (may_mono hm x)) fun b => h.shadow.elim .inl fun a => .inr (b.trans a)
  once := k.once.elim (fun x => .inl (may_mono hm x)) fun b => h.once.elim .inl fun a => .inr (b.trans a)
  window := k.window.elim (fun x => .inl (may_mono hm x)) fun b => h.window.elim .inl fun a => .inr (b.trans a)
  out := k.out.elim (fun x => .inl (may_mono hm x)) fun b => h.out.elim .inl fun a => .inr (b.trans a)
  clock := k.clock.elim (fun x => .inl (may_mono hm x)) fun b => h.clock.elim .inl fun a => .inr (b.trans a)
  free := k.free.elim (fun x => .inl (may_mono hm x)) fun b => h.free.elim .inl fun a => .inr (b.trans a)
  fuse := k.fuse.elim (fun x => .inl (may_mono hm x)) fun b => h.fuse.elim .inl fun a => .inr (b.trans a)
  boot := k.boot.elim (fun x => .inl (may_mono hm x)) fun b => h.boot.elim .inl fun a => .inr ⟨(b.1).trans (a.1), (b.2).trans (a.2)⟩
  tb := k.tb.elim (fun x => .inl (may_mono hm x)) fun b => h.tb.elim .inl fun a => .inr (b.trans a)
  calendar := k.calendar.elim (fun x => .inl (may_mono hm x)) fun b => h.calendar.elim .inl fun a => .inr (b.trans a)
  pins := k.pins.elim (fun x => .inl (may_mono hm x)) fun b => h.pins.elim .inl fun a => .inr (b.trans a)
  events := k.events.elim (fun x => .inl (may_mono hm x)) fun b => h.events.elim .inl fun a => .inr (b.trans a)
  raised := k.raised.elim (fun x => .inl (may_mono hm x)) fun b => h.raised.elim .inl fun a => .inr (b.trans a)
  encoder := k.encoder.elim (fun x => .inl (may_mono hm x)) fun b => h.encoder.elim .inl fun a => .inr (b.trans a)
  trigger := k.trigger.elim (fun x => .inl (may_mono hm x)) fun b => h.trigger.elim .inl fun a => .inr (b.trans a)
  view := k.view.elim (fun x => .inl (may_mono hm x)) fun b => h.view.elim .inl fun a => .inr (b.trans a)
  link := k.link.elim (fun x => .inl (may_mono hm x)) fun b => h.link.elim .inl fun a => .inr ⟨(b.1).trans (a.1), (b.2.1).trans (a.2.1), (b.2.2).trans (a.2.2)⟩
  jobs := k.jobs.elim (fun x => .inl (may_mono hm x)) fun b => h.jobs.elim .inl fun a => .inr ⟨(b.1).trans (a.1), (b.2.1).trans (a.2.1), (b.2.2.1).trans (a.2.2.1), (b.2.2.2.1).trans (a.2.2.2.1), (b.2.2.2.2).trans (a.2.2.2.2)⟩
  path := k.path.elim (fun x => .inl (may_mono hm x)) fun b => h.path.elim .inl fun a => .inr ⟨(b.1).trans (a.1), (b.2.1).trans (a.2.1), (b.2.2.1).trans (a.2.2.1), (b.2.2.2).trans (a.2.2.2)⟩
  stitch := k.stitch.elim (fun x => .inl (may_mono hm x)) fun b => h.stitch.elim .inl fun a => .inr ⟨(b.1).trans (a.1), (b.2.1).trans (a.2.1), (b.2.2).trans (a.2.2)⟩
  master := k.master.elim (fun x => .inl (may_mono hm x)) fun b => h.master.elim .inl fun a => .inr ⟨(b.1).trans (a.1), (b.2).trans (a.2)⟩
  eng := k.eng.elim (fun x => .inl (may_mono hm x)) fun b => h.eng.elim .inl fun a => .inr (b.trans a)
  res := k.res.elim (fun x => .inl (may_mono hm x)) fun b => h.res.elim .inl fun a => .inr ⟨(b.1).trans (a.1), (b.2.1).trans (a.2.1), (b.2.2.1).trans (a.2.2.1), (b.2.2.2).trans (a.2.2.2)⟩
  net := k.net.elim (fun x => .inl (may_mono hm x)) fun b => h.net.elim .inl fun a => .inr (b.trans a)
  stream := k.stream.elim (fun x => .inl (may_mono hm x)) fun b => h.stream.elim .inl fun a => .inr (b.trans a)
  dec := k.dec.elim (fun x => .inl (may_mono hm x)) fun b => h.dec.elim .inl fun a => .inr (b.trans a)
  queue := k.queue.elim (fun x => .inl (may_mono hm x)) fun b => h.queue.elim .inl fun a => .inr ⟨(b.1).trans (a.1), (b.2.1).trans (a.2.1), (b.2.2.1).trans (a.2.2.1), (b.2.2.2.1).trans (a.2.2.2.1), (b.2.2.2.2).trans (a.2.2.2.2)⟩
  dma := k.dma.elim (fun x => .inl (may_mono hm x)) fun b => h.dma.elim .inl fun a => .inr (b.trans a)
  zip := k.zip.elim (fun x => .inl (may_mono hm x)) fun b => h.zip.elim .inl fun a => .inr (b.trans a)
  twl := k.twl.elim (fun x => .inl (may_mono hm x)) fun b => h.twl.elim .inl fun a => .inr ⟨(b.1).trans (a.1), (b.2).trans (a.2)⟩
  mc := k.mc.elim (fun x => .inl (may_mono hm x)) fun b => h.mc.elim .inl fun a => .inr ⟨(b.1).trans (a.1), (b.2).trans (a.2)⟩
  hlth := k.hlth.elim (fun x => .inl (may_mono hm x)) fun b => h.hlth.elim .inl fun a => .inr (b.trans a)
  log := k.log.elim (fun x => .inl (may_mono hm x)) fun b => h.log.elim .inl fun a => .inr ⟨(b.1).trans (a.1), (b.2).trans (a.2)⟩
  commit := k.commit.elim (fun x => .inl (may_mono hm x)) fun b => h.commit.elim .inl fun a => .inr ⟨(b.1).trans (a.1), (b.2.1).trans (a.2.1), (b.2.2).trans (a.2.2)⟩
  lock := k.lock.elim (fun x => .inl (may_mono hm x)) fun b => h.lock.elim .inl fun a => .inr ⟨(b.1).trans (a.1), (b.2.1).trans (a.2.1), (b.2.2.1).trans (a.2.2.1), (b.2.2.2).trans (a.2.2.2)⟩

/-- A larger mask says less. -/
theorem Within.mono {m n : Nat} {s t : State} (h : Within m s t) (hm : n &&& m = m) : Within n s t := Within.step h hm (Within.refl n s)

/-- What a record update keeps besides the commands that wait. -/
structure Upd (m : Nat) (t u : State) : Prop where
  raw : t.raw ≤ u.raw
  out : t.out <+: u.out
  free : t.free ≤ u.free
  rest : u.fuse = t.fuse ∧ u.mem = t.mem ∧ u.blank = t.blank
  g0 : may m 0 ∨ (u.mem = t.mem ∧ u.blank = t.blank ∧ u.badLine = t.badLine)
  g1 : may m 1 ∨ (u.regs = t.regs)
  g2 : may m 2 ∨ (u.shadow = t.shadow)
  g3 : may m 3 ∨ (u.wroDone = t.wroDone)
  g4 : may m 4 ∨ (u.window = t.window)
  g5 : may m 5 ∨ (u.out = t.out)
  g6 : may m 6 ∨ (u.raw = t.raw)
  g7 : may m 7 ∨ (u.free = t.free)
  g8 : may m 8 ∨ (u.fuse = t.fuse)
  g9 : may m 9 ∨ (u.trained = t.trained ∧ u.bootWait = t.bootWait)
  g10 : may m 10 ∨ (u.tb = t.tb)
  g11 : may m 11 ∨ (u.crl = t.crl)
  g12 : may m 12 ∨ (u.evio = t.evio)
  g13 : may m 13 ∨ (u.evf = t.evf)
  g14 : may m 14 ∨ (u.raised = t.raised)
  g15 : may m 15 ∨ (u.chan = t.chan)
  g16 : may m 16 ∨ (u.tg = t.tg)
  g17 : may m 17 ∨ (u.view = t.view)
  g18 : may m 18 ∨ (u.link = t.link ∧ u.train = t.train ∧ u.joker = t.joker)
  g19 : may m 19 ∨ (u.roWritten = t.roWritten ∧ u.jobA = t.jobA ∧ u.jobN = t.jobN ∧ u.valJob = t.valJob ∧ u.jobVals = t.jobVals)
  g20 : may m 20 ∨ (u.intake = t.intake ∧ u.pipe = t.pipe ∧ u.tapBuf = t.tapBuf ∧ u.corr = t.corr)
  g21 : may m 21 ∨ (u.stitch_ = t.stitch_ ∧ u.dot = t.dot ∧ u.winRes = t.winRes)
  g22 : may m 22 ∨ (u.mst = t.mst ∧ u.predict = t.predict)
  g23 : may m 23 ∨ (u.eng = t.eng)
  g24 : may m 24 ∨ (u.resA = t.resA ∧ u.resN = t.resN ∧ u.acts = t.acts ∧ u.hits = t.hits)
  g25 : may m 25 ∨ (u.net = t.net)
  g26 : may m 26 ∨ (u.stream = t.stream)
  g27 : may m 27 ∨ (u.dec = t.dec)
  g28 : may m 28 ∨ (u.queue = t.queue ∧ u.levels = t.levels ∧ u.arb = t.arb ∧ u.qshadow = t.qshadow ∧ u.hqLo = t.hqLo)
  g29 : may m 29 ∨ (u.dma = t.dma)
  g30 : may m 30 ∨ (u.zip = t.zip)
  g31 : may m 31 ∨ (u.twl = t.twl ∧ u.fifo = t.fifo)
  g32 : may m 32 ∨ (u.mc = t.mc ∧ u.mcg = t.mcg)
  g33 : may m 33 ∨ (u.hlth = t.hlth)
  g34 : may m 34 ∨ (u.log = t.log ∧ u.logLatch = t.logLatch)
  g35 : may m 35 ∨ (u.commits = t.commits ∧ u.cmtRec = t.cmtRec ∧ u.entered = t.entered)
  g36 : may m 36 ∨ (u.lockAt = t.lockAt ∧ u.lockKey = t.lockKey ∧ u.revoking = t.revoking ∧ u.dead = t.dead)

/-- A record update that keeps what `Kept` speaks of. -/
theorem Within.upd {m : Nat} {s t u : State} (hp : u.pending = t.pending) (g : Upd m t u) (h : Within m s t) : Within m s u where
  kept := ⟨hp.trans h.kept.pending, h.kept.out.trans g.out, Nat.le_trans h.kept.free g.free, g.rest.1 ▸ h.kept.fuse, fun x => by
    have := h.kept.mem x
    simpa [State.memOk, g.rest.2.1, g.rest.2.2] using this⟩
  time := Nat.le_trans h.time g.raw
  dram := g.g0.elim .inl fun b => h.dram.elim .inl fun a => .inr ⟨(b.1).trans (a.1), (b.2.1).trans (a.2.1), (b.2.2).trans (a.2.2)⟩
  regs := g.g1.elim .inl fun b => h.regs.elim .inl fun a => .inr (b.trans a)
  shadow := g.g2.elim .inl fun b => h.shadow.elim .inl fun a => .inr (b.trans a)
  once := g.g3.elim .inl fun b => h.once.elim .inl fun a => .inr (b.trans a)
  window := g.g4.elim .inl fun b => h.window.elim .inl fun a => .inr (b.trans a)
  out := g.g5.elim .inl fun b => h.out.elim .inl fun a => .inr (b.trans a)
  clock := g.g6.elim .inl fun b => h.clock.elim .inl fun a => .inr (b.trans a)
  free := g.g7.elim .inl fun b => h.free.elim .inl fun a => .inr (b.trans a)
  fuse := g.g8.elim .inl fun b => h.fuse.elim .inl fun a => .inr (b.trans a)
  boot := g.g9.elim .inl fun b => h.boot.elim .inl fun a => .inr ⟨(b.1).trans (a.1), (b.2).trans (a.2)⟩
  tb := g.g10.elim .inl fun b => h.tb.elim .inl fun a => .inr (b.trans a)
  calendar := g.g11.elim .inl fun b => h.calendar.elim .inl fun a => .inr (b.trans a)
  pins := g.g12.elim .inl fun b => h.pins.elim .inl fun a => .inr (b.trans a)
  events := g.g13.elim .inl fun b => h.events.elim .inl fun a => .inr (b.trans a)
  raised := g.g14.elim .inl fun b => h.raised.elim .inl fun a => .inr (b.trans a)
  encoder := g.g15.elim .inl fun b => h.encoder.elim .inl fun a => .inr (b.trans a)
  trigger := g.g16.elim .inl fun b => h.trigger.elim .inl fun a => .inr (b.trans a)
  view := g.g17.elim .inl fun b => h.view.elim .inl fun a => .inr (b.trans a)
  link := g.g18.elim .inl fun b => h.link.elim .inl fun a => .inr ⟨(b.1).trans (a.1), (b.2.1).trans (a.2.1), (b.2.2).trans (a.2.2)⟩
  jobs := g.g19.elim .inl fun b => h.jobs.elim .inl fun a => .inr ⟨(b.1).trans (a.1), (b.2.1).trans (a.2.1), (b.2.2.1).trans (a.2.2.1), (b.2.2.2.1).trans (a.2.2.2.1), (b.2.2.2.2).trans (a.2.2.2.2)⟩
  path := g.g20.elim .inl fun b => h.path.elim .inl fun a => .inr ⟨(b.1).trans (a.1), (b.2.1).trans (a.2.1), (b.2.2.1).trans (a.2.2.1), (b.2.2.2).trans (a.2.2.2)⟩
  stitch := g.g21.elim .inl fun b => h.stitch.elim .inl fun a => .inr ⟨(b.1).trans (a.1), (b.2.1).trans (a.2.1), (b.2.2).trans (a.2.2)⟩
  master := g.g22.elim .inl fun b => h.master.elim .inl fun a => .inr ⟨(b.1).trans (a.1), (b.2).trans (a.2)⟩
  eng := g.g23.elim .inl fun b => h.eng.elim .inl fun a => .inr (b.trans a)
  res := g.g24.elim .inl fun b => h.res.elim .inl fun a => .inr ⟨(b.1).trans (a.1), (b.2.1).trans (a.2.1), (b.2.2.1).trans (a.2.2.1), (b.2.2.2).trans (a.2.2.2)⟩
  net := g.g25.elim .inl fun b => h.net.elim .inl fun a => .inr (b.trans a)
  stream := g.g26.elim .inl fun b => h.stream.elim .inl fun a => .inr (b.trans a)
  dec := g.g27.elim .inl fun b => h.dec.elim .inl fun a => .inr (b.trans a)
  queue := g.g28.elim .inl fun b => h.queue.elim .inl fun a => .inr ⟨(b.1).trans (a.1), (b.2.1).trans (a.2.1), (b.2.2.1).trans (a.2.2.1), (b.2.2.2.1).trans (a.2.2.2.1), (b.2.2.2.2).trans (a.2.2.2.2)⟩
  dma := g.g29.elim .inl fun b => h.dma.elim .inl fun a => .inr (b.trans a)
  zip := g.g30.elim .inl fun b => h.zip.elim .inl fun a => .inr (b.trans a)
  twl := g.g31.elim .inl fun b => h.twl.elim .inl fun a => .inr ⟨(b.1).trans (a.1), (b.2).trans (a.2)⟩
  mc := g.g32.elim .inl fun b => h.mc.elim .inl fun a => .inr ⟨(b.1).trans (a.1), (b.2).trans (a.2)⟩
  hlth := g.g33.elim .inl fun b => h.hlth.elim .inl fun a => .inr (b.trans a)
  log := g.g34.elim .inl fun b => h.log.elim .inl fun a => .inr ⟨(b.1).trans (a.1), (b.2).trans (a.2)⟩
  commit := g.g35.elim .inl fun b => h.commit.elim .inl fun a => .inr ⟨(b.1).trans (a.1), (b.2.1).trans (a.2.1), (b.2.2).trans (a.2.2)⟩
  lock := g.g36.elim .inl fun b => h.lock.elim .inl fun a => .inr ⟨(b.1).trans (a.1), (b.2.1).trans (a.2.1), (b.2.2.1).trans (a.2.2.1), (b.2.2.2).trans (a.2.2.2)⟩

theorem Within.cut {m : Nat} {s v : State} {P : Prop} (hv : Within m s v) (hb : Within m s v → P) : P := hb hv

theorem Within.foldl {α : Type} {m : Nat} {s i : State} {f : State → α → State} {l : List α} (hi : Within m s i)
    (hf : ∀ t x, Within m s t → Within m s (f t x)) : Within m s (l.foldl f i) := by
  induction l generalizing i with
  | nil => exact hi
  | cons a l ih => exact ih (hf i a hi)

theorem Within.foldl_fst {α β : Type} {m : Nat} {s : State} {i : State × β} {f : State × β → α → State × β} {l : List α}
    (hi : Within m s i.1) (hf : ∀ t x, Within m s t.1 → Within m s (f t x).1) : Within m s (l.foldl f i).1 := by
  induction l generalizing i with
  | nil => exact hi
  | cons a l ih => exact ih (hf i a hi)

theorem Within.of_fst {β : Type} {m : Nat} {s a : State} {b : β} {p : State × β} (h : p = (a, b)) (k : Within m s p.1) : Within m s a := by
  rw [h] at k
  exact k

/-- What an outcome keeps. -/
structure WithinO (m : Nat) (s : State) (o : Host.Outcome State Fault Refusal) : Prop where
  next : ∀ t, o = .next t → Within m s t

theorem WithinO.of_next {m : Nat} {s t : State} (h : Within m s t) : WithinO m s (.next t) := ⟨fun _ e => by
  cases e
  exact h⟩

/-- The bit of the mask that stands for an area. -/
def Area.bit : Area → Nat
  | .dram => 0
  | .regs => 1
  | .shadow => 2
  | .once => 3
  | .window => 4
  | .outputs => 5
  | .clock => 6
  | .freeValues => 7
  | .fuse => 8
  | .boot => 9
  | .timebase => 10
  | .calendar => 11
  | .pins => 12
  | .events => 13
  | .raised => 14
  | .encoder => 15
  | .trigger => 16
  | .view => 17
  | .link => 18
  | .jobs => 19
  | .path => 20
  | .stitch => 21
  | .master => 22
  | .engines => 23
  | .results => 24
  | .net => 25
  | .stream => 26
  | .decimation => 27
  | .queue => 28
  | .dma => 29
  | .compression => 30
  | .twoWire => 31
  | .memoryControl => 32
  | .health => 33
  | .log => 34
  | .commit => 35
  | .lock => 36

/-- Every area. -/
def Area.all : List Area := [.dram, .regs, .shadow, .once, .window, .outputs, .clock, .freeValues, .fuse, .boot, .timebase, .calendar, .pins, .events, .raised, .encoder, .trigger, .view, .link, .jobs, .path, .stitch, .master, .engines, .results, .net, .stream, .decimation, .queue, .dma, .compression, .twoWire, .memoryControl, .health, .log, .commit, .lock]

theorem Area.mem_all (a : Area) : a ∈ Area.all := by cases a <;> decide

/-- An area outside the mask is the same after. -/
theorem Within.same {m : Nat} {s t : State} (h : Within m s t) (a : Area) (ha : ¬may m a.bit) : a.same s t := by
  cases a
  · exact h.dram.resolve_left ha
  · exact h.regs.resolve_left ha
  · exact h.shadow.resolve_left ha
  · exact h.once.resolve_left ha
  · exact h.window.resolve_left ha
  · exact h.out.resolve_left ha
  · exact h.clock.resolve_left ha
  · exact h.free.resolve_left ha
  · exact h.fuse.resolve_left ha
  · exact h.boot.resolve_left ha
  · exact h.tb.resolve_left ha
  · exact h.calendar.resolve_left ha
  · exact h.pins.resolve_left ha
  · exact h.events.resolve_left ha
  · exact h.raised.resolve_left ha
  · exact h.encoder.resolve_left ha
  · exact h.trigger.resolve_left ha
  · exact h.view.resolve_left ha
  · exact h.link.resolve_left ha
  · exact h.jobs.resolve_left ha
  · exact h.path.resolve_left ha
  · exact h.stitch.resolve_left ha
  · exact h.master.resolve_left ha
  · exact h.eng.resolve_left ha
  · exact h.res.resolve_left ha
  · exact h.net.resolve_left ha
  · exact h.stream.resolve_left ha
  · exact h.dec.resolve_left ha
  · exact h.queue.resolve_left ha
  · exact h.dma.resolve_left ha
  · exact h.zip.resolve_left ha
  · exact h.twl.resolve_left ha
  · exact h.mc.resolve_left ha
  · exact h.hlth.resolve_left ha
  · exact h.log.resolve_left ha
  · exact h.commit.resolve_left ha
  · exact h.lock.resolve_left ha

/-- A frame by mask gives the frame by a list of areas that covers the mask. -/
theorem WithinO.same {m : Nat} {l : List Area} {s t : State} {o : Host.Outcome State Fault Refusal} (h : WithinO m s o) (ho : o = .next t)
    (hl : (Area.all.all fun a => l.contains a || !decide (may m a.bit)) = true) (a : Area) (ha : a ∉ l) : a.same s t := by
  refine (h.next t ho).same a fun hb => ?_
  have := List.all_eq_true.mp hl a (Area.mem_all a)
  simp [hb, ha] at this

end Sys2Proof.Machine
end

