-- ==== Sys2Proof/Laws/Tab.lean ====
section
/-!
SUPPORT. Sparse tables: a read after a write, and the canonical form that every operation keeps.
-/
namespace Sys2Proof.Machine

theorem tabGet_past {α : Type} (d : Nat → α) (k : Nat) {t : Tab α} (h : tabPast k t = true) : tabGet d t k = d k := by
  cases t with
  | nil => rfl
  | cons e t => simp only [tabPast, decide_eq_true_eq] at h; simp [tabGet, h]

/-- A read after a write of the same key gives the value written. -/
@[simp] theorem tabGet_tabPut_same {α : Type} [DecidableEq α] (d : Nat → α) (k : Nat) (v : α) (t : Tab α) :
    tabGet d (tabPut d k v t) k = v := by
  induction t with
  | nil => by_cases h : v = d k <;> simp [tabPut, tabGet, h]
  | cons e t ih =>
    obtain ⟨j, w⟩ := e
    simp only [tabPut]
    by_cases h1 : k < j
    · by_cases h2 : v = d k <;> simp [h1, h2, tabGet]
    · by_cases h2 : k = j
      · subst h2
        by_cases h3 : v = d k ∧ tabPast k t
        · simp only [Nat.lt_irrefl, ↓reduceIte, h3.1, true_and, h3.2]
          exact tabGet_past d k h3.2
        · simp [h3, tabGet]
      · simp [h1, h2, tabGet, ih]

/-- What holds of every key's default and of every value `f` gives holds of every value of a table that `f` was done to. -/
theorem tabGet_tabMap {α : Type} [DecidableEq α] {P : α → Prop} (d : Nat → α) (f : α → α) (hd : ∀ k, P (d k)) (hf : ∀ x, P (f x)) (t : Tab α) (k : Nat) :
    P (tabGet d (tabMap d f t) k) := by
  have h (l : Tab α) (hl : ∀ e ∈ l, P e.2) : P (tabGet d l k) := by
    induction l with
    | nil => exact hd k
    | cons e l ih =>
      obtain ⟨j, w⟩ := e
      simp only [tabGet]
      split
      · exact hd k
      · split
        · exact hl _ (List.mem_cons_self ..)
        · exact ih fun x hx => hl x (List.mem_cons_of_mem _ hx)
  refine h _ fun e he => ?_
  obtain ⟨x, -, rfl⟩ := List.mem_map.mp (List.mem_filter.mp he).1
  exact hf _

/-- A read of another key gives what it gave before. -/
theorem tabGet_tabPut_of_ne {α : Type} [DecidableEq α] (d : Nat → α) {k k' : Nat} (v : α) (t : Tab α) (hk : k' ≠ k) :
    tabGet d (tabPut d k v t) k' = tabGet d t k' := by
  induction t with
  | nil =>
    by_cases h : v = d k
    · simp [tabPut, h]
    · simp only [tabPut, h, ↓reduceIte, tabGet]
      by_cases h2 : k' < k <;> simp [h2, hk]
  | cons e t ih =>
    obtain ⟨j, w⟩ := e
    simp only [tabPut]
    by_cases h1 : k < j
    · by_cases h2 : v = d k
      · simp [h1, h2]
      · simp only [h1, h2, ↓reduceIte]
        rw [tabGet]
        by_cases h3 : k' < k
        · simp [h3, tabGet, Nat.lt_trans h3 h1]
        · simp [h3, hk]
    · by_cases h2 : k = j
      · subst h2
        by_cases h3 : v = d k ∧ tabPast k t
        · simp only [Nat.lt_irrefl, ↓reduceIte, h3.1, true_and, h3.2]
          rw [tabGet]
          by_cases h4 : k' < k
          · simp only [h4, ↓reduceIte]
            cases t with
            | nil => rfl
            | cons e t =>
              have h5 := h3.2
              simp only [tabPast, decide_eq_true_eq] at h5
              simp [tabGet, Nat.lt_trans h4 h5]
          · simp [h4, hk]
        · simp only [Nat.lt_irrefl, ↓reduceIte, h3]
          simp [tabGet, hk]
      · simp only [h1, ↓reduceIte, h2]
        rw [tabGet, tabGet, ih]

/-- A read after a write. -/
theorem tabGet_tabPut {α : Type} [DecidableEq α] (d : Nat → α) (k k' : Nat) (v : α) (t : Tab α) :
    tabGet d (tabPut d k v t) k' = if k' = k then v else tabGet d t k' := by
  by_cases h : k' = k
  · simp [h]
  · simp [h, tabGet_tabPut_of_ne d v t h]

theorem tabOkFrom_mono {α : Type} [DecidableEq α] (d : Nat → α) {lo lo' : Nat} {t : Tab α} (h : tabOkFrom d lo t = true) (hl : lo' ≤ lo) :
    tabOkFrom d lo' t = true := by
  cases t with
  | nil => rfl
  | cons e t =>
    simp only [tabOkFrom, Bool.and_eq_true, decide_eq_true_eq] at h ⊢
    exact ⟨⟨Nat.le_trans hl h.1.1, h.1.2⟩, h.2⟩

theorem tabOkFrom_tabPut {α : Type} [DecidableEq α] (d : Nat → α) (k : Nat) (v : α) {t : Tab α} :
    ∀ {lo : Nat}, lo ≤ k → tabOkFrom d lo t = true → tabOkFrom d lo (tabPut d k v t) = true := by
  induction t with
  | nil =>
    intro lo hk h
    by_cases hv : v = d k <;> simp [tabPut, tabOkFrom, hv, hk]
  | cons e t ih =>
    obtain ⟨j, w⟩ := e
    intro lo hk h
    simp only [tabOkFrom, Bool.and_eq_true, decide_eq_true_eq] at h
    obtain ⟨⟨h1, h2⟩, h3⟩ := h
    simp only [tabPut]
    by_cases hj : k < j
    · by_cases hv : v = d k
      · simp [hj, hv, tabOkFrom, h1, h2, h3]
      · simp only [hj, hv, ↓reduceIte, tabOkFrom, Bool.and_eq_true, decide_eq_true_eq]
        exact ⟨⟨hk, hv⟩, ⟨hj, h2⟩, h3⟩
    · by_cases he : k = j
      · subst he
        by_cases hv : v = d k
        · have hp : tabPast k t = true := by
            cases t with
            | nil => rfl
            | cons e t =>
              simp only [tabOkFrom, Bool.and_eq_true, decide_eq_true_eq] at h3
              simp only [tabPast, decide_eq_true_eq]
              omega
          simp only [Nat.lt_irrefl, ↓reduceIte, hv, hp, and_self]
          exact tabOkFrom_mono d h3 (by omega)
        · simp [hv, tabOkFrom, hk, h3]
      · simp only [hj, ↓reduceIte, he, tabOkFrom, Bool.and_eq_true, decide_eq_true_eq]
        exact ⟨⟨h1, h2⟩, ih (by omega) h3⟩

/-- A write keeps the canonical form. -/
theorem tabOk_tabPut {α : Type} [DecidableEq α] (d : Nat → α) (k : Nat) (v : α) {t : Tab α} (h : tabOk d t = true) :
    tabOk d (tabPut d k v t) = true := tabOkFrom_tabPut d k v (Nat.zero_le _) h

/-- A write of consecutive keys keeps the canonical form. -/
theorem tabOk_tabPutList {α : Type} [DecidableEq α] (d : Nat → α) (l : List α) :
    ∀ (k : Nat) {t : Tab α}, tabOk d t = true → tabOk d (tabPutList d k l t) = true := by
  induction l with
  | nil => intro k t h; exact h
  | cons v l ih => intro k t h; exact ih (k + 1) (tabOk_tabPut d k v h)

/-- A range returned to a new default, with every other key's default kept, leaves the canonical form. -/
theorem tabOk_tabClear {α : Type} [DecidableEq α] (d d' : Nat → α) (lo hi : Nat) (hd : ∀ k, k < lo ∨ hi ≤ k → d' k = d k) {t : Tab α} :
    ∀ {b : Nat}, tabOkFrom d b t = true → tabOkFrom d' b (tabClear lo hi t) = true := by
  induction t with
  | nil => intro b _; rfl
  | cons e t ih =>
    obtain ⟨j, w⟩ := e
    intro b h
    simp only [tabOkFrom, Bool.and_eq_true, decide_eq_true_eq] at h
    obtain ⟨⟨h1, h2⟩, h3⟩ := h
    unfold tabClear
    by_cases hj : j < lo ∨ hi ≤ j
    · have : (decide (j < lo) || decide (hi ≤ j)) = true := by simpa using hj
      rw [List.filter_cons_of_pos (by exact this)]
      simp only [tabOkFrom, Bool.and_eq_true, decide_eq_true_eq]
      exact ⟨⟨h1, by rw [hd j hj]; exact h2⟩, ih h3⟩
    · have : ¬(decide (j < lo) || decide (hi ≤ j)) = true := by simpa using hj
      rw [List.filter_cons_of_neg (by exact this)]
      exact ih (tabOkFrom_mono d h3 (by omega))

/-- A read of a key outside a write of consecutive keys gives what it gave before. -/
theorem tabGet_tabPutList_of_lt {α : Type} [DecidableEq α] (d : Nat → α) (l : List α) :
    ∀ (k : Nat) (t : Tab α) {k' : Nat}, k' < k ∨ k + l.length ≤ k' → tabGet d (tabPutList d k l t) k' = tabGet d t k' := by
  induction l with
  | nil => intro k t k' _; rfl
  | cons v l ih =>
    intro k t k' h
    simp only [List.length_cons] at h
    rw [tabPutList, ih (k + 1) _ (by omega), tabGet_tabPut_of_ne d v t (by omega)]

/-- A write of consecutive keys reads back. -/
theorem tabGetList_tabPutList {α : Type} [DecidableEq α] (d : Nat → α) (l : List α) :
    ∀ (k : Nat) (t : Tab α), tabGetList d (tabPutList d k l t) k l.length = l := by
  induction l with
  | nil => intro k t; rfl
  | cons v l ih =>
    intro k t
    simp only [tabPutList, List.length_cons, tabGetList]
    rw [tabGet_tabPutList_of_lt d l (k + 1) _ (by omega), tabGet_tabPut_same, ih]

end Sys2Proof.Machine
end

