-- ==== Sys2Proof/Laws/FrameOps.lean ====
section
/-!
SUPPORT. Frames of Sys2Proof/Machine/Ops.lean: what each operation there may change.
-/
set_option linter.unusedTactic false
set_option linter.unreachableTactic false

namespace Sys2Proof.Machine

theorem State.wr_within (s : State) (p : Nat) (off : Nat) (w : Word) : Within 0x2 s (State.wr s p off w) := by
  unfold State.wr
  repeat' first | with_reducible assumption | with_reducible exact Within.refl _ _ | split | (apply Within.upd; (dsimp only; try exact rfl); exact ⟨Nat.le_refl _, List.prefix_refl _, Nat.le_refl _, ⟨rfl, rfl, rfl⟩, .inr ⟨rfl, rfl, rfl⟩, .inl rfl, .inr rfl, .inr rfl, .inr rfl, .inr rfl, .inr rfl, .inr rfl, .inr rfl, .inr ⟨rfl, rfl⟩, .inr rfl, .inr rfl, .inr rfl, .inr rfl, .inr rfl, .inr rfl, .inr rfl, .inr rfl, .inr ⟨rfl, rfl, rfl⟩, .inr ⟨rfl, rfl, rfl, rfl, rfl⟩, .inr ⟨rfl, rfl, rfl, rfl⟩, .inr ⟨rfl, rfl, rfl⟩, .inr ⟨rfl, rfl⟩, .inr rfl, .inr ⟨rfl, rfl, rfl, rfl⟩, .inr rfl, .inr rfl, .inr rfl, .inr ⟨rfl, rfl, rfl, rfl, rfl⟩, .inr rfl, .inr rfl, .inr ⟨rfl, rfl⟩, .inr ⟨rfl, rfl⟩, .inr rfl, .inr ⟨rfl, rfl⟩, .inr ⟨rfl, rfl, rfl⟩, .inr ⟨rfl, rfl, rfl, rfl⟩⟩) | fail

theorem State.wrShadow_within (s : State) (p : Nat) (off : Nat) (w : Word) : Within 0x4 s (State.wrShadow s p off w) := by
  unfold State.wrShadow
  repeat' first | with_reducible assumption | with_reducible exact Within.refl _ _ | split | (apply Within.upd; (dsimp only; try exact rfl); exact ⟨Nat.le_refl _, List.prefix_refl _, Nat.le_refl _, ⟨rfl, rfl, rfl⟩, .inr ⟨rfl, rfl, rfl⟩, .inr rfl, .inl rfl, .inr rfl, .inr rfl, .inr rfl, .inr rfl, .inr rfl, .inr rfl, .inr ⟨rfl, rfl⟩, .inr rfl, .inr rfl, .inr rfl, .inr rfl, .inr rfl, .inr rfl, .inr rfl, .inr rfl, .inr ⟨rfl, rfl, rfl⟩, .inr ⟨rfl, rfl, rfl, rfl, rfl⟩, .inr ⟨rfl, rfl, rfl, rfl⟩, .inr ⟨rfl, rfl, rfl⟩, .inr ⟨rfl, rfl⟩, .inr rfl, .inr ⟨rfl, rfl, rfl, rfl⟩, .inr rfl, .inr rfl, .inr rfl, .inr ⟨rfl, rfl, rfl, rfl, rfl⟩, .inr rfl, .inr rfl, .inr ⟨rfl, rfl⟩, .inr ⟨rfl, rfl⟩, .inr rfl, .inr ⟨rfl, rfl⟩, .inr ⟨rfl, rfl, rfl⟩, .inr ⟨rfl, rfl, rfl, rfl⟩⟩) | fail

theorem State.setFld_within (s : State) (p : Nat) (f : Fld) (v : Nat) : Within 0x2 s (State.setFld s p f v) := by
  unfold State.setFld
  repeat' first | with_reducible assumption | with_reducible exact Within.refl _ _ | ((with_reducible apply Within.step (State.wr_within ..) ?_ ?_); exact rfl) | split | fail

theorem State.setBit_within (s : State) (p : Nat) (f : Fld) (b : Bool) : Within 0x2 s (State.setBit s p f b) := by
  unfold State.setBit
  repeat' first | with_reducible assumption | with_reducible exact Within.refl _ _ | ((with_reducible apply Within.step (State.setFld_within ..) ?_ ?_); exact rfl) | split | fail

theorem State.bumpBy_within (s : State) (p : Nat) (f : Fld) (n : Nat) : Within 0x2 s (State.bumpBy s p f n) := by
  unfold State.bumpBy
  repeat' first | with_reducible assumption | with_reducible exact Within.refl _ _ | ((with_reducible apply Within.step (State.setFld_within ..) ?_ ?_); exact rfl) | split | fail

theorem State.bump_within (s : State) (p : Nat) (f : Fld) : Within 0x2 s (State.bump s p f) := by
  unfold State.bump
  repeat' first | with_reducible assumption | with_reducible exact Within.refl _ _ | ((with_reducible apply Within.step (State.bumpBy_within ..) ?_ ?_); exact rfl) | split | fail

theorem State.wr64_within (s : State) (p : Nat) (lo : Nat) (hi : Nat) (x : Nat) : Within 0x2 s (State.wr64 s p lo hi x) := by
  unfold State.wr64
  repeat' first | with_reducible assumption | with_reducible exact Within.refl _ _ | ((with_reducible apply Within.step (State.wr_within ..) ?_ ?_); exact rfl) | split | fail

theorem State.wrAll_within (s : State) (p : Nat) (l : List (Nat × Word)) : Within 0x2 s (State.wrAll s p l) := by
  unfold State.wrAll
  repeat' first | with_reducible assumption | with_reducible exact Within.refl _ _ | ((with_reducible apply Within.step (State.wr_within ..) ?_ ?_); exact rfl) | ((with_reducible apply Within.foldl ?_ ?_); rotate_left; intro x1 x2 h1) | ((with_reducible apply Within.foldl_fst ?_ ?_); rotate_left; intro x1 x2 h1) | split | fail

theorem State.setWin_within (s : State) (a : Nat) (w : Word) : Within 0x10 s (State.setWin s a w) := by
  unfold State.setWin
  repeat' first | with_reducible assumption | with_reducible exact Within.refl _ _ | split | (apply Within.upd; (dsimp only; try exact rfl); exact ⟨Nat.le_refl _, List.prefix_refl _, Nat.le_refl _, ⟨rfl, rfl, rfl⟩, .inr ⟨rfl, rfl, rfl⟩, .inr rfl, .inr rfl, .inr rfl, .inl rfl, .inr rfl, .inr rfl, .inr rfl, .inr rfl, .inr ⟨rfl, rfl⟩, .inr rfl, .inr rfl, .inr rfl, .inr rfl, .inr rfl, .inr rfl, .inr rfl, .inr rfl, .inr ⟨rfl, rfl, rfl⟩, .inr ⟨rfl, rfl, rfl, rfl, rfl⟩, .inr ⟨rfl, rfl, rfl, rfl⟩, .inr ⟨rfl, rfl, rfl⟩, .inr ⟨rfl, rfl⟩, .inr rfl, .inr ⟨rfl, rfl, rfl, rfl⟩, .inr rfl, .inr rfl, .inr rfl, .inr ⟨rfl, rfl, rfl, rfl, rfl⟩, .inr rfl, .inr rfl, .inr ⟨rfl, rfl⟩, .inr ⟨rfl, rfl⟩, .inr rfl, .inr ⟨rfl, rfl⟩, .inr ⟨rfl, rfl, rfl⟩, .inr ⟨rfl, rfl, rfl, rfl⟩⟩) | fail

theorem State.setWinBits_within (s : State) (base : Nat) (lo : Nat) (len : Nat) (v : Nat) : Within 0x10 s (State.setWinBits s base lo len v) := by
  unfold State.setWinBits
  repeat' first | with_reducible assumption | with_reducible exact Within.refl _ _ | ((try lift_lets -underBinder); intro x1; first | (have h0 := fun a => x1 a; clear h0; unfold x1; clear x1) | (refine Within.cut (m := 0x10) (s := s) (v := x1) ?_ ?_; unfold x1; rotate_left; intro h1; clear_value x1) | (refine Within.cut (m := 0x10) (s := s) (v := x1.1) ?_ ?_; unfold x1; rotate_left; intro h1; clear_value x1) | clear_value x1 | (refine Within.cut (m := 0x10) (s := s) (v := x1) ?_ ?_; unfold x1; rotate_left; intro h1) | (refine Within.cut (m := 0x10) (s := s) (v := x1.1) ?_ ?_; unfold x1; rotate_left; intro h1) | skip) | ((with_reducible apply Within.step (State.setWin_within ..) ?_ ?_); exact rfl) | ((with_reducible apply Within.foldl ?_ ?_); rotate_left; intro x1 x2 h1) | ((with_reducible apply Within.foldl_fst ?_ ?_); rotate_left; intro x1 x2 h1) | split | fail

/-- Bytes written keep the canonical form of DRAM. -/

theorem State.dramPut_within (s : State) (a : Nat) (l : List Byte) : Within 0x1 s (State.dramPut s a l) := by
  unfold State.dramPut
  split
  · exact Within.refl _ _
  · exact ⟨⟨rfl, List.prefix_refl _, Nat.le_refl _, Nat.or_self _, tabOk_tabPutList _ _ _⟩, Nat.le_refl _, .inl rfl, .inr rfl, .inr rfl, .inr rfl, .inr rfl, .inr rfl, .inr rfl, .inr rfl, .inr rfl, .inr ⟨rfl, rfl⟩, .inr rfl, .inr rfl, .inr rfl, .inr rfl, .inr rfl, .inr rfl, .inr rfl, .inr rfl, .inr ⟨rfl, rfl, rfl⟩, .inr ⟨rfl, rfl, rfl, rfl, rfl⟩, .inr ⟨rfl, rfl, rfl, rfl⟩, .inr ⟨rfl, rfl, rfl⟩, .inr ⟨rfl, rfl⟩, .inr rfl, .inr ⟨rfl, rfl, rfl, rfl⟩, .inr rfl, .inr rfl, .inr rfl, .inr ⟨rfl, rfl, rfl, rfl, rfl⟩, .inr rfl, .inr rfl, .inr ⟨rfl, rfl⟩, .inr ⟨rfl, rfl⟩, .inr rfl, .inr ⟨rfl, rfl⟩, .inr ⟨rfl, rfl, rfl⟩, .inr ⟨rfl, rfl, rfl, rfl⟩⟩

/-- Blown fuses stay blown. -/

theorem State.blowFuses_within (s : State) (m : Nat) : Within 0x100 s (State.blowFuses s m) := by
  exact ⟨⟨rfl, List.prefix_refl _, Nat.le_refl _, by simp only [State.blowFuses, ← Nat.or_assoc, Nat.or_self], id⟩, Nat.le_refl _, .inr ⟨rfl, rfl, rfl⟩, .inr rfl, .inr rfl, .inr rfl, .inr rfl, .inr rfl, .inr rfl, .inr rfl, .inl rfl, .inr ⟨rfl, rfl⟩, .inr rfl, .inr rfl, .inr rfl, .inr rfl, .inr rfl, .inr rfl, .inr rfl, .inr rfl, .inr ⟨rfl, rfl, rfl⟩, .inr ⟨rfl, rfl, rfl, rfl, rfl⟩, .inr ⟨rfl, rfl, rfl, rfl⟩, .inr ⟨rfl, rfl, rfl⟩, .inr ⟨rfl, rfl⟩, .inr rfl, .inr ⟨rfl, rfl, rfl, rfl⟩, .inr rfl, .inr rfl, .inr rfl, .inr ⟨rfl, rfl, rfl, rfl, rfl⟩, .inr rfl, .inr rfl, .inr ⟨rfl, rfl⟩, .inr ⟨rfl, rfl⟩, .inr rfl, .inr ⟨rfl, rfl⟩, .inr ⟨rfl, rfl, rfl⟩, .inr ⟨rfl, rfl, rfl, rfl⟩⟩

/-- A range blanked keeps the canonical form of DRAM. -/

theorem State.blankRange_within (s : State) (lo : Nat) (hi : Nat) (seed : Option Nat) : Within 0x1 s (State.blankRange s lo hi seed) := by
  exact ⟨⟨rfl, List.prefix_refl _, Nat.le_refl _, Nat.or_self _, fun h => tabOk_tabClear (blankByte s.blank) (blankByte (⟨lo, hi, seed⟩ :: s.blank)) lo hi (fun k hk => by
    have : ¬(lo ≤ k ∧ k < hi) := by omega
    simp [blankByte, this]) h⟩, Nat.le_refl _, .inl rfl, .inr rfl, .inr rfl, .inr rfl, .inr rfl, .inr rfl, .inr rfl, .inr rfl, .inr rfl, .inr ⟨rfl, rfl⟩, .inr rfl, .inr rfl, .inr rfl, .inr rfl, .inr rfl, .inr rfl, .inr rfl, .inr rfl, .inr ⟨rfl, rfl, rfl⟩, .inr ⟨rfl, rfl, rfl, rfl, rfl⟩, .inr ⟨rfl, rfl, rfl, rfl⟩, .inr ⟨rfl, rfl, rfl⟩, .inr ⟨rfl, rfl⟩, .inr rfl, .inr ⟨rfl, rfl, rfl, rfl⟩, .inr rfl, .inr rfl, .inr rfl, .inr ⟨rfl, rfl, rfl, rfl, rfl⟩, .inr rfl, .inr rfl, .inr ⟨rfl, rfl⟩, .inr ⟨rfl, rfl⟩, .inr rfl, .inr ⟨rfl, rfl⟩, .inr ⟨rfl, rfl, rfl⟩, .inr ⟨rfl, rfl, rfl, rfl⟩⟩

theorem State.advance_within (s : State) (raw : Nat) : Within 0x40 s (State.advance s raw) := by
  unfold State.advance
  repeat' first | with_reducible assumption | with_reducible exact Within.refl _ _ | split | (apply Within.upd; (dsimp only; try exact rfl); exact ⟨(by first | exact Nat.le_refl _ | exact Nat.le_max_left _ _ | exact Nat.le_max_right _ _ | exact Nat.le_add_right _ _), List.prefix_refl _, Nat.le_refl _, ⟨rfl, rfl, rfl⟩, .inr ⟨rfl, rfl, rfl⟩, .inr rfl, .inr rfl, .inr rfl, .inr rfl, .inr rfl, .inl rfl, .inr rfl, .inr rfl, .inr ⟨rfl, rfl⟩, .inr rfl, .inr rfl, .inr rfl, .inr rfl, .inr rfl, .inr rfl, .inr rfl, .inr rfl, .inr ⟨rfl, rfl, rfl⟩, .inr ⟨rfl, rfl, rfl, rfl, rfl⟩, .inr ⟨rfl, rfl, rfl, rfl⟩, .inr ⟨rfl, rfl, rfl⟩, .inr ⟨rfl, rfl⟩, .inr rfl, .inr ⟨rfl, rfl, rfl, rfl⟩, .inr rfl, .inr rfl, .inr rfl, .inr ⟨rfl, rfl, rfl, rfl, rfl⟩, .inr rfl, .inr rfl, .inr ⟨rfl, rfl⟩, .inr ⟨rfl, rfl⟩, .inr rfl, .inr ⟨rfl, rfl⟩, .inr ⟨rfl, rfl, rfl⟩, .inr ⟨rfl, rfl, rfl, rfl⟩⟩) | fail

theorem State.atCycle_within (s : State) (c : Nat) : Within 0x40 s (State.atCycle s c) := by
  unfold State.atCycle
  repeat' first | with_reducible assumption | with_reducible exact Within.refl _ _ | ((with_reducible apply Within.step (State.advance_within ..) ?_ ?_); exact rfl) | split | fail

theorem State.atNs_within (s : State) (t : Nat) : Within 0x40 s (State.atNs s t) := by
  unfold State.atNs
  repeat' first | with_reducible assumption | with_reducible exact Within.refl _ _ | ((with_reducible apply Within.step (State.advance_within ..) ?_ ?_); exact rfl) | split | fail

theorem State.emit_within (s : State) (o : Output) : Within 0x20 s (State.emit s o) := by
  unfold State.emit
  repeat' first | with_reducible assumption | with_reducible exact Within.refl _ _ | split | (apply Within.upd; (dsimp only; try exact rfl); exact ⟨Nat.le_refl _, (by first | exact List.prefix_refl _ | exact List.prefix_append _ _), Nat.le_refl _, ⟨rfl, rfl, rfl⟩, .inr ⟨rfl, rfl, rfl⟩, .inr rfl, .inr rfl, .inr rfl, .inr rfl, .inl rfl, .inr rfl, .inr rfl, .inr rfl, .inr ⟨rfl, rfl⟩, .inr rfl, .inr rfl, .inr rfl, .inr rfl, .inr rfl, .inr rfl, .inr rfl, .inr rfl, .inr ⟨rfl, rfl, rfl⟩, .inr ⟨rfl, rfl, rfl, rfl, rfl⟩, .inr ⟨rfl, rfl, rfl, rfl⟩, .inr ⟨rfl, rfl, rfl⟩, .inr ⟨rfl, rfl⟩, .inr rfl, .inr ⟨rfl, rfl, rfl, rfl⟩, .inr rfl, .inr rfl, .inr rfl, .inr ⟨rfl, rfl, rfl, rfl, rfl⟩, .inr rfl, .inr rfl, .inr ⟨rfl, rfl⟩, .inr ⟨rfl, rfl⟩, .inr rfl, .inr ⟨rfl, rfl⟩, .inr ⟨rfl, rfl, rfl⟩, .inr ⟨rfl, rfl, rfl, rfl⟩⟩) | fail

theorem State.drawn_within (s : State) : Within 0x80 s (State.drawn s) := by
  unfold State.drawn
  repeat' first | with_reducible assumption | with_reducible exact Within.refl _ _ | split | (apply Within.upd; (dsimp only; try exact rfl); exact ⟨Nat.le_refl _, List.prefix_refl _, (by first | exact Nat.le_refl _ | exact Nat.le_add_right _ _), ⟨rfl, rfl, rfl⟩, .inr ⟨rfl, rfl, rfl⟩, .inr rfl, .inr rfl, .inr rfl, .inr rfl, .inr rfl, .inr rfl, .inl rfl, .inr rfl, .inr ⟨rfl, rfl⟩, .inr rfl, .inr rfl, .inr rfl, .inr rfl, .inr rfl, .inr rfl, .inr rfl, .inr rfl, .inr ⟨rfl, rfl, rfl⟩, .inr ⟨rfl, rfl, rfl, rfl, rfl⟩, .inr ⟨rfl, rfl, rfl, rfl⟩, .inr ⟨rfl, rfl, rfl⟩, .inr ⟨rfl, rfl⟩, .inr rfl, .inr ⟨rfl, rfl, rfl, rfl⟩, .inr rfl, .inr rfl, .inr rfl, .inr ⟨rfl, rfl, rfl, rfl, rfl⟩, .inr rfl, .inr rfl, .inr ⟨rfl, rfl⟩, .inr ⟨rfl, rfl⟩, .inr rfl, .inr ⟨rfl, rfl⟩, .inr ⟨rfl, rfl, rfl⟩, .inr ⟨rfl, rfl, rfl, rfl⟩⟩) | fail

theorem State.drawnN_within (s : State) (n : Nat) : Within 0x80 s (State.drawnN s n) := by
  unfold State.drawnN
  repeat' first | with_reducible assumption | with_reducible exact Within.refl _ _ | split | (apply Within.upd; (dsimp only; try exact rfl); exact ⟨Nat.le_refl _, List.prefix_refl _, (by first | exact Nat.le_refl _ | exact Nat.le_add_right _ _), ⟨rfl, rfl, rfl⟩, .inr ⟨rfl, rfl, rfl⟩, .inr rfl, .inr rfl, .inr rfl, .inr rfl, .inr rfl, .inr rfl, .inl rfl, .inr rfl, .inr ⟨rfl, rfl⟩, .inr rfl, .inr rfl, .inr rfl, .inr rfl, .inr rfl, .inr rfl, .inr rfl, .inr rfl, .inr ⟨rfl, rfl, rfl⟩, .inr ⟨rfl, rfl, rfl, rfl, rfl⟩, .inr ⟨rfl, rfl, rfl, rfl⟩, .inr ⟨rfl, rfl, rfl⟩, .inr ⟨rfl, rfl⟩, .inr rfl, .inr ⟨rfl, rfl, rfl, rfl⟩, .inr rfl, .inr rfl, .inr rfl, .inr ⟨rfl, rfl, rfl, rfl, rfl⟩, .inr rfl, .inr rfl, .inr ⟨rfl, rfl⟩, .inr ⟨rfl, rfl⟩, .inr rfl, .inr ⟨rfl, rfl⟩, .inr ⟨rfl, rfl, rfl⟩, .inr ⟨rfl, rfl, rfl, rfl⟩⟩) | fail

theorem State.arbRound_within (s : State) (a : Nat) (reqs : List Nat) : Within 0x10000000 s (State.arbRound s a reqs).1 := by
  unfold State.arbRound
  repeat' first | with_reducible assumption | with_reducible exact Within.refl _ _ | ((try lift_lets -underBinder); intro x1; first | (have h0 := fun a => x1 a; clear h0; unfold x1; clear x1) | (refine Within.cut (m := 0x10000000) (s := s) (v := x1) ?_ ?_; unfold x1; rotate_left; intro h1; clear_value x1) | (refine Within.cut (m := 0x10000000) (s := s) (v := x1.1) ?_ ?_; unfold x1; rotate_left; intro h1; clear_value x1) | clear_value x1 | (refine Within.cut (m := 0x10000000) (s := s) (v := x1) ?_ ?_; unfold x1; rotate_left; intro h1) | (refine Within.cut (m := 0x10000000) (s := s) (v := x1.1) ?_ ?_; unfold x1; rotate_left; intro h1) | skip) | with_reducible apply Within.of_fst (by assumption) ?_ | split | (apply Within.upd; (dsimp only; try exact rfl); exact ⟨Nat.le_refl _, List.prefix_refl _, Nat.le_refl _, ⟨rfl, rfl, rfl⟩, .inr ⟨rfl, rfl, rfl⟩, .inr rfl, .inr rfl, .inr rfl, .inr rfl, .inr rfl, .inr rfl, .inr rfl, .inr rfl, .inr ⟨rfl, rfl⟩, .inr rfl, .inr rfl, .inr rfl, .inr rfl, .inr rfl, .inr rfl, .inr rfl, .inr rfl, .inr ⟨rfl, rfl, rfl⟩, .inr ⟨rfl, rfl, rfl, rfl, rfl⟩, .inr ⟨rfl, rfl, rfl, rfl⟩, .inr ⟨rfl, rfl, rfl⟩, .inr ⟨rfl, rfl⟩, .inr rfl, .inr ⟨rfl, rfl, rfl, rfl⟩, .inr rfl, .inr rfl, .inr rfl, .inl rfl, .inr rfl, .inr rfl, .inr ⟨rfl, rfl⟩, .inr ⟨rfl, rfl⟩, .inr rfl, .inr ⟨rfl, rfl⟩, .inr ⟨rfl, rfl, rfl⟩, .inr ⟨rfl, rfl, rfl, rfl⟩⟩) | fail

theorem State.setFifo_within (s : State) (f : Nat) (l : List Byte) : Within 0x80000000 s (State.setFifo s f l) := by
  unfold State.setFifo
  repeat' first | with_reducible assumption | with_reducible exact Within.refl _ _ | split | (apply Within.upd; (dsimp only; try exact rfl); exact ⟨Nat.le_refl _, List.prefix_refl _, Nat.le_refl _, ⟨rfl, rfl, rfl⟩, .inr ⟨rfl, rfl, rfl⟩, .inr rfl, .inr rfl, .inr rfl, .inr rfl, .inr rfl, .inr rfl, .inr rfl, .inr rfl, .inr ⟨rfl, rfl⟩, .inr rfl, .inr rfl, .inr rfl, .inr rfl, .inr rfl, .inr rfl, .inr rfl, .inr rfl, .inr ⟨rfl, rfl, rfl⟩, .inr ⟨rfl, rfl, rfl, rfl, rfl⟩, .inr ⟨rfl, rfl, rfl, rfl⟩, .inr ⟨rfl, rfl, rfl⟩, .inr ⟨rfl, rfl⟩, .inr rfl, .inr ⟨rfl, rfl, rfl, rfl⟩, .inr rfl, .inr rfl, .inr rfl, .inr ⟨rfl, rfl, rfl, rfl, rfl⟩, .inr rfl, .inr rfl, .inl rfl, .inr ⟨rfl, rfl⟩, .inr rfl, .inr ⟨rfl, rfl⟩, .inr ⟨rfl, rfl, rfl⟩, .inr ⟨rfl, rfl, rfl, rfl⟩⟩) | fail

theorem State.fifoPut_within (s : State) (f : Nat) (l : List Byte) : Within 0x80000000 s (State.fifoPut s f l) := by
  unfold State.fifoPut
  repeat' first | with_reducible assumption | with_reducible exact Within.refl _ _ | ((with_reducible apply Within.step (State.setFifo_within ..) ?_ ?_); exact rfl) | split | fail

theorem State.fifoGet_within (s : State) (f : Nat) (n : Nat) : Within 0x80000000 s (State.fifoGet s f n).1 := by
  unfold State.fifoGet
  repeat' first | with_reducible assumption | with_reducible exact Within.refl _ _ | ((try lift_lets -underBinder); intro x1; first | (have h0 := fun a => x1 a; clear h0; unfold x1; clear x1) | (refine Within.cut (m := 0x80000000) (s := s) (v := x1) ?_ ?_; unfold x1; rotate_left; intro h1; clear_value x1) | (refine Within.cut (m := 0x80000000) (s := s) (v := x1.1) ?_ ?_; unfold x1; rotate_left; intro h1; clear_value x1) | clear_value x1 | (refine Within.cut (m := 0x80000000) (s := s) (v := x1) ?_ ?_; unfold x1; rotate_left; intro h1) | (refine Within.cut (m := 0x80000000) (s := s) (v := x1.1) ?_ ?_; unfold x1; rotate_left; intro h1) | skip) | ((with_reducible apply Within.step (State.setFifo_within ..) ?_ ?_); exact rfl) | split | fail

end Sys2Proof.Machine
end

