-- ==== Sys2Proof/Laws/FrameFlags.lean ====
section
/-!
SUPPORT. Frames of Sys2Proof/Machine/Flags.lean: what each operation there may change.
-/
set_option linter.unusedTactic false
set_option linter.unreachableTactic false

namespace Sys2Proof.Machine

theorem State.msix_within (s : State) (v : Nat) : Within 0x32 s (State.msix s v) := by
  unfold State.msix
  repeat' first | with_reducible assumption | with_reducible exact Within.refl _ _ | ((with_reducible apply Within.step (State.emit_within ..) ?_ ?_); exact rfl) | ((with_reducible apply Within.step (State.setWinBits_within ..) ?_ ?_); exact rfl) | ((with_reducible apply Within.step (State.bump_within ..) ?_ ?_); exact rfl) | split | fail

theorem State.irq_within (s : State) (p : Nat) (bit : Nat) : Within 0x32 s (State.irq s p bit) := by
  unfold State.irq
  repeat' first | with_reducible assumption | with_reducible exact Within.refl _ _ | ((try lift_lets -underBinder); intro x1; first | (have h0 := fun a => x1 a; clear h0; unfold x1; clear x1) | (refine Within.cut (m := 0x32) (s := s) (v := x1) ?_ ?_; unfold x1; rotate_left; intro h1; clear_value x1) | (refine Within.cut (m := 0x32) (s := s) (v := x1.1) ?_ ?_; unfold x1; rotate_left; intro h1; clear_value x1) | clear_value x1 | (refine Within.cut (m := 0x32) (s := s) (v := x1) ?_ ?_; unfold x1; rotate_left; intro h1) | (refine Within.cut (m := 0x32) (s := s) (v := x1.1) ?_ ?_; unfold x1; rotate_left; intro h1) | skip) | ((with_reducible apply Within.step (State.msix_within ..) ?_ ?_); exact rfl) | ((with_reducible apply Within.step (State.setFld_within ..) ?_ ?_); exact rfl) | split | fail

theorem State.errEdge_within (s : State) (p : Nat) : Within 0x32 s (State.errEdge s p) := by
  unfold State.errEdge
  repeat' first | with_reducible assumption | with_reducible exact Within.refl _ _ | ((try lift_lets -underBinder); intro x1; first | (have h0 := fun a => x1 a; clear h0; unfold x1; clear x1) | (refine Within.cut (m := 0x32) (s := s) (v := x1) ?_ ?_; unfold x1; rotate_left; intro h1; clear_value x1) | (refine Within.cut (m := 0x32) (s := s) (v := x1.1) ?_ ?_; unfold x1; rotate_left; intro h1; clear_value x1) | clear_value x1 | (refine Within.cut (m := 0x32) (s := s) (v := x1) ?_ ?_; unfold x1; rotate_left; intro h1) | (refine Within.cut (m := 0x32) (s := s) (v := x1.1) ?_ ?_; unfold x1; rotate_left; intro h1) | skip) | ((with_reducible apply Within.step (State.irq_within ..) ?_ ?_); exact rfl) | ((with_reducible apply Within.step (State.setBit_within ..) ?_ ?_); exact rfl) | split | fail

theorem State.flag_within (s : State) (p : Nat) (f : Fld) : Within 0x32 s (State.flag s p f) := by
  unfold State.flag
  repeat' first | with_reducible assumption | with_reducible exact Within.refl _ _ | ((with_reducible apply Within.step (State.errEdge_within ..) ?_ ?_); exact rfl) | ((with_reducible apply Within.step (State.setFld_within ..) ?_ ?_); exact rfl) | split | fail

theorem State.flagBit_within (s : State) (p : Nat) (f : Fld) (k : Nat) : Within 0x32 s (State.flagBit s p f k) := by
  unfold State.flagBit
  repeat' first | with_reducible assumption | with_reducible exact Within.refl _ _ | ((with_reducible apply Within.step (State.flag_within ..) ?_ ?_); exact rfl) | split | fail

end Sys2Proof.Machine
end

