-- ==== Sys2Proof/Laws/FrameQueues.lean ====
section
/-!
SUPPORT. Frames of Sys2Proof/Machine/Queues.lean: what each operation there may change.
-/
set_option linter.unusedTactic false
set_option linter.unreachableTactic false

namespace Sys2Proof.Machine

theorem State.setQ_within (s : State) (q : Nat) (v : Queue) : Within 0x10000000 s (State.setQ s q v) := by
  unfold State.setQ
  repeat' first | with_reducible assumption | with_reducible exact Within.refl _ _ | split | (apply Within.upd; (dsimp only; try exact rfl); exact ⟨Nat.le_refl _, List.prefix_refl _, Nat.le_refl _, ⟨rfl, rfl, rfl⟩, .inr ⟨rfl, rfl, rfl⟩, .inr rfl, .inr rfl, .inr rfl, .inr rfl, .inr rfl, .inr rfl, .inr rfl, .inr rfl, .inr ⟨rfl, rfl⟩, .inr rfl, .inr rfl, .inr rfl, .inr rfl, .inr rfl, .inr rfl, .inr rfl, .inr rfl, .inr ⟨rfl, rfl, rfl⟩, .inr ⟨rfl, rfl, rfl, rfl, rfl⟩, .inr ⟨rfl, rfl, rfl, rfl⟩, .inr ⟨rfl, rfl, rfl⟩, .inr ⟨rfl, rfl⟩, .inr rfl, .inr ⟨rfl, rfl, rfl, rfl⟩, .inr rfl, .inr rfl, .inr rfl, .inl rfl, .inr rfl, .inr rfl, .inr ⟨rfl, rfl⟩, .inr ⟨rfl, rfl⟩, .inr rfl, .inr ⟨rfl, rfl⟩, .inr ⟨rfl, rfl, rfl⟩, .inr ⟨rfl, rfl, rfl, rfl⟩⟩) | fail

theorem State.qRequest_within (s : State) (q : Nat) (holder : Nat) (n : Nat) (reserve : Bool) : Within 0x10000002 s (State.qRequest s q holder n reserve).1 := by
  unfold State.qRequest
  repeat' first | with_reducible assumption | with_reducible exact Within.refl _ _ | ((with_reducible apply Within.step (State.setQ_within ..) ?_ ?_); exact rfl) | ((with_reducible apply Within.step (State.bump_within ..) ?_ ?_); exact rfl) | split | fail

theorem State.qReturn_within (s : State) (q : Nat) (holder : Nat) : Within 0x10000000 s (State.qReturn s q holder) := by
  unfold State.qReturn
  repeat' first | with_reducible assumption | with_reducible exact Within.refl _ _ | ((with_reducible apply Within.step (State.setQ_within ..) ?_ ?_); exact rfl) | split | fail

theorem State.showLevels_within (s : State) : Within 0x32 s (State.showLevels s) := by
  unfold State.showLevels
  repeat' first | with_reducible assumption | with_reducible exact Within.refl _ _ | ((try lift_lets -underBinder); intro x1; first | (have h0 := fun a => x1 a; clear h0; unfold x1; clear x1) | (refine Within.cut (m := 0x32) (s := s) (v := x1) ?_ ?_; unfold x1; rotate_left; intro h1; clear_value x1) | (refine Within.cut (m := 0x32) (s := s) (v := x1.1) ?_ ?_; unfold x1; rotate_left; intro h1; clear_value x1) | clear_value x1 | (refine Within.cut (m := 0x32) (s := s) (v := x1) ?_ ?_; unfold x1; rotate_left; intro h1) | (refine Within.cut (m := 0x32) (s := s) (v := x1.1) ?_ ?_; unfold x1; rotate_left; intro h1) | skip) | ((with_reducible apply Within.step (State.irq_within ..) ?_ ?_); exact rfl) | ((with_reducible apply Within.step (State.setFld_within ..) ?_ ?_); exact rfl) | split | fail

theorem State.qLevelCheck_within (s : State) (q : Nat) : Within 0x10000032 s (State.qLevelCheck s q) := by
  unfold State.qLevelCheck
  repeat' first | with_reducible assumption | with_reducible exact Within.refl _ _ | ((try lift_lets -underBinder); intro x1; first | (have h0 := fun a => x1 a; clear h0; unfold x1; clear x1) | (refine Within.cut (m := 0x10000032) (s := s) (v := x1) ?_ ?_; unfold x1; rotate_left; intro h1; clear_value x1) | (refine Within.cut (m := 0x10000032) (s := s) (v := x1.1) ?_ ?_; unfold x1; rotate_left; intro h1; clear_value x1) | clear_value x1 | (refine Within.cut (m := 0x10000032) (s := s) (v := x1) ?_ ?_; unfold x1; rotate_left; intro h1) | (refine Within.cut (m := 0x10000032) (s := s) (v := x1.1) ?_ ?_; unfold x1; rotate_left; intro h1) | skip) | ((with_reducible apply Within.step (State.showLevels_within ..) ?_ ?_); exact rfl) | ((with_reducible apply Within.step (State.setQ_within ..) ?_ ?_); exact rfl) | split | (apply Within.upd; (dsimp only; try exact rfl); exact ⟨Nat.le_refl _, List.prefix_refl _, Nat.le_refl _, ⟨rfl, rfl, rfl⟩, .inr ⟨rfl, rfl, rfl⟩, .inl rfl, .inr rfl, .inr rfl, .inl rfl, .inl rfl, .inr rfl, .inr rfl, .inr rfl, .inr ⟨rfl, rfl⟩, .inr rfl, .inr rfl, .inr rfl, .inr rfl, .inr rfl, .inr rfl, .inr rfl, .inr rfl, .inr ⟨rfl, rfl, rfl⟩, .inr ⟨rfl, rfl, rfl, rfl, rfl⟩, .inr ⟨rfl, rfl, rfl, rfl⟩, .inr ⟨rfl, rfl, rfl⟩, .inr ⟨rfl, rfl⟩, .inr rfl, .inr ⟨rfl, rfl, rfl, rfl⟩, .inr rfl, .inr rfl, .inr rfl, .inl rfl, .inr rfl, .inr rfl, .inr ⟨rfl, rfl⟩, .inr ⟨rfl, rfl⟩, .inr rfl, .inr ⟨rfl, rfl⟩, .inr ⟨rfl, rfl, rfl⟩, .inr ⟨rfl, rfl, rfl, rfl⟩⟩) | fail

theorem State.ringPut_within (s : State) (q : Nat) (k : Nat) (w : QWord) : Within 0x1 s (State.ringPut s q k w) := by
  unfold State.ringPut
  repeat' first | with_reducible assumption | with_reducible exact Within.refl _ _ | ((try lift_lets -underBinder); intro x1; first | (have h0 := fun a => x1 a; clear h0; unfold x1; clear x1) | (refine Within.cut (m := 0x1) (s := s) (v := x1) ?_ ?_; unfold x1; rotate_left; intro h1; clear_value x1) | (refine Within.cut (m := 0x1) (s := s) (v := x1.1) ?_ ?_; unfold x1; rotate_left; intro h1; clear_value x1) | clear_value x1 | (refine Within.cut (m := 0x1) (s := s) (v := x1) ?_ ?_; unfold x1; rotate_left; intro h1) | (refine Within.cut (m := 0x1) (s := s) (v := x1.1) ?_ ?_; unfold x1; rotate_left; intro h1) | skip) | ((with_reducible apply Within.step (State.dramPut_within ..) ?_ ?_); exact rfl) | with_reducible apply Within.of_fst (by assumption) ?_ | split | fail

theorem State.extPut_within (s : State) (q : Nat) (w : QWord) : Within 0x10000003 s (State.extPut s q w) := by
  unfold State.extPut
  repeat' first | with_reducible assumption | with_reducible exact Within.refl _ _ | ((try lift_lets -underBinder); intro x1; first | (have h0 := fun a => x1 a; clear h0; unfold x1; clear x1) | (refine Within.cut (m := 0x10000003) (s := s) (v := x1) ?_ ?_; unfold x1; rotate_left; intro h1; clear_value x1) | (refine Within.cut (m := 0x10000003) (s := s) (v := x1.1) ?_ ?_; unfold x1; rotate_left; intro h1; clear_value x1) | clear_value x1 | (refine Within.cut (m := 0x10000003) (s := s) (v := x1) ?_ ?_; unfold x1; rotate_left; intro h1) | (refine Within.cut (m := 0x10000003) (s := s) (v := x1.1) ?_ ?_; unfold x1; rotate_left; intro h1) | skip) | ((with_reducible apply Within.step (State.ringPut_within ..) ?_ ?_); exact rfl) | ((with_reducible apply Within.step (State.setQ_within ..) ?_ ?_); exact rfl) | ((with_reducible apply Within.step (State.bumpBy_within ..) ?_ ?_); exact rfl) | split | fail

theorem State.qPut_within (s : State) (q : Nat) (d : Word64) (tag : Nat) (sof : Bool) (eof : Bool) : Within 0x10000033 s (State.qPut s q d tag sof eof) := by
  unfold State.qPut
  repeat' first | with_reducible assumption | with_reducible exact Within.refl _ _ | ((try lift_lets -underBinder); intro x1; first | (have h0 := fun a => x1 a; clear h0; unfold x1; clear x1) | (refine Within.cut (m := 0x10000033) (s := s) (v := x1) ?_ ?_; unfold x1; rotate_left; intro h1; clear_value x1) | (refine Within.cut (m := 0x10000033) (s := s) (v := x1.1) ?_ ?_; unfold x1; rotate_left; intro h1; clear_value x1) | clear_value x1 | (refine Within.cut (m := 0x10000033) (s := s) (v := x1) ?_ ?_; unfold x1; rotate_left; intro h1) | (refine Within.cut (m := 0x10000033) (s := s) (v := x1.1) ?_ ?_; unfold x1; rotate_left; intro h1) | skip) | ((with_reducible apply Within.step (State.extPut_within ..) ?_ ?_); exact rfl) | ((with_reducible apply Within.step (State.qLevelCheck_within ..) ?_ ?_); exact rfl) | ((with_reducible apply Within.step (State.setQ_within ..) ?_ ?_); exact rfl) | ((with_reducible apply Within.step (State.flag_within ..) ?_ ?_); exact rfl) | split | fail

theorem State.qPush_within (s : State) (q : Nat) (holder : Nat) (d : Word64) (tag : Nat) (sof : Bool) (eof : Bool) : Within 0x10000033 s (State.qPush s q holder d tag sof eof) := by
  unfold State.qPush
  repeat' first | with_reducible assumption | with_reducible exact Within.refl _ _ | ((try lift_lets -underBinder); intro x1; first | (have h0 := fun a => x1 a; clear h0; unfold x1; clear x1) | (refine Within.cut (m := 0x10000033) (s := s) (v := x1) ?_ ?_; unfold x1; rotate_left; intro h1; clear_value x1) | (refine Within.cut (m := 0x10000033) (s := s) (v := x1.1) ?_ ?_; unfold x1; rotate_left; intro h1; clear_value x1) | clear_value x1 | (refine Within.cut (m := 0x10000033) (s := s) (v := x1) ?_ ?_; unfold x1; rotate_left; intro h1) | (refine Within.cut (m := 0x10000033) (s := s) (v := x1.1) ?_ ?_; unfold x1; rotate_left; intro h1) | skip) | ((with_reducible apply Within.step (State.qPut_within ..) ?_ ?_); exact rfl) | ((with_reducible apply Within.step (State.setQ_within ..) ?_ ?_); exact rfl) | split | fail

theorem State.qPutFrame_within (s : State) (q : Nat) (l : List Word64) (tag : Nat) : Within 0x10000033 s (State.qPutFrame s q l tag) := by
  unfold State.qPutFrame
  repeat' first | with_reducible assumption | with_reducible exact Within.refl _ _ | ((with_reducible apply Within.step (State.qPut_within ..) ?_ ?_); exact rfl) | ((with_reducible apply Within.foldl ?_ ?_); rotate_left; intro x1 x2 h1) | ((with_reducible apply Within.foldl_fst ?_ ?_); rotate_left; intro x1 x2 h1) | split | fail

end Sys2Proof.Machine
end

