-- ==== Sys2Proof/Laws/FrameEthOps.lean ====
section
/-!
SUPPORT. Frames of Sys2Proof/Machine/EthOps.lean: what each operation there may change.
-/
set_option linter.unusedTactic false
set_option linter.unreachableTactic false

namespace Sys2Proof.Machine

theorem State.txBytes_within (s : State) (n : Nat) (bytes : Nat) : Within 0x2000002 s (State.txBytes s n bytes) := by
  unfold State.txBytes
  repeat' first | with_reducible assumption | with_reducible exact Within.refl _ _ | ((try lift_lets -underBinder); intro x1; first | (have h0 := fun a => x1 a; clear h0; unfold x1; clear x1) | (refine Within.cut (m := 0x2000002) (s := s) (v := x1) ?_ ?_; unfold x1; rotate_left; intro h1; clear_value x1) | (refine Within.cut (m := 0x2000002) (s := s) (v := x1.1) ?_ ?_; unfold x1; rotate_left; intro h1; clear_value x1) | clear_value x1 | (refine Within.cut (m := 0x2000002) (s := s) (v := x1) ?_ ?_; unfold x1; rotate_left; intro h1) | (refine Within.cut (m := 0x2000002) (s := s) (v := x1.1) ?_ ?_; unfold x1; rotate_left; intro h1) | skip) | ((with_reducible apply Within.step (State.bumpBy_within ..) ?_ ?_); exact rfl) | split | (apply Within.upd; (dsimp only; try exact rfl); exact ⟨Nat.le_refl _, List.prefix_refl _, Nat.le_refl _, ⟨rfl, rfl, rfl⟩, .inr ⟨rfl, rfl, rfl⟩, .inl rfl, .inr rfl, .inr rfl, .inr rfl, .inr rfl, .inr rfl, .inr rfl, .inr rfl, .inr ⟨rfl, rfl⟩, .inr rfl, .inr rfl, .inr rfl, .inr rfl, .inr rfl, .inr rfl, .inr rfl, .inr rfl, .inr ⟨rfl, rfl, rfl⟩, .inr ⟨rfl, rfl, rfl, rfl, rfl⟩, .inr ⟨rfl, rfl, rfl, rfl⟩, .inr ⟨rfl, rfl, rfl⟩, .inr ⟨rfl, rfl⟩, .inr rfl, .inr ⟨rfl, rfl, rfl, rfl⟩, .inl rfl, .inr rfl, .inr rfl, .inr ⟨rfl, rfl, rfl, rfl, rfl⟩, .inr rfl, .inr rfl, .inr ⟨rfl, rfl⟩, .inr ⟨rfl, rfl⟩, .inr rfl, .inr ⟨rfl, rfl⟩, .inr ⟨rfl, rfl, rfl⟩, .inr ⟨rfl, rfl, rfl, rfl⟩⟩) | fail

theorem State.countTx_within (s : State) (n : Nat) (bytes : Nat) : Within 0x2000002 s (State.countTx s n bytes) := by
  unfold State.countTx
  repeat' first | with_reducible assumption | with_reducible exact Within.refl _ _ | ((with_reducible apply Within.step (State.txBytes_within ..) ?_ ?_); exact rfl) | ((with_reducible apply Within.step (State.bump_within ..) ?_ ?_); exact rfl) | split | fail

theorem State.countWord_within (s : State) (q : Nat) (w : QWord) : Within 0x2000002 s (State.countWord s q w) := by
  unfold State.countWord
  repeat' first | with_reducible assumption | with_reducible exact Within.refl _ _ | ((try lift_lets -underBinder); intro x1; first | (have h0 := fun a => x1 a; clear h0; unfold x1; clear x1) | (refine Within.cut (m := 0x2000002) (s := s) (v := x1) ?_ ?_; unfold x1; rotate_left; intro h1; clear_value x1) | (refine Within.cut (m := 0x2000002) (s := s) (v := x1.1) ?_ ?_; unfold x1; rotate_left; intro h1; clear_value x1) | clear_value x1 | (refine Within.cut (m := 0x2000002) (s := s) (v := x1) ?_ ?_; unfold x1; rotate_left; intro h1) | (refine Within.cut (m := 0x2000002) (s := s) (v := x1.1) ?_ ?_; unfold x1; rotate_left; intro h1) | skip) | ((with_reducible apply Within.step (State.txBytes_within ..) ?_ ?_); exact rfl) | ((with_reducible apply Within.step (State.bump_within ..) ?_ ?_); exact rfl) | split | fail

end Sys2Proof.Machine
end

