-- ==== Sys2Proof/Laws/FrameLinkOps.lean ====
section
/-!
SUPPORT. Frames of Sys2Proof/Machine/LinkOps.lean: what each operation there may change.
-/
set_option linter.unusedTactic false
set_option linter.unreachableTactic false

namespace Sys2Proof.Machine

theorem State.setLink_within (s : State) (p : Nat) (st : Nat) : Within 0x2 s (State.setLink s p st) := by
  unfold State.setLink
  repeat' first | with_reducible assumption | with_reducible exact Within.refl _ _ | ((with_reducible apply Within.step (State.setFld_within ..) ?_ ?_); exact rfl) | split | fail

theorem State.putLink_within (s : State) (p : Nat) (l : Link) : Within 0x40000 s (State.putLink s p l) := by
  unfold State.putLink
  repeat' first | with_reducible assumption | with_reducible exact Within.refl _ _ | split | (apply Within.upd; (dsimp only; try exact rfl); exact ⟨Nat.le_refl _, List.prefix_refl _, Nat.le_refl _, ⟨rfl, rfl, rfl⟩, .inr ⟨rfl, rfl, rfl⟩, .inr rfl, .inr rfl, .inr rfl, .inr rfl, .inr rfl, .inr rfl, .inr rfl, .inr rfl, .inr ⟨rfl, rfl⟩, .inr rfl, .inr rfl, .inr rfl, .inr rfl, .inr rfl, .inr rfl, .inr rfl, .inr rfl, .inl rfl, .inr ⟨rfl, rfl, rfl, rfl, rfl⟩, .inr ⟨rfl, rfl, rfl, rfl⟩, .inr ⟨rfl, rfl, rfl⟩, .inr ⟨rfl, rfl⟩, .inr rfl, .inr ⟨rfl, rfl, rfl, rfl⟩, .inr rfl, .inr rfl, .inr rfl, .inr ⟨rfl, rfl, rfl, rfl, rfl⟩, .inr rfl, .inr rfl, .inr ⟨rfl, rfl⟩, .inr ⟨rfl, rfl⟩, .inr rfl, .inr ⟨rfl, rfl⟩, .inr ⟨rfl, rfl, rfl⟩, .inr ⟨rfl, rfl, rfl, rfl⟩⟩) | fail

theorem State.putTrain_within (s : State) (p : Nat) (m : Nat) (t : Train) : Within 0x40000 s (State.putTrain s p m t) := by
  unfold State.putTrain
  repeat' first | with_reducible assumption | with_reducible exact Within.refl _ _ | split | (apply Within.upd; (dsimp only; try exact rfl); exact ⟨Nat.le_refl _, List.prefix_refl _, Nat.le_refl _, ⟨rfl, rfl, rfl⟩, .inr ⟨rfl, rfl, rfl⟩, .inr rfl, .inr rfl, .inr rfl, .inr rfl, .inr rfl, .inr rfl, .inr rfl, .inr rfl, .inr ⟨rfl, rfl⟩, .inr rfl, .inr rfl, .inr rfl, .inr rfl, .inr rfl, .inr rfl, .inr rfl, .inr rfl, .inl rfl, .inr ⟨rfl, rfl, rfl, rfl, rfl⟩, .inr ⟨rfl, rfl, rfl, rfl⟩, .inr ⟨rfl, rfl, rfl⟩, .inr ⟨rfl, rfl⟩, .inr rfl, .inr ⟨rfl, rfl, rfl, rfl⟩, .inr rfl, .inr rfl, .inr rfl, .inr ⟨rfl, rfl, rfl, rfl, rfl⟩, .inr rfl, .inr rfl, .inr ⟨rfl, rfl⟩, .inr ⟨rfl, rfl⟩, .inr rfl, .inr ⟨rfl, rfl⟩, .inr ⟨rfl, rfl, rfl⟩, .inr ⟨rfl, rfl, rfl, rfl⟩⟩) | fail

theorem State.uplink_within (s : State) (p : Nat) (type : Nat) (tag : Nat) (arg0 : Nat) (arg1 : Nat) (addr : Nat) (data : Nat) : Within 0x20 s (State.uplink s p type tag arg0 arg1 addr data) := by
  unfold State.uplink
  repeat' first | with_reducible assumption | with_reducible exact Within.refl _ _ | ((with_reducible apply Within.step (State.emit_within ..) ?_ ?_); exact rfl) | split | fail

theorem State.trigger_within (s : State) (p : Nat) (line : Nat) : Within 0x20 s (State.trigger s p line) := by
  unfold State.trigger
  repeat' first | with_reducible assumption | with_reducible exact Within.refl _ _ | ((with_reducible apply Within.step (State.emit_within ..) ?_ ?_); exact rfl) | split | fail

theorem State.linkCmd_within (s : State) (p : Nat) (c : Nat) : Within 0x20 s (State.linkCmd s p c) := by
  unfold State.linkCmd
  repeat' first | with_reducible assumption | with_reducible exact Within.refl _ _ | ((with_reducible apply Within.step (State.uplink_within ..) ?_ ?_); exact rfl) | split | fail

theorem State.readIdent_within (s : State) (p : Nat) : Within 0x40020 s (State.readIdent s p) := by
  unfold State.readIdent
  repeat' first | with_reducible assumption | with_reducible exact Within.refl _ _ | ((try lift_lets -underBinder); intro x1; first | (have h0 := fun a => x1 a; clear h0; unfold x1; clear x1) | (refine Within.cut (m := 0x40020) (s := s) (v := x1) ?_ ?_; unfold x1; rotate_left; intro h1; clear_value x1) | (refine Within.cut (m := 0x40020) (s := s) (v := x1.1) ?_ ?_; unfold x1; rotate_left; intro h1; clear_value x1) | clear_value x1 | (refine Within.cut (m := 0x40020) (s := s) (v := x1) ?_ ?_; unfold x1; rotate_left; intro h1) | (refine Within.cut (m := 0x40020) (s := s) (v := x1.1) ?_ ?_; unfold x1; rotate_left; intro h1) | skip) | ((with_reducible apply Within.step (State.uplink_within ..) ?_ ?_); exact rfl) | ((with_reducible apply Within.step (State.putLink_within ..) ?_ ?_); exact rfl) | with_reducible apply Within.of_fst (by assumption) ?_ | split | fail

theorem State.hostCamReq_within (s : State) (p : Nat) (a : Nat) (data : Option Nat) : Within 0x40020 s (State.hostCamReq s p a data) := by
  unfold State.hostCamReq
  repeat' first | with_reducible assumption | with_reducible exact Within.refl _ _ | ((try lift_lets -underBinder); intro x1; first | (have h0 := fun a => x1 a; clear h0; unfold x1; clear x1) | (refine Within.cut (m := 0x40020) (s := s) (v := x1) ?_ ?_; unfold x1; rotate_left; intro h1; clear_value x1) | (refine Within.cut (m := 0x40020) (s := s) (v := x1.1) ?_ ?_; unfold x1; rotate_left; intro h1; clear_value x1) | clear_value x1 | (refine Within.cut (m := 0x40020) (s := s) (v := x1) ?_ ?_; unfold x1; rotate_left; intro h1) | (refine Within.cut (m := 0x40020) (s := s) (v := x1.1) ?_ ?_; unfold x1; rotate_left; intro h1) | skip) | ((with_reducible apply Within.step (State.uplink_within ..) ?_ ?_); exact rfl) | ((with_reducible apply Within.step (State.putLink_within ..) ?_ ?_); exact rfl) | with_reducible apply Within.of_fst (by assumption) ?_ | split | fail

theorem State.nextRequest_within (s : State) (p : Nat) : Within 0x40020 s (State.nextRequest s p) := by
  unfold State.nextRequest
  repeat' first | with_reducible assumption | with_reducible exact Within.refl _ _ | ((try lift_lets -underBinder); intro x1; first | (have h0 := fun a => x1 a; clear h0; unfold x1; clear x1) | (refine Within.cut (m := 0x40020) (s := s) (v := x1) ?_ ?_; unfold x1; rotate_left; intro h1; clear_value x1) | (refine Within.cut (m := 0x40020) (s := s) (v := x1.1) ?_ ?_; unfold x1; rotate_left; intro h1; clear_value x1) | clear_value x1 | (refine Within.cut (m := 0x40020) (s := s) (v := x1) ?_ ?_; unfold x1; rotate_left; intro h1) | (refine Within.cut (m := 0x40020) (s := s) (v := x1.1) ?_ ?_; unfold x1; rotate_left; intro h1) | skip) | ((with_reducible apply Within.step (State.hostCamReq_within ..) ?_ ?_); exact rfl) | ((with_reducible apply Within.step (State.readIdent_within ..) ?_ ?_); exact rfl) | with_reducible apply Within.of_fst (by assumption) ?_ | split | fail

theorem State.clkLost_within (s : State) (d : Nat) : Within 0x2 s (State.clkLost s d) := by
  unfold State.clkLost
  repeat' first | with_reducible assumption | with_reducible exact Within.refl _ _ | ((try lift_lets -underBinder); intro x1; first | (have h0 := fun a => x1 a; clear h0; unfold x1; clear x1) | (refine Within.cut (m := 0x2) (s := s) (v := x1) ?_ ?_; unfold x1; rotate_left; intro h1; clear_value x1) | (refine Within.cut (m := 0x2) (s := s) (v := x1.1) ?_ ?_; unfold x1; rotate_left; intro h1; clear_value x1) | clear_value x1 | (refine Within.cut (m := 0x2) (s := s) (v := x1) ?_ ?_; unfold x1; rotate_left; intro h1) | (refine Within.cut (m := 0x2) (s := s) (v := x1.1) ?_ ?_; unfold x1; rotate_left; intro h1) | skip) | ((with_reducible apply Within.step (State.setFld_within ..) ?_ ?_); exact rfl) | ((with_reducible apply Within.step (State.wr_within ..) ?_ ?_); exact rfl) | with_reducible apply Within.of_fst (by assumption) ?_ | split | fail

theorem State.clkStop_within (s : State) (p : Nat) : Within 0x2 s (State.clkStop s p) := by
  unfold State.clkStop
  repeat' first | with_reducible assumption | with_reducible exact Within.refl _ _ | ((with_reducible apply Within.step (State.setFld_within ..) ?_ ?_); exact rfl) | ((with_reducible apply Within.step (State.wr_within ..) ?_ ?_); exact rfl) | with_reducible apply Within.of_fst (by assumption) ?_ | split | fail

theorem State.clkRun_within (s : State) (p : Nat) (kHz : Nat) : Within 0x2 s (State.clkRun s p kHz) := by
  unfold State.clkRun
  repeat' first | with_reducible assumption | with_reducible exact Within.refl _ _ | ((with_reducible apply Within.step (State.setFld_within ..) ?_ ?_); exact rfl) | ((with_reducible apply Within.step (State.wr_within ..) ?_ ?_); exact rfl) | with_reducible apply Within.of_fst (by assumption) ?_ | split | fail

theorem State.enterBase_within (s : State) (p : Nat) : Within 0x40022 s (State.enterBase s p) := by
  unfold State.enterBase
  repeat' first | with_reducible assumption | with_reducible exact Within.refl _ _ | ((try lift_lets -underBinder); intro x1; first | (have h0 := fun a => x1 a; clear h0; unfold x1; clear x1) | (refine Within.cut (m := 0x40022) (s := s) (v := x1) ?_ ?_; unfold x1; rotate_left; intro h1; clear_value x1) | (refine Within.cut (m := 0x40022) (s := s) (v := x1.1) ?_ ?_; unfold x1; rotate_left; intro h1; clear_value x1) | clear_value x1 | (refine Within.cut (m := 0x40022) (s := s) (v := x1) ?_ ?_; unfold x1; rotate_left; intro h1) | (refine Within.cut (m := 0x40022) (s := s) (v := x1.1) ?_ ?_; unfold x1; rotate_left; intro h1) | skip) | ((with_reducible apply Within.step (State.nextRequest_within ..) ?_ ?_); exact rfl) | ((with_reducible apply Within.step (State.linkCmd_within ..) ?_ ?_); exact rfl) | ((with_reducible apply Within.step (State.putTrain_within ..) ?_ ?_); exact rfl) | ((with_reducible apply Within.step (State.putLink_within ..) ?_ ?_); exact rfl) | ((with_reducible apply Within.step (State.setLink_within ..) ?_ ?_); exact rfl) | ((with_reducible apply Within.step (State.setFld_within ..) ?_ ?_); exact rfl) | ((with_reducible apply Within.foldl ?_ ?_); rotate_left; intro x1 x2 h1) | ((with_reducible apply Within.foldl_fst ?_ ?_); rotate_left; intro x1 x2 h1) | split | fail

theorem State.dropLocks_within (s : State) (p : Nat) : Within 0x2 s (State.dropLocks s p) := by
  unfold State.dropLocks
  repeat' first | with_reducible assumption | with_reducible exact Within.refl _ _ | ((try lift_lets -underBinder); intro x1; first | (have h0 := fun a => x1 a; clear h0; unfold x1; clear x1) | (refine Within.cut (m := 0x2) (s := s) (v := x1) ?_ ?_; unfold x1; rotate_left; intro h1; clear_value x1) | (refine Within.cut (m := 0x2) (s := s) (v := x1.1) ?_ ?_; unfold x1; rotate_left; intro h1; clear_value x1) | clear_value x1 | (refine Within.cut (m := 0x2) (s := s) (v := x1) ?_ ?_; unfold x1; rotate_left; intro h1) | (refine Within.cut (m := 0x2) (s := s) (v := x1.1) ?_ ?_; unfold x1; rotate_left; intro h1) | skip) | ((with_reducible apply Within.step (State.clkStop_within ..) ?_ ?_); exact rfl) | ((with_reducible apply Within.step (State.setFld_within ..) ?_ ?_); exact rfl) | ((with_reducible apply Within.foldl ?_ ?_); rotate_left; intro x1 x2 h1) | ((with_reducible apply Within.foldl_fst ?_ ?_); rotate_left; intro x1 x2 h1) | split | fail

theorem State.disablePort_within (s : State) (p : Nat) : Within 0x2 s (State.disablePort s p) := by
  unfold State.disablePort
  repeat' first | with_reducible assumption | with_reducible exact Within.refl _ _ | ((try lift_lets -underBinder); intro x1; first | (have h0 := fun a => x1 a; clear h0; unfold x1; clear x1) | (refine Within.cut (m := 0x2) (s := s) (v := x1) ?_ ?_; unfold x1; rotate_left; intro h1; clear_value x1) | (refine Within.cut (m := 0x2) (s := s) (v := x1.1) ?_ ?_; unfold x1; rotate_left; intro h1; clear_value x1) | clear_value x1 | (refine Within.cut (m := 0x2) (s := s) (v := x1) ?_ ?_; unfold x1; rotate_left; intro h1) | (refine Within.cut (m := 0x2) (s := s) (v := x1.1) ?_ ?_; unfold x1; rotate_left; intro h1) | skip) | ((with_reducible apply Within.step (State.dropLocks_within ..) ?_ ?_); exact rfl) | ((with_reducible apply Within.step (State.setLink_within ..) ?_ ?_); exact rfl) | ((with_reducible apply Within.step (State.setFld_within ..) ?_ ?_); exact rfl) | split | fail

theorem State.portSync_within (s : State) (p : Nat) : Within 0x40022 s (State.portSync s p) := by
  unfold State.portSync
  repeat' first | with_reducible assumption | with_reducible exact Within.refl _ _ | ((with_reducible apply Within.step (State.disablePort_within ..) ?_ ?_); exact rfl) | ((with_reducible apply Within.step (State.enterBase_within ..) ?_ ?_); exact rfl) | split | fail

theorem State.cutPort_within (s : State) (p : Nat) : Within 0x100000 s (State.cutPort s p) := by
  unfold State.cutPort
  repeat' first | with_reducible assumption | with_reducible exact Within.refl _ _ | ((try lift_lets -underBinder); intro x1; first | (have h0 := fun a => x1 a; clear h0; unfold x1; clear x1) | (refine Within.cut (m := 0x100000) (s := s) (v := x1) ?_ ?_; unfold x1; rotate_left; intro h1; clear_value x1) | (refine Within.cut (m := 0x100000) (s := s) (v := x1.1) ?_ ?_; unfold x1; rotate_left; intro h1; clear_value x1) | clear_value x1 | (refine Within.cut (m := 0x100000) (s := s) (v := x1) ?_ ?_; unfold x1; rotate_left; intro h1) | (refine Within.cut (m := 0x100000) (s := s) (v := x1.1) ?_ ?_; unfold x1; rotate_left; intro h1) | skip) | with_reducible apply Within.of_fst (by assumption) ?_ | split | (apply Within.upd; (dsimp only; try exact rfl); exact ⟨Nat.le_refl _, List.prefix_refl _, Nat.le_refl _, ⟨rfl, rfl, rfl⟩, .inr ⟨rfl, rfl, rfl⟩, .inr rfl, .inr rfl, .inr rfl, .inr rfl, .inr rfl, .inr rfl, .inr rfl, .inr rfl, .inr ⟨rfl, rfl⟩, .inr rfl, .inr rfl, .inr rfl, .inr rfl, .inr rfl, .inr rfl, .inr rfl, .inr rfl, .inr ⟨rfl, rfl, rfl⟩, .inr ⟨rfl, rfl, rfl, rfl, rfl⟩, .inl rfl, .inr ⟨rfl, rfl, rfl⟩, .inr ⟨rfl, rfl⟩, .inr rfl, .inr ⟨rfl, rfl, rfl, rfl⟩, .inr rfl, .inr rfl, .inr rfl, .inr ⟨rfl, rfl, rfl, rfl, rfl⟩, .inr rfl, .inr rfl, .inr ⟨rfl, rfl⟩, .inr ⟨rfl, rfl⟩, .inr rfl, .inr ⟨rfl, rfl⟩, .inr ⟨rfl, rfl, rfl⟩, .inr ⟨rfl, rfl, rfl, rfl⟩⟩) | fail

theorem State.portChanged_within (s : State) (p : Nat) : Within 0x140022 s (State.portChanged s p) := by
  unfold State.portChanged
  repeat' first | with_reducible assumption | with_reducible exact Within.refl _ _ | ((try lift_lets -underBinder); intro x1; first | (have h0 := fun a => x1 a; clear h0; unfold x1; clear x1) | (refine Within.cut (m := 0x140022) (s := s) (v := x1) ?_ ?_; unfold x1; rotate_left; intro h1; clear_value x1) | (refine Within.cut (m := 0x140022) (s := s) (v := x1.1) ?_ ?_; unfold x1; rotate_left; intro h1; clear_value x1) | clear_value x1 | (refine Within.cut (m := 0x140022) (s := s) (v := x1) ?_ ?_; unfold x1; rotate_left; intro h1) | (refine Within.cut (m := 0x140022) (s := s) (v := x1.1) ?_ ?_; unfold x1; rotate_left; intro h1) | skip) | ((with_reducible apply Within.step (State.cutPort_within ..) ?_ ?_); exact rfl) | ((with_reducible apply Within.step (State.portSync_within ..) ?_ ?_); exact rfl) | ((with_reducible apply Within.step (State.enterBase_within ..) ?_ ?_); exact rfl) | split | fail

end Sys2Proof.Machine
end

