-- ==== Sys2Proof/Laws/FrameCommit.lean ====
section
/-!
SUPPORT. Frames of Sys2Proof/Machine/Commit.lean: what each operation there may change.
-/
set_option linter.unusedTactic false
set_option linter.unreachableTactic false

namespace Sys2Proof.Machine

theorem State.setPend_within (s : State) (p : Nat) (v : Option Pend) : Within 0x800000002 s (State.setPend s p v) := by
  unfold State.setPend
  repeat' first | with_reducible assumption | with_reducible exact Within.refl _ _ | ((try lift_lets -underBinder); intro x1; first | (have h0 := fun a => x1 a; clear h0; unfold x1; clear x1) | (refine Within.cut (m := 0x800000002) (s := s) (v := x1) ?_ ?_; unfold x1; rotate_left; intro h1; clear_value x1) | (refine Within.cut (m := 0x800000002) (s := s) (v := x1.1) ?_ ?_; unfold x1; rotate_left; intro h1; clear_value x1) | clear_value x1 | (refine Within.cut (m := 0x800000002) (s := s) (v := x1) ?_ ?_; unfold x1; rotate_left; intro h1) | (refine Within.cut (m := 0x800000002) (s := s) (v := x1.1) ?_ ?_; unfold x1; rotate_left; intro h1) | skip) | ((with_reducible apply Within.step (State.setBit_within ..) ?_ ?_); exact rfl) | split | (apply Within.upd; (dsimp only; try exact rfl); exact ⟨Nat.le_refl _, List.prefix_refl _, Nat.le_refl _, ⟨rfl, rfl, rfl⟩, .inr ⟨rfl, rfl, rfl⟩, .inl rfl, .inr rfl, .inr rfl, .inr rfl, .inr rfl, .inr rfl, .inr rfl, .inr rfl, .inr ⟨rfl, rfl⟩, .inr rfl, .inr rfl, .inr rfl, .inr rfl, .inr rfl, .inr rfl, .inr rfl, .inr rfl, .inr ⟨rfl, rfl, rfl⟩, .inr ⟨rfl, rfl, rfl, rfl, rfl⟩, .inr ⟨rfl, rfl, rfl, rfl⟩, .inr ⟨rfl, rfl, rfl⟩, .inr ⟨rfl, rfl⟩, .inr rfl, .inr ⟨rfl, rfl, rfl, rfl⟩, .inr rfl, .inr rfl, .inr rfl, .inr ⟨rfl, rfl, rfl, rfl, rfl⟩, .inr rfl, .inr rfl, .inr ⟨rfl, rfl⟩, .inr ⟨rfl, rfl⟩, .inr rfl, .inr ⟨rfl, rfl⟩, .inl rfl, .inr ⟨rfl, rfl, rfl, rfl⟩⟩) | fail

theorem State.regHook_within (s : State) (a : Nat) (old : Word) (new : Word) : Within 0x148022 s (State.regHook s a old new) := by
  unfold State.regHook
  repeat' first | with_reducible assumption | with_reducible exact Within.refl _ _ | ((try lift_lets -underBinder); intro x1; first | (have h0 := fun a => x1 a; clear h0; unfold x1; clear x1) | (refine Within.cut (m := 0x148022) (s := s) (v := x1) ?_ ?_; unfold x1; rotate_left; intro h1; clear_value x1) | (refine Within.cut (m := 0x148022) (s := s) (v := x1.1) ?_ ?_; unfold x1; rotate_left; intro h1; clear_value x1) | clear_value x1 | (refine Within.cut (m := 0x148022) (s := s) (v := x1) ?_ ?_; unfold x1; rotate_left; intro h1) | (refine Within.cut (m := 0x148022) (s := s) (v := x1.1) ?_ ?_; unfold x1; rotate_left; intro h1) | skip) | ((with_reducible apply Within.step (State.portChanged_within ..) ?_ ?_); exact rfl) | ((with_reducible apply Within.step (State.wr_within ..) ?_ ?_); exact rfl) | ((with_reducible apply Within.foldl ?_ ?_); rotate_left; intro x1 x2 h1) | ((with_reducible apply Within.foldl_fst ?_ ?_); rotate_left; intro x1 x2 h1) | split | (apply Within.upd; (dsimp only; try exact rfl); exact ⟨Nat.le_refl _, List.prefix_refl _, Nat.le_refl _, ⟨rfl, rfl, rfl⟩, .inr ⟨rfl, rfl, rfl⟩, .inl rfl, .inr rfl, .inr rfl, .inr rfl, .inl rfl, .inr rfl, .inr rfl, .inr rfl, .inr ⟨rfl, rfl⟩, .inr rfl, .inr rfl, .inr rfl, .inr rfl, .inr rfl, .inl rfl, .inr rfl, .inr rfl, .inl rfl, .inr ⟨rfl, rfl, rfl, rfl, rfl⟩, .inl rfl, .inr ⟨rfl, rfl, rfl⟩, .inr ⟨rfl, rfl⟩, .inr rfl, .inr ⟨rfl, rfl, rfl, rfl⟩, .inr rfl, .inr rfl, .inr rfl, .inr ⟨rfl, rfl, rfl, rfl, rfl⟩, .inr rfl, .inr rfl, .inr ⟨rfl, rfl⟩, .inr ⟨rfl, rfl⟩, .inr rfl, .inr ⟨rfl, rfl⟩, .inr ⟨rfl, rfl, rfl⟩, .inr ⟨rfl, rfl, rfl, rfl⟩⟩) | fail

theorem State.putRegs_within (s : State) (l : List (Nat × Word)) : Within 0x148032 s (State.putRegs s l) := by
  unfold State.putRegs
  repeat' first | with_reducible assumption | with_reducible exact Within.refl _ _ | ((try lift_lets -underBinder); intro x1; first | (have h0 := fun a => x1 a; clear h0; unfold x1; clear x1) | (refine Within.cut (m := 0x148032) (s := s) (v := x1) ?_ ?_; unfold x1; rotate_left; intro h1; clear_value x1) | (refine Within.cut (m := 0x148032) (s := s) (v := x1.1) ?_ ?_; unfold x1; rotate_left; intro h1; clear_value x1) | clear_value x1 | (refine Within.cut (m := 0x148032) (s := s) (v := x1) ?_ ?_; unfold x1; rotate_left; intro h1) | (refine Within.cut (m := 0x148032) (s := s) (v := x1.1) ?_ ?_; unfold x1; rotate_left; intro h1) | skip) | ((with_reducible apply Within.step (State.regHook_within ..) ?_ ?_); exact rfl) | ((with_reducible apply Within.step (State.setWin_within ..) ?_ ?_); exact rfl) | ((with_reducible apply Within.foldl ?_ ?_); rotate_left; intro x1 x2 h1) | ((with_reducible apply Within.foldl_fst ?_ ?_); rotate_left; intro x1 x2 h1) | split | (apply Within.upd; (dsimp only; try exact rfl); exact ⟨Nat.le_refl _, List.prefix_refl _, Nat.le_refl _, ⟨rfl, rfl, rfl⟩, .inr ⟨rfl, rfl, rfl⟩, .inl rfl, .inr rfl, .inr rfl, .inl rfl, .inl rfl, .inr rfl, .inr rfl, .inr rfl, .inr ⟨rfl, rfl⟩, .inr rfl, .inr rfl, .inr rfl, .inr rfl, .inr rfl, .inl rfl, .inr rfl, .inr rfl, .inl rfl, .inr ⟨rfl, rfl, rfl, rfl, rfl⟩, .inl rfl, .inr ⟨rfl, rfl, rfl⟩, .inr ⟨rfl, rfl⟩, .inr rfl, .inr ⟨rfl, rfl, rfl, rfl⟩, .inr rfl, .inr rfl, .inr rfl, .inr ⟨rfl, rfl, rfl, rfl, rfl⟩, .inr rfl, .inr rfl, .inr ⟨rfl, rfl⟩, .inr ⟨rfl, rfl⟩, .inr rfl, .inr ⟨rfl, rfl⟩, .inr ⟨rfl, rfl, rfl⟩, .inr ⟨rfl, rfl, rfl, rfl⟩⟩) | fail

theorem State.commitDone_within (s : State) (p : Nat) (c : Pend) : Within 0x800148032 s (State.commitDone s p c) := by
  unfold State.commitDone
  repeat' first | with_reducible assumption | with_reducible exact Within.refl _ _ | ((try lift_lets -underBinder); intro x1; first | (have h0 := fun a => x1 a; clear h0; unfold x1; clear x1) | (refine Within.cut (m := 0x800148032) (s := s) (v := x1) ?_ ?_; unfold x1; rotate_left; intro h1; clear_value x1) | (refine Within.cut (m := 0x800148032) (s := s) (v := x1.1) ?_ ?_; unfold x1; rotate_left; intro h1; clear_value x1) | clear_value x1 | (refine Within.cut (m := 0x800148032) (s := s) (v := x1) ?_ ?_; unfold x1; rotate_left; intro h1) | (refine Within.cut (m := 0x800148032) (s := s) (v := x1.1) ?_ ?_; unfold x1; rotate_left; intro h1) | skip) | ((with_reducible apply Within.step (State.putRegs_within ..) ?_ ?_); exact rfl) | ((with_reducible apply Within.step (State.setPend_within ..) ?_ ?_); exact rfl) | ((with_reducible apply Within.step (State.setFld_within ..) ?_ ?_); exact rfl) | ((with_reducible apply Within.foldl ?_ ?_); rotate_left; intro x1 x2 h1) | ((with_reducible apply Within.foldl_fst ?_ ?_); rotate_left; intro x1 x2 h1) | split | (apply Within.upd; (dsimp only; try exact rfl); exact ⟨Nat.le_refl _, List.prefix_refl _, Nat.le_refl _, ⟨rfl, rfl, rfl⟩, .inr ⟨rfl, rfl, rfl⟩, .inl rfl, .inr rfl, .inr rfl, .inl rfl, .inl rfl, .inr rfl, .inr rfl, .inr rfl, .inr ⟨rfl, rfl⟩, .inr rfl, .inr rfl, .inr rfl, .inr rfl, .inr rfl, .inl rfl, .inr rfl, .inr rfl, .inl rfl, .inr ⟨rfl, rfl, rfl, rfl, rfl⟩, .inl rfl, .inr ⟨rfl, rfl, rfl⟩, .inr ⟨rfl, rfl⟩, .inr rfl, .inr ⟨rfl, rfl, rfl, rfl⟩, .inr rfl, .inr rfl, .inr rfl, .inr ⟨rfl, rfl, rfl, rfl, rfl⟩, .inr rfl, .inr rfl, .inr ⟨rfl, rfl⟩, .inr ⟨rfl, rfl⟩, .inr rfl, .inr ⟨rfl, rfl⟩, .inl rfl, .inr ⟨rfl, rfl, rfl, rfl⟩⟩) | fail

theorem State.applyParts_within (s : State) (p : Nat) (due : Bound → Bool) (line : Option Nat) : Within 0x800148032 s (State.applyParts s p due line) := by
  unfold State.applyParts
  repeat' first | with_reducible assumption | with_reducible exact Within.refl _ _ | ((try lift_lets -underBinder); intro x1; first | (have h0 := fun a => x1 a; clear h0; unfold x1; clear x1) | (refine Within.cut (m := 0x800148032) (s := s) (v := x1) ?_ ?_; unfold x1; rotate_left; intro h1; clear_value x1) | (refine Within.cut (m := 0x800148032) (s := s) (v := x1.1) ?_ ?_; unfold x1; rotate_left; intro h1; clear_value x1) | clear_value x1 | (refine Within.cut (m := 0x800148032) (s := s) (v := x1) ?_ ?_; unfold x1; rotate_left; intro h1) | (refine Within.cut (m := 0x800148032) (s := s) (v := x1.1) ?_ ?_; unfold x1; rotate_left; intro h1) | skip) | ((with_reducible apply Within.step (State.commitDone_within ..) ?_ ?_); exact rfl) | ((with_reducible apply Within.step (State.putRegs_within ..) ?_ ?_); exact rfl) | ((with_reducible apply Within.step (State.setPend_within ..) ?_ ?_); exact rfl) | ((with_reducible apply Within.foldl ?_ ?_); rotate_left; intro x1 x2 h1) | ((with_reducible apply Within.foldl_fst ?_ ?_); rotate_left; intro x1 x2 h1) | with_reducible apply Within.of_fst (by assumption) ?_ | split | fail

theorem State.boundary_within (s : State) (p : Nat) (v : Nat) (n : Nat) (r : Nat) (past : Bool) : Within 0x800148032 s (State.boundary s p v n r past) := by
  unfold State.boundary
  repeat' first | with_reducible assumption | with_reducible exact Within.refl _ _ | ((with_reducible apply Within.step (State.applyParts_within ..) ?_ ?_); exact rfl) | split | fail

theorem State.viewStopped_within (s : State) (v : Nat) (pages : List Nat) : Within 0x800148032 s (State.viewStopped s v pages) := by
  unfold State.viewStopped
  repeat' first | with_reducible assumption | with_reducible exact Within.refl _ _ | ((with_reducible apply Within.step (State.applyParts_within ..) ?_ ?_); exact rfl) | with_reducible apply Within.of_fst (by assumption) ?_ | ((with_reducible apply Within.foldl ?_ ?_); rotate_left; intro x1 x2 h1) | ((with_reducible apply Within.foldl_fst ?_ ?_); rotate_left; intro x1 x2 h1) | split | fail

theorem State.discardShadow_within (s : State) (p : Nat) : Within 0x4 s (State.discardShadow s p) := by
  unfold State.discardShadow
  repeat' first | with_reducible assumption | with_reducible exact Within.refl _ _ | ((try lift_lets -underBinder); intro x1; first | (have h0 := fun a => x1 a; clear h0; unfold x1; clear x1) | (refine Within.cut (m := 0x4) (s := s) (v := x1) ?_ ?_; unfold x1; rotate_left; intro h1; clear_value x1) | (refine Within.cut (m := 0x4) (s := s) (v := x1.1) ?_ ?_; unfold x1; rotate_left; intro h1; clear_value x1) | clear_value x1 | (refine Within.cut (m := 0x4) (s := s) (v := x1) ?_ ?_; unfold x1; rotate_left; intro h1) | (refine Within.cut (m := 0x4) (s := s) (v := x1.1) ?_ ?_; unfold x1; rotate_left; intro h1) | skip) | ((with_reducible apply Within.step (State.wrShadow_within ..) ?_ ?_); exact rfl) | ((with_reducible apply Within.foldl ?_ ?_); rotate_left; intro x1 x2 h1) | ((with_reducible apply Within.foldl_fst ?_ ?_); rotate_left; intro x1 x2 h1) | with_reducible apply Within.of_fst (by assumption) ?_ | split | fail

end Sys2Proof.Machine
end

