-- ==== Sys2Proof/Laws/FrameStreamOps.lean ====
section
/-!
SUPPORT. Frames of Sys2Proof/Machine/StreamOps.lean: what each operation there may change.
-/
set_option linter.unusedTactic false
set_option linter.unreachableTactic false

namespace Sys2Proof.Machine

theorem State.putStr_within (s : State) (n : Nat) (x : Stream) : Within 0x4000000 s (State.putStr s n x) := by
  unfold State.putStr
  repeat' first | with_reducible assumption | with_reducible exact Within.refl _ _ | split | (apply Within.upd; (dsimp only; try exact rfl); exact ⟨Nat.le_refl _, List.prefix_refl _, Nat.le_refl _, ⟨rfl, rfl, rfl⟩, .inr ⟨rfl, rfl, rfl⟩, .inr rfl, .inr rfl, .inr rfl, .inr rfl, .inr rfl, .inr rfl, .inr rfl, .inr rfl, .inr ⟨rfl, rfl⟩, .inr rfl, .inr rfl, .inr rfl, .inr rfl, .inr rfl, .inr rfl, .inr rfl, .inr rfl, .inr ⟨rfl, rfl, rfl⟩, .inr ⟨rfl, rfl, rfl, rfl, rfl⟩, .inr ⟨rfl, rfl, rfl, rfl⟩, .inr ⟨rfl, rfl, rfl⟩, .inr ⟨rfl, rfl⟩, .inr rfl, .inr ⟨rfl, rfl, rfl, rfl⟩, .inr rfl, .inl rfl, .inr rfl, .inr ⟨rfl, rfl, rfl, rfl, rfl⟩, .inr rfl, .inr rfl, .inr ⟨rfl, rfl⟩, .inr ⟨rfl, rfl⟩, .inr rfl, .inr ⟨rfl, rfl⟩, .inr ⟨rfl, rfl, rfl⟩, .inr ⟨rfl, rfl, rfl, rfl⟩⟩) | fail

theorem State.discardPartial_within (s : State) (x : Grid) : Within 0x2 s (State.discardPartial s x) := by
  unfold State.discardPartial
  repeat' first | with_reducible assumption | with_reducible exact Within.refl _ _ | ((with_reducible apply Within.step (State.bump_within ..) ?_ ?_); exact rfl) | split | fail

theorem State.stopGrids_within (s : State) (n : Nat) : Within 0x4000002 s (State.stopGrids s n) := by
  unfold State.stopGrids
  repeat' first | with_reducible assumption | with_reducible exact Within.refl _ _ | ((try lift_lets -underBinder); intro x1; first | (have h0 := fun a => x1 a; clear h0; unfold x1; clear x1) | (refine Within.cut (m := 0x4000002) (s := s) (v := x1) ?_ ?_; unfold x1; rotate_left; intro h1; clear_value x1) | (refine Within.cut (m := 0x4000002) (s := s) (v := x1.1) ?_ ?_; unfold x1; rotate_left; intro h1; clear_value x1) | clear_value x1 | (refine Within.cut (m := 0x4000002) (s := s) (v := x1) ?_ ?_; unfold x1; rotate_left; intro h1) | (refine Within.cut (m := 0x4000002) (s := s) (v := x1.1) ?_ ?_; unfold x1; rotate_left; intro h1) | skip) | ((with_reducible apply Within.step (State.discardPartial_within ..) ?_ ?_); exact rfl) | ((with_reducible apply Within.step (State.setFld_within ..) ?_ ?_); exact rfl) | ((with_reducible apply Within.step (State.putStr_within ..) ?_ ?_); exact rfl) | with_reducible apply Within.of_fst (by assumption) ?_ | ((with_reducible apply Within.foldl ?_ ?_); rotate_left; intro x1 x2 h1) | ((with_reducible apply Within.foldl_fst ?_ ?_); rotate_left; intro x1 x2 h1) | split | fail

theorem State.takeStream_within (s : State) (n : Nat) (line : Option Nat) : Within 0x804148032 s (State.takeStream s n line) := by
  unfold State.takeStream
  repeat' first | with_reducible assumption | with_reducible exact Within.refl _ _ | ((try lift_lets -underBinder); intro x1; first | (have h0 := fun a => x1 a; clear h0; unfold x1; clear x1) | (refine Within.cut (m := 0x804148032) (s := s) (v := x1) ?_ ?_; unfold x1; rotate_left; intro h1; clear_value x1) | (refine Within.cut (m := 0x804148032) (s := s) (v := x1.1) ?_ ?_; unfold x1; rotate_left; intro h1; clear_value x1) | clear_value x1 | (refine Within.cut (m := 0x804148032) (s := s) (v := x1) ?_ ?_; unfold x1; rotate_left; intro h1) | (refine Within.cut (m := 0x804148032) (s := s) (v := x1.1) ?_ ?_; unfold x1; rotate_left; intro h1) | skip) | ((with_reducible apply Within.step (State.applyParts_within ..) ?_ ?_); exact rfl) | ((with_reducible apply Within.step (State.wr_within ..) ?_ ?_); exact rfl) | ((with_reducible apply Within.step (State.putStr_within ..) ?_ ?_); exact rfl) | with_reducible apply Within.of_fst (by assumption) ?_ | split | fail

theorem State.stopStreams_within (s : State) (v : Nat) : Within 0x804148032 s (State.stopStreams s v) := by
  unfold State.stopStreams
  repeat' first | with_reducible assumption | with_reducible exact Within.refl _ _ | ((try lift_lets -underBinder); intro x1; first | (have h0 := fun a => x1 a; clear h0; unfold x1; clear x1) | (refine Within.cut (m := 0x804148032) (s := s) (v := x1) ?_ ?_; unfold x1; rotate_left; intro h1; clear_value x1) | (refine Within.cut (m := 0x804148032) (s := s) (v := x1.1) ?_ ?_; unfold x1; rotate_left; intro h1; clear_value x1) | clear_value x1 | (refine Within.cut (m := 0x804148032) (s := s) (v := x1) ?_ ?_; unfold x1; rotate_left; intro h1) | (refine Within.cut (m := 0x804148032) (s := s) (v := x1.1) ?_ ?_; unfold x1; rotate_left; intro h1) | skip) | ((with_reducible apply Within.step (State.takeStream_within ..) ?_ ?_); exact rfl) | ((with_reducible apply Within.step (State.stopGrids_within ..) ?_ ?_); exact rfl) | with_reducible apply Within.of_fst (by assumption) ?_ | ((with_reducible apply Within.foldl ?_ ?_); rotate_left; intro x1 x2 h1) | ((with_reducible apply Within.foldl_fst ?_ ?_); rotate_left; intro x1 x2 h1) | split | fail

end Sys2Proof.Machine
end

