-- ==== Sys2Proof/Laws/FrameDram.lean ====
section
/-!
SUPPORT. Frames of Sys2Proof/Machine/Dram.lean: what each operation there may change.
-/
set_option linter.unusedTactic false
set_option linter.unreachableTactic false

namespace Sys2Proof.Machine

theorem State.memRange_within (s : State) (port : Nat) : Within 0x410000033 s (State.memRange s port) := by
  unfold State.memRange
  repeat' first | with_reducible assumption | with_reducible exact Within.refl _ _ | ((with_reducible apply Within.step (State.logMinor_within ?_) ?_ ?_); decide; exact rfl) | ((with_reducible apply Within.step (State.logErr_within ..) ?_ ?_); exact rfl) | ((with_reducible apply Within.step (State.flag_within ..) ?_ ?_); exact rfl) | split | fail

theorem State.memWrite_within (s : State) (port : Nat) (a : Nat) (l : List Byte) : Within 0x410000033 s (State.memWrite s port a l) := by
  unfold State.memWrite
  repeat' first | with_reducible assumption | with_reducible exact Within.refl _ _ | ((with_reducible apply Within.step (State.memRange_within ..) ?_ ?_); exact rfl) | ((with_reducible apply Within.step (State.dramPut_within ..) ?_ ?_); exact rfl) | split | fail

theorem State.memRead_within (s : State) (port : Nat) (a : Nat) (n : Nat) : Within 0x410000033 s (State.memRead s port a n).1 := by
  unfold State.memRead
  repeat' first | with_reducible assumption | with_reducible exact Within.refl _ _ | ((with_reducible apply Within.step (State.memRange_within ..) ?_ ?_); exact rfl) | split | fail

theorem State.setMc_within (s : State) (c : Nat) (m : Mc) : Within 0x100000000 s (State.setMc s c m) := by
  unfold State.setMc
  repeat' first | with_reducible assumption | with_reducible exact Within.refl _ _ | split | (apply Within.upd; (dsimp only; try exact rfl); exact ⟨Nat.le_refl _, List.prefix_refl _, Nat.le_refl _, ⟨rfl, rfl, rfl⟩, .inr ⟨rfl, rfl, rfl⟩, .inr rfl, .inr rfl, .inr rfl, .inr rfl, .inr rfl, .inr rfl, .inr rfl, .inr rfl, .inr ⟨rfl, rfl⟩, .inr rfl, .inr rfl, .inr rfl, .inr rfl, .inr rfl, .inr rfl, .inr rfl, .inr rfl, .inr ⟨rfl, rfl, rfl⟩, .inr ⟨rfl, rfl, rfl, rfl, rfl⟩, .inr ⟨rfl, rfl, rfl, rfl⟩, .inr ⟨rfl, rfl, rfl⟩, .inr ⟨rfl, rfl⟩, .inr rfl, .inr ⟨rfl, rfl, rfl, rfl⟩, .inr rfl, .inr rfl, .inr rfl, .inr ⟨rfl, rfl, rfl, rfl, rfl⟩, .inr rfl, .inr rfl, .inr ⟨rfl, rfl⟩, .inl rfl, .inr rfl, .inr ⟨rfl, rfl⟩, .inr ⟨rfl, rfl, rfl⟩, .inr ⟨rfl, rfl, rfl, rfl⟩⟩) | fail

theorem State.uncorrected_within (s : State) (a : Nat) (isInline : Bool) : Within 0xd15d7d833 s (State.uncorrected s a isInline) := by
  unfold State.uncorrected
  repeat' first | with_reducible assumption | with_reducible exact Within.refl _ _ | ((try lift_lets -underBinder); intro x1; first | (have h0 := fun a => x1 a; clear h0; unfold x1; clear x1) | (refine Within.cut (m := 0xd15d7d833) (s := s) (v := x1) ?_ ?_; unfold x1; rotate_left; intro h1; clear_value x1) | (refine Within.cut (m := 0xd15d7d833) (s := s) (v := x1.1) ?_ ?_; unfold x1; rotate_left; intro h1; clear_value x1) | clear_value x1 | (refine Within.cut (m := 0xd15d7d833) (s := s) (v := x1) ?_ ?_; unfold x1; rotate_left; intro h1) | (refine Within.cut (m := 0xd15d7d833) (s := s) (v := x1.1) ?_ ?_; unfold x1; rotate_left; intro h1) | skip) | ((with_reducible apply Within.step (State.setMc_within ..) ?_ ?_); exact rfl) | ((with_reducible apply Within.step (State.logMinor_within ?_) ?_ ?_); decide; exact rfl) | ((with_reducible apply Within.step (State.logErr_within ..) ?_ ?_); exact rfl) | ((with_reducible apply Within.step (State.bump_within ..) ?_ ?_); exact rfl) | ((with_reducible apply Within.step (State.wr_within ..) ?_ ?_); exact rfl) | split | (apply Within.upd; (dsimp only; try exact rfl); exact ⟨Nat.le_refl _, List.prefix_refl _, Nat.le_refl _, ⟨rfl, rfl, rfl⟩, .inl rfl, .inl rfl, .inr rfl, .inr rfl, .inl rfl, .inl rfl, .inr rfl, .inr rfl, .inr rfl, .inr ⟨rfl, rfl⟩, .inr rfl, .inl rfl, .inl rfl, .inr rfl, .inl rfl, .inl rfl, .inl rfl, .inl rfl, .inl rfl, .inr ⟨rfl, rfl, rfl, rfl, rfl⟩, .inl rfl, .inr ⟨rfl, rfl, rfl⟩, .inl rfl, .inl rfl, .inl rfl, .inr rfl, .inl rfl, .inr rfl, .inl rfl, .inr rfl, .inr rfl, .inr ⟨rfl, rfl⟩, .inl rfl, .inr rfl, .inl rfl, .inl rfl, .inr ⟨rfl, rfl, rfl, rfl⟩⟩) | fail

theorem State.corrected_within (s : State) (c : Nat) (link : Bool) : Within 0x510000033 s (State.corrected s c link) := by
  unfold State.corrected
  repeat' first | with_reducible assumption | with_reducible exact Within.refl _ _ | ((try lift_lets -underBinder); intro x1; first | (have h0 := fun a => x1 a; clear h0; unfold x1; clear x1) | (refine Within.cut (m := 0x510000033) (s := s) (v := x1) ?_ ?_; unfold x1; rotate_left; intro h1; clear_value x1) | (refine Within.cut (m := 0x510000033) (s := s) (v := x1.1) ?_ ?_; unfold x1; rotate_left; intro h1; clear_value x1) | clear_value x1 | (refine Within.cut (m := 0x510000033) (s := s) (v := x1) ?_ ?_; unfold x1; rotate_left; intro h1) | (refine Within.cut (m := 0x510000033) (s := s) (v := x1.1) ?_ ?_; unfold x1; rotate_left; intro h1) | skip) | ((with_reducible apply Within.step (State.setMc_within ..) ?_ ?_); exact rfl) | ((with_reducible apply Within.step (State.logMinor_within ?_) ?_ ?_); decide; exact rfl) | ((with_reducible apply Within.step (State.logErr_within ..) ?_ ?_); exact rfl) | ((with_reducible apply Within.step (State.bump_within ..) ?_ ?_); exact rfl) | split | fail

theorem State.dramGrant_within (s : State) (c : Nat) (l : List MemReq) (r : MemResult) : Within 0xd15d7d833 s (State.dramGrant s c l r) := by
  unfold State.dramGrant
  repeat' first | with_reducible assumption | with_reducible exact Within.refl _ _ | ((try lift_lets -underBinder); intro x1; first | (have h0 := fun a => x1 a; clear h0; unfold x1; clear x1) | (refine Within.cut (m := 0xd15d7d833) (s := s) (v := x1) ?_ ?_; unfold x1; rotate_left; intro h1; clear_value x1) | (refine Within.cut (m := 0xd15d7d833) (s := s) (v := x1.1) ?_ ?_; unfold x1; rotate_left; intro h1; clear_value x1) | clear_value x1 | (refine Within.cut (m := 0xd15d7d833) (s := s) (v := x1) ?_ ?_; unfold x1; rotate_left; intro h1) | (refine Within.cut (m := 0xd15d7d833) (s := s) (v := x1.1) ?_ ?_; unfold x1; rotate_left; intro h1) | skip) | ((with_reducible apply Within.step (State.corrected_within ..) ?_ ?_); exact rfl) | ((with_reducible apply Within.step (State.uncorrected_within ..) ?_ ?_); exact rfl) | ((with_reducible apply Within.step (State.setMc_within ..) ?_ ?_); exact rfl) | ((with_reducible apply Within.step (State.memRange_within ..) ?_ ?_); exact rfl) | ((with_reducible apply Within.step (State.arbRound_within ..) ?_ ?_); exact rfl) | ((with_reducible apply Within.step (State.bumpBy_within ..) ?_ ?_); exact rfl) | with_reducible apply Within.of_fst (by assumption) ?_ | split | fail

theorem execDramAccessGrant_within (c : Fin 12) (l : List MemReq) (r : MemResult) (s : State) : WithinO 0xd15d7d833 s (execDramAccessGrant c l r s) := by
  unfold execDramAccessGrant
  repeat' first | with_reducible assumption | with_reducible exact Within.refl _ _ | with_reducible apply WithinO.of_next ?_ | ((with_reducible apply Within.step (State.dramGrant_within ..) ?_ ?_); exact rfl) | split | fail

theorem execRowIdleClose_within (c : Fin 12) (bank : Fin 32) (s : State) : WithinO 0x100000000 s (execRowIdleClose c bank s) := by
  unfold execRowIdleClose
  repeat' first | with_reducible assumption | with_reducible exact Within.refl _ _ | ((try lift_lets -underBinder); intro x1; first | (have h0 := fun a => x1 a; clear h0; unfold x1; clear x1) | (refine Within.cut (m := 0x100000000) (s := s) (v := x1) ?_ ?_; unfold x1; rotate_left; intro h1; clear_value x1) | (refine Within.cut (m := 0x100000000) (s := s) (v := x1.1) ?_ ?_; unfold x1; rotate_left; intro h1; clear_value x1) | clear_value x1 | (refine Within.cut (m := 0x100000000) (s := s) (v := x1) ?_ ?_; unfold x1; rotate_left; intro h1) | (refine Within.cut (m := 0x100000000) (s := s) (v := x1.1) ?_ ?_; unfold x1; rotate_left; intro h1) | skip) | with_reducible apply WithinO.of_next ?_ | ((with_reducible apply Within.step (State.setMc_within ..) ?_ ?_); exact rfl) | split | fail

theorem State.trackChannel_within (s : State) (c : Nat) (x : TrackRead) : Within 0xd15d7d833 s (State.trackChannel s c x) := by
  unfold State.trackChannel
  repeat' first | with_reducible assumption | with_reducible exact Within.refl _ _ | ((try lift_lets -underBinder); intro x1; first | (have h0 := fun a => x1 a; clear h0; unfold x1; clear x1) | (refine Within.cut (m := 0xd15d7d833) (s := s) (v := x1) ?_ ?_; unfold x1; rotate_left; intro h1; clear_value x1) | (refine Within.cut (m := 0xd15d7d833) (s := s) (v := x1.1) ?_ ?_; unfold x1; rotate_left; intro h1; clear_value x1) | clear_value x1 | (refine Within.cut (m := 0xd15d7d833) (s := s) (v := x1) ?_ ?_; unfold x1; rotate_left; intro h1) | (refine Within.cut (m := 0xd15d7d833) (s := s) (v := x1.1) ?_ ?_; unfold x1; rotate_left; intro h1) | skip) | ((with_reducible apply Within.step (State.setMc_within ..) ?_ ?_); exact rfl) | ((with_reducible apply Within.step (State.logMinor_within ?_) ?_ ?_); decide; exact rfl) | ((with_reducible apply Within.step (State.logErr_within ..) ?_ ?_); exact rfl) | ((with_reducible apply Within.step (State.setFld_within ..) ?_ ?_); exact rfl) | split | fail

theorem State.hotUpdate_within (s : State) (l : List TrackRead) : Within 0x100000002 s (State.hotUpdate s l) := by
  unfold State.hotUpdate
  repeat' first | with_reducible assumption | with_reducible exact Within.refl _ _ | ((try lift_lets -underBinder); intro x1; first | (have h0 := fun a => x1 a; clear h0; unfold x1; clear x1) | (refine Within.cut (m := 0x100000002) (s := s) (v := x1) ?_ ?_; unfold x1; rotate_left; intro h1; clear_value x1) | (refine Within.cut (m := 0x100000002) (s := s) (v := x1.1) ?_ ?_; unfold x1; rotate_left; intro h1; clear_value x1) | clear_value x1 | (refine Within.cut (m := 0x100000002) (s := s) (v := x1) ?_ ?_; unfold x1; rotate_left; intro h1) | (refine Within.cut (m := 0x100000002) (s := s) (v := x1.1) ?_ ?_; unfold x1; rotate_left; intro h1) | skip) | ((with_reducible apply Within.step (State.setBit_within ..) ?_ ?_); exact rfl) | split | (apply Within.upd; (dsimp only; try exact rfl); exact ⟨Nat.le_refl _, List.prefix_refl _, Nat.le_refl _, ⟨rfl, rfl, rfl⟩, .inr ⟨rfl, rfl, rfl⟩, .inl rfl, .inr rfl, .inr rfl, .inr rfl, .inr rfl, .inr rfl, .inr rfl, .inr rfl, .inr ⟨rfl, rfl⟩, .inr rfl, .inr rfl, .inr rfl, .inr rfl, .inr rfl, .inr rfl, .inr rfl, .inr rfl, .inr ⟨rfl, rfl, rfl⟩, .inr ⟨rfl, rfl, rfl, rfl, rfl⟩, .inr ⟨rfl, rfl, rfl, rfl⟩, .inr ⟨rfl, rfl, rfl⟩, .inr ⟨rfl, rfl⟩, .inr rfl, .inr ⟨rfl, rfl, rfl, rfl⟩, .inr rfl, .inr rfl, .inr rfl, .inr ⟨rfl, rfl, rfl, rfl, rfl⟩, .inr rfl, .inr rfl, .inr ⟨rfl, rfl⟩, .inl rfl, .inr rfl, .inr ⟨rfl, rfl⟩, .inr ⟨rfl, rfl, rfl⟩, .inr ⟨rfl, rfl, rfl, rfl⟩⟩) | fail

theorem State.refresh_within (s : State) (l : List TrackRead) : Within 0xd15d7d833 s (State.refresh s l) := by
  unfold State.refresh
  repeat' first | with_reducible assumption | with_reducible exact Within.refl _ _ | ((try lift_lets -underBinder); intro x1; first | (have h0 := fun a => x1 a; clear h0; unfold x1; clear x1) | (refine Within.cut (m := 0xd15d7d833) (s := s) (v := x1) ?_ ?_; unfold x1; rotate_left; intro h1; clear_value x1) | (refine Within.cut (m := 0xd15d7d833) (s := s) (v := x1.1) ?_ ?_; unfold x1; rotate_left; intro h1; clear_value x1) | clear_value x1 | (refine Within.cut (m := 0xd15d7d833) (s := s) (v := x1) ?_ ?_; unfold x1; rotate_left; intro h1) | (refine Within.cut (m := 0xd15d7d833) (s := s) (v := x1.1) ?_ ?_; unfold x1; rotate_left; intro h1) | skip) | ((with_reducible apply Within.step (State.hotUpdate_within ..) ?_ ?_); exact rfl) | ((with_reducible apply Within.step (State.trackChannel_within ..) ?_ ?_); exact rfl) | ((with_reducible apply Within.step (State.setMc_within ..) ?_ ?_); exact rfl) | ((with_reducible apply Within.foldl ?_ ?_); rotate_left; intro x1 x2 h1) | ((with_reducible apply Within.foldl_fst ?_ ?_); rotate_left; intro x1 x2 h1) | split | (apply Within.upd; (dsimp only; try exact rfl); exact ⟨Nat.le_refl _, List.prefix_refl _, Nat.le_refl _, ⟨rfl, rfl, rfl⟩, .inl rfl, .inl rfl, .inr rfl, .inr rfl, .inl rfl, .inl rfl, .inr rfl, .inr rfl, .inr rfl, .inr ⟨rfl, rfl⟩, .inr rfl, .inl rfl, .inl rfl, .inr rfl, .inl rfl, .inl rfl, .inl rfl, .inl rfl, .inl rfl, .inr ⟨rfl, rfl, rfl, rfl, rfl⟩, .inl rfl, .inr ⟨rfl, rfl, rfl⟩, .inl rfl, .inl rfl, .inl rfl, .inr rfl, .inl rfl, .inr rfl, .inl rfl, .inr rfl, .inr rfl, .inr ⟨rfl, rfl⟩, .inl rfl, .inr rfl, .inl rfl, .inl rfl, .inr ⟨rfl, rfl, rfl, rfl⟩⟩) | fail

theorem execRefreshWindow_within (l : List TrackRead) (s : State) : WithinO 0xd15d7d833 s (execRefreshWindow l s) := by
  unfold execRefreshWindow
  repeat' first | with_reducible assumption | with_reducible exact Within.refl _ _ | with_reducible apply WithinO.of_next ?_ | ((with_reducible apply Within.step (State.refresh_within ..) ?_ ?_); exact rfl) | split | fail

theorem State.eccInit_within (s : State) (w : Word) : Within 0x2 s (State.eccInit s w) := by
  unfold State.eccInit
  repeat' first | with_reducible assumption | with_reducible exact Within.refl _ _ | ((with_reducible apply Within.step (State.setFld_within ..) ?_ ?_); exact rfl) | ((with_reducible apply Within.foldl ?_ ?_); rotate_left; intro x1 x2 h1) | ((with_reducible apply Within.foldl_fst ?_ ?_); rotate_left; intro x1 x2 h1) | split | fail

theorem execEccInit_within (o : Owner) (w : Word) (s : State) : WithinO 0x1000000002 s (execEccInit o w s) := by
  unfold execEccInit
  repeat' first | with_reducible assumption | with_reducible exact Within.refl _ _ | with_reducible apply WithinO.of_next ?_ | ((with_reducible apply Within.step (State.eccInit_within ..) ?_ ?_); exact rfl) | ((with_reducible apply State.guarded_within ?_ ?_ ?_); exact rfl; intro x1 h1) | split | fail

theorem execEccInitDone_within (n : Fin 8) (s : State) : WithinO 0x3 s (execEccInitDone n s) := by
  unfold execEccInitDone
  repeat' first | with_reducible assumption | with_reducible exact Within.refl _ _ | ((try lift_lets -underBinder); intro x1; first | (have h0 := fun a => x1 a; clear h0; unfold x1; clear x1) | (refine Within.cut (m := 0x3) (s := s) (v := x1) ?_ ?_; unfold x1; rotate_left; intro h1; clear_value x1) | (refine Within.cut (m := 0x3) (s := s) (v := x1.1) ?_ ?_; unfold x1; rotate_left; intro h1; clear_value x1) | clear_value x1 | (refine Within.cut (m := 0x3) (s := s) (v := x1) ?_ ?_; unfold x1; rotate_left; intro h1) | (refine Within.cut (m := 0x3) (s := s) (v := x1.1) ?_ ?_; unfold x1; rotate_left; intro h1) | skip) | with_reducible apply WithinO.of_next ?_ | ((with_reducible apply Within.step (State.blankRange_within ..) ?_ ?_); exact rfl) | ((with_reducible apply Within.step (State.setFld_within ..) ?_ ?_); exact rfl) | split | (apply Within.upd; (dsimp only; try exact rfl); exact ⟨Nat.le_refl _, List.prefix_refl _, Nat.le_refl _, ⟨rfl, rfl, rfl⟩, .inl rfl, .inl rfl, .inr rfl, .inr rfl, .inr rfl, .inr rfl, .inr rfl, .inr rfl, .inr rfl, .inr ⟨rfl, rfl⟩, .inr rfl, .inr rfl, .inr rfl, .inr rfl, .inr rfl, .inr rfl, .inr rfl, .inr rfl, .inr ⟨rfl, rfl, rfl⟩, .inr ⟨rfl, rfl, rfl, rfl, rfl⟩, .inr ⟨rfl, rfl, rfl, rfl⟩, .inr ⟨rfl, rfl, rfl⟩, .inr ⟨rfl, rfl⟩, .inr rfl, .inr ⟨rfl, rfl, rfl, rfl⟩, .inr rfl, .inr rfl, .inr rfl, .inr ⟨rfl, rfl, rfl, rfl, rfl⟩, .inr rfl, .inr rfl, .inr ⟨rfl, rfl⟩, .inr ⟨rfl, rfl⟩, .inr rfl, .inr ⟨rfl, rfl⟩, .inr ⟨rfl, rfl, rfl⟩, .inr ⟨rfl, rfl, rfl, rfl⟩⟩) | fail

theorem State.takeTraining_within (s : State) : Within 0x200 s (State.takeTraining s) := by
  unfold State.takeTraining
  repeat' first | with_reducible assumption | with_reducible exact Within.refl _ _ | split | (apply Within.upd; (dsimp only; try exact rfl); exact ⟨Nat.le_refl _, List.prefix_refl _, Nat.le_refl _, ⟨rfl, rfl, rfl⟩, .inr ⟨rfl, rfl, rfl⟩, .inr rfl, .inr rfl, .inr rfl, .inr rfl, .inr rfl, .inr rfl, .inr rfl, .inr rfl, .inl rfl, .inr rfl, .inr rfl, .inr rfl, .inr rfl, .inr rfl, .inr rfl, .inr rfl, .inr rfl, .inr ⟨rfl, rfl, rfl⟩, .inr ⟨rfl, rfl, rfl, rfl, rfl⟩, .inr ⟨rfl, rfl, rfl, rfl⟩, .inr ⟨rfl, rfl, rfl⟩, .inr ⟨rfl, rfl⟩, .inr rfl, .inr ⟨rfl, rfl, rfl, rfl⟩, .inr rfl, .inr rfl, .inr rfl, .inr ⟨rfl, rfl, rfl, rfl, rfl⟩, .inr rfl, .inr rfl, .inr ⟨rfl, rfl⟩, .inr ⟨rfl, rfl⟩, .inr rfl, .inr ⟨rfl, rfl⟩, .inr ⟨rfl, rfl, rfl⟩, .inr ⟨rfl, rfl, rfl, rfl⟩⟩) | fail

theorem State.channelTrained_within (s : State) (c : Nat) (m : MarginRead) : Within 0x100000002 s (State.channelTrained s c m) := by
  unfold State.channelTrained
  repeat' first | with_reducible assumption | with_reducible exact Within.refl _ _ | ((try lift_lets -underBinder); intro x1; first | (have h0 := fun a => x1 a; clear h0; unfold x1; clear x1) | (refine Within.cut (m := 0x100000002) (s := s) (v := x1) ?_ ?_; unfold x1; rotate_left; intro h1; clear_value x1) | (refine Within.cut (m := 0x100000002) (s := s) (v := x1.1) ?_ ?_; unfold x1; rotate_left; intro h1; clear_value x1) | clear_value x1 | (refine Within.cut (m := 0x100000002) (s := s) (v := x1) ?_ ?_; unfold x1; rotate_left; intro h1) | (refine Within.cut (m := 0x100000002) (s := s) (v := x1.1) ?_ ?_; unfold x1; rotate_left; intro h1) | skip) | ((with_reducible apply Within.step (State.setMc_within ..) ?_ ?_); exact rfl) | ((with_reducible apply Within.step (State.setFld_within ..) ?_ ?_); exact rfl) | ((with_reducible apply Within.step (State.wr_within ..) ?_ ?_); exact rfl) | split | fail

theorem State.retrain_within (s : State) (w : Word) : Within 0x41000003f s (State.retrain s w) := by
  unfold State.retrain
  repeat' first | with_reducible assumption | with_reducible exact Within.refl _ _ | ((try lift_lets -underBinder); intro x1; first | (have h0 := fun a => x1 a; clear h0; unfold x1; clear x1) | (refine Within.cut (m := 0x41000003f) (s := s) (v := x1) ?_ ?_; unfold x1; rotate_left; intro h1; clear_value x1) | (refine Within.cut (m := 0x41000003f) (s := s) (v := x1.1) ?_ ?_; unfold x1; rotate_left; intro h1; clear_value x1) | clear_value x1 | (refine Within.cut (m := 0x41000003f) (s := s) (v := x1) ?_ ?_; unfold x1; rotate_left; intro h1) | (refine Within.cut (m := 0x41000003f) (s := s) (v := x1.1) ?_ ?_; unfold x1; rotate_left; intro h1) | skip) | ((with_reducible apply Within.step (State.writeReg_within ..) ?_ ?_); exact rfl) | ((with_reducible apply Within.step (State.logMinor_within ?_) ?_ ?_); decide; exact rfl) | ((with_reducible apply Within.step (State.logErr_within ..) ?_ ?_); exact rfl) | ((with_reducible apply Within.step (State.setFld_within ..) ?_ ?_); exact rfl) | split | fail

theorem execRetrain_within (o : Owner) (w : Word) (s : State) : WithinO 0x141000003f s (execRetrain o w s) := by
  unfold execRetrain
  repeat' first | with_reducible assumption | with_reducible exact Within.refl _ _ | with_reducible apply WithinO.of_next ?_ | ((with_reducible apply Within.step (State.retrain_within ..) ?_ ?_); exact rfl) | ((with_reducible apply State.guarded_within ?_ ?_ ?_); exact rfl; intro x1 h1) | split | fail

theorem State.retrainDone_within (s : State) (l : List (Option MarginRead)) : Within 0x510000233 s (State.retrainDone s l) := by
  unfold State.retrainDone
  repeat' first | with_reducible assumption | with_reducible exact Within.refl _ _ | ((try lift_lets -underBinder); intro x1; first | (have h0 := fun a => x1 a; clear h0; unfold x1; clear x1) | (refine Within.cut (m := 0x510000233) (s := s) (v := x1) ?_ ?_; unfold x1; rotate_left; intro h1; clear_value x1) | (refine Within.cut (m := 0x510000233) (s := s) (v := x1.1) ?_ ?_; unfold x1; rotate_left; intro h1; clear_value x1) | clear_value x1 | (refine Within.cut (m := 0x510000233) (s := s) (v := x1) ?_ ?_; unfold x1; rotate_left; intro h1) | (refine Within.cut (m := 0x510000233) (s := s) (v := x1.1) ?_ ?_; unfold x1; rotate_left; intro h1) | skip) | ((with_reducible apply Within.step (State.channelTrained_within ..) ?_ ?_); exact rfl) | ((with_reducible apply Within.step (State.takeTraining_within ..) ?_ ?_); exact rfl) | ((with_reducible apply Within.step (State.setMc_within ..) ?_ ?_); exact rfl) | ((with_reducible apply Within.step (State.logMinor_within ?_) ?_ ?_); decide; exact rfl) | ((with_reducible apply Within.step (State.logErr_within ..) ?_ ?_); exact rfl) | ((with_reducible apply Within.step (State.setFld_within ..) ?_ ?_); exact rfl) | ((with_reducible apply Within.foldl ?_ ?_); rotate_left; intro x1 x2 h1) | ((with_reducible apply Within.foldl_fst ?_ ?_); rotate_left; intro x1 x2 h1) | with_reducible apply Within.of_fst (by assumption) ?_ | split | fail

theorem execRetrainDone_within (l : List (Option MarginRead)) (s : State) : WithinO 0x510000233 s (execRetrainDone l s) := by
  unfold execRetrainDone
  repeat' first | with_reducible assumption | with_reducible exact Within.refl _ _ | with_reducible apply WithinO.of_next ?_ | ((with_reducible apply Within.step (State.retrainDone_within ..) ?_ ?_); exact rfl) | split | fail

end Sys2Proof.Machine
end

