-- ==== Sys2Proof/Laws/FramePosition.lean ====
section
/-!
SUPPORT. Frames of Sys2Proof/Machine/Position.lean: what each operation there may change.
-/
set_option linter.unusedTactic false
set_option linter.unreachableTactic false

namespace Sys2Proof.Machine

theorem State.setChan_within (s : State) (ch : Nat) (v : Chan) : Within 0x8000 s (State.setChan s ch v) := by
  unfold State.setChan
  repeat' first | with_reducible assumption | with_reducible exact Within.refl _ _ | split | (apply Within.upd; (dsimp only; try exact rfl); exact ⟨Nat.le_refl _, List.prefix_refl _, Nat.le_refl _, ⟨rfl, rfl, rfl⟩, .inr ⟨rfl, rfl, rfl⟩, .inr rfl, .inr rfl, .inr rfl, .inr rfl, .inr rfl, .inr rfl, .inr rfl, .inr rfl, .inr ⟨rfl, rfl⟩, .inr rfl, .inr rfl, .inr rfl, .inr rfl, .inr rfl, .inl rfl, .inr rfl, .inr rfl, .inr ⟨rfl, rfl, rfl⟩, .inr ⟨rfl, rfl, rfl, rfl, rfl⟩, .inr ⟨rfl, rfl, rfl, rfl⟩, .inr ⟨rfl, rfl, rfl⟩, .inr ⟨rfl, rfl⟩, .inr rfl, .inr ⟨rfl, rfl, rfl, rfl⟩, .inr rfl, .inr rfl, .inr rfl, .inr ⟨rfl, rfl, rfl, rfl, rfl⟩, .inr rfl, .inr rfl, .inr ⟨rfl, rfl⟩, .inr ⟨rfl, rfl⟩, .inr rfl, .inr ⟨rfl, rfl⟩, .inr ⟨rfl, rfl, rfl⟩, .inr ⟨rfl, rfl, rfl, rfl⟩⟩) | fail

theorem State.setTg_within (s : State) (v : Nat) (g : TrigGen) : Within 0x10000 s (State.setTg s v g) := by
  unfold State.setTg
  repeat' first | with_reducible assumption | with_reducible exact Within.refl _ _ | split | (apply Within.upd; (dsimp only; try exact rfl); exact ⟨Nat.le_refl _, List.prefix_refl _, Nat.le_refl _, ⟨rfl, rfl, rfl⟩, .inr ⟨rfl, rfl, rfl⟩, .inr rfl, .inr rfl, .inr rfl, .inr rfl, .inr rfl, .inr rfl, .inr rfl, .inr rfl, .inr ⟨rfl, rfl⟩, .inr rfl, .inr rfl, .inr rfl, .inr rfl, .inr rfl, .inr rfl, .inl rfl, .inr rfl, .inr ⟨rfl, rfl, rfl⟩, .inr ⟨rfl, rfl, rfl, rfl, rfl⟩, .inr ⟨rfl, rfl, rfl, rfl⟩, .inr ⟨rfl, rfl, rfl⟩, .inr ⟨rfl, rfl⟩, .inr rfl, .inr ⟨rfl, rfl, rfl, rfl⟩, .inr rfl, .inr rfl, .inr rfl, .inr ⟨rfl, rfl, rfl, rfl, rfl⟩, .inr rfl, .inr rfl, .inr ⟨rfl, rfl⟩, .inr ⟨rfl, rfl⟩, .inr rfl, .inr ⟨rfl, rfl⟩, .inr ⟨rfl, rfl, rfl⟩, .inr ⟨rfl, rfl, rfl, rfl⟩⟩) | fail

theorem State.posEvent_within (s : State) (ch : Nat) (k : Nat) (sample : Nat) : Within 0x4000 s (State.posEvent s ch k sample) := by
  unfold State.posEvent
  repeat' first | with_reducible assumption | with_reducible exact Within.refl _ _ | ((with_reducible apply Within.step (State.raise_within ..) ?_ ?_); exact rfl) | split | fail

theorem State.tgSync_within (s : State) (v : Nat) : Within 0x800178032 s (State.tgSync s v) := by
  unfold State.tgSync
  repeat' first | with_reducible assumption | with_reducible exact Within.refl _ _ | ((try lift_lets -underBinder); intro x1; first | (have h0 := fun a => x1 a; clear h0; unfold x1; clear x1) | (refine Within.cut (m := 0x800178032) (s := s) (v := x1) ?_ ?_; unfold x1; rotate_left; intro h1; clear_value x1) | (refine Within.cut (m := 0x800178032) (s := s) (v := x1.1) ?_ ?_; unfold x1; rotate_left; intro h1; clear_value x1) | clear_value x1 | (refine Within.cut (m := 0x800178032) (s := s) (v := x1) ?_ ?_; unfold x1; rotate_left; intro h1) | (refine Within.cut (m := 0x800178032) (s := s) (v := x1.1) ?_ ?_; unfold x1; rotate_left; intro h1) | skip) | ((with_reducible apply Within.step (State.stopAt_within ..) ?_ ?_); exact rfl) | ((with_reducible apply Within.step (State.setView_within ..) ?_ ?_); exact rfl) | ((with_reducible apply Within.step (State.setTg_within ..) ?_ ?_); exact rfl) | with_reducible apply Within.of_fst (by assumption) ?_ | split | fail

theorem State.tgSyncAll_within (s : State) : Within 0x800178032 s (State.tgSyncAll s) := by
  unfold State.tgSyncAll
  repeat' first | with_reducible assumption | with_reducible exact Within.refl _ _ | ((with_reducible apply Within.step (State.tgSync_within ..) ?_ ?_); exact rfl) | ((with_reducible apply Within.foldl ?_ ?_); rotate_left; intro x1 x2 h1) | ((with_reducible apply Within.foldl_fst ?_ ?_); rotate_left; intro x1 x2 h1) | split | fail

theorem State.showLine_within (s : State) (v : Nat) (n : Nat) : Within 0x2 s (State.showLine s v n) := by
  unfold State.showLine
  repeat' first | with_reducible assumption | with_reducible exact Within.refl _ _ | ((with_reducible apply Within.step (State.setFld_within ..) ?_ ?_); exact rfl) | ((with_reducible apply Within.step (State.wr_within ..) ?_ ?_); exact rfl) | split | fail

theorem State.due_within (s : State) (v : Nat) (sample : Nat) (travel : Int) : Within 0x14002 s (State.due s v sample travel) := by
  unfold State.due
  repeat' first | with_reducible assumption | with_reducible exact Within.refl _ _ | ((try lift_lets -underBinder); intro x1; first | (have h0 := fun a => x1 a; clear h0; unfold x1; clear x1) | (refine Within.cut (m := 0x14002) (s := s) (v := x1) ?_ ?_; unfold x1; rotate_left; intro h1; clear_value x1) | (refine Within.cut (m := 0x14002) (s := s) (v := x1.1) ?_ ?_; unfold x1; rotate_left; intro h1; clear_value x1) | clear_value x1 | (refine Within.cut (m := 0x14002) (s := s) (v := x1) ?_ ?_; unfold x1; rotate_left; intro h1) | (refine Within.cut (m := 0x14002) (s := s) (v := x1.1) ?_ ?_; unfold x1; rotate_left; intro h1) | skip) | ((with_reducible apply Within.step (State.raiseLine_within ..) ?_ ?_); exact rfl) | ((with_reducible apply Within.step (State.bump_within ..) ?_ ?_); exact rfl) | ((with_reducible apply Within.step (State.setBit_within ..) ?_ ?_); exact rfl) | ((with_reducible apply Within.step (State.setTg_within ..) ?_ ?_); exact rfl) | with_reducible apply Within.of_fst (by assumption) ?_ | split | fail

theorem State.endTriggers_within (s : State) (v : Nat) (c : Nat) : Within 0x800178032 s (State.endTriggers s v c) := by
  unfold State.endTriggers
  repeat' first | with_reducible assumption | with_reducible exact Within.refl _ _ | ((try lift_lets -underBinder); intro x1; first | (have h0 := fun a => x1 a; clear h0; unfold x1; clear x1) | (refine Within.cut (m := 0x800178032) (s := s) (v := x1) ?_ ?_; unfold x1; rotate_left; intro h1; clear_value x1) | (refine Within.cut (m := 0x800178032) (s := s) (v := x1.1) ?_ ?_; unfold x1; rotate_left; intro h1; clear_value x1) | clear_value x1 | (refine Within.cut (m := 0x800178032) (s := s) (v := x1) ?_ ?_; unfold x1; rotate_left; intro h1) | (refine Within.cut (m := 0x800178032) (s := s) (v := x1.1) ?_ ?_; unfold x1; rotate_left; intro h1) | skip) | ((with_reducible apply Within.step (State.stopAt_within ..) ?_ ?_); exact rfl) | ((with_reducible apply Within.step (State.setView_within ..) ?_ ?_); exact rfl) | split | fail

theorem State.lastLine_within (s : State) (v : Nat) : Within 0x800178032 s (State.lastLine s v) := by
  unfold State.lastLine
  repeat' first | with_reducible assumption | with_reducible exact Within.refl _ _ | ((with_reducible apply Within.step (State.endTriggers_within ..) ?_ ?_); exact rfl) | ((with_reducible apply Within.step (State.setView_within ..) ?_ ?_); exact rfl) | with_reducible apply Within.of_fst (by assumption) ?_ | split | fail

theorem State.dueBoundary_within (s : State) (v : Nat) : Within 0x800148032 s (State.dueBoundary s v) := by
  unfold State.dueBoundary
  repeat' first | with_reducible assumption | with_reducible exact Within.refl _ _ | ((try lift_lets -underBinder); intro x1; first | (have h0 := fun a => x1 a; clear h0; unfold x1; clear x1) | (refine Within.cut (m := 0x800148032) (s := s) (v := x1) ?_ ?_; unfold x1; rotate_left; intro h1; clear_value x1) | (refine Within.cut (m := 0x800148032) (s := s) (v := x1.1) ?_ ?_; unfold x1; rotate_left; intro h1; clear_value x1) | clear_value x1 | (refine Within.cut (m := 0x800148032) (s := s) (v := x1) ?_ ?_; unfold x1; rotate_left; intro h1) | (refine Within.cut (m := 0x800148032) (s := s) (v := x1.1) ?_ ?_; unfold x1; rotate_left; intro h1) | skip) | ((with_reducible apply Within.step (State.boundary_within ..) ?_ ?_); exact rfl) | ((with_reducible apply Within.foldl ?_ ?_); rotate_left; intro x1 x2 h1) | ((with_reducible apply Within.foldl_fst ?_ ?_); rotate_left; intro x1 x2 h1) | split | fail

theorem State.dueLoop_within (s : State) (v : Nat) (sample : Nat) (travel : Int) (y0 : Nat) : Within 0x80017c032 s (State.dueLoop s v sample travel y0) := by
  induction y0 generalizing s v sample travel with
  | zero =>
    unfold State.dueLoop
    repeat' first | with_reducible assumption | with_reducible exact Within.refl _ _ | ((try lift_lets -underBinder); intro x1; first | (have h0 := fun a => x1 a; clear h0; unfold x1; clear x1) | (refine Within.cut (m := 0x80017c032) (s := s) (v := x1) ?_ ?_; unfold x1; rotate_left; intro h1; clear_value x1) | (refine Within.cut (m := 0x80017c032) (s := s) (v := x1.1) ?_ ?_; unfold x1; rotate_left; intro h1; clear_value x1) | clear_value x1 | (refine Within.cut (m := 0x80017c032) (s := s) (v := x1) ?_ ?_; unfold x1; rotate_left; intro h1) | (refine Within.cut (m := 0x80017c032) (s := s) (v := x1.1) ?_ ?_; unfold x1; rotate_left; intro h1) | skip) | ((with_reducible apply Within.step (State.dueBoundary_within ..) ?_ ?_); exact rfl) | ((with_reducible apply Within.step (State.lastLine_within ..) ?_ ?_); exact rfl) | ((with_reducible apply Within.step (State.due_within ..) ?_ ?_); exact rfl) | ((with_reducible apply Within.step (State.tgSync_within ..) ?_ ?_); exact rfl) | ((with_reducible apply Within.step (State.setTg_within ..) ?_ ?_); exact rfl) | split | fail
  | succ n ih =>
    unfold State.dueLoop
    repeat' first | with_reducible assumption | with_reducible exact Within.refl _ _ | ((try lift_lets -underBinder); intro x1; first | (have h0 := fun a => x1 a; clear h0; unfold x1; clear x1) | (refine Within.cut (m := 0x80017c032) (s := s) (v := x1) ?_ ?_; unfold x1; rotate_left; intro h1; clear_value x1) | (refine Within.cut (m := 0x80017c032) (s := s) (v := x1.1) ?_ ?_; unfold x1; rotate_left; intro h1; clear_value x1) | clear_value x1 | (refine Within.cut (m := 0x80017c032) (s := s) (v := x1) ?_ ?_; unfold x1; rotate_left; intro h1) | (refine Within.cut (m := 0x80017c032) (s := s) (v := x1.1) ?_ ?_; unfold x1; rotate_left; intro h1) | skip) | ((with_reducible apply Within.step (ih ..) ?_ ?_); exact rfl) | ((with_reducible apply Within.step (State.dueBoundary_within ..) ?_ ?_); exact rfl) | ((with_reducible apply Within.step (State.lastLine_within ..) ?_ ?_); exact rfl) | ((with_reducible apply Within.step (State.due_within ..) ?_ ?_); exact rfl) | ((with_reducible apply Within.step (State.tgSync_within ..) ?_ ?_); exact rfl) | ((with_reducible apply Within.step (State.setTg_within ..) ?_ ?_); exact rfl) | split | fail

theorem State.tgCount_within (s : State) (v : Nat) (sample : Nat) (rev : Bool) (travel : Int) : Within 0x80017c032 s (State.tgCount s v sample rev travel) := by
  unfold State.tgCount
  repeat' first | with_reducible assumption | with_reducible exact Within.refl _ _ | ((try lift_lets -underBinder); intro x1; first | (have h0 := fun a => x1 a; clear h0; unfold x1; clear x1) | (refine Within.cut (m := 0x80017c032) (s := s) (v := x1) ?_ ?_; unfold x1; rotate_left; intro h1; clear_value x1) | (refine Within.cut (m := 0x80017c032) (s := s) (v := x1.1) ?_ ?_; unfold x1; rotate_left; intro h1; clear_value x1) | clear_value x1 | (refine Within.cut (m := 0x80017c032) (s := s) (v := x1) ?_ ?_; unfold x1; rotate_left; intro h1) | (refine Within.cut (m := 0x80017c032) (s := s) (v := x1.1) ?_ ?_; unfold x1; rotate_left; intro h1) | skip) | ((with_reducible apply Within.step (State.dueLoop_within ..) ?_ ?_); exact rfl) | ((with_reducible apply Within.step (State.tgSync_within ..) ?_ ?_); exact rfl) | ((with_reducible apply Within.step (State.setTg_within ..) ?_ ?_); exact rfl) | split | fail

theorem State.regWrap_within (s : State) (v : Nat) (nLast : Nat) (zw : Int) : Within 0x20000 s (State.regWrap s v nLast zw) := by
  unfold State.regWrap
  repeat' first | with_reducible assumption | with_reducible exact Within.refl _ _ | ((try lift_lets -underBinder); intro x1; first | (have h0 := fun a => x1 a; clear h0; unfold x1; clear x1) | (refine Within.cut (m := 0x20000) (s := s) (v := x1) ?_ ?_; unfold x1; rotate_left; intro h1; clear_value x1) | (refine Within.cut (m := 0x20000) (s := s) (v := x1.1) ?_ ?_; unfold x1; rotate_left; intro h1; clear_value x1) | clear_value x1 | (refine Within.cut (m := 0x20000) (s := s) (v := x1) ?_ ?_; unfold x1; rotate_left; intro h1) | (refine Within.cut (m := 0x20000) (s := s) (v := x1.1) ?_ ?_; unfold x1; rotate_left; intro h1) | skip) | ((with_reducible apply Within.step (State.setView_within ..) ?_ ?_); exact rfl) | with_reducible apply Within.of_fst (by assumption) ?_ | split | fail

theorem State.wrapFor_within (s : State) (v : Nat) : Within 0x20000 s (State.wrapFor s v) := by
  unfold State.wrapFor
  repeat' first | with_reducible assumption | with_reducible exact Within.refl _ _ | ((try lift_lets -underBinder); intro x1; first | (have h0 := fun a => x1 a; clear h0; unfold x1; clear x1) | (refine Within.cut (m := 0x20000) (s := s) (v := x1) ?_ ?_; unfold x1; rotate_left; intro h1; clear_value x1) | (refine Within.cut (m := 0x20000) (s := s) (v := x1.1) ?_ ?_; unfold x1; rotate_left; intro h1; clear_value x1) | clear_value x1 | (refine Within.cut (m := 0x20000) (s := s) (v := x1) ?_ ?_; unfold x1; rotate_left; intro h1) | (refine Within.cut (m := 0x20000) (s := s) (v := x1.1) ?_ ?_; unfold x1; rotate_left; intro h1) | skip) | ((with_reducible apply Within.step (State.regWrap_within ..) ?_ ?_); exact rfl) | ((with_reducible apply Within.step (State.setView_within ..) ?_ ?_); exact rfl) | split | fail

theorem State.speedCount_within (s : State) (ch : Nat) (sample : Nat) (rev : Bool) : Within 0xc002 s (State.speedCount s ch sample rev) := by
  unfold State.speedCount
  repeat' first | with_reducible assumption | with_reducible exact Within.refl _ _ | ((try lift_lets -underBinder); intro x1; first | (have h0 := fun a => x1 a; clear h0; unfold x1; clear x1) | (refine Within.cut (m := 0xc002) (s := s) (v := x1) ?_ ?_; unfold x1; rotate_left; intro h1; clear_value x1) | (refine Within.cut (m := 0xc002) (s := s) (v := x1.1) ?_ ?_; unfold x1; rotate_left; intro h1; clear_value x1) | clear_value x1 | (refine Within.cut (m := 0xc002) (s := s) (v := x1) ?_ ?_; unfold x1; rotate_left; intro h1) | (refine Within.cut (m := 0xc002) (s := s) (v := x1.1) ?_ ?_; unfold x1; rotate_left; intro h1) | skip) | ((with_reducible apply Within.step (State.posEvent_within ..) ?_ ?_); exact rfl) | ((with_reducible apply Within.step (State.setChan_within ..) ?_ ?_); exact rfl) | ((with_reducible apply Within.step (State.setBit_within ..) ?_ ?_); exact rfl) | ((with_reducible apply Within.step (State.setFld_within ..) ?_ ?_); exact rfl) | ((with_reducible apply Within.step (State.wr_within ..) ?_ ?_); exact rfl) | with_reducible apply Within.of_fst (by assumption) ?_ | split | fail

theorem State.countPos_within (s : State) (ch : Nat) (rev : Bool) : Within 0x2 s (State.countPos s ch rev).1 := by
  unfold State.countPos
  repeat' first | with_reducible assumption | with_reducible exact Within.refl _ _ | ((try lift_lets -underBinder); intro x1; first | (have h0 := fun a => x1 a; clear h0; unfold x1; clear x1) | (refine Within.cut (m := 0x2) (s := s) (v := x1) ?_ ?_; unfold x1; rotate_left; intro h1; clear_value x1) | (refine Within.cut (m := 0x2) (s := s) (v := x1.1) ?_ ?_; unfold x1; rotate_left; intro h1; clear_value x1) | clear_value x1 | (refine Within.cut (m := 0x2) (s := s) (v := x1) ?_ ?_; unfold x1; rotate_left; intro h1) | (refine Within.cut (m := 0x2) (s := s) (v := x1.1) ?_ ?_; unfold x1; rotate_left; intro h1) | skip) | ((with_reducible apply Within.step (State.wr_within ..) ?_ ?_); exact rfl) | split | fail

theorem State.count_within (s : State) (ch : Nat) (sample : Nat) (rev : Bool) : Within 0x80017c032 s (State.count s ch sample rev) := by
  unfold State.count
  repeat' first | with_reducible assumption | with_reducible exact Within.refl _ _ | ((try lift_lets -underBinder); intro x1; first | (have h0 := fun a => x1 a; clear h0; unfold x1; clear x1) | (refine Within.cut (m := 0x80017c032) (s := s) (v := x1) ?_ ?_; unfold x1; rotate_left; intro h1; clear_value x1) | (refine Within.cut (m := 0x80017c032) (s := s) (v := x1.1) ?_ ?_; unfold x1; rotate_left; intro h1; clear_value x1) | clear_value x1 | (refine Within.cut (m := 0x80017c032) (s := s) (v := x1) ?_ ?_; unfold x1; rotate_left; intro h1) | (refine Within.cut (m := 0x80017c032) (s := s) (v := x1.1) ?_ ?_; unfold x1; rotate_left; intro h1) | skip) | ((with_reducible apply Within.step (State.countPos_within ..) ?_ ?_); exact rfl) | ((with_reducible apply Within.step (State.speedCount_within ..) ?_ ?_); exact rfl) | ((with_reducible apply Within.step (State.wrapFor_within ..) ?_ ?_); exact rfl) | ((with_reducible apply Within.step (State.tgCount_within ..) ?_ ?_); exact rfl) | ((with_reducible apply Within.step (State.posEvent_within ..) ?_ ?_); exact rfl) | ((with_reducible apply Within.step (State.setChan_within ..) ?_ ?_); exact rfl) | ((with_reducible apply Within.step (State.setFld_within ..) ?_ ?_); exact rfl) | ((with_reducible apply Within.foldl ?_ ?_); rotate_left; intro x1 x2 h1) | ((with_reducible apply Within.foldl_fst ?_ ?_); rotate_left; intro x1 x2 h1) | with_reducible apply Within.of_fst (by assumption) ?_ | split | fail

theorem State.illegal_within (s : State) (ch : Nat) (sample : Nat) : Within 0x4002 s (State.illegal s ch sample) := by
  unfold State.illegal
  repeat' first | with_reducible assumption | with_reducible exact Within.refl _ _ | ((with_reducible apply Within.step (State.posEvent_within ..) ?_ ?_); exact rfl) | ((with_reducible apply Within.step (State.bump_within ..) ?_ ?_); exact rfl) | ((with_reducible apply Within.step (State.setFld_within ..) ?_ ?_); exact rfl) | split | fail

theorem State.encStep_within (s : State) (ch : Nat) (sample : Nat) (step : EncStep) : Within 0x80017c072 s (State.encStep s ch sample step) := by
  unfold State.encStep
  repeat' first | with_reducible assumption | with_reducible exact Within.refl _ _ | ((try lift_lets -underBinder); intro x1; first | (have h0 := fun a => x1 a; clear h0; unfold x1; clear x1) | (refine Within.cut (m := 0x80017c072) (s := s) (v := x1) ?_ ?_; unfold x1; rotate_left; intro h1; clear_value x1) | (refine Within.cut (m := 0x80017c072) (s := s) (v := x1.1) ?_ ?_; unfold x1; rotate_left; intro h1; clear_value x1) | clear_value x1 | (refine Within.cut (m := 0x80017c072) (s := s) (v := x1) ?_ ?_; unfold x1; rotate_left; intro h1) | (refine Within.cut (m := 0x80017c072) (s := s) (v := x1.1) ?_ ?_; unfold x1; rotate_left; intro h1) | skip) | ((with_reducible apply Within.step (State.illegal_within ..) ?_ ?_); exact rfl) | ((with_reducible apply Within.step (State.count_within ..) ?_ ?_); exact rfl) | ((with_reducible apply Within.step (State.setChan_within ..) ?_ ?_); exact rfl) | ((with_reducible apply Within.step (State.atCycle_within ..) ?_ ?_); exact rfl) | with_reducible apply Within.of_fst (by assumption) ?_ | split | fail

theorem State.index_within (s : State) (ch : Nat) (sample : Nat) : Within 0xc042 s (State.index s ch sample) := by
  unfold State.index
  repeat' first | with_reducible assumption | with_reducible exact Within.refl _ _ | ((try lift_lets -underBinder); intro x1; first | (have h0 := fun a => x1 a; clear h0; unfold x1; clear x1) | (refine Within.cut (m := 0xc042) (s := s) (v := x1) ?_ ?_; unfold x1; rotate_left; intro h1; clear_value x1) | (refine Within.cut (m := 0xc042) (s := s) (v := x1.1) ?_ ?_; unfold x1; rotate_left; intro h1; clear_value x1) | clear_value x1 | (refine Within.cut (m := 0xc042) (s := s) (v := x1) ?_ ?_; unfold x1; rotate_left; intro h1) | (refine Within.cut (m := 0xc042) (s := s) (v := x1.1) ?_ ?_; unfold x1; rotate_left; intro h1) | skip) | ((with_reducible apply Within.step (State.posEvent_within ..) ?_ ?_); exact rfl) | ((with_reducible apply Within.step (State.setChan_within ..) ?_ ?_); exact rfl) | ((with_reducible apply Within.step (State.atCycle_within ..) ?_ ?_); exact rfl) | ((with_reducible apply Within.step (State.setFld_within ..) ?_ ?_); exact rfl) | ((with_reducible apply Within.step (State.wr_within ..) ?_ ?_); exact rfl) | split | fail

theorem execEncIndex_within (ch : Fin 2) (sample : Nat) (s : State) : WithinO 0xc042 s (execEncIndex ch sample s) := by
  unfold execEncIndex
  repeat' first | with_reducible assumption | with_reducible exact Within.refl _ _ | with_reducible apply WithinO.of_next ?_ | ((with_reducible apply Within.step (State.index_within ..) ?_ ?_); exact rfl) | ((with_reducible apply Within.step (State.atCycle_within ..) ?_ ?_); exact rfl) | split | fail

theorem State.standstill_within (s : State) (ch : Nat) (sample : Nat) : Within 0xc042 s (State.standstill s ch sample) := by
  unfold State.standstill
  repeat' first | with_reducible assumption | with_reducible exact Within.refl _ _ | ((try lift_lets -underBinder); intro x1; first | (have h0 := fun a => x1 a; clear h0; unfold x1; clear x1) | (refine Within.cut (m := 0xc042) (s := s) (v := x1) ?_ ?_; unfold x1; rotate_left; intro h1; clear_value x1) | (refine Within.cut (m := 0xc042) (s := s) (v := x1.1) ?_ ?_; unfold x1; rotate_left; intro h1; clear_value x1) | clear_value x1 | (refine Within.cut (m := 0xc042) (s := s) (v := x1) ?_ ?_; unfold x1; rotate_left; intro h1) | (refine Within.cut (m := 0xc042) (s := s) (v := x1.1) ?_ ?_; unfold x1; rotate_left; intro h1) | skip) | ((with_reducible apply Within.step (State.atCycle_within ..) ?_ ?_); exact rfl) | ((with_reducible apply Within.step (State.setFld_within ..) ?_ ?_); exact rfl) | ((with_reducible apply Within.step (State.posEvent_within ..) ?_ ?_); exact rfl) | ((with_reducible apply Within.step (State.wr_within ..) ?_ ?_); exact rfl) | ((with_reducible apply Within.step (State.setChan_within ..) ?_ ?_); exact rfl) | with_reducible apply Within.of_fst (by assumption) ?_ | split | fail

theorem execStandstill_within (ch : Fin 2) (sample : Nat) (s : State) : WithinO 0xc042 s (execStandstill ch sample s) := by
  unfold execStandstill
  repeat' first | with_reducible assumption | with_reducible exact Within.refl _ _ | with_reducible apply WithinO.of_next ?_ | ((with_reducible apply Within.step (State.standstill_within ..) ?_ ?_); exact rfl) | split | fail

theorem State.ssiRead_within (s : State) (ch : Nat) (sample : Nat) (value : Sys2Proof.Word) : Within 0xc042 s (State.ssiRead s ch sample value) := by
  unfold State.ssiRead
  repeat' first | with_reducible assumption | with_reducible exact Within.refl _ _ | ((try lift_lets -underBinder); intro x1; first | (have h0 := fun a => x1 a; clear h0; unfold x1; clear x1) | (refine Within.cut (m := 0xc042) (s := s) (v := x1) ?_ ?_; unfold x1; rotate_left; intro h1; clear_value x1) | (refine Within.cut (m := 0xc042) (s := s) (v := x1.1) ?_ ?_; unfold x1; rotate_left; intro h1; clear_value x1) | clear_value x1 | (refine Within.cut (m := 0xc042) (s := s) (v := x1) ?_ ?_; unfold x1; rotate_left; intro h1) | (refine Within.cut (m := 0xc042) (s := s) (v := x1.1) ?_ ?_; unfold x1; rotate_left; intro h1) | skip) | ((with_reducible apply Within.step (State.illegal_within ..) ?_ ?_); exact rfl) | ((with_reducible apply Within.step (State.atCycle_within ..) ?_ ?_); exact rfl) | ((with_reducible apply Within.step (State.setChan_within ..) ?_ ?_); exact rfl) | with_reducible apply Within.of_fst (by assumption) ?_ | split | fail

theorem execSsiRead_within (ch : Fin 2) (value : Word) (sample : Nat) (s : State) : WithinO 0xc042 s (execSsiRead ch value sample s) := by
  unfold execSsiRead
  repeat' first | with_reducible assumption | with_reducible exact Within.refl _ _ | with_reducible apply WithinO.of_next ?_ | ((with_reducible apply Within.step (State.ssiRead_within ..) ?_ ?_); exact rfl) | split | fail

theorem State.keepLine_within (s : State) (v : Nat) (n : Nat) (r : LineRec) : Within 0x10000 s (State.keepLine s v n r) := by
  unfold State.keepLine
  repeat' first | with_reducible assumption | with_reducible exact Within.refl _ _ | ((try lift_lets -underBinder); intro x1; first | (have h0 := fun a => x1 a; clear h0; unfold x1; clear x1) | (refine Within.cut (m := 0x10000) (s := s) (v := x1) ?_ ?_; unfold x1; rotate_left; intro h1; clear_value x1) | (refine Within.cut (m := 0x10000) (s := s) (v := x1.1) ?_ ?_; unfold x1; rotate_left; intro h1; clear_value x1) | clear_value x1 | (refine Within.cut (m := 0x10000) (s := s) (v := x1) ?_ ?_; unfold x1; rotate_left; intro h1) | (refine Within.cut (m := 0x10000) (s := s) (v := x1.1) ?_ ?_; unfold x1; rotate_left; intro h1) | skip) | ((with_reducible apply Within.step (State.setTg_within ..) ?_ ?_); exact rfl) | split | fail

theorem State.settleSkips_within (s : State) (v : Nat) (y0 : List (Nat × Nat × Int)) : Within 0x10002 s (State.settleSkips s v y0) := by
  induction y0 generalizing s v with
  | nil =>
    unfold State.settleSkips
    repeat' first | with_reducible assumption | with_reducible exact Within.refl _ _ | ((with_reducible apply Within.step (State.keepLine_within ..) ?_ ?_); exact rfl) | ((with_reducible apply Within.step (State.showLine_within ..) ?_ ?_); exact rfl) | with_reducible apply Within.of_fst (by assumption) ?_ | split | fail
  | cons a t ih =>
    unfold State.settleSkips
    repeat' first | with_reducible assumption | with_reducible exact Within.refl _ _ | ((with_reducible apply Within.step (ih ..) ?_ ?_); exact rfl) | ((with_reducible apply Within.step (State.keepLine_within ..) ?_ ?_); exact rfl) | ((with_reducible apply Within.step (State.showLine_within ..) ?_ ?_); exact rfl) | with_reducible apply Within.of_fst (by assumption) ?_ | split | fail

theorem State.issue_within (s : State) (v : Nat) : Within 0x10002 s (State.issue s v).1 := by
  unfold State.issue
  repeat' first | with_reducible assumption | with_reducible exact Within.refl _ _ | ((try lift_lets -underBinder); intro x1; first | (have h0 := fun a => x1 a; clear h0; unfold x1; clear x1) | (refine Within.cut (m := 0x10002) (s := s) (v := x1) ?_ ?_; unfold x1; rotate_left; intro h1; clear_value x1) | (refine Within.cut (m := 0x10002) (s := s) (v := x1.1) ?_ ?_; unfold x1; rotate_left; intro h1; clear_value x1) | clear_value x1 | (refine Within.cut (m := 0x10002) (s := s) (v := x1) ?_ ?_; unfold x1; rotate_left; intro h1) | (refine Within.cut (m := 0x10002) (s := s) (v := x1.1) ?_ ?_; unfold x1; rotate_left; intro h1) | skip) | ((with_reducible apply Within.step (State.settleSkips_within ..) ?_ ?_); exact rfl) | ((with_reducible apply Within.step (State.keepLine_within ..) ?_ ?_); exact rfl) | ((with_reducible apply Within.step (State.showLine_within ..) ?_ ?_); exact rfl) | ((with_reducible apply Within.step (State.setFld_within ..) ?_ ?_); exact rfl) | ((with_reducible apply Within.step (State.setTg_within ..) ?_ ?_); exact rfl) | with_reducible apply Within.of_fst (by assumption) ?_ | split | fail

theorem State.lineLo_within (s : State) (v : Nat) : Within 0x10000 s (State.lineLo s v).1 := by
  unfold State.lineLo
  repeat' first | with_reducible assumption | with_reducible exact Within.refl _ _ | ((with_reducible apply Within.step (State.setTg_within ..) ?_ ?_); exact rfl) | split | fail

theorem execTgLineLoRead_within (o : Owner) (v : Fin 4) (s : State) : WithinO 0x1000010020 s (execTgLineLoRead o v s) := by
  unfold execTgLineLoRead
  repeat' first | with_reducible assumption | with_reducible exact Within.refl _ _ | ((try lift_lets -underBinder); intro x1; first | (have h0 := fun a => x1 a; clear h0; unfold x1; clear x1) | (refine Within.cut (m := 0x1000010020) (s := s) (v := x1) ?_ ?_; unfold x1; rotate_left; intro h1; clear_value x1) | (refine Within.cut (m := 0x1000010020) (s := s) (v := x1.1) ?_ ?_; unfold x1; rotate_left; intro h1; clear_value x1) | clear_value x1 | (refine Within.cut (m := 0x1000010020) (s := s) (v := x1) ?_ ?_; unfold x1; rotate_left; intro h1) | (refine Within.cut (m := 0x1000010020) (s := s) (v := x1.1) ?_ ?_; unfold x1; rotate_left; intro h1) | skip) | with_reducible apply WithinO.of_next ?_ | ((with_reducible apply Within.step (State.lineLo_within ..) ?_ ?_); exact rfl) | ((with_reducible apply Within.step (State.touch_within ..) ?_ ?_); exact rfl) | ((with_reducible apply Within.step (State.emit_within ..) ?_ ?_); exact rfl) | with_reducible apply Within.of_fst (by assumption) ?_ | split | fail

end Sys2Proof.Machine
end

