-- ==== Sys2Proof/Laws/FrameLink.lean ====
section
/-!
SUPPORT. Frames of Sys2Proof/Machine/Link.lean: what each operation there may change.
-/
set_option linter.unusedTactic false
set_option linter.unreachableTactic false

namespace Sys2Proof.Machine

theorem State.failLink_within (s : State) (p : Nat) (cause : Nat) (lane : Nat) : Within 0x410000033 s (State.failLink s p cause lane) := by
  unfold State.failLink
  repeat' first | with_reducible assumption | with_reducible exact Within.refl _ _ | ((try lift_lets -underBinder); intro x1; first | (have h0 := fun a => x1 a; clear h0; unfold x1; clear x1) | (refine Within.cut (m := 0x410000033) (s := s) (v := x1) ?_ ?_; unfold x1; rotate_left; intro h1; clear_value x1) | (refine Within.cut (m := 0x410000033) (s := s) (v := x1.1) ?_ ?_; unfold x1; rotate_left; intro h1; clear_value x1) | clear_value x1 | (refine Within.cut (m := 0x410000033) (s := s) (v := x1) ?_ ?_; unfold x1; rotate_left; intro h1) | (refine Within.cut (m := 0x410000033) (s := s) (v := x1.1) ?_ ?_; unfold x1; rotate_left; intro h1) | skip) | ((with_reducible apply Within.step (State.logMinor_within ?_) ?_ ?_); decide; exact rfl) | ((with_reducible apply Within.step (State.logErr_within ..) ?_ ?_); exact rfl) | ((with_reducible apply Within.step (State.dropLocks_within ..) ?_ ?_); exact rfl) | ((with_reducible apply Within.step (State.setLink_within ..) ?_ ?_); exact rfl) | ((with_reducible apply Within.step (State.setFld_within ..) ?_ ?_); exact rfl) | split | fail

theorem State.putJk_within (s : State) (q : Nat) (j : Joker) : Within 0x40000 s (State.putJk s q j) := by
  unfold State.putJk
  repeat' first | with_reducible assumption | with_reducible exact Within.refl _ _ | split | (apply Within.upd; (dsimp only; try exact rfl); exact ⟨Nat.le_refl _, List.prefix_refl _, Nat.le_refl _, ⟨rfl, rfl, rfl⟩, .inr ⟨rfl, rfl, rfl⟩, .inr rfl, .inr rfl, .inr rfl, .inr rfl, .inr rfl, .inr rfl, .inr rfl, .inr rfl, .inr ⟨rfl, rfl⟩, .inr rfl, .inr rfl, .inr rfl, .inr rfl, .inr rfl, .inr rfl, .inr rfl, .inr rfl, .inl rfl, .inr ⟨rfl, rfl, rfl, rfl, rfl⟩, .inr ⟨rfl, rfl, rfl, rfl⟩, .inr ⟨rfl, rfl, rfl⟩, .inr ⟨rfl, rfl⟩, .inr rfl, .inr ⟨rfl, rfl, rfl, rfl⟩, .inr rfl, .inr rfl, .inr rfl, .inr ⟨rfl, rfl, rfl, rfl, rfl⟩, .inr rfl, .inr rfl, .inr ⟨rfl, rfl⟩, .inr ⟨rfl, rfl⟩, .inr rfl, .inr ⟨rfl, rfl⟩, .inr ⟨rfl, rfl, rfl⟩, .inr ⟨rfl, rfl, rfl, rfl⟩⟩) | fail

theorem State.putCodes_within (s : State) (q : Nat) (k : Nat) (c : Sys2Proof.EqCodes) : Within 0x40002 s (State.putCodes s q k c) := by
  unfold State.putCodes
  repeat' first | with_reducible assumption | with_reducible exact Within.refl _ _ | ((try lift_lets -underBinder); intro x1; first | (have h0 := fun a => x1 a; clear h0; unfold x1; clear x1) | (refine Within.cut (m := 0x40002) (s := s) (v := x1) ?_ ?_; unfold x1; rotate_left; intro h1; clear_value x1) | (refine Within.cut (m := 0x40002) (s := s) (v := x1.1) ?_ ?_; unfold x1; rotate_left; intro h1; clear_value x1) | clear_value x1 | (refine Within.cut (m := 0x40002) (s := s) (v := x1) ?_ ?_; unfold x1; rotate_left; intro h1) | (refine Within.cut (m := 0x40002) (s := s) (v := x1.1) ?_ ?_; unfold x1; rotate_left; intro h1) | skip) | ((with_reducible apply Within.step (State.putJk_within ..) ?_ ?_); exact rfl) | ((with_reducible apply Within.step (State.setFld_within ..) ?_ ?_); exact rfl) | split | fail

theorem State.dropWaiting_within (s : State) (q : Nat) : Within 0x40022 s (State.dropWaiting s q) := by
  unfold State.dropWaiting
  repeat' first | with_reducible assumption | with_reducible exact Within.refl _ _ | ((try lift_lets -underBinder); intro x1; first | (have h0 := fun a => x1 a; clear h0; unfold x1; clear x1) | (refine Within.cut (m := 0x40022) (s := s) (v := x1) ?_ ?_; unfold x1; rotate_left; intro h1; clear_value x1) | (refine Within.cut (m := 0x40022) (s := s) (v := x1.1) ?_ ?_; unfold x1; rotate_left; intro h1; clear_value x1) | clear_value x1 | (refine Within.cut (m := 0x40022) (s := s) (v := x1) ?_ ?_; unfold x1; rotate_left; intro h1) | (refine Within.cut (m := 0x40022) (s := s) (v := x1.1) ?_ ?_; unfold x1; rotate_left; intro h1) | skip) | ((with_reducible apply Within.step (State.enterBase_within ..) ?_ ?_); exact rfl) | ((with_reducible apply Within.step (State.putJk_within ..) ?_ ?_); exact rfl) | ((with_reducible apply Within.step (State.setFld_within ..) ?_ ?_); exact rfl) | split | fail

theorem State.substitute_within (s : State) (q : Nat) (m : Nat) : Within 0x410044033 s (State.substitute s q m) := by
  unfold State.substitute
  repeat' first | with_reducible assumption | with_reducible exact Within.refl _ _ | ((try lift_lets -underBinder); intro x1; first | (have h0 := fun a => x1 a; clear h0; unfold x1; clear x1) | (refine Within.cut (m := 0x410044033) (s := s) (v := x1) ?_ ?_; unfold x1; rotate_left; intro h1; clear_value x1) | (refine Within.cut (m := 0x410044033) (s := s) (v := x1.1) ?_ ?_; unfold x1; rotate_left; intro h1; clear_value x1) | clear_value x1 | (refine Within.cut (m := 0x410044033) (s := s) (v := x1) ?_ ?_; unfold x1; rotate_left; intro h1) | (refine Within.cut (m := 0x410044033) (s := s) (v := x1.1) ?_ ?_; unfold x1; rotate_left; intro h1) | skip) | ((with_reducible apply Within.step (State.dropWaiting_within ..) ?_ ?_); exact rfl) | ((with_reducible apply Within.step (State.raiseNow_within ..) ?_ ?_); exact rfl) | ((with_reducible apply Within.step (State.putJk_within ..) ?_ ?_); exact rfl) | ((with_reducible apply Within.step (State.setFld_within ..) ?_ ?_); exact rfl) | ((with_reducible apply Within.step (State.logMinor_within ?_) ?_ ?_); decide; exact rfl) | with_reducible apply Within.of_fst (by assumption) ?_ | split | fail

theorem State.sliceFailed_within (s : State) (q : Nat) (m : Nat) : Within 0x410044033 s (State.sliceFailed s q m) := by
  unfold State.sliceFailed
  repeat' first | with_reducible assumption | with_reducible exact Within.refl _ _ | ((try lift_lets -underBinder); intro x1; first | (have h0 := fun a => x1 a; clear h0; unfold x1; clear x1) | (refine Within.cut (m := 0x410044033) (s := s) (v := x1) ?_ ?_; unfold x1; rotate_left; intro h1; clear_value x1) | (refine Within.cut (m := 0x410044033) (s := s) (v := x1.1) ?_ ?_; unfold x1; rotate_left; intro h1; clear_value x1) | clear_value x1 | (refine Within.cut (m := 0x410044033) (s := s) (v := x1) ?_ ?_; unfold x1; rotate_left; intro h1) | (refine Within.cut (m := 0x410044033) (s := s) (v := x1.1) ?_ ?_; unfold x1; rotate_left; intro h1) | skip) | ((with_reducible apply Within.step (State.substitute_within ..) ?_ ?_); exact rfl) | ((with_reducible apply Within.step (State.failLink_within ..) ?_ ?_); exact rfl) | ((with_reducible apply Within.step (State.logMinor_within ?_) ?_ ?_); decide; exact rfl) | ((with_reducible apply Within.step (State.logErr_within ..) ?_ ?_); exact rfl) | ((with_reducible apply Within.step (State.setFld_within ..) ?_ ?_); exact rfl) | split | fail

theorem State.eqReq_within (s : State) (p : Nat) (m : Nat) (code : Nat) (preset : Nat) (ph : TrainPhase) : Within 0x40020 s (State.eqReq s p m code preset ph) := by
  unfold State.eqReq
  repeat' first | with_reducible assumption | with_reducible exact Within.refl _ _ | ((try lift_lets -underBinder); intro x1; first | (have h0 := fun a => x1 a; clear h0; unfold x1; clear x1) | (refine Within.cut (m := 0x40020) (s := s) (v := x1) ?_ ?_; unfold x1; rotate_left; intro h1; clear_value x1) | (refine Within.cut (m := 0x40020) (s := s) (v := x1.1) ?_ ?_; unfold x1; rotate_left; intro h1; clear_value x1) | clear_value x1 | (refine Within.cut (m := 0x40020) (s := s) (v := x1) ?_ ?_; unfold x1; rotate_left; intro h1) | (refine Within.cut (m := 0x40020) (s := s) (v := x1.1) ?_ ?_; unfold x1; rotate_left; intro h1) | skip) | ((with_reducible apply Within.step (State.uplink_within ..) ?_ ?_); exact rfl) | ((with_reducible apply Within.step (State.putTrain_within ..) ?_ ?_); exact rfl) | with_reducible apply Within.of_fst (by assumption) ?_ | split | fail

theorem State.sendDone_within (s : State) (p : Nat) (m : Nat) : Within 0x40020 s (State.sendDone s p m) := by
  unfold State.sendDone
  repeat' first | with_reducible assumption | with_reducible exact Within.refl _ _ | ((with_reducible apply Within.step (State.eqReq_within ..) ?_ ?_); exact rfl) | split | fail

theorem State.stepFrom_within (s : State) (p : Nat) (m : Nat) (d : Nat) (y0 : Nat) : Within 0x40020 s (State.stepFrom s p m d y0) := by
  induction y0 generalizing s p m d with
  | zero  =>
    unfold State.stepFrom
    repeat' first | with_reducible assumption | with_reducible exact Within.refl _ _ | ((with_reducible apply Within.step (Within.refl _ _) ?_ ?_); exact rfl) | with_reducible assumption | with_reducible exact Within.refl _ _ | ((try lift_lets -underBinder); intro x1; first | (have h0 := fun a => x1 a; clear h0; unfold x1; clear x1) | (refine Within.cut (m := 0x40020) (s := s) (v := x1) ?_ ?_; unfold x1; rotate_left; intro h1; clear_value x1) | (refine Within.cut (m := 0x40020) (s := s) (v := x1.1) ?_ ?_; unfold x1; rotate_left; intro h1; clear_value x1) | clear_value x1 | (refine Within.cut (m := 0x40020) (s := s) (v := x1) ?_ ?_; unfold x1; rotate_left; intro h1) | (refine Within.cut (m := 0x40020) (s := s) (v := x1.1) ?_ ?_; unfold x1; rotate_left; intro h1) | skip) | ((with_reducible apply Within.step (State.sendDone_within ..) ?_ ?_); exact rfl) | ((with_reducible apply Within.step (State.eqReq_within ..) ?_ ?_); exact rfl) | ((with_reducible apply Within.step (State.putTrain_within ..) ?_ ?_); exact rfl) | split | fail
  | succ n ih =>
    unfold State.stepFrom
    repeat' first | with_reducible assumption | with_reducible exact Within.refl _ _ | ((with_reducible apply Within.step (ih ..) ?_ ?_); exact rfl) | with_reducible assumption | with_reducible exact Within.refl _ _ | ((try lift_lets -underBinder); intro x1; first | (have h0 := fun a => x1 a; clear h0; unfold x1; clear x1) | (refine Within.cut (m := 0x40020) (s := s) (v := x1) ?_ ?_; unfold x1; rotate_left; intro h1; clear_value x1) | (refine Within.cut (m := 0x40020) (s := s) (v := x1.1) ?_ ?_; unfold x1; rotate_left; intro h1; clear_value x1) | clear_value x1 | (refine Within.cut (m := 0x40020) (s := s) (v := x1) ?_ ?_; unfold x1; rotate_left; intro h1) | (refine Within.cut (m := 0x40020) (s := s) (v := x1.1) ?_ ?_; unfold x1; rotate_left; intro h1) | skip) | ((with_reducible apply Within.step (State.sendDone_within ..) ?_ ?_); exact rfl) | ((with_reducible apply Within.step (State.eqReq_within ..) ?_ ?_); exact rfl) | ((with_reducible apply Within.step (State.putTrain_within ..) ?_ ?_); exact rfl) | split | fail

theorem State.afterBest_within (s : State) (p : Nat) (m : Nat) (merit : Nat) : Within 0x40020 s (State.afterBest s p m merit) := by
  unfold State.afterBest
  repeat' first | with_reducible assumption | with_reducible exact Within.refl _ _ | ((try lift_lets -underBinder); intro x1; first | (have h0 := fun a => x1 a; clear h0; unfold x1; clear x1) | (refine Within.cut (m := 0x40020) (s := s) (v := x1) ?_ ?_; unfold x1; rotate_left; intro h1; clear_value x1) | (refine Within.cut (m := 0x40020) (s := s) (v := x1.1) ?_ ?_; unfold x1; rotate_left; intro h1; clear_value x1) | clear_value x1 | (refine Within.cut (m := 0x40020) (s := s) (v := x1) ?_ ?_; unfold x1; rotate_left; intro h1) | (refine Within.cut (m := 0x40020) (s := s) (v := x1.1) ?_ ?_; unfold x1; rotate_left; intro h1) | skip) | ((with_reducible apply Within.step (State.stepFrom_within ..) ?_ ?_); exact rfl) | ((with_reducible apply Within.step (State.sendDone_within ..) ?_ ?_); exact rfl) | ((with_reducible apply Within.step (State.putTrain_within ..) ?_ ?_); exact rfl) | split | fail

theorem State.laneFails_within (s : State) (p : Nat) (m : Nat) : Within 0x410044033 s (State.laneFails s p m) := by
  unfold State.laneFails
  repeat' first | with_reducible assumption | with_reducible exact Within.refl _ _ | ((try lift_lets -underBinder); intro x1; first | (have h0 := fun a => x1 a; clear h0; unfold x1; clear x1) | (refine Within.cut (m := 0x410044033) (s := s) (v := x1) ?_ ?_; unfold x1; rotate_left; intro h1; clear_value x1) | (refine Within.cut (m := 0x410044033) (s := s) (v := x1.1) ?_ ?_; unfold x1; rotate_left; intro h1; clear_value x1) | clear_value x1 | (refine Within.cut (m := 0x410044033) (s := s) (v := x1) ?_ ?_; unfold x1; rotate_left; intro h1) | (refine Within.cut (m := 0x410044033) (s := s) (v := x1.1) ?_ ?_; unfold x1; rotate_left; intro h1) | skip) | ((with_reducible apply Within.step (State.sliceFailed_within ..) ?_ ?_); exact rfl) | ((with_reducible apply Within.step (State.failLink_within ..) ?_ ?_); exact rfl) | split | fail

theorem State.noSetting_within (s : State) (p : Nat) (m : Nat) : Within 0x410044033 s (State.noSetting s p m) := by
  unfold State.noSetting
  repeat' first | with_reducible assumption | with_reducible exact Within.refl _ _ | ((try lift_lets -underBinder); intro x1; first | (have h0 := fun a => x1 a; clear h0; unfold x1; clear x1) | (refine Within.cut (m := 0x410044033) (s := s) (v := x1) ?_ ?_; unfold x1; rotate_left; intro h1; clear_value x1) | (refine Within.cut (m := 0x410044033) (s := s) (v := x1.1) ?_ ?_; unfold x1; rotate_left; intro h1; clear_value x1) | clear_value x1 | (refine Within.cut (m := 0x410044033) (s := s) (v := x1) ?_ ?_; unfold x1; rotate_left; intro h1) | (refine Within.cut (m := 0x410044033) (s := s) (v := x1.1) ?_ ?_; unfold x1; rotate_left; intro h1) | skip) | ((with_reducible apply Within.step (State.laneFails_within ..) ?_ ?_); exact rfl) | ((with_reducible apply Within.step (State.eqReq_within ..) ?_ ?_); exact rfl) | with_reducible apply Within.of_fst (by assumption) ?_ | split | fail

theorem State.sweepFrom_within (s : State) (p : Nat) (m : Nat) (k : Nat) : Within 0x410044033 s (State.sweepFrom s p m k) := by
  unfold State.sweepFrom
  repeat' first | with_reducible assumption | with_reducible exact Within.refl _ _ | ((with_reducible apply Within.step (State.noSetting_within ..) ?_ ?_); exact rfl) | ((with_reducible apply Within.step (State.eqReq_within ..) ?_ ?_); exact rfl) | with_reducible apply Within.of_fst (by assumption) ?_ | split | fail

theorem State.startTrain_within (s : State) (p : Nat) (m : Nat) : Within 0x410044033 s (State.startTrain s p m) := by
  unfold State.startTrain
  repeat' first | with_reducible assumption | with_reducible exact Within.refl _ _ | ((try lift_lets -underBinder); intro x1; first | (have h0 := fun a => x1 a; clear h0; unfold x1; clear x1) | (refine Within.cut (m := 0x410044033) (s := s) (v := x1) ?_ ?_; unfold x1; rotate_left; intro h1; clear_value x1) | (refine Within.cut (m := 0x410044033) (s := s) (v := x1.1) ?_ ?_; unfold x1; rotate_left; intro h1; clear_value x1) | clear_value x1 | (refine Within.cut (m := 0x410044033) (s := s) (v := x1) ?_ ?_; unfold x1; rotate_left; intro h1) | (refine Within.cut (m := 0x410044033) (s := s) (v := x1.1) ?_ ?_; unfold x1; rotate_left; intro h1) | skip) | ((with_reducible apply Within.step (State.sweepFrom_within ..) ?_ ?_); exact rfl) | ((with_reducible apply Within.step (State.eqReq_within ..) ?_ ?_); exact rfl) | ((with_reducible apply Within.step (State.putTrain_within ..) ?_ ?_); exact rfl) | split | fail

theorem State.rateLockAll_within (s : State) (p : Nat) : Within 0x410044033 s (State.rateLockAll s p) := by
  unfold State.rateLockAll
  repeat' first | with_reducible assumption | with_reducible exact Within.refl _ _ | ((try lift_lets -underBinder); intro x1; first | (have h0 := fun a => x1 a; clear h0; unfold x1; clear x1) | (refine Within.cut (m := 0x410044033) (s := s) (v := x1) ?_ ?_; unfold x1; rotate_left; intro h1; clear_value x1) | (refine Within.cut (m := 0x410044033) (s := s) (v := x1.1) ?_ ?_; unfold x1; rotate_left; intro h1; clear_value x1) | clear_value x1 | (refine Within.cut (m := 0x410044033) (s := s) (v := x1) ?_ ?_; unfold x1; rotate_left; intro h1) | (refine Within.cut (m := 0x410044033) (s := s) (v := x1.1) ?_ ?_; unfold x1; rotate_left; intro h1) | skip) | ((with_reducible apply Within.step (State.startTrain_within ..) ?_ ?_); exact rfl) | ((with_reducible apply Within.step (State.putLink_within ..) ?_ ?_); exact rfl) | ((with_reducible apply Within.step (State.setLink_within ..) ?_ ?_); exact rfl) | ((with_reducible apply Within.foldl ?_ ?_); rotate_left; intro x1 x2 h1) | ((with_reducible apply Within.foldl_fst ?_ ?_); rotate_left; intro x1 x2 h1) | split | fail

theorem State.trainedAll_within (s : State) (p : Nat) : Within 0x40022 s (State.trainedAll s p) := by
  unfold State.trainedAll
  repeat' first | with_reducible assumption | with_reducible exact Within.refl _ _ | ((try lift_lets -underBinder); intro x1; first | (have h0 := fun a => x1 a; clear h0; unfold x1; clear x1) | (refine Within.cut (m := 0x40022) (s := s) (v := x1) ?_ ?_; unfold x1; rotate_left; intro h1; clear_value x1) | (refine Within.cut (m := 0x40022) (s := s) (v := x1.1) ?_ ?_; unfold x1; rotate_left; intro h1; clear_value x1) | clear_value x1 | (refine Within.cut (m := 0x40022) (s := s) (v := x1) ?_ ?_; unfold x1; rotate_left; intro h1) | (refine Within.cut (m := 0x40022) (s := s) (v := x1.1) ?_ ?_; unfold x1; rotate_left; intro h1) | skip) | ((with_reducible apply Within.step (State.putJk_within ..) ?_ ?_); exact rfl) | ((with_reducible apply Within.step (State.linkCmd_within ..) ?_ ?_); exact rfl) | ((with_reducible apply Within.step (State.putLink_within ..) ?_ ?_); exact rfl) | ((with_reducible apply Within.step (State.setLink_within ..) ?_ ?_); exact rfl) | ((with_reducible apply Within.foldl ?_ ?_); rotate_left; intro x1 x2 h1) | ((with_reducible apply Within.foldl_fst ?_ ?_); rotate_left; intro x1 x2 h1) | split | fail

theorem State.eqAck_within (s : State) (p : Nat) (m : Nat) (ts : SetFields) : Within 0x410044033 s (State.eqAck s p m ts) := by
  unfold State.eqAck
  repeat' first | with_reducible assumption | with_reducible exact Within.refl _ _ | ((try lift_lets -underBinder); intro x1; first | (have h0 := fun a => x1 a; clear h0; unfold x1; clear x1) | (refine Within.cut (m := 0x410044033) (s := s) (v := x1) ?_ ?_; unfold x1; rotate_left; intro h1; clear_value x1) | (refine Within.cut (m := 0x410044033) (s := s) (v := x1.1) ?_ ?_; unfold x1; rotate_left; intro h1; clear_value x1) | clear_value x1 | (refine Within.cut (m := 0x410044033) (s := s) (v := x1) ?_ ?_; unfold x1; rotate_left; intro h1) | (refine Within.cut (m := 0x410044033) (s := s) (v := x1.1) ?_ ?_; unfold x1; rotate_left; intro h1) | skip) | ((with_reducible apply Within.step (State.trainedAll_within ..) ?_ ?_); exact rfl) | ((with_reducible apply Within.step (State.sweepFrom_within ..) ?_ ?_); exact rfl) | ((with_reducible apply Within.step (State.noSetting_within ..) ?_ ?_); exact rfl) | ((with_reducible apply Within.step (State.afterBest_within ..) ?_ ?_); exact rfl) | ((with_reducible apply Within.step (State.stepFrom_within ..) ?_ ?_); exact rfl) | ((with_reducible apply Within.step (State.putTrain_within ..) ?_ ?_); exact rfl) | ((with_reducible apply Within.step (State.setFld_within ..) ?_ ?_); exact rfl) | with_reducible apply Within.of_fst (by assumption) ?_ | split | fail

theorem State.trainingSet_within (s : State) (p : Nat) (x : Sys2Proof.TrainSet) : Within 0x410044033 s (State.trainingSet s p x) := by
  unfold State.trainingSet
  repeat' first | with_reducible assumption | with_reducible exact Within.refl _ _ | ((with_reducible apply Within.step (State.eqAck_within ..) ?_ ?_); exact rfl) | with_reducible apply Within.of_fst (by assumption) ?_ | split | fail

theorem execTrainingOrderedSet_within (p : Fin 16) (ts : TrainSet) (s : State) : WithinO 0x410044033 s (execTrainingOrderedSet p ts s) := by
  unfold execTrainingOrderedSet
  repeat' first | with_reducible assumption | with_reducible exact Within.refl _ _ | with_reducible apply WithinO.of_next ?_ | ((with_reducible apply Within.step (State.trainingSet_within ..) ?_ ?_); exact rfl) | split | fail

theorem execTrainScanStart_within (p : Fin 16) (x : Sys2Proof.SettledLane) (s : State) : WithinO 0x40002 s (execTrainScanStart p x s) := by
  unfold execTrainScanStart
  repeat' first | with_reducible assumption | with_reducible exact Within.refl _ _ | with_reducible apply WithinO.of_next ?_ | ((try lift_lets -underBinder); intro x1; first | (have h0 := fun a => x1 a; clear h0; unfold x1; clear x1) | (refine Within.cut (m := 0x40002) (s := s) (v := x1) ?_ ?_; unfold x1; rotate_left; intro h1; clear_value x1) | (refine Within.cut (m := 0x40002) (s := s) (v := x1.1) ?_ ?_; unfold x1; rotate_left; intro h1; clear_value x1) | clear_value x1 | (refine Within.cut (m := 0x40002) (s := s) (v := x1) ?_ ?_; unfold x1; rotate_left; intro h1) | (refine Within.cut (m := 0x40002) (s := s) (v := x1.1) ?_ ?_; unfold x1; rotate_left; intro h1) | skip) | ((with_reducible apply Within.step (State.putCodes_within ..) ?_ ?_); exact rfl) | ((with_reducible apply Within.step (State.putTrain_within ..) ?_ ?_); exact rfl) | with_reducible apply Within.of_fst (by assumption) ?_ | split | fail

theorem State.trainScan_within (s : State) (p : Nat) (m : Nat) (r : Sys2Proof.EyeResult) : Within 0x410044033 s (State.trainScan s p m r) := by
  unfold State.trainScan
  repeat' first | with_reducible assumption | with_reducible exact Within.refl _ _ | ((try lift_lets -underBinder); intro x1; first | (have h0 := fun a => x1 a; clear h0; unfold x1; clear x1) | (refine Within.cut (m := 0x410044033) (s := s) (v := x1) ?_ ?_; unfold x1; rotate_left; intro h1; clear_value x1) | (refine Within.cut (m := 0x410044033) (s := s) (v := x1.1) ?_ ?_; unfold x1; rotate_left; intro h1; clear_value x1) | clear_value x1 | (refine Within.cut (m := 0x410044033) (s := s) (v := x1) ?_ ?_; unfold x1; rotate_left; intro h1) | (refine Within.cut (m := 0x410044033) (s := s) (v := x1.1) ?_ ?_; unfold x1; rotate_left; intro h1) | skip) | ((with_reducible apply Within.step (State.sweepFrom_within ..) ?_ ?_); exact rfl) | ((with_reducible apply Within.step (State.noSetting_within ..) ?_ ?_); exact rfl) | ((with_reducible apply Within.step (State.laneFails_within ..) ?_ ?_); exact rfl) | ((with_reducible apply Within.step (State.afterBest_within ..) ?_ ?_); exact rfl) | ((with_reducible apply Within.step (State.stepFrom_within ..) ?_ ?_); exact rfl) | ((with_reducible apply Within.step (State.sendDone_within ..) ?_ ?_); exact rfl) | ((with_reducible apply Within.step (State.eqReq_within ..) ?_ ?_); exact rfl) | ((with_reducible apply Within.step (State.substitute_within ..) ?_ ?_); exact rfl) | ((with_reducible apply Within.step (State.putTrain_within ..) ?_ ?_); exact rfl) | with_reducible apply Within.of_fst (by assumption) ?_ | split | fail

theorem execTrainScanDone_within (p : Fin 16) (m : Fin 8) (x : Sys2Proof.EyeScan) (s : State) : WithinO 0x410044033 s (execTrainScanDone p m x s) := by
  unfold execTrainScanDone
  repeat' first | with_reducible assumption | with_reducible exact Within.refl _ _ | with_reducible apply WithinO.of_next ?_ | ((try lift_lets -underBinder); intro x1; first | (have h0 := fun a => x1 a; clear h0; unfold x1; clear x1) | (refine Within.cut (m := 0x410044033) (s := s) (v := x1) ?_ ?_; unfold x1; rotate_left; intro h1; clear_value x1) | (refine Within.cut (m := 0x410044033) (s := s) (v := x1.1) ?_ ?_; unfold x1; rotate_left; intro h1; clear_value x1) | clear_value x1 | (refine Within.cut (m := 0x410044033) (s := s) (v := x1) ?_ ?_; unfold x1; rotate_left; intro h1) | (refine Within.cut (m := 0x410044033) (s := s) (v := x1.1) ?_ ?_; unfold x1; rotate_left; intro h1) | skip) | ((with_reducible apply Within.step (State.trainScan_within ..) ?_ ?_); exact rfl) | ((with_reducible apply Within.step (State.putCodes_within ..) ?_ ?_); exact rfl) | split | fail

theorem State.eqResend_within (s : State) (p : Nat) (m : Nat) : Within 0x410040033 s (State.eqResend s p m) := by
  unfold State.eqResend
  repeat' first | with_reducible assumption | with_reducible exact Within.refl _ _ | ((try lift_lets -underBinder); intro x1; first | (have h0 := fun a => x1 a; clear h0; unfold x1; clear x1) | (refine Within.cut (m := 0x410040033) (s := s) (v := x1) ?_ ?_; unfold x1; rotate_left; intro h1; clear_value x1) | (refine Within.cut (m := 0x410040033) (s := s) (v := x1.1) ?_ ?_; unfold x1; rotate_left; intro h1; clear_value x1) | clear_value x1 | (refine Within.cut (m := 0x410040033) (s := s) (v := x1) ?_ ?_; unfold x1; rotate_left; intro h1) | (refine Within.cut (m := 0x410040033) (s := s) (v := x1.1) ?_ ?_; unfold x1; rotate_left; intro h1) | skip) | ((with_reducible apply Within.step (State.uplink_within ..) ?_ ?_); exact rfl) | ((with_reducible apply Within.step (State.putTrain_within ..) ?_ ?_); exact rfl) | ((with_reducible apply Within.step (State.failLink_within ..) ?_ ?_); exact rfl) | with_reducible apply Within.of_fst (by assumption) ?_ | split | fail

theorem execEqReqResend_within (p : Fin 16) (m : Fin 8) (s : State) : WithinO 0x410040033 s (execEqReqResend p m s) := by
  unfold execEqReqResend
  repeat' first | with_reducible assumption | with_reducible exact Within.refl _ _ | with_reducible apply WithinO.of_next ?_ | ((with_reducible apply Within.step (State.eqResend_within ..) ?_ ?_); exact rfl) | split | fail

theorem State.capsCheck_within (s : State) (p : Nat) : Within 0x410044033 s (State.capsCheck s p) := by
  unfold State.capsCheck
  repeat' first | with_reducible assumption | with_reducible exact Within.refl _ _ | ((with_reducible apply Within.step (State.rateLockAll_within ..) ?_ ?_); exact rfl) | ((with_reducible apply Within.step (State.failLink_within ..) ?_ ?_); exact rfl) | ((with_reducible apply Within.step (State.linkCmd_within ..) ?_ ?_); exact rfl) | ((with_reducible apply Within.step (State.setLink_within ..) ?_ ?_); exact rfl) | split | fail

theorem State.lockGained_within (s : State) (q : Nat) (m : Nat) (c : Sys2Proof.EqCodes) (kHz : Nat) : Within 0x410044033 s (State.lockGained s q m c kHz) := by
  unfold State.lockGained
  repeat' first | with_reducible assumption | with_reducible exact Within.refl _ _ | ((try lift_lets -underBinder); intro x1; first | (have h0 := fun a => x1 a; clear h0; unfold x1; clear x1) | (refine Within.cut (m := 0x410044033) (s := s) (v := x1) ?_ ?_; unfold x1; rotate_left; intro h1; clear_value x1) | (refine Within.cut (m := 0x410044033) (s := s) (v := x1.1) ?_ ?_; unfold x1; rotate_left; intro h1; clear_value x1) | clear_value x1 | (refine Within.cut (m := 0x410044033) (s := s) (v := x1) ?_ ?_; unfold x1; rotate_left; intro h1) | (refine Within.cut (m := 0x410044033) (s := s) (v := x1.1) ?_ ?_; unfold x1; rotate_left; intro h1) | skip) | ((with_reducible apply Within.step (State.rateLockAll_within ..) ?_ ?_); exact rfl) | ((with_reducible apply Within.step (State.clkRun_within ..) ?_ ?_); exact rfl) | ((with_reducible apply Within.step (State.nextRequest_within ..) ?_ ?_); exact rfl) | ((with_reducible apply Within.step (State.putCodes_within ..) ?_ ?_); exact rfl) | ((with_reducible apply Within.step (State.setFld_within ..) ?_ ?_); exact rfl) | split | fail

theorem execLaneLockGained_within (q : Fin 16) (x : Sys2Proof.LaneLock) (s : State) : WithinO 0x410044033 s (execLaneLockGained q x s) := by
  unfold execLaneLockGained
  repeat' first | with_reducible assumption | with_reducible exact Within.refl _ _ | with_reducible apply WithinO.of_next ?_ | ((with_reducible apply Within.step (State.lockGained_within ..) ?_ ?_); exact rfl) | split | fail

theorem State.lockLost_within (s : State) (q : Nat) (m : Nat) : Within 0x40022 s (State.lockLost s q m) := by
  unfold State.lockLost
  repeat' first | with_reducible assumption | with_reducible exact Within.refl _ _ | ((try lift_lets -underBinder); intro x1; first | (have h0 := fun a => x1 a; clear h0; unfold x1; clear x1) | (refine Within.cut (m := 0x40022) (s := s) (v := x1) ?_ ?_; unfold x1; rotate_left; intro h1; clear_value x1) | (refine Within.cut (m := 0x40022) (s := s) (v := x1.1) ?_ ?_; unfold x1; rotate_left; intro h1; clear_value x1) | clear_value x1 | (refine Within.cut (m := 0x40022) (s := s) (v := x1) ?_ ?_; unfold x1; rotate_left; intro h1) | (refine Within.cut (m := 0x40022) (s := s) (v := x1.1) ?_ ?_; unfold x1; rotate_left; intro h1) | skip) | ((with_reducible apply Within.step (State.enterBase_within ..) ?_ ?_); exact rfl) | ((with_reducible apply Within.step (State.clkLost_within ..) ?_ ?_); exact rfl) | ((with_reducible apply Within.step (State.bump_within ..) ?_ ?_); exact rfl) | ((with_reducible apply Within.step (State.putJk_within ..) ?_ ?_); exact rfl) | ((with_reducible apply Within.step (State.setFld_within ..) ?_ ?_); exact rfl) | with_reducible apply Within.of_fst (by assumption) ?_ | split | fail

theorem execLaneLockLost_within (q : Fin 16) (m : Fin 4) (s : State) : WithinO 0x40022 s (execLaneLockLost q m s) := by
  unfold execLaneLockLost
  repeat' first | with_reducible assumption | with_reducible exact Within.refl _ _ | with_reducible apply WithinO.of_next ?_ | ((with_reducible apply Within.step (State.lockLost_within ..) ?_ ?_); exact rfl) | split | fail

theorem State.heartbeat_within (s : State) (p : Nat) : Within 0x40022 s (State.heartbeat s p) := by
  unfold State.heartbeat
  repeat' first | with_reducible assumption | with_reducible exact Within.refl _ _ | ((try lift_lets -underBinder); intro x1; first | (have h0 := fun a => x1 a; clear h0; unfold x1; clear x1) | (refine Within.cut (m := 0x40022) (s := s) (v := x1) ?_ ?_; unfold x1; rotate_left; intro h1; clear_value x1) | (refine Within.cut (m := 0x40022) (s := s) (v := x1.1) ?_ ?_; unfold x1; rotate_left; intro h1; clear_value x1) | clear_value x1 | (refine Within.cut (m := 0x40022) (s := s) (v := x1) ?_ ?_; unfold x1; rotate_left; intro h1) | (refine Within.cut (m := 0x40022) (s := s) (v := x1.1) ?_ ?_; unfold x1; rotate_left; intro h1) | skip) | ((with_reducible apply Within.step (State.uplink_within ..) ?_ ?_); exact rfl) | ((with_reducible apply Within.step (State.bump_within ..) ?_ ?_); exact rfl) | ((with_reducible apply Within.step (State.putLink_within ..) ?_ ?_); exact rfl) | with_reducible apply Within.of_fst (by assumption) ?_ | split | fail

theorem execHeartbeat_within (p : Fin 16) (s : State) : WithinO 0x40022 s (execHeartbeat p s) := by
  unfold execHeartbeat
  repeat' first | with_reducible assumption | with_reducible exact Within.refl _ _ | with_reducible apply WithinO.of_next ?_ | ((with_reducible apply Within.step (State.heartbeat_within ..) ?_ ?_); exact rfl) | split | fail

theorem execStatusTimeout_within (p : Fin 16) (s : State) : WithinO 0x40022 s (execStatusTimeout p s) := by
  unfold execStatusTimeout
  repeat' first | with_reducible assumption | with_reducible exact Within.refl _ _ | with_reducible apply WithinO.of_next ?_ | ((with_reducible apply Within.step (State.enterBase_within ..) ?_ ?_); exact rfl) | split | fail

theorem execNoCameraTimeout_within (p : Fin 16) (s : State) : WithinO 0x22 s (execNoCameraTimeout p s) := by
  unfold execNoCameraTimeout
  repeat' first | with_reducible assumption | with_reducible exact Within.refl _ _ | with_reducible apply WithinO.of_next ?_ | ((with_reducible apply Within.step (State.linkCmd_within ..) ?_ ?_); exact rfl) | ((with_reducible apply Within.step (State.setFld_within ..) ?_ ?_); exact rfl) | split | fail

theorem execLinkBaseResend_within (p : Fin 16) (s : State) : WithinO 0x20 s (execLinkBaseResend p s) := by
  unfold execLinkBaseResend
  repeat' first | with_reducible assumption | with_reducible exact Within.refl _ _ | with_reducible apply WithinO.of_next ?_ | ((with_reducible apply Within.step (State.linkCmd_within ..) ?_ ?_); exact rfl) | split | fail

theorem execLockTimeout_within (p : Fin 16) (s : State) : WithinO 0x410000033 s (execLockTimeout p s) := by
  unfold execLockTimeout
  repeat' first | with_reducible assumption | with_reducible exact Within.refl _ _ | with_reducible apply WithinO.of_next ?_ | ((with_reducible apply Within.step (State.failLink_within ..) ?_ ?_); exact rfl) | split | fail

theorem execTrainTimeout_within (p : Fin 16) (s : State) : WithinO 0x410000033 s (execTrainTimeout p s) := by
  unfold execTrainTimeout
  repeat' first | with_reducible assumption | with_reducible exact Within.refl _ _ | with_reducible apply WithinO.of_next ?_ | ((with_reducible apply Within.step (State.failLink_within ..) ?_ ?_); exact rfl) | split | fail

theorem execAlignTimeout_within (p : Fin 16) (s : State) : WithinO 0x410000033 s (execAlignTimeout p s) := by
  unfold execAlignTimeout
  repeat' first | with_reducible assumption | with_reducible exact Within.refl _ _ | with_reducible apply WithinO.of_next ?_ | ((with_reducible apply Within.step (State.failLink_within ..) ?_ ?_); exact rfl) | split | fail

theorem execFailedRetry_within (p : Fin 16) (s : State) : WithinO 0x40022 s (execFailedRetry p s) := by
  unfold execFailedRetry
  repeat' first | with_reducible assumption | with_reducible exact Within.refl _ _ | with_reducible apply WithinO.of_next ?_ | ((with_reducible apply Within.step (State.enterBase_within ..) ?_ ?_); exact rfl) | split | fail

theorem State.camAcc_within (s : State) (p : Nat) (w : Sys2Proof.Word) : Within 0x4002e s (State.camAcc s p w) := by
  unfold State.camAcc
  repeat' first | with_reducible assumption | with_reducible exact Within.refl _ _ | ((try lift_lets -underBinder); intro x1; first | (have h0 := fun a => x1 a; clear h0; unfold x1; clear x1) | (refine Within.cut (m := 0x4002e) (s := s) (v := x1) ?_ ?_; unfold x1; rotate_left; intro h1; clear_value x1) | (refine Within.cut (m := 0x4002e) (s := s) (v := x1.1) ?_ ?_; unfold x1; rotate_left; intro h1; clear_value x1) | clear_value x1 | (refine Within.cut (m := 0x4002e) (s := s) (v := x1) ?_ ?_; unfold x1; rotate_left; intro h1) | (refine Within.cut (m := 0x4002e) (s := s) (v := x1.1) ?_ ?_; unfold x1; rotate_left; intro h1) | skip) | ((with_reducible apply Within.step (State.nextRequest_within ..) ?_ ?_); exact rfl) | ((with_reducible apply Within.step (State.writeReg_within ..) ?_ ?_); exact rfl) | ((with_reducible apply Within.step (State.putLink_within ..) ?_ ?_); exact rfl) | ((with_reducible apply Within.step (State.setFld_within ..) ?_ ?_); exact rfl) | with_reducible apply Within.of_fst (by assumption) ?_ | split | fail

theorem execCamAccGo_within (o : Owner) (p : Fin 16) (w : Word) (s : State) : WithinO 0x100004002e s (execCamAccGo o p w s) := by
  unfold execCamAccGo
  repeat' first | with_reducible assumption | with_reducible exact Within.refl _ _ | with_reducible apply WithinO.of_next ?_ | ((with_reducible apply Within.step (State.camAcc_within ..) ?_ ?_); exact rfl) | ((with_reducible apply State.guarded_within ?_ ?_ ?_); exact rfl; intro x1 h1) | split | fail

theorem State.camEnd_within (s : State) (p : Nat) (result : Nat) : Within 0x2 s (State.camEnd s p result) := by
  unfold State.camEnd
  repeat' first | with_reducible assumption | with_reducible exact Within.refl _ _ | ((with_reducible apply Within.step (State.setFld_within ..) ?_ ?_); exact rfl) | split | fail

theorem State.camTimeout_within (s : State) (p : Nat) : Within 0x40022 s (State.camTimeout s p) := by
  unfold State.camTimeout
  repeat' first | with_reducible assumption | with_reducible exact Within.refl _ _ | ((try lift_lets -underBinder); intro x1; first | (have h0 := fun a => x1 a; clear h0; unfold x1; clear x1) | (refine Within.cut (m := 0x40022) (s := s) (v := x1) ?_ ?_; unfold x1; rotate_left; intro h1; clear_value x1) | (refine Within.cut (m := 0x40022) (s := s) (v := x1.1) ?_ ?_; unfold x1; rotate_left; intro h1; clear_value x1) | clear_value x1 | (refine Within.cut (m := 0x40022) (s := s) (v := x1) ?_ ?_; unfold x1; rotate_left; intro h1) | (refine Within.cut (m := 0x40022) (s := s) (v := x1.1) ?_ ?_; unfold x1; rotate_left; intro h1) | skip) | ((with_reducible apply Within.step (State.camEnd_within ..) ?_ ?_); exact rfl) | ((with_reducible apply Within.step (State.nextRequest_within ..) ?_ ?_); exact rfl) | ((with_reducible apply Within.step (State.putLink_within ..) ?_ ?_); exact rfl) | ((with_reducible apply Within.step (State.bump_within ..) ?_ ?_); exact rfl) | with_reducible apply Within.of_fst (by assumption) ?_ | split | fail

theorem execCamRegTimeout_within (p : Fin 16) (s : State) : WithinO 0x40022 s (execCamRegTimeout p s) := by
  unfold execCamRegTimeout
  repeat' first | with_reducible assumption | with_reducible exact Within.refl _ _ | with_reducible apply WithinO.of_next ?_ | ((with_reducible apply Within.step (State.camTimeout_within ..) ?_ ?_); exact rfl) | split | fail

theorem State.regResp_within (s : State) (p : Nat) (tag : Nat) (result : Nat) (data : Nat) : Within 0x410044033 s (State.regResp s p tag result data) := by
  unfold State.regResp
  repeat' first | with_reducible assumption | with_reducible exact Within.refl _ _ | ((try lift_lets -underBinder); intro x1; first | (have h0 := fun a => x1 a; clear h0; unfold x1; clear x1) | (refine Within.cut (m := 0x410044033) (s := s) (v := x1) ?_ ?_; unfold x1; rotate_left; intro h1; clear_value x1) | (refine Within.cut (m := 0x410044033) (s := s) (v := x1.1) ?_ ?_; unfold x1; rotate_left; intro h1; clear_value x1) | clear_value x1 | (refine Within.cut (m := 0x410044033) (s := s) (v := x1) ?_ ?_; unfold x1; rotate_left; intro h1) | (refine Within.cut (m := 0x410044033) (s := s) (v := x1.1) ?_ ?_; unfold x1; rotate_left; intro h1) | skip) | ((with_reducible apply Within.step (State.camEnd_within ..) ?_ ?_); exact rfl) | ((with_reducible apply Within.step (State.capsCheck_within ..) ?_ ?_); exact rfl) | ((with_reducible apply Within.step (State.nextRequest_within ..) ?_ ?_); exact rfl) | ((with_reducible apply Within.step (State.putLink_within ..) ?_ ?_); exact rfl) | ((with_reducible apply Within.step (State.wr_within ..) ?_ ?_); exact rfl) | with_reducible apply Within.of_fst (by assumption) ?_ | split | fail

theorem State.camStatus_within (s : State) (p : Nat) (flags : Nat) : Within 0x4002 s (State.camStatus s p flags) := by
  unfold State.camStatus
  repeat' first | with_reducible assumption | with_reducible exact Within.refl _ _ | ((try lift_lets -underBinder); intro x1; first | (have h0 := fun a => x1 a; clear h0; unfold x1; clear x1) | (refine Within.cut (m := 0x4002) (s := s) (v := x1) ?_ ?_; unfold x1; rotate_left; intro h1; clear_value x1) | (refine Within.cut (m := 0x4002) (s := s) (v := x1.1) ?_ ?_; unfold x1; rotate_left; intro h1; clear_value x1) | clear_value x1 | (refine Within.cut (m := 0x4002) (s := s) (v := x1) ?_ ?_; unfold x1; rotate_left; intro h1) | (refine Within.cut (m := 0x4002) (s := s) (v := x1.1) ?_ ?_; unfold x1; rotate_left; intro h1) | skip) | ((with_reducible apply Within.step (State.raiseNow_within ..) ?_ ?_); exact rfl) | ((with_reducible apply Within.step (State.setFld_within ..) ?_ ?_); exact rfl) | split | fail

theorem State.statusIn_within (s : State) (p : Nat) (flags : Nat) (temp : Nat) (ulErr : Nat) (count : Nat) : Within 0x44002 s (State.statusIn s p flags temp ulErr count) := by
  unfold State.statusIn
  repeat' first | with_reducible assumption | with_reducible exact Within.refl _ _ | ((try lift_lets -underBinder); intro x1; first | (have h0 := fun a => x1 a; clear h0; unfold x1; clear x1) | (refine Within.cut (m := 0x44002) (s := s) (v := x1) ?_ ?_; unfold x1; rotate_left; intro h1; clear_value x1) | (refine Within.cut (m := 0x44002) (s := s) (v := x1.1) ?_ ?_; unfold x1; rotate_left; intro h1; clear_value x1) | clear_value x1 | (refine Within.cut (m := 0x44002) (s := s) (v := x1) ?_ ?_; unfold x1; rotate_left; intro h1) | (refine Within.cut (m := 0x44002) (s := s) (v := x1.1) ?_ ?_; unfold x1; rotate_left; intro h1) | skip) | ((with_reducible apply Within.step (State.camStatus_within ..) ?_ ?_); exact rfl) | ((with_reducible apply Within.step (State.putLink_within ..) ?_ ?_); exact rfl) | ((with_reducible apply Within.step (State.setFld_within ..) ?_ ?_); exact rfl) | split | fail

theorem State.handback_within (s : State) (q : Nat) : Within 0x40002 s (State.handback s q) := by
  unfold State.handback
  repeat' first | with_reducible assumption | with_reducible exact Within.refl _ _ | ((try lift_lets -underBinder); intro x1; first | (have h0 := fun a => x1 a; clear h0; unfold x1; clear x1) | (refine Within.cut (m := 0x40002) (s := s) (v := x1) ?_ ?_; unfold x1; rotate_left; intro h1; clear_value x1) | (refine Within.cut (m := 0x40002) (s := s) (v := x1.1) ?_ ?_; unfold x1; rotate_left; intro h1; clear_value x1) | clear_value x1 | (refine Within.cut (m := 0x40002) (s := s) (v := x1) ?_ ?_; unfold x1; rotate_left; intro h1) | (refine Within.cut (m := 0x40002) (s := s) (v := x1.1) ?_ ?_; unfold x1; rotate_left; intro h1) | skip) | ((with_reducible apply Within.step (State.putJk_within ..) ?_ ?_); exact rfl) | ((with_reducible apply Within.step (State.setFld_within ..) ?_ ?_); exact rfl) | with_reducible apply Within.of_fst (by assumption) ?_ | split | fail

theorem State.takeover_within (s : State) (q : Nat) : Within 0x410044033 s (State.takeover s q) := by
  unfold State.takeover
  repeat' first | with_reducible assumption | with_reducible exact Within.refl _ _ | ((try lift_lets -underBinder); intro x1; first | (have h0 := fun a => x1 a; clear h0; unfold x1; clear x1) | (refine Within.cut (m := 0x410044033) (s := s) (v := x1) ?_ ?_; unfold x1; rotate_left; intro h1; clear_value x1) | (refine Within.cut (m := 0x410044033) (s := s) (v := x1.1) ?_ ?_; unfold x1; rotate_left; intro h1; clear_value x1) | clear_value x1 | (refine Within.cut (m := 0x410044033) (s := s) (v := x1) ?_ ?_; unfold x1; rotate_left; intro h1) | (refine Within.cut (m := 0x410044033) (s := s) (v := x1.1) ?_ ?_; unfold x1; rotate_left; intro h1) | skip) | ((with_reducible apply Within.step (State.substitute_within ..) ?_ ?_); exact rfl) | ((with_reducible apply Within.step (State.bump_within ..) ?_ ?_); exact rfl) | ((with_reducible apply Within.step (State.putJk_within ..) ?_ ?_); exact rfl) | ((with_reducible apply Within.step (State.setFld_within ..) ?_ ?_); exact rfl) | split | fail

theorem State.jkSettle_within (s : State) (q : Nat) : Within 0x40000 s (State.jkSettle s q) := by
  unfold State.jkSettle
  repeat' first | with_reducible assumption | with_reducible exact Within.refl _ _ | ((try lift_lets -underBinder); intro x1; first | (have h0 := fun a => x1 a; clear h0; unfold x1; clear x1) | (refine Within.cut (m := 0x40000) (s := s) (v := x1) ?_ ?_; unfold x1; rotate_left; intro h1; clear_value x1) | (refine Within.cut (m := 0x40000) (s := s) (v := x1.1) ?_ ?_; unfold x1; rotate_left; intro h1; clear_value x1) | clear_value x1 | (refine Within.cut (m := 0x40000) (s := s) (v := x1) ?_ ?_; unfold x1; rotate_left; intro h1) | (refine Within.cut (m := 0x40000) (s := s) (v := x1.1) ?_ ?_; unfold x1; rotate_left; intro h1) | skip) | ((with_reducible apply Within.step (State.putJk_within ..) ?_ ?_); exact rfl) | split | fail

theorem State.jkConnect_within (s : State) (q : Nat) (m : Nat) : Within 0x40002 s (State.jkConnect s q m) := by
  unfold State.jkConnect
  repeat' first | with_reducible assumption | with_reducible exact Within.refl _ _ | ((try lift_lets -underBinder); intro x1; first | (have h0 := fun a => x1 a; clear h0; unfold x1; clear x1) | (refine Within.cut (m := 0x40002) (s := s) (v := x1) ?_ ?_; unfold x1; rotate_left; intro h1; clear_value x1) | (refine Within.cut (m := 0x40002) (s := s) (v := x1.1) ?_ ?_; unfold x1; rotate_left; intro h1; clear_value x1) | clear_value x1 | (refine Within.cut (m := 0x40002) (s := s) (v := x1) ?_ ?_; unfold x1; rotate_left; intro h1) | (refine Within.cut (m := 0x40002) (s := s) (v := x1.1) ?_ ?_; unfold x1; rotate_left; intro h1) | skip) | ((with_reducible apply Within.step (State.putCodes_within ..) ?_ ?_); exact rfl) | ((with_reducible apply Within.step (State.setFld_within ..) ?_ ?_); exact rfl) | split | fail

theorem State.startRecal_within (s : State) (q : Nat) (m : Nat) (force : Bool) : Within 0x40002 s (State.startRecal s q m force) := by
  unfold State.startRecal
  repeat' first | with_reducible assumption | with_reducible exact Within.refl _ _ | ((try lift_lets -underBinder); intro x1; first | (have h0 := fun a => x1 a; clear h0; unfold x1; clear x1) | (refine Within.cut (m := 0x40002) (s := s) (v := x1) ?_ ?_; unfold x1; rotate_left; intro h1; clear_value x1) | (refine Within.cut (m := 0x40002) (s := s) (v := x1.1) ?_ ?_; unfold x1; rotate_left; intro h1; clear_value x1) | clear_value x1 | (refine Within.cut (m := 0x40002) (s := s) (v := x1) ?_ ?_; unfold x1; rotate_left; intro h1) | (refine Within.cut (m := 0x40002) (s := s) (v := x1.1) ?_ ?_; unfold x1; rotate_left; intro h1) | skip) | ((with_reducible apply Within.step (State.jkConnect_within ..) ?_ ?_); exact rfl) | ((with_reducible apply Within.step (State.putJk_within ..) ?_ ?_); exact rfl) | with_reducible apply Within.of_fst (by assumption) ?_ | split | fail

theorem State.nextRecal_within (s : State) (q : Nat) : Within 0x40002 s (State.nextRecal s q) := by
  unfold State.nextRecal
  repeat' first | with_reducible assumption | with_reducible exact Within.refl _ _ | ((try lift_lets -underBinder); intro x1; first | (have h0 := fun a => x1 a; clear h0; unfold x1; clear x1) | (refine Within.cut (m := 0x40002) (s := s) (v := x1) ?_ ?_; unfold x1; rotate_left; intro h1; clear_value x1) | (refine Within.cut (m := 0x40002) (s := s) (v := x1.1) ?_ ?_; unfold x1; rotate_left; intro h1; clear_value x1) | clear_value x1 | (refine Within.cut (m := 0x40002) (s := s) (v := x1) ?_ ?_; unfold x1; rotate_left; intro h1) | (refine Within.cut (m := 0x40002) (s := s) (v := x1.1) ?_ ?_; unfold x1; rotate_left; intro h1) | skip) | ((with_reducible apply Within.step (State.startRecal_within ..) ?_ ?_); exact rfl) | ((with_reducible apply Within.step (State.jkSettle_within ..) ?_ ?_); exact rfl) | ((with_reducible apply Within.step (State.putJk_within ..) ?_ ?_); exact rfl) | with_reducible apply Within.of_fst (by assumption) ?_ | split | fail

theorem State.requestRecal_within (s : State) (q : Nat) (m : Nat) : Within 0x40022 s (State.requestRecal s q m) := by
  unfold State.requestRecal
  repeat' first | with_reducible assumption | with_reducible exact Within.refl _ _ | ((try lift_lets -underBinder); intro x1; first | (have h0 := fun a => x1 a; clear h0; unfold x1; clear x1) | (refine Within.cut (m := 0x40022) (s := s) (v := x1) ?_ ?_; unfold x1; rotate_left; intro h1; clear_value x1) | (refine Within.cut (m := 0x40022) (s := s) (v := x1.1) ?_ ?_; unfold x1; rotate_left; intro h1; clear_value x1) | clear_value x1 | (refine Within.cut (m := 0x40022) (s := s) (v := x1) ?_ ?_; unfold x1; rotate_left; intro h1) | (refine Within.cut (m := 0x40022) (s := s) (v := x1.1) ?_ ?_; unfold x1; rotate_left; intro h1) | skip) | ((with_reducible apply Within.step (State.nextRecal_within ..) ?_ ?_); exact rfl) | ((with_reducible apply Within.step (State.putJk_within ..) ?_ ?_); exact rfl) | ((with_reducible apply Within.step (State.enterBase_within ..) ?_ ?_); exact rfl) | ((with_reducible apply Within.step (State.setFld_within ..) ?_ ?_); exact rfl) | split | fail

theorem State.jkReady_within (s : State) (q : Nat) : Within 0x40002 s (State.jkReady s q) := by
  unfold State.jkReady
  repeat' first | with_reducible assumption | with_reducible exact Within.refl _ _ | ((try lift_lets -underBinder); intro x1; first | (have h0 := fun a => x1 a; clear h0; unfold x1; clear x1) | (refine Within.cut (m := 0x40002) (s := s) (v := x1) ?_ ?_; unfold x1; rotate_left; intro h1; clear_value x1) | (refine Within.cut (m := 0x40002) (s := s) (v := x1.1) ?_ ?_; unfold x1; rotate_left; intro h1; clear_value x1) | clear_value x1 | (refine Within.cut (m := 0x40002) (s := s) (v := x1) ?_ ?_; unfold x1; rotate_left; intro h1) | (refine Within.cut (m := 0x40002) (s := s) (v := x1.1) ?_ ?_; unfold x1; rotate_left; intro h1) | skip) | ((with_reducible apply Within.step (State.nextRecal_within ..) ?_ ?_); exact rfl) | ((with_reducible apply Within.step (State.jkConnect_within ..) ?_ ?_); exact rfl) | ((with_reducible apply Within.step (State.putJk_within ..) ?_ ?_); exact rfl) | with_reducible apply Within.of_fst (by assumption) ?_ | split | fail

theorem State.jkFail_within (s : State) (q : Nat) : Within 0x410040033 s (State.jkFail s q) := by
  unfold State.jkFail
  repeat' first | with_reducible assumption | with_reducible exact Within.refl _ _ | ((try lift_lets -underBinder); intro x1; first | (have h0 := fun a => x1 a; clear h0; unfold x1; clear x1) | (refine Within.cut (m := 0x410040033) (s := s) (v := x1) ?_ ?_; unfold x1; rotate_left; intro h1; clear_value x1) | (refine Within.cut (m := 0x410040033) (s := s) (v := x1.1) ?_ ?_; unfold x1; rotate_left; intro h1; clear_value x1) | clear_value x1 | (refine Within.cut (m := 0x410040033) (s := s) (v := x1) ?_ ?_; unfold x1; rotate_left; intro h1) | (refine Within.cut (m := 0x410040033) (s := s) (v := x1.1) ?_ ?_; unfold x1; rotate_left; intro h1) | skip) | ((with_reducible apply Within.step (State.dropWaiting_within ..) ?_ ?_); exact rfl) | ((with_reducible apply Within.step (State.putJk_within ..) ?_ ?_); exact rfl) | ((with_reducible apply Within.step (State.setFld_within ..) ?_ ?_); exact rfl) | ((with_reducible apply Within.step (State.logMinor_within ?_) ?_ ?_); decide; exact rfl) | with_reducible apply Within.of_fst (by assumption) ?_ | split | fail

theorem State.jokerMarker_within (s : State) (q : Nat) : Within 0x410044033 s (State.jokerMarker s q) := by
  unfold State.jokerMarker
  repeat' first | with_reducible assumption | with_reducible exact Within.refl _ _ | ((with_reducible apply Within.step (State.nextRecal_within ..) ?_ ?_); exact rfl) | ((with_reducible apply Within.step (State.takeover_within ..) ?_ ?_); exact rfl) | ((with_reducible apply Within.step (State.handback_within ..) ?_ ?_); exact rfl) | with_reducible apply Within.of_fst (by assumption) ?_ | split | fail

theorem State.alignMarker_within (s : State) (p : Nat) (marks : List (Option (Nat × Nat))) : Within 0x410044033 s (State.alignMarker s p marks) := by
  unfold State.alignMarker
  repeat' first | with_reducible assumption | with_reducible exact Within.refl _ _ | ((try lift_lets -underBinder); intro x1; first | (have h0 := fun a => x1 a; clear h0; unfold x1; clear x1) | (refine Within.cut (m := 0x410044033) (s := s) (v := x1) ?_ ?_; unfold x1; rotate_left; intro h1; clear_value x1) | (refine Within.cut (m := 0x410044033) (s := s) (v := x1.1) ?_ ?_; unfold x1; rotate_left; intro h1; clear_value x1) | clear_value x1 | (refine Within.cut (m := 0x410044033) (s := s) (v := x1) ?_ ?_; unfold x1; rotate_left; intro h1) | (refine Within.cut (m := 0x410044033) (s := s) (v := x1.1) ?_ ?_; unfold x1; rotate_left; intro h1) | skip) | ((with_reducible apply Within.step (State.jokerMarker_within ..) ?_ ?_); exact rfl) | ((with_reducible apply Within.step (State.linkCmd_within ..) ?_ ?_); exact rfl) | ((with_reducible apply Within.step (State.bump_within ..) ?_ ?_); exact rfl) | ((with_reducible apply Within.step (State.putLink_within ..) ?_ ?_); exact rfl) | ((with_reducible apply Within.step (State.setLink_within ..) ?_ ?_); exact rfl) | ((with_reducible apply Within.step (State.setFld_within ..) ?_ ?_); exact rfl) | with_reducible apply Within.of_fst (by assumption) ?_ | ((with_reducible apply Within.foldl ?_ ?_); rotate_left; intro x1 x2 h1) | ((with_reducible apply Within.foldl_fst ?_ ?_); rotate_left; intro x1 x2 h1) | split | fail

theorem execAlignMarker_within (p : Fin 16) (marks : List (Option (Nat × Nat))) (s : State) : WithinO 0x410044033 s (execAlignMarker p marks s) := by
  unfold execAlignMarker
  repeat' first | with_reducible assumption | with_reducible exact Within.refl _ _ | with_reducible apply WithinO.of_next ?_ | ((with_reducible apply Within.step (State.alignMarker_within ..) ?_ ?_); exact rfl) | split | fail

theorem State.eyeScan_within (s : State) (q : Nat) (m : Nat) (r : Sys2Proof.EyeResult) (codes : Sys2Proof.EqCodes) : Within 0x44022 s (State.eyeScan s q m r codes) := by
  unfold State.eyeScan
  repeat' first | with_reducible assumption | with_reducible exact Within.refl _ _ | ((try lift_lets -underBinder); intro x1; first | (have h0 := fun a => x1 a; clear h0; unfold x1; clear x1) | (refine Within.cut (m := 0x44022) (s := s) (v := x1) ?_ ?_; unfold x1; rotate_left; intro h1; clear_value x1) | (refine Within.cut (m := 0x44022) (s := s) (v := x1.1) ?_ ?_; unfold x1; rotate_left; intro h1; clear_value x1) | clear_value x1 | (refine Within.cut (m := 0x44022) (s := s) (v := x1) ?_ ?_; unfold x1; rotate_left; intro h1) | (refine Within.cut (m := 0x44022) (s := s) (v := x1.1) ?_ ?_; unfold x1; rotate_left; intro h1) | skip) | ((with_reducible apply Within.step (State.requestRecal_within ..) ?_ ?_); exact rfl) | ((with_reducible apply Within.step (State.jkConnect_within ..) ?_ ?_); exact rfl) | ((with_reducible apply Within.step (State.jkSettle_within ..) ?_ ?_); exact rfl) | ((with_reducible apply Within.step (State.putCodes_within ..) ?_ ?_); exact rfl) | ((with_reducible apply Within.step (State.raiseNow_within ..) ?_ ?_); exact rfl) | ((with_reducible apply Within.step (State.setBit_within ..) ?_ ?_); exact rfl) | ((with_reducible apply Within.step (State.setFld_within ..) ?_ ?_); exact rfl) | split | fail

theorem execEyeScanDone_within (q : Fin 16) (m : Fin 4) (x : Sys2Proof.EyeScan) (s : State) : WithinO 0x44022 s (execEyeScanDone q m x s) := by
  unfold execEyeScanDone
  repeat' first | with_reducible assumption | with_reducible exact Within.refl _ _ | with_reducible apply WithinO.of_next ?_ | ((with_reducible apply Within.step (State.eyeScan_within ..) ?_ ?_); exact rfl) | split | fail

theorem execRecalPeriod_within (q : Fin 16) (m : Fin 4) (s : State) : WithinO 0x40022 s (execRecalPeriod q m s) := by
  unfold execRecalPeriod
  repeat' first | with_reducible assumption | with_reducible exact Within.refl _ _ | with_reducible apply WithinO.of_next ?_ | ((with_reducible apply Within.step (State.requestRecal_within ..) ?_ ?_); exact rfl) | split | fail

theorem State.jkRelease_within (s : State) (q : Nat) : Within 0x40000 s (State.jkRelease s q) := by
  unfold State.jkRelease
  repeat' first | with_reducible assumption | with_reducible exact Within.refl _ _ | ((with_reducible apply Within.step (State.putJk_within ..) ?_ ?_); exact rfl) | split | fail

theorem State.jkForce_within (s : State) (q : Nat) (m : Nat) : Within 0x410044033 s (State.jkForce s q m) := by
  unfold State.jkForce
  repeat' first | with_reducible assumption | with_reducible exact Within.refl _ _ | ((try lift_lets -underBinder); intro x1; first | (have h0 := fun a => x1 a; clear h0; unfold x1; clear x1) | (refine Within.cut (m := 0x410044033) (s := s) (v := x1) ?_ ?_; unfold x1; rotate_left; intro h1; clear_value x1) | (refine Within.cut (m := 0x410044033) (s := s) (v := x1.1) ?_ ?_; unfold x1; rotate_left; intro h1; clear_value x1) | clear_value x1 | (refine Within.cut (m := 0x410044033) (s := s) (v := x1) ?_ ?_; unfold x1; rotate_left; intro h1) | (refine Within.cut (m := 0x410044033) (s := s) (v := x1.1) ?_ ?_; unfold x1; rotate_left; intro h1) | skip) | ((with_reducible apply Within.step (State.startRecal_within ..) ?_ ?_); exact rfl) | ((with_reducible apply Within.step (State.substitute_within ..) ?_ ?_); exact rfl) | split | fail

theorem State.jokerCtl_within (s : State) (q : Nat) (w : Sys2Proof.Word) : Within 0x41004403f s (State.jokerCtl s q w) := by
  unfold State.jokerCtl
  repeat' first | with_reducible assumption | with_reducible exact Within.refl _ _ | ((try lift_lets -underBinder); intro x1; first | (have h0 := fun a => x1 a; clear h0; unfold x1; clear x1) | (refine Within.cut (m := 0x41004403f) (s := s) (v := x1) ?_ ?_; unfold x1; rotate_left; intro h1; clear_value x1) | (refine Within.cut (m := 0x41004403f) (s := s) (v := x1.1) ?_ ?_; unfold x1; rotate_left; intro h1; clear_value x1) | clear_value x1 | (refine Within.cut (m := 0x41004403f) (s := s) (v := x1) ?_ ?_; unfold x1; rotate_left; intro h1) | (refine Within.cut (m := 0x41004403f) (s := s) (v := x1.1) ?_ ?_; unfold x1; rotate_left; intro h1) | skip) | ((with_reducible apply Within.step (State.jkForce_within ..) ?_ ?_); exact rfl) | ((with_reducible apply Within.step (State.jkRelease_within ..) ?_ ?_); exact rfl) | ((with_reducible apply Within.step (State.requestRecal_within ..) ?_ ?_); exact rfl) | ((with_reducible apply Within.step (State.jkSettle_within ..) ?_ ?_); exact rfl) | ((with_reducible apply Within.step (State.writeReg_within ..) ?_ ?_); exact rfl) | ((with_reducible apply Within.step (State.putJk_within ..) ?_ ?_); exact rfl) | ((with_reducible apply Within.step (State.setFld_within ..) ?_ ?_); exact rfl) | with_reducible apply Within.of_fst (by assumption) ?_ | ((with_reducible apply Within.foldl ?_ ?_); rotate_left; intro x1 x2 h1) | ((with_reducible apply Within.foldl_fst ?_ ?_); rotate_left; intro x1 x2 h1) | split | fail

theorem execJokerCalNow_within (o : Owner) (q : Fin 16) (w : Word) (s : State) : WithinO 0x141004403f s (execJokerCalNow o q w s) := by
  unfold execJokerCalNow
  repeat' first | with_reducible assumption | with_reducible exact Within.refl _ _ | with_reducible apply WithinO.of_next ?_ | ((with_reducible apply Within.step (State.jokerCtl_within ..) ?_ ?_); exact rfl) | ((with_reducible apply State.guarded_within ?_ ?_ ?_); exact rfl; intro x1 h1) | split | fail

theorem execJokerRelease_within (o : Owner) (q : Fin 16) (w : Word) (s : State) : WithinO 0x141004403f s (execJokerRelease o q w s) := by
  unfold execJokerRelease
  repeat' first | with_reducible assumption | with_reducible exact Within.refl _ _ | with_reducible apply WithinO.of_next ?_ | ((with_reducible apply Within.step (State.jokerCtl_within ..) ?_ ?_); exact rfl) | ((with_reducible apply State.guarded_within ?_ ?_ ?_); exact rfl; intro x1 h1) | split | fail

theorem execJokerForce_within (o : Owner) (q : Fin 16) (w : Word) (s : State) : WithinO 0x141004403f s (execJokerForce o q w s) := by
  unfold execJokerForce
  repeat' first | with_reducible assumption | with_reducible exact Within.refl _ _ | with_reducible apply WithinO.of_next ?_ | ((with_reducible apply Within.step (State.jokerCtl_within ..) ?_ ?_); exact rfl) | ((with_reducible apply State.guarded_within ?_ ?_ ?_); exact rfl; intro x1 h1) | split | fail

theorem State.jokerRun_within (s : State) (q : Nat) (run : Nat) (c : Sys2Proof.EqCodes) : Within 0x40002 s (State.jokerRun s q run c) := by
  unfold State.jokerRun
  repeat' first | with_reducible assumption | with_reducible exact Within.refl _ _ | ((try lift_lets -underBinder); intro x1; first | (have h0 := fun a => x1 a; clear h0; unfold x1; clear x1) | (refine Within.cut (m := 0x40002) (s := s) (v := x1) ?_ ?_; unfold x1; rotate_left; intro h1; clear_value x1) | (refine Within.cut (m := 0x40002) (s := s) (v := x1.1) ?_ ?_; unfold x1; rotate_left; intro h1; clear_value x1) | clear_value x1 | (refine Within.cut (m := 0x40002) (s := s) (v := x1) ?_ ?_; unfold x1; rotate_left; intro h1) | (refine Within.cut (m := 0x40002) (s := s) (v := x1.1) ?_ ?_; unfold x1; rotate_left; intro h1) | skip) | ((with_reducible apply Within.step (State.putCodes_within ..) ?_ ?_); exact rfl) | ((with_reducible apply Within.step (State.putJk_within ..) ?_ ?_); exact rfl) | ((with_reducible apply Within.step (State.setBit_within ..) ?_ ?_); exact rfl) | with_reducible apply Within.of_fst (by assumption) ?_ | split | fail

theorem execJokerMatched_within (x : Sys2Proof.MatchRun) (s : State) : WithinO 0x40002 s (execJokerMatched x s) := by
  unfold execJokerMatched
  repeat' first | with_reducible assumption | with_reducible exact Within.refl _ _ | with_reducible apply WithinO.of_next ?_ | ((with_reducible apply Within.step (State.jokerRun_within ..) ?_ ?_); exact rfl) | split | fail

theorem execJokerMatchTimeout_within (q : Fin 16) (s : State) : WithinO 0x40002 s (execJokerMatchTimeout q s) := by
  unfold execJokerMatchTimeout
  repeat' first | with_reducible assumption | with_reducible exact Within.refl _ _ | with_reducible apply WithinO.of_next ?_ | ((try lift_lets -underBinder); intro x1; first | (have h0 := fun a => x1 a; clear h0; unfold x1; clear x1) | (refine Within.cut (m := 0x40002) (s := s) (v := x1) ?_ ?_; unfold x1; rotate_left; intro h1; clear_value x1) | (refine Within.cut (m := 0x40002) (s := s) (v := x1.1) ?_ ?_; unfold x1; rotate_left; intro h1; clear_value x1) | clear_value x1 | (refine Within.cut (m := 0x40002) (s := s) (v := x1) ?_ ?_; unfold x1; rotate_left; intro h1) | (refine Within.cut (m := 0x40002) (s := s) (v := x1.1) ?_ ?_; unfold x1; rotate_left; intro h1) | skip) | ((with_reducible apply Within.step (State.nextRecal_within ..) ?_ ?_); exact rfl) | ((with_reducible apply Within.step (State.putJk_within ..) ?_ ?_); exact rfl) | ((with_reducible apply Within.step (State.setFld_within ..) ?_ ?_); exact rfl) | with_reducible apply Within.of_fst (by assumption) ?_ | split | fail

theorem State.sliceCalDone_within (s : State) (q : Nat) (m : Nat) (ok : Bool) : Within 0x410044033 s (State.sliceCalDone s q m ok) := by
  unfold State.sliceCalDone
  repeat' first | with_reducible assumption | with_reducible exact Within.refl _ _ | ((try lift_lets -underBinder); intro x1; first | (have h0 := fun a => x1 a; clear h0; unfold x1; clear x1) | (refine Within.cut (m := 0x410044033) (s := s) (v := x1) ?_ ?_; unfold x1; rotate_left; intro h1; clear_value x1) | (refine Within.cut (m := 0x410044033) (s := s) (v := x1.1) ?_ ?_; unfold x1; rotate_left; intro h1; clear_value x1) | clear_value x1 | (refine Within.cut (m := 0x410044033) (s := s) (v := x1) ?_ ?_; unfold x1; rotate_left; intro h1) | (refine Within.cut (m := 0x410044033) (s := s) (v := x1.1) ?_ ?_; unfold x1; rotate_left; intro h1) | skip) | ((with_reducible apply Within.step (State.nextRecal_within ..) ?_ ?_); exact rfl) | ((with_reducible apply Within.step (State.sliceFailed_within ..) ?_ ?_); exact rfl) | ((with_reducible apply Within.step (State.putJk_within ..) ?_ ?_); exact rfl) | split | fail

theorem execMainSliceCalDone_within (q : Fin 16) (m : Fin 4) (ok : Bool) (s : State) : WithinO 0x410044033 s (execMainSliceCalDone q m ok s) := by
  unfold execMainSliceCalDone
  repeat' first | with_reducible assumption | with_reducible exact Within.refl _ _ | with_reducible apply WithinO.of_next ?_ | ((with_reducible apply Within.step (State.sliceCalDone_within ..) ?_ ?_); exact rfl) | split | fail

theorem State.mainRun_within (s : State) (q : Nat) (run : Nat) (c : Sys2Proof.EqCodes) : Within 0x40002 s (State.mainRun s q run c) := by
  unfold State.mainRun
  repeat' first | with_reducible assumption | with_reducible exact Within.refl _ _ | ((try lift_lets -underBinder); intro x1; first | (have h0 := fun a => x1 a; clear h0; unfold x1; clear x1) | (refine Within.cut (m := 0x40002) (s := s) (v := x1) ?_ ?_; unfold x1; rotate_left; intro h1; clear_value x1) | (refine Within.cut (m := 0x40002) (s := s) (v := x1.1) ?_ ?_; unfold x1; rotate_left; intro h1; clear_value x1) | clear_value x1 | (refine Within.cut (m := 0x40002) (s := s) (v := x1) ?_ ?_; unfold x1; rotate_left; intro h1) | (refine Within.cut (m := 0x40002) (s := s) (v := x1.1) ?_ ?_; unfold x1; rotate_left; intro h1) | skip) | ((with_reducible apply Within.step (State.putCodes_within ..) ?_ ?_); exact rfl) | ((with_reducible apply Within.step (State.putJk_within ..) ?_ ?_); exact rfl) | ((with_reducible apply Within.step (State.setBit_within ..) ?_ ?_); exact rfl) | split | fail

theorem execMainSliceMatched_within (x : Sys2Proof.MatchRun) (s : State) : WithinO 0x40002 s (execMainSliceMatched x s) := by
  unfold execMainSliceMatched
  repeat' first | with_reducible assumption | with_reducible exact Within.refl _ _ | with_reducible apply WithinO.of_next ?_ | ((with_reducible apply Within.step (State.mainRun_within ..) ?_ ?_); exact rfl) | split | fail

end Sys2Proof.Machine
end

