-- ==== Sys2Proof/Laws/FrameIntake.lean ====
section
/-!
SUPPORT. Frames of Sys2Proof/Machine/Intake.lean: what each operation there may change.
-/
set_option linter.unusedTactic false
set_option linter.unreachableTactic false

namespace Sys2Proof.Machine

theorem State.putIntk_within (s : State) (p : Nat) (x : Intake) : Within 0x100000 s (State.putIntk s p x) := by
  unfold State.putIntk
  repeat' first | with_reducible assumption | with_reducible exact Within.refl _ _ | split | (apply Within.upd; (dsimp only; try exact rfl); exact ⟨Nat.le_refl _, List.prefix_refl _, Nat.le_refl _, ⟨rfl, rfl, rfl⟩, .inr ⟨rfl, rfl, rfl⟩, .inr rfl, .inr rfl, .inr rfl, .inr rfl, .inr rfl, .inr rfl, .inr rfl, .inr rfl, .inr ⟨rfl, rfl⟩, .inr rfl, .inr rfl, .inr rfl, .inr rfl, .inr rfl, .inr rfl, .inr rfl, .inr rfl, .inr ⟨rfl, rfl, rfl⟩, .inr ⟨rfl, rfl, rfl, rfl, rfl⟩, .inl rfl, .inr ⟨rfl, rfl, rfl⟩, .inr ⟨rfl, rfl⟩, .inr rfl, .inr ⟨rfl, rfl, rfl, rfl⟩, .inr rfl, .inr rfl, .inr rfl, .inr ⟨rfl, rfl, rfl, rfl, rfl⟩, .inr rfl, .inr rfl, .inr ⟨rfl, rfl⟩, .inr ⟨rfl, rfl⟩, .inr rfl, .inr ⟨rfl, rfl⟩, .inr ⟨rfl, rfl, rfl⟩, .inr ⟨rfl, rfl, rfl, rfl⟩⟩) | fail

theorem State.giveBack_within (s : State) (q : Nat) (n : Nat) : Within 0x10000000 s (State.giveBack s q n) := by
  unfold State.giveBack
  repeat' first | with_reducible assumption | with_reducible exact Within.refl _ _ | ((with_reducible apply Within.step (State.setQ_within ..) ?_ ?_); exact rfl) | split | fail

theorem State.dropCredit_within (s : State) (p : Nat) (l : CamLine) : Within 0x10000000 s (State.dropCredit s p l) := by
  unfold State.dropCredit
  repeat' first | with_reducible assumption | with_reducible exact Within.refl _ _ | ((with_reducible apply Within.step (State.giveBack_within ..) ?_ ?_); exact rfl) | with_reducible apply Within.of_fst (by assumption) ?_ | split | fail

theorem State.needCredit_within (s : State) (p : Nat) (n : Nat) (w : Nat) (l : Option CamLine) : Within 0x10000002 s (State.needCredit s p n w l).1 := by
  unfold State.needCredit
  repeat' first | with_reducible assumption | with_reducible exact Within.refl _ _ | ((try lift_lets -underBinder); intro x1; first | (have h0 := fun a => x1 a; clear h0; unfold x1; clear x1) | (refine Within.cut (m := 0x10000002) (s := s) (v := x1) ?_ ?_; unfold x1; rotate_left; intro h1; clear_value x1) | (refine Within.cut (m := 0x10000002) (s := s) (v := x1.1) ?_ ?_; unfold x1; rotate_left; intro h1; clear_value x1) | clear_value x1 | (refine Within.cut (m := 0x10000002) (s := s) (v := x1) ?_ ?_; unfold x1; rotate_left; intro h1) | (refine Within.cut (m := 0x10000002) (s := s) (v := x1.1) ?_ ?_; unfold x1; rotate_left; intro h1) | skip) | ((with_reducible apply Within.step (State.giveBack_within ..) ?_ ?_); exact rfl) | ((with_reducible apply Within.step (State.qRequest_within ..) ?_ ?_); exact rfl) | with_reducible apply Within.of_fst (by assumption) ?_ | split | fail

theorem State.pushLine_within (s : State) (q : Nat) (l : List Nat) (tag : Nat) : Within 0x10000033 s (State.pushLine s q l tag) := by
  unfold State.pushLine
  repeat' first | with_reducible assumption | with_reducible exact Within.refl _ _ | ((with_reducible apply Within.step (State.qPush_within ..) ?_ ?_); exact rfl) | ((with_reducible apply Within.foldl ?_ ?_); rotate_left; intro x1 x2 h1) | ((with_reducible apply Within.foldl_fst ?_ ?_); rotate_left; intro x1 x2 h1) | split | fail

theorem State.putUnit_within (s : State) (p : Nat) (n : Nat) (count : Nat) (words : Nat) (depth : Nat) (b : Body) : Within 0x100000 s (State.putUnit s p n count words depth b) := by
  unfold State.putUnit
  repeat' first | with_reducible assumption | with_reducible exact Within.refl _ _ | ((try lift_lets -underBinder); intro x1; first | (have h0 := fun a => x1 a; clear h0; unfold x1; clear x1) | (refine Within.cut (m := 0x100000) (s := s) (v := x1) ?_ ?_; unfold x1; rotate_left; intro h1; clear_value x1) | (refine Within.cut (m := 0x100000) (s := s) (v := x1.1) ?_ ?_; unfold x1; rotate_left; intro h1; clear_value x1) | clear_value x1 | (refine Within.cut (m := 0x100000) (s := s) (v := x1) ?_ ?_; unfold x1; rotate_left; intro h1) | (refine Within.cut (m := 0x100000) (s := s) (v := x1.1) ?_ ?_; unfold x1; rotate_left; intro h1) | skip) | ((with_reducible apply Within.step (State.putIntk_within ..) ?_ ?_); exact rfl) | with_reducible apply Within.of_fst (by assumption) ?_ | split | fail

theorem State.flushGap_within (s : State) (p : Nat) : Within 0xc15d7d833 s (State.flushGap s p) := by
  unfold State.flushGap
  repeat' first | with_reducible assumption | with_reducible exact Within.refl _ _ | ((try lift_lets -underBinder); intro x1; first | (have h0 := fun a => x1 a; clear h0; unfold x1; clear x1) | (refine Within.cut (m := 0xc15d7d833) (s := s) (v := x1) ?_ ?_; unfold x1; rotate_left; intro h1; clear_value x1) | (refine Within.cut (m := 0xc15d7d833) (s := s) (v := x1.1) ?_ ?_; unfold x1; rotate_left; intro h1; clear_value x1) | clear_value x1 | (refine Within.cut (m := 0xc15d7d833) (s := s) (v := x1) ?_ ?_; unfold x1; rotate_left; intro h1) | (refine Within.cut (m := 0xc15d7d833) (s := s) (v := x1.1) ?_ ?_; unfold x1; rotate_left; intro h1) | skip) | ((with_reducible apply Within.step (State.putUnit_within ..) ?_ ?_); exact rfl) | ((with_reducible apply Within.step (State.qRequest_within ..) ?_ ?_); exact rfl) | ((with_reducible apply Within.step (State.pushLine_within ..) ?_ ?_); exact rfl) | ((with_reducible apply Within.step (State.putIntk_within ..) ?_ ?_); exact rfl) | ((with_reducible apply Within.step (State.logErr_within ..) ?_ ?_); exact rfl) | with_reducible apply Within.of_fst (by assumption) ?_ | split | fail

theorem State.lineLost_within (s : State) (p : Nat) (n : Nat) : Within 0x410100033 s (State.lineLost s p n) := by
  unfold State.lineLost
  repeat' first | with_reducible assumption | with_reducible exact Within.refl _ _ | ((try lift_lets -underBinder); intro x1; first | (have h0 := fun a => x1 a; clear h0; unfold x1; clear x1) | (refine Within.cut (m := 0x410100033) (s := s) (v := x1) ?_ ?_; unfold x1; rotate_left; intro h1; clear_value x1) | (refine Within.cut (m := 0x410100033) (s := s) (v := x1.1) ?_ ?_; unfold x1; rotate_left; intro h1; clear_value x1) | clear_value x1 | (refine Within.cut (m := 0x410100033) (s := s) (v := x1) ?_ ?_; unfold x1; rotate_left; intro h1) | (refine Within.cut (m := 0x410100033) (s := s) (v := x1.1) ?_ ?_; unfold x1; rotate_left; intro h1) | skip) | ((with_reducible apply Within.step (State.putIntk_within ..) ?_ ?_); exact rfl) | ((with_reducible apply Within.step (State.lineMinor_within ?_) ?_ ?_); decide; exact rfl) | with_reducible apply Within.of_fst (by assumption) ?_ | split | fail

theorem State.ffLine_within (s : State) (p : Nat) (n : Nat) (b : Body) : Within 0x100002 s (State.ffLine s p n b) := by
  unfold State.ffLine
  repeat' first | with_reducible assumption | with_reducible exact Within.refl _ _ | ((try lift_lets -underBinder); intro x1; first | (have h0 := fun a => x1 a; clear h0; unfold x1; clear x1) | (refine Within.cut (m := 0x100002) (s := s) (v := x1) ?_ ?_; unfold x1; rotate_left; intro h1; clear_value x1) | (refine Within.cut (m := 0x100002) (s := s) (v := x1.1) ?_ ?_; unfold x1; rotate_left; intro h1; clear_value x1) | clear_value x1 | (refine Within.cut (m := 0x100002) (s := s) (v := x1) ?_ ?_; unfold x1; rotate_left; intro h1) | (refine Within.cut (m := 0x100002) (s := s) (v := x1.1) ?_ ?_; unfold x1; rotate_left; intro h1) | skip) | ((with_reducible apply Within.step (State.setFld_within ..) ?_ ?_); exact rfl) | with_reducible apply Within.of_fst (by assumption) ?_ | ((with_reducible apply Within.foldl ?_ ?_); rotate_left; intro x1 x2 h1) | ((with_reducible apply Within.foldl_fst ?_ ?_); rotate_left; intro x1 x2 h1) | split | (apply Within.upd; (dsimp only; try exact rfl); exact ⟨Nat.le_refl _, List.prefix_refl _, Nat.le_refl _, ⟨rfl, rfl, rfl⟩, .inr ⟨rfl, rfl, rfl⟩, .inl rfl, .inr rfl, .inr rfl, .inr rfl, .inr rfl, .inr rfl, .inr rfl, .inr rfl, .inr ⟨rfl, rfl⟩, .inr rfl, .inr rfl, .inr rfl, .inr rfl, .inr rfl, .inr rfl, .inr rfl, .inr rfl, .inr ⟨rfl, rfl, rfl⟩, .inr ⟨rfl, rfl, rfl, rfl, rfl⟩, .inl rfl, .inr ⟨rfl, rfl, rfl⟩, .inr ⟨rfl, rfl⟩, .inr rfl, .inr ⟨rfl, rfl, rfl, rfl⟩, .inr rfl, .inr rfl, .inr rfl, .inr ⟨rfl, rfl, rfl, rfl, rfl⟩, .inr rfl, .inr rfl, .inr ⟨rfl, rfl⟩, .inr ⟨rfl, rfl⟩, .inr rfl, .inr ⟨rfl, rfl⟩, .inr ⟨rfl, rfl, rfl⟩, .inr ⟨rfl, rfl, rfl, rfl⟩⟩) | fail

theorem State.deliver_within (s : State) (p : Nat) (n : Nat) (l : Option CamLine) : Within 0xc15d7d8b3 s (State.deliver s p n l) := by
  unfold State.deliver
  repeat' first | with_reducible assumption | with_reducible exact Within.refl _ _ | ((try lift_lets -underBinder); intro x1; first | (have h0 := fun a => x1 a; clear h0; unfold x1; clear x1) | (refine Within.cut (m := 0xc15d7d8b3) (s := s) (v := x1) ?_ ?_; unfold x1; rotate_left; intro h1; clear_value x1) | (refine Within.cut (m := 0xc15d7d8b3) (s := s) (v := x1.1) ?_ ?_; unfold x1; rotate_left; intro h1; clear_value x1) | clear_value x1 | (refine Within.cut (m := 0xc15d7d8b3) (s := s) (v := x1) ?_ ?_; unfold x1; rotate_left; intro h1) | (refine Within.cut (m := 0xc15d7d8b3) (s := s) (v := x1.1) ?_ ?_; unfold x1; rotate_left; intro h1) | skip) | ((with_reducible apply Within.step (State.ffLine_within ..) ?_ ?_); exact rfl) | ((with_reducible apply Within.step (State.lineLost_within ..) ?_ ?_); exact rfl) | ((with_reducible apply Within.step (State.flushGap_within ..) ?_ ?_); exact rfl) | ((with_reducible apply Within.step (State.putUnit_within ..) ?_ ?_); exact rfl) | ((with_reducible apply Within.step (State.pushLine_within ..) ?_ ?_); exact rfl) | ((with_reducible apply Within.step (State.needCredit_within ..) ?_ ?_); exact rfl) | ((with_reducible apply Within.step (State.dropCredit_within ..) ?_ ?_); exact rfl) | ((with_reducible apply Within.step (State.putIntk_within ..) ?_ ?_); exact rfl) | with_reducible apply Within.of_fst (by assumption) ?_ | split | (apply Within.upd; (dsimp only; try exact rfl); exact ⟨Nat.le_refl _, List.prefix_refl _, (by first | exact Nat.le_refl _ | exact Nat.le_add_right _ _), ⟨rfl, rfl, rfl⟩, .inl rfl, .inl rfl, .inr rfl, .inr rfl, .inl rfl, .inl rfl, .inr rfl, .inl rfl, .inr rfl, .inr ⟨rfl, rfl⟩, .inr rfl, .inl rfl, .inl rfl, .inr rfl, .inl rfl, .inl rfl, .inl rfl, .inl rfl, .inl rfl, .inr ⟨rfl, rfl, rfl, rfl, rfl⟩, .inl rfl, .inr ⟨rfl, rfl, rfl⟩, .inl rfl, .inl rfl, .inl rfl, .inr rfl, .inl rfl, .inr rfl, .inl rfl, .inr rfl, .inr rfl, .inr ⟨rfl, rfl⟩, .inr ⟨rfl, rfl⟩, .inr rfl, .inl rfl, .inl rfl, .inr ⟨rfl, rfl, rfl, rfl⟩⟩) | fail

theorem State.endRun_within (s : State) (p : Nat) : Within 0xc15d7d833 s (State.endRun s p) := by
  unfold State.endRun
  repeat' first | with_reducible assumption | with_reducible exact Within.refl _ _ | ((try lift_lets -underBinder); intro x1; first | (have h0 := fun a => x1 a; clear h0; unfold x1; clear x1) | (refine Within.cut (m := 0xc15d7d833) (s := s) (v := x1) ?_ ?_; unfold x1; rotate_left; intro h1; clear_value x1) | (refine Within.cut (m := 0xc15d7d833) (s := s) (v := x1.1) ?_ ?_; unfold x1; rotate_left; intro h1; clear_value x1) | clear_value x1 | (refine Within.cut (m := 0xc15d7d833) (s := s) (v := x1) ?_ ?_; unfold x1; rotate_left; intro h1) | (refine Within.cut (m := 0xc15d7d833) (s := s) (v := x1.1) ?_ ?_; unfold x1; rotate_left; intro h1) | skip) | ((with_reducible apply Within.step (State.flushGap_within ..) ?_ ?_); exact rfl) | ((with_reducible apply Within.step (State.dropCredit_within ..) ?_ ?_); exact rfl) | ((with_reducible apply Within.step (State.putIntk_within ..) ?_ ?_); exact rfl) | with_reducible apply Within.of_fst (by assumption) ?_ | ((with_reducible apply Within.foldl ?_ ?_); rotate_left; intro x1 x2 h1) | ((with_reducible apply Within.foldl_fst ?_ ?_); rotate_left; intro x1 x2 h1) | split | fail

theorem State.endFound_within (s : State) (v : Nat) (n : Nat) : Within 0x20000 s (State.endFound s v n) := by
  unfold State.endFound
  repeat' first | with_reducible assumption | with_reducible exact Within.refl _ _ | ((try lift_lets -underBinder); intro x1; first | (have h0 := fun a => x1 a; clear h0; unfold x1; clear x1) | (refine Within.cut (m := 0x20000) (s := s) (v := x1) ?_ ?_; unfold x1; rotate_left; intro h1; clear_value x1) | (refine Within.cut (m := 0x20000) (s := s) (v := x1.1) ?_ ?_; unfold x1; rotate_left; intro h1; clear_value x1) | clear_value x1 | (refine Within.cut (m := 0x20000) (s := s) (v := x1) ?_ ?_; unfold x1; rotate_left; intro h1) | (refine Within.cut (m := 0x20000) (s := s) (v := x1.1) ?_ ?_; unfold x1; rotate_left; intro h1) | skip) | ((with_reducible apply Within.step (State.setView_within ..) ?_ ?_); exact rfl) | with_reducible apply Within.of_fst (by assumption) ?_ | split | fail

theorem State.deliverAll_within (s : State) (p : Nat) (y0 : Nat) : Within 0xc1ddfd8b3 s (State.deliverAll s p y0) := by
  induction y0 generalizing s p with
  | zero =>
    unfold State.deliverAll
    repeat' first | with_reducible assumption | with_reducible exact Within.refl _ _ | ((try lift_lets -underBinder); intro x1; first | (have h0 := fun a => x1 a; clear h0; unfold x1; clear x1) | (refine Within.cut (m := 0xc1ddfd8b3) (s := s) (v := x1) ?_ ?_; unfold x1; rotate_left; intro h1; clear_value x1) | (refine Within.cut (m := 0xc1ddfd8b3) (s := s) (v := x1.1) ?_ ?_; unfold x1; rotate_left; intro h1; clear_value x1) | clear_value x1 | (refine Within.cut (m := 0xc1ddfd8b3) (s := s) (v := x1) ?_ ?_; unfold x1; rotate_left; intro h1) | (refine Within.cut (m := 0xc1ddfd8b3) (s := s) (v := x1.1) ?_ ?_; unfold x1; rotate_left; intro h1) | skip) | ((with_reducible apply Within.step (State.endFound_within ..) ?_ ?_); exact rfl) | ((with_reducible apply Within.step (State.endRun_within ..) ?_ ?_); exact rfl) | ((with_reducible apply Within.step (State.enterLine_within ..) ?_ ?_); exact rfl) | ((with_reducible apply Within.step (State.deliver_within ..) ?_ ?_); exact rfl) | ((with_reducible apply Within.step (State.boundary_within ..) ?_ ?_); exact rfl) | ((with_reducible apply Within.step (State.flushGap_within ..) ?_ ?_); exact rfl) | with_reducible apply Within.of_fst (by assumption) ?_ | split | fail
  | succ n ih =>
    unfold State.deliverAll
    repeat' first | with_reducible assumption | with_reducible exact Within.refl _ _ | ((try lift_lets -underBinder); intro x1; first | (have h0 := fun a => x1 a; clear h0; unfold x1; clear x1) | (refine Within.cut (m := 0xc1ddfd8b3) (s := s) (v := x1) ?_ ?_; unfold x1; rotate_left; intro h1; clear_value x1) | (refine Within.cut (m := 0xc1ddfd8b3) (s := s) (v := x1.1) ?_ ?_; unfold x1; rotate_left; intro h1; clear_value x1) | clear_value x1 | (refine Within.cut (m := 0xc1ddfd8b3) (s := s) (v := x1) ?_ ?_; unfold x1; rotate_left; intro h1) | (refine Within.cut (m := 0xc1ddfd8b3) (s := s) (v := x1.1) ?_ ?_; unfold x1; rotate_left; intro h1) | skip) | ((with_reducible apply Within.step (ih ..) ?_ ?_); exact rfl) | ((with_reducible apply Within.step (State.endFound_within ..) ?_ ?_); exact rfl) | ((with_reducible apply Within.step (State.endRun_within ..) ?_ ?_); exact rfl) | ((with_reducible apply Within.step (State.enterLine_within ..) ?_ ?_); exact rfl) | ((with_reducible apply Within.step (State.deliver_within ..) ?_ ?_); exact rfl) | ((with_reducible apply Within.step (State.boundary_within ..) ?_ ?_); exact rfl) | ((with_reducible apply Within.step (State.flushGap_within ..) ?_ ?_); exact rfl) | with_reducible apply Within.of_fst (by assumption) ?_ | split | fail

theorem State.leaveCheck_within (s : State) (v : Nat) : Within 0xc1d5fc033 s (State.leaveCheck s v) := by
  unfold State.leaveCheck
  repeat' first | with_reducible assumption | with_reducible exact Within.refl _ _ | ((try lift_lets -underBinder); intro x1; first | (have h0 := fun a => x1 a; clear h0; unfold x1; clear x1) | (refine Within.cut (m := 0xc1d5fc033) (s := s) (v := x1) ?_ ?_; unfold x1; rotate_left; intro h1; clear_value x1) | (refine Within.cut (m := 0xc1d5fc033) (s := s) (v := x1.1) ?_ ?_; unfold x1; rotate_left; intro h1; clear_value x1) | clear_value x1 | (refine Within.cut (m := 0xc1d5fc033) (s := s) (v := x1) ?_ ?_; unfold x1; rotate_left; intro h1) | (refine Within.cut (m := 0xc1d5fc033) (s := s) (v := x1.1) ?_ ?_; unfold x1; rotate_left; intro h1) | skip) | ((with_reducible apply Within.step (State.changeoverLine_within ..) ?_ ?_); exact rfl) | with_reducible apply Within.of_fst (by assumption) ?_ | split | fail

theorem State.deliverPort_within (s : State) (p : Nat) : Within 0xc1ddfd8b3 s (State.deliverPort s p) := by
  unfold State.deliverPort
  repeat' first | with_reducible assumption | with_reducible exact Within.refl _ _ | ((with_reducible apply Within.step (State.leaveCheck_within ..) ?_ ?_); exact rfl) | ((with_reducible apply Within.step (State.deliverAll_within ..) ?_ ?_); exact rfl) | split | fail

theorem State.closeTap_within (s : State) (p : Nat) (m : Nat) (t : Nat) : Within 0x100000 s (State.closeTap s p m t) := by
  unfold State.closeTap
  repeat' first | with_reducible assumption | with_reducible exact Within.refl _ _ | ((try lift_lets -underBinder); intro x1; first | (have h0 := fun a => x1 a; clear h0; unfold x1; clear x1) | (refine Within.cut (m := 0x100000) (s := s) (v := x1) ?_ ?_; unfold x1; rotate_left; intro h1; clear_value x1) | (refine Within.cut (m := 0x100000) (s := s) (v := x1.1) ?_ ?_; unfold x1; rotate_left; intro h1; clear_value x1) | clear_value x1 | (refine Within.cut (m := 0x100000) (s := s) (v := x1) ?_ ?_; unfold x1; rotate_left; intro h1) | (refine Within.cut (m := 0x100000) (s := s) (v := x1.1) ?_ ?_; unfold x1; rotate_left; intro h1) | skip) | ((with_reducible apply Within.step (State.putIntk_within ..) ?_ ?_); exact rfl) | split | fail

theorem State.closeTaps_within (s : State) (p : Nat) (sel : CamLine → Nat → Bool) : Within 0x100000 s (State.closeTaps s p sel) := by
  unfold State.closeTaps
  repeat' first | with_reducible assumption | with_reducible exact Within.refl _ _ | ((with_reducible apply Within.step (State.closeTap_within ..) ?_ ?_); exact rfl) | ((with_reducible apply Within.foldl ?_ ?_); rotate_left; intro x1 x2 h1) | ((with_reducible apply Within.foldl_fst ?_ ?_); rotate_left; intro x1 x2 h1) | split | fail

theorem execTapDeadline_within (p : Fin 16) (t : Nat) (s : State) : WithinO 0xc1ddfd8f3 s (execTapDeadline p t s) := by
  unfold execTapDeadline
  repeat' first | with_reducible assumption | with_reducible exact Within.refl _ _ | ((try lift_lets -underBinder); intro x1; first | (have h0 := fun a => x1 a; clear h0; unfold x1; clear x1) | (refine Within.cut (m := 0xc1ddfd8f3) (s := s) (v := x1) ?_ ?_; unfold x1; rotate_left; intro h1; clear_value x1) | (refine Within.cut (m := 0xc1ddfd8f3) (s := s) (v := x1.1) ?_ ?_; unfold x1; rotate_left; intro h1; clear_value x1) | clear_value x1 | (refine Within.cut (m := 0xc1ddfd8f3) (s := s) (v := x1) ?_ ?_; unfold x1; rotate_left; intro h1) | (refine Within.cut (m := 0xc1ddfd8f3) (s := s) (v := x1.1) ?_ ?_; unfold x1; rotate_left; intro h1) | skip) | with_reducible apply WithinO.of_next ?_ | ((with_reducible apply Within.step (State.closeTaps_within ..) ?_ ?_); exact rfl) | ((with_reducible apply Within.step (State.deliverPort_within ..) ?_ ?_); exact rfl) | ((with_reducible apply Within.step (State.atNs_within ..) ?_ ?_); exact rfl) | split | fail

theorem State.takeTap_within (s : State) (p : Nat) (tap : Nat) (m : Nat) (samples : List Nat) : Within 0x10100002 s (State.takeTap s p tap m samples) := by
  unfold State.takeTap
  repeat' first | with_reducible assumption | with_reducible exact Within.refl _ _ | ((try lift_lets -underBinder); intro x1; first | (have h0 := fun a => x1 a; clear h0; unfold x1; clear x1) | (refine Within.cut (m := 0x10100002) (s := s) (v := x1) ?_ ?_; unfold x1; rotate_left; intro h1; clear_value x1) | (refine Within.cut (m := 0x10100002) (s := s) (v := x1.1) ?_ ?_; unfold x1; rotate_left; intro h1; clear_value x1) | clear_value x1 | (refine Within.cut (m := 0x10100002) (s := s) (v := x1) ?_ ?_; unfold x1; rotate_left; intro h1) | (refine Within.cut (m := 0x10100002) (s := s) (v := x1.1) ?_ ?_; unfold x1; rotate_left; intro h1) | skip) | ((with_reducible apply Within.step (State.closeTaps_within ..) ?_ ?_); exact rfl) | ((with_reducible apply Within.step (State.qRequest_within ..) ?_ ?_); exact rfl) | ((with_reducible apply Within.step (State.putIntk_within ..) ?_ ?_); exact rfl) | with_reducible apply Within.of_fst (by assumption) ?_ | split | fail

theorem State.downPacket_within (s : State) (p : Nat) (pkt : DownPkt) : Within 0xc1ddfd8b3 s (State.downPacket s p pkt) := by
  unfold State.downPacket
  repeat' first | with_reducible assumption | with_reducible exact Within.refl _ _ | ((try lift_lets -underBinder); intro x1; first | (have h0 := fun a => x1 a; clear h0; unfold x1; clear x1) | (refine Within.cut (m := 0xc1ddfd8b3) (s := s) (v := x1) ?_ ?_; unfold x1; rotate_left; intro h1; clear_value x1) | (refine Within.cut (m := 0xc1ddfd8b3) (s := s) (v := x1.1) ?_ ?_; unfold x1; rotate_left; intro h1; clear_value x1) | clear_value x1 | (refine Within.cut (m := 0xc1ddfd8b3) (s := s) (v := x1) ?_ ?_; unfold x1; rotate_left; intro h1) | (refine Within.cut (m := 0xc1ddfd8b3) (s := s) (v := x1.1) ?_ ?_; unfold x1; rotate_left; intro h1) | skip) | ((with_reducible apply Within.step (State.takeTap_within ..) ?_ ?_); exact rfl) | ((with_reducible apply Within.step (State.closeTaps_within ..) ?_ ?_); exact rfl) | ((with_reducible apply Within.step (State.deliverPort_within ..) ?_ ?_); exact rfl) | ((with_reducible apply Within.step (State.putIntk_within ..) ?_ ?_); exact rfl) | ((with_reducible apply Within.step (State.statusIn_within ..) ?_ ?_); exact rfl) | ((with_reducible apply Within.step (State.camStatus_within ..) ?_ ?_); exact rfl) | ((with_reducible apply Within.step (State.regResp_within ..) ?_ ?_); exact rfl) | ((with_reducible apply Within.step (State.putLink_within ..) ?_ ?_); exact rfl) | ((with_reducible apply Within.step (State.bump_within ..) ?_ ?_); exact rfl) | with_reducible apply Within.of_fst (by assumption) ?_ | split | fail

theorem execLinePacket_within (p : Fin 16) (pkt : DownPkt) (t : Nat) (s : State) : WithinO 0xc1ddfd8f3 s (execLinePacket p pkt t s) := by
  unfold execLinePacket
  repeat' first | with_reducible assumption | with_reducible exact Within.refl _ _ | with_reducible apply WithinO.of_next ?_ | ((with_reducible apply Within.step (State.downPacket_within ..) ?_ ?_); exact rfl) | ((with_reducible apply Within.step (State.atNs_within ..) ?_ ?_); exact rfl) | split | fail

theorem execStatusPacket_within (p : Fin 16) (pkt : DownPkt) (t : Nat) (s : State) : WithinO 0xc1ddfd8f3 s (execStatusPacket p pkt t s) := by
  unfold execStatusPacket
  repeat' first | with_reducible assumption | with_reducible exact Within.refl _ _ | with_reducible apply WithinO.of_next ?_ | ((with_reducible apply Within.step (State.downPacket_within ..) ?_ ?_); exact rfl) | ((with_reducible apply Within.step (State.atNs_within ..) ?_ ?_); exact rfl) | split | fail

theorem execRegResp_within (p : Fin 16) (pkt : DownPkt) (t : Nat) (s : State) : WithinO 0xc1ddfd8f3 s (execRegResp p pkt t s) := by
  unfold execRegResp
  repeat' first | with_reducible assumption | with_reducible exact Within.refl _ _ | with_reducible apply WithinO.of_next ?_ | ((with_reducible apply Within.step (State.downPacket_within ..) ?_ ?_); exact rfl) | ((with_reducible apply Within.step (State.atNs_within ..) ?_ ?_); exact rfl) | split | fail

theorem State.addLine_within (s : State) (v : Nat) (p : Nat) (m : Nat) (trig : Bool) : Within 0xc1ddfd8b3 s (State.addLine s v p m trig) := by
  unfold State.addLine
  repeat' first | with_reducible assumption | with_reducible exact Within.refl _ _ | ((try lift_lets -underBinder); intro x1; first | (have h0 := fun a => x1 a; clear h0; unfold x1; clear x1) | (refine Within.cut (m := 0xc1ddfd8b3) (s := s) (v := x1) ?_ ?_; unfold x1; rotate_left; intro h1; clear_value x1) | (refine Within.cut (m := 0xc1ddfd8b3) (s := s) (v := x1.1) ?_ ?_; unfold x1; rotate_left; intro h1; clear_value x1) | clear_value x1 | (refine Within.cut (m := 0xc1ddfd8b3) (s := s) (v := x1) ?_ ?_; unfold x1; rotate_left; intro h1) | (refine Within.cut (m := 0xc1ddfd8b3) (s := s) (v := x1.1) ?_ ?_; unfold x1; rotate_left; intro h1) | skip) | ((with_reducible apply Within.step (State.closeTaps_within ..) ?_ ?_); exact rfl) | ((with_reducible apply Within.step (State.deliverAll_within ..) ?_ ?_); exact rfl) | ((with_reducible apply Within.step (State.endRun_within ..) ?_ ?_); exact rfl) | ((with_reducible apply Within.step (State.putIntk_within ..) ?_ ?_); exact rfl) | with_reducible apply Within.of_fst (by assumption) ?_ | split | fail

theorem State.lineIssued_within (s : State) (v : Nat) (m : Nat) (issued : Bool) : Within 0xc1ddfd8b3 s (State.lineIssued s v m issued) := by
  unfold State.lineIssued
  repeat' first | with_reducible assumption | with_reducible exact Within.refl _ _ | ((try lift_lets -underBinder); intro x1; first | (have h0 := fun a => x1 a; clear h0; unfold x1; clear x1) | (refine Within.cut (m := 0xc1ddfd8b3) (s := s) (v := x1) ?_ ?_; unfold x1; rotate_left; intro h1; clear_value x1) | (refine Within.cut (m := 0xc1ddfd8b3) (s := s) (v := x1.1) ?_ ?_; unfold x1; rotate_left; intro h1; clear_value x1) | clear_value x1 | (refine Within.cut (m := 0xc1ddfd8b3) (s := s) (v := x1) ?_ ?_; unfold x1; rotate_left; intro h1) | (refine Within.cut (m := 0xc1ddfd8b3) (s := s) (v := x1.1) ?_ ?_; unfold x1; rotate_left; intro h1) | skip) | ((with_reducible apply Within.step (State.addLine_within ..) ?_ ?_); exact rfl) | ((with_reducible apply Within.step (State.anchorSyncs_within ..) ?_ ?_); exact rfl) | ((with_reducible apply Within.step (State.viewStart_within ..) ?_ ?_); exact rfl) | ((with_reducible apply Within.step (State.trigger_within ..) ?_ ?_); exact rfl) | ((with_reducible apply Within.step (State.putLink_within ..) ?_ ?_); exact rfl) | ((with_reducible apply Within.foldl ?_ ?_); rotate_left; intro x1 x2 h1) | ((with_reducible apply Within.foldl_fst ?_ ?_); rotate_left; intro x1 x2 h1) | split | fail

theorem State.leaveStop_within (s : State) (v : Nat) : Within 0x800178032 s (State.leaveStop s v) := by
  unfold State.leaveStop
  repeat' first | with_reducible assumption | with_reducible exact Within.refl _ _ | ((with_reducible apply Within.step (State.endTriggers_within ..) ?_ ?_); exact rfl) | with_reducible apply Within.of_fst (by assumption) ?_ | split | fail

theorem execTriggerIssue_within (v : Fin 4) (sample : Nat) (s : State) : WithinO 0xc1ddfd8f3 s (execTriggerIssue v sample s) := by
  unfold execTriggerIssue
  repeat' first | with_reducible assumption | with_reducible exact Within.refl _ _ | with_reducible apply WithinO.of_next ?_ | ((try lift_lets -underBinder); intro x1; first | (have h0 := fun a => x1 a; clear h0; unfold x1; clear x1) | (refine Within.cut (m := 0xc1ddfd8f3) (s := s) (v := x1) ?_ ?_; unfold x1; rotate_left; intro h1; clear_value x1) | (refine Within.cut (m := 0xc1ddfd8f3) (s := s) (v := x1.1) ?_ ?_; unfold x1; rotate_left; intro h1; clear_value x1) | clear_value x1 | (refine Within.cut (m := 0xc1ddfd8f3) (s := s) (v := x1) ?_ ?_; unfold x1; rotate_left; intro h1) | (refine Within.cut (m := 0xc1ddfd8f3) (s := s) (v := x1.1) ?_ ?_; unfold x1; rotate_left; intro h1) | skip) | ((with_reducible apply Within.step (State.leaveStop_within ..) ?_ ?_); exact rfl) | ((with_reducible apply Within.step (State.lineIssued_within ..) ?_ ?_); exact rfl) | ((with_reducible apply Within.step (State.issue_within ..) ?_ ?_); exact rfl) | ((with_reducible apply Within.step (State.deliverPort_within ..) ?_ ?_); exact rfl) | ((with_reducible apply Within.step (State.atCycle_within ..) ?_ ?_); exact rfl) | with_reducible apply Within.of_fst (by assumption) ?_ | ((with_reducible apply Within.foldl ?_ ?_); rotate_left; intro x1 x2 h1) | ((with_reducible apply Within.foldl_fst ?_ ?_); rotate_left; intro x1 x2 h1) | split | fail

end Sys2Proof.Machine
end

