-- ==== Sys2Proof/Laws/FrameAccess.lean ====
section
/-!
SUPPORT. Frames of Sys2Proof/Machine/Access.lean: what each operation there may change.
-/
set_option linter.unusedTactic false
set_option linter.unreachableTactic false

namespace Sys2Proof.Machine

theorem Within.got {m : Nat} {s : State} {r : State × Word} (h : Within m s r.1) : Within m s (got r).1 := h

theorem State.plain_within (s : State) (p : Nat) (off : Nat) (w : Word) : Within 0x3e s (State.plain s p off w) := by
  unfold State.plain
  repeat' first | with_reducible assumption | with_reducible exact Within.refl _ _ | ((with_reducible apply Within.step (State.writeReg_within ..) ?_ ?_); exact rfl) | ((with_reducible apply Within.step (State.errEdge_within ..) ?_ ?_); exact rfl) | split | fail

theorem State.writeTb_within (s : State) (off : Nat) (w : Word) : Within 0x410006c3f s (State.writeTb s off w) := by
  unfold State.writeTb
  repeat' first | with_reducible assumption | with_reducible exact Within.refl _ _ | ((try lift_lets -underBinder); intro x1; first | (have h0 := fun a => x1 a; clear h0; unfold x1; clear x1) | (refine Within.cut (m := 0x410006c3f) (s := s) (v := x1) ?_ ?_; unfold x1; rotate_left; intro h1; clear_value x1) | (refine Within.cut (m := 0x410006c3f) (s := s) (v := x1.1) ?_ ?_; unfold x1; rotate_left; intro h1; clear_value x1) | clear_value x1 | (refine Within.cut (m := 0x410006c3f) (s := s) (v := x1) ?_ ?_; unfold x1; rotate_left; intro h1) | (refine Within.cut (m := 0x410006c3f) (s := s) (v := x1.1) ?_ ?_; unfold x1; rotate_left; intro h1) | skip) | ((with_reducible apply Within.step (State.plain_within ..) ?_ ?_); exact rfl) | ((with_reducible apply Within.step (State.todHi_within ..) ?_ ?_); exact rfl) | ((with_reducible apply Within.step (State.rateHi_within ..) ?_ ?_); exact rfl) | ((with_reducible apply Within.step (State.offsetHi_within ..) ?_ ?_); exact rfl) | ((with_reducible apply Within.step (State.setTbState_within ..) ?_ ?_); exact rfl) | ((with_reducible apply Within.step (State.logMinor_within ?_) ?_ ?_); decide; exact rfl) | ((with_reducible apply Within.step (State.logErr_within ..) ?_ ?_); exact rfl) | split | fail

theorem State.writeMcg_within (s : State) (o : Owner) (off : Nat) (w : Word) : Within 0x51000003f s (State.writeMcg s o off w) := by
  unfold State.writeMcg
  repeat' first | with_reducible assumption | with_reducible exact Within.refl _ _ | ((try lift_lets -underBinder); intro x1; first | (have h0 := fun a => x1 a; clear h0; unfold x1; clear x1) | (refine Within.cut (m := 0x51000003f) (s := s) (v := x1) ?_ ?_; unfold x1; rotate_left; intro h1; clear_value x1) | (refine Within.cut (m := 0x51000003f) (s := s) (v := x1.1) ?_ ?_; unfold x1; rotate_left; intro h1; clear_value x1) | clear_value x1 | (refine Within.cut (m := 0x51000003f) (s := s) (v := x1) ?_ ?_; unfold x1; rotate_left; intro h1) | (refine Within.cut (m := 0x51000003f) (s := s) (v := x1.1) ?_ ?_; unfold x1; rotate_left; intro h1) | skip) | ((with_reducible apply Within.step (State.plain_within ..) ?_ ?_); exact rfl) | ((with_reducible apply Within.step (State.panicCheck_within ..) ?_ ?_); exact rfl) | ((with_reducible apply Within.step (State.retrain_within ..) ?_ ?_); exact rfl) | ((with_reducible apply Within.step (State.eccInit_within ..) ?_ ?_); exact rfl) | ((with_reducible apply Within.step (State.logMinor_within ?_) ?_ ?_); decide; exact rfl) | ((with_reducible apply Within.step (State.logErr_within ..) ?_ ?_); exact rfl) | ((with_reducible apply Within.step (State.flag_within ..) ?_ ?_); exact rfl) | ((with_reducible apply Within.foldl ?_ ?_); rotate_left; intro x1 x2 h1) | ((with_reducible apply Within.foldl_fst ?_ ?_); rotate_left; intro x1 x2 h1) | split | fail

theorem State.writeRing_within (s : State) (o : Owner) (p : Nat) (off : Nat) (lowBits : Bool) (size : Option (Nat × Nat)) (w : Word) : Within 0x41000003f s (State.writeRing s o p off lowBits size w) := by
  unfold State.writeRing
  repeat' first | with_reducible assumption | with_reducible exact Within.refl _ _ | ((with_reducible apply Within.step (State.plain_within ..) ?_ ?_); exact rfl) | ((with_reducible apply Within.step (State.logMinor_within ?_) ?_ ?_); decide; exact rfl) | ((with_reducible apply Within.step (State.logErr_within ..) ?_ ?_); exact rfl) | split | fail

theorem State.writeMrg_within (s : State) (o : Owner) (off : Nat) (w : Word) : Within 0x41000003f s (State.writeMrg s o off w) := by
  unfold State.writeMrg
  repeat' first | with_reducible assumption | with_reducible exact Within.refl _ _ | ((with_reducible apply Within.step (State.writeRing_within ..) ?_ ?_); exact rfl) | ((with_reducible apply Within.step (State.plain_within ..) ?_ ?_); exact rfl) | split | fail

theorem State.writeVrd_within (s : State) (o : Owner) (off : Nat) (w : Word) : Within 0x41000003f s (State.writeVrd s o off w) := by
  unfold State.writeVrd
  repeat' first | with_reducible assumption | with_reducible exact Within.refl _ _ | ((with_reducible apply Within.step (State.writeRing_within ..) ?_ ?_); exact rfl) | ((with_reducible apply Within.step (State.plain_within ..) ?_ ?_); exact rfl) | split | fail

theorem State.writeIe_within (s : State) (o : Sys2Proof.Owner) (p : Nat) (off : Nat) (w : Sys2Proof.Word) : Within 0x41000003f s (State.writeIe s o p off w) := by
  unfold State.writeIe
  repeat' first | with_reducible assumption | with_reducible exact Within.refl _ _ | ((with_reducible apply Within.step (State.flag_within ..) ?_ ?_); exact rfl) | ((with_reducible apply Within.step (State.plain_within ..) ?_ ?_); exact rfl) | ((with_reducible apply Within.step (State.logMinor_within ?_) ?_ ?_); decide; exact rfl) | split | fail

theorem State.writeMst_within (s : State) (o : Owner) (off : Nat) (w : Word) : Within 0x40003e s (State.writeMst s o off w) := by
  unfold State.writeMst
  repeat' first | with_reducible assumption | with_reducible exact Within.refl _ _ | ((with_reducible apply Within.step (State.plain_within ..) ?_ ?_); exact rfl) | ((with_reducible apply Within.step (State.artCtl_within ..) ?_ ?_); exact rfl) | ((with_reducible apply Within.step (State.flag_within ..) ?_ ?_); exact rfl) | split | fail

theorem State.writeHlth_within (s : State) (off : Nat) (w : Word) : Within 0x20000003e s (State.writeHlth s off w) := by
  unfold State.writeHlth
  repeat' first | with_reducible assumption | with_reducible exact Within.refl _ _ | ((with_reducible apply Within.step (State.plain_within ..) ?_ ?_); exact rfl) | ((with_reducible apply Within.step (State.mbistGo_within ..) ?_ ?_); exact rfl) | ((with_reducible apply Within.step (State.avsLim_within ..) ?_ ?_); exact rfl) | ((with_reducible apply Within.step (State.avsTgt_within ..) ?_ ?_); exact rfl) | ((with_reducible apply Within.step (State.tempLim_within ..) ?_ ?_); exact rfl) | ((with_reducible apply Within.step (State.avsCtl_within ..) ?_ ?_); exact rfl) | ((with_reducible apply Within.step (State.calGo_within ..) ?_ ?_); exact rfl) | split | fail

theorem State.writeDma_within (s : State) (o : Owner) (off : Nat) (w : Word) : Within 0x43000003f s (State.writeDma s o off w) := by
  unfold State.writeDma
  repeat' first | with_reducible assumption | with_reducible exact Within.refl _ _ | ((try lift_lets -underBinder); intro x1; first | (have h0 := fun a => x1 a; clear h0; unfold x1; clear x1) | (refine Within.cut (m := 0x43000003f) (s := s) (v := x1) ?_ ?_; unfold x1; rotate_left; intro h1; clear_value x1) | (refine Within.cut (m := 0x43000003f) (s := s) (v := x1.1) ?_ ?_; unfold x1; rotate_left; intro h1; clear_value x1) | clear_value x1 | (refine Within.cut (m := 0x43000003f) (s := s) (v := x1) ?_ ?_; unfold x1; rotate_left; intro h1) | (refine Within.cut (m := 0x43000003f) (s := s) (v := x1.1) ?_ ?_; unfold x1; rotate_left; intro h1) | skip) | ((with_reducible apply Within.step (State.plain_within ..) ?_ ?_); exact rfl) | ((with_reducible apply Within.step (State.chCtl_within ..) ?_ ?_); exact rfl) | ((with_reducible apply Within.step (State.setCh_within ..) ?_ ?_); exact rfl) | split | fail

theorem State.writeQf_within (s : State) (o : Owner) (off : Nat) (w : Word) : Within 0x41000003f s (State.writeQf s o off w) := by
  unfold State.writeQf
  repeat' first | with_reducible assumption | with_reducible exact Within.refl _ _ | ((with_reducible apply Within.step (State.plain_within ..) ?_ ?_); exact rfl) | ((with_reducible apply Within.step (State.hqPush_within ..) ?_ ?_); exact rfl) | ((with_reducible apply Within.step (State.hqCredReq_within ..) ?_ ?_); exact rfl) | ((with_reducible apply Within.step (State.qfApply_within ..) ?_ ?_); exact rfl) | split | (apply Within.upd; (dsimp only; try exact rfl); exact ⟨Nat.le_refl _, List.prefix_refl _, Nat.le_refl _, ⟨rfl, rfl, rfl⟩, .inl rfl, .inl rfl, .inl rfl, .inl rfl, .inl rfl, .inl rfl, .inr rfl, .inr rfl, .inr rfl, .inr ⟨rfl, rfl⟩, .inr rfl, .inr rfl, .inr rfl, .inr rfl, .inr rfl, .inr rfl, .inr rfl, .inr rfl, .inr ⟨rfl, rfl, rfl⟩, .inr ⟨rfl, rfl, rfl, rfl, rfl⟩, .inr ⟨rfl, rfl, rfl, rfl⟩, .inr ⟨rfl, rfl, rfl⟩, .inr ⟨rfl, rfl⟩, .inr rfl, .inr ⟨rfl, rfl, rfl, rfl⟩, .inr rfl, .inr rfl, .inr rfl, .inl rfl, .inr rfl, .inr rfl, .inr ⟨rfl, rfl⟩, .inr ⟨rfl, rfl⟩, .inr rfl, .inl rfl, .inr ⟨rfl, rfl, rfl⟩, .inr ⟨rfl, rfl, rfl, rfl⟩⟩) | fail

theorem State.writeZip_within (s : State) (off : Nat) (w : Word) : Within 0xc000003e s (State.writeZip s off w) := by
  unfold State.writeZip
  repeat' first | with_reducible assumption | with_reducible exact Within.refl _ _ | ((try lift_lets -underBinder); intro x1; first | (have h0 := fun a => x1 a; clear h0; unfold x1; clear x1) | (refine Within.cut (m := 0xc000003e) (s := s) (v := x1) ?_ ?_; unfold x1; rotate_left; intro h1; clear_value x1) | (refine Within.cut (m := 0xc000003e) (s := s) (v := x1.1) ?_ ?_; unfold x1; rotate_left; intro h1; clear_value x1) | clear_value x1 | (refine Within.cut (m := 0xc000003e) (s := s) (v := x1) ?_ ?_; unfold x1; rotate_left; intro h1) | (refine Within.cut (m := 0xc000003e) (s := s) (v := x1.1) ?_ ?_; unfold x1; rotate_left; intro h1) | skip) | ((with_reducible apply Within.step (State.plain_within ..) ?_ ?_); exact rfl) | ((with_reducible apply Within.step (State.zipHead_within ..) ?_ ?_); exact rfl) | ((with_reducible apply Within.step (State.flag_within ..) ?_ ?_); exact rfl) | split | fail

theorem State.writeEth_within (s : State) (n : Nat) (off : Nat) (w : Word) : Within 0xc3017803f s (State.writeEth s n off w) := by
  unfold State.writeEth
  repeat' first | with_reducible assumption | with_reducible exact Within.refl _ _ | ((try lift_lets -underBinder); intro x1; first | (have h0 := fun a => x1 a; clear h0; unfold x1; clear x1) | (refine Within.cut (m := 0xc3017803f) (s := s) (v := x1) ?_ ?_; unfold x1; rotate_left; intro h1; clear_value x1) | (refine Within.cut (m := 0xc3017803f) (s := s) (v := x1.1) ?_ ?_; unfold x1; rotate_left; intro h1; clear_value x1) | clear_value x1 | (refine Within.cut (m := 0xc3017803f) (s := s) (v := x1) ?_ ?_; unfold x1; rotate_left; intro h1) | (refine Within.cut (m := 0xc3017803f) (s := s) (v := x1.1) ?_ ?_; unfold x1; rotate_left; intro h1) | skip) | ((with_reducible apply Within.step (State.plain_within ..) ?_ ?_); exact rfl) | ((with_reducible apply Within.step (State.enChanged_within ..) ?_ ?_); exact rfl) | split | fail

theorem State.writeNet_within (s : State) (o : Owner) (off : Nat) (w : Word) : Within 0x4320000bf s (State.writeNet s o off w) := by
  unfold State.writeNet
  repeat' first | with_reducible assumption | with_reducible exact Within.refl _ _ | ((try lift_lets -underBinder); intro x1; first | (have h0 := fun a => x1 a; clear h0; unfold x1; clear x1) | (refine Within.cut (m := 0x4320000bf) (s := s) (v := x1) ?_ ?_; unfold x1; rotate_left; intro h1; clear_value x1) | (refine Within.cut (m := 0x4320000bf) (s := s) (v := x1.1) ?_ ?_; unfold x1; rotate_left; intro h1; clear_value x1) | clear_value x1 | (refine Within.cut (m := 0x4320000bf) (s := s) (v := x1) ?_ ?_; unfold x1; rotate_left; intro h1) | (refine Within.cut (m := 0x4320000bf) (s := s) (v := x1.1) ?_ ?_; unfold x1; rotate_left; intro h1) | skip) | ((with_reducible apply Within.step (State.plain_within ..) ?_ ?_); exact rfl) | ((with_reducible apply Within.step (State.keySel_within ..) ?_ ?_); exact rfl) | ((with_reducible apply Within.step (State.keyData_within ..) ?_ ?_); exact rfl) | ((with_reducible apply Within.step (State.sessCtl_within ..) ?_ ?_); exact rfl) | ((with_reducible apply Within.step (State.ownerReset_within ..) ?_ ?_); exact rfl) | split | fail

theorem State.writeMtwi_within (s : State) (off : Nat) (w : Word) : Within 0xcb017803f s (State.writeMtwi s off w) := by
  unfold State.writeMtwi
  repeat' first | with_reducible assumption | with_reducible exact Within.refl _ _ | ((try lift_lets -underBinder); intro x1; first | (have h0 := fun a => x1 a; clear h0; unfold x1; clear x1) | (refine Within.cut (m := 0xcb017803f) (s := s) (v := x1) ?_ ?_; unfold x1; rotate_left; intro h1; clear_value x1) | (refine Within.cut (m := 0xcb017803f) (s := s) (v := x1.1) ?_ ?_; unfold x1; rotate_left; intro h1; clear_value x1) | clear_value x1 | (refine Within.cut (m := 0xcb017803f) (s := s) (v := x1) ?_ ?_; unfold x1; rotate_left; intro h1) | (refine Within.cut (m := 0xcb017803f) (s := s) (v := x1.1) ?_ ?_; unfold x1; rotate_left; intro h1) | skip) | ((with_reducible apply Within.step (State.plain_within ..) ?_ ?_); exact rfl) | ((with_reducible apply Within.step (State.enChanged_within ..) ?_ ?_); exact rfl) | ((with_reducible apply Within.step (State.logMinor_within ?_) ?_ ?_); decide; exact rfl) | ((with_reducible apply Within.step (State.logErr_within ..) ?_ ?_); exact rfl) | ((with_reducible apply Within.step (State.fifoPut_within ..) ?_ ?_); exact rfl) | split | fail

theorem State.writeTwl_within (s : State) (n : Nat) (off : Nat) (w : Word) : Within 0x49000003f s (State.writeTwl s n off w) := by
  unfold State.writeTwl
  repeat' first | with_reducible assumption | with_reducible exact Within.refl _ _ | ((with_reducible apply Within.step (State.plain_within ..) ?_ ?_); exact rfl) | ((with_reducible apply Within.step (State.twlTiming_within ..) ?_ ?_); exact rfl) | ((with_reducible apply Within.step (State.twlCtl_within ..) ?_ ?_); exact rfl) | ((with_reducible apply Within.step (State.twlCmd_within ..) ?_ ?_); exact rfl) | ((with_reducible apply Within.step (State.fifoPut_within ..) ?_ ?_); exact rfl) | split | fail

theorem State.writeCrl_within (s : State) (o : Owner) (off : Nat) (w : Word) : Within 0x41000483f s (State.writeCrl s o off w) := by
  unfold State.writeCrl
  repeat' first | with_reducible assumption | with_reducible exact Within.refl _ _ | ((with_reducible apply Within.step (State.plain_within ..) ?_ ?_); exact rfl) | ((with_reducible apply Within.step (State.calIns_within ..) ?_ ?_); exact rfl) | ((with_reducible apply Within.step (State.crlCtl_within ..) ?_ ?_); exact rfl) | ((with_reducible apply Within.step (State.cycleWrite_within ..) ?_ ?_); exact rfl) | split | fail

theorem State.writeBlock_within (s : State) (o : Owner) (k : PageKind) (n : Nat) (p : Nat) (off : Nat) (w : Word) : Within 0xffe77edbf s (State.writeBlock s o k n p off w) := by
  unfold State.writeBlock
  repeat' first | with_reducible assumption | with_reducible exact Within.refl _ _ | ((with_reducible apply Within.step (State.writeCrl_within ..) ?_ ?_); exact rfl) | ((with_reducible apply Within.step (State.writeTwl_within ..) ?_ ?_); exact rfl) | ((with_reducible apply Within.step (State.writeMtwi_within ..) ?_ ?_); exact rfl) | ((with_reducible apply Within.step (State.writeNet_within ..) ?_ ?_); exact rfl) | ((with_reducible apply Within.step (State.writeEth_within ..) ?_ ?_); exact rfl) | ((with_reducible apply Within.step (State.writeZip_within ..) ?_ ?_); exact rfl) | ((with_reducible apply Within.step (State.writeQf_within ..) ?_ ?_); exact rfl) | ((with_reducible apply Within.step (State.writeDma_within ..) ?_ ?_); exact rfl) | ((with_reducible apply Within.step (State.writeHlth_within ..) ?_ ?_); exact rfl) | ((with_reducible apply Within.step (State.writeMst_within ..) ?_ ?_); exact rfl) | ((with_reducible apply Within.step (State.writeIe_within ..) ?_ ?_); exact rfl) | ((with_reducible apply Within.step (State.writeVrd_within ..) ?_ ?_); exact rfl) | ((with_reducible apply Within.step (State.writeMrg_within ..) ?_ ?_); exact rfl) | ((with_reducible apply Within.step (State.writeMcg_within ..) ?_ ?_); exact rfl) | ((with_reducible apply Within.step (State.writeTb_within ..) ?_ ?_); exact rfl) | ((with_reducible apply Within.step (State.plain_within ..) ?_ ?_); exact rfl) | ((with_reducible apply Within.step (State.qspiCmd_within ..) ?_ ?_); exact rfl) | ((with_reducible apply Within.step (State.fuseProg_within ..) ?_ ?_); exact rfl) | ((with_reducible apply Within.step (State.strCtl_within ..) ?_ ?_); exact rfl) | ((with_reducible apply Within.step (State.decSyncWrite_within ..) ?_ ?_); exact rfl) | ((with_reducible apply Within.step (State.guardWrite_within ..) ?_ ?_); exact rfl) | ((with_reducible apply Within.step (State.manEn_within ..) ?_ ?_); exact rfl) | ((with_reducible apply Within.step (State.faultCtl_within ..) ?_ ?_); exact rfl) | ((with_reducible apply Within.step (State.tblWrite_within ..) ?_ ?_); exact rfl) | ((with_reducible apply Within.step (State.calCtl_within ..) ?_ ?_); exact rfl) | ((with_reducible apply Within.step (State.ffCtl_within ..) ?_ ?_); exact rfl) | ((with_reducible apply Within.step (State.jokerCtl_within ..) ?_ ?_); exact rfl) | ((with_reducible apply Within.step (State.camAcc_within ..) ?_ ?_); exact rfl) | ((with_reducible apply Within.step (State.swFire_within ..) ?_ ?_); exact rfl) | ((with_reducible apply Within.step (State.fifoPut_within ..) ?_ ?_); exact rfl) | with_reducible apply Within.of_fst (by assumption) ?_ | split | fail

theorem State.setOwner_within (s : State) (p : Nat) (w : Word) : Within 0x2 s (State.setOwner s p w) := by
  unfold State.setOwner
  repeat' first | with_reducible assumption | with_reducible exact Within.refl _ _ | ((with_reducible apply Within.step (State.wr_within ..) ?_ ?_); exact rfl) | split | fail

theorem State.writePage_within (s : State) (o : Sys2Proof.Owner) (slot : Nat) (p : Nat) (off : Nat) (w : Sys2Proof.Word) : Within 0x1ffffffdbf s (State.writePage s o slot p off w) := by
  unfold State.writePage
  repeat' first | with_reducible assumption | with_reducible exact Within.refl _ _ | ((try lift_lets -underBinder); intro x1; first | (have h0 := fun a => x1 a; clear h0; unfold x1; clear x1) | (refine Within.cut (m := 0x1ffffffdbf) (s := s) (v := x1) ?_ ?_; unfold x1; rotate_left; intro h1; clear_value x1) | (refine Within.cut (m := 0x1ffffffdbf) (s := s) (v := x1.1) ?_ ?_; unfold x1; rotate_left; intro h1; clear_value x1) | clear_value x1 | (refine Within.cut (m := 0x1ffffffdbf) (s := s) (v := x1) ?_ ?_; unfold x1; rotate_left; intro h1) | (refine Within.cut (m := 0x1ffffffdbf) (s := s) (v := x1.1) ?_ ?_; unfold x1; rotate_left; intro h1) | skip) | ((with_reducible apply Within.step (State.commitWrite_within ..) ?_ ?_); exact rfl) | ((with_reducible apply Within.step (State.chgCtl_within ..) ?_ ?_); exact rfl) | ((with_reducible apply Within.step (State.jobCtl_within ..) ?_ ?_); exact rfl) | ((with_reducible apply Within.step (State.setOwner_within ..) ?_ ?_); exact rfl) | ((with_reducible apply Within.step (State.pageCtl_within ..) ?_ ?_); exact rfl) | ((with_reducible apply Within.step (State.modeReq_within ..) ?_ ?_); exact rfl) | ((with_reducible apply Within.step (State.writeBlock_within ..) ?_ ?_); exact rfl) | ((with_reducible apply Within.step (State.writeReg_within ..) ?_ ?_); exact rfl) | ((with_reducible apply State.guarded_within ?_ ?_ ?_); exact rfl; intro x1 h1) | ((with_reducible apply Within.step (State.touch_within ..) ?_ ?_); exact rfl) | ((with_reducible apply State.sysWrite_within ?_ ?_ ?_ ?_); exact rfl; intro x1 h1; rotate_left; intro x1 h1) | ((with_reducible apply Within.step (State.lockWrite_within ..) ?_ ?_); exact rfl) | ((with_reducible apply Within.step (State.refusal_within ..) ?_ ?_); exact rfl) | with_reducible apply Within.of_fst (by assumption) ?_ | split | fail

theorem State.msixWrite_within (s : State) (a : Nat) (w : Word) : Within 0x32 s (State.msixWrite s a w) := by
  unfold State.msixWrite
  repeat' first | with_reducible assumption | with_reducible exact Within.refl _ _ | ((try lift_lets -underBinder); intro x1; first | (have h0 := fun a => x1 a; clear h0; unfold x1; clear x1) | (refine Within.cut (m := 0x32) (s := s) (v := x1) ?_ ?_; unfold x1; rotate_left; intro h1; clear_value x1) | (refine Within.cut (m := 0x32) (s := s) (v := x1.1) ?_ ?_; unfold x1; rotate_left; intro h1; clear_value x1) | clear_value x1 | (refine Within.cut (m := 0x32) (s := s) (v := x1) ?_ ?_; unfold x1; rotate_left; intro h1) | (refine Within.cut (m := 0x32) (s := s) (v := x1.1) ?_ ?_; unfold x1; rotate_left; intro h1) | skip) | ((with_reducible apply Within.step (State.msix_within ..) ?_ ?_); exact rfl) | ((with_reducible apply Within.step (State.setWinBits_within ..) ?_ ?_); exact rfl) | ((with_reducible apply Within.step (State.setWin_within ..) ?_ ?_); exact rfl) | split | fail

theorem State.descWrite_within (s : State) (o : Owner) (q : Nat) (i : Nat) (w : Word) : Within 0x10000032 s (State.descWrite s o q i w) := by
  unfold State.descWrite
  repeat' first | with_reducible assumption | with_reducible exact Within.refl _ _ | ((try lift_lets -underBinder); intro x1; first | (have h0 := fun a => x1 a; clear h0; unfold x1; clear x1) | (refine Within.cut (m := 0x10000032) (s := s) (v := x1) ?_ ?_; unfold x1; rotate_left; intro h1; clear_value x1) | (refine Within.cut (m := 0x10000032) (s := s) (v := x1.1) ?_ ?_; unfold x1; rotate_left; intro h1; clear_value x1) | clear_value x1 | (refine Within.cut (m := 0x10000032) (s := s) (v := x1) ?_ ?_; unfold x1; rotate_left; intro h1) | (refine Within.cut (m := 0x10000032) (s := s) (v := x1.1) ?_ ?_; unfold x1; rotate_left; intro h1) | skip) | ((with_reducible apply Within.step (State.takeDesc_within ..) ?_ ?_); exact rfl) | ((with_reducible apply Within.step (State.setQ_within ..) ?_ ?_); exact rfl) | ((with_reducible apply Within.step (State.flag_within ..) ?_ ?_); exact rfl) | split | (apply Within.upd; (dsimp only; try exact rfl); exact ⟨Nat.le_refl _, List.prefix_refl _, Nat.le_refl _, ⟨rfl, rfl, rfl⟩, .inr ⟨rfl, rfl, rfl⟩, .inl rfl, .inr rfl, .inr rfl, .inl rfl, .inl rfl, .inr rfl, .inr rfl, .inr rfl, .inr ⟨rfl, rfl⟩, .inr rfl, .inr rfl, .inr rfl, .inr rfl, .inr rfl, .inr rfl, .inr rfl, .inr rfl, .inr ⟨rfl, rfl, rfl⟩, .inr ⟨rfl, rfl, rfl, rfl, rfl⟩, .inr ⟨rfl, rfl, rfl, rfl⟩, .inr ⟨rfl, rfl, rfl⟩, .inr ⟨rfl, rfl⟩, .inr rfl, .inr ⟨rfl, rfl, rfl, rfl⟩, .inr rfl, .inr rfl, .inr rfl, .inl rfl, .inr rfl, .inr rfl, .inr ⟨rfl, rfl⟩, .inr ⟨rfl, rfl⟩, .inr rfl, .inr ⟨rfl, rfl⟩, .inr ⟨rfl, rfl, rfl⟩, .inr ⟨rfl, rfl, rfl, rfl⟩⟩) | fail

theorem State.taskWrite_within (s : State) (t : Nat) (i : Nat) (w : Word) : Within 0x10 s (State.taskWrite s t i w) := by
  unfold State.taskWrite
  repeat' first | with_reducible assumption | with_reducible exact Within.refl _ _ | ((try lift_lets -underBinder); intro x1; first | (have h0 := fun a => x1 a; clear h0; unfold x1; clear x1) | (refine Within.cut (m := 0x10) (s := s) (v := x1) ?_ ?_; unfold x1; rotate_left; intro h1; clear_value x1) | (refine Within.cut (m := 0x10) (s := s) (v := x1.1) ?_ ?_; unfold x1; rotate_left; intro h1; clear_value x1) | clear_value x1 | (refine Within.cut (m := 0x10) (s := s) (v := x1) ?_ ?_; unfold x1; rotate_left; intro h1) | (refine Within.cut (m := 0x10) (s := s) (v := x1.1) ?_ ?_; unfold x1; rotate_left; intro h1) | skip) | ((with_reducible apply Within.step (State.setWin_within ..) ?_ ?_); exact rfl) | split | fail

theorem State.ctxWrite_within (s : State) (a : Nat) (w : Sys2Proof.Word) : Within 0x100032 s (State.ctxWrite s a w) := by
  unfold State.ctxWrite
  repeat' first | with_reducible assumption | with_reducible exact Within.refl _ _ | ((try lift_lets -underBinder); intro x1; first | (have h0 := fun a => x1 a; clear h0; unfold x1; clear x1) | (refine Within.cut (m := 0x100032) (s := s) (v := x1) ?_ ?_; unfold x1; rotate_left; intro h1; clear_value x1) | (refine Within.cut (m := 0x100032) (s := s) (v := x1.1) ?_ ?_; unfold x1; rotate_left; intro h1; clear_value x1) | clear_value x1 | (refine Within.cut (m := 0x100032) (s := s) (v := x1) ?_ ?_; unfold x1; rotate_left; intro h1) | (refine Within.cut (m := 0x100032) (s := s) (v := x1.1) ?_ ?_; unfold x1; rotate_left; intro h1) | skip) | ((with_reducible apply Within.step (State.setWin_within ..) ?_ ?_); exact rfl) | ((with_reducible apply Within.step (State.dropSets_within ..) ?_ ?_); exact rfl) | ((with_reducible apply Within.step (State.flag_within ..) ?_ ?_); exact rfl) | ((with_reducible apply Within.foldl ?_ ?_); rotate_left; intro x1 x2 h1) | ((with_reducible apply Within.foldl_fst ?_ ?_); rotate_left; intro x1 x2 h1) | split | fail

theorem State.writeWindow_within (s : State) (o : Owner) (a : Nat) (w : Word) : Within 0x430100833 s (State.writeWindow s o a w) := by
  unfold State.writeWindow
  repeat' first | with_reducible assumption | with_reducible exact Within.refl _ _ | ((with_reducible apply Within.step (State.ctxWrite_within ..) ?_ ?_); exact rfl) | ((with_reducible apply Within.step (State.taskWrite_within ..) ?_ ?_); exact rfl) | ((with_reducible apply Within.step (State.descWrite_within ..) ?_ ?_); exact rfl) | ((with_reducible apply Within.step (State.msixWrite_within ..) ?_ ?_); exact rfl) | ((with_reducible apply Within.step (State.dmaSetWrite_within ..) ?_ ?_); exact rfl) | ((with_reducible apply Within.step (State.channelWrite_within ..) ?_ ?_); exact rfl) | ((with_reducible apply Within.step (State.slotWrite_within ..) ?_ ?_); exact rfl) | ((with_reducible apply Within.step (State.setWin_within ..) ?_ ?_); exact rfl) | split | fail

theorem State.writeAny_within (s : State) (o : Owner) (slot : Nat) (a : Nat) (w : Word) : Within 0x1ffffffdbf s (State.writeAny s o slot a w) := by
  unfold State.writeAny
  repeat' first | with_reducible assumption | with_reducible exact Within.refl _ _ | ((with_reducible apply Within.step (State.writeWindow_within ..) ?_ ?_); exact rfl) | ((with_reducible apply Within.step (State.writePage_within ..) ?_ ?_); exact rfl) | split | fail

theorem execClkLockLost_within (d : Fin 40) (s : State) : WithinO 0x2 s (execClkLockLost d s) := by
  unfold execClkLockLost
  repeat' first | with_reducible assumption | with_reducible exact Within.refl _ _ | with_reducible apply WithinO.of_next ?_ | ((with_reducible apply Within.step (State.clkLost_within ..) ?_ ?_); exact rfl) | split | fail

theorem State.ppInfo_within (s : State) : Within 0x100000 s (State.ppInfo s).1 := by
  unfold State.ppInfo
  repeat' first | with_reducible assumption | with_reducible exact Within.refl _ _ | ((try lift_lets -underBinder); intro x1; first | (have h0 := fun a => x1 a; clear h0; unfold x1; clear x1) | (refine Within.cut (m := 0x100000) (s := s) (v := x1) ?_ ?_; unfold x1; rotate_left; intro h1; clear_value x1) | (refine Within.cut (m := 0x100000) (s := s) (v := x1.1) ?_ ?_; unfold x1; rotate_left; intro h1; clear_value x1) | clear_value x1 | (refine Within.cut (m := 0x100000) (s := s) (v := x1) ?_ ?_; unfold x1; rotate_left; intro h1) | (refine Within.cut (m := 0x100000) (s := s) (v := x1.1) ?_ ?_; unfold x1; rotate_left; intro h1) | skip) | ((with_reducible apply Within.step (State.putPipe_within ..) ?_ ?_); exact rfl) | with_reducible apply Within.of_fst (by assumption) ?_ | split | fail

theorem State.icnt_within (s : State) (g : Nat) (k : Nat) : Within 0x100000 s (State.icnt s g k).1 := by
  unfold State.icnt
  repeat' first | with_reducible assumption | with_reducible exact Within.refl _ _ | ((try lift_lets -underBinder); intro x1; first | (have h0 := fun a => x1 a; clear h0; unfold x1; clear x1) | (refine Within.cut (m := 0x100000) (s := s) (v := x1) ?_ ?_; unfold x1; rotate_left; intro h1; clear_value x1) | (refine Within.cut (m := 0x100000) (s := s) (v := x1.1) ?_ ?_; unfold x1; rotate_left; intro h1; clear_value x1) | clear_value x1 | (refine Within.cut (m := 0x100000) (s := s) (v := x1) ?_ ?_; unfold x1; rotate_left; intro h1) | (refine Within.cut (m := 0x100000) (s := s) (v := x1.1) ?_ ?_; unfold x1; rotate_left; intro h1) | skip) | ((with_reducible apply Within.step (State.putIntk_within ..) ?_ ?_); exact rfl) | with_reducible apply Within.of_fst (by assumption) ?_ | split | fail

theorem State.inLevel_within (s : State) : Within 0x80 s (State.inLevel s).1 := by
  unfold State.inLevel
  repeat' first | with_reducible assumption | with_reducible exact Within.refl _ _ | ((with_reducible apply Within.step (State.drawn_within ..) ?_ ?_); exact rfl) | split | fail

theorem State.hitRead_within (s : State) : Within 0x1000000 s (State.hitRead s).1 := by
  unfold State.hitRead
  repeat' first | with_reducible assumption | with_reducible exact Within.refl _ _ | ((try lift_lets -underBinder); intro x1; first | (have h0 := fun a => x1 a; clear h0; unfold x1; clear x1) | (refine Within.cut (m := 0x1000000) (s := s) (v := x1) ?_ ?_; unfold x1; rotate_left; intro h1; clear_value x1) | (refine Within.cut (m := 0x1000000) (s := s) (v := x1.1) ?_ ?_; unfold x1; rotate_left; intro h1; clear_value x1) | clear_value x1 | (refine Within.cut (m := 0x1000000) (s := s) (v := x1) ?_ ?_; unfold x1; rotate_left; intro h1) | (refine Within.cut (m := 0x1000000) (s := s) (v := x1.1) ?_ ?_; unfold x1; rotate_left; intro h1) | skip) | split | (apply Within.upd; (dsimp only; try exact rfl); exact ⟨Nat.le_refl _, List.prefix_refl _, Nat.le_refl _, ⟨rfl, rfl, rfl⟩, .inr ⟨rfl, rfl, rfl⟩, .inr rfl, .inr rfl, .inr rfl, .inr rfl, .inr rfl, .inr rfl, .inr rfl, .inr rfl, .inr ⟨rfl, rfl⟩, .inr rfl, .inr rfl, .inr rfl, .inr rfl, .inr rfl, .inr rfl, .inr rfl, .inr rfl, .inr ⟨rfl, rfl, rfl⟩, .inr ⟨rfl, rfl, rfl, rfl, rfl⟩, .inr ⟨rfl, rfl, rfl, rfl⟩, .inr ⟨rfl, rfl, rfl⟩, .inr ⟨rfl, rfl⟩, .inr rfl, .inl rfl, .inr rfl, .inr rfl, .inr rfl, .inr ⟨rfl, rfl, rfl, rfl, rfl⟩, .inr rfl, .inr rfl, .inr ⟨rfl, rfl⟩, .inr ⟨rfl, rfl⟩, .inr rfl, .inr ⟨rfl, rfl⟩, .inr ⟨rfl, rfl, rfl⟩, .inr ⟨rfl, rfl, rfl, rfl⟩⟩) | fail

theorem State.timeRead_within (s : State) : Within 0x2 s (State.timeRead s).1 := by
  unfold State.timeRead
  repeat' first | with_reducible assumption | with_reducible exact Within.refl _ _ | ((try lift_lets -underBinder); intro x1; first | (have h0 := fun a => x1 a; clear h0; unfold x1; clear x1) | (refine Within.cut (m := 0x2) (s := s) (v := x1) ?_ ?_; unfold x1; rotate_left; intro h1; clear_value x1) | (refine Within.cut (m := 0x2) (s := s) (v := x1.1) ?_ ?_; unfold x1; rotate_left; intro h1; clear_value x1) | clear_value x1 | (refine Within.cut (m := 0x2) (s := s) (v := x1) ?_ ?_; unfold x1; rotate_left; intro h1) | (refine Within.cut (m := 0x2) (s := s) (v := x1.1) ?_ ?_; unfold x1; rotate_left; intro h1) | skip) | ((with_reducible apply Within.step (State.wr64_within ..) ?_ ?_); exact rfl) | ((with_reducible apply Within.step (State.wr_within ..) ?_ ?_); exact rfl) | split | fail

theorem State.mtwiRx_within (s : State) : Within 0x80000000 s (State.mtwiRx s).1 := by
  unfold State.mtwiRx
  repeat' first | with_reducible assumption | with_reducible exact Within.refl _ _ | ((with_reducible apply Within.step (State.setFifo_within ..) ?_ ?_); exact rfl) | with_reducible apply Within.of_fst (by assumption) ?_ | split | fail

theorem State.qspiRead_within (s : State) : Within 0x80000000 s (State.qspiRead s).1 := by
  unfold State.qspiRead
  repeat' first | with_reducible assumption | with_reducible exact Within.refl _ _ | ((try lift_lets -underBinder); intro x1; first | (have h0 := fun a => x1 a; clear h0; unfold x1; clear x1) | (refine Within.cut (m := 0x80000000) (s := s) (v := x1) ?_ ?_; unfold x1; rotate_left; intro h1; clear_value x1) | (refine Within.cut (m := 0x80000000) (s := s) (v := x1.1) ?_ ?_; unfold x1; rotate_left; intro h1; clear_value x1) | clear_value x1 | (refine Within.cut (m := 0x80000000) (s := s) (v := x1) ?_ ?_; unfold x1; rotate_left; intro h1) | (refine Within.cut (m := 0x80000000) (s := s) (v := x1.1) ?_ ?_; unfold x1; rotate_left; intro h1) | skip) | ((with_reducible apply Within.step (State.fifoGet_within ..) ?_ ?_); exact rfl) | with_reducible apply Within.of_fst (by assumption) ?_ | split | fail

theorem State.lineHi_within (s : State) (v : Nat) : Within 0x2 s (State.lineHi s v).1 := by
  unfold State.lineHi
  repeat' first | with_reducible assumption | with_reducible exact Within.refl _ _ | ((try lift_lets -underBinder); intro x1; first | (have h0 := fun a => x1 a; clear h0; unfold x1; clear x1) | (refine Within.cut (m := 0x2) (s := s) (v := x1) ?_ ?_; unfold x1; rotate_left; intro h1; clear_value x1) | (refine Within.cut (m := 0x2) (s := s) (v := x1.1) ?_ ?_; unfold x1; rotate_left; intro h1; clear_value x1) | clear_value x1 | (refine Within.cut (m := 0x2) (s := s) (v := x1) ?_ ?_; unfold x1; rotate_left; intro h1) | (refine Within.cut (m := 0x2) (s := s) (v := x1.1) ?_ ?_; unfold x1; rotate_left; intro h1) | skip) | ((with_reducible apply Within.step (State.clearRoc_within ..) ?_ ?_); exact rfl) | split | fail

theorem State.readActs_within (s : State) (k : PageKind) (n : Nat) (off : Nat) : Within 0x6911100b3 s (State.readActs s k n off).1 := by
  unfold State.readActs
  repeat' first | with_reducible assumption | with_reducible exact Within.refl _ _ | ((with_reducible apply Within.step (State.lineHi_within ..) ?_ ?_); exact rfl) | ((with_reducible apply Within.step (State.qspiRead_within ..) ?_ ?_); exact rfl) | ((with_reducible apply Within.step (State.mtwiRx_within ..) ?_ ?_); exact rfl) | ((with_reducible apply Within.step (State.timeRead_within ..) ?_ ?_); exact rfl) | ((with_reducible apply Within.step (State.hitRead_within ..) ?_ ?_); exact rfl) | ((with_reducible apply Within.step (State.inLevel_within ..) ?_ ?_); exact rfl) | ((with_reducible apply Within.step (State.icnt_within ..) ?_ ?_); exact rfl) | ((with_reducible apply Within.step (State.ppInfo_within ..) ?_ ?_); exact rfl) | ((with_reducible apply Within.step (State.cmtLineLo_within ..) ?_ ?_); exact rfl) | ((with_reducible apply Within.step (State.logData0_within ..) ?_ ?_); exact rfl) | ((with_reducible apply Within.step (State.supRead_within ..) ?_ ?_); exact rfl) | ((with_reducible apply Within.step (State.tblRead_within ..) ?_ ?_); exact rfl) | ((with_reducible apply Within.step (State.twlRx_within ..) ?_ ?_); exact rfl) | ((with_reducible apply Within.step (State.lvlNext_within ..) ?_ ?_); exact rfl) | ((with_reducible apply Within.step (State.hqPop_within ..) ?_ ?_); exact rfl) | ((with_reducible apply Within.step (State.lineLo_within ..) ?_ ?_); exact rfl) | with_reducible apply Within.got ?_ | with_reducible apply Within.of_fst (by assumption) ?_ | split | fail

theorem State.parRead_within (s : State) : Within 0x10000000 s (State.parRead s) := by
  unfold State.parRead
  repeat' first | with_reducible assumption | with_reducible exact Within.refl _ _ | ((with_reducible apply Within.step (State.setQ_within ..) ?_ ?_); exact rfl) | ((with_reducible apply Within.foldl ?_ ?_); rotate_left; intro x1 x2 h1) | ((with_reducible apply Within.foldl_fst ?_ ?_); rotate_left; intro x1 x2 h1) | split | fail

theorem State.readPage_within (s : State) (p : Nat) (off : Nat) : Within 0x6911100b3 s (State.readPage s p off).1 := by
  unfold State.readPage
  repeat' first | with_reducible assumption | with_reducible exact Within.refl _ _ | ((try lift_lets -underBinder); intro x1; first | (have h0 := fun a => x1 a; clear h0; unfold x1; clear x1) | (refine Within.cut (m := 0x6911100b3) (s := s) (v := x1) ?_ ?_; unfold x1; rotate_left; intro h1; clear_value x1) | (refine Within.cut (m := 0x6911100b3) (s := s) (v := x1.1) ?_ ?_; unfold x1; rotate_left; intro h1; clear_value x1) | clear_value x1 | (refine Within.cut (m := 0x6911100b3) (s := s) (v := x1) ?_ ?_; unfold x1; rotate_left; intro h1) | (refine Within.cut (m := 0x6911100b3) (s := s) (v := x1.1) ?_ ?_; unfold x1; rotate_left; intro h1) | skip) | ((with_reducible apply Within.step (State.parRead_within ..) ?_ ?_); exact rfl) | ((with_reducible apply Within.step (State.readActs_within ..) ?_ ?_); exact rfl) | ((with_reducible apply Within.step (State.clearRoc_within ..) ?_ ?_); exact rfl) | with_reducible apply Within.of_fst (by assumption) ?_ | split | fail

theorem State.readAny_within (s : State) (o : Owner) (a : Nat) : Within 0x16911100b3 s (State.readAny s o a).1 := by
  unfold State.readAny
  repeat' first | with_reducible assumption | with_reducible exact Within.refl _ _ | ((with_reducible apply Within.step (State.readPage_within ..) ?_ ?_); exact rfl) | ((with_reducible apply Within.step (State.touch_within ..) ?_ ?_); exact rfl) | split | fail

end Sys2Proof.Machine
end

