-- ==== Sys2Proof/Laws/FrameMtwi.lean ====
section
/-!
SUPPORT. Frames of Sys2Proof/Machine/Mtwi.lean: what each operation there may change.
-/
set_option linter.unusedTactic false
set_option linter.unreachableTactic false

namespace Sys2Proof.Machine

theorem State.mtwiStart_within (s : State) (a : Nat) : Within 0x2 s (State.mtwiStart s a) := by
  unfold State.mtwiStart
  repeat' first | with_reducible assumption | with_reducible exact Within.refl _ _ | ((with_reducible apply Within.step (State.setFld_within ..) ?_ ?_); exact rfl) | split | fail

theorem execMtwiAddress_within (a : Fin 128) (s : State) : WithinO 0x2 s (execMtwiAddress a s) := by
  unfold execMtwiAddress
  repeat' first | with_reducible assumption | with_reducible exact Within.refl _ _ | with_reducible apply WithinO.of_next ?_ | ((with_reducible apply Within.step (State.mtwiStart_within ..) ?_ ?_); exact rfl) | split | fail

theorem State.mtwiStop_within (s : State) : Within 0x2 s (State.mtwiStop s) := by
  unfold State.mtwiStop
  repeat' first | with_reducible assumption | with_reducible exact Within.refl _ _ | ((with_reducible apply Within.step (State.setFld_within ..) ?_ ?_); exact rfl) | split | fail

theorem State.mtwiFault_within (s : State) (flag : Fld) (cnt : Fld) : Within 0x32 s (State.mtwiFault s flag cnt) := by
  unfold State.mtwiFault
  repeat' first | with_reducible assumption | with_reducible exact Within.refl _ _ | ((with_reducible apply Within.step (State.flag_within ..) ?_ ?_); exact rfl) | ((with_reducible apply Within.step (State.bump_within ..) ?_ ?_); exact rfl) | split | fail

theorem State.mtwiBad_within (s : State) : Within 0x32 s (State.mtwiBad s) := by
  unfold State.mtwiBad
  repeat' first | with_reducible assumption | with_reducible exact Within.refl _ _ | ((with_reducible apply Within.step (State.mtwiFault_within ..) ?_ ?_); exact rfl) | split | fail

theorem State.mtwiRefused_within (s : State) : Within 0x32 s (State.mtwiRefused s) := by
  unfold State.mtwiRefused
  repeat' first | with_reducible assumption | with_reducible exact Within.refl _ _ | ((with_reducible apply Within.step (State.mtwiFault_within ..) ?_ ?_); exact rfl) | split | fail

theorem State.mtwiPtr_within (s : State) (a : Nat) : Within 0x2 s (State.mtwiPtr s a) := by
  unfold State.mtwiPtr
  repeat' first | with_reducible assumption | with_reducible exact Within.refl _ _ | ((with_reducible apply Within.step (State.wr_within ..) ?_ ?_); exact rfl) | split | fail

theorem State.mtwiWrite_within : ∀ (s : State) (a : Nat) (y0 : List Byte), Within 0x1ffffffdbf s (State.mtwiWrite s a y0).1
  | s, a, [] => by
    unfold State.mtwiWrite
    repeat' first | with_reducible assumption | with_reducible exact Within.refl _ _ | ((with_reducible apply Within.step (Within.refl _ _) ?_ ?_); exact rfl) | with_reducible assumption | with_reducible exact Within.refl _ _ | ((try lift_lets -underBinder); intro x1; first | (have h0 := fun a => x1 a; clear h0; unfold x1; clear x1) | (refine Within.cut (m := 0x1ffffffdbf) (s := s) (v := x1) ?_ ?_; unfold x1; rotate_left; intro h1; clear_value x1) | (refine Within.cut (m := 0x1ffffffdbf) (s := s) (v := x1.1) ?_ ?_; unfold x1; rotate_left; intro h1; clear_value x1) | clear_value x1 | (refine Within.cut (m := 0x1ffffffdbf) (s := s) (v := x1) ?_ ?_; unfold x1; rotate_left; intro h1) | (refine Within.cut (m := 0x1ffffffdbf) (s := s) (v := x1.1) ?_ ?_; unfold x1; rotate_left; intro h1) | skip) | ((with_reducible apply Within.step (State.mtwiPtr_within ..) ?_ ?_); exact rfl) | ((with_reducible apply Within.step (State.mtwiRefused_within ..) ?_ ?_); exact rfl) | ((with_reducible apply Within.step (State.writeAny_within ..) ?_ ?_); exact rfl) | ((with_reducible apply Within.step (State.bump_within ..) ?_ ?_); exact rfl) | split | fail
  | s, a, [_] => by
    unfold State.mtwiWrite
    repeat' first | with_reducible assumption | with_reducible exact Within.refl _ _ | ((with_reducible apply Within.step (Within.refl _ _) ?_ ?_); exact rfl) | with_reducible assumption | with_reducible exact Within.refl _ _ | ((try lift_lets -underBinder); intro x1; first | (have h0 := fun a => x1 a; clear h0; unfold x1; clear x1) | (refine Within.cut (m := 0x1ffffffdbf) (s := s) (v := x1) ?_ ?_; unfold x1; rotate_left; intro h1; clear_value x1) | (refine Within.cut (m := 0x1ffffffdbf) (s := s) (v := x1.1) ?_ ?_; unfold x1; rotate_left; intro h1; clear_value x1) | clear_value x1 | (refine Within.cut (m := 0x1ffffffdbf) (s := s) (v := x1) ?_ ?_; unfold x1; rotate_left; intro h1) | (refine Within.cut (m := 0x1ffffffdbf) (s := s) (v := x1.1) ?_ ?_; unfold x1; rotate_left; intro h1) | skip) | ((with_reducible apply Within.step (State.mtwiPtr_within ..) ?_ ?_); exact rfl) | ((with_reducible apply Within.step (State.mtwiRefused_within ..) ?_ ?_); exact rfl) | ((with_reducible apply Within.step (State.writeAny_within ..) ?_ ?_); exact rfl) | ((with_reducible apply Within.step (State.bump_within ..) ?_ ?_); exact rfl) | split | fail
  | s, a, [_, _] => by
    unfold State.mtwiWrite
    repeat' first | with_reducible assumption | with_reducible exact Within.refl _ _ | ((with_reducible apply Within.step (Within.refl _ _) ?_ ?_); exact rfl) | with_reducible assumption | with_reducible exact Within.refl _ _ | ((try lift_lets -underBinder); intro x1; first | (have h0 := fun a => x1 a; clear h0; unfold x1; clear x1) | (refine Within.cut (m := 0x1ffffffdbf) (s := s) (v := x1) ?_ ?_; unfold x1; rotate_left; intro h1; clear_value x1) | (refine Within.cut (m := 0x1ffffffdbf) (s := s) (v := x1.1) ?_ ?_; unfold x1; rotate_left; intro h1; clear_value x1) | clear_value x1 | (refine Within.cut (m := 0x1ffffffdbf) (s := s) (v := x1) ?_ ?_; unfold x1; rotate_left; intro h1) | (refine Within.cut (m := 0x1ffffffdbf) (s := s) (v := x1.1) ?_ ?_; unfold x1; rotate_left; intro h1) | skip) | ((with_reducible apply Within.step (State.mtwiPtr_within ..) ?_ ?_); exact rfl) | ((with_reducible apply Within.step (State.mtwiRefused_within ..) ?_ ?_); exact rfl) | ((with_reducible apply Within.step (State.writeAny_within ..) ?_ ?_); exact rfl) | ((with_reducible apply Within.step (State.bump_within ..) ?_ ?_); exact rfl) | split | fail
  | s, a, [_, _, _] => by
    unfold State.mtwiWrite
    repeat' first | with_reducible assumption | with_reducible exact Within.refl _ _ | ((with_reducible apply Within.step (Within.refl _ _) ?_ ?_); exact rfl) | with_reducible assumption | with_reducible exact Within.refl _ _ | ((try lift_lets -underBinder); intro x1; first | (have h0 := fun a => x1 a; clear h0; unfold x1; clear x1) | (refine Within.cut (m := 0x1ffffffdbf) (s := s) (v := x1) ?_ ?_; unfold x1; rotate_left; intro h1; clear_value x1) | (refine Within.cut (m := 0x1ffffffdbf) (s := s) (v := x1.1) ?_ ?_; unfold x1; rotate_left; intro h1; clear_value x1) | clear_value x1 | (refine Within.cut (m := 0x1ffffffdbf) (s := s) (v := x1) ?_ ?_; unfold x1; rotate_left; intro h1) | (refine Within.cut (m := 0x1ffffffdbf) (s := s) (v := x1.1) ?_ ?_; unfold x1; rotate_left; intro h1) | skip) | ((with_reducible apply Within.step (State.mtwiPtr_within ..) ?_ ?_); exact rfl) | ((with_reducible apply Within.step (State.mtwiRefused_within ..) ?_ ?_); exact rfl) | ((with_reducible apply Within.step (State.writeAny_within ..) ?_ ?_); exact rfl) | ((with_reducible apply Within.step (State.bump_within ..) ?_ ?_); exact rfl) | split | fail
  | s, a, _ :: _ :: _ :: _ :: t => by
    unfold State.mtwiWrite
    repeat' first | with_reducible assumption | with_reducible exact Within.refl _ _ | ((with_reducible apply Within.step (State.mtwiWrite_within _ _ t) ?_ ?_); exact rfl) | with_reducible assumption | with_reducible exact Within.refl _ _ | ((try lift_lets -underBinder); intro x1; first | (have h0 := fun a => x1 a; clear h0; unfold x1; clear x1) | (refine Within.cut (m := 0x1ffffffdbf) (s := s) (v := x1) ?_ ?_; unfold x1; rotate_left; intro h1; clear_value x1) | (refine Within.cut (m := 0x1ffffffdbf) (s := s) (v := x1.1) ?_ ?_; unfold x1; rotate_left; intro h1; clear_value x1) | clear_value x1 | (refine Within.cut (m := 0x1ffffffdbf) (s := s) (v := x1) ?_ ?_; unfold x1; rotate_left; intro h1) | (refine Within.cut (m := 0x1ffffffdbf) (s := s) (v := x1.1) ?_ ?_; unfold x1; rotate_left; intro h1) | skip) | ((with_reducible apply Within.step (State.mtwiPtr_within ..) ?_ ?_); exact rfl) | ((with_reducible apply Within.step (State.mtwiRefused_within ..) ?_ ?_); exact rfl) | ((with_reducible apply Within.step (State.writeAny_within ..) ?_ ?_); exact rfl) | ((with_reducible apply Within.step (State.bump_within ..) ?_ ?_); exact rfl) | split | fail

theorem State.mtwiRead_within (s : State) (a : Nat) (y0 : Nat) : Within 0x16911100b3 s (State.mtwiRead s a y0).1 := by
  induction y0 generalizing s a with
  | zero  =>
    unfold State.mtwiRead
    repeat' first | with_reducible assumption | with_reducible exact Within.refl _ _ | ((with_reducible apply Within.step (Within.refl _ _) ?_ ?_); exact rfl) | with_reducible assumption | with_reducible exact Within.refl _ _ | ((try lift_lets -underBinder); intro x1; first | (have h0 := fun a => x1 a; clear h0; unfold x1; clear x1) | (refine Within.cut (m := 0x16911100b3) (s := s) (v := x1) ?_ ?_; unfold x1; rotate_left; intro h1; clear_value x1) | (refine Within.cut (m := 0x16911100b3) (s := s) (v := x1.1) ?_ ?_; unfold x1; rotate_left; intro h1; clear_value x1) | clear_value x1 | (refine Within.cut (m := 0x16911100b3) (s := s) (v := x1) ?_ ?_; unfold x1; rotate_left; intro h1) | (refine Within.cut (m := 0x16911100b3) (s := s) (v := x1.1) ?_ ?_; unfold x1; rotate_left; intro h1) | skip) | ((with_reducible apply Within.step (State.mtwiPtr_within ..) ?_ ?_); exact rfl) | ((with_reducible apply Within.step (State.mtwiRefused_within ..) ?_ ?_); exact rfl) | ((with_reducible apply Within.step (State.readAny_within ..) ?_ ?_); exact rfl) | ((with_reducible apply Within.step (State.bump_within ..) ?_ ?_); exact rfl) | with_reducible apply Within.of_fst (by assumption) ?_ | split | fail
  | succ n ih =>
    unfold State.mtwiRead
    repeat' first | with_reducible assumption | with_reducible exact Within.refl _ _ | ((with_reducible apply Within.step (ih ..) ?_ ?_); exact rfl) | with_reducible assumption | with_reducible exact Within.refl _ _ | ((try lift_lets -underBinder); intro x1; first | (have h0 := fun a => x1 a; clear h0; unfold x1; clear x1) | (refine Within.cut (m := 0x16911100b3) (s := s) (v := x1) ?_ ?_; unfold x1; rotate_left; intro h1; clear_value x1) | (refine Within.cut (m := 0x16911100b3) (s := s) (v := x1.1) ?_ ?_; unfold x1; rotate_left; intro h1; clear_value x1) | clear_value x1 | (refine Within.cut (m := 0x16911100b3) (s := s) (v := x1) ?_ ?_; unfold x1; rotate_left; intro h1) | (refine Within.cut (m := 0x16911100b3) (s := s) (v := x1.1) ?_ ?_; unfold x1; rotate_left; intro h1) | skip) | ((with_reducible apply Within.step (State.mtwiPtr_within ..) ?_ ?_); exact rfl) | ((with_reducible apply Within.step (State.mtwiRefused_within ..) ?_ ?_); exact rfl) | ((with_reducible apply Within.step (State.readAny_within ..) ?_ ?_); exact rfl) | ((with_reducible apply Within.step (State.bump_within ..) ?_ ?_); exact rfl) | with_reducible apply Within.of_fst (by assumption) ?_ | split | fail

theorem State.mtwiReg_within (s : State) (ofs : Nat) (data : List Byte) (rd : Nat) : Within 0x1ffffffdbf s (State.mtwiReg s ofs data rd) := by
  unfold State.mtwiReg
  repeat' first | with_reducible assumption | with_reducible exact Within.refl _ _ | ((try lift_lets -underBinder); intro x1; first | (have h0 := fun a => x1 a; clear h0; unfold x1; clear x1) | (refine Within.cut (m := 0x1ffffffdbf) (s := s) (v := x1) ?_ ?_; unfold x1; rotate_left; intro h1; clear_value x1) | (refine Within.cut (m := 0x1ffffffdbf) (s := s) (v := x1.1) ?_ ?_; unfold x1; rotate_left; intro h1; clear_value x1) | clear_value x1 | (refine Within.cut (m := 0x1ffffffdbf) (s := s) (v := x1) ?_ ?_; unfold x1; rotate_left; intro h1) | (refine Within.cut (m := 0x1ffffffdbf) (s := s) (v := x1.1) ?_ ?_; unfold x1; rotate_left; intro h1) | skip) | ((with_reducible apply Within.step (State.mtwiRead_within ..) ?_ ?_); exact rfl) | ((with_reducible apply Within.step (State.mtwiWrite_within ..) ?_ ?_); exact rfl) | ((with_reducible apply Within.step (State.mtwiPtr_within ..) ?_ ?_); exact rfl) | ((with_reducible apply Within.step (State.mtwiBad_within ..) ?_ ?_); exact rfl) | ((with_reducible apply Within.step (State.mtwiStop_within ..) ?_ ?_); exact rfl) | ((with_reducible apply Within.step (State.emit_within ..) ?_ ?_); exact rfl) | with_reducible apply Within.of_fst (by assumption) ?_ | split | fail

theorem execMtwiRegCmd_within (ofs : Word) (data : List Byte) (rd : Nat) (s : State) : WithinO 0x1ffffffdbf s (execMtwiRegCmd ofs data rd s) := by
  unfold execMtwiRegCmd
  repeat' first | with_reducible assumption | with_reducible exact Within.refl _ _ | with_reducible apply WithinO.of_next ?_ | ((with_reducible apply Within.step (State.mtwiReg_within ..) ?_ ?_); exact rfl) | split | fail

theorem State.mboxIn_within (s : State) (data : List Byte) : Within 0x80000032 s (State.mboxIn s data) := by
  unfold State.mboxIn
  repeat' first | with_reducible assumption | with_reducible exact Within.refl _ _ | ((with_reducible apply Within.step (State.mtwiFault_within ..) ?_ ?_); exact rfl) | ((with_reducible apply Within.step (State.fifoPut_within ..) ?_ ?_); exact rfl) | ((with_reducible apply Within.foldl ?_ ?_); rotate_left; intro x1 x2 h1) | ((with_reducible apply Within.foldl_fst ?_ ?_); rotate_left; intro x1 x2 h1) | split | fail

theorem State.mboxOut_within (s : State) (y0 : Nat) : Within 0x80000032 s (State.mboxOut s y0).1 := by
  induction y0 generalizing s with
  | zero  =>
    unfold State.mboxOut
    repeat' first | with_reducible assumption | with_reducible exact Within.refl _ _ | ((with_reducible apply Within.step (Within.refl _ _) ?_ ?_); exact rfl) | with_reducible assumption | with_reducible exact Within.refl _ _ | ((try lift_lets -underBinder); intro x1; first | (have h0 := fun a => x1 a; clear h0; unfold x1; clear x1) | (refine Within.cut (m := 0x80000032) (s := s) (v := x1) ?_ ?_; unfold x1; rotate_left; intro h1; clear_value x1) | (refine Within.cut (m := 0x80000032) (s := s) (v := x1.1) ?_ ?_; unfold x1; rotate_left; intro h1; clear_value x1) | clear_value x1 | (refine Within.cut (m := 0x80000032) (s := s) (v := x1) ?_ ?_; unfold x1; rotate_left; intro h1) | (refine Within.cut (m := 0x80000032) (s := s) (v := x1.1) ?_ ?_; unfold x1; rotate_left; intro h1) | skip) | ((with_reducible apply Within.step (State.mtwiFault_within ..) ?_ ?_); exact rfl) | ((with_reducible apply Within.step (State.setFifo_within ..) ?_ ?_); exact rfl) | with_reducible apply Within.of_fst (by assumption) ?_ | split | fail
  | succ n ih =>
    unfold State.mboxOut
    repeat' first | with_reducible assumption | with_reducible exact Within.refl _ _ | ((with_reducible apply Within.step (ih ..) ?_ ?_); exact rfl) | with_reducible assumption | with_reducible exact Within.refl _ _ | ((try lift_lets -underBinder); intro x1; first | (have h0 := fun a => x1 a; clear h0; unfold x1; clear x1) | (refine Within.cut (m := 0x80000032) (s := s) (v := x1) ?_ ?_; unfold x1; rotate_left; intro h1; clear_value x1) | (refine Within.cut (m := 0x80000032) (s := s) (v := x1.1) ?_ ?_; unfold x1; rotate_left; intro h1; clear_value x1) | clear_value x1 | (refine Within.cut (m := 0x80000032) (s := s) (v := x1) ?_ ?_; unfold x1; rotate_left; intro h1) | (refine Within.cut (m := 0x80000032) (s := s) (v := x1.1) ?_ ?_; unfold x1; rotate_left; intro h1) | skip) | ((with_reducible apply Within.step (State.mtwiFault_within ..) ?_ ?_); exact rfl) | ((with_reducible apply Within.step (State.setFifo_within ..) ?_ ?_); exact rfl) | with_reducible apply Within.of_fst (by assumption) ?_ | split | fail

theorem State.mtwiMbox_within (s : State) (cmd : Nat) (data : List Byte) (rd : Nat) : Within 0x80000032 s (State.mtwiMbox s cmd data rd) := by
  unfold State.mtwiMbox
  repeat' first | with_reducible assumption | with_reducible exact Within.refl _ _ | ((try lift_lets -underBinder); intro x1; first | (have h0 := fun a => x1 a; clear h0; unfold x1; clear x1) | (refine Within.cut (m := 0x80000032) (s := s) (v := x1) ?_ ?_; unfold x1; rotate_left; intro h1; clear_value x1) | (refine Within.cut (m := 0x80000032) (s := s) (v := x1.1) ?_ ?_; unfold x1; rotate_left; intro h1; clear_value x1) | clear_value x1 | (refine Within.cut (m := 0x80000032) (s := s) (v := x1) ?_ ?_; unfold x1; rotate_left; intro h1) | (refine Within.cut (m := 0x80000032) (s := s) (v := x1.1) ?_ ?_; unfold x1; rotate_left; intro h1) | skip) | ((with_reducible apply Within.step (State.mboxOut_within ..) ?_ ?_); exact rfl) | ((with_reducible apply Within.step (State.mboxIn_within ..) ?_ ?_); exact rfl) | ((with_reducible apply Within.step (State.mtwiBad_within ..) ?_ ?_); exact rfl) | ((with_reducible apply Within.step (State.mtwiStop_within ..) ?_ ?_); exact rfl) | ((with_reducible apply Within.step (State.emit_within ..) ?_ ?_); exact rfl) | with_reducible apply Within.of_fst (by assumption) ?_ | split | fail

theorem execMtwiMboxCmd_within (cmd : Fin 256) (data : List Byte) (rd : Nat) (s : State) : WithinO 0x80000032 s (execMtwiMboxCmd cmd data rd s) := by
  unfold execMtwiMboxCmd
  repeat' first | with_reducible assumption | with_reducible exact Within.refl _ _ | with_reducible apply WithinO.of_next ?_ | ((with_reducible apply Within.step (State.mtwiMbox_within ..) ?_ ?_); exact rfl) | split | fail

end Sys2Proof.Machine
end

