-- ==== Sys2Proof/Laws/Keeps.lean ====
section
/-!
SUPPORT. What a frame says about each accessor of the state, and what the operations that record things (events, flags, interrupts, the
event log, queue words) leave alone.
-/
namespace Sys2Proof.Machine

theorem Within.mem_eq {m : Nat} {s t : State} (h : Within m s t) (hm : m / 2 ^ 0 % 2 = 0) : t.mem = s.mem :=
  (h.dram.resolve_left (by unfold may; omega)).1

theorem Within.blank_eq {m : Nat} {s t : State} (h : Within m s t) (hm : m / 2 ^ 0 % 2 = 0) : t.blank = s.blank :=
  (h.dram.resolve_left (by unfold may; omega)).2.1

theorem Within.badLine_eq {m : Nat} {s t : State} (h : Within m s t) (hm : m / 2 ^ 0 % 2 = 0) : t.badLine = s.badLine :=
  (h.dram.resolve_left (by unfold may; omega)).2.2

theorem Within.regs_eq {m : Nat} {s t : State} (h : Within m s t) (hm : m / 2 ^ 1 % 2 = 0) : t.regs = s.regs :=
  (h.regs.resolve_left (by unfold may; omega))

theorem Within.shadow_eq {m : Nat} {s t : State} (h : Within m s t) (hm : m / 2 ^ 2 % 2 = 0) : t.shadow = s.shadow :=
  (h.shadow.resolve_left (by unfold may; omega))

theorem Within.wroDone_eq {m : Nat} {s t : State} (h : Within m s t) (hm : m / 2 ^ 3 % 2 = 0) : t.wroDone = s.wroDone :=
  (h.once.resolve_left (by unfold may; omega))

theorem Within.window_eq {m : Nat} {s t : State} (h : Within m s t) (hm : m / 2 ^ 4 % 2 = 0) : t.window = s.window :=
  (h.window.resolve_left (by unfold may; omega))

theorem Within.out_eq {m : Nat} {s t : State} (h : Within m s t) (hm : m / 2 ^ 5 % 2 = 0) : t.out = s.out :=
  (h.out.resolve_left (by unfold may; omega))

theorem Within.raw_eq {m : Nat} {s t : State} (h : Within m s t) (hm : m / 2 ^ 6 % 2 = 0) : t.raw = s.raw :=
  (h.clock.resolve_left (by unfold may; omega))

theorem Within.free_eq {m : Nat} {s t : State} (h : Within m s t) (hm : m / 2 ^ 7 % 2 = 0) : t.free = s.free :=
  (h.free.resolve_left (by unfold may; omega))

theorem Within.fuse_eq {m : Nat} {s t : State} (h : Within m s t) (hm : m / 2 ^ 8 % 2 = 0) : t.fuse = s.fuse :=
  (h.fuse.resolve_left (by unfold may; omega))

theorem Within.trained_eq {m : Nat} {s t : State} (h : Within m s t) (hm : m / 2 ^ 9 % 2 = 0) : t.trained = s.trained :=
  (h.boot.resolve_left (by unfold may; omega)).1

theorem Within.bootWait_eq {m : Nat} {s t : State} (h : Within m s t) (hm : m / 2 ^ 9 % 2 = 0) : t.bootWait = s.bootWait :=
  (h.boot.resolve_left (by unfold may; omega)).2

theorem Within.tb_eq {m : Nat} {s t : State} (h : Within m s t) (hm : m / 2 ^ 10 % 2 = 0) : t.tb = s.tb :=
  (h.tb.resolve_left (by unfold may; omega))

theorem Within.crl_eq {m : Nat} {s t : State} (h : Within m s t) (hm : m / 2 ^ 11 % 2 = 0) : t.crl = s.crl :=
  (h.calendar.resolve_left (by unfold may; omega))

theorem Within.evio_eq {m : Nat} {s t : State} (h : Within m s t) (hm : m / 2 ^ 12 % 2 = 0) : t.evio = s.evio :=
  (h.pins.resolve_left (by unfold may; omega))

theorem Within.evf_eq {m : Nat} {s t : State} (h : Within m s t) (hm : m / 2 ^ 13 % 2 = 0) : t.evf = s.evf :=
  (h.events.resolve_left (by unfold may; omega))

theorem Within.raised_eq {m : Nat} {s t : State} (h : Within m s t) (hm : m / 2 ^ 14 % 2 = 0) : t.raised = s.raised :=
  (h.raised.resolve_left (by unfold may; omega))

theorem Within.chan_eq {m : Nat} {s t : State} (h : Within m s t) (hm : m / 2 ^ 15 % 2 = 0) : t.chan = s.chan :=
  (h.encoder.resolve_left (by unfold may; omega))

theorem Within.tg_eq {m : Nat} {s t : State} (h : Within m s t) (hm : m / 2 ^ 16 % 2 = 0) : t.tg = s.tg :=
  (h.trigger.resolve_left (by unfold may; omega))

theorem Within.view_eq {m : Nat} {s t : State} (h : Within m s t) (hm : m / 2 ^ 17 % 2 = 0) : t.view = s.view :=
  (h.view.resolve_left (by unfold may; omega))

theorem Within.link_eq {m : Nat} {s t : State} (h : Within m s t) (hm : m / 2 ^ 18 % 2 = 0) : t.link = s.link :=
  (h.link.resolve_left (by unfold may; omega)).1

theorem Within.train_eq {m : Nat} {s t : State} (h : Within m s t) (hm : m / 2 ^ 18 % 2 = 0) : t.train = s.train :=
  (h.link.resolve_left (by unfold may; omega)).2.1

theorem Within.joker_eq {m : Nat} {s t : State} (h : Within m s t) (hm : m / 2 ^ 18 % 2 = 0) : t.joker = s.joker :=
  (h.link.resolve_left (by unfold may; omega)).2.2

theorem Within.roWritten_eq {m : Nat} {s t : State} (h : Within m s t) (hm : m / 2 ^ 19 % 2 = 0) : t.roWritten = s.roWritten :=
  (h.jobs.resolve_left (by unfold may; omega)).1

theorem Within.jobA_eq {m : Nat} {s t : State} (h : Within m s t) (hm : m / 2 ^ 19 % 2 = 0) : t.jobA = s.jobA :=
  (h.jobs.resolve_left (by unfold may; omega)).2.1

theorem Within.jobN_eq {m : Nat} {s t : State} (h : Within m s t) (hm : m / 2 ^ 19 % 2 = 0) : t.jobN = s.jobN :=
  (h.jobs.resolve_left (by unfold may; omega)).2.2.1

theorem Within.valJob_eq {m : Nat} {s t : State} (h : Within m s t) (hm : m / 2 ^ 19 % 2 = 0) : t.valJob = s.valJob :=
  (h.jobs.resolve_left (by unfold may; omega)).2.2.2.1

theorem Within.jobVals_eq {m : Nat} {s t : State} (h : Within m s t) (hm : m / 2 ^ 19 % 2 = 0) : t.jobVals = s.jobVals :=
  (h.jobs.resolve_left (by unfold may; omega)).2.2.2.2

theorem Within.intake_eq {m : Nat} {s t : State} (h : Within m s t) (hm : m / 2 ^ 20 % 2 = 0) : t.intake = s.intake :=
  (h.path.resolve_left (by unfold may; omega)).1

theorem Within.pipe_eq {m : Nat} {s t : State} (h : Within m s t) (hm : m / 2 ^ 20 % 2 = 0) : t.pipe = s.pipe :=
  (h.path.resolve_left (by unfold may; omega)).2.1

theorem Within.tapBuf_eq {m : Nat} {s t : State} (h : Within m s t) (hm : m / 2 ^ 20 % 2 = 0) : t.tapBuf = s.tapBuf :=
  (h.path.resolve_left (by unfold may; omega)).2.2.1

theorem Within.corr_eq {m : Nat} {s t : State} (h : Within m s t) (hm : m / 2 ^ 20 % 2 = 0) : t.corr = s.corr :=
  (h.path.resolve_left (by unfold may; omega)).2.2.2

theorem Within.stitch_eq {m : Nat} {s t : State} (h : Within m s t) (hm : m / 2 ^ 21 % 2 = 0) : t.stitch_ = s.stitch_ :=
  (h.stitch.resolve_left (by unfold may; omega)).1

theorem Within.dot_eq {m : Nat} {s t : State} (h : Within m s t) (hm : m / 2 ^ 21 % 2 = 0) : t.dot = s.dot :=
  (h.stitch.resolve_left (by unfold may; omega)).2.1

theorem Within.winRes_eq {m : Nat} {s t : State} (h : Within m s t) (hm : m / 2 ^ 21 % 2 = 0) : t.winRes = s.winRes :=
  (h.stitch.resolve_left (by unfold may; omega)).2.2

theorem Within.mst_eq {m : Nat} {s t : State} (h : Within m s t) (hm : m / 2 ^ 22 % 2 = 0) : t.mst = s.mst :=
  (h.master.resolve_left (by unfold may; omega)).1

theorem Within.predict_eq {m : Nat} {s t : State} (h : Within m s t) (hm : m / 2 ^ 22 % 2 = 0) : t.predict = s.predict :=
  (h.master.resolve_left (by unfold may; omega)).2

theorem Within.eng_eq {m : Nat} {s t : State} (h : Within m s t) (hm : m / 2 ^ 23 % 2 = 0) : t.eng = s.eng :=
  (h.eng.resolve_left (by unfold may; omega))

theorem Within.resA_eq {m : Nat} {s t : State} (h : Within m s t) (hm : m / 2 ^ 24 % 2 = 0) : t.resA = s.resA :=
  (h.res.resolve_left (by unfold may; omega)).1

theorem Within.resN_eq {m : Nat} {s t : State} (h : Within m s t) (hm : m / 2 ^ 24 % 2 = 0) : t.resN = s.resN :=
  (h.res.resolve_left (by unfold may; omega)).2.1

theorem Within.acts_eq {m : Nat} {s t : State} (h : Within m s t) (hm : m / 2 ^ 24 % 2 = 0) : t.acts = s.acts :=
  (h.res.resolve_left (by unfold may; omega)).2.2.1

theorem Within.hits_eq {m : Nat} {s t : State} (h : Within m s t) (hm : m / 2 ^ 24 % 2 = 0) : t.hits = s.hits :=
  (h.res.resolve_left (by unfold may; omega)).2.2.2

theorem Within.net_eq {m : Nat} {s t : State} (h : Within m s t) (hm : m / 2 ^ 25 % 2 = 0) : t.net = s.net :=
  (h.net.resolve_left (by unfold may; omega))

theorem Within.stream_eq {m : Nat} {s t : State} (h : Within m s t) (hm : m / 2 ^ 26 % 2 = 0) : t.stream = s.stream :=
  (h.stream.resolve_left (by unfold may; omega))

theorem Within.dec_eq {m : Nat} {s t : State} (h : Within m s t) (hm : m / 2 ^ 27 % 2 = 0) : t.dec = s.dec :=
  (h.dec.resolve_left (by unfold may; omega))

theorem Within.queue_eq {m : Nat} {s t : State} (h : Within m s t) (hm : m / 2 ^ 28 % 2 = 0) : t.queue = s.queue :=
  (h.queue.resolve_left (by unfold may; omega)).1

theorem Within.levels_eq {m : Nat} {s t : State} (h : Within m s t) (hm : m / 2 ^ 28 % 2 = 0) : t.levels = s.levels :=
  (h.queue.resolve_left (by unfold may; omega)).2.1

theorem Within.arb_eq {m : Nat} {s t : State} (h : Within m s t) (hm : m / 2 ^ 28 % 2 = 0) : t.arb = s.arb :=
  (h.queue.resolve_left (by unfold may; omega)).2.2.1

theorem Within.qshadow_eq {m : Nat} {s t : State} (h : Within m s t) (hm : m / 2 ^ 28 % 2 = 0) : t.qshadow = s.qshadow :=
  (h.queue.resolve_left (by unfold may; omega)).2.2.2.1

theorem Within.hqLo_eq {m : Nat} {s t : State} (h : Within m s t) (hm : m / 2 ^ 28 % 2 = 0) : t.hqLo = s.hqLo :=
  (h.queue.resolve_left (by unfold may; omega)).2.2.2.2

theorem Within.dma_eq {m : Nat} {s t : State} (h : Within m s t) (hm : m / 2 ^ 29 % 2 = 0) : t.dma = s.dma :=
  (h.dma.resolve_left (by unfold may; omega))

theorem Within.zip_eq {m : Nat} {s t : State} (h : Within m s t) (hm : m / 2 ^ 30 % 2 = 0) : t.zip = s.zip :=
  (h.zip.resolve_left (by unfold may; omega))

theorem Within.twl_eq {m : Nat} {s t : State} (h : Within m s t) (hm : m / 2 ^ 31 % 2 = 0) : t.twl = s.twl :=
  (h.twl.resolve_left (by unfold may; omega)).1

theorem Within.fifo_eq {m : Nat} {s t : State} (h : Within m s t) (hm : m / 2 ^ 31 % 2 = 0) : t.fifo = s.fifo :=
  (h.twl.resolve_left (by unfold may; omega)).2

theorem Within.mc_eq {m : Nat} {s t : State} (h : Within m s t) (hm : m / 2 ^ 32 % 2 = 0) : t.mc = s.mc :=
  (h.mc.resolve_left (by unfold may; omega)).1

theorem Within.mcg_eq {m : Nat} {s t : State} (h : Within m s t) (hm : m / 2 ^ 32 % 2 = 0) : t.mcg = s.mcg :=
  (h.mc.resolve_left (by unfold may; omega)).2

theorem Within.hlth_eq {m : Nat} {s t : State} (h : Within m s t) (hm : m / 2 ^ 33 % 2 = 0) : t.hlth = s.hlth :=
  (h.hlth.resolve_left (by unfold may; omega))

theorem Within.log_eq {m : Nat} {s t : State} (h : Within m s t) (hm : m / 2 ^ 34 % 2 = 0) : t.log = s.log :=
  (h.log.resolve_left (by unfold may; omega)).1

theorem Within.logLatch_eq {m : Nat} {s t : State} (h : Within m s t) (hm : m / 2 ^ 34 % 2 = 0) : t.logLatch = s.logLatch :=
  (h.log.resolve_left (by unfold may; omega)).2

theorem Within.commits_eq {m : Nat} {s t : State} (h : Within m s t) (hm : m / 2 ^ 35 % 2 = 0) : t.commits = s.commits :=
  (h.commit.resolve_left (by unfold may; omega)).1

theorem Within.cmtRec_eq {m : Nat} {s t : State} (h : Within m s t) (hm : m / 2 ^ 35 % 2 = 0) : t.cmtRec = s.cmtRec :=
  (h.commit.resolve_left (by unfold may; omega)).2.1

theorem Within.entered_eq {m : Nat} {s t : State} (h : Within m s t) (hm : m / 2 ^ 35 % 2 = 0) : t.entered = s.entered :=
  (h.commit.resolve_left (by unfold may; omega)).2.2

theorem Within.lockAt_eq {m : Nat} {s t : State} (h : Within m s t) (hm : m / 2 ^ 36 % 2 = 0) : t.lockAt = s.lockAt :=
  (h.lock.resolve_left (by unfold may; omega)).1

theorem Within.lockKey_eq {m : Nat} {s t : State} (h : Within m s t) (hm : m / 2 ^ 36 % 2 = 0) : t.lockKey = s.lockKey :=
  (h.lock.resolve_left (by unfold may; omega)).2.1

theorem Within.revoking_eq {m : Nat} {s t : State} (h : Within m s t) (hm : m / 2 ^ 36 % 2 = 0) : t.revoking = s.revoking :=
  (h.lock.resolve_left (by unfold may; omega)).2.2.1

theorem Within.dead_eq {m : Nat} {s t : State} (h : Within m s t) (hm : m / 2 ^ 36 % 2 = 0) : t.dead = s.dead :=
  (h.lock.resolve_left (by unfold may; omega)).2.2.2

theorem Within.chanOf {m : Nat} {s t : State} (h : Within m s t) (c : Nat) (hm : m / 2 ^ 15 % 2 = 0) : t.chanOf c = s.chanOf c := by
  have e := (h.encoder.resolve_left (by unfold may; omega))
  unfold State.chanOf; rw [e]

theorem Within.tgOf {m : Nat} {s t : State} (h : Within m s t) (c : Nat) (hm : m / 2 ^ 16 % 2 = 0) : t.tgOf c = s.tgOf c := by
  have e := (h.trigger.resolve_left (by unfold may; omega))
  unfold State.tgOf; rw [e]

theorem Within.view_ {m : Nat} {s t : State} (h : Within m s t) (c : Nat) (hm : m / 2 ^ 17 % 2 = 0) : t.view_ c = s.view_ c := by
  have e := (h.view.resolve_left (by unfold may; omega))
  unfold State.view_; rw [e]

theorem Within.link_ {m : Nat} {s t : State} (h : Within m s t) (c : Nat) (hm : m / 2 ^ 18 % 2 = 0) : t.link_ c = s.link_ c := by
  have e := (h.link.resolve_left (by unfold may; omega)).1
  unfold State.link_; rw [e]

theorem Within.train_ {m : Nat} {s t : State} (h : Within m s t) (c d : Nat) (hm : m / 2 ^ 18 % 2 = 0) : t.train_ c d = s.train_ c d := by
  have e := (h.link.resolve_left (by unfold may; omega)).2.1
  unfold State.train_; rw [e]

theorem Within.jk {m : Nat} {s t : State} (h : Within m s t) (c : Nat) (hm : m / 2 ^ 18 % 2 = 0) : t.jk c = s.jk c := by
  have e := (h.link.resolve_left (by unfold may; omega)).2.2
  unfold State.jk; rw [e]

theorem Within.q {m : Nat} {s t : State} (h : Within m s t) (c : Nat) (hm : m / 2 ^ 28 % 2 = 0) : t.q c = s.q c := by
  have e := (h.queue.resolve_left (by unfold may; omega)).1
  unfold State.q; rw [e]

theorem Within.mcOf {m : Nat} {s t : State} (h : Within m s t) (c : Nat) (hm : m / 2 ^ 32 % 2 = 0) : t.mcOf c = s.mcOf c := by
  have e := (h.mc.resolve_left (by unfold may; omega)).1
  unfold State.mcOf; rw [e]

theorem Within.engOf {m : Nat} {s t : State} (h : Within m s t) (c : Nat) (hm : m / 2 ^ 23 % 2 = 0) : t.engOf c = s.engOf c := by
  have e := (h.eng.resolve_left (by unfold may; omega))
  unfold State.engOf; rw [e]

theorem Within.intk {m : Nat} {s t : State} (h : Within m s t) (c : Nat) (hm : m / 2 ^ 20 % 2 = 0) : t.intk c = s.intk c := by
  have e := (h.path.resolve_left (by unfold may; omega)).1
  unfold State.intk; rw [e]

theorem Within.pipe_ {m : Nat} {s t : State} (h : Within m s t) (c : Nat) (hm : m / 2 ^ 20 % 2 = 0) : t.pipe_ c = s.pipe_ c := by
  have e := (h.path.resolve_left (by unfold may; omega)).2.1
  unfold State.pipe_; rw [e]

theorem Within.corr_ {m : Nat} {s t : State} (h : Within m s t) (c : Nat) (hm : m / 2 ^ 20 % 2 = 0) : t.corr_ c = s.corr_ c := by
  have e := (h.path.resolve_left (by unfold may; omega)).2.2.2
  unfold State.corr_; rw [e]

theorem Within.sti {m : Nat} {s t : State} (h : Within m s t) (c : Nat) (hm : m / 2 ^ 21 % 2 = 0) : t.sti c = s.sti c := by
  have e := (h.stitch.resolve_left (by unfold may; omega)).1
  unfold State.sti; rw [e]

theorem Within.sess {m : Nat} {s t : State} (h : Within m s t) (c : Nat) (hm : m / 2 ^ 25 % 2 = 0) : t.sess c = s.sess c := by
  have e := (h.net.resolve_left (by unfold may; omega))
  unfold State.sess; rw [e]

theorem Within.str_ {m : Nat} {s t : State} (h : Within m s t) (c : Nat) (hm : m / 2 ^ 26 % 2 = 0) : t.str_ c = s.str_ c := by
  have e := (h.stream.resolve_left (by unfold may; omega))
  unfold State.str_; rw [e]

theorem Within.twlOf {m : Nat} {s t : State} (h : Within m s t) (c : Nat) (hm : m / 2 ^ 31 % 2 = 0) : t.twlOf c = s.twlOf c := by
  have e := (h.twl.resolve_left (by unfold may; omega)).1
  unfold State.twlOf; rw [e]

theorem Within.ch {m : Nat} {s t : State} (h : Within m s t) (c : Nat) (hm : m / 2 ^ 29 % 2 = 0) : t.ch c = s.ch c := by
  have e := (h.dma.resolve_left (by unfold may; omega))
  unfold State.ch; rw [e]

theorem Within.mstV {m : Nat} {s t : State} (h : Within m s t) (c : Nat) (hm : m / 2 ^ 22 % 2 = 0) : t.mstV c = s.mstV c := by
  have e := (h.master.resolve_left (by unfold may; omega)).1
  unfold State.mstV; rw [e]

theorem Within.calOf {m : Nat} {s t : State} (h : Within m s t) (c : Nat) (hm : m / 2 ^ 33 % 2 = 0) : t.calOf c = s.calOf c := by
  have e := (h.hlth.resolve_left (by unfold may; omega))
  unfold State.calOf; rw [e]

theorem Within.fifoOf {m : Nat} {s t : State} (h : Within m s t) (c : Nat) (hm : m / 2 ^ 31 % 2 = 0) : t.fifoOf c = s.fifoOf c := by
  have e := (h.twl.resolve_left (by unfold may; omega)).2
  unfold State.fifoOf; rw [e]

theorem Within.pend {m : Nat} {s t : State} (h : Within m s t) (c : Nat) (hm : m / 2 ^ 35 % 2 = 0) : t.pend c = s.pend c := by
  have e := (h.commit.resolve_left (by unfold may; omega)).1
  unfold State.pend; rw [e]

theorem Within.mode {m : Nat} {s t : State} (h : Within m s t)  (hm : m / 2 ^ 1 % 2 = 0) : t.mode  = s.mode  := by
  have e := (h.regs.resolve_left (by unfold may; omega))
  unfold State.mode State.fld State.rd; rw [e]

theorem Within.on {m : Nat} {s t : State} (h : Within m s t) (c : Nat) (d : Fld) (hm : m / 2 ^ 1 % 2 = 0) : t.on c d = s.on c d := by
  have e := (h.regs.resolve_left (by unfold may; omega))
  unfold State.on State.fld State.rd; rw [e]

theorem Within.rdShadow {m : Nat} {s t : State} (h : Within m s t) (c d : Nat) (hm : m / 2 ^ 2 % 2 = 0) : t.rdShadow c d = s.rdShadow c d := by
  have e := (h.shadow.resolve_left (by unfold may; omega))
  unfold State.rdShadow; rw [e]

theorem Within.rd {m : Nat} {s t : State} (h : Within m s t) (c d : Nat) (hm : m / 2 ^ 1 % 2 = 0) : t.rd c d = s.rd c d := by
  have e := (h.regs.resolve_left (by unfold may; omega))
  unfold State.rd; rw [e]

theorem Within.fld {m : Nat} {s t : State} (h : Within m s t) (c : Nat) (d : Fld) (hm : m / 2 ^ 1 % 2 = 0) : t.fld c d = s.fld c d := by
  have e := (h.regs.resolve_left (by unfold may; omega))
  unfold State.fld State.rd; rw [e]

theorem Within.win {m : Nat} {s t : State} (h : Within m s t) (c : Nat) (hm : m / 2 ^ 4 % 2 = 0) : t.win c = s.win c := by
  have e := (h.window.resolve_left (by unfold may; omega))
  unfold State.win; rw [e]

/-! State.raise -/

@[simp] theorem State.raise_mem (s : State) (src : Nat) (st : Stamp) : (State.raise s src st).mem = s.mem := (State.raise_within ..).mem_eq rfl
@[simp] theorem State.raise_blank (s : State) (src : Nat) (st : Stamp) : (State.raise s src st).blank = s.blank := (State.raise_within ..).blank_eq rfl
@[simp] theorem State.raise_badLine (s : State) (src : Nat) (st : Stamp) : (State.raise s src st).badLine = s.badLine := (State.raise_within ..).badLine_eq rfl
@[simp] theorem State.raise_regs (s : State) (src : Nat) (st : Stamp) : (State.raise s src st).regs = s.regs := (State.raise_within ..).regs_eq rfl
@[simp] theorem State.raise_shadow (s : State) (src : Nat) (st : Stamp) : (State.raise s src st).shadow = s.shadow := (State.raise_within ..).shadow_eq rfl
@[simp] theorem State.raise_wroDone (s : State) (src : Nat) (st : Stamp) : (State.raise s src st).wroDone = s.wroDone := (State.raise_within ..).wroDone_eq rfl
@[simp] theorem State.raise_window (s : State) (src : Nat) (st : Stamp) : (State.raise s src st).window = s.window := (State.raise_within ..).window_eq rfl
@[simp] theorem State.raise_out (s : State) (src : Nat) (st : Stamp) : (State.raise s src st).out = s.out := (State.raise_within ..).out_eq rfl
@[simp] theorem State.raise_raw (s : State) (src : Nat) (st : Stamp) : (State.raise s src st).raw = s.raw := (State.raise_within ..).raw_eq rfl
@[simp] theorem State.raise_free (s : State) (src : Nat) (st : Stamp) : (State.raise s src st).free = s.free := (State.raise_within ..).free_eq rfl
@[simp] theorem State.raise_fuse (s : State) (src : Nat) (st : Stamp) : (State.raise s src st).fuse = s.fuse := (State.raise_within ..).fuse_eq rfl
@[simp] theorem State.raise_trained (s : State) (src : Nat) (st : Stamp) : (State.raise s src st).trained = s.trained := (State.raise_within ..).trained_eq rfl
@[simp] theorem State.raise_bootWait (s : State) (src : Nat) (st : Stamp) : (State.raise s src st).bootWait = s.bootWait := (State.raise_within ..).bootWait_eq rfl
@[simp] theorem State.raise_tb (s : State) (src : Nat) (st : Stamp) : (State.raise s src st).tb = s.tb := (State.raise_within ..).tb_eq rfl
@[simp] theorem State.raise_crl (s : State) (src : Nat) (st : Stamp) : (State.raise s src st).crl = s.crl := (State.raise_within ..).crl_eq rfl
@[simp] theorem State.raise_evio (s : State) (src : Nat) (st : Stamp) : (State.raise s src st).evio = s.evio := (State.raise_within ..).evio_eq rfl
@[simp] theorem State.raise_evf (s : State) (src : Nat) (st : Stamp) : (State.raise s src st).evf = s.evf := (State.raise_within ..).evf_eq rfl
@[simp] theorem State.raise_chan (s : State) (src : Nat) (st : Stamp) : (State.raise s src st).chan = s.chan := (State.raise_within ..).chan_eq rfl
@[simp] theorem State.raise_tg (s : State) (src : Nat) (st : Stamp) : (State.raise s src st).tg = s.tg := (State.raise_within ..).tg_eq rfl
@[simp] theorem State.raise_view (s : State) (src : Nat) (st : Stamp) : (State.raise s src st).view = s.view := (State.raise_within ..).view_eq rfl
@[simp] theorem State.raise_link (s : State) (src : Nat) (st : Stamp) : (State.raise s src st).link = s.link := (State.raise_within ..).link_eq rfl
@[simp] theorem State.raise_train (s : State) (src : Nat) (st : Stamp) : (State.raise s src st).train = s.train := (State.raise_within ..).train_eq rfl
@[simp] theorem State.raise_joker (s : State) (src : Nat) (st : Stamp) : (State.raise s src st).joker = s.joker := (State.raise_within ..).joker_eq rfl
@[simp] theorem State.raise_roWritten (s : State) (src : Nat) (st : Stamp) : (State.raise s src st).roWritten = s.roWritten := (State.raise_within ..).roWritten_eq rfl
@[simp] theorem State.raise_jobA (s : State) (src : Nat) (st : Stamp) : (State.raise s src st).jobA = s.jobA := (State.raise_within ..).jobA_eq rfl
@[simp] theorem State.raise_jobN (s : State) (src : Nat) (st : Stamp) : (State.raise s src st).jobN = s.jobN := (State.raise_within ..).jobN_eq rfl
@[simp] theorem State.raise_valJob (s : State) (src : Nat) (st : Stamp) : (State.raise s src st).valJob = s.valJob := (State.raise_within ..).valJob_eq rfl
@[simp] theorem State.raise_jobVals (s : State) (src : Nat) (st : Stamp) : (State.raise s src st).jobVals = s.jobVals := (State.raise_within ..).jobVals_eq rfl
@[simp] theorem State.raise_intake (s : State) (src : Nat) (st : Stamp) : (State.raise s src st).intake = s.intake := (State.raise_within ..).intake_eq rfl
@[simp] theorem State.raise_pipe (s : State) (src : Nat) (st : Stamp) : (State.raise s src st).pipe = s.pipe := (State.raise_within ..).pipe_eq rfl
@[simp] theorem State.raise_tapBuf (s : State) (src : Nat) (st : Stamp) : (State.raise s src st).tapBuf = s.tapBuf := (State.raise_within ..).tapBuf_eq rfl
@[simp] theorem State.raise_corr (s : State) (src : Nat) (st : Stamp) : (State.raise s src st).corr = s.corr := (State.raise_within ..).corr_eq rfl
@[simp] theorem State.raise_stitch_ (s : State) (src : Nat) (st : Stamp) : (State.raise s src st).stitch_ = s.stitch_ := (State.raise_within ..).stitch_eq rfl
@[simp] theorem State.raise_dot (s : State) (src : Nat) (st : Stamp) : (State.raise s src st).dot = s.dot := (State.raise_within ..).dot_eq rfl
@[simp] theorem State.raise_winRes (s : State) (src : Nat) (st : Stamp) : (State.raise s src st).winRes = s.winRes := (State.raise_within ..).winRes_eq rfl
@[simp] theorem State.raise_mst (s : State) (src : Nat) (st : Stamp) : (State.raise s src st).mst = s.mst := (State.raise_within ..).mst_eq rfl
@[simp] theorem State.raise_predict (s : State) (src : Nat) (st : Stamp) : (State.raise s src st).predict = s.predict := (State.raise_within ..).predict_eq rfl
@[simp] theorem State.raise_eng (s : State) (src : Nat) (st : Stamp) : (State.raise s src st).eng = s.eng := (State.raise_within ..).eng_eq rfl
@[simp] theorem State.raise_resA (s : State) (src : Nat) (st : Stamp) : (State.raise s src st).resA = s.resA := (State.raise_within ..).resA_eq rfl
@[simp] theorem State.raise_resN (s : State) (src : Nat) (st : Stamp) : (State.raise s src st).resN = s.resN := (State.raise_within ..).resN_eq rfl
@[simp] theorem State.raise_acts (s : State) (src : Nat) (st : Stamp) : (State.raise s src st).acts = s.acts := (State.raise_within ..).acts_eq rfl
@[simp] theorem State.raise_hits (s : State) (src : Nat) (st : Stamp) : (State.raise s src st).hits = s.hits := (State.raise_within ..).hits_eq rfl
@[simp] theorem State.raise_net (s : State) (src : Nat) (st : Stamp) : (State.raise s src st).net = s.net := (State.raise_within ..).net_eq rfl
@[simp] theorem State.raise_stream (s : State) (src : Nat) (st : Stamp) : (State.raise s src st).stream = s.stream := (State.raise_within ..).stream_eq rfl
@[simp] theorem State.raise_dec (s : State) (src : Nat) (st : Stamp) : (State.raise s src st).dec = s.dec := (State.raise_within ..).dec_eq rfl
@[simp] theorem State.raise_queue (s : State) (src : Nat) (st : Stamp) : (State.raise s src st).queue = s.queue := (State.raise_within ..).queue_eq rfl
@[simp] theorem State.raise_levels (s : State) (src : Nat) (st : Stamp) : (State.raise s src st).levels = s.levels := (State.raise_within ..).levels_eq rfl
@[simp] theorem State.raise_arb (s : State) (src : Nat) (st : Stamp) : (State.raise s src st).arb = s.arb := (State.raise_within ..).arb_eq rfl
@[simp] theorem State.raise_qshadow (s : State) (src : Nat) (st : Stamp) : (State.raise s src st).qshadow = s.qshadow := (State.raise_within ..).qshadow_eq rfl
@[simp] theorem State.raise_hqLo (s : State) (src : Nat) (st : Stamp) : (State.raise s src st).hqLo = s.hqLo := (State.raise_within ..).hqLo_eq rfl
@[simp] theorem State.raise_dma (s : State) (src : Nat) (st : Stamp) : (State.raise s src st).dma = s.dma := (State.raise_within ..).dma_eq rfl
@[simp] theorem State.raise_zip (s : State) (src : Nat) (st : Stamp) : (State.raise s src st).zip = s.zip := (State.raise_within ..).zip_eq rfl
@[simp] theorem State.raise_twl (s : State) (src : Nat) (st : Stamp) : (State.raise s src st).twl = s.twl := (State.raise_within ..).twl_eq rfl
@[simp] theorem State.raise_fifo (s : State) (src : Nat) (st : Stamp) : (State.raise s src st).fifo = s.fifo := (State.raise_within ..).fifo_eq rfl
@[simp] theorem State.raise_mc (s : State) (src : Nat) (st : Stamp) : (State.raise s src st).mc = s.mc := (State.raise_within ..).mc_eq rfl
@[simp] theorem State.raise_mcg (s : State) (src : Nat) (st : Stamp) : (State.raise s src st).mcg = s.mcg := (State.raise_within ..).mcg_eq rfl
@[simp] theorem State.raise_hlth (s : State) (src : Nat) (st : Stamp) : (State.raise s src st).hlth = s.hlth := (State.raise_within ..).hlth_eq rfl
@[simp] theorem State.raise_log (s : State) (src : Nat) (st : Stamp) : (State.raise s src st).log = s.log := (State.raise_within ..).log_eq rfl
@[simp] theorem State.raise_logLatch (s : State) (src : Nat) (st : Stamp) : (State.raise s src st).logLatch = s.logLatch := (State.raise_within ..).logLatch_eq rfl
@[simp] theorem State.raise_commits (s : State) (src : Nat) (st : Stamp) : (State.raise s src st).commits = s.commits := (State.raise_within ..).commits_eq rfl
@[simp] theorem State.raise_cmtRec (s : State) (src : Nat) (st : Stamp) : (State.raise s src st).cmtRec = s.cmtRec := (State.raise_within ..).cmtRec_eq rfl
@[simp] theorem State.raise_entered (s : State) (src : Nat) (st : Stamp) : (State.raise s src st).entered = s.entered := (State.raise_within ..).entered_eq rfl
@[simp] theorem State.raise_lockAt (s : State) (src : Nat) (st : Stamp) : (State.raise s src st).lockAt = s.lockAt := (State.raise_within ..).lockAt_eq rfl
@[simp] theorem State.raise_lockKey (s : State) (src : Nat) (st : Stamp) : (State.raise s src st).lockKey = s.lockKey := (State.raise_within ..).lockKey_eq rfl
@[simp] theorem State.raise_revoking (s : State) (src : Nat) (st : Stamp) : (State.raise s src st).revoking = s.revoking := (State.raise_within ..).revoking_eq rfl
@[simp] theorem State.raise_dead (s : State) (src : Nat) (st : Stamp) : (State.raise s src st).dead = s.dead := (State.raise_within ..).dead_eq rfl
@[simp] theorem State.raise_chanOf (s : State) (src : Nat) (st : Stamp) (c0 : Nat) : (State.raise s src st).chanOf c0 = s.chanOf c0 := (State.raise_within ..).chanOf c0 rfl
@[simp] theorem State.raise_tgOf (s : State) (src : Nat) (st : Stamp) (c0 : Nat) : (State.raise s src st).tgOf c0 = s.tgOf c0 := (State.raise_within ..).tgOf c0 rfl
@[simp] theorem State.raise_view_ (s : State) (src : Nat) (st : Stamp) (c0 : Nat) : (State.raise s src st).view_ c0 = s.view_ c0 := (State.raise_within ..).view_ c0 rfl
@[simp] theorem State.raise_link_ (s : State) (src : Nat) (st : Stamp) (c0 : Nat) : (State.raise s src st).link_ c0 = s.link_ c0 := (State.raise_within ..).link_ c0 rfl
@[simp] theorem State.raise_train_ (s : State) (src : Nat) (st : Stamp) (c0 d0 : Nat) : (State.raise s src st).train_ c0 d0 = s.train_ c0 d0 := (State.raise_within ..).train_ c0 d0 rfl
@[simp] theorem State.raise_jk (s : State) (src : Nat) (st : Stamp) (c0 : Nat) : (State.raise s src st).jk c0 = s.jk c0 := (State.raise_within ..).jk c0 rfl
@[simp] theorem State.raise_q (s : State) (src : Nat) (st : Stamp) (c0 : Nat) : (State.raise s src st).q c0 = s.q c0 := (State.raise_within ..).q c0 rfl
@[simp] theorem State.raise_mcOf (s : State) (src : Nat) (st : Stamp) (c0 : Nat) : (State.raise s src st).mcOf c0 = s.mcOf c0 := (State.raise_within ..).mcOf c0 rfl
@[simp] theorem State.raise_engOf (s : State) (src : Nat) (st : Stamp) (c0 : Nat) : (State.raise s src st).engOf c0 = s.engOf c0 := (State.raise_within ..).engOf c0 rfl
@[simp] theorem State.raise_intk (s : State) (src : Nat) (st : Stamp) (c0 : Nat) : (State.raise s src st).intk c0 = s.intk c0 := (State.raise_within ..).intk c0 rfl
@[simp] theorem State.raise_pipe_ (s : State) (src : Nat) (st : Stamp) (c0 : Nat) : (State.raise s src st).pipe_ c0 = s.pipe_ c0 := (State.raise_within ..).pipe_ c0 rfl
@[simp] theorem State.raise_corr_ (s : State) (src : Nat) (st : Stamp) (c0 : Nat) : (State.raise s src st).corr_ c0 = s.corr_ c0 := (State.raise_within ..).corr_ c0 rfl
@[simp] theorem State.raise_sti (s : State) (src : Nat) (st : Stamp) (c0 : Nat) : (State.raise s src st).sti c0 = s.sti c0 := (State.raise_within ..).sti c0 rfl
@[simp] theorem State.raise_sess (s : State) (src : Nat) (st : Stamp) (c0 : Nat) : (State.raise s src st).sess c0 = s.sess c0 := (State.raise_within ..).sess c0 rfl
@[simp] theorem State.raise_str_ (s : State) (src : Nat) (st : Stamp) (c0 : Nat) : (State.raise s src st).str_ c0 = s.str_ c0 := (State.raise_within ..).str_ c0 rfl
@[simp] theorem State.raise_twlOf (s : State) (src : Nat) (st : Stamp) (c0 : Nat) : (State.raise s src st).twlOf c0 = s.twlOf c0 := (State.raise_within ..).twlOf c0 rfl
@[simp] theorem State.raise_ch (s : State) (src : Nat) (st : Stamp) (c0 : Nat) : (State.raise s src st).ch c0 = s.ch c0 := (State.raise_within ..).ch c0 rfl
@[simp] theorem State.raise_mstV (s : State) (src : Nat) (st : Stamp) (c0 : Nat) : (State.raise s src st).mstV c0 = s.mstV c0 := (State.raise_within ..).mstV c0 rfl
@[simp] theorem State.raise_calOf (s : State) (src : Nat) (st : Stamp) (c0 : Nat) : (State.raise s src st).calOf c0 = s.calOf c0 := (State.raise_within ..).calOf c0 rfl
@[simp] theorem State.raise_fifoOf (s : State) (src : Nat) (st : Stamp) (c0 : Nat) : (State.raise s src st).fifoOf c0 = s.fifoOf c0 := (State.raise_within ..).fifoOf c0 rfl
@[simp] theorem State.raise_pend (s : State) (src : Nat) (st : Stamp) (c0 : Nat) : (State.raise s src st).pend c0 = s.pend c0 := (State.raise_within ..).pend c0 rfl
@[simp] theorem State.raise_mode (s : State) (src : Nat) (st : Stamp)  : (State.raise s src st).mode  = s.mode  := (State.raise_within ..).mode  rfl
@[simp] theorem State.raise_on (s : State) (src : Nat) (st : Stamp) (c0 : Nat) (d0 : Fld) : (State.raise s src st).on c0 d0 = s.on c0 d0 := (State.raise_within ..).on c0 d0 rfl
@[simp] theorem State.raise_rdShadow (s : State) (src : Nat) (st : Stamp) (c0 d0 : Nat) : (State.raise s src st).rdShadow c0 d0 = s.rdShadow c0 d0 := (State.raise_within ..).rdShadow c0 d0 rfl
@[simp] theorem State.raise_rd (s : State) (src : Nat) (st : Stamp) (c0 d0 : Nat) : (State.raise s src st).rd c0 d0 = s.rd c0 d0 := (State.raise_within ..).rd c0 d0 rfl
@[simp] theorem State.raise_fld (s : State) (src : Nat) (st : Stamp) (c0 : Nat) (d0 : Fld) : (State.raise s src st).fld c0 d0 = s.fld c0 d0 := (State.raise_within ..).fld c0 d0 rfl
@[simp] theorem State.raise_win (s : State) (src : Nat) (st : Stamp) (c0 : Nat) : (State.raise s src st).win c0 = s.win c0 := (State.raise_within ..).win c0 rfl
/-! State.raiseNow -/

@[simp] theorem State.raiseNow_mem (s : State) (src : Nat) : (State.raiseNow s src).mem = s.mem := (State.raiseNow_within ..).mem_eq rfl
@[simp] theorem State.raiseNow_blank (s : State) (src : Nat) : (State.raiseNow s src).blank = s.blank := (State.raiseNow_within ..).blank_eq rfl
@[simp] theorem State.raiseNow_badLine (s : State) (src : Nat) : (State.raiseNow s src).badLine = s.badLine := (State.raiseNow_within ..).badLine_eq rfl
@[simp] theorem State.raiseNow_regs (s : State) (src : Nat) : (State.raiseNow s src).regs = s.regs := (State.raiseNow_within ..).regs_eq rfl
@[simp] theorem State.raiseNow_shadow (s : State) (src : Nat) : (State.raiseNow s src).shadow = s.shadow := (State.raiseNow_within ..).shadow_eq rfl
@[simp] theorem State.raiseNow_wroDone (s : State) (src : Nat) : (State.raiseNow s src).wroDone = s.wroDone := (State.raiseNow_within ..).wroDone_eq rfl
@[simp] theorem State.raiseNow_window (s : State) (src : Nat) : (State.raiseNow s src).window = s.window := (State.raiseNow_within ..).window_eq rfl
@[simp] theorem State.raiseNow_out (s : State) (src : Nat) : (State.raiseNow s src).out = s.out := (State.raiseNow_within ..).out_eq rfl
@[simp] theorem State.raiseNow_raw (s : State) (src : Nat) : (State.raiseNow s src).raw = s.raw := (State.raiseNow_within ..).raw_eq rfl
@[simp] theorem State.raiseNow_free (s : State) (src : Nat) : (State.raiseNow s src).free = s.free := (State.raiseNow_within ..).free_eq rfl
@[simp] theorem State.raiseNow_fuse (s : State) (src : Nat) : (State.raiseNow s src).fuse = s.fuse := (State.raiseNow_within ..).fuse_eq rfl
@[simp] theorem State.raiseNow_trained (s : State) (src : Nat) : (State.raiseNow s src).trained = s.trained := (State.raiseNow_within ..).trained_eq rfl
@[simp] theorem State.raiseNow_bootWait (s : State) (src : Nat) : (State.raiseNow s src).bootWait = s.bootWait := (State.raiseNow_within ..).bootWait_eq rfl
@[simp] theorem State.raiseNow_tb (s : State) (src : Nat) : (State.raiseNow s src).tb = s.tb := (State.raiseNow_within ..).tb_eq rfl
@[simp] theorem State.raiseNow_crl (s : State) (src : Nat) : (State.raiseNow s src).crl = s.crl := (State.raiseNow_within ..).crl_eq rfl
@[simp] theorem State.raiseNow_evio (s : State) (src : Nat) : (State.raiseNow s src).evio = s.evio := (State.raiseNow_within ..).evio_eq rfl
@[simp] theorem State.raiseNow_evf (s : State) (src : Nat) : (State.raiseNow s src).evf = s.evf := (State.raiseNow_within ..).evf_eq rfl
@[simp] theorem State.raiseNow_chan (s : State) (src : Nat) : (State.raiseNow s src).chan = s.chan := (State.raiseNow_within ..).chan_eq rfl
@[simp] theorem State.raiseNow_tg (s : State) (src : Nat) : (State.raiseNow s src).tg = s.tg := (State.raiseNow_within ..).tg_eq rfl
@[simp] theorem State.raiseNow_view (s : State) (src : Nat) : (State.raiseNow s src).view = s.view := (State.raiseNow_within ..).view_eq rfl
@[simp] theorem State.raiseNow_link (s : State) (src : Nat) : (State.raiseNow s src).link = s.link := (State.raiseNow_within ..).link_eq rfl
@[simp] theorem State.raiseNow_train (s : State) (src : Nat) : (State.raiseNow s src).train = s.train := (State.raiseNow_within ..).train_eq rfl
@[simp] theorem State.raiseNow_joker (s : State) (src : Nat) : (State.raiseNow s src).joker = s.joker := (State.raiseNow_within ..).joker_eq rfl
@[simp] theorem State.raiseNow_roWritten (s : State) (src : Nat) : (State.raiseNow s src).roWritten = s.roWritten := (State.raiseNow_within ..).roWritten_eq rfl
@[simp] theorem State.raiseNow_jobA (s : State) (src : Nat) : (State.raiseNow s src).jobA = s.jobA := (State.raiseNow_within ..).jobA_eq rfl
@[simp] theorem State.raiseNow_jobN (s : State) (src : Nat) : (State.raiseNow s src).jobN = s.jobN := (State.raiseNow_within ..).jobN_eq rfl
@[simp] theorem State.raiseNow_valJob (s : State) (src : Nat) : (State.raiseNow s src).valJob = s.valJob := (State.raiseNow_within ..).valJob_eq rfl
@[simp] theorem State.raiseNow_jobVals (s : State) (src : Nat) : (State.raiseNow s src).jobVals = s.jobVals := (State.raiseNow_within ..).jobVals_eq rfl
@[simp] theorem State.raiseNow_intake (s : State) (src : Nat) : (State.raiseNow s src).intake = s.intake := (State.raiseNow_within ..).intake_eq rfl
@[simp] theorem State.raiseNow_pipe (s : State) (src : Nat) : (State.raiseNow s src).pipe = s.pipe := (State.raiseNow_within ..).pipe_eq rfl
@[simp] theorem State.raiseNow_tapBuf (s : State) (src : Nat) : (State.raiseNow s src).tapBuf = s.tapBuf := (State.raiseNow_within ..).tapBuf_eq rfl
@[simp] theorem State.raiseNow_corr (s : State) (src : Nat) : (State.raiseNow s src).corr = s.corr := (State.raiseNow_within ..).corr_eq rfl
@[simp] theorem State.raiseNow_stitch_ (s : State) (src : Nat) : (State.raiseNow s src).stitch_ = s.stitch_ := (State.raiseNow_within ..).stitch_eq rfl
@[simp] theorem State.raiseNow_dot (s : State) (src : Nat) : (State.raiseNow s src).dot = s.dot := (State.raiseNow_within ..).dot_eq rfl
@[simp] theorem State.raiseNow_winRes (s : State) (src : Nat) : (State.raiseNow s src).winRes = s.winRes := (State.raiseNow_within ..).winRes_eq rfl
@[simp] theorem State.raiseNow_mst (s : State) (src : Nat) : (State.raiseNow s src).mst = s.mst := (State.raiseNow_within ..).mst_eq rfl
@[simp] theorem State.raiseNow_predict (s : State) (src : Nat) : (State.raiseNow s src).predict = s.predict := (State.raiseNow_within ..).predict_eq rfl
@[simp] theorem State.raiseNow_eng (s : State) (src : Nat) : (State.raiseNow s src).eng = s.eng := (State.raiseNow_within ..).eng_eq rfl
@[simp] theorem State.raiseNow_resA (s : State) (src : Nat) : (State.raiseNow s src).resA = s.resA := (State.raiseNow_within ..).resA_eq rfl
@[simp] theorem State.raiseNow_resN (s : State) (src : Nat) : (State.raiseNow s src).resN = s.resN := (State.raiseNow_within ..).resN_eq rfl
@[simp] theorem State.raiseNow_acts (s : State) (src : Nat) : (State.raiseNow s src).acts = s.acts := (State.raiseNow_within ..).acts_eq rfl
@[simp] theorem State.raiseNow_hits (s : State) (src : Nat) : (State.raiseNow s src).hits = s.hits := (State.raiseNow_within ..).hits_eq rfl
@[simp] theorem State.raiseNow_net (s : State) (src : Nat) : (State.raiseNow s src).net = s.net := (State.raiseNow_within ..).net_eq rfl
@[simp] theorem State.raiseNow_stream (s : State) (src : Nat) : (State.raiseNow s src).stream = s.stream := (State.raiseNow_within ..).stream_eq rfl
@[simp] theorem State.raiseNow_dec (s : State) (src : Nat) : (State.raiseNow s src).dec = s.dec := (State.raiseNow_within ..).dec_eq rfl
@[simp] theorem State.raiseNow_queue (s : State) (src : Nat) : (State.raiseNow s src).queue = s.queue := (State.raiseNow_within ..).queue_eq rfl
@[simp] theorem State.raiseNow_levels (s : State) (src : Nat) : (State.raiseNow s src).levels = s.levels := (State.raiseNow_within ..).levels_eq rfl
@[simp] theorem State.raiseNow_arb (s : State) (src : Nat) : (State.raiseNow s src).arb = s.arb := (State.raiseNow_within ..).arb_eq rfl
@[simp] theorem State.raiseNow_qshadow (s : State) (src : Nat) : (State.raiseNow s src).qshadow = s.qshadow := (State.raiseNow_within ..).qshadow_eq rfl
@[simp] theorem State.raiseNow_hqLo (s : State) (src : Nat) : (State.raiseNow s src).hqLo = s.hqLo := (State.raiseNow_within ..).hqLo_eq rfl
@[simp] theorem State.raiseNow_dma (s : State) (src : Nat) : (State.raiseNow s src).dma = s.dma := (State.raiseNow_within ..).dma_eq rfl
@[simp] theorem State.raiseNow_zip (s : State) (src : Nat) : (State.raiseNow s src).zip = s.zip := (State.raiseNow_within ..).zip_eq rfl
@[simp] theorem State.raiseNow_twl (s : State) (src : Nat) : (State.raiseNow s src).twl = s.twl := (State.raiseNow_within ..).twl_eq rfl
@[simp] theorem State.raiseNow_fifo (s : State) (src : Nat) : (State.raiseNow s src).fifo = s.fifo := (State.raiseNow_within ..).fifo_eq rfl
@[simp] theorem State.raiseNow_mc (s : State) (src : Nat) : (State.raiseNow s src).mc = s.mc := (State.raiseNow_within ..).mc_eq rfl
@[simp] theorem State.raiseNow_mcg (s : State) (src : Nat) : (State.raiseNow s src).mcg = s.mcg := (State.raiseNow_within ..).mcg_eq rfl
@[simp] theorem State.raiseNow_hlth (s : State) (src : Nat) : (State.raiseNow s src).hlth = s.hlth := (State.raiseNow_within ..).hlth_eq rfl
@[simp] theorem State.raiseNow_log (s : State) (src : Nat) : (State.raiseNow s src).log = s.log := (State.raiseNow_within ..).log_eq rfl
@[simp] theorem State.raiseNow_logLatch (s : State) (src : Nat) : (State.raiseNow s src).logLatch = s.logLatch := (State.raiseNow_within ..).logLatch_eq rfl
@[simp] theorem State.raiseNow_commits (s : State) (src : Nat) : (State.raiseNow s src).commits = s.commits := (State.raiseNow_within ..).commits_eq rfl
@[simp] theorem State.raiseNow_cmtRec (s : State) (src : Nat) : (State.raiseNow s src).cmtRec = s.cmtRec := (State.raiseNow_within ..).cmtRec_eq rfl
@[simp] theorem State.raiseNow_entered (s : State) (src : Nat) : (State.raiseNow s src).entered = s.entered := (State.raiseNow_within ..).entered_eq rfl
@[simp] theorem State.raiseNow_lockAt (s : State) (src : Nat) : (State.raiseNow s src).lockAt = s.lockAt := (State.raiseNow_within ..).lockAt_eq rfl
@[simp] theorem State.raiseNow_lockKey (s : State) (src : Nat) : (State.raiseNow s src).lockKey = s.lockKey := (State.raiseNow_within ..).lockKey_eq rfl
@[simp] theorem State.raiseNow_revoking (s : State) (src : Nat) : (State.raiseNow s src).revoking = s.revoking := (State.raiseNow_within ..).revoking_eq rfl
@[simp] theorem State.raiseNow_dead (s : State) (src : Nat) : (State.raiseNow s src).dead = s.dead := (State.raiseNow_within ..).dead_eq rfl
@[simp] theorem State.raiseNow_chanOf (s : State) (src : Nat) (c0 : Nat) : (State.raiseNow s src).chanOf c0 = s.chanOf c0 := (State.raiseNow_within ..).chanOf c0 rfl
@[simp] theorem State.raiseNow_tgOf (s : State) (src : Nat) (c0 : Nat) : (State.raiseNow s src).tgOf c0 = s.tgOf c0 := (State.raiseNow_within ..).tgOf c0 rfl
@[simp] theorem State.raiseNow_view_ (s : State) (src : Nat) (c0 : Nat) : (State.raiseNow s src).view_ c0 = s.view_ c0 := (State.raiseNow_within ..).view_ c0 rfl
@[simp] theorem State.raiseNow_link_ (s : State) (src : Nat) (c0 : Nat) : (State.raiseNow s src).link_ c0 = s.link_ c0 := (State.raiseNow_within ..).link_ c0 rfl
@[simp] theorem State.raiseNow_train_ (s : State) (src : Nat) (c0 d0 : Nat) : (State.raiseNow s src).train_ c0 d0 = s.train_ c0 d0 := (State.raiseNow_within ..).train_ c0 d0 rfl
@[simp] theorem State.raiseNow_jk (s : State) (src : Nat) (c0 : Nat) : (State.raiseNow s src).jk c0 = s.jk c0 := (State.raiseNow_within ..).jk c0 rfl
@[simp] theorem State.raiseNow_q (s : State) (src : Nat) (c0 : Nat) : (State.raiseNow s src).q c0 = s.q c0 := (State.raiseNow_within ..).q c0 rfl
@[simp] theorem State.raiseNow_mcOf (s : State) (src : Nat) (c0 : Nat) : (State.raiseNow s src).mcOf c0 = s.mcOf c0 := (State.raiseNow_within ..).mcOf c0 rfl
@[simp] theorem State.raiseNow_engOf (s : State) (src : Nat) (c0 : Nat) : (State.raiseNow s src).engOf c0 = s.engOf c0 := (State.raiseNow_within ..).engOf c0 rfl
@[simp] theorem State.raiseNow_intk (s : State) (src : Nat) (c0 : Nat) : (State.raiseNow s src).intk c0 = s.intk c0 := (State.raiseNow_within ..).intk c0 rfl
@[simp] theorem State.raiseNow_pipe_ (s : State) (src : Nat) (c0 : Nat) : (State.raiseNow s src).pipe_ c0 = s.pipe_ c0 := (State.raiseNow_within ..).pipe_ c0 rfl
@[simp] theorem State.raiseNow_corr_ (s : State) (src : Nat) (c0 : Nat) : (State.raiseNow s src).corr_ c0 = s.corr_ c0 := (State.raiseNow_within ..).corr_ c0 rfl
@[simp] theorem State.raiseNow_sti (s : State) (src : Nat) (c0 : Nat) : (State.raiseNow s src).sti c0 = s.sti c0 := (State.raiseNow_within ..).sti c0 rfl
@[simp] theorem State.raiseNow_sess (s : State) (src : Nat) (c0 : Nat) : (State.raiseNow s src).sess c0 = s.sess c0 := (State.raiseNow_within ..).sess c0 rfl
@[simp] theorem State.raiseNow_str_ (s : State) (src : Nat) (c0 : Nat) : (State.raiseNow s src).str_ c0 = s.str_ c0 := (State.raiseNow_within ..).str_ c0 rfl
@[simp] theorem State.raiseNow_twlOf (s : State) (src : Nat) (c0 : Nat) : (State.raiseNow s src).twlOf c0 = s.twlOf c0 := (State.raiseNow_within ..).twlOf c0 rfl
@[simp] theorem State.raiseNow_ch (s : State) (src : Nat) (c0 : Nat) : (State.raiseNow s src).ch c0 = s.ch c0 := (State.raiseNow_within ..).ch c0 rfl
@[simp] theorem State.raiseNow_mstV (s : State) (src : Nat) (c0 : Nat) : (State.raiseNow s src).mstV c0 = s.mstV c0 := (State.raiseNow_within ..).mstV c0 rfl
@[simp] theorem State.raiseNow_calOf (s : State) (src : Nat) (c0 : Nat) : (State.raiseNow s src).calOf c0 = s.calOf c0 := (State.raiseNow_within ..).calOf c0 rfl
@[simp] theorem State.raiseNow_fifoOf (s : State) (src : Nat) (c0 : Nat) : (State.raiseNow s src).fifoOf c0 = s.fifoOf c0 := (State.raiseNow_within ..).fifoOf c0 rfl
@[simp] theorem State.raiseNow_pend (s : State) (src : Nat) (c0 : Nat) : (State.raiseNow s src).pend c0 = s.pend c0 := (State.raiseNow_within ..).pend c0 rfl
@[simp] theorem State.raiseNow_mode (s : State) (src : Nat)  : (State.raiseNow s src).mode  = s.mode  := (State.raiseNow_within ..).mode  rfl
@[simp] theorem State.raiseNow_on (s : State) (src : Nat) (c0 : Nat) (d0 : Fld) : (State.raiseNow s src).on c0 d0 = s.on c0 d0 := (State.raiseNow_within ..).on c0 d0 rfl
@[simp] theorem State.raiseNow_rdShadow (s : State) (src : Nat) (c0 d0 : Nat) : (State.raiseNow s src).rdShadow c0 d0 = s.rdShadow c0 d0 := (State.raiseNow_within ..).rdShadow c0 d0 rfl
@[simp] theorem State.raiseNow_rd (s : State) (src : Nat) (c0 d0 : Nat) : (State.raiseNow s src).rd c0 d0 = s.rd c0 d0 := (State.raiseNow_within ..).rd c0 d0 rfl
@[simp] theorem State.raiseNow_fld (s : State) (src : Nat) (c0 : Nat) (d0 : Fld) : (State.raiseNow s src).fld c0 d0 = s.fld c0 d0 := (State.raiseNow_within ..).fld c0 d0 rfl
@[simp] theorem State.raiseNow_win (s : State) (src : Nat) (c0 : Nat) : (State.raiseNow s src).win c0 = s.win c0 := (State.raiseNow_within ..).win c0 rfl
/-! State.raiseLine -/

@[simp] theorem State.raiseLine_mem (s : State) (src : Nat) (v : Nat) (n : Nat) (t : Nat) : (State.raiseLine s src v n t).mem = s.mem := (State.raiseLine_within ..).mem_eq rfl
@[simp] theorem State.raiseLine_blank (s : State) (src : Nat) (v : Nat) (n : Nat) (t : Nat) : (State.raiseLine s src v n t).blank = s.blank := (State.raiseLine_within ..).blank_eq rfl
@[simp] theorem State.raiseLine_badLine (s : State) (src : Nat) (v : Nat) (n : Nat) (t : Nat) : (State.raiseLine s src v n t).badLine = s.badLine := (State.raiseLine_within ..).badLine_eq rfl
@[simp] theorem State.raiseLine_regs (s : State) (src : Nat) (v : Nat) (n : Nat) (t : Nat) : (State.raiseLine s src v n t).regs = s.regs := (State.raiseLine_within ..).regs_eq rfl
@[simp] theorem State.raiseLine_shadow (s : State) (src : Nat) (v : Nat) (n : Nat) (t : Nat) : (State.raiseLine s src v n t).shadow = s.shadow := (State.raiseLine_within ..).shadow_eq rfl
@[simp] theorem State.raiseLine_wroDone (s : State) (src : Nat) (v : Nat) (n : Nat) (t : Nat) : (State.raiseLine s src v n t).wroDone = s.wroDone := (State.raiseLine_within ..).wroDone_eq rfl
@[simp] theorem State.raiseLine_window (s : State) (src : Nat) (v : Nat) (n : Nat) (t : Nat) : (State.raiseLine s src v n t).window = s.window := (State.raiseLine_within ..).window_eq rfl
@[simp] theorem State.raiseLine_out (s : State) (src : Nat) (v : Nat) (n : Nat) (t : Nat) : (State.raiseLine s src v n t).out = s.out := (State.raiseLine_within ..).out_eq rfl
@[simp] theorem State.raiseLine_raw (s : State) (src : Nat) (v : Nat) (n : Nat) (t : Nat) : (State.raiseLine s src v n t).raw = s.raw := (State.raiseLine_within ..).raw_eq rfl
@[simp] theorem State.raiseLine_free (s : State) (src : Nat) (v : Nat) (n : Nat) (t : Nat) : (State.raiseLine s src v n t).free = s.free := (State.raiseLine_within ..).free_eq rfl
@[simp] theorem State.raiseLine_fuse (s : State) (src : Nat) (v : Nat) (n : Nat) (t : Nat) : (State.raiseLine s src v n t).fuse = s.fuse := (State.raiseLine_within ..).fuse_eq rfl
@[simp] theorem State.raiseLine_trained (s : State) (src : Nat) (v : Nat) (n : Nat) (t : Nat) : (State.raiseLine s src v n t).trained = s.trained := (State.raiseLine_within ..).trained_eq rfl
@[simp] theorem State.raiseLine_bootWait (s : State) (src : Nat) (v : Nat) (n : Nat) (t : Nat) : (State.raiseLine s src v n t).bootWait = s.bootWait := (State.raiseLine_within ..).bootWait_eq rfl
@[simp] theorem State.raiseLine_tb (s : State) (src : Nat) (v : Nat) (n : Nat) (t : Nat) : (State.raiseLine s src v n t).tb = s.tb := (State.raiseLine_within ..).tb_eq rfl
@[simp] theorem State.raiseLine_crl (s : State) (src : Nat) (v : Nat) (n : Nat) (t : Nat) : (State.raiseLine s src v n t).crl = s.crl := (State.raiseLine_within ..).crl_eq rfl
@[simp] theorem State.raiseLine_evio (s : State) (src : Nat) (v : Nat) (n : Nat) (t : Nat) : (State.raiseLine s src v n t).evio = s.evio := (State.raiseLine_within ..).evio_eq rfl
@[simp] theorem State.raiseLine_evf (s : State) (src : Nat) (v : Nat) (n : Nat) (t : Nat) : (State.raiseLine s src v n t).evf = s.evf := (State.raiseLine_within ..).evf_eq rfl
@[simp] theorem State.raiseLine_chan (s : State) (src : Nat) (v : Nat) (n : Nat) (t : Nat) : (State.raiseLine s src v n t).chan = s.chan := (State.raiseLine_within ..).chan_eq rfl
@[simp] theorem State.raiseLine_tg (s : State) (src : Nat) (v : Nat) (n : Nat) (t : Nat) : (State.raiseLine s src v n t).tg = s.tg := (State.raiseLine_within ..).tg_eq rfl
@[simp] theorem State.raiseLine_view (s : State) (src : Nat) (v : Nat) (n : Nat) (t : Nat) : (State.raiseLine s src v n t).view = s.view := (State.raiseLine_within ..).view_eq rfl
@[simp] theorem State.raiseLine_link (s : State) (src : Nat) (v : Nat) (n : Nat) (t : Nat) : (State.raiseLine s src v n t).link = s.link := (State.raiseLine_within ..).link_eq rfl
@[simp] theorem State.raiseLine_train (s : State) (src : Nat) (v : Nat) (n : Nat) (t : Nat) : (State.raiseLine s src v n t).train = s.train := (State.raiseLine_within ..).train_eq rfl
@[simp] theorem State.raiseLine_joker (s : State) (src : Nat) (v : Nat) (n : Nat) (t : Nat) : (State.raiseLine s src v n t).joker = s.joker := (State.raiseLine_within ..).joker_eq rfl
@[simp] theorem State.raiseLine_roWritten (s : State) (src : Nat) (v : Nat) (n : Nat) (t : Nat) : (State.raiseLine s src v n t).roWritten = s.roWritten := (State.raiseLine_within ..).roWritten_eq rfl
@[simp] theorem State.raiseLine_jobA (s : State) (src : Nat) (v : Nat) (n : Nat) (t : Nat) : (State.raiseLine s src v n t).jobA = s.jobA := (State.raiseLine_within ..).jobA_eq rfl
@[simp] theorem State.raiseLine_jobN (s : State) (src : Nat) (v : Nat) (n : Nat) (t : Nat) : (State.raiseLine s src v n t).jobN = s.jobN := (State.raiseLine_within ..).jobN_eq rfl
@[simp] theorem State.raiseLine_valJob (s : State) (src : Nat) (v : Nat) (n : Nat) (t : Nat) : (State.raiseLine s src v n t).valJob = s.valJob := (State.raiseLine_within ..).valJob_eq rfl
@[simp] theorem State.raiseLine_jobVals (s : State) (src : Nat) (v : Nat) (n : Nat) (t : Nat) : (State.raiseLine s src v n t).jobVals = s.jobVals := (State.raiseLine_within ..).jobVals_eq rfl
@[simp] theorem State.raiseLine_intake (s : State) (src : Nat) (v : Nat) (n : Nat) (t : Nat) : (State.raiseLine s src v n t).intake = s.intake := (State.raiseLine_within ..).intake_eq rfl
@[simp] theorem State.raiseLine_pipe (s : State) (src : Nat) (v : Nat) (n : Nat) (t : Nat) : (State.raiseLine s src v n t).pipe = s.pipe := (State.raiseLine_within ..).pipe_eq rfl
@[simp] theorem State.raiseLine_tapBuf (s : State) (src : Nat) (v : Nat) (n : Nat) (t : Nat) : (State.raiseLine s src v n t).tapBuf = s.tapBuf := (State.raiseLine_within ..).tapBuf_eq rfl
@[simp] theorem State.raiseLine_corr (s : State) (src : Nat) (v : Nat) (n : Nat) (t : Nat) : (State.raiseLine s src v n t).corr = s.corr := (State.raiseLine_within ..).corr_eq rfl
@[simp] theorem State.raiseLine_stitch_ (s : State) (src : Nat) (v : Nat) (n : Nat) (t : Nat) : (State.raiseLine s src v n t).stitch_ = s.stitch_ := (State.raiseLine_within ..).stitch_eq rfl
@[simp] theorem State.raiseLine_dot (s : State) (src : Nat) (v : Nat) (n : Nat) (t : Nat) : (State.raiseLine s src v n t).dot = s.dot := (State.raiseLine_within ..).dot_eq rfl
@[simp] theorem State.raiseLine_winRes (s : State) (src : Nat) (v : Nat) (n : Nat) (t : Nat) : (State.raiseLine s src v n t).winRes = s.winRes := (State.raiseLine_within ..).winRes_eq rfl
@[simp] theorem State.raiseLine_mst (s : State) (src : Nat) (v : Nat) (n : Nat) (t : Nat) : (State.raiseLine s src v n t).mst = s.mst := (State.raiseLine_within ..).mst_eq rfl
@[simp] theorem State.raiseLine_predict (s : State) (src : Nat) (v : Nat) (n : Nat) (t : Nat) : (State.raiseLine s src v n t).predict = s.predict := (State.raiseLine_within ..).predict_eq rfl
@[simp] theorem State.raiseLine_eng (s : State) (src : Nat) (v : Nat) (n : Nat) (t : Nat) : (State.raiseLine s src v n t).eng = s.eng := (State.raiseLine_within ..).eng_eq rfl
@[simp] theorem State.raiseLine_resA (s : State) (src : Nat) (v : Nat) (n : Nat) (t : Nat) : (State.raiseLine s src v n t).resA = s.resA := (State.raiseLine_within ..).resA_eq rfl
@[simp] theorem State.raiseLine_resN (s : State) (src : Nat) (v : Nat) (n : Nat) (t : Nat) : (State.raiseLine s src v n t).resN = s.resN := (State.raiseLine_within ..).resN_eq rfl
@[simp] theorem State.raiseLine_acts (s : State) (src : Nat) (v : Nat) (n : Nat) (t : Nat) : (State.raiseLine s src v n t).acts = s.acts := (State.raiseLine_within ..).acts_eq rfl
@[simp] theorem State.raiseLine_hits (s : State) (src : Nat) (v : Nat) (n : Nat) (t : Nat) : (State.raiseLine s src v n t).hits = s.hits := (State.raiseLine_within ..).hits_eq rfl
@[simp] theorem State.raiseLine_net (s : State) (src : Nat) (v : Nat) (n : Nat) (t : Nat) : (State.raiseLine s src v n t).net = s.net := (State.raiseLine_within ..).net_eq rfl
@[simp] theorem State.raiseLine_stream (s : State) (src : Nat) (v : Nat) (n : Nat) (t : Nat) : (State.raiseLine s src v n t).stream = s.stream := (State.raiseLine_within ..).stream_eq rfl
@[simp] theorem State.raiseLine_dec (s : State) (src : Nat) (v : Nat) (n : Nat) (t : Nat) : (State.raiseLine s src v n t).dec = s.dec := (State.raiseLine_within ..).dec_eq rfl
@[simp] theorem State.raiseLine_queue (s : State) (src : Nat) (v : Nat) (n : Nat) (t : Nat) : (State.raiseLine s src v n t).queue = s.queue := (State.raiseLine_within ..).queue_eq rfl
@[simp] theorem State.raiseLine_levels (s : State) (src : Nat) (v : Nat) (n : Nat) (t : Nat) : (State.raiseLine s src v n t).levels = s.levels := (State.raiseLine_within ..).levels_eq rfl
@[simp] theorem State.raiseLine_arb (s : State) (src : Nat) (v : Nat) (n : Nat) (t : Nat) : (State.raiseLine s src v n t).arb = s.arb := (State.raiseLine_within ..).arb_eq rfl
@[simp] theorem State.raiseLine_qshadow (s : State) (src : Nat) (v : Nat) (n : Nat) (t : Nat) : (State.raiseLine s src v n t).qshadow = s.qshadow := (State.raiseLine_within ..).qshadow_eq rfl
@[simp] theorem State.raiseLine_hqLo (s : State) (src : Nat) (v : Nat) (n : Nat) (t : Nat) : (State.raiseLine s src v n t).hqLo = s.hqLo := (State.raiseLine_within ..).hqLo_eq rfl
@[simp] theorem State.raiseLine_dma (s : State) (src : Nat) (v : Nat) (n : Nat) (t : Nat) : (State.raiseLine s src v n t).dma = s.dma := (State.raiseLine_within ..).dma_eq rfl
@[simp] theorem State.raiseLine_zip (s : State) (src : Nat) (v : Nat) (n : Nat) (t : Nat) : (State.raiseLine s src v n t).zip = s.zip := (State.raiseLine_within ..).zip_eq rfl
@[simp] theorem State.raiseLine_twl (s : State) (src : Nat) (v : Nat) (n : Nat) (t : Nat) : (State.raiseLine s src v n t).twl = s.twl := (State.raiseLine_within ..).twl_eq rfl
@[simp] theorem State.raiseLine_fifo (s : State) (src : Nat) (v : Nat) (n : Nat) (t : Nat) : (State.raiseLine s src v n t).fifo = s.fifo := (State.raiseLine_within ..).fifo_eq rfl
@[simp] theorem State.raiseLine_mc (s : State) (src : Nat) (v : Nat) (n : Nat) (t : Nat) : (State.raiseLine s src v n t).mc = s.mc := (State.raiseLine_within ..).mc_eq rfl
@[simp] theorem State.raiseLine_mcg (s : State) (src : Nat) (v : Nat) (n : Nat) (t : Nat) : (State.raiseLine s src v n t).mcg = s.mcg := (State.raiseLine_within ..).mcg_eq rfl
@[simp] theorem State.raiseLine_hlth (s : State) (src : Nat) (v : Nat) (n : Nat) (t : Nat) : (State.raiseLine s src v n t).hlth = s.hlth := (State.raiseLine_within ..).hlth_eq rfl
@[simp] theorem State.raiseLine_log (s : State) (src : Nat) (v : Nat) (n : Nat) (t : Nat) : (State.raiseLine s src v n t).log = s.log := (State.raiseLine_within ..).log_eq rfl
@[simp] theorem State.raiseLine_logLatch (s : State) (src : Nat) (v : Nat) (n : Nat) (t : Nat) : (State.raiseLine s src v n t).logLatch = s.logLatch := (State.raiseLine_within ..).logLatch_eq rfl
@[simp] theorem State.raiseLine_commits (s : State) (src : Nat) (v : Nat) (n : Nat) (t : Nat) : (State.raiseLine s src v n t).commits = s.commits := (State.raiseLine_within ..).commits_eq rfl
@[simp] theorem State.raiseLine_cmtRec (s : State) (src : Nat) (v : Nat) (n : Nat) (t : Nat) : (State.raiseLine s src v n t).cmtRec = s.cmtRec := (State.raiseLine_within ..).cmtRec_eq rfl
@[simp] theorem State.raiseLine_entered (s : State) (src : Nat) (v : Nat) (n : Nat) (t : Nat) : (State.raiseLine s src v n t).entered = s.entered := (State.raiseLine_within ..).entered_eq rfl
@[simp] theorem State.raiseLine_lockAt (s : State) (src : Nat) (v : Nat) (n : Nat) (t : Nat) : (State.raiseLine s src v n t).lockAt = s.lockAt := (State.raiseLine_within ..).lockAt_eq rfl
@[simp] theorem State.raiseLine_lockKey (s : State) (src : Nat) (v : Nat) (n : Nat) (t : Nat) : (State.raiseLine s src v n t).lockKey = s.lockKey := (State.raiseLine_within ..).lockKey_eq rfl
@[simp] theorem State.raiseLine_revoking (s : State) (src : Nat) (v : Nat) (n : Nat) (t : Nat) : (State.raiseLine s src v n t).revoking = s.revoking := (State.raiseLine_within ..).revoking_eq rfl
@[simp] theorem State.raiseLine_dead (s : State) (src : Nat) (v : Nat) (n : Nat) (t : Nat) : (State.raiseLine s src v n t).dead = s.dead := (State.raiseLine_within ..).dead_eq rfl
@[simp] theorem State.raiseLine_chanOf (s : State) (src : Nat) (v : Nat) (n : Nat) (t : Nat) (c0 : Nat) : (State.raiseLine s src v n t).chanOf c0 = s.chanOf c0 := (State.raiseLine_within ..).chanOf c0 rfl
@[simp] theorem State.raiseLine_tgOf (s : State) (src : Nat) (v : Nat) (n : Nat) (t : Nat) (c0 : Nat) : (State.raiseLine s src v n t).tgOf c0 = s.tgOf c0 := (State.raiseLine_within ..).tgOf c0 rfl
@[simp] theorem State.raiseLine_view_ (s : State) (src : Nat) (v : Nat) (n : Nat) (t : Nat) (c0 : Nat) : (State.raiseLine s src v n t).view_ c0 = s.view_ c0 := (State.raiseLine_within ..).view_ c0 rfl
@[simp] theorem State.raiseLine_link_ (s : State) (src : Nat) (v : Nat) (n : Nat) (t : Nat) (c0 : Nat) : (State.raiseLine s src v n t).link_ c0 = s.link_ c0 := (State.raiseLine_within ..).link_ c0 rfl
@[simp] theorem State.raiseLine_train_ (s : State) (src : Nat) (v : Nat) (n : Nat) (t : Nat) (c0 d0 : Nat) : (State.raiseLine s src v n t).train_ c0 d0 = s.train_ c0 d0 := (State.raiseLine_within ..).train_ c0 d0 rfl
@[simp] theorem State.raiseLine_jk (s : State) (src : Nat) (v : Nat) (n : Nat) (t : Nat) (c0 : Nat) : (State.raiseLine s src v n t).jk c0 = s.jk c0 := (State.raiseLine_within ..).jk c0 rfl
@[simp] theorem State.raiseLine_q (s : State) (src : Nat) (v : Nat) (n : Nat) (t : Nat) (c0 : Nat) : (State.raiseLine s src v n t).q c0 = s.q c0 := (State.raiseLine_within ..).q c0 rfl
@[simp] theorem State.raiseLine_mcOf (s : State) (src : Nat) (v : Nat) (n : Nat) (t : Nat) (c0 : Nat) : (State.raiseLine s src v n t).mcOf c0 = s.mcOf c0 := (State.raiseLine_within ..).mcOf c0 rfl
@[simp] theorem State.raiseLine_engOf (s : State) (src : Nat) (v : Nat) (n : Nat) (t : Nat) (c0 : Nat) : (State.raiseLine s src v n t).engOf c0 = s.engOf c0 := (State.raiseLine_within ..).engOf c0 rfl
@[simp] theorem State.raiseLine_intk (s : State) (src : Nat) (v : Nat) (n : Nat) (t : Nat) (c0 : Nat) : (State.raiseLine s src v n t).intk c0 = s.intk c0 := (State.raiseLine_within ..).intk c0 rfl
@[simp] theorem State.raiseLine_pipe_ (s : State) (src : Nat) (v : Nat) (n : Nat) (t : Nat) (c0 : Nat) : (State.raiseLine s src v n t).pipe_ c0 = s.pipe_ c0 := (State.raiseLine_within ..).pipe_ c0 rfl
@[simp] theorem State.raiseLine_corr_ (s : State) (src : Nat) (v : Nat) (n : Nat) (t : Nat) (c0 : Nat) : (State.raiseLine s src v n t).corr_ c0 = s.corr_ c0 := (State.raiseLine_within ..).corr_ c0 rfl
@[simp] theorem State.raiseLine_sti (s : State) (src : Nat) (v : Nat) (n : Nat) (t : Nat) (c0 : Nat) : (State.raiseLine s src v n t).sti c0 = s.sti c0 := (State.raiseLine_within ..).sti c0 rfl
@[simp] theorem State.raiseLine_sess (s : State) (src : Nat) (v : Nat) (n : Nat) (t : Nat) (c0 : Nat) : (State.raiseLine s src v n t).sess c0 = s.sess c0 := (State.raiseLine_within ..).sess c0 rfl
@[simp] theorem State.raiseLine_str_ (s : State) (src : Nat) (v : Nat) (n : Nat) (t : Nat) (c0 : Nat) : (State.raiseLine s src v n t).str_ c0 = s.str_ c0 := (State.raiseLine_within ..).str_ c0 rfl
@[simp] theorem State.raiseLine_twlOf (s : State) (src : Nat) (v : Nat) (n : Nat) (t : Nat) (c0 : Nat) : (State.raiseLine s src v n t).twlOf c0 = s.twlOf c0 := (State.raiseLine_within ..).twlOf c0 rfl
@[simp] theorem State.raiseLine_ch (s : State) (src : Nat) (v : Nat) (n : Nat) (t : Nat) (c0 : Nat) : (State.raiseLine s src v n t).ch c0 = s.ch c0 := (State.raiseLine_within ..).ch c0 rfl
@[simp] theorem State.raiseLine_mstV (s : State) (src : Nat) (v : Nat) (n : Nat) (t : Nat) (c0 : Nat) : (State.raiseLine s src v n t).mstV c0 = s.mstV c0 := (State.raiseLine_within ..).mstV c0 rfl
@[simp] theorem State.raiseLine_calOf (s : State) (src : Nat) (v : Nat) (n : Nat) (t : Nat) (c0 : Nat) : (State.raiseLine s src v n t).calOf c0 = s.calOf c0 := (State.raiseLine_within ..).calOf c0 rfl
@[simp] theorem State.raiseLine_fifoOf (s : State) (src : Nat) (v : Nat) (n : Nat) (t : Nat) (c0 : Nat) : (State.raiseLine s src v n t).fifoOf c0 = s.fifoOf c0 := (State.raiseLine_within ..).fifoOf c0 rfl
@[simp] theorem State.raiseLine_pend (s : State) (src : Nat) (v : Nat) (n : Nat) (t : Nat) (c0 : Nat) : (State.raiseLine s src v n t).pend c0 = s.pend c0 := (State.raiseLine_within ..).pend c0 rfl
@[simp] theorem State.raiseLine_mode (s : State) (src : Nat) (v : Nat) (n : Nat) (t : Nat)  : (State.raiseLine s src v n t).mode  = s.mode  := (State.raiseLine_within ..).mode  rfl
@[simp] theorem State.raiseLine_on (s : State) (src : Nat) (v : Nat) (n : Nat) (t : Nat) (c0 : Nat) (d0 : Fld) : (State.raiseLine s src v n t).on c0 d0 = s.on c0 d0 := (State.raiseLine_within ..).on c0 d0 rfl
@[simp] theorem State.raiseLine_rdShadow (s : State) (src : Nat) (v : Nat) (n : Nat) (t : Nat) (c0 d0 : Nat) : (State.raiseLine s src v n t).rdShadow c0 d0 = s.rdShadow c0 d0 := (State.raiseLine_within ..).rdShadow c0 d0 rfl
@[simp] theorem State.raiseLine_rd (s : State) (src : Nat) (v : Nat) (n : Nat) (t : Nat) (c0 d0 : Nat) : (State.raiseLine s src v n t).rd c0 d0 = s.rd c0 d0 := (State.raiseLine_within ..).rd c0 d0 rfl
@[simp] theorem State.raiseLine_fld (s : State) (src : Nat) (v : Nat) (n : Nat) (t : Nat) (c0 : Nat) (d0 : Fld) : (State.raiseLine s src v n t).fld c0 d0 = s.fld c0 d0 := (State.raiseLine_within ..).fld c0 d0 rfl
@[simp] theorem State.raiseLine_win (s : State) (src : Nat) (v : Nat) (n : Nat) (t : Nat) (c0 : Nat) : (State.raiseLine s src v n t).win c0 = s.win c0 := (State.raiseLine_within ..).win c0 rfl
/-! State.posEvent -/

@[simp] theorem State.posEvent_mem (s : State) (ch : Nat) (k : Nat) (sample : Nat) : (State.posEvent s ch k sample).mem = s.mem := (State.posEvent_within ..).mem_eq rfl
@[simp] theorem State.posEvent_blank (s : State) (ch : Nat) (k : Nat) (sample : Nat) : (State.posEvent s ch k sample).blank = s.blank := (State.posEvent_within ..).blank_eq rfl
@[simp] theorem State.posEvent_badLine (s : State) (ch : Nat) (k : Nat) (sample : Nat) : (State.posEvent s ch k sample).badLine = s.badLine := (State.posEvent_within ..).badLine_eq rfl
@[simp] theorem State.posEvent_regs (s : State) (ch : Nat) (k : Nat) (sample : Nat) : (State.posEvent s ch k sample).regs = s.regs := (State.posEvent_within ..).regs_eq rfl
@[simp] theorem State.posEvent_shadow (s : State) (ch : Nat) (k : Nat) (sample : Nat) : (State.posEvent s ch k sample).shadow = s.shadow := (State.posEvent_within ..).shadow_eq rfl
@[simp] theorem State.posEvent_wroDone (s : State) (ch : Nat) (k : Nat) (sample : Nat) : (State.posEvent s ch k sample).wroDone = s.wroDone := (State.posEvent_within ..).wroDone_eq rfl
@[simp] theorem State.posEvent_window (s : State) (ch : Nat) (k : Nat) (sample : Nat) : (State.posEvent s ch k sample).window = s.window := (State.posEvent_within ..).window_eq rfl
@[simp] theorem State.posEvent_out (s : State) (ch : Nat) (k : Nat) (sample : Nat) : (State.posEvent s ch k sample).out = s.out := (State.posEvent_within ..).out_eq rfl
@[simp] theorem State.posEvent_raw (s : State) (ch : Nat) (k : Nat) (sample : Nat) : (State.posEvent s ch k sample).raw = s.raw := (State.posEvent_within ..).raw_eq rfl
@[simp] theorem State.posEvent_free (s : State) (ch : Nat) (k : Nat) (sample : Nat) : (State.posEvent s ch k sample).free = s.free := (State.posEvent_within ..).free_eq rfl
@[simp] theorem State.posEvent_fuse (s : State) (ch : Nat) (k : Nat) (sample : Nat) : (State.posEvent s ch k sample).fuse = s.fuse := (State.posEvent_within ..).fuse_eq rfl
@[simp] theorem State.posEvent_trained (s : State) (ch : Nat) (k : Nat) (sample : Nat) : (State.posEvent s ch k sample).trained = s.trained := (State.posEvent_within ..).trained_eq rfl
@[simp] theorem State.posEvent_bootWait (s : State) (ch : Nat) (k : Nat) (sample : Nat) : (State.posEvent s ch k sample).bootWait = s.bootWait := (State.posEvent_within ..).bootWait_eq rfl
@[simp] theorem State.posEvent_tb (s : State) (ch : Nat) (k : Nat) (sample : Nat) : (State.posEvent s ch k sample).tb = s.tb := (State.posEvent_within ..).tb_eq rfl
@[simp] theorem State.posEvent_crl (s : State) (ch : Nat) (k : Nat) (sample : Nat) : (State.posEvent s ch k sample).crl = s.crl := (State.posEvent_within ..).crl_eq rfl
@[simp] theorem State.posEvent_evio (s : State) (ch : Nat) (k : Nat) (sample : Nat) : (State.posEvent s ch k sample).evio = s.evio := (State.posEvent_within ..).evio_eq rfl
@[simp] theorem State.posEvent_evf (s : State) (ch : Nat) (k : Nat) (sample : Nat) : (State.posEvent s ch k sample).evf = s.evf := (State.posEvent_within ..).evf_eq rfl
@[simp] theorem State.posEvent_chan (s : State) (ch : Nat) (k : Nat) (sample : Nat) : (State.posEvent s ch k sample).chan = s.chan := (State.posEvent_within ..).chan_eq rfl
@[simp] theorem State.posEvent_tg (s : State) (ch : Nat) (k : Nat) (sample : Nat) : (State.posEvent s ch k sample).tg = s.tg := (State.posEvent_within ..).tg_eq rfl
@[simp] theorem State.posEvent_view (s : State) (ch : Nat) (k : Nat) (sample : Nat) : (State.posEvent s ch k sample).view = s.view := (State.posEvent_within ..).view_eq rfl
@[simp] theorem State.posEvent_link (s : State) (ch : Nat) (k : Nat) (sample : Nat) : (State.posEvent s ch k sample).link = s.link := (State.posEvent_within ..).link_eq rfl
@[simp] theorem State.posEvent_train (s : State) (ch : Nat) (k : Nat) (sample : Nat) : (State.posEvent s ch k sample).train = s.train := (State.posEvent_within ..).train_eq rfl
@[simp] theorem State.posEvent_joker (s : State) (ch : Nat) (k : Nat) (sample : Nat) : (State.posEvent s ch k sample).joker = s.joker := (State.posEvent_within ..).joker_eq rfl
@[simp] theorem State.posEvent_roWritten (s : State) (ch : Nat) (k : Nat) (sample : Nat) : (State.posEvent s ch k sample).roWritten = s.roWritten := (State.posEvent_within ..).roWritten_eq rfl
@[simp] theorem State.posEvent_jobA (s : State) (ch : Nat) (k : Nat) (sample : Nat) : (State.posEvent s ch k sample).jobA = s.jobA := (State.posEvent_within ..).jobA_eq rfl
@[simp] theorem State.posEvent_jobN (s : State) (ch : Nat) (k : Nat) (sample : Nat) : (State.posEvent s ch k sample).jobN = s.jobN := (State.posEvent_within ..).jobN_eq rfl
@[simp] theorem State.posEvent_valJob (s : State) (ch : Nat) (k : Nat) (sample : Nat) : (State.posEvent s ch k sample).valJob = s.valJob := (State.posEvent_within ..).valJob_eq rfl
@[simp] theorem State.posEvent_jobVals (s : State) (ch : Nat) (k : Nat) (sample : Nat) : (State.posEvent s ch k sample).jobVals = s.jobVals := (State.posEvent_within ..).jobVals_eq rfl
@[simp] theorem State.posEvent_intake (s : State) (ch : Nat) (k : Nat) (sample : Nat) : (State.posEvent s ch k sample).intake = s.intake := (State.posEvent_within ..).intake_eq rfl
@[simp] theorem State.posEvent_pipe (s : State) (ch : Nat) (k : Nat) (sample : Nat) : (State.posEvent s ch k sample).pipe = s.pipe := (State.posEvent_within ..).pipe_eq rfl
@[simp] theorem State.posEvent_tapBuf (s : State) (ch : Nat) (k : Nat) (sample : Nat) : (State.posEvent s ch k sample).tapBuf = s.tapBuf := (State.posEvent_within ..).tapBuf_eq rfl
@[simp] theorem State.posEvent_corr (s : State) (ch : Nat) (k : Nat) (sample : Nat) : (State.posEvent s ch k sample).corr = s.corr := (State.posEvent_within ..).corr_eq rfl
@[simp] theorem State.posEvent_stitch_ (s : State) (ch : Nat) (k : Nat) (sample : Nat) : (State.posEvent s ch k sample).stitch_ = s.stitch_ := (State.posEvent_within ..).stitch_eq rfl
@[simp] theorem State.posEvent_dot (s : State) (ch : Nat) (k : Nat) (sample : Nat) : (State.posEvent s ch k sample).dot = s.dot := (State.posEvent_within ..).dot_eq rfl
@[simp] theorem State.posEvent_winRes (s : State) (ch : Nat) (k : Nat) (sample : Nat) : (State.posEvent s ch k sample).winRes = s.winRes := (State.posEvent_within ..).winRes_eq rfl
@[simp] theorem State.posEvent_mst (s : State) (ch : Nat) (k : Nat) (sample : Nat) : (State.posEvent s ch k sample).mst = s.mst := (State.posEvent_within ..).mst_eq rfl
@[simp] theorem State.posEvent_predict (s : State) (ch : Nat) (k : Nat) (sample : Nat) : (State.posEvent s ch k sample).predict = s.predict := (State.posEvent_within ..).predict_eq rfl
@[simp] theorem State.posEvent_eng (s : State) (ch : Nat) (k : Nat) (sample : Nat) : (State.posEvent s ch k sample).eng = s.eng := (State.posEvent_within ..).eng_eq rfl
@[simp] theorem State.posEvent_resA (s : State) (ch : Nat) (k : Nat) (sample : Nat) : (State.posEvent s ch k sample).resA = s.resA := (State.posEvent_within ..).resA_eq rfl
@[simp] theorem State.posEvent_resN (s : State) (ch : Nat) (k : Nat) (sample : Nat) : (State.posEvent s ch k sample).resN = s.resN := (State.posEvent_within ..).resN_eq rfl
@[simp] theorem State.posEvent_acts (s : State) (ch : Nat) (k : Nat) (sample : Nat) : (State.posEvent s ch k sample).acts = s.acts := (State.posEvent_within ..).acts_eq rfl
@[simp] theorem State.posEvent_hits (s : State) (ch : Nat) (k : Nat) (sample : Nat) : (State.posEvent s ch k sample).hits = s.hits := (State.posEvent_within ..).hits_eq rfl
@[simp] theorem State.posEvent_net (s : State) (ch : Nat) (k : Nat) (sample : Nat) : (State.posEvent s ch k sample).net = s.net := (State.posEvent_within ..).net_eq rfl
@[simp] theorem State.posEvent_stream (s : State) (ch : Nat) (k : Nat) (sample : Nat) : (State.posEvent s ch k sample).stream = s.stream := (State.posEvent_within ..).stream_eq rfl
@[simp] theorem State.posEvent_dec (s : State) (ch : Nat) (k : Nat) (sample : Nat) : (State.posEvent s ch k sample).dec = s.dec := (State.posEvent_within ..).dec_eq rfl
@[simp] theorem State.posEvent_queue (s : State) (ch : Nat) (k : Nat) (sample : Nat) : (State.posEvent s ch k sample).queue = s.queue := (State.posEvent_within ..).queue_eq rfl
@[simp] theorem State.posEvent_levels (s : State) (ch : Nat) (k : Nat) (sample : Nat) : (State.posEvent s ch k sample).levels = s.levels := (State.posEvent_within ..).levels_eq rfl
@[simp] theorem State.posEvent_arb (s : State) (ch : Nat) (k : Nat) (sample : Nat) : (State.posEvent s ch k sample).arb = s.arb := (State.posEvent_within ..).arb_eq rfl
@[simp] theorem State.posEvent_qshadow (s : State) (ch : Nat) (k : Nat) (sample : Nat) : (State.posEvent s ch k sample).qshadow = s.qshadow := (State.posEvent_within ..).qshadow_eq rfl
@[simp] theorem State.posEvent_hqLo (s : State) (ch : Nat) (k : Nat) (sample : Nat) : (State.posEvent s ch k sample).hqLo = s.hqLo := (State.posEvent_within ..).hqLo_eq rfl
@[simp] theorem State.posEvent_dma (s : State) (ch : Nat) (k : Nat) (sample : Nat) : (State.posEvent s ch k sample).dma = s.dma := (State.posEvent_within ..).dma_eq rfl
@[simp] theorem State.posEvent_zip (s : State) (ch : Nat) (k : Nat) (sample : Nat) : (State.posEvent s ch k sample).zip = s.zip := (State.posEvent_within ..).zip_eq rfl
@[simp] theorem State.posEvent_twl (s : State) (ch : Nat) (k : Nat) (sample : Nat) : (State.posEvent s ch k sample).twl = s.twl := (State.posEvent_within ..).twl_eq rfl
@[simp] theorem State.posEvent_fifo (s : State) (ch : Nat) (k : Nat) (sample : Nat) : (State.posEvent s ch k sample).fifo = s.fifo := (State.posEvent_within ..).fifo_eq rfl
@[simp] theorem State.posEvent_mc (s : State) (ch : Nat) (k : Nat) (sample : Nat) : (State.posEvent s ch k sample).mc = s.mc := (State.posEvent_within ..).mc_eq rfl
@[simp] theorem State.posEvent_mcg (s : State) (ch : Nat) (k : Nat) (sample : Nat) : (State.posEvent s ch k sample).mcg = s.mcg := (State.posEvent_within ..).mcg_eq rfl
@[simp] theorem State.posEvent_hlth (s : State) (ch : Nat) (k : Nat) (sample : Nat) : (State.posEvent s ch k sample).hlth = s.hlth := (State.posEvent_within ..).hlth_eq rfl
@[simp] theorem State.posEvent_log (s : State) (ch : Nat) (k : Nat) (sample : Nat) : (State.posEvent s ch k sample).log = s.log := (State.posEvent_within ..).log_eq rfl
@[simp] theorem State.posEvent_logLatch (s : State) (ch : Nat) (k : Nat) (sample : Nat) : (State.posEvent s ch k sample).logLatch = s.logLatch := (State.posEvent_within ..).logLatch_eq rfl
@[simp] theorem State.posEvent_commits (s : State) (ch : Nat) (k : Nat) (sample : Nat) : (State.posEvent s ch k sample).commits = s.commits := (State.posEvent_within ..).commits_eq rfl
@[simp] theorem State.posEvent_cmtRec (s : State) (ch : Nat) (k : Nat) (sample : Nat) : (State.posEvent s ch k sample).cmtRec = s.cmtRec := (State.posEvent_within ..).cmtRec_eq rfl
@[simp] theorem State.posEvent_entered (s : State) (ch : Nat) (k : Nat) (sample : Nat) : (State.posEvent s ch k sample).entered = s.entered := (State.posEvent_within ..).entered_eq rfl
@[simp] theorem State.posEvent_lockAt (s : State) (ch : Nat) (k : Nat) (sample : Nat) : (State.posEvent s ch k sample).lockAt = s.lockAt := (State.posEvent_within ..).lockAt_eq rfl
@[simp] theorem State.posEvent_lockKey (s : State) (ch : Nat) (k : Nat) (sample : Nat) : (State.posEvent s ch k sample).lockKey = s.lockKey := (State.posEvent_within ..).lockKey_eq rfl
@[simp] theorem State.posEvent_revoking (s : State) (ch : Nat) (k : Nat) (sample : Nat) : (State.posEvent s ch k sample).revoking = s.revoking := (State.posEvent_within ..).revoking_eq rfl
@[simp] theorem State.posEvent_dead (s : State) (ch : Nat) (k : Nat) (sample : Nat) : (State.posEvent s ch k sample).dead = s.dead := (State.posEvent_within ..).dead_eq rfl
@[simp] theorem State.posEvent_chanOf (s : State) (ch : Nat) (k : Nat) (sample : Nat) (c0 : Nat) : (State.posEvent s ch k sample).chanOf c0 = s.chanOf c0 := (State.posEvent_within ..).chanOf c0 rfl
@[simp] theorem State.posEvent_tgOf (s : State) (ch : Nat) (k : Nat) (sample : Nat) (c0 : Nat) : (State.posEvent s ch k sample).tgOf c0 = s.tgOf c0 := (State.posEvent_within ..).tgOf c0 rfl
@[simp] theorem State.posEvent_view_ (s : State) (ch : Nat) (k : Nat) (sample : Nat) (c0 : Nat) : (State.posEvent s ch k sample).view_ c0 = s.view_ c0 := (State.posEvent_within ..).view_ c0 rfl
@[simp] theorem State.posEvent_link_ (s : State) (ch : Nat) (k : Nat) (sample : Nat) (c0 : Nat) : (State.posEvent s ch k sample).link_ c0 = s.link_ c0 := (State.posEvent_within ..).link_ c0 rfl
@[simp] theorem State.posEvent_train_ (s : State) (ch : Nat) (k : Nat) (sample : Nat) (c0 d0 : Nat) : (State.posEvent s ch k sample).train_ c0 d0 = s.train_ c0 d0 := (State.posEvent_within ..).train_ c0 d0 rfl
@[simp] theorem State.posEvent_jk (s : State) (ch : Nat) (k : Nat) (sample : Nat) (c0 : Nat) : (State.posEvent s ch k sample).jk c0 = s.jk c0 := (State.posEvent_within ..).jk c0 rfl
@[simp] theorem State.posEvent_q (s : State) (ch : Nat) (k : Nat) (sample : Nat) (c0 : Nat) : (State.posEvent s ch k sample).q c0 = s.q c0 := (State.posEvent_within ..).q c0 rfl
@[simp] theorem State.posEvent_mcOf (s : State) (ch : Nat) (k : Nat) (sample : Nat) (c0 : Nat) : (State.posEvent s ch k sample).mcOf c0 = s.mcOf c0 := (State.posEvent_within ..).mcOf c0 rfl
@[simp] theorem State.posEvent_engOf (s : State) (ch : Nat) (k : Nat) (sample : Nat) (c0 : Nat) : (State.posEvent s ch k sample).engOf c0 = s.engOf c0 := (State.posEvent_within ..).engOf c0 rfl
@[simp] theorem State.posEvent_intk (s : State) (ch : Nat) (k : Nat) (sample : Nat) (c0 : Nat) : (State.posEvent s ch k sample).intk c0 = s.intk c0 := (State.posEvent_within ..).intk c0 rfl
@[simp] theorem State.posEvent_pipe_ (s : State) (ch : Nat) (k : Nat) (sample : Nat) (c0 : Nat) : (State.posEvent s ch k sample).pipe_ c0 = s.pipe_ c0 := (State.posEvent_within ..).pipe_ c0 rfl
@[simp] theorem State.posEvent_corr_ (s : State) (ch : Nat) (k : Nat) (sample : Nat) (c0 : Nat) : (State.posEvent s ch k sample).corr_ c0 = s.corr_ c0 := (State.posEvent_within ..).corr_ c0 rfl
@[simp] theorem State.posEvent_sti (s : State) (ch : Nat) (k : Nat) (sample : Nat) (c0 : Nat) : (State.posEvent s ch k sample).sti c0 = s.sti c0 := (State.posEvent_within ..).sti c0 rfl
@[simp] theorem State.posEvent_sess (s : State) (ch : Nat) (k : Nat) (sample : Nat) (c0 : Nat) : (State.posEvent s ch k sample).sess c0 = s.sess c0 := (State.posEvent_within ..).sess c0 rfl
@[simp] theorem State.posEvent_str_ (s : State) (ch : Nat) (k : Nat) (sample : Nat) (c0 : Nat) : (State.posEvent s ch k sample).str_ c0 = s.str_ c0 := (State.posEvent_within ..).str_ c0 rfl
@[simp] theorem State.posEvent_twlOf (s : State) (ch : Nat) (k : Nat) (sample : Nat) (c0 : Nat) : (State.posEvent s ch k sample).twlOf c0 = s.twlOf c0 := (State.posEvent_within ..).twlOf c0 rfl
@[simp] theorem State.posEvent_ch (s : State) (ch : Nat) (k : Nat) (sample : Nat) (c0 : Nat) : (State.posEvent s ch k sample).ch c0 = s.ch c0 := (State.posEvent_within ..).ch c0 rfl
@[simp] theorem State.posEvent_mstV (s : State) (ch : Nat) (k : Nat) (sample : Nat) (c0 : Nat) : (State.posEvent s ch k sample).mstV c0 = s.mstV c0 := (State.posEvent_within ..).mstV c0 rfl
@[simp] theorem State.posEvent_calOf (s : State) (ch : Nat) (k : Nat) (sample : Nat) (c0 : Nat) : (State.posEvent s ch k sample).calOf c0 = s.calOf c0 := (State.posEvent_within ..).calOf c0 rfl
@[simp] theorem State.posEvent_fifoOf (s : State) (ch : Nat) (k : Nat) (sample : Nat) (c0 : Nat) : (State.posEvent s ch k sample).fifoOf c0 = s.fifoOf c0 := (State.posEvent_within ..).fifoOf c0 rfl
@[simp] theorem State.posEvent_pend (s : State) (ch : Nat) (k : Nat) (sample : Nat) (c0 : Nat) : (State.posEvent s ch k sample).pend c0 = s.pend c0 := (State.posEvent_within ..).pend c0 rfl
@[simp] theorem State.posEvent_mode (s : State) (ch : Nat) (k : Nat) (sample : Nat)  : (State.posEvent s ch k sample).mode  = s.mode  := (State.posEvent_within ..).mode  rfl
@[simp] theorem State.posEvent_on (s : State) (ch : Nat) (k : Nat) (sample : Nat) (c0 : Nat) (d0 : Fld) : (State.posEvent s ch k sample).on c0 d0 = s.on c0 d0 := (State.posEvent_within ..).on c0 d0 rfl
@[simp] theorem State.posEvent_rdShadow (s : State) (ch : Nat) (k : Nat) (sample : Nat) (c0 d0 : Nat) : (State.posEvent s ch k sample).rdShadow c0 d0 = s.rdShadow c0 d0 := (State.posEvent_within ..).rdShadow c0 d0 rfl
@[simp] theorem State.posEvent_rd (s : State) (ch : Nat) (k : Nat) (sample : Nat) (c0 d0 : Nat) : (State.posEvent s ch k sample).rd c0 d0 = s.rd c0 d0 := (State.posEvent_within ..).rd c0 d0 rfl
@[simp] theorem State.posEvent_fld (s : State) (ch : Nat) (k : Nat) (sample : Nat) (c0 : Nat) (d0 : Fld) : (State.posEvent s ch k sample).fld c0 d0 = s.fld c0 d0 := (State.posEvent_within ..).fld c0 d0 rfl
@[simp] theorem State.posEvent_win (s : State) (ch : Nat) (k : Nat) (sample : Nat) (c0 : Nat) : (State.posEvent s ch k sample).win c0 = s.win c0 := (State.posEvent_within ..).win c0 rfl
/-! State.touch -/

@[simp] theorem State.touch_mem (s : State) (o : Owner) (p : Nat) : (State.touch s o p).mem = s.mem := (State.touch_within ..).mem_eq rfl
@[simp] theorem State.touch_blank (s : State) (o : Owner) (p : Nat) : (State.touch s o p).blank = s.blank := (State.touch_within ..).blank_eq rfl
@[simp] theorem State.touch_badLine (s : State) (o : Owner) (p : Nat) : (State.touch s o p).badLine = s.badLine := (State.touch_within ..).badLine_eq rfl
@[simp] theorem State.touch_regs (s : State) (o : Owner) (p : Nat) : (State.touch s o p).regs = s.regs := (State.touch_within ..).regs_eq rfl
@[simp] theorem State.touch_shadow (s : State) (o : Owner) (p : Nat) : (State.touch s o p).shadow = s.shadow := (State.touch_within ..).shadow_eq rfl
@[simp] theorem State.touch_wroDone (s : State) (o : Owner) (p : Nat) : (State.touch s o p).wroDone = s.wroDone := (State.touch_within ..).wroDone_eq rfl
@[simp] theorem State.touch_window (s : State) (o : Owner) (p : Nat) : (State.touch s o p).window = s.window := (State.touch_within ..).window_eq rfl
@[simp] theorem State.touch_out (s : State) (o : Owner) (p : Nat) : (State.touch s o p).out = s.out := (State.touch_within ..).out_eq rfl
@[simp] theorem State.touch_raw (s : State) (o : Owner) (p : Nat) : (State.touch s o p).raw = s.raw := (State.touch_within ..).raw_eq rfl
@[simp] theorem State.touch_free (s : State) (o : Owner) (p : Nat) : (State.touch s o p).free = s.free := (State.touch_within ..).free_eq rfl
@[simp] theorem State.touch_fuse (s : State) (o : Owner) (p : Nat) : (State.touch s o p).fuse = s.fuse := (State.touch_within ..).fuse_eq rfl
@[simp] theorem State.touch_trained (s : State) (o : Owner) (p : Nat) : (State.touch s o p).trained = s.trained := (State.touch_within ..).trained_eq rfl
@[simp] theorem State.touch_bootWait (s : State) (o : Owner) (p : Nat) : (State.touch s o p).bootWait = s.bootWait := (State.touch_within ..).bootWait_eq rfl
@[simp] theorem State.touch_tb (s : State) (o : Owner) (p : Nat) : (State.touch s o p).tb = s.tb := (State.touch_within ..).tb_eq rfl
@[simp] theorem State.touch_crl (s : State) (o : Owner) (p : Nat) : (State.touch s o p).crl = s.crl := (State.touch_within ..).crl_eq rfl
@[simp] theorem State.touch_evio (s : State) (o : Owner) (p : Nat) : (State.touch s o p).evio = s.evio := (State.touch_within ..).evio_eq rfl
@[simp] theorem State.touch_evf (s : State) (o : Owner) (p : Nat) : (State.touch s o p).evf = s.evf := (State.touch_within ..).evf_eq rfl
@[simp] theorem State.touch_raised (s : State) (o : Owner) (p : Nat) : (State.touch s o p).raised = s.raised := (State.touch_within ..).raised_eq rfl
@[simp] theorem State.touch_chan (s : State) (o : Owner) (p : Nat) : (State.touch s o p).chan = s.chan := (State.touch_within ..).chan_eq rfl
@[simp] theorem State.touch_tg (s : State) (o : Owner) (p : Nat) : (State.touch s o p).tg = s.tg := (State.touch_within ..).tg_eq rfl
@[simp] theorem State.touch_view (s : State) (o : Owner) (p : Nat) : (State.touch s o p).view = s.view := (State.touch_within ..).view_eq rfl
@[simp] theorem State.touch_link (s : State) (o : Owner) (p : Nat) : (State.touch s o p).link = s.link := (State.touch_within ..).link_eq rfl
@[simp] theorem State.touch_train (s : State) (o : Owner) (p : Nat) : (State.touch s o p).train = s.train := (State.touch_within ..).train_eq rfl
@[simp] theorem State.touch_joker (s : State) (o : Owner) (p : Nat) : (State.touch s o p).joker = s.joker := (State.touch_within ..).joker_eq rfl
@[simp] theorem State.touch_roWritten (s : State) (o : Owner) (p : Nat) : (State.touch s o p).roWritten = s.roWritten := (State.touch_within ..).roWritten_eq rfl
@[simp] theorem State.touch_jobA (s : State) (o : Owner) (p : Nat) : (State.touch s o p).jobA = s.jobA := (State.touch_within ..).jobA_eq rfl
@[simp] theorem State.touch_jobN (s : State) (o : Owner) (p : Nat) : (State.touch s o p).jobN = s.jobN := (State.touch_within ..).jobN_eq rfl
@[simp] theorem State.touch_valJob (s : State) (o : Owner) (p : Nat) : (State.touch s o p).valJob = s.valJob := (State.touch_within ..).valJob_eq rfl
@[simp] theorem State.touch_jobVals (s : State) (o : Owner) (p : Nat) : (State.touch s o p).jobVals = s.jobVals := (State.touch_within ..).jobVals_eq rfl
@[simp] theorem State.touch_intake (s : State) (o : Owner) (p : Nat) : (State.touch s o p).intake = s.intake := (State.touch_within ..).intake_eq rfl
@[simp] theorem State.touch_pipe (s : State) (o : Owner) (p : Nat) : (State.touch s o p).pipe = s.pipe := (State.touch_within ..).pipe_eq rfl
@[simp] theorem State.touch_tapBuf (s : State) (o : Owner) (p : Nat) : (State.touch s o p).tapBuf = s.tapBuf := (State.touch_within ..).tapBuf_eq rfl
@[simp] theorem State.touch_corr (s : State) (o : Owner) (p : Nat) : (State.touch s o p).corr = s.corr := (State.touch_within ..).corr_eq rfl
@[simp] theorem State.touch_stitch_ (s : State) (o : Owner) (p : Nat) : (State.touch s o p).stitch_ = s.stitch_ := (State.touch_within ..).stitch_eq rfl
@[simp] theorem State.touch_dot (s : State) (o : Owner) (p : Nat) : (State.touch s o p).dot = s.dot := (State.touch_within ..).dot_eq rfl
@[simp] theorem State.touch_winRes (s : State) (o : Owner) (p : Nat) : (State.touch s o p).winRes = s.winRes := (State.touch_within ..).winRes_eq rfl
@[simp] theorem State.touch_mst (s : State) (o : Owner) (p : Nat) : (State.touch s o p).mst = s.mst := (State.touch_within ..).mst_eq rfl
@[simp] theorem State.touch_predict (s : State) (o : Owner) (p : Nat) : (State.touch s o p).predict = s.predict := (State.touch_within ..).predict_eq rfl
@[simp] theorem State.touch_eng (s : State) (o : Owner) (p : Nat) : (State.touch s o p).eng = s.eng := (State.touch_within ..).eng_eq rfl
@[simp] theorem State.touch_resA (s : State) (o : Owner) (p : Nat) : (State.touch s o p).resA = s.resA := (State.touch_within ..).resA_eq rfl
@[simp] theorem State.touch_resN (s : State) (o : Owner) (p : Nat) : (State.touch s o p).resN = s.resN := (State.touch_within ..).resN_eq rfl
@[simp] theorem State.touch_acts (s : State) (o : Owner) (p : Nat) : (State.touch s o p).acts = s.acts := (State.touch_within ..).acts_eq rfl
@[simp] theorem State.touch_hits (s : State) (o : Owner) (p : Nat) : (State.touch s o p).hits = s.hits := (State.touch_within ..).hits_eq rfl
@[simp] theorem State.touch_net (s : State) (o : Owner) (p : Nat) : (State.touch s o p).net = s.net := (State.touch_within ..).net_eq rfl
@[simp] theorem State.touch_stream (s : State) (o : Owner) (p : Nat) : (State.touch s o p).stream = s.stream := (State.touch_within ..).stream_eq rfl
@[simp] theorem State.touch_dec (s : State) (o : Owner) (p : Nat) : (State.touch s o p).dec = s.dec := (State.touch_within ..).dec_eq rfl
@[simp] theorem State.touch_queue (s : State) (o : Owner) (p : Nat) : (State.touch s o p).queue = s.queue := (State.touch_within ..).queue_eq rfl
@[simp] theorem State.touch_levels (s : State) (o : Owner) (p : Nat) : (State.touch s o p).levels = s.levels := (State.touch_within ..).levels_eq rfl
@[simp] theorem State.touch_arb (s : State) (o : Owner) (p : Nat) : (State.touch s o p).arb = s.arb := (State.touch_within ..).arb_eq rfl
@[simp] theorem State.touch_qshadow (s : State) (o : Owner) (p : Nat) : (State.touch s o p).qshadow = s.qshadow := (State.touch_within ..).qshadow_eq rfl
@[simp] theorem State.touch_hqLo (s : State) (o : Owner) (p : Nat) : (State.touch s o p).hqLo = s.hqLo := (State.touch_within ..).hqLo_eq rfl
@[simp] theorem State.touch_dma (s : State) (o : Owner) (p : Nat) : (State.touch s o p).dma = s.dma := (State.touch_within ..).dma_eq rfl
@[simp] theorem State.touch_zip (s : State) (o : Owner) (p : Nat) : (State.touch s o p).zip = s.zip := (State.touch_within ..).zip_eq rfl
@[simp] theorem State.touch_twl (s : State) (o : Owner) (p : Nat) : (State.touch s o p).twl = s.twl := (State.touch_within ..).twl_eq rfl
@[simp] theorem State.touch_fifo (s : State) (o : Owner) (p : Nat) : (State.touch s o p).fifo = s.fifo := (State.touch_within ..).fifo_eq rfl
@[simp] theorem State.touch_mc (s : State) (o : Owner) (p : Nat) : (State.touch s o p).mc = s.mc := (State.touch_within ..).mc_eq rfl
@[simp] theorem State.touch_mcg (s : State) (o : Owner) (p : Nat) : (State.touch s o p).mcg = s.mcg := (State.touch_within ..).mcg_eq rfl
@[simp] theorem State.touch_hlth (s : State) (o : Owner) (p : Nat) : (State.touch s o p).hlth = s.hlth := (State.touch_within ..).hlth_eq rfl
@[simp] theorem State.touch_log (s : State) (o : Owner) (p : Nat) : (State.touch s o p).log = s.log := (State.touch_within ..).log_eq rfl
@[simp] theorem State.touch_logLatch (s : State) (o : Owner) (p : Nat) : (State.touch s o p).logLatch = s.logLatch := (State.touch_within ..).logLatch_eq rfl
@[simp] theorem State.touch_commits (s : State) (o : Owner) (p : Nat) : (State.touch s o p).commits = s.commits := (State.touch_within ..).commits_eq rfl
@[simp] theorem State.touch_cmtRec (s : State) (o : Owner) (p : Nat) : (State.touch s o p).cmtRec = s.cmtRec := (State.touch_within ..).cmtRec_eq rfl
@[simp] theorem State.touch_entered (s : State) (o : Owner) (p : Nat) : (State.touch s o p).entered = s.entered := (State.touch_within ..).entered_eq rfl
@[simp] theorem State.touch_chanOf (s : State) (o : Owner) (p : Nat) (c0 : Nat) : (State.touch s o p).chanOf c0 = s.chanOf c0 := (State.touch_within ..).chanOf c0 rfl
@[simp] theorem State.touch_tgOf (s : State) (o : Owner) (p : Nat) (c0 : Nat) : (State.touch s o p).tgOf c0 = s.tgOf c0 := (State.touch_within ..).tgOf c0 rfl
@[simp] theorem State.touch_view_ (s : State) (o : Owner) (p : Nat) (c0 : Nat) : (State.touch s o p).view_ c0 = s.view_ c0 := (State.touch_within ..).view_ c0 rfl
@[simp] theorem State.touch_link_ (s : State) (o : Owner) (p : Nat) (c0 : Nat) : (State.touch s o p).link_ c0 = s.link_ c0 := (State.touch_within ..).link_ c0 rfl
@[simp] theorem State.touch_train_ (s : State) (o : Owner) (p : Nat) (c0 d0 : Nat) : (State.touch s o p).train_ c0 d0 = s.train_ c0 d0 := (State.touch_within ..).train_ c0 d0 rfl
@[simp] theorem State.touch_jk (s : State) (o : Owner) (p : Nat) (c0 : Nat) : (State.touch s o p).jk c0 = s.jk c0 := (State.touch_within ..).jk c0 rfl
@[simp] theorem State.touch_q (s : State) (o : Owner) (p : Nat) (c0 : Nat) : (State.touch s o p).q c0 = s.q c0 := (State.touch_within ..).q c0 rfl
@[simp] theorem State.touch_mcOf (s : State) (o : Owner) (p : Nat) (c0 : Nat) : (State.touch s o p).mcOf c0 = s.mcOf c0 := (State.touch_within ..).mcOf c0 rfl
@[simp] theorem State.touch_engOf (s : State) (o : Owner) (p : Nat) (c0 : Nat) : (State.touch s o p).engOf c0 = s.engOf c0 := (State.touch_within ..).engOf c0 rfl
@[simp] theorem State.touch_intk (s : State) (o : Owner) (p : Nat) (c0 : Nat) : (State.touch s o p).intk c0 = s.intk c0 := (State.touch_within ..).intk c0 rfl
@[simp] theorem State.touch_pipe_ (s : State) (o : Owner) (p : Nat) (c0 : Nat) : (State.touch s o p).pipe_ c0 = s.pipe_ c0 := (State.touch_within ..).pipe_ c0 rfl
@[simp] theorem State.touch_corr_ (s : State) (o : Owner) (p : Nat) (c0 : Nat) : (State.touch s o p).corr_ c0 = s.corr_ c0 := (State.touch_within ..).corr_ c0 rfl
@[simp] theorem State.touch_sti (s : State) (o : Owner) (p : Nat) (c0 : Nat) : (State.touch s o p).sti c0 = s.sti c0 := (State.touch_within ..).sti c0 rfl
@[simp] theorem State.touch_sess (s : State) (o : Owner) (p : Nat) (c0 : Nat) : (State.touch s o p).sess c0 = s.sess c0 := (State.touch_within ..).sess c0 rfl
@[simp] theorem State.touch_str_ (s : State) (o : Owner) (p : Nat) (c0 : Nat) : (State.touch s o p).str_ c0 = s.str_ c0 := (State.touch_within ..).str_ c0 rfl
@[simp] theorem State.touch_twlOf (s : State) (o : Owner) (p : Nat) (c0 : Nat) : (State.touch s o p).twlOf c0 = s.twlOf c0 := (State.touch_within ..).twlOf c0 rfl
@[simp] theorem State.touch_ch (s : State) (o : Owner) (p : Nat) (c0 : Nat) : (State.touch s o p).ch c0 = s.ch c0 := (State.touch_within ..).ch c0 rfl
@[simp] theorem State.touch_mstV (s : State) (o : Owner) (p : Nat) (c0 : Nat) : (State.touch s o p).mstV c0 = s.mstV c0 := (State.touch_within ..).mstV c0 rfl
@[simp] theorem State.touch_calOf (s : State) (o : Owner) (p : Nat) (c0 : Nat) : (State.touch s o p).calOf c0 = s.calOf c0 := (State.touch_within ..).calOf c0 rfl
@[simp] theorem State.touch_fifoOf (s : State) (o : Owner) (p : Nat) (c0 : Nat) : (State.touch s o p).fifoOf c0 = s.fifoOf c0 := (State.touch_within ..).fifoOf c0 rfl
@[simp] theorem State.touch_pend (s : State) (o : Owner) (p : Nat) (c0 : Nat) : (State.touch s o p).pend c0 = s.pend c0 := (State.touch_within ..).pend c0 rfl
@[simp] theorem State.touch_mode (s : State) (o : Owner) (p : Nat)  : (State.touch s o p).mode  = s.mode  := (State.touch_within ..).mode  rfl
@[simp] theorem State.touch_on (s : State) (o : Owner) (p : Nat) (c0 : Nat) (d0 : Fld) : (State.touch s o p).on c0 d0 = s.on c0 d0 := (State.touch_within ..).on c0 d0 rfl
@[simp] theorem State.touch_rdShadow (s : State) (o : Owner) (p : Nat) (c0 d0 : Nat) : (State.touch s o p).rdShadow c0 d0 = s.rdShadow c0 d0 := (State.touch_within ..).rdShadow c0 d0 rfl
@[simp] theorem State.touch_rd (s : State) (o : Owner) (p : Nat) (c0 d0 : Nat) : (State.touch s o p).rd c0 d0 = s.rd c0 d0 := (State.touch_within ..).rd c0 d0 rfl
@[simp] theorem State.touch_fld (s : State) (o : Owner) (p : Nat) (c0 : Nat) (d0 : Fld) : (State.touch s o p).fld c0 d0 = s.fld c0 d0 := (State.touch_within ..).fld c0 d0 rfl
@[simp] theorem State.touch_win (s : State) (o : Owner) (p : Nat) (c0 : Nat) : (State.touch s o p).win c0 = s.win c0 := (State.touch_within ..).win c0 rfl
/-! State.irq -/

@[simp] theorem State.irq_mem (s : State) (p : Nat) (bit : Nat) : (State.irq s p bit).mem = s.mem := (State.irq_within ..).mem_eq rfl
@[simp] theorem State.irq_blank (s : State) (p : Nat) (bit : Nat) : (State.irq s p bit).blank = s.blank := (State.irq_within ..).blank_eq rfl
@[simp] theorem State.irq_badLine (s : State) (p : Nat) (bit : Nat) : (State.irq s p bit).badLine = s.badLine := (State.irq_within ..).badLine_eq rfl
@[simp] theorem State.irq_shadow (s : State) (p : Nat) (bit : Nat) : (State.irq s p bit).shadow = s.shadow := (State.irq_within ..).shadow_eq rfl
@[simp] theorem State.irq_wroDone (s : State) (p : Nat) (bit : Nat) : (State.irq s p bit).wroDone = s.wroDone := (State.irq_within ..).wroDone_eq rfl
@[simp] theorem State.irq_raw (s : State) (p : Nat) (bit : Nat) : (State.irq s p bit).raw = s.raw := (State.irq_within ..).raw_eq rfl
@[simp] theorem State.irq_free (s : State) (p : Nat) (bit : Nat) : (State.irq s p bit).free = s.free := (State.irq_within ..).free_eq rfl
@[simp] theorem State.irq_fuse (s : State) (p : Nat) (bit : Nat) : (State.irq s p bit).fuse = s.fuse := (State.irq_within ..).fuse_eq rfl
@[simp] theorem State.irq_trained (s : State) (p : Nat) (bit : Nat) : (State.irq s p bit).trained = s.trained := (State.irq_within ..).trained_eq rfl
@[simp] theorem State.irq_bootWait (s : State) (p : Nat) (bit : Nat) : (State.irq s p bit).bootWait = s.bootWait := (State.irq_within ..).bootWait_eq rfl
@[simp] theorem State.irq_tb (s : State) (p : Nat) (bit : Nat) : (State.irq s p bit).tb = s.tb := (State.irq_within ..).tb_eq rfl
@[simp] theorem State.irq_crl (s : State) (p : Nat) (bit : Nat) : (State.irq s p bit).crl = s.crl := (State.irq_within ..).crl_eq rfl
@[simp] theorem State.irq_evio (s : State) (p : Nat) (bit : Nat) : (State.irq s p bit).evio = s.evio := (State.irq_within ..).evio_eq rfl
@[simp] theorem State.irq_evf (s : State) (p : Nat) (bit : Nat) : (State.irq s p bit).evf = s.evf := (State.irq_within ..).evf_eq rfl
@[simp] theorem State.irq_raised (s : State) (p : Nat) (bit : Nat) : (State.irq s p bit).raised = s.raised := (State.irq_within ..).raised_eq rfl
@[simp] theorem State.irq_chan (s : State) (p : Nat) (bit : Nat) : (State.irq s p bit).chan = s.chan := (State.irq_within ..).chan_eq rfl
@[simp] theorem State.irq_tg (s : State) (p : Nat) (bit : Nat) : (State.irq s p bit).tg = s.tg := (State.irq_within ..).tg_eq rfl
@[simp] theorem State.irq_view (s : State) (p : Nat) (bit : Nat) : (State.irq s p bit).view = s.view := (State.irq_within ..).view_eq rfl
@[simp] theorem State.irq_link (s : State) (p : Nat) (bit : Nat) : (State.irq s p bit).link = s.link := (State.irq_within ..).link_eq rfl
@[simp] theorem State.irq_train (s : State) (p : Nat) (bit : Nat) : (State.irq s p bit).train = s.train := (State.irq_within ..).train_eq rfl
@[simp] theorem State.irq_joker (s : State) (p : Nat) (bit : Nat) : (State.irq s p bit).joker = s.joker := (State.irq_within ..).joker_eq rfl
@[simp] theorem State.irq_roWritten (s : State) (p : Nat) (bit : Nat) : (State.irq s p bit).roWritten = s.roWritten := (State.irq_within ..).roWritten_eq rfl
@[simp] theorem State.irq_jobA (s : State) (p : Nat) (bit : Nat) : (State.irq s p bit).jobA = s.jobA := (State.irq_within ..).jobA_eq rfl
@[simp] theorem State.irq_jobN (s : State) (p : Nat) (bit : Nat) : (State.irq s p bit).jobN = s.jobN := (State.irq_within ..).jobN_eq rfl
@[simp] theorem State.irq_valJob (s : State) (p : Nat) (bit : Nat) : (State.irq s p bit).valJob = s.valJob := (State.irq_within ..).valJob_eq rfl
@[simp] theorem State.irq_jobVals (s : State) (p : Nat) (bit : Nat) : (State.irq s p bit).jobVals = s.jobVals := (State.irq_within ..).jobVals_eq rfl
@[simp] theorem State.irq_intake (s : State) (p : Nat) (bit : Nat) : (State.irq s p bit).intake = s.intake := (State.irq_within ..).intake_eq rfl
@[simp] theorem State.irq_pipe (s : State) (p : Nat) (bit : Nat) : (State.irq s p bit).pipe = s.pipe := (State.irq_within ..).pipe_eq rfl
@[simp] theorem State.irq_tapBuf (s : State) (p : Nat) (bit : Nat) : (State.irq s p bit).tapBuf = s.tapBuf := (State.irq_within ..).tapBuf_eq rfl
@[simp] theorem State.irq_corr (s : State) (p : Nat) (bit : Nat) : (State.irq s p bit).corr = s.corr := (State.irq_within ..).corr_eq rfl
@[simp] theorem State.irq_stitch_ (s : State) (p : Nat) (bit : Nat) : (State.irq s p bit).stitch_ = s.stitch_ := (State.irq_within ..).stitch_eq rfl
@[simp] theorem State.irq_dot (s : State) (p : Nat) (bit : Nat) : (State.irq s p bit).dot = s.dot := (State.irq_within ..).dot_eq rfl
@[simp] theorem State.irq_winRes (s : State) (p : Nat) (bit : Nat) : (State.irq s p bit).winRes = s.winRes := (State.irq_within ..).winRes_eq rfl
@[simp] theorem State.irq_mst (s : State) (p : Nat) (bit : Nat) : (State.irq s p bit).mst = s.mst := (State.irq_within ..).mst_eq rfl
@[simp] theorem State.irq_predict (s : State) (p : Nat) (bit : Nat) : (State.irq s p bit).predict = s.predict := (State.irq_within ..).predict_eq rfl
@[simp] theorem State.irq_eng (s : State) (p : Nat) (bit : Nat) : (State.irq s p bit).eng = s.eng := (State.irq_within ..).eng_eq rfl
@[simp] theorem State.irq_resA (s : State) (p : Nat) (bit : Nat) : (State.irq s p bit).resA = s.resA := (State.irq_within ..).resA_eq rfl
@[simp] theorem State.irq_resN (s : State) (p : Nat) (bit : Nat) : (State.irq s p bit).resN = s.resN := (State.irq_within ..).resN_eq rfl
@[simp] theorem State.irq_acts (s : State) (p : Nat) (bit : Nat) : (State.irq s p bit).acts = s.acts := (State.irq_within ..).acts_eq rfl
@[simp] theorem State.irq_hits (s : State) (p : Nat) (bit : Nat) : (State.irq s p bit).hits = s.hits := (State.irq_within ..).hits_eq rfl
@[simp] theorem State.irq_net (s : State) (p : Nat) (bit : Nat) : (State.irq s p bit).net = s.net := (State.irq_within ..).net_eq rfl
@[simp] theorem State.irq_stream (s : State) (p : Nat) (bit : Nat) : (State.irq s p bit).stream = s.stream := (State.irq_within ..).stream_eq rfl
@[simp] theorem State.irq_dec (s : State) (p : Nat) (bit : Nat) : (State.irq s p bit).dec = s.dec := (State.irq_within ..).dec_eq rfl
@[simp] theorem State.irq_queue (s : State) (p : Nat) (bit : Nat) : (State.irq s p bit).queue = s.queue := (State.irq_within ..).queue_eq rfl
@[simp] theorem State.irq_levels (s : State) (p : Nat) (bit : Nat) : (State.irq s p bit).levels = s.levels := (State.irq_within ..).levels_eq rfl
@[simp] theorem State.irq_arb (s : State) (p : Nat) (bit : Nat) : (State.irq s p bit).arb = s.arb := (State.irq_within ..).arb_eq rfl
@[simp] theorem State.irq_qshadow (s : State) (p : Nat) (bit : Nat) : (State.irq s p bit).qshadow = s.qshadow := (State.irq_within ..).qshadow_eq rfl
@[simp] theorem State.irq_hqLo (s : State) (p : Nat) (bit : Nat) : (State.irq s p bit).hqLo = s.hqLo := (State.irq_within ..).hqLo_eq rfl
@[simp] theorem State.irq_dma (s : State) (p : Nat) (bit : Nat) : (State.irq s p bit).dma = s.dma := (State.irq_within ..).dma_eq rfl
@[simp] theorem State.irq_zip (s : State) (p : Nat) (bit : Nat) : (State.irq s p bit).zip = s.zip := (State.irq_within ..).zip_eq rfl
@[simp] theorem State.irq_twl (s : State) (p : Nat) (bit : Nat) : (State.irq s p bit).twl = s.twl := (State.irq_within ..).twl_eq rfl
@[simp] theorem State.irq_fifo (s : State) (p : Nat) (bit : Nat) : (State.irq s p bit).fifo = s.fifo := (State.irq_within ..).fifo_eq rfl
@[simp] theorem State.irq_mc (s : State) (p : Nat) (bit : Nat) : (State.irq s p bit).mc = s.mc := (State.irq_within ..).mc_eq rfl
@[simp] theorem State.irq_mcg (s : State) (p : Nat) (bit : Nat) : (State.irq s p bit).mcg = s.mcg := (State.irq_within ..).mcg_eq rfl
@[simp] theorem State.irq_hlth (s : State) (p : Nat) (bit : Nat) : (State.irq s p bit).hlth = s.hlth := (State.irq_within ..).hlth_eq rfl
@[simp] theorem State.irq_log (s : State) (p : Nat) (bit : Nat) : (State.irq s p bit).log = s.log := (State.irq_within ..).log_eq rfl
@[simp] theorem State.irq_logLatch (s : State) (p : Nat) (bit : Nat) : (State.irq s p bit).logLatch = s.logLatch := (State.irq_within ..).logLatch_eq rfl
@[simp] theorem State.irq_commits (s : State) (p : Nat) (bit : Nat) : (State.irq s p bit).commits = s.commits := (State.irq_within ..).commits_eq rfl
@[simp] theorem State.irq_cmtRec (s : State) (p : Nat) (bit : Nat) : (State.irq s p bit).cmtRec = s.cmtRec := (State.irq_within ..).cmtRec_eq rfl
@[simp] theorem State.irq_entered (s : State) (p : Nat) (bit : Nat) : (State.irq s p bit).entered = s.entered := (State.irq_within ..).entered_eq rfl
@[simp] theorem State.irq_lockAt (s : State) (p : Nat) (bit : Nat) : (State.irq s p bit).lockAt = s.lockAt := (State.irq_within ..).lockAt_eq rfl
@[simp] theorem State.irq_lockKey (s : State) (p : Nat) (bit : Nat) : (State.irq s p bit).lockKey = s.lockKey := (State.irq_within ..).lockKey_eq rfl
@[simp] theorem State.irq_revoking (s : State) (p : Nat) (bit : Nat) : (State.irq s p bit).revoking = s.revoking := (State.irq_within ..).revoking_eq rfl
@[simp] theorem State.irq_dead (s : State) (p : Nat) (bit : Nat) : (State.irq s p bit).dead = s.dead := (State.irq_within ..).dead_eq rfl
@[simp] theorem State.irq_chanOf (s : State) (p : Nat) (bit : Nat) (c0 : Nat) : (State.irq s p bit).chanOf c0 = s.chanOf c0 := (State.irq_within ..).chanOf c0 rfl
@[simp] theorem State.irq_tgOf (s : State) (p : Nat) (bit : Nat) (c0 : Nat) : (State.irq s p bit).tgOf c0 = s.tgOf c0 := (State.irq_within ..).tgOf c0 rfl
@[simp] theorem State.irq_view_ (s : State) (p : Nat) (bit : Nat) (c0 : Nat) : (State.irq s p bit).view_ c0 = s.view_ c0 := (State.irq_within ..).view_ c0 rfl
@[simp] theorem State.irq_link_ (s : State) (p : Nat) (bit : Nat) (c0 : Nat) : (State.irq s p bit).link_ c0 = s.link_ c0 := (State.irq_within ..).link_ c0 rfl
@[simp] theorem State.irq_train_ (s : State) (p : Nat) (bit : Nat) (c0 d0 : Nat) : (State.irq s p bit).train_ c0 d0 = s.train_ c0 d0 := (State.irq_within ..).train_ c0 d0 rfl
@[simp] theorem State.irq_jk (s : State) (p : Nat) (bit : Nat) (c0 : Nat) : (State.irq s p bit).jk c0 = s.jk c0 := (State.irq_within ..).jk c0 rfl
@[simp] theorem State.irq_q (s : State) (p : Nat) (bit : Nat) (c0 : Nat) : (State.irq s p bit).q c0 = s.q c0 := (State.irq_within ..).q c0 rfl
@[simp] theorem State.irq_mcOf (s : State) (p : Nat) (bit : Nat) (c0 : Nat) : (State.irq s p bit).mcOf c0 = s.mcOf c0 := (State.irq_within ..).mcOf c0 rfl
@[simp] theorem State.irq_engOf (s : State) (p : Nat) (bit : Nat) (c0 : Nat) : (State.irq s p bit).engOf c0 = s.engOf c0 := (State.irq_within ..).engOf c0 rfl
@[simp] theorem State.irq_intk (s : State) (p : Nat) (bit : Nat) (c0 : Nat) : (State.irq s p bit).intk c0 = s.intk c0 := (State.irq_within ..).intk c0 rfl
@[simp] theorem State.irq_pipe_ (s : State) (p : Nat) (bit : Nat) (c0 : Nat) : (State.irq s p bit).pipe_ c0 = s.pipe_ c0 := (State.irq_within ..).pipe_ c0 rfl
@[simp] theorem State.irq_corr_ (s : State) (p : Nat) (bit : Nat) (c0 : Nat) : (State.irq s p bit).corr_ c0 = s.corr_ c0 := (State.irq_within ..).corr_ c0 rfl
@[simp] theorem State.irq_sti (s : State) (p : Nat) (bit : Nat) (c0 : Nat) : (State.irq s p bit).sti c0 = s.sti c0 := (State.irq_within ..).sti c0 rfl
@[simp] theorem State.irq_sess (s : State) (p : Nat) (bit : Nat) (c0 : Nat) : (State.irq s p bit).sess c0 = s.sess c0 := (State.irq_within ..).sess c0 rfl
@[simp] theorem State.irq_str_ (s : State) (p : Nat) (bit : Nat) (c0 : Nat) : (State.irq s p bit).str_ c0 = s.str_ c0 := (State.irq_within ..).str_ c0 rfl
@[simp] theorem State.irq_twlOf (s : State) (p : Nat) (bit : Nat) (c0 : Nat) : (State.irq s p bit).twlOf c0 = s.twlOf c0 := (State.irq_within ..).twlOf c0 rfl
@[simp] theorem State.irq_ch (s : State) (p : Nat) (bit : Nat) (c0 : Nat) : (State.irq s p bit).ch c0 = s.ch c0 := (State.irq_within ..).ch c0 rfl
@[simp] theorem State.irq_mstV (s : State) (p : Nat) (bit : Nat) (c0 : Nat) : (State.irq s p bit).mstV c0 = s.mstV c0 := (State.irq_within ..).mstV c0 rfl
@[simp] theorem State.irq_calOf (s : State) (p : Nat) (bit : Nat) (c0 : Nat) : (State.irq s p bit).calOf c0 = s.calOf c0 := (State.irq_within ..).calOf c0 rfl
@[simp] theorem State.irq_fifoOf (s : State) (p : Nat) (bit : Nat) (c0 : Nat) : (State.irq s p bit).fifoOf c0 = s.fifoOf c0 := (State.irq_within ..).fifoOf c0 rfl
@[simp] theorem State.irq_pend (s : State) (p : Nat) (bit : Nat) (c0 : Nat) : (State.irq s p bit).pend c0 = s.pend c0 := (State.irq_within ..).pend c0 rfl
@[simp] theorem State.irq_rdShadow (s : State) (p : Nat) (bit : Nat) (c0 d0 : Nat) : (State.irq s p bit).rdShadow c0 d0 = s.rdShadow c0 d0 := (State.irq_within ..).rdShadow c0 d0 rfl
/-! State.msix -/

@[simp] theorem State.msix_mem (s : State) (v : Nat) : (State.msix s v).mem = s.mem := (State.msix_within ..).mem_eq rfl
@[simp] theorem State.msix_blank (s : State) (v : Nat) : (State.msix s v).blank = s.blank := (State.msix_within ..).blank_eq rfl
@[simp] theorem State.msix_badLine (s : State) (v : Nat) : (State.msix s v).badLine = s.badLine := (State.msix_within ..).badLine_eq rfl
@[simp] theorem State.msix_shadow (s : State) (v : Nat) : (State.msix s v).shadow = s.shadow := (State.msix_within ..).shadow_eq rfl
@[simp] theorem State.msix_wroDone (s : State) (v : Nat) : (State.msix s v).wroDone = s.wroDone := (State.msix_within ..).wroDone_eq rfl
@[simp] theorem State.msix_raw (s : State) (v : Nat) : (State.msix s v).raw = s.raw := (State.msix_within ..).raw_eq rfl
@[simp] theorem State.msix_free (s : State) (v : Nat) : (State.msix s v).free = s.free := (State.msix_within ..).free_eq rfl
@[simp] theorem State.msix_fuse (s : State) (v : Nat) : (State.msix s v).fuse = s.fuse := (State.msix_within ..).fuse_eq rfl
@[simp] theorem State.msix_trained (s : State) (v : Nat) : (State.msix s v).trained = s.trained := (State.msix_within ..).trained_eq rfl
@[simp] theorem State.msix_bootWait (s : State) (v : Nat) : (State.msix s v).bootWait = s.bootWait := (State.msix_within ..).bootWait_eq rfl
@[simp] theorem State.msix_tb (s : State) (v : Nat) : (State.msix s v).tb = s.tb := (State.msix_within ..).tb_eq rfl
@[simp] theorem State.msix_crl (s : State) (v : Nat) : (State.msix s v).crl = s.crl := (State.msix_within ..).crl_eq rfl
@[simp] theorem State.msix_evio (s : State) (v : Nat) : (State.msix s v).evio = s.evio := (State.msix_within ..).evio_eq rfl
@[simp] theorem State.msix_evf (s : State) (v : Nat) : (State.msix s v).evf = s.evf := (State.msix_within ..).evf_eq rfl
@[simp] theorem State.msix_raised (s : State) (v : Nat) : (State.msix s v).raised = s.raised := (State.msix_within ..).raised_eq rfl
@[simp] theorem State.msix_chan (s : State) (v : Nat) : (State.msix s v).chan = s.chan := (State.msix_within ..).chan_eq rfl
@[simp] theorem State.msix_tg (s : State) (v : Nat) : (State.msix s v).tg = s.tg := (State.msix_within ..).tg_eq rfl
@[simp] theorem State.msix_view (s : State) (v : Nat) : (State.msix s v).view = s.view := (State.msix_within ..).view_eq rfl
@[simp] theorem State.msix_link (s : State) (v : Nat) : (State.msix s v).link = s.link := (State.msix_within ..).link_eq rfl
@[simp] theorem State.msix_train (s : State) (v : Nat) : (State.msix s v).train = s.train := (State.msix_within ..).train_eq rfl
@[simp] theorem State.msix_joker (s : State) (v : Nat) : (State.msix s v).joker = s.joker := (State.msix_within ..).joker_eq rfl
@[simp] theorem State.msix_roWritten (s : State) (v : Nat) : (State.msix s v).roWritten = s.roWritten := (State.msix_within ..).roWritten_eq rfl
@[simp] theorem State.msix_jobA (s : State) (v : Nat) : (State.msix s v).jobA = s.jobA := (State.msix_within ..).jobA_eq rfl
@[simp] theorem State.msix_jobN (s : State) (v : Nat) : (State.msix s v).jobN = s.jobN := (State.msix_within ..).jobN_eq rfl
@[simp] theorem State.msix_valJob (s : State) (v : Nat) : (State.msix s v).valJob = s.valJob := (State.msix_within ..).valJob_eq rfl
@[simp] theorem State.msix_jobVals (s : State) (v : Nat) : (State.msix s v).jobVals = s.jobVals := (State.msix_within ..).jobVals_eq rfl
@[simp] theorem State.msix_intake (s : State) (v : Nat) : (State.msix s v).intake = s.intake := (State.msix_within ..).intake_eq rfl
@[simp] theorem State.msix_pipe (s : State) (v : Nat) : (State.msix s v).pipe = s.pipe := (State.msix_within ..).pipe_eq rfl
@[simp] theorem State.msix_tapBuf (s : State) (v : Nat) : (State.msix s v).tapBuf = s.tapBuf := (State.msix_within ..).tapBuf_eq rfl
@[simp] theorem State.msix_corr (s : State) (v : Nat) : (State.msix s v).corr = s.corr := (State.msix_within ..).corr_eq rfl
@[simp] theorem State.msix_stitch_ (s : State) (v : Nat) : (State.msix s v).stitch_ = s.stitch_ := (State.msix_within ..).stitch_eq rfl
@[simp] theorem State.msix_dot (s : State) (v : Nat) : (State.msix s v).dot = s.dot := (State.msix_within ..).dot_eq rfl
@[simp] theorem State.msix_winRes (s : State) (v : Nat) : (State.msix s v).winRes = s.winRes := (State.msix_within ..).winRes_eq rfl
@[simp] theorem State.msix_mst (s : State) (v : Nat) : (State.msix s v).mst = s.mst := (State.msix_within ..).mst_eq rfl
@[simp] theorem State.msix_predict (s : State) (v : Nat) : (State.msix s v).predict = s.predict := (State.msix_within ..).predict_eq rfl
@[simp] theorem State.msix_eng (s : State) (v : Nat) : (State.msix s v).eng = s.eng := (State.msix_within ..).eng_eq rfl
@[simp] theorem State.msix_resA (s : State) (v : Nat) : (State.msix s v).resA = s.resA := (State.msix_within ..).resA_eq rfl
@[simp] theorem State.msix_resN (s : State) (v : Nat) : (State.msix s v).resN = s.resN := (State.msix_within ..).resN_eq rfl
@[simp] theorem State.msix_acts (s : State) (v : Nat) : (State.msix s v).acts = s.acts := (State.msix_within ..).acts_eq rfl
@[simp] theorem State.msix_hits (s : State) (v : Nat) : (State.msix s v).hits = s.hits := (State.msix_within ..).hits_eq rfl
@[simp] theorem State.msix_net (s : State) (v : Nat) : (State.msix s v).net = s.net := (State.msix_within ..).net_eq rfl
@[simp] theorem State.msix_stream (s : State) (v : Nat) : (State.msix s v).stream = s.stream := (State.msix_within ..).stream_eq rfl
@[simp] theorem State.msix_dec (s : State) (v : Nat) : (State.msix s v).dec = s.dec := (State.msix_within ..).dec_eq rfl
@[simp] theorem State.msix_queue (s : State) (v : Nat) : (State.msix s v).queue = s.queue := (State.msix_within ..).queue_eq rfl
@[simp] theorem State.msix_levels (s : State) (v : Nat) : (State.msix s v).levels = s.levels := (State.msix_within ..).levels_eq rfl
@[simp] theorem State.msix_arb (s : State) (v : Nat) : (State.msix s v).arb = s.arb := (State.msix_within ..).arb_eq rfl
@[simp] theorem State.msix_qshadow (s : State) (v : Nat) : (State.msix s v).qshadow = s.qshadow := (State.msix_within ..).qshadow_eq rfl
@[simp] theorem State.msix_hqLo (s : State) (v : Nat) : (State.msix s v).hqLo = s.hqLo := (State.msix_within ..).hqLo_eq rfl
@[simp] theorem State.msix_dma (s : State) (v : Nat) : (State.msix s v).dma = s.dma := (State.msix_within ..).dma_eq rfl
@[simp] theorem State.msix_zip (s : State) (v : Nat) : (State.msix s v).zip = s.zip := (State.msix_within ..).zip_eq rfl
@[simp] theorem State.msix_twl (s : State) (v : Nat) : (State.msix s v).twl = s.twl := (State.msix_within ..).twl_eq rfl
@[simp] theorem State.msix_fifo (s : State) (v : Nat) : (State.msix s v).fifo = s.fifo := (State.msix_within ..).fifo_eq rfl
@[simp] theorem State.msix_mc (s : State) (v : Nat) : (State.msix s v).mc = s.mc := (State.msix_within ..).mc_eq rfl
@[simp] theorem State.msix_mcg (s : State) (v : Nat) : (State.msix s v).mcg = s.mcg := (State.msix_within ..).mcg_eq rfl
@[simp] theorem State.msix_hlth (s : State) (v : Nat) : (State.msix s v).hlth = s.hlth := (State.msix_within ..).hlth_eq rfl
@[simp] theorem State.msix_log (s : State) (v : Nat) : (State.msix s v).log = s.log := (State.msix_within ..).log_eq rfl
@[simp] theorem State.msix_logLatch (s : State) (v : Nat) : (State.msix s v).logLatch = s.logLatch := (State.msix_within ..).logLatch_eq rfl
@[simp] theorem State.msix_commits (s : State) (v : Nat) : (State.msix s v).commits = s.commits := (State.msix_within ..).commits_eq rfl
@[simp] theorem State.msix_cmtRec (s : State) (v : Nat) : (State.msix s v).cmtRec = s.cmtRec := (State.msix_within ..).cmtRec_eq rfl
@[simp] theorem State.msix_entered (s : State) (v : Nat) : (State.msix s v).entered = s.entered := (State.msix_within ..).entered_eq rfl
@[simp] theorem State.msix_lockAt (s : State) (v : Nat) : (State.msix s v).lockAt = s.lockAt := (State.msix_within ..).lockAt_eq rfl
@[simp] theorem State.msix_lockKey (s : State) (v : Nat) : (State.msix s v).lockKey = s.lockKey := (State.msix_within ..).lockKey_eq rfl
@[simp] theorem State.msix_revoking (s : State) (v : Nat) : (State.msix s v).revoking = s.revoking := (State.msix_within ..).revoking_eq rfl
@[simp] theorem State.msix_dead (s : State) (v : Nat) : (State.msix s v).dead = s.dead := (State.msix_within ..).dead_eq rfl
@[simp] theorem State.msix_chanOf (s : State) (v : Nat) (c0 : Nat) : (State.msix s v).chanOf c0 = s.chanOf c0 := (State.msix_within ..).chanOf c0 rfl
@[simp] theorem State.msix_tgOf (s : State) (v : Nat) (c0 : Nat) : (State.msix s v).tgOf c0 = s.tgOf c0 := (State.msix_within ..).tgOf c0 rfl
@[simp] theorem State.msix_view_ (s : State) (v : Nat) (c0 : Nat) : (State.msix s v).view_ c0 = s.view_ c0 := (State.msix_within ..).view_ c0 rfl
@[simp] theorem State.msix_link_ (s : State) (v : Nat) (c0 : Nat) : (State.msix s v).link_ c0 = s.link_ c0 := (State.msix_within ..).link_ c0 rfl
@[simp] theorem State.msix_train_ (s : State) (v : Nat) (c0 d0 : Nat) : (State.msix s v).train_ c0 d0 = s.train_ c0 d0 := (State.msix_within ..).train_ c0 d0 rfl
@[simp] theorem State.msix_jk (s : State) (v : Nat) (c0 : Nat) : (State.msix s v).jk c0 = s.jk c0 := (State.msix_within ..).jk c0 rfl
@[simp] theorem State.msix_q (s : State) (v : Nat) (c0 : Nat) : (State.msix s v).q c0 = s.q c0 := (State.msix_within ..).q c0 rfl
@[simp] theorem State.msix_mcOf (s : State) (v : Nat) (c0 : Nat) : (State.msix s v).mcOf c0 = s.mcOf c0 := (State.msix_within ..).mcOf c0 rfl
@[simp] theorem State.msix_engOf (s : State) (v : Nat) (c0 : Nat) : (State.msix s v).engOf c0 = s.engOf c0 := (State.msix_within ..).engOf c0 rfl
@[simp] theorem State.msix_intk (s : State) (v : Nat) (c0 : Nat) : (State.msix s v).intk c0 = s.intk c0 := (State.msix_within ..).intk c0 rfl
@[simp] theorem State.msix_pipe_ (s : State) (v : Nat) (c0 : Nat) : (State.msix s v).pipe_ c0 = s.pipe_ c0 := (State.msix_within ..).pipe_ c0 rfl
@[simp] theorem State.msix_corr_ (s : State) (v : Nat) (c0 : Nat) : (State.msix s v).corr_ c0 = s.corr_ c0 := (State.msix_within ..).corr_ c0 rfl
@[simp] theorem State.msix_sti (s : State) (v : Nat) (c0 : Nat) : (State.msix s v).sti c0 = s.sti c0 := (State.msix_within ..).sti c0 rfl
@[simp] theorem State.msix_sess (s : State) (v : Nat) (c0 : Nat) : (State.msix s v).sess c0 = s.sess c0 := (State.msix_within ..).sess c0 rfl
@[simp] theorem State.msix_str_ (s : State) (v : Nat) (c0 : Nat) : (State.msix s v).str_ c0 = s.str_ c0 := (State.msix_within ..).str_ c0 rfl
@[simp] theorem State.msix_twlOf (s : State) (v : Nat) (c0 : Nat) : (State.msix s v).twlOf c0 = s.twlOf c0 := (State.msix_within ..).twlOf c0 rfl
@[simp] theorem State.msix_ch (s : State) (v : Nat) (c0 : Nat) : (State.msix s v).ch c0 = s.ch c0 := (State.msix_within ..).ch c0 rfl
@[simp] theorem State.msix_mstV (s : State) (v : Nat) (c0 : Nat) : (State.msix s v).mstV c0 = s.mstV c0 := (State.msix_within ..).mstV c0 rfl
@[simp] theorem State.msix_calOf (s : State) (v : Nat) (c0 : Nat) : (State.msix s v).calOf c0 = s.calOf c0 := (State.msix_within ..).calOf c0 rfl
@[simp] theorem State.msix_fifoOf (s : State) (v : Nat) (c0 : Nat) : (State.msix s v).fifoOf c0 = s.fifoOf c0 := (State.msix_within ..).fifoOf c0 rfl
@[simp] theorem State.msix_pend (s : State) (v : Nat) (c0 : Nat) : (State.msix s v).pend c0 = s.pend c0 := (State.msix_within ..).pend c0 rfl
@[simp] theorem State.msix_rdShadow (s : State) (v : Nat) (c0 d0 : Nat) : (State.msix s v).rdShadow c0 d0 = s.rdShadow c0 d0 := (State.msix_within ..).rdShadow c0 d0 rfl
/-! State.errEdge -/

@[simp] theorem State.errEdge_mem (s : State) (p : Nat) : (State.errEdge s p).mem = s.mem := (State.errEdge_within ..).mem_eq rfl
@[simp] theorem State.errEdge_blank (s : State) (p : Nat) : (State.errEdge s p).blank = s.blank := (State.errEdge_within ..).blank_eq rfl
@[simp] theorem State.errEdge_badLine (s : State) (p : Nat) : (State.errEdge s p).badLine = s.badLine := (State.errEdge_within ..).badLine_eq rfl
@[simp] theorem State.errEdge_shadow (s : State) (p : Nat) : (State.errEdge s p).shadow = s.shadow := (State.errEdge_within ..).shadow_eq rfl
@[simp] theorem State.errEdge_wroDone (s : State) (p : Nat) : (State.errEdge s p).wroDone = s.wroDone := (State.errEdge_within ..).wroDone_eq rfl
@[simp] theorem State.errEdge_raw (s : State) (p : Nat) : (State.errEdge s p).raw = s.raw := (State.errEdge_within ..).raw_eq rfl
@[simp] theorem State.errEdge_free (s : State) (p : Nat) : (State.errEdge s p).free = s.free := (State.errEdge_within ..).free_eq rfl
@[simp] theorem State.errEdge_fuse (s : State) (p : Nat) : (State.errEdge s p).fuse = s.fuse := (State.errEdge_within ..).fuse_eq rfl
@[simp] theorem State.errEdge_trained (s : State) (p : Nat) : (State.errEdge s p).trained = s.trained := (State.errEdge_within ..).trained_eq rfl
@[simp] theorem State.errEdge_bootWait (s : State) (p : Nat) : (State.errEdge s p).bootWait = s.bootWait := (State.errEdge_within ..).bootWait_eq rfl
@[simp] theorem State.errEdge_tb (s : State) (p : Nat) : (State.errEdge s p).tb = s.tb := (State.errEdge_within ..).tb_eq rfl
@[simp] theorem State.errEdge_crl (s : State) (p : Nat) : (State.errEdge s p).crl = s.crl := (State.errEdge_within ..).crl_eq rfl
@[simp] theorem State.errEdge_evio (s : State) (p : Nat) : (State.errEdge s p).evio = s.evio := (State.errEdge_within ..).evio_eq rfl
@[simp] theorem State.errEdge_evf (s : State) (p : Nat) : (State.errEdge s p).evf = s.evf := (State.errEdge_within ..).evf_eq rfl
@[simp] theorem State.errEdge_raised (s : State) (p : Nat) : (State.errEdge s p).raised = s.raised := (State.errEdge_within ..).raised_eq rfl
@[simp] theorem State.errEdge_chan (s : State) (p : Nat) : (State.errEdge s p).chan = s.chan := (State.errEdge_within ..).chan_eq rfl
@[simp] theorem State.errEdge_tg (s : State) (p : Nat) : (State.errEdge s p).tg = s.tg := (State.errEdge_within ..).tg_eq rfl
@[simp] theorem State.errEdge_view (s : State) (p : Nat) : (State.errEdge s p).view = s.view := (State.errEdge_within ..).view_eq rfl
@[simp] theorem State.errEdge_link (s : State) (p : Nat) : (State.errEdge s p).link = s.link := (State.errEdge_within ..).link_eq rfl
@[simp] theorem State.errEdge_train (s : State) (p : Nat) : (State.errEdge s p).train = s.train := (State.errEdge_within ..).train_eq rfl
@[simp] theorem State.errEdge_joker (s : State) (p : Nat) : (State.errEdge s p).joker = s.joker := (State.errEdge_within ..).joker_eq rfl
@[simp] theorem State.errEdge_roWritten (s : State) (p : Nat) : (State.errEdge s p).roWritten = s.roWritten := (State.errEdge_within ..).roWritten_eq rfl
@[simp] theorem State.errEdge_jobA (s : State) (p : Nat) : (State.errEdge s p).jobA = s.jobA := (State.errEdge_within ..).jobA_eq rfl
@[simp] theorem State.errEdge_jobN (s : State) (p : Nat) : (State.errEdge s p).jobN = s.jobN := (State.errEdge_within ..).jobN_eq rfl
@[simp] theorem State.errEdge_valJob (s : State) (p : Nat) : (State.errEdge s p).valJob = s.valJob := (State.errEdge_within ..).valJob_eq rfl
@[simp] theorem State.errEdge_jobVals (s : State) (p : Nat) : (State.errEdge s p).jobVals = s.jobVals := (State.errEdge_within ..).jobVals_eq rfl
@[simp] theorem State.errEdge_intake (s : State) (p : Nat) : (State.errEdge s p).intake = s.intake := (State.errEdge_within ..).intake_eq rfl
@[simp] theorem State.errEdge_pipe (s : State) (p : Nat) : (State.errEdge s p).pipe = s.pipe := (State.errEdge_within ..).pipe_eq rfl
@[simp] theorem State.errEdge_tapBuf (s : State) (p : Nat) : (State.errEdge s p).tapBuf = s.tapBuf := (State.errEdge_within ..).tapBuf_eq rfl
@[simp] theorem State.errEdge_corr (s : State) (p : Nat) : (State.errEdge s p).corr = s.corr := (State.errEdge_within ..).corr_eq rfl
@[simp] theorem State.errEdge_stitch_ (s : State) (p : Nat) : (State.errEdge s p).stitch_ = s.stitch_ := (State.errEdge_within ..).stitch_eq rfl
@[simp] theorem State.errEdge_dot (s : State) (p : Nat) : (State.errEdge s p).dot = s.dot := (State.errEdge_within ..).dot_eq rfl
@[simp] theorem State.errEdge_winRes (s : State) (p : Nat) : (State.errEdge s p).winRes = s.winRes := (State.errEdge_within ..).winRes_eq rfl
@[simp] theorem State.errEdge_mst (s : State) (p : Nat) : (State.errEdge s p).mst = s.mst := (State.errEdge_within ..).mst_eq rfl
@[simp] theorem State.errEdge_predict (s : State) (p : Nat) : (State.errEdge s p).predict = s.predict := (State.errEdge_within ..).predict_eq rfl
@[simp] theorem State.errEdge_eng (s : State) (p : Nat) : (State.errEdge s p).eng = s.eng := (State.errEdge_within ..).eng_eq rfl
@[simp] theorem State.errEdge_resA (s : State) (p : Nat) : (State.errEdge s p).resA = s.resA := (State.errEdge_within ..).resA_eq rfl
@[simp] theorem State.errEdge_resN (s : State) (p : Nat) : (State.errEdge s p).resN = s.resN := (State.errEdge_within ..).resN_eq rfl
@[simp] theorem State.errEdge_acts (s : State) (p : Nat) : (State.errEdge s p).acts = s.acts := (State.errEdge_within ..).acts_eq rfl
@[simp] theorem State.errEdge_hits (s : State) (p : Nat) : (State.errEdge s p).hits = s.hits := (State.errEdge_within ..).hits_eq rfl
@[simp] theorem State.errEdge_net (s : State) (p : Nat) : (State.errEdge s p).net = s.net := (State.errEdge_within ..).net_eq rfl
@[simp] theorem State.errEdge_stream (s : State) (p : Nat) : (State.errEdge s p).stream = s.stream := (State.errEdge_within ..).stream_eq rfl
@[simp] theorem State.errEdge_dec (s : State) (p : Nat) : (State.errEdge s p).dec = s.dec := (State.errEdge_within ..).dec_eq rfl
@[simp] theorem State.errEdge_queue (s : State) (p : Nat) : (State.errEdge s p).queue = s.queue := (State.errEdge_within ..).queue_eq rfl
@[simp] theorem State.errEdge_levels (s : State) (p : Nat) : (State.errEdge s p).levels = s.levels := (State.errEdge_within ..).levels_eq rfl
@[simp] theorem State.errEdge_arb (s : State) (p : Nat) : (State.errEdge s p).arb = s.arb := (State.errEdge_within ..).arb_eq rfl
@[simp] theorem State.errEdge_qshadow (s : State) (p : Nat) : (State.errEdge s p).qshadow = s.qshadow := (State.errEdge_within ..).qshadow_eq rfl
@[simp] theorem State.errEdge_hqLo (s : State) (p : Nat) : (State.errEdge s p).hqLo = s.hqLo := (State.errEdge_within ..).hqLo_eq rfl
@[simp] theorem State.errEdge_dma (s : State) (p : Nat) : (State.errEdge s p).dma = s.dma := (State.errEdge_within ..).dma_eq rfl
@[simp] theorem State.errEdge_zip (s : State) (p : Nat) : (State.errEdge s p).zip = s.zip := (State.errEdge_within ..).zip_eq rfl
@[simp] theorem State.errEdge_twl (s : State) (p : Nat) : (State.errEdge s p).twl = s.twl := (State.errEdge_within ..).twl_eq rfl
@[simp] theorem State.errEdge_fifo (s : State) (p : Nat) : (State.errEdge s p).fifo = s.fifo := (State.errEdge_within ..).fifo_eq rfl
@[simp] theorem State.errEdge_mc (s : State) (p : Nat) : (State.errEdge s p).mc = s.mc := (State.errEdge_within ..).mc_eq rfl
@[simp] theorem State.errEdge_mcg (s : State) (p : Nat) : (State.errEdge s p).mcg = s.mcg := (State.errEdge_within ..).mcg_eq rfl
@[simp] theorem State.errEdge_hlth (s : State) (p : Nat) : (State.errEdge s p).hlth = s.hlth := (State.errEdge_within ..).hlth_eq rfl
@[simp] theorem State.errEdge_log (s : State) (p : Nat) : (State.errEdge s p).log = s.log := (State.errEdge_within ..).log_eq rfl
@[simp] theorem State.errEdge_logLatch (s : State) (p : Nat) : (State.errEdge s p).logLatch = s.logLatch := (State.errEdge_within ..).logLatch_eq rfl
@[simp] theorem State.errEdge_commits (s : State) (p : Nat) : (State.errEdge s p).commits = s.commits := (State.errEdge_within ..).commits_eq rfl
@[simp] theorem State.errEdge_cmtRec (s : State) (p : Nat) : (State.errEdge s p).cmtRec = s.cmtRec := (State.errEdge_within ..).cmtRec_eq rfl
@[simp] theorem State.errEdge_entered (s : State) (p : Nat) : (State.errEdge s p).entered = s.entered := (State.errEdge_within ..).entered_eq rfl
@[simp] theorem State.errEdge_lockAt (s : State) (p : Nat) : (State.errEdge s p).lockAt = s.lockAt := (State.errEdge_within ..).lockAt_eq rfl
@[simp] theorem State.errEdge_lockKey (s : State) (p : Nat) : (State.errEdge s p).lockKey = s.lockKey := (State.errEdge_within ..).lockKey_eq rfl
@[simp] theorem State.errEdge_revoking (s : State) (p : Nat) : (State.errEdge s p).revoking = s.revoking := (State.errEdge_within ..).revoking_eq rfl
@[simp] theorem State.errEdge_dead (s : State) (p : Nat) : (State.errEdge s p).dead = s.dead := (State.errEdge_within ..).dead_eq rfl
@[simp] theorem State.errEdge_chanOf (s : State) (p : Nat) (c0 : Nat) : (State.errEdge s p).chanOf c0 = s.chanOf c0 := (State.errEdge_within ..).chanOf c0 rfl
@[simp] theorem State.errEdge_tgOf (s : State) (p : Nat) (c0 : Nat) : (State.errEdge s p).tgOf c0 = s.tgOf c0 := (State.errEdge_within ..).tgOf c0 rfl
@[simp] theorem State.errEdge_view_ (s : State) (p : Nat) (c0 : Nat) : (State.errEdge s p).view_ c0 = s.view_ c0 := (State.errEdge_within ..).view_ c0 rfl
@[simp] theorem State.errEdge_link_ (s : State) (p : Nat) (c0 : Nat) : (State.errEdge s p).link_ c0 = s.link_ c0 := (State.errEdge_within ..).link_ c0 rfl
@[simp] theorem State.errEdge_train_ (s : State) (p : Nat) (c0 d0 : Nat) : (State.errEdge s p).train_ c0 d0 = s.train_ c0 d0 := (State.errEdge_within ..).train_ c0 d0 rfl
@[simp] theorem State.errEdge_jk (s : State) (p : Nat) (c0 : Nat) : (State.errEdge s p).jk c0 = s.jk c0 := (State.errEdge_within ..).jk c0 rfl
@[simp] theorem State.errEdge_q (s : State) (p : Nat) (c0 : Nat) : (State.errEdge s p).q c0 = s.q c0 := (State.errEdge_within ..).q c0 rfl
@[simp] theorem State.errEdge_mcOf (s : State) (p : Nat) (c0 : Nat) : (State.errEdge s p).mcOf c0 = s.mcOf c0 := (State.errEdge_within ..).mcOf c0 rfl
@[simp] theorem State.errEdge_engOf (s : State) (p : Nat) (c0 : Nat) : (State.errEdge s p).engOf c0 = s.engOf c0 := (State.errEdge_within ..).engOf c0 rfl
@[simp] theorem State.errEdge_intk (s : State) (p : Nat) (c0 : Nat) : (State.errEdge s p).intk c0 = s.intk c0 := (State.errEdge_within ..).intk c0 rfl
@[simp] theorem State.errEdge_pipe_ (s : State) (p : Nat) (c0 : Nat) : (State.errEdge s p).pipe_ c0 = s.pipe_ c0 := (State.errEdge_within ..).pipe_ c0 rfl
@[simp] theorem State.errEdge_corr_ (s : State) (p : Nat) (c0 : Nat) : (State.errEdge s p).corr_ c0 = s.corr_ c0 := (State.errEdge_within ..).corr_ c0 rfl
@[simp] theorem State.errEdge_sti (s : State) (p : Nat) (c0 : Nat) : (State.errEdge s p).sti c0 = s.sti c0 := (State.errEdge_within ..).sti c0 rfl
@[simp] theorem State.errEdge_sess (s : State) (p : Nat) (c0 : Nat) : (State.errEdge s p).sess c0 = s.sess c0 := (State.errEdge_within ..).sess c0 rfl
@[simp] theorem State.errEdge_str_ (s : State) (p : Nat) (c0 : Nat) : (State.errEdge s p).str_ c0 = s.str_ c0 := (State.errEdge_within ..).str_ c0 rfl
@[simp] theorem State.errEdge_twlOf (s : State) (p : Nat) (c0 : Nat) : (State.errEdge s p).twlOf c0 = s.twlOf c0 := (State.errEdge_within ..).twlOf c0 rfl
@[simp] theorem State.errEdge_ch (s : State) (p : Nat) (c0 : Nat) : (State.errEdge s p).ch c0 = s.ch c0 := (State.errEdge_within ..).ch c0 rfl
@[simp] theorem State.errEdge_mstV (s : State) (p : Nat) (c0 : Nat) : (State.errEdge s p).mstV c0 = s.mstV c0 := (State.errEdge_within ..).mstV c0 rfl
@[simp] theorem State.errEdge_calOf (s : State) (p : Nat) (c0 : Nat) : (State.errEdge s p).calOf c0 = s.calOf c0 := (State.errEdge_within ..).calOf c0 rfl
@[simp] theorem State.errEdge_fifoOf (s : State) (p : Nat) (c0 : Nat) : (State.errEdge s p).fifoOf c0 = s.fifoOf c0 := (State.errEdge_within ..).fifoOf c0 rfl
@[simp] theorem State.errEdge_pend (s : State) (p : Nat) (c0 : Nat) : (State.errEdge s p).pend c0 = s.pend c0 := (State.errEdge_within ..).pend c0 rfl
@[simp] theorem State.errEdge_rdShadow (s : State) (p : Nat) (c0 d0 : Nat) : (State.errEdge s p).rdShadow c0 d0 = s.rdShadow c0 d0 := (State.errEdge_within ..).rdShadow c0 d0 rfl
/-! State.flag -/

@[simp] theorem State.flag_mem (s : State) (p : Nat) (f : Fld) : (State.flag s p f).mem = s.mem := (State.flag_within ..).mem_eq rfl
@[simp] theorem State.flag_blank (s : State) (p : Nat) (f : Fld) : (State.flag s p f).blank = s.blank := (State.flag_within ..).blank_eq rfl
@[simp] theorem State.flag_badLine (s : State) (p : Nat) (f : Fld) : (State.flag s p f).badLine = s.badLine := (State.flag_within ..).badLine_eq rfl
@[simp] theorem State.flag_shadow (s : State) (p : Nat) (f : Fld) : (State.flag s p f).shadow = s.shadow := (State.flag_within ..).shadow_eq rfl
@[simp] theorem State.flag_wroDone (s : State) (p : Nat) (f : Fld) : (State.flag s p f).wroDone = s.wroDone := (State.flag_within ..).wroDone_eq rfl
@[simp] theorem State.flag_raw (s : State) (p : Nat) (f : Fld) : (State.flag s p f).raw = s.raw := (State.flag_within ..).raw_eq rfl
@[simp] theorem State.flag_free (s : State) (p : Nat) (f : Fld) : (State.flag s p f).free = s.free := (State.flag_within ..).free_eq rfl
@[simp] theorem State.flag_fuse (s : State) (p : Nat) (f : Fld) : (State.flag s p f).fuse = s.fuse := (State.flag_within ..).fuse_eq rfl
@[simp] theorem State.flag_trained (s : State) (p : Nat) (f : Fld) : (State.flag s p f).trained = s.trained := (State.flag_within ..).trained_eq rfl
@[simp] theorem State.flag_bootWait (s : State) (p : Nat) (f : Fld) : (State.flag s p f).bootWait = s.bootWait := (State.flag_within ..).bootWait_eq rfl
@[simp] theorem State.flag_tb (s : State) (p : Nat) (f : Fld) : (State.flag s p f).tb = s.tb := (State.flag_within ..).tb_eq rfl
@[simp] theorem State.flag_crl (s : State) (p : Nat) (f : Fld) : (State.flag s p f).crl = s.crl := (State.flag_within ..).crl_eq rfl
@[simp] theorem State.flag_evio (s : State) (p : Nat) (f : Fld) : (State.flag s p f).evio = s.evio := (State.flag_within ..).evio_eq rfl
@[simp] theorem State.flag_evf (s : State) (p : Nat) (f : Fld) : (State.flag s p f).evf = s.evf := (State.flag_within ..).evf_eq rfl
@[simp] theorem State.flag_raised (s : State) (p : Nat) (f : Fld) : (State.flag s p f).raised = s.raised := (State.flag_within ..).raised_eq rfl
@[simp] theorem State.flag_chan (s : State) (p : Nat) (f : Fld) : (State.flag s p f).chan = s.chan := (State.flag_within ..).chan_eq rfl
@[simp] theorem State.flag_tg (s : State) (p : Nat) (f : Fld) : (State.flag s p f).tg = s.tg := (State.flag_within ..).tg_eq rfl
@[simp] theorem State.flag_view (s : State) (p : Nat) (f : Fld) : (State.flag s p f).view = s.view := (State.flag_within ..).view_eq rfl
@[simp] theorem State.flag_link (s : State) (p : Nat) (f : Fld) : (State.flag s p f).link = s.link := (State.flag_within ..).link_eq rfl
@[simp] theorem State.flag_train (s : State) (p : Nat) (f : Fld) : (State.flag s p f).train = s.train := (State.flag_within ..).train_eq rfl
@[simp] theorem State.flag_joker (s : State) (p : Nat) (f : Fld) : (State.flag s p f).joker = s.joker := (State.flag_within ..).joker_eq rfl
@[simp] theorem State.flag_roWritten (s : State) (p : Nat) (f : Fld) : (State.flag s p f).roWritten = s.roWritten := (State.flag_within ..).roWritten_eq rfl
@[simp] theorem State.flag_jobA (s : State) (p : Nat) (f : Fld) : (State.flag s p f).jobA = s.jobA := (State.flag_within ..).jobA_eq rfl
@[simp] theorem State.flag_jobN (s : State) (p : Nat) (f : Fld) : (State.flag s p f).jobN = s.jobN := (State.flag_within ..).jobN_eq rfl
@[simp] theorem State.flag_valJob (s : State) (p : Nat) (f : Fld) : (State.flag s p f).valJob = s.valJob := (State.flag_within ..).valJob_eq rfl
@[simp] theorem State.flag_jobVals (s : State) (p : Nat) (f : Fld) : (State.flag s p f).jobVals = s.jobVals := (State.flag_within ..).jobVals_eq rfl
@[simp] theorem State.flag_intake (s : State) (p : Nat) (f : Fld) : (State.flag s p f).intake = s.intake := (State.flag_within ..).intake_eq rfl
@[simp] theorem State.flag_pipe (s : State) (p : Nat) (f : Fld) : (State.flag s p f).pipe = s.pipe := (State.flag_within ..).pipe_eq rfl
@[simp] theorem State.flag_tapBuf (s : State) (p : Nat) (f : Fld) : (State.flag s p f).tapBuf = s.tapBuf := (State.flag_within ..).tapBuf_eq rfl
@[simp] theorem State.flag_corr (s : State) (p : Nat) (f : Fld) : (State.flag s p f).corr = s.corr := (State.flag_within ..).corr_eq rfl
@[simp] theorem State.flag_stitch_ (s : State) (p : Nat) (f : Fld) : (State.flag s p f).stitch_ = s.stitch_ := (State.flag_within ..).stitch_eq rfl
@[simp] theorem State.flag_dot (s : State) (p : Nat) (f : Fld) : (State.flag s p f).dot = s.dot := (State.flag_within ..).dot_eq rfl
@[simp] theorem State.flag_winRes (s : State) (p : Nat) (f : Fld) : (State.flag s p f).winRes = s.winRes := (State.flag_within ..).winRes_eq rfl
@[simp] theorem State.flag_mst (s : State) (p : Nat) (f : Fld) : (State.flag s p f).mst = s.mst := (State.flag_within ..).mst_eq rfl
@[simp] theorem State.flag_predict (s : State) (p : Nat) (f : Fld) : (State.flag s p f).predict = s.predict := (State.flag_within ..).predict_eq rfl
@[simp] theorem State.flag_eng (s : State) (p : Nat) (f : Fld) : (State.flag s p f).eng = s.eng := (State.flag_within ..).eng_eq rfl
@[simp] theorem State.flag_resA (s : State) (p : Nat) (f : Fld) : (State.flag s p f).resA = s.resA := (State.flag_within ..).resA_eq rfl
@[simp] theorem State.flag_resN (s : State) (p : Nat) (f : Fld) : (State.flag s p f).resN = s.resN := (State.flag_within ..).resN_eq rfl
@[simp] theorem State.flag_acts (s : State) (p : Nat) (f : Fld) : (State.flag s p f).acts = s.acts := (State.flag_within ..).acts_eq rfl
@[simp] theorem State.flag_hits (s : State) (p : Nat) (f : Fld) : (State.flag s p f).hits = s.hits := (State.flag_within ..).hits_eq rfl
@[simp] theorem State.flag_net (s : State) (p : Nat) (f : Fld) : (State.flag s p f).net = s.net := (State.flag_within ..).net_eq rfl
@[simp] theorem State.flag_stream (s : State) (p : Nat) (f : Fld) : (State.flag s p f).stream = s.stream := (State.flag_within ..).stream_eq rfl
@[simp] theorem State.flag_dec (s : State) (p : Nat) (f : Fld) : (State.flag s p f).dec = s.dec := (State.flag_within ..).dec_eq rfl
@[simp] theorem State.flag_queue (s : State) (p : Nat) (f : Fld) : (State.flag s p f).queue = s.queue := (State.flag_within ..).queue_eq rfl
@[simp] theorem State.flag_levels (s : State) (p : Nat) (f : Fld) : (State.flag s p f).levels = s.levels := (State.flag_within ..).levels_eq rfl
@[simp] theorem State.flag_arb (s : State) (p : Nat) (f : Fld) : (State.flag s p f).arb = s.arb := (State.flag_within ..).arb_eq rfl
@[simp] theorem State.flag_qshadow (s : State) (p : Nat) (f : Fld) : (State.flag s p f).qshadow = s.qshadow := (State.flag_within ..).qshadow_eq rfl
@[simp] theorem State.flag_hqLo (s : State) (p : Nat) (f : Fld) : (State.flag s p f).hqLo = s.hqLo := (State.flag_within ..).hqLo_eq rfl
@[simp] theorem State.flag_dma (s : State) (p : Nat) (f : Fld) : (State.flag s p f).dma = s.dma := (State.flag_within ..).dma_eq rfl
@[simp] theorem State.flag_zip (s : State) (p : Nat) (f : Fld) : (State.flag s p f).zip = s.zip := (State.flag_within ..).zip_eq rfl
@[simp] theorem State.flag_twl (s : State) (p : Nat) (f : Fld) : (State.flag s p f).twl = s.twl := (State.flag_within ..).twl_eq rfl
@[simp] theorem State.flag_fifo (s : State) (p : Nat) (f : Fld) : (State.flag s p f).fifo = s.fifo := (State.flag_within ..).fifo_eq rfl
@[simp] theorem State.flag_mc (s : State) (p : Nat) (f : Fld) : (State.flag s p f).mc = s.mc := (State.flag_within ..).mc_eq rfl
@[simp] theorem State.flag_mcg (s : State) (p : Nat) (f : Fld) : (State.flag s p f).mcg = s.mcg := (State.flag_within ..).mcg_eq rfl
@[simp] theorem State.flag_hlth (s : State) (p : Nat) (f : Fld) : (State.flag s p f).hlth = s.hlth := (State.flag_within ..).hlth_eq rfl
@[simp] theorem State.flag_log (s : State) (p : Nat) (f : Fld) : (State.flag s p f).log = s.log := (State.flag_within ..).log_eq rfl
@[simp] theorem State.flag_logLatch (s : State) (p : Nat) (f : Fld) : (State.flag s p f).logLatch = s.logLatch := (State.flag_within ..).logLatch_eq rfl
@[simp] theorem State.flag_commits (s : State) (p : Nat) (f : Fld) : (State.flag s p f).commits = s.commits := (State.flag_within ..).commits_eq rfl
@[simp] theorem State.flag_cmtRec (s : State) (p : Nat) (f : Fld) : (State.flag s p f).cmtRec = s.cmtRec := (State.flag_within ..).cmtRec_eq rfl
@[simp] theorem State.flag_entered (s : State) (p : Nat) (f : Fld) : (State.flag s p f).entered = s.entered := (State.flag_within ..).entered_eq rfl
@[simp] theorem State.flag_lockAt (s : State) (p : Nat) (f : Fld) : (State.flag s p f).lockAt = s.lockAt := (State.flag_within ..).lockAt_eq rfl
@[simp] theorem State.flag_lockKey (s : State) (p : Nat) (f : Fld) : (State.flag s p f).lockKey = s.lockKey := (State.flag_within ..).lockKey_eq rfl
@[simp] theorem State.flag_revoking (s : State) (p : Nat) (f : Fld) : (State.flag s p f).revoking = s.revoking := (State.flag_within ..).revoking_eq rfl
@[simp] theorem State.flag_dead (s : State) (p : Nat) (f : Fld) : (State.flag s p f).dead = s.dead := (State.flag_within ..).dead_eq rfl
@[simp] theorem State.flag_chanOf (s : State) (p : Nat) (f : Fld) (c0 : Nat) : (State.flag s p f).chanOf c0 = s.chanOf c0 := (State.flag_within ..).chanOf c0 rfl
@[simp] theorem State.flag_tgOf (s : State) (p : Nat) (f : Fld) (c0 : Nat) : (State.flag s p f).tgOf c0 = s.tgOf c0 := (State.flag_within ..).tgOf c0 rfl
@[simp] theorem State.flag_view_ (s : State) (p : Nat) (f : Fld) (c0 : Nat) : (State.flag s p f).view_ c0 = s.view_ c0 := (State.flag_within ..).view_ c0 rfl
@[simp] theorem State.flag_link_ (s : State) (p : Nat) (f : Fld) (c0 : Nat) : (State.flag s p f).link_ c0 = s.link_ c0 := (State.flag_within ..).link_ c0 rfl
@[simp] theorem State.flag_train_ (s : State) (p : Nat) (f : Fld) (c0 d0 : Nat) : (State.flag s p f).train_ c0 d0 = s.train_ c0 d0 := (State.flag_within ..).train_ c0 d0 rfl
@[simp] theorem State.flag_jk (s : State) (p : Nat) (f : Fld) (c0 : Nat) : (State.flag s p f).jk c0 = s.jk c0 := (State.flag_within ..).jk c0 rfl
@[simp] theorem State.flag_q (s : State) (p : Nat) (f : Fld) (c0 : Nat) : (State.flag s p f).q c0 = s.q c0 := (State.flag_within ..).q c0 rfl
@[simp] theorem State.flag_mcOf (s : State) (p : Nat) (f : Fld) (c0 : Nat) : (State.flag s p f).mcOf c0 = s.mcOf c0 := (State.flag_within ..).mcOf c0 rfl
@[simp] theorem State.flag_engOf (s : State) (p : Nat) (f : Fld) (c0 : Nat) : (State.flag s p f).engOf c0 = s.engOf c0 := (State.flag_within ..).engOf c0 rfl
@[simp] theorem State.flag_intk (s : State) (p : Nat) (f : Fld) (c0 : Nat) : (State.flag s p f).intk c0 = s.intk c0 := (State.flag_within ..).intk c0 rfl
@[simp] theorem State.flag_pipe_ (s : State) (p : Nat) (f : Fld) (c0 : Nat) : (State.flag s p f).pipe_ c0 = s.pipe_ c0 := (State.flag_within ..).pipe_ c0 rfl
@[simp] theorem State.flag_corr_ (s : State) (p : Nat) (f : Fld) (c0 : Nat) : (State.flag s p f).corr_ c0 = s.corr_ c0 := (State.flag_within ..).corr_ c0 rfl
@[simp] theorem State.flag_sti (s : State) (p : Nat) (f : Fld) (c0 : Nat) : (State.flag s p f).sti c0 = s.sti c0 := (State.flag_within ..).sti c0 rfl
@[simp] theorem State.flag_sess (s : State) (p : Nat) (f : Fld) (c0 : Nat) : (State.flag s p f).sess c0 = s.sess c0 := (State.flag_within ..).sess c0 rfl
@[simp] theorem State.flag_str_ (s : State) (p : Nat) (f : Fld) (c0 : Nat) : (State.flag s p f).str_ c0 = s.str_ c0 := (State.flag_within ..).str_ c0 rfl
@[simp] theorem State.flag_twlOf (s : State) (p : Nat) (f : Fld) (c0 : Nat) : (State.flag s p f).twlOf c0 = s.twlOf c0 := (State.flag_within ..).twlOf c0 rfl
@[simp] theorem State.flag_ch (s : State) (p : Nat) (f : Fld) (c0 : Nat) : (State.flag s p f).ch c0 = s.ch c0 := (State.flag_within ..).ch c0 rfl
@[simp] theorem State.flag_mstV (s : State) (p : Nat) (f : Fld) (c0 : Nat) : (State.flag s p f).mstV c0 = s.mstV c0 := (State.flag_within ..).mstV c0 rfl
@[simp] theorem State.flag_calOf (s : State) (p : Nat) (f : Fld) (c0 : Nat) : (State.flag s p f).calOf c0 = s.calOf c0 := (State.flag_within ..).calOf c0 rfl
@[simp] theorem State.flag_fifoOf (s : State) (p : Nat) (f : Fld) (c0 : Nat) : (State.flag s p f).fifoOf c0 = s.fifoOf c0 := (State.flag_within ..).fifoOf c0 rfl
@[simp] theorem State.flag_pend (s : State) (p : Nat) (f : Fld) (c0 : Nat) : (State.flag s p f).pend c0 = s.pend c0 := (State.flag_within ..).pend c0 rfl
@[simp] theorem State.flag_rdShadow (s : State) (p : Nat) (f : Fld) (c0 d0 : Nat) : (State.flag s p f).rdShadow c0 d0 = s.rdShadow c0 d0 := (State.flag_within ..).rdShadow c0 d0 rfl
/-! State.refuse -/

@[simp] theorem State.refuse_mem (s : State) (o : Owner) (p : Nat) (off : Nat) (lock : Bool) : (State.refuse s o p off lock).mem = s.mem := (State.refuse_within ..).mem_eq rfl
@[simp] theorem State.refuse_blank (s : State) (o : Owner) (p : Nat) (off : Nat) (lock : Bool) : (State.refuse s o p off lock).blank = s.blank := (State.refuse_within ..).blank_eq rfl
@[simp] theorem State.refuse_badLine (s : State) (o : Owner) (p : Nat) (off : Nat) (lock : Bool) : (State.refuse s o p off lock).badLine = s.badLine := (State.refuse_within ..).badLine_eq rfl
@[simp] theorem State.refuse_shadow (s : State) (o : Owner) (p : Nat) (off : Nat) (lock : Bool) : (State.refuse s o p off lock).shadow = s.shadow := (State.refuse_within ..).shadow_eq rfl
@[simp] theorem State.refuse_wroDone (s : State) (o : Owner) (p : Nat) (off : Nat) (lock : Bool) : (State.refuse s o p off lock).wroDone = s.wroDone := (State.refuse_within ..).wroDone_eq rfl
@[simp] theorem State.refuse_window (s : State) (o : Owner) (p : Nat) (off : Nat) (lock : Bool) : (State.refuse s o p off lock).window = s.window := (State.refuse_within ..).window_eq rfl
@[simp] theorem State.refuse_out (s : State) (o : Owner) (p : Nat) (off : Nat) (lock : Bool) : (State.refuse s o p off lock).out = s.out := (State.refuse_within ..).out_eq rfl
@[simp] theorem State.refuse_raw (s : State) (o : Owner) (p : Nat) (off : Nat) (lock : Bool) : (State.refuse s o p off lock).raw = s.raw := (State.refuse_within ..).raw_eq rfl
@[simp] theorem State.refuse_free (s : State) (o : Owner) (p : Nat) (off : Nat) (lock : Bool) : (State.refuse s o p off lock).free = s.free := (State.refuse_within ..).free_eq rfl
@[simp] theorem State.refuse_fuse (s : State) (o : Owner) (p : Nat) (off : Nat) (lock : Bool) : (State.refuse s o p off lock).fuse = s.fuse := (State.refuse_within ..).fuse_eq rfl
@[simp] theorem State.refuse_trained (s : State) (o : Owner) (p : Nat) (off : Nat) (lock : Bool) : (State.refuse s o p off lock).trained = s.trained := (State.refuse_within ..).trained_eq rfl
@[simp] theorem State.refuse_bootWait (s : State) (o : Owner) (p : Nat) (off : Nat) (lock : Bool) : (State.refuse s o p off lock).bootWait = s.bootWait := (State.refuse_within ..).bootWait_eq rfl
@[simp] theorem State.refuse_tb (s : State) (o : Owner) (p : Nat) (off : Nat) (lock : Bool) : (State.refuse s o p off lock).tb = s.tb := (State.refuse_within ..).tb_eq rfl
@[simp] theorem State.refuse_crl (s : State) (o : Owner) (p : Nat) (off : Nat) (lock : Bool) : (State.refuse s o p off lock).crl = s.crl := (State.refuse_within ..).crl_eq rfl
@[simp] theorem State.refuse_evio (s : State) (o : Owner) (p : Nat) (off : Nat) (lock : Bool) : (State.refuse s o p off lock).evio = s.evio := (State.refuse_within ..).evio_eq rfl
@[simp] theorem State.refuse_evf (s : State) (o : Owner) (p : Nat) (off : Nat) (lock : Bool) : (State.refuse s o p off lock).evf = s.evf := (State.refuse_within ..).evf_eq rfl
@[simp] theorem State.refuse_raised (s : State) (o : Owner) (p : Nat) (off : Nat) (lock : Bool) : (State.refuse s o p off lock).raised = s.raised := (State.refuse_within ..).raised_eq rfl
@[simp] theorem State.refuse_chan (s : State) (o : Owner) (p : Nat) (off : Nat) (lock : Bool) : (State.refuse s o p off lock).chan = s.chan := (State.refuse_within ..).chan_eq rfl
@[simp] theorem State.refuse_tg (s : State) (o : Owner) (p : Nat) (off : Nat) (lock : Bool) : (State.refuse s o p off lock).tg = s.tg := (State.refuse_within ..).tg_eq rfl
@[simp] theorem State.refuse_view (s : State) (o : Owner) (p : Nat) (off : Nat) (lock : Bool) : (State.refuse s o p off lock).view = s.view := (State.refuse_within ..).view_eq rfl
@[simp] theorem State.refuse_link (s : State) (o : Owner) (p : Nat) (off : Nat) (lock : Bool) : (State.refuse s o p off lock).link = s.link := (State.refuse_within ..).link_eq rfl
@[simp] theorem State.refuse_train (s : State) (o : Owner) (p : Nat) (off : Nat) (lock : Bool) : (State.refuse s o p off lock).train = s.train := (State.refuse_within ..).train_eq rfl
@[simp] theorem State.refuse_joker (s : State) (o : Owner) (p : Nat) (off : Nat) (lock : Bool) : (State.refuse s o p off lock).joker = s.joker := (State.refuse_within ..).joker_eq rfl
@[simp] theorem State.refuse_roWritten (s : State) (o : Owner) (p : Nat) (off : Nat) (lock : Bool) : (State.refuse s o p off lock).roWritten = s.roWritten := (State.refuse_within ..).roWritten_eq rfl
@[simp] theorem State.refuse_jobA (s : State) (o : Owner) (p : Nat) (off : Nat) (lock : Bool) : (State.refuse s o p off lock).jobA = s.jobA := (State.refuse_within ..).jobA_eq rfl
@[simp] theorem State.refuse_jobN (s : State) (o : Owner) (p : Nat) (off : Nat) (lock : Bool) : (State.refuse s o p off lock).jobN = s.jobN := (State.refuse_within ..).jobN_eq rfl
@[simp] theorem State.refuse_valJob (s : State) (o : Owner) (p : Nat) (off : Nat) (lock : Bool) : (State.refuse s o p off lock).valJob = s.valJob := (State.refuse_within ..).valJob_eq rfl
@[simp] theorem State.refuse_jobVals (s : State) (o : Owner) (p : Nat) (off : Nat) (lock : Bool) : (State.refuse s o p off lock).jobVals = s.jobVals := (State.refuse_within ..).jobVals_eq rfl
@[simp] theorem State.refuse_intake (s : State) (o : Owner) (p : Nat) (off : Nat) (lock : Bool) : (State.refuse s o p off lock).intake = s.intake := (State.refuse_within ..).intake_eq rfl
@[simp] theorem State.refuse_pipe (s : State) (o : Owner) (p : Nat) (off : Nat) (lock : Bool) : (State.refuse s o p off lock).pipe = s.pipe := (State.refuse_within ..).pipe_eq rfl
@[simp] theorem State.refuse_tapBuf (s : State) (o : Owner) (p : Nat) (off : Nat) (lock : Bool) : (State.refuse s o p off lock).tapBuf = s.tapBuf := (State.refuse_within ..).tapBuf_eq rfl
@[simp] theorem State.refuse_corr (s : State) (o : Owner) (p : Nat) (off : Nat) (lock : Bool) : (State.refuse s o p off lock).corr = s.corr := (State.refuse_within ..).corr_eq rfl
@[simp] theorem State.refuse_stitch_ (s : State) (o : Owner) (p : Nat) (off : Nat) (lock : Bool) : (State.refuse s o p off lock).stitch_ = s.stitch_ := (State.refuse_within ..).stitch_eq rfl
@[simp] theorem State.refuse_dot (s : State) (o : Owner) (p : Nat) (off : Nat) (lock : Bool) : (State.refuse s o p off lock).dot = s.dot := (State.refuse_within ..).dot_eq rfl
@[simp] theorem State.refuse_winRes (s : State) (o : Owner) (p : Nat) (off : Nat) (lock : Bool) : (State.refuse s o p off lock).winRes = s.winRes := (State.refuse_within ..).winRes_eq rfl
@[simp] theorem State.refuse_mst (s : State) (o : Owner) (p : Nat) (off : Nat) (lock : Bool) : (State.refuse s o p off lock).mst = s.mst := (State.refuse_within ..).mst_eq rfl
@[simp] theorem State.refuse_predict (s : State) (o : Owner) (p : Nat) (off : Nat) (lock : Bool) : (State.refuse s o p off lock).predict = s.predict := (State.refuse_within ..).predict_eq rfl
@[simp] theorem State.refuse_eng (s : State) (o : Owner) (p : Nat) (off : Nat) (lock : Bool) : (State.refuse s o p off lock).eng = s.eng := (State.refuse_within ..).eng_eq rfl
@[simp] theorem State.refuse_resA (s : State) (o : Owner) (p : Nat) (off : Nat) (lock : Bool) : (State.refuse s o p off lock).resA = s.resA := (State.refuse_within ..).resA_eq rfl
@[simp] theorem State.refuse_resN (s : State) (o : Owner) (p : Nat) (off : Nat) (lock : Bool) : (State.refuse s o p off lock).resN = s.resN := (State.refuse_within ..).resN_eq rfl
@[simp] theorem State.refuse_acts (s : State) (o : Owner) (p : Nat) (off : Nat) (lock : Bool) : (State.refuse s o p off lock).acts = s.acts := (State.refuse_within ..).acts_eq rfl
@[simp] theorem State.refuse_hits (s : State) (o : Owner) (p : Nat) (off : Nat) (lock : Bool) : (State.refuse s o p off lock).hits = s.hits := (State.refuse_within ..).hits_eq rfl
@[simp] theorem State.refuse_net (s : State) (o : Owner) (p : Nat) (off : Nat) (lock : Bool) : (State.refuse s o p off lock).net = s.net := (State.refuse_within ..).net_eq rfl
@[simp] theorem State.refuse_stream (s : State) (o : Owner) (p : Nat) (off : Nat) (lock : Bool) : (State.refuse s o p off lock).stream = s.stream := (State.refuse_within ..).stream_eq rfl
@[simp] theorem State.refuse_dec (s : State) (o : Owner) (p : Nat) (off : Nat) (lock : Bool) : (State.refuse s o p off lock).dec = s.dec := (State.refuse_within ..).dec_eq rfl
@[simp] theorem State.refuse_queue (s : State) (o : Owner) (p : Nat) (off : Nat) (lock : Bool) : (State.refuse s o p off lock).queue = s.queue := (State.refuse_within ..).queue_eq rfl
@[simp] theorem State.refuse_levels (s : State) (o : Owner) (p : Nat) (off : Nat) (lock : Bool) : (State.refuse s o p off lock).levels = s.levels := (State.refuse_within ..).levels_eq rfl
@[simp] theorem State.refuse_arb (s : State) (o : Owner) (p : Nat) (off : Nat) (lock : Bool) : (State.refuse s o p off lock).arb = s.arb := (State.refuse_within ..).arb_eq rfl
@[simp] theorem State.refuse_qshadow (s : State) (o : Owner) (p : Nat) (off : Nat) (lock : Bool) : (State.refuse s o p off lock).qshadow = s.qshadow := (State.refuse_within ..).qshadow_eq rfl
@[simp] theorem State.refuse_hqLo (s : State) (o : Owner) (p : Nat) (off : Nat) (lock : Bool) : (State.refuse s o p off lock).hqLo = s.hqLo := (State.refuse_within ..).hqLo_eq rfl
@[simp] theorem State.refuse_dma (s : State) (o : Owner) (p : Nat) (off : Nat) (lock : Bool) : (State.refuse s o p off lock).dma = s.dma := (State.refuse_within ..).dma_eq rfl
@[simp] theorem State.refuse_zip (s : State) (o : Owner) (p : Nat) (off : Nat) (lock : Bool) : (State.refuse s o p off lock).zip = s.zip := (State.refuse_within ..).zip_eq rfl
@[simp] theorem State.refuse_twl (s : State) (o : Owner) (p : Nat) (off : Nat) (lock : Bool) : (State.refuse s o p off lock).twl = s.twl := (State.refuse_within ..).twl_eq rfl
@[simp] theorem State.refuse_fifo (s : State) (o : Owner) (p : Nat) (off : Nat) (lock : Bool) : (State.refuse s o p off lock).fifo = s.fifo := (State.refuse_within ..).fifo_eq rfl
@[simp] theorem State.refuse_mc (s : State) (o : Owner) (p : Nat) (off : Nat) (lock : Bool) : (State.refuse s o p off lock).mc = s.mc := (State.refuse_within ..).mc_eq rfl
@[simp] theorem State.refuse_mcg (s : State) (o : Owner) (p : Nat) (off : Nat) (lock : Bool) : (State.refuse s o p off lock).mcg = s.mcg := (State.refuse_within ..).mcg_eq rfl
@[simp] theorem State.refuse_hlth (s : State) (o : Owner) (p : Nat) (off : Nat) (lock : Bool) : (State.refuse s o p off lock).hlth = s.hlth := (State.refuse_within ..).hlth_eq rfl
@[simp] theorem State.refuse_log (s : State) (o : Owner) (p : Nat) (off : Nat) (lock : Bool) : (State.refuse s o p off lock).log = s.log := (State.refuse_within ..).log_eq rfl
@[simp] theorem State.refuse_logLatch (s : State) (o : Owner) (p : Nat) (off : Nat) (lock : Bool) : (State.refuse s o p off lock).logLatch = s.logLatch := (State.refuse_within ..).logLatch_eq rfl
@[simp] theorem State.refuse_commits (s : State) (o : Owner) (p : Nat) (off : Nat) (lock : Bool) : (State.refuse s o p off lock).commits = s.commits := (State.refuse_within ..).commits_eq rfl
@[simp] theorem State.refuse_cmtRec (s : State) (o : Owner) (p : Nat) (off : Nat) (lock : Bool) : (State.refuse s o p off lock).cmtRec = s.cmtRec := (State.refuse_within ..).cmtRec_eq rfl
@[simp] theorem State.refuse_entered (s : State) (o : Owner) (p : Nat) (off : Nat) (lock : Bool) : (State.refuse s o p off lock).entered = s.entered := (State.refuse_within ..).entered_eq rfl
@[simp] theorem State.refuse_lockAt (s : State) (o : Owner) (p : Nat) (off : Nat) (lock : Bool) : (State.refuse s o p off lock).lockAt = s.lockAt := (State.refuse_within ..).lockAt_eq rfl
@[simp] theorem State.refuse_lockKey (s : State) (o : Owner) (p : Nat) (off : Nat) (lock : Bool) : (State.refuse s o p off lock).lockKey = s.lockKey := (State.refuse_within ..).lockKey_eq rfl
@[simp] theorem State.refuse_revoking (s : State) (o : Owner) (p : Nat) (off : Nat) (lock : Bool) : (State.refuse s o p off lock).revoking = s.revoking := (State.refuse_within ..).revoking_eq rfl
@[simp] theorem State.refuse_dead (s : State) (o : Owner) (p : Nat) (off : Nat) (lock : Bool) : (State.refuse s o p off lock).dead = s.dead := (State.refuse_within ..).dead_eq rfl
@[simp] theorem State.refuse_chanOf (s : State) (o : Owner) (p : Nat) (off : Nat) (lock : Bool) (c0 : Nat) : (State.refuse s o p off lock).chanOf c0 = s.chanOf c0 := (State.refuse_within ..).chanOf c0 rfl
@[simp] theorem State.refuse_tgOf (s : State) (o : Owner) (p : Nat) (off : Nat) (lock : Bool) (c0 : Nat) : (State.refuse s o p off lock).tgOf c0 = s.tgOf c0 := (State.refuse_within ..).tgOf c0 rfl
@[simp] theorem State.refuse_view_ (s : State) (o : Owner) (p : Nat) (off : Nat) (lock : Bool) (c0 : Nat) : (State.refuse s o p off lock).view_ c0 = s.view_ c0 := (State.refuse_within ..).view_ c0 rfl
@[simp] theorem State.refuse_link_ (s : State) (o : Owner) (p : Nat) (off : Nat) (lock : Bool) (c0 : Nat) : (State.refuse s o p off lock).link_ c0 = s.link_ c0 := (State.refuse_within ..).link_ c0 rfl
@[simp] theorem State.refuse_train_ (s : State) (o : Owner) (p : Nat) (off : Nat) (lock : Bool) (c0 d0 : Nat) : (State.refuse s o p off lock).train_ c0 d0 = s.train_ c0 d0 := (State.refuse_within ..).train_ c0 d0 rfl
@[simp] theorem State.refuse_jk (s : State) (o : Owner) (p : Nat) (off : Nat) (lock : Bool) (c0 : Nat) : (State.refuse s o p off lock).jk c0 = s.jk c0 := (State.refuse_within ..).jk c0 rfl
@[simp] theorem State.refuse_q (s : State) (o : Owner) (p : Nat) (off : Nat) (lock : Bool) (c0 : Nat) : (State.refuse s o p off lock).q c0 = s.q c0 := (State.refuse_within ..).q c0 rfl
@[simp] theorem State.refuse_mcOf (s : State) (o : Owner) (p : Nat) (off : Nat) (lock : Bool) (c0 : Nat) : (State.refuse s o p off lock).mcOf c0 = s.mcOf c0 := (State.refuse_within ..).mcOf c0 rfl
@[simp] theorem State.refuse_engOf (s : State) (o : Owner) (p : Nat) (off : Nat) (lock : Bool) (c0 : Nat) : (State.refuse s o p off lock).engOf c0 = s.engOf c0 := (State.refuse_within ..).engOf c0 rfl
@[simp] theorem State.refuse_intk (s : State) (o : Owner) (p : Nat) (off : Nat) (lock : Bool) (c0 : Nat) : (State.refuse s o p off lock).intk c0 = s.intk c0 := (State.refuse_within ..).intk c0 rfl
@[simp] theorem State.refuse_pipe_ (s : State) (o : Owner) (p : Nat) (off : Nat) (lock : Bool) (c0 : Nat) : (State.refuse s o p off lock).pipe_ c0 = s.pipe_ c0 := (State.refuse_within ..).pipe_ c0 rfl
@[simp] theorem State.refuse_corr_ (s : State) (o : Owner) (p : Nat) (off : Nat) (lock : Bool) (c0 : Nat) : (State.refuse s o p off lock).corr_ c0 = s.corr_ c0 := (State.refuse_within ..).corr_ c0 rfl
@[simp] theorem State.refuse_sti (s : State) (o : Owner) (p : Nat) (off : Nat) (lock : Bool) (c0 : Nat) : (State.refuse s o p off lock).sti c0 = s.sti c0 := (State.refuse_within ..).sti c0 rfl
@[simp] theorem State.refuse_sess (s : State) (o : Owner) (p : Nat) (off : Nat) (lock : Bool) (c0 : Nat) : (State.refuse s o p off lock).sess c0 = s.sess c0 := (State.refuse_within ..).sess c0 rfl
@[simp] theorem State.refuse_str_ (s : State) (o : Owner) (p : Nat) (off : Nat) (lock : Bool) (c0 : Nat) : (State.refuse s o p off lock).str_ c0 = s.str_ c0 := (State.refuse_within ..).str_ c0 rfl
@[simp] theorem State.refuse_twlOf (s : State) (o : Owner) (p : Nat) (off : Nat) (lock : Bool) (c0 : Nat) : (State.refuse s o p off lock).twlOf c0 = s.twlOf c0 := (State.refuse_within ..).twlOf c0 rfl
@[simp] theorem State.refuse_ch (s : State) (o : Owner) (p : Nat) (off : Nat) (lock : Bool) (c0 : Nat) : (State.refuse s o p off lock).ch c0 = s.ch c0 := (State.refuse_within ..).ch c0 rfl
@[simp] theorem State.refuse_mstV (s : State) (o : Owner) (p : Nat) (off : Nat) (lock : Bool) (c0 : Nat) : (State.refuse s o p off lock).mstV c0 = s.mstV c0 := (State.refuse_within ..).mstV c0 rfl
@[simp] theorem State.refuse_calOf (s : State) (o : Owner) (p : Nat) (off : Nat) (lock : Bool) (c0 : Nat) : (State.refuse s o p off lock).calOf c0 = s.calOf c0 := (State.refuse_within ..).calOf c0 rfl
@[simp] theorem State.refuse_fifoOf (s : State) (o : Owner) (p : Nat) (off : Nat) (lock : Bool) (c0 : Nat) : (State.refuse s o p off lock).fifoOf c0 = s.fifoOf c0 := (State.refuse_within ..).fifoOf c0 rfl
@[simp] theorem State.refuse_pend (s : State) (o : Owner) (p : Nat) (off : Nat) (lock : Bool) (c0 : Nat) : (State.refuse s o p off lock).pend c0 = s.pend c0 := (State.refuse_within ..).pend c0 rfl
@[simp] theorem State.refuse_rdShadow (s : State) (o : Owner) (p : Nat) (off : Nat) (lock : Bool) (c0 d0 : Nat) : (State.refuse s o p off lock).rdShadow c0 d0 = s.rdShadow c0 d0 := (State.refuse_within ..).rdShadow c0 d0 rfl
@[simp] theorem State.refuse_win (s : State) (o : Owner) (p : Nat) (off : Nat) (lock : Bool) (c0 : Nat) : (State.refuse s o p off lock).win c0 = s.win c0 := (State.refuse_within ..).win c0 rfl
/-! State.qPut -/

@[simp] theorem State.qPut_shadow (s : State) (q : Nat) (d : Word64) (tag : Nat) (sof : Bool) (eof : Bool) : (State.qPut s q d tag sof eof).shadow = s.shadow := (State.qPut_within ..).shadow_eq rfl
@[simp] theorem State.qPut_wroDone (s : State) (q : Nat) (d : Word64) (tag : Nat) (sof : Bool) (eof : Bool) : (State.qPut s q d tag sof eof).wroDone = s.wroDone := (State.qPut_within ..).wroDone_eq rfl
@[simp] theorem State.qPut_raw (s : State) (q : Nat) (d : Word64) (tag : Nat) (sof : Bool) (eof : Bool) : (State.qPut s q d tag sof eof).raw = s.raw := (State.qPut_within ..).raw_eq rfl
@[simp] theorem State.qPut_free (s : State) (q : Nat) (d : Word64) (tag : Nat) (sof : Bool) (eof : Bool) : (State.qPut s q d tag sof eof).free = s.free := (State.qPut_within ..).free_eq rfl
@[simp] theorem State.qPut_fuse (s : State) (q : Nat) (d : Word64) (tag : Nat) (sof : Bool) (eof : Bool) : (State.qPut s q d tag sof eof).fuse = s.fuse := (State.qPut_within ..).fuse_eq rfl
@[simp] theorem State.qPut_trained (s : State) (q : Nat) (d : Word64) (tag : Nat) (sof : Bool) (eof : Bool) : (State.qPut s q d tag sof eof).trained = s.trained := (State.qPut_within ..).trained_eq rfl
@[simp] theorem State.qPut_bootWait (s : State) (q : Nat) (d : Word64) (tag : Nat) (sof : Bool) (eof : Bool) : (State.qPut s q d tag sof eof).bootWait = s.bootWait := (State.qPut_within ..).bootWait_eq rfl
@[simp] theorem State.qPut_tb (s : State) (q : Nat) (d : Word64) (tag : Nat) (sof : Bool) (eof : Bool) : (State.qPut s q d tag sof eof).tb = s.tb := (State.qPut_within ..).tb_eq rfl
@[simp] theorem State.qPut_crl (s : State) (q : Nat) (d : Word64) (tag : Nat) (sof : Bool) (eof : Bool) : (State.qPut s q d tag sof eof).crl = s.crl := (State.qPut_within ..).crl_eq rfl
@[simp] theorem State.qPut_evio (s : State) (q : Nat) (d : Word64) (tag : Nat) (sof : Bool) (eof : Bool) : (State.qPut s q d tag sof eof).evio = s.evio := (State.qPut_within ..).evio_eq rfl
@[simp] theorem State.qPut_evf (s : State) (q : Nat) (d : Word64) (tag : Nat) (sof : Bool) (eof : Bool) : (State.qPut s q d tag sof eof).evf = s.evf := (State.qPut_within ..).evf_eq rfl
@[simp] theorem State.qPut_raised (s : State) (q : Nat) (d : Word64) (tag : Nat) (sof : Bool) (eof : Bool) : (State.qPut s q d tag sof eof).raised = s.raised := (State.qPut_within ..).raised_eq rfl
@[simp] theorem State.qPut_chan (s : State) (q : Nat) (d : Word64) (tag : Nat) (sof : Bool) (eof : Bool) : (State.qPut s q d tag sof eof).chan = s.chan := (State.qPut_within ..).chan_eq rfl
@[simp] theorem State.qPut_tg (s : State) (q : Nat) (d : Word64) (tag : Nat) (sof : Bool) (eof : Bool) : (State.qPut s q d tag sof eof).tg = s.tg := (State.qPut_within ..).tg_eq rfl
@[simp] theorem State.qPut_view (s : State) (q : Nat) (d : Word64) (tag : Nat) (sof : Bool) (eof : Bool) : (State.qPut s q d tag sof eof).view = s.view := (State.qPut_within ..).view_eq rfl
@[simp] theorem State.qPut_link (s : State) (q : Nat) (d : Word64) (tag : Nat) (sof : Bool) (eof : Bool) : (State.qPut s q d tag sof eof).link = s.link := (State.qPut_within ..).link_eq rfl
@[simp] theorem State.qPut_train (s : State) (q : Nat) (d : Word64) (tag : Nat) (sof : Bool) (eof : Bool) : (State.qPut s q d tag sof eof).train = s.train := (State.qPut_within ..).train_eq rfl
@[simp] theorem State.qPut_joker (s : State) (q : Nat) (d : Word64) (tag : Nat) (sof : Bool) (eof : Bool) : (State.qPut s q d tag sof eof).joker = s.joker := (State.qPut_within ..).joker_eq rfl
@[simp] theorem State.qPut_roWritten (s : State) (q : Nat) (d : Word64) (tag : Nat) (sof : Bool) (eof : Bool) : (State.qPut s q d tag sof eof).roWritten = s.roWritten := (State.qPut_within ..).roWritten_eq rfl
@[simp] theorem State.qPut_jobA (s : State) (q : Nat) (d : Word64) (tag : Nat) (sof : Bool) (eof : Bool) : (State.qPut s q d tag sof eof).jobA = s.jobA := (State.qPut_within ..).jobA_eq rfl
@[simp] theorem State.qPut_jobN (s : State) (q : Nat) (d : Word64) (tag : Nat) (sof : Bool) (eof : Bool) : (State.qPut s q d tag sof eof).jobN = s.jobN := (State.qPut_within ..).jobN_eq rfl
@[simp] theorem State.qPut_valJob (s : State) (q : Nat) (d : Word64) (tag : Nat) (sof : Bool) (eof : Bool) : (State.qPut s q d tag sof eof).valJob = s.valJob := (State.qPut_within ..).valJob_eq rfl
@[simp] theorem State.qPut_jobVals (s : State) (q : Nat) (d : Word64) (tag : Nat) (sof : Bool) (eof : Bool) : (State.qPut s q d tag sof eof).jobVals = s.jobVals := (State.qPut_within ..).jobVals_eq rfl
@[simp] theorem State.qPut_intake (s : State) (q : Nat) (d : Word64) (tag : Nat) (sof : Bool) (eof : Bool) : (State.qPut s q d tag sof eof).intake = s.intake := (State.qPut_within ..).intake_eq rfl
@[simp] theorem State.qPut_pipe (s : State) (q : Nat) (d : Word64) (tag : Nat) (sof : Bool) (eof : Bool) : (State.qPut s q d tag sof eof).pipe = s.pipe := (State.qPut_within ..).pipe_eq rfl
@[simp] theorem State.qPut_tapBuf (s : State) (q : Nat) (d : Word64) (tag : Nat) (sof : Bool) (eof : Bool) : (State.qPut s q d tag sof eof).tapBuf = s.tapBuf := (State.qPut_within ..).tapBuf_eq rfl
@[simp] theorem State.qPut_corr (s : State) (q : Nat) (d : Word64) (tag : Nat) (sof : Bool) (eof : Bool) : (State.qPut s q d tag sof eof).corr = s.corr := (State.qPut_within ..).corr_eq rfl
@[simp] theorem State.qPut_stitch_ (s : State) (q : Nat) (d : Word64) (tag : Nat) (sof : Bool) (eof : Bool) : (State.qPut s q d tag sof eof).stitch_ = s.stitch_ := (State.qPut_within ..).stitch_eq rfl
@[simp] theorem State.qPut_dot (s : State) (q : Nat) (d : Word64) (tag : Nat) (sof : Bool) (eof : Bool) : (State.qPut s q d tag sof eof).dot = s.dot := (State.qPut_within ..).dot_eq rfl
@[simp] theorem State.qPut_winRes (s : State) (q : Nat) (d : Word64) (tag : Nat) (sof : Bool) (eof : Bool) : (State.qPut s q d tag sof eof).winRes = s.winRes := (State.qPut_within ..).winRes_eq rfl
@[simp] theorem State.qPut_mst (s : State) (q : Nat) (d : Word64) (tag : Nat) (sof : Bool) (eof : Bool) : (State.qPut s q d tag sof eof).mst = s.mst := (State.qPut_within ..).mst_eq rfl
@[simp] theorem State.qPut_predict (s : State) (q : Nat) (d : Word64) (tag : Nat) (sof : Bool) (eof : Bool) : (State.qPut s q d tag sof eof).predict = s.predict := (State.qPut_within ..).predict_eq rfl
@[simp] theorem State.qPut_eng (s : State) (q : Nat) (d : Word64) (tag : Nat) (sof : Bool) (eof : Bool) : (State.qPut s q d tag sof eof).eng = s.eng := (State.qPut_within ..).eng_eq rfl
@[simp] theorem State.qPut_resA (s : State) (q : Nat) (d : Word64) (tag : Nat) (sof : Bool) (eof : Bool) : (State.qPut s q d tag sof eof).resA = s.resA := (State.qPut_within ..).resA_eq rfl
@[simp] theorem State.qPut_resN (s : State) (q : Nat) (d : Word64) (tag : Nat) (sof : Bool) (eof : Bool) : (State.qPut s q d tag sof eof).resN = s.resN := (State.qPut_within ..).resN_eq rfl
@[simp] theorem State.qPut_acts (s : State) (q : Nat) (d : Word64) (tag : Nat) (sof : Bool) (eof : Bool) : (State.qPut s q d tag sof eof).acts = s.acts := (State.qPut_within ..).acts_eq rfl
@[simp] theorem State.qPut_hits (s : State) (q : Nat) (d : Word64) (tag : Nat) (sof : Bool) (eof : Bool) : (State.qPut s q d tag sof eof).hits = s.hits := (State.qPut_within ..).hits_eq rfl
@[simp] theorem State.qPut_net (s : State) (q : Nat) (d : Word64) (tag : Nat) (sof : Bool) (eof : Bool) : (State.qPut s q d tag sof eof).net = s.net := (State.qPut_within ..).net_eq rfl
@[simp] theorem State.qPut_stream (s : State) (q : Nat) (d : Word64) (tag : Nat) (sof : Bool) (eof : Bool) : (State.qPut s q d tag sof eof).stream = s.stream := (State.qPut_within ..).stream_eq rfl
@[simp] theorem State.qPut_dec (s : State) (q : Nat) (d : Word64) (tag : Nat) (sof : Bool) (eof : Bool) : (State.qPut s q d tag sof eof).dec = s.dec := (State.qPut_within ..).dec_eq rfl
@[simp] theorem State.qPut_dma (s : State) (q : Nat) (d : Word64) (tag : Nat) (sof : Bool) (eof : Bool) : (State.qPut s q d tag sof eof).dma = s.dma := (State.qPut_within ..).dma_eq rfl
@[simp] theorem State.qPut_zip (s : State) (q : Nat) (d : Word64) (tag : Nat) (sof : Bool) (eof : Bool) : (State.qPut s q d tag sof eof).zip = s.zip := (State.qPut_within ..).zip_eq rfl
@[simp] theorem State.qPut_twl (s : State) (q : Nat) (d : Word64) (tag : Nat) (sof : Bool) (eof : Bool) : (State.qPut s q d tag sof eof).twl = s.twl := (State.qPut_within ..).twl_eq rfl
@[simp] theorem State.qPut_fifo (s : State) (q : Nat) (d : Word64) (tag : Nat) (sof : Bool) (eof : Bool) : (State.qPut s q d tag sof eof).fifo = s.fifo := (State.qPut_within ..).fifo_eq rfl
@[simp] theorem State.qPut_mc (s : State) (q : Nat) (d : Word64) (tag : Nat) (sof : Bool) (eof : Bool) : (State.qPut s q d tag sof eof).mc = s.mc := (State.qPut_within ..).mc_eq rfl
@[simp] theorem State.qPut_mcg (s : State) (q : Nat) (d : Word64) (tag : Nat) (sof : Bool) (eof : Bool) : (State.qPut s q d tag sof eof).mcg = s.mcg := (State.qPut_within ..).mcg_eq rfl
@[simp] theorem State.qPut_hlth (s : State) (q : Nat) (d : Word64) (tag : Nat) (sof : Bool) (eof : Bool) : (State.qPut s q d tag sof eof).hlth = s.hlth := (State.qPut_within ..).hlth_eq rfl
@[simp] theorem State.qPut_log (s : State) (q : Nat) (d : Word64) (tag : Nat) (sof : Bool) (eof : Bool) : (State.qPut s q d tag sof eof).log = s.log := (State.qPut_within ..).log_eq rfl
@[simp] theorem State.qPut_logLatch (s : State) (q : Nat) (d : Word64) (tag : Nat) (sof : Bool) (eof : Bool) : (State.qPut s q d tag sof eof).logLatch = s.logLatch := (State.qPut_within ..).logLatch_eq rfl
@[simp] theorem State.qPut_commits (s : State) (q : Nat) (d : Word64) (tag : Nat) (sof : Bool) (eof : Bool) : (State.qPut s q d tag sof eof).commits = s.commits := (State.qPut_within ..).commits_eq rfl
@[simp] theorem State.qPut_cmtRec (s : State) (q : Nat) (d : Word64) (tag : Nat) (sof : Bool) (eof : Bool) : (State.qPut s q d tag sof eof).cmtRec = s.cmtRec := (State.qPut_within ..).cmtRec_eq rfl
@[simp] theorem State.qPut_entered (s : State) (q : Nat) (d : Word64) (tag : Nat) (sof : Bool) (eof : Bool) : (State.qPut s q d tag sof eof).entered = s.entered := (State.qPut_within ..).entered_eq rfl
@[simp] theorem State.qPut_lockAt (s : State) (q : Nat) (d : Word64) (tag : Nat) (sof : Bool) (eof : Bool) : (State.qPut s q d tag sof eof).lockAt = s.lockAt := (State.qPut_within ..).lockAt_eq rfl
@[simp] theorem State.qPut_lockKey (s : State) (q : Nat) (d : Word64) (tag : Nat) (sof : Bool) (eof : Bool) : (State.qPut s q d tag sof eof).lockKey = s.lockKey := (State.qPut_within ..).lockKey_eq rfl
@[simp] theorem State.qPut_revoking (s : State) (q : Nat) (d : Word64) (tag : Nat) (sof : Bool) (eof : Bool) : (State.qPut s q d tag sof eof).revoking = s.revoking := (State.qPut_within ..).revoking_eq rfl
@[simp] theorem State.qPut_dead (s : State) (q : Nat) (d : Word64) (tag : Nat) (sof : Bool) (eof : Bool) : (State.qPut s q d tag sof eof).dead = s.dead := (State.qPut_within ..).dead_eq rfl
@[simp] theorem State.qPut_chanOf (s : State) (q : Nat) (d : Word64) (tag : Nat) (sof : Bool) (eof : Bool) (c0 : Nat) : (State.qPut s q d tag sof eof).chanOf c0 = s.chanOf c0 := (State.qPut_within ..).chanOf c0 rfl
@[simp] theorem State.qPut_tgOf (s : State) (q : Nat) (d : Word64) (tag : Nat) (sof : Bool) (eof : Bool) (c0 : Nat) : (State.qPut s q d tag sof eof).tgOf c0 = s.tgOf c0 := (State.qPut_within ..).tgOf c0 rfl
@[simp] theorem State.qPut_view_ (s : State) (q : Nat) (d : Word64) (tag : Nat) (sof : Bool) (eof : Bool) (c0 : Nat) : (State.qPut s q d tag sof eof).view_ c0 = s.view_ c0 := (State.qPut_within ..).view_ c0 rfl
@[simp] theorem State.qPut_link_ (s : State) (q : Nat) (d : Word64) (tag : Nat) (sof : Bool) (eof : Bool) (c0 : Nat) : (State.qPut s q d tag sof eof).link_ c0 = s.link_ c0 := (State.qPut_within ..).link_ c0 rfl
@[simp] theorem State.qPut_train_ (s : State) (q : Nat) (d : Word64) (tag : Nat) (sof : Bool) (eof : Bool) (c0 d0 : Nat) : (State.qPut s q d tag sof eof).train_ c0 d0 = s.train_ c0 d0 := (State.qPut_within ..).train_ c0 d0 rfl
@[simp] theorem State.qPut_jk (s : State) (q : Nat) (d : Word64) (tag : Nat) (sof : Bool) (eof : Bool) (c0 : Nat) : (State.qPut s q d tag sof eof).jk c0 = s.jk c0 := (State.qPut_within ..).jk c0 rfl
@[simp] theorem State.qPut_mcOf (s : State) (q : Nat) (d : Word64) (tag : Nat) (sof : Bool) (eof : Bool) (c0 : Nat) : (State.qPut s q d tag sof eof).mcOf c0 = s.mcOf c0 := (State.qPut_within ..).mcOf c0 rfl
@[simp] theorem State.qPut_engOf (s : State) (q : Nat) (d : Word64) (tag : Nat) (sof : Bool) (eof : Bool) (c0 : Nat) : (State.qPut s q d tag sof eof).engOf c0 = s.engOf c0 := (State.qPut_within ..).engOf c0 rfl
@[simp] theorem State.qPut_intk (s : State) (q : Nat) (d : Word64) (tag : Nat) (sof : Bool) (eof : Bool) (c0 : Nat) : (State.qPut s q d tag sof eof).intk c0 = s.intk c0 := (State.qPut_within ..).intk c0 rfl
@[simp] theorem State.qPut_pipe_ (s : State) (q : Nat) (d : Word64) (tag : Nat) (sof : Bool) (eof : Bool) (c0 : Nat) : (State.qPut s q d tag sof eof).pipe_ c0 = s.pipe_ c0 := (State.qPut_within ..).pipe_ c0 rfl
@[simp] theorem State.qPut_corr_ (s : State) (q : Nat) (d : Word64) (tag : Nat) (sof : Bool) (eof : Bool) (c0 : Nat) : (State.qPut s q d tag sof eof).corr_ c0 = s.corr_ c0 := (State.qPut_within ..).corr_ c0 rfl
@[simp] theorem State.qPut_sti (s : State) (q : Nat) (d : Word64) (tag : Nat) (sof : Bool) (eof : Bool) (c0 : Nat) : (State.qPut s q d tag sof eof).sti c0 = s.sti c0 := (State.qPut_within ..).sti c0 rfl
@[simp] theorem State.qPut_sess (s : State) (q : Nat) (d : Word64) (tag : Nat) (sof : Bool) (eof : Bool) (c0 : Nat) : (State.qPut s q d tag sof eof).sess c0 = s.sess c0 := (State.qPut_within ..).sess c0 rfl
@[simp] theorem State.qPut_str_ (s : State) (q : Nat) (d : Word64) (tag : Nat) (sof : Bool) (eof : Bool) (c0 : Nat) : (State.qPut s q d tag sof eof).str_ c0 = s.str_ c0 := (State.qPut_within ..).str_ c0 rfl
@[simp] theorem State.qPut_twlOf (s : State) (q : Nat) (d : Word64) (tag : Nat) (sof : Bool) (eof : Bool) (c0 : Nat) : (State.qPut s q d tag sof eof).twlOf c0 = s.twlOf c0 := (State.qPut_within ..).twlOf c0 rfl
@[simp] theorem State.qPut_ch (s : State) (q : Nat) (d : Word64) (tag : Nat) (sof : Bool) (eof : Bool) (c0 : Nat) : (State.qPut s q d tag sof eof).ch c0 = s.ch c0 := (State.qPut_within ..).ch c0 rfl
@[simp] theorem State.qPut_mstV (s : State) (q : Nat) (d : Word64) (tag : Nat) (sof : Bool) (eof : Bool) (c0 : Nat) : (State.qPut s q d tag sof eof).mstV c0 = s.mstV c0 := (State.qPut_within ..).mstV c0 rfl
@[simp] theorem State.qPut_calOf (s : State) (q : Nat) (d : Word64) (tag : Nat) (sof : Bool) (eof : Bool) (c0 : Nat) : (State.qPut s q d tag sof eof).calOf c0 = s.calOf c0 := (State.qPut_within ..).calOf c0 rfl
@[simp] theorem State.qPut_fifoOf (s : State) (q : Nat) (d : Word64) (tag : Nat) (sof : Bool) (eof : Bool) (c0 : Nat) : (State.qPut s q d tag sof eof).fifoOf c0 = s.fifoOf c0 := (State.qPut_within ..).fifoOf c0 rfl
@[simp] theorem State.qPut_pend (s : State) (q : Nat) (d : Word64) (tag : Nat) (sof : Bool) (eof : Bool) (c0 : Nat) : (State.qPut s q d tag sof eof).pend c0 = s.pend c0 := (State.qPut_within ..).pend c0 rfl
@[simp] theorem State.qPut_rdShadow (s : State) (q : Nat) (d : Word64) (tag : Nat) (sof : Bool) (eof : Bool) (c0 d0 : Nat) : (State.qPut s q d tag sof eof).rdShadow c0 d0 = s.rdShadow c0 d0 := (State.qPut_within ..).rdShadow c0 d0 rfl
/-! State.qPutFrame -/

@[simp] theorem State.qPutFrame_shadow (s : State) (q : Nat) (l : List Word64) (tag : Nat) : (State.qPutFrame s q l tag).shadow = s.shadow := (State.qPutFrame_within ..).shadow_eq rfl
@[simp] theorem State.qPutFrame_wroDone (s : State) (q : Nat) (l : List Word64) (tag : Nat) : (State.qPutFrame s q l tag).wroDone = s.wroDone := (State.qPutFrame_within ..).wroDone_eq rfl
@[simp] theorem State.qPutFrame_raw (s : State) (q : Nat) (l : List Word64) (tag : Nat) : (State.qPutFrame s q l tag).raw = s.raw := (State.qPutFrame_within ..).raw_eq rfl
@[simp] theorem State.qPutFrame_free (s : State) (q : Nat) (l : List Word64) (tag : Nat) : (State.qPutFrame s q l tag).free = s.free := (State.qPutFrame_within ..).free_eq rfl
@[simp] theorem State.qPutFrame_fuse (s : State) (q : Nat) (l : List Word64) (tag : Nat) : (State.qPutFrame s q l tag).fuse = s.fuse := (State.qPutFrame_within ..).fuse_eq rfl
@[simp] theorem State.qPutFrame_trained (s : State) (q : Nat) (l : List Word64) (tag : Nat) : (State.qPutFrame s q l tag).trained = s.trained := (State.qPutFrame_within ..).trained_eq rfl
@[simp] theorem State.qPutFrame_bootWait (s : State) (q : Nat) (l : List Word64) (tag : Nat) : (State.qPutFrame s q l tag).bootWait = s.bootWait := (State.qPutFrame_within ..).bootWait_eq rfl
@[simp] theorem State.qPutFrame_tb (s : State) (q : Nat) (l : List Word64) (tag : Nat) : (State.qPutFrame s q l tag).tb = s.tb := (State.qPutFrame_within ..).tb_eq rfl
@[simp] theorem State.qPutFrame_crl (s : State) (q : Nat) (l : List Word64) (tag : Nat) : (State.qPutFrame s q l tag).crl = s.crl := (State.qPutFrame_within ..).crl_eq rfl
@[simp] theorem State.qPutFrame_evio (s : State) (q : Nat) (l : List Word64) (tag : Nat) : (State.qPutFrame s q l tag).evio = s.evio := (State.qPutFrame_within ..).evio_eq rfl
@[simp] theorem State.qPutFrame_evf (s : State) (q : Nat) (l : List Word64) (tag : Nat) : (State.qPutFrame s q l tag).evf = s.evf := (State.qPutFrame_within ..).evf_eq rfl
@[simp] theorem State.qPutFrame_raised (s : State) (q : Nat) (l : List Word64) (tag : Nat) : (State.qPutFrame s q l tag).raised = s.raised := (State.qPutFrame_within ..).raised_eq rfl
@[simp] theorem State.qPutFrame_chan (s : State) (q : Nat) (l : List Word64) (tag : Nat) : (State.qPutFrame s q l tag).chan = s.chan := (State.qPutFrame_within ..).chan_eq rfl
@[simp] theorem State.qPutFrame_tg (s : State) (q : Nat) (l : List Word64) (tag : Nat) : (State.qPutFrame s q l tag).tg = s.tg := (State.qPutFrame_within ..).tg_eq rfl
@[simp] theorem State.qPutFrame_view (s : State) (q : Nat) (l : List Word64) (tag : Nat) : (State.qPutFrame s q l tag).view = s.view := (State.qPutFrame_within ..).view_eq rfl
@[simp] theorem State.qPutFrame_link (s : State) (q : Nat) (l : List Word64) (tag : Nat) : (State.qPutFrame s q l tag).link = s.link := (State.qPutFrame_within ..).link_eq rfl
@[simp] theorem State.qPutFrame_train (s : State) (q : Nat) (l : List Word64) (tag : Nat) : (State.qPutFrame s q l tag).train = s.train := (State.qPutFrame_within ..).train_eq rfl
@[simp] theorem State.qPutFrame_joker (s : State) (q : Nat) (l : List Word64) (tag : Nat) : (State.qPutFrame s q l tag).joker = s.joker := (State.qPutFrame_within ..).joker_eq rfl
@[simp] theorem State.qPutFrame_roWritten (s : State) (q : Nat) (l : List Word64) (tag : Nat) : (State.qPutFrame s q l tag).roWritten = s.roWritten := (State.qPutFrame_within ..).roWritten_eq rfl
@[simp] theorem State.qPutFrame_jobA (s : State) (q : Nat) (l : List Word64) (tag : Nat) : (State.qPutFrame s q l tag).jobA = s.jobA := (State.qPutFrame_within ..).jobA_eq rfl
@[simp] theorem State.qPutFrame_jobN (s : State) (q : Nat) (l : List Word64) (tag : Nat) : (State.qPutFrame s q l tag).jobN = s.jobN := (State.qPutFrame_within ..).jobN_eq rfl
@[simp] theorem State.qPutFrame_valJob (s : State) (q : Nat) (l : List Word64) (tag : Nat) : (State.qPutFrame s q l tag).valJob = s.valJob := (State.qPutFrame_within ..).valJob_eq rfl
@[simp] theorem State.qPutFrame_jobVals (s : State) (q : Nat) (l : List Word64) (tag : Nat) : (State.qPutFrame s q l tag).jobVals = s.jobVals := (State.qPutFrame_within ..).jobVals_eq rfl
@[simp] theorem State.qPutFrame_intake (s : State) (q : Nat) (l : List Word64) (tag : Nat) : (State.qPutFrame s q l tag).intake = s.intake := (State.qPutFrame_within ..).intake_eq rfl
@[simp] theorem State.qPutFrame_pipe (s : State) (q : Nat) (l : List Word64) (tag : Nat) : (State.qPutFrame s q l tag).pipe = s.pipe := (State.qPutFrame_within ..).pipe_eq rfl
@[simp] theorem State.qPutFrame_tapBuf (s : State) (q : Nat) (l : List Word64) (tag : Nat) : (State.qPutFrame s q l tag).tapBuf = s.tapBuf := (State.qPutFrame_within ..).tapBuf_eq rfl
@[simp] theorem State.qPutFrame_corr (s : State) (q : Nat) (l : List Word64) (tag : Nat) : (State.qPutFrame s q l tag).corr = s.corr := (State.qPutFrame_within ..).corr_eq rfl
@[simp] theorem State.qPutFrame_stitch_ (s : State) (q : Nat) (l : List Word64) (tag : Nat) : (State.qPutFrame s q l tag).stitch_ = s.stitch_ := (State.qPutFrame_within ..).stitch_eq rfl
@[simp] theorem State.qPutFrame_dot (s : State) (q : Nat) (l : List Word64) (tag : Nat) : (State.qPutFrame s q l tag).dot = s.dot := (State.qPutFrame_within ..).dot_eq rfl
@[simp] theorem State.qPutFrame_winRes (s : State) (q : Nat) (l : List Word64) (tag : Nat) : (State.qPutFrame s q l tag).winRes = s.winRes := (State.qPutFrame_within ..).winRes_eq rfl
@[simp] theorem State.qPutFrame_mst (s : State) (q : Nat) (l : List Word64) (tag : Nat) : (State.qPutFrame s q l tag).mst = s.mst := (State.qPutFrame_within ..).mst_eq rfl
@[simp] theorem State.qPutFrame_predict (s : State) (q : Nat) (l : List Word64) (tag : Nat) : (State.qPutFrame s q l tag).predict = s.predict := (State.qPutFrame_within ..).predict_eq rfl
@[simp] theorem State.qPutFrame_eng (s : State) (q : Nat) (l : List Word64) (tag : Nat) : (State.qPutFrame s q l tag).eng = s.eng := (State.qPutFrame_within ..).eng_eq rfl
@[simp] theorem State.qPutFrame_resA (s : State) (q : Nat) (l : List Word64) (tag : Nat) : (State.qPutFrame s q l tag).resA = s.resA := (State.qPutFrame_within ..).resA_eq rfl
@[simp] theorem State.qPutFrame_resN (s : State) (q : Nat) (l : List Word64) (tag : Nat) : (State.qPutFrame s q l tag).resN = s.resN := (State.qPutFrame_within ..).resN_eq rfl
@[simp] theorem State.qPutFrame_acts (s : State) (q : Nat) (l : List Word64) (tag : Nat) : (State.qPutFrame s q l tag).acts = s.acts := (State.qPutFrame_within ..).acts_eq rfl
@[simp] theorem State.qPutFrame_hits (s : State) (q : Nat) (l : List Word64) (tag : Nat) : (State.qPutFrame s q l tag).hits = s.hits := (State.qPutFrame_within ..).hits_eq rfl
@[simp] theorem State.qPutFrame_net (s : State) (q : Nat) (l : List Word64) (tag : Nat) : (State.qPutFrame s q l tag).net = s.net := (State.qPutFrame_within ..).net_eq rfl
@[simp] theorem State.qPutFrame_stream (s : State) (q : Nat) (l : List Word64) (tag : Nat) : (State.qPutFrame s q l tag).stream = s.stream := (State.qPutFrame_within ..).stream_eq rfl
@[simp] theorem State.qPutFrame_dec (s : State) (q : Nat) (l : List Word64) (tag : Nat) : (State.qPutFrame s q l tag).dec = s.dec := (State.qPutFrame_within ..).dec_eq rfl
@[simp] theorem State.qPutFrame_dma (s : State) (q : Nat) (l : List Word64) (tag : Nat) : (State.qPutFrame s q l tag).dma = s.dma := (State.qPutFrame_within ..).dma_eq rfl
@[simp] theorem State.qPutFrame_zip (s : State) (q : Nat) (l : List Word64) (tag : Nat) : (State.qPutFrame s q l tag).zip = s.zip := (State.qPutFrame_within ..).zip_eq rfl
@[simp] theorem State.qPutFrame_twl (s : State) (q : Nat) (l : List Word64) (tag : Nat) : (State.qPutFrame s q l tag).twl = s.twl := (State.qPutFrame_within ..).twl_eq rfl
@[simp] theorem State.qPutFrame_fifo (s : State) (q : Nat) (l : List Word64) (tag : Nat) : (State.qPutFrame s q l tag).fifo = s.fifo := (State.qPutFrame_within ..).fifo_eq rfl
@[simp] theorem State.qPutFrame_mc (s : State) (q : Nat) (l : List Word64) (tag : Nat) : (State.qPutFrame s q l tag).mc = s.mc := (State.qPutFrame_within ..).mc_eq rfl
@[simp] theorem State.qPutFrame_mcg (s : State) (q : Nat) (l : List Word64) (tag : Nat) : (State.qPutFrame s q l tag).mcg = s.mcg := (State.qPutFrame_within ..).mcg_eq rfl
@[simp] theorem State.qPutFrame_hlth (s : State) (q : Nat) (l : List Word64) (tag : Nat) : (State.qPutFrame s q l tag).hlth = s.hlth := (State.qPutFrame_within ..).hlth_eq rfl
@[simp] theorem State.qPutFrame_log (s : State) (q : Nat) (l : List Word64) (tag : Nat) : (State.qPutFrame s q l tag).log = s.log := (State.qPutFrame_within ..).log_eq rfl
@[simp] theorem State.qPutFrame_logLatch (s : State) (q : Nat) (l : List Word64) (tag : Nat) : (State.qPutFrame s q l tag).logLatch = s.logLatch := (State.qPutFrame_within ..).logLatch_eq rfl
@[simp] theorem State.qPutFrame_commits (s : State) (q : Nat) (l : List Word64) (tag : Nat) : (State.qPutFrame s q l tag).commits = s.commits := (State.qPutFrame_within ..).commits_eq rfl
@[simp] theorem State.qPutFrame_cmtRec (s : State) (q : Nat) (l : List Word64) (tag : Nat) : (State.qPutFrame s q l tag).cmtRec = s.cmtRec := (State.qPutFrame_within ..).cmtRec_eq rfl
@[simp] theorem State.qPutFrame_entered (s : State) (q : Nat) (l : List Word64) (tag : Nat) : (State.qPutFrame s q l tag).entered = s.entered := (State.qPutFrame_within ..).entered_eq rfl
@[simp] theorem State.qPutFrame_lockAt (s : State) (q : Nat) (l : List Word64) (tag : Nat) : (State.qPutFrame s q l tag).lockAt = s.lockAt := (State.qPutFrame_within ..).lockAt_eq rfl
@[simp] theorem State.qPutFrame_lockKey (s : State) (q : Nat) (l : List Word64) (tag : Nat) : (State.qPutFrame s q l tag).lockKey = s.lockKey := (State.qPutFrame_within ..).lockKey_eq rfl
@[simp] theorem State.qPutFrame_revoking (s : State) (q : Nat) (l : List Word64) (tag : Nat) : (State.qPutFrame s q l tag).revoking = s.revoking := (State.qPutFrame_within ..).revoking_eq rfl
@[simp] theorem State.qPutFrame_dead (s : State) (q : Nat) (l : List Word64) (tag : Nat) : (State.qPutFrame s q l tag).dead = s.dead := (State.qPutFrame_within ..).dead_eq rfl
@[simp] theorem State.qPutFrame_chanOf (s : State) (q : Nat) (l : List Word64) (tag : Nat) (c0 : Nat) : (State.qPutFrame s q l tag).chanOf c0 = s.chanOf c0 := (State.qPutFrame_within ..).chanOf c0 rfl
@[simp] theorem State.qPutFrame_tgOf (s : State) (q : Nat) (l : List Word64) (tag : Nat) (c0 : Nat) : (State.qPutFrame s q l tag).tgOf c0 = s.tgOf c0 := (State.qPutFrame_within ..).tgOf c0 rfl
@[simp] theorem State.qPutFrame_view_ (s : State) (q : Nat) (l : List Word64) (tag : Nat) (c0 : Nat) : (State.qPutFrame s q l tag).view_ c0 = s.view_ c0 := (State.qPutFrame_within ..).view_ c0 rfl
@[simp] theorem State.qPutFrame_link_ (s : State) (q : Nat) (l : List Word64) (tag : Nat) (c0 : Nat) : (State.qPutFrame s q l tag).link_ c0 = s.link_ c0 := (State.qPutFrame_within ..).link_ c0 rfl
@[simp] theorem State.qPutFrame_train_ (s : State) (q : Nat) (l : List Word64) (tag : Nat) (c0 d0 : Nat) : (State.qPutFrame s q l tag).train_ c0 d0 = s.train_ c0 d0 := (State.qPutFrame_within ..).train_ c0 d0 rfl
@[simp] theorem State.qPutFrame_jk (s : State) (q : Nat) (l : List Word64) (tag : Nat) (c0 : Nat) : (State.qPutFrame s q l tag).jk c0 = s.jk c0 := (State.qPutFrame_within ..).jk c0 rfl
@[simp] theorem State.qPutFrame_mcOf (s : State) (q : Nat) (l : List Word64) (tag : Nat) (c0 : Nat) : (State.qPutFrame s q l tag).mcOf c0 = s.mcOf c0 := (State.qPutFrame_within ..).mcOf c0 rfl
@[simp] theorem State.qPutFrame_engOf (s : State) (q : Nat) (l : List Word64) (tag : Nat) (c0 : Nat) : (State.qPutFrame s q l tag).engOf c0 = s.engOf c0 := (State.qPutFrame_within ..).engOf c0 rfl
@[simp] theorem State.qPutFrame_intk (s : State) (q : Nat) (l : List Word64) (tag : Nat) (c0 : Nat) : (State.qPutFrame s q l tag).intk c0 = s.intk c0 := (State.qPutFrame_within ..).intk c0 rfl
@[simp] theorem State.qPutFrame_pipe_ (s : State) (q : Nat) (l : List Word64) (tag : Nat) (c0 : Nat) : (State.qPutFrame s q l tag).pipe_ c0 = s.pipe_ c0 := (State.qPutFrame_within ..).pipe_ c0 rfl
@[simp] theorem State.qPutFrame_corr_ (s : State) (q : Nat) (l : List Word64) (tag : Nat) (c0 : Nat) : (State.qPutFrame s q l tag).corr_ c0 = s.corr_ c0 := (State.qPutFrame_within ..).corr_ c0 rfl
@[simp] theorem State.qPutFrame_sti (s : State) (q : Nat) (l : List Word64) (tag : Nat) (c0 : Nat) : (State.qPutFrame s q l tag).sti c0 = s.sti c0 := (State.qPutFrame_within ..).sti c0 rfl
@[simp] theorem State.qPutFrame_sess (s : State) (q : Nat) (l : List Word64) (tag : Nat) (c0 : Nat) : (State.qPutFrame s q l tag).sess c0 = s.sess c0 := (State.qPutFrame_within ..).sess c0 rfl
@[simp] theorem State.qPutFrame_str_ (s : State) (q : Nat) (l : List Word64) (tag : Nat) (c0 : Nat) : (State.qPutFrame s q l tag).str_ c0 = s.str_ c0 := (State.qPutFrame_within ..).str_ c0 rfl
@[simp] theorem State.qPutFrame_twlOf (s : State) (q : Nat) (l : List Word64) (tag : Nat) (c0 : Nat) : (State.qPutFrame s q l tag).twlOf c0 = s.twlOf c0 := (State.qPutFrame_within ..).twlOf c0 rfl
@[simp] theorem State.qPutFrame_ch (s : State) (q : Nat) (l : List Word64) (tag : Nat) (c0 : Nat) : (State.qPutFrame s q l tag).ch c0 = s.ch c0 := (State.qPutFrame_within ..).ch c0 rfl
@[simp] theorem State.qPutFrame_mstV (s : State) (q : Nat) (l : List Word64) (tag : Nat) (c0 : Nat) : (State.qPutFrame s q l tag).mstV c0 = s.mstV c0 := (State.qPutFrame_within ..).mstV c0 rfl
@[simp] theorem State.qPutFrame_calOf (s : State) (q : Nat) (l : List Word64) (tag : Nat) (c0 : Nat) : (State.qPutFrame s q l tag).calOf c0 = s.calOf c0 := (State.qPutFrame_within ..).calOf c0 rfl
@[simp] theorem State.qPutFrame_fifoOf (s : State) (q : Nat) (l : List Word64) (tag : Nat) (c0 : Nat) : (State.qPutFrame s q l tag).fifoOf c0 = s.fifoOf c0 := (State.qPutFrame_within ..).fifoOf c0 rfl
@[simp] theorem State.qPutFrame_pend (s : State) (q : Nat) (l : List Word64) (tag : Nat) (c0 : Nat) : (State.qPutFrame s q l tag).pend c0 = s.pend c0 := (State.qPutFrame_within ..).pend c0 rfl
@[simp] theorem State.qPutFrame_rdShadow (s : State) (q : Nat) (l : List Word64) (tag : Nat) (c0 d0 : Nat) : (State.qPutFrame s q l tag).rdShadow c0 d0 = s.rdShadow c0 d0 := (State.qPutFrame_within ..).rdShadow c0 d0 rfl
/-! State.showLevels -/

@[simp] theorem State.showLevels_mem (s : State) : (State.showLevels s).mem = s.mem := (State.showLevels_within ..).mem_eq rfl
@[simp] theorem State.showLevels_blank (s : State) : (State.showLevels s).blank = s.blank := (State.showLevels_within ..).blank_eq rfl
@[simp] theorem State.showLevels_badLine (s : State) : (State.showLevels s).badLine = s.badLine := (State.showLevels_within ..).badLine_eq rfl
@[simp] theorem State.showLevels_shadow (s : State) : (State.showLevels s).shadow = s.shadow := (State.showLevels_within ..).shadow_eq rfl
@[simp] theorem State.showLevels_wroDone (s : State) : (State.showLevels s).wroDone = s.wroDone := (State.showLevels_within ..).wroDone_eq rfl
@[simp] theorem State.showLevels_raw (s : State) : (State.showLevels s).raw = s.raw := (State.showLevels_within ..).raw_eq rfl
@[simp] theorem State.showLevels_free (s : State) : (State.showLevels s).free = s.free := (State.showLevels_within ..).free_eq rfl
@[simp] theorem State.showLevels_fuse (s : State) : (State.showLevels s).fuse = s.fuse := (State.showLevels_within ..).fuse_eq rfl
@[simp] theorem State.showLevels_trained (s : State) : (State.showLevels s).trained = s.trained := (State.showLevels_within ..).trained_eq rfl
@[simp] theorem State.showLevels_bootWait (s : State) : (State.showLevels s).bootWait = s.bootWait := (State.showLevels_within ..).bootWait_eq rfl
@[simp] theorem State.showLevels_tb (s : State) : (State.showLevels s).tb = s.tb := (State.showLevels_within ..).tb_eq rfl
@[simp] theorem State.showLevels_crl (s : State) : (State.showLevels s).crl = s.crl := (State.showLevels_within ..).crl_eq rfl
@[simp] theorem State.showLevels_evio (s : State) : (State.showLevels s).evio = s.evio := (State.showLevels_within ..).evio_eq rfl
@[simp] theorem State.showLevels_evf (s : State) : (State.showLevels s).evf = s.evf := (State.showLevels_within ..).evf_eq rfl
@[simp] theorem State.showLevels_raised (s : State) : (State.showLevels s).raised = s.raised := (State.showLevels_within ..).raised_eq rfl
@[simp] theorem State.showLevels_chan (s : State) : (State.showLevels s).chan = s.chan := (State.showLevels_within ..).chan_eq rfl
@[simp] theorem State.showLevels_tg (s : State) : (State.showLevels s).tg = s.tg := (State.showLevels_within ..).tg_eq rfl
@[simp] theorem State.showLevels_view (s : State) : (State.showLevels s).view = s.view := (State.showLevels_within ..).view_eq rfl
@[simp] theorem State.showLevels_link (s : State) : (State.showLevels s).link = s.link := (State.showLevels_within ..).link_eq rfl
@[simp] theorem State.showLevels_train (s : State) : (State.showLevels s).train = s.train := (State.showLevels_within ..).train_eq rfl
@[simp] theorem State.showLevels_joker (s : State) : (State.showLevels s).joker = s.joker := (State.showLevels_within ..).joker_eq rfl
@[simp] theorem State.showLevels_roWritten (s : State) : (State.showLevels s).roWritten = s.roWritten := (State.showLevels_within ..).roWritten_eq rfl
@[simp] theorem State.showLevels_jobA (s : State) : (State.showLevels s).jobA = s.jobA := (State.showLevels_within ..).jobA_eq rfl
@[simp] theorem State.showLevels_jobN (s : State) : (State.showLevels s).jobN = s.jobN := (State.showLevels_within ..).jobN_eq rfl
@[simp] theorem State.showLevels_valJob (s : State) : (State.showLevels s).valJob = s.valJob := (State.showLevels_within ..).valJob_eq rfl
@[simp] theorem State.showLevels_jobVals (s : State) : (State.showLevels s).jobVals = s.jobVals := (State.showLevels_within ..).jobVals_eq rfl
@[simp] theorem State.showLevels_intake (s : State) : (State.showLevels s).intake = s.intake := (State.showLevels_within ..).intake_eq rfl
@[simp] theorem State.showLevels_pipe (s : State) : (State.showLevels s).pipe = s.pipe := (State.showLevels_within ..).pipe_eq rfl
@[simp] theorem State.showLevels_tapBuf (s : State) : (State.showLevels s).tapBuf = s.tapBuf := (State.showLevels_within ..).tapBuf_eq rfl
@[simp] theorem State.showLevels_corr (s : State) : (State.showLevels s).corr = s.corr := (State.showLevels_within ..).corr_eq rfl
@[simp] theorem State.showLevels_stitch_ (s : State) : (State.showLevels s).stitch_ = s.stitch_ := (State.showLevels_within ..).stitch_eq rfl
@[simp] theorem State.showLevels_dot (s : State) : (State.showLevels s).dot = s.dot := (State.showLevels_within ..).dot_eq rfl
@[simp] theorem State.showLevels_winRes (s : State) : (State.showLevels s).winRes = s.winRes := (State.showLevels_within ..).winRes_eq rfl
@[simp] theorem State.showLevels_mst (s : State) : (State.showLevels s).mst = s.mst := (State.showLevels_within ..).mst_eq rfl
@[simp] theorem State.showLevels_predict (s : State) : (State.showLevels s).predict = s.predict := (State.showLevels_within ..).predict_eq rfl
@[simp] theorem State.showLevels_eng (s : State) : (State.showLevels s).eng = s.eng := (State.showLevels_within ..).eng_eq rfl
@[simp] theorem State.showLevels_resA (s : State) : (State.showLevels s).resA = s.resA := (State.showLevels_within ..).resA_eq rfl
@[simp] theorem State.showLevels_resN (s : State) : (State.showLevels s).resN = s.resN := (State.showLevels_within ..).resN_eq rfl
@[simp] theorem State.showLevels_acts (s : State) : (State.showLevels s).acts = s.acts := (State.showLevels_within ..).acts_eq rfl
@[simp] theorem State.showLevels_hits (s : State) : (State.showLevels s).hits = s.hits := (State.showLevels_within ..).hits_eq rfl
@[simp] theorem State.showLevels_net (s : State) : (State.showLevels s).net = s.net := (State.showLevels_within ..).net_eq rfl
@[simp] theorem State.showLevels_stream (s : State) : (State.showLevels s).stream = s.stream := (State.showLevels_within ..).stream_eq rfl
@[simp] theorem State.showLevels_dec (s : State) : (State.showLevels s).dec = s.dec := (State.showLevels_within ..).dec_eq rfl
@[simp] theorem State.showLevels_queue (s : State) : (State.showLevels s).queue = s.queue := (State.showLevels_within ..).queue_eq rfl
@[simp] theorem State.showLevels_levels (s : State) : (State.showLevels s).levels = s.levels := (State.showLevels_within ..).levels_eq rfl
@[simp] theorem State.showLevels_arb (s : State) : (State.showLevels s).arb = s.arb := (State.showLevels_within ..).arb_eq rfl
@[simp] theorem State.showLevels_qshadow (s : State) : (State.showLevels s).qshadow = s.qshadow := (State.showLevels_within ..).qshadow_eq rfl
@[simp] theorem State.showLevels_hqLo (s : State) : (State.showLevels s).hqLo = s.hqLo := (State.showLevels_within ..).hqLo_eq rfl
@[simp] theorem State.showLevels_dma (s : State) : (State.showLevels s).dma = s.dma := (State.showLevels_within ..).dma_eq rfl
@[simp] theorem State.showLevels_zip (s : State) : (State.showLevels s).zip = s.zip := (State.showLevels_within ..).zip_eq rfl
@[simp] theorem State.showLevels_twl (s : State) : (State.showLevels s).twl = s.twl := (State.showLevels_within ..).twl_eq rfl
@[simp] theorem State.showLevels_fifo (s : State) : (State.showLevels s).fifo = s.fifo := (State.showLevels_within ..).fifo_eq rfl
@[simp] theorem State.showLevels_mc (s : State) : (State.showLevels s).mc = s.mc := (State.showLevels_within ..).mc_eq rfl
@[simp] theorem State.showLevels_mcg (s : State) : (State.showLevels s).mcg = s.mcg := (State.showLevels_within ..).mcg_eq rfl
@[simp] theorem State.showLevels_hlth (s : State) : (State.showLevels s).hlth = s.hlth := (State.showLevels_within ..).hlth_eq rfl
@[simp] theorem State.showLevels_log (s : State) : (State.showLevels s).log = s.log := (State.showLevels_within ..).log_eq rfl
@[simp] theorem State.showLevels_logLatch (s : State) : (State.showLevels s).logLatch = s.logLatch := (State.showLevels_within ..).logLatch_eq rfl
@[simp] theorem State.showLevels_commits (s : State) : (State.showLevels s).commits = s.commits := (State.showLevels_within ..).commits_eq rfl
@[simp] theorem State.showLevels_cmtRec (s : State) : (State.showLevels s).cmtRec = s.cmtRec := (State.showLevels_within ..).cmtRec_eq rfl
@[simp] theorem State.showLevels_entered (s : State) : (State.showLevels s).entered = s.entered := (State.showLevels_within ..).entered_eq rfl
@[simp] theorem State.showLevels_lockAt (s : State) : (State.showLevels s).lockAt = s.lockAt := (State.showLevels_within ..).lockAt_eq rfl
@[simp] theorem State.showLevels_lockKey (s : State) : (State.showLevels s).lockKey = s.lockKey := (State.showLevels_within ..).lockKey_eq rfl
@[simp] theorem State.showLevels_revoking (s : State) : (State.showLevels s).revoking = s.revoking := (State.showLevels_within ..).revoking_eq rfl
@[simp] theorem State.showLevels_dead (s : State) : (State.showLevels s).dead = s.dead := (State.showLevels_within ..).dead_eq rfl
@[simp] theorem State.showLevels_chanOf (s : State) (c0 : Nat) : (State.showLevels s).chanOf c0 = s.chanOf c0 := (State.showLevels_within ..).chanOf c0 rfl
@[simp] theorem State.showLevels_tgOf (s : State) (c0 : Nat) : (State.showLevels s).tgOf c0 = s.tgOf c0 := (State.showLevels_within ..).tgOf c0 rfl
@[simp] theorem State.showLevels_view_ (s : State) (c0 : Nat) : (State.showLevels s).view_ c0 = s.view_ c0 := (State.showLevels_within ..).view_ c0 rfl
@[simp] theorem State.showLevels_link_ (s : State) (c0 : Nat) : (State.showLevels s).link_ c0 = s.link_ c0 := (State.showLevels_within ..).link_ c0 rfl
@[simp] theorem State.showLevels_train_ (s : State) (c0 d0 : Nat) : (State.showLevels s).train_ c0 d0 = s.train_ c0 d0 := (State.showLevels_within ..).train_ c0 d0 rfl
@[simp] theorem State.showLevels_jk (s : State) (c0 : Nat) : (State.showLevels s).jk c0 = s.jk c0 := (State.showLevels_within ..).jk c0 rfl
@[simp] theorem State.showLevels_q (s : State) (c0 : Nat) : (State.showLevels s).q c0 = s.q c0 := (State.showLevels_within ..).q c0 rfl
@[simp] theorem State.showLevels_mcOf (s : State) (c0 : Nat) : (State.showLevels s).mcOf c0 = s.mcOf c0 := (State.showLevels_within ..).mcOf c0 rfl
@[simp] theorem State.showLevels_engOf (s : State) (c0 : Nat) : (State.showLevels s).engOf c0 = s.engOf c0 := (State.showLevels_within ..).engOf c0 rfl
@[simp] theorem State.showLevels_intk (s : State) (c0 : Nat) : (State.showLevels s).intk c0 = s.intk c0 := (State.showLevels_within ..).intk c0 rfl
@[simp] theorem State.showLevels_pipe_ (s : State) (c0 : Nat) : (State.showLevels s).pipe_ c0 = s.pipe_ c0 := (State.showLevels_within ..).pipe_ c0 rfl
@[simp] theorem State.showLevels_corr_ (s : State) (c0 : Nat) : (State.showLevels s).corr_ c0 = s.corr_ c0 := (State.showLevels_within ..).corr_ c0 rfl
@[simp] theorem State.showLevels_sti (s : State) (c0 : Nat) : (State.showLevels s).sti c0 = s.sti c0 := (State.showLevels_within ..).sti c0 rfl
@[simp] theorem State.showLevels_sess (s : State) (c0 : Nat) : (State.showLevels s).sess c0 = s.sess c0 := (State.showLevels_within ..).sess c0 rfl
@[simp] theorem State.showLevels_str_ (s : State) (c0 : Nat) : (State.showLevels s).str_ c0 = s.str_ c0 := (State.showLevels_within ..).str_ c0 rfl
@[simp] theorem State.showLevels_twlOf (s : State) (c0 : Nat) : (State.showLevels s).twlOf c0 = s.twlOf c0 := (State.showLevels_within ..).twlOf c0 rfl
@[simp] theorem State.showLevels_ch (s : State) (c0 : Nat) : (State.showLevels s).ch c0 = s.ch c0 := (State.showLevels_within ..).ch c0 rfl
@[simp] theorem State.showLevels_mstV (s : State) (c0 : Nat) : (State.showLevels s).mstV c0 = s.mstV c0 := (State.showLevels_within ..).mstV c0 rfl
@[simp] theorem State.showLevels_calOf (s : State) (c0 : Nat) : (State.showLevels s).calOf c0 = s.calOf c0 := (State.showLevels_within ..).calOf c0 rfl
@[simp] theorem State.showLevels_fifoOf (s : State) (c0 : Nat) : (State.showLevels s).fifoOf c0 = s.fifoOf c0 := (State.showLevels_within ..).fifoOf c0 rfl
@[simp] theorem State.showLevels_pend (s : State) (c0 : Nat) : (State.showLevels s).pend c0 = s.pend c0 := (State.showLevels_within ..).pend c0 rfl
@[simp] theorem State.showLevels_rdShadow (s : State) (c0 d0 : Nat) : (State.showLevels s).rdShadow c0 d0 = s.rdShadow c0 d0 := (State.showLevels_within ..).rdShadow c0 d0 rfl
/-! State.logFrame -/

@[simp] theorem State.logFrame_shadow (s : State) (e : LogEntry) : (State.logFrame s e).shadow = s.shadow := (State.logFrame_within ..).shadow_eq rfl
@[simp] theorem State.logFrame_wroDone (s : State) (e : LogEntry) : (State.logFrame s e).wroDone = s.wroDone := (State.logFrame_within ..).wroDone_eq rfl
@[simp] theorem State.logFrame_raw (s : State) (e : LogEntry) : (State.logFrame s e).raw = s.raw := (State.logFrame_within ..).raw_eq rfl
@[simp] theorem State.logFrame_free (s : State) (e : LogEntry) : (State.logFrame s e).free = s.free := (State.logFrame_within ..).free_eq rfl
@[simp] theorem State.logFrame_fuse (s : State) (e : LogEntry) : (State.logFrame s e).fuse = s.fuse := (State.logFrame_within ..).fuse_eq rfl
@[simp] theorem State.logFrame_trained (s : State) (e : LogEntry) : (State.logFrame s e).trained = s.trained := (State.logFrame_within ..).trained_eq rfl
@[simp] theorem State.logFrame_bootWait (s : State) (e : LogEntry) : (State.logFrame s e).bootWait = s.bootWait := (State.logFrame_within ..).bootWait_eq rfl
@[simp] theorem State.logFrame_tb (s : State) (e : LogEntry) : (State.logFrame s e).tb = s.tb := (State.logFrame_within ..).tb_eq rfl
@[simp] theorem State.logFrame_crl (s : State) (e : LogEntry) : (State.logFrame s e).crl = s.crl := (State.logFrame_within ..).crl_eq rfl
@[simp] theorem State.logFrame_evio (s : State) (e : LogEntry) : (State.logFrame s e).evio = s.evio := (State.logFrame_within ..).evio_eq rfl
@[simp] theorem State.logFrame_evf (s : State) (e : LogEntry) : (State.logFrame s e).evf = s.evf := (State.logFrame_within ..).evf_eq rfl
@[simp] theorem State.logFrame_raised (s : State) (e : LogEntry) : (State.logFrame s e).raised = s.raised := (State.logFrame_within ..).raised_eq rfl
@[simp] theorem State.logFrame_chan (s : State) (e : LogEntry) : (State.logFrame s e).chan = s.chan := (State.logFrame_within ..).chan_eq rfl
@[simp] theorem State.logFrame_tg (s : State) (e : LogEntry) : (State.logFrame s e).tg = s.tg := (State.logFrame_within ..).tg_eq rfl
@[simp] theorem State.logFrame_view (s : State) (e : LogEntry) : (State.logFrame s e).view = s.view := (State.logFrame_within ..).view_eq rfl
@[simp] theorem State.logFrame_link (s : State) (e : LogEntry) : (State.logFrame s e).link = s.link := (State.logFrame_within ..).link_eq rfl
@[simp] theorem State.logFrame_train (s : State) (e : LogEntry) : (State.logFrame s e).train = s.train := (State.logFrame_within ..).train_eq rfl
@[simp] theorem State.logFrame_joker (s : State) (e : LogEntry) : (State.logFrame s e).joker = s.joker := (State.logFrame_within ..).joker_eq rfl
@[simp] theorem State.logFrame_roWritten (s : State) (e : LogEntry) : (State.logFrame s e).roWritten = s.roWritten := (State.logFrame_within ..).roWritten_eq rfl
@[simp] theorem State.logFrame_jobA (s : State) (e : LogEntry) : (State.logFrame s e).jobA = s.jobA := (State.logFrame_within ..).jobA_eq rfl
@[simp] theorem State.logFrame_jobN (s : State) (e : LogEntry) : (State.logFrame s e).jobN = s.jobN := (State.logFrame_within ..).jobN_eq rfl
@[simp] theorem State.logFrame_valJob (s : State) (e : LogEntry) : (State.logFrame s e).valJob = s.valJob := (State.logFrame_within ..).valJob_eq rfl
@[simp] theorem State.logFrame_jobVals (s : State) (e : LogEntry) : (State.logFrame s e).jobVals = s.jobVals := (State.logFrame_within ..).jobVals_eq rfl
@[simp] theorem State.logFrame_intake (s : State) (e : LogEntry) : (State.logFrame s e).intake = s.intake := (State.logFrame_within ..).intake_eq rfl
@[simp] theorem State.logFrame_pipe (s : State) (e : LogEntry) : (State.logFrame s e).pipe = s.pipe := (State.logFrame_within ..).pipe_eq rfl
@[simp] theorem State.logFrame_tapBuf (s : State) (e : LogEntry) : (State.logFrame s e).tapBuf = s.tapBuf := (State.logFrame_within ..).tapBuf_eq rfl
@[simp] theorem State.logFrame_corr (s : State) (e : LogEntry) : (State.logFrame s e).corr = s.corr := (State.logFrame_within ..).corr_eq rfl
@[simp] theorem State.logFrame_stitch_ (s : State) (e : LogEntry) : (State.logFrame s e).stitch_ = s.stitch_ := (State.logFrame_within ..).stitch_eq rfl
@[simp] theorem State.logFrame_dot (s : State) (e : LogEntry) : (State.logFrame s e).dot = s.dot := (State.logFrame_within ..).dot_eq rfl
@[simp] theorem State.logFrame_winRes (s : State) (e : LogEntry) : (State.logFrame s e).winRes = s.winRes := (State.logFrame_within ..).winRes_eq rfl
@[simp] theorem State.logFrame_mst (s : State) (e : LogEntry) : (State.logFrame s e).mst = s.mst := (State.logFrame_within ..).mst_eq rfl
@[simp] theorem State.logFrame_predict (s : State) (e : LogEntry) : (State.logFrame s e).predict = s.predict := (State.logFrame_within ..).predict_eq rfl
@[simp] theorem State.logFrame_eng (s : State) (e : LogEntry) : (State.logFrame s e).eng = s.eng := (State.logFrame_within ..).eng_eq rfl
@[simp] theorem State.logFrame_resA (s : State) (e : LogEntry) : (State.logFrame s e).resA = s.resA := (State.logFrame_within ..).resA_eq rfl
@[simp] theorem State.logFrame_resN (s : State) (e : LogEntry) : (State.logFrame s e).resN = s.resN := (State.logFrame_within ..).resN_eq rfl
@[simp] theorem State.logFrame_acts (s : State) (e : LogEntry) : (State.logFrame s e).acts = s.acts := (State.logFrame_within ..).acts_eq rfl
@[simp] theorem State.logFrame_hits (s : State) (e : LogEntry) : (State.logFrame s e).hits = s.hits := (State.logFrame_within ..).hits_eq rfl
@[simp] theorem State.logFrame_net (s : State) (e : LogEntry) : (State.logFrame s e).net = s.net := (State.logFrame_within ..).net_eq rfl
@[simp] theorem State.logFrame_stream (s : State) (e : LogEntry) : (State.logFrame s e).stream = s.stream := (State.logFrame_within ..).stream_eq rfl
@[simp] theorem State.logFrame_dec (s : State) (e : LogEntry) : (State.logFrame s e).dec = s.dec := (State.logFrame_within ..).dec_eq rfl
@[simp] theorem State.logFrame_dma (s : State) (e : LogEntry) : (State.logFrame s e).dma = s.dma := (State.logFrame_within ..).dma_eq rfl
@[simp] theorem State.logFrame_zip (s : State) (e : LogEntry) : (State.logFrame s e).zip = s.zip := (State.logFrame_within ..).zip_eq rfl
@[simp] theorem State.logFrame_twl (s : State) (e : LogEntry) : (State.logFrame s e).twl = s.twl := (State.logFrame_within ..).twl_eq rfl
@[simp] theorem State.logFrame_fifo (s : State) (e : LogEntry) : (State.logFrame s e).fifo = s.fifo := (State.logFrame_within ..).fifo_eq rfl
@[simp] theorem State.logFrame_mc (s : State) (e : LogEntry) : (State.logFrame s e).mc = s.mc := (State.logFrame_within ..).mc_eq rfl
@[simp] theorem State.logFrame_mcg (s : State) (e : LogEntry) : (State.logFrame s e).mcg = s.mcg := (State.logFrame_within ..).mcg_eq rfl
@[simp] theorem State.logFrame_hlth (s : State) (e : LogEntry) : (State.logFrame s e).hlth = s.hlth := (State.logFrame_within ..).hlth_eq rfl
@[simp] theorem State.logFrame_log (s : State) (e : LogEntry) : (State.logFrame s e).log = s.log := (State.logFrame_within ..).log_eq rfl
@[simp] theorem State.logFrame_logLatch (s : State) (e : LogEntry) : (State.logFrame s e).logLatch = s.logLatch := (State.logFrame_within ..).logLatch_eq rfl
@[simp] theorem State.logFrame_commits (s : State) (e : LogEntry) : (State.logFrame s e).commits = s.commits := (State.logFrame_within ..).commits_eq rfl
@[simp] theorem State.logFrame_cmtRec (s : State) (e : LogEntry) : (State.logFrame s e).cmtRec = s.cmtRec := (State.logFrame_within ..).cmtRec_eq rfl
@[simp] theorem State.logFrame_entered (s : State) (e : LogEntry) : (State.logFrame s e).entered = s.entered := (State.logFrame_within ..).entered_eq rfl
@[simp] theorem State.logFrame_lockAt (s : State) (e : LogEntry) : (State.logFrame s e).lockAt = s.lockAt := (State.logFrame_within ..).lockAt_eq rfl
@[simp] theorem State.logFrame_lockKey (s : State) (e : LogEntry) : (State.logFrame s e).lockKey = s.lockKey := (State.logFrame_within ..).lockKey_eq rfl
@[simp] theorem State.logFrame_revoking (s : State) (e : LogEntry) : (State.logFrame s e).revoking = s.revoking := (State.logFrame_within ..).revoking_eq rfl
@[simp] theorem State.logFrame_dead (s : State) (e : LogEntry) : (State.logFrame s e).dead = s.dead := (State.logFrame_within ..).dead_eq rfl
@[simp] theorem State.logFrame_chanOf (s : State) (e : LogEntry) (c0 : Nat) : (State.logFrame s e).chanOf c0 = s.chanOf c0 := (State.logFrame_within ..).chanOf c0 rfl
@[simp] theorem State.logFrame_tgOf (s : State) (e : LogEntry) (c0 : Nat) : (State.logFrame s e).tgOf c0 = s.tgOf c0 := (State.logFrame_within ..).tgOf c0 rfl
@[simp] theorem State.logFrame_view_ (s : State) (e : LogEntry) (c0 : Nat) : (State.logFrame s e).view_ c0 = s.view_ c0 := (State.logFrame_within ..).view_ c0 rfl
@[simp] theorem State.logFrame_link_ (s : State) (e : LogEntry) (c0 : Nat) : (State.logFrame s e).link_ c0 = s.link_ c0 := (State.logFrame_within ..).link_ c0 rfl
@[simp] theorem State.logFrame_train_ (s : State) (e : LogEntry) (c0 d0 : Nat) : (State.logFrame s e).train_ c0 d0 = s.train_ c0 d0 := (State.logFrame_within ..).train_ c0 d0 rfl
@[simp] theorem State.logFrame_jk (s : State) (e : LogEntry) (c0 : Nat) : (State.logFrame s e).jk c0 = s.jk c0 := (State.logFrame_within ..).jk c0 rfl
@[simp] theorem State.logFrame_mcOf (s : State) (e : LogEntry) (c0 : Nat) : (State.logFrame s e).mcOf c0 = s.mcOf c0 := (State.logFrame_within ..).mcOf c0 rfl
@[simp] theorem State.logFrame_engOf (s : State) (e : LogEntry) (c0 : Nat) : (State.logFrame s e).engOf c0 = s.engOf c0 := (State.logFrame_within ..).engOf c0 rfl
@[simp] theorem State.logFrame_intk (s : State) (e : LogEntry) (c0 : Nat) : (State.logFrame s e).intk c0 = s.intk c0 := (State.logFrame_within ..).intk c0 rfl
@[simp] theorem State.logFrame_pipe_ (s : State) (e : LogEntry) (c0 : Nat) : (State.logFrame s e).pipe_ c0 = s.pipe_ c0 := (State.logFrame_within ..).pipe_ c0 rfl
@[simp] theorem State.logFrame_corr_ (s : State) (e : LogEntry) (c0 : Nat) : (State.logFrame s e).corr_ c0 = s.corr_ c0 := (State.logFrame_within ..).corr_ c0 rfl
@[simp] theorem State.logFrame_sti (s : State) (e : LogEntry) (c0 : Nat) : (State.logFrame s e).sti c0 = s.sti c0 := (State.logFrame_within ..).sti c0 rfl
@[simp] theorem State.logFrame_sess (s : State) (e : LogEntry) (c0 : Nat) : (State.logFrame s e).sess c0 = s.sess c0 := (State.logFrame_within ..).sess c0 rfl
@[simp] theorem State.logFrame_str_ (s : State) (e : LogEntry) (c0 : Nat) : (State.logFrame s e).str_ c0 = s.str_ c0 := (State.logFrame_within ..).str_ c0 rfl
@[simp] theorem State.logFrame_twlOf (s : State) (e : LogEntry) (c0 : Nat) : (State.logFrame s e).twlOf c0 = s.twlOf c0 := (State.logFrame_within ..).twlOf c0 rfl
@[simp] theorem State.logFrame_ch (s : State) (e : LogEntry) (c0 : Nat) : (State.logFrame s e).ch c0 = s.ch c0 := (State.logFrame_within ..).ch c0 rfl
@[simp] theorem State.logFrame_mstV (s : State) (e : LogEntry) (c0 : Nat) : (State.logFrame s e).mstV c0 = s.mstV c0 := (State.logFrame_within ..).mstV c0 rfl
@[simp] theorem State.logFrame_calOf (s : State) (e : LogEntry) (c0 : Nat) : (State.logFrame s e).calOf c0 = s.calOf c0 := (State.logFrame_within ..).calOf c0 rfl
@[simp] theorem State.logFrame_fifoOf (s : State) (e : LogEntry) (c0 : Nat) : (State.logFrame s e).fifoOf c0 = s.fifoOf c0 := (State.logFrame_within ..).fifoOf c0 rfl
@[simp] theorem State.logFrame_pend (s : State) (e : LogEntry) (c0 : Nat) : (State.logFrame s e).pend c0 = s.pend c0 := (State.logFrame_within ..).pend c0 rfl
@[simp] theorem State.logFrame_rdShadow (s : State) (e : LogEntry) (c0 d0 : Nat) : (State.logFrame s e).rdShadow c0 d0 = s.rdShadow c0 d0 := (State.logFrame_within ..).rdShadow c0 d0 rfl
/-! State.logOver -/

@[simp] theorem State.logOver_mem (s : State) : (State.logOver s).mem = s.mem := (State.logOver_within ..).mem_eq rfl
@[simp] theorem State.logOver_blank (s : State) : (State.logOver s).blank = s.blank := (State.logOver_within ..).blank_eq rfl
@[simp] theorem State.logOver_badLine (s : State) : (State.logOver s).badLine = s.badLine := (State.logOver_within ..).badLine_eq rfl
@[simp] theorem State.logOver_shadow (s : State) : (State.logOver s).shadow = s.shadow := (State.logOver_within ..).shadow_eq rfl
@[simp] theorem State.logOver_wroDone (s : State) : (State.logOver s).wroDone = s.wroDone := (State.logOver_within ..).wroDone_eq rfl
@[simp] theorem State.logOver_raw (s : State) : (State.logOver s).raw = s.raw := (State.logOver_within ..).raw_eq rfl
@[simp] theorem State.logOver_free (s : State) : (State.logOver s).free = s.free := (State.logOver_within ..).free_eq rfl
@[simp] theorem State.logOver_fuse (s : State) : (State.logOver s).fuse = s.fuse := (State.logOver_within ..).fuse_eq rfl
@[simp] theorem State.logOver_trained (s : State) : (State.logOver s).trained = s.trained := (State.logOver_within ..).trained_eq rfl
@[simp] theorem State.logOver_bootWait (s : State) : (State.logOver s).bootWait = s.bootWait := (State.logOver_within ..).bootWait_eq rfl
@[simp] theorem State.logOver_tb (s : State) : (State.logOver s).tb = s.tb := (State.logOver_within ..).tb_eq rfl
@[simp] theorem State.logOver_crl (s : State) : (State.logOver s).crl = s.crl := (State.logOver_within ..).crl_eq rfl
@[simp] theorem State.logOver_evio (s : State) : (State.logOver s).evio = s.evio := (State.logOver_within ..).evio_eq rfl
@[simp] theorem State.logOver_evf (s : State) : (State.logOver s).evf = s.evf := (State.logOver_within ..).evf_eq rfl
@[simp] theorem State.logOver_raised (s : State) : (State.logOver s).raised = s.raised := (State.logOver_within ..).raised_eq rfl
@[simp] theorem State.logOver_chan (s : State) : (State.logOver s).chan = s.chan := (State.logOver_within ..).chan_eq rfl
@[simp] theorem State.logOver_tg (s : State) : (State.logOver s).tg = s.tg := (State.logOver_within ..).tg_eq rfl
@[simp] theorem State.logOver_view (s : State) : (State.logOver s).view = s.view := (State.logOver_within ..).view_eq rfl
@[simp] theorem State.logOver_link (s : State) : (State.logOver s).link = s.link := (State.logOver_within ..).link_eq rfl
@[simp] theorem State.logOver_train (s : State) : (State.logOver s).train = s.train := (State.logOver_within ..).train_eq rfl
@[simp] theorem State.logOver_joker (s : State) : (State.logOver s).joker = s.joker := (State.logOver_within ..).joker_eq rfl
@[simp] theorem State.logOver_roWritten (s : State) : (State.logOver s).roWritten = s.roWritten := (State.logOver_within ..).roWritten_eq rfl
@[simp] theorem State.logOver_jobA (s : State) : (State.logOver s).jobA = s.jobA := (State.logOver_within ..).jobA_eq rfl
@[simp] theorem State.logOver_jobN (s : State) : (State.logOver s).jobN = s.jobN := (State.logOver_within ..).jobN_eq rfl
@[simp] theorem State.logOver_valJob (s : State) : (State.logOver s).valJob = s.valJob := (State.logOver_within ..).valJob_eq rfl
@[simp] theorem State.logOver_jobVals (s : State) : (State.logOver s).jobVals = s.jobVals := (State.logOver_within ..).jobVals_eq rfl
@[simp] theorem State.logOver_intake (s : State) : (State.logOver s).intake = s.intake := (State.logOver_within ..).intake_eq rfl
@[simp] theorem State.logOver_pipe (s : State) : (State.logOver s).pipe = s.pipe := (State.logOver_within ..).pipe_eq rfl
@[simp] theorem State.logOver_tapBuf (s : State) : (State.logOver s).tapBuf = s.tapBuf := (State.logOver_within ..).tapBuf_eq rfl
@[simp] theorem State.logOver_corr (s : State) : (State.logOver s).corr = s.corr := (State.logOver_within ..).corr_eq rfl
@[simp] theorem State.logOver_stitch_ (s : State) : (State.logOver s).stitch_ = s.stitch_ := (State.logOver_within ..).stitch_eq rfl
@[simp] theorem State.logOver_dot (s : State) : (State.logOver s).dot = s.dot := (State.logOver_within ..).dot_eq rfl
@[simp] theorem State.logOver_winRes (s : State) : (State.logOver s).winRes = s.winRes := (State.logOver_within ..).winRes_eq rfl
@[simp] theorem State.logOver_mst (s : State) : (State.logOver s).mst = s.mst := (State.logOver_within ..).mst_eq rfl
@[simp] theorem State.logOver_predict (s : State) : (State.logOver s).predict = s.predict := (State.logOver_within ..).predict_eq rfl
@[simp] theorem State.logOver_eng (s : State) : (State.logOver s).eng = s.eng := (State.logOver_within ..).eng_eq rfl
@[simp] theorem State.logOver_resA (s : State) : (State.logOver s).resA = s.resA := (State.logOver_within ..).resA_eq rfl
@[simp] theorem State.logOver_resN (s : State) : (State.logOver s).resN = s.resN := (State.logOver_within ..).resN_eq rfl
@[simp] theorem State.logOver_acts (s : State) : (State.logOver s).acts = s.acts := (State.logOver_within ..).acts_eq rfl
@[simp] theorem State.logOver_hits (s : State) : (State.logOver s).hits = s.hits := (State.logOver_within ..).hits_eq rfl
@[simp] theorem State.logOver_net (s : State) : (State.logOver s).net = s.net := (State.logOver_within ..).net_eq rfl
@[simp] theorem State.logOver_stream (s : State) : (State.logOver s).stream = s.stream := (State.logOver_within ..).stream_eq rfl
@[simp] theorem State.logOver_dec (s : State) : (State.logOver s).dec = s.dec := (State.logOver_within ..).dec_eq rfl
@[simp] theorem State.logOver_queue (s : State) : (State.logOver s).queue = s.queue := (State.logOver_within ..).queue_eq rfl
@[simp] theorem State.logOver_levels (s : State) : (State.logOver s).levels = s.levels := (State.logOver_within ..).levels_eq rfl
@[simp] theorem State.logOver_arb (s : State) : (State.logOver s).arb = s.arb := (State.logOver_within ..).arb_eq rfl
@[simp] theorem State.logOver_qshadow (s : State) : (State.logOver s).qshadow = s.qshadow := (State.logOver_within ..).qshadow_eq rfl
@[simp] theorem State.logOver_hqLo (s : State) : (State.logOver s).hqLo = s.hqLo := (State.logOver_within ..).hqLo_eq rfl
@[simp] theorem State.logOver_dma (s : State) : (State.logOver s).dma = s.dma := (State.logOver_within ..).dma_eq rfl
@[simp] theorem State.logOver_zip (s : State) : (State.logOver s).zip = s.zip := (State.logOver_within ..).zip_eq rfl
@[simp] theorem State.logOver_twl (s : State) : (State.logOver s).twl = s.twl := (State.logOver_within ..).twl_eq rfl
@[simp] theorem State.logOver_fifo (s : State) : (State.logOver s).fifo = s.fifo := (State.logOver_within ..).fifo_eq rfl
@[simp] theorem State.logOver_mc (s : State) : (State.logOver s).mc = s.mc := (State.logOver_within ..).mc_eq rfl
@[simp] theorem State.logOver_mcg (s : State) : (State.logOver s).mcg = s.mcg := (State.logOver_within ..).mcg_eq rfl
@[simp] theorem State.logOver_hlth (s : State) : (State.logOver s).hlth = s.hlth := (State.logOver_within ..).hlth_eq rfl
@[simp] theorem State.logOver_log (s : State) : (State.logOver s).log = s.log := (State.logOver_within ..).log_eq rfl
@[simp] theorem State.logOver_logLatch (s : State) : (State.logOver s).logLatch = s.logLatch := (State.logOver_within ..).logLatch_eq rfl
@[simp] theorem State.logOver_commits (s : State) : (State.logOver s).commits = s.commits := (State.logOver_within ..).commits_eq rfl
@[simp] theorem State.logOver_cmtRec (s : State) : (State.logOver s).cmtRec = s.cmtRec := (State.logOver_within ..).cmtRec_eq rfl
@[simp] theorem State.logOver_entered (s : State) : (State.logOver s).entered = s.entered := (State.logOver_within ..).entered_eq rfl
@[simp] theorem State.logOver_lockAt (s : State) : (State.logOver s).lockAt = s.lockAt := (State.logOver_within ..).lockAt_eq rfl
@[simp] theorem State.logOver_lockKey (s : State) : (State.logOver s).lockKey = s.lockKey := (State.logOver_within ..).lockKey_eq rfl
@[simp] theorem State.logOver_revoking (s : State) : (State.logOver s).revoking = s.revoking := (State.logOver_within ..).revoking_eq rfl
@[simp] theorem State.logOver_dead (s : State) : (State.logOver s).dead = s.dead := (State.logOver_within ..).dead_eq rfl
@[simp] theorem State.logOver_chanOf (s : State) (c0 : Nat) : (State.logOver s).chanOf c0 = s.chanOf c0 := (State.logOver_within ..).chanOf c0 rfl
@[simp] theorem State.logOver_tgOf (s : State) (c0 : Nat) : (State.logOver s).tgOf c0 = s.tgOf c0 := (State.logOver_within ..).tgOf c0 rfl
@[simp] theorem State.logOver_view_ (s : State) (c0 : Nat) : (State.logOver s).view_ c0 = s.view_ c0 := (State.logOver_within ..).view_ c0 rfl
@[simp] theorem State.logOver_link_ (s : State) (c0 : Nat) : (State.logOver s).link_ c0 = s.link_ c0 := (State.logOver_within ..).link_ c0 rfl
@[simp] theorem State.logOver_train_ (s : State) (c0 d0 : Nat) : (State.logOver s).train_ c0 d0 = s.train_ c0 d0 := (State.logOver_within ..).train_ c0 d0 rfl
@[simp] theorem State.logOver_jk (s : State) (c0 : Nat) : (State.logOver s).jk c0 = s.jk c0 := (State.logOver_within ..).jk c0 rfl
@[simp] theorem State.logOver_q (s : State) (c0 : Nat) : (State.logOver s).q c0 = s.q c0 := (State.logOver_within ..).q c0 rfl
@[simp] theorem State.logOver_mcOf (s : State) (c0 : Nat) : (State.logOver s).mcOf c0 = s.mcOf c0 := (State.logOver_within ..).mcOf c0 rfl
@[simp] theorem State.logOver_engOf (s : State) (c0 : Nat) : (State.logOver s).engOf c0 = s.engOf c0 := (State.logOver_within ..).engOf c0 rfl
@[simp] theorem State.logOver_intk (s : State) (c0 : Nat) : (State.logOver s).intk c0 = s.intk c0 := (State.logOver_within ..).intk c0 rfl
@[simp] theorem State.logOver_pipe_ (s : State) (c0 : Nat) : (State.logOver s).pipe_ c0 = s.pipe_ c0 := (State.logOver_within ..).pipe_ c0 rfl
@[simp] theorem State.logOver_corr_ (s : State) (c0 : Nat) : (State.logOver s).corr_ c0 = s.corr_ c0 := (State.logOver_within ..).corr_ c0 rfl
@[simp] theorem State.logOver_sti (s : State) (c0 : Nat) : (State.logOver s).sti c0 = s.sti c0 := (State.logOver_within ..).sti c0 rfl
@[simp] theorem State.logOver_sess (s : State) (c0 : Nat) : (State.logOver s).sess c0 = s.sess c0 := (State.logOver_within ..).sess c0 rfl
@[simp] theorem State.logOver_str_ (s : State) (c0 : Nat) : (State.logOver s).str_ c0 = s.str_ c0 := (State.logOver_within ..).str_ c0 rfl
@[simp] theorem State.logOver_twlOf (s : State) (c0 : Nat) : (State.logOver s).twlOf c0 = s.twlOf c0 := (State.logOver_within ..).twlOf c0 rfl
@[simp] theorem State.logOver_ch (s : State) (c0 : Nat) : (State.logOver s).ch c0 = s.ch c0 := (State.logOver_within ..).ch c0 rfl
@[simp] theorem State.logOver_mstV (s : State) (c0 : Nat) : (State.logOver s).mstV c0 = s.mstV c0 := (State.logOver_within ..).mstV c0 rfl
@[simp] theorem State.logOver_calOf (s : State) (c0 : Nat) : (State.logOver s).calOf c0 = s.calOf c0 := (State.logOver_within ..).calOf c0 rfl
@[simp] theorem State.logOver_fifoOf (s : State) (c0 : Nat) : (State.logOver s).fifoOf c0 = s.fifoOf c0 := (State.logOver_within ..).fifoOf c0 rfl
@[simp] theorem State.logOver_pend (s : State) (c0 : Nat) : (State.logOver s).pend c0 = s.pend c0 := (State.logOver_within ..).pend c0 rfl
@[simp] theorem State.logOver_rdShadow (s : State) (c0 d0 : Nat) : (State.logOver s).rdShadow c0 d0 = s.rdShadow c0 d0 := (State.logOver_within ..).rdShadow c0 d0 rfl
/-! State.putEntry -/

@[simp] theorem State.putEntry_shadow (s : State) (e : LogEntry) : (State.putEntry s e).shadow = s.shadow := (State.putEntry_within ..).shadow_eq rfl
@[simp] theorem State.putEntry_wroDone (s : State) (e : LogEntry) : (State.putEntry s e).wroDone = s.wroDone := (State.putEntry_within ..).wroDone_eq rfl
@[simp] theorem State.putEntry_raw (s : State) (e : LogEntry) : (State.putEntry s e).raw = s.raw := (State.putEntry_within ..).raw_eq rfl
@[simp] theorem State.putEntry_free (s : State) (e : LogEntry) : (State.putEntry s e).free = s.free := (State.putEntry_within ..).free_eq rfl
@[simp] theorem State.putEntry_fuse (s : State) (e : LogEntry) : (State.putEntry s e).fuse = s.fuse := (State.putEntry_within ..).fuse_eq rfl
@[simp] theorem State.putEntry_trained (s : State) (e : LogEntry) : (State.putEntry s e).trained = s.trained := (State.putEntry_within ..).trained_eq rfl
@[simp] theorem State.putEntry_bootWait (s : State) (e : LogEntry) : (State.putEntry s e).bootWait = s.bootWait := (State.putEntry_within ..).bootWait_eq rfl
@[simp] theorem State.putEntry_tb (s : State) (e : LogEntry) : (State.putEntry s e).tb = s.tb := (State.putEntry_within ..).tb_eq rfl
@[simp] theorem State.putEntry_crl (s : State) (e : LogEntry) : (State.putEntry s e).crl = s.crl := (State.putEntry_within ..).crl_eq rfl
@[simp] theorem State.putEntry_evio (s : State) (e : LogEntry) : (State.putEntry s e).evio = s.evio := (State.putEntry_within ..).evio_eq rfl
@[simp] theorem State.putEntry_evf (s : State) (e : LogEntry) : (State.putEntry s e).evf = s.evf := (State.putEntry_within ..).evf_eq rfl
@[simp] theorem State.putEntry_raised (s : State) (e : LogEntry) : (State.putEntry s e).raised = s.raised := (State.putEntry_within ..).raised_eq rfl
@[simp] theorem State.putEntry_chan (s : State) (e : LogEntry) : (State.putEntry s e).chan = s.chan := (State.putEntry_within ..).chan_eq rfl
@[simp] theorem State.putEntry_tg (s : State) (e : LogEntry) : (State.putEntry s e).tg = s.tg := (State.putEntry_within ..).tg_eq rfl
@[simp] theorem State.putEntry_view (s : State) (e : LogEntry) : (State.putEntry s e).view = s.view := (State.putEntry_within ..).view_eq rfl
@[simp] theorem State.putEntry_link (s : State) (e : LogEntry) : (State.putEntry s e).link = s.link := (State.putEntry_within ..).link_eq rfl
@[simp] theorem State.putEntry_train (s : State) (e : LogEntry) : (State.putEntry s e).train = s.train := (State.putEntry_within ..).train_eq rfl
@[simp] theorem State.putEntry_joker (s : State) (e : LogEntry) : (State.putEntry s e).joker = s.joker := (State.putEntry_within ..).joker_eq rfl
@[simp] theorem State.putEntry_roWritten (s : State) (e : LogEntry) : (State.putEntry s e).roWritten = s.roWritten := (State.putEntry_within ..).roWritten_eq rfl
@[simp] theorem State.putEntry_jobA (s : State) (e : LogEntry) : (State.putEntry s e).jobA = s.jobA := (State.putEntry_within ..).jobA_eq rfl
@[simp] theorem State.putEntry_jobN (s : State) (e : LogEntry) : (State.putEntry s e).jobN = s.jobN := (State.putEntry_within ..).jobN_eq rfl
@[simp] theorem State.putEntry_valJob (s : State) (e : LogEntry) : (State.putEntry s e).valJob = s.valJob := (State.putEntry_within ..).valJob_eq rfl
@[simp] theorem State.putEntry_jobVals (s : State) (e : LogEntry) : (State.putEntry s e).jobVals = s.jobVals := (State.putEntry_within ..).jobVals_eq rfl
@[simp] theorem State.putEntry_intake (s : State) (e : LogEntry) : (State.putEntry s e).intake = s.intake := (State.putEntry_within ..).intake_eq rfl
@[simp] theorem State.putEntry_pipe (s : State) (e : LogEntry) : (State.putEntry s e).pipe = s.pipe := (State.putEntry_within ..).pipe_eq rfl
@[simp] theorem State.putEntry_tapBuf (s : State) (e : LogEntry) : (State.putEntry s e).tapBuf = s.tapBuf := (State.putEntry_within ..).tapBuf_eq rfl
@[simp] theorem State.putEntry_corr (s : State) (e : LogEntry) : (State.putEntry s e).corr = s.corr := (State.putEntry_within ..).corr_eq rfl
@[simp] theorem State.putEntry_stitch_ (s : State) (e : LogEntry) : (State.putEntry s e).stitch_ = s.stitch_ := (State.putEntry_within ..).stitch_eq rfl
@[simp] theorem State.putEntry_dot (s : State) (e : LogEntry) : (State.putEntry s e).dot = s.dot := (State.putEntry_within ..).dot_eq rfl
@[simp] theorem State.putEntry_winRes (s : State) (e : LogEntry) : (State.putEntry s e).winRes = s.winRes := (State.putEntry_within ..).winRes_eq rfl
@[simp] theorem State.putEntry_mst (s : State) (e : LogEntry) : (State.putEntry s e).mst = s.mst := (State.putEntry_within ..).mst_eq rfl
@[simp] theorem State.putEntry_predict (s : State) (e : LogEntry) : (State.putEntry s e).predict = s.predict := (State.putEntry_within ..).predict_eq rfl
@[simp] theorem State.putEntry_eng (s : State) (e : LogEntry) : (State.putEntry s e).eng = s.eng := (State.putEntry_within ..).eng_eq rfl
@[simp] theorem State.putEntry_resA (s : State) (e : LogEntry) : (State.putEntry s e).resA = s.resA := (State.putEntry_within ..).resA_eq rfl
@[simp] theorem State.putEntry_resN (s : State) (e : LogEntry) : (State.putEntry s e).resN = s.resN := (State.putEntry_within ..).resN_eq rfl
@[simp] theorem State.putEntry_acts (s : State) (e : LogEntry) : (State.putEntry s e).acts = s.acts := (State.putEntry_within ..).acts_eq rfl
@[simp] theorem State.putEntry_hits (s : State) (e : LogEntry) : (State.putEntry s e).hits = s.hits := (State.putEntry_within ..).hits_eq rfl
@[simp] theorem State.putEntry_net (s : State) (e : LogEntry) : (State.putEntry s e).net = s.net := (State.putEntry_within ..).net_eq rfl
@[simp] theorem State.putEntry_stream (s : State) (e : LogEntry) : (State.putEntry s e).stream = s.stream := (State.putEntry_within ..).stream_eq rfl
@[simp] theorem State.putEntry_dec (s : State) (e : LogEntry) : (State.putEntry s e).dec = s.dec := (State.putEntry_within ..).dec_eq rfl
@[simp] theorem State.putEntry_dma (s : State) (e : LogEntry) : (State.putEntry s e).dma = s.dma := (State.putEntry_within ..).dma_eq rfl
@[simp] theorem State.putEntry_zip (s : State) (e : LogEntry) : (State.putEntry s e).zip = s.zip := (State.putEntry_within ..).zip_eq rfl
@[simp] theorem State.putEntry_twl (s : State) (e : LogEntry) : (State.putEntry s e).twl = s.twl := (State.putEntry_within ..).twl_eq rfl
@[simp] theorem State.putEntry_fifo (s : State) (e : LogEntry) : (State.putEntry s e).fifo = s.fifo := (State.putEntry_within ..).fifo_eq rfl
@[simp] theorem State.putEntry_mc (s : State) (e : LogEntry) : (State.putEntry s e).mc = s.mc := (State.putEntry_within ..).mc_eq rfl
@[simp] theorem State.putEntry_mcg (s : State) (e : LogEntry) : (State.putEntry s e).mcg = s.mcg := (State.putEntry_within ..).mcg_eq rfl
@[simp] theorem State.putEntry_hlth (s : State) (e : LogEntry) : (State.putEntry s e).hlth = s.hlth := (State.putEntry_within ..).hlth_eq rfl
@[simp] theorem State.putEntry_commits (s : State) (e : LogEntry) : (State.putEntry s e).commits = s.commits := (State.putEntry_within ..).commits_eq rfl
@[simp] theorem State.putEntry_cmtRec (s : State) (e : LogEntry) : (State.putEntry s e).cmtRec = s.cmtRec := (State.putEntry_within ..).cmtRec_eq rfl
@[simp] theorem State.putEntry_entered (s : State) (e : LogEntry) : (State.putEntry s e).entered = s.entered := (State.putEntry_within ..).entered_eq rfl
@[simp] theorem State.putEntry_lockAt (s : State) (e : LogEntry) : (State.putEntry s e).lockAt = s.lockAt := (State.putEntry_within ..).lockAt_eq rfl
@[simp] theorem State.putEntry_lockKey (s : State) (e : LogEntry) : (State.putEntry s e).lockKey = s.lockKey := (State.putEntry_within ..).lockKey_eq rfl
@[simp] theorem State.putEntry_revoking (s : State) (e : LogEntry) : (State.putEntry s e).revoking = s.revoking := (State.putEntry_within ..).revoking_eq rfl
@[simp] theorem State.putEntry_dead (s : State) (e : LogEntry) : (State.putEntry s e).dead = s.dead := (State.putEntry_within ..).dead_eq rfl
@[simp] theorem State.putEntry_chanOf (s : State) (e : LogEntry) (c0 : Nat) : (State.putEntry s e).chanOf c0 = s.chanOf c0 := (State.putEntry_within ..).chanOf c0 rfl
@[simp] theorem State.putEntry_tgOf (s : State) (e : LogEntry) (c0 : Nat) : (State.putEntry s e).tgOf c0 = s.tgOf c0 := (State.putEntry_within ..).tgOf c0 rfl
@[simp] theorem State.putEntry_view_ (s : State) (e : LogEntry) (c0 : Nat) : (State.putEntry s e).view_ c0 = s.view_ c0 := (State.putEntry_within ..).view_ c0 rfl
@[simp] theorem State.putEntry_link_ (s : State) (e : LogEntry) (c0 : Nat) : (State.putEntry s e).link_ c0 = s.link_ c0 := (State.putEntry_within ..).link_ c0 rfl
@[simp] theorem State.putEntry_train_ (s : State) (e : LogEntry) (c0 d0 : Nat) : (State.putEntry s e).train_ c0 d0 = s.train_ c0 d0 := (State.putEntry_within ..).train_ c0 d0 rfl
@[simp] theorem State.putEntry_jk (s : State) (e : LogEntry) (c0 : Nat) : (State.putEntry s e).jk c0 = s.jk c0 := (State.putEntry_within ..).jk c0 rfl
@[simp] theorem State.putEntry_mcOf (s : State) (e : LogEntry) (c0 : Nat) : (State.putEntry s e).mcOf c0 = s.mcOf c0 := (State.putEntry_within ..).mcOf c0 rfl
@[simp] theorem State.putEntry_engOf (s : State) (e : LogEntry) (c0 : Nat) : (State.putEntry s e).engOf c0 = s.engOf c0 := (State.putEntry_within ..).engOf c0 rfl
@[simp] theorem State.putEntry_intk (s : State) (e : LogEntry) (c0 : Nat) : (State.putEntry s e).intk c0 = s.intk c0 := (State.putEntry_within ..).intk c0 rfl
@[simp] theorem State.putEntry_pipe_ (s : State) (e : LogEntry) (c0 : Nat) : (State.putEntry s e).pipe_ c0 = s.pipe_ c0 := (State.putEntry_within ..).pipe_ c0 rfl
@[simp] theorem State.putEntry_corr_ (s : State) (e : LogEntry) (c0 : Nat) : (State.putEntry s e).corr_ c0 = s.corr_ c0 := (State.putEntry_within ..).corr_ c0 rfl
@[simp] theorem State.putEntry_sti (s : State) (e : LogEntry) (c0 : Nat) : (State.putEntry s e).sti c0 = s.sti c0 := (State.putEntry_within ..).sti c0 rfl
@[simp] theorem State.putEntry_sess (s : State) (e : LogEntry) (c0 : Nat) : (State.putEntry s e).sess c0 = s.sess c0 := (State.putEntry_within ..).sess c0 rfl
@[simp] theorem State.putEntry_str_ (s : State) (e : LogEntry) (c0 : Nat) : (State.putEntry s e).str_ c0 = s.str_ c0 := (State.putEntry_within ..).str_ c0 rfl
@[simp] theorem State.putEntry_twlOf (s : State) (e : LogEntry) (c0 : Nat) : (State.putEntry s e).twlOf c0 = s.twlOf c0 := (State.putEntry_within ..).twlOf c0 rfl
@[simp] theorem State.putEntry_ch (s : State) (e : LogEntry) (c0 : Nat) : (State.putEntry s e).ch c0 = s.ch c0 := (State.putEntry_within ..).ch c0 rfl
@[simp] theorem State.putEntry_mstV (s : State) (e : LogEntry) (c0 : Nat) : (State.putEntry s e).mstV c0 = s.mstV c0 := (State.putEntry_within ..).mstV c0 rfl
@[simp] theorem State.putEntry_calOf (s : State) (e : LogEntry) (c0 : Nat) : (State.putEntry s e).calOf c0 = s.calOf c0 := (State.putEntry_within ..).calOf c0 rfl
@[simp] theorem State.putEntry_fifoOf (s : State) (e : LogEntry) (c0 : Nat) : (State.putEntry s e).fifoOf c0 = s.fifoOf c0 := (State.putEntry_within ..).fifoOf c0 rfl
@[simp] theorem State.putEntry_pend (s : State) (e : LogEntry) (c0 : Nat) : (State.putEntry s e).pend c0 = s.pend c0 := (State.putEntry_within ..).pend c0 rfl
@[simp] theorem State.putEntry_rdShadow (s : State) (e : LogEntry) (c0 d0 : Nat) : (State.putEntry s e).rdShadow c0 d0 = s.rdShadow c0 d0 := (State.putEntry_within ..).rdShadow c0 d0 rfl
/-! State.countClass -/

@[simp] theorem State.countClass_mem (s : State) (cls : Nat) : (State.countClass s cls).mem = s.mem := (State.countClass_within ..).mem_eq rfl
@[simp] theorem State.countClass_blank (s : State) (cls : Nat) : (State.countClass s cls).blank = s.blank := (State.countClass_within ..).blank_eq rfl
@[simp] theorem State.countClass_badLine (s : State) (cls : Nat) : (State.countClass s cls).badLine = s.badLine := (State.countClass_within ..).badLine_eq rfl
@[simp] theorem State.countClass_shadow (s : State) (cls : Nat) : (State.countClass s cls).shadow = s.shadow := (State.countClass_within ..).shadow_eq rfl
@[simp] theorem State.countClass_wroDone (s : State) (cls : Nat) : (State.countClass s cls).wroDone = s.wroDone := (State.countClass_within ..).wroDone_eq rfl
@[simp] theorem State.countClass_raw (s : State) (cls : Nat) : (State.countClass s cls).raw = s.raw := (State.countClass_within ..).raw_eq rfl
@[simp] theorem State.countClass_free (s : State) (cls : Nat) : (State.countClass s cls).free = s.free := (State.countClass_within ..).free_eq rfl
@[simp] theorem State.countClass_fuse (s : State) (cls : Nat) : (State.countClass s cls).fuse = s.fuse := (State.countClass_within ..).fuse_eq rfl
@[simp] theorem State.countClass_trained (s : State) (cls : Nat) : (State.countClass s cls).trained = s.trained := (State.countClass_within ..).trained_eq rfl
@[simp] theorem State.countClass_bootWait (s : State) (cls : Nat) : (State.countClass s cls).bootWait = s.bootWait := (State.countClass_within ..).bootWait_eq rfl
@[simp] theorem State.countClass_tb (s : State) (cls : Nat) : (State.countClass s cls).tb = s.tb := (State.countClass_within ..).tb_eq rfl
@[simp] theorem State.countClass_crl (s : State) (cls : Nat) : (State.countClass s cls).crl = s.crl := (State.countClass_within ..).crl_eq rfl
@[simp] theorem State.countClass_evio (s : State) (cls : Nat) : (State.countClass s cls).evio = s.evio := (State.countClass_within ..).evio_eq rfl
@[simp] theorem State.countClass_evf (s : State) (cls : Nat) : (State.countClass s cls).evf = s.evf := (State.countClass_within ..).evf_eq rfl
@[simp] theorem State.countClass_raised (s : State) (cls : Nat) : (State.countClass s cls).raised = s.raised := (State.countClass_within ..).raised_eq rfl
@[simp] theorem State.countClass_chan (s : State) (cls : Nat) : (State.countClass s cls).chan = s.chan := (State.countClass_within ..).chan_eq rfl
@[simp] theorem State.countClass_tg (s : State) (cls : Nat) : (State.countClass s cls).tg = s.tg := (State.countClass_within ..).tg_eq rfl
@[simp] theorem State.countClass_view (s : State) (cls : Nat) : (State.countClass s cls).view = s.view := (State.countClass_within ..).view_eq rfl
@[simp] theorem State.countClass_link (s : State) (cls : Nat) : (State.countClass s cls).link = s.link := (State.countClass_within ..).link_eq rfl
@[simp] theorem State.countClass_train (s : State) (cls : Nat) : (State.countClass s cls).train = s.train := (State.countClass_within ..).train_eq rfl
@[simp] theorem State.countClass_joker (s : State) (cls : Nat) : (State.countClass s cls).joker = s.joker := (State.countClass_within ..).joker_eq rfl
@[simp] theorem State.countClass_roWritten (s : State) (cls : Nat) : (State.countClass s cls).roWritten = s.roWritten := (State.countClass_within ..).roWritten_eq rfl
@[simp] theorem State.countClass_jobA (s : State) (cls : Nat) : (State.countClass s cls).jobA = s.jobA := (State.countClass_within ..).jobA_eq rfl
@[simp] theorem State.countClass_jobN (s : State) (cls : Nat) : (State.countClass s cls).jobN = s.jobN := (State.countClass_within ..).jobN_eq rfl
@[simp] theorem State.countClass_valJob (s : State) (cls : Nat) : (State.countClass s cls).valJob = s.valJob := (State.countClass_within ..).valJob_eq rfl
@[simp] theorem State.countClass_jobVals (s : State) (cls : Nat) : (State.countClass s cls).jobVals = s.jobVals := (State.countClass_within ..).jobVals_eq rfl
@[simp] theorem State.countClass_intake (s : State) (cls : Nat) : (State.countClass s cls).intake = s.intake := (State.countClass_within ..).intake_eq rfl
@[simp] theorem State.countClass_pipe (s : State) (cls : Nat) : (State.countClass s cls).pipe = s.pipe := (State.countClass_within ..).pipe_eq rfl
@[simp] theorem State.countClass_tapBuf (s : State) (cls : Nat) : (State.countClass s cls).tapBuf = s.tapBuf := (State.countClass_within ..).tapBuf_eq rfl
@[simp] theorem State.countClass_corr (s : State) (cls : Nat) : (State.countClass s cls).corr = s.corr := (State.countClass_within ..).corr_eq rfl
@[simp] theorem State.countClass_stitch_ (s : State) (cls : Nat) : (State.countClass s cls).stitch_ = s.stitch_ := (State.countClass_within ..).stitch_eq rfl
@[simp] theorem State.countClass_dot (s : State) (cls : Nat) : (State.countClass s cls).dot = s.dot := (State.countClass_within ..).dot_eq rfl
@[simp] theorem State.countClass_winRes (s : State) (cls : Nat) : (State.countClass s cls).winRes = s.winRes := (State.countClass_within ..).winRes_eq rfl
@[simp] theorem State.countClass_mst (s : State) (cls : Nat) : (State.countClass s cls).mst = s.mst := (State.countClass_within ..).mst_eq rfl
@[simp] theorem State.countClass_predict (s : State) (cls : Nat) : (State.countClass s cls).predict = s.predict := (State.countClass_within ..).predict_eq rfl
@[simp] theorem State.countClass_eng (s : State) (cls : Nat) : (State.countClass s cls).eng = s.eng := (State.countClass_within ..).eng_eq rfl
@[simp] theorem State.countClass_resA (s : State) (cls : Nat) : (State.countClass s cls).resA = s.resA := (State.countClass_within ..).resA_eq rfl
@[simp] theorem State.countClass_resN (s : State) (cls : Nat) : (State.countClass s cls).resN = s.resN := (State.countClass_within ..).resN_eq rfl
@[simp] theorem State.countClass_acts (s : State) (cls : Nat) : (State.countClass s cls).acts = s.acts := (State.countClass_within ..).acts_eq rfl
@[simp] theorem State.countClass_hits (s : State) (cls : Nat) : (State.countClass s cls).hits = s.hits := (State.countClass_within ..).hits_eq rfl
@[simp] theorem State.countClass_net (s : State) (cls : Nat) : (State.countClass s cls).net = s.net := (State.countClass_within ..).net_eq rfl
@[simp] theorem State.countClass_stream (s : State) (cls : Nat) : (State.countClass s cls).stream = s.stream := (State.countClass_within ..).stream_eq rfl
@[simp] theorem State.countClass_dec (s : State) (cls : Nat) : (State.countClass s cls).dec = s.dec := (State.countClass_within ..).dec_eq rfl
@[simp] theorem State.countClass_queue (s : State) (cls : Nat) : (State.countClass s cls).queue = s.queue := (State.countClass_within ..).queue_eq rfl
@[simp] theorem State.countClass_levels (s : State) (cls : Nat) : (State.countClass s cls).levels = s.levels := (State.countClass_within ..).levels_eq rfl
@[simp] theorem State.countClass_arb (s : State) (cls : Nat) : (State.countClass s cls).arb = s.arb := (State.countClass_within ..).arb_eq rfl
@[simp] theorem State.countClass_qshadow (s : State) (cls : Nat) : (State.countClass s cls).qshadow = s.qshadow := (State.countClass_within ..).qshadow_eq rfl
@[simp] theorem State.countClass_hqLo (s : State) (cls : Nat) : (State.countClass s cls).hqLo = s.hqLo := (State.countClass_within ..).hqLo_eq rfl
@[simp] theorem State.countClass_dma (s : State) (cls : Nat) : (State.countClass s cls).dma = s.dma := (State.countClass_within ..).dma_eq rfl
@[simp] theorem State.countClass_zip (s : State) (cls : Nat) : (State.countClass s cls).zip = s.zip := (State.countClass_within ..).zip_eq rfl
@[simp] theorem State.countClass_twl (s : State) (cls : Nat) : (State.countClass s cls).twl = s.twl := (State.countClass_within ..).twl_eq rfl
@[simp] theorem State.countClass_fifo (s : State) (cls : Nat) : (State.countClass s cls).fifo = s.fifo := (State.countClass_within ..).fifo_eq rfl
@[simp] theorem State.countClass_mc (s : State) (cls : Nat) : (State.countClass s cls).mc = s.mc := (State.countClass_within ..).mc_eq rfl
@[simp] theorem State.countClass_mcg (s : State) (cls : Nat) : (State.countClass s cls).mcg = s.mcg := (State.countClass_within ..).mcg_eq rfl
@[simp] theorem State.countClass_hlth (s : State) (cls : Nat) : (State.countClass s cls).hlth = s.hlth := (State.countClass_within ..).hlth_eq rfl
@[simp] theorem State.countClass_log (s : State) (cls : Nat) : (State.countClass s cls).log = s.log := (State.countClass_within ..).log_eq rfl
@[simp] theorem State.countClass_logLatch (s : State) (cls : Nat) : (State.countClass s cls).logLatch = s.logLatch := (State.countClass_within ..).logLatch_eq rfl
@[simp] theorem State.countClass_commits (s : State) (cls : Nat) : (State.countClass s cls).commits = s.commits := (State.countClass_within ..).commits_eq rfl
@[simp] theorem State.countClass_cmtRec (s : State) (cls : Nat) : (State.countClass s cls).cmtRec = s.cmtRec := (State.countClass_within ..).cmtRec_eq rfl
@[simp] theorem State.countClass_entered (s : State) (cls : Nat) : (State.countClass s cls).entered = s.entered := (State.countClass_within ..).entered_eq rfl
@[simp] theorem State.countClass_lockAt (s : State) (cls : Nat) : (State.countClass s cls).lockAt = s.lockAt := (State.countClass_within ..).lockAt_eq rfl
@[simp] theorem State.countClass_lockKey (s : State) (cls : Nat) : (State.countClass s cls).lockKey = s.lockKey := (State.countClass_within ..).lockKey_eq rfl
@[simp] theorem State.countClass_revoking (s : State) (cls : Nat) : (State.countClass s cls).revoking = s.revoking := (State.countClass_within ..).revoking_eq rfl
@[simp] theorem State.countClass_dead (s : State) (cls : Nat) : (State.countClass s cls).dead = s.dead := (State.countClass_within ..).dead_eq rfl
@[simp] theorem State.countClass_chanOf (s : State) (cls : Nat) (c0 : Nat) : (State.countClass s cls).chanOf c0 = s.chanOf c0 := (State.countClass_within ..).chanOf c0 rfl
@[simp] theorem State.countClass_tgOf (s : State) (cls : Nat) (c0 : Nat) : (State.countClass s cls).tgOf c0 = s.tgOf c0 := (State.countClass_within ..).tgOf c0 rfl
@[simp] theorem State.countClass_view_ (s : State) (cls : Nat) (c0 : Nat) : (State.countClass s cls).view_ c0 = s.view_ c0 := (State.countClass_within ..).view_ c0 rfl
@[simp] theorem State.countClass_link_ (s : State) (cls : Nat) (c0 : Nat) : (State.countClass s cls).link_ c0 = s.link_ c0 := (State.countClass_within ..).link_ c0 rfl
@[simp] theorem State.countClass_train_ (s : State) (cls : Nat) (c0 d0 : Nat) : (State.countClass s cls).train_ c0 d0 = s.train_ c0 d0 := (State.countClass_within ..).train_ c0 d0 rfl
@[simp] theorem State.countClass_jk (s : State) (cls : Nat) (c0 : Nat) : (State.countClass s cls).jk c0 = s.jk c0 := (State.countClass_within ..).jk c0 rfl
@[simp] theorem State.countClass_q (s : State) (cls : Nat) (c0 : Nat) : (State.countClass s cls).q c0 = s.q c0 := (State.countClass_within ..).q c0 rfl
@[simp] theorem State.countClass_mcOf (s : State) (cls : Nat) (c0 : Nat) : (State.countClass s cls).mcOf c0 = s.mcOf c0 := (State.countClass_within ..).mcOf c0 rfl
@[simp] theorem State.countClass_engOf (s : State) (cls : Nat) (c0 : Nat) : (State.countClass s cls).engOf c0 = s.engOf c0 := (State.countClass_within ..).engOf c0 rfl
@[simp] theorem State.countClass_intk (s : State) (cls : Nat) (c0 : Nat) : (State.countClass s cls).intk c0 = s.intk c0 := (State.countClass_within ..).intk c0 rfl
@[simp] theorem State.countClass_pipe_ (s : State) (cls : Nat) (c0 : Nat) : (State.countClass s cls).pipe_ c0 = s.pipe_ c0 := (State.countClass_within ..).pipe_ c0 rfl
@[simp] theorem State.countClass_corr_ (s : State) (cls : Nat) (c0 : Nat) : (State.countClass s cls).corr_ c0 = s.corr_ c0 := (State.countClass_within ..).corr_ c0 rfl
@[simp] theorem State.countClass_sti (s : State) (cls : Nat) (c0 : Nat) : (State.countClass s cls).sti c0 = s.sti c0 := (State.countClass_within ..).sti c0 rfl
@[simp] theorem State.countClass_sess (s : State) (cls : Nat) (c0 : Nat) : (State.countClass s cls).sess c0 = s.sess c0 := (State.countClass_within ..).sess c0 rfl
@[simp] theorem State.countClass_str_ (s : State) (cls : Nat) (c0 : Nat) : (State.countClass s cls).str_ c0 = s.str_ c0 := (State.countClass_within ..).str_ c0 rfl
@[simp] theorem State.countClass_twlOf (s : State) (cls : Nat) (c0 : Nat) : (State.countClass s cls).twlOf c0 = s.twlOf c0 := (State.countClass_within ..).twlOf c0 rfl
@[simp] theorem State.countClass_ch (s : State) (cls : Nat) (c0 : Nat) : (State.countClass s cls).ch c0 = s.ch c0 := (State.countClass_within ..).ch c0 rfl
@[simp] theorem State.countClass_mstV (s : State) (cls : Nat) (c0 : Nat) : (State.countClass s cls).mstV c0 = s.mstV c0 := (State.countClass_within ..).mstV c0 rfl
@[simp] theorem State.countClass_calOf (s : State) (cls : Nat) (c0 : Nat) : (State.countClass s cls).calOf c0 = s.calOf c0 := (State.countClass_within ..).calOf c0 rfl
@[simp] theorem State.countClass_fifoOf (s : State) (cls : Nat) (c0 : Nat) : (State.countClass s cls).fifoOf c0 = s.fifoOf c0 := (State.countClass_within ..).fifoOf c0 rfl
@[simp] theorem State.countClass_pend (s : State) (cls : Nat) (c0 : Nat) : (State.countClass s cls).pend c0 = s.pend c0 := (State.countClass_within ..).pend c0 rfl
@[simp] theorem State.countClass_rdShadow (s : State) (cls : Nat) (c0 d0 : Nat) : (State.countClass s cls).rdShadow c0 d0 = s.rdShadow c0 d0 := (State.countClass_within ..).rdShadow c0 d0 rfl
/-! State.faultN -/

@[simp] theorem State.faultN_mem (s : State) (enable : Fld) (cause : Fld) : (State.faultN s enable cause).mem = s.mem := (State.faultN_within ..).mem_eq rfl
@[simp] theorem State.faultN_blank (s : State) (enable : Fld) (cause : Fld) : (State.faultN s enable cause).blank = s.blank := (State.faultN_within ..).blank_eq rfl
@[simp] theorem State.faultN_badLine (s : State) (enable : Fld) (cause : Fld) : (State.faultN s enable cause).badLine = s.badLine := (State.faultN_within ..).badLine_eq rfl
@[simp] theorem State.faultN_shadow (s : State) (enable : Fld) (cause : Fld) : (State.faultN s enable cause).shadow = s.shadow := (State.faultN_within ..).shadow_eq rfl
@[simp] theorem State.faultN_wroDone (s : State) (enable : Fld) (cause : Fld) : (State.faultN s enable cause).wroDone = s.wroDone := (State.faultN_within ..).wroDone_eq rfl
@[simp] theorem State.faultN_window (s : State) (enable : Fld) (cause : Fld) : (State.faultN s enable cause).window = s.window := (State.faultN_within ..).window_eq rfl
@[simp] theorem State.faultN_out (s : State) (enable : Fld) (cause : Fld) : (State.faultN s enable cause).out = s.out := (State.faultN_within ..).out_eq rfl
@[simp] theorem State.faultN_raw (s : State) (enable : Fld) (cause : Fld) : (State.faultN s enable cause).raw = s.raw := (State.faultN_within ..).raw_eq rfl
@[simp] theorem State.faultN_free (s : State) (enable : Fld) (cause : Fld) : (State.faultN s enable cause).free = s.free := (State.faultN_within ..).free_eq rfl
@[simp] theorem State.faultN_fuse (s : State) (enable : Fld) (cause : Fld) : (State.faultN s enable cause).fuse = s.fuse := (State.faultN_within ..).fuse_eq rfl
@[simp] theorem State.faultN_trained (s : State) (enable : Fld) (cause : Fld) : (State.faultN s enable cause).trained = s.trained := (State.faultN_within ..).trained_eq rfl
@[simp] theorem State.faultN_bootWait (s : State) (enable : Fld) (cause : Fld) : (State.faultN s enable cause).bootWait = s.bootWait := (State.faultN_within ..).bootWait_eq rfl
@[simp] theorem State.faultN_tb (s : State) (enable : Fld) (cause : Fld) : (State.faultN s enable cause).tb = s.tb := (State.faultN_within ..).tb_eq rfl
@[simp] theorem State.faultN_crl (s : State) (enable : Fld) (cause : Fld) : (State.faultN s enable cause).crl = s.crl := (State.faultN_within ..).crl_eq rfl
@[simp] theorem State.faultN_evio (s : State) (enable : Fld) (cause : Fld) : (State.faultN s enable cause).evio = s.evio := (State.faultN_within ..).evio_eq rfl
@[simp] theorem State.faultN_evf (s : State) (enable : Fld) (cause : Fld) : (State.faultN s enable cause).evf = s.evf := (State.faultN_within ..).evf_eq rfl
@[simp] theorem State.faultN_raised (s : State) (enable : Fld) (cause : Fld) : (State.faultN s enable cause).raised = s.raised := (State.faultN_within ..).raised_eq rfl
@[simp] theorem State.faultN_chan (s : State) (enable : Fld) (cause : Fld) : (State.faultN s enable cause).chan = s.chan := (State.faultN_within ..).chan_eq rfl
@[simp] theorem State.faultN_tg (s : State) (enable : Fld) (cause : Fld) : (State.faultN s enable cause).tg = s.tg := (State.faultN_within ..).tg_eq rfl
@[simp] theorem State.faultN_view (s : State) (enable : Fld) (cause : Fld) : (State.faultN s enable cause).view = s.view := (State.faultN_within ..).view_eq rfl
@[simp] theorem State.faultN_link (s : State) (enable : Fld) (cause : Fld) : (State.faultN s enable cause).link = s.link := (State.faultN_within ..).link_eq rfl
@[simp] theorem State.faultN_train (s : State) (enable : Fld) (cause : Fld) : (State.faultN s enable cause).train = s.train := (State.faultN_within ..).train_eq rfl
@[simp] theorem State.faultN_joker (s : State) (enable : Fld) (cause : Fld) : (State.faultN s enable cause).joker = s.joker := (State.faultN_within ..).joker_eq rfl
@[simp] theorem State.faultN_roWritten (s : State) (enable : Fld) (cause : Fld) : (State.faultN s enable cause).roWritten = s.roWritten := (State.faultN_within ..).roWritten_eq rfl
@[simp] theorem State.faultN_jobA (s : State) (enable : Fld) (cause : Fld) : (State.faultN s enable cause).jobA = s.jobA := (State.faultN_within ..).jobA_eq rfl
@[simp] theorem State.faultN_jobN (s : State) (enable : Fld) (cause : Fld) : (State.faultN s enable cause).jobN = s.jobN := (State.faultN_within ..).jobN_eq rfl
@[simp] theorem State.faultN_valJob (s : State) (enable : Fld) (cause : Fld) : (State.faultN s enable cause).valJob = s.valJob := (State.faultN_within ..).valJob_eq rfl
@[simp] theorem State.faultN_jobVals (s : State) (enable : Fld) (cause : Fld) : (State.faultN s enable cause).jobVals = s.jobVals := (State.faultN_within ..).jobVals_eq rfl
@[simp] theorem State.faultN_intake (s : State) (enable : Fld) (cause : Fld) : (State.faultN s enable cause).intake = s.intake := (State.faultN_within ..).intake_eq rfl
@[simp] theorem State.faultN_pipe (s : State) (enable : Fld) (cause : Fld) : (State.faultN s enable cause).pipe = s.pipe := (State.faultN_within ..).pipe_eq rfl
@[simp] theorem State.faultN_tapBuf (s : State) (enable : Fld) (cause : Fld) : (State.faultN s enable cause).tapBuf = s.tapBuf := (State.faultN_within ..).tapBuf_eq rfl
@[simp] theorem State.faultN_corr (s : State) (enable : Fld) (cause : Fld) : (State.faultN s enable cause).corr = s.corr := (State.faultN_within ..).corr_eq rfl
@[simp] theorem State.faultN_stitch_ (s : State) (enable : Fld) (cause : Fld) : (State.faultN s enable cause).stitch_ = s.stitch_ := (State.faultN_within ..).stitch_eq rfl
@[simp] theorem State.faultN_dot (s : State) (enable : Fld) (cause : Fld) : (State.faultN s enable cause).dot = s.dot := (State.faultN_within ..).dot_eq rfl
@[simp] theorem State.faultN_winRes (s : State) (enable : Fld) (cause : Fld) : (State.faultN s enable cause).winRes = s.winRes := (State.faultN_within ..).winRes_eq rfl
@[simp] theorem State.faultN_mst (s : State) (enable : Fld) (cause : Fld) : (State.faultN s enable cause).mst = s.mst := (State.faultN_within ..).mst_eq rfl
@[simp] theorem State.faultN_predict (s : State) (enable : Fld) (cause : Fld) : (State.faultN s enable cause).predict = s.predict := (State.faultN_within ..).predict_eq rfl
@[simp] theorem State.faultN_eng (s : State) (enable : Fld) (cause : Fld) : (State.faultN s enable cause).eng = s.eng := (State.faultN_within ..).eng_eq rfl
@[simp] theorem State.faultN_resA (s : State) (enable : Fld) (cause : Fld) : (State.faultN s enable cause).resA = s.resA := (State.faultN_within ..).resA_eq rfl
@[simp] theorem State.faultN_resN (s : State) (enable : Fld) (cause : Fld) : (State.faultN s enable cause).resN = s.resN := (State.faultN_within ..).resN_eq rfl
@[simp] theorem State.faultN_acts (s : State) (enable : Fld) (cause : Fld) : (State.faultN s enable cause).acts = s.acts := (State.faultN_within ..).acts_eq rfl
@[simp] theorem State.faultN_hits (s : State) (enable : Fld) (cause : Fld) : (State.faultN s enable cause).hits = s.hits := (State.faultN_within ..).hits_eq rfl
@[simp] theorem State.faultN_net (s : State) (enable : Fld) (cause : Fld) : (State.faultN s enable cause).net = s.net := (State.faultN_within ..).net_eq rfl
@[simp] theorem State.faultN_stream (s : State) (enable : Fld) (cause : Fld) : (State.faultN s enable cause).stream = s.stream := (State.faultN_within ..).stream_eq rfl
@[simp] theorem State.faultN_dec (s : State) (enable : Fld) (cause : Fld) : (State.faultN s enable cause).dec = s.dec := (State.faultN_within ..).dec_eq rfl
@[simp] theorem State.faultN_queue (s : State) (enable : Fld) (cause : Fld) : (State.faultN s enable cause).queue = s.queue := (State.faultN_within ..).queue_eq rfl
@[simp] theorem State.faultN_levels (s : State) (enable : Fld) (cause : Fld) : (State.faultN s enable cause).levels = s.levels := (State.faultN_within ..).levels_eq rfl
@[simp] theorem State.faultN_arb (s : State) (enable : Fld) (cause : Fld) : (State.faultN s enable cause).arb = s.arb := (State.faultN_within ..).arb_eq rfl
@[simp] theorem State.faultN_qshadow (s : State) (enable : Fld) (cause : Fld) : (State.faultN s enable cause).qshadow = s.qshadow := (State.faultN_within ..).qshadow_eq rfl
@[simp] theorem State.faultN_hqLo (s : State) (enable : Fld) (cause : Fld) : (State.faultN s enable cause).hqLo = s.hqLo := (State.faultN_within ..).hqLo_eq rfl
@[simp] theorem State.faultN_dma (s : State) (enable : Fld) (cause : Fld) : (State.faultN s enable cause).dma = s.dma := (State.faultN_within ..).dma_eq rfl
@[simp] theorem State.faultN_zip (s : State) (enable : Fld) (cause : Fld) : (State.faultN s enable cause).zip = s.zip := (State.faultN_within ..).zip_eq rfl
@[simp] theorem State.faultN_twl (s : State) (enable : Fld) (cause : Fld) : (State.faultN s enable cause).twl = s.twl := (State.faultN_within ..).twl_eq rfl
@[simp] theorem State.faultN_fifo (s : State) (enable : Fld) (cause : Fld) : (State.faultN s enable cause).fifo = s.fifo := (State.faultN_within ..).fifo_eq rfl
@[simp] theorem State.faultN_mc (s : State) (enable : Fld) (cause : Fld) : (State.faultN s enable cause).mc = s.mc := (State.faultN_within ..).mc_eq rfl
@[simp] theorem State.faultN_mcg (s : State) (enable : Fld) (cause : Fld) : (State.faultN s enable cause).mcg = s.mcg := (State.faultN_within ..).mcg_eq rfl
@[simp] theorem State.faultN_hlth (s : State) (enable : Fld) (cause : Fld) : (State.faultN s enable cause).hlth = s.hlth := (State.faultN_within ..).hlth_eq rfl
@[simp] theorem State.faultN_log (s : State) (enable : Fld) (cause : Fld) : (State.faultN s enable cause).log = s.log := (State.faultN_within ..).log_eq rfl
@[simp] theorem State.faultN_logLatch (s : State) (enable : Fld) (cause : Fld) : (State.faultN s enable cause).logLatch = s.logLatch := (State.faultN_within ..).logLatch_eq rfl
@[simp] theorem State.faultN_commits (s : State) (enable : Fld) (cause : Fld) : (State.faultN s enable cause).commits = s.commits := (State.faultN_within ..).commits_eq rfl
@[simp] theorem State.faultN_cmtRec (s : State) (enable : Fld) (cause : Fld) : (State.faultN s enable cause).cmtRec = s.cmtRec := (State.faultN_within ..).cmtRec_eq rfl
@[simp] theorem State.faultN_entered (s : State) (enable : Fld) (cause : Fld) : (State.faultN s enable cause).entered = s.entered := (State.faultN_within ..).entered_eq rfl
@[simp] theorem State.faultN_lockAt (s : State) (enable : Fld) (cause : Fld) : (State.faultN s enable cause).lockAt = s.lockAt := (State.faultN_within ..).lockAt_eq rfl
@[simp] theorem State.faultN_lockKey (s : State) (enable : Fld) (cause : Fld) : (State.faultN s enable cause).lockKey = s.lockKey := (State.faultN_within ..).lockKey_eq rfl
@[simp] theorem State.faultN_revoking (s : State) (enable : Fld) (cause : Fld) : (State.faultN s enable cause).revoking = s.revoking := (State.faultN_within ..).revoking_eq rfl
@[simp] theorem State.faultN_dead (s : State) (enable : Fld) (cause : Fld) : (State.faultN s enable cause).dead = s.dead := (State.faultN_within ..).dead_eq rfl
@[simp] theorem State.faultN_chanOf (s : State) (enable : Fld) (cause : Fld) (c0 : Nat) : (State.faultN s enable cause).chanOf c0 = s.chanOf c0 := (State.faultN_within ..).chanOf c0 rfl
@[simp] theorem State.faultN_tgOf (s : State) (enable : Fld) (cause : Fld) (c0 : Nat) : (State.faultN s enable cause).tgOf c0 = s.tgOf c0 := (State.faultN_within ..).tgOf c0 rfl
@[simp] theorem State.faultN_view_ (s : State) (enable : Fld) (cause : Fld) (c0 : Nat) : (State.faultN s enable cause).view_ c0 = s.view_ c0 := (State.faultN_within ..).view_ c0 rfl
@[simp] theorem State.faultN_link_ (s : State) (enable : Fld) (cause : Fld) (c0 : Nat) : (State.faultN s enable cause).link_ c0 = s.link_ c0 := (State.faultN_within ..).link_ c0 rfl
@[simp] theorem State.faultN_train_ (s : State) (enable : Fld) (cause : Fld) (c0 d0 : Nat) : (State.faultN s enable cause).train_ c0 d0 = s.train_ c0 d0 := (State.faultN_within ..).train_ c0 d0 rfl
@[simp] theorem State.faultN_jk (s : State) (enable : Fld) (cause : Fld) (c0 : Nat) : (State.faultN s enable cause).jk c0 = s.jk c0 := (State.faultN_within ..).jk c0 rfl
@[simp] theorem State.faultN_q (s : State) (enable : Fld) (cause : Fld) (c0 : Nat) : (State.faultN s enable cause).q c0 = s.q c0 := (State.faultN_within ..).q c0 rfl
@[simp] theorem State.faultN_mcOf (s : State) (enable : Fld) (cause : Fld) (c0 : Nat) : (State.faultN s enable cause).mcOf c0 = s.mcOf c0 := (State.faultN_within ..).mcOf c0 rfl
@[simp] theorem State.faultN_engOf (s : State) (enable : Fld) (cause : Fld) (c0 : Nat) : (State.faultN s enable cause).engOf c0 = s.engOf c0 := (State.faultN_within ..).engOf c0 rfl
@[simp] theorem State.faultN_intk (s : State) (enable : Fld) (cause : Fld) (c0 : Nat) : (State.faultN s enable cause).intk c0 = s.intk c0 := (State.faultN_within ..).intk c0 rfl
@[simp] theorem State.faultN_pipe_ (s : State) (enable : Fld) (cause : Fld) (c0 : Nat) : (State.faultN s enable cause).pipe_ c0 = s.pipe_ c0 := (State.faultN_within ..).pipe_ c0 rfl
@[simp] theorem State.faultN_corr_ (s : State) (enable : Fld) (cause : Fld) (c0 : Nat) : (State.faultN s enable cause).corr_ c0 = s.corr_ c0 := (State.faultN_within ..).corr_ c0 rfl
@[simp] theorem State.faultN_sti (s : State) (enable : Fld) (cause : Fld) (c0 : Nat) : (State.faultN s enable cause).sti c0 = s.sti c0 := (State.faultN_within ..).sti c0 rfl
@[simp] theorem State.faultN_sess (s : State) (enable : Fld) (cause : Fld) (c0 : Nat) : (State.faultN s enable cause).sess c0 = s.sess c0 := (State.faultN_within ..).sess c0 rfl
@[simp] theorem State.faultN_str_ (s : State) (enable : Fld) (cause : Fld) (c0 : Nat) : (State.faultN s enable cause).str_ c0 = s.str_ c0 := (State.faultN_within ..).str_ c0 rfl
@[simp] theorem State.faultN_twlOf (s : State) (enable : Fld) (cause : Fld) (c0 : Nat) : (State.faultN s enable cause).twlOf c0 = s.twlOf c0 := (State.faultN_within ..).twlOf c0 rfl
@[simp] theorem State.faultN_ch (s : State) (enable : Fld) (cause : Fld) (c0 : Nat) : (State.faultN s enable cause).ch c0 = s.ch c0 := (State.faultN_within ..).ch c0 rfl
@[simp] theorem State.faultN_mstV (s : State) (enable : Fld) (cause : Fld) (c0 : Nat) : (State.faultN s enable cause).mstV c0 = s.mstV c0 := (State.faultN_within ..).mstV c0 rfl
@[simp] theorem State.faultN_calOf (s : State) (enable : Fld) (cause : Fld) (c0 : Nat) : (State.faultN s enable cause).calOf c0 = s.calOf c0 := (State.faultN_within ..).calOf c0 rfl
@[simp] theorem State.faultN_fifoOf (s : State) (enable : Fld) (cause : Fld) (c0 : Nat) : (State.faultN s enable cause).fifoOf c0 = s.fifoOf c0 := (State.faultN_within ..).fifoOf c0 rfl
@[simp] theorem State.faultN_pend (s : State) (enable : Fld) (cause : Fld) (c0 : Nat) : (State.faultN s enable cause).pend c0 = s.pend c0 := (State.faultN_within ..).pend c0 rfl
@[simp] theorem State.faultN_rdShadow (s : State) (enable : Fld) (cause : Fld) (c0 d0 : Nat) : (State.faultN s enable cause).rdShadow c0 d0 = s.rdShadow c0 d0 := (State.faultN_within ..).rdShadow c0 d0 rfl
@[simp] theorem State.faultN_win (s : State) (enable : Fld) (cause : Fld) (c0 : Nat) : (State.faultN s enable cause).win c0 = s.win c0 := (State.faultN_within ..).win c0 rfl

end Sys2Proof.Machine
end

