-- ==== Sys2Proof/Laws/State.lean ====
section
/-!
SUPPORT. One lemma for each field and each named update of the state: the field that the update leaves alone.
-/
namespace Sys2Proof.Machine

/-! State.wr -/

@[simp] theorem State.wr_mem (s : State) (p : Nat) (off : Nat) (w : Word) : (State.wr s p off w).mem = s.mem := rfl
@[simp] theorem State.wr_blank (s : State) (p : Nat) (off : Nat) (w : Word) : (State.wr s p off w).blank = s.blank := rfl
@[simp] theorem State.wr_badLine (s : State) (p : Nat) (off : Nat) (w : Word) : (State.wr s p off w).badLine = s.badLine := rfl
@[simp] theorem State.wr_shadow (s : State) (p : Nat) (off : Nat) (w : Word) : (State.wr s p off w).shadow = s.shadow := rfl
@[simp] theorem State.wr_wroDone (s : State) (p : Nat) (off : Nat) (w : Word) : (State.wr s p off w).wroDone = s.wroDone := rfl
@[simp] theorem State.wr_window (s : State) (p : Nat) (off : Nat) (w : Word) : (State.wr s p off w).window = s.window := rfl
@[simp] theorem State.wr_out (s : State) (p : Nat) (off : Nat) (w : Word) : (State.wr s p off w).out = s.out := rfl
@[simp] theorem State.wr_raw (s : State) (p : Nat) (off : Nat) (w : Word) : (State.wr s p off w).raw = s.raw := rfl
@[simp] theorem State.wr_free (s : State) (p : Nat) (off : Nat) (w : Word) : (State.wr s p off w).free = s.free := rfl
@[simp] theorem State.wr_fuse (s : State) (p : Nat) (off : Nat) (w : Word) : (State.wr s p off w).fuse = s.fuse := rfl
@[simp] theorem State.wr_trained (s : State) (p : Nat) (off : Nat) (w : Word) : (State.wr s p off w).trained = s.trained := rfl
@[simp] theorem State.wr_bootWait (s : State) (p : Nat) (off : Nat) (w : Word) : (State.wr s p off w).bootWait = s.bootWait := rfl
@[simp] theorem State.wr_tb (s : State) (p : Nat) (off : Nat) (w : Word) : (State.wr s p off w).tb = s.tb := rfl
@[simp] theorem State.wr_crl (s : State) (p : Nat) (off : Nat) (w : Word) : (State.wr s p off w).crl = s.crl := rfl
@[simp] theorem State.wr_evio (s : State) (p : Nat) (off : Nat) (w : Word) : (State.wr s p off w).evio = s.evio := rfl
@[simp] theorem State.wr_evf (s : State) (p : Nat) (off : Nat) (w : Word) : (State.wr s p off w).evf = s.evf := rfl
@[simp] theorem State.wr_raised (s : State) (p : Nat) (off : Nat) (w : Word) : (State.wr s p off w).raised = s.raised := rfl
@[simp] theorem State.wr_chan (s : State) (p : Nat) (off : Nat) (w : Word) : (State.wr s p off w).chan = s.chan := rfl
@[simp] theorem State.wr_tg (s : State) (p : Nat) (off : Nat) (w : Word) : (State.wr s p off w).tg = s.tg := rfl
@[simp] theorem State.wr_view (s : State) (p : Nat) (off : Nat) (w : Word) : (State.wr s p off w).view = s.view := rfl
@[simp] theorem State.wr_link (s : State) (p : Nat) (off : Nat) (w : Word) : (State.wr s p off w).link = s.link := rfl
@[simp] theorem State.wr_train (s : State) (p : Nat) (off : Nat) (w : Word) : (State.wr s p off w).train = s.train := rfl
@[simp] theorem State.wr_joker (s : State) (p : Nat) (off : Nat) (w : Word) : (State.wr s p off w).joker = s.joker := rfl
@[simp] theorem State.wr_roWritten (s : State) (p : Nat) (off : Nat) (w : Word) : (State.wr s p off w).roWritten = s.roWritten := rfl
@[simp] theorem State.wr_jobA (s : State) (p : Nat) (off : Nat) (w : Word) : (State.wr s p off w).jobA = s.jobA := rfl
@[simp] theorem State.wr_jobN (s : State) (p : Nat) (off : Nat) (w : Word) : (State.wr s p off w).jobN = s.jobN := rfl
@[simp] theorem State.wr_valJob (s : State) (p : Nat) (off : Nat) (w : Word) : (State.wr s p off w).valJob = s.valJob := rfl
@[simp] theorem State.wr_jobVals (s : State) (p : Nat) (off : Nat) (w : Word) : (State.wr s p off w).jobVals = s.jobVals := rfl
@[simp] theorem State.wr_intake (s : State) (p : Nat) (off : Nat) (w : Word) : (State.wr s p off w).intake = s.intake := rfl
@[simp] theorem State.wr_pipe (s : State) (p : Nat) (off : Nat) (w : Word) : (State.wr s p off w).pipe = s.pipe := rfl
@[simp] theorem State.wr_tapBuf (s : State) (p : Nat) (off : Nat) (w : Word) : (State.wr s p off w).tapBuf = s.tapBuf := rfl
@[simp] theorem State.wr_corr (s : State) (p : Nat) (off : Nat) (w : Word) : (State.wr s p off w).corr = s.corr := rfl
@[simp] theorem State.wr_stitch_ (s : State) (p : Nat) (off : Nat) (w : Word) : (State.wr s p off w).stitch_ = s.stitch_ := rfl
@[simp] theorem State.wr_dot (s : State) (p : Nat) (off : Nat) (w : Word) : (State.wr s p off w).dot = s.dot := rfl
@[simp] theorem State.wr_winRes (s : State) (p : Nat) (off : Nat) (w : Word) : (State.wr s p off w).winRes = s.winRes := rfl
@[simp] theorem State.wr_mst (s : State) (p : Nat) (off : Nat) (w : Word) : (State.wr s p off w).mst = s.mst := rfl
@[simp] theorem State.wr_predict (s : State) (p : Nat) (off : Nat) (w : Word) : (State.wr s p off w).predict = s.predict := rfl
@[simp] theorem State.wr_eng (s : State) (p : Nat) (off : Nat) (w : Word) : (State.wr s p off w).eng = s.eng := rfl
@[simp] theorem State.wr_resA (s : State) (p : Nat) (off : Nat) (w : Word) : (State.wr s p off w).resA = s.resA := rfl
@[simp] theorem State.wr_resN (s : State) (p : Nat) (off : Nat) (w : Word) : (State.wr s p off w).resN = s.resN := rfl
@[simp] theorem State.wr_acts (s : State) (p : Nat) (off : Nat) (w : Word) : (State.wr s p off w).acts = s.acts := rfl
@[simp] theorem State.wr_hits (s : State) (p : Nat) (off : Nat) (w : Word) : (State.wr s p off w).hits = s.hits := rfl
@[simp] theorem State.wr_net (s : State) (p : Nat) (off : Nat) (w : Word) : (State.wr s p off w).net = s.net := rfl
@[simp] theorem State.wr_stream (s : State) (p : Nat) (off : Nat) (w : Word) : (State.wr s p off w).stream = s.stream := rfl
@[simp] theorem State.wr_dec (s : State) (p : Nat) (off : Nat) (w : Word) : (State.wr s p off w).dec = s.dec := rfl
@[simp] theorem State.wr_queue (s : State) (p : Nat) (off : Nat) (w : Word) : (State.wr s p off w).queue = s.queue := rfl
@[simp] theorem State.wr_levels (s : State) (p : Nat) (off : Nat) (w : Word) : (State.wr s p off w).levels = s.levels := rfl
@[simp] theorem State.wr_arb (s : State) (p : Nat) (off : Nat) (w : Word) : (State.wr s p off w).arb = s.arb := rfl
@[simp] theorem State.wr_qshadow (s : State) (p : Nat) (off : Nat) (w : Word) : (State.wr s p off w).qshadow = s.qshadow := rfl
@[simp] theorem State.wr_hqLo (s : State) (p : Nat) (off : Nat) (w : Word) : (State.wr s p off w).hqLo = s.hqLo := rfl
@[simp] theorem State.wr_dma (s : State) (p : Nat) (off : Nat) (w : Word) : (State.wr s p off w).dma = s.dma := rfl
@[simp] theorem State.wr_zip (s : State) (p : Nat) (off : Nat) (w : Word) : (State.wr s p off w).zip = s.zip := rfl
@[simp] theorem State.wr_twl (s : State) (p : Nat) (off : Nat) (w : Word) : (State.wr s p off w).twl = s.twl := rfl
@[simp] theorem State.wr_fifo (s : State) (p : Nat) (off : Nat) (w : Word) : (State.wr s p off w).fifo = s.fifo := rfl
@[simp] theorem State.wr_mc (s : State) (p : Nat) (off : Nat) (w : Word) : (State.wr s p off w).mc = s.mc := rfl
@[simp] theorem State.wr_mcg (s : State) (p : Nat) (off : Nat) (w : Word) : (State.wr s p off w).mcg = s.mcg := rfl
@[simp] theorem State.wr_hlth (s : State) (p : Nat) (off : Nat) (w : Word) : (State.wr s p off w).hlth = s.hlth := rfl
@[simp] theorem State.wr_log (s : State) (p : Nat) (off : Nat) (w : Word) : (State.wr s p off w).log = s.log := rfl
@[simp] theorem State.wr_logLatch (s : State) (p : Nat) (off : Nat) (w : Word) : (State.wr s p off w).logLatch = s.logLatch := rfl
@[simp] theorem State.wr_commits (s : State) (p : Nat) (off : Nat) (w : Word) : (State.wr s p off w).commits = s.commits := rfl
@[simp] theorem State.wr_cmtRec (s : State) (p : Nat) (off : Nat) (w : Word) : (State.wr s p off w).cmtRec = s.cmtRec := rfl
@[simp] theorem State.wr_entered (s : State) (p : Nat) (off : Nat) (w : Word) : (State.wr s p off w).entered = s.entered := rfl
@[simp] theorem State.wr_lockAt (s : State) (p : Nat) (off : Nat) (w : Word) : (State.wr s p off w).lockAt = s.lockAt := rfl
@[simp] theorem State.wr_lockKey (s : State) (p : Nat) (off : Nat) (w : Word) : (State.wr s p off w).lockKey = s.lockKey := rfl
@[simp] theorem State.wr_revoking (s : State) (p : Nat) (off : Nat) (w : Word) : (State.wr s p off w).revoking = s.revoking := rfl
@[simp] theorem State.wr_dead (s : State) (p : Nat) (off : Nat) (w : Word) : (State.wr s p off w).dead = s.dead := rfl
@[simp] theorem State.wr_pending (s : State) (p : Nat) (off : Nat) (w : Word) : (State.wr s p off w).pending = s.pending := rfl
@[simp] theorem State.wr_win (s : State) (p : Nat) (off : Nat) (w : Word) (q0 : Nat) : (State.wr s p off w).win q0 = s.win q0 := rfl
/-! State.wrShadow -/

@[simp] theorem State.wrShadow_mem (s : State) (p : Nat) (off : Nat) (w : Word) : (State.wrShadow s p off w).mem = s.mem := rfl
@[simp] theorem State.wrShadow_blank (s : State) (p : Nat) (off : Nat) (w : Word) : (State.wrShadow s p off w).blank = s.blank := rfl
@[simp] theorem State.wrShadow_badLine (s : State) (p : Nat) (off : Nat) (w : Word) : (State.wrShadow s p off w).badLine = s.badLine := rfl
@[simp] theorem State.wrShadow_regs (s : State) (p : Nat) (off : Nat) (w : Word) : (State.wrShadow s p off w).regs = s.regs := rfl
@[simp] theorem State.wrShadow_wroDone (s : State) (p : Nat) (off : Nat) (w : Word) : (State.wrShadow s p off w).wroDone = s.wroDone := rfl
@[simp] theorem State.wrShadow_window (s : State) (p : Nat) (off : Nat) (w : Word) : (State.wrShadow s p off w).window = s.window := rfl
@[simp] theorem State.wrShadow_out (s : State) (p : Nat) (off : Nat) (w : Word) : (State.wrShadow s p off w).out = s.out := rfl
@[simp] theorem State.wrShadow_raw (s : State) (p : Nat) (off : Nat) (w : Word) : (State.wrShadow s p off w).raw = s.raw := rfl
@[simp] theorem State.wrShadow_free (s : State) (p : Nat) (off : Nat) (w : Word) : (State.wrShadow s p off w).free = s.free := rfl
@[simp] theorem State.wrShadow_fuse (s : State) (p : Nat) (off : Nat) (w : Word) : (State.wrShadow s p off w).fuse = s.fuse := rfl
@[simp] theorem State.wrShadow_trained (s : State) (p : Nat) (off : Nat) (w : Word) : (State.wrShadow s p off w).trained = s.trained := rfl
@[simp] theorem State.wrShadow_bootWait (s : State) (p : Nat) (off : Nat) (w : Word) : (State.wrShadow s p off w).bootWait = s.bootWait := rfl
@[simp] theorem State.wrShadow_tb (s : State) (p : Nat) (off : Nat) (w : Word) : (State.wrShadow s p off w).tb = s.tb := rfl
@[simp] theorem State.wrShadow_crl (s : State) (p : Nat) (off : Nat) (w : Word) : (State.wrShadow s p off w).crl = s.crl := rfl
@[simp] theorem State.wrShadow_evio (s : State) (p : Nat) (off : Nat) (w : Word) : (State.wrShadow s p off w).evio = s.evio := rfl
@[simp] theorem State.wrShadow_evf (s : State) (p : Nat) (off : Nat) (w : Word) : (State.wrShadow s p off w).evf = s.evf := rfl
@[simp] theorem State.wrShadow_raised (s : State) (p : Nat) (off : Nat) (w : Word) : (State.wrShadow s p off w).raised = s.raised := rfl
@[simp] theorem State.wrShadow_chan (s : State) (p : Nat) (off : Nat) (w : Word) : (State.wrShadow s p off w).chan = s.chan := rfl
@[simp] theorem State.wrShadow_tg (s : State) (p : Nat) (off : Nat) (w : Word) : (State.wrShadow s p off w).tg = s.tg := rfl
@[simp] theorem State.wrShadow_view (s : State) (p : Nat) (off : Nat) (w : Word) : (State.wrShadow s p off w).view = s.view := rfl
@[simp] theorem State.wrShadow_link (s : State) (p : Nat) (off : Nat) (w : Word) : (State.wrShadow s p off w).link = s.link := rfl
@[simp] theorem State.wrShadow_train (s : State) (p : Nat) (off : Nat) (w : Word) : (State.wrShadow s p off w).train = s.train := rfl
@[simp] theorem State.wrShadow_joker (s : State) (p : Nat) (off : Nat) (w : Word) : (State.wrShadow s p off w).joker = s.joker := rfl
@[simp] theorem State.wrShadow_roWritten (s : State) (p : Nat) (off : Nat) (w : Word) : (State.wrShadow s p off w).roWritten = s.roWritten := rfl
@[simp] theorem State.wrShadow_jobA (s : State) (p : Nat) (off : Nat) (w : Word) : (State.wrShadow s p off w).jobA = s.jobA := rfl
@[simp] theorem State.wrShadow_jobN (s : State) (p : Nat) (off : Nat) (w : Word) : (State.wrShadow s p off w).jobN = s.jobN := rfl
@[simp] theorem State.wrShadow_valJob (s : State) (p : Nat) (off : Nat) (w : Word) : (State.wrShadow s p off w).valJob = s.valJob := rfl
@[simp] theorem State.wrShadow_jobVals (s : State) (p : Nat) (off : Nat) (w : Word) : (State.wrShadow s p off w).jobVals = s.jobVals := rfl
@[simp] theorem State.wrShadow_intake (s : State) (p : Nat) (off : Nat) (w : Word) : (State.wrShadow s p off w).intake = s.intake := rfl
@[simp] theorem State.wrShadow_pipe (s : State) (p : Nat) (off : Nat) (w : Word) : (State.wrShadow s p off w).pipe = s.pipe := rfl
@[simp] theorem State.wrShadow_tapBuf (s : State) (p : Nat) (off : Nat) (w : Word) : (State.wrShadow s p off w).tapBuf = s.tapBuf := rfl
@[simp] theorem State.wrShadow_corr (s : State) (p : Nat) (off : Nat) (w : Word) : (State.wrShadow s p off w).corr = s.corr := rfl
@[simp] theorem State.wrShadow_stitch_ (s : State) (p : Nat) (off : Nat) (w : Word) : (State.wrShadow s p off w).stitch_ = s.stitch_ := rfl
@[simp] theorem State.wrShadow_dot (s : State) (p : Nat) (off : Nat) (w : Word) : (State.wrShadow s p off w).dot = s.dot := rfl
@[simp] theorem State.wrShadow_winRes (s : State) (p : Nat) (off : Nat) (w : Word) : (State.wrShadow s p off w).winRes = s.winRes := rfl
@[simp] theorem State.wrShadow_mst (s : State) (p : Nat) (off : Nat) (w : Word) : (State.wrShadow s p off w).mst = s.mst := rfl
@[simp] theorem State.wrShadow_predict (s : State) (p : Nat) (off : Nat) (w : Word) : (State.wrShadow s p off w).predict = s.predict := rfl
@[simp] theorem State.wrShadow_eng (s : State) (p : Nat) (off : Nat) (w : Word) : (State.wrShadow s p off w).eng = s.eng := rfl
@[simp] theorem State.wrShadow_resA (s : State) (p : Nat) (off : Nat) (w : Word) : (State.wrShadow s p off w).resA = s.resA := rfl
@[simp] theorem State.wrShadow_resN (s : State) (p : Nat) (off : Nat) (w : Word) : (State.wrShadow s p off w).resN = s.resN := rfl
@[simp] theorem State.wrShadow_acts (s : State) (p : Nat) (off : Nat) (w : Word) : (State.wrShadow s p off w).acts = s.acts := rfl
@[simp] theorem State.wrShadow_hits (s : State) (p : Nat) (off : Nat) (w : Word) : (State.wrShadow s p off w).hits = s.hits := rfl
@[simp] theorem State.wrShadow_net (s : State) (p : Nat) (off : Nat) (w : Word) : (State.wrShadow s p off w).net = s.net := rfl
@[simp] theorem State.wrShadow_stream (s : State) (p : Nat) (off : Nat) (w : Word) : (State.wrShadow s p off w).stream = s.stream := rfl
@[simp] theorem State.wrShadow_dec (s : State) (p : Nat) (off : Nat) (w : Word) : (State.wrShadow s p off w).dec = s.dec := rfl
@[simp] theorem State.wrShadow_queue (s : State) (p : Nat) (off : Nat) (w : Word) : (State.wrShadow s p off w).queue = s.queue := rfl
@[simp] theorem State.wrShadow_levels (s : State) (p : Nat) (off : Nat) (w : Word) : (State.wrShadow s p off w).levels = s.levels := rfl
@[simp] theorem State.wrShadow_arb (s : State) (p : Nat) (off : Nat) (w : Word) : (State.wrShadow s p off w).arb = s.arb := rfl
@[simp] theorem State.wrShadow_qshadow (s : State) (p : Nat) (off : Nat) (w : Word) : (State.wrShadow s p off w).qshadow = s.qshadow := rfl
@[simp] theorem State.wrShadow_hqLo (s : State) (p : Nat) (off : Nat) (w : Word) : (State.wrShadow s p off w).hqLo = s.hqLo := rfl
@[simp] theorem State.wrShadow_dma (s : State) (p : Nat) (off : Nat) (w : Word) : (State.wrShadow s p off w).dma = s.dma := rfl
@[simp] theorem State.wrShadow_zip (s : State) (p : Nat) (off : Nat) (w : Word) : (State.wrShadow s p off w).zip = s.zip := rfl
@[simp] theorem State.wrShadow_twl (s : State) (p : Nat) (off : Nat) (w : Word) : (State.wrShadow s p off w).twl = s.twl := rfl
@[simp] theorem State.wrShadow_fifo (s : State) (p : Nat) (off : Nat) (w : Word) : (State.wrShadow s p off w).fifo = s.fifo := rfl
@[simp] theorem State.wrShadow_mc (s : State) (p : Nat) (off : Nat) (w : Word) : (State.wrShadow s p off w).mc = s.mc := rfl
@[simp] theorem State.wrShadow_mcg (s : State) (p : Nat) (off : Nat) (w : Word) : (State.wrShadow s p off w).mcg = s.mcg := rfl
@[simp] theorem State.wrShadow_hlth (s : State) (p : Nat) (off : Nat) (w : Word) : (State.wrShadow s p off w).hlth = s.hlth := rfl
@[simp] theorem State.wrShadow_log (s : State) (p : Nat) (off : Nat) (w : Word) : (State.wrShadow s p off w).log = s.log := rfl
@[simp] theorem State.wrShadow_logLatch (s : State) (p : Nat) (off : Nat) (w : Word) : (State.wrShadow s p off w).logLatch = s.logLatch := rfl
@[simp] theorem State.wrShadow_commits (s : State) (p : Nat) (off : Nat) (w : Word) : (State.wrShadow s p off w).commits = s.commits := rfl
@[simp] theorem State.wrShadow_cmtRec (s : State) (p : Nat) (off : Nat) (w : Word) : (State.wrShadow s p off w).cmtRec = s.cmtRec := rfl
@[simp] theorem State.wrShadow_entered (s : State) (p : Nat) (off : Nat) (w : Word) : (State.wrShadow s p off w).entered = s.entered := rfl
@[simp] theorem State.wrShadow_lockAt (s : State) (p : Nat) (off : Nat) (w : Word) : (State.wrShadow s p off w).lockAt = s.lockAt := rfl
@[simp] theorem State.wrShadow_lockKey (s : State) (p : Nat) (off : Nat) (w : Word) : (State.wrShadow s p off w).lockKey = s.lockKey := rfl
@[simp] theorem State.wrShadow_revoking (s : State) (p : Nat) (off : Nat) (w : Word) : (State.wrShadow s p off w).revoking = s.revoking := rfl
@[simp] theorem State.wrShadow_dead (s : State) (p : Nat) (off : Nat) (w : Word) : (State.wrShadow s p off w).dead = s.dead := rfl
@[simp] theorem State.wrShadow_pending (s : State) (p : Nat) (off : Nat) (w : Word) : (State.wrShadow s p off w).pending = s.pending := rfl
@[simp] theorem State.wrShadow_rd (s : State) (p : Nat) (off : Nat) (w : Word) (q0 o0 : Nat) : (State.wrShadow s p off w).rd q0 o0 = s.rd q0 o0 := rfl
@[simp] theorem State.wrShadow_fld (s : State) (p : Nat) (off : Nat) (w : Word) (q0 : Nat) (f0 : Fld) : (State.wrShadow s p off w).fld q0 f0 = s.fld q0 f0 := rfl
@[simp] theorem State.wrShadow_win (s : State) (p : Nat) (off : Nat) (w : Word) (q0 : Nat) : (State.wrShadow s p off w).win q0 = s.win q0 := rfl
/-! State.setWin -/

@[simp] theorem State.setWin_mem (s : State) (a : Nat) (w : Word) : (State.setWin s a w).mem = s.mem := rfl
@[simp] theorem State.setWin_blank (s : State) (a : Nat) (w : Word) : (State.setWin s a w).blank = s.blank := rfl
@[simp] theorem State.setWin_badLine (s : State) (a : Nat) (w : Word) : (State.setWin s a w).badLine = s.badLine := rfl
@[simp] theorem State.setWin_regs (s : State) (a : Nat) (w : Word) : (State.setWin s a w).regs = s.regs := rfl
@[simp] theorem State.setWin_shadow (s : State) (a : Nat) (w : Word) : (State.setWin s a w).shadow = s.shadow := rfl
@[simp] theorem State.setWin_wroDone (s : State) (a : Nat) (w : Word) : (State.setWin s a w).wroDone = s.wroDone := rfl
@[simp] theorem State.setWin_out (s : State) (a : Nat) (w : Word) : (State.setWin s a w).out = s.out := rfl
@[simp] theorem State.setWin_raw (s : State) (a : Nat) (w : Word) : (State.setWin s a w).raw = s.raw := rfl
@[simp] theorem State.setWin_free (s : State) (a : Nat) (w : Word) : (State.setWin s a w).free = s.free := rfl
@[simp] theorem State.setWin_fuse (s : State) (a : Nat) (w : Word) : (State.setWin s a w).fuse = s.fuse := rfl
@[simp] theorem State.setWin_trained (s : State) (a : Nat) (w : Word) : (State.setWin s a w).trained = s.trained := rfl
@[simp] theorem State.setWin_bootWait (s : State) (a : Nat) (w : Word) : (State.setWin s a w).bootWait = s.bootWait := rfl
@[simp] theorem State.setWin_tb (s : State) (a : Nat) (w : Word) : (State.setWin s a w).tb = s.tb := rfl
@[simp] theorem State.setWin_crl (s : State) (a : Nat) (w : Word) : (State.setWin s a w).crl = s.crl := rfl
@[simp] theorem State.setWin_evio (s : State) (a : Nat) (w : Word) : (State.setWin s a w).evio = s.evio := rfl
@[simp] theorem State.setWin_evf (s : State) (a : Nat) (w : Word) : (State.setWin s a w).evf = s.evf := rfl
@[simp] theorem State.setWin_raised (s : State) (a : Nat) (w : Word) : (State.setWin s a w).raised = s.raised := rfl
@[simp] theorem State.setWin_chan (s : State) (a : Nat) (w : Word) : (State.setWin s a w).chan = s.chan := rfl
@[simp] theorem State.setWin_tg (s : State) (a : Nat) (w : Word) : (State.setWin s a w).tg = s.tg := rfl
@[simp] theorem State.setWin_view (s : State) (a : Nat) (w : Word) : (State.setWin s a w).view = s.view := rfl
@[simp] theorem State.setWin_link (s : State) (a : Nat) (w : Word) : (State.setWin s a w).link = s.link := rfl
@[simp] theorem State.setWin_train (s : State) (a : Nat) (w : Word) : (State.setWin s a w).train = s.train := rfl
@[simp] theorem State.setWin_joker (s : State) (a : Nat) (w : Word) : (State.setWin s a w).joker = s.joker := rfl
@[simp] theorem State.setWin_roWritten (s : State) (a : Nat) (w : Word) : (State.setWin s a w).roWritten = s.roWritten := rfl
@[simp] theorem State.setWin_jobA (s : State) (a : Nat) (w : Word) : (State.setWin s a w).jobA = s.jobA := rfl
@[simp] theorem State.setWin_jobN (s : State) (a : Nat) (w : Word) : (State.setWin s a w).jobN = s.jobN := rfl
@[simp] theorem State.setWin_valJob (s : State) (a : Nat) (w : Word) : (State.setWin s a w).valJob = s.valJob := rfl
@[simp] theorem State.setWin_jobVals (s : State) (a : Nat) (w : Word) : (State.setWin s a w).jobVals = s.jobVals := rfl
@[simp] theorem State.setWin_intake (s : State) (a : Nat) (w : Word) : (State.setWin s a w).intake = s.intake := rfl
@[simp] theorem State.setWin_pipe (s : State) (a : Nat) (w : Word) : (State.setWin s a w).pipe = s.pipe := rfl
@[simp] theorem State.setWin_tapBuf (s : State) (a : Nat) (w : Word) : (State.setWin s a w).tapBuf = s.tapBuf := rfl
@[simp] theorem State.setWin_corr (s : State) (a : Nat) (w : Word) : (State.setWin s a w).corr = s.corr := rfl
@[simp] theorem State.setWin_stitch_ (s : State) (a : Nat) (w : Word) : (State.setWin s a w).stitch_ = s.stitch_ := rfl
@[simp] theorem State.setWin_dot (s : State) (a : Nat) (w : Word) : (State.setWin s a w).dot = s.dot := rfl
@[simp] theorem State.setWin_winRes (s : State) (a : Nat) (w : Word) : (State.setWin s a w).winRes = s.winRes := rfl
@[simp] theorem State.setWin_mst (s : State) (a : Nat) (w : Word) : (State.setWin s a w).mst = s.mst := rfl
@[simp] theorem State.setWin_predict (s : State) (a : Nat) (w : Word) : (State.setWin s a w).predict = s.predict := rfl
@[simp] theorem State.setWin_eng (s : State) (a : Nat) (w : Word) : (State.setWin s a w).eng = s.eng := rfl
@[simp] theorem State.setWin_resA (s : State) (a : Nat) (w : Word) : (State.setWin s a w).resA = s.resA := rfl
@[simp] theorem State.setWin_resN (s : State) (a : Nat) (w : Word) : (State.setWin s a w).resN = s.resN := rfl
@[simp] theorem State.setWin_acts (s : State) (a : Nat) (w : Word) : (State.setWin s a w).acts = s.acts := rfl
@[simp] theorem State.setWin_hits (s : State) (a : Nat) (w : Word) : (State.setWin s a w).hits = s.hits := rfl
@[simp] theorem State.setWin_net (s : State) (a : Nat) (w : Word) : (State.setWin s a w).net = s.net := rfl
@[simp] theorem State.setWin_stream (s : State) (a : Nat) (w : Word) : (State.setWin s a w).stream = s.stream := rfl
@[simp] theorem State.setWin_dec (s : State) (a : Nat) (w : Word) : (State.setWin s a w).dec = s.dec := rfl
@[simp] theorem State.setWin_queue (s : State) (a : Nat) (w : Word) : (State.setWin s a w).queue = s.queue := rfl
@[simp] theorem State.setWin_levels (s : State) (a : Nat) (w : Word) : (State.setWin s a w).levels = s.levels := rfl
@[simp] theorem State.setWin_arb (s : State) (a : Nat) (w : Word) : (State.setWin s a w).arb = s.arb := rfl
@[simp] theorem State.setWin_qshadow (s : State) (a : Nat) (w : Word) : (State.setWin s a w).qshadow = s.qshadow := rfl
@[simp] theorem State.setWin_hqLo (s : State) (a : Nat) (w : Word) : (State.setWin s a w).hqLo = s.hqLo := rfl
@[simp] theorem State.setWin_dma (s : State) (a : Nat) (w : Word) : (State.setWin s a w).dma = s.dma := rfl
@[simp] theorem State.setWin_zip (s : State) (a : Nat) (w : Word) : (State.setWin s a w).zip = s.zip := rfl
@[simp] theorem State.setWin_twl (s : State) (a : Nat) (w : Word) : (State.setWin s a w).twl = s.twl := rfl
@[simp] theorem State.setWin_fifo (s : State) (a : Nat) (w : Word) : (State.setWin s a w).fifo = s.fifo := rfl
@[simp] theorem State.setWin_mc (s : State) (a : Nat) (w : Word) : (State.setWin s a w).mc = s.mc := rfl
@[simp] theorem State.setWin_mcg (s : State) (a : Nat) (w : Word) : (State.setWin s a w).mcg = s.mcg := rfl
@[simp] theorem State.setWin_hlth (s : State) (a : Nat) (w : Word) : (State.setWin s a w).hlth = s.hlth := rfl
@[simp] theorem State.setWin_log (s : State) (a : Nat) (w : Word) : (State.setWin s a w).log = s.log := rfl
@[simp] theorem State.setWin_logLatch (s : State) (a : Nat) (w : Word) : (State.setWin s a w).logLatch = s.logLatch := rfl
@[simp] theorem State.setWin_commits (s : State) (a : Nat) (w : Word) : (State.setWin s a w).commits = s.commits := rfl
@[simp] theorem State.setWin_cmtRec (s : State) (a : Nat) (w : Word) : (State.setWin s a w).cmtRec = s.cmtRec := rfl
@[simp] theorem State.setWin_entered (s : State) (a : Nat) (w : Word) : (State.setWin s a w).entered = s.entered := rfl
@[simp] theorem State.setWin_lockAt (s : State) (a : Nat) (w : Word) : (State.setWin s a w).lockAt = s.lockAt := rfl
@[simp] theorem State.setWin_lockKey (s : State) (a : Nat) (w : Word) : (State.setWin s a w).lockKey = s.lockKey := rfl
@[simp] theorem State.setWin_revoking (s : State) (a : Nat) (w : Word) : (State.setWin s a w).revoking = s.revoking := rfl
@[simp] theorem State.setWin_dead (s : State) (a : Nat) (w : Word) : (State.setWin s a w).dead = s.dead := rfl
@[simp] theorem State.setWin_pending (s : State) (a : Nat) (w : Word) : (State.setWin s a w).pending = s.pending := rfl
@[simp] theorem State.setWin_rd (s : State) (a : Nat) (w : Word) (q0 o0 : Nat) : (State.setWin s a w).rd q0 o0 = s.rd q0 o0 := rfl
@[simp] theorem State.setWin_fld (s : State) (a : Nat) (w : Word) (q0 : Nat) (f0 : Fld) : (State.setWin s a w).fld q0 f0 = s.fld q0 f0 := rfl
/-! State.emit -/

@[simp] theorem State.emit_mem (s : State) (o : Output) : (State.emit s o).mem = s.mem := rfl
@[simp] theorem State.emit_blank (s : State) (o : Output) : (State.emit s o).blank = s.blank := rfl
@[simp] theorem State.emit_badLine (s : State) (o : Output) : (State.emit s o).badLine = s.badLine := rfl
@[simp] theorem State.emit_regs (s : State) (o : Output) : (State.emit s o).regs = s.regs := rfl
@[simp] theorem State.emit_shadow (s : State) (o : Output) : (State.emit s o).shadow = s.shadow := rfl
@[simp] theorem State.emit_wroDone (s : State) (o : Output) : (State.emit s o).wroDone = s.wroDone := rfl
@[simp] theorem State.emit_window (s : State) (o : Output) : (State.emit s o).window = s.window := rfl
@[simp] theorem State.emit_raw (s : State) (o : Output) : (State.emit s o).raw = s.raw := rfl
@[simp] theorem State.emit_free (s : State) (o : Output) : (State.emit s o).free = s.free := rfl
@[simp] theorem State.emit_fuse (s : State) (o : Output) : (State.emit s o).fuse = s.fuse := rfl
@[simp] theorem State.emit_trained (s : State) (o : Output) : (State.emit s o).trained = s.trained := rfl
@[simp] theorem State.emit_bootWait (s : State) (o : Output) : (State.emit s o).bootWait = s.bootWait := rfl
@[simp] theorem State.emit_tb (s : State) (o : Output) : (State.emit s o).tb = s.tb := rfl
@[simp] theorem State.emit_crl (s : State) (o : Output) : (State.emit s o).crl = s.crl := rfl
@[simp] theorem State.emit_evio (s : State) (o : Output) : (State.emit s o).evio = s.evio := rfl
@[simp] theorem State.emit_evf (s : State) (o : Output) : (State.emit s o).evf = s.evf := rfl
@[simp] theorem State.emit_raised (s : State) (o : Output) : (State.emit s o).raised = s.raised := rfl
@[simp] theorem State.emit_chan (s : State) (o : Output) : (State.emit s o).chan = s.chan := rfl
@[simp] theorem State.emit_tg (s : State) (o : Output) : (State.emit s o).tg = s.tg := rfl
@[simp] theorem State.emit_view (s : State) (o : Output) : (State.emit s o).view = s.view := rfl
@[simp] theorem State.emit_link (s : State) (o : Output) : (State.emit s o).link = s.link := rfl
@[simp] theorem State.emit_train (s : State) (o : Output) : (State.emit s o).train = s.train := rfl
@[simp] theorem State.emit_joker (s : State) (o : Output) : (State.emit s o).joker = s.joker := rfl
@[simp] theorem State.emit_roWritten (s : State) (o : Output) : (State.emit s o).roWritten = s.roWritten := rfl
@[simp] theorem State.emit_jobA (s : State) (o : Output) : (State.emit s o).jobA = s.jobA := rfl
@[simp] theorem State.emit_jobN (s : State) (o : Output) : (State.emit s o).jobN = s.jobN := rfl
@[simp] theorem State.emit_valJob (s : State) (o : Output) : (State.emit s o).valJob = s.valJob := rfl
@[simp] theorem State.emit_jobVals (s : State) (o : Output) : (State.emit s o).jobVals = s.jobVals := rfl
@[simp] theorem State.emit_intake (s : State) (o : Output) : (State.emit s o).intake = s.intake := rfl
@[simp] theorem State.emit_pipe (s : State) (o : Output) : (State.emit s o).pipe = s.pipe := rfl
@[simp] theorem State.emit_tapBuf (s : State) (o : Output) : (State.emit s o).tapBuf = s.tapBuf := rfl
@[simp] theorem State.emit_corr (s : State) (o : Output) : (State.emit s o).corr = s.corr := rfl
@[simp] theorem State.emit_stitch_ (s : State) (o : Output) : (State.emit s o).stitch_ = s.stitch_ := rfl
@[simp] theorem State.emit_dot (s : State) (o : Output) : (State.emit s o).dot = s.dot := rfl
@[simp] theorem State.emit_winRes (s : State) (o : Output) : (State.emit s o).winRes = s.winRes := rfl
@[simp] theorem State.emit_mst (s : State) (o : Output) : (State.emit s o).mst = s.mst := rfl
@[simp] theorem State.emit_predict (s : State) (o : Output) : (State.emit s o).predict = s.predict := rfl
@[simp] theorem State.emit_eng (s : State) (o : Output) : (State.emit s o).eng = s.eng := rfl
@[simp] theorem State.emit_resA (s : State) (o : Output) : (State.emit s o).resA = s.resA := rfl
@[simp] theorem State.emit_resN (s : State) (o : Output) : (State.emit s o).resN = s.resN := rfl
@[simp] theorem State.emit_acts (s : State) (o : Output) : (State.emit s o).acts = s.acts := rfl
@[simp] theorem State.emit_hits (s : State) (o : Output) : (State.emit s o).hits = s.hits := rfl
@[simp] theorem State.emit_net (s : State) (o : Output) : (State.emit s o).net = s.net := rfl
@[simp] theorem State.emit_stream (s : State) (o : Output) : (State.emit s o).stream = s.stream := rfl
@[simp] theorem State.emit_dec (s : State) (o : Output) : (State.emit s o).dec = s.dec := rfl
@[simp] theorem State.emit_queue (s : State) (o : Output) : (State.emit s o).queue = s.queue := rfl
@[simp] theorem State.emit_levels (s : State) (o : Output) : (State.emit s o).levels = s.levels := rfl
@[simp] theorem State.emit_arb (s : State) (o : Output) : (State.emit s o).arb = s.arb := rfl
@[simp] theorem State.emit_qshadow (s : State) (o : Output) : (State.emit s o).qshadow = s.qshadow := rfl
@[simp] theorem State.emit_hqLo (s : State) (o : Output) : (State.emit s o).hqLo = s.hqLo := rfl
@[simp] theorem State.emit_dma (s : State) (o : Output) : (State.emit s o).dma = s.dma := rfl
@[simp] theorem State.emit_zip (s : State) (o : Output) : (State.emit s o).zip = s.zip := rfl
@[simp] theorem State.emit_twl (s : State) (o : Output) : (State.emit s o).twl = s.twl := rfl
@[simp] theorem State.emit_fifo (s : State) (o : Output) : (State.emit s o).fifo = s.fifo := rfl
@[simp] theorem State.emit_mc (s : State) (o : Output) : (State.emit s o).mc = s.mc := rfl
@[simp] theorem State.emit_mcg (s : State) (o : Output) : (State.emit s o).mcg = s.mcg := rfl
@[simp] theorem State.emit_hlth (s : State) (o : Output) : (State.emit s o).hlth = s.hlth := rfl
@[simp] theorem State.emit_log (s : State) (o : Output) : (State.emit s o).log = s.log := rfl
@[simp] theorem State.emit_logLatch (s : State) (o : Output) : (State.emit s o).logLatch = s.logLatch := rfl
@[simp] theorem State.emit_commits (s : State) (o : Output) : (State.emit s o).commits = s.commits := rfl
@[simp] theorem State.emit_cmtRec (s : State) (o : Output) : (State.emit s o).cmtRec = s.cmtRec := rfl
@[simp] theorem State.emit_entered (s : State) (o : Output) : (State.emit s o).entered = s.entered := rfl
@[simp] theorem State.emit_lockAt (s : State) (o : Output) : (State.emit s o).lockAt = s.lockAt := rfl
@[simp] theorem State.emit_lockKey (s : State) (o : Output) : (State.emit s o).lockKey = s.lockKey := rfl
@[simp] theorem State.emit_revoking (s : State) (o : Output) : (State.emit s o).revoking = s.revoking := rfl
@[simp] theorem State.emit_dead (s : State) (o : Output) : (State.emit s o).dead = s.dead := rfl
@[simp] theorem State.emit_pending (s : State) (o : Output) : (State.emit s o).pending = s.pending := rfl
@[simp] theorem State.emit_rd (s : State) (o : Output) (q0 o0 : Nat) : (State.emit s o).rd q0 o0 = s.rd q0 o0 := rfl
@[simp] theorem State.emit_fld (s : State) (o : Output) (q0 : Nat) (f0 : Fld) : (State.emit s o).fld q0 f0 = s.fld q0 f0 := rfl
@[simp] theorem State.emit_win (s : State) (o : Output) (q0 : Nat) : (State.emit s o).win q0 = s.win q0 := rfl
/-! State.drawn -/

@[simp] theorem State.drawn_mem (s : State) : (State.drawn s).mem = s.mem := rfl
@[simp] theorem State.drawn_blank (s : State) : (State.drawn s).blank = s.blank := rfl
@[simp] theorem State.drawn_badLine (s : State) : (State.drawn s).badLine = s.badLine := rfl
@[simp] theorem State.drawn_regs (s : State) : (State.drawn s).regs = s.regs := rfl
@[simp] theorem State.drawn_shadow (s : State) : (State.drawn s).shadow = s.shadow := rfl
@[simp] theorem State.drawn_wroDone (s : State) : (State.drawn s).wroDone = s.wroDone := rfl
@[simp] theorem State.drawn_window (s : State) : (State.drawn s).window = s.window := rfl
@[simp] theorem State.drawn_out (s : State) : (State.drawn s).out = s.out := rfl
@[simp] theorem State.drawn_raw (s : State) : (State.drawn s).raw = s.raw := rfl
@[simp] theorem State.drawn_fuse (s : State) : (State.drawn s).fuse = s.fuse := rfl
@[simp] theorem State.drawn_trained (s : State) : (State.drawn s).trained = s.trained := rfl
@[simp] theorem State.drawn_bootWait (s : State) : (State.drawn s).bootWait = s.bootWait := rfl
@[simp] theorem State.drawn_tb (s : State) : (State.drawn s).tb = s.tb := rfl
@[simp] theorem State.drawn_crl (s : State) : (State.drawn s).crl = s.crl := rfl
@[simp] theorem State.drawn_evio (s : State) : (State.drawn s).evio = s.evio := rfl
@[simp] theorem State.drawn_evf (s : State) : (State.drawn s).evf = s.evf := rfl
@[simp] theorem State.drawn_raised (s : State) : (State.drawn s).raised = s.raised := rfl
@[simp] theorem State.drawn_chan (s : State) : (State.drawn s).chan = s.chan := rfl
@[simp] theorem State.drawn_tg (s : State) : (State.drawn s).tg = s.tg := rfl
@[simp] theorem State.drawn_view (s : State) : (State.drawn s).view = s.view := rfl
@[simp] theorem State.drawn_link (s : State) : (State.drawn s).link = s.link := rfl
@[simp] theorem State.drawn_train (s : State) : (State.drawn s).train = s.train := rfl
@[simp] theorem State.drawn_joker (s : State) : (State.drawn s).joker = s.joker := rfl
@[simp] theorem State.drawn_roWritten (s : State) : (State.drawn s).roWritten = s.roWritten := rfl
@[simp] theorem State.drawn_jobA (s : State) : (State.drawn s).jobA = s.jobA := rfl
@[simp] theorem State.drawn_jobN (s : State) : (State.drawn s).jobN = s.jobN := rfl
@[simp] theorem State.drawn_valJob (s : State) : (State.drawn s).valJob = s.valJob := rfl
@[simp] theorem State.drawn_jobVals (s : State) : (State.drawn s).jobVals = s.jobVals := rfl
@[simp] theorem State.drawn_intake (s : State) : (State.drawn s).intake = s.intake := rfl
@[simp] theorem State.drawn_pipe (s : State) : (State.drawn s).pipe = s.pipe := rfl
@[simp] theorem State.drawn_tapBuf (s : State) : (State.drawn s).tapBuf = s.tapBuf := rfl
@[simp] theorem State.drawn_corr (s : State) : (State.drawn s).corr = s.corr := rfl
@[simp] theorem State.drawn_stitch_ (s : State) : (State.drawn s).stitch_ = s.stitch_ := rfl
@[simp] theorem State.drawn_dot (s : State) : (State.drawn s).dot = s.dot := rfl
@[simp] theorem State.drawn_winRes (s : State) : (State.drawn s).winRes = s.winRes := rfl
@[simp] theorem State.drawn_mst (s : State) : (State.drawn s).mst = s.mst := rfl
@[simp] theorem State.drawn_predict (s : State) : (State.drawn s).predict = s.predict := rfl
@[simp] theorem State.drawn_eng (s : State) : (State.drawn s).eng = s.eng := rfl
@[simp] theorem State.drawn_resA (s : State) : (State.drawn s).resA = s.resA := rfl
@[simp] theorem State.drawn_resN (s : State) : (State.drawn s).resN = s.resN := rfl
@[simp] theorem State.drawn_acts (s : State) : (State.drawn s).acts = s.acts := rfl
@[simp] theorem State.drawn_hits (s : State) : (State.drawn s).hits = s.hits := rfl
@[simp] theorem State.drawn_net (s : State) : (State.drawn s).net = s.net := rfl
@[simp] theorem State.drawn_stream (s : State) : (State.drawn s).stream = s.stream := rfl
@[simp] theorem State.drawn_dec (s : State) : (State.drawn s).dec = s.dec := rfl
@[simp] theorem State.drawn_queue (s : State) : (State.drawn s).queue = s.queue := rfl
@[simp] theorem State.drawn_levels (s : State) : (State.drawn s).levels = s.levels := rfl
@[simp] theorem State.drawn_arb (s : State) : (State.drawn s).arb = s.arb := rfl
@[simp] theorem State.drawn_qshadow (s : State) : (State.drawn s).qshadow = s.qshadow := rfl
@[simp] theorem State.drawn_hqLo (s : State) : (State.drawn s).hqLo = s.hqLo := rfl
@[simp] theorem State.drawn_dma (s : State) : (State.drawn s).dma = s.dma := rfl
@[simp] theorem State.drawn_zip (s : State) : (State.drawn s).zip = s.zip := rfl
@[simp] theorem State.drawn_twl (s : State) : (State.drawn s).twl = s.twl := rfl
@[simp] theorem State.drawn_fifo (s : State) : (State.drawn s).fifo = s.fifo := rfl
@[simp] theorem State.drawn_mc (s : State) : (State.drawn s).mc = s.mc := rfl
@[simp] theorem State.drawn_mcg (s : State) : (State.drawn s).mcg = s.mcg := rfl
@[simp] theorem State.drawn_hlth (s : State) : (State.drawn s).hlth = s.hlth := rfl
@[simp] theorem State.drawn_log (s : State) : (State.drawn s).log = s.log := rfl
@[simp] theorem State.drawn_logLatch (s : State) : (State.drawn s).logLatch = s.logLatch := rfl
@[simp] theorem State.drawn_commits (s : State) : (State.drawn s).commits = s.commits := rfl
@[simp] theorem State.drawn_cmtRec (s : State) : (State.drawn s).cmtRec = s.cmtRec := rfl
@[simp] theorem State.drawn_entered (s : State) : (State.drawn s).entered = s.entered := rfl
@[simp] theorem State.drawn_lockAt (s : State) : (State.drawn s).lockAt = s.lockAt := rfl
@[simp] theorem State.drawn_lockKey (s : State) : (State.drawn s).lockKey = s.lockKey := rfl
@[simp] theorem State.drawn_revoking (s : State) : (State.drawn s).revoking = s.revoking := rfl
@[simp] theorem State.drawn_dead (s : State) : (State.drawn s).dead = s.dead := rfl
@[simp] theorem State.drawn_pending (s : State) : (State.drawn s).pending = s.pending := rfl
@[simp] theorem State.drawn_rd (s : State) (q0 o0 : Nat) : (State.drawn s).rd q0 o0 = s.rd q0 o0 := rfl
@[simp] theorem State.drawn_fld (s : State) (q0 : Nat) (f0 : Fld) : (State.drawn s).fld q0 f0 = s.fld q0 f0 := rfl
@[simp] theorem State.drawn_win (s : State) (q0 : Nat) : (State.drawn s).win q0 = s.win q0 := rfl
/-! State.drawnN -/

@[simp] theorem State.drawnN_mem (s : State) (n : Nat) : (State.drawnN s n).mem = s.mem := rfl
@[simp] theorem State.drawnN_blank (s : State) (n : Nat) : (State.drawnN s n).blank = s.blank := rfl
@[simp] theorem State.drawnN_badLine (s : State) (n : Nat) : (State.drawnN s n).badLine = s.badLine := rfl
@[simp] theorem State.drawnN_regs (s : State) (n : Nat) : (State.drawnN s n).regs = s.regs := rfl
@[simp] theorem State.drawnN_shadow (s : State) (n : Nat) : (State.drawnN s n).shadow = s.shadow := rfl
@[simp] theorem State.drawnN_wroDone (s : State) (n : Nat) : (State.drawnN s n).wroDone = s.wroDone := rfl
@[simp] theorem State.drawnN_window (s : State) (n : Nat) : (State.drawnN s n).window = s.window := rfl
@[simp] theorem State.drawnN_out (s : State) (n : Nat) : (State.drawnN s n).out = s.out := rfl
@[simp] theorem State.drawnN_raw (s : State) (n : Nat) : (State.drawnN s n).raw = s.raw := rfl
@[simp] theorem State.drawnN_fuse (s : State) (n : Nat) : (State.drawnN s n).fuse = s.fuse := rfl
@[simp] theorem State.drawnN_trained (s : State) (n : Nat) : (State.drawnN s n).trained = s.trained := rfl
@[simp] theorem State.drawnN_bootWait (s : State) (n : Nat) : (State.drawnN s n).bootWait = s.bootWait := rfl
@[simp] theorem State.drawnN_tb (s : State) (n : Nat) : (State.drawnN s n).tb = s.tb := rfl
@[simp] theorem State.drawnN_crl (s : State) (n : Nat) : (State.drawnN s n).crl = s.crl := rfl
@[simp] theorem State.drawnN_evio (s : State) (n : Nat) : (State.drawnN s n).evio = s.evio := rfl
@[simp] theorem State.drawnN_evf (s : State) (n : Nat) : (State.drawnN s n).evf = s.evf := rfl
@[simp] theorem State.drawnN_raised (s : State) (n : Nat) : (State.drawnN s n).raised = s.raised := rfl
@[simp] theorem State.drawnN_chan (s : State) (n : Nat) : (State.drawnN s n).chan = s.chan := rfl
@[simp] theorem State.drawnN_tg (s : State) (n : Nat) : (State.drawnN s n).tg = s.tg := rfl
@[simp] theorem State.drawnN_view (s : State) (n : Nat) : (State.drawnN s n).view = s.view := rfl
@[simp] theorem State.drawnN_link (s : State) (n : Nat) : (State.drawnN s n).link = s.link := rfl
@[simp] theorem State.drawnN_train (s : State) (n : Nat) : (State.drawnN s n).train = s.train := rfl
@[simp] theorem State.drawnN_joker (s : State) (n : Nat) : (State.drawnN s n).joker = s.joker := rfl
@[simp] theorem State.drawnN_roWritten (s : State) (n : Nat) : (State.drawnN s n).roWritten = s.roWritten := rfl
@[simp] theorem State.drawnN_jobA (s : State) (n : Nat) : (State.drawnN s n).jobA = s.jobA := rfl
@[simp] theorem State.drawnN_jobN (s : State) (n : Nat) : (State.drawnN s n).jobN = s.jobN := rfl
@[simp] theorem State.drawnN_valJob (s : State) (n : Nat) : (State.drawnN s n).valJob = s.valJob := rfl
@[simp] theorem State.drawnN_jobVals (s : State) (n : Nat) : (State.drawnN s n).jobVals = s.jobVals := rfl
@[simp] theorem State.drawnN_intake (s : State) (n : Nat) : (State.drawnN s n).intake = s.intake := rfl
@[simp] theorem State.drawnN_pipe (s : State) (n : Nat) : (State.drawnN s n).pipe = s.pipe := rfl
@[simp] theorem State.drawnN_tapBuf (s : State) (n : Nat) : (State.drawnN s n).tapBuf = s.tapBuf := rfl
@[simp] theorem State.drawnN_corr (s : State) (n : Nat) : (State.drawnN s n).corr = s.corr := rfl
@[simp] theorem State.drawnN_stitch_ (s : State) (n : Nat) : (State.drawnN s n).stitch_ = s.stitch_ := rfl
@[simp] theorem State.drawnN_dot (s : State) (n : Nat) : (State.drawnN s n).dot = s.dot := rfl
@[simp] theorem State.drawnN_winRes (s : State) (n : Nat) : (State.drawnN s n).winRes = s.winRes := rfl
@[simp] theorem State.drawnN_mst (s : State) (n : Nat) : (State.drawnN s n).mst = s.mst := rfl
@[simp] theorem State.drawnN_predict (s : State) (n : Nat) : (State.drawnN s n).predict = s.predict := rfl
@[simp] theorem State.drawnN_eng (s : State) (n : Nat) : (State.drawnN s n).eng = s.eng := rfl
@[simp] theorem State.drawnN_resA (s : State) (n : Nat) : (State.drawnN s n).resA = s.resA := rfl
@[simp] theorem State.drawnN_resN (s : State) (n : Nat) : (State.drawnN s n).resN = s.resN := rfl
@[simp] theorem State.drawnN_acts (s : State) (n : Nat) : (State.drawnN s n).acts = s.acts := rfl
@[simp] theorem State.drawnN_hits (s : State) (n : Nat) : (State.drawnN s n).hits = s.hits := rfl
@[simp] theorem State.drawnN_net (s : State) (n : Nat) : (State.drawnN s n).net = s.net := rfl
@[simp] theorem State.drawnN_stream (s : State) (n : Nat) : (State.drawnN s n).stream = s.stream := rfl
@[simp] theorem State.drawnN_dec (s : State) (n : Nat) : (State.drawnN s n).dec = s.dec := rfl
@[simp] theorem State.drawnN_queue (s : State) (n : Nat) : (State.drawnN s n).queue = s.queue := rfl
@[simp] theorem State.drawnN_levels (s : State) (n : Nat) : (State.drawnN s n).levels = s.levels := rfl
@[simp] theorem State.drawnN_arb (s : State) (n : Nat) : (State.drawnN s n).arb = s.arb := rfl
@[simp] theorem State.drawnN_qshadow (s : State) (n : Nat) : (State.drawnN s n).qshadow = s.qshadow := rfl
@[simp] theorem State.drawnN_hqLo (s : State) (n : Nat) : (State.drawnN s n).hqLo = s.hqLo := rfl
@[simp] theorem State.drawnN_dma (s : State) (n : Nat) : (State.drawnN s n).dma = s.dma := rfl
@[simp] theorem State.drawnN_zip (s : State) (n : Nat) : (State.drawnN s n).zip = s.zip := rfl
@[simp] theorem State.drawnN_twl (s : State) (n : Nat) : (State.drawnN s n).twl = s.twl := rfl
@[simp] theorem State.drawnN_fifo (s : State) (n : Nat) : (State.drawnN s n).fifo = s.fifo := rfl
@[simp] theorem State.drawnN_mc (s : State) (n : Nat) : (State.drawnN s n).mc = s.mc := rfl
@[simp] theorem State.drawnN_mcg (s : State) (n : Nat) : (State.drawnN s n).mcg = s.mcg := rfl
@[simp] theorem State.drawnN_hlth (s : State) (n : Nat) : (State.drawnN s n).hlth = s.hlth := rfl
@[simp] theorem State.drawnN_log (s : State) (n : Nat) : (State.drawnN s n).log = s.log := rfl
@[simp] theorem State.drawnN_logLatch (s : State) (n : Nat) : (State.drawnN s n).logLatch = s.logLatch := rfl
@[simp] theorem State.drawnN_commits (s : State) (n : Nat) : (State.drawnN s n).commits = s.commits := rfl
@[simp] theorem State.drawnN_cmtRec (s : State) (n : Nat) : (State.drawnN s n).cmtRec = s.cmtRec := rfl
@[simp] theorem State.drawnN_entered (s : State) (n : Nat) : (State.drawnN s n).entered = s.entered := rfl
@[simp] theorem State.drawnN_lockAt (s : State) (n : Nat) : (State.drawnN s n).lockAt = s.lockAt := rfl
@[simp] theorem State.drawnN_lockKey (s : State) (n : Nat) : (State.drawnN s n).lockKey = s.lockKey := rfl
@[simp] theorem State.drawnN_revoking (s : State) (n : Nat) : (State.drawnN s n).revoking = s.revoking := rfl
@[simp] theorem State.drawnN_dead (s : State) (n : Nat) : (State.drawnN s n).dead = s.dead := rfl
@[simp] theorem State.drawnN_pending (s : State) (n : Nat) : (State.drawnN s n).pending = s.pending := rfl
@[simp] theorem State.drawnN_rd (s : State) (n : Nat) (q0 o0 : Nat) : (State.drawnN s n).rd q0 o0 = s.rd q0 o0 := rfl
@[simp] theorem State.drawnN_fld (s : State) (n : Nat) (q0 : Nat) (f0 : Fld) : (State.drawnN s n).fld q0 f0 = s.fld q0 f0 := rfl
@[simp] theorem State.drawnN_win (s : State) (n : Nat) (q0 : Nat) : (State.drawnN s n).win q0 = s.win q0 := rfl
/-! State.advance -/

@[simp] theorem State.advance_mem (s : State) (raw : Nat) : (State.advance s raw).mem = s.mem := rfl
@[simp] theorem State.advance_blank (s : State) (raw : Nat) : (State.advance s raw).blank = s.blank := rfl
@[simp] theorem State.advance_badLine (s : State) (raw : Nat) : (State.advance s raw).badLine = s.badLine := rfl
@[simp] theorem State.advance_regs (s : State) (raw : Nat) : (State.advance s raw).regs = s.regs := rfl
@[simp] theorem State.advance_shadow (s : State) (raw : Nat) : (State.advance s raw).shadow = s.shadow := rfl
@[simp] theorem State.advance_wroDone (s : State) (raw : Nat) : (State.advance s raw).wroDone = s.wroDone := rfl
@[simp] theorem State.advance_window (s : State) (raw : Nat) : (State.advance s raw).window = s.window := rfl
@[simp] theorem State.advance_out (s : State) (raw : Nat) : (State.advance s raw).out = s.out := rfl
@[simp] theorem State.advance_free (s : State) (raw : Nat) : (State.advance s raw).free = s.free := rfl
@[simp] theorem State.advance_fuse (s : State) (raw : Nat) : (State.advance s raw).fuse = s.fuse := rfl
@[simp] theorem State.advance_trained (s : State) (raw : Nat) : (State.advance s raw).trained = s.trained := rfl
@[simp] theorem State.advance_bootWait (s : State) (raw : Nat) : (State.advance s raw).bootWait = s.bootWait := rfl
@[simp] theorem State.advance_tb (s : State) (raw : Nat) : (State.advance s raw).tb = s.tb := rfl
@[simp] theorem State.advance_crl (s : State) (raw : Nat) : (State.advance s raw).crl = s.crl := rfl
@[simp] theorem State.advance_evio (s : State) (raw : Nat) : (State.advance s raw).evio = s.evio := rfl
@[simp] theorem State.advance_evf (s : State) (raw : Nat) : (State.advance s raw).evf = s.evf := rfl
@[simp] theorem State.advance_raised (s : State) (raw : Nat) : (State.advance s raw).raised = s.raised := rfl
@[simp] theorem State.advance_chan (s : State) (raw : Nat) : (State.advance s raw).chan = s.chan := rfl
@[simp] theorem State.advance_tg (s : State) (raw : Nat) : (State.advance s raw).tg = s.tg := rfl
@[simp] theorem State.advance_view (s : State) (raw : Nat) : (State.advance s raw).view = s.view := rfl
@[simp] theorem State.advance_link (s : State) (raw : Nat) : (State.advance s raw).link = s.link := rfl
@[simp] theorem State.advance_train (s : State) (raw : Nat) : (State.advance s raw).train = s.train := rfl
@[simp] theorem State.advance_joker (s : State) (raw : Nat) : (State.advance s raw).joker = s.joker := rfl
@[simp] theorem State.advance_roWritten (s : State) (raw : Nat) : (State.advance s raw).roWritten = s.roWritten := rfl
@[simp] theorem State.advance_jobA (s : State) (raw : Nat) : (State.advance s raw).jobA = s.jobA := rfl
@[simp] theorem State.advance_jobN (s : State) (raw : Nat) : (State.advance s raw).jobN = s.jobN := rfl
@[simp] theorem State.advance_valJob (s : State) (raw : Nat) : (State.advance s raw).valJob = s.valJob := rfl
@[simp] theorem State.advance_jobVals (s : State) (raw : Nat) : (State.advance s raw).jobVals = s.jobVals := rfl
@[simp] theorem State.advance_intake (s : State) (raw : Nat) : (State.advance s raw).intake = s.intake := rfl
@[simp] theorem State.advance_pipe (s : State) (raw : Nat) : (State.advance s raw).pipe = s.pipe := rfl
@[simp] theorem State.advance_tapBuf (s : State) (raw : Nat) : (State.advance s raw).tapBuf = s.tapBuf := rfl
@[simp] theorem State.advance_corr (s : State) (raw : Nat) : (State.advance s raw).corr = s.corr := rfl
@[simp] theorem State.advance_stitch_ (s : State) (raw : Nat) : (State.advance s raw).stitch_ = s.stitch_ := rfl
@[simp] theorem State.advance_dot (s : State) (raw : Nat) : (State.advance s raw).dot = s.dot := rfl
@[simp] theorem State.advance_winRes (s : State) (raw : Nat) : (State.advance s raw).winRes = s.winRes := rfl
@[simp] theorem State.advance_mst (s : State) (raw : Nat) : (State.advance s raw).mst = s.mst := rfl
@[simp] theorem State.advance_predict (s : State) (raw : Nat) : (State.advance s raw).predict = s.predict := rfl
@[simp] theorem State.advance_eng (s : State) (raw : Nat) : (State.advance s raw).eng = s.eng := rfl
@[simp] theorem State.advance_resA (s : State) (raw : Nat) : (State.advance s raw).resA = s.resA := rfl
@[simp] theorem State.advance_resN (s : State) (raw : Nat) : (State.advance s raw).resN = s.resN := rfl
@[simp] theorem State.advance_acts (s : State) (raw : Nat) : (State.advance s raw).acts = s.acts := rfl
@[simp] theorem State.advance_hits (s : State) (raw : Nat) : (State.advance s raw).hits = s.hits := rfl
@[simp] theorem State.advance_net (s : State) (raw : Nat) : (State.advance s raw).net = s.net := rfl
@[simp] theorem State.advance_stream (s : State) (raw : Nat) : (State.advance s raw).stream = s.stream := rfl
@[simp] theorem State.advance_dec (s : State) (raw : Nat) : (State.advance s raw).dec = s.dec := rfl
@[simp] theorem State.advance_queue (s : State) (raw : Nat) : (State.advance s raw).queue = s.queue := rfl
@[simp] theorem State.advance_levels (s : State) (raw : Nat) : (State.advance s raw).levels = s.levels := rfl
@[simp] theorem State.advance_arb (s : State) (raw : Nat) : (State.advance s raw).arb = s.arb := rfl
@[simp] theorem State.advance_qshadow (s : State) (raw : Nat) : (State.advance s raw).qshadow = s.qshadow := rfl
@[simp] theorem State.advance_hqLo (s : State) (raw : Nat) : (State.advance s raw).hqLo = s.hqLo := rfl
@[simp] theorem State.advance_dma (s : State) (raw : Nat) : (State.advance s raw).dma = s.dma := rfl
@[simp] theorem State.advance_zip (s : State) (raw : Nat) : (State.advance s raw).zip = s.zip := rfl
@[simp] theorem State.advance_twl (s : State) (raw : Nat) : (State.advance s raw).twl = s.twl := rfl
@[simp] theorem State.advance_fifo (s : State) (raw : Nat) : (State.advance s raw).fifo = s.fifo := rfl
@[simp] theorem State.advance_mc (s : State) (raw : Nat) : (State.advance s raw).mc = s.mc := rfl
@[simp] theorem State.advance_mcg (s : State) (raw : Nat) : (State.advance s raw).mcg = s.mcg := rfl
@[simp] theorem State.advance_hlth (s : State) (raw : Nat) : (State.advance s raw).hlth = s.hlth := rfl
@[simp] theorem State.advance_log (s : State) (raw : Nat) : (State.advance s raw).log = s.log := rfl
@[simp] theorem State.advance_logLatch (s : State) (raw : Nat) : (State.advance s raw).logLatch = s.logLatch := rfl
@[simp] theorem State.advance_commits (s : State) (raw : Nat) : (State.advance s raw).commits = s.commits := rfl
@[simp] theorem State.advance_cmtRec (s : State) (raw : Nat) : (State.advance s raw).cmtRec = s.cmtRec := rfl
@[simp] theorem State.advance_entered (s : State) (raw : Nat) : (State.advance s raw).entered = s.entered := rfl
@[simp] theorem State.advance_lockAt (s : State) (raw : Nat) : (State.advance s raw).lockAt = s.lockAt := rfl
@[simp] theorem State.advance_lockKey (s : State) (raw : Nat) : (State.advance s raw).lockKey = s.lockKey := rfl
@[simp] theorem State.advance_revoking (s : State) (raw : Nat) : (State.advance s raw).revoking = s.revoking := rfl
@[simp] theorem State.advance_dead (s : State) (raw : Nat) : (State.advance s raw).dead = s.dead := rfl
@[simp] theorem State.advance_pending (s : State) (raw : Nat) : (State.advance s raw).pending = s.pending := rfl
@[simp] theorem State.advance_rd (s : State) (raw : Nat) (q0 o0 : Nat) : (State.advance s raw).rd q0 o0 = s.rd q0 o0 := rfl
@[simp] theorem State.advance_fld (s : State) (raw : Nat) (q0 : Nat) (f0 : Fld) : (State.advance s raw).fld q0 f0 = s.fld q0 f0 := rfl
@[simp] theorem State.advance_win (s : State) (raw : Nat) (q0 : Nat) : (State.advance s raw).win q0 = s.win q0 := rfl
/-! State.blowFuses -/

@[simp] theorem State.blowFuses_mem (s : State) (m : Nat) : (State.blowFuses s m).mem = s.mem := rfl
@[simp] theorem State.blowFuses_blank (s : State) (m : Nat) : (State.blowFuses s m).blank = s.blank := rfl
@[simp] theorem State.blowFuses_badLine (s : State) (m : Nat) : (State.blowFuses s m).badLine = s.badLine := rfl
@[simp] theorem State.blowFuses_regs (s : State) (m : Nat) : (State.blowFuses s m).regs = s.regs := rfl
@[simp] theorem State.blowFuses_shadow (s : State) (m : Nat) : (State.blowFuses s m).shadow = s.shadow := rfl
@[simp] theorem State.blowFuses_wroDone (s : State) (m : Nat) : (State.blowFuses s m).wroDone = s.wroDone := rfl
@[simp] theorem State.blowFuses_window (s : State) (m : Nat) : (State.blowFuses s m).window = s.window := rfl
@[simp] theorem State.blowFuses_out (s : State) (m : Nat) : (State.blowFuses s m).out = s.out := rfl
@[simp] theorem State.blowFuses_raw (s : State) (m : Nat) : (State.blowFuses s m).raw = s.raw := rfl
@[simp] theorem State.blowFuses_free (s : State) (m : Nat) : (State.blowFuses s m).free = s.free := rfl
@[simp] theorem State.blowFuses_trained (s : State) (m : Nat) : (State.blowFuses s m).trained = s.trained := rfl
@[simp] theorem State.blowFuses_bootWait (s : State) (m : Nat) : (State.blowFuses s m).bootWait = s.bootWait := rfl
@[simp] theorem State.blowFuses_tb (s : State) (m : Nat) : (State.blowFuses s m).tb = s.tb := rfl
@[simp] theorem State.blowFuses_crl (s : State) (m : Nat) : (State.blowFuses s m).crl = s.crl := rfl
@[simp] theorem State.blowFuses_evio (s : State) (m : Nat) : (State.blowFuses s m).evio = s.evio := rfl
@[simp] theorem State.blowFuses_evf (s : State) (m : Nat) : (State.blowFuses s m).evf = s.evf := rfl
@[simp] theorem State.blowFuses_raised (s : State) (m : Nat) : (State.blowFuses s m).raised = s.raised := rfl
@[simp] theorem State.blowFuses_chan (s : State) (m : Nat) : (State.blowFuses s m).chan = s.chan := rfl
@[simp] theorem State.blowFuses_tg (s : State) (m : Nat) : (State.blowFuses s m).tg = s.tg := rfl
@[simp] theorem State.blowFuses_view (s : State) (m : Nat) : (State.blowFuses s m).view = s.view := rfl
@[simp] theorem State.blowFuses_link (s : State) (m : Nat) : (State.blowFuses s m).link = s.link := rfl
@[simp] theorem State.blowFuses_train (s : State) (m : Nat) : (State.blowFuses s m).train = s.train := rfl
@[simp] theorem State.blowFuses_joker (s : State) (m : Nat) : (State.blowFuses s m).joker = s.joker := rfl
@[simp] theorem State.blowFuses_roWritten (s : State) (m : Nat) : (State.blowFuses s m).roWritten = s.roWritten := rfl
@[simp] theorem State.blowFuses_jobA (s : State) (m : Nat) : (State.blowFuses s m).jobA = s.jobA := rfl
@[simp] theorem State.blowFuses_jobN (s : State) (m : Nat) : (State.blowFuses s m).jobN = s.jobN := rfl
@[simp] theorem State.blowFuses_valJob (s : State) (m : Nat) : (State.blowFuses s m).valJob = s.valJob := rfl
@[simp] theorem State.blowFuses_jobVals (s : State) (m : Nat) : (State.blowFuses s m).jobVals = s.jobVals := rfl
@[simp] theorem State.blowFuses_intake (s : State) (m : Nat) : (State.blowFuses s m).intake = s.intake := rfl
@[simp] theorem State.blowFuses_pipe (s : State) (m : Nat) : (State.blowFuses s m).pipe = s.pipe := rfl
@[simp] theorem State.blowFuses_tapBuf (s : State) (m : Nat) : (State.blowFuses s m).tapBuf = s.tapBuf := rfl
@[simp] theorem State.blowFuses_corr (s : State) (m : Nat) : (State.blowFuses s m).corr = s.corr := rfl
@[simp] theorem State.blowFuses_stitch_ (s : State) (m : Nat) : (State.blowFuses s m).stitch_ = s.stitch_ := rfl
@[simp] theorem State.blowFuses_dot (s : State) (m : Nat) : (State.blowFuses s m).dot = s.dot := rfl
@[simp] theorem State.blowFuses_winRes (s : State) (m : Nat) : (State.blowFuses s m).winRes = s.winRes := rfl
@[simp] theorem State.blowFuses_mst (s : State) (m : Nat) : (State.blowFuses s m).mst = s.mst := rfl
@[simp] theorem State.blowFuses_predict (s : State) (m : Nat) : (State.blowFuses s m).predict = s.predict := rfl
@[simp] theorem State.blowFuses_eng (s : State) (m : Nat) : (State.blowFuses s m).eng = s.eng := rfl
@[simp] theorem State.blowFuses_resA (s : State) (m : Nat) : (State.blowFuses s m).resA = s.resA := rfl
@[simp] theorem State.blowFuses_resN (s : State) (m : Nat) : (State.blowFuses s m).resN = s.resN := rfl
@[simp] theorem State.blowFuses_acts (s : State) (m : Nat) : (State.blowFuses s m).acts = s.acts := rfl
@[simp] theorem State.blowFuses_hits (s : State) (m : Nat) : (State.blowFuses s m).hits = s.hits := rfl
@[simp] theorem State.blowFuses_net (s : State) (m : Nat) : (State.blowFuses s m).net = s.net := rfl
@[simp] theorem State.blowFuses_stream (s : State) (m : Nat) : (State.blowFuses s m).stream = s.stream := rfl
@[simp] theorem State.blowFuses_dec (s : State) (m : Nat) : (State.blowFuses s m).dec = s.dec := rfl
@[simp] theorem State.blowFuses_queue (s : State) (m : Nat) : (State.blowFuses s m).queue = s.queue := rfl
@[simp] theorem State.blowFuses_levels (s : State) (m : Nat) : (State.blowFuses s m).levels = s.levels := rfl
@[simp] theorem State.blowFuses_arb (s : State) (m : Nat) : (State.blowFuses s m).arb = s.arb := rfl
@[simp] theorem State.blowFuses_qshadow (s : State) (m : Nat) : (State.blowFuses s m).qshadow = s.qshadow := rfl
@[simp] theorem State.blowFuses_hqLo (s : State) (m : Nat) : (State.blowFuses s m).hqLo = s.hqLo := rfl
@[simp] theorem State.blowFuses_dma (s : State) (m : Nat) : (State.blowFuses s m).dma = s.dma := rfl
@[simp] theorem State.blowFuses_zip (s : State) (m : Nat) : (State.blowFuses s m).zip = s.zip := rfl
@[simp] theorem State.blowFuses_twl (s : State) (m : Nat) : (State.blowFuses s m).twl = s.twl := rfl
@[simp] theorem State.blowFuses_fifo (s : State) (m : Nat) : (State.blowFuses s m).fifo = s.fifo := rfl
@[simp] theorem State.blowFuses_mc (s : State) (m : Nat) : (State.blowFuses s m).mc = s.mc := rfl
@[simp] theorem State.blowFuses_mcg (s : State) (m : Nat) : (State.blowFuses s m).mcg = s.mcg := rfl
@[simp] theorem State.blowFuses_hlth (s : State) (m : Nat) : (State.blowFuses s m).hlth = s.hlth := rfl
@[simp] theorem State.blowFuses_log (s : State) (m : Nat) : (State.blowFuses s m).log = s.log := rfl
@[simp] theorem State.blowFuses_logLatch (s : State) (m : Nat) : (State.blowFuses s m).logLatch = s.logLatch := rfl
@[simp] theorem State.blowFuses_commits (s : State) (m : Nat) : (State.blowFuses s m).commits = s.commits := rfl
@[simp] theorem State.blowFuses_cmtRec (s : State) (m : Nat) : (State.blowFuses s m).cmtRec = s.cmtRec := rfl
@[simp] theorem State.blowFuses_entered (s : State) (m : Nat) : (State.blowFuses s m).entered = s.entered := rfl
@[simp] theorem State.blowFuses_lockAt (s : State) (m : Nat) : (State.blowFuses s m).lockAt = s.lockAt := rfl
@[simp] theorem State.blowFuses_lockKey (s : State) (m : Nat) : (State.blowFuses s m).lockKey = s.lockKey := rfl
@[simp] theorem State.blowFuses_revoking (s : State) (m : Nat) : (State.blowFuses s m).revoking = s.revoking := rfl
@[simp] theorem State.blowFuses_dead (s : State) (m : Nat) : (State.blowFuses s m).dead = s.dead := rfl
@[simp] theorem State.blowFuses_pending (s : State) (m : Nat) : (State.blowFuses s m).pending = s.pending := rfl
@[simp] theorem State.blowFuses_rd (s : State) (m : Nat) (q0 o0 : Nat) : (State.blowFuses s m).rd q0 o0 = s.rd q0 o0 := rfl
@[simp] theorem State.blowFuses_fld (s : State) (m : Nat) (q0 : Nat) (f0 : Fld) : (State.blowFuses s m).fld q0 f0 = s.fld q0 f0 := rfl
@[simp] theorem State.blowFuses_win (s : State) (m : Nat) (q0 : Nat) : (State.blowFuses s m).win q0 = s.win q0 := rfl
/-! State.setQ -/

@[simp] theorem State.setQ_mem (s : State) (q : Nat) (v : Queue) : (State.setQ s q v).mem = s.mem := rfl
@[simp] theorem State.setQ_blank (s : State) (q : Nat) (v : Queue) : (State.setQ s q v).blank = s.blank := rfl
@[simp] theorem State.setQ_badLine (s : State) (q : Nat) (v : Queue) : (State.setQ s q v).badLine = s.badLine := rfl
@[simp] theorem State.setQ_regs (s : State) (q : Nat) (v : Queue) : (State.setQ s q v).regs = s.regs := rfl
@[simp] theorem State.setQ_shadow (s : State) (q : Nat) (v : Queue) : (State.setQ s q v).shadow = s.shadow := rfl
@[simp] theorem State.setQ_wroDone (s : State) (q : Nat) (v : Queue) : (State.setQ s q v).wroDone = s.wroDone := rfl
@[simp] theorem State.setQ_window (s : State) (q : Nat) (v : Queue) : (State.setQ s q v).window = s.window := rfl
@[simp] theorem State.setQ_out (s : State) (q : Nat) (v : Queue) : (State.setQ s q v).out = s.out := rfl
@[simp] theorem State.setQ_raw (s : State) (q : Nat) (v : Queue) : (State.setQ s q v).raw = s.raw := rfl
@[simp] theorem State.setQ_free (s : State) (q : Nat) (v : Queue) : (State.setQ s q v).free = s.free := rfl
@[simp] theorem State.setQ_fuse (s : State) (q : Nat) (v : Queue) : (State.setQ s q v).fuse = s.fuse := rfl
@[simp] theorem State.setQ_trained (s : State) (q : Nat) (v : Queue) : (State.setQ s q v).trained = s.trained := rfl
@[simp] theorem State.setQ_bootWait (s : State) (q : Nat) (v : Queue) : (State.setQ s q v).bootWait = s.bootWait := rfl
@[simp] theorem State.setQ_tb (s : State) (q : Nat) (v : Queue) : (State.setQ s q v).tb = s.tb := rfl
@[simp] theorem State.setQ_crl (s : State) (q : Nat) (v : Queue) : (State.setQ s q v).crl = s.crl := rfl
@[simp] theorem State.setQ_evio (s : State) (q : Nat) (v : Queue) : (State.setQ s q v).evio = s.evio := rfl
@[simp] theorem State.setQ_evf (s : State) (q : Nat) (v : Queue) : (State.setQ s q v).evf = s.evf := rfl
@[simp] theorem State.setQ_raised (s : State) (q : Nat) (v : Queue) : (State.setQ s q v).raised = s.raised := rfl
@[simp] theorem State.setQ_chan (s : State) (q : Nat) (v : Queue) : (State.setQ s q v).chan = s.chan := rfl
@[simp] theorem State.setQ_tg (s : State) (q : Nat) (v : Queue) : (State.setQ s q v).tg = s.tg := rfl
@[simp] theorem State.setQ_view (s : State) (q : Nat) (v : Queue) : (State.setQ s q v).view = s.view := rfl
@[simp] theorem State.setQ_link (s : State) (q : Nat) (v : Queue) : (State.setQ s q v).link = s.link := rfl
@[simp] theorem State.setQ_train (s : State) (q : Nat) (v : Queue) : (State.setQ s q v).train = s.train := rfl
@[simp] theorem State.setQ_joker (s : State) (q : Nat) (v : Queue) : (State.setQ s q v).joker = s.joker := rfl
@[simp] theorem State.setQ_roWritten (s : State) (q : Nat) (v : Queue) : (State.setQ s q v).roWritten = s.roWritten := rfl
@[simp] theorem State.setQ_jobA (s : State) (q : Nat) (v : Queue) : (State.setQ s q v).jobA = s.jobA := rfl
@[simp] theorem State.setQ_jobN (s : State) (q : Nat) (v : Queue) : (State.setQ s q v).jobN = s.jobN := rfl
@[simp] theorem State.setQ_valJob (s : State) (q : Nat) (v : Queue) : (State.setQ s q v).valJob = s.valJob := rfl
@[simp] theorem State.setQ_jobVals (s : State) (q : Nat) (v : Queue) : (State.setQ s q v).jobVals = s.jobVals := rfl
@[simp] theorem State.setQ_intake (s : State) (q : Nat) (v : Queue) : (State.setQ s q v).intake = s.intake := rfl
@[simp] theorem State.setQ_pipe (s : State) (q : Nat) (v : Queue) : (State.setQ s q v).pipe = s.pipe := rfl
@[simp] theorem State.setQ_tapBuf (s : State) (q : Nat) (v : Queue) : (State.setQ s q v).tapBuf = s.tapBuf := rfl
@[simp] theorem State.setQ_corr (s : State) (q : Nat) (v : Queue) : (State.setQ s q v).corr = s.corr := rfl
@[simp] theorem State.setQ_stitch_ (s : State) (q : Nat) (v : Queue) : (State.setQ s q v).stitch_ = s.stitch_ := rfl
@[simp] theorem State.setQ_dot (s : State) (q : Nat) (v : Queue) : (State.setQ s q v).dot = s.dot := rfl
@[simp] theorem State.setQ_winRes (s : State) (q : Nat) (v : Queue) : (State.setQ s q v).winRes = s.winRes := rfl
@[simp] theorem State.setQ_mst (s : State) (q : Nat) (v : Queue) : (State.setQ s q v).mst = s.mst := rfl
@[simp] theorem State.setQ_predict (s : State) (q : Nat) (v : Queue) : (State.setQ s q v).predict = s.predict := rfl
@[simp] theorem State.setQ_eng (s : State) (q : Nat) (v : Queue) : (State.setQ s q v).eng = s.eng := rfl
@[simp] theorem State.setQ_resA (s : State) (q : Nat) (v : Queue) : (State.setQ s q v).resA = s.resA := rfl
@[simp] theorem State.setQ_resN (s : State) (q : Nat) (v : Queue) : (State.setQ s q v).resN = s.resN := rfl
@[simp] theorem State.setQ_acts (s : State) (q : Nat) (v : Queue) : (State.setQ s q v).acts = s.acts := rfl
@[simp] theorem State.setQ_hits (s : State) (q : Nat) (v : Queue) : (State.setQ s q v).hits = s.hits := rfl
@[simp] theorem State.setQ_net (s : State) (q : Nat) (v : Queue) : (State.setQ s q v).net = s.net := rfl
@[simp] theorem State.setQ_stream (s : State) (q : Nat) (v : Queue) : (State.setQ s q v).stream = s.stream := rfl
@[simp] theorem State.setQ_dec (s : State) (q : Nat) (v : Queue) : (State.setQ s q v).dec = s.dec := rfl
@[simp] theorem State.setQ_levels (s : State) (q : Nat) (v : Queue) : (State.setQ s q v).levels = s.levels := rfl
@[simp] theorem State.setQ_arb (s : State) (q : Nat) (v : Queue) : (State.setQ s q v).arb = s.arb := rfl
@[simp] theorem State.setQ_qshadow (s : State) (q : Nat) (v : Queue) : (State.setQ s q v).qshadow = s.qshadow := rfl
@[simp] theorem State.setQ_hqLo (s : State) (q : Nat) (v : Queue) : (State.setQ s q v).hqLo = s.hqLo := rfl
@[simp] theorem State.setQ_dma (s : State) (q : Nat) (v : Queue) : (State.setQ s q v).dma = s.dma := rfl
@[simp] theorem State.setQ_zip (s : State) (q : Nat) (v : Queue) : (State.setQ s q v).zip = s.zip := rfl
@[simp] theorem State.setQ_twl (s : State) (q : Nat) (v : Queue) : (State.setQ s q v).twl = s.twl := rfl
@[simp] theorem State.setQ_fifo (s : State) (q : Nat) (v : Queue) : (State.setQ s q v).fifo = s.fifo := rfl
@[simp] theorem State.setQ_mc (s : State) (q : Nat) (v : Queue) : (State.setQ s q v).mc = s.mc := rfl
@[simp] theorem State.setQ_mcg (s : State) (q : Nat) (v : Queue) : (State.setQ s q v).mcg = s.mcg := rfl
@[simp] theorem State.setQ_hlth (s : State) (q : Nat) (v : Queue) : (State.setQ s q v).hlth = s.hlth := rfl
@[simp] theorem State.setQ_log (s : State) (q : Nat) (v : Queue) : (State.setQ s q v).log = s.log := rfl
@[simp] theorem State.setQ_logLatch (s : State) (q : Nat) (v : Queue) : (State.setQ s q v).logLatch = s.logLatch := rfl
@[simp] theorem State.setQ_commits (s : State) (q : Nat) (v : Queue) : (State.setQ s q v).commits = s.commits := rfl
@[simp] theorem State.setQ_cmtRec (s : State) (q : Nat) (v : Queue) : (State.setQ s q v).cmtRec = s.cmtRec := rfl
@[simp] theorem State.setQ_entered (s : State) (q : Nat) (v : Queue) : (State.setQ s q v).entered = s.entered := rfl
@[simp] theorem State.setQ_lockAt (s : State) (q : Nat) (v : Queue) : (State.setQ s q v).lockAt = s.lockAt := rfl
@[simp] theorem State.setQ_lockKey (s : State) (q : Nat) (v : Queue) : (State.setQ s q v).lockKey = s.lockKey := rfl
@[simp] theorem State.setQ_revoking (s : State) (q : Nat) (v : Queue) : (State.setQ s q v).revoking = s.revoking := rfl
@[simp] theorem State.setQ_dead (s : State) (q : Nat) (v : Queue) : (State.setQ s q v).dead = s.dead := rfl
@[simp] theorem State.setQ_pending (s : State) (q : Nat) (v : Queue) : (State.setQ s q v).pending = s.pending := rfl
@[simp] theorem State.setQ_rd (s : State) (q : Nat) (v : Queue) (q0 o0 : Nat) : (State.setQ s q v).rd q0 o0 = s.rd q0 o0 := rfl
@[simp] theorem State.setQ_fld (s : State) (q : Nat) (v : Queue) (q0 : Nat) (f0 : Fld) : (State.setQ s q v).fld q0 f0 = s.fld q0 f0 := rfl
@[simp] theorem State.setQ_win (s : State) (q : Nat) (v : Queue) (q0 : Nat) : (State.setQ s q v).win q0 = s.win q0 := rfl
/-! State.putLink -/

@[simp] theorem State.putLink_mem (s : State) (p : Nat) (l : Link) : (State.putLink s p l).mem = s.mem := rfl
@[simp] theorem State.putLink_blank (s : State) (p : Nat) (l : Link) : (State.putLink s p l).blank = s.blank := rfl
@[simp] theorem State.putLink_badLine (s : State) (p : Nat) (l : Link) : (State.putLink s p l).badLine = s.badLine := rfl
@[simp] theorem State.putLink_regs (s : State) (p : Nat) (l : Link) : (State.putLink s p l).regs = s.regs := rfl
@[simp] theorem State.putLink_shadow (s : State) (p : Nat) (l : Link) : (State.putLink s p l).shadow = s.shadow := rfl
@[simp] theorem State.putLink_wroDone (s : State) (p : Nat) (l : Link) : (State.putLink s p l).wroDone = s.wroDone := rfl
@[simp] theorem State.putLink_window (s : State) (p : Nat) (l : Link) : (State.putLink s p l).window = s.window := rfl
@[simp] theorem State.putLink_out (s : State) (p : Nat) (l : Link) : (State.putLink s p l).out = s.out := rfl
@[simp] theorem State.putLink_raw (s : State) (p : Nat) (l : Link) : (State.putLink s p l).raw = s.raw := rfl
@[simp] theorem State.putLink_free (s : State) (p : Nat) (l : Link) : (State.putLink s p l).free = s.free := rfl
@[simp] theorem State.putLink_fuse (s : State) (p : Nat) (l : Link) : (State.putLink s p l).fuse = s.fuse := rfl
@[simp] theorem State.putLink_trained (s : State) (p : Nat) (l : Link) : (State.putLink s p l).trained = s.trained := rfl
@[simp] theorem State.putLink_bootWait (s : State) (p : Nat) (l : Link) : (State.putLink s p l).bootWait = s.bootWait := rfl
@[simp] theorem State.putLink_tb (s : State) (p : Nat) (l : Link) : (State.putLink s p l).tb = s.tb := rfl
@[simp] theorem State.putLink_crl (s : State) (p : Nat) (l : Link) : (State.putLink s p l).crl = s.crl := rfl
@[simp] theorem State.putLink_evio (s : State) (p : Nat) (l : Link) : (State.putLink s p l).evio = s.evio := rfl
@[simp] theorem State.putLink_evf (s : State) (p : Nat) (l : Link) : (State.putLink s p l).evf = s.evf := rfl
@[simp] theorem State.putLink_raised (s : State) (p : Nat) (l : Link) : (State.putLink s p l).raised = s.raised := rfl
@[simp] theorem State.putLink_chan (s : State) (p : Nat) (l : Link) : (State.putLink s p l).chan = s.chan := rfl
@[simp] theorem State.putLink_tg (s : State) (p : Nat) (l : Link) : (State.putLink s p l).tg = s.tg := rfl
@[simp] theorem State.putLink_view (s : State) (p : Nat) (l : Link) : (State.putLink s p l).view = s.view := rfl
@[simp] theorem State.putLink_train (s : State) (p : Nat) (l : Link) : (State.putLink s p l).train = s.train := rfl
@[simp] theorem State.putLink_joker (s : State) (p : Nat) (l : Link) : (State.putLink s p l).joker = s.joker := rfl
@[simp] theorem State.putLink_roWritten (s : State) (p : Nat) (l : Link) : (State.putLink s p l).roWritten = s.roWritten := rfl
@[simp] theorem State.putLink_jobA (s : State) (p : Nat) (l : Link) : (State.putLink s p l).jobA = s.jobA := rfl
@[simp] theorem State.putLink_jobN (s : State) (p : Nat) (l : Link) : (State.putLink s p l).jobN = s.jobN := rfl
@[simp] theorem State.putLink_valJob (s : State) (p : Nat) (l : Link) : (State.putLink s p l).valJob = s.valJob := rfl
@[simp] theorem State.putLink_jobVals (s : State) (p : Nat) (l : Link) : (State.putLink s p l).jobVals = s.jobVals := rfl
@[simp] theorem State.putLink_intake (s : State) (p : Nat) (l : Link) : (State.putLink s p l).intake = s.intake := rfl
@[simp] theorem State.putLink_pipe (s : State) (p : Nat) (l : Link) : (State.putLink s p l).pipe = s.pipe := rfl
@[simp] theorem State.putLink_tapBuf (s : State) (p : Nat) (l : Link) : (State.putLink s p l).tapBuf = s.tapBuf := rfl
@[simp] theorem State.putLink_corr (s : State) (p : Nat) (l : Link) : (State.putLink s p l).corr = s.corr := rfl
@[simp] theorem State.putLink_stitch_ (s : State) (p : Nat) (l : Link) : (State.putLink s p l).stitch_ = s.stitch_ := rfl
@[simp] theorem State.putLink_dot (s : State) (p : Nat) (l : Link) : (State.putLink s p l).dot = s.dot := rfl
@[simp] theorem State.putLink_winRes (s : State) (p : Nat) (l : Link) : (State.putLink s p l).winRes = s.winRes := rfl
@[simp] theorem State.putLink_mst (s : State) (p : Nat) (l : Link) : (State.putLink s p l).mst = s.mst := rfl
@[simp] theorem State.putLink_predict (s : State) (p : Nat) (l : Link) : (State.putLink s p l).predict = s.predict := rfl
@[simp] theorem State.putLink_eng (s : State) (p : Nat) (l : Link) : (State.putLink s p l).eng = s.eng := rfl
@[simp] theorem State.putLink_resA (s : State) (p : Nat) (l : Link) : (State.putLink s p l).resA = s.resA := rfl
@[simp] theorem State.putLink_resN (s : State) (p : Nat) (l : Link) : (State.putLink s p l).resN = s.resN := rfl
@[simp] theorem State.putLink_acts (s : State) (p : Nat) (l : Link) : (State.putLink s p l).acts = s.acts := rfl
@[simp] theorem State.putLink_hits (s : State) (p : Nat) (l : Link) : (State.putLink s p l).hits = s.hits := rfl
@[simp] theorem State.putLink_net (s : State) (p : Nat) (l : Link) : (State.putLink s p l).net = s.net := rfl
@[simp] theorem State.putLink_stream (s : State) (p : Nat) (l : Link) : (State.putLink s p l).stream = s.stream := rfl
@[simp] theorem State.putLink_dec (s : State) (p : Nat) (l : Link) : (State.putLink s p l).dec = s.dec := rfl
@[simp] theorem State.putLink_queue (s : State) (p : Nat) (l : Link) : (State.putLink s p l).queue = s.queue := rfl
@[simp] theorem State.putLink_levels (s : State) (p : Nat) (l : Link) : (State.putLink s p l).levels = s.levels := rfl
@[simp] theorem State.putLink_arb (s : State) (p : Nat) (l : Link) : (State.putLink s p l).arb = s.arb := rfl
@[simp] theorem State.putLink_qshadow (s : State) (p : Nat) (l : Link) : (State.putLink s p l).qshadow = s.qshadow := rfl
@[simp] theorem State.putLink_hqLo (s : State) (p : Nat) (l : Link) : (State.putLink s p l).hqLo = s.hqLo := rfl
@[simp] theorem State.putLink_dma (s : State) (p : Nat) (l : Link) : (State.putLink s p l).dma = s.dma := rfl
@[simp] theorem State.putLink_zip (s : State) (p : Nat) (l : Link) : (State.putLink s p l).zip = s.zip := rfl
@[simp] theorem State.putLink_twl (s : State) (p : Nat) (l : Link) : (State.putLink s p l).twl = s.twl := rfl
@[simp] theorem State.putLink_fifo (s : State) (p : Nat) (l : Link) : (State.putLink s p l).fifo = s.fifo := rfl
@[simp] theorem State.putLink_mc (s : State) (p : Nat) (l : Link) : (State.putLink s p l).mc = s.mc := rfl
@[simp] theorem State.putLink_mcg (s : State) (p : Nat) (l : Link) : (State.putLink s p l).mcg = s.mcg := rfl
@[simp] theorem State.putLink_hlth (s : State) (p : Nat) (l : Link) : (State.putLink s p l).hlth = s.hlth := rfl
@[simp] theorem State.putLink_log (s : State) (p : Nat) (l : Link) : (State.putLink s p l).log = s.log := rfl
@[simp] theorem State.putLink_logLatch (s : State) (p : Nat) (l : Link) : (State.putLink s p l).logLatch = s.logLatch := rfl
@[simp] theorem State.putLink_commits (s : State) (p : Nat) (l : Link) : (State.putLink s p l).commits = s.commits := rfl
@[simp] theorem State.putLink_cmtRec (s : State) (p : Nat) (l : Link) : (State.putLink s p l).cmtRec = s.cmtRec := rfl
@[simp] theorem State.putLink_entered (s : State) (p : Nat) (l : Link) : (State.putLink s p l).entered = s.entered := rfl
@[simp] theorem State.putLink_lockAt (s : State) (p : Nat) (l : Link) : (State.putLink s p l).lockAt = s.lockAt := rfl
@[simp] theorem State.putLink_lockKey (s : State) (p : Nat) (l : Link) : (State.putLink s p l).lockKey = s.lockKey := rfl
@[simp] theorem State.putLink_revoking (s : State) (p : Nat) (l : Link) : (State.putLink s p l).revoking = s.revoking := rfl
@[simp] theorem State.putLink_dead (s : State) (p : Nat) (l : Link) : (State.putLink s p l).dead = s.dead := rfl
@[simp] theorem State.putLink_pending (s : State) (p : Nat) (l : Link) : (State.putLink s p l).pending = s.pending := rfl
@[simp] theorem State.putLink_rd (s : State) (p : Nat) (l : Link) (q0 o0 : Nat) : (State.putLink s p l).rd q0 o0 = s.rd q0 o0 := rfl
@[simp] theorem State.putLink_fld (s : State) (p : Nat) (l : Link) (q0 : Nat) (f0 : Fld) : (State.putLink s p l).fld q0 f0 = s.fld q0 f0 := rfl
@[simp] theorem State.putLink_win (s : State) (p : Nat) (l : Link) (q0 : Nat) : (State.putLink s p l).win q0 = s.win q0 := rfl
/-! State.putTrain -/

@[simp] theorem State.putTrain_mem (s : State) (p : Nat) (m : Nat) (t : Train) : (State.putTrain s p m t).mem = s.mem := rfl
@[simp] theorem State.putTrain_blank (s : State) (p : Nat) (m : Nat) (t : Train) : (State.putTrain s p m t).blank = s.blank := rfl
@[simp] theorem State.putTrain_badLine (s : State) (p : Nat) (m : Nat) (t : Train) : (State.putTrain s p m t).badLine = s.badLine := rfl
@[simp] theorem State.putTrain_regs (s : State) (p : Nat) (m : Nat) (t : Train) : (State.putTrain s p m t).regs = s.regs := rfl
@[simp] theorem State.putTrain_shadow (s : State) (p : Nat) (m : Nat) (t : Train) : (State.putTrain s p m t).shadow = s.shadow := rfl
@[simp] theorem State.putTrain_wroDone (s : State) (p : Nat) (m : Nat) (t : Train) : (State.putTrain s p m t).wroDone = s.wroDone := rfl
@[simp] theorem State.putTrain_window (s : State) (p : Nat) (m : Nat) (t : Train) : (State.putTrain s p m t).window = s.window := rfl
@[simp] theorem State.putTrain_out (s : State) (p : Nat) (m : Nat) (t : Train) : (State.putTrain s p m t).out = s.out := rfl
@[simp] theorem State.putTrain_raw (s : State) (p : Nat) (m : Nat) (t : Train) : (State.putTrain s p m t).raw = s.raw := rfl
@[simp] theorem State.putTrain_free (s : State) (p : Nat) (m : Nat) (t : Train) : (State.putTrain s p m t).free = s.free := rfl
@[simp] theorem State.putTrain_fuse (s : State) (p : Nat) (m : Nat) (t : Train) : (State.putTrain s p m t).fuse = s.fuse := rfl
@[simp] theorem State.putTrain_trained (s : State) (p : Nat) (m : Nat) (t : Train) : (State.putTrain s p m t).trained = s.trained := rfl
@[simp] theorem State.putTrain_bootWait (s : State) (p : Nat) (m : Nat) (t : Train) : (State.putTrain s p m t).bootWait = s.bootWait := rfl
@[simp] theorem State.putTrain_tb (s : State) (p : Nat) (m : Nat) (t : Train) : (State.putTrain s p m t).tb = s.tb := rfl
@[simp] theorem State.putTrain_crl (s : State) (p : Nat) (m : Nat) (t : Train) : (State.putTrain s p m t).crl = s.crl := rfl
@[simp] theorem State.putTrain_evio (s : State) (p : Nat) (m : Nat) (t : Train) : (State.putTrain s p m t).evio = s.evio := rfl
@[simp] theorem State.putTrain_evf (s : State) (p : Nat) (m : Nat) (t : Train) : (State.putTrain s p m t).evf = s.evf := rfl
@[simp] theorem State.putTrain_raised (s : State) (p : Nat) (m : Nat) (t : Train) : (State.putTrain s p m t).raised = s.raised := rfl
@[simp] theorem State.putTrain_chan (s : State) (p : Nat) (m : Nat) (t : Train) : (State.putTrain s p m t).chan = s.chan := rfl
@[simp] theorem State.putTrain_tg (s : State) (p : Nat) (m : Nat) (t : Train) : (State.putTrain s p m t).tg = s.tg := rfl
@[simp] theorem State.putTrain_view (s : State) (p : Nat) (m : Nat) (t : Train) : (State.putTrain s p m t).view = s.view := rfl
@[simp] theorem State.putTrain_link (s : State) (p : Nat) (m : Nat) (t : Train) : (State.putTrain s p m t).link = s.link := rfl
@[simp] theorem State.putTrain_joker (s : State) (p : Nat) (m : Nat) (t : Train) : (State.putTrain s p m t).joker = s.joker := rfl
@[simp] theorem State.putTrain_roWritten (s : State) (p : Nat) (m : Nat) (t : Train) : (State.putTrain s p m t).roWritten = s.roWritten := rfl
@[simp] theorem State.putTrain_jobA (s : State) (p : Nat) (m : Nat) (t : Train) : (State.putTrain s p m t).jobA = s.jobA := rfl
@[simp] theorem State.putTrain_jobN (s : State) (p : Nat) (m : Nat) (t : Train) : (State.putTrain s p m t).jobN = s.jobN := rfl
@[simp] theorem State.putTrain_valJob (s : State) (p : Nat) (m : Nat) (t : Train) : (State.putTrain s p m t).valJob = s.valJob := rfl
@[simp] theorem State.putTrain_jobVals (s : State) (p : Nat) (m : Nat) (t : Train) : (State.putTrain s p m t).jobVals = s.jobVals := rfl
@[simp] theorem State.putTrain_intake (s : State) (p : Nat) (m : Nat) (t : Train) : (State.putTrain s p m t).intake = s.intake := rfl
@[simp] theorem State.putTrain_pipe (s : State) (p : Nat) (m : Nat) (t : Train) : (State.putTrain s p m t).pipe = s.pipe := rfl
@[simp] theorem State.putTrain_tapBuf (s : State) (p : Nat) (m : Nat) (t : Train) : (State.putTrain s p m t).tapBuf = s.tapBuf := rfl
@[simp] theorem State.putTrain_corr (s : State) (p : Nat) (m : Nat) (t : Train) : (State.putTrain s p m t).corr = s.corr := rfl
@[simp] theorem State.putTrain_stitch_ (s : State) (p : Nat) (m : Nat) (t : Train) : (State.putTrain s p m t).stitch_ = s.stitch_ := rfl
@[simp] theorem State.putTrain_dot (s : State) (p : Nat) (m : Nat) (t : Train) : (State.putTrain s p m t).dot = s.dot := rfl
@[simp] theorem State.putTrain_winRes (s : State) (p : Nat) (m : Nat) (t : Train) : (State.putTrain s p m t).winRes = s.winRes := rfl
@[simp] theorem State.putTrain_mst (s : State) (p : Nat) (m : Nat) (t : Train) : (State.putTrain s p m t).mst = s.mst := rfl
@[simp] theorem State.putTrain_predict (s : State) (p : Nat) (m : Nat) (t : Train) : (State.putTrain s p m t).predict = s.predict := rfl
@[simp] theorem State.putTrain_eng (s : State) (p : Nat) (m : Nat) (t : Train) : (State.putTrain s p m t).eng = s.eng := rfl
@[simp] theorem State.putTrain_resA (s : State) (p : Nat) (m : Nat) (t : Train) : (State.putTrain s p m t).resA = s.resA := rfl
@[simp] theorem State.putTrain_resN (s : State) (p : Nat) (m : Nat) (t : Train) : (State.putTrain s p m t).resN = s.resN := rfl
@[simp] theorem State.putTrain_acts (s : State) (p : Nat) (m : Nat) (t : Train) : (State.putTrain s p m t).acts = s.acts := rfl
@[simp] theorem State.putTrain_hits (s : State) (p : Nat) (m : Nat) (t : Train) : (State.putTrain s p m t).hits = s.hits := rfl
@[simp] theorem State.putTrain_net (s : State) (p : Nat) (m : Nat) (t : Train) : (State.putTrain s p m t).net = s.net := rfl
@[simp] theorem State.putTrain_stream (s : State) (p : Nat) (m : Nat) (t : Train) : (State.putTrain s p m t).stream = s.stream := rfl
@[simp] theorem State.putTrain_dec (s : State) (p : Nat) (m : Nat) (t : Train) : (State.putTrain s p m t).dec = s.dec := rfl
@[simp] theorem State.putTrain_queue (s : State) (p : Nat) (m : Nat) (t : Train) : (State.putTrain s p m t).queue = s.queue := rfl
@[simp] theorem State.putTrain_levels (s : State) (p : Nat) (m : Nat) (t : Train) : (State.putTrain s p m t).levels = s.levels := rfl
@[simp] theorem State.putTrain_arb (s : State) (p : Nat) (m : Nat) (t : Train) : (State.putTrain s p m t).arb = s.arb := rfl
@[simp] theorem State.putTrain_qshadow (s : State) (p : Nat) (m : Nat) (t : Train) : (State.putTrain s p m t).qshadow = s.qshadow := rfl
@[simp] theorem State.putTrain_hqLo (s : State) (p : Nat) (m : Nat) (t : Train) : (State.putTrain s p m t).hqLo = s.hqLo := rfl
@[simp] theorem State.putTrain_dma (s : State) (p : Nat) (m : Nat) (t : Train) : (State.putTrain s p m t).dma = s.dma := rfl
@[simp] theorem State.putTrain_zip (s : State) (p : Nat) (m : Nat) (t : Train) : (State.putTrain s p m t).zip = s.zip := rfl
@[simp] theorem State.putTrain_twl (s : State) (p : Nat) (m : Nat) (t : Train) : (State.putTrain s p m t).twl = s.twl := rfl
@[simp] theorem State.putTrain_fifo (s : State) (p : Nat) (m : Nat) (t : Train) : (State.putTrain s p m t).fifo = s.fifo := rfl
@[simp] theorem State.putTrain_mc (s : State) (p : Nat) (m : Nat) (t : Train) : (State.putTrain s p m t).mc = s.mc := rfl
@[simp] theorem State.putTrain_mcg (s : State) (p : Nat) (m : Nat) (t : Train) : (State.putTrain s p m t).mcg = s.mcg := rfl
@[simp] theorem State.putTrain_hlth (s : State) (p : Nat) (m : Nat) (t : Train) : (State.putTrain s p m t).hlth = s.hlth := rfl
@[simp] theorem State.putTrain_log (s : State) (p : Nat) (m : Nat) (t : Train) : (State.putTrain s p m t).log = s.log := rfl
@[simp] theorem State.putTrain_logLatch (s : State) (p : Nat) (m : Nat) (t : Train) : (State.putTrain s p m t).logLatch = s.logLatch := rfl
@[simp] theorem State.putTrain_commits (s : State) (p : Nat) (m : Nat) (t : Train) : (State.putTrain s p m t).commits = s.commits := rfl
@[simp] theorem State.putTrain_cmtRec (s : State) (p : Nat) (m : Nat) (t : Train) : (State.putTrain s p m t).cmtRec = s.cmtRec := rfl
@[simp] theorem State.putTrain_entered (s : State) (p : Nat) (m : Nat) (t : Train) : (State.putTrain s p m t).entered = s.entered := rfl
@[simp] theorem State.putTrain_lockAt (s : State) (p : Nat) (m : Nat) (t : Train) : (State.putTrain s p m t).lockAt = s.lockAt := rfl
@[simp] theorem State.putTrain_lockKey (s : State) (p : Nat) (m : Nat) (t : Train) : (State.putTrain s p m t).lockKey = s.lockKey := rfl
@[simp] theorem State.putTrain_revoking (s : State) (p : Nat) (m : Nat) (t : Train) : (State.putTrain s p m t).revoking = s.revoking := rfl
@[simp] theorem State.putTrain_dead (s : State) (p : Nat) (m : Nat) (t : Train) : (State.putTrain s p m t).dead = s.dead := rfl
@[simp] theorem State.putTrain_pending (s : State) (p : Nat) (m : Nat) (t : Train) : (State.putTrain s p m t).pending = s.pending := rfl
@[simp] theorem State.putTrain_rd (s : State) (p : Nat) (m : Nat) (t : Train) (q0 o0 : Nat) : (State.putTrain s p m t).rd q0 o0 = s.rd q0 o0 := rfl
@[simp] theorem State.putTrain_fld (s : State) (p : Nat) (m : Nat) (t : Train) (q0 : Nat) (f0 : Fld) : (State.putTrain s p m t).fld q0 f0 = s.fld q0 f0 := rfl
@[simp] theorem State.putTrain_win (s : State) (p : Nat) (m : Nat) (t : Train) (q0 : Nat) : (State.putTrain s p m t).win q0 = s.win q0 := rfl
/-! State.putStr -/

@[simp] theorem State.putStr_mem (s : State) (n : Nat) (x : Stream) : (State.putStr s n x).mem = s.mem := rfl
@[simp] theorem State.putStr_blank (s : State) (n : Nat) (x : Stream) : (State.putStr s n x).blank = s.blank := rfl
@[simp] theorem State.putStr_badLine (s : State) (n : Nat) (x : Stream) : (State.putStr s n x).badLine = s.badLine := rfl
@[simp] theorem State.putStr_regs (s : State) (n : Nat) (x : Stream) : (State.putStr s n x).regs = s.regs := rfl
@[simp] theorem State.putStr_shadow (s : State) (n : Nat) (x : Stream) : (State.putStr s n x).shadow = s.shadow := rfl
@[simp] theorem State.putStr_wroDone (s : State) (n : Nat) (x : Stream) : (State.putStr s n x).wroDone = s.wroDone := rfl
@[simp] theorem State.putStr_window (s : State) (n : Nat) (x : Stream) : (State.putStr s n x).window = s.window := rfl
@[simp] theorem State.putStr_out (s : State) (n : Nat) (x : Stream) : (State.putStr s n x).out = s.out := rfl
@[simp] theorem State.putStr_raw (s : State) (n : Nat) (x : Stream) : (State.putStr s n x).raw = s.raw := rfl
@[simp] theorem State.putStr_free (s : State) (n : Nat) (x : Stream) : (State.putStr s n x).free = s.free := rfl
@[simp] theorem State.putStr_fuse (s : State) (n : Nat) (x : Stream) : (State.putStr s n x).fuse = s.fuse := rfl
@[simp] theorem State.putStr_trained (s : State) (n : Nat) (x : Stream) : (State.putStr s n x).trained = s.trained := rfl
@[simp] theorem State.putStr_bootWait (s : State) (n : Nat) (x : Stream) : (State.putStr s n x).bootWait = s.bootWait := rfl
@[simp] theorem State.putStr_tb (s : State) (n : Nat) (x : Stream) : (State.putStr s n x).tb = s.tb := rfl
@[simp] theorem State.putStr_crl (s : State) (n : Nat) (x : Stream) : (State.putStr s n x).crl = s.crl := rfl
@[simp] theorem State.putStr_evio (s : State) (n : Nat) (x : Stream) : (State.putStr s n x).evio = s.evio := rfl
@[simp] theorem State.putStr_evf (s : State) (n : Nat) (x : Stream) : (State.putStr s n x).evf = s.evf := rfl
@[simp] theorem State.putStr_raised (s : State) (n : Nat) (x : Stream) : (State.putStr s n x).raised = s.raised := rfl
@[simp] theorem State.putStr_chan (s : State) (n : Nat) (x : Stream) : (State.putStr s n x).chan = s.chan := rfl
@[simp] theorem State.putStr_tg (s : State) (n : Nat) (x : Stream) : (State.putStr s n x).tg = s.tg := rfl
@[simp] theorem State.putStr_view (s : State) (n : Nat) (x : Stream) : (State.putStr s n x).view = s.view := rfl
@[simp] theorem State.putStr_link (s : State) (n : Nat) (x : Stream) : (State.putStr s n x).link = s.link := rfl
@[simp] theorem State.putStr_train (s : State) (n : Nat) (x : Stream) : (State.putStr s n x).train = s.train := rfl
@[simp] theorem State.putStr_joker (s : State) (n : Nat) (x : Stream) : (State.putStr s n x).joker = s.joker := rfl
@[simp] theorem State.putStr_roWritten (s : State) (n : Nat) (x : Stream) : (State.putStr s n x).roWritten = s.roWritten := rfl
@[simp] theorem State.putStr_jobA (s : State) (n : Nat) (x : Stream) : (State.putStr s n x).jobA = s.jobA := rfl
@[simp] theorem State.putStr_jobN (s : State) (n : Nat) (x : Stream) : (State.putStr s n x).jobN = s.jobN := rfl
@[simp] theorem State.putStr_valJob (s : State) (n : Nat) (x : Stream) : (State.putStr s n x).valJob = s.valJob := rfl
@[simp] theorem State.putStr_jobVals (s : State) (n : Nat) (x : Stream) : (State.putStr s n x).jobVals = s.jobVals := rfl
@[simp] theorem State.putStr_intake (s : State) (n : Nat) (x : Stream) : (State.putStr s n x).intake = s.intake := rfl
@[simp] theorem State.putStr_pipe (s : State) (n : Nat) (x : Stream) : (State.putStr s n x).pipe = s.pipe := rfl
@[simp] theorem State.putStr_tapBuf (s : State) (n : Nat) (x : Stream) : (State.putStr s n x).tapBuf = s.tapBuf := rfl
@[simp] theorem State.putStr_corr (s : State) (n : Nat) (x : Stream) : (State.putStr s n x).corr = s.corr := rfl
@[simp] theorem State.putStr_stitch_ (s : State) (n : Nat) (x : Stream) : (State.putStr s n x).stitch_ = s.stitch_ := rfl
@[simp] theorem State.putStr_dot (s : State) (n : Nat) (x : Stream) : (State.putStr s n x).dot = s.dot := rfl
@[simp] theorem State.putStr_winRes (s : State) (n : Nat) (x : Stream) : (State.putStr s n x).winRes = s.winRes := rfl
@[simp] theorem State.putStr_mst (s : State) (n : Nat) (x : Stream) : (State.putStr s n x).mst = s.mst := rfl
@[simp] theorem State.putStr_predict (s : State) (n : Nat) (x : Stream) : (State.putStr s n x).predict = s.predict := rfl
@[simp] theorem State.putStr_eng (s : State) (n : Nat) (x : Stream) : (State.putStr s n x).eng = s.eng := rfl
@[simp] theorem State.putStr_resA (s : State) (n : Nat) (x : Stream) : (State.putStr s n x).resA = s.resA := rfl
@[simp] theorem State.putStr_resN (s : State) (n : Nat) (x : Stream) : (State.putStr s n x).resN = s.resN := rfl
@[simp] theorem State.putStr_acts (s : State) (n : Nat) (x : Stream) : (State.putStr s n x).acts = s.acts := rfl
@[simp] theorem State.putStr_hits (s : State) (n : Nat) (x : Stream) : (State.putStr s n x).hits = s.hits := rfl
@[simp] theorem State.putStr_net (s : State) (n : Nat) (x : Stream) : (State.putStr s n x).net = s.net := rfl
@[simp] theorem State.putStr_dec (s : State) (n : Nat) (x : Stream) : (State.putStr s n x).dec = s.dec := rfl
@[simp] theorem State.putStr_queue (s : State) (n : Nat) (x : Stream) : (State.putStr s n x).queue = s.queue := rfl
@[simp] theorem State.putStr_levels (s : State) (n : Nat) (x : Stream) : (State.putStr s n x).levels = s.levels := rfl
@[simp] theorem State.putStr_arb (s : State) (n : Nat) (x : Stream) : (State.putStr s n x).arb = s.arb := rfl
@[simp] theorem State.putStr_qshadow (s : State) (n : Nat) (x : Stream) : (State.putStr s n x).qshadow = s.qshadow := rfl
@[simp] theorem State.putStr_hqLo (s : State) (n : Nat) (x : Stream) : (State.putStr s n x).hqLo = s.hqLo := rfl
@[simp] theorem State.putStr_dma (s : State) (n : Nat) (x : Stream) : (State.putStr s n x).dma = s.dma := rfl
@[simp] theorem State.putStr_zip (s : State) (n : Nat) (x : Stream) : (State.putStr s n x).zip = s.zip := rfl
@[simp] theorem State.putStr_twl (s : State) (n : Nat) (x : Stream) : (State.putStr s n x).twl = s.twl := rfl
@[simp] theorem State.putStr_fifo (s : State) (n : Nat) (x : Stream) : (State.putStr s n x).fifo = s.fifo := rfl
@[simp] theorem State.putStr_mc (s : State) (n : Nat) (x : Stream) : (State.putStr s n x).mc = s.mc := rfl
@[simp] theorem State.putStr_mcg (s : State) (n : Nat) (x : Stream) : (State.putStr s n x).mcg = s.mcg := rfl
@[simp] theorem State.putStr_hlth (s : State) (n : Nat) (x : Stream) : (State.putStr s n x).hlth = s.hlth := rfl
@[simp] theorem State.putStr_log (s : State) (n : Nat) (x : Stream) : (State.putStr s n x).log = s.log := rfl
@[simp] theorem State.putStr_logLatch (s : State) (n : Nat) (x : Stream) : (State.putStr s n x).logLatch = s.logLatch := rfl
@[simp] theorem State.putStr_commits (s : State) (n : Nat) (x : Stream) : (State.putStr s n x).commits = s.commits := rfl
@[simp] theorem State.putStr_cmtRec (s : State) (n : Nat) (x : Stream) : (State.putStr s n x).cmtRec = s.cmtRec := rfl
@[simp] theorem State.putStr_entered (s : State) (n : Nat) (x : Stream) : (State.putStr s n x).entered = s.entered := rfl
@[simp] theorem State.putStr_lockAt (s : State) (n : Nat) (x : Stream) : (State.putStr s n x).lockAt = s.lockAt := rfl
@[simp] theorem State.putStr_lockKey (s : State) (n : Nat) (x : Stream) : (State.putStr s n x).lockKey = s.lockKey := rfl
@[simp] theorem State.putStr_revoking (s : State) (n : Nat) (x : Stream) : (State.putStr s n x).revoking = s.revoking := rfl
@[simp] theorem State.putStr_dead (s : State) (n : Nat) (x : Stream) : (State.putStr s n x).dead = s.dead := rfl
@[simp] theorem State.putStr_pending (s : State) (n : Nat) (x : Stream) : (State.putStr s n x).pending = s.pending := rfl
@[simp] theorem State.putStr_rd (s : State) (n : Nat) (x : Stream) (q0 o0 : Nat) : (State.putStr s n x).rd q0 o0 = s.rd q0 o0 := rfl
@[simp] theorem State.putStr_fld (s : State) (n : Nat) (x : Stream) (q0 : Nat) (f0 : Fld) : (State.putStr s n x).fld q0 f0 = s.fld q0 f0 := rfl
@[simp] theorem State.putStr_win (s : State) (n : Nat) (x : Stream) (q0 : Nat) : (State.putStr s n x).win q0 = s.win q0 := rfl
/-! State.setBusyTo -/

@[simp] theorem State.setBusyTo_mem (s : State) (port : Nat) (t : Nat) : (State.setBusyTo s port t).mem = s.mem := rfl
@[simp] theorem State.setBusyTo_blank (s : State) (port : Nat) (t : Nat) : (State.setBusyTo s port t).blank = s.blank := rfl
@[simp] theorem State.setBusyTo_badLine (s : State) (port : Nat) (t : Nat) : (State.setBusyTo s port t).badLine = s.badLine := rfl
@[simp] theorem State.setBusyTo_regs (s : State) (port : Nat) (t : Nat) : (State.setBusyTo s port t).regs = s.regs := rfl
@[simp] theorem State.setBusyTo_shadow (s : State) (port : Nat) (t : Nat) : (State.setBusyTo s port t).shadow = s.shadow := rfl
@[simp] theorem State.setBusyTo_wroDone (s : State) (port : Nat) (t : Nat) : (State.setBusyTo s port t).wroDone = s.wroDone := rfl
@[simp] theorem State.setBusyTo_window (s : State) (port : Nat) (t : Nat) : (State.setBusyTo s port t).window = s.window := rfl
@[simp] theorem State.setBusyTo_out (s : State) (port : Nat) (t : Nat) : (State.setBusyTo s port t).out = s.out := rfl
@[simp] theorem State.setBusyTo_raw (s : State) (port : Nat) (t : Nat) : (State.setBusyTo s port t).raw = s.raw := rfl
@[simp] theorem State.setBusyTo_free (s : State) (port : Nat) (t : Nat) : (State.setBusyTo s port t).free = s.free := rfl
@[simp] theorem State.setBusyTo_fuse (s : State) (port : Nat) (t : Nat) : (State.setBusyTo s port t).fuse = s.fuse := rfl
@[simp] theorem State.setBusyTo_trained (s : State) (port : Nat) (t : Nat) : (State.setBusyTo s port t).trained = s.trained := rfl
@[simp] theorem State.setBusyTo_bootWait (s : State) (port : Nat) (t : Nat) : (State.setBusyTo s port t).bootWait = s.bootWait := rfl
@[simp] theorem State.setBusyTo_tb (s : State) (port : Nat) (t : Nat) : (State.setBusyTo s port t).tb = s.tb := rfl
@[simp] theorem State.setBusyTo_evio (s : State) (port : Nat) (t : Nat) : (State.setBusyTo s port t).evio = s.evio := rfl
@[simp] theorem State.setBusyTo_evf (s : State) (port : Nat) (t : Nat) : (State.setBusyTo s port t).evf = s.evf := rfl
@[simp] theorem State.setBusyTo_raised (s : State) (port : Nat) (t : Nat) : (State.setBusyTo s port t).raised = s.raised := rfl
@[simp] theorem State.setBusyTo_chan (s : State) (port : Nat) (t : Nat) : (State.setBusyTo s port t).chan = s.chan := rfl
@[simp] theorem State.setBusyTo_tg (s : State) (port : Nat) (t : Nat) : (State.setBusyTo s port t).tg = s.tg := rfl
@[simp] theorem State.setBusyTo_view (s : State) (port : Nat) (t : Nat) : (State.setBusyTo s port t).view = s.view := rfl
@[simp] theorem State.setBusyTo_link (s : State) (port : Nat) (t : Nat) : (State.setBusyTo s port t).link = s.link := rfl
@[simp] theorem State.setBusyTo_train (s : State) (port : Nat) (t : Nat) : (State.setBusyTo s port t).train = s.train := rfl
@[simp] theorem State.setBusyTo_joker (s : State) (port : Nat) (t : Nat) : (State.setBusyTo s port t).joker = s.joker := rfl
@[simp] theorem State.setBusyTo_roWritten (s : State) (port : Nat) (t : Nat) : (State.setBusyTo s port t).roWritten = s.roWritten := rfl
@[simp] theorem State.setBusyTo_jobA (s : State) (port : Nat) (t : Nat) : (State.setBusyTo s port t).jobA = s.jobA := rfl
@[simp] theorem State.setBusyTo_jobN (s : State) (port : Nat) (t : Nat) : (State.setBusyTo s port t).jobN = s.jobN := rfl
@[simp] theorem State.setBusyTo_valJob (s : State) (port : Nat) (t : Nat) : (State.setBusyTo s port t).valJob = s.valJob := rfl
@[simp] theorem State.setBusyTo_jobVals (s : State) (port : Nat) (t : Nat) : (State.setBusyTo s port t).jobVals = s.jobVals := rfl
@[simp] theorem State.setBusyTo_intake (s : State) (port : Nat) (t : Nat) : (State.setBusyTo s port t).intake = s.intake := rfl
@[simp] theorem State.setBusyTo_pipe (s : State) (port : Nat) (t : Nat) : (State.setBusyTo s port t).pipe = s.pipe := rfl
@[simp] theorem State.setBusyTo_tapBuf (s : State) (port : Nat) (t : Nat) : (State.setBusyTo s port t).tapBuf = s.tapBuf := rfl
@[simp] theorem State.setBusyTo_corr (s : State) (port : Nat) (t : Nat) : (State.setBusyTo s port t).corr = s.corr := rfl
@[simp] theorem State.setBusyTo_stitch_ (s : State) (port : Nat) (t : Nat) : (State.setBusyTo s port t).stitch_ = s.stitch_ := rfl
@[simp] theorem State.setBusyTo_dot (s : State) (port : Nat) (t : Nat) : (State.setBusyTo s port t).dot = s.dot := rfl
@[simp] theorem State.setBusyTo_winRes (s : State) (port : Nat) (t : Nat) : (State.setBusyTo s port t).winRes = s.winRes := rfl
@[simp] theorem State.setBusyTo_mst (s : State) (port : Nat) (t : Nat) : (State.setBusyTo s port t).mst = s.mst := rfl
@[simp] theorem State.setBusyTo_predict (s : State) (port : Nat) (t : Nat) : (State.setBusyTo s port t).predict = s.predict := rfl
@[simp] theorem State.setBusyTo_eng (s : State) (port : Nat) (t : Nat) : (State.setBusyTo s port t).eng = s.eng := rfl
@[simp] theorem State.setBusyTo_resA (s : State) (port : Nat) (t : Nat) : (State.setBusyTo s port t).resA = s.resA := rfl
@[simp] theorem State.setBusyTo_resN (s : State) (port : Nat) (t : Nat) : (State.setBusyTo s port t).resN = s.resN := rfl
@[simp] theorem State.setBusyTo_acts (s : State) (port : Nat) (t : Nat) : (State.setBusyTo s port t).acts = s.acts := rfl
@[simp] theorem State.setBusyTo_hits (s : State) (port : Nat) (t : Nat) : (State.setBusyTo s port t).hits = s.hits := rfl
@[simp] theorem State.setBusyTo_net (s : State) (port : Nat) (t : Nat) : (State.setBusyTo s port t).net = s.net := rfl
@[simp] theorem State.setBusyTo_stream (s : State) (port : Nat) (t : Nat) : (State.setBusyTo s port t).stream = s.stream := rfl
@[simp] theorem State.setBusyTo_dec (s : State) (port : Nat) (t : Nat) : (State.setBusyTo s port t).dec = s.dec := rfl
@[simp] theorem State.setBusyTo_queue (s : State) (port : Nat) (t : Nat) : (State.setBusyTo s port t).queue = s.queue := rfl
@[simp] theorem State.setBusyTo_levels (s : State) (port : Nat) (t : Nat) : (State.setBusyTo s port t).levels = s.levels := rfl
@[simp] theorem State.setBusyTo_arb (s : State) (port : Nat) (t : Nat) : (State.setBusyTo s port t).arb = s.arb := rfl
@[simp] theorem State.setBusyTo_qshadow (s : State) (port : Nat) (t : Nat) : (State.setBusyTo s port t).qshadow = s.qshadow := rfl
@[simp] theorem State.setBusyTo_hqLo (s : State) (port : Nat) (t : Nat) : (State.setBusyTo s port t).hqLo = s.hqLo := rfl
@[simp] theorem State.setBusyTo_dma (s : State) (port : Nat) (t : Nat) : (State.setBusyTo s port t).dma = s.dma := rfl
@[simp] theorem State.setBusyTo_zip (s : State) (port : Nat) (t : Nat) : (State.setBusyTo s port t).zip = s.zip := rfl
@[simp] theorem State.setBusyTo_twl (s : State) (port : Nat) (t : Nat) : (State.setBusyTo s port t).twl = s.twl := rfl
@[simp] theorem State.setBusyTo_fifo (s : State) (port : Nat) (t : Nat) : (State.setBusyTo s port t).fifo = s.fifo := rfl
@[simp] theorem State.setBusyTo_mc (s : State) (port : Nat) (t : Nat) : (State.setBusyTo s port t).mc = s.mc := rfl
@[simp] theorem State.setBusyTo_mcg (s : State) (port : Nat) (t : Nat) : (State.setBusyTo s port t).mcg = s.mcg := rfl
@[simp] theorem State.setBusyTo_hlth (s : State) (port : Nat) (t : Nat) : (State.setBusyTo s port t).hlth = s.hlth := rfl
@[simp] theorem State.setBusyTo_log (s : State) (port : Nat) (t : Nat) : (State.setBusyTo s port t).log = s.log := rfl
@[simp] theorem State.setBusyTo_logLatch (s : State) (port : Nat) (t : Nat) : (State.setBusyTo s port t).logLatch = s.logLatch := rfl
@[simp] theorem State.setBusyTo_commits (s : State) (port : Nat) (t : Nat) : (State.setBusyTo s port t).commits = s.commits := rfl
@[simp] theorem State.setBusyTo_cmtRec (s : State) (port : Nat) (t : Nat) : (State.setBusyTo s port t).cmtRec = s.cmtRec := rfl
@[simp] theorem State.setBusyTo_entered (s : State) (port : Nat) (t : Nat) : (State.setBusyTo s port t).entered = s.entered := rfl
@[simp] theorem State.setBusyTo_lockAt (s : State) (port : Nat) (t : Nat) : (State.setBusyTo s port t).lockAt = s.lockAt := rfl
@[simp] theorem State.setBusyTo_lockKey (s : State) (port : Nat) (t : Nat) : (State.setBusyTo s port t).lockKey = s.lockKey := rfl
@[simp] theorem State.setBusyTo_revoking (s : State) (port : Nat) (t : Nat) : (State.setBusyTo s port t).revoking = s.revoking := rfl
@[simp] theorem State.setBusyTo_dead (s : State) (port : Nat) (t : Nat) : (State.setBusyTo s port t).dead = s.dead := rfl
@[simp] theorem State.setBusyTo_pending (s : State) (port : Nat) (t : Nat) : (State.setBusyTo s port t).pending = s.pending := rfl
@[simp] theorem State.setBusyTo_rd (s : State) (port : Nat) (t : Nat) (q0 o0 : Nat) : (State.setBusyTo s port t).rd q0 o0 = s.rd q0 o0 := rfl
@[simp] theorem State.setBusyTo_fld (s : State) (port : Nat) (t : Nat) (q0 : Nat) (f0 : Fld) : (State.setBusyTo s port t).fld q0 f0 = s.fld q0 f0 := rfl
@[simp] theorem State.setBusyTo_win (s : State) (port : Nat) (t : Nat) (q0 : Nat) : (State.setBusyTo s port t).win q0 = s.win q0 := rfl
/-! State.setMc -/

@[simp] theorem State.setMc_mem (s : State) (c : Nat) (m : Mc) : (State.setMc s c m).mem = s.mem := rfl
@[simp] theorem State.setMc_blank (s : State) (c : Nat) (m : Mc) : (State.setMc s c m).blank = s.blank := rfl
@[simp] theorem State.setMc_badLine (s : State) (c : Nat) (m : Mc) : (State.setMc s c m).badLine = s.badLine := rfl
@[simp] theorem State.setMc_regs (s : State) (c : Nat) (m : Mc) : (State.setMc s c m).regs = s.regs := rfl
@[simp] theorem State.setMc_shadow (s : State) (c : Nat) (m : Mc) : (State.setMc s c m).shadow = s.shadow := rfl
@[simp] theorem State.setMc_wroDone (s : State) (c : Nat) (m : Mc) : (State.setMc s c m).wroDone = s.wroDone := rfl
@[simp] theorem State.setMc_window (s : State) (c : Nat) (m : Mc) : (State.setMc s c m).window = s.window := rfl
@[simp] theorem State.setMc_out (s : State) (c : Nat) (m : Mc) : (State.setMc s c m).out = s.out := rfl
@[simp] theorem State.setMc_raw (s : State) (c : Nat) (m : Mc) : (State.setMc s c m).raw = s.raw := rfl
@[simp] theorem State.setMc_free (s : State) (c : Nat) (m : Mc) : (State.setMc s c m).free = s.free := rfl
@[simp] theorem State.setMc_fuse (s : State) (c : Nat) (m : Mc) : (State.setMc s c m).fuse = s.fuse := rfl
@[simp] theorem State.setMc_trained (s : State) (c : Nat) (m : Mc) : (State.setMc s c m).trained = s.trained := rfl
@[simp] theorem State.setMc_bootWait (s : State) (c : Nat) (m : Mc) : (State.setMc s c m).bootWait = s.bootWait := rfl
@[simp] theorem State.setMc_tb (s : State) (c : Nat) (m : Mc) : (State.setMc s c m).tb = s.tb := rfl
@[simp] theorem State.setMc_crl (s : State) (c : Nat) (m : Mc) : (State.setMc s c m).crl = s.crl := rfl
@[simp] theorem State.setMc_evio (s : State) (c : Nat) (m : Mc) : (State.setMc s c m).evio = s.evio := rfl
@[simp] theorem State.setMc_evf (s : State) (c : Nat) (m : Mc) : (State.setMc s c m).evf = s.evf := rfl
@[simp] theorem State.setMc_raised (s : State) (c : Nat) (m : Mc) : (State.setMc s c m).raised = s.raised := rfl
@[simp] theorem State.setMc_chan (s : State) (c : Nat) (m : Mc) : (State.setMc s c m).chan = s.chan := rfl
@[simp] theorem State.setMc_tg (s : State) (c : Nat) (m : Mc) : (State.setMc s c m).tg = s.tg := rfl
@[simp] theorem State.setMc_view (s : State) (c : Nat) (m : Mc) : (State.setMc s c m).view = s.view := rfl
@[simp] theorem State.setMc_link (s : State) (c : Nat) (m : Mc) : (State.setMc s c m).link = s.link := rfl
@[simp] theorem State.setMc_train (s : State) (c : Nat) (m : Mc) : (State.setMc s c m).train = s.train := rfl
@[simp] theorem State.setMc_joker (s : State) (c : Nat) (m : Mc) : (State.setMc s c m).joker = s.joker := rfl
@[simp] theorem State.setMc_roWritten (s : State) (c : Nat) (m : Mc) : (State.setMc s c m).roWritten = s.roWritten := rfl
@[simp] theorem State.setMc_jobA (s : State) (c : Nat) (m : Mc) : (State.setMc s c m).jobA = s.jobA := rfl
@[simp] theorem State.setMc_jobN (s : State) (c : Nat) (m : Mc) : (State.setMc s c m).jobN = s.jobN := rfl
@[simp] theorem State.setMc_valJob (s : State) (c : Nat) (m : Mc) : (State.setMc s c m).valJob = s.valJob := rfl
@[simp] theorem State.setMc_jobVals (s : State) (c : Nat) (m : Mc) : (State.setMc s c m).jobVals = s.jobVals := rfl
@[simp] theorem State.setMc_intake (s : State) (c : Nat) (m : Mc) : (State.setMc s c m).intake = s.intake := rfl
@[simp] theorem State.setMc_pipe (s : State) (c : Nat) (m : Mc) : (State.setMc s c m).pipe = s.pipe := rfl
@[simp] theorem State.setMc_tapBuf (s : State) (c : Nat) (m : Mc) : (State.setMc s c m).tapBuf = s.tapBuf := rfl
@[simp] theorem State.setMc_corr (s : State) (c : Nat) (m : Mc) : (State.setMc s c m).corr = s.corr := rfl
@[simp] theorem State.setMc_stitch_ (s : State) (c : Nat) (m : Mc) : (State.setMc s c m).stitch_ = s.stitch_ := rfl
@[simp] theorem State.setMc_dot (s : State) (c : Nat) (m : Mc) : (State.setMc s c m).dot = s.dot := rfl
@[simp] theorem State.setMc_winRes (s : State) (c : Nat) (m : Mc) : (State.setMc s c m).winRes = s.winRes := rfl
@[simp] theorem State.setMc_mst (s : State) (c : Nat) (m : Mc) : (State.setMc s c m).mst = s.mst := rfl
@[simp] theorem State.setMc_predict (s : State) (c : Nat) (m : Mc) : (State.setMc s c m).predict = s.predict := rfl
@[simp] theorem State.setMc_eng (s : State) (c : Nat) (m : Mc) : (State.setMc s c m).eng = s.eng := rfl
@[simp] theorem State.setMc_resA (s : State) (c : Nat) (m : Mc) : (State.setMc s c m).resA = s.resA := rfl
@[simp] theorem State.setMc_resN (s : State) (c : Nat) (m : Mc) : (State.setMc s c m).resN = s.resN := rfl
@[simp] theorem State.setMc_acts (s : State) (c : Nat) (m : Mc) : (State.setMc s c m).acts = s.acts := rfl
@[simp] theorem State.setMc_hits (s : State) (c : Nat) (m : Mc) : (State.setMc s c m).hits = s.hits := rfl
@[simp] theorem State.setMc_net (s : State) (c : Nat) (m : Mc) : (State.setMc s c m).net = s.net := rfl
@[simp] theorem State.setMc_stream (s : State) (c : Nat) (m : Mc) : (State.setMc s c m).stream = s.stream := rfl
@[simp] theorem State.setMc_dec (s : State) (c : Nat) (m : Mc) : (State.setMc s c m).dec = s.dec := rfl
@[simp] theorem State.setMc_queue (s : State) (c : Nat) (m : Mc) : (State.setMc s c m).queue = s.queue := rfl
@[simp] theorem State.setMc_levels (s : State) (c : Nat) (m : Mc) : (State.setMc s c m).levels = s.levels := rfl
@[simp] theorem State.setMc_arb (s : State) (c : Nat) (m : Mc) : (State.setMc s c m).arb = s.arb := rfl
@[simp] theorem State.setMc_qshadow (s : State) (c : Nat) (m : Mc) : (State.setMc s c m).qshadow = s.qshadow := rfl
@[simp] theorem State.setMc_hqLo (s : State) (c : Nat) (m : Mc) : (State.setMc s c m).hqLo = s.hqLo := rfl
@[simp] theorem State.setMc_dma (s : State) (c : Nat) (m : Mc) : (State.setMc s c m).dma = s.dma := rfl
@[simp] theorem State.setMc_zip (s : State) (c : Nat) (m : Mc) : (State.setMc s c m).zip = s.zip := rfl
@[simp] theorem State.setMc_twl (s : State) (c : Nat) (m : Mc) : (State.setMc s c m).twl = s.twl := rfl
@[simp] theorem State.setMc_fifo (s : State) (c : Nat) (m : Mc) : (State.setMc s c m).fifo = s.fifo := rfl
@[simp] theorem State.setMc_mcg (s : State) (c : Nat) (m : Mc) : (State.setMc s c m).mcg = s.mcg := rfl
@[simp] theorem State.setMc_hlth (s : State) (c : Nat) (m : Mc) : (State.setMc s c m).hlth = s.hlth := rfl
@[simp] theorem State.setMc_log (s : State) (c : Nat) (m : Mc) : (State.setMc s c m).log = s.log := rfl
@[simp] theorem State.setMc_logLatch (s : State) (c : Nat) (m : Mc) : (State.setMc s c m).logLatch = s.logLatch := rfl
@[simp] theorem State.setMc_commits (s : State) (c : Nat) (m : Mc) : (State.setMc s c m).commits = s.commits := rfl
@[simp] theorem State.setMc_cmtRec (s : State) (c : Nat) (m : Mc) : (State.setMc s c m).cmtRec = s.cmtRec := rfl
@[simp] theorem State.setMc_entered (s : State) (c : Nat) (m : Mc) : (State.setMc s c m).entered = s.entered := rfl
@[simp] theorem State.setMc_lockAt (s : State) (c : Nat) (m : Mc) : (State.setMc s c m).lockAt = s.lockAt := rfl
@[simp] theorem State.setMc_lockKey (s : State) (c : Nat) (m : Mc) : (State.setMc s c m).lockKey = s.lockKey := rfl
@[simp] theorem State.setMc_revoking (s : State) (c : Nat) (m : Mc) : (State.setMc s c m).revoking = s.revoking := rfl
@[simp] theorem State.setMc_dead (s : State) (c : Nat) (m : Mc) : (State.setMc s c m).dead = s.dead := rfl
@[simp] theorem State.setMc_pending (s : State) (c : Nat) (m : Mc) : (State.setMc s c m).pending = s.pending := rfl
@[simp] theorem State.setMc_rd (s : State) (c : Nat) (m : Mc) (q0 o0 : Nat) : (State.setMc s c m).rd q0 o0 = s.rd q0 o0 := rfl
@[simp] theorem State.setMc_fld (s : State) (c : Nat) (m : Mc) (q0 : Nat) (f0 : Fld) : (State.setMc s c m).fld q0 f0 = s.fld q0 f0 := rfl
@[simp] theorem State.setMc_win (s : State) (c : Nat) (m : Mc) (q0 : Nat) : (State.setMc s c m).win q0 = s.win q0 := rfl
/-! State.takeTraining -/

@[simp] theorem State.takeTraining_mem (s : State) : (State.takeTraining s).mem = s.mem := rfl
@[simp] theorem State.takeTraining_blank (s : State) : (State.takeTraining s).blank = s.blank := rfl
@[simp] theorem State.takeTraining_badLine (s : State) : (State.takeTraining s).badLine = s.badLine := rfl
@[simp] theorem State.takeTraining_regs (s : State) : (State.takeTraining s).regs = s.regs := rfl
@[simp] theorem State.takeTraining_shadow (s : State) : (State.takeTraining s).shadow = s.shadow := rfl
@[simp] theorem State.takeTraining_wroDone (s : State) : (State.takeTraining s).wroDone = s.wroDone := rfl
@[simp] theorem State.takeTraining_window (s : State) : (State.takeTraining s).window = s.window := rfl
@[simp] theorem State.takeTraining_out (s : State) : (State.takeTraining s).out = s.out := rfl
@[simp] theorem State.takeTraining_raw (s : State) : (State.takeTraining s).raw = s.raw := rfl
@[simp] theorem State.takeTraining_free (s : State) : (State.takeTraining s).free = s.free := rfl
@[simp] theorem State.takeTraining_fuse (s : State) : (State.takeTraining s).fuse = s.fuse := rfl
@[simp] theorem State.takeTraining_bootWait (s : State) : (State.takeTraining s).bootWait = s.bootWait := rfl
@[simp] theorem State.takeTraining_tb (s : State) : (State.takeTraining s).tb = s.tb := rfl
@[simp] theorem State.takeTraining_crl (s : State) : (State.takeTraining s).crl = s.crl := rfl
@[simp] theorem State.takeTraining_evio (s : State) : (State.takeTraining s).evio = s.evio := rfl
@[simp] theorem State.takeTraining_evf (s : State) : (State.takeTraining s).evf = s.evf := rfl
@[simp] theorem State.takeTraining_raised (s : State) : (State.takeTraining s).raised = s.raised := rfl
@[simp] theorem State.takeTraining_chan (s : State) : (State.takeTraining s).chan = s.chan := rfl
@[simp] theorem State.takeTraining_tg (s : State) : (State.takeTraining s).tg = s.tg := rfl
@[simp] theorem State.takeTraining_view (s : State) : (State.takeTraining s).view = s.view := rfl
@[simp] theorem State.takeTraining_link (s : State) : (State.takeTraining s).link = s.link := rfl
@[simp] theorem State.takeTraining_train (s : State) : (State.takeTraining s).train = s.train := rfl
@[simp] theorem State.takeTraining_joker (s : State) : (State.takeTraining s).joker = s.joker := rfl
@[simp] theorem State.takeTraining_roWritten (s : State) : (State.takeTraining s).roWritten = s.roWritten := rfl
@[simp] theorem State.takeTraining_jobA (s : State) : (State.takeTraining s).jobA = s.jobA := rfl
@[simp] theorem State.takeTraining_jobN (s : State) : (State.takeTraining s).jobN = s.jobN := rfl
@[simp] theorem State.takeTraining_valJob (s : State) : (State.takeTraining s).valJob = s.valJob := rfl
@[simp] theorem State.takeTraining_jobVals (s : State) : (State.takeTraining s).jobVals = s.jobVals := rfl
@[simp] theorem State.takeTraining_intake (s : State) : (State.takeTraining s).intake = s.intake := rfl
@[simp] theorem State.takeTraining_pipe (s : State) : (State.takeTraining s).pipe = s.pipe := rfl
@[simp] theorem State.takeTraining_tapBuf (s : State) : (State.takeTraining s).tapBuf = s.tapBuf := rfl
@[simp] theorem State.takeTraining_corr (s : State) : (State.takeTraining s).corr = s.corr := rfl
@[simp] theorem State.takeTraining_stitch_ (s : State) : (State.takeTraining s).stitch_ = s.stitch_ := rfl
@[simp] theorem State.takeTraining_dot (s : State) : (State.takeTraining s).dot = s.dot := rfl
@[simp] theorem State.takeTraining_winRes (s : State) : (State.takeTraining s).winRes = s.winRes := rfl
@[simp] theorem State.takeTraining_mst (s : State) : (State.takeTraining s).mst = s.mst := rfl
@[simp] theorem State.takeTraining_predict (s : State) : (State.takeTraining s).predict = s.predict := rfl
@[simp] theorem State.takeTraining_eng (s : State) : (State.takeTraining s).eng = s.eng := rfl
@[simp] theorem State.takeTraining_resA (s : State) : (State.takeTraining s).resA = s.resA := rfl
@[simp] theorem State.takeTraining_resN (s : State) : (State.takeTraining s).resN = s.resN := rfl
@[simp] theorem State.takeTraining_acts (s : State) : (State.takeTraining s).acts = s.acts := rfl
@[simp] theorem State.takeTraining_hits (s : State) : (State.takeTraining s).hits = s.hits := rfl
@[simp] theorem State.takeTraining_net (s : State) : (State.takeTraining s).net = s.net := rfl
@[simp] theorem State.takeTraining_stream (s : State) : (State.takeTraining s).stream = s.stream := rfl
@[simp] theorem State.takeTraining_dec (s : State) : (State.takeTraining s).dec = s.dec := rfl
@[simp] theorem State.takeTraining_queue (s : State) : (State.takeTraining s).queue = s.queue := rfl
@[simp] theorem State.takeTraining_levels (s : State) : (State.takeTraining s).levels = s.levels := rfl
@[simp] theorem State.takeTraining_arb (s : State) : (State.takeTraining s).arb = s.arb := rfl
@[simp] theorem State.takeTraining_qshadow (s : State) : (State.takeTraining s).qshadow = s.qshadow := rfl
@[simp] theorem State.takeTraining_hqLo (s : State) : (State.takeTraining s).hqLo = s.hqLo := rfl
@[simp] theorem State.takeTraining_dma (s : State) : (State.takeTraining s).dma = s.dma := rfl
@[simp] theorem State.takeTraining_zip (s : State) : (State.takeTraining s).zip = s.zip := rfl
@[simp] theorem State.takeTraining_twl (s : State) : (State.takeTraining s).twl = s.twl := rfl
@[simp] theorem State.takeTraining_fifo (s : State) : (State.takeTraining s).fifo = s.fifo := rfl
@[simp] theorem State.takeTraining_mc (s : State) : (State.takeTraining s).mc = s.mc := rfl
@[simp] theorem State.takeTraining_mcg (s : State) : (State.takeTraining s).mcg = s.mcg := rfl
@[simp] theorem State.takeTraining_hlth (s : State) : (State.takeTraining s).hlth = s.hlth := rfl
@[simp] theorem State.takeTraining_log (s : State) : (State.takeTraining s).log = s.log := rfl
@[simp] theorem State.takeTraining_logLatch (s : State) : (State.takeTraining s).logLatch = s.logLatch := rfl
@[simp] theorem State.takeTraining_commits (s : State) : (State.takeTraining s).commits = s.commits := rfl
@[simp] theorem State.takeTraining_cmtRec (s : State) : (State.takeTraining s).cmtRec = s.cmtRec := rfl
@[simp] theorem State.takeTraining_entered (s : State) : (State.takeTraining s).entered = s.entered := rfl
@[simp] theorem State.takeTraining_lockAt (s : State) : (State.takeTraining s).lockAt = s.lockAt := rfl
@[simp] theorem State.takeTraining_lockKey (s : State) : (State.takeTraining s).lockKey = s.lockKey := rfl
@[simp] theorem State.takeTraining_revoking (s : State) : (State.takeTraining s).revoking = s.revoking := rfl
@[simp] theorem State.takeTraining_dead (s : State) : (State.takeTraining s).dead = s.dead := rfl
@[simp] theorem State.takeTraining_pending (s : State) : (State.takeTraining s).pending = s.pending := rfl
@[simp] theorem State.takeTraining_rd (s : State) (q0 o0 : Nat) : (State.takeTraining s).rd q0 o0 = s.rd q0 o0 := rfl
@[simp] theorem State.takeTraining_fld (s : State) (q0 : Nat) (f0 : Fld) : (State.takeTraining s).fld q0 f0 = s.fld q0 f0 := rfl
@[simp] theorem State.takeTraining_win (s : State) (q0 : Nat) : (State.takeTraining s).win q0 = s.win q0 := rfl
/-! State.setView -/

@[simp] theorem State.setView_mem (s : State) (v : Nat) (x : ViewSt) : (State.setView s v x).mem = s.mem := rfl
@[simp] theorem State.setView_blank (s : State) (v : Nat) (x : ViewSt) : (State.setView s v x).blank = s.blank := rfl
@[simp] theorem State.setView_badLine (s : State) (v : Nat) (x : ViewSt) : (State.setView s v x).badLine = s.badLine := rfl
@[simp] theorem State.setView_regs (s : State) (v : Nat) (x : ViewSt) : (State.setView s v x).regs = s.regs := rfl
@[simp] theorem State.setView_shadow (s : State) (v : Nat) (x : ViewSt) : (State.setView s v x).shadow = s.shadow := rfl
@[simp] theorem State.setView_wroDone (s : State) (v : Nat) (x : ViewSt) : (State.setView s v x).wroDone = s.wroDone := rfl
@[simp] theorem State.setView_window (s : State) (v : Nat) (x : ViewSt) : (State.setView s v x).window = s.window := rfl
@[simp] theorem State.setView_out (s : State) (v : Nat) (x : ViewSt) : (State.setView s v x).out = s.out := rfl
@[simp] theorem State.setView_raw (s : State) (v : Nat) (x : ViewSt) : (State.setView s v x).raw = s.raw := rfl
@[simp] theorem State.setView_free (s : State) (v : Nat) (x : ViewSt) : (State.setView s v x).free = s.free := rfl
@[simp] theorem State.setView_fuse (s : State) (v : Nat) (x : ViewSt) : (State.setView s v x).fuse = s.fuse := rfl
@[simp] theorem State.setView_trained (s : State) (v : Nat) (x : ViewSt) : (State.setView s v x).trained = s.trained := rfl
@[simp] theorem State.setView_bootWait (s : State) (v : Nat) (x : ViewSt) : (State.setView s v x).bootWait = s.bootWait := rfl
@[simp] theorem State.setView_tb (s : State) (v : Nat) (x : ViewSt) : (State.setView s v x).tb = s.tb := rfl
@[simp] theorem State.setView_crl (s : State) (v : Nat) (x : ViewSt) : (State.setView s v x).crl = s.crl := rfl
@[simp] theorem State.setView_evio (s : State) (v : Nat) (x : ViewSt) : (State.setView s v x).evio = s.evio := rfl
@[simp] theorem State.setView_evf (s : State) (v : Nat) (x : ViewSt) : (State.setView s v x).evf = s.evf := rfl
@[simp] theorem State.setView_raised (s : State) (v : Nat) (x : ViewSt) : (State.setView s v x).raised = s.raised := rfl
@[simp] theorem State.setView_chan (s : State) (v : Nat) (x : ViewSt) : (State.setView s v x).chan = s.chan := rfl
@[simp] theorem State.setView_tg (s : State) (v : Nat) (x : ViewSt) : (State.setView s v x).tg = s.tg := rfl
@[simp] theorem State.setView_link (s : State) (v : Nat) (x : ViewSt) : (State.setView s v x).link = s.link := rfl
@[simp] theorem State.setView_train (s : State) (v : Nat) (x : ViewSt) : (State.setView s v x).train = s.train := rfl
@[simp] theorem State.setView_joker (s : State) (v : Nat) (x : ViewSt) : (State.setView s v x).joker = s.joker := rfl
@[simp] theorem State.setView_roWritten (s : State) (v : Nat) (x : ViewSt) : (State.setView s v x).roWritten = s.roWritten := rfl
@[simp] theorem State.setView_jobA (s : State) (v : Nat) (x : ViewSt) : (State.setView s v x).jobA = s.jobA := rfl
@[simp] theorem State.setView_jobN (s : State) (v : Nat) (x : ViewSt) : (State.setView s v x).jobN = s.jobN := rfl
@[simp] theorem State.setView_valJob (s : State) (v : Nat) (x : ViewSt) : (State.setView s v x).valJob = s.valJob := rfl
@[simp] theorem State.setView_jobVals (s : State) (v : Nat) (x : ViewSt) : (State.setView s v x).jobVals = s.jobVals := rfl
@[simp] theorem State.setView_intake (s : State) (v : Nat) (x : ViewSt) : (State.setView s v x).intake = s.intake := rfl
@[simp] theorem State.setView_pipe (s : State) (v : Nat) (x : ViewSt) : (State.setView s v x).pipe = s.pipe := rfl
@[simp] theorem State.setView_tapBuf (s : State) (v : Nat) (x : ViewSt) : (State.setView s v x).tapBuf = s.tapBuf := rfl
@[simp] theorem State.setView_corr (s : State) (v : Nat) (x : ViewSt) : (State.setView s v x).corr = s.corr := rfl
@[simp] theorem State.setView_stitch_ (s : State) (v : Nat) (x : ViewSt) : (State.setView s v x).stitch_ = s.stitch_ := rfl
@[simp] theorem State.setView_dot (s : State) (v : Nat) (x : ViewSt) : (State.setView s v x).dot = s.dot := rfl
@[simp] theorem State.setView_winRes (s : State) (v : Nat) (x : ViewSt) : (State.setView s v x).winRes = s.winRes := rfl
@[simp] theorem State.setView_mst (s : State) (v : Nat) (x : ViewSt) : (State.setView s v x).mst = s.mst := rfl
@[simp] theorem State.setView_predict (s : State) (v : Nat) (x : ViewSt) : (State.setView s v x).predict = s.predict := rfl
@[simp] theorem State.setView_eng (s : State) (v : Nat) (x : ViewSt) : (State.setView s v x).eng = s.eng := rfl
@[simp] theorem State.setView_resA (s : State) (v : Nat) (x : ViewSt) : (State.setView s v x).resA = s.resA := rfl
@[simp] theorem State.setView_resN (s : State) (v : Nat) (x : ViewSt) : (State.setView s v x).resN = s.resN := rfl
@[simp] theorem State.setView_acts (s : State) (v : Nat) (x : ViewSt) : (State.setView s v x).acts = s.acts := rfl
@[simp] theorem State.setView_hits (s : State) (v : Nat) (x : ViewSt) : (State.setView s v x).hits = s.hits := rfl
@[simp] theorem State.setView_net (s : State) (v : Nat) (x : ViewSt) : (State.setView s v x).net = s.net := rfl
@[simp] theorem State.setView_stream (s : State) (v : Nat) (x : ViewSt) : (State.setView s v x).stream = s.stream := rfl
@[simp] theorem State.setView_dec (s : State) (v : Nat) (x : ViewSt) : (State.setView s v x).dec = s.dec := rfl
@[simp] theorem State.setView_queue (s : State) (v : Nat) (x : ViewSt) : (State.setView s v x).queue = s.queue := rfl
@[simp] theorem State.setView_levels (s : State) (v : Nat) (x : ViewSt) : (State.setView s v x).levels = s.levels := rfl
@[simp] theorem State.setView_arb (s : State) (v : Nat) (x : ViewSt) : (State.setView s v x).arb = s.arb := rfl
@[simp] theorem State.setView_qshadow (s : State) (v : Nat) (x : ViewSt) : (State.setView s v x).qshadow = s.qshadow := rfl
@[simp] theorem State.setView_hqLo (s : State) (v : Nat) (x : ViewSt) : (State.setView s v x).hqLo = s.hqLo := rfl
@[simp] theorem State.setView_dma (s : State) (v : Nat) (x : ViewSt) : (State.setView s v x).dma = s.dma := rfl
@[simp] theorem State.setView_zip (s : State) (v : Nat) (x : ViewSt) : (State.setView s v x).zip = s.zip := rfl
@[simp] theorem State.setView_twl (s : State) (v : Nat) (x : ViewSt) : (State.setView s v x).twl = s.twl := rfl
@[simp] theorem State.setView_fifo (s : State) (v : Nat) (x : ViewSt) : (State.setView s v x).fifo = s.fifo := rfl
@[simp] theorem State.setView_mc (s : State) (v : Nat) (x : ViewSt) : (State.setView s v x).mc = s.mc := rfl
@[simp] theorem State.setView_mcg (s : State) (v : Nat) (x : ViewSt) : (State.setView s v x).mcg = s.mcg := rfl
@[simp] theorem State.setView_hlth (s : State) (v : Nat) (x : ViewSt) : (State.setView s v x).hlth = s.hlth := rfl
@[simp] theorem State.setView_log (s : State) (v : Nat) (x : ViewSt) : (State.setView s v x).log = s.log := rfl
@[simp] theorem State.setView_logLatch (s : State) (v : Nat) (x : ViewSt) : (State.setView s v x).logLatch = s.logLatch := rfl
@[simp] theorem State.setView_commits (s : State) (v : Nat) (x : ViewSt) : (State.setView s v x).commits = s.commits := rfl
@[simp] theorem State.setView_cmtRec (s : State) (v : Nat) (x : ViewSt) : (State.setView s v x).cmtRec = s.cmtRec := rfl
@[simp] theorem State.setView_entered (s : State) (v : Nat) (x : ViewSt) : (State.setView s v x).entered = s.entered := rfl
@[simp] theorem State.setView_lockAt (s : State) (v : Nat) (x : ViewSt) : (State.setView s v x).lockAt = s.lockAt := rfl
@[simp] theorem State.setView_lockKey (s : State) (v : Nat) (x : ViewSt) : (State.setView s v x).lockKey = s.lockKey := rfl
@[simp] theorem State.setView_revoking (s : State) (v : Nat) (x : ViewSt) : (State.setView s v x).revoking = s.revoking := rfl
@[simp] theorem State.setView_dead (s : State) (v : Nat) (x : ViewSt) : (State.setView s v x).dead = s.dead := rfl
@[simp] theorem State.setView_pending (s : State) (v : Nat) (x : ViewSt) : (State.setView s v x).pending = s.pending := rfl
@[simp] theorem State.setView_rd (s : State) (v : Nat) (x : ViewSt) (q0 o0 : Nat) : (State.setView s v x).rd q0 o0 = s.rd q0 o0 := rfl
@[simp] theorem State.setView_fld (s : State) (v : Nat) (x : ViewSt) (q0 : Nat) (f0 : Fld) : (State.setView s v x).fld q0 f0 = s.fld q0 f0 := rfl
@[simp] theorem State.setView_win (s : State) (v : Nat) (x : ViewSt) (q0 : Nat) : (State.setView s v x).win q0 = s.win q0 := rfl
/-! State.setChan -/

@[simp] theorem State.setChan_mem (s : State) (ch : Nat) (v : Chan) : (State.setChan s ch v).mem = s.mem := rfl
@[simp] theorem State.setChan_blank (s : State) (ch : Nat) (v : Chan) : (State.setChan s ch v).blank = s.blank := rfl
@[simp] theorem State.setChan_badLine (s : State) (ch : Nat) (v : Chan) : (State.setChan s ch v).badLine = s.badLine := rfl
@[simp] theorem State.setChan_regs (s : State) (ch : Nat) (v : Chan) : (State.setChan s ch v).regs = s.regs := rfl
@[simp] theorem State.setChan_shadow (s : State) (ch : Nat) (v : Chan) : (State.setChan s ch v).shadow = s.shadow := rfl
@[simp] theorem State.setChan_wroDone (s : State) (ch : Nat) (v : Chan) : (State.setChan s ch v).wroDone = s.wroDone := rfl
@[simp] theorem State.setChan_window (s : State) (ch : Nat) (v : Chan) : (State.setChan s ch v).window = s.window := rfl
@[simp] theorem State.setChan_out (s : State) (ch : Nat) (v : Chan) : (State.setChan s ch v).out = s.out := rfl
@[simp] theorem State.setChan_raw (s : State) (ch : Nat) (v : Chan) : (State.setChan s ch v).raw = s.raw := rfl
@[simp] theorem State.setChan_free (s : State) (ch : Nat) (v : Chan) : (State.setChan s ch v).free = s.free := rfl
@[simp] theorem State.setChan_fuse (s : State) (ch : Nat) (v : Chan) : (State.setChan s ch v).fuse = s.fuse := rfl
@[simp] theorem State.setChan_trained (s : State) (ch : Nat) (v : Chan) : (State.setChan s ch v).trained = s.trained := rfl
@[simp] theorem State.setChan_bootWait (s : State) (ch : Nat) (v : Chan) : (State.setChan s ch v).bootWait = s.bootWait := rfl
@[simp] theorem State.setChan_tb (s : State) (ch : Nat) (v : Chan) : (State.setChan s ch v).tb = s.tb := rfl
@[simp] theorem State.setChan_crl (s : State) (ch : Nat) (v : Chan) : (State.setChan s ch v).crl = s.crl := rfl
@[simp] theorem State.setChan_evio (s : State) (ch : Nat) (v : Chan) : (State.setChan s ch v).evio = s.evio := rfl
@[simp] theorem State.setChan_evf (s : State) (ch : Nat) (v : Chan) : (State.setChan s ch v).evf = s.evf := rfl
@[simp] theorem State.setChan_raised (s : State) (ch : Nat) (v : Chan) : (State.setChan s ch v).raised = s.raised := rfl
@[simp] theorem State.setChan_tg (s : State) (ch : Nat) (v : Chan) : (State.setChan s ch v).tg = s.tg := rfl
@[simp] theorem State.setChan_view (s : State) (ch : Nat) (v : Chan) : (State.setChan s ch v).view = s.view := rfl
@[simp] theorem State.setChan_link (s : State) (ch : Nat) (v : Chan) : (State.setChan s ch v).link = s.link := rfl
@[simp] theorem State.setChan_train (s : State) (ch : Nat) (v : Chan) : (State.setChan s ch v).train = s.train := rfl
@[simp] theorem State.setChan_joker (s : State) (ch : Nat) (v : Chan) : (State.setChan s ch v).joker = s.joker := rfl
@[simp] theorem State.setChan_roWritten (s : State) (ch : Nat) (v : Chan) : (State.setChan s ch v).roWritten = s.roWritten := rfl
@[simp] theorem State.setChan_jobA (s : State) (ch : Nat) (v : Chan) : (State.setChan s ch v).jobA = s.jobA := rfl
@[simp] theorem State.setChan_jobN (s : State) (ch : Nat) (v : Chan) : (State.setChan s ch v).jobN = s.jobN := rfl
@[simp] theorem State.setChan_valJob (s : State) (ch : Nat) (v : Chan) : (State.setChan s ch v).valJob = s.valJob := rfl
@[simp] theorem State.setChan_jobVals (s : State) (ch : Nat) (v : Chan) : (State.setChan s ch v).jobVals = s.jobVals := rfl
@[simp] theorem State.setChan_intake (s : State) (ch : Nat) (v : Chan) : (State.setChan s ch v).intake = s.intake := rfl
@[simp] theorem State.setChan_pipe (s : State) (ch : Nat) (v : Chan) : (State.setChan s ch v).pipe = s.pipe := rfl
@[simp] theorem State.setChan_tapBuf (s : State) (ch : Nat) (v : Chan) : (State.setChan s ch v).tapBuf = s.tapBuf := rfl
@[simp] theorem State.setChan_corr (s : State) (ch : Nat) (v : Chan) : (State.setChan s ch v).corr = s.corr := rfl
@[simp] theorem State.setChan_stitch_ (s : State) (ch : Nat) (v : Chan) : (State.setChan s ch v).stitch_ = s.stitch_ := rfl
@[simp] theorem State.setChan_dot (s : State) (ch : Nat) (v : Chan) : (State.setChan s ch v).dot = s.dot := rfl
@[simp] theorem State.setChan_winRes (s : State) (ch : Nat) (v : Chan) : (State.setChan s ch v).winRes = s.winRes := rfl
@[simp] theorem State.setChan_mst (s : State) (ch : Nat) (v : Chan) : (State.setChan s ch v).mst = s.mst := rfl
@[simp] theorem State.setChan_predict (s : State) (ch : Nat) (v : Chan) : (State.setChan s ch v).predict = s.predict := rfl
@[simp] theorem State.setChan_eng (s : State) (ch : Nat) (v : Chan) : (State.setChan s ch v).eng = s.eng := rfl
@[simp] theorem State.setChan_resA (s : State) (ch : Nat) (v : Chan) : (State.setChan s ch v).resA = s.resA := rfl
@[simp] theorem State.setChan_resN (s : State) (ch : Nat) (v : Chan) : (State.setChan s ch v).resN = s.resN := rfl
@[simp] theorem State.setChan_acts (s : State) (ch : Nat) (v : Chan) : (State.setChan s ch v).acts = s.acts := rfl
@[simp] theorem State.setChan_hits (s : State) (ch : Nat) (v : Chan) : (State.setChan s ch v).hits = s.hits := rfl
@[simp] theorem State.setChan_net (s : State) (ch : Nat) (v : Chan) : (State.setChan s ch v).net = s.net := rfl
@[simp] theorem State.setChan_stream (s : State) (ch : Nat) (v : Chan) : (State.setChan s ch v).stream = s.stream := rfl
@[simp] theorem State.setChan_dec (s : State) (ch : Nat) (v : Chan) : (State.setChan s ch v).dec = s.dec := rfl
@[simp] theorem State.setChan_queue (s : State) (ch : Nat) (v : Chan) : (State.setChan s ch v).queue = s.queue := rfl
@[simp] theorem State.setChan_levels (s : State) (ch : Nat) (v : Chan) : (State.setChan s ch v).levels = s.levels := rfl
@[simp] theorem State.setChan_arb (s : State) (ch : Nat) (v : Chan) : (State.setChan s ch v).arb = s.arb := rfl
@[simp] theorem State.setChan_qshadow (s : State) (ch : Nat) (v : Chan) : (State.setChan s ch v).qshadow = s.qshadow := rfl
@[simp] theorem State.setChan_hqLo (s : State) (ch : Nat) (v : Chan) : (State.setChan s ch v).hqLo = s.hqLo := rfl
@[simp] theorem State.setChan_dma (s : State) (ch : Nat) (v : Chan) : (State.setChan s ch v).dma = s.dma := rfl
@[simp] theorem State.setChan_zip (s : State) (ch : Nat) (v : Chan) : (State.setChan s ch v).zip = s.zip := rfl
@[simp] theorem State.setChan_twl (s : State) (ch : Nat) (v : Chan) : (State.setChan s ch v).twl = s.twl := rfl
@[simp] theorem State.setChan_fifo (s : State) (ch : Nat) (v : Chan) : (State.setChan s ch v).fifo = s.fifo := rfl
@[simp] theorem State.setChan_mc (s : State) (ch : Nat) (v : Chan) : (State.setChan s ch v).mc = s.mc := rfl
@[simp] theorem State.setChan_mcg (s : State) (ch : Nat) (v : Chan) : (State.setChan s ch v).mcg = s.mcg := rfl
@[simp] theorem State.setChan_hlth (s : State) (ch : Nat) (v : Chan) : (State.setChan s ch v).hlth = s.hlth := rfl
@[simp] theorem State.setChan_log (s : State) (ch : Nat) (v : Chan) : (State.setChan s ch v).log = s.log := rfl
@[simp] theorem State.setChan_logLatch (s : State) (ch : Nat) (v : Chan) : (State.setChan s ch v).logLatch = s.logLatch := rfl
@[simp] theorem State.setChan_commits (s : State) (ch : Nat) (v : Chan) : (State.setChan s ch v).commits = s.commits := rfl
@[simp] theorem State.setChan_cmtRec (s : State) (ch : Nat) (v : Chan) : (State.setChan s ch v).cmtRec = s.cmtRec := rfl
@[simp] theorem State.setChan_entered (s : State) (ch : Nat) (v : Chan) : (State.setChan s ch v).entered = s.entered := rfl
@[simp] theorem State.setChan_lockAt (s : State) (ch : Nat) (v : Chan) : (State.setChan s ch v).lockAt = s.lockAt := rfl
@[simp] theorem State.setChan_lockKey (s : State) (ch : Nat) (v : Chan) : (State.setChan s ch v).lockKey = s.lockKey := rfl
@[simp] theorem State.setChan_revoking (s : State) (ch : Nat) (v : Chan) : (State.setChan s ch v).revoking = s.revoking := rfl
@[simp] theorem State.setChan_dead (s : State) (ch : Nat) (v : Chan) : (State.setChan s ch v).dead = s.dead := rfl
@[simp] theorem State.setChan_pending (s : State) (ch : Nat) (v : Chan) : (State.setChan s ch v).pending = s.pending := rfl
@[simp] theorem State.setChan_rd (s : State) (ch : Nat) (v : Chan) (q0 o0 : Nat) : (State.setChan s ch v).rd q0 o0 = s.rd q0 o0 := rfl
@[simp] theorem State.setChan_fld (s : State) (ch : Nat) (v : Chan) (q0 : Nat) (f0 : Fld) : (State.setChan s ch v).fld q0 f0 = s.fld q0 f0 := rfl
@[simp] theorem State.setChan_win (s : State) (ch : Nat) (v : Chan) (q0 : Nat) : (State.setChan s ch v).win q0 = s.win q0 := rfl
/-! State.setTg -/

@[simp] theorem State.setTg_mem (s : State) (v : Nat) (g : TrigGen) : (State.setTg s v g).mem = s.mem := rfl
@[simp] theorem State.setTg_blank (s : State) (v : Nat) (g : TrigGen) : (State.setTg s v g).blank = s.blank := rfl
@[simp] theorem State.setTg_badLine (s : State) (v : Nat) (g : TrigGen) : (State.setTg s v g).badLine = s.badLine := rfl
@[simp] theorem State.setTg_regs (s : State) (v : Nat) (g : TrigGen) : (State.setTg s v g).regs = s.regs := rfl
@[simp] theorem State.setTg_shadow (s : State) (v : Nat) (g : TrigGen) : (State.setTg s v g).shadow = s.shadow := rfl
@[simp] theorem State.setTg_wroDone (s : State) (v : Nat) (g : TrigGen) : (State.setTg s v g).wroDone = s.wroDone := rfl
@[simp] theorem State.setTg_window (s : State) (v : Nat) (g : TrigGen) : (State.setTg s v g).window = s.window := rfl
@[simp] theorem State.setTg_out (s : State) (v : Nat) (g : TrigGen) : (State.setTg s v g).out = s.out := rfl
@[simp] theorem State.setTg_raw (s : State) (v : Nat) (g : TrigGen) : (State.setTg s v g).raw = s.raw := rfl
@[simp] theorem State.setTg_free (s : State) (v : Nat) (g : TrigGen) : (State.setTg s v g).free = s.free := rfl
@[simp] theorem State.setTg_fuse (s : State) (v : Nat) (g : TrigGen) : (State.setTg s v g).fuse = s.fuse := rfl
@[simp] theorem State.setTg_trained (s : State) (v : Nat) (g : TrigGen) : (State.setTg s v g).trained = s.trained := rfl
@[simp] theorem State.setTg_bootWait (s : State) (v : Nat) (g : TrigGen) : (State.setTg s v g).bootWait = s.bootWait := rfl
@[simp] theorem State.setTg_tb (s : State) (v : Nat) (g : TrigGen) : (State.setTg s v g).tb = s.tb := rfl
@[simp] theorem State.setTg_crl (s : State) (v : Nat) (g : TrigGen) : (State.setTg s v g).crl = s.crl := rfl
@[simp] theorem State.setTg_evio (s : State) (v : Nat) (g : TrigGen) : (State.setTg s v g).evio = s.evio := rfl
@[simp] theorem State.setTg_evf (s : State) (v : Nat) (g : TrigGen) : (State.setTg s v g).evf = s.evf := rfl
@[simp] theorem State.setTg_raised (s : State) (v : Nat) (g : TrigGen) : (State.setTg s v g).raised = s.raised := rfl
@[simp] theorem State.setTg_chan (s : State) (v : Nat) (g : TrigGen) : (State.setTg s v g).chan = s.chan := rfl
@[simp] theorem State.setTg_view (s : State) (v : Nat) (g : TrigGen) : (State.setTg s v g).view = s.view := rfl
@[simp] theorem State.setTg_link (s : State) (v : Nat) (g : TrigGen) : (State.setTg s v g).link = s.link := rfl
@[simp] theorem State.setTg_train (s : State) (v : Nat) (g : TrigGen) : (State.setTg s v g).train = s.train := rfl
@[simp] theorem State.setTg_joker (s : State) (v : Nat) (g : TrigGen) : (State.setTg s v g).joker = s.joker := rfl
@[simp] theorem State.setTg_roWritten (s : State) (v : Nat) (g : TrigGen) : (State.setTg s v g).roWritten = s.roWritten := rfl
@[simp] theorem State.setTg_jobA (s : State) (v : Nat) (g : TrigGen) : (State.setTg s v g).jobA = s.jobA := rfl
@[simp] theorem State.setTg_jobN (s : State) (v : Nat) (g : TrigGen) : (State.setTg s v g).jobN = s.jobN := rfl
@[simp] theorem State.setTg_valJob (s : State) (v : Nat) (g : TrigGen) : (State.setTg s v g).valJob = s.valJob := rfl
@[simp] theorem State.setTg_jobVals (s : State) (v : Nat) (g : TrigGen) : (State.setTg s v g).jobVals = s.jobVals := rfl
@[simp] theorem State.setTg_intake (s : State) (v : Nat) (g : TrigGen) : (State.setTg s v g).intake = s.intake := rfl
@[simp] theorem State.setTg_pipe (s : State) (v : Nat) (g : TrigGen) : (State.setTg s v g).pipe = s.pipe := rfl
@[simp] theorem State.setTg_tapBuf (s : State) (v : Nat) (g : TrigGen) : (State.setTg s v g).tapBuf = s.tapBuf := rfl
@[simp] theorem State.setTg_corr (s : State) (v : Nat) (g : TrigGen) : (State.setTg s v g).corr = s.corr := rfl
@[simp] theorem State.setTg_stitch_ (s : State) (v : Nat) (g : TrigGen) : (State.setTg s v g).stitch_ = s.stitch_ := rfl
@[simp] theorem State.setTg_dot (s : State) (v : Nat) (g : TrigGen) : (State.setTg s v g).dot = s.dot := rfl
@[simp] theorem State.setTg_winRes (s : State) (v : Nat) (g : TrigGen) : (State.setTg s v g).winRes = s.winRes := rfl
@[simp] theorem State.setTg_mst (s : State) (v : Nat) (g : TrigGen) : (State.setTg s v g).mst = s.mst := rfl
@[simp] theorem State.setTg_predict (s : State) (v : Nat) (g : TrigGen) : (State.setTg s v g).predict = s.predict := rfl
@[simp] theorem State.setTg_eng (s : State) (v : Nat) (g : TrigGen) : (State.setTg s v g).eng = s.eng := rfl
@[simp] theorem State.setTg_resA (s : State) (v : Nat) (g : TrigGen) : (State.setTg s v g).resA = s.resA := rfl
@[simp] theorem State.setTg_resN (s : State) (v : Nat) (g : TrigGen) : (State.setTg s v g).resN = s.resN := rfl
@[simp] theorem State.setTg_acts (s : State) (v : Nat) (g : TrigGen) : (State.setTg s v g).acts = s.acts := rfl
@[simp] theorem State.setTg_hits (s : State) (v : Nat) (g : TrigGen) : (State.setTg s v g).hits = s.hits := rfl
@[simp] theorem State.setTg_net (s : State) (v : Nat) (g : TrigGen) : (State.setTg s v g).net = s.net := rfl
@[simp] theorem State.setTg_stream (s : State) (v : Nat) (g : TrigGen) : (State.setTg s v g).stream = s.stream := rfl
@[simp] theorem State.setTg_dec (s : State) (v : Nat) (g : TrigGen) : (State.setTg s v g).dec = s.dec := rfl
@[simp] theorem State.setTg_queue (s : State) (v : Nat) (g : TrigGen) : (State.setTg s v g).queue = s.queue := rfl
@[simp] theorem State.setTg_levels (s : State) (v : Nat) (g : TrigGen) : (State.setTg s v g).levels = s.levels := rfl
@[simp] theorem State.setTg_arb (s : State) (v : Nat) (g : TrigGen) : (State.setTg s v g).arb = s.arb := rfl
@[simp] theorem State.setTg_qshadow (s : State) (v : Nat) (g : TrigGen) : (State.setTg s v g).qshadow = s.qshadow := rfl
@[simp] theorem State.setTg_hqLo (s : State) (v : Nat) (g : TrigGen) : (State.setTg s v g).hqLo = s.hqLo := rfl
@[simp] theorem State.setTg_dma (s : State) (v : Nat) (g : TrigGen) : (State.setTg s v g).dma = s.dma := rfl
@[simp] theorem State.setTg_zip (s : State) (v : Nat) (g : TrigGen) : (State.setTg s v g).zip = s.zip := rfl
@[simp] theorem State.setTg_twl (s : State) (v : Nat) (g : TrigGen) : (State.setTg s v g).twl = s.twl := rfl
@[simp] theorem State.setTg_fifo (s : State) (v : Nat) (g : TrigGen) : (State.setTg s v g).fifo = s.fifo := rfl
@[simp] theorem State.setTg_mc (s : State) (v : Nat) (g : TrigGen) : (State.setTg s v g).mc = s.mc := rfl
@[simp] theorem State.setTg_mcg (s : State) (v : Nat) (g : TrigGen) : (State.setTg s v g).mcg = s.mcg := rfl
@[simp] theorem State.setTg_hlth (s : State) (v : Nat) (g : TrigGen) : (State.setTg s v g).hlth = s.hlth := rfl
@[simp] theorem State.setTg_log (s : State) (v : Nat) (g : TrigGen) : (State.setTg s v g).log = s.log := rfl
@[simp] theorem State.setTg_logLatch (s : State) (v : Nat) (g : TrigGen) : (State.setTg s v g).logLatch = s.logLatch := rfl
@[simp] theorem State.setTg_commits (s : State) (v : Nat) (g : TrigGen) : (State.setTg s v g).commits = s.commits := rfl
@[simp] theorem State.setTg_cmtRec (s : State) (v : Nat) (g : TrigGen) : (State.setTg s v g).cmtRec = s.cmtRec := rfl
@[simp] theorem State.setTg_entered (s : State) (v : Nat) (g : TrigGen) : (State.setTg s v g).entered = s.entered := rfl
@[simp] theorem State.setTg_lockAt (s : State) (v : Nat) (g : TrigGen) : (State.setTg s v g).lockAt = s.lockAt := rfl
@[simp] theorem State.setTg_lockKey (s : State) (v : Nat) (g : TrigGen) : (State.setTg s v g).lockKey = s.lockKey := rfl
@[simp] theorem State.setTg_revoking (s : State) (v : Nat) (g : TrigGen) : (State.setTg s v g).revoking = s.revoking := rfl
@[simp] theorem State.setTg_dead (s : State) (v : Nat) (g : TrigGen) : (State.setTg s v g).dead = s.dead := rfl
@[simp] theorem State.setTg_pending (s : State) (v : Nat) (g : TrigGen) : (State.setTg s v g).pending = s.pending := rfl
@[simp] theorem State.setTg_rd (s : State) (v : Nat) (g : TrigGen) (q0 o0 : Nat) : (State.setTg s v g).rd q0 o0 = s.rd q0 o0 := rfl
@[simp] theorem State.setTg_fld (s : State) (v : Nat) (g : TrigGen) (q0 : Nat) (f0 : Fld) : (State.setTg s v g).fld q0 f0 = s.fld q0 f0 := rfl
@[simp] theorem State.setTg_win (s : State) (v : Nat) (g : TrigGen) (q0 : Nat) : (State.setTg s v g).win q0 = s.win q0 := rfl
/-! State.putJk -/

@[simp] theorem State.putJk_mem (s : State) (q : Nat) (j : Joker) : (State.putJk s q j).mem = s.mem := rfl
@[simp] theorem State.putJk_blank (s : State) (q : Nat) (j : Joker) : (State.putJk s q j).blank = s.blank := rfl
@[simp] theorem State.putJk_badLine (s : State) (q : Nat) (j : Joker) : (State.putJk s q j).badLine = s.badLine := rfl
@[simp] theorem State.putJk_regs (s : State) (q : Nat) (j : Joker) : (State.putJk s q j).regs = s.regs := rfl
@[simp] theorem State.putJk_shadow (s : State) (q : Nat) (j : Joker) : (State.putJk s q j).shadow = s.shadow := rfl
@[simp] theorem State.putJk_wroDone (s : State) (q : Nat) (j : Joker) : (State.putJk s q j).wroDone = s.wroDone := rfl
@[simp] theorem State.putJk_window (s : State) (q : Nat) (j : Joker) : (State.putJk s q j).window = s.window := rfl
@[simp] theorem State.putJk_out (s : State) (q : Nat) (j : Joker) : (State.putJk s q j).out = s.out := rfl
@[simp] theorem State.putJk_raw (s : State) (q : Nat) (j : Joker) : (State.putJk s q j).raw = s.raw := rfl
@[simp] theorem State.putJk_free (s : State) (q : Nat) (j : Joker) : (State.putJk s q j).free = s.free := rfl
@[simp] theorem State.putJk_fuse (s : State) (q : Nat) (j : Joker) : (State.putJk s q j).fuse = s.fuse := rfl
@[simp] theorem State.putJk_trained (s : State) (q : Nat) (j : Joker) : (State.putJk s q j).trained = s.trained := rfl
@[simp] theorem State.putJk_bootWait (s : State) (q : Nat) (j : Joker) : (State.putJk s q j).bootWait = s.bootWait := rfl
@[simp] theorem State.putJk_tb (s : State) (q : Nat) (j : Joker) : (State.putJk s q j).tb = s.tb := rfl
@[simp] theorem State.putJk_crl (s : State) (q : Nat) (j : Joker) : (State.putJk s q j).crl = s.crl := rfl
@[simp] theorem State.putJk_evio (s : State) (q : Nat) (j : Joker) : (State.putJk s q j).evio = s.evio := rfl
@[simp] theorem State.putJk_evf (s : State) (q : Nat) (j : Joker) : (State.putJk s q j).evf = s.evf := rfl
@[simp] theorem State.putJk_raised (s : State) (q : Nat) (j : Joker) : (State.putJk s q j).raised = s.raised := rfl
@[simp] theorem State.putJk_chan (s : State) (q : Nat) (j : Joker) : (State.putJk s q j).chan = s.chan := rfl
@[simp] theorem State.putJk_tg (s : State) (q : Nat) (j : Joker) : (State.putJk s q j).tg = s.tg := rfl
@[simp] theorem State.putJk_view (s : State) (q : Nat) (j : Joker) : (State.putJk s q j).view = s.view := rfl
@[simp] theorem State.putJk_link (s : State) (q : Nat) (j : Joker) : (State.putJk s q j).link = s.link := rfl
@[simp] theorem State.putJk_train (s : State) (q : Nat) (j : Joker) : (State.putJk s q j).train = s.train := rfl
@[simp] theorem State.putJk_roWritten (s : State) (q : Nat) (j : Joker) : (State.putJk s q j).roWritten = s.roWritten := rfl
@[simp] theorem State.putJk_jobA (s : State) (q : Nat) (j : Joker) : (State.putJk s q j).jobA = s.jobA := rfl
@[simp] theorem State.putJk_jobN (s : State) (q : Nat) (j : Joker) : (State.putJk s q j).jobN = s.jobN := rfl
@[simp] theorem State.putJk_valJob (s : State) (q : Nat) (j : Joker) : (State.putJk s q j).valJob = s.valJob := rfl
@[simp] theorem State.putJk_jobVals (s : State) (q : Nat) (j : Joker) : (State.putJk s q j).jobVals = s.jobVals := rfl
@[simp] theorem State.putJk_intake (s : State) (q : Nat) (j : Joker) : (State.putJk s q j).intake = s.intake := rfl
@[simp] theorem State.putJk_pipe (s : State) (q : Nat) (j : Joker) : (State.putJk s q j).pipe = s.pipe := rfl
@[simp] theorem State.putJk_tapBuf (s : State) (q : Nat) (j : Joker) : (State.putJk s q j).tapBuf = s.tapBuf := rfl
@[simp] theorem State.putJk_corr (s : State) (q : Nat) (j : Joker) : (State.putJk s q j).corr = s.corr := rfl
@[simp] theorem State.putJk_stitch_ (s : State) (q : Nat) (j : Joker) : (State.putJk s q j).stitch_ = s.stitch_ := rfl
@[simp] theorem State.putJk_dot (s : State) (q : Nat) (j : Joker) : (State.putJk s q j).dot = s.dot := rfl
@[simp] theorem State.putJk_winRes (s : State) (q : Nat) (j : Joker) : (State.putJk s q j).winRes = s.winRes := rfl
@[simp] theorem State.putJk_mst (s : State) (q : Nat) (j : Joker) : (State.putJk s q j).mst = s.mst := rfl
@[simp] theorem State.putJk_predict (s : State) (q : Nat) (j : Joker) : (State.putJk s q j).predict = s.predict := rfl
@[simp] theorem State.putJk_eng (s : State) (q : Nat) (j : Joker) : (State.putJk s q j).eng = s.eng := rfl
@[simp] theorem State.putJk_resA (s : State) (q : Nat) (j : Joker) : (State.putJk s q j).resA = s.resA := rfl
@[simp] theorem State.putJk_resN (s : State) (q : Nat) (j : Joker) : (State.putJk s q j).resN = s.resN := rfl
@[simp] theorem State.putJk_acts (s : State) (q : Nat) (j : Joker) : (State.putJk s q j).acts = s.acts := rfl
@[simp] theorem State.putJk_hits (s : State) (q : Nat) (j : Joker) : (State.putJk s q j).hits = s.hits := rfl
@[simp] theorem State.putJk_net (s : State) (q : Nat) (j : Joker) : (State.putJk s q j).net = s.net := rfl
@[simp] theorem State.putJk_stream (s : State) (q : Nat) (j : Joker) : (State.putJk s q j).stream = s.stream := rfl
@[simp] theorem State.putJk_dec (s : State) (q : Nat) (j : Joker) : (State.putJk s q j).dec = s.dec := rfl
@[simp] theorem State.putJk_queue (s : State) (q : Nat) (j : Joker) : (State.putJk s q j).queue = s.queue := rfl
@[simp] theorem State.putJk_levels (s : State) (q : Nat) (j : Joker) : (State.putJk s q j).levels = s.levels := rfl
@[simp] theorem State.putJk_arb (s : State) (q : Nat) (j : Joker) : (State.putJk s q j).arb = s.arb := rfl
@[simp] theorem State.putJk_qshadow (s : State) (q : Nat) (j : Joker) : (State.putJk s q j).qshadow = s.qshadow := rfl
@[simp] theorem State.putJk_hqLo (s : State) (q : Nat) (j : Joker) : (State.putJk s q j).hqLo = s.hqLo := rfl
@[simp] theorem State.putJk_dma (s : State) (q : Nat) (j : Joker) : (State.putJk s q j).dma = s.dma := rfl
@[simp] theorem State.putJk_zip (s : State) (q : Nat) (j : Joker) : (State.putJk s q j).zip = s.zip := rfl
@[simp] theorem State.putJk_twl (s : State) (q : Nat) (j : Joker) : (State.putJk s q j).twl = s.twl := rfl
@[simp] theorem State.putJk_fifo (s : State) (q : Nat) (j : Joker) : (State.putJk s q j).fifo = s.fifo := rfl
@[simp] theorem State.putJk_mc (s : State) (q : Nat) (j : Joker) : (State.putJk s q j).mc = s.mc := rfl
@[simp] theorem State.putJk_mcg (s : State) (q : Nat) (j : Joker) : (State.putJk s q j).mcg = s.mcg := rfl
@[simp] theorem State.putJk_hlth (s : State) (q : Nat) (j : Joker) : (State.putJk s q j).hlth = s.hlth := rfl
@[simp] theorem State.putJk_log (s : State) (q : Nat) (j : Joker) : (State.putJk s q j).log = s.log := rfl
@[simp] theorem State.putJk_logLatch (s : State) (q : Nat) (j : Joker) : (State.putJk s q j).logLatch = s.logLatch := rfl
@[simp] theorem State.putJk_commits (s : State) (q : Nat) (j : Joker) : (State.putJk s q j).commits = s.commits := rfl
@[simp] theorem State.putJk_cmtRec (s : State) (q : Nat) (j : Joker) : (State.putJk s q j).cmtRec = s.cmtRec := rfl
@[simp] theorem State.putJk_entered (s : State) (q : Nat) (j : Joker) : (State.putJk s q j).entered = s.entered := rfl
@[simp] theorem State.putJk_lockAt (s : State) (q : Nat) (j : Joker) : (State.putJk s q j).lockAt = s.lockAt := rfl
@[simp] theorem State.putJk_lockKey (s : State) (q : Nat) (j : Joker) : (State.putJk s q j).lockKey = s.lockKey := rfl
@[simp] theorem State.putJk_revoking (s : State) (q : Nat) (j : Joker) : (State.putJk s q j).revoking = s.revoking := rfl
@[simp] theorem State.putJk_dead (s : State) (q : Nat) (j : Joker) : (State.putJk s q j).dead = s.dead := rfl
@[simp] theorem State.putJk_pending (s : State) (q : Nat) (j : Joker) : (State.putJk s q j).pending = s.pending := rfl
@[simp] theorem State.putJk_rd (s : State) (q : Nat) (j : Joker) (q0 o0 : Nat) : (State.putJk s q j).rd q0 o0 = s.rd q0 o0 := rfl
@[simp] theorem State.putJk_fld (s : State) (q : Nat) (j : Joker) (q0 : Nat) (f0 : Fld) : (State.putJk s q j).fld q0 f0 = s.fld q0 f0 := rfl
@[simp] theorem State.putJk_win (s : State) (q : Nat) (j : Joker) (q0 : Nat) : (State.putJk s q j).win q0 = s.win q0 := rfl
/-! State.setTwl -/

@[simp] theorem State.setTwl_mem (s : State) (n : Nat) (v : Twl) : (State.setTwl s n v).mem = s.mem := rfl
@[simp] theorem State.setTwl_blank (s : State) (n : Nat) (v : Twl) : (State.setTwl s n v).blank = s.blank := rfl
@[simp] theorem State.setTwl_badLine (s : State) (n : Nat) (v : Twl) : (State.setTwl s n v).badLine = s.badLine := rfl
@[simp] theorem State.setTwl_regs (s : State) (n : Nat) (v : Twl) : (State.setTwl s n v).regs = s.regs := rfl
@[simp] theorem State.setTwl_shadow (s : State) (n : Nat) (v : Twl) : (State.setTwl s n v).shadow = s.shadow := rfl
@[simp] theorem State.setTwl_wroDone (s : State) (n : Nat) (v : Twl) : (State.setTwl s n v).wroDone = s.wroDone := rfl
@[simp] theorem State.setTwl_window (s : State) (n : Nat) (v : Twl) : (State.setTwl s n v).window = s.window := rfl
@[simp] theorem State.setTwl_out (s : State) (n : Nat) (v : Twl) : (State.setTwl s n v).out = s.out := rfl
@[simp] theorem State.setTwl_raw (s : State) (n : Nat) (v : Twl) : (State.setTwl s n v).raw = s.raw := rfl
@[simp] theorem State.setTwl_free (s : State) (n : Nat) (v : Twl) : (State.setTwl s n v).free = s.free := rfl
@[simp] theorem State.setTwl_fuse (s : State) (n : Nat) (v : Twl) : (State.setTwl s n v).fuse = s.fuse := rfl
@[simp] theorem State.setTwl_trained (s : State) (n : Nat) (v : Twl) : (State.setTwl s n v).trained = s.trained := rfl
@[simp] theorem State.setTwl_bootWait (s : State) (n : Nat) (v : Twl) : (State.setTwl s n v).bootWait = s.bootWait := rfl
@[simp] theorem State.setTwl_tb (s : State) (n : Nat) (v : Twl) : (State.setTwl s n v).tb = s.tb := rfl
@[simp] theorem State.setTwl_crl (s : State) (n : Nat) (v : Twl) : (State.setTwl s n v).crl = s.crl := rfl
@[simp] theorem State.setTwl_evio (s : State) (n : Nat) (v : Twl) : (State.setTwl s n v).evio = s.evio := rfl
@[simp] theorem State.setTwl_evf (s : State) (n : Nat) (v : Twl) : (State.setTwl s n v).evf = s.evf := rfl
@[simp] theorem State.setTwl_raised (s : State) (n : Nat) (v : Twl) : (State.setTwl s n v).raised = s.raised := rfl
@[simp] theorem State.setTwl_chan (s : State) (n : Nat) (v : Twl) : (State.setTwl s n v).chan = s.chan := rfl
@[simp] theorem State.setTwl_tg (s : State) (n : Nat) (v : Twl) : (State.setTwl s n v).tg = s.tg := rfl
@[simp] theorem State.setTwl_view (s : State) (n : Nat) (v : Twl) : (State.setTwl s n v).view = s.view := rfl
@[simp] theorem State.setTwl_link (s : State) (n : Nat) (v : Twl) : (State.setTwl s n v).link = s.link := rfl
@[simp] theorem State.setTwl_train (s : State) (n : Nat) (v : Twl) : (State.setTwl s n v).train = s.train := rfl
@[simp] theorem State.setTwl_joker (s : State) (n : Nat) (v : Twl) : (State.setTwl s n v).joker = s.joker := rfl
@[simp] theorem State.setTwl_roWritten (s : State) (n : Nat) (v : Twl) : (State.setTwl s n v).roWritten = s.roWritten := rfl
@[simp] theorem State.setTwl_jobA (s : State) (n : Nat) (v : Twl) : (State.setTwl s n v).jobA = s.jobA := rfl
@[simp] theorem State.setTwl_jobN (s : State) (n : Nat) (v : Twl) : (State.setTwl s n v).jobN = s.jobN := rfl
@[simp] theorem State.setTwl_valJob (s : State) (n : Nat) (v : Twl) : (State.setTwl s n v).valJob = s.valJob := rfl
@[simp] theorem State.setTwl_jobVals (s : State) (n : Nat) (v : Twl) : (State.setTwl s n v).jobVals = s.jobVals := rfl
@[simp] theorem State.setTwl_intake (s : State) (n : Nat) (v : Twl) : (State.setTwl s n v).intake = s.intake := rfl
@[simp] theorem State.setTwl_pipe (s : State) (n : Nat) (v : Twl) : (State.setTwl s n v).pipe = s.pipe := rfl
@[simp] theorem State.setTwl_tapBuf (s : State) (n : Nat) (v : Twl) : (State.setTwl s n v).tapBuf = s.tapBuf := rfl
@[simp] theorem State.setTwl_corr (s : State) (n : Nat) (v : Twl) : (State.setTwl s n v).corr = s.corr := rfl
@[simp] theorem State.setTwl_stitch_ (s : State) (n : Nat) (v : Twl) : (State.setTwl s n v).stitch_ = s.stitch_ := rfl
@[simp] theorem State.setTwl_dot (s : State) (n : Nat) (v : Twl) : (State.setTwl s n v).dot = s.dot := rfl
@[simp] theorem State.setTwl_winRes (s : State) (n : Nat) (v : Twl) : (State.setTwl s n v).winRes = s.winRes := rfl
@[simp] theorem State.setTwl_mst (s : State) (n : Nat) (v : Twl) : (State.setTwl s n v).mst = s.mst := rfl
@[simp] theorem State.setTwl_predict (s : State) (n : Nat) (v : Twl) : (State.setTwl s n v).predict = s.predict := rfl
@[simp] theorem State.setTwl_eng (s : State) (n : Nat) (v : Twl) : (State.setTwl s n v).eng = s.eng := rfl
@[simp] theorem State.setTwl_resA (s : State) (n : Nat) (v : Twl) : (State.setTwl s n v).resA = s.resA := rfl
@[simp] theorem State.setTwl_resN (s : State) (n : Nat) (v : Twl) : (State.setTwl s n v).resN = s.resN := rfl
@[simp] theorem State.setTwl_acts (s : State) (n : Nat) (v : Twl) : (State.setTwl s n v).acts = s.acts := rfl
@[simp] theorem State.setTwl_hits (s : State) (n : Nat) (v : Twl) : (State.setTwl s n v).hits = s.hits := rfl
@[simp] theorem State.setTwl_net (s : State) (n : Nat) (v : Twl) : (State.setTwl s n v).net = s.net := rfl
@[simp] theorem State.setTwl_stream (s : State) (n : Nat) (v : Twl) : (State.setTwl s n v).stream = s.stream := rfl
@[simp] theorem State.setTwl_dec (s : State) (n : Nat) (v : Twl) : (State.setTwl s n v).dec = s.dec := rfl
@[simp] theorem State.setTwl_queue (s : State) (n : Nat) (v : Twl) : (State.setTwl s n v).queue = s.queue := rfl
@[simp] theorem State.setTwl_levels (s : State) (n : Nat) (v : Twl) : (State.setTwl s n v).levels = s.levels := rfl
@[simp] theorem State.setTwl_arb (s : State) (n : Nat) (v : Twl) : (State.setTwl s n v).arb = s.arb := rfl
@[simp] theorem State.setTwl_qshadow (s : State) (n : Nat) (v : Twl) : (State.setTwl s n v).qshadow = s.qshadow := rfl
@[simp] theorem State.setTwl_hqLo (s : State) (n : Nat) (v : Twl) : (State.setTwl s n v).hqLo = s.hqLo := rfl
@[simp] theorem State.setTwl_dma (s : State) (n : Nat) (v : Twl) : (State.setTwl s n v).dma = s.dma := rfl
@[simp] theorem State.setTwl_zip (s : State) (n : Nat) (v : Twl) : (State.setTwl s n v).zip = s.zip := rfl
@[simp] theorem State.setTwl_fifo (s : State) (n : Nat) (v : Twl) : (State.setTwl s n v).fifo = s.fifo := rfl
@[simp] theorem State.setTwl_mc (s : State) (n : Nat) (v : Twl) : (State.setTwl s n v).mc = s.mc := rfl
@[simp] theorem State.setTwl_mcg (s : State) (n : Nat) (v : Twl) : (State.setTwl s n v).mcg = s.mcg := rfl
@[simp] theorem State.setTwl_hlth (s : State) (n : Nat) (v : Twl) : (State.setTwl s n v).hlth = s.hlth := rfl
@[simp] theorem State.setTwl_log (s : State) (n : Nat) (v : Twl) : (State.setTwl s n v).log = s.log := rfl
@[simp] theorem State.setTwl_logLatch (s : State) (n : Nat) (v : Twl) : (State.setTwl s n v).logLatch = s.logLatch := rfl
@[simp] theorem State.setTwl_commits (s : State) (n : Nat) (v : Twl) : (State.setTwl s n v).commits = s.commits := rfl
@[simp] theorem State.setTwl_cmtRec (s : State) (n : Nat) (v : Twl) : (State.setTwl s n v).cmtRec = s.cmtRec := rfl
@[simp] theorem State.setTwl_entered (s : State) (n : Nat) (v : Twl) : (State.setTwl s n v).entered = s.entered := rfl
@[simp] theorem State.setTwl_lockAt (s : State) (n : Nat) (v : Twl) : (State.setTwl s n v).lockAt = s.lockAt := rfl
@[simp] theorem State.setTwl_lockKey (s : State) (n : Nat) (v : Twl) : (State.setTwl s n v).lockKey = s.lockKey := rfl
@[simp] theorem State.setTwl_revoking (s : State) (n : Nat) (v : Twl) : (State.setTwl s n v).revoking = s.revoking := rfl
@[simp] theorem State.setTwl_dead (s : State) (n : Nat) (v : Twl) : (State.setTwl s n v).dead = s.dead := rfl
@[simp] theorem State.setTwl_pending (s : State) (n : Nat) (v : Twl) : (State.setTwl s n v).pending = s.pending := rfl
@[simp] theorem State.setTwl_rd (s : State) (n : Nat) (v : Twl) (q0 o0 : Nat) : (State.setTwl s n v).rd q0 o0 = s.rd q0 o0 := rfl
@[simp] theorem State.setTwl_fld (s : State) (n : Nat) (v : Twl) (q0 : Nat) (f0 : Fld) : (State.setTwl s n v).fld q0 f0 = s.fld q0 f0 := rfl
@[simp] theorem State.setTwl_win (s : State) (n : Nat) (v : Twl) (q0 : Nat) : (State.setTwl s n v).win q0 = s.win q0 := rfl
/-! State.putMst -/

@[simp] theorem State.putMst_mem (s : State) (v : Nat) (x : MstView) : (State.putMst s v x).mem = s.mem := rfl
@[simp] theorem State.putMst_blank (s : State) (v : Nat) (x : MstView) : (State.putMst s v x).blank = s.blank := rfl
@[simp] theorem State.putMst_badLine (s : State) (v : Nat) (x : MstView) : (State.putMst s v x).badLine = s.badLine := rfl
@[simp] theorem State.putMst_regs (s : State) (v : Nat) (x : MstView) : (State.putMst s v x).regs = s.regs := rfl
@[simp] theorem State.putMst_shadow (s : State) (v : Nat) (x : MstView) : (State.putMst s v x).shadow = s.shadow := rfl
@[simp] theorem State.putMst_wroDone (s : State) (v : Nat) (x : MstView) : (State.putMst s v x).wroDone = s.wroDone := rfl
@[simp] theorem State.putMst_window (s : State) (v : Nat) (x : MstView) : (State.putMst s v x).window = s.window := rfl
@[simp] theorem State.putMst_out (s : State) (v : Nat) (x : MstView) : (State.putMst s v x).out = s.out := rfl
@[simp] theorem State.putMst_raw (s : State) (v : Nat) (x : MstView) : (State.putMst s v x).raw = s.raw := rfl
@[simp] theorem State.putMst_free (s : State) (v : Nat) (x : MstView) : (State.putMst s v x).free = s.free := rfl
@[simp] theorem State.putMst_fuse (s : State) (v : Nat) (x : MstView) : (State.putMst s v x).fuse = s.fuse := rfl
@[simp] theorem State.putMst_trained (s : State) (v : Nat) (x : MstView) : (State.putMst s v x).trained = s.trained := rfl
@[simp] theorem State.putMst_bootWait (s : State) (v : Nat) (x : MstView) : (State.putMst s v x).bootWait = s.bootWait := rfl
@[simp] theorem State.putMst_tb (s : State) (v : Nat) (x : MstView) : (State.putMst s v x).tb = s.tb := rfl
@[simp] theorem State.putMst_crl (s : State) (v : Nat) (x : MstView) : (State.putMst s v x).crl = s.crl := rfl
@[simp] theorem State.putMst_evio (s : State) (v : Nat) (x : MstView) : (State.putMst s v x).evio = s.evio := rfl
@[simp] theorem State.putMst_evf (s : State) (v : Nat) (x : MstView) : (State.putMst s v x).evf = s.evf := rfl
@[simp] theorem State.putMst_raised (s : State) (v : Nat) (x : MstView) : (State.putMst s v x).raised = s.raised := rfl
@[simp] theorem State.putMst_chan (s : State) (v : Nat) (x : MstView) : (State.putMst s v x).chan = s.chan := rfl
@[simp] theorem State.putMst_tg (s : State) (v : Nat) (x : MstView) : (State.putMst s v x).tg = s.tg := rfl
@[simp] theorem State.putMst_view (s : State) (v : Nat) (x : MstView) : (State.putMst s v x).view = s.view := rfl
@[simp] theorem State.putMst_link (s : State) (v : Nat) (x : MstView) : (State.putMst s v x).link = s.link := rfl
@[simp] theorem State.putMst_train (s : State) (v : Nat) (x : MstView) : (State.putMst s v x).train = s.train := rfl
@[simp] theorem State.putMst_joker (s : State) (v : Nat) (x : MstView) : (State.putMst s v x).joker = s.joker := rfl
@[simp] theorem State.putMst_roWritten (s : State) (v : Nat) (x : MstView) : (State.putMst s v x).roWritten = s.roWritten := rfl
@[simp] theorem State.putMst_jobA (s : State) (v : Nat) (x : MstView) : (State.putMst s v x).jobA = s.jobA := rfl
@[simp] theorem State.putMst_jobN (s : State) (v : Nat) (x : MstView) : (State.putMst s v x).jobN = s.jobN := rfl
@[simp] theorem State.putMst_valJob (s : State) (v : Nat) (x : MstView) : (State.putMst s v x).valJob = s.valJob := rfl
@[simp] theorem State.putMst_jobVals (s : State) (v : Nat) (x : MstView) : (State.putMst s v x).jobVals = s.jobVals := rfl
@[simp] theorem State.putMst_intake (s : State) (v : Nat) (x : MstView) : (State.putMst s v x).intake = s.intake := rfl
@[simp] theorem State.putMst_pipe (s : State) (v : Nat) (x : MstView) : (State.putMst s v x).pipe = s.pipe := rfl
@[simp] theorem State.putMst_tapBuf (s : State) (v : Nat) (x : MstView) : (State.putMst s v x).tapBuf = s.tapBuf := rfl
@[simp] theorem State.putMst_corr (s : State) (v : Nat) (x : MstView) : (State.putMst s v x).corr = s.corr := rfl
@[simp] theorem State.putMst_stitch_ (s : State) (v : Nat) (x : MstView) : (State.putMst s v x).stitch_ = s.stitch_ := rfl
@[simp] theorem State.putMst_dot (s : State) (v : Nat) (x : MstView) : (State.putMst s v x).dot = s.dot := rfl
@[simp] theorem State.putMst_winRes (s : State) (v : Nat) (x : MstView) : (State.putMst s v x).winRes = s.winRes := rfl
@[simp] theorem State.putMst_predict (s : State) (v : Nat) (x : MstView) : (State.putMst s v x).predict = s.predict := rfl
@[simp] theorem State.putMst_eng (s : State) (v : Nat) (x : MstView) : (State.putMst s v x).eng = s.eng := rfl
@[simp] theorem State.putMst_resA (s : State) (v : Nat) (x : MstView) : (State.putMst s v x).resA = s.resA := rfl
@[simp] theorem State.putMst_resN (s : State) (v : Nat) (x : MstView) : (State.putMst s v x).resN = s.resN := rfl
@[simp] theorem State.putMst_acts (s : State) (v : Nat) (x : MstView) : (State.putMst s v x).acts = s.acts := rfl
@[simp] theorem State.putMst_hits (s : State) (v : Nat) (x : MstView) : (State.putMst s v x).hits = s.hits := rfl
@[simp] theorem State.putMst_net (s : State) (v : Nat) (x : MstView) : (State.putMst s v x).net = s.net := rfl
@[simp] theorem State.putMst_stream (s : State) (v : Nat) (x : MstView) : (State.putMst s v x).stream = s.stream := rfl
@[simp] theorem State.putMst_dec (s : State) (v : Nat) (x : MstView) : (State.putMst s v x).dec = s.dec := rfl
@[simp] theorem State.putMst_queue (s : State) (v : Nat) (x : MstView) : (State.putMst s v x).queue = s.queue := rfl
@[simp] theorem State.putMst_levels (s : State) (v : Nat) (x : MstView) : (State.putMst s v x).levels = s.levels := rfl
@[simp] theorem State.putMst_arb (s : State) (v : Nat) (x : MstView) : (State.putMst s v x).arb = s.arb := rfl
@[simp] theorem State.putMst_qshadow (s : State) (v : Nat) (x : MstView) : (State.putMst s v x).qshadow = s.qshadow := rfl
@[simp] theorem State.putMst_hqLo (s : State) (v : Nat) (x : MstView) : (State.putMst s v x).hqLo = s.hqLo := rfl
@[simp] theorem State.putMst_dma (s : State) (v : Nat) (x : MstView) : (State.putMst s v x).dma = s.dma := rfl
@[simp] theorem State.putMst_zip (s : State) (v : Nat) (x : MstView) : (State.putMst s v x).zip = s.zip := rfl
@[simp] theorem State.putMst_twl (s : State) (v : Nat) (x : MstView) : (State.putMst s v x).twl = s.twl := rfl
@[simp] theorem State.putMst_fifo (s : State) (v : Nat) (x : MstView) : (State.putMst s v x).fifo = s.fifo := rfl
@[simp] theorem State.putMst_mc (s : State) (v : Nat) (x : MstView) : (State.putMst s v x).mc = s.mc := rfl
@[simp] theorem State.putMst_mcg (s : State) (v : Nat) (x : MstView) : (State.putMst s v x).mcg = s.mcg := rfl
@[simp] theorem State.putMst_hlth (s : State) (v : Nat) (x : MstView) : (State.putMst s v x).hlth = s.hlth := rfl
@[simp] theorem State.putMst_log (s : State) (v : Nat) (x : MstView) : (State.putMst s v x).log = s.log := rfl
@[simp] theorem State.putMst_logLatch (s : State) (v : Nat) (x : MstView) : (State.putMst s v x).logLatch = s.logLatch := rfl
@[simp] theorem State.putMst_commits (s : State) (v : Nat) (x : MstView) : (State.putMst s v x).commits = s.commits := rfl
@[simp] theorem State.putMst_cmtRec (s : State) (v : Nat) (x : MstView) : (State.putMst s v x).cmtRec = s.cmtRec := rfl
@[simp] theorem State.putMst_entered (s : State) (v : Nat) (x : MstView) : (State.putMst s v x).entered = s.entered := rfl
@[simp] theorem State.putMst_lockAt (s : State) (v : Nat) (x : MstView) : (State.putMst s v x).lockAt = s.lockAt := rfl
@[simp] theorem State.putMst_lockKey (s : State) (v : Nat) (x : MstView) : (State.putMst s v x).lockKey = s.lockKey := rfl
@[simp] theorem State.putMst_revoking (s : State) (v : Nat) (x : MstView) : (State.putMst s v x).revoking = s.revoking := rfl
@[simp] theorem State.putMst_dead (s : State) (v : Nat) (x : MstView) : (State.putMst s v x).dead = s.dead := rfl
@[simp] theorem State.putMst_pending (s : State) (v : Nat) (x : MstView) : (State.putMst s v x).pending = s.pending := rfl
@[simp] theorem State.putMst_rd (s : State) (v : Nat) (x : MstView) (q0 o0 : Nat) : (State.putMst s v x).rd q0 o0 = s.rd q0 o0 := rfl
@[simp] theorem State.putMst_fld (s : State) (v : Nat) (x : MstView) (q0 : Nat) (f0 : Fld) : (State.putMst s v x).fld q0 f0 = s.fld q0 f0 := rfl
@[simp] theorem State.putMst_win (s : State) (v : Nat) (x : MstView) (q0 : Nat) : (State.putMst s v x).win q0 = s.win q0 := rfl
/-! State.putIntk -/

@[simp] theorem State.putIntk_mem (s : State) (p : Nat) (x : Intake) : (State.putIntk s p x).mem = s.mem := rfl
@[simp] theorem State.putIntk_blank (s : State) (p : Nat) (x : Intake) : (State.putIntk s p x).blank = s.blank := rfl
@[simp] theorem State.putIntk_badLine (s : State) (p : Nat) (x : Intake) : (State.putIntk s p x).badLine = s.badLine := rfl
@[simp] theorem State.putIntk_regs (s : State) (p : Nat) (x : Intake) : (State.putIntk s p x).regs = s.regs := rfl
@[simp] theorem State.putIntk_shadow (s : State) (p : Nat) (x : Intake) : (State.putIntk s p x).shadow = s.shadow := rfl
@[simp] theorem State.putIntk_wroDone (s : State) (p : Nat) (x : Intake) : (State.putIntk s p x).wroDone = s.wroDone := rfl
@[simp] theorem State.putIntk_window (s : State) (p : Nat) (x : Intake) : (State.putIntk s p x).window = s.window := rfl
@[simp] theorem State.putIntk_out (s : State) (p : Nat) (x : Intake) : (State.putIntk s p x).out = s.out := rfl
@[simp] theorem State.putIntk_raw (s : State) (p : Nat) (x : Intake) : (State.putIntk s p x).raw = s.raw := rfl
@[simp] theorem State.putIntk_free (s : State) (p : Nat) (x : Intake) : (State.putIntk s p x).free = s.free := rfl
@[simp] theorem State.putIntk_fuse (s : State) (p : Nat) (x : Intake) : (State.putIntk s p x).fuse = s.fuse := rfl
@[simp] theorem State.putIntk_trained (s : State) (p : Nat) (x : Intake) : (State.putIntk s p x).trained = s.trained := rfl
@[simp] theorem State.putIntk_bootWait (s : State) (p : Nat) (x : Intake) : (State.putIntk s p x).bootWait = s.bootWait := rfl
@[simp] theorem State.putIntk_tb (s : State) (p : Nat) (x : Intake) : (State.putIntk s p x).tb = s.tb := rfl
@[simp] theorem State.putIntk_crl (s : State) (p : Nat) (x : Intake) : (State.putIntk s p x).crl = s.crl := rfl
@[simp] theorem State.putIntk_evio (s : State) (p : Nat) (x : Intake) : (State.putIntk s p x).evio = s.evio := rfl
@[simp] theorem State.putIntk_evf (s : State) (p : Nat) (x : Intake) : (State.putIntk s p x).evf = s.evf := rfl
@[simp] theorem State.putIntk_raised (s : State) (p : Nat) (x : Intake) : (State.putIntk s p x).raised = s.raised := rfl
@[simp] theorem State.putIntk_chan (s : State) (p : Nat) (x : Intake) : (State.putIntk s p x).chan = s.chan := rfl
@[simp] theorem State.putIntk_tg (s : State) (p : Nat) (x : Intake) : (State.putIntk s p x).tg = s.tg := rfl
@[simp] theorem State.putIntk_view (s : State) (p : Nat) (x : Intake) : (State.putIntk s p x).view = s.view := rfl
@[simp] theorem State.putIntk_link (s : State) (p : Nat) (x : Intake) : (State.putIntk s p x).link = s.link := rfl
@[simp] theorem State.putIntk_train (s : State) (p : Nat) (x : Intake) : (State.putIntk s p x).train = s.train := rfl
@[simp] theorem State.putIntk_joker (s : State) (p : Nat) (x : Intake) : (State.putIntk s p x).joker = s.joker := rfl
@[simp] theorem State.putIntk_roWritten (s : State) (p : Nat) (x : Intake) : (State.putIntk s p x).roWritten = s.roWritten := rfl
@[simp] theorem State.putIntk_jobA (s : State) (p : Nat) (x : Intake) : (State.putIntk s p x).jobA = s.jobA := rfl
@[simp] theorem State.putIntk_jobN (s : State) (p : Nat) (x : Intake) : (State.putIntk s p x).jobN = s.jobN := rfl
@[simp] theorem State.putIntk_valJob (s : State) (p : Nat) (x : Intake) : (State.putIntk s p x).valJob = s.valJob := rfl
@[simp] theorem State.putIntk_jobVals (s : State) (p : Nat) (x : Intake) : (State.putIntk s p x).jobVals = s.jobVals := rfl
@[simp] theorem State.putIntk_pipe (s : State) (p : Nat) (x : Intake) : (State.putIntk s p x).pipe = s.pipe := rfl
@[simp] theorem State.putIntk_tapBuf (s : State) (p : Nat) (x : Intake) : (State.putIntk s p x).tapBuf = s.tapBuf := rfl
@[simp] theorem State.putIntk_corr (s : State) (p : Nat) (x : Intake) : (State.putIntk s p x).corr = s.corr := rfl
@[simp] theorem State.putIntk_stitch_ (s : State) (p : Nat) (x : Intake) : (State.putIntk s p x).stitch_ = s.stitch_ := rfl
@[simp] theorem State.putIntk_dot (s : State) (p : Nat) (x : Intake) : (State.putIntk s p x).dot = s.dot := rfl
@[simp] theorem State.putIntk_winRes (s : State) (p : Nat) (x : Intake) : (State.putIntk s p x).winRes = s.winRes := rfl
@[simp] theorem State.putIntk_mst (s : State) (p : Nat) (x : Intake) : (State.putIntk s p x).mst = s.mst := rfl
@[simp] theorem State.putIntk_predict (s : State) (p : Nat) (x : Intake) : (State.putIntk s p x).predict = s.predict := rfl
@[simp] theorem State.putIntk_eng (s : State) (p : Nat) (x : Intake) : (State.putIntk s p x).eng = s.eng := rfl
@[simp] theorem State.putIntk_resA (s : State) (p : Nat) (x : Intake) : (State.putIntk s p x).resA = s.resA := rfl
@[simp] theorem State.putIntk_resN (s : State) (p : Nat) (x : Intake) : (State.putIntk s p x).resN = s.resN := rfl
@[simp] theorem State.putIntk_acts (s : State) (p : Nat) (x : Intake) : (State.putIntk s p x).acts = s.acts := rfl
@[simp] theorem State.putIntk_hits (s : State) (p : Nat) (x : Intake) : (State.putIntk s p x).hits = s.hits := rfl
@[simp] theorem State.putIntk_net (s : State) (p : Nat) (x : Intake) : (State.putIntk s p x).net = s.net := rfl
@[simp] theorem State.putIntk_stream (s : State) (p : Nat) (x : Intake) : (State.putIntk s p x).stream = s.stream := rfl
@[simp] theorem State.putIntk_dec (s : State) (p : Nat) (x : Intake) : (State.putIntk s p x).dec = s.dec := rfl
@[simp] theorem State.putIntk_queue (s : State) (p : Nat) (x : Intake) : (State.putIntk s p x).queue = s.queue := rfl
@[simp] theorem State.putIntk_levels (s : State) (p : Nat) (x : Intake) : (State.putIntk s p x).levels = s.levels := rfl
@[simp] theorem State.putIntk_arb (s : State) (p : Nat) (x : Intake) : (State.putIntk s p x).arb = s.arb := rfl
@[simp] theorem State.putIntk_qshadow (s : State) (p : Nat) (x : Intake) : (State.putIntk s p x).qshadow = s.qshadow := rfl
@[simp] theorem State.putIntk_hqLo (s : State) (p : Nat) (x : Intake) : (State.putIntk s p x).hqLo = s.hqLo := rfl
@[simp] theorem State.putIntk_dma (s : State) (p : Nat) (x : Intake) : (State.putIntk s p x).dma = s.dma := rfl
@[simp] theorem State.putIntk_zip (s : State) (p : Nat) (x : Intake) : (State.putIntk s p x).zip = s.zip := rfl
@[simp] theorem State.putIntk_twl (s : State) (p : Nat) (x : Intake) : (State.putIntk s p x).twl = s.twl := rfl
@[simp] theorem State.putIntk_fifo (s : State) (p : Nat) (x : Intake) : (State.putIntk s p x).fifo = s.fifo := rfl
@[simp] theorem State.putIntk_mc (s : State) (p : Nat) (x : Intake) : (State.putIntk s p x).mc = s.mc := rfl
@[simp] theorem State.putIntk_mcg (s : State) (p : Nat) (x : Intake) : (State.putIntk s p x).mcg = s.mcg := rfl
@[simp] theorem State.putIntk_hlth (s : State) (p : Nat) (x : Intake) : (State.putIntk s p x).hlth = s.hlth := rfl
@[simp] theorem State.putIntk_log (s : State) (p : Nat) (x : Intake) : (State.putIntk s p x).log = s.log := rfl
@[simp] theorem State.putIntk_logLatch (s : State) (p : Nat) (x : Intake) : (State.putIntk s p x).logLatch = s.logLatch := rfl
@[simp] theorem State.putIntk_commits (s : State) (p : Nat) (x : Intake) : (State.putIntk s p x).commits = s.commits := rfl
@[simp] theorem State.putIntk_cmtRec (s : State) (p : Nat) (x : Intake) : (State.putIntk s p x).cmtRec = s.cmtRec := rfl
@[simp] theorem State.putIntk_entered (s : State) (p : Nat) (x : Intake) : (State.putIntk s p x).entered = s.entered := rfl
@[simp] theorem State.putIntk_lockAt (s : State) (p : Nat) (x : Intake) : (State.putIntk s p x).lockAt = s.lockAt := rfl
@[simp] theorem State.putIntk_lockKey (s : State) (p : Nat) (x : Intake) : (State.putIntk s p x).lockKey = s.lockKey := rfl
@[simp] theorem State.putIntk_revoking (s : State) (p : Nat) (x : Intake) : (State.putIntk s p x).revoking = s.revoking := rfl
@[simp] theorem State.putIntk_dead (s : State) (p : Nat) (x : Intake) : (State.putIntk s p x).dead = s.dead := rfl
@[simp] theorem State.putIntk_pending (s : State) (p : Nat) (x : Intake) : (State.putIntk s p x).pending = s.pending := rfl
@[simp] theorem State.putIntk_rd (s : State) (p : Nat) (x : Intake) (q0 o0 : Nat) : (State.putIntk s p x).rd q0 o0 = s.rd q0 o0 := rfl
@[simp] theorem State.putIntk_fld (s : State) (p : Nat) (x : Intake) (q0 : Nat) (f0 : Fld) : (State.putIntk s p x).fld q0 f0 = s.fld q0 f0 := rfl
@[simp] theorem State.putIntk_win (s : State) (p : Nat) (x : Intake) (q0 : Nat) : (State.putIntk s p x).win q0 = s.win q0 := rfl
/-! State.putPipe -/

@[simp] theorem State.putPipe_mem (s : State) (g : Nat) (x : Pipe) : (State.putPipe s g x).mem = s.mem := rfl
@[simp] theorem State.putPipe_blank (s : State) (g : Nat) (x : Pipe) : (State.putPipe s g x).blank = s.blank := rfl
@[simp] theorem State.putPipe_badLine (s : State) (g : Nat) (x : Pipe) : (State.putPipe s g x).badLine = s.badLine := rfl
@[simp] theorem State.putPipe_regs (s : State) (g : Nat) (x : Pipe) : (State.putPipe s g x).regs = s.regs := rfl
@[simp] theorem State.putPipe_shadow (s : State) (g : Nat) (x : Pipe) : (State.putPipe s g x).shadow = s.shadow := rfl
@[simp] theorem State.putPipe_wroDone (s : State) (g : Nat) (x : Pipe) : (State.putPipe s g x).wroDone = s.wroDone := rfl
@[simp] theorem State.putPipe_window (s : State) (g : Nat) (x : Pipe) : (State.putPipe s g x).window = s.window := rfl
@[simp] theorem State.putPipe_out (s : State) (g : Nat) (x : Pipe) : (State.putPipe s g x).out = s.out := rfl
@[simp] theorem State.putPipe_raw (s : State) (g : Nat) (x : Pipe) : (State.putPipe s g x).raw = s.raw := rfl
@[simp] theorem State.putPipe_free (s : State) (g : Nat) (x : Pipe) : (State.putPipe s g x).free = s.free := rfl
@[simp] theorem State.putPipe_fuse (s : State) (g : Nat) (x : Pipe) : (State.putPipe s g x).fuse = s.fuse := rfl
@[simp] theorem State.putPipe_trained (s : State) (g : Nat) (x : Pipe) : (State.putPipe s g x).trained = s.trained := rfl
@[simp] theorem State.putPipe_bootWait (s : State) (g : Nat) (x : Pipe) : (State.putPipe s g x).bootWait = s.bootWait := rfl
@[simp] theorem State.putPipe_tb (s : State) (g : Nat) (x : Pipe) : (State.putPipe s g x).tb = s.tb := rfl
@[simp] theorem State.putPipe_crl (s : State) (g : Nat) (x : Pipe) : (State.putPipe s g x).crl = s.crl := rfl
@[simp] theorem State.putPipe_evio (s : State) (g : Nat) (x : Pipe) : (State.putPipe s g x).evio = s.evio := rfl
@[simp] theorem State.putPipe_evf (s : State) (g : Nat) (x : Pipe) : (State.putPipe s g x).evf = s.evf := rfl
@[simp] theorem State.putPipe_raised (s : State) (g : Nat) (x : Pipe) : (State.putPipe s g x).raised = s.raised := rfl
@[simp] theorem State.putPipe_chan (s : State) (g : Nat) (x : Pipe) : (State.putPipe s g x).chan = s.chan := rfl
@[simp] theorem State.putPipe_tg (s : State) (g : Nat) (x : Pipe) : (State.putPipe s g x).tg = s.tg := rfl
@[simp] theorem State.putPipe_view (s : State) (g : Nat) (x : Pipe) : (State.putPipe s g x).view = s.view := rfl
@[simp] theorem State.putPipe_link (s : State) (g : Nat) (x : Pipe) : (State.putPipe s g x).link = s.link := rfl
@[simp] theorem State.putPipe_train (s : State) (g : Nat) (x : Pipe) : (State.putPipe s g x).train = s.train := rfl
@[simp] theorem State.putPipe_joker (s : State) (g : Nat) (x : Pipe) : (State.putPipe s g x).joker = s.joker := rfl
@[simp] theorem State.putPipe_roWritten (s : State) (g : Nat) (x : Pipe) : (State.putPipe s g x).roWritten = s.roWritten := rfl
@[simp] theorem State.putPipe_jobA (s : State) (g : Nat) (x : Pipe) : (State.putPipe s g x).jobA = s.jobA := rfl
@[simp] theorem State.putPipe_jobN (s : State) (g : Nat) (x : Pipe) : (State.putPipe s g x).jobN = s.jobN := rfl
@[simp] theorem State.putPipe_valJob (s : State) (g : Nat) (x : Pipe) : (State.putPipe s g x).valJob = s.valJob := rfl
@[simp] theorem State.putPipe_jobVals (s : State) (g : Nat) (x : Pipe) : (State.putPipe s g x).jobVals = s.jobVals := rfl
@[simp] theorem State.putPipe_intake (s : State) (g : Nat) (x : Pipe) : (State.putPipe s g x).intake = s.intake := rfl
@[simp] theorem State.putPipe_tapBuf (s : State) (g : Nat) (x : Pipe) : (State.putPipe s g x).tapBuf = s.tapBuf := rfl
@[simp] theorem State.putPipe_corr (s : State) (g : Nat) (x : Pipe) : (State.putPipe s g x).corr = s.corr := rfl
@[simp] theorem State.putPipe_stitch_ (s : State) (g : Nat) (x : Pipe) : (State.putPipe s g x).stitch_ = s.stitch_ := rfl
@[simp] theorem State.putPipe_dot (s : State) (g : Nat) (x : Pipe) : (State.putPipe s g x).dot = s.dot := rfl
@[simp] theorem State.putPipe_winRes (s : State) (g : Nat) (x : Pipe) : (State.putPipe s g x).winRes = s.winRes := rfl
@[simp] theorem State.putPipe_mst (s : State) (g : Nat) (x : Pipe) : (State.putPipe s g x).mst = s.mst := rfl
@[simp] theorem State.putPipe_predict (s : State) (g : Nat) (x : Pipe) : (State.putPipe s g x).predict = s.predict := rfl
@[simp] theorem State.putPipe_eng (s : State) (g : Nat) (x : Pipe) : (State.putPipe s g x).eng = s.eng := rfl
@[simp] theorem State.putPipe_resA (s : State) (g : Nat) (x : Pipe) : (State.putPipe s g x).resA = s.resA := rfl
@[simp] theorem State.putPipe_resN (s : State) (g : Nat) (x : Pipe) : (State.putPipe s g x).resN = s.resN := rfl
@[simp] theorem State.putPipe_acts (s : State) (g : Nat) (x : Pipe) : (State.putPipe s g x).acts = s.acts := rfl
@[simp] theorem State.putPipe_hits (s : State) (g : Nat) (x : Pipe) : (State.putPipe s g x).hits = s.hits := rfl
@[simp] theorem State.putPipe_net (s : State) (g : Nat) (x : Pipe) : (State.putPipe s g x).net = s.net := rfl
@[simp] theorem State.putPipe_stream (s : State) (g : Nat) (x : Pipe) : (State.putPipe s g x).stream = s.stream := rfl
@[simp] theorem State.putPipe_dec (s : State) (g : Nat) (x : Pipe) : (State.putPipe s g x).dec = s.dec := rfl
@[simp] theorem State.putPipe_queue (s : State) (g : Nat) (x : Pipe) : (State.putPipe s g x).queue = s.queue := rfl
@[simp] theorem State.putPipe_levels (s : State) (g : Nat) (x : Pipe) : (State.putPipe s g x).levels = s.levels := rfl
@[simp] theorem State.putPipe_arb (s : State) (g : Nat) (x : Pipe) : (State.putPipe s g x).arb = s.arb := rfl
@[simp] theorem State.putPipe_qshadow (s : State) (g : Nat) (x : Pipe) : (State.putPipe s g x).qshadow = s.qshadow := rfl
@[simp] theorem State.putPipe_hqLo (s : State) (g : Nat) (x : Pipe) : (State.putPipe s g x).hqLo = s.hqLo := rfl
@[simp] theorem State.putPipe_dma (s : State) (g : Nat) (x : Pipe) : (State.putPipe s g x).dma = s.dma := rfl
@[simp] theorem State.putPipe_zip (s : State) (g : Nat) (x : Pipe) : (State.putPipe s g x).zip = s.zip := rfl
@[simp] theorem State.putPipe_twl (s : State) (g : Nat) (x : Pipe) : (State.putPipe s g x).twl = s.twl := rfl
@[simp] theorem State.putPipe_fifo (s : State) (g : Nat) (x : Pipe) : (State.putPipe s g x).fifo = s.fifo := rfl
@[simp] theorem State.putPipe_mc (s : State) (g : Nat) (x : Pipe) : (State.putPipe s g x).mc = s.mc := rfl
@[simp] theorem State.putPipe_mcg (s : State) (g : Nat) (x : Pipe) : (State.putPipe s g x).mcg = s.mcg := rfl
@[simp] theorem State.putPipe_hlth (s : State) (g : Nat) (x : Pipe) : (State.putPipe s g x).hlth = s.hlth := rfl
@[simp] theorem State.putPipe_log (s : State) (g : Nat) (x : Pipe) : (State.putPipe s g x).log = s.log := rfl
@[simp] theorem State.putPipe_logLatch (s : State) (g : Nat) (x : Pipe) : (State.putPipe s g x).logLatch = s.logLatch := rfl
@[simp] theorem State.putPipe_commits (s : State) (g : Nat) (x : Pipe) : (State.putPipe s g x).commits = s.commits := rfl
@[simp] theorem State.putPipe_cmtRec (s : State) (g : Nat) (x : Pipe) : (State.putPipe s g x).cmtRec = s.cmtRec := rfl
@[simp] theorem State.putPipe_entered (s : State) (g : Nat) (x : Pipe) : (State.putPipe s g x).entered = s.entered := rfl
@[simp] theorem State.putPipe_lockAt (s : State) (g : Nat) (x : Pipe) : (State.putPipe s g x).lockAt = s.lockAt := rfl
@[simp] theorem State.putPipe_lockKey (s : State) (g : Nat) (x : Pipe) : (State.putPipe s g x).lockKey = s.lockKey := rfl
@[simp] theorem State.putPipe_revoking (s : State) (g : Nat) (x : Pipe) : (State.putPipe s g x).revoking = s.revoking := rfl
@[simp] theorem State.putPipe_dead (s : State) (g : Nat) (x : Pipe) : (State.putPipe s g x).dead = s.dead := rfl
@[simp] theorem State.putPipe_pending (s : State) (g : Nat) (x : Pipe) : (State.putPipe s g x).pending = s.pending := rfl
@[simp] theorem State.putPipe_rd (s : State) (g : Nat) (x : Pipe) (q0 o0 : Nat) : (State.putPipe s g x).rd q0 o0 = s.rd q0 o0 := rfl
@[simp] theorem State.putPipe_fld (s : State) (g : Nat) (x : Pipe) (q0 : Nat) (f0 : Fld) : (State.putPipe s g x).fld q0 f0 = s.fld q0 f0 := rfl
@[simp] theorem State.putPipe_win (s : State) (g : Nat) (x : Pipe) (q0 : Nat) : (State.putPipe s g x).win q0 = s.win q0 := rfl
/-! State.putTapB -/

@[simp] theorem State.putTapB_mem (s : State) (p : Nat) (stripe : Nat) (b : TapBuf) : (State.putTapB s p stripe b).mem = s.mem := rfl
@[simp] theorem State.putTapB_blank (s : State) (p : Nat) (stripe : Nat) (b : TapBuf) : (State.putTapB s p stripe b).blank = s.blank := rfl
@[simp] theorem State.putTapB_badLine (s : State) (p : Nat) (stripe : Nat) (b : TapBuf) : (State.putTapB s p stripe b).badLine = s.badLine := rfl
@[simp] theorem State.putTapB_regs (s : State) (p : Nat) (stripe : Nat) (b : TapBuf) : (State.putTapB s p stripe b).regs = s.regs := rfl
@[simp] theorem State.putTapB_shadow (s : State) (p : Nat) (stripe : Nat) (b : TapBuf) : (State.putTapB s p stripe b).shadow = s.shadow := rfl
@[simp] theorem State.putTapB_wroDone (s : State) (p : Nat) (stripe : Nat) (b : TapBuf) : (State.putTapB s p stripe b).wroDone = s.wroDone := rfl
@[simp] theorem State.putTapB_window (s : State) (p : Nat) (stripe : Nat) (b : TapBuf) : (State.putTapB s p stripe b).window = s.window := rfl
@[simp] theorem State.putTapB_out (s : State) (p : Nat) (stripe : Nat) (b : TapBuf) : (State.putTapB s p stripe b).out = s.out := rfl
@[simp] theorem State.putTapB_raw (s : State) (p : Nat) (stripe : Nat) (b : TapBuf) : (State.putTapB s p stripe b).raw = s.raw := rfl
@[simp] theorem State.putTapB_free (s : State) (p : Nat) (stripe : Nat) (b : TapBuf) : (State.putTapB s p stripe b).free = s.free := rfl
@[simp] theorem State.putTapB_fuse (s : State) (p : Nat) (stripe : Nat) (b : TapBuf) : (State.putTapB s p stripe b).fuse = s.fuse := rfl
@[simp] theorem State.putTapB_trained (s : State) (p : Nat) (stripe : Nat) (b : TapBuf) : (State.putTapB s p stripe b).trained = s.trained := rfl
@[simp] theorem State.putTapB_bootWait (s : State) (p : Nat) (stripe : Nat) (b : TapBuf) : (State.putTapB s p stripe b).bootWait = s.bootWait := rfl
@[simp] theorem State.putTapB_tb (s : State) (p : Nat) (stripe : Nat) (b : TapBuf) : (State.putTapB s p stripe b).tb = s.tb := rfl
@[simp] theorem State.putTapB_crl (s : State) (p : Nat) (stripe : Nat) (b : TapBuf) : (State.putTapB s p stripe b).crl = s.crl := rfl
@[simp] theorem State.putTapB_evio (s : State) (p : Nat) (stripe : Nat) (b : TapBuf) : (State.putTapB s p stripe b).evio = s.evio := rfl
@[simp] theorem State.putTapB_evf (s : State) (p : Nat) (stripe : Nat) (b : TapBuf) : (State.putTapB s p stripe b).evf = s.evf := rfl
@[simp] theorem State.putTapB_raised (s : State) (p : Nat) (stripe : Nat) (b : TapBuf) : (State.putTapB s p stripe b).raised = s.raised := rfl
@[simp] theorem State.putTapB_chan (s : State) (p : Nat) (stripe : Nat) (b : TapBuf) : (State.putTapB s p stripe b).chan = s.chan := rfl
@[simp] theorem State.putTapB_tg (s : State) (p : Nat) (stripe : Nat) (b : TapBuf) : (State.putTapB s p stripe b).tg = s.tg := rfl
@[simp] theorem State.putTapB_view (s : State) (p : Nat) (stripe : Nat) (b : TapBuf) : (State.putTapB s p stripe b).view = s.view := rfl
@[simp] theorem State.putTapB_link (s : State) (p : Nat) (stripe : Nat) (b : TapBuf) : (State.putTapB s p stripe b).link = s.link := rfl
@[simp] theorem State.putTapB_train (s : State) (p : Nat) (stripe : Nat) (b : TapBuf) : (State.putTapB s p stripe b).train = s.train := rfl
@[simp] theorem State.putTapB_joker (s : State) (p : Nat) (stripe : Nat) (b : TapBuf) : (State.putTapB s p stripe b).joker = s.joker := rfl
@[simp] theorem State.putTapB_roWritten (s : State) (p : Nat) (stripe : Nat) (b : TapBuf) : (State.putTapB s p stripe b).roWritten = s.roWritten := rfl
@[simp] theorem State.putTapB_jobA (s : State) (p : Nat) (stripe : Nat) (b : TapBuf) : (State.putTapB s p stripe b).jobA = s.jobA := rfl
@[simp] theorem State.putTapB_jobN (s : State) (p : Nat) (stripe : Nat) (b : TapBuf) : (State.putTapB s p stripe b).jobN = s.jobN := rfl
@[simp] theorem State.putTapB_valJob (s : State) (p : Nat) (stripe : Nat) (b : TapBuf) : (State.putTapB s p stripe b).valJob = s.valJob := rfl
@[simp] theorem State.putTapB_jobVals (s : State) (p : Nat) (stripe : Nat) (b : TapBuf) : (State.putTapB s p stripe b).jobVals = s.jobVals := rfl
@[simp] theorem State.putTapB_intake (s : State) (p : Nat) (stripe : Nat) (b : TapBuf) : (State.putTapB s p stripe b).intake = s.intake := rfl
@[simp] theorem State.putTapB_pipe (s : State) (p : Nat) (stripe : Nat) (b : TapBuf) : (State.putTapB s p stripe b).pipe = s.pipe := rfl
@[simp] theorem State.putTapB_corr (s : State) (p : Nat) (stripe : Nat) (b : TapBuf) : (State.putTapB s p stripe b).corr = s.corr := rfl
@[simp] theorem State.putTapB_stitch_ (s : State) (p : Nat) (stripe : Nat) (b : TapBuf) : (State.putTapB s p stripe b).stitch_ = s.stitch_ := rfl
@[simp] theorem State.putTapB_dot (s : State) (p : Nat) (stripe : Nat) (b : TapBuf) : (State.putTapB s p stripe b).dot = s.dot := rfl
@[simp] theorem State.putTapB_winRes (s : State) (p : Nat) (stripe : Nat) (b : TapBuf) : (State.putTapB s p stripe b).winRes = s.winRes := rfl
@[simp] theorem State.putTapB_mst (s : State) (p : Nat) (stripe : Nat) (b : TapBuf) : (State.putTapB s p stripe b).mst = s.mst := rfl
@[simp] theorem State.putTapB_predict (s : State) (p : Nat) (stripe : Nat) (b : TapBuf) : (State.putTapB s p stripe b).predict = s.predict := rfl
@[simp] theorem State.putTapB_eng (s : State) (p : Nat) (stripe : Nat) (b : TapBuf) : (State.putTapB s p stripe b).eng = s.eng := rfl
@[simp] theorem State.putTapB_resA (s : State) (p : Nat) (stripe : Nat) (b : TapBuf) : (State.putTapB s p stripe b).resA = s.resA := rfl
@[simp] theorem State.putTapB_resN (s : State) (p : Nat) (stripe : Nat) (b : TapBuf) : (State.putTapB s p stripe b).resN = s.resN := rfl
@[simp] theorem State.putTapB_acts (s : State) (p : Nat) (stripe : Nat) (b : TapBuf) : (State.putTapB s p stripe b).acts = s.acts := rfl
@[simp] theorem State.putTapB_hits (s : State) (p : Nat) (stripe : Nat) (b : TapBuf) : (State.putTapB s p stripe b).hits = s.hits := rfl
@[simp] theorem State.putTapB_net (s : State) (p : Nat) (stripe : Nat) (b : TapBuf) : (State.putTapB s p stripe b).net = s.net := rfl
@[simp] theorem State.putTapB_stream (s : State) (p : Nat) (stripe : Nat) (b : TapBuf) : (State.putTapB s p stripe b).stream = s.stream := rfl
@[simp] theorem State.putTapB_dec (s : State) (p : Nat) (stripe : Nat) (b : TapBuf) : (State.putTapB s p stripe b).dec = s.dec := rfl
@[simp] theorem State.putTapB_queue (s : State) (p : Nat) (stripe : Nat) (b : TapBuf) : (State.putTapB s p stripe b).queue = s.queue := rfl
@[simp] theorem State.putTapB_levels (s : State) (p : Nat) (stripe : Nat) (b : TapBuf) : (State.putTapB s p stripe b).levels = s.levels := rfl
@[simp] theorem State.putTapB_arb (s : State) (p : Nat) (stripe : Nat) (b : TapBuf) : (State.putTapB s p stripe b).arb = s.arb := rfl
@[simp] theorem State.putTapB_qshadow (s : State) (p : Nat) (stripe : Nat) (b : TapBuf) : (State.putTapB s p stripe b).qshadow = s.qshadow := rfl
@[simp] theorem State.putTapB_hqLo (s : State) (p : Nat) (stripe : Nat) (b : TapBuf) : (State.putTapB s p stripe b).hqLo = s.hqLo := rfl
@[simp] theorem State.putTapB_dma (s : State) (p : Nat) (stripe : Nat) (b : TapBuf) : (State.putTapB s p stripe b).dma = s.dma := rfl
@[simp] theorem State.putTapB_zip (s : State) (p : Nat) (stripe : Nat) (b : TapBuf) : (State.putTapB s p stripe b).zip = s.zip := rfl
@[simp] theorem State.putTapB_twl (s : State) (p : Nat) (stripe : Nat) (b : TapBuf) : (State.putTapB s p stripe b).twl = s.twl := rfl
@[simp] theorem State.putTapB_fifo (s : State) (p : Nat) (stripe : Nat) (b : TapBuf) : (State.putTapB s p stripe b).fifo = s.fifo := rfl
@[simp] theorem State.putTapB_mc (s : State) (p : Nat) (stripe : Nat) (b : TapBuf) : (State.putTapB s p stripe b).mc = s.mc := rfl
@[simp] theorem State.putTapB_mcg (s : State) (p : Nat) (stripe : Nat) (b : TapBuf) : (State.putTapB s p stripe b).mcg = s.mcg := rfl
@[simp] theorem State.putTapB_hlth (s : State) (p : Nat) (stripe : Nat) (b : TapBuf) : (State.putTapB s p stripe b).hlth = s.hlth := rfl
@[simp] theorem State.putTapB_log (s : State) (p : Nat) (stripe : Nat) (b : TapBuf) : (State.putTapB s p stripe b).log = s.log := rfl
@[simp] theorem State.putTapB_logLatch (s : State) (p : Nat) (stripe : Nat) (b : TapBuf) : (State.putTapB s p stripe b).logLatch = s.logLatch := rfl
@[simp] theorem State.putTapB_commits (s : State) (p : Nat) (stripe : Nat) (b : TapBuf) : (State.putTapB s p stripe b).commits = s.commits := rfl
@[simp] theorem State.putTapB_cmtRec (s : State) (p : Nat) (stripe : Nat) (b : TapBuf) : (State.putTapB s p stripe b).cmtRec = s.cmtRec := rfl
@[simp] theorem State.putTapB_entered (s : State) (p : Nat) (stripe : Nat) (b : TapBuf) : (State.putTapB s p stripe b).entered = s.entered := rfl
@[simp] theorem State.putTapB_lockAt (s : State) (p : Nat) (stripe : Nat) (b : TapBuf) : (State.putTapB s p stripe b).lockAt = s.lockAt := rfl
@[simp] theorem State.putTapB_lockKey (s : State) (p : Nat) (stripe : Nat) (b : TapBuf) : (State.putTapB s p stripe b).lockKey = s.lockKey := rfl
@[simp] theorem State.putTapB_revoking (s : State) (p : Nat) (stripe : Nat) (b : TapBuf) : (State.putTapB s p stripe b).revoking = s.revoking := rfl
@[simp] theorem State.putTapB_dead (s : State) (p : Nat) (stripe : Nat) (b : TapBuf) : (State.putTapB s p stripe b).dead = s.dead := rfl
@[simp] theorem State.putTapB_pending (s : State) (p : Nat) (stripe : Nat) (b : TapBuf) : (State.putTapB s p stripe b).pending = s.pending := rfl
@[simp] theorem State.putTapB_rd (s : State) (p : Nat) (stripe : Nat) (b : TapBuf) (q0 o0 : Nat) : (State.putTapB s p stripe b).rd q0 o0 = s.rd q0 o0 := rfl
@[simp] theorem State.putTapB_fld (s : State) (p : Nat) (stripe : Nat) (b : TapBuf) (q0 : Nat) (f0 : Fld) : (State.putTapB s p stripe b).fld q0 f0 = s.fld q0 f0 := rfl
@[simp] theorem State.putTapB_win (s : State) (p : Nat) (stripe : Nat) (b : TapBuf) (q0 : Nat) : (State.putTapB s p stripe b).win q0 = s.win q0 := rfl
/-! State.putSti -/

@[simp] theorem State.putSti_mem (s : State) (v : Nat) (x : Stitch) : (State.putSti s v x).mem = s.mem := rfl
@[simp] theorem State.putSti_blank (s : State) (v : Nat) (x : Stitch) : (State.putSti s v x).blank = s.blank := rfl
@[simp] theorem State.putSti_badLine (s : State) (v : Nat) (x : Stitch) : (State.putSti s v x).badLine = s.badLine := rfl
@[simp] theorem State.putSti_regs (s : State) (v : Nat) (x : Stitch) : (State.putSti s v x).regs = s.regs := rfl
@[simp] theorem State.putSti_shadow (s : State) (v : Nat) (x : Stitch) : (State.putSti s v x).shadow = s.shadow := rfl
@[simp] theorem State.putSti_wroDone (s : State) (v : Nat) (x : Stitch) : (State.putSti s v x).wroDone = s.wroDone := rfl
@[simp] theorem State.putSti_window (s : State) (v : Nat) (x : Stitch) : (State.putSti s v x).window = s.window := rfl
@[simp] theorem State.putSti_out (s : State) (v : Nat) (x : Stitch) : (State.putSti s v x).out = s.out := rfl
@[simp] theorem State.putSti_raw (s : State) (v : Nat) (x : Stitch) : (State.putSti s v x).raw = s.raw := rfl
@[simp] theorem State.putSti_free (s : State) (v : Nat) (x : Stitch) : (State.putSti s v x).free = s.free := rfl
@[simp] theorem State.putSti_fuse (s : State) (v : Nat) (x : Stitch) : (State.putSti s v x).fuse = s.fuse := rfl
@[simp] theorem State.putSti_trained (s : State) (v : Nat) (x : Stitch) : (State.putSti s v x).trained = s.trained := rfl
@[simp] theorem State.putSti_bootWait (s : State) (v : Nat) (x : Stitch) : (State.putSti s v x).bootWait = s.bootWait := rfl
@[simp] theorem State.putSti_tb (s : State) (v : Nat) (x : Stitch) : (State.putSti s v x).tb = s.tb := rfl
@[simp] theorem State.putSti_crl (s : State) (v : Nat) (x : Stitch) : (State.putSti s v x).crl = s.crl := rfl
@[simp] theorem State.putSti_evio (s : State) (v : Nat) (x : Stitch) : (State.putSti s v x).evio = s.evio := rfl
@[simp] theorem State.putSti_evf (s : State) (v : Nat) (x : Stitch) : (State.putSti s v x).evf = s.evf := rfl
@[simp] theorem State.putSti_raised (s : State) (v : Nat) (x : Stitch) : (State.putSti s v x).raised = s.raised := rfl
@[simp] theorem State.putSti_chan (s : State) (v : Nat) (x : Stitch) : (State.putSti s v x).chan = s.chan := rfl
@[simp] theorem State.putSti_tg (s : State) (v : Nat) (x : Stitch) : (State.putSti s v x).tg = s.tg := rfl
@[simp] theorem State.putSti_view (s : State) (v : Nat) (x : Stitch) : (State.putSti s v x).view = s.view := rfl
@[simp] theorem State.putSti_link (s : State) (v : Nat) (x : Stitch) : (State.putSti s v x).link = s.link := rfl
@[simp] theorem State.putSti_train (s : State) (v : Nat) (x : Stitch) : (State.putSti s v x).train = s.train := rfl
@[simp] theorem State.putSti_joker (s : State) (v : Nat) (x : Stitch) : (State.putSti s v x).joker = s.joker := rfl
@[simp] theorem State.putSti_roWritten (s : State) (v : Nat) (x : Stitch) : (State.putSti s v x).roWritten = s.roWritten := rfl
@[simp] theorem State.putSti_jobA (s : State) (v : Nat) (x : Stitch) : (State.putSti s v x).jobA = s.jobA := rfl
@[simp] theorem State.putSti_jobN (s : State) (v : Nat) (x : Stitch) : (State.putSti s v x).jobN = s.jobN := rfl
@[simp] theorem State.putSti_valJob (s : State) (v : Nat) (x : Stitch) : (State.putSti s v x).valJob = s.valJob := rfl
@[simp] theorem State.putSti_jobVals (s : State) (v : Nat) (x : Stitch) : (State.putSti s v x).jobVals = s.jobVals := rfl
@[simp] theorem State.putSti_intake (s : State) (v : Nat) (x : Stitch) : (State.putSti s v x).intake = s.intake := rfl
@[simp] theorem State.putSti_pipe (s : State) (v : Nat) (x : Stitch) : (State.putSti s v x).pipe = s.pipe := rfl
@[simp] theorem State.putSti_tapBuf (s : State) (v : Nat) (x : Stitch) : (State.putSti s v x).tapBuf = s.tapBuf := rfl
@[simp] theorem State.putSti_corr (s : State) (v : Nat) (x : Stitch) : (State.putSti s v x).corr = s.corr := rfl
@[simp] theorem State.putSti_dot (s : State) (v : Nat) (x : Stitch) : (State.putSti s v x).dot = s.dot := rfl
@[simp] theorem State.putSti_winRes (s : State) (v : Nat) (x : Stitch) : (State.putSti s v x).winRes = s.winRes := rfl
@[simp] theorem State.putSti_mst (s : State) (v : Nat) (x : Stitch) : (State.putSti s v x).mst = s.mst := rfl
@[simp] theorem State.putSti_predict (s : State) (v : Nat) (x : Stitch) : (State.putSti s v x).predict = s.predict := rfl
@[simp] theorem State.putSti_eng (s : State) (v : Nat) (x : Stitch) : (State.putSti s v x).eng = s.eng := rfl
@[simp] theorem State.putSti_resA (s : State) (v : Nat) (x : Stitch) : (State.putSti s v x).resA = s.resA := rfl
@[simp] theorem State.putSti_resN (s : State) (v : Nat) (x : Stitch) : (State.putSti s v x).resN = s.resN := rfl
@[simp] theorem State.putSti_acts (s : State) (v : Nat) (x : Stitch) : (State.putSti s v x).acts = s.acts := rfl
@[simp] theorem State.putSti_hits (s : State) (v : Nat) (x : Stitch) : (State.putSti s v x).hits = s.hits := rfl
@[simp] theorem State.putSti_net (s : State) (v : Nat) (x : Stitch) : (State.putSti s v x).net = s.net := rfl
@[simp] theorem State.putSti_stream (s : State) (v : Nat) (x : Stitch) : (State.putSti s v x).stream = s.stream := rfl
@[simp] theorem State.putSti_dec (s : State) (v : Nat) (x : Stitch) : (State.putSti s v x).dec = s.dec := rfl
@[simp] theorem State.putSti_queue (s : State) (v : Nat) (x : Stitch) : (State.putSti s v x).queue = s.queue := rfl
@[simp] theorem State.putSti_levels (s : State) (v : Nat) (x : Stitch) : (State.putSti s v x).levels = s.levels := rfl
@[simp] theorem State.putSti_arb (s : State) (v : Nat) (x : Stitch) : (State.putSti s v x).arb = s.arb := rfl
@[simp] theorem State.putSti_qshadow (s : State) (v : Nat) (x : Stitch) : (State.putSti s v x).qshadow = s.qshadow := rfl
@[simp] theorem State.putSti_hqLo (s : State) (v : Nat) (x : Stitch) : (State.putSti s v x).hqLo = s.hqLo := rfl
@[simp] theorem State.putSti_dma (s : State) (v : Nat) (x : Stitch) : (State.putSti s v x).dma = s.dma := rfl
@[simp] theorem State.putSti_zip (s : State) (v : Nat) (x : Stitch) : (State.putSti s v x).zip = s.zip := rfl
@[simp] theorem State.putSti_twl (s : State) (v : Nat) (x : Stitch) : (State.putSti s v x).twl = s.twl := rfl
@[simp] theorem State.putSti_fifo (s : State) (v : Nat) (x : Stitch) : (State.putSti s v x).fifo = s.fifo := rfl
@[simp] theorem State.putSti_mc (s : State) (v : Nat) (x : Stitch) : (State.putSti s v x).mc = s.mc := rfl
@[simp] theorem State.putSti_mcg (s : State) (v : Nat) (x : Stitch) : (State.putSti s v x).mcg = s.mcg := rfl
@[simp] theorem State.putSti_hlth (s : State) (v : Nat) (x : Stitch) : (State.putSti s v x).hlth = s.hlth := rfl
@[simp] theorem State.putSti_log (s : State) (v : Nat) (x : Stitch) : (State.putSti s v x).log = s.log := rfl
@[simp] theorem State.putSti_logLatch (s : State) (v : Nat) (x : Stitch) : (State.putSti s v x).logLatch = s.logLatch := rfl
@[simp] theorem State.putSti_commits (s : State) (v : Nat) (x : Stitch) : (State.putSti s v x).commits = s.commits := rfl
@[simp] theorem State.putSti_cmtRec (s : State) (v : Nat) (x : Stitch) : (State.putSti s v x).cmtRec = s.cmtRec := rfl
@[simp] theorem State.putSti_entered (s : State) (v : Nat) (x : Stitch) : (State.putSti s v x).entered = s.entered := rfl
@[simp] theorem State.putSti_lockAt (s : State) (v : Nat) (x : Stitch) : (State.putSti s v x).lockAt = s.lockAt := rfl
@[simp] theorem State.putSti_lockKey (s : State) (v : Nat) (x : Stitch) : (State.putSti s v x).lockKey = s.lockKey := rfl
@[simp] theorem State.putSti_revoking (s : State) (v : Nat) (x : Stitch) : (State.putSti s v x).revoking = s.revoking := rfl
@[simp] theorem State.putSti_dead (s : State) (v : Nat) (x : Stitch) : (State.putSti s v x).dead = s.dead := rfl
@[simp] theorem State.putSti_pending (s : State) (v : Nat) (x : Stitch) : (State.putSti s v x).pending = s.pending := rfl
@[simp] theorem State.putSti_rd (s : State) (v : Nat) (x : Stitch) (q0 o0 : Nat) : (State.putSti s v x).rd q0 o0 = s.rd q0 o0 := rfl
@[simp] theorem State.putSti_fld (s : State) (v : Nat) (x : Stitch) (q0 : Nat) (f0 : Fld) : (State.putSti s v x).fld q0 f0 = s.fld q0 f0 := rfl
@[simp] theorem State.putSti_win (s : State) (v : Nat) (x : Stitch) (q0 : Nat) : (State.putSti s v x).win q0 = s.win q0 := rfl
/-! State.putEng -/

@[simp] theorem State.putEng_mem (s : State) (e : Nat) (x : Eng) : (State.putEng s e x).mem = s.mem := rfl
@[simp] theorem State.putEng_blank (s : State) (e : Nat) (x : Eng) : (State.putEng s e x).blank = s.blank := rfl
@[simp] theorem State.putEng_badLine (s : State) (e : Nat) (x : Eng) : (State.putEng s e x).badLine = s.badLine := rfl
@[simp] theorem State.putEng_regs (s : State) (e : Nat) (x : Eng) : (State.putEng s e x).regs = s.regs := rfl
@[simp] theorem State.putEng_shadow (s : State) (e : Nat) (x : Eng) : (State.putEng s e x).shadow = s.shadow := rfl
@[simp] theorem State.putEng_wroDone (s : State) (e : Nat) (x : Eng) : (State.putEng s e x).wroDone = s.wroDone := rfl
@[simp] theorem State.putEng_window (s : State) (e : Nat) (x : Eng) : (State.putEng s e x).window = s.window := rfl
@[simp] theorem State.putEng_out (s : State) (e : Nat) (x : Eng) : (State.putEng s e x).out = s.out := rfl
@[simp] theorem State.putEng_raw (s : State) (e : Nat) (x : Eng) : (State.putEng s e x).raw = s.raw := rfl
@[simp] theorem State.putEng_free (s : State) (e : Nat) (x : Eng) : (State.putEng s e x).free = s.free := rfl
@[simp] theorem State.putEng_fuse (s : State) (e : Nat) (x : Eng) : (State.putEng s e x).fuse = s.fuse := rfl
@[simp] theorem State.putEng_trained (s : State) (e : Nat) (x : Eng) : (State.putEng s e x).trained = s.trained := rfl
@[simp] theorem State.putEng_bootWait (s : State) (e : Nat) (x : Eng) : (State.putEng s e x).bootWait = s.bootWait := rfl
@[simp] theorem State.putEng_tb (s : State) (e : Nat) (x : Eng) : (State.putEng s e x).tb = s.tb := rfl
@[simp] theorem State.putEng_crl (s : State) (e : Nat) (x : Eng) : (State.putEng s e x).crl = s.crl := rfl
@[simp] theorem State.putEng_evio (s : State) (e : Nat) (x : Eng) : (State.putEng s e x).evio = s.evio := rfl
@[simp] theorem State.putEng_evf (s : State) (e : Nat) (x : Eng) : (State.putEng s e x).evf = s.evf := rfl
@[simp] theorem State.putEng_raised (s : State) (e : Nat) (x : Eng) : (State.putEng s e x).raised = s.raised := rfl
@[simp] theorem State.putEng_chan (s : State) (e : Nat) (x : Eng) : (State.putEng s e x).chan = s.chan := rfl
@[simp] theorem State.putEng_tg (s : State) (e : Nat) (x : Eng) : (State.putEng s e x).tg = s.tg := rfl
@[simp] theorem State.putEng_view (s : State) (e : Nat) (x : Eng) : (State.putEng s e x).view = s.view := rfl
@[simp] theorem State.putEng_link (s : State) (e : Nat) (x : Eng) : (State.putEng s e x).link = s.link := rfl
@[simp] theorem State.putEng_train (s : State) (e : Nat) (x : Eng) : (State.putEng s e x).train = s.train := rfl
@[simp] theorem State.putEng_joker (s : State) (e : Nat) (x : Eng) : (State.putEng s e x).joker = s.joker := rfl
@[simp] theorem State.putEng_roWritten (s : State) (e : Nat) (x : Eng) : (State.putEng s e x).roWritten = s.roWritten := rfl
@[simp] theorem State.putEng_jobA (s : State) (e : Nat) (x : Eng) : (State.putEng s e x).jobA = s.jobA := rfl
@[simp] theorem State.putEng_jobN (s : State) (e : Nat) (x : Eng) : (State.putEng s e x).jobN = s.jobN := rfl
@[simp] theorem State.putEng_valJob (s : State) (e : Nat) (x : Eng) : (State.putEng s e x).valJob = s.valJob := rfl
@[simp] theorem State.putEng_jobVals (s : State) (e : Nat) (x : Eng) : (State.putEng s e x).jobVals = s.jobVals := rfl
@[simp] theorem State.putEng_intake (s : State) (e : Nat) (x : Eng) : (State.putEng s e x).intake = s.intake := rfl
@[simp] theorem State.putEng_pipe (s : State) (e : Nat) (x : Eng) : (State.putEng s e x).pipe = s.pipe := rfl
@[simp] theorem State.putEng_tapBuf (s : State) (e : Nat) (x : Eng) : (State.putEng s e x).tapBuf = s.tapBuf := rfl
@[simp] theorem State.putEng_corr (s : State) (e : Nat) (x : Eng) : (State.putEng s e x).corr = s.corr := rfl
@[simp] theorem State.putEng_stitch_ (s : State) (e : Nat) (x : Eng) : (State.putEng s e x).stitch_ = s.stitch_ := rfl
@[simp] theorem State.putEng_dot (s : State) (e : Nat) (x : Eng) : (State.putEng s e x).dot = s.dot := rfl
@[simp] theorem State.putEng_winRes (s : State) (e : Nat) (x : Eng) : (State.putEng s e x).winRes = s.winRes := rfl
@[simp] theorem State.putEng_mst (s : State) (e : Nat) (x : Eng) : (State.putEng s e x).mst = s.mst := rfl
@[simp] theorem State.putEng_predict (s : State) (e : Nat) (x : Eng) : (State.putEng s e x).predict = s.predict := rfl
@[simp] theorem State.putEng_resA (s : State) (e : Nat) (x : Eng) : (State.putEng s e x).resA = s.resA := rfl
@[simp] theorem State.putEng_resN (s : State) (e : Nat) (x : Eng) : (State.putEng s e x).resN = s.resN := rfl
@[simp] theorem State.putEng_acts (s : State) (e : Nat) (x : Eng) : (State.putEng s e x).acts = s.acts := rfl
@[simp] theorem State.putEng_hits (s : State) (e : Nat) (x : Eng) : (State.putEng s e x).hits = s.hits := rfl
@[simp] theorem State.putEng_net (s : State) (e : Nat) (x : Eng) : (State.putEng s e x).net = s.net := rfl
@[simp] theorem State.putEng_stream (s : State) (e : Nat) (x : Eng) : (State.putEng s e x).stream = s.stream := rfl
@[simp] theorem State.putEng_dec (s : State) (e : Nat) (x : Eng) : (State.putEng s e x).dec = s.dec := rfl
@[simp] theorem State.putEng_queue (s : State) (e : Nat) (x : Eng) : (State.putEng s e x).queue = s.queue := rfl
@[simp] theorem State.putEng_levels (s : State) (e : Nat) (x : Eng) : (State.putEng s e x).levels = s.levels := rfl
@[simp] theorem State.putEng_arb (s : State) (e : Nat) (x : Eng) : (State.putEng s e x).arb = s.arb := rfl
@[simp] theorem State.putEng_qshadow (s : State) (e : Nat) (x : Eng) : (State.putEng s e x).qshadow = s.qshadow := rfl
@[simp] theorem State.putEng_hqLo (s : State) (e : Nat) (x : Eng) : (State.putEng s e x).hqLo = s.hqLo := rfl
@[simp] theorem State.putEng_dma (s : State) (e : Nat) (x : Eng) : (State.putEng s e x).dma = s.dma := rfl
@[simp] theorem State.putEng_zip (s : State) (e : Nat) (x : Eng) : (State.putEng s e x).zip = s.zip := rfl
@[simp] theorem State.putEng_twl (s : State) (e : Nat) (x : Eng) : (State.putEng s e x).twl = s.twl := rfl
@[simp] theorem State.putEng_fifo (s : State) (e : Nat) (x : Eng) : (State.putEng s e x).fifo = s.fifo := rfl
@[simp] theorem State.putEng_mc (s : State) (e : Nat) (x : Eng) : (State.putEng s e x).mc = s.mc := rfl
@[simp] theorem State.putEng_mcg (s : State) (e : Nat) (x : Eng) : (State.putEng s e x).mcg = s.mcg := rfl
@[simp] theorem State.putEng_hlth (s : State) (e : Nat) (x : Eng) : (State.putEng s e x).hlth = s.hlth := rfl
@[simp] theorem State.putEng_log (s : State) (e : Nat) (x : Eng) : (State.putEng s e x).log = s.log := rfl
@[simp] theorem State.putEng_logLatch (s : State) (e : Nat) (x : Eng) : (State.putEng s e x).logLatch = s.logLatch := rfl
@[simp] theorem State.putEng_commits (s : State) (e : Nat) (x : Eng) : (State.putEng s e x).commits = s.commits := rfl
@[simp] theorem State.putEng_cmtRec (s : State) (e : Nat) (x : Eng) : (State.putEng s e x).cmtRec = s.cmtRec := rfl
@[simp] theorem State.putEng_entered (s : State) (e : Nat) (x : Eng) : (State.putEng s e x).entered = s.entered := rfl
@[simp] theorem State.putEng_lockAt (s : State) (e : Nat) (x : Eng) : (State.putEng s e x).lockAt = s.lockAt := rfl
@[simp] theorem State.putEng_lockKey (s : State) (e : Nat) (x : Eng) : (State.putEng s e x).lockKey = s.lockKey := rfl
@[simp] theorem State.putEng_revoking (s : State) (e : Nat) (x : Eng) : (State.putEng s e x).revoking = s.revoking := rfl
@[simp] theorem State.putEng_dead (s : State) (e : Nat) (x : Eng) : (State.putEng s e x).dead = s.dead := rfl
@[simp] theorem State.putEng_pending (s : State) (e : Nat) (x : Eng) : (State.putEng s e x).pending = s.pending := rfl
@[simp] theorem State.putEng_rd (s : State) (e : Nat) (x : Eng) (q0 o0 : Nat) : (State.putEng s e x).rd q0 o0 = s.rd q0 o0 := rfl
@[simp] theorem State.putEng_fld (s : State) (e : Nat) (x : Eng) (q0 : Nat) (f0 : Fld) : (State.putEng s e x).fld q0 f0 = s.fld q0 f0 := rfl
@[simp] theorem State.putEng_win (s : State) (e : Nat) (x : Eng) (q0 : Nat) : (State.putEng s e x).win q0 = s.win q0 := rfl
/-! State.asNext -/

@[simp] theorem State.asNext_mem (s : State) (j : JobCtx) : (State.asNext s j).mem = s.mem := rfl
@[simp] theorem State.asNext_blank (s : State) (j : JobCtx) : (State.asNext s j).blank = s.blank := rfl
@[simp] theorem State.asNext_badLine (s : State) (j : JobCtx) : (State.asNext s j).badLine = s.badLine := rfl
@[simp] theorem State.asNext_regs (s : State) (j : JobCtx) : (State.asNext s j).regs = s.regs := rfl
@[simp] theorem State.asNext_shadow (s : State) (j : JobCtx) : (State.asNext s j).shadow = s.shadow := rfl
@[simp] theorem State.asNext_wroDone (s : State) (j : JobCtx) : (State.asNext s j).wroDone = s.wroDone := rfl
@[simp] theorem State.asNext_window (s : State) (j : JobCtx) : (State.asNext s j).window = s.window := rfl
@[simp] theorem State.asNext_out (s : State) (j : JobCtx) : (State.asNext s j).out = s.out := rfl
@[simp] theorem State.asNext_raw (s : State) (j : JobCtx) : (State.asNext s j).raw = s.raw := rfl
@[simp] theorem State.asNext_free (s : State) (j : JobCtx) : (State.asNext s j).free = s.free := rfl
@[simp] theorem State.asNext_fuse (s : State) (j : JobCtx) : (State.asNext s j).fuse = s.fuse := rfl
@[simp] theorem State.asNext_trained (s : State) (j : JobCtx) : (State.asNext s j).trained = s.trained := rfl
@[simp] theorem State.asNext_bootWait (s : State) (j : JobCtx) : (State.asNext s j).bootWait = s.bootWait := rfl
@[simp] theorem State.asNext_tb (s : State) (j : JobCtx) : (State.asNext s j).tb = s.tb := rfl
@[simp] theorem State.asNext_crl (s : State) (j : JobCtx) : (State.asNext s j).crl = s.crl := rfl
@[simp] theorem State.asNext_evio (s : State) (j : JobCtx) : (State.asNext s j).evio = s.evio := rfl
@[simp] theorem State.asNext_evf (s : State) (j : JobCtx) : (State.asNext s j).evf = s.evf := rfl
@[simp] theorem State.asNext_raised (s : State) (j : JobCtx) : (State.asNext s j).raised = s.raised := rfl
@[simp] theorem State.asNext_chan (s : State) (j : JobCtx) : (State.asNext s j).chan = s.chan := rfl
@[simp] theorem State.asNext_tg (s : State) (j : JobCtx) : (State.asNext s j).tg = s.tg := rfl
@[simp] theorem State.asNext_view (s : State) (j : JobCtx) : (State.asNext s j).view = s.view := rfl
@[simp] theorem State.asNext_link (s : State) (j : JobCtx) : (State.asNext s j).link = s.link := rfl
@[simp] theorem State.asNext_train (s : State) (j : JobCtx) : (State.asNext s j).train = s.train := rfl
@[simp] theorem State.asNext_joker (s : State) (j : JobCtx) : (State.asNext s j).joker = s.joker := rfl
@[simp] theorem State.asNext_roWritten (s : State) (j : JobCtx) : (State.asNext s j).roWritten = s.roWritten := rfl
@[simp] theorem State.asNext_jobA (s : State) (j : JobCtx) : (State.asNext s j).jobA = s.jobA := rfl
@[simp] theorem State.asNext_valJob (s : State) (j : JobCtx) : (State.asNext s j).valJob = s.valJob := rfl
@[simp] theorem State.asNext_jobVals (s : State) (j : JobCtx) : (State.asNext s j).jobVals = s.jobVals := rfl
@[simp] theorem State.asNext_intake (s : State) (j : JobCtx) : (State.asNext s j).intake = s.intake := rfl
@[simp] theorem State.asNext_pipe (s : State) (j : JobCtx) : (State.asNext s j).pipe = s.pipe := rfl
@[simp] theorem State.asNext_tapBuf (s : State) (j : JobCtx) : (State.asNext s j).tapBuf = s.tapBuf := rfl
@[simp] theorem State.asNext_corr (s : State) (j : JobCtx) : (State.asNext s j).corr = s.corr := rfl
@[simp] theorem State.asNext_stitch_ (s : State) (j : JobCtx) : (State.asNext s j).stitch_ = s.stitch_ := rfl
@[simp] theorem State.asNext_dot (s : State) (j : JobCtx) : (State.asNext s j).dot = s.dot := rfl
@[simp] theorem State.asNext_winRes (s : State) (j : JobCtx) : (State.asNext s j).winRes = s.winRes := rfl
@[simp] theorem State.asNext_mst (s : State) (j : JobCtx) : (State.asNext s j).mst = s.mst := rfl
@[simp] theorem State.asNext_predict (s : State) (j : JobCtx) : (State.asNext s j).predict = s.predict := rfl
@[simp] theorem State.asNext_eng (s : State) (j : JobCtx) : (State.asNext s j).eng = s.eng := rfl
@[simp] theorem State.asNext_resA (s : State) (j : JobCtx) : (State.asNext s j).resA = s.resA := rfl
@[simp] theorem State.asNext_resN (s : State) (j : JobCtx) : (State.asNext s j).resN = s.resN := rfl
@[simp] theorem State.asNext_acts (s : State) (j : JobCtx) : (State.asNext s j).acts = s.acts := rfl
@[simp] theorem State.asNext_hits (s : State) (j : JobCtx) : (State.asNext s j).hits = s.hits := rfl
@[simp] theorem State.asNext_net (s : State) (j : JobCtx) : (State.asNext s j).net = s.net := rfl
@[simp] theorem State.asNext_stream (s : State) (j : JobCtx) : (State.asNext s j).stream = s.stream := rfl
@[simp] theorem State.asNext_dec (s : State) (j : JobCtx) : (State.asNext s j).dec = s.dec := rfl
@[simp] theorem State.asNext_queue (s : State) (j : JobCtx) : (State.asNext s j).queue = s.queue := rfl
@[simp] theorem State.asNext_levels (s : State) (j : JobCtx) : (State.asNext s j).levels = s.levels := rfl
@[simp] theorem State.asNext_arb (s : State) (j : JobCtx) : (State.asNext s j).arb = s.arb := rfl
@[simp] theorem State.asNext_qshadow (s : State) (j : JobCtx) : (State.asNext s j).qshadow = s.qshadow := rfl
@[simp] theorem State.asNext_hqLo (s : State) (j : JobCtx) : (State.asNext s j).hqLo = s.hqLo := rfl
@[simp] theorem State.asNext_dma (s : State) (j : JobCtx) : (State.asNext s j).dma = s.dma := rfl
@[simp] theorem State.asNext_zip (s : State) (j : JobCtx) : (State.asNext s j).zip = s.zip := rfl
@[simp] theorem State.asNext_twl (s : State) (j : JobCtx) : (State.asNext s j).twl = s.twl := rfl
@[simp] theorem State.asNext_fifo (s : State) (j : JobCtx) : (State.asNext s j).fifo = s.fifo := rfl
@[simp] theorem State.asNext_mc (s : State) (j : JobCtx) : (State.asNext s j).mc = s.mc := rfl
@[simp] theorem State.asNext_mcg (s : State) (j : JobCtx) : (State.asNext s j).mcg = s.mcg := rfl
@[simp] theorem State.asNext_hlth (s : State) (j : JobCtx) : (State.asNext s j).hlth = s.hlth := rfl
@[simp] theorem State.asNext_log (s : State) (j : JobCtx) : (State.asNext s j).log = s.log := rfl
@[simp] theorem State.asNext_logLatch (s : State) (j : JobCtx) : (State.asNext s j).logLatch = s.logLatch := rfl
@[simp] theorem State.asNext_commits (s : State) (j : JobCtx) : (State.asNext s j).commits = s.commits := rfl
@[simp] theorem State.asNext_cmtRec (s : State) (j : JobCtx) : (State.asNext s j).cmtRec = s.cmtRec := rfl
@[simp] theorem State.asNext_entered (s : State) (j : JobCtx) : (State.asNext s j).entered = s.entered := rfl
@[simp] theorem State.asNext_lockAt (s : State) (j : JobCtx) : (State.asNext s j).lockAt = s.lockAt := rfl
@[simp] theorem State.asNext_lockKey (s : State) (j : JobCtx) : (State.asNext s j).lockKey = s.lockKey := rfl
@[simp] theorem State.asNext_revoking (s : State) (j : JobCtx) : (State.asNext s j).revoking = s.revoking := rfl
@[simp] theorem State.asNext_dead (s : State) (j : JobCtx) : (State.asNext s j).dead = s.dead := rfl
@[simp] theorem State.asNext_pending (s : State) (j : JobCtx) : (State.asNext s j).pending = s.pending := rfl
@[simp] theorem State.asNext_rd (s : State) (j : JobCtx) (q0 o0 : Nat) : (State.asNext s j).rd q0 o0 = s.rd q0 o0 := rfl
@[simp] theorem State.asNext_fld (s : State) (j : JobCtx) (q0 : Nat) (f0 : Fld) : (State.asNext s j).fld q0 f0 = s.fld q0 f0 := rfl
@[simp] theorem State.asNext_win (s : State) (j : JobCtx) (q0 : Nat) : (State.asNext s j).win q0 = s.win q0 := rfl
/-! State.setCal -/

@[simp] theorem State.setCal_mem (s : State) (k : Nat) (x : Option CalRun) : (State.setCal s k x).mem = s.mem := rfl
@[simp] theorem State.setCal_blank (s : State) (k : Nat) (x : Option CalRun) : (State.setCal s k x).blank = s.blank := rfl
@[simp] theorem State.setCal_badLine (s : State) (k : Nat) (x : Option CalRun) : (State.setCal s k x).badLine = s.badLine := rfl
@[simp] theorem State.setCal_regs (s : State) (k : Nat) (x : Option CalRun) : (State.setCal s k x).regs = s.regs := rfl
@[simp] theorem State.setCal_shadow (s : State) (k : Nat) (x : Option CalRun) : (State.setCal s k x).shadow = s.shadow := rfl
@[simp] theorem State.setCal_wroDone (s : State) (k : Nat) (x : Option CalRun) : (State.setCal s k x).wroDone = s.wroDone := rfl
@[simp] theorem State.setCal_window (s : State) (k : Nat) (x : Option CalRun) : (State.setCal s k x).window = s.window := rfl
@[simp] theorem State.setCal_out (s : State) (k : Nat) (x : Option CalRun) : (State.setCal s k x).out = s.out := rfl
@[simp] theorem State.setCal_raw (s : State) (k : Nat) (x : Option CalRun) : (State.setCal s k x).raw = s.raw := rfl
@[simp] theorem State.setCal_free (s : State) (k : Nat) (x : Option CalRun) : (State.setCal s k x).free = s.free := rfl
@[simp] theorem State.setCal_fuse (s : State) (k : Nat) (x : Option CalRun) : (State.setCal s k x).fuse = s.fuse := rfl
@[simp] theorem State.setCal_trained (s : State) (k : Nat) (x : Option CalRun) : (State.setCal s k x).trained = s.trained := rfl
@[simp] theorem State.setCal_bootWait (s : State) (k : Nat) (x : Option CalRun) : (State.setCal s k x).bootWait = s.bootWait := rfl
@[simp] theorem State.setCal_tb (s : State) (k : Nat) (x : Option CalRun) : (State.setCal s k x).tb = s.tb := rfl
@[simp] theorem State.setCal_crl (s : State) (k : Nat) (x : Option CalRun) : (State.setCal s k x).crl = s.crl := rfl
@[simp] theorem State.setCal_evio (s : State) (k : Nat) (x : Option CalRun) : (State.setCal s k x).evio = s.evio := rfl
@[simp] theorem State.setCal_evf (s : State) (k : Nat) (x : Option CalRun) : (State.setCal s k x).evf = s.evf := rfl
@[simp] theorem State.setCal_raised (s : State) (k : Nat) (x : Option CalRun) : (State.setCal s k x).raised = s.raised := rfl
@[simp] theorem State.setCal_chan (s : State) (k : Nat) (x : Option CalRun) : (State.setCal s k x).chan = s.chan := rfl
@[simp] theorem State.setCal_tg (s : State) (k : Nat) (x : Option CalRun) : (State.setCal s k x).tg = s.tg := rfl
@[simp] theorem State.setCal_view (s : State) (k : Nat) (x : Option CalRun) : (State.setCal s k x).view = s.view := rfl
@[simp] theorem State.setCal_link (s : State) (k : Nat) (x : Option CalRun) : (State.setCal s k x).link = s.link := rfl
@[simp] theorem State.setCal_train (s : State) (k : Nat) (x : Option CalRun) : (State.setCal s k x).train = s.train := rfl
@[simp] theorem State.setCal_joker (s : State) (k : Nat) (x : Option CalRun) : (State.setCal s k x).joker = s.joker := rfl
@[simp] theorem State.setCal_roWritten (s : State) (k : Nat) (x : Option CalRun) : (State.setCal s k x).roWritten = s.roWritten := rfl
@[simp] theorem State.setCal_jobA (s : State) (k : Nat) (x : Option CalRun) : (State.setCal s k x).jobA = s.jobA := rfl
@[simp] theorem State.setCal_jobN (s : State) (k : Nat) (x : Option CalRun) : (State.setCal s k x).jobN = s.jobN := rfl
@[simp] theorem State.setCal_valJob (s : State) (k : Nat) (x : Option CalRun) : (State.setCal s k x).valJob = s.valJob := rfl
@[simp] theorem State.setCal_jobVals (s : State) (k : Nat) (x : Option CalRun) : (State.setCal s k x).jobVals = s.jobVals := rfl
@[simp] theorem State.setCal_intake (s : State) (k : Nat) (x : Option CalRun) : (State.setCal s k x).intake = s.intake := rfl
@[simp] theorem State.setCal_pipe (s : State) (k : Nat) (x : Option CalRun) : (State.setCal s k x).pipe = s.pipe := rfl
@[simp] theorem State.setCal_tapBuf (s : State) (k : Nat) (x : Option CalRun) : (State.setCal s k x).tapBuf = s.tapBuf := rfl
@[simp] theorem State.setCal_corr (s : State) (k : Nat) (x : Option CalRun) : (State.setCal s k x).corr = s.corr := rfl
@[simp] theorem State.setCal_stitch_ (s : State) (k : Nat) (x : Option CalRun) : (State.setCal s k x).stitch_ = s.stitch_ := rfl
@[simp] theorem State.setCal_dot (s : State) (k : Nat) (x : Option CalRun) : (State.setCal s k x).dot = s.dot := rfl
@[simp] theorem State.setCal_winRes (s : State) (k : Nat) (x : Option CalRun) : (State.setCal s k x).winRes = s.winRes := rfl
@[simp] theorem State.setCal_mst (s : State) (k : Nat) (x : Option CalRun) : (State.setCal s k x).mst = s.mst := rfl
@[simp] theorem State.setCal_predict (s : State) (k : Nat) (x : Option CalRun) : (State.setCal s k x).predict = s.predict := rfl
@[simp] theorem State.setCal_eng (s : State) (k : Nat) (x : Option CalRun) : (State.setCal s k x).eng = s.eng := rfl
@[simp] theorem State.setCal_resA (s : State) (k : Nat) (x : Option CalRun) : (State.setCal s k x).resA = s.resA := rfl
@[simp] theorem State.setCal_resN (s : State) (k : Nat) (x : Option CalRun) : (State.setCal s k x).resN = s.resN := rfl
@[simp] theorem State.setCal_acts (s : State) (k : Nat) (x : Option CalRun) : (State.setCal s k x).acts = s.acts := rfl
@[simp] theorem State.setCal_hits (s : State) (k : Nat) (x : Option CalRun) : (State.setCal s k x).hits = s.hits := rfl
@[simp] theorem State.setCal_net (s : State) (k : Nat) (x : Option CalRun) : (State.setCal s k x).net = s.net := rfl
@[simp] theorem State.setCal_stream (s : State) (k : Nat) (x : Option CalRun) : (State.setCal s k x).stream = s.stream := rfl
@[simp] theorem State.setCal_dec (s : State) (k : Nat) (x : Option CalRun) : (State.setCal s k x).dec = s.dec := rfl
@[simp] theorem State.setCal_queue (s : State) (k : Nat) (x : Option CalRun) : (State.setCal s k x).queue = s.queue := rfl
@[simp] theorem State.setCal_levels (s : State) (k : Nat) (x : Option CalRun) : (State.setCal s k x).levels = s.levels := rfl
@[simp] theorem State.setCal_arb (s : State) (k : Nat) (x : Option CalRun) : (State.setCal s k x).arb = s.arb := rfl
@[simp] theorem State.setCal_qshadow (s : State) (k : Nat) (x : Option CalRun) : (State.setCal s k x).qshadow = s.qshadow := rfl
@[simp] theorem State.setCal_hqLo (s : State) (k : Nat) (x : Option CalRun) : (State.setCal s k x).hqLo = s.hqLo := rfl
@[simp] theorem State.setCal_dma (s : State) (k : Nat) (x : Option CalRun) : (State.setCal s k x).dma = s.dma := rfl
@[simp] theorem State.setCal_zip (s : State) (k : Nat) (x : Option CalRun) : (State.setCal s k x).zip = s.zip := rfl
@[simp] theorem State.setCal_twl (s : State) (k : Nat) (x : Option CalRun) : (State.setCal s k x).twl = s.twl := rfl
@[simp] theorem State.setCal_fifo (s : State) (k : Nat) (x : Option CalRun) : (State.setCal s k x).fifo = s.fifo := rfl
@[simp] theorem State.setCal_mc (s : State) (k : Nat) (x : Option CalRun) : (State.setCal s k x).mc = s.mc := rfl
@[simp] theorem State.setCal_mcg (s : State) (k : Nat) (x : Option CalRun) : (State.setCal s k x).mcg = s.mcg := rfl
@[simp] theorem State.setCal_log (s : State) (k : Nat) (x : Option CalRun) : (State.setCal s k x).log = s.log := rfl
@[simp] theorem State.setCal_logLatch (s : State) (k : Nat) (x : Option CalRun) : (State.setCal s k x).logLatch = s.logLatch := rfl
@[simp] theorem State.setCal_commits (s : State) (k : Nat) (x : Option CalRun) : (State.setCal s k x).commits = s.commits := rfl
@[simp] theorem State.setCal_cmtRec (s : State) (k : Nat) (x : Option CalRun) : (State.setCal s k x).cmtRec = s.cmtRec := rfl
@[simp] theorem State.setCal_entered (s : State) (k : Nat) (x : Option CalRun) : (State.setCal s k x).entered = s.entered := rfl
@[simp] theorem State.setCal_lockAt (s : State) (k : Nat) (x : Option CalRun) : (State.setCal s k x).lockAt = s.lockAt := rfl
@[simp] theorem State.setCal_lockKey (s : State) (k : Nat) (x : Option CalRun) : (State.setCal s k x).lockKey = s.lockKey := rfl
@[simp] theorem State.setCal_revoking (s : State) (k : Nat) (x : Option CalRun) : (State.setCal s k x).revoking = s.revoking := rfl
@[simp] theorem State.setCal_dead (s : State) (k : Nat) (x : Option CalRun) : (State.setCal s k x).dead = s.dead := rfl
@[simp] theorem State.setCal_pending (s : State) (k : Nat) (x : Option CalRun) : (State.setCal s k x).pending = s.pending := rfl
@[simp] theorem State.setCal_rd (s : State) (k : Nat) (x : Option CalRun) (q0 o0 : Nat) : (State.setCal s k x).rd q0 o0 = s.rd q0 o0 := rfl
@[simp] theorem State.setCal_fld (s : State) (k : Nat) (x : Option CalRun) (q0 : Nat) (f0 : Fld) : (State.setCal s k x).fld q0 f0 = s.fld q0 f0 := rfl
@[simp] theorem State.setCal_win (s : State) (k : Nat) (x : Option CalRun) (q0 : Nat) : (State.setCal s k x).win q0 = s.win q0 := rfl
/-! State.putSess -/

@[simp] theorem State.putSess_mem (s : State) (k : Nat) (x : Sess) : (State.putSess s k x).mem = s.mem := rfl
@[simp] theorem State.putSess_blank (s : State) (k : Nat) (x : Sess) : (State.putSess s k x).blank = s.blank := rfl
@[simp] theorem State.putSess_badLine (s : State) (k : Nat) (x : Sess) : (State.putSess s k x).badLine = s.badLine := rfl
@[simp] theorem State.putSess_regs (s : State) (k : Nat) (x : Sess) : (State.putSess s k x).regs = s.regs := rfl
@[simp] theorem State.putSess_shadow (s : State) (k : Nat) (x : Sess) : (State.putSess s k x).shadow = s.shadow := rfl
@[simp] theorem State.putSess_wroDone (s : State) (k : Nat) (x : Sess) : (State.putSess s k x).wroDone = s.wroDone := rfl
@[simp] theorem State.putSess_window (s : State) (k : Nat) (x : Sess) : (State.putSess s k x).window = s.window := rfl
@[simp] theorem State.putSess_out (s : State) (k : Nat) (x : Sess) : (State.putSess s k x).out = s.out := rfl
@[simp] theorem State.putSess_raw (s : State) (k : Nat) (x : Sess) : (State.putSess s k x).raw = s.raw := rfl
@[simp] theorem State.putSess_free (s : State) (k : Nat) (x : Sess) : (State.putSess s k x).free = s.free := rfl
@[simp] theorem State.putSess_fuse (s : State) (k : Nat) (x : Sess) : (State.putSess s k x).fuse = s.fuse := rfl
@[simp] theorem State.putSess_trained (s : State) (k : Nat) (x : Sess) : (State.putSess s k x).trained = s.trained := rfl
@[simp] theorem State.putSess_bootWait (s : State) (k : Nat) (x : Sess) : (State.putSess s k x).bootWait = s.bootWait := rfl
@[simp] theorem State.putSess_tb (s : State) (k : Nat) (x : Sess) : (State.putSess s k x).tb = s.tb := rfl
@[simp] theorem State.putSess_crl (s : State) (k : Nat) (x : Sess) : (State.putSess s k x).crl = s.crl := rfl
@[simp] theorem State.putSess_evio (s : State) (k : Nat) (x : Sess) : (State.putSess s k x).evio = s.evio := rfl
@[simp] theorem State.putSess_evf (s : State) (k : Nat) (x : Sess) : (State.putSess s k x).evf = s.evf := rfl
@[simp] theorem State.putSess_raised (s : State) (k : Nat) (x : Sess) : (State.putSess s k x).raised = s.raised := rfl
@[simp] theorem State.putSess_chan (s : State) (k : Nat) (x : Sess) : (State.putSess s k x).chan = s.chan := rfl
@[simp] theorem State.putSess_tg (s : State) (k : Nat) (x : Sess) : (State.putSess s k x).tg = s.tg := rfl
@[simp] theorem State.putSess_view (s : State) (k : Nat) (x : Sess) : (State.putSess s k x).view = s.view := rfl
@[simp] theorem State.putSess_link (s : State) (k : Nat) (x : Sess) : (State.putSess s k x).link = s.link := rfl
@[simp] theorem State.putSess_train (s : State) (k : Nat) (x : Sess) : (State.putSess s k x).train = s.train := rfl
@[simp] theorem State.putSess_joker (s : State) (k : Nat) (x : Sess) : (State.putSess s k x).joker = s.joker := rfl
@[simp] theorem State.putSess_roWritten (s : State) (k : Nat) (x : Sess) : (State.putSess s k x).roWritten = s.roWritten := rfl
@[simp] theorem State.putSess_jobA (s : State) (k : Nat) (x : Sess) : (State.putSess s k x).jobA = s.jobA := rfl
@[simp] theorem State.putSess_jobN (s : State) (k : Nat) (x : Sess) : (State.putSess s k x).jobN = s.jobN := rfl
@[simp] theorem State.putSess_valJob (s : State) (k : Nat) (x : Sess) : (State.putSess s k x).valJob = s.valJob := rfl
@[simp] theorem State.putSess_jobVals (s : State) (k : Nat) (x : Sess) : (State.putSess s k x).jobVals = s.jobVals := rfl
@[simp] theorem State.putSess_intake (s : State) (k : Nat) (x : Sess) : (State.putSess s k x).intake = s.intake := rfl
@[simp] theorem State.putSess_pipe (s : State) (k : Nat) (x : Sess) : (State.putSess s k x).pipe = s.pipe := rfl
@[simp] theorem State.putSess_tapBuf (s : State) (k : Nat) (x : Sess) : (State.putSess s k x).tapBuf = s.tapBuf := rfl
@[simp] theorem State.putSess_corr (s : State) (k : Nat) (x : Sess) : (State.putSess s k x).corr = s.corr := rfl
@[simp] theorem State.putSess_stitch_ (s : State) (k : Nat) (x : Sess) : (State.putSess s k x).stitch_ = s.stitch_ := rfl
@[simp] theorem State.putSess_dot (s : State) (k : Nat) (x : Sess) : (State.putSess s k x).dot = s.dot := rfl
@[simp] theorem State.putSess_winRes (s : State) (k : Nat) (x : Sess) : (State.putSess s k x).winRes = s.winRes := rfl
@[simp] theorem State.putSess_mst (s : State) (k : Nat) (x : Sess) : (State.putSess s k x).mst = s.mst := rfl
@[simp] theorem State.putSess_predict (s : State) (k : Nat) (x : Sess) : (State.putSess s k x).predict = s.predict := rfl
@[simp] theorem State.putSess_eng (s : State) (k : Nat) (x : Sess) : (State.putSess s k x).eng = s.eng := rfl
@[simp] theorem State.putSess_resA (s : State) (k : Nat) (x : Sess) : (State.putSess s k x).resA = s.resA := rfl
@[simp] theorem State.putSess_resN (s : State) (k : Nat) (x : Sess) : (State.putSess s k x).resN = s.resN := rfl
@[simp] theorem State.putSess_acts (s : State) (k : Nat) (x : Sess) : (State.putSess s k x).acts = s.acts := rfl
@[simp] theorem State.putSess_hits (s : State) (k : Nat) (x : Sess) : (State.putSess s k x).hits = s.hits := rfl
@[simp] theorem State.putSess_stream (s : State) (k : Nat) (x : Sess) : (State.putSess s k x).stream = s.stream := rfl
@[simp] theorem State.putSess_dec (s : State) (k : Nat) (x : Sess) : (State.putSess s k x).dec = s.dec := rfl
@[simp] theorem State.putSess_queue (s : State) (k : Nat) (x : Sess) : (State.putSess s k x).queue = s.queue := rfl
@[simp] theorem State.putSess_levels (s : State) (k : Nat) (x : Sess) : (State.putSess s k x).levels = s.levels := rfl
@[simp] theorem State.putSess_arb (s : State) (k : Nat) (x : Sess) : (State.putSess s k x).arb = s.arb := rfl
@[simp] theorem State.putSess_qshadow (s : State) (k : Nat) (x : Sess) : (State.putSess s k x).qshadow = s.qshadow := rfl
@[simp] theorem State.putSess_hqLo (s : State) (k : Nat) (x : Sess) : (State.putSess s k x).hqLo = s.hqLo := rfl
@[simp] theorem State.putSess_dma (s : State) (k : Nat) (x : Sess) : (State.putSess s k x).dma = s.dma := rfl
@[simp] theorem State.putSess_zip (s : State) (k : Nat) (x : Sess) : (State.putSess s k x).zip = s.zip := rfl
@[simp] theorem State.putSess_twl (s : State) (k : Nat) (x : Sess) : (State.putSess s k x).twl = s.twl := rfl
@[simp] theorem State.putSess_fifo (s : State) (k : Nat) (x : Sess) : (State.putSess s k x).fifo = s.fifo := rfl
@[simp] theorem State.putSess_mc (s : State) (k : Nat) (x : Sess) : (State.putSess s k x).mc = s.mc := rfl
@[simp] theorem State.putSess_mcg (s : State) (k : Nat) (x : Sess) : (State.putSess s k x).mcg = s.mcg := rfl
@[simp] theorem State.putSess_hlth (s : State) (k : Nat) (x : Sess) : (State.putSess s k x).hlth = s.hlth := rfl
@[simp] theorem State.putSess_log (s : State) (k : Nat) (x : Sess) : (State.putSess s k x).log = s.log := rfl
@[simp] theorem State.putSess_logLatch (s : State) (k : Nat) (x : Sess) : (State.putSess s k x).logLatch = s.logLatch := rfl
@[simp] theorem State.putSess_commits (s : State) (k : Nat) (x : Sess) : (State.putSess s k x).commits = s.commits := rfl
@[simp] theorem State.putSess_cmtRec (s : State) (k : Nat) (x : Sess) : (State.putSess s k x).cmtRec = s.cmtRec := rfl
@[simp] theorem State.putSess_entered (s : State) (k : Nat) (x : Sess) : (State.putSess s k x).entered = s.entered := rfl
@[simp] theorem State.putSess_lockAt (s : State) (k : Nat) (x : Sess) : (State.putSess s k x).lockAt = s.lockAt := rfl
@[simp] theorem State.putSess_lockKey (s : State) (k : Nat) (x : Sess) : (State.putSess s k x).lockKey = s.lockKey := rfl
@[simp] theorem State.putSess_revoking (s : State) (k : Nat) (x : Sess) : (State.putSess s k x).revoking = s.revoking := rfl
@[simp] theorem State.putSess_dead (s : State) (k : Nat) (x : Sess) : (State.putSess s k x).dead = s.dead := rfl
@[simp] theorem State.putSess_pending (s : State) (k : Nat) (x : Sess) : (State.putSess s k x).pending = s.pending := rfl
@[simp] theorem State.putSess_rd (s : State) (k : Nat) (x : Sess) (q0 o0 : Nat) : (State.putSess s k x).rd q0 o0 = s.rd q0 o0 := rfl
@[simp] theorem State.putSess_fld (s : State) (k : Nat) (x : Sess) (q0 : Nat) (f0 : Fld) : (State.putSess s k x).fld q0 f0 = s.fld q0 f0 := rfl
@[simp] theorem State.putSess_win (s : State) (k : Nat) (x : Sess) (q0 : Nat) : (State.putSess s k x).win q0 = s.win q0 := rfl
/-! State.dropOcc -/

@[simp] theorem State.dropOcc_mem (s : State) (o : Occ) : (State.dropOcc s o).mem = s.mem := rfl
@[simp] theorem State.dropOcc_blank (s : State) (o : Occ) : (State.dropOcc s o).blank = s.blank := rfl
@[simp] theorem State.dropOcc_badLine (s : State) (o : Occ) : (State.dropOcc s o).badLine = s.badLine := rfl
@[simp] theorem State.dropOcc_regs (s : State) (o : Occ) : (State.dropOcc s o).regs = s.regs := rfl
@[simp] theorem State.dropOcc_shadow (s : State) (o : Occ) : (State.dropOcc s o).shadow = s.shadow := rfl
@[simp] theorem State.dropOcc_wroDone (s : State) (o : Occ) : (State.dropOcc s o).wroDone = s.wroDone := rfl
@[simp] theorem State.dropOcc_window (s : State) (o : Occ) : (State.dropOcc s o).window = s.window := rfl
@[simp] theorem State.dropOcc_out (s : State) (o : Occ) : (State.dropOcc s o).out = s.out := rfl
@[simp] theorem State.dropOcc_raw (s : State) (o : Occ) : (State.dropOcc s o).raw = s.raw := rfl
@[simp] theorem State.dropOcc_free (s : State) (o : Occ) : (State.dropOcc s o).free = s.free := rfl
@[simp] theorem State.dropOcc_fuse (s : State) (o : Occ) : (State.dropOcc s o).fuse = s.fuse := rfl
@[simp] theorem State.dropOcc_trained (s : State) (o : Occ) : (State.dropOcc s o).trained = s.trained := rfl
@[simp] theorem State.dropOcc_bootWait (s : State) (o : Occ) : (State.dropOcc s o).bootWait = s.bootWait := rfl
@[simp] theorem State.dropOcc_tb (s : State) (o : Occ) : (State.dropOcc s o).tb = s.tb := rfl
@[simp] theorem State.dropOcc_crl (s : State) (o : Occ) : (State.dropOcc s o).crl = s.crl := rfl
@[simp] theorem State.dropOcc_evio (s : State) (o : Occ) : (State.dropOcc s o).evio = s.evio := rfl
@[simp] theorem State.dropOcc_raised (s : State) (o : Occ) : (State.dropOcc s o).raised = s.raised := rfl
@[simp] theorem State.dropOcc_chan (s : State) (o : Occ) : (State.dropOcc s o).chan = s.chan := rfl
@[simp] theorem State.dropOcc_tg (s : State) (o : Occ) : (State.dropOcc s o).tg = s.tg := rfl
@[simp] theorem State.dropOcc_view (s : State) (o : Occ) : (State.dropOcc s o).view = s.view := rfl
@[simp] theorem State.dropOcc_link (s : State) (o : Occ) : (State.dropOcc s o).link = s.link := rfl
@[simp] theorem State.dropOcc_train (s : State) (o : Occ) : (State.dropOcc s o).train = s.train := rfl
@[simp] theorem State.dropOcc_joker (s : State) (o : Occ) : (State.dropOcc s o).joker = s.joker := rfl
@[simp] theorem State.dropOcc_roWritten (s : State) (o : Occ) : (State.dropOcc s o).roWritten = s.roWritten := rfl
@[simp] theorem State.dropOcc_jobA (s : State) (o : Occ) : (State.dropOcc s o).jobA = s.jobA := rfl
@[simp] theorem State.dropOcc_jobN (s : State) (o : Occ) : (State.dropOcc s o).jobN = s.jobN := rfl
@[simp] theorem State.dropOcc_valJob (s : State) (o : Occ) : (State.dropOcc s o).valJob = s.valJob := rfl
@[simp] theorem State.dropOcc_jobVals (s : State) (o : Occ) : (State.dropOcc s o).jobVals = s.jobVals := rfl
@[simp] theorem State.dropOcc_intake (s : State) (o : Occ) : (State.dropOcc s o).intake = s.intake := rfl
@[simp] theorem State.dropOcc_pipe (s : State) (o : Occ) : (State.dropOcc s o).pipe = s.pipe := rfl
@[simp] theorem State.dropOcc_tapBuf (s : State) (o : Occ) : (State.dropOcc s o).tapBuf = s.tapBuf := rfl
@[simp] theorem State.dropOcc_corr (s : State) (o : Occ) : (State.dropOcc s o).corr = s.corr := rfl
@[simp] theorem State.dropOcc_stitch_ (s : State) (o : Occ) : (State.dropOcc s o).stitch_ = s.stitch_ := rfl
@[simp] theorem State.dropOcc_dot (s : State) (o : Occ) : (State.dropOcc s o).dot = s.dot := rfl
@[simp] theorem State.dropOcc_winRes (s : State) (o : Occ) : (State.dropOcc s o).winRes = s.winRes := rfl
@[simp] theorem State.dropOcc_mst (s : State) (o : Occ) : (State.dropOcc s o).mst = s.mst := rfl
@[simp] theorem State.dropOcc_predict (s : State) (o : Occ) : (State.dropOcc s o).predict = s.predict := rfl
@[simp] theorem State.dropOcc_eng (s : State) (o : Occ) : (State.dropOcc s o).eng = s.eng := rfl
@[simp] theorem State.dropOcc_resA (s : State) (o : Occ) : (State.dropOcc s o).resA = s.resA := rfl
@[simp] theorem State.dropOcc_resN (s : State) (o : Occ) : (State.dropOcc s o).resN = s.resN := rfl
@[simp] theorem State.dropOcc_acts (s : State) (o : Occ) : (State.dropOcc s o).acts = s.acts := rfl
@[simp] theorem State.dropOcc_hits (s : State) (o : Occ) : (State.dropOcc s o).hits = s.hits := rfl
@[simp] theorem State.dropOcc_net (s : State) (o : Occ) : (State.dropOcc s o).net = s.net := rfl
@[simp] theorem State.dropOcc_stream (s : State) (o : Occ) : (State.dropOcc s o).stream = s.stream := rfl
@[simp] theorem State.dropOcc_dec (s : State) (o : Occ) : (State.dropOcc s o).dec = s.dec := rfl
@[simp] theorem State.dropOcc_queue (s : State) (o : Occ) : (State.dropOcc s o).queue = s.queue := rfl
@[simp] theorem State.dropOcc_levels (s : State) (o : Occ) : (State.dropOcc s o).levels = s.levels := rfl
@[simp] theorem State.dropOcc_arb (s : State) (o : Occ) : (State.dropOcc s o).arb = s.arb := rfl
@[simp] theorem State.dropOcc_qshadow (s : State) (o : Occ) : (State.dropOcc s o).qshadow = s.qshadow := rfl
@[simp] theorem State.dropOcc_hqLo (s : State) (o : Occ) : (State.dropOcc s o).hqLo = s.hqLo := rfl
@[simp] theorem State.dropOcc_dma (s : State) (o : Occ) : (State.dropOcc s o).dma = s.dma := rfl
@[simp] theorem State.dropOcc_zip (s : State) (o : Occ) : (State.dropOcc s o).zip = s.zip := rfl
@[simp] theorem State.dropOcc_twl (s : State) (o : Occ) : (State.dropOcc s o).twl = s.twl := rfl
@[simp] theorem State.dropOcc_fifo (s : State) (o : Occ) : (State.dropOcc s o).fifo = s.fifo := rfl
@[simp] theorem State.dropOcc_mc (s : State) (o : Occ) : (State.dropOcc s o).mc = s.mc := rfl
@[simp] theorem State.dropOcc_mcg (s : State) (o : Occ) : (State.dropOcc s o).mcg = s.mcg := rfl
@[simp] theorem State.dropOcc_hlth (s : State) (o : Occ) : (State.dropOcc s o).hlth = s.hlth := rfl
@[simp] theorem State.dropOcc_log (s : State) (o : Occ) : (State.dropOcc s o).log = s.log := rfl
@[simp] theorem State.dropOcc_logLatch (s : State) (o : Occ) : (State.dropOcc s o).logLatch = s.logLatch := rfl
@[simp] theorem State.dropOcc_commits (s : State) (o : Occ) : (State.dropOcc s o).commits = s.commits := rfl
@[simp] theorem State.dropOcc_cmtRec (s : State) (o : Occ) : (State.dropOcc s o).cmtRec = s.cmtRec := rfl
@[simp] theorem State.dropOcc_entered (s : State) (o : Occ) : (State.dropOcc s o).entered = s.entered := rfl
@[simp] theorem State.dropOcc_lockAt (s : State) (o : Occ) : (State.dropOcc s o).lockAt = s.lockAt := rfl
@[simp] theorem State.dropOcc_lockKey (s : State) (o : Occ) : (State.dropOcc s o).lockKey = s.lockKey := rfl
@[simp] theorem State.dropOcc_revoking (s : State) (o : Occ) : (State.dropOcc s o).revoking = s.revoking := rfl
@[simp] theorem State.dropOcc_dead (s : State) (o : Occ) : (State.dropOcc s o).dead = s.dead := rfl
@[simp] theorem State.dropOcc_pending (s : State) (o : Occ) : (State.dropOcc s o).pending = s.pending := rfl
@[simp] theorem State.dropOcc_rd (s : State) (o : Occ) (q0 o0 : Nat) : (State.dropOcc s o).rd q0 o0 = s.rd q0 o0 := rfl
@[simp] theorem State.dropOcc_fld (s : State) (o : Occ) (q0 : Nat) (f0 : Fld) : (State.dropOcc s o).fld q0 f0 = s.fld q0 f0 := rfl
@[simp] theorem State.dropOcc_win (s : State) (o : Occ) (q0 : Nat) : (State.dropOcc s o).win q0 = s.win q0 := rfl
/-! State.setFld -/

@[simp] theorem State.setFld_mem (s : State) (p : Nat) (f : Fld) (v : Nat) : (State.setFld s p f v).mem = s.mem := rfl
@[simp] theorem State.setFld_blank (s : State) (p : Nat) (f : Fld) (v : Nat) : (State.setFld s p f v).blank = s.blank := rfl
@[simp] theorem State.setFld_badLine (s : State) (p : Nat) (f : Fld) (v : Nat) : (State.setFld s p f v).badLine = s.badLine := rfl
@[simp] theorem State.setFld_shadow (s : State) (p : Nat) (f : Fld) (v : Nat) : (State.setFld s p f v).shadow = s.shadow := rfl
@[simp] theorem State.setFld_wroDone (s : State) (p : Nat) (f : Fld) (v : Nat) : (State.setFld s p f v).wroDone = s.wroDone := rfl
@[simp] theorem State.setFld_window (s : State) (p : Nat) (f : Fld) (v : Nat) : (State.setFld s p f v).window = s.window := rfl
@[simp] theorem State.setFld_out (s : State) (p : Nat) (f : Fld) (v : Nat) : (State.setFld s p f v).out = s.out := rfl
@[simp] theorem State.setFld_raw (s : State) (p : Nat) (f : Fld) (v : Nat) : (State.setFld s p f v).raw = s.raw := rfl
@[simp] theorem State.setFld_free (s : State) (p : Nat) (f : Fld) (v : Nat) : (State.setFld s p f v).free = s.free := rfl
@[simp] theorem State.setFld_fuse (s : State) (p : Nat) (f : Fld) (v : Nat) : (State.setFld s p f v).fuse = s.fuse := rfl
@[simp] theorem State.setFld_trained (s : State) (p : Nat) (f : Fld) (v : Nat) : (State.setFld s p f v).trained = s.trained := rfl
@[simp] theorem State.setFld_bootWait (s : State) (p : Nat) (f : Fld) (v : Nat) : (State.setFld s p f v).bootWait = s.bootWait := rfl
@[simp] theorem State.setFld_tb (s : State) (p : Nat) (f : Fld) (v : Nat) : (State.setFld s p f v).tb = s.tb := rfl
@[simp] theorem State.setFld_crl (s : State) (p : Nat) (f : Fld) (v : Nat) : (State.setFld s p f v).crl = s.crl := rfl
@[simp] theorem State.setFld_evio (s : State) (p : Nat) (f : Fld) (v : Nat) : (State.setFld s p f v).evio = s.evio := rfl
@[simp] theorem State.setFld_evf (s : State) (p : Nat) (f : Fld) (v : Nat) : (State.setFld s p f v).evf = s.evf := rfl
@[simp] theorem State.setFld_raised (s : State) (p : Nat) (f : Fld) (v : Nat) : (State.setFld s p f v).raised = s.raised := rfl
@[simp] theorem State.setFld_chan (s : State) (p : Nat) (f : Fld) (v : Nat) : (State.setFld s p f v).chan = s.chan := rfl
@[simp] theorem State.setFld_tg (s : State) (p : Nat) (f : Fld) (v : Nat) : (State.setFld s p f v).tg = s.tg := rfl
@[simp] theorem State.setFld_view (s : State) (p : Nat) (f : Fld) (v : Nat) : (State.setFld s p f v).view = s.view := rfl
@[simp] theorem State.setFld_link (s : State) (p : Nat) (f : Fld) (v : Nat) : (State.setFld s p f v).link = s.link := rfl
@[simp] theorem State.setFld_train (s : State) (p : Nat) (f : Fld) (v : Nat) : (State.setFld s p f v).train = s.train := rfl
@[simp] theorem State.setFld_joker (s : State) (p : Nat) (f : Fld) (v : Nat) : (State.setFld s p f v).joker = s.joker := rfl
@[simp] theorem State.setFld_roWritten (s : State) (p : Nat) (f : Fld) (v : Nat) : (State.setFld s p f v).roWritten = s.roWritten := rfl
@[simp] theorem State.setFld_jobA (s : State) (p : Nat) (f : Fld) (v : Nat) : (State.setFld s p f v).jobA = s.jobA := rfl
@[simp] theorem State.setFld_jobN (s : State) (p : Nat) (f : Fld) (v : Nat) : (State.setFld s p f v).jobN = s.jobN := rfl
@[simp] theorem State.setFld_valJob (s : State) (p : Nat) (f : Fld) (v : Nat) : (State.setFld s p f v).valJob = s.valJob := rfl
@[simp] theorem State.setFld_jobVals (s : State) (p : Nat) (f : Fld) (v : Nat) : (State.setFld s p f v).jobVals = s.jobVals := rfl
@[simp] theorem State.setFld_intake (s : State) (p : Nat) (f : Fld) (v : Nat) : (State.setFld s p f v).intake = s.intake := rfl
@[simp] theorem State.setFld_pipe (s : State) (p : Nat) (f : Fld) (v : Nat) : (State.setFld s p f v).pipe = s.pipe := rfl
@[simp] theorem State.setFld_tapBuf (s : State) (p : Nat) (f : Fld) (v : Nat) : (State.setFld s p f v).tapBuf = s.tapBuf := rfl
@[simp] theorem State.setFld_corr (s : State) (p : Nat) (f : Fld) (v : Nat) : (State.setFld s p f v).corr = s.corr := rfl
@[simp] theorem State.setFld_stitch_ (s : State) (p : Nat) (f : Fld) (v : Nat) : (State.setFld s p f v).stitch_ = s.stitch_ := rfl
@[simp] theorem State.setFld_dot (s : State) (p : Nat) (f : Fld) (v : Nat) : (State.setFld s p f v).dot = s.dot := rfl
@[simp] theorem State.setFld_winRes (s : State) (p : Nat) (f : Fld) (v : Nat) : (State.setFld s p f v).winRes = s.winRes := rfl
@[simp] theorem State.setFld_mst (s : State) (p : Nat) (f : Fld) (v : Nat) : (State.setFld s p f v).mst = s.mst := rfl
@[simp] theorem State.setFld_predict (s : State) (p : Nat) (f : Fld) (v : Nat) : (State.setFld s p f v).predict = s.predict := rfl
@[simp] theorem State.setFld_eng (s : State) (p : Nat) (f : Fld) (v : Nat) : (State.setFld s p f v).eng = s.eng := rfl
@[simp] theorem State.setFld_resA (s : State) (p : Nat) (f : Fld) (v : Nat) : (State.setFld s p f v).resA = s.resA := rfl
@[simp] theorem State.setFld_resN (s : State) (p : Nat) (f : Fld) (v : Nat) : (State.setFld s p f v).resN = s.resN := rfl
@[simp] theorem State.setFld_acts (s : State) (p : Nat) (f : Fld) (v : Nat) : (State.setFld s p f v).acts = s.acts := rfl
@[simp] theorem State.setFld_hits (s : State) (p : Nat) (f : Fld) (v : Nat) : (State.setFld s p f v).hits = s.hits := rfl
@[simp] theorem State.setFld_net (s : State) (p : Nat) (f : Fld) (v : Nat) : (State.setFld s p f v).net = s.net := rfl
@[simp] theorem State.setFld_stream (s : State) (p : Nat) (f : Fld) (v : Nat) : (State.setFld s p f v).stream = s.stream := rfl
@[simp] theorem State.setFld_dec (s : State) (p : Nat) (f : Fld) (v : Nat) : (State.setFld s p f v).dec = s.dec := rfl
@[simp] theorem State.setFld_queue (s : State) (p : Nat) (f : Fld) (v : Nat) : (State.setFld s p f v).queue = s.queue := rfl
@[simp] theorem State.setFld_levels (s : State) (p : Nat) (f : Fld) (v : Nat) : (State.setFld s p f v).levels = s.levels := rfl
@[simp] theorem State.setFld_arb (s : State) (p : Nat) (f : Fld) (v : Nat) : (State.setFld s p f v).arb = s.arb := rfl
@[simp] theorem State.setFld_qshadow (s : State) (p : Nat) (f : Fld) (v : Nat) : (State.setFld s p f v).qshadow = s.qshadow := rfl
@[simp] theorem State.setFld_hqLo (s : State) (p : Nat) (f : Fld) (v : Nat) : (State.setFld s p f v).hqLo = s.hqLo := rfl
@[simp] theorem State.setFld_dma (s : State) (p : Nat) (f : Fld) (v : Nat) : (State.setFld s p f v).dma = s.dma := rfl
@[simp] theorem State.setFld_zip (s : State) (p : Nat) (f : Fld) (v : Nat) : (State.setFld s p f v).zip = s.zip := rfl
@[simp] theorem State.setFld_twl (s : State) (p : Nat) (f : Fld) (v : Nat) : (State.setFld s p f v).twl = s.twl := rfl
@[simp] theorem State.setFld_fifo (s : State) (p : Nat) (f : Fld) (v : Nat) : (State.setFld s p f v).fifo = s.fifo := rfl
@[simp] theorem State.setFld_mc (s : State) (p : Nat) (f : Fld) (v : Nat) : (State.setFld s p f v).mc = s.mc := rfl
@[simp] theorem State.setFld_mcg (s : State) (p : Nat) (f : Fld) (v : Nat) : (State.setFld s p f v).mcg = s.mcg := rfl
@[simp] theorem State.setFld_hlth (s : State) (p : Nat) (f : Fld) (v : Nat) : (State.setFld s p f v).hlth = s.hlth := rfl
@[simp] theorem State.setFld_log (s : State) (p : Nat) (f : Fld) (v : Nat) : (State.setFld s p f v).log = s.log := rfl
@[simp] theorem State.setFld_logLatch (s : State) (p : Nat) (f : Fld) (v : Nat) : (State.setFld s p f v).logLatch = s.logLatch := rfl
@[simp] theorem State.setFld_commits (s : State) (p : Nat) (f : Fld) (v : Nat) : (State.setFld s p f v).commits = s.commits := rfl
@[simp] theorem State.setFld_cmtRec (s : State) (p : Nat) (f : Fld) (v : Nat) : (State.setFld s p f v).cmtRec = s.cmtRec := rfl
@[simp] theorem State.setFld_entered (s : State) (p : Nat) (f : Fld) (v : Nat) : (State.setFld s p f v).entered = s.entered := rfl
@[simp] theorem State.setFld_lockAt (s : State) (p : Nat) (f : Fld) (v : Nat) : (State.setFld s p f v).lockAt = s.lockAt := rfl
@[simp] theorem State.setFld_lockKey (s : State) (p : Nat) (f : Fld) (v : Nat) : (State.setFld s p f v).lockKey = s.lockKey := rfl
@[simp] theorem State.setFld_revoking (s : State) (p : Nat) (f : Fld) (v : Nat) : (State.setFld s p f v).revoking = s.revoking := rfl
@[simp] theorem State.setFld_dead (s : State) (p : Nat) (f : Fld) (v : Nat) : (State.setFld s p f v).dead = s.dead := rfl
@[simp] theorem State.setFld_pending (s : State) (p : Nat) (f : Fld) (v : Nat) : (State.setFld s p f v).pending = s.pending := rfl
@[simp] theorem State.setFld_win (s : State) (p : Nat) (f : Fld) (v : Nat) (q0 : Nat) : (State.setFld s p f v).win q0 = s.win q0 := rfl
/-! State.setBit -/

@[simp] theorem State.setBit_mem (s : State) (p : Nat) (f : Fld) (b : Bool) : (State.setBit s p f b).mem = s.mem := rfl
@[simp] theorem State.setBit_blank (s : State) (p : Nat) (f : Fld) (b : Bool) : (State.setBit s p f b).blank = s.blank := rfl
@[simp] theorem State.setBit_badLine (s : State) (p : Nat) (f : Fld) (b : Bool) : (State.setBit s p f b).badLine = s.badLine := rfl
@[simp] theorem State.setBit_shadow (s : State) (p : Nat) (f : Fld) (b : Bool) : (State.setBit s p f b).shadow = s.shadow := rfl
@[simp] theorem State.setBit_wroDone (s : State) (p : Nat) (f : Fld) (b : Bool) : (State.setBit s p f b).wroDone = s.wroDone := rfl
@[simp] theorem State.setBit_window (s : State) (p : Nat) (f : Fld) (b : Bool) : (State.setBit s p f b).window = s.window := rfl
@[simp] theorem State.setBit_out (s : State) (p : Nat) (f : Fld) (b : Bool) : (State.setBit s p f b).out = s.out := rfl
@[simp] theorem State.setBit_raw (s : State) (p : Nat) (f : Fld) (b : Bool) : (State.setBit s p f b).raw = s.raw := rfl
@[simp] theorem State.setBit_free (s : State) (p : Nat) (f : Fld) (b : Bool) : (State.setBit s p f b).free = s.free := rfl
@[simp] theorem State.setBit_fuse (s : State) (p : Nat) (f : Fld) (b : Bool) : (State.setBit s p f b).fuse = s.fuse := rfl
@[simp] theorem State.setBit_trained (s : State) (p : Nat) (f : Fld) (b : Bool) : (State.setBit s p f b).trained = s.trained := rfl
@[simp] theorem State.setBit_bootWait (s : State) (p : Nat) (f : Fld) (b : Bool) : (State.setBit s p f b).bootWait = s.bootWait := rfl
@[simp] theorem State.setBit_tb (s : State) (p : Nat) (f : Fld) (b : Bool) : (State.setBit s p f b).tb = s.tb := rfl
@[simp] theorem State.setBit_crl (s : State) (p : Nat) (f : Fld) (b : Bool) : (State.setBit s p f b).crl = s.crl := rfl
@[simp] theorem State.setBit_evio (s : State) (p : Nat) (f : Fld) (b : Bool) : (State.setBit s p f b).evio = s.evio := rfl
@[simp] theorem State.setBit_evf (s : State) (p : Nat) (f : Fld) (b : Bool) : (State.setBit s p f b).evf = s.evf := rfl
@[simp] theorem State.setBit_raised (s : State) (p : Nat) (f : Fld) (b : Bool) : (State.setBit s p f b).raised = s.raised := rfl
@[simp] theorem State.setBit_chan (s : State) (p : Nat) (f : Fld) (b : Bool) : (State.setBit s p f b).chan = s.chan := rfl
@[simp] theorem State.setBit_tg (s : State) (p : Nat) (f : Fld) (b : Bool) : (State.setBit s p f b).tg = s.tg := rfl
@[simp] theorem State.setBit_view (s : State) (p : Nat) (f : Fld) (b : Bool) : (State.setBit s p f b).view = s.view := rfl
@[simp] theorem State.setBit_link (s : State) (p : Nat) (f : Fld) (b : Bool) : (State.setBit s p f b).link = s.link := rfl
@[simp] theorem State.setBit_train (s : State) (p : Nat) (f : Fld) (b : Bool) : (State.setBit s p f b).train = s.train := rfl
@[simp] theorem State.setBit_joker (s : State) (p : Nat) (f : Fld) (b : Bool) : (State.setBit s p f b).joker = s.joker := rfl
@[simp] theorem State.setBit_roWritten (s : State) (p : Nat) (f : Fld) (b : Bool) : (State.setBit s p f b).roWritten = s.roWritten := rfl
@[simp] theorem State.setBit_jobA (s : State) (p : Nat) (f : Fld) (b : Bool) : (State.setBit s p f b).jobA = s.jobA := rfl
@[simp] theorem State.setBit_jobN (s : State) (p : Nat) (f : Fld) (b : Bool) : (State.setBit s p f b).jobN = s.jobN := rfl
@[simp] theorem State.setBit_valJob (s : State) (p : Nat) (f : Fld) (b : Bool) : (State.setBit s p f b).valJob = s.valJob := rfl
@[simp] theorem State.setBit_jobVals (s : State) (p : Nat) (f : Fld) (b : Bool) : (State.setBit s p f b).jobVals = s.jobVals := rfl
@[simp] theorem State.setBit_intake (s : State) (p : Nat) (f : Fld) (b : Bool) : (State.setBit s p f b).intake = s.intake := rfl
@[simp] theorem State.setBit_pipe (s : State) (p : Nat) (f : Fld) (b : Bool) : (State.setBit s p f b).pipe = s.pipe := rfl
@[simp] theorem State.setBit_tapBuf (s : State) (p : Nat) (f : Fld) (b : Bool) : (State.setBit s p f b).tapBuf = s.tapBuf := rfl
@[simp] theorem State.setBit_corr (s : State) (p : Nat) (f : Fld) (b : Bool) : (State.setBit s p f b).corr = s.corr := rfl
@[simp] theorem State.setBit_stitch_ (s : State) (p : Nat) (f : Fld) (b : Bool) : (State.setBit s p f b).stitch_ = s.stitch_ := rfl
@[simp] theorem State.setBit_dot (s : State) (p : Nat) (f : Fld) (b : Bool) : (State.setBit s p f b).dot = s.dot := rfl
@[simp] theorem State.setBit_winRes (s : State) (p : Nat) (f : Fld) (b : Bool) : (State.setBit s p f b).winRes = s.winRes := rfl
@[simp] theorem State.setBit_mst (s : State) (p : Nat) (f : Fld) (b : Bool) : (State.setBit s p f b).mst = s.mst := rfl
@[simp] theorem State.setBit_predict (s : State) (p : Nat) (f : Fld) (b : Bool) : (State.setBit s p f b).predict = s.predict := rfl
@[simp] theorem State.setBit_eng (s : State) (p : Nat) (f : Fld) (b : Bool) : (State.setBit s p f b).eng = s.eng := rfl
@[simp] theorem State.setBit_resA (s : State) (p : Nat) (f : Fld) (b : Bool) : (State.setBit s p f b).resA = s.resA := rfl
@[simp] theorem State.setBit_resN (s : State) (p : Nat) (f : Fld) (b : Bool) : (State.setBit s p f b).resN = s.resN := rfl
@[simp] theorem State.setBit_acts (s : State) (p : Nat) (f : Fld) (b : Bool) : (State.setBit s p f b).acts = s.acts := rfl
@[simp] theorem State.setBit_hits (s : State) (p : Nat) (f : Fld) (b : Bool) : (State.setBit s p f b).hits = s.hits := rfl
@[simp] theorem State.setBit_net (s : State) (p : Nat) (f : Fld) (b : Bool) : (State.setBit s p f b).net = s.net := rfl
@[simp] theorem State.setBit_stream (s : State) (p : Nat) (f : Fld) (b : Bool) : (State.setBit s p f b).stream = s.stream := rfl
@[simp] theorem State.setBit_dec (s : State) (p : Nat) (f : Fld) (b : Bool) : (State.setBit s p f b).dec = s.dec := rfl
@[simp] theorem State.setBit_queue (s : State) (p : Nat) (f : Fld) (b : Bool) : (State.setBit s p f b).queue = s.queue := rfl
@[simp] theorem State.setBit_levels (s : State) (p : Nat) (f : Fld) (b : Bool) : (State.setBit s p f b).levels = s.levels := rfl
@[simp] theorem State.setBit_arb (s : State) (p : Nat) (f : Fld) (b : Bool) : (State.setBit s p f b).arb = s.arb := rfl
@[simp] theorem State.setBit_qshadow (s : State) (p : Nat) (f : Fld) (b : Bool) : (State.setBit s p f b).qshadow = s.qshadow := rfl
@[simp] theorem State.setBit_hqLo (s : State) (p : Nat) (f : Fld) (b : Bool) : (State.setBit s p f b).hqLo = s.hqLo := rfl
@[simp] theorem State.setBit_dma (s : State) (p : Nat) (f : Fld) (b : Bool) : (State.setBit s p f b).dma = s.dma := rfl
@[simp] theorem State.setBit_zip (s : State) (p : Nat) (f : Fld) (b : Bool) : (State.setBit s p f b).zip = s.zip := rfl
@[simp] theorem State.setBit_twl (s : State) (p : Nat) (f : Fld) (b : Bool) : (State.setBit s p f b).twl = s.twl := rfl
@[simp] theorem State.setBit_fifo (s : State) (p : Nat) (f : Fld) (b : Bool) : (State.setBit s p f b).fifo = s.fifo := rfl
@[simp] theorem State.setBit_mc (s : State) (p : Nat) (f : Fld) (b : Bool) : (State.setBit s p f b).mc = s.mc := rfl
@[simp] theorem State.setBit_mcg (s : State) (p : Nat) (f : Fld) (b : Bool) : (State.setBit s p f b).mcg = s.mcg := rfl
@[simp] theorem State.setBit_hlth (s : State) (p : Nat) (f : Fld) (b : Bool) : (State.setBit s p f b).hlth = s.hlth := rfl
@[simp] theorem State.setBit_log (s : State) (p : Nat) (f : Fld) (b : Bool) : (State.setBit s p f b).log = s.log := rfl
@[simp] theorem State.setBit_logLatch (s : State) (p : Nat) (f : Fld) (b : Bool) : (State.setBit s p f b).logLatch = s.logLatch := rfl
@[simp] theorem State.setBit_commits (s : State) (p : Nat) (f : Fld) (b : Bool) : (State.setBit s p f b).commits = s.commits := rfl
@[simp] theorem State.setBit_cmtRec (s : State) (p : Nat) (f : Fld) (b : Bool) : (State.setBit s p f b).cmtRec = s.cmtRec := rfl
@[simp] theorem State.setBit_entered (s : State) (p : Nat) (f : Fld) (b : Bool) : (State.setBit s p f b).entered = s.entered := rfl
@[simp] theorem State.setBit_lockAt (s : State) (p : Nat) (f : Fld) (b : Bool) : (State.setBit s p f b).lockAt = s.lockAt := rfl
@[simp] theorem State.setBit_lockKey (s : State) (p : Nat) (f : Fld) (b : Bool) : (State.setBit s p f b).lockKey = s.lockKey := rfl
@[simp] theorem State.setBit_revoking (s : State) (p : Nat) (f : Fld) (b : Bool) : (State.setBit s p f b).revoking = s.revoking := rfl
@[simp] theorem State.setBit_dead (s : State) (p : Nat) (f : Fld) (b : Bool) : (State.setBit s p f b).dead = s.dead := rfl
@[simp] theorem State.setBit_pending (s : State) (p : Nat) (f : Fld) (b : Bool) : (State.setBit s p f b).pending = s.pending := rfl
@[simp] theorem State.setBit_win (s : State) (p : Nat) (f : Fld) (b : Bool) (q0 : Nat) : (State.setBit s p f b).win q0 = s.win q0 := rfl
/-! State.bumpBy -/

@[simp] theorem State.bumpBy_mem (s : State) (p : Nat) (f : Fld) (n : Nat) : (State.bumpBy s p f n).mem = s.mem := rfl
@[simp] theorem State.bumpBy_blank (s : State) (p : Nat) (f : Fld) (n : Nat) : (State.bumpBy s p f n).blank = s.blank := rfl
@[simp] theorem State.bumpBy_badLine (s : State) (p : Nat) (f : Fld) (n : Nat) : (State.bumpBy s p f n).badLine = s.badLine := rfl
@[simp] theorem State.bumpBy_shadow (s : State) (p : Nat) (f : Fld) (n : Nat) : (State.bumpBy s p f n).shadow = s.shadow := rfl
@[simp] theorem State.bumpBy_wroDone (s : State) (p : Nat) (f : Fld) (n : Nat) : (State.bumpBy s p f n).wroDone = s.wroDone := rfl
@[simp] theorem State.bumpBy_window (s : State) (p : Nat) (f : Fld) (n : Nat) : (State.bumpBy s p f n).window = s.window := rfl
@[simp] theorem State.bumpBy_out (s : State) (p : Nat) (f : Fld) (n : Nat) : (State.bumpBy s p f n).out = s.out := rfl
@[simp] theorem State.bumpBy_raw (s : State) (p : Nat) (f : Fld) (n : Nat) : (State.bumpBy s p f n).raw = s.raw := rfl
@[simp] theorem State.bumpBy_free (s : State) (p : Nat) (f : Fld) (n : Nat) : (State.bumpBy s p f n).free = s.free := rfl
@[simp] theorem State.bumpBy_fuse (s : State) (p : Nat) (f : Fld) (n : Nat) : (State.bumpBy s p f n).fuse = s.fuse := rfl
@[simp] theorem State.bumpBy_trained (s : State) (p : Nat) (f : Fld) (n : Nat) : (State.bumpBy s p f n).trained = s.trained := rfl
@[simp] theorem State.bumpBy_bootWait (s : State) (p : Nat) (f : Fld) (n : Nat) : (State.bumpBy s p f n).bootWait = s.bootWait := rfl
@[simp] theorem State.bumpBy_tb (s : State) (p : Nat) (f : Fld) (n : Nat) : (State.bumpBy s p f n).tb = s.tb := rfl
@[simp] theorem State.bumpBy_crl (s : State) (p : Nat) (f : Fld) (n : Nat) : (State.bumpBy s p f n).crl = s.crl := rfl
@[simp] theorem State.bumpBy_evio (s : State) (p : Nat) (f : Fld) (n : Nat) : (State.bumpBy s p f n).evio = s.evio := rfl
@[simp] theorem State.bumpBy_evf (s : State) (p : Nat) (f : Fld) (n : Nat) : (State.bumpBy s p f n).evf = s.evf := rfl
@[simp] theorem State.bumpBy_raised (s : State) (p : Nat) (f : Fld) (n : Nat) : (State.bumpBy s p f n).raised = s.raised := rfl
@[simp] theorem State.bumpBy_chan (s : State) (p : Nat) (f : Fld) (n : Nat) : (State.bumpBy s p f n).chan = s.chan := rfl
@[simp] theorem State.bumpBy_tg (s : State) (p : Nat) (f : Fld) (n : Nat) : (State.bumpBy s p f n).tg = s.tg := rfl
@[simp] theorem State.bumpBy_view (s : State) (p : Nat) (f : Fld) (n : Nat) : (State.bumpBy s p f n).view = s.view := rfl
@[simp] theorem State.bumpBy_link (s : State) (p : Nat) (f : Fld) (n : Nat) : (State.bumpBy s p f n).link = s.link := rfl
@[simp] theorem State.bumpBy_train (s : State) (p : Nat) (f : Fld) (n : Nat) : (State.bumpBy s p f n).train = s.train := rfl
@[simp] theorem State.bumpBy_joker (s : State) (p : Nat) (f : Fld) (n : Nat) : (State.bumpBy s p f n).joker = s.joker := rfl
@[simp] theorem State.bumpBy_roWritten (s : State) (p : Nat) (f : Fld) (n : Nat) : (State.bumpBy s p f n).roWritten = s.roWritten := rfl
@[simp] theorem State.bumpBy_jobA (s : State) (p : Nat) (f : Fld) (n : Nat) : (State.bumpBy s p f n).jobA = s.jobA := rfl
@[simp] theorem State.bumpBy_jobN (s : State) (p : Nat) (f : Fld) (n : Nat) : (State.bumpBy s p f n).jobN = s.jobN := rfl
@[simp] theorem State.bumpBy_valJob (s : State) (p : Nat) (f : Fld) (n : Nat) : (State.bumpBy s p f n).valJob = s.valJob := rfl
@[simp] theorem State.bumpBy_jobVals (s : State) (p : Nat) (f : Fld) (n : Nat) : (State.bumpBy s p f n).jobVals = s.jobVals := rfl
@[simp] theorem State.bumpBy_intake (s : State) (p : Nat) (f : Fld) (n : Nat) : (State.bumpBy s p f n).intake = s.intake := rfl
@[simp] theorem State.bumpBy_pipe (s : State) (p : Nat) (f : Fld) (n : Nat) : (State.bumpBy s p f n).pipe = s.pipe := rfl
@[simp] theorem State.bumpBy_tapBuf (s : State) (p : Nat) (f : Fld) (n : Nat) : (State.bumpBy s p f n).tapBuf = s.tapBuf := rfl
@[simp] theorem State.bumpBy_corr (s : State) (p : Nat) (f : Fld) (n : Nat) : (State.bumpBy s p f n).corr = s.corr := rfl
@[simp] theorem State.bumpBy_stitch_ (s : State) (p : Nat) (f : Fld) (n : Nat) : (State.bumpBy s p f n).stitch_ = s.stitch_ := rfl
@[simp] theorem State.bumpBy_dot (s : State) (p : Nat) (f : Fld) (n : Nat) : (State.bumpBy s p f n).dot = s.dot := rfl
@[simp] theorem State.bumpBy_winRes (s : State) (p : Nat) (f : Fld) (n : Nat) : (State.bumpBy s p f n).winRes = s.winRes := rfl
@[simp] theorem State.bumpBy_mst (s : State) (p : Nat) (f : Fld) (n : Nat) : (State.bumpBy s p f n).mst = s.mst := rfl
@[simp] theorem State.bumpBy_predict (s : State) (p : Nat) (f : Fld) (n : Nat) : (State.bumpBy s p f n).predict = s.predict := rfl
@[simp] theorem State.bumpBy_eng (s : State) (p : Nat) (f : Fld) (n : Nat) : (State.bumpBy s p f n).eng = s.eng := rfl
@[simp] theorem State.bumpBy_resA (s : State) (p : Nat) (f : Fld) (n : Nat) : (State.bumpBy s p f n).resA = s.resA := rfl
@[simp] theorem State.bumpBy_resN (s : State) (p : Nat) (f : Fld) (n : Nat) : (State.bumpBy s p f n).resN = s.resN := rfl
@[simp] theorem State.bumpBy_acts (s : State) (p : Nat) (f : Fld) (n : Nat) : (State.bumpBy s p f n).acts = s.acts := rfl
@[simp] theorem State.bumpBy_hits (s : State) (p : Nat) (f : Fld) (n : Nat) : (State.bumpBy s p f n).hits = s.hits := rfl
@[simp] theorem State.bumpBy_net (s : State) (p : Nat) (f : Fld) (n : Nat) : (State.bumpBy s p f n).net = s.net := rfl
@[simp] theorem State.bumpBy_stream (s : State) (p : Nat) (f : Fld) (n : Nat) : (State.bumpBy s p f n).stream = s.stream := rfl
@[simp] theorem State.bumpBy_dec (s : State) (p : Nat) (f : Fld) (n : Nat) : (State.bumpBy s p f n).dec = s.dec := rfl
@[simp] theorem State.bumpBy_queue (s : State) (p : Nat) (f : Fld) (n : Nat) : (State.bumpBy s p f n).queue = s.queue := rfl
@[simp] theorem State.bumpBy_levels (s : State) (p : Nat) (f : Fld) (n : Nat) : (State.bumpBy s p f n).levels = s.levels := rfl
@[simp] theorem State.bumpBy_arb (s : State) (p : Nat) (f : Fld) (n : Nat) : (State.bumpBy s p f n).arb = s.arb := rfl
@[simp] theorem State.bumpBy_qshadow (s : State) (p : Nat) (f : Fld) (n : Nat) : (State.bumpBy s p f n).qshadow = s.qshadow := rfl
@[simp] theorem State.bumpBy_hqLo (s : State) (p : Nat) (f : Fld) (n : Nat) : (State.bumpBy s p f n).hqLo = s.hqLo := rfl
@[simp] theorem State.bumpBy_dma (s : State) (p : Nat) (f : Fld) (n : Nat) : (State.bumpBy s p f n).dma = s.dma := rfl
@[simp] theorem State.bumpBy_zip (s : State) (p : Nat) (f : Fld) (n : Nat) : (State.bumpBy s p f n).zip = s.zip := rfl
@[simp] theorem State.bumpBy_twl (s : State) (p : Nat) (f : Fld) (n : Nat) : (State.bumpBy s p f n).twl = s.twl := rfl
@[simp] theorem State.bumpBy_fifo (s : State) (p : Nat) (f : Fld) (n : Nat) : (State.bumpBy s p f n).fifo = s.fifo := rfl
@[simp] theorem State.bumpBy_mc (s : State) (p : Nat) (f : Fld) (n : Nat) : (State.bumpBy s p f n).mc = s.mc := rfl
@[simp] theorem State.bumpBy_mcg (s : State) (p : Nat) (f : Fld) (n : Nat) : (State.bumpBy s p f n).mcg = s.mcg := rfl
@[simp] theorem State.bumpBy_hlth (s : State) (p : Nat) (f : Fld) (n : Nat) : (State.bumpBy s p f n).hlth = s.hlth := rfl
@[simp] theorem State.bumpBy_log (s : State) (p : Nat) (f : Fld) (n : Nat) : (State.bumpBy s p f n).log = s.log := rfl
@[simp] theorem State.bumpBy_logLatch (s : State) (p : Nat) (f : Fld) (n : Nat) : (State.bumpBy s p f n).logLatch = s.logLatch := rfl
@[simp] theorem State.bumpBy_commits (s : State) (p : Nat) (f : Fld) (n : Nat) : (State.bumpBy s p f n).commits = s.commits := rfl
@[simp] theorem State.bumpBy_cmtRec (s : State) (p : Nat) (f : Fld) (n : Nat) : (State.bumpBy s p f n).cmtRec = s.cmtRec := rfl
@[simp] theorem State.bumpBy_entered (s : State) (p : Nat) (f : Fld) (n : Nat) : (State.bumpBy s p f n).entered = s.entered := rfl
@[simp] theorem State.bumpBy_lockAt (s : State) (p : Nat) (f : Fld) (n : Nat) : (State.bumpBy s p f n).lockAt = s.lockAt := rfl
@[simp] theorem State.bumpBy_lockKey (s : State) (p : Nat) (f : Fld) (n : Nat) : (State.bumpBy s p f n).lockKey = s.lockKey := rfl
@[simp] theorem State.bumpBy_revoking (s : State) (p : Nat) (f : Fld) (n : Nat) : (State.bumpBy s p f n).revoking = s.revoking := rfl
@[simp] theorem State.bumpBy_dead (s : State) (p : Nat) (f : Fld) (n : Nat) : (State.bumpBy s p f n).dead = s.dead := rfl
@[simp] theorem State.bumpBy_pending (s : State) (p : Nat) (f : Fld) (n : Nat) : (State.bumpBy s p f n).pending = s.pending := rfl
@[simp] theorem State.bumpBy_win (s : State) (p : Nat) (f : Fld) (n : Nat) (q0 : Nat) : (State.bumpBy s p f n).win q0 = s.win q0 := rfl
/-! State.bump -/

@[simp] theorem State.bump_mem (s : State) (p : Nat) (f : Fld) : (State.bump s p f).mem = s.mem := rfl
@[simp] theorem State.bump_blank (s : State) (p : Nat) (f : Fld) : (State.bump s p f).blank = s.blank := rfl
@[simp] theorem State.bump_badLine (s : State) (p : Nat) (f : Fld) : (State.bump s p f).badLine = s.badLine := rfl
@[simp] theorem State.bump_shadow (s : State) (p : Nat) (f : Fld) : (State.bump s p f).shadow = s.shadow := rfl
@[simp] theorem State.bump_wroDone (s : State) (p : Nat) (f : Fld) : (State.bump s p f).wroDone = s.wroDone := rfl
@[simp] theorem State.bump_window (s : State) (p : Nat) (f : Fld) : (State.bump s p f).window = s.window := rfl
@[simp] theorem State.bump_out (s : State) (p : Nat) (f : Fld) : (State.bump s p f).out = s.out := rfl
@[simp] theorem State.bump_raw (s : State) (p : Nat) (f : Fld) : (State.bump s p f).raw = s.raw := rfl
@[simp] theorem State.bump_free (s : State) (p : Nat) (f : Fld) : (State.bump s p f).free = s.free := rfl
@[simp] theorem State.bump_fuse (s : State) (p : Nat) (f : Fld) : (State.bump s p f).fuse = s.fuse := rfl
@[simp] theorem State.bump_trained (s : State) (p : Nat) (f : Fld) : (State.bump s p f).trained = s.trained := rfl
@[simp] theorem State.bump_bootWait (s : State) (p : Nat) (f : Fld) : (State.bump s p f).bootWait = s.bootWait := rfl
@[simp] theorem State.bump_tb (s : State) (p : Nat) (f : Fld) : (State.bump s p f).tb = s.tb := rfl
@[simp] theorem State.bump_crl (s : State) (p : Nat) (f : Fld) : (State.bump s p f).crl = s.crl := rfl
@[simp] theorem State.bump_evio (s : State) (p : Nat) (f : Fld) : (State.bump s p f).evio = s.evio := rfl
@[simp] theorem State.bump_evf (s : State) (p : Nat) (f : Fld) : (State.bump s p f).evf = s.evf := rfl
@[simp] theorem State.bump_raised (s : State) (p : Nat) (f : Fld) : (State.bump s p f).raised = s.raised := rfl
@[simp] theorem State.bump_chan (s : State) (p : Nat) (f : Fld) : (State.bump s p f).chan = s.chan := rfl
@[simp] theorem State.bump_tg (s : State) (p : Nat) (f : Fld) : (State.bump s p f).tg = s.tg := rfl
@[simp] theorem State.bump_view (s : State) (p : Nat) (f : Fld) : (State.bump s p f).view = s.view := rfl
@[simp] theorem State.bump_link (s : State) (p : Nat) (f : Fld) : (State.bump s p f).link = s.link := rfl
@[simp] theorem State.bump_train (s : State) (p : Nat) (f : Fld) : (State.bump s p f).train = s.train := rfl
@[simp] theorem State.bump_joker (s : State) (p : Nat) (f : Fld) : (State.bump s p f).joker = s.joker := rfl
@[simp] theorem State.bump_roWritten (s : State) (p : Nat) (f : Fld) : (State.bump s p f).roWritten = s.roWritten := rfl
@[simp] theorem State.bump_jobA (s : State) (p : Nat) (f : Fld) : (State.bump s p f).jobA = s.jobA := rfl
@[simp] theorem State.bump_jobN (s : State) (p : Nat) (f : Fld) : (State.bump s p f).jobN = s.jobN := rfl
@[simp] theorem State.bump_valJob (s : State) (p : Nat) (f : Fld) : (State.bump s p f).valJob = s.valJob := rfl
@[simp] theorem State.bump_jobVals (s : State) (p : Nat) (f : Fld) : (State.bump s p f).jobVals = s.jobVals := rfl
@[simp] theorem State.bump_intake (s : State) (p : Nat) (f : Fld) : (State.bump s p f).intake = s.intake := rfl
@[simp] theorem State.bump_pipe (s : State) (p : Nat) (f : Fld) : (State.bump s p f).pipe = s.pipe := rfl
@[simp] theorem State.bump_tapBuf (s : State) (p : Nat) (f : Fld) : (State.bump s p f).tapBuf = s.tapBuf := rfl
@[simp] theorem State.bump_corr (s : State) (p : Nat) (f : Fld) : (State.bump s p f).corr = s.corr := rfl
@[simp] theorem State.bump_stitch_ (s : State) (p : Nat) (f : Fld) : (State.bump s p f).stitch_ = s.stitch_ := rfl
@[simp] theorem State.bump_dot (s : State) (p : Nat) (f : Fld) : (State.bump s p f).dot = s.dot := rfl
@[simp] theorem State.bump_winRes (s : State) (p : Nat) (f : Fld) : (State.bump s p f).winRes = s.winRes := rfl
@[simp] theorem State.bump_mst (s : State) (p : Nat) (f : Fld) : (State.bump s p f).mst = s.mst := rfl
@[simp] theorem State.bump_predict (s : State) (p : Nat) (f : Fld) : (State.bump s p f).predict = s.predict := rfl
@[simp] theorem State.bump_eng (s : State) (p : Nat) (f : Fld) : (State.bump s p f).eng = s.eng := rfl
@[simp] theorem State.bump_resA (s : State) (p : Nat) (f : Fld) : (State.bump s p f).resA = s.resA := rfl
@[simp] theorem State.bump_resN (s : State) (p : Nat) (f : Fld) : (State.bump s p f).resN = s.resN := rfl
@[simp] theorem State.bump_acts (s : State) (p : Nat) (f : Fld) : (State.bump s p f).acts = s.acts := rfl
@[simp] theorem State.bump_hits (s : State) (p : Nat) (f : Fld) : (State.bump s p f).hits = s.hits := rfl
@[simp] theorem State.bump_net (s : State) (p : Nat) (f : Fld) : (State.bump s p f).net = s.net := rfl
@[simp] theorem State.bump_stream (s : State) (p : Nat) (f : Fld) : (State.bump s p f).stream = s.stream := rfl
@[simp] theorem State.bump_dec (s : State) (p : Nat) (f : Fld) : (State.bump s p f).dec = s.dec := rfl
@[simp] theorem State.bump_queue (s : State) (p : Nat) (f : Fld) : (State.bump s p f).queue = s.queue := rfl
@[simp] theorem State.bump_levels (s : State) (p : Nat) (f : Fld) : (State.bump s p f).levels = s.levels := rfl
@[simp] theorem State.bump_arb (s : State) (p : Nat) (f : Fld) : (State.bump s p f).arb = s.arb := rfl
@[simp] theorem State.bump_qshadow (s : State) (p : Nat) (f : Fld) : (State.bump s p f).qshadow = s.qshadow := rfl
@[simp] theorem State.bump_hqLo (s : State) (p : Nat) (f : Fld) : (State.bump s p f).hqLo = s.hqLo := rfl
@[simp] theorem State.bump_dma (s : State) (p : Nat) (f : Fld) : (State.bump s p f).dma = s.dma := rfl
@[simp] theorem State.bump_zip (s : State) (p : Nat) (f : Fld) : (State.bump s p f).zip = s.zip := rfl
@[simp] theorem State.bump_twl (s : State) (p : Nat) (f : Fld) : (State.bump s p f).twl = s.twl := rfl
@[simp] theorem State.bump_fifo (s : State) (p : Nat) (f : Fld) : (State.bump s p f).fifo = s.fifo := rfl
@[simp] theorem State.bump_mc (s : State) (p : Nat) (f : Fld) : (State.bump s p f).mc = s.mc := rfl
@[simp] theorem State.bump_mcg (s : State) (p : Nat) (f : Fld) : (State.bump s p f).mcg = s.mcg := rfl
@[simp] theorem State.bump_hlth (s : State) (p : Nat) (f : Fld) : (State.bump s p f).hlth = s.hlth := rfl
@[simp] theorem State.bump_log (s : State) (p : Nat) (f : Fld) : (State.bump s p f).log = s.log := rfl
@[simp] theorem State.bump_logLatch (s : State) (p : Nat) (f : Fld) : (State.bump s p f).logLatch = s.logLatch := rfl
@[simp] theorem State.bump_commits (s : State) (p : Nat) (f : Fld) : (State.bump s p f).commits = s.commits := rfl
@[simp] theorem State.bump_cmtRec (s : State) (p : Nat) (f : Fld) : (State.bump s p f).cmtRec = s.cmtRec := rfl
@[simp] theorem State.bump_entered (s : State) (p : Nat) (f : Fld) : (State.bump s p f).entered = s.entered := rfl
@[simp] theorem State.bump_lockAt (s : State) (p : Nat) (f : Fld) : (State.bump s p f).lockAt = s.lockAt := rfl
@[simp] theorem State.bump_lockKey (s : State) (p : Nat) (f : Fld) : (State.bump s p f).lockKey = s.lockKey := rfl
@[simp] theorem State.bump_revoking (s : State) (p : Nat) (f : Fld) : (State.bump s p f).revoking = s.revoking := rfl
@[simp] theorem State.bump_dead (s : State) (p : Nat) (f : Fld) : (State.bump s p f).dead = s.dead := rfl
@[simp] theorem State.bump_pending (s : State) (p : Nat) (f : Fld) : (State.bump s p f).pending = s.pending := rfl
@[simp] theorem State.bump_win (s : State) (p : Nat) (f : Fld) (q0 : Nat) : (State.bump s p f).win q0 = s.win q0 := rfl
/-! State.atNs -/

@[simp] theorem State.atNs_mem (s : State) (t : Nat) : (State.atNs s t).mem = s.mem := rfl
@[simp] theorem State.atNs_blank (s : State) (t : Nat) : (State.atNs s t).blank = s.blank := rfl
@[simp] theorem State.atNs_badLine (s : State) (t : Nat) : (State.atNs s t).badLine = s.badLine := rfl
@[simp] theorem State.atNs_regs (s : State) (t : Nat) : (State.atNs s t).regs = s.regs := rfl
@[simp] theorem State.atNs_shadow (s : State) (t : Nat) : (State.atNs s t).shadow = s.shadow := rfl
@[simp] theorem State.atNs_wroDone (s : State) (t : Nat) : (State.atNs s t).wroDone = s.wroDone := rfl
@[simp] theorem State.atNs_window (s : State) (t : Nat) : (State.atNs s t).window = s.window := rfl
@[simp] theorem State.atNs_out (s : State) (t : Nat) : (State.atNs s t).out = s.out := rfl
@[simp] theorem State.atNs_free (s : State) (t : Nat) : (State.atNs s t).free = s.free := rfl
@[simp] theorem State.atNs_fuse (s : State) (t : Nat) : (State.atNs s t).fuse = s.fuse := rfl
@[simp] theorem State.atNs_trained (s : State) (t : Nat) : (State.atNs s t).trained = s.trained := rfl
@[simp] theorem State.atNs_bootWait (s : State) (t : Nat) : (State.atNs s t).bootWait = s.bootWait := rfl
@[simp] theorem State.atNs_tb (s : State) (t : Nat) : (State.atNs s t).tb = s.tb := rfl
@[simp] theorem State.atNs_crl (s : State) (t : Nat) : (State.atNs s t).crl = s.crl := rfl
@[simp] theorem State.atNs_evio (s : State) (t : Nat) : (State.atNs s t).evio = s.evio := rfl
@[simp] theorem State.atNs_evf (s : State) (t : Nat) : (State.atNs s t).evf = s.evf := rfl
@[simp] theorem State.atNs_raised (s : State) (t : Nat) : (State.atNs s t).raised = s.raised := rfl
@[simp] theorem State.atNs_chan (s : State) (t : Nat) : (State.atNs s t).chan = s.chan := rfl
@[simp] theorem State.atNs_tg (s : State) (t : Nat) : (State.atNs s t).tg = s.tg := rfl
@[simp] theorem State.atNs_view (s : State) (t : Nat) : (State.atNs s t).view = s.view := rfl
@[simp] theorem State.atNs_link (s : State) (t : Nat) : (State.atNs s t).link = s.link := rfl
@[simp] theorem State.atNs_train (s : State) (t : Nat) : (State.atNs s t).train = s.train := rfl
@[simp] theorem State.atNs_joker (s : State) (t : Nat) : (State.atNs s t).joker = s.joker := rfl
@[simp] theorem State.atNs_roWritten (s : State) (t : Nat) : (State.atNs s t).roWritten = s.roWritten := rfl
@[simp] theorem State.atNs_jobA (s : State) (t : Nat) : (State.atNs s t).jobA = s.jobA := rfl
@[simp] theorem State.atNs_jobN (s : State) (t : Nat) : (State.atNs s t).jobN = s.jobN := rfl
@[simp] theorem State.atNs_valJob (s : State) (t : Nat) : (State.atNs s t).valJob = s.valJob := rfl
@[simp] theorem State.atNs_jobVals (s : State) (t : Nat) : (State.atNs s t).jobVals = s.jobVals := rfl
@[simp] theorem State.atNs_intake (s : State) (t : Nat) : (State.atNs s t).intake = s.intake := rfl
@[simp] theorem State.atNs_pipe (s : State) (t : Nat) : (State.atNs s t).pipe = s.pipe := rfl
@[simp] theorem State.atNs_tapBuf (s : State) (t : Nat) : (State.atNs s t).tapBuf = s.tapBuf := rfl
@[simp] theorem State.atNs_corr (s : State) (t : Nat) : (State.atNs s t).corr = s.corr := rfl
@[simp] theorem State.atNs_stitch_ (s : State) (t : Nat) : (State.atNs s t).stitch_ = s.stitch_ := rfl
@[simp] theorem State.atNs_dot (s : State) (t : Nat) : (State.atNs s t).dot = s.dot := rfl
@[simp] theorem State.atNs_winRes (s : State) (t : Nat) : (State.atNs s t).winRes = s.winRes := rfl
@[simp] theorem State.atNs_mst (s : State) (t : Nat) : (State.atNs s t).mst = s.mst := rfl
@[simp] theorem State.atNs_predict (s : State) (t : Nat) : (State.atNs s t).predict = s.predict := rfl
@[simp] theorem State.atNs_eng (s : State) (t : Nat) : (State.atNs s t).eng = s.eng := rfl
@[simp] theorem State.atNs_resA (s : State) (t : Nat) : (State.atNs s t).resA = s.resA := rfl
@[simp] theorem State.atNs_resN (s : State) (t : Nat) : (State.atNs s t).resN = s.resN := rfl
@[simp] theorem State.atNs_acts (s : State) (t : Nat) : (State.atNs s t).acts = s.acts := rfl
@[simp] theorem State.atNs_hits (s : State) (t : Nat) : (State.atNs s t).hits = s.hits := rfl
@[simp] theorem State.atNs_net (s : State) (t : Nat) : (State.atNs s t).net = s.net := rfl
@[simp] theorem State.atNs_stream (s : State) (t : Nat) : (State.atNs s t).stream = s.stream := rfl
@[simp] theorem State.atNs_dec (s : State) (t : Nat) : (State.atNs s t).dec = s.dec := rfl
@[simp] theorem State.atNs_queue (s : State) (t : Nat) : (State.atNs s t).queue = s.queue := rfl
@[simp] theorem State.atNs_levels (s : State) (t : Nat) : (State.atNs s t).levels = s.levels := rfl
@[simp] theorem State.atNs_arb (s : State) (t : Nat) : (State.atNs s t).arb = s.arb := rfl
@[simp] theorem State.atNs_qshadow (s : State) (t : Nat) : (State.atNs s t).qshadow = s.qshadow := rfl
@[simp] theorem State.atNs_hqLo (s : State) (t : Nat) : (State.atNs s t).hqLo = s.hqLo := rfl
@[simp] theorem State.atNs_dma (s : State) (t : Nat) : (State.atNs s t).dma = s.dma := rfl
@[simp] theorem State.atNs_zip (s : State) (t : Nat) : (State.atNs s t).zip = s.zip := rfl
@[simp] theorem State.atNs_twl (s : State) (t : Nat) : (State.atNs s t).twl = s.twl := rfl
@[simp] theorem State.atNs_fifo (s : State) (t : Nat) : (State.atNs s t).fifo = s.fifo := rfl
@[simp] theorem State.atNs_mc (s : State) (t : Nat) : (State.atNs s t).mc = s.mc := rfl
@[simp] theorem State.atNs_mcg (s : State) (t : Nat) : (State.atNs s t).mcg = s.mcg := rfl
@[simp] theorem State.atNs_hlth (s : State) (t : Nat) : (State.atNs s t).hlth = s.hlth := rfl
@[simp] theorem State.atNs_log (s : State) (t : Nat) : (State.atNs s t).log = s.log := rfl
@[simp] theorem State.atNs_logLatch (s : State) (t : Nat) : (State.atNs s t).logLatch = s.logLatch := rfl
@[simp] theorem State.atNs_commits (s : State) (t : Nat) : (State.atNs s t).commits = s.commits := rfl
@[simp] theorem State.atNs_cmtRec (s : State) (t : Nat) : (State.atNs s t).cmtRec = s.cmtRec := rfl
@[simp] theorem State.atNs_entered (s : State) (t : Nat) : (State.atNs s t).entered = s.entered := rfl
@[simp] theorem State.atNs_lockAt (s : State) (t : Nat) : (State.atNs s t).lockAt = s.lockAt := rfl
@[simp] theorem State.atNs_lockKey (s : State) (t : Nat) : (State.atNs s t).lockKey = s.lockKey := rfl
@[simp] theorem State.atNs_revoking (s : State) (t : Nat) : (State.atNs s t).revoking = s.revoking := rfl
@[simp] theorem State.atNs_dead (s : State) (t : Nat) : (State.atNs s t).dead = s.dead := rfl
@[simp] theorem State.atNs_pending (s : State) (t : Nat) : (State.atNs s t).pending = s.pending := rfl
@[simp] theorem State.atNs_rd (s : State) (t : Nat) (q0 o0 : Nat) : (State.atNs s t).rd q0 o0 = s.rd q0 o0 := rfl
@[simp] theorem State.atNs_fld (s : State) (t : Nat) (q0 : Nat) (f0 : Fld) : (State.atNs s t).fld q0 f0 = s.fld q0 f0 := rfl
@[simp] theorem State.atNs_win (s : State) (t : Nat) (q0 : Nat) : (State.atNs s t).win q0 = s.win q0 := rfl
/-! State.atCycle -/

@[simp] theorem State.atCycle_mem (s : State) (c : Nat) : (State.atCycle s c).mem = s.mem := rfl
@[simp] theorem State.atCycle_blank (s : State) (c : Nat) : (State.atCycle s c).blank = s.blank := rfl
@[simp] theorem State.atCycle_badLine (s : State) (c : Nat) : (State.atCycle s c).badLine = s.badLine := rfl
@[simp] theorem State.atCycle_regs (s : State) (c : Nat) : (State.atCycle s c).regs = s.regs := rfl
@[simp] theorem State.atCycle_shadow (s : State) (c : Nat) : (State.atCycle s c).shadow = s.shadow := rfl
@[simp] theorem State.atCycle_wroDone (s : State) (c : Nat) : (State.atCycle s c).wroDone = s.wroDone := rfl
@[simp] theorem State.atCycle_window (s : State) (c : Nat) : (State.atCycle s c).window = s.window := rfl
@[simp] theorem State.atCycle_out (s : State) (c : Nat) : (State.atCycle s c).out = s.out := rfl
@[simp] theorem State.atCycle_free (s : State) (c : Nat) : (State.atCycle s c).free = s.free := rfl
@[simp] theorem State.atCycle_fuse (s : State) (c : Nat) : (State.atCycle s c).fuse = s.fuse := rfl
@[simp] theorem State.atCycle_trained (s : State) (c : Nat) : (State.atCycle s c).trained = s.trained := rfl
@[simp] theorem State.atCycle_bootWait (s : State) (c : Nat) : (State.atCycle s c).bootWait = s.bootWait := rfl
@[simp] theorem State.atCycle_tb (s : State) (c : Nat) : (State.atCycle s c).tb = s.tb := rfl
@[simp] theorem State.atCycle_crl (s : State) (c : Nat) : (State.atCycle s c).crl = s.crl := rfl
@[simp] theorem State.atCycle_evio (s : State) (c : Nat) : (State.atCycle s c).evio = s.evio := rfl
@[simp] theorem State.atCycle_evf (s : State) (c : Nat) : (State.atCycle s c).evf = s.evf := rfl
@[simp] theorem State.atCycle_raised (s : State) (c : Nat) : (State.atCycle s c).raised = s.raised := rfl
@[simp] theorem State.atCycle_chan (s : State) (c : Nat) : (State.atCycle s c).chan = s.chan := rfl
@[simp] theorem State.atCycle_tg (s : State) (c : Nat) : (State.atCycle s c).tg = s.tg := rfl
@[simp] theorem State.atCycle_view (s : State) (c : Nat) : (State.atCycle s c).view = s.view := rfl
@[simp] theorem State.atCycle_link (s : State) (c : Nat) : (State.atCycle s c).link = s.link := rfl
@[simp] theorem State.atCycle_train (s : State) (c : Nat) : (State.atCycle s c).train = s.train := rfl
@[simp] theorem State.atCycle_joker (s : State) (c : Nat) : (State.atCycle s c).joker = s.joker := rfl
@[simp] theorem State.atCycle_roWritten (s : State) (c : Nat) : (State.atCycle s c).roWritten = s.roWritten := rfl
@[simp] theorem State.atCycle_jobA (s : State) (c : Nat) : (State.atCycle s c).jobA = s.jobA := rfl
@[simp] theorem State.atCycle_jobN (s : State) (c : Nat) : (State.atCycle s c).jobN = s.jobN := rfl
@[simp] theorem State.atCycle_valJob (s : State) (c : Nat) : (State.atCycle s c).valJob = s.valJob := rfl
@[simp] theorem State.atCycle_jobVals (s : State) (c : Nat) : (State.atCycle s c).jobVals = s.jobVals := rfl
@[simp] theorem State.atCycle_intake (s : State) (c : Nat) : (State.atCycle s c).intake = s.intake := rfl
@[simp] theorem State.atCycle_pipe (s : State) (c : Nat) : (State.atCycle s c).pipe = s.pipe := rfl
@[simp] theorem State.atCycle_tapBuf (s : State) (c : Nat) : (State.atCycle s c).tapBuf = s.tapBuf := rfl
@[simp] theorem State.atCycle_corr (s : State) (c : Nat) : (State.atCycle s c).corr = s.corr := rfl
@[simp] theorem State.atCycle_stitch_ (s : State) (c : Nat) : (State.atCycle s c).stitch_ = s.stitch_ := rfl
@[simp] theorem State.atCycle_dot (s : State) (c : Nat) : (State.atCycle s c).dot = s.dot := rfl
@[simp] theorem State.atCycle_winRes (s : State) (c : Nat) : (State.atCycle s c).winRes = s.winRes := rfl
@[simp] theorem State.atCycle_mst (s : State) (c : Nat) : (State.atCycle s c).mst = s.mst := rfl
@[simp] theorem State.atCycle_predict (s : State) (c : Nat) : (State.atCycle s c).predict = s.predict := rfl
@[simp] theorem State.atCycle_eng (s : State) (c : Nat) : (State.atCycle s c).eng = s.eng := rfl
@[simp] theorem State.atCycle_resA (s : State) (c : Nat) : (State.atCycle s c).resA = s.resA := rfl
@[simp] theorem State.atCycle_resN (s : State) (c : Nat) : (State.atCycle s c).resN = s.resN := rfl
@[simp] theorem State.atCycle_acts (s : State) (c : Nat) : (State.atCycle s c).acts = s.acts := rfl
@[simp] theorem State.atCycle_hits (s : State) (c : Nat) : (State.atCycle s c).hits = s.hits := rfl
@[simp] theorem State.atCycle_net (s : State) (c : Nat) : (State.atCycle s c).net = s.net := rfl
@[simp] theorem State.atCycle_stream (s : State) (c : Nat) : (State.atCycle s c).stream = s.stream := rfl
@[simp] theorem State.atCycle_dec (s : State) (c : Nat) : (State.atCycle s c).dec = s.dec := rfl
@[simp] theorem State.atCycle_queue (s : State) (c : Nat) : (State.atCycle s c).queue = s.queue := rfl
@[simp] theorem State.atCycle_levels (s : State) (c : Nat) : (State.atCycle s c).levels = s.levels := rfl
@[simp] theorem State.atCycle_arb (s : State) (c : Nat) : (State.atCycle s c).arb = s.arb := rfl
@[simp] theorem State.atCycle_qshadow (s : State) (c : Nat) : (State.atCycle s c).qshadow = s.qshadow := rfl
@[simp] theorem State.atCycle_hqLo (s : State) (c : Nat) : (State.atCycle s c).hqLo = s.hqLo := rfl
@[simp] theorem State.atCycle_dma (s : State) (c : Nat) : (State.atCycle s c).dma = s.dma := rfl
@[simp] theorem State.atCycle_zip (s : State) (c : Nat) : (State.atCycle s c).zip = s.zip := rfl
@[simp] theorem State.atCycle_twl (s : State) (c : Nat) : (State.atCycle s c).twl = s.twl := rfl
@[simp] theorem State.atCycle_fifo (s : State) (c : Nat) : (State.atCycle s c).fifo = s.fifo := rfl
@[simp] theorem State.atCycle_mc (s : State) (c : Nat) : (State.atCycle s c).mc = s.mc := rfl
@[simp] theorem State.atCycle_mcg (s : State) (c : Nat) : (State.atCycle s c).mcg = s.mcg := rfl
@[simp] theorem State.atCycle_hlth (s : State) (c : Nat) : (State.atCycle s c).hlth = s.hlth := rfl
@[simp] theorem State.atCycle_log (s : State) (c : Nat) : (State.atCycle s c).log = s.log := rfl
@[simp] theorem State.atCycle_logLatch (s : State) (c : Nat) : (State.atCycle s c).logLatch = s.logLatch := rfl
@[simp] theorem State.atCycle_commits (s : State) (c : Nat) : (State.atCycle s c).commits = s.commits := rfl
@[simp] theorem State.atCycle_cmtRec (s : State) (c : Nat) : (State.atCycle s c).cmtRec = s.cmtRec := rfl
@[simp] theorem State.atCycle_entered (s : State) (c : Nat) : (State.atCycle s c).entered = s.entered := rfl
@[simp] theorem State.atCycle_lockAt (s : State) (c : Nat) : (State.atCycle s c).lockAt = s.lockAt := rfl
@[simp] theorem State.atCycle_lockKey (s : State) (c : Nat) : (State.atCycle s c).lockKey = s.lockKey := rfl
@[simp] theorem State.atCycle_revoking (s : State) (c : Nat) : (State.atCycle s c).revoking = s.revoking := rfl
@[simp] theorem State.atCycle_dead (s : State) (c : Nat) : (State.atCycle s c).dead = s.dead := rfl
@[simp] theorem State.atCycle_pending (s : State) (c : Nat) : (State.atCycle s c).pending = s.pending := rfl
@[simp] theorem State.atCycle_rd (s : State) (c : Nat) (q0 o0 : Nat) : (State.atCycle s c).rd q0 o0 = s.rd q0 o0 := rfl
@[simp] theorem State.atCycle_fld (s : State) (c : Nat) (q0 : Nat) (f0 : Fld) : (State.atCycle s c).fld q0 f0 = s.fld q0 f0 := rfl
@[simp] theorem State.atCycle_win (s : State) (c : Nat) (q0 : Nat) : (State.atCycle s c).win q0 = s.win q0 := rfl
@[simp] theorem State.wr_chanOf (s : State) (p : Nat) (off : Nat) (w : Word) (c0 : Nat) : (State.wr s p off w).chanOf c0 = s.chanOf c0 := rfl
@[simp] theorem State.wr_tgOf (s : State) (p : Nat) (off : Nat) (w : Word) (c0 : Nat) : (State.wr s p off w).tgOf c0 = s.tgOf c0 := rfl
@[simp] theorem State.wr_view_ (s : State) (p : Nat) (off : Nat) (w : Word) (c0 : Nat) : (State.wr s p off w).view_ c0 = s.view_ c0 := rfl
@[simp] theorem State.wr_link_ (s : State) (p : Nat) (off : Nat) (w : Word) (c0 : Nat) : (State.wr s p off w).link_ c0 = s.link_ c0 := rfl
@[simp] theorem State.wr_train_ (s : State) (p : Nat) (off : Nat) (w : Word) (c0 d0 : Nat) : (State.wr s p off w).train_ c0 d0 = s.train_ c0 d0 := rfl
@[simp] theorem State.wr_jk (s : State) (p : Nat) (off : Nat) (w : Word) (c0 : Nat) : (State.wr s p off w).jk c0 = s.jk c0 := rfl
@[simp] theorem State.wr_q (s : State) (p : Nat) (off : Nat) (w : Word) (c0 : Nat) : (State.wr s p off w).q c0 = s.q c0 := rfl
@[simp] theorem State.wr_mcOf (s : State) (p : Nat) (off : Nat) (w : Word) (c0 : Nat) : (State.wr s p off w).mcOf c0 = s.mcOf c0 := rfl
@[simp] theorem State.wr_engOf (s : State) (p : Nat) (off : Nat) (w : Word) (c0 : Nat) : (State.wr s p off w).engOf c0 = s.engOf c0 := rfl
@[simp] theorem State.wr_intk (s : State) (p : Nat) (off : Nat) (w : Word) (c0 : Nat) : (State.wr s p off w).intk c0 = s.intk c0 := rfl
@[simp] theorem State.wr_pipe_ (s : State) (p : Nat) (off : Nat) (w : Word) (c0 : Nat) : (State.wr s p off w).pipe_ c0 = s.pipe_ c0 := rfl
@[simp] theorem State.wr_corr_ (s : State) (p : Nat) (off : Nat) (w : Word) (c0 : Nat) : (State.wr s p off w).corr_ c0 = s.corr_ c0 := rfl
@[simp] theorem State.wr_sti (s : State) (p : Nat) (off : Nat) (w : Word) (c0 : Nat) : (State.wr s p off w).sti c0 = s.sti c0 := rfl
@[simp] theorem State.wr_sess (s : State) (p : Nat) (off : Nat) (w : Word) (c0 : Nat) : (State.wr s p off w).sess c0 = s.sess c0 := rfl
@[simp] theorem State.wr_str_ (s : State) (p : Nat) (off : Nat) (w : Word) (c0 : Nat) : (State.wr s p off w).str_ c0 = s.str_ c0 := rfl
@[simp] theorem State.wr_twlOf (s : State) (p : Nat) (off : Nat) (w : Word) (c0 : Nat) : (State.wr s p off w).twlOf c0 = s.twlOf c0 := rfl
@[simp] theorem State.wr_ch (s : State) (p : Nat) (off : Nat) (w : Word) (c0 : Nat) : (State.wr s p off w).ch c0 = s.ch c0 := rfl
@[simp] theorem State.wr_mstV (s : State) (p : Nat) (off : Nat) (w : Word) (c0 : Nat) : (State.wr s p off w).mstV c0 = s.mstV c0 := rfl
@[simp] theorem State.wr_calOf (s : State) (p : Nat) (off : Nat) (w : Word) (c0 : Nat) : (State.wr s p off w).calOf c0 = s.calOf c0 := rfl
@[simp] theorem State.wr_fifoOf (s : State) (p : Nat) (off : Nat) (w : Word) (c0 : Nat) : (State.wr s p off w).fifoOf c0 = s.fifoOf c0 := rfl
@[simp] theorem State.wr_pend (s : State) (p : Nat) (off : Nat) (w : Word) (c0 : Nat) : (State.wr s p off w).pend c0 = s.pend c0 := rfl
@[simp] theorem State.wr_rdShadow (s : State) (p : Nat) (off : Nat) (w : Word) (c0 d0 : Nat) : (State.wr s p off w).rdShadow c0 d0 = s.rdShadow c0 d0 := rfl
@[simp] theorem State.wrShadow_chanOf (s : State) (p : Nat) (off : Nat) (w : Word) (c0 : Nat) : (State.wrShadow s p off w).chanOf c0 = s.chanOf c0 := rfl
@[simp] theorem State.wrShadow_tgOf (s : State) (p : Nat) (off : Nat) (w : Word) (c0 : Nat) : (State.wrShadow s p off w).tgOf c0 = s.tgOf c0 := rfl
@[simp] theorem State.wrShadow_view_ (s : State) (p : Nat) (off : Nat) (w : Word) (c0 : Nat) : (State.wrShadow s p off w).view_ c0 = s.view_ c0 := rfl
@[simp] theorem State.wrShadow_link_ (s : State) (p : Nat) (off : Nat) (w : Word) (c0 : Nat) : (State.wrShadow s p off w).link_ c0 = s.link_ c0 := rfl
@[simp] theorem State.wrShadow_train_ (s : State) (p : Nat) (off : Nat) (w : Word) (c0 d0 : Nat) : (State.wrShadow s p off w).train_ c0 d0 = s.train_ c0 d0 := rfl
@[simp] theorem State.wrShadow_jk (s : State) (p : Nat) (off : Nat) (w : Word) (c0 : Nat) : (State.wrShadow s p off w).jk c0 = s.jk c0 := rfl
@[simp] theorem State.wrShadow_q (s : State) (p : Nat) (off : Nat) (w : Word) (c0 : Nat) : (State.wrShadow s p off w).q c0 = s.q c0 := rfl
@[simp] theorem State.wrShadow_mcOf (s : State) (p : Nat) (off : Nat) (w : Word) (c0 : Nat) : (State.wrShadow s p off w).mcOf c0 = s.mcOf c0 := rfl
@[simp] theorem State.wrShadow_engOf (s : State) (p : Nat) (off : Nat) (w : Word) (c0 : Nat) : (State.wrShadow s p off w).engOf c0 = s.engOf c0 := rfl
@[simp] theorem State.wrShadow_intk (s : State) (p : Nat) (off : Nat) (w : Word) (c0 : Nat) : (State.wrShadow s p off w).intk c0 = s.intk c0 := rfl
@[simp] theorem State.wrShadow_pipe_ (s : State) (p : Nat) (off : Nat) (w : Word) (c0 : Nat) : (State.wrShadow s p off w).pipe_ c0 = s.pipe_ c0 := rfl
@[simp] theorem State.wrShadow_corr_ (s : State) (p : Nat) (off : Nat) (w : Word) (c0 : Nat) : (State.wrShadow s p off w).corr_ c0 = s.corr_ c0 := rfl
@[simp] theorem State.wrShadow_sti (s : State) (p : Nat) (off : Nat) (w : Word) (c0 : Nat) : (State.wrShadow s p off w).sti c0 = s.sti c0 := rfl
@[simp] theorem State.wrShadow_sess (s : State) (p : Nat) (off : Nat) (w : Word) (c0 : Nat) : (State.wrShadow s p off w).sess c0 = s.sess c0 := rfl
@[simp] theorem State.wrShadow_str_ (s : State) (p : Nat) (off : Nat) (w : Word) (c0 : Nat) : (State.wrShadow s p off w).str_ c0 = s.str_ c0 := rfl
@[simp] theorem State.wrShadow_twlOf (s : State) (p : Nat) (off : Nat) (w : Word) (c0 : Nat) : (State.wrShadow s p off w).twlOf c0 = s.twlOf c0 := rfl
@[simp] theorem State.wrShadow_ch (s : State) (p : Nat) (off : Nat) (w : Word) (c0 : Nat) : (State.wrShadow s p off w).ch c0 = s.ch c0 := rfl
@[simp] theorem State.wrShadow_mstV (s : State) (p : Nat) (off : Nat) (w : Word) (c0 : Nat) : (State.wrShadow s p off w).mstV c0 = s.mstV c0 := rfl
@[simp] theorem State.wrShadow_calOf (s : State) (p : Nat) (off : Nat) (w : Word) (c0 : Nat) : (State.wrShadow s p off w).calOf c0 = s.calOf c0 := rfl
@[simp] theorem State.wrShadow_fifoOf (s : State) (p : Nat) (off : Nat) (w : Word) (c0 : Nat) : (State.wrShadow s p off w).fifoOf c0 = s.fifoOf c0 := rfl
@[simp] theorem State.wrShadow_pend (s : State) (p : Nat) (off : Nat) (w : Word) (c0 : Nat) : (State.wrShadow s p off w).pend c0 = s.pend c0 := rfl
@[simp] theorem State.wrShadow_mode (s : State) (p : Nat) (off : Nat) (w : Word)  : (State.wrShadow s p off w).mode  = s.mode  := rfl
@[simp] theorem State.wrShadow_on (s : State) (p : Nat) (off : Nat) (w : Word) (c0 : Nat) (d0 : Fld) : (State.wrShadow s p off w).on c0 d0 = s.on c0 d0 := rfl
@[simp] theorem State.setWin_chanOf (s : State) (a : Nat) (w : Word) (c0 : Nat) : (State.setWin s a w).chanOf c0 = s.chanOf c0 := rfl
@[simp] theorem State.setWin_tgOf (s : State) (a : Nat) (w : Word) (c0 : Nat) : (State.setWin s a w).tgOf c0 = s.tgOf c0 := rfl
@[simp] theorem State.setWin_view_ (s : State) (a : Nat) (w : Word) (c0 : Nat) : (State.setWin s a w).view_ c0 = s.view_ c0 := rfl
@[simp] theorem State.setWin_link_ (s : State) (a : Nat) (w : Word) (c0 : Nat) : (State.setWin s a w).link_ c0 = s.link_ c0 := rfl
@[simp] theorem State.setWin_train_ (s : State) (a : Nat) (w : Word) (c0 d0 : Nat) : (State.setWin s a w).train_ c0 d0 = s.train_ c0 d0 := rfl
@[simp] theorem State.setWin_jk (s : State) (a : Nat) (w : Word) (c0 : Nat) : (State.setWin s a w).jk c0 = s.jk c0 := rfl
@[simp] theorem State.setWin_q (s : State) (a : Nat) (w : Word) (c0 : Nat) : (State.setWin s a w).q c0 = s.q c0 := rfl
@[simp] theorem State.setWin_mcOf (s : State) (a : Nat) (w : Word) (c0 : Nat) : (State.setWin s a w).mcOf c0 = s.mcOf c0 := rfl
@[simp] theorem State.setWin_engOf (s : State) (a : Nat) (w : Word) (c0 : Nat) : (State.setWin s a w).engOf c0 = s.engOf c0 := rfl
@[simp] theorem State.setWin_intk (s : State) (a : Nat) (w : Word) (c0 : Nat) : (State.setWin s a w).intk c0 = s.intk c0 := rfl
@[simp] theorem State.setWin_pipe_ (s : State) (a : Nat) (w : Word) (c0 : Nat) : (State.setWin s a w).pipe_ c0 = s.pipe_ c0 := rfl
@[simp] theorem State.setWin_corr_ (s : State) (a : Nat) (w : Word) (c0 : Nat) : (State.setWin s a w).corr_ c0 = s.corr_ c0 := rfl
@[simp] theorem State.setWin_sti (s : State) (a : Nat) (w : Word) (c0 : Nat) : (State.setWin s a w).sti c0 = s.sti c0 := rfl
@[simp] theorem State.setWin_sess (s : State) (a : Nat) (w : Word) (c0 : Nat) : (State.setWin s a w).sess c0 = s.sess c0 := rfl
@[simp] theorem State.setWin_str_ (s : State) (a : Nat) (w : Word) (c0 : Nat) : (State.setWin s a w).str_ c0 = s.str_ c0 := rfl
@[simp] theorem State.setWin_twlOf (s : State) (a : Nat) (w : Word) (c0 : Nat) : (State.setWin s a w).twlOf c0 = s.twlOf c0 := rfl
@[simp] theorem State.setWin_ch (s : State) (a : Nat) (w : Word) (c0 : Nat) : (State.setWin s a w).ch c0 = s.ch c0 := rfl
@[simp] theorem State.setWin_mstV (s : State) (a : Nat) (w : Word) (c0 : Nat) : (State.setWin s a w).mstV c0 = s.mstV c0 := rfl
@[simp] theorem State.setWin_calOf (s : State) (a : Nat) (w : Word) (c0 : Nat) : (State.setWin s a w).calOf c0 = s.calOf c0 := rfl
@[simp] theorem State.setWin_fifoOf (s : State) (a : Nat) (w : Word) (c0 : Nat) : (State.setWin s a w).fifoOf c0 = s.fifoOf c0 := rfl
@[simp] theorem State.setWin_pend (s : State) (a : Nat) (w : Word) (c0 : Nat) : (State.setWin s a w).pend c0 = s.pend c0 := rfl
@[simp] theorem State.setWin_mode (s : State) (a : Nat) (w : Word)  : (State.setWin s a w).mode  = s.mode  := rfl
@[simp] theorem State.setWin_on (s : State) (a : Nat) (w : Word) (c0 : Nat) (d0 : Fld) : (State.setWin s a w).on c0 d0 = s.on c0 d0 := rfl
@[simp] theorem State.setWin_rdShadow (s : State) (a : Nat) (w : Word) (c0 d0 : Nat) : (State.setWin s a w).rdShadow c0 d0 = s.rdShadow c0 d0 := rfl
@[simp] theorem State.emit_chanOf (s : State) (o : Output) (c0 : Nat) : (State.emit s o).chanOf c0 = s.chanOf c0 := rfl
@[simp] theorem State.emit_tgOf (s : State) (o : Output) (c0 : Nat) : (State.emit s o).tgOf c0 = s.tgOf c0 := rfl
@[simp] theorem State.emit_view_ (s : State) (o : Output) (c0 : Nat) : (State.emit s o).view_ c0 = s.view_ c0 := rfl
@[simp] theorem State.emit_link_ (s : State) (o : Output) (c0 : Nat) : (State.emit s o).link_ c0 = s.link_ c0 := rfl
@[simp] theorem State.emit_train_ (s : State) (o : Output) (c0 d0 : Nat) : (State.emit s o).train_ c0 d0 = s.train_ c0 d0 := rfl
@[simp] theorem State.emit_jk (s : State) (o : Output) (c0 : Nat) : (State.emit s o).jk c0 = s.jk c0 := rfl
@[simp] theorem State.emit_q (s : State) (o : Output) (c0 : Nat) : (State.emit s o).q c0 = s.q c0 := rfl
@[simp] theorem State.emit_mcOf (s : State) (o : Output) (c0 : Nat) : (State.emit s o).mcOf c0 = s.mcOf c0 := rfl
@[simp] theorem State.emit_engOf (s : State) (o : Output) (c0 : Nat) : (State.emit s o).engOf c0 = s.engOf c0 := rfl
@[simp] theorem State.emit_intk (s : State) (o : Output) (c0 : Nat) : (State.emit s o).intk c0 = s.intk c0 := rfl
@[simp] theorem State.emit_pipe_ (s : State) (o : Output) (c0 : Nat) : (State.emit s o).pipe_ c0 = s.pipe_ c0 := rfl
@[simp] theorem State.emit_corr_ (s : State) (o : Output) (c0 : Nat) : (State.emit s o).corr_ c0 = s.corr_ c0 := rfl
@[simp] theorem State.emit_sti (s : State) (o : Output) (c0 : Nat) : (State.emit s o).sti c0 = s.sti c0 := rfl
@[simp] theorem State.emit_sess (s : State) (o : Output) (c0 : Nat) : (State.emit s o).sess c0 = s.sess c0 := rfl
@[simp] theorem State.emit_str_ (s : State) (o : Output) (c0 : Nat) : (State.emit s o).str_ c0 = s.str_ c0 := rfl
@[simp] theorem State.emit_twlOf (s : State) (o : Output) (c0 : Nat) : (State.emit s o).twlOf c0 = s.twlOf c0 := rfl
@[simp] theorem State.emit_ch (s : State) (o : Output) (c0 : Nat) : (State.emit s o).ch c0 = s.ch c0 := rfl
@[simp] theorem State.emit_mstV (s : State) (o : Output) (c0 : Nat) : (State.emit s o).mstV c0 = s.mstV c0 := rfl
@[simp] theorem State.emit_calOf (s : State) (o : Output) (c0 : Nat) : (State.emit s o).calOf c0 = s.calOf c0 := rfl
@[simp] theorem State.emit_fifoOf (s : State) (o : Output) (c0 : Nat) : (State.emit s o).fifoOf c0 = s.fifoOf c0 := rfl
@[simp] theorem State.emit_pend (s : State) (o : Output) (c0 : Nat) : (State.emit s o).pend c0 = s.pend c0 := rfl
@[simp] theorem State.emit_mode (s : State) (o : Output)  : (State.emit s o).mode  = s.mode  := rfl
@[simp] theorem State.emit_on (s : State) (o : Output) (c0 : Nat) (d0 : Fld) : (State.emit s o).on c0 d0 = s.on c0 d0 := rfl
@[simp] theorem State.emit_rdShadow (s : State) (o : Output) (c0 d0 : Nat) : (State.emit s o).rdShadow c0 d0 = s.rdShadow c0 d0 := rfl
@[simp] theorem State.drawn_chanOf (s : State) (c0 : Nat) : (State.drawn s).chanOf c0 = s.chanOf c0 := rfl
@[simp] theorem State.drawn_tgOf (s : State) (c0 : Nat) : (State.drawn s).tgOf c0 = s.tgOf c0 := rfl
@[simp] theorem State.drawn_view_ (s : State) (c0 : Nat) : (State.drawn s).view_ c0 = s.view_ c0 := rfl
@[simp] theorem State.drawn_link_ (s : State) (c0 : Nat) : (State.drawn s).link_ c0 = s.link_ c0 := rfl
@[simp] theorem State.drawn_train_ (s : State) (c0 d0 : Nat) : (State.drawn s).train_ c0 d0 = s.train_ c0 d0 := rfl
@[simp] theorem State.drawn_jk (s : State) (c0 : Nat) : (State.drawn s).jk c0 = s.jk c0 := rfl
@[simp] theorem State.drawn_q (s : State) (c0 : Nat) : (State.drawn s).q c0 = s.q c0 := rfl
@[simp] theorem State.drawn_mcOf (s : State) (c0 : Nat) : (State.drawn s).mcOf c0 = s.mcOf c0 := rfl
@[simp] theorem State.drawn_engOf (s : State) (c0 : Nat) : (State.drawn s).engOf c0 = s.engOf c0 := rfl
@[simp] theorem State.drawn_intk (s : State) (c0 : Nat) : (State.drawn s).intk c0 = s.intk c0 := rfl
@[simp] theorem State.drawn_pipe_ (s : State) (c0 : Nat) : (State.drawn s).pipe_ c0 = s.pipe_ c0 := rfl
@[simp] theorem State.drawn_corr_ (s : State) (c0 : Nat) : (State.drawn s).corr_ c0 = s.corr_ c0 := rfl
@[simp] theorem State.drawn_sti (s : State) (c0 : Nat) : (State.drawn s).sti c0 = s.sti c0 := rfl
@[simp] theorem State.drawn_sess (s : State) (c0 : Nat) : (State.drawn s).sess c0 = s.sess c0 := rfl
@[simp] theorem State.drawn_str_ (s : State) (c0 : Nat) : (State.drawn s).str_ c0 = s.str_ c0 := rfl
@[simp] theorem State.drawn_twlOf (s : State) (c0 : Nat) : (State.drawn s).twlOf c0 = s.twlOf c0 := rfl
@[simp] theorem State.drawn_ch (s : State) (c0 : Nat) : (State.drawn s).ch c0 = s.ch c0 := rfl
@[simp] theorem State.drawn_mstV (s : State) (c0 : Nat) : (State.drawn s).mstV c0 = s.mstV c0 := rfl
@[simp] theorem State.drawn_calOf (s : State) (c0 : Nat) : (State.drawn s).calOf c0 = s.calOf c0 := rfl
@[simp] theorem State.drawn_fifoOf (s : State) (c0 : Nat) : (State.drawn s).fifoOf c0 = s.fifoOf c0 := rfl
@[simp] theorem State.drawn_pend (s : State) (c0 : Nat) : (State.drawn s).pend c0 = s.pend c0 := rfl
@[simp] theorem State.drawn_mode (s : State)  : (State.drawn s).mode  = s.mode  := rfl
@[simp] theorem State.drawn_on (s : State) (c0 : Nat) (d0 : Fld) : (State.drawn s).on c0 d0 = s.on c0 d0 := rfl
@[simp] theorem State.drawn_rdShadow (s : State) (c0 d0 : Nat) : (State.drawn s).rdShadow c0 d0 = s.rdShadow c0 d0 := rfl
@[simp] theorem State.drawnN_chanOf (s : State) (n : Nat) (c0 : Nat) : (State.drawnN s n).chanOf c0 = s.chanOf c0 := rfl
@[simp] theorem State.drawnN_tgOf (s : State) (n : Nat) (c0 : Nat) : (State.drawnN s n).tgOf c0 = s.tgOf c0 := rfl
@[simp] theorem State.drawnN_view_ (s : State) (n : Nat) (c0 : Nat) : (State.drawnN s n).view_ c0 = s.view_ c0 := rfl
@[simp] theorem State.drawnN_link_ (s : State) (n : Nat) (c0 : Nat) : (State.drawnN s n).link_ c0 = s.link_ c0 := rfl
@[simp] theorem State.drawnN_train_ (s : State) (n : Nat) (c0 d0 : Nat) : (State.drawnN s n).train_ c0 d0 = s.train_ c0 d0 := rfl
@[simp] theorem State.drawnN_jk (s : State) (n : Nat) (c0 : Nat) : (State.drawnN s n).jk c0 = s.jk c0 := rfl
@[simp] theorem State.drawnN_q (s : State) (n : Nat) (c0 : Nat) : (State.drawnN s n).q c0 = s.q c0 := rfl
@[simp] theorem State.drawnN_mcOf (s : State) (n : Nat) (c0 : Nat) : (State.drawnN s n).mcOf c0 = s.mcOf c0 := rfl
@[simp] theorem State.drawnN_engOf (s : State) (n : Nat) (c0 : Nat) : (State.drawnN s n).engOf c0 = s.engOf c0 := rfl
@[simp] theorem State.drawnN_intk (s : State) (n : Nat) (c0 : Nat) : (State.drawnN s n).intk c0 = s.intk c0 := rfl
@[simp] theorem State.drawnN_pipe_ (s : State) (n : Nat) (c0 : Nat) : (State.drawnN s n).pipe_ c0 = s.pipe_ c0 := rfl
@[simp] theorem State.drawnN_corr_ (s : State) (n : Nat) (c0 : Nat) : (State.drawnN s n).corr_ c0 = s.corr_ c0 := rfl
@[simp] theorem State.drawnN_sti (s : State) (n : Nat) (c0 : Nat) : (State.drawnN s n).sti c0 = s.sti c0 := rfl
@[simp] theorem State.drawnN_sess (s : State) (n : Nat) (c0 : Nat) : (State.drawnN s n).sess c0 = s.sess c0 := rfl
@[simp] theorem State.drawnN_str_ (s : State) (n : Nat) (c0 : Nat) : (State.drawnN s n).str_ c0 = s.str_ c0 := rfl
@[simp] theorem State.drawnN_twlOf (s : State) (n : Nat) (c0 : Nat) : (State.drawnN s n).twlOf c0 = s.twlOf c0 := rfl
@[simp] theorem State.drawnN_ch (s : State) (n : Nat) (c0 : Nat) : (State.drawnN s n).ch c0 = s.ch c0 := rfl
@[simp] theorem State.drawnN_mstV (s : State) (n : Nat) (c0 : Nat) : (State.drawnN s n).mstV c0 = s.mstV c0 := rfl
@[simp] theorem State.drawnN_calOf (s : State) (n : Nat) (c0 : Nat) : (State.drawnN s n).calOf c0 = s.calOf c0 := rfl
@[simp] theorem State.drawnN_fifoOf (s : State) (n : Nat) (c0 : Nat) : (State.drawnN s n).fifoOf c0 = s.fifoOf c0 := rfl
@[simp] theorem State.drawnN_pend (s : State) (n : Nat) (c0 : Nat) : (State.drawnN s n).pend c0 = s.pend c0 := rfl
@[simp] theorem State.drawnN_mode (s : State) (n : Nat)  : (State.drawnN s n).mode  = s.mode  := rfl
@[simp] theorem State.drawnN_on (s : State) (n : Nat) (c0 : Nat) (d0 : Fld) : (State.drawnN s n).on c0 d0 = s.on c0 d0 := rfl
@[simp] theorem State.drawnN_rdShadow (s : State) (n : Nat) (c0 d0 : Nat) : (State.drawnN s n).rdShadow c0 d0 = s.rdShadow c0 d0 := rfl
@[simp] theorem State.advance_chanOf (s : State) (raw : Nat) (c0 : Nat) : (State.advance s raw).chanOf c0 = s.chanOf c0 := rfl
@[simp] theorem State.advance_tgOf (s : State) (raw : Nat) (c0 : Nat) : (State.advance s raw).tgOf c0 = s.tgOf c0 := rfl
@[simp] theorem State.advance_view_ (s : State) (raw : Nat) (c0 : Nat) : (State.advance s raw).view_ c0 = s.view_ c0 := rfl
@[simp] theorem State.advance_link_ (s : State) (raw : Nat) (c0 : Nat) : (State.advance s raw).link_ c0 = s.link_ c0 := rfl
@[simp] theorem State.advance_train_ (s : State) (raw : Nat) (c0 d0 : Nat) : (State.advance s raw).train_ c0 d0 = s.train_ c0 d0 := rfl
@[simp] theorem State.advance_jk (s : State) (raw : Nat) (c0 : Nat) : (State.advance s raw).jk c0 = s.jk c0 := rfl
@[simp] theorem State.advance_q (s : State) (raw : Nat) (c0 : Nat) : (State.advance s raw).q c0 = s.q c0 := rfl
@[simp] theorem State.advance_mcOf (s : State) (raw : Nat) (c0 : Nat) : (State.advance s raw).mcOf c0 = s.mcOf c0 := rfl
@[simp] theorem State.advance_engOf (s : State) (raw : Nat) (c0 : Nat) : (State.advance s raw).engOf c0 = s.engOf c0 := rfl
@[simp] theorem State.advance_intk (s : State) (raw : Nat) (c0 : Nat) : (State.advance s raw).intk c0 = s.intk c0 := rfl
@[simp] theorem State.advance_pipe_ (s : State) (raw : Nat) (c0 : Nat) : (State.advance s raw).pipe_ c0 = s.pipe_ c0 := rfl
@[simp] theorem State.advance_corr_ (s : State) (raw : Nat) (c0 : Nat) : (State.advance s raw).corr_ c0 = s.corr_ c0 := rfl
@[simp] theorem State.advance_sti (s : State) (raw : Nat) (c0 : Nat) : (State.advance s raw).sti c0 = s.sti c0 := rfl
@[simp] theorem State.advance_sess (s : State) (raw : Nat) (c0 : Nat) : (State.advance s raw).sess c0 = s.sess c0 := rfl
@[simp] theorem State.advance_str_ (s : State) (raw : Nat) (c0 : Nat) : (State.advance s raw).str_ c0 = s.str_ c0 := rfl
@[simp] theorem State.advance_twlOf (s : State) (raw : Nat) (c0 : Nat) : (State.advance s raw).twlOf c0 = s.twlOf c0 := rfl
@[simp] theorem State.advance_ch (s : State) (raw : Nat) (c0 : Nat) : (State.advance s raw).ch c0 = s.ch c0 := rfl
@[simp] theorem State.advance_mstV (s : State) (raw : Nat) (c0 : Nat) : (State.advance s raw).mstV c0 = s.mstV c0 := rfl
@[simp] theorem State.advance_calOf (s : State) (raw : Nat) (c0 : Nat) : (State.advance s raw).calOf c0 = s.calOf c0 := rfl
@[simp] theorem State.advance_fifoOf (s : State) (raw : Nat) (c0 : Nat) : (State.advance s raw).fifoOf c0 = s.fifoOf c0 := rfl
@[simp] theorem State.advance_pend (s : State) (raw : Nat) (c0 : Nat) : (State.advance s raw).pend c0 = s.pend c0 := rfl
@[simp] theorem State.advance_mode (s : State) (raw : Nat)  : (State.advance s raw).mode  = s.mode  := rfl
@[simp] theorem State.advance_on (s : State) (raw : Nat) (c0 : Nat) (d0 : Fld) : (State.advance s raw).on c0 d0 = s.on c0 d0 := rfl
@[simp] theorem State.advance_rdShadow (s : State) (raw : Nat) (c0 d0 : Nat) : (State.advance s raw).rdShadow c0 d0 = s.rdShadow c0 d0 := rfl
@[simp] theorem State.blowFuses_chanOf (s : State) (m : Nat) (c0 : Nat) : (State.blowFuses s m).chanOf c0 = s.chanOf c0 := rfl
@[simp] theorem State.blowFuses_tgOf (s : State) (m : Nat) (c0 : Nat) : (State.blowFuses s m).tgOf c0 = s.tgOf c0 := rfl
@[simp] theorem State.blowFuses_view_ (s : State) (m : Nat) (c0 : Nat) : (State.blowFuses s m).view_ c0 = s.view_ c0 := rfl
@[simp] theorem State.blowFuses_link_ (s : State) (m : Nat) (c0 : Nat) : (State.blowFuses s m).link_ c0 = s.link_ c0 := rfl
@[simp] theorem State.blowFuses_train_ (s : State) (m : Nat) (c0 d0 : Nat) : (State.blowFuses s m).train_ c0 d0 = s.train_ c0 d0 := rfl
@[simp] theorem State.blowFuses_jk (s : State) (m : Nat) (c0 : Nat) : (State.blowFuses s m).jk c0 = s.jk c0 := rfl
@[simp] theorem State.blowFuses_q (s : State) (m : Nat) (c0 : Nat) : (State.blowFuses s m).q c0 = s.q c0 := rfl
@[simp] theorem State.blowFuses_mcOf (s : State) (m : Nat) (c0 : Nat) : (State.blowFuses s m).mcOf c0 = s.mcOf c0 := rfl
@[simp] theorem State.blowFuses_engOf (s : State) (m : Nat) (c0 : Nat) : (State.blowFuses s m).engOf c0 = s.engOf c0 := rfl
@[simp] theorem State.blowFuses_intk (s : State) (m : Nat) (c0 : Nat) : (State.blowFuses s m).intk c0 = s.intk c0 := rfl
@[simp] theorem State.blowFuses_pipe_ (s : State) (m : Nat) (c0 : Nat) : (State.blowFuses s m).pipe_ c0 = s.pipe_ c0 := rfl
@[simp] theorem State.blowFuses_corr_ (s : State) (m : Nat) (c0 : Nat) : (State.blowFuses s m).corr_ c0 = s.corr_ c0 := rfl
@[simp] theorem State.blowFuses_sti (s : State) (m : Nat) (c0 : Nat) : (State.blowFuses s m).sti c0 = s.sti c0 := rfl
@[simp] theorem State.blowFuses_sess (s : State) (m : Nat) (c0 : Nat) : (State.blowFuses s m).sess c0 = s.sess c0 := rfl
@[simp] theorem State.blowFuses_str_ (s : State) (m : Nat) (c0 : Nat) : (State.blowFuses s m).str_ c0 = s.str_ c0 := rfl
@[simp] theorem State.blowFuses_twlOf (s : State) (m : Nat) (c0 : Nat) : (State.blowFuses s m).twlOf c0 = s.twlOf c0 := rfl
@[simp] theorem State.blowFuses_ch (s : State) (m : Nat) (c0 : Nat) : (State.blowFuses s m).ch c0 = s.ch c0 := rfl
@[simp] theorem State.blowFuses_mstV (s : State) (m : Nat) (c0 : Nat) : (State.blowFuses s m).mstV c0 = s.mstV c0 := rfl
@[simp] theorem State.blowFuses_calOf (s : State) (m : Nat) (c0 : Nat) : (State.blowFuses s m).calOf c0 = s.calOf c0 := rfl
@[simp] theorem State.blowFuses_fifoOf (s : State) (m : Nat) (c0 : Nat) : (State.blowFuses s m).fifoOf c0 = s.fifoOf c0 := rfl
@[simp] theorem State.blowFuses_pend (s : State) (m : Nat) (c0 : Nat) : (State.blowFuses s m).pend c0 = s.pend c0 := rfl
@[simp] theorem State.blowFuses_mode (s : State) (m : Nat)  : (State.blowFuses s m).mode  = s.mode  := rfl
@[simp] theorem State.blowFuses_on (s : State) (m : Nat) (c0 : Nat) (d0 : Fld) : (State.blowFuses s m).on c0 d0 = s.on c0 d0 := rfl
@[simp] theorem State.blowFuses_rdShadow (s : State) (m : Nat) (c0 d0 : Nat) : (State.blowFuses s m).rdShadow c0 d0 = s.rdShadow c0 d0 := rfl
@[simp] theorem State.setQ_chanOf (s : State) (q : Nat) (v : Queue) (c0 : Nat) : (State.setQ s q v).chanOf c0 = s.chanOf c0 := rfl
@[simp] theorem State.setQ_tgOf (s : State) (q : Nat) (v : Queue) (c0 : Nat) : (State.setQ s q v).tgOf c0 = s.tgOf c0 := rfl
@[simp] theorem State.setQ_view_ (s : State) (q : Nat) (v : Queue) (c0 : Nat) : (State.setQ s q v).view_ c0 = s.view_ c0 := rfl
@[simp] theorem State.setQ_link_ (s : State) (q : Nat) (v : Queue) (c0 : Nat) : (State.setQ s q v).link_ c0 = s.link_ c0 := rfl
@[simp] theorem State.setQ_train_ (s : State) (q : Nat) (v : Queue) (c0 d0 : Nat) : (State.setQ s q v).train_ c0 d0 = s.train_ c0 d0 := rfl
@[simp] theorem State.setQ_jk (s : State) (q : Nat) (v : Queue) (c0 : Nat) : (State.setQ s q v).jk c0 = s.jk c0 := rfl
@[simp] theorem State.setQ_mcOf (s : State) (q : Nat) (v : Queue) (c0 : Nat) : (State.setQ s q v).mcOf c0 = s.mcOf c0 := rfl
@[simp] theorem State.setQ_engOf (s : State) (q : Nat) (v : Queue) (c0 : Nat) : (State.setQ s q v).engOf c0 = s.engOf c0 := rfl
@[simp] theorem State.setQ_intk (s : State) (q : Nat) (v : Queue) (c0 : Nat) : (State.setQ s q v).intk c0 = s.intk c0 := rfl
@[simp] theorem State.setQ_pipe_ (s : State) (q : Nat) (v : Queue) (c0 : Nat) : (State.setQ s q v).pipe_ c0 = s.pipe_ c0 := rfl
@[simp] theorem State.setQ_corr_ (s : State) (q : Nat) (v : Queue) (c0 : Nat) : (State.setQ s q v).corr_ c0 = s.corr_ c0 := rfl
@[simp] theorem State.setQ_sti (s : State) (q : Nat) (v : Queue) (c0 : Nat) : (State.setQ s q v).sti c0 = s.sti c0 := rfl
@[simp] theorem State.setQ_sess (s : State) (q : Nat) (v : Queue) (c0 : Nat) : (State.setQ s q v).sess c0 = s.sess c0 := rfl
@[simp] theorem State.setQ_str_ (s : State) (q : Nat) (v : Queue) (c0 : Nat) : (State.setQ s q v).str_ c0 = s.str_ c0 := rfl
@[simp] theorem State.setQ_twlOf (s : State) (q : Nat) (v : Queue) (c0 : Nat) : (State.setQ s q v).twlOf c0 = s.twlOf c0 := rfl
@[simp] theorem State.setQ_ch (s : State) (q : Nat) (v : Queue) (c0 : Nat) : (State.setQ s q v).ch c0 = s.ch c0 := rfl
@[simp] theorem State.setQ_mstV (s : State) (q : Nat) (v : Queue) (c0 : Nat) : (State.setQ s q v).mstV c0 = s.mstV c0 := rfl
@[simp] theorem State.setQ_calOf (s : State) (q : Nat) (v : Queue) (c0 : Nat) : (State.setQ s q v).calOf c0 = s.calOf c0 := rfl
@[simp] theorem State.setQ_fifoOf (s : State) (q : Nat) (v : Queue) (c0 : Nat) : (State.setQ s q v).fifoOf c0 = s.fifoOf c0 := rfl
@[simp] theorem State.setQ_pend (s : State) (q : Nat) (v : Queue) (c0 : Nat) : (State.setQ s q v).pend c0 = s.pend c0 := rfl
@[simp] theorem State.setQ_mode (s : State) (q : Nat) (v : Queue)  : (State.setQ s q v).mode  = s.mode  := rfl
@[simp] theorem State.setQ_on (s : State) (q : Nat) (v : Queue) (c0 : Nat) (d0 : Fld) : (State.setQ s q v).on c0 d0 = s.on c0 d0 := rfl
@[simp] theorem State.setQ_rdShadow (s : State) (q : Nat) (v : Queue) (c0 d0 : Nat) : (State.setQ s q v).rdShadow c0 d0 = s.rdShadow c0 d0 := rfl
@[simp] theorem State.putLink_chanOf (s : State) (p : Nat) (l : Link) (c0 : Nat) : (State.putLink s p l).chanOf c0 = s.chanOf c0 := rfl
@[simp] theorem State.putLink_tgOf (s : State) (p : Nat) (l : Link) (c0 : Nat) : (State.putLink s p l).tgOf c0 = s.tgOf c0 := rfl
@[simp] theorem State.putLink_view_ (s : State) (p : Nat) (l : Link) (c0 : Nat) : (State.putLink s p l).view_ c0 = s.view_ c0 := rfl
@[simp] theorem State.putLink_train_ (s : State) (p : Nat) (l : Link) (c0 d0 : Nat) : (State.putLink s p l).train_ c0 d0 = s.train_ c0 d0 := rfl
@[simp] theorem State.putLink_jk (s : State) (p : Nat) (l : Link) (c0 : Nat) : (State.putLink s p l).jk c0 = s.jk c0 := rfl
@[simp] theorem State.putLink_q (s : State) (p : Nat) (l : Link) (c0 : Nat) : (State.putLink s p l).q c0 = s.q c0 := rfl
@[simp] theorem State.putLink_mcOf (s : State) (p : Nat) (l : Link) (c0 : Nat) : (State.putLink s p l).mcOf c0 = s.mcOf c0 := rfl
@[simp] theorem State.putLink_engOf (s : State) (p : Nat) (l : Link) (c0 : Nat) : (State.putLink s p l).engOf c0 = s.engOf c0 := rfl
@[simp] theorem State.putLink_intk (s : State) (p : Nat) (l : Link) (c0 : Nat) : (State.putLink s p l).intk c0 = s.intk c0 := rfl
@[simp] theorem State.putLink_pipe_ (s : State) (p : Nat) (l : Link) (c0 : Nat) : (State.putLink s p l).pipe_ c0 = s.pipe_ c0 := rfl
@[simp] theorem State.putLink_corr_ (s : State) (p : Nat) (l : Link) (c0 : Nat) : (State.putLink s p l).corr_ c0 = s.corr_ c0 := rfl
@[simp] theorem State.putLink_sti (s : State) (p : Nat) (l : Link) (c0 : Nat) : (State.putLink s p l).sti c0 = s.sti c0 := rfl
@[simp] theorem State.putLink_sess (s : State) (p : Nat) (l : Link) (c0 : Nat) : (State.putLink s p l).sess c0 = s.sess c0 := rfl
@[simp] theorem State.putLink_str_ (s : State) (p : Nat) (l : Link) (c0 : Nat) : (State.putLink s p l).str_ c0 = s.str_ c0 := rfl
@[simp] theorem State.putLink_twlOf (s : State) (p : Nat) (l : Link) (c0 : Nat) : (State.putLink s p l).twlOf c0 = s.twlOf c0 := rfl
@[simp] theorem State.putLink_ch (s : State) (p : Nat) (l : Link) (c0 : Nat) : (State.putLink s p l).ch c0 = s.ch c0 := rfl
@[simp] theorem State.putLink_mstV (s : State) (p : Nat) (l : Link) (c0 : Nat) : (State.putLink s p l).mstV c0 = s.mstV c0 := rfl
@[simp] theorem State.putLink_calOf (s : State) (p : Nat) (l : Link) (c0 : Nat) : (State.putLink s p l).calOf c0 = s.calOf c0 := rfl
@[simp] theorem State.putLink_fifoOf (s : State) (p : Nat) (l : Link) (c0 : Nat) : (State.putLink s p l).fifoOf c0 = s.fifoOf c0 := rfl
@[simp] theorem State.putLink_pend (s : State) (p : Nat) (l : Link) (c0 : Nat) : (State.putLink s p l).pend c0 = s.pend c0 := rfl
@[simp] theorem State.putLink_mode (s : State) (p : Nat) (l : Link)  : (State.putLink s p l).mode  = s.mode  := rfl
@[simp] theorem State.putLink_on (s : State) (p : Nat) (l : Link) (c0 : Nat) (d0 : Fld) : (State.putLink s p l).on c0 d0 = s.on c0 d0 := rfl
@[simp] theorem State.putLink_rdShadow (s : State) (p : Nat) (l : Link) (c0 d0 : Nat) : (State.putLink s p l).rdShadow c0 d0 = s.rdShadow c0 d0 := rfl
@[simp] theorem State.putTrain_chanOf (s : State) (p : Nat) (m : Nat) (t : Train) (c0 : Nat) : (State.putTrain s p m t).chanOf c0 = s.chanOf c0 := rfl
@[simp] theorem State.putTrain_tgOf (s : State) (p : Nat) (m : Nat) (t : Train) (c0 : Nat) : (State.putTrain s p m t).tgOf c0 = s.tgOf c0 := rfl
@[simp] theorem State.putTrain_view_ (s : State) (p : Nat) (m : Nat) (t : Train) (c0 : Nat) : (State.putTrain s p m t).view_ c0 = s.view_ c0 := rfl
@[simp] theorem State.putTrain_link_ (s : State) (p : Nat) (m : Nat) (t : Train) (c0 : Nat) : (State.putTrain s p m t).link_ c0 = s.link_ c0 := rfl
@[simp] theorem State.putTrain_jk (s : State) (p : Nat) (m : Nat) (t : Train) (c0 : Nat) : (State.putTrain s p m t).jk c0 = s.jk c0 := rfl
@[simp] theorem State.putTrain_q (s : State) (p : Nat) (m : Nat) (t : Train) (c0 : Nat) : (State.putTrain s p m t).q c0 = s.q c0 := rfl
@[simp] theorem State.putTrain_mcOf (s : State) (p : Nat) (m : Nat) (t : Train) (c0 : Nat) : (State.putTrain s p m t).mcOf c0 = s.mcOf c0 := rfl
@[simp] theorem State.putTrain_engOf (s : State) (p : Nat) (m : Nat) (t : Train) (c0 : Nat) : (State.putTrain s p m t).engOf c0 = s.engOf c0 := rfl
@[simp] theorem State.putTrain_intk (s : State) (p : Nat) (m : Nat) (t : Train) (c0 : Nat) : (State.putTrain s p m t).intk c0 = s.intk c0 := rfl
@[simp] theorem State.putTrain_pipe_ (s : State) (p : Nat) (m : Nat) (t : Train) (c0 : Nat) : (State.putTrain s p m t).pipe_ c0 = s.pipe_ c0 := rfl
@[simp] theorem State.putTrain_corr_ (s : State) (p : Nat) (m : Nat) (t : Train) (c0 : Nat) : (State.putTrain s p m t).corr_ c0 = s.corr_ c0 := rfl
@[simp] theorem State.putTrain_sti (s : State) (p : Nat) (m : Nat) (t : Train) (c0 : Nat) : (State.putTrain s p m t).sti c0 = s.sti c0 := rfl
@[simp] theorem State.putTrain_sess (s : State) (p : Nat) (m : Nat) (t : Train) (c0 : Nat) : (State.putTrain s p m t).sess c0 = s.sess c0 := rfl
@[simp] theorem State.putTrain_str_ (s : State) (p : Nat) (m : Nat) (t : Train) (c0 : Nat) : (State.putTrain s p m t).str_ c0 = s.str_ c0 := rfl
@[simp] theorem State.putTrain_twlOf (s : State) (p : Nat) (m : Nat) (t : Train) (c0 : Nat) : (State.putTrain s p m t).twlOf c0 = s.twlOf c0 := rfl
@[simp] theorem State.putTrain_ch (s : State) (p : Nat) (m : Nat) (t : Train) (c0 : Nat) : (State.putTrain s p m t).ch c0 = s.ch c0 := rfl
@[simp] theorem State.putTrain_mstV (s : State) (p : Nat) (m : Nat) (t : Train) (c0 : Nat) : (State.putTrain s p m t).mstV c0 = s.mstV c0 := rfl
@[simp] theorem State.putTrain_calOf (s : State) (p : Nat) (m : Nat) (t : Train) (c0 : Nat) : (State.putTrain s p m t).calOf c0 = s.calOf c0 := rfl
@[simp] theorem State.putTrain_fifoOf (s : State) (p : Nat) (m : Nat) (t : Train) (c0 : Nat) : (State.putTrain s p m t).fifoOf c0 = s.fifoOf c0 := rfl
@[simp] theorem State.putTrain_pend (s : State) (p : Nat) (m : Nat) (t : Train) (c0 : Nat) : (State.putTrain s p m t).pend c0 = s.pend c0 := rfl
@[simp] theorem State.putTrain_mode (s : State) (p : Nat) (m : Nat) (t : Train)  : (State.putTrain s p m t).mode  = s.mode  := rfl
@[simp] theorem State.putTrain_on (s : State) (p : Nat) (m : Nat) (t : Train) (c0 : Nat) (d0 : Fld) : (State.putTrain s p m t).on c0 d0 = s.on c0 d0 := rfl
@[simp] theorem State.putTrain_rdShadow (s : State) (p : Nat) (m : Nat) (t : Train) (c0 d0 : Nat) : (State.putTrain s p m t).rdShadow c0 d0 = s.rdShadow c0 d0 := rfl
@[simp] theorem State.putStr_chanOf (s : State) (n : Nat) (x : Stream) (c0 : Nat) : (State.putStr s n x).chanOf c0 = s.chanOf c0 := rfl
@[simp] theorem State.putStr_tgOf (s : State) (n : Nat) (x : Stream) (c0 : Nat) : (State.putStr s n x).tgOf c0 = s.tgOf c0 := rfl
@[simp] theorem State.putStr_view_ (s : State) (n : Nat) (x : Stream) (c0 : Nat) : (State.putStr s n x).view_ c0 = s.view_ c0 := rfl
@[simp] theorem State.putStr_link_ (s : State) (n : Nat) (x : Stream) (c0 : Nat) : (State.putStr s n x).link_ c0 = s.link_ c0 := rfl
@[simp] theorem State.putStr_train_ (s : State) (n : Nat) (x : Stream) (c0 d0 : Nat) : (State.putStr s n x).train_ c0 d0 = s.train_ c0 d0 := rfl
@[simp] theorem State.putStr_jk (s : State) (n : Nat) (x : Stream) (c0 : Nat) : (State.putStr s n x).jk c0 = s.jk c0 := rfl
@[simp] theorem State.putStr_q (s : State) (n : Nat) (x : Stream) (c0 : Nat) : (State.putStr s n x).q c0 = s.q c0 := rfl
@[simp] theorem State.putStr_mcOf (s : State) (n : Nat) (x : Stream) (c0 : Nat) : (State.putStr s n x).mcOf c0 = s.mcOf c0 := rfl
@[simp] theorem State.putStr_engOf (s : State) (n : Nat) (x : Stream) (c0 : Nat) : (State.putStr s n x).engOf c0 = s.engOf c0 := rfl
@[simp] theorem State.putStr_intk (s : State) (n : Nat) (x : Stream) (c0 : Nat) : (State.putStr s n x).intk c0 = s.intk c0 := rfl
@[simp] theorem State.putStr_pipe_ (s : State) (n : Nat) (x : Stream) (c0 : Nat) : (State.putStr s n x).pipe_ c0 = s.pipe_ c0 := rfl
@[simp] theorem State.putStr_corr_ (s : State) (n : Nat) (x : Stream) (c0 : Nat) : (State.putStr s n x).corr_ c0 = s.corr_ c0 := rfl
@[simp] theorem State.putStr_sti (s : State) (n : Nat) (x : Stream) (c0 : Nat) : (State.putStr s n x).sti c0 = s.sti c0 := rfl
@[simp] theorem State.putStr_sess (s : State) (n : Nat) (x : Stream) (c0 : Nat) : (State.putStr s n x).sess c0 = s.sess c0 := rfl
@[simp] theorem State.putStr_twlOf (s : State) (n : Nat) (x : Stream) (c0 : Nat) : (State.putStr s n x).twlOf c0 = s.twlOf c0 := rfl
@[simp] theorem State.putStr_ch (s : State) (n : Nat) (x : Stream) (c0 : Nat) : (State.putStr s n x).ch c0 = s.ch c0 := rfl
@[simp] theorem State.putStr_mstV (s : State) (n : Nat) (x : Stream) (c0 : Nat) : (State.putStr s n x).mstV c0 = s.mstV c0 := rfl
@[simp] theorem State.putStr_calOf (s : State) (n : Nat) (x : Stream) (c0 : Nat) : (State.putStr s n x).calOf c0 = s.calOf c0 := rfl
@[simp] theorem State.putStr_fifoOf (s : State) (n : Nat) (x : Stream) (c0 : Nat) : (State.putStr s n x).fifoOf c0 = s.fifoOf c0 := rfl
@[simp] theorem State.putStr_pend (s : State) (n : Nat) (x : Stream) (c0 : Nat) : (State.putStr s n x).pend c0 = s.pend c0 := rfl
@[simp] theorem State.putStr_mode (s : State) (n : Nat) (x : Stream)  : (State.putStr s n x).mode  = s.mode  := rfl
@[simp] theorem State.putStr_on (s : State) (n : Nat) (x : Stream) (c0 : Nat) (d0 : Fld) : (State.putStr s n x).on c0 d0 = s.on c0 d0 := rfl
@[simp] theorem State.putStr_rdShadow (s : State) (n : Nat) (x : Stream) (c0 d0 : Nat) : (State.putStr s n x).rdShadow c0 d0 = s.rdShadow c0 d0 := rfl
@[simp] theorem State.setBusyTo_chanOf (s : State) (port : Nat) (t : Nat) (c0 : Nat) : (State.setBusyTo s port t).chanOf c0 = s.chanOf c0 := rfl
@[simp] theorem State.setBusyTo_tgOf (s : State) (port : Nat) (t : Nat) (c0 : Nat) : (State.setBusyTo s port t).tgOf c0 = s.tgOf c0 := rfl
@[simp] theorem State.setBusyTo_view_ (s : State) (port : Nat) (t : Nat) (c0 : Nat) : (State.setBusyTo s port t).view_ c0 = s.view_ c0 := rfl
@[simp] theorem State.setBusyTo_link_ (s : State) (port : Nat) (t : Nat) (c0 : Nat) : (State.setBusyTo s port t).link_ c0 = s.link_ c0 := rfl
@[simp] theorem State.setBusyTo_train_ (s : State) (port : Nat) (t : Nat) (c0 d0 : Nat) : (State.setBusyTo s port t).train_ c0 d0 = s.train_ c0 d0 := rfl
@[simp] theorem State.setBusyTo_jk (s : State) (port : Nat) (t : Nat) (c0 : Nat) : (State.setBusyTo s port t).jk c0 = s.jk c0 := rfl
@[simp] theorem State.setBusyTo_q (s : State) (port : Nat) (t : Nat) (c0 : Nat) : (State.setBusyTo s port t).q c0 = s.q c0 := rfl
@[simp] theorem State.setBusyTo_mcOf (s : State) (port : Nat) (t : Nat) (c0 : Nat) : (State.setBusyTo s port t).mcOf c0 = s.mcOf c0 := rfl
@[simp] theorem State.setBusyTo_engOf (s : State) (port : Nat) (t : Nat) (c0 : Nat) : (State.setBusyTo s port t).engOf c0 = s.engOf c0 := rfl
@[simp] theorem State.setBusyTo_intk (s : State) (port : Nat) (t : Nat) (c0 : Nat) : (State.setBusyTo s port t).intk c0 = s.intk c0 := rfl
@[simp] theorem State.setBusyTo_pipe_ (s : State) (port : Nat) (t : Nat) (c0 : Nat) : (State.setBusyTo s port t).pipe_ c0 = s.pipe_ c0 := rfl
@[simp] theorem State.setBusyTo_corr_ (s : State) (port : Nat) (t : Nat) (c0 : Nat) : (State.setBusyTo s port t).corr_ c0 = s.corr_ c0 := rfl
@[simp] theorem State.setBusyTo_sti (s : State) (port : Nat) (t : Nat) (c0 : Nat) : (State.setBusyTo s port t).sti c0 = s.sti c0 := rfl
@[simp] theorem State.setBusyTo_sess (s : State) (port : Nat) (t : Nat) (c0 : Nat) : (State.setBusyTo s port t).sess c0 = s.sess c0 := rfl
@[simp] theorem State.setBusyTo_str_ (s : State) (port : Nat) (t : Nat) (c0 : Nat) : (State.setBusyTo s port t).str_ c0 = s.str_ c0 := rfl
@[simp] theorem State.setBusyTo_twlOf (s : State) (port : Nat) (t : Nat) (c0 : Nat) : (State.setBusyTo s port t).twlOf c0 = s.twlOf c0 := rfl
@[simp] theorem State.setBusyTo_ch (s : State) (port : Nat) (t : Nat) (c0 : Nat) : (State.setBusyTo s port t).ch c0 = s.ch c0 := rfl
@[simp] theorem State.setBusyTo_mstV (s : State) (port : Nat) (t : Nat) (c0 : Nat) : (State.setBusyTo s port t).mstV c0 = s.mstV c0 := rfl
@[simp] theorem State.setBusyTo_calOf (s : State) (port : Nat) (t : Nat) (c0 : Nat) : (State.setBusyTo s port t).calOf c0 = s.calOf c0 := rfl
@[simp] theorem State.setBusyTo_fifoOf (s : State) (port : Nat) (t : Nat) (c0 : Nat) : (State.setBusyTo s port t).fifoOf c0 = s.fifoOf c0 := rfl
@[simp] theorem State.setBusyTo_pend (s : State) (port : Nat) (t : Nat) (c0 : Nat) : (State.setBusyTo s port t).pend c0 = s.pend c0 := rfl
@[simp] theorem State.setBusyTo_mode (s : State) (port : Nat) (t : Nat)  : (State.setBusyTo s port t).mode  = s.mode  := rfl
@[simp] theorem State.setBusyTo_on (s : State) (port : Nat) (t : Nat) (c0 : Nat) (d0 : Fld) : (State.setBusyTo s port t).on c0 d0 = s.on c0 d0 := rfl
@[simp] theorem State.setBusyTo_rdShadow (s : State) (port : Nat) (t : Nat) (c0 d0 : Nat) : (State.setBusyTo s port t).rdShadow c0 d0 = s.rdShadow c0 d0 := rfl
@[simp] theorem State.setMc_chanOf (s : State) (c : Nat) (m : Mc) (c0 : Nat) : (State.setMc s c m).chanOf c0 = s.chanOf c0 := rfl
@[simp] theorem State.setMc_tgOf (s : State) (c : Nat) (m : Mc) (c0 : Nat) : (State.setMc s c m).tgOf c0 = s.tgOf c0 := rfl
@[simp] theorem State.setMc_view_ (s : State) (c : Nat) (m : Mc) (c0 : Nat) : (State.setMc s c m).view_ c0 = s.view_ c0 := rfl
@[simp] theorem State.setMc_link_ (s : State) (c : Nat) (m : Mc) (c0 : Nat) : (State.setMc s c m).link_ c0 = s.link_ c0 := rfl
@[simp] theorem State.setMc_train_ (s : State) (c : Nat) (m : Mc) (c0 d0 : Nat) : (State.setMc s c m).train_ c0 d0 = s.train_ c0 d0 := rfl
@[simp] theorem State.setMc_jk (s : State) (c : Nat) (m : Mc) (c0 : Nat) : (State.setMc s c m).jk c0 = s.jk c0 := rfl
@[simp] theorem State.setMc_q (s : State) (c : Nat) (m : Mc) (c0 : Nat) : (State.setMc s c m).q c0 = s.q c0 := rfl
@[simp] theorem State.setMc_engOf (s : State) (c : Nat) (m : Mc) (c0 : Nat) : (State.setMc s c m).engOf c0 = s.engOf c0 := rfl
@[simp] theorem State.setMc_intk (s : State) (c : Nat) (m : Mc) (c0 : Nat) : (State.setMc s c m).intk c0 = s.intk c0 := rfl
@[simp] theorem State.setMc_pipe_ (s : State) (c : Nat) (m : Mc) (c0 : Nat) : (State.setMc s c m).pipe_ c0 = s.pipe_ c0 := rfl
@[simp] theorem State.setMc_corr_ (s : State) (c : Nat) (m : Mc) (c0 : Nat) : (State.setMc s c m).corr_ c0 = s.corr_ c0 := rfl
@[simp] theorem State.setMc_sti (s : State) (c : Nat) (m : Mc) (c0 : Nat) : (State.setMc s c m).sti c0 = s.sti c0 := rfl
@[simp] theorem State.setMc_sess (s : State) (c : Nat) (m : Mc) (c0 : Nat) : (State.setMc s c m).sess c0 = s.sess c0 := rfl
@[simp] theorem State.setMc_str_ (s : State) (c : Nat) (m : Mc) (c0 : Nat) : (State.setMc s c m).str_ c0 = s.str_ c0 := rfl
@[simp] theorem State.setMc_twlOf (s : State) (c : Nat) (m : Mc) (c0 : Nat) : (State.setMc s c m).twlOf c0 = s.twlOf c0 := rfl
@[simp] theorem State.setMc_ch (s : State) (c : Nat) (m : Mc) (c0 : Nat) : (State.setMc s c m).ch c0 = s.ch c0 := rfl
@[simp] theorem State.setMc_mstV (s : State) (c : Nat) (m : Mc) (c0 : Nat) : (State.setMc s c m).mstV c0 = s.mstV c0 := rfl
@[simp] theorem State.setMc_calOf (s : State) (c : Nat) (m : Mc) (c0 : Nat) : (State.setMc s c m).calOf c0 = s.calOf c0 := rfl
@[simp] theorem State.setMc_fifoOf (s : State) (c : Nat) (m : Mc) (c0 : Nat) : (State.setMc s c m).fifoOf c0 = s.fifoOf c0 := rfl
@[simp] theorem State.setMc_pend (s : State) (c : Nat) (m : Mc) (c0 : Nat) : (State.setMc s c m).pend c0 = s.pend c0 := rfl
@[simp] theorem State.setMc_mode (s : State) (c : Nat) (m : Mc)  : (State.setMc s c m).mode  = s.mode  := rfl
@[simp] theorem State.setMc_on (s : State) (c : Nat) (m : Mc) (c0 : Nat) (d0 : Fld) : (State.setMc s c m).on c0 d0 = s.on c0 d0 := rfl
@[simp] theorem State.setMc_rdShadow (s : State) (c : Nat) (m : Mc) (c0 d0 : Nat) : (State.setMc s c m).rdShadow c0 d0 = s.rdShadow c0 d0 := rfl
@[simp] theorem State.takeTraining_chanOf (s : State) (c0 : Nat) : (State.takeTraining s).chanOf c0 = s.chanOf c0 := rfl
@[simp] theorem State.takeTraining_tgOf (s : State) (c0 : Nat) : (State.takeTraining s).tgOf c0 = s.tgOf c0 := rfl
@[simp] theorem State.takeTraining_view_ (s : State) (c0 : Nat) : (State.takeTraining s).view_ c0 = s.view_ c0 := rfl
@[simp] theorem State.takeTraining_link_ (s : State) (c0 : Nat) : (State.takeTraining s).link_ c0 = s.link_ c0 := rfl
@[simp] theorem State.takeTraining_train_ (s : State) (c0 d0 : Nat) : (State.takeTraining s).train_ c0 d0 = s.train_ c0 d0 := rfl
@[simp] theorem State.takeTraining_jk (s : State) (c0 : Nat) : (State.takeTraining s).jk c0 = s.jk c0 := rfl
@[simp] theorem State.takeTraining_q (s : State) (c0 : Nat) : (State.takeTraining s).q c0 = s.q c0 := rfl
@[simp] theorem State.takeTraining_mcOf (s : State) (c0 : Nat) : (State.takeTraining s).mcOf c0 = s.mcOf c0 := rfl
@[simp] theorem State.takeTraining_engOf (s : State) (c0 : Nat) : (State.takeTraining s).engOf c0 = s.engOf c0 := rfl
@[simp] theorem State.takeTraining_intk (s : State) (c0 : Nat) : (State.takeTraining s).intk c0 = s.intk c0 := rfl
@[simp] theorem State.takeTraining_pipe_ (s : State) (c0 : Nat) : (State.takeTraining s).pipe_ c0 = s.pipe_ c0 := rfl
@[simp] theorem State.takeTraining_corr_ (s : State) (c0 : Nat) : (State.takeTraining s).corr_ c0 = s.corr_ c0 := rfl
@[simp] theorem State.takeTraining_sti (s : State) (c0 : Nat) : (State.takeTraining s).sti c0 = s.sti c0 := rfl
@[simp] theorem State.takeTraining_sess (s : State) (c0 : Nat) : (State.takeTraining s).sess c0 = s.sess c0 := rfl
@[simp] theorem State.takeTraining_str_ (s : State) (c0 : Nat) : (State.takeTraining s).str_ c0 = s.str_ c0 := rfl
@[simp] theorem State.takeTraining_twlOf (s : State) (c0 : Nat) : (State.takeTraining s).twlOf c0 = s.twlOf c0 := rfl
@[simp] theorem State.takeTraining_ch (s : State) (c0 : Nat) : (State.takeTraining s).ch c0 = s.ch c0 := rfl
@[simp] theorem State.takeTraining_mstV (s : State) (c0 : Nat) : (State.takeTraining s).mstV c0 = s.mstV c0 := rfl
@[simp] theorem State.takeTraining_calOf (s : State) (c0 : Nat) : (State.takeTraining s).calOf c0 = s.calOf c0 := rfl
@[simp] theorem State.takeTraining_fifoOf (s : State) (c0 : Nat) : (State.takeTraining s).fifoOf c0 = s.fifoOf c0 := rfl
@[simp] theorem State.takeTraining_pend (s : State) (c0 : Nat) : (State.takeTraining s).pend c0 = s.pend c0 := rfl
@[simp] theorem State.takeTraining_mode (s : State)  : (State.takeTraining s).mode  = s.mode  := rfl
@[simp] theorem State.takeTraining_on (s : State) (c0 : Nat) (d0 : Fld) : (State.takeTraining s).on c0 d0 = s.on c0 d0 := rfl
@[simp] theorem State.takeTraining_rdShadow (s : State) (c0 d0 : Nat) : (State.takeTraining s).rdShadow c0 d0 = s.rdShadow c0 d0 := rfl
@[simp] theorem State.setView_chanOf (s : State) (v : Nat) (x : ViewSt) (c0 : Nat) : (State.setView s v x).chanOf c0 = s.chanOf c0 := rfl
@[simp] theorem State.setView_tgOf (s : State) (v : Nat) (x : ViewSt) (c0 : Nat) : (State.setView s v x).tgOf c0 = s.tgOf c0 := rfl
@[simp] theorem State.setView_link_ (s : State) (v : Nat) (x : ViewSt) (c0 : Nat) : (State.setView s v x).link_ c0 = s.link_ c0 := rfl
@[simp] theorem State.setView_train_ (s : State) (v : Nat) (x : ViewSt) (c0 d0 : Nat) : (State.setView s v x).train_ c0 d0 = s.train_ c0 d0 := rfl
@[simp] theorem State.setView_jk (s : State) (v : Nat) (x : ViewSt) (c0 : Nat) : (State.setView s v x).jk c0 = s.jk c0 := rfl
@[simp] theorem State.setView_q (s : State) (v : Nat) (x : ViewSt) (c0 : Nat) : (State.setView s v x).q c0 = s.q c0 := rfl
@[simp] theorem State.setView_mcOf (s : State) (v : Nat) (x : ViewSt) (c0 : Nat) : (State.setView s v x).mcOf c0 = s.mcOf c0 := rfl
@[simp] theorem State.setView_engOf (s : State) (v : Nat) (x : ViewSt) (c0 : Nat) : (State.setView s v x).engOf c0 = s.engOf c0 := rfl
@[simp] theorem State.setView_intk (s : State) (v : Nat) (x : ViewSt) (c0 : Nat) : (State.setView s v x).intk c0 = s.intk c0 := rfl
@[simp] theorem State.setView_pipe_ (s : State) (v : Nat) (x : ViewSt) (c0 : Nat) : (State.setView s v x).pipe_ c0 = s.pipe_ c0 := rfl
@[simp] theorem State.setView_corr_ (s : State) (v : Nat) (x : ViewSt) (c0 : Nat) : (State.setView s v x).corr_ c0 = s.corr_ c0 := rfl
@[simp] theorem State.setView_sti (s : State) (v : Nat) (x : ViewSt) (c0 : Nat) : (State.setView s v x).sti c0 = s.sti c0 := rfl
@[simp] theorem State.setView_sess (s : State) (v : Nat) (x : ViewSt) (c0 : Nat) : (State.setView s v x).sess c0 = s.sess c0 := rfl
@[simp] theorem State.setView_str_ (s : State) (v : Nat) (x : ViewSt) (c0 : Nat) : (State.setView s v x).str_ c0 = s.str_ c0 := rfl
@[simp] theorem State.setView_twlOf (s : State) (v : Nat) (x : ViewSt) (c0 : Nat) : (State.setView s v x).twlOf c0 = s.twlOf c0 := rfl
@[simp] theorem State.setView_ch (s : State) (v : Nat) (x : ViewSt) (c0 : Nat) : (State.setView s v x).ch c0 = s.ch c0 := rfl
@[simp] theorem State.setView_mstV (s : State) (v : Nat) (x : ViewSt) (c0 : Nat) : (State.setView s v x).mstV c0 = s.mstV c0 := rfl
@[simp] theorem State.setView_calOf (s : State) (v : Nat) (x : ViewSt) (c0 : Nat) : (State.setView s v x).calOf c0 = s.calOf c0 := rfl
@[simp] theorem State.setView_fifoOf (s : State) (v : Nat) (x : ViewSt) (c0 : Nat) : (State.setView s v x).fifoOf c0 = s.fifoOf c0 := rfl
@[simp] theorem State.setView_pend (s : State) (v : Nat) (x : ViewSt) (c0 : Nat) : (State.setView s v x).pend c0 = s.pend c0 := rfl
@[simp] theorem State.setView_mode (s : State) (v : Nat) (x : ViewSt)  : (State.setView s v x).mode  = s.mode  := rfl
@[simp] theorem State.setView_on (s : State) (v : Nat) (x : ViewSt) (c0 : Nat) (d0 : Fld) : (State.setView s v x).on c0 d0 = s.on c0 d0 := rfl
@[simp] theorem State.setView_rdShadow (s : State) (v : Nat) (x : ViewSt) (c0 d0 : Nat) : (State.setView s v x).rdShadow c0 d0 = s.rdShadow c0 d0 := rfl
@[simp] theorem State.setChan_tgOf (s : State) (ch : Nat) (v : Chan) (c0 : Nat) : (State.setChan s ch v).tgOf c0 = s.tgOf c0 := rfl
@[simp] theorem State.setChan_view_ (s : State) (ch : Nat) (v : Chan) (c0 : Nat) : (State.setChan s ch v).view_ c0 = s.view_ c0 := rfl
@[simp] theorem State.setChan_link_ (s : State) (ch : Nat) (v : Chan) (c0 : Nat) : (State.setChan s ch v).link_ c0 = s.link_ c0 := rfl
@[simp] theorem State.setChan_train_ (s : State) (ch : Nat) (v : Chan) (c0 d0 : Nat) : (State.setChan s ch v).train_ c0 d0 = s.train_ c0 d0 := rfl
@[simp] theorem State.setChan_jk (s : State) (ch : Nat) (v : Chan) (c0 : Nat) : (State.setChan s ch v).jk c0 = s.jk c0 := rfl
@[simp] theorem State.setChan_q (s : State) (ch : Nat) (v : Chan) (c0 : Nat) : (State.setChan s ch v).q c0 = s.q c0 := rfl
@[simp] theorem State.setChan_mcOf (s : State) (ch : Nat) (v : Chan) (c0 : Nat) : (State.setChan s ch v).mcOf c0 = s.mcOf c0 := rfl
@[simp] theorem State.setChan_engOf (s : State) (ch : Nat) (v : Chan) (c0 : Nat) : (State.setChan s ch v).engOf c0 = s.engOf c0 := rfl
@[simp] theorem State.setChan_intk (s : State) (ch : Nat) (v : Chan) (c0 : Nat) : (State.setChan s ch v).intk c0 = s.intk c0 := rfl
@[simp] theorem State.setChan_pipe_ (s : State) (ch : Nat) (v : Chan) (c0 : Nat) : (State.setChan s ch v).pipe_ c0 = s.pipe_ c0 := rfl
@[simp] theorem State.setChan_corr_ (s : State) (ch : Nat) (v : Chan) (c0 : Nat) : (State.setChan s ch v).corr_ c0 = s.corr_ c0 := rfl
@[simp] theorem State.setChan_sti (s : State) (ch : Nat) (v : Chan) (c0 : Nat) : (State.setChan s ch v).sti c0 = s.sti c0 := rfl
@[simp] theorem State.setChan_sess (s : State) (ch : Nat) (v : Chan) (c0 : Nat) : (State.setChan s ch v).sess c0 = s.sess c0 := rfl
@[simp] theorem State.setChan_str_ (s : State) (ch : Nat) (v : Chan) (c0 : Nat) : (State.setChan s ch v).str_ c0 = s.str_ c0 := rfl
@[simp] theorem State.setChan_twlOf (s : State) (ch : Nat) (v : Chan) (c0 : Nat) : (State.setChan s ch v).twlOf c0 = s.twlOf c0 := rfl
@[simp] theorem State.setChan_ch (s : State) (ch : Nat) (v : Chan) (c0 : Nat) : (State.setChan s ch v).ch c0 = s.ch c0 := rfl
@[simp] theorem State.setChan_mstV (s : State) (ch : Nat) (v : Chan) (c0 : Nat) : (State.setChan s ch v).mstV c0 = s.mstV c0 := rfl
@[simp] theorem State.setChan_calOf (s : State) (ch : Nat) (v : Chan) (c0 : Nat) : (State.setChan s ch v).calOf c0 = s.calOf c0 := rfl
@[simp] theorem State.setChan_fifoOf (s : State) (ch : Nat) (v : Chan) (c0 : Nat) : (State.setChan s ch v).fifoOf c0 = s.fifoOf c0 := rfl
@[simp] theorem State.setChan_pend (s : State) (ch : Nat) (v : Chan) (c0 : Nat) : (State.setChan s ch v).pend c0 = s.pend c0 := rfl
@[simp] theorem State.setChan_mode (s : State) (ch : Nat) (v : Chan)  : (State.setChan s ch v).mode  = s.mode  := rfl
@[simp] theorem State.setChan_on (s : State) (ch : Nat) (v : Chan) (c0 : Nat) (d0 : Fld) : (State.setChan s ch v).on c0 d0 = s.on c0 d0 := rfl
@[simp] theorem State.setChan_rdShadow (s : State) (ch : Nat) (v : Chan) (c0 d0 : Nat) : (State.setChan s ch v).rdShadow c0 d0 = s.rdShadow c0 d0 := rfl
@[simp] theorem State.setTg_chanOf (s : State) (v : Nat) (g : TrigGen) (c0 : Nat) : (State.setTg s v g).chanOf c0 = s.chanOf c0 := rfl
@[simp] theorem State.setTg_view_ (s : State) (v : Nat) (g : TrigGen) (c0 : Nat) : (State.setTg s v g).view_ c0 = s.view_ c0 := rfl
@[simp] theorem State.setTg_link_ (s : State) (v : Nat) (g : TrigGen) (c0 : Nat) : (State.setTg s v g).link_ c0 = s.link_ c0 := rfl
@[simp] theorem State.setTg_train_ (s : State) (v : Nat) (g : TrigGen) (c0 d0 : Nat) : (State.setTg s v g).train_ c0 d0 = s.train_ c0 d0 := rfl
@[simp] theorem State.setTg_jk (s : State) (v : Nat) (g : TrigGen) (c0 : Nat) : (State.setTg s v g).jk c0 = s.jk c0 := rfl
@[simp] theorem State.setTg_q (s : State) (v : Nat) (g : TrigGen) (c0 : Nat) : (State.setTg s v g).q c0 = s.q c0 := rfl
@[simp] theorem State.setTg_mcOf (s : State) (v : Nat) (g : TrigGen) (c0 : Nat) : (State.setTg s v g).mcOf c0 = s.mcOf c0 := rfl
@[simp] theorem State.setTg_engOf (s : State) (v : Nat) (g : TrigGen) (c0 : Nat) : (State.setTg s v g).engOf c0 = s.engOf c0 := rfl
@[simp] theorem State.setTg_intk (s : State) (v : Nat) (g : TrigGen) (c0 : Nat) : (State.setTg s v g).intk c0 = s.intk c0 := rfl
@[simp] theorem State.setTg_pipe_ (s : State) (v : Nat) (g : TrigGen) (c0 : Nat) : (State.setTg s v g).pipe_ c0 = s.pipe_ c0 := rfl
@[simp] theorem State.setTg_corr_ (s : State) (v : Nat) (g : TrigGen) (c0 : Nat) : (State.setTg s v g).corr_ c0 = s.corr_ c0 := rfl
@[simp] theorem State.setTg_sti (s : State) (v : Nat) (g : TrigGen) (c0 : Nat) : (State.setTg s v g).sti c0 = s.sti c0 := rfl
@[simp] theorem State.setTg_sess (s : State) (v : Nat) (g : TrigGen) (c0 : Nat) : (State.setTg s v g).sess c0 = s.sess c0 := rfl
@[simp] theorem State.setTg_str_ (s : State) (v : Nat) (g : TrigGen) (c0 : Nat) : (State.setTg s v g).str_ c0 = s.str_ c0 := rfl
@[simp] theorem State.setTg_twlOf (s : State) (v : Nat) (g : TrigGen) (c0 : Nat) : (State.setTg s v g).twlOf c0 = s.twlOf c0 := rfl
@[simp] theorem State.setTg_ch (s : State) (v : Nat) (g : TrigGen) (c0 : Nat) : (State.setTg s v g).ch c0 = s.ch c0 := rfl
@[simp] theorem State.setTg_mstV (s : State) (v : Nat) (g : TrigGen) (c0 : Nat) : (State.setTg s v g).mstV c0 = s.mstV c0 := rfl
@[simp] theorem State.setTg_calOf (s : State) (v : Nat) (g : TrigGen) (c0 : Nat) : (State.setTg s v g).calOf c0 = s.calOf c0 := rfl
@[simp] theorem State.setTg_fifoOf (s : State) (v : Nat) (g : TrigGen) (c0 : Nat) : (State.setTg s v g).fifoOf c0 = s.fifoOf c0 := rfl
@[simp] theorem State.setTg_pend (s : State) (v : Nat) (g : TrigGen) (c0 : Nat) : (State.setTg s v g).pend c0 = s.pend c0 := rfl
@[simp] theorem State.setTg_mode (s : State) (v : Nat) (g : TrigGen)  : (State.setTg s v g).mode  = s.mode  := rfl
@[simp] theorem State.setTg_on (s : State) (v : Nat) (g : TrigGen) (c0 : Nat) (d0 : Fld) : (State.setTg s v g).on c0 d0 = s.on c0 d0 := rfl
@[simp] theorem State.setTg_rdShadow (s : State) (v : Nat) (g : TrigGen) (c0 d0 : Nat) : (State.setTg s v g).rdShadow c0 d0 = s.rdShadow c0 d0 := rfl
@[simp] theorem State.putJk_chanOf (s : State) (q : Nat) (j : Joker) (c0 : Nat) : (State.putJk s q j).chanOf c0 = s.chanOf c0 := rfl
@[simp] theorem State.putJk_tgOf (s : State) (q : Nat) (j : Joker) (c0 : Nat) : (State.putJk s q j).tgOf c0 = s.tgOf c0 := rfl
@[simp] theorem State.putJk_view_ (s : State) (q : Nat) (j : Joker) (c0 : Nat) : (State.putJk s q j).view_ c0 = s.view_ c0 := rfl
@[simp] theorem State.putJk_link_ (s : State) (q : Nat) (j : Joker) (c0 : Nat) : (State.putJk s q j).link_ c0 = s.link_ c0 := rfl
@[simp] theorem State.putJk_train_ (s : State) (q : Nat) (j : Joker) (c0 d0 : Nat) : (State.putJk s q j).train_ c0 d0 = s.train_ c0 d0 := rfl
@[simp] theorem State.putJk_q (s : State) (q : Nat) (j : Joker) (c0 : Nat) : (State.putJk s q j).q c0 = s.q c0 := rfl
@[simp] theorem State.putJk_mcOf (s : State) (q : Nat) (j : Joker) (c0 : Nat) : (State.putJk s q j).mcOf c0 = s.mcOf c0 := rfl
@[simp] theorem State.putJk_engOf (s : State) (q : Nat) (j : Joker) (c0 : Nat) : (State.putJk s q j).engOf c0 = s.engOf c0 := rfl
@[simp] theorem State.putJk_intk (s : State) (q : Nat) (j : Joker) (c0 : Nat) : (State.putJk s q j).intk c0 = s.intk c0 := rfl
@[simp] theorem State.putJk_pipe_ (s : State) (q : Nat) (j : Joker) (c0 : Nat) : (State.putJk s q j).pipe_ c0 = s.pipe_ c0 := rfl
@[simp] theorem State.putJk_corr_ (s : State) (q : Nat) (j : Joker) (c0 : Nat) : (State.putJk s q j).corr_ c0 = s.corr_ c0 := rfl
@[simp] theorem State.putJk_sti (s : State) (q : Nat) (j : Joker) (c0 : Nat) : (State.putJk s q j).sti c0 = s.sti c0 := rfl
@[simp] theorem State.putJk_sess (s : State) (q : Nat) (j : Joker) (c0 : Nat) : (State.putJk s q j).sess c0 = s.sess c0 := rfl
@[simp] theorem State.putJk_str_ (s : State) (q : Nat) (j : Joker) (c0 : Nat) : (State.putJk s q j).str_ c0 = s.str_ c0 := rfl
@[simp] theorem State.putJk_twlOf (s : State) (q : Nat) (j : Joker) (c0 : Nat) : (State.putJk s q j).twlOf c0 = s.twlOf c0 := rfl
@[simp] theorem State.putJk_ch (s : State) (q : Nat) (j : Joker) (c0 : Nat) : (State.putJk s q j).ch c0 = s.ch c0 := rfl
@[simp] theorem State.putJk_mstV (s : State) (q : Nat) (j : Joker) (c0 : Nat) : (State.putJk s q j).mstV c0 = s.mstV c0 := rfl
@[simp] theorem State.putJk_calOf (s : State) (q : Nat) (j : Joker) (c0 : Nat) : (State.putJk s q j).calOf c0 = s.calOf c0 := rfl
@[simp] theorem State.putJk_fifoOf (s : State) (q : Nat) (j : Joker) (c0 : Nat) : (State.putJk s q j).fifoOf c0 = s.fifoOf c0 := rfl
@[simp] theorem State.putJk_pend (s : State) (q : Nat) (j : Joker) (c0 : Nat) : (State.putJk s q j).pend c0 = s.pend c0 := rfl
@[simp] theorem State.putJk_mode (s : State) (q : Nat) (j : Joker)  : (State.putJk s q j).mode  = s.mode  := rfl
@[simp] theorem State.putJk_on (s : State) (q : Nat) (j : Joker) (c0 : Nat) (d0 : Fld) : (State.putJk s q j).on c0 d0 = s.on c0 d0 := rfl
@[simp] theorem State.putJk_rdShadow (s : State) (q : Nat) (j : Joker) (c0 d0 : Nat) : (State.putJk s q j).rdShadow c0 d0 = s.rdShadow c0 d0 := rfl
@[simp] theorem State.setTwl_chanOf (s : State) (n : Nat) (v : Twl) (c0 : Nat) : (State.setTwl s n v).chanOf c0 = s.chanOf c0 := rfl
@[simp] theorem State.setTwl_tgOf (s : State) (n : Nat) (v : Twl) (c0 : Nat) : (State.setTwl s n v).tgOf c0 = s.tgOf c0 := rfl
@[simp] theorem State.setTwl_view_ (s : State) (n : Nat) (v : Twl) (c0 : Nat) : (State.setTwl s n v).view_ c0 = s.view_ c0 := rfl
@[simp] theorem State.setTwl_link_ (s : State) (n : Nat) (v : Twl) (c0 : Nat) : (State.setTwl s n v).link_ c0 = s.link_ c0 := rfl
@[simp] theorem State.setTwl_train_ (s : State) (n : Nat) (v : Twl) (c0 d0 : Nat) : (State.setTwl s n v).train_ c0 d0 = s.train_ c0 d0 := rfl
@[simp] theorem State.setTwl_jk (s : State) (n : Nat) (v : Twl) (c0 : Nat) : (State.setTwl s n v).jk c0 = s.jk c0 := rfl
@[simp] theorem State.setTwl_q (s : State) (n : Nat) (v : Twl) (c0 : Nat) : (State.setTwl s n v).q c0 = s.q c0 := rfl
@[simp] theorem State.setTwl_mcOf (s : State) (n : Nat) (v : Twl) (c0 : Nat) : (State.setTwl s n v).mcOf c0 = s.mcOf c0 := rfl
@[simp] theorem State.setTwl_engOf (s : State) (n : Nat) (v : Twl) (c0 : Nat) : (State.setTwl s n v).engOf c0 = s.engOf c0 := rfl
@[simp] theorem State.setTwl_intk (s : State) (n : Nat) (v : Twl) (c0 : Nat) : (State.setTwl s n v).intk c0 = s.intk c0 := rfl
@[simp] theorem State.setTwl_pipe_ (s : State) (n : Nat) (v : Twl) (c0 : Nat) : (State.setTwl s n v).pipe_ c0 = s.pipe_ c0 := rfl
@[simp] theorem State.setTwl_corr_ (s : State) (n : Nat) (v : Twl) (c0 : Nat) : (State.setTwl s n v).corr_ c0 = s.corr_ c0 := rfl
@[simp] theorem State.setTwl_sti (s : State) (n : Nat) (v : Twl) (c0 : Nat) : (State.setTwl s n v).sti c0 = s.sti c0 := rfl
@[simp] theorem State.setTwl_sess (s : State) (n : Nat) (v : Twl) (c0 : Nat) : (State.setTwl s n v).sess c0 = s.sess c0 := rfl
@[simp] theorem State.setTwl_str_ (s : State) (n : Nat) (v : Twl) (c0 : Nat) : (State.setTwl s n v).str_ c0 = s.str_ c0 := rfl
@[simp] theorem State.setTwl_ch (s : State) (n : Nat) (v : Twl) (c0 : Nat) : (State.setTwl s n v).ch c0 = s.ch c0 := rfl
@[simp] theorem State.setTwl_mstV (s : State) (n : Nat) (v : Twl) (c0 : Nat) : (State.setTwl s n v).mstV c0 = s.mstV c0 := rfl
@[simp] theorem State.setTwl_calOf (s : State) (n : Nat) (v : Twl) (c0 : Nat) : (State.setTwl s n v).calOf c0 = s.calOf c0 := rfl
@[simp] theorem State.setTwl_fifoOf (s : State) (n : Nat) (v : Twl) (c0 : Nat) : (State.setTwl s n v).fifoOf c0 = s.fifoOf c0 := rfl
@[simp] theorem State.setTwl_pend (s : State) (n : Nat) (v : Twl) (c0 : Nat) : (State.setTwl s n v).pend c0 = s.pend c0 := rfl
@[simp] theorem State.setTwl_mode (s : State) (n : Nat) (v : Twl)  : (State.setTwl s n v).mode  = s.mode  := rfl
@[simp] theorem State.setTwl_on (s : State) (n : Nat) (v : Twl) (c0 : Nat) (d0 : Fld) : (State.setTwl s n v).on c0 d0 = s.on c0 d0 := rfl
@[simp] theorem State.setTwl_rdShadow (s : State) (n : Nat) (v : Twl) (c0 d0 : Nat) : (State.setTwl s n v).rdShadow c0 d0 = s.rdShadow c0 d0 := rfl
@[simp] theorem State.putMst_chanOf (s : State) (v : Nat) (x : MstView) (c0 : Nat) : (State.putMst s v x).chanOf c0 = s.chanOf c0 := rfl
@[simp] theorem State.putMst_tgOf (s : State) (v : Nat) (x : MstView) (c0 : Nat) : (State.putMst s v x).tgOf c0 = s.tgOf c0 := rfl
@[simp] theorem State.putMst_view_ (s : State) (v : Nat) (x : MstView) (c0 : Nat) : (State.putMst s v x).view_ c0 = s.view_ c0 := rfl
@[simp] theorem State.putMst_link_ (s : State) (v : Nat) (x : MstView) (c0 : Nat) : (State.putMst s v x).link_ c0 = s.link_ c0 := rfl
@[simp] theorem State.putMst_train_ (s : State) (v : Nat) (x : MstView) (c0 d0 : Nat) : (State.putMst s v x).train_ c0 d0 = s.train_ c0 d0 := rfl
@[simp] theorem State.putMst_jk (s : State) (v : Nat) (x : MstView) (c0 : Nat) : (State.putMst s v x).jk c0 = s.jk c0 := rfl
@[simp] theorem State.putMst_q (s : State) (v : Nat) (x : MstView) (c0 : Nat) : (State.putMst s v x).q c0 = s.q c0 := rfl
@[simp] theorem State.putMst_mcOf (s : State) (v : Nat) (x : MstView) (c0 : Nat) : (State.putMst s v x).mcOf c0 = s.mcOf c0 := rfl
@[simp] theorem State.putMst_engOf (s : State) (v : Nat) (x : MstView) (c0 : Nat) : (State.putMst s v x).engOf c0 = s.engOf c0 := rfl
@[simp] theorem State.putMst_intk (s : State) (v : Nat) (x : MstView) (c0 : Nat) : (State.putMst s v x).intk c0 = s.intk c0 := rfl
@[simp] theorem State.putMst_pipe_ (s : State) (v : Nat) (x : MstView) (c0 : Nat) : (State.putMst s v x).pipe_ c0 = s.pipe_ c0 := rfl
@[simp] theorem State.putMst_corr_ (s : State) (v : Nat) (x : MstView) (c0 : Nat) : (State.putMst s v x).corr_ c0 = s.corr_ c0 := rfl
@[simp] theorem State.putMst_sti (s : State) (v : Nat) (x : MstView) (c0 : Nat) : (State.putMst s v x).sti c0 = s.sti c0 := rfl
@[simp] theorem State.putMst_sess (s : State) (v : Nat) (x : MstView) (c0 : Nat) : (State.putMst s v x).sess c0 = s.sess c0 := rfl
@[simp] theorem State.putMst_str_ (s : State) (v : Nat) (x : MstView) (c0 : Nat) : (State.putMst s v x).str_ c0 = s.str_ c0 := rfl
@[simp] theorem State.putMst_twlOf (s : State) (v : Nat) (x : MstView) (c0 : Nat) : (State.putMst s v x).twlOf c0 = s.twlOf c0 := rfl
@[simp] theorem State.putMst_ch (s : State) (v : Nat) (x : MstView) (c0 : Nat) : (State.putMst s v x).ch c0 = s.ch c0 := rfl
@[simp] theorem State.putMst_calOf (s : State) (v : Nat) (x : MstView) (c0 : Nat) : (State.putMst s v x).calOf c0 = s.calOf c0 := rfl
@[simp] theorem State.putMst_fifoOf (s : State) (v : Nat) (x : MstView) (c0 : Nat) : (State.putMst s v x).fifoOf c0 = s.fifoOf c0 := rfl
@[simp] theorem State.putMst_pend (s : State) (v : Nat) (x : MstView) (c0 : Nat) : (State.putMst s v x).pend c0 = s.pend c0 := rfl
@[simp] theorem State.putMst_mode (s : State) (v : Nat) (x : MstView)  : (State.putMst s v x).mode  = s.mode  := rfl
@[simp] theorem State.putMst_on (s : State) (v : Nat) (x : MstView) (c0 : Nat) (d0 : Fld) : (State.putMst s v x).on c0 d0 = s.on c0 d0 := rfl
@[simp] theorem State.putMst_rdShadow (s : State) (v : Nat) (x : MstView) (c0 d0 : Nat) : (State.putMst s v x).rdShadow c0 d0 = s.rdShadow c0 d0 := rfl
@[simp] theorem State.putIntk_chanOf (s : State) (p : Nat) (x : Intake) (c0 : Nat) : (State.putIntk s p x).chanOf c0 = s.chanOf c0 := rfl
@[simp] theorem State.putIntk_tgOf (s : State) (p : Nat) (x : Intake) (c0 : Nat) : (State.putIntk s p x).tgOf c0 = s.tgOf c0 := rfl
@[simp] theorem State.putIntk_view_ (s : State) (p : Nat) (x : Intake) (c0 : Nat) : (State.putIntk s p x).view_ c0 = s.view_ c0 := rfl
@[simp] theorem State.putIntk_link_ (s : State) (p : Nat) (x : Intake) (c0 : Nat) : (State.putIntk s p x).link_ c0 = s.link_ c0 := rfl
@[simp] theorem State.putIntk_train_ (s : State) (p : Nat) (x : Intake) (c0 d0 : Nat) : (State.putIntk s p x).train_ c0 d0 = s.train_ c0 d0 := rfl
@[simp] theorem State.putIntk_jk (s : State) (p : Nat) (x : Intake) (c0 : Nat) : (State.putIntk s p x).jk c0 = s.jk c0 := rfl
@[simp] theorem State.putIntk_q (s : State) (p : Nat) (x : Intake) (c0 : Nat) : (State.putIntk s p x).q c0 = s.q c0 := rfl
@[simp] theorem State.putIntk_mcOf (s : State) (p : Nat) (x : Intake) (c0 : Nat) : (State.putIntk s p x).mcOf c0 = s.mcOf c0 := rfl
@[simp] theorem State.putIntk_engOf (s : State) (p : Nat) (x : Intake) (c0 : Nat) : (State.putIntk s p x).engOf c0 = s.engOf c0 := rfl
@[simp] theorem State.putIntk_pipe_ (s : State) (p : Nat) (x : Intake) (c0 : Nat) : (State.putIntk s p x).pipe_ c0 = s.pipe_ c0 := rfl
@[simp] theorem State.putIntk_corr_ (s : State) (p : Nat) (x : Intake) (c0 : Nat) : (State.putIntk s p x).corr_ c0 = s.corr_ c0 := rfl
@[simp] theorem State.putIntk_sti (s : State) (p : Nat) (x : Intake) (c0 : Nat) : (State.putIntk s p x).sti c0 = s.sti c0 := rfl
@[simp] theorem State.putIntk_sess (s : State) (p : Nat) (x : Intake) (c0 : Nat) : (State.putIntk s p x).sess c0 = s.sess c0 := rfl
@[simp] theorem State.putIntk_str_ (s : State) (p : Nat) (x : Intake) (c0 : Nat) : (State.putIntk s p x).str_ c0 = s.str_ c0 := rfl
@[simp] theorem State.putIntk_twlOf (s : State) (p : Nat) (x : Intake) (c0 : Nat) : (State.putIntk s p x).twlOf c0 = s.twlOf c0 := rfl
@[simp] theorem State.putIntk_ch (s : State) (p : Nat) (x : Intake) (c0 : Nat) : (State.putIntk s p x).ch c0 = s.ch c0 := rfl
@[simp] theorem State.putIntk_mstV (s : State) (p : Nat) (x : Intake) (c0 : Nat) : (State.putIntk s p x).mstV c0 = s.mstV c0 := rfl
@[simp] theorem State.putIntk_calOf (s : State) (p : Nat) (x : Intake) (c0 : Nat) : (State.putIntk s p x).calOf c0 = s.calOf c0 := rfl
@[simp] theorem State.putIntk_fifoOf (s : State) (p : Nat) (x : Intake) (c0 : Nat) : (State.putIntk s p x).fifoOf c0 = s.fifoOf c0 := rfl
@[simp] theorem State.putIntk_pend (s : State) (p : Nat) (x : Intake) (c0 : Nat) : (State.putIntk s p x).pend c0 = s.pend c0 := rfl
@[simp] theorem State.putIntk_mode (s : State) (p : Nat) (x : Intake)  : (State.putIntk s p x).mode  = s.mode  := rfl
@[simp] theorem State.putIntk_on (s : State) (p : Nat) (x : Intake) (c0 : Nat) (d0 : Fld) : (State.putIntk s p x).on c0 d0 = s.on c0 d0 := rfl
@[simp] theorem State.putIntk_rdShadow (s : State) (p : Nat) (x : Intake) (c0 d0 : Nat) : (State.putIntk s p x).rdShadow c0 d0 = s.rdShadow c0 d0 := rfl
@[simp] theorem State.putPipe_chanOf (s : State) (g : Nat) (x : Pipe) (c0 : Nat) : (State.putPipe s g x).chanOf c0 = s.chanOf c0 := rfl
@[simp] theorem State.putPipe_tgOf (s : State) (g : Nat) (x : Pipe) (c0 : Nat) : (State.putPipe s g x).tgOf c0 = s.tgOf c0 := rfl
@[simp] theorem State.putPipe_view_ (s : State) (g : Nat) (x : Pipe) (c0 : Nat) : (State.putPipe s g x).view_ c0 = s.view_ c0 := rfl
@[simp] theorem State.putPipe_link_ (s : State) (g : Nat) (x : Pipe) (c0 : Nat) : (State.putPipe s g x).link_ c0 = s.link_ c0 := rfl
@[simp] theorem State.putPipe_train_ (s : State) (g : Nat) (x : Pipe) (c0 d0 : Nat) : (State.putPipe s g x).train_ c0 d0 = s.train_ c0 d0 := rfl
@[simp] theorem State.putPipe_jk (s : State) (g : Nat) (x : Pipe) (c0 : Nat) : (State.putPipe s g x).jk c0 = s.jk c0 := rfl
@[simp] theorem State.putPipe_q (s : State) (g : Nat) (x : Pipe) (c0 : Nat) : (State.putPipe s g x).q c0 = s.q c0 := rfl
@[simp] theorem State.putPipe_mcOf (s : State) (g : Nat) (x : Pipe) (c0 : Nat) : (State.putPipe s g x).mcOf c0 = s.mcOf c0 := rfl
@[simp] theorem State.putPipe_engOf (s : State) (g : Nat) (x : Pipe) (c0 : Nat) : (State.putPipe s g x).engOf c0 = s.engOf c0 := rfl
@[simp] theorem State.putPipe_intk (s : State) (g : Nat) (x : Pipe) (c0 : Nat) : (State.putPipe s g x).intk c0 = s.intk c0 := rfl
@[simp] theorem State.putPipe_corr_ (s : State) (g : Nat) (x : Pipe) (c0 : Nat) : (State.putPipe s g x).corr_ c0 = s.corr_ c0 := rfl
@[simp] theorem State.putPipe_sti (s : State) (g : Nat) (x : Pipe) (c0 : Nat) : (State.putPipe s g x).sti c0 = s.sti c0 := rfl
@[simp] theorem State.putPipe_sess (s : State) (g : Nat) (x : Pipe) (c0 : Nat) : (State.putPipe s g x).sess c0 = s.sess c0 := rfl
@[simp] theorem State.putPipe_str_ (s : State) (g : Nat) (x : Pipe) (c0 : Nat) : (State.putPipe s g x).str_ c0 = s.str_ c0 := rfl
@[simp] theorem State.putPipe_twlOf (s : State) (g : Nat) (x : Pipe) (c0 : Nat) : (State.putPipe s g x).twlOf c0 = s.twlOf c0 := rfl
@[simp] theorem State.putPipe_ch (s : State) (g : Nat) (x : Pipe) (c0 : Nat) : (State.putPipe s g x).ch c0 = s.ch c0 := rfl
@[simp] theorem State.putPipe_mstV (s : State) (g : Nat) (x : Pipe) (c0 : Nat) : (State.putPipe s g x).mstV c0 = s.mstV c0 := rfl
@[simp] theorem State.putPipe_calOf (s : State) (g : Nat) (x : Pipe) (c0 : Nat) : (State.putPipe s g x).calOf c0 = s.calOf c0 := rfl
@[simp] theorem State.putPipe_fifoOf (s : State) (g : Nat) (x : Pipe) (c0 : Nat) : (State.putPipe s g x).fifoOf c0 = s.fifoOf c0 := rfl
@[simp] theorem State.putPipe_pend (s : State) (g : Nat) (x : Pipe) (c0 : Nat) : (State.putPipe s g x).pend c0 = s.pend c0 := rfl
@[simp] theorem State.putPipe_mode (s : State) (g : Nat) (x : Pipe)  : (State.putPipe s g x).mode  = s.mode  := rfl
@[simp] theorem State.putPipe_on (s : State) (g : Nat) (x : Pipe) (c0 : Nat) (d0 : Fld) : (State.putPipe s g x).on c0 d0 = s.on c0 d0 := rfl
@[simp] theorem State.putPipe_rdShadow (s : State) (g : Nat) (x : Pipe) (c0 d0 : Nat) : (State.putPipe s g x).rdShadow c0 d0 = s.rdShadow c0 d0 := rfl
@[simp] theorem State.putTapB_chanOf (s : State) (p : Nat) (stripe : Nat) (b : TapBuf) (c0 : Nat) : (State.putTapB s p stripe b).chanOf c0 = s.chanOf c0 := rfl
@[simp] theorem State.putTapB_tgOf (s : State) (p : Nat) (stripe : Nat) (b : TapBuf) (c0 : Nat) : (State.putTapB s p stripe b).tgOf c0 = s.tgOf c0 := rfl
@[simp] theorem State.putTapB_view_ (s : State) (p : Nat) (stripe : Nat) (b : TapBuf) (c0 : Nat) : (State.putTapB s p stripe b).view_ c0 = s.view_ c0 := rfl
@[simp] theorem State.putTapB_link_ (s : State) (p : Nat) (stripe : Nat) (b : TapBuf) (c0 : Nat) : (State.putTapB s p stripe b).link_ c0 = s.link_ c0 := rfl
@[simp] theorem State.putTapB_train_ (s : State) (p : Nat) (stripe : Nat) (b : TapBuf) (c0 d0 : Nat) : (State.putTapB s p stripe b).train_ c0 d0 = s.train_ c0 d0 := rfl
@[simp] theorem State.putTapB_jk (s : State) (p : Nat) (stripe : Nat) (b : TapBuf) (c0 : Nat) : (State.putTapB s p stripe b).jk c0 = s.jk c0 := rfl
@[simp] theorem State.putTapB_q (s : State) (p : Nat) (stripe : Nat) (b : TapBuf) (c0 : Nat) : (State.putTapB s p stripe b).q c0 = s.q c0 := rfl
@[simp] theorem State.putTapB_mcOf (s : State) (p : Nat) (stripe : Nat) (b : TapBuf) (c0 : Nat) : (State.putTapB s p stripe b).mcOf c0 = s.mcOf c0 := rfl
@[simp] theorem State.putTapB_engOf (s : State) (p : Nat) (stripe : Nat) (b : TapBuf) (c0 : Nat) : (State.putTapB s p stripe b).engOf c0 = s.engOf c0 := rfl
@[simp] theorem State.putTapB_intk (s : State) (p : Nat) (stripe : Nat) (b : TapBuf) (c0 : Nat) : (State.putTapB s p stripe b).intk c0 = s.intk c0 := rfl
@[simp] theorem State.putTapB_pipe_ (s : State) (p : Nat) (stripe : Nat) (b : TapBuf) (c0 : Nat) : (State.putTapB s p stripe b).pipe_ c0 = s.pipe_ c0 := rfl
@[simp] theorem State.putTapB_corr_ (s : State) (p : Nat) (stripe : Nat) (b : TapBuf) (c0 : Nat) : (State.putTapB s p stripe b).corr_ c0 = s.corr_ c0 := rfl
@[simp] theorem State.putTapB_sti (s : State) (p : Nat) (stripe : Nat) (b : TapBuf) (c0 : Nat) : (State.putTapB s p stripe b).sti c0 = s.sti c0 := rfl
@[simp] theorem State.putTapB_sess (s : State) (p : Nat) (stripe : Nat) (b : TapBuf) (c0 : Nat) : (State.putTapB s p stripe b).sess c0 = s.sess c0 := rfl
@[simp] theorem State.putTapB_str_ (s : State) (p : Nat) (stripe : Nat) (b : TapBuf) (c0 : Nat) : (State.putTapB s p stripe b).str_ c0 = s.str_ c0 := rfl
@[simp] theorem State.putTapB_twlOf (s : State) (p : Nat) (stripe : Nat) (b : TapBuf) (c0 : Nat) : (State.putTapB s p stripe b).twlOf c0 = s.twlOf c0 := rfl
@[simp] theorem State.putTapB_ch (s : State) (p : Nat) (stripe : Nat) (b : TapBuf) (c0 : Nat) : (State.putTapB s p stripe b).ch c0 = s.ch c0 := rfl
@[simp] theorem State.putTapB_mstV (s : State) (p : Nat) (stripe : Nat) (b : TapBuf) (c0 : Nat) : (State.putTapB s p stripe b).mstV c0 = s.mstV c0 := rfl
@[simp] theorem State.putTapB_calOf (s : State) (p : Nat) (stripe : Nat) (b : TapBuf) (c0 : Nat) : (State.putTapB s p stripe b).calOf c0 = s.calOf c0 := rfl
@[simp] theorem State.putTapB_fifoOf (s : State) (p : Nat) (stripe : Nat) (b : TapBuf) (c0 : Nat) : (State.putTapB s p stripe b).fifoOf c0 = s.fifoOf c0 := rfl
@[simp] theorem State.putTapB_pend (s : State) (p : Nat) (stripe : Nat) (b : TapBuf) (c0 : Nat) : (State.putTapB s p stripe b).pend c0 = s.pend c0 := rfl
@[simp] theorem State.putTapB_mode (s : State) (p : Nat) (stripe : Nat) (b : TapBuf)  : (State.putTapB s p stripe b).mode  = s.mode  := rfl
@[simp] theorem State.putTapB_on (s : State) (p : Nat) (stripe : Nat) (b : TapBuf) (c0 : Nat) (d0 : Fld) : (State.putTapB s p stripe b).on c0 d0 = s.on c0 d0 := rfl
@[simp] theorem State.putTapB_rdShadow (s : State) (p : Nat) (stripe : Nat) (b : TapBuf) (c0 d0 : Nat) : (State.putTapB s p stripe b).rdShadow c0 d0 = s.rdShadow c0 d0 := rfl
@[simp] theorem State.putSti_chanOf (s : State) (v : Nat) (x : Stitch) (c0 : Nat) : (State.putSti s v x).chanOf c0 = s.chanOf c0 := rfl
@[simp] theorem State.putSti_tgOf (s : State) (v : Nat) (x : Stitch) (c0 : Nat) : (State.putSti s v x).tgOf c0 = s.tgOf c0 := rfl
@[simp] theorem State.putSti_view_ (s : State) (v : Nat) (x : Stitch) (c0 : Nat) : (State.putSti s v x).view_ c0 = s.view_ c0 := rfl
@[simp] theorem State.putSti_link_ (s : State) (v : Nat) (x : Stitch) (c0 : Nat) : (State.putSti s v x).link_ c0 = s.link_ c0 := rfl
@[simp] theorem State.putSti_train_ (s : State) (v : Nat) (x : Stitch) (c0 d0 : Nat) : (State.putSti s v x).train_ c0 d0 = s.train_ c0 d0 := rfl
@[simp] theorem State.putSti_jk (s : State) (v : Nat) (x : Stitch) (c0 : Nat) : (State.putSti s v x).jk c0 = s.jk c0 := rfl
@[simp] theorem State.putSti_q (s : State) (v : Nat) (x : Stitch) (c0 : Nat) : (State.putSti s v x).q c0 = s.q c0 := rfl
@[simp] theorem State.putSti_mcOf (s : State) (v : Nat) (x : Stitch) (c0 : Nat) : (State.putSti s v x).mcOf c0 = s.mcOf c0 := rfl
@[simp] theorem State.putSti_engOf (s : State) (v : Nat) (x : Stitch) (c0 : Nat) : (State.putSti s v x).engOf c0 = s.engOf c0 := rfl
@[simp] theorem State.putSti_intk (s : State) (v : Nat) (x : Stitch) (c0 : Nat) : (State.putSti s v x).intk c0 = s.intk c0 := rfl
@[simp] theorem State.putSti_pipe_ (s : State) (v : Nat) (x : Stitch) (c0 : Nat) : (State.putSti s v x).pipe_ c0 = s.pipe_ c0 := rfl
@[simp] theorem State.putSti_corr_ (s : State) (v : Nat) (x : Stitch) (c0 : Nat) : (State.putSti s v x).corr_ c0 = s.corr_ c0 := rfl
@[simp] theorem State.putSti_sess (s : State) (v : Nat) (x : Stitch) (c0 : Nat) : (State.putSti s v x).sess c0 = s.sess c0 := rfl
@[simp] theorem State.putSti_str_ (s : State) (v : Nat) (x : Stitch) (c0 : Nat) : (State.putSti s v x).str_ c0 = s.str_ c0 := rfl
@[simp] theorem State.putSti_twlOf (s : State) (v : Nat) (x : Stitch) (c0 : Nat) : (State.putSti s v x).twlOf c0 = s.twlOf c0 := rfl
@[simp] theorem State.putSti_ch (s : State) (v : Nat) (x : Stitch) (c0 : Nat) : (State.putSti s v x).ch c0 = s.ch c0 := rfl
@[simp] theorem State.putSti_mstV (s : State) (v : Nat) (x : Stitch) (c0 : Nat) : (State.putSti s v x).mstV c0 = s.mstV c0 := rfl
@[simp] theorem State.putSti_calOf (s : State) (v : Nat) (x : Stitch) (c0 : Nat) : (State.putSti s v x).calOf c0 = s.calOf c0 := rfl
@[simp] theorem State.putSti_fifoOf (s : State) (v : Nat) (x : Stitch) (c0 : Nat) : (State.putSti s v x).fifoOf c0 = s.fifoOf c0 := rfl
@[simp] theorem State.putSti_pend (s : State) (v : Nat) (x : Stitch) (c0 : Nat) : (State.putSti s v x).pend c0 = s.pend c0 := rfl
@[simp] theorem State.putSti_mode (s : State) (v : Nat) (x : Stitch)  : (State.putSti s v x).mode  = s.mode  := rfl
@[simp] theorem State.putSti_on (s : State) (v : Nat) (x : Stitch) (c0 : Nat) (d0 : Fld) : (State.putSti s v x).on c0 d0 = s.on c0 d0 := rfl
@[simp] theorem State.putSti_rdShadow (s : State) (v : Nat) (x : Stitch) (c0 d0 : Nat) : (State.putSti s v x).rdShadow c0 d0 = s.rdShadow c0 d0 := rfl
@[simp] theorem State.putEng_chanOf (s : State) (e : Nat) (x : Eng) (c0 : Nat) : (State.putEng s e x).chanOf c0 = s.chanOf c0 := rfl
@[simp] theorem State.putEng_tgOf (s : State) (e : Nat) (x : Eng) (c0 : Nat) : (State.putEng s e x).tgOf c0 = s.tgOf c0 := rfl
@[simp] theorem State.putEng_view_ (s : State) (e : Nat) (x : Eng) (c0 : Nat) : (State.putEng s e x).view_ c0 = s.view_ c0 := rfl
@[simp] theorem State.putEng_link_ (s : State) (e : Nat) (x : Eng) (c0 : Nat) : (State.putEng s e x).link_ c0 = s.link_ c0 := rfl
@[simp] theorem State.putEng_train_ (s : State) (e : Nat) (x : Eng) (c0 d0 : Nat) : (State.putEng s e x).train_ c0 d0 = s.train_ c0 d0 := rfl
@[simp] theorem State.putEng_jk (s : State) (e : Nat) (x : Eng) (c0 : Nat) : (State.putEng s e x).jk c0 = s.jk c0 := rfl
@[simp] theorem State.putEng_q (s : State) (e : Nat) (x : Eng) (c0 : Nat) : (State.putEng s e x).q c0 = s.q c0 := rfl
@[simp] theorem State.putEng_mcOf (s : State) (e : Nat) (x : Eng) (c0 : Nat) : (State.putEng s e x).mcOf c0 = s.mcOf c0 := rfl
@[simp] theorem State.putEng_intk (s : State) (e : Nat) (x : Eng) (c0 : Nat) : (State.putEng s e x).intk c0 = s.intk c0 := rfl
@[simp] theorem State.putEng_pipe_ (s : State) (e : Nat) (x : Eng) (c0 : Nat) : (State.putEng s e x).pipe_ c0 = s.pipe_ c0 := rfl
@[simp] theorem State.putEng_corr_ (s : State) (e : Nat) (x : Eng) (c0 : Nat) : (State.putEng s e x).corr_ c0 = s.corr_ c0 := rfl
@[simp] theorem State.putEng_sti (s : State) (e : Nat) (x : Eng) (c0 : Nat) : (State.putEng s e x).sti c0 = s.sti c0 := rfl
@[simp] theorem State.putEng_sess (s : State) (e : Nat) (x : Eng) (c0 : Nat) : (State.putEng s e x).sess c0 = s.sess c0 := rfl
@[simp] theorem State.putEng_str_ (s : State) (e : Nat) (x : Eng) (c0 : Nat) : (State.putEng s e x).str_ c0 = s.str_ c0 := rfl
@[simp] theorem State.putEng_twlOf (s : State) (e : Nat) (x : Eng) (c0 : Nat) : (State.putEng s e x).twlOf c0 = s.twlOf c0 := rfl
@[simp] theorem State.putEng_ch (s : State) (e : Nat) (x : Eng) (c0 : Nat) : (State.putEng s e x).ch c0 = s.ch c0 := rfl
@[simp] theorem State.putEng_mstV (s : State) (e : Nat) (x : Eng) (c0 : Nat) : (State.putEng s e x).mstV c0 = s.mstV c0 := rfl
@[simp] theorem State.putEng_calOf (s : State) (e : Nat) (x : Eng) (c0 : Nat) : (State.putEng s e x).calOf c0 = s.calOf c0 := rfl
@[simp] theorem State.putEng_fifoOf (s : State) (e : Nat) (x : Eng) (c0 : Nat) : (State.putEng s e x).fifoOf c0 = s.fifoOf c0 := rfl
@[simp] theorem State.putEng_pend (s : State) (e : Nat) (x : Eng) (c0 : Nat) : (State.putEng s e x).pend c0 = s.pend c0 := rfl
@[simp] theorem State.putEng_mode (s : State) (e : Nat) (x : Eng)  : (State.putEng s e x).mode  = s.mode  := rfl
@[simp] theorem State.putEng_on (s : State) (e : Nat) (x : Eng) (c0 : Nat) (d0 : Fld) : (State.putEng s e x).on c0 d0 = s.on c0 d0 := rfl
@[simp] theorem State.putEng_rdShadow (s : State) (e : Nat) (x : Eng) (c0 d0 : Nat) : (State.putEng s e x).rdShadow c0 d0 = s.rdShadow c0 d0 := rfl
@[simp] theorem State.asNext_chanOf (s : State) (j : JobCtx) (c0 : Nat) : (State.asNext s j).chanOf c0 = s.chanOf c0 := rfl
@[simp] theorem State.asNext_tgOf (s : State) (j : JobCtx) (c0 : Nat) : (State.asNext s j).tgOf c0 = s.tgOf c0 := rfl
@[simp] theorem State.asNext_view_ (s : State) (j : JobCtx) (c0 : Nat) : (State.asNext s j).view_ c0 = s.view_ c0 := rfl
@[simp] theorem State.asNext_link_ (s : State) (j : JobCtx) (c0 : Nat) : (State.asNext s j).link_ c0 = s.link_ c0 := rfl
@[simp] theorem State.asNext_train_ (s : State) (j : JobCtx) (c0 d0 : Nat) : (State.asNext s j).train_ c0 d0 = s.train_ c0 d0 := rfl
@[simp] theorem State.asNext_jk (s : State) (j : JobCtx) (c0 : Nat) : (State.asNext s j).jk c0 = s.jk c0 := rfl
@[simp] theorem State.asNext_q (s : State) (j : JobCtx) (c0 : Nat) : (State.asNext s j).q c0 = s.q c0 := rfl
@[simp] theorem State.asNext_mcOf (s : State) (j : JobCtx) (c0 : Nat) : (State.asNext s j).mcOf c0 = s.mcOf c0 := rfl
@[simp] theorem State.asNext_engOf (s : State) (j : JobCtx) (c0 : Nat) : (State.asNext s j).engOf c0 = s.engOf c0 := rfl
@[simp] theorem State.asNext_intk (s : State) (j : JobCtx) (c0 : Nat) : (State.asNext s j).intk c0 = s.intk c0 := rfl
@[simp] theorem State.asNext_pipe_ (s : State) (j : JobCtx) (c0 : Nat) : (State.asNext s j).pipe_ c0 = s.pipe_ c0 := rfl
@[simp] theorem State.asNext_corr_ (s : State) (j : JobCtx) (c0 : Nat) : (State.asNext s j).corr_ c0 = s.corr_ c0 := rfl
@[simp] theorem State.asNext_sti (s : State) (j : JobCtx) (c0 : Nat) : (State.asNext s j).sti c0 = s.sti c0 := rfl
@[simp] theorem State.asNext_sess (s : State) (j : JobCtx) (c0 : Nat) : (State.asNext s j).sess c0 = s.sess c0 := rfl
@[simp] theorem State.asNext_str_ (s : State) (j : JobCtx) (c0 : Nat) : (State.asNext s j).str_ c0 = s.str_ c0 := rfl
@[simp] theorem State.asNext_twlOf (s : State) (j : JobCtx) (c0 : Nat) : (State.asNext s j).twlOf c0 = s.twlOf c0 := rfl
@[simp] theorem State.asNext_ch (s : State) (j : JobCtx) (c0 : Nat) : (State.asNext s j).ch c0 = s.ch c0 := rfl
@[simp] theorem State.asNext_mstV (s : State) (j : JobCtx) (c0 : Nat) : (State.asNext s j).mstV c0 = s.mstV c0 := rfl
@[simp] theorem State.asNext_calOf (s : State) (j : JobCtx) (c0 : Nat) : (State.asNext s j).calOf c0 = s.calOf c0 := rfl
@[simp] theorem State.asNext_fifoOf (s : State) (j : JobCtx) (c0 : Nat) : (State.asNext s j).fifoOf c0 = s.fifoOf c0 := rfl
@[simp] theorem State.asNext_pend (s : State) (j : JobCtx) (c0 : Nat) : (State.asNext s j).pend c0 = s.pend c0 := rfl
@[simp] theorem State.asNext_mode (s : State) (j : JobCtx)  : (State.asNext s j).mode  = s.mode  := rfl
@[simp] theorem State.asNext_on (s : State) (j : JobCtx) (c0 : Nat) (d0 : Fld) : (State.asNext s j).on c0 d0 = s.on c0 d0 := rfl
@[simp] theorem State.asNext_rdShadow (s : State) (j : JobCtx) (c0 d0 : Nat) : (State.asNext s j).rdShadow c0 d0 = s.rdShadow c0 d0 := rfl
@[simp] theorem State.setCal_chanOf (s : State) (k : Nat) (x : Option CalRun) (c0 : Nat) : (State.setCal s k x).chanOf c0 = s.chanOf c0 := rfl
@[simp] theorem State.setCal_tgOf (s : State) (k : Nat) (x : Option CalRun) (c0 : Nat) : (State.setCal s k x).tgOf c0 = s.tgOf c0 := rfl
@[simp] theorem State.setCal_view_ (s : State) (k : Nat) (x : Option CalRun) (c0 : Nat) : (State.setCal s k x).view_ c0 = s.view_ c0 := rfl
@[simp] theorem State.setCal_link_ (s : State) (k : Nat) (x : Option CalRun) (c0 : Nat) : (State.setCal s k x).link_ c0 = s.link_ c0 := rfl
@[simp] theorem State.setCal_train_ (s : State) (k : Nat) (x : Option CalRun) (c0 d0 : Nat) : (State.setCal s k x).train_ c0 d0 = s.train_ c0 d0 := rfl
@[simp] theorem State.setCal_jk (s : State) (k : Nat) (x : Option CalRun) (c0 : Nat) : (State.setCal s k x).jk c0 = s.jk c0 := rfl
@[simp] theorem State.setCal_q (s : State) (k : Nat) (x : Option CalRun) (c0 : Nat) : (State.setCal s k x).q c0 = s.q c0 := rfl
@[simp] theorem State.setCal_mcOf (s : State) (k : Nat) (x : Option CalRun) (c0 : Nat) : (State.setCal s k x).mcOf c0 = s.mcOf c0 := rfl
@[simp] theorem State.setCal_engOf (s : State) (k : Nat) (x : Option CalRun) (c0 : Nat) : (State.setCal s k x).engOf c0 = s.engOf c0 := rfl
@[simp] theorem State.setCal_intk (s : State) (k : Nat) (x : Option CalRun) (c0 : Nat) : (State.setCal s k x).intk c0 = s.intk c0 := rfl
@[simp] theorem State.setCal_pipe_ (s : State) (k : Nat) (x : Option CalRun) (c0 : Nat) : (State.setCal s k x).pipe_ c0 = s.pipe_ c0 := rfl
@[simp] theorem State.setCal_corr_ (s : State) (k : Nat) (x : Option CalRun) (c0 : Nat) : (State.setCal s k x).corr_ c0 = s.corr_ c0 := rfl
@[simp] theorem State.setCal_sti (s : State) (k : Nat) (x : Option CalRun) (c0 : Nat) : (State.setCal s k x).sti c0 = s.sti c0 := rfl
@[simp] theorem State.setCal_sess (s : State) (k : Nat) (x : Option CalRun) (c0 : Nat) : (State.setCal s k x).sess c0 = s.sess c0 := rfl
@[simp] theorem State.setCal_str_ (s : State) (k : Nat) (x : Option CalRun) (c0 : Nat) : (State.setCal s k x).str_ c0 = s.str_ c0 := rfl
@[simp] theorem State.setCal_twlOf (s : State) (k : Nat) (x : Option CalRun) (c0 : Nat) : (State.setCal s k x).twlOf c0 = s.twlOf c0 := rfl
@[simp] theorem State.setCal_ch (s : State) (k : Nat) (x : Option CalRun) (c0 : Nat) : (State.setCal s k x).ch c0 = s.ch c0 := rfl
@[simp] theorem State.setCal_mstV (s : State) (k : Nat) (x : Option CalRun) (c0 : Nat) : (State.setCal s k x).mstV c0 = s.mstV c0 := rfl
@[simp] theorem State.setCal_fifoOf (s : State) (k : Nat) (x : Option CalRun) (c0 : Nat) : (State.setCal s k x).fifoOf c0 = s.fifoOf c0 := rfl
@[simp] theorem State.setCal_pend (s : State) (k : Nat) (x : Option CalRun) (c0 : Nat) : (State.setCal s k x).pend c0 = s.pend c0 := rfl
@[simp] theorem State.setCal_mode (s : State) (k : Nat) (x : Option CalRun)  : (State.setCal s k x).mode  = s.mode  := rfl
@[simp] theorem State.setCal_on (s : State) (k : Nat) (x : Option CalRun) (c0 : Nat) (d0 : Fld) : (State.setCal s k x).on c0 d0 = s.on c0 d0 := rfl
@[simp] theorem State.setCal_rdShadow (s : State) (k : Nat) (x : Option CalRun) (c0 d0 : Nat) : (State.setCal s k x).rdShadow c0 d0 = s.rdShadow c0 d0 := rfl
@[simp] theorem State.putSess_chanOf (s : State) (k : Nat) (x : Sess) (c0 : Nat) : (State.putSess s k x).chanOf c0 = s.chanOf c0 := rfl
@[simp] theorem State.putSess_tgOf (s : State) (k : Nat) (x : Sess) (c0 : Nat) : (State.putSess s k x).tgOf c0 = s.tgOf c0 := rfl
@[simp] theorem State.putSess_view_ (s : State) (k : Nat) (x : Sess) (c0 : Nat) : (State.putSess s k x).view_ c0 = s.view_ c0 := rfl
@[simp] theorem State.putSess_link_ (s : State) (k : Nat) (x : Sess) (c0 : Nat) : (State.putSess s k x).link_ c0 = s.link_ c0 := rfl
@[simp] theorem State.putSess_train_ (s : State) (k : Nat) (x : Sess) (c0 d0 : Nat) : (State.putSess s k x).train_ c0 d0 = s.train_ c0 d0 := rfl
@[simp] theorem State.putSess_jk (s : State) (k : Nat) (x : Sess) (c0 : Nat) : (State.putSess s k x).jk c0 = s.jk c0 := rfl
@[simp] theorem State.putSess_q (s : State) (k : Nat) (x : Sess) (c0 : Nat) : (State.putSess s k x).q c0 = s.q c0 := rfl
@[simp] theorem State.putSess_mcOf (s : State) (k : Nat) (x : Sess) (c0 : Nat) : (State.putSess s k x).mcOf c0 = s.mcOf c0 := rfl
@[simp] theorem State.putSess_engOf (s : State) (k : Nat) (x : Sess) (c0 : Nat) : (State.putSess s k x).engOf c0 = s.engOf c0 := rfl
@[simp] theorem State.putSess_intk (s : State) (k : Nat) (x : Sess) (c0 : Nat) : (State.putSess s k x).intk c0 = s.intk c0 := rfl
@[simp] theorem State.putSess_pipe_ (s : State) (k : Nat) (x : Sess) (c0 : Nat) : (State.putSess s k x).pipe_ c0 = s.pipe_ c0 := rfl
@[simp] theorem State.putSess_corr_ (s : State) (k : Nat) (x : Sess) (c0 : Nat) : (State.putSess s k x).corr_ c0 = s.corr_ c0 := rfl
@[simp] theorem State.putSess_sti (s : State) (k : Nat) (x : Sess) (c0 : Nat) : (State.putSess s k x).sti c0 = s.sti c0 := rfl
@[simp] theorem State.putSess_str_ (s : State) (k : Nat) (x : Sess) (c0 : Nat) : (State.putSess s k x).str_ c0 = s.str_ c0 := rfl
@[simp] theorem State.putSess_twlOf (s : State) (k : Nat) (x : Sess) (c0 : Nat) : (State.putSess s k x).twlOf c0 = s.twlOf c0 := rfl
@[simp] theorem State.putSess_ch (s : State) (k : Nat) (x : Sess) (c0 : Nat) : (State.putSess s k x).ch c0 = s.ch c0 := rfl
@[simp] theorem State.putSess_mstV (s : State) (k : Nat) (x : Sess) (c0 : Nat) : (State.putSess s k x).mstV c0 = s.mstV c0 := rfl
@[simp] theorem State.putSess_calOf (s : State) (k : Nat) (x : Sess) (c0 : Nat) : (State.putSess s k x).calOf c0 = s.calOf c0 := rfl
@[simp] theorem State.putSess_fifoOf (s : State) (k : Nat) (x : Sess) (c0 : Nat) : (State.putSess s k x).fifoOf c0 = s.fifoOf c0 := rfl
@[simp] theorem State.putSess_pend (s : State) (k : Nat) (x : Sess) (c0 : Nat) : (State.putSess s k x).pend c0 = s.pend c0 := rfl
@[simp] theorem State.putSess_mode (s : State) (k : Nat) (x : Sess)  : (State.putSess s k x).mode  = s.mode  := rfl
@[simp] theorem State.putSess_on (s : State) (k : Nat) (x : Sess) (c0 : Nat) (d0 : Fld) : (State.putSess s k x).on c0 d0 = s.on c0 d0 := rfl
@[simp] theorem State.putSess_rdShadow (s : State) (k : Nat) (x : Sess) (c0 d0 : Nat) : (State.putSess s k x).rdShadow c0 d0 = s.rdShadow c0 d0 := rfl
@[simp] theorem State.dropOcc_chanOf (s : State) (o : Occ) (c0 : Nat) : (State.dropOcc s o).chanOf c0 = s.chanOf c0 := rfl
@[simp] theorem State.dropOcc_tgOf (s : State) (o : Occ) (c0 : Nat) : (State.dropOcc s o).tgOf c0 = s.tgOf c0 := rfl
@[simp] theorem State.dropOcc_view_ (s : State) (o : Occ) (c0 : Nat) : (State.dropOcc s o).view_ c0 = s.view_ c0 := rfl
@[simp] theorem State.dropOcc_link_ (s : State) (o : Occ) (c0 : Nat) : (State.dropOcc s o).link_ c0 = s.link_ c0 := rfl
@[simp] theorem State.dropOcc_train_ (s : State) (o : Occ) (c0 d0 : Nat) : (State.dropOcc s o).train_ c0 d0 = s.train_ c0 d0 := rfl
@[simp] theorem State.dropOcc_jk (s : State) (o : Occ) (c0 : Nat) : (State.dropOcc s o).jk c0 = s.jk c0 := rfl
@[simp] theorem State.dropOcc_q (s : State) (o : Occ) (c0 : Nat) : (State.dropOcc s o).q c0 = s.q c0 := rfl
@[simp] theorem State.dropOcc_mcOf (s : State) (o : Occ) (c0 : Nat) : (State.dropOcc s o).mcOf c0 = s.mcOf c0 := rfl
@[simp] theorem State.dropOcc_engOf (s : State) (o : Occ) (c0 : Nat) : (State.dropOcc s o).engOf c0 = s.engOf c0 := rfl
@[simp] theorem State.dropOcc_intk (s : State) (o : Occ) (c0 : Nat) : (State.dropOcc s o).intk c0 = s.intk c0 := rfl
@[simp] theorem State.dropOcc_pipe_ (s : State) (o : Occ) (c0 : Nat) : (State.dropOcc s o).pipe_ c0 = s.pipe_ c0 := rfl
@[simp] theorem State.dropOcc_corr_ (s : State) (o : Occ) (c0 : Nat) : (State.dropOcc s o).corr_ c0 = s.corr_ c0 := rfl
@[simp] theorem State.dropOcc_sti (s : State) (o : Occ) (c0 : Nat) : (State.dropOcc s o).sti c0 = s.sti c0 := rfl
@[simp] theorem State.dropOcc_sess (s : State) (o : Occ) (c0 : Nat) : (State.dropOcc s o).sess c0 = s.sess c0 := rfl
@[simp] theorem State.dropOcc_str_ (s : State) (o : Occ) (c0 : Nat) : (State.dropOcc s o).str_ c0 = s.str_ c0 := rfl
@[simp] theorem State.dropOcc_twlOf (s : State) (o : Occ) (c0 : Nat) : (State.dropOcc s o).twlOf c0 = s.twlOf c0 := rfl
@[simp] theorem State.dropOcc_ch (s : State) (o : Occ) (c0 : Nat) : (State.dropOcc s o).ch c0 = s.ch c0 := rfl
@[simp] theorem State.dropOcc_mstV (s : State) (o : Occ) (c0 : Nat) : (State.dropOcc s o).mstV c0 = s.mstV c0 := rfl
@[simp] theorem State.dropOcc_calOf (s : State) (o : Occ) (c0 : Nat) : (State.dropOcc s o).calOf c0 = s.calOf c0 := rfl
@[simp] theorem State.dropOcc_fifoOf (s : State) (o : Occ) (c0 : Nat) : (State.dropOcc s o).fifoOf c0 = s.fifoOf c0 := rfl
@[simp] theorem State.dropOcc_pend (s : State) (o : Occ) (c0 : Nat) : (State.dropOcc s o).pend c0 = s.pend c0 := rfl
@[simp] theorem State.dropOcc_mode (s : State) (o : Occ)  : (State.dropOcc s o).mode  = s.mode  := rfl
@[simp] theorem State.dropOcc_on (s : State) (o : Occ) (c0 : Nat) (d0 : Fld) : (State.dropOcc s o).on c0 d0 = s.on c0 d0 := rfl
@[simp] theorem State.dropOcc_rdShadow (s : State) (o : Occ) (c0 d0 : Nat) : (State.dropOcc s o).rdShadow c0 d0 = s.rdShadow c0 d0 := rfl
@[simp] theorem State.setFld_chanOf (s : State) (p : Nat) (f : Fld) (v : Nat) (c0 : Nat) : (State.setFld s p f v).chanOf c0 = s.chanOf c0 := rfl
@[simp] theorem State.setFld_tgOf (s : State) (p : Nat) (f : Fld) (v : Nat) (c0 : Nat) : (State.setFld s p f v).tgOf c0 = s.tgOf c0 := rfl
@[simp] theorem State.setFld_view_ (s : State) (p : Nat) (f : Fld) (v : Nat) (c0 : Nat) : (State.setFld s p f v).view_ c0 = s.view_ c0 := rfl
@[simp] theorem State.setFld_link_ (s : State) (p : Nat) (f : Fld) (v : Nat) (c0 : Nat) : (State.setFld s p f v).link_ c0 = s.link_ c0 := rfl
@[simp] theorem State.setFld_train_ (s : State) (p : Nat) (f : Fld) (v : Nat) (c0 d0 : Nat) : (State.setFld s p f v).train_ c0 d0 = s.train_ c0 d0 := rfl
@[simp] theorem State.setFld_jk (s : State) (p : Nat) (f : Fld) (v : Nat) (c0 : Nat) : (State.setFld s p f v).jk c0 = s.jk c0 := rfl
@[simp] theorem State.setFld_q (s : State) (p : Nat) (f : Fld) (v : Nat) (c0 : Nat) : (State.setFld s p f v).q c0 = s.q c0 := rfl
@[simp] theorem State.setFld_mcOf (s : State) (p : Nat) (f : Fld) (v : Nat) (c0 : Nat) : (State.setFld s p f v).mcOf c0 = s.mcOf c0 := rfl
@[simp] theorem State.setFld_engOf (s : State) (p : Nat) (f : Fld) (v : Nat) (c0 : Nat) : (State.setFld s p f v).engOf c0 = s.engOf c0 := rfl
@[simp] theorem State.setFld_intk (s : State) (p : Nat) (f : Fld) (v : Nat) (c0 : Nat) : (State.setFld s p f v).intk c0 = s.intk c0 := rfl
@[simp] theorem State.setFld_pipe_ (s : State) (p : Nat) (f : Fld) (v : Nat) (c0 : Nat) : (State.setFld s p f v).pipe_ c0 = s.pipe_ c0 := rfl
@[simp] theorem State.setFld_corr_ (s : State) (p : Nat) (f : Fld) (v : Nat) (c0 : Nat) : (State.setFld s p f v).corr_ c0 = s.corr_ c0 := rfl
@[simp] theorem State.setFld_sti (s : State) (p : Nat) (f : Fld) (v : Nat) (c0 : Nat) : (State.setFld s p f v).sti c0 = s.sti c0 := rfl
@[simp] theorem State.setFld_sess (s : State) (p : Nat) (f : Fld) (v : Nat) (c0 : Nat) : (State.setFld s p f v).sess c0 = s.sess c0 := rfl
@[simp] theorem State.setFld_str_ (s : State) (p : Nat) (f : Fld) (v : Nat) (c0 : Nat) : (State.setFld s p f v).str_ c0 = s.str_ c0 := rfl
@[simp] theorem State.setFld_twlOf (s : State) (p : Nat) (f : Fld) (v : Nat) (c0 : Nat) : (State.setFld s p f v).twlOf c0 = s.twlOf c0 := rfl
@[simp] theorem State.setFld_ch (s : State) (p : Nat) (f : Fld) (v : Nat) (c0 : Nat) : (State.setFld s p f v).ch c0 = s.ch c0 := rfl
@[simp] theorem State.setFld_mstV (s : State) (p : Nat) (f : Fld) (v : Nat) (c0 : Nat) : (State.setFld s p f v).mstV c0 = s.mstV c0 := rfl
@[simp] theorem State.setFld_calOf (s : State) (p : Nat) (f : Fld) (v : Nat) (c0 : Nat) : (State.setFld s p f v).calOf c0 = s.calOf c0 := rfl
@[simp] theorem State.setFld_fifoOf (s : State) (p : Nat) (f : Fld) (v : Nat) (c0 : Nat) : (State.setFld s p f v).fifoOf c0 = s.fifoOf c0 := rfl
@[simp] theorem State.setFld_pend (s : State) (p : Nat) (f : Fld) (v : Nat) (c0 : Nat) : (State.setFld s p f v).pend c0 = s.pend c0 := rfl
@[simp] theorem State.setFld_rdShadow (s : State) (p : Nat) (f : Fld) (v : Nat) (c0 d0 : Nat) : (State.setFld s p f v).rdShadow c0 d0 = s.rdShadow c0 d0 := rfl
@[simp] theorem State.setBit_chanOf (s : State) (p : Nat) (f : Fld) (b : Bool) (c0 : Nat) : (State.setBit s p f b).chanOf c0 = s.chanOf c0 := rfl
@[simp] theorem State.setBit_tgOf (s : State) (p : Nat) (f : Fld) (b : Bool) (c0 : Nat) : (State.setBit s p f b).tgOf c0 = s.tgOf c0 := rfl
@[simp] theorem State.setBit_view_ (s : State) (p : Nat) (f : Fld) (b : Bool) (c0 : Nat) : (State.setBit s p f b).view_ c0 = s.view_ c0 := rfl
@[simp] theorem State.setBit_link_ (s : State) (p : Nat) (f : Fld) (b : Bool) (c0 : Nat) : (State.setBit s p f b).link_ c0 = s.link_ c0 := rfl
@[simp] theorem State.setBit_train_ (s : State) (p : Nat) (f : Fld) (b : Bool) (c0 d0 : Nat) : (State.setBit s p f b).train_ c0 d0 = s.train_ c0 d0 := rfl
@[simp] theorem State.setBit_jk (s : State) (p : Nat) (f : Fld) (b : Bool) (c0 : Nat) : (State.setBit s p f b).jk c0 = s.jk c0 := rfl
@[simp] theorem State.setBit_q (s : State) (p : Nat) (f : Fld) (b : Bool) (c0 : Nat) : (State.setBit s p f b).q c0 = s.q c0 := rfl
@[simp] theorem State.setBit_mcOf (s : State) (p : Nat) (f : Fld) (b : Bool) (c0 : Nat) : (State.setBit s p f b).mcOf c0 = s.mcOf c0 := rfl
@[simp] theorem State.setBit_engOf (s : State) (p : Nat) (f : Fld) (b : Bool) (c0 : Nat) : (State.setBit s p f b).engOf c0 = s.engOf c0 := rfl
@[simp] theorem State.setBit_intk (s : State) (p : Nat) (f : Fld) (b : Bool) (c0 : Nat) : (State.setBit s p f b).intk c0 = s.intk c0 := rfl
@[simp] theorem State.setBit_pipe_ (s : State) (p : Nat) (f : Fld) (b : Bool) (c0 : Nat) : (State.setBit s p f b).pipe_ c0 = s.pipe_ c0 := rfl
@[simp] theorem State.setBit_corr_ (s : State) (p : Nat) (f : Fld) (b : Bool) (c0 : Nat) : (State.setBit s p f b).corr_ c0 = s.corr_ c0 := rfl
@[simp] theorem State.setBit_sti (s : State) (p : Nat) (f : Fld) (b : Bool) (c0 : Nat) : (State.setBit s p f b).sti c0 = s.sti c0 := rfl
@[simp] theorem State.setBit_sess (s : State) (p : Nat) (f : Fld) (b : Bool) (c0 : Nat) : (State.setBit s p f b).sess c0 = s.sess c0 := rfl
@[simp] theorem State.setBit_str_ (s : State) (p : Nat) (f : Fld) (b : Bool) (c0 : Nat) : (State.setBit s p f b).str_ c0 = s.str_ c0 := rfl
@[simp] theorem State.setBit_twlOf (s : State) (p : Nat) (f : Fld) (b : Bool) (c0 : Nat) : (State.setBit s p f b).twlOf c0 = s.twlOf c0 := rfl
@[simp] theorem State.setBit_ch (s : State) (p : Nat) (f : Fld) (b : Bool) (c0 : Nat) : (State.setBit s p f b).ch c0 = s.ch c0 := rfl
@[simp] theorem State.setBit_mstV (s : State) (p : Nat) (f : Fld) (b : Bool) (c0 : Nat) : (State.setBit s p f b).mstV c0 = s.mstV c0 := rfl
@[simp] theorem State.setBit_calOf (s : State) (p : Nat) (f : Fld) (b : Bool) (c0 : Nat) : (State.setBit s p f b).calOf c0 = s.calOf c0 := rfl
@[simp] theorem State.setBit_fifoOf (s : State) (p : Nat) (f : Fld) (b : Bool) (c0 : Nat) : (State.setBit s p f b).fifoOf c0 = s.fifoOf c0 := rfl
@[simp] theorem State.setBit_pend (s : State) (p : Nat) (f : Fld) (b : Bool) (c0 : Nat) : (State.setBit s p f b).pend c0 = s.pend c0 := rfl
@[simp] theorem State.setBit_rdShadow (s : State) (p : Nat) (f : Fld) (b : Bool) (c0 d0 : Nat) : (State.setBit s p f b).rdShadow c0 d0 = s.rdShadow c0 d0 := rfl
@[simp] theorem State.bumpBy_chanOf (s : State) (p : Nat) (f : Fld) (n : Nat) (c0 : Nat) : (State.bumpBy s p f n).chanOf c0 = s.chanOf c0 := rfl
@[simp] theorem State.bumpBy_tgOf (s : State) (p : Nat) (f : Fld) (n : Nat) (c0 : Nat) : (State.bumpBy s p f n).tgOf c0 = s.tgOf c0 := rfl
@[simp] theorem State.bumpBy_view_ (s : State) (p : Nat) (f : Fld) (n : Nat) (c0 : Nat) : (State.bumpBy s p f n).view_ c0 = s.view_ c0 := rfl
@[simp] theorem State.bumpBy_link_ (s : State) (p : Nat) (f : Fld) (n : Nat) (c0 : Nat) : (State.bumpBy s p f n).link_ c0 = s.link_ c0 := rfl
@[simp] theorem State.bumpBy_train_ (s : State) (p : Nat) (f : Fld) (n : Nat) (c0 d0 : Nat) : (State.bumpBy s p f n).train_ c0 d0 = s.train_ c0 d0 := rfl
@[simp] theorem State.bumpBy_jk (s : State) (p : Nat) (f : Fld) (n : Nat) (c0 : Nat) : (State.bumpBy s p f n).jk c0 = s.jk c0 := rfl
@[simp] theorem State.bumpBy_q (s : State) (p : Nat) (f : Fld) (n : Nat) (c0 : Nat) : (State.bumpBy s p f n).q c0 = s.q c0 := rfl
@[simp] theorem State.bumpBy_mcOf (s : State) (p : Nat) (f : Fld) (n : Nat) (c0 : Nat) : (State.bumpBy s p f n).mcOf c0 = s.mcOf c0 := rfl
@[simp] theorem State.bumpBy_engOf (s : State) (p : Nat) (f : Fld) (n : Nat) (c0 : Nat) : (State.bumpBy s p f n).engOf c0 = s.engOf c0 := rfl
@[simp] theorem State.bumpBy_intk (s : State) (p : Nat) (f : Fld) (n : Nat) (c0 : Nat) : (State.bumpBy s p f n).intk c0 = s.intk c0 := rfl
@[simp] theorem State.bumpBy_pipe_ (s : State) (p : Nat) (f : Fld) (n : Nat) (c0 : Nat) : (State.bumpBy s p f n).pipe_ c0 = s.pipe_ c0 := rfl
@[simp] theorem State.bumpBy_corr_ (s : State) (p : Nat) (f : Fld) (n : Nat) (c0 : Nat) : (State.bumpBy s p f n).corr_ c0 = s.corr_ c0 := rfl
@[simp] theorem State.bumpBy_sti (s : State) (p : Nat) (f : Fld) (n : Nat) (c0 : Nat) : (State.bumpBy s p f n).sti c0 = s.sti c0 := rfl
@[simp] theorem State.bumpBy_sess (s : State) (p : Nat) (f : Fld) (n : Nat) (c0 : Nat) : (State.bumpBy s p f n).sess c0 = s.sess c0 := rfl
@[simp] theorem State.bumpBy_str_ (s : State) (p : Nat) (f : Fld) (n : Nat) (c0 : Nat) : (State.bumpBy s p f n).str_ c0 = s.str_ c0 := rfl
@[simp] theorem State.bumpBy_twlOf (s : State) (p : Nat) (f : Fld) (n : Nat) (c0 : Nat) : (State.bumpBy s p f n).twlOf c0 = s.twlOf c0 := rfl
@[simp] theorem State.bumpBy_ch (s : State) (p : Nat) (f : Fld) (n : Nat) (c0 : Nat) : (State.bumpBy s p f n).ch c0 = s.ch c0 := rfl
@[simp] theorem State.bumpBy_mstV (s : State) (p : Nat) (f : Fld) (n : Nat) (c0 : Nat) : (State.bumpBy s p f n).mstV c0 = s.mstV c0 := rfl
@[simp] theorem State.bumpBy_calOf (s : State) (p : Nat) (f : Fld) (n : Nat) (c0 : Nat) : (State.bumpBy s p f n).calOf c0 = s.calOf c0 := rfl
@[simp] theorem State.bumpBy_fifoOf (s : State) (p : Nat) (f : Fld) (n : Nat) (c0 : Nat) : (State.bumpBy s p f n).fifoOf c0 = s.fifoOf c0 := rfl
@[simp] theorem State.bumpBy_pend (s : State) (p : Nat) (f : Fld) (n : Nat) (c0 : Nat) : (State.bumpBy s p f n).pend c0 = s.pend c0 := rfl
@[simp] theorem State.bumpBy_rdShadow (s : State) (p : Nat) (f : Fld) (n : Nat) (c0 d0 : Nat) : (State.bumpBy s p f n).rdShadow c0 d0 = s.rdShadow c0 d0 := rfl
@[simp] theorem State.bump_chanOf (s : State) (p : Nat) (f : Fld) (c0 : Nat) : (State.bump s p f).chanOf c0 = s.chanOf c0 := rfl
@[simp] theorem State.bump_tgOf (s : State) (p : Nat) (f : Fld) (c0 : Nat) : (State.bump s p f).tgOf c0 = s.tgOf c0 := rfl
@[simp] theorem State.bump_view_ (s : State) (p : Nat) (f : Fld) (c0 : Nat) : (State.bump s p f).view_ c0 = s.view_ c0 := rfl
@[simp] theorem State.bump_link_ (s : State) (p : Nat) (f : Fld) (c0 : Nat) : (State.bump s p f).link_ c0 = s.link_ c0 := rfl
@[simp] theorem State.bump_train_ (s : State) (p : Nat) (f : Fld) (c0 d0 : Nat) : (State.bump s p f).train_ c0 d0 = s.train_ c0 d0 := rfl
@[simp] theorem State.bump_jk (s : State) (p : Nat) (f : Fld) (c0 : Nat) : (State.bump s p f).jk c0 = s.jk c0 := rfl
@[simp] theorem State.bump_q (s : State) (p : Nat) (f : Fld) (c0 : Nat) : (State.bump s p f).q c0 = s.q c0 := rfl
@[simp] theorem State.bump_mcOf (s : State) (p : Nat) (f : Fld) (c0 : Nat) : (State.bump s p f).mcOf c0 = s.mcOf c0 := rfl
@[simp] theorem State.bump_engOf (s : State) (p : Nat) (f : Fld) (c0 : Nat) : (State.bump s p f).engOf c0 = s.engOf c0 := rfl
@[simp] theorem State.bump_intk (s : State) (p : Nat) (f : Fld) (c0 : Nat) : (State.bump s p f).intk c0 = s.intk c0 := rfl
@[simp] theorem State.bump_pipe_ (s : State) (p : Nat) (f : Fld) (c0 : Nat) : (State.bump s p f).pipe_ c0 = s.pipe_ c0 := rfl
@[simp] theorem State.bump_corr_ (s : State) (p : Nat) (f : Fld) (c0 : Nat) : (State.bump s p f).corr_ c0 = s.corr_ c0 := rfl
@[simp] theorem State.bump_sti (s : State) (p : Nat) (f : Fld) (c0 : Nat) : (State.bump s p f).sti c0 = s.sti c0 := rfl
@[simp] theorem State.bump_sess (s : State) (p : Nat) (f : Fld) (c0 : Nat) : (State.bump s p f).sess c0 = s.sess c0 := rfl
@[simp] theorem State.bump_str_ (s : State) (p : Nat) (f : Fld) (c0 : Nat) : (State.bump s p f).str_ c0 = s.str_ c0 := rfl
@[simp] theorem State.bump_twlOf (s : State) (p : Nat) (f : Fld) (c0 : Nat) : (State.bump s p f).twlOf c0 = s.twlOf c0 := rfl
@[simp] theorem State.bump_ch (s : State) (p : Nat) (f : Fld) (c0 : Nat) : (State.bump s p f).ch c0 = s.ch c0 := rfl
@[simp] theorem State.bump_mstV (s : State) (p : Nat) (f : Fld) (c0 : Nat) : (State.bump s p f).mstV c0 = s.mstV c0 := rfl
@[simp] theorem State.bump_calOf (s : State) (p : Nat) (f : Fld) (c0 : Nat) : (State.bump s p f).calOf c0 = s.calOf c0 := rfl
@[simp] theorem State.bump_fifoOf (s : State) (p : Nat) (f : Fld) (c0 : Nat) : (State.bump s p f).fifoOf c0 = s.fifoOf c0 := rfl
@[simp] theorem State.bump_pend (s : State) (p : Nat) (f : Fld) (c0 : Nat) : (State.bump s p f).pend c0 = s.pend c0 := rfl
@[simp] theorem State.bump_rdShadow (s : State) (p : Nat) (f : Fld) (c0 d0 : Nat) : (State.bump s p f).rdShadow c0 d0 = s.rdShadow c0 d0 := rfl
@[simp] theorem State.atNs_chanOf (s : State) (t : Nat) (c0 : Nat) : (State.atNs s t).chanOf c0 = s.chanOf c0 := rfl
@[simp] theorem State.atNs_tgOf (s : State) (t : Nat) (c0 : Nat) : (State.atNs s t).tgOf c0 = s.tgOf c0 := rfl
@[simp] theorem State.atNs_view_ (s : State) (t : Nat) (c0 : Nat) : (State.atNs s t).view_ c0 = s.view_ c0 := rfl
@[simp] theorem State.atNs_link_ (s : State) (t : Nat) (c0 : Nat) : (State.atNs s t).link_ c0 = s.link_ c0 := rfl
@[simp] theorem State.atNs_train_ (s : State) (t : Nat) (c0 d0 : Nat) : (State.atNs s t).train_ c0 d0 = s.train_ c0 d0 := rfl
@[simp] theorem State.atNs_jk (s : State) (t : Nat) (c0 : Nat) : (State.atNs s t).jk c0 = s.jk c0 := rfl
@[simp] theorem State.atNs_q (s : State) (t : Nat) (c0 : Nat) : (State.atNs s t).q c0 = s.q c0 := rfl
@[simp] theorem State.atNs_mcOf (s : State) (t : Nat) (c0 : Nat) : (State.atNs s t).mcOf c0 = s.mcOf c0 := rfl
@[simp] theorem State.atNs_engOf (s : State) (t : Nat) (c0 : Nat) : (State.atNs s t).engOf c0 = s.engOf c0 := rfl
@[simp] theorem State.atNs_intk (s : State) (t : Nat) (c0 : Nat) : (State.atNs s t).intk c0 = s.intk c0 := rfl
@[simp] theorem State.atNs_pipe_ (s : State) (t : Nat) (c0 : Nat) : (State.atNs s t).pipe_ c0 = s.pipe_ c0 := rfl
@[simp] theorem State.atNs_corr_ (s : State) (t : Nat) (c0 : Nat) : (State.atNs s t).corr_ c0 = s.corr_ c0 := rfl
@[simp] theorem State.atNs_sti (s : State) (t : Nat) (c0 : Nat) : (State.atNs s t).sti c0 = s.sti c0 := rfl
@[simp] theorem State.atNs_sess (s : State) (t : Nat) (c0 : Nat) : (State.atNs s t).sess c0 = s.sess c0 := rfl
@[simp] theorem State.atNs_str_ (s : State) (t : Nat) (c0 : Nat) : (State.atNs s t).str_ c0 = s.str_ c0 := rfl
@[simp] theorem State.atNs_twlOf (s : State) (t : Nat) (c0 : Nat) : (State.atNs s t).twlOf c0 = s.twlOf c0 := rfl
@[simp] theorem State.atNs_ch (s : State) (t : Nat) (c0 : Nat) : (State.atNs s t).ch c0 = s.ch c0 := rfl
@[simp] theorem State.atNs_mstV (s : State) (t : Nat) (c0 : Nat) : (State.atNs s t).mstV c0 = s.mstV c0 := rfl
@[simp] theorem State.atNs_calOf (s : State) (t : Nat) (c0 : Nat) : (State.atNs s t).calOf c0 = s.calOf c0 := rfl
@[simp] theorem State.atNs_fifoOf (s : State) (t : Nat) (c0 : Nat) : (State.atNs s t).fifoOf c0 = s.fifoOf c0 := rfl
@[simp] theorem State.atNs_pend (s : State) (t : Nat) (c0 : Nat) : (State.atNs s t).pend c0 = s.pend c0 := rfl
@[simp] theorem State.atNs_mode (s : State) (t : Nat)  : (State.atNs s t).mode  = s.mode  := rfl
@[simp] theorem State.atNs_on (s : State) (t : Nat) (c0 : Nat) (d0 : Fld) : (State.atNs s t).on c0 d0 = s.on c0 d0 := rfl
@[simp] theorem State.atNs_rdShadow (s : State) (t : Nat) (c0 d0 : Nat) : (State.atNs s t).rdShadow c0 d0 = s.rdShadow c0 d0 := rfl
@[simp] theorem State.atCycle_chanOf (s : State) (c : Nat) (c0 : Nat) : (State.atCycle s c).chanOf c0 = s.chanOf c0 := rfl
@[simp] theorem State.atCycle_tgOf (s : State) (c : Nat) (c0 : Nat) : (State.atCycle s c).tgOf c0 = s.tgOf c0 := rfl
@[simp] theorem State.atCycle_view_ (s : State) (c : Nat) (c0 : Nat) : (State.atCycle s c).view_ c0 = s.view_ c0 := rfl
@[simp] theorem State.atCycle_link_ (s : State) (c : Nat) (c0 : Nat) : (State.atCycle s c).link_ c0 = s.link_ c0 := rfl
@[simp] theorem State.atCycle_train_ (s : State) (c : Nat) (c0 d0 : Nat) : (State.atCycle s c).train_ c0 d0 = s.train_ c0 d0 := rfl
@[simp] theorem State.atCycle_jk (s : State) (c : Nat) (c0 : Nat) : (State.atCycle s c).jk c0 = s.jk c0 := rfl
@[simp] theorem State.atCycle_q (s : State) (c : Nat) (c0 : Nat) : (State.atCycle s c).q c0 = s.q c0 := rfl
@[simp] theorem State.atCycle_mcOf (s : State) (c : Nat) (c0 : Nat) : (State.atCycle s c).mcOf c0 = s.mcOf c0 := rfl
@[simp] theorem State.atCycle_engOf (s : State) (c : Nat) (c0 : Nat) : (State.atCycle s c).engOf c0 = s.engOf c0 := rfl
@[simp] theorem State.atCycle_intk (s : State) (c : Nat) (c0 : Nat) : (State.atCycle s c).intk c0 = s.intk c0 := rfl
@[simp] theorem State.atCycle_pipe_ (s : State) (c : Nat) (c0 : Nat) : (State.atCycle s c).pipe_ c0 = s.pipe_ c0 := rfl
@[simp] theorem State.atCycle_corr_ (s : State) (c : Nat) (c0 : Nat) : (State.atCycle s c).corr_ c0 = s.corr_ c0 := rfl
@[simp] theorem State.atCycle_sti (s : State) (c : Nat) (c0 : Nat) : (State.atCycle s c).sti c0 = s.sti c0 := rfl
@[simp] theorem State.atCycle_sess (s : State) (c : Nat) (c0 : Nat) : (State.atCycle s c).sess c0 = s.sess c0 := rfl
@[simp] theorem State.atCycle_str_ (s : State) (c : Nat) (c0 : Nat) : (State.atCycle s c).str_ c0 = s.str_ c0 := rfl
@[simp] theorem State.atCycle_twlOf (s : State) (c : Nat) (c0 : Nat) : (State.atCycle s c).twlOf c0 = s.twlOf c0 := rfl
@[simp] theorem State.atCycle_ch (s : State) (c : Nat) (c0 : Nat) : (State.atCycle s c).ch c0 = s.ch c0 := rfl
@[simp] theorem State.atCycle_mstV (s : State) (c : Nat) (c0 : Nat) : (State.atCycle s c).mstV c0 = s.mstV c0 := rfl
@[simp] theorem State.atCycle_calOf (s : State) (c : Nat) (c0 : Nat) : (State.atCycle s c).calOf c0 = s.calOf c0 := rfl
@[simp] theorem State.atCycle_fifoOf (s : State) (c : Nat) (c0 : Nat) : (State.atCycle s c).fifoOf c0 = s.fifoOf c0 := rfl
@[simp] theorem State.atCycle_pend (s : State) (c : Nat) (c0 : Nat) : (State.atCycle s c).pend c0 = s.pend c0 := rfl
@[simp] theorem State.atCycle_mode (s : State) (c : Nat)  : (State.atCycle s c).mode  = s.mode  := rfl
@[simp] theorem State.atCycle_on (s : State) (c : Nat) (c0 : Nat) (d0 : Fld) : (State.atCycle s c).on c0 d0 = s.on c0 d0 := rfl
@[simp] theorem State.atCycle_rdShadow (s : State) (c : Nat) (c0 d0 : Nat) : (State.atCycle s c).rdShadow c0 d0 = s.rdShadow c0 d0 := rfl

end Sys2Proof.Machine
end

