-- ==== Sys2Proof/Laws/Ops.lean ====
section
/-!
SUPPORT. Reads after writes: registers, fields, shadow copies, windows, DRAM and the tables of the state; and which registers the
shared operations (flags, interrupts, the event log, a refusal) leave alone.
-/
namespace Sys2Proof.Machine

/-! ### Registers and fields -/

theorem State.rd_wr (s : State) (p off : Nat) (w : Word) (q o : Nat) :
    (s.wr p off w).rd q o = if q * 4096 + o = p * 4096 + off then w else s.rd q o := tabGet_tabPut _ _ _ _ _

@[simp] theorem State.rd_wr_same (s : State) (p off : Nat) (w : Word) : (s.wr p off w).rd p off = w := by simp [State.rd_wr]

theorem State.rdShadow_wrShadow (s : State) (p off : Nat) (w : Word) (q o : Nat) :
    (s.wrShadow p off w).rdShadow q o = if q * 4096 + o = p * 4096 + off then w else s.rdShadow q o := tabGet_tabPut _ _ _ _ _

theorem State.win_setWin (s : State) (a : Nat) (w : Word) (b : Nat) : (s.setWin a w).win b = if b = a then w else s.win b :=
  tabGet_tabPut _ _ _ _ _

/-- A field reads back what it was given, as far as it is wide. -/
theorem State.fld_setFld (s : State) (p : Nat) (f : Fld) (v : Nat) (h : f.lo + f.len ≤ 32) :
    (s.setFld p f v).fld p f = v % 2 ^ f.len := by
  simp only [State.fld, State.setFld, State.rd_wr_same]
  exact wf_wfSet_same _ _ h

/-- Whether a field is set, after it was given a value. -/
theorem State.on_setFld (s : State) (p : Nat) (f : Fld) (v : Nat) (h : f.lo + f.len ≤ 32) :
    (s.setFld p f v).on p f = (v % 2 ^ f.len != 0) := by
  unfold State.on; rw [State.fld_setFld _ _ _ _ h]

/-- A field of another register, or another field of the register, is unchanged. -/
theorem State.fld_setFld_apart (s : State) (p : Nat) (f : Fld) (v : Nat) (q : Nat) (g : Fld) (h : f.lo + f.len ≤ 32)
    (hg : q * 4096 + g.off ≠ p * 4096 + f.off ∨ g.lo + g.len ≤ f.lo ∨ f.lo + f.len ≤ g.lo) :
    (s.setFld p f v).fld q g = s.fld q g := by
  simp only [State.fld, State.setFld, State.rd_wr]
  split
  · rename_i e
    have e2 : s.rd q g.off = s.rd p f.off := by unfold State.rd; rw [e]
    rw [e2]
    rcases hg with hg | hg
    · exact absurd e hg
    · exact wf_wfSet_of_apart _ _ h hg
  · rfl

theorem State.on_setFld_apart (s : State) (p : Nat) (f : Fld) (v : Nat) (q : Nat) (g : Fld) (h : f.lo + f.len ≤ 32)
    (hg : q * 4096 + g.off ≠ p * 4096 + f.off ∨ g.lo + g.len ≤ f.lo ∨ f.lo + f.len ≤ g.lo) :
    (s.setFld p f v).on q g = s.on q g := by
  unfold State.on; rw [State.fld_setFld_apart _ _ _ _ _ _ h hg]

/-- A field of a register other than the one written. -/
theorem State.fld_wr_of_ne (s : State) (p off : Nat) (w : Word) (q : Nat) (g : Fld) (h : q * 4096 + g.off ≠ p * 4096 + off) :
    (s.wr p off w).fld q g = s.fld q g := by
  unfold State.fld; rw [State.rd_wr, if_neg h]

theorem State.rd_setFld_of_ne (s : State) (p : Nat) (f : Fld) (v q o : Nat) (h : q * 4096 + o ≠ p * 4096 + f.off) :
    (s.setFld p f v).rd q o = s.rd q o := by simp [State.setFld, State.rd_wr, h]

/-! ### DRAM -/

/-- Bytes written within the capacity read back. -/
theorem State.dram_dramPut (s : State) (a : Nat) (l : List Byte) (h : a + l.length ≤ s.capacity) :
    (s.dramPut a l).dram a l.length = l := by
  unfold State.dramPut State.dram
  rw [if_neg (by omega)]
  exact tabGetList_tabPutList _ _ _ _

/-- A byte outside those written is unchanged. -/
theorem State.byte_dramPut (s : State) (a : Nat) (l : List Byte) (b : Nat) (h : b < a ∨ a + l.length ≤ b) :
    tabGet (blankByte (s.dramPut a l).blank) (s.dramPut a l).mem b = tabGet (blankByte s.blank) s.mem b := by
  unfold State.dramPut
  split
  · rfl
  · exact tabGet_tabPutList_of_lt _ _ _ _ h

/-! ### Tables of the state -/

@[simp] theorem State.link_putLink (s : State) (p : Nat) (l : Link) : (s.putLink p l).link_ p = l := tabGet_tabPut_same _ _ _ _
@[simp] theorem State.train_putTrain (s : State) (p m : Nat) (t : Train) : (s.putTrain p m t).train_ p m = t := tabGet_tabPut_same _ _ _ _
@[simp] theorem State.jk_putJk (s : State) (q : Nat) (j : Joker) : (s.putJk q j).jk q = j := tabGet_tabPut_same _ _ _ _
@[simp] theorem State.q_setQ (s : State) (q : Nat) (v : Queue) : (s.setQ q v).q q = v := tabGet_tabPut_same _ _ _ _
@[simp] theorem State.mcOf_setMc (s : State) (c : Nat) (m : Mc) : (s.setMc c m).mcOf c = m := tabGet_tabPut_same _ _ _ _
@[simp] theorem State.chanOf_setChan (s : State) (c : Nat) (v : Chan) : (s.setChan c v).chanOf c = v := tabGet_tabPut_same _ _ _ _
@[simp] theorem State.tgOf_setTg (s : State) (v : Nat) (g : TrigGen) : (s.setTg v g).tgOf v = g := tabGet_tabPut_same _ _ _ _
@[simp] theorem State.view_setView (s : State) (v : Nat) (x : ViewSt) : (s.setView v x).view_ v = x := tabGet_tabPut_same _ _ _ _
@[simp] theorem State.mstV_putMst (s : State) (v : Nat) (x : MstView) : (s.putMst v x).mstV v = x := tabGet_tabPut_same _ _ _ _
@[simp] theorem State.intk_putIntk (s : State) (p : Nat) (x : Intake) : (s.putIntk p x).intk p = x := tabGet_tabPut_same _ _ _ _
@[simp] theorem State.pipe_putPipe (s : State) (g : Nat) (x : Pipe) : (s.putPipe g x).pipe_ g = x := tabGet_tabPut_same _ _ _ _
@[simp] theorem State.sti_putSti (s : State) (v : Nat) (x : Stitch) : (s.putSti v x).sti v = x := tabGet_tabPut_same _ _ _ _
@[simp] theorem State.engOf_putEng (s : State) (e : Nat) (x : Eng) : (s.putEng e x).engOf e = x := tabGet_tabPut_same _ _ _ _
@[simp] theorem State.sess_putSess (s : State) (k : Nat) (x : Sess) : (s.putSess k x).sess k = x := tabGet_tabPut_same _ _ _ _

/-! ### Registers that an operation leaves alone -/

/-- The register at a BAR0 address is the same in two states. -/
def RegSame (a : Nat) (s t : State) : Prop := tabGet regReset t.regs a = tabGet regReset s.regs a

theorem RegSame.refl (a : Nat) (s : State) : RegSame a s s := rfl

theorem RegSame.step {a : Nat} {s t u : State} (k : RegSame a t u) (h : RegSame a s t) : RegSame a s u := Eq.trans k h

theorem RegSame.of_regs {a : Nat} {s t : State} (h : t.regs = s.regs) : RegSame a s t := by unfold RegSame; rw [h]

theorem RegSame.rd {p off : Nat} {s t : State} (h : RegSame (p * 4096 + off) s t) : t.rd p off = s.rd p off := h

theorem RegSame.fld {p : Nat} {f : Fld} {s t : State} (h : RegSame (p * 4096 + f.off) s t) : t.fld p f = s.fld p f := by
  unfold State.fld; rw [h.rd]

theorem RegSame.foldl {α : Type} {a : Nat} {s i : State} {f : State → α → State} {l : List α} (hi : RegSame a s i)
    (hf : ∀ t x, RegSame a s t → RegSame a s (f t x)) : RegSame a s (l.foldl f i) := by
  induction l generalizing i with
  | nil => exact hi
  | cons b l ih => exact ih (hf i b hi)

theorem State.wr_same {s : State} {a p off : Nat} {w : Word} (h : a ≠ p * 4096 + off) : RegSame a s (s.wr p off w) :=
  tabGet_tabPut_of_ne _ _ _ h

theorem State.setFld_same {s : State} {a p : Nat} {f : Fld} {v : Nat} (h : a ≠ p * 4096 + f.off) : RegSame a s (s.setFld p f v) :=
  State.wr_same h

theorem State.setBit_same {s : State} {a p : Nat} {f : Fld} {b : Bool} (h : a ≠ p * 4096 + f.off) : RegSame a s (s.setBit p f b) :=
  State.setFld_same h

theorem State.bumpBy_same {s : State} {a p : Nat} {f : Fld} {n : Nat} (h : a ≠ p * 4096 + f.off) : RegSame a s (s.bumpBy p f n) :=
  State.setFld_same h

theorem State.bump_same {s : State} {a p : Nat} {f : Fld} (h : a ≠ p * 4096 + f.off) : RegSame a s (s.bump p f) := State.bumpBy_same h

theorem State.wr64_same {s : State} {a p lo hi x : Nat} (h : a ≠ p * 4096 + lo) (k : a ≠ p * 4096 + hi) :
    RegSame a s (s.wr64 p lo hi x) := (State.wr_same k).step (State.wr_same h)

theorem addr_page {p off : Nat} (h : off < 4096) : (p * 4096 + off) / 4096 = p := by omega

theorem ne_of_page {a p off : Nat} (h : a / 4096 ≠ p) (ho : off < 4096) : a ≠ p * 4096 + off := by
  intro e; subst e; exact h (addr_page ho)

theorem State.wr_page {s : State} {a p off : Nat} {w : Word} (h : a / 4096 ≠ p) (ho : off < 4096) : RegSame a s (s.wr p off w) :=
  State.wr_same (ne_of_page h ho)

theorem State.setFld_page {s : State} {a p : Nat} {f : Fld} {v : Nat} (h : a / 4096 ≠ p) (ho : f.off < 4096) :
    RegSame a s (s.setFld p f v) := State.wr_page h ho

theorem State.bumpBy_page {s : State} {a p : Nat} {f : Fld} {n : Nat} (h : a / 4096 ≠ p) (ho : f.off < 4096) :
    RegSame a s (s.bumpBy p f n) := State.wr_page h ho

theorem State.bump_page {s : State} {a p : Nat} {f : Fld} (h : a / 4096 ≠ p) (ho : f.off < 4096) : RegSame a s (s.bump p f) :=
  State.wr_page h ho

/-- A message of a vector changes no register outside the PCIE page. -/
theorem State.msix_same {s : State} {a v : Nat} (h : a / 4096 ≠ Pg.PCIE) : RegSame a s (s.msix v) := by
  unfold State.msix
  split
  · exact RegSame.of_regs ((State.setWinBits_within ..).regs.resolve_left (by decide))
  · exact RegSame.step (t := s.bump Pg.PCIE (whole Rg.PCIE_MSG_CNT)) (RegSame.of_regs rfl) (State.bump_page h (by decide))

/-- An interrupt cause changes no register outside its own page and PCIE. -/
theorem State.irq_same {s : State} {a p bit : Nat} (h : a / 4096 ≠ Pg.PCIE) (k : a / 4096 ≠ p) : RegSame a s (s.irq p bit) := by
  have h1 : RegSame a s (s.setFld p ⟨Rg.HDR_IRQ_STAT, bit, 1⟩ 1) := State.setFld_same
    (ne_of_page k (by show Rg.HDR_IRQ_STAT < 4096; decide))
  unfold State.irq
  dsimp only
  split
  · exact h1
  · exact (State.msix_same h).step h1

theorem State.errEdge_same {s : State} {a p : Nat} (h : a / 4096 ≠ Pg.PCIE) (k : a / 4096 ≠ p) : RegSame a s (s.errEdge p) := by
  have h1 : RegSame a s (s.setBit p Fd.HDR_PAGE_STAT_ERR (s.err p)) := State.setBit_same
    (ne_of_page k (by decide))
  unfold State.errEdge
  dsimp only
  split
  · exact (State.irq_same h k).step h1
  · exact h1

/-- A flag set changes no register outside its own page and PCIE. -/
theorem State.flag_same {s : State} {a p : Nat} {f : Fld} (h : a / 4096 ≠ Pg.PCIE) (k : a / 4096 ≠ p) (hf : f.off < 4096) :
    RegSame a s (s.flag p f) :=
  (State.errEdge_same h k).step (State.setFld_same (ne_of_page k hf))

/-- A refused write changes no register outside the page's PAGE_STAT and SYS. -/
theorem State.refuse_same {s : State} {a p off : Nat} {o : Owner} {lock : Bool} (h : a / 4096 ≠ Pg.SYS) (k : a ≠ p * 4096 + Rg.HDR_PAGE_STAT) :
    RegSame a s (s.refuse o p off lock) := by
  unfold State.refuse
  dsimp only
  exact RegSame.step (State.bump_page h (by decide)) (RegSame.step (State.wr_page h (by decide)) (State.setFld_same k))

/-- The registers that a flag or an interrupt cause of page `p` may write besides the cause itself. -/
def headOf (p a : Nat) : Prop := a / 4096 = Pg.PCIE ∨ a = p * 4096 + Rg.HDR_IRQ_STAT ∨ a = p * 4096 + Rg.HDR_PAGE_STAT

theorem State.irq_at {s : State} {a p bit : Nat} (h : ¬headOf p a) : RegSame a s (s.irq p bit) := by
  have h1 : RegSame a s (s.setFld p ⟨Rg.HDR_IRQ_STAT, bit, 1⟩ 1) := State.setFld_same fun e => h (.inr (.inl e))
  unfold State.irq
  dsimp only
  split
  · exact h1
  · exact (State.msix_same fun e => h (.inl e)).step h1

theorem State.errEdge_at {s : State} {a p : Nat} (h : ¬headOf p a) : RegSame a s (s.errEdge p) := by
  have h1 : RegSame a s (s.setBit p Fd.HDR_PAGE_STAT_ERR (s.err p)) := State.setBit_same fun e => h (.inr (.inr e))
  unfold State.errEdge
  dsimp only
  split
  · exact (State.irq_at h).step h1
  · exact h1

theorem State.flag_at {s : State} {a p : Nat} {f : Fld} (h : ¬headOf p a) (k : a ≠ p * 4096 + f.off) : RegSame a s (s.flag p f) :=
  (State.errEdge_at h).step (State.setFld_same k)

/-- The registers that an entry of the event log may write. -/
def logPage (a : Nat) : Prop :=
  a / 4096 = Pg.PCIE ∨
  (a = Pg.QF * 4096 + Rg.HDR_IRQ_STAT ∨ a = Pg.QF * 4096 + Rg.HDR_PAGE_STAT ∨ a = Pg.QF * 4096 + Rg.QF_STAT ∨
    a = Pg.QF * 4096 + Rg.QF_LVL_CNT ∨ a = Pg.QF * 4096 + Rg.QF_EXT_CNT) ∨
  a / 4096 = Pg.SUPV0

theorem logPage.not_head {a : Nat} (h : ¬logPage a) : ¬headOf Pg.QF a := by
  unfold logPage at h; unfold headOf; tauto

theorem State.showLevels_same {s : State} {a : Nat} (h : ¬logPage a) : RegSame a s s.showLevels := by
  have h1 : a ≠ Pg.QF * 4096 + Rg.QF_LVL_CNT := fun e => h (by unfold logPage; tauto)
  have h2 : a ≠ Pg.QF * 4096 + Rg.HDR_IRQ_STAT := fun e => h (by unfold logPage; tauto)
  unfold State.showLevels
  refine RegSame.step ?_ (State.setFld_same (s := s) (p := Pg.QF) (f := Fd.QF_LVL_CNT_b0) (v := s.levels.length) h1)
  split
  · exact State.setFld_same h2
  · exact State.irq_at (logPage.not_head h)

theorem State.qLevelCheck_same {s : State} {a q : Nat} (h : ¬logPage a) : RegSame a s (s.qLevelCheck q) := by
  unfold State.qLevelCheck
  dsimp only
  split
  · refine (State.showLevels_same h).step ?_
    split <;> exact RegSame.of_regs rfl
  · exact RegSame.refl _ _

theorem State.extPut_same {s : State} {a q : Nat} {w : QWord} (h : ¬logPage a) : RegSame a s (s.extPut q w) := by
  unfold State.extPut
  dsimp only
  generalize e : ((s.ringPut q ((s.q q).extHead + (s.q q).extLen) w).setQ q _) = s1
  have h1 : s1.regs = s.regs := by
    rw [← e, State.setQ_regs]
    exact (State.ringPut_within ..).regs.resolve_left (by decide)
  exact (State.bumpBy_same (fun k => h (.inr (.inl (.inr (.inr (.inr (.inr k)))))))).step (RegSame.of_regs h1)

theorem State.qPut_same {s : State} {a q tag : Nat} {d : Word64} {sof eof : Bool} (h : ¬logPage a) : RegSame a s (s.qPut q d tag sof eof) := by
  unfold State.qPut
  dsimp only
  refine (State.qLevelCheck_same h).step (RegSame.step (RegSame.of_regs rfl) ?_)
  have h1 : RegSame a s (if tag = tagNotValid then s.flag Pg.QF Fd.QF_STAT_BAD_TAG else s) := by
    split
    · exact State.flag_at (logPage.not_head h) fun k => h (.inr (.inl (.inr (.inr (.inl k)))))
    · exact RegSame.refl _ _
  generalize (if tag = tagNotValid then s.flag Pg.QF Fd.QF_STAT_BAD_TAG else s) = s1 at h1
  refine RegSame.step ?_ h1
  split
  · exact State.extPut_same h
  · exact RegSame.of_regs rfl

theorem State.qPutFrame_same {s : State} {a q tag : Nat} {l : List Word64} (h : ¬logPage a) : RegSame a s (s.qPutFrame q l tag) :=
  RegSame.foldl (RegSame.refl _ _) fun _ _ k => (State.qPut_same h).step k

theorem State.logFrame_same {s : State} {a : Nat} {e : LogEntry} (h : ¬logPage a) : RegSame a s (s.logFrame e) := by
  unfold State.logFrame
  split
  · exact State.qPutFrame_same h
  · exact State.flag_same (fun e => h (.inl e)) (fun e => h (.inr (.inr e))) (by decide)

theorem State.logOver_same {s : State} {a : Nat} (h : ¬logPage a) : RegSame a s s.logOver := by
  unfold State.logOver
  split
  · split
    · exact RegSame.step (State.irq_same (fun e => h (.inl e)) (fun e => h (.inr (.inr e))))
        (RegSame.step (State.flag_same (fun e => h (.inl e)) (fun e => h (.inr (.inr e))) (by decide))
          (State.bump_page (fun e => h (.inr (.inr e))) (by decide)))
    · exact RegSame.refl _ _
  · exact RegSame.refl _ _

theorem State.putEntry_same {s : State} {a : Nat} {e : LogEntry} (h : ¬logPage a) : RegSame a s (s.putEntry e) := by
  unfold State.putEntry
  refine RegSame.step (State.logFrame_same h) (RegSame.step (State.wr_page (fun e => h (.inr (.inr e))) (by decide))
    (RegSame.step (State.setFld_page (fun e => h (.inr (.inr e))) (by decide))
      (RegSame.step (State.setFld_page (fun e => h (.inr (.inr e))) (by decide)) ?_)))
  exact RegSame.step (t := s.logOver) (RegSame.of_regs rfl) (State.logOver_same h)

theorem State.countClass_same {s : State} {a cls : Nat} (h : ¬logPage a) : RegSame a s (s.countClass cls) := by
  have hs : ∀ off < 4096, a ≠ Pg.SUPV0 * 4096 + off := fun _ ho => ne_of_page (fun e => h (.inr (.inr e))) ho
  unfold State.countClass
  split
  · exact State.bump_page (fun e => h (.inr (.inr e))) (by decide)
  all_goals first
    | exact State.bump_page (fun e => h (.inr (.inr e))) (by decide)
    | exact RegSame.step (State.irq_same (fun e => h (.inl e)) (fun e => h (.inr (.inr e))))
        (RegSame.step (State.flag_same (fun e => h (.inl e)) (fun e => h (.inr (.inr e))) (by decide))
          (State.bump_page (fun e => h (.inr (.inr e))) (by decide)))

theorem State.faultN_same {s : State} {a : Nat} {f g : Fld} (h : ¬logPage a) (hg : g.off < 4096) : RegSame a s (s.faultN f g) := by
  have hs : ∀ off < 4096, a ≠ Pg.SUPV0 * 4096 + off := fun _ ho => ne_of_page (fun e => h (.inr (.inr e))) ho
  unfold State.faultN
  split
  · exact (State.setFld_same (hs _ hg)).step (State.setFld_same (hs _ (by decide)))
  · exact RegSame.refl _ _

/-- A log entry of a class below FATAL changes registers of SUPV0, QF and PCIE only. -/
theorem State.logMinor_same {s : State} {a page arg0 arg1 : Nat} {c : ErrCode} {line : Option (Nat × Nat)} (h : ¬logPage a) (hc : c.cls ≠ 3) :
    RegSame a s (s.logErr c page arg0 arg1 line) := by
  unfold State.logErr
  dsimp only
  refine RegSame.step ?_ (State.countClass_same (cls := c.cls) h)
  generalize s.countClass c.cls = s1
  split
  · split <;> exact RegSame.of_regs rfl
  · rw [if_neg (by tauto)]
    refine RegSame.step ?_ (State.putEntry_same (s := s1) (e := ⟨0, c.code, c.cls, page, s1.time, line, 0, arg0, arg1⟩) h)
    split
    · exact State.faultN_same h (by decide)
    · exact absurd ‹c.cls = 3› hc
    · exact RegSame.refl _ _

end Sys2Proof.Machine
end

