-- ==== Sys2Proof/Laws/Meanings.lean ====
section
/-!
SUPPORT. What the meanings of the commands rest on: counters, flags, events and writes of registers as equations, and what single
operations keep.
-/
set_option linter.unusedSimpArgs false
namespace Sys2Proof.Machine
theorem satN_lt (b n : Nat) : satN b n < 2 ^ b := by unfold satN; have := Nat.two_pow_pos b; split <;> omega

theorem State.fld_bumpBy (s : State) (p : Nat) (f : Fld) (n : Nat) (h : f.lo + f.len ≤ 32) :
    (s.bumpBy p f n).fld p f = satN f.len (s.fld p f + n) := by
  unfold State.bumpBy; rw [State.fld_setFld _ _ _ _ h]; exact Nat.mod_eq_of_lt (satN_lt ..)

theorem State.fld_bump (s : State) (p : Nat) (f : Fld) (h : f.lo + f.len ≤ 32) :
    (s.bump p f).fld p f = satN f.len (s.fld p f + 1) := State.fld_bumpBy _ _ _ _ h

theorem State.fld_setBit (s : State) (p : Nat) (f : Fld) (b : Bool) (h : f.lo + f.len ≤ 32) (hl : f.len ≠ 0) :
    (s.setBit p f b).fld p f = b2n b := by
  unfold State.setBit; rw [State.fld_setFld _ _ _ _ h]
  refine Nat.mod_eq_of_lt ?_
  have : 2 ^ 1 ≤ 2 ^ f.len := Nat.pow_le_pow_right (by decide) (by omega)
  cases b <;> simp [b2n] <;> omega

theorem foldl_kept {α β : Type} (g : State → β) (f : State → α → State) (hf : ∀ s x, g (f s x) = g s) (l : List α) (s : State) :
    g (l.foldl f s) = g s := by
  induction l generalizing s with
  | nil => rfl
  | cons a l ih => exact (ih _).trans (hf s a)

theorem State.chanOf_of {s t : State} (h : t.chan = s.chan) (c : Nat) : t.chanOf c = s.chanOf c := by unfold State.chanOf; rw [h]

/-- The travel and the latest sample of a channel, which commits leave alone. -/
abbrev State.track (s : State) (c : Nat) : Int × Nat := ((s.chanOf c).travel, (s.chanOf c).now)

theorem State.track_of {s t : State} (c : Nat) (h : t.chan = s.chan) : t.track c = s.track c := by
  unfold State.track; rw [State.chanOf_of h]

theorem State.regHook_track (s : State) (a : Nat) (old new : Word) (c : Nat) : (s.regHook a old new).track c = s.track c := by
  unfold State.regHook
  dsimp only
  split
  · refine foldl_kept (·.track c) _ (fun _ _ => ?_) _ _
    rfl
  split
  · rfl
  split
  · exact State.track_of c ((State.portChanged_within ..).chan_eq rfl)
  split
  · refine foldl_kept (·.track c) _ (fun s d => ?_) _ _
    split
    · simp only [State.track, State.chanOf, tabGet_tabPut]
      split
      · rename_i e; rw [e]
      · rfl
    · split <;> rfl
  · rfl

theorem State.putRegs_track (s : State) (l : List (Nat × Word)) (c : Nat) : (s.putRegs l).track c = s.track c := by
  refine foldl_kept (·.track c) _ (fun s e => ?_) l s
  dsimp only
  split
  · rfl
  · exact State.regHook_track ..

theorem State.applyParts_track (s : State) (p : Nat) (d : Bound → Bool) (n : Option Nat) (c : Nat) : (s.applyParts p d n).track c = s.track c := by
  unfold State.applyParts
  dsimp only
  split
  · rfl
  split
  · rfl
  have h : ∀ (l : List Part) (s : State), (l.foldl (fun s x => s.putRegs x.regs) s).track c = s.track c :=
    fun l s => foldl_kept (·.track c) _ (fun s x => State.putRegs_track s x.regs c) l s
  have hc : ∀ (s : State) (x : Pend), (s.commitDone p x).track c = s.track c := by
    intro s x
    unfold State.commitDone
    dsimp only
    refine (foldl_kept (·.track c) _ (fun _ _ => ?_) _ _).trans ?_
    · rfl
    exact foldl_kept (·.track c) _ (fun s o => State.putRegs_track s _ c) _ s
  split
  · rw [hc, h]
  · exact h _ _

theorem State.boundary_track (s : State) (p v n r : Nat) (b : Bool) (c : Nat) : (s.boundary p v n r b).track c = s.track c :=
  State.applyParts_track ..

theorem State.viewStopped_track (s : State) (v : Nat) (l : List Nat) (c : Nat) : (s.viewStopped v l).track c = s.track c :=
  foldl_kept (·.track c) _ (fun s p => State.applyParts_track s p _ none c) _ s

theorem State.stopAt_track (s : State) (v n : Nat) (l : List Nat) (c : Nat) : (s.stopAt v n l).track c = s.track c := by
  unfold State.stopAt
  dsimp only
  split <;> split <;> first | (rw [State.viewStopped_track]; rfl) | rfl

theorem State.lastLine_track (s : State) (v c : Nat) : (s.lastLine v).track c = s.track c := by
  unfold State.lastLine
  split
  · rfl
  split
  · unfold State.endTriggers
    rw [State.stopAt_track]; rfl
  · rfl

theorem State.tgSync_track (s : State) (v c : Nat) : (s.tgSync v).track c = s.track c := by
  unfold State.tgSync
  dsimp only
  split
  · rfl
  · split
    · exact State.stopAt_track ..
    · rfl

theorem State.dueBoundary_track (s : State) (v c : Nat) : (s.dueBoundary v).track c = s.track c :=
  foldl_kept (·.track c) _ (fun s p => State.boundary_track s p _ _ _ _ c) _ s

theorem State.dueLoop_track (v sample : Nat) (tr : Int) (n : Nat) (s : State) (c : Nat) : (s.dueLoop v sample tr n).track c = s.track c := by
  induction n generalizing s with
  | zero => rfl
  | succ n ih =>
    unfold State.dueLoop
    dsimp only
    split
    · rfl
    split
    · exact State.lastLine_track ..
    · rw [ih, State.tgSync_track, State.dueBoundary_track]
      exact ((State.track_of c ((State.due_within ..).chan_eq rfl)).trans rfl).trans (State.lastLine_track ..)

theorem State.tgCount_track (s : State) (v sample : Nat) (rev : Bool) (tr : Int) (c : Nat) :
    (s.tgCount v sample rev tr).track c = s.track c := by
  unfold State.tgCount
  dsimp only
  split
  · exact State.tgSync_track ..
  · split
    · exact (State.track_of c rfl).trans (State.tgSync_track s v c)
    · rw [State.dueLoop_track]; exact (State.track_of c rfl).trans (State.tgSync_track s v c)

theorem State.speedCount_travel (s : State) (ch sample : Nat) (rev : Bool) :
    ((s.speedCount ch sample rev).chanOf ch).travel = (s.chanOf ch).travel := by
  unfold State.speedCount
  dsimp only
  repeat' split
  all_goals simp

theorem State.count_travel (s : State) (ch sample : Nat) (rev : Bool) :
    (s.count ch sample rev).track ch = ((s.chanOf ch).travel + (if rev then -1 else 1), sample) := by
  have h1 : (s.countPos ch rev).1.chanOf ch = s.chanOf ch := (State.countPos_within s ch rev).chanOf ch rfl
  unfold State.count
  dsimp only
  generalize s.countPos ch rev = r at h1 ⊢
  obtain ⟨s1, wrap⟩ := r
  have h2 := State.speedCount_travel s1 ch sample rev
  generalize s1.speedCount ch sample rev = s2 at h2 ⊢
  rw [show s1.chanOf ch = s.chanOf ch from h1] at h2
  dsimp only
  generalize e : s2.setChan ch _ = s3
  have h3 : s3.track ch = ((s.chanOf ch).travel + (if rev then -1 else 1), sample) := by
    rw [← e, State.track, State.chanOf_setChan, ← h2]
  generalize s3.tgsOf ch = l
  have h4 : (List.foldl (fun s v => s.tgCount v sample rev (s.chanOf ch).travel) s3 l).track ch = s3.track ch :=
    foldl_kept (·.track ch) _ (fun s v => State.tgCount_track s v sample rev _ ch) l s3
  generalize List.foldl (fun s v => s.tgCount v sample rev (s.chanOf ch).travel) s3 l = s4 at h4
  split
  · rw [foldl_kept (·.track ch) _ (fun s v => State.track_of ch ((State.wrapFor_within s v).chan_eq rfl)), ← h3, ← h4]
    exact State.track_of ch (by simp)
  · rw [h4]; exact h3

theorem State.mode_wr (s : State) (p off : Nat) (w : Word) (h : p * 4096 + off ≠ Pg.SYS * 4096 + Fd.SYS_MODE_MODE.off) :
    (s.wr p off w).mode = s.mode := by
  unfold State.mode; rw [State.fld_wr_of_ne _ _ _ _ _ _ (Ne.symm h)]
theorem State.mode_setFld (s : State) (p : Nat) (f : Fld) (v : Nat) (h : p * 4096 + f.off ≠ Pg.SYS * 4096 + Fd.SYS_MODE_MODE.off) :
    (s.setFld p f v).mode = s.mode := State.mode_wr _ _ _ _ h
theorem State.on_wr_of_ne (s : State) (p off : Nat) (w : Word) (q : Nat) (g : Fld) (h : q * 4096 + g.off ≠ p * 4096 + off) :
    (s.wr p off w).on q g = s.on q g := by
  unfold State.on; rw [State.fld_wr_of_ne _ _ _ _ _ _ h]
theorem State.rd_wr_of_ne (s : State) (p off : Nat) (w : Word) (q o : Nat) (h : q * 4096 + o ≠ p * 4096 + off) :
    (s.wr p off w).rd q o = s.rd q o := by rw [State.rd_wr, if_neg h]
theorem State.raise_raised (s : State) (src : Nat) (st : Stamp) (h : s.mode ≠ .boot) : (s.raise src st).raised = s.raised ++ [(src, st)] := by
  unfold State.raise; rw [if_neg h]
theorem State.posEvent_raised (s : State) (ch k n : Nat) (h : s.mode ≠ .boot) :
    (s.posEvent ch k n).raised = s.raised ++ [(evPos ch k, { time := s.timeAt (rawOfCycle n) / 65536 })] := State.raise_raised _ _ _ h
theorem State.timeAt_of {s t : State} (h : t.tb = s.tb) (r : Nat) : t.timeAt r = s.timeAt r := by unfold State.timeAt; rw [h]
@[simp] theorem State.timeAt_wr (s : State) (p off : Nat) (w : Word) (r : Nat) : (s.wr p off w).timeAt r = s.timeAt r := rfl
@[simp] theorem State.timeAt_setFld (s : State) (p : Nat) (f : Fld) (v r : Nat) : (s.setFld p f v).timeAt r = s.timeAt r := rfl
@[simp] theorem State.timeAt_setChan (s : State) (p : Nat) (x : Chan) (r : Nat) : (s.setChan p x).timeAt r = s.timeAt r := rfl

@[simp] theorem State.emit_out (s : State) (o : Output) : (s.emit o).out = s.out ++ [o] := rfl
theorem State.mode_setFld_page (s : State) (p : Nat) (f : Fld) (v : Nat) (h : p ≠ Pg.SYS) :
    (s.setFld p f v).mode = s.mode := State.mode_setFld _ _ _ _ (by have : Fd.SYS_MODE_MODE.off = 64 := rfl; have : Pg.SYS = 0 := rfl; omega)
theorem State.mode_wr_page (s : State) (p off : Nat) (w : Word) (h : p ≠ Pg.SYS) :
    (s.wr p off w).mode = s.mode := State.mode_wr _ _ _ _ (by have : Fd.SYS_MODE_MODE.off = 64 := rfl; have : Pg.SYS = 0 := rfl; omega)
theorem State.showLine_same {s : State} {a v n : Nat} (h : a / 4096 ≠ Pg.POS) (hv : v < 4) : RegSame a s (s.showLine v n) :=
  (State.setFld_page h (by show 0x08C + 0x10 * v < 4096; omega)).step (State.wr_page h (by show 0x088 + 0x10 * v < 4096; omega))
theorem State.keepLine_regs (s : State) (v n : Nat) (r : LineRec) : (s.keepLine v n r).regs = s.regs := rfl
theorem State.settleSkips_same {a v : Nat} (h : a / 4096 ≠ Pg.POS) (hv : v < 4) (l : List (Nat × Nat × Int)) (s : State) :
    RegSame a s (s.settleSkips v l) := by
  induction l generalizing s with
  | nil => exact RegSame.refl _ _
  | cons e l ih =>
    obtain ⟨n, due, tr⟩ := e
    exact (ih _).step ((State.showLine_same h hv).step (RegSame.of_regs (State.keepLine_regs ..)))
theorem State.portsOf_of {s t : State} (h : ∀ off < 4096, RegSame (Pg.STI * 4096 + off) s t) (v : Nat) : t.portsOf v = s.portsOf v := by
  have hf : ∀ f : Fld, f.off < 4096 → t.fld Pg.STI f = s.fld Pg.STI f := fun f hf => (h f.off hf).fld
  unfold State.portsOf
  refine List.filter_congr fun p hp => ?_
  have hp : p < 16 := by simpa using hp
  have ho : (Fd.STI_PORT_CTL_IN_VIEW p).off < 4096 := by show 0x088 + 4 * p < 4096; omega
  unfold State.on
  rw [hf _ ho, hf (Fd.STI_PORT_CTL_VIEW p) ho]
theorem State.issue_same {s : State} {a v : Nat} (h : a / 4096 ≠ Pg.POS) (hv : v < 4) : RegSame a s (s.issue v).1 := by
  unfold State.issue
  dsimp only
  split
  · exact RegSame.refl _ _
  · exact (State.settleSkips_same h hv _ _).step ((State.showLine_same h hv).step ((RegSame.of_regs (State.keepLine_regs ..)).step
      ((State.setFld_page h (by show 0x080 + 0x10 * v < 4096; omega)).step (RegSame.of_regs rfl))))

/-- A flag that was set reads as set. -/
theorem State.on_flag (s : State) (p : Nat) (f : Fld) (h : ¬headOf p (p * 4096 + f.off)) (hl : f.lo + f.len ≤ 32) (h0 : f.len ≠ 0) :
    (s.flag p f).on p f = true := by
  unfold State.flag State.on
  rw [(State.errEdge_at h).fld, State.fld_setFld _ _ _ _ hl]
  have : 2 ^ 1 ≤ 2 ^ f.len := Nat.pow_le_pow_right (by decide) (by omega)
  rw [Nat.mod_eq_of_lt (by omega)]; rfl

/-- A granted write does what it does. -/
theorem State.guarded_granted {s : State} {o : Owner} {p off : Nat} {f : State → State} (h : s.access o p = .granted) :
    s.guarded o p off f = f (s.touch o p) := by unfold State.guarded; rw [h]

@[simp] theorem State.time_of_raw (s : State) (o : Owner) (p : Nat) : (s.touch o p).time = s.time := by
  unfold State.time State.time16 State.timeAt; simp
@[simp] theorem State.time_setFld (s : State) (p : Nat) (f : Fld) (v : Nat) : (s.setFld p f v).time = s.time := rfl
@[simp] theorem State.time_wr (s : State) (p off : Nat) (w : Word) : (s.wr p off w).time = s.time := rfl
theorem State.raiseNow_raised (s : State) (src : Nat) (h : s.mode ≠ .boot) : (s.raiseNow src).raised = s.raised ++ [(src, { time := s.time })] :=
  State.raise_raised _ _ _ h
theorem regsKept_one {s t : State} {a : Nat} (h : ∀ b, b ≠ a → RegSame b s t) : regsKept [a] s t := fun b hb => h b (by simpa using hb)

theorem State.writeReg_rd_other (s : State) (p off : Nat) (w : Word) (q o : Nat) (h : q * 4096 + o ≠ p * 4096 + off) :
    (s.writeReg p off w).rd q o = s.rd q o := by
  unfold State.writeReg
  dsimp only
  split
  · rfl
  · repeat' split
    all_goals simp [State.rd_wr_of_ne _ _ _ _ _ _ h]
    all_goals exact State.rd_wr_of_ne _ _ _ _ _ _ h

/-- What a write does to a register without write-once and shadowed bits. -/
theorem State.writeReg_plain (s : State) (p off : Nat) (w : Word) (r : RegDef) (h : regDefAt (p * 4096 + off) = some r) (h1 : r.wro = 0)
    (h2 : r.rws = 0) :
    s.writeReg p off w = s.wr p off ((s.rd p off &&& ~~~r.rw &&& ~~~(r.w1c &&& w)) ||| (w &&& r.rw)) := by
  unfold State.writeReg
  dsimp only
  rw [h]
  simp [h1, h2]

theorem State.taskAct_pend (s : State) (o : Occ) : (s.taskAct o).evf.pend = s.evf.pend := by
  have hw : ∀ (s : State) a b c d, (s.setWinBits a b c d).evf = s.evf := fun s a b c d => (State.setWinBits_within ..).evf_eq rfl
  unfold State.taskAct
  dsimp only
  split
  · unfold State.evioAct; dsimp only; split <;> simp [hw]
  split
  · unfold State.pulseTask
    dsimp only
    have hc := fun a b c d e f => (State.calInsert_within (s.setWinBits (taskAt o.task) 112 16 (satN 16 (s.evt o.task 112 16 + 1))) a b c d e f).evf_eq rfl
    generalize hq : State.calInsert _ _ _ _ _ _ _ = q
    have hq1 : q.1.evf = s.evf := by rw [← hq, hc, hw]
    split <;> simp [hq1]
  split
  · rw [(State.enterHold_within ..).evf_eq rfl, hw]
  split
  · rw [(State.cancelCalendar_within ..).evf_eq rfl, hw]
  split
  · rw [(State.switchBanks_within ..).evf_eq rfl, hw]
  split
  · simp [hw]
  split
  · simp [hw]
  · rw [State.setFld_evf, hw]

theorem State.taskTake_pend (s : State) (o : Occ) (h : s.taskBusy o.task = false) : (s.taskTake o).evf.pend = s.evf.pend := by
  unfold State.taskTake State.ignoreOcc
  dsimp only
  split
  · rfl
  split
  · rfl
  split
  · simp
  split
  · rfl
  split
  · rfl
  · simp only [h, Bool.false_eq_true, if_false]; exact State.taskAct_pend ..

/-- What a write does to a register of RW bits. -/
theorem State.writeReg_rw (s : State) (p off : Nat) (w : Word) (r : RegDef) (h : regDefAt (p * 4096 + off) = some r) (h1 : r.wro = 0)
    (h2 : r.rws = 0) (h3 : r.w1c = 0) :
    s.writeReg p off w = s.wr p off ((s.rd p off &&& ~~~r.rw) ||| (w &&& r.rw)) := by
  rw [State.writeReg_plain s p off w r h h1 h2, h3]
  congr 2
  change _ &&& ~~~(0#32 &&& w) = _
  rw [BitVec.zero_and, BitVec.not_zero, BitVec.and_allOnes]

theorem foldl_setWin_regs (l : List (Nat × Word)) (s : State) : (l.foldl (fun s e => s.setWin e.1 e.2) s).regs = s.regs := by
  refine foldl_kept (·.regs) _ (fun _ _ => ?_) l s
  rfl
theorem foldl_setWin_crl (l : List (Nat × Word)) (s : State) : (l.foldl (fun s e => s.setWin e.1 e.2) s).crl = s.crl := by
  refine foldl_kept (·.crl) _ (fun _ _ => ?_) l s
  rfl
theorem State.applyDeferred_regs (s : State) (b k : Nat) : (s.applyDeferred b k).regs = s.regs := (State.applyDeferred_within ..).regs_eq rfl
theorem State.applyDeferred_crl (s : State) (b k : Nat) : (s.applyDeferred b k).crl = { s.crl with deferred := (s.applyDeferred b k).crl.deferred } := by
  unfold State.applyDeferred
  dsimp only
  rw [foldl_setWin_crl]

/-- An entry inserted while the calendar has room. -/
theorem State.calInsert_ok (s : State) (t action pulse width qidx port : Nat) (h : s.crl.entries.length < 4096) :
    (s.calInsert t action pulse width qidx port).2 = true ∧
    (s.calInsert t action pulse width qidx port).1.crl.entries = s.crl.entries ++ [⟨s.crl.nextNum, t, action, pulse, width, qidx, port⟩] ∧
    (s.calInsert t action pulse width qidx port).1.crl.nextNum = s.crl.nextNum + 1 := by
  unfold State.calInsert
  rw [if_neg (Nat.not_le.2 h)]
  dsimp only
  refine ⟨rfl, ?_, ?_⟩ <;> split <;> rfl

/-! ### FATAL faults (R69, R601) -/

theorem State.enter_mode (s : State) (m : Mode) : (s.enter m).mode = m := by
  unfold State.enter
  dsimp only
  rw [State.raiseNow_mode]
  have h : ((s.setFld Pg.SYS Fd.SYS_MODE_PREV_MODE s.mode.code).setFld Pg.SYS Fd.SYS_MODE_MODE m.code).mode = m := by
    unfold State.mode
    rw [State.fld_setFld _ _ _ _ (by decide)]
    cases m <;> rfl
  split
  · unfold State.clearMan
    rw [State.mode_wr_page _ _ _ _ (by decide), State.mode_wr_page _ _ _ _ (by decide), h]
  · exact h

theorem State.enterHold_mode (s : State) (e : Nat) (h : s.mode ≠ .boot) : (s.enterHold e).mode = .hold := by
  unfold State.enterHold
  split
  · rename_i h1; rcases h1 with h1 | h1
    · exact absurd h1 h
    · exact h1
  · dsimp only
    rw [State.mode_setFld_page _ _ _ _ (by decide), State.raiseNow_mode, State.enter_mode]

theorem State.mode_of_regs {s t : State} (h : RegSame (Pg.SYS * 4096 + Fd.SYS_MODE_MODE.off) s t) : t.mode = s.mode := by
  unfold State.mode; rw [h.fld]

/-- A fault of class FATAL leads to HOLD from every mode but BOOT. -/
theorem State.logFatal_mode (s : State) (c : ErrCode) (page arg0 arg1 : Nat) (line : Option (Nat × Nat)) (hc : c.cls = 3) (h : s.mode ≠ .boot) :
    (s.logErr c page arg0 arg1 line).mode = .hold := by
  have hp : ¬logPage (Pg.SYS * 4096 + Fd.SYS_MODE_MODE.off) := by unfold logPage; decide
  unfold State.logErr
  dsimp only
  have h1 : (s.countClass c.cls).mode ≠ .boot := by rw [State.mode_of_regs (State.countClass_same hp)]; exact h
  generalize s.countClass c.cls = s1 at h1 ⊢
  have hm : s1.merges c page arg0 = false := by unfold State.merges; rw [hc]; simp
  rw [hm]
  simp only [Bool.false_eq_true, if_false]
  rw [hc]
  apply State.enterHold_mode
  rw [State.mode_of_regs (State.faultN_same hp (by decide)), State.mode_of_regs (State.putEntry_same hp)]
  split
  · rw [State.mode_of_regs (State.putEntry_same hp), State.mode_of_regs (State.countClass_same hp)]; exact h1
  · exact h1

/-- A fault of class FATAL leaves the registers of pages alone that HOLD does not touch. -/
theorem State.wr64_rd (s : State) (p lo hi x : Nat) (h : p * 4096 + lo ≠ p * 4096 + hi) :
    (s.wr64 p lo hi x).rd64 p lo hi = x % 2 ^ 64 := by
  unfold State.wr64 State.rd64
  rw [State.rd_wr_same, State.rd_wr_of_ne _ _ _ _ _ _ h, State.rd_wr_same, BitVec.toNat_ofNat, BitVec.toNat_ofNat]
  omega

/-- A field of a page that the timebase's state change does not write. -/
theorem State.setTbState_at {s : State} {a st : Nat} (h : a ≠ Pg.TB * 4096 + Rg.TB_STAT) : RegSame a s (s.setTbState st) := by
  unfold State.setTbState
  dsimp only
  have h1 : RegSame a s ((s.setFld Pg.TB Fd.TB_STAT_STATE st).setFld Pg.TB Fd.TB_STAT_CLOCK_CLASS (clockClassOf st)) :=
    (State.setFld_same h).step (State.setFld_same h)
  split
  · exact h1
  split
  · exact (RegSame.of_regs (by simp)).step h1
  split
  · exact (RegSame.of_regs (by simp)).step h1
  · exact h1

theorem State.setTbState_fld (s : State) (st : Nat) (f : Fld) (h1 : f.lo + f.len ≤ Fd.TB_STAT_STATE.lo ∨ Fd.TB_STAT_STATE.lo + Fd.TB_STAT_STATE.len ≤ f.lo)
    (h2 : f.lo + f.len ≤ Fd.TB_STAT_CLOCK_CLASS.lo ∨ Fd.TB_STAT_CLOCK_CLASS.lo + Fd.TB_STAT_CLOCK_CLASS.len ≤ f.lo) :
    (s.setTbState st).fld Pg.TB f = s.fld Pg.TB f := by
  have h3 : ((s.setFld Pg.TB Fd.TB_STAT_STATE st).setFld Pg.TB Fd.TB_STAT_CLOCK_CLASS (clockClassOf st)).fld Pg.TB f = s.fld Pg.TB f := by
    rw [State.fld_setFld_apart _ _ _ _ _ _ (by decide) (.inr h2), State.fld_setFld_apart _ _ _ _ _ _ (by decide) (.inr h1)]
  unfold State.setTbState
  dsimp only
  split
  · exact h3
  split
  · rw [State.raiseNow_fld]; exact h3
  split
  · rw [State.raiseNow_fld]; exact h3
  · exact h3

theorem State.setTbState_class (s : State) (st : Nat) (hs : st < 8) :
    (s.setTbState st).fld Pg.TB Fd.TB_STAT_CLOCK_CLASS = clockClassOf st ∧ (s.setTbState st).fld Pg.TB Fd.TB_STAT_STATE = st := by
  have h3 : ((s.setFld Pg.TB Fd.TB_STAT_STATE st).setFld Pg.TB Fd.TB_STAT_CLOCK_CLASS (clockClassOf st)).fld Pg.TB Fd.TB_STAT_CLOCK_CLASS = clockClassOf st := by
    rw [State.fld_setFld _ _ _ _ (by decide)]
    unfold clockClassOf; split
    · rfl
    split <;> rfl
  have h4 : ((s.setFld Pg.TB Fd.TB_STAT_STATE st).setFld Pg.TB Fd.TB_STAT_CLOCK_CLASS (clockClassOf st)).fld Pg.TB Fd.TB_STAT_STATE = st := by
    rw [State.fld_setFld_apart _ _ _ _ _ _ (by decide) (by decide), State.fld_setFld _ _ _ _ (by decide)]
    exact Nat.mod_eq_of_lt hs
  unfold State.setTbState
  dsimp only
  split
  · exact ⟨h3, h4⟩
  split
  · simp only [State.raiseNow_fld]; exact ⟨h3, h4⟩
  split
  · simp only [State.raiseNow_fld]; exact ⟨h3, h4⟩
  · exact ⟨h3, h4⟩

/-- A new rate leaves the present where it is (R433). -/
theorem State.setRate_time16 (s : State) (r : Int) : (s.setRate r).time16 = s.time16 := by
  show ((s.raw : Int) + s.tb.offset * 65536 + (s.tb.f16 + (((s.raw : Int) - s.tb.anchor) * s.tb.rate + 2 ^ 47) / 2 ^ 48) +
    (((s.raw : Int) - s.raw) * r + 2 ^ 47) / 2 ^ 48).toNat = _
  rw [Int.sub_self, Int.zero_mul]
  unfold State.time16 State.timeAt
  congr 1
  have : ((0 : Int) + 2 ^ 47) / 2 ^ 48 = 0 := by decide
  omega

theorem State.emit_rd64 (s : State) (o : Output) (p lo hi : Nat) : (s.emit o).rd64 p lo hi = s.rd64 p lo hi := rfl
theorem State.rd64_wr_apart (s : State) (p off : Nat) (w : Word) (q lo hi : Nat) (h : q * 4096 + lo ≠ p * 4096 + off ∧ q * 4096 + hi ≠ p * 4096 + off) :
    (s.wr p off w).rd64 q lo hi = s.rd64 q lo hi := by
  unfold State.rd64; rw [State.rd_wr_of_ne _ _ _ _ _ _ h.1, State.rd_wr_of_ne _ _ _ _ _ _ h.2]
theorem State.wr64_rd64_apart (s : State) (p lo hi x q l h : Nat) (k : (q * 4096 + l ≠ p * 4096 + lo ∧ q * 4096 + h ≠ p * 4096 + lo) ∧
    (q * 4096 + l ≠ p * 4096 + hi ∧ q * 4096 + h ≠ p * 4096 + hi)) : (s.wr64 p lo hi x).rd64 q l h = s.rd64 q l h := by
  unfold State.wr64; rw [State.rd64_wr_apart _ _ _ _ _ _ _ k.2, State.rd64_wr_apart _ _ _ _ _ _ _ k.1]

theorem State.lockState_tb (s : State) (e : Int) : ∃ k, (s.lockState e).tb = { s.tb with good := k } := by
  have h : ∀ (q : State) n, (q.setTbState n).tb = q.tb := fun q n => (State.setTbState_within ..).tb_eq rfl
  unfold State.lockState
  dsimp only
  generalize (if decide (e.natAbs ≤ s.fld Pg.TB Fd.TB_SERVO_CTL_LOCK_NS * 65536) = true then _ else 0 : Nat) = k
  refine ⟨k, ?_⟩
  by_cases h2 : s.fld Pg.TB Fd.TB_STAT_STATE = 2
  · rw [if_pos h2]
    by_cases h3 : decide (e.natAbs ≤ s.fld Pg.TB Fd.TB_SERVO_CTL_LOCK_NS * 65536) = true
    · rw [if_pos h3]
    · rw [if_neg h3, h]
  · rw [if_neg h2]
    by_cases h3 : k ≥ 16
    · rw [if_pos h3, h]
    · rw [if_neg h3, h]

theorem State.ppsEdge_good {s : State}
    (h : (phaseError s.time16).natAbs ≤ s.fld Pg.TB Fd.TB_SERVO_CTL_PPS_WIN * 1000 * 65536 ∨ 4 ≤ s.ppsSeries) :
    s.ppsEdge = State.ppsGood (State.raiseNow { s with tb := { s.tb with lastEdge := some s.rawNs, series := s.ppsSeries } } evPpsIn)
      s.time16 := by
  unfold State.ppsEdge
  exact if_pos h
theorem State.setRate_rate (s : State) (r : Int) : (s.setRate r).tb.rate = r := rfl
theorem State.setRate_f (s : State) (r : Int) : (s.setRate r).tb.f = s.tb.f := rfl
theorem State.setRate_fresh (s : State) (r : Int) : (s.setRate r).tb.fresh = s.tb.fresh := rfl
theorem State.setRate_lastEdge (s : State) (r : Int) : (s.setRate r).tb.lastEdge = s.tb.lastEdge := rfl
theorem State.servo_tb (s : State) (e g : Int) (hg : g = servoErr e) :
    (s.servo e).tb.lastEdge = s.tb.lastEdge ∧ (s.servo e).tb.fresh = false ∧
    (s.servo e).tb.f = clampI (-rateLimit) rateLimit (if s.tb.fresh then -g else s.tb.f - shrI g (s.fld Pg.TB Fd.TB_SERVO_CTL_KI_SHIFT)) ∧
    (s.servo e).tb.rate = (if s.tb.fresh then (s.servo e).tb.f
      else clampI (-rateLimit) rateLimit ((s.servo e).tb.f - shrI g (s.fld Pg.TB Fd.TB_SERVO_CTL_KP_SHIFT))) := by
  subst hg
  unfold State.servo
  dsimp only
  rw [State.setRate_rate, State.setRate_f, State.setRate_fresh, State.setRate_lastEdge]
  dsimp only
  cases s.tb.fresh <;> simp only [if_true, if_false, Bool.false_eq_true, and_self]
theorem State.atNs_ptpOn (s : State) (t0 n : Nat) : (s.atNs t0).ptpOn n = s.ptpOn n := by
  unfold State.ptpOn State.ethSends State.ethUp State.ethMac; simp; rfl
theorem State.ptpOut_out (s : State) (n type seq : Nat) (l : List Nat) : (s.ptpOut n type seq l).out = s.out ++ [.ptp n type seq l] := by
  unfold State.ptpOut; rw [(State.countTx_within ..).out_eq rfl, State.emit_out]
theorem State.ptpOut_tb (s : State) (n type seq : Nat) (l : List Nat) : (s.ptpOut n type seq l).tb = s.tb := by
  unfold State.ptpOut; rw [(State.countTx_within ..).tb_eq rfl, State.emit_tb]
theorem State.ptpSend_out (s : State) (n type : Nat) (l : List Nat) :
    (s.ptpSend n type l).out = s.out ++ [.ptp n type (tabGet (dflt 0) s.tb.seq (16 * n + type)) l] := by
  unfold State.ptpSend; rw [State.ptpOut_out]
theorem State.ptpSend_seq (s : State) (n type m type' : Nat) (l : List Nat) (h : 16 * m + type' ≠ 16 * n + type) :
    tabGet (dflt 0) (s.ptpSend n type l).tb.seq (16 * m + type') = tabGet (dflt 0) s.tb.seq (16 * m + type') := by
  unfold State.ptpSend; rw [State.ptpOut_tb]; exact tabGet_tabPut_of_ne _ _ _ h
theorem State.ptpSend_seq_same (s : State) (n type : Nat) (l : List Nat) :
    tabGet (dflt 0) (s.ptpSend n type l).tb.seq (16 * n + type) = (tabGet (dflt 0) s.tb.seq (16 * n + type) + 1) % 65536 := by
  unfold State.ptpSend; rw [State.ptpOut_tb]; exact tabGet_tabPut_same _ _ _ _
theorem State.ptpSlot_within' (s : State) (n : Nat) : (s.ptpSlot n).1.out = s.out ∧ (s.ptpSlot n).1.stamp16 = s.stamp16 := by
  unfold State.ptpSlot; dsimp only; split <;> split <;> refine ⟨by simp, ?_⟩ <;> unfold State.stamp16 State.time16 State.timeAt <;> simp
theorem RegSame.on {p : Nat} {f : Fld} {s t : State} (h : RegSame (p * 4096 + f.off) s t) : t.on p f = s.on p f := by
  unfold State.on; rw [h.fld]
theorem State.ptpSlot_on (s : State) (n : Nat) (f : Fld) (hf : f.off ≠ Rg.TB_PTP_CNT) : (s.ptpSlot n).1.on Pg.TB f = s.on Pg.TB f := by
  unfold State.ptpSlot; dsimp only
  have k : Pg.TB * 4096 + f.off ≠ Pg.TB * 4096 + Rg.TB_PTP_CNT := by omega
  split <;> split <;> refine (RegSame.on (State.bump_same (by exact k))).trans rfl
theorem State.on_flag_apart (s : State) (p : Nat) (f : Fld) (q : Nat) (g : Fld) (h : ¬headOf p (q * 4096 + g.off)) (hl : f.lo + f.len ≤ 32)
    (ha : q * 4096 + g.off ≠ p * 4096 + f.off ∨ g.lo + g.len ≤ f.lo ∨ f.lo + f.len ≤ g.lo) : (s.flag p f).on q g = s.on q g := by
  unfold State.flag
  rw [(State.errEdge_at h).on]
  exact State.on_setFld_apart _ _ _ _ _ _ hl ha
theorem State.atNs_dataset (s : State) (t0 : Nat) : (s.atNs t0).dataset = s.dataset := rfl
theorem State.atNs_announceRest (s : State) (t0 : Nat) : (s.atNs t0).announceRest = s.announceRest := rfl
@[simp] theorem State.flag_time (s : State) (p : Nat) (f : Fld) : (s.flag p f).time = s.time := by
  unfold State.time State.time16 State.timeAt; simp
theorem State.flag_mode (s : State) (p : Nat) (f : Fld) (h : ¬headOf p (Pg.SYS * 4096 + Fd.SYS_MODE_MODE.off))
    (k : Pg.SYS * 4096 + Fd.SYS_MODE_MODE.off ≠ p * 4096 + f.off) : (s.flag p f).mode = s.mode := State.mode_of_regs (State.flag_at h k)

theorem sumN_cons (a : Nat) (l : List Nat) : sumN (a :: l) = a + sumN l := by
  have h : ∀ (l : List Nat) (x y : Nat), List.foldl (· + ·) (x + y) l = x + List.foldl (· + ·) y l := by
    intro l
    induction l with
    | nil => intro x y; rfl
    | cons b t ih => intro x y; rw [List.foldl_cons, Nat.add_assoc, ih, List.foldl_cons]
  unfold sumN
  rw [List.foldl_cons, Nat.zero_add]
  exact h l a 0
theorem filter_insertBy {α : Type} (key : α → Nat) (p : α → Bool) (a : α) (l : List α) (hl : ∀ b ∈ l, p b = false) :
    (insertBy key a l).filter p = [a].filter p := by
  induction l with
  | nil => rfl
  | cons b t ih =>
    have h1 : t.filter p = [] := by rw [List.filter_eq_nil_iff]; intro x hx; simp [hl x (by simp [hx])]
    have h2 := hl b (by simp)
    unfold insertBy
    split
    · simp only [List.filter_cons, h2, h1, List.filter_nil]; rfl
    · rw [List.filter_cons, h2, ih fun x hx => hl x (by simp [hx])]; rfl
theorem Queue.credOf_setCred (v : Queue) (h n : Nat) : (v.setCred h n).credOf h = n := by
  have hf : ∀ b ∈ v.creds.filter (·.1 != h), (b.1 == h) = false := by
    intro b hb; have := (List.mem_filter.1 hb).2; simpa using this
  unfold Queue.credOf Queue.setCred
  dsimp only
  split
  · next h0 =>
    rw [(List.filter_eq_nil_iff).2 (by intro b hb; simp [hf b hb])]
    exact h0.symm
  · rw [filter_insertBy _ _ _ _ hf]
    simp [sumN]
theorem State.q_of {s t : State} (h : t.queue = s.queue) (q : Nat) : t.q q = s.q q := by unfold State.q; rw [h]
theorem State.qLevelCheck_q (s : State) (q : Nat) : ∃ b, (s.qLevelCheck q).q q = { s.q q with levelHit := b } := by
  unfold State.qLevelCheck
  dsimp only
  split
  · refine ⟨true, ?_⟩
    rw [(State.showLevels_within ..).q q rfl]
    split
    · exact State.q_setQ _ _ _
    · exact State.q_setQ _ _ _
  · exact ⟨(s.q q).levelHit, rfl⟩
theorem vectorOf_lt (p : Nat) : vectorOf p < 32 := by
  by_cases h : p < 128
  · exact (by decide : ∀ p : Fin 128, vectorOf p < 32) ⟨p, h⟩
  · have : pageAt p = none := by
      unfold pageAt
      repeat rw [if_neg (by omega)]
    unfold vectorOf
    rw [this]
    decide
/-- Below the MSI-X table and past its PBA, a flag leaves the windows alone. -/
theorem State.msix_win (s : State) (v a : Nat) (hv : v < 32) (h : a ≠ 0x0C1000) : (s.msix v).win a = s.win a := by
  unfold State.msix
  split
  · unfold State.setWinBits
    have h0 : v / 32 = 0 := by omega
    have h1 : (v + 1 - 1) / 32 - v / 32 + 1 = 1 := by omega
    dsimp only
    rw [h1, h0]
    simp only [List.range_one, List.foldl_cons, List.foldl_nil]
    rw [State.win_setWin, if_neg (by omega)]
  · rfl
theorem State.flag_win (s : State) (p : Nat) (f : Fld) (a : Nat) (h : a ≠ 0x0C1000) : (s.flag p f).win a = s.win a := by
  have hi : ∀ (t : State) (b : Nat), (t.irq p b).win a = t.win a := by
    intro t b; unfold State.irq; dsimp only; split
    · rfl
    · rw [State.msix_win _ _ _ (vectorOf_lt p) h]; rfl
  unfold State.flag State.errEdge
  dsimp only
  split
  · rw [hi]; rfl
  · rfl
theorem State.winBits_of {s t : State} {base : Nat} (h : ∀ a, base ≤ a → t.win a = s.win a) (lo len : Nat) :
    t.winBits base lo len = s.winBits base lo len := by
  unfold State.winBits
  congr 2
  exact List.map_congr_left fun i _ => h _ (by omega)
theorem State.qPut_q (s : State) (q : Nat) (d : Word64) (tag : Nat) (sof eof : Bool) (h : s.qExt q = false) :
    ∃ b, (s.qPut q d tag sof eof).q q = { s.q q with
      words := (s.q q).words ++ [mkWord d (if tag = tagNotValid then tagPoisoned else tag) sof eof], levelHit := b,
      hwm := Nat.max (s.q q).hwm ((s.q q).depth + 1), open_ := !eof && ((s.q q).open_ || sof) } := by
  unfold State.qPut
  dsimp only
  generalize hx : (if tag = tagNotValid then s.flag Pg.QF Fd.QF_STAT_BAD_TAG else s) = x
  have hxq' : x.queue = s.queue := by rw [← hx]; split; exacts [State.flag_queue .., rfl]
  have hxq : x.q q = s.q q := State.q_of hxq' q
  have hxe : x.qExt q = false := by
    rw [← h, ← hx]
    split
    · unfold State.qExt State.qd
      rw [State.winBits_of fun a ha => State.flag_win _ _ _ _ (by unfold qdesc at ha; omega)]
    · rfl
  rw [hxe, hxq]
  simp only [Bool.false_and, Bool.false_eq_true, if_false, State.q_setQ]
  generalize hy : State.setQ _ q _ = y
  obtain ⟨b, hb⟩ := State.qLevelCheck_q y q
  refine ⟨b, ?_⟩
  rw [hb, ← hy, State.q_setQ]
  unfold Queue.depth
  simp only [List.length_append, List.length_singleton]
  congr 1
  congr 1
  omega
theorem State.qPush_q (s : State) (q holder : Nat) (d : Word64) (tag : Nat) (sof eof : Bool) (h : s.qExt q = false) :
    ∃ b, (s.qPush q holder d tag sof eof).q q = { (s.q q).setCred holder ((s.q q).credOf holder - 1) with
      words := (s.q q).words ++ [mkWord d (if tag = tagNotValid then tagPoisoned else tag) sof eof], levelHit := b,
      hwm := Nat.max (s.q q).hwm ((s.q q).depth + 1), open_ := !eof && ((s.q q).open_ || sof) } := by
  unfold State.qPush
  dsimp only
  obtain ⟨b, hb⟩ := State.qPut_q (s.setQ q ((s.q q).setCred holder ((s.q q).credOf holder - 1))) q d tag sof eof h
  exact ⟨b, by rw [hb, State.q_setQ]; rfl⟩
theorem State.qPopFlip_q (s : State) (q : Nat) (flip : Word64) (w : QWord) (rest : List QWord) (h : (s.q q).words = w :: rest)
    (hp : parityOf (w.data ^^^ flip) w.tag w.sof w.eof = w.parity ∨ (s.q q).parLogged = true) :
    ∃ t, s.qPopFlip q flip = (t, some
      { w with data := w.data ^^^ flip, tag := if parityOf (w.data ^^^ flip) w.tag w.sof w.eof = w.parity then w.tag else tagPoisoned }) ∧ (t.q q).words = rest ∧
      (parityOf (w.data ^^^ flip) w.tag w.sof w.eof ≠ w.parity → (t.q q).parErr = satN 16 ((s.q q).parErr + 1)) ∧
      (t.q q).parLogged = (s.q q).parLogged ∧ (t.q q).extLen = (s.q q).extLen := by
  unfold State.qPopFlip
  dsimp only
  rw [h]
  dsimp only
  split
  · next hk =>
    refine ⟨_, rfl, ?_⟩
    obtain ⟨b, hb⟩ := State.qLevelCheck_q (s.setQ q { s.q q with words := rest }) q
    rw [hb, State.q_setQ]
    exact ⟨rfl, fun h => absurd hk h, rfl, rfl⟩
  · next hk =>
    refine ⟨_, rfl, ?_⟩
    have hl := hp.resolve_left hk
    generalize hy : State.parityError _ q = y
    obtain ⟨b, hb⟩ := State.qLevelCheck_q y q
    have e : y.q q = { s.q q with words := rest, parErr := satN 16 ((s.q q).parErr + 1), parLogged := true } := by
      rw [← hy]
      unfold State.parityError
      simp only [State.q_setQ, hl, if_true]
      rw [State.q_of (State.flag_queue ..), State.q_of (State.bump_queue ..), State.q_setQ]
    rw [hb, e]
    exact ⟨rfl, fun _ => rfl, hl.symm, rfl⟩
theorem State.extWord_q (s : State) (q : Nat) (h1 : 0 < (s.q q).extLen) (h2 : (s.q q).words.length < s.qCap q) :
    ∃ w, ((s.extWord q).q q).words = (s.q q).words ++ [w] ∧ ((s.extWord q).q q).depth = (s.q q).depth := by
  unfold State.extWord
  dsimp only
  rw [if_neg (by omega)]
  refine ⟨if (s.q q).extBad = 0 then s.ringGet q (s.q q).extHead else
    mkWord (s.ringGet q (s.q q).extHead).data tagPoisoned (s.ringGet q (s.q q).extHead).sof (s.ringGet q (s.q q).extHead).eof, ?_, ?_⟩
  · rw [State.q_of (State.bump_queue ..), State.q_setQ]
  · rw [State.q_of (State.bump_queue ..), State.q_setQ]
    unfold Queue.depth
    simp only [List.length_append, List.length_singleton]
    omega
theorem State.extMoveN_q (q n : Nat) (s : State) :
    ∃ l, ((s.extMoveN q n).q q).words = (s.q q).words ++ l ∧ ((s.extMoveN q n).q q).depth = (s.q q).depth := by
  induction n generalizing s with
  | zero => exact ⟨[], by simp [State.extMoveN], rfl⟩
  | succ n ih =>
    obtain ⟨l, hl, hd⟩ := ih (s.extWord q)
    by_cases h : (s.q q).extLen = 0 ∨ s.qCap q ≤ (s.q q).words.length
    · have e : s.extWord q = s := by unfold State.extWord; dsimp only; rw [if_pos h]
      rw [e] at hl hd
      exact ⟨l, by rw [State.extMoveN, e, hl], by rw [State.extMoveN, e, hd]⟩
    · obtain ⟨w, hw, hd'⟩ := State.extWord_q s q (by omega) (by omega)
      exact ⟨w :: l, by rw [State.extMoveN, hl, hw]; simp, by rw [State.extMoveN, hd, hd']⟩
theorem State.enabledNew_of {s t : State} (h : t.window = s.window) (h' : t.qshadow = s.qshadow) : t.enabledNew = s.enabledNew := by
  have e : ∀ q, t.descNew q = s.descNew q := by
    intro q; unfold State.descNew State.shadowDesc State.win; rw [h, h']
  unfold State.enabledNew
  rw [show (fun q => (q, t.descNew q)) = (fun q => (q, s.descNew q)) from funext fun q => by rw [e]]
theorem State.qfApply_ok {s : State} {w : Word} (hw : wf w 0 1 = 1) (hm : s.mode = .idle ∨ s.mode = .setup)
    (hf : s.enabledNew.find? (·.bad s.enabledNew) = none) :
    s.qfApply w = { (s.qshadow.foldl (fun s e => s.takeDesc e) s).setFld Pg.QF Fd.QF_ALLOC_STAT_RESULT 1 with qshadow := [] } := by
  unfold State.qfApply
  rw [if_pos ⟨hw, hm⟩]
  generalize s.enabledNew = l at hf ⊢
  dsimp only
  rw [hf]
theorem State.qfApply_bad {s : State} {w : Word} {a : QAlloc} (hw : wf w 0 1 = 1) (hm : s.mode = .idle ∨ s.mode = .setup)
    (hf : s.enabledNew.find? (·.bad s.enabledNew) = some a) :
    s.qfApply w = ((s.setFld Pg.QF Fd.QF_ALLOC_STAT_RESULT 2).setFld Pg.QF Fd.QF_ALLOC_STAT_b16 a.q).logErr Er.QF_ALLOC Pg.QF a.q := by
  unfold State.qfApply
  rw [if_pos ⟨hw, hm⟩]
  generalize s.enabledNew = l at hf ⊢
  dsimp only
  rw [hf]
theorem wf3_bits (w : Word) :
    tbit w.toNat 0 = decide (wf w 0 3 % 2 = 1) ∧ tbit w.toNat 1 = decide (wf w 0 3 / 2 % 2 = 1) ∧ tbit w.toNat 2 = decide (wf w 0 3 / 4 = 1) := by
  unfold tbit wf nb
  simp only [beq_eq_decide]
  refine ⟨decide_eq_decide.2 ?_, decide_eq_decide.2 ?_, decide_eq_decide.2 ?_⟩ <;> omega
theorem State.ch_setCh (s : State) (c : Nat) (v : DmaCh) : (s.setCh c v).ch c = v := tabGet_tabPut_same _ _ _ _
theorem State.win_setCh (s : State) (c : Nat) (v : DmaCh) (a : Nat) : (s.setCh c v).win a = s.win a := rfl
theorem State.win_touch (s : State) (o : Owner) (p a : Nat) : (s.touch o p).win a = s.win a := by unfold State.win; rw [State.touch_window]
theorem State.dmaSet_of {s t : State} (h : ∀ a, t.win a = s.win a) (c k : Nat) : t.dmaSet c k = s.dmaSet c k := by
  unfold State.dmaSet
  dsimp only
  simp only [State.winBits_of fun a _ => h a]
theorem State.dmaSettle_idle (s : State) (c : Nat) (h : (s.ch c).state = 0) : s.dmaSettle c = s := by
  unfold State.dmaSettle; dsimp only; rw [if_pos (.inr (.inl h))]
theorem State.dmaIrq_ch (s : State) (c : Nat) : s.dmaIrq.ch c = s.ch c := (State.dmaIrq_within ..).ch c rfl
theorem State.dmaIrq_at {s : State} {a : Nat} (h : ¬headOf Pg.DMA a) : RegSame a s s.dmaIrq := by
  unfold State.dmaIrq
  refine RegSame.foldl (RegSame.refl _ _) fun t x k => RegSame.step ?_ k
  split
  · exact State.setFld_same fun e => h (.inr (.inl e))
  · split
    · exact State.irq_at h
    · exact State.setFld_same fun e => h (.inr (.inl e))
theorem State.dmaIrq_on (s : State) (f : Fld) (h : ¬headOf Pg.DMA (Pg.DMA * 4096 + f.off)) : s.dmaIrq.on Pg.DMA f = s.on Pg.DMA f :=
  (State.dmaIrq_at h).on
theorem State.dmaAsks_not {s : State} {c : Nat} (h : (s.ch c).state ≠ 1 ∨ s.dmaWants c = true) : s.dmaAsks c = s := by
  unfold State.dmaAsks
  dsimp only
  rw [if_neg]
  rcases h with h | h <;> simp [h]
theorem foldl_id {α β : Type} (f : α → β → α) (l : List β) (s : α) (h : ∀ x ∈ l, f s x = s) : l.foldl f s = s := by
  induction l with
  | nil => rfl
  | cons a t ih => rw [List.foldl_cons, h a (by simp)]; exact ih fun x hx => h x (by simp [hx])
theorem filter_range_one {n c : Nat} (hc : c < n) (p : Nat → Bool) (h : p c = true) (ho : ∀ k, k ≠ c → p k = false) :
    (List.range n).filter p = [c] := by
  induction n with
  | zero => omega
  | succ n ih =>
    rw [List.range_succ, List.filter_append]
    by_cases hn : c = n
    · subst hn
      rw [(List.filter_eq_nil_iff).2 (by intro k hk; simp at hk; simp [ho k (by omega)])]
      simp [h]
    · rw [ih (by omega)]
      simp [ho n (by omega)]
theorem flatMap_range_one {n c : Nat} (hc : c < n) (f : Nat → List Nat) (ho : ∀ k, k ≠ c → f k = []) : (List.range n).flatMap f = f c := by
  induction n with
  | zero => omega
  | succ n ih =>
    rw [List.range_succ, List.flatMap_append]
    by_cases hn : c = n
    · subst hn
      rw [List.flatMap_eq_nil_iff.2 fun k hk => ho k (by have := List.mem_range.1 hk; omega)]
      simp
    · rw [ih (by omega)]
      simp [ho n (by omega)]
theorem State.dmaGrant_one {c : Fin 32} {s : State} (he : s.blockOn Pg.DMA Fd.DMA_CTL_EN = true)
    (ho : ∀ k, k ≠ c.val → (s.ch k).state ≠ 1) (hw : s.dmaWants c = true) (hg : (tabGet (dflt {}) s.arb 120).grant = some c.val)
    (hs : (s.chSet c).srcSpace = 1) (hd : (s.chSet c).dstSpace ≠ 2) :
    s.dmaGrant = State.setCh { s with arb := tabPut (dflt {}) 120 ⟨if s.dmaMore c then some c.val else none⟩ s.arb } c { s.ch c with flying := (s.ch c).flying ++ [none] } := by
  unfold State.dmaGrant
  rw [he]
  simp only [Bool.not_true, Bool.false_eq_true, if_false]
  rw [foldl_id _ _ s fun k _ => State.dmaAsks_not (by
    by_cases hk : k = c.val
    · exact .inr (by rw [hk]; exact hw)
    · exact .inl (ho k hk))]
  rw [flatMap_range_one c.2 _ fun k hk => by
    have := ho k hk
    simp [State.dmaMore, State.dmaWants, this]]
  have ha : s.arbRound 120 (if s.dmaMore c = true then [c.val, c.val] else if s.dmaWants c = true then [c.val] else []) =
      ({ s with arb := tabPut (dflt {}) 120 ⟨if s.dmaMore c then some c.val else none⟩ s.arb }, some c.val, false) := by
    unfold State.arbRound
    rw [hg, hw]
    by_cases hm : s.dmaMore c = true <;> simp [hm, maxN]
  rw [ha]
  simp only [Bool.false_eq_true, if_false]
  generalize hx : ({ s with arb := tabPut (dflt {}) 120 ⟨if s.dmaMore c then some c.val else none⟩ s.arb } : State) = x
  have h1 : x.chSet c = s.chSet c := by rw [← hx]; rfl
  have h2 : x.ch c = s.ch c := by rw [← hx]; rfl
  have h3 : x.dmaRead c = (x, none) := by
    unfold State.dmaRead
    dsimp only
    rw [h1, if_neg (by omega), if_pos hs]
  rw [h1, if_neg hd, h3]
  dsimp only
  rw [h2]
theorem State.dmaWrite_host (s : State) (c : Nat) (l : List Byte) (d : DmaSet) (hd : s.chSet c = d) (ht : d.dstSpace = 1) :
    ∃ y, s.dmaWrite c l (List.replicate d.words tagValid) = y ∧ y.ch c = s.ch c ∧ (∀ a, y.win a = s.win a) ∧
      y.out = s.out ++ [.hostWrite (d.dstAt (s.ch c).done) l] ∧ y.fld Pg.DMA (whole Rg.DMA_BURST_CNT) = s.fld Pg.DMA (whole Rg.DMA_BURST_CNT) := by
  refine ⟨_, rfl, ?_⟩
  unfold State.dmaWrite
  dsimp only
  rw [hd, if_neg (by omega), if_pos ht]
  refine ⟨rfl, fun _ => rfl, rfl, ?_⟩
  exact (State.bumpBy_same (by decide)).fld
theorem State.zipStart_rd (s : State) (p off : Nat) : s.zipStart.rd p off = s.rd p off := by
  unfold State.zipStart; dsimp only; split <;> rfl
theorem State.setCh_at {s : State} {a c : Nat} {v : DmaCh} (h1 : a ≠ Pg.DMA * 4096 + Rg.DMA_PAUSED_STAT) (h2 : a ≠ Pg.DMA * 4096 + Fd.DMA_STAT_b0.off) :
    RegSame a s (s.setCh c v) :=
  ((State.setFld_same h2).step ((State.setFld_same h1).step (RegSame.of_regs (by rfl))) : RegSame a s (s.setCh c v))
theorem State.dmaSettle_quiet (s : State) (c : Nat) (h : (s.ch c).abort = false) :
    (s.dmaSettle c).out = s.out ∧ ((s.dmaSettle c).ch c).done = (s.ch c).done ∧
    (s.dmaSettle c).fld Pg.DMA (whole Rg.DMA_BURST_CNT) = s.fld Pg.DMA (whole Rg.DMA_BURST_CNT) := by
  unfold State.dmaSettle
  dsimp only
  rw [h]
  split
  · exact ⟨rfl, rfl, rfl⟩
  · simp only [Bool.false_eq_true, if_false]
    split
    · exact ⟨(State.setCh_within ..).out_eq rfl, by rw [State.ch_setCh], (State.setCh_at (by decide) (by decide)).fld⟩
    · exact ⟨(State.setCh_within ..).out_eq rfl, by rw [State.ch_setCh], (State.setCh_at (by decide) (by decide)).fld⟩
theorem State.dmaBit_on (s : State) (reg : Nat) (c : Fin 32) (h : ¬headOf Pg.DMA (Pg.DMA * 4096 + reg)) :
    (s.dmaBit reg c).on Pg.DMA ⟨reg, c, 1⟩ = true ∧ ∀ k, (s.dmaBit reg c).ch k = s.ch k := by
  have h0 : (s.setFld Pg.DMA ⟨reg, c, 1⟩ 1).dmaIrq.on Pg.DMA ⟨reg, c, 1⟩ = true := by
    rw [State.dmaIrq_on _ _ h]
    exact State.on_setFld _ _ _ _ (by have := c.2; show c.val + 1 ≤ 32; omega)
  have h1 : ∀ k, (s.setFld Pg.DMA ⟨reg, c, 1⟩ 1).dmaIrq.ch k = s.ch k := fun k => by rw [State.dmaIrq_ch, State.setFld_ch]
  unfold State.dmaBit
  dsimp only
  split
  · exact ⟨h0, h1⟩
  · refine ⟨?_, fun k => ?_⟩
    · rw [(State.msix_same (fun e => h (.inl e))).on, h0]
    · rw [(State.msix_within ..).ch k rfl, h1]
theorem State.zipTally_ok (s : State) (idx : Nat) : s.zipTally 0 idx =
    (s.bump Pg.ZIP ⟨Rg.ZIP_JOB_CNT, 0, 16⟩).wr Pg.ZIP Rg.ZIP_LAST_STATUS (BitVec.ofNat 32 (0 + 65536 * (idx % 65536))) := by
  unfold State.zipTally
  dsimp only
  rw [if_neg (by decide), if_neg (by decide), if_neg (by decide), if_neg (by decide), if_neg (by decide), if_neg (by decide), if_neg (by decide),
    if_neg (by decide)]
theorem State.dram_of {s t : State} (h : t.mem = s.mem) (h' : t.blank = s.blank) (a n : Nat) : t.dram a n = s.dram a n := by
  unfold State.dram; rw [h, h']
theorem State.dramPut_capacity (s : State) (a : Nat) (l : List Byte) : (s.dramPut a l).capacity = s.capacity := by
  unfold State.dramPut; split <;> rfl
theorem State.dram_dramPut_apart (s : State) (a : Nat) (l : List Byte) (b n : Nat) (h : b + n ≤ a ∨ a + l.length ≤ b) :
    (s.dramPut a l).dram b n = s.dram b n := by
  have hk : ∀ k, b ≤ k → k < b + n → tabGet (blankByte (s.dramPut a l).blank) (s.dramPut a l).mem k = tabGet (blankByte s.blank) s.mem k :=
    fun k h1 h2 => State.byte_dramPut _ _ _ _ (by omega)
  unfold State.dram
  generalize blankByte (s.dramPut a l).blank = d1 at hk ⊢
  generalize (s.dramPut a l).mem = m1 at hk ⊢
  clear h
  induction n generalizing b with
  | zero => rfl
  | succ n ih =>
    rw [tabGetList, tabGetList, hk b (by omega) (by omega), ih (b + 1) fun k h1 h2 => hk k (by omega) (by omega)]

/-! ### Fields of one page -/

/-- Two fields share no bit. -/
abbrev apart (f g : Fld) : Prop := f.off ≠ g.off ∨ g.lo + g.len ≤ f.lo ∨ f.lo + f.len ≤ g.lo
/-- A field of a register other than the page's own status and cause registers. -/
abbrev plainAt (off : Nat) : Prop := off < 4096 ∧ off ≠ Rg.HDR_IRQ_STAT ∧ off ≠ Rg.HDR_PAGE_STAT

theorem not_headOf {p off : Nat} (hp : p ≠ Pg.PCIE) (h : plainAt off) : ¬headOf p (p * 4096 + off) := by
  obtain ⟨h0, h1, h2⟩ := h
  rintro (h | h | h)
  · omega
  · exact h1 (Nat.add_left_cancel h)
  · exact h2 (Nat.add_left_cancel h)
theorem off_ne {p a b : Nat} (h : a ≠ b) : p * 4096 + a ≠ p * 4096 + b := fun e => h (Nat.add_left_cancel e)

theorem State.on_setFld_p {s : State} {p : Nat} {f g : Fld} {v : Nat} (hl : f.lo + f.len ≤ 32) (h : apart f g) :
    (s.setFld p f v).on p g = s.on p g :=
  State.on_setFld_apart _ _ _ _ _ _ hl (h.imp (fun e => off_ne (Ne.symm e)) id)
theorem State.fld_setFld_p {s : State} {p : Nat} {f g : Fld} {v : Nat} (hl : f.lo + f.len ≤ 32) (h : apart f g) :
    (s.setFld p f v).fld p g = s.fld p g :=
  State.fld_setFld_apart _ _ _ _ _ _ hl (h.imp (fun e => off_ne (Ne.symm e)) id)
theorem State.on_flag_p {s : State} {p : Nat} {f g : Fld} (hp : p ≠ Pg.PCIE) (hl : f.lo + f.len ≤ 32) (hg : plainAt g.off) (h : apart f g) :
    (s.flag p f).on p g = s.on p g :=
  State.on_flag_apart _ _ _ _ _ (not_headOf hp hg) hl (h.imp (fun e => off_ne (Ne.symm e)) id)
theorem State.fld_flag_p {s : State} {p : Nat} {f g : Fld} (hp : p ≠ Pg.PCIE) (hl : f.lo + f.len ≤ 32) (hg : plainAt g.off) (h : apart f g) :
    (s.flag p f).fld p g = s.fld p g := by
  unfold State.flag
  rw [(State.errEdge_at (not_headOf hp hg)).fld]
  exact State.fld_setFld_p hl h
theorem State.on_flag_self {s : State} {p : Nat} {f : Fld} (hp : p ≠ Pg.PCIE) (hg : plainAt f.off) (hl : f.lo + f.len ≤ 32) (h0 : f.len ≠ 0) :
    (s.flag p f).on p f = true := State.on_flag _ _ _ (not_headOf hp hg) hl h0
theorem State.on_irq_p {s : State} {p b : Nat} {g : Fld} (hp : p ≠ Pg.PCIE) (hg : plainAt g.off) : (s.irq p b).on p g = s.on p g :=
  (State.irq_at (not_headOf hp hg)).on
theorem State.fld_irq_p {s : State} {p b : Nat} {g : Fld} (hp : p ≠ Pg.PCIE) (hg : plainAt g.off) : (s.irq p b).fld p g = s.fld p g :=
  (State.irq_at (not_headOf hp hg)).fld
theorem State.on_bump_p {s : State} {p : Nat} {f g : Fld} (hl : f.lo + f.len ≤ 32) (h : apart f g) : (s.bump p f).on p g = s.on p g :=
  State.on_setFld_p hl h
theorem State.fld_bump_p {s : State} {p : Nat} {f g : Fld} (hl : f.lo + f.len ≤ 32) (h : apart f g) : (s.bump p f).fld p g = s.fld p g :=
  State.fld_setFld_p hl h
theorem State.on_one {s : State} {p : Nat} {f : Fld} (hl : f.lo + f.len ≤ 32) (h0 : f.len ≠ 0) : (s.setFld p f 1).on p f = true := by
  rw [State.on_setFld _ _ _ _ hl]
  have : 2 ^ 1 ≤ 2 ^ f.len := Nat.pow_le_pow_right (by decide) (by omega)
  rw [Nat.mod_eq_of_lt (by omega)]; rfl
theorem State.on_zero {s : State} {p : Nat} {f : Fld} (hl : f.lo + f.len ≤ 32) : (s.setFld p f 0).on p f = false := by
  rw [State.on_setFld _ _ _ _ hl, Nat.zero_mod]; rfl
theorem State.fld_fits {s : State} {p : Nat} {f : Fld} {v : Nat} (hl : f.lo + f.len ≤ 32) (h : v < 2 ^ f.len) : (s.setFld p f v).fld p f = v := by
  rw [State.fld_setFld _ _ _ _ hl, Nat.mod_eq_of_lt h]
theorem State.on_wr_p {s : State} {p off : Nat} {w : Word} {g : Fld} (h : g.off ≠ off) : (s.wr p off w).on p g = s.on p g :=
  State.on_wr_of_ne _ _ _ _ _ _ (off_ne h)
theorem State.fld_wr_p {s : State} {p off : Nat} {w : Word} {g : Fld} (h : g.off ≠ off) : (s.wr p off w).fld p g = s.fld p g :=
  State.fld_wr_of_ne _ _ _ _ _ _ (off_ne h)
theorem not_logPage {p off : Nat} (h1 : p ≠ Pg.PCIE) (h2 : p ≠ Pg.QF) (h3 : p ≠ Pg.SUPV0) (h : off < 4096) : ¬logPage (p * 4096 + off) := by
  unfold logPage
  unfold Pg.PCIE Pg.QF Pg.SUPV0 Rg.HDR_IRQ_STAT Rg.HDR_PAGE_STAT Rg.QF_STAT Rg.QF_LVL_CNT Rg.QF_EXT_CNT at *
  omega
theorem State.on_logMinor_p {s : State} {p page arg0 arg1 : Nat} {c : ErrCode} {line : Option (Nat × Nat)} {g : Fld} (hc : c.cls ≠ 3)
    (h1 : p ≠ Pg.PCIE) (h2 : p ≠ Pg.QF) (h3 : p ≠ Pg.SUPV0) (h : g.off < 4096) : (s.logErr c page arg0 arg1 line).on p g = s.on p g :=
  (State.logMinor_same (not_logPage h1 h2 h3 h) hc).on
theorem State.fld_logMinor_p {s : State} {p page arg0 arg1 : Nat} {c : ErrCode} {line : Option (Nat × Nat)} {g : Fld} (hc : c.cls ≠ 3)
    (h1 : p ≠ Pg.PCIE) (h2 : p ≠ Pg.QF) (h3 : p ≠ Pg.SUPV0) (h : g.off < 4096) : (s.logErr c page arg0 arg1 line).fld p g = s.fld p g :=
  (State.logMinor_same (not_logPage h1 h2 h3 h) hc).fld
theorem State.on_writeReg_p {s : State} {p off : Nat} {w : Word} {g : Fld} (h : g.off ≠ off) : (s.writeReg p off w).on p g = s.on p g := by
  unfold State.on State.fld; rw [State.writeReg_rd_other _ _ _ _ _ _ (off_ne h)]
theorem State.fld_writeReg_p {s : State} {p off : Nat} {w : Word} {g : Fld} (h : g.off ≠ off) : (s.writeReg p off w).fld p g = s.fld p g := by
  unfold State.fld; rw [State.writeReg_rd_other _ _ _ _ _ _ (off_ne h)]
theorem twl_page {n : Nat} (h : n < 4) : Pg.TWL n ≠ Pg.PCIE := by unfold Pg.TWL Pg.PCIE; omega
@[simp] theorem State.twlOf_setTwl (s : State) (n : Nat) (v : Twl) : (s.setTwl n v).twlOf n = v := tabGet_tabPut_same _ _ _ _
@[simp] theorem State.fifoOf_setFifo (s : State) (f : Nat) (l : List Byte) : (s.setFifo f l).fifoOf f = l := tabGet_tabPut_same _ _ _ _
theorem State.fifoOf_setFifo_of_ne (s : State) (f g : Nat) (l : List Byte) (h : g ≠ f) : (s.setFifo f l).fifoOf g = s.fifoOf g :=
  tabGet_tabPut_of_ne _ _ _ h
@[simp] theorem State.writeReg_fifoOf (s : State) (p off : Nat) (w : Word) (f : Nat) : (s.writeReg p off w).fifoOf f = s.fifoOf f :=
  (State.writeReg_within ..).fifoOf f rfl
@[simp] theorem State.writeReg_twlOf (s : State) (p off : Nat) (w : Word) (n : Nat) : (s.writeReg p off w).twlOf n = s.twlOf n :=
  (State.writeReg_within ..).twlOf n rfl
@[simp] theorem State.writeReg_twl (s : State) (p off : Nat) (w : Word) : (s.writeReg p off w).twl = s.twl :=
  (State.writeReg_within ..).twl_eq rfl
theorem State.twlRefuses_of {s t : State} {n : Nat} {w : Word} (_ : Pg.TWL n ≠ Pg.PCIE) (hf : t.fifoOf (2 * n + 1) = s.fifoOf (2 * n + 1))
    (h : ∀ off, off ≠ Rg.TWL_CMD → t.rd (Pg.TWL n) off = s.rd (Pg.TWL n) off) : t.twlRefuses n w = s.twlRefuses n w := by
  unfold State.twlRefuses State.blockOn State.on State.fld
  dsimp only
  rw [hf, h _ (by decide), h _ (by decide), h _ (by decide)]
@[simp] theorem State.fifoGet_state (s : State) (f n : Nat) : (s.fifoGet f n).1 = s.setFifo f ((s.fifoOf f).drop n) := rfl
theorem State.fifoPut_fits (s : State) (f : Nat) (l : List Byte) (h : (s.fifoOf f).length + l.length ≤ fifoDepth f) :
    s.fifoPut f l = s.setFifo f (s.fifoOf f ++ l) := by
  unfold State.fifoPut
  rw [List.take_of_length_le]
  rw [List.length_append]
  exact Nat.le_trans h (Nat.le_max_left ..)
theorem fifoDepth_twl {f : Nat} (h : f < 10) : fifoDepth f = 16 := if_pos h
theorem State.fifoOf_fifoPut_of_ne (s : State) (f g : Nat) (l : List Byte) (h : g ≠ f) : (s.fifoPut f l).fifoOf g = s.fifoOf g :=
  State.fifoOf_setFifo_of_ne _ _ _ _ h
@[simp] theorem State.setFifo_on (s : State) (f : Nat) (l : List Byte) (p : Nat) (g : Fld) : (s.setFifo f l).on p g = s.on p g := rfl
@[simp] theorem State.setFifo_fld (s : State) (f : Nat) (l : List Byte) (p : Nat) (g : Fld) : (s.setFifo f l).fld p g = s.fld p g := rfl
@[simp] theorem State.setFifo_rd (s : State) (f : Nat) (l : List Byte) (p o : Nat) : (s.setFifo f l).rd p o = s.rd p o := rfl
@[simp] theorem State.fifoPut_on (s : State) (f : Nat) (l : List Byte) (p : Nat) (g : Fld) : (s.fifoPut f l).on p g = s.on p g := rfl
@[simp] theorem State.fifoPut_fld (s : State) (f : Nat) (l : List Byte) (p : Nat) (g : Fld) : (s.fifoPut f l).fld p g = s.fld p g := rfl
theorem State.rd_setFld_same (s : State) (p : Nat) (f : Fld) (v : Nat) : (s.setFld p f v).rd p f.off = wfSet (s.rd p f.off) f.lo f.len v :=
  State.rd_wr_same _ _ _ _
theorem State.logMinor_fifoOf' {s : State} {page arg0 arg1 : Nat} {c : ErrCode} {line : Option (Nat × Nat)} (hc : c.cls ≠ 3) (f : Nat) :
    (s.logErr c page arg0 arg1 line).fifoOf f = s.fifoOf f := (State.logMinor_within hc).fifoOf f rfl
theorem State.fld_lt (s : State) (p : Nat) (f : Fld) : s.fld p f < 2 ^ f.len := Nat.mod_lt _ (Nat.two_pow_pos _)
theorem State.twlDone_nack {s : State} {n : Nat} {data : List Byte} {w : Word} (hc : (s.twlOf n).cmd = some w) (hw : (s.twlOf n).wait = false) :
    s.twlDone n true data =
      (((s.flag (Pg.TWL n) Fd.TWL_STAT_NACK).bump (Pg.TWL n) ⟨Rg.TWL_CNT, 8, 8⟩).setFld (Pg.TWL n) Fd.TWL_STAT_BUS_BUSY 0).twlEnd n := by
  unfold State.twlDone
  simp only [hc, hw, Bool.false_eq_true, if_false, if_true]
theorem State.twlEnd_some {s : State} {n : Nat} {w : Word} (hc : (s.twlOf n).cmd = some w) :
    s.twlEnd n = ((((s.setFifo (2 * n + 1) ((s.fifoOf (2 * n + 1)).drop (wf w 8 8))).setTwl n
      { s.twlOf n with cmd := none, rest := [], got := 0, wait := false }).setFld (Pg.TWL n) Fd.TWL_STAT_BUSY 0).flag (Pg.TWL n)
        Fd.TWL_STAT_DONE).irq (Pg.TWL n) 0 := by
  unfold State.twlEnd
  rw [hc]
  rfl
theorem wf_masked (a w m : Word) (lo len : Nat) (h : ∀ i, i < len → m.getLsbD (lo + i) = true) :
    wf ((a &&& ~~~m) ||| (w &&& m)) lo len = wf w lo len := by
  have key : ∀ x : Word, wf x lo len = (x.extractLsb' lo len).toNat := by
    intro x
    rw [BitVec.extractLsb'_toNat, Nat.shiftRight_eq_div_pow]
    rfl
  rw [key, key]
  congr 1
  apply BitVec.eq_of_getLsbD_eq
  intro i hi
  have hm := h i hi
  have hlt : lo + i < 32 := by
    apply Decidable.byContradiction
    intro hc
    rw [BitVec.getLsbD_of_ge _ _ (by omega)] at hm
    exact absurd hm (by decide)
  simp only [BitVec.getLsbD_extractLsb', BitVec.getLsbD_or, BitVec.getLsbD_and, BitVec.getLsbD_not, hm]
  simp
theorem State.fld_writeReg (s : State) (p off : Nat) (w : Word) (g : Fld) (r : RegDef) (h : regDefAt (p * 4096 + off) = some r)
    (h1 : r.wro = 0) (h2 : r.rws = 0) (h3 : r.w1c = 0) (hg : g.off = off) (hm : ∀ i, i < g.len → r.rw.getLsbD (g.lo + i) = true) :
    (s.writeReg p off w).fld p g = wf w g.lo g.len := by
  rw [State.writeReg_rw s p off w r h h1 h2 h3]
  unfold State.fld
  rw [hg, State.rd_wr_same, wf_masked _ _ _ _ _ hm]
theorem State.on_writeReg (s : State) (p off : Nat) (w : Word) (g : Fld) (r : RegDef) (h : regDefAt (p * 4096 + off) = some r)
    (h1 : r.wro = 0) (h2 : r.rws = 0) (h3 : r.w1c = 0) (hg : g.off = off) (hm : ∀ i, i < g.len → r.rw.getLsbD (g.lo + i) = true) :
    (s.writeReg p off w).on p g = (wf w g.lo g.len != 0) := by
  unfold State.on; rw [State.fld_writeReg s p off w g r h h1 h2 h3 hg hm]
@[simp] theorem State.setFifo_out (s : State) (f : Nat) (l : List Byte) : (s.setFifo f l).out = s.out := rfl
end Sys2Proof.Machine
end

