-- ==== Sys2Proof/Laws/Meanings2.lean ====
section
/-!
SUPPORT. What the meanings of memory, the boot, the modes and the network rest on.
-/
set_option linter.unusedSimpArgs false
namespace Sys2Proof.Machine

theorem State.capacity_of {s t : State} (h : t.trained = s.trained) : t.capacity = s.capacity := by unfold State.capacity State.memCfg; rw [h]
theorem State.rowOf_of {s t : State} (h : t.trained = s.trained) (a : Nat) : t.rowOf a = s.rowOf a := by
  unfold State.rowOf State.rankSize State.memCfg; rw [h]
theorem State.bankOf_of {s t : State} (h : t.trained = s.trained) (a : Nat) : t.bankOf a = s.bankOf a := by
  unfold State.bankOf; rw [State.rowOf_of h]; unfold State.memCfg State.rankSize State.memCfg; rw [h]
theorem State.dramBad_of {s t : State} (h : t.trained = s.trained) (h' : t.badLine = s.badLine) (a n : Nat) : t.dramBad a n = s.dramBad a n := by
  unfold State.dramBad; rw [State.capacity_of h, h']
theorem eccOff_lt {n : Nat} (h : n < 8) : Rg.MCG_ECC_RGN n < 4096 := by unfold Rg.MCG_ECC_RGN; omega
theorem State.outOfRange_of {s t : State} (h : t.trained = s.trained) (hr : ∀ off, off < 4096 → t.rd Pg.MCG off = s.rd Pg.MCG off) (a n : Nat) :
    t.outOfRange a n = s.outOfRange a n := by
  have e : t.eccRegions = s.eccRegions := by
    unfold State.eccRegions State.on State.fld
    have k : ∀ n ∈ List.range 8, t.rd Pg.MCG (Fd.MCG_ECC_RGN_EN n).off = s.rd Pg.MCG (Fd.MCG_ECC_RGN_EN n).off := fun n hn =>
      hr _ (by have := List.mem_range.1 hn; show 0x068 + 0x4 * n < 4096; omega)
    have f : (List.range 8).filter (fun n => wf (t.rd Pg.MCG (Fd.MCG_ECC_RGN_EN n).off) (Fd.MCG_ECC_RGN_EN n).lo (Fd.MCG_ECC_RGN_EN n).len != 0) =
        (List.range 8).filter (fun n => wf (s.rd Pg.MCG (Fd.MCG_ECC_RGN_EN n).off) (Fd.MCG_ECC_RGN_EN n).lo (Fd.MCG_ECC_RGN_EN n).len != 0) :=
      List.filter_congr fun n hn => by rw [k n hn]
    rw [f]
    refine List.map_congr_left fun n hn => ?_
    have hn := List.mem_of_mem_filter hn
    have h1 : t.rd Pg.MCG (Fd.MCG_ECC_RGN_BASE n).off = s.rd Pg.MCG (Fd.MCG_ECC_RGN_BASE n).off := k n hn
    rw [h1]
  unfold State.outOfRange
  rw [State.capacity_of h, e]
theorem State.dramGrant_one {c : Fin 12} {x : MemReq} {s : State} {r : MemResult} (hp : (s.mcOf c).panic = [])
    (hg : (tabGet (dflt {}) s.arb (100 + c)).grant = some x.port) :
    ∃ y : State, s.dramGrant c [x] r = (if y.outOfRange x.addr 64 then y.memRange x.port
      else
        let s := y.setMc c { y.mcOf c with open_ := tabPut (dflt none) (y.bankOf x.addr) (some (y.rowOf x.addr)) (y.mcOf c).open_ }
        if x.write then s
        else if s.dramBad (x.addr / 64 * 64) 64 then s.uncorrected x.addr true
        else match r with
          | .good => s
          | .correctedInline => if s.inlineAt x.addr then s.corrected c false else s
          | .correctedLink => s.corrected c true
          | .uncorrectedInline => if s.inlineAt x.addr then s.uncorrected x.addr true else s
          | .uncorrectedLink => s.uncorrected x.addr false) ∧ y.mem = s.mem ∧ y.badLine = s.badLine ∧ y.blank = s.blank ∧ y.trained = s.trained ∧
      ∀ off, off < 4096 → y.rd Pg.MCG off = s.rd Pg.MCG off := by
  have ha : s.requesting c [x] = [x] := by unfold State.requesting; simp [hp]
  have hb : s.arbRound (100 + c) ([x].map (·.port)) = ({ s with arb := tabPut (dflt {}) (100 + c) ⟨none⟩ s.arb }, some x.port, false) := by
    unfold State.arbRound; rw [hg]; simp
  unfold State.dramGrant
  rw [ha]
  dsimp only
  rw [hb]
  simp only [Bool.false_eq_true, if_false]
  generalize hy : State.bumpBy _ (Pg.MC c) Fd.MC_PANIC_CNT_b16 _ = y
  have hn : y.nextAccess c x.port [x] = some x := by
    clear hy hb ha hg
    have hm : [x].filter (·.port == x.port) = [x] := by simp
    unfold State.nextAccess
    dsimp only
    rw [hm]
    split
    · rfl
    · rw [List.find?_cons]
      split
      · next h =>
        split at h
        · exact h.symm
        · simp at h
      · rfl
  refine ⟨y, ?_, ?_⟩
  · rw [hn] <;> rfl
  · rw [← hy]
    refine ⟨rfl, rfl, rfl, rfl, fun off ho => ?_⟩
    have hne : Pg.MCG * 4096 + off ≠ Pg.MC c * 4096 + Rg.MC_PANIC_CNT := by
      have := c.2
      unfold Pg.MCG Pg.MC Rg.MC_PANIC_CNT
      omega
    exact (State.bumpBy_same hne).rd
theorem tabGet_tabClear_in {α : Type} (d : Nat → α) (lo hi k : Nat) (t : Tab α) (h : lo ≤ k ∧ k < hi) : tabGet d (tabClear lo hi t) k = d k := by
  induction t with
  | nil => rfl
  | cons e t ih =>
    unfold tabClear at ih ⊢
    rw [List.filter_cons]
    split
    · next he =>
      obtain ⟨j, w⟩ := e
      simp only [Bool.or_eq_true, decide_eq_true_eq] at he
      rw [tabGet]
      split
      · rfl
      · rw [if_neg (by omega)]; exact ih
    · exact ih
theorem tabGet_below {α : Type} [DecidableEq α] (d : Nat → α) {lo k : Nat} {t : Tab α} (h : tabOkFrom d lo t = true) (hk : k < lo) :
    tabGet d t k = d k := by
  cases t with
  | nil => rfl
  | cons e t =>
    obtain ⟨j, w⟩ := e
    simp only [tabOkFrom, Bool.and_eq_true, decide_eq_true_eq] at h
    rw [tabGet, if_pos (by omega)]
theorem tabGet_tabClear_out {α : Type} [DecidableEq α] (d d' : Nat → α) (lo hi k : Nat) (hk : k < lo ∨ hi ≤ k) (hd : d' k = d k) {t : Tab α} :
    ∀ {b : Nat}, tabOkFrom d b t = true → tabGet d' (tabClear lo hi t) k = tabGet d t k := by
  induction t with
  | nil => intro b _; exact hd
  | cons e t ih =>
    intro b h
    obtain ⟨j, w⟩ := e
    simp only [tabOkFrom, Bool.and_eq_true, decide_eq_true_eq] at h
    obtain ⟨⟨h1, h2⟩, h3⟩ := h
    have ih := ih h3
    unfold tabClear at ih ⊢
    rw [List.filter_cons]
    split
    · rw [tabGet, tabGet, ih, hd]
    · next he =>
      simp only [Bool.or_eq_true, decide_eq_true_eq, not_or] at he
      rw [ih, tabGet]
      split
      · exact tabGet_below d h3 (by omega)
      · rw [if_neg (by omega)]
/-- Every row of every channel closed (R519). -/
def State.closeRows (s : State) : State := (List.range 12).foldl (fun s c => s.setMc c { s.mcOf c with open_ := [] }) s
theorem State.closeRows_regs (s : State) : s.closeRows.regs = s.regs := foldl_kept (fun s : State => s.regs) (fun s c => s.setMc c { s.mcOf c with open_ := [] }) (fun _ _ => rfl) _ _
theorem State.closeRows_mem (s : State) : s.closeRows.mem = s.mem := foldl_kept (fun s : State => s.mem) (fun s c => s.setMc c { s.mcOf c with open_ := [] }) (fun _ _ => rfl) _ _
theorem State.closeRows_mcg (s : State) : s.closeRows.mcg = s.mcg := foldl_kept (fun s : State => s.mcg) (fun s c => s.setMc c { s.mcOf c with open_ := [] }) (fun _ _ => rfl) _ _
theorem State.closeRows_mcOf (s : State) (c : Nat) (h : c < 12) : (s.closeRows.mcOf c) = { s.mcOf c with open_ := [] } := by
  have k : ∀ n, ((List.range n).foldl (fun s c => s.setMc c { s.mcOf c with open_ := [] }) s).mcOf c =
      if c < n then { s.mcOf c with open_ := [] } else s.mcOf c := by
    intro n
    induction n with
    | zero => rfl
    | succ n ih =>
      rw [List.range_succ, List.foldl_append, List.foldl_cons, List.foldl_nil]
      by_cases e : c = n
      · subst e
        rw [State.mcOf_setMc, ih, if_neg (by omega), if_pos (by omega)]
      · have : ∀ (y : State) (m : Mc), (y.setMc n m).mcOf c = y.mcOf c := fun y m => tabGet_tabPut_of_ne _ _ _ e
        rw [this, ih]
        by_cases h' : c < n
        · rw [if_pos h', if_pos (by omega)]
        · rw [if_neg h', if_neg (by omega)]
  exact (k 12).trans (if_pos h)
/-- The refresh counters replaced. -/
def State.setMcg (s : State) (g : Mcg) : State := { s with mcg := g }
theorem State.setMcg_mcOf (s : State) (g : Mcg) (c : Nat) : (s.setMcg g).mcOf c = s.mcOf c := rfl
theorem State.setMcg_rd (s : State) (g : Mcg) (p o : Nat) : (s.setMcg g).rd p o = s.rd p o := rfl
theorem State.setMcg_regs (s : State) (g : Mcg) : (s.setMcg g).regs = s.regs := rfl
theorem State.setMcg_mem (s : State) (g : Mcg) : (s.setMcg g).mem = s.mem := rfl
theorem State.setMcg_mcg (s : State) (g : Mcg) : (s.setMcg g).mcg = g := rfl
theorem State.refresh_skip {s : State} {l : List TrackRead} (h : s.mcg.windows + 1 < s.fld Pg.MCG Fd.MCG_REF_CTL_TRACK_INTV) :
    s.refresh l = s.closeRows.setMcg { s.mcg with windows := s.mcg.windows + 1 } := by
  unfold State.refresh
  have e1 : s.closeRows.mcg = s.mcg := State.closeRows_mcg s
  have e2 : s.closeRows.fld Pg.MCG Fd.MCG_REF_CTL_TRACK_INTV = s.fld Pg.MCG Fd.MCG_REF_CTL_TRACK_INTV := by
    unfold State.fld State.rd; rw [State.closeRows_regs]
  show (let s := s.closeRows
    let n := s.mcg.windows + 1
    if n < s.fld Pg.MCG Fd.MCG_REF_CTL_TRACK_INTV then { s with mcg := { s.mcg with windows := n } }
    else
      let s := { s with mcg := { s.mcg with windows := 0 } }
      (l.zipIdx.foldl (fun s (x : TrackRead × Nat) => s.trackChannel x.2 x.1) s).hotUpdate l) = _
  dsimp only
  rw [e1, e2, if_pos h]
  rfl
theorem State.refresh_track {s : State} {l : List TrackRead} (h : s.fld Pg.MCG Fd.MCG_REF_CTL_TRACK_INTV ≤ s.mcg.windows + 1) :
    s.refresh l = (l.zipIdx.foldl (fun (s : State) (x : TrackRead × Nat) => s.trackChannel x.2 x.1)
      (s.closeRows.setMcg { s.mcg with windows := 0 })).hotUpdate l := by
  unfold State.refresh
  have e1 : s.closeRows.mcg = s.mcg := State.closeRows_mcg s
  have e2 : s.closeRows.fld Pg.MCG Fd.MCG_REF_CTL_TRACK_INTV = s.fld Pg.MCG Fd.MCG_REF_CTL_TRACK_INTV := by
    unfold State.fld State.rd; rw [State.closeRows_regs]
  show (let s := s.closeRows
    let n := s.mcg.windows + 1
    if n < s.fld Pg.MCG Fd.MCG_REF_CTL_TRACK_INTV then { s with mcg := { s.mcg with windows := n } }
    else
      let s := { s with mcg := { s.mcg with windows := 0 } }
      (l.zipIdx.foldl (fun s (x : TrackRead × Nat) => s.trackChannel x.2 x.1) s).hotUpdate l) = _
  dsimp only
  rw [e1, e2, if_neg (by omega)]
  rfl
theorem mc_ne_mcg {c off o : Nat} (hc : c < 12) (h : off < 4096) (h' : o < 4096) : Pg.MCG * 4096 + off ≠ Pg.MC c * 4096 + o := by
  unfold Pg.MCG Pg.MC; omega
theorem State.trackChannel_plain {s : State} {c : Nat} {x : TrackRead} (hc : c < 12) (h1 : x.writeLinkErr = false) (h2 : x.limit = false)
    (h3 : x.mr4 < 8) (h4 : s.on Pg.MCG Fd.MCG_TRAIN_CTL_TRACK_EN = true) :
    ∃ z, s.trackChannel c x = z ∧
      z.mcOf c = { s.mcOf c with move0 := trackStep (s.mcOf c).move0 x.drift0, move1 := trackStep (s.mcOf c).move1 x.drift1 } ∧ z.mcg = s.mcg ∧
      z.fld (Pg.MC c) Fd.MC_STAT_MR4_RATE = x.mr4 ∧ ∀ off, off < 4096 → z.rd Pg.MCG off = s.rd Pg.MCG off := by
  refine ⟨_, rfl, ?_⟩
  have hne : ∀ (y : State) (f : Fld) (v off : Nat), f.off < 4096 → off < 4096 → (y.setFld (Pg.MC c) f v).rd Pg.MCG off = y.rd Pg.MCG off :=
    fun y f v off hf ho => State.rd_setFld_of_ne _ _ _ _ _ _ (mc_ne_mcg hc ho hf)
  have h4' : (s.setFld (Pg.MC c) Fd.MC_STAT_MR4_RATE x.mr4).on Pg.MCG Fd.MCG_TRAIN_CTL_TRACK_EN = true := by
    unfold State.on State.fld; rw [hne _ _ _ _ (by decide) (by decide)]; exact h4
  unfold State.trackChannel
  dsimp only
  rw [h1, h2]
  simp only [Bool.false_and, Bool.false_eq_true, if_false]
  rw [h4']
  simp only [if_true]
  have e : ∀ y : State, y.fld (Pg.MC c) Fd.MC_STAT_MR4_RATE = x.mr4 → ∀ f : Fld, f.lo + f.len ≤ 32 → apart f Fd.MC_STAT_MR4_RATE →
      ∀ v, (y.setFld (Pg.MC c) f v).fld (Pg.MC c) Fd.MC_STAT_MR4_RATE = x.mr4 := fun y hy f hl ha v => by
    rw [State.fld_setFld_p hl ha, hy]
  have e0 : (s.setFld (Pg.MC c) Fd.MC_STAT_MR4_RATE x.mr4).fld (Pg.MC c) Fd.MC_STAT_MR4_RATE = x.mr4 := State.fld_fits (by decide) h3
  split
  · refine ⟨by simp -implicitDefEqProofs, by simp -implicitDefEqProofs, e _ (e _ e0 _ (by decide) (by decide) _) _ (by decide) (by decide) _, fun off ho => ?_⟩
    rw [hne _ _ _ _ (by decide) ho, hne _ _ _ _ (by decide) ho]
    exact hne _ _ _ _ (by decide) ho
  · refine ⟨by simp -implicitDefEqProofs, by simp -implicitDefEqProofs, e _ e0 _ (by decide) (by decide) _, fun off ho => ?_⟩
    rw [hne _ _ _ _ (by decide) ho]
    exact hne _ _ _ _ (by decide) ho
theorem State.channelTrained_plain {s : State} {c : Nat} {m : MarginRead} (hc : c < 12) :
    (s.channelTrained c m).on (Pg.MC c) Fd.MC_STAT_TRAINED = true ∧ (s.channelTrained c m).on (Pg.MC c) Fd.MC_STAT_MARGIN_LOST = false ∧
    (s.channelTrained c m).on Pg.MCG ⟨Rg.MCG_TRAIN_STAT, 3 + c, 1⟩ = false ∧ (s.channelTrained c m).trained = s.trained := by
  have hne : ∀ off o, off < 4096 → o < 4096 → Pg.MC c * 4096 + o ≠ Pg.MCG * 4096 + off := fun off o h h' => (mc_ne_mcg hc h h').symm
  have hne' : ∀ off o, off < 4096 → o < 4096 → Pg.MCG * 4096 + off ≠ Pg.MC c * 4096 + o := fun off o h h' => mc_ne_mcg hc h h'
  refine ⟨State.on_one (by decide) (by decide), ?_, ?_, rfl⟩
  · unfold State.channelTrained
    dsimp only
    rw [State.on_setFld_p (by decide) (by decide), State.setMc_on,
      (State.setFld_same (hne _ _ (by show Rg.MCG_TRAIN_STAT < 4096; decide) (by decide))).on]
    exact State.on_zero (by decide)
  · unfold State.channelTrained
    dsimp only
    rw [(State.setFld_same (hne' _ _ (by show Rg.MCG_TRAIN_STAT < 4096; decide) (by decide))).on, State.setMc_on]
    exact State.on_zero (by show 3 + c + 1 ≤ 32; omega)
end Sys2Proof.Machine
end

