-- ==== Sys2Proof/Laws/Meanings3.lean ====
section
/-!
SUPPORT. What the meanings of the line path rest on.
-/
set_option linter.unusedSimpArgs false
namespace Sys2Proof.Machine

theorem next_eq {a b : State} (h : a = b) : (Host.Outcome.next a : Host.Outcome State Fault Refusal) = .next b := congrArg _ h

theorem cp_page {p : Nat} (h : p < 16) : Pg.CP p ≠ Pg.PCIE ∧ Pg.CP p ≠ Pg.QF ∧ Pg.CP p ≠ Pg.SUPV0 := by
  unfold Pg.CP Pg.PCIE Pg.QF Pg.SUPV0; omega

theorem State.linkState_of {s t : State} (h : t.regs = s.regs) (p : Nat) : t.linkState p = s.linkState p := by
  unfold State.linkState State.fld State.rd; rw [h]
theorem State.on_of {s t : State} (h : t.regs = s.regs) (p : Nat) (f : Fld) : t.on p f = s.on p f := by
  unfold State.on State.fld State.rd; rw [h]
theorem State.fld_of {s t : State} (h : t.regs = s.regs) (p : Nat) (f : Fld) : t.fld p f = s.fld p f := by
  unfold State.fld State.rd; rw [h]

theorem State.nextRequest_regs (s : State) (p : Nat) : (s.nextRequest p).regs = s.regs := (State.nextRequest_within s p).regs_eq rfl

theorem State.linkState_eq (s : State) (p : Nat) : s.linkState p = s.fld (Pg.CP p) Fd.CP_LINK_STAT_STATE := rfl
theorem State.failLink_eq (s : State) (p cause lane : Nat) : s.failLink p cause lane =
    (((((s.dropLocks p).setFld (Pg.CP p) Fd.CP_LINK_STAT_STATE 6).setFld (Pg.CP p) Fd.CP_LINK_STAT_CAUSE cause).setFld
    (Pg.CP p) Fd.CP_LINK_STAT_CAUSE_LANE lane).setFld (Pg.CP p) Fd.CP_LINK_STAT_DESKEW_OK 0).logErr Er.LINK_FAILED (Pg.CP p) cause lane := rfl

/-- A link that fails shows FAILED with its cause. -/
theorem State.failLink_shows (s : State) {p cause lane : Nat} (hp : p < 16) (hc : cause < 16) (hl : lane < 8) :
    (s.failLink p cause lane).linkState p = lkFailed ∧ (s.failLink p cause lane).fld (Pg.CP p) Fd.CP_LINK_STAT_CAUSE = cause ∧
    (s.failLink p cause lane).fld (Pg.CP p) Fd.CP_LINK_STAT_CAUSE_LANE = lane := by
  obtain ⟨h1, h2, h3⟩ := cp_page hp
  rw [State.failLink_eq, State.linkState_eq]
  rw [State.fld_logMinor_p (by decide) h1 h2 h3 (by decide), State.fld_logMinor_p (by decide) h1 h2 h3 (by decide),
    State.fld_logMinor_p (by decide) h1 h2 h3 (by decide)]
  generalize s.dropLocks p = x
  generalize Pg.CP p = g
  refine ⟨?_, ?_, ?_⟩
  · rw [State.fld_setFld_p (by decide) (by decide), State.fld_setFld_p (by decide) (by decide), State.fld_setFld_p (by decide) (by decide), State.fld_fits (by decide) (by decide)]
  · rw [State.fld_setFld_p (by decide) (by decide), State.fld_setFld_p (by decide) (by decide), State.fld_fits (by decide) hc]
  · rw [State.fld_setFld_p (by decide) (by decide), State.fld_fits (by decide) hl]


def State.dropTrain (s : State) (p : Nat) : State := (List.range 8).foldl (fun s m => s.putTrain p m { tag := (s.train_ p m).tag }) s
theorem State.dropTrain_regs (s : State) (p : Nat) : (s.dropTrain p).regs = s.regs :=
  foldl_kept (fun s : State => s.regs) (fun s m => s.putTrain p m { tag := (s.train_ p m).tag }) (fun _ _ => rfl) _ _
theorem State.dropTrain_out (s : State) (p : Nat) : (s.dropTrain p).out = s.out :=
  foldl_kept (fun s : State => s.out) (fun s m => s.putTrain p m { tag := (s.train_ p m).tag }) (fun _ _ => rfl) _ _
theorem State.enterBase_eq (s : State) (p : Nat) : ∃ l, s.enterBase p =
    (((((((s.setFld (Pg.CP p) Fd.CP_LINK_STAT_STATE 1).setFld (Pg.CP p) Fd.CP_LINK_STAT_NO_CAMERA 0).setFld (Pg.CP p) Fd.CP_LINK_STAT_DESKEW_OK 0).putLink p l)).dropTrain p).linkCmd p 0).nextRequest p :=
  ⟨_, rfl⟩
theorem State.linkCmd_regs (s : State) (p c : Nat) : (s.linkCmd p c).regs = s.regs := rfl
theorem State.linkCmd_out (s : State) (p c : Nat) : (s.linkCmd p c).out =
    s.out ++ [.uplink p (uplinkSyms 0x85 0 c (s.lanes p) (s.fld (Pg.CP p) Fd.CP_PORT_CTL_RATE) 0)] := rfl
theorem State.lanes_eq (s : State) (p : Nat) : s.lanes p = 2 ^ s.fld (Pg.CP p) Fd.CP_PORT_CTL_LANES := rfl

/-- A link that enters BASE says so and sends LINK BASE. -/
theorem State.enterBase_shows (s : State) (p : Nat) :
    (s.enterBase p).linkState p = lkBase ∧
    (s.out ++ [.uplink p (uplinkSyms 0x85 0 0 (s.lanes p) (s.fld (Pg.CP p) Fd.CP_PORT_CTL_RATE) 0)]) <+: (s.enterBase p).out := by
  obtain ⟨l, h⟩ := State.enterBase_eq s p
  rw [h]
  generalize hx : ((s.setFld (Pg.CP p) Fd.CP_LINK_STAT_STATE 1).setFld (Pg.CP p) Fd.CP_LINK_STAT_NO_CAMERA 0).setFld (Pg.CP p) Fd.CP_LINK_STAT_DESKEW_OK 0 = x
  have e : ((x.putLink p l).dropTrain p).regs = x.regs := by rw [State.dropTrain_regs, State.putLink_regs]
  constructor
  · rw [State.linkState_of (State.nextRequest_regs ..), State.linkState_of (State.linkCmd_regs ..), State.linkState_of e, State.linkState_eq, ← hx]
    rw [State.fld_setFld_p (by decide) (by decide), State.fld_setFld_p (by decide) (by decide), State.fld_fits (by decide) (by decide)]
  · refine List.IsPrefix.trans ?_ (State.nextRequest_within _ p).kept.out
    have o : ((x.putLink p l).dropTrain p).out = s.out := by rw [State.dropTrain_out, State.putLink_out, ← hx]; rfl
    have f (g : Fld) (hg : apart Fd.CP_LINK_STAT_STATE g) (hg' : apart Fd.CP_LINK_STAT_NO_CAMERA g) (hg'' : apart Fd.CP_LINK_STAT_DESKEW_OK g) :
        ((x.putLink p l).dropTrain p).fld (Pg.CP p) g = s.fld (Pg.CP p) g := by
      rw [State.fld_of e, ← hx, State.fld_setFld_p (by decide) hg'', State.fld_setFld_p (by decide) hg', State.fld_setFld_p (by decide) hg]
    rw [State.linkCmd_out, o, State.lanes_eq, State.lanes_eq, f _ (by decide) (by decide) (by decide), f _ (by decide) (by decide) (by decide)]

theorem State.camAcc_go {s : State} {p : Nat} {w : Word} (h : s.on (Pg.CP p) Fd.CP_CAM_ACC_BUSY = false) (hw : wf w 25 1 = 1) :
    let x := s.writeReg (Pg.CP p) Rg.CP_CAM_ACC w
    s.camAcc p w = (((x.setFld (Pg.CP p) Fd.CP_CAM_ACC_BUSY 1).setFld (Pg.CP p) Fd.CP_CAM_ACC_RESULT 0).putLink p { x.link_ p with
      want := some (4 * x.fld (Pg.CP p) Fd.CP_CAM_ACC_ADDR,
        if x.on (Pg.CP p) Fd.CP_CAM_ACC_WRITE then some (x.rd (Pg.CP p) Rg.CP_CAM_DATA).toNat else none) }).nextRequest p := by
  dsimp only
  unfold State.camAcc
  dsimp only
  rw [h, if_neg (by simp [hw])]
  rfl
theorem State.nextRequest_host {s : State} {p a : Nat} {d : Option Nat} (h : (s.link_ p).req = none) (h1 : s.linkState p ≠ 1)
    (hw : (s.link_ p).want = some (a, d)) : s.nextRequest p = s.hostCamReq p a d := by
  unfold State.nextRequest
  dsimp only
  rw [h, hw, if_neg (by decide), if_neg (fun k => h1 k.1)]
theorem State.hostCamReq_sent {s : State} {p a : Nat} {d : Option Nat} (h : s.linkState p = 1 ∨ s.linkState p = 4 ∨ s.linkState p = 5) :
    s.hostCamReq p a d = (s.putLink p { s.link_ p with tag := s.nextTag p, req := some ⟨s.nextTag p, a, true, d⟩, want := none }).uplink
      p (if d.isSome then 0x81 else 0x82) (s.nextTag p) 0 0 a (d.getD 0) := by
  unfold State.hostCamReq
  exact if_pos h
theorem State.fld_setFld_off (s : State) {p q : Nat} {f g : Fld} (v : Nat) (h : f.off ≠ g.off) (hf : f.off < 4096) (hg : g.off < 4096) :
    (s.setFld p f v).fld q g = s.fld q g := by
  unfold State.fld; rw [State.rd_setFld_of_ne]; omega
theorem State.on_setFld_off (s : State) {p q : Nat} {f g : Fld} (v : Nat) (h : f.off ≠ g.off) (hf : f.off < 4096) (hg : g.off < 4096) :
    (s.setFld p f v).on q g = s.on q g := by
  unfold State.on; rw [State.fld_setFld_off s v h hf hg]
theorem State.fld_bump_off (s : State) {p q : Nat} {f g : Fld} (h : f.off ≠ g.off) (hf : f.off < 4096) (hg : g.off < 4096) :
    (s.bump p f).fld q g = s.fld q g := State.fld_setFld_off s _ h hf hg
theorem State.on_bump_off (s : State) {p q : Nat} {f g : Fld} (h : f.off ≠ g.off) (hf : f.off < 4096) (hg : g.off < 4096) :
    (s.bump p f).on q g = s.on q g := State.on_setFld_off s _ h hf hg
theorem State.link_setFld (s : State) (p : Nat) (f : Fld) (v k : Nat) : (s.setFld p f v).link_ k = s.link_ k := rfl
theorem State.link_writeReg (s : State) (p off : Nat) (w : Word) (k : Nat) : (s.writeReg p off w).link_ k = s.link_ k := by
  unfold State.link_; rw [(State.writeReg_within s p off w).link_eq rfl]
theorem State.nextTag_of {s t : State} {p : Nat} (h : t.link_ p = s.link_ p) : t.nextTag p = s.nextTag p := by unfold State.nextTag; rw [h]
theorem State.link_touch (s : State) (o : Owner) (g k : Nat) : (s.touch o g).link_ k = s.link_ k := by unfold State.link_; rw [State.touch_link]

theorem State.eqReq_regs (s : State) (p m c k : Nat) (ph : TrainPhase) : (s.eqReq p m c k ph).regs = s.regs := rfl
theorem State.eqReq_link_ (s : State) (p m c k : Nat) (ph : TrainPhase) : (s.eqReq p m c k ph).link = s.link := rfl
theorem State.startTrain_regs (s : State) (p m : Nat) : (s.startTrain p m).regs = s.regs := by
  unfold State.startTrain State.sweepFrom
  dsimp only
  split <;> rfl
theorem State.startTrain_link (s : State) (p m : Nat) : (s.startTrain p m).link = s.link := by
  unfold State.startTrain State.sweepFrom
  dsimp only
  split <;> rfl
theorem State.rateLockAll_shows {s : State} {p : Nat} (h : s.linkState p = 2) (hall : ∀ k, k < s.lanes p → s.locked p k = true) :
    (s.rateLockAll p).linkState p = 3 ∧ ((s.rateLockAll p).link_ p).trainCtl = s.rd (Pg.CP p) Rg.CP_TRAIN_CTL := by
  have e : s.rateLockAll p = (List.range (s.lanes p)).foldl (fun s m => s.startTrain p m)
      ((s.setFld (Pg.CP p) Fd.CP_LINK_STAT_STATE 3).putLink p { s.link_ p with trainCtl := s.rd (Pg.CP p) Rg.CP_TRAIN_CTL }) := by
    have hn : ∀ l, ((s.setFld (Pg.CP p) Fd.CP_LINK_STAT_STATE 3).putLink p l).lanes p = s.lanes p := by
      intro l
      rw [State.lanes_eq, State.lanes_eq, State.fld_of (State.putLink_regs ..), State.fld_setFld_p (by decide) (by decide)]
    rw [← hn { s.link_ p with trainCtl := s.rd (Pg.CP p) Rg.CP_TRAIN_CTL }]
    unfold State.rateLockAll
    exact if_pos ⟨h, by rw [List.all_eq_true]; intro k hk; exact hall k (List.mem_range.mp hk)⟩
  rw [e]
  refine ⟨?_, ?_⟩
  · rw [State.linkState_of (foldl_kept (fun s : State => s.regs) (fun s m => s.startTrain p m) (fun _ _ => State.startTrain_regs ..) _ _),
      State.linkState_of (State.putLink_regs ..), State.linkState_eq, State.fld_fits (by decide) (by decide)]
  · have k : ∀ x : State, ((List.range (s.lanes p)).foldl (fun s m => s.startTrain p m) x).link_ p = x.link_ p := by
      intro x
      unfold State.link_
      rw [foldl_kept (fun s : State => s.link) (fun s m => s.startTrain p m) (fun _ _ => State.startTrain_link ..)]
    rw [k, State.link_putLink]

/-- A lane of a port lost: its LOCK and the count. -/
def State.lostOne (s : State) (q m p : Nat) : State :=
  (s.setFld (Pg.CP q) (Fd.CP_LANE_STAT_LOCK m) 0).bump (Pg.CP p) Fd.CP_ERR_CNT2_LOCK_LOSS
theorem State.lostOne_out (s : State) (q m p : Nat) : (s.lostOne q m p).out = s.out := rfl
theorem State.lostOne_fld (s : State) (q : Nat) (m : Fin 4) (p : Nat) {g : Nat} {f : Fld} (h : f.off < 0x050 ∨ (0x060 ≤ f.off ∧ f.off < 0x070)) :
    (s.lostOne q m p).fld g f = s.fld g f := by
  unfold State.lostOne
  rw [State.fld_bump_off _ (by show 0x070 ≠ f.off; omega) (by decide) (by omega),
    State.fld_setFld_off _ _ (by show 0x050 + 0x4 * m.val ≠ f.off; omega) (by show 0x050 + 0x4 * m.val < 4096; omega) (by omega)]
/-- A lane that the Joker covers is lost: nothing but the count and, for a Joker in STANDBY, its takeover. -/
theorem State.lockLost_covered {s : State} {q : Nat} {m : Fin 4} {p : Nat} (hp : p = s.portOfQuad q) (h : s.linkState p = 4 ∨ s.linkState p = 5)
    (hl : s.laneOf q m < s.lanes p) (hc : s.jkCovers q m = true) : s.lockLost q m =
      if s.jkState q = 1 then (s.lostOne q m p).putJk q { (s.lostOne q m p).jk q with stage := .takeover, lane := m } else s.lostOne q m p := by
  have hj : (s.lostOne q m p).jkCovers q m = true := by
    rw [← hc]
    unfold State.jkCovers State.jkLane State.jkState State.on
    rw [State.lostOne_fld _ _ _ _ (by decide), State.lostOne_fld _ _ _ _ (by decide), State.lostOne_fld _ _ _ _ (by decide)]
  have hk : (s.lostOne q m p).jkState q = s.jkState q := State.lostOne_fld _ _ _ _ (by decide)
  unfold State.lostOne at hj
  have ha : (s.linkState p == lkAlign || s.linkState p == lkActive) = true := by rcases h with h | h <;> rw [h] <;> rfl
  rw [← hk]
  unfold State.lockLost
  dsimp only
  rw [← hp, if_neg (by unfold lkDisabled lkFailed; omega), if_neg (by simp; omega), if_pos (by exact h), hj, ha]
  simp only [Bool.and_true, Bool.not_true, Bool.false_eq_true, and_false, if_true, if_false]
  rfl

theorem State.laneOf_lock (s : State) (q : Fin 16) (m : Fin 4) (v : Nat) (r k : Nat) :
    (s.setFld (Pg.CP q) (Fd.CP_LANE_STAT_LOCK m) v).laneOf r k = s.laneOf r k := by
  have hf (g : Nat) (f : Fld) (h : f.off < 0x050) : (s.setFld (Pg.CP q) (Fd.CP_LANE_STAT_LOCK m) v).fld g f = s.fld g f :=
    State.fld_setFld_off _ _ (by show 0x050 + 0x4 * m.val ≠ f.off; omega) (by show 0x050 + 0x4 * m.val < 4096; omega) (by omega)
  have hm : (s.setFld (Pg.CP q) (Fd.CP_LANE_STAT_LOCK m) v).mode = s.mode := by
    apply State.mode_setFld_page
    unfold Pg.CP Pg.SYS; omega
  have hp (g : Nat) : (s.setFld (Pg.CP q) (Fd.CP_LANE_STAT_LOCK m) v).portOn g = s.portOn g := by
    unfold State.portOn State.blockOn State.on
    rw [hm, hf _ _ (by decide), hf _ _ (by decide)]
  unfold State.laneOf State.portOfQuad
  rw [hp, hf _ _ (by decide)]

theorem camAccDef (p : Fin 16) : regDefAt (Pg.CP p * 4096 + 0x078) =
    some ⟨0x078, 0x00000000, 0x01FFFFFC, 0x00000000, 0x00000000, 0x00000000, 0x00000000⟩ := by
  revert p; decide

theorem State.eqReq_train (s : State) (p m c k : Nat) (ph : TrainPhase) : (s.eqReq p m c k ph).train_ p m =
    { s.train_ p m with phase := ph, tag := (s.train_ p m).tag % 255 + 1, out := some ((s.train_ p m).tag % 255 + 1, c, k, 1), scanDue := false, scanning := false } := by
  unfold State.eqReq State.uplink
  rw [State.emit_train_, State.train_putTrain]
theorem State.eqReq_out (s : State) (p m c k : Nat) (ph : TrainPhase) : (s.eqReq p m c k ph).out =
    s.out ++ [.uplink p (uplinkSyms 0x84 ((s.train_ p m).tag % 255 + 1) m c k 0)] := by
  unfold State.eqReq State.uplink
  rw [State.emit_out, State.putTrain_out]
theorem State.sweepFrom_lt {s : State} {p m k : Nat} (h : k < 8) : s.sweepFrom p m k = s.eqReq p m 1 k (.sweep k) := by
  unfold State.sweepFrom; rw [if_pos h]
theorem State.trainFld_putTrain (s : State) (p m : Nat) (t : Train) (q : Nat) (g : Fld) : (s.putTrain p m t).trainFld q g = s.trainFld q g := rfl
theorem State.trainScan_sweep {s : State} {p m k : Nat} {r : EyeResult} (h : (s.train_ p m).phase = .sweep k) : ∃ b o,
    s.trainScan p m r = ((s.putTrain p m { s.train_ p m with scanning := false }).putTrain p m
      { s.train_ p m with scanning := false, best := b, seen := o }).sweepFrom p m (k + 1) ∧
    (s.trainFld p Fd.CP_TRAIN_CTL_MIN_W ≤ r.w → s.trainFld p Fd.CP_TRAIN_CTL_MIN_H ≤ r.h → (s.train_ p m).best = none → b = some (k, r.w * r.h)) := by
  unfold State.trainScan
  dsimp only
  rw [h]
  dsimp only
  refine ⟨_, _, rfl, ?_⟩
  intro a b c
  rw [if_pos (by rw [State.trainFld_putTrain, State.trainFld_putTrain]; simp [a, b]), c]
theorem State.jokerMarker_none {s : State} {q : Nat} (h : (s.jk q).stage = .none) : s.jokerMarker q = s := by
  unfold State.jokerMarker; rw [h]

theorem State.linkCmd_link_ (s : State) (p c k : Nat) : (s.linkCmd p c).link_ k = s.link_ k := State.emit_link_ ..
theorem State.linkCmd_joker (s : State) (p c : Nat) : (s.linkCmd p c).joker = s.joker := State.emit_joker ..
theorem State.putLink_joker_ (s : State) (p : Nat) (l : Link) : (s.putLink p l).joker = s.joker := rfl
/-- The bad positions in a row of each lane after a marker position. -/
def State.marksBad (s : State) (p : Nat) (marks : List (Option (Nat × Nat))) : Tab Nat :=
  (List.range (s.lanes p)).foldl (fun (t : Tab Nat) m =>
    tabPut (dflt 0) m (if markGood (marks.take (s.lanes p)) m then 0 else tabGet (dflt 0) (s.link_ p).badMarks m + 1) t) []
/-- What a marker position does to a link, its Jokers apart: a loss, or the positions counted. -/
def State.markStep (s : State) (p : Nat) (marks : List (Option (Nat × Nat))) : State :=
  if s.on (Pg.CP p) Fd.CP_LINK_STAT_DESKEW_OK && (List.range (s.lanes p)).any fun m => decide (2 ≤ tabGet (dflt 0) (s.marksBad p marks) m) then
    (((s.setLink p lkAlign).setFld (Pg.CP p) Fd.CP_LINK_STAT_DESKEW_OK 0).putLink p { s.link_ p with goodMarks := 0, badMarks := [] }).bump
      (Pg.CP p) Fd.CP_ERR_CNT2_AM_LOSS
  else if s.linkState p = lkAlign then
    let good := if marksAligned marks (s.lanes p) then (s.link_ p).goodMarks + 1 else 0
    let x := s.putLink p { s.link_ p with goodMarks := good, badMarks := s.marksBad p marks }
    let x := if marksAligned marks (s.lanes p) then x.setFld (Pg.CP p) Fd.CP_LINK_STAT_DESKEW_OK 1 else x
    if 2 ≤ good then (x.setLink p lkActive).linkCmd p 3 else x
  else s.putLink p { s.link_ p with badMarks := s.marksBad p marks }
theorem State.alignMarker_eq {s : State} {p : Nat} {marks : List (Option (Nat × Nat))} (h : s.linkState p = 4 ∨ s.linkState p = 5) :
    s.alignMarker p marks = (List.range ((s.lanes p + 3) / 4)).foldl (fun s k => s.jokerMarker (p + k)) (s.markStep p marks) := by
  unfold State.alignMarker
  dsimp only
  rw [if_neg (by unfold lkAlign lkActive; omega)]
  rfl
theorem State.jk_of {s t : State} (h : t.joker = s.joker) (q : Nat) : t.jk q = s.jk q := by unfold State.jk; rw [h]
theorem State.markStep_joker (s : State) (p : Nat) (marks : List (Option (Nat × Nat))) : (s.markStep p marks).joker = s.joker := by
  unfold State.markStep
  split
  · unfold State.setLink
    rw [State.bump_joker, State.putLink_joker_, State.setFld_joker, State.setFld_joker]
  · split
    · dsimp only
      unfold State.setLink
      split <;> split <;> simp only [State.linkCmd_joker, State.setFld_joker, State.putLink_joker_]
    · rw [State.putLink_joker_]
theorem State.jokers_none {s t : State} {p : Fin 16} (h : t.joker = s.joker) (hj : ∀ k, k < 2 → (s.jk (p + k)).stage = .none) :
    (List.range ((s.lanes p + 3) / 4)).foldl (fun s k => s.jokerMarker (p + k)) t = t := by
  apply foldl_id
  intro k hk
  have h3 : s.fld (Pg.CP p) Fd.CP_PORT_CTL_LANES < 4 := State.fld_lt ..
  have h8 : s.lanes p ≤ 8 := by
    rw [State.lanes_eq]
    exact Nat.le_trans (Nat.pow_le_pow_right (by decide) (show _ ≤ 3 by omega)) (by decide)
  have := List.mem_range.mp hk
  exact State.jokerMarker_none (by rw [State.jk_of h]; exact hj k (by omega))
theorem State.jkState_eq (s : State) (q : Nat) : s.jkState q = s.fld (Pg.CP q) Fd.CP_JOKER_STAT_STATE := rfl
theorem State.jkLane_eq (s : State) (q : Nat) : s.jkLane q = s.fld (Pg.CP q) Fd.CP_JOKER_STAT_LANE := rfl
/-- The Joker settles: an idle one begins to calibrate itself, any other keeps what it is doing; no register changes. -/
theorem State.jkSettle_cases (s : State) (q : Nat) : s.jkSettle q = s ∨
    (s.jkState q = 0 ∧ (s.jk q).stage = .none ∧ s.jkSettle q = s.putJk q { s.jk q with stage := .selfCal false }) := by
  unfold State.jkSettle
  dsimp only
  split
  · rename_i h
    simp only [Bool.and_eq_true, beq_iff_eq] at h
    exact .inr ⟨h.1.1.1.2, h.1.1.2, rfl⟩
  · exact .inl rfl
theorem State.jkSettle_busy {s : State} {q : Nat} (h : s.jkState q ≠ 0) : s.jkSettle q = s := by
  rcases s.jkSettle_cases q with k | ⟨k, -⟩
  · exact k
  · exact absurd k h
theorem State.jkSettle_regs (s : State) (q : Nat) : (s.jkSettle q).regs = s.regs := by
  rcases s.jkSettle_cases q with h | ⟨-, -, h⟩ <;> rw [h]
  exact State.putJk_regs ..
theorem State.jkSettle_raised (s : State) (q : Nat) : (s.jkSettle q).raised = s.raised := by
  rcases s.jkSettle_cases q with h | ⟨-, -, h⟩ <;> rw [h]
  rfl
theorem State.nextRecal_idle {s : State} {q : Nat} (h : (s.jk q).stage = .none) (hw : (s.jk q).waiting = 0) : s.nextRecal q = s.jkSettle q := by
  unfold State.nextRecal
  dsimp only
  rw [h, hw, if_neg (by decide)]
  rfl
theorem State.jkAvailable_idle {s : State} {q : Nat} (hj : s.jkState q = 0) (he : s.on (Pg.CP q) Fd.CP_JOKER_CTL_EN = true) (hs : (s.jk q).stage = .none) :
    s.jkAvailable q = true := by unfold State.jkAvailable; rw [he, hj, hs]; rfl
theorem State.startRecal_idle {s : State} {q m : Nat} {b : Bool} (hj : s.jkState q = 0) : s.startRecal q m b =
    s.putJk q { s.jk q with stage := .selfCal true, lane := m, force := b, release := false } := by
  unfold State.startRecal
  dsimp only
  rw [if_neg (fun h => by rw [hj] at h; exact absurd h.1 (by decide)), if_pos hj]
/-- A recalibration asked of an idle Joker that nothing waits for begins with the Joker's own calibration. -/
theorem State.requestRecal_idle {s : State} {q : Nat} {m : Fin 4} (hj : s.jkState q = 0) (he : s.on (Pg.CP q) Fd.CP_JOKER_CTL_EN = true)
    (hs : (s.jk q).stage = .none) (hw : (s.jk q).waiting = 0) : (s.requestRecal q m).regs = s.regs ∧
      ((s.requestRecal q m).jk q).stage = .selfCal true ∧ ((s.requestRecal q m).jk q).lane = m := by
  have e : ∃ x : State, s.requestRecal q m = x.startRecal q m false ∧ x.regs = s.regs := by
    unfold State.requestRecal
    dsimp only
    rw [hj, if_neg (by decide), he, if_neg (by decide)]
    unfold State.nextRecal
    dsimp only
    rw [State.jk_putJk, if_neg (by rw [hs]; decide)]
    dsimp only
    have hb : (bitsOf 4 (nbSet (s.jk q).waiting m 1 1)).getLast? = some m.val := by rw [hw]; revert m; decide
    rw [hb]
    dsimp only
    rw [if_pos]
    · exact ⟨_, rfl, by rw [State.putJk_regs, State.putJk_regs]⟩
    · apply State.jkAvailable_idle
      · rw [State.jkState_eq, State.fld_of (State.putJk_regs ..)]; exact hj
      · rw [State.on_of (State.putJk_regs ..)]; exact he
      · rw [State.jk_putJk]; exact hs
  obtain ⟨x, e, hx⟩ := e
  rw [e, State.startRecal_idle (by rw [State.jkState_eq, State.fld_of hx]; exact hj)]
  exact ⟨by rw [State.putJk_regs, hx], by rw [State.jk_putJk], by rw [State.jk_putJk]⟩
theorem jokerCtlDef (p : Fin 16) : regDefAt (Pg.CP p * 4096 + 0x060) = some ⟨0x060, 0x00000003, 0x0000000F, 0x00000000, 0x00000000, 0x00000000, 0x00000000⟩ := by
  revert p; decide
theorem State.portOfQuad_of {s t : State} (h : ∀ g f, f.off < 0x044 → t.fld g f = s.fld g f) (q : Nat) : t.portOfQuad q = s.portOfQuad q := by
  have hm : t.mode = s.mode := by unfold State.mode; rw [h _ _ (by decide)]
  have hp (g : Nat) : t.portOn g = s.portOn g := by
    unfold State.portOn State.blockOn State.on
    rw [hm, h _ _ (by decide), h _ _ (by decide)]
  unfold State.portOfQuad
  rw [hp, h _ _ (by decide)]
/-- A write of JOKER_CTL: the state its commands act on. -/
theorem State.jokerCtl_eq {s : State} {q : Fin 16} {w : Word} {o : Owner} (h : wf w 0 1 = 1) : ∃ x : State,
    (s.touch o (Pg.CP q)).jokerCtl q w = ((bitsOf 4 (wf w 8 4)).reverse.foldl (fun s m => s.requestRecal q m)
      (if wf w 4 1 = 1 then (if wf w 5 1 = 1 then x.jkRelease q else x).jkForce q (wf w 2 2) else (if wf w 5 1 = 1 then x.jkRelease q else x))).jkSettle q ∧
    x.joker = s.joker ∧ x.on (Pg.CP q) Fd.CP_JOKER_CTL_EN = true ∧ (∀ g f, f.off ≠ 0x060 → f.off < 4096 → x.fld g f = s.fld g f) := by
  refine ⟨(s.touch o (Pg.CP q)).writeReg (Pg.CP q) Rg.CP_JOKER_CTL w, ?_, ?_, ?_, ?_⟩
  · unfold State.jokerCtl
    dsimp only
    simp -implicitDefEqProofs only [h, Nat.one_ne_zero, false_and, if_false]
  · rw [(State.writeReg_within ..).joker_eq rfl, State.touch_joker]
  · rw [State.on_writeReg _ _ _ _ _ _ (jokerCtlDef q) rfl rfl rfl rfl (by decide)]
    show (wf w 0 1 != 0) = true
    rw [h]; rfl
  · intro g f hf hf'
    unfold State.fld
    rw [State.writeReg_rd_other _ _ _ _ _ _ (by show g * 4096 + f.off ≠ Pg.CP q * 4096 + 0x060; omega)]
    unfold State.rd
    rw [State.touch_regs]
theorem wf_bit (w : Word) {lo : Nat} {v : Nat} (h : wf w lo 2 = v) : wf w lo 1 = v % 2 ∧ wf w (lo + 1) 1 = v / 2 := by
  unfold wf nb at *
  rw [show (2 : Nat) ^ (lo + 1) = 2 ^ lo * 2 from Nat.pow_succ .., ← Nat.div_div_eq_div_mul]
  omega
theorem State.putCodes_off (s : State) (q k : Nat) (c : EqCodes) (g : Nat) (f : Fld) (h : f.off < 0x050 ∨ 0x060 ≤ f.off) (hf : f.off < 4096) :
    (s.putCodes q k c).fld g f = s.fld g f := by
  have key (x : State) {m : Nat} (v : Nat) (hm : m < 4) : (x.setFld (Pg.CP q) (Fd.CP_LANE_STAT_CTLE m) v).fld g f = x.fld g f :=
    State.fld_setFld_off _ _ (by show 0x050 + 0x4 * m ≠ f.off; omega) (by show 0x050 + 0x4 * m < 4096; omega) hf
  unfold State.putCodes
  dsimp only
  split
  · rename_i hk
    split
    · rw [State.fld_of (State.putJk_regs ..)]
    · rw [key _ _ hk, State.fld_of (State.putJk_regs ..)]
  · split
    · have hl : State.jkLane (s.putJk q { s.jk q with codes := tabPut (dflt {}) k c (s.jk q).codes }) q < 4 := State.fld_lt ..
      rw [key _ _ hl, State.fld_of (State.putJk_regs ..)]
    · rw [State.fld_of (State.putJk_regs ..)]
/-- The Joker's connection to a lane changes JOKER_STAT and LANE_STAT alone. -/
theorem State.jkConnect_off (s : State) (q m g : Nat) (f : Fld) (h : f.off < 0x050 ∨ 0x060 ≤ f.off) (hj : f.off ≠ 0x064) (hf : f.off < 4096) :
    (s.jkConnect q m).fld g f = s.fld g f := by
  unfold State.jkConnect
  dsimp only
  rw [State.putCodes_off _ _ _ _ _ _ h hf, State.fld_setFld_off _ _ (Ne.symm hj) (by decide) hf, State.fld_setFld_off _ _ (Ne.symm hj) (by decide) hf,
    State.fld_setFld_off _ _ (Ne.symm hj) (by decide) hf]
theorem State.startRecal_off (s : State) (q m : Nat) (b : Bool) (g : Nat) (f : Fld) (h : f.off < 0x050 ∨ 0x060 ≤ f.off) (hj : f.off ≠ 0x064)
    (hf : f.off < 4096) : (s.startRecal q m b).fld g f = s.fld g f := by
  unfold State.startRecal
  dsimp only
  split
  · rw [State.fld_of (State.putJk_regs ..)]
  · split
    · rw [State.fld_of (State.putJk_regs ..)]
    · rw [State.jkConnect_off _ _ _ _ _ h hj hf, State.fld_of (State.putJk_regs ..)]
theorem State.requestRecal_off (s : State) (q m g : Nat) (f : Fld) (h3 : s.jkState q ≠ 3) (h4 : s.jkState q ≠ 4)
    (h : f.off < 0x050 ∨ 0x060 ≤ f.off) (hj : f.off ≠ 0x064) (hf : f.off < 4096) :
    (s.requestRecal q m).fld g f = s.fld g f := by
  unfold State.requestRecal
  dsimp only
  rw [if_neg (by unfold jkSubst jkFailed; omega)]
  split
  · rw [State.fld_setFld_off _ _ (Ne.symm hj) (by decide) hf]
  · unfold State.nextRecal
    dsimp only
    split
    · rw [State.fld_of (State.putJk_regs ..)]
    · split
      · rw [State.fld_of (State.jkSettle_regs ..), State.fld_of (State.putJk_regs ..)]
      · split
        · rw [State.startRecal_off _ _ _ _ _ _ h hj hf, State.fld_of (State.putJk_regs ..), State.fld_of (State.putJk_regs ..)]
        · rw [State.fld_of (State.putJk_regs ..)]

theorem State.downPacket_shut {s : State} {p : Nat} {pkt : DownPkt} (h1 : s.linkState p ≠ 1) (h4 : s.linkState p ≠ 4) (h5 : s.linkState p ≠ 5) :
    s.downPacket p pkt = s := by
  unfold State.downPacket
  exact if_pos ⟨h1, h4, h5⟩
theorem State.downPacket_open {s : State} {p : Nat} {pkt : DownPkt} (h : s.linkState p = 1 ∨ s.linkState p = 4 ∨ s.linkState p = 5) :
    s.downPacket p pkt = match readPacket pkt (s.linkState p) (s.fld (Pg.CP p) Fd.CP_PORT_CTL_DEPTH) (s.pTaps p) with
    | .bad c => (s.bump (Pg.CP p) c).putIntk p { (s.bump (Pg.CP p) c).intk p with bad := 7 }
    | .status flags temp ulErr count => s.statusIn p flags temp ulErr count
    | .resp tag result data => s.regResp p tag result data
    | .line tap m flags samples =>
      if m < tabGet (dflt 0) (s.link_ p).lastAcc tap ∨ (s.link_ p).lastTrig ≤ m then
        (s.bump (Pg.CP p) cntOrder).putIntk p { (s.bump (Pg.CP p) cntOrder).intk p with bad := 7 }
      else
        ((((s.putLink p { s.link_ p with lastAcc := tabPut (dflt 0) tap (m + 1) (s.link_ p).lastAcc }).camStatus p flags).closeTaps p
          fun c _ => decide (c.deadline < ((s.putLink p { s.link_ p with lastAcc := tabPut (dflt 0) tap (m + 1) (s.link_ p).lastAcc }).camStatus p flags).time)).takeTap
            p tap m samples).deliverPort p := by
  unfold State.downPacket
  exact if_neg (by unfold lkBase lkAlign lkActive; omega)
theorem State.link_bump (s : State) (p : Nat) (f : Fld) : (s.bump p f).link = s.link := (State.bump_within ..).link_eq rfl
theorem State.camStatus_rd {s : State} {p flags : Nat} {q off : Nat} (h1 : off ≠ 0x044) (h2 : off ≠ 0x074) (ho : off < 4096) :
    (s.camStatus p flags).rd q off = s.rd q off := by
  have k (x : State) (f : Fld) (v : Nat) (hf : f.off = 0x044 ∨ f.off = 0x074) : (x.setFld (Pg.CP p) f v).rd q off = x.rd q off := by
    apply State.rd_setFld_of_ne; omega
  have r (x : State) (n : Nat) : (x.raiseNow n).rd q off = x.rd q off := by unfold State.rd; rw [(State.raiseNow_within ..).regs_eq rfl]
  unfold State.camStatus
  dsimp only
  split <;> split
  · rw [r, k _ _ _ (.inl rfl), r, k _ _ _ (.inl rfl), k _ _ _ (.inr rfl)]
  · rw [r, k _ _ _ (.inl rfl), k _ _ _ (.inr rfl)]
  · rw [r, k _ _ _ (.inl rfl), k _ _ _ (.inr rfl)]
  · rw [k _ _ _ (.inr rfl)]
theorem State.camStatus_stat {s : State} {p flags : Nat} : (s.camStatus p flags).rd (Pg.CP p) Rg.CP_CAM_STAT =
    (s.setFld (Pg.CP p) Fd.CP_CAM_STAT_b0 flags).rd (Pg.CP p) Rg.CP_CAM_STAT := by
  have k (x : State) (f : Fld) (v : Nat) (hf : f.off = 0x044) : (x.setFld (Pg.CP p) f v).rd (Pg.CP p) Rg.CP_CAM_STAT = x.rd (Pg.CP p) Rg.CP_CAM_STAT := by
    apply State.rd_setFld_of_ne; rw [hf]; exact off_ne (by decide)
  have r (x : State) (n : Nat) : (x.raiseNow n).rd (Pg.CP p) Rg.CP_CAM_STAT = x.rd (Pg.CP p) Rg.CP_CAM_STAT := by unfold State.rd; rw [(State.raiseNow_within ..).regs_eq rfl]
  unfold State.camStatus
  dsimp only
  split <;> split
  · rw [r, k _ _ _ rfl, r, k _ _ _ rfl]
  · rw [r, k _ _ _ rfl]
  · rw [r, k _ _ _ rfl]
  · rfl
theorem State.ofsAt_plain {s : State} {p n : Nat} (h : s.isNew (s.pView p) n = false) : s.ofsAt p n = wf (s.rd Pg.STI (Rg.STI_PORT_CTL p)) 3 5 := by
  unfold State.ofsAt State.portWord
  dsimp only
  rw [h]
  rfl
theorem State.leaveCheck_none {s : State} {v : Nat} (h : (s.view_ v).chg = none) : s.leaveCheck v = s := by
  unfold State.leaveCheck; dsimp only; rw [h]
theorem State.closeTaps_none {s : State} {p : Nat} {sel : CamLine → Nat → Bool} (h : ∀ l ∈ (s.intk p).lines, ∀ t, sel l t = false) :
    s.closeTaps p sel = s := by
  unfold State.closeTaps
  rw [show (s.intk p).lines.flatMap _ = [] from ?_]
  · rfl
  · rw [List.flatMap_eq_nil_iff]
    intro l hl
    rw [List.map_eq_nil_iff, List.filter_eq_nil_iff]
    intro t _
    rw [h l hl t, Bool.and_false]
    decide
/-- A line that is not complete is not delivered. -/
theorem State.deliverAll_waits {s : State} {p n fuel : Nat} {l : CamLine} (hn : (s.intk p).next = some n) (hl : (s.intk p).lines = [l])
    (hm : l.m = n + s.ofsAt p n) (hw : TapSt.open_ ∈ l.taps ∨ s.chgWait (s.pView p) n = true) (hg : n < (s.tgOf (s.pView p)).ahead) :
    s.deliverAll p fuel = s := by
  cases fuel with
  | zero => rfl
  | succ k =>
    unfold State.deliverAll
    dsimp only
    rw [hn]
    dsimp only
    rw [if_neg (by omega), hl]
    have hf : [l].find? (fun c => c.m == n + s.ofsAt p n) = some l := by
      rw [List.find?_cons_of_pos]; simp [hm]
    rw [hf]
    dsimp only
    refine if_pos ?_
    rcases hw with hw | hw
    · rw [List.contains_iff_mem.mpr hw]
      rfl
    · rw [hw, Bool.or_true]
theorem State.deliverPort_waits {s : State} {p n : Nat} {l : CamLine} (hn : (s.intk p).next = some n) (hl : (s.intk p).lines = [l])
    (hm : l.m = n + s.ofsAt p n) (hw : TapSt.open_ ∈ l.taps ∨ s.chgWait (s.pView p) n = true) (hg : n < (s.tgOf (s.pView p)).ahead)
    (hc : (s.view_ (s.pView p)).chg = none) : s.deliverPort p = s := by
  unfold State.deliverPort
  rw [State.deliverAll_waits hn hl hm hw hg, State.leaveCheck_none hc]
theorem State.rd_of {s t : State} (h : t.regs = s.regs) (p o : Nat) : t.rd p o = s.rd p o := by unfold State.rd; rw [h]
theorem State.pView_of {s t : State} {p : Nat} (hi : t.intk p = s.intk p) (hr : t.rd Pg.STI (Rg.STI_PORT_CTL p) = s.rd Pg.STI (Rg.STI_PORT_CTL p)) :
    t.pView p = s.pView p := by
  unfold State.pView State.fld
  rw [hi]
  exact congrArg (fun w : Word => if (s.intk p).next.isSome || !(s.intk p).units.isEmpty then (s.intk p).view else wf w 1 2) hr
theorem State.intk_putIntk_of (s : State) (p : Nat) (x : Intake) : (s.putIntk p x).intk p = x := State.intk_putIntk ..
theorem State.takeTap_plain {s : State} {p m : Nat} {l : CamLine} {c : Nat × Nat × Bool} {samples : List Nat} (hl : (s.intk p).lines = [l]) (hm : l.m = m)
    (ht : l.taps = [.open_, .open_]) (hc : l.credit = some c) : ∃ nc sh lo, s.takeTap p 0 m samples =
      (s.putIntk p { s.intk p with bad := nbSet (s.intk p).bad 0 1 0 }).putIntk p { s.intk p with bad := nbSet (s.intk p).bad 0 1 0, noCred := nc, short := sh, long := lo, lines := [{ l with taps := [.present l.depth samples, .open_] }] } := by
  have hn : s.closeTaps p (fun c t => decide (c.m < m) && t == 0) = s := by
    apply State.closeTaps_none
    intro x hx t
    rw [hl, List.mem_singleton] at hx
    rw [hx, hm, decide_eq_false (by omega), Bool.false_and]
  unfold State.takeTap
  dsimp only
  rw [hl]
  have hf : [l].find? (fun c => c.m == m) = some l := by rw [List.find?_cons_of_pos]; simp [hm]
  rw [hf]
  dsimp only
  rw [ht, if_neg (by decide), hn, hc]
  dsimp only
  rw [State.intk_putIntk]
  dsimp only
  rw [hl, List.map_cons, List.map_nil, if_pos hm, ht]
  obtain ⟨lm, lt, ld, lp, lh, lc⟩ := l
  dsimp only at hc
  subst hc
  rcases c with ⟨a, b, _ | _⟩
  all_goals exact ⟨_, _, _, rfl⟩

theorem pp_page {g : Nat} (h : g < 8) : Pg.PP g ≠ Pg.PCIE ∧ Pg.PP g ≠ Pg.SYS ∧ Pg.PP g ≠ Pg.DLR ∧ Pg.PP g ≠ Pg.QF ∧ Pg.PP g ≠ Pg.SUPV0 := by
  unfold Pg.PP Pg.PCIE Pg.SYS Pg.DLR Pg.QF Pg.SUPV0; omega
theorem ffCtlDef (g : Fin 8) : regDefAt (Pg.PP g * 4096 + 0x04C) = some ⟨0x04C, 0x00E66280, 0x00FFF3FF, 0x00000000, 0x00000000, 0x00000000, 0x00000000⟩ := by
  revert g; decide
theorem State.mode_writeReg (s : State) {p off : Nat} {w : Word} (h : p ≠ Pg.SYS) (ho : off < 4096) : (s.writeReg p off w).mode = s.mode := by
  unfold State.mode State.fld
  rw [State.writeReg_rd_other]
  show Pg.SYS * 4096 + 0x040 ≠ p * 4096 + off
  unfold Pg.SYS at h ⊢
  omega
theorem State.pipe_of {s t : State} (h : t.pipe = s.pipe) (g : Nat) : t.pipe_ g = s.pipe_ g := by unfold State.pipe_; rw [h]
theorem State.ffBusy_of {s t : State} (h : t.pipe = s.pipe) (p : Nat) : t.ffBusy p = s.ffBusy p := by
  unfold State.ffBusy; congr 1; funext k; rw [State.pipe_of h]
theorem State.dlrMap_of {s t : State} (h : ∀ off, off < 4096 → t.rd Pg.DLR off = s.rd Pg.DLR off) {p : Nat} (hp : p < 16) (lo n : Nat) :
    t.dlrMap p lo n = s.dlrMap p lo n := by
  unfold State.dlrMap
  rw [h]
  show 0x048 + 4 * (p / 4) < 4096
  omega
theorem State.stripes_one {s : State} {p n : Nat} (h : s.dlrMap p 3 1 = 0) : s.stripes p n = [0] := by
  unfold State.stripes; rw [if_neg (by rw [h]; decide)]
theorem State.pipeOf_one {s : State} {p k : Nat} (h : s.dlrMap p 3 1 = 0) : s.pipeOf p k = s.dlrMap p 0 3 := by
  unfold State.pipeOf; rw [if_neg (by rw [h]; decide)]
theorem State.ffDark_ff (s : State) (g : Nat) (f : FfRun) : (s.ffDark g f).pipe = s.pipe := (State.ffDark_within ..).pipe_eq rfl
theorem State.ffCtl_eq {s : State} {g : Fin 8} {w : Word} {o : Owner} : ∃ x : State, x.pipe = s.pipe ∧ x.mode = s.mode ∧
    x.fld (Pg.PP g) Fd.PP_FF_CTL_PORT = wf w 0 4 ∧ x.fld (Pg.PP g) Fd.PP_FF_CTL_TARGET = wf w 12 12 ∧ x.intake = s.intake ∧
    (∀ off, off < 4096 → x.rd Pg.DLR off = s.rd Pg.DLR off) ∧
    (s.touch o (Pg.PP g)).ffCtl g w = (if wf w 10 1 = 0 then x
      else if x.mode ≠ .setup ∨ x.ffBusy (wf w 0 4) ∨ !((x.stripes (wf w 0 4) 0).map (x.pipeOf (wf w 0 4))).contains g then
        x.setFld (Pg.PP g) Fd.PP_FF_STAT_RESULT 2
      else ((x.putPipe g { x.pipe_ g with ff := (x.pipe_ g).ff ++ [⟨wf w 0 4, wf w 4 2, wf w 6 4, wf w 12 12,
          ((x.intk (wf w 0 4)).next.getD (x.nextLine (x.pView (wf w 0 4))) + 63) / 64 * 64, 0, false, []⟩] }).wr (Pg.PP g) Rg.PP_FF_STAT 1).wr64 (Pg.PP g)
          Rg.PP_FF_START_LO Rg.PP_FF_START_HI ((((x.intk (wf w 0 4)).next.getD (x.nextLine (x.pView (wf w 0 4))) + 63) / 64 * 64) % 2 ^ 48)) := by
  refine ⟨(s.touch o (Pg.PP g)).writeReg (Pg.PP g) Rg.PP_FF_CTL w, ?_, ?_, ?_, ?_, ?_, ?_, rfl⟩
  · rw [(State.writeReg_within ..).pipe_eq rfl, State.touch_pipe]
  · rw [State.mode_writeReg _ (pp_page g.isLt).2.1 (by decide)]
    unfold State.mode; rw [State.fld_of (State.touch_regs ..)]
  · exact State.fld_writeReg _ _ _ _ Fd.PP_FF_CTL_PORT _ (ffCtlDef g) rfl rfl rfl rfl (by decide)
  · exact State.fld_writeReg _ _ _ _ Fd.PP_FF_CTL_TARGET _ (ffCtlDef g) rfl rfl rfl rfl (by decide)
  · rw [(State.writeReg_within ..).intake_eq rfl, State.touch_intake]
  · intro off ho
    rw [State.writeReg_rd_other, State.rd_of (State.touch_regs ..)]
    have := (pp_page g.isLt).2.2.1
    show Pg.DLR * 4096 + off ≠ Pg.PP g * 4096 + 0x04C
    omega
theorem State.ffDark_state (s : State) (g : Nat) (f : FfRun) : (s.ffDark g f).fld (Pg.PP g) Fd.PP_FF_STAT_STATE = s.fld (Pg.PP g) Fd.PP_FF_STAT_STATE := by
  unfold State.ffDark
  apply foldl_kept (fun s : State => s.fld (Pg.PP g) Fd.PP_FF_STAT_STATE)
  intro s e
  dsimp only
  rw [foldl_kept (fun s : State => s.fld (Pg.PP g) Fd.PP_FF_STAT_STATE)]
  · rw [State.fld_of ((State.setWinBits_within ..).regs_eq rfl)]
  · intro s m
    unfold State.setCoef
    rw [State.fld_of ((State.setWinBits_within ..).regs_eq rfl)]
    split
    · rw [State.fld_bump_p (by decide) (by decide)]
    · rfl
theorem State.arbRound_lost {s : State} {a r : Nat} (h : (tabGet (dflt {}) s.arb a).grant = some r) :
    s.arbRound a [] = ({ s with arb := tabPut (dflt {}) a ⟨none⟩ s.arb }, none, true) := by
  unfold State.arbRound; rw [h]; rfl
theorem State.arbRound_first {s : State} {a p : Nat} (h : (tabGet (dflt {}) s.arb a).grant = none) :
    s.arbRound a [p] = ({ s with arb := tabPut (dflt {}) a ⟨some p⟩ s.arb }, none, false) := by
  unfold State.arbRound; rw [h]
  dsimp only
  rw [show maxN [p] = p from Nat.zero_max p]
  rfl
theorem State.arbRound_served {s : State} {a p : Nat} (h : (tabGet (dflt {}) s.arb a).grant = some p) :
    s.arbRound a [p] = ({ s with arb := tabPut (dflt {}) a ⟨none⟩ s.arb }, some p, false) := by
  unfold State.arbRound; rw [h]; simp

theorem calCtlDef : regDefAt (Pg.STI * 4096 + 0x050) = some ⟨0x050, 0x00000020, 0x0000007F, 0x00000000, 0x00000000, 0x00000000, 0x00000000⟩ := by decide
theorem State.calCtl_eq {s : State} {w : Word} {o : Owner} : ∃ x : State, x.mode = s.mode ∧ x.dot = s.dot ∧
    x.fld Pg.STI Fd.STI_CAL_CTL_LINES_LOG2 = wf w 2 4 ∧
    (s.touch o Pg.STI).calCtl w = (if wf w 7 1 = 0 then x
      else if x.mode ≠ .setup ∨ x.dot.isSome then x.setFld Pg.STI Fd.STI_CAL_STAT_RESULT 2
      else State.wr { x with dot := some ⟨wf w 0 2, wf w 2 4, wf w 6 1 == 1, (Nat.max (x.nextStitch (wf w 0 2)) (x.nextLine (wf w 0 2)) + 63) / 64 * 64, 0, false,
        (x.portsOf (wf w 0 2)).map fun p => (⟨p, [], []⟩ : DotPort)⟩ } Pg.STI Rg.STI_CAL_STAT 1) := by
  refine ⟨(s.touch o Pg.STI).writeReg Pg.STI Rg.STI_CAL_CTL w, ?_, ?_, ?_, rfl⟩
  · rw [State.mode_writeReg _ (by decide) (by decide)]
    unfold State.mode; rw [State.fld_of (State.touch_regs ..)]
  · rw [(State.writeReg_within ..).dot_eq rfl, State.touch_dot]
  · exact State.fld_writeReg _ _ _ _ Fd.STI_CAL_CTL_LINES_LOG2 _ calCtlDef rfl rfl rfl rfl (by decide)
theorem State.wr_dot' (s : State) (p o : Nat) (w : Word) : (s.wr p o w).dot = s.dot := rfl
theorem State.tblStep_eq (s : State) (p : Nat) : s.tblStep p = if s.on p Fd.STI_TBL_ADDR_INC then s.setFld p Fd.STI_TBL_ADDR_ADDR ((s.fld p Fd.STI_TBL_ADDR_ADDR + 1) % 8192) else s := rfl
theorem State.tblStep_window (s : State) (p : Nat) : (s.tblStep p).window = s.window := by
  rw [State.tblStep_eq]; split
  · rw [State.setFld_window]
  · rfl
theorem State.tblStep_addr (s : State) (p : Nat) : (s.tblStep p).fld p Fd.STI_TBL_ADDR_ADDR =
    if s.on p Fd.STI_TBL_ADDR_INC then (s.fld p Fd.STI_TBL_ADDR_ADDR + 1) % 8192 else s.fld p Fd.STI_TBL_ADDR_ADDR := by
  rw [State.tblStep_eq]; split
  · rw [State.fld_fits (by decide) (by show _ % 8192 < 2 ^ 13; omega)]
  · rfl
theorem State.win_of {s t : State} (h : t.window = s.window) (a : Nat) : t.win a = s.win a := by unfold State.win; rw [h]
theorem State.tblFree_touch (s : State) (o : Owner) (p a : Nat) : (s.touch o p).tblFree a = s.tblFree a := by
  have h1 : (s.touch o p).mode = s.mode := by unfold State.mode; rw [State.fld_of (State.touch_regs ..)]
  have h2 (c : Copy) (v : Nat) : (s.touch o p).enables c v = s.enables c v := by
    unfold State.touch
    split <;> cases c <;> rfl
  have h3 (v : Nat) : (s.touch o p).viewFree v = s.viewFree v := by unfold State.viewFree; rw [h1, h2, h2]
  unfold State.tblFree
  simp only [h1, h3, State.on_of (State.touch_regs ..)]
  have h4 (k : Nat) : (s.touch o p).pView k = s.pView k :=
    State.pView_of (by unfold State.intk; rw [State.touch_intake]) (State.rd_of (State.touch_regs ..) _ _)
  simp only [h4]
theorem State.winBits_win {s t : State} (hw : t.window = s.window) (b lo n : Nat) : t.winBits b lo n = s.winBits b lo n := by
  unfold State.winBits; simp only [State.win_of hw]
theorem State.dotsOf_of {s t : State} (hw : t.window = s.window) (v port : Nat) (l : List Nat) : t.dotsOf v port l = s.dotsOf v port l := by
  unfold State.dotsOf State.geoOffset State.geoSpan State.vrec State.vrecI State.vrec State.stitch
  simp only [State.winBits_win hw]
theorem State.measure_shows (s : State) (v w : Nat) : ∃ r, ((s.measure v w).view_ v).wins = w :: (s.view_ v).wins ∧
    tabGet (dflt none) (s.measure v w).winRes (64 * v + w) = some r ∧ (s.measure v w).regs = s.regs := by
  unfold State.measure
  dsimp only
  split <;> split
  all_goals
    refine ⟨_, ?_, tabGet_tabPut_same _ _ _ _, rfl⟩
    rw [State.view_setView]
    rfl
theorem State.viewOf_eq {s t : State} (h : t.view = s.view) (v : Nat) : t.view_ v = s.view_ v := by unfold State.view_; rw [h]
theorem State.applyUpd_wins (s : State) (v u : Nat) (c : Copy) (e ofit bfit : Int) (n : Nat) (b : Bool) : ((s.applyUpd v u c e ofit bfit n b).view_ v).wins = [] := by
  have h1 (x : State) (p : Nat) (f : Fld) (k : Nat) : (x.flagBit p f k).view = x.view := (State.flag_within ..).view_eq rfl
  have h2 (x : State) (a0 a1 p k : Nat) : (x.logLine Er.REG_UNLOCKED p k u a0 a1).view = x.view := (State.logMinor_within (by decide)).view_eq rfl
  have h3 (x : State) (a0 a1 p k : Nat) : (x.logLine Er.REG_NO_LOCK p k u a0 a1).view = x.view := (State.logMinor_within (by decide)).view_eq rfl
  have h4 (x : State) (a b d e : Nat) : (x.raiseLine a b d e).view = x.view := (State.raiseLine_within ..).view_eq rfl
  unfold State.view_ State.applyUpd
  dsimp only
  simp -implicitDefEqProofs only [apply_ite State.view, h1, h2, h3, h4, ite_self, State.wr_view]
  exact congrArg ViewSt.wins (tabGet_tabPut_same _ _ _ _)
theorem State.dotWrite_shows (s : State) (d : DotRun) (geo : List (Nat × List (Int × Int))) (ofs : List (Nat × Int)) (h : d.along = false)
    (hs : s.fld Pg.STI Fd.STI_CAL_STAT_STATE = 3) : (s.dotWrite d geo ofs).dot = s.dot ∧ (s.dotWrite d geo ofs).fld Pg.STI Fd.STI_CAL_STAT_STATE = 3 ∧
    (s.dotWrite d geo ofs).fld Pg.STI Fd.STI_CAL_STAT_RESULT = 1 := by
  unfold State.dotWrite
  dsimp only
  rw [h, if_neg (by decide)]
  refine ⟨?_, ?_, ?_⟩
  · rw [State.setFld_dot, State.setFld_dot]
    apply foldl_kept (fun s : State => s.dot)
    intro s e
    apply foldl_kept (fun s : State => s.dot)
    intro s g
    rw [(State.setWinBits_within ..).dot_eq rfl, (State.setWinBits_within ..).dot_eq rfl]
  · rw [State.fld_setFld_p (by decide) (by decide), State.fld_setFld_p (by decide) (by decide), ← hs]
    apply foldl_kept (fun s : State => s.fld Pg.STI Fd.STI_CAL_STAT_STATE)
    intro s e
    apply foldl_kept (fun s : State => s.fld Pg.STI Fd.STI_CAL_STAT_STATE)
    intro s g
    rw [State.fld_of ((State.setWinBits_within ..).regs_eq rfl), State.fld_of ((State.setWinBits_within ..).regs_eq rfl)]
  · rw [State.fld_setFld_p (by decide) (by decide), State.fld_fits (by decide) (by decide)]

end Sys2Proof.Machine
end

