-- ==== Sys2Proof/Laws/Meanings4.lean ====
section
/-!
SUPPORT. What the meanings of the supervisor, the boot and the modes rest on.
-/
set_option linter.unusedSimpArgs false
namespace Sys2Proof.Machine

theorem State.mstV_of {s t : State} (h : t.mst = s.mst) (v : Nat) : t.mstV v = s.mstV v := by unfold State.mstV; rw [h]
theorem State.mstV_putFlip (s : State) (v : Nat) (c : Copy) (g : Geo) {f : Flip} (h : f.whole = false ∨ f.taken = none) :
    (s.putFlip v c g f).mstV v = { s.mstV v with flips := f :: (s.mstV v).flips.drop 1 } := by
  unfold State.putFlip
  dsimp only
  split
  · rename_i h1 h2
    rcases h with h | h
    · rw [h] at h1; cases h1
    · rw [h] at h2; cases h2
  · exact State.mstV_putMst ..
/-- What a read of the job library rests on: memory and the place of the directory. -/
structure LibSame (s t : State) : Prop where
  mem : t.mem = s.mem
  blank : t.blank = s.blank
  base : t.rd64 Pg.SYS Rg.SYS_LIB_BASE_LO Rg.SYS_LIB_BASE_HI = s.rd64 Pg.SYS Rg.SYS_LIB_BASE_LO Rg.SYS_LIB_BASE_HI
theorem LibSame.trans {s t u : State} (h : LibSame s t) (k : LibSame t u) : LibSame s u :=
  ⟨k.mem.trans h.mem, k.blank.trans h.blank, k.base.trans h.base⟩
theorem LibSame.of_regs {s t : State} (hm : t.mem = s.mem) (hb : t.blank = s.blank) (hr : t.regs = s.regs) : LibSame s t :=
  ⟨hm, hb, by unfold State.rd64; rw [State.rd_of hr, State.rd_of hr]⟩
theorem State.dir_lib {s t : State} (h : LibSame s t) (j lo len : Nat) : t.dir j lo len = s.dir j lo len := by
  unfold State.dir State.dramNat State.dirAddr
  rw [State.dram_of h.mem h.blank, h.base]
theorem State.jobState_lib {s t : State} (h : LibSame s t) (j : Nat) : t.jobState j = s.jobState j := State.dir_lib h ..
theorem State.jobSects_lib {s t : State} (h : LibSame s t) (j : Nat) : t.jobSects j = s.jobSects j := by
  unfold State.jobSects State.jobSectCount State.jobSectBase State.dramNat
  simp only [State.dir_lib h, State.dram_of h.mem h.blank]
theorem State.jobCtx_lib {s t : State} (h : LibSame s t) (j : Nat) : t.jobCtx j = s.jobCtx j := by
  unfold State.jobCtx State.jobSectCount State.jobSectBase
  simp only [State.dir_lib h, State.dram_of h.mem h.blank, State.jobSects_lib h]
theorem State.artBad_lib {s t : State} (h : LibSame s t) (j : JobCtx) : t.artBad j = s.artBad j := by
  unfold State.artBad State.artAt State.dramNat
  simp only [State.dram_of h.mem h.blank]
theorem State.setFld_lib (s : State) {p : Nat} {f : Fld} {n : Nat} (hp : p ≠ Pg.SYS) (hf : f.off < 4096) : LibSame s (s.setFld p f n) :=
  ⟨by rw [State.setFld_mem], by rw [State.setFld_blank], by
    have h1 : Pg.SYS * 4096 + Rg.SYS_LIB_BASE_LO < 4096 * (Pg.SYS + 1) := by decide
    have h2 : Pg.SYS * 4096 + Rg.SYS_LIB_BASE_HI < 4096 * (Pg.SYS + 1) := by decide
    have h3 : Pg.SYS * 4096 ≤ Pg.SYS * 4096 + Rg.SYS_LIB_BASE_LO := by decide
    have h4 : Pg.SYS * 4096 ≤ Pg.SYS * 4096 + Rg.SYS_LIB_BASE_HI := by decide
    unfold State.setFld
    refine State.rd64_wr_apart _ _ _ _ _ _ _ ⟨?_, ?_⟩ <;> generalize Pg.SYS = P at * <;> omega⟩
theorem State.touch_lib (s : State) (o : Owner) (p : Nat) : LibSame s (s.touch o p) :=
  LibSame.of_regs (by rw [State.touch_mem]) (by rw [State.touch_blank]) (State.touch_regs ..)
theorem artCtlDef : regDefAt (Pg.MST * 4096 + Rg.MST_ART_CTL) ≠ none := by decide
theorem State.storeRw_art (s : State) (w : Word) : LibSame s (s.storeRw Pg.MST Rg.MST_ART_CTL w) ∧ (s.storeRw Pg.MST Rg.MST_ART_CTL w).predict = s.predict := by
  refine ⟨⟨(State.storeRw_within ..).mem_eq rfl, (State.storeRw_within ..).blank_eq rfl, ?_⟩, (State.storeRw_within ..).predict_eq rfl⟩
  unfold State.storeRw
  exact State.rd64_wr_apart _ _ _ _ _ _ _ (by decide)
theorem State.artCtl_go {s : State} {w : Word} (o : Owner) : ∃ x : State, LibSame s x ∧ x.predict = s.predict ∧
    (s.touch o Pg.MST).artCtl w = (if wf w 6 1 = 0 then x
      else if x.jobState (wf w 0 6) ≠ jobReady ∨ x.predict.isSome then x.setFld Pg.MST Fd.MST_ART_STAT_RESULT 2
      else
        let c := (x.setFld Pg.MST Fd.MST_ART_STAT_JOB (wf w 0 6)).jobCtx (wf w 0 6)
        if (x.setFld Pg.MST Fd.MST_ART_STAT_JOB (wf w 0 6)).artBad c then
          ((x.setFld Pg.MST Fd.MST_ART_STAT_JOB (wf w 0 6)).setFld Pg.MST Fd.MST_ART_STAT_STATE 2).setFld Pg.MST Fd.MST_ART_STAT_RESULT 4
        else { (((x.setFld Pg.MST Fd.MST_ART_STAT_JOB (wf w 0 6)).setFld Pg.MST Fd.MST_ART_STAT_STATE 1).setFld Pg.MST Fd.MST_ART_STAT_RESULT 0) with
          predict := some ⟨wf w 0 6, c.artViews.filter fun v => (c.sect (sectMaster v)).isSome⟩ }) :=
  ⟨(s.touch o Pg.MST).storeRw Pg.MST Rg.MST_ART_CTL w, (State.touch_lib ..).trans (State.storeRw_art ..).1,
    (State.storeRw_art ..).2.trans (by rw [State.touch_predict]), rfl⟩
theorem State.fld_predict (s : State) (x : Option Predict) (p : Nat) (f : Fld) : State.fld { s with predict := x } p f = s.fld p f := rfl
theorem State.mem_predict (s : State) (x : Option Predict) : State.mem { s with predict := x } = s.mem := rfl
theorem State.predictFold_mst (j : JobCtx) (l : List Nat) (s : State) : (l.foldl (fun (s : State) (v : Nat) => s.predictView j v) s).mst = s.mst ∧
    (l.foldl (fun (s : State) (v : Nat) => s.predictView j v) s).predict = s.predict :=
  ⟨foldl_kept (·.mst) _ (fun _ _ => (State.predictView_within ..).mst_eq rfl) _ _, foldl_kept (·.predict) _ (fun _ _ => (State.predictView_within ..).predict_eq rfl) _ _⟩
theorem State.engOf_of {s t : State} (h : t.eng = s.eng) (e : Nat) : t.engOf e = s.engOf e := by unfold State.engOf; rw [h]
/-- The place of an engine: its view, its job and the line it compares next. -/
def State.engAt (s : State) (e : Nat) : Option Nat × Nat × Bool := ((s.engOf e).view, (s.engOf e).next, (s.engOf e).newJob)
theorem State.engAt_of {s t : State} (h : t.eng = s.eng) (e : Nat) : t.engAt e = s.engAt e := by unfold State.engAt; rw [State.engOf_of h]
/-- The place of an engine. -/
def Eng.spot (x : Eng) : Option Nat × Nat × Bool := (x.view, x.next, x.newJob)
theorem Eng.foldl_spot {α : Type} (f : Eng → α → Eng) (hf : ∀ x a, (f x a).spot = x.spot) (l : List α) (x : Eng) : (l.foldl f x).spot = x.spot := by
  induction l generalizing x with
  | nil => rfl
  | cons a t ih => rw [List.foldl_cons, ih, hf]
theorem Eng.count_spot (x : Eng) (lo hi : Nat) (l : PixLine) : (x.count lo hi l).spot = x.spot := by
  unfold Eng.count
  apply Eng.foldl_spot
  intro x p
  dsimp only
  split <;> split <;> rfl
theorem Eng.relabel_spot (x : Eng) (n : Nat) : Eng.spot { x with label := n } = x.spot := rfl
theorem Eng.relines_spot (x : Eng) (l : List PixLine) : Eng.spot { x with lines := l } = x.spot := rfl
theorem Eng.mapBand_spot (x : Eng) (n : Nat) (f : OpenBand → OpenBand) : (x.mapBand n f).spot = x.spot := rfl
theorem Eng.putLine_spot (x : Eng) (l : PixLine) : (x.putLine l).spot = x.spot := rfl
theorem State.spot_putEng (s : State) (e : Nat) (x : Eng) : ((s.putEng e x).engOf e).spot = x.spot := by rw [State.engOf_putEng]
theorem State.labelLine_spot (s : State) (e v : Nat) : ((s.labelLine e v).engOf e).spot = (s.engOf e).spot := by
  unfold State.labelLine
  dsimp only
  split
  · rw [State.spot_putEng, Eng.relabel_spot]
  · rw [State.engOf_of (State.setBit_eng ..), State.engOf_of (State.setFld_eng ..), State.spot_putEng, Eng.relabel_spot]
    split
    · rw [Eng.count_spot]
      simp -implicitDefEqProofs only [apply_ite Eng.spot, Eng.relines_spot, Eng.mapBand_spot, Eng.putLine_spot, ite_self]
    · simp -implicitDefEqProofs only [apply_ite Eng.spot, Eng.relines_spot, Eng.mapBand_spot, Eng.putLine_spot, ite_self]
theorem Eng.close_spot (x : Eng) (b : Bool) (l : List OpenBand) : Eng.spot { x with fin := b, bands := l } = x.spot := rfl
theorem State.closePart_spot (s : State) (e : Nat) : ((s.closePart e).engOf e).spot = (s.engOf e).spot := by
  unfold State.closePart
  dsimp only
  split
  · rfl
  split
  · rfl
  split
  · rfl
  rw [State.engOf_of ((State.panicCheck_within ..).eng_eq rfl), foldl_kept (fun s : State => (s.engOf e).spot) _ (fun _ _ => State.labelLine_spot ..),
    State.spot_putEng, Eng.close_spot]
theorem State.vres_of {s t : State} (hA : t.resA = s.resA) (hN : t.resN = s.resN) (c : Copy) (v : Nat) : t.vres c v = s.vres c v := by
  unfold State.vres State.res; rw [hA, hN]
theorem State.vres_setVres (s : State) (c : Copy) (v : Nat) (x : ViewRes) : (s.setVres c v x).vres c v = x := by
  unfold State.vres State.setVres State.res State.setRes
  cases c <;> exact tabGet_tabPut_same _ _ _ _
theorem State.showAssign_vres (s : State) (e : Nat) (c : Copy) (v : Nat) : (s.showAssign e).vres c v = s.vres c v :=
  State.vres_of ((State.showAssign_within ..).resA_eq rfl) ((State.showAssign_within ..).resN_eq rfl) c v
theorem State.putEng_vres (s : State) (e : Nat) (x : Eng) (c : Copy) (v : Nat) : (s.putEng e x).vres c v = s.vres c v := rfl
theorem State.setFld_vres (s : State) (p : Nat) (f : Fld) (n : Nat) (c : Copy) (v : Nat) : (s.setFld p f n).vres c v = s.vres c v :=
  State.vres_of ((State.setFld_within ..).resA_eq rfl) ((State.setFld_within ..).resN_eq rfl) c v
theorem State.freeEngine_bands (s : State) (e : Nat) (v : Nat) (c : Copy) (hv : (s.engOf e).view = some v) (hc : (s.engOf e).copy = c) :
    ((s.freeEngine e).vres c v).bands = (s.vres c v).bands := by
  unfold State.freeEngine
  dsimp only
  rw [hv]
  dsimp only
  split
  · rfl
  · rw [State.showAssign_vres, State.setFld_vres, State.putEng_vres, hc, State.vres_setVres]
theorem ie_page {e : Nat} (h : e < 8) : Pg.IE e ≠ Pg.PCIE ∧ Pg.IE e ≠ Pg.SYS ∧ Pg.IE e ≠ Pg.QF ∧ Pg.IE e ≠ Pg.SUPV0 := by
  unfold Pg.IE Pg.PCIE Pg.SYS Pg.QF Pg.SUPV0; omega
theorem State.labelIf_spot (s : State) (e v : Nat) (c : Prop) [Decidable c] : ((if c then s.labelLine e v else s).engOf e).spot = (s.engOf e).spot := by
  split
  · exact State.labelLine_spot ..
  · rfl
theorem State.flagIf_eng (s : State) (p : Nat) (f : Fld) (c : Prop) [Decidable c] : (if c then s.flag p f else s).eng = s.eng := by
  split
  · exact (State.flag_within ..).eng_eq rfl
  · rfl
theorem State.cut_spot (s : State) (x : Eng) (v n m : Nat) (a : List TileRow) (b : List PixLine) (d : List FetchedBlock) :
    Eng.spot { s.cutLine x v n with next := m, rows := a, lines := b, blocks := d } = (x.view, m, x.newJob) := by
  unfold State.cutLine
  split <;> rfl
theorem State.fineTile_eng (b : Bool) (x : State) (e : Nat) (z : Eng) : ((if b then x.bump (Pg.IE e) Fd.IE_CNT1_FLAT else x).putEng e z).engOf e = z := State.engOf_putEng ..

theorem State.modeReq_go {s x : State} {o : Owner} {w : Word} (h : s.access o Pg.SYS = .granted) (hx : x = (s.touch o Pg.SYS).writeReg Pg.SYS Rg.SYS_MODE_REQ w)
    (hg : wf w 8 1 = 1) : s.modeReq o w = x.modeRequest (wf w 0 3) (wf w 3 1) := by
  unfold State.modeReq State.sysWrite
  rw [h]
  dsimp only
  rw [if_pos hg, ← hx]
theorem State.refusal_shows (x : State) (k : Nat) (h : k < 16) : (x.refusal k).fld Pg.SYS Fd.SYS_MODE_REFUSAL = k ∧ (x.refusal k).mode = x.mode := by
  unfold State.refusal
  refine ⟨State.fld_fits (by decide) h, ?_⟩
  unfold State.mode
  rw [State.fld_setFld_p (by decide) (by decide)]
theorem State.runRecord_mode (s : State) : s.runRecord.mode = s.mode := by unfold State.mode; rw [State.fld_of ((State.runRecord_within ..).regs_eq rfl)]
theorem ite_kept {β : Type} (g : State → β) {c : Prop} [Decidable c] {a b : State} (h : g a = g b) : g (if c then a else b) = g b := by
  split
  · exact h
  · rfl
theorem State.leaveHold_shows (x : State) : x.leaveHold.mode = .idle ∧ (∀ e, (x.leaveHold.engOf e).view = none) ∧ x.leaveHold.jobA = none ∧ x.leaveHold.jobN = none := by
  unfold State.leaveHold
  dsimp only
  refine ⟨?_, ?_, ?_, ?_⟩
  · rw [State.runRecord_mode, State.enter_mode]
  · intro e
    unfold State.engOf
    rw [(State.runRecord_within ..).eng_eq rfl, (State.enter_within ..).eng_eq rfl, (State.releasePins_within ..).eng_eq rfl,
      ite_kept (·.eng) (by rw [State.setFld_eng]),
      State.setFld_eng, State.setFld_eng, foldl_kept (·.eng) _ (fun s v => by rw [State.setView_eng, State.putMst_eng]),
      foldl_kept (·.eng) _ (fun s v => by rw [(State.showAssign_within ..).eng_eq rfl])]
    exact tabGet_tabMap (P := fun x : Eng => x.view = none) _ _ (fun _ => rfl) (fun _ => rfl) _ _
  · rw [(State.runRecord_within ..).jobA_eq rfl, (State.enter_within ..).jobA_eq rfl, (State.releasePins_within ..).jobA_eq rfl]
    refine (ite_kept (·.jobA) (by rw [State.setFld_jobA])).trans ?_
    rw [State.setFld_jobA, State.setFld_jobA, foldl_kept (·.jobA) _ (fun s v => by rw [State.setView_jobA, State.putMst_jobA]),
      foldl_kept (·.jobA) _ (fun s v => by rw [(State.showAssign_within ..).jobA_eq rfl])]
  · rw [(State.runRecord_within ..).jobN_eq rfl, (State.enter_within ..).jobN_eq rfl, (State.releasePins_within ..).jobN_eq rfl]
    refine (ite_kept (·.jobN) (by rw [State.setFld_jobN])).trans ?_
    rw [State.setFld_jobN, State.setFld_jobN, foldl_kept (·.jobN) _ (fun s v => by rw [State.setView_jobN, State.putMst_jobN]),
      foldl_kept (·.jobN) _ (fun s v => by rw [(State.showAssign_within ..).jobN_eq rfl])]
theorem State.refuse_mode (s : State) (o : Owner) (p off : Nat) (b : Bool) : (s.refuse o p off b).mode = s.mode := by
  have h (q : Nat) : Pg.SYS * 4096 + 0x040 ≠ q * 4096 + Rg.HDR_PAGE_STAT := by unfold Pg.SYS Rg.HDR_PAGE_STAT; omega
  unfold State.refuse State.mode
  dsimp only
  rw [State.fld_bump_p (by decide) (by decide), State.fld_wr_p (by decide)]
  unfold State.fld State.setFld
  rw [State.rd_wr_of_ne _ _ _ _ _ _ (h p)]
/-- Every view of a list learns anew. -/
def State.relearnAll (s : State) (l : List Nat) : State := l.foldl (fun (s : State) v => s.putMst v { s.mstV v with relearn := true }) s
theorem State.relearnAll_shows (l : List Nat) (s : State) : (∀ v ∈ l, ((s.relearnAll l).mstV v).relearn = true) ∧
    ∀ v, (s.mstV v).relearn = true → ((s.relearnAll l).mstV v).relearn = true := by
  induction l generalizing s with
  | nil => exact ⟨fun v h => absurd h List.not_mem_nil, fun v h => h⟩
  | cons a t ih =>
    have hk : ∀ v, (v = a ∨ (s.mstV v).relearn = true) → ((s.putMst a { s.mstV a with relearn := true }).mstV v).relearn = true := by
      intro v hv
      by_cases h : v = a
      · subst h; rw [State.mstV_putMst]
      · rcases hv with hv | hv
        · exact absurd hv h
        · unfold State.mstV State.putMst; dsimp only
          rw [tabGet_tabPut_of_ne _ _ _ h]; exact hv
    obtain ⟨h1, h2⟩ := ih (s.putMst a { s.mstV a with relearn := true })
    refine ⟨fun v hv => ?_, fun v hv => h2 v (hk v (.inr hv))⟩
    rcases List.mem_cons.mp hv with h | h
    · exact h2 v (hk v (.inl h))
    · exact h1 v h

theorem leBytes_length (n x : Nat) : (leBytes n x).length = n := by
  induction n generalizing x with
  | zero => rfl
  | succ n ih => show (leBytes n (x / 256)).length + 1 = n + 1; rw [ih]
theorem leNat_leBytes (n x : Nat) : leNat (leBytes n x) = x % 256 ^ n := by
  induction n generalizing x with
  | zero => rw [pow_zero, Nat.mod_one]; rfl
  | succ n ih =>
    show (BitVec.ofNat 8 (x % 256)).toNat + 256 * leNat (leBytes n (x / 256)) = _
    rw [ih, BitVec.toNat_ofNat, Nat.pow_succ (n := 256), Nat.mul_comm (256 ^ n) 256, Nat.mod_mul]
    show x % 256 % 256 + _ = _
    rw [Nat.mod_mod]
theorem nb_mod {x lo len m : Nat} (h : lo + len ≤ m) : nb (x % 2 ^ m) lo len = nb x lo len := by
  unfold nb
  obtain ⟨k, rfl⟩ : ∃ k, m = lo + (len + k) := ⟨m - lo - len, by omega⟩
  rw [pow_add, Nat.mod_mul_right_div_self, pow_add, Nat.mod_mul_right_mod]
theorem State.setDir_regs (s : State) (j lo len v : Nat) : (s.setDir j lo len v).regs = s.regs := (State.setDir_within ..).regs_eq rfl
theorem State.dir_setDir (s : State) {j lo len : Nat} (v : Nat) (h : s.dirAddr j + lo / 8 + (lo % 8 + len + 7) / 8 ≤ s.capacity) :
    (s.setDir j lo len v).dir j lo len = v % 2 ^ len := by
  have ha : (s.setDir j lo len v).dirAddr j = s.dirAddr j := by unfold State.dirAddr State.rd64; rw [State.rd_of (State.setDir_regs ..), State.rd_of (State.setDir_regs ..)]
  unfold State.dir State.dramNat
  rw [ha]
  unfold State.setDir
  dsimp only
  have hl := leBytes_length ((lo % 8 + len + 7) / 8) (nbSet (s.dramNat (s.dirAddr j + lo / 8) ((lo % 8 + len + 7) / 8)) (lo % 8) len v)
  have e := State.dram_dramPut s (s.dirAddr j + lo / 8) (leBytes ((lo % 8 + len + 7) / 8) (nbSet (s.dramNat (s.dirAddr j + lo / 8) ((lo % 8 + len + 7) / 8)) (lo % 8) len v)) (by rw [hl]; exact h)
  rw [hl] at e
  rw [e, leNat_leBytes, show (256 : Nat) = 2 ^ 8 from rfl, ← pow_mul, nb_mod (by omega), nb_nbSet_same]
theorem State.setJobState_state (s : State) (j st : Nat) (h : s.dirAddr j + 64 ≤ s.capacity) (hs : st < 8) : (s.setJobState j st).jobState j = st := by
  unfold State.setJobState State.jobState
  rw [State.dir_setDir s st (by omega)]
  exact Nat.mod_eq_of_lt hs
theorem State.abortPredict_lib (s : State) (j : Nat) : LibSame s (s.abortPredict j) ∧ ∀ p, (s.abortPredict j).predict = some p → p.job ≠ j := by
  have h0 (x : Option Predict) : LibSame s { s with predict := x } := ⟨rfl, rfl, rfl⟩
  unfold State.abortPredict
  split
  · split
    · refine ⟨((h0 none).trans (State.setFld_lib _ (by decide) (by decide))).trans (State.setFld_lib _ (by decide) (by decide)), ?_⟩
      intro p hp
      rw [State.setFld_predict, State.setFld_predict] at hp
      cases hp
    · rename_i y hy hj
      refine ⟨⟨rfl, rfl, rfl⟩, ?_⟩
      intro p hp
      rw [hy] at hp
      cases hp
      exact hj
  · rename_i hy
    refine ⟨⟨rfl, rfl, rfl⟩, ?_⟩
    intro p hp
    rw [hy] at hp; cases hp
theorem State.jobCtl_go {s x : State} {o : Owner} {w : Word} (h : s.access o Pg.SYS = .granted) (hx : x = (s.touch o Pg.SYS).writeReg Pg.SYS Rg.SYS_JOB_CTL w) :
    s.jobCtl o w = (match wf w 8 5 with
    | 0 => x
    | 1 => x.jobOpen (wf w 0 6)
    | 2 => x.jobValidate (wf w 0 6)
    | 4 => x.jobLoadNext (wf w 0 6)
    | 8 => x.jobCancelNext (wf w 0 6)
    | 16 => x.jobDelete (wf w 0 6)
    | _ => x.jobWrong (wf w 0 6)) := by
  unfold State.jobCtl State.sysWrite
  rw [h, hx] <;> rfl
theorem State.touched_kept (s : State) (o : Owner) (p off : Nat) (w : Word) : ((s.touch o p).writeReg p off w).mem = s.mem ∧ ((s.touch o p).writeReg p off w).jobN = s.jobN ∧
    ((s.touch o p).writeReg p off w).view = s.view := by
  refine ⟨?_, ?_, ?_⟩
  · rw [(State.writeReg_within ..).mem_eq rfl, State.touch_mem]
  · rw [(State.writeReg_within ..).jobN_eq rfl, State.touch_jobN]
  · rw [(State.writeReg_within ..).view_eq rfl, State.touch_view]
theorem State.setFld_lib2 (s : State) {f : Fld} {n : Nat} (h1 : f.off ≠ Rg.SYS_LIB_BASE_LO) (h2 : f.off ≠ Rg.SYS_LIB_BASE_HI) : LibSame s (s.setFld Pg.SYS f n) :=
  ⟨by rw [State.setFld_mem], by rw [State.setFld_blank], by
    unfold State.setFld
    refine State.rd64_wr_apart _ _ _ _ _ _ _ ⟨?_, ?_⟩
    · exact fun h => h1 (Nat.add_left_cancel h).symm
    · exact fun h => h2 (Nat.add_left_cancel h).symm⟩
theorem State.chgCtl_go {s x : State} {o : Owner} {w : Word} (h : s.access o Pg.SYS = .granted) (hx : x = (s.touch o Pg.SYS).writeReg Pg.SYS Rg.SYS_CHG_CTL w) :
    s.chgCtl o w = (if wf w 8 1 = 1 then (if wf w 9 1 = 1 then x.chgCancel else x).armChg else (if wf w 9 1 = 1 then x.chgCancel else x)) := by
  unfold State.chgCtl State.sysWrite
  rw [h, hx]
/-- Every view of an armed changeover waits for its changeover line. -/
def State.armViews (s : State) : State := (List.range 4).foldl (fun (s : State) v =>
  s.setView v { s.view_ v with chg := none, past := false, entering := s.enables .next v && !s.enables .active v, started := false, left := false }) s
theorem State.armViews_shows (s : State) : s.armViews.regs = s.regs ∧ ∀ v < 4, (s.armViews.view_ v).chg = none ∧ (s.armViews.view_ v).past = false := by
  refine ⟨foldl_kept (·.regs) _ (fun s v => by rw [State.setView_regs]) _ _, ?_⟩
  have h : ∀ (l : List Nat) (s : State) (v : Nat), (v ∈ l ∨ ((s.view_ v).chg = none ∧ (s.view_ v).past = false)) →
      (((l.foldl (fun (s : State) v => s.setView v { s.view_ v with chg := none, past := false, entering := s.enables .next v && !s.enables .active v, started := false, left := false }) s).view_ v).chg = none ∧
      ((l.foldl (fun (s : State) v => s.setView v { s.view_ v with chg := none, past := false, entering := s.enables .next v && !s.enables .active v, started := false, left := false }) s).view_ v).past = false) := by
    intro l
    induction l with
    | nil => intro s v hv; rcases hv with hv | hv; exact absurd hv List.not_mem_nil; exact hv
    | cons a t ih =>
      intro s v hv
      refine ih _ _ ?_
      by_cases hva : v = a
      · subst hva
        right
        rw [State.view_setView]
        exact ⟨rfl, rfl⟩
      · rcases hv with hv | hv
        · rcases List.mem_cons.mp hv with hv | hv
          · exact absurd hv hva
          · exact .inl hv
        · right
          unfold State.view_ State.setView at *
          dsimp only
          rw [tabGet_tabPut_of_ne _ _ _ hva]
          exact hv
  intro v hv
  exact h _ _ _ (.inl (List.mem_range.mpr hv))
theorem State.jobA_res (s : State) (a b : Results) : State.jobA { s with resA := a, resN := b } = s.jobA := rfl
theorem State.jobN_res (s : State) (a b : Results) : State.jobN { s with resA := a, resN := b } = s.jobN := rfl
theorem promoteEngs_jobA (l : List Nat) (s : State) : (l.foldl (fun (s : State) e =>
        if (s.engOf e).view.isSome then s.putEng e { s.engOf e with newJob := false } else s) s).jobA = s.jobA := by
  apply foldl_kept (·.jobA)
  intro s e
  split
  · rw [State.putEng_jobA]
  · rfl
theorem promoteEngs_jobN (l : List Nat) (s : State) : (l.foldl (fun (s : State) e =>
        if (s.engOf e).view.isSome then s.putEng e { s.engOf e with newJob := false } else s) s).jobN = s.jobN := by
  apply foldl_kept (·.jobN)
  intro s e
  split
  · rw [State.putEng_jobN]
  · rfl
theorem State.promote_jobA (s : State) (j : JobCtx) : (s.promote j).jobA = some j := by
  unfold State.promote
  dsimp only
  rw [foldl_kept (·.jobA) _ (fun _ _ => (State.mapSets_within ..).jobA_eq rfl), (State.fillContexts_within ..).jobA_eq rfl, State.setFld_jobA, State.setFld_jobA, State.setFld_jobA, State.setFld_jobA, (State.setJobState_within ..).jobA_eq rfl]
theorem State.promote_jobN (s : State) (j : JobCtx) : (s.promote j).jobN = none := by
  unfold State.promote
  dsimp only
  rw [foldl_kept (·.jobN) _ (fun _ _ => (State.mapSets_within ..).jobN_eq rfl), (State.fillContexts_within ..).jobN_eq rfl, State.setFld_jobN, State.setFld_jobN, State.setFld_jobN, State.setFld_jobN, (State.setJobState_within ..).jobN_eq rfl]
/-- What a finished validation leaves. -/
def State.validated (s : State) (j : Nat) (l : List Flt) : State :=
  if l.isEmpty then
    let s := (s.setJobState j jobReady).setDir j 8 4 (s.learnedViews (s.jobCtx j))
    (s.setDir j 192 32 (s.dir j 192 32 + 1)).setFld Pg.SYS Fd.SYS_JOB_STAT_VAL_RESULT 1
  else (s.setJobState j jobRefused).setFld Pg.SYS Fd.SYS_JOB_STAT_VAL_RESULT 2
theorem State.validated_shows (s : State) (j : Nat) (l : List Flt) (h : j ∉ s.roWritten) : j ∉ (s.validated j l).roWritten ∧
    (s.validated j l).fld Pg.SYS Fd.SYS_JOB_STAT_VAL_RESULT = if l.isEmpty then 1 else 2 := by
  unfold State.validated
  split
  · dsimp only
    refine ⟨?_, State.fld_fits (by decide) (by decide)⟩
    rw [State.setFld_roWritten, (State.setDir_within ..).roWritten_eq rfl, (State.setDir_within ..).roWritten_eq rfl, (State.setJobState_within ..).roWritten_eq rfl]
    exact h
  · refine ⟨?_, State.fld_fits (by decide) (by decide)⟩
    rw [State.setFld_roWritten, (State.setJobState_within ..).roWritten_eq rfl]
    exact h
theorem State.validationDone_eq {s x : State} {j : Nat} (h : s.valJob = some j) (hx : x = ({ s with valJob := none }).setFld Pg.SYS Fd.SYS_JOB_STAT_VAL_BUSY 0) :
    s.validationDone = if x.jobState j = jobEmpty ∨ x.jobState j = jobNext ∨ x.jobState j = jobActive then x
      else State.validated { (x.validate j).1.logFaults (x.validate j).2 with roWritten := (x.validate j).1.roWritten.filter (· != j) } j (x.validate j).2 := by
  unfold State.validationDone
  rw [h]
  dsimp only
  rw [← hx]
  generalize x.validate j = r
  rfl
theorem State.roFiltered (s : State) (l : List Nat) (j : Nat) : j ∉ State.roWritten { s with roWritten := l.filter (· != j) } := by
  show j ∉ l.filter (· != j)
  rw [List.mem_filter]
  rintro ⟨-, h⟩
  simp at h

theorem State.res_setRes (s : State) (c : Copy) (r : Results) : (s.setRes c r).res c = r := by cases c <;> rfl
theorem State.res_of {s t : State} (hA : t.resA = s.resA) (hN : t.resN = s.resN) (c : Copy) : t.res c = s.res c := by cases c; exact hA; exact hN
theorem State.res_within {m : Nat} {s t : State} (h : Within m s t) (hm : m / 2 ^ 24 % 2 = 0) (c : Copy) : t.res c = s.res c :=
  State.res_of (h.resA_eq hm) (h.resN_eq hm) c
theorem State.vres_setRes (s : State) (c : Copy) (r : Results) (v : Nat) : (s.setRes c r).vres c v = tabGet (dflt {}) r.views v := by cases c <;> rfl
theorem State.scales_setVres (s : State) (v : Nat) (x : ViewRes) : ((s.setVres .active v x).vres .active v).scales = x.scales := by rw [State.vres_setVres]
theorem State.ruleEvaluate_eq {s : State} {c : Copy} (hc : c = s.rulCopy) (hj : s.jobOf c ≠ none) (hm : c = .active ∨ s.mode ≠ .hold) :
    s.ruleEvaluate = s.evalNext c (s.itemCount c + 1) := by
  unfold State.ruleEvaluate
  rw [← hc]
  refine if_neg ?_
  rw [Bool.or_eq_true]
  rintro (h | h)
  · cases h2 : s.jobOf c with
    | none => exact hj h2
    | some _ => rw [h2] at h; cases h
  · rcases hm with hm | hm
    · subst hm; simp at h
    · simp [hm] at h
theorem State.drawnIf_res (s : State) (b : Prop) [Decidable b] (c : Copy) : (if b then s.drawn else s).res c = s.res c := by split <;> rfl
theorem State.cellVerdict_shows (s : State) (c : Copy) (i n : Nat) :
    ((s.cellVerdict c i n none).res c).front = (s.res c).front ++ [(s.cellRec c ((s.res c).cell i n) none).1] ∧
    ((s.cellVerdict c i n none).res c).ready = (s.res c).ready ∧ ((s.cellVerdict c i n none).res c).out = (s.res c).out := by
  unfold State.cellVerdict
  dsimp only
  generalize hr : s.cellRec c ((s.res c).cell i n) none = r
  have h (x : State) (f : Fld) (v k t : Nat) (p : Prop) [Decidable p] :
      (if p then (x.bump Pg.VRD f).raiseLine evCellFail v k t else x.bump Pg.VRD f).res c = x.res c := by
    split
    · rw [State.res_within (State.raiseLine_within ..) rfl, State.res_within (State.bump_within ..) rfl]
    · rw [State.res_within (State.bump_within ..) rfl]
  rw [h]
  simp only [Option.isSome_none, Bool.false_eq_true, if_false]
  rw [State.res_setRes]
  exact ⟨rfl, rfl, rfl⟩
theorem State.settleScale_shows {s : State} {v n : Nat} {a : Tab Nat} {l : List (Nat × Tab Nat)} (h2 : (s.vres .active v).scales = (n, a) :: l)
    (h3 : n + 1 ≤ s.resA.lastRep + 2) : ∃ b, ((s.settleScale .active v).vres .active v).scales = ((n + 1, b) :: (s.vres .active v).scales).take 4 := by
  unfold State.settleScale
  dsimp only
  rw [h2]
  dsimp only
  rw [if_neg (by show ¬s.resA.lastRep + 2 < n + 1; omega)]
  rw [State.vres_of ((State.bumpBy_within ..).resA_eq rfl) ((State.bumpBy_within ..).resN_eq rfl), State.vres_setVres]
  dsimp only
  rw [State.vres_setRes]
  exact ⟨_, congrArg (fun l => List.take 4 (_ :: l)) h2⟩
theorem State.resA_setRes (s : State) (r : Results) : (s.setRes .active r).resA = r := rfl
theorem State.storeCrop_shows (s : State) (i : Nat) (r : Rec) (k : Crop) :
    (s.storeCrop .active i r k).resA.out = setNth s.resA.out i ({ r with crop := none }.put 448 32 (s.rd Pg.MRG Rg.MRG_CROP_NEXT).toNat) := by
  unfold State.storeCrop
  dsimp only
  rw [State.resA_setRes]
  dsimp only
  rw [State.res_within (State.bump_within ..) rfl, ite_kept (fun s : State => s.res .active) (State.res_within (State.flag_within ..) rfl _), State.res_within (State.wr_within ..) rfl,
    State.res_within (State.drawnN_within ..) rfl, State.res_within (State.dramPut_within ..) rfl]
  rfl
theorem State.repeated_res (s : State) (c : Copy) (r : Results) (bits v k t : Nat) (w : Word) (y : RepSt) (l : List Nat) :
    (l.foldl (fun (s : State) (v : Nat) => s.defectFree c y v)
      ((if c = .active then ((s.setRes c r).rollMap bits |>.wr Pg.VRD Rg.VRD_LAST_REPEAT w).runRecord else ((s.setRes c r).rollMap bits).wr Pg.VRD Rg.VRD_LAST_REPEAT w).raiseLine
        evRepeatDone v k t)).res c = r := by
  rw [foldl_kept (fun s : State => s.res c) _ (fun s v => State.res_within (State.defectFree_within ..) rfl c), State.res_within (State.raiseLine_within ..) rfl,
    ite_kept (fun s : State => s.res c) (State.res_within (State.runRecord_within ..) rfl c), State.res_within (State.wr_within ..) rfl, State.res_within (State.rollMap_within ..) rfl,
    State.res_setRes]

theorem State.str_putStr (s : State) (n : Nat) (x : Stream) : (s.putStr n x).str_ n = x := tabGet_tabPut_same _ _ _ _
theorem State.dramPut_blank (s : State) (a : Nat) (l : List Byte) : (s.dramPut a l).blank = s.blank := by
  unfold State.dramPut
  split <;> rfl
theorem strOut_apart (n : Fin 7) : Pg.STR * 4096 + Rg.STR_S_OUT_CNT n ≠ Pg.STR * 4096 + (Fd.STR_S_STAT_SETTLED n).off := by revert n; decide
theorem State.streamOutput_eq {s : State} {n c : Nat} {o : SOut} {l : List SOut} (ho : (s.str_ n).outs = o :: l) (hc : c = (s.rd Pg.STR (Rg.STR_S_OUT_CNT n)).toNat) :
    ∃ x : State, x.stream = (s.putStr n { s.str_ n with outs := l }).stream ∧ (o.dest = 0 → x.mem = ((s.putStr n { s.str_ n with outs := l }).dramPut (o.base + c % Nat.max 1 o.slots * o.stride)
        (o.bytes.take 4 ++ leBytes 4 c ++ o.bytes.drop 8)).mem ∧ x.blank = s.blank) ∧
      s.streamOutput n = (x.wr Pg.STR (Rg.STR_S_OUT_CNT n) (BitVec.ofNat 32 (c + 1))).setBit Pg.STR (Fd.STR_S_STAT_SETTLED n) o.settled := by
  unfold State.streamOutput
  dsimp only
  rw [ho]
  dsimp only
  rw [← hc]
  have hb (y : State) : (if o.settled then y else y.bump Pg.DEC Fd.DEC_CNT1_b16).stream = y.stream ∧ (if o.settled then y else y.bump Pg.DEC Fd.DEC_CNT1_b16).mem = y.mem ∧
      (if o.settled then y else y.bump Pg.DEC Fd.DEC_CNT1_b16).blank = y.blank := by
    split
    · exact ⟨rfl, rfl, rfl⟩
    · exact ⟨(State.bump_within ..).stream_eq rfl, (State.bump_within ..).mem_eq rfl, (State.bump_within ..).blank_eq rfl⟩
  refine ⟨_, ?_, ?_, rfl⟩
  · rw [(hb _).1]
    have h1 (y : State) (line : List Byte) : (if o.dest = 0 then y else if (y.sendImage o.session line).2 then (y.sendImage o.session line).1
        else (y.sendImage o.session line).1.bump Pg.STR (Fd.STR_S_STAT_DROP n)).stream = y.stream := by
      split
      · rfl
      split
      · exact (State.sendImage_within ..).stream_eq rfl
      · rw [(State.bump_within ..).stream_eq rfl]; exact (State.sendImage_within ..).stream_eq rfl
    rw [h1]
    split
    · rfl
    · exact (State.dramPut_within ..).stream_eq rfl
  · intro h
    rw [(hb _).2.1, (hb _).2.2, if_pos h, if_neg (by omega)]
    exact ⟨rfl, (State.dramPut_blank ..)⟩

theorem State.wcpTake_good {s : State} {c : Nat} {m : WcpMsg} (h1 : s.netOn = true) (h2 : s.on Pg.NET Fd.NET_CTL_WCP_EN = true) (h3 : s.ethUp m.port = true)
    (h4 : s.wcpFramed m = true) (h5 : c = 0 ∨ s.wcpMacOk c m = true) : s.wcpTake c m = if s.net.wcpBusy.isSome then
      (if s.net.wcpQ.length < 16 then { s with net := { s.net with wcpQ := s.net.wcpQ ++ [(c, m)] } } else s.bump Pg.NET Fd.NET_WCP_CNT_b16) else s.wcpRun c m := by
  unfold State.wcpTake
  rw [h1, h2, h3, h4, if_neg (by decide)]
  refine if_neg ?_
  rcases h5 with h5 | h5
  · rw [h5, show ((0 : Nat) == wcpHello) = true from rfl, Bool.true_or]; decide
  · rw [h5, Bool.or_true]; decide
theorem State.wcpRun_fresh {s x : State} {c : Nat} {m : WcpMsg} (hc : c ≠ 0) (hn : (tabGet (dflt none) s.net.nonce m.keyId.val).getD s.net.floor < m.nonce)
    (hx : x = State.bump { s with net := { s.net with nonce := tabPut (dflt none) m.keyId.val (some m.nonce) s.net.nonce, resp := tabPut (dflt []) m.keyId.val [] s.net.resp } } Pg.NET Fd.NET_WCP_CNT_b0) :
    s.wcpRun c m = if c = wcpRegRead then (x.wcpRead m).1.wcpAnswer c m (x.wcpRead m).2
      else if c = wcpRegWrite then (x.wcpWrite m).1.wcpAnswer c m (x.wcpWrite m).2
      else if c = wcpJobCmd ∨ c = wcpModeCmd then (match x.wcpStart c m with
        | (y, some a) => y.wcpAnswer c m a
        | (y, none) => { y with net := { y.net with wcpBusy := some (c, m) } })
      else (x.wcpBulk c m).1.wcpAnswer c m (x.wcpBulk c m).2 := by
  unfold State.wcpRun
  rw [if_neg hc]
  dsimp only
  rw [if_neg (by omega), if_neg (by omega)]
  dsimp only at hx
  rw [← hx]
  generalize x.wcpStart c m = r
  obtain ⟨y, a⟩ := r
  cases a <;> rfl
theorem State.wcpFinish_eq {s : State} {b : Bool} {c : Nat} {m : WcpMsg} (h : s.net.wcpBusy = some (c, m)) : s.wcpFinish b =
    if s.wcpFinished c m then ((State.wcpAnswer { s with net := { s.net with wcpBusy := none } } c m { wcpOk with arg0 := s.wcpShows c }).wcpDrain 16)
    else if b then ((State.wcpAnswer { s with net := { s.net with wcpBusy := none } } c m { wcpIsBusy with arg0 := s.wcpShows c }).wcpDrain 16) else s := by
  unfold State.wcpFinish
  rw [h]

theorem pageList_length : pageList.length = 81 := by decide
theorem State.lockMap_holder (s : State) (p i n : Nat) (hi : i < 81) : (s.setFld Pg.SYS ⟨Rg.SYS_LOCK_MAP (i / 32), i % 32, 1⟩ n).lockHolder p = s.lockHolder p :=
  State.fld_setFld_off _ _ (by show 0x0AC + 0x4 * (i / 32) ≠ 0x018; omega) (by show 0x0AC + 0x4 * (i / 32) < 4096; omega) (by decide)
theorem State.setLock_holder (s : State) (p c : Nat) (hc : c < 8) : (s.setLock p c).lockHolder p = c := by
  have h1 : ((s.setFld p Fd.HDR_LOCK_HOLDER c).setBit p Fd.HDR_LOCK_HELD (c != 0)).lockHolder p = c := by
    unfold State.lockHolder State.setBit
    rw [State.fld_setFld_p (by decide) (by decide)]
    exact State.fld_fits (by decide) hc
  unfold State.setLock
  dsimp only
  split
  · exact h1
  · rename_i i hi
    obtain ⟨hl, -, -⟩ := List.findIdx?_eq_some_iff_getElem.mp hi
    rw [pageList_length] at hl
    unfold State.setBit at h1 ⊢
    rw [State.lockMap_holder _ _ _ _ hl, h1]
theorem State.setLock_lockAt (s : State) (p c : Nat) : (s.setLock p c).lockAt = s.lockAt := by
  unfold State.setLock State.setBit
  dsimp only
  split <;> simp only [State.setFld_lockAt]
theorem State.lockHolder_touch (s : State) (o : Owner) (p q : Nat) : (s.touch o p).lockHolder q = s.lockHolder q := State.fld_of (State.touch_regs ..) ..
theorem State.logWord_touch (s : State) (o : Owner) (p i : Nat) : (s.touch o p).logWord i = s.logWord i := by
  unfold State.logWord
  rw [State.touch_log, State.fld_of (State.touch_regs ..)]
theorem logAckDef : regDefAt (Pg.SUPV0 * 4096 + Rg.SUPV0_LOG_ACK) = some ⟨0x07C, 0x00000000, 0xFFFFFFFF, 0x00000000, 0x00000000, 0x00000000, 0x00000000⟩ := by decide
theorem ownerCode_lt (o : Owner) : ownerCode o < 8 := by cases o <;> decide
theorem mem_insertBy {α : Type} (key : α → Nat) (a : α) (l : List α) : a ∈ insertBy key a l := by
  induction l with
  | nil => exact List.mem_singleton.mpr rfl
  | cons b t ih =>
    unfold insertBy
    split
    · exact List.mem_cons_self
    · exact List.mem_cons_of_mem _ ih
theorem State.lockCmd_eq {s : State} {o : Owner} {p : Nat} {w : Word} (h1 : s.reaches o p = true) (h2 : (pageAt p).isSome = true) :
    s.lockCmd o p w = s.lockWrite o 0 p w := if_pos (by rw [h1, h2]; rfl)
theorem pinPage_ne (b : Nat) : pinPage b ≠ Pg.PCIE := by unfold pinPage; split <;> decide
theorem State.pinFlag_flag (s : State) (b k : Nat) (hk : k < 32) : (s.pinFlag b k).on (pinPage b) ⟨Rg.PINS0_PIN_STAT, k, 1⟩ = true :=
  State.on_flag_self (f := ⟨Rg.PINS0_PIN_STAT, k, 1⟩) (pinPage_ne b) (show plainAt Rg.PINS0_PIN_STAT by decide) (by show k + 1 ≤ 32; omega) (Nat.one_ne_zero)
theorem State.pinFlag_rd (s : State) (b k : Nat) {off : Nat} (h : off ≠ Rg.PINS0_PIN_STAT) (hp : plainAt off) : (s.pinFlag b k).rd (pinPage b) off = s.rd (pinPage b) off :=
  State.flag_at (f := ⟨Rg.PINS0_PIN_STAT, k, 1⟩) (not_headOf (pinPage_ne b) hp) (off_ne h)
theorem State.cmtSel_touch (s : State) (o : Owner) (p : Nat) : (s.touch o p).cmtSel = s.cmtSel := by
  unfold State.cmtSel State.cmt
  rw [State.touch_cmtRec, State.fld_of (State.touch_regs ..), State.fld_of (State.touch_regs ..)]

theorem State.txBytes_arp (s : State) (n b : Nat) : (s.txBytes n b).net.arp = s.net.arp := by
  unfold State.txBytes; dsimp only; rw [State.bumpBy_net]
theorem State.countTx_arp (s : State) (n b : Nat) : (s.countTx n b).net.arp = s.net.arp := by
  unfold State.countTx; rw [State.txBytes_arp, State.bump_net]
theorem State.txBytes_sess (s : State) (n b : Nat) : (s.txBytes n b).net.sess = s.net.sess := by
  unfold State.txBytes; dsimp only; rw [State.bumpBy_net]
theorem State.countTx_sess (s : State) (n b : Nat) : (s.countTx n b).net.sess = s.net.sess := by
  unfold State.countTx; rw [State.txBytes_sess, State.bump_net]
theorem State.countTx_out (s : State) (n b : Nat) : (s.countTx n b).out = s.out := by
  unfold State.countTx State.txBytes; dsimp only; rw [State.bumpBy_out, State.bump_out]
theorem State.arpRequest_arp (s : State) (n ip : Nat) : (s.arpRequest n ip).net.arp = s.net.arp := by
  unfold State.arpRequest
  split
  · rw [State.bump_net, State.countTx_arp, State.emit_net]
  · rfl
theorem State.arpRequest_sess (s : State) (n ip : Nat) : (s.arpRequest n ip).net.sess = s.net.sess := by
  unfold State.arpRequest
  split
  · rw [State.bump_net, State.countTx_sess, State.emit_net]
  · rfl
theorem State.arpRequest_out {s : State} {n : Nat} (ip : Nat) (h : s.ethSends n = true) : (s.arpRequest n ip).out = s.out ++ [.arp n 1 0 ip] := by
  unfold State.arpRequest
  rw [if_pos h, State.bump_out, State.countTx_out, State.emit_out]
theorem State.arpOf_setArp {s : State} {n ip : Nat} {e : ArpEntry} (e' : ArpEntry) (h : s.arpOf n ip = some e) (hp : e'.port = n) (hi : e'.ip = ip) :
    (s.setArp n ip (some e')).arpOf n ip = some e' := by
  unfold State.arpOf at h
  have hm : s.net.arp.any (fun x => x.port == n && x.ip == ip) = true := List.any_eq_true.mpr ⟨e, List.mem_of_find?_eq_some h, List.find?_some (p := fun e : ArpEntry => e.port == n && e.ip == ip) h⟩
  unfold State.arpOf State.setArp
  dsimp only
  rw [if_pos hm]
  clear hm
  generalize s.net.arp = l at h
  induction l with
  | nil => exact absurd h (by simp)
  | cons a t ih =>
    rw [List.map_cons, List.find?_cons]
    rw [List.find?_cons] at h
    by_cases ha : (a.port == n && a.ip == ip) = true
    · rw [if_pos ha]
      simp [hp, hi]
    · rw [if_neg ha]
      rw [Bool.not_eq_true] at ha
      rw [ha] at h ⊢
      exact ih h
theorem State.arpOf_setArp_none (s : State) (n ip : Nat) : (s.setArp n ip none).arpOf n ip = none := by
  unfold State.arpOf State.setArp
  dsimp only
  rw [List.find?_eq_none]
  intro x hx
  have := (List.mem_filter.mp hx).2
  cases hq : (x.port == n && x.ip == ip)
  · decide
  · rw [hq] at this; exact absurd this (by decide)
theorem State.arpOf_same {s : State} {n ip : Nat} {e : ArpEntry} (h : s.arpOf n ip = some e) : e.port = n ∧ e.ip = ip := by
  unfold State.arpOf at h
  have := List.find?_some (p := fun e : ArpEntry => e.port == n && e.ip == ip) h
  simpa using this
theorem State.hopMac_group {s : State} {n ip : Nat} (h : isGroup ip = true) : s.hopMac n ip = (s, some (groupMac ip)) := by
  unfold State.hopMac; rw [if_pos h]
theorem State.hopMac_hit {s : State} {n ip : Nat} {e : ArpEntry} (h : isGroup ip = false) (he : s.arpOf n (s.nextHop n ip) = some e) : s.hopMac n ip = (s, e.mac) := by
  unfold State.hopMac; dsimp only; rw [if_neg (by rw [h]; decide), he]
theorem State.hopMac_miss {s : State} {n ip : Nat} (h : isGroup ip = false) (he : s.arpOf n (s.nextHop n ip) = none) :
    s.hopMac n ip = if s.net.arp.length < 1088 then ((s.arpRequest n (s.nextHop n ip)).setArp n (s.nextHop n ip) (some ⟨n, s.nextHop n ip, none, some 1⟩), none)
      else (s, none) := by
  unfold State.hopMac; dsimp only; rw [if_neg (by rw [h]; decide), he]
theorem State.frameRx_go {s : State} {n : Nat} {f : RxFrame} (h1 : s.ethUp n = true) (h2 : f.fcsOk = true) (h3 : f.lenOk = true) (h4 : s.rxTakes n f = true) :
    ∃ x : State, x.regs = ((s.bump (Pg.ETH n) (whole Rg.ETH_RX_FRM)).bumpBy (Pg.ETH n) (whole Rg.ETH_RX_BYTES) ((tabGet (dflt 0) s.net.rxRem n + f.bytes) / 4096)).regs ∧
      x.out = s.out ∧ s.frameRx n f = if f.type = 0x0800 ∧ f.proto = 17 then x.bump Pg.NET (whole Rg.NET_RX_DGRAM) else x := by
  generalize hy : (s.bump (Pg.ETH n) (whole Rg.ETH_RX_FRM)).bumpBy (Pg.ETH n) (whole Rg.ETH_RX_BYTES) ((tabGet (dflt 0) s.net.rxRem n + f.bytes) / 4096) = y
  have e : s.frameRx n f = if f.type = 0x0800 ∧ f.proto = 17 then
      State.bump { y with net := { y.net with rxRem := tabPut (dflt 0) n ((tabGet (dflt 0) s.net.rxRem n + f.bytes) % 4096) y.net.rxRem } } Pg.NET (whole Rg.NET_RX_DGRAM)
      else { y with net := { y.net with rxRem := tabPut (dflt 0) n ((tabGet (dflt 0) s.net.rxRem n + f.bytes) % 4096) y.net.rxRem } } := by
    unfold State.frameRx; dsimp only; rw [if_neg (by rw [h1]; decide), if_neg (by rw [h2]; decide), if_neg (by rw [h3]; decide), if_pos h4, hy]
  refine ⟨_, ?_, ?_, e⟩
  · rfl
  · dsimp only; rw [← hy, State.bumpBy_out, State.bump_out]
theorem State.arpIn_go {s x : State} {n : Nat} {m : ArpMsg} (h : s.ethUp n = true)
    (hx : x = (if (s.arpOf n m.spa).isSome ∨ (m.tpa = s.ownIp n ∧ s.net.arp.length < 1088) then s.setArp n m.spa (some ⟨n, m.spa, some m.sha, none⟩) else s)) :
    s.arpIn n m = if m.op = 1 ∧ m.tpa = s.ownIp n ∧ s.ethSends n = true then (x.emit (.arp n 2 m.sha m.spa)).countTx n 42 else x := by
  have e : (if ((s.arpOf n m.spa).isSome || (m.tpa == s.ownIp n && decide (s.net.arp.length < 1088))) = true then
      s.setArp n m.spa (some ⟨n, m.spa, some m.sha, none⟩) else s) = x := by
    rw [hx]
    refine if_congr ?_ rfl rfl
    simp
  have hs : x.ethSends n = s.ethSends n := by
    rw [hx]; split <;> rfl
  unfold State.arpIn
  dsimp only
  rw [if_neg (by rw [h]; decide), e, hs]
  refine if_congr ?_ rfl rfl
  simp
theorem State.echoIn_go {s : State} {n ip id seq : Nat} {data : List Byte} (h : s.ethSends n = true) (h2 : s.on (Pg.ETH n) Fd.ETH_IP_CTL_ICMP_EN = true) :
    s.echoIn n ip id seq data = match s.hopMac n ip with
    | (s, some _) => ((s.emit (.echo n ip id seq data)).countTx n (42 + data.length)).bump (Pg.ETH n) (whole Rg.ETH_ICMP_CNT)
    | (s, none) => s := if_pos (by rw [h, h2]; rfl)
theorem State.fld_countTx_off (s : State) {n b q : Nat} {g : Fld} (h1 : g.off ≠ Rg.ETH_TX_FRM) (h2 : g.off ≠ Rg.ETH_TX_BYTES) (hg : g.off < 4096) :
    (s.countTx n b).fld q g = s.fld q g := by
  unfold State.countTx State.txBytes
  dsimp only
  unfold State.fld State.rd
  dsimp only
  show ((s.bump (Pg.ETH n) (whole Rg.ETH_TX_FRM)).bumpBy (Pg.ETH n) (whole Rg.ETH_TX_BYTES) _).fld q g = s.fld q g
  exact ((State.fld_setFld_off _ _ (Ne.symm h2) (by decide) hg).trans (State.fld_bump_off _ (Ne.symm h1) (by decide) hg))
theorem State.hopMac_sess (s : State) (n ip : Nat) : (s.hopMac n ip).1.net.sess = s.net.sess := by
  cases hg : isGroup ip with
  | true => rw [State.hopMac_group hg]
  | false =>
    cases he : s.arpOf n (s.nextHop n ip) with
    | some e => rw [State.hopMac_hit hg he]
    | none =>
      rw [State.hopMac_miss hg he]
      split
      · exact State.arpRequest_sess s n _
      · rfl
theorem State.pushFrame_sess (s : State) (k q : Nat) (d : List Byte) : (s.pushFrame k q d).1.net.sess = s.net.sess := by
  unfold State.pushFrame
  dsimp only
  split
  · rfl
  · have h := State.hopMac_sess s (s.sePort k) (s.seIp k)
    revert h
    generalize s.hopMac (s.sePort k) (s.seIp k) = r
    obtain ⟨y, a⟩ := r
    intro h
    cases a with
    | none => exact h
    | some mac =>
      dsimp only at h ⊢
      have h2 : (y.qRequest q 2 (frameWords (y.sessFrame k mac d)).length false).1.net = y.net := (State.qRequest_within ..).net_eq rfl
      revert h2
      generalize y.qRequest q 2 (frameWords (y.sessFrame k mac d)).length false = r
      obtain ⟨z, b⟩ := r
      intro h2
      cases b with
      | false => exact (congrArg Net.sess h2).trans h
      | true =>
        refine Eq.trans ?_ ((congrArg Net.sess h2).trans h)
        exact foldl_kept (fun x : State => x.net.sess) _ (fun _ _ => congrArg Net.sess ((State.qPush_within ..).net_eq rfl)) _ _
theorem State.sess_of {s t : State} (h : t.net.sess = s.net.sess) (k : Nat) : t.sess k = s.sess k := by unfold State.sess; rw [h]
theorem State.dramPut_net (s : State) (a : Nat) (l : List Byte) : (s.dramPut a l).net = s.net := (State.dramPut_within ..).net_eq rfl
theorem State.histPut_fill (s : State) (k c : Nat) (d : List Byte) : ((s.histPut k c d).sess k).fill = (s.sess k).fill := by
  unfold State.histPut
  dsimp only
  rw [State.sess_putSess]
theorem State.placeDgram_fill (s : State) (k a b c : Nat) (l : Bool) (p : List Byte) : ((s.placeDgram k a b c l p).1.sess k).fill = (s.sess k).fill := by
  unfold State.placeDgram
  dsimp only
  have h := State.pushFrame_sess s k (s.sessQueue k) (leBytes 32 (wrpHeader a k (s.sess k).seq s.time b c false (s.sess k).first l) ++ p)
  revert h
  generalize s.pushFrame k _ _ = r
  obtain ⟨y, b⟩ := r
  intro h
  cases b with
  | false => exact congrArg Sess.fill (State.sess_of h k)
  | true =>
    show ((State.putSess _ k _).sess k).fill = _
    rw [State.sess_putSess]
    dsimp only
    rw [State.histPut_fill, State.sess_of h]
theorem State.sessLose_fill (s : State) (k a b : Nat) : ((s.sessLose k a b).sess k).fill = (s.sess k).fill := by
  unfold State.sessLose
  dsimp only
  generalize hx : ({ s.sess k with lost := some (((s.sess k).lost.getD (0, 0)).1 + a, ((s.sess k).lost.getD (0, 0)).2 + b), loss := satN 16 ((s.sess k).loss + a + b) } : Sess) = x
  refine Eq.trans (b := ((s.putSess k x).sess k).fill) ?_ ?_
  · refine congrArg Sess.fill (State.sess_of ?_ k)
    rw [State.bumpBy_net, State.bumpBy_net]
  · rw [State.sess_putSess, ← hx]
theorem State.placeRecords_fill (s : State) (k : Nat) (l : List Nat) : ((s.placeRecords k l).1.sess k).fill = (s.sess k).fill := by
  unfold State.placeRecords
  dsimp only
  have h := State.placeDgram_fill s k kRecords ((s.owedGaps k).length + l.length) 0 false (recBytes (s.owedGaps k ++ l))
  revert h
  generalize s.placeDgram k _ _ _ _ _ = r
  obtain ⟨y, b⟩ := r
  intro h
  cases b with
  | false => exact (State.sessLose_fill ..).trans h
  | true =>
    refine Eq.trans ?_ h
    show ((State.bumpBy _ _ _ _).sess k).fill = _
    rw [State.sess_of (congrArg Net.sess (State.bumpBy_net ..)), State.sess_putSess]

end Sys2Proof.Machine
end

