-- ==== Sys2Proof/WellFormed.lean ====
section
/-!
DEFINITION. Which commands are well formed: a command that names a written bit has that bit in its word, a mode request has its
TARGET, a page index names a page, a number that arrives in a message field fits it, and a DFE has five taps at most. The meanings do not rest on this:
an ill-formed command has the effect of the word or number that it carries.
-/
namespace Sys2Proof

/-- A bit of a written word. -/
def bitSet (w : Word) (k : Nat) : Bool := w.toNat / 2 ^ k % 2 == 1

/-- A field of a written word. -/
def field (w : Word) (lo len : Nat) : Nat := w.toNat / 2 ^ lo % 2 ^ len

/-- Whether a page index names a page (Table — Page map). -/
def isPage (p : Nat) : Bool := (Machine.pageAt p).isSome

/-- Whether a request's numbers fit the fields of Table — WCP header. -/
def WcpMsg.wellFormed (m : WcpMsg) : Bool :=
  decide (m.ip < 2 ^ 32) && decide (m.udp < 2 ^ 16) && decide (m.magic < 2 ^ 16) && decide (m.version < 16) && decide (m.len < 2 ^ 16) &&
  decide (m.nonce < 2 ^ 64) && decide (m.arg0 < 2 ^ 32) && decide (m.arg1 < 2 ^ 32) && decide (m.arg2 < 2 ^ 64) && decide (m.mac < 2 ^ 128)

/-- Whether a command is well formed. -/
def Instr.wellFormed : Instr → Bool
  | .modeReqIdle _ w => bitSet w 8 && field w 0 3 == 1
  | .modeReqSetup _ w => bitSet w 8 && field w 0 3 == 2
  | .modeReqRelearn _ w => bitSet w 8 && field w 0 3 == 3
  | .modeReqInspect _ w => bitSet w 8 && field w 0 3 == 4
  | .modeReqLegacy _ w => bitSet w 8 && field w 0 3 == 6
  | .modeReqHold _ w => bitSet w 8 && field w 0 3 == 7
  | .jobEndAtBoundary _ => true
  | .jobOpen _ w => bitSet w 8
  | .jobValidate _ w => bitSet w 9
  | .validationDone => true
  | .jobLoadNext _ w => bitSet w 10
  | .loadNextDone => true
  | .jobCancelNext _ w => bitSet w 11
  | .jobDelete _ w => bitSet w 12
  | .chgArm _ w => bitSet w 8
  | .chgCancel _ w => bitSet w 9
  | .enteringViewStart _ => true
  | .changeoverComplete => true
  | .encCount _ _ _ => true
  | .ssiRead _ _ _ => true
  | .encIndex _ _ => true
  | .standstill _ _ => true
  | .triggerIssue _ _ => true
  | .tgLineLoRead _ _ => true
  | .linePacket _ _ _ => true
  | .statusPacket _ _ _ => true
  | .regResp _ _ _ => true
  | .laneLockGained _ x => decide (x.codes.dfe.length ≤ 5)
  | .laneLockLost _ _ => true
  | .alignMarker _ _ => true
  | .heartbeat _ => true
  | .statusTimeout _ => true
  | .camAccGo _ _ w => bitSet w 25
  | .camRegTimeout _ => true
  | .noCameraTimeout _ => true
  | .linkBaseResend _ => true
  | .lockTimeout _ => true
  | .trainTimeout _ => true
  | .alignTimeout _ => true
  | .failedRetry _ => true
  | .trainingOrderedSet _ _ => true
  | .trainScanStart _ x => decide (x.codes.dfe.length ≤ 5)
  | .trainScanDone _ _ x => decide (x.codes.dfe.length ≤ 5)
  | .eqReqResend _ _ => true
  | .eyeScanDone _ _ x => decide (x.codes.dfe.length ≤ 5)
  | .recalPeriod _ _ => true
  | .jokerCalNow _ _ w => field w 8 4 != 0
  | .jokerMatched x => decide (x.codes.dfe.length ≤ 5)
  | .jokerMatchTimeout _ => true
  | .mainSliceCalDone _ _ _ => true
  | .mainSliceMatched x => decide (x.codes.dfe.length ≤ 5)
  | .jokerRelease _ _ w => bitSet w 5
  | .jokerForce _ _ w => bitSet w 4
  | .tapDeadline _ _ => true
  | .ffGo _ _ w => bitSet w 10
  | .ffAcquireDone _ => true
  | .dispatchGrant _ => true
  | .contextLoadDone _ => true
  | .ppCorrectLine _ => true
  | .stitchViewLine _ => true
  | .dotGridGo _ w => bitSet w 7
  | .dotGridDone => true
  | .tblDataAccess _ _ _ => true
  | .regWindowDone _ _ => true
  | .regUpdate _ => true
  | .fineShift _ => true
  | .masterFetch _ _ _ _ _ _ => true
  | .reduceBlockRow _ => true
  | .artPredict _ w => bitSet w 6
  | .artPredictDone => true
  | .tableFit _ => true
  | .adaptFold _ => true
  | .ieCompareLine _ => true
  | .bandEmit _ => true
  | .mrgMergeBand _ _ => true
  | .cropStore => true
  | .recordSend => true
  | .ruleEvaluate => true
  | .cscaleStep _ => true
  | .cellVerdict => true
  | .repeatVerdict => true
  | .decsyncEdge _ _ => true
  | .decSyncWrite _ w => bitSet w 0
  | .streamRestart _ _ w => bitSet w 2
  | .streamResetBoundary _ => true
  | .streamOutput _ => true
  | .timeLoRead _ => true
  | .offsetHiWrite _ _ => true
  | .rateHiWrite _ _ => true
  | .todSecHiWrite _ _ => true
  | .ppsInEdge _ => true
  | .ppsMissing _ => true
  | .holdoverExpiry => true
  | .tbrefLost => true
  | .ppsOutSecond _ => true
  | .ptpSyncSend _ _ => true
  | .ptpAnnounceSend _ _ => true
  | .delayReqRx _ _ _ _ _ _ => true
  | .pdelayReqRx _ _ _ _ _ _ => true
  | .announceRx _ _ _ _ => true
  | .foreignTimeout _ => true
  | .crlEnable _ w => bitSet w 0
  | .slotFire _ _ => true
  | .pulseEnd _ _ => true
  | .slotWrite _ _ _ _ _ => true
  | .bankCycleWrite _ _ _ => true
  | .crlSwitch _ w => bitSet w 1
  | .bankSwitchBoundary _ => true
  | .calInsert _ w => bitSet w 0
  | .calEntryFire _ _ => true
  | .calFlush _ w => bitSet w 2
  | .evioEdge _ _ _ => true
  | .swFire _ w => bitSet w 5
  | .channelFire _ => true
  | .taskDeliver => true
  | .taskPendingStart _ => true
  | .evioPulseEnd _ _ => true
  | .relayEmit _ => true
  | .dataTaskEffect => true
  | .channelWrite _ _ _ _ => true
  | .groupStateWrite _ _ => true
  | .queueCreditRequest _ _ _ _ => true
  | .queuePush _ _ _ _ _ _ => true
  | .queuePop _ _ => true
  | .queuePoll _ _ => true
  | .extMove _ _ => true
  | .bankGrant _ _ => true
  | .qfApply _ w => bitSet w 0
  | .hqCredReq _ w => bitSet w 16
  | .hqPush _ _ => true
  | .hqPop _ _ => true
  | .lvlNextRead _ => true
  | .dmaArm _ w => bitSet w 0
  | .dmaPause _ w => bitSet w 1
  | .dmaResume _ w => !bitSet w 1
  | .dmaAbort _ w => bitSet w 2
  | .dmaBurstGrant => true
  | .dmaBurstDone _ _ => true
  | .dmaBurstError _ _ => true
  | .dramAccessGrant _ _ _ => true
  | .rowIdleClose _ _ => true
  | .refreshWindow _ => true
  | .eccInit _ w => field w 0 8 != 0
  | .eccInitDone _ => true
  | .retrain _ w => bitSet w 0
  | .retrainDone _ => true
  | .zipRingHeadWrite _ _ => true
  | .zipChunkGrant _ => true
  | .zipJobDone => true
  | .frameRx _ _ => true
  | .arpPacket _ _ => true
  | .arpRefresh _ _ => true
  | .arpRetry _ _ => true
  | .icmpEcho _ _ _ _ _ => true
  | .datagramFlush _ => true
  | .wrpNack _ _ _ _ _ _ _ => true
  | .statusDatagram _ _ => true
  | .sessApply _ w => bitSet w 16
  | .sessApplyRepeat => true
  | .wcpHello m => m.wellFormed
  | .wcpRegRead m => m.wellFormed
  | .wcpRegWrite m => m.wellFormed
  | .wcpJobCmd m => m.wellFormed
  | .wcpModeCmd m => m.wellFormed
  | .wcpCmdResponse _ => true
  | .wcpBulkWrite m => m.wellFormed
  | .wcpBulkRead m => m.wellFormed
  | .wcpBulkCrc m => m.wellFormed
  | .keyDataWrite _ _ => true
  | .keyClear _ w => bitSet w 8
  | .wx8StatusRequest _ _ _ => true
  | .bar2Write _ _ => true
  | .bar2Read _ _ => true
  | .perst => true
  | .pcieLinkDown _ => true
  | .hostLoadGo _ w _ _ _ => bitSet w 31
  | .twlGo _ _ w => bitSet w 25
  | .twlCmdDone _ _ _ => true
  | .twlRetry _ => true
  | .twlAbort _ _ w => bitSet w 26
  | .twlReset _ _ w => bitSet w 14
  | .twlBusClear _ _ => true
  | .twlTimingWrite _ _ _ _ => true
  | .twlTargetXfer _ _ _ => true
  | .sclStretchTimeout _ => true
  | .mtwiAddress _ => true
  | .mtwiRegCmd _ _ _ => true
  | .mtwiMboxCmd _ _ _ => true
  | .leaseTimeout p => isPage p
  | .hostLeaseTimeout _ _ => true
  | .stageResetCheck p _ => isPage p
  | .lockToExpiry p _ => isPage p
  | .drainComplete => true
  | .faultClr _ w => bitSet w 2
  | .logAckWrite _ _ => true
  | .logData0Read _ => true
  | .porstAssert => true
  | .coldBoot _ _ => true
  | .srstAssert => true
  | .warmBoot _ => true
  | .bootRelease _ _ _ _ => true
  | .fuseProg _ w => bitSet w 31
  | .qspiCmd _ w => bitSet w 31
  | .calCtlGo _ w => bitSet w 8
  | .periodicCal _ => true
  | .calAttemptDone _ _ _ _ _ => true
  | .tempRead _ _ => true
  | .supplyRead _ _ => true
  | .headroomSample _ _ => true
  | .avsPeriod _ _ _ => true
  | .mbistGo _ w => bitSet w 0
  | .mbistDone _ => true
  | .tapInstruction _ => true
  | .testLogicReset => true
  | .commitReq _ p w => isPage p && bitSet w 0
  | .commitEffect p => isPage p
  | .lockAcquire _ p w => isPage p && bitSet w 0
  | .lockRelease _ p w => isPage p && bitSet w 1
  | .pageSrst _ p w => isPage p && bitSet w 1
  | .pageSrstDone p => isPage p
  | .registerWrite _ addr _ => addr % 4 == 0 && decide (addr < 2 ^ 24)
  | .cmtLineLoRead _ => true
  | .manEnWrite _ _ _ => true
  | .pinGuardWrite _ _ _ => true
  | .ethLinkLost _ => true
  | .ethLinkUp _ => true
  | .pcieLinkUp _ _ _ => true
  | .twlArbLost _ _ => true
  | .qspiCmdDone _ _ => true
  | .clkLockLost _ => true

end Sys2Proof
end

