-- ==== Sys2Proof/Tests/Slice0.lean ====
section
/-!
SUPPORT. Tests: ill-formed commands are refused by the check; states and operands that meet the hypotheses of every clause of every
statement; and single steps whose results the specification's own numbers give.
-/
namespace Sys2Proof.Tests
open Sys2Proof Sys2Proof.Machine

/- One theorem at a time: the kernel's evaluations below would else wait for each other, each on a thread of its own. -/
set_option Elab.async false

/-! ### Small states -/

/-- The reset state in a mode. -/
def at_ (m : Mode) : State := State.reset.setFld Pg.SYS Fd.SYS_MODE_MODE m.code

/-- A field of a state set. -/
abbrev set (s : State) (p : Nat) (f : Fld) (n : Nat) : State := s.setFld p f n

/-! ### Witnesses: position -/

def wPos (m : Nat) : State := set (at_ .inspect) Pg.POS (Fd.POS_CH_CTL_MODE 0) m
def wReplay : State := (wPos 3).setChan 0 { replay := [(7, true)] }

theorem test_wit_encoderCount :
    ((wPos 1).mode ≠ .boot ∧ (wPos 1).on Pg.POS Fd.HDR_PAGE_CTL_EN = true ∧ (wPos 1).fld Pg.POS (Fd.POS_CH_CTL_MODE 0) = 1) ∧
    (wReplay.mode ≠ .boot ∧ wReplay.on Pg.POS Fd.HDR_PAGE_CTL_EN = true ∧ wReplay.fld Pg.POS (Fd.POS_CH_CTL_MODE 0) = 3 ∧
      (wReplay.chanOf 0).replay = (7, true) :: []) := by decide +kernel

def wCount (n : Nat) : State :=
  (List.range 4).foldl (fun s v => set s Pg.POS (Fd.POS_TG_CTL_SRC v) 1)
    (((wPos 1).wr Pg.POS (Rg.POS_CH_CPR 0) 4).wr Pg.POS (Rg.POS_CH_COUNT 0) (BitVec.ofNat 32 n))

theorem test_wit_positionCounter (n : Fin 4) :
    let s := wCount n
    s.mode ≠ .boot ∧ s.on Pg.POS Fd.HDR_PAGE_CTL_EN = true ∧ s.fld Pg.POS (Fd.POS_CH_CTL_MODE 0) = 1 ∧
    s.on Pg.POS (Fd.POS_CH_CTL_INVERT_DIR 0) = false ∧ s.tgsOf 0 = [] ∧ s.acts = [] ∧
    2 ≤ (s.rd Pg.POS (Rg.POS_CH_CPR 0)).toNat ∧ (s.rd Pg.POS (Rg.POS_CH_COUNT 0)).toNat < (s.rd Pg.POS (Rg.POS_CH_CPR 0)).toNat := by
  revert n; decide +kernel

def wSsi (x : Option Nat) : State :=
  (set (set (wPos 3) Pg.POS (Fd.POS_CH_SSI_CTL_BITS 0) 12) Pg.POS (Fd.POS_CH_SSI_CTL_READ_PERIOD 0) 4000).setChan 0 { ssi := x }
def wIndex (i : Nat) (x : Chan) : State := (set (wPos 1) Pg.POS (Fd.POS_CH_CTL_INDEX 0) i).setChan 0 x
def wStill (b : Nat) : State := (set (wPos 1) Pg.POS (Fd.POS_CH_STAT_STANDSTILL 0) b).setChan 0 { last := some (5, false) }

theorem test_wit_ssi :
    let s := wSsi (some 5)
    let bits := s.fld Pg.POS (Fd.POS_CH_SSI_CTL_BITS 0)
    let period := s.fld Pg.POS (Fd.POS_CH_SSI_CTL_READ_PERIOD 0)
    ((wSsi none).mode ≠ .boot ∧ (wSsi none).fld Pg.POS (Fd.POS_CH_CTL_MODE 0) = 3 ∧ (wSsi none).fld Pg.POS (Fd.POS_CH_SSI_CTL_BITS 0) ≠ 0 ∧ ((wSsi none).chanOf 0).ssi = none) ∧
    s.mode ≠ .boot ∧ s.fld Pg.POS (Fd.POS_CH_CTL_MODE 0) = 3 ∧ bits ≠ 0 ∧ (s.chanOf 0).ssi = some 5 ∧ s.on Pg.POS (Fd.POS_CH_SSI_CTL_GRAY 0) = false ∧
    (((2 ^ bits : Int) ∣ (1005 - 5 - 1000) ∧ -(2 ^ (bits - 1) : Int) < 1000 ∧ (1000 : Int) ≤ 2 ^ (bits - 1) ∧ 1005 < 2 ^ bits ∧ 5 < 2 ^ bits) ∧
      4 * (1000 : Int).natAbs ≤ period) ∧
    ((2 ^ bits : Int) ∣ (1006 - 5 - 1001) ∧ (1001 : Int) ≤ 2 ^ (bits - 1) ∧ period < 4 * (1001 : Int).natAbs) := by decide +kernel

theorem test_wit_index :
    ((wIndex 0 {}).mode ≠ .boot ∧ (wIndex 0 {}).fld Pg.POS (Fd.POS_CH_CTL_MODE 0) ≠ 0 ∧ (wIndex 0 {}).fld Pg.POS (Fd.POS_CH_CTL_INDEX 0) ≠ 1) ∧
    (∀ x ∈ [({} : Chan), { homed := true, wrapped := true }, { homed := true }], (wIndex 1 x).mode ≠ .boot ∧
      (wIndex 1 x).fld Pg.POS (Fd.POS_CH_CTL_MODE 0) ≠ 0 ∧ (wIndex 1 x).fld Pg.POS (Fd.POS_CH_CTL_INDEX 0) = 1 ∧
      (wIndex 1 x).on Pg.POS (Fd.POS_CH_STAT_DIR 0) = false ∧ ((wIndex 1 x).chanOf 0).wrapAt ≠ some 9 ∧ (wIndex 1 x).chanOf 0 = x) := by decide +kernel

theorem test_wit_standstillAndLineRead :
    ((wStill 0).mode ≠ .boot ∧ ((wStill 0).chanOf 0).last = some (5, false) ∧ 5 + 100000 * (wStill 0).fld Pg.POS (Fd.POS_CH_SPEED_CTL_STILL_MS 0) ≤ 1000000000 ∧
      6 < 5 + 100000 * (wStill 0).fld Pg.POS (Fd.POS_CH_SPEED_CTL_STILL_MS 0) ∧ (wStill 0).on Pg.POS (Fd.POS_CH_STAT_STANDSTILL 0) = false) ∧
    ((wStill 1).mode ≠ .boot ∧ ((wStill 1).chanOf 0).last = some (5, false) ∧ (wStill 1).on Pg.POS (Fd.POS_CH_STAT_STANDSTILL 0) = true) ∧
    (at_ .idle).reaches .host Pg.POS = true := by decide +kernel

/-- View 1 with a due trigger of line 3, and port 0 in its run. -/
def wTrigger : State :=
  { at_ .inspect with
    tg := [(1, { waiting := some (3, 20, 0), next := 4, running := true })], view := [(1, { first := 2 })], intake := [(0, { next := some 3, view := 1, run := 2 })] }

theorem test_wit_trigger : (wTrigger.tgOf 1).waiting = some (3, 20, 0) ∧ wTrigger.mode ≠ .boot ∧ (wTrigger.tgOf 0).waiting = none ∧
    ∀ p, (wTrigger.intk p).next = none ∨ ((wTrigger.intk p).view = 1 ∧ (wTrigger.intk p).run = (wTrigger.view_ 1).first) := by
  refine ⟨by decide +kernel, by decide +kernel, by decide +kernel, fun p => ?_⟩
  cases p with
  | zero => exact .inr (by decide +kernel)
  | succ n => exact .inl (by unfold State.intk tabGet; simp [wTrigger, tabGet, dflt])
/-! ### Witnesses: timebase -/

def wTb (servo stepped state : Nat) : State :=
  set (set (set (at_ .idle) Pg.TB Fd.TB_CTL_SERVO_EN servo) Pg.TB Fd.TB_STAT_STEPPED stepped) Pg.TB Fd.TB_STAT_STATE state

theorem test_wit_time :
    ((at_ .idle).reaches .host Pg.TB = true) ∧
    ((wTb 0 0 0).access .boot Pg.TB = .granted ∧ (wTb 0 0 0).on Pg.TB Fd.TB_STAT_STEPPED = false) ∧
    ((wTb 0 1 0).access .boot Pg.TB = .granted ∧ (wTb 0 1 0).on Pg.TB Fd.TB_STAT_STEPPED = true) ∧
    ((wTb 0 0 0).on Pg.TB Fd.TB_CTL_SERVO_EN = false ∧ -rateLimit ≤ sext 40 5 ∧ sext 40 5 ≤ rateLimit) ∧
    ((wTb 1 0 0).access .boot Pg.TB = .granted ∧ (wTb 1 0 0).on Pg.TB Fd.TB_CTL_SERVO_EN = true) := by decide +kernel

def wTod : State := { wTb 1 0 0 with tb := { tod := some (1000, 0) }, raw := 65536 * 20000000 }
def wPps (ns : Nat) : State := { wTb 1 1 1 with raw := 65536 * ns }

theorem test_wit_pps :
    (let s := wPps 0
     s.on Pg.TB Fd.TB_CTL_SERVO_EN = true ∧ s.on Pg.TB Fd.TB_STAT_STEPPED = true ∧ s.tb.tod = none ∧
      (phaseError (s.atNs 0).time16).natAbs ≤ s.fld Pg.TB Fd.TB_SERVO_CTL_PPS_WIN * 1000 * 65536) ∧
    (let s := wPps 500000000
     s.on Pg.TB Fd.TB_CTL_SERVO_EN = true ∧ s.on Pg.TB Fd.TB_STAT_STEPPED = true ∧ s.tb.tod = none ∧
      s.fld Pg.TB Fd.TB_SERVO_CTL_PPS_WIN * 1000 * 65536 < (phaseError (s.atNs 0).time16).natAbs ∧ (s.atNs 0).ppsSeries < 4) ∧
    (let s := wTod
     let x := s.atNs 1000000000
     s.on Pg.TB Fd.TB_CTL_SERVO_EN = true ∧ s.on Pg.TB Fd.TB_STAT_STEPPED = false ∧ s.tb.tod = some (1000, 0) ∧ 0 + 10000000 ≤ x.rawNs ∧
      (phaseError x.time16).natAbs ≤ s.fld Pg.TB Fd.TB_SERVO_CTL_PPS_WIN * 1000 * 65536 ∧ (x.time16 + 2 ^ 15) / 2 ^ 16 ≤ 1000 * 10 ^ 9) ∧
    (∀ n ∈ [1, 2, 3, 4], (wTb 1 1 n).fld Pg.TB Fd.TB_STAT_STATE = n) ∧ (at_ .idle).mode ≠ .boot ∧
    (set (at_ .idle) Pg.TB Fd.TB_CTL_PPS_OUT_EN 1).on Pg.TB Fd.TB_CTL_PPS_OUT_EN = true := by decide +kernel

def wPtp (peer : Nat) : State :=
  let s := set (set (at_ .idle) Pg.TB Fd.TB_CTL_PTP_EN 1) Pg.TB (portFld 0 Fd.TB_PORT0_CTL_EN) 1
  let s := set (set s Pg.TB (portFld 0 Fd.TB_PORT0_CTL_PEER) peer) (Pg.ETH 0) Fd.ETH_STAT_LINK 1
  (set s (Pg.ETH 0) Fd.ETH_CTL_EN 1).wr (Pg.ETH 0) Rg.ETH_MAC_LO 5
def wPtpFull (peer : Nat) : State := { wPtp peer with tb := { answered := [(0, (0, 8192))] } }
def wForeign : AnnounceData := ⟨0, 0, 0, 0, 0, 0⟩

theorem test_wit_ptp :
    (∀ peer ∈ [0, 1], (wPtp peer).ptpOn 0 = true ∧ (wPtp peer).fld Pg.TB Fd.TB_PTP_CTL_DOMAIN = 0 ∧
      (wPtp peer).fld Pg.TB (portFld 0 Fd.TB_PORT0_CTL_PEER) = peer ∧
      ¬((tabGet (dflt (0, 0)) (wPtp peer).tb.answered 0).1 = ((wPtp peer).atNs 5).rawNs / 10 ^ 9 ∧ 8192 ≤ (tabGet (dflt (0, 0)) (wPtp peer).tb.answered 0).2) ∧
      (wPtpFull peer).ptpOn 0 = true ∧ (tabGet (dflt (0, 0)) (wPtpFull peer).tb.answered 0).1 = ((wPtpFull peer).atNs 5).rawNs / 10 ^ 9 ∧
      8192 ≤ (tabGet (dflt (0, 0)) (wPtpFull peer).tb.answered 0).2) ∧
    ((wPtp 0).mode ≠ .boot ∧ (wPtp 0).on Pg.TB Fd.TB_CTL_PTP_EN = true ∧ (wPtp 0).on Pg.TB (portFld 0 Fd.TB_PORT0_CTL_EN) = true ∧
      dsLess [wForeign.priority1, wForeign.clockClass, wForeign.accuracy, wForeign.variance, wForeign.priority2, wForeign.identity]
        (wPtp 0).dataset = true) := by decide +kernel

/-! ### Witnesses: the Carillon -/

def wCrl (en pend : Nat) : State :=
  let s := set (at_ .inspect) Pg.CRL Fd.CRL_CTL_EN en
  ((set s Pg.CRL Fd.CRL_STAT_SWITCH_PENDING pend).wr Pg.CRL Rg.CRL_BANK0_CYCLE 10000).wr Pg.CRL Rg.CRL_BANK1_CYCLE 10000

/-- Slot 3 of bank 0 fires pulse 2 for 100 ns at offset 50. -/
def wSlot : State :=
  (((wCrl 1 0).setWin (slotAt 0 3) 50).setWin (slotAt 0 3 + 4) 0x25).setWin (slotAt 0 3 + 8) 100
def wCal (e : List CalEntry) (m : Mode) : State :=
  let s := set (set (at_ m) Pg.CRL Fd.CRL_CAL_CFG_ACTION 1) Pg.CRL Fd.CRL_CAL_CFG_PULSE 2
  { s with crl := { entries := e } }
def wEntry : CalEntry := ⟨0, 500, 1, 2, 100, 0, 0⟩

theorem test_wit_slots :
    ((wCrl 0 0).access .boot Pg.CRL = .granted ∧ wf (1 : Word) 0 3 = 1 ∧ (wCrl 0 0).on Pg.CRL Fd.CRL_CTL_EN = false ∧ 0 < (wCrl 0 0).bankCycle (wCrl 0 0).bank) ∧
    (let s := wSlot
     let x := (s.atNs 200).rollCycle
     s.mode ≠ .hold ∧ s.mode ≠ .boot ∧ s.on Pg.CRL Fd.CRL_CTL_EN = true ∧ x.slot x.bank 3 32 1 = 1 ∧ x.slot x.bank 3 0 32 < x.bankCycle x.bank ∧
      3 ∉ x.crl.fired ∧ x.crl.start + x.slot x.bank 3 0 32 ≤ x.time ∧ x.slot x.bank 3 34 2 = 1 ∧ 8 ≤ x.slot x.bank 3 64 32) ∧
    (wSlot.reaches .host Pg.CRL = true ∧ wf (wSlot.win (slotAt 0 3 + 4)) 2 1 = 1 ∧
      wSlot.mayPulse 1 (wf (wSlot.win (slotAt 0 3 + 4)) 4 5) = true ∧
      (0 = wSlot.bank ∧ wSlot.rollCycle.slotArmed 3 = true) ∧ ¬(1 = wSlot.bank ∧ wSlot.rollCycle.slotArmed 3 = true)) ∧
    ((wCrl 1 0).access .boot Pg.CRL = .granted ∧ (1 ≠ (wCrl 1 0).bank ∧ 1000 ≤ (1000 : Word).toNat ∧ (4000000000 : Word).toNat ≤ 4000000000) ∧
      (0 = (wCrl 1 0).bank ∧ (999 : Word).toNat < 1000 ∧ 4000000000 < (4000000001 : Word).toNat)) ∧
    ((wCrl 1 0).on Pg.CRL Fd.CRL_CTL_EN = true ∧ (wCrl 1 0).on Pg.CRL Fd.CRL_STAT_SWITCH_PENDING = false ∧ wf (3 : Word) 0 3 = 3) ∧
    ((wCrl 1 1).on Pg.CRL Fd.CRL_STAT_SWITCH_PENDING = true ∧ (wCrl 1 1).crl.switchAt ≤ ((wCrl 1 1).atNs 5).time) := by decide +kernel

theorem test_wit_calendar :
    ((wCal [] .inspect).access .boot Pg.CRL = .granted ∧ wf (1 : Word) 0 1 = 1 ∧
      (wCal [] .inspect).mayPulse 1 ((wCal [] .inspect).fld Pg.CRL Fd.CRL_CAL_CFG_PULSE) = true ∧ (wCal [] .inspect).mode.job = true ∧
      (wCal [] .inspect).crl.entries.length < 4096) ∧
    ((wCal (List.replicate 4096 wEntry) .inspect).mode.job = true ∧ 4096 ≤ (wCal (List.replicate 4096 wEntry) .inspect).crl.entries.length) ∧
    (wCal [] .idle).mode.job = false ∧
    (let s := wCal [wEntry] .inspect
     (calTimes s.crl.lastF s.crl.entries).find? (·.1.num == 0) = some (wEntry, 500) ∧ (s.atNs 499).time < 500 ∧ 500 ≤ (s.atNs 500).time ∧
      wEntry.action = 1 ∧ 8 ≤ wEntry.width) ∧ wf (4 : Word) 1 2 = 2 := by decide +kernel

/-! ### Witnesses: the event fabric -/

/-- Channel 7, enabled, fires on source 3 and delivers to a task; that task is enabled, with a mode. -/
def wEvf (task mode_ : Nat) : State :=
  let s := set (at_ .inspect) Pg.EVF Fd.EVF_CTL_EN 1
  let s := (s.setWinBits (chanAt 7) 0 64 (3 + 2 ^ 9 + 2 ^ 10 + 2 ^ 12 * task + 2 ^ 40)).setWinBits (taskAt task) 0 96 (mode_ + 2 ^ 32 * 4 + 2 ^ 64)
  { s.wr Pg.PINS1 Rg.PINS1_EVIO_OE 0xFFFF with raised := [(3, { time := 0 })] }
def wOcc (task mode_ : Nat) : State := { wEvf task mode_ with evf := { occ := [[⟨task, 7, { time := 0 }⟩]] } }
def wPend : State := { wEvf 5 0 with evf := { pend := [(5, some ⟨5, 7, { time := 0 }⟩)] } }
def wRelay (hop : Nat) : State := { wEvf 64 0 with evf := { relay := [⟨64, 7, { time := 0, hop := hop }⟩] } }

theorem test_wit_channels :
    (let s := wEvf 5 0
     s.mode ≠ .boot ∧ s.access .boot Pg.EVF = .granted ∧ wf (33 : Word) 5 1 = 1 ∧ s.blockOn Pg.EVF Fd.EVF_CTL_EN = true ∧ s.raised = (3, { time := 0 }) :: [] ∧
      (List.range 256).filter (fun c => s.fires 3 c) = [7] ∧ s.evc 7 10 1 = 1 ∧ s.reaches .host Pg.EVF = true ∧ tbit (s.evc 7 0 64) 43 = false ∧
      channelOk (nbSet (s.evc 7 0 64) 0 32 0) = true) ∧
    channelOk (nbSet ((wEvf 42 0).evc 7 0 64) 0 32 0xFFFFFFFF) = false := by decide +kernel

theorem test_wit_tasks :
    (let s := wOcc 5 1
     s.mode ≠ .boot ∧ s.evf.occ = [⟨5, 7, { time := 0 }⟩] :: [] ∧ s.evt 5 64 1 = 1 ∧ s.mode ≠ .hold ∧ s.taskPermitted 5 (s.evc 7 40 3) = true ∧
      tbit (s.rd Pg.PINS1 Rg.PINS1_EVIO_OE).toNat 5 = true ∧ s.taskBusy 5 = false ∧ s.evt 5 0 2 = 1) ∧
    (let s := wOcc 41 0
     s.mode ≠ .boot ∧ s.evt 41 64 1 = 1 ∧ s.taskPermitted 41 (s.evc 7 40 3) = true) ∧
    ((at_ .inspect).evt 5 64 1 = 0) ∧
    (let s := wPend
     tabGet (dflt none) s.evf.pend 5 = some ⟨5, 7, { time := 0 }⟩ ∧ s.taskBusy 5 = false ∧ s.mode ≠ .hold ∧ s.taskPermitted 5 (s.evc 7 40 3) = true ∧
      tbit (s.rd Pg.PINS1 Rg.PINS1_EVIO_OE).toNat 5 = true ∧ s.evt 5 64 1 = 1 ∧ s.evt 5 0 2 = 0) ∧
    (∀ hop ∈ [3, 4], (wRelay hop).mode ≠ .boot ∧ (wRelay hop).evf.relay.find? (·.task == 64) = some ⟨64, 7, { time := 0, hop := hop }⟩) := by decide +kernel

/-! ### Witnesses: queues -/

/-- Queue 7,500 enabled, of 16 words, with 2 credits of requester 3 and 2 of the host, and some words. -/
def wQ (l : List QWord) (ext hostEnd extLen : Nat) : State :=
  let s := set (set (at_ .idle) Pg.QF Fd.QF_HQ_SEL_b0 7500) Pg.QF Fd.QF_CTL_EN 1
  let s := s.setWinBits (qdesc 7500) 0 256 (2 ^ 32 * 16 + 2 ^ 80 + 2 ^ 81 * ext + 2 ^ 82 * hostEnd + 2 ^ 192 * 4)
  { s.setQ 7500 { words := l, creds := [(3, 2), (hostHolder .host, 2)], extLen := extLen } with blank := [⟨0, 2 ^ 40, none⟩] }
def wWord : QWord := mkWord 5 tagValid true true
/-- A word whose data bit 0 flipped in the store. -/
def wOdd : QWord := { wWord with data := 4 }

theorem test_wit_queues :
    (let s := wQ [wWord] 0 3 0
     s.qEn 7500 = true ∧ 3 ≤ s.qFree 7500 false ∧ s.qFree 7500 false < 100 ∧ s.qEn 7501 = false ∧
      0 < (s.q 7500).credOf 3 ∧ s.qExt 7500 = false ∧ (s.q 7500).words = wWord :: [] ∧
      parityOf (wWord.data ^^^ 0) wWord.tag wWord.sof wWord.eof = wWord.parity ∧ (s.q 7501).words = []) ∧
    (let s := (wQ [wOdd] 0 3 0).setQ 7500 { words := [wOdd], parLogged := true }
     (s.q 7500).words = wOdd :: [] ∧ (s.q 7500).parLogged = true ∧ parityOf (wOdd.data ^^^ 0) wOdd.tag wOdd.sof wOdd.eof ≠ wOdd.parity) ∧
    (let s := wQ [] 1 3 3
     0 < (s.q 7500).extLen ∧ (s.q 7500).words.length < s.qCap 7500 ∧ s.dramBad (s.ringAt 7500 (s.q 7500).extHead).1 64 = false) ∧
    ((tabGet (dflt {}) State.reset.arb 16).grant = none ∧
      (tabGet (dflt {}) ({ State.reset with arb := [(16, ⟨some 2⟩)] } : State).arb 16).grant = some 2 ∧ 2 ∉ [1]) := by decide +kernel

/-- Queue 0 enabled past the end of the store. -/
def wPast : State := { at_ .idle with window := [(qdesc 0, 0x1FFFFF), (qdesc 0 + 4, 2), (qdesc 0 + 8, 0x10000)] }

theorem test_head {α : Type} (n : Nat) (g : Nat → Nat) (f : Nat × Nat → Option α) (a : α) (h : f (0, g 0) = some a) :
    ∃ l, ((List.range (n + 1)).map fun q => (q, g q)).filterMap f = a :: l := by
  rw [List.range_succ_eq_map, List.map_cons, List.filterMap_cons_some (b := a) h]
  exact ⟨_, rfl⟩

theorem test_wit_queueAllocation :
    ((at_ .idle).access .host Pg.QF = .granted ∧ wf (1 : Word) 0 1 = 1 ∧ (at_ .idle).mode = .idle ∧
      (at_ .idle).enabledNew.find? (·.bad (at_ .idle).enabledNew) = none) ∧
    wPast.access .host Pg.QF = .granted ∧ wPast.mode = .idle ∧ ∃ a, wPast.enabledNew.find? (·.bad wPast.enabledNew) = some a ∧ a.q < 8192 := by
  have none_ : (at_ .idle).enabledNew = [] := by
    refine List.filterMap_eq_nil_iff.mpr fun p hp => ?_
    obtain ⟨q, hq, rfl⟩ := List.mem_map.mp hp
    have hq := List.mem_range.mp hq
    have h : ∀ i ∈ List.range 7, (at_ .idle).shadowDesc q i = 0 := by
      intro i hi
      have hi := List.mem_range.mp hi
      show winReset (qdesc q + 4 * i) = 0
      simp only [winReset, qdesc, strShadowAt, strActiveAt]
      rw [if_neg (by omega), if_neg (by omega)]
    have h := List.map_congr_left (g := fun _ => (0 : Word)) h
    have h : (at_ .idle).descNew q = 0 := (congrArg wordsNat h).trans (by decide)
    simp [h, nb]
  obtain ⟨l, hl⟩ : ∃ l, wPast.enabledNew = ⟨0, 0x1FFFFF, 2, 0, false, 0, 0⟩ :: l :=
    test_head 8191 _ _ _ (by decide +kernel)
  refine ⟨⟨by decide +kernel, by decide, by decide +kernel, by rw [none_]; rfl⟩, by decide +kernel, by decide +kernel,
    ⟨0, 0x1FFFFF, 2, 0, false, 0, 0⟩, ?_, by decide⟩
  rw [hl]
  rfl

theorem test_wit_hostQueues :
    (let s := wQ [wWord] 0 3 0
     s.access .host Pg.QF = .granted ∧ wf (0x10003 : Word) 16 1 = 1 ∧ s.hqSel = 7500 ∧ s.hostPushes 7500 = true ∧ s.qEn 7500 = true ∧
      wf (0x10003 : Word) 0 16 ≤ s.qFree 7500 false ∧ 0 < (s.q 7500).credOf (hostHolder .host) ∧ s.qExt 7500 = false ∧
      s.reaches .host Pg.QF = true ∧ s.hostPops s.hqSel = true ∧ (s.q s.hqSel).words = wWord :: [] ∧
      parityOf wWord.data wWord.tag wWord.sof wWord.eof = wWord.parity) ∧
    ((wQ [] 0 0 0).hostPushes (wQ [] 0 0 0).hqSel = false) ∧
    (let s := (wQ [] 0 3 0).setQ 7500 {}
     s.hostPushes s.hqSel = true ∧ (s.q s.hqSel).credOf (hostHolder .host) = 0) := by decide +kernel

/-! ### Witnesses: the DMA engine and the compression engine -/

/-- DMA channel 0: one register set of 64-byte bursts from one space to another. -/
def wDma (src dst : Nat) (v : DmaCh) : State :=
  let s := set (set (at_ .idle) Pg.DMA Fd.DMA_CTL_EN 1) Pg.DMA Fd.HDR_PAGE_CTL_EN 1
  let s := s.setWinBits (dmaSetAt 0 0) 0 256 (2 ^ 64 * 8192 + 2 ^ 128 * 2 + 2 ^ 160 * src + 2 ^ 162 * dst + 2 ^ 164 + 2 ^ 165 + 2 ^ 166 * 6 + 2 ^ 178)
  { s.setCh 0 v with dma := [(0, v)], blank := [⟨0, 2 ^ 40, none⟩], arb := [(120, ⟨some 0⟩)] }
def wRun : DmaCh := { state := 1, active := some 0 }
def wFly : DmaCh := { wRun with flying := [some (List.replicate 64 7, List.replicate 8 0)] }

theorem test_wit_dmaControl :
    (wDma 0 0 {}).access .host Pg.DMA = .granted ∧ wf (1 : Word) 0 3 = 1 ∧ wf (2 : Word) 0 3 = 2 ∧ wf (0 : Word) 0 3 = 0 ∧
    wf (4 : Word) 0 1 = 0 ∧ wf (4 : Word) 2 1 = 1 ∧ (wDma 0 0 {}).fld Pg.DMA Fd.DMA_CH_SEL_b0 = 0 ∧
    (((wDma 0 0 {}).ch 0).state = 0 ∧ ((wDma 0 0 {}).dmaSet 0 ((wDma 0 0 {}).ch 0).shadowSet).bad = false) ∧
    ((at_ .idle).ch 0).state = 0 ∧ ((at_ .idle).dmaSet 0 ((at_ .idle).ch 0).shadowSet).bad = true ∧
    (((wDma 0 0 wRun).ch 0).state = 1 ∧ ((wDma 0 0 wRun).ch 0).abort = false ∧ ((wDma 0 0 wRun).ch 0).flying = []) ∧
    (((wDma 0 0 wFly).ch 0).state = 1 ∧ ((wDma 0 0 wFly).ch 0).flying ≠ []) ∧
    (let s := wDma 0 0 { wRun with state := 2, pause := true }
     (s.ch 0).state = 2 ∧ (s.ch 0).abort = false ∧ (s.ch 0).flying = []) ∧
    ((wDma 0 0 { wRun with state := 3 }).ch 0).state = 3 := by decide +kernel

theorem test_wit_dmaGrant :
    (∀ src k, k ≠ 0 → ((wDma src 0 wRun).ch k).state ≠ 1) ∧
    ∀ src ∈ [0, 1], let s := wDma src 0 wRun
      s.blockOn Pg.DMA Fd.DMA_CTL_EN = true ∧ s.dmaWants 0 = true ∧
      (tabGet (dflt {}) s.arb 120).grant = some 0 ∧ (s.chSet 0).dstSpace ≠ 2 ∧ (s.chSet 0).srcSpace = src ∧
      s.outOfRange ((s.chSet 0).srcAt (s.ch 0).issued) (s.chSet 0).bytes = false ∧
      s.dramBad ((s.chSet 0).srcAt (s.ch 0).issued) (s.chSet 0).bytes = false := by
  refine ⟨fun src k hk => ?_, by decide +kernel⟩
  show (tabGet (dflt {}) [(0, wRun)] k).state ≠ 1
  simp [tabGet, hk, dflt]

theorem test_wit_dmaDone :
    (∀ dst ∈ [0, 1], ∀ done ∈ [0, 1], let s := wDma 0 dst { wFly with done := done }
      (s.ch 0).flying = some (List.replicate 64 7, List.replicate 8 0) :: [] ∧ (s.ch 0).state = 1 ∧ (s.ch 0).pause = false ∧
      (s.ch 0).abort = false ∧ (s.chSet 0).dstSpace = dst ∧ s.outOfRange ((s.chSet 0).dstAt (s.ch 0).done) 64 = false ∧
      (∀ j, j < 64 → s.inJob j ((s.chSet 0).dstAt (s.ch 0).done) 64 = false) ∧
      (∀ j, j < 64 → s.dirAddr j + 64 ≤ (s.chSet 0).dstAt (s.ch 0).done ∨ (s.chSet 0).dstAt (s.ch 0).done + 64 ≤ s.dirAddr j) ∧
      (done = 0 → (s.ch 0).done + 1 < (s.chSet 0).count) ∧
      (done = 1 → (s.chSet 0).count ≤ (s.ch 0).done + 1 ∧ (s.chSet 0).fullIrq = true ∧ (s.chSet 0).circ = false ∧ (s.ch 0).armed = false)) ∧
    (∀ src ∈ [0, 1], let s := wDma src 0 wFly
      (s.ch 0).flying ≠ [] ∧ (s.chSet 0).dstSpace ≠ 2 ∧ (s.chSet 0).srcSpace = src) := by decide +kernel

/-- A ring of 4 descriptors at 4,096, the head and tail given, with a running job. -/
def wZip (head : Nat) (job : Option Nat) (r : Option ZipEnd) : State :=
  let s := set (set (at_ .idle) Pg.ZIP Fd.ZIP_CTL_HOST_EN 1) Pg.ZIP Fd.HDR_PAGE_CTL_EN 1
  let s := ((s.wr Pg.ZIP Rg.ZIP_RING_BASE_LO 4096).wr Pg.ZIP Rg.ZIP_RING_SIZE 4).wr Pg.ZIP Rg.ZIP_RING_HEAD (BitVec.ofNat 32 head)
  { s with blank := [⟨0, 2 ^ 40, none⟩], zip := { job := job, result := r }, arb := [(121, ⟨some 0⟩)] }

theorem test_wit_zip :
    (let s := wZip 0 none none
     s.access .host Pg.ZIP = .granted ∧ ((1 : Word) - s.rd Pg.ZIP Rg.ZIP_RING_TAIL).toNat ≤ s.zipSize ∧ s.zip.job = none ∧
      s.blockOn Pg.ZIP Fd.ZIP_CTL_HOST_EN = true ∧ (1 : Word) ≠ s.rd Pg.ZIP Rg.ZIP_RING_TAIL ∧
      s.zipSize < ((5 : Word) - s.rd Pg.ZIP Rg.ZIP_RING_TAIL).toNat) ∧
    (∀ op ∈ [0, 1], let s := wZip 1 (some (op + 2 ^ 32 * 16 + 2 ^ 64 * 8192)) none
     let d := op + 2 ^ 32 * 16 + 2 ^ 64 * 8192
     s.zip.job = some d ∧ (tabGet (dflt {}) s.arb 121).grant = some 0 ∧ s.zip.result = none ∧ tbit d 10 = false ∧ nb d 0 4 = op ∧
      nb d 32 32 ≠ 0 ∧ s.outOfRange (nb d 64 64) (nb d 32 32) = false ∧ s.dramBad (nb d 64 64) (nb d 32 32) = false) ∧
    (tabGet (dflt {}) ({ wZip 1 (some 1) none with arb := [] } : State).arb 121).grant = none ∧
    (let s := wZip 1 (some 1) (some ⟨zipOk, 3, 9⟩)
     s.zip.job = some 1 ∧ s.zip.result = some ⟨zipOk, 3, 9⟩ ∧ s.fifoOf 12 = [] ∧
      s.zipDescAt (s.rd Pg.ZIP Rg.ZIP_RING_TAIL).toNat + 64 ≤ s.capacity ∧
      s.rd Pg.ZIP Rg.ZIP_RING_HEAD = s.rd Pg.ZIP Rg.ZIP_RING_TAIL + 1) := by decide +kernel

/-! ### Witnesses: memory -/

/-- Channel 0 granted to port 3; a region of inline check bits over [0, 64 MiB) if asked for; an uncorrected line if asked for. -/
def wMem (inline_ : Nat) (bad : Bool) : State :=
  let s := set (set (at_ .idle) Pg.MCG (Fd.MCG_ECC_RGN_EN 0) inline_) Pg.MCG (Fd.MCG_ECC_RGN_SIZE 0) inline_
  { s with arb := [(100, ⟨some 3⟩)], badLine := if bad then [(0, true)] else [] }

theorem test_wit_dramAccess :
    (∀ a ∈ [0, 64], chanOf a = 0) ∧ ((wMem 0 false).mcOf 0).panic = [] ∧ (tabGet (dflt {}) (wMem 0 false).arb 100).grant = some 3 ∧
    ((wMem 0 false).outOfRange 0 64 = false ∧ (wMem 0 false).dramBad (0 / 64 * 64) 64 = false) ∧
    ((wMem 1 false).outOfRange 0 64 = false ∧ (wMem 1 false).dramBad (0 / 64 * 64) 64 = false ∧ (wMem 1 false).inlineAt 0 = true ∧
      (wMem 1 false).on (Pg.MC 0) Fd.MC_STAT_MARGIN_LOST = false ∧ ((wMem 1 false).mcOf 0).panic = []) ∧
    chanOf (2 ^ 36 + 2048) = 0 ∧ (wMem 0 false).outOfRange (2 ^ 36 + 2048) 64 = true := by decide +kernel

/-- The tracking counter and interval. -/
def wTrack (windows intv en : Nat) : State :=
  { set (set (at_ .idle) Pg.MCG Fd.MCG_REF_CTL_TRACK_INTV intv) Pg.MCG Fd.MCG_TRAIN_CTL_TRACK_EN en with mcg := { windows := windows } }

/-- Every timing at its lowest, with an interval and an oscillator time in range. -/
def wTrain : State :=
  let s := (((at_ .idle).wr Pg.MCG Rg.MCG_TIMING0 0x01010101).wr Pg.MCG Rg.MCG_TIMING1 0x01010001).wr Pg.MCG Rg.MCG_TIMING2 0x01041041
  set (set (set s Pg.MCG Fd.MCG_REF_CTL_TREFI 64) Pg.MCG Fd.MCG_REF_CTL_TRACK_INTV 1) Pg.MCG Fd.MCG_REF_CTL_OSC_CYC 16

theorem test_wit_refreshAndTraining :
    (wTrack 0 3 0).mcg.windows + 1 < (wTrack 0 3 0).fld Pg.MCG Fd.MCG_REF_CTL_TRACK_INTV ∧
    (wTrack 2 3 1).fld Pg.MCG Fd.MCG_REF_CTL_TRACK_INTV ≤ (wTrack 2 3 1).mcg.windows + 1 ∧
    (wTrack 2 3 1).on Pg.MCG Fd.MCG_TRAIN_CTL_TRACK_EN = true ∧
    (∀ x ∈ [(⟨3, false, false, false, 1, -1⟩ : TrackRead)], x.limit = false ∧ x.writeLinkErr = false) ∧
    ((at_ .idle).access .host Pg.MCG = .granted ∧ (at_ .idle).mode = .idle ∧ wf (1 : Word) 0 1 = 1) ∧
    ((wMem 1 false).memOk = true ∧ (set (wMem 1 false) Pg.MCG ⟨Rg.MCG_ECC_CTL, 8, 1⟩ 1).on Pg.MCG ⟨Rg.MCG_ECC_CTL, 8, 1⟩ = true) ∧
    wTrain.trainCfgOk = true ∧ wTrain.mode = .idle ∧ ((at_ .inspect).mode ≠ .idle ∧ (at_ .inspect).mode ≠ .setup ∧ (at_ .inspect).access .host Pg.MCG = .granted) ∧
    ((set (at_ .idle) Pg.MCG Fd.MCG_TRAIN_STAT_STATE 1).fld Pg.MCG Fd.MCG_TRAIN_STAT_STATE = 1 ∧
      none ∉ [some (⟨1, 2, 3⟩ : MarginRead)]) := by decide +kernel

/-! ### Witnesses: two-wire buses -/

/-- Controller 0 enabled, with its controller and target sides, and its page. -/
def wTwl (busy : Nat) (x : Twl) (fifo : Tab (List Byte)) : State :=
  let p := Pg.TWL 0
  let s := set (set (set (set (set (at_ .idle) p Fd.HDR_PAGE_CTL_EN 1) p Fd.TWL_CTL_EN 1) p Fd.TWL_CTL_CTRL_EN 1) p Fd.TWL_STAT_BUSY busy) p Fd.TWL_CTL_RETRY 1
  let s := set (set s p Fd.TWL_CTL_TGT_EN 1) p Fd.TWL_CTL_TGT_ADDR 0x30
  { s with twl := [(0, x)], fifo := fifo }
/-- A read of 2 bytes from target 30h. -/
def wCmd : Word := 0x02020030

theorem test_wit_twoWire :
    (let s := wTwl 0 {} []
     s.access .host (Pg.TWL 0) = .granted ∧ wf wCmd 25 2 = 1 ∧ s.twlRefuses 0 wCmd = false ∧ s.twlRefuses 0 0x02020000 = true ∧
      wf (0x02020000 : Word) 25 2 = 1 ∧ wf (0x04000000 : Word) 25 2 = 2 ∧ wf (0x4000 : Word) 14 1 = 1 ∧ s.on (Pg.TWL 0) Fd.TWL_CTL_EN = true ∧
      s.blockOn (Pg.TWL 0) Fd.TWL_CTL_EN = true ∧ s.on (Pg.TWL 0) Fd.TWL_CTL_TGT_EN = true ∧
      twlNoAddr (s.fld (Pg.TWL 0) Fd.TWL_CTL_TGT_ADDR) = false ∧ (s.fifoOf 0).length ≤ 16 ∧ s.mode ≠ .boot) ∧
    (let s := wTwl 1 { cmd := some wCmd } []
     s.on (Pg.TWL 0) Fd.TWL_STAT_BUSY = true ∧ (s.twlOf 0).cmd = some wCmd ∧ (s.twlOf 0).wait = false ∧ (s.twlOf 0).got = 0 ∧ (s.twlOf 0).rest = [] ∧
      [1, 2].length = wf wCmd 16 8 ∧ (s.fifoOf 0).length + 2 ≤ 16) ∧
    (let s := wTwl 1 { cmd := some wCmd, wait := true } []
     (s.twlOf 0).cmd = some wCmd ∧ (s.twlOf 0).wait = true ∧ s.fld (Pg.TWL 0) Fd.TWL_STAT_RETRIES < s.fld (Pg.TWL 0) Fd.TWL_CTL_RETRY ∧
      (set s (Pg.TWL 0) Fd.TWL_CTL_RETRY 0).fld (Pg.TWL 0) Fd.TWL_CTL_RETRY ≤ s.fld (Pg.TWL 0) Fd.TWL_STAT_RETRIES) ∧
    ((wTwl 0 { fresh := true } []).twlOf 0).fresh = true ∧
    ((at_ .idle).on (Pg.TWL 0) Fd.TWL_CTL_EN = false ∧ zeroTiming 0x01010101 = false ∧ zeroTiming 0x01010001 = true ∧
      (at_ .idle).access .host (Pg.TWL 0) = .granted) := by decide +kernel

def wMtwi (busy mbox : Nat) : State :=
  let p := Pg.MTWI
  set (set (set (set (set (at_ .idle) p Fd.HDR_PAGE_CTL_EN 1) p Fd.MTWI_CTL_EN 1) p Fd.MTWI_ADDR_b0 0x42) p Fd.MTWI_STAT_BUSY busy) p Fd.MTWI_CTL_MBOX_EN mbox

theorem test_wit_management :
    (let s := wMtwi 0 0
     s.mode ≠ .boot ∧ s.blockOn Pg.MTWI Fd.MTWI_CTL_EN = true ∧ 0x42 = s.mtwiAddr ∧ 0x43 ≠ s.mtwiAddr) ∧
    (let s := wMtwi 1 1
     s.on Pg.MTWI Fd.MTWI_STAT_BUSY = true ∧ (3 : Word).toNat % 4 ≠ 0 ∧
      ((4 : Word).toNat % 4 = 0 ∧ s.mode ≠ .boot ∧ (pageAt ((4 : Word).toNat / 4096)).isSome = true ∧ (4 : Word).toNat % 4096 < 0x40) ∧
      (BitVec.ofNat 32 Rg.HDR_IRQ_MASK : Word).toNat % 4096 = Rg.HDR_IRQ_MASK ∧
      (set s Pg.POS Fd.HDR_LOCK_HOLDER 1).refuses .mgmt (Pg.POS * 4096 + Rg.POS_CH_CPR 0) 5 = true ∧
      (pageAt ((BitVec.ofNat 32 (Pg.POS * 4096 + Rg.POS_CH_CPR 0) : Word).toNat / 4096)).isSome = true ∧
      s.on Pg.MTWI Fd.MTWI_CTL_MBOX_EN = true ∧ (s.fifoOf 8).length + 1 ≤ 16 ∧ 0 ≤ (s.fifoOf 9).length) ∧
    (wMtwi 1 0).on Pg.MTWI Fd.MTWI_CTL_MBOX_EN = false := by decide +kernel

/-! ### Witnesses: the camera links -/

/-- Port 0, of one lane and two taps, in a link state, with its link, and its quad's Joker in a state. -/
def wLk (st : Nat) (l : Link) (jst : Nat) (j : Joker) : State :=
  let p := Pg.CP 0
  let s := set (set (set (at_ .inspect) p Fd.CP_PORT_CTL_EN 1) p Fd.CP_PORT_CTL_TAPS 2) p Fd.CP_LINK_STAT_STATE st
  let s := set (set (set s p Fd.CP_JOKER_STAT_STATE jst) p Fd.CP_JOKER_CTL_EN 1) p Fd.CP_EYE_CTL_CAL_PERIOD 1
  { s with link := [(0, l)], joker := [(0, j)] }

theorem test_wit_linkBringUp :
    (let s := wLk lkBase {} 0 {}
     s.portOfQuad 0 = 0 ∧ s.linkState 0 = lkBase ∧ s.laneOf 0 0 = 0 ∧ (s.link_ 0).req = none ∧ (s.link_ 0).identN < 8 ∧ s.locked 0 0 = false ∧
      (set s (Pg.CP 0) Fd.CP_LINK_STAT_NO_CAMERA 1).on (Pg.CP 0) Fd.CP_LINK_STAT_NO_CAMERA = true) ∧
    (let s := wLk lkRate {} 0 {}
     s.linkState 0 = lkRate ∧ s.laneOf 0 0 < s.lanes 0 ∧ s.lanes 0 = 1) ∧
    (∀ st ∈ [lkAlign, lkActive], ∀ jst ∈ [jkIdle, jkSubst, jkStandby],
      let s := set (wLk st {} jst {}) (Pg.CP 0) Fd.CP_JOKER_STAT_MATCHED 1
      s.linkState 0 = st ∧ s.laneOf 0 0 < s.lanes 0 ∧ s.jkCovers 0 0 = decide (jst ≠ jkIdle) ∧ s.jkState 0 = jst) ∧
    (∀ k, k < 2 → ((wLk lkAlign {} 0 {}).jk (0 + k)).stage = .none) ∧
    (∀ st ∈ [lkAlign, lkActive], (set (wLk st { badMarks := [(0, 1)] } 0 {}) (Pg.CP 0) Fd.CP_LINK_STAT_DESKEW_OK 1).on (Pg.CP 0) Fd.CP_LINK_STAT_DESKEW_OK = true) ∧
    (wLk lkAlign {} 0 {}).on (Pg.CP 0) Fd.CP_LINK_STAT_DESKEW_OK = false ∧
    (marksAligned [some (0, 5)] 1 = true ∧ 1 ≤ ((wLk lkAlign { goodMarks := 1 } 0 {}).link_ 0).goodMarks) ∧
    (marksAligned [none] 1 = false ∧ ((wLk lkAlign {} 0 {}).link_ 0).goodMarks = 0) ∧
    (markGood ([none].take 1) 0 = false ∧ 1 ≤ tabGet (dflt 0) ((wLk lkActive { badMarks := [(0, 1)] } 0 {}).link_ 0).badMarks 0) ∧
    (∀ st ∈ [lkBase, lkRate, lkTrain, lkAlign, lkActive, lkFailed], (wLk st {} 0 {}).linkState 0 = st ∧ st ≠ lkDisabled) := by decide +kernel

/-- Lane 0 of port 0 in training. -/
def wTrn (t : Train) : State := { wLk lkTrain {} 0 {} with train := [(0, t)] }

theorem test_wit_training :
    (∀ ph ∈ [TrainPhase.sweep 3, .sweep 7, .fixed, .finish], ∀ n ∈ [1, 3],
      let s := wTrn { phase := ph, out := some (9, 1, 3, n), scanDue := true, scanning := true, best := some (2, 11) }
      s.linkState 0 = lkTrain ∧ 0 < s.lanes 0 ∧ (s.train_ 0 0).out = some (9, 1, 3, n) ∧ (s.train_ 0 0).phase = ph ∧
      (s.train_ 0 0).scanDue = true ∧ (s.train_ 0 0).scanning = true ∧ (∀ k, k < s.lanes 0 → k ≠ 0 → (s.train_ 0 k).phase = .trained)) ∧
    (wTrn {}).on (Pg.CP 0) (Fd.CP_LANE_STAT_SLICE 0) = false ∧
    (∀ st ∈ [(1 : Byte), 2, 3], (BitVec.ofNat 8 (crc8 [0, 0, 9, st, 3, 4])).toNat = crc8 [0, 0, 9, st, 3, 4] ∧ crc8 [0, 0, 9, st, 3, 4] ≠ 0) ∧
    (let s := wTrn {}
     let r := eyeOf 2 4 (2 ^ 16) (s.fld (Pg.CP 0) Fd.CP_EYE_CTL_ERR_LIM) ⟨0, [0], [], [0, 0], [], {}⟩
     s.trainFld 0 Fd.CP_TRAIN_CTL_MIN_W ≤ r.w ∧ s.trainFld 0 Fd.CP_TRAIN_CTL_MIN_H ≤ r.h ∧ 11 < r.w * r.h ∧ r.w = 4 ∧ r.h = 16) ∧
    (let s := { wLk lkTrain { trainCtl := 0xFFFFFFFF } 0 {} with train := [(0, { scanning := true })] }
     let r := eyeOf 2 4 (2 ^ 16) (s.fld (Pg.CP 0) Fd.CP_EYE_CTL_ERR_LIM) ⟨70000, [], [], [], [], {}⟩
     ¬(s.trainFld 0 Fd.CP_TRAIN_CTL_MIN_W ≤ r.w ∧ s.trainFld 0 Fd.CP_TRAIN_CTL_MIN_H ≤ r.h)) := by decide +kernel

theorem test_wit_jokers :
    (∀ st ∈ [lkBase, lkAlign, lkActive], let s := wLk st {} 0 {}
      s.mode ≠ .boot ∧ s.linkState 0 = st ∧ s.portOfQuad 0 = 0 ∧ s.laneOf 0 0 < s.lanes 0) ∧
    (let s := wLk lkActive {} jkIdle {}
     s.jkState 0 = jkIdle ∧ (s.jk 0).stage = .none ∧ (s.jk 0).waiting = 0 ∧ s.fld (Pg.CP (s.portOfQuad 0)) Fd.CP_EYE_CTL_CAL_PERIOD ≠ 0 ∧
      s.on (Pg.CP 0) Fd.CP_JOKER_CTL_EN = true ∧ s.linkState 0 = lkActive ∧ (wLk lkBase {} jkIdle {}).linkState 0 = lkBase ∧ s.access .host (Pg.CP 0) = .granted ∧
      (wf (0x101 : Word) 0 1 = 1 ∧ wf (0x101 : Word) 4 2 = 0 ∧ wf (0x101 : Word) 8 4 = 2 ^ 0) ∧
      (wf (0x11 : Word) 0 1 = 1 ∧ wf (0x11 : Word) 4 2 = 1 ∧ wf (0x11 : Word) 8 4 = 0)) ∧
    ((wLk lkActive {} jkIdle { stage := .selfCal true }).jk 0).stage = .selfCal true ∧ codesAgree [3, 7] [4, 6] = true ∧
    (set (wLk lkActive {} jkIdle { stage := .selfCal true }) (Pg.CP 0) Fd.CP_JOKER_CTL_STANDBY_EN 0).on (Pg.CP 0) Fd.CP_JOKER_CTL_STANDBY_EN = false ∧
    (∀ sg ∈ [Handover.none, .matching, .takeover], let s := set (wLk lkBase {} jkStandby { stage := sg }) (Pg.CP 0) (Fd.CP_LANE_STAT_LOCK 0) 1
      s.jkState 0 = jkStandby ∧ (s.jk 0).stage = sg ∧ (s.jk 0).waiting = 0 ∧ s.on (Pg.CP 0) (Fd.CP_LANE_STAT_LOCK 0) = true) ∧
    (∀ sg ∈ [Handover.matching, .adapting, .calibrating], ((wLk lkActive {} 1 { stage := sg }).jk 0).stage = sg ∧
      ((wLk lkActive {} 1 { stage := sg }).jk 0).waiting = 0 ∧ ((wLk lkActive {} 1 { stage := sg }).jk 0).lane = 0) ∧
    (let s := wLk lkActive {} jkCarrying { stage := .calibrating }
     (s.jk 0).release = false ∧ s.on (Pg.CP 0) Fd.CP_JOKER_CTL_EN = true ∧ s.jkState 0 = jkCarrying ∧ s.jkLane 0 = 0) ∧
    (let s := wLk lkActive {} jkSubst {}
     s.access .host (Pg.CP 0) = .granted ∧ (wf (0x21 : Word) 0 1 = 1 ∧ wf (0x21 : Word) 4 2 = 2 ∧ wf (0x21 : Word) 8 4 = 0) ∧
      s.jkState 0 = jkSubst ∧ (s.jk 0).stage = .none) := by decide +kernel

/-- A packet of a header, a payload and a CRC-32C. -/
def wPkt (h : Nat) (payload : List Byte) (crc : Nat) : DownPkt := ⟨(leBytes 16 h ++ payload ++ leBytes 4 crc).map ObvSym.data ++ [.eop]⟩

theorem test_wit_packets :
    (let s := wLk lkActive {} 0 {}
     s.access .host (Pg.CP 0) = .granted ∧ wf (0x2000000 : Word) 25 1 = 1 ∧ wf (0x3000000 : Word) 25 1 = 1 ∧ wf (0x3000000 : Word) 24 1 = 1 ∧ s.on (Pg.CP 0) Fd.CP_CAM_ACC_BUSY = false ∧ (s.link_ 0).req = none ∧
      s.linkState 0 = lkActive ∧ s.pTaps 0 = 2 ∧ s.fld (Pg.CP 0) Fd.CP_PORT_CTL_DEPTH = 0 ∧ s.on (Pg.CP 0) Fd.CP_CAM_ACC_WRITE = false) ∧
    (let s := wLk lkActive { req := some ⟨9, 64, true, none⟩ } 0 {}
     (s.link_ 0).req = some ⟨9, 64, true, none⟩ ∧ s.linkState 0 ≠ lkBase) ∧
    (readPacket (wPkt (3 + 2 ^ 8 * 9 + 2 ^ 64 * 77) [] 0x345f44a1) lkActive 0 2 = .resp 9 0 77) ∧
    (∃ c, readPacket ⟨.violation :: (wPkt 3 [] 0).syms⟩ lkActive 0 2 = .bad c) ∧
    (readPacket (wPkt (2 + 2 ^ 24 * 6 + 2 ^ 32 * 4 + 2 ^ 48 * 5) [] 0x2c94385b) lkActive 0 2 = .status 4 5 6 0) ∧
    ((wLk lkActive {} 0 {}).link_ 0).hbCount = 0 ∧ tbit 4 2 = true :=
  ⟨by decide +kernel, by decide +kernel, by decide +kernel, ⟨cntCode, by decide +kernel⟩, by decide +kernel, by decide +kernel, by decide +kernel⟩

/-- Port 0 waits for the taps of port line 7, as camera line 7. -/
def wIn (l : CamLine) (next : Nat) (chg : ViewSt) : State :=
  { wLk lkActive { lastAcc := [(0, 7)], lastTrig := 8 } 0 {} with
    intake := [(0, { next := some 7, lines := [l] })], tg := [(0, { next := next, running := true })], view := [(0, chg)] }
def wLine (deadline : Nat) (taps : List TapSt) (c : Option (Nat × Nat × Bool)) : CamLine := ⟨7, true, deadline, taps, 8, c⟩

theorem test_wit_lines :
    (let l := wLine 1000000 [.open_, .open_] (some (0, 4, true))
     let s := wIn l 9 {}
     s.linkState 0 = lkActive ∧
      readPacket (wPkt (1 + 2 ^ 16 * 8 + 2 ^ 32 * 7) [1, 2, 3, 4, 5, 6, 7, 8] 0x9ba9dd1a) (s.linkState 0) (s.fld (Pg.CP 0) Fd.CP_PORT_CTL_DEPTH) (s.pTaps 0) =
        .line 0 7 0 [1, 2, 3, 4, 5, 6, 7, 8] ∧
      tabGet (dflt 0) (s.link_ 0).lastAcc 0 ≤ 7 ∧ 7 < (s.link_ 0).lastTrig ∧ (s.intk 0).next = some 7 ∧ (s.intk 0).lines = [l] ∧
      l.m = 7 + s.ofsAt 0 7 ∧ (s.atNs 0).time ≤ l.deadline ∧ 7 < (s.tgOf (s.pView 0)).next ∧ (s.view_ (s.pView 0)).chg = none) ∧
    (let l := wLine 1000000 [.open_] none
     let s := set (wIn l 8 { past := true, begun := true }) Pg.STI (Fd.STI_PORT_CTL_IN_VIEW 0) 1
     (s.intk 0).next = some 7 ∧ (s.intk 0).lines = [l] ∧ l.m = 7 + s.ofsAt 0 7 ∧ (s.view_ (s.pView 0)).chg = none ∧
      ((s.atNs 0).time < l.deadline ∧ 7 < (s.tgOf (s.pView 0)).next) ∧
      (l.deadline ≤ (s.atNs 2000000).time ∧ (s.tgOf (s.pView 0)).next = 7 + 1 ∧ (s.tgOf (s.pView 0)).running = true ∧ (s.tgOf (s.pView 0)).waiting = none ∧
        0 ∈ s.portsAt (s.pView 0) 7 ∧ (s.view_ (s.pView 0)).begun = true ∧ l.credit = none ∧ (s.intk 0).bad = 0 ∧
        (s.intk 0).gap = none ∧ 7 % 64 ≠ 63 ∧ s.commits = [] ∧ s.evf.data = [] ∧ (s.view_ (s.pView 0)).past = true ∧
        (s.view_ (s.pView 0)).endAt = none ∧ (s.view_ (s.pView 0)).endRep = none ∧ (s.view_ (s.pView 0)).left = false)) := by decide +kernel

/-! ### Witnesses: the line path -/

/-- DLR, pipeline 0 and STI on; port 0 in view 0, in SETUP or INSPECT. -/
def wPath (m : Mode) : State :=
  let s := set (set (at_ m) Pg.DLR Fd.HDR_PAGE_CTL_EN 1) Pg.DLR Fd.DLR_CTL_EN 1
  let s := set (set s (Pg.PP 0) Fd.HDR_PAGE_CTL_EN 1) (Pg.PP 0) Fd.PP_CTL_EN 1
  let s := set (set (set s Pg.STI Fd.HDR_PAGE_CTL_EN 1) Pg.STI Fd.STI_CTL_EN 1) Pg.REG Fd.HDR_PAGE_CTL_EN 1
  set (set s Pg.STI (Fd.STI_PORT_CTL_IN_VIEW 0) 1) (Pg.CP 0) Fd.CP_PORT_CTL_TAPS 1
def wUnit : IUnit := ⟨0, 1, 0, 0, .gap, 8, [0]⟩
def wDisp (arb : Tab Arb) (u : List IUnit) : State := { wPath .setup with intake := [(0, { units := u })], arb := arb }

theorem test_wit_dispatch :
    (∀ a ∈ [([] : Tab Arb), [(0, ⟨some 0⟩)]], let s := wDisp a [wUnit]
      s.dispatchReqs 0 = [0] ∧ s.nextUnit 0 0 = some (wUnit, 0) ∧ (s.pipe_ 0).set0 = none ∧ (s.pipe_ 0).set1 = none ∧
      (tabGet (dflt {}) s.arb 0) = (if a = [] then ⟨none⟩ else ⟨some 0⟩) ∧ (s.pipe_ 0).units = [] ∧
      s.fld (Pg.PP 0) Fd.PP_STAT_CUR_SET = 0 ∧ s.unitWords 0 wUnit = []) ∧
    ({ wDisp [] [wUnit] with intake := [(0, { next := some 1, units := [wUnit] })] }.intk 0).next.isSome = true ∧
    (let s := wDisp [(0, ⟨some 0⟩)] []
     s.dispatchReqs 0 = [] ∧ (tabGet (dflt {}) s.arb 0).grant = some 0) ∧
    (let s := { wPath .setup with pipe := [(0, { set0 := some ⟨0, false, false, 0, []⟩, set1 := some ⟨1, false, false, 0, []⟩ })] }
     ∀ k ∈ s.ctxNeeds 0, ((s.pipe_ 0).setOf k.1 k.2).isSome = true) := by decide +kernel

/-- A unit in pipeline 0, its context loaded or not. -/
def wPp (set0 : Option CtxSet) (ff : List FfRun) : State :=
  { wPath .setup with pipe := [(0, { units := [⟨0, 0, 0, 0, 1, .gap, 1024, 0⟩], set0 := set0, ff := ff })], intake := [(0, { next := some 5 })] }

theorem test_wit_correction :
    (∀ c ∈ [none, some (⟨0, false, true, 0, []⟩ : CtxSet)], let s := wPp c []
      let u : Machine.PUnit := ⟨0, 0, 0, 0, 1, .gap, 1024, 0⟩
      s.blockOn (Pg.PP 0) Fd.PP_CTL_EN = true ∧ (s.pipe_ 0).units = u :: [] ∧ s.formable u.port u.stripe ((s.tapB u.port u.stripe).run != u.run) = false ∧
      0 < s.unitRoom u ∧ s.eventWait (s.pView u.port) (u.n + s.unitRoom u - 1) = false ∧
      (s.pipe_ 0).setOf u.port (s.nextCopy u.port u.n) = c.map (fun _ => (0, true)) ∧
      (s.tapB 0 0).run = 0 ∧ (s.tapB 0 0).next = 0 ∧ (s.tapB 0 0).lines = [] ∧ s.pTaps 0 = 1 ∧ (∀ x ∈ c, (s.pipe_ 0).set 0 = some x ∧ x.delay 0 = 0) ∧
      (s.intk 0).ended = none ∧ s.commits = [] ∧ s.jobVals = []) ∧
    (let s := wPp none []
     s.access .host (Pg.PP 0) = .granted ∧ wf (0x400 : Word) 10 1 = 1 ∧ s.mode = .setup ∧ s.ffBusy 0 = false ∧ 0 ∈ (s.stripes 0 0).map (s.pipeOf 0) ∧ (s.intk 0).next = some 5 ∧ (wPath .inspect).mode ≠ .setup) ∧
    (∀ seen ∈ [1, 2], ∀ lost ∈ [true, false], let f : FfRun := ⟨0, 0, 1, 9, 64, seen, lost, []⟩
      ((wPp none [f]).pipe_ 0).ff.find? (fun f => decide (2 ^ f.lg ≤ f.seen)) = (if seen = 2 then some f else none) ∧ (wPp none [f]).ffBusy 0 = true ∧ f.phase = 0) := by decide +kernel

/-- View 0 at line 3 of its run: its port has the line; or REG is at work, at a line far on. -/
def wSti (m : Mode) (next : Nat) (wins : List Nat) : State :=
  { (wPath m).setWinBits (stitchAt + 0x800) 63 1 1 with
    stitch_ := [(0, { next := next, run := some 0 })], tg := [(0, { next := next + 1 })],
    corr := [(0, [⟨3, 0, .gap⟩])], view := [(0, { frames := [{ line := 0, zc := 0, count := true }], wins := wins })] }

theorem test_wit_stitching :
    (let s := wSti .setup 3 []
     s.mode = .setup ∧ s.on Pg.STI Fd.HDR_PAGE_CTL_EN = true ∧ s.on Pg.STI Fd.STI_CTL_EN = true ∧ (s.sti 0).run = some (s.view_ 0).start ∧
      s.portsAt 0 (s.sti 0).next ≠ [] ∧ (s.sti 0).next < s.nextLine 0 ∧ (∀ p ∈ s.portsAt 0 (s.sti 0).next, (s.portLine p (s.sti 0).next).isSome = true) ∧
      s.eventWait 0 (s.sti 0).next = false ∧ s.commits = [] ∧ s.jobVals = [] ∧
      s.access .host Pg.STI = .granted ∧ wf (0x80 : Word) 7 1 = 1 ∧ s.dot = none) ∧
    (∀ seen ∈ [1, 2], ∀ lost ∈ [true, false], let d : DotRun := ⟨0, 1, false, 0, seen, lost, []⟩
      ({ wPath .setup with dot := some d } : State).dot = some d ∧ (seen = 1 → d.seen < 2 ^ d.lg) ∧ (seen = 2 → 2 ^ d.lg ≤ d.seen) ∧
      d.along = false ∧ ∀ p ∈ d.ports, False) ∧
    ((wPath .inspect).mode ≠ .setup ∧ (wPath .inspect).access .host Pg.STI = .granted) := by decide +kernel

theorem test_wit_tableData :
    (∀ str ∈ [true, false], (at_ .idle).access .host (if str then Pg.STR else Pg.STI) = .granted ∧
      (at_ .idle).reaches .host (if str then Pg.STR else Pg.STI) = true) ∧
    ((at_ .idle).tblFree ((at_ .idle).tblWord false - stitchAt) = true ∧ decide ((at_ .idle).tblWord true < strShadowAt + 0x3800) = true) ∧
    (let s := set (at_ .idle) Pg.STI Fd.STI_TBL_ADDR_ADDR 0x1FFF
     s.tblFree (s.tblWord false - stitchAt) = false) := by decide +kernel

/-- The same with the view's own copy of REG.CTL. -/
def wRegEn (en : Word) : State :=
  let s := wSti .inspect 100000 [0]
  { s with regs := s.regs ++ [(viewKey Pg.REG Rg.REG_CTL 0, en)] }

theorem test_wit_registration :
    (let s := wSti .inspect 100000 []
     s.regRuns 0 = true ∧ 0 ∈ s.winsOn (s.repCopy 0 (s.view_ 0).updR) 0 ∧ 0 ∉ (s.view_ 0).wins ∧ s.winReady 0 0 = true) ∧
    (let s := wRegEn 0
     s.regRuns 0 = true ∧ s.updLine 0 (s.view_ 0).updR ≤ s.nextLine 0 + 62 ∧ s.commits = [] ∧
      (∀ w ∈ s.winsOn (s.repCopy 0 (s.view_ 0).updR) 0, w ∈ (s.view_ 0).wins) ∧ tbit (s.rdView Pg.REG Rg.REG_CTL 0).toNat 0 = false) ∧
    tbit ((wRegEn 1).rdView Pg.REG Rg.REG_CTL 0).toNat 0 = true := by decide +kernel

/-! ### Witnesses: masters and engines -/

/-- A running job with one view, a master, an artwork, a prediction table and one engine of 64 columns. -/
def wCtx : JobCtx :=
  { id := 1, legacy := false, viewEn := 1, masterOk := 1, artwork := 1, repeatLen := 64, sectBase := 0, sectCount := 0, tag := 0,
    sects := [(sectMaster 0, 2 ^ 20, 2 ^ 24, []), (sectArt, 2 ^ 16, 4096, []), (sectPred 0, 2 ^ 17, 0xE000, []),
      (sectCmp, 0, 264, List.replicate 256 0 ++ leBytes 8 (63 * 2 ^ 24 + 2 ^ 56))] }
def wJob : State :=
  let s := set (set (at_ .inspect) (Pg.IE 0) Fd.HDR_PAGE_CTL_EN 1) (Pg.IE 0) Fd.IE_CTL_EN 1
  let s := set (set (set s Pg.MRG Fd.HDR_PAGE_CTL_EN 1) Pg.MRG Fd.MRG_CTL_EN 1) Pg.REG Fd.HDR_PAGE_CTL_EN 1
  { s.setWinBits stitchAt 0 64 (64 + 2 ^ 32 + 2 ^ 48) with jobA := some wCtx, blank := [⟨0, 2 ^ 40, none⟩] }
def wFlip (k : FlipKind) (rows : Nat) (cap : Option Capture) (force : List InForce) : State :=
  { wJob with mst := [(0, { flips := [{ rep := 1, kind := k, rows := rows, slots := [0, 1], first := 1 }], cap := cap, force := force })] }

theorem test_wit_flips :
    (∀ cap ∈ [none, some ({ rep := 2, slot := 1 } : Capture)], let s := wFlip .learn 1 cap []
      ∃ f g, s.workFlip 0 .learn = some (f, .active, g) ∧ f.rows < cdiv g.mr 4 ∧
        (f.slots.all (fun j => s.slotHolds 0 j f.rows && s.slotHolds 0 j (Nat.min (f.rows + 1) (cdiv g.mr 4 - 1))) && s.rowFree 0 g f f.rows) = cap.isNone) ∧
    (∀ force ∈ [[], [(⟨0, 1, 1⟩ : InForce)]], let s := wFlip .learn 16 none force
      ∃ f g, s.workFlip 0 .learn = some (f, .active, g) ∧ cdiv g.mr 4 ≤ f.rows ∧ s.coarseFree 0 g f = force.isEmpty) ∧
    (∀ k ∈ [FlipKind.fit, .fold], ∀ force ∈ [[], [(⟨0, 1, 1⟩ : InForce)]], let s := wFlip k 0 none force
      ∃ f g, s.workFlip 0 k = some (f, .active, g) ∧
        (s.slotFree 0 g f && f.slots.all (fun j => s.slotHolds 0 j (cdiv g.mr 4 - 1))) = force.isEmpty) ∧
    (wJob.jobOf .active = some wCtx ∧ (wCtx.sect sectArt).isSome = true ∧ (wCtx.sect (sectPred 0)).isSome = true) := by
  simp only [List.forall_mem_cons]
  exact ⟨⟨⟨{ rep := 1, kind := .learn, rows := 1, slots := [0, 1], first := 1 }, ⟨2 ^ 20, 2 ^ 24, 64, 64, 1⟩, by decide +kernel⟩,
      ⟨{ rep := 1, kind := .learn, rows := 1, slots := [0, 1], first := 1 }, ⟨2 ^ 20, 2 ^ 24, 64, 64, 1⟩, by decide +kernel⟩, by simp⟩,
    ⟨⟨{ rep := 1, kind := .learn, rows := 16, slots := [0, 1], first := 1 }, ⟨2 ^ 20, 2 ^ 24, 64, 64, 1⟩, by decide +kernel⟩,
      ⟨{ rep := 1, kind := .learn, rows := 16, slots := [0, 1], first := 1 }, ⟨2 ^ 20, 2 ^ 24, 64, 64, 1⟩, by decide +kernel⟩, by simp⟩,
    ⟨⟨⟨{ rep := 1, kind := .fit, slots := [0, 1], first := 1 }, ⟨2 ^ 20, 2 ^ 24, 64, 64, 1⟩, by decide +kernel⟩,
        ⟨{ rep := 1, kind := .fit, slots := [0, 1], first := 1 }, ⟨2 ^ 20, 2 ^ 24, 64, 64, 1⟩, by decide +kernel⟩, by simp⟩,
      ⟨⟨{ rep := 1, kind := .fold, slots := [0, 1], first := 1 }, ⟨2 ^ 20, 2 ^ 24, 64, 64, 1⟩, by decide +kernel⟩,
        ⟨{ rep := 1, kind := .fold, slots := [0, 1], first := 1 }, ⟨2 ^ 20, 2 ^ 24, 64, 64, 1⟩, by decide +kernel⟩, by simp⟩, by simp⟩, by decide +kernel⟩

/-- Job 0 of the library, READY, with an artwork section at 8,192, with or without a good header. -/
def wArt (ok : Bool) (p : Option Predict) : State :=
  let s := { at_ .idle with blank := [⟨0, 2 ^ 40, none⟩], predict := p }
  let s := s.dramPut 0 (leBytes 64 (2 + 2 ^ 96 * 4096 + 2 ^ 160))
  let s := s.dramPut 4096 (leBytes 32 (sectArt + 2 ^ 32 * 4096 + 2 ^ 128 * 8192))
  if ok then s.dramPut 8192 (leBytes 64 (1 + 2 ^ 32 * 8 + 2 ^ 64 * 8 + 2 ^ 96 * 16 + 2 ^ 128 * 16)) else s

theorem test_wit_prediction :
    (wArt true none).access .host Pg.MST = .granted ∧ wf (0x40 : Word) 6 1 = 1 ∧ wf (0x40 : Word) 0 6 = 0 ∧
    ((wArt true none).jobState 0 = jobReady ∧ (wArt true none).predict = none ∧ (wArt true none).artBad ((wArt true none).jobCtx 0) = false) ∧
    ((wArt false none).jobState 0 = jobReady ∧ (wArt false none).artBad ((wArt false none).jobCtx 0) = true) ∧
    (wArt true (some ⟨0, []⟩)).predict = some ⟨0, []⟩ := by decide +kernel

/-- Engine 0 in view 0 at line `x.next`, with stitched lines of one value and a master in force. -/
def wEng (x : Eng) (v : ViewSt) : State :=
  { wJob with eng := [(0, x)], view := [(0, v)], mst := [(0, { force := [⟨0, 0, 1⟩] })],
              stitch_ := [(0, { next := 2000, run := some 0, lines := [⟨400, true, [], 0, true⟩, ⟨16, false, [List.replicate 64 (.val 9)], 0, false⟩] })] }
/-- A master of view 0 in force whose flip MST is still writing. -/
def wOpen : Tab MstView := [(0, { force := [⟨0, 0, 1⟩], flips := [{ rep := 0, kind := .learn, slots := [], first := 1, taken := some (0, 0) }] })]
def wFrame : Machine.Frame := { line := 0, zc := 0, count := true, lock := true }

theorem test_wit_fetch :
    let s := wEng { view := some 0, next := 16 } {}
    let x := s.engOf 0
    x.view = some 0 ∧ (∃ g, s.geo x.copy 0 = some g ∧ (s.inForce 0 20).kind = 1 ∧ 0 < g.p ∧ 0 < cdiv g.mw 4 ∧ 0 < cdiv g.mr 4 ∧
      (s.block g (s.inForce 0 20).slot 0 0 0).isSome = true) ∧ x.next ≤ 20 ∧ 20 < (s.sti 0).next ∧ x.blocks = [] ∧ s.rowReady 0 20 0 = true ∧
      ({ s with mst := wOpen } : State).rowReady 0 20 0 = false :=
  ⟨by decide +kernel, ⟨⟨2 ^ 20, 2 ^ 24, 64, 64, 1⟩, by decide +kernel⟩, by decide +kernel⟩

theorem test_wit_fineShift :
    (∀ v ∈ [({} : ViewSt), { frames := [wFrame], updR := 100000 }], let s := wEng { view := some 0, next := 16 } v
     let x := s.engOf 0
     x.view = some 0 ∧ (x.rows = [] ∧ s.tileRowAt 0 x.newJob x.next = (16, 32)) ∧ 16 < 32 ∧ 32 ≤ (s.sti 0).next ∧
      (s.regRuns 0 = true → 32 ≤ s.updLine 0 (s.view_ 0).updR) ∧ (s.tileCols x.copy 0)[0]? = some (0, 64)) ∧
    (let s := wEng { view := some 0, next := 16, rows := [⟨16, 32, []⟩] } {}
     (s.engOf 0).rows = [⟨16, 32, []⟩] ∧ (s.engOf 0).next < 32 ∧ (s.tile (s.engOf 0) 0 16 32 0 64 none none).isSome = true) ∧
    (let s := wEng { view := some 0, next := 16 } { frames := [wFrame], updR := 100000 }
     s.tile (s.engOf 0) 0 16 32 0 64 none none = none) := by decide +kernel

theorem test_wit_compare :
    (let s := wEng { view := some 0, next := 16 } {}
     let x := s.engOf 0
     x.view = some 0 ∧ x.fin = false ∧ s.partEnd 0 x.newJob = none ∧ (s.vline 0 x.next).isSome = true ∧ s.blockOn (Pg.IE 0) Fd.IE_CTL_EN = true ∧
      s.lineWaits x.copy 0 x.next = false ∧ s.coarseWait x 0 x.next = false ∧ x.togo = [] ∧ s.repOf 0 x.next = 0) ∧
    (let s := { wEng { view := some 0, next := 15 } {} with
       mst := wOpen, stitch_ := [(0, { next := 2000, run := some 0, lines := [⟨15, false, [List.replicate 64 (.val 9)], 0, false⟩] })] }
     (s.vline 0 15).isSome = true ∧ s.lineWaits (s.engOf 0).copy 0 15 = false ∧ s.coarseWait (s.engOf 0) 0 15 = true) ∧
    (let s := wEng { view := some 0, next := 400 } { frames := [wFrame] }
     (s.vline 0 400).isSome = true ∧ s.lineWaits (s.engOf 0).copy 0 (s.engOf 0).next = true ∧ s.repOf 0 (s.engOf 0).next ≠ 0) := by decide +kernel

/-- A band of engine 0, all of whose items have been read. -/
def wBand : BandItems := { eng := 0, first := 16, last := 40, key := 44, rep := 1, pieces := [], ahead := [], pres := [], storm := none, cells := [], ends := false }

theorem test_wit_bands :
    (let s := wEng { view := some 0, next := 900, bands := [{ first := 16, last := some 40 }] } {}
     let x := s.engOf 0
     x.view = some 0 ∧ s.partEnd 0 x.newJob = none ∧ x.togo = [] ∧ x.bands = { first := 16, last := some 40 } :: [] ∧ 40 + s.join x.copy 0 + 2 < x.next) ∧
    (at_ .idle).blockOn Pg.MRG Fd.MRG_CTL_EN = false ∧
    (let s := { wJob with eng := [(0, { view := some 0, next := 900 })], resA := { views := [(0, { bands := [wBand] })] } }
     s.blockOn Pg.MRG Fd.MRG_CTL_EN = true ∧ s.nextBand .active 0 = some (wBand :: []) ∧
      ∀ e, e < 8 → (s.engOf e).view = some 0 → (s.engOf e).fin = false ∧ (s.engOf e).togo = [] ∧ (s.engOf e).fifo = []) := by decide +kernel

/-! ### Witnesses: rules, verdicts, records and streams -/

/-- A job with one rule: enabled, with severity taken over (bit 400), no condition. -/
def wRules : JobCtx := { wCtx with sects := (sectRules, 0, 64, leBytes 64 (2 ^ 384 + 2 ^ 400)) :: wCtx.sects }
def wRes (r : Results) : State :=
  let s := set (set (set (set wJob Pg.RUL Fd.HDR_PAGE_CTL_EN 1) Pg.VRD Fd.HDR_PAGE_CTL_EN 1) Pg.VRD Fd.VRD_CTL_EN 1) Pg.RUL ⟨Rg.RUL_CTL, 0, 1⟩ 1
  { s with jobA := some wRules, resA := r }
def wCell : Rec := { bits := recCell, view := 0, key := 0 }

theorem test_wit_rules :
    (let s := wRes { front := [wCell] }
     s.rulCopy = .active ∧ s.jobOf .active ≠ none ∧ (s.res .active).front = wCell :: [] ∧ wCell.type = recCell ∧ wCell.supp = false ∧
      (wf (s.jobRd .active Pg.RUL Rg.RUL_CTL) 0 1 = 1 ∧ s.on Pg.RUL Fd.HDR_PAGE_CTL_EN = true) ∧ s.rulesOn .active = [0] ∧
      s.ruleMatch .active 0 wCell = true ∧ s.ruleF .active 0 400 1 = 1 ∧ s.ruleF .active 0 405 1 = 0 ∧ s.ruleF .active 0 410 1 = 0 ∧
      s.ruleF .active 0 416 1 = 0 ∧ wf ((wJob).jobRd .active Pg.RUL Rg.RUL_CTL) 0 1 = 0) ∧
    (let s := wRes {}
     (s.res s.rulCopy).front = [] ∧ s.nextItem s.rulCopy = none ∧ s.drained s.rulCopy = false) ∧
    ((wRes { ready := [(0, 1)] }).res .active).ready ≠ [] := by decide +kernel

def wSev (sev : Nat) : State := wRes { ready := [(0, 1)], cells := [{ cell := 0, rep := 1, recs := [⟨sev, 3, 2⟩] }] }
theorem test_wit_verdicts :
    (∀ sev ∈ [0, 15], let s := set (wSev sev) Pg.VRD Fd.VRD_SEV_CTL_SEV_FAIL 10
      (s.res (s.vrdCopy fun r => !r.ready.isEmpty)).ready = (0, 1) :: [] ∧ s.vrdCopy (fun r => !r.ready.isEmpty) = .active ∧ s.vrdOn = true ∧ s.mode ≠ .boot ∧
      decide ((s.cellRec .active ((s.res .active).cell 0 1) none).2 = 2) = decide (sev = 15)) ∧
    wJob.vrdOn = false ∧
    (let s := wRes { whole := [4] }
     s.vrdCopy (fun r => !r.whole.isEmpty) = .active ∧ (s.res .active).whole = 4 :: [] ∧ s.vrdOn = true ∧ (s.res .active).front = [] ∧
      (s.res .active).ready = [] ∧ (s.res .active).out = []) ∧
    (∀ n ∈ [1, 2], let s := wRes { views := [(0, { scales := [(n, [])] })] }
      s.enables .active 0 = true ∧ (s.vres .active 0).scales = (n, []) :: [] ∧ s.mode ≠ .changeover ∧ s.resA.steps = [] ∧
      (n + 1 ≤ s.resA.lastRep + 2 ↔ n = 1)) := by decide +kernel

def wCrop : Crop := { view := 0, seed := (100, 8), stripe := (0, 63), planes := 1 }
theorem test_wit_records :
    (∀ n ∈ [50, 2000], let s := { wRes { out := [{ wCell with crop := some wCrop }] } with stitch_ := [(0, { next := n })], tg := [(0, { next := 3000 })] }
      s.resA.cropWait = some (0, { wCell with crop := some wCrop }, wCrop) ∧
      ((List.range 64).filter fun j => decide (16 ≤ wCrop.seed.1 + j)).all (fun j => s.lineDone 0 (wCrop.seed.1 + j - 16)) = decide (n = 2000)) ∧
    (∀ r ∈ [({ startAt := some (5, 6) } : Results), { started := true, out := [wCell] }, { started := true, out := [{ wCell with bits := recEnd }] },
        { started := true }, { started := true, out := [{ wCell with crop := some wCrop }] }],
      let s := wRes r
      ¬(s.mode.job = true ∧ s.dueApply.isSome = true) ∧ ¬(s.resA.endSent = true ∧ s.jobN.isSome = true) ∧ s.jobA = some wRules ∧
      s.mode ≠ .hold ∧ s.mode ≠ .changeover) ∧
    wCell.crop = none ∧ wCell.type ≠ recEnd ∧ ({ wCell with bits := recEnd } : Rec).type = recEnd := by decide +kernel

/-- DEC and its streams, with view 0's generator running and a source at line 100. -/
def wStr (x : Stream) : State :=
  let s := set (set (at_ .inspect) Pg.DEC Fd.HDR_PAGE_CTL_EN 1) Pg.DEC Fd.DEC_SYNC_CTL_PIN_EN 1
  { set s Pg.STR (Fd.STR_S_CTL_EN 0) 1 with
    tg := [(0, { running := true, next := 100 })], stitch_ := [(0, { next := 100 })], stream := [(0, x)] }

theorem test_wit_streams :
    (let s := wStr {}
     s.access .host Pg.DEC = .granted ∧ s.decRuns = true ∧ wf (1 : Word) 0 1 = 1 ∧ (s.atCycle 9).decRuns = true ∧
      (s.atCycle 9).on Pg.DEC Fd.DEC_SYNC_CTL_PIN_EN = true ∧ (s.atCycle 9).on Pg.DEC Fd.DEC_SYNC_CTL_PIN_POL ≠ true ∧
      (s.atCycle 9).fld Pg.DEC Fd.DEC_SYNC_CTL_PIN_FILT + 1 ≤ 65536 ∧
      (∀ v, v < 4 → s.anchorOf { time := s.time } v = none) ∧ (∀ v, v < 4 → (s.atCycle 9).anchorOf { time := (s.atCycle 9).timeAt (rawOfCycle 9) / 65536 } v = none) ∧
      (at_ .idle).decRuns = false) ∧
    (let s := ((wStr {}).touch .host Pg.STR).writeReg Pg.STR (Rg.STR_S_CTL 0) 5
     (wStr {}).access .host Pg.STR = .granted ∧ wf (5 : Word) 2 1 = 1 ∧ wf (1 : Word) 2 1 = 0 ∧ s.on Pg.STR (Fd.STR_S_CTL_EN 0) = true ∧
      (s.tgOf (s.strView 0)).running = true ∧ (s.str_ 0).want = none) ∧
    (∀ k ∈ [64, 128], let s := { wStr { want := some (0, k, false), ask := true } with commits := [] }
      (s.str_ 0).want = some (0, k, false) ∧ s.strView 0 = 0 ∧ (k ≤ s.srcNext 0 ↔ k = 64) ∧ s.on Pg.STR (Fd.STR_S_CTL_EN 0) = true ∧
      (s.str_ 0).ask = true ∧ (s.str_ 0).grids = []) ∧
    (set (wStr {}) Pg.STR (Fd.STR_S_CTL_EN 0) 0).on Pg.STR (Fd.STR_S_CTL_EN 0) = false ∧
    (let o : SOut := ⟨true, List.replicate 16 0, 0, 4096, 4, 64, 0⟩
     ((wStr { outs := [o] }).str_ 0).outs = o :: [] ∧ o.dest = 0) := by decide +kernel

/-- An ADAPT_FREEZE occurrence on the line path. -/
def wData : State := { at_ .inspect with evf := { data := [⟨48, 7, { time := 0, line := some (0, 5) }⟩] } }
theorem test_wit_dataTasks :
    (at_ .inspect).evf.data.find? (at_ .inspect).dataReady = none ∧
    wData.evf.data.find? wData.dataReady = some ⟨48, 7, { time := 0, line := some (0, 5) }⟩ ∧
    wData.dataAnchor ⟨48, 7, { time := 0, line := some (0, 5) }⟩ = some 8197 := by decide +kernel

/-! ### Witnesses: modes, jobs and changeovers -/

/-- A state with jobs: mode, active job, next job (ready or not). -/
def wMode (m : Mode) (a n : Option JobCtx) : State :=
  let s := set (set (at_ m) Pg.SYS Fd.SYS_JOB_STAT_NEXT_READY (b2n n.isSome)) Pg.SYS Fd.SYS_JOB_STAT_NEXT_VALID (b2n n.isSome)
  { set s Pg.MST (Fd.MST_LV_CFG_SLOTS 0) 15 with jobA := a, jobN := n, blank := [⟨0, 2 ^ 40, none⟩] }
def wReq (k : Nat) : Word := BitVec.ofNat 32 (2 ^ 8 + k)

theorem test_wit_modeRequests :
    (∀ k ∈ [1, 2, 3, 4, 6, 7], wf (wReq k) 8 1 = 1 ∧ wf (wReq k) 0 3 = k ∧ wf (wReq k) 3 1 = 0) ∧
    (∀ m ∈ [Mode.idle, .setup, .learn, .inspect, .changeover, .hold], (at_ m).mode = m ∧ (at_ m).access .host Pg.SYS = .granted ∧
      (at_ m).on Pg.SYS Fd.SYS_MODE_REQ_PENDING = false ∧ (at_ m).commits = [] ∧ (at_ m).fld Pg.SYS Fd.SYS_CHG_CTL_STATE ≠ 1) ∧
    (Mode.setup, 3) ∉ [(Mode.idle, 2), (.setup, 1), (.idle, 3), (.idle, 4), (.idle, 6), (.inspect, 3), (.learn, 1), (.inspect, 1), (.legacy, 1), (.hold, 1)] ∧
    (set (at_ .inspect) Pg.SYS Fd.SYS_MODE_REQ_PENDING 1).on Pg.SYS Fd.SYS_MODE_REQ_PENDING = true ∧
    ((at_ .setup).setupBusy = false ∧ ({ at_ .setup with dot := some ⟨0, 1, false, 0, 0, false, []⟩ } : State).setupBusy = true) ∧
    (wMode .inspect (some wCtx) none).jobViews .active = [0] ∧
    (at_ .boot).access .boot Pg.SYS = .granted ∧ (at_ .boot).mode = .boot ∧
    ((set (at_ .hold) Pg.SYS Fd.SYS_MODE_HOLD_CLEARABLE 1).on Pg.SYS Fd.SYS_MODE_HOLD_CLEARABLE = true ∧
      (set (at_ .hold) Pg.SYS Fd.SYS_MODE_HOLD_CLEARABLE 0).on Pg.SYS Fd.SYS_MODE_HOLD_CLEARABLE = false) := by decide +kernel

theorem test_wit_modeStarts :
    (let s := wMode .inspect (some wCtx) none
     let x := (s.touch .host Pg.SYS).writeReg Pg.SYS Rg.SYS_MODE_REQ (wReq 3)
     s.mode = .inspect ∧ s.jobA = some wCtx ∧ (x.relearnFaults .active wCtx).isEmpty = true) ∧
    (wMode .inspect none none).jobA = none ∧
    (let s := wMode .idle none (some wCtx)
     let x := (s.touch .host Pg.SYS).writeReg Pg.SYS Rg.SYS_MODE_REQ (wReq 3)
     s.mode = .idle ∧ s.on Pg.SYS Fd.SYS_MODE_REQ_PENDING = false ∧ s.commits = [] ∧ s.on Pg.SYS Fd.SYS_JOB_STAT_NEXT_READY = true ∧
      s.jobN = some wCtx ∧ (x.relearnFaults .next wCtx).isEmpty = true ∧ wCtx.legacy = false ∧ ({ wCtx with legacy := true } : JobCtx).legacy = true) ∧
    ((wMode .idle none none).on Pg.SYS Fd.SYS_JOB_STAT_NEXT_READY = false ∧ (wMode .idle none none).jobN = none) := by decide +kernel

/-- Job 0 of the library in a state, with no views. -/
def wDir (st : Nat) : State := { at_ .idle with blank := [⟨0, 2 ^ 40, none⟩] }.dramPut 0 (leBytes 64 (st + 2 ^ 32 * 64))
def wJc (k : Nat) : Word := BitVec.ofNat 32 (2 ^ 8 * k)

theorem test_wit_jobCommands :
    (∀ k ∈ [1, 2, 4, 8, 16], wf (wJc k) 8 5 = k ∧ wf (wJc k) 0 6 = 0) ∧
    (∀ st ∈ [jobEmpty, jobLoading, jobReady, jobNext, jobActive, jobRefused], (wDir st).jobState 0 = st ∧
      (wDir st).dirAddr 0 + 64 ≤ (wDir st).capacity ∧ (wDir st).access .host Pg.SYS = .granted ∧ (wDir st).valJob = none) ∧
    ((wDir jobReady).on Pg.SYS Fd.SYS_JOB_STAT_NEXT_VALID = false ∧
      ((((wDir jobReady).touch .host Pg.SYS).writeReg Pg.SYS Rg.SYS_JOB_CTL (wJc 4)).loadFaults ((wDir jobReady).jobCtx 0)).isEmpty = true) ∧
    ({ at_ .idle with valJob := some 0 } : State).valJob = some 0 := by decide +kernel

theorem test_wit_nextJob :
    (let s := wMode .idle none (some wCtx)
     s.access .host Pg.SYS = .granted ∧ s.fld Pg.SYS Fd.SYS_CHG_CTL_STATE = 0 ∧ s.on Pg.SYS Fd.SYS_JOB_STAT_NEXT_VALID = true ∧
      s.dirAddr (s.fld Pg.SYS Fd.SYS_JOB_STAT_NEXT_ID) + 64 ≤ s.capacity) ∧
    (let s := set (wMode .idle none (some wCtx)) Pg.SYS Fd.SYS_JOB_STAT_NEXT_READY 0
     s.on Pg.SYS Fd.SYS_JOB_STAT_NEXT_VALID = true ∧ s.on Pg.SYS Fd.SYS_JOB_STAT_NEXT_READY = false) := by decide +kernel

theorem test_wit_changeoverArm :
    (wf (0x100 : Word) 8 1 = 1 ∧ wf (0x100 : Word) 9 1 = 0 ∧ wf (0x200 : Word) 8 1 = 0 ∧ wf (0x200 : Word) 9 1 = 1) ∧
    (let s := { wMode .inspect (some wCtx) (some wCtx) with view := [(0, { past := true })] }
     let x := (s.touch .host Pg.SYS).writeReg Pg.SYS Rg.SYS_CHG_CTL 0x100
     s.access .host Pg.SYS = .granted ∧ x.armFault = none ∧ x.fld Pg.SYS Fd.SYS_CHG_CTL_TRIGGER ≠ 2) ∧
    (((at_ .idle).touch .host Pg.SYS).writeReg Pg.SYS Rg.SYS_CHG_CTL 0x100).armFault.isSome = true ∧
    (∀ st ∈ [0, 1, 2], let s := set (wMode .inspect (some wCtx) (some wCtx)) Pg.SYS Fd.SYS_CHG_CTL_STATE st
      ((s.touch .host Pg.SYS).writeReg Pg.SYS Rg.SYS_CHG_CTL 0x200).fld Pg.SYS Fd.SYS_CHG_CTL_STATE = st ∧ s.enables .active 0 = true ∧
      s.commits = []) := by decide +kernel

theorem test_wit_changeoverRun :
    (let s := { set (wMode .changeover (some { wCtx with viewEn := 1 }) (some { wCtx with viewEn := 2 })) Pg.SYS Fd.SYS_CHG_CTL_STATE 2 with
       view := [(0, { chg := some 64 }), (1, { entering := true })], tg := [(0, { next := 64 })] }
     (s.view_ (s.lowView .active)).chg = some 64 ∧ s.commits = [] ∧ s.fld Pg.SYS Fd.SYS_CHG_CTL_STATE ≠ 0 ∧ (s.view_ 1).entering = true ∧
      (s.view_ 1).started = false ∧ s.enables .next (s.lowView .active) = false ∧ (s.tgOf (s.lowView .active)).running = false ∧
      64 ≤ s.nextLine (s.lowView .active)) ∧
    (let s := { wMode .changeover (some wCtx) (some wCtx) with view := [(0, { past := true })], resA := { endSent := true } }
     s.jobA = some wCtx ∧ s.jobN = some wCtx ∧ s.mode = .changeover ∧ s.resA.endSent = true ∧
      (∀ v, v < 4 → tbit wCtx.viewEn v = true ∨ tbit wCtx.viewEn v = true → (s.view_ v).past = true)) ∧
    (∀ next ∈ [60, 64], let s := { wMode .inspect (some wCtx) none with view := [(0, { endAt := some 64, past := true })], tg := [(0, { running := true, next := next })] }
      (s.view_ 0).endAt = some 64 ∧ s.commits = [] ∧ s.mode.job = true ∧ (s.view_ 0).ended = false ∧ (s.tgOf 0).running = true ∧
      s.enables .active 0 = true ∧ s.fld Pg.SYS Fd.SYS_CHG_CTL_STATE ≤ 1 ∧ (next = 60 → s.nextLine 0 < 64) ∧ (next = 64 → 64 ≤ s.nextLine 0) ∧ (s.view_ 0).past = true ∧ (∀ p ∈ s.portsOf 0, (s.intk p).next = none)) ∧
    (let s := { wMode .inspect (some wCtx) none with view := [(0, { endAt := some 64 })] }
     s.enables .active 0 = true ∧ (s.view_ 0).endAt = some 64 ∧ (s.view_ 0).ended = false ∧ (s.tgOf 0).running = false ∧
      s.fld Pg.SYS Fd.SYS_CHG_CTL_STATE ≤ 1 ∧ (∀ p ∈ s.portsOf 0, (s.intk p).next = none)) := by decide +kernel

theorem test_wit_jobStarts :
    (∀ k ∈ [3, 4, 6], wf (wReq k) 8 1 = 1 ∧ wf (wReq k) 0 3 = k ∧ (wMode .idle none (some wCtx)).access .host Pg.SYS = .granted) ∧
    (let s := wMode .idle none (some { wCtx with legacy := true })
     s.mode = .idle ∧ s.on Pg.SYS Fd.SYS_MODE_REQ_PENDING = false ∧ s.commits = [] ∧ s.on Pg.SYS Fd.SYS_JOB_STAT_NEXT_READY = true ∧
      s.jobN = some { wCtx with legacy := true } ∧ tbit wCtx.viewEn 0 = true) ∧
    (wf (0x109 : Word) 8 1 = 1 ∧ wf (0x109 : Word) 0 3 = 1 ∧ wf (0x109 : Word) 3 1 = 1) ∧
    (∀ m ∈ [Mode.learn, .inspect, .legacy], let s := wMode m (some wCtx) none
      s.access .host Pg.SYS = .granted ∧ s.mode = m ∧ s.on Pg.SYS Fd.SYS_MODE_REQ_PENDING = false ∧ s.fld Pg.SYS Fd.SYS_CHG_CTL_STATE ≠ 1 ∧
      s.jobViews .active = [0]) := by decide +kernel

/-! ### Witnesses: the network -/

/-- Port 0 up, with an address, its MTU and ARP entries; NET on. -/
def wNet (m : Mode) (n : Net) : State :=
  let e := Pg.ETH 0
  let s := set (set (set (set (at_ m) e Fd.HDR_PAGE_CTL_EN 1) e Fd.ETH_CTL_EN 1) e Fd.ETH_STAT_LINK 1) e Fd.ETH_IP_CTL_ICMP_EN 1
  let s := ((s.wr e Rg.ETH_MAC_LO 0x11).wr e Rg.ETH_IP_ADDR 0x0A000001).wr e Rg.ETH_IP_MASK 0xFFFFFF00
  let s := set (set (set s e Fd.ETH_MTU_MTU 1500) Pg.NET Fd.HDR_PAGE_CTL_EN 1) Pg.NET Fd.NET_CTL_EN 1
  { set s Pg.NET Fd.NET_CTL_WCP_EN 1 with net := n, blank := [⟨0, 2 ^ 40, none⟩] }
def wUdp : RxFrame :=
  { dst := 0x11, vid := none, bytes := 100, fcsOk := true, lenOk := true, type := 0x0800, options := false, fragment := false, proto := 17,
    dstIp := 0x0A000001, dstPort := 0, sumOk := true }
def wArp (mac sent : Option Nat) : Net := { arp := [⟨0, 0x0A000005, mac, sent⟩] }

theorem test_wit_frames :
    (let s := wNet .inspect {}
     s.ethUp 0 = true ∧ s.ethSends 0 = true ∧ s.rxTakes 0 { wUdp with dst := 0x22 } = false ∧
      s.rxTakes 0 { wUdp with proto := 1 } = true ∧ s.rxTakes 0 { wUdp with dstPort := 319 } = true ∧ s.on (Pg.ETH 0) Fd.ETH_STAT_LINK = true ∧ s.blockOn (Pg.ETH 0) Fd.ETH_CTL_EN = true ∧
      s.ownIp 0 = 0x0A000001 ∧ s.net.arp.length < 1088 ∧ s.on (Pg.ETH 0) Fd.ETH_IP_CTL_ICMP_EN = true ∧ isGroup 0x0A000005 = false ∧
      s.nextHop 0 0x0A000005 = 0x0A000005 ∧ s.arpOf 0 0x0A000005 = none) ∧
    ((at_ .inspect).ethUp 0 = false ∧ (at_ .inspect).ethSends 0 = false ∧ (at_ .inspect).on (Pg.ETH 0) Fd.ETH_STAT_LINK = false ∧
      (at_ .inspect).blockOn (Pg.ETH 0) Fd.ETH_CTL_EN = false) ∧
    (∀ mac ∈ [none, some 7], ∀ k ∈ [none, some 0, some 9], let s := wNet .inspect (wArp mac k)
      s.arpOf 0 0x0A000005 = some ⟨0, 0x0A000005, mac, k⟩ ∧ s.nextHop 0 0x0A000005 = 0x0A000005) ∧
    (0 ≤ (wNet .inspect {}).fld (Pg.ETH 0) Fd.ETH_ARP_CTL_RETRY ∧ (wNet .inspect {}).fld (Pg.ETH 0) Fd.ETH_ARP_CTL_RETRY < 9) := by decide +kernel

/-- Session 3: open, port 0, its address, its TTL and interval in range. -/
def wSess (m : Mode) (x : Sess) (act : Nat) : State :=
  let s := wNet m { sess := [(3, x)] }
  let e := 1 + 2 * act + 2 ^ 32 * 0x0A000005 + 2 ^ 64 * 5000 + 2 ^ 256 * 16 + 2 ^ 264 * 10
  (s.setWinBits (sessActiveAt 3) 0 288 e).setWinBits (sessShadowAt 3) 0 288 e

theorem test_wit_sessions :
    (∀ m ∈ [Mode.inspect, .setup], (wSess m {} 0).access .host Pg.NET = .granted ∧ sessBad ((wSess m {} 0).sessShadow 3) = false ∧
      (wSess m {} 0).mode.job = decide (m = .inspect)) ∧
    sessBad ((wNet .setup {}).sessShadow 3) = true ∧ wf (0x10003 : Word) 16 1 = 1 ∧ wf (0x10003 : Word) 0 10 = 3 ∧
    (wSess .setup {} 0).dueApply = none ∧
    (wNet .setup { applies := [⟨3, [1, 2], 0, 0, none⟩] }).dueApply = some ⟨3, [1, 2], 0, 0, none⟩ ∧
    (let s := wSess .setup { fill := [1, 2] } 0
     (s.sess 3).fill ≠ [] ∧ (s.sess 3).fill.length + (s.owedGaps 3).length ≤ s.recLimit 3 ∧ s.netOn = true ∧ s.seOpen 3 = true ∧
      s.seAct 3 = false ∧ s.owedGaps 3 = []) ∧
    ((wSess .setup {} 1).seAct 3 = true ∧ ((wSess .setup {} 1).sess 3).fill = [] ∧ (at_ .setup).netOn = false) ∧
    (let s := wSess .setup {} 0
     s.ethUp 0 = true ∧ s.se 3 3 1 ≠ 1 ∧ s.seIp 3 = 0x0A000005 ∧ s.se 3 64 16 = 5000 ∧ 0 / 2 ^ 48 = (s.sess 3).epoch ∧
      (if (s.sess 3).nackAt = (s.atNs 0).rawNs / 10 ^ 9 then (s.sess 3).nackIn else 0) < 1000) := by decide +kernel

theorem test_wit_hostAndKeys :
    ((wNet .setup {}).access .host Pg.NET = .granted ∧ wf (0x100 : Word) 8 1 = 1 ∧
      (wNet .setup { keyLoad := [1, 2, 3, 4, 5, 6, 7] }).net.keySlot = (wNet .setup {}).fld Pg.NET Fd.NET_KEY_SEL_b0) ∧
    (let s := set (wNet .legacy {}) Pg.NET Fd.NET_WX8_CTL_EN 1
     s.wx8On = true ∧ s.fld Pg.NET Fd.NET_WX8_CTL_PORT = 0 ∧ s.ethUp 0 = true) ∧
    (at_ .setup).wx8On = false ∧
    (let s := set { at_ .setup with blank := [⟨0, 2 ^ 40, none⟩] } Pg.PCIE Fd.PCIE_STAT_LINK_UP 1
     s.on Pg.PCIE Fd.PCIE_STAT_LINK_UP = true ∧ s.mode ≠ .boot ∧ s.outOfRange 8192 4 = false ∧ (∀ j, j < 64 → s.inJob j 8192 4 = false) ∧
      s.dramBad 8192 4 = false ∧ s.dramBad (2 ^ 40) 4 = true) ∧
    (at_ .setup).on Pg.PCIE Fd.PCIE_STAT_LINK_UP = false := by decide +kernel

/-- A request with its MAC under key 0, whose bytes are 1, and the state that holds that key. -/
def wMsg (c arg0 arg1 arg2 nonce : Nat) (payload : List Byte) : WcpMsg :=
  let m : WcpMsg := ⟨0, 0x0A000005, 5000, 0x4357, 1, 0, payload.length, nonce, arg0, arg1, arg2, 0, payload⟩
  { m with mac := leNat ((hmacSha256 (List.replicate 32 1) (wcpHeader c m 0 0 m.len arg0 arg1 arg2 0 ++ payload)).take 16) }
def wWcp (n : Net) : State := wNet .idle { n with keys := [(0, List.replicate 32 1)] }

theorem test_leBytes (l : List Byte) : leBytes l.length (leNat l) = l := by
  induction l with
  | nil => rfl
  | cons b t ih =>
    have h : (b.toNat + 256 * leNat t) / 256 = leNat t := by have := b.isLt; omega
    have h' : BitVec.ofNat 8 ((b.toNat + 256 * leNat t) % 256) = b := by
      apply BitVec.eq_of_toNat_eq; have := b.isLt; simp [BitVec.toNat_ofNat]; omega
    show BitVec.ofNat 8 ((b.toNat + 256 * leNat t) % 256) :: leBytes t.length ((b.toNat + 256 * leNat t) / 256) = b :: t
    rw [h, h', ih]

theorem test_sha256 (l : List Byte) : (sha256 l).length = 32 := by
  have b : ∀ w, (beBytes 4 w).length = 4 := fun _ => rfl
  have f : ∀ (n : List Nat) (g : Nat → List Byte) (h : List Nat), h.length = 8 → (n.foldl (fun h i => shaAbsorb h (g i)) h).length = 8 := by
    intro n g
    induction n with
    | nil => exact fun _ h => h
    | cons a n ih => exact fun h _ => ih _ (by simp [shaAbsorb])
  simp only [sha256, List.length_flatMap, b, List.map_const', f _ _ _ (by decide +kernel : ((smallPrimes.take 8).map (rootFraction 2)).length = 8)]
  rfl

theorem test_wit_wcpMacs (c arg0 arg1 arg2 nonce : Nat) (payload : List Byte) :
    (wWcp {}).wcpMacOk c (wMsg c arg0 arg1 arg2 nonce payload) = true := by
  have k : (wWcp {}).wcpKey 0 = List.replicate 32 1 := by decide +kernel
  have l : ∀ x : List Byte, leBytes 16 (leNat ((sha256 x).take 16)) = (sha256 x).take 16 := by
    intro x
    have := test_leBytes ((sha256 x).take 16)
    rwa [show ((sha256 x).take 16).length = 16 by simp [test_sha256]] at this
  show (!((wWcp {}).wcpKey 0).isEmpty && (hmacSha256 ((wWcp {}).wcpKey 0) _).take 16 == leBytes 16 _) = true
  rw [k]
  refine Bool.and_eq_true_iff.mpr ⟨rfl, beq_iff_eq.mpr (l _).symm⟩

theorem test_wit_wcpChecks :
    (let s := wWcp {}
     s.netOn = true ∧ s.on Pg.NET Fd.NET_CTL_WCP_EN = true ∧ s.ethUp 0 = true ∧ s.net.wcpBusy = none ∧ s.access .net Pg.SYS = .granted ∧
      (tabGet (dflt none) s.net.nonce 0).getD s.net.floor = 0) ∧
    (let m : WcpMsg := ⟨0, 0x0A000005, 5000, 0x4357, 1, 0, 8, 5, 0, 0, 0, 0, List.replicate 8 1⟩
     (wWcp {}).wcpFramed m = true ∧ (wWcp {}).wcpFramed { m with magic := 0 } = false ∧ (wWcp {}).wcpMacOk wcpRegRead { m with keyId := 1 } = false) ∧
    (∀ m : WcpMsg, (wWcp { wcpBusy := some (wcpJobCmd, m) }).net.wcpBusy.isSome = true) ∧ (wWcp { nonce := [(0, some 9)] }).net.nonce = [(0, some 9)] :=
  ⟨by decide +kernel, by decide +kernel, fun _ => rfl, rfl⟩

def wMode2 : WcpMsg := ⟨0, 0, 0, 0, 0, 0, 0, 0, 2, 0, 0, 0, []⟩

theorem test_wit_wcpBodies :
    (inBar0 64 && inBar0 (64 + 4 * 1 - 4)) = true ∧ (inBar0 0x500000 && inBar0 (0x500000 + 4 * 1 - 4)) = false ∧ 4 * 1 ≤ (wWcp {}).mtu 0 - 76 ∧
    (wWcp {}).mtu 0 - 76 < 2000 ∧
    (wWcp {}).jobCmdOk 0x100 = true ∧ (wWcp {}).jobCmdOk 0x1000 = false ∧
    ((set (wWcp {}) Pg.SYS Fd.SYS_MODE_REQ_PENDING 1).wcpFinished wcpModeCmd wMode2 = false ∧
      (wWcp {}).wcpFinished wcpModeCmd wMode2 = true) ∧
    (let s := ((wWcp {}).wr Pg.NET Rg.NET_BULK_SIZE 1).wr Pg.NET Rg.NET_READ_SIZE 1
     inUnits (s.rd Pg.NET Rg.NET_BULK_BASE).toNat (s.rd Pg.NET Rg.NET_BULK_SIZE).toNat 64 8 = true ∧ s.inReadWindow 64 8 = true ∧
      (s.memRead 3 64 8).2 = some (List.replicate 8 0)) ∧
    (inUnits ((wWcp {}).rd Pg.NET Rg.NET_BULK_BASE).toNat ((wWcp {}).rd Pg.NET Rg.NET_BULK_SIZE).toNat 64 8 = false ∧
      (wWcp {}).inReadWindow 64 8 = false) := by decide +kernel

theorem test_wit_wcpModeAndJob :
    (let s := wWcp {}
     let y := (s.refusal 0).modeReq .net (wfSet (BitVec.ofNat 32 2) 8 1 1)
     y.fld Pg.SYS Fd.SYS_MODE_REFUSAL = 0) ∧
    (let s := wWcp {}
     let y := (s.refusal 0).modeReq .net (wfSet (BitVec.ofNat 32 4) 8 1 1)
     y.fld Pg.SYS Fd.SYS_MODE_REFUSAL ≠ 0) := by decide +kernel

/-! ### Witnesses: locks, leases, registers and commits -/

def wPosPage : Fin 128 := ⟨Pg.POS, by decide⟩
def wLock (holder : Nat) : State := set (at_ .idle) Pg.POS Fd.HDR_LOCK_HOLDER holder
def wGuard : State := set (at_ .idle) Pg.POS Fd.HDR_OWNER_GUARD 1

theorem test_wit_locks :
    ((wLock 0).reaches .host wPosPage = true ∧ (pageAt wPosPage).isSome = true ∧ (wf (1 : Word) 0 1 = 1 ∧ wf (1 : Word) 1 1 = 0) ∧
      (wf (2 : Word) 0 1 = 0 ∧ wf (2 : Word) 1 1 = 1) ∧ (wLock 0).permits (ownerCode .host) wPosPage = true ∧ (wLock 0).lockHolder wPosPage = 0) ∧
    (wGuard.permits (ownerCode .host) wPosPage = false ∧ wGuard.reaches .host wPosPage = true) ∧
    ((wLock 5).permits (ownerCode .host) wPosPage = true ∧ (wLock 5).lockHolder wPosPage ≠ 0) ∧
    (wLock (ownerCode .host)).lockHolder wPosPage = ownerCode .host ∧
    ((at_ .boot).reaches .host wPosPage = false ∧ pageAt 127 = none) := by decide +kernel

theorem test_wit_leases :
    (let s := wLock 5
     let lim := s.fld Pg.SUPV1 Fd.SUPV1_LOCK_TO_b0
     lim ≠ 0 ∧ tabGet (dflt 0) s.lockAt wPosPage + lim * 10 ^ 9 * 65536 ≤ (s.atNs (10 ^ 12)).raw ∧
      (s.atNs 0).raw < tabGet (dflt 0) s.lockAt wPosPage + lim * 10 ^ 9 * 65536) ∧
    (let s := at_ .inspect
     s.on Pg.SUPV1 Fd.SUPV1_CTL_LEASE_EN = true ∧ Pg.STI ∈ stagePages ∧ s.on Pg.STI Fd.HDR_PAGE_STAT_BUSY = false ∧ Pg.POS ∉ stagePages) ∧
    (((at_ .idle).setQ 3 { creds := [(8 + ownerCode .host, 2)] }).q 3).credOf (8 + ownerCode .host) ≠ 0 ∧
    ((at_ .idle).q 3).credOf (8 + ownerCode .host) = 0 ∧
    (∀ m ∈ [Mode.inspect, .hold], ∀ l ∈ [[], [Pg.STI]], let s := { set (at_ m) Pg.SUPV1 Fd.SUPV1_STAT_DRAIN_ACTIVE 1 with revoking := l }
      s.on Pg.SUPV1 Fd.SUPV1_STAT_DRAIN_ACTIVE = true ∧ s.mode = m ∧ s.revoking = l ∧ s.earliest = 7 ∧ s.toSend .active + s.toSend .next = 0) ∧
    (at_ .inspect).on Pg.SUPV1 Fd.SUPV1_STAT_DRAIN_ACTIVE = false := by decide +kernel

theorem test_wit_pinsAndLog :
    ((at_ .idle).access .host Pg.SUPV0 = .granted ∧ wf (4 : Word) 2 1 = 1 ∧ (at_ .idle).mode ≠ .hold ∧
      (set (at_ .hold) Pg.SYS Fd.SYS_MODE_HOLD_ENTRY 3).mode = .hold ∧
      (set (at_ .hold) Pg.SYS Fd.SYS_MODE_HOLD_ENTRY 3).fld Pg.SYS Fd.SYS_MODE_HOLD_ENTRY ≠ 0xFF) ∧
    (∀ p ∈ [Pg.SUPV0, Pg.SYS], (at_ .idle).reaches .host p = true ∧ (at_ .boot).reaches .host p = false) ∧
    (∀ b : Fin 2, (at_ .idle).access .host (pinPage b) = .granted ∧ (at_ .idle).access .boot (pinPage b) = .granted ∧
      (at_ .inspect).access .host (pinPage b) = .granted) ∧ (at_ .inspect).mode ≠ .idle ∧ (at_ .inspect).mode ≠ .setup := by decide +kernel

def wPend_ : Pend := { at_ := 0, snap := [], parts := [⟨[(Pg.MRG * 4096 + 0x44, 7)], .line 0 64, [0]⟩], lines := [] }
def wCmt (m : Mode) (run : Bool) (next : Nat) (p : Option Pend) : State :=
  { at_ m with tg := [(0, { running := run })], entered := [(4 * Pg.MRG, next)], commits := match p with | none => [] | some c => [(Pg.MRG, some c)] }

theorem test_wit_commits :
    (∀ p ∈ [Pg.MRG, Pg.IE 0], (at_ .idle).access .host p = .granted ∧ (at_ .inspect).access .host p = .granted ∧ (pageAt p).isSome = true) ∧
    (((at_ .idle).committed Pg.MRG).mrgBad = false ∧ ((wCmt .inspect true 0 none).committed Pg.MRG).mrgBad = false ∧
      (((at_ .idle).wrShadow Pg.MRG (Rg.MRG_REC_LIMIT 0) 0).committed Pg.MRG).mrgBad = true) ∧
    (wf (1 : Word) 0 1 = 1 ∧ wf (1 : Word) 1 3 ≤ 4 ∧ wf (9 : Word) 1 3 = 4 ∧ wf (9 : Word) 0 1 = 1 ∧ 4 < wf (11 : Word) 1 3 ∧ wf (11 : Word) 0 1 = 1) ∧
    ((wCmt .inspect true 0 (some wPend_)).pend Pg.MRG).isSome = true ∧
    ((at_ .idle).mode = .idle ∧ (∀ v, v < 4 → (at_ .idle).running v = false) ∧ (at_ .idle).pend Pg.MRG = none ∧ (at_ .idle).pend (Pg.IE 0) = none) ∧
    (let s := wCmt .inspect true 0 none
     s.mode.job = true ∧ s.running 0 = true ∧ s.pend Pg.MRG = none ∧ s.pend (Pg.IE 0) = none ∧ s.access .host Pg.MRG = .granted) ∧
    (∀ next ∈ [60, 64], let s := wCmt .inspect true next (some wPend_)
      s.pend Pg.MRG = some wPend_ ∧ s.running 0 = true ∧ wPend_.lines = [] ∧ (s.stageNext Pg.MRG 0 < 64 ↔ next = 60)) ∧
    wPend_.parts = [⟨[(Pg.MRG * 4096 + 0x44, 7)], .line 0 64, [0]⟩] := by decide +kernel

theorem test_wit_registers :
    (∃ r, regDefAt (Pg.POS * 4096 + 0x40) = some r ∧ r.wro = 0) ∧ (at_ .idle).access .host Pg.POS = .granted ∧
    wGuard.access .host Pg.POS = .guard ∧ (wLock 5).access .host Pg.POS = .lock ∧ (at_ .boot).access .host Pg.POS = .absent ∧
    pageAt (0x500000 / 4096) = none ∧ (∀ p ∈ [Pg.DMA, Pg.QF, Pg.ZIP], (at_ .idle).reaches .host p = true ∧
      (at_ .idle).on p Fd.HDR_PAGE_STAT_BUSY = false ∧ (set (at_ .idle) p Fd.HDR_PAGE_STAT_BUSY 1).on p Fd.HDR_PAGE_STAT_BUSY = true ∧
      (pageAt p).isSome = true) ∧ wf (3 : Word) 1 1 = 1 ∧ wf (1 : Word) 1 1 = 0 :=
  ⟨⟨_, by rfl, by decide +kernel⟩, by decide +kernel⟩

/-! ### Witnesses: boot, fuses and flash -/

/-- CRC-32C over a list with its register forced at every byte, so that the kernel evaluates long lists. -/
def crcF : Nat → List Byte → Nat
  | c, [] => c
  | c, b :: t => match crc32cByte c b with
    | 0 => crcF 0 t
    | n + 1 => crcF (n + 1) t

theorem crcF_eq (l : List Byte) : ∀ c, l.foldl crc32cByte c = crcF c l := by
  induction l with
  | nil => intro c; rfl
  | cons b t ih =>
    intro c
    have h : ∀ x, crcF x t = (match x with | 0 => crcF 0 t | n + 1 => crcF (n + 1) t) := fun x => by cases x <;> rfl
    exact (ih _).trans (h _)

theorem crc32c_eq : crc32c = fun l => crcF 0xFFFFFFFF l ^^^ 0xFFFFFFFF := funext fun l => by rw [crc32c, crcF_eq]

/-- The fuses of a device with nothing blown but the CRC of the area after the customer's. -/
def wFuse : Nat := 2 ^ 4064 * 0xB0225259
/-- An image of one section, 4 bytes for the table windows, with its checks. -/
def wTable : List Byte := leBytes 32 (2 + 2 ^ 32 * 4 + 2 ^ 64 * 4 + 2 ^ 96 * 0x29308CF4 + 2 ^ 128 * 288 + 2 ^ 192 * 0x100000)
def wHead : List Byte := leBytes 252 (0x36315857 + 2 ^ 32 + 2 ^ 96 * 292 + 2 ^ 128 + 2 ^ 192 * 0xA2BA71D3)
def wImage : List Byte := wHead ++ leBytes 4 (0xBD38161F) ++ wTable ++ [1, 2, 3, 4]
def wRecord : List Byte :=
  let b := leBytes 20 (0x544D4F43 + 2 ^ 64 * 7 + 2 ^ 96 * 292 + 2 ^ 128 * 0x4967F963)
  b ++ leBytes 4 0xC80BE5D7
def wBoot (sel : Fin 4) (ok : Bool) (a : FlashSlot) : BootIn := ⟨sel, 0, 0, ok, a, ⟨[], []⟩, 0, 0, none, []⟩
def wAt (warm step : Nat) (wait : Bool) : State :=
  { set (set (at_ .boot) Pg.BOOT Fd.BOOT_STAT_WARM warm) Pg.BOOT Fd.BOOT_STAT_STEP step with fuse := wFuse, bootWait := wait }

theorem test_wit_boot :
    (∀ warm ∈ [0, 1], (wAt warm 0 false).mode = .boot ∧ (wAt warm 0 false).fld Pg.BOOT Fd.BOOT_STAT_STEP = 0 ∧
      (wAt warm 0 false).fld Pg.BOOT Fd.BOOT_STAT_WARM = warm) ∧ tbit wFuse 257 = false ∧
    ((wBoot 2 true ⟨[], []⟩).repairOk = true ∧ (wBoot 2 true ⟨[], []⟩).sel = 2 ∧ (wBoot 3 false ⟨[], []⟩).repairOk = false) ∧
    (recordGen 0 ⟨[], []⟩ = none ∧ recordGen 1 ⟨[], []⟩ = none) := by decide +kernel

theorem test_wit_fuseCrc : fuseCrcOk (wFuse ||| 0) = true ∧ fuseCrcOk 0 = false := by
  unfold fuseCrcOk
  rw [crc32c_eq]
  decide +kernel

theorem test_wit_record : recordGen 0 ⟨wRecord, wImage⟩ = some 7 := by
  unfold recordGen
  rw [crc32c_eq]
  decide +kernel

theorem test_wit_image : checkImage wFuse wImage slotLimit = .pass 0 292 false [⟨2, 0x100000, [1, 2, 3, 4]⟩] ∧
    checkImage wFuse wImage 292 = .pass 0 292 false [⟨2, 0x100000, [1, 2, 3, 4]⟩] ∧
    checkImage wFuse (List.replicate 292 0) 292 = .reject imgCrc 0 := by
  unfold checkImage
  rw [crc32c_eq]
  decide +kernel

/-- The image in the load window, and what a write of HOST_LOAD reads of it. -/
def wLoad : State := { wAt 0 5 true with window := (List.range 73).map fun i => (0x800000 + 4 * i, leWord wImage i) }
def wGo : Word := BitVec.ofNat 32 (2 ^ 31 + 292)
def wRead (s : State) : List Byte := (wordBytes ((List.range ((wf wGo 0 24 + 3) / 4)).map fun i => s.win (0x800000 + 4 * i))).take (wf wGo 0 24)

theorem test_wit_hostLoad :
    wLoad.access .host Pg.PCIE = .granted ∧ wf wGo 31 1 = 1 ∧ wLoad.bootWait = true ∧ wf wGo 0 24 ≤ loadLimit ∧ wf wGo 0 24 = 292 ∧
    wLoad.fuse = wFuse ∧ (wAt 0 5 true).fuse = wFuse ∧ wRead wLoad = wImage ∧ wRead (wAt 0 5 true) = List.replicate 292 0 ∧ imgCrc < 256 := by
  decide +kernel

theorem test_wit_release :
    (wAt 0 3 false).mode = .boot ∧ (wAt 0 3 false).fld Pg.BOOT Fd.BOOT_STAT_STEP = 3 ∧ (wAt 0 3 false).commits = [] ∧ State.reset.trained = [] ∧
    ({ State.reset with trained := [1] } : State).trained ≠ [] := by decide +kernel

theorem test_wit_fusesAndFlash :
    (∀ m ∈ [Mode.idle, .inspect], (at_ m).access .host Pg.FUSE = .granted ∧ (at_ m).mode = m) ∧
    (set (at_ .idle) Pg.FUSE Fd.HDR_LOCK_HOLDER 5).access .host Pg.FUSE ≠ .granted ∧
    (wf (0x80000100 : Word) 31 1 = 1 ∧ wf (0x80000100 : Word) 0 31 < 512 ∧ 512 ≤ wf (0x80000200 : Word) 0 31) ∧
    (∀ busy ∈ [0, 1], let s := set (set (set (at_ .idle) Pg.QSPI Fd.HDR_PAGE_CTL_EN 1) Pg.QSPI Fd.QSPI_CTL_EN 1) Pg.QSPI Fd.QSPI_STAT_BUSY busy
      s.access .host Pg.QSPI = .granted ∧ s.blockOn Pg.QSPI Fd.QSPI_CTL_EN = true ∧ s.on Pg.QSPI Fd.QSPI_STAT_BUSY = decide (busy = 1)) ∧
    (let s := (at_ .idle).wr Pg.QSPI Rg.QSPI_PROT_LIMIT 0xFFFF
     wf (0x80020100 : Word) 17 1 = 1 ∧ wf (0x80020100 : Word) 8 2 = 1 ∧ s.flashProtected ((s.rd Pg.QSPI Rg.QSPI_ADDR).toNat % 2 ^ 24) = true) ∧
    (let s := set (set (at_ .idle) Pg.QSPI Fd.QSPI_POLL_EN 1) Pg.QSPI Fd.QSPI_CMD_WRITE_OP 1
     s.on Pg.QSPI Fd.QSPI_POLL_EN = true ∧ s.on Pg.QSPI Fd.QSPI_CMD_WRITE_OP = true ∧
      (set s Pg.QSPI Fd.QSPI_CMD_b15 1).fld Pg.QSPI Fd.QSPI_CMD_b15 = 1 ∧ (set s Pg.QSPI Fd.QSPI_CMD_b15 2).fld Pg.QSPI Fd.QSPI_CMD_b15 = 2) := by
  decide +kernel

/-! ### Witnesses: health and test -/

def wHlth (m : Mode) (h : Health) : State :=
  let g := Pg.HLTH
  { set (set (set (set (at_ m) g Fd.HDR_PAGE_CTL_EN 1) g Fd.HLTH_CTL_EN 1) g Fd.HLTH_CTL_b1 1) g Fd.HLTH_AVS_CTL_EN 1 with hlth := h }

theorem test_wit_calibrations :
    (let s := wHlth .idle {}
     s.access .host Pg.HLTH = .granted ∧ wf (0x101 : Word) 8 1 = 1 ∧ wf (0x101 : Word) 0 4 = 1 ∧ 2 < wf (0x105 : Word) 0 4 ∧ s.hlthOn = true ∧
      s.calOf 1 = none ∧ s.on Pg.HLTH Fd.HLTH_CTL_b1 = true ∧ s.calRuns 3 0 = true ∧ s.calRuns 1 0 = false) ∧
    (at_ .boot).hlthOn = false ∧
    (let s := wHlth .idle { cal := [(1, some {})] }
     s.calOf 1 = some {} ∧ s.calRuns 1 0 = true ∧ codesAgree [1, 2] [2, 2] = true ∧ codesAgree [1] [4] = false ∧
      ((s.calOf (calKey 1 0)).getD {}).attempts + 1 < 4) ∧
    4 ≤ (((wHlth .idle { cal := [(1, some { attempts := 3 })] }).calOf (calKey 1 0)).getD {}).attempts + 1 := by decide +kernel

theorem test_wit_memoryTestAndTap :
    (let s := wHlth .setup {}
     s.access .host Pg.HLTH = .granted ∧ wf (1 : Word) 0 1 = 1 ∧ s.mode = .setup ∧ s.fld Pg.HLTH Fd.HLTH_MBIST_STAT_STATE ≠ 1 ∧
      s.mbistRange.2 ≤ s.capacity ∧ s.mode.job = false) ∧
    ((at_ .inspect).mode.job = true ∧ (at_ .idle).mode.job = false ∧ (at_ .idle).mode ≠ .setup ∧ (at_ .inspect).access .host Pg.HLTH = .granted ∧
      (at_ .idle).access .host Pg.HLTH = .granted) ∧
    (let s := set (at_ .setup) Pg.HLTH Fd.HLTH_MBIST_STAT_STATE 1
     s.fld Pg.HLTH Fd.HLTH_MBIST_STAT_STATE = 1 ∧ s.memOk = true) ∧
    (tapTakes 0 = true ∧ tapTakes 1 = false) := by decide +kernel

theorem test_wit_monitors :
    (wHlth .idle {}).hlthOn = true ∧ (wHlth .idle {}).calOf 1 = none ∧ (wHlth .idle {}).calOf 2 = none ∧ (at_ .boot).hlthOn = false ∧
    (let s := wHlth .idle {}
     s.on Pg.HLTH Fd.HLTH_AVS_CTL_EN = true ∧ s.on Pg.HLTH Fd.HLTH_AVS_STAT_LOST = false ∧ s.hlth.expo = none) ∧
    (wHlth .idle { expo := some (-8) }).hlth.expo = some (-8) ∧ (wHlth .idle {}).hlth.known = false ∧
    (∀ r ∈ [0, 2000], ∀ hi ∈ [0, 10],
      let s := wHlth .idle { expo := some (-8), known := true, low := some r }
      s.hlth.expo = some (-8) ∧ s.hlth.known = true ∧ s.hlth.retry = 0 ∧ (hi = 0 → r = 2000 →
        (set s Pg.HLTH Fd.HLTH_AVS_TGT_TARGET 100).avsNext 700 r hi = 700)) ∧
    (let s := set (set (wHlth .idle { expo := some (-8), known := true, low := some 0 }) Pg.HLTH Fd.HLTH_AVS_LIM_VMAX 1000) Pg.HLTH Fd.HLTH_AVS_CTL_STEP_MV 5
     s.avsNext 700 0 0 ≠ 700) := by decide +kernel

/-! ### Witnesses: the whole block -/

theorem test_wit_global :
    (∃ t, step { State.reset with pending := [.rowIdleClose 3 5] } = .next t) ∧
    (let s := set (at_ .changeover) Pg.SYS Fd.SYS_MODE_REQ_PENDING 1
     s.access .host Pg.SYS = .granted ∧ s.mode = .changeover ∧ s.mode ≠ .boot ∧ s.mode ≠ .hold ∧ s.on Pg.SYS Fd.SYS_MODE_REQ_PENDING = true ∧
      s.commits = [] ∧ wf (0x107 : Word) 8 1 = 1 ∧ wf (0x107 : Word) 0 3 = 7 ∧ wf (0x101 : Word) 8 1 = 1 ∧ wf (0x101 : Word) 0 3 ≠ 7) ∧
    (State.reset.q 3).words = [] ∧ (8192 + 4 ≤ State.reset.capacity ∧ State.reset.capacity < 2 ^ 40 + 4) ∧
    (let s := set { at_ .setup with blank := [⟨0, 2 ^ 40, none⟩] } Pg.PCIE Fd.PCIE_STAT_LINK_UP 1
     s.on Pg.PCIE Fd.PCIE_STAT_LINK_UP = true ∧ s.mode ≠ .boot ∧ s.outOfRange 8192 4 = false ∧ ∀ j, j < 64 → s.inJob j 8192 4 = false) ∧
    (Area.dram ∉ mayChange (.rowIdleClose 3 5)) :=
  ⟨⟨_, rfl⟩, by decide +kernel, by decide +kernel, by decide +kernel, by decide +kernel, by decide⟩

/-! ### The check of commands, and words -/

theorem test_illFormed :
    (Instr.modeReqIdle .host 0x002).wellFormed = false ∧ (Instr.modeReqIdle .host 0x102).wellFormed = false ∧
    (Instr.modeReqIdle .host 0x101).wellFormed = true ∧ (Instr.jobOpen .host 0x200).wellFormed = false ∧
    (Instr.jokerCalNow .host 0 0x001).wellFormed = false ∧ (Instr.lockAcquire .host 127 1).wellFormed = false ∧
    (Instr.lockAcquire .host 32 1).wellFormed = true ∧ (Instr.lockAcquire .host 32 2).wellFormed = false ∧
    (Instr.jokerMatched ⟨0, 0, { dfe := [0, 0, 0, 0, 0, 0] }⟩).wellFormed = false ∧ (Instr.registerWrite .host 2 0).wellFormed = false ∧
    (WcpMsg.mk 0 (2 ^ 32) 0 0 0 0 0 0 0 0 0 0 []).wellFormed = false ∧ (WcpMsg.mk 0 0 0 0 16 0 0 0 0 0 0 0 []).wellFormed = false := by
  decide +kernel

theorem test_noWordSpellsACommand (s : State) (n w : Nat) : decodeTableWord n w = none ∧ s.withFetchWord n w = s := ⟨rfl, rfl⟩

/-! ### Worked numbers of the specification -/

/-- R135: the check value over "123456789". -/
theorem test_crc32c : crc32c [0x31, 0x32, 0x33, 0x34, 0x35, 0x36, 0x37, 0x38, 0x39] = 0xE3069283 := by decide +kernel

/-- FIPS 180-4: the digest of "abc". -/
theorem test_sha256_abc : beNat (sha256 [0x61, 0x62, 0x63]) = 0xba7816bf8f01cfea414140de5dae2223b00361a396177a9cb410ff61f20015ad := by decide +kernel

/-- R153: a trigger that comes while five symbols of a packet are still to go. -/
theorem test_wit_uplinkStream : (5 : Nat) ≤ 18 ∧
    let l := (List.range 18).map fun i => ObvSym.data (BitVec.ofNat 8 i)
    uplinkStream 3 [.uplink 3 l, .trigger 3 [.trg] 5] = l.take 13 ++ [.trg] ++ l.drop 13 := by decide +kernel

/-- Table — Line A block coding. -/
theorem test_blockCode :
    let v := [2410, 2418, 2433, 2447, 2412, 2425, 2440, 2456, 2405, 2421, 2438, 2461, 2401, 2416, 2429, 2450]
    (frEncode v).2 = 5 ∧ nb (frEncode v).1 0 12 = 2401 ∧ nb (frEncode v).1 12 4 = 6 ∧
    frDecode (frEncode v).1 = [2412, 2423, 2434, 2445, 2412, 2423, 2445, 2456, 2401, 2423, 2434, 2456, 2401, 2412, 2434, 2445] := by decide +kernel

/-- The numbers worked under the slot format: line A's block (1,307, 1,750) of plane 1. -/
theorem test_slotPlaces : let g : Geo := ⟨0, 0, 15360, 10160, 3⟩
    g.fs = 34560 ∧ g.group 1307 1750 1 = 181486296 ∧ 1307 % 8 = 3 := by decide +kernel

/-- The number worked under the PMBus bus: 0x0C7B at exponent −12 is 780 mV. -/
theorem test_linear : ofLinear (-12) 0x0C7B = 780 := by decide +kernel

/-- R479, R480: a word pushed with NOT_VALID goes in POISONED. -/
theorem test_push : ∀ t, exec (.queuePush 7500 3 5 1 true true) (wQ [] 0 3 0) = .next t →
    (t.q 7500).words = [⟨5, 2, true, true, true⟩] ∧ (t.q 7500).credOf 3 = 1 ∧ t.on Pg.QF Fd.QF_STAT_BAD_TAG = true := by
  intro t h
  cases h
  decide +kernel

/-- R495: an arbiter's decision serves the round after it, and the highest number wins. -/
theorem test_bankGrant : ∀ t, exec (.bankGrant 0 [1, 5, 2]) State.reset = .next t → (tabGet (dflt {}) t.arb 16).grant = some 5 := by
  intro t h
  cases h
  decide +kernel

/-- Reset values of the register tables. -/
theorem test_reset :
    State.reset.rd Pg.HLTH Rg.HLTH_TEMP_LIM = 0x00057364 ∧ State.reset.rd Pg.SUPV1 Rg.SUPV1_LOCK_TO = 30 ∧
    State.reset.rd Pg.SUPV0 Rg.SUPV0_LOG_HEAD = 0x100 ∧ State.reset.mode = .boot := by decide +kernel

/-- A step takes the front command and leaves the rest. -/
theorem test_step : ∀ t, step { at_ .idle with pending := [.rowIdleClose 0 1, .jokerMatched ⟨2, 4096, {}⟩] } = .next t → t.pending = [.jokerMatched ⟨2, 4096, {}⟩] := by
  intro t h
  cases h
  rfl

end Sys2Proof.Tests
end

section
/-!
PROOFS. Commits of shadowed registers (O39): what a write of a header register leaves alone, the pages whose registers set nothing
off, a commit's parts at their boundaries, and how a request is decided.
-/
namespace Sys2Proof.Machine

/-! ### Where registers lie -/

/-- The registers of a kind of page lie behind the page header. -/
theorem kindRegs_off (k : PageKind) : ∀ r ∈ kindRegs k, 0x40 ≤ r.off ∧ r.off < 4096 := by
  cases k <;> decide +kernel

theorem rwsOffsets_off {p off : Nat} (h : off ∈ rwsOffsets p) : 0x40 ≤ off ∧ off < 4096 := by
  unfold rwsOffsets at h
  split at h
  · exact absurd h (List.not_mem_nil)
  · obtain ⟨r, hr, rfl⟩ := List.mem_map.mp h
    exact kindRegs_off _ r (List.mem_filter.mp hr).1

/-- The address of a block register is none of the header's. -/
theorem block_ne_header {p off k : Nat} (h : 0x40 ≤ off) (hk : k < 0x40) : p * 4096 + off ≠ p * 4096 + k := off_ne (by omega)

/-- A register of the header is the same on every page. -/
theorem regDefAt_header {p off : Nat} (h : (pageAt p).isSome = true) (ho : off < 0x40) :
    regDefAt (p * 4096 + off) = hdrRegs.find? fun r => r.off == off := by
  obtain ⟨⟨k, n⟩, hk⟩ := Option.isSome_iff_exists.mp h
  have h1 : (p * 4096 + off) / 4096 = p := by omega
  have h2 : (p * 4096 + off) % 4096 = off := by omega
  simp only [regDefAt, h1, h2, hk, ho, if_true]

theorem commitDef {p : Nat} (h : (pageAt p).isSome = true) :
    regDefAt (p * 4096 + Rg.HDR_COMMIT) = some ⟨0x01C, 0x00000000, 0x0000000E, 0x00000000, 0x00000060, 0x00000000, 0x00000000⟩ :=
  regDefAt_header h (by decide)

theorem pageCtlDef {p : Nat} (h : (pageAt p).isSome = true) :
    regDefAt (p * 4096 + Rg.HDR_PAGE_CTL) = some ⟨0x004, 0x00000001, 0x00000001, 0x00000000, 0x00000000, 0x00000000, 0x00000000⟩ :=
  regDefAt_header h (by decide)

/-- A write of a register by its access codes changes no other register. -/
theorem State.writeReg_same {s : State} {a p off : Nat} {w : Word} (h : a ≠ p * 4096 + off) : RegSame a s (s.writeReg p off w) := by
  have e : a / 4096 * 4096 + a % 4096 = a := by omega
  have := s.writeReg_rd_other p off w (a / 4096) (a % 4096) (by rwa [e])
  unfold State.rd at this
  rwa [e] at this

/-- A write of a register by a path touches registers, their shadow copies, write-once marks and the time of the page's lock alone. -/
theorem State.touchWrite_within (s : State) (o : Owner) (p off : Nat) (w : Word) : Within 0x100000000e s ((s.touch o p).writeReg p off w) :=
  Within.step (State.writeReg_within ..) rfl ((State.touch_within s o p).mono rfl)

theorem State.touchWrite_same {s : State} {a : Nat} {o : Owner} {p off : Nat} {w : Word} (h : a ≠ p * 4096 + off) :
    RegSame a s ((s.touch o p).writeReg p off w) := (State.writeReg_same h).step (RegSame.of_regs (s.touch_regs o p))

/-! ### Values in force and shadow copies merged -/

theorem mergeRws_again (a : Nat) (x y : Word) : mergeRws a (mergeRws a x y) y = mergeRws a x y := by
  unfold mergeRws
  ext i hi
  simp only [BitVec.getElem_or, BitVec.getElem_and, BitVec.getElem_not]
  cases x[i] <;> cases y[i] <;> simp

theorem mergeRws_merged (a : Nat) (x y : Word) : mergeRws a x (mergeRws a x y) = mergeRws a x y := by
  unfold mergeRws
  ext i hi
  simp only [BitVec.getElem_or, BitVec.getElem_and, BitVec.getElem_not]
  cases x[i] <;> cases y[i] <;> simp

/-! ### Folds over views -/

/-- A fold in which one element takes the state to a place that no element leaves, and the others leave the state they start from. -/
theorem foldl_once {α β : Type} {f : α → β → α} {s t : α} {v : β} {l : List β} (hv : v ∈ l) (h1 : f s v = t) (h2 : ∀ x, x ≠ v → f s x = s)
    (h3 : ∀ x, f t x = t) : l.foldl f s = t := by
  induction l with
  | nil => exact absurd hv (List.not_mem_nil)
  | cons x l ih =>
    rw [List.foldl_cons]
    by_cases hx : x = v
    · rw [hx, h1]; exact foldl_id f l t fun y _ => h3 y
    · rw [h2 x hx]; exact ih ((List.mem_cons.mp hv).resolve_left (Ne.symm hx))

/-! ### Pages whose registers set nothing off -/

/-- The pages of merging, verdicts, compression and comparison: no register of theirs sets anything off as it comes into force, and no
view holds a copy of its own. -/
def QuietPage (p : Nat) : Prop := p = Pg.MRG ∨ p = Pg.VRD ∨ p = Pg.ZIP ∨ ∃ e, e < 8 ∧ p = Pg.IE e

theorem QuietPage.apart {p : Nat} (h : QuietPage p) : 0x32 ≤ p ∧ p ≤ 0x45 ∧ p ≠ Pg.MST ∧ p ≠ Pg.DEC ∧ p ≠ Pg.STR := by
  unfold QuietPage Pg.MRG Pg.VRD Pg.ZIP at h
  unfold Pg.MST Pg.DEC Pg.STR
  rcases h with h | h | h | ⟨e, he, h⟩ <;> (try unfold Pg.IE at h) <;> omega

theorem QuietPage.perView {p : Nat} (h : QuietPage p) (off : Nat) : perView p off = false := by
  obtain ⟨h1, -, h2, h3, -⟩ := h.apart
  have h4 : p ≠ Pg.REG := by unfold Pg.REG; omega
  simp [Machine.perView, h2, h3, h4]

theorem State.regHook_quiet {p off : Nat} (h : QuietPage p) (ho : off < 4096) (s : State) (old new : Word) :
    s.regHook (p * 4096 + off) old new = s := by
  obtain ⟨h1, -, -⟩ := h.apart
  have h3 : ¬(Pg.CP 0 ≤ p ∧ p < Pg.CP 16 ∧ (p * 4096 + off) % 4096 = Rg.CP_PORT_CTL) := by unfold Pg.CP; omega
  have h4 : p ≠ Pg.POS := by unfold Pg.POS; omega
  unfold State.regHook
  simp only [addr_page ho, h.perView, Bool.false_eq_true, and_false, if_false, h3, h4, ite_self]

theorem State.putRegs_cons (s : State) (e : Nat × Word) (l : List (Nat × Word)) : s.putRegs (e :: l) = (s.putRegs [e]).putRegs l := rfl

/-- A register of a quiet page comes into force by its RWS bits, and nothing else happens. -/
theorem State.putRegs_quiet {p off : Nat} (h : QuietPage p) (ho : off < 4096) (s : State) (w : Word) :
    s.putRegs [(p * 4096 + off, w)] = s.wr p off (mergeRws (p * 4096 + off) (s.rd p off) w) := by
  obtain ⟨-, h2, -⟩ := h.apart
  unfold State.putRegs
  simp only [List.foldl_cons, List.foldl_nil]
  rw [if_neg (by omega), if_pos (by omega), State.regHook_quiet h ho]
  rfl

/-- Registers of a quiet page come into force one by one. -/
theorem State.putRegs_quiet_rd {p : Nat} (h : QuietPage p) (f : Nat → Word) (off : Nat) :
    ∀ (l : List Nat) (s : State), (∀ o ∈ l, o < 4096) →
      (s.putRegs (l.map fun o => (p * 4096 + o, f o))).rd p off =
        if off ∈ l then mergeRws (p * 4096 + off) (s.rd p off) (f off) else s.rd p off := by
  intro l
  induction l with
  | nil => intro s _; rfl
  | cons o l ih =>
    intro s hl
    rw [List.map_cons, State.putRegs_cons, ih _ fun x hx => hl x (List.mem_cons_of_mem _ hx), State.putRegs_quiet h (hl o (List.mem_cons_self ..)),
      State.rd_wr]
    by_cases he : off = o
    · subst he
      simp only [if_true, List.mem_cons, true_or, mergeRws_again, ite_self]
    · rw [if_neg (off_ne he)]
      simp only [List.mem_cons, he, false_or]

theorem State.putRegs_quiet_same {p : Nat} (h : QuietPage p) (f : Nat → Word) {a : Nat} :
    ∀ (l : List Nat) (s : State), (∀ o ∈ l, o < 4096) → (∀ o ∈ l, a ≠ p * 4096 + o) →
      RegSame a s (s.putRegs (l.map fun o => (p * 4096 + o, f o))) := by
  intro l
  induction l with
  | nil => intro s _ _; exact RegSame.refl _ _
  | cons o l ih =>
    intro s hl ha
    rw [List.map_cons, State.putRegs_cons, State.putRegs_quiet h (hl o (List.mem_cons_self ..))]
    exact (ih _ (fun x hx => hl x (List.mem_cons_of_mem _ hx)) fun x hx => ha x (List.mem_cons_of_mem _ hx)).step
      (State.wr_same (ha o (List.mem_cons_self ..)))

/-! ### The pending commit of a page -/

theorem State.pend_setPend (s : State) (p : Nat) (v : Option Pend) : (s.setPend p v).pend p = v := tabGet_tabPut_same _ _ _ _

theorem State.setPend_same {s : State} {a p : Nat} {v : Option Pend} (h1 : a ≠ p * 4096 + Rg.HDR_COMMIT) (h2 : a ≠ p * 4096 + Rg.HDR_PAGE_STAT) :
    RegSame a s (s.setPend p v) :=
  (State.setBit_same h2).step ((State.setBit_same h1).step (RegSame.of_regs rfl))

theorem State.on_setPend (s : State) (p : Nat) (v : Option Pend) : (s.setPend p v).on p Fd.HDR_COMMIT_PENDING = v.isSome := by
  unfold State.setPend State.setBit
  dsimp only
  rw [State.on_setFld_p (by decide) (by decide), State.on_setFld _ _ _ _ (by decide)]
  cases v.isSome <;> rfl

theorem State.on_setPend_refused (s : State) (p : Nat) (v : Option Pend) :
    (s.setPend p v).on p Fd.HDR_COMMIT_REFUSED = s.on p Fd.HDR_COMMIT_REFUSED := by
  unfold State.setPend State.setBit
  dsimp only
  rw [State.on_setFld_p (by decide) (by decide), State.on_setFld_p (by decide) (by decide)]
  rfl

theorem State.gen_setPend (s : State) (p : Nat) (v : Option Pend) : (s.setPend p v).fld p Fd.HDR_PAGE_STAT_GEN = s.fld p Fd.HDR_PAGE_STAT_GEN := by
  unfold State.setPend State.setBit
  dsimp only
  rw [State.fld_setFld_p (by decide) (by decide), State.fld_setFld_p (by decide) (by decide)]
  rfl

theorem State.running_of {s t : State} (h : t.tg = s.tg) (v : Nat) : t.running v = s.running v := by
  unfold State.running State.tgOf; rw [h]

/-! ### A commit of a quiet page completes -/

/-- The record that SYS keeps of a commit's first line in a view (R669). -/
def State.recordLine (p at_ g : Nat) (s : State) (l : Nat × Option Nat) : State :=
  { s with cmtRec := tabPut (dflt none) (4 * p + l.1) (some ⟨l.2, at_, g, s.time⟩) s.cmtRec }

/-- The records of a commit's first lines. -/
def State.recordLines (s : State) (p at_ g : Nat) (l : List (Nat × Option Nat)) : State := l.foldl (State.recordLine p at_ g) s

theorem State.recordLines_regs (s : State) (p at_ g : Nat) (l : List (Nat × Option Nat)) : (s.recordLines p at_ g l).regs = s.regs :=
  foldl_kept (fun s : State => s.regs) (State.recordLine p at_ g) (fun _ _ => rfl) l s

theorem State.recordLines_pend (s : State) (p at_ g : Nat) (l : List (Nat × Option Nat)) (q : Nat) : (s.recordLines p at_ g l).pend q = s.pend q :=
  foldl_kept (fun s : State => s.pend q) (State.recordLine p at_ g) (fun _ _ => rfl) l s

theorem State.recordLines_one (s : State) (p at_ g v : Nat) (n : Option Nat) :
    (s.recordLines p at_ g [(v, n)]).cmt p v = some ⟨n, at_, g, s.time⟩ := tabGet_tabPut_same _ _ _ _

theorem State.commitDone_quiet {p : Nat} (h : QuietPage p) (s : State) (c : Pend) :
    s.commitDone p c = ((s.setPend p none).setFld p Fd.HDR_PAGE_STAT_GEN ((s.fld p Fd.HDR_PAGE_STAT_GEN + 1) % 65536)).recordLines p c.at_
      ((s.fld p Fd.HDR_PAGE_STAT_GEN + 1) % 65536) c.lines := by
  have e : ([Rg.REG_CTL, Rg.MST_ADAPT_CTL].filter fun o => perView p o && (List.range 4).any fun v => s.rdView p o v != s.rd p o) = [] := by
    simp only [h.perView, Bool.false_and]; rfl
  unfold State.commitDone
  rw [e]
  rfl

theorem State.commitDone_same {p a : Nat} (h : QuietPage p) {s : State} {c : Pend} (h1 : a ≠ p * 4096 + Rg.HDR_COMMIT)
    (h2 : a ≠ p * 4096 + Rg.HDR_PAGE_STAT) : RegSame a s (s.commitDone p c) := by
  rw [State.commitDone_quiet h]
  exact (RegSame.of_regs (State.recordLines_regs ..)).step ((State.setFld_same h2).step (State.setPend_same h1 h2))

theorem State.commitDone_shows {p : Nat} (h : QuietPage p) (s : State) (c : Pend) :
    (s.commitDone p c).pend p = none ∧ (s.commitDone p c).on p Fd.HDR_COMMIT_PENDING = false ∧
      (s.commitDone p c).on p Fd.HDR_COMMIT_REFUSED = s.on p Fd.HDR_COMMIT_REFUSED ∧
      (s.commitDone p c).fld p Fd.HDR_PAGE_STAT_GEN = (s.fld p Fd.HDR_PAGE_STAT_GEN + 1) % 65536 := by
  rw [State.commitDone_quiet h]
  refine ⟨?_, ?_, ?_, ?_⟩
  · rw [State.recordLines_pend, (State.setFld_within ..).pend p rfl, State.pend_setPend]
  · rw [State.on_of (State.recordLines_regs ..), State.on_setFld_p (by decide) (by decide), State.on_setPend]; rfl
  · rw [State.on_of (State.recordLines_regs ..), State.on_setFld_p (by decide) (by decide), State.on_setPend_refused]
  · rw [State.fld_of (State.recordLines_regs ..), State.fld_setFld _ _ _ _ (by decide)]; exact Nat.mod_mod _ _

/-! ### Parts at their boundaries -/

theorem State.applyParts_none {s : State} {p : Nat} (h : s.pend p = none) (due : Bound → Bool) (n : Option Nat) : s.applyParts p due n = s := by
  unfold State.applyParts; rw [h]

theorem State.applyParts_waits {s : State} {p : Nat} {c : Pend} {x : Part} {due : Bound → Bool} (h : s.pend p = some c) (hx : c.parts = [x])
    (hd : due x.bound = false) (n : Option Nat) : s.applyParts p due n = s := by
  unfold State.applyParts
  rw [h]
  simp only [hx, List.filter_cons, hd, Bool.false_eq_true, if_false, List.filter_nil, List.isEmpty_nil, if_true]

/-- The lines recorded for a part's views. -/
abbrev Part.linesAt (x : Part) (l : List (Nat × Option Nat)) (n : Option Nat) : List (Nat × Option Nat) :=
  x.views.foldl (fun l v => if l.any (·.1 == v) then l else l ++ [(v, n)]) l

theorem State.applyParts_whole {s : State} {p : Nat} {c : Pend} {x : Part} {due : Bound → Bool} (h : s.pend p = some c) (hx : c.parts = [x])
    (hd : due x.bound = true) (n : Option Nat) :
    s.applyParts p due n = (s.putRegs x.regs).commitDone p { c with parts := [], lines := x.linesAt c.lines n } := by
  unfold State.applyParts
  rw [h]
  simp only [hx, List.filter_cons, hd, if_true, List.filter_nil, List.isEmpty_cons, Bool.false_eq_true, if_false, Bool.not_true,
    List.foldl_cons, List.foldl_nil, List.isEmpty_nil]

/-- COMMIT_EFFECT of a quiet page: what is due at once, then each running view's next line. -/
theorem State.commitEffect_quiet {p : Nat} (h : QuietPage p) (s : State) :
    s.commitEffect p =
      ((List.range 4).filter fun v => (s.applyParts p (· == .now) none).running v).foldl
        (fun s v => s.boundary p v (s.stageNext p v) (s.repOf v (s.stageNext p v)) false) (s.applyParts p (· == .now) none) := by
  obtain ⟨h1, -, h2, h3, h4⟩ := h.apart
  have e1 : (p == Pg.STI) = false := by rw [beq_eq_false_iff_ne]; unfold Pg.STI; omega
  have e2 : (p == Pg.REG) = false := by rw [beq_eq_false_iff_ne]; unfold Pg.REG; omega
  have e3 : ¬(p = Pg.POS ∨ p = Pg.STI) := by unfold Pg.POS Pg.STI; omega
  unfold State.commitEffect
  simp only [h4, e1, e2, e3, Bool.or_false, Bool.and_false, Bool.false_and, if_false]

/-- With nothing pending a quiet page's COMMIT_EFFECT changes nothing. -/
theorem State.commitEffect_none {p : Nat} (h : QuietPage p) {s : State} (hp : s.pend p = none) : s.commitEffect p = s := by
  rw [State.commitEffect_quiet h, State.applyParts_none hp]
  exact foldl_id _ _ _ fun v _ => State.applyParts_none hp ..

/-- A commit due at once completes. -/
theorem State.commitEffect_now {p : Nat} (h : QuietPage p) {s : State} {c : Pend} {x : Part} (hp : s.pend p = some c) (hx : c.parts = [x])
    (hb : x.bound = .now) :
    s.commitEffect p = (s.putRegs x.regs).commitDone p { c with parts := [], lines := x.linesAt c.lines none } := by
  have hd : (x.bound == .now) = true := by rw [hb]; rfl
  rw [State.commitEffect_quiet h, State.applyParts_whole hp hx hd]
  exact foldl_id _ _ _ fun v _ => State.applyParts_none (State.commitDone_shows h _ _).1 ..

/-- A commit whose boundary no running view has reached waits. -/
theorem State.commitEffect_waits {p : Nat} (h : QuietPage p) {s : State} {c : Pend} {x : Part} (hp : s.pend p = some c) (hx : c.parts = [x])
    (hb : x.bound ≠ .now)
    (hr : ∀ v, v < 4 → s.running v = true → x.bound.reached v (s.stageNext p v) (s.repOf v (s.stageNext p v)) false = false) :
    s.commitEffect p = s := by
  rw [State.commitEffect_quiet h, State.applyParts_waits (due := (· == .now)) hp hx (beq_eq_false_iff_ne.mpr hb)]
  refine foldl_id _ _ _ fun v hv => State.applyParts_waits hp hx ?_ _
  obtain ⟨h4, hv⟩ := List.mem_filter.mp hv
  exact hr v (List.mem_range.mp h4) hv

/-- A commit that waits for a line of a view completes as the view, running, has reached the line. -/
theorem State.commitEffect_line {p v m : Nat} (h : QuietPage p) {s : State} {c : Pend} {x : Part} (hp : s.pend p = some c) (hx : c.parts = [x])
    (hb : x.bound = .line v m) (hv : v < 4) (hr : s.running v = true) (hm : m ≤ s.stageNext p v) :
    s.commitEffect p = (s.putRegs x.regs).commitDone p { c with parts := [], lines := x.linesAt c.lines (some (s.stageNext p v)) } := by
  have hd : (x.bound == .now) = false := by rw [hb]; rfl
  rw [State.commitEffect_quiet h, State.applyParts_waits hp hx hd]
  refine foldl_once (v := v) (List.mem_filter.mpr ⟨List.mem_range.mpr hv, hr⟩) ?_ (fun u hu => ?_) fun u => ?_
  · exact State.applyParts_whole hp hx (by simp [hb, Bound.reached, hm]) _
  · exact State.applyParts_waits hp hx (by simp [hb, Bound.reached, Ne.symm hu]) _
  · exact State.applyParts_none (State.commitDone_shows h _ _).1 ..

/-! ### A commit request -/

/-- The state in which a commit request that guard and lock let through is decided: COMMIT is written. -/
def State.asked (s : State) (o : Owner) (p : Nat) (w : Word) : State := (s.touch o p).writeReg p Rg.HDR_COMMIT w

theorem execCommitReq_granted {o : Owner} {p : Fin 128} {w : Word} {s : State} (h : s.access o p = .granted) (hp : (pageAt p).isSome = true)
    (hw : wf w 0 1 = 1) : exec (.commitReq o p w) s = .next ((s.asked o p w).commitReq p (wf w 1 3)) := by
  show execCommitReq o p w s = _
  unfold execCommitReq
  rw [if_pos hp, State.guarded_granted h]
  unfold State.commitWrite State.asked
  simp only [hw, if_true]

theorem State.asked_within (s : State) (o : Owner) (p : Nat) (w : Word) : Within 0x100000000e s (s.asked o p w) :=
  State.touchWrite_within ..

theorem State.asked_same {s : State} {o : Owner} {p : Nat} {w : Word} {a : Nat} (h : a ≠ p * 4096 + Rg.HDR_COMMIT) : RegSame a s (s.asked o p w) :=
  State.touchWrite_same h

theorem State.asked_rd {s : State} {o : Owner} {p : Nat} {w : Word} {q off : Nat} (h : q * 4096 + off ≠ p * 4096 + Rg.HDR_COMMIT) :
    (s.asked o p w).rd q off = s.rd q off := (State.asked_same h).rd

theorem State.asked_shadow {s : State} {o : Owner} {p : Nat} {w : Word} (h : (pageAt p).isSome = true) : (s.asked o p w).shadow = s.shadow := by
  unfold State.asked
  rw [State.writeReg_plain _ _ _ _ _ (commitDef h) rfl rfl, State.wr_shadow, State.touch_shadow]

theorem State.asked_pend (s : State) (o : Owner) (p : Nat) (w : Word) (q : Nat) : (s.asked o p w).pend q = s.pend q :=
  (State.asked_within ..).pend q rfl

theorem State.asked_running (s : State) (o : Owner) (p : Nat) (w : Word) (v : Nat) : (s.asked o p w).running v = s.running v :=
  State.running_of ((State.asked_within ..).tg_eq rfl) v

theorem State.asked_mode {s : State} {o : Owner} {p : Nat} {w : Word} (h : p ≠ Pg.SYS) : (s.asked o p w).mode = s.mode :=
  State.mode_of_regs (State.asked_same (ne_of_page h.symm (by decide)))

/-- Two states agree in a page's block registers and in every shadow copy. -/
def BlockSame (p : Nat) (x y : State) : Prop := (∀ off, 0x40 ≤ off → x.rd p off = y.rd p off) ∧ x.shadow = y.shadow

theorem BlockSame.newWord {p off : Nat} {x y : State} (h : BlockSame p x y) (ho : 0x40 ≤ off) : x.newWord p off = y.newWord p off := by
  unfold State.newWord State.rdShadow
  rw [h.1 off ho, h.2]

/-- What a commit would leave follows from the block registers and their shadow copies. -/
theorem BlockSame.committed {p : Nat} {x y : State} (h : BlockSame p x y) : BlockSame p (x.committed p) (y.committed p) := by
  refine List.foldl_rel (r := BlockSame p) h fun k hk u v huv => ⟨fun off ho => ?_, huv.2⟩
  rw [State.rd_wr, State.rd_wr, huv.newWord (rwsOffsets_off hk).1, huv.1 off ho]

theorem BlockSame.mrgBad {x y : State} (h : BlockSame Pg.MRG x y) : x.mrgBad = y.mrgBad := by
  unfold State.mrgBad State.fld
  congr 1
  funext v
  rw [h.1 _ (by unfold Fd.MRG_REC_LIMIT_b0; dsimp only; omega)]

theorem State.asked_block {s : State} {o : Owner} {p : Nat} {w : Word} (h : (pageAt p).isSome = true) : BlockSame p (s.asked o p w) s :=
  ⟨fun _ ho => State.asked_rd (block_ne_header ho (by decide)), State.asked_shadow h⟩

theorem State.asked_mrgBad {s : State} {o : Owner} {w : Word} :
    ((s.asked o Pg.MRG w).committed Pg.MRG).mrgBad = (s.committed Pg.MRG).mrgBad := (State.asked_block (by decide)).committed.mrgBad

/-! ### How a request is decided -/

theorem State.commitReq_refused {s : State} {p at_ : Nat} (h : (s.pend p).isSome = true ∨ 4 < at_) :
    s.commitReq p at_ = s.setFld p Fd.HDR_COMMIT_REFUSED 1 := by
  unfold State.commitReq
  dsimp only
  rw [if_pos h]

theorem State.commitReq_turnedDown {s t : State} {p at_ : Nat} (h : s.pend p = none) (ha : at_ ≤ 4) (hp : s.plan p at_ = (t, none)) :
    s.commitReq p at_ = t.setFld p Fd.HDR_COMMIT_REFUSED 1 := by
  unfold State.commitReq
  dsimp only
  rw [if_neg (by rw [h]; simp; omega), hp]

theorem State.commitReq_accepted {s t : State} {p at_ : Nat} {l : List Part} (h : s.pend p = none) (ha : at_ ≤ 4)
    (hp : s.plan p at_ = (t, some l)) : s.commitReq p at_ = t.accept p at_ l := by
  unfold State.commitReq
  dsimp only
  rw [if_neg (by rw [h]; simp; omega), hp]

/-- A request of MRG with a record limit of 0, or while a commit pends, is refused. -/
theorem State.commitReq_mrgBad {s : State} {at_ : Nat} (h : (s.committed Pg.MRG).mrgBad = true) :
    s.commitReq Pg.MRG at_ = s.setFld Pg.MRG Fd.HDR_COMMIT_REFUSED 1 := by
  by_cases hr : (s.pend Pg.MRG).isSome = true ∨ 4 < at_
  · exact State.commitReq_refused hr
  · have hn : s.pend Pg.MRG = none := by simpa using fun e => hr (.inl e)
    have hp : s.plan Pg.MRG at_ = (s, none) := by
      show (if (s.committed Pg.MRG).mrgBad then s.turnDown else _) = _
      rw [if_pos h]; rfl
    exact State.commitReq_turnedDown hn (by omega) hp

theorem State.refused_shows (s : State) (p : Nat) :
    (s.setFld p Fd.HDR_COMMIT_REFUSED 1).on p Fd.HDR_COMMIT_REFUSED = true ∧ (s.setFld p Fd.HDR_COMMIT_REFUSED 1).pend p = s.pend p :=
  ⟨State.on_one (by decide) (by decide), rfl⟩


/-! ### What the pages of merging and comparison make of a request -/

theorem pageAt_mrg : pageAt Pg.MRG = some (.mrg, 0) := by decide
theorem pageAt_ie {e : Nat} (h : e < 8) : pageAt (Pg.IE e) = some (.ie, e) := by
  have key : ∀ e : Fin 8, pageAt (Pg.IE e) = some (.ie, e.val) := by decide
  exact key ⟨e, h⟩

theorem Mode.job_ne {m : Mode} (h : m.job = true) : m ≠ .idle ∧ m ≠ .setup := by cases m <;> simp_all [Mode.job]
theorem Mode.job_of_still {m : Mode} (h : m = .idle ∨ m = .setup) : m.job = false := by rcases h with rfl | rfl <;> rfl

theorem State.serves_mrg (s : State) (v : Nat) : s.serves Pg.MRG v = (s.running v && s.mode != .setup) := by
  unfold State.serves; rw [pageAt_mrg]

theorem State.pagePart_still {s : State} {p at_ : Nat} (h : ∀ v, v < 4 → s.running v = false) (l : List (Nat × Word)) :
    s.pagePart p at_ l = ⟨l, .now, List.range 4⟩ := by
  have e : (List.range 4).find? (fun v => s.serves p v) = none :=
    List.find?_eq_none.mpr fun v hv => by simp [State.serves, h v (List.mem_range.mp hv)]
  unfold State.pagePart
  rw [e]

theorem State.pagePart_mrg_job {s : State} (hm : s.mode.job = true) (hr : s.running 0 = true) (l : List (Nat × Word)) :
    s.pagePart Pg.MRG 4 l = ⟨l, .job 0, [0]⟩ := by
  have hs : s.serves Pg.MRG 0 = true := by
    rw [State.serves_mrg, hr, bne_iff_ne.mpr (Mode.job_ne hm).2]; rfl
  have e : (List.range 4).find? (fun v => s.serves Pg.MRG v) = some 0 := by
    show (0 :: [1, 2, 3]).find? (fun v => s.serves Pg.MRG v) = some 0
    rw [List.find?_cons_of_pos hs]
  unfold State.pagePart
  rw [e]
  rfl

theorem State.plan_mrg {s : State} {at_ : Nat} (h : (s.committed Pg.MRG).mrgBad = false) :
    s.plan Pg.MRG at_ = s.planPage Pg.MRG at_ fun _ => at_ == 4 := by
  show (if (s.committed Pg.MRG).mrgBad then s.turnDown else _) = _
  rw [if_neg (by rw [h]; decide)]

/-- With no job and no view running, the whole shadow of MRG or of an engine comes into force at once (R668). -/
theorem State.plan_still {s : State} {p at_ : Nat} (hp : (p = Pg.MRG ∧ (s.committed p).mrgBad = false) ∨ ∃ e, e < 8 ∧ p = Pg.IE e)
    (hm : s.mode = .idle ∨ s.mode = .setup) (hr : ∀ v, v < 4 → s.running v = false) :
    s.plan p at_ = (s, some [⟨s.newVals p (s.changed p), .now, List.range 4⟩]) := by
  rcases hp with ⟨rfl, hb⟩ | ⟨e, he, rfl⟩
  · rw [State.plan_mrg hb]
    unfold State.planPage
    simp only [Mode.job_of_still hm, Bool.false_and, Bool.false_eq_true, if_false, State.pagePart_still hr]
  · unfold State.plan
    rw [pageAt_ie he]
    show s.planIe _ = _
    unfold State.planIe
    rw [if_pos hm]

theorem State.plan_mrg_job {s : State} (hb : (s.committed Pg.MRG).mrgBad = false) (hm : s.mode.job = true) (hr : s.running 0 = true) :
    s.plan Pg.MRG 4 = (s, some [⟨s.newVals Pg.MRG (s.changed Pg.MRG), .job 0, [0]⟩]) := by
  have ha : ((s.changed Pg.MRG).all fun _ => (4 : Nat) == 4) = true := List.all_eq_true.mpr fun _ _ => rfl
  rw [State.plan_mrg hb]
  unfold State.planPage
  simp only [ha, Bool.not_true, Bool.and_false, Bool.false_eq_true, if_false, State.pagePart_mrg_job hm hr]

/-- While a job runs, a request of an engine is recorded and refused (R369). -/
theorem State.plan_ie_job {s : State} {e at_ : Nat} (he : e < 8) (hm : s.mode.job = true) :
    s.plan (Pg.IE e) at_ = ((s.logErr Er.IE_NOT_IDLE (Pg.IE e) 0 0).flag (Pg.IE e) Fd.IE_STAT_CFG_REFUSED, none) := by
  obtain ⟨h1, h2⟩ := Mode.job_ne hm
  unfold State.plan
  rw [pageAt_ie he]
  show s.planIe _ = _
  unfold State.planIe
  rw [if_neg (by rintro (h | h) <;> contradiction)]
  rfl

/-! ### An accepted commit -/

/-- The state in which an accepted commit of one part pends. -/
def State.withPend (s : State) (p at_ : Nat) (x : Part) : State :=
  (s.setFld p Fd.HDR_COMMIT_REFUSED 0).setPend p (some ⟨at_, s.snapshot p, [x], []⟩)

theorem State.accept_one {s : State} {p at_ : Nat} {x : Part} (hx : ∀ n, x.bound ≠ .stream n) :
    s.accept p at_ [x] = (s.withPend p at_ x).commitEffect p := by
  unfold State.accept State.withPend
  obtain ⟨r, b, v⟩ := x
  cases b with
  | stream n => exact absurd rfl (hx n)
  | _ => rfl

theorem State.withPend_pend (s : State) (p at_ : Nat) (x : Part) : (s.withPend p at_ x).pend p = some ⟨at_, s.snapshot p, [x], []⟩ :=
  State.pend_setPend ..

theorem State.withPend_same {s : State} {p at_ : Nat} {x : Part} {a : Nat} (h1 : a ≠ p * 4096 + Rg.HDR_COMMIT) (h2 : a ≠ p * 4096 + Rg.HDR_PAGE_STAT) :
    RegSame a s (s.withPend p at_ x) := (State.setPend_same h1 h2).step (State.setFld_same h1)

theorem State.withPend_refused (s : State) (p at_ : Nat) (x : Part) : (s.withPend p at_ x).on p Fd.HDR_COMMIT_REFUSED = false := by
  unfold State.withPend
  rw [State.on_setPend_refused, State.on_zero (by decide)]

theorem State.withPend_gen (s : State) (p at_ : Nat) (x : Part) :
    (s.withPend p at_ x).fld p Fd.HDR_PAGE_STAT_GEN = s.fld p Fd.HDR_PAGE_STAT_GEN := by
  unfold State.withPend
  rw [State.gen_setPend, State.fld_setFld_p (by decide) (by decide)]

theorem newWord_of_unchanged {s : State} {p off : Nat} (h : off ∈ rwsOffsets p) (hc : off ∉ s.changed p) : s.newWord p off = s.rd p off :=
  Decidable.byContradiction fun e => hc (List.mem_filter.mpr ⟨h, bne_iff_ne.mpr e⟩)

theorem changed_off {s : State} {p off : Nat} (h : off ∈ s.changed p) : 0x40 ≤ off ∧ off < 4096 := rwsOffsets_off (List.mem_filter.mp h).1

/-- What an accepted commit of the whole shadow of a quiet page leaves as it is taken at once. -/
theorem State.accept_now_shows {p : Nat} (h : QuietPage p) (s : State) (at_ : Nat) :
    let t := s.accept p at_ [⟨s.newVals p (s.changed p), .now, List.range 4⟩]
    t.pend p = none ∧ t.on p Fd.HDR_COMMIT_PENDING = false ∧ t.on p Fd.HDR_COMMIT_REFUSED = false ∧
      t.fld p Fd.HDR_PAGE_STAT_GEN = (s.fld p Fd.HDR_PAGE_STAT_GEN + 1) % 65536 ∧
      (∀ off, off ∈ rwsOffsets p → t.rd p off = s.newWord p off) ∧ pagesKept [p] s t := by
  intro t
  let x : Part := ⟨s.newVals p (s.changed p), .now, List.range 4⟩
  let u := s.withPend p at_ x
  have ht : t = (u.putRegs x.regs).commitDone p ⟨at_, s.snapshot p, [], x.linesAt [] none⟩ :=
    (State.accept_one (x := x) (fun _ => Bound.noConfusion)).trans (State.commitEffect_now h (State.withPend_pend ..) rfl rfl)
  have hput {a : Nat} (ha : ∀ o ∈ s.changed p, a ≠ p * 4096 + o) : RegSame a u (u.putRegs x.regs) :=
    State.putRegs_quiet_same h (s.newWord p) _ u (fun o ho => (changed_off ho).2) ha
  have hhead {k : Nat} (hk : k < 0x40) : RegSame (p * 4096 + k) u (u.putRegs x.regs) :=
    hput fun o ho => (block_ne_header (changed_off ho).1 hk).symm
  obtain ⟨h1, h2, h3, h4⟩ := State.commitDone_shows h (u.putRegs x.regs) ⟨at_, s.snapshot p, [], x.linesAt [] none⟩
  rw [← ht] at h1 h2 h3 h4
  refine ⟨h1, h2, ?_, ?_, fun off ho => ?_, fun a ha => ?_⟩
  · rw [h3, (hhead (by decide)).on, State.withPend_refused]
  · rw [h4, (hhead (by decide)).fld, State.withPend_gen]
  · obtain ⟨h40, -⟩ := rwsOffsets_off ho
    have hc := block_ne_header (p := p) h40 (k := Rg.HDR_COMMIT) (by decide)
    have hs := block_ne_header (p := p) h40 (k := Rg.HDR_PAGE_STAT) (by decide)
    rw [ht, (State.commitDone_same h hc hs).rd]
    refine (State.putRegs_quiet_rd h (s.newWord p) off _ u fun o ho => (changed_off ho).2).trans ?_
    rw [(State.withPend_same hc hs).rd]
    split
    · exact mergeRws_merged _ _ _
    · exact (newWord_of_unchanged ho ‹_›).symm
  · have hp : a / 4096 ≠ p := by simpa using ha
    have hc : a ≠ p * 4096 + Rg.HDR_COMMIT := ne_of_page hp (by decide)
    have hs : a ≠ p * 4096 + Rg.HDR_PAGE_STAT := ne_of_page hp (by decide)
    rw [ht]
    exact (State.commitDone_same h hc hs).step ((hput fun o ho => ne_of_page hp (changed_off ho).2).step (State.withPend_same hc hs))

/-- What an accepted commit of a quiet page leaves as it waits for the next job. -/
theorem State.accept_job_shows {p : Nat} (h : QuietPage p) (s : State) (at_ : Nat) (l : List (Nat × Word)) :
    let t := s.accept p at_ [⟨l, .job 0, [0]⟩]
    (t.pend p).isSome = true ∧ t.on p Fd.HDR_COMMIT_PENDING = true ∧ t.on p Fd.HDR_COMMIT_REFUSED = false ∧
      ∀ off, 0x40 ≤ off → off < 4096 → t.rd p off = s.rd p off := by
  intro t
  have ht : t = s.withPend p at_ ⟨l, .job 0, [0]⟩ :=
    (State.accept_one (fun _ => Bound.noConfusion)).trans
      (State.commitEffect_waits h (State.withPend_pend ..) rfl Bound.noConfusion fun v _ _ => Bool.and_false _)
  rw [ht]
  refine ⟨by rw [State.withPend_pend]; rfl, State.on_setPend .., State.withPend_refused .., fun off h40 _ => ?_⟩
  exact (State.withPend_same (block_ne_header h40 (by decide)) (block_ne_header h40 (by decide))).rd

/-! ### The clauses of O39 -/

theorem quiet_of {s : State} {p : Nat} (h : (p = Pg.MRG ∧ (s.committed p).mrgBad = false) ∨ ∃ e, e < 8 ∧ p = Pg.IE e) : QuietPage p :=
  h.elim (fun h => .inl h.1) fun h => .inr (.inr (.inr h))

theorem quiet_of_mem {p : Nat} (h : p ∈ [Pg.MRG, Pg.VRD, Pg.ZIP]) : QuietPage p := by
  simp only [List.mem_cons, List.not_mem_nil, or_false] at h
  exact h.imp_right fun h => h.imp_right .inl

theorem quiet_ne_sys {p : Nat} (h : QuietPage p) : p ≠ Pg.SYS := by
  obtain ⟨h1, -⟩ := h.apart; unfold Pg.SYS; omega

theorem commitRefused {o : Owner} {p : Nat} {w : Word} {s : State} (hp : (pageAt p).isSome = true) :
    let t := (s.asked o p w).setFld p Fd.HDR_COMMIT_REFUSED 1
    t.on p Fd.HDR_COMMIT_REFUSED = true ∧ t.pend p = s.pend p ∧ t.shadow = s.shadow ∧ regsKept [p * 4096 + Rg.HDR_COMMIT] s t := by
  obtain ⟨h1, h2⟩ := State.refused_shows (s.asked o p w) p
  exact ⟨h1, h2.trans (State.asked_pend ..), State.asked_shadow hp, regsKept_one fun b hb => (State.setFld_same hb).step (State.asked_same hb)⟩

/-- A commit that no job and no running view holds up is taken at once. -/
theorem commitTakenAtOnce {o : Owner} {p : Nat} {w : Word} {s : State} (hp : (pageAt p).isSome = true)
    (h : (p = Pg.MRG ∧ (s.committed p).mrgBad = false) ∨ ∃ e, e < 8 ∧ p = Pg.IE e) (hm : s.mode = .idle ∨ s.mode = .setup)
    (hr : ∀ v, v < 4 → s.running v = false) (hn : s.pend p = none) {at_ : Nat} (ha : at_ ≤ 4) :
    let t := (s.asked o p w).commitReq p at_
    t.pend p = none ∧ t.on p Fd.HDR_COMMIT_PENDING = false ∧ t.on p Fd.HDR_COMMIT_REFUSED = false ∧
      t.fld p Fd.HDR_PAGE_STAT_GEN = (s.fld p Fd.HDR_PAGE_STAT_GEN + 1) % 65536 ∧
      (∀ off, off ∈ rwsOffsets p → t.rd p off = s.newWord p off) ∧ pagesKept [p] s t := by
  intro t
  have hq := quiet_of h
  let x := s.asked o p w
  have hplan : x.plan p at_ = (x, some [⟨x.newVals p (x.changed p), .now, List.range 4⟩]) := by
    refine State.plan_still (h.imp_left ?_) ?_ fun v hv => ?_
    · rintro ⟨rfl, hb⟩; exact ⟨rfl, State.asked_mrgBad.trans hb⟩
    · rwa [State.asked_mode (quiet_ne_sys hq)]
    · rw [State.asked_running, hr v hv]
  have ht : t = x.accept p at_ [⟨x.newVals p (x.changed p), .now, List.range 4⟩] :=
    State.commitReq_accepted ((State.asked_pend ..).trans hn) ha hplan
  obtain ⟨h1, h2, h3, h4, h5, h6⟩ := State.accept_now_shows hq x at_
  rw [← ht] at h1 h2 h3 h4 h5 h6
  refine ⟨h1, h2, h3, ?_, fun off ho => ?_, fun a hm => ?_⟩
  · rw [h4, (State.asked_same (off_ne (by decide))).fld]
  · exact (h5 off ho).trans ((State.asked_block hp).newWord (rwsOffsets_off ho).1)
  · have : a / 4096 ≠ p := by simpa using hm
    exact (h6 a hm).trans (State.asked_same (ne_of_page this (by decide)))

/-- A next-job commit of MRG while view 0 runs a job waits for it. -/
theorem commitWaitsForNextJob {o : Owner} {w : Word} {s : State} (hb : (s.committed Pg.MRG).mrgBad = false) (hm : s.mode.job = true)
    (hr : s.running 0 = true) (hn : s.pend Pg.MRG = none) :
    let t := (s.asked o Pg.MRG w).commitReq Pg.MRG 4
    (t.pend Pg.MRG).isSome = true ∧ t.on Pg.MRG Fd.HDR_COMMIT_PENDING = true ∧ t.on Pg.MRG Fd.HDR_COMMIT_REFUSED = false ∧
      ∀ off, 0x40 ≤ off → off < 4096 → t.rd Pg.MRG off = s.rd Pg.MRG off := by
  intro t
  let x := s.asked o Pg.MRG w
  have ht : t = x.accept Pg.MRG 4 [⟨x.newVals Pg.MRG (x.changed Pg.MRG), .job 0, [0]⟩] :=
    State.commitReq_accepted ((State.asked_pend ..).trans hn) (Nat.le_refl 4)
      (State.plan_mrg_job (State.asked_mrgBad.trans hb) (by rwa [State.asked_mode (by decide)]) (by rwa [State.asked_running]))
  obtain ⟨h1, h2, h3, h4⟩ := State.accept_job_shows (.inl rfl) x 4 (x.newVals Pg.MRG (x.changed Pg.MRG))
  rw [← ht] at h1 h2 h3 h4
  exact ⟨h1, h2, h3, fun off h40 ho => (h4 off h40 ho).trans (State.asked_rd (block_ne_header h40 (by decide)))⟩

/-- A commit of an engine while a job runs is refused and recorded. -/
theorem commitOfEngineRefusedInJob {o : Owner} {e at_ : Nat} {w : Word} {s : State} (he : e < 8) (hm : s.mode.job = true)
    (hn : s.pend (Pg.IE e) = none) (ha : at_ ≤ 4) :
    let t := (s.asked o (Pg.IE e) w).commitReq (Pg.IE e) at_
    t.on (Pg.IE e) Fd.HDR_COMMIT_REFUSED = true ∧ t.on (Pg.IE e) Fd.IE_STAT_CFG_REFUSED = true ∧ t.pend (Pg.IE e) = none := by
  intro t
  obtain ⟨hp, hs, -, -⟩ := ie_page he
  let x := s.asked o (Pg.IE e) w
  let y := (x.logErr Er.IE_NOT_IDLE (Pg.IE e) 0 0).flag (Pg.IE e) Fd.IE_STAT_CFG_REFUSED
  have hx : x.pend (Pg.IE e) = none := (State.asked_pend ..).trans hn
  have ht : t = y.setFld (Pg.IE e) Fd.HDR_COMMIT_REFUSED 1 :=
    State.commitReq_turnedDown hx ha (State.plan_ie_job he (by rwa [State.asked_mode hs]))
  have hy : y.pend (Pg.IE e) = none := by
    rw [(State.flag_within ..).pend _ rfl, (State.logMinor_within (by decide)).pend _ rfl, hx]
  obtain ⟨h1, h2⟩ := State.refused_shows y (Pg.IE e)
  rw [ht]
  refine ⟨h1, ?_, h2.trans hy⟩
  rw [State.on_setFld_p (by decide) (by decide)]
  exact State.on_flag_self hp (by decide) (by decide) (by decide)

/-- A commit of one register that waits for a line of a view comes into force as the view has reached it. -/
theorem commitEffect_at_line {p v m off : Nat} {w : Word} {s : State} {c : Pend} (h : QuietPage p) (hc : s.pend p = some c)
    (hx : c.parts = [⟨[(p * 4096 + off, w)], .line v m, [v]⟩]) (hv : v < 4) (h40 : 0x40 ≤ off) (ho : off < 4096) (hr : s.running v = true)
    (hm : m ≤ s.stageNext p v) :
    let t := s.commitEffect p
    t.pend p = none ∧ t.rd p off = mergeRws (p * 4096 + off) (s.rd p off) w ∧
      t.fld p Fd.HDR_PAGE_STAT_GEN = (s.fld p Fd.HDR_PAGE_STAT_GEN + 1) % 65536 ∧
      (c.lines = [] → t.cmt p v = some ⟨some (s.stageNext p v), c.at_, (s.fld p Fd.HDR_PAGE_STAT_GEN + 1) % 65536, s.time⟩) := by
  intro t
  let x : Part := ⟨[(p * 4096 + off, w)], .line v m, [v]⟩
  let u := s.wr p off (mergeRws (p * 4096 + off) (s.rd p off) w)
  let d : Pend := { c with parts := [], lines := x.linesAt c.lines (some (s.stageNext p v)) }
  have ht : t = u.commitDone p d := by
    show s.commitEffect p = _
    rw [State.commitEffect_line h hc hx rfl hv hr hm, State.putRegs_quiet h ho]
  have hgen : u.fld p Fd.HDR_PAGE_STAT_GEN = s.fld p Fd.HDR_PAGE_STAT_GEN := State.fld_wr_p (by show 8 ≠ off; omega)
  obtain ⟨h1, -, -, h4⟩ := State.commitDone_shows h u d
  rw [ht]
  refine ⟨h1, ?_, by rw [h4, hgen], fun hl => ?_⟩
  · rw [(State.commitDone_same h (block_ne_header h40 (by decide)) (block_ne_header h40 (by decide))).rd, State.rd_wr_same]
  · have hd : d.lines = [(v, some (s.stageNext p v))] := by show x.linesAt c.lines _ = _; rw [hl]; rfl
    rw [State.commitDone_quiet h, hd, State.recordLines_one, hgen]
    rfl

/-- Settles O39: each request through the state in which it is decided, each boundary through the one part that waits for it. -/
theorem commitsTakeEffectAtTheirBoundary : Obligations.CommitsTakeEffectAtTheirBoundary := by
  unfold Obligations.CommitsTakeEffectAtTheirBoundary
  refine ⟨fun o p w s hacc hp hw => ⟨_, execCommitReq_granted hacc hp hw, ?_, ?_, ?_, ?_, ?_⟩, fun p s hp => ⟨_, rfl, ?_, ?_⟩⟩
  · intro h
    rw [State.commitReq_refused (h.imp_left fun h => by rwa [State.asked_pend])]
    exact commitRefused hp
  · intro h hm hr hn ha
    exact commitTakenAtOnce hp h hm hr hn ha
  · intro h hb
    rw [h] at hb hp ⊢
    rw [State.commitReq_mrgBad (State.asked_mrgBad.trans hb)]
    obtain ⟨h1, h2, -, h4⟩ := commitRefused (o := o) (w := w) (s := s) hp
    exact ⟨h1, h2, h4⟩
  · intro h hb hm hr hn ha
    rw [h] at hb hn ⊢
    rw [ha]
    exact commitWaitsForNextJob hb hm hr hn
  · rintro ⟨e, he, h⟩ hm hn ha
    rw [h] at hn ⊢
    exact commitOfEngineRefusedInJob he hm hn ha
  · exact State.commitEffect_none (quiet_of_mem hp)
  · intro c v m off w hc hx hv h40 ho
    have hq := quiet_of_mem hp
    refine ⟨fun hw => ?_, fun hr hm => commitEffect_at_line hq hc hx hv h40 ho hr hm⟩
    refine State.commitEffect_waits hq hc hx Bound.noConfusion fun u hu hru => ?_
    by_cases e : v = u
    · subst e
      rcases hw with hw | hw
      · exact absurd hru (by rw [hw]; decide)
      · simp [Bound.reached, hw]
    · simp [Bound.reached, e]

end Sys2Proof.Machine
end

section
/-!
PROOFS. Writes by access code, refusals by guard and lock, table windows and soft resets (O40).
-/
namespace Sys2Proof.Machine

/-! ### A write by access codes -/

/-- What a register without write-once bits holds after a write: RW bits taken, W1C bits cleared by ones, all others kept (R4, R6). -/
theorem State.writeReg_rd (s : State) {p off : Nat} (w : Word) {r : RegDef} (h : regDefAt (p * 4096 + off) = some r) (hw : r.wro = 0) :
    (s.writeReg p off w).rd p off = (s.rd p off &&& ~~~r.rw &&& ~~~(r.w1c &&& w)) ||| (w &&& r.rw) := by
  unfold State.writeReg
  dsimp only
  rw [h]
  simp only [hw, ite_self, if_true, BitVec.ofNat_eq_ofNat, BitVec.or_zero]
  split
  · exact State.rd_wr_same ..
  · rw [State.wrShadow_rd, State.rd_wr_same]

/-- What its shadow copy holds: the RWS bits taken, all others kept. -/
theorem State.writeReg_rdShadow (s : State) {p off : Nat} (w : Word) {r : RegDef} (h : regDefAt (p * 4096 + off) = some r) (hw : r.wro = 0) :
    (s.writeReg p off w).rdShadow p off = (s.rdShadow p off &&& ~~~r.rws) ||| (w &&& r.rws) := by
  unfold State.writeReg
  dsimp only
  rw [h]
  simp only [hw, ite_self, if_true]
  split
  · rename_i h0
    rw [h0, BitVec.ofNat_eq_ofNat, BitVec.not_zero, BitVec.and_allOnes, BitVec.and_zero]
    exact (BitVec.or_zero).symm
  · rw [State.rdShadow_wrShadow, if_pos rfl]
    rfl

/-- PAGE_STAT.ERR brought up to date changes no block register. -/
theorem State.plain_shows (s : State) {p off : Nat} (w : Word) {r : RegDef} (h : regDefAt (p * 4096 + off) = some r) (hw : r.wro = 0)
    (hp : p ≠ Pg.PCIE) (h40 : 0x40 ≤ off) (ho : off < 4096) :
    (s.plain p off w).rd p off = (s.rd p off &&& ~~~r.rw &&& ~~~(r.w1c &&& w)) ||| (w &&& r.rw) ∧
      (s.plain p off w).rdShadow p off = (s.rdShadow p off &&& ~~~r.rws) ||| (w &&& r.rws) := by
  have hh : ¬headOf p (p * 4096 + off) := not_headOf hp ⟨ho, by unfold Rg.HDR_IRQ_STAT; omega, by unfold Rg.HDR_PAGE_STAT; omega⟩
  unfold State.plain
  exact ⟨(State.errEdge_at hh).rd.trans (s.writeReg_rd w h hw), (State.errEdge_rdShadow ..).trans (s.writeReg_rdShadow w h hw)⟩

/-! ### Where a write goes -/

theorem State.access_absent {s : State} {o : Owner} {p : Nat} (h : s.access o p = .absent) : s.reaches o p = false := by
  unfold State.access at h
  split at h
  · simpa using ‹(!s.reaches o p) = true›
  · repeat' split at h
    all_goals exact Access.noConfusion h

theorem State.access_reaches {s : State} {o : Owner} {p : Nat} (h : s.access o p ≠ .absent) : s.reaches o p = true := by
  unfold State.access at h
  split at h
  · exact absurd rfl h
  · simpa using ‹¬(!s.reaches o p) = true›

theorem State.guarded_absent {s : State} {o : Owner} {p off : Nat} {f : State → State} (h : s.access o p = .absent) : s.guarded o p off f = s := by
  unfold State.guarded; rw [h]

theorem State.guarded_guard {s : State} {o : Owner} {p off : Nat} {f : State → State} (h : s.access o p = .guard) :
    s.guarded o p off f = s.refuse o p off false := by unfold State.guarded; rw [h]

theorem State.guarded_lock {s : State} {o : Owner} {p off : Nat} {f : State → State} (h : s.access o p = .lock) :
    s.guarded o p off f = s.refuse o p off true := by unfold State.guarded; rw [h]

theorem execRegisterWrite_page {o : Owner} {p off : Nat} {w : Word} {s : State} (ho : off < 4096) (h4 : off % 4 = 0)
    (hp : (pageAt p).isSome = true) : exec (.registerWrite o (p * 4096 + off) w) s = .next (s.writePage o 0 p off w) := by
  show execRegisterWrite o (p * 4096 + off) w s = _
  unfold execRegisterWrite State.writeAny
  rw [if_neg (by omega), addr_page ho, if_pos hp, show (p * 4096 + off) % 4096 = off by omega]

theorem execRegisterWrite_window {o : Owner} {a : Nat} {w : Word} {s : State} (h4 : a % 4 = 0) (hp : pageAt (a / 4096) = none) :
    exec (.registerWrite o a w) s = .next (s.writeWindow o a w) := by
  show execRegisterWrite o a w s = _
  unfold execRegisterWrite State.writeAny
  rw [if_neg (by omega), hp]
  rfl

theorem execRegisterWrite_unaligned {o : Owner} {a : Nat} {w : Word} {s : State} (h4 : a % 4 ≠ 0) : exec (.registerWrite o a w) s = .next s := by
  show execRegisterWrite o a w s = _
  unfold execRegisterWrite State.writeAny
  rw [if_pos h4]

/-- A write over a path that does not reach the page does nothing. -/
theorem State.writePage_absent {s : State} {o : Owner} {slot p off : Nat} {w : Word} (h : s.access o p = .absent) :
    s.writePage o slot p off w = s := by
  unfold State.writePage
  split
  · rfl
  · rw [if_pos (by rw [State.access_absent h]; rfl)]

/-- A block register of a page other than SYS is written under guard and lock. -/
theorem State.writePage_block {s : State} {o : Owner} {slot p off n : Nat} {w : Word} {k : PageKind} {r : RegDef} (hk : pageAt p = some (k, n))
    (h : regDefAt (p * 4096 + off) = some r) (h40 : 0x40 ≤ off) (hs : p ≠ Pg.SYS) :
    s.writePage o slot p off w = s.guarded o p off fun s => s.writeBlock o k n p off w := by
  by_cases hr : s.access o p = .absent
  · rw [State.writePage_absent hr, State.guarded_absent hr]
  · unfold State.writePage
    simp only [hk, State.access_reaches hr, Nat.not_lt.mpr h40, hs, h, false_and, Bool.not_true, Bool.false_eq_true, Option.isNone_some, if_false]

/-- The record of a refused write (R664). -/
theorem State.refuse_shows (s : State) (o : Owner) {p off : Nat} (lock : Bool) (hp : p ≠ Pg.SYS) (h40 : 0x40 ≤ off) (ho : off < 4096) :
    (s.refuse o p off lock).rd p off = s.rd p off ∧ (s.refuse o p off lock).on p Fd.HDR_PAGE_STAT_REFUSED = true ∧
      (s.refuse o p off lock).rd Pg.SYS Rg.SYS_ACC_ERR = BitVec.ofNat 32 (p + 256 * off + 2 ^ 20 * ownerCode o + 2 ^ 23 * b2n lock) ∧
      (s.refuse o p off lock).fld Pg.SYS (whole Rg.SYS_ACC_CNT) = satN 32 (s.fld Pg.SYS (whole Rg.SYS_ACC_CNT) + 1) := by
  have hpage (k : Nat) (hk : k < 4096) : (p * 4096 + k) / 4096 ≠ Pg.SYS := by rwa [addr_page hk]
  have hsys (k : Nat) (hk : k < 4096) : Pg.SYS * 4096 + k ≠ p * 4096 + Rg.HDR_PAGE_STAT :=
    ne_of_page (by rw [addr_page hk]; exact hp.symm) (by decide)
  refine ⟨(State.refuse_same (hpage off ho) (block_ne_header h40 (by decide))).rd, ?_, ?_, ?_⟩
  · unfold State.refuse
    dsimp only
    rw [(State.bump_page (hpage _ (by decide)) (by decide)).on, (State.wr_page (hpage _ (by decide)) (by decide)).on]
    exact State.on_one (by decide) (by decide)
  · unfold State.refuse
    dsimp only
    rw [(State.bump_same (off_ne (by decide))).rd, State.rd_wr_same]
  · unfold State.refuse
    dsimp only
    rw [State.fld_bump _ _ _ (by decide), State.fld_wr_p (by decide), (State.setFld_same (hsys _ (by decide))).fld]

/-- The pages of O40 whose block registers have no effect of their own. -/
theorem State.writeBlock_plain {p : Nat} (h : p ∈ [Pg.SUPV1, Pg.POS, Pg.DLR, Pg.REG, Pg.RUL]) :
    ∃ k n, pageAt p = some (k, n) ∧ p ≠ Pg.SYS ∧ p ≠ Pg.PCIE ∧ ∀ (s : State) (o : Owner) (off : Nat) (w : Word), s.writeBlock o k n p off w = s.plain p off w := by
  simp only [List.mem_cons, List.not_mem_nil, or_false] at h
  rcases h with rfl | rfl | rfl | rfl | rfl <;> exact ⟨_, _, rfl, by decide, by decide, fun _ _ _ _ => rfl⟩

/-! ### Table windows -/

theorem State.writeWindow_outside {s : State} {o : Owner} {a : Nat} {w : Word} (h : (0x400000 ≤ a ∧ a < 0x800000) ∨ 0x1000000 ≤ a) :
    s.writeWindow o a w = s := by
  unfold State.writeWindow
  rw [if_neg (by omega)]
  split
  · rfl
  · rw [if_neg (by omega), if_neg (by omega), if_neg (by omega), if_neg (by omega), if_neg (by omega), if_neg (by omega), if_neg (by omega),
      if_neg (by omega)]

theorem State.writeWindow_session {s : State} {o : Owner} {a : Nat} {w : Word} (h1 : 0x1A0000 ≤ a) (h2 : a < 0x1B0000) (hm : s.mode ≠ .boot) :
    s.writeWindow o a w = s.setWin a (w &&& sessMask (a / 4 % 16)) := by
  unfold State.writeWindow
  rw [if_neg (by omega), if_neg (by tauto), if_neg (by omega), if_neg (by omega), if_neg (by omega), if_neg (by omega), if_neg (by omega),
    if_pos ⟨h1, h2⟩]

theorem pageAt_beyond {p : Nat} (h : 0x7B ≤ p) : pageAt p = none := by
  unfold pageAt
  repeat rw [if_neg (by omega)]

/-! ### Soft resets -/

/-- The return of a page's registers to their reset values changes no other page. -/
theorem State.resetRegs_page {s : State} {a p : Nat} (h : a / 4096 ≠ p) : RegSame a s (s.resetRegs p) := by
  unfold State.resetRegs
  split
  · exact RegSame.refl _ _
  · rename_i k n _
    dsimp only
    refine (State.setFld_page h (by decide)).step ((State.setFld_page h (by decide)).step ((State.wr_page h (by decide)).step ?_))
    exact List.foldlRecOn (motive := RegSame a s) _ _ (RegSame.refl _ _) fun u hu r hr => (State.wr_page h (kindRegs_off k r hr).2).step hu

theorem execPageSrst_reached {o : Owner} {p : Fin 128} {w : Word} {s : State} (h : s.reaches o p = true) (hp : (pageAt p).isSome = true) :
    exec (.pageSrst o p w) s = .next ((s.touch o p).pageCtl p w) := by
  show execPageSrst o p w s = _
  unfold execPageSrst
  rw [if_pos (by rw [h, hp]; rfl)]

theorem execPageSrst_absent {o : Owner} {p : Fin 128} {w : Word} {s : State} (h : s.reaches o p = false ∨ pageAt p = none) :
    exec (.pageSrst o p w) s = .next s := by
  show execPageSrst o p w s = _
  unfold execPageSrst
  rw [if_neg]
  rcases h with h | h <;> simp [h]

/-- The pages of O40 that can be reset, on which PAGE_CTL.EN has no effect at once. -/
theorem State.enChanged_none {p : Nat} (h : p ∈ [Pg.DMA, Pg.QF, Pg.ZIP]) : (pageAt p).isSome = true ∧ ∀ s : State, s.enChanged p = s := by
  simp only [List.mem_cons, List.not_mem_nil, or_false] at h
  rcases h with rfl | rfl | rfl <;> exact ⟨rfl, fun _ => rfl⟩

/-- The state in which a soft reset that a path's write asks for is decided: PAGE_CTL is written. -/
def State.enabled (s : State) (o : Owner) (p : Nat) (w : Word) : State := (s.touch o p).writeReg p Rg.HDR_PAGE_CTL w

theorem State.enabled_within (s : State) (o : Owner) (p : Nat) (w : Word) : Within 0x100000000e s (s.enabled o p w) :=
  State.touchWrite_within ..

theorem State.enabled_same {s : State} {o : Owner} {p : Nat} {w : Word} {a : Nat} (h : a ≠ p * 4096 + Rg.HDR_PAGE_CTL) :
    RegSame a s (s.enabled o p w) := State.touchWrite_same h

theorem State.pageCtl_quiet {s : State} {o : Owner} {p : Nat} {w : Word} (h : ∀ s : State, s.enChanged p = s) :
    (s.touch o p).pageCtl p w = if wf w 1 1 = 1 then (s.enabled o p w).softReset p else s.enabled o p w := by
  unfold State.pageCtl
  simp only [h]
  rfl

theorem State.softReset_idle {s : State} {p : Nat} (hp : (pageAt p).isSome = true) (h : s.on p Fd.HDR_PAGE_STAT_BUSY = false) :
    s.softReset p = ((s.resetRegs p).resetBlock p).setFld p Fd.HDR_PAGE_STAT_BUSY 1 := by
  unfold State.softReset
  rw [if_neg (by rw [h, Option.isNone_eq_false_iff.mpr hp]; decide)]

theorem State.softReset_busy {s : State} {p : Nat} (h : s.on p Fd.HDR_PAGE_STAT_BUSY = true) : s.softReset p = s := by
  unfold State.softReset
  rw [if_pos (by rw [h, Bool.or_true])]

/-- The words that the queues hold, and the list of levels. -/
def State.stores (s : State) : Tab Queue × List Nat := (s.queue, s.levels)

theorem Within.stores {m : Nat} {s t : State} (h : Within m s t) (hm : m / 2 ^ 28 % 2 = 0) : t.stores = s.stores :=
  Prod.ext (h.queue_eq hm) (h.levels_eq hm)

/-- A soft reset of QF empties every queue and the list of levels. -/
theorem State.resetQf_stores (s : State) : s.resetQf.stores = ([], []) := by
  unfold State.resetQf
  dsimp only
  refine (foldl_kept State.stores _ (fun x e => ?_) _ _).trans ?_
  · exact ((State.putEng_within ..).stores rfl).trans
      (foldl_kept State.stores _ (fun y i => (State.takeItem1_within ..).stores rfl) _ _)
  refine (foldl_kept State.stores _ (fun x g => (State.putPipe_within ..).stores rfl) _ _).trans ?_
  refine (foldl_kept State.stores _ (fun x p => (State.putIntk_within ..).stores rfl) _ _).trans ?_
  exact (State.showLevels_within _).stores rfl

/-- A write of PAGE_CTL that resets nothing, as SRST is 0 or a reset is in progress. -/
theorem State.enabled_shows {s : State} {o : Owner} {p : Nat} {w : Word} (hp : (pageAt p).isSome = true) :
    (s.enabled o p w).dma = s.dma ∧ (s.enabled o p w).queue = s.queue ∧ (s.enabled o p w).zip = s.zip ∧
      regsKept [p * 4096 + Rg.HDR_PAGE_CTL] s (s.enabled o p w) ∧ (s.enabled o p w).fld p Fd.HDR_PAGE_CTL_EN = wf w 0 1 := by
  have hw := State.enabled_within s o p w
  refine ⟨hw.dma_eq rfl, hw.queue_eq rfl, hw.zip_eq rfl, regsKept_one fun b hb => State.enabled_same hb, ?_⟩
  exact State.fld_writeReg _ _ _ _ _ _ (pageCtlDef hp) rfl rfl rfl rfl (by decide)

theorem State.resetBlock_dma (s : State) : s.resetBlock Pg.DMA = { s with dma := [] } := rfl
theorem State.resetBlock_qf (s : State) : s.resetBlock Pg.QF = s.resetQf := rfl
theorem State.resetBlock_zip (s : State) : s.resetBlock Pg.ZIP = ({ s with zip := {} }.setFifo 11 []).setFifo 12 [] := rfl

/-- What a soft reset takes from DMA, QF and ZIP (R661). -/
theorem State.softReset_shows {s : State} {p : Nat} (hp : (pageAt p).isSome = true) (h : s.on p Fd.HDR_PAGE_STAT_BUSY = false) :
    let t := s.softReset p
    t.on p Fd.HDR_PAGE_STAT_BUSY = true ∧ (p = Pg.DMA → t.dma = [] ∧ t.queue = s.queue ∧ pagesKept [p] s t) ∧
      (p = Pg.QF → t.queue = [] ∧ t.levels = []) ∧ (p = Pg.ZIP → t.zip = {} ∧ t.queue = s.queue) := by
  intro t
  have ht : t = ((s.resetRegs p).resetBlock p).setFld p Fd.HDR_PAGE_STAT_BUSY 1 := State.softReset_idle hp h
  have hq : (s.resetRegs p).queue = s.queue := (State.resetRegs_within ..).queue_eq rfl
  have hpage {a : Nat} (ha : a / 4096 ≠ p) : RegSame a s (s.resetRegs p) := State.resetRegs_page ha
  rw [ht]
  generalize s.resetRegs p = u at hq hpage
  refine ⟨State.on_one (by decide) (by decide), ?_, ?_, ?_⟩
  · rintro rfl
    rw [State.resetBlock_dma]
    refine ⟨rfl, hq, fun a ha => ?_⟩
    have hp : a / 4096 ≠ Pg.DMA := by simpa using ha
    exact (State.setFld_page hp (by decide)).step (RegSame.step (RegSame.of_regs rfl) (hpage hp))
  · rintro rfl
    rw [State.resetBlock_qf, State.setFld_queue, State.setFld_levels]
    simpa only [State.stores, Prod.mk.injEq] using u.resetQf_stores
  · rintro rfl
    rw [State.resetBlock_zip]
    exact ⟨rfl, hq⟩

/-! ### The clauses of O40 -/

/-- A granted write to a page whose block registers have no effect of their own. -/
theorem registerWrite_granted {o : Owner} {p off : Nat} {w : Word} {r : RegDef} {s : State} (ho : off < 4096) (h40 : 0x40 ≤ off)
    (hr : regDefAt (p * 4096 + off) = some r) (ha : s.access o p = .granted) (hp : p ∈ [Pg.SUPV1, Pg.POS, Pg.DLR, Pg.REG, Pg.RUL])
    (hw : r.wro = 0) :
    let t := s.writePage o 0 p off w
    t.rd p off = (s.rd p off &&& ~~~r.rw &&& ~~~(r.w1c &&& w)) ||| (w &&& r.rw) ∧
      t.rdShadow p off = (s.rdShadow p off &&& ~~~r.rws) ||| (w &&& r.rws) := by
  intro t
  obtain ⟨k, n, hk, hs, hpc, hplain⟩ := State.writeBlock_plain hp
  have ht : t = (s.touch o p).plain p off w := by
    show s.writePage o 0 p off w = _
    rw [State.writePage_block hk hr h40 hs, State.guarded_granted ha, hplain]
  obtain ⟨h1, h2⟩ := (s.touch o p).plain_shows w hr hw hpc h40 ho
  rw [ht, h1, h2, State.rd_of (State.touch_regs ..), (State.touch_within ..).rdShadow _ _ rfl]
  exact ⟨rfl, rfl⟩

/-- A write that guard or lock refuses changes the records of the refusal alone. -/
theorem registerWrite_refused {o : Owner} {p off : Nat} {w : Word} {r : RegDef} {s : State} (hp : (pageAt p).isSome = true) (h40 : 0x40 ≤ off)
    (hr : regDefAt (p * 4096 + off) = some r) (hs : p ≠ Pg.SYS) {lock : Bool} (ha : s.access o p = if lock then .lock else .guard) :
    s.writePage o 0 p off w = s.refuse o p off lock := by
  obtain ⟨⟨k, n⟩, hk⟩ := Option.isSome_iff_exists.mp hp
  rw [State.writePage_block hk hr h40 hs]
  cases lock with
  | false => exact State.guarded_guard ha
  | true => exact State.guarded_lock ha

/-- Settles O40: each write through the place it goes to, each soft reset through the block it empties. -/
theorem registerWritesAndSoftResets : Obligations.RegisterWritesAndSoftResets := by
  unfold Obligations.RegisterWritesAndSoftResets
  refine ⟨fun o p off w r s ho h4 h40 hp hr => ⟨_, execRegisterWrite_page ho h4 hp, ?_, ?_, ?_, ?_⟩, fun o a w s => ?_,
    fun o p w s hreach hmem => ?_, fun o p w s h => execPageSrst_absent h, fun p s => ⟨_, rfl, ?_, ?_⟩⟩
  · intro ha hm hw
    exact registerWrite_granted ho h40 hr ha hm hw
  · intro ha hs
    rw [registerWrite_refused hp h40 hr hs (lock := false) ha]
    exact s.refuse_shows o false hs h40 ho
  · intro ha hs
    rw [registerWrite_refused hp h40 hr hs (lock := true) ha]
    exact s.refuse_shows o true hs h40 ho
  · exact State.writePage_absent
  · by_cases h4 : a % 4 = 0
    · by_cases hn : pageAt (a / 4096) = none
      · refine ⟨_, execRegisterWrite_window h4 hn, fun h => absurd h4 h, fun _ => State.writeWindow_outside, fun _ h1 h2 hm => ?_⟩
        rw [State.writeWindow_session h1 h2 hm, State.win_setWin, if_pos rfl]
        exact ⟨rfl, rfl⟩
      · refine ⟨_, rfl, fun h => absurd h4 h, fun h => absurd h hn, fun _ h1 _ _ => absurd (pageAt_beyond (by omega)) hn⟩
    · exact ⟨_, execRegisterWrite_unaligned h4, fun _ => rfl, fun _ _ => rfl, fun h => absurd h h4⟩
  · obtain ⟨hp, hen⟩ := State.enChanged_none hmem
    have hbusy : (s.enabled o p w).on p Fd.HDR_PAGE_STAT_BUSY = s.on p Fd.HDR_PAGE_STAT_BUSY := (State.enabled_same (off_ne (by decide))).on
    obtain ⟨hdma, hqueue, hzip, hregs, henable⟩ := State.enabled_shows (s := s) (o := o) (w := w) hp
    refine ⟨_, execPageSrst_reached hreach hp, ?_, ?_⟩
    all_goals rw [State.pageCtl_quiet hen]
    · intro h
      have e : (if wf w 1 1 = 1 then (s.enabled o p w).softReset p else s.enabled o p w) = s.enabled o p w := by
        rcases h with h | h
        · rw [State.softReset_busy (hbusy.trans h), ite_self]
        · rw [if_neg (by rw [h]; decide)]
      rw [e]
      exact ⟨hdma, hqueue, hzip, hregs, henable⟩
    · intro hb hw
      rw [if_pos hw]
      obtain ⟨h1, h2, h3, h4⟩ := State.softReset_shows hp (hbusy.trans hb)
      refine ⟨h1, fun e => ?_, h3, fun e => ?_⟩
      · obtain ⟨hd, hq, hk⟩ := h2 e
        refine ⟨hd, hq.trans hqueue, fun a ha => (hk a ha).trans (hregs a ?_)⟩
        simpa using ne_of_page (by simpa using ha) (by decide)
      · obtain ⟨hz, hq⟩ := h4 e
        exact ⟨hz, hq.trans hqueue⟩
  · intro h
    rw [if_neg (by rw [h]; decide)]
  · intro h
    rw [if_pos h]
    exact ⟨State.on_zero (by decide), regsKept_one fun b hb => State.setFld_same hb⟩

end Sys2Proof.Machine
end

section
/-!
PROOFS. The machine after a power-on reset (O46): every register and window word at its own reset value, the rows of the page tables
that give some of them, the mode and the locks.
-/
namespace Sys2Proof.Machine

/-! ### Registers, shadow copies and table windows of the machine at reset -/

@[simp] theorem State.reset_rd (p off : Nat) : State.reset.rd p off = regReset (p * 4096 + off) := rfl
@[simp] theorem State.reset_rdShadow (p off : Nat) : State.reset.rdShadow p off = regReset (p * 4096 + off) := rfl
@[simp] theorem State.reset_win (a : Nat) : State.reset.win a = winReset a := rfl
@[simp] theorem State.reset_tgOf (v : Nat) : State.reset.tgOf v = {} := rfl

/-- PAGE_ID is apart: its value names the page, so that the header's one table cannot state it (R660). -/
theorem regReset_of_def {p off : Nat} {r : RegDef} (h : regDefAt (p * 4096 + off) = some r) (h0 : off % 4096 ≠ Rg.HDR_PAGE_ID) :
    regReset (p * 4096 + off) = r.reset := by
  have hid : (p * 4096 + off) % 4096 ≠ Rg.HDR_PAGE_ID := by rwa [Nat.mul_add_mod_self_right]
  unfold regReset
  rw [if_neg hid, h]

theorem State.reset_rd_of_def {p off : Nat} {r : RegDef} (h : regDefAt (p * 4096 + off) = some r) (h0 : off % 4096 ≠ Rg.HDR_PAGE_ID) :
    State.reset.rd p off = r.reset := (State.reset_rd p off).trans (regReset_of_def h h0)

theorem State.reset_fld_of_def {p : Nat} (f : Fld) {r : RegDef} (h : regDefAt (p * 4096 + f.off) = some r)
    (h0 : f.off % 4096 ≠ Rg.HDR_PAGE_ID) : State.reset.fld p f = wf r.reset f.lo f.len := by
  unfold State.fld
  rw [State.reset_rd_of_def h h0]

/-! ### The rows of the tables -/

theorem lockDef {p : Nat} (h : (pageAt p).isSome = true) :
    regDefAt (p * 4096 + Rg.HDR_LOCK) = some ⟨0x018, 0x00000000, 0x00000000, 0x00000000, 0x00000000, 0x00000000, 0x00000000⟩ :=
  regDefAt_header h (by decide)

theorem modeDef :
    regDefAt (Pg.SYS * 4096 + Rg.SYS_MODE) = some ⟨0x040, 0x00000000, 0x00000000, 0x00000000, 0x00000000, 0x00000000, 0x00000000⟩ := by
  decide

theorem bootStatDef :
    regDefAt (Pg.BOOT * 4096 + Rg.BOOT_STAT) = some ⟨0x040, 0x00000000, 0x00000000, 0x00000000, 0x00000000, 0x00000000, 0x00000000⟩ := by
  decide

theorem supvCtlDef :
    regDefAt (Pg.SUPV1 * 4096 + Rg.SUPV1_CTL) = some ⟨0x040, 0x00000001, 0x00000001, 0x00000000, 0x00000000, 0x00000000, 0x00000000⟩ := by
  decide

theorem lockToDef :
    regDefAt (Pg.SUPV1 * 4096 + Rg.SUPV1_LOCK_TO) = some ⟨0x04C, 0x0000001E, 0x0000FFFF, 0x00000000, 0x00000000, 0x00000000, 0x00000000⟩ := by
  decide

theorem logHeadDef :
    regDefAt (Pg.SUPV0 * 4096 + Rg.SUPV0_LOG_HEAD) = some ⟨0x050, 0x00000100, 0x00000000, 0x00000000, 0x00000000, 0x00000000, 0x00000000⟩ := by
  decide

theorem tempLimDef :
    regDefAt (Pg.HLTH * 4096 + Rg.HLTH_TEMP_LIM) = some ⟨0x050, 0x00057364, 0x00FFFFFF, 0x00000000, 0x00000000, 0x00000000, 0x00000000⟩ := by
  decide

theorem tgRatioDef (v : Fin 4) : regDefAt (Pg.POS * 4096 + Rg.POS_TG_RATIO v) =
    some ⟨Rg.POS_TG_RATIO v, 0x00010000, 0x00000000, 0xFFFFFFFF, 0x00000000, 0x00000000, 0x00000000⟩ := by
  revert v
  decide

/-! ### Mode and locks at reset -/

theorem State.reset_mode : State.reset.mode = .boot := by
  unfold State.mode
  rw [State.reset_fld_of_def Fd.SYS_MODE_MODE modeDef (by decide)]
  rfl

theorem pageList_isSome : ∀ p ∈ pageList, (pageAt p).isSome = true := by decide

theorem State.reset_lockHolder {p : Nat} (h : (pageAt p).isSome = true) : State.reset.lockHolder p = 0 :=
  State.reset_fld_of_def Fd.HDR_LOCK_HOLDER (lockDef h) (by decide)

/-- Settles O46: each register through the row of its page's table, each part beside the registers as the reset state lists it. Where the
manual states no value, the model's does: fuses (log entry 12), OWNER (13), straps (14), the MSI-X mask bits (15) and what no table
shows (59). -/
theorem resetLeavesTheStatedValues : Obligations.ResetLeavesTheStatedValues := by
  unfold Obligations.ResetLeavesTheStatedValues
  have hstep : State.reset.fld Pg.BOOT Fd.BOOT_STAT_STEP = 0 := State.reset_fld_of_def Fd.BOOT_STAT_STEP bootStatDef (by decide)
  have hcold : State.reset.fld Pg.BOOT Fd.BOOT_STAT_WARM = 0 := State.reset_fld_of_def Fd.BOOT_STAT_WARM bootStatDef (by decide)
  have hregs (p off : Nat) : State.reset.rd p off = regReset (p * 4096 + off) ∧ State.reset.rdShadow p off = regReset (p * 4096 + off) :=
    ⟨State.reset_rd p off, State.reset_rdShadow p off⟩
  have hlocks : ∀ p ∈ pageList, State.reset.lockHolder p = 0 := fun p hp => State.reset_lockHolder (pageList_isSome p hp)
  have hlines (v : Nat) : (State.reset.tgOf v).next = 0 := by rw [State.reset_tgOf]
  have hlockTo : State.reset.fld Pg.SUPV1 Fd.SUPV1_LOCK_TO_b0 = 30 := State.reset_fld_of_def Fd.SUPV1_LOCK_TO_b0 lockToDef (by decide)
  have hlease : State.reset.on Pg.SUPV1 Fd.SUPV1_CTL_LEASE_EN = true := by
    unfold State.on
    rw [State.reset_fld_of_def Fd.SUPV1_CTL_LEASE_EN supvCtlDef (by decide)]
    rfl
  have hlog : State.reset.rd Pg.SUPV0 Rg.SUPV0_LOG_HEAD = 0x100 := State.reset_rd_of_def logHeadDef (by decide)
  have htemp : State.reset.rd Pg.HLTH Rg.HLTH_TEMP_LIM = 0x00057364 := State.reset_rd_of_def tempLimDef (by decide)
  have hratio : ∀ v < 4, State.reset.rd Pg.POS (Rg.POS_TG_RATIO v) = 0x00010000 := fun v hv =>
    State.reset_rd_of_def (tgRatioDef ⟨v, hv⟩) (by unfold Rg.POS_TG_RATIO Rg.HDR_PAGE_ID; omega)
  exact ⟨State.reset_mode, hstep, hcold, hregs, State.reset_win, rfl, rfl, rfl, hlocks, hlines, hlockTo, hlease, hlog, htemp, hratio⟩

end Sys2Proof.Machine
end

section
/-!
PROOFS. Which registers an operation may change where no commit waits, and HOLD; requests in CHANGEOVER or behind a pending request (O51).
-/
namespace Sys2Proof.Machine

/-! ### Where no commit waits: which registers an operation may change -/

/-- Where no commit waits, none waits afterwards, and of the registers only those of the pages `l` may have changed. -/
def Calm (l : List Nat) (s t : State) : Prop := s.commits = [] → t.commits = [] ∧ ∀ a, a / 4096 ∉ l → RegSame a s t

theorem Calm.refl (l : List Nat) (s : State) : Calm l s s := fun h => ⟨h, fun a _ => RegSame.refl a s⟩

theorem Calm.step {l k : List Nat} {s t u : State} (h : Calm l t u) (hl : l ⊆ k) (g : Calm k s t) : Calm k s u := fun hs =>
  have ⟨ht, gr⟩ := g hs
  have ⟨hu, hr⟩ := h ht
  ⟨hu, fun a ha => (hr a fun x => ha (hl x)).step (gr a ha)⟩

theorem Calm.foldl {α : Type} {k : List Nat} {s i : State} {f : State → α → State} {l : List α} (hi : Calm k s i)
    (hf : ∀ t, ∀ x ∈ l, Calm k t (f t x)) : Calm k s (l.foldl f i) := by
  induction l generalizing i with
  | nil => exact hi
  | cons a l ih => exact ih ((hf i a List.mem_cons_self).step (fun _ x => x) hi) fun t x hx => hf t x (List.mem_cons_of_mem a hx)

theorem Calm.of_within {m : Nat} {s t : State} (h : Within m s t) (h1 : m / 2 ^ 1 % 2 = 0) (h35 : m / 2 ^ 35 % 2 = 0) (l : List Nat) :
    Calm l s t := fun hs => ⟨(h.commits_eq h35).trans hs, fun _ _ => RegSame.of_regs (h.regs_eq h1)⟩

theorem Calm.of_eq {s t : State} (hc : t.commits = s.commits) (hr : t.regs = s.regs) (l : List Nat) : Calm l s t :=
  fun hs => ⟨hc.trans hs, fun _ _ => RegSame.of_regs hr⟩

/-- The register of a page outside the list is as it was. -/
theorem Calm.reg {l : List Nat} {s t : State} (h : Calm l s t) (hs : s.commits = []) {p off : Nat} (hp : p ∉ l) (ho : off < 4096) :
    RegSame (p * 4096 + off) s t := (h hs).2 _ (by rw [addr_page ho]; exact hp)

theorem State.wr_calm (s : State) {p off : Nat} (w : Word) (h : off < 4096) : Calm [p] s (s.wr p off w) :=
  fun hs => ⟨hs, fun _ ha => State.wr_page (by simpa using ha) h⟩

theorem State.setFld_calm (s : State) {p : Nat} {f : Fld} (v : Nat) (h : f.off < 4096) : Calm [p] s (s.setFld p f v) := State.wr_calm s _ h

theorem State.bumpBy_calm (s : State) {p : Nat} {f : Fld} (n : Nat) (h : f.off < 4096) : Calm [p] s (s.bumpBy p f n) := State.wr_calm s _ h

/-! ### Where no commit waits, boundaries change nothing (R666) -/

theorem State.pend_calm {s : State} (h : s.commits = []) (p : Nat) : s.pend p = none := by unfold State.pend; rw [h]; rfl

theorem State.applyParts_calm {s : State} (h : s.commits = []) (p : Nat) (due : Bound → Bool) (n : Option Nat) : s.applyParts p due n = s :=
  State.applyParts_none (State.pend_calm h p) due n

theorem State.viewStopped_calm {s : State} (h : s.commits = []) (v : Nat) (l : List Nat) : s.viewStopped v l = s :=
  foldl_id _ _ _ fun _ _ => State.applyParts_calm h ..

theorem State.jobParts_calm {s : State} (h : s.commits = []) (line : Nat → Option Nat) : s.jobParts line = s :=
  foldl_id _ _ _ fun _ _ => foldl_id _ _ _ fun _ _ => State.applyParts_calm h ..

/-! ### Generators and streams that stop -/

theorem State.stopAt_calm (s : State) {v : Nat} (hv : v < 4) (c : Nat) (l : List Nat) : Calm [Pg.POS] s (s.stopAt v c l) := by
  have h (t : State) (ht : Calm [Pg.POS] s t) (b : Bool) : Calm [Pg.POS] s (if b then t.viewStopped v l else t) := by
    intro hs
    have hc := (ht hs).1
    rw [State.viewStopped_calm hc, ite_self]
    exact ht hs
  unfold State.stopAt
  refine h _ ?_ _
  have h1 : Calm [Pg.POS] s { s with tg := tabPut (dflt {}) v ((tabGet (dflt {}) s.tg v).cut c) s.tg } := Calm.of_eq rfl rfl _
  split
  · exact h1
  · exact (State.setFld_calm _ _ (show 128 + 16 * v < 4096 by omega)).step (fun _ x => x) h1

theorem State.takeStream_calm (s : State) {n : Nat} (hn : n < 7) (line : Option Nat) : Calm [Pg.STR] s (s.takeStream n line) := by
  intro hs
  unfold State.takeStream
  rw [State.applyParts_calm hs]
  have h1 : Calm [Pg.STR] s (s.putStr n { s.str_ n with want := none, ask := false }) := Calm.of_eq rfl rfl _
  dsimp only
  split
  · exact ((State.wr_calm _ _ (show 84 + 12 * n < 4096 by omega)).step (fun _ x => x) h1) hs
  · exact h1 hs

theorem State.stopGrids_calm (s : State) {n : Nat} (hn : n < 7) : Calm [Pg.STR, Pg.DEC] s (s.stopGrids n) := by
  unfold State.stopGrids
  refine (State.setFld_calm _ _ (show 88 + 12 * n < 4096 by omega)).step (by decide) ?_
  refine Calm.step (t := (s.str_ n).grids.foldl (fun (s : State) x => s.discardPartial x) s) (Calm.of_eq rfl rfl []) (by simp) ?_
  refine Calm.foldl (Calm.refl _ _) fun t x _ => ?_
  unfold State.discardPartial
  split
  · exact (State.bumpBy_calm _ _ (by decide)).step (by decide) (Calm.refl _ _)
  · exact Calm.refl _ _

theorem State.strsOf_lt {s : State} {v n : Nat} (h : n ∈ s.strsOf v) : n < 7 := List.mem_range.mp (List.mem_filter.mp h).1

theorem State.stopStreams_calm (s : State) (v : Nat) : Calm [Pg.STR, Pg.DEC] s (s.stopStreams v) := by
  unfold State.stopStreams
  dsimp only
  refine Calm.foldl (Calm.foldl (Calm.refl _ _) fun t n hn => ?_) fun t n hn => State.stopGrids_calm t (State.strsOf_lt hn)
  split
  · split
    · exact (State.takeStream_calm t (List.mem_range.mp hn) none).step (by simp) (Calm.refl _ _)
    · exact Calm.refl _ _
  · exact Calm.refl _ _

theorem State.tgSync_calm (s : State) {v : Nat} (hv : v < 4) : Calm [Pg.POS] s (s.tgSync v) := by
  unfold State.tgSync
  dsimp only
  split
  · exact Calm.of_eq rfl rfl _
  · split
    · exact State.stopAt_calm s hv _ _
    · exact Calm.refl _ _

theorem State.tgSyncAll_calm (s : State) : Calm [Pg.POS] s s.tgSyncAll :=
  Calm.foldl (Calm.refl _ _) fun t _ hv => State.tgSync_calm t (List.mem_range.mp hv)

theorem State.enter_calm (s : State) (m : Mode) : Calm [Pg.SYS, Pg.PINS0, Pg.PINS1] s (s.enter m) := by
  have h1 : Calm [Pg.SYS, Pg.PINS0, Pg.PINS1] s ((s.setFld Pg.SYS Fd.SYS_MODE_PREV_MODE s.mode.code).setFld Pg.SYS Fd.SYS_MODE_MODE m.code) :=
    (State.setFld_calm _ _ (by decide)).step (by decide) ((State.setFld_calm _ _ (by decide)).step (by decide) (Calm.refl _ _))
  unfold State.enter
  refine Calm.step (Calm.of_within (State.raiseNow_within ..) rfl rfl []) (by simp) ?_
  split
  · unfold State.clearMan
    exact (State.wr_calm _ _ (by decide)).step (by decide) ((State.wr_calm _ _ (by decide)).step (by decide) h1)
  · exact h1


/-! ### HOLD (R69, R71) -/

theorem State.stopBlocks_calm (s : State) : Calm [Pg.STR, Pg.DEC] s s.stopBlocks := by
  unfold State.stopBlocks
  extract_lets x
  have hx : Calm [Pg.STR, Pg.DEC] s x := Calm.foldl (Calm.refl _ _) fun t v _ =>
    Calm.step (t := t.stopStreams v) (Calm.of_eq rfl rfl []) (by simp) (State.stopStreams_calm t v)
  clear_value x
  exact Calm.step (Calm.of_eq (s := x) rfl rfl []) (by simp) hx

theorem State.faultN_calm (s : State) (f g : Fld) (hg : g.off < 4096) : Calm [Pg.SUPV0] s (s.faultN f g) := by
  unfold State.faultN
  split
  · exact (State.setFld_calm _ _ hg).step (by simp) (State.setFld_calm _ _ (by decide))
  · exact Calm.refl _ _

theorem State.safePins_calm (s : State) : Calm [Pg.PINS0, Pg.PINS1] s s.safePins := by
  unfold State.safePins
  exact (State.setFld_calm _ _ (by decide)).step (by decide) ((State.setFld_calm _ _ (by decide)).step (by decide) (Calm.of_eq rfl rfl _))

theorem State.cancelCalendar_calm (s : State) : Calm [Pg.CRL] s s.cancelCalendar := by
  unfold State.cancelCalendar
  exact (State.setFld_calm _ _ (by decide)).step (by decide) ((State.bumpBy_calm _ _ (by decide)).step (by decide) (Calm.of_eq rfl rfl _))

theorem State.cancelActs_calm (s : State) : Calm [Pg.VRD] s s.cancelActs := by
  unfold State.cancelActs
  exact (State.setFld_calm _ _ (by decide)).step (by decide) ((State.bumpBy_calm _ _ (by decide)).step (by decide) (Calm.of_eq rfl rfl _))

/-- A requested HOLD marked: no request pends, and it may be cleared. -/
def State.holdMarked (s : State) : State :=
  ((s.setFld Pg.SYS Fd.SYS_MODE_REQ_PENDING 0).setFld Pg.SYS Fd.SYS_MODE_HOLD_ENTRY 0xFF).setFld Pg.SYS Fd.SYS_MODE_HOLD_CLEARABLE 1

/-- What stops before the blocks behind the triggers do: pins, calendar, slots, actuations and triggers. -/
def State.holdQuiet (s : State) : State := (List.range 4).foldl (fun s v => s.stopTriggers v) s.safePins.cancelCalendar.stopSlots.cancelActs

/-- What stops, with FAULT_N, once HOLD is marked. -/
def State.holdDone (s : State) : State := (s.faultN Fd.SUPV0_FAULT_CTL_FATAL_EN Fd.SUPV0_FAULT_STAT_REQ_HOLD_CAUSE).holdQuiet.stopBlocks

theorem State.enterHold_eq {s : State} (h1 : s.mode ≠ .boot) (h2 : s.mode ≠ .hold) :
    s.enterHold 0xFF = ((s.holdMarked.holdDone.enter .hold).raiseNow evHoldEntered).setFld Pg.SUPV1 Fd.SUPV1_STAT_DRAIN_ACTIVE 1 := by
  unfold State.enterHold State.holdMarked State.holdDone State.holdQuiet
  rw [if_neg (by simp [h1, h2])]
  rfl

/-- The pages whose registers show what HOLD stops. -/
abbrev holdPages : List Nat := [Pg.PINS0, Pg.PINS1, Pg.CRL, Pg.VRD, Pg.POS, Pg.STR, Pg.DEC]

theorem State.holdQuiet_calm (s : State) : Calm holdPages s s.holdQuiet := by
  unfold State.holdQuiet
  refine Calm.foldl (Calm.step (State.cancelActs_calm _) (by decide) (Calm.step (l := [Pg.CRL]) (State.setFld_calm _ _ (by decide)) (by decide)
    ((State.cancelCalendar_calm _).step (by decide) ((State.safePins_calm s).step (by decide) (Calm.refl _ _))))) fun t v hv => ?_
  exact (State.stopAt_calm t (List.mem_range.mp hv) 0 pageList).step (by decide) (Calm.refl _ _)

/-- A change of mode leaves the other fields of SYS.MODE. -/
theorem State.enter_fld (s : State) (m : Mode) (f : Fld) (h : f.off = Rg.SYS_MODE) (hf : 6 ≤ f.lo) : (s.enter m).fld Pg.SYS f = s.fld Pg.SYS f := by
  have hp (t : State) (p off : Nat) (w : Word) (h1 : p ≠ Pg.SYS) (h2 : off < 4096) : (t.wr p off w).fld Pg.SYS f = t.fld Pg.SYS f :=
    (State.wr_page (by rw [h, addr_page (by decide)]; exact h1.symm) h2).fld
  have hk : ((s.setFld Pg.SYS Fd.SYS_MODE_PREV_MODE s.mode.code).setFld Pg.SYS Fd.SYS_MODE_MODE m.code).fld Pg.SYS f = s.fld Pg.SYS f := by
    rw [State.fld_setFld_apart _ _ _ _ _ _ (by decide) (.inr (.inr (by show 0 + 3 ≤ f.lo; omega))),
      State.fld_setFld_apart _ _ _ _ _ _ (by decide) (.inr (.inr (by show 3 + 3 ≤ f.lo; omega)))]
  unfold State.enter
  dsimp only
  rw [(State.raiseNow_within ..).fld _ _ rfl]
  split
  · unfold State.clearMan
    rw [hp _ _ _ _ (by decide) (by decide), hp _ _ _ _ (by decide) (by decide), hk]
  · exact hk

theorem State.enter_prev (s : State) (m : Mode) : (s.enter m).fld Pg.SYS Fd.SYS_MODE_PREV_MODE = s.mode.code := by
  have hp (t : State) (p off : Nat) (w : Word) (h1 : p ≠ Pg.SYS) (h2 : off < 4096) :
      (t.wr p off w).fld Pg.SYS Fd.SYS_MODE_PREV_MODE = t.fld Pg.SYS Fd.SYS_MODE_PREV_MODE :=
    (State.wr_page (by rw [addr_page (by decide)]; exact h1.symm) h2).fld
  have hk : ((s.setFld Pg.SYS Fd.SYS_MODE_PREV_MODE s.mode.code).setFld Pg.SYS Fd.SYS_MODE_MODE m.code).fld Pg.SYS Fd.SYS_MODE_PREV_MODE = s.mode.code := by
    rw [State.fld_setFld_apart _ _ _ _ _ _ (by decide) (by decide), State.fld_fits (by decide)]
    cases s.mode <;> decide
  unfold State.enter
  dsimp only
  rw [(State.raiseNow_within ..).fld _ _ rfl]
  split
  · unfold State.clearMan
    rw [hp _ _ _ _ (by decide) (by decide), hp _ _ _ _ (by decide) (by decide), hk]
  · exact hk

theorem State.holdDone_calm (s : State) : Calm (Pg.SUPV0 :: holdPages) s s.holdDone :=
  (State.stopBlocks_calm _).step (by decide) ((State.holdQuiet_calm _).step (by decide) ((State.faultN_calm _ _ _ (by decide)).step (by decide) (Calm.refl _ _)))

/-- A requested HOLD shows in SYS.MODE: nothing pends, no log slot is its cause, and it may be cleared. -/
theorem State.enterHold_shows {s : State} (h1 : s.mode ≠ .boot) (h2 : s.mode ≠ .hold) (hc : s.commits = []) :
    (s.enterHold 0xFF).on Pg.SYS Fd.SYS_MODE_REQ_PENDING = false ∧ (s.enterHold 0xFF).fld Pg.SYS Fd.SYS_MODE_HOLD_ENTRY = 0xFF ∧
      (s.enterHold 0xFF).on Pg.SYS Fd.SYS_MODE_HOLD_CLEARABLE = true := by
  have hm : s.holdMarked.commits = [] := by unfold State.holdMarked; simpa using hc
  have hk (f : Fld) (h : f.off = Rg.SYS_MODE) (hf : 6 ≤ f.lo) : (s.enterHold 0xFF).fld Pg.SYS f = s.holdMarked.fld Pg.SYS f := by
    rw [State.enterHold_eq h1 h2, (State.setFld_page (by rw [h]; decide) (by decide)).fld, (State.raiseNow_within ..).fld _ _ rfl, State.enter_fld _ _ _ h hf]
    exact RegSame.fld ((State.holdDone_calm _).reg hm (by decide) (by rw [h]; decide))
  have ho (f : Fld) (h : f.off = Rg.SYS_MODE) (hf : 6 ≤ f.lo) : (s.enterHold 0xFF).on Pg.SYS f = s.holdMarked.on Pg.SYS f := by
    unfold State.on; rw [hk f h hf]
  refine ⟨?_, ?_, ?_⟩
  · rw [ho _ rfl (by decide)]
    unfold State.holdMarked
    rw [State.on_setFld_p (by decide) (by decide), State.on_setFld_p (by decide) (by decide)]
    exact State.on_zero (by decide)
  · rw [hk _ rfl (by decide)]
    unfold State.holdMarked
    rw [State.fld_setFld_p (by decide) (by decide)]
    exact State.fld_fits (by decide) (by decide)
  · rw [ho _ rfl (by decide)]
    exact State.on_one (by decide) (by decide)

/-- HOLD ends the calendar, the pulses, the actuations and the engines' work (R69). -/
theorem State.enterHold_stops {s : State} (h1 : s.mode ≠ .boot) (h2 : s.mode ≠ .hold) :
    (s.enterHold 0xFF).crl.entries = [] ∧ (s.enterHold 0xFF).crl.pulses = [] ∧ (s.enterHold 0xFF).acts = [] ∧
      ∀ e, ((s.enterHold 0xFF).engOf e).view = none := by
  have hq (t : State) : t.holdQuiet.crl.entries = [] ∧ t.holdQuiet.crl.pulses = [] ∧ t.holdQuiet.acts = [] := by
    unfold State.holdQuiet
    rw [foldl_kept (·.crl) _ (fun s v => (State.stopTriggers_within s v).crl_eq rfl), foldl_kept (·.acts) _ (fun s v => (State.stopTriggers_within s v).acts_eq rfl)]
    exact ⟨rfl, rfl, rfl⟩
  have hb (t : State) : t.stopBlocks.crl = t.crl ∧ t.stopBlocks.acts = t.acts ∧ ∀ e, (t.stopBlocks.engOf e).view = none := by
    refine ⟨(State.stopBlocks_within t).crl_eq rfl, ?_, fun e => tabGet_tabMap (P := fun x : Eng => x.view = none) _ _ (fun _ => rfl) (fun _ => rfl) _ _⟩
    unfold State.stopBlocks
    extract_lets x
    have hx : x.acts = t.acts := by
      unfold x
      apply foldl_kept (·.acts)
      intro s v
      exact (State.stopStreams_within s v).acts_eq rfl
    clear_value x
    exact hx
  obtain ⟨q1, q2, q3⟩ := hq (s.holdMarked.faultN Fd.SUPV0_FAULT_CTL_FATAL_EN Fd.SUPV0_FAULT_STAT_REQ_HOLD_CAUSE)
  obtain ⟨b1, b2, b3⟩ := hb (s.holdMarked.faultN Fd.SUPV0_FAULT_CTL_FATAL_EN Fd.SUPV0_FAULT_STAT_REQ_HOLD_CAUSE).holdQuiet
  rw [State.enterHold_eq h1 h2]
  refine ⟨?_, ?_, ?_, fun e => ?_⟩
  · rw [State.setFld_crl, State.raiseNow_crl, (State.enter_within ..).crl_eq rfl]
    exact (congrArg (·.entries) b1).trans q1
  · rw [State.setFld_crl, State.raiseNow_crl, (State.enter_within ..).crl_eq rfl]
    exact (congrArg (·.pulses) b1).trans q2
  · rw [State.setFld_acts, State.raiseNow_acts, (State.enter_within ..).acts_eq rfl]
    exact b2.trans q3
  · rw [State.setFld_engOf, (State.raiseNow_within ..).engOf e rfl, (State.enter_within ..).engOf e rfl]
    exact b3 e

/-! ### Mode requests (R63-R65) -/

theorem State.refusal_pending (x : State) (k : Nat) : (x.refusal k).on Pg.SYS Fd.SYS_MODE_REQ_PENDING = x.on Pg.SYS Fd.SYS_MODE_REQ_PENDING :=
  State.on_setFld_p (by decide) (by decide)

/-- What a write of MODE_REQ leaves: every register but MODE_REQ itself. -/
theorem State.asksMode_same {s : State} {o : Owner} {w : Word} {a : Nat} (h : a ≠ Pg.SYS * 4096 + Rg.SYS_MODE_REQ) :
    RegSame a s ((s.touch o Pg.SYS).writeReg Pg.SYS Rg.SYS_MODE_REQ w) := State.touchWrite_same h

theorem State.modeRequest_busy {x : State} {k i : Nat} (hk : k ≠ 7) (h : x.mode = .changeover ∨ x.on Pg.SYS Fd.SYS_MODE_REQ_PENDING = true) :
    x.modeRequest k i = x.refusal 3 := by
  unfold State.modeRequest
  rw [if_neg hk, if_pos h]

theorem State.modeRequest_hold {x : State} {i : Nat} (h : x.mode ≠ .boot) : x.modeRequest 7 i = x.enterHold 0xFF := by
  unfold State.modeRequest
  rw [if_pos rfl, if_neg h]

/-- Every one of the six mode requests is a write of MODE_REQ. -/
theorem exec_modeReq {o : Owner} {w : Word} {s : State} {i : Instr}
    (h : i ∈ [Instr.modeReqIdle o w, .modeReqSetup o w, .modeReqRelearn o w, .modeReqInspect o w, .modeReqLegacy o w, .modeReqHold o w]) :
    exec i s = .next (s.modeReq o w) := by
  simp only [List.mem_cons, List.not_mem_nil, or_false] at h
  rcases h with rfl | rfl | rfl | rfl | rfl | rfl <;> rfl

/-- Settles O51. -/
theorem requestsAreBusyInChangeoverOrBehindAnother : Obligations.RequestsAreBusyInChangeoverOrBehindAnother := by
  intro o w s ha hg hb i hi
  obtain ⟨x, hx⟩ : ∃ x, x = (s.touch o Pg.SYS).writeReg Pg.SYS Rg.SYS_MODE_REQ w := ⟨_, rfl⟩
  have hs {a : Nat} (h : a ≠ Pg.SYS * 4096 + Rg.SYS_MODE_REQ) : RegSame a s x := hx ▸ State.asksMode_same h
  have hm : x.mode = s.mode := State.mode_of_regs (hs (by decide))
  have hp : x.on Pg.SYS Fd.SYS_MODE_REQ_PENDING = s.on Pg.SYS Fd.SYS_MODE_REQ_PENDING := (hs (by decide)).on
  refine ⟨_, exec_modeReq hi, ?_⟩
  rw [State.modeReq_go ha hx hg]
  refine ⟨fun hk => ?_, fun hk h1 h2 => ?_⟩
  · rw [State.modeRequest_busy hk (by rw [hm, hp]; exact hb)]
    obtain ⟨r1, r2⟩ := State.refusal_shows x 3 (by decide)
    refine ⟨r1, r2.trans hm, (State.refusal_pending x 3).trans hp, fun a h => ?_⟩
    simp only [List.mem_cons, List.not_mem_nil, or_false, not_or] at h
    exact (State.setFld_same h.1).step (hs h.2)
  · rw [hk, State.modeRequest_hold (hm ▸ h1)]
    refine ⟨State.enterHold_mode _ _ (hm ▸ h1), fun hc => (State.enterHold_shows (hm ▸ h1) (hm ▸ h2) ?_).1⟩
    rw [hx, (State.touchWrite_within ..).commits_eq rfl, hc]

end Sys2Proof.Machine
end

section
/-!
PROOFS. SETUP and the requests along Table — Mode transitions (R63-R65).
-/
namespace Sys2Proof.Machine

/-! ### Folds that set something for every element -/

/-- A fold whose steps each set `P` of their element and keep it of the others sets it of every element; `I` holds all along. -/
theorem foldl_sets {α σ : Type} {I : σ → Prop} {P : α → σ → Prop} {f : σ → α → σ} (hI : ∀ s v, I s → I (f s v))
    (hset : ∀ s v, I s → P v (f s v))
    (hkeep : ∀ s v w, w ≠ v → P w s → P w (f s v)) (l : List α) {s : σ} (h : I s) : I (l.foldl f s) ∧ ∀ v ∈ l, P v (l.foldl f s) := by
  have hl : ∀ (l : List α) (s : σ), I s → ∀ v, v ∈ l ∨ P v s → P v (l.foldl f s) := by
    intro l
    induction l with
    | nil => exact fun s _ v hv => hv.resolve_left List.not_mem_nil
    | cons a l ih =>
      intro s hs v hv
      refine ih _ (hI s a hs) v ?_
      by_cases hva : v = a
      · exact .inr (hva ▸ hset s a hs)
      · exact hv.imp (fun h => (List.mem_cons.mp h).resolve_left hva) (hkeep s a v hva)
  refine ⟨?_, fun v hv => hl l s h v (.inl hv)⟩
  clear hl
  induction l generalizing s with
  | nil => exact h
  | cons a l ih => exact ih (hI s a h)

theorem State.view_setView_ne (s : State) {v w : Nat} (x : ViewSt) (h : w ≠ v) : (s.setView v x).view_ w = s.view_ w := tabGet_tabPut_of_ne _ _ _ h

theorem State.mstV_putMst_ne (s : State) {v w : Nat} (x : MstView) (h : w ≠ v) : (s.putMst v x).mstV w = s.mstV w := tabGet_tabPut_of_ne _ _ _ h

/-! ### What a write of a register of SYS leaves -/

/-- The state that a granted write of the register `off` of SYS leaves, before what it sets off. -/
structure Wrote (off : Nat) (s x : State) : Prop where
  within : Within 0x100000000e s x
  regs : ∀ a, a ≠ Pg.SYS * 4096 + off → RegSame a s x

theorem State.wrote (s : State) (o : Owner) (off : Nat) (w : Word) : Wrote off s ((s.touch o Pg.SYS).writeReg Pg.SYS off w) :=
  ⟨State.touchWrite_within .., fun _ h => State.touchWrite_same h⟩

section
variable {off : Nat} {s x : State} (h : Wrote off s x)
include h

theorem Wrote.fld {f : Fld} (hf : f.off ≠ off) : x.fld Pg.SYS f = s.fld Pg.SYS f := (h.regs _ (by omega)).fld

theorem Wrote.on {f : Fld} (hf : f.off ≠ off) : x.on Pg.SYS f = s.on Pg.SYS f := (h.regs _ (by omega)).on

theorem Wrote.far {a : Nat} (ha : a / 4096 ≠ Pg.SYS) (ho : off < 4096) : RegSame a s x := h.regs a (ne_of_page ha ho)

theorem Wrote.mode (ho : off ≠ Rg.SYS_MODE) : x.mode = s.mode := State.mode_of_regs (h.regs _ (by show Pg.SYS * 4096 + Rg.SYS_MODE ≠ _; omega))

theorem Wrote.commits : x.commits = s.commits := h.within.commits_eq rfl

theorem Wrote.portsOf (ho : off < 4096) (v : Nat) : x.portsOf v = s.portsOf v :=
  State.portsOf_of (fun _ hq => h.far (by rw [addr_page hq]; decide) ho) v

theorem Wrote.taken (ho : off < 4096) (v : Nat) : x.taken v = s.taken v := by
  unfold State.taken State.intk; rw [h.portsOf ho, h.within.intake_eq rfl]

theorem Wrote.jobOf (c : Copy) : x.jobOf c = s.jobOf c := by
  cases c
  · exact h.within.jobA_eq rfl
  · exact h.within.jobN_eq rfl

theorem Wrote.jobViews (c : Copy) : x.jobViews c = s.jobViews c := by
  unfold State.jobViews State.enables; rw [h.jobOf]

end

/-! ### Mode requests along Table — Mode transitions (R63-R65) -/

section
variable {x : State} (h : x.on Pg.SYS Fd.SYS_MODE_REQ_PENDING = false)
include h

theorem State.modeRequest_illegal {k i : Nat} (hk : k ≠ 7) (hc : x.mode ≠ .changeover)
    (hl : (x.mode, k) ∉ [(Mode.idle, 2), (.setup, 1), (.idle, 3), (.idle, 4), (.idle, 6), (.inspect, 3), (.learn, 1), (.inspect, 1), (.legacy, 1), (.hold, 1)]) :
    x.modeRequest k i = x.refusal 1 := by
  unfold State.modeRequest
  rw [if_neg hk, if_neg (by simp [h, hc])]
  split <;> simp_all

theorem State.modeRequest_setup {i : Nat} (hm : x.mode = .idle) : x.modeRequest 2 i = x.enterSetup := by
  unfold State.modeRequest
  rw [if_neg (by decide), if_neg (by simp [h, hm]), hm]
  rfl

theorem State.modeRequest_leaveSetup {i : Nat} (hm : x.mode = .setup) : x.modeRequest 1 i = if x.setupBusy then x.refusal 3 else x.leaveSetup := by
  unfold State.modeRequest
  rw [if_neg (by decide), if_neg (by simp [h, hm]), hm]
  rfl

theorem State.modeRequest_start {k i : Nat} (hm : x.mode = .idle) (hk : k = 3 ∨ k = 4 ∨ k = 6) : x.modeRequest k i = x.requestStart k := by
  unfold State.modeRequest
  rw [if_neg (by omega), if_neg (by simp [h, hm]), hm]
  rcases hk with rfl | rfl | rfl <;> rfl

theorem State.modeRequest_relearn {i : Nat} (hm : x.mode = .inspect) : x.modeRequest 3 i = x.requestRelearn := by
  unfold State.modeRequest
  rw [if_neg (by decide), if_neg (by simp [h, hm]), hm]
  rfl

theorem State.modeRequest_end {i : Nat} (hm : x.mode = .learn ∨ x.mode = .inspect ∨ x.mode = .legacy) : x.modeRequest 1 i = x.requestEnd i := by
  unfold State.modeRequest
  rcases hm with hm | hm | hm <;> (rw [if_neg (by decide), if_neg (by simp [h, hm]), hm]; rfl)

theorem State.modeRequest_leaveHold {i : Nat} (hm : x.mode = .hold) :
    x.modeRequest 1 i = if x.on Pg.SYS Fd.SYS_MODE_HOLD_CLEARABLE then x.leaveHold else x.refusal 4 := by
  unfold State.modeRequest
  rw [if_neg (by decide), if_neg (by simp [h, hm]), hm]
  rfl

end

theorem State.modeRequest_hold_boot {x : State} {i : Nat} (h : x.mode = .boot) : x.modeRequest 7 i = x.refusal 1 := by
  unfold State.modeRequest
  rw [if_pos rfl, if_pos h]

/-! ### SETUP (R63) -/

/-- A view's lines made a run of their own. -/
def State.setupView (s : State) (v : Nat) : State :=
  s.setView v { s.view_ v with
    start := s.nextLine v, part := none, begun := false, chg := none, past := false, frames := [], endAt := none, ended := false, endRep := none }

/-- Every view's lines made a run of their own. -/
def State.setupViews (s : State) : State := (List.range 4).foldl State.setupView s

theorem State.enterSetup_eq (s : State) : s.enterSetup = (s.setupViews.enter .setup).tgSyncAll := rfl

theorem State.setupView_view (s : State) (v : Nat) : ((s.setupView v).view_ v).part = none ∧ ((s.setupView v).view_ v).start = s.nextLine v := by
  unfold State.setupView
  rw [State.view_setView]
  exact ⟨rfl, rfl⟩

theorem State.setupViews_shows (s : State) : s.setupViews.tg = s.tg ∧
    ∀ v < 4, (s.setupViews.view_ v).part = none ∧ (s.setupViews.view_ v).start = s.nextLine v := by
  have hn (t : State) (ht : t.tg = s.tg) (v : Nat) : t.nextLine v = s.nextLine v := by
    unfold State.nextLine
    rw [ht]
  have h := foldl_sets (I := fun t : State => t.tg = s.tg) (P := fun (v : Nat) (t : State) => (t.view_ v).part = none ∧ (t.view_ v).start = s.nextLine v)
    (f := State.setupView) (fun _ _ ht => ht) (fun t v ht => hn t ht v ▸ t.setupView_view v) (fun t v w hw ht => by
      unfold State.setupView
      rw [State.view_setView_ne _ _ hw]
      exact ht) (List.range 4) (s := s) rfl
  exact ⟨h.1, fun v hv => h.2 v (List.mem_range.mpr hv)⟩

theorem State.setupViews_calm (s : State) : Calm [] s s.setupViews := Calm.foldl (Calm.refl _ _) fun _ _ _ => Calm.of_eq rfl rfl _

/-- Bringing the generators up to date changes of a view only the line its run begins with. -/
theorem State.tgSync_view (s : State) (v w : Nat) : ∃ n, (s.tgSync v).view_ w = { s.view_ w with first := n } := by
  unfold State.tgSync
  dsimp only
  split
  · by_cases hw : w = v
    · subst hw; exact ⟨_, State.view_setView ..⟩
    · exact ⟨_, (State.view_setView_ne _ _ hw).trans rfl⟩
  · split
    · exact ⟨_, ((State.stopAt_within ..).view_ w rfl).trans rfl⟩
    · exact ⟨_, rfl⟩

theorem State.tgSyncAll_view (s : State) (w : Nat) : ∃ n, s.tgSyncAll.view_ w = { s.view_ w with first := n } := by
  unfold State.tgSyncAll
  generalize List.range 4 = l
  induction l generalizing s with
  | nil => exact ⟨_, rfl⟩
  | cons a l ih =>
    obtain ⟨n, hn⟩ := State.tgSync_view s a w
    obtain ⟨m, hm⟩ := ih (s.tgSync a)
    exact ⟨m, hm.trans (by rw [hn])⟩

/-- Where no commit waits, the generators follow the mode without changing it. -/
theorem State.tgSyncAll_sys {s : State} (h : s.commits = []) {off : Nat} (ho : off < 4096) : RegSame (Pg.SYS * 4096 + off) s s.tgSyncAll :=
  (State.tgSyncAll_calm s).reg h (by decide) ho

theorem State.enter_commits (s : State) (m : Mode) : (s.enter m).commits = s.commits := (State.enter_within ..).commits_eq rfl

theorem State.enterSetup_shows {x : State} (h : x.commits = []) (hm : x.mode = .idle) : x.enterSetup.mode = .setup ∧
    x.enterSetup.fld Pg.SYS Fd.SYS_MODE_PREV_MODE = Mode.idle.code ∧ x.enterSetup.jobA = x.jobA ∧
    ∀ v < 4, (x.enterSetup.view_ v).part = none ∧ (x.enterSetup.view_ v).start = x.nextLine v := by
  have hv := State.setupViews_calm x h
  have hs : (x.setupViews.enter .setup).commits = [] := (State.enter_commits ..).trans hv.1
  have hr := State.tgSyncAll_sys hs (off := Rg.SYS_MODE) (by decide)
  have hx : x.setupViews.mode = .idle := (State.mode_of_regs (hv.2 _ (by simp))).trans hm
  rw [State.enterSetup_eq]
  refine ⟨?_, ?_, ?_, fun v hlt => ?_⟩
  · rw [State.mode_of_regs hr, State.enter_mode]
  · rw [RegSame.fld hr, State.enter_prev, hx]
  · rw [(State.tgSyncAll_within ..).jobA_eq rfl, (State.enter_within ..).jobA_eq rfl]
    unfold State.setupViews
    exact foldl_kept (·.jobA) _ (fun s v => State.setView_jobA ..) _ _
  · obtain ⟨n, hn⟩ := State.tgSyncAll_view (x.setupViews.enter .setup) v
    obtain ⟨p1, p2⟩ := (State.setupViews_shows x).2 v hlt
    rw [hn, (State.enter_within ..).view_ v rfl]
    exact ⟨p1, p2⟩

theorem State.setupBusy_wrote {off : Nat} {s x : State} (h : Wrote off s x) (ho : off < 4096) : x.setupBusy = s.setupBusy := by
  unfold State.setupBusy
  rw [h.within.pipe_eq rfl, h.within.dot_eq rfl, RegSame.fld (h.far (a := Pg.HLTH * 4096 + Rg.HLTH_MBIST_STAT) (by decide) ho),
    RegSame.fld (h.far (a := Pg.MCG * 4096 + Fd.MCG_TRAIN_STAT_STATE.off) (by decide) ho)]

end Sys2Proof.Machine
end

section
/-!
PROOFS. What a requested job end and a start from IDLE leave (R66, R67).
-/
namespace Sys2Proof.Machine

/-! ### A requested job end (R66) -/

theorem State.repOf_of {s t : State} (hm : t.mode = s.mode) (ha : t.jobA = s.jobA) (hn : t.jobN = s.jobN) (hw : t.window = s.window) {v : Nat}
    (hf : (t.view_ v).frames = (s.view_ v).frames) (hc : (t.view_ v).chg = (s.view_ v).chg) (n : Nat) : t.repOf v n = s.repOf v n := by
  have hcopy : t.copyAt v n = s.copyAt v n := by unfold State.copyAt State.newAt; rw [hm, hc]
  have hjob (c : Copy) : t.jobOf c = s.jobOf c := by cases c; exact ha; exact hn
  have hwin (a : Nat) : t.win a = s.win a := by unfold State.win; rw [hw]
  have hpitch (c : Copy) : t.pitchY c v = s.pitchY c v := by
    unfold State.pitchY State.vrec State.stitch
    cases c with
    | active => simp only [State.winBits, hwin]
    | next => simp only [State.jobBits, hjob]
  have hlen (c : Copy) : t.repeatLen c = s.repeatLen c := by unfold State.repeatLen; rw [hjob]
  have hframe : t.frameAt v n = s.frameAt v n := by unfold State.frameAt; rw [hf]
  unfold State.repOf State.frameRep State.aOf
  rw [hcopy, hpitch, hlen, hframe]

/-- A view's end at the next line block. -/
def State.endsAtBlock (s : State) (v : Nat) : State :=
  s.setView v { s.view_ v with endAt := some (blockLine (Nat.max (s.taken v) ((s.view_ v).part.getD 0))) }

/-- A view's end at its next repeat start. -/
def State.endsAtRepeat (s : State) (v : Nat) : State :=
  s.setView v { s.view_ v with endRep := some (if (s.view_ v).begun then s.repOf v (s.taken v - 1) else 0) }

/-- A request for a job's end pends. -/
def State.endPends (s : State) : State := s.setFld Pg.SYS Fd.SYS_MODE_REQ_PENDING 1

theorem State.requestEnd_block {s : State} (h : s.fld Pg.SYS Fd.SYS_CHG_CTL_STATE ≠ 1) :
    s.requestEnd 0 = (s.endPends.jobViews .active).foldl State.endsAtBlock s.endPends := by
  unfold State.requestEnd
  rw [if_neg h]
  rfl

theorem State.requestEnd_repeat {s : State} (h : s.fld Pg.SYS Fd.SYS_CHG_CTL_STATE ≠ 1) :
    s.requestEnd 1 = (s.endPends.jobViews .active).foldl State.endsAtRepeat s.endPends := by
  unfold State.requestEnd
  rw [if_neg h]
  rfl

theorem State.endPends_mode (s : State) : s.endPends.mode = s.mode := by
  unfold State.endPends State.mode; rw [State.fld_setFld_p (by decide) (by decide)]

theorem State.taken_of {s t : State} (hr : t.regs = s.regs) (hi : t.intake = s.intake) (v : Nat) : t.taken v = s.taken v := by
  unfold State.taken State.intk; rw [State.portsOf_of (fun _ _ => RegSame.of_regs hr), hi]

theorem State.taken_endPends (s : State) (v : Nat) : s.endPends.taken v = s.taken v := by
  have h : s.endPends.portsOf v = s.portsOf v := State.portsOf_of (fun _ ho => State.setFld_page (by rw [addr_page ho]; decide) (by decide)) v
  unfold State.taken
  rw [h]
  rfl

theorem Within.taken {m : Nat} {s t : State} (h : Within m s t) (h1 : m / 2 ^ 1 % 2 = 0) (h20 : m / 2 ^ 20 % 2 = 0) (v : Nat) : t.taken v = s.taken v :=
  State.taken_of (h.regs_eq h1) (h.intake_eq h20) v

/-- With AT = 0 each view of the list ends at the line block that follows what its ports have delivered. -/
theorem State.endsAtBlock_all (s : State) (l : List Nat) : (l.foldl State.endsAtBlock s).regs = s.regs ∧
    ∀ v ∈ l, ((l.foldl State.endsAtBlock s).view_ v).endAt = some (blockLine (Nat.max (s.taken v) ((s.view_ v).part.getD 0))) := by
  have h := foldl_sets (I := fun t : State => Within 0x20000 s t ∧ ∀ w, (t.view_ w).part = (s.view_ w).part)
    (P := fun (v : Nat) (t : State) => (t.view_ v).endAt = some (blockLine (Nat.max (s.taken v) ((s.view_ v).part.getD 0)))) (f := State.endsAtBlock)
    (fun t v ⟨hw, hp⟩ => ⟨Within.step (State.setView_within ..) rfl hw, fun w => by
      unfold State.endsAtBlock
      by_cases hwv : w = v
      · subst hwv; rw [State.view_setView]; exact hp w
      · rw [State.view_setView_ne _ _ hwv]; exact hp w⟩)
    (fun t v ⟨hw, hp⟩ => by unfold State.endsAtBlock; rw [State.view_setView, hp, hw.taken rfl rfl])
    (fun t v w hwv ht => by unfold State.endsAtBlock; rw [State.view_setView_ne _ _ hwv]; exact ht) l (s := s) ⟨Within.refl _ _, fun _ => rfl⟩
  exact ⟨h.1.1.regs_eq rfl, h.2⟩

/-- With AT = 1 each view of the list ends at the start of the repeat after the one its intake is in. -/
theorem State.endsAtRepeat_all (s : State) (l : List Nat) : (l.foldl State.endsAtRepeat s).regs = s.regs ∧
    ∀ v ∈ l, ((l.foldl State.endsAtRepeat s).view_ v).endAt = (s.view_ v).endAt ∧
      ((l.foldl State.endsAtRepeat s).view_ v).endRep = some (if (s.view_ v).begun = true then s.repOf v (s.taken v - 1) else 0) := by
  have h := foldl_sets (I := fun t : State => Within 0x20000 s t ∧ ∀ w, ∃ r, t.view_ w = { s.view_ w with endRep := r })
    (P := fun (v : Nat) (t : State) => (t.view_ v).endAt = (s.view_ v).endAt ∧
      (t.view_ v).endRep = some (if (s.view_ v).begun = true then s.repOf v (s.taken v - 1) else 0)) (f := State.endsAtRepeat)
    (fun t v ⟨hw, hp⟩ => ⟨Within.step (State.setView_within ..) rfl hw, fun w => by
      unfold State.endsAtRepeat
      obtain ⟨r, hr⟩ := hp w
      by_cases hwv : w = v
      · subst hwv; rw [State.view_setView, hr]; exact ⟨_, rfl⟩
      · rw [State.view_setView_ne _ _ hwv]; exact ⟨r, hr⟩⟩)
    (fun t v ⟨hw, hp⟩ => by
      obtain ⟨r, hr⟩ := hp v
      have hrep : t.repOf v (t.taken v - 1) = s.repOf v (s.taken v - 1) := by
        rw [hw.taken rfl rfl, State.repOf_of (hw.mode rfl) (hw.jobA_eq rfl) (hw.jobN_eq rfl) (hw.window_eq rfl) (by rw [hr]) (by rw [hr])]
      unfold State.endsAtRepeat
      rw [State.view_setView, hrep, hr]
      exact ⟨rfl, rfl⟩)
    (fun t v w hwv ht => by unfold State.endsAtRepeat; rw [State.view_setView_ne _ _ hwv]; exact ht) l (s := s)
    ⟨Within.refl _ _, fun w => ⟨_, rfl⟩⟩
  exact ⟨h.1.1.regs_eq rfl, h.2⟩

/-! ### A start from IDLE (R67) -/

/-- A view of a starting job: it runs, and its part begins at its next line block. -/
def State.startView (line : Nat → Nat) (relearn : Bool) (s : State) (v : Nat) : State :=
  let learn := relearn || s.lacksMaster v
  let s := s.setView v { s.view_ v with
    run := true, start := line v, part := some (line v), begun := false, chg := none, past := false, entering := false, started := false, left := false
    endAt := none, ended := false, endRep := none, frames := [], wraps := [] }
  s.putMst v { relearn := relearn, will := learn }

/-- The register values of the next job in force. -/
def State.takesNext (s : State) : State := State.takeVals { s with resA := {}, eng := tabMap (dflt {}) Eng.stopped s.eng } (s.jobRegs .next)

/-- The next job's contexts and register values in force. -/
def State.loaded (s : State) (j : JobCtx) : State :=
  ((s.takesNext.jobParts fun v => some (blockLine (s.nextLine v))).promote j).wr Pg.MST Rg.MST_ADAPT_CNT 0

/-- The views of a starting job. -/
def State.startViews (s : State) (j : JobCtx) (relearn : Bool) : State :=
  ((List.range 4).filter fun v => tbit j.viewEn v).foldl (State.startView (fun v => blockLine (s.nextLine v)) relearn) (s.loaded j)

/-- The mode that a start from IDLE enters (R67). -/
def State.startMode (s : State) (j : JobCtx) (legacy : Bool) : Mode :=
  if legacy then .legacy else if ((List.range 4).filter fun v => tbit j.viewEn v).any (fun v => s.isLearning v) then .learn else .inspect

theorem State.startJob_eq (s : State) (j : JobCtx) (relearn legacy : Bool) :
    s.startJob j relearn legacy = (((s.startViews j relearn).enter ((s.startViews j relearn).startMode j legacy)).tgSyncAll).runRecord := rfl

theorem State.startViews_views (s : State) (j : JobCtx) (relearn : Bool) {v : Nat} (hv : v < 4) (he : tbit j.viewEn v = true) :
    ((s.startViews j relearn).view_ v).part = some (blockLine (s.nextLine v)) ∧ ((s.startViews j relearn).view_ v).begun = false ∧
      ((s.startViews j relearn).view_ v).run = true ∧ ((s.startViews j relearn).view_ v).endAt = none ∧
      ((s.startViews j relearn).mstV v).relearn = relearn := by
  have h := foldl_sets (I := fun _ : State => True) (P := fun (v : Nat) (t : State) => (t.view_ v).part = some (blockLine (s.nextLine v)) ∧
      (t.view_ v).begun = false ∧ (t.view_ v).run = true ∧ (t.view_ v).endAt = none ∧ (t.mstV v).relearn = relearn)
    (f := State.startView (fun v => blockLine (s.nextLine v)) relearn) (fun _ _ _ => trivial)
    (fun t v _ => by
      unfold State.startView
      dsimp only
      rw [State.mstV_putMst, State.putMst_view_, State.view_setView]
      exact ⟨rfl, rfl, rfl, rfl, rfl⟩)
    (fun t v w hw ht => by
      unfold State.startView
      dsimp only
      rw [State.mstV_putMst_ne _ _ hw, State.putMst_view_, State.view_setView_ne _ _ hw]
      exact ht) ((List.range 4).filter fun v => tbit j.viewEn v) (s := s.loaded j) trivial
  exact h.2 v (List.mem_filter.mpr ⟨List.mem_range.mpr hv, he⟩)

/-- The promoted job is the active one of SYS.JOB_STAT, and there is no next one (R67). -/
theorem State.promote_shows (s : State) (j : JobCtx) : (s.promote j).fld Pg.SYS Fd.SYS_JOB_STAT_ACTIVE_ID = j.id % 64 ∧
    (s.promote j).on Pg.SYS Fd.SYS_JOB_STAT_ACTIVE_VALID = true ∧ (s.promote j).on Pg.SYS Fd.SYS_JOB_STAT_NEXT_VALID = false := by
  have hsets (t : State) : RegSame (Pg.SYS * 4096 + Rg.SYS_JOB_STAT) t ((List.range 8).foldl (fun (s : State) g => s.mapSets g CtxSet.promote) t) := by
    refine RegSame.foldl (RegSame.refl _ _) fun u g hu => RegSame.step ?_ hu
    exact (State.setFld_page (by rw [addr_page (by decide)]; unfold Pg.PP Pg.SYS; omega) (by decide)).step (RegSame.of_regs rfl)
  have hctx (t : State) : RegSame (Pg.SYS * 4096 + Rg.SYS_JOB_STAT) t (t.fillContexts j) := RegSame.of_regs ((State.fillContexts_within ..).regs_eq rfl)
  unfold State.promote
  dsimp only
  refine ⟨?_, ?_, ?_⟩
  · rw [((hsets _).step (hctx _)).fld, State.fld_setFld_p (by decide) (by decide), State.fld_setFld_p (by decide) (by decide),
      State.fld_setFld_p (by decide) (by decide), State.fld_setFld _ _ _ _ (by decide)]
    rfl
  · rw [((hsets _).step (hctx _)).on, State.on_setFld_p (by decide) (by decide), State.on_setFld_p (by decide) (by decide),
      State.on_one (by decide) (by decide)]
  · rw [((hsets _).step (hctx _)).on, State.on_setFld_p (by decide) (by decide), State.on_zero (by decide)]

theorem State.takesNext_commits {s : State} (h : s.commits = []) : s.takesNext.commits = [] := by
  unfold State.takesNext
  rw [(State.takeVals_within ..).commits_eq rfl]
  exact h

theorem State.loaded_commits {s : State} (h : s.commits = []) (j : JobCtx) : (s.loaded j).commits = [] := by
  unfold State.loaded
  rw [State.jobParts_calm (State.takesNext_commits h), State.wr_commits, (State.promote_within ..).commits_eq rfl]
  exact State.takesNext_commits h

theorem State.startViews_within (s : State) (j : JobCtx) (b : Bool) : Within 0x420000 (s.loaded j) (s.startViews j b) :=
  Within.foldl (Within.refl _ _) fun _ _ h => Within.step (State.putMst_within ..) rfl (Within.step (State.setView_within ..) rfl h)

theorem State.startViews_commits {s : State} (h : s.commits = []) (j : JobCtx) (b : Bool) : (s.startViews j b).commits = [] :=
  ((State.startViews_within ..).commits_eq rfl).trans (State.loaded_commits h j)

theorem State.startViews_jobs (s : State) (j : JobCtx) (b : Bool) : (s.startViews j b).jobA = some j ∧ (s.startViews j b).jobN = none := by
  rw [(State.startViews_within ..).jobA_eq rfl, (State.startViews_within ..).jobN_eq rfl]
  unfold State.loaded
  rw [State.wr_jobA, State.promote_jobA, State.wr_jobN, State.promote_jobN]
  exact ⟨rfl, rfl⟩

/-- A register of SYS but MODE, through a change of mode and what follows it. -/
theorem State.entered_same {s : State} (h : s.commits = []) (m : Mode) {off : Nat} (ho : off < 4096) (hm : off ≠ Rg.SYS_MODE) :
    RegSame (Pg.SYS * 4096 + off) s ((s.enter m).tgSyncAll.runRecord) := by
  have he : RegSame (Pg.SYS * 4096 + off) s (s.enter m) := by
    have hp (t : State) (p k : Nat) (w : Word) (h1 : p ≠ Pg.SYS) (h2 : k < 4096) : RegSame (Pg.SYS * 4096 + off) t (t.wr p k w) :=
      State.wr_page (by rw [addr_page ho]; exact h1.symm) h2
    have hf (t : State) (f : Fld) (v : Nat) (h1 : f.off = Rg.SYS_MODE) : RegSame (Pg.SYS * 4096 + off) t (t.setFld Pg.SYS f v) :=
      State.setFld_same (by omega)
    unfold State.enter
    refine RegSame.step (RegSame.of_regs ((State.raiseNow_within ..).regs_eq rfl)) ?_
    split
    · unfold State.clearMan
      exact (hp _ _ _ _ (by decide) (by decide)).step ((hp _ _ _ _ (by decide) (by decide)).step ((hf _ _ _ rfl).step (hf _ _ _ rfl)))
    · exact (hf _ _ _ rfl).step (hf _ _ _ rfl)
  exact RegSame.step (RegSame.of_regs ((State.runRecord_within ..).regs_eq rfl))
    ((State.tgSyncAll_sys ((State.enter_commits ..).trans h) ho).step he)

/-- What a start from IDLE shows of the job (R67): it is the active one, and there is no next one. -/
theorem State.startJob_shows {s : State} (h : s.commits = []) (j : JobCtx) (r l : Bool) : (s.startJob j r l).jobA = some j ∧ (s.startJob j r l).jobN = none ∧
    (s.startJob j r l).fld Pg.SYS Fd.SYS_JOB_STAT_ACTIVE_ID = j.id % 64 ∧ (s.startJob j r l).on Pg.SYS Fd.SYS_JOB_STAT_ACTIVE_VALID = true ∧
    (s.startJob j r l).on Pg.SYS Fd.SYS_JOB_STAT_NEXT_VALID = false := by
  have hc : (s.startViews j r).commits = [] := State.startViews_commits h j r
  obtain ⟨a1, a2⟩ := State.startViews_jobs s j r
  obtain ⟨p1, p2, p3⟩ := State.promote_shows (s.takesNext.jobParts fun v => some (blockLine (s.nextLine v))) j
  have hl : RegSame (Pg.SYS * 4096 + Rg.SYS_JOB_STAT) ((s.takesNext.jobParts fun v => some (blockLine (s.nextLine v))).promote j) (s.startJob j r l) :=
    (State.entered_same hc _ (by decide) (by decide)).step ((RegSame.of_regs ((State.startViews_within ..).regs_eq rfl)).step (State.wr_page (by decide) (by decide)))
  refine ⟨?_, ?_, (RegSame.fld hl).trans p1, (RegSame.on hl).trans p2, (RegSame.on hl).trans p3⟩
  · rw [State.startJob_eq, (State.runRecord_within ..).jobA_eq rfl, (State.tgSyncAll_within ..).jobA_eq rfl, (State.enter_within ..).jobA_eq rfl, a1]
  · rw [State.startJob_eq, (State.runRecord_within ..).jobN_eq rfl, (State.tgSyncAll_within ..).jobN_eq rfl, (State.enter_within ..).jobN_eq rfl, a2]

theorem State.startJob_mode {s : State} (h : s.commits = []) (j : JobCtx) (r l : Bool) : (s.startJob j r l).mode = (s.startViews j r).startMode j l := by
  have hc : (s.startViews j r).commits = [] := State.startViews_commits h j r
  rw [State.startJob_eq, State.runRecord_mode, State.mode_of_regs (State.tgSyncAll_sys ((State.enter_commits ..).trans hc) (by decide)), State.enter_mode]

/-- Each view that the job enables runs, and its part begins at its next line block (R67). -/
theorem State.startJob_views (s : State) (j : JobCtx) (r l : Bool) {v : Nat} (hv : v < 4) (he : tbit j.viewEn v = true) :
    ((s.startJob j r l).view_ v).part = some (blockLine (s.nextLine v)) ∧ ((s.startJob j r l).view_ v).begun = false ∧
      ((s.startJob j r l).view_ v).run = true ∧ ((s.startJob j r l).view_ v).endAt = none ∧ ((s.startJob j r l).mstV v).relearn = r := by
  obtain ⟨h1, h2, h3, h4, h5⟩ := State.startViews_views s j r hv he
  obtain ⟨n, hn⟩ := State.tgSyncAll_view ((s.startViews j r).enter ((s.startViews j r).startMode j l)) v
  have hm : (s.startJob j r l).mstV v = (s.startViews j r).mstV v := by
    rw [State.startJob_eq, (State.runRecord_within ..).mstV v rfl, (State.tgSyncAll_within ..).mstV v rfl, (State.enter_within ..).mstV v rfl]
  rw [hm, State.startJob_eq, (State.runRecord_within ..).view_ v rfl, hn, (State.enter_within ..).view_ v rfl]
  exact ⟨h1, h2, h3, h4, h5⟩

theorem State.isLearning_relearn {s : State} {v : Nat} (h : (s.mstV v).relearn = true) : s.isLearning v = true := by
  unfold State.isLearning; simp [h]

theorem State.startMode_cases (s : State) (j : JobCtx) : s.startMode j true = .legacy ∧ (s.startMode j false = .learn ∨ s.startMode j false = .inspect) := by
  unfold State.startMode
  refine ⟨rfl, ?_⟩
  rw [if_neg (by decide)]
  split
  · exact .inl rfl
  · exact .inr rfl

theorem State.startMode_learn {s : State} {j : JobCtx} {v : Nat} (hv : v < 4) (he : tbit j.viewEn v = true) (hl : s.isLearning v = true) :
    s.startMode j false = .learn := by
  unfold State.startMode
  rw [if_neg (by decide), if_pos (List.any_eq_true.mpr ⟨v, List.mem_filter.mpr ⟨List.mem_range.mpr hv, he⟩, hl⟩)]

end Sys2Proof.Machine
end

section
/-!
PROOFS. Mode requests carried out or refused (O30), and where jobs start and end (O55).
-/
namespace Sys2Proof.Machine

/-! ### Requests for a start and for a relearn (R63, R67, R312) -/

theorem State.requestStart_none {x : State} {k : Nat} (h : x.on Pg.SYS Fd.SYS_JOB_STAT_NEXT_READY = false ∨ x.jobN = none) : x.requestStart k = x.refusal 2 := by
  unfold State.requestStart
  rcases h with h | h <;> rw [h]
  cases x.on Pg.SYS Fd.SYS_JOB_STAT_NEXT_READY <;> rfl

theorem State.requestStart_notLegacy {x : State} {j : JobCtx} (h : x.on Pg.SYS Fd.SYS_JOB_STAT_NEXT_READY = true) (hj : x.jobN = some j)
    (hl : j.legacy = false) : x.requestStart 6 = x.refusal 1 := by
  unfold State.requestStart
  rw [h, hj]
  simp [hl]

theorem State.requestStart_go {x : State} {j : JobCtx} {k : Nat} (h : x.on Pg.SYS Fd.SYS_JOB_STAT_NEXT_READY = true) (hj : x.jobN = some j)
    (h6 : k = 6 → j.legacy = true) (h3 : k = 3 → (x.relearnFaults .next j).isEmpty = true) : x.requestStart k = x.startJob j (k == 3) (k == 6) := by
  unfold State.requestStart
  rw [h, hj]
  dsimp only
  rw [if_neg (by rintro ⟨rfl, hl⟩; simp [h6 rfl] at hl), if_neg ?_]
  split
  · rename_i hk; simp [h3 hk]
  · simp

theorem State.relearnAll_within (s : State) (l : List Nat) : Within 0x400000 s (s.relearnAll l) :=
  Within.foldl (Within.refl _ _) fun _ _ h => Within.step (State.putMst_within ..) rfl h

theorem State.requestRelearn_none {x : State} (h : x.jobA = none) : x.requestRelearn = x.refusal 1 := by
  unfold State.requestRelearn; rw [h]

theorem State.requestRelearn_go {x : State} {j : JobCtx} (h : x.jobA = some j) (hf : (x.relearnFaults .active j).isEmpty = true) :
    x.requestRelearn.mode = .learn ∧ x.requestRelearn.jobA = some j ∧ ∀ v ∈ x.jobViews .active, (x.requestRelearn.mstV v).relearn = true := by
  have he : x.requestRelearn = (x.relearnAll (x.jobViews .active)).enter .learn := by
    unfold State.requestRelearn
    rw [h]
    dsimp only
    rw [if_neg (by simp [hf])]
    rfl
  rw [he]
  refine ⟨State.enter_mode .., ?_, fun v hv => ?_⟩
  · rw [(State.enter_within ..).jobA_eq rfl, (State.relearnAll_within ..).jobA_eq rfl, h]
  · rw [(State.enter_within ..).mstV v rfl]
    exact (State.relearnAll_shows (x.jobViews .active) x).1 v hv

/-- A request for the end of the running job pends, and the mode stays (R66). -/
theorem State.requestEnd_shows {x : State} {i : Nat} (hi : i = 0 ∨ i = 1) (h : x.fld Pg.SYS Fd.SYS_CHG_CTL_STATE ≠ 1) :
    (x.requestEnd i).mode = x.mode ∧ (x.requestEnd i).on Pg.SYS Fd.SYS_MODE_REQ_PENDING = true := by
  have hr : (x.requestEnd i).regs = x.endPends.regs := by
    rcases hi with rfl | rfl
    · rw [State.requestEnd_block h]; exact (State.endsAtBlock_all ..).1
    · rw [State.requestEnd_repeat h]; exact (State.endsAtRepeat_all ..).1
  refine ⟨(State.mode_of_regs (RegSame.of_regs hr)).trans x.endPends_mode, (State.on_of hr ..).trans (State.on_one (by decide) (by decide))⟩

theorem State.endPends_views (x : State) (c : Copy) : x.endPends.jobViews c = x.jobViews c := by
  unfold State.jobViews State.enables; cases c <;> rfl

theorem wf_one (w : Word) (lo : Nat) : wf w lo 1 = 0 ∨ wf w lo 1 = 1 := by
  have : wf w lo 1 < 2 := Nat.mod_lt _ (by decide)
  omega

theorem State.leaveSetup_mode (s : State) : s.leaveSetup.mode = .idle := State.enter_mode ..

/-- The requests other than HOLD: their TARGET is not 7, and each is a write of MODE_REQ. -/
theorem exec_modeReq_target {o : Owner} {w : Word} {k : Nat} {c : Instr} (s : State)
    (h : (k, c) ∈ [(1, Instr.modeReqIdle o w), (2, .modeReqSetup o w), (3, .modeReqRelearn o w), (4, .modeReqInspect o w), (6, .modeReqLegacy o w)]) :
    k ≠ 7 ∧ exec c s = .next (s.modeReq o w) := by
  simp only [List.mem_cons, List.not_mem_nil, or_false, Prod.mk.injEq] at h
  rcases h with ⟨rfl, rfl⟩ | ⟨rfl, rfl⟩ | ⟨rfl, rfl⟩ | ⟨rfl, rfl⟩ | ⟨rfl, rfl⟩ <;> exact ⟨by decide, rfl⟩

/-- The requests for a start. -/
theorem exec_modeReq_start {o : Owner} {w : Word} {k : Nat} {c : Instr} (s : State)
    (h : (k, c) ∈ [(3, Instr.modeReqRelearn o w), (4, .modeReqInspect o w), (6, .modeReqLegacy o w)]) :
    (k = 3 ∨ k = 4 ∨ k = 6) ∧ exec c s = .next (s.modeReq o w) := by
  simp only [List.mem_cons, List.not_mem_nil, or_false, Prod.mk.injEq] at h
  rcases h with ⟨rfl, rfl⟩ | ⟨rfl, rfl⟩ | ⟨rfl, rfl⟩ <;> exact ⟨by decide, rfl⟩

section
variable {o : Owner} {w : Word} {s : State} (ha : s.access o Pg.SYS = .granted) (hg : wf w 8 1 = 1)
include ha hg

/-- A granted request carried out on the state that its write left. -/
theorem State.modeReq_wrote : ∃ x, x = (s.touch o Pg.SYS).writeReg Pg.SYS Rg.SYS_MODE_REQ w ∧ Wrote Rg.SYS_MODE_REQ s x ∧
    s.modeReq o w = x.modeRequest (wf w 0 3) (wf w 3 1) :=
  ⟨_, rfl, State.wrote .., State.modeReq_go ha rfl hg⟩

theorem modeReq_refused {k : Nat} (hk : wf w 0 3 = k) (h7 : k ≠ 7) :
    (s.mode = .changeover ∨ s.on Pg.SYS Fd.SYS_MODE_REQ_PENDING = true → (s.modeReq o w).mode = s.mode ∧ (s.modeReq o w).fld Pg.SYS Fd.SYS_MODE_REFUSAL = 3) ∧
    (s.mode ≠ .changeover → s.on Pg.SYS Fd.SYS_MODE_REQ_PENDING = false →
      (s.mode, k) ∉ [(Mode.idle, 2), (.setup, 1), (.idle, 3), (.idle, 4), (.idle, 6), (.inspect, 3), (.learn, 1), (.inspect, 1), (.legacy, 1), (.hold, 1)] →
      (s.modeReq o w).mode = s.mode ∧ (s.modeReq o w).fld Pg.SYS Fd.SYS_MODE_REFUSAL = 1) := by
  obtain ⟨x, -, hx, he⟩ := State.modeReq_wrote ha hg
  have hm := hx.mode (by decide)
  have hp := hx.on (f := Fd.SYS_MODE_REQ_PENDING) (by decide)
  rw [he, hk]
  refine ⟨fun hb => ?_, fun h1 h2 h3 => ?_⟩
  · rw [State.modeRequest_busy h7 (by rw [hm, hp]; exact hb)]
    exact ⟨(State.refusal_shows x 3 (by decide)).2.trans hm, (State.refusal_shows x 3 (by decide)).1⟩
  · rw [State.modeRequest_illegal (hp.trans h2) h7 (hm ▸ h1) (hm ▸ h3)]
    exact ⟨(State.refusal_shows x 1 (by decide)).2.trans hm, (State.refusal_shows x 1 (by decide)).1⟩

theorem modeReq_entersSetup (hk : wf w 0 3 = 2) (hm : s.mode = .idle) (hp : s.on Pg.SYS Fd.SYS_MODE_REQ_PENDING = false) (hc : s.commits = []) :
    (s.modeReq o w).mode = .setup ∧ (s.modeReq o w).fld Pg.SYS Fd.SYS_MODE_PREV_MODE = Mode.idle.code ∧ (s.modeReq o w).jobA = s.jobA ∧
      ∀ v < 4, ((s.modeReq o w).view_ v).part = none ∧ ((s.modeReq o w).view_ v).start = s.nextLine v := by
  obtain ⟨x, -, hx, he⟩ := State.modeReq_wrote ha hg
  have hxm := (hx.mode (by decide)).trans hm
  obtain ⟨h1, h2, h3, h4⟩ := State.enterSetup_shows (hx.commits.trans hc) hxm
  rw [he, hk, State.modeRequest_setup ((hx.on (by decide)).trans hp) hxm]
  refine ⟨h1, h2, h3.trans (hx.within.jobA_eq rfl), fun v hv => ⟨(h4 v hv).1, (h4 v hv).2.trans ?_⟩⟩
  unfold State.nextLine; rw [hx.within.tg_eq rfl]

theorem modeReq_endsJob (hk : wf w 0 3 = 1) (hp : s.on Pg.SYS Fd.SYS_MODE_REQ_PENDING = false) (hm : s.mode = .learn ∨ s.mode = .inspect ∨ s.mode = .legacy)
    (hs : s.fld Pg.SYS Fd.SYS_CHG_CTL_STATE ≠ 1) : (s.modeReq o w).mode = s.mode ∧ (s.modeReq o w).on Pg.SYS Fd.SYS_MODE_REQ_PENDING = true ∧
      (wf w 3 1 = 0 → ∀ v ∈ s.jobViews .active, ((s.modeReq o w).view_ v).endAt = some (blockLine (Nat.max (s.taken v) ((s.view_ v).part.getD 0)))) ∧
      (wf w 3 1 = 1 → ∀ v ∈ s.jobViews .active, ((s.modeReq o w).view_ v).endAt = (s.view_ v).endAt ∧
        ((s.modeReq o w).view_ v).endRep = some (if (s.view_ v).begun = true then s.repOf v (s.taken v - 1) else 0)) := by
  obtain ⟨x, -, hx, he⟩ := State.modeReq_wrote ha hg
  have hxm := hx.mode (by decide)
  have hxs : x.fld Pg.SYS Fd.SYS_CHG_CTL_STATE ≠ 1 := by rw [hx.fld (by decide)]; exact hs
  have htk (v : Nat) : x.endPends.taken v = s.taken v := (State.taken_endPends x v).trans (hx.taken (by decide) v)
  have hvw (v : Nat) : x.endPends.view_ v = s.view_ v := hx.within.view_ v rfl
  have hvs : x.endPends.jobViews .active = s.jobViews .active := (State.endPends_views ..).trans (hx.jobViews .active)
  obtain ⟨h1, h2⟩ := State.requestEnd_shows (wf_one w 3) hxs
  rw [he, hk, State.modeRequest_end ((hx.on (by decide)).trans hp) (by rw [hxm]; exact hm)]
  refine ⟨h1.trans hxm, h2, fun h0 v hv => ?_, fun h0 v hv => ?_⟩
  · rw [h0, State.requestEnd_block hxs, (State.endsAtBlock_all x.endPends _).2 v (hvs ▸ hv), htk, hvw]
  · have hrep : x.endPends.repOf v (s.taken v - 1) = s.repOf v (s.taken v - 1) :=
      State.repOf_of (x.endPends_mode.trans hxm) (hx.within.jobA_eq rfl) (hx.within.jobN_eq rfl) (hx.within.window_eq rfl) (by rw [hvw]) (by rw [hvw]) _
    obtain ⟨e1, e2⟩ := (State.endsAtRepeat_all x.endPends (x.endPends.jobViews .active)).2 v (hvs ▸ hv)
    rw [h0, State.requestEnd_repeat hxs]
    refine ⟨e1.trans (by rw [hvw]), e2.trans ?_⟩
    rw [hvw, htk, hrep]

theorem modeReq_relearns (hk : wf w 0 3 = 3) (hm : s.mode = .inspect) (hp : s.on Pg.SYS Fd.SYS_MODE_REQ_PENDING = false) :
    (s.jobA = none → (s.modeReq o w).mode = .inspect ∧ (s.modeReq o w).fld Pg.SYS Fd.SYS_MODE_REFUSAL = 1) ∧
    (∀ j, s.jobA = some j → ((((s.touch o Pg.SYS).writeReg Pg.SYS Rg.SYS_MODE_REQ w)).relearnFaults .active j).isEmpty = true →
      (s.modeReq o w).mode = .learn ∧ (s.modeReq o w).jobA = some j ∧ ∀ v ∈ s.jobViews .active, ((s.modeReq o w).mstV v).relearn = true) := by
  obtain ⟨x, hxe, hx, he⟩ := State.modeReq_wrote ha hg
  have hxm := (hx.mode (by decide)).trans hm
  rw [he, hk, State.modeRequest_relearn ((hx.on (by decide)).trans hp) hxm, ← hxe]
  refine ⟨fun hj => ?_, fun j hj hf => ?_⟩
  · rw [State.requestRelearn_none ((hx.within.jobA_eq rfl).trans hj)]
    exact ⟨(State.refusal_shows x 1 (by decide)).2.trans hxm, (State.refusal_shows x 1 (by decide)).1⟩
  · rw [← hx.jobViews .active]
    exact State.requestRelearn_go ((hx.within.jobA_eq rfl).trans hj) hf

/-- A request that starts the next job, carried out on the state that its write left. -/
theorem modeReq_starts {j : JobCtx} {k : Nat} (hk : wf w 0 3 = k) (hk3 : k = 3 ∨ k = 4 ∨ k = 6) (hm : s.mode = .idle)
    (hp : s.on Pg.SYS Fd.SYS_MODE_REQ_PENDING = false) (hr : s.on Pg.SYS Fd.SYS_JOB_STAT_NEXT_READY = true) (hj : s.jobN = some j) (h6 : k = 6 → j.legacy = true)
    (h3 : k = 3 → ((((s.touch o Pg.SYS).writeReg Pg.SYS Rg.SYS_MODE_REQ w)).relearnFaults .next j).isEmpty = true) :
    ∃ x, Wrote Rg.SYS_MODE_REQ s x ∧ s.modeReq o w = x.startJob j (k == 3) (k == 6) := by
  obtain ⟨x, hxe, hx, he⟩ := State.modeReq_wrote ha hg
  refine ⟨x, hx, ?_⟩
  rw [he, hk, State.modeRequest_start ((hx.on (by decide)).trans hp) ((hx.mode (by decide)).trans hm) hk3,
    State.requestStart_go ((hx.on (by decide)).trans hr) ((hx.within.jobN_eq rfl).trans hj) h6 (hxe ▸ h3)]

theorem modeReq_startRefused {k : Nat} (hk : wf w 0 3 = k) (hk3 : k = 3 ∨ k = 4 ∨ k = 6) (hm : s.mode = .idle)
    (hp : s.on Pg.SYS Fd.SYS_MODE_REQ_PENDING = false) :
    (s.on Pg.SYS Fd.SYS_JOB_STAT_NEXT_READY = false ∨ s.jobN = none → (s.modeReq o w).mode = .idle ∧ (s.modeReq o w).fld Pg.SYS Fd.SYS_MODE_REFUSAL = 2) ∧
    (∀ j, s.on Pg.SYS Fd.SYS_JOB_STAT_NEXT_READY = true → s.jobN = some j → k = 6 → j.legacy = false →
      (s.modeReq o w).mode = .idle ∧ (s.modeReq o w).fld Pg.SYS Fd.SYS_MODE_REFUSAL = 1) := by
  obtain ⟨x, -, hx, he⟩ := State.modeReq_wrote ha hg
  have hxm := (hx.mode (by decide)).trans hm
  have hready := hx.on (f := Fd.SYS_JOB_STAT_NEXT_READY) (by decide)
  have hnext : x.jobN = s.jobN := hx.within.jobN_eq rfl
  rw [he, hk, State.modeRequest_start ((hx.on (by decide)).trans hp) hxm hk3]
  refine ⟨fun h => ?_, fun j hr hj h6 hl => ?_⟩
  · rw [State.requestStart_none (by rw [hready, hnext]; exact h)]
    exact ⟨(State.refusal_shows x 2 (by decide)).2.trans hxm, (State.refusal_shows x 2 (by decide)).1⟩
  · rw [h6, State.requestStart_notLegacy (hready.trans hr) (hnext.trans hj) hl]
    exact ⟨(State.refusal_shows x 1 (by decide)).2.trans hxm, (State.refusal_shows x 1 (by decide)).1⟩

/-- From SETUP and from HOLD, IDLE is entered or refused (R63, R70, R72). -/
theorem modeReq_entersIdle (hk : wf w 0 3 = 1) (hp : s.on Pg.SYS Fd.SYS_MODE_REQ_PENDING = false) :
    (s.mode = .setup → s.setupBusy = true → (s.modeReq o w).mode = .setup ∧ (s.modeReq o w).fld Pg.SYS Fd.SYS_MODE_REFUSAL = 3) ∧
    (s.mode = .setup → s.setupBusy = false → (s.modeReq o w).mode = .idle) ∧
    (s.mode = .hold → s.on Pg.SYS Fd.SYS_MODE_HOLD_CLEARABLE = true → (s.modeReq o w).mode = .idle ∧ (s.modeReq o w).jobA = none ∧
      (s.modeReq o w).jobN = none ∧ ∀ e, ((s.modeReq o w).engOf e).view = none) ∧
    (s.mode = .hold → s.on Pg.SYS Fd.SYS_MODE_HOLD_CLEARABLE = false → (s.modeReq o w).mode = .hold ∧ (s.modeReq o w).fld Pg.SYS Fd.SYS_MODE_REFUSAL = 4) := by
  obtain ⟨x, -, hx, he⟩ := State.modeReq_wrote ha hg
  have hxm := hx.mode (by decide)
  have hxp := (hx.on (f := Fd.SYS_MODE_REQ_PENDING) (by decide)).trans hp
  have hbusy := State.setupBusy_wrote hx (by decide)
  have hclear := hx.on (f := Fd.SYS_MODE_HOLD_CLEARABLE) (by decide)
  rw [he, hk]
  refine ⟨fun hm hb => ?_, fun hm hb => ?_, fun hm hb => ?_, fun hm hb => ?_⟩
  · rw [State.modeRequest_leaveSetup hxp (hxm.trans hm), if_pos (hbusy.trans hb)]
    exact ⟨(State.refusal_shows x 3 (by decide)).2.trans (hxm.trans hm), (State.refusal_shows x 3 (by decide)).1⟩
  · rw [State.modeRequest_leaveSetup hxp (hxm.trans hm), if_neg (by rw [hbusy, hb]; decide)]
    exact State.leaveSetup_mode x
  · rw [State.modeRequest_leaveHold hxp (hxm.trans hm), if_pos (hclear.trans hb)]
    obtain ⟨h1, h2, h3, h4⟩ := State.leaveHold_shows x
    exact ⟨h1, h3, h4, h2⟩
  · rw [State.modeRequest_leaveHold hxp (hxm.trans hm), if_neg (by rw [hclear, hb]; decide)]
    exact ⟨(State.refusal_shows x 4 (by decide)).2.trans (hxm.trans hm), (State.refusal_shows x 4 (by decide)).1⟩

theorem modeReq_hold (hk : wf w 0 3 = 7) :
    (s.mode = .boot → (s.modeReq o w).mode = .boot ∧ (s.modeReq o w).fld Pg.SYS Fd.SYS_MODE_REFUSAL = 1) ∧
    (s.mode ≠ .boot → s.mode ≠ .hold → s.commits = [] → (s.modeReq o w).mode = .hold ∧ (s.modeReq o w).fld Pg.SYS Fd.SYS_MODE_HOLD_ENTRY = 0xFF ∧
      (s.modeReq o w).on Pg.SYS Fd.SYS_MODE_HOLD_CLEARABLE = true ∧ (s.modeReq o w).crl.entries = [] ∧ (s.modeReq o w).crl.pulses = [] ∧
      (s.modeReq o w).acts = [] ∧ (∀ e, ((s.modeReq o w).engOf e).view = none) ∧ (s.modeReq o w).mem = s.mem) := by
  obtain ⟨x, -, hx, he⟩ := State.modeReq_wrote ha hg
  have hxm := hx.mode (by decide)
  rw [he, hk]
  refine ⟨fun hm => ?_, fun h1 h2 hc => ?_⟩
  · rw [State.modeRequest_hold_boot (hxm.trans hm)]
    exact ⟨(State.refusal_shows x 1 (by decide)).2.trans (hxm.trans hm), (State.refusal_shows x 1 (by decide)).1⟩
  · rw [← hxm] at h1 h2
    obtain ⟨-, e2, e3⟩ := State.enterHold_shows h1 h2 (hx.commits.trans hc)
    obtain ⟨e4, e5, e6, e7⟩ := State.enterHold_stops h1 h2
    rw [State.modeRequest_hold h1]
    exact ⟨State.enterHold_mode x _ h1, e2, e3, e4, e5, e6, e7, ((State.enterHold_within ..).mem_eq rfl).trans (hx.within.mem_eq rfl)⟩

end

/-- Settles O30: each request is taken along Table — Mode transitions on the state that the write of MODE_REQ left. -/
theorem modeRequestsAreCarriedOutOrRefused : Obligations.ModeRequestsAreCarriedOutOrRefused := by
  refine ⟨?_, ?_, ?_, ?_, ?_, ?_, ?_⟩
  · intro o w k c s ha hg hk hc
    obtain ⟨h7, hx⟩ := exec_modeReq_target s hc
    exact ⟨_, hx, modeReq_refused ha hg hk h7⟩
  · intro o w s ha hg hk hm hp hc
    obtain ⟨h1, h2, h3, -⟩ := modeReq_entersSetup ha hg hk hm hp hc
    exact ⟨_, rfl, h1, h2, h3⟩
  · intro o w s ha hg hk hp
    obtain ⟨h1, h2, h3, h4⟩ := modeReq_entersIdle ha hg hk hp
    refine ⟨_, rfl, h1, h2, fun hm hs => ?_, h3, h4⟩
    obtain ⟨e1, e2, e3, -⟩ := modeReq_endsJob ha hg hk hp hm hs
    exact ⟨e1, e2, e3⟩
  · intro o w s ha hg hk hm hp
    exact ⟨_, rfl, modeReq_relearns ha hg hk hm hp⟩
  · intro o w k c s ha hg hk hm hp hc hi
    obtain ⟨hk3, hx⟩ := exec_modeReq_start s hi
    obtain ⟨r1, r2⟩ := modeReq_startRefused ha hg hk hk3 hm hp
    refine ⟨_, hx, r1, fun j hr hj => ⟨r2 j hr hj, fun h6 h3 => ?_⟩⟩
    obtain ⟨x, hxw, he⟩ := modeReq_starts ha hg hk hk3 hm hp hr hj h6 h3
    have hxc := hxw.commits.trans hc
    obtain ⟨s1, s2, -⟩ := State.startJob_shows hxc j (k == 3) (k == 6)
    obtain ⟨m1, m2⟩ := State.startMode_cases (x.startViews j (k == 3)) j
    rw [he, State.startJob_mode hxc]
    refine ⟨s1, s2, fun h => ?_, fun h => ?_⟩
    · rw [beq_iff_eq.mpr h]; exact m1
    · rw [beq_eq_false_iff_ne.mpr h]; exact m2
  · intro o w s ha hg hk hm
    exact ⟨_, rfl, (modeReq_hold ha hg hk).1 hm⟩
  · intro o w s ha hg hk h1 h2 hc
    exact ⟨_, rfl, (modeReq_hold ha hg hk).2 h1 h2 hc⟩

/-- Settles O55: a start from IDLE gives each view of the job its part at the next line block, and AT = 1 ends it behind the repeat its intake is in. -/
theorem jobsStartAtTheNextBlockAndEndWhereAsked : Obligations.JobsStartAtTheNextBlockAndEndWhereAsked := by
  refine ⟨?_, ?_, ?_⟩
  · intro o w j s ha hg hm hp hc hr hj started
    have hstart {k : Nat} {x : State} (hx : Wrote Rg.SYS_MODE_REQ s x) : started (x.startJob j (k == 3) (k == 6)) := by
      obtain ⟨s1, s2, s3, s4, s5⟩ := State.startJob_shows (hx.commits.trans hc) j (k == 3) (k == 6)
      refine ⟨s1, s2, s3, s4, s5, fun v hv he => ?_⟩
      obtain ⟨v1, v2, v3, v4, -⟩ := State.startJob_views x j (k == 3) (k == 6) hv he
      have hn : x.nextLine v = s.nextLine v := by unfold State.nextLine; rw [hx.within.tg_eq rfl]
      exact ⟨hn ▸ v1, v2, v3, v4⟩
    refine ⟨fun hk hf => ?_, fun hk => ?_, fun hk hl => ?_⟩
    · obtain ⟨x, hx, he⟩ := modeReq_starts ha hg hk (by decide) hm hp hr hj (fun h => absurd h (by decide)) fun _ => hf
      refine ⟨_, rfl, he ▸ hstart hx, fun v hv hen => ?_⟩
      obtain ⟨-, -, -, -, hre⟩ := State.startViews_views x j true hv hen
      obtain ⟨-, -, -, -, hrt⟩ := State.startJob_views x j true false hv hen
      rw [he]
      exact ⟨State.isLearning_relearn hrt, (State.startJob_mode (hx.commits.trans hc) j true false).trans
        (State.startMode_learn hv hen (State.isLearning_relearn hre))⟩
    · obtain ⟨x, hx, he⟩ := modeReq_starts ha hg hk (by decide) hm hp hr hj (fun h => absurd h (by decide)) (fun h => absurd h (by decide))
      refine ⟨_, rfl, he ▸ hstart hx, ?_⟩
      rw [he, State.startJob_mode (hx.commits.trans hc)]
      exact (State.startMode_cases ..).2
    · obtain ⟨x, hx, he⟩ := modeReq_starts ha hg hk (by decide) hm hp hr hj (fun _ => hl) (fun h => absurd h (by decide))
      refine ⟨_, rfl, he ▸ hstart hx, ?_⟩
      rw [he, State.startJob_mode (hx.commits.trans hc)]
      exact (State.startMode_cases (x.startViews j false) j).1
  · intro o w s ha hg hk hm hp hc
    obtain ⟨h1, -, -, h4⟩ := modeReq_entersSetup ha hg hk hm hp hc
    exact ⟨_, rfl, h1, h4⟩
  · intro o w s ha hg hk hat hp hs hm
    obtain ⟨h1, h2, -, h4⟩ := modeReq_endsJob ha hg hk hp hm hs
    exact ⟨_, rfl, h1, h2, h4 hat⟩

end Sys2Proof.Machine
end

section
/-!
PROOFS. Jobs opened, validated, loaded and deleted (O31).
-/
namespace Sys2Proof.Machine

/-! ### The job library through a write of JOB_CTL (R73-R76) -/

theorem Wrote.lib {off : Nat} {s x : State} (h : Wrote off s x) (h1 : off ≠ Rg.SYS_LIB_BASE_LO) (h2 : off ≠ Rg.SYS_LIB_BASE_HI) : LibSame s x :=
  ⟨h.within.mem_eq rfl, h.within.blank_eq rfl, by
    unfold State.rd64
    rw [(h.regs (Pg.SYS * 4096 + Rg.SYS_LIB_BASE_LO) (by omega)).rd, (h.regs (Pg.SYS * 4096 + Rg.SYS_LIB_BASE_HI) (by omega)).rd]⟩

/-- The directory entry of a job lies in DRAM. -/
abbrev State.fits (s : State) (j : Nat) : Prop := s.dirAddr j + 64 ≤ s.capacity

theorem State.fits_of {s t : State} (h : LibSame s t) (ht : t.trained = s.trained) {j : Nat} (hf : s.fits j) : t.fits j := by
  unfold State.fits State.dirAddr
  rw [h.base, State.capacity_of ht]
  exact hf

/-- A job's state is written, and what follows leaves the library. -/
theorem State.jobState_set {s t : State} {j st : Nat} (hl : LibSame (s.setJobState j st) t) (hf : s.fits j) (hst : st < 8) : t.jobState j = st :=
  (State.jobState_lib hl j).trans (State.setJobState_state s j st hf hst)

/-- A command that the job's state does not permit leaves SYS.JOB_STAT. -/
theorem State.jobWrong_stat (s : State) (j : Nat) : RegSame (Pg.SYS * 4096 + Rg.SYS_JOB_STAT) s (s.jobWrong j) :=
  State.logMinor_same (by unfold logPage; decide) (by decide)

theorem State.jobOpen_wrong {s : State} {j : Nat} (h : s.jobState j = jobNext ∨ s.jobState j = jobActive) : s.jobOpen j = s.jobWrong j := by
  unfold State.jobOpen; rw [if_pos h]

theorem State.jobOpen_go {s : State} {j : Nat} (h : ¬(s.jobState j = jobNext ∨ s.jobState j = jobActive)) :
    s.jobOpen j = (s.setJobState j jobLoading).abortPredict j := by
  unfold State.jobOpen; rw [if_neg h]

theorem State.jobDelete_wrong {s : State} {j : Nat} (h : ¬(s.jobState j = jobReady ∨ s.jobState j = jobLoading ∨ s.jobState j = jobRefused)) :
    s.jobDelete j = s.jobWrong j := by
  unfold State.jobDelete; rw [if_neg h]

theorem State.jobDelete_go {s : State} {j : Nat} (h : s.jobState j = jobReady ∨ s.jobState j = jobLoading ∨ s.jobState j = jobRefused) :
    s.jobDelete j = (s.setJobState j jobEmpty).abortPredict j := by
  unfold State.jobDelete; rw [if_pos h]

/-- A job set to a state, and a prediction of it ended. -/
theorem State.setAborted_shows (s : State) (j : Nat) {st : Nat} (hst : st < 8) :
    (s.fits j → ((s.setJobState j st).abortPredict j).jobState j = st) ∧ ∀ p, ((s.setJobState j st).abortPredict j).predict = some p → p.job ≠ j :=
  ⟨fun hf => State.jobState_set (State.abortPredict_lib _ j).1 hf hst, (State.abortPredict_lib _ j).2⟩

theorem State.jobValidate_go {s : State} {j : Nat} (h : (s.jobState j = jobLoading ∨ s.jobState j = jobReady ∨ s.jobState j = jobRefused) ∧ s.valJob = none) :
    s.jobValidate j = ({ s with valJob := some j }).setFld Pg.SYS Fd.SYS_JOB_STAT_VAL_BUSY 1 := by
  unfold State.jobValidate; rw [if_pos (by simpa using h)]

theorem State.jobValidate_wrong {s : State} {j : Nat}
    (h : ¬(s.jobState j = jobLoading ∨ s.jobState j = jobReady ∨ s.jobState j = jobRefused) ∨ s.valJob.isSome = true) : s.jobValidate j = s.jobWrong j := by
  unfold State.jobValidate
  rw [if_neg]
  rintro ⟨h1, h2⟩
  rw [Option.isNone_iff_eq_none] at h2
  rcases h with h | h
  · exact h h1
  · rw [h2] at h; cases h

theorem State.jobLoadNext_wrong {s : State} {j : Nat} (h : s.jobState j ≠ jobReady ∨ s.on Pg.SYS Fd.SYS_JOB_STAT_NEXT_VALID = true) :
    s.jobLoadNext j = s.jobWrong j := by
  unfold State.jobLoadNext; rw [if_pos h]

theorem State.jobLoadNext_go {s : State} {j : Nat} (h : s.jobState j = jobReady) (hv : s.on Pg.SYS Fd.SYS_JOB_STAT_NEXT_VALID = false)
    (hl : (s.loadFaults (s.jobCtx j)).isEmpty = true) :
    s.jobLoadNext j = ((s.setJobState j jobNext).setFld Pg.SYS Fd.SYS_JOB_STAT_NEXT_ID j).setFld Pg.SYS Fd.SYS_JOB_STAT_NEXT_VALID 1 := by
  unfold State.jobLoadNext
  rw [if_neg (by simp [h, hv])]
  dsimp only
  rw [if_neg (by simp [hl])]

/-- The job that becomes the next one is shown as such (R77). -/
theorem State.jobLoadNext_shows {s : State} {j : Nat} (hj : j < 64) (h : s.jobState j = jobReady) (hv : s.on Pg.SYS Fd.SYS_JOB_STAT_NEXT_VALID = false)
    (hl : (s.loadFaults (s.jobCtx j)).isEmpty = true) : (s.jobLoadNext j).on Pg.SYS Fd.SYS_JOB_STAT_NEXT_VALID = true ∧
      (s.jobLoadNext j).fld Pg.SYS Fd.SYS_JOB_STAT_NEXT_ID = j ∧ (s.fits j → (s.jobLoadNext j).jobState j = jobNext) := by
  rw [State.jobLoadNext_go h hv hl]
  refine ⟨State.on_one (by decide) (by decide), ?_, fun hf => ?_⟩
  · rw [State.fld_setFld_p (by decide) (by decide)]
    exact State.fld_fits (by decide) hj
  · exact State.jobState_set ((State.setFld_lib2 _ (by decide) (by decide)).trans (State.setFld_lib2 _ (by decide) (by decide))) hf (by decide)

/-- The next job withdrawn (R79). -/
theorem State.jobCancelNext_shows {s : State} (k : Nat) (hc : s.fld Pg.SYS Fd.SYS_CHG_CTL_STATE = 0) (hv : s.on Pg.SYS Fd.SYS_JOB_STAT_NEXT_VALID = true) :
    (s.jobCancelNext k).jobN = none ∧ (s.jobCancelNext k).on Pg.SYS Fd.SYS_JOB_STAT_NEXT_VALID = false ∧
      (s.jobCancelNext k).on Pg.SYS Fd.SYS_JOB_STAT_NEXT_READY = false ∧
      (s.fits (s.fld Pg.SYS Fd.SYS_JOB_STAT_NEXT_ID) → (s.jobCancelNext k).jobState (s.fld Pg.SYS Fd.SYS_JOB_STAT_NEXT_ID) = jobReady) ∧
      (s.jobCancelNext k).jobA = s.jobA := by
  have he : s.jobCancelNext k = (((({ s with jobN := none }).setJobState (s.fld Pg.SYS Fd.SYS_JOB_STAT_NEXT_ID) jobReady).setFld
      Pg.SYS Fd.SYS_JOB_STAT_NEXT_VALID 0).setFld Pg.SYS Fd.SYS_JOB_STAT_NEXT_READY 0) := by
    unfold State.jobCancelNext
    rw [if_neg (by simp [hc]), if_neg (by simp [hv])]
  rw [he]
  refine ⟨?_, ?_, State.on_zero (by decide), fun hf => ?_, ?_⟩
  · rw [State.setFld_jobN, State.setFld_jobN, (State.setJobState_within ..).jobN_eq rfl]
  · rw [State.on_setFld_p (by decide) (by decide)]
    exact State.on_zero (by decide)
  · exact State.jobState_set (s := { s with jobN := none })
      ((State.setFld_lib2 _ (by decide) (by decide)).trans (State.setFld_lib2 _ (by decide) (by decide))) hf (by decide)
  · rw [State.setFld_jobA, State.setFld_jobA, (State.setJobState_within ..).jobA_eq rfl]

/-! ### The end of a validation (R75) -/

theorem State.jobRead_valJob (s : State) (a n : Nat) : (s.jobRead a n).1.valJob = s.valJob := (State.jobRead_within ..).valJob_eq rfl

theorem State.crcFaults_valJob (s : State) (j : JobCtx) (l : List Sect) : (s.crcFaults j l).1.valJob = s.valJob := by
  have h : Within 0xd15d7d833 s (s.crcFaults j l).1 :=
    Within.foldl_fst (Within.refl _ _) fun _ _ ht => Within.step (State.jobRead_within ..) rfl ht
  exact h.valJob_eq rfl

theorem State.validate_valJob (s : State) (j : Nat) : (s.validate j).1.valJob = s.valJob := by
  unfold State.validate
  rw [← State.jobRead_valJob s (s.dirAddr j) 64]
  generalize s.jobRead (s.dirAddr j) 64 = r
  obtain ⟨x, d⟩ := r
  dsimp only
  split
  · rfl
  · split
    · rfl
    · rw [← State.jobRead_valJob x (x.jobSectBase j) (32 * x.jobSectCount j)]
      generalize x.jobRead (x.jobSectBase j) (32 * x.jobSectCount j) = r
      obtain ⟨y, e⟩ := r
      dsimp only
      split
      · rfl
      · exact State.crcFaults_valJob ..

theorem State.validated_valJob (s : State) (j : Nat) (l : List Flt) : (s.validated j l).valJob = s.valJob := by
  unfold State.validated
  split
  · dsimp only
    rw [State.setFld_valJob, (State.setDir_within ..).valJob_eq rfl, (State.setDir_within ..).valJob_eq rfl, (State.setJobState_within ..).valJob_eq rfl]
  · rw [State.setFld_valJob, (State.setJobState_within ..).valJob_eq rfl]

theorem State.validationDone_valJob {s : State} {j : Nat} (h : s.valJob = some j) : s.validationDone.valJob = none := by
  rw [State.validationDone_eq h rfl]
  split
  · rfl
  · rw [State.validated_valJob]
    exact ((State.logFaults_within ..).valJob_eq rfl).trans (State.validate_valJob ..)

/-- What the end of a validation shows (R75): the job's sections may be written again, and RESULT says whether faults were found. -/
theorem State.validationDone_shows {s : State} {j : Nat} (h : s.valJob = some j) (h1 : s.jobState j ≠ jobEmpty) (h2 : s.jobState j ≠ jobNext)
    (h3 : s.jobState j ≠ jobActive) : j ∉ s.validationDone.roWritten ∧ s.validationDone.fld Pg.SYS Fd.SYS_JOB_STAT_VAL_RESULT =
      if (((({ s with valJob := none }).setFld Pg.SYS Fd.SYS_JOB_STAT_VAL_BUSY 0).validate j).2).isEmpty then 1 else 2 := by
  have hl : LibSame s (({ s with valJob := none }).setFld Pg.SYS Fd.SYS_JOB_STAT_VAL_BUSY 0) :=
    LibSame.trans (t := { s with valJob := none }) (LibSame.of_regs rfl rfl rfl) (State.setFld_lib2 _ (by decide) (by decide))
  rw [State.validationDone_eq h rfl, if_neg (by rw [State.jobState_lib hl]; simp [h1, h2, h3])]
  exact State.validated_shows _ _ _ (State.roFiltered _ _ _)

/-! ### The next job loaded (R77) -/

theorem loadNextDone_go {s : State} (h1 : s.on Pg.SYS Fd.SYS_JOB_STAT_NEXT_VALID = true) (h2 : s.on Pg.SYS Fd.SYS_JOB_STAT_NEXT_READY = false) :
    exec .loadNextDone s = .next (({ s with jobN := some (s.jobCtx (s.fld Pg.SYS Fd.SYS_JOB_STAT_NEXT_ID)) }).setFld Pg.SYS Fd.SYS_JOB_STAT_NEXT_READY 1) := by
  show execLoadNextDone s = _
  unfold execLoadNextDone
  rw [if_pos (by simp [h1, h2])]

theorem loadNextDone_waits {s : State} (h : s.on Pg.SYS Fd.SYS_JOB_STAT_NEXT_VALID = false ∨ s.on Pg.SYS Fd.SYS_JOB_STAT_NEXT_READY = true) :
    exec .loadNextDone s = .next s := by
  show execLoadNextDone s = _
  unfold execLoadNextDone
  rw [if_neg (by rcases h with h | h <;> simp [h])]

section
variable {o : Owner} {w : Word} {s : State} (ha : s.access o Pg.SYS = .granted)
include ha

/-- A granted write of JOB_CTL, and the state that it leaves its command. -/
theorem State.jobCtl_wrote : ∃ x, x = (s.touch o Pg.SYS).writeReg Pg.SYS Rg.SYS_JOB_CTL w ∧ Wrote Rg.SYS_JOB_CTL s x ∧ LibSame s x ∧
    (wf w 8 5 = 1 → s.jobCtl o w = x.jobOpen (wf w 0 6)) ∧ (wf w 8 5 = 2 → s.jobCtl o w = x.jobValidate (wf w 0 6)) ∧
    (wf w 8 5 = 4 → s.jobCtl o w = x.jobLoadNext (wf w 0 6)) ∧ (wf w 8 5 = 8 → s.jobCtl o w = x.jobCancelNext (wf w 0 6)) ∧
    (wf w 8 5 = 16 → s.jobCtl o w = x.jobDelete (wf w 0 6)) := by
  have hx := State.wrote s o Rg.SYS_JOB_CTL w
  refine ⟨_, rfl, hx, hx.lib (by decide) (by decide), ?_, ?_, ?_, ?_, ?_⟩ <;> (intro h; rw [State.jobCtl_go ha rfl, h]; rfl)

theorem jobOpen_shows (hk : wf w 8 5 = 1) :
    (s.jobState (wf w 0 6) = jobNext ∨ s.jobState (wf w 0 6) = jobActive →
      (s.jobCtl o w).predict = s.predict ∧ (s.jobCtl o w).jobN = s.jobN ∧ (s.jobCtl o w).jobA = s.jobA) ∧
    (s.jobState (wf w 0 6) ≠ jobNext → s.jobState (wf w 0 6) ≠ jobActive →
      (s.fits (wf w 0 6) → (s.jobCtl o w).jobState (wf w 0 6) = jobLoading) ∧ ∀ p, (s.jobCtl o w).predict = some p → p.job ≠ wf w 0 6) := by
  obtain ⟨x, -, hx, hl, he, -⟩ := State.jobCtl_wrote (w := w) ha
  rw [he hk, ← State.jobState_lib hl]
  refine ⟨fun h => ?_, fun h1 h2 => ?_⟩
  · rw [State.jobOpen_wrong h]
    exact ⟨((State.jobWrong_within ..).predict_eq rfl).trans (hx.within.predict_eq rfl), ((State.jobWrong_within ..).jobN_eq rfl).trans (hx.within.jobN_eq rfl),
      ((State.jobWrong_within ..).jobA_eq rfl).trans (hx.within.jobA_eq rfl)⟩
  · rw [State.jobOpen_go (by simp [h1, h2])]
    obtain ⟨a1, a2⟩ := State.setAborted_shows x (wf w 0 6) (st := jobLoading) (by decide)
    exact ⟨fun hf => a1 (State.fits_of hl (hx.within.trained_eq rfl) hf), a2⟩

theorem jobDelete_shows (hk : wf w 8 5 = 16) :
    (s.jobState (wf w 0 6) = jobReady ∨ s.jobState (wf w 0 6) = jobLoading ∨ s.jobState (wf w 0 6) = jobRefused →
      (s.fits (wf w 0 6) → (s.jobCtl o w).jobState (wf w 0 6) = jobEmpty) ∧ ∀ p, (s.jobCtl o w).predict = some p → p.job ≠ wf w 0 6) ∧
    (¬(s.jobState (wf w 0 6) = jobReady ∨ s.jobState (wf w 0 6) = jobLoading ∨ s.jobState (wf w 0 6) = jobRefused) →
      (s.jobCtl o w).predict = s.predict ∧ (s.jobCtl o w).jobN = s.jobN ∧ (s.jobCtl o w).jobA = s.jobA) := by
  obtain ⟨x, -, hx, hl, -, -, -, -, he⟩ := State.jobCtl_wrote (w := w) ha
  rw [he hk, ← State.jobState_lib hl]
  refine ⟨fun h => ?_, fun h => ?_⟩
  · rw [State.jobDelete_go h]
    obtain ⟨a1, a2⟩ := State.setAborted_shows x (wf w 0 6) (st := jobEmpty) (by decide)
    exact ⟨fun hf => a1 (State.fits_of hl (hx.within.trained_eq rfl) hf), a2⟩
  · rw [State.jobDelete_wrong h]
    exact ⟨((State.jobWrong_within ..).predict_eq rfl).trans (hx.within.predict_eq rfl), ((State.jobWrong_within ..).jobN_eq rfl).trans (hx.within.jobN_eq rfl),
      ((State.jobWrong_within ..).jobA_eq rfl).trans (hx.within.jobA_eq rfl)⟩

theorem jobValidate_shows (hk : wf w 8 5 = 2) :
    ((s.jobState (wf w 0 6) = jobLoading ∨ s.jobState (wf w 0 6) = jobReady ∨ s.jobState (wf w 0 6) = jobRefused) → s.valJob = none →
      (s.jobCtl o w).valJob = some (wf w 0 6) ∧ (s.jobCtl o w).on Pg.SYS Fd.SYS_JOB_STAT_VAL_BUSY = true ∧ (s.jobCtl o w).mem = s.mem) ∧
    (¬(s.jobState (wf w 0 6) = jobLoading ∨ s.jobState (wf w 0 6) = jobReady ∨ s.jobState (wf w 0 6) = jobRefused) ∨ s.valJob.isSome = true →
      (s.jobCtl o w).valJob = s.valJob) := by
  obtain ⟨x, -, hx, hl, -, he, -⟩ := State.jobCtl_wrote (w := w) ha
  have hv : x.valJob = s.valJob := hx.within.valJob_eq rfl
  rw [he hk, ← State.jobState_lib hl, ← hv]
  refine ⟨fun h1 h2 => ?_, fun h => ?_⟩
  · rw [State.jobValidate_go ⟨h1, h2⟩]
    exact ⟨rfl, State.on_one (by decide) (by decide), hx.within.mem_eq rfl⟩
  · rw [State.jobValidate_wrong h]
    exact (State.jobWrong_within ..).valJob_eq rfl

theorem jobLoadNext_shows (hk : wf w 8 5 = 4) :
    (s.jobState (wf w 0 6) ≠ jobReady ∨ s.on Pg.SYS Fd.SYS_JOB_STAT_NEXT_VALID = true → (s.jobCtl o w).jobN = s.jobN ∧
      (s.jobCtl o w).rd Pg.SYS Rg.SYS_JOB_STAT = s.rd Pg.SYS Rg.SYS_JOB_STAT) ∧
    (s.jobState (wf w 0 6) = jobReady → s.on Pg.SYS Fd.SYS_JOB_STAT_NEXT_VALID = false →
      (((s.touch o Pg.SYS).writeReg Pg.SYS Rg.SYS_JOB_CTL w).loadFaults (s.jobCtx (wf w 0 6))).isEmpty = true →
      (s.jobCtl o w).on Pg.SYS Fd.SYS_JOB_STAT_NEXT_VALID = true ∧ (s.jobCtl o w).fld Pg.SYS Fd.SYS_JOB_STAT_NEXT_ID = wf w 0 6 ∧
        (s.fits (wf w 0 6) → (s.jobCtl o w).jobState (wf w 0 6) = jobNext)) := by
  obtain ⟨x, hxe, hx, hl, -, -, he, -⟩ := State.jobCtl_wrote (w := w) ha
  rw [he hk, ← State.jobState_lib hl, ← hxe, ← State.jobCtx_lib hl, ← hx.on (f := Fd.SYS_JOB_STAT_NEXT_VALID) (by decide)]
  refine ⟨fun h => ?_, fun h1 h2 h3 => ?_⟩
  · rw [State.jobLoadNext_wrong h]
    exact ⟨((State.jobWrong_within ..).jobN_eq rfl).trans (hx.within.jobN_eq rfl), (State.jobWrong_stat ..).rd.trans (hx.regs _ (by decide)).rd⟩
  · obtain ⟨e1, e2, e3⟩ := State.jobLoadNext_shows (Nat.mod_lt _ (by decide)) h1 h2 h3
    exact ⟨e1, e2, fun hf => e3 (State.fits_of hl (hx.within.trained_eq rfl) hf)⟩

theorem jobCancelNext_shows (hk : wf w 8 5 = 8) (hc : s.fld Pg.SYS Fd.SYS_CHG_CTL_STATE = 0) (hv : s.on Pg.SYS Fd.SYS_JOB_STAT_NEXT_VALID = true) :
    (s.jobCtl o w).jobN = none ∧ (s.jobCtl o w).on Pg.SYS Fd.SYS_JOB_STAT_NEXT_VALID = false ∧
      (s.jobCtl o w).on Pg.SYS Fd.SYS_JOB_STAT_NEXT_READY = false ∧
      (s.fits (s.fld Pg.SYS Fd.SYS_JOB_STAT_NEXT_ID) → (s.jobCtl o w).jobState (s.fld Pg.SYS Fd.SYS_JOB_STAT_NEXT_ID) = jobReady) ∧
      (s.jobCtl o w).jobA = s.jobA := by
  obtain ⟨x, -, hx, hl, -, -, -, he, -⟩ := State.jobCtl_wrote (w := w) ha
  have hid := hx.fld (f := Fd.SYS_JOB_STAT_NEXT_ID) (by decide)
  obtain ⟨e1, e2, e3, e4, e5⟩ := State.jobCancelNext_shows (s := x) (wf w 0 6) ((hx.fld (by decide)).trans hc) ((hx.on (by decide)).trans hv)
  rw [he hk, ← hid]
  exact ⟨e1, e2, e3, fun hf => e4 (State.fits_of hl (hx.within.trained_eq rfl) hf), e5.trans (hx.within.jobA_eq rfl)⟩

end

/-- Settles O31: each command acts on the library as the write of JOB_CTL found it, and its job's state reads back where its entry lies in DRAM. -/
theorem jobsAreOpenedValidatedLoadedAndDeleted : Obligations.JobsAreOpenedValidatedLoadedAndDeleted := by
  refine ⟨?_, ?_, ?_, ?_⟩
  · intro o w s ha j st fits
    exact ⟨fun hk => ⟨_, rfl, jobOpen_shows ha hk⟩, fun hk => ⟨_, rfl, jobValidate_shows ha hk⟩, fun hk => ⟨_, rfl, jobLoadNext_shows ha hk⟩,
      fun hk => ⟨_, rfl, jobDelete_shows ha hk⟩⟩
  · intro o w s ha hk hc hv j
    exact ⟨_, rfl, jobCancelNext_shows ha hk hc hv⟩
  · intro j s h x
    exact ⟨_, rfl, State.validationDone_valJob h, State.validationDone_shows h⟩
  · intro s
    refine ⟨fun h1 h2 => ⟨_, loadNextDone_go h1 h2, rfl, State.on_one (by decide) (by decide), ?_, rfl⟩, loadNextDone_waits⟩
    exact regsKept_one fun b hb => State.setFld_same hb

end Sys2Proof.Machine
end

section
/-!
PROOFS. A requested end that a changeover overtakes (O32).
-/
namespace Sys2Proof.Machine

/-- A job of views 0 and 1 whose changeover is under way. View 0 has reached the end that was asked of it; its port still holds a unit of
view 1, which leaves with the old job. -/
def endCrossed : State :=
  { ((State.reset.setFld Pg.SYS Fd.SYS_MODE_MODE Mode.inspect.code).setFld Pg.SYS Fd.SYS_CHG_CTL_STATE 2).setFld Pg.STI (Fd.STI_PORT_CTL_IN_VIEW 0) 1 with
    jobA := some ⟨0, false, 3, 0, 0, 64, 0, 0, 0, []⟩
    view := [(0, { endAt := some 0, past := true }), (1, { chg := some 0 })]
    intake := [(0, { view := 1, units := [⟨0, 1, 0, 0, .gap, 8, []⟩] })] }

/-- The state is as the last clause asks: a running job, an end that is due in view 0, and no port of it with a line to deliver. -/
theorem endCrossed_due : endCrossed.mode.job = true ∧ endCrossed.enables .active 0 = true ∧ (endCrossed.view_ 0).endAt = some 0 ∧
    (endCrossed.view_ 0).ended = false ∧ (endCrossed.tgOf 0).running = false ∧ (endCrossed.view_ 0).past = true ∧
    (∀ p ∈ endCrossed.portsOf 0, (endCrossed.intk p).next = none) := by decide +kernel

/-- As view 0 ends, its port takes view 1 past its changeover line, CHANGEOVER is entered, and the ends asked for are dropped (R66, R88). -/
theorem endCrossed_dropped : ((endCrossed.endView 0).view_ 0).endAt = none := by decide +kernel

/-- Refutes O32: in its last clause the port of the ending view may hold a unit of a view that leaves. That view's changeover line enters
CHANGEOVER, which drops every requested end, so that the ended view's boundary is not kept. -/
theorem not_changeoversAreArmedWithdrawnAndCompleted : ¬ Obligations.ChangeoversAreArmedWithdrawnAndCompleted := by
  rintro ⟨-, -, -, h⟩
  obtain ⟨hjob, hen, hat, hended, hrun, hpast, hports⟩ := endCrossed_due
  obtain ⟨t, ht, -, hgo⟩ := h 0 0 endCrossed hat rfl
  obtain ⟨-, -, -, hend⟩ := hgo hjob hen hended (fun hr => absurd (hrun.symm.trans hr) (by decide)) (.inr hpast) hports
  have he : t = endCrossed.endView 0 := (Host.Outcome.next.inj ht).symm
  rw [he] at hend
  exact absurd (endCrossed_dropped.symm.trans hend) (by simp)

end Sys2Proof.Machine
end

section
/-!
PROOFS. What faults, flags and interrupts may write (R579, R601, R662).
-/
namespace Sys2Proof.Machine

/-! ### What faults, flags and interrupts may write (R579, R601, R620, R662) -/

/-- A register that a fault, a flag or an interrupt may write: the count of messages, the IRQ_STAT and PAGE_STAT of any page, and the block
registers of QF, SUPV0, SUPV1 and DMA. -/
abbrev alarmReg (a : Nat) : Prop :=
  a = Pg.PCIE * 4096 + Rg.PCIE_MSG_CNT ∨ a % 4096 = Rg.HDR_IRQ_STAT ∨ a % 4096 = Rg.HDR_PAGE_STAT ∨
    (0x40 ≤ a % 4096 ∧ a / 4096 ∈ [Pg.QF, Pg.SUPV0, Pg.SUPV1, Pg.DMA])

/-- Between two states only registers that a fault, a flag or an interrupt may write have changed, and of the windows only the PBA. -/
structure Alarm (s t : State) : Prop where
  regs : ∀ a, ¬alarmReg a → RegSame a s t
  win : ∀ a, a ≠ 0x0C1000 → t.win a = s.win a

theorem Alarm.refl (s : State) : Alarm s s := ⟨fun a _ => RegSame.refl a s, fun _ _ => rfl⟩

theorem Alarm.step {s t u : State} (h : Alarm t u) (g : Alarm s t) : Alarm s u :=
  ⟨fun a ha => (h.regs a ha).step (g.regs a ha), fun a ha => (h.win a ha).trans (g.win a ha)⟩

theorem Alarm.foldl {α : Type} {f : State → α → State} {l : List α} {s i : State} (hi : Alarm s i) (hf : ∀ t x, Alarm t (f t x)) : Alarm s (l.foldl f i) := by
  induction l generalizing i with
  | nil => exact hi
  | cons a l ih => exact ih ((hf i a).step hi)

theorem Alarm.of_eq {s t : State} (hr : t.regs = s.regs) (hw : t.window = s.window) : Alarm s t :=
  ⟨fun _ _ => RegSame.of_regs hr, fun _ _ => by unfold State.win; rw [hw]⟩

theorem Alarm.of_within {m : Nat} {s t : State} (h : Within m s t) (h1 : m / 2 ^ 1 % 2 = 0) (h4 : m / 2 ^ 4 % 2 = 0) : Alarm s t :=
  Alarm.of_eq (h.regs_eq h1) (h.window_eq h4)

theorem State.wr_alarm (s : State) {p off : Nat} (w : Word) (h : alarmReg (p * 4096 + off)) : Alarm s (s.wr p off w) :=
  ⟨fun _ ha => State.wr_same fun e => ha (e ▸ h), fun _ _ => rfl⟩

theorem State.setFld_alarm (s : State) {p : Nat} {f : Fld} (v : Nat) (h : alarmReg (p * 4096 + f.off)) : Alarm s (s.setFld p f v) := State.wr_alarm s _ h

theorem State.bump_alarm (s : State) {p : Nat} {f : Fld} (h : alarmReg (p * 4096 + f.off)) : Alarm s (s.bump p f) := State.wr_alarm s _ h

theorem alarmReg_irq (p : Nat) : alarmReg (p * 4096 + Rg.HDR_IRQ_STAT) := .inr (.inl (by show (p * 4096 + 0x00C) % 4096 = 0x00C; omega))

theorem alarmReg_stat (p : Nat) : alarmReg (p * 4096 + Rg.HDR_PAGE_STAT) := .inr (.inr (.inl (by show (p * 4096 + 0x008) % 4096 = 0x008; omega)))

theorem State.msix_alarm (s : State) {v : Nat} (hv : v < 32) : Alarm s (s.msix v) := by
  refine ⟨fun a ha => ?_, fun a ha => State.msix_win s v a hv ha⟩
  unfold State.msix
  split
  · exact RegSame.of_regs ((State.setWinBits_within ..).regs_eq rfl)
  · exact RegSame.step (t := s.bump Pg.PCIE (whole Rg.PCIE_MSG_CNT)) (RegSame.of_regs rfl) ((State.bump_alarm s (.inl rfl)).regs a ha)

theorem State.irq_alarm (s : State) (p bit : Nat) : Alarm s (s.irq p bit) := by
  have h : Alarm s (s.setFld p ⟨Rg.HDR_IRQ_STAT, bit, 1⟩ 1) := State.setFld_alarm s 1 (alarmReg_irq p)
  unfold State.irq
  dsimp only
  split
  · exact h
  · exact (State.msix_alarm _ (vectorOf_lt p)).step h

theorem State.errEdge_alarm (s : State) (p : Nat) : Alarm s (s.errEdge p) := by
  have h : Alarm s (s.setBit p Fd.HDR_PAGE_STAT_ERR (s.err p)) := State.setFld_alarm s _ (alarmReg_stat p)
  unfold State.errEdge
  dsimp only
  split
  · exact (State.irq_alarm _ p 31).step h
  · exact h

theorem State.flag_alarm (s : State) {p : Nat} {f : Fld} (h : alarmReg (p * 4096 + f.off)) : Alarm s (s.flag p f) :=
  (State.errEdge_alarm _ p).step (State.setFld_alarm s 1 h)

/-! ### The event log's own words in the queues (R490, R491, R606) -/

theorem State.showLevels_alarm (s : State) : Alarm s s.showLevels := by
  have h : Alarm s (s.setFld Pg.QF Fd.QF_LVL_CNT_b0 s.levels.length) := State.setFld_alarm s _ (by decide)
  unfold State.showLevels
  dsimp only
  split
  · exact (State.setFld_alarm _ 0 (alarmReg_irq Pg.QF)).step h
  · exact (State.irq_alarm _ Pg.QF 0).step h

theorem State.qLevelCheck_alarm (s : State) (q : Nat) : Alarm s (s.qLevelCheck q) := by
  unfold State.qLevelCheck
  dsimp only
  split
  · refine (State.showLevels_alarm _).step ?_
    split <;> exact Alarm.of_eq rfl rfl
  · exact Alarm.refl s

theorem State.extPut_alarm (s : State) (q : Nat) (w : QWord) : Alarm s (s.extPut q w) :=
  (State.wr_alarm _ _ (by decide)).step (Alarm.of_within (Within.step (State.setQ_within ..) rfl ((State.ringPut_within ..).mono rfl)) (m := 0x10000001) rfl rfl)

theorem State.qPut_alarm (s : State) (q : Nat) (d : Word64) (tag : Nat) (sof eof : Bool) : Alarm s (s.qPut q d tag sof eof) := by
  have h : Alarm s (if tag = tagNotValid then s.flag Pg.QF Fd.QF_STAT_BAD_TAG else s) := by
    split
    · exact State.flag_alarm s (by decide)
    · exact Alarm.refl s
  unfold State.qPut
  extract_lets x w v y z
  have hy : Alarm x y := by
    unfold y
    split
    · exact State.extPut_alarm x q w
    · exact Alarm.of_eq rfl rfl
  clear_value y
  exact (State.qLevelCheck_alarm _ q).step (Alarm.step (t := y) (Alarm.of_eq rfl rfl) (hy.step h))

theorem State.qPutFrame_alarm (s : State) (q : Nat) (l : List Word64) (tag : Nat) : Alarm s (s.qPutFrame q l tag) :=
  Alarm.foldl (Alarm.refl s) fun _ _ => State.qPut_alarm ..

/-! ### Entries of the event log (R601-R607) -/

theorem State.logFrame_alarm (s : State) (e : LogEntry) : Alarm s (s.logFrame e) := by
  unfold State.logFrame
  split
  · exact State.qPutFrame_alarm ..
  · exact State.flag_alarm s (by decide)

theorem State.logOver_alarm (s : State) : Alarm s s.logOver := by
  unfold State.logOver
  split
  · split
    · exact (State.irq_alarm ..).step ((State.flag_alarm _ (by decide)).step (State.bump_alarm s (by decide)))
    · exact Alarm.refl s
  · exact Alarm.refl s

theorem State.putEntry_alarm (s : State) (e : LogEntry) : Alarm s (s.putEntry e) := by
  unfold State.putEntry
  refine (State.logFrame_alarm ..).step ((State.wr_alarm _ _ (by decide)).step ((State.setFld_alarm _ _ (by decide)).step
    ((State.setFld_alarm _ _ (by decide)).step ?_)))
  exact Alarm.step (t := s.logOver) (Alarm.of_eq rfl rfl) (State.logOver_alarm s)

theorem State.countClass_alarm (s : State) (cls : Nat) : Alarm s (s.countClass cls) := by
  have hb {t : State} {f : Fld} (h : alarmReg (Pg.SUPV0 * 4096 + f.off)) : Alarm t (t.bump Pg.SUPV0 f) := State.bump_alarm t h
  have hf {t : State} {f g : Fld} {k : Nat} (h : alarmReg (Pg.SUPV0 * 4096 + f.off)) (h' : alarmReg (Pg.SUPV0 * 4096 + g.off)) :
      Alarm t (((t.bump Pg.SUPV0 f).flag Pg.SUPV0 g).irq Pg.SUPV0 k) := (State.irq_alarm ..).step ((State.flag_alarm _ h').step (hb h))
  unfold State.countClass
  split
  · exact hb (by decide)
  · exact hf (by decide) (by decide)
  · exact hf (by decide) (by decide)
  · exact hf (by decide) (by decide)
  · exact hb (by decide)

theorem State.faultN_alarm (s : State) {f g : Fld} (h : alarmReg (Pg.SUPV0 * 4096 + g.off)) : Alarm s (s.faultN f g) := by
  unfold State.faultN
  split
  · exact (State.setFld_alarm _ 1 h).step (State.setFld_alarm s 1 (by decide))
  · exact Alarm.refl s

/-- An entry of a class below FATAL. -/
theorem State.logMinor_alarm (s : State) {c : ErrCode} (hc : c.cls ≠ 3) (page arg0 arg1 : Nat) (line : Option (Nat × Nat)) :
    Alarm s (s.logErr c page arg0 arg1 line) := by
  unfold State.logErr
  dsimp only
  refine Alarm.step ?_ (State.countClass_alarm s c.cls)
  generalize s.countClass c.cls = x
  split
  · split <;> exact Alarm.of_eq rfl rfl
  · rw [if_neg (by tauto)]
    refine Alarm.step ?_ (State.putEntry_alarm x ⟨0, c.code, c.cls, page, x.time, line, 0, arg0, arg1⟩)
    split
    · exact State.faultN_alarm _ (by decide)
    · exact absurd ‹c.cls = 3› hc
    · exact Alarm.refl _

end Sys2Proof.Machine
end

section
/-!
PROOFS. Locks and leases as an owner counts as reset (R618, R619).
-/
namespace Sys2Proof.Machine

/-! ### Locks broken as an owner counts as reset (R618, R619) -/

/-- The registers of the locks: LOCK of any page, and SYS.LOCK_MAP. -/
def lockReg (a : Nat) : Prop := a % 4096 = Rg.HDR_LOCK ∨ ∃ i < 3, a = Pg.SYS * 4096 + Rg.SYS_LOCK_MAP i

/-- Between two states only locks, and what a fault, a flag or an interrupt may write, have changed. -/
structure Unlocks (s t : State) : Prop where
  regs : ∀ a, ¬alarmReg a → ¬lockReg a → RegSame a s t
  win : ∀ a, a ≠ 0x0C1000 → t.win a = s.win a

theorem Unlocks.refl (s : State) : Unlocks s s := ⟨fun a _ _ => RegSame.refl a s, fun _ _ => rfl⟩

theorem Alarm.unlocks {s t : State} (h : Alarm s t) : Unlocks s t := ⟨fun a ha _ => h.regs a ha, h.win⟩

theorem Unlocks.step {s t u : State} (h : Unlocks t u) (g : Unlocks s t) : Unlocks s u :=
  ⟨fun a ha hl => (h.regs a ha hl).step (g.regs a ha hl), fun a ha => (h.win a ha).trans (g.win a ha)⟩

theorem Unlocks.foldl {α : Type} {f : State → α → State} {l : List α} {s i : State} (hi : Unlocks s i) (hf : ∀ t x, Unlocks t (f t x)) :
    Unlocks s (l.foldl f i) := by
  induction l generalizing i with
  | nil => exact hi
  | cons a l ih => exact ih ((hf i a).step hi)

theorem lockReg_lock (p : Nat) : lockReg (p * 4096 + Rg.HDR_LOCK) := .inl (by show (p * 4096 + 0x018) % 4096 = 0x018; omega)

theorem not_alarmReg_lock (p : Nat) : ¬alarmReg (p * 4096 + Rg.HDR_LOCK) := by
  have h1 : (p * 4096 + Rg.HDR_LOCK) % 4096 = 0x018 := by show (p * 4096 + 0x018) % 4096 = 0x018; omega
  unfold alarmReg
  rw [h1]
  rintro (h | h | h | ⟨h, -⟩)
  · rw [h] at h1; exact absurd h1 (by decide)
  · exact absurd h (by decide)
  · exact absurd h (by decide)
  · exact absurd h (by decide)

theorem Alarm.lockHolder {s t : State} (h : Alarm s t) (p : Nat) : t.lockHolder p = s.lockHolder p := RegSame.fld (h.regs _ (not_alarmReg_lock p))

theorem pageIndex_lt {p i : Nat} (h : pageList.findIdx? (· == p) = some i) : i < 81 := by
  obtain ⟨hl, -, -⟩ := List.findIdx?_eq_some_iff_getElem.mp h
  rwa [pageList_length] at hl

theorem State.setLock_unlocks (s : State) (p c : Nat) : Unlocks s (s.setLock p c) := by
  refine ⟨fun a _ hl => ?_, fun a _ => (State.setLock_within ..).win a rfl⟩
  have hp : a ≠ p * 4096 + Rg.HDR_LOCK := fun e => hl (e ▸ lockReg_lock p)
  have h1 : RegSame a s ((s.setFld p Fd.HDR_LOCK_HOLDER c).setBit p Fd.HDR_LOCK_HELD (c != 0)) :=
    (State.setBit_same hp).step (State.setFld_same hp)
  unfold State.setLock
  dsimp only
  split
  · exact h1
  · rename_i i hi
    have := pageIndex_lt hi
    exact RegSame.step (State.setBit_same fun e => hl (.inr ⟨i / 32, by omega, e⟩)) h1

theorem State.setLock_holder_ne (s : State) {p q c : Nat} (h : q ≠ p) : (s.setLock p c).lockHolder q = s.lockHolder q := by
  have hne : q * 4096 + Rg.HDR_LOCK ≠ p * 4096 + Rg.HDR_LOCK := by omega
  have h1 : ((s.setFld p Fd.HDR_LOCK_HOLDER c).setBit p Fd.HDR_LOCK_HELD (c != 0)).lockHolder q = s.lockHolder q :=
    RegSame.fld ((State.setBit_same hne).step (State.setFld_same hne))
  unfold State.setLock
  dsimp only
  split
  · exact h1
  · rename_i i hi
    unfold State.setBit at h1 ⊢
    rw [State.lockMap_holder _ _ _ _ (pageIndex_lt hi), h1]

/-- The fault, the flag, the interrupt and the counts that a broken lock sets off. -/
theorem State.breakLock_alarm (s : State) {p : Nat} (h : s.lockHolder p ≠ 0) : Alarm ((s.discardShadow p).setLock p 0) (s.breakLock p) := by
  unfold State.breakLock
  dsimp only
  rw [if_neg h]
  refine (State.wr_alarm _ _ (by decide)).step ((State.bump_alarm _ (by decide)).step ((State.irq_alarm ..).step
    ((State.flag_alarm _ (by decide)).step (State.logMinor_alarm _ (by decide) ..))))

theorem State.breakLock_free {s : State} {p : Nat} (h : s.lockHolder p = 0) : s.breakLock p = s := by
  unfold State.breakLock
  dsimp only
  rw [if_pos h]

theorem State.discardShadow_alarm (s : State) (p : Nat) : Alarm s (s.discardShadow p) := Alarm.of_within (State.discardShadow_within ..) rfl rfl

theorem State.breakLock_unlocks (s : State) (p : Nat) : Unlocks s (s.breakLock p) := by
  by_cases h : s.lockHolder p = 0
  · rw [State.breakLock_free h]; exact Unlocks.refl s
  · exact (State.breakLock_alarm s h).unlocks.step ((State.setLock_unlocks ..).step (State.discardShadow_alarm ..).unlocks)

theorem State.breakLock_holder (s : State) (p : Nat) : (s.breakLock p).lockHolder p = 0 := by
  by_cases h : s.lockHolder p = 0
  · rw [State.breakLock_free h, h]
  · rw [(State.breakLock_alarm s h).lockHolder, State.setLock_holder _ _ _ (by decide)]

theorem State.breakLock_holder_ne (s : State) {p q : Nat} (hq : q ≠ p) : (s.breakLock p).lockHolder q = s.lockHolder q := by
  by_cases h : s.lockHolder p = 0
  · rw [State.breakLock_free h]
  · rw [(State.breakLock_alarm s h).lockHolder, State.setLock_holder_ne _ hq, (State.discardShadow_alarm ..).lockHolder]

/-! ### Leases of an owner (R497, R507, R611) -/

theorem alarmReg_paused : alarmReg (Pg.DMA * 4096 + Rg.DMA_PAUSED_STAT) := by decide

theorem alarmReg_err : alarmReg (Pg.DMA * 4096 + Rg.DMA_ERR_STAT) := by decide

theorem State.setCh_alarm (s : State) (c : Nat) (v : DmaCh) : Alarm s (s.setCh c v) := by
  unfold State.setCh
  exact (State.setFld_alarm _ _ (by decide)).step ((State.setFld_alarm _ _ alarmReg_paused).step (Alarm.of_eq rfl rfl))

theorem State.dmaIrq_alarm (s : State) : Alarm s s.dmaIrq := by
  refine Alarm.foldl (Alarm.refl s) fun t x => ?_
  split
  · exact State.setFld_alarm _ _ (alarmReg_irq _)
  · split
    · exact State.irq_alarm ..
    · exact State.setFld_alarm _ _ (alarmReg_irq _)

theorem State.dmaCredits_alarm (s : State) (c : Nat) : Alarm s (s.dmaCredits c) := Alarm.of_within (State.dmaCredits_within ..) rfl rfl

/-- A channel's bit of ERR_STAT, with its interrupt. -/
theorem State.dmaErr_alarm (s : State) (c : Nat) : Alarm s ((s.setFld Pg.DMA ⟨Rg.DMA_ERR_STAT, c, 1⟩ 1).dmaIrq) :=
  (State.dmaIrq_alarm _).step (State.setFld_alarm s 1 alarmReg_err)

theorem State.dmaSettle_alarm (s : State) (c : Nat) : Alarm s (s.dmaSettle c) := by
  unfold State.dmaSettle
  dsimp only
  split
  · exact Alarm.refl s
  · split
    · exact (State.dmaErr_alarm ..).step ((State.setCh_alarm ..).step (State.dmaCredits_alarm ..))
    · split <;> exact State.setCh_alarm ..

theorem State.dmaAbort_alarm (s : State) (c : Nat) : Alarm s (s.dmaAbort c) := by
  unfold State.dmaAbort
  dsimp only
  split
  · exact State.setCh_alarm ..
  · split
    · exact Alarm.refl s
    · exact (State.dmaSettle_alarm ..).step (State.setCh_alarm ..)

/-- A burst that fails writes to a queue only: the poisoned words of a queue destination. -/
theorem State.dmaWrite_alarm (s : State) {c : Nat} (h : (s.chSet c).dstSpace = 2) (l : List Byte) (tags : List Nat) : Alarm s (s.dmaWrite c l tags) := by
  unfold State.dmaWrite
  dsimp only
  rw [if_neg (by rw [h]; decide), if_neg (by rw [h]; decide), if_pos h]
  exact Alarm.foldl (Alarm.refl s) fun t x => (State.qPut_alarm ..).step (Alarm.of_eq rfl rfl)

theorem State.dmaFail_alarm (s : State) (c cause : Nat) : Alarm s (s.dmaFail c cause) := by
  have h : Alarm s (if (s.chSet c).dstSpace = 2 then
      (s.dmaWrite c (List.replicate (s.chSet c).bytes 0) (List.replicate (s.chSet c).words tagPoisoned)).setCh c
        { (s.dmaWrite c (List.replicate (s.chSet c).bytes 0) (List.replicate (s.chSet c).words tagPoisoned)).ch c with
          done := ((s.dmaWrite c (List.replicate (s.chSet c).bytes 0) (List.replicate (s.chSet c).words tagPoisoned)).ch c).done + 1 } else s) := by
    split
    · exact (State.setCh_alarm ..).step (State.dmaWrite_alarm s ‹_› ..)
    · exact Alarm.refl s
  unfold State.dmaFail
  exact (State.logMinor_alarm _ (by decide) ..).step ((State.bump_alarm _ (by decide)).step ((State.dmaErr_alarm ..).step
    ((State.setCh_alarm ..).step ((State.dmaCredits_alarm ..).step h))))

theorem State.revoked_alarm (s : State) (i r o : Nat) : Alarm s (s.revoked i r o) :=
  (State.wr_alarm _ _ (by decide)).step ((State.bump_alarm _ (by decide)).step ((State.irq_alarm ..).step
    (State.flag_alarm s (by decide))))

theorem State.revokeHost_alarm (s : State) (q code : Nat) : Alarm s (s.revokeHost q code) := by
  unfold State.revokeHost
  split
  · exact Alarm.refl s
  · exact (State.logMinor_alarm _ (by decide) ..).step ((State.revoked_alarm ..).step (Alarm.of_eq rfl rfl))

theorem State.revokeDma_alarm (s : State) (code c : Nat) : Alarm s (s.revokeDma code c) := by
  unfold State.revokeDma
  dsimp only
  split
  · exact (State.logMinor_alarm _ (by decide) ..).step ((State.revoked_alarm ..).step (State.dmaAbort_alarm ..))
  · exact Alarm.refl s

theorem State.dmaHostLost_alarm (s : State) : Alarm s s.dmaHostLost := by
  refine Alarm.foldl (Alarm.refl s) fun t c => ?_
  split
  · exact State.dmaFail_alarm ..
  · exact Alarm.refl t

/-- The locks of an owner broken. -/
def State.unlockAll (s : State) (code : Nat) : State := pageList.foldl (fun s p => if s.lockHolder p = code then s.breakLock p else s) s

theorem State.unlockAll_unlocks (s : State) (code : Nat) : Unlocks s (s.unlockAll code) := by
  refine Unlocks.foldl (Unlocks.refl s) fun t p => ?_
  split
  · exact State.breakLock_unlocks t p
  · exact Unlocks.refl t

theorem State.unlockAll_holder (s : State) {code : Nat} (hc : code ≠ 0) : ∀ p ∈ pageList, (s.unlockAll code).lockHolder p ≠ code := by
  refine (foldl_sets (I := fun _ : State => True) (P := fun (p : Nat) (t : State) => t.lockHolder p ≠ code)
    (f := fun (s : State) p => if s.lockHolder p = code then s.breakLock p else s) (fun _ _ _ => trivial) (fun t p _ => ?_) (fun t p q hq ht => ?_) pageList trivial).2
  · split
    · rw [State.breakLock_holder]; exact hc.symm
    · assumption
  · split
    · rw [State.breakLock_holder_ne t hq]; exact ht
    · exact ht

/-- The credits and channels of an owner revoked, behind its locks. -/
theorem State.ownerReset_alarm (s : State) (code : Nat) : Alarm (s.unlockAll code) (s.ownerReset code) :=
  Alarm.foldl (Alarm.foldl (Alarm.refl _) fun _ _ => State.revokeHost_alarm ..) fun _ _ => State.revokeDma_alarm ..

theorem State.ownerReset_unlocks (s : State) (code : Nat) : Unlocks s (s.ownerReset code) :=
  (State.ownerReset_alarm s code).unlocks.step (State.unlockAll_unlocks s code)

/-- An owner that counts as reset holds no lock (R618). -/
theorem State.ownerReset_holder (s : State) {code : Nat} (hc : code ≠ 0) : ∀ p ∈ pageList, (s.ownerReset code).lockHolder p ≠ code := fun p hp => by
  rw [(State.ownerReset_alarm s code).lockHolder]
  exact State.unlockAll_holder s hc p hp

end Sys2Proof.Machine
end

section
/-!
PROOFS. Keys and the WX8 services (R570, R574, R618).
-/
namespace Sys2Proof.Machine

/-! ### Keys (R570, R618) -/


/-- A word of a key that is not yet whole. -/
theorem State.keyData_part {s : State} {w : Word} {l : List Word} (hl : l = (if s.net.keySlot = s.fld Pg.NET Fd.NET_KEY_SEL_b0 then s.net.keyLoad else []) ++ [w])
    (h : l.length < 8) : s.keyData w = { s with net := { s.net with keySlot := s.fld Pg.NET Fd.NET_KEY_SEL_b0, keyLoad := l } } := by
  subst hl
  unfold State.keyData
  rw [if_pos h]

/-- The word that makes a key whole. -/
theorem State.keyData_whole {s : State} {w : Word} {l : List Word} (hl : l = (if s.net.keySlot = s.fld Pg.NET Fd.NET_KEY_SEL_b0 then s.net.keyLoad else []) ++ [w])
    (h : 8 ≤ l.length) : s.keyData w = State.setFld { s with net := { s.net with
      keySlot := s.fld Pg.NET Fd.NET_KEY_SEL_b0, keyLoad := [], keys := tabPut (dflt []) (s.fld Pg.NET Fd.NET_KEY_SEL_b0) (wordBytes l) s.net.keys } }
      Pg.NET ⟨Rg.NET_KEY_STAT, s.fld Pg.NET Fd.NET_KEY_SEL_b0, 1⟩ 1 := by
  subst hl
  unfold State.keyData
  rw [if_neg (by omega)]

theorem State.keyData_shows (s : State) (w : Word) : let k := s.fld Pg.NET Fd.NET_KEY_SEL_b0
    let l := (if s.net.keySlot = k then s.net.keyLoad else []) ++ [w]
    (s.keyData w).net.keySlot = k ∧
      (l.length < 8 → (s.keyData w).net.keyLoad = l ∧ (s.keyData w).net.keys = s.net.keys ∧ (s.keyData w).regs = s.regs) ∧
      (8 ≤ l.length → (s.keyData w).net.keyLoad = [] ∧ tabGet (dflt []) (s.keyData w).net.keys k = wordBytes l ∧
        (s.keyData w).fld Pg.NET ⟨Rg.NET_KEY_STAT, k, 1⟩ = 1) := by
  intro k l
  have hk : k < 8 := State.fld_lt s Pg.NET Fd.NET_KEY_SEL_b0
  refine ⟨?_, fun h => ?_, fun h => ?_⟩
  · rcases Nat.lt_or_ge l.length 8 with h | h
    · rw [State.keyData_part rfl h]
    · rw [State.keyData_whole rfl h]; rfl
  · rw [State.keyData_part rfl h]
    exact ⟨rfl, rfl, rfl⟩
  · rw [State.keyData_whole rfl h]
    exact ⟨rfl, tabGet_tabPut_same _ _ _ _, State.fld_fits (by show k + 1 ≤ 32; omega) (by show 1 < 2 ^ 1; decide)⟩

/-- A key slot emptied. -/
def State.keyEmptied (s : State) (k : Nat) : State :=
  State.setFld { s with net := { s.net with keys := tabPut (dflt []) k [] s.net.keys, keyLoad := if s.net.keySlot = k then [] else s.net.keyLoad } }
    Pg.NET ⟨Rg.NET_KEY_STAT, k, 1⟩ 0

theorem State.keySel_clear {s : State} {w : Word} (h : wf w 8 1 = 1) :
    s.keySel w = ((s.writeReg Pg.NET Rg.NET_KEY_SEL w).keyEmptied (wf w 0 3)).keySlotReset (wf w 0 3) := by
  unfold State.keySel
  dsimp only
  rw [if_neg (by rw [h]; decide)]
  rfl

theorem State.keySlotReset_unlocks (s : State) (k : Nat) : Unlocks s (s.keySlotReset k) := by
  refine Unlocks.foldl (Unlocks.refl s) fun t p => ?_
  split
  · exact State.breakLock_unlocks t p
  · exact Unlocks.refl t

theorem State.keySel_shows {s : State} {w : Word} (h : wf w 8 1 = 1) : tabGet (dflt []) (s.keySel w).net.keys (wf w 0 3) = [] ∧
    (s.keySel w).fld Pg.NET ⟨Rg.NET_KEY_STAT, wf w 0 3, 1⟩ = 0 ∧
    ∀ k, k ≠ wf w 0 3 → tabGet (dflt []) (s.keySel w).net.keys k = tabGet (dflt []) s.net.keys k := by
  have hkeys : (s.keySel w).net.keys = tabPut (dflt []) (wf w 0 3) [] s.net.keys := by
    rw [State.keySel_clear h, (State.keySlotReset_within ..).net_eq rfl]
    show tabPut (dflt []) (wf w 0 3) [] (s.writeReg Pg.NET Rg.NET_KEY_SEL w).net.keys = _
    rw [(State.writeReg_within ..).net_eq rfl]
  have hk : wf w 0 3 < 8 := Nat.mod_lt _ (by decide)
  rw [hkeys]
  refine ⟨tabGet_tabPut_same _ _ _ _, ?_, fun k hne => tabGet_tabPut_of_ne _ _ _ hne⟩
  have hun : RegSame (Pg.NET * 4096 + Rg.NET_KEY_STAT) ((s.writeReg Pg.NET Rg.NET_KEY_SEL w).keyEmptied (wf w 0 3)) (s.keySel w) := by
    rw [State.keySel_clear h]
    exact (State.keySlotReset_unlocks ..).regs _ (by decide) (by unfold lockReg; decide)
  rw [RegSame.fld hun]
  exact State.fld_fits (by show wf w 0 3 + 1 ≤ 32; omega) (by show 0 < 2 ^ 1; decide)

/-! ### The WX8 services (R574-R576) -/

theorem State.arpRequest_wx8 (s : State) (n ip : Nat) : (s.arpRequest n ip).net.wx8Seq = s.net.wx8Seq := by
  unfold State.arpRequest
  split
  · rfl
  · rfl

theorem State.countTx_same {s : State} {a n b : Nat} (h : a / 4096 ≠ Pg.ETH n) : RegSame a s (s.countTx n b) := by
  unfold State.countTx State.txBytes
  exact RegSame.step (t := (s.bump (Pg.ETH n) (whole Rg.ETH_TX_FRM)).bumpBy (Pg.ETH n) (whole Rg.ETH_TX_BYTES)
    ((tabGet (dflt 0) (s.bump (Pg.ETH n) (whole Rg.ETH_TX_FRM)).net.txRem n + b) / 4096)) (RegSame.of_regs rfl)
    ((State.bumpBy_page h (by decide)).step (State.bump_page h (by decide)))

theorem State.arpRequest_same {s : State} {a n ip : Nat} (h : a / 4096 ≠ Pg.ETH n) : RegSame a s (s.arpRequest n ip) := by
  unfold State.arpRequest
  split
  · exact (State.bump_page h (by decide)).step ((State.countTx_same h).step (RegSame.of_regs rfl))
  · exact RegSame.refl a s

theorem State.hopMac_sends (s : State) (n ip : Nat) : (s.hopMac n ip).1.net.wx8Seq = s.net.wx8Seq ∧ ∀ a, a / 4096 ≠ Pg.ETH n → RegSame a s (s.hopMac n ip).1 := by
  unfold State.hopMac
  split
  · exact ⟨rfl, fun a _ => RegSame.refl a s⟩
  · dsimp only
    split
    · exact ⟨rfl, fun a _ => RegSame.refl a s⟩
    · split
      · exact ⟨State.arpRequest_wx8 .., fun a ha => RegSame.step (RegSame.of_regs rfl) (State.arpRequest_same ha)⟩
      · exact ⟨rfl, fun a _ => RegSame.refl a s⟩

/-- A datagram of the WX16 leaves the WX8 sequences, and every register outside its port's page. -/
theorem State.udpSend_sends (s : State) (n ip sport dport : Nat) (data : List Byte) : (s.udpSend n ip sport dport data).net.wx8Seq = s.net.wx8Seq ∧
    ∀ a, a / 4096 ≠ Pg.ETH n → RegSame a s (s.udpSend n ip sport dport data) := by
  have h := State.hopMac_sends s n ip
  unfold State.udpSend
  split
  · generalize s.hopMac n ip = r at h ⊢
    obtain ⟨x, m⟩ := r
    cases m with
    | none => exact h
    | some m => exact ⟨h.1, fun a ha => (State.countTx_same ha).step (RegSame.step (RegSame.of_regs rfl) (h.2 a ha))⟩
  · exact ⟨rfl, fun a _ => RegSame.refl a s⟩

theorem State.wx8Send_shows (s : State) (service ip dport item : Nat) :
    tabGet (dflt 0) (s.wx8Send service ip dport item).net.wx8Seq service = (tabGet (dflt 0) s.net.wx8Seq service + 1) % 2 ^ 32 ∧
    RegSame (Pg.NET * 4096 + Rg.NET_WX8_CNT) s (s.wx8Send service ip dport item) := by
  have hport : Pg.NET ≠ Pg.ETH (s.fld Pg.NET Fd.NET_WX8_CTL_PORT) := by
    have : s.fld Pg.NET Fd.NET_WX8_CTL_PORT < 2 := State.fld_lt s Pg.NET Fd.NET_WX8_CTL_PORT
    show 0x62 ≠ 0x60 + _
    omega
  unfold State.wx8Send
  extract_lets q n x base
  obtain ⟨h1, h2⟩ := State.udpSend_sends x (x.fld Pg.NET Fd.NET_WX8_CTL_PORT) ip (base + service - 1) dport
    (leBytes 8 (q + 2 ^ 32 * service + 2 ^ 40) ++ leBytes 48 item)
  rw [h1]
  exact ⟨tabGet_tabPut_same _ _ _ _, (h2 _ (by rw [addr_page (by decide)]; exact hport)).step (RegSame.of_regs rfl)⟩

theorem wx8Status_idle {n ip udp : Nat} {s : State} (h : ¬(s.wx8On = true ∧ s.fld Pg.NET Fd.NET_WX8_CTL_PORT = n ∧ s.ethUp n = true)) :
    s.wx8Status n ip udp = s := by
  unfold State.wx8Status
  rw [if_neg (by simpa [and_assoc] using h)]

theorem wx8Status_shows {n ip udp : Nat} {s : State} (h : s.wx8On = true ∧ s.fld Pg.NET Fd.NET_WX8_CTL_PORT = n ∧ s.ethUp n = true) :
    (s.wx8Status n ip udp).fld Pg.NET Fd.NET_WX8_CNT_b16 = satN 16 (s.fld Pg.NET Fd.NET_WX8_CNT_b16 + 1) ∧
      tabGet (dflt 0) (s.wx8Status n ip udp).net.wx8Seq 3 = (tabGet (dflt 0) s.net.wx8Seq 3 + 1) % 2 ^ 32 ∧ (s.wx8Status n ip udp).mem = s.mem := by
  obtain ⟨item, he⟩ : ∃ item, s.wx8Status n ip udp = (s.wx8Send 3 ip udp item).bump Pg.NET Fd.NET_WX8_CNT_b16 := by
    unfold State.wx8Status
    rw [if_pos (by simpa [and_assoc] using h)]
    exact ⟨_, rfl⟩
  obtain ⟨h1, h2⟩ := State.wx8Send_shows s 3 ip udp item
  rw [he]
  refine ⟨?_, h1, ((State.bump_within ..).mem_eq rfl).trans ((State.wx8Send_within ..).mem_eq rfl)⟩
  rw [State.fld_bump _ _ _ (by decide), RegSame.fld h2]

end Sys2Proof.Machine
end

section
/-!
PROOFS. BAR2 and the host link, and the statement over them (O35).
-/
namespace Sys2Proof.Machine

/-! ### BAR2 (R76, R578) -/

/-- Two states with the same DRAM. -/
structure DramSame (s t : State) : Prop where
  mem : t.mem = s.mem
  blank : t.blank = s.blank
  trained : t.trained = s.trained

theorem State.dramPut_dram {s t : State} (h : DramSame s t) (a : Nat) (l : List Byte) : DramSame (s.dramPut a l) (t.dramPut a l) := by
  unfold State.dramPut
  rw [State.capacity_of h.trained]
  split
  · exact h
  · exact ⟨by rw [h.mem, h.blank], h.blank, h.trained⟩

theorem State.dramNat_same {s t : State} (h : DramSame s t) (a n : Nat) : t.dramNat a n = s.dramNat a n := by
  unfold State.dramNat
  rw [State.dram_of h.mem h.blank]

theorem State.dirAddr_lib {s t : State} (h : LibSame s t) (j : Nat) : t.dirAddr j = s.dirAddr j := by
  unfold State.dirAddr
  rw [h.base]

theorem State.roPlaces_lib {s t : State} (h : LibSame s t) : t.roPlaces = s.roPlaces := by
  unfold State.roPlaces
  simp only [State.dirAddr_lib h, State.jobState_lib h, State.jobSects_lib h]

theorem State.inJob_lib {s t : State} (h : LibSame s t) (j a n : Nat) : t.inJob j a n = s.inJob j a n := by
  unfold State.inJob State.jobRanges State.jobSectBase State.jobSectCount
  simp only [State.dirAddr_lib h, State.dir_lib h, State.jobSects_lib h]

/-- What a host write stores rests on the DRAM and the place of the library alone. -/
theorem State.storeHost_lib {s t : State} (h : LibSame s t) (ht : t.trained = s.trained) (a : Nat) (l : List Byte) :
    (t.storeHost a l).mem = (s.storeHost a l).mem := by
  have hd : DramSame s t := ⟨h.mem, h.blank, ht⟩
  unfold State.storeHost
  rw [State.roPlaces_lib h]
  refine (List.foldl_rel (r := DramSame) (State.dramPut_dram hd a l) fun x _ c c' hc => ?_).mem
  dsimp only
  rw [State.dramNat_same hd, State.dramNat_same hc]
  generalize decide (c.dramNat x.2.1 64 &&& x.2.2 ≠ s.dramNat x.2.1 64 &&& x.2.2) = changed
  have hp := State.dramPut_dram hc x.2.1
    (leBytes 64 (c.dramNat x.2.1 64 - (c.dramNat x.2.1 64 &&& x.2.2) + (s.dramNat x.2.1 64 &&& x.2.2)))
  cases changed with
  | false => exact hc
  | true =>
    rw [if_pos rfl, if_pos rfl]
    split <;> split <;> exact ⟨hp.mem, hp.blank, hp.trained⟩

/-- A host write within DRAM and outside every job is stored. -/
theorem State.hostWrite_free {s : State} {port a : Nat} {l : List Byte} (hl : l ≠ []) (hr : s.outOfRange a l.length = false)
    (hj : ∀ j < 64, s.inJob j a l.length = false) : s.hostWrite port a l = s.storeHost a l := by
  have hof (st : Nat) : ((List.range 64).filter fun j => decide (s.jobState j = st) && s.inJob j a l.length) = [] :=
    List.filter_eq_nil_iff.mpr fun j hm => by rw [hj j (List.mem_range.mp hm)]; simp
  unfold State.hostWrite
  rw [if_neg (by simpa using hl), if_neg (by simp [hr])]
  dsimp only
  rw [hof, hof, hof]
  rfl

theorem State.countBar2_same (s : State) {a : Nat} (h : a ≠ Pg.PCIE * 4096 + Rg.PCIE_BAR2_CNT) : RegSame a s s.countBar2 :=
  RegSame.step (t := s.bumpBy Pg.PCIE (whole Rg.PCIE_BAR2_CNT) ((s.net.bar2 + 1) / 1024)) (RegSame.of_regs rfl) (State.wr_same h)

theorem State.countBar2_lib (s : State) : LibSame s s.countBar2 := by
  refine ⟨rfl, rfl, ?_⟩
  unfold State.rd64
  rw [(s.countBar2_same (by decide)).rd, (s.countBar2_same (by decide)).rd]

theorem State.countBar2_outOfRange (s : State) (a n : Nat) : s.countBar2.outOfRange a n = s.outOfRange a n := by
  have h (off : Nat) (ho : off < 4096) : s.countBar2.rd Pg.MCG off = s.rd Pg.MCG off := by
    have hne : Pg.MCG * 4096 + off ≠ Pg.PCIE * 4096 + Rg.PCIE_BAR2_CNT := ne_of_page (by rw [addr_page ho]; decide) (by decide)
    exact (s.countBar2_same hne).rd
  exact State.outOfRange_of (s := s) (t := s.countBar2) rfl h a n

theorem bar2Write_shows {a : Nat} {data : List Byte} (s : State) : let live := s.on Pg.PCIE Fd.PCIE_STAT_LINK_UP = true ∧ s.mode ≠ .boot
    ∃ t, exec (.bar2Write a data) s = .next t ∧ (¬live → t = s) ∧
      (live → data ≠ [] → s.outOfRange a data.length = false → (∀ j, j < 64 → s.inJob j a data.length = false) →
        t.mem = (s.storeHost a data).mem) := by
  intro live
  refine ⟨_, rfl, fun h => if_neg (by simpa [live, State.hostLink] using h), fun h hd hr hj => ?_⟩
  rw [if_pos (by simpa [live, State.hostLink] using h),
    State.hostWrite_free hd ((s.countBar2_outOfRange ..).trans hr) fun j hlt => (State.inJob_lib s.countBar2_lib ..).trans (hj j hlt),
    State.storeHost_lib s.countBar2_lib rfl]

theorem State.bar2Read_good {s : State} {a n : Nat} (h : s.dramBad a n = false) :
    s.bar2Read a n = s.countBar2.emit (.completion a (s.dram a n) false) := by
  unfold State.bar2Read
  dsimp only
  rw [if_neg (by rw [State.dramBad_of (s := s) (t := s.countBar2) rfl rfl, h]; decide), State.dram_of (s := s) (t := s.countBar2) rfl rfl]

theorem State.bar2Read_bad {s : State} {a n : Nat} (h : s.dramBad a n = true) : ∃ t : State, s.bar2Read a n = t.emit (.completion a [] true) := by
  unfold State.bar2Read
  dsimp only
  rw [if_pos ((State.dramBad_of (s := s) (t := s.countBar2) rfl rfl a n).trans h)]
  exact ⟨_, rfl⟩

theorem bar2Read_shows {a n : Nat} (s : State) : let live := s.on Pg.PCIE Fd.PCIE_STAT_LINK_UP = true ∧ s.mode ≠ .boot
    ∃ t, exec (.bar2Read a n) s = .next t ∧ (¬live → t = s) ∧
      (live → s.dramBad a n = false → t.out = s.out ++ [.completion a (s.dram a n) false] ∧ t.mem = s.mem) ∧
      (live → s.dramBad a n = true → t.out.getLast? = some (.completion a [] true)) := by
  intro live
  refine ⟨_, rfl, fun h => if_neg (by simpa [live, State.hostLink] using h), fun h hb => ?_, fun h hb => ?_⟩
  · rw [if_pos (by simpa [live, State.hostLink] using h), State.bar2Read_good hb]
    exact ⟨rfl, rfl⟩
  · obtain ⟨t, ht⟩ := State.bar2Read_bad hb
    rw [if_pos (by simpa [live, State.hostLink] using h), ht, State.emit_out, List.getLast?_concat]

/-! ### The PCI Express link (R577, R581, R618) -/

theorem not_lockReg_pcie {off : Nat} (h : off < 4096) (ho : off ≠ Rg.HDR_LOCK) : ¬lockReg (Pg.PCIE * 4096 + off) := by
  rintro (h1 | ⟨i, hi, h1⟩)
  · have h2 : (0x63 * 4096 + off) % 4096 = Rg.HDR_LOCK := h1
    omega
  · have h2 : (Pg.PCIE * 4096 + off) / 4096 = (Pg.SYS * 4096 + Rg.SYS_LOCK_MAP i) / 4096 := congrArg (· / 4096) h1
    rw [addr_page h, addr_page (by show 0x0AC + 0x4 * i < 4096; omega)] at h2
    exact absurd h2 (by decide)

/-- HOST counts as reset: the endpoint's registers stay as they were put. -/
theorem State.hostReset_pcie (s : State) {off : Nat} (h : off < 4096) (ha : ¬alarmReg (Pg.PCIE * 4096 + off)) (ho : off ≠ Rg.HDR_LOCK) :
    RegSame (Pg.PCIE * 4096 + off) s (s.dmaHostLost.ownerReset 2) ∧ RegSame (Pg.PCIE * 4096 + off) s (s.ownerReset 2) := by
  have h2 (t : State) := (State.ownerReset_unlocks t 2).regs _ ha (not_lockReg_pcie h ho)
  exact ⟨(h2 _).step ((State.dmaHostLost_alarm s).regs _ ha), h2 s⟩

/-- The endpoint's registers as PERST_N leaves them. -/
def State.perstRegs (s : State) : State :=
  ((((s.bump Pg.PCIE (whole Rg.PCIE_PERST_CNT)).wr Pg.PCIE Rg.PCIE_STAT 0).wr Pg.PCIE Rg.PCIE_LINK 0).wr Pg.PCIE Rg.PCIE_AER_UNCOR 0).wr
    Pg.PCIE Rg.PCIE_AER_COR 0

/-- The endpoint's tables as PERST_N leaves them. -/
def State.perstTables (s : State) : State := { s with window := tabClear 0x0C0000 0x0C1008 s.window }

theorem State.perst_eq (s : State) : s.perst = s.perstRegs.perstTables.dmaHostLost.ownerReset 2 := by
  unfold State.perst State.perstRegs State.perstTables
  rfl

theorem State.perstTables_win (s : State) {a : Nat} (h : 0x0C0000 ≤ a) (h' : a < 0x0C1000) : s.perstTables.win a = winReset a :=
  tabGet_tabClear_in _ _ _ _ _ ⟨h, Nat.lt_of_lt_of_le h' (by decide)⟩

theorem State.perstRegs_shows (s : State) : s.perstRegs.rd Pg.PCIE Rg.PCIE_STAT = 0 ∧ s.perstRegs.rd Pg.PCIE Rg.PCIE_LINK = 0 := by
  have hw {t : State} {off off' : Nat} {w : Word} (h : off' ≠ off) : (t.wr Pg.PCIE off w).rd Pg.PCIE off' = t.rd Pg.PCIE off' :=
    State.rd_wr_of_ne _ _ _ _ _ _ (off_ne h)
  unfold State.perstRegs
  constructor
  · rw [hw (by decide), hw (by decide), hw (by decide), State.rd_wr_same]
  · rw [hw (by decide), hw (by decide), State.rd_wr_same]

theorem State.perst_shows (s : State) : s.perst.rd Pg.PCIE Rg.PCIE_STAT = 0 ∧ s.perst.rd Pg.PCIE Rg.PCIE_LINK = 0 ∧
    (∀ p ∈ pageList, s.perst.lockHolder p ≠ 2) ∧ ∀ a, 0x0C0000 ≤ a → a < 0x0C1000 → s.perst.win a = winReset a := by
  obtain ⟨h1, h2⟩ := State.perstRegs_shows s
  rw [State.perst_eq]
  refine ⟨?_, ?_, State.ownerReset_holder _ (by decide), fun a ha hb => ?_⟩
  · rw [(State.hostReset_pcie _ (by decide) (by decide) (by decide)).1.rd, State.rd_of (s := s.perstRegs) (t := s.perstRegs.perstTables) rfl, h1]
  · rw [(State.hostReset_pcie _ (by decide) (by decide) (by decide)).1.rd, State.rd_of (s := s.perstRegs) (t := s.perstRegs.perstTables) rfl, h2]
  · rw [(State.ownerReset_unlocks _ 2).win a (by omega), (State.dmaHostLost_alarm _).win a (by omega), State.perstTables_win _ ha hb]

theorem State.linkDown_shows (s : State) (bme : Bool) : ∃ t, exec (.pcieLinkDown bme) s = .next t ∧ t.on Pg.PCIE Fd.PCIE_STAT_BUS_MASTER = false ∧
    (bme = false → t.on Pg.PCIE Fd.PCIE_STAT_LINK_UP = false ∧ t.rd Pg.PCIE Rg.PCIE_LINK = 0) ∧
    (bme = true → t.on Pg.PCIE Fd.PCIE_STAT_LINK_UP = s.on Pg.PCIE Fd.PCIE_STAT_LINK_UP) ∧ ∀ p ∈ pageList, t.lockHolder p ≠ 2 := by
  have hk (t : State) {off : Nat} (h : off < 4096) (ha : ¬alarmReg (Pg.PCIE * 4096 + off)) (ho : off ≠ Rg.HDR_LOCK) := State.hostReset_pcie t h ha ho
  cases bme with
  | true =>
    refine ⟨(s.setFld Pg.PCIE Fd.PCIE_STAT_BUS_MASTER 0).ownerReset 2, rfl, ?_, fun h => absurd h (by decide), fun _ => ?_, State.ownerReset_holder _ (by decide)⟩
    · rw [RegSame.on (hk _ (by decide) (by decide) (by decide)).2]
      exact State.on_setFld _ _ _ _ (by decide)
    · rw [RegSame.on (hk _ (by decide) (by decide) (by decide)).2]
      exact State.on_setFld_p (by decide) (by decide)
  | false =>
    refine ⟨((((s.setFld Pg.PCIE Fd.PCIE_STAT_LINK_UP 0).wr Pg.PCIE Rg.PCIE_LINK 0).setFld Pg.PCIE Fd.PCIE_STAT_BUS_MASTER 0).dmaHostLost).ownerReset 2,
      rfl, ?_, fun _ => ⟨?_, ?_⟩, fun h => absurd h (by decide), State.ownerReset_holder _ (by decide)⟩
    · rw [RegSame.on (hk _ (by decide) (by decide) (by decide)).1]
      exact State.on_setFld _ _ _ _ (by decide)
    · rw [RegSame.on (hk _ (by decide) (by decide) (by decide)).1, State.on_setFld_p (by decide) (by decide), State.on_wr_p (by decide)]
      exact State.on_setFld _ _ _ _ (by decide)
    · rw [RegSame.rd (hk _ (by decide) (by decide) (by decide)).1, State.rd_setFld_of_ne _ _ _ _ _ _ (by decide), State.rd_wr_same]

theorem State.linkUp_shows (s : State) (link eq lanes : Word) : ∃ t, exec (.pcieLinkUp link eq lanes) s = .next t ∧
    t.on Pg.PCIE Fd.PCIE_STAT_LINK_UP = true ∧ t.on Pg.PCIE Fd.PCIE_STAT_BUS_MASTER = true ∧ t.rd Pg.PCIE Rg.PCIE_LINK = link &&& 0x1FFF ∧
    t.rd Pg.PCIE Rg.PCIE_EQ_STAT = eq ∧ t.rd Pg.PCIE Rg.PCIE_LANE_STAT = lanes := by
  have hw {t : State} {off off' : Nat} {w : Word} (h : off' ≠ off) : (t.wr Pg.PCIE off w).rd Pg.PCIE off' = t.rd Pg.PCIE off' :=
    State.rd_wr_of_ne _ _ _ _ _ _ (off_ne h)
  refine ⟨_, rfl, ?_, ?_, ?_, ?_, State.rd_wr_same ..⟩
  · rw [State.on_wr_p (by decide), State.on_wr_p (by decide), State.on_wr_p (by decide), State.on_setFld_p (by decide) (by decide)]
    exact State.on_setFld _ _ _ _ (by decide)
  · rw [State.on_wr_p (by decide), State.on_wr_p (by decide), State.on_wr_p (by decide)]
    exact State.on_setFld _ _ _ _ (by decide)
  · rw [hw (by decide), hw (by decide), State.rd_wr_same]
  · rw [hw (by decide), State.rd_wr_same]

/-! ### The obligation -/

/-- Settles O35, by what each of the eight commands leaves of the fields it shows. -/
theorem keysWx8Bar2AndHostLink : Obligations.KeysWx8Bar2AndHostLink := by
  refine ⟨fun o w s h => ?_, fun o w s h hc => ?_, fun n ip udp s => ?_, fun a data s => bar2Write_shows s, fun a n s => bar2Read_shows s,
    fun s => ⟨⟨s.perst, rfl, s.perst_shows⟩, s.linkDown_shows, s.linkUp_shows⟩⟩
  · have hr := State.touch_regs s o Pg.NET
    have hn := State.touch_net s o Pg.NET
    have hf : (s.touch o Pg.NET).fld Pg.NET Fd.NET_KEY_SEL_b0 = s.fld Pg.NET Fd.NET_KEY_SEL_b0 := RegSame.fld (RegSame.of_regs hr)
    obtain ⟨h1, h2, h3⟩ := (s.touch o Pg.NET).keyData_shows w
    rw [hf] at h1
    rw [hf, hn, hr] at h2
    rw [hf, hn] at h3
    exact ⟨_, congrArg Host.Outcome.next (State.guarded_granted h), h1, h2, h3⟩
  · have hn := State.touch_net s o Pg.NET
    obtain ⟨h1, h2, h3⟩ := State.keySel_shows (s := s.touch o Pg.NET) hc
    rw [hn] at h3
    exact ⟨_, congrArg Host.Outcome.next (State.guarded_granted h), h1, h2, h3⟩
  · exact ⟨_, rfl, wx8Status_idle, wx8Status_shows⟩

end Sys2Proof.Machine
end

section
/-!
PROOFS. What the resets keep and drop (R621-R623).
-/
namespace Sys2Proof.Machine

/-! ### The resets (R621-R623) -/

theorem porstAssert_shows (s : State) : ∃ t, exec .porstAssert s = .next t ∧ (∀ p off, t.rd p off = regReset (p * 4096 + off)) ∧ t.mode = .boot ∧
    t.fuse = s.fuse ∧ t.raw = 0 ∧ t.mem = [] ∧ t.trained = [] :=
  ⟨s.powerOn, rfl, fun _ _ => rfl, show State.reset.mode = .boot by decide, rfl, rfl, rfl, rfl⟩

/-- A register that a warm reset does not keep has its reset value. -/
theorem warmRegs_dropped {t : Tab Word} {a : Nat} (h : warmMask a = 0) : tabGet regReset (warmRegs t) a = regReset a := by
  unfold warmRegs
  suffices hs : ∀ (n : Tab Word), tabGet regReset n a = regReset a → tabGet regReset (t.foldl (fun (n : Tab Word) (e : Nat × Word) =>
      if e.1 < 2 ^ 24 then tabPut regReset e.1 ((e.2 &&& warmMask e.1) ||| (regReset e.1 &&& ~~~warmMask e.1)) n else n) n) a = regReset a from
    hs [] rfl
  induction t with
  | nil => exact fun n h => h
  | cons e t ih =>
    intro n hn
    refine ih _ ?_
    dsimp only
    split
    · rw [tabGet_tabPut]
      split
      · next he => subst he; rw [h]; simp only [BitVec.and_zero, BitVec.zero_or, BitVec.ofNat_eq_ofNat]; exact BitVec.and_allOnes
      · exact hn
    · exact hn

/-- The state that SRST_N takes: triggers, calendar, slots and pins stopped. -/
def State.srstStop (s : State) : State := ((List.range 4).foldl (fun (s : State) v => s.stopTriggers v) s).cancelCalendar.stopSlots.safePins

/-- The pages of the memory's training, marked in self-refresh where there is one. -/
def State.selfRefresh (t : State) (trained : Bool) : State :=
  if trained then (List.range 12).foldl (fun (t : State) c => t.setFld (Pg.MC c) Fd.MC_STAT_SELF_REFRESH 1) (t.setFld Pg.MCG Fd.MCG_STAT_SELF_REFRESH 1)
  else t

theorem State.warmReset_eq (s : State) : s.warmReset = (s.srstStop.warmKept.setFld Pg.BOOT Fd.BOOT_STAT_WARM 1).selfRefresh (!s.srstStop.trained.isEmpty) := rfl


theorem State.srstStop_within (s : State) : Within 0x800159832 s s.srstStop :=
  Within.step (State.safePins_within ..) rfl (Within.step (State.stopSlots_within ..) rfl (Within.step (State.cancelCalendar_within ..) rfl
    (Within.foldl (Within.refl _ _) fun _ _ h => Within.step (State.stopTriggers_within ..) rfl h)))

theorem State.selfRefresh_within (t : State) (b : Bool) : Within 0x2 t (t.selfRefresh b) := by
  unfold State.selfRefresh
  split
  · exact Within.foldl (State.setFld_within ..) fun _ _ h => Within.step (State.setFld_within ..) rfl h
  · exact Within.refl _ _

theorem addr_ne_of_off {p q a b : Nat} (ha : a < 4096) (hb : b < 4096) (h : a ≠ b) : p * 4096 + a ≠ q * 4096 + b := by omega

theorem addr_ne_of_page {p q a b : Nat} (ha : a < 4096) (hb : b < 4096) (h : p ≠ q) : p * 4096 + a ≠ q * 4096 + b := by omega

theorem ne_mc {p : Nat} (h : p < 0x50) (c : Nat) : p ≠ Pg.MC c := by unfold Pg.MC; omega

/-- Marking self-refresh writes STAT of the memory's pages. -/
theorem State.mcRefresh_same (t : State) {a : Nat} (h : ∀ c, a ≠ Pg.MC c * 4096 + Rg.MC_STAT) :
    RegSame a t ((List.range 12).foldl (fun (t : State) c => t.setFld (Pg.MC c) Fd.MC_STAT_SELF_REFRESH 1) t) :=
  RegSame.foldl (RegSame.refl _ _) fun _ _ hu => (State.setFld_same (h _)).step hu

theorem State.selfRefresh_same (t : State) (b : Bool) {a : Nat} (h : ∀ c, a ≠ Pg.MC c * 4096 + Rg.MC_STAT) (hg : a ≠ Pg.MCG * 4096 + Rg.MCG_STAT) :
    RegSame a t (t.selfRefresh b) := by
  unfold State.selfRefresh
  split
  · exact (State.mcRefresh_same _ h).step (State.setFld_same hg)
  · exact RegSame.refl _ _

theorem State.selfRefresh_shows (t : State) : (t.selfRefresh true).on Pg.MCG Fd.MCG_STAT_SELF_REFRESH = true := by
  unfold State.selfRefresh
  rw [if_pos rfl, RegSame.on (State.mcRefresh_same _ fun c => addr_ne_of_off (by decide) (by decide) (by decide))]
  exact State.on_setFld _ _ _ _ (by decide)

theorem State.warmReset_kept (s : State) : Within 0x2 s.srstStop.warmKept s.warmReset := by
  rw [State.warmReset_eq]
  exact Within.step (State.selfRefresh_within ..) rfl (State.setFld_within ..)

/-- A warm reset breaks every lock (R618). -/
theorem State.warmReset_locks (s : State) : ∀ p ∈ pageList, s.warmReset.lockHolder p = 0 := by
  intro p hp
  have hne : p * 4096 + Rg.HDR_LOCK ≠ Pg.BOOT * 4096 + Rg.BOOT_STAT := addr_ne_of_off (by decide) (by decide) (by decide)
  have hmc (c : Nat) : p * 4096 + Rg.HDR_LOCK ≠ Pg.MC c * 4096 + Rg.MC_STAT := addr_ne_of_off (by decide) (by decide) (by decide)
  have hmcg : p * 4096 + Rg.HDR_LOCK ≠ Pg.MCG * 4096 + Rg.MCG_STAT := addr_ne_of_off (by decide) (by decide) (by decide)
  have hm : warmMask (p * 4096 + Rg.HDR_LOCK) = 0 := by
    unfold warmMask
    rw [if_pos (by show (p * 4096 + 0x018) % 4096 = 0x018; omega)]
  have h0 : s.srstStop.warmKept.rd p Rg.HDR_LOCK = regReset (p * 4096 + Rg.HDR_LOCK) := warmRegs_dropped hm
  have hr : ∀ p ∈ pageList, wf (regReset (p * 4096 + Rg.HDR_LOCK)) Fd.HDR_LOCK_HOLDER.lo Fd.HDR_LOCK_HOLDER.len = 0 := by decide
  rw [State.warmReset_eq]
  show State.fld _ p Fd.HDR_LOCK_HOLDER = 0
  rw [RegSame.fld (State.selfRefresh_same _ _ hmc hmcg), State.fld_setFld_apart _ _ _ _ _ _ (by decide) (.inl hne)]
  unfold State.fld
  rw [h0]
  exact hr p hp

theorem State.warmReset_mode (s : State) : s.warmReset.mode = .boot := by
  have h0 : s.srstStop.warmKept.rd Pg.SYS Rg.SYS_MODE = regReset (Pg.SYS * 4096 + Rg.SYS_MODE) := warmRegs_dropped (by decide)
  have h1 : s.warmReset.fld Pg.SYS Fd.SYS_MODE_MODE = s.srstStop.warmKept.fld Pg.SYS Fd.SYS_MODE_MODE := by
    rw [State.warmReset_eq, RegSame.fld (State.selfRefresh_same _ _ (fun c => addr_ne_of_page (by decide) (by decide) (ne_mc (by decide) c)) (by decide)),
      State.fld_setFld_apart _ _ _ _ _ _ (by decide) (.inl (by decide))]
  unfold State.mode
  rw [h1]
  unfold State.fld
  rw [h0]
  decide

theorem State.warmKept_keeps (s : State) : s.warmKept.fuse = s.fuse ∧ s.warmKept.mem = s.mem ∧ s.warmKept.blank = s.blank ∧
    s.warmKept.trained = s.trained ∧ s.warmKept.raw = s.raw ∧ s.warmKept.tb.offset = s.tb.offset ∧ s.warmKept.tb.rate = s.tb.rate :=
  ⟨rfl, rfl, rfl, rfl, rfl, rfl, rfl⟩

theorem srstAssert_shows (s : State) : ∃ t, exec .srstAssert s = .next t ∧ t.mode = .boot ∧ t.on Pg.BOOT Fd.BOOT_STAT_WARM = true ∧ t.fuse = s.fuse ∧
    t.mem = s.mem ∧ t.blank = s.blank ∧ t.trained = s.trained ∧ t.raw = s.raw ∧ t.tb.offset = s.tb.offset ∧ t.tb.rate = s.tb.rate ∧
    (∀ p ∈ pageList, t.lockHolder p = 0) ∧ (s.trained ≠ [] → t.on Pg.MCG Fd.MCG_STAT_SELF_REFRESH = true) := by
  have hs := State.srstStop_within s
  have hr := State.warmReset_kept s
  obtain ⟨hf, hm, hb, ht, hw, ho, hq⟩ := s.srstStop.warmKept_keeps
  refine ⟨s.warmReset, rfl, s.warmReset_mode, ?_, ?_, ?_, ?_, ?_, ?_, ?_, ?_, s.warmReset_locks, fun ht => ?_⟩
  · rw [State.warmReset_eq, RegSame.on (State.selfRefresh_same _ _ (fun c => addr_ne_of_page (by decide) (by decide) (ne_mc (by decide) c)) (by decide))]
    exact State.on_setFld _ _ _ _ (by decide)
  · rw [hr.fuse_eq rfl, hf, hs.fuse_eq rfl]
  · rw [hr.mem_eq rfl, hm, hs.mem_eq rfl]
  · rw [hr.blank_eq rfl, hb, hs.blank_eq rfl]
  · rw [hr.trained_eq rfl, ht, hs.trained_eq rfl]
  · rw [hr.raw_eq rfl, hw, hs.raw_eq rfl]
  · rw [hr.tb_eq rfl, ho, hs.tb_eq rfl]
  · rw [hr.tb_eq rfl, hq, hs.tb_eq rfl]
  · have he : (!s.srstStop.trained.isEmpty) = true := by rw [hs.trained_eq rfl]; simpa using ht
    rw [State.warmReset_eq, he]
    exact State.selfRefresh_shows _
end Sys2Proof.Machine
end

section
/-!
PROOFS. Where a boot ends (R625-R634).
-/
namespace Sys2Proof.Machine

/-! ### Where a boot ends (R625-R634) -/

/-- BOOT.STAT.STEP. -/
abbrev State.step_ (s : State) : Nat := s.fld Pg.BOOT Fd.BOOT_STAT_STEP

theorem State.bootStep_step (s : State) {k : Nat} (h : k < 8) : (s.bootStep k).step_ = k := State.fld_fits (by decide) h

theorem State.bootFail_step (s : State) (e : ErrCode) (p : Nat) : (s.bootFail e p).step_ = 6 := State.bootStep_step _ (by decide)

theorem State.bootFail_fuse (s : State) (e : ErrCode) (p : Nat) : (s.bootFail e p).fuse = s.fuse :=
  ((State.bootStep_within ..).fuse_eq rfl).trans ((State.logErr_within ..).fuse_eq rfl)

/-- Step 5 ends in step 3, or in step 6 where the memory cannot be trained (R532). -/
theorem State.bootMemory_step (s : State) (train : Option (List MarginRead)) (track : List TrackRead) :
    (s.bootMemory train track).step_ = 3 ∨ (s.bootMemory train track).step_ = 6 := by
  unfold State.bootMemory
  split
  · unfold State.bootTrain
    split
    · exact .inr (State.bootFail_step ..)
    · split
      · exact .inr (State.bootFail_step ..)
      · exact .inl (State.bootStep_step _ (by decide))
  · exact .inl (State.bootStep_step _ (by decide))

theorem State.waitHost_shows (s : State) : s.waitHost.step_ = 5 ∧ s.waitHost.bootWait = true :=
  ⟨State.bootStep_step s (by decide), rfl⟩

/-- Step 2 of Table — Boot sequence: the fuses shown and the straps sampled. -/
def State.strapped (s : State) (b : BootIn) : State :=
  let s := s.loadFuses
  let s := s.setFld Pg.BOOT Fd.BOOT_STAT_BOOTSEL b.sel
  let s := (s.setFld Pg.PINS0 Fd.PINS0_IN_LEVEL_BOOTSEL b.sel).setFld Pg.PINS0 Fd.PINS0_IN_LEVEL_MADDR b.maddr
  (s.setFld Pg.MTWI Fd.MTWI_ADDR_b0 (0x2C + b.maddr)).setFld Pg.MTWI Fd.MTWI_ADDR_MADDR b.maddr

/-- Step 3: the fuses hold, and the SRAM is repaired as it can be. -/
def State.repaired (s : State) (b : BootIn) : State :=
  (((s.setFld Pg.FUSE Fd.FUSE_STAT_CRC_OK 1).setFld Pg.FUSE Fd.FUSE_STAT_b8 (repairUsed s.fuse)).setFld Pg.FUSE
    Fd.FUSE_STAT_b16 (satN 8 b.rows)).bootStep 1

/-- The boot source in force: BOOTSEL 3 tests, unless the test lock is blown. -/
def bootSel (fuse : Nat) (b : BootIn) : Nat := if b.sel.val = 3 ∧ tbit fuse 257 then 0 else b.sel.val

theorem State.strapped_within (s : State) (b : BootIn) : Within 0x2 s (s.strapped b) :=
  Within.step (State.setFld_within ..) rfl (Within.step (State.setFld_within ..) rfl (Within.step (State.setFld_within ..) rfl
    (Within.step (State.setFld_within ..) rfl (Within.step (State.setFld_within ..) rfl (State.loadFuses_within s)))))

theorem State.repaired_within (s : State) (b : BootIn) : Within 0x2 s (s.repaired b) :=
  Within.step (State.bootStep_within ..) rfl (Within.step (State.setFld_within ..) rfl (Within.step (State.setFld_within ..) rfl (State.setFld_within ..)))

theorem State.strapped_fuse (s : State) (b : BootIn) : (s.strapped b).fuse = s.fuse := (s.strapped_within b).fuse_eq rfl

theorem State.repaired_fuse (s : State) (b : BootIn) : ((s.strapped b).repaired b).fuse = s.fuse :=
  ((State.repaired_within ..).fuse_eq rfl).trans (s.strapped_fuse b)

theorem State.boot_eq (s : State) (b : BootIn) : s.boot b =
    if !fuseCrcOk (s.strapped b).fuse then (s.strapped b).bootFail Er.FUSE_CRC Pg.FUSE
    else if !b.repairOk then ((s.strapped b).repaired b).bootFail Er.SRAM_UNREPAIRABLE Pg.BOOT
    else if bootSel ((s.strapped b).repaired b).fuse b = 3 then ((s.strapped b).repaired b).setFld Pg.TST Fd.TST_STAT_b2 1
    else ((s.strapped b).repaired b).bootImage (bootSel ((s.strapped b).repaired b).fuse b) b := rfl

theorem State.boot_badFuses {s : State} {b : BootIn} (h : fuseCrcOk s.fuse = false) : (s.boot b).step_ = 6 ∧ (s.boot b).fuse = s.fuse := by
  rw [State.boot_eq, State.strapped_fuse, h]
  exact ⟨State.bootFail_step .., (State.bootFail_fuse ..).trans (s.strapped_fuse b)⟩

theorem State.boot_badRam {s : State} {b : BootIn} (h : fuseCrcOk s.fuse = true) (hr : b.repairOk = false) :
    (s.boot b).step_ = 6 ∧ (s.boot b).fuse = s.fuse := by
  rw [State.boot_eq, State.strapped_fuse, h, hr]
  exact ⟨State.bootFail_step .., (State.bootFail_fuse ..).trans (s.repaired_fuse b)⟩

theorem State.boot_test {s : State} {b : BootIn} (h : fuseCrcOk s.fuse = true) (hr : b.repairOk = true) (hs : bootSel s.fuse b = 3) :
    (s.boot b).step_ = 1 ∧ (s.boot b).on Pg.TST Fd.TST_STAT_b2 = true := by
  rw [State.boot_eq, State.strapped_fuse, State.repaired_fuse, h, hr, hs]
  refine ⟨?_, State.on_setFld _ _ _ _ (by decide)⟩
  exact (State.fld_setFld_apart _ _ _ _ _ _ (by decide) (.inl (by decide))).trans (State.bootStep_step _ (by decide))

theorem State.boot_source {s : State} {b : BootIn} (h : fuseCrcOk s.fuse = true) (hr : b.repairOk = true) (hs : bootSel s.fuse b ≠ 3) :
    s.boot b = ((s.strapped b).repaired b).bootImage (bootSel s.fuse b) b := by
  rw [State.boot_eq, State.strapped_fuse, State.repaired_fuse, h, hr]
  exact if_neg hs

/-! ### The image of steps 4 and 5 (R632-R635) -/

/-- The flash identified, before any slot is tried. -/
def State.flashFound (s : State) (b : BootIn) : State :=
  ((s.bootStep 2).wr Pg.QSPI Rg.QSPI_FLASH_ID (BitVec.ofNat 32 (b.jedec % 2 ^ 24))).wr Pg.QSPI Rg.QSPI_PROT_BASE 1

/-- The slots of an order tried until one is taken. -/
def trySlots (b : BootIn) (r : State × Bool) (l : List (Nat × Option Nat)) : State × Bool :=
  l.foldl (fun (r : State × Bool) (e : Nat × Option Nat) =>
    if r.2 then r else r.1.trySlot e.1 e.2 (if e.1 = 0 then b.slotA else b.slotB) b.tImage) r

theorem State.bootImage_eq (s : State) (sel : Nat) (b : BootIn) : s.bootImage sel b =
    let r := trySlots b (s.flashFound b, false) (bootOrder sel (recordGen 0 b.slotA) (recordGen 1 b.slotB))
    if r.2 then r.1.bootMemory b.train b.track else if sel = 2 then r.1.waitHost else (r.1.logErr Er.NO_IMAGE Pg.BOOT).waitHost := rfl

theorem State.bootImage_host (s : State) (b : BootIn) : s.bootImage 2 b = (s.flashFound b).waitHost := rfl

/-- No slot with a valid record: the device waits for the host. -/
theorem State.bootImage_none (s : State) {b : BootIn} (hA : recordGen 0 b.slotA = none) (hB : recordGen 1 b.slotB = none) :
    ∃ x : State, s.bootImage 0 b = x.waitHost := by
  rw [State.bootImage_eq, hA, hB]
  exact ⟨_, rfl⟩

/-- Slot A alone with a valid record and an image that passes. -/
theorem State.bootImage_slotA (s : State) {b : BootIn} {g ver len : Nat} {ok : Bool} {l : List Staged} (hA : recordGen 0 b.slotA = some g)
    (hB : recordGen 1 b.slotB = none) (hc : checkImage s.fuse b.slotA.image slotLimit = .pass ver len ok l) :
    ∃ x : State, s.bootImage 0 b = x.bootMemory b.train b.track := by
  obtain ⟨x, hx⟩ : ∃ x, (s.flashFound b).trySlot 0 (some g) b.slotA b.tImage = (x, true) := by
    unfold State.trySlot
    rw [show (s.flashFound b).fuse = s.fuse from rfl, hc]
    exact ⟨_, rfl⟩
  have ht : trySlots b (s.flashFound b, false) [(0, some g), (1, none)] = (x, true) := by
    unfold trySlots
    rw [List.foldl_cons, if_neg Bool.false_ne_true, if_pos rfl, hx]
    rfl
  rw [State.bootImage_eq, hA, hB]
  exact ⟨x, congrArg (fun r : State × Bool => if r.2 then r.1.bootMemory b.train b.track else if 0 = 2 then r.1.waitHost else
    (r.1.logErr Er.NO_IMAGE Pg.BOOT).waitHost) ht⟩

end Sys2Proof.Machine
end

section
/-!
PROOFS. Boots and host loads by their branches (R632, R635).
-/
namespace Sys2Proof.Machine

theorem bootSel_of_ne {fuse : Nat} {b : BootIn} (h : b.sel.val ≠ 3) : bootSel fuse b = b.sel.val := if_neg fun k => h k.1

theorem bootSel_test {fuse : Nat} {b : BootIn} (h : b.sel.val = 3) (ht : tbit fuse 257 = false) : bootSel fuse b = 3 :=
  (if_neg (by simp [ht])).trans h

theorem State.flashFound_within (s : State) (b : BootIn) : Within 0x2 s (s.flashFound b) :=
  Within.step (State.wr_within ..) rfl (Within.step (State.wr_within ..) rfl (State.bootStep_within ..))

section boot
variable {s : State} {b : BootIn} (hf : fuseCrcOk s.fuse = true) (hr : b.repairOk = true)
include hf hr

/-- BOOTSEL 2 waits for the host. -/
theorem State.boot_host (h : b.sel.val = 2) : (s.boot b).step_ = 5 ∧ (s.boot b).bootWait = true ∧ (s.boot b).fuse = s.fuse := by
  have hs : bootSel s.fuse b = 2 := (bootSel_of_ne (by omega)).trans h
  rw [State.boot_source hf hr (by omega), hs, State.bootImage_host]
  obtain ⟨h1, h2⟩ := State.waitHost_shows (((s.strapped b).repaired b).flashFound b)
  refine ⟨h1, h2, ?_⟩
  rw [(State.waitHost_within ..).fuse_eq rfl, (State.flashFound_within ..).fuse_eq rfl, State.repaired_fuse]

theorem State.boot_empty (h : b.sel.val = 0) (hA : recordGen 0 b.slotA = none) (hB : recordGen 1 b.slotB = none) :
    (s.boot b).step_ = 5 ∧ (s.boot b).bootWait = true := by
  have hs : bootSel s.fuse b = 0 := (bootSel_of_ne (by omega)).trans h
  obtain ⟨x, hx⟩ := State.bootImage_none ((s.strapped b).repaired b) hA hB
  rw [State.boot_source hf hr (by omega), hs, hx]
  exact x.waitHost_shows

theorem State.boot_slotA {g ver len : Nat} {ok : Bool} {l : List Staged} (h : b.sel.val = 0) (hA : recordGen 0 b.slotA = some g)
    (hB : recordGen 1 b.slotB = none) (hc : checkImage s.fuse b.slotA.image slotLimit = .pass ver len ok l) :
    (s.boot b).step_ = 3 ∨ (s.boot b).step_ = 6 := by
  have hs : bootSel s.fuse b = 0 := (bootSel_of_ne (by omega)).trans h
  obtain ⟨x, hx⟩ := State.bootImage_slotA ((s.strapped b).repaired b) hA hB (by rw [State.repaired_fuse]; exact hc)
  rw [State.boot_source hf hr (by omega), hs, hx]
  exact x.bootMemory_step ..

end boot

/-! ### A host load (R635) -/

section hostLoad
variable {s : State} {w : Word} {n : Nat} {train : Option (List MarginRead)} {track : List TrackRead}

/-- The image in the load window. -/
def State.loadImage (s : State) (w : Word) : List Byte :=
  (wordBytes ((List.range ((wf w 0 24 + 3) / 4)).map fun i => s.win (0x800000 + 4 * i))).take (wf w 0 24)

theorem State.hostLoad_idle (h : wf w 31 1 = 0 ∨ s.bootWait = false) : s.hostLoad w n train track = s.writeReg Pg.PCIE Rg.PCIE_HOST_LOAD w := by
  unfold State.hostLoad
  dsimp only
  rw [if_pos]
  rw [(State.writeReg_within ..).bootWait_eq rfl]
  simpa using h

theorem State.hostLoad_go (hg : wf w 31 1 = 1) (hb : s.bootWait = true) (hl : wf w 0 24 ≤ loadLimit) :
    (∀ c i, checkImage s.fuse (s.loadImage w) (wf w 0 24) = .reject c i →
      s.hostLoad w n train track = (s.writeReg Pg.PCIE Rg.PCIE_HOST_LOAD w).rejectImage 2 c i) ∧
    (∀ ver len ok l, checkImage s.fuse (s.loadImage w) (wf w 0 24) = .pass ver len ok l →
      ∃ x : State, s.hostLoad w n train track = x.bootMemory train track) := by
  obtain ⟨x, hx⟩ : ∃ x, x = s.writeReg Pg.PCIE Rg.PCIE_HOST_LOAD w := ⟨_, rfl⟩
  have hw : x.loadImage w = s.loadImage w := by
    unfold State.loadImage State.win
    rw [hx, (State.writeReg_within ..).window_eq rfl]
  have hf : x.fuse = s.fuse := hx ▸ (State.writeReg_within ..).fuse_eq rfl
  have hb' : x.bootWait = true := hx ▸ ((State.writeReg_within ..).bootWait_eq rfl).trans hb
  have hn : ¬(decide (wf w 31 1 = 0) || !x.bootWait) = true := by rw [hg, hb']; decide
  rw [← hw, ← hf]
  unfold State.loadImage State.hostLoad
  dsimp only
  rw [← hx, if_neg hn, if_neg (Nat.not_lt.mpr hl)]
  constructor
  · intro c i hc
    rw [hc]
  · intro ver len ok l hc
    rw [hc]
    exact ⟨_, rfl⟩

theorem State.hostLoad_rejected (hg : wf w 31 1 = 1) (hb : s.bootWait = true) (hl : wf w 0 24 ≤ loadLimit) {c i : Nat}
    (h : checkImage s.fuse (s.loadImage w) (wf w 0 24) = .reject c i) (hc : c < 256) :
    (s.hostLoad w n train track).fld Pg.BOOT Fd.BOOT_REJECT_b16 = c ∧ (s.hostLoad w n train track).bootWait = true := by
  rw [(State.hostLoad_go hg hb hl).1 c i h]
  refine ⟨?_, ((State.rejectImage_within ..).bootWait_eq rfl).trans (((State.writeReg_within ..).bootWait_eq rfl).trans hb)⟩
  unfold State.rejectImage
  dsimp only
  rw [if_neg (by decide), RegSame.fld ((State.logMinor_alarm _ (by decide) ..).regs _ (by decide))]
  exact State.fld_fits (by decide) hc

end hostLoad

theorem hostLoadGo_shows {o : Owner} {w : Word} {n : Nat} {train : Option (List MarginRead)} {track : List TrackRead} {s : State}
    (h : s.access o Pg.PCIE = .granted) :
    let img := (wordBytes ((List.range ((wf w 0 24 + 3) / 4)).map fun i => s.win (0x800000 + 4 * i))).take (wf w 0 24)
    ∃ t, exec (.hostLoadGo o w n train track) s = .next t ∧
      (wf w 31 1 = 0 ∨ s.bootWait = false → t.window = s.window ∧ regsKept [Pg.PCIE * 4096 + Rg.PCIE_HOST_LOAD] s t) ∧
      (∀ c i, wf w 31 1 = 1 → s.bootWait = true → wf w 0 24 ≤ loadLimit → checkImage s.fuse img (wf w 0 24) = .reject c i → c < 256 →
        t.fld Pg.BOOT Fd.BOOT_REJECT_b16 = c ∧ t.bootWait = true) ∧
      (∀ ver len ok l, wf w 31 1 = 1 → s.bootWait = true → wf w 0 24 ≤ loadLimit → checkImage s.fuse img (wf w 0 24) = .pass ver len ok l →
        t.fld Pg.BOOT Fd.BOOT_STAT_STEP = 3 ∨ t.fld Pg.BOOT Fd.BOOT_STAT_STEP = 6) := by
  intro img
  have hb : (s.touch o Pg.PCIE).bootWait = s.bootWait := (State.touch_within ..).bootWait_eq rfl
  have hi : (s.touch o Pg.PCIE).loadImage w = img := by
    unfold State.loadImage State.win
    rw [State.touch_window]
    rfl
  have hf := State.touch_fuse s o Pg.PCIE
  refine ⟨_, congrArg Host.Outcome.next (State.guarded_granted h), fun hi => ?_, fun c i hg hw hl hc h8 => ?_, fun ver len ok l hg hw hl hc => ?_⟩
  · rw [State.hostLoad_idle (by rw [hb]; exact hi)]
    refine ⟨((State.writeReg_within ..).window_eq rfl).trans (State.touch_window ..), fun a ha => ?_⟩
    exact State.touchWrite_same (by simpa using ha)
  · exact State.hostLoad_rejected hg (hb.trans hw) hl (by rw [hf, hi]; exact hc) h8
  · obtain ⟨x, hx⟩ := (State.hostLoad_go (n := n) (train := train) (track := track) hg (hb.trans hw) hl).2 ver len ok l (by rw [hf, hi]; exact hc)
    rw [hx]
    exact x.bootMemory_step ..

/-! ### COLD_BOOT and WARM_BOOT -/

theorem coldBoot_shows (fuses : Nat) (b : BootIn) (s : State) :
    let ready := s.mode = .boot ∧ s.fld Pg.BOOT Fd.BOOT_STAT_STEP = 0 ∧ s.fld Pg.BOOT Fd.BOOT_STAT_WARM = 0
    let fuse := s.fuse ||| fuses
    let good := ready ∧ fuseCrcOk fuse = true
    ∃ t, exec (.coldBoot fuses b) s = .next t ∧ (¬ready → t = s) ∧
      (ready → fuseCrcOk fuse = false → t.fld Pg.BOOT Fd.BOOT_STAT_STEP = 6 ∧ t.fuse = fuse) ∧
      (good → b.repairOk = false → t.fld Pg.BOOT Fd.BOOT_STAT_STEP = 6 ∧ t.fuse = fuse) ∧
      (good → b.repairOk = true → b.sel = 2 → t.fld Pg.BOOT Fd.BOOT_STAT_STEP = 5 ∧ t.bootWait = true ∧ t.fuse = fuse) ∧
      (good → b.repairOk = true → b.sel = 3 → tbit fuse 257 = false → t.fld Pg.BOOT Fd.BOOT_STAT_STEP = 1 ∧ t.on Pg.TST Fd.TST_STAT_b2 = true) ∧
      (good → b.repairOk = true → b.sel = 0 → recordGen 0 b.slotA = none → recordGen 1 b.slotB = none →
        t.fld Pg.BOOT Fd.BOOT_STAT_STEP = 5 ∧ t.bootWait = true) ∧
      (∀ g ver len ok l, good → b.repairOk = true → b.sel = 0 → recordGen 0 b.slotA = some g → recordGen 1 b.slotB = none →
        checkImage fuse b.slotA.image slotLimit = .pass ver len ok l →
        t.fld Pg.BOOT Fd.BOOT_STAT_STEP = 3 ∨ t.fld Pg.BOOT Fd.BOOT_STAT_STEP = 6) := by
  intro ready fuse good
  have hgo (h : ready) : (if s.mode = .boot ∧ s.fld Pg.BOOT Fd.BOOT_STAT_STEP = 0 ∧ s.fld Pg.BOOT Fd.BOOT_STAT_WARM = 0 then
      (s.blowFuses fuses).boot b else s) = (s.blowFuses fuses).boot b := if_pos h
  refine ⟨_, rfl, fun h => if_neg h, fun h hf => ?_, fun h hr => ?_, fun h hr hs => ?_, fun h hr hs ht => ?_, fun h hr hs hA hB => ?_,
    fun g ver len ok l h hr hs hA hB hc => ?_⟩
  · rw [hgo h]
    exact State.boot_badFuses (s := s.blowFuses fuses) hf
  · rw [hgo h.1]
    exact State.boot_badRam (s := s.blowFuses fuses) h.2 hr
  · rw [hgo h.1]
    exact State.boot_host (s := s.blowFuses fuses) h.2 hr (by rw [hs]; rfl)
  · rw [hgo h.1]
    exact State.boot_test (s := s.blowFuses fuses) h.2 hr (bootSel_test (by rw [hs]; rfl) ht)
  · rw [hgo h.1]
    exact State.boot_empty (s := s.blowFuses fuses) h.2 hr (by rw [hs]; rfl) hA hB
  · rw [hgo h.1]
    exact State.boot_slotA (s := s.blowFuses fuses) h.2 hr (by rw [hs]; rfl) hA hB hc

theorem warmBoot_shows (b : BootIn) (s : State) :
    let ready := s.mode = .boot ∧ s.fld Pg.BOOT Fd.BOOT_STAT_STEP = 0 ∧ s.fld Pg.BOOT Fd.BOOT_STAT_WARM = 1
    let good := ready ∧ fuseCrcOk s.fuse = true
    ∃ t, exec (.warmBoot b) s = .next t ∧ (¬ready → t = s) ∧
      (ready → fuseCrcOk s.fuse = false → t.fld Pg.BOOT Fd.BOOT_STAT_STEP = 6) ∧
      (good → b.repairOk = false → t.fld Pg.BOOT Fd.BOOT_STAT_STEP = 6) ∧
      (good → b.repairOk = true → b.sel = 2 → t.fld Pg.BOOT Fd.BOOT_STAT_STEP = 5 ∧ t.bootWait = true) ∧
      (∀ g ver len ok l, good → b.repairOk = true → b.sel = 0 → recordGen 0 b.slotA = some g → recordGen 1 b.slotB = none →
        checkImage s.fuse b.slotA.image slotLimit = .pass ver len ok l →
        t.fld Pg.BOOT Fd.BOOT_STAT_STEP = 3 ∨ t.fld Pg.BOOT Fd.BOOT_STAT_STEP = 6) := by
  intro ready good
  have hgo (h : ready) : (if s.mode = .boot ∧ s.fld Pg.BOOT Fd.BOOT_STAT_STEP = 0 ∧ s.fld Pg.BOOT Fd.BOOT_STAT_WARM = 1 then
      s.warmSessions.boot b else s) = s.warmSessions.boot b := if_pos h
  have hx : s.warmSessions.fuse = s.fuse := (State.warmSessions_within s).fuse_eq rfl
  have hg (h : good) : fuseCrcOk s.warmSessions.fuse = true := by rw [hx]; exact h.2
  rw [← hx]
  refine ⟨_, rfl, fun h => if_neg h, fun h hf => ?_, fun h hr => ?_, fun h hr hs => ?_, fun g ver len ok l h hr hs hA hB hc => ?_⟩
  · rw [hgo h]
    exact (State.boot_badFuses hf).1
  · rw [hgo h.1]
    exact (State.boot_badRam (hg h) hr).1
  · rw [hgo h.1]
    obtain ⟨h1, h2, -⟩ := State.boot_host (s := s.warmSessions) (hg h) hr (by rw [hs]; rfl)
    exact ⟨h1, h2⟩
  · rw [hgo h.1]
    exact State.boot_slotA (hg h) hr (by rw [hs]; rfl) hA hB hc

end Sys2Proof.Machine
end

section
/-!
PROOFS. What leaves the registers of SYS and BOOT as they are.
-/
namespace Sys2Proof.Machine

/-! ### What leaves the registers of SYS and BOOT -/

/-- Below the page of CLK, only registers that a fault, a flag or an interrupt may write have changed. -/
structure LowSame (s t : State) : Prop where
  regs : ∀ a, a < Pg.CLK * 4096 → ¬alarmReg a → RegSame a s t

theorem LowSame.refl (s : State) : LowSame s s := ⟨fun a _ _ => RegSame.refl a s⟩

theorem LowSame.step {s t u : State} (h : LowSame t u) (g : LowSame s t) : LowSame s u :=
  ⟨fun a ha hn => (h.regs a ha hn).step (g.regs a ha hn)⟩

theorem LowSame.foldl {α : Type} {f : State → α → State} {l : List α} {s i : State} (hi : LowSame s i) (hf : ∀ t x, LowSame t (f t x)) :
    LowSame s (l.foldl f i) := by
  induction l generalizing i with
  | nil => exact hi
  | cons a l ih => exact ih ((hf i a).step hi)

theorem LowSame.of_eq {s t : State} (h : t.regs = s.regs) : LowSame s t := ⟨fun _ _ _ => RegSame.of_regs h⟩

theorem LowSame.of_within {m : Nat} {s t : State} (h : Within m s t) (h1 : m / 2 ^ 1 % 2 = 0) : LowSame s t := LowSame.of_eq (h.regs_eq h1)

theorem Alarm.low {s t : State} (h : Alarm s t) : LowSame s t := ⟨fun a _ ha => h.regs a ha⟩

theorem State.wr_low (s : State) {p : Nat} (off : Nat) (w : Word) (h : Pg.CLK ≤ p) : LowSame s (s.wr p off w) :=
  ⟨fun _ ha _ => State.wr_same (Nat.ne_of_lt (Nat.lt_of_lt_of_le ha (Nat.le_trans (Nat.mul_le_mul_right 4096 h) (Nat.le_add_right _ _))))⟩

theorem State.setFld_low (s : State) {p : Nat} (f : Fld) (v : Nat) (h : Pg.CLK ≤ p) : LowSame s (s.setFld p f v) := State.wr_low s _ _ h

theorem State.bumpBy_low (s : State) {p : Nat} (f : Fld) (n : Nat) (h : Pg.CLK ≤ p) : LowSame s (s.bumpBy p f n) := State.wr_low s _ _ h

theorem clk_le_cp (n : Nat) : Pg.CLK ≤ Pg.CP n := by show 0x03 ≤ 0x10 + n; omega

/-! ### The links of the ports (R166) -/

theorem State.dropLocks_low (s : State) (p : Nat) : LowSame s (s.dropLocks p) :=
  LowSame.foldl ((State.wr_low _ _ _ (by decide)).step (State.setFld_low s _ _ (by decide))) fun t _ => State.setFld_low t _ _ (clk_le_cp _)

theorem State.disablePort_low (s : State) (p : Nat) : LowSame s (s.disablePort p) :=
  (State.setFld_low _ _ _ (clk_le_cp p)).step ((State.setFld_low _ _ _ (clk_le_cp p)).step ((State.setFld_low _ _ _ (clk_le_cp p)).step
    (State.dropLocks_low s p)))

theorem State.enterBase_low (s : State) (p : Nat) : LowSame s (s.enterBase p) := by
  unfold State.enterBase
  extract_lets l x y req z u
  have hy : LowSame s y := (State.setFld_low _ _ _ (clk_le_cp p)).step ((State.setFld_low _ _ _ (clk_le_cp p)).step (State.setFld_low s _ _ (clk_le_cp p)))
  have hu : LowSame y u := LowSame.foldl (LowSame.of_within (State.putLink_within ..) rfl) fun t _ => LowSame.of_within (State.putTrain_within ..) rfl
  clear_value u
  exact (LowSame.of_within (State.nextRequest_within ..) rfl).step ((LowSame.of_within (State.linkCmd_within ..) rfl).step (hu.step hy))

theorem State.portSync_low (s : State) (p : Nat) : LowSame s (s.portSync p) := by
  unfold State.portSync
  split
  · split
    · exact LowSame.refl s
    · exact State.disablePort_low s p
  · split
    · exact State.enterBase_low s p
    · exact LowSame.refl s

/-! ### Records sent to the sessions (R562-R564) -/

theorem State.hopMac_low (s : State) (n ip : Nat) : LowSame s (s.hopMac n ip).1 :=
  ⟨fun a ha _ => (State.hopMac_sends s n ip).2 a (by have : a < 3 * 4096 := ha; show a / 4096 ≠ 0x60 + n; omega)⟩

theorem State.qRequest_low (s : State) (q holder n : Nat) (r : Bool) : LowSame s (s.qRequest q holder n r).1 := by
  unfold State.qRequest
  split
  · exact LowSame.of_within (State.setQ_within ..) rfl
  · exact State.wr_low s _ _ (by decide)

theorem State.qPush_low (s : State) (q holder : Nat) (d : Word64) (tag : Nat) (sof eof : Bool) : LowSame s (s.qPush q holder d tag sof eof) :=
  (State.qPut_alarm ..).low.step (LowSame.of_within (State.setQ_within ..) rfl)

theorem State.pushFrame_low (s : State) (k queue : Nat) (data : List Byte) : LowSame s (s.pushFrame k queue data).1 := by
  unfold State.pushFrame
  split
  · exact LowSame.refl s
  · have hm := State.hopMac_low s (s.sePort k) (s.seIp k)
    generalize s.hopMac (s.sePort k) (s.seIp k) = r at hm ⊢
    obtain ⟨x, m⟩ := r
    cases m with
    | none => exact hm
    | some mac =>
      have hq := State.qRequest_low x queue 2 (frameWords (x.sessFrame k mac data)).length false
      dsimp only
      generalize x.qRequest queue 2 (frameWords (x.sessFrame k mac data)).length false = y at hq ⊢
      obtain ⟨y, ok⟩ := y
      cases ok with
      | false => exact hq.step hm
      | true => exact (LowSame.foldl (LowSame.of_within (State.drawn_within y) rfl) fun t _ => State.qPush_low t ..).step (hq.step hm)

theorem State.placeDgram_low (s : State) (k kind count ofs : Nat) (last : Bool) (l : List Byte) : LowSame s (s.placeDgram k kind count ofs last l).1 := by
  unfold State.placeDgram
  dsimp only
  have hp := State.pushFrame_low s k (s.sessQueue k) (leBytes 32 (wrpHeader kind k (s.sess k).seq s.time count ofs false (s.sess k).first last) ++ l)
  generalize s.pushFrame k _ _ = r at hp ⊢
  obtain ⟨x, ok⟩ := r
  cases ok with
  | false => exact hp
  | true => exact (LowSame.of_within (State.putSess_within ..) rfl).step ((LowSame.of_within (State.histPut_within ..) rfl).step hp)

theorem State.sessLose_low (s : State) (k a b : Nat) : LowSame s (s.sessLose k a b) :=
  (State.bumpBy_low _ _ _ (by decide)).step ((State.bumpBy_low _ _ _ (by decide)).step (LowSame.of_within (State.putSess_within ..) rfl))

theorem State.placeRecords_low (s : State) (k : Nat) (l : List Nat) : LowSame s (s.placeRecords k l).1 := by
  unfold State.placeRecords
  dsimp only
  have hp := State.placeDgram_low s k kRecords ((s.owedGaps k).length + l.length) 0 false (recBytes (s.owedGaps k ++ l))
  generalize s.placeDgram k _ _ _ _ _ = r at hp ⊢
  obtain ⟨x, ok⟩ := r
  cases ok with
  | false => exact (State.sessLose_low ..).step hp
  | true => exact (State.bumpBy_low _ _ _ (by decide)).step ((LowSame.of_within (State.putSess_within ..) rfl).step hp)

theorem State.closeFill_low (s : State) (k : Nat) : LowSame s (s.closeFill k) := by
  unfold State.closeFill
  extract_lets l x z y
  split
  · exact LowSame.refl s
  · have hy : LowSame s y := by
      unfold y
      split
      · exact (State.placeRecords_low ..).step (LowSame.of_within (State.putSess_within ..) rfl)
      · exact LowSame.of_within (State.putSess_within ..) rfl
    exact (State.placeRecords_low y k l).step hy

theorem State.fillRecord_low (s : State) (k bits : Nat) : LowSame s (s.fillRecord k bits) := by
  unfold State.fillRecord
  extract_lets x y z
  have hy : LowSame s y := by
    unfold y
    split
    · exact State.closeFill_low s k
    · exact LowSame.refl s
  exact (LowSame.of_within (State.putSess_within ..) rfl).step hy

theorem State.sendAll_low (s : State) (bits : Nat) : LowSame s (s.sendAll bits) := LowSame.foldl (LowSame.refl s) fun t _ => State.fillRecord_low t ..

/-- The job library after a warm reset: DRAM and the end records, none of which SYS or BOOT show (R639). -/
theorem State.warmJobs_low (s : State) : LowSame s s.warmJobs := by
  have hd (t : State) : LowSame t t.drawn.drawn := (LowSame.of_within (State.drawn_within _) rfl).step (LowSame.of_within (State.drawn_within t) rfl)
  unfold State.warmJobs
  extract_lets x a r y z
  have hx : LowSame s x := by
    refine LowSame.foldl (LowSame.refl s) fun t j => ?_
    split
    · exact LowSame.of_within (State.setJobState_within ..) rfl
    · exact LowSame.refl t
  clear_value x
  have hy : LowSame x y := (State.sendAll_low ..).step (hd x)
  clear_value y
  have hz : LowSame y z := by
    unfold z
    split
    · exact (State.sendAll_low ..).step (hd y)
    · exact LowSame.refl y
  clear_value z
  split
  · exact hx
  · exact (LowSame.of_within (State.dramPut_within ..) rfl).step (hz.step (hy.step hx))

end Sys2Proof.Machine
end

section
/-!
PROOFS. The release, and the statement over resets, boots and release (O41).
-/
namespace Sys2Proof.Machine

/-! ### The release (R633, R639) -/

/-- Step 6 up to the clocks: what shows the time taken and the locks found. -/
def State.releaseClocks (s : State) (total locks : Nat) (freqs : List Nat) : State :=
  let s := (s.bootStep 4).wr Pg.BOOT Rg.BOOT_T_TOTAL (BitVec.ofNat 32 total)
  let s := { s with bootWait := false, net := { s.net with floor := s.time, nonce := [], resp := [] } }
  let s := (s.wr Pg.CLK Rg.CLK_LOCK0 (BitVec.ofNat 32 locks)).wr Pg.CLK Rg.CLK_LOCK1 (BitVec.ofNat 32 (locks / 2 ^ 32 % 256))
  let s := ((freqs.take 40).zipIdx).foldl (fun (s : State) (e : Nat × Nat) => s.wr Pg.CLK (Rg.CLK_FREQ e.2) (BitVec.ofNat 32 e.1)) s
  s.setFld Pg.TB Fd.TB_STAT_REF_LOCK (nb locks 34 1)

/-- The ports and generators that the image enables. -/
def State.releasePorts (s : State) : State := ((List.range 16).foldl (fun (s : State) p => s.portSync p) s).tgSyncAll

theorem State.release_eq (s : State) (total locks : Nat) (freqs : List Nat) : s.release total locks freqs =
    let t := (((s.releaseClocks total locks freqs).ownerReset 1).releasePins.enter .idle).releasePorts
    if t.on Pg.BOOT Fd.BOOT_STAT_WARM then t.warmJobs else t := rfl

theorem State.releaseClocks_low (s : State) (total locks : Nat) (freqs : List Nat) :
    LowSame ((s.bootStep 4).wr Pg.BOOT Rg.BOOT_T_TOTAL (BitVec.ofNat 32 total)) (s.releaseClocks total locks freqs) := by
  unfold State.releaseClocks
  extract_lets x n y z u
  have hu : LowSame z u := LowSame.foldl (LowSame.refl z) fun t e => State.wr_low t _ _ (by decide)
  have hz : LowSame y z := (State.wr_low _ _ _ (by decide)).step (State.wr_low y _ _ (by decide))
  clear_value u z
  exact (State.setFld_low _ _ _ (by decide)).step (hu.step (hz.step (LowSame.of_eq rfl)))

theorem State.releaseClocks_shows (s : State) (total locks : Nat) (freqs : List Nat) :
    (s.releaseClocks total locks freqs).mode = s.mode ∧ (s.releaseClocks total locks freqs).step_ = 4 ∧
      (s.releaseClocks total locks freqs).rd Pg.BOOT Rg.BOOT_T_TOTAL = BitVec.ofNat 32 total := by
  have h := State.releaseClocks_low s total locks freqs
  refine ⟨?_, ?_, ?_⟩
  · unfold State.mode
    rw [RegSame.fld (h.regs _ (by decide) (by decide)), State.fld_wr_of_ne _ _ _ _ _ _ (by decide)]
    unfold State.bootStep
    rw [State.fld_setFld_apart _ _ _ _ _ _ (by decide) (.inl (by decide))]
  · show State.fld _ Pg.BOOT Fd.BOOT_STAT_STEP = 4
    rw [RegSame.fld (h.regs _ (by decide) (by decide)), State.fld_wr_p (by decide)]
    exact State.bootStep_step _ (by decide)
  · rw [RegSame.rd (h.regs _ (by decide) (by decide)), State.rd_wr_same]

theorem State.releaseClocks_commits (s : State) (total locks : Nat) (freqs : List Nat) : (s.releaseClocks total locks freqs).commits = s.commits := by
  unfold State.releaseClocks
  extract_lets x n y z u
  have hu : Within 0x2 z u := Within.foldl (Within.refl _ _) fun _ _ h => Within.step (State.wr_within ..) rfl h
  rw [State.setFld_commits, hu.commits_eq rfl]
  rfl

/-- The registers of SYS and BOOT that a lock broken does not touch, as the supervisor counts as reset and the pins are released. -/
theorem State.releaseOwner_same (s : State) {a : Nat} (h : a < Pg.CLK * 4096) (ha : ¬alarmReg a) (hl : ¬lockReg a) :
    RegSame a s (s.ownerReset 1).releasePins :=
  (LowSame.regs (t := (s.ownerReset 1).releasePins) ((State.setFld_low _ _ _ (by decide)).step (State.setFld_low (s.ownerReset 1) _ _ (by decide))) a h ha).step
    ((State.ownerReset_unlocks s 1).regs a ha hl)

theorem State.releaseOwner_commits (s : State) : (s.ownerReset 1).releasePins.commits = s.commits :=
  ((State.releasePins_within ..).commits_eq rfl).trans ((State.ownerReset_within ..).commits_eq rfl)

/-- Where no commit waits, the ports and generators leave SYS and BOOT as they are. -/
theorem State.releasePorts_same {s : State} (hc : s.commits = []) {a : Nat} (h : a < Pg.CLK * 4096) (ha : ¬alarmReg a) : RegSame a s s.releasePorts := by
  have hp : LowSame s ((List.range 16).foldl (fun (s : State) p => s.portSync p) s) := LowSame.foldl (LowSame.refl s) fun t p => State.portSync_low t p
  have hw : Within 0x40022 s ((List.range 16).foldl (fun (s : State) p => s.portSync p) s) :=
    Within.foldl (Within.refl _ _) fun _ _ k => Within.step (State.portSync_within ..) rfl k
  refine RegSame.step ?_ (hp.regs a h ha)
  refine (State.tgSyncAll_calm _ ((hw.commits_eq rfl).trans hc)).2 a ?_
  have hp : a / 4096 ≠ Pg.POS := by have : a < 3 * 4096 := h; show a / 4096 ≠ 0x20; omega
  simpa using hp

theorem State.releaseJobs_low (t : State) : LowSame t (if t.on Pg.BOOT Fd.BOOT_STAT_WARM then t.warmJobs else t) := by
  split
  · exact State.warmJobs_low t
  · exact LowSame.refl t

theorem not_lockReg_boot {off : Nat} (h : off < 4096) (ho : off ≠ Rg.HDR_LOCK) : ¬lockReg (Pg.BOOT * 4096 + off) := by
  rintro (h1 | ⟨i, hi, h1⟩)
  · have h2 : (0x02 * 4096 + off) % 4096 = Rg.HDR_LOCK := h1
    omega
  · exact addr_ne_of_page h (by show 0x0AC + 0x4 * i < 4096; omega) (by decide) h1

theorem not_lockReg_mode : ¬lockReg (Pg.SYS * 4096 + Rg.SYS_MODE) := by
  rintro (h1 | ⟨i, hi, h1⟩)
  · exact absurd h1 (by decide)
  · exact off_ne (by show 0x040 ≠ 0x0AC + 0x4 * i; omega) h1

theorem State.release_shows {s : State} (hm : s.mode = .boot) (hc : s.commits = []) (total locks : Nat) (freqs : List Nat) :
    (s.release total locks freqs).mode = .idle ∧ (s.release total locks freqs).fld Pg.SYS Fd.SYS_MODE_PREV_MODE = 0 ∧
      (s.release total locks freqs).step_ = 4 ∧ (s.release total locks freqs).rd Pg.BOOT Rg.BOOT_T_TOTAL = BitVec.ofNat 32 total := by
  obtain ⟨x, hx⟩ : ∃ x, x = s.releaseClocks total locks freqs := ⟨_, rfl⟩
  obtain ⟨h1, h2, h3⟩ := State.releaseClocks_shows s total locks freqs
  have hxc := State.releaseClocks_commits s total locks freqs
  have he := State.release_eq s total locks freqs
  rw [← hx] at h1 h2 h3 hxc he
  obtain ⟨y, hy⟩ : ∃ y, y = (x.ownerReset 1).releasePins := ⟨_, rfl⟩
  have hyc : y.commits = [] := hy ▸ (State.releaseOwner_commits x).trans (hxc.trans hc)
  have hym : y.mode = .boot := by
    rw [← hm, ← h1, hy]
    exact State.mode_of_regs (State.releaseOwner_same x (by decide) (by decide) not_lockReg_mode)
  have hlow {a : Nat} (h : a < Pg.CLK * 4096) (ha : ¬alarmReg a) : RegSame a (y.enter .idle) (s.release total locks freqs) := by
    rw [he, ← hy]
    exact ((State.releaseJobs_low _).regs a h ha).step (State.releasePorts_same ((State.enter_commits ..).trans hyc) h ha)
  have hboot {off : Nat} (h : off < 4096) (ha : ¬alarmReg (Pg.BOOT * 4096 + off)) (ho : off ≠ Rg.HDR_LOCK) :
      RegSame (Pg.BOOT * 4096 + off) x (s.release total locks freqs) := by
    have hl : Pg.BOOT * 4096 + off < Pg.CLK * 4096 := by show 0x02 * 4096 + off < 0x03 * 4096; omega
    refine (hlow hl ha).step (((State.enter_calm y .idle).reg hyc (by decide) h).step ?_)
    rw [hy]
    exact State.releaseOwner_same x hl ha (not_lockReg_boot h ho)
  refine ⟨?_, ?_, ?_, ?_⟩
  · rw [State.mode_of_regs (hlow (by decide) (by decide)), State.enter_mode]
  · rw [RegSame.fld (hlow (by decide) (by decide)), State.enter_prev, hym]
    rfl
  · rw [← h2]
    exact RegSame.fld (hboot (by decide) (by decide) (by decide))
  · rw [← h3]
    exact RegSame.rd (hboot (by decide) (by decide) (by decide))

theorem bootRelease_shows (n total locks : Nat) (freqs : List (Fin 1048576)) (s : State) :
    let ready := s.mode = .boot ∧ s.fld Pg.BOOT Fd.BOOT_STAT_STEP = 3
    ∃ t, exec (.bootRelease n total locks freqs) s = .next t ∧ (¬ready → t = s) ∧
      (ready → s.commits = [] → t.mode = .idle ∧ t.fld Pg.SYS Fd.SYS_MODE_PREV_MODE = 0 ∧ t.fld Pg.BOOT Fd.BOOT_STAT_STEP = 4 ∧
        t.rd Pg.BOOT Rg.BOOT_T_TOTAL = BitVec.ofNat 32 total) := by
  intro ready
  have hgo (h : ready) : (if s.mode = .boot ∧ s.fld Pg.BOOT Fd.BOOT_STAT_STEP = 3 then (s.atNs n).release total locks (freqs.map (·.val)) else s) =
      (s.atNs n).release total locks (freqs.map (·.val)) := if_pos h
  refine ⟨_, rfl, fun h => if_neg h, fun h hc => ?_⟩
  rw [hgo h]
  exact State.release_shows (s := s.atNs n) h.1 hc ..

/-- Settles O41, by what each of the six commands leaves. -/
theorem resetsBootAndRelease : Obligations.ResetsBootAndRelease :=
  ⟨porstAssert_shows, srstAssert_shows, coldBoot_shows, warmBoot_shows, fun _ _ _ _ _ _ h => hostLoadGo_shows h, bootRelease_shows⟩

end Sys2Proof.Machine
end

section
/-!
PROOFS. Counts of a position channel (O1, O2): which step becomes a count (R99, R100, R103), the position counter (R105), and what a count
leaves where no generator counts from the channel and no actuation waits.
-/
namespace Sys2Proof.Machine

theorem regsKept_two {s t : State} {a b : Nat} (h : ∀ c, c ≠ a → c ≠ b → RegSame c s t) : regsKept [a, b] s t := fun c hc =>
  h c (fun e => hc (e ▸ List.mem_cons_self)) fun e => hc (e ▸ List.mem_cons_of_mem _ List.mem_cons_self)

/-! ### An illegal transition (R100, R104) -/

theorem State.illegal_chan (s : State) (ch sample : Nat) : (s.illegal ch sample).chan = s.chan := (State.posEvent_within ..).chan_eq rfl

/-- ILLEGAL is set and ILLEGAL_CNT counts. -/
theorem State.illegal_flags (s : State) (ch sample : Nat) :
    (s.illegal ch sample).on Pg.POS (Fd.POS_CH_STAT_ILLEGAL ch) = true ∧
      (s.illegal ch sample).fld Pg.POS (Fd.POS_CH_ERR_CNT_ILLEGAL_CNT ch) = satN 16 (s.fld Pg.POS (Fd.POS_CH_ERR_CNT_ILLEGAL_CNT ch) + 1) := by
  unfold State.illegal
  constructor
  · rw [State.posEvent_on, State.on_bump_p (by simp) (.inl (by simp)), State.on_one (by simp) (by simp)]
  · rw [State.posEvent_fld, State.fld_bump _ _ _ (by simp), State.fld_setFld_p (by simp) (.inl (by simp))]

theorem State.illegal_same {s : State} {a ch sample : Nat} (h1 : a ≠ Pg.POS * 4096 + Rg.POS_CH_STAT ch)
    (h2 : a ≠ Pg.POS * 4096 + Rg.POS_CH_ERR_CNT ch) : RegSame a s (s.illegal ch sample) :=
  (RegSame.of_regs (State.posEvent_regs ..)).step ((State.bump_same h2).step (State.setFld_same h1))

theorem State.illegal_raised {s : State} (h : s.mode ≠ .boot) (ch sample : Nat) :
    (s.illegal ch sample).raised = s.raised ++ [(evPos ch 7, { time := s.timeAt (rawOfCycle sample) / 65536 })] := by
  refine State.posEvent_raised _ _ _ _ ?_
  unfold State.bump State.bumpBy
  rwa [State.mode_setFld_page _ _ _ _ (by decide), State.mode_setFld_page _ _ _ _ (by decide)]

/-! ### Which step becomes a count (R99, R100, R103) -/

/-- In quadrature and pulse mode a step counts in its direction, swapped by INVERT_DIR. -/
theorem State.encStep_step {s : State} {ch : Nat} (h : s.fld Pg.POS (Fd.POS_CH_CTL_MODE ch) = 1 ∨ s.fld Pg.POS (Fd.POS_CH_CTL_MODE ch) = 2)
    (sample : Nat) (rev : Bool) : s.encStep ch sample (if rev then .rev else .fwd) =
      (s.atCycle sample).count ch sample (rev != s.on Pg.POS (Fd.POS_CH_CTL_INVERT_DIR ch)) := by
  unfold State.encStep
  dsimp only
  rw [State.atCycle_fld, State.atCycle_on]
  rcases h with h | h
  · rw [h]
    cases rev <;> simp
  · rw [h]
    cases rev <;> simp

/-- In SSI mode the oldest replayed count is taken. -/
theorem State.encStep_replay {s : State} {ch at_ : Nat} {rev : Bool} {rest : List (Nat × Bool)} (h : s.fld Pg.POS (Fd.POS_CH_CTL_MODE ch) = 3)
    (hr : (s.chanOf ch).replay = (at_, rev) :: rest) (sample : Nat) (step : EncStep) : s.encStep ch sample step =
      ((s.atCycle sample).setChan ch { s.chanOf ch with replay := rest }).count ch at_ rev := by
  unfold State.encStep
  simp only [State.atCycle_fld, State.atCycle_chanOf, h, hr]

theorem State.encStep_illegal {s : State} {ch : Nat} (h : s.fld Pg.POS (Fd.POS_CH_CTL_MODE ch) = 1) (sample : Nat) :
    s.encStep ch sample .illegal = (s.atCycle sample).illegal ch sample := by
  unfold State.encStep
  simp only [State.atCycle_fld, h, if_true]

/-! ### ENC_COUNT -/

/-- Outside BOOT, with POS enabled, the input step is taken, and a count arms actuations behind it. -/
theorem encCount_runs {s : State} (hm : s.mode ≠ .boot) (he : s.on Pg.POS Fd.HDR_PAGE_CTL_EN = true) (ch : Fin 2) (step : EncStep) (sample : Nat) :
    exec (.encCount ch step sample) s = .next (if ((s.encStep ch sample step).chanOf ch).travel = (s.chanOf ch).travel then s.encStep ch sample step
      else (s.encStep ch sample step).armAll ch) := by
  refine congrArg Host.Outcome.next (if_neg ?_)
  rw [he]
  simpa using hm

/-- The travel and the latest sample are those that the count gave. -/
theorem encCount_track {s : State} {ch : Fin 2} {step : EncStep} {sample : Nat} {travel : Int} {now : Nat} (hm : s.mode ≠ .boot)
    (he : s.on Pg.POS Fd.HDR_PAGE_CTL_EN = true) (h : (s.encStep ch sample step).track ch = (travel, now)) :
    ∃ t, exec (.encCount ch step sample) s = .next t ∧ (t.chanOf ch).now = now ∧ (t.chanOf ch).travel = travel := by
  refine ⟨_, encCount_runs hm he ch step sample, ?_⟩
  have harm : ((s.encStep ch sample step).armAll ch).track ch = (travel, now) :=
    (State.track_of ch ((State.armAll_within ..).chan_eq rfl)).trans h
  split
  · exact ⟨congrArg Prod.snd h, congrArg Prod.fst h⟩
  · exact ⟨congrArg Prod.snd harm, congrArg Prod.fst harm⟩

theorem encCount_illegal {s : State} {ch : Fin 2} (hm : s.mode ≠ .boot) (he : s.on Pg.POS Fd.HDR_PAGE_CTL_EN = true)
    (h : s.fld Pg.POS (Fd.POS_CH_CTL_MODE ch) = 1) (sample : Nat) :
    exec (.encCount ch .illegal sample) s = .next ((s.atCycle sample).illegal ch sample) := by
  rw [encCount_runs hm he, State.encStep_illegal h, if_pos]
  rw [State.chanOf_of (State.illegal_chan ..), State.atCycle_chanOf]

/-- Settles O1: each mode's step is one count, whose travel `State.count_travel` gives, or an illegal transition. -/
theorem encoderCountMovesTravelByOne : Obligations.EncoderCountMovesTravelByOne := by
  refine fun ch sample s hm he => ⟨fun rev h => ?_, fun step at_ rev rest h hr => ?_, fun h => ⟨_, encCount_illegal hm he h sample, ?_⟩⟩
  · refine encCount_track hm he ?_
    rw [State.encStep_step h, State.count_travel, State.atCycle_chanOf]
  · refine encCount_track hm he ?_
    rw [State.encStep_replay h hr, State.count_travel, State.chanOf_setChan]
  · obtain ⟨hflag, hcnt⟩ := (s.atCycle sample).illegal_flags ch sample
    refine ⟨?_, RegSame.rd (State.illegal_same (by simp) (by simp)), hflag, hcnt, State.illegal_raised (s := s.atCycle sample) hm ch sample,
      regsKept_two fun a h1 h2 => State.illegal_same (s := s.atCycle sample) h1 h2⟩
    rw [State.chanOf_of (State.illegal_chan ..), State.atCycle_chanOf]

/-! ### The position counter (R105) -/

/-- What a count makes of COUNT: the whole numbers below CPR in a ring. -/
theorem State.countPos_count {s : State} {ch : Nat} (h : (s.rd Pg.POS (Rg.POS_CH_COUNT ch)).toNat < (s.rd Pg.POS (Rg.POS_CH_CPR ch)).toNat)
    (rev : Bool) :
    ((s.countPos ch rev).1.rd Pg.POS (Rg.POS_CH_COUNT ch)).toNat =
      (if rev then (if (s.rd Pg.POS (Rg.POS_CH_COUNT ch)).toNat = 0 then (s.rd Pg.POS (Rg.POS_CH_CPR ch)).toNat - 1
          else (s.rd Pg.POS (Rg.POS_CH_COUNT ch)).toNat - 1)
        else if (s.rd Pg.POS (Rg.POS_CH_COUNT ch)).toNat = (s.rd Pg.POS (Rg.POS_CH_CPR ch)).toNat - 1 then 0
        else (s.rd Pg.POS (Rg.POS_CH_COUNT ch)).toNat + 1) := by
  have hlt := (s.rd Pg.POS (Rg.POS_CH_CPR ch)).isLt
  unfold State.countPos
  dsimp only
  generalize (s.rd Pg.POS (Rg.POS_CH_COUNT ch)).toNat = c at h ⊢
  generalize (s.rd Pg.POS (Rg.POS_CH_CPR ch)).toNat = cpr at h hlt ⊢
  cases rev with
  | true =>
    rw [if_pos rfl, if_pos rfl, State.rd_wr_same, BitVec.toNat_ofNat]
    split <;> exact Nat.mod_eq_of_lt (by omega)
  | false =>
    rw [if_neg Bool.false_ne_true, if_neg Bool.false_ne_true]
    by_cases hw : cpr ≤ c + 1
    · rw [if_pos hw, if_pos (by omega), State.rd_wr_same]
      rfl
    · rw [if_neg hw, if_neg (by omega), State.rd_wr_same, BitVec.toNat_ofNat]
      exact Nat.mod_eq_of_lt (by omega)

/-- A forward count at CPR - 1 wraps, and no other does. -/
theorem State.countPos_wraps {s : State} {ch : Nat} (h : (s.rd Pg.POS (Rg.POS_CH_COUNT ch)).toNat < (s.rd Pg.POS (Rg.POS_CH_CPR ch)).toNat)
    (rev : Bool) : (s.countPos ch rev).2 = true ↔
      rev = false ∧ (s.rd Pg.POS (Rg.POS_CH_COUNT ch)).toNat = (s.rd Pg.POS (Rg.POS_CH_CPR ch)).toNat - 1 := by
  unfold State.countPos
  dsimp only
  generalize (s.rd Pg.POS (Rg.POS_CH_COUNT ch)).toNat = c at h ⊢
  generalize (s.rd Pg.POS (Rg.POS_CH_CPR ch)).toNat = cpr at h ⊢
  cases rev with
  | true => simp
  | false =>
    rw [if_neg Bool.false_ne_true]
    split
    · exact ⟨fun _ => ⟨rfl, by omega⟩, fun _ => rfl⟩
    · exact ⟨fun e => absurd e Bool.false_ne_true, fun e => by omega⟩

/-! ### What a count changes besides the counter (R109-R113) -/

/-- From `s` to `t` events may be raised, but no WRAP of channel `ch`, and of the registers only the channel's STAT and SPEED may change. -/
structure CountKeeps (ch : Nat) (s t : State) : Prop where
  raised : ∃ l, t.raised = s.raised ++ l ∧ ∀ st, (evPos ch 0, st) ∉ l
  regs : ∀ a, a ≠ Pg.POS * 4096 + Rg.POS_CH_STAT ch → a ≠ Pg.POS * 4096 + Rg.POS_CH_SPEED ch → RegSame a s t

theorem CountKeeps.refl (ch : Nat) (s : State) : CountKeeps ch s s :=
  ⟨⟨[], (List.append_nil _).symm, fun _ => List.not_mem_nil⟩, fun _ _ _ => RegSame.refl ..⟩

section
variable {ch : Nat} {s t : State} (h : CountKeeps ch s t)
include h

theorem CountKeeps.stat {f : Fld} (v : Nat) (hf : f.off = Rg.POS_CH_STAT ch) : CountKeeps ch s (t.setFld Pg.POS f v) :=
  ⟨h.raised, fun a h1 h2 => (State.setFld_same (hf ▸ h1)).step (h.regs a h1 h2)⟩

theorem CountKeeps.speed (w : Word) : CountKeeps ch s (t.wr Pg.POS (Rg.POS_CH_SPEED ch) w) :=
  ⟨h.raised, fun a h1 h2 => (State.wr_same h2).step (h.regs a h1 h2)⟩

theorem CountKeeps.chan (x : Chan) : CountKeeps ch s (t.setChan ch x) := ⟨h.raised, h.regs⟩

theorem CountKeeps.event {k : Nat} (hk : k ≠ 0) (sample : Nat) : CountKeeps ch s (t.posEvent ch k sample) := by
  obtain ⟨l, hl, hn⟩ := h.raised
  refine ⟨?_, fun a h1 h2 => (RegSame.of_regs (State.posEvent_regs ..)).step (h.regs a h1 h2)⟩
  unfold State.posEvent State.raise
  split
  · exact ⟨l, hl, hn⟩
  · refine ⟨l ++ [(evPos ch k, { time := t.timeAt (rawOfCycle sample) / 65536 })], by rw [hl, List.append_assoc], fun st hst => ?_⟩
    rcases List.mem_append.mp hst with hst | hst
    · exact hn st hst
    · have : 32 + 16 * ch + 0 = 32 + 16 * ch + k := congrArg Prod.fst (List.mem_singleton.mp hst)
      omega

/-- The change of direction that a count may bring. -/
theorem CountKeeps.turn (b rev : Bool) (sample : Nat) :
    CountKeeps ch s (if b then (t.setBit Pg.POS (Fd.POS_CH_STAT_DIR ch) rev).posEvent ch 5 sample else t) := by
  split
  · exact (h.stat (f := Fd.POS_CH_STAT_DIR ch) _ rfl).event (by decide) sample
  · exact h

end

/-- The speed, the direction and the state flags, in each state of the channel. -/
theorem State.speedCount_keeps (s : State) (ch sample : Nat) (rev : Bool) : CountKeeps ch s (s.speedCount ch sample rev) := by
  have h := CountKeeps.refl ch s
  unfold State.speedCount
  dsimp only
  split
  next => exact ((((h.stat _ rfl).stat _ rfl).chan _).event (by decide) sample).turn _ rev sample
  next =>
    split
    next t d _ =>
      split
      next => exact (((h.chan _).speed _).stat _ rfl).stat _ rfl
      next => exact ((((h.chan _).turn _ rev sample).speed _).stat _ rfl).stat _ rfl
    next => exact (h.chan _).turn _ rev sample

/-! ### A count of a channel that no generator counts from (R105) -/

/-- A count up to the generators: the counter, the speed and the travel. -/
def State.counted (s : State) (ch sample : Nat) (rev : Bool) : State :=
  let wrap := (s.countPos ch rev).2
  let t := (s.countPos ch rev).1.speedCount ch sample rev
  t.setChan ch { t.chanOf ch with
    travel := (t.chanOf ch).travel + (if rev then -1 else 1), now := sample,
    wrapped := (t.chanOf ch).wrapped || wrap, wrapAt := if wrap then some sample else (t.chanOf ch).wrapAt }

/-- A count: its own part, the generators, and the wrap for those that run. -/
theorem State.count_eq (s : State) (ch sample : Nat) (rev : Bool) : s.count ch sample rev =
    let t := ((s.counted ch sample rev).tgsOf ch).foldl (fun s v => s.tgCount v sample rev (s.chanOf ch).travel) (s.counted ch sample rev)
    let w := (t.setFld Pg.POS (Fd.POS_CH_STAT_WRAPPED ch) 1).posEvent ch 0 sample
    if (s.countPos ch rev).2 then (w.tgsOf ch).foldl (fun s v => s.wrapFor v) w else t := rfl

theorem State.tgsOf_of {s t : State} (h : ∀ v < 4, RegSame (Pg.POS * 4096 + Rg.POS_TG_CTL v) s t) (ch : Nat) : t.tgsOf ch = s.tgsOf ch := by
  unfold State.tgsOf
  refine List.filter_congr fun v hv => ?_
  rw [RegSame.fld (f := Fd.POS_TG_CTL_SRC v) (h v (List.mem_range.mp hv))]

theorem State.counted_within (s : State) (ch sample : Nat) (rev : Bool) : Within 0xc002 s (s.counted ch sample rev) :=
  Within.step (State.setChan_within ..) rfl (Within.step (State.speedCount_within ..) rfl ((State.countPos_within s ch rev).mono rfl))

/-- Outside the channel's counter, STAT and SPEED no register changes. -/
theorem State.counted_same {s : State} {a ch sample : Nat} {rev : Bool} (h : a ≠ Pg.POS * 4096 + Rg.POS_CH_COUNT ch)
    (h1 : a ≠ Pg.POS * 4096 + Rg.POS_CH_STAT ch) (h2 : a ≠ Pg.POS * 4096 + Rg.POS_CH_SPEED ch) : RegSame a s (s.counted ch sample rev) := by
  refine RegSame.step (RegSame.step (RegSame.of_regs rfl) ((State.speedCount_keeps ..).regs a h1 h2)) ?_
  unfold State.countPos
  dsimp only
  split
  · exact State.wr_same h
  · split <;> exact State.wr_same h

theorem State.counted_count (s : State) (ch sample : Nat) (rev : Bool) :
    (s.counted ch sample rev).rd Pg.POS (Rg.POS_CH_COUNT ch) = (s.countPos ch rev).1.rd Pg.POS (Rg.POS_CH_COUNT ch) :=
  RegSame.rd (RegSame.step (RegSame.of_regs rfl) ((State.speedCount_keeps ..).regs _ (by simp) (by simp)))

theorem State.counted_raised (s : State) (ch sample : Nat) (rev : Bool) :
    ∃ l, (s.counted ch sample rev).raised = s.raised ++ l ∧ ∀ st, (evPos ch 0, st) ∉ l := by
  rw [← (State.countPos_within s ch rev).raised_eq rfl]
  exact (State.speedCount_keeps ..).raised

theorem State.counted_mode (s : State) (ch sample : Nat) (rev : Bool) : (s.counted ch sample rev).mode = s.mode := by
  have h (off : Nat) : Pg.SYS * 4096 + Rg.SYS_MODE ≠ Pg.POS * 4096 + off := by
    have : Pg.SYS * 4096 + Rg.SYS_MODE < Pg.POS * 4096 := by decide
    omega
  exact State.mode_of_regs (State.counted_same (h _) (h _) (h _))

/-- Without a generator a count ends there, with WRAP where the counter wrapped. -/
theorem State.count_alone {s : State} {ch : Nat} (hc : ch < 2) (h : s.tgsOf ch = []) (sample : Nat) (rev : Bool) : s.count ch sample rev =
    if (s.countPos ch rev).2 then ((s.counted ch sample rev).setFld Pg.POS (Fd.POS_CH_STAT_WRAPPED ch) 1).posEvent ch 0 sample
    else s.counted ch sample rev := by
  have hoff {v b : Nat} (hb : b < 0x80) : Pg.POS * 4096 + Rg.POS_TG_CTL v ≠ Pg.POS * 4096 + b :=
    off_ne (by show 0x080 + 0x10 * v ≠ b; omega)
  have hstat : 0x058 + 0x20 * ch < 0x80 := by omega
  have hsame (v : Nat) : RegSame (Pg.POS * 4096 + Rg.POS_TG_CTL v) s (s.counted ch sample rev) :=
    State.counted_same (hoff (by show 0x050 + 0x20 * ch < 0x80; omega)) (hoff hstat) (hoff (by show 0x054 + 0x20 * ch < 0x80; omega))
  have hcounted : (s.counted ch sample rev).tgsOf ch = [] := (State.tgsOf_of (fun v _ => hsame v) ch).trans h
  have hwrapped : (((s.counted ch sample rev).setFld Pg.POS (Fd.POS_CH_STAT_WRAPPED ch) 1).posEvent ch 0 sample).tgsOf ch = [] :=
    (State.tgsOf_of (fun v _ => (RegSame.of_regs (State.posEvent_regs ..)).step (State.setFld_same (hoff hstat))) ch).trans hcounted
  rw [State.count_eq]
  dsimp only
  rw [hcounted, List.foldl_nil, hwrapped, List.foldl_nil]

/-- Where no actuation waits, a count arms none. -/
theorem State.armAll_none {s : State} (h : s.acts = []) (ch : Nat) : s.armAll ch = s := by
  unfold State.armAll
  dsimp only
  split
  · rfl
  · rw [h]
    rfl

/-- The state in which ENC_COUNT ends, where it only counts. -/
theorem encCount_alone {s : State} {ch : Fin 2} {step : EncStep} {sample : Nat} {rev : Bool} (hm : s.mode ≠ .boot)
    (he : s.on Pg.POS Fd.HDR_PAGE_CTL_EN = true) (ht : s.tgsOf ch = []) (ha : s.acts = [])
    (h : s.encStep ch sample step = (s.atCycle sample).count ch sample rev) :
    exec (.encCount ch step sample) s = .next (if ((s.atCycle sample).countPos ch rev).2
      then (((s.atCycle sample).counted ch sample rev).setFld Pg.POS (Fd.POS_CH_STAT_WRAPPED ch) 1).posEvent ch 0 sample
      else (s.atCycle sample).counted ch sample rev) := by
  have hacts : ((s.atCycle sample).count ch sample rev).acts = [] := by
    rw [State.count_alone (s := s.atCycle sample) ch.isLt ht]
    split
    · exact (State.posEvent_acts ..).trans (((s.atCycle sample).counted_within ch sample rev).acts_eq rfl |>.trans ha)
    · exact ((s.atCycle sample).counted_within ch sample rev).acts_eq rfl |>.trans ha
  rw [encCount_runs hm he, h, State.armAll_none hacts, ite_self, State.count_alone (s := s.atCycle sample) ch.isLt ht]

/-- Settles O2: the counter by R105, and the speed and the state flags of the count raise no WRAP of their own. -/
theorem positionCounterWrapsAtCpr : Obligations.PositionCounterWrapsAtCpr := by
  intro ch sample rev s hm he hmode hinv ht ha _ hlt
  have hstep := State.encStep_step hmode sample rev
  rw [hinv, Bool.bne_false] at hstep
  have hwraps := State.countPos_wraps (s := s.atCycle sample) hlt rev
  have hcount := State.countPos_count (s := s.atCycle sample) hlt rev
  rw [← State.counted_count _ _ sample] at hcount
  obtain ⟨l, hl, hother⟩ := (s.atCycle sample).counted_raised ch sample rev
  refine ⟨_, encCount_alone hm he ht ha hstep, ?_⟩
  split
  next hw =>
    refine ⟨?_, l ++ [(evPos ch 0, { time := s.timeAt (rawOfCycle sample) / 65536 })], ?_, fun _ => hwraps.mp hw,
      fun _ => List.mem_append_right _ (List.mem_singleton_self _)⟩
    · rw [State.posEvent_rd, State.rd_setFld_of_ne _ _ _ _ _ _ (by simp)]
      exact hcount
    · rw [State.posEvent_raised, State.setFld_raised, hl, List.append_assoc, State.timeAt_setFld,
        State.timeAt_of (((s.atCycle sample).counted_within ch sample rev).tb_eq rfl)]
      · rfl
      · rwa [State.mode_setFld_page _ _ _ _ (by decide), State.counted_mode]
  next hw => exact ⟨hcount, l, hl, fun h => absurd h (hother _), fun h => absurd (hwraps.mpr h) hw⟩

end Sys2Proof.Machine
end

section
/-!
PROOFS. SSI reads, index edges, standstill and the read of TGv_LINE_LO (O3).
-/
namespace Sys2Proof.Machine

/-! ### SSI reads (R101, R103, R104) -/

/-- The reading that an SSI value gives, by BITS and GRAY (R101). -/
def State.ssiValue (s : State) (ch : Nat) (value : Word) : Nat :=
  let bits := s.fld Pg.POS (Fd.POS_CH_SSI_CTL_BITS ch)
  if s.on Pg.POS (Fd.POS_CH_SSI_CTL_GRAY ch) then grayToBin bits (value.toNat % 2 ^ bits) else value.toNat % 2 ^ bits

/-- The increment between two readings: their difference modulo 2^bits nearest to zero, a half taken forward (R103). -/
def ssiIncrement (bits new old : Nat) : Int :=
  let m := (new + 2 ^ bits - old) % 2 ^ bits
  if m ≤ 2 ^ (bits - 1) then m else (m : Int) - (2 ^ bits : Nat)

/-- It is the only one in its range. -/
theorem ssiIncrement_unique {bits new old : Nat} {d : Int} (hb : bits ≠ 0) (hd : (2 ^ bits : Int) ∣ (new - old - d))
    (hlo : -(2 ^ (bits - 1) : Int) < d) (hhi : d ≤ 2 ^ (bits - 1)) (hnew : new < 2 ^ bits) (hold : old < 2 ^ bits) :
    ssiIncrement bits new old = d := by
  obtain ⟨k, rfl⟩ := Nat.exists_eq_succ_of_ne_zero hb
  have hint : (2 ^ (k + 1) : Int) = 2 * ((2 ^ k : Nat) : Int) := by push_cast; ring
  have hnat : 2 ^ (k + 1) = 2 * 2 ^ k := by ring
  have hk : (2 ^ k : Int) = ((2 ^ k : Nat) : Int) := by push_cast; rfl
  unfold ssiIncrement
  simp only [Nat.succ_eq_add_one, Nat.add_sub_cancel, hint, hnat, hk] at *
  generalize 2 ^ k = h at *
  obtain ⟨q, hq⟩ := hd
  -- Two readings lie less than one turn of 2 * h apart, so that `d` differs from their difference by at most one turn.
  have hq1 : q < 2 := by nlinarith
  have hq2 : -2 < q := by nlinarith
  have hm : (new + 2 * h - old) % (2 * h) = if old ≤ new then new - old else new + 2 * h - old := by
    split
    next hle => rw [show new + 2 * h - old = new - old + 2 * h by omega, Nat.add_mod_right, Nat.mod_eq_of_lt (by omega)]
    next hle => exact Nat.mod_eq_of_lt (by omega)
  rw [hm]
  interval_cases q <;> split <;> split <;> omega

/-- The first reading is kept. -/
theorem State.ssiRead_first {s : State} {ch : Nat} (hm : s.mode ≠ .boot) (h : s.fld Pg.POS (Fd.POS_CH_CTL_MODE ch) = 3)
    (hb : s.fld Pg.POS (Fd.POS_CH_SSI_CTL_BITS ch) ≠ 0) (hx : (s.chanOf ch).ssi = none) (sample : Nat) (value : Word) :
    s.ssiRead ch sample value = (s.atCycle sample).setChan ch { s.chanOf ch with ssi := some (s.ssiValue ch value) } := by
  unfold State.ssiRead
  simp only [State.atCycle_fld, State.atCycle_mode, State.atCycle_on, State.atCycle_chanOf, h, hb, hm, hx, ne_eq, not_true_eq_false, or_self, if_false]
  rfl

/-- A later reading becomes counts spread over the read period, or an illegal transition. -/
theorem State.ssiRead_later {s : State} {ch old : Nat} (hm : s.mode ≠ .boot) (h : s.fld Pg.POS (Fd.POS_CH_CTL_MODE ch) = 3)
    (hb : s.fld Pg.POS (Fd.POS_CH_SSI_CTL_BITS ch) ≠ 0) (hx : (s.chanOf ch).ssi = some old) (sample : Nat) (value : Word) :
    let new := s.ssiValue ch value
    let period := s.fld Pg.POS (Fd.POS_CH_SSI_CTL_READ_PERIOD ch)
    let d := ssiIncrement (s.fld Pg.POS (Fd.POS_CH_SSI_CTL_BITS ch)) new old
    s.ssiRead ch sample value =
      if period < 4 * d.natAbs then (s.atCycle sample).illegal ch sample
      else (s.atCycle sample).setChan ch { s.chanOf ch with
        ssi := some new
        replay := (s.chanOf ch).replay ++ (List.range d.natAbs).map fun i =>
          (sample + i * period / d.natAbs, decide (d < 0) != s.on Pg.POS (Fd.POS_CH_CTL_INVERT_DIR ch)) } := by
  unfold State.ssiRead
  simp only [State.atCycle_fld, State.atCycle_mode, State.atCycle_on, State.atCycle_chanOf, h, hb, hm, hx, ne_eq, not_true_eq_false, or_self, if_false]
  rfl

/-- Clause of O3: SSI_READ. -/
theorem ssiRead_shows {s : State} {ch : Fin 2} (hm : s.mode ≠ .boot) (h : s.fld Pg.POS (Fd.POS_CH_CTL_MODE ch) = 3)
    (hb : s.fld Pg.POS (Fd.POS_CH_SSI_CTL_BITS ch) ≠ 0) (value : Word) (sample : Nat) :
    let bits := s.fld Pg.POS (Fd.POS_CH_SSI_CTL_BITS ch)
    let new := s.ssiValue ch value
    let period := s.fld Pg.POS (Fd.POS_CH_SSI_CTL_READ_PERIOD ch)
    let t := s.ssiRead ch sample value
    ((s.chanOf ch).ssi = none → t.chanOf ch = { s.chanOf ch with ssi := some new } ∧ t.regs = s.regs) ∧
    (∀ (old : Nat) (d : Int), (s.chanOf ch).ssi = some old → (2 ^ bits : Int) ∣ (new - old - d) → -(2 ^ (bits - 1) : Int) < d → d ≤ 2 ^ (bits - 1) →
      new < 2 ^ bits → old < 2 ^ bits →
      (4 * d.natAbs ≤ period → t.regs = s.regs ∧ t.chanOf ch = { s.chanOf ch with
          ssi := some new
          replay := (s.chanOf ch).replay ++ (List.range d.natAbs).map fun i =>
            (sample + i * period / d.natAbs, decide (d < 0) != s.on Pg.POS (Fd.POS_CH_CTL_INVERT_DIR ch)) }) ∧
      (period < 4 * d.natAbs → t.chanOf ch = s.chanOf ch ∧ t.on Pg.POS (Fd.POS_CH_STAT_ILLEGAL ch) = true ∧
        t.fld Pg.POS (Fd.POS_CH_ERR_CNT_ILLEGAL_CNT ch) = satN 16 (s.fld Pg.POS (Fd.POS_CH_ERR_CNT_ILLEGAL_CNT ch) + 1))) := by
  intro bits new period t
  refine ⟨fun hx => ?_, fun old d hx hd hlo hhi hnew hold => ?_⟩
  · have ht : t = _ := State.ssiRead_first hm h hb hx sample value
    rw [ht]
    exact ⟨State.chanOf_setChan .., rfl⟩
  · have ht : t = _ := State.ssiRead_later hm h hb hx sample value
    rw [ssiIncrement_unique hb hd hlo hhi hnew hold] at ht
    refine ⟨fun hp => ?_, fun hp => ?_⟩
    · rw [if_neg (Nat.not_lt.mpr hp)] at ht
      rw [ht]
      exact ⟨rfl, State.chanOf_setChan ..⟩
    · rw [if_pos hp] at ht
      rw [ht]
      exact ⟨State.chanOf_of (State.illegal_chan ..) _, (s.atCycle sample).illegal_flags ch sample⟩

/-! ### Index edges (R106-R108) -/

/-- A flag of STAT set, with its event. -/
def State.posFlag (s : State) (ch : Nat) (f : Fld) (k sample : Nat) : State := (s.setFld Pg.POS f 1).posEvent ch k sample

theorem State.posFlag_mode (s : State) (ch : Nat) (f : Fld) (k sample : Nat) : (s.posFlag ch f k sample).mode = s.mode :=
  (State.posEvent_mode ..).trans (State.mode_setFld_page _ _ _ _ (by decide))

theorem State.posFlag_chan (s : State) (ch : Nat) (f : Fld) (k sample : Nat) : (s.posFlag ch f k sample).chan = s.chan := State.posEvent_chan ..

theorem State.posFlag_on (s : State) (ch : Nat) {f : Fld} (k sample : Nat) (hl : f.lo + f.len ≤ 32) (h0 : f.len ≠ 0) :
    (s.posFlag ch f k sample).on Pg.POS f = true := (State.posEvent_on ..).trans (State.on_one hl h0)

theorem State.posFlag_fld_apart (s : State) (ch : Nat) {f g : Fld} (k sample : Nat) (hl : f.lo + f.len ≤ 32) (h : apart f g) :
    (s.posFlag ch f k sample).fld Pg.POS g = s.fld Pg.POS g := (State.posEvent_fld ..).trans (State.fld_setFld_p hl h)

theorem State.posFlag_on_apart (s : State) (ch : Nat) {f g : Fld} (k sample : Nat) (hl : f.lo + f.len ≤ 32) (h : apart f g) :
    (s.posFlag ch f k sample).on Pg.POS g = s.on Pg.POS g := (State.posEvent_on ..).trans (State.on_setFld_p hl h)

theorem State.posFlag_same {s : State} {a ch : Nat} {f : Fld} {k sample : Nat} (h : a ≠ Pg.POS * 4096 + f.off) :
    RegSame a s (s.posFlag ch f k sample) := (RegSame.of_regs (State.posEvent_regs ..)).step (State.setFld_same h)

theorem State.posFlag_raised {s : State} (h : s.mode ≠ .boot) (ch : Nat) (f : Fld) (k sample : Nat) :
    (s.posFlag ch f k sample).raised = s.raised ++ [(evPos ch k, { time := s.timeAt (rawOfCycle sample) / 65536 })] :=
  State.posEvent_raised _ _ _ _ (by rwa [State.mode_setFld_page _ _ _ _ (by decide)])

/-- The home position: the count 0, and no wrap since. -/
def State.goHome (s : State) (ch : Nat) : State :=
  (s.wr Pg.POS (Rg.POS_CH_COUNT ch) 0).setChan ch { s.chanOf ch with homed := true, wrapped := false, wrapAt := none }

theorem State.goHome_mode (s : State) (ch : Nat) : (s.goHome ch).mode = s.mode := State.mode_wr_page _ _ _ _ (by decide)

/-- An index edge is seen; with HOME and a forward direction it is the home position, and its flag tells a long repeat from a short one. -/
theorem State.index_eq (s : State) (ch sample : Nat) :
    let seen := (s.atCycle sample).posFlag ch (Fd.POS_CH_STAT_INDEX ch) 1 sample
    let home := seen.goHome ch
    s.index ch sample =
      if s.fld Pg.POS (Fd.POS_CH_CTL_INDEX ch) ≠ 1 ∨ s.on Pg.POS (Fd.POS_CH_STAT_DIR ch) = true then seen
      else if (s.chanOf ch).homed = false ∨ (s.chanOf ch).wrapAt = some sample then home
      else if (s.chanOf ch).wrapped = true then home.posFlag ch (Fd.POS_CH_STAT_LONG_REPEAT ch) 3 sample
      else home.posFlag ch (Fd.POS_CH_STAT_SHORT_REPEAT ch) 2 sample := by
  intro seen home
  have hctl : seen.fld Pg.POS (Fd.POS_CH_CTL_INDEX ch) = s.fld Pg.POS (Fd.POS_CH_CTL_INDEX ch) :=
    (s.atCycle sample).posFlag_fld_apart ch 1 sample (by simp) (.inl (by simp))
  have hdir : seen.on Pg.POS (Fd.POS_CH_STAT_DIR ch) = s.on Pg.POS (Fd.POS_CH_STAT_DIR ch) :=
    (s.atCycle sample).posFlag_on_apart ch 1 sample (by simp) (.inr (by simp))
  have hchan : seen.chanOf ch = s.chanOf ch := State.chanOf_of (State.posFlag_chan ..) ch
  change (if seen.fld Pg.POS (Fd.POS_CH_CTL_INDEX ch) ≠ 1 ∨ seen.on Pg.POS (Fd.POS_CH_STAT_DIR ch) = true then seen
    else if (!(seen.chanOf ch).homed) = true ∨ (seen.chanOf ch).wrapAt = some sample then home
    else if (seen.chanOf ch).wrapped = true then home.posFlag ch (Fd.POS_CH_STAT_LONG_REPEAT ch) 3 sample
    else home.posFlag ch (Fd.POS_CH_STAT_SHORT_REPEAT ch) 2 sample) = _
  simp only [hctl, hdir, hchan, Bool.not_eq_true']

/-- What a home index leaves: INDEX, the count 0, and no wrap since; of the registers only STAT and COUNT differ. -/
structure AtHome (ch : Nat) (s t : State) : Prop where
  index : t.on Pg.POS (Fd.POS_CH_STAT_INDEX ch) = true
  count : t.rd Pg.POS (Rg.POS_CH_COUNT ch) = 0
  chan : t.chanOf ch = { s.chanOf ch with homed := true, wrapped := false, wrapAt := none }
  kept : regsKept [Pg.POS * 4096 + Rg.POS_CH_STAT ch, Pg.POS * 4096 + Rg.POS_CH_COUNT ch] s t

theorem State.goHome_atHome (s : State) (ch sample : Nat) : AtHome ch s ((s.posFlag ch (Fd.POS_CH_STAT_INDEX ch) 1 sample).goHome ch) where
  index := (State.on_wr_p (by simp)).trans (State.posFlag_on _ _ _ _ (by simp) (by simp))
  count := State.rd_wr_same ..
  chan := by unfold State.goHome; rw [State.chanOf_setChan, State.chanOf_of (State.posFlag_chan ..)]
  kept := regsKept_two fun _ h1 h2 => RegSame.step (State.wr_same h2) (State.posFlag_same h1)

/-- A further flag of STAT keeps it. -/
theorem AtHome.posFlag {ch : Nat} {s t : State} (h : AtHome ch s t) {f : Fld} (hf : f.off = Rg.POS_CH_STAT ch) (hl : f.lo + f.len ≤ 12)
    (k sample : Nat) : AtHome ch s (t.posFlag ch f k sample) where
  index := (State.posFlag_on_apart _ _ _ _ (by omega) (.inr (.inr hl))).trans h.index
  count := (RegSame.rd (State.posFlag_same (off_ne (by rw [hf]; simp)))).trans h.count
  chan := (State.posEvent_chanOf ..).trans h.chan
  kept := regsKept_two fun a h1 h2 => (State.posFlag_same (hf ▸ h1)).step (h.kept a (by simp [h1, h2]))

/-- Clause of O3: ENC_INDEX with HOME in the forward direction. -/
theorem State.index_home_shows {s : State} {ch : Nat} (hm : s.mode ≠ .boot)
    (h : ¬(s.fld Pg.POS (Fd.POS_CH_CTL_INDEX ch) ≠ 1 ∨ s.on Pg.POS (Fd.POS_CH_STAT_DIR ch) = true)) (sample : Nat) :
    let e (k : Nat) : Nat × Stamp := (evPos ch k, { time := s.timeAt (rawOfCycle sample) / 65536 })
    let x := s.chanOf ch
    let t := s.index ch sample
    AtHome ch s t ∧ (x.homed = false ∨ x.wrapAt = some sample → t.raised = s.raised ++ [e 1]) ∧
      (x.homed = true ∧ x.wrapAt ≠ some sample ∧ x.wrapped = true →
        t.raised = s.raised ++ [e 1, e 3] ∧ t.on Pg.POS (Fd.POS_CH_STAT_LONG_REPEAT ch) = true) ∧
      (x.homed = true ∧ x.wrapAt ≠ some sample ∧ x.wrapped = false →
        t.raised = s.raised ++ [e 1, e 2] ∧ t.on Pg.POS (Fd.POS_CH_STAT_SHORT_REPEAT ch) = true) := by
  intro e x t
  let u := ((s.atCycle sample).posFlag ch (Fd.POS_CH_STAT_INDEX ch) 1 sample).goHome ch
  have ht : t = if x.homed = false ∨ x.wrapAt = some sample then u
      else if x.wrapped = true then u.posFlag ch (Fd.POS_CH_STAT_LONG_REPEAT ch) 3 sample
      else u.posFlag ch (Fd.POS_CH_STAT_SHORT_REPEAT ch) 2 sample := (s.index_eq ch sample).trans (if_neg h)
  have hu : AtHome ch s u :=
    have g := (s.atCycle sample).goHome_atHome ch sample
    ⟨g.index, g.count, g.chan, g.kept⟩
  have hraised : u.raised = s.raised ++ [e 1] := State.posFlag_raised (s := s.atCycle sample) hm ch (Fd.POS_CH_STAT_INDEX ch) 1 sample
  have hmode : u.mode ≠ .boot := by rwa [State.goHome_mode, State.posFlag_mode]
  have hflag (f : Fld) (k : Nat) : (u.posFlag ch f k sample).raised = s.raised ++ [e 1, e k] := by
    rw [State.posFlag_raised hmode, hraised, List.append_assoc, State.timeAt_of (show u.tb = s.tb from State.posEvent_tb ..)]
    rfl
  by_cases hq : x.homed = false ∨ x.wrapAt = some sample
  · rw [if_pos hq] at ht
    have hnot (h1 : x.homed = true) (h2 : x.wrapAt ≠ some sample) : ¬(x.homed = false ∨ x.wrapAt = some sample) := not_or.mpr ⟨by simp [h1], h2⟩
    exact ⟨ht ▸ hu, fun _ => ht ▸ hraised, fun hc => absurd hq (hnot hc.1 hc.2.1), fun hc => absurd hq (hnot hc.1 hc.2.1)⟩
  rw [if_neg hq] at ht
  cases hw : x.wrapped with
  | true =>
    rw [if_pos hw] at ht
    exact ⟨ht ▸ hu.posFlag rfl (by simp) 3 sample, fun hc => absurd hc hq,
      fun _ => ⟨ht ▸ hflag _ 3, ht ▸ State.posFlag_on _ _ _ _ (by simp) (by simp)⟩, fun hc => absurd hc.2.2 (by simp)⟩
  | false =>
    rw [if_neg (by simp [hw])] at ht
    exact ⟨ht ▸ hu.posFlag rfl (by simp) 2 sample, fun hc => absurd hc hq, fun hc => absurd hc.2.2 (by simp),
      fun _ => ⟨ht ▸ hflag _ 2, ht ▸ State.posFlag_on _ _ _ _ (by simp) (by simp)⟩⟩

/-! ### Standstill (R110) -/

theorem State.standstill_waits {s : State} {ch sample at_ : Nat} {rev : Bool} (hl : (s.chanOf ch).last = some (at_, rev))
    (h : sample < at_ + 100000 * s.fld Pg.POS (Fd.POS_CH_SPEED_CTL_STILL_MS ch) ∨ s.on Pg.POS (Fd.POS_CH_STAT_STANDSTILL ch) = true) :
    s.standstill ch sample = s.atCycle sample := by
  unfold State.standstill
  simp only [State.atCycle_chanOf, hl, State.atCycle_on, State.atCycle_fld]
  refine if_pos ?_
  rcases h with h | h <;> simp [h]

theorem State.standstill_expires {s : State} {ch sample at_ : Nat} {rev : Bool} (hl : (s.chanOf ch).last = some (at_, rev))
    (h : at_ + 100000 * s.fld Pg.POS (Fd.POS_CH_SPEED_CTL_STILL_MS ch) ≤ sample) (hs : s.on Pg.POS (Fd.POS_CH_STAT_STANDSTILL ch) = false) :
    s.standstill ch sample = ((((((s.atCycle sample).setChan ch { s.chanOf ch with window := [] }).wr Pg.POS (Rg.POS_CH_SPEED ch) 0).setFld Pg.POS
      (Fd.POS_CH_STAT_STANDSTILL ch) 1).setFld Pg.POS (Fd.POS_CH_STAT_MOVING ch) 0).posEvent ch 6 sample) := by
  unfold State.standstill
  simp only [State.atCycle_chanOf, hl, State.atCycle_on, State.atCycle_fld]
  refine if_neg ?_
  rw [hs, Bool.false_or]
  exact fun e => absurd (of_decide_eq_true e) (Nat.not_lt.mpr h)

/-- Clause of O3: STANDSTILL once STILL_MS have passed. -/
theorem State.standstill_shows {s : State} {ch sample at_ : Nat} {rev : Bool} (hm : s.mode ≠ .boot) (hl : (s.chanOf ch).last = some (at_, rev))
    (h : at_ + 100000 * s.fld Pg.POS (Fd.POS_CH_SPEED_CTL_STILL_MS ch) ≤ sample) (hs : s.on Pg.POS (Fd.POS_CH_STAT_STANDSTILL ch) = false) :
    let t := s.standstill ch sample
    t.rd Pg.POS (Rg.POS_CH_SPEED ch) = 0 ∧ t.on Pg.POS (Fd.POS_CH_STAT_STANDSTILL ch) = true ∧
      t.on Pg.POS (Fd.POS_CH_STAT_MOVING ch) = false ∧ (t.chanOf ch).travel = (s.chanOf ch).travel ∧
      t.raised = s.raised ++ [(evPos ch 6, { time := s.timeAt (rawOfCycle sample) / 65536 })] ∧
      regsKept [Pg.POS * 4096 + Rg.POS_CH_STAT ch, Pg.POS * 4096 + Rg.POS_CH_SPEED ch] s t := by
  intro t
  have ht : t = _ := State.standstill_expires hl h hs
  rw [ht]
  refine ⟨?_, ?_, ?_, ?_, ?_, regsKept_two fun a h1 h2 => ?_⟩
  · rw [State.posEvent_rd, State.rd_setFld_of_ne _ _ _ _ _ _ (by simp), State.rd_setFld_of_ne _ _ _ _ _ _ (by simp), State.rd_wr_same]
  · rw [State.posEvent_on, State.on_setFld_p (by simp) (.inr (by simp)), State.on_one (by simp) (by simp)]
  · rw [State.posEvent_on, State.on_zero (by simp)]
  · rw [State.posEvent_chanOf, State.setFld_chanOf, State.setFld_chanOf, State.wr_chanOf, State.chanOf_setChan]
  · refine State.posEvent_raised _ _ _ _ ?_
    rwa [State.mode_setFld_page _ _ _ _ (by decide), State.mode_setFld_page _ _ _ _ (by decide), State.mode_wr_page _ _ _ _ (by decide)]
  · exact (RegSame.of_regs (State.posEvent_regs ..)).step ((State.setFld_same h1).step ((State.setFld_same h1).step
      (State.wr_same (s := (s.atCycle sample).setChan ch { s.chanOf ch with window := [] }) h2)))

/-! ### The obligation -/

/-- Clause of O3: TG_LINE_LO_READ (R122). -/
theorem tgLineLoRead_shows {s : State} {o : Owner} (h : s.reaches o Pg.POS = true) (v : Fin 4) :
    ∃ t, exec (.tgLineLoRead o v) s = .next t ∧ t.regs = s.regs ∧ (t.tgOf v).latchHi = s.fld Pg.POS (Fd.POS_TG_LINE_HI_b0 v) ∧
      t.out = s.out ++ [.readData (ownerCode o) (Pg.POS * 4096 + Rg.POS_TG_LINE_LO v) (s.rd Pg.POS (Rg.POS_TG_LINE_LO v))] := by
  refine ⟨_, if_pos h, State.touch_regs .., ?_, ?_⟩
  · exact (congrArg TrigGen.latchHi (State.tgOf_setTg ..)).trans (State.touch_fld ..)
  · show (s.touch o Pg.POS).out ++ [.readData (ownerCode o) _ ((s.touch o Pg.POS).rd Pg.POS (Rg.POS_TG_LINE_LO v))] = _
    rw [State.touch_out, State.touch_rd]

/-- Settles O3, each command by the state it ends in. -/
theorem ssiIndexStandstillAndLineRead : Obligations.SsiIndexStandstillAndLineRead := by
  refine ⟨fun ch value sample s hm h hb => ⟨_, rfl, ssiRead_shows hm h hb value sample⟩, fun ch sample s hm h => ?_,
    fun ch sample at_ rev s hm hl => ⟨_, rfl, fun h => State.standstill_shows hm hl h.1 h.2, State.standstill_waits hl⟩,
    fun o v s h => tgLineLoRead_shows h v⟩
  have hexec : exec (.encIndex ch sample) s = .next (s.index ch sample) := congrArg Host.Outcome.next (if_neg (not_or.mpr ⟨hm, h⟩))
  refine ⟨_, hexec, ?_⟩
  by_cases hd : s.fld Pg.POS (Fd.POS_CH_CTL_INDEX ch) ≠ 1 ∨ s.on Pg.POS (Fd.POS_CH_STAT_DIR ch) = true
  · have hseen := (s.index_eq ch sample).trans (if_pos hd)
    rw [hseen]
    exact ⟨State.posFlag_on _ _ _ _ (by simp) (by simp), fun _ => ⟨State.posFlag_raised (s := s.atCycle sample) hm ch _ 1 sample,
      State.posFlag_chan .., regsKept_one fun a ha => State.posFlag_same (s := s.atCycle sample) ha⟩,
      fun ⟨h1, h2⟩ => absurd hd (not_or.mpr ⟨fun e => e h1, by rw [h2]; decide⟩)⟩
  · obtain ⟨hhome, hquiet, hlong, hshort⟩ := State.index_home_shows hm hd sample
    exact ⟨hhome.index, fun h => absurd h hd, fun _ => ⟨hhome.count, hhome.chan, hhome.kept, hquiet, hlong, hshort⟩⟩

end Sys2Proof.Machine
end

section
/-!
PROOFS. Triggers that fall due, are skipped and are issued (O4).
-/
namespace Sys2Proof.Machine

/-! ### A trigger that falls due (R118, R119) -/

/-- Clause of O4: with none waiting it waits for its cycle. -/
theorem State.due_waits {s : State} {v : Nat} (h : (s.tgOf v).waiting = none) (sample : Nat) (travel : Int) :
    (s.due v sample travel).tgOf v = { s.tgOf v with
      waiting := some ((s.tgOf v).next, s.issueCycle v sample, travel), next := (s.tgOf v).next + 1, anyDue := true } := by
  unfold State.due
  dsimp only
  rw [h]
  exact (State.setBit_tgOf ..).trans (State.tgOf_setTg ..)

/-- Behind one that waits it is skipped. -/
theorem State.due_skips {s : State} {v : Nat} {w : Nat × Nat × Int} (h : (s.tgOf v).waiting = some w) (sample : Nat) (travel : Int) :
    let c := Nat.max sample (((s.tgOf v).skipq.getLast?.getD w).2.1)
    s.due v sample travel = ((s.setTg v { s.tgOf v with
      skipq := (s.tgOf v).skipq ++ [((s.tgOf v).next, c, travel)], next := (s.tgOf v).next + 1, anyDue := true }).bump Pg.POS
        (Fd.POS_TG_LINE_HI_SKIP_CNT v)).raiseLine (evOverspeed v) v (s.tgOf v).next (s.timeAt (rawOfCycle c) / 65536) := by
  unfold State.due
  dsimp only
  rw [h]
  rfl

/-- Clause of O4: a skipped trigger takes its line number, is counted and raises OVERSPEED. -/
theorem State.due_skips_shows {s : State} {v : Nat} {w : Nat × Nat × Int} (hm : s.mode ≠ .boot) (h : (s.tgOf v).waiting = some w) (sample : Nat)
    (travel : Int) :
    let c := Nat.max sample (((s.tgOf v).skipq.getLast?.getD w).2.1)
    ((s.due v sample travel).tgOf v) = { s.tgOf v with
      skipq := (s.tgOf v).skipq ++ [((s.tgOf v).next, c, travel)], next := (s.tgOf v).next + 1, anyDue := true } ∧
    (s.due v sample travel).fld Pg.POS (Fd.POS_TG_LINE_HI_SKIP_CNT v) = satN 16 (s.fld Pg.POS (Fd.POS_TG_LINE_HI_SKIP_CNT v) + 1) ∧
    (s.due v sample travel).raised = s.raised ++ [(evOverspeed v, { time := s.timeAt (rawOfCycle c) / 65536, line := some (v, (s.tgOf v).next) })] := by
  rw [State.due_skips h]
  refine ⟨?_, ?_, ?_⟩
  · rw [State.raiseLine_tgOf, State.bump_tgOf, State.tgOf_setTg]
  · rw [State.raiseLine_fld, State.fld_bump _ _ _ (by simp), State.setTg_fld]
  · refine State.raise_raised _ _ _ ?_
    unfold State.bump State.bumpBy
    rwa [State.mode_setFld_page _ _ _ _ (by decide), State.setTg_mode]

/-! ### The generator after an issue (R118, R119) -/

/-- A line kept and shown changes only what the generator keeps of lines. -/
theorem State.keepShow_tgOf (s : State) (v n m : Nat) (r : LineRec) :
    ∃ h, ((s.keepLine v n r).showLine v m).tgOf v = { s.tgOf v with hist := h } := ⟨_, State.tgOf_setTg ..⟩

/-- The skipped triggers behind an issued line change only what is kept of lines. -/
theorem State.settleSkips_tgOf (v : Nat) (l : List (Nat × Nat × Int)) (s : State) :
    ∃ h, (s.settleSkips v l).tgOf v = { s.tgOf v with hist := h } := by
  induction l generalizing s with
  | nil => exact ⟨_, rfl⟩
  | cons e l ih =>
    obtain ⟨n, c, tr⟩ := e
    obtain ⟨h, hh⟩ := ih ((s.keepLine v n ⟨c, s.timeAt (rawOfCycle c) / 65536, tr, true⟩).showLine v n)
    obtain ⟨k, hk⟩ := State.keepShow_tgOf s v n n ⟨c, s.timeAt (rawOfCycle c) / 65536, tr, true⟩
    exact ⟨h, by rw [State.settleSkips, hh, hk]⟩

/-- Clause of O4: the issue leaves no waiting trigger and no skipped ones, and the issued line stands first. -/
theorem State.issue_shows {s : State} {v n c : Nat} {tr : Int} (h : (s.tgOf v).waiting = some (n, c, tr)) :
    ((s.issue v).1.tgOf v).waiting = none ∧ ((s.issue v).1.tgOf v).skipq = [] ∧ ((s.issue v).1.tgOf v).issued = some c ∧
      (s.issue v).2 = n :: (s.tgOf v).skipq.map (·.1) := by
  unfold State.issue
  dsimp only
  rw [h]
  dsimp only
  generalize hu : (s.setTg v { s.tgOf v with waiting := none, skipq := [], issued := some c }).setFld Pg.POS (Fd.POS_TG_CTL_LAGGING v) 0 = u
  have htg : u.tgOf v = { s.tgOf v with waiting := none, skipq := [], issued := some c } := hu ▸ State.tgOf_setTg ..
  obtain ⟨k, hk⟩ := u.keepShow_tgOf v n n ⟨c, u.timeAt (rawOfCycle c) / 65536, tr, false⟩
  obtain ⟨j, hj⟩ := State.settleSkips_tgOf v (s.tgOf v).skipq ((u.keepLine v n ⟨c, u.timeAt (rawOfCycle c) / 65536, tr, false⟩).showLine v n)
  rw [hj, hk, htg]
  exact ⟨rfl, rfl, rfl, rfl⟩

/-! ### The ports of a view (R205, R260) -/

/-- They depend on the jobs, the view, the commits and the registers of SYS and STI. -/
theorem Within.portsAt {m : Nat} {s t : State} (h : Within m s t) (h4 : m / 2 ^ 4 % 2 = 0) (h17 : m / 2 ^ 17 % 2 = 0) (h19 : m / 2 ^ 19 % 2 = 0)
    (h35 : m / 2 ^ 35 % 2 = 0) (hr : ∀ a, a / 4096 ≠ Pg.POS → RegSame a s t) (v n : Nat) : t.portsAt v n = s.portsAt v n := by
  have hsys (off : Nat) (ho : off < 4096) : RegSame (Pg.SYS * 4096 + off) s t := hr _ (by rw [addr_page ho]; decide)
  have hview : t.view_ v = s.view_ v := h.view_ v h17
  have hstate : t.fld Pg.SYS Fd.SYS_CHG_CTL_STATE = s.fld Pg.SYS Fd.SYS_CHG_CTL_STATE := RegSame.fld (hsys _ (by decide))
  have htrigger : t.fld Pg.SYS Fd.SYS_CHG_CTL_TRIGGER = s.fld Pg.SYS Fd.SYS_CHG_CTL_TRIGGER := RegSame.fld (hsys _ (by decide))
  have hlast : t.rd Pg.SYS Rg.SYS_CHG_LAST_REPEAT = s.rd Pg.SYS Rg.SYS_CHG_LAST_REPEAT := RegSame.rd (hsys _ (by decide))
  have hjob (c : Copy) : t.jobOf c = s.jobOf c := by
    cases c with
    | active => exact h.jobA_eq h19
    | next => exact h.jobN_eq h19
  have hrep : t.repOf v n = s.repOf v n := State.repOf_of (State.mode_of_regs (hsys _ (by decide))) (h.jobA_eq h19) (h.jobN_eq h19) (h.window_eq h4)
    (by rw [hview]) (by rw [hview]) n
  have hdue : t.chgDue v n = s.chgDue v n := by
    unfold State.chgDue State.enables
    rw [hview, hstate, htrigger, hlast, hjob, hrep]
  have hnew : t.isNew v n = s.isNew v n := by
    unfold State.isNew
    rw [hstate, hview, hdue]
  unfold State.portsAt
  refine List.filter_congr fun p hp => ?_
  have hp : p < 16 := List.mem_range.mp hp
  have ho : Rg.STI_PORT_CTL p < 4096 := by show 0x088 + 4 * p < 4096; omega
  have hctl : t.rd Pg.STI (Rg.STI_PORT_CTL p) = s.rd Pg.STI (Rg.STI_PORT_CTL p) := RegSame.rd (hr _ (by rw [addr_page ho]; decide))
  have hnext : t.nextVal Pg.STI (Rg.STI_PORT_CTL p) = s.nextVal Pg.STI (Rg.STI_PORT_CTL p) := by
    unfold State.nextVal State.pend State.jobRegs
    rw [h.commits_eq h35, hjob, hctl]
  have hword : t.portWord p v n = s.portWord p v n := by
    unfold State.portWord
    dsimp only
    rw [hnew, hview, h.entered_eq h35, hnext, hctl]
  rw [hword]

/-- The issue of a line leaves the ports of its view as they are. -/
theorem State.issue_portsAt (s : State) {v : Nat} (hv : v < 4) (n : Nat) : (s.issue v).1.portsAt v n = s.portsAt v n :=
  (State.issue_within s v).portsAt rfl rfl rfl rfl (fun _ h => State.issue_same h hv) v n

/-! ### Uplink triggers (R118, R153) -/

/-- A port whose intake is at rest, or in the present run of lines of view `v`. -/
def State.inRun (s : State) (v p : Nat) : Prop := (s.intk p).next = none ∨ ((s.intk p).view = v ∧ (s.intk p).run = (s.view_ v).first)

/-- A new line of such a port is put behind those that its intake has. -/
theorem State.addLine_inRun {s : State} {v p : Nat} (h : s.inRun v p) (m : Nat) (trig : Bool) :
    ∃ x, s.addLine v p m trig = s.putIntk p x ∧ x.view = v ∧ x.run = (s.view_ v).first := by
  have hrest : ¬((s.intk p).next.isSome && ((s.intk p).view != v || ((s.intk p).run != (s.view_ v).first && decide ((s.view_ v).first ≤ m)))) = true := by
    rcases h with h | ⟨hv, hr⟩
    · simp [h]
    · simp [hv, hr]
  unfold State.addLine
  dsimp only
  rw [if_neg hrest]
  refine ⟨_, rfl, ?_⟩
  generalize hx : (if (s.intk p).next.isSome = true then s.intk p else _) = x
  have hrun : x.view = v ∧ x.run = (s.view_ v).first := by
    rw [← hx]
    split
    next hb => exact h.resolve_left (Option.isSome_iff_ne_none.mp hb)
    next => exact ⟨rfl, rfl⟩
  split <;> exact hrun

/-- A line of view `v` that has its cycle, at port `p`: its trigger where it is sent, and the camera line. -/
def State.lineAtPort (s : State) (v m : Nat) (issued : Bool) (p : Nat) : State :=
  let act := issued && s.linkState p == lkActive
  let s := if act then (s.putLink p { s.link_ p with lastTrig := m + 1 }).trigger p m else s
  s.addLine v p m act

/-- What leaves a port when a trigger of line `m` does (R152, R153). -/
def triggerOut (m p : Nat) : Output := .trigger p (triggerSyms m) (Nat.min 18 (Config.uplinkLeft p m))

theorem State.inRun_putIntk {s : State} {v q : Nat} (h : s.inRun v q) {p : Nat} {x : Intake} (hx : x.view = v ∧ x.run = (s.view_ v).first) :
    (s.putIntk p x).inRun v q := by
  by_cases hq : q = p
  · subst hq
    exact .inr (by rw [State.intk_putIntk]; exact hx)
  · have hi : (s.putIntk p x).intk q = s.intk q := tabGet_tabPut_of_ne _ _ _ hq
    unfold State.inRun
    rw [hi]
    exact h

/-- A line's step at one port: the trigger leaves where the port is ACTIVE, the registers stay, and so does every port's place in the run. -/
theorem State.lineAtPort_shows {s : State} {v : Nat} (h : ∀ p, s.inRun v p) (m p : Nat) :
    (s.lineAtPort v m true p).out = s.out ++ (if s.linkState p == lkActive then [triggerOut m p] else []) ∧
      (s.lineAtPort v m true p).regs = s.regs ∧ ∀ q, (s.lineAtPort v m true p).inRun v q := by
  unfold State.lineAtPort
  cases hs : s.linkState p == lkActive with
  | true =>
    obtain ⟨x, ha, hx⟩ := State.addLine_inRun (s := (s.putLink p { s.link_ p with lastTrig := m + 1 }).trigger p m) (h p) m true
    simp only [Bool.true_and, if_true, ha]
    exact ⟨rfl, rfl, fun q => State.inRun_putIntk (h q) hx⟩
  | false =>
    obtain ⟨x, ha, hx⟩ := State.addLine_inRun (h p) m false
    simp only [Bool.true_and, Bool.false_eq_true, if_false, ha]
    exact ⟨(List.append_nil _).symm, rfl, fun q => State.inRun_putIntk (h q) hx⟩

/-- Over the ports of a list: one trigger for each ACTIVE one, in the list's order. -/
theorem State.lineAtPorts_out {v : Nat} (m : Nat) (l : List Nat) {s : State} (h : ∀ p, s.inRun v p) :
    (l.foldl (fun s p => s.lineAtPort v m true p) s).out = s.out ++ (l.filter fun p => s.linkState p == lkActive).map (triggerOut m) := by
  induction l generalizing s with
  | nil => exact (List.append_nil _).symm
  | cons p l ih =>
    obtain ⟨hout, hregs, hrun⟩ := State.lineAtPort_shows h m p
    have hlink (q : Nat) : (s.lineAtPort v m true p).linkState q = s.linkState q := RegSame.fld (RegSame.of_regs hregs)
    rw [List.foldl_cons, ih hrun, hout, List.filter_cons]
    simp only [hlink, List.append_assoc]
    split <;> rfl

/-- A line's step over its ports comes first; what follows it adds to the outputs. -/
theorem State.lineIssued_out (s : State) (v m : Nat) :
    ((s.portsAt v m).foldl (fun s p => s.lineAtPort v m true p) s).out <+: (s.lineIssued v m true).out := by
  unfold State.lineIssued
  dsimp only
  refine List.IsPrefix.trans ?_ (State.anchorSyncs_within ..).kept.out
  split
  · exact (State.viewStart_within ..).kept.out
  · exact List.prefix_refl _

/-! ### TRIGGER_ISSUE -/

/-- The lines that have their cycle, the first of them the issued one, each at its ports. -/
def State.linesIssued (s : State) (v : Nat) (l : List (Nat × Nat)) : State := l.foldl (fun s e => s.lineIssued v e.1 (e.2 == 0)) s

theorem State.linesIssued_within (s : State) (v : Nat) (l : List (Nat × Nat)) : Within 0xc1ddfd8b3 s (s.linesIssued v l) :=
  Within.foldl (Within.refl _ _) fun _ _ h => Within.step (State.lineIssued_within ..) rfl h

/-- The complete lines of the ports of view `v` delivered. -/
def State.deliverView (s : State) (v : Nat) : State := ((List.range 16).filter fun p => s.pView p == v).foldl (fun s p => s.deliverPort p) s

theorem State.deliverView_within (s : State) (v : Nat) : Within 0xc1ddfd8b3 s (s.deliverView v) :=
  Within.foldl (Within.refl _ _) fun _ _ h => Within.step (State.deliverPort_within ..) rfl h

theorem triggerIssue_eq (v : Fin 4) (sample : Nat) (s : State) : exec (.triggerIssue v sample) s =
    .next ((((((s.atCycle sample).issue v).1.linesIssued v ((s.atCycle sample).issue v).2.zipIdx).leaveStop v).deliverView v)) := rfl

/-- What the issued line's ports put out comes first of what TRIGGER_ISSUE puts out. -/
theorem State.linesIssued_out (s : State) (v n : Nat) (rest : List Nat) :
    (s.lineIssued v n true).out <+: (((s.linesIssued v (n :: rest).zipIdx).leaveStop v).deliverView v).out :=
  have hrest : (s.lineIssued v n true).out <+: (s.linesIssued v (n :: rest).zipIdx).out := (State.linesIssued_within _ v (rest.zipIdx 1)).kept.out
  (hrest.trans (State.leaveStop_within ..).kept.out).trans (State.deliverView_within ..).kept.out

/-- Clause of O4: TRIGGER_ISSUE. -/
theorem triggerIssue_shows {s : State} {v : Fin 4} {n c : Nat} {tr : Int} (h : (s.tgOf v).waiting = some (n, c, tr)) (hrun : ∀ p, s.inRun v p)
    (sample : Nat) : ∃ t l, exec (.triggerIssue v sample) s = .next t ∧
      t.out = s.out ++ ((s.portsAt v n).filter fun p => s.linkState p == lkActive).map (triggerOut n) ++ l := by
  obtain ⟨-, -, -, hlines⟩ := State.issue_shows (s := s.atCycle sample) h
  have hw := (s.atCycle sample).issue_within v
  have hports : ((s.atCycle sample).issue v).1.portsAt v n = s.portsAt v n := (s.atCycle sample).issue_portsAt v.isLt n
  have hsame {a : Nat} (ha : a / 4096 ≠ Pg.POS) : RegSame a s ((s.atCycle sample).issue v).1 := State.issue_same (s := s.atCycle sample) ha v.isLt
  have hexec := triggerIssue_eq v sample s
  rw [hlines] at hexec
  generalize ((s.atCycle sample).issue v).1 = u at hw hports hsame hexec
  have hinRun (p : Nat) : u.inRun v p := by
    unfold State.inRun
    rw [hw.intk p rfl, hw.view_ v rfl]
    exact hrun p
  have hlink (p : Nat) (hp : p ∈ s.portsAt v n) : u.linkState p = s.linkState p := by
    have hlt : p < 16 := List.mem_range.mp (List.mem_filter.mp hp).1
    refine RegSame.fld (hsame ?_)
    rw [addr_page (by decide)]
    show 0x10 + p ≠ 0x20
    omega
  have hfilter : (s.portsAt v n).filter (fun p => u.linkState p == lkActive) = (s.portsAt v n).filter fun p => s.linkState p == lkActive :=
    List.filter_congr fun p hp => by rw [hlink p hp]
  obtain ⟨l, hl⟩ := (u.lineIssued_out v n).trans (u.linesIssued_out v n (((s.atCycle sample).tgOf v).skipq.map (·.1)))
  refine ⟨_, l, hexec, ?_⟩
  rw [← hl, hports, State.lineAtPorts_out n _ hinRun, hfilter, hw.out_eq rfl]
  rfl

/-! ### The obligation -/

/-- Settles O4, for the issue by the outputs of the issued line's ports, which come before all others. -/
theorem dueTriggerIsIssuedToActivePorts : Obligations.DueTriggerIsIssuedToActivePorts := by
  refine ⟨fun v sample n c tr s h hrun => triggerIssue_shows h hrun sample, fun v n c tr s h => State.issue_shows h,
    fun v sample travel s h => State.due_waits h sample travel, fun v sample travel w s hm h => ?_⟩
  obtain ⟨htg, hcnt, hraised⟩ := State.due_skips_shows hm h sample travel
  exact ⟨htg, hcnt, _, hraised, rfl, rfl⟩

end Sys2Proof.Machine
end

section
/-!
PROOFS. The symbols of uplink packets and triggers, and the uplink that carries both (O56).
-/
namespace Sys2Proof.Machine

/-- The one byte of a number. -/
theorem leBytes_one (x : Nat) : leBytes 1 x = [BitVec.ofNat 8 x] := by
  simp only [leBytes, List.cons.injEq, and_true]
  exact BitVec.eq_of_toNat_eq (by simp)

/-- Four single bytes are the bytes of the word that they form. -/
theorem leBytes_ones (a b c d : Nat) : leBytes 1 a ++ leBytes 1 b ++ leBytes 1 c ++ leBytes 1 d =
    leBytes 4 (a % 256 + 256 * (b % 256) + 65536 * (c % 256) + 2 ^ 24 * (d % 256)) := by
  have byte {x y : Nat} (h : x % 256 = y % 256) : BitVec.ofNat 8 (x % 256) = BitVec.ofNat 8 (y % 256) := by rw [h]
  simp only [leBytes, List.cons_append, List.nil_append, List.cons.injEq, and_true]
  exact ⟨byte (by omega), byte (by omega), byte (by omega), byte (by omega)⟩

/-- The body of an uplink packet: TYPE, TAG, ARG0 and ARG1 in one word, then ADDR, then DATA (R147). -/
def uplinkBody (type tag arg0 arg1 addr data : Nat) : List Byte :=
  leBytes 4 (type % 256 + 256 * (tag % 256) + 65536 * (arg0 % 256) + 2 ^ 24 * (arg1 % 256)) ++ leBytes 4 addr ++ leBytes 4 data

theorem uplinkSyms_eq (type tag arg0 arg1 addr data : Nat) : uplinkSyms type tag arg0 arg1 addr data =
    .sop :: (((uplinkBody type tag arg0 arg1 addr data) ++ leBytes 4 (crc32c (uplinkBody type tag arg0 arg1 addr data))).map .data ++ [.eop]) := by
  unfold uplinkSyms uplinkBody
  rw [leBytes_ones]

theorem uplinkData_length (type tag arg0 arg1 addr data c : Nat) :
    (((uplinkBody type tag arg0 arg1 addr data) ++ leBytes 4 c).map ObvSym.data).length = 16 := by
  simp [uplinkBody, leBytes_length]

theorem uplinkSyms_length (type tag arg0 arg1 addr data : Nat) : (uplinkSyms type tag arg0 arg1 addr data).length = 18 := by
  rw [uplinkSyms_eq, List.length_cons, List.length_append, uplinkData_length, List.length_singleton]

/-- A packet and a trigger that interrupts it with `k` symbols left: the trigger stands before the last `k` (R153). -/
theorem uplinkStream_interrupted (p k : Nat) (l trig : List ObvSym) :
    uplinkStream p [.uplink p l, .trigger p trig k] = l.take (l.length - k) ++ trig ++ l.drop (l.length - k) := by
  simp [uplinkStream]

/-- The check value of the CRC-8: that of the digits 1 to 9 (R152). -/
theorem crc8_check : crc8 ((List.range 9).map fun i => BitVec.ofNat 8 (0x31 + i)) = 0xF4 := by decide +kernel

/-- Settles O56: packet and trigger by the lists they are, the interrupted packet by its length. -/
theorem uplinkPacketsAndTriggersHaveTheirSymbols : Obligations.UplinkPacketsAndTriggersHaveTheirSymbols := by
  refine ⟨fun type tag arg0 arg1 addr data => ?_, fun n => ?_, crc8_check, fun p n k type tag arg0 arg1 addr data _ => ?_⟩
  · refine ⟨uplinkSyms_length .., rfl, ?_, ?_⟩
    · rw [uplinkSyms_eq, ← List.cons_append, List.getLast?_concat]
    · rw [uplinkSyms_eq, List.drop_succ_cons, List.drop_zero]
      exact List.take_left' (uplinkData_length ..)
  · refine ⟨?_, rfl, ?_, ?_⟩
    · simp [triggerSyms, leBytes_length]
    · rw [triggerSyms, List.drop_succ_cons, List.drop_zero, List.map_append]
      exact List.take_left' (by rw [List.length_map, leBytes_length])
    · rw [triggerSyms, leBytes_one, List.map_append, ← List.cons_append, List.map_singleton, List.getLast?_concat]
  · intro l
    rw [uplinkStream_interrupted, uplinkSyms_length]

end Sys2Proof.Machine
end

section
/-!
PROOFS. A request of the host behind an outstanding one (O22).
-/
namespace Sys2Proof.Machine

/-- Port 0 ACTIVE: a request of the host is outstanding, and another one waits behind it. -/
def hostWaits : State :=
  { State.reset.setLink 0 lkActive with link := [(0, { req := some ⟨0, 0, true, none⟩, want := some (4, none) })] }

/-- The state is as the clause on CAM_REG_TIMEOUT asks. -/
theorem hostWaits_outstanding : (hostWaits.link_ 0).req = some ⟨0, 0, true, none⟩ ∧ hostWaits.linkState 0 ≠ lkBase := by decide +kernel

/-- As the outstanding request times out, the waiting one is sent and is outstanding in its place (R151). -/
theorem hostWaits_next : ((hostWaits.camTimeout 0).link_ 0).req = some ⟨1, 4, true, none⟩ := by decide +kernel

/-- Refutes O22: its clause on CAM_REG_TIMEOUT says that no request is outstanding afterwards, and lets a further request of the host wait
in the port's link state. That request is sent at once. -/
theorem not_portsTakeAnswersStatusAndLines : ¬ Obligations.PortsTakeAnswersStatusAndLines := by
  rintro ⟨-, h, -⟩
  obtain ⟨hreq, hbase⟩ := hostWaits_outstanding
  obtain ⟨t, ht, hnone, -⟩ := h 0 _ hostWaits hreq rfl hbase
  have he : t = hostWaits.camTimeout 0 := (Host.Outcome.next.inj ht).symm
  rw [he] at hnone
  exact absurd (hostWaits_next.symm.trans hnone) (by simp)

end Sys2Proof.Machine
end

section
/-!
PROOFS. Registers of a port and its quads that the operations of a link leave alone (R128, R172, R199), and the bring-up of a link (O19).
-/
namespace Sys2Proof.Machine

/-! ### Registers of a lane -/

/-- A register of a CP page below LANE_STAT or behind it is no LANE_STAT register. -/
theorem not_laneStat {p q off : Nat} (h : off < 0x050 ∨ 0x060 ≤ off) (ho : off < 4096) (k : Nat) (hk : k < 4) :
    Pg.CP p * 4096 + off ≠ Pg.CP q * 4096 + Rg.CP_LANE_STAT k := by
  show Pg.CP p * 4096 + off ≠ Pg.CP q * 4096 + (0x050 + 0x4 * k); omega

/-- The LANE_STAT registers of a quad are the quad's own, one for each lane. -/
theorem laneStat_inj {p q j k : Nat} (hj : j < 4) (hk : k < 4)
    (h : Pg.CP p * 4096 + Rg.CP_LANE_STAT j = Pg.CP q * 4096 + Rg.CP_LANE_STAT k) : p = q ∧ j = k := by
  have h' : (0x10 + p) * 4096 + (0x050 + 0x4 * j) = (0x10 + q) * 4096 + (0x050 + 0x4 * k) := h
  omega

/-- The codes of a slice show in a LANE_STAT register of the quad, or nowhere. -/
theorem State.putCodes_same {s : State} {a q k : Nat} {c : EqCodes} (h : ∀ j < 4, a ≠ Pg.CP q * 4096 + Rg.CP_LANE_STAT j) :
    RegSame a s (s.putCodes q k c) := by
  unfold State.putCodes
  extract_lets g j x
  have hx : RegSame a s x := RegSame.refl a s
  have hl : x.jkLane q < 4 := State.fld_lt ..
  clear_value x
  split
  · rename_i hk
    split
    · exact hx
    · exact (State.setFld_same (h k hk)).step hx
  · split
    · exact (State.setFld_same (h _ hl)).step hx
    · exact hx

/-- Codes are kept in the Joker's state and shown in registers. -/
theorem State.putCodes_link (s : State) (q k : Nat) (c : EqCodes) : (s.putCodes q k c).link = s.link ∧ (s.putCodes q k c).train = s.train := by
  unfold State.putCodes; dsimp only; split <;> split <;> exact ⟨rfl, rfl⟩

/-- LOCK is no part of the codes. -/
theorem State.putCodes_lock (s : State) (q k : Nat) (c : EqCodes) (g m : Nat) :
    (s.putCodes q k c).on g (Fd.CP_LANE_STAT_LOCK m) = s.on g (Fd.CP_LANE_STAT_LOCK m) := by
  have key (x : State) (j v : Nat) : (x.setFld (Pg.CP q) (Fd.CP_LANE_STAT_CTLE j) v).on g (Fd.CP_LANE_STAT_LOCK m) = x.on g (Fd.CP_LANE_STAT_LOCK m) :=
    State.on_setFld_apart _ _ _ _ _ _ (by show 11 + 4 ≤ 32; omega) (.inr (.inl (by show 0 + 1 ≤ 11; omega)))
  unfold State.putCodes
  extract_lets g' j x
  have hx : x.on g (Fd.CP_LANE_STAT_LOCK m) = s.on g (Fd.CP_LANE_STAT_LOCK m) := rfl
  clear_value x
  split
  · split
    · exact hx
    · exact (key ..).trans hx
  · split
    · exact (key ..).trans hx
    · exact hx

/-! ### Registers that decide to which port a lane belongs -/

/-- Outside the clock page and the LANE_STAT registers of a quad every register is the same. -/
def LaneSame (q : Nat) (s t : State) : Prop :=
  ∀ a, a / 4096 ≠ Pg.CLK → (∀ j < 4, a ≠ Pg.CP q * 4096 + Rg.CP_LANE_STAT j) → RegSame a s t

theorem LaneSame.step {q : Nat} {s t u : State} (k : LaneSame q t u) (h : LaneSame q s t) : LaneSame q s u :=
  fun a h1 h2 => (k a h1 h2).step (h a h1 h2)

section
variable {q : Nat} {s t : State} (h : LaneSame q s t)
include h

theorem LaneSame.rd {p off : Nat} (ho : off < 0x050 ∨ 0x060 ≤ off) (hf : off < 4096) : t.rd (Pg.CP p) off = s.rd (Pg.CP p) off :=
  h _ (by rw [addr_page hf]; unfold Pg.CP Pg.CLK; omega) (not_laneStat ho hf)

theorem LaneSame.fld {p : Nat} {f : Fld} (ho : f.off < 0x050 ∨ 0x060 ≤ f.off) (hf : f.off < 4096) : t.fld (Pg.CP p) f = s.fld (Pg.CP p) f := by
  unfold State.fld; rw [h.rd ho hf]

theorem LaneSame.linkState (p : Nat) : t.linkState p = s.linkState p := h.fld (.inl (by decide)) (by decide)

theorem LaneSame.lanes (p : Nat) : t.lanes p = s.lanes p := by rw [State.lanes_eq, State.lanes_eq, h.fld (.inl (by decide)) (by decide)]

theorem LaneSame.mode : t.mode = s.mode :=
  State.mode_of_regs (h _ (by decide) fun j hj => by show Pg.SYS * 4096 + 0x040 ≠ (0x10 + q) * 4096 + (0x050 + 0x4 * j); unfold Pg.SYS; omega)

theorem LaneSame.portOfQuad (r : Nat) : t.portOfQuad r = s.portOfQuad r := by
  have hp (g : Nat) : t.portOn g = s.portOn g := by
    unfold State.portOn State.blockOn State.on
    rw [h.mode, h.fld (.inl (by decide)) (by decide), h.fld (.inl (by decide)) (by decide)]
  unfold State.portOfQuad
  rw [hp, h.fld (.inl (by decide)) (by decide)]

theorem LaneSame.laneOf (r m : Nat) : t.laneOf r m = s.laneOf r m := by unfold State.laneOf; rw [h.portOfQuad]
end

/-- An odd quad of a ganged pair belongs to the port below, any other to its own. -/
theorem State.portOfQuad_cases (s : State) (q : Nat) : s.portOfQuad q = q ∨ (q % 2 = 1 ∧ s.portOfQuad q + 1 = q) := by
  unfold State.portOfQuad
  split
  · rename_i h
    simp only [Bool.and_eq_true, decide_eq_true_eq] at h
    exact .inr ⟨h.1.1, by omega⟩
  · exact .inl rfl

theorem State.portOfQuad_le (s : State) (q : Nat) : s.portOfQuad q ≤ q := by
  rcases s.portOfQuad_cases q with h | h <;> omega

/-- Lane `m` of a quad is the lane of its port that `locked` looks for there. -/
theorem State.laneOf_place (s : State) (q : Nat) (m : Fin 4) : s.portOfQuad q + s.laneOf q m / 4 = q ∧ s.laneOf q m % 4 = m := by
  have := s.portOfQuad_le q
  unfold State.laneOf
  omega

/-! ### The receive domain of a port (R44) -/

theorem State.clkRun_same {s : State} {a p kHz : Nat} (h : a / 4096 ≠ Pg.CLK) (hp : p < 16) : RegSame a s (s.clkRun p kHz) :=
  (State.wr_page h (by show 0x050 + 0x4 * p < 4096; omega)).step (State.setFld_page h (show 0x040 < 4096 by decide))

theorem State.clkLost_same {s : State} {a p : Nat} (h : a / 4096 ≠ Pg.CLK) (hp : p < 16) : RegSame a s (s.clkLost p) :=
  (State.wr_page h (by show 0x050 + 0x4 * p < 4096; omega)).step
    ((State.setFld_page h (by show 0x048 + 4 * (p / 32) < 4096; omega)).step (State.setFld_page h (by show 0x040 + 4 * (p / 32) < 4096; omega)))

/-- A receive domain that runs is locked and shows its frequency. -/
theorem State.clkRun_shows (s : State) {p : Nat} (kHz : Nat) (hp : p < 16) : (s.clkRun p kHz).on Pg.CLK ⟨Rg.CLK_LOCK0, p, 1⟩ = true ∧
    (s.clkRun p kHz).rd Pg.CLK (Rg.CLK_FREQ p) = BitVec.ofNat 32 kHz := by
  refine ⟨?_, State.rd_wr_same ..⟩
  unfold State.clkRun
  rw [State.on_wr_p (by show 0x040 ≠ 0x050 + 0x4 * p; omega), State.on_one (by show p + 1 ≤ 32; omega) Nat.one_ne_zero]

/-! ### A lane gains lock (R128, R164, R166) -/

/-- A lane with lock and the codes of its slice. -/
def State.laneUp (s : State) (q m : Nat) (c : EqCodes) : State :=
  (s.setFld (Pg.CP q) (Fd.CP_LANE_STAT_LOCK m) 1).putCodes q (s.sliceOf q m) c

/-- A lane with lock; a lane 0 lets the receive domain of its port run. -/
def State.laneShown (s : State) (q m : Nat) (c : EqCodes) (kHz : Nat) : State :=
  if s.laneOf q m = 0 then (s.laneUp q m c).clkRun (s.portOfQuad q) kHz else s.laneUp q m c

theorem State.laneUp_same (s : State) (q : Nat) (m : Fin 4) (c : EqCodes) : LaneSame q s (s.laneUp q m c) := fun _ _ h =>
  (State.putCodes_same h).step (State.setFld_same (h m m.isLt))

theorem State.laneUp_lock (s : State) (q : Nat) (m : Fin 4) (c : EqCodes) : (s.laneUp q m c).on (Pg.CP q) (Fd.CP_LANE_STAT_LOCK m) = true := by
  unfold State.laneUp
  rw [State.putCodes_lock, State.on_one (show 0 + 1 ≤ 32 by decide) Nat.one_ne_zero]

/-- The locks of the other lanes stay. -/
theorem State.laneUp_locked (s : State) (q : Nat) (m : Fin 4) (c : EqCodes) {p k : Nat} (h : s.locked p k = true) :
    (s.laneUp q m c).locked p k = true := by
  have hk : k % 4 < 4 := Nat.mod_lt _ (by decide)
  unfold State.locked at h ⊢
  by_cases e : p + k / 4 = q ∧ k % 4 = m
  · rw [e.1, e.2]; exact s.laneUp_lock q m c
  · unfold State.laneUp
    rw [State.putCodes_lock, State.on_setFld_apart _ _ _ _ _ _ (show 0 + 1 ≤ 32 by decide) (.inl fun h => e (laneStat_inj hk m.isLt h)), h]

theorem State.laneShown_same (s : State) (q : Fin 16) (m : Fin 4) (c : EqCodes) (kHz : Nat) : LaneSame q s (s.laneShown q m c kHz) := by
  have hp : s.portOfQuad q < 16 := Nat.lt_of_le_of_lt (s.portOfQuad_le q) q.isLt
  unfold State.laneShown
  split
  · exact LaneSame.step (fun a h _ => State.clkRun_same h hp) (s.laneUp_same q m c)
  · exact s.laneUp_same q m c

theorem State.laneShown_on (s : State) (q : Fin 16) (m : Fin 4) (c : EqCodes) (kHz g j : Nat) :
    (s.laneShown q m c kHz).on (Pg.CP g) (Fd.CP_LANE_STAT_LOCK (j % 4)) = (s.laneUp q m c).on (Pg.CP g) (Fd.CP_LANE_STAT_LOCK (j % 4)) := by
  have hp : s.portOfQuad q < 16 := Nat.lt_of_le_of_lt (s.portOfQuad_le q) q.isLt
  unfold State.laneShown
  split
  · refine RegSame.on (State.clkRun_same ?_ hp)
    show ((0x10 + g) * 4096 + (0x050 + 0x4 * (j % 4))) / 4096 ≠ 0x03; omega
  · rfl

theorem State.laneShown_locked (s : State) (q : Fin 16) (m : Fin 4) (c : EqCodes) (kHz p k : Nat) :
    (s.laneShown q m c kHz).locked p k = (s.laneUp q m c).locked p k := State.laneShown_on ..

theorem State.laneUp_link (s : State) (q m : Nat) (c : EqCodes) : (s.laneUp q m c).link = s.link := (State.putCodes_link ..).1

theorem State.laneShown_link (s : State) (q m : Nat) (c : EqCodes) (kHz : Nat) : (s.laneShown q m c kHz).link = s.link := by
  unfold State.laneShown
  split
  · rw [← s.laneUp_link q m c]; rfl
  · exact s.laneUp_link q m c

theorem State.laneShown_out (s : State) (q m : Nat) (c : EqCodes) (kHz : Nat) : (s.laneShown q m c kHz).out = s.out := by
  have h : (s.laneUp q m c).out = s.out := by unfold State.laneUp; rw [(State.putCodes_within ..).out_eq rfl, State.setFld_out]
  unfold State.laneShown
  split
  · exact ((State.clkRun_within ..).out_eq rfl).trans h
  · exact h

/-- What a lane that gains lock sets off in its port. -/
theorem State.lockGained_eq {s : State} {q : Fin 16} {m : Fin 4} {c : EqCodes} {kHz : Nat} (h1 : s.linkState (s.portOfQuad q) ≠ lkDisabled)
    (h2 : s.linkState (s.portOfQuad q) ≠ lkFailed) : s.lockGained q m c kHz =
      let p := s.portOfQuad q
      let x := s.laneShown q m c kHz
      if s.linkState p = lkBase then
        if s.laneOf q m = 0 then (x.setFld (Pg.CP p) Fd.CP_LINK_STAT_NO_CAMERA 0).nextRequest p else x
      else x.rateLockAll p := by
  have hx := (s.laneShown_same q m c kHz).laneOf q m
  have hu := (s.laneUp_same q m c).laneOf q m
  unfold State.laneShown at hx ⊢
  unfold State.laneUp at hx hu ⊢
  unfold State.lockGained
  dsimp only
  rw [if_neg (by tauto), hu, hx]

/-- Lock on every lane in RATE changes no register but LINK_STAT. -/
theorem State.rateLockAll_same {s : State} {a p : Nat} (h : a ≠ Pg.CP p * 4096 + Rg.CP_LINK_STAT) : RegSame a s (s.rateLockAll p) := by
  unfold State.rateLockAll
  split
  · refine RegSame.foldl ?_ fun t m ht => RegSame.step (RegSame.of_regs (t.startTrain_regs p m)) ht
    exact RegSame.step (RegSame.of_regs (State.putLink_regs ..)) (State.setFld_same h)
  · exact RegSame.refl a s

/-- What gaining lock sets off in the port changes no register but its LINK_STAT. -/
theorem State.lockGained_same {s : State} {q : Fin 16} {m : Fin 4} {c : EqCodes} {kHz a : Nat} (h1 : s.linkState (s.portOfQuad q) ≠ lkDisabled)
    (h2 : s.linkState (s.portOfQuad q) ≠ lkFailed) (ha : a ≠ Pg.CP (s.portOfQuad q) * 4096 + Rg.CP_LINK_STAT) :
    RegSame a (s.laneShown q m c kHz) (s.lockGained q m c kHz) := by
  rw [State.lockGained_eq h1 h2]
  dsimp only
  split
  · split
    · exact RegSame.step (RegSame.of_regs (State.nextRequest_regs ..)) (State.setFld_same ha)
    · exact RegSame.refl ..
  · exact State.rateLockAll_same ha

/-- A port in BASE with lock on lane 0 and no request outstanding asks for its next identity register (R164). -/
theorem State.nextRequest_ident {s : State} {p : Nat} (h : s.linkState p = lkBase) (hl : s.locked p 0 = true) (hr : (s.link_ p).req = none)
    (hn : (s.link_ p).identN < 8) : s.nextRequest p = s.readIdent p := by
  unfold State.nextRequest
  dsimp only
  rw [hr, if_neg (by decide), if_pos ⟨h, hl, hn⟩]

theorem State.readIdent_shows (s : State) (p : Nat) :
    ((s.readIdent p).link_ p).req = some ⟨s.nextTag p, 4 * (s.link_ p).identN, false, none⟩ ∧
    (s.readIdent p).out = s.out ++ [.uplink p (uplinkSyms 0x82 (s.nextTag p) 0 0 (4 * (s.link_ p).identN) 0)] := by
  unfold State.readIdent State.uplink
  dsimp only
  rw [State.emit_link_, State.link_putLink, State.emit_out, State.putLink_out]
  exact ⟨rfl, rfl⟩

/-- The lane that gains lock shows it, and a lane 0 shows the receive domain of its port. -/
theorem lockGained_shown {s : State} {q : Fin 16} {m : Fin 4} {c : EqCodes} {kHz : Nat} (h1 : s.linkState (s.portOfQuad q) ≠ lkDisabled)
    (h2 : s.linkState (s.portOfQuad q) ≠ lkFailed) :
    let p := s.portOfQuad q
    let t := s.lockGained q m c kHz
    t.on (Pg.CP q) (Fd.CP_LANE_STAT_LOCK m) = true ∧
      (s.laneOf q m = 0 → p < 16 → t.on Pg.CLK ⟨Rg.CLK_LOCK0, p, 1⟩ = true ∧ t.rd Pg.CLK (Rg.CLK_FREQ p) = BitVec.ofNat 32 kHz) := by
  intro p t
  have clk {off : Nat} (h : off < 4096) : Pg.CLK * 4096 + off ≠ Pg.CP p * 4096 + Rg.CP_LINK_STAT := by
    show 0x03 * 4096 + off ≠ (0x10 + p) * 4096 + 0x044; omega
  refine ⟨?_, fun h0 hp => ?_⟩
  · have hl : Pg.CP q * 4096 + Rg.CP_LANE_STAT m ≠ Pg.CP p * 4096 + Rg.CP_LINK_STAT := (not_laneStat (.inl (by decide)) (by decide) m m.isLt).symm
    refine (RegSame.on (State.lockGained_same h1 h2 hl)).trans ?_
    have := s.laneShown_on q m c kHz q m
    rw [Nat.mod_eq_of_lt m.isLt] at this
    rw [this, State.laneUp_lock]
  · have hx : s.laneShown q m c kHz = (s.laneUp q m c).clkRun p kHz := if_pos h0
    obtain ⟨hon, hrd⟩ := (s.laneUp q m c).clkRun_shows kHz hp
    rw [← hx] at hon hrd
    exact ⟨(RegSame.on (State.lockGained_same h1 h2 (clk (show 0x040 < 4096 by decide)))).trans hon,
      (RegSame.rd (State.lockGained_same h1 h2 (clk (by show 0x050 + 0x4 * p < 4096; omega)))).trans hrd⟩

/-- Lock on lane 0 in BASE requests the next identity register. -/
theorem lockGained_base {s : State} {q : Fin 16} {m : Fin 4} {c : EqCodes} {kHz : Nat} (hb : s.linkState (s.portOfQuad q) = lkBase)
    (h0 : s.laneOf q m = 0) (hr : (s.link_ (s.portOfQuad q)).req = none) (hn : (s.link_ (s.portOfQuad q)).identN < 8) :
    let p := s.portOfQuad q
    let t := s.lockGained q m c kHz
    (t.link_ p).req = some ⟨s.nextTag p, 4 * (s.link_ p).identN, false, none⟩ ∧
      t.out = s.out ++ [.uplink p (uplinkSyms 0x82 (s.nextTag p) 0 0 (4 * (s.link_ p).identN) 0)] := by
  intro p t
  have hl : (s.laneUp q m c).locked p 0 = true := by
    obtain ⟨hq, hm⟩ := s.laneOf_place q m
    rw [h0] at hq hm
    unfold State.locked
    rw [hq, hm]
    exact s.laneUp_lock q m c
  generalize hx : (s.laneShown q m c kHz).setFld (Pg.CP p) Fd.CP_LINK_STAT_NO_CAMERA 0 = x
  have hk : x.link_ p = s.link_ p := by rw [← hx, State.link_setFld]; unfold State.link_; rw [State.laneShown_link]
  have hs : x.linkState p = lkBase := by
    rw [← hx, State.linkState_eq, State.fld_setFld_p (by decide) (by decide)]
    exact ((s.laneShown_same q m c kHz).linkState p).trans hb
  have hlx : x.locked p 0 = true := by
    rw [← hl, ← State.laneShown_locked (kHz := kHz), ← hx]
    exact State.on_setFld_off _ _ (by decide) (by decide) (by decide)
  have ht : t = x.readIdent p := by
    show s.lockGained q m c kHz = _
    rw [State.lockGained_eq (by rw [hb]; decide) (by rw [hb]; decide), ← State.nextRequest_ident hs hlx (by rw [hk]; exact hr) (by rw [hk]; exact hn)]
    dsimp only
    rw [if_pos hb, if_pos h0, hx]
  have ho : x.out = s.out := by rw [← hx, State.setFld_out, State.laneShown_out]
  obtain ⟨h1, h2⟩ := x.readIdent_shows p
  rw [ht, h1, h2, hk, ho, State.nextTag_of hk]
  exact ⟨rfl, rfl⟩

/-- Lock on the last lane in RATE moves the link to TRAIN. -/
theorem lockGained_rate {s : State} {q : Fin 16} {m : Fin 4} {c : EqCodes} {kHz : Nat} (hr : s.linkState (s.portOfQuad q) = lkRate)
    (hall : ∀ k, k < s.lanes (s.portOfQuad q) → k ≠ s.laneOf q m → s.locked (s.portOfQuad q) k = true) :
    let p := s.portOfQuad q
    let t := s.lockGained q m c kHz
    t.linkState p = lkTrain ∧ (t.link_ p).trainCtl = s.rd (Pg.CP p) Rg.CP_TRAIN_CTL := by
  intro p t
  have hs := s.laneShown_same q m c kHz
  have hl (k : Nat) (hk : k < (s.laneShown q m c kHz).lanes p) : (s.laneShown q m c kHz).locked p k = true := by
    rw [State.laneShown_locked]
    by_cases e : k = s.laneOf q m
    · obtain ⟨hq, hm⟩ := s.laneOf_place q m
      unfold State.locked
      rw [e, hq, hm]
      exact s.laneUp_lock q m c
    · exact s.laneUp_locked q m c (hall k (by rwa [hs.lanes] at hk) e)
  have ht : t = (s.laneShown q m c kHz).rateLockAll p := by
    show s.lockGained q m c kHz = _
    rw [State.lockGained_eq (by rw [hr]; decide) (by rw [hr]; decide)]
    exact if_neg (by rw [hr]; decide)
  rw [ht, ← hs.rd (.inl (by decide)) (by decide)]
  exact State.rateLockAll_shows ((hs.linkState p).trans hr) hl

/-! ### A lane loses lock (R128, R166, R192) -/

/-- A link that enters BASE changes no register but its LINK_STAT. -/
theorem State.enterBase_same {s : State} {a p : Nat} (h : a ≠ Pg.CP p * 4096 + Rg.CP_LINK_STAT) : RegSame a s (s.enterBase p) := by
  obtain ⟨l, e⟩ := s.enterBase_eq p
  rw [e]
  refine RegSame.step (RegSame.of_regs (State.nextRequest_regs ..)) (RegSame.step (RegSame.of_regs (State.linkCmd_regs ..)) ?_)
  refine RegSame.step (RegSame.of_regs ((State.dropTrain_regs ..).trans (State.putLink_regs ..))) ?_
  exact (State.setFld_same h).step ((State.setFld_same h).step (State.setFld_same h))

theorem State.lostOne_shows (s : State) (q : Nat) (m : Fin 4) (p : Nat) : (s.lostOne q m p).on (Pg.CP q) (Fd.CP_LANE_STAT_LOCK m) = false ∧
    (s.lostOne q m p).fld (Pg.CP p) Fd.CP_ERR_CNT2_LOCK_LOSS = satN 8 (s.fld (Pg.CP p) Fd.CP_ERR_CNT2_LOCK_LOSS + 1) := by
  have ho : (Fd.CP_LANE_STAT_LOCK m).off < 0x060 := by show 0x050 + 0x4 * m.val < 0x060; omega
  unfold State.lostOne
  constructor
  · rw [State.on_bump_off _ (show 0x070 ≠ 0x050 + 0x4 * m.val by omega) (by decide) (by omega), State.on_zero (show 0 + 1 ≤ 32 by decide)]
  · rw [State.fld_bump _ _ _ (by decide), State.fld_setFld_off _ _ (show 0x050 + 0x4 * m.val ≠ 0x070 by omega) (by omega) (by decide)]

theorem State.lostOne_linkState (s : State) (q : Nat) (m : Fin 4) (p r : Nat) : (s.lostOne q m p).linkState r = s.linkState r :=
  State.lostOne_fld _ _ _ _ (by decide)

/-- A lane that no Joker covers is lost: its receive domain stops with a lane 0, and the port enters BASE. -/
theorem State.lockLost_uncovered {s : State} {q : Nat} {m : Fin 4} {p : Nat} (hp : p = s.portOfQuad q) (h : s.linkState p = 4 ∨ s.linkState p = 5)
    (hl : s.laneOf q m < s.lanes p) (hc : s.jkCovers q m = false) :
    s.lockLost q m = (if s.laneOf q m = 0 then (s.lostOne q m p).clkLost p else s.lostOne q m p).enterBase p := by
  have hj : (s.lostOne q m p).jkCovers q m = false := by
    rw [← hc]
    unfold State.jkCovers State.jkLane State.jkState State.on
    rw [State.lostOne_fld _ _ _ _ (by decide), State.lostOne_fld _ _ _ _ (by decide), State.lostOne_fld _ _ _ _ (by decide)]
  have ho : (s.lostOne q m p).laneOf q m = s.laneOf q m := by
    unfold State.laneOf
    rw [State.portOfQuad_of fun g f hf => State.lostOne_fld _ _ _ _ (.inl (by omega))]
  unfold State.lostOne at hj ho ⊢
  unfold State.lockLost
  dsimp only
  rw [← hp, if_neg (by unfold lkDisabled lkFailed; omega), if_neg (by simp; omega), if_pos (by exact h), hj, Bool.and_false, ho]
  simp only [Bool.not_false, and_true, Bool.false_eq_true, if_false]

/-- A used lane that loses lock in ALIGN or ACTIVE, whether a Joker covers it or not. -/
theorem lockLost_shows {s : State} {q : Fin 16} {m : Fin 4} (h : s.linkState (s.portOfQuad q) = lkAlign ∨ s.linkState (s.portOfQuad q) = lkActive)
    (hl : s.laneOf q m < s.lanes (s.portOfQuad q)) :
    let p := s.portOfQuad q
    let t := s.lockLost q m
    t.on (Pg.CP q) (Fd.CP_LANE_STAT_LOCK m) = false ∧
      t.fld (Pg.CP p) Fd.CP_ERR_CNT2_LOCK_LOSS = satN 8 (s.fld (Pg.CP p) Fd.CP_ERR_CNT2_LOCK_LOSS + 1) ∧
      (s.jkCovers q m = false → t.linkState p = lkBase) ∧
      (s.jkCovers q m = true → t.linkState p = s.linkState p ∧
        (s.jkState q = jkStandby → (t.jk q).stage = .takeover ∧ (t.jk q).lane = m)) := by
  intro p t
  have hp : p < 16 := Nat.lt_of_le_of_lt (s.portOfQuad_le q) q.isLt
  obtain ⟨h1, h2⟩ := s.lostOne_shows q m p
  cases hc : s.jkCovers q m with
  | false =>
    have ht : t = (if s.laneOf q m = 0 then (s.lostOne q m p).clkLost p else s.lostOne q m p).enterBase p := State.lockLost_uncovered rfl h hl hc
    have same {g off : Nat} (ho : off < 4096) (hn : off ≠ Rg.CP_LINK_STAT) : RegSame (Pg.CP g * 4096 + off) (s.lostOne q m p) t := by
      rw [ht]
      refine RegSame.step (State.enterBase_same ?_) ?_
      · show (0x10 + g) * 4096 + off ≠ (0x10 + p) * 4096 + 0x044
        have : off ≠ 0x044 := hn
        omega
      · split
        · exact State.clkLost_same (by rw [addr_page ho]; unfold Pg.CP Pg.CLK; omega) hp
        · exact RegSame.refl ..
    refine ⟨?_, ?_, fun _ => ?_, nofun⟩
    · exact (RegSame.on (same (by show 0x050 + 0x4 * m.val < 4096; omega) (by show 0x050 + 0x4 * m.val ≠ 0x044; omega))).trans h1
    · exact (RegSame.fld (same (by decide) (by decide))).trans h2
    · rw [ht]; exact (State.enterBase_shows _ p).1
  | true =>
    have ht : t = if s.jkState q = 1 then (s.lostOne q m p).putJk q { (s.lostOne q m p).jk q with stage := .takeover, lane := m } else s.lostOne q m p :=
      State.lockLost_covered rfl h hl hc
    have hr : t.regs = (s.lostOne q m p).regs := by rw [ht]; split <;> rfl
    refine ⟨(State.on_of hr ..).trans h1, (State.fld_of hr ..).trans h2, nofun, fun _ => ⟨?_, fun hj => ?_⟩⟩
    · rw [State.linkState_of hr, State.lostOne_linkState]
    · rw [ht, if_pos hj, State.jk_putJk]
      exact ⟨rfl, rfl⟩

/-! ### Alignment markers (R130-R133, R166) -/

/-- A key of a fold that writes each listed key with a value of its own. -/
theorem tabGet_foldl_tabPut {α : Type} [DecidableEq α] (d f : Nat → α) (k : Nat) (l : List Nat) (t : Tab α) :
    tabGet d (l.foldl (fun t m => tabPut d m (f m) t) t) k = if k ∈ l then f k else tabGet d t k := by
  induction l generalizing t with
  | nil => rfl
  | cons m l ih =>
    rw [List.foldl_cons, ih, tabGet_tabPut]
    by_cases h : k ∈ l
    · simp [h]
    · by_cases e : k = m <;> simp [h, e]

/-- A lane of the port is lost at a marker position: DESKEW_OK holds, and the lane's marker is bad for the second time in a row. -/
def State.markLost (s : State) (p : Nat) (marks : List (Option (Nat × Nat))) : Prop :=
  s.on (Pg.CP p) Fd.CP_LINK_STAT_DESKEW_OK = true ∧
    ∃ k, k < s.lanes p ∧ markGood (marks.take (s.lanes p)) k = false ∧ 1 ≤ tabGet (dflt 0) (s.link_ p).badMarks k

theorem State.marksBad_two {s : State} {p k : Nat} {marks : List (Option (Nat × Nat))} (hk : k < s.lanes p) :
    2 ≤ tabGet (dflt 0) (s.marksBad p marks) k ↔ markGood (marks.take (s.lanes p)) k = false ∧ 1 ≤ tabGet (dflt 0) (s.link_ p).badMarks k := by
  unfold State.marksBad
  rw [tabGet_foldl_tabPut (dflt 0) fun m => if markGood (marks.take (s.lanes p)) m then 0 else tabGet (dflt 0) (s.link_ p).badMarks m + 1,
    if_pos (List.mem_range.mpr hk)]
  cases markGood (marks.take (s.lanes p)) k with
  | true => simp
  | false => simp

theorem State.markLost_iff (s : State) (p : Nat) (marks : List (Option (Nat × Nat))) : s.markLost p marks ↔
    (s.on (Pg.CP p) Fd.CP_LINK_STAT_DESKEW_OK && (List.range (s.lanes p)).any fun m => decide (2 ≤ tabGet (dflt 0) (s.marksBad p marks) m)) = true := by
  unfold State.markLost
  simp only [Bool.and_eq_true, List.any_eq_true, List.mem_range, decide_eq_true_eq]
  exact and_congr_right fun _ => exists_congr fun k => and_congr_right fun hk => (State.marksBad_two hk).symm

/-- A loss leads to ALIGN, clears DESKEW_OK and the good positions, and is counted. -/
theorem State.markStep_lost {s : State} {p : Nat} {marks : List (Option (Nat × Nat))} (h : s.markLost p marks) :
    (s.markStep p marks).linkState p = lkAlign ∧ (s.markStep p marks).on (Pg.CP p) Fd.CP_LINK_STAT_DESKEW_OK = false ∧
      ((s.markStep p marks).link_ p).goodMarks = 0 ∧
      (s.markStep p marks).fld (Pg.CP p) Fd.CP_ERR_CNT2_AM_LOSS = satN 8 (s.fld (Pg.CP p) Fd.CP_ERR_CNT2_AM_LOSS + 1) := by
  unfold State.markStep
  rw [if_pos ((s.markLost_iff p marks).mp h)]
  unfold State.setLink
  refine ⟨?_, ?_, ?_, ?_⟩
  · rw [State.linkState_eq, State.fld_bump_p (by decide) (by decide), State.putLink_fld, State.fld_setFld_p (by decide) (by decide),
      State.fld_fits (by decide) (by decide)]
  · rw [State.on_bump_p (by decide) (by decide), State.putLink_on, State.on_zero (by decide)]
  · rw [State.bump_link_, State.link_putLink]
  · rw [State.fld_bump _ _ _ (by decide), State.putLink_fld, State.fld_setFld_p (by decide) (by decide), State.fld_setFld_p (by decide) (by decide)]

/-- A marker position in ALIGN without a loss: an aligned one sets DESKEW_OK, and the second in a row starts the link. -/
theorem State.markStep_align {s : State} {p : Nat} {marks : List (Option (Nat × Nat))} (ha : s.linkState p = lkAlign) (h : ¬s.markLost p marks) :
    (s.markStep p marks).on (Pg.CP p) Fd.CP_LINK_STAT_DESKEW_OK = (marksAligned marks (s.lanes p) || s.on (Pg.CP p) Fd.CP_LINK_STAT_DESKEW_OK) ∧
      (marksAligned marks (s.lanes p) = true ∧ 1 ≤ (s.link_ p).goodMarks → (s.markStep p marks).linkState p = lkActive ∧
        (s.markStep p marks).out = s.out ++ [.uplink p (uplinkSyms 0x85 0 3 (s.lanes p) (s.fld (Pg.CP p) Fd.CP_PORT_CTL_RATE) 0)]) ∧
      (marksAligned marks (s.lanes p) = false ∨ (s.link_ p).goodMarks = 0 → (s.markStep p marks).linkState p = lkAlign ∧
        (s.markStep p marks).out = s.out) := by
  unfold State.markStep
  rw [if_neg fun k => h ((s.markLost_iff p marks).mpr k), if_pos ha]
  cases marksAligned marks (s.lanes p) with
  | false => exact ⟨rfl, nofun, fun _ => ⟨ha, rfl⟩⟩
  | true =>
    simp only [if_true, Bool.true_or]
    generalize hx : s.putLink p _ = x
    have hxo : x.out = s.out := by rw [← hx]; rfl
    have hxf (f : Fld) : x.fld (Pg.CP p) f = s.fld (Pg.CP p) f := by rw [← hx]; rfl
    by_cases hg : 2 ≤ (s.link_ p).goodMarks + 1
    · rw [if_pos hg]
      unfold State.setLink
      refine ⟨?_, fun _ => ⟨?_, ?_⟩, fun k => absurd (k.resolve_left nofun) (by omega)⟩
      · rw [State.on_of (State.linkCmd_regs ..), State.on_setFld_p (by decide) (by decide), State.on_one (by decide) (by decide)]
      · rw [State.linkState_of (State.linkCmd_regs ..), State.linkState_eq, State.fld_fits (by decide) (by decide)]
      · rw [State.linkCmd_out, State.setFld_out, State.setFld_out, hxo, State.lanes_eq, State.lanes_eq]
        rw [State.fld_setFld_p (by decide) (by decide), State.fld_setFld_p (by decide) (by decide), hxf, State.fld_setFld_p (by decide) (by decide),
          State.fld_setFld_p (by decide) (by decide), hxf]
    · rw [if_neg hg]
      refine ⟨State.on_one (by decide) (by decide), fun k => absurd k.2 (by omega), fun _ => ⟨?_, hxo⟩⟩
      rw [State.linkState_eq, State.fld_setFld_p (by decide) (by decide), hxf]
      exact ha

/-- A marker position whose quads' Jokers hand nothing over does to the link what its markers say. -/
theorem State.alignMarker_still {s : State} {p : Fin 16} {marks : List (Option (Nat × Nat))} (h : s.linkState p = lkAlign ∨ s.linkState p = lkActive)
    (hj : ∀ k, k < 2 → (s.jk (p + k)).stage = .none) : s.alignMarker p marks = s.markStep p marks := by
  rw [State.alignMarker_eq h, State.jokers_none (State.markStep_joker ..) hj]

/-! ### Heartbeats (R149) -/

theorem State.heartbeat_shows {s : State} {p : Nat} (h : s.linkState p ≠ lkDisabled) :
    let n := ((s.link_ p).hbCount + 1) % 2 ^ 32
    let st := s.linkState p
    let t := s.heartbeat p
    (t.link_ p).hbCount = n ∧ (t.link_ p).hbSeen = false ∧ (t.link_ p).hbDue = (st == lkBase || st == lkAlign || st == lkActive) ∧
      t.fld (Pg.CP p) Fd.CP_ERR_CNT2_HB_MISS = (if (s.link_ p).hbDue && !(s.link_ p).hbSeen
        then satN Fd.CP_ERR_CNT2_HB_MISS.len (s.fld (Pg.CP p) Fd.CP_ERR_CNT2_HB_MISS + 1) else s.fld (Pg.CP p) Fd.CP_ERR_CNT2_HB_MISS) ∧
      t.out = s.out ++ [.uplink p (uplinkSyms 0x83 0 0 0 0 n)] := by
  intro n st t
  obtain ⟨x, l, ht, hl, ho, hf⟩ : ∃ (x : State) (l : Link), t = (x.putLink p l).uplink p 0x83 0 0 0 0 n ∧
      l = { s.link_ p with hbCount := n, hbSeen := false, hbDue := st == lkBase || st == lkAlign || st == lkActive } ∧ x.out = s.out ∧
      x.fld (Pg.CP p) Fd.CP_ERR_CNT2_HB_MISS = (if (s.link_ p).hbDue && !(s.link_ p).hbSeen
        then satN Fd.CP_ERR_CNT2_HB_MISS.len (s.fld (Pg.CP p) Fd.CP_ERR_CNT2_HB_MISS + 1) else s.fld (Pg.CP p) Fd.CP_ERR_CNT2_HB_MISS) := by
    refine ⟨_, _, if_neg h, rfl, ?_, ?_⟩
    · exact ite_kept (·.out) (State.bump_out ..)
    · rw [Bool.and_comm]
      split
      · exact State.fld_bump _ _ _ (by decide)
      · rfl
  rw [ht]
  unfold State.uplink
  rw [State.emit_link_, State.link_putLink, State.emit_out, State.putLink_out, ho, hl]
  exact ⟨rfl, rfl, rfl, hf, rfl⟩

/-! ### The timers of a link (R166) -/

theorem noCameraTimeout_shows {s : State} {p : Fin 16} (h : s.linkState p = lkBase) (hl : s.locked p 0 = false) :
    ∃ t, exec (.noCameraTimeout p) s = .next t ∧ t.on (Pg.CP p) Fd.CP_LINK_STAT_NO_CAMERA = true ∧
      t.out = s.out ++ [.uplink p (uplinkSyms 0x85 0 0 (s.lanes p) (s.fld (Pg.CP p) Fd.CP_PORT_CTL_RATE) 0)] ∧
      regsKept [Pg.CP p * 4096 + Rg.CP_LINK_STAT] s t := by
  refine ⟨_, next_eq (if_pos (by rw [h, hl]; rfl)), ?_, ?_, regsKept_one fun b hb => ?_⟩
  · rw [State.on_of (State.linkCmd_regs ..), State.on_one (by decide) (by decide)]
  · rw [State.linkCmd_out, State.setFld_out, State.lanes_eq, State.fld_setFld_p (by decide) (by decide), State.fld_setFld_p (by decide) (by decide),
      ← State.lanes_eq]
  · exact RegSame.step (RegSame.of_regs (State.linkCmd_regs ..)) (State.setFld_same hb)

/-- A port in FAILED, or in BASE without a camera, sends LINK BASE again and does nothing else. -/
theorem linkBaseResend_sends {s : State} {p : Fin 16}
    (h : s.linkState p = lkFailed ∨ (s.linkState p = lkBase ∧ s.on (Pg.CP p) Fd.CP_LINK_STAT_NO_CAMERA = true)) :
    exec (.linkBaseResend p) s = .next (s.emit (.uplink p (uplinkSyms 0x85 0 0 (s.lanes p) (s.fld (Pg.CP p) Fd.CP_PORT_CTL_RATE) 0))) := by
  refine next_eq (if_pos ?_)
  rcases h with h | ⟨h, hn⟩
  · rw [h]; rfl
  · rw [h, hn]; rfl

/-- Settles O19: gained and lost locks by what the port makes of them, marker positions by whether they lose a lane, timers by the state that
they enter. -/
theorem linksComeUpAndTimeOut : Obligations.LinksComeUpAndTimeOut := by
  refine ⟨fun q m c kHz s => ?_, fun q m s h hl => ⟨_, rfl, lockLost_shows h hl⟩, fun p marks s hj => ?_,
    fun p s h => ⟨_, rfl, State.heartbeat_shows h⟩, fun p s => ?_⟩
  · refine ⟨_, rfl, fun h => lockGained_shown h.1 h.2, ?_, ?_⟩
    · rintro ⟨hb, h0, hr, hn⟩
      exact lockGained_base hb h0 hr hn
    · rintro ⟨hr, -, hall⟩
      exact lockGained_rate hr hall
  · refine ⟨_, rfl, fun ha hlost => ?_, fun h hlost => ?_⟩
    · rw [State.alignMarker_still (.inl ha) hj]
      exact State.markStep_align ha hlost
    · rw [State.alignMarker_still h hj]
      exact State.markStep_lost hlost
  · have fails {c : Nat} (hc : c < 16) : (s.failLink p c 0).linkState p = lkFailed ∧ (s.failLink p c 0).fld (Pg.CP p) Fd.CP_LINK_STAT_CAUSE = c := by
      obtain ⟨hs, hcause, -⟩ := s.failLink_shows p.isLt hc (show 0 < 8 by decide)
      exact ⟨hs, hcause⟩
    exact ⟨fun h => ⟨_, next_eq (if_pos h), s.enterBase_shows p⟩, fun h => ⟨_, next_eq (if_pos h), s.enterBase_shows p⟩,
      noCameraTimeout_shows, linkBaseResend_sends, fun h => ⟨_, next_eq (if_pos h), fails (by decide)⟩,
      fun h => ⟨_, next_eq (if_pos h), fails (by decide)⟩, fun h => ⟨_, next_eq (if_pos h), fails (by decide)⟩⟩

end Sys2Proof.Machine
end

section
/-!
PROOFS. The training of a lane (O20).
-/
namespace Sys2Proof.Machine

theorem State.train_putTrain_of_ne (s : State) {p k m : Nat} (t : Train) (h : k ≠ m) : (s.putTrain p m t).train_ p k = s.train_ p k :=
  tabGet_tabPut_of_ne _ _ _ (by omega)

theorem State.train_of {s t : State} (h : t.train = s.train) (p m : Nat) : t.train_ p m = s.train_ p m := by unfold State.train_; rw [h]

/-! ### Training ordered sets (R158, R161) -/

/-- A training ordered set of six bytes and their CRC-8, read. -/
theorem readSet_eq (a b c d e f g : Byte) : readSet ⟨[.tsk, .data a, .data b, .data c, .data d, .data e, .data f, .data g]⟩ =
    if crc8 [a, b, c, d, e, f] = g.toNat then some ⟨a.toNat, b.toNat, c.toNat, d.toNat, e.toNat, f.toNat⟩ else none := rfl

/-- A set that cannot be read changes nothing. -/
theorem State.trainingSet_none {s : State} {p : Nat} {x : TrainSet} (h : readSet x = none) : s.trainingSet p x = s := by
  unfold State.trainingSet; rw [h]

/-- A set with the outstanding tag of a lane of the port acknowledges its request. -/
theorem State.trainingSet_acks {s : State} {p : Nat} {x : TrainSet} {a : SetFields} {code pre n : Nat} (h : readSet x = some a)
    (hs : s.linkState p = lkTrain) (hm : a.lane < s.lanes p) (ho : (s.train_ p a.lane).out = some (a.tag, code, pre, n)) :
    s.trainingSet p x = s.eqAck p a.lane a := by
  unfold State.trainingSet
  rw [h]
  dsimp only
  rw [ho]
  exact if_pos ⟨hs, hm, rfl⟩

/-- A preset in force asks for a scan (R174, R176). -/
theorem State.eqAck_inForce {s : State} {p m k : Nat} {a : SetFields} (h : (s.train_ p m).phase = .sweep k) (h2 : a.status ≠ 2) (h3 : a.status ≠ 3) :
    s.eqAck p m a = (s.putTrain p m { s.train_ p m with out := none }).putTrain p m { s.train_ p m with out := none, scanDue := true } := by
  unfold State.eqAck
  dsimp only
  rw [h]
  dsimp only
  rw [beq_false_of_ne h2, beq_false_of_ne h3]
  rfl

/-- A refused preset goes on with the next one (R176). -/
theorem State.eqAck_refused {s : State} {p m k : Nat} {a : SetFields} (h : (s.train_ p m).phase = .sweep k) (hr : a.status = 2 ∨ a.status = 3) :
    s.eqAck p m a = (s.putTrain p m { s.train_ p m with out := none }).sweepFrom p m (k + 1) := by
  unfold State.eqAck
  dsimp only
  rw [h]
  dsimp only
  exact if_pos (by rcases hr with hr | hr <;> rw [hr] <;> rfl)

/-- The state with a lane given DONE: its setting shown, its training over (R178). -/
def State.laneTrained (s : State) (p m pre post : Nat) : State :=
  (((s.putTrain p m { s.train_ p m with out := none }).setFld (Pg.CP (p + m / 4)) (Fd.CP_LANE_STAT_PRE (m % 4)) pre).setFld (Pg.CP (p + m / 4))
    (Fd.CP_LANE_STAT_POST (m % 4)) post).putTrain p m { s.train_ p m with out := none, phase := .trained }

theorem State.eqAck_finish {s : State} {p m : Nat} {a : SetFields} (h : (s.train_ p m).phase = .finish) :
    s.eqAck p m a = (s.laneTrained p m a.pre a.post).trainedAll p := by
  unfold State.eqAck State.laneTrained
  dsimp only
  rw [h]

theorem State.laneTrained_train (s : State) (p m pre post k : Nat) :
    ((s.laneTrained p m pre post).train_ p k).phase = if k = m then .trained else (s.train_ p k).phase := by
  unfold State.laneTrained
  split
  · rename_i e
    rw [e, State.train_putTrain]
  · rename_i e
    rw [State.train_putTrain_of_ne _ _ e, State.setFld_train_, State.setFld_train_, State.train_putTrain_of_ne _ _ e]

/-- The lane shows the setting that the camera reports. -/
theorem State.laneTrained_shows (s : State) (p m pre post : Nat) : LaneSame (p + m / 4) s (s.laneTrained p m pre post) ∧
    (s.laneTrained p m pre post).fld (Pg.CP (p + m / 4)) (Fd.CP_LANE_STAT_PRE (m % 4)) = pre % 16 ∧
    (s.laneTrained p m pre post).fld (Pg.CP (p + m / 4)) (Fd.CP_LANE_STAT_POST (m % 4)) = post % 32 := by
  have hm : m % 4 < 4 := Nat.mod_lt _ (by decide)
  refine ⟨fun a _ h => ?_, ?_, ?_⟩
  · exact RegSame.step (RegSame.of_regs (State.putTrain_regs ..)) ((State.setFld_same (h _ hm)).step
      ((State.setFld_same (h _ hm)).step (RegSame.of_regs (State.putTrain_regs ..))))
  · unfold State.laneTrained
    rw [State.putTrain_fld, State.fld_setFld_p (show 6 + 5 ≤ 32 by decide) (.inr (.inl (show 2 + 4 ≤ 6 by decide))),
      State.fld_setFld _ _ _ _ (show 2 + 4 ≤ 32 by decide)]
    rfl
  · unfold State.laneTrained
    rw [State.putTrain_fld, State.fld_setFld _ _ _ _ (show 6 + 5 ≤ 32 by decide)]
    rfl

/-! ### The end of the training of a port (R166) -/

/-- The last lane trained changes no training and no register but LINK_STAT. -/
theorem State.trainedAll_keeps (s : State) (p : Nat) : (s.trainedAll p).train = s.train ∧
    ∀ a, a ≠ Pg.CP p * 4096 + Rg.CP_LINK_STAT → RegSame a s (s.trainedAll p) := by
  unfold State.trainedAll
  split
  · extract_lets x
    have ht : x.train = s.train := by apply foldl_kept fun s : State => s.train; intro s k; rfl
    have hr : x.regs = s.regs := by apply foldl_kept fun s : State => s.regs; intro s k; rfl
    clear_value x
    exact ⟨ht, fun a h => RegSame.step (RegSame.of_regs (State.linkCmd_regs ..)) ((State.setFld_same (s := x) h).step (RegSame.of_regs hr))⟩
  · exact ⟨rfl, fun a _ => RegSame.refl a s⟩

/-- With every lane trained the link moves to ALIGN. -/
theorem State.trainedAll_align {s : State} {p : Nat} (h : s.linkState p = lkTrain) (hall : ∀ k, k < s.lanes p → (s.train_ p k).phase = .trained) :
    (s.trainedAll p).linkState p = lkAlign := by
  unfold State.trainedAll
  rw [if_pos ⟨h, List.all_eq_true.mpr fun k hk => beq_iff_eq.mpr (hall k (List.mem_range.mp hk))⟩]
  dsimp only
  rw [State.linkState_of (State.linkCmd_regs ..), State.linkState_of (State.putLink_regs ..)]
  exact State.fld_fits (by decide) (by decide)

/-! ### Scans (R172, R174, R176) -/

/-- The codes of a main slice that carries its lane show in CTLE. -/
theorem State.putCodes_ctle {s : State} {q k : Nat} (c : EqCodes) (hk : k < 4) (h : s.on (Pg.CP q) (Fd.CP_LANE_STAT_SLICE k) = false) :
    (s.putCodes q k c).fld (Pg.CP q) (Fd.CP_LANE_STAT_CTLE k) = c.ctle := by
  unfold State.putCodes
  dsimp only
  rw [if_pos hk, State.putJk_on, h]
  exact State.fld_fits (show 11 + 4 ≤ 32 by decide) c.ctle.isLt

/-- The slice of a lane that its training scan measures: the Joker where it stands in, else the one that carries the lane. -/
def State.scanSlice (s : State) (p m : Nat) : Nat := if (s.train_ p m).phase == .joker then 4 else s.sliceOf (p + m / 4) (m % 4)

/-- A scan that is due starts. -/
theorem trainScanStart_shows {p : Fin 16} {m : Fin 8} {c : EqCodes} {s : State} (h : s.linkState p = lkTrain) (hd : (s.train_ p m).scanDue = true) :
    let q := p.val + m.val / 4
    ∃ t, exec (.trainScanStart p ⟨m, c⟩) s = .next t ∧ (t.train_ p m).scanDue = false ∧ (t.train_ p m).scanning = true ∧
      (t.train_ p m).phase = (s.train_ p m).phase ∧ t.out = s.out ∧
      regsKept ((List.range 4).map fun k => Pg.CP q * 4096 + Rg.CP_LANE_STAT k) s t ∧
      ((s.train_ p m).phase ≠ .joker → s.on (Pg.CP q) (Fd.CP_LANE_STAT_SLICE (m.val % 4)) = false →
        t.fld (Pg.CP q) (Fd.CP_LANE_STAT_CTLE (m.val % 4)) = c.ctle) := by
  intro q
  generalize hx : s.putTrain p m { s.train_ p m with scanDue := false, scanning := true } = x
  refine ⟨x.putCodes q (s.scanSlice p m) c, ?_, ?_⟩
  · rw [← hx]
    exact next_eq (if_pos (by rw [h, hd]; rfl))
  generalize hk : s.scanSlice p m = k
  have ht : (x.putCodes q k c).train_ p m = { s.train_ p m with scanDue := false, scanning := true } := by
    rw [State.train_of (State.putCodes_link ..).2, ← hx, State.train_putTrain]
  rw [ht]
  refine ⟨rfl, rfl, rfl, ?_, fun a ha => ?_, fun hp hs => ?_⟩
  · rw [(State.putCodes_within ..).out_eq rfl, ← hx, State.putTrain_out]
  · refine (State.putCodes_same fun j hj e => ha ?_).step (RegSame.of_regs (hx ▸ State.putTrain_regs ..))
    exact List.mem_map.mpr ⟨j, List.mem_range.mpr hj, e.symm⟩
  · have hk' : k = m.val % 4 := by
      rw [← hk, State.scanSlice, if_neg (by simpa using hp), State.sliceOf, if_neg (by rw [hs]; decide)]
    rw [hk']
    exact State.putCodes_ctle c (by omega) (by rw [← hx, State.putTrain_on]; exact hs)

/-- The better of the best setting so far and another one: the earlier, unless the merit beats its own (R176). -/
def betterSetting (k merit : Nat) (o : Option (Nat × Nat)) : Option (Nat × Nat) :=
  match o with
  | some (_, x) => if x < merit then some (k, merit) else o
  | none => some (k, merit)

theorem betterSetting_beats {k merit : Nat} {o : Option (Nat × Nat)} (h : ∀ b y, o = some (b, y) → y < merit) : betterSetting k merit o = some (k, merit) := by
  cases o with
  | none => rfl
  | some e => exact if_pos (h e.1 e.2 rfl)

/-- Whether an eye is as wide and as high as the port asks (R175). -/
def State.eyeWorks (s : State) (p : Nat) (r : EyeResult) : Prop :=
  s.trainFld p Fd.CP_TRAIN_CTL_MIN_W ≤ r.w ∧ s.trainFld p Fd.CP_TRAIN_CTL_MIN_H ≤ r.h

theorem State.eyeWorks_iff (s : State) (p : Nat) (r : EyeResult) :
    (decide (s.trainFld p Fd.CP_TRAIN_CTL_MIN_W ≤ r.w) && decide (s.trainFld p Fd.CP_TRAIN_CTL_MIN_H ≤ r.h)) = true ↔ s.eyeWorks p r := by
  rw [Bool.and_eq_true, decide_eq_true_iff, decide_eq_true_iff, State.eyeWorks]

/-- The scan of a preset: the best one kept, and the sweep goes on (R176). -/
theorem State.trainScan_preset {s : State} {p m k : Nat} {r : EyeResult} (h : (s.train_ p m).phase = .sweep k) : ∃ b o,
    s.trainScan p m r = ((s.putTrain p m { s.train_ p m with scanning := false }).putTrain p m
      { s.train_ p m with scanning := false, best := b, seen := o }).sweepFrom p m (k + 1) ∧
    (s.eyeWorks p r → b = betterSetting k (r.w * r.h) (s.train_ p m).best) ∧ (¬s.eyeWorks p r → b = (s.train_ p m).best) := by
  unfold State.trainScan
  dsimp only
  rw [h]
  refine ⟨_, _, rfl, fun hw => ?_, fun hw => ?_⟩
  · exact if_pos ((s.eyeWorks_iff p r).mpr hw)
  · exact if_neg (mt (s.eyeWorks_iff p r).mp hw)

/-- A working result in fixed mode sends DONE (R177). -/
theorem State.trainScan_fixed {s : State} {p m : Nat} {r : EyeResult} (h : (s.train_ p m).phase = .fixed) (hw : s.eyeWorks p r) :
    s.trainScan p m r = (s.putTrain p m { s.train_ p m with scanning := false }).sendDone p m := by
  unfold State.trainScan
  dsimp only
  rw [h]
  exact if_pos ((s.eyeWorks_iff p r).mpr hw)

/-- What the result of a training scan leads to. -/
theorem trainScanDone_shows {p : Fin 16} {m : Fin 8} {x : EyeScan} {s : State} (h : s.linkState p = lkTrain) (hs : (s.train_ p m).scanning = true) :
    let r := eyeOf 2 4 (2 ^ 16) (s.fld (Pg.CP p) Fd.CP_EYE_CTL_ERR_LIM) x
    let tag := (s.train_ p m).tag % 255 + 1
    ∃ t, exec (.trainScanDone p m x) s = .next t ∧
      (∀ k, (s.train_ p m).phase = .sweep k → k < 7 → (t.train_ p m).phase = .sweep (k + 1) ∧ (t.train_ p m).out = some (tag, 1, k + 1, 1) ∧
        t.out = s.out ++ [.uplink p (uplinkSyms 0x84 tag m 1 (k + 1) 0)] ∧
        (s.eyeWorks p r ∧ (∀ b y, (s.train_ p m).best = some (b, y) → y < r.w * r.h) → (t.train_ p m).best = some (k, r.w * r.h)) ∧
        (¬s.eyeWorks p r → (t.train_ p m).best = (s.train_ p m).best)) ∧
      ((s.train_ p m).phase = .fixed ∧ s.eyeWorks p r → (t.train_ p m).phase = .finish ∧ (t.train_ p m).out = some (tag, 6, 0, 1)) := by
  intro r tag
  generalize hy : s.putCodes (p + m / 4) (s.scanSlice p m) x.codes = y
  have ht : y.train_ p m = s.train_ p m := State.train_of (hy ▸ (State.putCodes_link ..).2) ..
  have ho : y.out = s.out := by rw [← hy, (State.putCodes_within ..).out_eq rfl]
  have hw : y.eyeWorks p r ↔ s.eyeWorks p r := by
    have hl : y.link = s.link := hy ▸ (State.putCodes_link ..).1
    unfold State.eyeWorks State.trainFld State.link_
    rw [hl]
  refine ⟨y.trainScan p m r, ?_, ?_⟩
  · rw [← hy]
    exact next_eq (if_pos (by rw [h, hs]; rfl))
  refine ⟨fun k hk h7 => ?_, fun hf => ?_⟩
  · obtain ⟨b, o, e, hgood, hbad⟩ := y.trainScan_preset (r := r) (ht ▸ hk)
    rw [e, State.sweepFrom_lt (by omega), State.eqReq_train, State.eqReq_out, State.train_putTrain, State.putTrain_out, State.putTrain_out, ho, ht]
    rw [ht] at hgood hbad
    exact ⟨rfl, rfl, rfl, fun hb => (hgood (hw.mpr hb.1)).trans (betterSetting_beats hb.2), fun hb => hbad (hb ∘ hw.mp)⟩
  · rw [State.trainScan_fixed (ht ▸ hf.1) (hw.mpr hf.2), State.sendDone, State.eqReq_train, State.train_putTrain, ht]
    exact ⟨rfl, rfl⟩

/-! ### Requests that nobody answers (R162, R180) -/

/-- A request that is not acknowledged is sent again at most twice, and then the port fails. -/
theorem eqReqResend_shows {p : Fin 16} {m : Fin 8} {tag code pre n : Nat} {s : State} (h : s.linkState p = lkTrain)
    (ho : (s.train_ p m).out = some (tag, code, pre, n)) : ∃ t, exec (.eqReqResend p m) s = .next t ∧
      (n < 3 → (t.train_ p m).out = some (tag, code, pre, n + 1) ∧ t.out = s.out ++ [.uplink p (uplinkSyms 0x84 tag m code pre 0)] ∧ t.regs = s.regs) ∧
      (3 ≤ n → t.linkState p = lkFailed ∧ t.fld (Pg.CP p) Fd.CP_LINK_STAT_CAUSE = causeEqNoAck ∧ t.fld (Pg.CP p) Fd.CP_LINK_STAT_CAUSE_LANE = m) := by
  have e : s.eqResend p m = if n < 3 then (s.putTrain p m { s.train_ p m with out := some (tag, code, pre, n + 1) }).uplink p 0x84 tag m code pre 0
      else s.failLink p causeEqNoAck m := by
    unfold State.eqResend
    dsimp only
    rw [ho]
    exact if_neg (by rw [h]; decide)
  refine ⟨_, rfl, fun hn => ?_, fun hn => ?_⟩
  · rw [e, if_pos hn]
    exact ⟨congrArg Train.out (State.train_putTrain s p m _), rfl, rfl⟩
  · rw [e, if_neg (by omega)]
    exact State.failLink_shows s p.isLt (by decide) m.isLt

/-! ### The obligation -/

/-- A good set with the outstanding tag ends the request, by what the request was for. -/
theorem trainingSet_shows {p : Fin 16} {s : State} {x : TrainSet} {a : SetFields} {code pre n : Nat} (h : s.linkState p = lkTrain)
    (hx : readSet x = some a) (hm : a.lane < s.lanes p) (ho : (s.train_ p a.lane).out = some (a.tag, code, pre, n)) :
    let m := a.lane
    let tag := (s.train_ p m).tag % 255 + 1
    ∃ t, exec (.trainingOrderedSet p x) s = .next t ∧
      (∀ k, (s.train_ p m).phase = .sweep k → a.status ≠ 2 → a.status ≠ 3 → (t.train_ p m).scanDue = true ∧
        (t.train_ p m).out = none ∧ (t.train_ p m).phase = .sweep k ∧ t.out = s.out) ∧
      (∀ k, (s.train_ p m).phase = .sweep k → k < 7 → a.status = 2 ∨ a.status = 3 → (t.train_ p m).phase = .sweep (k + 1) ∧
        (t.train_ p m).out = some (tag, 1, k + 1, 1) ∧ t.out = s.out ++ [.uplink p (uplinkSyms 0x84 tag m 1 (k + 1) 0)]) ∧
      ((s.train_ p m).phase = .finish → (t.train_ p m).phase = .trained ∧
        t.fld (Pg.CP (p + m / 4)) (Fd.CP_LANE_STAT_PRE (m % 4)) = a.pre % 16 ∧
        t.fld (Pg.CP (p + m / 4)) (Fd.CP_LANE_STAT_POST (m % 4)) = a.post % 32 ∧
        ((∀ k, k < s.lanes p → k ≠ m → (s.train_ p k).phase = .trained) → t.linkState p = lkAlign)) := by
  intro m tag
  refine ⟨_, next_eq (State.trainingSet_acks hx h hm ho), fun k hk h2 h3 => ?_, fun k hk h7 hr => ?_, fun hf => ?_⟩
  · rw [State.eqAck_inForce hk h2 h3, State.train_putTrain]
    exact ⟨rfl, rfl, hk, rfl⟩
  · rw [State.eqAck_refused hk hr, State.sweepFrom_lt (by omega), State.eqReq_train, State.eqReq_out, State.train_putTrain]
    exact ⟨rfl, rfl, rfl⟩
  · rw [State.eqAck_finish hf]
    generalize hy : s.laneTrained p m a.pre a.post = y
    obtain ⟨hsame, hpre, hpost⟩ := s.laneTrained_shows p m a.pre a.post
    have hph := s.laneTrained_train p m a.pre a.post
    rw [hy] at hsame hpre hpost hph
    obtain ⟨htr, hreg⟩ := y.trainedAll_keeps p
    have hl : Pg.CP (p + m / 4) * 4096 + Rg.CP_LANE_STAT (m % 4) ≠ Pg.CP p * 4096 + Rg.CP_LINK_STAT :=
      (not_laneStat (.inl (by decide)) (by decide) _ (Nat.mod_lt _ (by decide))).symm
    refine ⟨?_, (RegSame.fld (hreg _ hl)).trans hpre, (RegSame.fld (hreg _ hl)).trans hpost, fun hall => ?_⟩
    · rw [State.train_of htr, hph, if_pos rfl]
    · refine State.trainedAll_align ((hsame.linkState p).trans h) fun k hk => ?_
      rw [hph]
      split
      · rfl
      · exact hall k (by rwa [hsame.lanes] at hk) ‹_›

/-- Settles O20: a set by whether it can be read and what its request was for, a scan by the phase of its lane, a request by how often it was
sent. -/
theorem lanesAreTrained : Obligations.LanesAreTrained := by
  refine ⟨fun p m8 state tg status pre8 post8 crc code pre n s h => ?_, fun p m c s h hd => trainScanStart_shows h hd,
    fun p m x s h hs => trainScanDone_shows h hs, fun p m tag code pre n s h ho => eqReqResend_shows h ho⟩
  intro ts m tag hm ho
  have hr := readSet_eq m8 state tg status pre8 post8 crc
  refine ⟨fun hc => next_eq (State.trainingSet_none (hr.trans (if_neg (Ne.symm hc)))), fun hc => ?_⟩
  exact trainingSet_shows h (hr.trans (if_pos hc.symm)) hm ho

end Sys2Proof.Machine
end

section
/-!
PROOFS. Continuous eye scans, and the Joker through a recalibration, a substitution and a release (O21).
-/
namespace Sys2Proof.Machine

theorem State.on_setBit (s : State) (p : Nat) (f : Fld) (b : Bool) (h : f.lo + f.len ≤ 32) (hl : f.len ≠ 0) : (s.setBit p f b).on p f = b := by
  unfold State.on
  rw [State.fld_setBit _ _ _ _ h hl]
  cases b <;> rfl

/-! ### What a scan shows of a lane (R182, R183) -/

theorem openRun_le (ui lim range : Nat) (l : List Nat) : openRun ui lim range l ≤ range :=
  ((List.takeWhile_sublist _).length_le).trans (List.length_take_le ..)

/-- A continuous scan: nothing where the centre is closed, else each step of 1/64 UI, and 2 mV for each code. -/
theorem State.contEye_eq (s : State) (p : Nat) (x : EyeScan) :
    let ui := 2 ^ (16 + s.fld (Pg.CP p) Fd.CP_EYE_CTL_DWELL)
    let lim := s.fld (Pg.CP p) Fd.CP_EYE_CTL_ERR_LIM
    s.contEye p x = ⟨if lim < Nat.min x.centre ui then 0 else 1 + openRun ui lim 31 x.right + openRun ui lim 32 x.left,
      if lim < Nat.min x.centre ui then 0 else 2 * (openRun ui lim 127 x.up + openRun ui lim 127 x.down)⟩ := by
  intro ui lim
  unfold State.contEye eyeOf
  split
  · rfl
  · rw [Nat.one_mul, Nat.mul_one, Nat.div_one, Nat.div_one, Nat.div_one]

/-- The result of a continuous scan fits into the fields that show it. -/
theorem State.contEye_lt (s : State) (p : Nat) (x : EyeScan) : (s.contEye p x).w < 2 ^ 7 ∧ (s.contEye p x).h < 2 ^ 9 := by
  have hle (lim range : Nat) (l : List Nat) := openRun_le (2 ^ (16 + s.fld (Pg.CP p) Fd.CP_EYE_CTL_DWELL)) lim range l
  have hr := hle (s.fld (Pg.CP p) Fd.CP_EYE_CTL_ERR_LIM) 31 x.right
  have hl := hle (s.fld (Pg.CP p) Fd.CP_EYE_CTL_ERR_LIM) 32 x.left
  have hu := hle (s.fld (Pg.CP p) Fd.CP_EYE_CTL_ERR_LIM) 127 x.up
  have hd := hle (s.fld (Pg.CP p) Fd.CP_EYE_CTL_ERR_LIM) 127 x.down
  rw [State.contEye_eq]
  dsimp only
  split <;> omega

/-- The fields in which LANE_STAT registers show a scan, which lie above the codes, are the same in two states. -/
structure ScanSame (s t : State) : Prop where
  fld : ∀ g f, 0x050 ≤ f.off → f.off < 0x060 → 15 ≤ f.lo → t.fld g f = s.fld g f

theorem ScanSame.step {s t u : State} (k : ScanSame t u) (h : ScanSame s t) : ScanSame s u :=
  ⟨fun g f h1 h2 h3 => (k.fld g f h1 h2 h3).trans (h.fld g f h1 h2 h3)⟩

theorem ScanSame.of_regs {s t : State} (h : t.regs = s.regs) : ScanSame s t := ⟨fun g f _ _ _ => State.fld_of h g f⟩

theorem ScanSame.refl (s : State) : ScanSame s s := ScanSame.of_regs rfl

theorem State.setFld_scan {s : State} {p v : Nat} {f : Fld} (hf : f.off < 4096) (hl : f.lo + f.len ≤ 32)
    (h : f.off < 0x050 ∨ 0x060 ≤ f.off ∨ f.lo + f.len ≤ 15) : ScanSame s (s.setFld p f v) :=
  ⟨fun _ _ _ _ _ => State.fld_setFld_apart _ _ _ _ _ _ hl (by omega)⟩

theorem State.putCodes_scan (s : State) (q k : Nat) (c : EqCodes) : ScanSame s (s.putCodes q k c) := by
  have key (x : State) {j : Nat} (v : Nat) (hj : j < 4) : ScanSame x (x.setFld (Pg.CP q) (Fd.CP_LANE_STAT_CTLE j) v) :=
    State.setFld_scan (by show 0x050 + 0x4 * j < 4096; omega) (by show 11 + 4 ≤ 32; decide) (.inr (.inr (by show 11 + 4 ≤ 15; decide)))
  unfold State.putCodes
  extract_lets g j x
  have hx : ScanSame s x := ScanSame.of_regs rfl
  have hl : x.jkLane q < 4 := State.fld_lt ..
  clear_value x
  split
  · rename_i hk
    split
    · exact hx
    · exact (key _ _ hk).step hx
  · split
    · exact (key _ _ hl).step hx
    · exact hx

theorem State.jkConnect_scan (s : State) (q m : Nat) : ScanSame s (s.jkConnect q m) := by
  have key (x : State) (f : Fld) (v : Nat) (hf : f.off = 0x064) (hl : f.lo + f.len ≤ 32) : ScanSame x (x.setFld (Pg.CP q) f v) :=
    State.setFld_scan (by omega) hl (by omega)
  unfold State.jkConnect
  exact (State.putCodes_scan ..).step ((key _ Fd.CP_JOKER_STAT_MATCHED 0 rfl (by decide)).step
    ((key _ Fd.CP_JOKER_STAT_LANE m rfl (by decide)).step (key s Fd.CP_JOKER_STAT_STATE jkStandby rfl (by decide))))

theorem State.jkSettle_scan (s : State) (q : Nat) : ScanSame s (s.jkSettle q) := ScanSame.of_regs (State.jkSettle_regs ..)

theorem State.enterBase_scan (s : State) (p : Nat) : ScanSame s (s.enterBase p) := ⟨fun g f h1 h2 _ =>
  RegSame.fld (State.enterBase_same (by show g * 4096 + f.off ≠ Pg.CP p * 4096 + 0x044; omega))⟩

theorem State.startRecal_scan (s : State) (q m : Nat) (b : Bool) : ScanSame s (s.startRecal q m b) := by
  unfold State.startRecal
  dsimp only
  split
  · exact ScanSame.of_regs rfl
  · split
    · exact ScanSame.of_regs rfl
    · exact (State.jkConnect_scan ..).step (ScanSame.of_regs (State.putJk_regs ..))

theorem State.nextRecal_scan (s : State) (q : Nat) : ScanSame s (s.nextRecal q) := by
  unfold State.nextRecal
  dsimp only
  split
  · exact ScanSame.refl s
  · split
    · exact State.jkSettle_scan s q
    · split
      · exact (State.startRecal_scan ..).step (ScanSame.of_regs (State.putJk_regs ..))
      · exact ScanSame.refl s

/-- A recalibration asked for leaves alone what a scan has shown. -/
theorem State.requestRecal_scan (s : State) (q m : Nat) : ScanSame s (s.requestRecal q m) := by
  have stat {f : Fld} (hf : f.off = 0x064) (hl : f.lo + f.len ≤ 32) : ScanSame s (s.setFld (Pg.CP q) f 1) :=
    State.setFld_scan (by omega) hl (by omega)
  unfold State.requestRecal
  dsimp only
  split
  · split
    · split
      · exact ScanSame.refl s
      · exact State.enterBase_scan ..
    · exact stat rfl (by decide)
  · split
    · exact stat rfl (by decide)
    · exact (State.nextRecal_scan ..).step (ScanSame.of_regs (State.putJk_regs ..))

/-! ### A continuous scan completes (R183-R185) -/

/-- A scanned lane: width and height, the codes of the slice that was scanned, and whether the eye is low. -/
def State.eyeShown (s : State) (q m : Nat) (r : EyeResult) (c : EqCodes) : State :=
  let x := (s.setFld (Pg.CP q) (Fd.CP_LANE_STAT_EYE_W m) r.w).setFld (Pg.CP q) (Fd.CP_LANE_STAT_EYE_H m) r.h
  (x.putCodes q (x.sliceOf q m) c).setBit (Pg.CP q) (Fd.CP_LANE_STAT_EYE_LOW m)
    (decide (r.w < s.fld (Pg.CP (s.portOfQuad q)) Fd.CP_EYE_CTL_WARN_W))

/-- A scan of a used lane is shown, a low eye raises its event and asks for a recalibration, and the Joker settles or moves. -/
theorem State.eyeScan_eq {s : State} {q : Nat} {m : Fin 4} {r : EyeResult} {c : EqCodes}
    (h : s.linkState (s.portOfQuad q) = lkBase ∨ s.linkState (s.portOfQuad q) = lkAlign ∨ s.linkState (s.portOfQuad q) = lkActive)
    (hm : s.laneOf q m < s.lanes (s.portOfQuad q)) :
    s.eyeScan q m r c =
      let x := s.eyeShown q m r c
      let y := if decide (r.w < s.fld (Pg.CP (s.portOfQuad q)) Fd.CP_EYE_CTL_WARN_W) then
        (x.raiseNow (evCp (s.portOfQuad q) 2)).requestRecal q m else x
      if y.jkState q = jkStandby ∧ (y.jk q).stage = .none ∧ y.jkLane q ≠ m ∧ r.w + 4 ≤ y.fld (Pg.CP q) (Fd.CP_LANE_STAT_EYE_W (y.jkLane q)) then
        y.jkConnect q m else y.jkSettle q := by
  have hwarn (k : Nat) : (((s.setFld (Pg.CP q) (Fd.CP_LANE_STAT_EYE_W m) r.w).setFld (Pg.CP q) (Fd.CP_LANE_STAT_EYE_H m) r.h).putCodes q k c).fld
      (Pg.CP (s.portOfQuad q)) Fd.CP_EYE_CTL_WARN_W = s.fld (Pg.CP (s.portOfQuad q)) Fd.CP_EYE_CTL_WARN_W := by
    have ho : 0x050 + 0x4 * m.val ≠ 0x04C := by omega
    have hl : 0x050 + 0x4 * m.val < 4096 := by omega
    rw [State.putCodes_off _ _ _ _ _ _ (.inl (by decide)) (by decide), State.fld_setFld_off _ _ ho hl (by decide),
      State.fld_setFld_off _ _ ho hl (by decide)]
  unfold State.eyeScan State.eyeShown
  dsimp only
  rw [if_neg (by rcases h with h | h | h <;> rw [h] <;> simp [hm]), hwarn]

/-- What is shown of a scanned lane reads back. -/
theorem State.eyeShown_shows (s : State) (q : Nat) (m : Fin 4) {r : EyeResult} (c : EqCodes) (hw : r.w < 2 ^ 7) (hh : r.h < 2 ^ 9) :
    let low := decide (r.w < s.fld (Pg.CP (s.portOfQuad q)) Fd.CP_EYE_CTL_WARN_W)
    let x := s.eyeShown q m r c
    x.fld (Pg.CP q) (Fd.CP_LANE_STAT_EYE_W m) = r.w ∧ x.fld (Pg.CP q) (Fd.CP_LANE_STAT_EYE_H m) = r.h ∧
      x.on (Pg.CP q) (Fd.CP_LANE_STAT_EYE_LOW m) = low := by
  have h1 : 0x050 ≤ 0x050 + 0x4 * m.val := by omega
  have h2 : 0x050 + 0x4 * m.val < 0x060 := by omega
  intro low x
  refine ⟨?_, ?_, State.on_setBit _ _ _ _ (by show 31 + 1 ≤ 32; decide) Nat.one_ne_zero⟩
  · refine (State.fld_setFld_p (by show 31 + 1 ≤ 32; decide) (.inr (.inl (by show 15 + 7 ≤ 31; decide)))).trans ?_
    rw [(State.putCodes_scan ..).fld _ _ h1 h2 (by show 15 ≤ 15; decide),
      State.fld_setFld_p (by show 22 + 9 ≤ 32; decide) (.inr (.inl (by show 15 + 7 ≤ 22; decide))), State.fld_fits (by show 15 + 7 ≤ 32; decide) hw]
  · refine (State.fld_setFld_p (by show 31 + 1 ≤ 32; decide) (.inr (.inl (by show 22 + 9 ≤ 31; decide)))).trans ?_
    rw [(State.putCodes_scan ..).fld _ _ h1 h2 (by show 15 ≤ 22; decide), State.fld_fits (by show 22 + 9 ≤ 32; decide) hh]

/-- The registers and the Joker's codes alone change as a scan is shown. -/
theorem State.eyeShown_within (s : State) (q m : Nat) (r : EyeResult) (c : EqCodes) : Within 0x40002 s (s.eyeShown q m r c) := by
  unfold State.eyeShown
  exact Within.step (State.setBit_within ..) rfl (Within.step (State.putCodes_within ..) rfl
    (Within.step (State.setFld_within ..) rfl (Within.step (State.setFld_within ..) rfl (Within.refl _ s))))

theorem State.eyeShown_mode (s : State) (q : Nat) (m : Fin 4) (r : EyeResult) (c : EqCodes) : (s.eyeShown q m r c).mode = s.mode := by
  have hne (j : Nat) (hj : j < 4) : Pg.SYS * 4096 + Fd.SYS_MODE_MODE.off ≠ Pg.CP q * 4096 + (0x050 + 0x4 * j) := by
    show Pg.SYS * 4096 + 0x040 ≠ (0x10 + q) * 4096 + (0x050 + 0x4 * j); unfold Pg.SYS; omega
  exact State.mode_of_regs ((State.setBit_same (hne m m.isLt)).step ((State.putCodes_same hne).step
    ((State.setFld_same (hne m m.isLt)).step (State.setFld_same (hne m m.isLt)))))

theorem Within.time_eq {k : Nat} {s t : State} (h : Within k s t) (h6 : k / 2 ^ 6 % 2 = 0) (h10 : k / 2 ^ 10 % 2 = 0) : t.time = s.time := by
  unfold State.time State.time16 State.timeAt
  rw [h.raw_eq h6, h.tb_eq h10]

/-- What the scan of a used lane leaves to be read and raised. -/
theorem State.eyeScan_shows {s : State} {q : Nat} {m : Fin 4} {r : EyeResult} (c : EqCodes) (hb : s.mode ≠ .boot)
    (h : s.linkState (s.portOfQuad q) = lkBase ∨ s.linkState (s.portOfQuad q) = lkAlign ∨ s.linkState (s.portOfQuad q) = lkActive)
    (hm : s.laneOf q m < s.lanes (s.portOfQuad q)) (hw : r.w < 2 ^ 7) (hh : r.h < 2 ^ 9) :
    let p := s.portOfQuad q
    let low := decide (r.w < s.fld (Pg.CP p) Fd.CP_EYE_CTL_WARN_W)
    let t := s.eyeScan q m r c
    t.fld (Pg.CP q) (Fd.CP_LANE_STAT_EYE_W m) = r.w ∧ t.fld (Pg.CP q) (Fd.CP_LANE_STAT_EYE_H m) = r.h ∧
      t.on (Pg.CP q) (Fd.CP_LANE_STAT_EYE_LOW m) = low ∧ t.raised = s.raised ++ (if low then [(evCp p 2, { time := s.time })] else []) := by
  intro p low t
  obtain ⟨h1, h2, h3⟩ := s.eyeShown_shows q m c hw hh
  have hx := s.eyeShown_within q m r c
  have hmode := s.eyeShown_mode q m r c
  have ht : t = _ := State.eyeScan_eq h hm
  generalize s.eyeShown q m r c = x at h1 h2 h3 hx hmode ht
  generalize hy : (if low = true then (x.raiseNow (evCp p 2)).requestRecal q m else x) = y
  have hxy : ScanSame x y ∧ y.raised = s.raised ++ (if low then [(evCp p 2, { time := s.time })] else []) := by
    rw [← hy]
    split
    · refine ⟨(State.requestRecal_scan ..).step (ScanSame.of_regs (State.raiseNow_regs ..)), ?_⟩
      rw [(State.requestRecal_within ..).raised_eq rfl, State.raiseNow_raised _ _ (by rwa [hmode]), hx.raised_eq rfl, hx.time_eq rfl rfl]
    · exact ⟨ScanSame.refl x, (hx.raised_eq rfl).trans (List.append_nil _).symm⟩
  obtain ⟨hsame, hr⟩ := hxy
  have hyt : ScanSame y t ∧ t.raised = y.raised := by
    rw [ht]
    dsimp only
    rw [hy]
    split
    · exact ⟨State.jkConnect_scan .., (State.jkConnect_within ..).raised_eq rfl⟩
    · exact ⟨State.jkSettle_scan .., State.jkSettle_raised ..⟩
  have ho : 0x050 ≤ 0x050 + 0x4 * m.val ∧ 0x050 + 0x4 * m.val < 0x060 := by omega
  have hxt (f : Fld) (hf : f.off = 0x050 + 0x4 * m.val) (hlo : 15 ≤ f.lo) : t.fld (Pg.CP q) f = x.fld (Pg.CP q) f :=
    (hyt.1.step hsame).fld _ _ (hf ▸ ho.1) (hf ▸ ho.2) hlo
  refine ⟨(hxt _ rfl (by show 15 ≤ 15; decide)).trans h1, (hxt _ rfl (by show 15 ≤ 22; decide)).trans h2, ?_, hyt.2.trans hr⟩
  exact (congrArg (· != 0) (hxt _ rfl (by show 15 ≤ 31; decide))).trans h3

/-! ### The Joker as registers and its own state change (R186, R188) -/

/-- The codes of a slice are all that they change of a Joker. -/
theorem State.putCodes_jk (s : State) (q k : Nat) (c : EqCodes) : ∃ l, (s.putCodes q k c).jk q = { s.jk q with codes := l } := by
  refine ⟨tabPut (dflt {}) k c (s.jk q).codes, ?_⟩
  unfold State.putCodes
  extract_lets g j x
  have hx : x.jk q = { s.jk q with codes := tabPut (dflt {}) k c (s.jk q).codes } := State.jk_putJk ..
  clear_value x
  split <;> split
  · exact hx
  · exact (State.setFld_jk ..).trans hx
  · exact (State.setFld_jk ..).trans hx
  · exact hx

theorem State.putCodes_stage (s : State) (q k : Nat) (c : EqCodes) : ((s.putCodes q k c).jk q).stage = (s.jk q).stage := by
  obtain ⟨l, h⟩ := s.putCodes_jk q k c
  rw [h]

/-- A field of JOKER_STAT shows no codes. -/
theorem State.putCodes_stat (s : State) (q k : Nat) (c : EqCodes) (g : Nat) {f : Fld} (hf : f.off = 0x064) :
    (s.putCodes q k c).fld g f = s.fld g f := State.putCodes_off _ _ _ _ _ _ (.inr (by omega)) (by omega)

/-- A Joker that is at work does not settle. -/
theorem State.jkSettle_working {s : State} {q : Nat} (h : (s.jk q).stage ≠ .none) : s.jkSettle q = s :=
  (s.jkSettle_cases q).resolve_right fun k => h k.2.1

/-- Without STANDBY_EN an idle Joker stays as it is. -/
theorem State.jkSettle_noStandby {s : State} {q : Nat} (h : s.on (Pg.CP q) Fd.CP_JOKER_CTL_STANDBY_EN = false) : s.jkSettle q = s := by
  unfold State.jkSettle
  dsimp only
  rw [h, Bool.and_false]
  rfl

/-- A Joker that connects to a lane stands by there, not matched yet, at the stage that it was in. -/
theorem State.jkConnect_shows (s : State) (q : Nat) {m : Nat} (hm : m < 4) : (s.jkConnect q m).jkState q = jkStandby ∧
    (s.jkConnect q m).jkLane q = m ∧ (s.jkConnect q m).on (Pg.CP q) Fd.CP_JOKER_STAT_MATCHED = false ∧
    ((s.jkConnect q m).jk q).stage = (s.jk q).stage := by
  unfold State.jkConnect
  refine ⟨?_, ?_, ?_, State.putCodes_stage ..⟩
  · rw [State.jkState_eq, State.putCodes_stat _ _ _ _ _ rfl, State.fld_setFld_p (by decide) (by decide), State.fld_setFld_p (by decide) (by decide),
      State.fld_fits (by decide) (by decide)]
  · rw [State.jkLane_eq, State.putCodes_stat _ _ _ _ _ rfl, State.fld_setFld_p (by decide) (by decide), State.fld_fits (by decide) hm]
  · unfold State.on
    rw [State.putCodes_stat _ _ _ _ _ rfl]
    exact State.on_zero (by decide)

/-! ### Recalibrations begin, are matched and are given up (R187-R191) -/

/-- A recalibration asked of an idle Joker that nothing waits for: the Joker calibrates itself first, and is still IDLE. -/
theorem recalPeriod_begins {s : State} {q : Fin 16} {m : Fin 4} (hj : s.jkState q = jkIdle) (hs : (s.jk q).stage = .none) (hw : (s.jk q).waiting = 0)
    (hp : s.fld (Pg.CP (s.portOfQuad q)) Fd.CP_EYE_CTL_CAL_PERIOD ≠ 0) (he : s.on (Pg.CP q) Fd.CP_JOKER_CTL_EN = true) :
    ∃ t, exec (.recalPeriod q m) s = .next t ∧ (t.jk q).stage = .selfCal true ∧ (t.jk q).lane = m ∧ t.jkState q = jkIdle := by
  obtain ⟨hr, hstage, hlane⟩ := State.requestRecal_idle (m := m) hj he hs hw
  exact ⟨_, next_eq (if_neg hp), hstage, hlane, (State.fld_of hr ..).trans hj⟩

theorem bitsOf_zero : (bitsOf 4 0).reverse = [] := by decide

theorem bitsOf_pow (m : Fin 4) : (bitsOf 4 (2 ^ m.val)).reverse = [m.val] := by revert m; decide

/-- CAL_NOW of one lane does the same. -/
theorem jokerCalNow_begins {s : State} {q : Fin 16} {m : Fin 4} {o : Owner} {w : Word} (hj : s.jkState q = jkIdle) (hs : (s.jk q).stage = .none)
    (hw : (s.jk q).waiting = 0) (ha : s.access o (Pg.CP q) = .granted) (h0 : wf w 0 1 = 1) (h4 : wf w 4 2 = 0) (h8 : wf w 8 4 = 2 ^ m.val) :
    ∃ t, exec (.jokerCalNow o q w) s = .next t ∧ (t.jk q).stage = .selfCal true ∧ (t.jk q).lane = m ∧ t.jkState q = jkIdle := by
  obtain ⟨x, e, hk, he, hf⟩ := State.jokerCtl_eq (s := s) (q := q) (o := o) h0
  have hforce : wf w 4 1 = 0 := (wf_bit w h4).1
  have hrelease : wf w 5 1 = 0 := (wf_bit w h4).2
  have hxj : x.jkState q = jkIdle := (hf _ _ (by decide) (by decide)).trans hj
  have hxk : x.jk q = s.jk q := State.jk_of hk q
  obtain ⟨hr, hstage, hlane⟩ := State.requestRecal_idle (m := m) hxj he (hxk ▸ hs) (hxk ▸ hw)
  refine ⟨x.requestRecal q m, ?_, hstage, hlane, (State.fld_of hr ..).trans hxj⟩
  refine next_eq ((State.guarded_granted ha).trans (e.trans ?_))
  rw [hforce, if_neg (by decide), hrelease, if_neg (by decide), h8, bitsOf_pow, List.foldl_cons, List.foldl_nil]
  exact State.jkSettle_working (by rw [hstage]; decide)

/-- A calibration that ends touches no Joker. -/
theorem State.calEnd_joker (s : State) (k : Nat) (x : CalRun) (r : Nat) : (s.calEnd k x r).joker = s.joker := (State.calEnd_within ..).joker_eq rfl

/-- The Joker's calibration for a recalibration agrees: it stands by on the lane, to be matched there (t0 of R189). -/
theorem calAttemptDone_standsBy {s : State} {q : Fin 16} {u : Fin 64} {a b : List Nat} {fig : Int} (hu : u.val = q.val)
    (hs : (s.jk q).stage = .selfCal true) (hl : (s.jk q).lane < 4) (hab : codesAgree a b = true) :
    ∃ t, exec (.calAttemptDone 4 u a b fig) s = .next t ∧ (t.jk q).stage = .matching ∧ t.jkState q = jkStandby ∧
      t.jkLane q = (s.jk q).lane ∧ t.on (Pg.CP q) Fd.CP_JOKER_STAT_MATCHED = false := by
  obtain ⟨x, hx, e⟩ : ∃ x : State, x.joker = s.joker ∧ s.calAttempt 4 q a b fig = x.jkReady q := by
    have hruns : s.calRuns 4 q = true := by
      unfold State.calRuns
      rw [hs]
      simp [q.isLt]
    unfold State.calAttempt
    dsimp only
    rw [hruns, hab, if_neg (by decide), if_pos rfl, if_neg (show ¬(4 = 0) by decide), if_pos rfl]
    refine ⟨_, ?_, rfl⟩
    rw [State.calEnd_joker, State.wr_joker]
  have hxk : x.jk q = s.jk q := State.jk_of hx q
  have hr : x.jkReady q = (x.putJk q { s.jk q with stage := .matching }).jkConnect q (s.jk q).lane := by
    unfold State.jkReady
    dsimp only
    rw [hxk, hs]
  obtain ⟨hst, hlane, hmatch, hstage⟩ := (x.putJk q { s.jk q with stage := .matching }).jkConnect_shows q hl
  refine ⟨x.jkReady q, ?_, ?_⟩
  · show Host.Outcome.next (s.calAttempt 4 u a b fig) = _
    rw [hu, e]
  · rw [hr]
    exact ⟨hstage.trans (by rw [State.jk_putJk]), hst, hlane, hmatch⟩

/-- A run of equal symbols of two slices shown: whether it is a match, and the codes of the slice that adapts. -/
def State.runShown (s : State) (q run k : Nat) (c : EqCodes) : State :=
  (s.setBit (Pg.CP q) Fd.CP_JOKER_STAT_MATCHED (decide (4096 ≤ run))).putCodes q k c

theorem State.runShown_matched (s : State) (q run k : Nat) (c : EqCodes) :
    (s.runShown q run k c).on (Pg.CP q) Fd.CP_JOKER_STAT_MATCHED = decide (4096 ≤ run) := by
  unfold State.on State.runShown
  rw [State.putCodes_stat _ _ _ _ _ rfl]
  exact State.on_setBit _ _ _ _ (by decide) (by decide)

/-- LOCK is no part of a match. -/
theorem State.runShown_lock (s : State) (q run k : Nat) (c : EqCodes) (m : Nat) :
    (s.runShown q run k c).on (Pg.CP q) (Fd.CP_LANE_STAT_LOCK m) = s.on (Pg.CP q) (Fd.CP_LANE_STAT_LOCK m) :=
  (State.putCodes_lock ..).trans (State.on_setFld_p (by decide) (.inr (.inl (by show 0 + 1 ≤ 5; decide))))

/-- A run of a Joker in STANDBY prepares the takeover where it is a match; a difference takes a takeover back while the slice has lock. -/
theorem State.jokerRun_eq {s : State} {q run : Nat} {c : EqCodes} (hj : s.jkState q = jkStandby) : s.jokerRun q run c =
    let x := s.runShown q run 4 c
    if 4096 ≤ run then (if (s.jk q).stage = .matching then x.putJk q { x.jk q with stage := .takeover } else x)
    else if (s.jk q).stage = .takeover ∧ s.on (Pg.CP q) (Fd.CP_LANE_STAT_LOCK (s.jk q).lane) = true then
      x.putJk q { x.jk q with stage := .matching }
    else x := by
  obtain ⟨l, hk⟩ : ∃ l, (s.runShown q run 4 c).jk q = { s.jk q with codes := l } := State.putCodes_jk ..
  have hlock := s.runShown_lock q run 4 c (s.jk q).lane
  unfold State.runShown at hk hlock ⊢
  unfold State.jokerRun
  dsimp only
  rw [if_neg (not_not.mpr hj), hk]
  dsimp only
  rw [hlock]

/-- A run of equal symbols of a Joker in STANDBY: shown as a match where it is long enough, and the takeover prepared or taken back. -/
theorem jokerMatched_shows {s : State} {q : Fin 16} {c : EqCodes} (run : Nat) (hj : s.jkState q = jkStandby) :
    ∃ t, exec (.jokerMatched ⟨q, run, c⟩) s = .next t ∧ t.on (Pg.CP q) Fd.CP_JOKER_STAT_MATCHED = decide (4096 ≤ run) ∧
      (t.jk q).stage = if (s.jk q).stage = .matching ∧ 4096 ≤ run then .takeover
        else if (s.jk q).stage = .takeover ∧ run < 4096 ∧ s.on (Pg.CP q) (Fd.CP_LANE_STAT_LOCK (s.jk q).lane) = true then .matching
        else (s.jk q).stage := by
  refine ⟨_, next_eq (State.jokerRun_eq hj), ?_⟩
  dsimp only
  have hm := s.runShown_matched q run 4 c
  have hstage : ((s.runShown q run 4 c).jk q).stage = (s.jk q).stage := State.putCodes_stage ..
  generalize s.runShown q run 4 c = x at hm hstage
  by_cases hrun : 4096 ≤ run
  · rw [if_pos hrun]
    by_cases hs : (s.jk q).stage = .matching
    · rw [if_pos hs, if_pos ⟨hs, hrun⟩, State.jk_putJk]
      exact ⟨hm, rfl⟩
    · rw [if_neg hs, if_neg fun k => hs k.1, if_neg (by omega)]
      exact ⟨hm, hstage⟩
  · rw [if_neg hrun]
    by_cases hs : (s.jk q).stage = .takeover ∧ s.on (Pg.CP q) (Fd.CP_LANE_STAT_LOCK (s.jk q).lane) = true
    · rw [if_pos hs, if_neg fun k => hrun k.2, if_pos ⟨hs.1, by omega, hs.2⟩, State.jk_putJk]
      exact ⟨hm, rfl⟩
    · rw [if_neg hs, if_neg fun k => hrun k.2, if_neg fun k => hs ⟨k.1, k.2.2⟩]
      exact ⟨hm, hstage⟩

/-- A Joker that does not match in time gives the handover up, and says so (R190). -/
theorem jokerMatchTimeout_aborts {s : State} {q : Fin 16} (h : (s.jk q).stage = .matching ∧ s.jkState q ≠ jkIdle ∨
      (s.jk q).stage = .selfCal true ∧ s.on (Pg.CP q) Fd.CP_JOKER_CTL_STANDBY_EN = false) (hw : (s.jk q).waiting = 0) :
    ∃ t, exec (.jokerMatchTimeout q) s = .next t ∧ (t.jk q).stage = .none ∧ t.on (Pg.CP q) Fd.CP_JOKER_STAT_CAL_ABORT = true := by
  generalize hx : (s.setFld (Pg.CP q) Fd.CP_JOKER_STAT_CAL_ABORT 1).putJk q { s.jk q with stage := .none, force := false } = x
  have hk : x.jk q = { s.jk q with stage := .none, force := false } := hx ▸ State.jk_putJk ..
  have hf (f : Fld) (ha : apart Fd.CP_JOKER_STAT_CAL_ABORT f) : x.fld (Pg.CP q) f = s.fld (Pg.CP q) f := by
    rw [← hx, State.putJk_fld, State.fld_setFld_p (by decide) ha]
  have hidle : x.nextRecal q = x := by
    rw [State.nextRecal_idle (by rw [hk]) (by rw [hk]; exact hw)]
    rcases h with ⟨-, hbusy⟩ | ⟨-, hoff⟩
    · exact State.jkSettle_busy (by rw [State.jkState_eq, hf _ (by decide)]; exact hbusy)
    · exact State.jkSettle_noStandby ((congrArg (· != 0) (hf _ (by decide))).trans hoff)
  refine ⟨x, next_eq ((if_pos (h.imp And.left And.left)).trans ?_), by rw [hk], ?_⟩
  · rw [hx, hidle]
  · rw [← hx, State.putJk_on, State.on_one (by decide) (by decide)]

/-- A run of equal symbols of a main slice that adapts: a match prepares the handback (t5 of R189). -/
theorem mainSliceMatched_shows {s : State} {q : Fin 16} {c : EqCodes} (run : Nat) (h : (s.jk q).stage = .adapting) :
    ∃ t, exec (.mainSliceMatched ⟨q, run, c⟩) s = .next t ∧ (t.jk q).stage = (if 4096 ≤ run then .handback else .adapting) ∧
      t.on (Pg.CP q) Fd.CP_JOKER_STAT_MATCHED = decide (4096 ≤ run) := by
  refine ⟨_, next_eq (if_pos (.inl h)), by rw [State.jk_putJk], ?_⟩
  exact (State.putJk_on ..).trans (State.runShown_matched ..)

/-! ### Substitution and release (R194, R195, R197) -/

theorem State.nextRequest_joker (s : State) (p : Nat) : (s.nextRequest p).joker = s.joker := by
  unfold State.nextRequest
  dsimp only
  split
  · rfl
  · split
    · rfl
    · split
      · unfold State.hostCamReq
        exact ite_kept (·.joker) rfl
      · rfl

theorem State.enterBase_joker (s : State) (p : Nat) : (s.enterBase p).joker = s.joker := by
  obtain ⟨l, e⟩ := s.enterBase_eq p
  rw [e, State.nextRequest_joker, State.linkCmd_joker]
  exact foldl_kept (fun s : State => s.joker) (fun s m => s.putTrain p m { tag := (s.train_ p m).tag }) (fun _ _ => rfl) _ _

/-- A field of JOKER_STAT other than CAL_DEFERRED, and the stage of the Joker, stay as waiting requests are dropped. -/
theorem State.dropWaiting_keeps (s : State) (q : Nat) : ((s.dropWaiting q).jk q).stage = (s.jk q).stage ∧
    ∀ f : Fld, f.off = 0x064 → f.lo + f.len ≤ 11 → (s.dropWaiting q).fld (Pg.CP q) f = s.fld (Pg.CP q) f := by
  unfold State.dropWaiting
  extract_lets p j x
  have hx : (x.jk q).stage = (s.jk q).stage := by unfold x; rw [State.jk_putJk]
  have hr (f : Fld) : x.fld (Pg.CP q) f = s.fld (Pg.CP q) f := State.putJk_fld ..
  clear_value x
  split
  · exact ⟨rfl, fun _ _ _ => rfl⟩
  · split
    · split
      · refine ⟨by rw [State.jk_of (State.enterBase_joker ..)]; exact hx, fun f hf _ => (RegSame.fld (State.enterBase_same ?_)).trans (hr f)⟩
        show Pg.CP q * 4096 + f.off ≠ Pg.CP p * 4096 + 0x044
        omega
      · exact ⟨hx, fun f _ _ => hr f⟩
    · exact ⟨hx, fun f _ hl => (State.fld_setFld_p (by decide) (.inr (.inl hl))).trans (hr f)⟩

/-- A substitution: the registers of the quad, the Joker, the entry and the event, and what becomes of the requests that wait. -/
theorem State.substitute_eq (s : State) (q m : Nat) : ∃ (v : Nat) (j : Joker) (p l : Nat), j.stage = .none ∧ s.substitute q m =
    ((((((((s.setFld (Pg.CP q) ⟨Rg.CP_JOKER_STAT, 6 + m, 1⟩ 1).setFld (Pg.CP q) Fd.CP_JOKER_STAT_STATE jkSubst).setFld (Pg.CP q)
      Fd.CP_JOKER_STAT_LANE m).setFld (Pg.CP q) (Fd.CP_LANE_STAT_SLICE m) 1).setFld (Pg.CP q) (Fd.CP_LANE_STAT_CTLE m) v).putJk q j).logErr
      Er.LANE_SUBST (Pg.CP q) p l).raiseNow (evCp p 3)).dropWaiting q := ⟨_, _, _, _, rfl, rfl⟩

/-- A slice replaced by the Joker: marked as failed, its lane carried for good, and the Joker at no further work. -/
theorem State.substitute_shows (s : State) {q m : Nat} (hq : q < 16) (hm : m < 4) : (s.substitute q m).jkState q = jkSubst ∧
    (s.substitute q m).jkLane q = m ∧ (s.substitute q m).on (Pg.CP q) ⟨Rg.CP_JOKER_STAT, 6 + m, 1⟩ = true ∧
    ((s.substitute q m).jk q).stage = .none := by
  obtain ⟨h1, h2, h3⟩ := cp_page hq
  have ho : 0x050 + 0x4 * m ≠ 0x064 := by omega
  obtain ⟨v, j, p, l, hj, e⟩ := s.substitute_eq q m
  rw [e]
  generalize hx : ((s.setFld (Pg.CP q) ⟨Rg.CP_JOKER_STAT, 6 + m, 1⟩ 1).setFld (Pg.CP q) Fd.CP_JOKER_STAT_STATE jkSubst).setFld (Pg.CP q)
    Fd.CP_JOKER_STAT_LANE m = x
  generalize hy : (((((x.setFld (Pg.CP q) (Fd.CP_LANE_STAT_SLICE m) 1).setFld (Pg.CP q) (Fd.CP_LANE_STAT_CTLE m) v).putJk q j).logErr
    Er.LANE_SUBST (Pg.CP q) p l).raiseNow (evCp p 3)) = y
  obtain ⟨hstage, hkeep⟩ := y.dropWaiting_keeps q
  have hf (f : Fld) (hf : f.off = 0x064) (hl : f.lo + f.len ≤ 11) : (y.dropWaiting q).fld (Pg.CP q) f = x.fld (Pg.CP q) f := by
    rw [hkeep f hf hl, ← hy, State.raiseNow_fld, State.fld_logMinor_p (by decide) h1 h2 h3 (by omega), State.putJk_fld,
      State.fld_setFld_p (by show 11 + 4 ≤ 32; decide) (.inl (hf ▸ ho)), State.fld_setFld_p (by show 1 + 1 ≤ 32; decide) (.inl (hf ▸ ho))]
  refine ⟨?_, ?_, ?_, ?_⟩
  · rw [State.jkState_eq, hf _ rfl (by decide), ← hx, State.fld_setFld_p (by decide) (by decide), State.fld_fits (by decide) (by decide)]
  · rw [State.jkLane_eq, hf _ rfl (by decide), ← hx, State.fld_fits (by decide) hm]
  · unfold State.on
    rw [hf _ rfl (by show 6 + m + 1 ≤ 11; omega), ← hx, State.fld_setFld_p (by decide) (.inr (.inr (by show 0 + 2 ≤ 6 + m; omega))),
      State.fld_setFld_p (by decide) (.inr (.inr (by show 2 + 3 ≤ 6 + m; omega)))]
    exact State.on_one (by show 6 + m + 1 ≤ 32; omega) Nat.one_ne_zero
  · rw [hstage, ← hy, State.raiseNow_jk, (State.logMinor_within (by decide)).jk q rfl, State.jk_putJk, hj]

/-- The calibration of the main slice that the Joker stands in for ends: the slice adapts, or it is substituted (R189, R194). -/
theorem mainSliceCalDone_shows {s : State} {q : Fin 16} {m : Fin 4} {ok : Bool} (hs : (s.jk q).stage = .calibrating) (hl : (s.jk q).lane = m) :
    ∃ t, exec (.mainSliceCalDone q m ok) s = .next t ∧ (ok = true → (t.jk q).stage = .adapting ∧ t.regs = s.regs) ∧
      (ok = false ∧ (s.jk q).release = false ∧ s.on (Pg.CP q) Fd.CP_JOKER_CTL_EN = true ∧ s.jkState q = jkCarrying ∧ s.jkLane q = m →
        t.jkState q = jkSubst ∧ t.jkLane q = m ∧ t.on (Pg.CP q) ⟨Rg.CP_JOKER_STAT, 6 + m, 1⟩ = true ∧ (t.jk q).stage = .none) := by
  refine ⟨_, next_eq (if_pos ⟨hs, hl⟩), fun hok => ?_, ?_⟩
  · rw [if_pos hok, State.jk_putJk]
    exact ⟨rfl, rfl⟩
  · rintro ⟨rfl, hrel, hen, hc, hlane⟩
    have e : s.sliceFailed q m = s.substitute q m := by
      unfold State.sliceFailed
      dsimp only
      rw [hen, hc, hlane, if_pos (by simp)]
    rw [hrel, if_neg (by decide), if_neg (by decide), e]
    exact s.substitute_shows q.isLt m.isLt

/-- RELEASE of a substituted lane recalibrates the slice that had failed (R195). -/
theorem jokerRelease_recalibrates {s : State} {q : Fin 16} {o : Owner} {w : Word} (ha : s.access o (Pg.CP q) = .granted) (h0 : wf w 0 1 = 1)
    (h4 : wf w 4 2 = 2) (h8 : wf w 8 4 = 0) (hj : s.jkState q = jkSubst) (hs : (s.jk q).stage = .none) :
    ∃ t, exec (.jokerRelease o q w) s = .next t ∧ (t.jk q).stage = .calibrating ∧ (t.jk q).release = true ∧ (t.jk q).lane = s.jkLane q := by
  obtain ⟨x, e, hk, -, hf⟩ := State.jokerCtl_eq (s := s) (q := q) (o := o) h0
  have hforce : wf w 4 1 = 0 := (wf_bit w h4).1
  have hrelease : wf w 5 1 = 1 := (wf_bit w h4).2
  have hxj : x.jkState q = jkSubst := (hf _ _ (by decide) (by decide)).trans hj
  have hxl : x.jkLane q = s.jkLane q := hf _ _ (by decide) (by decide)
  have hx : x.jkRelease q = x.putJk q { x.jk q with stage := .calibrating, lane := s.jkLane q, release := true, force := false } := by
    rw [← hxl]
    exact if_pos ⟨hxj, State.jk_of hk q ▸ hs⟩
  have ht : ((x.jkRelease q).jk q).stage = .calibrating := by rw [hx, State.jk_putJk]
  refine ⟨x.jkRelease q, next_eq ((State.guarded_granted ha).trans (e.trans ?_)), ht, ?_⟩
  · rw [hforce, if_neg (by decide), hrelease, if_pos rfl, h8, bitsOf_zero, List.foldl_nil]
    exact State.jkSettle_working (by rw [ht]; decide)
  · rw [hx, State.jk_putJk]
    exact ⟨rfl, rfl⟩

/-- FORCE substitutes a lane at once where no marker is to be waited for, else it starts a handover that ends in the substitution (R197). -/
theorem jokerForce_substitutes {s : State} {q : Fin 16} {o : Owner} {w : Word} (ha : s.access o (Pg.CP q) = .granted) (h0 : wf w 0 1 = 1)
    (h4 : wf w 4 2 = 1) (h8 : wf w 8 4 = 0) (hj : s.jkState q = jkIdle) (hs : (s.jk q).stage = .none) :
    let st := s.linkState (s.portOfQuad q)
    ∃ t, exec (.jokerForce o q w) s = .next t ∧ (st ≠ lkAlign ∧ st ≠ lkActive → t.jkState q = jkSubst ∧ t.jkLane q = wf w 2 2) ∧
      (st = lkAlign ∨ st = lkActive → (t.jk q).stage = .selfCal true ∧ (t.jk q).force = true ∧ (t.jk q).lane = wf w 2 2) := by
  intro st
  obtain ⟨x, e, hk, he, hf⟩ := State.jokerCtl_eq (s := s) (q := q) (o := o) h0
  have hforce : wf w 4 1 = 1 := (wf_bit w h4).1
  have hrelease : wf w 5 1 = 0 := (wf_bit w h4).2
  have hxj : x.jkState q = jkIdle := (hf _ _ (by decide) (by decide)).trans hj
  have hst : x.linkState (x.portOfQuad q) = st := by
    rw [State.portOfQuad_of fun g f h => hf g f (by omega) (by omega)]
    exact hf _ _ (by decide) (by decide)
  have hx : x.jkForce q (wf w 2 2) = if st = lkAlign ∨ st = lkActive then
      x.putJk q { x.jk q with stage := .selfCal true, lane := wf w 2 2, force := true, release := false } else x.substitute q (wf w 2 2) := by
    unfold State.jkForce
    dsimp only
    rw [State.jkAvailable_idle hxj he (State.jk_of hk q ▸ hs), hst, if_neg (by decide), State.startRecal_idle hxj]
  obtain ⟨hsub, hlane, -, -⟩ := x.substitute_shows q.isLt (wf_lt w 2 2)
  refine ⟨x.jkForce q (wf w 2 2), next_eq ((State.guarded_granted ha).trans (e.trans ?_)), fun h => ?_, fun h => ?_⟩
  · rw [hforce, if_pos rfl, hrelease, if_neg (by decide), h8, bitsOf_zero, List.foldl_nil, hx]
    split
    · exact State.jkSettle_working (by rw [State.jk_putJk]; exact nofun)
    · exact State.jkSettle_busy (by rw [hsub]; decide)
  · rw [hx, if_neg (not_or.mpr h)]
    exact ⟨hsub, hlane⟩
  · rw [hx, if_pos h, State.jk_putJk]
    exact ⟨rfl, rfl, rfl⟩

/-- Settles O21: a scan by what it shows and asks for, a handover by its stages, a substitution by the registers that it leaves. -/
theorem jokersCarryAndReplaceLanes : Obligations.JokersCarryAndReplaceLanes := by
  refine ⟨fun q m x s hb => ?_, fun q m s hj hs hw => ⟨recalPeriod_begins hj hs hw, fun o w => jokerCalNow_begins hj hs hw⟩,
    fun q u a b fig s => calAttemptDone_standsBy, fun q run c s => ⟨jokerMatched_shows run, jokerMatchTimeout_aborts, mainSliceMatched_shows run⟩,
    fun q m ok s => mainSliceCalDone_shows, fun o q w s => jokerRelease_recalibrates, fun o q w s => jokerForce_substitutes⟩
  intro p h hm ui lim w low
  obtain ⟨hw, hh⟩ := s.contEye_lt p x
  have e : s.contEye p x = ⟨w, _⟩ := s.contEye_eq p x
  have hshown := State.eyeScan_shows x.codes hb h hm hw hh
  rw [e] at hshown
  exact ⟨_, next_eq (congrArg (s.eyeScan q m · x.codes) e), hshown⟩

end Sys2Proof.Machine
end

section
/-!
PROOFS. A dispatch arbiter that has granted a port number past the sixteen ports (O23).
-/
namespace Sys2Proof.Machine

/-- The port number whose entry of the DLR map would be the low byte of PP_STAT of pipeline 0. -/
def strayPort : Nat := Pg.PP 0 * 4096 + Rg.PP_STAT - (Pg.DLR * 4096 + Rg.DLR_MAP0)

/-- The arbiter of pipeline 0 has granted that number, for which stripe 4 of a unit waits; both context sets are empty. PP_STAT, with
NEXT_LOADED set, reads as a map entry that spreads stripes over five pipelines from 0 on, so that stripe 4 goes to pipeline 4; with
NEXT_LOADED clear it goes to pipeline 0. -/
def strayGrant : State :=
  { (State.reset.setFld (Pg.PP 0) Fd.PP_STAT_CUR_PORT 8).setFld (Pg.PP 0) Fd.PP_STAT_NEXT_LOADED 1 with
    arb := [(0, ⟨some strayPort⟩)]
    intake := [(strayPort, { units := [⟨0, 1, 0, 0, .gap, 8, [4]⟩] })] }

/-- Pipeline 0 needs no context, so that the clause on context loads asks that set 1, which is empty, stays so. -/
theorem strayGrant_needs : strayGrant.ctxNeeds 0 = [] ∧ (strayGrant.pipe_ 0).set1 = none := by decide +kernel

/-- The end of a load leads to another one, for the unit that the arbiter seems to have decided on. -/
theorem strayGrant_loads : ((strayGrant.ctxLoaded 0).pipe_ 0).set1 = some ⟨strayPort, false, false, 0, []⟩ := by decide +kernel

/-- Refutes O23: its clause on context loads bounds no granted port. A round of the arbiter grants one of 16 ports alone, but for a number past
them the map entry can lie in PP_STAT, whose NEXT_LOADED the end of a load brings up to date: a unit comes to the pipeline that was not
among its needs, and a set that was empty is taken for it. -/
theorem not_pipelinesDispatchLoadAndCorrect : ¬ Obligations.PipelinesDispatchLoadAndCorrect := by
  rintro ⟨-, -, -, h, -⟩
  obtain ⟨hneeds, hempty⟩ := strayGrant_needs
  obtain ⟨t, ht, hfilled, -⟩ := h 0 strayGrant
  have he : t = strayGrant.ctxLoaded 0 := (Host.Outcome.next.inj ht).symm
  have hset : (t.pipe_ 0).set1 = none := by
    refine (hfilled fun k hk => ?_).2.trans (congrArg _ hempty)
    exact absurd (hneeds ▸ hk : k ∈ []) (List.not_mem_nil)
  rw [he] at hset
  exact absurd (strayGrant_loads.symm.trans hset) (by simp)

end Sys2Proof.Machine
end

section
/-!
PROOFS. View lines stitched in SETUP (O24): what a stitcher shows, and the line that joins it.
-/
namespace Sys2Proof.Machine

/-! ### What a stitcher shows: the next line and the lines kept (R260) -/

/-- What the readers of a view's stitcher see: its next line and the lines that it keeps. -/
def Stitch.shown (x : Stitch) : Nat × List VLine := (x.next, x.lines)

theorem State.sti_of {s t : State} (h : t.stitch_ = s.stitch_) (v : Nat) : t.sti v = s.sti v := by unfold State.sti; rw [h]

theorem State.shown_putSti (s : State) (v : Nat) (x : Stitch) : ((s.putSti v x).sti v).shown = x.shown := by rw [State.sti_putSti]

/-- The end of a trim window moves trims alone. -/
theorem State.trimUpdate_shown (s : State) (c : Copy) (v n : Nat) : ((s.trimUpdate c v n).sti v).shown = (s.sti v).shown := by
  unfold State.trimUpdate
  dsimp only
  split
  · rfl
  · split
    · exact State.shown_putSti ..
    · rw [foldl_kept (fun t : State => (t.sti v).shown) _ fun t e => ?_]
      · exact State.shown_putSti ..
      · split
        · rw [State.sti_of ((State.flag_within ..).stitch_eq rfl)]
          exact State.shown_putSti ..
        · exact State.shown_putSti ..

theorem State.dotLine_stitch (s : State) (v n : Nat) (l : List PLine) : (s.dotLine v n l).stitch_ = s.stitch_ := by
  unfold State.dotLine
  split
  · rfl
  · split
    · rfl
    · exact State.setFld_stitch_ ..

/-- A stitched line is captured, and makes its repeat a bad one where it is a gap line, poisoned or unlocked (R310, R329). -/
def State.noteLine (s : State) (v : Nat) (x : VLine) : State :=
  if s.mode = .setup ∨ s.mode = .hold then s
  else
    let s := s.captureLine v x
    let unlocked := !(s.frameAt v x.n).lock
    if x.gap ∨ unlocked ∨ x.planes.any (·.contains .bad) then
      let y := s.mstV v
      s.putMst v { y with badRep := if y.badRep.contains (s.repOf v x.n) then y.badRep else (s.repOf v x.n :: y.badRep).take 64 }
    else s

/-- What follows once a stitched line stands among its view's lines: its masters, its streams, and the port lines dropped. -/
def State.passOn (s : State) (v : Nat) (x : VLine) : State :=
  let s := s.noteLine v x
  let s := (s.feedStreams 0 v x.n x.gap false x.planes).catchUp s v x.n
  (s.portsOf v).foldl (fun s p => { s with corr := tabPut (dflt []) p ((s.corr_ p).filter fun y => decide (x.n < y.n)) s.corr }) s

theorem State.noteLine_stitch (s : State) (v : Nat) (x : VLine) : (s.noteLine v x).stitch_ = s.stitch_ := by
  unfold State.noteLine
  dsimp only
  split
  · rfl
  · refine (ite_kept (·.stitch_) ?_).trans ((State.captureLine_within ..).stitch_eq rfl)
    rw [State.putMst_stitch_]

theorem State.passOn_stitch (s : State) (v : Nat) (x : VLine) : (s.passOn v x).stitch_ = s.stitch_ := by
  unfold State.passOn
  dsimp only
  refine (foldl_kept (·.stitch_) _ (fun _ _ => ?_) _ _).trans ?_
  · rfl
  · rw [(State.catchUp_within ..).stitch_eq rfl, (State.feedStreams_within ..).stitch_eq rfl, State.noteLine_stitch]

/-- A stitched line joins its view's lines, a gap line where every port's line is one; then trims, the measurement and the readers of the line
have their turn. -/
theorem State.stitchLine_eq (s : State) (v n : Nat) (l : List PLine) : ∃ (t : State) (x : VLine), x.n = n ∧ x.gap = l.all (fun p => p.body == .gap) ∧
    s.stitchLine v n l = (((t.putSti v { t.sti v with next := n + 1, lines := (x :: (t.sti v).lines).take 16384 }).trimUpdate (s.copyAt v n) v n).dotLine v n l).passOn v x :=
  ⟨_, ⟨n, _, _, _, _⟩, rfl, rfl, rfl⟩

theorem State.stitchLine_shown (s : State) (v n : Nat) (l : List PLine) : ∃ x : VLine, x.n = n ∧ x.gap = l.all (fun p => p.body == .gap) ∧
    ∃ rest, ((s.stitchLine v n l).sti v).shown = (n + 1, x :: rest) := by
  obtain ⟨t, x, hn, hgap, heq⟩ := State.stitchLine_eq s v n l
  refine ⟨x, hn, hgap, (t.sti v).lines.take 16383, ?_⟩
  rw [heq, State.sti_of (State.passOn_stitch ..), State.sti_of (State.dotLine_stitch ..), State.trimUpdate_shown, State.shown_putSti]
  rfl

/-! ### The stages of a line where nothing waits (R15) -/

/-- Where no commit and no value of a new job waits, a line that enters a stage leaves its number there alone. -/
theorem State.stageLine_calm {s : State} (hc : s.commits = []) (hj : s.jobVals = []) (p v n : Nat) :
    s.stageLine p v n = { s with entered := tabPut (dflt 0) (4 * p + v) (n + 1) s.entered } := by
  have hb (r : Nat) (past : Bool) : s.boundary p v n r past = s := State.applyParts_calm hc ..
  unfold State.stageLine
  dsimp only
  rw [hj, List.filter_nil, List.map_nil, if_pos List.isEmpty_nil, hb, hj]

theorem State.stageLines_calm (v n : Nat) (l : List Nat) {s : State} (hc : s.commits = []) (hj : s.jobVals = []) :
    ∃ e, l.foldl (fun (s : State) p => s.stageLine p v n) s = { s with entered := e } := by
  induction l generalizing s with
  | nil => exact ⟨_, rfl⟩
  | cons p l ih =>
    rw [List.foldl_cons, State.stageLine_calm hc hj]
    exact ih hc hj

/-! ### A view line stitched in SETUP (R260) -/

/-- The lines of a view's ports are gap lines together where each port's line is one. -/
theorem portLines_gap (f : Nat → Option Body) (len : Nat → Nat) (ps : List Nat) (h : ∀ p ∈ ps, (f p).isSome = true) :
    ((ps.map fun p => (f p).map fun b => (⟨p, len p, b⟩ : PLine)).filterMap id).all (fun x => x.body == .gap) = ps.all fun p => f p == some .gap := by
  induction ps with
  | nil => rfl
  | cons p ps ih =>
    obtain ⟨b, hb⟩ := Option.isSome_iff_exists.mp (h p List.mem_cons_self)
    rw [List.map_cons, hb, Option.map_some, List.filterMap_cons_some (f := id) rfl, List.all_cons, List.all_cons, hb,
      ih fun q hq => h q (List.mem_cons_of_mem p hq)]
    rfl

theorem State.nextStitch_run {s : State} {v : Nat} (h : (s.sti v).run = some (s.view_ v).start) : s.nextStitch v = (s.sti v).next := if_pos h

section
variable {s : State} {v : Nat} (hm : s.mode = .setup) (hp : s.on Pg.STI Fd.HDR_PAGE_CTL_EN = true) (he : s.on Pg.STI Fd.STI_CTL_EN = true)
  (hr : (s.sti v).run = some (s.view_ v).start) (hports : s.portsAt v (s.sti v).next ≠ []) (hn : (s.sti v).next < s.nextLine v)
  (hl : ∀ p ∈ s.portsAt v (s.sti v).next, (s.portLine p (s.sti v).next).isSome = true) (hw : s.eventWait v (s.sti v).next = false)
  (hc : s.commits = []) (hj : s.jobVals = [])
include hm hp he hr hports hn hl hw hc hj

/-- The next line of a view in SETUP, all of whose port lines are there, is stitched from them. -/
theorem State.stitchView_setup : ∃ t : State, s.stitchView v = t.stitchLine v (s.sti v).next
    (((s.portsAt v (s.sti v).next).map fun p => (s.portLine p (s.sti v).next).map fun b => (⟨p, s.tapLen p (s.sti v).next, b⟩ : PLine)).filterMap id) := by
  have hover : s.partOver v (s.sti v).next = false := by unfold State.partOver; rw [hm]; rfl
  have hgot : ((s.portsAt v (s.sti v).next).map fun p => (s.portLine p (s.sti v).next).map fun b =>
      (⟨p, s.tapLen p (s.sti v).next, b⟩ : PLine)).any (·.isNone) = false := by
    rw [List.any_map, List.any_eq_false]
    intro p hmem
    simpa [Option.isSome_iff_ne_none] using hl p hmem
  obtain ⟨e, hstage⟩ := State.stageLines_calm v (s.sti v).next [Pg.STI, Pg.REG, Pg.MST, Pg.DEC, Pg.STR] hc hj
  unfold State.stitchView
  dsimp only
  rw [State.nextStitch_run hr, if_neg (by rw [hp, hm, hover, hgot]; simpa [hports] using hn), hw, if_neg (by decide), if_pos hr, hstage,
    if_neg (by show ¬(!s.on Pg.STI Fd.STI_CTL_EN) = true; rw [he]; decide)]
  exact ⟨_, if_pos (.inl hm)⟩

/-- The line stitched is the newest of the view's lines. -/
theorem State.stitchView_shows : ∃ l : VLine, ((s.stitchView v).sti v).next = (s.sti v).next + 1 ∧ ((s.stitchView v).sti v).lines.head? = some l ∧
    l.n = (s.sti v).next ∧ l.gap = (s.portsAt v (s.sti v).next).all (fun p => s.portLine p (s.sti v).next == some .gap) := by
  obtain ⟨t, ht⟩ := State.stitchView_setup hm hp he hr hports hn hl hw hc hj
  obtain ⟨x, hxn, hgap, rest, hshown⟩ := State.stitchLine_shown t v (s.sti v).next _
  rw [← ht] at hshown
  obtain ⟨hnext, hlines⟩ := Prod.mk.inj hshown
  exact ⟨x, hnext, by rw [hlines]; rfl, hxn, hgap.trans (portLines_gap _ _ _ hl)⟩

end

end Sys2Proof.Machine
end

section
/-!
PROOFS. The dot-grid measurement and the table registers (O24).
-/
namespace Sys2Proof.Machine

/-! ### The dot-grid measurement (R273, R275) -/

section
variable {s : State} {o : Owner} {w : Word} (hgo : wf w 7 1 = 1)
include hgo

/-- A measurement that is asked for in SETUP, with none running, starts anew at a multiple of 64 lines. -/
theorem State.calCtl_starts (hm : s.mode = .setup) (hd : s.dot = none) : ((s.touch o Pg.STI).calCtl w).rd Pg.STI Rg.STI_CAL_STAT = 1 ∧
    ∃ d, ((s.touch o Pg.STI).calCtl w).dot = some d ∧ d.view = wf w 0 2 ∧ d.lg = wf w 2 4 ∧ d.along = (wf w 6 1 == 1) ∧ d.seen = 0 ∧
      d.lost = false ∧ d.first % 64 = 0 := by
  obtain ⟨x, hxm, hxd, -, hx⟩ := State.calCtl_eq (s := s) (w := w) (o := o)
  rw [hx, if_neg (by rw [hgo]; decide), if_neg (by rw [hxm, hxd, hm, hd]; simp)]
  exact ⟨State.rd_wr_same .., _, rfl, rfl, rfl, rfl, rfl, rfl, Nat.mul_mod_left ..⟩

/-- Outside SETUP, or with one running, the request is turned down. -/
theorem State.calCtl_refused (h : s.mode ≠ .setup ∨ s.dot.isSome = true) : ((s.touch o Pg.STI).calCtl w).dot = s.dot ∧
    ((s.touch o Pg.STI).calCtl w).fld Pg.STI Fd.STI_CAL_STAT_RESULT = 2 := by
  obtain ⟨x, hxm, hxd, -, hx⟩ := State.calCtl_eq (s := s) (w := w) (o := o)
  rw [hx, if_neg (by rw [hgo]; decide), if_pos (by rw [hxm, hxd]; exact h)]
  exact ⟨(State.setFld_dot ..).trans hxd, State.fld_fits (by decide) (by decide)⟩

end

section
variable {s : State} {d : DotRun} (hd : s.dot = some d)
include hd

theorem State.dotDone_waits (h : d.seen < 2 ^ d.lg) : s.dotDone = s := by
  unfold State.dotDone
  rw [hd]
  exact if_pos h

/-- The state in which a measurement that has seen its lines leaves its results: it is over, and STATE shows so. -/
def State.dotOver (s : State) : State := { s with dot := none }.setFld Pg.STI Fd.STI_CAL_STAT_STATE 3

theorem State.dotDone_lost (h : 2 ^ d.lg ≤ d.seen) (hl : d.lost = true) :
    s.dotDone = s.dotOver.setFld Pg.STI Fd.STI_CAL_STAT_RESULT 3 := by
  unfold State.dotDone
  rw [hd]
  dsimp only
  rw [if_neg (Nat.not_lt.mpr h), if_pos hl]
  rfl

/-- A measurement across alone, of ports that all show two dots or more, writes its results. -/
theorem State.dotDone_measured (h : 2 ^ d.lg ≤ d.seen) (hl : d.lost = false) (halong : d.along = false)
    (hdots : ∀ p ∈ d.ports, 2 ≤ (s.dotsOf d.view p.port (p.sums.map fun x => (rdiv (x : Nat) (2 ^ d.lg)).toNat)).length) :
    ∃ geo ofs, s.dotDone = s.dotOver.dotWrite d geo ofs := by
  unfold State.dotDone
  rw [hd]
  dsimp only
  rw [if_neg (Nat.not_lt.mpr h), if_neg (by rw [hl]; decide)]
  split
  · rename_i e he
    obtain ⟨p, hp, rfl⟩ := List.mem_map.mp (List.mem_of_find?_eq_some he)
    have hfew := List.find?_some he
    have hwin : ({ s with dot := none }.setFld Pg.STI Fd.STI_CAL_STAT_STATE 3).window = s.window := State.setFld_window ..
    rw [State.dotsOf_of hwin] at hfew
    exact absurd (hdots p hp) (by simpa using hfew)
  · rw [if_neg (by rw [halong]; simp)]
    exact ⟨_, _, rfl⟩

end


/-- The end of a measurement whose ports all show two dots: what STATE and RESULT show. -/
theorem dotGridDone_shows {s : State} {d : DotRun} (hd : s.dot = some d) : ∃ t, exec .dotGridDone s = .next t ∧
    (d.seen < 2 ^ d.lg → t = s) ∧
    (2 ^ d.lg ≤ d.seen ∧ d.lost = true → t.dot = none ∧ t.fld Pg.STI Fd.STI_CAL_STAT_STATE = 3 ∧
      t.fld Pg.STI Fd.STI_CAL_STAT_RESULT = 3 ∧ t.window = s.window) ∧
    (2 ^ d.lg ≤ d.seen ∧ d.lost = false ∧ d.along = false ∧ (∀ p ∈ d.ports, 2 ≤ (s.dotsOf d.view p.port
        (p.sums.map fun x => (rdiv (x : Nat) (2 ^ d.lg)).toNat)).length) →
      t.dot = none ∧ t.fld Pg.STI Fd.STI_CAL_STAT_STATE = 3 ∧ t.fld Pg.STI Fd.STI_CAL_STAT_RESULT = 1) := by
  have hdot : s.dotOver.dot = none := State.setFld_dot ..
  have hstate : s.dotOver.fld Pg.STI Fd.STI_CAL_STAT_STATE = 3 := State.fld_fits (by decide) (by decide)
  refine ⟨s.dotDone, rfl, State.dotDone_waits hd, ?_, ?_⟩
  · rintro ⟨h, hl⟩
    rw [State.dotDone_lost hd h hl]
    refine ⟨(State.setFld_dot ..).trans hdot, (State.fld_setFld_p (by decide) (by decide)).trans hstate, State.fld_fits (by decide) (by decide), ?_⟩
    exact (State.setFld_window ..).trans (State.setFld_window ..)
  · rintro ⟨h, hl, halong, hdots⟩
    obtain ⟨geo, ofs, he⟩ := State.dotDone_measured hd h hl halong hdots
    rw [he]
    obtain ⟨h1, h2, h3⟩ := State.dotWrite_shows s.dotOver d geo ofs halong hstate
    exact ⟨h1.trans hdot, h2, h3⟩

/-! ### The table registers (R290, R428) -/

/-- The page whose TBL_ADDR an access steps. -/
abbrev tblPage (str : Bool) : Nat := if str then Pg.STR else Pg.STI

/-- Where TBL_ADDR stands after an access. -/
def State.tblNext (s : State) (p : Nat) : Nat :=
  if s.on p Fd.STI_TBL_ADDR_INC then (s.fld p Fd.STI_TBL_ADDR_ADDR + 1) % 8192 else s.fld p Fd.STI_TBL_ADDR_ADDR

/-- Whether the word that TBL_DATA reaches may be written. -/
def State.tblOpen (s : State) (str : Bool) : Bool :=
  if str then decide (s.tblWord str < strShadowAt + 0x3800) else s.tblFree (s.tblWord str - stitchAt)

/-- The flag of a refused write. -/
abbrev tblRefusedFld (str : Bool) : Fld := if str then Fd.STR_STAT_TBL_REFUSED else Fd.STI_STAT_TBL_REFUSED

/-- A write of TBL_DATA: the word stored, or the flag, and TBL_ADDR stepped. -/
theorem State.tblWrite_eq (s : State) (str : Bool) (w : Word) : s.tblWrite str w =
    (if s.tblOpen str then s.setWin (s.tblWord str) (w &&& winMask (s.tblWord str)) else s.flag (tblPage str) (tblRefusedFld str)).tblStep (tblPage str) := by
  unfold State.tblWrite State.tblOpen
  cases str <;> simp only [tblPage, tblRefusedFld, reduceIte, Bool.false_eq_true]

theorem State.tblNext_of_regs {s t : State} (h : t.regs = s.regs) (p : Nat) : t.tblNext p = s.tblNext p := by
  unfold State.tblNext
  rw [State.on_of h, State.fld_of h]

theorem State.tblNext_flag (s : State) (str : Bool) : (s.flag (tblPage str) (tblRefusedFld str)).tblNext (tblPage str) = s.tblNext (tblPage str) := by
  unfold State.tblNext
  cases str <;>
    rw [State.on_flag_p (by decide) (by decide) (by decide) (by decide), State.fld_flag_p (by decide) (by decide) (by decide) (by decide)]

theorem State.tblWrite_addr (s : State) (str : Bool) (w : Word) :
    (s.tblWrite str w).fld (tblPage str) Fd.STI_TBL_ADDR_ADDR = s.tblNext (tblPage str) := by
  rw [State.tblWrite_eq]
  refine (State.tblStep_addr ..).trans ?_
  show State.tblNext _ _ = _
  split
  · exact State.tblNext_of_regs (State.setWin_regs ..) _
  · exact State.tblNext_flag ..

theorem State.tblWrite_open {s : State} {str : Bool} (h : s.tblOpen str = true) (w : Word) :
    (s.tblWrite str w).window = (s.setWin (s.tblWord str) (w &&& winMask (s.tblWord str))).window := by
  rw [State.tblWrite_eq, State.tblStep_window, if_pos h]

/-- A refused write of STI's table stores nothing and sets TBL_REFUSED. -/
theorem State.tblWrite_refused {s : State} (h : s.tblOpen false = false) (w : Word) :
    (s.tblWrite false w).win (s.tblWord false) = s.win (s.tblWord false) ∧ (s.tblWrite false w).on Pg.STI Fd.STI_STAT_TBL_REFUSED = true := by
  have hat : s.tblWord false ≠ 0x0C1000 := by show 0x2000000 + 4 * _ ≠ 0x0C1000; omega
  rw [State.tblWrite_eq, h, if_neg (by decide)]
  constructor
  · exact (State.win_of (State.tblStep_window ..) _).trans (State.flag_win _ _ _ _ hat)
  · rw [State.tblStep_eq]
    have hset : (s.flag Pg.STI Fd.STI_STAT_TBL_REFUSED).on Pg.STI Fd.STI_STAT_TBL_REFUSED = true :=
      State.on_flag_self (by decide) (by decide) (by decide) (by decide)
    refine Eq.trans ?_ hset
    show (if _ then State.setFld _ Pg.STI _ _ else _).on _ _ = _
    split
    · exact State.on_setFld_p (by decide) (by decide)
    · rfl

theorem State.tblWord_touch (s : State) (o : Owner) (p : Nat) (str : Bool) : (s.touch o p).tblWord str = s.tblWord str := by
  unfold State.tblWord
  rw [State.fld_of (State.touch_regs ..), State.fld_of (State.touch_regs ..)]

theorem State.tblOpen_touch (s : State) (o : Owner) (p : Nat) (str : Bool) : (s.touch o p).tblOpen str = s.tblOpen str := by
  unfold State.tblOpen
  rw [State.tblWord_touch, State.tblFree_touch]

theorem tblData_write {s : State} {o : Owner} {str : Bool} (x : Word) (ha : s.access o (tblPage str) = .granted) :
    ∃ t, exec (.tblDataAccess o str (some x)) s = .next t ∧ t.fld (tblPage str) Fd.STI_TBL_ADDR_ADDR = s.tblNext (tblPage str) ∧
      (s.tblOpen str = true → t.window = (s.setWin (s.tblWord str) (x &&& winMask (s.tblWord str))).window) ∧
      (str = false ∧ s.tblFree (s.tblWord str - stitchAt) = false → t.win (s.tblWord str) = s.win (s.tblWord str) ∧ t.on Pg.STI Fd.STI_STAT_TBL_REFUSED = true) := by
  refine ⟨_, next_eq (State.guarded_granted ha), (State.tblWrite_addr ..).trans (State.tblNext_of_regs (State.touch_regs ..) _), ?_, ?_⟩
  · intro h
    rw [State.tblWrite_open ((State.tblOpen_touch ..).trans h), State.tblWord_touch]
    exact congrArg (tabPut winReset _ _) (State.touch_window ..)
  · rintro ⟨rfl, h⟩
    obtain ⟨hwin, hflag⟩ := State.tblWrite_refused ((State.tblOpen_touch s o Pg.STI false).trans ((if_neg (by decide)).trans h)) x
    rw [State.tblWord_touch] at hwin
    exact ⟨hwin.trans (State.win_touch ..), hflag⟩

theorem tblData_read {s : State} {o : Owner} {str : Bool} (hr : s.reaches o (tblPage str) = true) :
    ∃ t, exec (.tblDataAccess o str none) s = .next t ∧ t.fld (tblPage str) Fd.STI_TBL_ADDR_ADDR = s.tblNext (tblPage str) ∧ t.window = s.window ∧
      t.out = s.out ++ [.readData (ownerCode o) (tblPage str * 4096 + Rg.STI_TBL_DATA) (s.win (s.tblWord str))] := by
  have hread : (s.touch o (tblPage str)).win ((s.touch o (tblPage str)).tblWord str) = s.win (s.tblWord str) := by
    rw [State.tblWord_touch, State.win_touch]
  refine ⟨_, if_pos hr, ?_, ?_, ?_⟩
  · refine (State.tblStep_addr ..).trans ?_
    exact State.tblNext_of_regs (State.touch_regs ..) _
  · exact (State.tblStep_window ..).trans (State.touch_window ..)
  · show ((s.touch o (tblPage str)).tblStep (tblPage str)).out ++ _ = _
    rw [(State.tblStep_within ..).out_eq rfl, State.touch_out]
    exact congrArg (fun x => s.out ++ [Output.readData _ _ x]) hread

end Sys2Proof.Machine
end

section
/-!
PROOFS. Registration windows and updates (O24).
-/
namespace Sys2Proof.Machine

/-! ### Registration windows (R280) -/

theorem State.measure_frame (s : State) (v w : Nat) {k : Nat} (h : k ≠ 64 * v + w) :
    tabGet (dflt none) (s.measure v w).winRes k = tabGet (dflt none) s.winRes k := by
  unfold State.measure
  dsimp only
  split <;> split <;> exact tabGet_tabPut_of_ne _ _ _ h

/-- A window of the next update that has not been measured, and whose lines are there, is measured. -/
theorem State.regWindow_ready {s : State} {v w : Nat} (hr : s.regRuns v = true) (hon : w ∈ s.winsOn (s.repCopy v (s.view_ v).updR) v)
    (hnew : w ∉ (s.view_ v).wins) (hready : s.winReady v w = true) : s.regWindow v w = s.measure v w :=
  if_pos (by simp [hr, hon, hnew, hready])

/-! ### Registration updates (R279, R281) -/

theorem State.fineUpd_regs (s : State) (v u : Nat) : (s.fineUpd v u).regs = s.regs := (State.fineUpd_within ..).regs_eq rfl

/-- What an update shows of a view: VIEW_CORR_Y, and the view's registration. -/
def State.regShown (s : State) (v : Nat) : Word × ViewSt := (s.rd Pg.REG (Rg.REG_VIEW_CORR_Y v), s.view_ v)

theorem State.regShown_of {s t : State} {v : Nat} (hr : RegSame (Pg.REG * 4096 + Rg.REG_VIEW_CORR_Y v) s t) (hv : t.view = s.view) :
    t.regShown v = s.regShown v := by
  unfold State.regShown
  rw [hr.rd, State.viewOf_eq hv]

section
variable {v : Nat} (hv : v < 4)
include hv

theorem corrY_plain : plainAt (Rg.REG_VIEW_CORR_Y v) := by
  unfold plainAt Rg.REG_VIEW_CORR_Y Rg.HDR_IRQ_STAT Rg.HDR_PAGE_STAT
  omega

theorem State.flagBit_regShown (s : State) {f : Fld} (hf : f.off = Rg.REG_STAT) (k : Nat) : (s.flagBit Pg.REG f k).regShown v = s.regShown v := by
  have hne : Rg.REG_VIEW_CORR_Y v ≠ f.off := by rw [hf]; unfold Rg.REG_VIEW_CORR_Y Rg.REG_STAT; omega
  exact State.regShown_of (State.flag_at (not_headOf (by decide) (corrY_plain hv)) (off_ne hne)) ((State.flag_within ..).view_eq rfl)

theorem State.logLine_regShown (s : State) {c : ErrCode} (hc : c.cls ≠ 3) (page w n arg0 arg1 : Nat) :
    (s.logLine c page w n arg0 arg1).regShown v = s.regShown v :=
  State.regShown_of (State.logMinor_same (not_logPage (by decide) (by decide) (by decide) (corrY_plain hv).1) hc) ((State.logMinor_within hc).view_eq rfl)

/-- An update shows the C that it leaves. -/
theorem State.applyUpd_shows (s : State) (u : Nat) (c : Copy) (e ofit bfit : Int) (n : Nat) (good : Bool) :
    (s.applyUpd v u c e ofit bfit n good).rd Pg.REG (Rg.REG_VIEW_CORR_Y v) = BitVec.ofInt 32 ((s.applyUpd v u c e ofit bfit n good).view_ v).c := by
  suffices h : ∃ t : State, (s.applyUpd v u c e ofit bfit n good).regShown v = (t.wr Pg.REG (Rg.REG_VIEW_CORR_Y v) (BitVec.ofInt 32 (t.view_ v).c)).regShown v by
    obtain ⟨t, ht⟩ := h
    obtain ⟨h1, h2⟩ := Prod.mk.inj ht
    rw [h1, h2, State.rd_wr_same]
    rfl
  have hx (t : State) (w : Word) : (t.wr Pg.REG (Rg.REG_VIEW_CORR_X v) w).regShown v = t.regShown v :=
    State.regShown_of (State.wr_same (off_ne (by unfold Rg.REG_VIEW_CORR_Y Rg.REG_VIEW_CORR_X; omega))) (State.wr_view ..)
  have hraise (t : State) (a b d : Nat) : (t.raiseLine (evRegLock v) a b d).regShown v = t.regShown v :=
    State.regShown_of (RegSame.of_regs ((State.raiseLine_within ..).regs_eq rfl)) ((State.raiseLine_within ..).view_eq rfl)
  have hlost (t : State) : ((t.flagBit Pg.REG Fd.REG_STAT_LOCK_LOST v).logLine Er.REG_UNLOCKED Pg.REG v u v).regShown v = t.regShown v :=
    (State.logLine_regShown hv _ (by decide) ..).trans (State.flagBit_regShown hv t rfl v)
  have hnone (t : State) : ((t.flagBit Pg.REG Fd.REG_STAT_NO_LOCK v).logLine Er.REG_NO_LOCK Pg.REG v u v).regShown v = t.regShown v :=
    (State.logLine_regShown hv _ (by decide) ..).trans (State.flagBit_regShown hv t rfl v)
  unfold State.applyUpd
  dsimp only
  rw [ite_kept (State.regShown · v) (hnone _), ite_kept (State.regShown · v) (hraise ..), ite_kept (State.regShown · v) (hlost _), hx]
  exact ⟨_, rfl⟩

end

section
variable {s : State} {v : Nat} (hr : s.regRuns v = true) (hline : s.updLine v (s.view_ v).updR ≤ s.nextLine v + 62) (hc : s.commits = [])
  (hw : ∀ w ∈ s.winsOn (s.repCopy v (s.view_ v).updR) v, w ∈ (s.view_ v).wins)
include hr hline hc hw

/-- The update of a view whose windows are all measured: with registration off it is passed over, with registration on it is applied. -/
theorem State.regUpd_eq : ∃ (e ofit bfit : Int) (n : Nat) (good : Bool), s.regUpd v =
    let u := s.updLine v (s.view_ v).updR
    let t := s.fineUpd v u
    if tbit (s.rdView Pg.REG Rg.REG_CTL v).toNat 0 then t.applyUpd v u (s.repCopy v (s.view_ v).updR) e ofit bfit n good
    else t.setView v { t.view_ v with updR := (s.view_ v).updR + 1, wins := [] } := by
  have hall : (s.winsOn (s.repCopy v (s.view_ v).updR) v).any (fun w => !(s.view_ v).wins.contains w) = false := by
    rw [List.any_eq_false]
    intro w hmem
    simpa using hw w hmem
  have hctl (u : Nat) : (s.fineUpd v u).rdView Pg.REG Rg.REG_CTL v = s.rdView Pg.REG Rg.REG_CTL v := by
    unfold State.rdView
    rw [State.fineUpd_regs]
  unfold State.regUpd
  dsimp only
  rw [if_neg (by rw [hr, hall]; simpa using hline), State.applyParts_calm hc, hctl]
  cases tbit (s.rdView Pg.REG Rg.REG_CTL v).toNat 0 with
  | true => exact ⟨_, _, _, _, _, rfl⟩
  | false => exact ⟨0, 0, 0, 0, false, rfl⟩

/-- The windows of the next update are taken by it; with registration on, VIEW_CORR_Y shows its C. -/
theorem State.regUpd_shows (hv : v < 4) : ((s.regUpd v).view_ v).wins = [] ∧
    (tbit (s.rdView Pg.REG Rg.REG_CTL v).toNat 0 = false → ((s.regUpd v).view_ v).updR = (s.view_ v).updR + 1 ∧ (s.regUpd v).regs = s.regs) ∧
    (tbit (s.rdView Pg.REG Rg.REG_CTL v).toNat 0 = true →
      (s.regUpd v).rd Pg.REG (Rg.REG_VIEW_CORR_Y v) = BitVec.ofInt 32 ((s.regUpd v).view_ v).c) := by
  obtain ⟨e, ofit, bfit, n, good, heq⟩ := State.regUpd_eq hr hline hc hw
  dsimp only at heq
  rw [heq]
  cases tbit (s.rdView Pg.REG Rg.REG_CTL v).toNat 0 with
  | true =>
    rw [if_pos rfl]
    exact ⟨State.applyUpd_wins .., fun h => absurd h (by decide), fun _ => State.applyUpd_shows hv ..⟩
  | false =>
    rw [if_neg (by decide), State.view_setView]
    exact ⟨rfl, fun _ => ⟨rfl, State.fineUpd_regs ..⟩, fun h => absurd h (by decide)⟩

end

/-- Settles O24: each command by the lemma that says what it shows. -/
theorem viewsAreStitchedAndRegistered : Obligations.ViewsAreStitchedAndRegistered := by
  refine ⟨?_, ?_, fun d s hd => dotGridDone_shows hd, ?_, ?_, ?_⟩
  · intro v s hm hp he hr hports hn hl hw hc hj
    obtain ⟨l, hshows⟩ := State.stitchView_shows hm hp he hr hports hn hl hw hc hj
    exact ⟨_, l, rfl, hshows⟩
  · intro o w s ha hgo
    exact ⟨_, next_eq (State.guarded_granted ha), fun ⟨hm, hd⟩ => State.calCtl_starts hgo hm hd, State.calCtl_refused hgo⟩
  · intro o str x s
    exact ⟨fun ha => tblData_write x ha, fun hr => tblData_read hr⟩
  · intro v w s hr hon hnew hready
    have he := State.regWindow_ready hr hon hnew hready
    obtain ⟨r, hwins, hres, hregs⟩ := State.measure_shows s v w
    exact ⟨_, r, next_eq he, hwins, hres, hregs, fun k hk => State.measure_frame s v w hk⟩
  · intro v s hr hline hc hw
    exact ⟨_, rfl, State.regUpd_shows hr hline hc hw v.isLt⟩

end Sys2Proof.Machine
end

section
/-!
PROOFS. Engines in their part: masters fetched and tiles measured (O26).
-/
namespace Sys2Proof.Machine

/-! ### An engine in its part with nothing left over -/

/-- An engine written back as it stands changes no engine. -/
theorem State.engOf_putBack (s : State) (e k : Nat) : (s.putEng e (s.engOf e)).engOf k = s.engOf k := by
  unfold State.engOf State.putEng
  rw [tabGet_tabPut]
  split
  · rename_i h
    rw [h]
  · rfl

section
variable {s : State} {e v : Nat} (hv : (s.engOf e).view = some v)
include hv

/-- An engine with a view is assigned to no other. -/
theorem State.assign_served : s.assign e = s := if_pos (by rw [hv]; rfl)

/-- The part of an engine does not end before its last line. -/
theorem State.closePart_before (h : ∀ z, s.partEnd v (s.engOf e).newJob = some z → (s.engOf e).fin = true ∨ (s.engOf e).next < z) : s.closePart e = s := by
  unfold State.closePart
  dsimp only
  rw [hv]
  dsimp only
  split
  · rfl
  · rename_i z hz
    exact if_pos (h z hz)

end

/-- With no item to send an engine is only written back. -/
theorem State.sendItems_none {s : State} {e : Nat} (h : (s.engOf e).togo = []) : s.sendItems e [] = s.putEng e (s.engOf e) := by
  have hx : { s.engOf e with togo := (s.engOf e).togo ++ [] } = s.engOf e := by rw [List.append_nil]
  unfold State.sendItems
  dsimp only
  rw [hx, h]
  rfl

/-- An engine in the middle of its part is not free. -/
theorem State.freeEngine_busy {s : State} {e : Nat} (h : (s.engOf e).fin = false) : s.freeEngine e = s := by
  unfold State.freeEngine
  dsimp only
  split
  · rfl
  · exact if_pos (by rw [h]; rfl)

/-! ### What moves no engine's place -/

/-- An engine that waits for MST only notes the line it stands at. -/
theorem State.engHeld_engOf (s : State) (e v n : Nat) : ∃ h, (s.engHeld e v n).engOf e = { s.engOf e with held := h } := by
  unfold State.engHeld
  dsimp only
  split
  · exact ⟨_, State.engOf_of ((State.flag_within ..).eng_eq rfl) e⟩
  · exact ⟨_, (State.engOf_of (State.bump_eng ..) e).trans (State.engOf_putEng ..)⟩

/-- Items sent leave an engine's place. -/
theorem State.putItem_spot (s : State) (e : Nat) : ((s.putItem e).engOf e).spot = (s.engOf e).spot := State.spot_putEng ..

theorem State.putItems_spot (e k : Nat) (s : State) : ((s.putItems e k).engOf e).spot = (s.engOf e).spot := by
  induction k generalizing s with
  | zero => rfl
  | succ k ih =>
    have hreq : (s.qRequest (itemQueue e (s.engOf e).put) engHolder itemWords false).1.engOf e = s.engOf e :=
      State.engOf_of ((State.qRequest_within ..).eng_eq rfl) e
    unfold State.putItems
    split
    · rfl
    · dsimp only
      split
      · rw [ih, State.putItem_spot, hreq]
      · rw [State.engOf_of ((State.flag_within ..).eng_eq rfl), hreq]

theorem State.sendItems_spot (s : State) (e : Nat) (l : List EngItem) : ((s.sendItems e l).engOf e).spot = (s.engOf e).spot := by
  unfold State.sendItems
  dsimp only
  rw [State.putItems_spot]
  exact State.spot_putEng ..

/-- A coarse row sends an alarm at most. -/
theorem State.coarseRow_spot (s : State) (e v n : Nat) : ((s.coarseRow e v n).engOf e).spot = (s.engOf e).spot := by
  have hbump : (s.bump (Pg.IE e) Fd.IE_CNT0_COARSE).engOf e = s.engOf e := State.engOf_of (State.bump_eng ..) e
  unfold State.coarseRow
  dsimp only
  refine (apply_ite (fun t : State => (t.engOf e).spot) ..).trans ((ite_congr rfl (fun _ => rfl) fun _ => ?_).trans (ite_self _))
  refine (apply_ite (fun t : State => (t.engOf e).spot) ..).trans ((ite_congr rfl (fun _ => rfl) fun _ => ?_).trans (ite_self _))
  refine (apply_ite (fun t : State => (t.engOf e).spot) ..).trans ((ite_congr rfl (fun _ => ?_) fun _ => ?_).trans (ite_self _))
  · rw [hbump]
  · rw [State.engOf_of ((State.raiseLine_within ..).eng_eq rfl), State.sendItems_spot, hbump]

/-! ### MASTER_FETCH (R300, R306) -/

/-- Panic changes registers of the memory controllers alone. -/
theorem State.panicCheck_mst (s : State) (e : Nat) {off : Nat} (h : off < 4096) : (s.panicCheck e).rd Pg.MST off = s.rd Pg.MST off := by
  have hpage (c : Nat) : (Pg.MST * 4096 + off) / 4096 ≠ Pg.MC c := by rw [addr_page h]; unfold Pg.MST Pg.MC; omega
  have hshow (t : State) (c : Nat) (b : Bool) : RegSame (Pg.MST * 4096 + off) t (t.setBit (Pg.MC c) Fd.MC_STAT_PANIC b) :=
    State.setFld_page (hpage c) (by decide)
  refine RegSame.rd ?_
  unfold State.panicCheck
  dsimp only
  refine (State.setFld_page (by rw [addr_page h]; decide) (by decide)).step (RegSame.foldl (RegSame.foldl (RegSame.refl _ _) ?_) ?_)
  · intro t c ht
    refine RegSame.step ?_ ht
    split
    · exact (State.bump_page (hpage c) (by decide)).step (RegSame.of_regs rfl)
    · split
      · exact RegSame.of_regs rfl
      · exact RegSame.refl _ _
  · exact fun t c ht => (hshow t c _).step ht

/-- The counter of uncorrected master reads. -/
abbrev fetchErr : Fld := ⟨Rg.MST_FETCH_ERR, 0, 16⟩

section
variable (s : State) (e : Nat) (x : Eng)

/-- An engine written with its fill level checked after. -/
theorem State.refill_engOf : ((s.putEng e x).panicCheck e).engOf e = x :=
  (State.engOf_of ((State.panicCheck_within ..).eng_eq rfl) e).trans (State.engOf_putEng ..)

theorem State.refill_rd : ((s.putEng e x).panicCheck e).rd Pg.MST Rg.MST_FETCH_ERR = s.rd Pg.MST Rg.MST_FETCH_ERR :=
  (State.panicCheck_mst _ e (by decide)).trans (State.putEng_rd ..)

theorem State.refill_fld : ((s.putEng e x).panicCheck e).fld Pg.MST fetchErr = s.fld Pg.MST fetchErr :=
  congrArg (fun w => wf w 0 16) (State.refill_rd ..)

end

section
variable {s : State} {e n p bx by_ v : Nat} {g : Geo} (err : Bool) (hv : (s.engOf e).view = some v) (hg : s.geo (s.engOf e).copy v = some g)
  (hlo : (s.engOf e).next ≤ n) (hhi : n < (s.sti v).next) (hk : (s.inForce v n).kind = 1 ∨ (s.inForce v n).kind = 2) (hp : p < g.p)
  (hx : bx < cdiv g.mw 4) (hy : by_ < cdiv g.mr 4)
  (hnew : ∀ b ∈ (s.engOf e).blocks, ¬(b.ver = (s.inForce v n).line ∧ b.p = p ∧ b.brow = by_ ∧ b.bcol = bx))
include hv hg hlo hhi hk hp hx hy hnew

/-- A block of the master in force that an engine lacks and still needs joins its buffer once MST has written it; it waits before. -/
theorem State.fetch_eq : s.fetch e n p bx by_ err =
    if s.rowReady v n by_ then
      let d := if err then none else s.block g (s.inForce v n).slot bx by_ p
      ((if d.isNone then s.bump Pg.MST fetchErr else s).putEng e
        { s.engOf e with blocks := (s.engOf e).blocks ++ [⟨(s.inForce v n).line, p, by_, bx, d⟩] }).panicCheck e
    else s.engHeld e v n := by
  have hfresh : (s.engOf e).blocks.any (fun b => b.ver == (s.inForce v n).line && b.p == p && b.brow == by_ && b.bcol == bx) = false := by
    rw [List.any_eq_false]
    intro b hb
    simpa [and_assoc] using hnew b hb
  unfold State.fetch
  dsimp only
  rw [State.assign_served hv, hv]
  dsimp only
  rw [hg]
  dsimp only
  rw [hfresh, if_neg (by simp only [not_or]; exact ⟨by omega, by omega, by omega, by omega, by omega, by omega, by omega, by decide⟩)]
  cases s.rowReady v n by_ <;> rfl

/-- What a fetch shows: the engine's place stays, and with the block's row ready the block is there and an error is counted. -/
theorem State.fetch_shows : ((s.fetch e n p bx by_ err).engOf e).next = (s.engOf e).next ∧
    (s.rowReady v n by_ = false → ((s.fetch e n p bx by_ err).engOf e).blocks = (s.engOf e).blocks) ∧
    (s.rowReady v n by_ = true →
      let d := if err then none else s.block g (s.inForce v n).slot bx by_ p
      ((s.fetch e n p bx by_ err).engOf e).blocks = (s.engOf e).blocks ++ [⟨(s.inForce v n).line, p, by_, bx, d⟩] ∧
      (d = none → (s.fetch e n p bx by_ err).fld Pg.MST fetchErr = satN 16 (s.fld Pg.MST fetchErr + 1)) ∧
      (d.isSome = true → (s.fetch e n p bx by_ err).rd Pg.MST Rg.MST_FETCH_ERR = s.rd Pg.MST Rg.MST_FETCH_ERR)) := by
  rw [State.fetch_eq err hv hg hlo hhi hk hp hx hy hnew]
  cases s.rowReady v n by_ with
  | false =>
    obtain ⟨h, hh⟩ := State.engHeld_engOf s e v n
    rw [if_neg (by decide), hh]
    exact ⟨rfl, fun _ => rfl, fun h => absurd h (by decide)⟩
  | true =>
    rw [if_pos rfl]
    dsimp only
    generalize (if err = true then none else s.block g (s.inForce v n).slot bx by_ p) = d
    rw [State.refill_engOf, State.refill_rd]
    refine ⟨rfl, fun h => absurd h (by decide), fun _ => ⟨rfl, ?_, ?_⟩⟩
    · rintro rfl
      exact (State.refill_fld ..).trans (State.fld_bump s Pg.MST fetchErr (by decide))
    · intro hd
      rw [Option.isSome_iff_ne_none] at hd
      rw [if_neg (by simpa using hd)]

end

/-! ### FINE_SHIFT (R286) -/

section
variable {s : State} {e v n0 n1 col w : Nat} {done : List Tile} (hv : (s.engOf e).view = some v)
  (hrow : ((s.engOf e).rows = [] ∧ done = [] ∧ s.tileRowAt v (s.engOf e).newJob (s.engOf e).next = (n0, n1)) ∨
    ((s.engOf e).rows = [⟨n0, n1, done⟩] ∧ (s.engOf e).next < n1))
  (hlt : n0 < n1) (hst : n1 ≤ (s.sti v).next) (hup : s.regRuns v = true → n1 ≤ s.updLine v (s.view_ v).updR)
  (hcol : (s.tileCols (s.engOf e).copy e)[done.length]? = some (col, w))
include hv hrow hlt hst hup hcol

/-- The first tile of an engine's only tile row, or the next tile of it, is measured and joins the row. -/
theorem State.fineShift_eq : s.fineShift e =
    match s.tile (s.engOf e) v n0 n1 col w done.getLast? none with
    | none => s.flag (Pg.IE e) Fd.IE_STAT_WAITED
    | some t => (if t.flat then s.bump (Pg.IE e) Fd.IE_CNT1_FLAT else s).putEng e { s.engOf e with rows := [⟨n0, n1, done ++ [t]⟩] } := by
  have hgo : ¬(n1 ≤ n0 ∨ (s.sti v).next < n1 ∨ (s.regRuns v = true ∧ s.updLine v (s.view_ v).updR < n1)) := by
    rintro (h | h | ⟨hr, h⟩)
    · omega
    · omega
    · have := hup hr
      omega
  unfold State.fineShift
  dsimp only
  rw [State.assign_served hv, hv]
  dsimp only
  rcases hrow with ⟨hrows, rfl, htile⟩ | ⟨hrows, hnext⟩
  · simp only [hrows, List.getLast?_nil, htile, if_neg hgo, hcol]
    rfl
  · have hlen := (List.getElem?_eq_some_iff.mp hcol).1
    simp only [hrows, List.getLast?_singleton, hlen, hnext, decide_true, Bool.and_true, if_true, if_neg hgo, hcol]
    rfl

/-- A measured tile stands in the row; a tile that cannot be measured sets WAITED. -/
theorem State.fineShift_shows :
    (s.tile (s.engOf e) v n0 n1 col w done.getLast? none = none → (s.fineShift e).eng = s.eng ∧
      (e < 8 → (s.fineShift e).on (Pg.IE e) Fd.IE_STAT_WAITED = true)) ∧
    ∀ y, s.tile (s.engOf e) v n0 n1 col w done.getLast? none = some y →
      ((s.fineShift e).engOf e).rows = [⟨n0, n1, done ++ [y]⟩] ∧ ((s.fineShift e).engOf e).next = (s.engOf e).next := by
  rw [State.fineShift_eq hv hrow hlt hst hup hcol]
  refine ⟨fun hn => ?_, fun y hy => ?_⟩
  · rw [hn]
    exact ⟨(State.flag_within ..).eng_eq rfl, fun he => State.on_flag_self (ie_page he).1 (by decide) (by decide) (by decide)⟩
  · rw [hy]
    dsimp only
    rw [State.fineTile_eng]
    exact ⟨rfl, rfl⟩

end

end Sys2Proof.Machine
end

section
/-!
PROOFS. Lines compared and bands handed over by the engines (O26).
-/
namespace Sys2Proof.Machine

/-! ### IE_COMPARE_LINE (R337, R338, R353, R355) -/

/-- What is seen of an engine after the next stitched line of its part: it goes on, or waits for
registration or a tolerance scale, for a coarse row that MST still writes, or for a block. -/
def State.ShowsLine (s : State) (e v : Nat) (l : VLine) (t : State) : Prop :=
  let x := s.engOf e
  let ok := s.repOf v x.next = 0 ∨ (s.pixels e x v l).isSome = true
  (t.engOf e).view = some v ∧
    (s.lineWaits x.copy v x.next = false ∧ s.coarseWait x v x.next = false ∧ ok → (t.engOf e).next = x.next + 1) ∧
    (s.lineWaits x.copy v x.next = true → (∀ k, t.engOf k = s.engOf k) ∧ t.regs = s.regs) ∧
    (s.lineWaits x.copy v x.next = false ∧ s.coarseWait x v x.next = true → (t.engOf e).next = x.next ∧ (t.engOf e).lines = x.lines) ∧
    (s.lineWaits x.copy v x.next = false ∧ s.coarseWait x v x.next = false ∧ ¬ok →
      (∀ k, t.engOf k = s.engOf k) ∧ t.on (Pg.IE e) Fd.IE_STAT_WAITED = true)

section
variable {s : State} {e v : Nat} {l : VLine} (hv : (s.engOf e).view = some v) (hfin : (s.engOf e).fin = false)
  (hend : ∀ z, s.partEnd v (s.engOf e).newJob = some z → (s.engOf e).next < z) (hl : s.vline v (s.engOf e).next = some l)
  (hon : s.blockOn (Pg.IE e) Fd.IE_CTL_EN = true) (htogo : (s.engOf e).togo = [])
include hv hfin hend htogo

/-- An engine in the middle of its part with no item left over is where it was. -/
theorem State.compareReady_eq : (((s.assign e).closePart e).sendItems e []).freeEngine e = s.putEng e (s.engOf e) := by
  rw [State.assign_served hv, State.closePart_before hv fun z hz => .inr (hend z hz), State.sendItems_none htogo,
    State.freeEngine_busy (by rw [State.engOf_putEng, hfin])]

include hl hon

/-- The next stitched line of an engine's part waits or, once its pixels are there, is compared: the engine then goes on to the line after it. -/
theorem State.compareLine_elim (P : State → Prop)
    (hwait : s.lineWaits (s.engOf e).copy v (s.engOf e).next = true → P (s.putEng e (s.engOf e)))
    (hheld : s.lineWaits (s.engOf e).copy v (s.engOf e).next = false → s.coarseWait (s.engOf e) v (s.engOf e).next = true →
      P ((s.putEng e (s.engOf e)).engHeld e v ((s.engOf e).next - 3)))
    (hnone : s.lineWaits (s.engOf e).copy v (s.engOf e).next = false → s.coarseWait (s.engOf e) v (s.engOf e).next = false →
      s.repOf v (s.engOf e).next ≠ 0 → s.pixels e (s.engOf e) v l = none → P ((s.putEng e (s.engOf e)).flag (Pg.IE e) Fd.IE_STAT_WAITED))
    (hdone : s.lineWaits (s.engOf e).copy v (s.engOf e).next = false → s.coarseWait (s.engOf e) v (s.engOf e).next = false →
      (s.repOf v (s.engOf e).next = 0 ∨ (s.pixels e (s.engOf e) v l).isSome = true) →
      ∀ t : State, (t.engOf e).spot = (some v, (s.engOf e).next + 1, (s.engOf e).newJob) → P t) : P (s.compareLine e) := by
  have hon' : (s.putEng e (s.engOf e)).blockOn (Pg.IE e) Fd.IE_CTL_EN = true := hon
  have hl' : (s.putEng e (s.engOf e)).vline v (s.engOf e).next = some l := hl
  have hgo (w : Bool) : ((s.engOf e).fin || !(s.putEng e (s.engOf e)).blockOn (Pg.IE e) Fd.IE_CTL_EN || !(s.engOf e).togo.isEmpty || w) = w := by
    rw [hfin, hon', htogo]
    rfl
  unfold State.compareLine
  dsimp only
  rw [State.compareReady_eq hv hfin hend htogo, State.engOf_putEng s e, hv]
  dsimp only
  rw [hl']
  dsimp only
  rw [hgo]
  refine iteInduction (motive := P) hwait fun hw => ?_
  replace hw := Bool.eq_false_of_not_eq_true hw
  refine iteInduction (motive := P) (hheld hw) fun hc => ?_
  replace hc := Bool.eq_false_of_not_eq_true hc
  generalize hpx : (if (s.putEng e (s.engOf e)).repOf v (s.engOf e).next = 0 then some [] else (s.putEng e (s.engOf e)).pixels e (s.engOf e) v l) = o
  replace hpx : (if s.repOf v (s.engOf e).next = 0 then some [] else s.pixels e (s.engOf e) v l) = o := hpx
  cases o with
  | none =>
    split at hpx
    · cases hpx
    · exact hnone hw hc ‹_› hpx
  | some px =>
    refine hdone hw hc ?_ _ ?_
    · split at hpx
      · exact .inl ‹_›
      · exact .inr (Option.isSome_iff_exists.mpr ⟨px, hpx⟩)
    · rw [State.engOf_of ((State.panicCheck_within ..).eng_eq rfl), State.closePart_spot, State.coarseRow_spot,
        State.labelIf_spot, State.engOf_of (State.flagIf_eng ..), State.spot_putEng, State.cut_spot, hv]

/-- What an engine shows of the next stitched line of its part, in the order of the cases of `compareLine_elim`. -/
theorem State.compareLine_shows (he : e < 8) : s.ShowsLine e v l (s.compareLine e) := by
  have hback : ∀ k, (s.putEng e (s.engOf e)).engOf k = s.engOf k := State.engOf_putBack s e
  refine State.compareLine_elim hv hfin hend hl hon htogo (s.ShowsLine e v l)
    (fun hw => ?waits) (fun hw hc => ?held) (fun hw hc h0 hpx => ?noPixels) (fun hw hc hok t ht => ?compared)
  case waits =>
    have hno {p : Prop} (h : s.lineWaits (s.engOf e).copy v (s.engOf e).next = false) : p := absurd (hw.symm.trans h) (by decide)
    refine ⟨?_, fun h => hno h.1, fun _ => ⟨hback, State.putEng_regs ..⟩, fun h => hno h.1, fun h => hno h.1⟩
    rw [hback, hv]
  case held =>
    have hno {p : Prop} (h : s.coarseWait (s.engOf e) v (s.engOf e).next = false) : p := absurd (hc.symm.trans h) (by decide)
    obtain ⟨h, hh⟩ := State.engHeld_engOf (s.putEng e (s.engOf e)) e v ((s.engOf e).next - 3)
    rw [hback] at hh
    unfold State.ShowsLine
    rw [hh]
    exact ⟨hv, fun h => hno h.2.1, fun h => absurd (hw.symm.trans h) (by decide), fun _ => ⟨rfl, rfl⟩, fun h => hno h.2.1⟩
  case noPixels =>
    have hflag (k : Nat) : ((s.putEng e (s.engOf e)).flag (Pg.IE e) Fd.IE_STAT_WAITED).engOf k = s.engOf k :=
      (State.engOf_of ((State.flag_within ..).eng_eq rfl) k).trans (hback k)
    have hno : ¬(s.repOf v (s.engOf e).next = 0 ∨ (s.pixels e (s.engOf e) v l).isSome = true) := by simp [h0, hpx]
    refine ⟨?_, fun h => absurd h.2.2 hno, fun h => absurd (hw.symm.trans h) (by decide), fun h => absurd (hc.symm.trans h.2) (by decide),
      fun _ => ⟨hflag, State.on_flag_self (ie_page he).1 (by decide) (by decide) (by decide)⟩⟩
    rw [hflag, hv]
  case compared =>
    obtain ⟨hview, hnext, -⟩ : (t.engOf e).view = some v ∧ (t.engOf e).next = (s.engOf e).next + 1 ∧ (t.engOf e).newJob = (s.engOf e).newJob := by
      simpa [Eng.spot] using ht
    exact ⟨hview, fun _ => hnext, fun h => absurd (hw.symm.trans h) (by decide), fun h => absurd (hc.symm.trans h.2) (by decide),
      fun h => absurd hok h.2.2⟩

end

/-! ### BAND_EMIT (R360, R364) -/

section
variable {s : State} {e v : Nat} {c : Copy} (hv : (s.engOf e).view = some v) (hc : (s.engOf e).copy = c)
include hv hc

/-- The registers and items that go with a band leave the bands handed over. -/
theorem State.handOver_bands (y : ViewRes) (f g h : Fld) (n m : Nat) (b : Bool) (l : List EngItem) :
    ((((((((s.setVres c v y).bumpBy (Pg.IE e) f n).setFld (Pg.IE e) g m).setBit (Pg.IE e) h b).sendItems e l).freeEngine e).vres c v).bands) = y.bands := by
  generalize hu : (((s.setVres c v y).bumpBy (Pg.IE e) f n).setFld (Pg.IE e) g m).setBit (Pg.IE e) h b = u
  have hregs : Within 0x2 (s.setVres c v y) u :=
    hu ▸ (State.setBit_within ..).step rfl ((State.setFld_within ..).step rfl (State.bumpBy_within ..))
  have hsends : Within 0x108000b3 u (u.sendItems e l) := State.sendItems_within ..
  have hspot : ((u.sendItems e l).engOf e).spot = (s.engOf e).spot := by
    rw [State.sendItems_spot, State.engOf_of (hregs.eng_eq rfl), State.engOf_of ((State.setVres_within ..).eng_eq rfl)]
  obtain ⟨hview, -, hjob⟩ : ((u.sendItems e l).engOf e).view = (s.engOf e).view ∧ ((u.sendItems e l).engOf e).next = (s.engOf e).next ∧
      ((u.sendItems e l).engOf e).newJob = (s.engOf e).newJob := by simpa [Eng.spot] using hspot
  have hcopy : ((u.sendItems e l).engOf e).copy = c := by rw [← hc, Eng.copy, hjob]; rfl
  rw [State.freeEngine_bands _ e v c (hview.trans hv) hcopy, State.vres_of (hsends.resA_eq rfl) (hsends.resN_eq rfl),
    State.vres_of (hregs.resA_eq rfl) (hregs.resN_eq rfl), State.vres_setVres]

end

section
variable {s : State} {e v last : Nat} {b : OpenBand} {rest : List OpenBand} (hv : (s.engOf e).view = some v)
  (hend : ∀ z, s.partEnd v (s.engOf e).newJob = some z → (s.engOf e).fin = true ∨ (s.engOf e).next < z)
  (hb : (s.engOf e).bands = b :: rest) (hlast : b.last = some last)
  (hsafe : (s.engOf e).fin = true ∨ last + s.join (s.engOf e).copy v + 2 < (s.engOf e).next) (htogo : (s.engOf e).togo = [])
include hv hend hb hlast hsafe htogo

/-- A band that has ended goes to MRG once its labels are safe. -/
theorem State.bandEmit_delivers : ∃ i, ((s.bandEmit e).vres (s.engOf e).copy v).bands = (s.vres (s.engOf e).copy v).bands ++ [i] ∧
    i.eng = e ∧ i.first = b.first ∧ i.last = last ∧ i.key = last + s.join (s.engOf e).copy v + 2 ∧ i.rep = s.repOf v last ∧ i.storm = b.storm ∧
    i.ends = s.endsRepeat (s.engOf e) v last ∧ i.got = 0 ∧
    i.total = i.pieces.length + i.runs.length + i.pres.length + b2n b.storm.isSome + i.cells.length := by
  have hgo : ¬((!((s.engOf e).fin || decide (last + (s.putEng e (s.engOf e)).join (s.engOf e).copy v + 2 < (s.engOf e).next)) ||
      !(s.engOf e).togo.isEmpty) = true) := by
    have hsafe' : (s.engOf e).fin = true ∨ last + (s.putEng e (s.engOf e)).join (s.engOf e).copy v + 2 < (s.engOf e).next := hsafe
    rw [htogo]
    rcases hsafe' with h | h <;> simp [h]
  unfold State.bandEmit
  dsimp only
  rw [State.closePart_before hv hend, State.sendItems_none htogo, State.engOf_putEng s e, hv, hb]
  dsimp only
  rw [hlast]
  dsimp only
  rw [if_neg hgo]
  exact ⟨_, State.handOver_bands (congrArg Eng.view (State.engOf_putEng ..)) (congrArg Eng.copy (State.engOf_putEng ..)) .., rfl, rfl, rfl, rfl, rfl, rfl,
    rfl, rfl, rfl⟩

end

end Sys2Proof.Machine
end

section
/-!
PROOFS. Bands merged by MRG (O26).
-/
namespace Sys2Proof.Machine

/-! ### MRG_MERGE_BAND (R360) -/

/-- Two states that show the same engines and agree in all else. -/
def State.SameEngs (s t : State) : Prop := ∃ E, t = { s with eng := E } ∧ ∀ k, t.engOf k = s.engOf k

theorem State.sameEngs_refl (s : State) : s.SameEngs s := ⟨s.eng, rfl, fun _ => rfl⟩

theorem State.sameEngs_putBack {s t : State} (h : s.SameEngs t) (e : Nat) : s.SameEngs (t.putEng e (t.engOf e)) := by
  obtain ⟨E, rfl, heng⟩ := h
  exact ⟨_, rfl, fun k => (State.engOf_putBack ..).trans (heng k)⟩

/-- Engines in the middle of their parts with empty item queues are as they were once the queues are read. -/
theorem State.readItems_sameEngs {s : State} {v : Nat}
    (hidle : ∀ e, e < 8 → (s.engOf e).view = some v → (s.engOf e).fin = false ∧ (s.engOf e).togo = [] ∧ (s.engOf e).fifo = []) :
    s.SameEngs (s.readItems v) := by
  unfold State.readItems
  refine List.foldlRecOn _ _ s.sameEngs_refl fun t ht e he => ?_
  split
  · exact ht
  next hview =>
    have heng : t.engOf e = s.engOf e := ht.choose_spec.2 e
    obtain ⟨hfin, htogo, hfifo⟩ := hidle e (List.mem_range.mp he) (heng ▸ not_not.mp hview)
    have htake : t.takeItems e (t.engOf e).fifo.length = t := by
      rw [heng, hfifo]
      rfl
    rw [htake, State.sendItems_none (by rw [heng, htogo]), State.freeEngine_busy (by rw [State.engOf_putEng, heng, hfin])]
    exact State.sameEngs_putBack ht e

/-- Merging drops the band, remembers its end and shows its key. -/
theorem State.mergeBand_shows (s : State) (c : Copy) (v : Nat) (b : BandItems) (l : List BandItems) (bad : List (Nat × Nat)) :
    let t := s.mergeBand c v (b :: l) bad
    (t.vres c v).bands = (s.vres c v).bands.filter (fun x => x.first != b.first) ∧ (t.vres c v).merged = b.key + 1 ∧
      (t.vres c v).tailAt = b.last + 1 ∧ t.rd Pg.MRG (Rg.MRG_BAND_LO v) = BitVec.ofNat 32 b.key ∧
      t.fld Pg.MRG (Fd.MRG_BAND_HI_b0 v) = b.key / 2 ^ 32 % 2 ^ 16 := by
  have hitems := State.bandItems_within s c v b (b :: l) bad
  have hne : Pg.MRG * 4096 + Rg.MRG_BAND_LO v ≠ Pg.MRG * 4096 + (Fd.MRG_BAND_HI_b0 v).off := by
    show Pg.MRG * 4096 + (0x080 + 0x4 * v) ≠ Pg.MRG * 4096 + (0x090 + 0x4 * v)
    omega
  unfold State.mergeBand
  dsimp only
  generalize s.bandItems c v b (b :: l) bad = r at hitems ⊢
  obtain ⟨u, tails, items⟩ := r
  have hres : u.vres c v = s.vres c v := State.vres_of (hitems.resA_eq rfl) (hitems.resN_eq rfl) c v
  have hshow (w : State) (a : Word) (n : Nat) : ((w.wr Pg.MRG (Rg.MRG_BAND_LO v) a).setFld Pg.MRG (Fd.MRG_BAND_HI_b0 v) n).vres c v = w.vres c v :=
    State.setFld_vres ..
  dsimp only
  rw [hshow, State.vres_setVres, hres]
  exact ⟨rfl, rfl, rfl, (State.rd_setFld_of_ne _ _ _ _ _ _ hne).trans (State.rd_wr_same ..), State.fld_setFld _ _ _ _ (show 0 + 16 ≤ 32 by decide)⟩

/-- With MRG on, MRG takes the band that every engine of the view has delivered whole. -/
theorem State.merge_whole {s : State} {v : Nat} (bad : List (Nat × Nat)) {b : BandItems} {l : List BandItems}
    (hon : s.blockOn Pg.MRG Fd.MRG_CTL_EN = true) (hnext : s.nextBand .active v = some (b :: l))
    (hidle : ∀ e, e < 8 → (s.engOf e).view = some v → (s.engOf e).fin = false ∧ (s.engOf e).togo = [] ∧ (s.engOf e).fifo = []) :
    ∃ E, s.merge v bad = State.mergeBand { s with eng := E } .active v (b :: l) (bad ++ lostOf (b :: l)) := by
  obtain ⟨E, hread, -⟩ := State.readItems_sameEngs hidle
  have hnext' : State.nextBand { s with eng := E } .active v = some (b :: l) := hnext
  refine ⟨E, ?_⟩
  unfold State.merge
  rw [if_neg (by rw [hon]; decide)]
  dsimp only
  rw [hread, hnext']

/-! ### The obligation -/

/-- Settles O26: a fetch, a tile, a compared line and a band handed over each by what their function makes of an engine in its part; a merged band
because reading their empty item queues leaves the engines as they were, so that MRG takes the band which stood ready. -/
theorem enginesFetchShiftCompareAndDeliverBands : Obligations.EnginesFetchShiftCompareAndDeliverBands := by
  refine ⟨?_, ?_, ?_, ?_, ?_⟩
  · intro e n p bx by_ err v g s x f d hv hg hlo hhi hk hp hx hy hnew
    obtain ⟨hnext, hwait, hready⟩ := State.fetch_shows err hv hg hlo hhi hk hp hx hy hnew
    exact ⟨_, rfl, hnext, (State.fetch_within ..).mem_eq rfl, hwait, hready⟩
  · intro e v n0 n1 col w done s x hv hrow hlt hst hup hcol
    obtain ⟨hnone, hsome⟩ := State.fineShift_shows hv hrow hlt hst hup hcol
    exact ⟨_, rfl, fun h => ⟨(hnone h).1, (hnone h).2 e.isLt⟩, hsome⟩
  · intro e v l s x ok hv hfin hend hl hon htogo
    exact ⟨_, rfl, State.compareLine_shows hv hfin hend hl hon htogo e.isLt⟩
  · intro e v last b rest s x key hv hend hb hlast hsafe htogo
    obtain ⟨i, hi⟩ := State.bandEmit_delivers hv hend hb hlast hsafe htogo
    exact ⟨_, i, rfl, hi⟩
  · intro v bad s
    refine ⟨fun hoff => ?_, fun b l hon hnext hidle => ⟨_, rfl, ?_⟩⟩
    · exact congrArg Host.Outcome.next (if_pos (by rw [hoff]; rfl))
    · obtain ⟨E, hmerge⟩ := State.merge_whole (bad.map fun e => (e.1.val, e.2)) hon hnext hidle
      rw [hmerge]
      exact State.mergeBand_shows { s with eng := E } .active v b l _

end Sys2Proof.Machine
end

section
/-!
PROOFS. What MST writes into master slots (O25): reduction, prediction, fitting and folds.
-/
namespace Sys2Proof.Machine

/-! ### The flip that is worked on (R307) -/

/-- The model's guard `!a || !b` turns a command away exactly where `a && b` fails. -/
theorem guard_passes {a b : Bool} (h : (a && b) = true) : ¬(!a || !b) = true := by rw [← Bool.not_and, h]; decide

theorem guard_stops {a b : Bool} (h : (a && b) = false) : (!a || !b) = true := by rw [← Bool.not_and, h]; rfl

/-- The flips of a view as one put in the place of the first leaves them: a whole one that the stitcher has taken is off the list. -/
def State.flipsAfter (s : State) (v : Nat) (x : Flip) : List Flip :=
  if x.whole && x.taken.isSome then (s.mstV v).flips.drop 1 else x :: (s.mstV v).flips.drop 1

theorem State.flipsAfter_of {s t : State} (h : t.mst = s.mst) (v : Nat) (x : Flip) : t.flipsAfter v x = s.flipsAfter v x := by
  unfold State.flipsAfter; rw [State.mstV_of h]

theorem State.flipsAfter_whole (s : State) (v : Nat) {x : Flip} (h : x.whole = true) :
    s.flipsAfter v x = if x.taken.isSome then (s.mstV v).flips.drop 1 else x :: (s.mstV v).flips.drop 1 := by
  unfold State.flipsAfter; rw [h, Bool.true_and]

/-- The flip that is worked on is the first of its view, and is not whole. -/
theorem State.workFlip_first {s : State} {v : Nat} {k : FlipKind} {f : Flip} {c : Copy} {g : Geo} (h : s.workFlip v k = some (f, c, g)) :
    (s.mstV v).flips = f :: (s.mstV v).flips.drop 1 ∧ f.whole = false := by
  unfold State.workFlip at h
  split at h
  next f' rest hflips =>
    split at h
    next hkind =>
      obtain ⟨g', -, hg'⟩ := Option.map_eq_some_iff.mp h
      obtain ⟨rfl, -⟩ := Prod.mk.inj hg'
      rw [hflips]
      exact ⟨rfl, by simpa using hkind.2⟩
    next => cases h
  next => cases h

theorem State.putFlip_mstV (s : State) (v : Nat) (c : Copy) (g : Geo) (x : Flip) :
    (s.putFlip v c g x).mstV v = { s.mstV v with flips := s.flipsAfter v x } := by
  unfold State.flipsAfter
  cases hw : x.whole with
  | false => exact State.mstV_putFlip s v c g (.inl hw)
  | true =>
    cases ht : x.taken with
    | none => exact State.mstV_putFlip s v c g (.inr ht)
    | some n =>
      unfold State.putFlip
      rw [hw, ht]
      exact ((State.noteNoref_within ..).mstV v rfl).trans (State.mstV_putMst ..)

/-! ### REDUCE_BLOCK_ROW (R306, R313) -/

section reduce
variable {s : State} {v : Nat} {f : Flip} {c : Copy} {g : Geo}

/-- A flip whose fine rows are not all written, or whose coarse rows are still read, stays as it is. -/
theorem State.reduceCoarse_waits (h : f.rows < cdiv g.mr 4 ∨ s.coarseFree v g f = false) : s.reduceCoarse v c g f = s.putFlip v c g f :=
  if_pos (h.imp_right fun h => by rw [h]; rfl)

theorem State.reduceCoarse_ends (hrows : cdiv g.mr 4 ≤ f.rows) (hfree : s.coarseFree v g f = true) :
    s.reduceCoarse v c g f = (s.finishSlot g (s.flipSlot g f)).putFlip v c g { f with crows := cdiv g.mr 8, whole := true } :=
  if_neg (by rw [hfree]; simpa using hrows)

theorem State.reduceCoarse_ends_flips (hrows : cdiv g.mr 4 ≤ f.rows) (hfree : s.coarseFree v g f = true) :
    ((s.reduceCoarse v c g f).mstV v).flips = s.flipsAfter v { f with crows := cdiv g.mr 8, whole := true } := by
  rw [State.reduceCoarse_ends hrows hfree, State.putFlip_mstV]
  exact State.flipsAfter_of ((State.finishSlot_within ..).mst_eq rfl) ..

/-- Behind its fine rows a flip is as it was, or whole with its coarse rows. -/
theorem State.reduceCoarse_flips (s : State) (v : Nat) (c : Copy) (g : Geo) (f : Flip) :
    ∃ x, ((s.reduceCoarse v c g f).mstV v).flips = s.flipsAfter v x ∧
      (x = f ∨ cdiv g.mr 4 ≤ f.rows ∧ x = { f with crows := cdiv g.mr 8, whole := true }) := by
  by_cases h : f.rows < cdiv g.mr 4 ∨ s.coarseFree v g f = false
  · exact ⟨f, by rw [State.reduceCoarse_waits h, State.putFlip_mstV], .inl rfl⟩
  · obtain ⟨hrows, hfree⟩ := not_or.mp h
    exact ⟨_, State.reduceCoarse_ends_flips (not_lt.mp hrows) (Bool.not_eq_false _ ▸ hfree), .inr ⟨not_lt.mp hrows, rfl⟩⟩

/-- Whether the next block row of a learned master can be reduced: every learn slot holds it and the row after it, and nothing reads it. -/
def State.rowReducible (s : State) (v : Nat) (g : Geo) (f : Flip) : Bool :=
  f.slots.all (fun j => s.slotHolds v j f.rows && s.slotHolds v j (Nat.min (f.rows + 1) (cdiv g.mr 4 - 1))) && s.rowFree v g f f.rows

variable (h : s.workFlip v .learn = some (f, c, g))
include h

theorem State.reduceRow_coarse (hrows : cdiv g.mr 4 ≤ f.rows) : s.reduceRow v = s.reduceCoarse v c g f := by
  unfold State.reduceRow
  rw [h]
  exact if_pos hrows

theorem State.reduceRow_waits (hrows : f.rows < cdiv g.mr 4) (hfree : s.rowReducible v g f = false) : s.reduceRow v = s := by
  unfold State.reduceRow
  rw [h]
  dsimp only
  rw [if_neg (not_le.mpr hrows), if_pos (guard_stops hfree)]

/-- A reduced row is written with the masters of the views as they were, and counts. -/
theorem State.reduceRow_counts (hrows : f.rows < cdiv g.mr 4) (hfree : s.rowReducible v g f = true) :
    ∃ u n, u.mst = s.mst ∧ s.reduceRow v = State.reduceCoarse u v c g { f with rows := f.rows + 1, noref := f.noref + n } := by
  unfold State.reduceRow
  rw [h]
  dsimp only
  rw [if_neg (not_le.mpr hrows), if_neg (guard_passes hfree)]
  refine ⟨_, _, ?_, rfl⟩
  rw [(State.putRow_within ..).mst_eq rfl, State.bumpBy_mst]
  split
  · exact (State.openSlot_within ..).mst_eq rfl
  · rfl

theorem State.reduceRow_shows :
    (s.reduceRow v).eng = s.eng ∧
      (f.rows < cdiv g.mr 4 ∧ s.rowReducible v g f = true → ∃ x, ((s.reduceRow v).mstV v).flips = s.flipsAfter v x ∧ x.rows = f.rows + 1 ∧
        x.rep = f.rep ∧ x.slots = f.slots ∧ x.taken = f.taken ∧ f.noref ≤ x.noref ∧ (f.rows + 1 < cdiv g.mr 4 → x.whole = false)) ∧
      (f.rows < cdiv g.mr 4 ∧ s.rowReducible v g f = false → s.reduceRow v = s) ∧
      (cdiv g.mr 4 ≤ f.rows ∧ s.coarseFree v g f = true →
        ((s.reduceRow v).mstV v).flips = s.flipsAfter v { f with crows := cdiv g.mr 8, whole := true }) ∧
      (cdiv g.mr 4 ≤ f.rows ∧ s.coarseFree v g f = false →
        ((s.reduceRow v).mstV v).flips = (s.mstV v).flips ∧ (s.reduceRow v).mem = s.mem) := by
  obtain ⟨hfirst, hopen⟩ := State.workFlip_first h
  refine ⟨(State.reduceRow_within ..).eng_eq rfl, ?_, fun ⟨hrows, hfree⟩ => State.reduceRow_waits h hrows hfree, ?_, ?_⟩
  · rintro ⟨hrows, hfree⟩
    obtain ⟨u, n, hu, hrow⟩ := State.reduceRow_counts h hrows hfree
    obtain ⟨x, hflips, hx⟩ := u.reduceCoarse_flips v c g { f with rows := f.rows + 1, noref := f.noref + n }
    refine ⟨x, by rw [hrow, hflips, State.flipsAfter_of hu], ?_⟩
    rcases hx with rfl | ⟨hend, rfl⟩
    · exact ⟨rfl, rfl, rfl, rfl, Nat.le_add_right .., fun _ => hopen⟩
    · exact ⟨rfl, rfl, rfl, rfl, Nat.le_add_right .., fun hlt => absurd hlt (not_lt.mpr hend)⟩
  · rintro ⟨hrows, hfree⟩
    rw [State.reduceRow_coarse h hrows, State.reduceCoarse_ends_flips hrows hfree]
  · rintro ⟨hrows, hfree⟩
    rw [State.reduceRow_coarse h hrows, State.reduceCoarse_waits (.inr hfree), State.putFlip_mstV]
    have hafter : s.flipsAfter v f = (s.mstV v).flips := by
      unfold State.flipsAfter
      rw [hopen]
      exact hfirst.symm
    refine ⟨hafter, ?_⟩
    unfold State.putFlip
    rw [hopen]
    rfl

end reduce

/-! ### Predictions (R324, R325) -/

/-- A write of ART_CTL with GO: refused, answered as bad artwork, or the prediction begun. -/
theorem State.artCtl_shows (s : State) (o : Owner) {w : Word} (hgo : wf w 6 1 = 1) :
    let j := wf w 0 6
    let t := (s.touch o Pg.MST).artCtl w
    t.mem = s.mem ∧
      (s.jobState j ≠ jobReady ∨ s.predict.isSome = true → t.predict = s.predict ∧ t.fld Pg.MST Fd.MST_ART_STAT_RESULT = 2) ∧
      (s.jobState j = jobReady ∧ s.predict = none ∧ s.artBad (s.jobCtx j) = true → t.predict = none ∧
        t.fld Pg.MST Fd.MST_ART_STAT_STATE = 2 ∧ t.fld Pg.MST Fd.MST_ART_STAT_RESULT = 4) ∧
      (s.jobState j = jobReady ∧ s.predict = none ∧ s.artBad (s.jobCtx j) = false →
        t.predict = some ⟨j, (s.jobCtx j).artViews.filter fun v => ((s.jobCtx j).sect (sectMaster v)).isSome⟩ ∧
        t.fld Pg.MST Fd.MST_ART_STAT_JOB = j ∧ t.fld Pg.MST Fd.MST_ART_STAT_STATE = 1 ∧ t.fld Pg.MST Fd.MST_ART_STAT_RESULT = 0) := by
  intro j t
  obtain ⟨x, hlib, hpred, hgoes⟩ := State.artCtl_go (s := s) (w := w) o
  have hj : j < 2 ^ 6 := Nat.mod_lt _ (by decide)
  have hlibJob : LibSame s (x.setFld Pg.MST Fd.MST_ART_STAT_JOB j) := hlib.trans (State.setFld_lib _ (by decide) (by decide))
  have ht : t = _ := hgoes
  rw [if_neg (by rw [hgo]; decide), State.jobState_lib hlib, hpred] at ht
  dsimp only at ht
  rw [State.jobCtx_lib hlibJob, State.artBad_lib hlibJob] at ht
  by_cases hrefused : s.jobState j ≠ jobReady ∨ s.predict.isSome = true
  · rw [if_pos hrefused] at ht
    rw [ht]
    refine ⟨hlib.mem, fun _ => ⟨hpred, State.fld_fits (by decide) (by decide)⟩, ?_, ?_⟩
    all_goals
      rintro ⟨hready, hnone, -⟩
      rw [hnone] at hrefused
      exact absurd hready (hrefused.resolve_right (by decide))
  rw [if_neg hrefused] at ht
  cases hbad : s.artBad (s.jobCtx j) with
  | true =>
    rw [if_pos hbad] at ht
    rw [ht]
    refine ⟨hlib.mem, fun h => absurd h hrefused, fun ⟨_, hnone, _⟩ => ⟨hpred.trans hnone, ?_, State.fld_fits (by decide) (by decide)⟩,
      fun ⟨_, _, h⟩ => Bool.noConfusion h⟩
    rw [State.fld_setFld_p (by decide) (by decide)]
    exact State.fld_fits (by decide) (by decide)
  | false =>
    rw [if_neg (by rw [hbad]; decide)] at ht
    rw [ht]
    refine ⟨hlib.mem, fun h => absurd h hrefused, fun ⟨_, _, h⟩ => Bool.noConfusion h, fun _ => ⟨rfl, ?_⟩⟩
    simp only [State.fld_predict]
    refine ⟨?_, ?_, State.fld_fits (by decide) (by decide)⟩
    · rw [State.fld_setFld_p (by decide) (by decide), State.fld_setFld_p (by decide) (by decide)]
      exact State.fld_fits (by decide) hj
    · rw [State.fld_setFld_p (by decide) (by decide)]
      exact State.fld_fits (by decide) (by decide)

/-- A prediction that completes leaves the masters in force as they were. -/
theorem State.predictDone_shows {s : State} {p : Predict} (h : s.predict = some p) :
    s.predictDone.predict = none ∧ s.predictDone.fld Pg.MST Fd.MST_ART_STAT_STATE = 2 ∧
      s.predictDone.fld Pg.MST Fd.MST_ART_STAT_RESULT = 1 ∧ s.predictDone.mst = s.mst := by
  unfold State.predictDone
  rw [h]
  obtain ⟨hmst, hpred⟩ := State.predictFold_mst (s.jobCtx p.job) p.views { s with predict := none }
  refine ⟨hpred, ?_, State.fld_fits (by decide) (by decide), hmst⟩
  rw [State.fld_setFld_p (by decide) (by decide)]
  exact State.fld_fits (by decide) (by decide)

/-! ### Fits and folds (R326, R327, R330) -/

/-- Whether a slot can be written whole: nothing reads it any more, and the captures of its flip are complete. -/
def State.slotReady (s : State) (v : Nat) (g : Geo) (f : Flip) : Bool :=
  s.slotFree v g f && f.slots.all fun k => s.slotHolds v k (cdiv g.mr 4 - 1)

section fit
variable {s : State} {v : Nat} {f : Flip} {c : Copy} {g : Geo} {j : JobCtx} {a b : Nat × Nat × List Byte}
  (h : s.workFlip v .fit = some (f, c, g)) (hj : s.jobOf c = some j) (ha : j.sect sectArt = some a) (hb : j.sect (sectPred v) = some b)
include h hj ha hb

theorem State.tableFit_waits (hready : s.slotReady v g f = false) : s.tableFit v = s := by
  unfold State.tableFit
  rw [h]
  dsimp only
  rw [hj, Option.bind_some, Option.bind_some, ha, hb]
  exact if_pos (guard_stops hready)

/-- A fit writes the slot with the masters of the views as they were, makes the flip whole and keeps the fitted table. -/
theorem State.tableFit_writes (hready : s.slotReady v g f = true) : ∃ (u : State) (table : List Byte), u.mst = s.mst ∧
    let t := u.putFlip v c g { f with rows := cdiv g.mr 4, crows := cdiv g.mr 8, whole := true }
    s.tableFit v = t.putMst v { t.mstV v with fitted := some table } := by
  unfold State.tableFit
  rw [h]
  dsimp only
  rw [hj, Option.bind_some, Option.bind_some, ha, hb]
  dsimp only
  rw [if_neg (guard_passes hready)]
  refine ⟨_, _, ?_, rfl⟩
  rw [(State.predictSlot_within ..).mst_eq rfl, (State.openSlot_within ..).mst_eq rfl, State.bumpBy_mst]

end fit

section fold
variable {s : State} {v : Nat} {f : Flip} {c : Copy} {g : Geo} (h : s.workFlip v .fold = some (f, c, g))
include h

theorem State.adaptFold_waits (hready : s.slotReady v g f = false) : s.adaptFold v = s := by
  unfold State.adaptFold
  rw [h]
  exact if_pos (guard_stops hready)

/-- A fold writes the slot with the masters of the views as they were, and makes the flip whole. -/
theorem State.adaptFold_writes (hready : s.slotReady v g f = true) : ∃ (u : State) (n : Nat), u.mst = s.mst ∧
    s.adaptFold v = u.putFlip v c g { f with rows := cdiv g.mr 4, crows := cdiv g.mr 8, whole := true, noref := n } := by
  unfold State.adaptFold
  rw [h]
  dsimp only
  rw [if_neg (guard_passes hready)]
  refine ⟨_, _, ?_, rfl⟩
  rw [(State.finishSlot_within ..).mst_eq rfl, (State.segCrcs_within ..).mst_eq rfl, foldl_kept (·.mst) _ (fun t q => ?_)]
  · exact (State.openSlot_within ..).mst_eq rfl
  · rw [(State.putBlock_within ..).mst_eq rfl]
    split <;> rfl

end fold

/-! ### The obligation -/

/-- Settles O25: each command by the flip that it puts in the place of the first, which `State.putFlip_mstV` reads back; what is written into
the slot before leaves the masters of the views alone. -/
theorem mastersAreReducedPredictedFittedAndFolded : Obligations.MastersAreReducedPredictedFittedAndFolded := by
  refine ⟨?_, ?_, ?_, ?_, ?_⟩
  · intro v f c g s h rows after free
    exact ⟨_, rfl, State.reduceRow_shows h⟩
  · intro o w s hgranted hgo j
    refine ⟨_, rfl, ?_⟩
    rw [State.guarded_granted hgranted]
    exact s.artCtl_shows o hgo
  · intro p s h
    exact ⟨_, rfl, State.predictDone_shows h⟩
  · intro v f c g j a b s h hj ha hb free x
    refine ⟨_, rfl, State.tableFit_waits h hj ha hb, fun hready => ?_⟩
    obtain ⟨u, table, hu, hfit⟩ := State.tableFit_writes h hj ha hb hready
    rw [hfit, State.mstV_putMst, State.putFlip_mstV, State.flipsAfter_of hu, State.mstV_of hu]
    exact ⟨s.flipsAfter_whole v rfl, ⟨table, rfl⟩, rfl⟩
  · intro v f c g s h free
    cases hready : s.slotReady v g f with
    | false => exact ⟨_, 0, rfl, fun _ => State.adaptFold_waits h hready, fun k => absurd (hready.symm.trans k) (by decide)⟩
    | true =>
      obtain ⟨u, n, hu, hfold⟩ := State.adaptFold_writes h hready
      refine ⟨_, n, rfl, fun k => absurd (hready.symm.trans k) (by decide), fun _ => ?_⟩
      rw [hfold, State.putFlip_mstV, State.flipsAfter_of hu, State.mstV_of hu]
      exact ⟨s.flipsAfter_whole v rfl, rfl⟩

end Sys2Proof.Machine
end

section
/-!
PROOFS. Syncs, restarts, boundaries and outputs of the streams, and DATA tasks at their anchors (O29).
-/
namespace Sys2Proof.Machine

/-! ### Syncs (R417, R419) -/

theorem State.anchorOf_of {s t : State} (h : t.tg = s.tg) (st : Stamp) (v : Nat) : t.anchorOf st v = s.anchorOf st v := by
  unfold State.anchorOf State.anchored State.lineTime State.lineRec
  rw [h]

/-- A stamp awaited in views, each with whether it is the lowest. -/
def State.awaitSync (s : State) (st : Stamp) (l : List (Nat × Nat)) : State :=
  { s with dec := { s.dec with syncs := s.dec.syncs ++ l.map fun e => ⟨e.1, st, e.2 == 0⟩ } }

theorem State.awaitSync_fld (s : State) (st : Stamp) (l : List (Nat × Nat)) (p : Nat) (f : Fld) : (s.awaitSync st l).fld p f = s.fld p f := rfl

theorem State.awaitSync_on (s : State) (st : Stamp) (l : List (Nat × Nat)) (p : Nat) (f : Fld) : (s.awaitSync st l).on p f = s.on p f := rfl

/-- Views whose anchors are not known await the stamp one after the other. -/
theorem State.foldl_awaitSync {st : Stamp} {f : State → Nat × Nat → State}
    (hf : ∀ u e, u.anchorOf st e.1 = none → f u e = u.awaitSync st [e]) (l : List (Nat × Nat)) (u : State)
    (hu : ∀ e ∈ l, u.anchorOf st e.1 = none) : l.foldl f u = u.awaitSync st l := by
  induction l generalizing u with
  | nil => simp [State.awaitSync]
  | cons e l ih =>
    rw [List.foldl_cons, hf u e (hu e (List.mem_cons_self ..)), ih _ fun e' he' => ?_]
    · simp [State.awaitSync]
    · exact (State.anchorOf_of rfl ..).trans (hu e' (List.mem_cons_of_mem _ he'))

/-- A sync whose anchor no running view knows is counted and shown, and awaited in each of them. -/
theorem State.sync_awaits {s : State} {st : Stamp} (h : ∀ v, v < 4 → (s.tgOf v).running = true → s.anchorOf st v = none) :
    s.sync st = (((s.bump Pg.DEC Fd.DEC_CNT0_b0).flag Pg.DEC Fd.DEC_STAT_SYNC_SEEN).wr64 Pg.DEC Rg.DEC_SYNC_TIME_LO Rg.DEC_SYNC_TIME_HI
      st.time).awaitSync st ((List.range 4).filter fun v => (s.tgOf v).running).zipIdx := by
  have htg : (((s.bump Pg.DEC Fd.DEC_CNT0_b0).flag Pg.DEC Fd.DEC_STAT_SYNC_SEEN).wr64 Pg.DEC Rg.DEC_SYNC_TIME_LO Rg.DEC_SYNC_TIME_HI
      st.time).tg = s.tg := State.flag_tg ..
  unfold State.sync
  dsimp only
  rw [htg]
  refine State.foldl_awaitSync (fun u e hu => ?_) _ _ fun e he => ?_
  · rw [hu]
    rfl
  · obtain ⟨hrange, hrun⟩ := List.mem_filter.mp (List.fst_mem_of_mem_zipIdx he)
    rw [State.anchorOf_of htg]
    exact h e.1 (List.mem_range.mp hrange) hrun

theorem State.sync_shows {s : State} {st : Stamp} (h : ∀ v, v < 4 → (s.tgOf v).running = true → s.anchorOf st v = none) :
    (s.sync st).fld Pg.DEC Fd.DEC_CNT0_b0 = satN 16 (s.fld Pg.DEC Fd.DEC_CNT0_b0 + 1) ∧ (s.sync st).on Pg.DEC Fd.DEC_STAT_SYNC_SEEN = true ∧
      (s.sync st).rd64 Pg.DEC Rg.DEC_SYNC_TIME_LO Rg.DEC_SYNC_TIME_HI = st.time % 2 ^ 64 ∧
      (s.sync st).dec.syncs = s.dec.syncs ++ ((List.range 4).filter fun v => (s.tgOf v).running).zipIdx.map fun e => ⟨e.1, st, e.2 == 0⟩ := by
  rw [State.sync_awaits h]
  refine ⟨?_, ?_, State.wr64_rd _ _ _ _ _ (by decide), ?_⟩
  · rw [State.awaitSync_fld, (State.wr64_same (by decide) (by decide)).fld, State.fld_flag_p (by decide) (by decide) (by decide) (by decide),
      State.fld_bump _ _ _ (by decide)]
  · rw [State.awaitSync_on, (State.wr64_same (by decide) (by decide)).on, State.on_flag_self (by decide) (by decide) (by decide) (by decide)]
  · exact congrArg (fun d : Dec => d.syncs ++ _) (State.flag_dec ..)

/-- An enabled edge of DECSYNC is a sync while DEC runs; any other only advances the clock. -/
theorem State.decEdge_eq (s : State) (up : Bool) (stable n : Nat) :
    let x := s.atCycle n
    let on := x.decRuns = true ∧ x.on Pg.DEC Fd.DEC_SYNC_CTL_PIN_EN = true ∧ x.on Pg.DEC Fd.DEC_SYNC_CTL_PIN_POL ≠ up ∧
      x.fld Pg.DEC Fd.DEC_SYNC_CTL_PIN_FILT + 1 ≤ stable
    (on → s.decEdge up stable n = x.sync { time := x.timeAt (rawOfCycle n) / 65536 }) ∧ (¬on → s.decEdge up stable n = x) := by
  intro x on
  have hiff : (x.decRuns && decide (x.fld Pg.DEC Fd.DEC_SYNC_CTL_PIN_FILT < stable) && x.on Pg.DEC Fd.DEC_SYNC_CTL_PIN_EN &&
      x.on Pg.DEC Fd.DEC_SYNC_CTL_PIN_POL != up) = true ↔ on := by
    simp only [Bool.and_eq_true, decide_eq_true_eq, bne_iff_ne, on, Nat.succ_le_iff]
    tauto
  exact ⟨fun h => if_pos (hiff.mpr h), fun h => if_neg fun k => h (hiff.mp k)⟩

/-- A granted write of SYNC_CTL with SYNC set, while DEC runs, is a sync at the present time. -/
theorem State.decSyncWrite_go {s : State} (o : Owner) {w : Word} (hruns : s.decRuns = true) (hsync : wf w 0 1 = 1) :
    (s.touch o Pg.DEC).decSyncWrite w = ((s.touch o Pg.DEC).storeRw Pg.DEC Rg.DEC_SYNC_CTL w).sync { time := s.time } := by
  have hx := State.storeRw_within (s.touch o Pg.DEC) Pg.DEC Rg.DEC_SYNC_CTL w
  have htime : ((s.touch o Pg.DEC).storeRw Pg.DEC Rg.DEC_SYNC_CTL w).time = s.time := (hx.time_eq rfl rfl).trans (State.time_of_raw ..)
  have hsame {p off : Nat} (hne : p * 4096 + off ≠ Pg.DEC * 4096 + Rg.DEC_SYNC_CTL) :
      RegSame (p * 4096 + off) s ((s.touch o Pg.DEC).storeRw Pg.DEC Rg.DEC_SYNC_CTL w) :=
    RegSame.step (State.writeReg_rd_other _ _ _ w p off hne) (RegSame.of_regs (State.touch_regs ..))
  have hruns' : ((s.touch o Pg.DEC).storeRw Pg.DEC Rg.DEC_SYNC_CTL w).decRuns = true := by
    unfold State.decRuns at hruns ⊢
    rw [(hsame (by decide)).on, State.mode_of_regs (hsame (by decide))]
    exact hruns
  unfold State.decSyncWrite
  rw [if_pos (by rw [hruns', hsync]; rfl), htime]

theorem State.decSyncWrite_shows {s : State} (o : Owner) {w : Word} (hruns : s.decRuns = true) (hsync : wf w 0 1 = 1)
    (h : ∀ v, v < 4 → (s.tgOf v).running = true → s.anchorOf { time := s.time } v = none) :
    let t := (s.touch o Pg.DEC).decSyncWrite w
    t.fld Pg.DEC Fd.DEC_CNT0_b0 = satN 16 (s.fld Pg.DEC Fd.DEC_CNT0_b0 + 1) ∧
      t.rd64 Pg.DEC Rg.DEC_SYNC_TIME_LO Rg.DEC_SYNC_TIME_HI = s.time % 2 ^ 64 ∧
      t.dec.syncs = s.dec.syncs ++
        (((List.range 4).filter fun v => (s.tgOf v).running).zipIdx.map fun e => ⟨e.1, { time := s.time }, e.2 == 0⟩) := by
  intro t
  have ht : t = _ := State.decSyncWrite_go o hruns hsync
  have hx := State.storeRw_within (s.touch o Pg.DEC) Pg.DEC Rg.DEC_SYNC_CTL w
  have hcnt : ((s.touch o Pg.DEC).storeRw Pg.DEC Rg.DEC_SYNC_CTL w).fld Pg.DEC Fd.DEC_CNT0_b0 = s.fld Pg.DEC Fd.DEC_CNT0_b0 :=
    (State.fld_writeReg_p (by decide)).trans (RegSame.of_regs (State.touch_regs ..)).fld
  generalize (s.touch o Pg.DEC).storeRw Pg.DEC Rg.DEC_SYNC_CTL w = x at ht hx hcnt
  have htg : x.tg = s.tg := (hx.tg_eq rfl).trans (State.touch_tg ..)
  have hdec : x.dec = s.dec := (hx.dec_eq rfl).trans (State.touch_dec ..)
  have hrun (v : Nat) : x.tgOf v = s.tgOf v := by unfold State.tgOf; rw [htg]
  obtain ⟨hn, -, htime, hsyncs⟩ := State.sync_shows (s := x) (st := { time := s.time }) fun v hv hr => by
    rw [State.anchorOf_of htg]
    exact h v hv (hrun v ▸ hr)
  rw [ht]
  rw [hcnt] at hn
  simp only [hdec, hrun] at hsyncs
  exact ⟨hn, htime, hsyncs⟩

/-! ### Restarts and boundaries (R418, R421, R422) -/

theorem State.strCtl_s7 (s : State) {n : Nat} (h : 7 ≤ n) (w : Word) : s.strCtl n w = s := if_pos h

theorem State.strCtl_plain (s : State) {n : Nat} (h : n < 7) {w : Word} (hw : wf w 2 1 = 0) :
    s.strCtl n w = s.writeReg Pg.STR (Rg.STR_S_CTL n) w := by
  unfold State.strCtl
  rw [if_neg (not_le.mpr h)]
  exact if_neg (by rw [hw]; decide)

theorem State.strCtl_restart (s : State) {n : Nat} (h : n < 7) {w : Word} (hw : wf w 2 1 = 1) :
    s.strCtl n w = let y := s.writeReg Pg.STR (Rg.STR_S_CTL n) w; y.restartStream n (y.strNext (y.strView n)) := by
  unfold State.strCtl
  rw [if_neg (not_le.mpr h)]
  exact if_pos hw

/-- A stream that runs in a running view awaits the boundary that AT selects, where it awaits none. -/
theorem State.restartStream_awaits {s : State} {n : Nat} (line : Nat) (hon : s.on Pg.STR (Fd.STR_S_CTL_EN n) = true)
    (hrun : (s.tgOf (s.strView n)).running = true) (hwant : (s.str_ n).want = none) :
    ((s.restartStream n line).str_ n).want = some (s.strView n, if s.fld Pg.STR (Fd.STR_S_CTL_AT n) = 0 then blockLine line else line,
      s.fld Pg.STR (Fd.STR_S_CTL_AT n) == 1) ∧ (s.restartStream n line).regs = s.regs := by
  unfold State.restartStream
  rw [if_pos (by rw [hon, hrun]; rfl)]
  unfold State.awaitStream
  dsimp only
  rw [State.str_putStr, hwant]
  exact ⟨rfl, rfl⟩

/-- A stream that awaits no boundary any more. -/
def State.endWait (s : State) (n : Nat) : State := s.putStr n { s.str_ n with want := none, ask := false }

theorem State.str_endWait (s : State) (n : Nat) : (s.endWait n).str_ n = { s.str_ n with want := none, ask := false } := State.str_putStr ..

theorem State.on_endWait (s : State) (n p : Nat) (f : Fld) : (s.endWait n).on p f = s.on p f := rfl

/-- With no commit waiting, a stream's boundary ends its wait alone. -/
theorem State.takeStream_ends {s : State} (h : s.commits = []) (n : Nat) (line : Option Nat) : s.takeStream n line = s.endWait n := by
  unfold State.takeStream
  rw [State.applyParts_calm h]
  exact if_neg (by show ¬(s.on Pg.STR (Fd.STR_S_CTL_EN n) && !s.on Pg.STR (Fd.STR_S_CTL_EN n)) = true; simp)

/-- A stopped stream keeps no grid and shows that it does not run. -/
theorem State.stopGrids_shows (s : State) (n : Nat) :
    (s.stopGrids n).str_ n = { s.str_ n with grids := [], running := false } ∧ (s.stopGrids n).fld Pg.STR (Fd.STR_S_STAT_RUNNING n) = 0 := by
  refine ⟨?_, State.fld_fits (show 0 + 1 ≤ 32 by decide) (Nat.two_pow_pos _)⟩
  have hkept : ((s.str_ n).grids.foldl (fun (s : State) x => s.discardPartial x) s).str_ n = s.str_ n :=
    foldl_kept (·.str_ n) _ (fun t x => by unfold State.discardPartial; split <;> rfl) _ _
  unfold State.stopGrids
  dsimp only
  rw [State.setFld_str_, State.str_putStr, hkept]

section boundary
variable {s : State} {n : Nat} (hc : s.commits = []) (m : Nat)
include hc

theorem State.streamBoundary_stops (hoff : s.on Pg.STR (Fd.STR_S_CTL_EN n) = false) :
    s.streamBoundary n m = (s.endWait n).stopGrids n := by
  unfold State.streamBoundary
  dsimp only
  rw [State.takeStream_ends hc, State.on_endWait, hoff]
  exact if_pos rfl

/-- A stream that runs on past its boundary waits no more. -/
theorem State.streamBoundary_ends (hon : s.on Pg.STR (Fd.STR_S_CTL_EN n) = true) : ((s.streamBoundary n m).str_ n).want = none := by
  unfold State.streamBoundary
  dsimp only
  rw [State.takeStream_ends hc, State.on_endWait, hon, if_neg (by decide)]
  split
  · rw [State.str_endWait]
  split
  · rw [State.str_putStr, State.str_endWait]
  · unfold State.askReset
    rw [State.str_putStr, State.str_endWait]

/-- A RESTART adds a grid under the stream's descriptor from the first line of the view's grid at or after the boundary. -/
theorem State.streamBoundary_restarts (hon : s.on Pg.STR (Fd.STR_S_CTL_EN n) = true) (hask : (s.str_ n).ask = true)
    (horigin : ∀ r ∈ (s.str_ n).grids, r.origin = false) :
    let g := s.origin (s.strView n) + s.strD n 16 6
    ((s.streamBoundary n m).str_ n).grids = (s.str_ n).grids.filter (fun r => decide (r.l0 ≤ m)) ++
      [{ g := m, l0 := if m ≤ g then g else g + (m - g + s.strStep n - 1) / s.strStep n * s.strStep n, origin := false, desc := s.strDesc n }] := by
  have hany : ¬((s.str_ n).grids.any fun r => r.origin && r.l0 == m && !r.begun) = true := by
    rw [List.any_eq_true]
    rintro ⟨r, hr, hb⟩
    rw [horigin r hr] at hb
    cases hb
  unfold State.streamBoundary
  dsimp only
  rw [State.takeStream_ends hc, State.on_endWait, hon, hask, State.str_endWait, if_neg (by decide), if_neg (by simp), if_neg hany]
  unfold State.askReset
  rw [State.str_putStr, State.str_endWait]
  rfl

end boundary

/-- Whether a stream's awaited boundary has come: its source stands at that line or past it, and at a repeat start where one is asked for. -/
theorem State.resetBoundary_eq {s : State} {n w k : Nat} {rep : Bool} (h : (s.str_ n).want = some (w, k, rep)) :
    let m := s.srcNext n
    s.resetBoundary n = if w = s.strView n ∧ k ≤ m ∧ (rep → s.repeatStartAt w m) then s.streamBoundary n m else s := by
  unfold State.resetBoundary
  dsimp only
  rw [h]

/-! ### Outputs (R423) -/

/-- What is written to memory does not depend on the streams. -/
theorem State.putStr_dramPut_mem (s : State) (n : Nat) (x : Stream) (a : Nat) (l : List Byte) :
    ((s.putStr n x).dramPut a l).mem = (s.dramPut a l).mem := by
  unfold State.dramPut
  rw [show (s.putStr n x).capacity = s.capacity from rfl]
  split <;> rfl

/-- An output for memory alone leaves the network as it was. -/
theorem State.streamOutput_net {s : State} {n : Nat} {o : SOut} {l : List SOut} (ho : (s.str_ n).outs = o :: l) (hd : o.dest = 0) :
    (s.streamOutput n).net = s.net := by
  have hput (y : State) (a : Nat) (b : List Byte) : (y.dramPut a b).net = y.net := (State.dramPut_within ..).net_eq rfl
  unfold State.streamOutput
  dsimp only
  rw [ho]
  dsimp only
  rw [if_pos hd, if_neg (show ¬o.dest = 1 by omega), State.setBit_net, State.wr_net]
  split
  · exact hput ..
  · exact (State.bump_net ..).trans (hput ..)

theorem State.streamOutput_shows {s : State} {n : Fin 7} {o : SOut} {l : List SOut} (ho : (s.str_ n).outs = o :: l) :
    let c := (s.rd Pg.STR (Rg.STR_S_OUT_CNT n)).toNat
    let t := s.streamOutput n
    (t.str_ n).outs = l ∧ t.rd Pg.STR (Rg.STR_S_OUT_CNT n) = BitVec.ofNat 32 (c + 1) ∧ t.on Pg.STR (Fd.STR_S_STAT_SETTLED n) = o.settled ∧
      (o.dest = 0 → t.mem = (s.dramPut (o.base + c % Nat.max 1 o.slots * o.stride) (o.bytes.take 4 ++ leBytes 4 c ++ o.bytes.drop 8)).mem ∧
        t.net = s.net) := by
  intro c t
  obtain ⟨x, hstream, hmem, hout⟩ := State.streamOutput_eq ho (c := c) rfl
  have ht : t = _ := hout
  refine ⟨?_, ?_, ?_, fun hd => ⟨?_, State.streamOutput_net ho hd⟩⟩
  · have hstr : t.str_ n = { s.str_ n with outs := l } := by
      rw [ht]
      exact (congrArg (fun a => tabGet (dflt ({} : Stream)) a n.val) hstream).trans (State.str_putStr ..)
    rw [hstr]
  · rw [ht]
    exact (State.rd_setFld_of_ne _ _ _ _ _ _ (strOut_apart n)).trans (State.rd_wr_same ..)
  · rw [ht]
    unfold State.on
    rw [State.fld_setBit _ _ _ _ (by show 1 + 1 ≤ 32; decide) (by show 1 ≠ 0; decide)]
    cases o.settled <;> rfl
  · rw [ht]
    exact (hmem hd).1.trans (State.putStr_dramPut_mem ..)

/-! ### DATA tasks (R331, R470) -/

theorem State.dataTask_none {s : State} (h : s.evf.data.find? s.dataReady = none) : s.dataTask = s := by
  unfold State.dataTask; rw [h]

/-- An ADAPT_FREEZE or ADAPT_THAW occurrence is noted for its view at its anchor line, and is done. -/
theorem State.dataTask_adapt {s : State} {o : Occ} {a : Nat} (h : s.evf.data.find? s.dataReady = some o) (hlo : 48 ≤ o.task)
    (hhi : o.task < 56) (ha : s.dataAnchor o = some a) :
    s.dataTask = (s.mstChange ((o.task - 48) % 4) a (decide (o.task < 52))).dropOcc o := by
  have h40 : o.task ≠ taskChangeover := by unfold taskChangeover; omega
  have h42 : o.task ≠ taskDecSync := by unfold taskDecSync; omega
  have heffect : s.dataEffect o = (s.mstChange ((o.task - 48) % 4) a (decide (o.task < 52)), true) := by
    unfold State.dataEffect
    rw [if_neg h40, if_neg h42, ha]
    exact if_pos hhi
  unfold State.dataTask
  rw [h]
  dsimp only
  rw [heffect]
  exact if_neg h40

/-! ### The obligation -/

/-- Settles O29: a sync by the anchors that no running view knows yet, a boundary by whether it has come and the stream runs, an output and a DATA
task by the list that it is taken from. -/
theorem streamsSyncRestartAndDeliver : Obligations.StreamsSyncRestartAndDeliver := by
  refine ⟨?_, ?_, ?_, ?_, ?_, ?_⟩
  · intro up stable n s x st vs on
    obtain ⟨hon, hoff⟩ := s.decEdge_eq up stable n
    refine ⟨_, rfl, hoff, fun h hnone => ?_⟩
    rw [hon h]
    exact State.sync_shows fun v hv hrun => hnone v (List.mem_filter.mpr ⟨List.mem_range.mpr hv, hrun⟩)
  · intro o w s hgranted hruns hsync hnone
    refine ⟨_, rfl, ?_⟩
    rw [State.guarded_granted hgranted]
    exact State.decSyncWrite_shows o hruns hsync hnone
  · intro o n w s hgranted y
    refine ⟨_, rfl, ?_⟩
    rw [State.guarded_granted hgranted]
    refine ⟨fun h7 => State.strCtl_s7 _ (by omega) w, fun hlt => State.strCtl_plain _ hlt, fun hlt hw hon hrun hwant => ?_⟩
    rw [State.strCtl_restart _ hlt hw]
    exact State.restartStream_awaits _ hon hrun hwant
  · intro n w k rep s hwant hc m due
    have hreset : s.resetBoundary n = _ := State.resetBoundary_eq hwant
    refine ⟨_, rfl, fun hnot => hreset.trans (if_neg hnot), fun hdue => ?_⟩
    rw [hreset.trans (if_pos hdue)]
    cases hen : s.on Pg.STR (Fd.STR_S_CTL_EN n) with
    | false =>
      obtain ⟨hstr, hfld⟩ := (s.endWait n).stopGrids_shows n
      rw [State.streamBoundary_stops hc _ hen, hstr, State.str_endWait]
      exact ⟨rfl, fun _ => ⟨rfl, rfl, hfld⟩, fun ⟨hon, _⟩ => Bool.noConfusion hon⟩
    | true =>
      exact ⟨State.streamBoundary_ends hc _ hen, fun hoff => Bool.noConfusion hoff,
        fun ⟨_, hask, horigin⟩ => State.streamBoundary_restarts hc _ hen hask horigin⟩
  · intro n o l s ho c
    exact ⟨_, rfl, State.streamOutput_shows ho⟩
  · intro s
    refine ⟨fun h => congrArg Host.Outcome.next (State.dataTask_none h), fun o a h hlo hhi ha => ⟨_, rfl, ?_⟩⟩
    rw [State.dataTask_adapt h hlo hhi ha]
    refine ⟨rfl, ?_, rfl⟩
    rw [State.dropOcc_mstV]
    unfold State.mstChange
    rw [State.mstV_putMst]

end Sys2Proof.Machine
end

section
/-!
PROOFS. Rules evaluated, cell and repeat verdicts decided, tolerance scales settled (O27).
-/
namespace Sys2Proof.Machine

/-! ### Records of a job (R370) -/

/-- A record handed on to be sent, its crop let go. -/
def State.handOn (s : State) (c : Copy) (r : Rec) : State :=
  s.setRes c { s.res c with out := (s.res c).out ++ [{ r with crop := none }] }

theorem State.handOn_res (s : State) (c : Copy) (r : Rec) :
    (s.handOn c r).res c = { s.res c with out := (s.res c).out ++ [{ r with crop := none }] } := State.res_setRes ..

theorem State.setRes_regs (s : State) (c : Copy) (x : Results) : (s.setRes c x).regs = s.regs := by cases c <;> rfl

theorem State.setRes_hits (s : State) (c : Copy) (x : Results) : (s.setRes c x).hits = s.hits := by cases c <;> rfl

theorem State.handOn_regs (s : State) (c : Copy) (r : Rec) : (s.handOn c r).regs = s.regs := State.setRes_regs ..

theorem State.handOn_hits (s : State) (c : Copy) (r : Rec) : (s.handOn c r).hits = s.hits := State.setRes_hits ..

/-- A field above the type leaves it. -/
theorem Rec.type_put (r : Rec) {lo : Nat} (len v : Nat) (h : 8 ≤ lo) : (r.put lo len v).type = r.type :=
  nb_nbSet_below _ _ (by omega)

/-! ### What VRD and MRG make of a cell's record (R377, R388, R392) -/

theorem State.initSev_cell {s : State} {c : Copy} {r : Rec} (h : r.type = recCell) : s.initSev c r = r := by
  unfold State.initSev
  rw [if_neg (by rw [h]; decide), if_neg (by rw [h]; decide)]

theorem Rec.counts_cell {r : Rec} (h : r.type = recCell) : r.counts = false := by
  unfold Rec.counts
  rw [h]
  exact Bool.and_false _

theorem State.noteRec_cell {s : State} {c : Copy} {r : Rec} (h : r.type = recCell) (hsupp : r.supp = false) : s.noteRec c r = s := by
  unfold State.noteRec
  rw [hsupp, Rec.counts_cell h]
  exact if_neg fun hp => absurd (h.symm.trans hp.1) (by decide)

theorem State.keepCrop_cell {s : State} {c : Copy} {r : Rec} (h : r.type = recCell) : s.keepCrop c r = (s, { r with crop := none }) := by
  unfold State.keepCrop
  exact if_pos (.inl (by rw [h]; decide))

/-- A cell's record that the rules do not suppress is handed on as they leave it. -/
theorem State.evalRec_cell {s t : State} {c : Copy} {r q : Rec} (h : r.type = recCell) (hrules : s.evalRules c r = (t, q))
    (hq : q.type = recCell) (hsupp : q.supp = false) : s.evalRec c r = t.handOn c q := by
  unfold State.evalRec
  rw [if_neg (by rw [h]; decide)]
  dsimp only
  rw [State.initSev_cell h, hrules]
  dsimp only
  rw [State.noteRec_cell hq hsupp, State.keepCrop_cell hq]
  exact if_neg (by rw [hsupp]; decide)

/-! ### Rules on a cell's record (R385 to R389) -/

theorem State.evalRules_off {s : State} {c : Copy} (r : Rec)
    (h : wf (s.jobRd c Pg.RUL Rg.RUL_CTL) 0 1 = 0 ∨ s.on Pg.RUL Fd.HDR_PAGE_CTL_EN = false) : s.evalRules c r = (s, r) := by
  unfold State.evalRules
  exact if_pos (.inr (h.imp id fun hoff => by rw [hoff]; rfl))

/-- A cell's record that the rules let through is counted as evaluated. -/
theorem State.evalRules_on {s t : State} {c : Copy} {r q : Rec} (h : r.type = recCell) (hctl : wf (s.jobRd c Pg.RUL Rg.RUL_CTL) 0 1 = 1)
    (hon : s.on Pg.RUL Fd.HDR_PAGE_CTL_EN = true) (hrun : s.runRules c (s.rulesOn c) r [] = (t, q)) (hsupp : q.supp = false) :
    s.evalRules c r = (t.bump Pg.RUL (whole Rg.RUL_EVAL_CNT), q) := by
  unfold State.evalRules
  rw [if_neg (by rw [h, hctl, hon]; decide), hrun]
  dsimp only
  rw [hsupp]
  rfl

/-- The only rule's actions, with STOP and without it. -/
theorem State.runRules_one {s : State} {c : Copy} {i : Nat} {r : Rec} (h : s.ruleMatch c i r = true) :
    s.runRules c [i] r [] = ((s.ruleActs c i r []).1, (s.ruleActs c i r []).2.1) := by
  unfold State.runRules
  rw [if_pos h]
  exact ite_self _

/-- A rule's hit counted, and its counter `k`. -/
def State.countHit (s : State) (i k : Nat) : State :=
  ({ s with hits := tabPut (dflt 0) i (satN 32 (tabGet (dflt 0) s.hits i + 1)) s.hits }).bump Pg.RUL (whole (Rg.RUL_CNT k))

theorem State.countHit_res (s : State) (i k : Nat) (c : Copy) : (s.countHit i k).res c = s.res c := by
  cases c <;> rfl

/-- A rule that counts and asks for nothing else: a cell's record is never suppressed or changed beyond the rule's number. -/
theorem State.ruleActs_cell {s : State} {c : Copy} {i : Nat} {r : Rec} (done : List Nat) (h : r.type = recCell)
    (hcount : s.ruleF c i 400 1 = 1) (hevent : s.ruleF c i 405 1 = 0) (hact : s.ruleF c i 410 1 = 0) (hstep : s.ruleF c i 416 1 = 0) :
    s.ruleActs c i r done = (s.countHit i (s.ruleF c i 401 4), r.put 181 9 (i + 1), done) := by
  have hcell : (r.type == recCell) = true := by rw [h]; rfl
  unfold State.ruleActs
  simp only [hcell, hcount, hevent, hact, hstep, Bool.not_true, Bool.and_false, or_true, Nat.reduceBEq, Bool.false_and, if_true,
    Bool.false_eq_true, if_false]
  rfl

/-- A rule's hit and its counter are told apart from EVAL_CNT, which the same record raises. -/
theorem State.countHit_shows (s : State) (i k : Nat) :
    let t := (s.countHit i k).bump Pg.RUL (whole Rg.RUL_EVAL_CNT)
    tabGet (dflt 0) t.hits i = satN 32 (tabGet (dflt 0) s.hits i + 1) ∧
      t.fld Pg.RUL (whole (Rg.RUL_CNT k)) = satN 32 (s.fld Pg.RUL (whole (Rg.RUL_CNT k)) + 1) ∧
      t.fld Pg.RUL (whole Rg.RUL_EVAL_CNT) = satN 32 (s.fld Pg.RUL (whole Rg.RUL_EVAL_CNT) + 1) := by
  have hoff : Rg.RUL_EVAL_CNT ≠ Rg.RUL_CNT k := by unfold Rg.RUL_EVAL_CNT Rg.RUL_CNT; omega
  refine ⟨tabGet_tabPut_same .., ?_, ?_⟩
  · rw [State.fld_bump_p (by decide) (.inl hoff)]
    exact State.fld_bump _ _ _ (Nat.le_refl 32)
  · rw [State.fld_bump _ _ _ (by decide)]
    unfold State.countHit
    rw [State.fld_bump_p (f := whole (Rg.RUL_CNT k)) (Nat.le_refl 32) (.inl hoff.symm)]
    rfl

/-! ### RULE_EVALUATE (R387) -/

/-- The first cell verdict that waits for RUL taken. -/
def State.takeFront (s : State) (c : Copy) (rest : List Rec) : State := s.setRes c { s.res c with front := rest }

theorem State.evalNext_front {s : State} {c : Copy} {r : Rec} {rest : List Rec} (k : Nat) (h : (s.res c).front = r :: rest) :
    s.evalNext c (k + 1) = (s.takeFront c rest).evalRec c r := by
  rw [State.evalNext, h]
  rfl

/-- No item is taken while verdicts are awaited, nor while none may come yet. -/
theorem State.evalNext_waits {s : State} {c : Copy} (k : Nat) (h : (s.res c).front = [])
    (hwait : (s.res c).ready ≠ [] ∨ (s.res c).whole ≠ [] ∨ (s.nextItem c = none ∧ s.drained c = false)) : s.evalNext c (k + 1) = s := by
  rw [State.evalNext, h]
  dsimp only
  split
  · rfl
  · rename_i hnone
    rw [Bool.or_eq_true, not_or, Bool.not_eq_true', Bool.not_eq_true', Bool.not_eq_false, Bool.not_eq_false, List.isEmpty_iff,
      List.isEmpty_iff] at hnone
    obtain ⟨hitem, hdrained⟩ := (hwait.resolve_left (not_not_intro hnone.1)).resolve_left (not_not_intro hnone.2)
    rw [hitem, hdrained]
    rfl

theorem State.takeFront_res (s : State) (c : Copy) (rest : List Rec) : (s.takeFront c rest).res c = { s.res c with front := rest } :=
  State.res_setRes ..

theorem State.takeFront_regs (s : State) (c : Copy) (rest : List Rec) : (s.takeFront c rest).regs = s.regs := State.setRes_regs ..

theorem State.takeFront_hits (s : State) (c : Copy) (rest : List Rec) : (s.takeFront c rest).hits = s.hits := State.setRes_hits ..

theorem State.takeFront_on (s : State) (c : Copy) (rest : List Rec) (p : Nat) (f : Fld) : (s.takeFront c rest).on p f = s.on p f :=
  State.on_of (State.takeFront_regs ..) ..

theorem State.takeFront_jobRd (s : State) (c : Copy) (rest : List Rec) (p off : Nat) :
    (s.takeFront c rest).jobRd c p off = s.jobRd c p off := by cases c <;> rfl

theorem State.takeFront_ruleF (s : State) (c : Copy) (rest : List Rec) : (s.takeFront c rest).ruleF c = s.ruleF c := by
  cases c <;> rfl

theorem State.takeFront_rulesOn (s : State) (c : Copy) (rest : List Rec) : (s.takeFront c rest).rulesOn c = s.rulesOn c := by
  unfold State.rulesOn
  rw [State.takeFront_ruleF]

theorem State.takeFront_ruleMatch (s : State) (c : Copy) (rest : List Rec) (i : Nat) (r : Rec) :
    (s.takeFront c rest).ruleMatch c i r = s.ruleMatch c i r := by
  unfold State.ruleMatch
  rw [State.takeFront_ruleF]

/-- With RUL off the first cell verdict that waits goes on unchanged. -/
theorem State.evalNext_ruleOff {s : State} {c : Copy} {r : Rec} {rest : List Rec} (k : Nat) (h : (s.res c).front = r :: rest)
    (htype : r.type = recCell) (hsupp : r.supp = false)
    (hoff : wf (s.jobRd c Pg.RUL Rg.RUL_CTL) 0 1 = 0 ∨ s.on Pg.RUL Fd.HDR_PAGE_CTL_EN = false) :
    s.evalNext c (k + 1) = (s.takeFront c rest).handOn c r := by
  rw [State.evalNext_front k h]
  refine State.evalRec_cell htype (State.evalRules_off r ?_) htype hsupp
  rw [State.takeFront_jobRd, State.takeFront_on]
  exact hoff

/-- With RUL on, the only rule counts the first cell verdict that waits and is named in it. -/
theorem State.evalNext_ruleHit {s : State} {c : Copy} {r : Rec} {rest : List Rec} {i : Nat} (k : Nat) (h : (s.res c).front = r :: rest)
    (htype : r.type = recCell) (hsupp : r.supp = false) (hctl : wf (s.jobRd c Pg.RUL Rg.RUL_CTL) 0 1 = 1)
    (hon : s.on Pg.RUL Fd.HDR_PAGE_CTL_EN = true) (hrules : s.rulesOn c = [i]) (hmatch : s.ruleMatch c i r = true)
    (hcount : s.ruleF c i 400 1 = 1) (hevent : s.ruleF c i 405 1 = 0) (hact : s.ruleF c i 410 1 = 0) (hstep : s.ruleF c i 416 1 = 0) :
    s.evalNext c (k + 1) = (((s.takeFront c rest).countHit i (s.ruleF c i 401 4)).bump Pg.RUL (whole Rg.RUL_EVAL_CNT)).handOn c
      (r.put 181 9 (i + 1)) := by
  rw [State.evalNext_front k h]
  rw [← State.takeFront_jobRd s c rest] at hctl
  rw [← State.takeFront_on s c rest] at hon
  rw [← State.takeFront_rulesOn s c rest] at hrules
  rw [← State.takeFront_ruleMatch s c rest] at hmatch
  rw [← State.takeFront_ruleF s c rest] at hcount hevent hact hstep ⊢
  refine State.evalRec_cell htype (State.evalRules_on htype hctl hon ?_ hsupp) ((Rec.type_put _ _ _ (by decide)).trans htype) hsupp
  rw [hrules, State.runRules_one hmatch, State.ruleActs_cell [] htype hcount hevent hact hstep]

/-! ### CELL_VERDICT (R391 to R395) -/

/-- The counter of a verdict (Table — VRD page). -/
def verdictFld (vd : Nat) : Fld :=
  if vd = 0 then ⟨Rg.VRD_VCNT0, 0, 16⟩ else if vd = 1 then ⟨Rg.VRD_VCNT0, 16, 16⟩ else if vd = 2 then ⟨Rg.VRD_VCNT1, 0, 16⟩
    else ⟨Rg.VRD_VCNT1, 16, 16⟩

theorem verdictFld_fits (vd : Nat) : (verdictFld vd).len = 16 ∧ (verdictFld vd).lo + (verdictFld vd).len ≤ 32 := by
  unfold verdictFld
  split_ifs <;> exact ⟨rfl, by decide⟩

/-- A cell taken from those that await their verdict. -/
def State.takeReady (s : State) (c : Copy) (rest : List (Nat × Nat)) : State := s.setRes c { s.res c with ready := rest }

theorem State.takeReady_cellRec (s : State) (c : Copy) (rest : List (Nat × Nat)) (i n : Nat) :
    (s.takeReady c rest).cellRec c (((s.takeReady c rest).res c).cell i n) none = s.cellRec c ((s.res c).cell i n) none := by
  cases c <;> rfl

theorem State.takeReady_res (s : State) (c : Copy) (rest : List (Nat × Nat)) : (s.takeReady c rest).res c = { s.res c with ready := rest } :=
  State.res_setRes ..

theorem State.takeReady_regs (s : State) (c : Copy) (rest : List (Nat × Nat)) : (s.takeReady c rest).regs = s.regs := State.setRes_regs ..

theorem State.takeReady_raised (s : State) (c : Copy) (rest : List (Nat × Nat)) : (s.takeReady c rest).raised = s.raised :=
  (State.setRes_within ..).raised_eq rfl

theorem State.takeReady_mode (s : State) (c : Copy) (rest : List (Nat × Nat)) : (s.takeReady c rest).mode = s.mode :=
  (State.setRes_within ..).mode rfl

theorem State.cellVerdictNext_eq {s : State} {c : Copy} {i n : Nat} {rest : List (Nat × Nat)} (hc : c = s.vrdCopy fun r => !r.ready.isEmpty)
    (h : (s.res c).ready = (i, n) :: rest) :
    s.cellVerdictNext = if s.vrdOn then (s.takeReady c rest).cellVerdict c i n none else s := by
  unfold State.cellVerdictNext
  rw [← hc]
  dsimp only
  rw [h]
  rfl

/-- A verdict raises its counter, and a FAIL its event; nothing else of the registers and events. -/
theorem State.cellVerdict_eq (s : State) (c : Copy) (i n : Nat) :
    let q := s.cellRec c ((s.res c).cell i n) none
    ∃ (x : State) (st : Stamp), x.regs = s.regs ∧ x.raised = s.raised ∧ s.cellVerdict c i n none =
      if q.2 = 2 then (x.bump Pg.VRD (verdictFld q.2)).raise evCellFail st else x.bump Pg.VRD (verdictFld q.2) := by
  refine ⟨_, _, ?_, ?_, rfl⟩
  · exact State.setRes_regs ..
  · exact (State.setRes_within ..).raised_eq rfl

theorem State.cellVerdict_counts (s : State) (c : Copy) (i n : Nat) :
    let vd := (s.cellRec c ((s.res c).cell i n) none).2
    let t := s.cellVerdict c i n none
    t.fld Pg.VRD (verdictFld vd) = satN 16 (s.fld Pg.VRD (verdictFld vd) + 1) ∧ (vd ≠ 2 → t.raised = s.raised) ∧
      (vd = 2 → s.mode ≠ .boot → ∃ st, t.raised = s.raised ++ [(evCellFail, st)]) := by
  obtain ⟨x, st, hregs, hraised, heq⟩ := s.cellVerdict_eq c i n
  dsimp only
  generalize s.cellRec c ((s.res c).cell i n) none = q at heq ⊢
  obtain ⟨hlen, hfits⟩ := verdictFld_fits q.2
  have hcount : (x.bump Pg.VRD (verdictFld q.2)).fld Pg.VRD (verdictFld q.2) = satN 16 (s.fld Pg.VRD (verdictFld q.2) + 1) := by
    rw [State.fld_bump _ _ _ hfits, hlen, State.fld_of hregs]
  rw [heq]
  by_cases hfail : q.2 = 2
  · rw [if_pos hfail]
    refine ⟨(State.fld_of (State.raise_regs ..) ..).trans hcount, fun hne => absurd hfail hne, fun _ hmode => ⟨st, ?_⟩⟩
    have hkept : (x.bump Pg.VRD (verdictFld q.2)).mode = s.mode :=
      (State.mode_setFld_page _ _ _ _ (by decide)).trans (State.mode_of_regs (RegSame.of_regs hregs))
    exact (State.raise_raised _ _ _ (hkept ▸ hmode)).trans (congrArg (· ++ [_]) hraised)
  · rw [if_neg hfail]
    exact ⟨hcount, fun _ => hraised, fun h => absurd h hfail⟩

/-! ### REPEAT_VERDICT (R396, R397) -/

/-- The results of a job once a repeat has its verdict. -/
def Results.judged (x : Results) (n : Nat) (rest : List Nat) (q : Rec) : Results :=
  { x with whole := rest, reps := x.reps.filter fun z => z.rep != n, lastRep := n, out := x.out ++ [q] }

theorem State.repeatVerdict_eq {s : State} {c : Copy} {n : Nat} {rest : List Nat} (hc : c = s.vrdCopy fun r => !r.whole.isEmpty)
    (h : (s.res c).whole = n :: rest) (hon : s.vrdOn = true) (hfront : (s.res c).front = []) (hready : (s.res c).ready = [])
    (hout : ∀ q ∈ (s.res c).out, q.rep = n → q.type = recStart) :
    let y := (s.res c).rep n
    let q := s.repRec c y
    let u := ((s.setRes c ((s.res c).judged n rest q)).rollMap q.bits).wr Pg.VRD Rg.VRD_LAST_REPEAT (BitVec.ofNat 32 n)
    ∃ (t : Nat) (l : List Nat), s.repeatVerdict = l.foldl (fun (s : State) v => s.defectFree c y v)
      ((if c = .active then u.runRecord else u).raiseLine evRepeatDone y.view y.key t) := by
  have hnone : (s.res c).out.any (fun q => q.rep == n && q.type != recStart) = false := by
    rw [List.any_eq_false]
    intro q hq hboth
    rw [Bool.and_eq_true, beq_iff_eq, bne_iff_ne] at hboth
    exact hboth.2 (hout q hq hboth.1)
  have hgo : (!s.vrdOn || !(s.res c).front.isEmpty || !(s.res c).ready.isEmpty ||
      (s.res c).out.any fun q => q.rep == n && q.type != recStart) = false := by
    rw [hon, hfront, hready, hnone]
    rfl
  unfold State.repeatVerdict
  rw [← hc]
  dsimp only
  rw [h]
  dsimp only
  rw [hgo]
  exact ⟨_, _, rfl⟩

theorem State.runRecordIf_regs (s : State) (p : Prop) [Decidable p] : (if p then s.runRecord else s).regs = s.regs :=
  ite_kept (·.regs) ((State.runRecord_within ..).regs_eq rfl)

/-- What follows a repeat's record writes no register. -/
theorem State.judgedAfter_regs (s : State) (p : Prop) [Decidable p] (c : Copy) (y : RepSt) (v k t : Nat) (l : List Nat) :
    (l.foldl (fun (s : State) v => s.defectFree c y v) ((if p then s.runRecord else s).raiseLine evRepeatDone v k t)).regs = s.regs := by
  rw [foldl_kept (·.regs) _ fun _ _ => (State.defectFree_within ..).regs_eq rfl, (State.raiseLine_within ..).regs_eq rfl,
    State.runRecordIf_regs]

/-- The ring's count rises by one, whether the ring wraps or not. -/
theorem State.rollMap_ringWr (s : State) (bits : Nat) : (s.rollMap bits).rd Pg.VRD Rg.VRD_RING_WR = s.rd Pg.VRD Rg.VRD_RING_WR + 1 := by
  unfold State.rollMap
  dsimp only
  rw [State.rd_wr_same]
  exact BitVec.eq_of_toNat_eq (by simp)

/-! ### CSCALE_STEP (R389) -/

/-- The next repeat's scales join those settled; steps that no record asked for change none. -/
theorem State.settleScale_steps {s : State} {v n : Nat} {a : Tab Nat} {l : List (Nat × Tab Nat)} (h : (s.vres .active v).scales = (n, a) :: l)
    (hdue : n + 1 ≤ s.resA.lastRep + 2) : ∃ b, ((s.settleScale .active v).vres .active v).scales = ((n + 1, b) :: (n, a) :: l).take 4 ∧
      ((∀ e ∈ s.resA.steps, ¬(e.view = v ∧ e.rep + 2 = n + 1)) → b = a) := by
  unfold State.settleScale
  dsimp only
  rw [h]
  dsimp only
  rw [if_neg (show ¬(s.res .active).lastRep + 2 < n + 1 from Nat.not_lt.mpr hdue),
    State.vres_of ((State.bumpBy_within ..).resA_eq rfl) ((State.bumpBy_within ..).resN_eq rfl), State.vres_setVres]
  dsimp only
  rw [State.vres_setRes]
  refine ⟨_, congrArg (fun l => List.take 4 (_ :: l)) h, fun hnone => ?_⟩
  have hmine : (s.res .active).steps.filter (fun e => e.view == v && e.rep + 2 == n + 1) = [] := by
    rw [List.filter_eq_nil_iff]
    intro e he hboth
    rw [Bool.and_eq_true, beq_iff_eq, beq_iff_eq] at hboth
    exact hnone e he hboth
  rw [hmine]
  rfl

/-- Scales of a repeat stay open until the repeat two before has its verdict. -/
theorem State.settleScale_waits {s : State} {v n : Nat} {a : Tab Nat} {l : List (Nat × Tab Nat)} (h : (s.vres .active v).scales = (n, a) :: l)
    (hearly : s.resA.lastRep + 2 < n + 1) : s.settleScale .active v = s := by
  unfold State.settleScale
  dsimp only
  rw [h]
  exact if_pos hearly

theorem execCscaleStep_settles {s : State} {v : Fin 4} (hen : s.enables .active v = true) (h : s.settleScale .active v ≠ s) :
    execCscaleStep v s = .next (s.settleScale .active v) := by
  unfold execCscaleStep
  rw [if_pos hen]
  exact congrArg Host.Outcome.next (if_neg h)

/-- With nothing to settle in the active job, CSCALE_STEP goes to the next job in a changeover alone. -/
theorem execCscaleStep_waits {s : State} {v : Fin 4} (hen : s.enables .active v = true) (h : s.settleScale .active v = s) :
    execCscaleStep v s = .next (if s.enables .next v && s.mode == .changeover then s.settleScale .next v else s) := by
  unfold execCscaleStep
  rw [if_pos hen]
  exact congrArg Host.Outcome.next (if_pos h)

/-! ### The obligation -/

/-- Settles O27: the first record of RUL by whether RUL runs, a cell's verdict by its counter and event, a repeat's by the results and registers it
leaves, scales by whether they are due. -/
theorem rulesVerdictsAndScalesAreDecided : Obligations.RulesVerdictsAndScalesAreDecided := by
  refine ⟨?_, ?_, ?_, ?_⟩
  · intro s c hjob hmode
    refine ⟨s.evalNext c (s.itemCount c + 1), congrArg Host.Outcome.next (State.ruleEvaluate_eq rfl hjob hmode), ?_, ?_, ?_⟩
    · intro r rest hfront htype hsupp hoff
      rw [State.evalNext_ruleOff _ hfront htype hsupp hoff, State.handOn_res, State.takeFront_res, State.handOn_hits, State.handOn_regs]
      exact ⟨rfl, rfl, State.takeFront_hits .., State.takeFront_regs ..⟩
    · intro r rest i hfront htype hsupp hctl hon hrules hmatch hcount hevent hact hstep
      obtain ⟨hhits, hcnt, heval⟩ := (s.takeFront c rest).countHit_shows i (s.ruleF c i 401 4)
      rw [State.takeFront_hits] at hhits
      rw [State.fld_of (State.takeFront_regs s c rest)] at hcnt heval
      rw [State.evalNext_ruleHit _ hfront htype hsupp hctl hon hrules hmatch hcount hevent hact hstep, State.handOn_res, State.handOn_hits,
        State.fld_of (State.handOn_regs ..), State.fld_of (State.handOn_regs ..),
        State.res_within (State.bump_within ..) rfl, State.countHit_res, State.takeFront_res]
      exact ⟨rfl, rfl, hhits, hcnt, heval⟩
    · intro ⟨hfront, hwait⟩
      exact State.evalNext_waits _ hfront hwait
  · intro i n rest s c q f hready
    have heq := State.cellVerdictNext_eq (c := c) rfl hready
    refine ⟨_, congrArg Host.Outcome.next heq, fun hoff => if_neg (by rw [hoff]; decide), fun hon => ?_⟩
    obtain ⟨hfront, hleft, hout⟩ := (s.takeReady c rest).cellVerdict_shows c i n
    obtain ⟨hcount, hraised, hfail⟩ := (s.takeReady c rest).cellVerdict_counts c i n
    rw [State.takeReady_cellRec] at hfront hcount hraised hfail
    rw [if_pos hon, hfront, hleft, hout, State.takeReady_res]
    rw [State.fld_of (State.takeReady_regs ..)] at hcount
    rw [State.takeReady_raised] at hraised hfail
    rw [State.takeReady_mode] at hfail
    exact ⟨rfl, rfl, rfl, hcount, hraised, hfail⟩
  · intro n rest s c hwhole hon hfront hready hout
    obtain ⟨t, l, heq⟩ := State.repeatVerdict_eq (c := c) rfl hwhole hon hfront hready hout
    refine ⟨_, congrArg Host.Outcome.next heq, ?_⟩
    rw [State.repeated_res, State.rd_of (State.judgedAfter_regs ..), State.rd_of (State.judgedAfter_regs ..), State.rd_wr_same,
      State.rd_wr_of_ne _ _ _ _ _ _ (by decide), State.rollMap_ringWr, State.rd_of (State.setRes_regs ..)]
    exact ⟨rfl, rfl, rfl, rfl, rfl⟩
  · intro v n a l s hen hscales
    by_cases hdue : n + 1 ≤ s.resA.lastRep + 2
    · obtain ⟨b, hb, hsteps⟩ := State.settleScale_steps hscales hdue
      refine ⟨_, execCscaleStep_settles hen fun hsame => ?_, fun _ => ⟨b, hb, hsteps⟩, fun hearly => by omega⟩
      rw [hsame, hscales] at hb
      have hhead := congrArg List.head? hb
      simp at hhead
    · have hearly : s.resA.lastRep + 2 < n + 1 := by omega
      refine ⟨_, execCscaleStep_waits hen (State.settleScale_waits hscales hearly), fun h => absurd h hdue, fun _ hmode => if_neg ?_⟩
      rw [Bool.and_eq_true, beq_iff_eq]
      exact fun hboth => hmode hboth.2

end Sys2Proof.Machine
end

section
/-!
PROOFS. What every step keeps (O48): each command's own frame, and the power-on reset, which alone turns the raw counter back.
-/
namespace Sys2Proof.Machine

/-- Every command but the power-on reset has a frame, which holds what `Kept` says and that time does not run back. -/
theorem exec_within {i : Instr} (h : i ≠ .porstAssert) (s : State) : ∃ m, WithinO m s (exec i s) := by
  cases i with
  | modeReqIdle => exact ⟨_, execModeReqIdle_within ..⟩
  | modeReqSetup => exact ⟨_, execModeReqSetup_within ..⟩
  | modeReqRelearn => exact ⟨_, execModeReqRelearn_within ..⟩
  | modeReqInspect => exact ⟨_, execModeReqInspect_within ..⟩
  | modeReqLegacy => exact ⟨_, execModeReqLegacy_within ..⟩
  | modeReqHold => exact ⟨_, execModeReqHold_within ..⟩
  | jobEndAtBoundary => exact ⟨_, execJobEndAtBoundary_within ..⟩
  | jobOpen => exact ⟨_, execJobOpen_within ..⟩
  | jobValidate => exact ⟨_, execJobValidate_within ..⟩
  | validationDone => exact ⟨_, execValidationDone_within ..⟩
  | jobLoadNext => exact ⟨_, execJobLoadNext_within ..⟩
  | loadNextDone => exact ⟨_, execLoadNextDone_within ..⟩
  | jobCancelNext => exact ⟨_, execJobCancelNext_within ..⟩
  | jobDelete => exact ⟨_, execJobDelete_within ..⟩
  | chgArm => exact ⟨_, execChgArm_within ..⟩
  | chgCancel => exact ⟨_, execChgCancel_within ..⟩
  | enteringViewStart => exact ⟨_, execEnteringViewStart_within ..⟩
  | changeoverComplete => exact ⟨_, execChangeoverComplete_within ..⟩
  | encCount => exact ⟨_, execEncCount_within ..⟩
  | ssiRead => exact ⟨_, execSsiRead_within ..⟩
  | encIndex => exact ⟨_, execEncIndex_within ..⟩
  | standstill => exact ⟨_, execStandstill_within ..⟩
  | triggerIssue => exact ⟨_, execTriggerIssue_within ..⟩
  | tgLineLoRead => exact ⟨_, execTgLineLoRead_within ..⟩
  | linePacket => exact ⟨_, execLinePacket_within ..⟩
  | statusPacket => exact ⟨_, execStatusPacket_within ..⟩
  | regResp => exact ⟨_, execRegResp_within ..⟩
  | laneLockGained => exact ⟨_, execLaneLockGained_within ..⟩
  | laneLockLost => exact ⟨_, execLaneLockLost_within ..⟩
  | alignMarker => exact ⟨_, execAlignMarker_within ..⟩
  | heartbeat => exact ⟨_, execHeartbeat_within ..⟩
  | statusTimeout => exact ⟨_, execStatusTimeout_within ..⟩
  | camAccGo => exact ⟨_, execCamAccGo_within ..⟩
  | camRegTimeout => exact ⟨_, execCamRegTimeout_within ..⟩
  | noCameraTimeout => exact ⟨_, execNoCameraTimeout_within ..⟩
  | linkBaseResend => exact ⟨_, execLinkBaseResend_within ..⟩
  | lockTimeout => exact ⟨_, execLockTimeout_within ..⟩
  | trainTimeout => exact ⟨_, execTrainTimeout_within ..⟩
  | alignTimeout => exact ⟨_, execAlignTimeout_within ..⟩
  | failedRetry => exact ⟨_, execFailedRetry_within ..⟩
  | trainingOrderedSet => exact ⟨_, execTrainingOrderedSet_within ..⟩
  | trainScanStart => exact ⟨_, execTrainScanStart_within ..⟩
  | trainScanDone => exact ⟨_, execTrainScanDone_within ..⟩
  | eqReqResend => exact ⟨_, execEqReqResend_within ..⟩
  | eyeScanDone => exact ⟨_, execEyeScanDone_within ..⟩
  | recalPeriod => exact ⟨_, execRecalPeriod_within ..⟩
  | jokerCalNow => exact ⟨_, execJokerCalNow_within ..⟩
  | jokerMatched => exact ⟨_, execJokerMatched_within ..⟩
  | jokerMatchTimeout => exact ⟨_, execJokerMatchTimeout_within ..⟩
  | mainSliceCalDone => exact ⟨_, execMainSliceCalDone_within ..⟩
  | mainSliceMatched => exact ⟨_, execMainSliceMatched_within ..⟩
  | jokerRelease => exact ⟨_, execJokerRelease_within ..⟩
  | jokerForce => exact ⟨_, execJokerForce_within ..⟩
  | tapDeadline => exact ⟨_, execTapDeadline_within ..⟩
  | ffGo => exact ⟨_, execFfGo_within ..⟩
  | ffAcquireDone => exact ⟨_, execFfAcquireDone_within ..⟩
  | dispatchGrant => exact ⟨_, execDispatchGrant_within ..⟩
  | contextLoadDone => exact ⟨_, execContextLoadDone_within ..⟩
  | ppCorrectLine => exact ⟨_, execPpCorrectLine_within ..⟩
  | stitchViewLine => exact ⟨_, execStitchViewLine_within ..⟩
  | dotGridGo => exact ⟨_, execDotGridGo_within ..⟩
  | dotGridDone => exact ⟨_, execDotGridDone_within ..⟩
  | tblDataAccess => exact ⟨_, execTblDataAccess_within ..⟩
  | regWindowDone => exact ⟨_, execRegWindowDone_within ..⟩
  | regUpdate => exact ⟨_, execRegUpdate_within ..⟩
  | fineShift => exact ⟨_, execFineShift_within ..⟩
  | masterFetch => exact ⟨_, execMasterFetch_within ..⟩
  | reduceBlockRow => exact ⟨_, execReduceBlockRow_within ..⟩
  | artPredict => exact ⟨_, execArtPredict_within ..⟩
  | artPredictDone => exact ⟨_, execArtPredictDone_within ..⟩
  | tableFit => exact ⟨_, execTableFit_within ..⟩
  | adaptFold => exact ⟨_, execAdaptFold_within ..⟩
  | ieCompareLine => exact ⟨_, execIeCompareLine_within ..⟩
  | bandEmit => exact ⟨_, execBandEmit_within ..⟩
  | mrgMergeBand => exact ⟨_, execMrgMergeBand_within ..⟩
  | cropStore => exact ⟨_, execCropStore_within ..⟩
  | recordSend => exact ⟨_, execRecordSend_within ..⟩
  | ruleEvaluate => exact ⟨_, execRuleEvaluate_within ..⟩
  | cscaleStep => exact ⟨_, execCscaleStep_within ..⟩
  | cellVerdict => exact ⟨_, execCellVerdict_within ..⟩
  | repeatVerdict => exact ⟨_, execRepeatVerdict_within ..⟩
  | decsyncEdge => exact ⟨_, execDecsyncEdge_within ..⟩
  | decSyncWrite => exact ⟨_, execDecSyncWrite_within ..⟩
  | streamRestart => exact ⟨_, execStreamRestart_within ..⟩
  | streamResetBoundary => exact ⟨_, execStreamResetBoundary_within ..⟩
  | streamOutput => exact ⟨_, execStreamOutput_within ..⟩
  | timeLoRead => exact ⟨_, execTimeLoRead_within ..⟩
  | offsetHiWrite => exact ⟨_, execOffsetHiWrite_within ..⟩
  | rateHiWrite => exact ⟨_, execRateHiWrite_within ..⟩
  | todSecHiWrite => exact ⟨_, execTodSecHiWrite_within ..⟩
  | ppsInEdge => exact ⟨_, execPpsInEdge_within ..⟩
  | ppsMissing => exact ⟨_, execPpsMissing_within ..⟩
  | holdoverExpiry => exact ⟨_, execHoldoverExpiry_within ..⟩
  | tbrefLost => exact ⟨_, execTbrefLost_within ..⟩
  | ppsOutSecond => exact ⟨_, execPpsOutSecond_within ..⟩
  | ptpSyncSend => exact ⟨_, execPtpSyncSend_within ..⟩
  | ptpAnnounceSend => exact ⟨_, execPtpAnnounceSend_within ..⟩
  | delayReqRx => exact ⟨_, execDelayReqRx_within ..⟩
  | pdelayReqRx => exact ⟨_, execPdelayReqRx_within ..⟩
  | announceRx => exact ⟨_, execAnnounceRx_within ..⟩
  | foreignTimeout => exact ⟨_, execForeignTimeout_within ..⟩
  | crlEnable => exact ⟨_, execCrlEnable_within ..⟩
  | slotFire => exact ⟨_, execSlotFire_within ..⟩
  | pulseEnd => exact ⟨_, execPulseEnd_within ..⟩
  | slotWrite => exact ⟨_, execSlotWrite_within ..⟩
  | bankCycleWrite => exact ⟨_, execBankCycleWrite_within ..⟩
  | crlSwitch => exact ⟨_, execCrlSwitch_within ..⟩
  | bankSwitchBoundary => exact ⟨_, execBankSwitchBoundary_within ..⟩
  | calInsert => exact ⟨_, execCalInsert_within ..⟩
  | calEntryFire => exact ⟨_, execCalEntryFire_within ..⟩
  | calFlush => exact ⟨_, execCalFlush_within ..⟩
  | evioEdge => exact ⟨_, execEvioEdge_within ..⟩
  | swFire => exact ⟨_, execSwFire_within ..⟩
  | channelFire => exact ⟨_, execChannelFire_within ..⟩
  | taskDeliver => exact ⟨_, execTaskDeliver_within ..⟩
  | taskPendingStart => exact ⟨_, execTaskPendingStart_within ..⟩
  | evioPulseEnd => exact ⟨_, execEvioPulseEnd_within ..⟩
  | relayEmit => exact ⟨_, execRelayEmit_within ..⟩
  | dataTaskEffect => exact ⟨_, execDataTaskEffect_within ..⟩
  | channelWrite => exact ⟨_, execChannelWrite_within ..⟩
  | groupStateWrite => exact ⟨_, execGroupStateWrite_within ..⟩
  | queueCreditRequest => exact ⟨_, execQueueCreditRequest_within ..⟩
  | queuePush => exact ⟨_, execQueuePush_within ..⟩
  | queuePop => exact ⟨_, execQueuePop_within ..⟩
  | queuePoll => exact ⟨_, execQueuePoll_within ..⟩
  | extMove => exact ⟨_, execExtMove_within ..⟩
  | bankGrant => exact ⟨_, execBankGrant_within ..⟩
  | qfApply => exact ⟨_, execQfApply_within ..⟩
  | hqCredReq => exact ⟨_, execHqCredReq_within ..⟩
  | hqPush => exact ⟨_, execHqPush_within ..⟩
  | hqPop => exact ⟨_, execHqPop_within ..⟩
  | lvlNextRead => exact ⟨_, execLvlNextRead_within ..⟩
  | dmaArm => exact ⟨_, execDmaArm_within ..⟩
  | dmaPause => exact ⟨_, execDmaPause_within ..⟩
  | dmaResume => exact ⟨_, execDmaResume_within ..⟩
  | dmaAbort => exact ⟨_, execDmaAbort_within ..⟩
  | dmaBurstGrant => exact ⟨_, execDmaBurstGrant_within ..⟩
  | dmaBurstDone => exact ⟨_, execDmaBurstDone_within ..⟩
  | dmaBurstError => exact ⟨_, execDmaBurstError_within ..⟩
  | dramAccessGrant => exact ⟨_, execDramAccessGrant_within ..⟩
  | rowIdleClose => exact ⟨_, execRowIdleClose_within ..⟩
  | refreshWindow => exact ⟨_, execRefreshWindow_within ..⟩
  | eccInit => exact ⟨_, execEccInit_within ..⟩
  | eccInitDone => exact ⟨_, execEccInitDone_within ..⟩
  | retrain => exact ⟨_, execRetrain_within ..⟩
  | retrainDone => exact ⟨_, execRetrainDone_within ..⟩
  | zipRingHeadWrite => exact ⟨_, execZipRingHeadWrite_within ..⟩
  | zipChunkGrant => exact ⟨_, execZipChunkGrant_within ..⟩
  | zipJobDone => exact ⟨_, execZipJobDone_within ..⟩
  | frameRx => exact ⟨_, execFrameRx_within ..⟩
  | arpPacket => exact ⟨_, execArpPacket_within ..⟩
  | arpRefresh => exact ⟨_, execArpRefresh_within ..⟩
  | arpRetry => exact ⟨_, execArpRetry_within ..⟩
  | icmpEcho => exact ⟨_, execIcmpEcho_within ..⟩
  | datagramFlush => exact ⟨_, execDatagramFlush_within ..⟩
  | wrpNack => exact ⟨_, execWrpNack_within ..⟩
  | statusDatagram => exact ⟨_, execStatusDatagram_within ..⟩
  | sessApply => exact ⟨_, execSessApply_within ..⟩
  | sessApplyRepeat => exact ⟨_, execSessApplyRepeat_within ..⟩
  | wcpHello => exact ⟨_, execWcpHello_within ..⟩
  | wcpRegRead => exact ⟨_, execWcpRegRead_within ..⟩
  | wcpRegWrite => exact ⟨_, execWcpRegWrite_within ..⟩
  | wcpJobCmd => exact ⟨_, execWcpJobCmd_within ..⟩
  | wcpModeCmd => exact ⟨_, execWcpModeCmd_within ..⟩
  | wcpCmdResponse => exact ⟨_, execWcpCmdResponse_within ..⟩
  | wcpBulkWrite => exact ⟨_, execWcpBulkWrite_within ..⟩
  | wcpBulkRead => exact ⟨_, execWcpBulkRead_within ..⟩
  | wcpBulkCrc => exact ⟨_, execWcpBulkCrc_within ..⟩
  | keyDataWrite => exact ⟨_, execKeyDataWrite_within ..⟩
  | keyClear => exact ⟨_, execKeyClear_within ..⟩
  | wx8StatusRequest => exact ⟨_, execWx8StatusRequest_within ..⟩
  | bar2Write => exact ⟨_, execBar2Write_within ..⟩
  | bar2Read => exact ⟨_, execBar2Read_within ..⟩
  | perst => exact ⟨_, execPerst_within ..⟩
  | pcieLinkDown => exact ⟨_, execPcieLinkDown_within ..⟩
  | hostLoadGo => exact ⟨_, execHostLoadGo_within ..⟩
  | twlGo => exact ⟨_, execTwlGo_within ..⟩
  | twlCmdDone => exact ⟨_, execTwlCmdDone_within ..⟩
  | twlRetry => exact ⟨_, execTwlRetry_within ..⟩
  | twlAbort => exact ⟨_, execTwlAbort_within ..⟩
  | twlReset => exact ⟨_, execTwlReset_within ..⟩
  | twlBusClear => exact ⟨_, execTwlBusClear_within ..⟩
  | twlTimingWrite => exact ⟨_, execTwlTimingWrite_within ..⟩
  | twlTargetXfer => exact ⟨_, execTwlTargetXfer_within ..⟩
  | sclStretchTimeout => exact ⟨_, execSclStretchTimeout_within ..⟩
  | mtwiAddress => exact ⟨_, execMtwiAddress_within ..⟩
  | mtwiRegCmd => exact ⟨_, execMtwiRegCmd_within ..⟩
  | mtwiMboxCmd => exact ⟨_, execMtwiMboxCmd_within ..⟩
  | leaseTimeout => exact ⟨_, execLeaseTimeout_within ..⟩
  | hostLeaseTimeout => exact ⟨_, execHostLeaseTimeout_within ..⟩
  | stageResetCheck => exact ⟨_, execStageResetCheck_within ..⟩
  | lockToExpiry => exact ⟨_, execLockToExpiry_within ..⟩
  | drainComplete => exact ⟨_, execDrainComplete_within ..⟩
  | faultClr => exact ⟨_, execFaultClr_within ..⟩
  | logAckWrite => exact ⟨_, execLogAckWrite_within ..⟩
  | logData0Read => exact ⟨_, execLogData0Read_within ..⟩
  | porstAssert => exact absurd rfl h
  | coldBoot => exact ⟨_, execColdBoot_within ..⟩
  | srstAssert => exact ⟨_, execSrstAssert_within ..⟩
  | warmBoot => exact ⟨_, execWarmBoot_within ..⟩
  | bootRelease => exact ⟨_, execBootRelease_within ..⟩
  | fuseProg => exact ⟨_, execFuseProg_within ..⟩
  | qspiCmd => exact ⟨_, execQspiCmd_within ..⟩
  | calCtlGo => exact ⟨_, execCalCtlGo_within ..⟩
  | periodicCal => exact ⟨_, execPeriodicCal_within ..⟩
  | calAttemptDone => exact ⟨_, execCalAttemptDone_within ..⟩
  | tempRead => exact ⟨_, execTempRead_within ..⟩
  | supplyRead => exact ⟨_, execSupplyRead_within ..⟩
  | headroomSample => exact ⟨_, execHeadroomSample_within ..⟩
  | avsPeriod => exact ⟨_, execAvsPeriod_within ..⟩
  | mbistGo => exact ⟨_, execMbistGo_within ..⟩
  | mbistDone => exact ⟨_, execMbistDone_within ..⟩
  | tapInstruction => exact ⟨_, execTapInstruction_within ..⟩
  | testLogicReset => exact ⟨_, execTestLogicReset_within ..⟩
  | commitReq => exact ⟨_, execCommitReq_within ..⟩
  | commitEffect => exact ⟨_, execCommitEffect_within ..⟩
  | lockAcquire => exact ⟨_, execLockAcquire_within ..⟩
  | lockRelease => exact ⟨_, execLockRelease_within ..⟩
  | pageSrst => exact ⟨_, execPageSrst_within ..⟩
  | pageSrstDone => exact ⟨_, execPageSrstDone_within ..⟩
  | registerWrite => exact ⟨_, execRegisterWrite_within ..⟩
  | cmtLineLoRead => exact ⟨_, execCmtLineLoRead_within ..⟩
  | manEnWrite => exact ⟨_, execManEnWrite_within ..⟩
  | pinGuardWrite => exact ⟨_, execPinGuardWrite_within ..⟩
  | ethLinkLost => exact ⟨_, execEthLinkLost_within ..⟩
  | ethLinkUp => exact ⟨_, execEthLinkUp_within ..⟩
  | pcieLinkUp => exact ⟨_, execPcieLinkUp_within ..⟩
  | twlArbLost => exact ⟨_, execTwlArbLost_within ..⟩
  | qspiCmdDone => exact ⟨_, execQspiCmdDone_within ..⟩
  | clkLockLost => exact ⟨_, execClkLockLost_within ..⟩

/-- A power-on reset keeps the record of outputs and the fuses, and leaves a DRAM without a written byte (R432, R653). -/
theorem State.powerOn_kept (s : State) : Kept s s.powerOn :=
  ⟨rfl, List.prefix_refl _, Nat.le_succ _, Nat.or_self _, fun _ => rfl⟩

theorem exec_kept {i : Instr} {s t : State} (h : exec i s = .next t) : Kept s t := by
  by_cases hi : i = .porstAssert
  · subst hi
    cases h
    exact s.powerOn_kept
  · obtain ⟨m, hm⟩ := exec_within hi s
    exact (hm.next t h).kept

/-- Time runs back in no command but the power-on reset. -/
theorem exec_raw_le {i : Instr} {s t : State} (h : exec i s = .next t) (hi : i ≠ .porstAssert) : s.raw ≤ t.raw := by
  obtain ⟨m, hm⟩ := exec_within hi s
  exact (hm.next t h).time

/-- Settles O48: an idle step moves the raw counter alone, and any other runs the front command on the state without it. -/
theorem everyStepKeepsMemoryOutputsFusesAndTime : Obligations.EveryStepKeepsMemoryOutputsFusesAndTime := by
  intro s t h
  unfold step at h
  split at h
  case h_1 hnone =>
    cases h
    exact ⟨id, List.prefix_refl _, Nat.or_self _, Nat.le_refl _, by show s.pending = _; rw [hnone]; rfl, fun _ => Nat.le_add_right ..⟩
  case h_2 c rest hfront =>
    obtain ⟨hpending, hout, hfree, hfuse, hmem⟩ := exec_kept h
    have htime := exec_raw_le h
    refine ⟨hmem, hout, hfuse, hfree, by rw [hpending, hfront]; rfl, fun hne => htime fun hc => hne ?_⟩
    rw [hfront, hc]
    rfl

end Sys2Proof.Machine
end

section
/-!
PROOFS. The timebase as the host reads, steps and steers it (O5).
-/
namespace Sys2Proof.Machine

/-! ### Device time through operations that leave the timebase alone (R432) -/

theorem State.time16_of {s t : State} (htb : t.tb = s.tb) (hraw : t.raw = s.raw) : t.time16 = s.time16 := by
  unfold State.time16
  rw [State.timeAt_of htb, hraw]

theorem State.time_of {s t : State} (htb : t.tb = s.tb) (hraw : t.raw = s.raw) : t.time = s.time := by
  unfold State.time
  rw [State.time16_of htb hraw]

theorem State.rawNs_of {s t : State} (hraw : t.raw = s.raw) : t.rawNs = s.rawNs := by
  unfold State.rawNs
  rw [hraw]

theorem State.touch_time16 (s : State) (o : Owner) (p : Nat) : (s.touch o p).time16 = s.time16 :=
  State.time16_of (s.touch_tb o p) (s.touch_raw o p)

/-! ### TIME_LO_READ (R436) -/

/-- The registers TIME, TIME_FRAC and RAW latched at one moment. -/
def State.timeLatched (s : State) : State :=
  ((s.wr64 Pg.TB Rg.TB_TIME_LO Rg.TB_TIME_HI s.time).wr Pg.TB Rg.TB_TIME_FRAC (BitVec.ofNat 32 (s.time16 % 65536))).wr64
    Pg.TB Rg.TB_RAW_LO Rg.TB_RAW_HI s.rawNs

theorem State.timeLatched_shows (s : State) :
    s.timeLatched.rd Pg.TB Rg.TB_TIME_LO = BitVec.ofNat 32 s.time ∧ s.timeLatched.rd64 Pg.TB Rg.TB_TIME_LO Rg.TB_TIME_HI = s.time % 2 ^ 64 ∧
      (s.timeLatched.rd Pg.TB Rg.TB_TIME_FRAC).toNat = s.time16 % 65536 ∧
      s.timeLatched.rd64 Pg.TB Rg.TB_RAW_LO Rg.TB_RAW_HI = s.rawNs % 2 ^ 64 := by
  unfold State.timeLatched
  refine ⟨?_, ?_, ?_, State.wr64_rd _ _ _ _ _ (by decide)⟩
  · rw [(State.wr64_same (by decide) (by decide)).rd, State.rd_wr_of_ne _ _ _ _ _ _ (by decide)]
    unfold State.wr64
    rw [State.rd_wr_of_ne _ _ _ _ _ _ (by decide), State.rd_wr_same]
  · rw [State.wr64_rd64_apart _ _ _ _ _ _ _ _ (by decide), State.rd64_wr_apart _ _ _ _ _ _ _ (by decide), State.wr64_rd _ _ _ _ _ (by decide)]
  · rw [(State.wr64_same (by decide) (by decide)).rd, State.rd_wr_same, BitVec.toNat_ofNat]
    omega

theorem State.timeLatched_kept (s : State) :
    regsKept ([Rg.TB_TIME_LO, Rg.TB_TIME_HI, Rg.TB_TIME_FRAC, Rg.TB_RAW_LO, Rg.TB_RAW_HI].map (Pg.TB * 4096 + ·)) s s.timeLatched := by
  intro a ha
  simp only [List.map_cons, List.map_nil, List.mem_cons, List.not_mem_nil, or_false, not_or] at ha
  obtain ⟨htl, hth, hfrac, hrl, hrh⟩ := ha
  exact (State.wr64_same hrl hrh).step ((State.wr_same hfrac).step (State.wr64_same htl hth))

theorem execTimeLoRead_reached {o : Owner} {s : State} (h : s.reaches o Pg.TB = true) :
    execTimeLoRead o s =
      .next ((s.touch o Pg.TB).timeLatched.emit (.readData (ownerCode o) (Pg.TB * 4096 + Rg.TB_TIME_LO) (BitVec.ofNat 32 s.time))) := by
  unfold execTimeLoRead
  rw [h, ← s.touch_time16 o Pg.TB, ← s.time_of_raw o Pg.TB, ← (State.timeLatched_shows _).1]
  rfl

theorem timeIsRead {o : Owner} {s : State} (h : s.reaches o Pg.TB = true) :
    ∃ t, exec (.timeLoRead o) s = .next t ∧
      t.out = s.out ++ [.readData (ownerCode o) (Pg.TB * 4096 + Rg.TB_TIME_LO) (BitVec.ofNat 32 s.time)] ∧
      t.rd64 Pg.TB Rg.TB_TIME_LO Rg.TB_TIME_HI = s.time % 2 ^ 64 ∧
      (t.rd Pg.TB Rg.TB_TIME_FRAC).toNat = s.time16 % 65536 ∧ t.rd64 Pg.TB Rg.TB_RAW_LO Rg.TB_RAW_HI = s.rawNs % 2 ^ 64 ∧
      regsKept ([Rg.TB_TIME_LO, Rg.TB_TIME_HI, Rg.TB_TIME_FRAC, Rg.TB_RAW_LO, Rg.TB_RAW_HI].map (Pg.TB * 4096 + ·)) s t := by
  obtain ⟨-, htime, hfrac, hraw⟩ := (s.touch o Pg.TB).timeLatched_shows
  rw [s.time_of_raw] at htime
  rw [s.touch_time16] at hfrac
  rw [State.rawNs_of (s.touch_raw o Pg.TB)] at hraw
  refine ⟨_, execTimeLoRead_reached h, ?_, htime, hfrac, hraw, fun a ha => ?_⟩
  · rw [State.emit_out]
    exact congrArg (· ++ _) (s.touch_out o Pg.TB)
  · exact RegSame.step ((s.touch o Pg.TB).timeLatched_kept a ha) (RegSame.of_regs (s.touch_regs o Pg.TB))

/-! ### The one step (R434, R435) -/

/-- A step puts OFFSET in force and shows it, moves the calendar's entries by the step, and leaves a timebase that has made its step. -/
theorem State.stepTime_shows (s : State) (offset : Nat) :
    (s.stepTime offset).tb.offset = offset ∧ (s.stepTime offset).tb.fresh = true ∧ (s.stepTime offset).tb.tod = s.tb.tod ∧
      (s.stepTime offset).on Pg.TB Fd.TB_STAT_STEPPED = true ∧
      (s.stepTime offset).fld Pg.TB Fd.TB_STAT_STATE = (if s.on Pg.TB Fd.TB_CTL_SERVO_EN then 1 else 4) ∧
      (s.stepTime offset).rd64 Pg.TB Rg.TB_OFFSET_LO Rg.TB_OFFSET_HI = offset % 2 ^ 64 ∧
      (s.stepTime offset).crl.entries = s.crl.entries.map fun e => { e with t := e.t + (offset - s.tb.offset) } := by
  unfold State.stepTime
  extract_lets d _ _ _ x y z u
  have hservo : u.on Pg.TB Fd.TB_CTL_SERVO_EN = s.on Pg.TB Fd.TB_CTL_SERVO_EN := by
    rw [State.on_setFld_p (by decide) (by decide), (State.wr64_same (by decide) (by decide)).on, (State.wr64_same (by decide) (by decide)).on]
    rfl
  rw [hservo]
  generalize hn : (if s.on Pg.TB Fd.TB_CTL_SERVO_EN then 1 else 4) = n
  have hlt : n < 8 := by rw [← hn]; split <;> decide
  have htb : (u.setTbState n).tb = x.tb := (State.setTbState_within ..).tb_eq rfl
  have hcrl : (u.setTbState n).crl = x.crl := (State.setTbState_within ..).crl_eq rfl
  refine ⟨by rw [htb], by rw [htb], by rw [htb], ?_, (State.setTbState_class u n hlt).2, ?_, by rw [hcrl]⟩
  · unfold State.on
    rw [State.setTbState_fld _ _ _ (by decide) (by decide), State.fld_setFld _ _ _ _ (by decide)]
    rfl
  · have hsame (off : Nat) (h1 : Pg.TB * 4096 + off ≠ Pg.TB * 4096 + Rg.TB_STAT) (h2 : off < 4096) :
        (u.setTbState n).rd Pg.TB off = y.rd Pg.TB off :=
      ((State.setTbState_at h1).step ((State.setFld_same h1).step
        (State.wr64_same (ne_of_page (by rw [addr_page h2]; decide) (by decide)) (ne_of_page (by rw [addr_page h2]; decide) (by decide))))).rd
    have hshown : y.rd64 Pg.TB Rg.TB_OFFSET_LO Rg.TB_OFFSET_HI = offset % 2 ^ 64 := State.wr64_rd _ _ _ _ _ (by decide)
    rw [← hshown]
    unfold State.rd64
    rw [hsame _ (by decide) (by decide), hsame _ (by decide) (by decide)]

/-- A 64-bit number written in two words. -/
theorem words_lt (hi lo : Word) : hi.toNat * 2 ^ 32 + lo.toNat < 2 ^ 64 := by
  have h1 := hi.isLt
  have h2 := lo.isLt
  omega

theorem offsetIsSteppedOnce {o : Owner} {w : Word} {s : State} (h : s.access o Pg.TB = .granted) :
    ∃ t, exec (.offsetHiWrite o w) s = .next t ∧
      (s.on Pg.TB Fd.TB_STAT_STEPPED = false →
        let ofs := w.toNat * 2 ^ 32 + (s.rd Pg.TB Rg.TB_OFFSET_LO).toNat
        t.tb.offset = ofs ∧ t.tb.fresh = true ∧ t.on Pg.TB Fd.TB_STAT_STEPPED = true ∧
        t.fld Pg.TB Fd.TB_STAT_STATE = (if s.on Pg.TB Fd.TB_CTL_SERVO_EN then 1 else 4) ∧
        t.rd64 Pg.TB Rg.TB_OFFSET_LO Rg.TB_OFFSET_HI = ofs ∧
        t.crl.entries = s.crl.entries.map fun e => { e with t := e.t + (ofs - s.tb.offset) }) ∧
      (s.on Pg.TB Fd.TB_STAT_STEPPED = true → t.tb = s.tb) := by
  refine ⟨_, congrArg Host.Outcome.next (State.guarded_granted h), fun hfirst => ?_, fun hagain => ?_⟩
  · obtain ⟨hofs, hfresh, -, hstepped, hstate, hshown, hentries⟩ :=
      (s.touch o Pg.TB).stepTime_shows (w.toNat * 2 ^ 32 + (s.rd Pg.TB Rg.TB_OFFSET_LO).toNat)
    rw [Nat.mod_eq_of_lt (words_lt w (s.rd Pg.TB Rg.TB_OFFSET_LO))] at hshown
    rw [s.touch_on] at hstate
    rw [s.touch_crl, s.touch_tb] at hentries
    unfold State.offsetHi
    rw [s.touch_on, hfirst, s.touch_rd]
    exact ⟨hofs, hfresh, hstepped, hstate, hshown, hentries⟩
  · unfold State.offsetHi
    rw [s.touch_on, hagain, if_pos rfl, (State.logMinor_within (by decide)).tb_eq rfl, s.touch_tb]

/-! ### The host's rate (R433, R440) -/

theorem State.setRate_kept (s : State) (r : Int) : regsKept [Pg.TB * 4096 + Rg.TB_RATE_LO, Pg.TB * 4096 + Rg.TB_RATE_HI] s (s.setRate r) :=
  regsKept_two fun _ h1 h2 => (State.wr64_same h1 h2).step (RegSame.of_regs rfl)

/-- The rate that a write of RATE_HI brings, from both words. -/
abbrev State.rateOf (s : State) (w : Word) : Int := sext 40 (w.toNat % 256 * 2 ^ 32 + (s.rd Pg.TB Rg.TB_RATE_LO).toNat)

theorem State.rateHi_eq {s : State} {w : Word} {r : Int} (hr : s.rateOf w = r) : s.rateHi w =
    if s.on Pg.TB Fd.TB_CTL_SERVO_EN then s.flag Pg.TB Fd.TB_STAT_RATE_REFUSED
    else if r < -rateLimit ∨ rateLimit < r then (s.flag Pg.TB Fd.TB_STAT_RATE_REFUSED).logErr Er.PTP_FORMAT Pg.TB Rg.TB_RATE_HI
    else s.setRate r := by
  subst hr
  rfl

theorem State.rateHi_taken {s : State} {w : Word} {r : Int} (hr : s.rateOf w = r) (hservo : s.on Pg.TB Fd.TB_CTL_SERVO_EN = false)
    (hlo : -rateLimit ≤ r) (hhi : r ≤ rateLimit) : s.rateHi w = s.setRate r := by
  rw [State.rateHi_eq hr, hservo]
  exact if_neg (not_or.mpr ⟨not_lt.mpr hlo, not_lt.mpr hhi⟩)

/-- A rate that the servo or the limit forbids is refused and changes nothing of the timebase. -/
theorem State.rateHi_refused {s : State} {w : Word} {r : Int} (hr : s.rateOf w = r)
    (h : s.on Pg.TB Fd.TB_CTL_SERVO_EN = true ∨ r < -rateLimit ∨ rateLimit < r) :
    (s.rateHi w).tb = s.tb ∧ (s.rateHi w).on Pg.TB Fd.TB_STAT_RATE_REFUSED = true := by
  have htb : (s.flag Pg.TB Fd.TB_STAT_RATE_REFUSED).tb = s.tb := (State.flag_within ..).tb_eq rfl
  have hon : (s.flag Pg.TB Fd.TB_STAT_RATE_REFUSED).on Pg.TB Fd.TB_STAT_RATE_REFUSED = true :=
    State.on_flag_self (by decide) (by decide) (by decide) (by decide)
  rw [State.rateHi_eq hr]
  split
  · exact ⟨htb, hon⟩
  · next hservo =>
    rw [if_pos (h.resolve_left hservo), (State.logMinor_within (by decide)).tb_eq rfl,
      (State.logMinor_same (by unfold logPage; decide) (by decide)).on]
    exact ⟨htb, hon⟩

theorem hostSetsTheRate {o : Owner} {w : Word} {s : State} {r : Int} (hr : s.rateOf w = r) (h : s.access o Pg.TB = .granted) :
    ∃ t, exec (.rateHiWrite o w) s = .next t ∧
      (s.on Pg.TB Fd.TB_CTL_SERVO_EN = false ∧ -rateLimit ≤ r ∧ r ≤ rateLimit →
        t.tb.rate = r ∧ t.time16 = s.time16 ∧ regsKept [Pg.TB * 4096 + Rg.TB_RATE_LO, Pg.TB * 4096 + Rg.TB_RATE_HI] s t) ∧
      (s.on Pg.TB Fd.TB_CTL_SERVO_EN = true ∨ r < -rateLimit ∨ rateLimit < r →
        t.tb = s.tb ∧ t.on Pg.TB Fd.TB_STAT_RATE_REFUSED = true) := by
  have hr' : (s.touch o Pg.TB).rateOf w = r := by rw [← hr, State.rateOf, s.touch_rd]
  have hon := s.touch_on o Pg.TB Pg.TB Fd.TB_CTL_SERVO_EN
  refine ⟨_, congrArg Host.Outcome.next (State.guarded_granted h), fun ⟨hservo, hlo, hhi⟩ => ?_, fun hbad => ?_⟩
  · rw [State.rateHi_taken hr' (hon.trans hservo) hlo hhi, State.setRate_time16, s.touch_time16]
    exact ⟨rfl, rfl, fun a ha => RegSame.step (State.setRate_kept _ r a ha) (RegSame.of_regs (s.touch_regs o Pg.TB))⟩
  · have hrefused := State.rateHi_refused hr' (hbad.imp_left hon.trans)
    rwa [s.touch_tb] at hrefused

/-! ### The time of day armed (R439) -/

theorem timeOfDayIsArmed {o : Owner} {w : Word} {s : State} (h : s.access o Pg.TB = .granted) :
    ∃ t, exec (.todSecHiWrite o w) s = .next t ∧
      t.tb = { s.tb with tod := some (w.toNat % 65536 * 2 ^ 32 + (s.rd Pg.TB Rg.TB_TOD_SEC_LO).toNat, s.rawNs) } ∧
      regsKept [Pg.TB * 4096 + Rg.TB_TOD_SEC_HI] s t := by
  refine ⟨_, congrArg Host.Outcome.next (State.guarded_granted h), ?_, regsKept_one fun a ha => ?_⟩
  · unfold State.todHi
    dsimp only
    rw [State.writeReg_rd_other _ _ _ _ _ _ (by decide), s.touch_rd, (State.writeReg_within ..).tb_eq rfl, s.touch_tb,
      State.rawNs_of ((State.writeReg_within ..).raw_eq rfl), State.rawNs_of (s.touch_raw o Pg.TB)]
  · exact (RegSame.of_regs rfl).step (State.touchWrite_same ha)

/-- Settles O5, each command by the lemma that says what it leaves. -/
theorem timeIsReadSteppedAndSteered : Obligations.TimeIsReadSteppedAndSteered :=
  ⟨fun _ _ h => timeIsRead h, fun _ _ _ h => offsetIsSteppedOnce h, fun _ _ _ h => hostSetsTheRate rfl h, fun _ _ _ h => timeOfDayIsArmed h⟩

end Sys2Proof.Machine
end

section
/-!
PROOFS. What HOLD and the commits that end with it leave of a register that no commit carries.
-/
namespace Sys2Proof.Machine

/-- The pages that show what HOLD stops, the entry into it, or the links of the ports that a commit may switch. -/
abbrev haltPage (p : Nat) : Prop :=
  p ∈ [Pg.SYS, Pg.CLK, Pg.SUPV0, Pg.SUPV1, Pg.VRD, Pg.DEC, Pg.STR, Pg.CRL, Pg.PINS0, Pg.PINS1] ∨ (Pg.CP 0 ≤ p ∧ p ≤ Pg.POS)

/-- A register of BAR0 that is no page header's, has no shadowed bit and lies in no such page. -/
structure StillReg (a : Nat) : Prop where
  lt : a < 2 ^ 24
  rws : rwsMask a = 0
  block : 0x40 ≤ a % 4096
  page : ¬haltPage (a / 4096)

/-- Every such register is the same in two states. -/
structure HaltSame (s t : State) : Prop where
  regs : ∀ a, StillReg a → RegSame a s t

theorem HaltSame.refl (s : State) : HaltSame s s := ⟨fun a _ => RegSame.refl a s⟩

theorem HaltSame.step {s t u : State} (h : HaltSame t u) (g : HaltSame s t) : HaltSame s u := ⟨fun a ha => (h.regs a ha).step (g.regs a ha)⟩

theorem HaltSame.foldl {α : Type} {s i : State} {f : State → α → State} {l : List α} (hi : HaltSame s i)
    (hf : ∀ t, ∀ x ∈ l, HaltSame t (f t x)) : HaltSame s (l.foldl f i) := by
  induction l generalizing i with
  | nil => exact hi
  | cons x l ih => exact ih ((hf i x List.mem_cons_self).step hi) fun t y hy => hf t y (List.mem_cons_of_mem x hy)

theorem HaltSame.of_eq {s t : State} (h : t.regs = s.regs) : HaltSame s t := ⟨fun _ _ => RegSame.of_regs h⟩

theorem HaltSame.of_within {m : Nat} {s t : State} (h : Within m s t) (h1 : m / 2 ^ 1 % 2 = 0) : HaltSame s t := HaltSame.of_eq (h.regs_eq h1)

theorem State.wr_halt (s : State) {p off : Nat} (w : Word) (h : haltPage p) (ho : off < 4096) : HaltSame s (s.wr p off w) :=
  ⟨fun _ ha => State.wr_page (fun e => ha.page (e ▸ h)) ho⟩

theorem State.setFld_halt (s : State) {p : Nat} {f : Fld} (v : Nat) (h : haltPage p) (ho : f.off < 4096) : HaltSame s (s.setFld p f v) :=
  State.wr_halt s _ h ho

theorem State.bumpBy_halt (s : State) {p : Nat} {f : Fld} (n : Nat) (h : haltPage p) (ho : f.off < 4096) : HaltSame s (s.bumpBy p f n) :=
  State.wr_halt s _ h ho

/-- A field of a page's header. -/
theorem State.header_halt (s : State) {p : Nat} {f : Fld} (v : Nat) (h : f.off < 0x40) : HaltSame s (s.setFld p f v) :=
  ⟨fun a ha => State.setFld_same fun e => by
    have hblock := ha.block
    rw [e] at hblock
    omega⟩

theorem haltPage_cp {p : Nat} (h : p ≤ 16) : haltPage (Pg.CP p) := by
  refine .inr ?_
  unfold Pg.CP Pg.POS
  omega

/-! ### Links that a commit switches (R201) -/

theorem State.lanes_le (s : State) (p : Nat) : s.lanes p ≤ 8 := by
  rw [State.lanes_eq]
  have h : s.fld (Pg.CP p) Fd.CP_PORT_CTL_LANES < 4 := State.fld_lt ..
  exact Nat.le_trans (Nat.pow_le_pow_right (by decide) (show _ ≤ 3 by omega)) (by decide)

theorem State.dropLocks_halt (s : State) {p : Nat} (h : p < 16) : HaltSame s (s.dropLocks p) := by
  have hclk : haltPage Pg.CLK := by decide
  refine HaltSame.foldl ((State.wr_halt _ _ hclk (show 0x050 + 4 * p < 4096 by omega)).step
    (State.setFld_halt s _ hclk (show 0x040 < 4096 by decide))) fun t m hm => ?_
  have hlanes := (s.clkStop p).lanes_le p
  have hlt := List.mem_range.mp hm
  exact State.setFld_halt t _ (haltPage_cp (by omega)) (show 0x050 + 0x4 * (m % 4) < 4096 by omega)

theorem State.disablePort_halt (s : State) {p : Nat} (h : p < 16) : HaltSame s (s.disablePort p) := by
  have hcp := haltPage_cp (p := p) (by omega)
  exact (State.setFld_halt _ _ hcp (by decide)).step ((State.setFld_halt _ _ hcp (by decide)).step ((State.setFld_halt _ _ hcp (by decide)).step
    (State.dropLocks_halt s h)))

theorem State.enterBase_halt (s : State) {p : Nat} (h : p < 16) : HaltSame s (s.enterBase p) :=
  ⟨fun _ ha => State.enterBase_same (ne_of_page (fun e => ha.page (e ▸ haltPage_cp (by omega))) (by decide))⟩

theorem State.portChanged_halt (s : State) {p : Nat} (h : p < 16) : HaltSame s (s.portChanged p) := by
  have hcut : HaltSame s (s.cutPort p) := HaltSame.of_within (State.cutPort_within ..) rfl
  unfold State.portChanged
  dsimp only
  split
  · exact (State.enterBase_halt _ h).step hcut
  · refine HaltSame.step ?_ hcut
    unfold State.portSync
    split
    · split
      · exact HaltSame.refl _
      · exact State.disablePort_halt _ h
    · split
      · exact State.enterBase_halt _ h
      · exact HaltSame.refl _

/-! ### Commits that take effect (R666, R668) -/

theorem State.regHook_halt (s : State) (a : Nat) (old new : Word) : HaltSame s (s.regHook a old new) := by
  unfold State.regHook
  dsimp only
  split
  · refine HaltSame.foldl (HaltSame.refl s) fun t v _ => ⟨fun b hb => tabGet_tabPut_of_ne _ _ _ ?_⟩
    have hlt := hb.lt
    unfold viewKey
    omega
  split
  · exact HaltSame.refl s
  split
  · next hcp => exact State.portChanged_halt s (by have := hcp.2.1; unfold Pg.CP at this ⊢; omega)
  split
  · next hpos =>
    refine HaltSame.foldl (HaltSame.refl s) fun t c hc => ?_
    split
    · exact HaltSame.of_eq rfl
    split
    · rw [hpos]
      exact State.wr_halt t _ (by decide) (by have := List.mem_range.mp hc; show 0x050 + 0x20 * c < 4096; omega)
    · exact HaltSame.refl t
  · exact HaltSame.refl s

theorem mergeRws_unshadowed {a : Nat} (h : rwsMask a = 0) (old new : Word) : mergeRws a old new = old := by
  unfold mergeRws
  rw [h]
  dsimp only
  rw [BitVec.not_zero, BitVec.and_allOnes, BitVec.and_zero, BitVec.or_zero]

theorem State.putRegs_halt (s : State) (l : List (Nat × Word)) : HaltSame s (s.putRegs l) := by
  refine HaltSame.foldl (HaltSame.refl s) fun t e _ => ?_
  dsimp only
  split
  · exact HaltSame.of_eq rfl
  · refine (State.regHook_halt ..).step ⟨fun a ha => ?_⟩
    unfold RegSame
    rw [tabGet_tabPut]
    split
    · next he => rw [← he, if_pos ha.lt, mergeRws_unshadowed ha.rws]
    · rfl

theorem State.setPend_halt (s : State) (p : Nat) (x : Option Pend) : HaltSame s (s.setPend p x) :=
  (State.header_halt _ _ (by decide)).step ((State.header_halt _ _ (by decide)).step (HaltSame.of_eq rfl))

theorem State.commitDone_halt (s : State) (p : Nat) (c : Pend) : HaltSame s (s.commitDone p c) := by
  unfold State.commitDone
  dsimp only
  exact HaltSame.foldl ((State.header_halt _ _ (by decide)).step ((State.setPend_halt ..).step
    (HaltSame.foldl (HaltSame.refl s) fun t _ _ => State.putRegs_halt t _))) fun t _ _ => HaltSame.of_eq rfl

theorem State.applyParts_halt (s : State) (p : Nat) (due : Bound → Bool) (line : Option Nat) : HaltSame s (s.applyParts p due line) := by
  unfold State.applyParts
  split
  · exact HaltSame.refl s
  · dsimp only
    split
    · exact HaltSame.refl s
    · have hparts (l : List Part) : HaltSame s (l.foldl (fun s x => s.putRegs x.regs) s) :=
        HaltSame.foldl (HaltSame.refl s) fun t _ _ => State.putRegs_halt t _
      split
      · exact (State.commitDone_halt ..).step (hparts _)
      · exact (State.setPend_halt ..).step (hparts _)

theorem State.viewStopped_halt (s : State) (v : Nat) (l : List Nat) : HaltSame s (s.viewStopped v l) :=
  HaltSame.foldl (HaltSame.refl s) fun t _ _ => State.applyParts_halt t ..

/-! ### Generators, streams and blocks that stop (R69) -/

theorem State.stopAt_halt (s : State) {v : Nat} (hv : v < 4) (c : Nat) (l : List Nat) : HaltSame s (s.stopAt v c l) := by
  unfold State.stopAt
  extract_lets g x y
  have hy : HaltSame s y := by
    unfold y
    split
    · exact HaltSame.of_eq rfl
    · exact (State.setFld_halt _ _ (.inr (by decide)) (show 128 + 16 * v < 4096 by omega)).step (HaltSame.of_eq (s := s) (t := x) rfl)
  split
  · exact (State.viewStopped_halt ..).step hy
  · exact hy

theorem State.takeStream_halt (s : State) {n : Nat} (hn : n < 7) (line : Option Nat) : HaltSame s (s.takeStream n line) := by
  unfold State.takeStream
  extract_lets was x _ y
  have hy : HaltSame s y := (HaltSame.of_within (State.putStr_within ..) rfl).step (State.applyParts_halt s _ _ line)
  split
  · exact (State.wr_halt _ _ (by decide) (show 84 + 12 * n < 4096 by omega)).step hy
  · exact hy

theorem State.stopGrids_halt (s : State) {n : Nat} (hn : n < 7) : HaltSame s (s.stopGrids n) := by
  unfold State.stopGrids
  refine (State.setFld_halt _ _ (by decide) (show 88 + 12 * n < 4096 by omega)).step
    ((HaltSame.of_within (State.putStr_within ..) rfl).step (HaltSame.foldl (HaltSame.refl s) fun t x _ => ?_))
  unfold State.discardPartial
  split
  · exact State.bumpBy_halt t _ (by decide) (by decide)
  · exact HaltSame.refl t

theorem State.stopStreams_halt (s : State) (v : Nat) : HaltSame s (s.stopStreams v) := by
  unfold State.stopStreams
  dsimp only
  refine HaltSame.foldl (HaltSame.foldl (HaltSame.refl s) fun t n hn => ?_) fun t n hn => State.stopGrids_halt t (State.strsOf_lt hn)
  split
  · split
    · exact State.takeStream_halt t (List.mem_range.mp hn) none
    · exact HaltSame.refl t
  · exact HaltSame.refl t

theorem State.stopBlocks_halt (s : State) : HaltSame s s.stopBlocks := by
  unfold State.stopBlocks
  extract_lets x
  have hx : HaltSame s x := HaltSame.foldl (HaltSame.refl s) fun t v _ =>
    HaltSame.step (t := t.stopStreams v) (HaltSame.of_eq rfl) (State.stopStreams_halt t v)
  clear_value x
  exact HaltSame.step (HaltSame.of_eq (s := x) rfl) hx

theorem State.enter_halt (s : State) (m : Mode) : HaltSame s (s.enter m) := by
  have h {t : State} {p : Nat} {off : Nat} {w : Word} (hp : haltPage p) (ho : off < 4096) : HaltSame t (t.wr p off w) := State.wr_halt t w hp ho
  have hmode : HaltSame s ((s.setFld Pg.SYS Fd.SYS_MODE_PREV_MODE s.mode.code).setFld Pg.SYS Fd.SYS_MODE_MODE m.code) :=
    (State.setFld_halt _ _ (by decide) (by decide)).step (State.setFld_halt s _ (by decide) (by decide))
  unfold State.enter
  refine (HaltSame.of_within (State.raiseNow_within ..) rfl).step ?_
  split
  · exact (h (by decide) (by decide)).step ((h (by decide) (by decide)).step hmode)
  · exact hmode

theorem State.faultN_halt (s : State) {f g : Fld} (hg : g.off < 4096) : HaltSame s (s.faultN f g) := by
  unfold State.faultN
  split
  · exact (State.setFld_halt _ _ (by decide) hg).step (State.setFld_halt s _ (by decide) (by decide))
  · exact HaltSame.refl s

theorem State.safePins_halt (s : State) : HaltSame s s.safePins :=
  (State.setFld_halt _ _ (by decide) (by decide)).step ((State.setFld_halt _ _ (by decide) (by decide)).step (HaltSame.of_eq rfl))

theorem State.cancelCalendar_halt (s : State) : HaltSame s s.cancelCalendar :=
  (State.setFld_halt _ _ (by decide) (by decide)).step ((State.bumpBy_halt _ _ (by decide) (by decide)).step (HaltSame.of_eq rfl))

theorem State.cancelActs_halt (s : State) : HaltSame s s.cancelActs :=
  (State.setFld_halt _ _ (by decide) (by decide)).step ((State.bumpBy_halt _ _ (by decide) (by decide)).step (HaltSame.of_eq rfl))

/-- HOLD, with every commit that it ends, leaves such a register. -/
theorem State.enterHold_halt (s : State) (entry : Nat) : HaltSame s (s.enterHold entry) := by
  unfold State.enterHold
  split
  · exact HaltSame.refl s
  · extract_lets x y z u v w
    have hy : HaltSame s y := (State.setFld_halt _ _ (by decide) (by decide)).step
      ((State.setFld_halt _ _ (by decide) (by decide)).step (State.setFld_halt s _ (by decide) (by decide)))
    have hz : HaltSame s z := by
      unfold z
      split
      · exact (State.faultN_halt _ (by decide)).step hy
      · exact hy
    have hu : HaltSame s u := (State.cancelActs_halt _).step ((State.setFld_halt _ _ (by decide) (by decide)).step
      ((State.cancelCalendar_halt _).step ((State.safePins_halt _).step hz)))
    have hv : HaltSame s v := HaltSame.foldl hu fun t n hn => State.stopAt_halt t (List.mem_range.mp hn) ..
    exact (State.setFld_halt _ _ (by decide) (by decide)).step ((HaltSame.of_within (State.raiseNow_within ..) rfl).step
      ((State.enter_halt _ _).step ((State.stopBlocks_halt _).step hv)))

/-- A fault of class FATAL leaves such a register, if it is none of the log's own. -/
theorem State.logFatal_still {s : State} {c : ErrCode} {page arg0 arg1 : Nat} {line : Option (Nat × Nat)} {a : Nat} (ha : StillReg a)
    (hlog : ¬logPage a) (hc : c.cls = 3) : RegSame a s (s.logErr c page arg0 arg1 line) := by
  have hm : (s.countClass 3).merges c page arg0 = false := by
    unfold State.merges
    rw [hc]
    simp
  unfold State.logErr
  rw [hc]
  dsimp only
  rw [if_neg (by rw [hm]; decide)]
  refine ((State.enterHold_halt _ _).regs a ha).step ((State.faultN_same hlog (by decide)).step ((State.putEntry_same hlog).step ?_))
  split
  · exact (State.putEntry_same hlog).step ((State.countClass_same hlog).step (State.countClass_same hlog))
  · exact State.countClass_same hlog

end Sys2Proof.Machine
end

section
/-!
PROOFS. PPS edges and the losses of the timebase (O6).
-/
namespace Sys2Proof.Machine

/-! ### Edges of PPS_IN (R438-R440) -/

/-- An edge noted: its time, the length of its series, and its event. -/
def State.edgeNoted (s : State) : State := State.raiseNow { s with tb := { s.tb with lastEdge := some s.rawNs, series := s.ppsSeries } } evPpsIn

theorem State.edgeNoted_tb (s : State) : s.edgeNoted.tb = { s.tb with lastEdge := some s.rawNs, series := s.ppsSeries } := State.raiseNow_tb ..

theorem State.edgeNoted_regs (s : State) : s.edgeNoted.regs = s.regs := State.raiseNow_regs ..

/-- A valid edge: near a whole second, or the fourth of a series. -/
abbrev State.edgeValid (s : State) : Prop :=
  (phaseError s.time16).natAbs ≤ s.fld Pg.TB Fd.TB_SERVO_CTL_PPS_WIN * 1000 * 65536 ∨ 4 ≤ s.ppsSeries

theorem State.ppsEdge_valid {s : State} (h : s.edgeValid) : s.ppsEdge = s.edgeNoted.ppsGood s.time16 := State.ppsEdge_good h

theorem State.ppsEdge_invalid {s : State} (h : ¬s.edgeValid) :
    s.ppsEdge = ({ s.edgeNoted with tb := { s.edgeNoted.tb with bad := s.edgeNoted.tb.bad + 1 } }).flag Pg.TB Fd.TB_STAT_PPS_BAD := if_neg h

/-- The servo's rule of R440: the integral term and the rate after an edge whose phase error is the rate `g`. -/
def Timebase.Servoed (old new : Timebase) (g : Int) (kp ki : Nat) : Prop :=
  new.fresh = false ∧ new.f = clampI (-rateLimit) rateLimit (if old.fresh then -g else old.f - shrI g ki) ∧
    new.rate = (if old.fresh then new.f else clampI (-rateLimit) rateLimit (new.f - shrI g kp))

theorem State.servo_servoed (s : State) (e : Int) : (s.servo e).tb.lastEdge = s.tb.lastEdge ∧
    s.tb.Servoed (s.servo e).tb (servoErr e) (s.fld Pg.TB Fd.TB_SERVO_CTL_KP_SHIFT) (s.fld Pg.TB Fd.TB_SERVO_CTL_KI_SHIFT) :=
  State.servo_tb s e _ rfl

/-- A good edge after the step, with the servo on and no time of day armed, is the servo's. -/
theorem State.ppsGood_servo {s : State} {d : Nat} (hservo : s.on Pg.TB Fd.TB_CTL_SERVO_EN = true) (hstepped : s.on Pg.TB Fd.TB_STAT_STEPPED = true)
    (htod : s.tb.tod = none) :
    (s.ppsGood d).tb.lastEdge = s.tb.lastEdge ∧
      s.tb.Servoed (s.ppsGood d).tb (servoErr (phaseError d)) (s.fld Pg.TB Fd.TB_SERVO_CTL_KP_SHIFT) (s.fld Pg.TB Fd.TB_SERVO_CTL_KI_SHIFT) := by
  have harmed : s.todAtEdge d = s := by
    unfold State.todAtEdge
    rw [htod]
  unfold State.ppsGood
  rw [harmed]
  dsimp only
  rw [if_pos ⟨hstepped, hservo⟩]
  generalize hw : BitVec.ofInt 32 _ = w
  obtain ⟨k, hk⟩ := ((s.wr Pg.TB Rg.TB_PPS_ERR w).servo (phaseError d)).lockState_tb (phaseError d)
  obtain ⟨hlast, hservoed⟩ := (s.wr Pg.TB Rg.TB_PPS_ERR w).servo_servoed (phaseError d)
  rw [State.fld_wr_of_ne _ _ _ _ _ _ (by decide), State.fld_wr_of_ne _ _ _ _ _ _ (by decide)] at hservoed
  rw [hk]
  exact ⟨hlast, hservoed⟩

theorem State.ppsEdge_servo {s : State} (hservo : s.on Pg.TB Fd.TB_CTL_SERVO_EN = true) (hstepped : s.on Pg.TB Fd.TB_STAT_STEPPED = true)
    (htod : s.tb.tod = none) (h : s.edgeValid) :
    s.ppsEdge.tb.lastEdge = some s.rawNs ∧ s.tb.Servoed s.ppsEdge.tb (servoErr (phaseError s.time16))
      (s.fld Pg.TB Fd.TB_SERVO_CTL_KP_SHIFT) (s.fld Pg.TB Fd.TB_SERVO_CTL_KI_SHIFT) := by
  have hregs := s.edgeNoted_regs
  obtain ⟨hlast, hservoed⟩ := State.ppsGood_servo (s := s.edgeNoted) (d := s.time16) ((State.on_of hregs ..).trans hservo)
    ((State.on_of hregs ..).trans hstepped) (by rw [s.edgeNoted_tb]; exact htod)
  rw [s.edgeNoted_tb] at hlast hservoed
  rw [State.fld_of hregs, State.fld_of hregs] at hservoed
  rw [State.ppsEdge_valid h]
  exact ⟨hlast, hservoed⟩

/-- An edge that is not valid is counted and flagged, and leaves the rate. -/
theorem State.ppsEdge_ignored {s : State} (h : ¬s.edgeValid) : s.ppsEdge.tb.lastEdge = some s.rawNs ∧ s.ppsEdge.tb.rate = s.tb.rate ∧
    s.ppsEdge.tb.bad = s.tb.bad + 1 ∧ s.ppsEdge.on Pg.TB Fd.TB_STAT_PPS_BAD = true := by
  rw [State.ppsEdge_invalid h]
  refine ⟨?_, ?_, ?_, State.on_flag_self (by decide) (by decide) (by decide) (by decide)⟩ <;> rw [State.flag_tb, s.edgeNoted_tb]

theorem edgesSteerTheRate {s : State} (hservo : s.on Pg.TB Fd.TB_CTL_SERVO_EN = true) (hstepped : s.on Pg.TB Fd.TB_STAT_STEPPED = true)
    (htod : s.tb.tod = none) :
    let g := servoErr (phaseError s.time16)
    s.ppsEdge.tb.lastEdge = some s.rawNs ∧
      (s.edgeValid → s.tb.Servoed s.ppsEdge.tb g (s.fld Pg.TB Fd.TB_SERVO_CTL_KP_SHIFT) (s.fld Pg.TB Fd.TB_SERVO_CTL_KI_SHIFT)) ∧
      (s.fld Pg.TB Fd.TB_SERVO_CTL_PPS_WIN * 1000 * 65536 < (phaseError s.time16).natAbs ∧ s.ppsSeries < 4 →
        s.ppsEdge.tb.rate = s.tb.rate ∧ s.ppsEdge.tb.bad = s.tb.bad + 1 ∧ s.ppsEdge.on Pg.TB Fd.TB_STAT_PPS_BAD = true) := by
  intro g
  refine ⟨?_, fun h => (State.ppsEdge_servo hservo hstepped htod h).2, fun ⟨hfar, hshort⟩ => ?_⟩
  · by_cases h : s.edgeValid
    · exact (State.ppsEdge_servo hservo hstepped htod h).1
    · exact (State.ppsEdge_ignored h).1
  · exact (State.ppsEdge_ignored (not_or.mpr ⟨not_le.mpr hfar, not_le.mpr hshort⟩)).2

/-! ### The step at an edge (R439) -/

/-- The time of day taken. -/
def State.todTaken (s : State) : State := { s with tb := { s.tb with tod := none } }

/-- The time of day that is due before the step, under the servo, makes the step. -/
theorem State.todAtEdge_steps {s : State} {d v armed : Nat} (hservo : s.on Pg.TB Fd.TB_CTL_SERVO_EN = true)
    (hstepped : s.on Pg.TB Fd.TB_STAT_STEPPED = false) (htod : s.tb.tod = some (v, armed)) (hdue : armed + 10000000 ≤ s.rawNs)
    (hahead : (d + 2 ^ 15) / 2 ^ 16 ≤ v * 10 ^ 9) : s.todAtEdge d = s.todTaken.stepTime (v * 10 ^ 9 - (d + 2 ^ 15) / 2 ^ 16) := by
  have hofs : ((v : Int) * 10 ^ 9 - (d + 2 ^ 15) / 2 ^ 16).toNat = v * 10 ^ 9 - (d + 2 ^ 15) / 2 ^ 16 := by omega
  have hunstepped : ¬s.on Pg.TB Fd.TB_STAT_STEPPED = true := by rw [hstepped]; decide
  unfold State.todAtEdge
  rw [htod]
  refine (if_neg (by omega)).trans ((if_neg hunstepped).trans ((if_pos hservo).trans ((if_neg (by omega)).trans ?_)))
  rw [hofs]
  rfl

theorem edgeMakesTheStep {s : State} {v armed : Nat} (hservo : s.on Pg.TB Fd.TB_CTL_SERVO_EN = true)
    (hstepped : s.on Pg.TB Fd.TB_STAT_STEPPED = false) (htod : s.tb.tod = some (v, armed)) (hdue : armed + 10000000 ≤ s.rawNs)
    (hvalid : s.edgeValid) (hahead : (s.time16 + 2 ^ 15) / 2 ^ 16 ≤ v * 10 ^ 9) :
    s.ppsEdge.tb.offset = v * 10 ^ 9 - (s.time16 + 2 ^ 15) / 2 ^ 16 ∧ s.ppsEdge.tb.tod = none ∧
      s.ppsEdge.on Pg.TB Fd.TB_STAT_STEPPED = true ∧ s.ppsEdge.fld Pg.TB Fd.TB_STAT_STATE = 1 := by
  have hon (f : Fld) : s.edgeNoted.on Pg.TB f = s.on Pg.TB f := State.on_of s.edgeNoted_regs ..
  have hraw : s.edgeNoted.rawNs = s.rawNs := State.rawNs_of (State.raiseNow_raw ..)
  have hstep := State.todAtEdge_steps (s := s.edgeNoted) (d := s.time16) ((hon _).trans hservo) ((hon _).trans hstepped)
    (by rw [s.edgeNoted_tb]; exact htod) (by rwa [hraw]) hahead
  rw [State.ppsEdge_valid hvalid]
  unfold State.ppsGood
  dsimp only
  rw [if_neg (by rw [hon, hstepped]; simp), hstep]
  obtain ⟨hofs, -, htod', hon', hstate, -⟩ := State.stepTime_shows s.edgeNoted.todTaken
    (v * 10 ^ 9 - (s.time16 + 2 ^ 15) / 2 ^ 16)
  rw [if_pos (show s.edgeNoted.todTaken.on Pg.TB Fd.TB_CTL_SERVO_EN = true from (hon _).trans hservo)] at hstate
  exact ⟨hofs, htod', hon', hstate⟩

/-! ### Losses (R437, R441) -/

theorem State.setTbState_tb (s : State) (n : Nat) : (s.setTbState n).tb = s.tb := (State.setTbState_within ..).tb_eq rfl

theorem State.setTbState_time16 (s : State) (n : Nat) : (s.setTbState n).time16 = s.time16 :=
  State.time16_of (s.setTbState_tb n) ((State.setTbState_within ..).raw_eq rfl)

theorem State.setRate_fld (s : State) (r : Int) {f : Fld} (h1 : f.off ≠ Rg.TB_RATE_LO) (h2 : f.off ≠ Rg.TB_RATE_HI) :
    (s.setRate r).fld Pg.TB f = s.fld Pg.TB f := RegSame.fld (State.setRate_kept s r _ (by simp [h1, h2]))

theorem missingEdgesLeadToHoldover (t0 : Nat) (s : State) :
    ∃ t, exec (.ppsMissing t0) s = .next t ∧
      (s.fld Pg.TB Fd.TB_STAT_STATE = 2 → t.fld Pg.TB Fd.TB_STAT_STATE = 3 ∧ t.fld Pg.TB Fd.TB_STAT_CLOCK_CLASS = 7 ∧
        t.tb.rate = s.tb.f ∧ t.time16 = (s.atNs t0).time16) ∧
      (s.fld Pg.TB Fd.TB_STAT_STATE = 1 → t.fld Pg.TB Fd.TB_STAT_STATE = 1 ∧ t.tb.rate = s.tb.f ∧ t.time16 = (s.atNs t0).time16) ∧
      (s.fld Pg.TB Fd.TB_STAT_STATE ≠ 1 ∧ s.fld Pg.TB Fd.TB_STAT_STATE ≠ 2 → t = s.atNs t0) := by
  show ∃ t, execPpsMissing t0 s = .next t ∧ _
  unfold execPpsMissing
  dsimp only
  rw [State.atNs_fld]
  by_cases h2 : s.fld Pg.TB Fd.TB_STAT_STATE = 2
  · rw [if_pos h2]
    obtain ⟨hclass, hstate⟩ := ((s.atNs t0).setRate (s.atNs t0).tb.f).setTbState_class 3 (by decide)
    refine ⟨_, rfl, fun _ => ⟨hstate, hclass, ?_, ?_⟩, fun h1 => ?_, fun h => absurd h2 h.2⟩
    · rw [State.setTbState_tb]
      rfl
    · rw [State.setTbState_time16, State.setRate_time16]
    · omega
  · rw [if_neg h2]
    by_cases h1 : s.fld Pg.TB Fd.TB_STAT_STATE = 1
    · rw [if_pos h1]
      refine ⟨_, rfl, fun h => absurd h h2, fun _ => ⟨?_, rfl, State.setRate_time16 ..⟩, fun h => absurd h1 h.1⟩
      rw [State.setRate_fld _ _ (by decide) (by decide)]
      exact h1
    · rw [if_neg h1]
      exact ⟨_, rfl, fun h => absurd h h2, fun h => absurd h h1, fun _ => rfl⟩

theorem expiredHoldoverIsFree (s : State) : ∃ t, exec .holdoverExpiry s = .next t ∧
    (s.fld Pg.TB Fd.TB_STAT_STATE = 3 → t.fld Pg.TB Fd.TB_STAT_STATE = 4 ∧ t.fld Pg.TB Fd.TB_STAT_CLOCK_CLASS = 248) ∧
    (s.fld Pg.TB Fd.TB_STAT_STATE ≠ 3 → t = s) := by
  obtain ⟨hclass, hstate⟩ := s.setTbState_class 4 (by decide)
  refine ⟨_, rfl, fun h => ?_, fun h => if_neg h⟩
  rw [if_pos h]
  exact ⟨hstate, hclass⟩

theorem stillReg_tbStat : StillReg (Pg.TB * 4096 + Rg.TB_STAT) := ⟨by decide, by decide, by decide, by decide⟩

/-- The lost reference is a FATAL fault, whose HOLD leaves TB.STAT. -/
theorem lostReferenceLeadsToHold {s : State} (h : s.mode ≠ .boot) :
    ∃ t, exec .tbrefLost s = .next t ∧ t.on Pg.TB Fd.TB_STAT_REF_LOCK = false ∧ t.mode = .hold := by
  refine ⟨_, rfl, ?_, State.logFatal_mode _ _ _ _ _ _ rfl ?_⟩
  · rw [RegSame.on (State.logFatal_still stillReg_tbStat (by unfold logPage; decide) rfl), State.on_setFld _ _ _ _ (by decide)]
    rfl
  · rwa [State.mode_setFld_page _ _ _ _ (by decide)]

/-- Settles O6: an edge by whether it is valid and what it finds armed, a loss by the state of the timebase. -/
theorem ppsSteersAndLossesChangeTheState : Obligations.PpsSteersAndLossesChangeTheState := by
  refine ⟨?_, ?_, missingEdgesLeadToHoldover, expiredHoldoverIsFree, fun _ => lostReferenceLeadsToHold, ?_⟩
  · rintro t0 s x rfl hservo hstepped htod g
    exact ⟨_, rfl, edgesSteerTheRate (s := s.atNs t0) hservo hstepped htod⟩
  · rintro t0 v armed s x rfl hservo hstepped htod hdue hvalid hahead
    exact ⟨_, rfl, edgeMakesTheStep (s := s.atNs t0) hservo hstepped htod hdue hvalid hahead⟩
  · intro t0 s hon
    exact congrArg Host.Outcome.next (if_pos hon)

end Sys2Proof.Machine
end

section
/-!
PROOFS. The PTP messages of a port that sends, its answers and its foreign masters (O7).
-/
namespace Sys2Proof.Machine

/-! ### Sync, Follow_Up and Announce (R442, R443, R445) -/

theorem execPtpSyncSend_sends {n : Fin 2} {t0 : Nat} {s : State} (h : s.ptpOn n = true) : execPtpSyncSend n t0 s = .next (
    if s.on Pg.TB (portFld n Fd.TB_PORT0_CTL_TWO_STEP) then ((s.atNs t0).ptpSend n ptpSync [0, 0]).ptpSend n ptpFollowUp (s.atNs t0).stamp16
    else (s.atNs t0).ptpSend n ptpSync (s.atNs t0).stamp16) := by
  unfold execPtpSyncSend
  dsimp only
  rw [State.atNs_ptpOn, h, State.atNs_on]
  rfl

theorem syncIsSent {n : Fin 2} {t0 : Nat} {s : State} (h : s.ptpOn n = true) :
    let q (type : Nat) : Nat := tabGet (dflt 0) s.tb.seq (16 * n + type)
    ∃ t, exec (.ptpSyncSend n t0) s = .next t ∧
      t.out = s.out ++ (if s.on Pg.TB (portFld n Fd.TB_PORT0_CTL_TWO_STEP)
        then [.ptp n ptpSync (q ptpSync) [0, 0], .ptp n ptpFollowUp (q ptpFollowUp) (s.atNs t0).stamp16]
        else [.ptp n ptpSync (q ptpSync) (s.atNs t0).stamp16]) ∧
      tabGet (dflt 0) t.tb.seq (16 * n + ptpSync) = (q ptpSync + 1) % 65536 := by
  intro q
  refine ⟨_, execPtpSyncSend_sends h, ?_⟩
  split
  · have hother : 16 * n.val + ptpFollowUp ≠ 16 * n.val + ptpSync := fun e => absurd (Nat.add_left_cancel e) (by decide)
    refine ⟨?_, ?_⟩
    · rw [State.ptpSend_out, State.ptpSend_seq _ _ _ _ _ _ hother, State.ptpSend_out, List.append_assoc]
      rfl
    · rw [State.ptpSend_seq _ _ _ _ _ _ hother.symm, State.ptpSend_seq_same]
      rfl
  · exact ⟨State.ptpSend_out .., State.ptpSend_seq_same ..⟩

theorem announceIsSent {n : Fin 2} {t0 : Nat} {s : State} (h : s.ptpOn n = true) :
    ∃ t, exec (.ptpAnnounceSend n t0) s = .next t ∧
      t.out = s.out ++ [.ptp n ptpAnnounce (tabGet (dflt 0) s.tb.seq (16 * n + ptpAnnounce)) (s.dataset ++ s.announceRest)] := by
  refine ⟨_, congrArg Host.Outcome.next (if_pos ((State.atNs_ptpOn s t0 n).trans h)), ?_⟩
  rw [State.ptpSend_out, State.atNs_dataset, State.atNs_announceRest]
  rfl

/-! ### Answers to delay requests (R443) -/

/-- The answers of a port in a second have reached their limit. -/
abbrev State.ptpFull (s : State) (n : Nat) : Prop :=
  (tabGet (dflt (0, 0)) s.tb.answered n).1 = s.rawNs / 10 ^ 9 ∧ 8192 ≤ (tabGet (dflt (0, 0)) s.tb.answered n).2

theorem State.ptpSlot_full {s : State} {n : Nat} (h : s.ptpFull n) : s.ptpSlot n = (s.bump Pg.TB Fd.TB_PTP_CNT_b16, false) := by
  unfold State.ptpSlot
  dsimp only
  rw [if_pos h.1, if_neg (not_lt.mpr h.2)]

theorem State.ptpSlot_free {s : State} {n : Nat} (h : ¬s.ptpFull n) : (s.ptpSlot n).2 = true := by
  unfold State.ptpSlot
  dsimp only
  rw [if_pos]
  split
  · next hsec => exact not_le.mp fun hle => h ⟨hsec, hle⟩
  · decide

/-- The fields of an answer: the receive time, the requester and the request's correction. -/
abbrev State.ptpAnswer (s : State) (requester corr : Nat) : List Nat := s.stamp16 ++ [requester, corr]

section
variable {n : Fin 2} {domain seq requester corr t0 : Nat} {s : State} (hon : s.ptpOn n = true) (hdom : s.fld Pg.TB Fd.TB_PTP_CTL_DOMAIN = domain)
include hon hdom

/-- A port that sends takes the requests in the domain, of the kind that its PEER names. -/
theorem State.atNs_takes {b : Bool} (h : b = true) :
    ((s.atNs t0).ptpOn n && b && (s.atNs t0).fld Pg.TB Fd.TB_PTP_CTL_DOMAIN == domain) = true := by
  rw [State.atNs_ptpOn, hon, State.atNs_fld, hdom, h, beq_self_eq_true]
  rfl

theorem execDelayReqRx_free (hpeer : s.on Pg.TB (portFld n Fd.TB_PORT0_CTL_PEER) = false) (h : ¬(s.atNs t0).ptpFull n) :
    execDelayReqRx n domain seq requester corr t0 s =
      .next (((s.atNs t0).ptpSlot n).1.ptpOut n ptpDelayResp seq (((s.atNs t0).ptpSlot n).1.ptpAnswer requester corr)) := by
  unfold execDelayReqRx
  dsimp only
  rw [if_pos (State.atNs_takes hon hdom (by rw [State.atNs_on, hpeer]; rfl))]
  have hslot := State.ptpSlot_free h
  generalize (s.atNs t0).ptpSlot n = r at hslot ⊢
  obtain ⟨x, b⟩ := r
  subst hslot
  rfl

theorem execDelayReqRx_full (hpeer : s.on Pg.TB (portFld n Fd.TB_PORT0_CTL_PEER) = false) (h : (s.atNs t0).ptpFull n) :
    execDelayReqRx n domain seq requester corr t0 s = .next ((s.atNs t0).bump Pg.TB Fd.TB_PTP_CNT_b16) := by
  unfold execDelayReqRx
  dsimp only
  rw [if_pos (State.atNs_takes hon hdom (by rw [State.atNs_on, hpeer]; rfl)), State.ptpSlot_full h]

theorem execPdelayReqRx_free (hpeer : s.on Pg.TB (portFld n Fd.TB_PORT0_CTL_PEER) = true) (h : ¬(s.atNs t0).ptpFull n) :
    execPdelayReqRx n domain seq requester corr t0 s =
      .next (let x := ((s.atNs t0).ptpSlot n).1
        let y := x.ptpOut n ptpPdelayResp seq (x.ptpAnswer requester corr)
        if x.on Pg.TB (portFld n Fd.TB_PORT0_CTL_TWO_STEP) then y.ptpOut n ptpPdelayRespFollowUp seq (x.ptpAnswer requester corr) else y) := by
  unfold execPdelayReqRx
  dsimp only
  rw [if_pos (State.atNs_takes hon hdom (by rw [State.atNs_on, hpeer]))]
  have hslot := State.ptpSlot_free h
  generalize (s.atNs t0).ptpSlot n = r at hslot ⊢
  obtain ⟨x, b⟩ := r
  subst hslot
  rfl

theorem execPdelayReqRx_full (hpeer : s.on Pg.TB (portFld n Fd.TB_PORT0_CTL_PEER) = true) (h : (s.atNs t0).ptpFull n) :
    execPdelayReqRx n domain seq requester corr t0 s = .next ((s.atNs t0).bump Pg.TB Fd.TB_PTP_CNT_b16) := by
  unfold execPdelayReqRx
  dsimp only
  rw [if_pos (State.atNs_takes hon hdom (by rw [State.atNs_on, hpeer])), State.ptpSlot_full h]

theorem delayRequestsAreAnswered (hpeer : s.on Pg.TB (portFld n Fd.TB_PORT0_CTL_PEER) = false) :
    ∃ t, exec (.delayReqRx n domain seq requester corr t0) s = .next t ∧
      (¬(s.atNs t0).ptpFull n → t.out = s.out ++ [.ptp n ptpDelayResp seq ((s.atNs t0).ptpAnswer requester corr)]) ∧
      ((s.atNs t0).ptpFull n → t.out = s.out ∧ t.fld Pg.TB Fd.TB_PTP_CNT_b16 = satN 16 (s.fld Pg.TB Fd.TB_PTP_CNT_b16 + 1)) := by
  by_cases h : (s.atNs t0).ptpFull n
  · exact ⟨_, execDelayReqRx_full hon hdom hpeer h, fun hfree => absurd h hfree, fun _ => ⟨rfl, State.fld_bump _ _ _ (by decide)⟩⟩
  · obtain ⟨hout, hstamp⟩ := (s.atNs t0).ptpSlot_within' n
    refine ⟨_, execDelayReqRx_free hon hdom hpeer h, fun _ => ?_, fun hfull => absurd hfull h⟩
    rw [State.ptpOut_out, hout, State.ptpAnswer, hstamp]
    rfl

theorem peerDelayRequestsAreAnswered (hpeer : s.on Pg.TB (portFld n Fd.TB_PORT0_CTL_PEER) = true) :
    ∃ t, exec (.pdelayReqRx n domain seq requester corr t0) s = .next t ∧
      (¬(s.atNs t0).ptpFull n → t.out = s.out ++ [.ptp n ptpPdelayResp seq ((s.atNs t0).ptpAnswer requester corr)] ++
        (if s.on Pg.TB (portFld n Fd.TB_PORT0_CTL_TWO_STEP)
          then [.ptp n ptpPdelayRespFollowUp seq ((s.atNs t0).ptpAnswer requester corr)] else [])) ∧
      ((s.atNs t0).ptpFull n → t.out = s.out) := by
  by_cases h : (s.atNs t0).ptpFull n
  · exact ⟨_, execPdelayReqRx_full hon hdom hpeer h, fun hfree => absurd h hfree, fun _ => rfl⟩
  · obtain ⟨hout, hstamp⟩ := (s.atNs t0).ptpSlot_within' n
    have htwo := (s.atNs t0).ptpSlot_on n (portFld n Fd.TB_PORT0_CTL_TWO_STEP) (show 0x090 + 4 * n.val ≠ 0x09C by omega)
    refine ⟨_, execPdelayReqRx_free hon hdom hpeer h, fun _ => ?_, fun hfull => absurd hfull h⟩
    dsimp only
    rw [htwo, State.atNs_on, State.ptpAnswer, hstamp]
    split
    · rw [State.ptpOut_out, State.ptpOut_out, hout]
      rfl
    · rw [State.ptpOut_out, hout, List.append_nil]
      rfl

end

/-! ### Foreign masters (R444) -/

/-- The bit of a port in FOREIGN. -/
abbrev foreignBit (n : Nat) : Fld := ⟨Rg.TB_PTP_STAT, n, 1⟩

/-- The bit of a port in SILENT. -/
abbrev silentBit (n : Nat) : Fld := ⟨Rg.TB_PTP_STAT, 2 + n, 1⟩

/-- A better Announce noted on a port. -/
def State.foreignNoted (s : State) (n : Nat) : State := (s.setFld Pg.TB (foreignBit n) 1).flag Pg.TB Fd.TB_PTP_STAT_FOREIGN_SEEN

theorem State.foreignNoted_on (s : State) (n : Fin 2) : (s.foreignNoted n).on Pg.TB (foreignBit n) = true := by
  unfold State.foreignNoted
  rw [State.on_flag_p (by decide) (by decide) (show plainAt Rg.TB_PTP_STAT by decide) (.inr (.inl (show n.val + 1 ≤ 4 by omega))),
    State.on_setFld _ _ _ _ (show n.val + 1 ≤ 32 by omega)]
  rfl

theorem State.foreignNoted_silent (s : State) (n : Fin 2) :
    (s.foreignNoted n).on Pg.TB Fd.TB_CTL_FOREIGN_SILENT = s.on Pg.TB Fd.TB_CTL_FOREIGN_SILENT := by
  unfold State.foreignNoted
  rw [State.on_flag_p (by decide) (by decide) (by decide) (by decide),
    State.on_setFld_p (show n.val + 1 ≤ 32 by omega) (.inl (show Rg.TB_PTP_STAT ≠ Rg.TB_CTL by decide))]

theorem State.foreignNoted_time (s : State) (n : Nat) : (s.foreignNoted n).time = s.time := by
  unfold State.foreignNoted
  rw [State.flag_time, State.time_setFld]

theorem State.foreignNoted_mode (s : State) (n : Nat) : (s.foreignNoted n).mode = s.mode := by
  unfold State.foreignNoted
  rw [State.flag_mode _ _ _ (by unfold headOf; decide) (by decide), State.mode_setFld_page _ _ _ _ (by decide)]

theorem State.foreignNoted_raised (s : State) (n : Nat) : (s.foreignNoted n).raised = s.raised := State.flag_raised ..

/-- The port silenced, where FOREIGN_SILENT says so. -/
def State.foreignSilenced (s : State) (n : Nat) : State := if s.on Pg.TB Fd.TB_CTL_FOREIGN_SILENT then s.setFld Pg.TB (silentBit n) 1 else s

theorem State.foreignSilenced_on (s : State) (n : Fin 2) : (s.foreignSilenced n).on Pg.TB (foreignBit n) = s.on Pg.TB (foreignBit n) := by
  unfold State.foreignSilenced
  split
  · exact State.on_setFld_p (show 2 + n.val + 1 ≤ 32 by omega) (.inr (.inl (show n.val + 1 ≤ 2 + n.val by omega)))
  · rfl

theorem State.foreignSilenced_kept (s : State) (n : Nat) :
    (s.foreignSilenced n).raised = s.raised ∧ (s.foreignSilenced n).time = s.time ∧ (s.foreignSilenced n).mode = s.mode := by
  unfold State.foreignSilenced
  split
  · exact ⟨rfl, State.time_setFld .., State.mode_setFld_page _ _ _ _ (by decide)⟩
  · exact ⟨rfl, rfl, rfl⟩

theorem betterAnnounceIsNoted {n : Fin 2} {ds : AnnounceData} {t0 : Nat} {s : State} (hmode : s.mode ≠ .boot)
    (hptp : s.on Pg.TB Fd.TB_CTL_PTP_EN = true) (hport : s.on Pg.TB (portFld n Fd.TB_PORT0_CTL_EN) = true)
    (hbetter : dsLess [ds.priority1, ds.clockClass, ds.accuracy, ds.variance, ds.priority2, ds.identity] s.dataset = true) :
    ∃ t, exec (.announceRx n (s.fld Pg.TB Fd.TB_PTP_CTL_DOMAIN) ds t0) s = .next t ∧
      t.on Pg.TB (foreignBit n) = true ∧ t.raised = s.raised ++ [(evPtpForeign, { time := (s.atNs t0).time })] ∧
      (s.on Pg.TB Fd.TB_CTL_FOREIGN_SILENT = true → t.on Pg.TB (silentBit n) = true) := by
  let x := (s.atNs t0).foreignNoted n
  have heq : exec (.announceRx n (s.fld Pg.TB Fd.TB_PTP_CTL_DOMAIN) ds t0) s = .next ((x.foreignSilenced n).raiseNow evPtpForeign) := by
    refine congrArg Host.Outcome.next (if_pos ?_)
    rw [State.atNs_on, State.atNs_on, State.atNs_fld, State.atNs_dataset, hptp, hport, hbetter, beq_self_eq_true]
    rfl
  obtain ⟨hraised, htime, hmode'⟩ := x.foreignSilenced_kept n
  refine ⟨_, heq, ?_, ?_, fun hsilent => ?_⟩
  · rw [State.raiseNow_on, State.foreignSilenced_on]
    exact State.foreignNoted_on _ n
  · rw [State.raiseNow_raised _ _ (by rw [hmode', State.foreignNoted_mode]; exact hmode), hraised, htime, State.foreignNoted_raised,
      State.foreignNoted_time]
    rfl
  · rw [State.raiseNow_on]
    have hon : x.on Pg.TB Fd.TB_CTL_FOREIGN_SILENT = true := (State.foreignNoted_silent _ n).trans hsilent
    unfold State.foreignSilenced
    rw [if_pos hon, State.on_setFld _ _ _ _ (show 2 + n.val + 1 ≤ 32 by omega)]
    rfl

theorem foreignMasterIsForgotten (n : Fin 2) (s : State) :
    ∃ t, exec (.foreignTimeout n) s = .next t ∧ t.on Pg.TB (foreignBit n) = false ∧ t.on Pg.TB (silentBit n) = false ∧
      regsKept [Pg.TB * 4096 + Rg.TB_PTP_STAT] s t := by
  refine ⟨_, rfl, ?_, ?_, regsKept_one fun a ha => (State.setFld_same ha).step (State.setFld_same ha)⟩
  · rw [State.on_setFld_p (show 2 + n.val + 1 ≤ 32 by omega) (.inr (.inl (show n.val + 1 ≤ 2 + n.val by omega))),
      State.on_setFld _ _ _ _ (show n.val + 1 ≤ 32 by omega)]
    rfl
  · rw [State.on_setFld _ _ _ _ (show 2 + n.val + 1 ≤ 32 by omega)]
    rfl

/-- Settles O7: a message by what its port sends, a request by whether the limit of its second is reached, an Announce by what it sets. -/
theorem ptpPortsSendAndAnswer : Obligations.PtpPortsSendAndAnswer :=
  ⟨fun _ _ _ h => syncIsSent h, fun _ _ _ h => announceIsSent h,
    fun _ _ _ _ _ _ _ hon hdom => ⟨delayRequestsAreAnswered hon hdom, peerDelayRequestsAreAnswered hon hdom⟩,
    fun _ _ _ _ hmode hptp hport hbetter => betterAnnounceIsNoted hmode hptp hport hbetter, foreignMasterIsForgotten⟩

end Sys2Proof.Machine
end

section
/-!
PROOFS. Static slots: their start, cycles, occurrences and writes, and the switch of banks (O8).
-/
namespace Sys2Proof.Machine

/-! ### Cycles that roll over (R449) -/

theorem State.setStart_at {s : State} {a t : Nat} (h1 : a ≠ Pg.CRL * 4096 + Rg.CRL_CUR_START_LO) (h2 : a ≠ Pg.CRL * 4096 + Rg.CRL_CUR_START_HI) :
    RegSame a s (s.setStart t) := (State.wr64_same h1 h2).step (RegSame.of_regs rfl)

theorem State.setStart_crl (s : State) (t : Nat) : (s.setStart t).crl = { s.crl with start := t, fired := [] } := rfl

/-- A rolled cycle shows in CUR_START alone. -/
theorem State.rollCycle_at {s : State} {a : Nat} (h1 : a ≠ Pg.CRL * 4096 + Rg.CRL_CUR_START_LO) (h2 : a ≠ Pg.CRL * 4096 + Rg.CRL_CUR_START_HI) :
    RegSame a s s.rollCycle := by
  unfold State.rollCycle
  dsimp only
  split
  · exact State.setStart_at h1 h2
  · exact RegSame.refl a s

theorem State.rollCycle_fld (s : State) {f : Fld} (h1 : f.off ≠ Rg.CRL_CUR_START_LO) (h2 : f.off ≠ Rg.CRL_CUR_START_HI) :
    s.rollCycle.fld Pg.CRL f = s.fld Pg.CRL f := (State.rollCycle_at (off_ne h1) (off_ne h2)).fld

theorem State.rollCycle_on (s : State) {f : Fld} (h1 : f.off ≠ Rg.CRL_CUR_START_LO) (h2 : f.off ≠ Rg.CRL_CUR_START_HI) :
    s.rollCycle.on Pg.CRL f = s.on Pg.CRL f := (State.rollCycle_at (off_ne h1) (off_ne h2)).on

theorem State.rollCycle_mode (s : State) : s.rollCycle.mode = s.mode := State.mode_of_regs (State.rollCycle_at (by decide) (by decide))

theorem State.rollCycle_bank (s : State) : s.rollCycle.bank = s.bank := s.rollCycle_fld (by decide) (by decide)

theorem State.bankCycle_of {s t : State}
    (h : ∀ off, off ≠ Rg.CRL_CUR_START_LO → off ≠ Rg.CRL_CUR_START_HI → t.rd Pg.CRL off = s.rd Pg.CRL off) {b : Nat}
    (hb : b < 2) : t.bankCycle b = s.bankCycle b := by
  unfold State.bankCycle
  rw [h _ (show 0x048 + 4 * b ≠ 0x058 by omega) (show 0x048 + 4 * b ≠ 0x05C by omega)]

theorem State.bank_lt (s : State) : s.bank < 2 := State.fld_lt ..

theorem State.rollCycle_bankCycle (s : State) {b : Nat} (hb : b < 2) : s.rollCycle.bankCycle b = s.bankCycle b :=
  State.bankCycle_of (fun _ h1 h2 => (State.rollCycle_at (off_ne h1) (off_ne h2)).rd) hb

theorem State.rollCycle_time (s : State) : s.rollCycle.time = s.time :=
  State.time_of ((State.rollCycle_within s).tb_eq rfl) ((State.rollCycle_within s).raw_eq rfl)

/-- Where a cycle rolls to depends on the registers, the Carillon and the time alone. -/
theorem State.rollCycle_crl_of {s t : State} (hregs : t.regs = s.regs) (hcrl : t.crl = s.crl) (htime : t.time = s.time) :
    t.rollCycle.crl = s.rollCycle.crl := by
  have hbank : t.bank = s.bank := State.fld_of hregs ..
  have hcycle (b : Nat) : t.bankCycle b = s.bankCycle b := congrArg BitVec.toNat (State.rd_of hregs ..)
  unfold State.rollCycle
  dsimp only
  rw [hbank, hcycle, htime, hcrl, State.on_of hregs, State.on_of hregs]
  split
  · rw [State.setStart_crl, State.setStart_crl, hcrl]
  · exact hcrl

/-! ### The word of CRL.CTL -/

theorem wf_low3 {w : Word} {v : Nat} (h : wf w 0 3 = v) : wf w 0 1 = v % 2 ∧ wf w 1 1 = v / 2 % 2 ∧ wf w 2 1 = v / 4 := by
  unfold wf nb at h ⊢
  omega

/-- A word with EN alone starts the slots that stand. -/
theorem State.crlCtl_starts {s : State} {w : Word} (h : wf w 0 3 = 1) (hoff : s.on Pg.CRL Fd.CRL_CTL_EN = false) : s.crlCtl w = s.enableSlots := by
  obtain ⟨hen, hswitch, hflush⟩ := wf_low3 h
  unfold State.crlCtl
  simp [hen, hswitch, hflush, hoff]

/-- A word with EN and SWITCH switches the banks of slots that run. -/
theorem State.crlCtl_switches {s : State} {w : Word} (h : wf w 0 3 = 3) (hon : s.on Pg.CRL Fd.CRL_CTL_EN = true) : s.crlCtl w = s.switchBanks := by
  obtain ⟨hen, hswitch, hflush⟩ := wf_low3 h
  unfold State.crlCtl
  simp [hen, hswitch, hflush, hon]

/-! ### The start (R450) -/

/-- The first of the times `base` + k `c` that is not before `t`. -/
def firstStart (base t c : Nat) : Nat := if t ≤ base then base - (base - t) / c * c else base + (t - base + c - 1) / c * c

theorem State.enableSlots_eq (s : State) : s.enableSlots =
    (s.setFld Pg.CRL Fd.CRL_CTL_EN 1).setStart (firstStart (s.rd64 Pg.CRL Rg.CRL_BASE_LO Rg.CRL_BASE_HI) (s.time + 2000) (s.bankCycle s.bank)) := rfl

theorem firstStart_spec (base t : Nat) {c : Nat} (hc : 0 < c) :
    t ≤ firstStart base t c ∧ firstStart base t c < t + c ∧ (c : Int) ∣ (firstStart base t c : Int) - base := by
  unfold firstStart
  split
  · next hle =>
    have hdiv := Nat.div_add_mod' (base - t) c
    have hmod := Nat.mod_lt (base - t) hc
    refine ⟨by omega, by omega, -((base - t) / c : Nat), ?_⟩
    rw [Nat.cast_sub (by omega), Nat.cast_mul]
    ring
  · next hgt =>
    have hdiv := Nat.div_add_mod' (t - base + c - 1) c
    have hmod := Nat.mod_lt (t - base + c - 1) hc
    refine ⟨by omega, by omega, ((t - base + c - 1) / c : Nat), ?_⟩
    rw [Nat.cast_add, Nat.cast_mul]
    ring

theorem slotsStart {o : Owner} {w : Word} {s : State} (h : s.access o Pg.CRL = .granted) (hw : wf w 0 3 = 1)
    (hoff : s.on Pg.CRL Fd.CRL_CTL_EN = false) (hc : 0 < s.bankCycle s.bank) :
    ∃ t, exec (.crlEnable o w) s = .next t ∧ t.on Pg.CRL Fd.CRL_CTL_EN = true ∧ t.crl.fired = [] ∧ s.time + 2000 ≤ t.crl.start ∧
      t.crl.start < s.time + 2000 + s.bankCycle s.bank ∧
      (s.bankCycle s.bank : Int) ∣ (t.crl.start : Int) - s.rd64 Pg.CRL Rg.CRL_BASE_LO Rg.CRL_BASE_HI := by
  have hbank : (s.touch o Pg.CRL).bank = s.bank := s.touch_fld ..
  have hcycle (b : Nat) : (s.touch o Pg.CRL).bankCycle b = s.bankCycle b := congrArg BitVec.toNat (s.touch_rd ..)
  have hbase : (s.touch o Pg.CRL).rd64 Pg.CRL Rg.CRL_BASE_LO Rg.CRL_BASE_HI = s.rd64 Pg.CRL Rg.CRL_BASE_LO Rg.CRL_BASE_HI := by
    unfold State.rd64
    rw [s.touch_rd, s.touch_rd]
  refine ⟨_, congrArg Host.Outcome.next (State.guarded_granted h), ?_⟩
  rw [State.crlCtl_starts hw (by rwa [s.touch_on]), State.enableSlots_eq, hbase, s.time_of_raw, hbank, hcycle]
  refine ⟨?_, rfl, firstStart_spec _ _ hc⟩
  rw [(State.setStart_at (by decide) (by decide)).on, State.on_setFld _ _ _ _ (by decide)]
  rfl

/-! ### A slot that fires (R446, R447, R449) -/

/-- A pulse of 8 ns or more adds its interval. -/
theorem State.act_pulse (s : State) {pulse width qidx port t : Nat} (h : 8 ≤ width) :
    s.act 1 pulse width qidx port t = { s with crl := { s.crl with pulses := s.crl.pulses ++ [(pulse, t + width)] } } := by
  unfold State.act State.startPulse
  rw [if_neg (by decide), if_pos (by decide), if_neg (not_lt.mpr h)]

/-- A slot counted as fired, with its own count and its enable. -/
def State.slotFired (s : State) (b k count once : Nat) : State :=
  let t := ({ s with crl := { s.crl with fired := s.crl.fired ++ [k] } }).setWinBits (slotAt b k) 96 16 (satN 16 (count + 1))
  let t := if once = 1 then t.setWinBits (slotAt b k) 32 1 0 else t
  (t.bump Pg.CRL Fd.CRL_FIRE_CNT_b0).applyDeferred b k

theorem State.slotFired_shows (s : State) (b k count once : Nat) :
    (s.slotFired b k count once).crl.fired = s.crl.fired ++ [k] ∧ (s.slotFired b k count once).crl.pulses = s.crl.pulses ∧
      (s.slotFired b k count once).fld Pg.CRL Fd.CRL_FIRE_CNT_b0 = satN 16 (s.fld Pg.CRL Fd.CRL_FIRE_CNT_b0 + 1) := by
  unfold State.slotFired
  extract_lets _ t u
  have ht : Within 0x10 { s with crl := { s.crl with fired := s.crl.fired ++ [k] } } t := State.setWinBits_within ..
  have hu : Within 0x10 { s with crl := { s.crl with fired := s.crl.fired ++ [k] } } u := by
    unfold u
    split
    · exact Within.step (State.setWinBits_within ..) rfl ht
    · exact ht
  have hcrl : (u.bump Pg.CRL Fd.CRL_FIRE_CNT_b0).crl = { s.crl with fired := s.crl.fired ++ [k] } := hu.crl_eq rfl
  have hregs : u.regs = s.regs := hu.regs_eq rfl
  rw [State.applyDeferred_crl, hcrl, State.fld_of (State.applyDeferred_regs ..), State.fld_bump _ _ _ (by decide), State.fld_of hregs]
  exact ⟨rfl, rfl, rfl⟩

/-- A slot of the active bank that is enabled, not fired in this cycle, and reached. -/
structure State.SlotDue (x : State) (k : Nat) : Prop where
  running : x.on Pg.CRL Fd.CRL_CTL_EN = true
  unheld : x.mode ≠ .hold
  booted : x.mode ≠ .boot
  enabled : x.slot x.bank k 32 1 = 1
  inCycle : x.slot x.bank k 0 32 < x.bankCycle x.bank
  unfired : k ∉ x.crl.fired
  reached : x.crl.start + x.slot x.bank k 0 32 ≤ x.time

theorem State.slotFire_due {s x : State} {k : Nat} (hx : s.rollCycle = x) (h : x.SlotDue k) :
    s.slotFire k = (x.act (x.slot x.bank k 34 2) (x.slot x.bank k 36 5) (x.slot x.bank k 64 32) (x.slot x.bank k 41 10) (x.slot x.bank k 51 1)
      (x.crl.start + x.slot x.bank k 0 32)).slotFired x.bank k (x.slot x.bank k 96 16) (x.slot x.bank k 33 1) := by
  obtain ⟨hrunning, hunheld, hbooted, henabled, hcycle, hunfired, hreached⟩ := h
  unfold State.slotFire
  rw [hx]
  exact if_pos (by simp [hrunning, hunheld, hbooted, henabled, hcycle, hunfired, hreached])

theorem slotsFire {k : Fin 1024} {t0 : Nat} {s x : State} (hx : x = (s.atNs t0).rollCycle) (h : x.SlotDue k) (haction : x.slot x.bank k 34 2 = 1)
    (hwidth : 8 ≤ x.slot x.bank k 64 32) :
    ∃ t, exec (.slotFire k t0) s = .next t ∧ t.crl.fired = x.crl.fired ++ [k.val] ∧
      t.crl.pulses = x.crl.pulses ++ [(x.slot x.bank k 36 5, x.crl.start + x.slot x.bank k 0 32 + x.slot x.bank k 64 32)] ∧
      t.fld Pg.CRL Fd.CRL_FIRE_CNT_b0 = satN 16 (x.fld Pg.CRL Fd.CRL_FIRE_CNT_b0 + 1) := by
  refine ⟨_, congrArg Host.Outcome.next (State.slotFire_due hx.symm h), ?_⟩
  rw [haction, State.act_pulse _ hwidth]
  exact State.slotFired_shows ..

/-! ### Writes of a slot (R451, R454) -/

/-- A slot's word as it is kept: the reserved bits of word 1 as 0, word 3 as it was. -/
abbrev State.slotWord (s : State) (b k i : Nat) (w : Word) : Word :=
  if i = 1 then w &&& 0x000FFFFF else if i = 3 then s.win (slotAt b k + 4 * i) else w

/-- Word 1 of a slot after a write of word `i`. -/
abbrev State.slotOne (s : State) (b k i : Nat) (w : Word) : Word := if i = 1 then s.slotWord b k i w else s.win (slotAt b k + 4)

/-- A write that waits for the slot's occurrence. -/
def State.slotDeferred (s : State) (a : Nat) (w : Word) : State :=
  (({ s with crl := { s.crl with deferred := s.crl.deferred ++ [(a, w)] } } : State).flag Pg.CRL Fd.CRL_STAT_DEFERRED).bump
    Pg.CRL Fd.CRL_ERR_CNT_DEFERRED

theorem State.slotDeferred_shows (s : State) {a : Nat} (w : Word) (h : a ≠ 0x0C1000) :
    (s.slotDeferred a w).crl.deferred = s.crl.deferred ++ [(a, w)] ∧ (s.slotDeferred a w).on Pg.CRL Fd.CRL_STAT_DEFERRED = true ∧
      (s.slotDeferred a w).win a = s.win a := by
  unfold State.slotDeferred
  refine ⟨?_, ?_, ?_⟩
  · rw [State.bump_crl, State.flag_crl]
  · rw [State.on_bump_p (by decide) (by decide)]
    exact State.on_flag_self (by decide) (by decide) (by decide) (by decide)
  · exact State.flag_win _ _ _ _ h

theorem State.slotWrite_eq {s : State} {code b k i : Nat} {w : Word}
    (h : wf (s.slotOne b k i w) 2 1 = 0 ∨ s.mayPulse code (wf (s.slotOne b k i w) 4 5) = true) :
    s.slotWrite code b k i w = if b = s.bank ∧ s.rollCycle.slotArmed k then s.rollCycle.slotDeferred (slotAt b k + 4 * i) (s.slotWord b k i w)
      else s.setWin (slotAt b k + 4 * i) (s.slotWord b k i w) := by
  unfold State.slotWrite
  refine if_neg fun hrefused => ?_
  rw [Bool.and_eq_true, decide_eq_true_eq, Bool.not_eq_true'] at hrefused
  obtain ⟨hpulse, hguarded⟩ := hrefused
  rcases h with h | h
  · exact absurd (hpulse.symm.trans h) (by decide)
  · exact absurd (h.symm.trans hguarded) (by decide)

theorem slotsAreWritten {o : Owner} {b : Fin 2} {k : Fin 1024} {i : Fin 4} {w : Word} {s : State} (h : s.reaches o Pg.CRL = true)
    (hpulse : wf (s.slotOne b k i w) 2 1 = 0 ∨ s.mayPulse (ownerCode o) (wf (s.slotOne b k i w) 4 5) = true) :
    ∃ t, exec (.slotWrite o b k i w) s = .next t ∧
      (¬(b.val = s.bank ∧ s.rollCycle.slotArmed k = true) → t = s.setWin (slotAt b k + 4 * i) (s.slotWord b k i w)) ∧
      (b.val = s.bank ∧ s.rollCycle.slotArmed k = true →
        t.crl.deferred = s.crl.deferred ++ [(slotAt b k + 4 * i, s.slotWord b k i w)] ∧ t.on Pg.CRL Fd.CRL_STAT_DEFERRED = true ∧
        t.win (slotAt b k + 4 * i) = s.win (slotAt b k + 4 * i)) := by
  refine ⟨_, congrArg Host.Outcome.next ((if_pos h).trans (State.slotWrite_eq hpulse)), fun hfree => if_neg hfree, fun harmed => ?_⟩
  rw [if_pos harmed]
  obtain ⟨hdeferred, hflag, hwin⟩ := s.rollCycle.slotDeferred_shows (a := slotAt b k + 4 * i) (s.slotWord b k i w)
    (by unfold slotAt; omega)
  have hkept : s.rollCycle.crl.deferred = s.crl.deferred := by
    unfold State.rollCycle
    dsimp only
    split <;> rfl
  rw [hkept] at hdeferred
  exact ⟨hdeferred, hflag, hwin.trans (State.win_of ((State.rollCycle_within s).window_eq rfl) _)⟩

/-! ### Writes of a bank's cycle (R451) -/

theorem bankCyclesAreWritten {o : Owner} {b : Fin 2} {w : Word} {s : State} (h : s.access o Pg.CRL = .granted) :
    ∃ t, exec (.bankCycleWrite o b w) s = .next t ∧
      (b.val ≠ s.bank ∧ 1000 ≤ w.toNat ∧ w.toNat ≤ 4000000000 →
        t.rd Pg.CRL (Rg.CRL_BANK0_CYCLE + 4 * b) = w ∧ regsKept [Pg.CRL * 4096 + (Rg.CRL_BANK0_CYCLE + 4 * b)] s t) ∧
      (b.val = s.bank ∨ w.toNat < 1000 ∨ 4000000000 < w.toNat →
        t.rd Pg.CRL (Rg.CRL_BANK0_CYCLE + 4 * b) = s.rd Pg.CRL (Rg.CRL_BANK0_CYCLE + 4 * b) ∧
        t.on Pg.CRL Fd.CRL_STAT_CYCLE_REFUSED = true) := by
  have hbank : (s.touch o Pg.CRL).bank = s.bank := s.touch_fld ..
  refine ⟨_, congrArg Host.Outcome.next (State.guarded_granted h), fun ⟨hshadow, hlo, hhi⟩ => ?_, fun hbad => ?_⟩
  · unfold State.cycleWrite
    rw [hbank, if_neg (by omega)]
    exact ⟨State.rd_wr_same .., regsKept_one fun a ha => (State.wr_same ha).step (RegSame.of_regs (s.touch_regs o Pg.CRL))⟩
  · unfold State.cycleWrite
    rw [hbank, if_pos hbad, (State.flag_at (not_headOf (by decide) ?_) (off_ne ?_)).rd, s.touch_rd]
    · exact ⟨rfl, State.on_flag_self (by decide) (by decide) (by decide) (by decide)⟩
    · exact ⟨show 0x048 + 4 * b.val < 4096 by omega, show 0x048 + 4 * b.val ≠ 0x00C by omega, show 0x048 + 4 * b.val ≠ 0x008 by omega⟩
    · show 0x048 + 4 * b.val ≠ 0x044
      omega

/-! ### The switch of banks (R452) -/

theorem State.switchBanks_eq {s : State} (h : s.on Pg.CRL Fd.CRL_STAT_SWITCH_PENDING = false) :
    s.switchBanks = ({ s.rollCycle with crl := { s.rollCycle.crl with
      switchAt := if s.rollCycle.crl.start + s.bankCycle s.bank < s.time + 2000 then s.rollCycle.crl.start + s.bankCycle s.bank + s.bankCycle s.bank
        else s.rollCycle.crl.start + s.bankCycle s.bank } } : State).setFld Pg.CRL Fd.CRL_STAT_SWITCH_PENDING 1 := by
  unfold State.switchBanks
  rw [h]
  dsimp only
  rw [s.rollCycle_bank, s.rollCycle_bankCycle s.bank_lt, s.rollCycle_time]
  rfl

theorem switchesPend {o : Owner} {w : Word} {s x : State} (h : s.access o Pg.CRL = .granted) (hw : wf w 0 3 = 3)
    (hon : s.on Pg.CRL Fd.CRL_CTL_EN = true) (hfree : s.on Pg.CRL Fd.CRL_STAT_SWITCH_PENDING = false) (hx : x = s.rollCycle) :
    ∃ t, exec (.crlSwitch o w) s = .next t ∧ t.on Pg.CRL Fd.CRL_STAT_SWITCH_PENDING = true ∧ t.bank = s.bank ∧
      t.crl.switchAt = (if x.crl.start + s.bankCycle s.bank < s.time + 2000 then x.crl.start + s.bankCycle s.bank + s.bankCycle s.bank
        else x.crl.start + s.bankCycle s.bank) := by
  have hbank : (s.touch o Pg.CRL).bank = s.bank := s.touch_fld ..
  have hcycle (b : Nat) : (s.touch o Pg.CRL).bankCycle b = s.bankCycle b := congrArg BitVec.toNat (s.touch_rd ..)
  have hroll : (s.touch o Pg.CRL).rollCycle.crl = x.crl := by
    rw [hx, State.rollCycle_crl_of (s.touch_regs ..) (s.touch_crl ..) (s.time_of_raw ..)]
  refine ⟨_, congrArg Host.Outcome.next (State.guarded_granted h), ?_⟩
  rw [State.crlCtl_switches hw (by rwa [s.touch_on]), State.switchBanks_eq (by rwa [s.touch_on]), hroll, hbank, hcycle, s.time_of_raw]
  refine ⟨?_, ?_, rfl⟩
  · rw [State.on_setFld _ _ _ _ (by decide)]
    rfl
  · rw [← hbank, ← (s.touch o Pg.CRL).rollCycle_bank]
    exact State.fld_setFld_p (by decide) (by decide)

/-- At the boundary the other bank becomes active, and what was deferred is written. -/
theorem State.bankSwitch_shows {s : State} (hpending : s.on Pg.CRL Fd.CRL_STAT_SWITCH_PENDING = true) (hreached : s.crl.switchAt ≤ s.time) :
    s.bankSwitch.bank = 1 - s.bank ∧ s.bankSwitch.on Pg.CRL Fd.CRL_STAT_SWITCH_PENDING = false ∧
      s.bankSwitch.crl.start = s.crl.switchAt ∧ s.bankSwitch.crl.fired = [] ∧ s.bankSwitch.crl.deferred = [] := by
  unfold State.bankSwitch
  rw [if_pos (by rw [hpending]; exact decide_eq_true hreached)]
  extract_lets b x y
  have hregs : y.regs = x.regs := foldl_setWin_regs ..
  have hcrl : y.crl = x.crl := foldl_setWin_crl ..
  have hflags (f : Fld) (h1 : f.off ≠ Rg.CRL_CUR_START_LO) (h2 : f.off ≠ Rg.CRL_CUR_START_HI) :
      (({ y with crl := { y.crl with deferred := [] } } : State).setStart y.crl.switchAt).fld Pg.CRL f = x.fld Pg.CRL f :=
    (State.setStart_at (off_ne h1) (off_ne h2)).fld.trans (State.fld_of hregs ..)
  refine ⟨?_, ?_, congrArg (·.switchAt) hcrl, rfl, rfl⟩
  · refine (hflags _ (by decide) (by decide)).trans ?_
    rw [State.fld_setFld_p (by decide) (by decide), State.fld_setFld _ _ _ _ (by decide)]
    exact Nat.mod_eq_of_lt (by show 1 - b < 2; omega)
  · unfold State.on
    rw [hflags _ (by decide) (by decide), State.fld_setFld _ _ _ _ (by decide)]
    rfl

/-- Settles O8, each command by the lemma that says what it leaves. -/
theorem staticSlotsStartFireAndSwitch : Obligations.StaticSlotsStartFireAndSwitch := by
  refine ⟨fun _ _ _ => slotsStart, ?_, fun _ _ _ => rfl, fun _ _ _ _ _ _ h => slotsAreWritten h, fun _ _ _ _ h => bankCyclesAreWritten h,
    fun _ _ _ _ => switchesPend, fun t0 s hpending hreached => ⟨_, rfl, State.bankSwitch_shows (s := s.atNs t0) hpending hreached⟩⟩
  intro k t0 s x hx hhold hboot hrunning henabled hcycle hunfired hreached haction hwidth
  have hmode : x.mode = s.mode := by rw [hx, State.rollCycle_mode, State.atNs_mode]
  have hon : x.on Pg.CRL Fd.CRL_CTL_EN = true := by rw [hx, State.rollCycle_on _ (by decide) (by decide), State.atNs_on, hrunning]
  exact slotsFire hx ⟨hon, by rwa [hmode], by rwa [hmode], henabled, hcycle, hunfired, hreached⟩ haction hwidth

end Sys2Proof.Machine
end

section
/-!
PROOFS. The dynamic calendar: insertion, firing and flush (O9).
-/
namespace Sys2Proof.Machine

/-! ### Insertion (R454-R456) -/

theorem State.mayPulse_of {s t : State} (h : t.regs = s.regs) (code p : Nat) : t.mayPulse code p = s.mayPulse code p := by
  unfold State.mayPulse
  rw [State.rd_of h, State.on_of h]

/-- With 4,096 entries pending an insertion leaves the Carillon as it is and sets CAL_FULL. -/
theorem State.calInsert_full {s : State} (h : 4096 ≤ s.crl.entries.length) (t action pulse width qidx port : Nat) :
    (s.calInsert t action pulse width qidx port).2 = false ∧ (s.calInsert t action pulse width qidx port).1.crl = s.crl ∧
      (s.calInsert t action pulse width qidx port).1.on Pg.CRL Fd.CRL_STAT_CAL_FULL = true := by
  unfold State.calInsert
  rw [if_pos h]
  dsimp only
  refine ⟨rfl, ?_, ?_⟩
  · rw [State.raiseNow_crl, (State.logMinor_within (by decide)).crl_eq rfl, State.flag_crl, State.bump_crl]
  · rw [State.raiseNow_on, (State.logMinor_same (by unfold logPage; decide) (by decide)).on]
    exact State.on_flag_self (by decide) (by decide) (by decide) (by decide)

/-- The insertion that the registers CAL_T, CAL_CFG and CAL_WIDTH ask for. -/
abbrev State.calAsked (s : State) : State × Bool :=
  s.calInsert (s.rd64 Pg.CRL Rg.CRL_CAL_T_LO Rg.CRL_CAL_T_HI) (s.fld Pg.CRL Fd.CRL_CAL_CFG_ACTION) (s.fld Pg.CRL Fd.CRL_CAL_CFG_PULSE)
    (s.rd Pg.CRL Rg.CRL_CAL_WIDTH).toNat (s.fld Pg.CRL Fd.CRL_CAL_CFG_QIDX) (s.fld Pg.CRL Fd.CRL_CAL_CFG_PORT)

/-- CAL_CFG names no pulse pin that the owner may not command. -/
abbrev State.calAllowed (s : State) (code : Nat) : Prop :=
  (s.fld Pg.CRL Fd.CRL_CAL_CFG_ACTION ≠ 1 ∧ s.fld Pg.CRL Fd.CRL_CAL_CFG_ACTION ≠ 3) ∨
    s.mayPulse code (s.fld Pg.CRL Fd.CRL_CAL_CFG_PULSE) = true

theorem State.calIns_eq {s : State} {code : Nat} (h : s.calAllowed code) : s.calIns code =
    if s.mode.job = false then s.setFld Pg.CRL Fd.CRL_CAL_CTL_RESULT 3
    else s.calAsked.1.setFld Pg.CRL Fd.CRL_CAL_CTL_RESULT (if s.calAsked.2 then 1 else 2) := by
  have hguard : ¬(decide (s.fld Pg.CRL Fd.CRL_CAL_CFG_ACTION = 1 ∨ s.fld Pg.CRL Fd.CRL_CAL_CFG_ACTION = 3) &&
      !s.mayPulse code (s.fld Pg.CRL Fd.CRL_CAL_CFG_PULSE)) = true := by
    rcases h with ⟨h1, h3⟩ | h
    · simp [h1, h3]
    · simp [h]
  unfold State.calIns
  dsimp only
  rw [if_neg hguard]
  cases s.mode.job <;> rfl

theorem State.calIns_inserts {s : State} {code : Nat} (h : s.calAllowed code) (hjob : s.mode.job = true) (hroom : s.crl.entries.length < 4096) :
    (s.calIns code).crl.entries = s.crl.entries ++ [⟨s.crl.nextNum, s.rd64 Pg.CRL Rg.CRL_CAL_T_LO Rg.CRL_CAL_T_HI,
      s.fld Pg.CRL Fd.CRL_CAL_CFG_ACTION, s.fld Pg.CRL Fd.CRL_CAL_CFG_PULSE, (s.rd Pg.CRL Rg.CRL_CAL_WIDTH).toNat,
      s.fld Pg.CRL Fd.CRL_CAL_CFG_QIDX, s.fld Pg.CRL Fd.CRL_CAL_CFG_PORT⟩] ∧
    (s.calIns code).crl.nextNum = s.crl.nextNum + 1 ∧ (s.calIns code).fld Pg.CRL Fd.CRL_CAL_CTL_RESULT = 1 := by
  obtain ⟨hok, hentries, hnext⟩ := s.calInsert_ok (s.rd64 Pg.CRL Rg.CRL_CAL_T_LO Rg.CRL_CAL_T_HI) (s.fld Pg.CRL Fd.CRL_CAL_CFG_ACTION)
    (s.fld Pg.CRL Fd.CRL_CAL_CFG_PULSE) (s.rd Pg.CRL Rg.CRL_CAL_WIDTH).toNat (s.fld Pg.CRL Fd.CRL_CAL_CFG_QIDX)
    (s.fld Pg.CRL Fd.CRL_CAL_CFG_PORT) hroom
  rw [State.calIns_eq h, if_neg (by rw [hjob]; decide), hok, if_pos rfl, State.fld_setFld _ _ _ _ (by decide), State.setFld_crl]
  exact ⟨hentries, hnext, rfl⟩

theorem State.calIns_full {s : State} {code : Nat} (h : s.calAllowed code) (hjob : s.mode.job = true) (hfull : 4096 ≤ s.crl.entries.length) :
    (s.calIns code).crl.entries = s.crl.entries ∧ (s.calIns code).on Pg.CRL Fd.CRL_STAT_CAL_FULL = true ∧
      (s.calIns code).fld Pg.CRL Fd.CRL_CAL_CTL_RESULT = 2 := by
  obtain ⟨hno, hcrl, hflag⟩ := State.calInsert_full hfull (s.rd64 Pg.CRL Rg.CRL_CAL_T_LO Rg.CRL_CAL_T_HI) (s.fld Pg.CRL Fd.CRL_CAL_CFG_ACTION)
    (s.fld Pg.CRL Fd.CRL_CAL_CFG_PULSE) (s.rd Pg.CRL Rg.CRL_CAL_WIDTH).toNat (s.fld Pg.CRL Fd.CRL_CAL_CFG_QIDX)
    (s.fld Pg.CRL Fd.CRL_CAL_CFG_PORT)
  rw [State.calIns_eq h, if_neg (by rw [hjob]; decide), hno, if_neg (by decide), State.fld_setFld _ _ _ _ (by decide), State.setFld_crl, hcrl,
    State.on_setFld_p (by decide) (by decide)]
  exact ⟨rfl, hflag, rfl⟩

theorem State.calIns_outside {s : State} {code : Nat} (h : s.calAllowed code) (hjob : s.mode.job = false) :
    (s.calIns code).crl = s.crl ∧ (s.calIns code).fld Pg.CRL Fd.CRL_CAL_CTL_RESULT = 3 := by
  rw [State.calIns_eq h, if_pos hjob, State.fld_setFld _ _ _ _ (by decide)]
  exact ⟨rfl, rfl⟩

theorem entriesAreInserted {o : Owner} {w : Word} {s : State} (h : s.access o Pg.CRL = .granted) (hw : wf w 0 1 = 1)
    (hallowed : s.calAllowed (ownerCode o)) :
    ∃ t, exec (.calInsert o w) s = .next t ∧
      (s.mode.job = true ∧ s.crl.entries.length < 4096 →
        t.crl.entries = s.crl.entries ++ [⟨s.crl.nextNum, s.rd64 Pg.CRL Rg.CRL_CAL_T_LO Rg.CRL_CAL_T_HI, s.fld Pg.CRL Fd.CRL_CAL_CFG_ACTION,
          s.fld Pg.CRL Fd.CRL_CAL_CFG_PULSE, (s.rd Pg.CRL Rg.CRL_CAL_WIDTH).toNat, s.fld Pg.CRL Fd.CRL_CAL_CFG_QIDX,
          s.fld Pg.CRL Fd.CRL_CAL_CFG_PORT⟩] ∧
        t.crl.nextNum = s.crl.nextNum + 1 ∧ t.fld Pg.CRL Fd.CRL_CAL_CTL_RESULT = 1) ∧
      (s.mode.job = true ∧ 4096 ≤ s.crl.entries.length →
        t.crl.entries = s.crl.entries ∧ t.on Pg.CRL Fd.CRL_STAT_CAL_FULL = true ∧ t.fld Pg.CRL Fd.CRL_CAL_CTL_RESULT = 2) ∧
      (s.mode.job = false → t.crl = s.crl ∧ t.fld Pg.CRL Fd.CRL_CAL_CTL_RESULT = 3) := by
  generalize hx : s.touch o Pg.CRL = x
  have hcrl : x.crl = s.crl := by rw [← hx, s.touch_crl]
  have hmode : x.mode = s.mode := by rw [← hx, s.touch_mode]
  have hregs : x.regs = s.regs := by rw [← hx, s.touch_regs]
  have ha : x.calAllowed (ownerCode o) := by rwa [State.calAllowed, State.fld_of hregs, State.fld_of hregs, State.mayPulse_of hregs]
  refine ⟨x.calIns (ownerCode o), ?_, fun ⟨hjob, hroom⟩ => ?_, fun ⟨hjob, hfull⟩ => ?_, fun hjob => ?_⟩
  · exact congrArg Host.Outcome.next ((State.guarded_granted h).trans (by rw [hx]; exact if_pos hw))
  · have hins := State.calIns_inserts ha (by rwa [hmode]) (by rwa [hcrl])
    have h64 : x.rd64 Pg.CRL Rg.CRL_CAL_T_LO Rg.CRL_CAL_T_HI = s.rd64 Pg.CRL Rg.CRL_CAL_T_LO Rg.CRL_CAL_T_HI := by
      unfold State.rd64
      rw [State.rd_of hregs, State.rd_of hregs]
    simp only [hcrl, h64, State.fld_of hregs, State.rd_of hregs] at hins
    exact hins
  · have hkept := State.calIns_full ha (by rwa [hmode]) (by rwa [hcrl])
    rwa [hcrl] at hkept
  · have hkept := State.calIns_outside ha (by rwa [hmode])
    rwa [hcrl] at hkept

/-! ### Firing (R446, R456) -/

theorem CalEntry.outputs_pulse {e : CalEntry} (h : e.action = 1) : e.outputs = [e.pulse] := by
  unfold CalEntry.outputs
  rw [h]
  rfl

theorem State.calFire_waits {s : State} {num f : Nat} {e : CalEntry} (h : (calTimes s.crl.lastF s.crl.entries).find? (·.1.num == num) = some (e, f))
    (hf : s.time < f) : s.calFire num = s := by
  unfold State.calFire
  rw [h]
  exact if_pos hf

/-- A pulse entry that is reached leaves the calendar, and its interval starts at its F. -/
theorem State.calFire_pulse {s : State} {num f : Nat} {e : CalEntry} (h : (calTimes s.crl.lastF s.crl.entries).find? (·.1.num == num) = some (e, f))
    (hf : f ≤ s.time) (haction : e.action = 1) (hwidth : 8 ≤ e.width) :
    (s.calFire num).crl.entries = s.crl.entries.filter (fun x => x.num != num) ∧
      (s.calFire num).crl.pulses = s.crl.pulses ++ [(e.pulse, f + e.width)] ∧
      tabGet (dflt 0) (s.calFire num).crl.lastF e.pulse = f := by
  unfold State.calFire
  rw [h]
  dsimp only
  rw [if_neg (not_lt.mpr hf), haction, State.act_pulse _ hwidth, CalEntry.outputs_pulse haction]
  dsimp only
  rw [State.bump_crl, State.setFld_crl]
  split <;> exact ⟨rfl, rfl, tabGet_tabPut_same _ _ _ _⟩

theorem entriesFire {num t0 f : Nat} {e : CalEntry} {s : State} (h : (calTimes s.crl.lastF s.crl.entries).find? (·.1.num == num) = some (e, f)) :
    ∃ t, exec (.calEntryFire num t0) s = .next t ∧
      ((s.atNs t0).time < f → t = s.atNs t0) ∧
      (f ≤ (s.atNs t0).time ∧ e.action = 1 ∧ 8 ≤ e.width →
        t.crl.entries = s.crl.entries.filter (fun x => x.num != num) ∧ t.crl.pulses = s.crl.pulses ++ [(e.pulse, f + e.width)] ∧
        tabGet (dflt 0) t.crl.lastF e.pulse = f) :=
  ⟨_, rfl, State.calFire_waits (s := s.atNs t0) h, fun ⟨hf, haction, hwidth⟩ => State.calFire_pulse (s := s.atNs t0) h hf haction hwidth⟩

/-! ### Flush (R457) -/

theorem State.cancelCalendar_shows (s : State) : s.cancelCalendar.crl.entries = [] ∧ s.cancelCalendar.fld Pg.CRL Fd.CRL_CAL_STAT_b0 = 0 ∧
    s.cancelCalendar.fld Pg.CRL Fd.CRL_CANCEL_CNT_b0 = satN 16 (s.fld Pg.CRL Fd.CRL_CANCEL_CNT_b0 + s.crl.entries.length) := by
  unfold State.cancelCalendar
  refine ⟨rfl, ?_, ?_⟩
  · rw [State.fld_setFld _ _ _ _ (by decide)]
    rfl
  · rw [State.fld_setFld_p (by decide) (by decide), State.fld_bumpBy _ _ _ _ (by decide)]
    rfl

/-- EN of a written word: the slots start, stop or stay, and the calendar stays. -/
def State.slotsAsked (s : State) (w : Word) : State :=
  if wf w 0 1 == 1 && !s.on Pg.CRL Fd.CRL_CTL_EN then s.enableSlots else if wf w 0 1 == 1 then s else s.stopSlots

theorem State.slotsAsked_kept (s : State) (w : Word) : (s.slotsAsked w).crl.entries = s.crl.entries ∧
    (s.slotsAsked w).fld Pg.CRL Fd.CRL_CANCEL_CNT_b0 = s.fld Pg.CRL Fd.CRL_CANCEL_CNT_b0 := by
  unfold State.slotsAsked
  split
  · rw [State.enableSlots_eq]
    exact ⟨rfl, ((State.setStart_at (by decide) (by decide)).step (State.setFld_same (by decide))).fld⟩
  split
  · exact ⟨rfl, rfl⟩
  · exact ⟨rfl, State.fld_setFld_p (by decide) (by decide)⟩

theorem State.crlCtl_flushes {s : State} {w : Word} (h : wf w 1 2 = 2) : s.crlCtl w = (s.slotsAsked w).cancelCalendar := by
  obtain ⟨hswitch, hflush⟩ := wf_bit w h
  exact (if_neg (by rw [hswitch]; decide)).trans (if_pos hflush)

theorem calendarIsFlushed {o : Owner} {w : Word} {s : State} (h : s.access o Pg.CRL = .granted) (hw : wf w 1 2 = 2) :
    ∃ t, exec (.calFlush o w) s = .next t ∧ t.crl.entries = [] ∧ t.fld Pg.CRL Fd.CRL_CAL_STAT_b0 = 0 ∧
      t.fld Pg.CRL Fd.CRL_CANCEL_CNT_b0 = satN 16 (s.fld Pg.CRL Fd.CRL_CANCEL_CNT_b0 + s.crl.entries.length) := by
  obtain ⟨hentries, hcount⟩ := (s.touch o Pg.CRL).slotsAsked_kept w
  have hshows := ((s.touch o Pg.CRL).slotsAsked w).cancelCalendar_shows
  rw [hentries, hcount, s.touch_crl, s.touch_fld] at hshows
  exact ⟨_, congrArg Host.Outcome.next ((State.guarded_granted h).trans (State.crlCtl_flushes hw)), hshows⟩

/-- Settles O9: an insertion by the mode and the room in the calendar, a firing by whether F is reached, the flush by what it leaves. -/
theorem calendarEntriesAreInsertedFiredAndFlushed : Obligations.CalendarEntriesAreInsertedFiredAndFlushed :=
  ⟨fun _ _ _ => entriesAreInserted, fun _ _ _ _ _ => entriesFire, fun _ _ _ => calendarIsFlushed⟩

end Sys2Proof.Machine
end

section
/-!
PROOFS. What every command has in common: it runs from the front of the queue (O45), answers a next state (O49) and leaves alone what
`mayChange` does not list for it (O50); DRAM at reset (O47) and a poll of an empty queue (O53).
-/
namespace Sys2Proof.Machine

/-- Settles O45: both clauses are the equations of `step`. -/
theorem stepRunsTheFrontCommand : Obligations.StepRunsTheFrontCommand := ⟨fun _ _ _ => rfl, fun _ => rfl⟩

/-- Settles O47: the memory of the reset state lists no byte. -/
theorem resetMemoryIsCanonical : Obligations.ResetMemoryIsCanonical := ⟨rfl, rfl⟩

/-- A choice between two outcomes that both answer a next state answers one. -/
theorem next_of_ite {c : Prop} [Decidable c] {x y : Host.Outcome State Fault Refusal} (hx : ∃ t, x = .next t) (hy : ∃ t, y = .next t) :
    ∃ t, (if c then x else y) = .next t := by
  split
  · exact hx
  · exact hy

/-- Settles O49: most meanings are a next state as they stand, the others in each of their branches. -/
theorem everyCommandAnswersNext : Obligations.EveryCommandAnswersNext := by
  intro i s
  cases i
  case tgLineLoRead => exact next_of_ite ⟨_, rfl⟩ ⟨_, rfl⟩
  case tblDataAccess o str w =>
    cases w with
    | some x => exact ⟨_, rfl⟩
    | none => exact next_of_ite ⟨_, rfl⟩ ⟨_, rfl⟩
  case timeLoRead => exact next_of_ite ⟨_, rfl⟩ ⟨_, rfl⟩
  case ppsMissing => exact next_of_ite ⟨_, rfl⟩ (next_of_ite ⟨_, rfl⟩ ⟨_, rfl⟩)
  case queuePop q flip =>
    show ∃ t, execQueuePop q flip s = .next t
    unfold execQueuePop
    split <;> exact ⟨_, rfl⟩
  case hqPop => exact next_of_ite ⟨_, rfl⟩ ⟨_, rfl⟩
  case lvlNextRead => exact next_of_ite ⟨_, rfl⟩ ⟨_, rfl⟩
  case eccInitDone => exact next_of_ite ⟨_, rfl⟩ ⟨_, rfl⟩
  case logData0Read => exact next_of_ite ⟨_, rfl⟩ ⟨_, rfl⟩
  case cmtLineLoRead => exact next_of_ite ⟨_, rfl⟩ ⟨_, rfl⟩
  all_goals exact ⟨_, rfl⟩

/-- The power-on reset, which has no frame, keeps the record of outputs and the fuses and resets the rest. -/
theorem State.powerOn_same (s : State) {a : Area} (ha : a ∉ mayChange .porstAssert) : a.same s s.powerOn := by
  cases a
  case outputs => exact rfl
  case fuse => exact rfl
  all_goals exact absurd (by decide) ha

/-- Settles O50: each command has a frame, whose areas `mayChange` lists; the power-on reset changes all but two. -/
theorem commandsChangeOnlyTheirParts : Obligations.CommandsChangeOnlyTheirParts := by
  intro i s t ht a ha
  cases i with
  | modeReqIdle => exact (execModeReqIdle_within ..).same ht rfl a ha
  | modeReqSetup => exact (execModeReqSetup_within ..).same ht rfl a ha
  | modeReqRelearn => exact (execModeReqRelearn_within ..).same ht rfl a ha
  | modeReqInspect => exact (execModeReqInspect_within ..).same ht rfl a ha
  | modeReqLegacy => exact (execModeReqLegacy_within ..).same ht rfl a ha
  | modeReqHold => exact (execModeReqHold_within ..).same ht rfl a ha
  | jobEndAtBoundary => exact (execJobEndAtBoundary_within ..).same ht rfl a ha
  | jobOpen => exact (execJobOpen_within ..).same ht rfl a ha
  | jobValidate => exact (execJobValidate_within ..).same ht rfl a ha
  | validationDone => exact (execValidationDone_within ..).same ht rfl a ha
  | jobLoadNext => exact (execJobLoadNext_within ..).same ht rfl a ha
  | loadNextDone => exact (execLoadNextDone_within ..).same ht rfl a ha
  | jobCancelNext => exact (execJobCancelNext_within ..).same ht rfl a ha
  | jobDelete => exact (execJobDelete_within ..).same ht rfl a ha
  | chgArm => exact (execChgArm_within ..).same ht rfl a ha
  | chgCancel => exact (execChgCancel_within ..).same ht rfl a ha
  | enteringViewStart => exact (execEnteringViewStart_within ..).same ht rfl a ha
  | changeoverComplete => exact (execChangeoverComplete_within ..).same ht rfl a ha
  | encCount => exact (execEncCount_within ..).same ht rfl a ha
  | ssiRead => exact (execSsiRead_within ..).same ht rfl a ha
  | encIndex => exact (execEncIndex_within ..).same ht rfl a ha
  | standstill => exact (execStandstill_within ..).same ht rfl a ha
  | triggerIssue => exact (execTriggerIssue_within ..).same ht rfl a ha
  | tgLineLoRead => exact (execTgLineLoRead_within ..).same ht rfl a ha
  | linePacket => exact (execLinePacket_within ..).same ht rfl a ha
  | statusPacket => exact (execStatusPacket_within ..).same ht rfl a ha
  | regResp => exact (execRegResp_within ..).same ht rfl a ha
  | laneLockGained => exact (execLaneLockGained_within ..).same ht rfl a ha
  | laneLockLost => exact (execLaneLockLost_within ..).same ht rfl a ha
  | alignMarker => exact (execAlignMarker_within ..).same ht rfl a ha
  | heartbeat => exact (execHeartbeat_within ..).same ht rfl a ha
  | statusTimeout => exact (execStatusTimeout_within ..).same ht rfl a ha
  | camAccGo => exact (execCamAccGo_within ..).same ht rfl a ha
  | camRegTimeout => exact (execCamRegTimeout_within ..).same ht rfl a ha
  | noCameraTimeout => exact (execNoCameraTimeout_within ..).same ht rfl a ha
  | linkBaseResend => exact (execLinkBaseResend_within ..).same ht rfl a ha
  | lockTimeout => exact (execLockTimeout_within ..).same ht rfl a ha
  | trainTimeout => exact (execTrainTimeout_within ..).same ht rfl a ha
  | alignTimeout => exact (execAlignTimeout_within ..).same ht rfl a ha
  | failedRetry => exact (execFailedRetry_within ..).same ht rfl a ha
  | trainingOrderedSet => exact (execTrainingOrderedSet_within ..).same ht rfl a ha
  | trainScanStart => exact (execTrainScanStart_within ..).same ht rfl a ha
  | trainScanDone => exact (execTrainScanDone_within ..).same ht rfl a ha
  | eqReqResend => exact (execEqReqResend_within ..).same ht rfl a ha
  | eyeScanDone => exact (execEyeScanDone_within ..).same ht rfl a ha
  | recalPeriod => exact (execRecalPeriod_within ..).same ht rfl a ha
  | jokerCalNow => exact (execJokerCalNow_within ..).same ht rfl a ha
  | jokerMatched => exact (execJokerMatched_within ..).same ht rfl a ha
  | jokerMatchTimeout => exact (execJokerMatchTimeout_within ..).same ht rfl a ha
  | mainSliceCalDone => exact (execMainSliceCalDone_within ..).same ht rfl a ha
  | mainSliceMatched => exact (execMainSliceMatched_within ..).same ht rfl a ha
  | jokerRelease => exact (execJokerRelease_within ..).same ht rfl a ha
  | jokerForce => exact (execJokerForce_within ..).same ht rfl a ha
  | tapDeadline => exact (execTapDeadline_within ..).same ht rfl a ha
  | ffGo => exact (execFfGo_within ..).same ht rfl a ha
  | ffAcquireDone => exact (execFfAcquireDone_within ..).same ht rfl a ha
  | dispatchGrant => exact (execDispatchGrant_within ..).same ht rfl a ha
  | contextLoadDone => exact (execContextLoadDone_within ..).same ht rfl a ha
  | ppCorrectLine => exact (execPpCorrectLine_within ..).same ht rfl a ha
  | stitchViewLine => exact (execStitchViewLine_within ..).same ht rfl a ha
  | dotGridGo => exact (execDotGridGo_within ..).same ht rfl a ha
  | dotGridDone => exact (execDotGridDone_within ..).same ht rfl a ha
  | tblDataAccess => exact (execTblDataAccess_within ..).same ht rfl a ha
  | regWindowDone => exact (execRegWindowDone_within ..).same ht rfl a ha
  | regUpdate => exact (execRegUpdate_within ..).same ht rfl a ha
  | fineShift => exact (execFineShift_within ..).same ht rfl a ha
  | masterFetch => exact (execMasterFetch_within ..).same ht rfl a ha
  | reduceBlockRow => exact (execReduceBlockRow_within ..).same ht rfl a ha
  | artPredict => exact (execArtPredict_within ..).same ht rfl a ha
  | artPredictDone => exact (execArtPredictDone_within ..).same ht rfl a ha
  | tableFit => exact (execTableFit_within ..).same ht rfl a ha
  | adaptFold => exact (execAdaptFold_within ..).same ht rfl a ha
  | ieCompareLine => exact (execIeCompareLine_within ..).same ht rfl a ha
  | bandEmit => exact (execBandEmit_within ..).same ht rfl a ha
  | mrgMergeBand => exact (execMrgMergeBand_within ..).same ht rfl a ha
  | cropStore => exact (execCropStore_within ..).same ht rfl a ha
  | recordSend => exact (execRecordSend_within ..).same ht rfl a ha
  | ruleEvaluate => exact (execRuleEvaluate_within ..).same ht rfl a ha
  | cscaleStep => exact (execCscaleStep_within ..).same ht rfl a ha
  | cellVerdict => exact (execCellVerdict_within ..).same ht rfl a ha
  | repeatVerdict => exact (execRepeatVerdict_within ..).same ht rfl a ha
  | decsyncEdge => exact (execDecsyncEdge_within ..).same ht rfl a ha
  | decSyncWrite => exact (execDecSyncWrite_within ..).same ht rfl a ha
  | streamRestart => exact (execStreamRestart_within ..).same ht rfl a ha
  | streamResetBoundary => exact (execStreamResetBoundary_within ..).same ht rfl a ha
  | streamOutput => exact (execStreamOutput_within ..).same ht rfl a ha
  | timeLoRead => exact (execTimeLoRead_within ..).same ht rfl a ha
  | offsetHiWrite => exact (execOffsetHiWrite_within ..).same ht rfl a ha
  | rateHiWrite => exact (execRateHiWrite_within ..).same ht rfl a ha
  | todSecHiWrite => exact (execTodSecHiWrite_within ..).same ht rfl a ha
  | ppsInEdge => exact (execPpsInEdge_within ..).same ht rfl a ha
  | ppsMissing => exact (execPpsMissing_within ..).same ht rfl a ha
  | holdoverExpiry => exact (execHoldoverExpiry_within ..).same ht rfl a ha
  | tbrefLost => exact (execTbrefLost_within ..).same ht rfl a ha
  | ppsOutSecond => exact (execPpsOutSecond_within ..).same ht rfl a ha
  | ptpSyncSend => exact (execPtpSyncSend_within ..).same ht rfl a ha
  | ptpAnnounceSend => exact (execPtpAnnounceSend_within ..).same ht rfl a ha
  | delayReqRx => exact (execDelayReqRx_within ..).same ht rfl a ha
  | pdelayReqRx => exact (execPdelayReqRx_within ..).same ht rfl a ha
  | announceRx => exact (execAnnounceRx_within ..).same ht rfl a ha
  | foreignTimeout => exact (execForeignTimeout_within ..).same ht rfl a ha
  | crlEnable => exact (execCrlEnable_within ..).same ht rfl a ha
  | slotFire => exact (execSlotFire_within ..).same ht rfl a ha
  | pulseEnd => exact (execPulseEnd_within ..).same ht rfl a ha
  | slotWrite => exact (execSlotWrite_within ..).same ht rfl a ha
  | bankCycleWrite => exact (execBankCycleWrite_within ..).same ht rfl a ha
  | crlSwitch => exact (execCrlSwitch_within ..).same ht rfl a ha
  | bankSwitchBoundary => exact (execBankSwitchBoundary_within ..).same ht rfl a ha
  | calInsert => exact (execCalInsert_within ..).same ht rfl a ha
  | calEntryFire => exact (execCalEntryFire_within ..).same ht rfl a ha
  | calFlush => exact (execCalFlush_within ..).same ht rfl a ha
  | evioEdge => exact (execEvioEdge_within ..).same ht rfl a ha
  | swFire => exact (execSwFire_within ..).same ht rfl a ha
  | channelFire => exact (execChannelFire_within ..).same ht rfl a ha
  | taskDeliver => exact (execTaskDeliver_within ..).same ht rfl a ha
  | taskPendingStart => exact (execTaskPendingStart_within ..).same ht rfl a ha
  | evioPulseEnd => exact (execEvioPulseEnd_within ..).same ht rfl a ha
  | relayEmit => exact (execRelayEmit_within ..).same ht rfl a ha
  | dataTaskEffect => exact (execDataTaskEffect_within ..).same ht rfl a ha
  | channelWrite => exact (execChannelWrite_within ..).same ht rfl a ha
  | groupStateWrite => exact (execGroupStateWrite_within ..).same ht rfl a ha
  | queueCreditRequest => exact (execQueueCreditRequest_within ..).same ht rfl a ha
  | queuePush => exact (execQueuePush_within ..).same ht rfl a ha
  | queuePop => exact (execQueuePop_within ..).same ht rfl a ha
  | queuePoll => exact (execQueuePoll_within ..).same ht rfl a ha
  | extMove => exact (execExtMove_within ..).same ht rfl a ha
  | bankGrant => exact (execBankGrant_within ..).same ht rfl a ha
  | qfApply => exact (execQfApply_within ..).same ht rfl a ha
  | hqCredReq => exact (execHqCredReq_within ..).same ht rfl a ha
  | hqPush => exact (execHqPush_within ..).same ht rfl a ha
  | hqPop => exact (execHqPop_within ..).same ht rfl a ha
  | lvlNextRead => exact (execLvlNextRead_within ..).same ht rfl a ha
  | dmaArm => exact (execDmaArm_within ..).same ht rfl a ha
  | dmaPause => exact (execDmaPause_within ..).same ht rfl a ha
  | dmaResume => exact (execDmaResume_within ..).same ht rfl a ha
  | dmaAbort => exact (execDmaAbort_within ..).same ht rfl a ha
  | dmaBurstGrant => exact (execDmaBurstGrant_within ..).same ht rfl a ha
  | dmaBurstDone => exact (execDmaBurstDone_within ..).same ht rfl a ha
  | dmaBurstError => exact (execDmaBurstError_within ..).same ht rfl a ha
  | dramAccessGrant => exact (execDramAccessGrant_within ..).same ht rfl a ha
  | rowIdleClose => exact (execRowIdleClose_within ..).same ht rfl a ha
  | refreshWindow => exact (execRefreshWindow_within ..).same ht rfl a ha
  | eccInit => exact (execEccInit_within ..).same ht rfl a ha
  | eccInitDone => exact (execEccInitDone_within ..).same ht rfl a ha
  | retrain => exact (execRetrain_within ..).same ht rfl a ha
  | retrainDone => exact (execRetrainDone_within ..).same ht rfl a ha
  | zipRingHeadWrite => exact (execZipRingHeadWrite_within ..).same ht rfl a ha
  | zipChunkGrant => exact (execZipChunkGrant_within ..).same ht rfl a ha
  | zipJobDone => exact (execZipJobDone_within ..).same ht rfl a ha
  | frameRx => exact (execFrameRx_within ..).same ht rfl a ha
  | arpPacket => exact (execArpPacket_within ..).same ht rfl a ha
  | arpRefresh => exact (execArpRefresh_within ..).same ht rfl a ha
  | arpRetry => exact (execArpRetry_within ..).same ht rfl a ha
  | icmpEcho => exact (execIcmpEcho_within ..).same ht rfl a ha
  | datagramFlush => exact (execDatagramFlush_within ..).same ht rfl a ha
  | wrpNack => exact (execWrpNack_within ..).same ht rfl a ha
  | statusDatagram => exact (execStatusDatagram_within ..).same ht rfl a ha
  | sessApply => exact (execSessApply_within ..).same ht rfl a ha
  | sessApplyRepeat => exact (execSessApplyRepeat_within ..).same ht rfl a ha
  | wcpHello => exact (execWcpHello_within ..).same ht rfl a ha
  | wcpRegRead => exact (execWcpRegRead_within ..).same ht rfl a ha
  | wcpRegWrite => exact (execWcpRegWrite_within ..).same ht rfl a ha
  | wcpJobCmd => exact (execWcpJobCmd_within ..).same ht rfl a ha
  | wcpModeCmd => exact (execWcpModeCmd_within ..).same ht rfl a ha
  | wcpCmdResponse => exact (execWcpCmdResponse_within ..).same ht rfl a ha
  | wcpBulkWrite => exact (execWcpBulkWrite_within ..).same ht rfl a ha
  | wcpBulkRead => exact (execWcpBulkRead_within ..).same ht rfl a ha
  | wcpBulkCrc => exact (execWcpBulkCrc_within ..).same ht rfl a ha
  | keyDataWrite => exact (execKeyDataWrite_within ..).same ht rfl a ha
  | keyClear => exact (execKeyClear_within ..).same ht rfl a ha
  | wx8StatusRequest => exact (execWx8StatusRequest_within ..).same ht rfl a ha
  | bar2Write => exact (execBar2Write_within ..).same ht rfl a ha
  | bar2Read => exact (execBar2Read_within ..).same ht rfl a ha
  | perst => exact (execPerst_within ..).same ht rfl a ha
  | pcieLinkDown => exact (execPcieLinkDown_within ..).same ht rfl a ha
  | hostLoadGo => exact (execHostLoadGo_within ..).same ht rfl a ha
  | twlGo => exact (execTwlGo_within ..).same ht rfl a ha
  | twlCmdDone => exact (execTwlCmdDone_within ..).same ht rfl a ha
  | twlRetry => exact (execTwlRetry_within ..).same ht rfl a ha
  | twlAbort => exact (execTwlAbort_within ..).same ht rfl a ha
  | twlReset => exact (execTwlReset_within ..).same ht rfl a ha
  | twlBusClear => exact (execTwlBusClear_within ..).same ht rfl a ha
  | twlTimingWrite => exact (execTwlTimingWrite_within ..).same ht rfl a ha
  | twlTargetXfer => exact (execTwlTargetXfer_within ..).same ht rfl a ha
  | sclStretchTimeout => exact (execSclStretchTimeout_within ..).same ht rfl a ha
  | mtwiAddress => exact (execMtwiAddress_within ..).same ht rfl a ha
  | mtwiRegCmd => exact (execMtwiRegCmd_within ..).same ht rfl a ha
  | mtwiMboxCmd => exact (execMtwiMboxCmd_within ..).same ht rfl a ha
  | leaseTimeout => exact (execLeaseTimeout_within ..).same ht rfl a ha
  | hostLeaseTimeout => exact (execHostLeaseTimeout_within ..).same ht rfl a ha
  | stageResetCheck => exact (execStageResetCheck_within ..).same ht rfl a ha
  | lockToExpiry => exact (execLockToExpiry_within ..).same ht rfl a ha
  | drainComplete => exact (execDrainComplete_within ..).same ht rfl a ha
  | faultClr => exact (execFaultClr_within ..).same ht rfl a ha
  | logAckWrite => exact (execLogAckWrite_within ..).same ht rfl a ha
  | logData0Read => exact (execLogData0Read_within ..).same ht rfl a ha
  | porstAssert => cases ht; exact State.powerOn_same s ha
  | coldBoot => exact (execColdBoot_within ..).same ht rfl a ha
  | srstAssert => exact (execSrstAssert_within ..).same ht rfl a ha
  | warmBoot => exact (execWarmBoot_within ..).same ht rfl a ha
  | bootRelease => exact (execBootRelease_within ..).same ht rfl a ha
  | fuseProg => exact (execFuseProg_within ..).same ht rfl a ha
  | qspiCmd => exact (execQspiCmd_within ..).same ht rfl a ha
  | calCtlGo => exact (execCalCtlGo_within ..).same ht rfl a ha
  | periodicCal => exact (execPeriodicCal_within ..).same ht rfl a ha
  | calAttemptDone => exact (execCalAttemptDone_within ..).same ht rfl a ha
  | tempRead => exact (execTempRead_within ..).same ht rfl a ha
  | supplyRead => exact (execSupplyRead_within ..).same ht rfl a ha
  | headroomSample => exact (execHeadroomSample_within ..).same ht rfl a ha
  | avsPeriod => exact (execAvsPeriod_within ..).same ht rfl a ha
  | mbistGo => exact (execMbistGo_within ..).same ht rfl a ha
  | mbistDone => exact (execMbistDone_within ..).same ht rfl a ha
  | tapInstruction => exact (execTapInstruction_within ..).same ht rfl a ha
  | testLogicReset => exact (execTestLogicReset_within ..).same ht rfl a ha
  | commitReq => exact (execCommitReq_within ..).same ht rfl a ha
  | commitEffect => exact (execCommitEffect_within ..).same ht rfl a ha
  | lockAcquire => exact (execLockAcquire_within ..).same ht rfl a ha
  | lockRelease => exact (execLockRelease_within ..).same ht rfl a ha
  | pageSrst => exact (execPageSrst_within ..).same ht rfl a ha
  | pageSrstDone => exact (execPageSrstDone_within ..).same ht rfl a ha
  | registerWrite => exact (execRegisterWrite_within ..).same ht rfl a ha
  | cmtLineLoRead => exact (execCmtLineLoRead_within ..).same ht rfl a ha
  | manEnWrite => exact (execManEnWrite_within ..).same ht rfl a ha
  | pinGuardWrite => exact (execPinGuardWrite_within ..).same ht rfl a ha
  | ethLinkLost => exact (execEthLinkLost_within ..).same ht rfl a ha
  | ethLinkUp => exact (execEthLinkUp_within ..).same ht rfl a ha
  | pcieLinkUp => exact (execPcieLinkUp_within ..).same ht rfl a ha
  | twlArbLost => exact (execTwlArbLost_within ..).same ht rfl a ha
  | qspiCmdDone => exact (execQspiCmdDone_within ..).same ht rfl a ha
  | clkLockLost => exact (execClkLockLost_within ..).same ht rfl a ha

/-! ### A queue without a word on chip (R487) -/

theorem State.qPopFlip_nil {s : State} {q : Nat} (flip : Word64) (h : (s.q q).words = []) : s.qPopFlip q flip = (s, none) := by
  unfold State.qPopFlip
  dsimp only
  rw [h]

theorem execQueuePop_nil {q : Fin 8192} {s : State} (flip : Word64) (h : (s.q q).words = []) : exec (.queuePop q flip) s = .next s := by
  show execQueuePop q flip s = _
  unfold execQueuePop
  rw [State.qPopFlip_nil flip h]

theorem execQueuePoll_nil {q : Fin 8192} {s : State} (flip : Word64) (h : (s.q q).words = []) :
    exec (.queuePoll q flip) s = .next (s.emit (.word q emptyPoll)) := by
  show execQueuePoll q flip s = _
  unfold execQueuePoll State.poll
  rw [State.qPopFlip_nil flip h]

/-- Settles O53: with nothing to pop, a poll adds the empty word to the outputs and a handshake consumer waits. -/
theorem pollOfAnEmptyQueueIsNotValid : Obligations.PollOfAnEmptyQueueIsNotValid :=
  fun _ flip _ h => ⟨execQueuePoll_nil flip h, execQueuePop_nil flip h⟩

end Sys2Proof.Machine
end

section
/-!
PROOFS. What a store to DRAM changes (O54): its own bytes, and no byte beside them where the RO fields of the job library are kept.
-/
namespace Sys2Proof.Machine

/-! ### Bytes of little-endian numbers -/

theorem div_256_pow_succ (x i : Nat) : x / 256 ^ (i + 1) = x / 256 / 256 ^ i := by
  rw [Nat.pow_succ, Nat.mul_comm, Nat.div_div_eq_div_mul]

theorem leNat_lt (l : List Byte) : leNat l < 256 ^ l.length := by
  induction l with
  | nil => exact Nat.one_pos
  | cons b l ih =>
    have hb := b.isLt
    show b.toNat + 256 * leNat l < 256 ^ (l.length + 1)
    rw [Nat.pow_succ]
    omega

/-- A byte of a list by its place in the number that the list spells. -/
theorem leNat_byte (l : List Byte) {i : Nat} (h : i < l.length) : BitVec.ofNat 8 (leNat l / 256 ^ i) = l[i] := by
  induction l generalizing i with
  | nil => exact absurd h (Nat.not_lt_zero i)
  | cons b l ih =>
    cases i with
    | zero =>
      show BitVec.ofNat 8 ((b.toNat + 256 * leNat l) / 256 ^ 0) = b
      rw [Nat.pow_zero, Nat.div_one, BitVec.ofNat_add, BitVec.ofNat_mul]
      simp
    | succ i =>
      have hi : i < l.length := Nat.lt_of_succ_lt_succ h
      show BitVec.ofNat 8 ((b.toNat + 256 * leNat l) / 256 ^ (i + 1)) = l[i]
      rw [div_256_pow_succ, Nat.add_mul_div_left _ _ (by decide), Nat.div_eq_of_lt b.isLt, Nat.zero_add]
      exact ih hi

theorem leBytes_byte (n x : Nat) {i : Nat} (h : i < n) :
    (leBytes n x)[i]'(by rw [leBytes_length]; exact h) = BitVec.ofNat 8 (x / 256 ^ i) := by
  rw [← leNat_byte, leNat_leBytes]
  obtain ⟨k, rfl⟩ : ∃ k, n = i + 1 + k := ⟨n - (i + 1), by omega⟩
  rw [Nat.pow_add, Nat.pow_succ, Nat.mul_assoc, Nat.mod_mul_right_div_self]
  apply BitVec.eq_of_toNat_eq
  rw [BitVec.toNat_ofNat, BitVec.toNat_ofNat]
  exact Nat.mod_mul_right_mod _ 256 _

/-! ### Bits kept under a mask -/

/-- Taking the bits under a mask away and putting others there is a choice bit by bit. -/
theorem toNat_keepBits {w : Nat} (new old m : BitVec w) :
    new.toNat - (new &&& m).toNat + (old &&& m).toNat = ((new &&& ~~~m) ||| (old &&& m)).toNat := by
  have hapart (x y : BitVec w) : (x &&& m) &&& (y &&& ~~~m) = 0#w := by
    ext i hi
    cases h : m[i] <;> simp [h]
  have hsplit : (new &&& m) ||| (new &&& ~~~m) = new := by
    ext i hi
    cases h : m[i] <;> simp [h]
  have hnew := hapart new new
  have hboth : (new &&& ~~~m) &&& (old &&& m) = 0#w := (BitVec.and_comm ..).trans (hapart old new)
  have hsum := BitVec.toNat_add_of_and_eq_zero hnew
  rw [BitVec.add_eq_or_of_and_eq_zero _ _ hnew, hsplit] at hsum
  rw [← BitVec.add_eq_or_of_and_eq_zero _ _ hboth, BitVec.toNat_add_of_and_eq_zero hboth]
  omega

theorem byte_keepBits {w : Nat} (new old m : BitVec w) (k : Nat) (h : new.extractLsb' k 8 = old.extractLsb' k 8) :
    ((new &&& ~~~m) ||| (old &&& m)).extractLsb' k 8 = old.extractLsb' k 8 := by
  ext i hi
  have hbit := congrArg (·.getLsbD i) h
  simp only [BitVec.getLsbD_extractLsb', hi, decide_true, Bool.true_and] at hbit
  simp only [BitVec.getElem_extractLsb', BitVec.getLsbD_or, BitVec.getLsbD_and, BitVec.getLsbD_not, hbit]
  cases hm : m.getLsbD (k + i)
  · by_cases hw : k + i < w
    · simp [hw]
    · simp [hw, BitVec.getLsbD_of_ge _ _ (Nat.le_of_not_lt hw)]
  · simp

theorem byte_extract {w : Nat} (x : BitVec w) (i : Nat) : BitVec.ofNat 8 (x.toNat / 256 ^ i) = x.extractLsb' (8 * i) 8 := by
  apply BitVec.eq_of_toNat_eq
  rw [BitVec.toNat_ofNat, BitVec.extractLsb'_toNat, Nat.shiftRight_eq_div_pow, Nat.pow_mul]

/-- Where a byte of two numbers is the same, it stays the same as one takes the bits under a mask from the other. -/
theorem byte_restored {w new old : Nat} (m i : Nat) (hn : new < 2 ^ w) (ho : old < 2 ^ w)
    (h : BitVec.ofNat 8 (new / 256 ^ i) = BitVec.ofNat 8 (old / 256 ^ i)) :
    BitVec.ofNat 8 ((new - (new &&& m) + (old &&& m)) / 256 ^ i) = BitVec.ofNat 8 (old / 256 ^ i) := by
  have hand {x : Nat} (hx : x < 2 ^ w) : (BitVec.ofNat w x &&& BitVec.ofNat w m).toNat = x &&& m := by
    rw [BitVec.toNat_and, BitVec.toNat_ofNat, BitVec.toNat_ofNat, ← Nat.and_mod_two_pow]
    exact Nat.mod_eq_of_lt (Nat.lt_of_le_of_lt Nat.and_le_left hx)
  have hnat {x : Nat} (hx : x < 2 ^ w) : (BitVec.ofNat w x).toNat = x := by rw [BitVec.toNat_ofNat, Nat.mod_eq_of_lt hx]
  have hkeep := toNat_keepBits (BitVec.ofNat w new) (BitVec.ofNat w old) (BitVec.ofNat w m)
  rw [hand hn, hand ho, hnat hn] at hkeep
  rw [← hnat hn, ← hnat ho, byte_extract, byte_extract] at h
  have hbyte := byte_keepBits _ _ (BitVec.ofNat w m) _ h
  rw [hkeep, byte_extract, hbyte, ← byte_extract, hnat ho]

/-! ### Bytes of DRAM -/

theorem tabGetList_length {α : Type} (d : Nat → α) (t : Tab α) (k n : Nat) : (tabGetList d t k n).length = n := by
  induction n generalizing k with
  | zero => rfl
  | succ n ih => exact congrArg (· + 1) (ih (k + 1))

theorem tabGetList_getElem {α : Type} (d : Nat → α) (t : Tab α) (k n : Nat) {i : Nat} (h : i < n) :
    (tabGetList d t k n)[i]'(by rw [tabGetList_length]; exact h) = tabGet d t (k + i) := by
  induction n generalizing k i with
  | zero => exact absurd h (Nat.not_lt_zero i)
  | succ n ih =>
    cases i with
    | zero => rfl
    | succ i => exact (ih (k + 1) (Nat.lt_of_succ_lt_succ h)).trans (by rw [Nat.add_assoc, Nat.add_comm 1 i])

theorem State.dram_length (s : State) (a n : Nat) : (s.dram a n).length = n := tabGetList_length ..

/-- A byte of DRAM by its place in the number that a range spells. -/
theorem State.dram_byte (s : State) (a n : Nat) {i : Nat} (h : i < n) : s.dram (a + i) 1 = [BitVec.ofNat 8 (s.dramNat a n / 256 ^ i)] := by
  unfold State.dramNat
  rw [leNat_byte _ (by rw [s.dram_length]; exact h)]
  exact congrArg (fun b => [b]) (tabGetList_getElem _ _ a n h).symm

theorem State.dramNat_lt (s : State) (a n : Nat) : s.dramNat a n < 2 ^ (8 * n) := by
  have h := leNat_lt (s.dram a n)
  rwa [s.dram_length, show 256 = 2 ^ 8 from rfl, ← Nat.pow_mul] at h

theorem State.dramPut_byte {s : State} {a : Nat} {l : List Byte} (h : a + l.length ≤ s.capacity) {i : Nat} (hi : i < l.length) :
    (s.dramPut a l).dram (a + i) 1 = [l[i]] := by
  rw [State.dram_byte _ _ l.length hi]
  unfold State.dramNat
  simp only [State.dram_dramPut s a l h, leNat_byte l hi]

theorem State.dramPut_past {s : State} {a : Nat} {l : List Byte} (h : s.capacity < a + l.length) : s.dramPut a l = s := if_pos h

/-! ### A host write (R578, R700) -/

/-- Putting back the bits under a mask leaves a byte as it was that the write has not changed. -/
theorem State.dramPut_restored {s t : State} (p m : Nat) {b : Nat} (h : t.dram b 1 = s.dram b 1) :
    (t.dramPut p (leBytes 64 (t.dramNat p 64 - (t.dramNat p 64 &&& m) + (s.dramNat p 64 &&& m)))).dram b 1 = s.dram b 1 := by
  generalize hl : leBytes 64 _ = l
  have hlen : l.length = 64 := by rw [← hl, leBytes_length]
  by_cases hcap : t.capacity < p + l.length
  · rw [State.dramPut_past hcap, h]
  by_cases hin : p ≤ b ∧ b < p + 64
  · obtain ⟨i, rfl⟩ := Nat.exists_eq_add_of_le hin.1
    have hi : i < 64 := by omega
    rw [State.dram_byte t p 64 hi, State.dram_byte s p 64 hi, List.cons.injEq] at h
    rw [State.dramPut_byte (Nat.le_of_not_lt hcap) (by omega), State.dram_byte s p 64 hi]
    subst hl
    rw [leBytes_byte 64 _ hi,
      byte_restored m i (t.dramNat_lt p 64) (s.dramNat_lt p 64) h.1]
  · rw [State.dram_dramPut_apart _ _ _ _ _ (by omega), h]

theorem State.storeHost_outside (s : State) {a b : Nat} {l : List Byte} (h : b < a ∨ a + l.length ≤ b) :
    (s.storeHost a l).dram b 1 = s.dram b 1 := by
  unfold State.storeHost
  refine List.foldlRecOn (motive := fun t : State => t.dram b 1 = s.dram b 1) _ _ (State.dram_dramPut_apart _ _ _ _ _ (by omega))
    fun t ht x _ => ?_
  dsimp only
  have hput := State.dramPut_restored x.2.1 x.2.2 ht
  generalize decide (t.dramNat x.2.1 64 &&& x.2.2 ≠ s.dramNat x.2.1 64 &&& x.2.2) = changed
  cases changed with
  | false => exact ht
  | true =>
    rw [if_pos rfl]
    split
    · exact hput
    · exact hput

theorem bar2WriteChangesItsBytes (a : Nat) (data : List Byte) (s : State) :
    ∃ t, exec (.bar2Write a data) s = .next t ∧
      (s.on Pg.PCIE Fd.PCIE_STAT_LINK_UP = true → s.mode ≠ .boot → data ≠ [] → s.outOfRange a data.length = false →
        (∀ j, j < 64 → s.inJob j a data.length = false) → ∀ b, b < a ∨ a + data.length ≤ b → t.dram b 1 = s.dram b 1) := by
  refine ⟨_, rfl, fun hlink hmode hd hr hj b hb => ?_⟩
  rw [if_pos (by simp [State.hostLink, hlink, hmode]),
    State.hostWrite_free hd ((s.countBar2_outOfRange ..).trans hr) fun j hlt => (State.inJob_lib s.countBar2_lib ..).trans (hj j hlt),
    State.storeHost_outside _ hb]
  exact State.dram_of (State.countBar2_lib s).mem (State.countBar2_lib s).blank ..

/-- Settles O54: a store by whether it fits the capacity, a host write by the RO fields that it restores. -/
theorem storesChangeTheirBytesAlone : Obligations.StoresChangeTheirBytesAlone :=
  ⟨fun s a l => ⟨fun h => ⟨s.dram_dramPut a l h, fun _ hb => State.dram_dramPut_apart _ _ _ _ _ (by omega)⟩, State.dramPut_past⟩,
    bar2WriteChangesItsBytes⟩

end Sys2Proof.Machine
end

section
/-!
PROOFS. Customer fuses (O42, O52) and the commands to the flash (O42).
-/
namespace Sys2Proof.Machine

theorem State.touchWrite_mode (s : State) (o : Owner) {p off : Nat} (w : Word) (h : p ≠ Pg.SYS) (ho : off < 4096) :
    ((s.touch o p).writeReg p off w).mode = s.mode := (State.mode_writeReg _ h ho).trans (s.touch_mode o p)

/-- What a write that is not granted does: nothing, or the record of a refusal. -/
theorem State.guarded_other {s : State} {o : Owner} {p off : Nat} {f : State → State} (h : s.access o p ≠ .granted) :
    s.guarded o p off f = s ∨ ∃ lock, s.guarded o p off f = s.refuse o p off lock := by
  cases ha : s.access o p with
  | granted => exact absurd ha h
  | guard => exact .inr ⟨_, State.guarded_guard ha⟩
  | lock => exact .inr ⟨_, State.guarded_lock ha⟩
  | absent => exact .inl (State.guarded_absent ha)

/-! ### Customer fuses (R626) -/

/-- The state as a write of PROG_CTL leaves it before GO acts. -/
abbrev State.fuseAsked (s : State) (o : Owner) (w : Word) : State := (s.touch o Pg.FUSE).writeReg Pg.FUSE Rg.FUSE_PROG_CTL w

/-- The state after GO. -/
def State.fuseAnswered (s : State) (o : Owner) (w : Word) : State :=
  if 512 ≤ wf w 0 31 then (s.fuseAsked o w).logErr Er.FUSE_PROG Pg.FUSE (wf w 0 31)
  else if s.mode ≠ .idle then s.fuseAsked o w
  else (s.fuseAsked o w).blowFuses (2 ^ wf w 0 9)

theorem execFuseProg_go {o : Owner} {w : Word} {s : State} (h : s.access o Pg.FUSE = .granted) (hgo : wf w 31 1 = 1) :
    exec (.fuseProg o w) s = .next (s.fuseAnswered o w) := by
  refine congrArg Host.Outcome.next ((State.guarded_granted h).trans ?_)
  unfold State.fuseProg State.fuseAnswered
  dsimp only
  rw [if_neg (by rw [hgo]; decide), s.touchWrite_mode o w (by decide) (by decide)]

section
variable (s : State) (o : Owner) {w : Word}

theorem State.fuseAsked_kept (w : Word) : (s.fuseAsked o w).fuse = s.fuse ∧ (s.fuseAsked o w).log = s.log ∧
    regsKept [Pg.FUSE * 4096 + Rg.FUSE_PROG_CTL] s (s.fuseAsked o w) := by
  have hframe := s.touchWrite_within o Pg.FUSE Rg.FUSE_PROG_CTL w
  exact ⟨hframe.fuse_eq rfl, hframe.log_eq rfl, regsKept_one fun _ ha => State.touchWrite_same ha⟩

theorem State.fuseAnswered_idle (hbit : wf w 0 31 < 512) (hm : s.mode = .idle) :
    (s.fuseAnswered o w).fuse = s.fuse ||| 2 ^ wf w 0 31 ∧ regsKept [Pg.FUSE * 4096 + Rg.FUSE_PROG_CTL] s (s.fuseAnswered o w) := by
  obtain ⟨hfuse, -, hregs⟩ := s.fuseAsked_kept o w
  have h9 : wf w 0 9 = wf w 0 31 := by
    unfold wf nb at hbit ⊢
    omega
  unfold State.fuseAnswered
  rw [if_neg (by omega), if_neg (by simp [hm]), h9]
  exact ⟨congrArg (· ||| _) hfuse, hregs⟩

theorem State.fuseAnswered_other (hbit : wf w 0 31 < 512) (hm : s.mode ≠ .idle) :
    (s.fuseAnswered o w).fuse = s.fuse ∧ regsKept [Pg.FUSE * 4096 + Rg.FUSE_PROG_CTL] s (s.fuseAnswered o w) := by
  obtain ⟨hfuse, -, hregs⟩ := s.fuseAsked_kept o w
  unfold State.fuseAnswered
  rw [if_neg (by omega), if_pos hm]
  exact ⟨hfuse, hregs⟩

theorem State.fuseAnswered_past (hbit : 512 ≤ wf w 0 31) : (s.fuseAnswered o w).fuse = s.fuse ∧
    ∃ x : State, x.fuse = s.fuse ∧ x.log = s.log ∧ s.fuseAnswered o w = x.logErr Er.FUSE_PROG Pg.FUSE (wf w 0 31) := by
  obtain ⟨hfuse, hlog, -⟩ := s.fuseAsked_kept o w
  unfold State.fuseAnswered
  rw [if_pos hbit]
  exact ⟨((State.logMinor_within (by decide)).fuse_eq rfl).trans hfuse, _, hfuse, hlog, rfl⟩

end

/-- Settles O52: a granted request by its bit and the mode, any other by its refusal; no command clears a bit. -/
theorem customerFusesAreProgrammedAndNeverErased : Obligations.CustomerFusesAreProgrammedAndNeverErased := by
  refine ⟨fun o w s hgo h => ⟨_, execFuseProg_go h hgo, fun hbit hm => (s.fuseAnswered_idle o hbit hm).1,
    fun hbit hm => (s.fuseAnswered_other o hbit hm).1, s.fuseAnswered_past o⟩, fun o w s h => ⟨_, rfl, ?_⟩, fun i s t ht => (exec_kept ht).fuse⟩
  rcases State.guarded_other h with hs | ⟨lock, hs⟩
  · rw [hs]
  · rw [hs, State.refuse_fuse]

/-! ### Commands to the flash (R637, R640) -/

/-- The state as a write of QSPI.CMD leaves it before GO acts. -/
abbrev State.qspiAsked (s : State) (o : Owner) (w : Word) : State := (s.touch o Pg.QSPI).writeReg Pg.QSPI Rg.QSPI_CMD w

theorem qspiCmdDef : regDefAt (Pg.QSPI * 4096 + Rg.QSPI_CMD) = some ⟨0x048, 0, 262143, 0, 0, 0, 0⟩ := by decide

/-- The address that the command in a word has. -/
def State.qspiAddr (s : State) (w : Word) : Option Nat :=
  let a := (s.rd Pg.QSPI Rg.QSPI_ADDR).toNat
  if wf w 8 2 = 1 then some (a % 2 ^ 24) else if wf w 8 2 = 2 then some a else none

/-- Whether the command in a word would write to the slot that booted. -/
abbrev State.qspiProt (s : State) (w : Word) : Prop := wf w 17 1 = 1 ∧ ((s.qspiAddr w).map s.flashProtected).getD false = true

/-- The bytes that the command in a word sends. -/
def State.qspiLen (s : State) (w : Word) : Nat := if wf w 15 2 = 2 then Nat.min 256 (s.fld Pg.QSPI Fd.QSPI_LEN_b0) else 0

/-- The controller is on and idle. -/
abbrev State.qspiLive (s : State) : Prop := s.blockOn Pg.QSPI Fd.QSPI_CTL_EN = true ∧ s.on Pg.QSPI Fd.QSPI_STAT_BUSY = false

section
variable (s : State) (o : Owner) (w : Word)

theorem State.qspiAsked_rd {off : Nat} (h : off ≠ Rg.QSPI_CMD) : (s.qspiAsked o w).rd Pg.QSPI off = s.rd Pg.QSPI off :=
  (State.touchWrite_same (off_ne h)).rd

theorem State.qspiAsked_fld {g : Fld} (h : g.off ≠ Rg.QSPI_CMD) : (s.qspiAsked o w).fld Pg.QSPI g = s.fld Pg.QSPI g :=
  (State.touchWrite_same (off_ne h)).fld

theorem State.qspiAsked_on {g : Fld} (h : g.off ≠ Rg.QSPI_CMD) : (s.qspiAsked o w).on Pg.QSPI g = s.on Pg.QSPI g :=
  (State.touchWrite_same (off_ne h)).on

/-- The fields of CMD read as they were written. -/
theorem State.qspiAsked_cmd {g : Fld} (h : g.off = Rg.QSPI_CMD) (hm : ∀ i < g.len, (262143 : Word).getLsbD (g.lo + i) = true) :
    (s.qspiAsked o w).fld Pg.QSPI g = wf w g.lo g.len :=
  State.fld_writeReg _ _ _ _ g _ qspiCmdDef rfl rfl rfl h hm

theorem State.qspiAsked_addr : (s.qspiAsked o w).flashAddr = s.qspiAddr w := by
  unfold State.flashAddr State.qspiAddr
  dsimp only
  rw [s.qspiAsked_rd o w (by decide), s.qspiAsked_cmd o w rfl (by decide)]
  show (match wf w 8 2 with | 1 => _ | 2 => _ | _ => _) = _
  split
  · next h => rw [if_pos h]
  · next h => rw [if_neg (by omega), if_pos h]
  · next h1 h2 => rw [if_neg h1, if_neg h2]

theorem State.qspiAsked_protected : (s.qspiAsked o w).flashProtected = s.flashProtected := by
  funext a
  unfold State.flashProtected
  rw [s.qspiAsked_rd o w (by decide), s.qspiAsked_rd o w (by decide)]

theorem State.qspiAsked_live : (s.qspiAsked o w).qspiLive ↔ s.qspiLive := by
  unfold State.qspiLive State.blockOn
  rw [s.qspiAsked_on o w (by decide), s.qspiAsked_on o w (by decide), s.qspiAsked_on o w (by decide)]

theorem State.qspiAsked_kept : (s.qspiAsked o w).out = s.out ∧ (s.qspiAsked o w).fifo = s.fifo := by
  have hframe := s.touchWrite_within o Pg.QSPI Rg.QSPI_CMD w
  exact ⟨hframe.out_eq rfl, hframe.fifo_eq rfl⟩

end
/-- A command sent: its bytes leave the FIFO, BUSY is set and the command counted. -/
def State.qspiSent (s : State) (opcode : Nat) (addr : Option Nat) (n : Nat) : State :=
  (((s.setFifo 10 ((s.fifoOf 10).drop n)).setFld Pg.QSPI Fd.QSPI_STAT_BUSY 1).bump Pg.QSPI Fd.QSPI_CNT_b0).emit
    (.flash opcode addr ((s.fifoOf 10).take n))

/-- A command refused, flagged, counted and logged. -/
def State.qspiRefused (s : State) : State :=
  ((s.flag Pg.QSPI Fd.QSPI_STAT_PROT_REFUSED).bump Pg.QSPI Fd.QSPI_CNT_b16).logErr Er.QSPI_PROT Pg.QSPI

section
variable {s : State} {l : List Byte}

/-- Sending a command leaves the registers that hold it. -/
theorem State.qspiSending_same {a : Nat} (h1 : a ≠ Pg.QSPI * 4096 + Fd.QSPI_STAT_BUSY.off) (h2 : a ≠ Pg.QSPI * 4096 + Fd.QSPI_CNT_b0.off) :
    RegSame a s (((s.setFifo 10 l).setFld Pg.QSPI Fd.QSPI_STAT_BUSY 1).bump Pg.QSPI Fd.QSPI_CNT_b0) :=
  (State.bump_same h2).step (State.setFld_same h1)

theorem State.qspiSending_fld {g : Fld} (h1 : g.off ≠ Fd.QSPI_STAT_BUSY.off) (h2 : g.off ≠ Fd.QSPI_CNT_b0.off) :
    (((s.setFifo 10 l).setFld Pg.QSPI Fd.QSPI_STAT_BUSY 1).bump Pg.QSPI Fd.QSPI_CNT_b0).fld Pg.QSPI g = s.fld Pg.QSPI g :=
  (State.qspiSending_same (off_ne h1) (off_ne h2)).fld

theorem State.qspiSending_addr :
    (((s.setFifo 10 l).setFld Pg.QSPI Fd.QSPI_STAT_BUSY 1).bump Pg.QSPI Fd.QSPI_CNT_b0).flashAddr = s.flashAddr := by
  unfold State.flashAddr
  rw [State.qspiSending_fld (by decide) (by decide),
    (State.qspiSending_same (a := Pg.QSPI * 4096 + Rg.QSPI_ADDR) (by decide) (by decide)).rd]

end

theorem execQspiCmd_go {o : Owner} {w : Word} {s : State} (h : s.access o Pg.QSPI = .granted) (hgo : wf w 31 1 = 1) :
    exec (.qspiCmd o w) s = .next (
      if ¬s.qspiLive then s.qspiAsked o w
      else if s.qspiProt w then (s.qspiAsked o w).qspiRefused
      else (s.qspiAsked o w).qspiSent (wf w 0 8) (s.qspiAddr w) (s.qspiLen w)) := by
  refine congrArg Host.Outcome.next ((State.guarded_granted h).trans ?_)
  show State.qspiCmd _ w = _
  have hwrite : (s.qspiAsked o w).on Pg.QSPI Fd.QSPI_CMD_WRITE_OP = (wf w 17 1 != 0) :=
    congrArg (· != 0) (s.qspiAsked_cmd o w rfl (by decide))
  have hbit : wf w 17 1 < 2 := Nat.mod_lt _ (by decide)
  have hlive := s.qspiAsked_live o w
  unfold State.qspiCmd
  dsimp only
  by_cases hl : s.qspiLive
  · obtain ⟨hon, hbusy⟩ := hlive.2 hl
    rw [hwrite, s.qspiAsked_addr o w, s.qspiAsked_protected o w, if_neg (by simp [hgo, hon, hbusy]), if_neg (not_not.2 hl)]
    by_cases hp : s.qspiProt w
    · rw [if_pos hp, if_pos (by simp [hp.1, hp.2])]
      rfl
    · rw [if_neg hp, if_neg (by rw [Bool.and_eq_true, bne_iff_ne]; exact fun hq => hp ⟨by omega, hq.2⟩)]
      rw [s.qspiAsked_cmd o w rfl (by decide), s.qspiAsked_fld o w (by decide), State.qspiSending_addr, s.qspiAsked_addr o w,
        State.qspiSending_fld (by decide) (by decide), s.qspiAsked_cmd o w rfl (by decide)]
      rfl
  · rw [if_pos hl, if_pos (by simpa [hgo, Bool.and_eq_true, or_iff_not_imp_left] using mt hlive.1 hl)]

section
variable {s x : State} {opcode n : Nat} {addr : Option Nat}

theorem State.qspiSent_shows : (x.qspiSent opcode addr n).out = x.out ++ [.flash opcode addr ((x.fifoOf 10).take n)] ∧
    (x.qspiSent opcode addr n).fifoOf 10 = (x.fifoOf 10).drop n ∧ (x.qspiSent opcode addr n).on Pg.QSPI Fd.QSPI_STAT_BUSY = true ∧
    (x.qspiSent opcode addr n).fld Pg.QSPI Fd.QSPI_CNT_b0 = satN 16 (x.fld Pg.QSPI Fd.QSPI_CNT_b0 + 1) := by
  refine ⟨?_, ?_, ?_, ?_⟩
  · unfold State.qspiSent
    rw [State.emit_out, State.bump_out, State.setFld_out]
    rfl
  · exact State.fifoOf_setFifo x 10 _
  · unfold State.qspiSent
    rw [State.emit_on, State.on_bump_p (by decide) (by decide), State.on_one (by decide) (by decide)]
  · unfold State.qspiSent
    rw [State.emit_fld, State.fld_bump _ _ _ (by decide), State.fld_setFld_p (by decide) (by decide)]
    rfl

theorem State.qspiRefused_shows (hbusy : x.on Pg.QSPI Fd.QSPI_STAT_BUSY = false) :
    x.qspiRefused.on Pg.QSPI Fd.QSPI_STAT_PROT_REFUSED = true ∧ x.qspiRefused.on Pg.QSPI Fd.QSPI_STAT_BUSY = false ∧
      x.qspiRefused.fifo = x.fifo ∧ x.qspiRefused.fld Pg.QSPI Fd.QSPI_CNT_b16 = satN 16 (x.fld Pg.QSPI Fd.QSPI_CNT_b16 + 1) := by
  unfold State.qspiRefused
  refine ⟨?_, ?_, ?_, ?_⟩
  · rw [State.on_logMinor_p (by decide) (by decide) (by decide) (by decide) (by decide), State.on_bump_p (by decide) (by decide),
      State.on_flag_self (by decide) (by decide) (by decide) (by decide)]
  · rw [State.on_logMinor_p (by decide) (by decide) (by decide) (by decide) (by decide), State.on_bump_p (by decide) (by decide),
      State.on_flag_p (by decide) (by decide) (by decide) (by decide), hbusy]
  · rw [(State.logMinor_within (by decide)).fifo_eq rfl, State.bump_fifo, State.flag_fifo]
  · rw [State.fld_logMinor_p (by decide) (by decide) (by decide) (by decide) (by decide), State.fld_bump _ _ _ (by decide),
      State.fld_flag_p (by decide) (by decide) (by decide) (by decide)]

/-- A GO of the flash's command, by what it finds. -/
theorem qspiCmdSendsOrRefuses {o : Owner} {w : Word} (h : s.access o Pg.QSPI = .granted) (hgo : wf w 31 1 = 1) :
    ∃ t, exec (.qspiCmd o w) s = .next t ∧
      (¬s.qspiLive → t.out = s.out ∧ t.fifo = s.fifo ∧ regsKept [Pg.QSPI * 4096 + Rg.QSPI_CMD] s t) ∧
      (s.qspiLive → ¬s.qspiProt w → t.out = s.out ++ [.flash (wf w 0 8) (s.qspiAddr w) ((s.fifoOf 10).take (s.qspiLen w))] ∧
        t.fifoOf 10 = (s.fifoOf 10).drop (s.qspiLen w) ∧ t.on Pg.QSPI Fd.QSPI_STAT_BUSY = true ∧
        t.fld Pg.QSPI Fd.QSPI_CNT_b0 = satN 16 (s.fld Pg.QSPI Fd.QSPI_CNT_b0 + 1)) ∧
      (s.qspiLive → s.qspiProt w → t.on Pg.QSPI Fd.QSPI_STAT_PROT_REFUSED = true ∧ t.on Pg.QSPI Fd.QSPI_STAT_BUSY = false ∧
        t.fifo = s.fifo ∧ t.fld Pg.QSPI Fd.QSPI_CNT_b16 = satN 16 (s.fld Pg.QSPI Fd.QSPI_CNT_b16 + 1)) := by
  obtain ⟨hout, hfifo⟩ := s.qspiAsked_kept o w
  have hbytes : (s.qspiAsked o w).fifoOf 10 = s.fifoOf 10 := congrArg (fun m => tabGet (dflt []) m 10) hfifo
  refine ⟨_, execQspiCmd_go h hgo, fun hl => ?_, fun hl hp => ?_, fun hl hp => ?_⟩
  · rw [if_pos hl]
    exact ⟨hout, hfifo, regsKept_one fun _ ha => State.touchWrite_same ha⟩
  · rw [if_neg (not_not.2 hl), if_neg hp, ← hout, ← hbytes, ← s.qspiAsked_fld o w (g := Fd.QSPI_CNT_b0) (by decide)]
    exact State.qspiSent_shows
  · rw [if_neg (not_not.2 hl), if_pos hp, ← hfifo, ← s.qspiAsked_fld o w (g := Fd.QSPI_CNT_b16) (by decide)]
    exact State.qspiRefused_shows ((s.qspiAsked_live o w).2 hl).2

end

/-- The bytes read by the command in progress enter the FIFO, in the modes that read. -/
def State.qspiTaken (s : State) (data : List Byte) : State :=
  if s.fld Pg.QSPI Fd.QSPI_CMD_b15 = 1 ∨ s.fld Pg.QSPI Fd.QSPI_CMD_b15 = 3 then
    (s.setFld Pg.QSPI Fd.QSPI_STAT_BUSY 0).fifoPut 10 (data.take (s.fld Pg.QSPI Fd.QSPI_LEN_b0))
  else s.setFld Pg.QSPI Fd.QSPI_STAT_BUSY 0

theorem State.qspiTaken_regs (s : State) (data : List Byte) : (s.qspiTaken data).regs = (s.setFld Pg.QSPI Fd.QSPI_STAT_BUSY 0).regs := by
  unfold State.qspiTaken
  split
  · rfl
  · rfl

/-- The status poll of a write ran out of time. -/
abbrev State.qspiLate (s : State) (timeout : Bool) : Prop :=
  timeout = true ∧ s.on Pg.QSPI Fd.QSPI_POLL_EN = true ∧ s.on Pg.QSPI Fd.QSPI_CMD_WRITE_OP = true

section
variable {s : State} {data : List Byte} {timeout : Bool}

theorem State.qspiDone_busy (h : s.on Pg.QSPI Fd.QSPI_STAT_BUSY = true) :
    s.qspiDone data timeout = (s.qspiTaken data).flag Pg.QSPI
      (if s.qspiLate timeout then Fd.QSPI_STAT_POLL_TIMEOUT else Fd.QSPI_STAT_DONE) := by
  have hon : ∀ {g : Fld}, apart Fd.QSPI_STAT_BUSY g → (s.qspiTaken data).on Pg.QSPI g = s.on Pg.QSPI g := fun h =>
    (State.on_of (s.qspiTaken_regs data) _ _).trans (State.on_setFld_p (by decide) h)
  unfold State.qspiDone
  dsimp only
  rw [h, State.fld_setFld_p (f := Fd.QSPI_STAT_BUSY) (g := Fd.QSPI_LEN_b0) (by decide) (by decide), Bool.not_true, if_neg Bool.false_ne_true]
  show (if timeout && (s.qspiTaken data).on Pg.QSPI Fd.QSPI_POLL_EN && (s.qspiTaken data).on Pg.QSPI Fd.QSPI_CMD_WRITE_OP
    then (s.qspiTaken data).flag Pg.QSPI Fd.QSPI_STAT_POLL_TIMEOUT else (s.qspiTaken data).flag Pg.QSPI Fd.QSPI_STAT_DONE) = _
  rw [hon (by decide), hon (by decide), apply_ite ((s.qspiTaken data).flag Pg.QSPI)]
  simp only [Bool.and_eq_true, and_assoc]

theorem State.qspiDone_shows (h : s.on Pg.QSPI Fd.QSPI_STAT_BUSY = true) : (s.qspiDone data timeout).on Pg.QSPI Fd.QSPI_STAT_BUSY = false ∧
    (s.qspiLate timeout → (s.qspiDone data timeout).on Pg.QSPI Fd.QSPI_STAT_POLL_TIMEOUT = true) ∧
    (¬s.qspiLate timeout → (s.qspiDone data timeout).on Pg.QSPI Fd.QSPI_STAT_DONE = true) := by
  have hbusy : (s.qspiTaken data).on Pg.QSPI Fd.QSPI_STAT_BUSY = false :=
    (State.on_of (s.qspiTaken_regs data) _ _).trans (State.on_zero (by decide))
  rw [State.qspiDone_busy h]
  by_cases hl : s.qspiLate timeout
  · rw [if_pos hl]
    exact ⟨(State.on_flag_p (by decide) (by decide) (by decide) (by decide)).trans hbusy,
      fun _ => State.on_flag_self (by decide) (by decide) (by decide) (by decide), fun hn => absurd hl hn⟩
  · rw [if_neg hl]
    exact ⟨(State.on_flag_p (by decide) (by decide) (by decide) (by decide)).trans hbusy, fun hn => absurd hn hl,
      fun _ => State.on_flag_self (by decide) (by decide) (by decide) (by decide)⟩

theorem State.qspiDone_fifo (h : s.on Pg.QSPI Fd.QSPI_STAT_BUSY = true) :
    (s.fld Pg.QSPI Fd.QSPI_CMD_b15 = 1 ∨ s.fld Pg.QSPI Fd.QSPI_CMD_b15 = 3 → (s.qspiDone data timeout).fifoOf 10 =
      (s.fifoOf 10 ++ data.take (s.fld Pg.QSPI Fd.QSPI_LEN_b0)).take (Nat.max 256 (s.fifoOf 10).length)) ∧
    (s.fld Pg.QSPI Fd.QSPI_CMD_b15 ≠ 1 ∧ s.fld Pg.QSPI Fd.QSPI_CMD_b15 ≠ 3 → (s.qspiDone data timeout).fifo = s.fifo) := by
  have hfifo : (s.qspiDone data timeout).fifo = (s.qspiTaken data).fifo := by rw [State.qspiDone_busy h, State.flag_fifo]
  constructor
  · intro hm
    refine (congrArg (fun m => tabGet (dflt []) m 10) hfifo).trans ?_
    unfold State.qspiTaken
    rw [if_pos hm]
    exact State.fifoOf_setFifo _ _ _
  · rintro ⟨h1, h3⟩
    rw [hfifo]
    unfold State.qspiTaken
    rw [if_neg (by omega), State.setFld_fifo]

end

/-- Settles O42: GO of PROG_CTL by bit and mode, GO of the flash's command by what it finds, and its end. -/
theorem fusesAreBlownAndFlashCommandsSent : Obligations.FusesAreBlownAndFlashCommandsSent := by
  refine ⟨fun o w s h hgo => ⟨_, execFuseProg_go h hgo, fun hm hbit => s.fuseAnswered_idle o hbit hm,
    fun hm hbit => s.fuseAnswered_other o hbit hm, fun hbit => (s.fuseAnswered_past o hbit).1⟩,
    fun o w s h hgo => qspiCmdSendsOrRefuses h hgo, fun data timeout s => ⟨_, rfl, fun hb => ?_, fun hb => ?_⟩⟩
  · unfold State.qspiDone
    rw [if_pos (by simpa using hb)]
  · obtain ⟨hbusy, hlate, hdone⟩ := State.qspiDone_shows (data := data) (timeout := timeout) hb
    exact ⟨hbusy, hlate, hdone, State.qspiDone_fifo hb⟩

end Sys2Proof.Machine
end

section
/-!
PROOFS. Temperatures, supplies and headroom, and the adaptive voltage (O44).
-/
namespace Sys2Proof.Machine

theorem State.atNs_hlthOn (s : State) (n : Nat) : (s.atNs n).hlthOn = s.hlthOn := rfl

theorem State.fld_withHlth (s : State) (h : Health) (p : Nat) (f : Fld) : ({ s with hlth := h } : State).fld p f = s.fld p f := rfl

/-! ### Values stored by their place in a list -/

section
variable {σ α : Type} {f : σ → Nat × Nat → σ} {g : σ → Nat → α} {h : Nat → α}
  (hstep : ∀ s e k, g (f s e) k = if k = e.2 then h e.1 else g s k)
include hstep

theorem foldl_zipIdx_before (l : List Nat) {n i : Nat} (s : σ) (hi : i < n) : g ((l.zipIdx n).foldl f s) i = g s i := by
  induction l generalizing n s with
  | nil => rfl
  | cons v l ih =>
    refine (ih (n := n + 1) (f s (v, n)) (by omega)).trans ((hstep _ _ _).trans (if_neg ?_))
    exact Nat.ne_of_lt hi

theorem foldl_zipIdx_at (l : List Nat) {n i : Nat} (s : σ) (hi : i < l.length) : g ((l.zipIdx n).foldl f s) (n + i) = h l[i] := by
  induction l generalizing n i s with
  | nil => exact absurd hi (Nat.not_lt_zero _)
  | cons v l ih =>
    cases i with
    | zero => exact (foldl_zipIdx_before hstep l _ (Nat.lt_succ_self n)).trans ((hstep _ _ _).trans (if_pos rfl))
    | succ i =>
      rw [← Nat.add_assoc, Nat.add_right_comm n i 1]
      exact ih (n := n + 1) (f s (v, n)) (Nat.lt_of_succ_lt_succ hi)

/-- Of the first `m` values of a list, each is found at its own place. -/
theorem foldl_zipIdx_take (l : List Nat) {m i : Nat} (s : σ) (hi : i < l.length) (hm : i < m) :
    g ((l.take m).zipIdx.foldl f s) i = h l[i] := by
  have hlen : i < (l.take m).length := by rw [List.length_take]; omega
  have hat := foldl_zipIdx_at (n := 0) hstep (l.take m) s hlen
  rwa [Nat.zero_add, List.getElem_take] at hat

end

/-! ### Temperature (R646, R647) -/

/-- The sensors' values once the readings `l` have replaced them. -/
def tempsRead (l : List Nat) (x : Tab Nat) : Tab Nat :=
  (l.take 16).zipIdx.foldl (fun (x : Tab Nat) (e : Nat × Nat) => tabPut (dflt 0) e.2 (e.1 % 1024) x) x

/-- TEMP_WARN and its record, by the temperature and the sensor that shows it. -/
def State.tempWarned (s : State) (tj : Int) (k : Nat) : State :=
  let g := Pg.HLTH
  let warn : Int := 4 * s.fld g Fd.HLTH_TEMP_LIM_WARN
  if warn ≤ tj then
    (if s.on g Fd.HLTH_STAT_TEMP_WARN then s else (s.flag g Fd.HLTH_STAT_TEMP_WARN).logErr Er.TEMP_WARN g k)
  else if tj < warn - 4 * s.fld g Fd.HLTH_TEMP_LIM_HYST then (s.setFld g Fd.HLTH_STAT_TEMP_WARN 0).errEdge g
  else s

section
variable (s : State) (tj : Int) (k : Nat)

theorem State.tempWarned_hlth : (s.tempWarned tj k).hlth = s.hlth := by
  unfold State.tempWarned
  dsimp only
  split
  · split
    · rfl
    · rw [(State.logErr_within ..).hlth_eq rfl, State.flag_hlth]
  · split
    · rw [State.errEdge_hlth, State.setFld_hlth]
    · rfl

theorem State.tempWarned_crit : (s.tempWarned tj k).fld Pg.HLTH Fd.HLTH_TEMP_LIM_CRIT = s.fld Pg.HLTH Fd.HLTH_TEMP_LIM_CRIT := by
  unfold State.tempWarned
  dsimp only
  split
  · split
    · rfl
    · rw [State.fld_logMinor_p (by decide) (by decide) (by decide) (by decide) (by decide),
        State.fld_flag_p (by decide) (by decide) (by decide) (by decide)]
  · split
    · exact RegSame.fld (State.errEdge_at (not_headOf (by decide) (by decide))) |>.trans (State.fld_setFld_p (by decide) (by decide))
    · rfl

end

section
variable (s : State) (l : List Nat) (n : Nat)

/-- The sensors read, before warnings. -/
def State.tempStored : State := { s.atNs n with hlth := { s.hlth with temp := tempsRead l s.hlth.temp } }

/-- The readings in a row at the critical limit. -/
def State.critCount (tj : Int) : Nat :=
  if 4 * (s.fld Pg.HLTH Fd.HLTH_TEMP_LIM_CRIT : Int) ≤ tj then s.hlth.crit + 1 else 0

/-- The state as a reading leaves it before TEMP_CRIT and the recalibrations. -/
def State.tempCounted (r : State) : State :=
  let x := r.tempWarned r.tj.1 r.tj.2
  { x with hlth := { x.hlth with crit := x.critCount r.tj.1 } }

theorem State.tempRead_eq (h : ¬(s.hlthOn = false ∨ (s.calOf 1).isSome = true)) : s.tempRead l n =
    (if (s.tempStored l n).tempCounted.hlth.crit = 2 then (s.tempStored l n).tempCounted.logErr Er.TEMP_CRIT Pg.HLTH (s.tempStored l n).tj.2
      else (s.tempStored l n).tempCounted).tempRecal :=
  if_neg (c := (!s.hlthOn || (s.calOf 1).isSome) = true) (by simpa using h)

/-- What the monitors hold after a reading of the sensors. -/
theorem State.tempRead_hlth (h : ¬(s.hlthOn = false ∨ (s.calOf 1).isSome = true)) :
    (s.tempRead l n).hlth = { (s.tempStored l n).hlth with crit := s.critCount (s.tempStored l n).tj.1 } := by
  rw [s.tempRead_eq l n h, (State.tempRecal_within _).hlth_eq rfl, apply_ite State.hlth, (State.logErr_within ..).hlth_eq rfl, ite_self]
  unfold State.tempCounted State.critCount
  dsimp only
  rw [State.tempWarned_hlth, State.tempWarned_crit]
  rfl

theorem State.tempRead_tj (h : ¬(s.hlthOn = false ∨ (s.calOf 1).isSome = true)) : (s.tempRead l n).tj = (s.tempStored l n).tj := by
  unfold State.tj State.tempOf
  rw [s.tempRead_hlth l n h]

end

/-! ### Supplies (R648) -/

/-- A reading of a rail replaces its voltage and leaves the others. -/
theorem State.railRead_voltage (s : State) (e : Nat × Nat) (k : Nat) :
    (tabGet (dflt (0, 0)) (s.railRead e.2 e.1).hlth.sup k).1 = if k = e.2 then e.1 else (tabGet (dflt (0, 0)) s.hlth.sup k).1 := by
  unfold State.railRead
  dsimp only
  rw [apply_ite State.hlth, (State.logErr_within ..).hlth_eq rfl, ite_self, apply_ite State.hlth, apply_ite State.hlth, State.setBit_hlth, State.setBit_hlth,
    ite_self, ite_self, apply_ite State.hlth, (State.logErr_within ..).hlth_eq rfl, ite_self, apply_ite State.hlth,
    State.flag_hlth, ite_self]
  dsimp only
  rw [tabGet_tabPut]
  split
  · rfl
  · rfl

/-! ### Headroom (R649, R650) -/

/-- HR_LOW and its record, by the rate. -/
def State.headroomLow (s : State) (rate : Nat) : State :=
  if rate < 1500 ∧ !s.on Pg.HLTH Fd.HLTH_STAT_HR_LOW then (s.flag Pg.HLTH Fd.HLTH_STAT_HR_LOW).logErr Er.HR_LOW Pg.HLTH else s

/-- HR_CRIT and its record, by the rate and the need. -/
def State.headroomCrit (s : State) (rate need : Nat) : State :=
  if rate < need ∧ !s.on Pg.HLTH Fd.HLTH_STAT_HR_CRIT then (s.setBit Pg.HLTH Fd.HLTH_STAT_HR_CRIT (decide (rate < need))).logErr Er.HR_CRIT Pg.HLTH
  else s.setBit Pg.HLTH Fd.HLTH_STAT_HR_CRIT (decide (rate < need))

/-- RATE and NEED of a sample, and the lowest rate of the period. -/
def State.headroomShown (s : State) (rate need : Nat) : State :=
  { (s.setFld Pg.HLTH Fd.HLTH_HR_STAT_RATE (satN 16 rate)).setFld Pg.HLTH Fd.HLTH_HR_STAT_NEED (satN 16 need) with
    hlth := { s.hlth with low := some (match s.hlth.low with | some x => Nat.min x rate | none => rate) } }

section
variable {s : State} {rate need : Nat}

theorem State.headroomLow_hlth : (s.headroomLow rate).hlth = s.hlth := by
  unfold State.headroomLow
  rw [apply_ite State.hlth, (State.logErr_within ..).hlth_eq rfl, State.flag_hlth, ite_self]

theorem State.headroomLow_fld {g : Fld} (hp : plainAt g.off) (h : apart Fd.HLTH_STAT_HR_LOW g) (hg : g.off < 4096) :
    (s.headroomLow rate).fld Pg.HLTH g = s.fld Pg.HLTH g := by
  unfold State.headroomLow
  rw [apply_ite (State.fld · Pg.HLTH g), State.fld_logMinor_p (by decide) (by decide) (by decide) (by decide) hg,
    State.fld_flag_p (by decide) (by decide) hp h, ite_self]

theorem State.headroomCrit_hlth : (s.headroomCrit rate need).hlth = s.hlth := by
  unfold State.headroomCrit
  rw [apply_ite State.hlth, (State.logErr_within ..).hlth_eq rfl, State.setBit_hlth, ite_self]

theorem State.headroomCrit_on : (s.headroomCrit rate need).on Pg.HLTH Fd.HLTH_STAT_HR_CRIT = decide (rate < need) := by
  unfold State.headroomCrit
  rw [apply_ite (State.on · Pg.HLTH _), State.on_logMinor_p (by decide) (by decide) (by decide) (by decide) (by decide), ite_self,
    State.on_setBit _ _ _ _ (by decide) (by decide)]

theorem State.headroomCrit_fld {g : Fld} (h : apart Fd.HLTH_STAT_HR_CRIT g) (hg : g.off < 4096) :
    (s.headroomCrit rate need).fld Pg.HLTH g = s.fld Pg.HLTH g := by
  unfold State.headroomCrit
  rw [apply_ite (State.fld · Pg.HLTH g), State.fld_logMinor_p (by decide) (by decide) (by decide) (by decide) hg, ite_self]
  exact State.fld_setFld_p (by decide) h

theorem State.headroom_off (n : Nat) (h : s.hlthOn = false) : s.headroom rate n = s.atNs n := by
  exact if_pos (c := (!s.hlthOn) = true) (by simp [h])

theorem State.headroom_on (n : Nat) (h : s.hlthOn = true) :
    s.headroom rate n = (((s.atNs n).headroomShown rate (s.atNs n).need).headroomLow rate).headroomCrit rate (s.atNs n).need := by
  exact if_neg (c := (!s.hlthOn) = true) (by simp [h])

end

/-! ### Adaptive voltage (R651, R652) -/

section
variable {s : State} {expo : Int} {ans vout : Option Nat} {modeByte : Option Nat} {ack : Bool} {retry : Nat}

theorem State.avsFail_hlth : (s.avsFail retry).hlth = { s.hlth with retry := retry } := by
  unfold State.avsFail
  dsimp only
  rw [apply_ite State.hlth, (State.logErr_within ..).hlth_eq rfl, State.setFld_hlth, ite_self]

theorem State.avsFail_fld {g : Fld} (h : apart Fd.HLTH_AVS_STAT_LOST g) (hg : g.off < 4096) :
    (s.avsFail retry).fld Pg.HLTH g = (s.setFld Pg.HLTH Fd.HLTH_AVS_STAT_b26 (s.fld Pg.HLTH Fd.HLTH_AVS_STAT_b26 + 1)).fld Pg.HLTH g := by
  unfold State.avsFail
  dsimp only
  rw [apply_ite (State.fld · Pg.HLTH g), State.fld_logMinor_p (by decide) (by decide) (by decide) (by decide) hg,
    State.fld_setFld_p (by decide) h]
  exact ite_self _

/-- A failure counts. -/
theorem State.avsFail_count : (s.avsFail retry).fld Pg.HLTH Fd.HLTH_AVS_STAT_b26 = (s.fld Pg.HLTH Fd.HLTH_AVS_STAT_b26 + 1) % 8 := by
  rw [State.avsFail_fld (by decide) (by decide), State.fld_setFld _ _ _ _ (by decide)]
  rfl

theorem State.avsFail_voltage : (s.avsFail retry).fld Pg.HLTH Fd.HLTH_AVS_STAT_b0 = s.fld Pg.HLTH Fd.HLTH_AVS_STAT_b0 := by
  rw [State.avsFail_fld (by decide) (by decide), State.fld_setFld_p (by decide) (by decide)]

/-- Reading the voltage back changes no more of the service than what is to be tried again. -/
theorem State.avsRead_hlth : ∃ r, (s.avsRead expo ans).hlth = { s.hlth with retry := r } := by
  unfold State.avsRead
  cases ans with
  | none => exact ⟨2, State.avsFail_hlth⟩
  | some w =>
    dsimp only
    split
    · exact ⟨2, State.avsFail_hlth⟩
    · exact ⟨0, rfl⟩

theorem State.avsRead_voltage : (s.avsRead expo ans).fld Pg.HLTH Fd.HLTH_AVS_STAT_b0 = s.fld Pg.HLTH Fd.HLTH_AVS_STAT_b0 := by
  unfold State.avsRead
  cases ans with
  | none => exact State.avsFail_voltage
  | some w =>
    dsimp only
    split
    · exact State.avsFail_voltage.trans (State.fld_setFld_p (by decide) (by decide))
    · rw [State.fld_withHlth, State.fld_setFld_p (by decide) (by decide), State.fld_setFld_p (by decide) (by decide)]

/-- The service is off or lost. -/
abbrev State.avsOff (s : State) : Prop :=
  s.hlthOn = false ∨ s.on Pg.HLTH Fd.HLTH_AVS_CTL_EN = false ∨ s.on Pg.HLTH Fd.HLTH_AVS_STAT_LOST = true

/-- The next minimum starts. -/
def State.avsFresh (s : State) : State := { s with hlth := { s.hlth with low := none } }

/-- The rate of the period. -/
def State.avsRate (s : State) : Nat := s.hlth.low.getD (s.fld Pg.HLTH Fd.HLTH_HR_STAT_RATE)

/-- The periods in a row above the target. -/
def State.avsHigh (s : State) (r : Nat) : Nat :=
  if s.fld Pg.HLTH Fd.HLTH_AVS_TGT_TARGET + s.fld Pg.HLTH Fd.HLTH_AVS_TGT_HYST < r then Nat.min 10 (s.hlth.high + 1) else 0

/-- The voltage of the next period set, with the periods above the target. -/
def State.avsSet (s : State) (v high : Nat) : State :=
  { (s.setFld Pg.HLTH Fd.HLTH_AVS_STAT_b0 v) with hlth := { s.hlth with high := high } }

/-- What follows on the two-wire bus, by whether the voltage changes and what is to be tried again. -/
def State.avsSend (s : State) (expo : Int) (v v' : Nat) (ack : Bool) (vout : Option Nat) : State :=
  let s' := s.agentWrite 0x21 (leBytes 2 (toLinear expo v'))
  if v' != v || s.hlth.retry == 1 then
    if ack then ({ s' with hlth := { s'.hlth with vcmd := v' } }).avsRead expo vout else s'.avsFail 1
  else if s.hlth.retry == 2 then s.avsRead expo vout
  else s

/-- The first reading makes the voltage known. -/
def State.avsLearn (s : State) (expo : Int) (w : Nat) : State :=
  { (((s.setFld Pg.HLTH Fd.HLTH_AVS_STAT_b0 (ofLinear expo w)).setFld Pg.HLTH Fd.HLTH_AVS_STAT_READ_VOUT (ofLinear expo w)).setFld
    Pg.HLTH Fd.HLTH_AVS_STAT_b26 0) with hlth := { s.hlth with known := true } }

/-- What a period does once the regulator's exponent is known: `r` is the rate of the period. -/
def State.avsDrive (s : State) (r : Nat) (expo : Int) (ack : Bool) (vout : Option Nat) : State :=
  let g := Pg.HLTH
  if !s.hlth.known then
    match vout with
    | none => s.avsFail 0
    | some w => s.avsLearn expo w
  else
    let above := decide (s.fld g Fd.HLTH_AVS_TGT_TARGET + s.fld g Fd.HLTH_AVS_TGT_HYST < r)
    let high := if above then Nat.min 10 (s.hlth.high + 1) else 0
    let v := s.fld g Fd.HLTH_AVS_STAT_b0
    (s.avsSet (s.avsNext v r high) high).avsSend expo v (s.avsNext v r high) ack vout

theorem State.avsPeriod_off (h : s.avsOff) : s.avsPeriod modeByte ack vout = s.avsFresh :=
  if_pos (c := (!s.hlthOn || !s.on Pg.HLTH Fd.HLTH_AVS_CTL_EN || s.on Pg.HLTH Fd.HLTH_AVS_STAT_LOST) = true)
    (by simpa [or_assoc] using h)

/-- What a period does while the service is on: `r` is the rate of the period. -/
def State.avsActs (s : State) (r : Nat) (modeByte : Option Nat) (ack : Bool) (vout : Option Nat) : State :=
  match s.hlth.expo.or (modeByte.map fun b => sext 5 b) with
  | none => s.avsFail 0
  | some expo => ({ s with hlth := { s.hlth with expo := some expo } } : State).avsDrive r expo ack vout

theorem State.avsPeriod_on (h : ¬s.avsOff) : s.avsPeriod modeByte ack vout = s.avsFresh.avsActs s.avsRate modeByte ack vout :=
  if_neg (c := (!s.hlthOn || !s.on Pg.HLTH Fd.HLTH_AVS_CTL_EN || s.on Pg.HLTH Fd.HLTH_AVS_STAT_LOST) = true)
    (by simpa [or_assoc] using h)

theorem State.avsPeriod_mute (h : ¬s.avsOff) (he : s.hlth.expo = none) : s.avsPeriod none ack vout = s.avsFresh.avsFail 0 := by
  rw [State.avsPeriod_on h]
  unfold State.avsActs
  rw [show s.avsFresh.hlth.expo = none from he]
  rfl

theorem State.avsPeriod_drive (h : ¬s.avsOff) (he : s.hlth.expo = some expo) :
    s.avsPeriod modeByte ack vout = s.avsFresh.avsDrive s.avsRate expo ack vout := by
  rw [State.avsPeriod_on h]
  unfold State.avsActs
  rw [show s.avsFresh.hlth.expo = some expo from he]
  show State.avsDrive { s.avsFresh with hlth := { s.avsFresh.hlth with expo := some expo } } _ _ _ _ = _
  rw [← he]
  rfl

theorem State.avsDrive_unknown {r w : Nat} (hk : s.hlth.known = false) : s.avsDrive r expo ack (some w) = s.avsLearn expo w :=
  if_pos (c := (!s.hlth.known) = true) (by simp [hk])

theorem State.avsDrive_known {r : Nat} (hk : s.hlth.known = true) : s.avsDrive r expo ack vout =
    (s.avsSet (s.avsNext (s.fld Pg.HLTH Fd.HLTH_AVS_STAT_b0) r (s.avsHigh r)) (s.avsHigh r)).avsSend expo
      (s.fld Pg.HLTH Fd.HLTH_AVS_STAT_b0) (s.avsNext (s.fld Pg.HLTH Fd.HLTH_AVS_STAT_b0) r (s.avsHigh r)) ack vout := by
  refine (if_neg (c := (!s.hlth.known) = true) (by simp [hk])).trans ?_
  unfold State.avsHigh
  simp only [decide_eq_true_eq]

/-- The voltage of the next period. -/
def State.avsNew (s : State) : Nat := s.avsNext (s.fld Pg.HLTH Fd.HLTH_AVS_STAT_b0) s.avsRate (s.avsHigh s.avsRate)

theorem State.avsPeriod_known (h : ¬s.avsOff) (he : s.hlth.expo = some expo) (hk : s.hlth.known = true) :
    s.avsPeriod modeByte ack vout =
      (s.avsFresh.avsSet s.avsNew (s.avsHigh s.avsRate)).avsSend expo (s.fld Pg.HLTH Fd.HLTH_AVS_STAT_b0) s.avsNew ack vout := by
  have hhigh : s.avsFresh.avsHigh = s.avsHigh := rfl
  have hnext : s.avsFresh.avsNext = s.avsNext := rfl
  have hv : s.avsFresh.fld = s.fld := rfl
  rw [State.avsPeriod_drive h he, State.avsDrive_known (s := s.avsFresh) hk, hhigh, hnext, hv]
  rfl

section
variable {v v' : Nat}

theorem State.avsSend_voltage : (s.avsSend expo v v' ack vout).fld Pg.HLTH Fd.HLTH_AVS_STAT_b0 = s.fld Pg.HLTH Fd.HLTH_AVS_STAT_b0 := by
  unfold State.avsSend
  dsimp only
  split
  · split
    · exact State.avsRead_voltage
    · exact State.avsFail_voltage
  · split
    · exact State.avsRead_voltage
    · rfl

/-- What the bus answers changes neither the periods above the target nor the minimum. -/
theorem State.avsSend_kept : (s.avsSend expo v v' ack vout).hlth.high = s.hlth.high ∧ (s.avsSend expo v v' ack vout).hlth.low = s.hlth.low := by
  have hread : ∀ x : State, (x.avsRead expo vout).hlth.high = x.hlth.high ∧ (x.avsRead expo vout).hlth.low = x.hlth.low := fun x => by
    obtain ⟨r, hr⟩ := State.avsRead_hlth (s := x) (expo := expo) (ans := vout)
    rw [hr]
    exact ⟨rfl, rfl⟩
  unfold State.avsSend
  dsimp only
  split
  · split
    · exact hread _
    · rw [State.avsFail_hlth]
      exact ⟨rfl, rfl⟩
  · split
    · exact hread _
    · exact ⟨rfl, rfl⟩

theorem State.avsSend_quiet (hv : v' = v) (hr : s.hlth.retry = 0) : (s.avsSend expo v v' ack vout).out = s.out := by
  unfold State.avsSend
  rw [hv, hr]
  exact congrArg State.out (if_neg (by simp))

theorem State.avsSend_acked (hv : v' ≠ v) : (s.avsSend expo v v' true vout).hlth.vcmd = v' := by
  unfold State.avsSend
  dsimp only
  rw [if_pos (by simp [hv]), if_pos rfl]
  obtain ⟨r, hr⟩ := State.avsRead_hlth (expo := expo) (ans := vout)
    (s := { s.agentWrite 0x21 (leBytes 2 (toLinear expo v')) with hlth := { s.hlth with vcmd := v' } })
  exact congrArg Health.vcmd hr

theorem State.avsSend_unacked (hv : v' ≠ v) :
    (s.avsSend expo v v' false vout).hlth.retry = 1 ∧ (s.avsSend expo v v' false vout).hlth.vcmd = s.hlth.vcmd := by
  unfold State.avsSend
  dsimp only
  rw [if_pos (by simp [hv]), if_neg Bool.false_ne_true, State.avsFail_hlth]
  exact ⟨rfl, rfl⟩

end

theorem State.avsLearn_shows {w : Nat} : (s.avsLearn expo w).hlth.known = true ∧ (s.avsLearn expo w).hlth.low = s.hlth.low ∧
    (s.avsLearn expo w).fld Pg.HLTH Fd.HLTH_AVS_STAT_b0 = ofLinear expo w % 1024 ∧
    (s.avsLearn expo w).fld Pg.HLTH Fd.HLTH_AVS_STAT_b26 = 0 := by
  refine ⟨rfl, rfl, ?_, ?_⟩
  · unfold State.avsLearn
    rw [State.fld_withHlth, State.fld_setFld_p (by decide) (by decide), State.fld_setFld_p (by decide) (by decide),
      State.fld_setFld _ _ _ _ (by decide)]
    rfl
  · unfold State.avsLearn
    rw [State.fld_withHlth, State.fld_setFld _ _ _ _ (by decide)]
    rfl

theorem State.avsSet_voltage {v high : Nat} : (s.avsSet v high).fld Pg.HLTH Fd.HLTH_AVS_STAT_b0 = v % 1024 := by
  unfold State.avsSet
  rw [State.fld_withHlth, State.fld_setFld _ _ _ _ (by decide)]
  rfl

end

/-- Each sensor read holds its reading. -/
theorem State.tempRead_sensor {s : State} {l : List (Fin 1024)} {n i : Nat} (h : ¬(s.hlthOn = false ∨ (s.calOf 1).isSome = true))
    (hi : i < l.length) (hm : i < 16) : tabGet (dflt 0) (s.tempRead (l.map (·.val)) n).hlth.temp i = l[i].val := by
  rw [s.tempRead_hlth _ n h]
  refine (foldl_zipIdx_take (g := tabGet (dflt 0)) (h := (· % 1024)) (fun x e k => tabGet_tabPut (dflt 0) e.2 k (e.1 % 1024) x)
    (l.map (·.val)) s.hlth.temp (by simpa using hi) hm).trans ?_
  rw [List.getElem_map, Nat.mod_eq_of_lt l[i].isLt]

/-- Each rail read holds its reading. -/
theorem State.supplyRead_rail {s : State} {l : List (Fin 4096)} {n i : Nat} (h : ¬(s.hlthOn = false ∨ (s.calOf 2).isSome = true))
    (hi : i < l.length) (hm : i < 8) : (tabGet (dflt (0, 0)) (s.supplyRead (l.map (·.val)) n).hlth.sup i).1 = l[i].val := by
  have hread : s.supplyRead (l.map (·.val)) n = ((l.map (·.val)).take 8).zipIdx.foldl (fun s e => s.railRead e.2 e.1) (s.atNs n) :=
    if_neg (c := (!s.hlthOn || (s.calOf 2).isSome) = true) (by simpa using h)
  rw [hread]
  refine (foldl_zipIdx_take (g := fun (t : State) k => (tabGet (dflt (0, 0)) t.hlth.sup k).1) (h := id) State.railRead_voltage
    (l.map (·.val)) _ (by simpa using hi) hm).trans ?_
  rw [List.getElem_map]
  rfl

/-- A period starts the next minimum, whatever else it does. -/
theorem State.avsPeriod_low (s : State) (modeByte : Option Nat) (ack : Bool) (vout : Option Nat) :
    (s.avsPeriod modeByte ack vout).hlth.low = none := by
  by_cases h : s.avsOff
  · rw [State.avsPeriod_off h]
    rfl
  · rw [State.avsPeriod_on h]
    unfold State.avsActs
    split
    · rw [State.avsFail_hlth]
      rfl
    · unfold State.avsDrive
      dsimp only
      split
      · split
        · rw [State.avsFail_hlth]
          rfl
        · rfl
      · exact State.avsSend_kept.2

/-- What a sample of the headroom shows. -/
theorem State.headroom_shows {s : State} (rate n : Nat) (h : s.hlthOn = true) :
    (s.headroom rate n).fld Pg.HLTH Fd.HLTH_HR_STAT_RATE = satN 16 rate ∧
    (s.headroom rate n).fld Pg.HLTH Fd.HLTH_HR_STAT_NEED = satN 16 (s.atNs n).need ∧
    (s.headroom rate n).on Pg.HLTH Fd.HLTH_STAT_HR_CRIT = decide (rate < (s.atNs n).need) ∧
    (s.headroom rate n).hlth.low = some (match s.hlth.low with | some x => Nat.min x rate | none => rate) := by
  have hsat : ∀ x, satN 16 x % 2 ^ 16 = satN 16 x := fun x => Nat.mod_eq_of_lt (by unfold satN; split <;> omega)
  rw [State.headroom_on n h]
  refine ⟨?_, ?_, State.headroomCrit_on, ?_⟩
  · rw [State.headroomCrit_fld (by decide) (by decide), State.headroomLow_fld (by decide) (by decide) (by decide)]
    unfold State.headroomShown
    rw [State.fld_withHlth, State.fld_setFld_p (by decide) (by decide), State.fld_setFld _ _ _ _ (by decide)]
    exact hsat _
  · rw [State.headroomCrit_fld (by decide) (by decide), State.headroomLow_fld (by decide) (by decide) (by decide)]
    unfold State.headroomShown
    rw [State.fld_withHlth, State.fld_setFld _ _ _ _ (by decide)]
    exact hsat _
  · rw [State.headroomCrit_hlth, State.headroomLow_hlth]
    rfl

/-- Settles O44: the monitors' readings, a headroom sample, and a period of the voltage service by what it knows. -/
theorem monitorsAreReadAndVoltageFollows : Obligations.MonitorsAreReadAndVoltageFollows := by
  refine ⟨fun l n s => ⟨_, rfl, fun hoff => ?_, fun hon => ⟨fun i => State.tempRead_sensor hon, ?_⟩⟩,
    fun l n s => ⟨_, rfl, fun hoff => ?_, fun hon i => State.supplyRead_rail hon⟩,
    fun rate n s => ⟨_, rfl, State.headroom_off n, State.headroom_shows rate n⟩,
    fun m ack vout s => ⟨_, rfl, s.avsPeriod_low _ _ _, fun hoff => ?_, fun hon he hm => ?_, fun x w hon he hk hw => ?_,
      fun x hon he hk => ?_⟩⟩
  · exact if_pos (c := (!s.hlthOn || (s.calOf 1).isSome) = true) (by simpa using hoff)
  · rw [s.tempRead_tj _ n hon, s.tempRead_hlth _ n hon]
    rfl
  · exact if_pos (c := (!s.hlthOn || (s.calOf 2).isSome) = true) (by simpa using hoff)
  · rw [State.avsPeriod_off hoff]
    exact ⟨rfl, rfl⟩
  · subst hm
    rw [Option.map_none, State.avsPeriod_mute hon he]
    exact ⟨State.avsFail_count, (congrArg Health.expo State.avsFail_hlth).trans he⟩
  · subst hw
    obtain ⟨hknown, -, hv, hfails⟩ := State.avsLearn_shows (s := s.avsFresh) (expo := x) (w := w.val)
    rw [State.avsPeriod_drive hon he, Option.map_some, State.avsDrive_unknown (s := s.avsFresh) hk]
    exact ⟨hknown, hv, hfails⟩
  · rw [State.avsPeriod_known hon he hk]
    exact ⟨State.avsSend_voltage.trans State.avsSet_voltage, State.avsSend_kept.1,
      fun hv hr => State.avsSend_quiet (s := s.avsFresh.avsSet s.avsNew (s.avsHigh s.avsRate)) hv hr,
      fun hv ha => ha ▸ State.avsSend_acked hv,
      fun hv ha => ha ▸ State.avsSend_unacked (s := s.avsFresh.avsSet s.avsNew (s.avsHigh s.avsRate)) hv⟩

end Sys2Proof.Machine
end

section
/-!
PROOFS. Calibrations, the memory test and the test access port (O43).
-/
namespace Sys2Proof.Machine

/-! ### What the Joker's own calibration leaves of the registers of other pages -/

section
variable {s : State} {a q m k : Nat} {b : Bool}

theorem State.putCodes_page {c : EqCodes} (h : a / 4096 ≠ Pg.CP q) : RegSame a s (s.putCodes q k c) :=
  State.putCodes_same fun j hj => ne_of_page h (by show 0x050 + 0x4 * j < 4096; omega)

theorem State.jkConnect_page (h : a / 4096 ≠ Pg.CP q) : RegSame a s (s.jkConnect q m) :=
  (State.putCodes_page h).step ((State.setFld_page h (by decide)).step ((State.setFld_page h (by decide)).step (State.setFld_page h (by decide))))

theorem State.startRecal_page (h : a / 4096 ≠ Pg.CP q) : RegSame a s (s.startRecal q m b) := by
  unfold State.startRecal
  dsimp only
  split
  · exact RegSame.of_regs rfl
  · split
    · exact RegSame.of_regs rfl
    · exact (State.jkConnect_page h).step (RegSame.of_regs (State.putJk_regs ..))

theorem State.nextRecal_page (h : a / 4096 ≠ Pg.CP q) : RegSame a s (s.nextRecal q) := by
  unfold State.nextRecal
  dsimp only
  split
  · exact RegSame.refl a s
  · split
    · exact RegSame.of_regs (State.jkSettle_regs ..)
    · split
      · exact (State.startRecal_page h).step (RegSame.of_regs (State.putJk_regs ..))
      · exact RegSame.refl a s

theorem State.jkReady_page (h : a / 4096 ≠ Pg.CP q) : RegSame a s (s.jkReady q) := by
  unfold State.jkReady
  dsimp only
  split
  · exact (State.jkConnect_page h).step (RegSame.of_regs (State.putJk_regs ..))
  · refine (State.nextRecal_page h).step ?_
    split
    · split
      · exact (State.jkConnect_page h).step (RegSame.of_regs (State.putJk_regs ..))
      · exact RegSame.of_regs (State.putJk_regs ..)
    · exact RegSame.of_regs (State.putJk_regs ..)
  · exact RegSame.refl a s

theorem State.dropWaiting_page (h : ∀ p ≤ q, a / 4096 ≠ Pg.CP p) : RegSame a s (s.dropWaiting q) := by
  unfold State.dropWaiting
  dsimp only
  split
  · exact RegSame.refl a s
  · split
    · split
      · exact (State.enterBase_same (ne_of_page (h _ (s.portOfQuad_le q)) (by decide))).step (RegSame.of_regs (State.putJk_regs ..))
      · exact RegSame.of_regs (State.putJk_regs ..)
    · exact (State.setFld_page (h q (Nat.le_refl q)) (by decide)).step (RegSame.of_regs (State.putJk_regs ..))

theorem State.jkFail_page (hlog : ¬logPage a) (h : ∀ p ≤ q, a / 4096 ≠ Pg.CP p) : RegSame a s (s.jkFail q) :=
  (State.dropWaiting_page h).step ((State.logMinor_same hlog (by decide)).step
    (RegSame.step (RegSame.of_regs (State.putJk_regs ..)) (State.setFld_page (h q (Nat.le_refl q)) (by decide))))

end

/-! ### Calibrations (R641-R645) -/

@[simp] theorem State.calOf_setCal (s : State) (k : Nat) (x : Option CalRun) : (s.setCal k x).calOf k = x := tabGet_tabPut_same _ _ _ _

theorem State.calOf_of {s t : State} (h : t.hlth = s.hlth) (k : Nat) : t.calOf k = s.calOf k := by unfold State.calOf; rw [h]

theorem State.startCal_idle {s : State} {k : Nat} (r : Bool) (h : s.calOf k = none) : s.startCal k r = s.setCal k (some { requested := r }) := by
  unfold State.startCal
  rw [h]

theorem State.startCal_waits {s : State} {k : Nat} {x : CalRun} (h : s.calOf k = some x) :
    s.startCal k true = s.setCal k (some { x with waits := true }) := by
  unfold State.startCal
  rw [h]
  rfl

/-- A run that falls due in one in progress is absorbed. -/
theorem State.startCal_absorbed {s : State} {k : Nat} (h : (s.calOf k).isSome = true) : s.startCal k false = s := by
  obtain ⟨x, hx⟩ := Option.isSome_iff_exists.1 h
  unfold State.startCal
  rw [hx]
  rfl

/-- The state as a write of CAL_CTL leaves it before GO acts. -/
abbrev State.calCtlAsked (s : State) (o : Owner) (w : Word) : State := (s.touch o Pg.HLTH).writeReg Pg.HLTH Rg.HLTH_CAL_CTL w

section
variable (s : State) (o : Owner) (w : Word)

theorem State.calCtlAsked_hlth : (s.calCtlAsked o w).hlth = s.hlth := (s.touchWrite_within o Pg.HLTH Rg.HLTH_CAL_CTL w).hlth_eq rfl

theorem State.calCtlAsked_on : (s.calCtlAsked o w).hlthOn = s.hlthOn := by
  unfold State.hlthOn State.blockOn
  rw [(State.touchWrite_same (off_ne (by decide))).on, (State.touchWrite_same (off_ne (by decide))).on,
    s.touchWrite_mode o w (by decide) (by decide)]

end

theorem execCalCtlGo_go {o : Owner} {w : Word} {s : State} (h : s.access o Pg.HLTH = .granted) (hgo : wf w 8 1 = 1) :
    exec (.calCtlGo o w) s = .next (
      if 2 < wf w 0 4 then (s.calCtlAsked o w).setFld Pg.HLTH Fd.HLTH_CAL_CTL_RESULT 3
      else if s.hlthOn then (s.calCtlAsked o w).startCal (wf w 0 4) true else s.calCtlAsked o w) := by
  refine congrArg Host.Outcome.next ((State.guarded_granted h).trans ?_)
  refine (if_neg (by rw [hgo]; decide)).trans ?_
  rw [← s.calCtlAsked_on o w]

/-- A GO of CAL_CTL, by the item and by what it finds. -/
theorem calCtlStartsOrWaits {o : Owner} {w : Word} {s : State} (h : s.access o Pg.HLTH = .granted) (hgo : wf w 8 1 = 1) :
    ∃ t, exec (.calCtlGo o w) s = .next t ∧
      (2 < wf w 0 4 → t.fld Pg.HLTH Fd.HLTH_CAL_CTL_RESULT = 3 ∧ t.hlth = s.hlth) ∧
      (s.hlthOn = false → t.hlth = s.hlth) ∧
      (wf w 0 4 ≤ 2 → s.hlthOn = true → (s.calOf (wf w 0 4) = none → t.calOf (wf w 0 4) = some { requested := true }) ∧
        ∀ x, s.calOf (wf w 0 4) = some x → t.calOf (wf w 0 4) = some { x with waits := true }) := by
  have hcal := State.calOf_of (s.calCtlAsked_hlth o w)
  refine ⟨_, execCalCtlGo_go h hgo, fun hi => ?_, fun hoff => ?_, fun hi hon => ?_⟩
  · rw [if_pos hi]
    exact ⟨State.fld_setFld _ _ _ _ (by decide), s.calCtlAsked_hlth o w⟩
  · rw [hoff, if_neg Bool.false_ne_true, apply_ite State.hlth, State.setFld_hlth, ite_self, s.calCtlAsked_hlth o w]
  · rw [if_neg (by omega), if_pos hon]
    refine ⟨fun hn => ?_, fun x hx => ?_⟩
    · rw [State.startCal_idle _ ((hcal _).trans hn), State.calOf_setCal]
    · rw [State.startCal_waits ((hcal _).trans hx), State.calOf_setCal]

/-- Whether the band-gap check follows, of item 0. -/
def State.gapChecked (s : State) (item : Nat) (fig : Int) : State := if item = 0 then s.bandGap fig else s

/-- The word of CAL_STAT. -/
def calStatWord (item : Nat) (fig : Int) (n : Nat) : Word := BitVec.ofNat 32 (item + 16 * toTwos 12 fig + 2 ^ 16 * n)

/-- A Joker whose own calibration ends is ready. -/
def State.calReady (s : State) (item unit : Nat) : State := if item = 4 then s.jkReady unit else s

section
variable {s : State} {item unit : Nat} {a b : List Nat} {fig : Int}

theorem State.calAttempt_none (h : ¬s.calRuns item unit = true) : s.calAttempt item unit a b fig = s := by
  unfold State.calAttempt
  exact if_pos (by simpa using h)

theorem State.calAttempt_agree (h : s.calRuns item unit = true) (hc : codesAgree a b = true) : s.calAttempt item unit a b fig =
    ((((s.wr Pg.HLTH Rg.HLTH_CAL_STAT (calStatWord item fig (((s.calOf (calKey item unit)).getD {}).attempts + 1))).gapChecked item fig).calEnd
      (calKey item unit) ((s.calOf (calKey item unit)).getD {}) 1).calReady item unit) := by
  unfold State.calAttempt
  exact (if_neg (by simpa using h)).trans (if_pos hc)

theorem State.calAttempt_again (h : s.calRuns item unit = true) (hc : codesAgree a b = false)
    (hn : ((s.calOf (calKey item unit)).getD {}).attempts + 1 < 4) : s.calAttempt item unit a b fig =
    (s.setCal (calKey item unit) (some { (s.calOf (calKey item unit)).getD {} with
      attempts := ((s.calOf (calKey item unit)).getD {}).attempts + 1 })).bump Pg.HLTH Fd.HLTH_CNT_b16 := by
  unfold State.calAttempt
  exact (if_neg (by simpa using h)).trans ((if_neg (by simp [hc])).trans (if_pos hn))

theorem State.calAttempt_failed (h : s.calRuns item unit = true) (hc : codesAgree a b = false)
    (hn : 4 ≤ ((s.calOf (calKey item unit)).getD {}).attempts + 1) : s.calAttempt item unit a b fig =
    (s.calEnd (calKey item unit) ((s.calOf (calKey item unit)).getD {}) 2).calFailed item unit := by
  unfold State.calAttempt
  exact (if_neg (by simpa using h)).trans ((if_neg (by simp [hc])).trans (if_neg (by omega)))

/-- The Joker whose calibration is in progress is one of the sixteen. -/
theorem State.calRuns_joker (h : s.calRuns item unit = true) : item = 4 → unit < 16 := by
  rintro rfl
  unfold State.calRuns at h
  simp only [Nat.reduceLT, if_false, if_true, Bool.and_eq_true, decide_eq_true_eq] at h
  exact h.1

end

/-- What waits behind a run starts as it ends. -/
def CalRun.after (x : CalRun) : Option CalRun := if x.waits then some { requested := true } else none

section
variable {s : State} {k item unit : Nat} {x : CalRun} {r : Nat}

theorem State.calEnd_cal : (s.calEnd k x r).calOf k = x.after := State.calOf_setCal _ _ _

theorem State.setCal_same {a : Nat} {v : Option CalRun} : RegSame a s (s.setCal k v) := RegSame.of_regs rfl

/-- The end of a run counts, and leaves the registers but its result and count alone. -/
theorem State.calEnd_same {a : Nat} (h1 : a ≠ Pg.HLTH * 4096 + Fd.HLTH_CNT_b0.off) (h2 : a ≠ Pg.HLTH * 4096 + Fd.HLTH_CAL_CTL_RESULT.off) :
    RegSame a s (s.calEnd k x r) := by
  unfold State.calEnd
  dsimp only
  refine State.setCal_same.step (RegSame.step ?_ (State.bump_same h1))
  split
  · exact State.setFld_same h2
  · exact RegSame.refl _ _

theorem State.calEnd_cnt {g : Fld} (h : g.off ≠ Fd.HLTH_CAL_CTL_RESULT.off) :
    (s.calEnd k x r).fld Pg.HLTH g = (s.bump Pg.HLTH Fd.HLTH_CNT_b0).fld Pg.HLTH g := by
  refine RegSame.fld ?_
  unfold State.calEnd
  dsimp only
  refine State.setCal_same.step ?_
  split
  · exact State.setFld_same (off_ne h)
  · exact RegSame.refl _ _

theorem State.calReady_same {a : Nat} (h : a / 4096 = Pg.HLTH) : RegSame a s (s.calReady item unit) := by
  unfold State.calReady
  split
  · exact State.jkReady_page (by rw [h]; show 6 ≠ 0x10 + unit; omega)
  · exact RegSame.refl _ _

theorem State.calReady_cal : (s.calReady item unit).calOf = s.calOf := by
  funext k
  refine State.calOf_of ?_ k
  unfold State.calReady
  rw [apply_ite State.hlth, (State.jkReady_within ..).hlth_eq rfl, ite_self]

theorem State.gapChecked_same {a : Nat} {fig : Int} (hlog : ¬logPage a) (h : a ≠ Pg.HLTH * 4096 + Fd.HLTH_BG_b0.off) :
    RegSame a s (s.gapChecked item fig) := by
  have hset := (State.setBit_same (s := s.setFld Pg.HLTH Fd.HLTH_BG_b0 (toTwos 16 fig)) (f := Fd.HLTH_BG_BG_WARN)
    (b := decide (60 < fig.natAbs)) h).step (State.setFld_same h)
  unfold State.gapChecked
  split
  · unfold State.bandGap
    dsimp only
    split
    · exact (State.logMinor_same hlog (by decide)).step hset
    · exact hset
  · exact RegSame.refl _ _

theorem State.calFailed_cal : (s.calFailed item unit).calOf = s.calOf := by
  funext k
  exact State.calOf_of ((State.calFailed_within ..).hlth_eq rfl) k

/-- A calibration that gives up counts in NO_AGREE. -/
theorem State.calFailed_count (hj : item = 4 → unit < 16) :
    (s.calFailed item unit).fld Pg.HLTH Fd.HLTH_CNT_NO_AGREE = satN 8 (s.fld Pg.HLTH Fd.HLTH_CNT_NO_AGREE + 1) := by
  refine Eq.trans ?_ (State.fld_bump s _ _ (by decide))
  unfold State.calFailed
  dsimp only
  split
  · rfl
  · have hflag : RegSame (Pg.HLTH * 4096 + Fd.HLTH_CNT_NO_AGREE.off) (s.bump Pg.HLTH Fd.HLTH_CNT_NO_AGREE)
        (((s.bump Pg.HLTH Fd.HLTH_CNT_NO_AGREE).flag Pg.HLTH Fd.HLTH_STAT_CAL_FAIL).logErr Er.CAL_NO_AGREE Pg.HLTH item unit) :=
      (State.logMinor_same (not_logPage (by decide) (by decide) (by decide) (by decide)) (by decide)).step
        (State.flag_at (not_headOf (by decide) (by decide)) (by decide))
    split
    · next h4 =>
      refine ((State.jkFail_page (not_logPage (by decide) (by decide) (by decide) (by decide)) fun p hp => ?_).step hflag).fld
      have := hj h4
      show 6 ≠ 0x10 + p
      omega
    · exact hflag.fld

end

/-- The end of an attempt of a calibration, by whether its measurements agree. -/
theorem calAttemptsAgreeOrGiveUp (item : Fin 10) (unit : Fin 64) (a b : List Nat) (fig : Int) (s : State) :
    let runs := s.calRuns item unit = true
    let x := (s.calOf (calKey item unit)).getD {}
    ∃ t, exec (.calAttemptDone item unit a b fig) s = .next t ∧ (¬runs → t = s) ∧
      (runs → codesAgree a b = true → t.calOf (calKey item unit) = x.after ∧
        t.rd Pg.HLTH Rg.HLTH_CAL_STAT = calStatWord item fig (x.attempts + 1) ∧
        t.fld Pg.HLTH Fd.HLTH_CNT_b0 = satN 16 (s.fld Pg.HLTH Fd.HLTH_CNT_b0 + 1)) ∧
      (runs → codesAgree a b = false → x.attempts + 1 < 4 → t.calOf (calKey item unit) = some { x with attempts := x.attempts + 1 } ∧
        t.fld Pg.HLTH Fd.HLTH_CNT_b16 = satN 8 (s.fld Pg.HLTH Fd.HLTH_CNT_b16 + 1)) ∧
      (runs → codesAgree a b = false → 4 ≤ x.attempts + 1 → t.calOf (calKey item unit) = x.after ∧
        t.fld Pg.HLTH Fd.HLTH_CNT_NO_AGREE = satN 8 (s.fld Pg.HLTH Fd.HLTH_CNT_NO_AGREE + 1)) := by
  intro runs x
  refine ⟨_, rfl, State.calAttempt_none, fun h hc => ?_, fun h hc hn => ?_, fun h hc hn => ?_⟩
  · rw [State.calAttempt_agree h hc]
    refine ⟨?_, ?_, ?_⟩
    · rw [State.calReady_cal, State.calEnd_cal]
    · rw [(State.calReady_same (by decide)).rd, (State.calEnd_same (by decide) (by decide)).rd,
        (State.gapChecked_same (not_logPage (by decide) (by decide) (by decide) (by decide)) (by decide)).rd, State.rd_wr_same]
    · rw [(State.calReady_same (by decide)).fld, State.calEnd_cnt (by decide), State.fld_bump _ _ _ (by decide),
        (State.gapChecked_same (not_logPage (by decide) (by decide) (by decide) (by decide)) (by decide)).fld, State.fld_wr_p (by decide)]
  · rw [State.calAttempt_again h hc hn]
    exact ⟨State.calOf_setCal _ _ _, State.fld_bump _ _ _ (by decide)⟩
  · rw [State.calAttempt_failed h hc hn, State.calFailed_cal, State.calEnd_cal, State.calFailed_count (State.calRuns_joker h),
      State.calEnd_cnt (by decide), State.fld_bump_p (by decide) (by decide)]
    exact ⟨rfl, rfl⟩

/-! ### The memory test (R653) -/

/-- A range made blank leaves the bytes outside it. -/
theorem State.dram_blankRange_out {s : State} {a lo hi : Nat} {seed : Option Nat} (hm : s.memOk = true) (ha : a < lo ∨ hi ≤ a) :
    (s.blankRange lo hi seed).dram a 1 = s.dram a 1 := by
  have hblank : blankByte (⟨lo, hi, seed⟩ :: s.blank) a = blankByte s.blank a := if_neg (by show ¬(lo ≤ a ∧ a < hi); omega)
  exact congrArg (· :: []) (tabGet_tabClear_out _ _ lo hi a ha hblank hm)

/-- The state as a write of MBIST_CTL leaves it before GO acts. -/
abbrev State.mbistAsked (s : State) (o : Owner) (w : Word) : State := (s.touch o Pg.HLTH).writeReg Pg.HLTH Rg.HLTH_MBIST_CTL w

/-- The test can start. -/
abbrev State.mbistAble (s : State) : Prop :=
  s.mode = .setup ∧ s.fld Pg.HLTH Fd.HLTH_MBIST_STAT_STATE ≠ 1 ∧ s.mbistRange.2 ≤ s.capacity

theorem State.mbistRange_of {s t : State} (h : RegSame (Pg.HLTH * 4096 + Rg.HLTH_MBIST_RANGE) s t) : t.mbistRange = s.mbistRange := by
  unfold State.mbistRange
  dsimp only
  rw [h.fld (f := Fd.HLTH_MBIST_RANGE_BASE), h.fld (f := Fd.HLTH_MBIST_RANGE_SIZE)]

section
variable {s : State} {o : Owner} {w : Word}

theorem State.mbistAsked_stat (g : Fld) (h : g.off = Rg.HLTH_MBIST_STAT) : (s.mbistAsked o w).fld Pg.HLTH g = s.fld Pg.HLTH g :=
  (State.touchWrite_same (off_ne (by rw [h]; decide))).fld

theorem State.mbistAsked_able : (s.mbistAsked o w).mbistAble ↔ s.mbistAble := by
  have hframe := s.touchWrite_within o Pg.HLTH Rg.HLTH_MBIST_CTL w
  unfold State.mbistAble
  rw [s.touchWrite_mode o w (by decide) (by decide), State.mbistAsked_stat _ rfl,
    State.mbistRange_of (State.touchWrite_same (by decide)), State.capacity_of (hframe.trained_eq rfl)]

/-- What GO does in the state that the write leaves. -/
def State.mbistStart (s : State) : State :=
  if s.mode.job then s.setFld Pg.HLTH Fd.HLTH_MBIST_STAT_RESULT 3
  else if s.mode ≠ .setup ∨ s.fld Pg.HLTH Fd.HLTH_MBIST_STAT_STATE = 1 ∨ s.capacity < s.mbistRange.2 then
    s.setFld Pg.HLTH Fd.HLTH_MBIST_STAT_RESULT 4
  else (s.wr Pg.HLTH Rg.HLTH_MBIST_STAT 1).wr Pg.HLTH Rg.HLTH_MBIST_FIRST 0

theorem execMbistGo_go (h : s.access o Pg.HLTH = .granted) (hgo : wf w 0 1 = 1) :
    exec (.mbistGo o w) s = .next (s.mbistAsked o w).mbistStart :=
  congrArg Host.Outcome.next ((State.guarded_granted h).trans (if_neg (by rw [hgo]; decide)))

theorem State.mbistStart_job (h : s.mode.job = true) : s.mbistStart = s.setFld Pg.HLTH Fd.HLTH_MBIST_STAT_RESULT 3 := if_pos h

theorem State.mbistStart_able (h : s.mbistAble) : s.mbistStart = (s.wr Pg.HLTH Rg.HLTH_MBIST_STAT 1).wr Pg.HLTH Rg.HLTH_MBIST_FIRST 0 := by
  obtain ⟨hm, hst, hr⟩ := h
  unfold State.mbistStart
  rw [if_neg (by rw [hm]; decide), if_neg (by simp [hm, hst, hr])]

theorem State.mbistStart_unable (hj : s.mode.job = false) (h : ¬s.mbistAble) :
    s.mbistStart = s.setFld Pg.HLTH Fd.HLTH_MBIST_STAT_RESULT 4 := by
  unfold State.mbistStart
  rw [hj, if_neg Bool.false_ne_true, if_pos]
  by_contra hn
  push Not at hn
  exact h hn

/-- A GO of MBIST_CTL, by the mode and the range. -/
theorem mbistStartsOrReports (h : s.access o Pg.HLTH = .granted) (hgo : wf w 0 1 = 1) :
    ∃ t, exec (.mbistGo o w) s = .next t ∧
      (s.mbistAble → t.rd Pg.HLTH Rg.HLTH_MBIST_STAT = 1 ∧ t.rd Pg.HLTH Rg.HLTH_MBIST_FIRST = 0) ∧
      (s.mode.job = true → t.fld Pg.HLTH Fd.HLTH_MBIST_STAT_RESULT = 3 ∧
        t.fld Pg.HLTH Fd.HLTH_MBIST_STAT_STATE = s.fld Pg.HLTH Fd.HLTH_MBIST_STAT_STATE) ∧
      (s.mode.job = false → ¬s.mbistAble → t.fld Pg.HLTH Fd.HLTH_MBIST_STAT_RESULT = 4 ∧
        t.fld Pg.HLTH Fd.HLTH_MBIST_STAT_STATE = s.fld Pg.HLTH Fd.HLTH_MBIST_STAT_STATE) := by
  have hkept : ∀ r, ((s.mbistAsked o w).setFld Pg.HLTH Fd.HLTH_MBIST_STAT_RESULT r).fld Pg.HLTH Fd.HLTH_MBIST_STAT_STATE =
      s.fld Pg.HLTH Fd.HLTH_MBIST_STAT_STATE := fun r =>
    (State.fld_setFld_p (by decide) (by decide)).trans (State.mbistAsked_stat _ rfl)
  have hmode := s.touchWrite_mode o w (p := Pg.HLTH) (off := Rg.HLTH_MBIST_CTL) (by decide) (by decide)
  refine ⟨_, execMbistGo_go h hgo, fun ha => ?_, fun hj => ?_, fun hj ha => ?_⟩
  · rw [State.mbistStart_able (State.mbistAsked_able.2 ha)]
    exact ⟨(State.rd_wr_of_ne _ _ _ _ _ _ (by decide)).trans (State.rd_wr_same _ _ _ _), State.rd_wr_same _ _ _ _⟩
  · rw [State.mbistStart_job (hmode.symm ▸ hj)]
    exact ⟨State.fld_setFld _ _ _ _ (by decide), hkept 3⟩
  · rw [State.mbistStart_unable (hmode.symm ▸ hj) (mt State.mbistAsked_able.1 ha)]
    exact ⟨State.fld_setFld _ _ _ _ (by decide), hkept 4⟩

end

/-- The word of MBIST_STAT as a test ends. -/
def mbistWord (l : List Nat) : Word := BitVec.ofNat 32 (2 + 4 * (if l.isEmpty then 1 else 2) + 256 * satN 24 l.length)

section
variable {s : State} {l : List Nat}

/-- The range blank, and the result shown. -/
def State.mbistShown (s : State) (l : List Nat) : State :=
  ((s.blankRange s.mbistRange.1 s.mbistRange.2 (some s.free)).drawn).wr Pg.HLTH Rg.HLTH_MBIST_STAT (mbistWord l)

theorem State.mbistDone_pass (h : s.fld Pg.HLTH Fd.HLTH_MBIST_STAT_STATE = 1) : s.mbistDone [] = s.mbistShown [] :=
  if_neg (not_not.2 h)

theorem State.mbistDone_fail {k : Nat} {r : List Nat} (h : s.fld Pg.HLTH Fd.HLTH_MBIST_STAT_STATE = 1) : s.mbistDone (k :: r) =
    ((s.mbistShown (k :: r)).wr Pg.HLTH Rg.HLTH_MBIST_FIRST (BitVec.ofNat 32 (k % 2 ^ 31 + 2 ^ 31))).logErr Er.MBIST_FAIL Pg.HLTH k :=
  if_neg (not_not.2 h)

theorem State.mbistShown_fld {g : Fld} (h : g.off = Rg.HLTH_MBIST_STAT) : (s.mbistShown l).fld Pg.HLTH g = wf (mbistWord l) g.lo g.len := by
  unfold State.mbistShown State.fld
  rw [h, State.rd_wr_same]

theorem mbistWord_state (l : List Nat) : wf (mbistWord l) 0 2 = 2 ∧ wf (mbistWord l) 2 3 = if l.isEmpty then 1 else 2 := by
  have hn : satN 24 l.length < 2 ^ 24 := by unfold satN; split <;> omega
  unfold mbistWord wf nb
  rw [BitVec.toNat_ofNat]
  split <;> omega

/-- The range of a test that ends is blank; what lies outside it is as it was. -/
theorem State.mbistShown_dram (hm : s.memOk = true) {a : Nat} (ha : a < s.mbistRange.1 ∨ s.mbistRange.2 ≤ a) :
    (s.mbistShown l).dram a 1 = s.dram a 1 := State.dram_blankRange_out hm ha

end

/-- The end of a test, by the lines that failed. -/
theorem mbistEndsWithItsResult (l : List Nat) (s : State) :
    let runs := s.fld Pg.HLTH Fd.HLTH_MBIST_STAT_STATE = 1
    ∃ t, exec (.mbistDone l) s = .next t ∧ (¬runs → t = s) ∧
      (runs → l = [] → s.memOk = true → t.fld Pg.HLTH Fd.HLTH_MBIST_STAT_STATE = 2 ∧ t.fld Pg.HLTH Fd.HLTH_MBIST_STAT_RESULT = 1 ∧
        ∀ a, a < s.mbistRange.1 ∨ s.mbistRange.2 ≤ a → t.dram a 1 = s.dram a 1) ∧
      (∀ k r, runs → l = k :: r → t.fld Pg.HLTH Fd.HLTH_MBIST_STAT_STATE = 2 ∧ t.fld Pg.HLTH Fd.HLTH_MBIST_STAT_RESULT = 2 ∧
        t.fld Pg.HLTH Fd.HLTH_MBIST_FIRST_VALID = 1 ∧ t.fld Pg.HLTH Fd.HLTH_MBIST_FIRST_b0 = k % 2 ^ 31) := by
  intro runs
  refine ⟨_, rfl, fun h => if_pos h, ?_, ?_⟩
  · rintro h rfl hm
    rw [State.mbistDone_pass h]
    exact ⟨(State.mbistShown_fld rfl).trans (mbistWord_state []).1, (State.mbistShown_fld rfl).trans (mbistWord_state []).2,
      fun a ha => State.mbistShown_dram hm ha⟩
  · rintro k r h rfl
    have hlog {g : Fld} (hg : g.off < 4096) {x : State} : (x.logErr Er.MBIST_FAIL Pg.HLTH k).fld Pg.HLTH g = x.fld Pg.HLTH g :=
      State.fld_logMinor_p (by decide) (by decide) (by decide) (by decide) hg
    rw [State.mbistDone_fail h, hlog (by decide), hlog (by decide), hlog (by decide), hlog (by decide), State.fld_wr_p (by decide),
      State.fld_wr_p (by decide), State.mbistShown_fld rfl, State.mbistShown_fld rfl]
    refine ⟨(mbistWord_state _).1, (mbistWord_state (k :: r)).2, ?_, ?_⟩
    · unfold State.fld
      rw [State.rd_wr_same]
      unfold wf nb
      rw [BitVec.toNat_ofNat]
      show _ / 2 ^ 31 % 2 ^ 1 = 1
      omega
    · unfold State.fld
      rw [State.rd_wr_same]
      unfold wf nb
      rw [BitVec.toNat_ofNat]
      show _ / 2 ^ 0 % 2 ^ 31 = _
      omega

/-! ### The test access port (R654-R656) -/

/-- A test access that takes the pins while a job runs is recorded. -/
def State.tapTaken (s : State) (i : Nat) : State :=
  if tapTakes i && s.mode.job then (s.logErr Er.JTAG_TAKEOVER Pg.TST).flag Pg.TST Fd.TST_STAT_TAKEOVER_SEEN else s

/-- An instruction shown in TAP_STAT. -/
def State.tapShown (s : State) (i : Nat) : State :=
  ((({ s with hlth := { s.hlth with tap := i } } : State).setFld Pg.TST Fd.TST_TAP_STAT_TAP (Config.freeNat s.free)).setFld Pg.TST
    Fd.TST_TAP_STAT_b0 i).setBit Pg.TST Fd.TST_TAP_STAT_b12 (tapTakes i)

section
variable {s : State} {i : Nat}

theorem State.tapLoad_eq : s.tapLoad i = ((s.tapTaken i).tapShown i).drawn := rfl

theorem State.tapShown_same {a : Nat} (h : a ≠ Pg.TST * 4096 + Rg.TST_TAP_STAT) : RegSame a s (s.tapShown i) :=
  (State.setBit_same h).step ((State.setFld_same h).step (RegSame.step (State.setFld_same h) (RegSame.of_regs rfl)))

theorem State.tapTaken_seen (h : tapTakes i = true) (hj : s.mode.job = true) :
    (s.tapTaken i).on Pg.TST Fd.TST_STAT_TAKEOVER_SEEN = true := by
  unfold State.tapTaken
  rw [h, hj]
  exact State.on_flag_self (by decide) (by decide) (by decide) (by decide)

theorem State.tapTaken_quiet (h : tapTakes i = false ∨ s.mode.job = false) : s.tapTaken i = s := if_neg (by simpa [or_iff_not_imp_left] using h)

end

/-- What an instruction of the test access port shows. -/
theorem tapInstructionShows (i : Fin 256) (s : State) :
    ∃ t, exec (.tapInstruction i) s = .next t ∧ t.hlth.tap = i.val ∧ t.fld Pg.TST Fd.TST_TAP_STAT_b0 = i.val ∧
      t.on Pg.TST Fd.TST_TAP_STAT_b12 = tapTakes i ∧ (tapTakes i = true → s.mode.job = true → t.on Pg.TST Fd.TST_STAT_TAKEOVER_SEEN = true) ∧
      (tapTakes i = false ∨ s.mode.job = false → regsKept [Pg.TST * 4096 + Rg.TST_TAP_STAT] s t) := by
  refine ⟨((s.tapTaken i).tapShown i).drawn, rfl, rfl, ?_, ?_, fun ht hj => ?_, fun hq => ?_⟩
  · unfold State.tapShown State.setBit
    rw [State.drawn_fld, State.fld_setFld_p (f := Fd.TST_TAP_STAT_b12) (g := Fd.TST_TAP_STAT_b0) (by decide) (by decide),
      State.fld_setFld _ _ _ _ (by decide)]
    exact Nat.mod_eq_of_lt i.isLt
  · rw [State.drawn_on]
    exact State.on_setBit _ _ _ _ (by decide) (by decide)
  · rw [State.drawn_on, (State.tapShown_same (by decide)).on, State.tapTaken_seen ht hj]
  · rw [State.tapTaken_quiet hq]
    exact regsKept_one fun _ ha => RegSame.step (RegSame.of_regs (State.drawn_regs _)) (State.tapShown_same ha)

/-- Settles O43: calibrations, the memory test and the test access port, by what each command finds. -/
theorem calibrationsMemoryTestAndTapRun : Obligations.CalibrationsMemoryTestAndTapRun := by
  refine ⟨fun o w s h hgo => calCtlStartsOrWaits h hgo, fun k s => ⟨_, rfl, fun hd => ?_, fun hd hn => ?_⟩, calAttemptsAgreeOrGiveUp,
    fun o w s h hgo => mbistStartsOrReports h hgo, mbistEndsWithItsResult,
    tapInstructionShows,
    fun s => ⟨_, rfl, rfl, State.rd_wr_same _ _ _ _, regsKept_one fun _ ha => (State.wr_same ha).step (RegSame.of_regs rfl)⟩⟩
  · rcases hd with hd | hd
    · exact if_neg (by simpa using hd)
    · rw [State.startCal_absorbed hd, ite_self]
  · rw [if_pos (by simpa using hd), State.startCal_idle _ hn]
    exact ⟨State.calOf_setCal _ _ _, rfl⟩

end Sys2Proof.Machine
end

section
/-!
PROOFS. Words enter and leave the queues (O12).
-/
namespace Sys2Proof.Machine

/-! ### Credits and pushes (R484, R485) -/

/-- A credit request, by whether it is granted. -/
theorem queueCreditsGrantedOrRefused (q : Fin 8192) (r : Fin 8) (n : Nat) (reserve : Bool) (s : State) :
    ∃ t, exec (.queueCreditRequest q r n reserve) s = .next t ∧
      (s.qEn q = true ∧ n ≤ s.qFree q reserve → (t.q q).credOf r = (s.q q).credOf r + n ∧ (t.q q).words = (s.q q).words ∧ t.regs = s.regs) ∧
      (s.qEn q = false ∨ s.qFree q reserve < n → t.queue = s.queue ∧
        t.fld Pg.QF ⟨Rg.QF_REFUSE_CNT, 0, 16⟩ = satN 16 (s.fld Pg.QF ⟨Rg.QF_REFUSE_CNT, 0, 16⟩ + 1)) := by
  refine ⟨(s.qRequest q r n reserve).1, rfl, fun h => ?_, fun h => ?_⟩
  · have hq : (s.qRequest q r n reserve).1 = s.setQ q ((s.q q).setCred r ((s.q q).credOf r + n)) :=
      congrArg Prod.fst (if_pos (by simpa using h))
    rw [hq, State.q_setQ]
    exact ⟨Queue.credOf_setCred _ _ _, rfl, rfl⟩
  · have hq : (s.qRequest q r n reserve).1 = s.bump Pg.QF ⟨Rg.QF_REFUSE_CNT, 0, 16⟩ :=
      congrArg Prod.fst (if_neg (fun hg => by
        rw [Bool.and_eq_true, decide_eq_true_eq] at hg
        rcases h with h | h
        · exact Bool.false_ne_true (h.symm.trans hg.1)
        · exact absurd hg.2 (Nat.not_le.2 h)))
    rw [hq, State.bump_queue]
    exact ⟨rfl, State.fld_bump _ _ _ (by decide)⟩

/-- A push by a holder of a credit. -/
theorem queueWordsEnterAtTheEnd (q : Fin 8192) (r : Fin 8) (data : Word64) (tag : Fin 4) (sof eof : Bool) (s : State)
    (hc : 0 < (s.q q).credOf r) (he : s.qExt q = false) : ∃ t, exec (.queuePush q r data tag sof eof) s = .next t ∧
      (t.q q).words = (s.q q).words ++ [mkWord data (if tag.val = tagNotValid then tagPoisoned else tag) sof eof] ∧
      (t.q q).credOf r = (s.q q).credOf r - 1 := by
  obtain ⟨b, hq⟩ := State.qPush_q s q r data tag sof eof he
  refine ⟨_, congrArg Host.Outcome.next (if_pos hc), ?_, ?_⟩
  · rw [hq]
  · rw [hq]
    exact Queue.credOf_setCred _ _ _

/-! ### Pops and polls (R486-R488) -/

/-- The head word as it is delivered, its data as read differing from the stored bits by `flip`. -/
def QWord.got (w : QWord) (flip : Word64) : QWord :=
  { w with
    data := w.data ^^^ flip
    tag := if parityOf (w.data ^^^ flip) w.tag w.sof w.eof = w.parity then w.tag else tagPoisoned }

section
variable {q : Fin 8192} {flip : Word64} {w : QWord} {rest : List QWord} {s : State} (h : (s.q q).words = w :: rest)
  (hp : parityOf (w.data ^^^ flip) w.tag w.sof w.eof = w.parity ∨ (s.q q).parLogged = true)
include h hp

theorem qPopFlip_takes : ∃ t l, s.qPopFlip q flip = (t, some (w.got flip)) ∧ (t.q q).words = rest ∧ t.out = s.out ++ l ∧
    (parityOf (w.data ^^^ flip) w.tag w.sof w.eof ≠ w.parity → (t.q q).parErr = satN 16 ((s.q q).parErr + 1)) := by
  obtain ⟨t, ht, hw, hpar, -, -⟩ := State.qPopFlip_q s q flip w rest h hp
  obtain ⟨l, hl⟩ : s.out <+: t.out := by
    have hk := (State.qPopFlip_within s q flip).kept.out
    rwa [ht] at hk
  exact ⟨t, l, ht, hw, hl.symm, hpar⟩

theorem execQueuePop_takes : ∃ t l, exec (.queuePop q flip) s = .next t ∧ (t.q q).words = rest ∧ t.out = s.out ++ l ++ [.word q (w.got flip)] ∧
    (parityOf (w.data ^^^ flip) w.tag w.sof w.eof ≠ w.parity → (t.q q).parErr = satN 16 ((s.q q).parErr + 1)) := by
  obtain ⟨t, l, ht, hw, hout, hpar⟩ := qPopFlip_takes h hp
  have hcount := State.countWord_within t q (w.got flip)
  refine ⟨(t.countWord q (w.got flip)).emit (.word q (w.got flip)), l, ?_, ?_, ?_, fun hk => ?_⟩
  · show execQueuePop q flip s = _
    unfold execQueuePop
    rw [ht]
  · exact (congrArg Queue.words (hcount.q q rfl)).trans hw
  · rw [State.emit_out, hcount.out_eq rfl, hout]
  · exact (congrArg Queue.parErr (hcount.q q rfl)).trans (hpar hk)

theorem execQueuePoll_takes : ∃ t l, exec (.queuePoll q flip) s = .next t ∧ (t.q q).words = rest ∧
    t.out = s.out ++ l ++ [.word q (w.got flip)] := by
  obtain ⟨t, l, ht, hw, hout, -⟩ := qPopFlip_takes h hp
  refine ⟨t.emit (.word q (w.got flip)), l, ?_, hw, ?_⟩
  · show execQueuePoll q flip s = _
    unfold execQueuePoll State.poll
    rw [ht]
  · rw [State.emit_out, hout]

end

/-! ### The extension mover and the bank arbiter (R491, R494) -/

theorem State.extMoveN_some (q n : Nat) {s : State} (h1 : 0 < (s.q q).extLen) (h2 : (s.q q).words.length < s.qCap q) :
    ∃ l, l ≠ [] ∧ ((s.extMoveN q (n + 1)).q q).words = (s.q q).words ++ l ∧ ((s.extMoveN q (n + 1)).q q).depth = (s.q q).depth := by
  obtain ⟨w, hw, hd⟩ := State.extWord_q s q h1 h2
  obtain ⟨l, hl, hdl⟩ := State.extMoveN_q q n (s.extWord q)
  exact ⟨w :: l, List.cons_ne_nil _ _, by rw [State.extMoveN, hl, hw, List.append_assoc]; rfl, by rw [State.extMoveN, hdl, hd]⟩

theorem execExtMove_moves (q : Fin 8192) (s : State) (h1 : 0 < (s.q q).extLen) (h2 : (s.q q).words.length < s.qCap q)
    (hbad : s.dramBad (s.ringAt q (s.q q).extHead).1 64 = false) :
    ∃ t l, exec (.extMove q false) s = .next t ∧ l ≠ [] ∧ (t.q q).words = (s.q q).words ++ l ∧ (t.q q).depth = (s.q q).depth := by
  obtain ⟨n, hn⟩ : ∃ n, headLine (s.q q) = n + 1 := ⟨headLine (s.q q) - 1, by
    unfold headLine
    have : 0 < Nat.min (7 - (s.q q).extHead % 7) (s.q q).extLen := Nat.lt_min.2 ⟨by omega, h1⟩
    omega⟩
  obtain ⟨l, hne, hw, hd⟩ := State.extMoveN_some q n h1 h2
  refine ⟨s.extMoveN q (n + 1), l, ?_, hne, hw, hd⟩
  show Host.Outcome.next (s.extMove q false) = _
  unfold State.extMove
  dsimp only
  rw [if_neg (by omega), hn, hbad, Bool.or_self, Bool.and_false, if_neg Bool.false_ne_true]

theorem State.arbRound_idle {s : State} {a : Nat} (l : List Nat) (h : (tabGet (dflt {}) s.arb a).grant = none) :
    s.arbRound a l = ({ s with arb := tabPut (dflt {}) a ⟨if l = [] then none else some (maxN l)⟩ s.arb }, none, false) := by
  unfold State.arbRound
  rw [h]
  cases l with
  | nil => rfl
  | cons x l => rfl

/-- The requesters that are left for the next round. -/
def arbRest (l : List Nat) (served : Option Nat) : List Nat := match served with | some r => l.erase r | none => l

/-- What a round answers once it is known whom it serves. -/
def State.arbAfter (s : State) (a : Nat) (l : List Nat) (g served : Option Nat) : State × Option Nat × Bool :=
  ({ s with arb := tabPut (dflt {}) a ⟨if (arbRest l served).isEmpty then none else some (maxN (arbRest l served))⟩ s.arb }, served,
    g.isSome && served.isNone)

theorem State.arbRound_dead {s : State} {a r : Nat} {l : List Nat} (h : (tabGet (dflt {}) s.arb a).grant = some r) (hr : r ∉ l) :
    s.arbRound a l = ({ s with arb := tabPut (dflt {}) a ⟨if l = [] then none else some (maxN l)⟩ s.arb }, none, true) := by
  have hserved : (if l.contains r then some r else none : Option Nat) = none := if_neg (by simpa using hr)
  have hround : s.arbRound a l = s.arbAfter a l (some r) (if l.contains r then some r else none) := by
    unfold State.arbRound
    rw [h]
    rfl
  rw [hround, hserved]
  cases l with
  | nil => rfl
  | cons x l => rfl

/-- A round of a bank's arbiter, and the count of a dead one. -/
def State.bankRound (s : State) (b : Nat) (l : List Nat) : State :=
  if (s.arbRound (16 + b) l).2.2 then (s.arbRound (16 + b) l).1.bump Pg.QF Fd.QF_BANK_CNT_b0 else (s.arbRound (16 + b) l).1

/-- One round of a bank's arbiter. -/
theorem bankRoundGrantsOrCounts (b : Fin 64) (reqs : List (Fin 8)) (s : State) :
    ∃ t, exec (.bankGrant b reqs) s = .next t ∧ t.queue = s.queue ∧
      ((tabGet (dflt {}) s.arb (16 + b)).grant = none → (tabGet (dflt {}) t.arb (16 + b)).grant =
        (if reqs = [] then none else some (maxN (reqs.map (·.val)))) ∧ t.regs = s.regs) ∧
      (∀ r, (tabGet (dflt {}) s.arb (16 + b)).grant = some r → r ∉ reqs.map (·.val) →
        t.fld Pg.QF Fd.QF_BANK_CNT_b0 = satN Fd.QF_BANK_CNT_b0.len (s.fld Pg.QF Fd.QF_BANK_CNT_b0 + 1)) := by
  refine ⟨s.bankRound b (reqs.map (·.val)), rfl, ?_, fun h => ?_, fun r h hr => ?_⟩
  · unfold State.bankRound
    rw [apply_ite State.queue, State.bump_queue, ite_self]
    rfl
  · unfold State.bankRound
    rw [State.arbRound_idle _ h]
    dsimp only
    rw [if_neg Bool.false_ne_true, tabGet_tabPut_same]
    simp only [List.map_eq_nil_iff, and_true]
  · unfold State.bankRound
    rw [State.arbRound_dead h hr]
    exact State.fld_bump _ _ _ (by decide)

/-- Settles O12: each operation of a queue by its own clause. -/
theorem queueWordsEnterAndLeaveInOrder : Obligations.QueueWordsEnterAndLeaveInOrder := by
  refine ⟨queueCreditsGrantedOrRefused, queueWordsEnterAtTheEnd, fun q flip w rest s h hp => ⟨?_, execQueuePoll_takes h hp⟩,
    fun q flip s h => ⟨execQueuePop_nil flip h, execQueuePoll_nil flip h⟩, execExtMove_moves, bankRoundGrantsOrCounts⟩
  exact execQueuePop_takes h hp

end Sys2Proof.Machine
end

section
/-!
PROOFS. A DMA burst over the read-only bits of a master header (O14).
-/
namespace Sys2Proof.Machine

/-- Channel 0 runs a set of bursts to DRAM at 12,288 and has a byte of 1 in flight; job 0 is REFUSED, and its one section, a MASTER of
length 0, stands at 12,288: its header's RO bits lie there, but no byte of it belongs to the job. -/
def overHeader : State :=
  { State.reset.setWinBits (dmaSetAt 0 0) 0 256 (2 ^ 64 * 12288 + 2 ^ 128 * 2) with
    dma := [(0, { state := 1, active := some 0, flying := [some ([1], [])] })]
    mem := [(0, 5), (13, 0x20), (20, 1), (8192, 0x20), (8193, 1), (8209, 0x30)]
    blank := [⟨0, 2 ^ 40, none⟩] }

/-- The burst lies within DRAM, outside every job and the job directory. -/
theorem overHeader_free :
    (overHeader.ch 0).flying = [some ([1], [])] ∧ (overHeader.ch 0).state = 1 ∧ (overHeader.ch 0).pause = false ∧
      (overHeader.ch 0).abort = false ∧ (overHeader.chSet 0).dstSpace = 0 ∧ (overHeader.chSet 0).dstAt (overHeader.ch 0).done = 12288 ∧
      overHeader.outOfRange 12288 1 = false ∧ (∀ j, j < 64 → overHeader.inJob j 12288 1 = false) ∧
      (∀ j, j < 64 → overHeader.dirAddr j + 64 ≤ 12288 ∨ 12288 + 1 ≤ overHeader.dirAddr j) := by decide +kernel

/-- The header's RO bits are put back: the byte of the burst is not stored. -/
theorem overHeader_done : (overHeader.dmaDone 0 []).dram 12288 1 = [0] := by decide +kernel

/-- Refutes O14: a burst within DRAM and outside every job and the job directory is not stored as it stands where it meets the RO bits of
the master header of a section that is shorter than its header. -/
theorem not_dmaChannelsRunTheirSets : ¬ Obligations.DmaChannelsRunTheirSets := by
  rintro ⟨-, -, -, -, -, hdone, -⟩
  obtain ⟨hfly, hstate, hpause, habort, hspace, hdst, hrange, hjob, hdir⟩ := overHeader_free
  obtain ⟨t, ht, hmem, -⟩ := hdone 0 [] [1] [] [] overHeader hfly hstate hpause habort (List.cons_ne_nil 1 [])
  have hburst : overHeader.dmaDone 0 [] = t := Host.Outcome.next.inj ht
  rw [show ((0 : Fin 32) : Nat) = 0 from rfl, hdst] at hmem
  have hstored := hmem ⟨hspace, hrange, hjob, hdir⟩
  rw [← hburst] at hstored
  exact absurd (overHeader_done.symm.trans hstored) (by decide)

end Sys2Proof.Machine
end

section
/-!
PROOFS. Memory accesses, refresh windows, fills and training (O16).
-/
namespace Sys2Proof.Machine

/-! ### Accesses (R512, R513, R525) -/

/-- A channel's only access granted, before the deferred accesses count. -/
def State.dramTaken (s : State) (c : Nat) : State :=
  ({ s with arb := tabPut (dflt {}) (100 + c) ⟨none⟩ s.arb } : State).setMc c { s.mcOf c with defer := (s.mcOf c).defer % 1024 }

/-- The state once a channel's only access has been granted. -/
def State.dramServed (s : State) (c : Nat) : State := (s.dramTaken c).bumpBy (Pg.MC c) Fd.MC_PANIC_CNT_b16 ((s.mcOf c).defer / 1024)

theorem State.dramServed_same {s : State} {a c : Nat} (h : a ≠ Pg.MC c * 4096 + Rg.MC_PANIC_CNT) : RegSame a s (s.dramServed c) :=
  RegSame.step (t := s.dramTaken c) (State.bumpBy_same h) (RegSame.of_regs rfl)

/-- A row opened in a bank of a channel. -/
def State.openRow (s : State) (c a : Nat) : State :=
  s.setMc c { s.mcOf c with open_ := tabPut (dflt none) (s.bankOf a) (some (s.rowOf a)) (s.mcOf c).open_ }

/-- What an access within the capacity that finds no earlier error does, by what the memory reports. -/
def State.dramResult (s : State) (c : Nat) (x : MemReq) (r : MemResult) : State :=
  match r with
  | .good => s
  | .correctedInline => if s.inlineAt x.addr then s.corrected c false else s
  | .correctedLink => s.corrected c true
  | .uncorrectedInline => if s.inlineAt x.addr then s.uncorrected x.addr true else s
  | .uncorrectedLink => s.uncorrected x.addr false

/-- The access served. -/
def State.dramMoved (s : State) (c : Nat) (x : MemReq) (r : MemResult) : State :=
  if s.outOfRange x.addr 64 then s.memRange x.port
  else if x.write then s.openRow c x.addr
  else if (s.openRow c x.addr).dramBad (x.addr / 64 * 64) 64 then (s.openRow c x.addr).uncorrected x.addr true
  else (s.openRow c x.addr).dramResult c x r

/-- A port's only access is the one that its queue serves. -/
theorem State.nextAccess_one (s : State) (c : Nat) (x : MemReq) : s.nextAccess c x.port [x] = some x := by
  have hmine : [x].filter (·.port == x.port) = [x] := by simp
  unfold State.nextAccess
  dsimp only
  rw [hmine, List.find?_cons]
  split
  · rfl
  · split
    · next h =>
      split at h
      · exact h.symm
      · cases h
    · rfl

theorem State.dramGrant_moves {c : Nat} {x : MemReq} {s : State} (r : MemResult) (hp : (s.mcOf c).panic = [])
    (hg : (tabGet (dflt {}) s.arb (100 + c)).grant = some x.port) : s.dramGrant c [x] r = (s.dramServed c).dramMoved c x r := by
  have hreq : s.requesting c [x] = [x] := by unfold State.requesting; simp [hp]
  have hround := State.arbRound_served hg
  unfold State.dramGrant
  rw [hreq]
  dsimp only
  rw [List.map_cons, List.map_nil, hround]
  dsimp only
  rw [State.nextAccess_one]
  rfl

section
variable {s : State} {c : Fin 12}

theorem State.dramServed_rd {off : Nat} (h : off < 4096) : (s.dramServed c).rd Pg.MCG off = s.rd Pg.MCG off :=
  (State.dramServed_same (mc_ne_mcg c.isLt h (by decide))).rd

theorem State.dramServed_outOfRange (a n : Nat) : (s.dramServed c).outOfRange a n = s.outOfRange a n :=
  State.outOfRange_of (State.bumpBy_trained (s.dramTaken c) _ _ _) (fun _ h => State.dramServed_rd h) a n

theorem State.dramServed_open : ((s.dramServed c).mcOf c).open_ = (s.mcOf c).open_ := by
  unfold State.dramServed State.dramTaken
  rw [State.bumpBy_mcOf, State.mcOf_setMc]

theorem State.dramServed_lost : (s.dramServed c).on (Pg.MC c) Fd.MC_STAT_MARGIN_LOST = s.on (Pg.MC c) Fd.MC_STAT_MARGIN_LOST :=
  (State.dramServed_same (off_ne (by decide))).on

theorem State.inlineAt_of {t : State} (hr : ∀ off, off < 4096 → t.rd Pg.MCG off = s.rd Pg.MCG off) (a : Nat) : t.inlineAt a = s.inlineAt a := by
  have hfld : ∀ n < 8, ∀ f : Fld, f.off = Rg.MCG_ECC_RGN n → t.fld Pg.MCG f = s.fld Pg.MCG f := fun n hn f hf => by
    unfold State.fld
    rw [hr _ (by rw [hf]; exact eccOff_lt hn)]
  have hregions : t.eccRegions = s.eccRegions := by
    unfold State.eccRegions State.on
    rw [List.filter_congr fun n hn => by rw [hfld n (List.mem_range.1 hn) (Fd.MCG_ECC_RGN_EN n) rfl]]
    refine List.map_congr_left fun n hn => ?_
    have hn8 := List.mem_range.1 (List.mem_of_mem_filter hn)
    rw [hfld n hn8 (Fd.MCG_ECC_RGN_BASE n) rfl, hfld n hn8 (Fd.MCG_ECC_RGN_SIZE n) rfl]
  unfold State.inlineAt
  rw [hregions]

theorem State.openRow_row (a : Nat) : tabGet (dflt none) ((s.openRow c a).mcOf c).open_ (s.bankOf a) = some (s.rowOf a) := by
  unfold State.openRow
  rw [State.mcOf_setMc, tabGet_tabPut_same]

end

/-- An uncorrected error logged, shown and counted. -/
def State.errShown (s : State) (a : Nat) : State :=
  let s := s.logErr Er.MEM_UE Pg.MCG (Machine.chanOf a) (a % 2 ^ 32)
  let s := s.wr Pg.MCG Rg.MCG_ERR_ADDR_LO (BitVec.ofNat 32 a)
  let s := s.wr Pg.MCG Rg.MCG_ERR_ADDR_HI (BitVec.ofNat 32 (a / 2 ^ 32 % 256 + 256 * Machine.chanOf a + 4096 * b2n true))
  (s.bump Pg.MCG ⟨Rg.MCG_ERR_CNT, 16, 16⟩).bump (Pg.MC (Machine.chanOf a)) ⟨Rg.MC_ERR_CNT, 16, 8⟩

/-- Its line marked. -/
def State.errMarked (s : State) (a : Nat) : State := { s.errShown a with badLine := tabPut (dflt false) (a / 64) true (s.errShown a).badLine }

theorem State.errMarked_regs (s : State) (a : Nat) : (s.errMarked a).regs = (s.errShown a).regs := rfl

/-- Its escalation while the channel has lost its margin. -/
def State.errEscalated (s : State) (c : Nat) : State :=
  let n := (s.mcOf c).ue + 1
  let s := s.setMc c { s.mcOf c with ue := n }
  if n = s.fld Pg.MCG Fd.MCG_TRAIN_CTL_ESC_UE then s.logErr Er.MEM_ESCALATE Pg.MCG c else s

theorem State.uncorrected_eq (s : State) (a : Nat) : s.uncorrected a true =
    if (s.errMarked a).on (Pg.MC (Machine.chanOf a)) Fd.MC_STAT_MARGIN_LOST then (s.errMarked a).errEscalated (Machine.chanOf a) else s.errMarked a := rfl

section
variable {s : State} {a : Nat} (hc : Machine.chanOf a < 12)
include hc

theorem State.errShown_lost : (s.errShown a).on (Pg.MC (Machine.chanOf a)) Fd.MC_STAT_MARGIN_LOST =
    s.on (Pg.MC (Machine.chanOf a)) Fd.MC_STAT_MARGIN_LOST := by
  have hpage : Pg.MC (Machine.chanOf a) ≠ Pg.PCIE ∧ Pg.MC (Machine.chanOf a) ≠ Pg.QF ∧ Pg.MC (Machine.chanOf a) ≠ Pg.SUPV0 := by
    unfold Pg.MC Pg.PCIE Pg.QF Pg.SUPV0
    omega
  have hmcg {o : Nat} (ho : o < 4096) : Pg.MC (Machine.chanOf a) * 4096 + Fd.MC_STAT_MARGIN_LOST.off ≠ Pg.MCG * 4096 + o :=
    (mc_ne_mcg hc ho (by decide)).symm
  unfold State.errShown
  dsimp only
  rw [State.on_bump_p (by decide) (by decide), (State.bump_same (hmcg (by decide))).on, (State.wr_same (hmcg (by decide))).on,
    (State.wr_same (hmcg (by decide))).on, State.on_logMinor_p (by decide) hpage.1 hpage.2.1 hpage.2.2 (by decide)]

theorem State.errShown_addr : (s.errShown a).rd Pg.MCG Rg.MCG_ERR_ADDR_LO = BitVec.ofNat 32 a := by
  unfold State.errShown
  dsimp only
  rw [(State.bump_same (mc_ne_mcg hc (by decide) (by decide))).rd, (State.bump_same (by decide)).rd,
    State.rd_wr_of_ne _ _ _ _ _ _ (by decide), State.rd_wr_same]

end

/-- An uncorrected error of a channel that holds its margin: its line is marked and its address shown. -/
theorem State.uncorrected_shows {s : State} {a : Nat} (h : s.on (Pg.MC (Machine.chanOf a)) Fd.MC_STAT_MARGIN_LOST = false) (hc : Machine.chanOf a < 12) :
    tabGet (dflt false) (s.uncorrected a true).badLine (a / 64) = true ∧
      (s.uncorrected a true).rd Pg.MCG Rg.MCG_ERR_ADDR_LO = BitVec.ofNat 32 a := by
  have hlost : ¬(s.errMarked a).on (Pg.MC (Machine.chanOf a)) Fd.MC_STAT_MARGIN_LOST = true := by
    rw [State.on_of (s.errMarked_regs a), State.errShown_lost hc, h]
    exact Bool.false_ne_true
  rw [State.uncorrected_eq, if_neg hlost]
  exact ⟨tabGet_tabPut_same _ _ _ _, (State.rd_of (s.errMarked_regs a) _ _).trans (State.errShown_addr hc)⟩

/-- One access that holds its channel's grant. -/
theorem dramAccessesOpenRowsAndReport (c : Fin 12) (x : MemReq) (r : MemResult) (s : State) (hchan : chanOf x.addr = c.val)
    (hp : (s.mcOf c).panic = []) (hg : (tabGet (dflt {}) s.arb (100 + c)).grant = some x.port) :
    ∃ t, exec (.dramAccessGrant c [x] r) s = .next t ∧
      (s.outOfRange x.addr 64 = false ∧ (x.write = true ∨ s.dramBad (x.addr / 64 * 64) 64 = false ∧ r = .good) →
        tabGet (dflt none) (t.mcOf c).open_ (s.bankOf x.addr) = some (s.rowOf x.addr) ∧ t.mem = s.mem ∧ t.badLine = s.badLine) ∧
      (s.outOfRange x.addr 64 = false ∧ x.write = false ∧ s.dramBad (x.addr / 64 * 64) 64 = false ∧ r = .uncorrectedInline ∧
          s.inlineAt x.addr = true ∧ s.on (Pg.MC c) Fd.MC_STAT_MARGIN_LOST = false →
        tabGet (dflt false) t.badLine (x.addr / 64) = true ∧ t.rd Pg.MCG Rg.MCG_ERR_ADDR_LO = BitVec.ofNat 32 x.addr) ∧
      (s.outOfRange x.addr 64 = true → (t.mcOf c).open_ = (s.mcOf c).open_ ∧ t.on Pg.MCG Fd.MCG_STAT_RANGE_SEEN = true) := by
  have hrange := State.dramServed_outOfRange (s := s) (c := c) x.addr 64
  have hmine : [x].filter (fun x => chanOf x.addr == c.val) = [x] := by simp [hchan]
  refine ⟨(s.dramServed c).dramMoved c x r, ?_, ?_, ?_, fun hr => ?_⟩
  · show Host.Outcome.next (s.dramGrant c ([x].filter fun x => chanOf x.addr == c.val) r) = _
    rw [hmine, State.dramGrant_moves r hp hg]
  · rintro ⟨hr, hw⟩
    have hmoved : (s.dramServed c).dramMoved c x r = (s.dramServed c).openRow c x.addr := by
      unfold State.dramMoved
      rw [hrange, hr, if_neg Bool.false_ne_true]
      rcases hw with hw | ⟨hbad, rfl⟩
      · rw [if_pos hw]
      · rw [show ((s.dramServed c).openRow c x.addr).dramBad (x.addr / 64 * 64) 64 = false from hbad, if_neg Bool.false_ne_true]
        exact ite_self _
    rw [hmoved]
    exact ⟨State.openRow_row (s := s.dramServed c) x.addr, rfl, rfl⟩
  · rintro ⟨hr, hw, hbad, rfl, hin, hlost⟩
    have hmoved : (s.dramServed c).dramMoved c x .uncorrectedInline = ((s.dramServed c).openRow c x.addr).uncorrected x.addr true := by
      unfold State.dramMoved
      rw [hrange, hr, if_neg Bool.false_ne_true, hw, if_neg Bool.false_ne_true,
        show ((s.dramServed c).openRow c x.addr).dramBad (x.addr / 64 * 64) 64 = false from hbad, if_neg Bool.false_ne_true]
      exact if_pos ((State.inlineAt_of (fun _ h => State.dramServed_rd h) _).trans hin)
    rw [hmoved]
    exact State.uncorrected_shows (by rw [hchan]; exact State.dramServed_lost.trans hlost) (by rw [hchan]; exact c.isLt)
  · have hmoved : (s.dramServed c).dramMoved c x r = (s.dramServed c).memRange x.port := if_pos (hrange.trans hr)
    rw [hmoved]
    refine ⟨?_, State.on_flag_self (by decide) (by decide) (by decide) (by decide)⟩
    rw [(State.memRange_within ..).mcOf c rfl, State.dramServed_open]

/-- A row idle for its time closes, and nothing else changes. -/
theorem rowIdleClosesOneRow (c : Fin 12) (b : Fin 32) (s : State) : ∃ t, exec (.rowIdleClose c b) s = .next t ∧ { t with mc := s.mc } = s ∧
    tabGet (dflt none) (t.mcOf c).open_ b = none ∧
    (∀ k, k ≠ b.val → tabGet (dflt none) (t.mcOf c).open_ k = tabGet (dflt none) (s.mcOf c).open_ k) ∧
    (∀ k, k ≠ c.val → t.mcOf k = s.mcOf k) := by
  refine ⟨_, rfl, rfl, ?_, fun k hk => ?_, fun k hk => tabGet_tabPut_of_ne _ _ _ hk⟩
  · rw [State.mcOf_setMc, tabGet_tabPut_same]
  · rw [State.mcOf_setMc]
    exact tabGet_tabPut_of_ne _ _ _ hk

/-! ### Refresh windows and tracking (R519-R521, R528) -/

section
variable {σ α β : Type} {f : σ → β × Nat → σ} {g : σ → Nat → α} {step : α → β → α} {m : Nat} {P : β → Prop}
  (hstep : ∀ s e k, e.2 < m → P e.1 → g (f s e) k = if k = e.2 then step (g s k) e.1 else g s k)
include hstep

/-- A fold over a list with the places of its values moves the entry of each place once, and no other. -/
theorem foldl_zipIdx_each (l : List β) (n : Nat) (s : σ) (hm : n + l.length ≤ m) (hP : ∀ x ∈ l, P x) :
    (∀ i (hi : i < l.length), g ((l.zipIdx n).foldl f s) (n + i) = step (g s (n + i)) l[i]) ∧
      ∀ k, k < n ∨ n + l.length ≤ k → g ((l.zipIdx n).foldl f s) k = g s k := by
  induction l generalizing n s with
  | nil => exact ⟨fun i hi => absurd hi (Nat.not_lt_zero i), fun _ _ => rfl⟩
  | cons x l ih =>
    rw [List.length_cons] at hm
    have hfirst (k : Nat) := hstep s (x, n) k (show n < m by omega) (hP x (by simp))
    obtain ⟨hat, hout⟩ := ih (n + 1) (f s (x, n)) (by omega) fun y hy => hP y (by simp [hy])
    rw [List.zipIdx_cons, List.foldl_cons]
    refine ⟨fun i hi => ?_, fun k hk => ?_⟩
    · cases i with
      | zero => exact (hout n (by omega)).trans ((hfirst n).trans (if_pos rfl))
      | succ i =>
        have hplace : n + (i + 1) = n + 1 + i := by omega
        rw [hplace, hat i (Nat.lt_of_succ_lt_succ hi), hfirst, if_neg (by show ¬n + 1 + i = n; omega), List.getElem_cons_succ]
    · rw [List.length_cons] at hk
      rw [hout k (by omega), hfirst, if_neg (by show ¬k = n; omega)]

end

/-- What tracking moves of a channel: its MR4 code, its delays and its open rows; and whether tracking is on. -/
structure Tracked where
  mr4   : Nat
  move0 : Int
  move1 : Int
  rows  : Tab (Option Nat)
  on    : Bool

def State.tracked (s : State) (c : Nat) : Tracked :=
  ⟨s.fld (Pg.MC c) Fd.MC_STAT_MR4_RATE, (s.mcOf c).move0, (s.mcOf c).move1, (s.mcOf c).open_, s.on Pg.MCG Fd.MCG_TRAIN_CTL_TRACK_EN⟩

/-- A channel moved by what its device answers. -/
def Tracked.step (v : Tracked) (x : TrackRead) : Tracked :=
  { v with
    mr4 := x.mr4 % 2 ^ Fd.MC_STAT_MR4_RATE.len
    move0 := if v.on then trackStep v.move0 x.drift0 else v.move0
    move1 := if v.on then trackStep v.move1 x.drift1 else v.move1 }

section
variable {s : State} {c k : Nat}

/-- A field of a channel's page other than the MR4 code is not part of what tracking moves. -/
theorem State.tracked_setFld {f : Fld} (v : Nat) (hc : c < 12) (hf : f.off < 4096) (hl : f.lo + f.len ≤ 32) (h : apart f Fd.MC_STAT_MR4_RATE) :
    (s.setFld (Pg.MC c) f v).tracked k = s.tracked k := by
  have hmr4 : (s.setFld (Pg.MC c) f v).fld (Pg.MC k) Fd.MC_STAT_MR4_RATE = s.fld (Pg.MC k) Fd.MC_STAT_MR4_RATE := by
    refine State.fld_setFld_apart _ _ _ _ _ _ hl ?_
    rcases h with h | h
    · left
      show Pg.MC k * 4096 + 0x040 ≠ Pg.MC c * 4096 + f.off
      change f.off ≠ 0x040 at h
      omega
    · exact .inr h
  unfold State.tracked
  rw [hmr4, (State.setFld_same (mc_ne_mcg hc (by decide) hf)).on]
  rfl

theorem State.tracked_mr4 (v : Nat) (hc : c < 12) : (s.setFld (Pg.MC c) Fd.MC_STAT_MR4_RATE v).tracked k =
    if k = c then { s.tracked k with mr4 := v % 2 ^ Fd.MC_STAT_MR4_RATE.len } else s.tracked k := by
  have hon : (s.setFld (Pg.MC c) Fd.MC_STAT_MR4_RATE v).on Pg.MCG Fd.MCG_TRAIN_CTL_TRACK_EN = s.on Pg.MCG Fd.MCG_TRAIN_CTL_TRACK_EN :=
    (State.setFld_same (mc_ne_mcg hc (by decide) (by decide))).on
  unfold State.tracked
  split
  · next h =>
    rw [h, State.fld_setFld _ _ _ _ (by decide), hon]
    rfl
  · next h =>
    rw [(State.setFld_same (show Pg.MC k * 4096 + 0x040 ≠ Pg.MC c * 4096 + 0x040 by unfold Pg.MC; omega)).fld, hon]
    rfl

theorem State.tracked_setMc (m : Mc) : (s.setMc c m).tracked k =
    if k = c then { s.tracked k with move0 := m.move0, move1 := m.move1, rows := m.open_ } else s.tracked k := by
  unfold State.tracked
  split
  · next h =>
    rw [h, State.mcOf_setMc]
    rfl
  · next h =>
    rw [show (s.setMc c m).mcOf k = s.mcOf k from tabGet_tabPut_of_ne _ _ _ h]
    rfl

/-- The margin that the delays leave shown. -/
def State.marginShown (s : State) (c n : Nat) : State :=
  let s := s.setFld (Pg.MC c) Fd.MC_MARGIN_b24 n
  if 12 ≤ n then s.setFld (Pg.MC c) Fd.MC_STAT_MARGIN_LOW 1 else s

theorem State.tracked_marginShown (n : Nat) (hc : c < 12) : (s.marginShown c n).tracked k = s.tracked k := by
  unfold State.marginShown
  dsimp only
  split
  · exact (State.tracked_setFld _ hc (by decide) (by decide) (by decide)).trans (State.tracked_setFld _ hc (by decide) (by decide) (by decide))
  · exact State.tracked_setFld _ hc (by decide) (by decide) (by decide)

/-- The delays of a channel moved while tracking is on. -/
def State.delaysMoved (s : State) (c : Nat) (x : TrackRead) : State :=
  if s.on Pg.MCG Fd.MCG_TRAIN_CTL_TRACK_EN then
    (s.setMc c { s.mcOf c with move0 := trackStep (s.mcOf c).move0 x.drift0, move1 := trackStep (s.mcOf c).move1 x.drift1 }).marginShown c
      (Nat.max (trackStep (s.mcOf c).move0 x.drift0).natAbs (trackStep (s.mcOf c).move1 x.drift1).natAbs)
  else s

theorem State.tracked_delaysMoved (x : TrackRead) (hc : c < 12) : (s.delaysMoved c x).tracked k =
    if k = c ∧ (s.tracked k).on = true then
      { s.tracked k with move0 := trackStep (s.tracked k).move0 x.drift0, move1 := trackStep (s.tracked k).move1 x.drift1 }
    else s.tracked k := by
  unfold State.delaysMoved
  by_cases hon : s.on Pg.MCG Fd.MCG_TRAIN_CTL_TRACK_EN = true
  · have hk : (s.tracked k).on = true := hon
    rw [if_pos hon, State.tracked_marginShown _ hc, State.tracked_setMc]
    by_cases h : k = c
    · subst h
      rw [if_pos rfl, if_pos ⟨rfl, hk⟩]
      rfl
    · rw [if_neg h, if_neg (fun e => h e.1)]
  · rw [if_neg hon, if_neg (fun e => hon e.2)]

end

/-- A device that reports neither its limit nor a link error. -/
theorem State.trackChannel_calm {s : State} {c : Nat} {x : TrackRead} (hx : x.limit = false ∧ x.writeLinkErr = false) :
    s.trackChannel c x = (s.setFld (Pg.MC c) Fd.MC_STAT_MR4_RATE x.mr4).delaysMoved c x := by
  unfold State.trackChannel
  rw [hx.1, hx.2]
  rfl

theorem State.delaysMoved_mcg (s : State) (c : Nat) (x : TrackRead) : (s.delaysMoved c x).mcg = s.mcg := by
  unfold State.delaysMoved State.marginShown
  dsimp only
  split
  · split
    · rfl
    · rfl
  · rfl

theorem State.trackChannel_step (s : State) (e : TrackRead × Nat) (k : Nat) (he : e.2 < 12) (hx : e.1.limit = false ∧ e.1.writeLinkErr = false) :
    (s.trackChannel e.2 e.1).tracked k = if k = e.2 then (s.tracked k).step e.1 else s.tracked k := by
  rw [State.trackChannel_calm hx, State.tracked_delaysMoved _ he, State.tracked_mr4 _ he]
  unfold Tracked.step
  by_cases h : k = e.2
  · rw [if_pos h, if_pos h]
    by_cases hon : (s.tracked k).on = true
    · rw [if_pos ⟨h, hon⟩, if_pos hon, if_pos hon]
    · rw [if_neg fun e => hon e.2, if_neg hon, if_neg hon]
  · rw [if_neg h, if_neg h, if_neg (fun e => h e.1)]

/-- A tracking window up to its reads of the temperature. -/
def State.trackedAll (s : State) (l : List TrackRead) : State :=
  l.zipIdx.foldl (fun (s : State) (x : TrackRead × Nat) => s.trackChannel x.2 x.1) (s.closeRows.setMcg { s.mcg with windows := 0 })

theorem State.hotUpdate_eq (s : State) (l : List TrackRead) :
    ∃ g b, s.hotUpdate l = (s.setMcg g).setBit Pg.MCG Fd.MCG_STAT_HOT b ∧ g.windows = s.mcg.windows := ⟨_, _, rfl, rfl⟩

theorem State.tracked_hotUpdate (s : State) (l : List TrackRead) {k : Nat} (hk : k < 12) : (s.hotUpdate l).tracked k = s.tracked k := by
  obtain ⟨g, b, h, -⟩ := s.hotUpdate_eq l
  rw [h]
  unfold State.tracked
  rw [(State.setBit_same (mc_ne_mcg hk (by decide) (by decide)).symm).fld, (State.setBit_same (by decide)).on, State.setBit_mcOf,
    State.setMcg_mcOf, State.fld_of (s.setMcg_regs g), State.on_of (s.setMcg_regs g)]

/-- A tracking window moves each channel whose device answers, and closes the rows of all. -/
theorem State.tracked_refresh {s : State} {l : List TrackRead} (hl : l.length ≤ 12) (hx : ∀ x ∈ l, x.limit = false ∧ x.writeLinkErr = false)
    (h : s.fld Pg.MCG Fd.MCG_REF_CTL_TRACK_INTV ≤ s.mcg.windows + 1) {k : Nat} (hk : k < 12) :
    (s.refresh l).tracked k = match l[k]? with
      | some x => Tracked.step { s.tracked k with rows := [] } x
      | none => { s.tracked k with rows := [] } := by
  have hclosed : (s.closeRows.setMcg { s.mcg with windows := 0 }).tracked k = { s.tracked k with rows := [] } := by
    unfold State.tracked
    rw [State.setMcg_mcOf, State.closeRows_mcOf _ _ hk, State.fld_of (s.closeRows.setMcg_regs _), State.on_of (s.closeRows.setMcg_regs _),
      State.fld_of s.closeRows_regs, State.on_of s.closeRows_regs]
  obtain ⟨hat, hout⟩ := foldl_zipIdx_each State.trackChannel_step l 0 (s.closeRows.setMcg { s.mcg with windows := 0 }) (by omega) hx
  rw [State.refresh_track h, State.tracked_hotUpdate _ _ hk]
  rcases Nat.lt_or_ge k l.length with hkl | hkl
  · rw [List.getElem?_eq_getElem hkl, ← hclosed]
    have hk0 := hat k hkl
    rwa [Nat.zero_add] at hk0
  · rw [List.getElem?_eq_none hkl, ← hclosed]
    exact hout k (.inr (by omega))

/-- A tracking window starts the count of windows anew. -/
theorem State.refresh_windows {s : State} {l : List TrackRead} (h : s.fld Pg.MCG Fd.MCG_REF_CTL_TRACK_INTV ≤ s.mcg.windows + 1)
    (hx : ∀ x ∈ l, x.limit = false ∧ x.writeLinkErr = false) : (s.refresh l).mcg.windows = 0 := by
  rw [State.refresh_track h]
  obtain ⟨g, b, heq, hg⟩ := State.hotUpdate_eq (l.zipIdx.foldl (fun (s : State) (x : TrackRead × Nat) => s.trackChannel x.2 x.1)
    (s.closeRows.setMcg { s.mcg with windows := 0 })) l
  rw [heq, State.setBit_mcg, State.setMcg_mcg, hg]
  refine List.foldlRecOn (motive := fun t : State => t.mcg.windows = 0) l.zipIdx _ rfl fun t ht e he => ?_
  rw [State.trackChannel_calm (hx e.1 (List.fst_mem_of_mem_zipIdx he)), State.delaysMoved_mcg]
  exact ht

/-- One refresh window. -/
theorem refreshWindowsCloseAndTrack (l : List TrackRead) (s : State) (hl : l.length ≤ 12) (hx : ∀ x ∈ l, x.limit = false ∧ x.writeLinkErr = false) :
    ∃ t, exec (.refreshWindow l) s = .next t ∧ (∀ c, c < 12 → (t.mcOf c).open_ = []) ∧
      (s.mcg.windows + 1 < s.fld Pg.MCG Fd.MCG_REF_CTL_TRACK_INTV → t.mcg.windows = s.mcg.windows + 1 ∧ t.regs = s.regs) ∧
      (s.fld Pg.MCG Fd.MCG_REF_CTL_TRACK_INTV ≤ s.mcg.windows + 1 → t.mcg.windows = 0 ∧
        ∀ c x, l[c]? = some x → t.fld (Pg.MC c) Fd.MC_STAT_MR4_RATE = x.mr4 % 2 ^ Fd.MC_STAT_MR4_RATE.len ∧
          (s.on Pg.MCG Fd.MCG_TRAIN_CTL_TRACK_EN = true →
            (t.mcOf c).move0 = trackStep (s.mcOf c).move0 x.drift0 ∧ (t.mcOf c).move1 = trackStep (s.mcOf c).move1 x.drift1)) := by
  have hexec : exec (.refreshWindow l) s = .next (s.refresh l) := by
    show Host.Outcome.next (s.refresh (l.take 12)) = _
    rw [List.take_of_length_le hl]
  refine ⟨_, hexec, fun c hc => ?_, fun h => ?_, fun h => ⟨State.refresh_windows h hx, fun c x hcx => ?_⟩⟩
  · rcases Nat.lt_or_ge (s.mcg.windows + 1) (s.fld Pg.MCG Fd.MCG_REF_CTL_TRACK_INTV) with h | h
    · rw [State.refresh_skip h, State.setMcg_mcOf, State.closeRows_mcOf _ _ hc]
    · refine (congrArg Tracked.rows (State.tracked_refresh hl hx h hc)).trans ?_
      split
      · rfl
      · rfl
  · rw [State.refresh_skip h]
    exact ⟨rfl, s.closeRows_regs⟩
  · obtain ⟨hlen, -⟩ := List.getElem?_eq_some_iff.1 hcx
    have htrack := State.tracked_refresh hl hx h (Nat.lt_of_lt_of_le hlen hl)
    rw [hcx] at htrack
    refine ⟨congrArg Tracked.mr4 htrack, fun hon => ⟨?_, ?_⟩⟩
    · exact (congrArg Tracked.move0 htrack).trans (if_pos hon)
    · exact (congrArg Tracked.move1 htrack).trans (if_pos hon)

/-! ### Inline regions filled (R526) -/

/-- INIT_BUSY of a region. -/
abbrev initBusy (n : Nat) : Fld := ⟨Rg.MCG_ECC_CTL, 8 + n, 1⟩

/-- The fill of a region starts where the region is enabled. -/
def State.fillStart (s : State) (n : Nat) : State :=
  if s.on Pg.MCG (Fd.MCG_ECC_RGN_EN n) then s.setFld Pg.MCG (initBusy n) 1 else s

theorem State.fillStart_same {s : State} {n a : Nat} (h : a ≠ Pg.MCG * 4096 + Rg.MCG_ECC_CTL) : RegSame a s (s.fillStart n) := by
  unfold State.fillStart
  split
  · exact State.setFld_same h
  · exact RegSame.refl a s

theorem State.fillStart_busy (s : State) {n k : Nat} (hn : n < 8) :
    (s.fillStart n).on Pg.MCG (initBusy k) = (s.on Pg.MCG (initBusy k) || (n == k && s.on Pg.MCG (Fd.MCG_ECC_RGN_EN k))) := by
  unfold State.fillStart
  by_cases h : n = k
  · subst h
    split
    · next hon =>
      rw [State.on_one (by show 8 + n + 1 ≤ 32; omega) (Nat.one_ne_zero), hon, beq_self_eq_true, Bool.and_self, Bool.or_true]
    · next hon =>
      rw [Bool.not_eq_true] at hon
      rw [hon, Bool.and_false, Bool.or_false]
  · rw [beq_eq_false_iff_ne.2 h, Bool.false_and, Bool.or_false]
    split
    · exact State.on_setFld_p (by show 8 + n + 1 ≤ 32; omega) (.inr (by show 8 + k + 1 ≤ 8 + n ∨ 8 + n + 1 ≤ 8 + k; omega))
    · rfl

theorem State.fillStart_all (l : List Nat) (s : State) (hl : ∀ n ∈ l, n < 8) (k : Nat) :
    (l.foldl State.fillStart s).on Pg.MCG (initBusy k) = (s.on Pg.MCG (initBusy k) || (l.contains k && s.on Pg.MCG (Fd.MCG_ECC_RGN_EN k))) := by
  induction l generalizing s with
  | nil => rw [List.foldl_nil, List.contains_nil, Bool.false_and, Bool.or_false]
  | cons n l ih =>
    have hen : (s.fillStart n).on Pg.MCG (Fd.MCG_ECC_RGN_EN k) = s.on Pg.MCG (Fd.MCG_ECC_RGN_EN k) :=
      (State.fillStart_same (by show Pg.MCG * 4096 + (0x068 + 0x4 * k) ≠ Pg.MCG * 4096 + 0x064; omega)).on
    rw [List.foldl_cons, ih _ (fun m hm => hl m (by simp [hm])), State.fillStart_busy s (hl n (by simp)), hen, List.contains_cons,
      BEq.comm (a := k), Bool.or_assoc, ← Bool.and_or_distrib_right]

/-- ECC_INIT in a mode that lets the regions be filled. -/
theorem eccInitStartsFills (o : Owner) (w : Word) (s : State) (h : s.access o Pg.MCG = .granted) (hm : s.mode = .idle ∨ s.mode = .setup) :
    ∃ t, exec (.eccInit o w) s = .next t ∧ ∀ n, n < 8 →
      t.on Pg.MCG (initBusy n) = (s.on Pg.MCG (initBusy n) || (tbit w.toNat n && s.on Pg.MCG (Fd.MCG_ECC_RGN_EN n))) := by
  refine ⟨(bitsOf 8 w.toNat).foldl State.fillStart (s.touch o Pg.MCG), ?_, fun n hn => ?_⟩
  · refine congrArg Host.Outcome.next ((State.guarded_granted h).trans (if_pos ?_))
    rwa [s.touch_mode]
  · have hmem : (bitsOf 8 w.toNat).contains n = tbit w.toNat n := by
      unfold bitsOf
      rw [Bool.eq_iff_iff, List.contains_iff_mem, List.mem_filter, List.mem_range]
      exact ⟨fun h => h.2, fun h => ⟨hn, h⟩⟩
    rw [State.fillStart_all (bitsOf 8 w.toNat) _ (fun m hm => List.mem_range.1 (List.mem_of_mem_filter hm)), hmem, s.touch_on, s.touch_on]

/-- The end of a fill: the region reads 0, and the rest as before. -/
theorem eccInitDoneFillsTheRegion (n : Fin 8) (s : State) (hm : s.memOk = true) (hb : s.on Pg.MCG (initBusy n) = true) :
    let lo := s.fld Pg.MCG (Fd.MCG_ECC_RGN_BASE n) * 2 ^ 26
    let hi := lo + s.fld Pg.MCG (Fd.MCG_ECC_RGN_SIZE n) * 2 ^ 26
    ∃ t, exec (.eccInitDone n) s = .next t ∧ t.on Pg.MCG (initBusy n) = false ∧
      ∀ a, t.dram a 1 = if lo ≤ a ∧ a < hi then [0] else s.dram a 1 := by
  intro lo hi
  refine ⟨_, if_pos hb, State.on_zero (by show 8 + n.val + 1 ≤ 32; omega), fun a => ?_⟩
  show (s.blankRange lo hi none).dram a 1 = _
  split
  · next hin => 
    refine congrArg (· :: []) ((tabGet_tabClear_in _ lo hi a _ hin).trans ?_)
    exact if_pos hin
  · next hout => exact State.dram_blankRange_out hm (by omega)

/-! ### Training (R527, R529, R532) -/

/-- What R532 checks are values of other registers than those a request of a training writes. -/
theorem State.trainCfgOk_of {s t : State} (h : ∀ off, off ≠ Rg.MCG_TRAIN_CTL → off ≠ Rg.MCG_TRAIN_STAT → t.rd Pg.MCG off = s.rd Pg.MCG off) :
    t.trainCfgOk = s.trainCfgOk := by
  have hfld (f : Fld) (hc : f.off ≠ Rg.MCG_TRAIN_CTL) (hs : f.off ≠ Rg.MCG_TRAIN_STAT) : t.fld Pg.MCG f = s.fld Pg.MCG f := by
    unfold State.fld
    rw [h f.off hc hs]
  unfold State.trainCfgOk
  rw [h Rg.MCG_TIMING0 (by decide) (by decide), h Rg.MCG_TIMING1 (by decide) (by decide), h Rg.MCG_TIMING2 (by decide) (by decide),
    hfld Fd.MCG_CFG_RATE (by decide) (by decide), hfld Fd.MCG_REF_CTL_TREFI (by decide) (by decide),
    hfld Fd.MCG_REF_CTL_TRACK_INTV (by decide) (by decide), hfld Fd.MCG_CFG_DENSITY (by decide) (by decide),
    hfld Fd.MCG_CFG_TYPE (by decide) (by decide), hfld Fd.MCG_REF_CTL_OSC_CYC (by decide) (by decide)]

/-- A request of a training in IDLE or SETUP with a configuration that passes starts one. -/
theorem State.retrain_starts {s : State} {w : Word} (hw : wf w 0 1 = 1) (hm : (s.writeReg Pg.MCG Rg.MCG_TRAIN_CTL w).mode = .idle ∨
    (s.writeReg Pg.MCG Rg.MCG_TRAIN_CTL w).mode = .setup) (hc : s.trainCfgOk = true) :
    s.retrain w = ((s.writeReg Pg.MCG Rg.MCG_TRAIN_CTL w).setFld Pg.MCG Fd.MCG_TRAIN_STAT_RESULT 0).setFld Pg.MCG Fd.MCG_TRAIN_STAT_STATE 1 := by
  have hok : ((s.writeReg Pg.MCG Rg.MCG_TRAIN_CTL w).setFld Pg.MCG Fd.MCG_TRAIN_STAT_RESULT 0).trainCfgOk = s.trainCfgOk :=
    State.trainCfgOk_of fun off hctl hstat => ((State.setFld_same (off_ne hstat)).step (State.writeReg_same (off_ne hctl))).rd
  have hw0 : wf w 0 1 ≠ 0 := by omega
  exact (if_neg hw0).trans ((if_pos hm).trans (if_pos (hok.trans hc)))

/-- RETRAIN, by the mode and the configuration. -/
theorem retrainStartsOrReports (o : Owner) (w : Word) (s : State) (h : s.access o Pg.MCG = .granted) (hw : wf w 0 1 = 1) :
    ∃ t, exec (.retrain o w) s = .next t ∧
      ((s.mode = .idle ∨ s.mode = .setup) ∧ s.trainCfgOk = true →
        t.fld Pg.MCG Fd.MCG_TRAIN_STAT_STATE = 1 ∧ t.fld Pg.MCG Fd.MCG_TRAIN_STAT_RESULT = 0) ∧
      (s.mode ≠ .idle ∧ s.mode ≠ .setup → t.fld Pg.MCG Fd.MCG_TRAIN_STAT_RESULT = 1 ∧
        t.fld Pg.MCG Fd.MCG_TRAIN_STAT_STATE = s.fld Pg.MCG Fd.MCG_TRAIN_STAT_STATE) := by
  have hmode := State.touchWrite_mode s o (p := Pg.MCG) (off := Rg.MCG_TRAIN_CTL) w (by decide) (by decide)
  refine ⟨(s.touch o Pg.MCG).retrain w, congrArg Host.Outcome.next (State.guarded_granted h), fun ⟨hm, hc⟩ => ?_, fun ⟨hi, hs⟩ => ?_⟩
  · rw [State.retrain_starts hw (by rwa [hmode]) ((State.trainCfgOk_of fun off _ _ => s.touch_rd o Pg.MCG Pg.MCG off).trans hc)]
    exact ⟨State.fld_fits (by decide) (by decide), (State.fld_setFld_p (by decide) (by decide)).trans (State.fld_fits (by decide) (by decide))⟩
  · have hw0 : wf w 0 1 ≠ 0 := by omega
    have hno : ¬(((s.touch o Pg.MCG).writeReg Pg.MCG Rg.MCG_TRAIN_CTL w).mode = .idle ∨
        ((s.touch o Pg.MCG).writeReg Pg.MCG Rg.MCG_TRAIN_CTL w).mode = .setup) := by
      rw [hmode]
      exact fun h => h.elim hi hs
    rw [show (s.touch o Pg.MCG).retrain w = _ from (if_neg hw0).trans (if_neg hno)]
    exact ⟨State.fld_fits (by decide) (by decide),
      (State.fld_setFld_p (by decide) (by decide)).trans (State.touchWrite_same (off_ne (by decide))).fld⟩

/-- What training shows of a channel: TRAINED and MARGIN_LOST. -/
def State.trainShown (s : State) (k : Nat) : Bool × Bool := (s.on (Pg.MC k) Fd.MC_STAT_TRAINED, s.on (Pg.MC k) Fd.MC_STAT_MARGIN_LOST)

/-- What a full training makes of one channel (R529, R530). -/
def State.channelDone (s : State) (x : Option MarginRead × Nat) : State :=
  match x.1 with
  | some m => s.channelTrained x.2 m
  | none =>
    let s := (s.setFld (Pg.MC x.2) Fd.MC_STAT_MARGIN_LOST 1).setFld Pg.MCG ⟨Rg.MCG_TRAIN_STAT, 3 + x.2, 1⟩ 1
    (s.setMc x.2 { s.mcOf x.2 with ue := 0 }).logErr Er.MARGIN_LOST Pg.MCG x.2

theorem State.retrainDone_eq {s : State} (l : List (Option MarginRead)) (h : s.fld Pg.MCG Fd.MCG_TRAIN_STAT_STATE = 1) :
    s.retrainDone l = (l.zipIdx.foldl State.channelDone s.takeTraining).setFld Pg.MCG Fd.MCG_TRAIN_STAT_STATE 2 := if_pos h

theorem State.channelDone_within (s : State) (x : Option MarginRead × Nat) : Within 0x510000033 s (s.channelDone x) := by
  unfold State.channelDone
  split
  · exact (State.channelTrained_within ..).mono rfl
  · exact (State.logMinor_within (by decide)).step rfl ((State.setMc_within ..).step rfl
      ((State.setFld_within ..).step rfl ((State.setFld_within ..).mono rfl)))

theorem State.channelTrained_apart {s : State} {c k : Nat} (m : MarginRead) (h : k ≠ c) :
    (s.channelTrained c m).trainShown k = s.trainShown k := by
  have hpage (off : Nat) (ho : off < 4096) : Pg.MC k * 4096 + 0x040 ≠ Pg.MC c * 4096 + off := by
    unfold Pg.MC
    omega
  have hsame : RegSame (Pg.MC k * 4096 + 0x040) s (s.channelTrained c m) :=
    (State.setFld_same (hpage _ (by decide))).step <| (RegSame.of_regs (State.setMc_regs ..)).step <|
      (State.setFld_same (show Pg.MC k * 4096 + 0x040 ≠ Pg.MCG * 4096 + 0x08C by omega)).step <|
      (State.setFld_same (hpage _ (by decide))).step <| (State.setFld_same (hpage _ (by decide))).step <|
      State.wr_same (hpage _ (by decide))
  exact congrArg₂ Prod.mk hsame.on hsame.on

/-- A channel with a setting shows as trained, and no other channel shows otherwise. -/
theorem State.channelDone_step (s : State) (x : Option MarginRead × Nat) (k : Nat) (hc : x.2 < 12) (hx : x.1 ≠ none) :
    (s.channelDone x).trainShown k = if k = x.2 then (true, false) else s.trainShown k := by
  obtain ⟨m, hm⟩ := Option.ne_none_iff_exists'.1 hx
  have hdone : s.channelDone x = s.channelTrained x.2 m := by
    unfold State.channelDone
    rw [hm]
  rw [hdone]
  split
  · next h =>
    obtain ⟨htrained, hlost, -, -⟩ := State.channelTrained_plain (s := s) (m := m) hc
    rw [h]
    exact congrArg₂ Prod.mk htrained hlost
  · next h => exact State.channelTrained_apart m h

/-- The end of a training whose channels found a setting shows them as trained. -/
theorem retrainDoneShowsTheChannels (l : List (Option MarginRead)) (s : State) (hl : l.length ≤ 12)
    (h : s.fld Pg.MCG Fd.MCG_TRAIN_STAT_STATE = 1) :
    ∃ t, exec (.retrainDone l) s = .next t ∧
      t.trained = [Rg.MCG_CFG, Rg.MCG_TIMING0, Rg.MCG_TIMING1, Rg.MCG_TIMING2, Rg.MCG_REF_CTL].map (fun o => s.rd Pg.MCG o) ∧
      t.fld Pg.MCG Fd.MCG_TRAIN_STAT_STATE = 2 ∧
      (none ∉ l → ∀ c, c < l.length → t.on (Pg.MC c) Fd.MC_STAT_TRAINED = true ∧ t.on (Pg.MC c) Fd.MC_STAT_MARGIN_LOST = false) := by
  refine ⟨s.retrainDone l, ?_, ?_⟩
  · show Host.Outcome.next (s.retrainDone (l.take 12)) = _
    rw [List.take_of_length_le hl]
  · rw [State.retrainDone_eq l h]
    have hkept : (l.zipIdx.foldl State.channelDone s.takeTraining).trained = s.takeTraining.trained :=
      foldl_kept State.trained _ (fun t x => (t.channelDone_within x).trained_eq rfl) _ _
    refine ⟨hkept, State.fld_fits (by decide) (by decide), fun hnone c hc => ?_⟩
    obtain ⟨hat, -⟩ := foldl_zipIdx_each (P := (· ≠ none)) (step := fun _ _ => (true, false)) (m := 12) State.channelDone_step l 0
      s.takeTraining (by omega) fun x hx hno => hnone (hno ▸ hx)
    have hshown := hat c hc
    rw [Nat.zero_add] at hshown
    obtain ⟨htrained, hlost⟩ := Prod.mk.inj hshown
    have hpage : Pg.MC c * 4096 + 0x040 ≠ Pg.MCG * 4096 + 0x08C := by omega
    exact ⟨(State.setFld_same hpage).on.trans htrained, (State.setFld_same hpage).on.trans hlost⟩

/-- Settles O16: one lemma per command of the memory controllers; folds over the channels by what they leave of each place. -/
theorem memoryIsAccessedRefreshedFilledAndTrained : Obligations.MemoryIsAccessedRefreshedFilledAndTrained :=
  ⟨dramAccessesOpenRowsAndReport, rowIdleClosesOneRow, refreshWindowsCloseAndTrack, eccInitStartsFills, eccInitDoneFillsTheRegion,
    retrainStartsOrReports, retrainDoneShowsTheChannels⟩

end Sys2Proof.Machine
end

section
/-!
PROOFS. Sources, channels and rounds of the event fabric (O10).
-/
namespace Sys2Proof.Machine

/-! ### Sources (R461, R462) -/

/-- An edge of a pin is shown, and raised where the pin is an input. -/
theorem evioEdgesRaiseSources (n : Fin 16) (rising : Bool) (sample : Nat) (s : State) (h : s.mode ≠ .boot) :
    ∃ t, exec (.evioEdge n rising sample) s = .next t ∧ t.evio = { s.evio with input := nbSet s.evio.input n 1 (b2n rising) } ∧
      t.regs = s.regs ∧
      t.raised = s.raised ++ (if tbit (s.rd Pg.PINS1 Rg.PINS1_EVIO_OE).toNat n then []
        else [(2 * n + b2n (!rising), { time := (s.atCycle sample).time })]) := by
  by_cases hout : tbit (s.rd Pg.PINS1 Rg.PINS1_EVIO_OE).toNat n = true
  · refine ⟨_, congrArg Host.Outcome.next (if_pos hout), rfl, rfl, ?_⟩
    rw [if_pos hout, List.append_nil]
    rfl
  · refine ⟨_, congrArg Host.Outcome.next (if_neg hout), ?_, (State.raiseNow_within ..).regs_eq rfl, ?_⟩
    · exact (State.raiseNow_within ..).evio_eq rfl
    · rw [if_neg hout]
      exact State.raiseNow_raised _ _ h

/-- GO of SW_FIRE raises the source it names. -/
theorem swFireRaisesItsSource (o : Owner) (w : Word) (s : State) (h : s.mode ≠ .boot) (ha : s.access o Pg.EVF = .granted) (hw : wf w 5 1 = 1) :
    ∃ t, exec (.swFire o w) s = .next t ∧ t.raised = s.raised ++ [(evSw (wf w 0 5), { time := s.time })] := by
  refine ⟨_, congrArg Host.Outcome.next ((State.guarded_granted ha).trans (if_pos hw)), ?_⟩
  have hwrite := s.touchWrite_within o Pg.EVF Rg.EVF_SW_FIRE w
  have hmode : ((s.touch o Pg.EVF).writeReg Pg.EVF Rg.EVF_SW_FIRE w).mode ≠ .boot := by
    rwa [State.touchWrite_mode s o w (by decide) (by decide)]
  rw [State.raiseNow_raised _ _ hmode, hwrite.raised_eq rfl, State.time_of (hwrite.tb_eq rfl) (hwrite.raw_eq rfl)]

/-! ### A round of one event (R463, R467) -/

/-- The FLAG bit of a channel. -/
abbrev chanFlag (c : Nat) : Fld := ⟨Rg.EVF_FLAG (c / 32), c % 32, 1⟩

/-- A channel that fires sets its FLAG bit and no other. -/
theorem State.fireChannel_flag (s : State) (c k : Nat) (st : Stamp) (hk : k < 256) :
    (s.fireChannel c st).on Pg.EVF (chanFlag k) = (s.on Pg.EVF (chanFlag k) || c == k) := by
  have hplace : Pg.EVF * 4096 + Rg.EVF_FLAG (k / 32) ≠ Pg.EVF * 4096 + Rg.EVF_FIRE_CNT := by
    show Pg.EVF * 4096 + (0x050 + 0x4 * (k / 32)) ≠ Pg.EVF * 4096 + 0x090
    omega
  have hset : (s.fireChannel c st).on Pg.EVF (chanFlag k) = (s.setFld Pg.EVF (chanFlag c) 1).on Pg.EVF (chanFlag k) :=
    (State.bump_same hplace).on.trans <| State.on_of (((State.setWinBits_within ..).regs_eq rfl).trans
      (((State.setWinBits_within ..).regs_eq rfl).trans ((State.setWinBits_within ..).regs_eq rfl))) ..
  rw [hset]
  by_cases h : c = k
  · rw [h, State.on_one (by show k % 32 + 1 ≤ 32; omega) Nat.one_ne_zero, beq_self_eq_true, Bool.or_true]
  · rw [beq_eq_false_iff_ne.2 h, Bool.or_false]
    refine State.on_setFld_apart _ _ _ _ _ _ (by show c % 32 + 1 ≤ 32; omega) ?_
    show Pg.EVF * 4096 + (0x050 + 0x4 * (k / 32)) ≠ Pg.EVF * 4096 + (0x050 + 0x4 * (c / 32)) ∨ k % 32 + 1 ≤ c % 32 ∨ c % 32 + 1 ≤ k % 32
    omega

theorem State.fireChannels_flag (l : List Nat) (st : Stamp) (s : State) {k : Nat} (hk : k < 256)
    (h : k ∈ l ∨ s.on Pg.EVF (chanFlag k) = true) :
    (l.foldl (fun s c => s.fireChannel c st) s).on Pg.EVF (chanFlag k) = true := by
  induction l generalizing s with
  | nil => exact h.resolve_left (List.not_mem_nil)
  | cons c l ih =>
    refine ih _ ?_
    rw [State.fireChannel_flag s c k st hk, Bool.or_eq_true, beq_iff_eq]
    rcases h with h | h
    · exact (List.mem_cons.1 h).elim (fun e => .inr (.inr e.symm)) .inl
    · exact .inr (.inl h)

/-- The occurrences that one event has delivered. -/
abbrev State.eventOccs (s : State) (e : Nat × Stamp) : List Occ := (s.fireEvent e).2

/-- The state after a round of one event, before IRQ_STAT follows its flags. -/
def State.firedOne (s : State) (e : Nat × Stamp) : State :=
  if (s.eventOccs e).isEmpty then (s.fireEvent e).1
  else { (s.fireEvent e).1 with evf := { (s.fireEvent e).1.evf with occ := (s.fireEvent e).1.evf.occ ++ [s.eventOccs e] } }

/-- The state with the oldest event taken. -/
def State.eventTaken (s : State) : State := { s with raised := s.raised.drop 1 }

theorem State.channelRound_one {s : State} {e : Nat × Stamp} {rest : List (Nat × Stamp)} (hm : s.mode ≠ .boot)
    (hen : s.blockOn Pg.EVF Fd.EVF_CTL_EN = true) (hr : s.raised = e :: rest) :
    s.channelRound 1 = (s.eventTaken.firedOne e).flagIrq := by
  have hgo : ¬(s.eventTaken.mode = .boot ∨ (!s.eventTaken.blockOn Pg.EVF Fd.EVF_CTL_EN) = true) := by
    rintro (h | h)
    · exact hm h
    · rw [show s.eventTaken.blockOn Pg.EVF Fd.EVF_CTL_EN = true from hen] at h
      exact Bool.false_ne_true h
  have htake : s.raised.take 1 = [e] := by rw [hr]; rfl
  refine (if_neg hgo).trans ?_
  rw [htake]
  rfl

theorem State.firedOne_regs (s : State) (e : Nat × Stamp) : (s.firedOne e).regs = (s.fireEvent e).1.regs := by
  unfold State.firedOne
  split <;> rfl

theorem State.firedOne_raised (s : State) (e : Nat × Stamp) : (s.firedOne e).raised = s.raised := by
  have hfire : (s.fireEvent e).1.raised = s.raised := (s.fireEvent_within e).raised_eq rfl
  unfold State.firedOne
  split
  · exact hfire
  · exact hfire

theorem State.firedOne_occ (s : State) (e : Nat × Stamp) :
    (s.firedOne e).evf.occ = s.evf.occ ++ (if s.eventOccs e = [] then [] else [s.eventOccs e]) := by
  have hfire : (s.fireEvent e).1.evf = s.evf := (s.fireEvent_within e).evf_eq rfl
  unfold State.firedOne
  split
  · next h => rw [if_pos (List.isEmpty_iff.1 h), hfire, List.append_nil]
  · next h => rw [if_neg (fun hn => h (List.isEmpty_iff.2 hn)), ← hfire]

/-- The channels that fire on a source. -/
abbrev State.firing (s : State) (src : Nat) : List Nat := (List.range 256).filter fun c => s.fires src c

/-- The tasks and channels of what one event has delivered. -/
abbrev State.deliveries (s : State) (src : Nat) : List (Nat × Nat) :=
  ((s.firing src).filter fun c => s.evc c 10 1 == 1).map fun c => (s.evc c 12 9, c)

theorem State.eventOccs_deliveries (s : State) (e : Nat × Stamp) : (s.eventOccs e).map (fun o => (o.task, o.chan)) = s.deliveries e.1 := by
  unfold State.eventOccs State.fireEvent
  rw [List.map_map]
  rfl

theorem State.flagIrq_alarm (s : State) : Alarm s s.flagIrq := by
  unfold State.flagIrq
  dsimp only
  split
  · exact State.irq_alarm ..
  · exact State.setFld_alarm _ _ (by unfold alarmReg; decide)

/-- No fault, flag or interrupt writes a register of EVF beyond its header. -/
theorem not_alarmReg_evf {off : Nat} (h : 0x40 ≤ off) (h' : off < 4096) : ¬alarmReg (Pg.EVF * 4096 + off) := by
  have hoff : (Pg.EVF * 4096 + off) % 4096 = off := by omega
  unfold alarmReg
  rw [addr_page h', hoff]
  rintro (h1 | h1 | h1 | ⟨-, h1⟩)
  · have hpage := congrArg (· / 4096) h1
    simp only [addr_page h'] at hpage
    revert hpage
    decide
  · have hirq : Rg.HDR_IRQ_STAT < 0x40 := by decide
    omega
  · have hstat : Rg.HDR_PAGE_STAT < 0x40 := by decide
    omega
  · revert h1
    decide

/-- The oldest event fires the channels that take it, and their occurrences wait as one round. -/
theorem channelFireTakesTheOldestEvent (e : Nat × Stamp) (rest : List (Nat × Stamp)) (s : State) (hm : s.mode ≠ .boot)
    (hen : s.blockOn Pg.EVF Fd.EVF_CTL_EN = true) (hr : s.raised = e :: rest) :
    ∃ t, exec (.channelFire 1) s = .next t ∧ t.raised = rest ∧ (∀ c ∈ s.firing e.1, t.on Pg.EVF (chanFlag c) = true) ∧
      t.evf.occ.map (·.map fun o => (o.task, o.chan)) =
        s.evf.occ.map (·.map fun o => (o.task, o.chan)) ++ (if s.deliveries e.1 = [] then [] else [s.deliveries e.1]) := by
  refine ⟨_, congrArg Host.Outcome.next (State.channelRound_one hm hen hr), ?_, fun c hc => ?_, ?_⟩
  · rw [(State.flagIrq_within _).raised_eq rfl, State.firedOne_raised]
    show s.raised.drop 1 = rest
    rw [hr]
    rfl
  · have hlt : c < 256 := List.mem_range.1 (List.mem_of_mem_filter hc)
    have hirq : (s.eventTaken.firedOne e).flagIrq.on Pg.EVF (chanFlag c) = (s.eventTaken.firedOne e).on Pg.EVF (chanFlag c) := by
      refine ((State.flagIrq_alarm _).regs _ ?_).on
      have hoff : Rg.EVF_FLAG (c / 32) = 0x050 + 0x4 * (c / 32) := rfl
      exact not_alarmReg_evf (off := Rg.EVF_FLAG (c / 32)) (by omega) (by omega)
    rw [hirq, State.on_of (State.firedOne_regs ..)]
    exact State.fireChannels_flag _ _ _ hlt (.inl hc)
  · have hdel : (s.eventTaken.eventOccs e).map (fun o => (o.task, o.chan)) = s.deliveries e.1 := State.eventOccs_deliveries ..
    have hempty : s.eventTaken.eventOccs e = [] ↔ s.deliveries e.1 = [] := by rw [← hdel, List.map_eq_nil_iff]
    rw [(State.flagIrq_within _).evf_eq rfl, State.firedOne_occ, List.map_append]
    refine congrArg (s.evf.occ.map _ ++ ·) ?_
    split
    · next h => rw [if_pos (hempty.1 h), List.map_nil]
    · next h => rw [if_neg (fun hn => h (hempty.2 hn)), List.map_cons, List.map_nil, hdel]

/-! ### Writes of the tables (R465, R466) -/

/-- A write of an entry that is not guarded takes the word where the entry that results names what exists. -/
theorem channelWriteTakesAllowedWords (o : Owner) (c : Fin 256) (i : Fin 8) (w : Word) (s : State) (hr : s.reaches o Pg.EVF = true)
    (hi : i.val < 2) (hg : tbit (s.evc c 0 64) 43 = false) :
    ∃ t, exec (.channelWrite o c i w) s = .next t ∧
      (channelOk (nbSet (s.evc c 0 64) (32 * i) 32 w.toNat) = true → t.win (chanAt c + 4 * i) = w &&& winMask (chanAt c + 4 * i)) ∧
      (channelOk (nbSet (s.evc c 0 64) (32 * i) 32 w.toNat) = false → t.win (chanAt c + 4 * i) = s.win (chanAt c + 4 * i)) := by
  have hplace : chanAt c + 4 * i ≠ 0x0C1000 := by show 0x180000 + 32 * c.val + 4 * i.val ≠ _; omega
  have hthere (b : Bool) : ¬(tbit (s.evc c 0 64) 43 && b) = true := by rw [hg, Bool.false_and]; exact Bool.false_ne_true
  have hgo : s.channelWrite (ownerCode o) c i w = if !channelOk (nbSet (s.evc c 0 64) (32 * i) 32 w.toNat) then
      s.logErr Er.EVF_FORMAT Pg.EVF (32 * c + 4 * i) else (s.setWin (chanAt c + 4 * i) (w &&& winMask (chanAt c + 4 * i))).flagIrq := by
    refine (if_neg (by omega)).trans ((if_neg (hthere _)).trans (if_neg ?_))
    rw [hg, Bool.false_and, Bool.false_and]
    exact Bool.false_ne_true
  refine ⟨_, congrArg Host.Outcome.next ((if_pos hr).trans hgo), fun h => ?_, fun h => ?_⟩
  · rw [if_neg (by rw [h]; exact Bool.false_ne_true), (State.flagIrq_alarm _).win _ hplace, State.win_setWin, if_pos rfl]
  · rw [if_pos (by rw [h]; rfl)]
    exact (State.logMinor_alarm _ (by decide) _ _ _ _).win _ hplace

theorem groupStateDef : regDefAt (Pg.EVF * 4096 + Rg.EVF_GROUP_STATE) = 
    some ⟨0x048, 0x0000FFFF, 0x0000FFFF, 0x00000000, 0x00000000, 0x00000000, 0x00000000⟩ := by decide

theorem groupStateWriteSetsTheGroups (o : Owner) (w : Word) (s : State) (h : s.access o Pg.EVF = .granted) :
    ∃ t, exec (.groupStateWrite o w) s = .next t ∧ wf (t.rd Pg.EVF Rg.EVF_GROUP_STATE) 0 16 = wf w 0 16 ∧
      regsKept [Pg.EVF * 4096 + Rg.EVF_GROUP_STATE] s t := by
  refine ⟨_, congrArg Host.Outcome.next (State.guarded_granted h), ?_, regsKept_one fun b hb => State.touchWrite_same hb⟩
  exact State.fld_writeReg _ _ _ _ ⟨Rg.EVF_GROUP_STATE, 0, 16⟩ _ groupStateDef rfl rfl rfl rfl (by decide)

/-- Settles O10: one lemma per command. -/
theorem sourcesFireChannels : Obligations.SourcesFireChannels :=
  ⟨evioEdgesRaiseSources, swFireRaisesItsSource, channelFireTakesTheOldestEvent, channelWriteTakesAllowedWords, groupStateWriteSetsTheGroups⟩

end Sys2Proof.Machine
end

section
/-!
PROOFS. Occurrences at their task inputs, and relays (O11).
-/
namespace Sys2Proof.Machine

/-! ### Fields of a window entry within one word -/

theorem one_word {lo len : Nat} (h : lo % 32 + len ≤ 32) (h0 : 0 < len) : (lo + len - 1) / 32 - lo / 32 + 1 = 1 := by omega

theorem wordsNat_one (w : Word) : wordsNat [w] = w.toNat := by
  unfold wordsNat wordsNat
  omega

theorem State.winBits_word (s : State) (base : Nat) {lo len : Nat} (h : lo % 32 + len ≤ 32) (h0 : 0 < len) :
    s.winBits base lo len = wf (s.win (base + 4 * (lo / 32))) (lo % 32) len := by
  unfold State.winBits
  rw [one_word h h0, List.range_one, List.map_cons, List.map_nil, wordsNat_one]
  rfl

theorem State.setWinBits_word (s : State) (base v : Nat) {lo len : Nat} (h : lo % 32 + len ≤ 32) (h0 : 0 < len) :
    s.setWinBits base lo len v = s.setWin (base + 4 * (lo / 32)) (wfSet (s.win (base + 4 * (lo / 32))) (lo % 32) len v) := by
  unfold State.setWinBits
  dsimp only
  rw [one_word h h0, List.range_one, List.map_cons, List.map_nil, wordsNat_one, List.foldl_cons, List.foldl_nil, Nat.add_zero, Nat.mul_zero,
    Nat.pow_zero, Nat.div_one]
  rfl

/-- A field written reads back. -/
theorem State.winBits_setWinBits (s : State) (base v : Nat) {lo len : Nat} (h : lo % 32 + len ≤ 32) (h0 : 0 < len) :
    (s.setWinBits base lo len v).winBits base lo len = v % 2 ^ len := by
  rw [State.winBits_word _ _ h h0, State.setWinBits_word _ _ _ h h0, State.win_setWin, if_pos rfl, wf_wfSet_same _ _ h]

/-- A field of another word than the one written is as it was. -/
theorem State.winBits_setWin_of_ne (s : State) (base a : Nat) (w : Word) {lo len : Nat} (h : lo % 32 + len ≤ 32) (h0 : 0 < len)
    (ha : base + 4 * (lo / 32) ≠ a) : (s.setWin a w).winBits base lo len = s.winBits base lo len := by
  rw [State.winBits_word _ _ h h0, State.winBits_word _ _ h h0, State.win_setWin, if_neg ha]

/-! ### One occurrence at its task (R468, R473, R475, R477) -/

/-- What an occurrence has to meet to be acted on. -/
structure State.Acts (s : State) (o : Occ) : Prop where
  enabled : s.evt o.task 64 1 = 1
  unheld : ¬(s.mode = .hold ∧ o.task < 40)
  permitted : s.taskPermitted o.task (s.evc o.chan 40 3) = true
  output : o.task < 16 → tbit (s.rd Pg.PINS1 Rg.PINS1_EVIO_OE).toNat o.task = true
  plain : o.task ≠ taskChangeover
  free : s.taskBusy o.task = false

theorem State.taskTake_acts {s : State} {o : Occ} (h : s.Acts o) : s.taskTake o = s.taskAct o := by
  obtain ⟨hen, hhold, hperm, hout, hplain, hfree⟩ := h
  have hen0 : s.evt o.task 64 1 ≠ 0 := by omega
  refine (if_neg hen0).trans ((if_neg hhold).trans ((if_neg ?_).trans ((if_neg ?_).trans ((if_neg fun hc => hplain hc.1).trans (if_neg ?_)))))
  · rw [hperm]
    exact Bool.false_ne_true
  · rintro ⟨ht, hno⟩
    rw [hout ht] at hno
    exact Bool.false_ne_true hno
  · rw [hfree]
    exact Bool.false_ne_true

/-- The state once a task has counted the occurrence it acts on. -/
def State.taskCounted (s : State) (t : Nat) : State := s.setWinBits (taskAt t) 112 16 (satN 16 (s.evt t 112 16 + 1))

/-- The count stands in the last word of the entry. -/
theorem State.taskCounted_evt (s : State) (t : Nat) {lo len : Nat} (h : lo % 32 + len ≤ 32) (h0 : 0 < len) (hlo : lo < 96) :
    (s.taskCounted t).evt t lo len = s.evt t lo len := by
  unfold State.taskCounted State.evt
  rw [State.setWinBits_word _ _ _ (by decide) (by decide)]
  exact State.winBits_setWin_of_ne _ _ _ _ h h0 (by omega)

theorem State.taskCounted_within (s : State) (t : Nat) : Within 0x10 s (s.taskCounted t) := State.setWinBits_within ..

theorem State.taskAct_evio (s : State) {o : Occ} (h : o.task < 16) : s.taskAct o = (s.taskCounted o.task).evioAct o.task := if_pos h

/-- An EVIO task that starts a pulse. -/
theorem State.evioAct_pulse {s : State} {n : Nat} (h : s.evt n 0 2 = 0) :
    (s.evioAct n).evio.pulses = s.evio.pulses ++ [(n, s.rawNs + 10 * s.evt n 32 32)] := by
  unfold State.evioAct
  rw [h]
  rfl

theorem tbit_nbSet_one (x n : Nat) : tbit (nbSet x n 1 1) n = true := by
  unfold tbit
  rw [nb_nbSet_same]
  rfl

/-- An EVIO task that sets its pin. -/
theorem State.evioAct_set {s : State} {n : Nat} (h : s.evt n 0 2 = 1) : tbit (s.evioAct n).evio.level n = true := by
  unfold State.evioAct
  rw [h]
  exact tbit_nbSet_one ..

/-- The HOLD_REQ task leads to HOLD. -/
theorem State.taskAct_hold {s : State} {o : Occ} (h : o.task = 41) (hm : s.mode ≠ .boot) : (s.taskAct o).mode = .hold := by
  have hact : s.taskAct o = (s.taskCounted o.task).enterHold 0xFF := (if_neg (by omega)).trans ((if_neg (by omega)).trans (if_pos h))
  rw [hact]
  refine State.enterHold_mode _ _ ?_
  rwa [State.mode_of_regs (RegSame.of_regs ((s.taskCounted_within o.task).regs_eq rfl))]

theorem State.pulseTask_occ (s : State) (p : Nat) (st : Stamp) : (s.pulseTask p st).evf.occ = s.evf.occ := by
  have hins (t action pulse width qidx port : Nat) : (s.calInsert t action pulse width qidx port).1.evf = s.evf :=
    (State.calInsert_within ..).evf_eq rfl
  unfold State.pulseTask
  dsimp only
  split
  · exact congrArg (·.occ) (hins ..)
  · exact congrArg (·.occ) (hins ..)

/-- No task touches the rounds that wait. -/
theorem State.taskAct_occ (s : State) (o : Occ) : (s.taskAct o).evf.occ = s.evf.occ := by
  have hcount : (s.taskCounted o.task).evf = s.evf := (s.taskCounted_within o.task).evf_eq rfl
  suffices h : ∀ x : State, x = s.taskCounted o.task → (s.taskAct o).evf.occ = x.evf.occ by rw [h _ rfl, hcount]
  rintro x hx
  unfold State.taskAct
  dsimp only
  change (if o.task < 16 then (s.taskCounted o.task).evioAct o.task else if o.task < 40 then (s.taskCounted o.task).pulseTask (o.task - 16) o.stamp
    else if o.task = 41 then (s.taskCounted o.task).enterHold 0xFF else if o.task = 43 then (s.taskCounted o.task).cancelCalendar
    else if o.task = 44 then (s.taskCounted o.task).switchBanks else _ : State).evf.occ = _
  rw [← hx]
  split
  · exact congrArg (·.occ) ((State.evioAct_within ..).evf_eq rfl)
  split
  · exact State.pulseTask_occ ..
  split
  · exact congrArg (·.occ) ((State.enterHold_within ..).evf_eq rfl)
  split
  · exact congrArg (·.occ) ((State.cancelCalendar_within ..).evf_eq rfl)
  split
  · exact congrArg (·.occ) ((State.switchBanks_within ..).evf_eq rfl)
  split
  · rw [hx]; rfl
  split
  · rw [hx]; rfl
  · rw [hx]; rfl

/-- An occurrence that waits at its task is no round that waits. -/
theorem State.taskWait_occ (s : State) (o : Occ) : (s.taskWait o).evf.occ = s.evf.occ := by
  unfold State.taskWait
  split
  · exact congrArg (·.occ) ((State.setWinBits_within ..).evf_eq rfl)
  · rw [State.irq_evf, State.bump_evf, State.flag_evf, (State.setWinBits_within ..).evf_eq rfl]

theorem State.taskTake_occ (s : State) (o : Occ) : (s.taskTake o).evf.occ = s.evf.occ := by
  unfold State.taskTake State.ignoreOcc
  dsimp only
  split
  · rfl
  split
  · rfl
  split
  · rw [State.irq_evf, State.flag_evf, State.bump_evf]
  split
  · rfl
  split
  · rfl
  split
  · exact State.taskWait_occ s o
  · exact State.taskAct_occ s o

/-! ### TASK_DELIVER -/

/-- The state with the oldest round taken. -/
def State.roundTaken (s : State) (rest : List (List Occ)) : State := { s with evf := { s.evf with occ := rest } }

theorem State.taskRound_one {s : State} {o : Occ} {rest : List (List Occ)} (h : s.evf.occ = [o] :: rest) :
    s.taskRound = (s.roundTaken rest).taskTake o := by
  unfold State.taskRound
  rw [h]
  have hmerge (t : State) : t.mergeRound [o] = (t, [o]) := by
    unfold State.mergeRound State.mergeRound
    exact ite_self _
  show (((s.roundTaken rest).mergeRound [o]).2.foldl _ ((s.roundTaken rest).mergeRound [o]).1) = _
  rw [hmerge]
  rfl

theorem State.rd_bump_whole (s : State) (p off : Nat) :
    (s.bump p (whole off)).rd p off = BitVec.ofNat 32 (satN 32 ((s.rd p off).toNat + 1)) := by
  have hlt : (s.rd p off).toNat < 2 ^ 32 := (s.rd p off).isLt
  have hfld : s.fld p (whole off) = (s.rd p off).toNat := by
    unfold State.fld wf nb
    rw [Nat.pow_zero, Nat.div_one, Nat.mod_eq_of_lt hlt]
  have hsat : satN 32 ((s.rd p off).toNat + 1) < 2 ^ 32 := by
    unfold satN
    split <;> omega
  refine (State.rd_wr_same ..).trans ?_
  rw [hfld]
  refine congrArg (BitVec.ofNat 32) ?_
  unfold nbSet
  rw [Nat.zero_add, Nat.div_eq_of_lt hlt, Nat.zero_mul, Nat.zero_add, Nat.pow_zero, Nat.mod_one, Nat.mul_one, Nat.add_zero,
    Nat.mod_eq_of_lt hsat]

/-- An occurrence that its task is not enabled for is counted, and nothing else of the fabric changes. -/
theorem State.taskTake_ignored {s : State} {o : Occ} (h : s.evt o.task 64 1 = 0) : s.taskTake o = s.ignoreOcc := if_pos h

theorem State.ignoreOcc_counts (s : State) :
    s.ignoreOcc.rd Pg.EVF Rg.EVF_IGN_CNT = BitVec.ofNat 32 (satN 32 ((s.rd Pg.EVF Rg.EVF_IGN_CNT).toNat + 1)) :=
  State.rd_bump_whole ..

/-- A round of one occurrence at its task. -/
theorem taskDeliverTakesTheRound (o : Occ) (rest : List (List Occ)) (s : State) (hm : s.mode ≠ .boot) (h : s.evf.occ = [o] :: rest) :
    ∃ t, exec .taskDeliver s = .next t ∧ t.evf.occ = rest ∧
      (o.task < 16 ∧ s.evt o.task 64 1 = 1 ∧ s.mode ≠ .hold ∧ s.taskPermitted o.task (s.evc o.chan 40 3) = true ∧
          tbit (s.rd Pg.PINS1 Rg.PINS1_EVIO_OE).toNat o.task = true ∧ s.taskBusy o.task = false ∧ s.evt o.task 0 2 = 1 →
        tbit t.evio.level o.task = true) ∧
      (o.task = 41 ∧ s.evt 41 64 1 = 1 ∧ s.taskPermitted 41 (s.evc o.chan 40 3) = true → t.mode = .hold) ∧
      (s.evt o.task 64 1 = 0 → t.rd Pg.EVF Rg.EVF_IGN_CNT = BitVec.ofNat 32 (satN 32 ((s.rd Pg.EVF Rg.EVF_IGN_CNT).toNat + 1)) ∧
        t.window = s.window ∧ t.evio = s.evio) := by
  refine ⟨_, congrArg Host.Outcome.next (State.taskRound_one h), State.taskTake_occ .., fun ⟨ht, hen, hhold, hperm, hout, hfree, hset⟩ => ?_,
    fun ⟨ht, hen, hperm⟩ => ?_, fun hoff => ?_⟩
  · have hacts : (s.roundTaken rest).Acts o := ⟨hen, fun hc => hhold hc.1, hperm, fun _ => hout, fun hc => by unfold taskChangeover at hc; omega, hfree⟩
    rw [State.taskTake_acts hacts, State.taskAct_evio _ ht]
    exact State.evioAct_set (((s.roundTaken rest).taskCounted_evt o.task (by decide) (by decide) (by decide)).trans hset)
  · have hfree : (s.roundTaken rest).taskBusy o.task = false := by
      rw [ht]
      rfl
    have hacts : (s.roundTaken rest).Acts o := ⟨by rw [ht]; exact hen, fun hc => by omega, by rw [ht]; exact hperm, fun hc => by omega,
      fun hc => by unfold taskChangeover at hc; omega, hfree⟩
    rw [State.taskTake_acts hacts]
    exact State.taskAct_hold ht hm
  · rw [State.taskTake_ignored (s := s.roundTaken rest) hoff]
    exact ⟨State.ignoreOcc_counts _, rfl, rfl⟩

/-! ### Remembered occurrences and pulses (R468, R473) -/

/-- The state with the memory of a task given back. -/
def State.memoryFreed (s : State) (k : Nat) : State :=
  ({ s with evf := { s.evf with pend := tabPut (dflt none) k none s.evf.pend } } : State).setWinBits (taskAt k) 97 1 0

theorem State.memoryFreed_eq (s : State) (k : Nat) : ∃ w, s.memoryFreed k =
    ({ s with evf := { s.evf with pend := tabPut (dflt none) k none s.evf.pend } } : State).setWin (taskAt k + 12) w :=
  ⟨_, State.setWinBits_word _ _ _ (by decide) (by decide)⟩

/-- The remembered occurrence of a task that is free starts. -/
theorem taskPendingStartsTheRemembered (k : Fin 384) (o : Occ) (s : State) (h : tabGet (dflt none) s.evf.pend k = some o) (hk : o.task = k.val)
    (hb : s.taskBusy k = false) :
    ∃ t, exec (.taskPendingStart k) s = .next t ∧ tabGet (dflt none) t.evf.pend k = none ∧
      (o.task < 16 ∧ s.mode ≠ .hold ∧ s.taskPermitted o.task (s.evc o.chan 40 3) = true ∧
          tbit (s.rd Pg.PINS1 Rg.PINS1_EVIO_OE).toNat o.task = true ∧ s.evt o.task 64 1 = 1 ∧ s.evt o.task 0 2 = 0 →
        t.evio.pulses = s.evio.pulses ++ [(o.task, s.rawNs + 10 * s.evt o.task 32 32)]) := by
  obtain ⟨w, hw⟩ := s.memoryFreed_eq k
  have hgo : s.pendingStart k = (s.memoryFreed k).taskTake o := by
    unfold State.pendingStart
    rw [h]
    exact if_neg (by rw [hb]; exact Bool.false_ne_true)
  have hfree : (s.memoryFreed k).taskBusy o.task = false := by
    rw [hw, hk]
    exact hb
  have hevt {lo len : Nat} (hl : lo % 32 + len ≤ 32) (h0 : 0 < len) (hlo : lo < 96) : (s.memoryFreed k).evt o.task lo len = s.evt o.task lo len := by
    unfold State.evt
    rw [hw, State.winBits_setWin_of_ne _ _ _ _ hl h0 (by rw [hk]; omega)]
    rfl
  have hevc : (s.memoryFreed k).evc o.chan 40 3 = s.evc o.chan 40 3 := by
    unfold State.evc
    rw [hw, State.winBits_setWin_of_ne _ _ _ _ (by decide) (by decide) (by unfold chanAt taskAt; omega)]
    rfl
  refine ⟨_, congrArg Host.Outcome.next hgo, ?_, fun ⟨ht, hhold, hperm, hout, hen, hmode⟩ => ?_⟩
  · rw [State.taskTake_pend _ _ hfree, hw]
    exact tabGet_tabPut_same ..
  · have hacts : (s.memoryFreed k).Acts o := {
      enabled := (hevt (by decide) (by decide) (by decide)).trans hen
      unheld := by
        rw [hw]
        exact fun hc => hhold hc.1
      permitted := by
        rw [hevc, hw]
        exact hperm
      output := by
        rw [hw]
        exact fun _ => hout
      plain := fun hc => by unfold taskChangeover at hc; omega
      free := hfree }
    have hpulse := (State.taskCounted_evt (s.memoryFreed k) o.task (lo := 0) (len := 2) (by decide) (by decide) (by decide)).trans
      ((hevt (by decide) (by decide) (by decide)).trans hmode)
    have hwidth := (State.taskCounted_evt (s.memoryFreed k) o.task (lo := 32) (len := 32) (by decide) (by decide) (by decide)).trans
      (hevt (by decide) (by decide) (by decide))
    have hcounted := (s.memoryFreed k).taskCounted_within o.task
    have hevio : ((s.memoryFreed k).taskCounted o.task).evio = s.evio := by
      rw [hcounted.evio_eq rfl, hw]
      rfl
    have hraw : ((s.memoryFreed k).taskCounted o.task).rawNs = s.rawNs := by
      unfold State.rawNs
      rw [hcounted.raw_eq rfl, hw]
      rfl
    rw [State.taskTake_acts hacts, State.taskAct_evio _ ht, State.evioAct_pulse hpulse, hwidth, hevio, hraw]

theorem evioPulsesEnd (n : Fin 16) (t0 : Nat) (s : State) : exec (.evioPulseEnd n t0) s =
    .next { s.atNs t0 with evio := { s.evio with
      pulses := s.evio.pulses.filter fun e => !(e.1 == n.val && decide (e.2 ≤ (s.atNs t0).rawNs)) } } := rfl

/-! ### Relays (R476) -/

/-- The LOOP bit of a channel. -/
abbrev chanLoop (c : Nat) : Fld := ⟨Rg.EVF_LOOP (c / 32), c % 32, 1⟩

/-- The state with the channel that a loop comes from shown and disabled. -/
def State.loopBroken (s : State) (c : Nat) : State := (s.setFld Pg.EVF (chanLoop c) 1).setWinBits (chanAt c) 9 1 0

/-- The state with the loop logged. -/
def State.loopLogged (s : State) (c r : Nat) : State :=
  ((s.flag Pg.EVF Fd.EVF_STAT_LOOP_SEEN).irq Pg.EVF 1).logErr Er.EVF_LOOP Pg.EVF c r

theorem State.loopLogged_within (s : State) (c r : Nat) : Within 0x410000033 s (s.loopLogged c r) :=
  (State.logMinor_within (by decide)).step rfl ((State.irq_within ..).step rfl ((State.flag_within ..).mono rfl))

theorem State.loopLogged_loop (s : State) {c : Nat} (r : Nat) (hc : c < 256) : (s.loopLogged c r).on Pg.EVF (chanLoop c) = s.on Pg.EVF (chanLoop c) := by
  have hoff : (chanLoop c).off = 0x070 + 0x4 * (c / 32) := rfl
  have hirq : Rg.HDR_IRQ_STAT < 0x40 := by decide
  have hstat : Rg.HDR_PAGE_STAT < 0x40 := by decide
  have hplain : plainAt (chanLoop c).off := ⟨by omega, by omega, by omega⟩
  unfold State.loopLogged
  rw [State.on_logMinor_p (by decide) (by decide) (by decide) (by decide) hplain.1, State.on_irq_p (by decide) hplain,
    State.on_flag_p (by decide) (by decide) hplain (.inl (by rw [hoff]; show 0x044 ≠ _; omega))]

theorem State.loopLogged_win (s : State) (c r : Nat) {a : Nat} (h : a ≠ 0x0C1000) : (s.loopLogged c r).win a = s.win a :=
  ((State.logMinor_alarm _ (by decide) _ _ _ _).win a h).trans (((State.irq_alarm ..).win a h).trans (State.flag_win _ _ _ _ h))

theorem State.loopBroken_loop (s : State) (c : Nat) : (s.loopBroken c).on Pg.EVF (chanLoop c) = true := by
  unfold State.loopBroken
  rw [State.on_of ((State.setWinBits_within ..).regs_eq rfl)]
  exact State.on_one (by show c % 32 + 1 ≤ 32; omega) Nat.one_ne_zero

/-- The oldest occurrence of a relay is raised again, or its loop broken. -/
theorem relaysEmitOrBreakLoops (r : Fin 32) (o : Occ) (s : State) (hm : s.mode ≠ .boot) (h : s.evf.relay.find? (·.task == 64 + r.val) = some o) :
    ∃ t, exec (.relayEmit r) s = .next t ∧ t.evf.relay = s.evf.relay.erase o ∧
      (o.stamp.hop < 4 → t.raised = s.raised ++ [(evRelay r, { o.stamp with hop := o.stamp.hop + 1 })]) ∧
      (4 ≤ o.stamp.hop → o.stamp.origin.getD o.chan < 256 →
        t.raised = s.raised ∧ t.evc (o.stamp.origin.getD o.chan) 9 1 = 0 ∧
        t.on Pg.EVF (chanLoop (o.stamp.origin.getD o.chan)) = true) := by
  generalize hx : ({ s with evf := { s.evf with relay := s.evf.relay.erase o } } : State) = x
  have hrelay : x.evf.relay = s.evf.relay.erase o := by rw [← hx]
  have hraised : x.raised = s.raised := by rw [← hx]
  have hmode : x.mode ≠ .boot := by rw [← hx]; exact hm
  generalize hc : o.stamp.origin.getD o.chan = c
  have hgo : s.relayEmit r = if o.stamp.hop < 4 then x.raise (evRelay r) { o.stamp with hop := o.stamp.hop + 1 }
      else (x.loopBroken c).loopLogged c r := by
    unfold State.relayEmit
    rw [h, ← hx, ← hc]
    rfl
  refine ⟨_, congrArg Host.Outcome.next hgo, ?_, fun hhop => ?_, fun hhop hlt => ?_⟩
  · split
    · rw [(State.raise_within ..).evf_eq rfl, hrelay]
    · rw [(State.loopLogged_within ..).evf_eq rfl]
      unfold State.loopBroken
      rw [(State.setWinBits_within ..).evf_eq rfl, State.setFld_evf, hrelay]
  · rw [if_pos hhop, State.raise_raised _ _ _ hmode, hraised]
  · rw [if_neg (by omega)]
    refine ⟨?_, ?_, ?_⟩
    · rw [(State.loopLogged_within ..).raised_eq rfl]
      unfold State.loopBroken
      rw [(State.setWinBits_within ..).raised_eq rfl, State.setFld_raised, hraised]
    · have hword : chanAt c + 4 * (9 / 32) ≠ 0x0C1000 := by show 0x180000 + 32 * c + _ ≠ _; omega
      unfold State.evc
      rw [State.winBits_word _ _ (by decide) (by decide), State.loopLogged_win _ _ _ hword, ← State.winBits_word _ _ (by decide) (by decide)]
      exact State.winBits_setWinBits _ _ _ (by decide) (by decide)
    · rw [State.loopLogged_loop _ _ hlt]
      exact State.loopBroken_loop ..

/-- Settles O11: one lemma per command; an occurrence that is ignored, acted on or waits leaves the other rounds. -/
theorem tasksTakeTheirOccurrences : Obligations.TasksTakeTheirOccurrences :=
  ⟨taskDeliverTakesTheRound, taskPendingStartsTheRemembered, evioPulsesEnd, relaysEmitOrBreakLoops⟩

end Sys2Proof.Machine
end

section
/-!
PROOFS. Two-wire controllers and their targets (O17).
-/
namespace Sys2Proof.Machine

/-! ### Commands: started, refused, ended (R591, R592) -/

section
variable {n : Nat} (hn : n < 4)

/-- What stands when a command has ended: no command, BUSY clear, DONE set, its transmit bytes gone. -/
structure State.TwlEnded (s t : State) (n : Nat) (c : Word) : Prop where
  cmd : (t.twlOf n).cmd = none
  busy : t.on (Pg.TWL n) Fd.TWL_STAT_BUSY = false
  done : t.on (Pg.TWL n) Fd.TWL_STAT_DONE = true
  sent : t.fifoOf (2 * n + 1) = (s.fifoOf (2 * n + 1)).drop (wf c 8 8)
  received : t.fifoOf (2 * n) = s.fifoOf (2 * n)
  kept : ∀ g : Fld, plainAt g.off → apart Fd.TWL_STAT_BUSY g → apart Fd.TWL_STAT_DONE g → t.on (Pg.TWL n) g = s.on (Pg.TWL n) g

include hn

theorem State.twlEnd_ends {s : State} {c : Word} (hc : (s.twlOf n).cmd = some c) : s.TwlEnded (s.twlEnd n) n c := by
  have hp := twl_page hn
  rw [State.twlEnd_some hc]
  generalize hx : ((s.setFifo (2 * n + 1) ((s.fifoOf (2 * n + 1)).drop (wf c 8 8))).setTwl n
      { s.twlOf n with cmd := none, rest := [], got := 0, wait := false }) = x
  have hregs : x.regs = s.regs := by rw [← hx]; rfl
  have hshown : Within 0x32 x (((x.setFld (Pg.TWL n) Fd.TWL_STAT_BUSY 0).flag (Pg.TWL n) Fd.TWL_STAT_DONE).irq (Pg.TWL n) 0) :=
    (State.irq_within ..).step rfl ((State.flag_within ..).step rfl ((State.setFld_within ..).mono rfl))
  refine ⟨?_, ?_, ?_, ?_, ?_, fun g hg hb hd => ?_⟩
  · rw [hshown.twlOf n rfl, ← hx, State.twlOf_setTwl]
  · rw [State.on_irq_p hp (by decide), State.on_flag_p hp (by decide) (by decide) (by decide)]
    exact State.on_zero (by decide)
  · rw [State.on_irq_p hp (by decide)]
    exact State.on_flag_self hp (by decide) (by decide) (by decide)
  · rw [hshown.fifoOf _ rfl, ← hx]
    exact State.fifoOf_setFifo ..
  · rw [hshown.fifoOf _ rfl, ← hx]
    exact State.fifoOf_setFifo_of_ne _ _ _ _ (by omega)
  · rw [State.on_irq_p hp hg, State.on_flag_p hp (by decide) hg hd, State.on_setFld_p (by decide) hb, State.on_of hregs]

end

/-- A write of CMD with the command that it starts or refuses. -/
def State.twlAsked (s : State) (n : Nat) (w : Word) : State :=
  let p := Pg.TWL n
  if s.twlRefuses n w then s.flag p Fd.TWL_STAT_CMD_REFUSED
  else ((((s.setTwl n { s.twlOf n with cmd := some w, rest := [], got := 0, wait := false, fresh := false }).setFld p
    Fd.TWL_STAT_BUSY 1).setFld p Fd.TWL_STAT_RETRIES 0).setFld p Fd.TWL_STAT_BUS_BUSY 1)

theorem State.twlCmd_go {s : State} {n : Nat} {w : Word} (hw : wf w 25 2 = 1) :
    s.twlCmd n w = (s.writeReg (Pg.TWL n) Rg.TWL_CMD w).twlAsked n w := by
  obtain ⟨hgo, habort⟩ := wf_bit w hw
  have habort0 : wf w 26 1 = 0 := habort
  have hno : ¬(wf w 26 1 = 1 ∧ s.on (Pg.TWL n) Fd.TWL_STAT_BUSY = true) := fun ⟨h, _⟩ => by omega
  have hgo0 : wf w 25 1 ≠ 0 := by omega
  exact (if_neg hno).trans (if_neg hgo0)

theorem State.twlCmd_abort {s : State} {n : Nat} {w : Word} (hw : wf w 25 2 = 2) (hb : s.on (Pg.TWL n) Fd.TWL_STAT_BUSY = true) :
    s.twlCmd n w = ((s.writeReg (Pg.TWL n) Rg.TWL_CMD w).twlEnd n).setFld (Pg.TWL n) Fd.TWL_STAT_BUS_BUSY 0 := by
  obtain ⟨hgo, habort⟩ := wf_bit w hw
  have hyes : wf w 26 1 = 1 ∧ s.on (Pg.TWL n) Fd.TWL_STAT_BUSY = true := ⟨habort, hb⟩
  have hgo0 : wf w 25 1 = 0 := by omega
  refine (if_pos hyes).trans ?_
  rw [show (if wf w 25 1 = 0 then s.writeReg (Pg.TWL n) Rg.TWL_CMD w else _) = s.writeReg (Pg.TWL n) Rg.TWL_CMD w from if_pos hgo0]

theorem twlGoStartsOrIsRefused (o : Owner) (n : Fin 4) (w : Word) (s : State) (h : s.access o (Pg.TWL n) = .granted) (hw : wf w 25 2 = 1) :
    ∃ t, exec (.twlGo o n w) s = .next t ∧
      (s.twlRefuses n w = false → (t.twlOf n).cmd = some w ∧ (t.twlOf n).wait = false ∧ t.on (Pg.TWL n) Fd.TWL_STAT_BUSY = true) ∧
      (s.twlRefuses n w = true → t.twlOf n = s.twlOf n ∧ t.on (Pg.TWL n) Fd.TWL_STAT_CMD_REFUSED = true) := by
  refine ⟨_, congrArg Host.Outcome.next ((State.guarded_granted h).trans (State.twlCmd_go hw)), ?_⟩
  have hwrite := s.touchWrite_within o (Pg.TWL n) Rg.TWL_CMD w
  generalize hx : (s.touch o (Pg.TWL n)).writeReg (Pg.TWL n) Rg.TWL_CMD w = x at hwrite
  have hrefuses : x.twlRefuses n w = s.twlRefuses n w :=
    State.twlRefuses_of (twl_page n.isLt) (hwrite.fifoOf _ rfl) fun off ho => by
      rw [← hx]
      exact (State.touchWrite_same (off_ne ho)).rd
  refine ⟨fun hr => ?_, fun hr => ?_⟩
  · rw [show x.twlAsked n w = _ from if_neg (by rw [hrefuses, hr]; exact Bool.false_ne_true)]
    generalize hy : x.setTwl n { x.twlOf n with cmd := some w, rest := [], got := 0, wait := false, fresh := false } = y
    have hstate : (((y.setFld (Pg.TWL n) Fd.TWL_STAT_BUSY 1).setFld (Pg.TWL n) Fd.TWL_STAT_RETRIES 0).setFld (Pg.TWL n)
        Fd.TWL_STAT_BUS_BUSY 1).twlOf n = y.twlOf n := rfl
    rw [hstate, ← hy, State.twlOf_setTwl]
    refine ⟨rfl, rfl, ?_⟩
    · rw [State.on_setFld_p (by decide) (by decide), State.on_setFld_p (by decide) (by decide)]
      exact State.on_one (by decide) (by decide)
  · rw [show x.twlAsked n w = _ from if_pos (hrefuses.trans hr)]
    exact ⟨((State.flag_within ..).twlOf n rfl).trans (hwrite.twlOf n rfl),
      State.on_flag_self (twl_page n.isLt) (by decide) (by decide) (by decide)⟩

theorem twlAbortEndsTheCommand (o : Owner) (n : Fin 4) (w c : Word) (s : State) (h : s.access o (Pg.TWL n) = .granted) (hw : wf w 25 2 = 2)
    (hb : s.on (Pg.TWL n) Fd.TWL_STAT_BUSY = true) (hc : (s.twlOf n).cmd = some c) :
    ∃ t, exec (.twlAbort o n w) s = .next t ∧ (t.twlOf n).cmd = none ∧ t.on (Pg.TWL n) Fd.TWL_STAT_BUSY = false ∧
      t.on (Pg.TWL n) Fd.TWL_STAT_DONE = true ∧ t.fifoOf (2 * n + 1) = (s.fifoOf (2 * n + 1)).drop (wf c 8 8) := by
  have hwrite := s.touchWrite_within o (Pg.TWL n) Rg.TWL_CMD w
  refine ⟨_, congrArg Host.Outcome.next ((State.guarded_granted h).trans (State.twlCmd_abort hw (by rwa [s.touch_on]))), ?_⟩
  obtain ⟨hcmd, hbusy, hdone, hsent, -, -⟩ := State.twlEnd_ends n.isLt ((congrArg (·.cmd) (hwrite.twlOf n rfl)).trans hc)
  refine ⟨hcmd, ?_, ?_, hsent.trans ?_⟩
  · rwa [State.on_setFld_p (by decide) (by decide)]
  · rwa [State.on_setFld_p (by decide) (by decide)]
  · rw [hwrite.fifoOf _ rfl]

/-- The event log keeps no register of the block. -/
theorem twl_log {n : Nat} (h : n < 4) : Pg.TWL n ≠ Pg.QF ∧ Pg.TWL n ≠ Pg.SUPV0 := by
  unfold Pg.TWL Pg.QF Pg.SUPV0
  omega

/-! ### The end of a command, and its retries (R592-R594) -/

/-- Bytes that the receive FIFO has room for all enter it. -/
theorem State.twlFill_fits {s : State} {n : Nat} (hn : n < 4) (h : (s.fifoOf (2 * n)).length + (s.twlOf n).rest.length ≤ 16) :
    s.twlFill n = (s.setFifo (2 * n) (s.fifoOf (2 * n) ++ (s.twlOf n).rest)).setTwl n { s.twlOf n with rest := [] } := by
  have hdepth : fifoDepth (2 * n) = 16 := fifoDepth_twl (by omega)
  unfold State.twlFill
  dsimp only
  rw [hdepth, List.take_of_length_le (by omega), List.drop_eq_nil_of_le (by omega), State.fifoPut_fits _ _ _ (by omega)]

/-- The state with a command's bytes received. -/
def State.twlReceived (s : State) (n : Nat) (data : List Byte) : State :=
  (s.setTwl n { s.twlOf n with rest := (s.twlOf n).rest ++ data, got := (s.twlOf n).got + data.length }).twlFill n

/-- A command all of whose bytes find room ends with them in the FIFO. -/
theorem State.twlDone_data {s : State} {n : Nat} {data : List Byte} {w : Word} (hn : n < 4) (hc : (s.twlOf n).cmd = some w)
    (hw : (s.twlOf n).wait = false) (hg : (s.twlOf n).got = 0) (hr : (s.twlOf n).rest = []) (hl : data.length = wf w 16 8)
    (hfit : (s.fifoOf (2 * n)).length + data.length ≤ 16) :
    ∃ y : State, s.twlDone n false data = y.twlEnd n ∧ (y.twlOf n).cmd = some w ∧ y.fifoOf (2 * n) = s.fifoOf (2 * n) ++ data := by
  have htake : data.take (wf w 16 8 - (s.twlOf n).got) = data := List.take_of_length_le (by omega)
  generalize hv : ({ s.twlOf n with rest := (s.twlOf n).rest ++ data, got := (s.twlOf n).got + data.length } : Twl) = v
  have hrest : v.rest = data := by rw [← hv, hr]; rfl
  have hgot : v.got = wf w 16 8 := by rw [← hv, hg, ← hl]; exact Nat.zero_add _
  have hfill : s.twlReceived n data = ((s.setTwl n v).setFifo (2 * n) (s.fifoOf (2 * n) ++ data)).setTwl n { v with rest := [] } := by
    unfold State.twlReceived
    rw [hv, State.twlFill_fits hn (by rw [State.twlOf_setTwl, hrest]; exact hfit), State.twlOf_setTwl, hrest]
    rfl
  have htwl : (s.twlReceived n data).twlOf n = { v with rest := [] } := by rw [hfill, State.twlOf_setTwl]
  have hfifo : (s.twlReceived n data).fifoOf (2 * n) = s.fifoOf (2 * n) ++ data := by
    rw [hfill]
    exact State.fifoOf_setFifo ..
  have hcmd : ((s.twlReceived n data).twlOf n).cmd = some w := by rw [htwl, ← hv]; exact hc
  have hdone : s.twlDone n false data = (if wf w 24 1 = 1 then (s.twlReceived n data).setFld (Pg.TWL n) Fd.TWL_STAT_BUS_BUSY 0
      else s.twlReceived n data).twlEnd n := by
    unfold State.twlDone
    rw [hc]
    dsimp only
    rw [htake]
    refine (if_neg (by rw [hw]; exact Bool.false_ne_true)).trans ((if_neg Bool.false_ne_true).trans (if_pos ?_))
    show (((s.twlReceived n data).twlOf n).rest.isEmpty && ((s.twlReceived n data).twlOf n).got == wf w 16 8) = true
    rw [htwl, hgot]
    exact beq_self_eq_true _
  refine ⟨_, hdone, ?_, ?_⟩
  · split
    · exact hcmd
    · exact hcmd
  · split
    · exact hfifo
    · exact hfifo

theorem twlCommandsEnd (n : Fin 4) (nack : Bool) (data : List Byte) (c : Word) (s : State) (hc : (s.twlOf n).cmd = some c)
    (hw : (s.twlOf n).wait = false) (hg : (s.twlOf n).got = 0) (hr : (s.twlOf n).rest = [])
    (h : nack = true ∨ (data.length = wf c 16 8 ∧ (s.fifoOf (2 * n)).length + data.length ≤ 16)) :
    ∃ t, exec (.twlCmdDone n nack data) s = .next t ∧ (t.twlOf n).cmd = none ∧ t.on (Pg.TWL n) Fd.TWL_STAT_BUSY = false ∧
      t.on (Pg.TWL n) Fd.TWL_STAT_DONE = true ∧ (nack = true → t.on (Pg.TWL n) Fd.TWL_STAT_NACK = true) ∧
      t.fifoOf (2 * n) = s.fifoOf (2 * n) ++ (if nack then [] else data) := by
  have hp := twl_page n.isLt
  cases nack with
  | true =>
    generalize hx : ((s.flag (Pg.TWL n) Fd.TWL_STAT_NACK).bump (Pg.TWL n) ⟨Rg.TWL_CNT, 8, 8⟩).setFld (Pg.TWL n) Fd.TWL_STAT_BUS_BUSY 0 = x
    have hshown : Within 0x32 s x := by
      rw [← hx]
      exact (State.setFld_within ..).step rfl ((State.bump_within ..).step rfl ((State.flag_within ..).mono rfl))
    have hnack : x.on (Pg.TWL n) Fd.TWL_STAT_NACK = true := by
      rw [← hx, State.on_setFld_p (by decide) (by decide), State.on_bump_p (by decide) (by decide)]
      exact State.on_flag_self hp (by decide) (by decide) (by decide)
    obtain ⟨hcmd, hbusy, hdone, -, hreceived, hkept⟩ := State.twlEnd_ends n.isLt ((congrArg (·.cmd) (hshown.twlOf n rfl)).trans hc)
    refine ⟨_, congrArg Host.Outcome.next ((State.twlDone_nack hc hw).trans (congrArg (·.twlEnd n) hx)), hcmd, hbusy, hdone, fun _ => ?_, ?_⟩
    · exact (hkept _ (by decide) (by decide) (by decide)).trans hnack
    · rw [if_pos rfl, List.append_nil, hreceived, hshown.fifoOf _ rfl]
  | false =>
    obtain ⟨hl, hfit⟩ := h.resolve_left Bool.false_ne_true
    obtain ⟨y, hgo, hy, hfifo⟩ := State.twlDone_data n.isLt hc hw hg hr hl hfit
    obtain ⟨hcmd, hbusy, hdone, -, hreceived, -⟩ := State.twlEnd_ends n.isLt hy
    exact ⟨_, congrArg Host.Outcome.next hgo, hcmd, hbusy, hdone, fun hno => absurd hno Bool.false_ne_true, hreceived.trans hfifo⟩

/-- A byte lost to another controller makes the command wait. -/
theorem twlArbLossesWait (n : Fin 4) (b : Fin 256) (c : Word) (s : State) (hc : (s.twlOf n).cmd = some c) (hw : (s.twlOf n).wait = false) :
    ∃ t, exec (.twlArbLost n b) s = .next t ∧ (t.twlOf n).cmd = some c ∧ (t.twlOf n).wait = true ∧
      t.on (Pg.TWL n) Fd.TWL_STAT_ARB_LOST = true ∧ t.fld (Pg.TWL n) Fd.TWL_STAT_ARB_BYTE = b := by
  have hp := twl_page n.isLt
  have hgo : ¬((s.twlOf n).cmd.isNone = true ∨ (s.twlOf n).wait = true) := by
    rw [hc, hw]
    exact fun h => h.elim Bool.false_ne_true Bool.false_ne_true
  refine ⟨_, congrArg Host.Outcome.next (if_neg hgo), ?_⟩
  generalize hx : ((s.flag (Pg.TWL n) Fd.TWL_STAT_ARB_LOST).setFld (Pg.TWL n) Fd.TWL_STAT_ARB_BYTE b).bump (Pg.TWL n) ⟨Rg.TWL_CNT, 0, 8⟩ = x
  have hshown : Within 0x32 s x := by
    rw [← hx]
    exact (State.bump_within ..).step rfl ((State.setFld_within ..).step rfl ((State.flag_within ..).mono rfl))
  have hcmd : (x.twlOf n).cmd = some c := (congrArg (·.cmd) (hshown.twlOf n rfl)).trans hc
  rw [(State.irq_within ..).twlOf n rfl, State.twlOf_setTwl, State.on_irq_p hp (by decide), State.fld_irq_p hp (by decide),
    State.on_of (State.setTwl_regs ..), State.fld_of (State.setTwl_regs ..), ← hx, State.on_bump_p (by decide) (by decide),
    State.fld_bump_p (by decide) (by decide), State.on_setFld_p (by decide) (by decide), hx]
  exact ⟨hcmd, rfl, State.on_flag_self hp (by decide) (by decide) (by decide), State.fld_fits (by decide) b.isLt⟩

/-- A retry starts the command again up to the limit, and ends it there. -/
theorem twlRetriesUpToTheLimit (n : Fin 4) (c : Word) (s : State) (hc : (s.twlOf n).cmd = some c) (hw : (s.twlOf n).wait = true) :
    let r := s.fld (Pg.TWL n) Fd.TWL_STAT_RETRIES
    ∃ t, exec (.twlRetry n) s = .next t ∧
      (r < s.fld (Pg.TWL n) Fd.TWL_CTL_RETRY → (t.twlOf n).cmd = some c ∧ (t.twlOf n).wait = false ∧
        t.fld (Pg.TWL n) Fd.TWL_STAT_RETRIES = r + 1) ∧
      (s.fld (Pg.TWL n) Fd.TWL_CTL_RETRY ≤ r → (t.twlOf n).cmd = none ∧ t.on (Pg.TWL n) Fd.TWL_STAT_BUSY = false) := by
  intro r
  have hwait : ¬((!(s.twlOf n).wait) = true) := by
    rw [hw]
    exact Bool.false_ne_true
  refine ⟨_, congrArg Host.Outcome.next (if_neg hwait), fun hr => ?_, fun hr => ?_⟩
  · have hlimit : s.fld (Pg.TWL n) Fd.TWL_CTL_RETRY < 2 ^ 4 := State.fld_lt ..
    have hgo : ¬(s.fld (Pg.TWL n) Fd.TWL_CTL_RETRY < s.fld (Pg.TWL n) Fd.TWL_STAT_RETRIES + 1) := by omega
    rw [if_neg hgo, (State.setFld_within ..).twlOf n rfl, State.twlOf_setTwl]
    exact ⟨hc, rfl, State.fld_fits (by decide) (by show r + 1 < 2 ^ 4; omega)⟩
  · have hgo : s.fld (Pg.TWL n) Fd.TWL_CTL_RETRY < s.fld (Pg.TWL n) Fd.TWL_STAT_RETRIES + 1 := by omega
    obtain ⟨hcmd, hbusy, -, -, -, -⟩ := State.twlEnd_ends n.isLt hc
    rw [if_pos hgo, State.on_setFld_p (by decide) (by decide)]
    exact ⟨hcmd, hbusy⟩

/-! ### Resets, bus clears and timing (R585, R586, R591, R596) -/

section
variable {n : Nat} (s : State)

theorem State.twlIdle_twl : (s.twlIdle n).twlOf n = { fresh := true } := State.twlOf_setTwl ..

theorem State.twlIdle_fifos : (s.twlIdle n).fifoOf (2 * n) = [] ∧ (s.twlIdle n).fifoOf (2 * n + 1) = [] :=
  ⟨(State.fifoOf_setFifo_of_ne _ _ _ _ (by omega)).trans (State.fifoOf_setFifo ..), State.fifoOf_setFifo ..⟩

theorem State.twlIdle_busy : (s.twlIdle n).on (Pg.TWL n) Fd.TWL_STAT_BUSY = false :=
  (State.on_setFld_p (by decide) (by decide)).trans (State.on_zero (by decide))

theorem State.twlIdle_stat (h : s.rd (Pg.TWL n) Rg.TWL_STAT = 0) : (s.twlIdle n).rd (Pg.TWL n) Rg.TWL_STAT = 0 := by
  have hcleared : (s.twlIdle n).rd (Pg.TWL n) Rg.TWL_STAT = wfSet (wfSet (s.rd (Pg.TWL n) Rg.TWL_STAT) 0 1 0) 20 1 0 :=
    (State.rd_wr_same ..).trans (congrArg (wfSet · 20 1 0) (State.rd_wr_same ..))
  rw [hcleared, h]
  decide

end

/-- The block once RESET has been written: idle, its flags clear. -/
def State.twlCleared (s : State) (n : Nat) : State := ((s.twlIdle n).wr (Pg.TWL n) Rg.TWL_STAT 0).errEdge (Pg.TWL n)

theorem State.twlCtl_reset {s : State} {n : Nat} {w : Word} (hw : wf w 14 1 = 1) :
    s.twlCtl n w = ((s.writeReg (Pg.TWL n) Rg.TWL_CTL w).twlCleared n).twlIdle n ∨
      s.twlCtl n w = (s.writeReg (Pg.TWL n) Rg.TWL_CTL w).twlCleared n := by
  unfold State.twlCtl
  dsimp only
  rw [if_pos hw]
  split
  · exact .inl rfl
  · exact .inr rfl

/-- An idle block whose FIFOs are empty and whose flags are clear. -/
structure State.TwlQuiet (t : State) (n : Nat) : Prop where
  received : t.fifoOf (2 * n) = []
  sent : t.fifoOf (2 * n + 1) = []
  cmd : (t.twlOf n).cmd = none
  stat : t.rd (Pg.TWL n) Rg.TWL_STAT = 0

theorem State.twlCleared_quiet {n : Nat} (hn : n < 4) (s : State) : (s.twlCleared n).TwlQuiet n := by
  have hedge : Within 0x32 (s.twlIdle n) (s.twlCleared n) := (State.errEdge_within ..).step rfl ((State.wr_within ..).mono rfl)
  exact {
    received := (hedge.fifoOf _ rfl).trans s.twlIdle_fifos.1
    sent := (hedge.fifoOf _ rfl).trans s.twlIdle_fifos.2
    cmd := congrArg (·.cmd) ((hedge.twlOf n rfl).trans s.twlIdle_twl)
    stat := (State.errEdge_at (not_headOf (twl_page hn) (by decide))).rd.trans (State.rd_wr_same ..) }

theorem State.TwlQuiet.idle {s : State} {n : Nat} (h : s.TwlQuiet n) : (s.twlIdle n).TwlQuiet n where
  received := s.twlIdle_fifos.1
  sent := s.twlIdle_fifos.2
  cmd := congrArg (·.cmd) s.twlIdle_twl
  stat := s.twlIdle_stat h.stat

theorem twlResetsEmptyTheBlock (o : Owner) (n : Fin 4) (w : Word) (s : State) (h : s.access o (Pg.TWL n) = .granted) (hw : wf w 14 1 = 1) :
    ∃ t, exec (.twlReset o n w) s = .next t ∧ t.fifoOf (2 * n) = [] ∧ t.fifoOf (2 * n + 1) = [] ∧ (t.twlOf n).cmd = none ∧
      t.rd (Pg.TWL n) Rg.TWL_STAT = 0 := by
  refine ⟨_, congrArg Host.Outcome.next (State.guarded_granted h), ?_⟩
  have hquiet : ((s.touch o (Pg.TWL n)).twlCtl n w).TwlQuiet n := by
    rcases State.twlCtl_reset (s := s.touch o (Pg.TWL n)) (n := n) hw with hgo | hgo
    · rw [hgo]
      exact (State.twlCleared_quiet n.isLt _).idle
    · rw [hgo]
      exact State.twlCleared_quiet n.isLt _
  exact ⟨hquiet.received, hquiet.sent, hquiet.cmd, hquiet.stat⟩

theorem twlBusClearsAreCounted (n : Fin 4) (freed : Bool) (s : State) (hen : s.on (Pg.TWL n) Fd.TWL_CTL_EN = true)
    (hf : (s.twlOf n).fresh = true) :
    ∃ t, exec (.twlBusClear n freed) s = .next t ∧ (t.twlOf n).fresh = false ∧
      t.fld (Pg.TWL n) ⟨Rg.TWL_CNT, 24, 8⟩ = satN 8 (s.fld (Pg.TWL n) ⟨Rg.TWL_CNT, 24, 8⟩ + 1) ∧
      t.on (Pg.TWL n) Fd.TWL_STAT_BUS_STUCK = (!freed || s.on (Pg.TWL n) Fd.TWL_STAT_BUS_STUCK) := by
  have hp := twl_page n.isLt
  have hgo : ¬((!s.on (Pg.TWL n) Fd.TWL_CTL_EN || !(s.twlOf n).fresh) = true) := by
    rw [hen, hf]
    exact Bool.false_ne_true
  refine ⟨_, congrArg Host.Outcome.next (if_neg hgo), ?_⟩
  generalize hx : (s.setTwl n { s.twlOf n with fresh := false }).bump (Pg.TWL n) ⟨Rg.TWL_CNT, 24, 8⟩ = x
  have hfresh : (x.twlOf n).fresh = false := by
    rw [← hx, (State.bump_within ..).twlOf n rfl, State.twlOf_setTwl]
  have hcount : x.fld (Pg.TWL n) ⟨Rg.TWL_CNT, 24, 8⟩ = satN 8 (s.fld (Pg.TWL n) ⟨Rg.TWL_CNT, 24, 8⟩ + 1) := by
    rw [← hx]
    exact State.fld_bump _ _ _ (by decide)
  have hstuck : x.on (Pg.TWL n) Fd.TWL_STAT_BUS_STUCK = s.on (Pg.TWL n) Fd.TWL_STAT_BUS_STUCK := by
    rw [← hx]
    exact State.on_bump_p (by decide) (by decide)
  cases freed with
  | true => exact ⟨hfresh, hcount, hstuck⟩
  | false =>
    have hshown : Within 0x410000033 x (((x.flag (Pg.TWL n) Fd.TWL_STAT_BUS_STUCK).irq (Pg.TWL n) 3).logErr Er.TWI_STUCK (Pg.TWL n)) :=
      (State.logMinor_within (by decide)).step rfl ((State.irq_within ..).step rfl ((State.flag_within ..).mono rfl))
    have hq := twl_log n.isLt
    refine ⟨(congrArg (·.fresh) (hshown.twlOf n rfl)).trans hfresh, ?_, ?_⟩
    · refine (State.fld_logMinor_p (by decide) hp hq.1 hq.2 (by decide)).trans ?_
      rw [State.fld_irq_p hp (by decide), State.fld_flag_p hp (by decide) (by decide) (by decide), hcount]
    · refine (State.on_logMinor_p (by decide) hp hq.1 hq.2 (by decide)).trans ?_
      rw [State.on_irq_p hp (by decide)]
      exact State.on_flag_self hp (by decide) (by decide) (by decide)

theorem twlTimingsAreTakenWhileOff (o : Owner) (n : Fin 4) (k : Fin 2) (w : Word) (s : State) (h : s.access o (Pg.TWL n) = .granted) :
    ∃ t, exec (.twlTimingWrite o n k w) s = .next t ∧
      (s.on (Pg.TWL n) Fd.TWL_CTL_EN = false ∧ zeroTiming w = false → t.rd (Pg.TWL n) (Rg.TWL_TIM0 + 4 * k) = w ∧
        regsKept [Pg.TWL n * 4096 + (Rg.TWL_TIM0 + 4 * k)] s t) ∧
      (s.on (Pg.TWL n) Fd.TWL_CTL_EN = true ∨ zeroTiming w = true → t.on (Pg.TWL n) Fd.TWL_STAT_CFG_REFUSED = true ∧
        t.rd (Pg.TWL n) (Rg.TWL_TIM0 + 4 * k) = s.rd (Pg.TWL n) (Rg.TWL_TIM0 + 4 * k)) := by
  have hp := twl_page n.isLt
  have hq := twl_log n.isLt
  refine ⟨_, congrArg Host.Outcome.next (State.guarded_granted h), fun ⟨hoff, hz⟩ => ?_, fun hno => ?_⟩
  · have hgo : ¬(((s.touch o (Pg.TWL n)).on (Pg.TWL n) Fd.TWL_CTL_EN || zeroTiming w) = true) := by
      rw [s.touch_on, hoff, hz]
      exact Bool.false_ne_true
    rw [show (s.touch o (Pg.TWL n)).twlTiming n k w = _ from if_neg hgo]
    exact ⟨State.rd_wr_same .., regsKept_one fun b hb => (State.wr_same hb).step (RegSame.of_regs (s.touch_regs ..))⟩
  · have hgo : ((s.touch o (Pg.TWL n)).on (Pg.TWL n) Fd.TWL_CTL_EN || zeroTiming w) = true := by
      rw [s.touch_on]
      exact Bool.or_eq_true_iff.2 hno
    have hoff : Rg.TWL_TIM0 + 4 * k.val = 0x044 + 4 * k.val := rfl
    have hirq : Rg.HDR_IRQ_STAT < 0x40 := by decide
    have hstat : Rg.HDR_PAGE_STAT < 0x40 := by decide
    have hplain : plainAt (Rg.TWL_TIM0 + 4 * k.val) := ⟨by omega, by omega, by omega⟩
    rw [show (s.touch o (Pg.TWL n)).twlTiming n k w = _ from if_pos hgo]
    refine ⟨?_, ?_⟩
    · refine (State.on_logMinor_p (by decide) hp hq.1 hq.2 (by decide)).trans ?_
      exact State.on_flag_self hp (by decide) (by decide) (by decide)
    · have hne : Pg.TWL n * 4096 + (Rg.TWL_TIM0 + 4 * k.val) ≠ Pg.TWL n * 4096 + Fd.TWL_STAT_CFG_REFUSED.off :=
        off_ne (by rw [hoff]; show _ ≠ 0x050; omega)
      exact ((State.logMinor_same (not_logPage hp hq.1 hq.2 hplain.1) (by decide)).step ((State.flag_at (not_headOf hp hplain) hne).step
        (RegSame.of_regs (s.touch_regs ..)))).rd

/-! ### Targets and timeouts (R586, R595) -/

/-- The state with the transaction shown. -/
def State.targetHit (s : State) (n : Nat) : State := (s.flag (Pg.TWL n) Fd.TWL_STAT_TGT_HIT).irq (Pg.TWL n) 4

/-- The state with the transmit FIFO's bytes taken, and TGT_UNDER set where they did not do. -/
def State.targetTaken (s : State) (n rd : Nat) : State :=
  let l := s.fifoOf (2 * n + 1)
  let s := s.setFifo (2 * n + 1) (l.drop rd)
  if l.length < rd then s.setFld (Pg.TWL n) ⟨Rg.TWL_TGT_STAT, 9, 1⟩ 1 else s

/-- TGT_STAT shows how many bytes moved, and which way. -/
def State.targetShown (s : State) (n k rd : Nat) : State :=
  (s.setFld (Pg.TWL n) ⟨Rg.TWL_TGT_STAT, 0, 8⟩ k).setFld (Pg.TWL n) ⟨Rg.TWL_TGT_STAT, 8, 1⟩ rd

section
variable {n : Nat} (hn : n < 4) (s : State)

theorem State.targetShown_stat (k rd : Nat) {f : Fld} (h : f.off = Rg.TWL_STAT) : (s.targetShown n k rd).on (Pg.TWL n) f = s.on (Pg.TWL n) f := by
  have hne : apart ⟨Rg.TWL_TGT_STAT, 0, 8⟩ f := .inl (by rw [h]; decide)
  have hne' : apart ⟨Rg.TWL_TGT_STAT, 8, 1⟩ f := .inl (by rw [h]; decide)
  exact (State.on_setFld_p (by decide) hne').trans (State.on_setFld_p (by decide) hne)

theorem State.targetShown_within (k rd : Nat) : Within 0x2 s (s.targetShown n k rd) :=
  (State.setFld_within ..).step rfl (State.setFld_within ..)

theorem State.targetTaken_stat (rd : Nat) {f : Fld} (h : f.off = Rg.TWL_STAT) : (s.targetTaken n rd).on (Pg.TWL n) f = s.on (Pg.TWL n) f := by
  unfold State.targetTaken
  dsimp only
  split
  · exact State.on_setFld_p (by decide) (.inl (by rw [h]; decide))
  · rfl

theorem State.targetTaken_fifo (rd : Nat) : (s.targetTaken n rd).fifoOf (2 * n + 1) = (s.fifoOf (2 * n + 1)).drop rd := by
  unfold State.targetTaken
  dsimp only
  split
  · exact State.fifoOf_setFifo ..
  · exact State.fifoOf_setFifo ..

theorem State.targetTaken_out (rd : Nat) : (s.targetTaken n rd).out = s.out := by
  unfold State.targetTaken
  dsimp only
  split <;> rfl

theorem State.targetHit_fifo (f : Nat) : (s.targetHit n).fifoOf f = s.fifoOf f :=
  ((State.irq_within ..).step rfl ((State.flag_within ..).mono (m := 0x32) (n := 0x32) rfl)).fifoOf f rfl

include hn in
theorem State.targetHit_stat : (s.targetHit n).on (Pg.TWL n) Fd.TWL_STAT_TGT_HIT = true :=
  (State.on_irq_p (twl_page hn) (by decide)).trans (State.on_flag_self (twl_page hn) (by decide) (by decide) (by decide))

end

/-- Whether the block's target takes the transactions that name it. -/
def State.twlTargeted (s : State) (n : Nat) : Prop :=
  s.blockOn (Pg.TWL n) Fd.TWL_CTL_EN = true ∧ s.on (Pg.TWL n) Fd.TWL_CTL_TGT_EN = true ∧ twlNoAddr (s.fld (Pg.TWL n) Fd.TWL_CTL_TGT_ADDR) = false

/-- What a read transaction of `rd` bytes is sent: 0xFF for each byte that the FIFO has not. -/
def State.targetBytes (s : State) (n rd : Nat) : List Byte :=
  (s.fifoOf (2 * n + 1)).take rd ++ List.replicate (rd - (s.fifoOf (2 * n + 1)).length) 0xFF

section
variable {n rd : Nat} {s : State} (data : List Byte) (h : s.twlTargeted n)
include h

theorem State.twlTarget_takes (h0 : rd = 0) : s.twlTarget n data rd = ((s.targetHit n).fifoPut (2 * n) data).targetShown n
    (Nat.min data.length (fifoDepth (2 * n) - ((s.targetHit n).fifoOf (2 * n)).length)) 0 := by
  obtain ⟨hen, ht, ha⟩ := h
  refine (if_neg ?_).trans (if_pos h0)
  rw [hen, ht, ha]
  exact Bool.false_ne_true

theorem State.twlTarget_sends (h0 : rd ≠ 0) : s.twlTarget n data rd = (((s.targetHit n).targetTaken n rd).emit
    (.twoWire (Pg.TWL n) ((s.targetHit n).targetBytes n rd))).targetShown n (rd % 256) 1 := by
  obtain ⟨hen, ht, ha⟩ := h
  refine (if_neg ?_).trans (if_neg h0)
  rw [hen, ht, ha]
  exact Bool.false_ne_true

end

theorem twlTargetsTakeAndSend (n : Fin 4) (data : List Byte) (rd : Nat) (s : State) (hen : s.blockOn (Pg.TWL n) Fd.TWL_CTL_EN = true)
    (ht : s.on (Pg.TWL n) Fd.TWL_CTL_TGT_EN = true) (ha : twlNoAddr (s.fld (Pg.TWL n) Fd.TWL_CTL_TGT_ADDR) = false)
    (hl : (s.fifoOf (2 * n)).length ≤ 16) :
    ∃ t, exec (.twlTargetXfer n data rd) s = .next t ∧ t.on (Pg.TWL n) Fd.TWL_STAT_TGT_HIT = true ∧
      (rd = 0 → t.fifoOf (2 * n) = (s.fifoOf (2 * n) ++ data).take 16) ∧
      (0 < rd → t.fifoOf (2 * n + 1) = (s.fifoOf (2 * n + 1)).drop rd ∧ ∃ m, t.out = s.out ++ m ++ [.twoWire (Pg.TWL n)
        ((s.fifoOf (2 * n + 1)).take rd ++ List.replicate (rd - (s.fifoOf (2 * n + 1)).length) 0xFF)]) := by
  refine ⟨s.twlTarget n data rd, rfl, ?_⟩
  obtain ⟨m, hm⟩ : s.out <+: (s.targetHit n).out :=
    (State.flag_within ..).kept.out.trans (State.irq_within ..).kept.out
  rcases Nat.eq_zero_or_pos rd with h0 | h0
  · rw [State.twlTarget_takes data ⟨hen, ht, ha⟩ h0, State.targetShown_stat _ _ _ rfl, State.fifoPut_on, s.targetHit_stat n.isLt,
      (State.targetShown_within ..).fifoOf _ rfl]
    refine ⟨rfl, fun _ => ?_, fun hpos => by omega⟩
    have hdepth : fifoDepth (2 * n.val) = 16 := fifoDepth_twl (by omega)
    unfold State.fifoPut
    rw [State.fifoOf_setFifo, s.targetHit_fifo, hdepth, show Nat.max 16 (s.fifoOf (2 * n)).length = 16 from Nat.max_eq_left hl]
  · rw [State.twlTarget_sends data ⟨hen, ht, ha⟩ (by omega), State.targetShown_stat _ _ _ rfl, State.emit_on, State.targetTaken_stat _ _ rfl,
      s.targetHit_stat n.isLt, (State.targetShown_within ..).fifoOf (2 * n + 1) rfl, (State.emit_within ..).fifoOf (2 * n + 1) rfl,
      State.targetTaken_fifo,
      (State.targetShown_within ..).out_eq rfl, State.emit_out, State.targetTaken_out, ← hm]
    unfold State.targetBytes
    rw [s.targetHit_fifo]
    exact ⟨rfl, fun hz => by omega, fun _ => ⟨rfl, m, rfl⟩⟩

/-- The state with the timeout shown and counted. -/
def State.twlTimeoutShown (s : State) (n : Nat) : State :=
  ((s.flag (Pg.TWL n) Fd.TWL_STAT_TIMEOUT).bump (Pg.TWL n) ⟨Rg.TWL_CNT, 16, 8⟩).irq (Pg.TWL n) 2

theorem State.sclTimeout_twl (s : State) {n : Nat} (h : n ≠ 4) :
    s.sclTimeout n = (((s.twlEnd n).twlIdle n).twlTimeoutShown n).logErr Er.TWI_TIMEOUT (Pg.TWL n) (Pg.TWL n) := if_neg h

theorem State.twlTimeoutShown_within (s : State) (n : Nat) : Within 0x32 s (s.twlTimeoutShown n) :=
  (State.irq_within ..).step rfl ((State.bump_within ..).step rfl ((State.flag_within ..).mono rfl))

theorem State.twlTimeoutShown_timeout (s : State) {n : Nat} (hn : n < 4) : (s.twlTimeoutShown n).on (Pg.TWL n) Fd.TWL_STAT_TIMEOUT = true := by
  unfold State.twlTimeoutShown
  rw [State.on_irq_p (twl_page hn) (by decide), State.on_bump_p (by decide) (by decide)]
  exact State.on_flag_self (twl_page hn) (by decide) (by decide) (by decide)

theorem State.twlTimeoutShown_busy (s : State) {n : Nat} (hn : n < 4) :
    (s.twlTimeoutShown n).on (Pg.TWL n) Fd.TWL_STAT_BUSY = s.on (Pg.TWL n) Fd.TWL_STAT_BUSY := by
  unfold State.twlTimeoutShown
  rw [State.on_irq_p (twl_page hn) (by decide), State.on_bump_p (by decide) (by decide),
    State.on_flag_p (twl_page hn) (by decide) (by decide) (by decide)]

theorem twlTimeoutsResetTheBlock (b : Fin 4) (s : State) (hm : s.mode ≠ .boot) (hen : s.blockOn (Pg.TWL b) Fd.TWL_CTL_EN = true) :
    ∃ t, exec (.sclStretchTimeout b.castSucc) s = .next t ∧ (t.twlOf b).cmd = none ∧ t.fifoOf (2 * b) = [] ∧ t.fifoOf (2 * b + 1) = [] ∧
      t.on (Pg.TWL b) Fd.TWL_STAT_TIMEOUT = true ∧ t.on (Pg.TWL b) Fd.TWL_STAT_BUSY = false := by
  have hp := twl_page b.isLt
  have hq := twl_log b.isLt
  have hb : b.castSucc ≠ 4 := (Fin.castSucc_lt_last b).ne
  have hon : ((if b.castSucc = 4 then s.blockOn Pg.MTWI Fd.MTWI_CTL_EN else s.blockOn (Pg.TWL b) Fd.TWL_CTL_EN) &&
      decide (s.mode ≠ .boot)) = true := by
    rw [if_neg hb, hen, decide_eq_true hm]
    rfl
  have hb' : b.val ≠ 4 := by omega
  refine ⟨(((s.twlEnd b).twlIdle b).twlTimeoutShown b).logErr Er.TWI_TIMEOUT (Pg.TWL b) (Pg.TWL b),
    congrArg Host.Outcome.next ((if_pos hon).trans (s.sclTimeout_twl hb')), ?_⟩
  generalize hx : (s.twlEnd b).twlIdle b = x
  have hcmd : x.twlOf b = { fresh := true } := by rw [← hx]; exact State.twlIdle_twl _
  have hfifos : x.fifoOf (2 * b) = [] ∧ x.fifoOf (2 * b + 1) = [] := by rw [← hx]; exact State.twlIdle_fifos _
  have hbusy : x.on (Pg.TWL b) Fd.TWL_STAT_BUSY = false := by rw [← hx]; exact State.twlIdle_busy _
  have hshown : Within 0x410000033 x ((x.twlTimeoutShown b).logErr Er.TWI_TIMEOUT (Pg.TWL b) (Pg.TWL b)) :=
    (State.logMinor_within (by decide)).step rfl ((x.twlTimeoutShown_within b).mono rfl)
  refine ⟨?_, (hshown.fifoOf _ rfl).trans hfifos.1, (hshown.fifoOf _ rfl).trans hfifos.2, ?_, ?_⟩
  · rw [hshown.twlOf b rfl, hcmd]
  · rw [State.on_logMinor_p (by decide) hp hq.1 hq.2 (by decide), x.twlTimeoutShown_timeout b.isLt]
  · rw [State.on_logMinor_p (by decide) hp hq.1 hq.2 (by decide), x.twlTimeoutShown_busy b.isLt, hbusy]

/-- Settles O17: one lemma per command; `State.TwlEnded` says once what the end of a command leaves. -/
theorem twoWireControllersRunTheirCommands : Obligations.TwoWireControllersRunTheirCommands :=
  ⟨twlGoStartsOrIsRefused, twlAbortEndsTheCommand, twlCommandsEnd, twlArbLossesWait, twlRetriesUpToTheLimit, twlResetsEmptyTheBlock,
    twlBusClearsAreCounted, twlTimingsAreTakenWhileOff, twlTargetsTakeAndSend, twlTimeoutsResetTheBlock⟩

end Sys2Proof.Machine
end

section
/-!
PROOFS. The management target (O18).
-/
namespace Sys2Proof.Machine

/-! ### Transactions, and the commands that end them (R588, R589) -/

section
variable (s : State)

theorem State.mtwiStop_busy : s.mtwiStop.on Pg.MTWI Fd.MTWI_STAT_BUSY = false :=
  (State.on_setFld_p (by decide) (by decide)).trans (State.on_zero (by decide))

/-- The end of a transaction leaves every flag of a fault as it was. -/
theorem State.mtwiStop_on {f : Fld} (h : apart Fd.MTWI_STAT_BUSY f) (h' : apart Fd.MTWI_BUS_STAT_BUS_BUSY f) :
    s.mtwiStop.on Pg.MTWI f = s.on Pg.MTWI f :=
  (State.on_setFld_p (by decide) h').trans (State.on_setFld_p (by decide) h)

theorem State.mtwiStop_same {a : Nat} (h : a ≠ Pg.MTWI * 4096 + Rg.MTWI_STAT) (h' : a ≠ Pg.MTWI * 4096 + Rg.MTWI_BUS_STAT) :
    RegSame a s s.mtwiStop := (State.setFld_same h').step (State.setFld_same h)

theorem State.mtwiBad_shows : s.mtwiBad.on Pg.MTWI Fd.MTWI_STAT_BAD_CMD = true :=
  (State.on_bump_p (by decide) (by decide)).trans (State.on_flag_self (by decide) (by decide) (by decide) (by decide))

theorem State.mtwiRefused_shows : s.mtwiRefused.on Pg.MTWI Fd.MTWI_STAT_REFUSED = true :=
  (State.on_bump_p (by decide) (by decide)).trans (State.on_flag_self (by decide) (by decide) (by decide) (by decide))

theorem State.mtwiBad_page {a : Nat} (h : a / 4096 ≠ Pg.MTWI) (h' : a / 4096 ≠ Pg.PCIE) : RegSame a s s.mtwiBad := by
  have hhead : ¬headOf Pg.MTWI a := by
    rintro (h0 | h0 | h0)
    · exact h' h0
    · exact ne_of_page h (by decide) h0
    · exact ne_of_page h (by decide) h0
  exact (State.bump_page h (by decide)).step (State.flag_at hhead (ne_of_page h (by decide)))

end

theorem mtwiAddressStartsATransaction (a : Fin 128) (s : State) : ∃ t, exec (.mtwiAddress a) s = .next t ∧
    (s.mode ≠ .boot ∧ s.blockOn Pg.MTWI Fd.MTWI_CTL_EN = true ∧ a.val = s.mtwiAddr → t.on Pg.MTWI Fd.MTWI_STAT_BUSY = true ∧
      t.on Pg.MTWI Fd.MTWI_BUS_STAT_BUS_BUSY = true ∧ { t with regs := s.regs } = s ∧
      regsKept [Pg.MTWI * 4096 + Rg.MTWI_STAT, Pg.MTWI * 4096 + Rg.MTWI_BUS_STAT] s t) ∧
    (a.val ≠ s.mtwiAddr → t = s) := by
  refine ⟨s.mtwiStart a, rfl, fun ⟨hm, hen, ha⟩ => ?_, fun ha => if_pos (.inr (.inr ha))⟩
  have hgo : ¬(s.mode = .boot ∨ (!s.blockOn Pg.MTWI Fd.MTWI_CTL_EN) = true ∨ a.val ≠ s.mtwiAddr) := by
    rintro (h | h | h)
    · exact hm h
    · rw [hen] at h
      exact Bool.false_ne_true h
    · exact h ha
  rw [show s.mtwiStart a = _ from if_neg hgo]
  exact ⟨(State.on_setFld_p (by decide) (by decide)).trans (State.on_one (by decide) (by decide)), State.on_one (by decide) (by decide), rfl,
    regsKept_two fun c h1 h2 => (State.setFld_same h2).step (State.setFld_same h1)⟩

/-! ### Register commands (R589, R590) -/

theorem State.mtwiReg_busy {s : State} (h : s.on Pg.MTWI Fd.MTWI_STAT_BUSY = true) (ofs : Nat) (data : List Byte) (rd : Nat) :
    ∃ x : State, s.mtwiReg ofs data rd = x.mtwiStop := ⟨_, if_neg (by rw [h]; exact Bool.false_ne_true)⟩

theorem State.mtwiReg_bad {s : State} (h : s.on Pg.MTWI Fd.MTWI_STAT_BUSY = true) {ofs : Nat} (data : List Byte) (rd : Nat) (ho : ofs % 4 ≠ 0) :
    s.mtwiReg ofs data rd = s.mtwiBad.mtwiStop :=
  (if_neg (by rw [h]; exact Bool.false_ne_true)).trans (congrArg State.mtwiStop (if_pos ho))

/-- A read of four bytes that nothing is written before. -/
theorem State.mtwiReg_read {s : State} (h : s.on Pg.MTWI Fd.MTWI_STAT_BUSY = true) {ofs : Nat} (ho : ofs % 4 = 0) :
    s.mtwiReg ofs [] 4 = (((s.mtwiPtr ofs).mtwiRead ofs 1).1.emit (.twoWire Pg.MTWI ((wordBytes ((s.mtwiPtr ofs).mtwiRead ofs 1).2).take 4))).mtwiStop :=
  (if_neg (by rw [h]; exact Bool.false_ne_true)).trans (congrArg State.mtwiStop (if_neg (by omega)))

/-- A write of bytes that no read follows. -/
theorem State.mtwiReg_write {s : State} (h : s.on Pg.MTWI Fd.MTWI_STAT_BUSY = true) {ofs : Nat} (data : List Byte) (ho : ofs % 4 = 0) :
    s.mtwiReg ofs data 0 = ((s.mtwiPtr ofs).mtwiWrite ofs data).1.mtwiStop :=
  (if_neg (by rw [h]; exact Bool.false_ne_true)).trans (congrArg State.mtwiStop (if_neg (by omega)))

/-- The words of one access: the page exists and the word is refused. -/
theorem State.mtwiWrite_refused {s : State} {a : Nat} {b0 b1 b2 b3 : Byte} (hp : (pageAt (a / 4096)).isSome = true)
    (hr : s.refuses .mgmt a (BitVec.ofNat 32 (leNat [b0, b1, b2, b3])) = true) :
    (s.mtwiWrite a [b0, b1, b2, b3]).1 = (s.writeAny .mgmt 0 a (BitVec.ofNat 32 (leNat [b0, b1, b2, b3]))).mtwiRefused := by
  unfold State.mtwiWrite
  dsimp only
  rw [if_neg (by rw [Option.isNone_iff_eq_none]; intro hn; rw [hn] at hp; exact Bool.false_ne_true hp), if_pos hr]

theorem State.mtwiWrite_taken {s : State} {a : Nat} {b0 b1 b2 b3 : Byte} (hp : (pageAt (a / 4096)).isSome = true)
    (hr : s.refuses .mgmt a (BitVec.ofNat 32 (leNat [b0, b1, b2, b3])) = false) :
    (s.mtwiWrite a [b0, b1, b2, b3]).1 =
      ((s.writeAny .mgmt 0 a (BitVec.ofNat 32 (leNat [b0, b1, b2, b3]))).bump Pg.MTWI Fd.MTWI_CNT0_b16).mtwiPtr (a + 4) := by
  unfold State.mtwiWrite
  dsimp only
  rw [if_neg (by rw [Option.isNone_iff_eq_none]; intro hn; rw [hn] at hp; exact Bool.false_ne_true hp),
    if_neg (by rw [hr]; exact Bool.false_ne_true)]
  rfl

section
variable {s : State} (hm : s.mode ≠ .boot)

theorem State.mtwiPtr_mode (s : State) (a : Nat) : (s.mtwiPtr a).mode = s.mode := State.mode_wr_page _ _ _ _ (by decide)

/-- PTR is no register of a page's header. -/
theorem State.mtwiPtr_header {p off : Nat} (s : State) (a : Nat) (h : off < 0x40) : RegSame (p * 4096 + off) s (s.mtwiPtr a) :=
  State.wr_same (by show p * 4096 + off ≠ 0x70 * 4096 + 0x050; omega)

/-- What a refusal rests on is no register of MTWI's own. -/
theorem State.mtwiPtr_refuses (s : State) (o : Owner) (a b : Nat) (w : Word) : (s.mtwiPtr b).refuses o a w = s.refuses o a w := by
  have howner : (s.mtwiPtr b).rd (a / 4096) Rg.HDR_OWNER = s.rd (a / 4096) Rg.HDR_OWNER := (s.mtwiPtr_header b (by decide)).rd
  have hpermits : (s.mtwiPtr b).permits (ownerCode o) (a / 4096) = s.permits (ownerCode o) (a / 4096) := by
    unfold State.permits State.on State.fld
    rw [howner]
  have hlock : (s.mtwiPtr b).lockHolder (a / 4096) = s.lockHolder (a / 4096) :=
    RegSame.fld (s.mtwiPtr_header b (off := Rg.HDR_LOCK) (by decide))
  have hreaches : (s.mtwiPtr b).reaches o (a / 4096) = s.reaches o (a / 4096) := by
    unfold State.reaches
    rw [s.mtwiPtr_mode]
    rfl
  have haccess : (s.mtwiPtr b).access o (a / 4096) = s.access o (a / 4096) := by
    unfold State.access
    rw [hreaches, hpermits, hlock]
  unfold State.refuses
  dsimp only
  rw [haccess, hpermits]

theorem State.viewReg_of {s t : State} {p off : Nat} (h : t.rd p off = s.rd p off) (hs : t.rdShadow p off = s.rdShadow p off) :
    t.viewReg p off = s.viewReg p off := by
  unfold State.viewReg
  rw [h, hs]

include hm

theorem State.mgmt_reaches (p : Nat) : s.reaches .mgmt p = true := decide_eq_true hm

/-- A register of a page's header, read. -/
theorem State.readAny_header {a : Nat} (hp : (pageAt (a / 4096)).isSome = true) (ha : a % 4 = 0) (ho : a % 4096 < 0x40) :
    s.readAny .mgmt a = (s.touch .mgmt (a / 4096), (s.touch .mgmt (a / 4096)).viewReg (a / 4096) (a % 4096)) := by
  obtain ⟨⟨k, n⟩, hk⟩ := Option.isSome_iff_exists.1 hp
  have ha0 : ¬a % 4 ≠ 0 := fun h => h ha
  refine (if_neg ha0).trans ((if_pos hp).trans ((if_pos (State.mgmt_reaches hm _)).trans ?_))
  unfold State.readPage
  rw [hk]
  exact if_pos ho

/-- A write of IRQ_MASK is the write of that register alone. -/
theorem State.writeAny_mask {a : Nat} (w : Word) (hp : (pageAt (a / 4096)).isSome = true) (ho : a % 4096 = Rg.HDR_IRQ_MASK) :
    s.writeAny .mgmt 0 a w = (s.touch .mgmt (a / 4096)).writeReg (a / 4096) Rg.HDR_IRQ_MASK w := by
  obtain ⟨⟨k, n⟩, hk⟩ := Option.isSome_iff_exists.1 hp
  have hmask : Rg.HDR_IRQ_MASK = 16 := rfl
  have ha0 : ¬a % 4 ≠ 0 := fun h => by omega
  refine (if_neg ha0).trans ((if_pos hp).trans ?_)
  unfold State.writePage
  rw [hk, ho]
  dsimp only
  rw [State.mgmt_reaches hm]
  rfl

end

/-- A register of a page's header, sent. -/
theorem mtwiHeaderRead {ofs : Nat} {s : State} (hb : s.on Pg.MTWI Fd.MTWI_STAT_BUSY = true) (ha : ofs % 4 = 0) (hm : s.mode ≠ .boot)
    (hp : (pageAt (ofs / 4096)).isSome = true) (ho : ofs % 4096 < 0x40) :
    (s.mtwiReg ofs [] 4).out = s.out ++ [.twoWire Pg.MTWI (leBytes 4 (s.viewReg (ofs / 4096) (ofs % 4096)).toNat)] := by
  have hm' : (s.mtwiPtr ofs).mode ≠ .boot := by rwa [s.mtwiPtr_mode]
  have hview : ((s.mtwiPtr ofs).touch .mgmt (ofs / 4096)).viewReg (ofs / 4096) (ofs % 4096) = s.viewReg (ofs / 4096) (ofs % 4096) :=
    (State.viewReg_of (State.touch_rd ..) (State.touch_rdShadow ..)).trans
      (State.viewReg_of (s.mtwiPtr_header ofs ho).rd rfl)
  have hread : ((s.mtwiPtr ofs).mtwiRead ofs 1).1.out = s.out ∧
      ((s.mtwiPtr ofs).mtwiRead ofs 1).2 = [s.viewReg (ofs / 4096) (ofs % 4096)] := by
    unfold State.mtwiRead State.mtwiRead
    rw [if_neg (by rw [Option.isNone_iff_eq_none]; intro hn; rw [hn] at hp; exact Bool.false_ne_true hp), State.readAny_header hm' hp ha ho,
      hview]
    exact ⟨State.touch_out .., rfl⟩
  rw [State.mtwiReg_read hb ha, hread.2]
  show ((s.mtwiPtr ofs).mtwiRead ofs 1).1.out ++ _ = _
  rw [hread.1]
  rfl

/-- What a write leaves in its register rests on that register and on whether it was written before. -/
theorem State.writeReg_rd_of {s t : State} {p off : Nat} (w : Word) (h : t.rd p off = s.rd p off) (hd : t.wroDone = s.wroDone) :
    (t.writeReg p off w).rd p off = (s.writeReg p off w).rd p off := by
  unfold State.writeReg
  dsimp only
  split
  · exact h
  · next r hr =>
    rw [h, hd]
    have hrd (u v : State) (x : Word) (b c : Prop) [Decidable b] [Decidable c] (m n : Tab Bool) (y z : Word) :
        (if b then (if c then u.wr p off x else { u.wr p off x with wroDone := m })
          else (if c then u.wr p off x else { u.wr p off x with wroDone := m }).wrShadow p off y).rd p off =
        (if b then (if c then v.wr p off x else { v.wr p off x with wroDone := n })
          else (if c then v.wr p off x else { v.wr p off x with wroDone := n }).wrShadow p off z).rd p off := by
      split <;> split <;> exact (State.rd_wr_same ..).trans (State.rd_wr_same ..).symm
    exact hrd ..

theorem mtwiMaskWrite {ofs : Nat} {s : State} {b0 b1 b2 b3 : Byte} (hb : s.on Pg.MTWI Fd.MTWI_STAT_BUSY = true) (hm : s.mode ≠ .boot)
    (hp : (pageAt (ofs / 4096)).isSome = true) (ho : ofs % 4096 = Rg.HDR_IRQ_MASK) :
    (s.mtwiReg ofs [b0, b1, b2, b3] 0).rd (ofs / 4096) Rg.HDR_IRQ_MASK =
      (s.writeReg (ofs / 4096) Rg.HDR_IRQ_MASK (BitVec.ofNat 32 (leNat [b0, b1, b2, b3]))).rd (ofs / 4096) Rg.HDR_IRQ_MASK := by
  have hmask : Rg.HDR_IRQ_MASK = 16 := rfl
  have hm' : (s.mtwiPtr ofs).mode ≠ .boot := by rwa [s.mtwiPtr_mode]
  have hnot : (s.mtwiPtr ofs).refuses .mgmt ofs (BitVec.ofNat 32 (leNat [b0, b1, b2, b3])) = false := by
    unfold State.refuses
    dsimp only
    rw [ho, hp]
    rfl
  rw [State.mtwiReg_write hb _ (by omega), State.mtwiWrite_taken hp hnot, State.writeAny_mask hm' _ hp ho]
  generalize BitVec.ofNat 32 (leNat [b0, b1, b2, b3]) = v
  have hplace (off : Nat) (h : 0x40 ≤ off) (h' : off < 4096) : ofs / 4096 * 4096 + Rg.HDR_IRQ_MASK ≠ Pg.MTWI * 4096 + off := by
    show ofs / 4096 * 4096 + 16 ≠ 0x70 * 4096 + off
    omega
  refine ((State.mtwiStop_same _ (hplace _ (by decide) (by decide)) (hplace _ (by decide) (by decide))).step
    ((State.wr_same (hplace _ (by decide) (by decide))).step (State.bump_same (hplace _ (by decide) (by decide))))).rd.trans ?_
  exact State.writeReg_rd_of v ((State.touch_rd ..).trans (s.mtwiPtr_header ofs (by decide)).rd) (State.touch_wroDone ..)

theorem mtwiRegisterCommandsEnd (ofs : Word) (data : List Byte) (rd : Nat) (s : State) (hb : s.on Pg.MTWI Fd.MTWI_STAT_BUSY = true) :
    ∃ t, exec (.mtwiRegCmd ofs data rd) s = .next t ∧
      (ofs.toNat % 4 ≠ 0 → t.on Pg.MTWI Fd.MTWI_STAT_BAD_CMD = true ∧ t.on Pg.MTWI Fd.MTWI_STAT_BUSY = false ∧ t.mem = s.mem ∧
        t.fifo = s.fifo ∧ pagesKept [Pg.MTWI, Pg.PCIE] s t) ∧
      (ofs.toNat % 4 = 0 ∧ s.mode ≠ .boot ∧ (pageAt (ofs.toNat / 4096)).isSome = true ∧ ofs.toNat % 4096 < 0x40 ∧ data = [] ∧ rd = 4 →
        t.out = s.out ++ [.twoWire Pg.MTWI (leBytes 4 (s.viewReg (ofs.toNat / 4096) (ofs.toNat % 4096)).toNat)] ∧
        t.on Pg.MTWI Fd.MTWI_STAT_BUSY = false) ∧
      (∀ b0 b1 b2 b3 : Byte, data = [b0, b1, b2, b3] → rd = 0 → s.mode ≠ .boot → (pageAt (ofs.toNat / 4096)).isSome = true →
        let p := ofs.toNat / 4096
        let v : Word := BitVec.ofNat 32 (leNat data)
        (ofs.toNat % 4096 = Rg.HDR_IRQ_MASK → t.rd p Rg.HDR_IRQ_MASK = (s.writeReg p Rg.HDR_IRQ_MASK v).rd p Rg.HDR_IRQ_MASK ∧
          t.on Pg.MTWI Fd.MTWI_STAT_BUSY = false) ∧
        (ofs.toNat % 4 = 0 ∧ s.refuses .mgmt ofs.toNat v = true → t.on Pg.MTWI Fd.MTWI_STAT_REFUSED = true)) := by
  have hbusy : (s.mtwiReg ofs.toNat data rd).on Pg.MTWI Fd.MTWI_STAT_BUSY = false := by
    obtain ⟨x, hx⟩ := State.mtwiReg_busy hb ofs.toNat data rd
    rw [hx]
    exact x.mtwiStop_busy
  refine ⟨s.mtwiReg ofs.toNat data rd, rfl, fun hodd => ⟨?_, hbusy, ?_⟩, fun ⟨ha, hm, hp, ho, hd, hr⟩ => ⟨?_, hbusy⟩,
    fun b0 b1 b2 b3 hd hr hm hp => ⟨fun ho => ⟨?_, hbusy⟩, fun ⟨ha, href⟩ => ?_⟩⟩
  · rw [State.mtwiReg_bad hb _ _ hodd, State.mtwiStop_on _ (by decide) (by decide)]
    exact s.mtwiBad_shows
  · rw [State.mtwiReg_bad hb _ _ hodd]
    have hwithin : Within 0x32 s s.mtwiBad.mtwiStop := (State.mtwiStop_within _).step rfl ((State.mtwiBad_within _).mono rfl)
    refine ⟨hwithin.mem_eq rfl, hwithin.fifo_eq rfl, fun a ha => ?_⟩
    rw [List.mem_cons, List.mem_singleton, not_or] at ha
    exact (State.mtwiStop_same _ (ne_of_page ha.1 (by decide)) (ne_of_page ha.1 (by decide))).step (s.mtwiBad_page ha.1 ha.2)
  · rw [hd, hr]
    exact mtwiHeaderRead hb ha hm hp ho
  · rw [hd, hr]
    exact mtwiMaskWrite hb hm hp ho
  · rw [hd] at href ⊢
    rw [hr, State.mtwiReg_write hb _ ha, State.mtwiStop_on _ (by decide) (by decide),
      State.mtwiWrite_refused hp ((s.mtwiPtr_refuses ..).trans href)]
    exact State.mtwiRefused_shows _

/-! ### Mailbox commands (R590) -/

/-- Bytes written that the receive FIFO has room for all enter it. -/
theorem State.mboxIn_fits (l : List Byte) (s : State) (h : (s.fifoOf 8).length + l.length ≤ 16) :
    (s.mboxIn l).fifoOf 8 = s.fifoOf 8 ++ l ∧ (s.mboxIn l).fifoOf 9 = s.fifoOf 9 ∧ (s.mboxIn l).out = s.out := by
  induction l generalizing s with
  | nil => exact ⟨(List.append_nil _).symm, rfl, rfl⟩
  | cons b l ih =>
    rw [List.length_cons] at h
    have hput : s.mboxIn (b :: l) = (s.setFifo 8 (s.fifoOf 8 ++ [b])).mboxIn l := by
      have hone : (s.fifoOf 8).length + [b].length ≤ fifoDepth 8 := by
        show _ + 1 ≤ 16
        omega
      refine (congrArg (State.mboxIn · l) ((if_pos ?_).trans (State.fifoPut_fits s 8 [b] hone)))
      show _ < 16
      omega
    have hfifo : (s.setFifo 8 (s.fifoOf 8 ++ [b])).fifoOf 8 = s.fifoOf 8 ++ [b] := State.fifoOf_setFifo ..
    obtain ⟨h8, h9, hout⟩ := ih (s.setFifo 8 (s.fifoOf 8 ++ [b])) (by rw [hfifo, List.length_append, List.length_singleton]; omega)
    rw [hput]
    refine ⟨?_, h9.trans (State.fifoOf_setFifo_of_ne _ _ _ _ (by decide)), hout⟩
    rw [h8, hfifo, List.append_assoc, List.singleton_append]

/-- Bytes read that the transmit FIFO has all leave it. -/
theorem State.mboxOut_has (n : Nat) (s : State) (h : n ≤ (s.fifoOf 9).length) :
    (s.mboxOut n).1.fifoOf 8 = s.fifoOf 8 ∧ (s.mboxOut n).1.fifoOf 9 = (s.fifoOf 9).drop n ∧ (s.mboxOut n).1.out = s.out ∧
      (s.mboxOut n).2 = (s.fifoOf 9).take n := by
  induction n generalizing s with
  | zero => exact ⟨rfl, rfl, rfl, rfl⟩
  | succ n ih =>
    cases hl : s.fifoOf 9 with
    | nil =>
      rw [hl] at h
      exact absurd h (Nat.not_succ_le_zero n)
    | cons b l =>
      have hget : s.mboxOut (n + 1) = (((s.setFifo 9 l).mboxOut n).1, b :: ((s.setFifo 9 l).mboxOut n).2) := by
        conv_lhs =>
          unfold State.mboxOut
        rw [hl]
      have hfifo : (s.setFifo 9 l).fifoOf 9 = l := State.fifoOf_setFifo ..
      rw [hl, List.length_cons] at h
      obtain ⟨h8, h9, hout, hgot⟩ := ih (s.setFifo 9 l) (by rw [hfifo]; omega)
      rw [hget]
      refine ⟨h8.trans (State.fifoOf_setFifo_of_ne _ _ _ _ (by decide)), ?_, hout, ?_⟩
      · rw [h9, hfifo, List.drop_succ_cons]
      · rw [hgot, hfifo, List.take_succ_cons]

/-- The state with the bytes written taken and the bytes read sent. -/
def State.mboxDone (s : State) (data : List Byte) (rd : Nat) : State :=
  if rd = 0 then s.mboxIn data else ((s.mboxIn data).mboxOut rd).1.emit (.twoWire Pg.MTWI ((s.mboxIn data).mboxOut rd).2)

theorem State.mtwiMbox_eq {s : State} (h : s.on Pg.MTWI Fd.MTWI_STAT_BUSY = true) (cmd : Nat) (data : List Byte) (rd : Nat) :
    s.mtwiMbox cmd data rd = (if cmd ≠ 2 || !s.on Pg.MTWI Fd.MTWI_CTL_MBOX_EN then s.mtwiBad else s.mboxDone data rd).mtwiStop :=
  if_neg (by rw [h]; exact Bool.false_ne_true)

theorem mtwiMailboxCommandsMoveBytes (cmd : Fin 256) (data : List Byte) (rd : Nat) (s : State) (hb : s.on Pg.MTWI Fd.MTWI_STAT_BUSY = true) :
    ∃ t, exec (.mtwiMboxCmd cmd data rd) s = .next t ∧ t.on Pg.MTWI Fd.MTWI_STAT_BUSY = false ∧
      (cmd.val = 2 ∧ s.on Pg.MTWI Fd.MTWI_CTL_MBOX_EN = true ∧ (s.fifoOf 8).length + data.length ≤ 16 ∧ rd ≤ (s.fifoOf 9).length →
        t.fifoOf 8 = s.fifoOf 8 ++ data ∧ t.fifoOf 9 = (s.fifoOf 9).drop rd ∧
        t.out = s.out ++ (if rd = 0 then [] else [.twoWire Pg.MTWI ((s.fifoOf 9).take rd)])) ∧
      (cmd.val ≠ 2 ∨ s.on Pg.MTWI Fd.MTWI_CTL_MBOX_EN = false → t.fifo = s.fifo ∧ t.on Pg.MTWI Fd.MTWI_STAT_BAD_CMD = true) := by
  refine ⟨_, congrArg Host.Outcome.next (State.mtwiMbox_eq hb cmd data rd), State.mtwiStop_busy _, fun ⟨hc, hen, hfit, hrd⟩ => ?_, fun hno => ?_⟩
  · have hgo : ¬((cmd.val ≠ 2 || !s.on Pg.MTWI Fd.MTWI_CTL_MBOX_EN) = true) := by
      rw [hen, hc]
      exact Bool.false_ne_true
    obtain ⟨h8, h9, hout⟩ := State.mboxIn_fits data s hfit
    rw [if_neg hgo]
    have hstop : Within 0x2 (s.mboxDone data rd) (s.mboxDone data rd).mtwiStop := State.mtwiStop_within _
    rw [hstop.fifoOf 8 rfl, hstop.fifoOf 9 rfl, hstop.out_eq rfl]
    unfold State.mboxDone
    split
    · next h0 =>
      rw [h0, List.drop_zero, List.append_nil]
      exact ⟨h8, h9, hout⟩
    · obtain ⟨k8, k9, kout, kgot⟩ := State.mboxOut_has rd (s.mboxIn data) (by rwa [h9])
      rw [State.emit_out, kout, kgot, h9, hout]
      exact ⟨k8.trans h8, k9.trans (congrArg _ h9), rfl⟩
  · have hgo : (cmd.val ≠ 2 || !s.on Pg.MTWI Fd.MTWI_CTL_MBOX_EN) = true := by
      rcases hno with h | h
      · rw [decide_eq_true h]
        rfl
      · rw [h]
        exact Bool.or_true _
    rw [if_pos hgo]
    exact ⟨((State.mtwiStop_within _).fifo_eq rfl).trans ((State.mtwiBad_within _).fifo_eq rfl),
      (State.mtwiStop_on _ (by decide) (by decide)).trans s.mtwiBad_shows⟩

/-! ### Timeouts (R586) -/

/-- The state with the FIFOs emptied and the timeout shown and counted. -/
def State.mtwiTimedOut (s : State) : State :=
  (((((s.setFifo 8 []).setFifo 9 []).setFld Pg.MTWI Fd.MTWI_STAT_BUSY 0).flag Pg.MTWI Fd.MTWI_STAT_TIMEOUT).bump Pg.MTWI
    ⟨Rg.MTWI_CNT1, 8, 8⟩).irq Pg.MTWI 2

theorem State.mtwiTimedOut_within (s : State) : Within 0x32 ((s.setFifo 8 []).setFifo 9 []) s.mtwiTimedOut :=
  (State.irq_within ..).step rfl ((State.bump_within ..).step rfl ((State.flag_within ..).step rfl ((State.setFld_within ..).mono rfl)))

theorem State.mtwiTimedOut_shows (s : State) : s.mtwiTimedOut.on Pg.MTWI Fd.MTWI_STAT_TIMEOUT = true := by
  unfold State.mtwiTimedOut
  rw [State.on_irq_p (by decide) (by decide), State.on_bump_p (by decide) (by decide)]
  exact State.on_flag_self (by decide) (by decide) (by decide) (by decide)

theorem mtwiTimeoutsEmptyTheFifos (s : State) (hm : s.mode ≠ .boot) (hen : s.blockOn Pg.MTWI Fd.MTWI_CTL_EN = true) :
    ∃ t, exec (.sclStretchTimeout 4) s = .next t ∧ t.fifoOf 8 = [] ∧ t.fifoOf 9 = [] ∧ t.on Pg.MTWI Fd.MTWI_STAT_TIMEOUT = true := by
  have hon : (s.blockOn Pg.MTWI Fd.MTWI_CTL_EN && decide (s.mode ≠ .boot)) = true := by
    rw [hen, decide_eq_true hm]
    rfl
  refine ⟨s.mtwiTimedOut.logErr Er.TWI_TIMEOUT Pg.MTWI Pg.MTWI, congrArg Host.Outcome.next (if_pos hon), ?_⟩
  have hshown : Within 0x410000033 ((s.setFifo 8 []).setFifo 9 []) (s.mtwiTimedOut.logErr Er.TWI_TIMEOUT Pg.MTWI Pg.MTWI) :=
    (State.logMinor_within (by decide)).step rfl (s.mtwiTimedOut_within.mono rfl)
  refine ⟨?_, ?_, ?_⟩
  · rw [hshown.fifoOf 8 rfl, State.fifoOf_setFifo_of_ne _ _ _ _ (by decide), State.fifoOf_setFifo]
  · rw [hshown.fifoOf 9 rfl, State.fifoOf_setFifo]
  · rw [State.on_logMinor_p (by decide) (by decide) (by decide) (by decide) (by decide), s.mtwiTimedOut_shows]

/-- Settles O18: one lemma per command; a register command by what it reads or writes. -/
theorem managementTargetAnswers : Obligations.ManagementTargetAnswers :=
  ⟨mtwiAddressStartsATransaction, mtwiRegisterCommandsEnd, mtwiMailboxCommandsMoveBytes, mtwiTimeoutsEmptyTheFifos⟩

end Sys2Proof.Machine
end

section
/-!
PROOFS. Ethernet ports: frames, links, ARP and echoes (O33).
-/
namespace Sys2Proof.Machine

theorem eth_page {n : Nat} (h : n < 2) : Pg.ETH n ≠ Pg.PCIE ∧ Pg.ETH n ≠ Pg.QF ∧ Pg.ETH n ≠ Pg.SUPV0 ∧ Pg.ETH n ≠ Pg.NET := by
  unfold Pg.ETH Pg.PCIE Pg.QF Pg.SUPV0 Pg.NET
  omega

/-! ### Frames (R552) -/

theorem framesAreTakenOrDropped (n : Fin 2) (f : RxFrame) (s : State) :
    ∃ t, exec (.frameRx n f) s = .next t ∧
      (s.ethUp n = false → t = s) ∧
      (s.ethUp n = true → f.fcsOk = false → t = s.bump (Pg.ETH n) Fd.ETH_RX_ERR_FCS) ∧
      (s.ethUp n = true → f.fcsOk = true → f.lenOk = false → t = s.bump (Pg.ETH n) Fd.ETH_RX_ERR_b16) ∧
      (s.ethUp n = true → f.fcsOk = true → f.lenOk = true → s.rxTakes n f = false → t = s.bump (Pg.ETH n) (whole Rg.ETH_RX_DROP)) ∧
      (s.ethUp n = true → f.fcsOk = true → f.lenOk = true → s.rxTakes n f = true →
        t.fld (Pg.ETH n) (whole Rg.ETH_RX_FRM) = satN 32 (s.fld (Pg.ETH n) (whole Rg.ETH_RX_FRM) + 1) ∧
        t.rd (Pg.ETH n) Rg.ETH_RX_DROP = s.rd (Pg.ETH n) Rg.ETH_RX_DROP ∧
        (f.type = 0x0800 ∧ f.proto = 17 → t.fld Pg.NET (whole Rg.NET_RX_DGRAM) = satN 32 (s.fld Pg.NET (whole Rg.NET_RX_DGRAM) + 1))) := by
  have hnot {b : Bool} (h : b = true) : ¬((!b) = true) := by
    rw [h]
    exact Bool.false_ne_true
  refine ⟨s.frameRx n f, rfl, fun hup => ?_, fun hup hfcs => ?_, fun hup hfcs hlen => ?_, fun hup hfcs hlen hrx => ?_, fun hup hfcs hlen hrx => ?_⟩
  · exact if_pos (by rw [hup]; rfl)
  · exact (if_neg (hnot hup)).trans (if_pos (by rw [hfcs]; rfl))
  · exact (if_neg (hnot hup)).trans ((if_neg (hnot hfcs)).trans (if_pos (by rw [hlen]; rfl)))
  · exact (if_neg (hnot hup)).trans ((if_neg (hnot hfcs)).trans ((if_neg (hnot hlen)).trans (if_neg (by rw [hrx]; exact Bool.false_ne_true))))
  · obtain ⟨x, hregs, -, hgo⟩ := State.frameRx_go hup hfcs hlen hrx
    have hplace (off : Nat) (ho : off < 4096) : Pg.ETH n * 4096 + off ≠ Pg.NET * 4096 + Rg.NET_RX_DGRAM := by
      have hpage := (eth_page n.isLt).2.2.2
      intro h
      have := congrArg (· / 4096) h
      simp only [addr_page ho, addr_page (show Rg.NET_RX_DGRAM < 4096 by decide)] at this
      exact hpage this
    have hshown (t : State) (ht : ∀ off, off < 4096 → RegSame (Pg.ETH n * 4096 + off) x t) :
        t.fld (Pg.ETH n) (whole Rg.ETH_RX_FRM) = satN 32 (s.fld (Pg.ETH n) (whole Rg.ETH_RX_FRM) + 1) ∧
          t.rd (Pg.ETH n) Rg.ETH_RX_DROP = s.rd (Pg.ETH n) Rg.ETH_RX_DROP := by
      refine ⟨?_, ?_⟩
      · rw [(ht Rg.ETH_RX_FRM (by decide)).fld (f := whole Rg.ETH_RX_FRM), State.fld_of hregs, (State.bumpBy_same (off_ne (by decide))).fld]
        exact State.fld_bump _ _ _ (by decide)
      · refine (ht Rg.ETH_RX_DROP (by decide)).rd.trans ((RegSame.of_regs hregs).rd.trans ?_)
        exact ((State.bumpBy_same (off_ne (by decide))).step (State.bump_same (off_ne (by decide)))).rd
    rw [hgo]
    split
    · have hnet : x.fld Pg.NET (whole Rg.NET_RX_DGRAM) = s.fld Pg.NET (whole Rg.NET_RX_DGRAM) := by
        rw [State.fld_of hregs, (State.bumpBy_same (hplace _ (by decide)).symm).fld, (State.bump_same (hplace _ (by decide)).symm).fld]
      obtain ⟨hfrm, hdrop⟩ := hshown (x.bump Pg.NET (whole Rg.NET_RX_DGRAM)) fun off ho => State.bump_same (hplace off ho)
      exact ⟨hfrm, hdrop, fun _ => (State.fld_bump _ _ _ (by decide)).trans (by rw [hnet])⟩
    · next hno =>
      obtain ⟨hfrm, hdrop⟩ := hshown x fun off _ => RegSame.refl _ x
      exact ⟨hfrm, hdrop, fun h => absurd h hno⟩

/-! ### Links (R582) -/

theorem ethLinksAreLost (n : Fin 2) (s : State) : ∃ t, exec (.ethLinkLost n) s = .next t ∧
    (s.on (Pg.ETH n) Fd.ETH_STAT_LINK = false → t = s) ∧
    (s.on (Pg.ETH n) Fd.ETH_STAT_LINK = true → t.on (Pg.ETH n) Fd.ETH_STAT_LINK = false ∧ t.on (Pg.ETH n) Fd.ETH_STAT_BLOCK_LOCK = false ∧
      t.on (Pg.ETH n) Fd.ETH_STAT_LINK_LOST = true) := by
  obtain ⟨hp, hq, hv, -⟩ := eth_page n.isLt
  cases hl : s.on (Pg.ETH n) Fd.ETH_STAT_LINK with
  | false =>
    refine ⟨s, congrArg Host.Outcome.next (if_neg (by rw [hl]; exact Bool.false_ne_true)), fun _ => rfl, fun h => absurd h Bool.false_ne_true⟩
  | true =>
    refine ⟨_, congrArg Host.Outcome.next (if_pos hl), fun h => absurd h.symm Bool.false_ne_true, fun _ => ⟨?_, ?_, ?_⟩⟩
    · rw [State.on_logMinor_p (by decide) hp hq hv (by decide), State.on_bump_p (by decide) (by decide),
        State.on_flag_p hp (by decide) (by decide) (by decide), State.on_setFld_p (by decide) (by decide)]
      exact State.on_zero (by decide)
    · rw [State.on_logMinor_p (by decide) hp hq hv (by decide), State.on_bump_p (by decide) (by decide),
        State.on_flag_p hp (by decide) (by decide) (by decide)]
      exact State.on_zero (by decide)
    · rw [State.on_logMinor_p (by decide) hp hq hv (by decide), State.on_bump_p (by decide) (by decide)]
      exact State.on_flag_self hp (by decide) (by decide) (by decide)

theorem ethLinksComeUp (n : Fin 2) (s : State) : ∃ t, exec (.ethLinkUp n) s = .next t ∧
    (s.blockOn (Pg.ETH n) Fd.ETH_CTL_EN = false → t = s) ∧
    (s.blockOn (Pg.ETH n) Fd.ETH_CTL_EN = true → t.on (Pg.ETH n) Fd.ETH_STAT_LINK = true ∧ t.on (Pg.ETH n) Fd.ETH_STAT_BLOCK_LOCK = true ∧
      regsKept [Pg.ETH n * 4096 + Rg.ETH_STAT] s t) := by
  cases hen : s.blockOn (Pg.ETH n) Fd.ETH_CTL_EN with
  | false => exact ⟨s, congrArg Host.Outcome.next (if_neg (by rw [hen]; exact Bool.false_ne_true)), fun _ => rfl, fun h => absurd h Bool.false_ne_true⟩
  | true =>
    refine ⟨_, congrArg Host.Outcome.next (if_pos hen), fun h => absurd h.symm Bool.false_ne_true, fun _ => ⟨?_, ?_, ?_⟩⟩
    · exact (State.on_setFld_p (by decide) (by decide)).trans (State.on_one (by decide) (by decide))
    · exact State.on_one (by decide) (by decide)
    · exact regsKept_one fun b hb => (State.setFld_same hb).step (State.setFld_same hb)

/-! ### ARP (R555) -/

/-- An entry put where there was none is the one of its port and address. -/
theorem State.arpOf_setArp_new {s : State} {n ip : Nat} {e : ArpEntry} (h : s.arpOf n ip = none) (hp : e.port = n) (hi : e.ip = ip) :
    (s.setArp n ip (some e)).arpOf n ip = some e := by
  have hany : (s.net.arp.any fun x => x.port == n && x.ip == ip) = false := by
    rw [List.any_eq_false]
    exact fun x hx => List.find?_eq_none.1 h x hx
  have harp : (s.setArp n ip (some e)).net.arp = s.net.arp ++ [e] := if_neg (by rw [hany]; exact Bool.false_ne_true)
  have hfind : s.net.arp.find? (fun x => x.port == n && x.ip == ip) = none := h
  unfold State.arpOf
  rw [harp, List.find?_append, hfind, Option.none_or, List.find?_singleton, hp, hi, beq_self_eq_true, beq_self_eq_true]
  rfl

theorem State.arpOf_put {s : State} {n ip : Nat} (e : ArpEntry) (hp : e.port = n) (hi : e.ip = ip) :
    (s.setArp n ip (some e)).arpOf n ip = some e := by
  cases h : s.arpOf n ip with
  | none => exact State.arpOf_setArp_new h hp hi
  | some e' => exact State.arpOf_setArp e h hp hi

theorem State.arpOf_of {s t : State} (h : t.net.arp = s.net.arp) (n ip : Nat) : t.arpOf n ip = s.arpOf n ip := by
  unfold State.arpOf
  rw [h]

theorem arpPacketsMakeTheirSenderKnown (n : Fin 2) (m : ArpMsg) (s : State) : ∃ t, exec (.arpPacket n m) s = .next t ∧
    (s.ethUp n = true → m.tpa = s.ownIp n → s.net.arp.length < 1088 → t.arpOf n m.spa = some ⟨n, m.spa, some m.sha, none⟩ ∧
      (m.op = 1 → s.ethSends n = true → t.out = s.out ++ [.arp n 2 m.sha m.spa])) ∧
    (s.ethUp n = false ∨ (m.tpa ≠ s.ownIp n ∧ s.arpOf n m.spa = none) → t = s) := by
  refine ⟨s.arpIn n m, rfl, fun hup hmine hroom => ?_, fun hno => ?_⟩
  · have hput : (s.setArp n m.spa (some ⟨n, m.spa, some m.sha, none⟩)).arpOf n m.spa = some ⟨n, m.spa, some m.sha, none⟩ :=
      State.arpOf_put _ rfl rfl
    rw [State.arpIn_go (m := m) hup (if_pos (.inr ⟨hmine, hroom⟩)).symm]
    split
    · rw [State.arpOf_of (State.countTx_arp ..), State.countTx_out]
      exact ⟨hput, fun _ _ => rfl⟩
    · next hno => exact ⟨hput, fun hop hsend => absurd ⟨hop, hmine, hsend⟩ hno⟩
  · rcases hno with h | ⟨htpa, hnone⟩
    · exact if_pos (by rw [h]; rfl)
    · cases hup : s.ethUp n with
      | false => exact if_pos (by rw [hup]; rfl)
      | true =>
        have hunknown : ¬((s.arpOf n m.spa).isSome = true ∨ (m.tpa = s.ownIp n ∧ s.net.arp.length < 1088)) := by
          rintro (h | h)
          · rw [hnone] at h
            exact Bool.false_ne_true h
          · exact htpa h.1
        rw [State.arpIn_go (m := m) hup (if_neg hunknown).symm]
        exact if_neg fun h => htpa h.2.1

theorem arpRefreshAsksAgain {n : Fin 2} {ip : Nat} {e : ArpEntry} {s : State} (he : s.arpOf n ip = some e) :
    ∃ t, exec (.arpRefresh n ip) s = .next t ∧
      (e.mac.isSome = true → e.sent = none → t.arpOf n ip = some { e with sent := some 1 } ∧
        (s.ethSends n = true → t.out = s.out ++ [.arp n 1 0 ip])) ∧
      (e.mac = none ∨ e.sent.isSome = true → t = s) := by
  obtain ⟨hport, hip⟩ := State.arpOf_same he
  have hgo : exec (.arpRefresh n ip) s = .next (if e.mac.isSome && e.sent.isNone then
      (s.arpRequest n ip).setArp n ip (some { e with sent := some 1 }) else s) := by
    show execArpRefresh n ip s = _
    unfold execArpRefresh
    rw [he]
  refine ⟨_, hgo, fun hmac hsent => ?_, fun hno => ?_⟩
  · rw [if_pos (by rw [hmac, hsent]; rfl)]
    exact ⟨State.arpOf_put _ hport hip, fun hsend => State.arpRequest_out ip hsend⟩
  · refine if_neg ?_
    rcases hno with h | h
    · rw [h]
      exact Bool.false_ne_true
    · rw [Bool.and_eq_true, Option.isNone_iff_eq_none]
      rintro ⟨-, hn⟩
      rw [hn] at h
      exact Bool.false_ne_true h

theorem arpRetriesUpToTheLimit {n : Fin 2} {ip k : Nat} {e : ArpEntry} {s : State} (he : s.arpOf n ip = some e) (hk : e.sent = some k) :
    ∃ t, exec (.arpRetry n ip) s = .next t ∧
      (k ≤ s.fld (Pg.ETH n) Fd.ETH_ARP_CTL_RETRY → t.arpOf n ip = some { e with sent := some (k + 1) } ∧
        (s.ethSends n = true → t.out = s.out ++ [.arp n 1 0 ip])) ∧
      (s.fld (Pg.ETH n) Fd.ETH_ARP_CTL_RETRY < k → t.arpOf n ip = none ∧ t.out = s.out ∧
        t.fld (Pg.ETH n) Fd.ETH_ARP_CNT_b16 = satN 16 (s.fld (Pg.ETH n) Fd.ETH_ARP_CNT_b16 + 1)) := by
  obtain ⟨hport, hip⟩ := State.arpOf_same he
  have hgo : exec (.arpRetry n ip) s = .next (if k ≤ s.fld (Pg.ETH n) Fd.ETH_ARP_CTL_RETRY then
      (s.arpRequest n ip).setArp n ip (some { e with sent := some (k + 1) }) else (s.setArp n ip none).bump (Pg.ETH n) Fd.ETH_ARP_CNT_b16) := by
    show execArpRetry n ip s = _
    unfold execArpRetry
    rw [he]
    dsimp only
    rw [hk]
  refine ⟨_, hgo, fun hle => ?_, fun hlt => ?_⟩
  · rw [if_pos hle]
    exact ⟨State.arpOf_put _ hport hip, fun hsend => State.arpRequest_out ip hsend⟩
  · rw [if_neg (by omega), State.arpOf_of (congrArg (·.arp) (State.bump_net ..)), State.bump_out]
    exact ⟨State.arpOf_setArp_none .., rfl, State.fld_bump _ _ _ (by decide)⟩

/-! ### Echoes (R552) -/

/-- A frame sent is counted in two registers of its port. -/
theorem State.countTx_apart {s : State} {a n b : Nat} (h : a ≠ Pg.ETH n * 4096 + Rg.ETH_TX_FRM) (h' : a ≠ Pg.ETH n * 4096 + Rg.ETH_TX_BYTES) :
    RegSame a s (s.countTx n b) := by
  unfold State.countTx State.txBytes
  exact RegSame.step (t := (s.bump (Pg.ETH n) (whole Rg.ETH_TX_FRM)).bumpBy (Pg.ETH n) (whole Rg.ETH_TX_BYTES)
    ((tabGet (dflt 0) (s.bump (Pg.ETH n) (whole Rg.ETH_TX_FRM)).net.txRem n + b) / 4096)) (RegSame.of_regs rfl)
    ((State.bumpBy_same h').step (State.bump_same h))

/-- A request for a next hop leaves the count of echoes. -/
theorem State.arpRequest_icmp (s : State) (n ip : Nat) : (s.arpRequest n ip).rd (Pg.ETH n) Rg.ETH_ICMP_CNT = s.rd (Pg.ETH n) Rg.ETH_ICMP_CNT := by
  unfold State.arpRequest
  split
  · exact ((State.bump_same (off_ne (by decide))).step ((State.countTx_apart (off_ne (by decide)) (off_ne (by decide))).step (RegSame.of_regs rfl))).rd
  · rfl

theorem echoesAreAnswered (n : Fin 2) (ip id seq : Nat) (data : List Byte) (s : State) (hip : isGroup ip = false) :
    ∃ t, exec (.icmpEcho n ip id seq data) s = .next t ∧
      (s.ethSends n = false ∨ s.on (Pg.ETH n) Fd.ETH_IP_CTL_ICMP_EN = false → t = s) ∧
      (s.ethSends n = true → s.on (Pg.ETH n) Fd.ETH_IP_CTL_ICMP_EN = true →
        (∀ e mac, s.arpOf n (s.nextHop n ip) = some e → e.mac = some mac → t.out = s.out ++ [.echo n ip id seq data] ∧
          t.fld (Pg.ETH n) (whole Rg.ETH_ICMP_CNT) = satN 32 (s.fld (Pg.ETH n) (whole Rg.ETH_ICMP_CNT) + 1)) ∧
        (s.arpOf n (s.nextHop n ip) = none → s.net.arp.length < 1088 → t.out = s.out ++ [.arp n 1 0 (s.nextHop n ip)] ∧
          t.rd (Pg.ETH n) Rg.ETH_ICMP_CNT = s.rd (Pg.ETH n) Rg.ETH_ICMP_CNT)) := by
  refine ⟨s.echoIn n ip id seq data, rfl, fun hno => ?_, fun hsend hen => ⟨fun e mac he hmac => ?_, fun hnone hroom => ?_⟩⟩
  · refine if_neg ?_
    rcases hno with h | h
    · rw [h]
      exact Bool.false_ne_true
    · rw [h, Bool.and_false]
      exact Bool.false_ne_true
  · rw [State.echoIn_go hsend hen, State.hopMac_hit hip he, hmac]
    refine ⟨?_, ?_⟩
    · rw [State.bump_out, State.countTx_out, State.emit_out]
    · exact (State.fld_bump _ _ _ (by decide)).trans (by rw [State.fld_countTx_off _ (by decide) (by decide) (by decide), State.emit_fld])
  · rw [State.echoIn_go hsend hen, State.hopMac_miss hip hnone, if_pos hroom]
    exact ⟨State.arpRequest_out _ hsend, s.arpRequest_icmp n _⟩

/-- Settles O33: one lemma per command; an entry of the cache by what reads it back. -/
theorem ethernetPortsTakeFramesAndResolve : Obligations.EthernetPortsTakeFramesAndResolve :=
  ⟨framesAreTakenOrDropped, ethLinksAreLost, ethLinksComeUp, arpPacketsMakeTheirSenderKnown,
    fun _ _ _ _ he => ⟨arpRefreshAsksAgain he, fun _ hk => arpRetriesUpToTheLimit he hk⟩, echoesAreAnswered⟩

end Sys2Proof.Machine
end

section
/-!
PROOFS. Sessions: entries applied, datagrams placed or lost, NACKs (O34).
-/
namespace Sys2Proof.Machine

/-! ### What a frame pushed leaves of the network (R555, R561) -/

/-- Between two states only the cache of addresses and the bytes counted on the ports have changed of the network. -/
def State.NetKept (s t : State) : Prop := ∃ arp rem, t.net = { s.net with arp := arp, txRem := rem }

theorem State.NetKept.of_eq {s t : State} (h : t.net = s.net) : s.NetKept t := ⟨_, _, h⟩

theorem State.NetKept.step {s t u : State} (k : t.NetKept u) (h : s.NetKept t) : s.NetKept u := by
  obtain ⟨a, b, ht⟩ := h
  obtain ⟨c, d, hu⟩ := k
  exact ⟨c, d, by rw [hu, ht]⟩

theorem State.NetKept.sess {s t : State} (h : s.NetKept t) : t.net.sess = s.net.sess := by
  obtain ⟨a, b, ht⟩ := h
  rw [ht]

theorem State.NetKept.applies {s t : State} (h : s.NetKept t) : t.net.applies = s.net.applies := by
  obtain ⟨a, b, ht⟩ := h
  rw [ht]

theorem State.arpRequest_netKept (s : State) (n ip : Nat) : s.NetKept (s.arpRequest n ip) := by
  unfold State.arpRequest
  split
  · exact ⟨_, _, rfl⟩
  · exact .of_eq rfl

theorem State.hopMac_netKept (s : State) (n ip : Nat) : s.NetKept (s.hopMac n ip).1 := by
  cases hg : isGroup ip with
  | true =>
    rw [State.hopMac_group hg]
    exact .of_eq rfl
  | false =>
    cases he : s.arpOf n (s.nextHop n ip) with
    | some e =>
      rw [State.hopMac_hit hg he]
      exact .of_eq rfl
    | none =>
      rw [State.hopMac_miss hg he]
      split
      · exact State.NetKept.step (t := s.arpRequest n (s.nextHop n ip)) ⟨_, _, rfl⟩ (s.arpRequest_netKept ..)
      · exact .of_eq rfl

theorem State.pushFrame_netKept (s : State) (k q : Nat) (d : List Byte) : s.NetKept (s.pushFrame k q d).1 := by
  unfold State.pushFrame
  dsimp only
  split
  · exact .of_eq rfl
  · have hhop := s.hopMac_netKept (s.sePort k) (s.seIp k)
    split
    · next y hy =>
      rw [hy] at hhop
      exact hhop
    · next y mac hy =>
      rw [hy] at hhop
      have hask : (y.qRequest q 2 (frameWords (y.sessFrame k mac d)).length false).1.net = y.net := (State.qRequest_within ..).net_eq rfl
      split
      · refine State.NetKept.step (.of_eq ?_) hhop
        refine Eq.trans ?_ hask
        exact foldl_kept State.net _ (fun _ _ => (State.qPush_within ..).net_eq rfl) _ _
      · exact State.NetKept.step (.of_eq hask) hhop

/-- A datagram is placed under the session's next SEQ, or nothing of the session changes. -/
theorem State.placeDgram_places (s : State) (k kind count ofs : Nat) (last : Bool) (l : List Byte) :
    (s.placeDgram k kind count ofs last l).1.net.applies = s.net.applies ∧
    (((s.placeDgram k kind count ofs last l).2 = true ∧ ∃ h a, (s.placeDgram k kind count ofs last l).1.sess k =
        { s.sess k with count := (s.sess k).count + 1, first := false, hist := h, histAt := a }) ∨
      ((s.placeDgram k kind count ofs last l).2 = false ∧ (s.placeDgram k kind count ofs last l).1.sess k = s.sess k)) := by
  unfold State.placeDgram
  dsimp only
  have hpush := s.pushFrame_netKept k (s.sessQueue k) (leBytes 32 (wrpHeader kind k (s.sess k).seq s.time count ofs false (s.sess k).first last) ++ l)
  revert hpush
  generalize s.pushFrame k _ _ = r
  obtain ⟨y, b⟩ := r
  intro hpush
  cases b with
  | false => exact ⟨hpush.applies, .inr ⟨rfl, State.sess_of hpush.sess k⟩⟩
  | true =>
    have hhist (c : Nat) (d : List Byte) : (y.histPut k c d).net.applies = y.net.applies ∧
        ∃ h a, (y.histPut k c d).sess k = { y.sess k with hist := h, histAt := a } := by
      unfold State.histPut
      dsimp only
      refine ⟨?_, _, _, State.sess_putSess ..⟩
      show (State.dramPut (State.dramPut y _ _) _ _).net.applies = _
      rw [State.dramPut_net, State.dramPut_net]
    obtain ⟨happlies, h, a, hsess⟩ := hhist (s.sess k).count (leBytes 32 (wrpHeader kind k (s.sess k).seq s.time count ofs false (s.sess k).first last) ++ l)
    refine ⟨happlies.trans hpush.applies, .inl ⟨rfl, h, a, ?_⟩⟩
    show ((State.putSess _ k _).sess k) = _
    rw [State.sess_putSess, hsess, State.sess_of hpush.sess]

theorem State.sessLose_shows (s : State) (k recs lines : Nat) : (s.sessLose k recs lines).net.applies = s.net.applies ∧
    (s.sessLose k recs lines).sess k = { s.sess k with
      lost := some (((s.sess k).lost.getD (0, 0)).1 + recs, ((s.sess k).lost.getD (0, 0)).2 + lines)
      loss := satN 16 ((s.sess k).loss + recs + lines) } := by
  unfold State.sessLose
  dsimp only
  refine ⟨?_, ?_⟩
  · rw [State.bumpBy_net, State.bumpBy_net]
    rfl
  · rw [State.sess_of (congrArg Net.sess ((State.bumpBy_net ..).trans (State.bumpBy_net ..))), State.sess_putSess]

/-- Records placed with the GAP records owed, or lost. -/
theorem State.placeRecords_places (s : State) (k : Nat) (l : List Nat) : (s.placeRecords k l).1.net.applies = s.net.applies ∧
    ((((s.placeRecords k l).1.sess k).count = (s.sess k).count + 1 ∧ ((s.placeRecords k l).1.sess k).lost = none ∧
        ((s.placeRecords k l).1.sess k).loss = (s.sess k).loss) ∨
      (((s.placeRecords k l).1.sess k).count = (s.sess k).count ∧
        ((s.placeRecords k l).1.sess k).loss = satN 16 ((s.sess k).loss + l.length))) := by
  unfold State.placeRecords
  dsimp only
  have hplace := s.placeDgram_places k kRecords ((s.owedGaps k).length + l.length) 0 false (recBytes (s.owedGaps k ++ l))
  revert hplace
  generalize s.placeDgram k _ _ _ _ _ = r
  obtain ⟨y, b⟩ := r
  rintro ⟨happlies, ⟨hb, h, a, hsess⟩ | ⟨hb, hsess⟩⟩
  · dsimp only at hb happlies hsess
    rw [hb]
    refine ⟨?_, .inl ?_⟩
    · show (State.bumpBy _ _ _ _).net.applies = _
      rw [State.bumpBy_net]
      exact happlies
    · have hput (x : Sess) (n : Nat) : ((y.putSess k x).bumpBy Pg.NET (whole Rg.NET_GAP_CNT) n).sess k = x :=
        (State.sess_of (congrArg Net.sess (State.bumpBy_net ..)) k).trans (State.sess_putSess ..)
      rw [if_pos rfl, hput, hsess]
      exact ⟨rfl, rfl, rfl⟩
  · dsimp only at hb happlies hsess
    rw [hb]
    obtain ⟨hlose, hlost⟩ := y.sessLose_shows k l.length 0
    refine ⟨hlose.trans happlies, .inr ?_⟩
    rw [if_neg Bool.false_ne_true, hlost, hsess]
    exact ⟨rfl, rfl⟩

/-! ### DATAGRAM_FLUSH and STATUS_DATAGRAM (R562, R563, R565) -/

/-- The session with its open datagram taken. -/
def State.fillTaken (s : State) (k : Nat) : State := s.putSess k { s.sess k with fill := [] }

theorem State.fillTaken_owed (s : State) (k : Nat) : ((s.fillTaken k).owedGaps k).length = (s.owedGaps k).length := by
  unfold State.fillTaken State.owedGaps
  dsimp only
  rw [State.sess_putSess]
  cases (s.sess k).restart <;> cases (s.sess k).lost <;> rfl

/-- The state before the records of an open datagram are placed: GAP records that do not fit went ahead. -/
def State.gapsAhead (s : State) (k n : Nat) : State :=
  if s.recLimit k < n + (s.owedGaps k).length then (s.placeRecords k []).1 else s

theorem State.closeFill_eq {s : State} {k : Nat} (h : (s.sess k).fill ≠ []) :
    s.closeFill k = (((s.fillTaken k).gapsAhead k (s.sess k).fill.length).placeRecords k (s.sess k).fill).1 :=
  if_neg (by rw [List.isEmpty_iff]; exact h)

theorem State.gapsAhead_applies (s : State) (k n : Nat) : (s.gapsAhead k n).net.applies = s.net.applies := by
  unfold State.gapsAhead
  split
  · exact (s.placeRecords_places k []).1
  · rfl

theorem State.closeFill_applies (s : State) (k : Nat) : (s.closeFill k).net.applies = s.net.applies := by
  by_cases h : (s.sess k).fill = []
  · rw [show s.closeFill k = s from if_pos (by rw [h]; rfl)]
  · rw [State.closeFill_eq h, (State.placeRecords_places ..).1, State.gapsAhead_applies]
    rfl

theorem State.gapsAhead_fill (s : State) (k n : Nat) : ((s.gapsAhead k n).sess k).fill = (s.sess k).fill := by
  unfold State.gapsAhead
  split
  · exact State.placeRecords_fill ..
  · rfl

theorem datagramFlushPlacesOrLoses (k : Fin 1024) (s : State) :
    let x := s.sess k
    ∃ t, exec (.datagramFlush k) s = .next t ∧ (x.fill = [] → t = s) ∧
      (x.fill ≠ [] → (t.sess k).fill = [] ∧
        (x.fill.length + (s.owedGaps k).length ≤ s.recLimit k →
          ((t.sess k).count = x.count + 1 ∧ (t.sess k).lost = none ∧ (t.sess k).loss = x.loss) ∨
          ((t.sess k).count = x.count ∧ (t.sess k).loss = satN 16 (x.loss + x.fill.length)))) := by
  intro x
  have hx : x = s.sess k := rfl
  refine ⟨s.closeFill k, rfl, fun h => if_pos (by rw [← hx, h]; rfl), fun h => ?_⟩
  have htaken : (s.fillTaken k).sess k = { x with fill := [] } := State.sess_putSess ..
  rw [State.closeFill_eq h]
  refine ⟨?_, fun hfit => ?_⟩
  · rw [State.placeRecords_fill, State.gapsAhead_fill, htaken]
  · have hroom : ¬((s.fillTaken k).recLimit k < x.fill.length + ((s.fillTaken k).owedGaps k).length) := by
      rw [s.fillTaken_owed, show (s.fillTaken k).recLimit k = s.recLimit k from rfl]
      exact Nat.not_lt.2 hfit
    rw [show (s.fillTaken k).gapsAhead k (s.sess k).fill.length = s.fillTaken k from if_neg hroom]
    obtain ⟨-, hplace⟩ := (s.fillTaken k).placeRecords_places k (s.sess k).fill
    rw [htaken] at hplace
    exact hplace

/-- A STATUS datagram placed, or counted as lost. -/
def State.statusPlaced (s : State) (k : Nat) : State :=
  if (s.placeDgram k kStatus 0 0 false (leBytes 64 s.statusBits)).2 then (s.placeDgram k kStatus 0 0 false (leBytes 64 s.statusBits)).1
  else (s.placeDgram k kStatus 0 0 false (leBytes 64 s.statusBits)).1.sessLose k 0 0

theorem State.statusOut_eq {s : State} {k : Nat} (hn : s.netOn = true) (ho : s.seOpen k = true) (ha : s.seAct k = false)
    (hg : s.owedGaps k = []) : s.statusOut k = s.statusPlaced k := by
  have hgo : (s.netOn && s.seOpen k && !s.seAct k) = true := by
    rw [hn, ho, ha]
    rfl
  have hsettle : s.settleGaps k = (s, true) := if_pos (by rw [hg]; rfl)
  refine (if_pos hgo).trans ?_
  rw [hsettle]
  rfl

theorem State.owedGaps_none {s : State} {k : Nat} (h : s.owedGaps k = []) : (s.sess k).lost = none := by
  unfold State.owedGaps at h
  obtain ⟨-, hlost⟩ := List.append_eq_nil_iff.1 h
  revert hlost
  cases (s.sess k).lost with
  | none => exact fun _ => rfl
  | some p => exact fun hlost => nomatch hlost

theorem statusDatagramsArePlacedOrLost (k : Fin 1024) (n : Nat) (s : State) :
    let x := s.sess k
    ∃ t, exec (.statusDatagram k n) s = .next t ∧
      (s.netOn = false ∨ s.seOpen k = false ∨ s.seAct k = true → t = s.atNs n) ∧
      (s.netOn = true → s.seOpen k = true → s.seAct k = false → s.owedGaps k = [] → (t.sess k).fill = x.fill ∧
        (((t.sess k).count = x.count + 1 ∧ (t.sess k).lost = none) ∨ ((t.sess k).count = x.count ∧ (t.sess k).lost = some (0, 0)))) := by
  intro x
  refine ⟨(s.atNs n).statusOut k, rfl, fun hno => if_neg ?_, fun hn ho ha hg => ?_⟩
  · show ¬((s.netOn && s.seOpen k && !s.seAct k) = true)
    rcases hno with h | h | h
    · rw [h]
      exact Bool.false_ne_true
    · rw [h, Bool.and_false]
      exact Bool.false_ne_true
    · rw [h, Bool.not_true, Bool.and_false]
      exact Bool.false_ne_true
  · have hlost : x.lost = none := State.owedGaps_none hg
    have hgaps : (s.atNs n).owedGaps k = [] := by
      have hsess : (s.atNs n).sess k = s.sess k := rfl
      have hrestart : x.restart = none := by
        unfold State.owedGaps at hg
        obtain ⟨hr, -⟩ := List.append_eq_nil_iff.1 hg
        revert hr
        show (match x.restart with | some seq => _ | none => _) = [] → _
        cases x.restart with
        | none => exact fun _ => rfl
        | some seq => exact fun hr => nomatch hr
      unfold State.owedGaps
      dsimp only
      rw [hsess, hlost, hrestart]
      rfl
    obtain ⟨-, hplace⟩ := (s.atNs n).placeDgram_places k kStatus 0 0 false (leBytes 64 (s.atNs n).statusBits)
    rw [State.statusOut_eq (s := s.atNs n) hn ho ha hgaps]
    unfold State.statusPlaced
    rcases hplace with ⟨hb, h, a, hsess⟩ | ⟨hb, hsess⟩
    · rw [if_pos hb, hsess]
      exact ⟨rfl, .inl ⟨rfl, hlost⟩⟩
    · rw [if_neg (by rw [hb]; exact Bool.false_ne_true), (State.sessLose_shows ..).2, hsess]
      refine ⟨rfl, .inr ⟨rfl, ?_⟩⟩
      show some ((x.lost.getD (0, 0)).1 + 0, (x.lost.getD (0, 0)).2 + 0) = _
      rw [hlost]
      rfl

/-! ### Entries taken (R557, R558) -/

/-- The words of an entry put in force. -/
def State.entryPut (s : State) (k : Nat) (l : List Word) : State :=
  l.zipIdx.foldl (fun (s : State) (e : Word × Nat) => s.setWin (sessActiveAt k + 4 * e.2) e.1) s

theorem State.entryPut_win (s : State) (k : Nat) (l : List Word) (i : Nat) (h : i < l.length) :
    (s.entryPut k l).win (sessActiveAt k + 4 * i) = l[i] := by
  have hstep (s : State) (e : Word × Nat) (j : Nat) (_ : e.2 < l.length) (_ : True) :
      (s.setWin (sessActiveAt k + 4 * e.2) e.1).win (sessActiveAt k + 4 * j) = if j = e.2 then e.1 else s.win (sessActiveAt k + 4 * j) := by
    rw [State.win_setWin]
    exact if_congr (by omega) rfl rfl
  have hat := (foldl_zipIdx_each (m := l.length) (g := fun (s : State) j => s.win (sessActiveAt k + 4 * j))
    (f := fun (s : State) (e : Word × Nat) => s.setWin (sessActiveAt k + 4 * e.2) e.1) (P := fun _ => True) (step := fun _ x => x)
    hstep l 0 s (by rw [Nat.zero_add]) (fun _ _ => trivial)).1 i h
  rw [Nat.zero_add] at hat
  exact hat

theorem State.entryPut_net (s : State) (k : Nat) (l : List Word) : (s.entryPut k l).net = s.net :=
  foldl_kept State.net (fun (s : State) (e : Word × Nat) => s.setWin (sessActiveAt k + 4 * e.2) e.1) (fun _ _ => rfl) _ _

/-- A session that the entry closes has its open datagram placed. -/
def State.closedFirst (s : State) (k : Nat) (l : List Word) : State :=
  if s.seOpen k && nb (wordsNat l) 0 1 == 0 then s.closeFill k else s

/-- The history ring that an entry names: its place and its size. -/
def State.ringOf (s : State) (k : Nat) : Nat × Nat := (s.se k 192 64, s.se k 256 5)

/-- The history is empty where the entry moved its ring. -/
def State.ringKept (s : State) (k : Nat) (old : Nat × Nat) : State :=
  if s.ringOf k = old then s else s.putSess k { s.sess k with hist := [], histAt := 0 }

/-- A session that the entry opened begins an epoch. -/
def State.epochBegun (s : State) (k : Nat) (was boot : Bool) : State :=
  if s.seOpen k && !was then s.putSess k ((s.sess k).newEpoch (if boot then some 0 else none)) else s

theorem State.takeEntry_eq (s : State) (k : Nat) (l : List Word) (b : Bool) : s.takeEntry k l b =
    ((((s.closedFirst k l).entryPut k l).ringKept k ((s.closedFirst k l).ringOf k)).epochBegun k (s.seOpen k) b).showSessions := rfl

theorem State.closedFirst_applies (s : State) (k : Nat) (l : List Word) : (s.closedFirst k l).net.applies = s.net.applies := by
  unfold State.closedFirst
  split
  · exact s.closeFill_applies k
  · rfl

theorem State.ringKept_shows (s : State) (k : Nat) (old : Nat × Nat) :
    (s.ringKept k old).window = s.window ∧ (s.ringKept k old).net.applies = s.net.applies := by
  unfold State.ringKept
  split <;> exact ⟨rfl, rfl⟩

theorem State.epochBegun_shows (s : State) (k : Nat) (was boot : Bool) :
    (s.epochBegun k was boot).window = s.window ∧ (s.epochBegun k was boot).net.applies = s.net.applies := by
  unfold State.epochBegun
  split <;> exact ⟨rfl, rfl⟩

theorem State.takeEntry_shows (s : State) (k : Nat) (l : List Word) (b : Bool) :
    (∀ i (h : i < l.length), (s.takeEntry k l b).win (sessActiveAt k + 4 * i) = l[i]) ∧ (s.takeEntry k l b).net.applies = s.net.applies := by
  rw [State.takeEntry_eq]
  generalize hy : s.closedFirst k l = y
  obtain ⟨hring, hringNet⟩ := (y.entryPut k l).ringKept_shows k (y.ringOf k)
  obtain ⟨hepoch, hepochNet⟩ := ((y.entryPut k l).ringKept k (y.ringOf k)).epochBegun_shows k (s.seOpen k) b
  refine ⟨fun i h => ?_, ?_⟩
  · rw [← y.entryPut_win k l i h]
    exact State.win_of (((State.showSessions_within _).window_eq rfl).trans (hepoch.trans hring)) _
  · rw [(State.showSessions_within _).net_eq rfl, hepochNet, hringNet, State.entryPut_net, ← hy, s.closedFirst_applies]

theorem State.sessShadow_getElem (s : State) (k : Nat) {i : Nat} (h : i < (s.sessShadow k).length) :
    (s.sessShadow k)[i] = s.win (sessShadowAt k + 4 * i) := by
  simp only [State.sessShadow, List.getElem_map, List.getElem_range]

/-- An entry that waits for the next repeat start. -/
def State.applyWaits (s : State) (k : Nat) (l : List Word) : State :=
  ({ s with net := { s.net with applies := s.net.applies ++ [⟨k, l, s.lowView .active, s.nextLine (s.lowView .active), none⟩] } } : State).showApplies

theorem State.applyWaits_shows (s : State) (k : Nat) (l : List Word) : (s.applyWaits k l).on Pg.NET Fd.NET_SESS_STAT_APPLY_PENDING = true := by
  have hsome (a : SessApply) : (!(s.net.applies ++ [a]).isEmpty) = true := by
    cases s.net.applies <;> rfl
  unfold State.applyWaits State.showApplies
  dsimp only
  rw [hsome]
  exact State.on_setBit _ _ _ _ (by decide) (by decide)

theorem sessionsAreApplied (o : Owner) (w : Word) (s : State) (h : s.access o Pg.NET = .granted) (hw : wf w 16 1 = 1) :
    let k := wf w 0 10
    ∃ t, exec (.sessApply o w) s = .next t ∧
      (sessBad (s.sessShadow k) = true → t.on Pg.NET Fd.NET_SESS_STAT_REFUSED = true ∧
        ∀ i, i < 16 → t.win (sessActiveAt k + 4 * i) = s.win (sessActiveAt k + 4 * i)) ∧
      (sessBad (s.sessShadow k) = false → s.mode.job = false → ∀ i, i < 16 → t.win (sessActiveAt k + 4 * i) = s.win (sessShadowAt k + 4 * i)) ∧
      (sessBad (s.sessShadow k) = false → s.mode.job = true →
        t.net.applies = s.net.applies ++ [⟨k, s.sessShadow k, s.lowView .active, s.nextLine (s.lowView .active), none⟩] ∧
        t.on Pg.NET Fd.NET_SESS_STAT_APPLY_PENDING = true ∧ t.window = s.window) := by
  intro k
  have hwrite := s.touchWrite_within o Pg.NET Rg.NET_SESS_CTL w
  have hmode := State.touchWrite_mode s o (p := Pg.NET) (off := Rg.NET_SESS_CTL) w (by decide) (by decide)
  have hw0 : wf w 16 1 ≠ 0 := by omega
  refine ⟨_, congrArg Host.Outcome.next ((State.guarded_granted h).trans (if_neg hw0)), ?_⟩
  generalize (s.touch o Pg.NET).writeReg Pg.NET Rg.NET_SESS_CTL w = x at hwrite hmode
  have hshadow : x.sessShadow k = s.sessShadow k := by
    unfold State.sessShadow
    exact List.map_congr_left fun i _ => State.win_of (hwrite.window_eq rfl) _
  show (sessBad _ = true → (if sessBad (x.sessShadow k) then _ else _ : State).on _ _ = true ∧ _) ∧ _
  rw [hshadow]
  refine ⟨fun hbad => ?_, fun hgood hjob i hi => ?_, fun hgood hjob => ?_⟩
  · rw [if_pos hbad]
    refine ⟨?_, fun i hi => ?_⟩
    · refine (State.on_logMinor_p (by decide) (by decide) (by decide) (by decide) (by decide)).trans ?_
      exact State.on_flag_self (by decide) (by decide) (by decide) (by decide)
    · have hplace : sessActiveAt k + 4 * i ≠ 0x0C1000 := by show 0x3200000 + 64 * k + 4 * i ≠ _; omega
      rw [(State.logMinor_alarm _ (by decide) _ _ _ _).win _ hplace, State.flag_win _ _ _ _ hplace]
      exact State.win_of (hwrite.window_eq rfl) _
  · rw [if_neg (by rw [hgood]; exact Bool.false_ne_true), if_neg (by rw [hmode, hjob]; exact Bool.false_ne_true)]
    have hlen : i < (s.sessShadow k).length := by
      unfold State.sessShadow
      rwa [List.length_map, List.length_range]
    rw [(x.takeEntry_shows k (s.sessShadow k) _).1 i hlen]
    exact State.sessShadow_getElem s k hlen
  · rw [if_neg (by rw [hgood]; exact Bool.false_ne_true), if_pos (by rw [hmode, hjob])]
    have hlow : x.lowView .active = s.lowView .active := by
      unfold State.lowView State.enables State.jobOf
      rw [hwrite.jobA_eq rfl]
    have hnext (v : Nat) : x.nextLine v = s.nextLine v := by
      unfold State.nextLine
      rw [hwrite.tg_eq rfl]
    refine ⟨?_, x.applyWaits_shows k (s.sessShadow k), ?_⟩
    · show x.net.applies ++ [(⟨k, s.sessShadow k, x.lowView .active, x.nextLine (x.lowView .active), none⟩ : SessApply)] = _
      rw [hwrite.net_eq rfl, hlow, hnext]
    · exact hwrite.window_eq rfl

theorem appliesDueAreTaken (s : State) :
    (s.dueApply = none → exec .sessApplyRepeat s = .next s) ∧
    (∀ a, s.dueApply = some a → ∃ t, exec .sessApplyRepeat s = .next t ∧ t.net.applies = s.net.applies.erase a ∧
      ∀ i (h : i < a.words.length), t.win (sessActiveAt a.sess + 4 * i) = a.words[i]) := by
  refine ⟨fun h => congrArg Host.Outcome.next ?_, fun a h => ?_⟩
  · unfold State.applyDue
    rw [h]
  · have hgo : s.applyDue = (State.takeEntry { s with net := { s.net with applies := s.net.applies.erase a } } a.sess a.words false).showApplies := by
      unfold State.applyDue
      rw [h]
    obtain ⟨hwords, happlies⟩ := State.takeEntry_shows { s with net := { s.net with applies := s.net.applies.erase a } } a.sess a.words false
    exact ⟨_, congrArg Host.Outcome.next hgo, happlies, hwords⟩

/-! ### NACKs (R564) -/

theorem State.resend_sess (s : State) (k : Nat) (d : List Byte) : (s.resend k d).net.sess = s.net.sess := by
  unfold State.resend
  dsimp only
  split
  · rw [State.bump_net, (s.pushFrame_netKept ..).sess]
  · exact (s.pushFrame_netKept ..).sess

theorem State.historyGap_sess (s : State) (k : Nat) (gap : Option Nat) (c : Nat) : (s.historyGap k gap c).net.sess = s.net.sess := by
  unfold State.historyGap
  cases gap with
  | none => rfl
  | some g =>
    dsimp only
    split
    · rw [State.bump_net, State.bump_net, (s.pushFrame_netKept ..).sess]
    · exact (s.pushFrame_netKept ..).sess

/-- What is sent again changes no session. -/
theorem State.resendRange_sess (k hi n : Nat) : ∀ (s : State) (c : Nat) (gap : Option Nat), (s.resendRange k hi n c gap).net.sess = s.net.sess := by
  induction n with
  | zero => exact fun s c gap => s.historyGap_sess k gap hi
  | succ n ih =>
    intro s c gap
    unfold State.resendRange
    split
    · rw [ih, State.resend_sess, State.historyGap_sess]
    · exact ih ..

/-- The NACKs of a session in the second that runs. -/
def State.nacksIn (s : State) (k sec : Nat) : Nat := if (s.sess k).nackAt = sec then (s.sess k).nackIn else 0

/-- The session with one more NACK counted. -/
def State.nackCounted (s : State) (k : Nat) : State :=
  (s.putSess k { s.sess k with
    nackAt := s.rawNs / 10 ^ 9
    nackIn := s.nacksIn k (s.rawNs / 10 ^ 9) + 1
    nacks := satN 16 ((s.sess k).nacks + 1) }).bump Pg.NET Fd.NET_NACK_CNT_b0

/-- Whether a NACK is one that its session takes. -/
def State.nackTaken (s : State) (k ip udp seq count : Nat) : Bool :=
  let from_ := if s.se k 3 1 = 1 then s.inSubnet (s.sePort k) ip else s.seIp k == ip && s.se k 64 16 == udp
  s.seOpen k && from_ && seq / 2 ^ 48 == (s.sess k).epoch && decide (s.nacksIn k (s.rawNs / 10 ^ 9) < 1000) && decide (1 ≤ count) && decide (count ≤ 64)

theorem State.nackIn_eq (s : State) (n ip udp k seq count : Nat) (h : (s.netOn && s.ethUp n) = true) : s.nackIn n ip udp k seq count =
    if s.nackTaken k ip udp seq count then (s.nackCounted k).resendRange k (Nat.min (seq % 2 ^ 48 + count) (s.sess k).count)
      (Nat.min (seq % 2 ^ 48 + count) (s.sess k).count - seq % 2 ^ 48) (seq % 2 ^ 48) none
    else s.bump Pg.NET Fd.NET_NACK_CNT_b16 := if_neg (by rw [h]; exact Bool.false_ne_true)

theorem State.nackCounted_sess (s : State) (k : Nat) : (s.nackCounted k).sess k = { s.sess k with
    nackAt := s.rawNs / 10 ^ 9
    nackIn := s.nacksIn k (s.rawNs / 10 ^ 9) + 1
    nacks := satN 16 ((s.sess k).nacks + 1) } := by
  unfold State.nackCounted
  rw [State.sess_of (congrArg Net.sess (State.bump_net ..)), State.sess_putSess]

theorem nacksAreCounted (n : Fin 2) (ip udp : Nat) (k : Fin 1024) (seq count at_ : Nat) (s : State) :
    let y := s.atNs at_
    let x := s.sess k
    let sec := y.rawNs / 10 ^ 9
    let inSec := if x.nackAt = sec then x.nackIn else 0
    let from_ := if s.se k 3 1 = 1 then s.inSubnet (s.sePort k) ip = true else s.seIp k = ip ∧ s.se k 64 16 = udp
    let good := s.seOpen k = true ∧ from_ ∧ seq / 2 ^ 48 = x.epoch ∧ inSec < 1000 ∧ 1 ≤ count ∧ count ≤ 64
    ∃ t, exec (.wrpNack n ip udp k seq count at_) s = .next t ∧
      (s.netOn = false ∨ s.ethUp n = false → t = y) ∧
      (s.netOn = true → s.ethUp n = true → good → (t.sess k).nacks = satN 16 (x.nacks + 1) ∧ (t.sess k).nackAt = sec ∧
        (t.sess k).nackIn = inSec + 1 ∧ (t.sess k).count = x.count) ∧
      (s.netOn = true → s.ethUp n = true → ¬good → t = y.bump Pg.NET Fd.NET_NACK_CNT_b16) := by
  intro y x sec inSec from_ good
  have hon : (y.netOn && y.ethUp n) = (s.netOn && s.ethUp n) := rfl
  have htaken : y.nackTaken k ip udp seq count = true ↔ good := by
    have hfrom : (if y.se k 3 1 = 1 then y.inSubnet (y.sePort k) ip else y.seIp k == ip && y.se k 64 16 == udp) = true ↔ from_ := by
      show (if s.se k 3 1 = 1 then s.inSubnet (s.sePort k) ip else s.seIp k == ip && s.se k 64 16 == udp) = true ↔
        if s.se k 3 1 = 1 then s.inSubnet (s.sePort k) ip = true else s.seIp k = ip ∧ s.se k 64 16 = udp
      split
      · exact Iff.rfl
      · rw [Bool.and_eq_true, beq_iff_eq, beq_iff_eq]
    show (s.seOpen k && _ && seq / 2 ^ 48 == x.epoch && decide (inSec < 1000) && decide (1 ≤ count) && decide (count ≤ 64)) = true ↔ _
    rw [Bool.and_eq_true, Bool.and_eq_true, Bool.and_eq_true, Bool.and_eq_true, Bool.and_eq_true, hfrom, beq_iff_eq, decide_eq_true_iff,
      decide_eq_true_iff, decide_eq_true_iff, and_assoc, and_assoc, and_assoc, and_assoc]
  refine ⟨y.nackIn n ip udp k seq count, rfl, fun hno => if_pos ?_, fun hn hu hgood => ?_, fun hn hu hbad => ?_⟩
  · rw [hon]
    rcases hno with h | h
    · rw [h]
      rfl
    · rw [h, Bool.and_false]
      rfl
  · rw [y.nackIn_eq _ _ _ _ _ _ (by rw [hon, hn, hu]; rfl), if_pos (htaken.2 hgood), State.sess_of (State.resendRange_sess ..),
      y.nackCounted_sess]
    exact ⟨rfl, rfl, rfl, rfl⟩
  · rw [y.nackIn_eq _ _ _ _ _ _ (by rw [hon, hn, hu]; rfl), if_neg fun h => hbad (htaken.1 h)]

/-- Settles O34: one lemma per command; `State.NetKept` says once what a frame pushed leaves of the network. -/
theorem sessionsAreAppliedFlushedAndServed : Obligations.SessionsAreAppliedFlushedAndServed :=
  ⟨sessionsAreApplied, appliesDueAreTaken, datagramFlushPlacesOrLoses, statusDatagramsArePlacedOrLost, nacksAreCounted⟩

end Sys2Proof.Machine
end

section
/-!
PROOFS. FAULT_CLR, the reads of the log and of commit records, pins and clock locks (O38).
-/
namespace Sys2Proof.Machine

/-! ### FAULT_CLR and LOG_ACK (R607, R608) -/

theorem faultCtlDef : ∃ r, regDefAt (Pg.SUPV0 * 4096 + Rg.SUPV0_FAULT_CTL) = some r ∧ r.wro = 0 ∧ r.rws = 0 ∧ r.w1c = 0 ∧
    ∀ i, i < Fd.SUPV0_FAULT_CTL_FATAL_EN.len → r.rw.getLsbD (Fd.SUPV0_FAULT_CTL_FATAL_EN.lo + i) = true :=
  ⟨_, rfl, by decide, by decide, by decide, by decide⟩

theorem faultsAreCleared (o : Owner) (w : Word) (s : State) (h : s.access o Pg.SUPV0 = .granted) (hw : wf w 2 1 = 1) :
    let fatal := s.mode = .hold ∧ s.fld Pg.SYS Fd.SYS_MODE_HOLD_ENTRY ≠ 0xFF
    ∃ t, exec (.faultClr o w) s = .next t ∧ t.fld Pg.SUPV0 Fd.SUPV0_FAULT_CTL_FATAL_EN = wf w 1 1 ∧
      (¬fatal → t.rd Pg.SUPV0 Rg.SUPV0_FAULT_STAT = 0) ∧ (fatal → t.rd Pg.SUPV0 Rg.SUPV0_FAULT_STAT = s.rd Pg.SUPV0 Rg.SUPV0_FAULT_STAT) ∧
      regsKept [Pg.SUPV0 * 4096 + Rg.SUPV0_FAULT_CTL, Pg.SUPV0 * 4096 + Rg.SUPV0_FAULT_STAT] s t := by
  intro fatal
  generalize hx : (s.touch o Pg.SUPV0).writeReg Pg.SUPV0 Rg.SUPV0_FAULT_CTL w = x
  have hsame {a : Nat} (ha : a ≠ Pg.SUPV0 * 4096 + Rg.SUPV0_FAULT_CTL) : RegSame a s x := by
    rw [← hx]
    exact (State.writeReg_same ha).step (.of_regs (State.touch_regs ..))
  have hen : x.fld Pg.SUPV0 Fd.SUPV0_FAULT_CTL_FATAL_EN = wf w 1 1 := by
    obtain ⟨r, hdef, hwro, hrws, hw1c, hmask⟩ := faultCtlDef
    rw [← hx]
    exact State.fld_writeReg _ _ _ _ _ r hdef hwro hrws hw1c rfl hmask
  have hfatal : (x.mode = .hold ∧ x.fld Pg.SYS Fd.SYS_MODE_HOLD_ENTRY ≠ 0xFF) ↔ fatal := by
    rw [State.mode_of_regs (hsame (by decide)), RegSame.fld (hsame (by decide))]
  have hgo : exec (.faultClr o w) s = .next (if wf w 2 1 = 0 ∨ (x.mode = .hold ∧ x.fld Pg.SYS Fd.SYS_MODE_HOLD_ENTRY ≠ 0xFF) then x
      else x.wr Pg.SUPV0 Rg.SUPV0_FAULT_STAT 0) := by
    rw [← hx]
    exact congrArg Host.Outcome.next (State.guarded_granted h)
  have hw0 : wf w 2 1 ≠ 0 := by omega
  by_cases hf : fatal
  · rw [if_pos (.inr (hfatal.2 hf))] at hgo
    exact ⟨x, hgo, hen, fun hn => absurd hf hn, fun _ => RegSame.rd (hsame (by decide)), regsKept_two fun _ ha _ => hsame ha⟩
  · rw [if_neg fun hor => hor.elim hw0 fun hx => hf (hfatal.1 hx)] at hgo
    refine ⟨_, hgo, ?_, fun _ => State.rd_wr_same .., fun hy => absurd hy hf, regsKept_two fun _ ha hb => (State.wr_same hb).step (hsame ha)⟩
    exact (State.fld_wr_p (by decide)).trans hen

theorem logAckIsStored (o : Owner) (w : Word) (s : State) (h : s.access o Pg.SUPV0 = .granted) :
    ∃ t, exec (.logAckWrite o w) s = .next t ∧ t.rd Pg.SUPV0 Rg.SUPV0_LOG_ACK = w ∧ regsKept [Pg.SUPV0 * 4096 + Rg.SUPV0_LOG_ACK] s t := by
  refine ⟨_, congrArg Host.Outcome.next (State.guarded_granted h), ?_,
    regsKept_one fun _ ha => (State.writeReg_same ha).step (.of_regs (State.touch_regs ..))⟩
  rw [State.writeReg_rw _ _ _ _ _ logAckDef rfl rfl rfl, State.rd_wr_same]
  show (_ &&& ~~~BitVec.allOnes 32) ||| (w &&& BitVec.allOnes 32) = w
  rw [BitVec.and_allOnes, BitVec.not_allOnes, BitVec.and_zero, BitVec.zero_or]

/-! ### The log and the commit records read (R620, R670) -/

theorem logWordsAreLatched (o : Owner) (s : State) :
    ∃ t, exec (.logData0Read o) s = .next t ∧ (s.reaches o Pg.SUPV0 = false → t = s) ∧
      (s.reaches o Pg.SUPV0 = true → t.logLatch = (List.range 7).map (fun i => s.logWord (i + 1)) ∧ t.regs = s.regs ∧
        t.out = s.out ++ [.readData (ownerCode o) (Pg.SUPV0 * 4096 + Rg.SUPV0_LOG_DATA 0) (s.logWord 0)]) := by
  cases hr : s.reaches o Pg.SUPV0 with
  | false => exact ⟨s, if_neg (by rw [hr]; exact Bool.false_ne_true), fun _ => rfl, fun h => nomatch h⟩
  | true =>
    refine ⟨_, if_pos hr, (fun h => nomatch h), fun _ => ⟨?_, State.touch_regs .., ?_⟩⟩
    · exact List.map_congr_left fun i _ => State.logWord_touch ..
    · show (s.touch o Pg.SUPV0).out ++ [.readData _ _ ((s.touch o Pg.SUPV0).logWord 0)] = _
      rw [State.touch_out, State.logWord_touch]

theorem commitRecordsAreLatched (o : Owner) (s : State) :
    let n := (s.cmtSel.bind (·.line)).getD 0
    ∃ t, exec (.cmtLineLoRead o) s = .next t ∧ (s.reaches o Pg.SYS = false → t = s) ∧
      (s.reaches o Pg.SYS = true → t.rd Pg.SYS Rg.SYS_CMT_LINE_HI = BitVec.ofNat 32 (n / 2 ^ 32) ∧ t.rd Pg.SYS Rg.SYS_CMT_STAT = cmtStat s.cmtSel ∧
        t.out = s.out ++ [.readData (ownerCode o) (Pg.SYS * 4096 + Rg.SYS_CMT_LINE_LO) (BitVec.ofNat 32 n)] ∧
        regsKept [Pg.SYS * 4096 + Rg.SYS_CMT_LINE_HI, Pg.SYS * 4096 + Rg.SYS_CMT_STAT] s t) := by
  intro n
  cases hr : s.reaches o Pg.SYS with
  | false => exact ⟨s, if_neg (by rw [hr]; exact Bool.false_ne_true), fun _ => rfl, fun h => nomatch h⟩
  | true =>
    have hsel : (s.touch o Pg.SYS).cmtSel = s.cmtSel := State.cmtSel_touch ..
    refine ⟨_, if_pos hr, (fun h => nomatch h), fun _ => ⟨?_, ?_, ?_, regsKept_two fun _ ha hb =>
      (State.wr_same hb).step ((State.wr_same ha).step (.of_regs (State.touch_regs ..)))⟩⟩
    · show ((State.wr (State.wr _ _ _ (BitVec.ofNat 32 (((s.touch o Pg.SYS).cmtSel.bind (·.line)).getD 0 / 2 ^ 32))) _ _ _).rd _ _) = _
      rw [hsel, State.rd_wr_of_ne _ _ _ _ _ _ (by decide), State.rd_wr_same]
    · show ((State.wr _ _ _ (cmtStat (s.touch o Pg.SYS).cmtSel)).rd _ _) = _
      rw [hsel, State.rd_wr_same]
    · show (s.touch o Pg.SYS).out ++ [.readData _ _ (BitVec.ofNat 32 (((s.touch o Pg.SYS).cmtSel.bind (·.line)).getD 0))] = _
      rw [hsel, State.touch_out]

/-! ### Pins (R696, R697) -/

/-- The pins of a bank: PULSE0 to PULSE23, or EVIO0 to EVIO15. -/
def pinMask (b : Nat) : Word := if b = 0 then 0x00FFFFFF else 0x0000FFFF

theorem pinManDef : ∀ b : Fin 2, regDefAt (pinPage b * 4096 + pinMan b) = some ⟨0x064, 0, pinMask b, 0, 0, 0, 0⟩ := by decide

theorem pinGuardDef : ∀ b : Fin 2, regDefAt (pinPage b * 4096 + pinGuard b) = some ⟨0x048, 0, pinMask b, 0, 0, 0, 0⟩ := by decide

theorem pinMask_low : ∀ b : Fin 2, ∀ i, i < 16 → (pinMask b).getLsbD (0 + i) = true := by decide

theorem pinRegDef (b : Fin 2) (off : Nat) (h : off = pinMan b ∨ off = pinGuard b) :
    ∃ place, regDefAt (pinPage b * 4096 + off) = some ⟨place, 0, pinMask b, 0, 0, 0, 0⟩ := by
  rcases h with rfl | rfl
  · exact ⟨_, pinManDef b⟩
  · exact ⟨_, pinGuardDef b⟩

/-- A word taken by MAN_EN or GUARD of a bank, behind the touch of its page. -/
theorem pinRegTaken (o : Owner) (b : Fin 2) (w : Word) (s : State) {off : Nat} (h : off = pinMan b ∨ off = pinGuard b) :
    ((s.touch o (pinPage b)).writeReg (pinPage b) off w).fld (pinPage b) ⟨off, 0, 16⟩ = wf w 0 16 ∧
      regsKept [pinPage b * 4096 + off] s ((s.touch o (pinPage b)).writeReg (pinPage b) off w) := by
  obtain ⟨_, hdef⟩ := pinRegDef b off h
  exact ⟨State.fld_writeReg _ _ _ _ ⟨off, 0, 16⟩ _ hdef rfl rfl rfl rfl (pinMask_low b),
    regsKept_one fun _ ha => (State.writeReg_same ha).step (.of_regs (State.touch_regs ..))⟩

/-- A word refused: only its flag of PIN_STAT shows. -/
theorem pinRegRefused (o : Owner) (b : Fin 2) (k : Nat) (s : State) {off : Nat} (h : off = pinMan b ∨ off = pinGuard b) (hk : k < 32) :
    ((s.touch o (pinPage b)).pinFlag b k).rd (pinPage b) off = s.rd (pinPage b) off ∧
      ((s.touch o (pinPage b)).pinFlag b k).on (pinPage b) ⟨Rg.PINS0_PIN_STAT, k, 1⟩ = true := by
  have hplain : off ≠ Rg.PINS0_PIN_STAT ∧ plainAt off := by
    rcases h with rfl | rfl
    · unfold pinMan
      split <;> decide
    · unfold pinGuard
      split <;> decide
  exact ⟨(State.pinFlag_rd _ _ _ hplain.1 hplain.2).trans (State.touch_rd ..), State.pinFlag_flag _ _ _ hk⟩

theorem manEnIsTakenOrRefused (o : Owner) (b : Fin 2) (w : Word) (s : State) (h : s.access o (pinPage b) = .granted) :
    ∃ t, exec (.manEnWrite o b w) s = .next t ∧
      (s.mode = .idle ∨ s.mode = .setup → t.fld (pinPage b) ⟨pinMan b, 0, 16⟩ = wf w 0 16 ∧ regsKept [pinPage b * 4096 + pinMan b] s t) ∧
      (s.mode ≠ .idle ∧ s.mode ≠ .setup → t.rd (pinPage b) (pinMan b) = s.rd (pinPage b) (pinMan b) ∧
        t.on (pinPage b) ⟨Rg.PINS0_PIN_STAT, 1, 1⟩ = true) := by
  have hmode : (s.touch o (pinPage b)).mode = s.mode := State.touch_mode ..
  have hgo := State.guarded_granted (f := (·.manEn b w)) (off := pinMan b) h
  by_cases hm : s.mode = .idle ∨ s.mode = .setup
  · exact ⟨_, congrArg Host.Outcome.next (hgo.trans (if_pos (by rw [hmode]; exact hm))), fun _ => pinRegTaken o b w s (.inl rfl),
      fun hn => absurd hm (not_or.2 hn)⟩
  · exact ⟨_, congrArg Host.Outcome.next (hgo.trans (if_neg (by rw [hmode]; exact hm))), fun hy => absurd hy hm,
      fun _ => pinRegRefused o b 1 s (.inl rfl) (by decide)⟩

theorem guardIsTakenFromBootAlone (o : Owner) (b : Fin 2) (w : Word) (s : State) (h : s.access o (pinPage b) = .granted) :
    ∃ t, exec (.pinGuardWrite o b w) s = .next t ∧
      (o = .boot → t.fld (pinPage b) ⟨pinGuard b, 0, 16⟩ = wf w 0 16 ∧ regsKept [pinPage b * 4096 + pinGuard b] s t) ∧
      (o ≠ .boot → t.rd (pinPage b) (pinGuard b) = s.rd (pinPage b) (pinGuard b) ∧ t.on (pinPage b) ⟨Rg.PINS0_PIN_STAT, 2, 1⟩ = true) := by
  have hgo := State.guarded_granted (f := (·.guardWrite o b w)) (off := pinGuard b) h
  by_cases ho : o = .boot
  · exact ⟨_, congrArg Host.Outcome.next (hgo.trans (if_pos ho)), fun _ => pinRegTaken o b w s (.inr rfl), fun hn => absurd ho hn⟩
  · exact ⟨_, congrArg Host.Outcome.next (hgo.trans (if_neg ho)), fun hy => absurd hy ho, fun _ => pinRegRefused o b 2 s (.inr rfl) (by decide)⟩

/-! ### Clock domains (R672) -/

theorem regsKept_three {s t : State} {a b c : Nat} (h : ∀ d, d ≠ a → d ≠ b → d ≠ c → RegSame d s t) : regsKept [a, b, c] s t := fun d hd =>
  h d (fun e => hd (e ▸ List.mem_cons_self)) (fun e => hd (e ▸ List.mem_cons_of_mem _ List.mem_cons_self))
    fun e => hd (e ▸ List.mem_cons_of_mem _ (List.mem_cons_of_mem _ List.mem_cons_self))

theorem lockLossIsShown (d : Fin 40) (s : State) :
    ∃ t, exec (.clkLockLost d) s = .next t ∧ (d.val = 34 → t = s) ∧
      (d.val ≠ 34 → t.on Pg.CLK ⟨Rg.CLK_LOCK0 + 4 * (d / 32), d % 32, 1⟩ = false ∧ t.on Pg.CLK ⟨Rg.CLK_LOST0 + 4 * (d / 32), d % 32, 1⟩ = true ∧
        t.rd Pg.CLK (Rg.CLK_FREQ d) = 0 ∧
        regsKept [Pg.CLK * 4096 + Rg.CLK_LOCK0 + 4 * (d / 32), Pg.CLK * 4096 + Rg.CLK_LOST0 + 4 * (d / 32), Pg.CLK * 4096 + Rg.CLK_FREQ d] s t) := by
  by_cases hd : d.val = 34
  · exact ⟨s, congrArg Host.Outcome.next (if_pos hd), fun _ => rfl, fun hn => absurd hd hn⟩
  · have hlt : d.val / 32 < 2 := by omega
    have hbit : d.val % 32 + 1 ≤ 32 := by omega
    have hlock : Rg.CLK_LOCK0 + 4 * (d.val / 32) ≠ Rg.CLK_LOST0 + 4 * (d.val / 32) ∧ Rg.CLK_LOCK0 + 4 * (d.val / 32) ≠ Rg.CLK_FREQ d := by
      unfold Rg.CLK_FREQ
      exact ⟨by show 0x040 + _ ≠ 0x048 + _; omega, by show 0x040 + _ ≠ _; omega⟩
    have hlost : Rg.CLK_LOST0 + 4 * (d.val / 32) ≠ Rg.CLK_FREQ d := by
      unfold Rg.CLK_FREQ
      show 0x048 + _ ≠ _
      omega
    refine ⟨s.clkLost d, congrArg Host.Outcome.next (if_neg hd), fun hy => absurd hy hd,
      fun _ => ⟨?_, ?_, State.rd_wr_same .., regsKept_three fun _ h1 h2 h3 =>
      (State.wr_same h3).step ((State.setFld_same fun e => h2 (e.trans (Nat.add_assoc ..).symm)).step
        (State.setFld_same fun e => h1 (e.trans (Nat.add_assoc ..).symm)))⟩⟩
    · unfold State.clkLost
      dsimp only
      rw [State.on_wr_p hlock.2, State.on_setFld_p hbit (.inl hlock.1.symm), State.on_setFld _ _ _ _ hbit]
      rfl
    · unfold State.clkLost
      dsimp only
      rw [State.on_wr_p hlost, State.on_setFld _ _ _ _ hbit]
      rfl

/-- Settles O38: one lemma per command, assembled in the order of the statement. -/
theorem faultLogCommitAndPinRegistersAct : Obligations.FaultLogCommitAndPinRegistersAct :=
  ⟨faultsAreCleared, logAckIsStored, logWordsAreLatched, commitRecordsAreLatched, manEnIsTakenOrRefused, guardIsTakenFromBootAlone, lockLossIsShown⟩

end Sys2Proof.Machine
end

section
/-!
PROOFS. Locks taken, freed and broken; leases of stages and owners; drains (O37).
-/
namespace Sys2Proof.Machine

/-! ### LOCK_ACQUIRE and LOCK_RELEASE (R664, R665) -/

/-- A lock taken for an owner, with its time and the key slot of a NET writer. -/
def State.lockTaken (s : State) (o : Owner) (slot p : Nat) : State :=
  { s.setLock p (ownerCode o) with
    lockAt := tabPut (dflt 0) p s.raw s.lockAt
    lockKey := tabPut (dflt 0) p (if o = .net then slot else 0) s.lockKey }

theorem State.lockWrite_acquire (s : State) (o : Owner) (slot p : Nat) {w : Word} (h0 : wf w 0 1 = 1) (h1 : wf w 1 1 = 0) :
    s.lockWrite o slot p w = if !(s.touch o p).permits (ownerCode o) p then (s.touch o p).refuse o p Rg.HDR_LOCK false
      else if (s.touch o p).lockHolder p ≠ 0 then s.touch o p else (s.touch o p).lockTaken o slot p :=
  (if_neg fun h => absurd h.1 (by rw [h1]; decide)).trans (if_neg (by rw [h0]; decide))

theorem State.lockWrite_release (s : State) (o : Owner) (slot p : Nat) {w : Word} (h0 : wf w 0 1 = 0) (h1 : wf w 1 1 = 1) :
    s.lockWrite o slot p w = if s.lockHolder p = ownerCode o then (s.touch o p).setLock p 0 else s.touch o p := by
  have hgo : s.lockWrite o slot p w = if wf w 1 1 = 1 ∧ (s.touch o p).lockHolder p = ownerCode o then (s.touch o p).setLock p 0 else s.touch o p := by
    unfold State.lockWrite
    dsimp only
    rw [if_pos h0]
  rw [hgo, State.lockHolder_touch]
  exact if_congr (and_iff_right h1) rfl rfl

theorem State.touch_other {s : State} {o : Owner} {p : Nat} (h : s.lockHolder p ≠ ownerCode o) : s.touch o p = s := if_neg h

theorem ownerCode_ne_zero (o : Owner) : ownerCode o ≠ 0 := by cases o <;> decide

/-- A lock's bit follows its holder. -/
theorem State.setLock_held (s : State) (p c : Nat) : (s.setLock p c).on p Fd.HDR_LOCK_HELD = (c != 0) := by
  have hbit (t : State) : (t.setBit p Fd.HDR_LOCK_HELD (c != 0)).on p Fd.HDR_LOCK_HELD = (c != 0) := State.on_setBit _ _ _ _ (by decide) (by decide)
  unfold State.setLock
  dsimp only
  split
  · exact hbit _
  · next i hi =>
    have hlt := pageIndex_lt hi
    refine Eq.trans ?_ (hbit (s.setFld p Fd.HDR_LOCK_HOLDER c))
    exact State.on_setFld_off _ _ (by show 0x0AC + 0x4 * (i / 32) ≠ 0x018; omega) (by show 0x0AC + 0x4 * (i / 32) < 4096; omega) (by decide)

/-- A change of a lock shows in its own page and in SYS. -/
theorem State.setLock_page {s : State} {a p c : Nat} (hp : a / 4096 ≠ p) (hs : a / 4096 ≠ Pg.SYS) : RegSame a s (s.setLock p c) := by
  have hown : RegSame a s ((s.setFld p Fd.HDR_LOCK_HOLDER c).setBit p Fd.HDR_LOCK_HELD (c != 0)) :=
    RegSame.step (State.setFld_page hp (by decide)) (State.setFld_page hp (by decide))
  unfold State.setLock
  dsimp only
  split
  · exact hown
  · next i hi =>
    have hlt := pageIndex_lt hi
    exact RegSame.step (State.setFld_page hs (by show 0x0AC + 0x4 * (i / 32) < 4096; omega)) hown

theorem State.setLock_pages (s : State) (o : Owner) (p c : Nat) : pagesKept [p, Pg.SYS] s ((s.touch o p).setLock p c) := fun _ ha =>
  (State.setLock_page (fun e => ha (e ▸ List.mem_cons_self)) fun e => ha (e ▸ List.mem_cons_of_mem _ List.mem_cons_self)).step
    (.of_regs (State.touch_regs ..))

theorem State.permits_touch (s : State) (o : Owner) (p code q : Nat) : (s.touch o p).permits code q = s.permits code q := by
  unfold State.permits
  rw [State.touch_on, State.touch_on]

theorem addr_ne {p q a b : Nat} (h : a ≠ b) (ha : a < 4096) (hb : b < 4096) : p * 4096 + a ≠ q * 4096 + b := by omega

/-- What the refusal of a write of LOCK shows. -/
theorem State.refuse_lock (s : State) (o : Owner) (p : Nat) : (s.refuse o p Rg.HDR_LOCK false).lockHolder p = s.lockHolder p ∧
    (s.refuse o p Rg.HDR_LOCK false).on p Fd.HDR_PAGE_STAT_REFUSED = true ∧
    (s.refuse o p Rg.HDR_LOCK false).fld Pg.SYS (whole Rg.SYS_ACC_CNT) = satN 32 (s.fld Pg.SYS (whole Rg.SYS_ACC_CNT) + 1) := by
  unfold State.refuse
  dsimp only
  refine ⟨?_, ?_, ?_⟩
  · unfold State.lockHolder
    rw [State.fld_bump_off _ (by decide) (by decide) (by decide), State.fld_wr_of_ne _ _ _ _ _ _ (addr_ne (by decide) (by decide) (by decide)),
      State.fld_setFld_off _ _ (by decide) (by decide) (by decide)]
  · rw [State.on_bump_off _ (by decide) (by decide) (by decide), State.on_wr_of_ne _ _ _ _ _ _ (addr_ne (by decide) (by decide) (by decide)),
      State.on_one (by decide) (by decide)]
  · rw [State.fld_bump _ _ _ (by decide), State.fld_wr_p (by decide), State.fld_setFld_off _ _ (by decide) (by decide) (by decide)]

theorem locksAreAcquired (o : Owner) (p : Fin 128) (w : Word) (s : State) (hr : s.reaches o p = true) (hp : (pageAt p).isSome = true)
    (h0 : wf w 0 1 = 1) (h1 : wf w 1 1 = 0) :
    ∃ t, exec (.lockAcquire o p w) s = .next t ∧
      (s.permits (ownerCode o) p = true → s.lockHolder p = 0 → t.lockHolder p = ownerCode o ∧ t.on p Fd.HDR_LOCK_HELD = true ∧
        tabGet (dflt 0) t.lockAt p = s.raw ∧ pagesKept [p.val, Pg.SYS] s t) ∧
      (s.permits (ownerCode o) p = false → t.lockHolder p = s.lockHolder p ∧ t.on p Fd.HDR_PAGE_STAT_REFUSED = true ∧
        t.fld Pg.SYS (whole Rg.SYS_ACC_CNT) = satN 32 (s.fld Pg.SYS (whole Rg.SYS_ACC_CNT) + 1)) ∧
      (s.permits (ownerCode o) p = true → s.lockHolder p ≠ 0 → t.regs = s.regs) := by
  have hgo := (State.lockCmd_eq hr hp).trans (s.lockWrite_acquire o 0 p h0 h1)
  rw [State.permits_touch, State.lockHolder_touch] at hgo
  refine ⟨_, congrArg Host.Outcome.next hgo, fun hy hfree => ?_, fun hn => ?_, fun hy hheld => ?_⟩
  · rw [if_neg (by rw [hy]; decide), if_neg (not_not.2 hfree)]
    refine ⟨State.setLock_holder _ _ _ (ownerCode_lt o), ?_, ?_, s.setLock_pages o p _⟩
    · refine (State.setLock_held _ _ _).trans ?_
      rw [bne_iff_ne]
      exact ownerCode_ne_zero o
    · exact (tabGet_tabPut_same _ _ _ _).trans (State.touch_raw ..)
  · rw [if_pos (by rw [hn]; rfl)]
    obtain ⟨hholder, hflag, hcnt⟩ := (s.touch o p).refuse_lock o p
    exact ⟨hholder.trans (State.lockHolder_touch ..), hflag, hcnt.trans (by rw [State.touch_fld])⟩
  · rw [if_neg (by rw [hy]; decide), if_pos hheld]
    exact State.touch_regs ..

theorem locksAreReleased (o : Owner) (p : Fin 128) (w : Word) (s : State) (hr : s.reaches o p = true) (hp : (pageAt p).isSome = true)
    (h0 : wf w 0 1 = 0) (h1 : wf w 1 1 = 1) :
    ∃ t, exec (.lockRelease o p w) s = .next t ∧
      (s.lockHolder p = ownerCode o → t.lockHolder p = 0 ∧ t.on p Fd.HDR_LOCK_HELD = false ∧ pagesKept [p.val, Pg.SYS] s t) ∧
      (s.lockHolder p ≠ ownerCode o → t = s) := by
  have hgo := (State.lockCmd_eq hr hp).trans (s.lockWrite_release o 0 p h0 h1)
  refine ⟨_, congrArg Host.Outcome.next hgo, fun hy => ?_, fun hn => ?_⟩
  · rw [if_pos hy]
    exact ⟨State.setLock_holder _ _ _ (by decide), State.setLock_held _ _ _, s.setLock_pages o p 0⟩
  · rw [if_neg hn]
    exact State.touch_other hn

theorem locksOutOfReachStay (o : Owner) (p : Fin 128) (w : Word) (s : State) (h : s.reaches o p = false ∨ pageAt p = none) :
    exec (.lockAcquire o p w) s = .next s ∧ exec (.lockRelease o p w) s = .next s := by
  have hgo : s.lockCmd o p w = s := if_neg (by rcases h with h | h <;> rw [h] <;> simp)
  exact ⟨congrArg Host.Outcome.next hgo, congrArg Host.Outcome.next hgo⟩

/-! ### Locks broken (R619) -/

/-- A lock broken is the last revocation. -/
theorem State.breakLock_revokes {s : State} {p : Nat} (h : s.lockHolder p ≠ 0) : (s.breakLock p).rd Pg.SUPV1 Rg.SUPV1_LAST_REVOKE =
    BitVec.ofNat 32 (p % 65536 + 65536 * 7 + 2 ^ 20 * s.lockHolder p) := by
  unfold State.breakLock
  dsimp only
  rw [if_neg h]
  exact State.rd_wr_same ..

theorem locksTimeOut (p : Fin 128) (n : Nat) (s : State) :
    let lim := s.fld Pg.SUPV1 Fd.SUPV1_LOCK_TO_b0
    let due := tabGet (dflt 0) s.lockAt p + lim * 10 ^ 9 * 65536
    ∃ t, exec (.lockToExpiry p n) s = .next t ∧
      (lim = 0 ∨ (s.atNs n).raw < due ∨ s.lockHolder p = 0 → t = s.atNs n) ∧
      (lim ≠ 0 → due ≤ (s.atNs n).raw → s.lockHolder p ≠ 0 → t.lockHolder p = 0 ∧
        t.rd Pg.SUPV1 Rg.SUPV1_LAST_REVOKE = BitVec.ofNat 32 (p % 65536 + 65536 * 7 + 2 ^ 20 * s.lockHolder p)) := by
  intro lim due
  have hgo : (s.atNs n).lockExpiry p = if lim = 0 ∨ (s.atNs n).raw < due then s.atNs n else (s.atNs n).breakLock p := rfl
  refine ⟨_, congrArg Host.Outcome.next hgo, fun h => ?_, fun hlim hdue hheld => ?_⟩
  · by_cases hearly : lim = 0 ∨ (s.atNs n).raw < due
    · exact if_pos hearly
    · rw [if_neg hearly]
      exact State.breakLock_free ((or_assoc.2 h).resolve_left hearly)
  · rw [if_neg (not_or.2 ⟨hlim, Nat.not_lt.2 hdue⟩)]
    exact ⟨State.breakLock_holder .., State.breakLock_revokes hheld⟩

/-! ### Leases (R611) -/

theorem stagePages_pages : ∀ p ∈ stagePages, (pageAt p).isSome = true ∧ p ≠ Pg.PCIE ∧ p ≠ Pg.SUPV1 := by decide

theorem State.revoked_page {s : State} {a i r o : Nat} (h : a / 4096 ≠ Pg.PCIE) (k : a / 4096 ≠ Pg.SUPV1) : RegSame a s (s.revoked i r o) := by
  unfold State.revoked State.lastRevoke
  exact (State.wr_page k (by decide)).step ((State.bump_page k (by decide)).step ((State.irq_same h k).step (State.flag_same h k (by decide))))

/-- A stage's frames closed and its credits given back. -/
def State.leaseCut (s : State) (p : Nat) : State := (s.stageQueues p).foldl (fun (s : State) e => (s.closeFrame e.1).qReturn e.1 e.2) s

/-- The credits of the lines that a decoder holds are void. -/
def State.lineCreditsVoid (s : State) (p : Nat) : State :=
  if Pg.CP 0 ≤ p ∧ p < Pg.CP 16 then
    s.putIntk (p - Pg.CP 0) { s.intk (p - Pg.CP 0) with
      lines := (s.intk (p - Pg.CP 0)).lines.map fun l => { l with credit := l.credit.map fun c => (c.1, c.2.1, false) } }
  else s

/-- A stage that counts as being revoked. -/
def State.beingRevoked (s : State) (p : Nat) : State :=
  { s with revoking := insertBy id p s.revoking }.setFld Pg.SUPV1 Fd.SUPV1_STAT_DRAIN_ACTIVE 1

theorem State.leaseTimeout_eq {s : State} {p : Nat} (h : ¬(!s.on Pg.SUPV1 Fd.SUPV1_CTL_LEASE_EN || !stagePages.contains p || s.on p Fd.HDR_PAGE_STAT_BUSY) = true) :
    s.leaseTimeout p = ((((s.leaseCut p).lineCreditsVoid p).revoked p 0 0).softReset p).beingRevoked p := if_neg h

theorem State.leaseCut_regs (s : State) (p : Nat) : (s.leaseCut p).regs = s.regs :=
  foldl_kept State.regs (fun (s : State) (e : Nat × Nat) => (s.closeFrame e.1).qReturn e.1 e.2) (fun s e => (s.closeFrame_within e.1).regs_eq rfl) _ _

theorem State.lineCreditsVoid_regs (s : State) (p : Nat) : (s.lineCreditsVoid p).regs = s.regs := by
  unfold State.lineCreditsVoid
  split <;> rfl

theorem stageLeasesTimeOut (p : Fin 128) (s : State) :
    let idle := s.on Pg.SUPV1 Fd.SUPV1_CTL_LEASE_EN = false ∨ p.val ∉ stagePages ∨ s.on p Fd.HDR_PAGE_STAT_BUSY = true
    ∃ t, exec (.leaseTimeout p) s = .next t ∧ (idle → t = s) ∧
      (¬idle → p.val ∈ t.revoking ∧ t.on p Fd.HDR_PAGE_STAT_BUSY = true ∧ t.on Pg.SUPV1 Fd.SUPV1_STAT_DRAIN_ACTIVE = true) := by
  intro idle
  have hidle : (!s.on Pg.SUPV1 Fd.SUPV1_CTL_LEASE_EN || !stagePages.contains p.val || s.on p Fd.HDR_PAGE_STAT_BUSY) = true ↔ idle := by
    rw [Bool.or_eq_true, Bool.or_eq_true, Bool.not_eq_true', Bool.not_eq_true', ← Bool.not_eq_true (stagePages.contains _), List.contains_iff_mem, or_assoc]
  refine ⟨s.leaseTimeout p, rfl, fun h => if_pos (hidle.2 h), fun h => ?_⟩
  rw [State.leaseTimeout_eq fun hn => h (hidle.1 hn)]
  obtain ⟨-, hstage, hbusy⟩ := by simpa only [idle, not_or, not_not, Bool.not_eq_true, Bool.not_eq_false] using h
  obtain ⟨hpage, hpcie, hsupv⟩ := stagePages_pages p hstage
  have hrevoked : (((s.leaseCut p).lineCreditsVoid p).revoked p 0 0).on p Fd.HDR_PAGE_STAT_BUSY = false := by
    refine Eq.trans (RegSame.on (RegSame.step (State.revoked_page (by rwa [addr_page (by decide)]) (by rwa [addr_page (by decide)]))
      (.of_regs ((State.lineCreditsVoid_regs ..).trans (State.leaseCut_regs ..))))) hbusy
  obtain ⟨hreset, -⟩ := State.softReset_shows hpage hrevoked
  generalize State.softReset _ _ = x at hreset
  refine ⟨mem_insertBy .., ?_, State.on_one (by decide) (by decide)⟩
  exact (State.on_setFld_off _ _ (by decide) (by decide) (by decide)).trans hreset

/-! ### Leases of owners (R497, R611) -/

/-- Between two states every queue has the same credits. -/
def CredSame (s t : State) : Prop := ∀ q, (t.q q).creds = (s.q q).creds

theorem CredSame.of_queue {s t : State} (h : t.queue = s.queue) : CredSame s t := fun q => congrArg Queue.creds (State.q_of h q)

theorem CredSame.step {s t u : State} (k : CredSame t u) (h : CredSame s t) : CredSame s u := fun q => (k q).trans (h q)

theorem CredSame.setQ {s : State} {q : Nat} {v : Queue} (h : v.creds = (s.q q).creds) : CredSame s (s.setQ q v) := fun r => by
  unfold State.q State.setQ
  dsimp only
  rw [tabGet_tabPut]
  split
  · next hr => rw [hr]; exact h
  · rfl

theorem State.qLevelCheck_creds (s : State) (q : Nat) : CredSame s (s.qLevelCheck q) := by
  unfold State.qLevelCheck
  dsimp only
  split
  · refine CredSame.step (.of_queue ((State.showLevels_within _).queue_eq rfl)) ?_
    split
    · exact CredSame.setQ rfl
    · exact CredSame.step (.of_queue rfl) (CredSame.setQ rfl)
  · exact .of_queue rfl

theorem State.extPut_creds (s : State) (q : Nat) (w : QWord) : CredSame s (s.extPut q w) := by
  have hring : CredSame s (s.ringPut q ((s.q q).extHead + (s.q q).extLen) w) := .of_queue ((State.ringPut_within ..).queue_eq rfl)
  unfold State.extPut
  refine CredSame.step (.of_queue (State.bumpBy_queue ..)) (CredSame.step (CredSame.setQ ?_) hring)
  exact (hring q).symm

theorem State.qPut_creds (s : State) (q : Nat) (d : Word64) (tag : Nat) (sof eof : Bool) : CredSame s (s.qPut q d tag sof eof) := by
  have hflag : CredSame s (if tag = tagNotValid then s.flag Pg.QF Fd.QF_STAT_BAD_TAG else s) := by
    split
    · exact .of_queue (State.flag_queue ..)
    · exact .of_queue rfl
  unfold State.qPut
  extract_lets x w v y z
  have hy : CredSame x y := by
    unfold y
    split
    · exact State.extPut_creds x q w
    · exact CredSame.setQ rfl
  clear_value y
  exact (State.qLevelCheck_creds _ q).step (CredSame.step (CredSame.setQ (s := y) rfl) (hy.step hflag))

theorem State.logFrame_creds (s : State) (e : LogEntry) : CredSame s (s.logFrame e) := by
  unfold State.logFrame
  split
  · unfold State.qPutFrame
    exact List.foldlRecOn (motive := CredSame s) _ _ (.of_queue rfl) fun t ht x _ => CredSame.step (t.qPut_creds _ _ _ _ _) ht
  · exact .of_queue (State.flag_queue ..)

/-- An entry of the log uses no credit. -/
theorem State.putEntry_creds (s : State) (e : LogEntry) : CredSame s (s.putEntry e) := by
  unfold State.putEntry
  refine CredSame.step (State.logFrame_creds _ _) (.of_queue ?_)
  exact (State.logOver_within s).queue_eq rfl

theorem State.logMinor_creds (s : State) {c : ErrCode} (hc : c.cls ≠ 3) (page arg0 : Nat) : CredSame s (s.logErr c page arg0) := by
  have hclass : CredSame s (s.countClass c.cls) := .of_queue ((State.countClass_within ..).queue_eq rfl)
  unfold State.logErr
  dsimp only
  refine CredSame.step ?_ hclass
  generalize s.countClass c.cls = x
  split
  · split <;> exact .of_queue rfl
  · rw [if_neg fun h => hc h.1]
    refine CredSame.step ?_ (x.putEntry_creds ⟨0, c.code, c.cls, page, x.time, none, 0, arg0, 0⟩)
    split
    · exact .of_queue ((State.faultN_within ..).queue_eq rfl)
    · exact absurd ‹c.cls = 3› hc
    · exact .of_queue rfl

theorem ownerLeasesTimeOut (q : Fin 8192) (o : Owner) (s : State) :
    let idle := s.on Pg.SUPV1 Fd.SUPV1_CTL_LEASE_EN = false ∨ (s.q q).credOf (8 + ownerCode o) = 0
    ∃ t, exec (.hostLeaseTimeout q o) s = .next t ∧ (idle → t = s) ∧
      (¬idle → (t.q q).credOf (8 + ownerCode o) = 0 ∧
        t.rd Pg.SUPV1 Rg.SUPV1_LAST_REVOKE = BitVec.ofNat 32 (q % 65536 + 65536 * 3 + 2 ^ 20 * ownerCode o)) := by
  intro idle
  refine ⟨if s.on Pg.SUPV1 Fd.SUPV1_CTL_LEASE_EN then s.revokeHost q (ownerCode o) else s, rfl, fun h => ?_, fun h => ?_⟩
  · by_cases hen : s.on Pg.SUPV1 Fd.SUPV1_CTL_LEASE_EN = true
    · rw [if_pos hen]
      exact if_pos (h.resolve_left (by rw [hen]; decide))
    · exact if_neg hen
  · obtain ⟨hen, hcred⟩ := not_or.1 h
    have hgo : s.revokeHost q (ownerCode o) =
        ((s.qReturn q (8 + ownerCode o)).revoked q 3 (ownerCode o)).logErr Er.LEASE_REVOKED Pg.SUPV1 q := if_neg hcred
    rw [if_pos (Bool.not_eq_false _ ▸ hen), hgo]
    have hqueue : ((s.qReturn q (8 + ownerCode o)).revoked q 3 (ownerCode o)).q q = (s.q q).setCred (8 + ownerCode o) 0 :=
      (State.q_of ((State.revoked_within ..).queue_eq rfl) q).trans (State.q_setQ ..)
    refine ⟨?_, ?_⟩
    · have hcreds := State.logMinor_creds ((s.qReturn q (8 + ownerCode o)).revoked q 3 (ownerCode o)) (c := Er.LEASE_REVOKED) (by decide) Pg.SUPV1 q q
      unfold Queue.credOf at *
      rw [hcreds, hqueue]
      exact Queue.credOf_setCred ..
    · rw [(State.logMinor_same (not_logPage (by decide) (by decide) (by decide) (by decide)) (by decide)).rd]
      exact State.rd_wr_same ..

/-! ### The check of a reset stage (R612, R617) -/

theorem resetStagesAreChecked (p : Fin 128) (alive : Bool) (s : State) :
    ∃ t, exec (.stageResetCheck p alive) s = .next t ∧ (p.val ∉ s.revoking → t = s) ∧
      (p.val ∈ s.revoking → t.revoking = s.revoking.filter (· != p.val) ∧ t.dead = if alive then s.dead else insertBy id p.val s.dead) := by
  refine ⟨s.stageCheck p alive, rfl, fun h => if_pos ?_, fun h => ?_⟩
  · rw [Bool.not_eq_true', ← Bool.not_eq_true, List.contains_iff_mem]
    exact h
  · have hgo : s.stageCheck p alive = if alive then State.logErr { s with revoking := s.revoking.filter (· != p.val) } Er.STAGE_REVOKED Pg.SUPV1 p
        else State.logErr { s with revoking := s.revoking.filter (· != p.val), dead := insertBy id p.val s.dead } Er.STAGE_DEAD Pg.SUPV1 p :=
      if_neg (by rw [List.contains_iff_mem.2 h]; decide)
    rw [hgo]
    cases alive with
    | true => exact ⟨(State.logErr_within ..).revoking_eq rfl, (State.logErr_within ..).dead_eq rfl⟩
    | false => exact ⟨(State.logErr_within ..).revoking_eq rfl, (State.logErr_within ..).dead_eq rfl⟩

/-! ### Drains (R70, R615, R616) -/

/-- A drain that may end: with every stage empty and nothing being revoked it does. -/
def State.drainEnds (s : State) : State :=
  if s.earliest ≠ 7 ∨ !s.revoking.isEmpty then s
  else if (s.setFld Pg.SUPV1 Fd.SUPV1_STAT_DRAIN_ACTIVE 0).mode = .hold then
    (s.setFld Pg.SUPV1 Fd.SUPV1_STAT_DRAIN_ACTIVE 0).setFld Pg.SYS Fd.SYS_MODE_HOLD_CLEARABLE 1
  else s.setFld Pg.SUPV1 Fd.SUPV1_STAT_DRAIN_ACTIVE 0

theorem State.drainComplete_active {s : State} (h : s.on Pg.SUPV1 Fd.SUPV1_STAT_DRAIN_ACTIVE = true) :
    s.drainComplete = (if s.mode = .hold then s.flush (s.toSend .active + s.toSend .next) else s).drainEnds := if_neg (by rw [h]; decide)

theorem State.drainEnds_waits {s : State} (h : s.earliest ≠ 7 ∨ s.revoking ≠ []) : s.drainEnds = s :=
  if_pos (h.imp_right fun h => by rwa [Bool.not_eq_true', List.isEmpty_eq_false_iff])

theorem State.drainEnds_over {s : State} (h : s.earliest = 7) (hr : s.revoking = []) : s.drainEnds =
    if s.mode = .hold then (s.setFld Pg.SUPV1 Fd.SUPV1_STAT_DRAIN_ACTIVE 0).setFld Pg.SYS Fd.SYS_MODE_HOLD_CLEARABLE 1
    else s.setFld Pg.SUPV1 Fd.SUPV1_STAT_DRAIN_ACTIVE 0 := by
  have hmode : (s.setFld Pg.SUPV1 Fd.SUPV1_STAT_DRAIN_ACTIVE 0).mode = s.mode := State.mode_setFld_page _ _ _ _ (by decide)
  refine (if_neg (by rw [h, hr]; decide)).trans ?_
  rw [hmode]

theorem drainsComplete (s : State) :
    let active := s.on Pg.SUPV1 Fd.SUPV1_STAT_DRAIN_ACTIVE = true
    ∃ t, exec .drainComplete s = .next t ∧ (¬active → t = s) ∧
      (active → s.mode ≠ .hold → s.earliest ≠ 7 ∨ s.revoking ≠ [] → t = s) ∧
      (active → s.mode ≠ .hold → s.earliest = 7 → s.revoking = [] → t.on Pg.SUPV1 Fd.SUPV1_STAT_DRAIN_ACTIVE = false ∧
        regsKept [Pg.SUPV1 * 4096 + Rg.SUPV1_STAT] s t) ∧
      (active → s.mode = .hold → s.toSend .active + s.toSend .next = 0 → s.earliest = 7 → s.revoking = [] →
        t.on Pg.SUPV1 Fd.SUPV1_STAT_DRAIN_ACTIVE = false ∧ t.on Pg.SYS Fd.SYS_MODE_HOLD_CLEARABLE = true) := by
  intro active
  refine ⟨s.drainComplete, rfl, fun h => if_pos ?_, fun ha hm hwait => ?_, fun ha hm he hr => ?_, fun ha hm hsend he hr => ?_⟩
  · rw [Bool.not_eq_true']
    exact Bool.eq_false_iff.2 h
  · rw [State.drainComplete_active ha, if_neg hm, State.drainEnds_waits hwait]
  · rw [State.drainComplete_active ha, if_neg hm, State.drainEnds_over he hr, if_neg hm]
    exact ⟨State.on_zero (by decide), regsKept_one fun _ hb => State.setFld_same hb⟩
  · rw [State.drainComplete_active ha, if_pos hm, hsend, show s.flush 0 = s from rfl, State.drainEnds_over he hr, if_pos hm]
    refine ⟨?_, State.on_one (by decide) (by decide)⟩
    exact (State.on_setFld_off _ _ (by decide) (by decide) (by decide)).trans (State.on_zero (by decide))

/-- Settles O37: one lemma per command; `CredSame` says that an entry of the log uses no credit, so that the owner's stay returned. -/
theorem locksAndLeasesAreKept : Obligations.LocksAndLeasesAreKept :=
  ⟨locksAreAcquired, locksAreReleased, locksOutOfReachStay, locksTimeOut, stageLeasesTimeOut, ownerLeasesTimeOut, resetStagesAreChecked, drainsComplete⟩

end Sys2Proof.Machine
end

section
/-!
PROOFS. WCP: requests checked, executed once and answered (O36).
-/
namespace Sys2Proof.Machine

/-! ### A datagram of the WX16 itself (R553, R555) -/

theorem State.udpSend_netKept (s : State) (n ip sport dport : Nat) (data : List Byte) : s.NetKept (s.udpSend n ip sport dport data) := by
  have hhop := s.hopMac_netKept n ip
  unfold State.udpSend
  split
  · generalize s.hopMac n ip = r at hhop ⊢
    obtain ⟨x, mac⟩ := r
    cases mac with
    | none => exact hhop
    | some mac => exact State.NetKept.step (t := x) ⟨_, _, rfl⟩ hhop
  · exact .of_eq rfl

theorem State.NetKept.nonce {s t : State} (h : s.NetKept t) : t.net.nonce = s.net.nonce := by
  obtain ⟨a, b, ht⟩ := h
  rw [ht]

theorem State.NetKept.resp {s t : State} (h : s.NetKept t) : t.net.resp = s.net.resp := by
  obtain ⟨a, b, ht⟩ := h
  rw [ht]

theorem State.NetKept.wcpQ {s t : State} (h : s.NetKept t) : t.net.wcpQ = s.net.wcpQ := by
  obtain ⟨a, b, ht⟩ := h
  rw [ht]

theorem State.NetKept.wcpBusy {s t : State} (h : s.NetKept t) : t.net.wcpBusy = s.net.wcpBusy := by
  obtain ⟨a, b, ht⟩ := h
  rw [ht]

/-! ### Responses (R571) -/

/-- The response stored for the key of a request. -/
def State.wcpStored (s : State) (m : WcpMsg) : List Byte := tabGet (dflt []) s.net.resp m.keyId.val

theorem State.wcpReply_netKept (s : State) (m : WcpMsg) (l : List Byte) : s.NetKept (s.wcpReply m l) := State.udpSend_netKept ..

theorem wcpPort_page (m : WcpMsg) : Pg.NET ≠ Pg.ETH m.port ∧ Pg.SYS ≠ Pg.ETH m.port := by
  have := m.port.isLt
  unfold Pg.NET Pg.SYS Pg.ETH
  omega

theorem State.wcpReply_same {s : State} {m : WcpMsg} {l : List Byte} {p off : Nat} (hp : p ≠ Pg.ETH m.port) (h : off < 4096) :
    RegSame (p * 4096 + off) s (s.wcpReply m l) := (State.udpSend_sends ..).2 _ (by rwa [addr_page h])

/-- A response stored for the key of its request. -/
def State.wcpStore (s : State) (m : WcpMsg) (l : List Byte) : State :=
  { s with net := { s.net with resp := tabPut (dflt []) m.keyId.val l s.net.resp } }

theorem State.wcpAnswer_stores {s : State} {c : Nat} {m : WcpMsg} {a : WcpAns} (hc : c ≠ wcpHello) :
    s.wcpAnswer c m a = (s.wcpStore m (s.wcpBytes c m a)).wcpReply m (s.wcpBytes c m a) := by
  have hstore : (if c = wcpHello then s.drawn else s.wcpStore m (s.wcpBytes c m a)) = s.wcpStore m (s.wcpBytes c m a) := if_neg hc
  exact congrArg (fun t : State => t.wcpReply m (s.wcpBytes c m a)) hstore

/-- A request answered: the response is stored, and nothing else of WCP changes. -/
theorem State.wcpAnswer_answers (s : State) {c : Nat} (m : WcpMsg) (a : WcpAns) (hc : c ≠ wcpHello) :
    (s.wcpAnswer c m a).wcpStored m = s.wcpBytes c m a ∧ (s.wcpAnswer c m a).net.wcpBusy = s.net.wcpBusy ∧
      (s.wcpAnswer c m a).net.wcpQ = s.net.wcpQ := by
  rw [State.wcpAnswer_stores hc]
  have hkept := (s.wcpStore m (s.wcpBytes c m a)).wcpReply_netKept m (s.wcpBytes c m a)
  refine ⟨?_, hkept.wcpBusy, hkept.wcpQ⟩
  unfold State.wcpStored
  rw [hkept.resp]
  exact tabGet_tabPut_same _ _ _ _

theorem State.wcpAnswer_mem (s : State) (c : Nat) (m : WcpMsg) (a : WcpAns) : (s.wcpAnswer c m a).mem = s.mem :=
  (State.wcpAnswer_within ..).mem_eq rfl

theorem State.wcpAnswer_mode (s : State) {c : Nat} (m : WcpMsg) (a : WcpAns) (hc : c ≠ wcpHello) : (s.wcpAnswer c m a).mode = s.mode := by
  rw [State.wcpAnswer_stores hc]
  exact State.mode_of_regs (RegSame.step (State.wcpReply_same (wcpPort_page m).2 (by decide)) (.of_regs rfl))

/-- Under a loaded key the bytes of a response are a matter of the keys alone. -/
theorem State.wcpBytes_of {s t : State} {c : Nat} {m : WcpMsg} (a : WcpAns) (h : t.net.keys = s.net.keys) (hkey : (s.wcpKey m.keyId).isEmpty = false) :
    t.wcpBytes c m a = s.wcpBytes c m a := by
  have hsame : t.wcpKey m.keyId = s.wcpKey m.keyId := by
    unfold State.wcpKey
    rw [h]
  unfold State.wcpBytes
  dsimp only
  rw [hsame, hkey, if_neg Bool.false_ne_true, if_neg Bool.false_ne_true]

/-! ### Requests checked (R570, R571) -/

/-- The port, WCP, the frame and the MAC of a request are good. -/
def WcpReady (c : Nat) (m : WcpMsg) (s : State) : Prop := s.netOn = true ∧ s.on Pg.NET Fd.NET_CTL_WCP_EN = true ∧ s.ethUp m.port = true ∧
  s.wcpFramed m = true ∧ (c = wcpHello ∨ s.wcpMacOk c m = true)

/-- The last nonce of a request's key. -/
def wcpLast (m : WcpMsg) (s : State) : Nat := (tabGet (dflt none) s.net.nonce m.keyId.val).getD s.net.floor

/-- A fresh request: its nonce is the last one of its key, which has no response yet. -/
def wcpFresh (m : WcpMsg) (s : State) : State := State.bump { s with net := { s.net with
  nonce := tabPut (dflt none) m.keyId.val (some m.nonce) s.net.nonce, resp := tabPut (dflt []) m.keyId.val [] s.net.resp } } Pg.NET Fd.NET_WCP_CNT_b0

theorem WcpReady.key {c : Nat} {m : WcpMsg} {s : State} (h : WcpReady c m s) (hc : c ≠ wcpHello) : (s.wcpKey m.keyId).isEmpty = false := by
  obtain ⟨-, -, -, -, hmac⟩ := h
  have hgood := hmac.resolve_left hc
  unfold State.wcpMacOk at hgood
  rw [Bool.and_eq_true, Bool.not_eq_true'] at hgood
  exact hgood.1

theorem wcpFresh_off {m : WcpMsg} {s : State} {a : Nat} (h : a ≠ Pg.NET * 4096 + Rg.NET_WCP_CNT) : RegSame a s (wcpFresh m s) :=
  RegSame.step (State.bump_same h) (.of_regs rfl)

theorem wcpFresh_keys (m : WcpMsg) (s : State) : (wcpFresh m s).net.keys = s.net.keys := by
  unfold wcpFresh
  rw [State.bump_net]

theorem wcpFresh_mem (m : WcpMsg) (s : State) : (wcpFresh m s).mem = s.mem := by
  unfold wcpFresh
  rw [State.bump_mem]

theorem wcpFresh_mtu (m : WcpMsg) (s : State) (n : Nat) : (wcpFresh m s).mtu n = s.mtu n := by
  unfold State.mtu
  rw [(wcpFresh_off (addr_ne (by decide) (by decide) (by decide))).fld]

theorem State.wcpTake_off {s : State} {c : Nat} {m : WcpMsg} (h : s.netOn = false ∨ s.on Pg.NET Fd.NET_CTL_WCP_EN = false ∨ s.ethUp m.port = false) :
    s.wcpTake c m = s := by
  refine if_pos ?_
  rw [Bool.not_eq_true', Bool.and_eq_false_iff, Bool.and_eq_false_iff]
  exact or_assoc.2 h

/-- A request that fails is logged once in each second. -/
def State.wcpAuthLog (s : State) (sec : Nat) : State :=
  if s.net.authAt = sec then s else { s with net := { s.net with authAt := sec } }.logErr Er.WCP_AUTH Pg.NET

theorem State.wcpAuthLog_shows (s : State) (sec : Nat) : (s.wcpAuthLog sec).net.nonce = s.net.nonce ∧ (s.wcpAuthLog sec).net.wcpQ = s.net.wcpQ ∧
    (s.wcpAuthLog sec).fld Pg.NET Fd.NET_WCP_REJ_AUTH = s.fld Pg.NET Fd.NET_WCP_REJ_AUTH := by
  unfold State.wcpAuthLog
  split
  · exact ⟨rfl, rfl, rfl⟩
  · rw [(State.logErr_within ..).net_eq rfl, State.fld_logMinor_p (by decide) (by decide) (by decide) (by decide) (by decide)]
    exact ⟨rfl, rfl, rfl⟩

theorem State.wcpTake_wrong {s : State} {c : Nat} {m : WcpMsg} (h1 : s.netOn = true) (h2 : s.on Pg.NET Fd.NET_CTL_WCP_EN = true)
    (h3 : s.ethUp m.port = true) (h : s.wcpFramed m = false ∨ (c ≠ wcpHello ∧ s.wcpMacOk c m = false)) :
    s.wcpTake c m = (s.bump Pg.NET Fd.NET_WCP_REJ_AUTH).wcpAuthLog ((s.bump Pg.NET Fd.NET_WCP_REJ_AUTH).rawNs / 10 ^ 9 + 1) := by
  refine (if_neg ?_).trans (if_pos ?_)
  · rw [h1, h2, h3]
    decide
  · rw [Bool.not_eq_true', Bool.and_eq_false_iff, Bool.or_eq_false_iff, beq_eq_false_iff_ne]
    exact h

/-- A request that fails its checks is counted. -/
theorem State.wcpTake_counts {s : State} {c : Nat} {m : WcpMsg} (h1 : s.netOn = true) (h2 : s.on Pg.NET Fd.NET_CTL_WCP_EN = true)
    (h3 : s.ethUp m.port = true) (h : s.wcpFramed m = false ∨ (c ≠ wcpHello ∧ s.wcpMacOk c m = false)) :
    (s.wcpTake c m).net.nonce = s.net.nonce ∧ (s.wcpTake c m).net.wcpQ = s.net.wcpQ ∧
      (s.wcpTake c m).fld Pg.NET Fd.NET_WCP_REJ_AUTH = satN Fd.NET_WCP_REJ_AUTH.len (s.fld Pg.NET Fd.NET_WCP_REJ_AUTH + 1) := by
  have hcnt := State.fld_bump s Pg.NET Fd.NET_WCP_REJ_AUTH (by decide)
  have hnet := State.bump_net s Pg.NET Fd.NET_WCP_REJ_AUTH
  obtain ⟨hnonce, hheld, hrej⟩ := (s.bump Pg.NET Fd.NET_WCP_REJ_AUTH).wcpAuthLog_shows ((s.bump Pg.NET Fd.NET_WCP_REJ_AUTH).rawNs / 10 ^ 9 + 1)
  rw [State.wcpTake_wrong h1 h2 h3 h]
  exact ⟨hnonce.trans (congrArg Net.nonce hnet), hheld.trans (congrArg Net.wcpQ hnet), hrej.trans hcnt⟩

theorem State.wcpTake_ready {s : State} {c : Nat} {m : WcpMsg} (h : WcpReady c m s) (hb : s.net.wcpBusy = none) : s.wcpTake c m = s.wcpRun c m := by
  obtain ⟨hnet, hen, hup, hframe, hmac⟩ := h
  rw [State.wcpTake_good hnet hen hup hframe hmac, hb]
  rfl

/-- A replay is counted and answered, its nonce not taken. -/
theorem State.wcpRun_replay {s : State} {c : Nat} {m : WcpMsg} (hc : c ≠ wcpHello) (h : m.nonce < wcpLast m s) : s.wcpRun c m =
    (s.bump Pg.NET Fd.NET_WCP_REJ_REPLAY).wcpReply m ((s.bump Pg.NET Fd.NET_WCP_REJ_REPLAY).wcpBytes c m wcpReplay) :=
  (if_neg hc).trans ((if_neg fun hlast => absurd hlast.1 (Nat.ne_of_lt h)).trans (if_pos (Nat.le_of_lt h)))

/-- The requests of WCP by their CMD values. -/
def wcpRequests (m : WcpMsg) : List (Nat × Instr) :=
  [(wcpHello, Instr.wcpHello m), (wcpRegRead, .wcpRegRead m),
    (wcpRegWrite, .wcpRegWrite m), (wcpJobCmd, .wcpJobCmd m), (wcpModeCmd, .wcpModeCmd m), (wcpBulkWrite, .wcpBulkWrite m),
    (wcpBulkRead, .wcpBulkRead m), (wcpBulkCrc, .wcpBulkCrc m)]

theorem wcpRequest_exec {c : Nat} {i : Instr} {m : WcpMsg} (s : State) (h : (c, i) ∈ wcpRequests m) : exec i s = .next (s.wcpTake c m) := by
  simp only [wcpRequests, List.mem_cons, Prod.mk.injEq, List.not_mem_nil, or_false] at h
  rcases h with ⟨rfl, rfl⟩ | ⟨rfl, rfl⟩ | ⟨rfl, rfl⟩ | ⟨rfl, rfl⟩ | ⟨rfl, rfl⟩ | ⟨rfl, rfl⟩ | ⟨rfl, rfl⟩ | ⟨rfl, rfl⟩ <;> rfl

theorem requestsAreChecked (m : WcpMsg) (c : Nat) (i : Instr) (s : State) (hi : (c, i) ∈ wcpRequests m) :
    ∃ t, exec i s = .next t ∧
      (s.netOn = false ∨ s.on Pg.NET Fd.NET_CTL_WCP_EN = false ∨ s.ethUp m.port = false → t = s) ∧
      (s.netOn = true → s.on Pg.NET Fd.NET_CTL_WCP_EN = true → s.ethUp m.port = true →
        s.wcpFramed m = false ∨ (c ≠ wcpHello ∧ s.wcpMacOk c m = false) → t.net.nonce = s.net.nonce ∧ t.net.wcpQ = s.net.wcpQ ∧
          t.fld Pg.NET Fd.NET_WCP_REJ_AUTH = satN Fd.NET_WCP_REJ_AUTH.len (s.fld Pg.NET Fd.NET_WCP_REJ_AUTH + 1)) ∧
      (WcpReady c m s → s.net.wcpBusy.isSome = true → t.net.nonce = s.net.nonce ∧
        (s.net.wcpQ.length < 16 → t.net.wcpQ = s.net.wcpQ ++ [(c, m)]) ∧
        (16 ≤ s.net.wcpQ.length → t = s.bump Pg.NET Fd.NET_WCP_CNT_b16)) ∧
      (WcpReady c m s → s.net.wcpBusy = none → c ≠ wcpHello → m.nonce < wcpLast m s → t.net.nonce = s.net.nonce ∧ t.net.resp = s.net.resp ∧
        t.fld Pg.NET Fd.NET_WCP_REJ_REPLAY = satN Fd.NET_WCP_REJ_REPLAY.len (s.fld Pg.NET Fd.NET_WCP_REJ_REPLAY + 1)) := by
  refine ⟨_, wcpRequest_exec s hi, fun h => State.wcpTake_off h, fun h1 h2 h3 h => State.wcpTake_counts h1 h2 h3 h, fun hready hbusy => ?_,
    fun hready hbusy hc hold => ?_⟩
  · obtain ⟨hnet, hen, hup, hframe, hmac⟩ := hready
    rw [State.wcpTake_good hnet hen hup hframe hmac, if_pos hbusy]
    by_cases hroom : s.net.wcpQ.length < 16
    · rw [if_pos hroom]
      exact ⟨rfl, fun _ => rfl, fun hfull => absurd hroom (Nat.not_lt.2 hfull)⟩
    · rw [if_neg hroom]
      exact ⟨congrArg Net.nonce (State.bump_net ..), fun h => absurd h hroom, fun _ => rfl⟩
  · rw [State.wcpTake_ready hready hbusy, State.wcpRun_replay hc hold]
    have hcnt := State.fld_bump s Pg.NET Fd.NET_WCP_REJ_REPLAY (by decide)
    have hnet := State.bump_net s Pg.NET Fd.NET_WCP_REJ_REPLAY
    generalize s.bump Pg.NET Fd.NET_WCP_REJ_REPLAY = x at hcnt hnet
    have hkept := x.wcpReply_netKept m (x.wcpBytes c m wcpReplay)
    refine ⟨hkept.nonce.trans (congrArg Net.nonce hnet), hkept.resp.trans (congrArg Net.resp hnet), ?_⟩
    rw [(State.wcpReply_same (wcpPort_page m).1 (by decide)).fld]
    exact hcnt

theorem hellosAreCounted (m : WcpMsg) (s : State) (h : WcpReady wcpHello m s) (hb : s.net.wcpBusy = none) :
    ∃ t, exec (.wcpHello m) s = .next t ∧ t.net.nonce = s.net.nonce ∧ t.free = s.free + 1 ∧
      t.fld Pg.NET Fd.NET_WCP_CNT_b0 = satN 16 (s.fld Pg.NET Fd.NET_WCP_CNT_b0 + 1) := by
  refine ⟨s.wcpTake wcpHello m, rfl, ?_⟩
  have hcnt := State.fld_bump s Pg.NET Fd.NET_WCP_CNT_b0 (by decide)
  have hnet := State.bump_net s Pg.NET Fd.NET_WCP_CNT_b0
  have hfree := State.bump_free s Pg.NET Fd.NET_WCP_CNT_b0
  obtain ⟨l, hrun⟩ : ∃ l, s.wcpRun wcpHello m = ((s.bump Pg.NET Fd.NET_WCP_CNT_b0).drawn).wcpReply m l := ⟨_, rfl⟩
  rw [State.wcpTake_ready h hb, hrun]
  generalize s.bump Pg.NET Fd.NET_WCP_CNT_b0 = x at hcnt hnet hfree
  refine ⟨(State.wcpReply_netKept ..).nonce.trans (congrArg Net.nonce hnet), ?_, ?_⟩
  · rw [(State.wcpReply_within ..).free_eq rfl]
    exact congrArg (· + 1) hfree
  · rw [(State.wcpReply_same (wcpPort_page m).1 (by decide)).fld]
    exact hcnt

/-! ### Register access (R572) -/

theorem State.wcpTake_fresh {s : State} {c : Nat} {m : WcpMsg} (h : WcpReady c m s) (hb : s.net.wcpBusy = none) (hc : c ≠ wcpHello)
    (hn : wcpLast m s < m.nonce) : s.wcpTake c m = if c = wcpRegRead then ((wcpFresh m s).wcpRead m).1.wcpAnswer c m ((wcpFresh m s).wcpRead m).2
      else if c = wcpRegWrite then ((wcpFresh m s).wcpWrite m).1.wcpAnswer c m ((wcpFresh m s).wcpWrite m).2
      else if c = wcpJobCmd ∨ c = wcpModeCmd then (match (wcpFresh m s).wcpStart c m with
        | (y, some a) => y.wcpAnswer c m a
        | (y, none) => { y with net := { y.net with wcpBusy := some (c, m) } })
      else ((wcpFresh m s).wcpBulk c m).1.wcpAnswer c m ((wcpFresh m s).wcpBulk c m).2 := by
  rw [State.wcpTake_ready h hb]
  exact State.wcpRun_fresh hc hn rfl

/-- A fresh request whose command changes nothing is answered in the state that it found. -/
theorem wcpFresh_answered {c : Nat} {m : WcpMsg} {s : State} (a : WcpAns) (h : WcpReady c m s) (hc : c ≠ wcpHello) :
    ((wcpFresh m s).wcpAnswer c m a).wcpStored m = s.wcpBytes c m a ∧ ((wcpFresh m s).wcpAnswer c m a).mem = s.mem :=
  ⟨((wcpFresh m s).wcpAnswer_answers m a hc).1.trans (State.wcpBytes_of a (wcpFresh_keys m s) (h.key hc)),
    (State.wcpAnswer_mem ..).trans (wcpFresh_mem m s)⟩

theorem registersAreRead (m : WcpMsg) (s : State) (h : WcpReady wcpRegRead m s) (hb : s.net.wcpBusy = none) (hn : wcpLast m s < m.nonce) :
    let x := wcpFresh m s
    let r := x.readWords .net m.arg0 m.arg1
    let form := m.arg0 % 4 = 0 ∧ 1 ≤ m.arg1 ∧ m.arg1 ≤ 256 ∧ 4 * m.arg1 ≤ s.mtu m.port - 76
    ∃ t, exec (.wcpRegRead m) s = .next t ∧
      (¬form → t.wcpStored m = s.wcpBytes wcpRegRead m wcpFormat ∧ t.mem = s.mem) ∧
      (form → (inBar0 m.arg0 && inBar0 (m.arg0 + 4 * m.arg1 - 4)) = false → t.wcpStored m = s.wcpBytes wcpRegRead m wcpRange ∧ t.mem = s.mem) ∧
      (form → (inBar0 m.arg0 && inBar0 (m.arg0 + 4 * m.arg1 - 4)) = true →
        t.wcpStored m = r.1.wcpBytes wcpRegRead m { wcpOk with payload := wordBytes r.2 } ∧ t.mem = r.1.mem) := by
  intro x r form
  have hgo : s.wcpTake wcpRegRead m = (x.wcpRead m).1.wcpAnswer wcpRegRead m (x.wcpRead m).2 :=
    (State.wcpTake_fresh h hb (by decide) hn).trans (if_pos rfl)
  have hform : (m.arg0 % 4 ≠ 0 ∨ m.arg1 = 0 ∨ 256 < m.arg1 ∨ x.mtu m.port - 76 < 4 * m.arg1) ↔ ¬form := by
    rw [show x.mtu m.port = s.mtu m.port from wcpFresh_mtu ..]
    show _ ↔ ¬(m.arg0 % 4 = 0 ∧ 1 ≤ m.arg1 ∧ m.arg1 ≤ 256 ∧ 4 * m.arg1 ≤ s.mtu m.port - 76)
    omega
  refine ⟨s.wcpTake wcpRegRead m, rfl, fun hf => ?_, fun hf hrange => ?_, fun hf hrange => ?_⟩
  · have hread : x.wcpRead m = (x, wcpFormat) := if_pos (hform.2 hf)
    rw [hgo, hread]
    exact wcpFresh_answered _ h (by decide)
  · have hread : x.wcpRead m = (x, wcpRange) := (if_neg fun hbad => hform.1 hbad hf).trans (if_pos (by rw [hrange]; rfl))
    rw [hgo, hread]
    exact wcpFresh_answered _ h (by decide)
  · have hread : x.wcpRead m = (r.1, { wcpOk with payload := wordBytes r.2 }) :=
      (if_neg fun hbad => hform.1 hbad hf).trans (if_neg (by rw [hrange]; decide))
    rw [hgo, hread]
    exact ⟨(State.wcpAnswer_answers _ _ _ (by decide)).1, State.wcpAnswer_mem ..⟩

theorem registersAreWritten (m : WcpMsg) (s : State) (h : WcpReady wcpRegWrite m s) (hb : s.net.wcpBusy = none) (hn : wcpLast m s < m.nonce) :
    let x := wcpFresh m s
    let r := x.writeWords .net m.keyId m.arg0 ((List.range m.arg1).map fun i => leWord m.payload i)
    let form := m.arg0 % 4 = 0 ∧ 1 ≤ m.arg1 ∧ m.arg1 ≤ 256 ∧ m.payload.length = 4 * m.arg1
    ∃ t, exec (.wcpRegWrite m) s = .next t ∧
      (¬form → t.wcpStored m = s.wcpBytes wcpRegWrite m wcpFormat ∧ t.mem = s.mem) ∧
      (form → (inBar0 m.arg0 && inBar0 (m.arg0 + 4 * m.arg1 - 4)) = true →
        t.wcpStored m = r.1.wcpBytes wcpRegWrite m { (if r.2 = m.arg1 then wcpOk else wcpGuarded) with arg1 := r.2 } ∧ t.mem = r.1.mem) := by
  intro x r form
  have hgo : s.wcpTake wcpRegWrite m = (x.wcpWrite m).1.wcpAnswer wcpRegWrite m (x.wcpWrite m).2 :=
    (State.wcpTake_fresh h hb (by decide) hn).trans ((if_neg (by decide)).trans (if_pos rfl))
  have hform : (m.arg0 % 4 ≠ 0 ∨ m.arg1 = 0 ∨ 256 < m.arg1 ∨ m.payload.length ≠ 4 * m.arg1) ↔ ¬form := by
    show _ ↔ ¬(m.arg0 % 4 = 0 ∧ 1 ≤ m.arg1 ∧ m.arg1 ≤ 256 ∧ m.payload.length = 4 * m.arg1)
    omega
  refine ⟨s.wcpTake wcpRegWrite m, rfl, fun hf => ?_, fun hf hrange => ?_⟩
  · have hwrite : x.wcpWrite m = (x, wcpFormat) := if_pos (hform.2 hf)
    rw [hgo, hwrite]
    exact wcpFresh_answered _ h (by decide)
  · have hwrite : x.wcpWrite m = (r.1, { (if r.2 = m.arg1 then wcpOk else wcpGuarded) with arg1 := r.2 }) :=
      (if_neg fun hbad => hform.1 hbad hf).trans (if_neg (by rw [hrange]; decide))
    rw [hgo, hwrite]
    exact ⟨(State.wcpAnswer_answers _ _ _ (by decide)).1, State.wcpAnswer_mem ..⟩

/-! ### Job and mode commands (R572) -/

/-- A command in progress noted. -/
def State.wcpPending (s : State) (c : Nat) (m : WcpMsg) : State := { s with net := { s.net with wcpBusy := some (c, m) } }

theorem State.wcpPending_mode (s : State) (c : Nat) (m : WcpMsg) : (s.wcpPending c m).mode = s.mode := rfl

theorem State.wcpTake_started {s y : State} {c : Nat} {m : WcpMsg} {a : WcpAns} (h : WcpReady c m s) (hb : s.net.wcpBusy = none)
    (hn : wcpLast m s < m.nonce) (hc : c = wcpJobCmd ∨ c = wcpModeCmd) (hstart : (wcpFresh m s).wcpStart c m = (y, some a)) :
    s.wcpTake c m = y.wcpAnswer c m a := by
  have hne : c ≠ wcpHello ∧ c ≠ wcpRegRead ∧ c ≠ wcpRegWrite := by rcases hc with rfl | rfl <;> decide
  obtain ⟨h0, h1, h2⟩ := hne
  rw [State.wcpTake_fresh h hb h0 hn, if_neg h1, if_neg h2, if_pos hc, hstart]

theorem State.wcpTake_pends {s y : State} {c : Nat} {m : WcpMsg} (h : WcpReady c m s) (hb : s.net.wcpBusy = none)
    (hn : wcpLast m s < m.nonce) (hc : c = wcpJobCmd ∨ c = wcpModeCmd) (hstart : (wcpFresh m s).wcpStart c m = (y, none)) :
    s.wcpTake c m = y.wcpPending c m := by
  have hne : c ≠ wcpHello ∧ c ≠ wcpRegRead ∧ c ≠ wcpRegWrite := by rcases hc with rfl | rfl <;> decide
  obtain ⟨h0, h1, h2⟩ := hne
  rw [State.wcpTake_fresh h hb h0 hn, if_neg h1, if_neg h2, if_pos hc, hstart]
  rfl

theorem wcpFresh_access (m : WcpMsg) (s : State) : (wcpFresh m s).access .net Pg.SYS = s.access .net Pg.SYS := by
  have hsame (off : Nat) (h : off < 4096) : RegSame (Pg.SYS * 4096 + off) s (wcpFresh m s) :=
    wcpFresh_off (ne_of_page (by rw [addr_page h]; decide) (by decide))
  unfold State.access State.reaches State.permits State.lockHolder
  dsimp only
  rw [State.mode_of_regs (hsame _ (by decide)), RegSame.on (hsame _ (by decide)), RegSame.on (hsame _ (by decide)), RegSame.fld (hsame _ (by decide))]

theorem wcpFresh_free_access {m : WcpMsg} {s : State} (h : s.access .net Pg.SYS = .granted) :
    ((wcpFresh m s).access .net Pg.SYS == .guard || (wcpFresh m s).access .net Pg.SYS == .lock) = false := by
  rw [wcpFresh_access, h]
  rfl

theorem jobCommandsStart (m : WcpMsg) (s : State) (h : WcpReady wcpJobCmd m s) (hb : s.net.wcpBusy = none) (hn : wcpLast m s < m.nonce)
    (ha : s.access .net Pg.SYS = .granted) :
    let x := wcpFresh m s
    let w : Word := BitVec.ofNat 32 m.arg0
    let y := x.jobCtl .net w
    ∃ t, exec (.wcpJobCmd m) s = .next t ∧ t.mem = y.mem ∧ t.jobN = y.jobN ∧ t.valJob = y.valJob ∧
      (x.jobCmdOk w = true → t.net.wcpBusy = some (wcpJobCmd, m)) ∧
      (x.jobCmdOk w = false → t.wcpStored m = y.wcpBytes wcpJobCmd m { wcpRefused with arg0 := y.wcpShows wcpJobCmd }) := by
  intro x w y
  have hstart : x.wcpStart wcpJobCmd m = (y, if (x.access .net Pg.SYS == .guard || x.access .net Pg.SYS == .lock) = true then some wcpGuarded
      else if x.jobCmdOk w then none else some { wcpRefused with arg0 := y.wcpShows wcpJobCmd }) := by
    unfold State.wcpStart
    dsimp only
    rw [if_pos rfl]
  rw [if_neg (by rw [wcpFresh_free_access ha]; decide)] at hstart
  refine ⟨s.wcpTake wcpJobCmd m, rfl, ?_⟩
  cases hok : x.jobCmdOk w with
  | true =>
    rw [hok, if_pos rfl] at hstart
    rw [State.wcpTake_pends h hb hn (.inl rfl) hstart]
    exact ⟨rfl, rfl, rfl, fun _ => rfl, fun hno => absurd hno (by decide)⟩
  | false =>
    rw [hok, if_neg Bool.false_ne_true] at hstart
    rw [State.wcpTake_started h hb hn (.inl rfl) hstart]
    exact ⟨State.wcpAnswer_mem .., (State.wcpAnswer_within ..).jobN_eq rfl, (State.wcpAnswer_within ..).valJob_eq rfl,
      fun hno => absurd hno (by decide), fun _ => (State.wcpAnswer_answers _ _ _ (by decide)).1⟩

/-- REFUSAL is a field of its own beside the mode. -/
theorem State.refusal_mode (s : State) (k : Nat) : (s.refusal k).mode = s.mode :=
  congrArg Mode.ofCode (State.fld_setFld_p (p := Pg.SYS) (f := Fd.SYS_MODE_REFUSAL) (g := Fd.SYS_MODE_MODE) (by decide) (by decide))

theorem modeCommandsStart (m : WcpMsg) (s : State) (h : WcpReady wcpModeCmd m s) (hb : s.net.wcpBusy = none) (hn : wcpLast m s < m.nonce)
    (ha : s.access .net Pg.SYS = .granted) :
    let y := ((wcpFresh m s).refusal 0).modeReq .net (wfSet (BitVec.ofNat 32 m.arg0) 8 1 1)
    ∃ t, exec (.wcpModeCmd m) s = .next t ∧ t.mode = y.mode ∧
      (y.fld Pg.SYS Fd.SYS_MODE_REFUSAL = 0 → t.net.wcpBusy = some (wcpModeCmd, m)) ∧
      (y.fld Pg.SYS Fd.SYS_MODE_REFUSAL ≠ 0 → t.wcpStored m = y.wcpBytes wcpModeCmd m { wcpRefused with arg0 := y.wcpShows wcpModeCmd }) := by
  intro y
  have hstart : (wcpFresh m s).wcpStart wcpModeCmd m =
      if (s.access .net Pg.SYS == .guard || s.access .net Pg.SYS == .lock) = true then (y, some wcpGuarded)
      else if y.fld Pg.SYS Fd.SYS_MODE_REFUSAL = 0 then (y.refusal ((wcpFresh m s).fld Pg.SYS Fd.SYS_MODE_REFUSAL), none)
      else (y, some { wcpRefused with arg0 := y.wcpShows wcpModeCmd }) := by
    rw [← wcpFresh_access m s]
    unfold State.wcpStart
    dsimp only
    rw [if_neg (show wcpModeCmd ≠ wcpJobCmd by decide)]
  rw [ha, if_neg (by decide)] at hstart
  refine ⟨s.wcpTake wcpModeCmd m, rfl, ?_⟩
  by_cases hok : y.fld Pg.SYS Fd.SYS_MODE_REFUSAL = 0
  · rw [if_pos hok] at hstart
    rw [State.wcpTake_pends h hb hn (.inr rfl) hstart]
    rw [State.wcpPending_mode, State.refusal_mode]
    exact ⟨rfl, fun _ => rfl, fun hno => absurd hok hno⟩
  · rw [if_neg hok] at hstart
    rw [State.wcpTake_started h hb hn (.inr rfl) hstart]
    exact ⟨State.wcpAnswer_mode _ _ _ (by decide), fun hno => absurd hno hok, fun _ => (State.wcpAnswer_answers _ _ _ (by decide)).1⟩

/-! ### The command in progress answered (R572) -/

theorem State.wcpDrain_idle {s : State} (h : s.net.wcpQ = []) (n : Nat) : s.wcpDrain n = s := by
  cases n with
  | zero => rfl
  | succ n =>
    unfold State.wcpDrain
    rw [h]
    split <;> rfl

/-- The command in progress answered, with no request held behind it. -/
theorem State.wcpDone_shows (s : State) {c : Nat} (m : WcpMsg) (a : WcpAns) (hc : c ≠ wcpHello) (hq : s.net.wcpQ = []) :
    (((State.wcpAnswer { s with net := { s.net with wcpBusy := none } } c m a).wcpDrain 16).net.wcpBusy = none) ∧
      ((State.wcpAnswer { s with net := { s.net with wcpBusy := none } } c m a).wcpDrain 16).wcpStored m = s.wcpBytes c m a := by
  obtain ⟨hstored, hbusy, hheld⟩ := State.wcpAnswer_answers { s with net := { s.net with wcpBusy := none } } m a hc
  rw [State.wcpDrain_idle (hheld.trans hq)]
  exact ⟨hbusy, hstored⟩

theorem commandInProgressIsAnswered (c : Nat) (m : WcpMsg) (late : Bool) (s : State) (hb : s.net.wcpBusy = some (c, m)) (hq : s.net.wcpQ = [])
    (hc : c ≠ wcpHello) :
    ∃ t, exec (.wcpCmdResponse late) s = .next t ∧
      (s.wcpFinished c m = true → t.net.wcpBusy = none ∧ t.wcpStored m = s.wcpBytes c m { wcpOk with arg0 := s.wcpShows c }) ∧
      (s.wcpFinished c m = false → late = true → t.net.wcpBusy = none ∧ t.wcpStored m = s.wcpBytes c m { wcpIsBusy with arg0 := s.wcpShows c }) ∧
      (s.wcpFinished c m = false → late = false → t = s) := by
  refine ⟨_, congrArg Host.Outcome.next (State.wcpFinish_eq hb), fun hf => ?_, fun hf hl => ?_, fun hf hl => ?_⟩
  · rw [if_pos hf]
    exact s.wcpDone_shows m _ hc hq
  · rw [if_neg (by rw [hf]; decide), if_pos hl]
    exact s.wcpDone_shows m _ hc hq
  · rw [if_neg (by rw [hf]; decide), if_neg (by rw [hl]; decide)]

/-! ### Bulk commands (R573) -/

theorem State.wcpTake_bulk {s : State} {c : Nat} {m : WcpMsg} (h : WcpReady c m s) (hb : s.net.wcpBusy = none) (hn : wcpLast m s < m.nonce)
    (hc : c = wcpBulkWrite ∨ c = wcpBulkRead ∨ c = wcpBulkCrc) :
    s.wcpTake c m = ((wcpFresh m s).wcpBulk c m).1.wcpAnswer c m ((wcpFresh m s).wcpBulk c m).2 := by
  have hne : c ≠ wcpHello ∧ c ≠ wcpRegRead ∧ c ≠ wcpRegWrite ∧ ¬(c = wcpJobCmd ∨ c = wcpModeCmd) := by rcases hc with rfl | rfl | rfl <;> decide
  obtain ⟨h0, h1, h2, h3⟩ := hne
  rw [State.wcpTake_fresh h hb h0 hn, if_neg h1, if_neg h2, if_neg h3]

theorem wcpFresh_rd (m : WcpMsg) (s : State) {off : Nat} (h : off ≠ Rg.NET_WCP_CNT) : (wcpFresh m s).rd Pg.NET off = s.rd Pg.NET off :=
  (wcpFresh_off (off_ne h)).rd

theorem wcpFresh_window (m : WcpMsg) (s : State) (a n : Nat) : (wcpFresh m s).inReadWindow a n = s.inReadWindow a n := by
  unfold State.inReadWindow
  rw [wcpFresh_rd m s (by decide), wcpFresh_rd m s (by decide)]

theorem State.bulkBytes_read {s : State} {a n : Nat} {l : List Byte} (h : (s.memRead 3 a n).2 = some l) : s.bulkBytes a n = ((s.memRead 3 a n).1, l) := by
  unfold State.bulkBytes
  generalize s.memRead 3 a n = r at h ⊢
  obtain ⟨y, b⟩ := r
  dsimp only at h
  rw [h]

/-- What a bulk command answers in a state with the same keys. -/
theorem bulkAnswered {c : Nat} {m : WcpMsg} {s y : State} (a : WcpAns) (h : WcpReady c m s) (hc : c ≠ wcpHello) (hkeys : y.net = (wcpFresh m s).net) :
    (y.wcpAnswer c m a).wcpStored m = s.wcpBytes c m a :=
  (y.wcpAnswer_answers m a hc).1.trans (State.wcpBytes_of a ((congrArg Net.keys hkeys).trans (wcpFresh_keys m s)) (h.key hc))

theorem bulkWritesStore (m : WcpMsg) (s : State) (hb : s.net.wcpBusy = none) (hn : wcpLast m s < m.nonce) (h : WcpReady wcpBulkWrite m s) :
    ∃ t, exec (.wcpBulkWrite m) s = .next t ∧
      (m.payload.length % 8 ≠ 0 → t.wcpStored m = s.wcpBytes wcpBulkWrite m wcpFormat ∧ t.mem = s.mem) ∧
      (m.payload.length % 8 = 0 →
        inUnits (s.rd Pg.NET Rg.NET_BULK_BASE).toNat (s.rd Pg.NET Rg.NET_BULK_SIZE).toNat m.arg2 m.payload.length = true →
        t.mem = ((wcpFresh m s).hostWrite 3 m.arg2 m.payload).mem ∧ t.wcpStored m = s.wcpBytes wcpBulkWrite m wcpOk) ∧
      (m.payload.length % 8 = 0 →
        inUnits (s.rd Pg.NET Rg.NET_BULK_BASE).toNat (s.rd Pg.NET Rg.NET_BULK_SIZE).toNat m.arg2 m.payload.length = false →
        t.mem = s.mem ∧ t.wcpStored m = s.wcpBytes wcpBulkWrite m wcpRange) := by
  have hbulk : (wcpFresh m s).wcpBulk wcpBulkWrite m = if m.payload.length % 8 ≠ 0 then (wcpFresh m s, wcpFormat)
      else if inUnits (s.rd Pg.NET Rg.NET_BULK_BASE).toNat (s.rd Pg.NET Rg.NET_BULK_SIZE).toNat m.arg2 m.payload.length then
        ((wcpFresh m s).hostWrite 3 m.arg2 m.payload, wcpOk)
      else (wcpFresh m s, wcpRange) := by
    rw [← wcpFresh_rd m s (off := Rg.NET_BULK_BASE) (by decide), ← wcpFresh_rd m s (off := Rg.NET_BULK_SIZE) (by decide)]
    exact if_pos rfl
  refine ⟨_, congrArg Host.Outcome.next (State.wcpTake_bulk h hb hn (.inl rfl)), fun hlen => ?_, fun hlen hin => ?_, fun hlen hin => ?_⟩
  · rw [hbulk, if_pos hlen]
    exact wcpFresh_answered _ h (by decide)
  · rw [hbulk, if_neg (not_not.2 hlen), if_pos hin]
    exact ⟨State.wcpAnswer_mem .., bulkAnswered _ h (by decide) ((State.hostWrite_within ..).net_eq rfl)⟩
  · rw [hbulk, if_neg (not_not.2 hlen), if_neg (by rw [hin]; decide)]
    exact (wcpFresh_answered _ h (by decide)).symm

theorem bulkReadsAnswer (m : WcpMsg) (s : State) (hb : s.net.wcpBusy = none) (hn : wcpLast m s < m.nonce) (h : WcpReady wcpBulkRead m s) :
    ∃ t, exec (.wcpBulkRead m) s = .next t ∧
      (s.mtu m.port - 76 < m.arg1 → t.wcpStored m = s.wcpBytes wcpBulkRead m wcpFormat) ∧
      (m.arg1 ≤ s.mtu m.port - 76 → s.inReadWindow m.arg2 m.arg1 = false → t.wcpStored m = s.wcpBytes wcpBulkRead m wcpRange) ∧
      (∀ l, m.arg1 ≤ s.mtu m.port - 76 → s.inReadWindow m.arg2 m.arg1 = true → ((wcpFresh m s).memRead 3 m.arg2 m.arg1).2 = some l →
        t.wcpStored m = s.wcpBytes wcpBulkRead m { wcpOk with payload := l }) := by
  have hbulk : (wcpFresh m s).wcpBulk wcpBulkRead m = if s.mtu m.port - 76 < m.arg1 then (wcpFresh m s, wcpFormat)
      else if s.inReadWindow m.arg2 m.arg1 then
        (((wcpFresh m s).bulkBytes m.arg2 m.arg1).1, { wcpOk with payload := ((wcpFresh m s).bulkBytes m.arg2 m.arg1).2 })
      else (wcpFresh m s, wcpRange) := by
    rw [← wcpFresh_mtu m s, ← wcpFresh_window m s]
    exact (if_neg (by decide)).trans (if_pos rfl)
  refine ⟨_, congrArg Host.Outcome.next (State.wcpTake_bulk h hb hn (.inr (.inl rfl))), fun hlen => ?_, fun hlen hin => ?_, fun l hlen hin hl => ?_⟩
  · rw [hbulk, if_pos hlen]
    exact (wcpFresh_answered _ h (by decide)).1
  · rw [hbulk, if_neg (Nat.not_lt.2 hlen), if_neg (by rw [hin]; decide)]
    exact (wcpFresh_answered _ h (by decide)).1
  · rw [hbulk, if_neg (Nat.not_lt.2 hlen), if_pos hin, State.bulkBytes_read hl]
    exact bulkAnswered _ h (by decide) ((State.memRead_within ..).net_eq rfl)

theorem bulkCrcsAnswer (m : WcpMsg) (s : State) (hb : s.net.wcpBusy = none) (hn : wcpLast m s < m.nonce) (h : WcpReady wcpBulkCrc m s) :
    ∃ t, exec (.wcpBulkCrc m) s = .next t ∧
      (s.inReadWindow m.arg2 m.arg1 = false → t.wcpStored m = s.wcpBytes wcpBulkCrc m wcpRange) ∧
      (∀ l, s.inReadWindow m.arg2 m.arg1 = true → ((wcpFresh m s).memRead 3 m.arg2 m.arg1).2 = some l →
        t.wcpStored m = s.wcpBytes wcpBulkCrc m { wcpOk with arg0 := crc32c l }) := by
  have hbulk : (wcpFresh m s).wcpBulk wcpBulkCrc m = if s.inReadWindow m.arg2 m.arg1 then
        (((wcpFresh m s).bulkBytes m.arg2 m.arg1).1, { wcpOk with arg0 := crc32c ((wcpFresh m s).bulkBytes m.arg2 m.arg1).2 })
      else (wcpFresh m s, wcpRange) := by
    rw [← wcpFresh_window m s]
    exact (if_neg (by decide)).trans (if_neg (by decide))
  refine ⟨_, congrArg Host.Outcome.next (State.wcpTake_bulk h hb hn (.inr (.inr rfl))), fun hin => ?_, fun l hin hl => ?_⟩
  · rw [hbulk, if_neg (by rw [hin]; decide)]
    exact (wcpFresh_answered _ h (by decide)).1
  · rw [hbulk, if_pos hin, State.bulkBytes_read hl]
    exact bulkAnswered _ h (by decide) ((State.memRead_within ..).net_eq rfl)

/-- Settles O36: a request's checks, then one lemma per command; `State.wcpAnswer_answers` says once what an answer changes. -/
theorem wcpRequestsAreCheckedExecutedAndAnswered : Obligations.WcpRequestsAreCheckedExecutedAndAnswered :=
  ⟨requestsAreChecked, hellosAreCounted, registersAreRead, registersAreWritten, jobCommandsStart, modeCommandsStart, commandInProgressIsAnswered,
    fun m s hb hn => ⟨bulkWritesStore m s hb hn, bulkReadsAnswer m s hb hn, bulkCrcsAnswer m s hb hn⟩⟩

end Sys2Proof.Machine
end
